-- ==== Sys2Proof/Word.lean ====
section
/-! DEFINITION. The words, bytes and index types of the device, and the constants of its timeline (R6 to R11). -/

namespace Sys2Proof

/-- A register's word, a TL value or any 64-bit quantity of the spec. -/
abbrev Word := BitVec 64

/-- One byte. -/
abbrev Byte := BitVec 8

/-- A-link port L(n), n = 0 to 95. -/
abbrev Port := Fin 96
/-- Antenna group g = 0 to 11. -/
abbrev Group := Fin 12
/-- Quadrant q = 0 to 3. -/
abbrev Quad := Fin 4
/-- Churn unit u = 0 to 15. -/
abbrev ChUnit := Fin 16
/-- Vat bank b = 0 to 15. -/
abbrev Bank := Fin 16
/-- Pail p = 0 to 16,383. -/
abbrev Pail := Fin 16384
/-- Slice s = 0 to 1,023. -/
abbrev Slice := Fin 1024
/-- DMA channel c = 0 to 4,095. -/
abbrev Chan := Fin 4096
/-- Host link m = 4 × port + link, 0 to 31. -/
abbrev HLink := Fin 32
/-- Host port p = 0 to 7. -/
abbrev HPort := Fin 8
/-- Cloton port x = 0 to 3. -/
abbrev ClPort := Fin 4

end Sys2Proof
end

