-- ==== Sys2Proof/Syntax.lean ====
section
/-! DEFINITION. The commands of the device: one constructor of `Instr` for each row of spec/opcode_table.json, with the
facts from outside that the row's step needs as its operands (95_what_each_step_holds.md says what belongs to a step). -/

namespace Sys2Proof

/-- The carrier of an Umger command (R377): the ring of the manager link, or MCTP on the sideband. -/
inductive Carrier where
  | ring | sideband
  deriving DecidableEq, Repr

/-- Who makes a register access: a host link, or an Umger carrier (R88). -/
inductive Master where
  | link (m : HLink)
  | um (c : Carrier)
  deriving DecidableEq, Repr

/-- The header facts of an Umger command packet that its execution needs (R384, R386). -/
structure UmHdr where
  carrier : Carrier
  seq     : Nat          -- command sequence number
  flags   : Nat          -- FLAGS byte of the packet
  gen     : Nat          -- GEN field of the packet
  slice   : Nat          -- SLICE field of the packet
  eid     : Nat          -- requesting MCTP endpoint, for the sideband (R383)
  tag     : Nat          -- its message tag
  deriving DecidableEq, Repr

/-- Status of a PCI Express completion delivered to the device (R206, R207). -/
inductive CplStatus where
  | sc | ur | ca | ep
  deriving DecidableEq, Repr

/-- An error that an access to a store meets (R170, R185, R186): where the word lies, its syndrome, and whether it is
uncorrectable. In a block that is read, word 0 and 1 are the header's and 2 + i payload word i. In a block that is written,
the words are those of the rows that the write reads, from the first row's first word; an error named on the block's first
or last word is one of a word that the write covers in part. -/
structure EccHit where
  pail : Nat       -- the block's pail, or the store: see `weightHit`, `storeHit` and `shadowHit`
  word : Nat
  synd : Nat
  unc  : Bool
  deriving DecidableEq, Repr

/-- The place of an error in the weight half that a pass reads. -/
def weightHit : Nat := 16384
/-- The place of an error in store `x` of VAT_STx: 0 descriptor and context, 1 read-return, 2 Creamery, 3 Cooler, 4 trouble
log (R193). -/
def storeHit (x : Nat) : Nat := 16385 + x
/-- The place of an error in the shadow half of group `g`, which its window shows. -/
def shadowHit (g : Nat) : Nat := 16400 + g

/-- A release that the hold policy holds: that of a tx pail's oldest held block, or a channel's (R69, R70). -/
inductive HeldRef where
  | tx (p : Pail)
  | dma (c : Chan)
  deriving DecidableEq, Repr

/-- A link of the device with the A-link's lane signalling, frames and training: an A-link port or a Cloton port (R408,
R409). -/
inductive LinkEnd where
  | al (n : Port)
  | cl (x : ClPort)
  deriving DecidableEq, Repr

/-- Where an SPDM message comes from: a link's DOE mailbox, or MCTP on the sideband (R526). -/
inductive SpdmSrc where
  | doe (m : HLink)
  | mctp (eid tag : Nat)
  deriving DecidableEq, Repr

/-- What a presence probe of a port's lanes finds (R261): termination on none, on some or on all of them. -/
inductive Found where
  | none | some | all
  deriving DecidableEq, Repr

/-- The commands. -/
inductive Instr where
  /-- AON_POWER_ON (R35). -/
  | aonPowerOn
  /-- BROWNOUT (R469). -/
  | brownout (rail : Fin 7) (mv : Nat)
  /-- RESET_N_ACCEPTED (R491). -/
  | resetNAccepted
  /-- RESET_N_RELEASE (R490). -/
  | resetNRelease
  /-- CREAMERY_WATCHDOG_EXPIRY (R486). -/
  | creameryWatchdogExpiry
  /-- CRITICAL_STATE_ERROR (R542). -/
  | criticalStateError (detail : Byte)
  /-- RESET_SWITCHES_OPEN (R488). -/
  | resetSwitchesOpen
  /-- HELD_EXIT (R490). -/
  | heldExit
  /-- STRAP_COMPLETE (R497). -/
  | strapComplete (c0 c1 c2 c3 : Fin 64)
  /-- BRINGUP_ROW_RELEASE (R499). -/
  | bringupRowRelease (copy0 copy1 : List Byte)
  /-- BOOT_SOURCE_FAIL (R502). -/
  | bootSourceFail (status : Byte)
  /-- FIRMWARE_VERIFIED (R515). -/
  | firmwareVerified (image : List Byte)
  /-- READY_ENTRY (R501). -/
  | readyEntry (fuseV : Bool)
  /-- REF_DECLARED_ABSENT (R51). -/
  | refDeclaredAbsent
  /-- REF_DECLARED_PRESENT (R51). -/
  | refDeclaredPresent
  /-- PLL_LOCK_ACQUIRED (R55). -/
  | pllLockAcquired
  /-- PLL_LOCK_LOST (R55). -/
  | pllLockLost
  /-- PPS_EDGE (R62). -/
  | ppsEdge (frac : Fin 65536)
  /-- PPS_MISS (R62). -/
  | ppsMiss
  /-- TL_STATE_CHANGE (R64). -/
  | tlStateChange
  /-- TL_SET_TIMEOUT (R67). -/
  | tlSetTimeout
  /-- TL_CTRL_INVALIDATE (R63). -/
  | tlCtrlInvalidate
  /-- TL_CTRL_CLR_STR (R77). -/
  | tlCtrlClrStr
  /-- ALARM_FIRE (R82). -/
  | alarmFire (a : Fin 4)
  /-- ALARM_WAKE_START (R84). -/
  | alarmWakeStart (a : Fin 4)
  /-- AON_RATIO_MEASURE (R85). -/
  | aonRatioMeasure (ratio : BitVec 32)
  /-- STRETCH_EPISODE_START (R76). -/
  | stretchEpisodeStart (quads : Fin 32)
  /-- STRETCH_EPISODE_END (R76). -/
  | stretchEpisodeEnd
  /-- PORT_CALIBRATION (R73). -/
  | portCalibration (g : Group) (meas : List (Nat × Nat))
  /-- ALINK_TX_READ (R27). -/
  | alinkTxRead (p : Pail) (hits : List EccHit)
  /-- RELEASE_MISSED_DEADLINE (R28). -/
  | releaseMissedDeadline (p : Pail)
  /-- HELD_RELEASE_TIMEOUT (R70). -/
  | heldReleaseTimeout (r : HeldRef)
  /-- ALINK_SLOT_SEND (R243). -/
  | alinkSlotSend (n : Port)
  /-- CHURN_UPLINK_PASS_START (R139). -/
  | churnUplinkPassStart (u : ChUnit) (k : Fin 16)
  /-- CHURN_DOWNLINK_PASS_START (R138). -/
  | churnDownlinkPassStart (u : ChUnit) (k : Fin 16)
  /-- CHURN_PASS_COMMIT (R136). -/
  | churnPassCommit (u : ChUnit) (arr : Fin 2) (hits : List EccHit)
  /-- CH_PARITY_ERROR (R135). -/
  | chParityError (u : ChUnit)
  /-- WEIGHT_WINDOW_WRITE (R150). -/
  | weightWindowWrite (m : HLink) (g : Group) (off : Nat) (data : List (Option Byte)) (hits : List EccHit := [])
  /-- WB_CTRL_SYNC (R154). -/
  | wbCtrlSync (g : Group)
  /-- WB_SYNC_COMPLETE (R154). -/
  | wbSyncComplete (g : Group)
  /-- WB_CTRL_RESTORE (R160). -/
  | wbCtrlRestore (g : Group)
  /-- WB_RESTORE_COMPLETE (R160). -/
  | wbRestoreComplete (g : Group)
  /-- WB_RESTORE_EXCHANGE (R160). -/
  | wbRestoreExchange (g : Group)
  /-- WEIGHT_LOCK_END (R153). -/
  | weightLockEnd (g : Group)
  /-- WEIGHT_ZEROING_COMPLETE (R158). -/
  | weightZeroingComplete (u : ChUnit)
  /-- SPARE_CTRL_GO (R163). -/
  | spareCtrlGo (q : Quad) (v : BitVec 32)
  /-- SPARE_PREPARATION_DONE (R164). -/
  | sparePreparationDone (q : Quad)
  /-- SPARE_SWITCH (R165). -/
  | spareSwitch (q : Quad)
  /-- SPARE_COUNTER_MERGE (R166). -/
  | spareCounterMerge (q : Quad)
  /-- SPARE_CTRL_REINSTATE (R167). -/
  | spareCtrlReinstate (q : Quad) (v : BitVec 32)
  /-- REINSTATE_TEST_DONE (R167). -/
  | reinstateTestDone (q : Quad) (pass : Bool)
  /-- BLOCK_HEADER_ARRIVAL (R177). -/
  | blockHeaderArrival (p : Pail)
  /-- BLOCK_COMMIT (R177). -/
  | blockCommit (p : Pail) (hits : List EccHit)
  /-- BANK_INIT_COMPLETE (R183). -/
  | bankInitComplete (b : Bank)
  /-- VAT_RPR_REQ (R189). -/
  | vatRprReq (v : BitVec 32)
  /-- REMAP_APPLY (R190). -/
  | remapApply (b : Bank)
  /-- DMA_START (R222). -/
  | dmaStart (c : Chan)
  /-- DMA_STOP_REQ (R215). -/
  | dmaStopReq (c : Chan)
  /-- DMA_CANCEL (R216). -/
  | dmaCancel (c : Chan)
  /-- DMA_CLR_ERR (R216). -/
  | dmaClrErr (c : Chan)
  /-- DMA_CHAIN_START (R201). -/
  | dmaChainStart (c : Chan) (hits : List EccHit := [])
  /-- DMA_RELEASE_TEST (R203). -/
  | dmaReleaseTest (c : Chan)
  /-- DMA_ROOM_READY (R205). -/
  | dmaRoomReady (c : Chan)
  /-- DMA_REQUEST_ISSUE (R212). -/
  | dmaRequestIssue (m : HLink) (hits : List EccHit)
  /-- DMA_READ_COMPLETION (R206). -/
  | dmaReadCompletion (c : Chan) (off : Nat) (st : CplStatus) (data : List Byte)
  /-- DMA_READ_TIMEOUT (R207). -/
  | dmaReadTimeout (c : Chan)
  /-- DMA_RECORD_WRITE (R219). -/
  | dmaRecordWrite (c : Chan)
  /-- DMA_RETIRE (R220). -/
  | dmaRetire (c : Chan)
  /-- DMA_FETCH (R217). -/
  | dmaFetch (c : Chan)
  /-- DMA_FETCH_COMPLETE (R217). -/
  | dmaFetchComplete (c : Chan) (st : CplStatus) (image : List Byte)
  /-- DMA_MISS_MASTER (R223). -/
  | dmaMissMaster (c : Chan)
  /-- FRAME_RECEIVE (R236). -/
  | frameReceive (e : LinkEnd) (half : Fin 2) (ago : Nat) (hdr : Word) (cells : List (List Word)) (errs : List Nat)
  /-- CREDIT (R248). -/
  | credit (n : Port) (w : Word)
  /-- LEDGER (R250). -/
  | ledger (n : Port) (w : Word)
  /-- CRESYNC (R251). -/
  | cresync (n : Port) (w : Word)
  /-- ACK (R253). -/
  | ack (e : LinkEnd) (w : Word)
  /-- DLY_RSP (R256). -/
  | dlyRsp (e : LinkEnd) (w : Word) (ago : Nat)
  /-- EPOCH (R264). -/
  | epoch (n : Port) (w : Word)
  /-- LE_TOD (R258). -/
  | leTod (n : Port) (w : Word) (ago : Nat)
  /-- STATUS (R263). -/
  | status (n : Port) (w : Word)
  /-- SPARE_READY (R259). -/
  | spareReady (e : LinkEnd) (w : Word)
  /-- LANE_SWAP (R259). -/
  | laneSwap (e : LinkEnd)
  /-- SPARE_ABORT_TIMEOUT (R259). -/
  | spareAbortTimeout (e : LinkEnd)
  /-- AUDIT_LATE (R250). -/
  | auditLate (n : Port)
  /-- REPLAY_TIMEOUT (R253). -/
  | replayTimeout (e : LinkEnd)
  /-- CALIBRATION_REQUEST (R256). -/
  | calibrationRequest (n : Port)
  /-- DLY_RSP_MISSING (R257). -/
  | dlyRspMissing (e : LinkEnd)
  /-- AL_CTRL_RETRAIN (R262). -/
  | alCtrlRetrain (n : Port)
  /-- PRESENCE_PROBE (R261). -/
  | presenceProbe (e : LinkEnd) (found : Found)
  /-- RECEIVER_LOCK (R254). -/
  | receiverLock (e : LinkEnd)
  /-- FRAME_LOCK (R254). -/
  | frameLock (e : LinkEnd)
  /-- CFG_DONE (R254). -/
  | cfgDone (e : LinkEnd)
  /-- CALIBRATE_COMPLETE (R254). -/
  | calibrateComplete (e : LinkEnd)
  /-- TRAINING_TIMEOUT (R254). -/
  | trainingTimeout (e : LinkEnd)
  /-- TRAINING_RETRY (R254). -/
  | trainingRetry (e : LinkEnd)
  /-- RECOVERED_CLOCK_LOSS (R262). -/
  | recoveredClockLoss (e : LinkEnd) (lane : Fin 4)
  /-- INHIBIT_MUTE_CHECK (R263). -/
  | inhibitMuteCheck (n : Port)
  /-- HOST_BAR4_WRITE (R274). -/
  | hostBar4Write (m : HLink) (off : Nat) (data : List (Option Byte))
  /-- HOST_BAR4_READ (R275). -/
  | hostBar4Read (m : HLink) (off : Nat) (en : List Bool)
  /-- HOST_READ_TIMEOUT (R275). -/
  | hostReadTimeout (n : Port) (tag : Nat)
  /-- CPL (R275). -/
  | cpl (n : Port) (w : Word) (data : Word)
  /-- ERR (R275). -/
  | err (n : Port) (w : Word)
  /-- RETRY (R241). -/
  | retry (n : Port) (w : Word)
  /-- WR (R276). -/
  | wr (n : Port) (w : Word) (addr : Word) (data : Word)
  /-- RD (R277). -/
  | rd (n : Port) (w : Word) (addr : Word)
  /-- BRIDGE_FETCH_COMPLETE (R280). -/
  | bridgeFetchComplete (n : Port) (fetch : Nat) (st : CplStatus) (data : List Byte)
  /-- BRIDGE_HOLD_EXPIRY (R280). -/
  | bridgeHoldExpiry (n : Port) (tag : Nat)
  /-- PERST_N_ASSERT (R306). -/
  | perstNAssert (p : HPort)
  /-- PERST_N_DEASSERT (R306). -/
  | perstNDeassert (p : HPort) (refclk : Bool)
  /-- HOT_RESET (R307). -/
  | hotReset (m : HLink) (disabled : Bool)
  /-- HL_PORT_RETRAIN (R307). -/
  | hlPortRetrain (p : HPort)
  /-- FLR (R308). -/
  | flr (m : HLink)
  /-- FLR_COMPLETE (R308). -/
  | flrComplete (m : HLink)
  /-- CONFIG_REQUEST (R295). -/
  | configRequest (m : HLink) (off : Nat) (write : Bool) (v : BitVec 32) (be : Fin 16)
  /-- BUS_MASTER_ENABLE_CLEAR (R310). -/
  | busMasterEnableClear (m : HLink)
  /-- BUS_MASTER_ENABLE_SET (R224). -/
  | busMasterEnableSet (m : HLink)
  /-- MEMORY_SPACE_ENABLE_CHANGE (R311). -/
  | memorySpaceEnableChange (m : HLink) (on : Bool)
  /-- D_STATE_CHANGE (R312). -/
  | dStateChange (m : HLink) (d3 : Bool)
  /-- HOST_LINK_UP (R317). -/
  | hostLinkUp (m : HLink) (width rate : Nat) (flit : Bool)
  /-- HOST_LINK_DOWN (R317). -/
  | hostLinkDown (m : HLink)
  /-- HOST_LINK_RATE_WIDTH_CHANGE (R211). -/
  | hostLinkRateWidthChange (m : HLink) (width rate : Nat)
  /-- L0P_NARROWING (R313). -/
  | l0pNarrowing (m : HLink) (width : Nat) (partner : Bool)
  /-- L1_REQUEST (R314). -/
  | l1Request (m : HLink)
  /-- L1_EXIT_START (R315). -/
  | l1ExitStart (m : HLink)
  /-- ATS_INVALIDATION_REQUEST (R301). -/
  | atsInvalidationRequest (m : HLink) (itag pasid : Nat) (addr : Word) (size : Nat)
  /-- ATS_INVALIDATION_COMPLETE (R301). -/
  | atsInvalidationComplete (m : HLink)
  /-- DOE_OBJECT (R302). -/
  | doeObject (m : HLink) (obj : List Byte)
  /-- BAR0_ACCESS (R320). -/
  | bar0Access (m : HLink) (off len : Nat) (write : Bool) (data : List (Option Byte)) (hits : List EccHit := [])
  /-- BAR2_ACCESS (R324). -/
  | bar2Access (m : HLink) (off len : Nat) (write tee : Bool) (data : List (Option Byte))
  /-- EXPANSION_ROM_READ (R325). -/
  | expansionRomRead (m : HLink) (off len : Nat)
  /-- POSTED_WRITE_POISONED (R346). -/
  | postedWritePoisoned (m : HLink)
  /-- UNEXPECTED_COMPLETION (R346). -/
  | unexpectedCompletion (m : HLink)
  /-- MSIX_SEND (R336). -/
  | msixSend (m : HLink)
  /-- MSIX_TABLE_WRITE (R333). -/
  | msixTableWrite (m : HLink) (off : Nat) (v : Word) (len : Nat)
  /-- EV_INJECT (R345). -/
  | evInject (v : BitVec 32)
  /-- ALERT_N_RELEASE (R343). -/
  | alertNRelease
  /-- SL_DBIN (R365). -/
  | slDbin (sl : Slice) (v : BitVec 32)
  /-- SL_DBOUT_ACK (R366). -/
  | slDboutAck (sl : Slice)
  /-- SL_CTRL_FENCE (R371). -/
  | slCtrlFence (sl : Slice) (on : Bool)
  /-- SL_CTRL_KILL (R372). -/
  | slCtrlKill (sl : Slice)
  /-- UM_SQ_TAIL_WRITE (R380). -/
  | umSqTailWrite (v : BitVec 32)
  /-- UM_PACKET_EXECUTE (R385). -/
  | umPacketExecute (fuseV : Bool) (hits : List EccHit := [])
  /-- UM_REPLY_POST (R381). -/
  | umReplyPost (c : Carrier)
  /-- UM_RQ_HEAD_WRITE (R381). -/
  | umRqHeadWrite (v : BitVec 32)
  /-- UM_CTRL_RESET (R382). -/
  | umCtrlReset
  /-- MCTP_MESSAGE (R383). -/
  | mctpMessage (eid tag : Nat) (bytes : List (BitVec 8))
  /-- SET_ENDPOINT_ID (R383). -/
  | setEndpointId (eid tag inst : Nat) (p : List (BitVec 8))
  /-- GET_ENDPOINT_ID (R383). -/
  | getEndpointId (eid tag inst : Nat) (p : List (BitVec 8))
  /-- GET_MCTP_VERSION_SUPPORT (R383). -/
  | getMctpVersionSupport (eid tag inst : Nat) (p : List (BitVec 8))
  /-- GET_MESSAGE_TYPE_SUPPORT (R383). -/
  | getMessageTypeSupport (eid tag inst : Nat) (p : List (BitVec 8))
  /-- GET_VENDOR_DEFINED_MESSAGE_SUPPORT (R383). -/
  | getVendorDefinedMessageSupport (eid tag inst : Nat) (p : List (BitVec 8))
  /-- PLDM_FIRMWARE_DATA (R505). -/
  | pldmFirmwareData (eid : Nat) (piece : List (BitVec 8))
  /-- IDENTIFY (R401). -/
  | identify (h : UmHdr) (p : List Byte)
  /-- PING (R401). -/
  | ping (h : UmHdr) (p : List Byte)
  /-- RT_READ (R401). -/
  | rtRead (h : UmHdr) (p : List Byte)
  /-- MGR_LINK_SET (R401). -/
  | mgrLinkSet (h : UmHdr) (p : List Byte)
  /-- GEN_OPEN (R389). -/
  | genOpen (h : UmHdr) (p : List Byte)
  /-- GEN_ABORT (R389). -/
  | genAbort (h : UmHdr) (p : List Byte)
  /-- REG_WRITE (R401). -/
  | regWrite (h : UmHdr) (p : List Byte) (hits : List EccHit := [])
  /-- REG_READ (R401). -/
  | regRead (h : UmHdr) (p : List Byte) (hits : List EccHit := [])
  /-- COMMIT_AT (R392). -/
  | commitAt (h : UmHdr) (p : List Byte)
  /-- COMMIT_CHECKS_COMPLETE (R392). -/
  | commitChecksComplete
  /-- GEN_TAKES_EFFECT (R393). -/
  | genTakesEffect
  /-- GEN_CANCEL (R396). -/
  | genCancel (h : UmHdr) (p : List Byte)
  /-- GEN_STATUS (R401). -/
  | genStatus (h : UmHdr) (p : List Byte)
  /-- GEN_DUMP (R401). -/
  | genDump (h : UmHdr) (p : List Byte)
  /-- STAGED_PARITY (R543). -/
  | stagedParity (k : Nat)
  /-- TL_SET (R67). -/
  | tlSet (h : UmHdr) (p : List Byte)
  /-- TL_GET (R401). -/
  | tlGet (h : UmHdr) (p : List Byte)
  /-- TL_ALARM_SET (R401). -/
  | tlAlarmSet (h : UmHdr) (p : List Byte)
  /-- AL_RETRAIN (R401). -/
  | alRetrain (h : UmHdr) (p : List Byte)
  /-- AL_STATUS (R401). -/
  | alStatus (h : UmHdr) (p : List Byte)
  /-- AL_SPARE (R401). -/
  | alSpare (h : UmHdr) (p : List Byte)
  /-- AL_CAL (R401). -/
  | alCal (h : UmHdr) (p : List Byte)
  /-- AL_LEDGER (R401). -/
  | alLedger (h : UmHdr) (p : List Byte)
  /-- WB_WRITE (R401). -/
  | wbWrite (h : UmHdr) (p : List Byte) (hits : List EccHit := [])
  /-- WB_READ (R401). -/
  | wbRead (h : UmHdr) (p : List Byte) (hits : List EccHit := [])
  /-- WB_SYNC (R154). -/
  | wbSync (h : UmHdr) (p : List Byte)
  /-- WB_RESTORE (R160). -/
  | wbRestore (h : UmHdr) (p : List Byte)
  /-- SPARE_GO (R163). -/
  | spareGo (h : UmHdr) (p : List Byte)
  /-- SPARE_REINSTATE (R167). -/
  | spareReinstate (h : UmHdr) (p : List Byte)
  /-- CH_COUNTERS (R401). -/
  | chCounters (h : UmHdr) (p : List Byte)
  /-- SLICE_BIND (R350). -/
  | sliceBind (h : UmHdr) (p : List Byte)
  /-- SLICE_UNBIND (R401). -/
  | sliceUnbind (h : UmHdr) (p : List Byte)
  /-- SLICE_FENCE (R371). -/
  | sliceFence (h : UmHdr) (p : List Byte)
  /-- SLICE_KILL (R372). -/
  | sliceKill (h : UmHdr) (p : List Byte)
  /-- MBOX_GET (R365). -/
  | mboxGet (h : UmHdr) (p : List Byte)
  /-- MBOX_PUT (R366). -/
  | mboxPut (h : UmHdr) (p : List Byte)
  /-- SLICE_STATUS (R401). -/
  | sliceStatus (h : UmHdr) (p : List Byte)
  /-- DMA_WHEEL_SET (R401). -/
  | dmaWheelSet (h : UmHdr) (p : List Byte)
  /-- DMA_OWN_SET (R401). -/
  | dmaOwnSet (h : UmHdr) (p : List Byte)
  /-- DMA_STGQ_SET (R401). -/
  | dmaStgqSet (h : UmHdr) (p : List Byte)
  /-- DMA_CHAN_READ (R401). -/
  | dmaChanRead (h : UmHdr) (p : List Byte)
  /-- DMA_CHAN_CTRL (R401). -/
  | dmaChanCtrl (h : UmHdr) (p : List Byte)
  /-- MODE_SET (R35). -/
  | modeSet (h : UmHdr) (p : List Byte)
  /-- DRAIN_COMPLETE (R40). -/
  | drainComplete
  /-- DRAIN_LIMIT_EXPIRY (R40). -/
  | drainLimitExpiry
  /-- MODE_GET (R401). -/
  | modeGet (h : UmHdr) (p : List Byte)
  /-- PW_VOTE (R445). -/
  | pwVote (h : UmHdr) (p : List Byte)
  /-- PW_STATUS (R401). -/
  | pwStatus (h : UmHdr) (p : List Byte)
  /-- DOZE_CFG (R466). -/
  | dozeCfg (h : UmHdr) (p : List Byte)
  /-- TW_ROLE_SET (R404). -/
  | twRoleSet (h : UmHdr) (p : List Byte)
  /-- TW_SWITCHOVER (R429). -/
  | twSwitchover (h : UmHdr) (p : List Byte)
  /-- SWITCHOVER_HANDOFF (R429). -/
  | switchoverHandoff
  /-- TW_STATUS (R401). -/
  | twStatus (h : UmHdr) (p : List Byte)
  /-- HERD_ADDR_SET (R432). -/
  | herdAddrSet (h : UmHdr) (p : List Byte)
  /-- HERD_STATUS (R401). -/
  | herdStatus (h : UmHdr) (p : List Byte)
  /-- CL_CAL (R401). -/
  | clCal (h : UmHdr) (p : List Byte)
  /-- SEC_STATUS (R401). -/
  | secStatus (h : UmHdr) (p : List Byte)
  /-- FW_LOAD (R517). -/
  | fwLoad (h : UmHdr) (p : List Byte)
  /-- FW_ACTIVATE (R517). -/
  | fwActivate (h : UmHdr) (p : List Byte)
  /-- LC_ADVANCE (R512). -/
  | lcAdvance (h : UmHdr) (p : List Byte) (fuseV : Bool)
  /-- DEBUG_UNLOCK (R535). -/
  | debugUnlock (h : UmHdr) (p : List Byte)
  /-- SEC_ZEROIZE (R530). -/
  | secZeroize (h : UmHdr) (p : List Byte)
  /-- TAMPER_CFG (R540). -/
  | tamperCfg (h : UmHdr) (p : List Byte)
  /-- LOG_READ (R401). -/
  | logRead (h : UmHdr) (p : List Byte) (hits : List EccHit := [])
  /-- LOG_MARK (R553). -/
  | logMark (h : UmHdr) (p : List Byte)
  /-- WORK_REPORT (R400). -/
  | workReport (h : UmHdr) (p : List Byte)
  /-- EV_READ (R401). -/
  | evRead (h : UmHdr) (p : List Byte)
  /-- EV_CLEAR (R401). -/
  | evClear (h : UmHdr) (p : List Byte)
  /-- RS_CAUSE_GET (R509). -/
  | rsCauseGet (h : UmHdr) (p : List Byte)
  /-- RESET_DOMAIN (R495). -/
  | resetDomain (h : UmHdr) (p : List Byte)
  /-- DOMAIN_RESET_COMPLETE (R495). -/
  | domainResetComplete
  /-- UM_RESET (R382). -/
  | umReset (h : UmHdr) (p : List Byte)
  /-- HEARTBEAT_INSTANT (R414). -/
  | heartbeatInstant
  /-- HEARTBEAT (R414). -/
  | heartbeat (x : ClPort) (w0 w1 : Word) (ago : Nat)
  /-- TAKEOVER_COMPLETE (R425). -/
  | takeoverComplete
  /-- EPOCH_STEP_DOWN (R416). -/
  | epochStepDown
  /-- STAGED_WR (R418). -/
  | stagedWr (hdr : BitVec 32) (body : List Byte)
  /-- SHADOW_WR (R418). -/
  | shadowWr (hdr : BitVec 32) (body : List Byte)
  /-- GEN_CMD (R418). -/
  | genCmd (hdr : BitVec 32) (body : List Byte)
  /-- COMMIT (R419). -/
  | commit (hdr : BitVec 32) (body : List Byte)
  /-- COMMIT_ACK (R419). -/
  | commitAck (hdr : BitVec 32) (body : List Byte)
  /-- COMMIT_ACK_TIMEOUT (R419). -/
  | commitAckTimeout
  /-- CHAN (R420). -/
  | chan (hdr : BitVec 32) (body : List Byte)
  /-- SYNC_REG (R421). -/
  | syncReg (hdr : BitVec 32) (body : List Byte)
  /-- SYNC_WT (R421). -/
  | syncWt (hdr : BitVec 32) (body : List Byte)
  /-- SYNC_DONE (R421). -/
  | syncDone (hdr : BitVec 32) (body : List Byte) (srcState : Fin 4)
  /-- PEER_RESET (R427). -/
  | peerReset (hdr : BitVec 32) (body : List Byte)
  /-- TW_CTRL_PEER_RESET (R427). -/
  | twCtrlPeerReset
  /-- TW_CTRL_RESYNC (R430). -/
  | twCtrlResync
  /-- CL_PORT_RETRAIN (R409). -/
  | clPortRetrain (x : ClPort)
  /-- CLOTON_CALIBRATION (R412). -/
  | clotonCalibration (x : ClPort)
  /-- DIGEST (R438). -/
  | digest (x : ClPort) (w0 at_ : Word) (bytes : List Byte)
  /-- TIMEMARK (R435). -/
  | timemark (x : ClPort) (w0 w1 : Word) (ago : Nat)
  /-- HREADY (R437). -/
  | hready (x : ClPort) (hdr : BitVec 32) (body : List Byte)
  /-- HABORT (R437). -/
  | habort (x : ClPort) (hdr : BitVec 32) (body : List Byte) (ago : Nat)
  /-- HERD_GUARD_CHECK (R437). -/
  | herdGuardCheck
  /-- HERD_CELL_FORWARD (R434). -/
  | herdCellForward (x y : ClPort)
  /-- DOMAIN_ENTRY_START (R444). -/
  | domainEntryStart (d : Fin 64)
  /-- DOMAIN_SWITCH_OFF (R447). -/
  | domainSwitchOff (d : Fin 64)
  /-- DOMAIN_ENTRY_ABORT (R448). -/
  | domainEntryAbort (d : Fin 64) (at_ : Fin 4)
  /-- DOMAIN_RELEASED (R456). -/
  | domainReleased (d : Fin 64) (hits : List EccHit := [])
  /-- PW_HVOTE33_WRITE (R443). -/
  | pwHvote33Write (v : Word)
  /-- SLEEP_ENTRY (R457). -/
  | sleepEntry
  /-- SLEEP_ENTRY_WAIT (R457). -/
  | sleepEntryWait
  /-- WAKE (R458). -/
  | wake (boot : Option (List Byte)) (hits : List EccHit := [])
  /-- SIDEBAND_ADDRESS_MATCH (R462). -/
  | sidebandAddressMatch (addr : Fin 128)
  /-- INBAND_WAKE (R461). -/
  | inbandWake (port : Option HPort)
  /-- GPIO_WAKE (R461). -/
  | gpioWake (level : BitVec 16)
  /-- DOZE_SAMPLE (R459). -/
  | dozeSample (temps : List Byte) (rails : BitVec 7) (clk pps : Bool) (pres : List Nat)
  /-- SUPPLY_DIP_RECORDED (R468). -/
  | supplyDipRecorded (rail : Fin 7) (mv ago : Nat)
  /-- SUPPLY_DIP_END (R468). -/
  | supplyDipEnd (rail : Fin 7) (mv readings : Nat)
  /-- SUPPLY_OVER (R470). -/
  | supplyOver (rail : Fin 7) (high : Bool)
  /-- SUPPLY_SHED (R472). -/
  | supplyShed
  /-- SUPPLY_RETURN (R473). -/
  | supplyReturn
  /-- THERMAL_CONVERSION (R475). -/
  | thermalConversion (temps : List Byte)
  /-- PW_SHED_CTRL_RESTORE (R478). -/
  | pwShedCtrlRestore (v : BitVec 32)
  /-- NOISE_HEALTH_FAILURE (R523). -/
  | noiseHealthFailure (samples : List Byte) (window : Nat := 0)
  /-- DRBG_RESTART (R525). -/
  | drbgRestart
  /-- DRBG_INSTANTIATED (R525). -/
  | drbgInstantiated
  /-- SEC_RNG_CTRL_RETRY (R525). -/
  | secRngCtrlRetry
  /-- DRBG_RESEED (R522). -/
  | drbgReseed
  /-- CURVE_OPERATION_COMPLETE (R518). -/
  | curveOperationComplete (retry : Bool)
  /-- TAMPER_TRIP (R532). -/
  | tamperTrip (src : Fin 8) (fuseV : Bool)
  /-- SEC_DBG_CTRL_LOCK (R535). -/
  | secDbgCtrlLock
  /-- TAP_INSTRUCTION (R536). -/
  | tapInstruction (ir : Fin 8)
  /-- SPDM_REQUEST (R526). -/
  | spdmRequest (src : SpdmSrc) (session : Option Nat) (req : List Byte)
  /-- QUERY (R527). -/
  | query (src : SpdmSrc) (session : Nat) (m : HLink) (index : Nat)
  /-- KEY_PROG (R527). -/
  | keyProg (src : SpdmSrc) (session : Nat) (m : HLink) (stream : Nat) (ks dir sub : Nat) (key : List Byte)
  /-- K_SET_GO (R527). -/
  | kSetGo (src : SpdmSrc) (session : Nat) (m : HLink) (stream : Nat) (ks dir sub : Nat)
  /-- K_SET_STOP (R527). -/
  | kSetStop (src : SpdmSrc) (session : Nat) (m : HLink) (stream : Nat) (ks dir sub : Nat)
  /-- IDE_FAIL (R527). -/
  | ideFail (m : HLink) (stream : Fin 17)
  /-- LOCK_INTERFACE (R528). -/
  | lockInterface (src : SpdmSrc) (session : Nat) (m : HLink) (id : List Byte) (stream : Nat)
  /-- START_INTERFACE (R528). -/
  | startInterface (src : SpdmSrc) (session : Nat) (m : HLink) (id nonce : List Byte)
  /-- STOP_INTERFACE (R529). -/
  | stopInterface (src : SpdmSrc) (session : Nat) (m : HLink) (id : List Byte)
  /-- GET_DEVICE_INTERFACE_STATE (R529). -/
  | getDeviceInterfaceState (src : SpdmSrc) (session : Nat) (m : HLink) (id : List Byte)
  /-- LOG_QUEUE_WRITE (R552). -/
  | logQueueWrite
  /-- LOG_RDSEQ_WRITE (R553). -/
  | logRdseqWrite (v : BitVec 32)
  /-- REPAIR_RECORD_WRITE (R557). -/
  | repairRecordWrite (ok : Bool)
  /-- REGISTER_WRITE (R390). -/
  | registerWrite (who : Master) (off : Nat) (wide : Bool) (v : Word)
  /-- REGISTER_READ_CLEAR (R14). -/
  | registerReadClear (who : Master) (off : Nat)
  /-- BRIDGE_FETCH_TIMEOUT (R278). -/
  | bridgeFetchTimeout (n : Port) (tag : Nat)
  /-- L1_EXIT_COMPLETE (R316). -/
  | l1ExitComplete (m : HLink)
  /-- L2_L3_READY_ENTRY (R443). -/
  | l2L3ReadyEntry (m : HLink)
  /-- RESET_DOMAIN_DEVICE_START (R401). -/
  | resetDomainDeviceStart
  /-- CLOTON_SLOT_SEND (R434). -/
  | clotonSlotSend (x : ClPort)
  /-- DLY_REQ (R412). -/
  | dlyReq (x : ClPort) (w : Word) (ago : Nat)
  /-- SPARE (R412). -/
  | spare (x : ClPort) (w : Word)
  /-- TIMELINE_SCHEDULER_VOTE (R443). -/
  | timelineSchedulerVote
  /-- ALERT_RESPONSE_ADDRESS (R343). -/
  | alertResponseAddress
  /-- AON_COMPARATOR_THERMAL (R460). -/
  | aonComparatorThermal (temp : Byte)
  /-- FUSE_PROGRAMMING_COMPLETE (R512). -/
  | fuseProgrammingComplete (lc : BitVec 9) (rest : Bool)
  /-- SLOT_B_COPY_COMPLETE (R517). -/
  | slotBCopyComplete
  /-- TRANSLATION_COMPLETION (R300). -/
  | translationCompletion (m : HLink) (sl : Slice) (page tr : Nat) (ok : Bool)
  /-- TL_UNCERT_GROWTH (R56). -/
  | tlUncertGrowth
  deriving DecidableEq, Repr

end Sys2Proof
end

