-- ==== Sys2Proof/Config.lean ====
section
/-! DEFINITION. The free values of the model: what the spec leaves open, and what the device draws from outside the
model. Nothing in Lean can evaluate one of them; a statement holds whatever they are. -/

namespace Sys2Proof

/-- A value that the spec leaves open, by the number of free values taken so far. -/
opaque Config.freeWord : Nat → BitVec 64

/-- Where the n-th cycle of the always-on oscillator ends within the tolerance of R491 (25 MHz ± 5 %). -/
opaque Config.aonPhase : Nat → Nat

/-- The design value of a port's internal delays, 1/65,536 Tc (R74): transmit for `true`, receive for `false`. -/
opaque Config.designDelay : Nat → Bool → Nat

/-- Cells of a bus class that the device's buffer holds beyond one, by class: no rule states the depth (R247). -/
opaque Config.busDepth : Nat → Nat

/-- What the tables of a firmware image's body set, by the body and the offset of the register that they set: the spec
gives the tables' effects and not their layout (R514). -/
opaque Config.imageWord : List (BitVec 8) → Nat → Option (BitVec 64)

/-- The UEFI driver that a firmware image's body carries, empty without one (R326, R514). -/
opaque Config.imageUefi : List (BitVec 8) → List (BitVec 8)

/-- Random bytes that the DRBG delivers, by the number drawn so far (R522). -/
opaque Config.random : Nat → BitVec 8

/-- The device's fused values by name: the manual gives their meaning and leaves their contents to each device. -/
opaque Config.fuse : Nat → BitVec 64

/-- SHA-384 of ROM root key `k` (R515). -/
opaque Config.rootHash : Nat → List (BitVec 8)

/-- The private scalar of the device's identity key, which no rule states (R517, R526). -/
opaque Config.deviceKey : Nat → Nat

/-- The certificate chain of slot 0 that ends in a key (R526). -/
opaque Config.certChain : Nat → List (BitVec 8)

/-- The MCTP version entries, of 4 bytes each, of a message type: no rule states the versions (R383). -/
opaque Config.mctpVersions : Nat → List (BitVec 8)

/-- The command set version that Get Vendor Defined Message Support names: no rule states it (R383). -/
opaque Config.vendorSet : BitVec 16

/-- What a step of Lane Margining measures, by lane number of the device and Tc (R292). -/
opaque Config.margin : Nat → Nat → BitVec 8

/-- The boot ROM's version, measurement 1 of R526. -/
opaque Config.romVersion : BitVec 64

end Sys2Proof
end

