-- ==== Sys2Proof/Machine/Map.lean ====
section
/-! DEFINITION. Sparse data by key, in one canonical form: keys strictly rising, and no entry equal to what an unlisted
key reads as. Registers, pails, channels and every other numbered piece of state are held so, and equal contents are
equal data. -/

namespace Sys2Proof.Machine

/-- Sparse data by key. -/
abbrev SMap (α : Type) := List (Nat × α)

/-- What key `k` reads as, where an unlisted key reads as `d`. -/
def SMap.get {α : Type} (d : α) : SMap α → Nat → α
  | [], _ => d
  | (j, v) :: m, k => if j = k then v else SMap.get d m k

/-- The map with key `k` removed. -/
def SMap.del {α : Type} : SMap α → Nat → SMap α
  | [], _ => []
  | (j, v) :: m, k => if j = k then SMap.del m k else (j, v) :: SMap.del m k

/-- The map with key `k` listed at `v`. -/
def SMap.ins {α : Type} : SMap α → Nat → α → SMap α
  | [], k, v => [(k, v)]
  | (j, w) :: m, k, v =>
    if j = k then (k, v) :: m else if k < j then (k, v) :: (j, w) :: m else (j, w) :: SMap.ins m k v

/-- The map with key `k` reading as `v`, where an unlisted key reads as `d`. -/
def SMap.put {α : Type} [DecidableEq α] (d : α) (m : SMap α) (k : Nat) (v : α) : SMap α :=
  if v = d then SMap.del m k else SMap.ins m k v

/-- The map with the entry at key `k` replaced by its image under `f`. -/
def SMap.upd {α : Type} [DecidableEq α] (d : α) (m : SMap α) (k : Nat) (f : α → α) : SMap α :=
  SMap.put d m k (f (SMap.get d m k))

/-- The entries whose key passes `p`. -/
def SMap.keep {α : Type} (p : Nat → Bool) (m : SMap α) : SMap α := m.filter (fun e => p e.1)

/-- The canonical form: keys strictly rising, and no entry at the value an unlisted key reads as. -/
def SMap.wf {α : Type} [DecidableEq α] (d : Nat → α) : SMap α → Bool
  | [] => true
  | [(k, v)] => decide (v ≠ d k)
  | (k, v) :: (j, w) :: m => decide (v ≠ d k) && decide (k < j) && SMap.wf d ((j, w) :: m)

end Sys2Proof.Machine
end

