-- ==== Sys2Proof/Machine/Bits.lean ====
section
/-! DEFINITION. Bytes, words and lists of them (R8), and the counts of the timeline (R57, R58). -/

namespace Sys2Proof.Machine

/-- The low `n` bytes of a number, little-endian (R8). -/
def leBytes : Nat → Nat → List Byte
  | 0, _ => []
  | n + 1, v => BitVec.ofNat 8 v :: leBytes n (v / 256)

/-- The number that little-endian bytes spell (R8). -/
def leNat : List Byte → Nat
  | [] => 0
  | b :: bs => b.toNat + 256 * leNat bs

/-- Bytes `off` to `off + n − 1`, little-endian; a byte beyond the list reads 0. -/
def leAt (bs : List Byte) (off n : Nat) : Nat := leNat ((bs.drop off).take n)

/-- Big-endian bytes of a number, `n` of them. -/
def beBytes (n v : Nat) : List Byte := (leBytes n v).reverse

/-- The number that big-endian bytes spell. -/
def beNat (bs : List Byte) : Nat := leNat bs.reverse

/-- Bits `hi` down to `lo` of a number. -/
def bitsOf (v hi lo : Nat) : Nat := (v >>> lo) % 2 ^ (hi + 1 - lo)

/-- Bits `hi` down to `lo` of a word. -/
def wbits (w : Word) (hi lo : Nat) : Nat := bitsOf w.toNat hi lo

/-- A word with bits `hi` down to `lo` replaced. -/
def wput (w : Word) (hi lo v : Nat) : Word :=
  (w &&& ~~~ (BitVec.ofNat 64 ((2 ^ (hi + 1 - lo) - 1) <<< lo))) |||
    BitVec.ofNat 64 ((v % 2 ^ (hi + 1 - lo)) <<< lo)

/-- An `n`-bit number read as two's complement. -/
def sNat (n v : Nat) : Int :=
  let u := v % 2 ^ n
  if u < 2 ^ (n - 1) then (u : Int) else (u : Int) - (2 ^ n : Nat)

/-- The `n`-bit two's complement form of an integer. -/
def uInt (n : Nat) (v : Int) : Nat := (v % ((2 ^ n : Nat) : Int)).toNat

/-- A signed value limited to `n` bits of two's complement, and its `n`-bit form. -/
def satBits (n : Nat) (v : Int) : Nat :=
  let hi : Int := ((2 ^ (n - 1) : Nat) : Int) - 1
  let lo : Int := -((2 ^ (n - 1) : Nat) : Int)
  uInt n (if v > hi then hi else if v < lo then lo else v)

/-- Tc in one frame of the timeline (R57). -/
def frameTc : Nat := 19660800

/-- The number of timeline counts, Π (R57). -/
def piTl : Nat := 2 ^ 39 * frameTc

/-- Tc in one second (R59). -/
def secTc : Nat := 1966080000

/-- A TL value is valid (R11). -/
def tlValid (w : Word) : Bool := decide (w.toNat % 2 ^ 25 < frameTc)

/-- The timeline count of a TL value (R57). -/
def tlCount (w : Word) : Nat := (w.toNat >>> 25) * frameTc + w.toNat % 2 ^ 25

/-- The TL value of a timeline count (R11, R57). -/
def tlOf (n : Nat) : Word := BitVec.ofNat 64 (((n / frameTc) <<< 25) + n % frameTc)

/-- The difference of two counts, in the range −Π/2 to Π/2 − 1 (R58). -/
def tlDiff (a b : Nat) : Int :=
  let d := (a + piTl - b % piTl) % piTl
  if d < piTl / 2 then (d : Int) else (d : Int) - (piTl : Int)

/-- Count `a` is later than count `b` (R58). -/
def tlLater (a b : Nat) : Bool := decide (0 < tlDiff a b)

/-- Count `a` is `b` or later (R58). -/
def tlReached (a b : Nat) : Bool := decide (0 ≤ tlDiff a b)

/-- A count moved by a signed number of Tc, modulo Π (R58). -/
def tlAdd (a : Nat) (d : Int) : Nat := ((a + d) % (piTl : Int)).toNat

/-- The quotient of two integers, rounded to the nearest whole number with ties toward zero (R65, R67). -/
def divTieZero (x : Int) (d : Nat) : Int :=
  let q := x.natAbs / d
  let r := x.natAbs % d
  let q' := if 2 * r > d then q + 1 else q
  if x < 0 then -(q' : Int) else (q' : Int)

/-- The bit mask of `n` ones. -/
def ones (n : Nat) : Nat := 2 ^ n - 1

/-- Bits of `v` that are set, of the lowest `n`, in rising order. -/
def setBits (n v : Nat) : List Nat := (List.range n).filter (fun i => v.testBit i)

/-- An element of a list replaced at an index. -/
def setAt {α : Type} : List α → Nat → α → List α
  | [], _, _ => []
  | _ :: xs, 0, y => y :: xs
  | x :: xs, n + 1, y => x :: setAt xs n y

/-- A number inserted into a rising list without repeats. -/
def insNat : List Nat → Nat → List Nat
  | [], n => [n]
  | x :: xs, n => if x = n then x :: xs else if n < x then n :: x :: xs else x :: insNat xs n

/-- The 64-bit words of a list of bytes, little-endian, the last one filled with zeros. -/
def wordsOf : Nat → List Byte → List Word
  | 0, _ => []
  | n + 1, bs => BitVec.ofNat 64 (leNat (bs.take 8)) :: wordsOf n (bs.drop 8)

/-- The bytes of 64-bit words, little-endian. -/
def bytesOfWords : List Word → List Byte
  | [] => []
  | w :: ws => leBytes 8 w.toNat ++ bytesOfWords ws

end Sys2Proof.Machine
end

