-- ==== Sys2Proof/Machine/Regs.lean ====
section
/-! DEFINITION. The register file of the device, written from the spec's register and field tables (R12 to R17 and the
"Offset from BAR0" and "Bits | Field | Kind | After reset" tables of every chapter). A register is named by its offset
from BAR0; a field is a run of bits with its kind. Registers of 384 bits take six consecutive 64-bit keys. -/

namespace Sys2Proof.Machine

/-- A field of a register: its lowest bit, its width and whether its kind is RWG (R14). -/
structure Fld where
  lo  : Nat
  wid : Nat
  rwg : Bool := false
  deriving DecidableEq, Repr

/-- The power domain that holds a register (R441 and the "lie in domain" rule of each chapter). -/
inductive DomTag where
  | aon | tk | mgmt | sec | clot
  | lgrpPort   -- LGRPg of the port that the first index names
  | lgrpGroup  -- LGRPg of the group that the first index names
  | churn      -- CHURNu of the unit that the first index names
  deriving DecidableEq, Repr

/-- One row of the register map: where the register lies, its bits by kind (R14) and its value after reset. -/
structure RegRow where
  base  : Nat
  dims  : List (Nat × Nat)      -- (count, stride) of each index, the largest stride first
  bytes : Nat
  rw    : Nat
  w1c   : Nat
  w1s   : Nat
  rc    : Nat
  rwg   : Nat
  wo    : Nat
  hw    : Nat
  rstG  : Nat                   -- after-reset value of the RWG bits
  rst   : List Nat → Nat        -- after-reset value of the other bits, by the register's indices
  dom   : DomTag
  saved : Bool                  -- saved to the Cooler with its domain (R454)
  perm  : Bool                  -- cleared only by AON power-on (R466, R509, R561)

/-- The indices of a register of a row that lies at offset `r` from the row's base, if there is one. -/
def rowIdx (bytes : Nat) : List (Nat × Nat) → Nat → Option (List Nat)
  | [], r => if r < bytes ∧ (r = 0 ∨ r % 8 = 0) then some [] else none
  | (n, st) :: ds, r =>
    if r / st < n then (rowIdx bytes ds (r % st)).map (r / st :: ·) else none

/-- The indices of the register at offset `k` if it is one of the row's. -/
def RegRow.hit (row : RegRow) (k : Nat) : Option (List Nat) :=
  if row.base ≤ k then rowIdx row.bytes row.dims (k - row.base) else none

namespace Reg

def TL_NOW : Nat := 0x2000
def TL_STATE : Nat := 0x2008
def TL_CTRL : Nat := 0x200c
def TL_REF_CFG : Nat := 0x2010
def TL_PPS_OFFSET : Nat := 0x2014
def TL_PPS_TRIM : Nat := 0x2018
def TL_PPS_ERR : Nat := 0x201c
def TL_LAST_PPS : Nat := 0x2020
def TL_STEP : Nat := 0x2028
def TL_UNCERT : Nat := 0x2030
def TL_LATE_LIMIT : Nat := 0x2038
def TL_HOLD_LIMIT : Nat := 0x203c
def TL_WAKE_LEAD : Nat := 0x2040
def TL_AON_RATIO : Nat := 0x2044
def TL_STR_TOTAL : Nat := 0x2048
def TL_QSTR_COUNT (q : Nat) : Nat := 0x2050 + 0x8 * q
def TL_CSTR_COUNT : Nat := 0x2070
def TL_HOLD_POLICY (k : Nat) : Nat := 0x2100 + 0x4 * k
def TL_ALARM_AT (a : Nat) : Nat := 0x2200 + 0x20 * a
def TL_ALARM_PERIOD (a : Nat) : Nat := 0x2208 + 0x20 * a
def TL_ALARM_CTRL (a : Nat) : Nat := 0x220c + 0x20 * a
def TL_LEAD_AL (n : Nat) : Nat := 0x3000 + 0x4 * n
def TL_LEAD_HL (m : Nat) : Nat := 0x3200 + 0x4 * m
def TL_PORT_TXCAL (n : Nat) : Nat := 0x3400 + 0x10 * n
def TL_PORT_RXCAL (n : Nat) : Nat := 0x3404 + 0x10 * n
def TL_PORT_TRIM (n : Nat) : Nat := 0x3408 + 0x10 * n
def CH_ID (u : Nat) : Nat := 0x400000 + 0x40000 * u
def CH_CTRL (u : Nat) : Nat := 0x400004 + 0x40000 * u
def CH_STATUS (u : Nat) : Nat := 0x400008 + 0x40000 * u
def CH_EVENT (u : Nat) : Nat := 0x40000c + 0x40000 * u
def CH_FAULT (u : Nat) : Nat := 0x400010 + 0x40000 * u
def CH_BLKCNT_U (u : Nat) : Nat := 0x400018 + 0x40000 * u
def CH_BLKCNT_D (u : Nat) : Nat := 0x400020 + 0x40000 * u
def CH_UCTX_A (u k : Nat) : Nat := 0x401000 + 0x40000 * u + 0x8 * k
def CH_UCTX_B (u k : Nat) : Nat := 0x401004 + 0x40000 * u + 0x8 * k
def CH_DCTX_A (u k : Nat) : Nat := 0x402000 + 0x40000 * u + 0x8 * k
def CH_DCTX_B (u k : Nat) : Nat := 0x402004 + 0x40000 * u + 0x8 * k
def CH_STR (u m : Nat) : Nat := 0x410000 + 0x40000 * u + 0x10 * m
def CH_STRG (u m : Nat) : Nat := 0x410008 + 0x40000 * u + 0x10 * m
def CH_CALSAT (u m : Nat) : Nat := 0x420000 + 0x40000 * u + 0x20 * m
def CH_REQSAT (u m : Nat) : Nat := 0x420004 + 0x40000 * u + 0x20 * m
def CH_NAN (u m : Nat) : Nat := 0x420008 + 0x40000 * u + 0x20 * m
def CH_FMTERR (u m : Nat) : Nat := 0x42000c + 0x40000 * u + 0x20 * m
def CH_ABSENT (u m : Nat) : Nat := 0x420010 + 0x40000 * u + 0x20 * m
def CH_CALG (u m : Nat) : Nat := 0x430000 + 0x40000 * u + 0x10 * m
def CH_CALD (u m : Nat) : Nat := 0x430008 + 0x40000 * u + 0x10 * m
def CH_WB_CTRL (g : Nat) : Nat := 0x800000 + 0x100 * g
def CH_WB_STATUS (g : Nat) : Nat := 0x800004 + 0x100 * g
def CH_WB_CECC (g : Nat) : Nat := 0x800008 + 0x100 * g
def CH_WB_UECC (g : Nat) : Nat := 0x80000c + 0x100 * g
def CH_WB_DROP (g : Nat) : Nat := 0x800010 + 0x100 * g
def CH_WB_PDROP (g : Nat) : Nat := 0x800014 + 0x100 * g
def CH_WB_DIGEST (g : Nat) : Nat := 0x800040 + 0x100 * g
def CH_SPARE_CTRL (q : Nat) : Nat := 0x801000 + 0x20 * q
def CH_SPARE_AT (q : Nat) : Nat := 0x801008 + 0x20 * q
def CH_SPARE_LOG (q : Nat) : Nat := 0x801010 + 0x20 * q
def VAT_BANK_STATUS (b : Nat) : Nat := 0xa00000 + 0x40 * b
def VAT_BANK_CECC (b : Nat) : Nat := 0xa00004 + 0x40 * b
def VAT_BANK_UECC (b : Nat) : Nat := 0xa00008 + 0x40 * b
def VAT_BANK_PDROP (b : Nat) : Nat := 0xa0000c + 0x40 * b
def VAT_BANK_ERRLOG (b : Nat) : Nat := 0xa00010 + 0x40 * b
def VAT_BANK_REPAIR (b : Nat) : Nat := 0xa00018 + 0x40 * b
def VAT_ST_CECC (x : Nat) : Nat := 0xa01000 + 0x10 * x
def VAT_ST_UECC (x : Nat) : Nat := 0xa01004 + 0x10 * x
def VAT_ST_PDROP (x : Nat) : Nat := 0xa01008 + 0x10 * x
def VAT_EVENT (q : Nat) : Nat := 0xa02000 + 0x4 * q
def VAT_RPR_REQ : Nat := 0xa02010
def VAT_QUOTA (s q : Nat) : Nat := 0xa10000 + 0x10 * s + 0x4 * q
def VAT_PAIL_A (p : Nat) : Nat := 0xc00000 + 0x40 * p
def VAT_PAIL_B (p : Nat) : Nat := 0xc00008 + 0x40 * p
def VAT_PAIL_PTR (p : Nat) : Nat := 0xc00010 + 0x40 * p
def VAT_PAIL_STAT (p : Nat) : Nat := 0xc00018 + 0x40 * p
def VAT_PAIL_DROP (p : Nat) : Nat := 0xc0001c + 0x40 * p
def VAT_PAIL_LATE (p : Nat) : Nat := 0xc00020 + 0x40 * p
def VAT_PAIL_POISON (p : Nat) : Nat := 0xc00024 + 0x40 * p
def DMA_SRC (c : Nat) : Nat := 0xd00000 + 0x80 * c
def DMA_DST (c : Nat) : Nat := 0xd00008 + 0x80 * c
def DMA_COUNT (c : Nat) : Nat := 0xd00010 + 0x80 * c
def DMA_FMT (c : Nat) : Nat := 0xd00014 + 0x80 * c
def DMA_RELEASE (c : Nat) : Nat := 0xd00018 + 0x80 * c
def DMA_NEXT (c : Nat) : Nat := 0xd00020 + 0x80 * c
def DMA_CTRL (c : Nat) : Nat := 0xd00028 + 0x80 * c
def DMA_TAG (c : Nat) : Nat := 0xd0002c + 0x80 * c
def DMA_REC (c : Nat) : Nat := 0xd00030 + 0x80 * c
def DMA_STAT (c : Nat) : Nat := 0xd00040 + 0x80 * c
def DMA_RETIRED (c : Nat) : Nat := 0xd00044 + 0x80 * c
def DMA_PROGRESS (c : Nat) : Nat := 0xd00048 + 0x80 * c
def DMA_CUR (c : Nat) : Nat := 0xd00050 + 0x80 * c
def DMA_LATENESS (c : Nat) : Nat := 0xd00058 + 0x80 * c
def DMA_WHEEL_E (m i : Nat) : Nat := 0xe00000 + 0x1000 * m + 0x4 * i
def DMA_WHEEL_STAT (m : Nat) : Nat := 0xe40000 + 0x4 * m
def DMA_STGQ (s : Nat) : Nat := 0xe50000 + 0x4 * s
def DMA_OWN (c : Nat) : Nat := 0xe60000 + 0x4 * c
def DMA_EVGRP (g w : Nat) : Nat := 0xe70000 + 0x10 * g + 0x4 * w
def AL_CTRL (n : Nat) : Nat := 0x200000 + 0x1000 * n
def AL_STAT (n : Nat) : Nat := 0x200004 + 0x1000 * n
def AL_EVENT (n : Nat) : Nat := 0x200008 + 0x1000 * n
def AL_LANEMAP (n : Nat) : Nat := 0x20000c + 0x1000 * n
def AL_RTD (n : Nat) : Nat := 0x200010 + 0x1000 * n
def AL_OWD (n : Nat) : Nat := 0x200014 + 0x1000 * n
def AL_ASYM (n : Nat) : Nat := 0x200018 + 0x1000 * n
def AL_LETOD_ERR (n : Nat) : Nat := 0x20001c + 0x1000 * n
def AL_CALPER (n : Nat) : Nat := 0x200020 + 0x1000 * n
def AL_CALTOL (n : Nat) : Nat := 0x200024 + 0x1000 * n
def AL_EPOCH_RX (n : Nat) : Nat := 0x200028 + 0x1000 * n
def AL_LEDGER_SEL (n : Nat) : Nat := 0x20002c + 0x1000 * n
def AL_LEDGER (n : Nat) : Nat := 0x200030 + 0x1000 * n
def AL_LE_ID (n : Nat) : Nat := 0x200038 + 0x1000 * n
def AL_CORR (n : Nat) : Nat := 0x200040 + 0x1000 * n
def AL_UNCORR (n : Nat) : Nat := 0x200044 + 0x1000 * n
def AL_LANECORR0 (n : Nat) : Nat := 0x200048 + 0x1000 * n
def AL_LANECORR1 (n : Nat) : Nat := 0x20004c + 0x1000 * n
def AL_REPLAY (n : Nat) : Nat := 0x200050 + 0x1000 * n
def AL_RESYNC (n : Nat) : Nat := 0x200054 + 0x1000 * n
def AL_CRVIOL (n : Nat) : Nat := 0x200058 + 0x1000 * n
def AL_TRAINFAIL (n : Nat) : Nat := 0x20005c + 0x1000 * n
def AL_PROTO (n : Nat) : Nat := 0x200060 + 0x1000 * n
def AL_AUDIT_MAX (n : Nat) : Nat := 0x200070 + 0x1000 * n
def AL_GRP_SPARE_CFG (g : Nat) : Nat := 0x260000 + 0x100 * g
def AL_GRP_SPARE_STAT (g : Nat) : Nat := 0x260004 + 0x100 * g
def AL_GRP_SPARE_THRESH (g : Nat) : Nat := 0x260008 + 0x100 * g
def AL_WIN_CTRL (n : Nat) : Nat := 0x200080 + 0x1000 * n
def AL_WIN_HOSTS (n : Nat) : Nat := 0x200084 + 0x1000 * n
def AL_WINR (n k : Nat) : Nat := 0x200088 + 0x1000 * n + 0x8 * k
def AL_UPR (n k : Nat) : Nat := 0x2000a8 + 0x1000 * n + 0x8 * k
def AL_BR_STAT (n : Nat) : Nat := 0x2000c8 + 0x1000 * n
def AL_BR_HREJ (n : Nat) : Nat := 0x2000d0 + 0x1000 * n
def AL_BR_HTO (n : Nat) : Nat := 0x2000d4 + 0x1000 * n
def AL_BR_LREJ (n : Nat) : Nat := 0x2000d8 + 0x1000 * n
def AL_BR_LIMIT (n : Nat) : Nat := 0x2000dc + 0x1000 * n
def AL_BR_DISCARD (n : Nat) : Nat := 0x2000e0 + 0x1000 * n
def AL_BR_STALE (n : Nat) : Nat := 0x2000e4 + 0x1000 * n
def AL_BR_LOST (n : Nat) : Nat := 0x2000e8 + 0x1000 * n
def HL_PORT_CFG (p : Nat) : Nat := 0x300000 + 0x100 * p
def HL_PORT_STAT (p : Nat) : Nat := 0x300004 + 0x100 * p
def HL_PORT_CTRL (p : Nat) : Nat := 0x300008 + 0x100 * p
def HL_LINK_STAT (m : Nat) : Nat := 0x310000 + 0x100 * m
def HL_LINK_PMCFG (m : Nat) : Nat := 0x310004 + 0x100 * m
def HL_LINK_EVENT (m : Nat) : Nat := 0x310008 + 0x100 * m
def HL_LINK_L1EXIT (m : Nat) : Nat := 0x31000c + 0x100 * m
def HL_LINK_IDLE (m : Nat) : Nat := 0x310010 + 0x100 * m
def HL_LINK_RECOV (m : Nat) : Nat := 0x310020 + 0x100 * m
def HL_LINK_REPLAY (m : Nat) : Nat := 0x310024 + 0x100 * m
def HL_LINK_L1ENT (m : Nat) : Nat := 0x310028 + 0x100 * m
def HL_LINK_L1HOLD (m : Nat) : Nat := 0x31002c + 0x100 * m
def HL_LINK_FLR (m : Nat) : Nat := 0x310030 + 0x100 * m
def HL_GLOBAL_MGR : Nat := 0x320000
def EV_ROUTE (i : Nat) : Nat := 0x30000 + 0x4 * i
def EV_RAISED (w : Nat) : Nat := 0x31000 + 0x4 * w
def EV_CNT (i : Nat) : Nat := 0x32000 + 0x4 * i
def EV_ALERT : Nat := 0x33000
def EV_INJECT : Nat := 0x33004
def SL_BIND (s : Nat) : Nat := 0x100000 + 0x40 * s
def SL_VECMAP (s : Nat) : Nat := 0x100004 + 0x40 * s
def SL_CTRL (s : Nat) : Nat := 0x100008 + 0x40 * s
def SL_STAT (s : Nat) : Nat := 0x10000c + 0x40 * s
def SL_MBOX_STAT (s : Nat) : Nat := 0x100010 + 0x40 * s
def SL_IRQDROP (s : Nat) : Nat := 0x100014 + 0x40 * s
def SL_CWHEEL (g a k i : Nat) : Nat := 0x110000 + 0x800 * g + 0x400 * a + 0x80 * k + 0x4 * i
def SL_MBPEND (w : Nat) : Nat := 0x116000 + 0x4 * w
def SL_CELL (n k : Nat) : Nat := 0x118000 + 0x10 * n + 0x4 * k
def UM_CTRL : Nat := 0x10000
def UM_STAT : Nat := 0x10004
def UM_SQ_HEAD : Nat := 0x10008
def UM_SQ_TAIL : Nat := 0x1000c
def UM_RQ_HEAD : Nat := 0x10010
def UM_RQ_TAIL : Nat := 0x10014
def UM_GEN_STAT : Nat := 0x10018
def UM_GEN_SEQ : Nat := 0x1001c
def UM_GEN_AT : Nat := 0x10020
def UM_RWG_DROP : Nat := 0x10028
def UM_BADPKT : Nat := 0x1002c
def UM_GEN_DIGEST : Nat := 0x10040
def UM_GEN_HDIGEST : Nat := 0x10080
def TW_ROLE : Nat := 0x8000
def TW_CFG : Nat := 0x8004
def TW_CTRL : Nat := 0x8008
def TW_STAT : Nat := 0x800c
def TW_EVENT : Nat := 0x8010
def TW_EPOCH : Nat := 0x8014
def TW_LAG : Nat := 0x8018
def TW_SWO_LIMIT : Nat := 0x801c
def TW_TAKEOVER_AT : Nat := 0x8020
def CL_HERD_CFG : Nat := 0x9000
def CL_HERD_GUARD : Nat := 0x9004
def CL_ABORT_LATE : Nat := 0x9008
def CL_PORT_CFG (x : Nat) : Nat := 0xa000 + 0x100 * x
def CL_PORT_STAT (x : Nat) : Nat := 0xa004 + 0x100 * x
def CL_PORT_RTD (x : Nat) : Nat := 0xa008 + 0x100 * x
def CL_PORT_OWD (x : Nat) : Nat := 0xa00c + 0x100 * x
def CL_PORT_ASYM (x : Nat) : Nat := 0xa010 + 0x100 * x
def CL_PORT_CALPER (x : Nat) : Nat := 0xa014 + 0x100 * x
def CL_PORT_CORR (x : Nat) : Nat := 0xa020 + 0x100 * x
def CL_PORT_UNCORR (x : Nat) : Nat := 0xa024 + 0x100 * x
def CL_PORT_REPLAY (x : Nat) : Nat := 0xa028 + 0x100 * x
def CL_PORT_PROTO (x : Nat) : Nat := 0xa02c + 0x100 * x
def CL_PORT_TRAINFAIL (x : Nat) : Nat := 0xa030 + 0x100 * x
def PW_MODE : Nat := 0x40
def PW_AON_STAMP : Nat := 0x48
def PW_ON : Nat := 0x50
def PW_FORCED : Nat := 0x58
def PW_WAKE_EN : Nat := 0x60
def PW_WAKE_LAST : Nat := 0x64
def PW_WAKE_STAMP : Nat := 0x68
def PW_WAKE_GPIO : Nat := 0x70
def PW_SB_ADDR : Nat := 0x74
def PW_ENTRY : Nat := 0x78
def PW_EVENT : Nat := 0x7c
def PW_DOZE_PERIOD : Nat := 0x80
def PW_DOZE_THR : Nat := 0x84
def PW_DOZE_PMASK (k : Nat) : Nat := 0x88 + 0x4 * k
def PW_DOZE_STAT : Nat := 0x94
def PW_DVOTE (d : Nat) : Nat := 0x200 + 0x8 * d
def PW_HVOTE (h : Nat) : Nat := 0x400 + 0x8 * h
def PW_SUP_STAT : Nat := 0x800
def PW_SUP_CFG : Nat := 0x804
def PW_STEVENT : Nat := 0x808
def PW_SUP_GLITCH : Nat := 0x80c
def PW_DIP : Nat := 0x810
def PW_DIP_AT : Nat := 0x818
def PW_DIP_STAMP : Nat := 0x820
def PW_DIP_CNT : Nat := 0x828
def PW_THERM_STAT : Nat := 0x830
def PW_SHED_STAT : Nat := 0x838
def PW_SHED_CTRL : Nat := 0x840
def PW_TEMP (k : Nat) : Nat := 0x850 + 0x4 * k
def RS_CAUSE : Nat := 0xc00
def RS_CAUSE_STAMP : Nat := 0xc08
def RS_CAUSE_TL : Nat := 0xc10
def RS_STRAP : Nat := 0xc18
def RS_BOOT : Nat := 0xc1c
def RS_BRINGUP : Nat := 0xc20
def RS_EVENT : Nat := 0xc24
def RS_COUNT : Nat := 0xc28
def RS_GLITCH : Nat := 0xc2c
def SEC_STATE : Nat := 0x4000
def SEC_ARB : Nat := 0x4004
def SEC_DBG_CTRL : Nat := 0x4008
def SEC_TAMPER_CFG : Nat := 0x400c
def SEC_TAMPER_STAT : Nat := 0x4010
def SEC_TAMPER_CNT : Nat := 0x4014
def SEC_RNG_STAT : Nat := 0x4018
def SEC_RNG_CTRL : Nat := 0x401c
def SEC_RNG_FAILS : Nat := 0x4020
def SEC_CE_INVALID : Nat := 0x4024
def SEC_EVENT : Nat := 0x4028
def SEC_TDI (w : Nat) : Nat := 0x4100 + 0x4 * w
def LOG_SEQ : Nat := 0x50000
def LOG_RDSEQ : Nat := 0x50004
def LOG_STAT : Nat := 0x50008
def LOG_LOST : Nat := 0x5000c
def LOG_OVERWRITTEN : Nat := 0x50010
def PIN_GPIO_DIR : Nat := 0x1000
def PIN_GPIO_OUT : Nat := 0x1004
def PIN_GPIO_IN : Nat := 0x1008
def PIN_GPIO_DRV : Nat := 0x100c
def PIN_GPIO_OD : Nat := 0x1010
def PIN_LEVELS : Nat := 0x1014
def PIN_TXINH : Nat := 0x1018

end Reg

namespace F

def TL_NOW_TL : Fld := ⟨0, 64, false⟩
def TL_STATE_LAST_CAUSE : Fld := ⟨20, 4, false⟩
def TL_STATE_AMBIGUOUS : Fld := ⟨15, 1, false⟩
def TL_STATE_HAS_TIME : Fld := ⟨14, 1, false⟩
def TL_STATE_AON_CAL : Fld := ⟨13, 1, false⟩
def TL_STATE_PLL_LOCK : Fld := ⟨12, 1, false⟩
def TL_STATE_PPS_PRESENT : Fld := ⟨11, 1, false⟩
def TL_STATE_REF_PRESENT : Fld := ⟨10, 1, false⟩
def TL_STATE_MISS_RUN : Fld := ⟨4, 4, false⟩
def TL_STATE_STATE : Fld := ⟨0, 2, false⟩
def TL_CTRL_CLR_STR : Fld := ⟨1, 1, false⟩
def TL_CTRL_INVALIDATE : Fld := ⟨0, 1, false⟩
def TL_REF_CFG_PPS_WIN : Fld := ⟨24, 8, false⟩
def TL_REF_CFG_PPS_LOSS : Fld := ⟨16, 4, false⟩
def TL_REF_CFG_RELOCK : Fld := ⟨12, 4, false⟩
def TL_REF_CFG_TIME_SRC : Fld := ⟨8, 3, false⟩
def TL_REF_CFG_PPS_EDGE : Fld := ⟨7, 1, false⟩
def TL_REF_CFG_REF_SEL : Fld := ⟨0, 3, false⟩
def TL_PPS_OFFSET_OFFSET : Fld := ⟨0, 31, false⟩
def TL_PPS_TRIM_TRIM : Fld := ⟨0, 32, false⟩
def TL_PPS_ERR_ERR : Fld := ⟨0, 32, false⟩
def TL_LAST_PPS_TL : Fld := ⟨0, 64, false⟩
def TL_STEP_STEP : Fld := ⟨0, 64, false⟩
def TL_UNCERT_UNCERT : Fld := ⟨0, 64, false⟩
def TL_LATE_LIMIT_LIMIT : Fld := ⟨0, 24, false⟩
def TL_HOLD_LIMIT_LIMIT : Fld := ⟨0, 32, false⟩
def TL_WAKE_LEAD_LEAD : Fld := ⟨0, 32, false⟩
def TL_AON_RATIO_RATIO : Fld := ⟨0, 32, false⟩
def TL_STR_TOTAL_COUNT : Fld := ⟨0, 48, false⟩
def TL_QSTR_COUNT_COUNT : Fld := ⟨0, 48, false⟩
def TL_CSTR_COUNT_COUNT : Fld := ⟨0, 48, false⟩
def TL_HOLD_POLICY_HOLD : Fld := ⟨0, 32, true⟩
def TL_ALARM_AT_AT : Fld := ⟨0, 64, false⟩
def TL_ALARM_PERIOD_PERIOD : Fld := ⟨0, 32, false⟩
def TL_ALARM_CTRL_SKIPPED : Fld := ⟨3, 1, false⟩
def TL_ALARM_CTRL_FIRED : Fld := ⟨2, 1, false⟩
def TL_ALARM_CTRL_WAKE_EN : Fld := ⟨1, 1, false⟩
def TL_ALARM_CTRL_EN : Fld := ⟨0, 1, false⟩
def TL_LEAD_AL_LEAD : Fld := ⟨0, 13, true⟩
def TL_LEAD_HL_LEAD : Fld := ⟨0, 13, true⟩
def TL_PORT_TXCAL_DELAY : Fld := ⟨0, 32, false⟩
def TL_PORT_RXCAL_DELAY : Fld := ⟨0, 32, false⟩
def TL_PORT_TRIM_TRIM : Fld := ⟨0, 24, false⟩
def CH_ID_GROUP : Fld := ⟨20, 4, false⟩
def CH_ID_QUAD : Fld := ⟨16, 2, false⟩
def CH_ID_SPARE : Fld := ⟨4, 1, false⟩
def CH_ID_UNIT : Fld := ⟨0, 4, false⟩
def CH_CTRL_EN : Fld := ⟨8, 1, true⟩
def CH_CTRL_D_PART : Fld := ⟨4, 3, true⟩
def CH_CTRL_U_PART : Fld := ⟨0, 3, true⟩
def CH_STATUS_D_BUSY : Fld := ⟨9, 1, false⟩
def CH_STATUS_U_BUSY : Fld := ⟨8, 1, false⟩
def CH_STATUS_STATE : Fld := ⟨0, 4, false⟩
def CH_EVENT_FAULT : Fld := ⟨3, 1, false⟩
def CH_EVENT_WEIGHTS : Fld := ⟨2, 1, false⟩
def CH_EVENT_SATURATE : Fld := ⟨1, 1, false⟩
def CH_EVENT_FORMAT : Fld := ⟨0, 1, false⟩
def CH_FAULT_ARRAY : Fld := ⟨15, 1, false⟩
def CH_FAULT_CTX : Fld := ⟨8, 4, false⟩
def CH_FAULT_CODE : Fld := ⟨0, 8, false⟩
def CH_BLKCNT_U_COUNT : Fld := ⟨0, 48, false⟩
def CH_BLKCNT_D_COUNT : Fld := ⟨0, 48, false⟩
def CH_UCTX_A_EN : Fld := ⟨31, 1, true⟩
def CH_UCTX_A_SLOT : Fld := ⟨28, 3, true⟩
def CH_UCTX_A_SHIFT : Fld := ⟨23, 5, true⟩
def CH_UCTX_A_WSET : Fld := ⟨0, 16, true⟩
def CH_UCTX_B_ANT_BASE : Fld := ⟨24, 8, true⟩
def CH_UCTX_B_BEAM_BASE : Fld := ⟨16, 8, true⟩
def CH_UCTX_B_ANT_CNT : Fld := ⟨8, 7, true⟩
def CH_UCTX_B_BEAM_CNT : Fld := ⟨0, 7, true⟩
def CH_DCTX_A_EN : Fld := ⟨31, 1, true⟩
def CH_DCTX_A_SLOT : Fld := ⟨28, 3, true⟩
def CH_DCTX_A_SHIFT : Fld := ⟨23, 5, true⟩
def CH_DCTX_A_WSET : Fld := ⟨0, 16, true⟩
def CH_DCTX_B_ANT_BASE : Fld := ⟨24, 8, true⟩
def CH_DCTX_B_BEAM_BASE : Fld := ⟨16, 8, true⟩
def CH_DCTX_B_ANT_CNT : Fld := ⟨8, 7, true⟩
def CH_DCTX_B_BEAM_CNT : Fld := ⟨0, 7, true⟩
def CH_STR_EN : Fld := ⟨63, 1, true⟩
def CH_STR_DIR : Fld := ⟨62, 1, true⟩
def CH_STR_SIDE : Fld := ⟨61, 1, true⟩
def CH_STR_PORT : Fld := ⟨58, 3, true⟩
def CH_STR_OUT_FMT : Fld := ⟨54, 4, true⟩
def CH_STR_MODE : Fld := ⟨52, 2, true⟩
def CH_STR_B : Fld := ⟨49, 3, true⟩
def CH_STR_M : Fld := ⟨45, 4, true⟩
def CH_STR_S : Fld := ⟨40, 5, true⟩
def CH_STR_SLICE : Fld := ⟨30, 10, true⟩
def CH_STR_STREAM_ID : Fld := ⟨0, 16, true⟩
def CH_STRG_G : Fld := ⟨0, 16, true⟩
def CH_CALSAT_COUNT : Fld := ⟨0, 32, false⟩
def CH_REQSAT_COUNT : Fld := ⟨0, 32, false⟩
def CH_NAN_COUNT : Fld := ⟨0, 32, false⟩
def CH_FMTERR_COUNT : Fld := ⟨0, 32, false⟩
def CH_ABSENT_COUNT : Fld := ⟨0, 32, false⟩
def CH_CALG_Q : Fld := ⟨32, 18, true⟩
def CH_CALG_I : Fld := ⟨0, 18, true⟩
def CH_CALD_Q : Fld := ⟨32, 18, true⟩
def CH_CALD_I : Fld := ⟨0, 18, true⟩
def CH_WB_CTRL_RESTORE : Fld := ⟨1, 1, false⟩
def CH_WB_CTRL_SYNC : Fld := ⟨0, 1, false⟩
def CH_WB_STATUS_UNIT : Fld := ⟨8, 4, false⟩
def CH_WB_STATUS_RESTORE_FAIL : Fld := ⟨6, 1, false⟩
def CH_WB_STATUS_ABSENT : Fld := ⟨5, 1, false⟩
def CH_WB_STATUS_ZEROING : Fld := ⟨4, 1, false⟩
def CH_WB_STATUS_PENDING : Fld := ⟨3, 1, false⟩
def CH_WB_STATUS_LOCK : Fld := ⟨2, 1, false⟩
def CH_WB_STATUS_SYNC_BUSY : Fld := ⟨1, 1, false⟩
def CH_WB_STATUS_DIRTY : Fld := ⟨0, 1, false⟩
def CH_WB_CECC_COUNT : Fld := ⟨0, 32, false⟩
def CH_WB_UECC_COUNT : Fld := ⟨0, 32, false⟩
def CH_WB_DROP_COUNT : Fld := ⟨0, 32, false⟩
def CH_WB_PDROP_COUNT : Fld := ⟨0, 32, false⟩
def CH_WB_DIGEST_DIGEST : Fld := ⟨0, 64, false⟩
def CH_SPARE_CTRL_GO : Fld := ⟨31, 1, false⟩
def CH_SPARE_CTRL_REINSTATE : Fld := ⟨30, 1, false⟩
def CH_SPARE_CTRL_THRESH : Fld := ⟨20, 4, false⟩
def CH_SPARE_CTRL_TARGET : Fld := ⟨16, 2, false⟩
def CH_SPARE_CTRL_SPARE_UNIT : Fld := ⟨8, 4, false⟩
def CH_SPARE_CTRL_STATE : Fld := ⟨2, 2, false⟩
def CH_SPARE_CTRL_AUTO : Fld := ⟨0, 1, false⟩
def CH_SPARE_AT_TL : Fld := ⟨0, 64, false⟩
def CH_SPARE_LOG_RESULT : Fld := ⟨28, 4, false⟩
def CH_SPARE_LOG_CAUSE : Fld := ⟨24, 2, false⟩
def CH_SPARE_LOG_FROM : Fld := ⟨20, 4, false⟩
def CH_SPARE_LOG_TO : Fld := ⟨16, 4, false⟩
def CH_SPARE_LOG_GROUP : Fld := ⟨12, 4, false⟩
def CH_SPARE_LOG_FAULT_CODE : Fld := ⟨0, 8, false⟩
def VAT_BANK_STATUS_PEND : Fld := ⟨8, 5, false⟩
def VAT_BANK_STATUS_INIT : Fld := ⟨1, 1, false⟩
def VAT_BANK_STATUS_ON : Fld := ⟨0, 1, false⟩
def VAT_BANK_CECC_COUNT : Fld := ⟨0, 32, false⟩
def VAT_BANK_UECC_COUNT : Fld := ⟨0, 32, false⟩
def VAT_BANK_PDROP_COUNT : Fld := ⟨0, 32, false⟩
def VAT_BANK_ERRLOG_TYPE : Fld := ⟨62, 2, false⟩
def VAT_BANK_ERRLOG_WORD : Fld := ⟨40, 2, false⟩
def VAT_BANK_ERRLOG_SYNDROME : Fld := ⟨32, 8, false⟩
def VAT_BANK_ERRLOG_ROW : Fld := ⟨0, 20, false⟩
def VAT_BANK_REPAIR_USED : Fld := ⟨16, 12, false⟩
def VAT_BANK_REPAIR_EXH : Fld := ⟨15, 1, false⟩
def VAT_BANK_REPAIR_LAST_SUB : Fld := ⟨0, 11, false⟩
def VAT_ST_CECC_COUNT : Fld := ⟨0, 32, false⟩
def VAT_ST_UECC_COUNT : Fld := ⟨0, 32, false⟩
def VAT_ST_PDROP_COUNT : Fld := ⟨0, 32, false⟩
def VAT_EVENT_REPAIR : Fld := ⟨3, 1, false⟩
def VAT_EVENT_DROP : Fld := ⟨2, 1, false⟩
def VAT_EVENT_CECC : Fld := ⟨1, 1, false⟩
def VAT_EVENT_UECC : Fld := ⟨0, 1, false⟩
def VAT_RPR_REQ_GO : Fld := ⟨31, 1, false⟩
def VAT_RPR_REQ_BANK : Fld := ⟨20, 4, false⟩
def VAT_RPR_REQ_ROW : Fld := ⟨0, 20, false⟩
def VAT_QUOTA_UNITS : Fld := ⟨0, 16, true⟩
def VAT_PAIL_A_EN : Fld := ⟨63, 1, true⟩
def VAT_PAIL_A_ROLE : Fld := ⟨60, 3, true⟩
def VAT_PAIL_A_BANK : Fld := ⟨58, 2, true⟩
def VAT_PAIL_A_BASE : Fld := ⟨45, 13, true⟩
def VAT_PAIL_A_SIZE : Fld := ⟨32, 13, true⟩
def VAT_PAIL_A_SLICE : Fld := ⟨22, 10, true⟩
def VAT_PAIL_A_QPORT : Fld := ⟨17, 5, true⟩
def VAT_PAIL_A_FMT : Fld := ⟨12, 4, true⟩
def VAT_PAIL_B_STREAM_ID : Fld := ⟨48, 16, true⟩
def VAT_PAIL_B_EARLY : Fld := ⟨24, 24, true⟩
def VAT_PAIL_B_LATE : Fld := ⟨0, 24, true⟩
def VAT_PAIL_PTR_WR : Fld := ⟨32, 25, false⟩
def VAT_PAIL_PTR_RD : Fld := ⟨0, 25, false⟩
def VAT_PAIL_STAT_BLOCKS : Fld := ⟨12, 20, false⟩
def VAT_PAIL_STAT_FULL : Fld := ⟨7, 1, false⟩
def VAT_PAIL_STAT_LAST_DROP : Fld := ⟨0, 4, false⟩
def VAT_PAIL_DROP_COUNT : Fld := ⟨0, 32, false⟩
def VAT_PAIL_LATE_COUNT : Fld := ⟨0, 32, false⟩
def VAT_PAIL_POISON_COUNT : Fld := ⟨0, 32, false⟩
def DMA_SRC_ADDR : Fld := ⟨0, 64, false⟩
def DMA_DST_ADDR : Fld := ⟨0, 64, false⟩
def DMA_COUNT_COUNT : Fld := ⟨0, 32, false⟩
def DMA_FMT_STREAM_ID : Fld := ⟨16, 16, false⟩
def DMA_FMT_FMT : Fld := ⟨12, 4, false⟩
def DMA_RELEASE_TL : Fld := ⟨0, 64, false⟩
def DMA_NEXT_ADDR : Fld := ⟨0, 64, false⟩
def DMA_CTRL_START : Fld := ⟨31, 1, false⟩
def DMA_CTRL_STOP_REQ : Fld := ⟨30, 1, false⟩
def DMA_CTRL_CANCEL : Fld := ⟨29, 1, false⟩
def DMA_CTRL_CLR_ERR : Fld := ⟨28, 1, false⟩
def DMA_CTRL_PRIO : Fld := ⟨26, 2, false⟩
def DMA_CTRL_CHAIN : Fld := ⟨25, 1, false⟩
def DMA_CTRL_RECORD : Fld := ⟨24, 1, false⟩
def DMA_CTRL_IRQ : Fld := ⟨23, 1, false⟩
def DMA_CTRL_TIMED : Fld := ⟨22, 1, false⟩
def DMA_CTRL_DIR : Fld := ⟨21, 1, false⟩
def DMA_CTRL_RO : Fld := ⟨20, 1, false⟩
def DMA_CTRL_NS : Fld := ⟨19, 1, false⟩
def DMA_CTRL_TC : Fld := ⟨16, 3, false⟩
def DMA_CTRL_IRQV : Fld := ⟨0, 6, false⟩
def DMA_TAG_TAG : Fld := ⟨0, 32, false⟩
def DMA_REC_ADDR : Fld := ⟨0, 64, false⟩
def DMA_STAT_STATE : Fld := ⟨28, 4, false⟩
def DMA_STAT_PREV : Fld := ⟨24, 4, false⟩
def DMA_STAT_CODE : Fld := ⟨16, 8, false⟩
def DMA_STAT_DONE : Fld := ⟨15, 1, false⟩
def DMA_STAT_LATE : Fld := ⟨14, 1, false⟩
def DMA_STAT_HELD : Fld := ⟨13, 1, false⟩
def DMA_STAT_POISON : Fld := ⟨12, 1, false⟩
def DMA_STAT_STOPPED : Fld := ⟨11, 1, false⟩
def DMA_STAT_EMPTY : Fld := ⟨10, 1, false⟩
def DMA_STAT_REC_PEND : Fld := ⟨9, 1, false⟩
def DMA_STAT_IRQ_PEND : Fld := ⟨8, 1, false⟩
def DMA_STAT_START_IGN : Fld := ⟨0, 1, false⟩
def DMA_RETIRED_COUNT : Fld := ⟨0, 32, false⟩
def DMA_PROGRESS_MOVED : Fld := ⟨32, 32, false⟩
def DMA_PROGRESS_ISSUED : Fld := ⟨0, 32, false⟩
def DMA_CUR_ADDR : Fld := ⟨0, 64, false⟩
def DMA_LATENESS_TC : Fld := ⟨0, 32, false⟩
def DMA_WHEEL_E_EN : Fld := ⟨31, 1, true⟩
def DMA_WHEEL_E_BEATS : Fld := ⟨16, 2, true⟩
def DMA_WHEEL_E_SLICE : Fld := ⟨0, 10, true⟩
def DMA_WHEEL_STAT_OVER : Fld := ⟨31, 1, false⟩
def DMA_WHEEL_STAT_SUM : Fld := ⟨16, 12, false⟩
def DMA_WHEEL_STAT_BUDGET : Fld := ⟨0, 12, false⟩
def DMA_STGQ_BEATS : Fld := ⟨0, 16, true⟩
def DMA_OWN_EN : Fld := ⟨31, 1, true⟩
def DMA_OWN_SLICE : Fld := ⟨16, 10, true⟩
def DMA_OWN_SLOT : Fld := ⟨0, 8, true⟩
def DMA_EVGRP_CH : Fld := ⟨0, 32, false⟩
def AL_CTRL_EN : Fld := ⟨31, 1, true⟩
def AL_CTRL_RETRAIN : Fld := ⟨30, 1, false⟩
def AL_CTRL_SHEDDABLE : Fld := ⟨29, 1, true⟩
def AL_CTRL_PARTITIONED : Fld := ⟨28, 1, true⟩
def AL_CTRL_TOD_EN : Fld := ⟨27, 1, false⟩
def AL_STAT_TSTATE : Fld := ⟨24, 4, false⟩
def AL_STAT_BUSW : Fld := ⟨10, 2, false⟩
def AL_STAT_CAL_STALE : Fld := ⟨9, 1, false⟩
def AL_STAT_RESYNC_BUSY : Fld := ⟨8, 1, false⟩
def AL_STAT_AUDIT_LATE : Fld := ⟨7, 1, false⟩
def AL_STAT_PRESENT : Fld := ⟨6, 1, false⟩
def AL_STAT_CDR1 : Fld := ⟨5, 1, false⟩
def AL_STAT_CDR0 : Fld := ⟨4, 1, false⟩
def AL_STAT_FRAME_LOCK : Fld := ⟨3, 1, false⟩
def AL_EVENT_LAST_LINK : Fld := ⟨24, 8, false⟩
def AL_EVENT_LAST_TIMING : Fld := ⟨16, 8, false⟩
def AL_EVENT_LAST_ERR : Fld := ⟨8, 8, false⟩
def AL_EVENT_TIMING : Fld := ⟨2, 1, false⟩
def AL_EVENT_ERR : Fld := ⟨1, 1, false⟩
def AL_EVENT_LINK : Fld := ⟨0, 1, false⟩
def AL_LANEMAP_LANE1 : Fld := ⟨8, 5, false⟩
def AL_LANEMAP_LANE0 : Fld := ⟨0, 5, false⟩
def AL_RTD_RTT : Fld := ⟨0, 32, false⟩
def AL_OWD_OWD : Fld := ⟨0, 32, false⟩
def AL_ASYM_ASYM : Fld := ⟨0, 32, false⟩
def AL_LETOD_ERR_ERR : Fld := ⟨0, 32, false⟩
def AL_CALPER_FRAMES : Fld := ⟨0, 32, false⟩
def AL_CALTOL_TOL : Fld := ⟨0, 32, false⟩
def AL_EPOCH_RX_EPOCH : Fld := ⟨0, 16, false⟩
def AL_LEDGER_SEL_CLASS : Fld := ⟨16, 2, false⟩
def AL_LEDGER_SEL_STREAM_ID : Fld := ⟨0, 16, false⟩
def AL_LEDGER_GRANTED : Fld := ⟨32, 32, false⟩
def AL_LEDGER_COUNT : Fld := ⟨0, 32, false⟩
def AL_LE_ID_ID : Fld := ⟨0, 64, false⟩
def AL_CORR_COUNT : Fld := ⟨0, 32, false⟩
def AL_UNCORR_COUNT : Fld := ⟨0, 32, false⟩
def AL_LANECORR0_COUNT : Fld := ⟨0, 32, false⟩
def AL_LANECORR1_COUNT : Fld := ⟨0, 32, false⟩
def AL_REPLAY_COUNT : Fld := ⟨0, 32, false⟩
def AL_RESYNC_COUNT : Fld := ⟨0, 32, false⟩
def AL_CRVIOL_COUNT : Fld := ⟨0, 32, false⟩
def AL_TRAINFAIL_COUNT : Fld := ⟨0, 32, false⟩
def AL_PROTO_COUNT : Fld := ⟨0, 32, false⟩
def AL_AUDIT_MAX_FRAMES : Fld := ⟨0, 32, false⟩
def AL_GRP_SPARE_CFG_REACH17 : Fld := ⟨8, 8, true⟩
def AL_GRP_SPARE_CFG_REACH16 : Fld := ⟨0, 8, true⟩
def AL_GRP_SPARE_STAT_USED17 : Fld := ⟨15, 1, false⟩
def AL_GRP_SPARE_STAT_PORT17 : Fld := ⟨12, 3, false⟩
def AL_GRP_SPARE_STAT_LLANE17 : Fld := ⟨11, 1, false⟩
def AL_GRP_SPARE_STAT_USED16 : Fld := ⟨7, 1, false⟩
def AL_GRP_SPARE_STAT_PORT16 : Fld := ⟨4, 3, false⟩
def AL_GRP_SPARE_STAT_LLANE16 : Fld := ⟨3, 1, false⟩
def AL_GRP_SPARE_THRESH_COUNT : Fld := ⟨0, 32, false⟩
def AL_WIN_CTRL_EN : Fld := ⟨31, 1, true⟩
def AL_WIN_CTRL_SLICE_EN : Fld := ⟨30, 1, true⟩
def AL_WIN_CTRL_SWAP : Fld := ⟨28, 2, true⟩
def AL_WIN_CTRL_HTO : Fld := ⟨26, 2, true⟩
def AL_WIN_CTRL_SLICE : Fld := ⟨0, 10, true⟩
def AL_WIN_HOSTS_LINKS : Fld := ⟨0, 32, true⟩
def AL_WINR_EN : Fld := ⟨63, 1, true⟩
def AL_WINR_RD : Fld := ⟨62, 1, true⟩
def AL_WINR_WR : Fld := ⟨61, 1, true⟩
def AL_WINR_BASE : Fld := ⟨32, 16, true⟩
def AL_WINR_SIZE : Fld := ⟨0, 17, true⟩
def AL_UPR_BASE : Fld := ⟨12, 52, true⟩
def AL_UPR_LOG2SIZE : Fld := ⟨6, 6, true⟩
def AL_UPR_EN : Fld := ⟨2, 1, true⟩
def AL_UPR_WR : Fld := ⟨1, 1, true⟩
def AL_UPR_RD : Fld := ⟨0, 1, true⟩
def AL_BR_STAT_HOST_OUT : Fld := ⟨16, 8, false⟩
def AL_BR_STAT_RETRY_OUT : Fld := ⟨8, 7, false⟩
def AL_BR_HREJ_COUNT : Fld := ⟨0, 32, false⟩
def AL_BR_HTO_COUNT : Fld := ⟨0, 32, false⟩
def AL_BR_LREJ_COUNT : Fld := ⟨0, 32, false⟩
def AL_BR_LIMIT_COUNT : Fld := ⟨0, 32, false⟩
def AL_BR_DISCARD_COUNT : Fld := ⟨0, 32, false⟩
def AL_BR_STALE_COUNT : Fld := ⟨0, 32, false⟩
def AL_BR_LOST_COUNT : Fld := ⟨0, 32, false⟩
def HL_PORT_CFG_L1SS_EN : Fld := ⟨7, 1, false⟩
def HL_PORT_CFG_MAX_RATE : Fld := ⟨4, 3, false⟩
def HL_PORT_CFG_BIF_NEXT : Fld := ⟨0, 2, false⟩
def HL_PORT_STAT_BIF : Fld := ⟨8, 2, false⟩
def HL_PORT_STAT_ON : Fld := ⟨3, 1, false⟩
def HL_PORT_STAT_CLKREQ : Fld := ⟨2, 1, false⟩
def HL_PORT_STAT_REFCLK_OK : Fld := ⟨1, 1, false⟩
def HL_PORT_STAT_PERST : Fld := ⟨0, 1, false⟩
def HL_PORT_CTRL_RETRAIN : Fld := ⟨0, 1, false⟩
def HL_LINK_STAT_LSTATE : Fld := ⟨24, 4, false⟩
def HL_LINK_STAT_RATE : Fld := ⟨21, 3, false⟩
def HL_LINK_STAT_WIDTH : Fld := ⟨16, 5, false⟩
def HL_LINK_STAT_FLIT : Fld := ⟨15, 1, false⟩
def HL_LINK_STAT_DLUP : Fld := ⟨14, 1, false⟩
def HL_LINK_STAT_BME : Fld := ⟨13, 1, false⟩
def HL_LINK_STAT_MSE : Fld := ⟨12, 1, false⟩
def HL_LINK_STAT_DSTATE : Fld := ⟨10, 2, false⟩
def HL_LINK_STAT_PASID_EN : Fld := ⟨9, 1, false⟩
def HL_LINK_STAT_ATS_EN : Fld := ⟨8, 1, false⟩
def HL_LINK_STAT_PRESENT : Fld := ⟨7, 1, false⟩
def HL_LINK_STAT_MGR : Fld := ⟨6, 1, false⟩
def HL_LINK_STAT_L1_HELD : Fld := ⟨5, 1, false⟩
def HL_LINK_STAT_NARROW_OVER : Fld := ⟨4, 1, false⟩
def HL_LINK_PMCFG_L0P_EN : Fld := ⟨31, 1, false⟩
def HL_LINK_PMCFG_L1_EN : Fld := ⟨30, 1, false⟩
def HL_LINK_EVENT_LAST_LINK : Fld := ⟨24, 8, false⟩
def HL_LINK_EVENT_LAST_RESET : Fld := ⟨16, 8, false⟩
def HL_LINK_EVENT_MASTER : Fld := ⟨3, 1, false⟩
def HL_LINK_EVENT_RESET : Fld := ⟨2, 1, false⟩
def HL_LINK_EVENT_ERR : Fld := ⟨1, 1, false⟩
def HL_LINK_EVENT_LINK : Fld := ⟨0, 1, false⟩
def HL_LINK_L1EXIT_TC : Fld := ⟨0, 24, false⟩
def HL_LINK_IDLE_TC : Fld := ⟨0, 24, false⟩
def HL_LINK_RECOV_COUNT : Fld := ⟨0, 32, false⟩
def HL_LINK_REPLAY_COUNT : Fld := ⟨0, 32, false⟩
def HL_LINK_L1ENT_COUNT : Fld := ⟨0, 32, false⟩
def HL_LINK_L1HOLD_COUNT : Fld := ⟨0, 32, false⟩
def HL_LINK_FLR_COUNT : Fld := ⟨0, 32, false⟩
def HL_GLOBAL_MGR_LINK : Fld := ⟨0, 5, false⟩
def EV_ROUTE_VEC_EN : Fld := ⟨31, 1, true⟩
def EV_ROUTE_AER_EN : Fld := ⟨30, 1, true⟩
def EV_ROUTE_AER_SEV : Fld := ⟨29, 1, true⟩
def EV_ROUTE_ALERT_EN : Fld := ⟨28, 1, true⟩
def EV_ROUTE_LOG_EN : Fld := ⟨27, 1, true⟩
def EV_ROUTE_LINK : Fld := ⟨16, 5, true⟩
def EV_ROUTE_VECTOR : Fld := ⟨0, 11, true⟩
def EV_RAISED_RAISED : Fld := ⟨0, 32, false⟩
def EV_CNT_COUNT : Fld := ⟨0, 32, false⟩
def EV_ALERT_ALERT : Fld := ⟨31, 1, false⟩
def EV_ALERT_COUNT : Fld := ⟨16, 10, false⟩
def EV_ALERT_FIRST : Fld := ⟨0, 10, false⟩
def EV_INJECT_GO : Fld := ⟨31, 1, false⟩
def EV_INJECT_SOURCE : Fld := ⟨0, 10, false⟩
def SL_BIND_EN : Fld := ⟨31, 1, true⟩
def SL_BIND_LINK : Fld := ⟨24, 5, true⟩
def SL_BIND_PASID : Fld := ⟨0, 20, true⟩
def SL_VECMAP_COUNT : Fld := ⟨16, 7, true⟩
def SL_VECMAP_BASE : Fld := ⟨0, 11, true⟩
def SL_CTRL_KILL : Fld := ⟨1, 1, false⟩
def SL_CTRL_FENCE : Fld := ⟨0, 1, false⟩
def SL_STAT_QUIET : Fld := ⟨8, 1, false⟩
def SL_STAT_COVERED : Fld := ⟨7, 1, false⟩
def SL_STAT_OPEN_WINDOW : Fld := ⟨3, 1, false⟩
def SL_STAT_WHEEL_OVER : Fld := ⟨2, 1, false⟩
def SL_STAT_SHARED_PORT : Fld := ⟨1, 1, false⟩
def SL_STAT_PASID_OFF : Fld := ⟨0, 1, false⟩
def SL_MBOX_STAT_OUT_FULL : Fld := ⟨31, 1, false⟩
def SL_MBOX_STAT_IN_FULL : Fld := ⟨30, 1, false⟩
def SL_MBOX_STAT_IN_OVR : Fld := ⟨29, 1, false⟩
def SL_MBOX_STAT_LOST : Fld := ⟨28, 1, false⟩
def SL_MBOX_STAT_OUT_LEN : Fld := ⟨13, 13, false⟩
def SL_MBOX_STAT_IN_LEN : Fld := ⟨0, 13, false⟩
def SL_IRQDROP_COUNT : Fld := ⟨0, 32, false⟩
def SL_CWHEEL_EN : Fld := ⟨31, 1, true⟩
def SL_CWHEEL_SLICE : Fld := ⟨0, 10, true⟩
def SL_MBPEND_PEND : Fld := ⟨0, 32, false⟩
def SL_CELL_EN : Fld := ⟨31, 1, true⟩
def SL_CELL_FIRST : Fld := ⟨20, 4, true⟩
def SL_CELL_COUNT : Fld := ⟨12, 5, true⟩
def SL_CELL_SLICE : Fld := ⟨0, 10, true⟩
def UM_CTRL_RESET : Fld := ⟨0, 1, false⟩
def UM_STAT_SB_QUEUED : Fld := ⟨8, 3, false⟩
def UM_STAT_EXEC : Fld := ⟨3, 1, false⟩
def UM_STAT_RING_FULL : Fld := ⟨2, 1, false⟩
def UM_STAT_PTR_ERR : Fld := ⟨1, 1, false⟩
def UM_STAT_OPEN : Fld := ⟨0, 1, false⟩
def UM_SQ_HEAD_PTR : Fld := ⟨0, 15, false⟩
def UM_SQ_TAIL_PTR : Fld := ⟨0, 15, false⟩
def UM_RQ_HEAD_PTR : Fld := ⟨0, 15, false⟩
def UM_RQ_TAIL_PTR : Fld := ⟨0, 15, false⟩
def UM_GEN_STAT_LAST_REFUSAL : Fld := ⟨16, 16, false⟩
def UM_GEN_STAT_OWNER : Fld := ⟨2, 1, false⟩
def UM_GEN_STAT_STATE : Fld := ⟨0, 2, false⟩
def UM_GEN_SEQ_SEQ : Fld := ⟨0, 32, false⟩
def UM_GEN_AT_TL : Fld := ⟨0, 64, false⟩
def UM_RWG_DROP_COUNT : Fld := ⟨0, 32, false⟩
def UM_BADPKT_COUNT : Fld := ⟨0, 32, false⟩
def UM_GEN_DIGEST_DIGEST : Fld := ⟨0, 64, false⟩
def UM_GEN_HDIGEST_DIGEST : Fld := ⟨0, 64, false⟩
def TW_ROLE_STRAP : Fld := ⟨2, 2, false⟩
def TW_ROLE_ROLE : Fld := ⟨0, 2, false⟩
def TW_CFG_FIRST_ACTIVE : Fld := ⟨31, 1, true⟩
def TW_CFG_MISS_LIMIT : Fld := ⟨0, 5, false⟩
def TW_CTRL_PEER_RESET : Fld := ⟨2, 1, false⟩
def TW_CTRL_RESYNC : Fld := ⟨1, 1, false⟩
def TW_CTRL_JOIN : Fld := ⟨0, 1, false⟩
def TW_STAT_PEER_MODE : Fld := ⟨24, 4, false⟩
def TW_STAT_PEER_ROLE : Fld := ⟨22, 2, false⟩
def TW_STAT_PAIR : Fld := ⟨20, 2, false⟩
def TW_STAT_SYNC : Fld := ⟨19, 1, false⟩
def TW_STAT_PEER_SEEN : Fld := ⟨18, 1, false⟩
def TW_STAT_MISS : Fld := ⟨0, 5, false⟩
def TW_EVENT_EV : Fld := ⟨0, 16, false⟩
def TW_EPOCH_PEER : Fld := ⟨16, 16, false⟩
def TW_EPOCH_EPOCH : Fld := ⟨0, 16, false⟩
def TW_LAG_TC : Fld := ⟨0, 32, false⟩
def TW_SWO_LIMIT_TC : Fld := ⟨0, 32, false⟩
def TW_TAKEOVER_AT_TL : Fld := ⟨0, 64, false⟩
def CL_HERD_CFG_EN : Fld := ⟨31, 1, false⟩
def CL_HERD_CFG_ADDR : Fld := ⟨0, 12, false⟩
def CL_HERD_GUARD_TC : Fld := ⟨0, 32, false⟩
def CL_ABORT_LATE_COUNT : Fld := ⟨0, 32, false⟩
def CL_PORT_CFG_EN : Fld := ⟨31, 1, false⟩
def CL_PORT_CFG_TIME_OUT : Fld := ⟨30, 1, false⟩
def CL_PORT_CFG_COMMIT_EXCL : Fld := ⟨29, 1, false⟩
def CL_PORT_CFG_RETRAIN : Fld := ⟨28, 1, false⟩
def CL_PORT_CFG_PHASE_SRC : Fld := ⟨26, 2, false⟩
def CL_PORT_STAT_TSTATE : Fld := ⟨24, 4, false⟩
def CL_PORT_STAT_NBR_ADDR : Fld := ⟨12, 12, false⟩
def CL_PORT_STAT_PHASE : Fld := ⟨7, 5, false⟩
def CL_PORT_STAT_RXPHASE : Fld := ⟨2, 5, false⟩
def CL_PORT_STAT_SPARE_USED : Fld := ⟨1, 1, false⟩
def CL_PORT_STAT_NBR_VALID : Fld := ⟨0, 1, false⟩
def CL_PORT_RTD_RTT : Fld := ⟨0, 32, false⟩
def CL_PORT_OWD_OWD : Fld := ⟨0, 32, false⟩
def CL_PORT_ASYM_ASYM : Fld := ⟨0, 32, false⟩
def CL_PORT_CALPER_FRAMES : Fld := ⟨0, 32, false⟩
def CL_PORT_CORR_COUNT : Fld := ⟨0, 32, false⟩
def CL_PORT_UNCORR_COUNT : Fld := ⟨0, 32, false⟩
def CL_PORT_REPLAY_COUNT : Fld := ⟨0, 32, false⟩
def CL_PORT_PROTO_COUNT : Fld := ⟨0, 32, false⟩
def CL_PORT_TRAINFAIL_COUNT : Fld := ⟨0, 32, false⟩
def PW_MODE_TRIGGER : Fld := ⟨16, 8, false⟩
def PW_MODE_PREV : Fld := ⟨8, 4, false⟩
def PW_MODE_IN_TRANSIT : Fld := ⟨4, 1, false⟩
def PW_MODE_MODE : Fld := ⟨0, 4, false⟩
def PW_AON_STAMP_STAMP : Fld := ⟨0, 64, false⟩
def PW_ON_ON : Fld := ⟨0, 64, false⟩
def PW_FORCED_FORCED : Fld := ⟨0, 64, false⟩
def PW_WAKE_EN_HOST_PORTS : Fld := ⟨24, 8, false⟩
def PW_WAKE_EN_SRC : Fld := ⟨1, 10, false⟩
def PW_WAKE_LAST_CODE : Fld := ⟨24, 4, false⟩
def PW_WAKE_LAST_PORT : Fld := ⟨16, 3, false⟩
def PW_WAKE_LAST_ALL : Fld := ⟨0, 11, false⟩
def PW_WAKE_STAMP_STAMP : Fld := ⟨0, 64, false⟩
def PW_WAKE_GPIO_LEVEL : Fld := ⟨16, 16, false⟩
def PW_WAKE_GPIO_EN : Fld := ⟨0, 16, false⟩
def PW_SB_ADDR_ADDR : Fld := ⟨0, 7, false⟩
def PW_ENTRY_RESULT : Fld := ⟨28, 4, false⟩
def PW_ENTRY_STEP : Fld := ⟨24, 4, false⟩
def PW_ENTRY_DOMAIN : Fld := ⟨16, 6, false⟩
def PW_ENTRY_TARGET : Fld := ⟨8, 4, false⟩
def PW_ENTRY_ABORTS : Fld := ⟨0, 8, false⟩
def PW_EVENT_EV : Fld := ⟨0, 24, false⟩
def PW_DOZE_PERIOD_MS : Fld := ⟨0, 14, true⟩
def PW_DOZE_THR_LO_EN : Fld := ⟨31, 1, true⟩
def PW_DOZE_THR_REF_EN : Fld := ⟨30, 1, true⟩
def PW_DOZE_THR_PRES_EN : Fld := ⟨29, 1, true⟩
def PW_DOZE_THR_THR_LO : Fld := ⟨8, 8, true⟩
def PW_DOZE_THR_THR_HI : Fld := ⟨0, 8, true⟩
def PW_DOZE_PMASK_PORTS : Fld := ⟨0, 32, true⟩
def PW_DOZE_STAT_SAMPLES : Fld := ⟨8, 24, false⟩
def PW_DOZE_STAT_MAX_T : Fld := ⟨0, 8, false⟩
def PW_DVOTE_HOLDERS : Fld := ⟨0, 64, false⟩
def PW_HVOTE_DOMAINS : Fld := ⟨0, 64, false⟩
def PW_SUP_STAT_WARN : Fld := ⟨31, 1, false⟩
def PW_SUP_STAT_SHED : Fld := ⟨30, 1, false⟩
def PW_SUP_STAT_STRETCH : Fld := ⟨29, 1, false⟩
def PW_SUP_STAT_HIGH : Fld := ⟨8, 7, false⟩
def PW_SUP_STAT_LOW : Fld := ⟨0, 7, false⟩
def PW_SUP_CFG_SHED_DLY : Fld := ⟨0, 16, false⟩
def PW_STEVENT_EV : Fld := ⟨0, 12, false⟩
def PW_SUP_GLITCH_COUNT : Fld := ⟨0, 32, false⟩
def PW_DIP_DUR : Fld := ⟨32, 16, false⟩
def PW_DIP_RAIL : Fld := ⟨24, 3, false⟩
def PW_DIP_OPEN : Fld := ⟨23, 1, false⟩
def PW_DIP_RESET_LEVEL : Fld := ⟨22, 1, false⟩
def PW_DIP_MIN_MV : Fld := ⟨0, 12, false⟩
def PW_DIP_AT_TL : Fld := ⟨0, 64, false⟩
def PW_DIP_STAMP_STAMP : Fld := ⟨0, 64, false⟩
def PW_DIP_CNT_COUNT : Fld := ⟨0, 32, false⟩
def PW_THERM_STAT_MAX_T : Fld := ⟨24, 8, false⟩
def PW_THERM_STAT_HOT : Fld := ⟨20, 4, false⟩
def PW_THERM_STAT_LEVEL : Fld := ⟨16, 2, false⟩
def PW_THERM_STAT_FAULT : Fld := ⟨0, 16, false⟩
def PW_SHED_STAT_REST_REFUSED : Fld := ⟨63, 1, false⟩
def PW_SHED_STAT_UNSHED : Fld := ⟨48, 12, false⟩
def PW_SHED_STAT_SUP_SHED : Fld := ⟨32, 12, false⟩
def PW_SHED_STAT_TH_SHED : Fld := ⟨0, 12, false⟩
def PW_SHED_CTRL_RESTORE : Fld := ⟨0, 12, false⟩
def PW_TEMP_T : Fld := ⟨0, 32, false⟩
def RS_CAUSE_PREV_MODE : Fld := ⟨24, 4, false⟩
def RS_CAUSE_DETAIL : Fld := ⟨16, 8, false⟩
def RS_CAUSE_CODE : Fld := ⟨0, 8, false⟩
def RS_CAUSE_STAMP_STAMP : Fld := ⟨0, 64, false⟩
def RS_CAUSE_TL_TL : Fld := ⟨0, 64, false⟩
def RS_STRAP_PREV_VALID : Fld := ⟨23, 1, false⟩
def RS_STRAP_PREV_BAND : Fld := ⟨19, 4, false⟩
def RS_STRAP_BOOT : Fld := ⟨17, 2, false⟩
def RS_STRAP_ROLE : Fld := ⟨15, 2, false⟩
def RS_STRAP_BETWEEN : Fld := ⟨14, 1, false⟩
def RS_STRAP_BAND : Fld := ⟨10, 4, false⟩
def RS_STRAP_CODE : Fld := ⟨0, 6, false⟩
def RS_BOOT_RESULT : Fld := ⟨28, 4, false⟩
def RS_BOOT_PATH : Fld := ⟨26, 2, false⟩
def RS_BOOT_SOURCE : Fld := ⟨24, 2, false⟩
def RS_BOOT_FALLBACK : Fld := ⟨23, 1, false⟩
def RS_BOOT_CLPORT : Fld := ⟨16, 2, false⟩
def RS_BOOT_LAST_FAIL : Fld := ⟨8, 4, false⟩
def RS_BOOT_SLOTB : Fld := ⟨4, 4, false⟩
def RS_BOOT_SLOTA : Fld := ⟨0, 4, false⟩
def RS_BRINGUP_LAST_DOMAIN : Fld := ⟨16, 6, false⟩
def RS_BRINGUP_DONE : Fld := ⟨8, 1, false⟩
def RS_BRINGUP_RESTARTS : Fld := ⟨0, 8, false⟩
def RS_EVENT_EV : Fld := ⟨0, 12, false⟩
def RS_COUNT_COUNT : Fld := ⟨0, 32, false⟩
def RS_GLITCH_COUNT : Fld := ⟨0, 32, false⟩
def SEC_STATE_FUSE_V : Fld := ⟨19, 1, false⟩
def SEC_STATE_LC_PEND : Fld := ⟨18, 1, false⟩
def SEC_STATE_KEY_ID : Fld := ⟨17, 1, false⟩
def SEC_STATE_UDS_OK : Fld := ⟨16, 1, false⟩
def SEC_STATE_DBG : Fld := ⟨8, 2, false⟩
def SEC_STATE_LC : Fld := ⟨0, 3, false⟩
def SEC_ARB_COUNT : Fld := ⟨0, 7, false⟩
def SEC_DBG_CTRL_LOCK : Fld := ⟨1, 1, false⟩
def SEC_DBG_CTRL_HOLD : Fld := ⟨0, 1, false⟩
def SEC_TAMPER_CFG_LVL7 : Fld := ⟨14, 2, true⟩
def SEC_TAMPER_CFG_LVL6 : Fld := ⟨12, 2, true⟩
def SEC_TAMPER_CFG_LVL5 : Fld := ⟨10, 2, true⟩
def SEC_TAMPER_CFG_LVL4 : Fld := ⟨8, 2, true⟩
def SEC_TAMPER_CFG_LVL : Fld := ⟨0, 8, true⟩
def SEC_TAMPER_STAT_LAST : Fld := ⟨16, 3, false⟩
def SEC_TAMPER_STAT_LATCH : Fld := ⟨0, 8, false⟩
def SEC_TAMPER_CNT_COUNT : Fld := ⟨0, 32, false⟩
def SEC_RNG_STAT_LAST_TEST : Fld := ⟨6, 2, false⟩
def SEC_RNG_STAT_RESTARTS : Fld := ⟨4, 2, false⟩
def SEC_RNG_STAT_STATE : Fld := ⟨0, 2, false⟩
def SEC_RNG_CTRL_RETRY : Fld := ⟨0, 1, false⟩
def SEC_RNG_FAILS_COUNT : Fld := ⟨0, 32, false⟩
def SEC_CE_INVALID_COUNT : Fld := ⟨0, 32, false⟩
def SEC_EVENT_EV : Fld := ⟨0, 16, false⟩
def SEC_TDI_STATE : Fld := ⟨0, 32, false⟩
def LOG_SEQ_SEQ : Fld := ⟨0, 32, false⟩
def LOG_RDSEQ_SEQ : Fld := ⟨0, 32, false⟩
def LOG_STAT_OVERRUN : Fld := ⟨31, 1, false⟩
def LOG_STAT_QUEUE : Fld := ⟨12, 9, false⟩
def LOG_STAT_UNREAD : Fld := ⟨0, 12, false⟩
def LOG_LOST_COUNT : Fld := ⟨0, 32, false⟩
def LOG_OVERWRITTEN_COUNT : Fld := ⟨0, 32, false⟩
def PIN_GPIO_DIR_OE : Fld := ⟨0, 16, false⟩
def PIN_GPIO_OUT_OUT : Fld := ⟨0, 16, false⟩
def PIN_GPIO_IN_IN : Fld := ⟨0, 16, false⟩
def PIN_GPIO_DRV_DRV : Fld := ⟨0, 32, false⟩
def PIN_GPIO_OD_OD : Fld := ⟨0, 16, false⟩
def PIN_LEVELS_CLKREQ_N : Fld := ⟨24, 8, false⟩
def PIN_LEVELS_PERST_N : Fld := ⟨16, 8, false⟩
def PIN_LEVELS_TREF_PPS : Fld := ⟨12, 1, false⟩
def PIN_LEVELS_ALERT_N : Fld := ⟨11, 1, false⟩
def PIN_LEVELS_SB_BUSY : Fld := ⟨10, 1, false⟩
def PIN_LEVELS_RESET_N : Fld := ⟨9, 1, false⟩
def PIN_LEVELS_TAMPER_N : Fld := ⟨0, 4, false⟩
def PIN_TXINH_LEVEL : Fld := ⟨0, 12, false⟩

end F

/-- Register rows of the timeline (spec file 02). -/
def rowsTL : List RegRow := [
  ⟨0x2000, [], 8, 0, 0, 0, 0, 0, 0, 0xffffffffffffffff, 0x0, fun _ => 0x0, .tk, false, false⟩,
  ⟨0x2008, [], 4, 0, 0, 0, 0, 0, 0, 0xf0fcf3, 0x0, fun _ => 0x0, .tk, true, false⟩,
  ⟨0x200c, [], 4, 0, 0, 0, 0, 0, 0x3, 0, 0x0, fun _ => 0x0, .tk, true, false⟩,
  ⟨0x2010, [], 4, 0xff0ff787, 0, 0, 0, 0, 0, 0, 0x0, fun _ => 0x8022002, .tk, true, false⟩,
  ⟨0x2014, [], 4, 0x7fffffff, 0, 0, 0, 0, 0, 0, 0x0, fun _ => 0x0, .tk, true, false⟩,
  ⟨0x2018, [], 4, 0xffffffff, 0, 0, 0, 0, 0, 0, 0x0, fun _ => 0x0, .tk, true, false⟩,
  ⟨0x201c, [], 4, 0, 0, 0, 0, 0, 0, 0xffffffff, 0x0, fun _ => 0x0, .tk, true, false⟩,
  ⟨0x2020, [], 8, 0, 0, 0, 0, 0, 0, 0xffffffffffffffff, 0x0, fun _ => 0x0, .tk, true, false⟩,
  ⟨0x2028, [], 8, 0, 0, 0, 0, 0, 0, 0xffffffffffffffff, 0x0, fun _ => 0x0, .tk, true, false⟩,
  ⟨0x2030, [], 8, 0, 0, 0, 0, 0, 0, 0xffffffffffffffff, 0x0, fun _ => 0xffffffffffffffff, .tk, true, false⟩,
  ⟨0x2038, [], 4, 0xffffff, 0, 0, 0, 0, 0, 0, 0x0, fun _ => 0x800, .tk, true, false⟩,
  ⟨0x203c, [], 4, 0xffffffff, 0, 0, 0, 0, 0, 0, 0x0, fun _ => 0x12c0000, .tk, true, false⟩,
  ⟨0x2040, [], 4, 0xffffffff, 0, 0, 0, 0, 0, 0, 0x0, fun _ => 0x780000, .tk, true, false⟩,
  ⟨0x2044, [], 4, 0, 0, 0, 0, 0, 0, 0xffffffff, 0x0, fun _ => 0x4ea4a9, .tk, true, false⟩,
  ⟨0x2048, [], 8, 0, 0, 0, 0, 0, 0, 0xffffffffffff, 0x0, fun _ => 0x0, .tk, true, false⟩,
  ⟨0x2050, [(4, 0x8)], 8, 0, 0, 0, 0, 0, 0, 0xffffffffffff, 0x0, fun _ => 0x0, .tk, true, false⟩,
  ⟨0x2070, [], 8, 0, 0, 0, 0, 0, 0, 0xffffffffffff, 0x0, fun _ => 0x0, .tk, true, false⟩,
  ⟨0x2100, [(32, 0x4)], 4, 0, 0, 0, 0, 0xffffffff, 0, 0, 0x0, fun _ => 0x0, .tk, true, false⟩,
  ⟨0x2200, [(4, 0x20)], 8, 0xffffffffffffffff, 0, 0, 0, 0, 0, 0, 0x0, fun _ => 0x0, .tk, true, false⟩,
  ⟨0x2208, [(4, 0x20)], 4, 0xffffffff, 0, 0, 0, 0, 0, 0, 0x0, fun _ => 0x0, .tk, true, false⟩,
  ⟨0x220c, [(4, 0x20)], 4, 0x3, 0xc, 0, 0, 0, 0, 0, 0x0, fun _ => 0x0, .tk, true, false⟩,
  ⟨0x3000, [(96, 0x4)], 4, 0, 0, 0, 0, 0x1fff, 0, 0, 0x280, fun _ => 0x0, .tk, true, false⟩,
  ⟨0x3200, [(32, 0x4)], 4, 0, 0, 0, 0, 0x1fff, 0, 0, 0x280, fun _ => 0x0, .tk, true, false⟩,
  ⟨0x3400, [(96, 0x10)], 4, 0, 0, 0, 0, 0, 0, 0xffffffff, 0x0, fun _ => 0x0, .tk, true, false⟩,
  ⟨0x3404, [(96, 0x10)], 4, 0, 0, 0, 0, 0, 0, 0xffffffff, 0x0, fun _ => 0x0, .tk, true, false⟩,
  ⟨0x3408, [(96, 0x10)], 4, 0xffffff, 0, 0, 0, 0, 0, 0, 0x0, fun _ => 0x0, .tk, true, false⟩]

/-- Register rows of the Churn (spec file 04). -/
def rowsCH : List RegRow := [
  ⟨0x400000, [(16, 0x40000)], 4, 0, 0, 0, 0, 0, 0, 0xf00010, 0x0, fun l => let i := fun j => l.getD j 0; 0x0 + (if i 0 % 4 = 3 then 0xF else 3 * (i 0 / 4) + i 0 % 4) <<< 20 + (i 0 / 4) <<< 16 + (if i 0 % 4 = 3 then 1 else 0) <<< 4 + (i 0) <<< 0, .churn, true, false⟩,
  ⟨0x400004, [(16, 0x40000)], 4, 0, 0, 0, 0, 0x177, 0, 0, 0x11, fun _ => 0x0, .churn, true, false⟩,
  ⟨0x400008, [(16, 0x40000)], 4, 0, 0, 0, 0, 0, 0, 0x30f, 0x0, fun _ => 0x0, .churn, false, false⟩,
  ⟨0x40000c, [(16, 0x40000)], 4, 0, 0xf, 0, 0, 0, 0, 0, 0x0, fun _ => 0x0, .churn, true, false⟩,
  ⟨0x400010, [(16, 0x40000)], 4, 0, 0, 0, 0, 0, 0, 0x8fff, 0x0, fun _ => 0x0, .churn, true, false⟩,
  ⟨0x400018, [(16, 0x40000)], 8, 0, 0, 0, 0, 0, 0, 0xffffffffffff, 0x0, fun _ => 0x0, .churn, true, false⟩,
  ⟨0x400020, [(16, 0x40000)], 8, 0, 0, 0, 0, 0, 0, 0xffffffffffff, 0x0, fun _ => 0x0, .churn, true, false⟩,
  ⟨0x401000, [(16, 0x40000), (16, 0x8)], 4, 0, 0, 0, 0, 0xff80ffff, 0, 0, 0xa000000, fun _ => 0x0, .churn, true, false⟩,
  ⟨0x401004, [(16, 0x40000), (16, 0x8)], 4, 0, 0, 0, 0, 0xffff7f7f, 0, 0, 0x101, fun _ => 0x0, .churn, true, false⟩,
  ⟨0x402000, [(16, 0x40000), (16, 0x8)], 4, 0, 0, 0, 0, 0xff80ffff, 0, 0, 0xa000000, fun _ => 0x0, .churn, true, false⟩,
  ⟨0x402004, [(16, 0x40000), (16, 0x8)], 4, 0, 0, 0, 0, 0xffff7f7f, 0, 0, 0x101, fun _ => 0x0, .churn, true, false⟩,
  ⟨0x410000, [(16, 0x40000), (256, 0x10)], 8, 0, 0, 0, 0, 0xffffffffc000ffff, 0, 0, 0x3200000000000, fun _ => 0x0, .churn, true, false⟩,
  ⟨0x410008, [(16, 0x40000), (256, 0x10)], 4, 0, 0, 0, 0, 0xffff, 0, 0, 0x100, fun _ => 0x0, .churn, true, false⟩,
  ⟨0x420000, [(16, 0x40000), (256, 0x20)], 4, 0, 0, 0, 0xffffffff, 0, 0, 0, 0x0, fun _ => 0x0, .churn, true, false⟩,
  ⟨0x420004, [(16, 0x40000), (256, 0x20)], 4, 0, 0, 0, 0xffffffff, 0, 0, 0, 0x0, fun _ => 0x0, .churn, true, false⟩,
  ⟨0x420008, [(16, 0x40000), (256, 0x20)], 4, 0, 0, 0, 0xffffffff, 0, 0, 0, 0x0, fun _ => 0x0, .churn, true, false⟩,
  ⟨0x42000c, [(16, 0x40000), (256, 0x20)], 4, 0, 0, 0, 0xffffffff, 0, 0, 0, 0x0, fun _ => 0x0, .churn, true, false⟩,
  ⟨0x420010, [(16, 0x40000), (256, 0x20)], 4, 0, 0, 0, 0xffffffff, 0, 0, 0, 0x0, fun _ => 0x0, .churn, true, false⟩]

/-- Register rows of weight banks and spares (spec file 05). -/
def rowsWB : List RegRow := [
  ⟨0x430000, [(16, 0x40000), (256, 0x10)], 8, 0, 0, 0, 0, 0x3ffff0003ffff, 0, 0, 0x10000, fun _ => 0x0, .churn, true, false⟩,
  ⟨0x430008, [(16, 0x40000), (256, 0x10)], 8, 0, 0, 0, 0, 0x3ffff0003ffff, 0, 0, 0x10000, fun _ => 0x0, .churn, true, false⟩,
  ⟨0x800000, [(12, 0x100)], 4, 0, 0, 0, 0, 0, 0x3, 0, 0x0, fun _ => 0x0, .mgmt, true, false⟩,
  ⟨0x800004, [(12, 0x100)], 4, 0, 0, 0, 0, 0, 0, 0xf7f, 0x0, fun l => let i := fun j => l.getD j 0; 0x0 + (4 * (i 0 / 3) + i 0 % 3) <<< 8, .mgmt, true, false⟩,
  ⟨0x800008, [(12, 0x100)], 4, 0, 0, 0, 0xffffffff, 0, 0, 0, 0x0, fun _ => 0x0, .mgmt, true, false⟩,
  ⟨0x80000c, [(12, 0x100)], 4, 0, 0, 0, 0xffffffff, 0, 0, 0, 0x0, fun _ => 0x0, .mgmt, true, false⟩,
  ⟨0x800010, [(12, 0x100)], 4, 0, 0, 0, 0xffffffff, 0, 0, 0, 0x0, fun _ => 0x0, .mgmt, true, false⟩,
  ⟨0x800014, [(12, 0x100)], 4, 0, 0, 0, 0xffffffff, 0, 0, 0, 0x0, fun _ => 0x0, .mgmt, true, false⟩,
  ⟨0x800040, [(12, 0x100)], 48, 0, 0, 0, 0, 0, 0, 0xFFFFFFFFFFFFFFFF, 0x0, fun _ => 0x0, .mgmt, true, false⟩,
  ⟨0x801000, [(4, 0x20)], 4, 0xf30001, 0, 0, 0, 0, 0xc0000000, 0xf0c, 0x0, fun l => let i := fun j => l.getD j 0; 0x200001 + (4 * i 0 + 3) <<< 8, .mgmt, true, false⟩,
  ⟨0x801008, [(4, 0x20)], 8, 0xffffffffffffffff, 0, 0, 0, 0, 0, 0, 0x0, fun _ => 0x0, .mgmt, true, false⟩,
  ⟨0x801010, [(4, 0x20)], 4, 0, 0, 0, 0, 0, 0, 0xf3fff0ff, 0x0, fun _ => 0x0, .mgmt, true, false⟩]

/-- Register rows of the Vat (spec file 06). -/
def rowsVAT : List RegRow := [
  ⟨0xa00000, [(16, 0x40)], 4, 0, 0, 0, 0, 0, 0, 0x1f03, 0x0, fun _ => 0x0, .mgmt, true, false⟩,
  ⟨0xa00004, [(16, 0x40)], 4, 0, 0, 0, 0xffffffff, 0, 0, 0, 0x0, fun _ => 0x0, .mgmt, true, false⟩,
  ⟨0xa00008, [(16, 0x40)], 4, 0, 0, 0, 0xffffffff, 0, 0, 0, 0x0, fun _ => 0x0, .mgmt, true, false⟩,
  ⟨0xa0000c, [(16, 0x40)], 4, 0, 0, 0, 0xffffffff, 0, 0, 0, 0x0, fun _ => 0x0, .mgmt, true, false⟩,
  ⟨0xa00010, [(16, 0x40)], 8, 0, 0, 0, 0, 0, 0, 0xc00003ff000fffff, 0x0, fun _ => 0x0, .mgmt, true, false⟩,
  ⟨0xa00018, [(16, 0x40)], 4, 0, 0x8000, 0, 0, 0, 0, 0xfff07ff, 0x0, fun _ => 0x0, .mgmt, true, false⟩,
  ⟨0xa01000, [(5, 0x10)], 4, 0, 0, 0, 0xffffffff, 0, 0, 0, 0x0, fun _ => 0x0, .mgmt, true, false⟩,
  ⟨0xa01004, [(5, 0x10)], 4, 0, 0, 0, 0xffffffff, 0, 0, 0, 0x0, fun _ => 0x0, .mgmt, true, false⟩,
  ⟨0xa01008, [(5, 0x10)], 4, 0, 0, 0, 0xffffffff, 0, 0, 0, 0x0, fun _ => 0x0, .mgmt, true, false⟩,
  ⟨0xa02000, [(4, 0x4)], 4, 0, 0xf, 0, 0, 0, 0, 0, 0x0, fun _ => 0x0, .mgmt, true, false⟩,
  ⟨0xa02010, [], 4, 0, 0, 0, 0, 0, 0x80ffffff, 0, 0x0, fun _ => 0x0, .mgmt, true, false⟩,
  ⟨0xa10000, [(1024, 0x10), (4, 0x4)], 4, 0, 0, 0, 0, 0xffff, 0, 0, 0x0, fun _ => 0x0, .mgmt, true, false⟩,
  ⟨0xc00000, [(16384, 0x40)], 8, 0, 0, 0, 0, 0xfffffffffffef000, 0, 0, 0x0, fun _ => 0x0, .mgmt, true, false⟩,
  ⟨0xc00008, [(16384, 0x40)], 8, 0, 0, 0, 0, 0xffffffffffffffff, 0, 0, 0x0, fun _ => 0x0, .mgmt, true, false⟩,
  ⟨0xc00010, [(16384, 0x40)], 8, 0, 0, 0, 0, 0, 0, 0x1ffffff01ffffff, 0x0, fun _ => 0x0, .mgmt, false, false⟩,
  ⟨0xc00018, [(16384, 0x40)], 4, 0, 0, 0, 0, 0, 0, 0xfffff08f, 0x0, fun _ => 0x0, .mgmt, false, false⟩,
  ⟨0xc0001c, [(16384, 0x40)], 4, 0, 0, 0, 0xffffffff, 0, 0, 0, 0x0, fun _ => 0x0, .mgmt, true, false⟩,
  ⟨0xc00020, [(16384, 0x40)], 4, 0, 0, 0, 0xffffffff, 0, 0, 0, 0x0, fun _ => 0x0, .mgmt, true, false⟩,
  ⟨0xc00024, [(16384, 0x40)], 4, 0, 0, 0, 0xffffffff, 0, 0, 0, 0x0, fun _ => 0x0, .mgmt, true, false⟩]

/-- Register rows of DMA (spec file 07). -/
def rowsDMA : List RegRow := [
  ⟨0xd00000, [(4096, 0x80)], 8, 0xffffffffffffffff, 0, 0, 0, 0, 0, 0, 0x0, fun _ => 0x0, .mgmt, true, false⟩,
  ⟨0xd00008, [(4096, 0x80)], 8, 0xffffffffffffffff, 0, 0, 0, 0, 0, 0, 0x0, fun _ => 0x0, .mgmt, true, false⟩,
  ⟨0xd00010, [(4096, 0x80)], 4, 0xffffffff, 0, 0, 0, 0, 0, 0, 0x0, fun _ => 0x0, .mgmt, true, false⟩,
  ⟨0xd00014, [(4096, 0x80)], 4, 0xfffff000, 0, 0, 0, 0, 0, 0, 0x0, fun _ => 0x0, .mgmt, true, false⟩,
  ⟨0xd00018, [(4096, 0x80)], 8, 0xffffffffffffffff, 0, 0, 0, 0, 0, 0, 0x0, fun _ => 0x0, .mgmt, true, false⟩,
  ⟨0xd00020, [(4096, 0x80)], 8, 0xffffffffffffffff, 0, 0, 0, 0, 0, 0, 0x0, fun _ => 0x0, .mgmt, true, false⟩,
  ⟨0xd00028, [(4096, 0x80)], 4, 0xfff003f, 0, 0x40000000, 0, 0, 0xb0000000, 0, 0x0, fun _ => 0x400000, .mgmt, true, false⟩,
  ⟨0xd0002c, [(4096, 0x80)], 4, 0xffffffff, 0, 0, 0, 0, 0, 0, 0x0, fun _ => 0x0, .mgmt, true, false⟩,
  ⟨0xd00030, [(4096, 0x80)], 8, 0xffffffffffffffff, 0, 0, 0, 0, 0, 0, 0x0, fun _ => 0x0, .mgmt, true, false⟩,
  ⟨0xd00040, [(4096, 0x80)], 4, 0, 0x1, 0, 0, 0, 0, 0xffffff00, 0x0, fun _ => 0x0, .mgmt, true, false⟩,
  ⟨0xd00044, [(4096, 0x80)], 4, 0, 0, 0, 0, 0, 0, 0xffffffff, 0x0, fun _ => 0x0, .mgmt, true, false⟩,
  ⟨0xd00048, [(4096, 0x80)], 8, 0, 0, 0, 0, 0, 0, 0xffffffffffffffff, 0x0, fun _ => 0x0, .mgmt, true, false⟩,
  ⟨0xd00050, [(4096, 0x80)], 8, 0, 0, 0, 0, 0, 0, 0xffffffffffffffff, 0x0, fun _ => 0x0, .mgmt, true, false⟩,
  ⟨0xd00058, [(4096, 0x80)], 4, 0, 0, 0, 0, 0, 0, 0xffffffff, 0x0, fun _ => 0x0, .mgmt, true, false⟩,
  ⟨0xe00000, [(32, 0x1000), (1024, 0x4)], 4, 0, 0, 0, 0, 0x800303ff, 0, 0, 0x0, fun _ => 0x0, .mgmt, true, false⟩,
  ⟨0xe40000, [(32, 0x4)], 4, 0, 0, 0, 0, 0, 0, 0x8fff0fff, 0x0, fun _ => 0x0, .mgmt, true, false⟩,
  ⟨0xe50000, [(1024, 0x4)], 4, 0, 0, 0, 0, 0xffff, 0, 0, 0x0, fun _ => 0x0, .mgmt, true, false⟩,
  ⟨0xe60000, [(4096, 0x4)], 4, 0, 0, 0, 0, 0x83ff00ff, 0, 0, 0x0, fun _ => 0x0, .mgmt, true, false⟩,
  ⟨0xe70000, [(32, 0x10), (4, 0x4)], 4, 0, 0xffffffff, 0, 0, 0, 0, 0, 0x0, fun _ => 0x0, .mgmt, true, false⟩]

/-- Register rows of the A-link (spec file 08). -/
def rowsAL : List RegRow := [
  ⟨0x200000, [(96, 0x1000)], 4, 0x8000000, 0, 0, 0, 0xb0000000, 0x40000000, 0, 0x0, fun _ => 0x0, .lgrpPort, true, false⟩,
  ⟨0x200004, [(96, 0x1000)], 4, 0, 0, 0, 0, 0, 0, 0xf000ff8, 0x0, fun _ => 0x0, .lgrpPort, false, false⟩,
  ⟨0x200008, [(96, 0x1000)], 4, 0, 0x7, 0, 0, 0, 0, 0xffffff00, 0x0, fun _ => 0x0, .lgrpPort, true, false⟩,
  ⟨0x20000c, [(96, 0x1000)], 4, 0, 0, 0, 0, 0, 0, 0x1f1f, 0x0, fun l => let i := fun j => l.getD j 0; 0x0 + (2 * (i 0 % 8) + 1) <<< 8 + (2 * (i 0 % 8)) <<< 0, .lgrpPort, true, false⟩,
  ⟨0x200010, [(96, 0x1000)], 4, 0, 0, 0, 0, 0, 0, 0xffffffff, 0x0, fun _ => 0x0, .lgrpPort, true, false⟩,
  ⟨0x200014, [(96, 0x1000)], 4, 0, 0, 0, 0, 0, 0, 0xffffffff, 0x0, fun _ => 0x0, .lgrpPort, true, false⟩,
  ⟨0x200018, [(96, 0x1000)], 4, 0xffffffff, 0, 0, 0, 0, 0, 0, 0x0, fun _ => 0x0, .lgrpPort, true, false⟩,
  ⟨0x20001c, [(96, 0x1000)], 4, 0, 0, 0, 0, 0, 0, 0xffffffff, 0x0, fun _ => 0x0, .lgrpPort, true, false⟩,
  ⟨0x200020, [(96, 0x1000)], 4, 0xffffffff, 0, 0, 0, 0, 0, 0, 0x0, fun _ => 0x10000, .lgrpPort, true, false⟩,
  ⟨0x200024, [(96, 0x1000)], 4, 0xffffffff, 0, 0, 0, 0, 0, 0, 0x0, fun _ => 0x4000, .lgrpPort, true, false⟩,
  ⟨0x200028, [(96, 0x1000)], 4, 0, 0, 0, 0, 0, 0, 0xffff, 0x0, fun _ => 0x0, .lgrpPort, true, false⟩,
  ⟨0x20002c, [(96, 0x1000)], 4, 0x3ffff, 0, 0, 0, 0, 0, 0, 0x0, fun _ => 0x0, .lgrpPort, true, false⟩,
  ⟨0x200030, [(96, 0x1000)], 8, 0, 0, 0, 0, 0, 0, 0xffffffffffffffff, 0x0, fun _ => 0x0, .lgrpPort, true, false⟩,
  ⟨0x200038, [(96, 0x1000)], 8, 0, 0, 0, 0, 0, 0, 0xffffffffffffffff, 0x0, fun _ => 0x0, .lgrpPort, true, false⟩,
  ⟨0x200040, [(96, 0x1000)], 4, 0, 0, 0, 0xffffffff, 0, 0, 0, 0x0, fun _ => 0x0, .lgrpPort, true, false⟩,
  ⟨0x200044, [(96, 0x1000)], 4, 0, 0, 0, 0xffffffff, 0, 0, 0, 0x0, fun _ => 0x0, .lgrpPort, true, false⟩,
  ⟨0x200048, [(96, 0x1000)], 4, 0, 0, 0, 0xffffffff, 0, 0, 0, 0x0, fun _ => 0x0, .lgrpPort, true, false⟩,
  ⟨0x20004c, [(96, 0x1000)], 4, 0, 0, 0, 0xffffffff, 0, 0, 0, 0x0, fun _ => 0x0, .lgrpPort, true, false⟩,
  ⟨0x200050, [(96, 0x1000)], 4, 0, 0, 0, 0xffffffff, 0, 0, 0, 0x0, fun _ => 0x0, .lgrpPort, true, false⟩,
  ⟨0x200054, [(96, 0x1000)], 4, 0, 0, 0, 0xffffffff, 0, 0, 0, 0x0, fun _ => 0x0, .lgrpPort, true, false⟩,
  ⟨0x200058, [(96, 0x1000)], 4, 0, 0, 0, 0xffffffff, 0, 0, 0, 0x0, fun _ => 0x0, .lgrpPort, true, false⟩,
  ⟨0x20005c, [(96, 0x1000)], 4, 0, 0, 0, 0xffffffff, 0, 0, 0, 0x0, fun _ => 0x0, .lgrpPort, true, false⟩,
  ⟨0x200060, [(96, 0x1000)], 4, 0, 0, 0, 0xffffffff, 0, 0, 0, 0x0, fun _ => 0x0, .lgrpPort, true, false⟩,
  ⟨0x200070, [(96, 0x1000)], 4, 0xffffffff, 0, 0, 0, 0, 0, 0, 0x0, fun _ => 0x100000, .lgrpPort, true, false⟩,
  ⟨0x260000, [(12, 0x100)], 4, 0, 0, 0, 0, 0xffff, 0, 0, 0x0, fun _ => 0x0, .mgmt, true, false⟩,
  ⟨0x260004, [(12, 0x100)], 4, 0, 0, 0, 0, 0, 0, 0xf8f8, 0x0, fun _ => 0x0, .lgrpGroup, true, false⟩,
  ⟨0x260008, [(12, 0x100)], 4, 0xffffffff, 0, 0, 0, 0, 0, 0, 0x0, fun _ => 0x10000, .lgrpGroup, true, false⟩]

/-- Register rows of local bridging (spec file 09). -/
def rowsBR : List RegRow := [
  ⟨0x200080, [(96, 0x1000)], 4, 0, 0, 0, 0, 0xfc0003ff, 0, 0, 0x8000000, fun _ => 0x0, .lgrpPort, true, false⟩,
  ⟨0x200084, [(96, 0x1000)], 4, 0, 0, 0, 0, 0xffffffff, 0, 0, 0x0, fun _ => 0x0, .lgrpPort, true, false⟩,
  ⟨0x200088, [(96, 0x1000), (4, 0x8)], 8, 0, 0, 0, 0, 0xe000ffff0001ffff, 0, 0, 0x0, fun _ => 0x0, .lgrpPort, true, false⟩,
  ⟨0x2000a8, [(96, 0x1000), (4, 0x8)], 8, 0, 0, 0, 0, 0xffffffffffffffc7, 0, 0, 0x300, fun _ => 0x0, .lgrpPort, true, false⟩,
  ⟨0x2000c8, [(96, 0x1000)], 4, 0, 0, 0, 0, 0, 0, 0xff7f00, 0x0, fun _ => 0x0, .lgrpPort, false, false⟩,
  ⟨0x2000d0, [(96, 0x1000)], 4, 0, 0, 0, 0xffffffff, 0, 0, 0, 0x0, fun _ => 0x0, .lgrpPort, true, false⟩,
  ⟨0x2000d4, [(96, 0x1000)], 4, 0, 0, 0, 0xffffffff, 0, 0, 0, 0x0, fun _ => 0x0, .lgrpPort, true, false⟩,
  ⟨0x2000d8, [(96, 0x1000)], 4, 0, 0, 0, 0xffffffff, 0, 0, 0, 0x0, fun _ => 0x0, .lgrpPort, true, false⟩,
  ⟨0x2000dc, [(96, 0x1000)], 4, 0, 0, 0, 0xffffffff, 0, 0, 0, 0x0, fun _ => 0x0, .lgrpPort, true, false⟩,
  ⟨0x2000e0, [(96, 0x1000)], 4, 0, 0, 0, 0xffffffff, 0, 0, 0, 0x0, fun _ => 0x0, .lgrpPort, true, false⟩,
  ⟨0x2000e4, [(96, 0x1000)], 4, 0, 0, 0, 0xffffffff, 0, 0, 0, 0x0, fun _ => 0x0, .lgrpPort, true, false⟩,
  ⟨0x2000e8, [(96, 0x1000)], 4, 0, 0, 0, 0xffffffff, 0, 0, 0, 0x0, fun _ => 0x0, .lgrpPort, true, false⟩]

/-- Register rows of host ports and links (spec file 10). -/
def rowsHL : List RegRow := [
  ⟨0x300000, [(8, 0x100)], 4, 0xf3, 0, 0, 0, 0, 0, 0, 0x0, fun _ => 0xe0, .mgmt, true, false⟩,
  ⟨0x300004, [(8, 0x100)], 4, 0, 0, 0, 0, 0, 0, 0x30f, 0x0, fun _ => 0x1, .mgmt, true, false⟩,
  ⟨0x300008, [(8, 0x100)], 4, 0, 0, 0, 0, 0, 0x1, 0, 0x0, fun _ => 0x0, .mgmt, true, false⟩,
  ⟨0x310000, [(32, 0x100)], 4, 0, 0, 0, 0, 0, 0, 0xffffff0, 0x0, fun l => let i := fun j => l.getD j 0; 0x0 + (if i 0 % 4 = 0 then 1 else 0) <<< 7, .mgmt, true, false⟩,
  ⟨0x310004, [(32, 0x100)], 4, 0xc0000000, 0, 0, 0, 0, 0, 0, 0x0, fun _ => 0xc0000000, .mgmt, true, false⟩,
  ⟨0x310008, [(32, 0x100)], 4, 0, 0xf, 0, 0, 0, 0, 0xffff0000, 0x0, fun _ => 0x0, .mgmt, true, false⟩,
  ⟨0x31000c, [(32, 0x100)], 4, 0xffffff, 0, 0, 0, 0, 0, 0, 0x0, fun _ => 0x18000, .mgmt, true, false⟩,
  ⟨0x310010, [(32, 0x100)], 4, 0xffffff, 0, 0, 0, 0, 0, 0, 0x0, fun _ => 0x4ccd, .mgmt, true, false⟩,
  ⟨0x310020, [(32, 0x100)], 4, 0, 0, 0, 0xffffffff, 0, 0, 0, 0x0, fun _ => 0x0, .mgmt, true, false⟩,
  ⟨0x310024, [(32, 0x100)], 4, 0, 0, 0, 0xffffffff, 0, 0, 0, 0x0, fun _ => 0x0, .mgmt, true, false⟩,
  ⟨0x310028, [(32, 0x100)], 4, 0, 0, 0, 0xffffffff, 0, 0, 0, 0x0, fun _ => 0x0, .mgmt, true, false⟩,
  ⟨0x31002c, [(32, 0x100)], 4, 0, 0, 0, 0xffffffff, 0, 0, 0, 0x0, fun _ => 0x0, .mgmt, true, false⟩,
  ⟨0x310030, [(32, 0x100)], 4, 0, 0, 0, 0xffffffff, 0, 0, 0, 0x0, fun _ => 0x0, .mgmt, true, false⟩,
  ⟨0x320000, [], 4, 0, 0, 0, 0, 0, 0, 0x1f, 0x0, fun _ => 0x0, .mgmt, true, false⟩]

/-- Register rows of events (spec file 11). -/
def rowsEV : List RegRow := [
  ⟨0x30000, [(640, 0x4)], 4, 0, 0, 0, 0, 0xf81f07ff, 0, 0, 0x8000000, fun _ => 0x0, .mgmt, true, false⟩,
  ⟨0x31000, [(20, 0x4)], 4, 0, 0xffffffff, 0, 0, 0, 0, 0, 0x0, fun _ => 0x0, .mgmt, true, false⟩,
  ⟨0x32000, [(640, 0x4)], 4, 0, 0, 0, 0xffffffff, 0, 0, 0, 0x0, fun _ => 0x0, .mgmt, true, false⟩,
  ⟨0x33000, [], 4, 0, 0, 0, 0, 0, 0, 0x83ff03ff, 0x0, fun _ => 0x0, .mgmt, true, false⟩,
  ⟨0x33004, [], 4, 0, 0, 0, 0, 0, 0x800003ff, 0, 0x0, fun _ => 0x0, .mgmt, true, false⟩]

/-- Register rows of slices (spec file 12). -/
def rowsSL : List RegRow := [
  ⟨0x100000, [(1024, 0x40)], 4, 0, 0, 0, 0, 0x9f0fffff, 0, 0, 0x0, fun _ => 0x0, .mgmt, true, false⟩,
  ⟨0x100004, [(1024, 0x40)], 4, 0, 0, 0, 0, 0x7f07ff, 0, 0, 0x0, fun _ => 0x0, .mgmt, true, false⟩,
  ⟨0x100008, [(1024, 0x40)], 4, 0x1, 0, 0, 0, 0, 0x2, 0, 0x0, fun _ => 0x0, .mgmt, true, false⟩,
  ⟨0x10000c, [(1024, 0x40)], 4, 0, 0, 0, 0, 0, 0, 0x18f, 0x0, fun _ => 0x100, .mgmt, true, false⟩,
  ⟨0x100010, [(1024, 0x40)], 4, 0, 0x30000000, 0, 0, 0, 0, 0xc3ffffff, 0x0, fun _ => 0x0, .mgmt, true, false⟩,
  ⟨0x100014, [(1024, 0x40)], 4, 0, 0, 0, 0xffffffff, 0, 0, 0, 0x0, fun _ => 0x0, .mgmt, true, false⟩,
  ⟨0x110000, [(12, 0x800), (2, 0x400), (8, 0x80), (32, 0x4)], 4, 0, 0, 0, 0, 0x800003ff, 0, 0, 0x0, fun _ => 0x0, .mgmt, true, false⟩,
  ⟨0x116000, [(32, 0x4)], 4, 0, 0, 0, 0, 0, 0, 0xffffffff, 0x0, fun _ => 0x0, .mgmt, true, false⟩,
  ⟨0x118000, [(96, 0x10), (4, 0x4)], 4, 0, 0, 0, 0, 0x80f1f3ff, 0, 0, 0x0, fun _ => 0x0, .mgmt, true, false⟩]

/-- Register rows of Umger (spec file 13). -/
def rowsUM : List RegRow := [
  ⟨0x10000, [], 4, 0, 0, 0, 0, 0, 0x1, 0, 0x0, fun _ => 0x0, .mgmt, true, false⟩,
  ⟨0x10004, [], 4, 0, 0x2, 0, 0, 0, 0, 0x70d, 0x0, fun _ => 0x0, .mgmt, true, false⟩,
  ⟨0x10008, [], 4, 0, 0, 0, 0, 0, 0, 0x7fff, 0x0, fun _ => 0x0, .mgmt, false, false⟩,
  ⟨0x1000c, [], 4, 0x7fff, 0, 0, 0, 0, 0, 0, 0x0, fun _ => 0x0, .mgmt, false, false⟩,
  ⟨0x10010, [], 4, 0x7fff, 0, 0, 0, 0, 0, 0, 0x0, fun _ => 0x0, .mgmt, false, false⟩,
  ⟨0x10014, [], 4, 0, 0, 0, 0, 0, 0, 0x7fff, 0x0, fun _ => 0x0, .mgmt, false, false⟩,
  ⟨0x10018, [], 4, 0, 0, 0, 0, 0, 0, 0xffff0007, 0x0, fun _ => 0x0, .mgmt, true, false⟩,
  ⟨0x1001c, [], 4, 0, 0, 0, 0, 0, 0, 0xffffffff, 0x0, fun _ => 0x0, .mgmt, true, false⟩,
  ⟨0x10020, [], 8, 0, 0, 0, 0, 0, 0, 0xffffffffffffffff, 0x0, fun _ => 0x0, .mgmt, true, false⟩,
  ⟨0x10028, [], 4, 0, 0, 0, 0xffffffff, 0, 0, 0, 0x0, fun _ => 0x0, .mgmt, true, false⟩,
  ⟨0x1002c, [], 4, 0, 0, 0, 0xffffffff, 0, 0, 0, 0x0, fun _ => 0x0, .mgmt, true, false⟩,
  ⟨0x10040, [], 48, 0, 0, 0, 0, 0, 0, 0xFFFFFFFFFFFFFFFF, 0x0, fun _ => 0x0, .mgmt, true, false⟩,
  ⟨0x10080, [], 48, 0, 0, 0, 0, 0, 0, 0xFFFFFFFFFFFFFFFF, 0x0, fun _ => 0x0, .mgmt, true, false⟩]

/-- Register rows of twins and herds (spec file 14). -/
def rowsTW : List RegRow := [
  ⟨0x8000, [], 4, 0, 0, 0, 0, 0, 0, 0xf, 0x0, fun _ => 0x0, .mgmt, true, false⟩,
  ⟨0x8004, [], 4, 0x1f, 0, 0, 0, 0x80000000, 0, 0, 0x0, fun _ => 0x10, .mgmt, true, false⟩,
  ⟨0x8008, [], 4, 0x1, 0, 0, 0, 0, 0x6, 0, 0x0, fun _ => 0x1, .mgmt, true, false⟩,
  ⟨0x800c, [], 4, 0, 0, 0, 0, 0, 0, 0xffc001f, 0x0, fun _ => 0x0, .mgmt, true, false⟩,
  ⟨0x8010, [], 4, 0, 0xffff, 0, 0, 0, 0, 0, 0x0, fun _ => 0x0, .mgmt, true, false⟩,
  ⟨0x8014, [], 4, 0, 0, 0, 0, 0, 0, 0xffffffff, 0x0, fun _ => 0x0, .mgmt, true, false⟩,
  ⟨0x8018, [], 4, 0, 0, 0, 0, 0, 0, 0xffffffff, 0x0, fun _ => 0x0, .mgmt, true, false⟩,
  ⟨0x801c, [], 4, 0xffffffff, 0, 0, 0, 0, 0, 0, 0x0, fun _ => 0x12c0000, .mgmt, true, false⟩,
  ⟨0x8020, [], 8, 0, 0, 0, 0, 0, 0, 0xffffffffffffffff, 0x0, fun _ => 0x0, .mgmt, true, false⟩,
  ⟨0x9000, [], 4, 0x80000fff, 0, 0, 0, 0, 0, 0, 0x0, fun _ => 0x0, .mgmt, true, false⟩,
  ⟨0x9004, [], 4, 0xffffffff, 0, 0, 0, 0, 0, 0, 0x0, fun _ => 0x30000, .mgmt, true, false⟩,
  ⟨0x9008, [], 4, 0, 0, 0, 0xffffffff, 0, 0, 0, 0x0, fun _ => 0x0, .mgmt, true, false⟩,
  ⟨0xa000, [(4, 0x100)], 4, 0xec000000, 0, 0, 0, 0, 0x10000000, 0, 0x0, fun _ => 0x0, .clot, true, false⟩,
  ⟨0xa004, [(4, 0x100)], 4, 0, 0, 0, 0, 0, 0, 0xfffffff, 0x0, fun _ => 0x0, .clot, false, false⟩,
  ⟨0xa008, [(4, 0x100)], 4, 0, 0, 0, 0, 0, 0, 0xffffffff, 0x0, fun _ => 0x0, .clot, true, false⟩,
  ⟨0xa00c, [(4, 0x100)], 4, 0, 0, 0, 0, 0, 0, 0xffffffff, 0x0, fun _ => 0x0, .clot, true, false⟩,
  ⟨0xa010, [(4, 0x100)], 4, 0xffffffff, 0, 0, 0, 0, 0, 0, 0x0, fun _ => 0x0, .clot, true, false⟩,
  ⟨0xa014, [(4, 0x100)], 4, 0xffffffff, 0, 0, 0, 0, 0, 0, 0x0, fun _ => 0x10000, .clot, true, false⟩,
  ⟨0xa020, [(4, 0x100)], 4, 0, 0, 0, 0xffffffff, 0, 0, 0, 0x0, fun _ => 0x0, .clot, true, false⟩,
  ⟨0xa024, [(4, 0x100)], 4, 0, 0, 0, 0xffffffff, 0, 0, 0, 0x0, fun _ => 0x0, .clot, true, false⟩,
  ⟨0xa028, [(4, 0x100)], 4, 0, 0, 0, 0xffffffff, 0, 0, 0, 0x0, fun _ => 0x0, .clot, true, false⟩,
  ⟨0xa02c, [(4, 0x100)], 4, 0, 0, 0, 0xffffffff, 0, 0, 0, 0x0, fun _ => 0x0, .clot, true, false⟩,
  ⟨0xa030, [(4, 0x100)], 4, 0, 0, 0, 0xffffffff, 0, 0, 0, 0x0, fun _ => 0x0, .clot, true, false⟩]

/-- Register rows of power (spec file 15). -/
def rowsPW : List RegRow := [
  ⟨0x40, [], 4, 0, 0, 0, 0, 0, 0, 0xff0f1f, 0x0, fun _ => 0x10001, .aon, true, true⟩,
  ⟨0x48, [], 8, 0, 0, 0, 0, 0, 0, 0xffffffffffffffff, 0x0, fun _ => 0x0, .aon, true, true⟩,
  ⟨0x50, [], 8, 0, 0, 0, 0, 0, 0, 0xffffffffffffffff, 0x0, fun _ => 0x1, .aon, true, false⟩,
  ⟨0x58, [], 8, 0, 0, 0, 0, 0, 0, 0xffffffffffffffff, 0x0, fun _ => 0x0, .aon, true, false⟩,
  ⟨0x60, [], 4, 0xff0007fe, 0, 0, 0, 0, 0, 0, 0x0, fun _ => 0xff0007fe, .aon, true, true⟩,
  ⟨0x64, [], 4, 0, 0, 0, 0, 0, 0, 0xf0707ff, 0x0, fun _ => 0x0, .aon, true, true⟩,
  ⟨0x68, [], 8, 0, 0, 0, 0, 0, 0, 0xffffffffffffffff, 0x0, fun _ => 0x0, .aon, true, true⟩,
  ⟨0x70, [], 4, 0xffffffff, 0, 0, 0, 0, 0, 0, 0x0, fun _ => 0x0, .aon, true, true⟩,
  ⟨0x74, [], 4, 0x7f, 0, 0, 0, 0, 0, 0, 0x0, fun _ => 0x4a, .aon, true, true⟩,
  ⟨0x78, [], 4, 0, 0, 0, 0, 0, 0, 0xff3f0fff, 0x0, fun _ => 0x0, .aon, true, true⟩,
  ⟨0x7c, [], 4, 0, 0xffffff, 0, 0, 0, 0, 0, 0x0, fun _ => 0x0, .aon, true, true⟩,
  ⟨0x80, [], 4, 0, 0, 0, 0, 0x3fff, 0, 0, 0x3e8, fun _ => 0x0, .aon, true, true⟩,
  ⟨0x84, [], 4, 0, 0, 0, 0, 0xe000ffff, 0, 0, 0x6000d85f, fun _ => 0x0, .aon, true, true⟩,
  ⟨0x88, [(3, 0x4)], 4, 0, 0, 0, 0, 0xffffffff, 0, 0, 0x0, fun _ => 0x0, .aon, true, true⟩,
  ⟨0x94, [], 4, 0, 0, 0, 0, 0, 0, 0xffffffff, 0x0, fun _ => 0x0, .aon, true, true⟩,
  ⟨0x200, [(64, 0x8)], 8, 0, 0, 0, 0, 0, 0, 0xffffffffffffffff, 0x0, fun _ => 0x0, .aon, true, false⟩,
  ⟨0x508, [], 8, 0xffffffff0fffff3e, 0, 0, 0, 0, 0, 0, 0x0, fun _ => 0x0, .aon, true, false⟩,
  ⟨0x400, [(64, 0x8)], 8, 0, 0, 0, 0, 0, 0, 0xffffffffffffffff, 0x0, fun _ => 0x0, .aon, true, false⟩]

/-- Register rows of supply and thermal (spec file 16). -/
def rowsST : List RegRow := [
  ⟨0x800, [], 4, 0, 0, 0, 0, 0, 0, 0xe0007f7f, 0x0, fun _ => 0x0, .aon, true, true⟩,
  ⟨0x804, [], 4, 0xffff, 0, 0, 0, 0, 0, 0, 0x0, fun _ => 0x32, .aon, true, true⟩,
  ⟨0x808, [], 4, 0, 0xfff, 0, 0, 0, 0, 0, 0x0, fun _ => 0x0, .aon, true, true⟩,
  ⟨0x80c, [], 4, 0, 0, 0, 0xffffffff, 0, 0, 0, 0x0, fun _ => 0x0, .aon, true, true⟩,
  ⟨0x810, [], 8, 0, 0, 0, 0, 0, 0, 0xffff07c00fff, 0x0, fun _ => 0x0, .aon, true, true⟩,
  ⟨0x818, [], 8, 0, 0, 0, 0, 0, 0, 0xffffffffffffffff, 0x0, fun _ => 0x0, .aon, true, true⟩,
  ⟨0x820, [], 8, 0, 0, 0, 0, 0, 0, 0xffffffffffffffff, 0x0, fun _ => 0x0, .aon, true, true⟩,
  ⟨0x828, [], 4, 0, 0, 0, 0xffffffff, 0, 0, 0, 0x0, fun _ => 0x0, .aon, true, true⟩,
  ⟨0x830, [], 4, 0, 0, 0, 0, 0, 0, 0xfff3ffff, 0x0, fun _ => 0x0, .aon, true, true⟩,
  ⟨0x838, [], 8, 0, 0x8000000000000000, 0, 0, 0, 0, 0xfff0fff00000fff, 0x0, fun _ => 0x0, .aon, true, true⟩,
  ⟨0x840, [], 4, 0, 0, 0, 0, 0, 0xfff, 0, 0x0, fun _ => 0x0, .aon, true, true⟩,
  ⟨0x850, [(4, 0x4)], 4, 0, 0, 0, 0, 0, 0, 0xffffffff, 0x0, fun _ => 0x0, .aon, true, true⟩]

/-- Register rows of reset and bring-up (spec file 17). -/
def rowsRS : List RegRow := [
  ⟨0xc00, [], 4, 0, 0, 0, 0, 0, 0, 0xfff00ff, 0x0, fun _ => 0x1, .aon, true, true⟩,
  ⟨0xc08, [], 8, 0, 0, 0, 0, 0, 0, 0xffffffffffffffff, 0x0, fun _ => 0x0, .aon, true, true⟩,
  ⟨0xc10, [], 8, 0, 0, 0, 0, 0, 0, 0xffffffffffffffff, 0x0, fun _ => 0x0, .aon, true, true⟩,
  ⟨0xc18, [], 4, 0, 0, 0, 0, 0, 0, 0xfffc3f, 0x0, fun _ => 0x0, .aon, true, true⟩,
  ⟨0xc1c, [], 4, 0, 0, 0, 0, 0, 0, 0xff830fff, 0x0, fun _ => 0x0, .aon, true, true⟩,
  ⟨0xc20, [], 4, 0, 0, 0, 0, 0, 0, 0x3f01ff, 0x0, fun _ => 0x0, .aon, true, true⟩,
  ⟨0xc24, [], 4, 0, 0xfff, 0, 0, 0, 0, 0, 0x0, fun _ => 0x0, .aon, true, true⟩,
  ⟨0xc28, [], 4, 0, 0, 0, 0xffffffff, 0, 0, 0, 0x0, fun _ => 0x0, .aon, true, true⟩,
  ⟨0xc2c, [], 4, 0, 0, 0, 0xffffffff, 0, 0, 0, 0x0, fun _ => 0x0, .aon, true, true⟩]

/-- Register rows of security (spec file 18). -/
def rowsSEC : List RegRow := [
  ⟨0x4000, [], 4, 0, 0, 0, 0, 0, 0, 0xf0307, 0x0, fun _ => 0x0, .sec, false, false⟩,
  ⟨0x4004, [], 4, 0, 0, 0, 0, 0, 0, 0x7f, 0x0, fun _ => 0x0, .sec, false, false⟩,
  ⟨0x4008, [], 4, 0x1, 0, 0, 0, 0, 0x2, 0, 0x0, fun _ => 0x1, .sec, true, false⟩,
  ⟨0x400c, [], 4, 0, 0, 0, 0, 0xffff, 0, 0, 0x5aaa, fun _ => 0x0, .sec, true, false⟩,
  ⟨0x4010, [], 4, 0, 0xff, 0, 0, 0, 0, 0x70000, 0x0, fun _ => 0x0, .sec, true, true⟩,
  ⟨0x4014, [], 4, 0, 0, 0, 0xffffffff, 0, 0, 0, 0x0, fun _ => 0x0, .sec, true, false⟩,
  ⟨0x4018, [], 4, 0, 0, 0, 0, 0, 0, 0xf3, 0x0, fun _ => 0x1, .sec, false, false⟩,
  ⟨0x401c, [], 4, 0, 0, 0, 0, 0, 0x1, 0, 0x0, fun _ => 0x0, .sec, false, false⟩,
  ⟨0x4020, [], 4, 0, 0, 0, 0xffffffff, 0, 0, 0, 0x0, fun _ => 0x0, .sec, true, false⟩,
  ⟨0x4024, [], 4, 0, 0, 0, 0xffffffff, 0, 0, 0, 0x0, fun _ => 0x0, .sec, true, false⟩,
  ⟨0x4028, [], 4, 0, 0xffff, 0, 0, 0, 0, 0, 0x0, fun _ => 0x0, .sec, true, false⟩,
  ⟨0x4100, [(64, 0x4)], 4, 0, 0, 0, 0, 0, 0, 0xffffffff, 0x0, fun _ => 0x0, .sec, false, false⟩]

/-- Register rows of the trouble log (spec file 19). -/
def rowsLOG : List RegRow := [
  ⟨0x50000, [], 4, 0, 0, 0, 0, 0, 0, 0xffffffff, 0x0, fun _ => 0x0, .aon, true, true⟩,
  ⟨0x50004, [], 4, 0xffffffff, 0, 0, 0, 0, 0, 0, 0x0, fun _ => 0x0, .aon, true, true⟩,
  ⟨0x50008, [], 4, 0, 0x80000000, 0, 0, 0, 0, 0x1fffff, 0x0, fun _ => 0x0, .aon, true, true⟩,
  ⟨0x5000c, [], 4, 0, 0, 0, 0xffffffff, 0, 0, 0, 0x0, fun _ => 0x0, .aon, true, true⟩,
  ⟨0x50010, [], 4, 0, 0, 0, 0xffffffff, 0, 0, 0, 0x0, fun _ => 0x0, .aon, true, true⟩]

/-- Register rows of the pins (spec file 21). -/
def rowsPIN : List RegRow := [
  ⟨0x1000, [], 4, 0xffff, 0, 0, 0, 0, 0, 0, 0x0, fun _ => 0x0, .aon, true, false⟩,
  ⟨0x1004, [], 4, 0xffff, 0, 0, 0, 0, 0, 0, 0x0, fun _ => 0x0, .aon, true, false⟩,
  ⟨0x1008, [], 4, 0, 0, 0, 0, 0, 0, 0xffff, 0x0, fun _ => 0x0, .aon, true, false⟩,
  ⟨0x100c, [], 4, 0xffffffff, 0, 0, 0, 0, 0, 0, 0x0, fun _ => 0x55555555, .aon, true, false⟩,
  ⟨0x1010, [], 4, 0xffff, 0, 0, 0, 0, 0, 0, 0x0, fun _ => 0x0, .aon, true, false⟩,
  ⟨0x1014, [], 4, 0, 0, 0, 0, 0, 0, 0xffff1e0f, 0x0, fun _ => 0x400, .aon, true, false⟩,
  ⟨0x1018, [], 4, 0, 0, 0, 0, 0, 0, 0xfff, 0x0, fun _ => 0xfff, .aon, true, false⟩]

/-- The whole register map. -/
def regTable : List RegRow :=
  rowsTL ++ rowsCH ++ rowsWB ++ rowsVAT ++ rowsDMA ++ rowsAL ++ rowsBR ++ rowsHL ++ rowsEV ++ rowsSL ++ rowsUM ++ rowsTW ++ rowsPW ++ rowsST ++ rowsRS ++ rowsSEC ++ rowsLOG ++ rowsPIN

/-- The first row of `rows` that holds the register at offset `k`, with the register's indices. -/
def findIn : List RegRow → Nat → Option (RegRow × List Nat)
  | [], _ => none
  | r :: rs, k =>
    match r.hit k with
    | some ix => some (r, ix)
    | none => findIn rs k

/-- The row and indices of the register at offset `k` from BAR0. -/
def findReg (k : Nat) : Option (RegRow × List Nat) := findIn regTable k

/-- After-reset value of the bits of register `k` whose kind is not RWG (R13). -/
def rstW (k : Nat) : Word :=
  match findReg k with
  | some (r, ix) => if r.bytes = 48 then 0 else BitVec.ofNat 64 (r.rst ix)
  | none => 0

/-- After-reset value of the RWG bits of register `k` (R13, R396). -/
def rstG (k : Nat) : Word :=
  match findReg k with
  | some (r, _) => BitVec.ofNat 64 r.rstG
  | none => 0

/-- The RWG bits of register `k` (R14). -/
def rwgMask (k : Nat) : Word :=
  match findReg k with
  | some (r, _) => BitVec.ofNat 64 r.rwg
  | none => 0

/-- The code of the domain that holds the register at offset `k` (R441). -/
def regDom (k : Nat) : Nat :=
  match findReg k with
  | some (r, ix) =>
    match r.dom with
    | .aon => 0
    | .tk => 2
    | .mgmt => 3
    | .sec => 4
    | .clot => 5
    | .lgrpPort => 0x10 + ix.headD 0 / 8
    | .lgrpGroup => 0x10 + ix.headD 0
    | .churn => 0x20 + ix.headD 0
  | none => 0

/-- Register `k` is saved with its domain's image in the Cooler (R454). -/
def regSaved (k : Nat) : Bool :=
  match findReg k with
  | some (r, _) => r.saved
  | none => false

/-- Register `k` is cleared only by AON power-on (R466, R509, R561). -/
def regPerm (k : Nat) : Bool :=
  match findReg k with
  | some (r, _) => r.perm
  | none => false

/-- The value of a field of a register's word. -/
def Fld.get (f : Fld) (w : Word) : Nat := (w.toNat >>> f.lo) % 2 ^ f.wid

/-- The bits of a field as a mask over the register's word. -/
def Fld.mask (f : Fld) : Word := BitVec.ofNat 64 ((2 ^ f.wid - 1) <<< f.lo)

/-- A register's word with one field replaced. -/
def Fld.put (f : Fld) (w : Word) (v : Nat) : Word :=
  (w &&& ~~~ f.mask) ||| BitVec.ofNat 64 ((v % 2 ^ f.wid) <<< f.lo)

end Sys2Proof.Machine
end

