-- ==== Sys2Proof/Machine/Types.lean ====
section
/-! DEFINITION. The parts of the machine's state that are not registers of the register map: what the spec's blocks hold
inside. Every type is plain data. -/

namespace Sys2Proof.Machine

/-! ## The timeline (02) -/

/-- A TL_SET that was accepted and waits for its edge (R67). -/
structure TlSetReq where
  at_   : Nat       -- Tc of acceptance
  value : Nat       -- count of V
  hdr   : UmHdr     -- the command that its final reply answers
  deriving DecidableEq, Repr

/-- A change of TL_STATE.STATE that has been detected (R63, R64). -/
structure TlChange where
  new   : Nat
  cause : Nat
  at_   : Nat       -- Tc of its detection
  deriving DecidableEq, Repr

/-- The clock-stretch episode in progress (R76). Core cycles are numbered by the core cycle counter. -/
structure Episode where
  first : Nat          -- first stretched cycle
  stop  : Option Nat   -- first unstretched cycle after it, once recovery fixes it
  deriving DecidableEq, Repr

/-- What AON counts while TK is off, and what the Timekeeper saved (R85, R86, R489). -/
structure SleepCount where
  count   : Nat    -- TL count saved at a coincidence edge (R54)
  span    : Nat    -- Tc of a coincidence period
  cycles  : Nat    -- TREF_CLK cycles of a coincidence period
  state   : Nat    -- TL_STATE.STATE at the save
  has     : Bool   -- TL_STATE.HAS_TIME at the save
  uncert  : Nat    -- TL_UNCERT at the save
  ratio   : Nat    -- TL_AON_RATIO
  cal     : Bool   -- TL_STATE.AON_CAL
  tick0   : Nat    -- Tc of that edge
  aon0    : Nat    -- PW_AON_STAMP at the save
  pps     : Nat    -- PPS edges since
  ppsAon  : Nat    -- PW_AON_STAMP at the last of them, or at the save
  first   : Nat    -- AON cycles from the save to the first of them
  refLost : Bool   -- TREF_CLK was declared absent at some point
  ppsGap  : Bool   -- a PPS edge was missing at some point
  deriving DecidableEq, Repr

/-- The Timekeeper's state beside its registers (R57, R62 to R67, R76, R595). -/
structure Timekeeper where
  count     : Nat                 -- timeline count, 0 to Π − 1 (R57)
  since     : Nat                 -- Tc counted without a break since the last step, TL_SET or release of TK (R595)
  relock    : Nat                 -- in-window edges of the run toward RELOCK
  outN      : Nat                 -- agreeing consecutive outliers of the present sequence
  outPhase  : Int                 -- phase of the last outlier, 1/65,536 Tc
  lastWin   : Option Nat          -- expected instant of the last in-window edge
  lastEdge  : Option Nat          -- Tc of the last in-window edge, for PPS_PRESENT
  setReqs   : List TlSetReq       -- accepted TL_SETs, in order of acceptance
  change    : Option TlChange     -- state change detected, which takes effect in the next Tc (R64)
  detectors : Nat                 -- droop detectors below 0.700 V: bits 0–3 the quadrants, bit 4 the centre
  episode   : Option Episode
  lastStr   : Option Nat          -- Tc of the last stretched cycle since TK was released (R77)
  absent    : Nat                 -- Tc counted while TREF_CLK is absent, since the last step of TL_UNCERT (R56)
  sleep     : Option SleepCount
  lostAt    : Option Nat          -- Tc in which TREF_CLK was last declared absent (R51)
  ratioAt   : Option Nat          -- Tc of the last measurement of TL_AON_RATIO (R85)
  deriving DecidableEq, Repr

/-! ## The trouble log (19) -/

/-- One entry of the trouble log (R549). -/
structure LogEntry where
  tl     : Word
  stamp  : Word
  source : Nat
  kind   : Nat
  flags  : Nat
  seq    : Nat
  param  : Word      -- bytes 24–31
  deriving DecidableEq, Repr

/-- An entry waiting in the queue, with the Tc of its occurrence (R552). -/
structure LogWait where
  entry : LogEntry
  tc    : Nat
  deriving DecidableEq, Repr

/-- The trouble log's ring, queue and the entries lost since the last LOST entry (R548, R552). -/
structure TroubleLog where
  ring   : SMap LogEntry
  bad    : List Nat          -- ring indices that hold a poisoned row (R185, R188)
  queue  : List LogWait
  lost   : Nat
  deriving DecidableEq, Repr

/-! ## Register access (00 R15, 02 R88) -/

/-- What hardware has done to the W1C and RC bits of a register in the present Tc (R15). -/
structure Hot where
  set  : Nat := 0      -- bits that it has set
  rose : Nat := 0      -- those of them with which it has raised their source (R134)
  add  : Nat := 0      -- what it has added to an RC counter
  det  : Nat := 0      -- DETAIL of the last occurrence behind them
  deriving DecidableEq, Repr

/-- A read latch of R88: the register and its latched words. -/
structure Latch where
  who  : Master
  key  : Nat
  val  : List Nat     -- latched 32-bit words from word `first` up
  first : Nat
  deriving DecidableEq, Repr

/-- A low-word write held until its high word is written (R88). -/
structure HeldWrite where
  who  : Master
  key  : Nat
  mask : Nat          -- the low word's bits that the write carries
  val  : Nat
  deriving DecidableEq, Repr

/-! ## The Vat (06) -/

/-- Where a tx block stands toward its release (R27 to R29, R69 to R71). -/
inductive TxSt where
  | none                 -- not a tx block
  | wait                 -- not yet read for its A-link
  | ready (tc : Nat)     -- read; its data reaches the launch gate at this Tc
  | held                 -- held under the slice's policy until Locked
  | sending              -- its cells are leaving
  deriving DecidableEq, Repr

/-- A committed block held in a pail (R177, R181). -/
structure Block where
  h0      : Word          -- header word 0: TL
  h1      : Word          -- header word 1
  payload : List Word
  bad     : List Nat      -- poisoned words of the block: 0 and 1 the header, 2 + i payload word i (R185)
  off     : Nat           -- byte offset in the pail
  size    : Nat           -- 16 + LEN, rounded up to 16
  tc      : Nat           -- Tc of its commit instant
  readers : Nat           -- readers that have not finished with it (R181)
  readBy  : List Nat      -- contexts that have read it or passed it over (R180)
  fin     : Bool          -- finished
  late    : Option Nat    -- flagged LATE, with its lateness in Tc (R29, R71, R79)
  tx      : TxSt
  rel     : Bool := false -- the test of R69 at its release instant has passed
  hold    : Nat := 0      -- core cycle at which the last read of it that began is complete (R136, R181)
  deriving DecidableEq, Repr

/-- Who writes a block into a pail. -/
inductive Writer where
  | port (n : Port)
  | chan (c : Chan)
  deriving DecidableEq, Repr

/-- A block on its way into a pail: words received so far, and what its header test gave (R177). -/
structure Arrival where
  writer : Writer
  h0     : Word
  h1     : Word
  need   : Nat               -- payload words that its LEN names
  got    : List Word
  bad    : List Nat
  tc     : Nat               -- Tc in which its first bit crossed the receive plane, or its first word arrived
  tested : Bool
  room   : Option Nat        -- offset reserved once the header test passed
  doom   : Option Nat        -- drop code it meets at its commit instant (R177, R182, R183)
  pois   : Bool := false     -- a poisoned completion touched it (R207)
  coreDue : Nat := 0         -- core cycle of its commit: for a channel's, once its last byte is delivered (R206, R246)
  deriving DecidableEq, Repr

/-- A pail's runtime state (R173, R177 to R182). -/
structure PailRt where
  blocks   : List Block := []      -- oldest first
  arrivals : List Arrival := []    -- in the order in which they were started
  wr       : Nat := 0
  full     : Bool := false
  lastDrop : Nat := 0
  lastTl   : Option Nat := none    -- count of the TL of the last block committed
  resv     : List (Nat × Nat) := [] -- bytes that a DMA channel reserved: (channel, bytes left) (R205)
  expect   : List Nat := []        -- tx: counts of release instants whose block is awaited (R28)
  missed   : List Word := []       -- tx: TL of Missed releases whose marker waits (R245)
  gone     : List Nat := []        -- tx: counts of Missed releases whose block has not committed (R28)
  lateness : Nat := 0              -- tx: lateness, in Tc, of the last release flagged LATE (R29, R71, R79)
  lastMiss : Option Nat := none    -- tx: count of the last release marked Missed
  deriving DecidableEq, Repr

/-- A suspect row of a bank (R189). -/
structure Suspect where
  row     : Nat
  written : Bool
  deriving DecidableEq, Repr

/-- A bank's repair state and initialisation (R183, R189 to R191). -/
structure BankRt where
  init    : Bool := false
  initEnd : Option Nat := none           -- core cycle at which initialisation ends
  suspects : List Suspect := []          -- oldest first, at most 16
  pendq   : List Nat := []               -- hard rows waiting for a remap, at most 16
  remap   : List (Nat × Nat) := []       -- (row, spare) remaps in force
  deriving DecidableEq, Repr

/-! ## The Churn and the weight store (04, 05) -/

/-- A pass in flight: everything it reads at its offset-0 cycle (R129, R140, R153). -/
structure Pass where
  arr    : Nat                          -- 0 U-array, 1 D-array
  ctx    : Nat
  time   : Nat                          -- block time, as a count (R179)
  start  : Nat                          -- core cycle of offset 0
  group  : Nat                          -- group bound at offset 0
  gen    : SMap Word                    -- active image at offset 0
  half   : SMap Word                    -- active half at offset 0
  halfBad : List Nat                    -- its poisoned words
  absent : Bool                         -- the unit is in WEIGHTS_ABSENT
  ins    : List (Option (Nat × Block))  -- input blocks, by entry of the context, with their pails
  struck : Bool                         -- a datapath fault struck the pass (R135)
  deriving DecidableEq, Repr

/-- A Churn unit's runtime state. -/
structure UnitRt where
  passes  : List Pass := []             -- in flight, oldest first
  last    : SMap Nat := []              -- 1 + count of the last block time passed, by 16 × array + context
  parity  : Nat := 0                    -- datapath parity errors of the present frame (R163)
  frame   : Nat := 0                    -- the frame that they fell in
  retired : Bool := false               -- retired and not reinstated (R166, R167)
  active  : SMap Word := []             -- active half of its weight segment, by word (R142)
  actBad  : List Nat := []              -- poisoned words of it
  shadow  : SMap Word := []
  shaBad  : List Nat := []
  zeroEnd : Option Nat := none          -- core cycle at which power-up zeroing ends (R158)
  deriving DecidableEq, Repr

/-- An access to a group's weight window that waits for a hold to end (R153, R154, R158, R160). -/
inductive WbAccess where
  | write (m : Option Nat) (off : Nat) (data : List (Option Byte)) (hits : List EccHit)
  | read (m : Nat) (off len : Nat) (hits : List EccHit)
  | sync
  | umRead (h : UmHdr) (op off len : Nat) (got : List Byte) (more : Nat)   -- `more` bytes follow in the next group's window
      (hits : List EccHit)
  | umWrite (h : UmHdr) (op off : Nat) (data more : List Byte) (hits : List EccHit)
  | restore (h : Option UmHdr)
  deriving DecidableEq, Repr

/-- A group's weight state beside CH_WB_STATUSg (R150 to R160). -/
structure GroupRt where
  held     : List WbAccess := []       -- accesses held, in order
  lockCore : Option Nat := none        -- core cycle of the exchange whose older passes keep the lock (R153)
  syncEnd  : Option Nat := none        -- core cycle at which the SYNC copy ends
  restEnd  : Option Nat := none        -- core cycle at which the RESTORE hash ends
  restOk   : Bool := false             -- the RESTORE hash matched; the exchange waits (R160)
  restHdr  : Option UmHdr := none      -- the WB_RESTORE command behind it
  exchanged : Bool := false            -- an exchange occurred since the last device-wide reset (R159)
  digest   : List Byte := []           -- digest of the PENDING half, once computed (R151)
  deriving DecidableEq, Repr

/-- A quadrant's spare takeover in progress, or reinstatement (R163 to R167). -/
structure SpareRt where
  group    : Nat := 0                  -- group that moves
  src      : Nat := 0                  -- failing unit
  dst      : Nat := 0                  -- spare
  at_      : Nat := 0                  -- F, as a count
  cause    : Nat := 0                  -- 1 manual, 2 automatic
  ready    : Bool := false             -- preparation of R164 is complete
  begun    : Option Nat := none        -- core cycle at which preparation began, once the spare is released
  moveAt   : Option Nat := none        -- core cycle of the switch, until the merge (R166)
  testEnd  : Option Nat := none        -- core cycle at which the reinstate test ends
  testHdr  : Option UmHdr := none      -- the SPARE_REINSTATE command behind it
  deriving DecidableEq, Repr

/-! ## DMA channels (07) -/

/-- A completion record that waits for a granted beat (R219). -/
structure DmaRec where
  addr  : Word
  bytes : List Byte
  attr  : Nat
  irq   : Option Nat       -- slice-local vector signalled once the record has left (R220)
  own   : Bool             -- the record of the active descriptor, which retires once it has left
  deriving DecidableEq, Repr

/-- A channel's runtime state beside its register block (R201 to R224). -/
structure ChanRt where
  begun   : Bool := false            -- S has been reached: votes taken, room or snapshot (R201, R205, R208, R227)
  beginAt : Nat := 0                 -- core cycle of S
  tested  : Bool := false            -- the release test of T has passed (R203)
  roomAt  : Option Nat := none       -- core cycle at which room was reserved and every domain ready (R205)
  waitDom : Bool := false            -- at the last test a domain was not ready
  waited  : Bool := false            -- room or a domain was not free at S (R205)
  first   : Option Word := none      -- TL of the first request issue
  late    : Nat := 0                 -- lateness, fixed at the first request
  held    : Bool := false
  poison  : Bool := false
  empty   : Bool := false
  reads   : List (Nat × Nat) := []   -- outstanding reads: offset and bytes still owed (R206)
  early   : List (Nat × List (Option Byte)) := []  -- data delivered ahead of its order; `none` is a poisoned byte
  rxPos   : Nat := 0                 -- bytes of the descriptor delivered in order
  buf     : List (Option Byte) := [] -- delivered bytes of the block in progress
  hdrUp   : Bool := false            -- the block in progress is on its way to the pail
  blocks  : Nat := 0                 -- blocks committed or written
  snap    : List Block := []         -- DIR 1: blocks of the snapshot not yet in staging (R208)
  stage   : List Byte := []          -- DIR 1: bytes in staging not yet written
  written : Nat := 0                 -- DIR 1: bytes written
  ends    : List Nat := []           -- DIR 1: where the blocks staged end among the bytes written (R219)
  landing : List (Nat × Nat) := []   -- staging of data delivered: core cycle by which it is in the pail, and beats (R214)
  fail    : Option Nat := none       -- code with which the descriptor retires once its record has left (R220)
  done    : Bool := false            -- DONE, with the record's part outstanding (R218)
  recOut  : Bool := false            -- the active descriptor's record has left
  fetching : Bool := false           -- a descriptor fetch is outstanding (R217)
  fetchAddr : Word := 0
  image   : Option (List Byte) := none  -- a fetched image waiting
  fetchErr : Bool := false
  recs    : List DmaRec := []        -- records waiting, in retire order
  trans   : List (Nat × Nat) := []   -- reads issued translated: offset and page (R300, R301)
  untimedLast : Bool := false        -- the last retired descriptor was untimed (R204)
  deriving DecidableEq, Repr

/-- A slice's runtime state (R213, R364 to R371). -/
structure SliceRt where
  freeTick : Nat := 0                -- first Tc in which a beat of the slice is free of an issued request (R212)
  freeBeat : Nat := 0                -- first such beat of that Tc
  ptr      : SMap Nat := []          -- 1 + the channel last served at each PRIO level
  win      : SMap Word := []         -- registers of the slice window that BAR0 does not show, by window offset
  mbIn     : SMap Byte := []         -- inbound mailbox (R364)
  mbOut    : SMap Byte := []         -- outbound mailbox
  rangAt   : Option Nat := none      -- Tc of the last doorbell that was taken
  tookAt   : Option Nat := none      -- Tc in which the manager last took a message
  deriving DecidableEq, Repr

/-! ## A-links and bridging (08, 09) -/

/-- Training and presence of a link (R254, R261). -/
structure TrainRt where
  since   : Nat := 0                 -- Tc of entry to the present training state
  fails   : Nat := 0                 -- failures since the last entry to Up or setting of EN
  retryAt : Option Nat := none       -- Tc from which Lock may be entered again
  probeAt : Option Nat := none       -- Tc of the last probe
  hits    : Nat := 0                 -- consecutive probes that found termination on every lane
  misses  : Nat := 0                 -- consecutive probes that found it on none
  present : Bool := false
  good    : Nat := 0                 -- consecutive frames decoded without error, up to 8
  bad     : Nat := 0                 -- consecutive uncorrectable frames
  farLock : Bool := false            -- LOCKED of the far end's last training word
  farDone : Nat := 0                 -- consecutive far training frames with CFG_DONE
  deriving DecidableEq, Repr

/-- A lane swap in flight (R259): logical lane, physical lane, Tc of PREP, and once GO is sent the Tc of its slot. -/
structure SwapRt where
  lane  : Nat
  phys  : Nat
  since : Nat
  goAt  : Option Nat
  deriving DecidableEq, Repr

/-- A control word that waits for a control cell of an A-link (R242); its value is taken when its slot begins. -/
inductive Ctl where
  | ack (nak : Bool)
  | sync
  | dlyReq
  | credit (k : Nat)      -- class, by 65,536 × CLASS + STREAM_ID
  | cresync (k : Nat)
  | ledger (k : Nat)
  | spare (op : Nat) (lane : Nat) (phys : Nat)
  deriving DecidableEq, Repr

/-- A credit class that the device grants (R247). -/
structure CrRx where
  granted : Nat := 0
  recvd   : Nat := 0
  wait    : Bool := false            -- waits for the LEDGER of a resynchronisation (R251)
  last    : Option Nat := none       -- Tc of its last LEDGER, or of its first grant
  late    : Bool := false            -- overdue under R250
  deriving DecidableEq, Repr

/-- A bus class that the local end grants (R247). -/
structure CrTx where
  granted : Nat := 0
  sent    : Nat := 0
  last    : Nat := 0                 -- Tc of its last LEDGER
  deriving DecidableEq, Repr

/-- A bus cell that waits to be sent, or is sent and not yet acknowledged (R252, R253). -/
structure BusCell where
  words : List Word                  -- words 0 to 2, SEQ apart
  cls   : Nat
  due   : Nat                        -- Tc from which it may be sent
  acc   : Nat                        -- access that it is a piece of
  cont  : Bool                       -- not the access's first piece
  seq   : Nat := 0
  sends : Nat := 0
  again : Bool := false              -- waits to be resent
  deriving DecidableEq, Repr

/-- A piece of a host read: its tag, its address in the local end's space, its width and, once answered, its data. -/
structure Piece where
  tag  : Nat
  addr : Nat
  wid  : Nat
  data : Option Nat := none
  deriving DecidableEq, Repr

/-- A host read of a local window (R275). -/
structure HostRead where
  m      : HLink
  off    : Nat
  len    : Nat
  swap   : Nat
  hto    : Nat
  acc    : Nat
  sl     : Option Nat                -- slice of the window, where one is bound (R568)
  pieces : List Piece
  sent   : Option Nat := none        -- Tc in which its first piece was sent
  deriving DecidableEq, Repr

/-- A retried-read entry (R277 to R280). -/
structure Retried where
  tag  : Nat
  addr : Word
  wid  : Nat                         -- bytes
  m    : HLink
  fetch : Nat                        -- number of its fetch
  swap : Nat                         -- SWAP of its request (R271)
  page : Option (Nat × Nat) := none  -- slice and page, where it was issued translated (R300, R301)
  held : Option (Nat × Word) := none -- status (0 data) and data held
  at_  : Nat := 0                    -- Tc of delivery
  deriving DecidableEq, Repr

/-- An A-link port's state beside its registers (R237 to R283). -/
structure PortRt where
  train  : TrainRt := {}
  rx     : SMap CrRx := []
  tx     : SMap CrTx := []
  txSeq  : Nat := 0
  rxSeq  : Nat := 0
  nakked : Bool := false             -- a NAK has been sent for the SEQ expected
  unack  : List BusCell := []
  busQ   : List BusCell := []
  mid    : Option Nat := none        -- access whose pieces are partly sent (R273)
  acc    : Nat := 0                  -- accesses numbered so far
  ackAt  : Nat := 0                  -- Tc of the last ACK that advanced, or of the first send since
  ctl    : List Ctl := []
  calId  : Nat := 0
  calOut : List (Nat × Nat × Bool) := []  -- requests in the order sent: ID, Tc of the slot that carried it, answered
  calRun : Nat := 0                  -- missing responses in a row
  calAt  : Nat := 0                  -- Tc of the last calibration request
  calOk  : Bool := false             -- a round trip was measured since training began
  syncAt : Option Nat := none        -- Tc of the last TL_SYNC since training began
  calEver : Bool := false            -- AL_OWD holds a calibration
  owdUp  : Int := 0
  first  : Bool := false             -- no STATUS has come since a loss of link (R263)
  inhSince : Option Nat := none      -- Tc since which INH has been 1
  inhLong : Bool := false            -- INH has been 1 for more than 20 µs
  swap   : Option SwapRt := none
  sym0   : Nat := 0                  -- corrected symbols of the logical lanes in the present 2^20 frames
  sym1   : Nat := 0
  symN   : Nat := 0                  -- frames of them
  cand   : List Nat := []            -- logical lanes that are candidates for sparing (R259)
  shut   : Bool := false             -- the last frame was discarded whole: nothing in it is used (R236, R238)
  tagNext : Nat := 0                 -- the next tag to assign
  reads  : List HostRead := []
  waitRd : List HostRead := []       -- host reads that wait for tags
  retried : List Retried := []
  fetches : Nat := 0                 -- fetches of retried reads numbered so far
  deriving DecidableEq, Repr

/-! ## What crosses the device's edge -/

/-- What leaves the device. The newest stands first in `State.out`. -/
inductive Out where
  | msix (m : Nat) (vec : Nat) (addr : Word) (data : Nat)                 -- an MSI-X message (R335)
  | aerMsg (m : Nat) (sev : Nat)                                          -- an error message of AER (R346)
  | cpl (m : Nat) (status : Nat) (bytes : List Byte) (sl : Option Nat := none)
    -- a completion to a host request: 0 SC, 1 UR, 2 CRS, 4 CA; in the turns of slice `sl`, or of the device (R568)
  | sideband (eid tag : Nat) (owner : Bool) (bytes : List Byte)           -- an MCTP message on the sideband (R383)
  | mrd (m : Nat) (pasid : Option Nat) (addr : Word) (len attr : Nat)
    -- a memory read of a slice: TC in bits 2:0, RO bit 3, NS bit 4, translated bit 5, T bit 6; bit 7 for a bridged one, which
    -- goes outside the beat wheel, with its slice from bit 8 up
  | mwr (m : Nat) (pasid : Option Nat) (addr : Word) (bytes : List Byte) (attr : Nat)   -- a memory write of a slice
  | alink (n : Nat) (ball : Int) (hdr : Word) (cells : List (List Word))
    -- a frame slot of an A-link (R237, R238); its first bit crosses the ball `ball`/65,536 Tc after the slot begins (R72)
  | treq (m : Nat) (pasid : Option Nat) (page sl : Nat)                  -- a translation request of slice `sl` (R300)
  | invCpl (m itag : Nat)                                                -- an Invalidation Completion (R301)
  | ara (addr : Nat)                                                     -- the answer to the Alert Response Address (R343)
  | cplEp (m : Nat) (bytes : List Byte) (sl : Option Nat := none)         -- a completion with EP = 1
  | cloton (x : Nat) (h0 : Word) (c0 : List (List Word)) (h1 : Word) (c1 : List (List Word))   -- a slot of a Cloton port (R408)
  deriving DecidableEq, Repr

/-- What waits for a turn outside the beat wheel (R568): its owner, the bytes still to send, and the TLP. -/
structure TurnItem where
  own  : Nat
  left : Nat
  tlp  : Out
  deriving DecidableEq, Repr

/-- A host link's rotation of 64-byte turns (R568). -/
structure Egress where
  wait   : List TurnItem := []           -- oldest first
  owners : List Nat := []                -- bound slices in ascending order, then 1,024 for the device
  turn   : Nat := 0                      -- the next turn
  key    : Nat × Nat × Nat := (0, 0, 0)  -- generation, width and rate under which it was built
  deriving DecidableEq, Repr

/-- The rotations of the host links, and what they have put on the links (the newest first). -/
structure EgressRt where
  links : SMap Egress := []
  seen  : Nat := 0                       -- how much of `State.out` has been taken
  wire  : List Out := []
  deriving DecidableEq, Repr

/-! ## Host links (10, 11) -/

/-- An MSI-X message that waits to enter host egress (R333, R336). -/
structure MsgWait where
  vec  : Nat
  due  : Nat       -- core cycle from which it may enter egress (R336)
  held : Bool      -- its pending bit is set and clears when it is issued
  at_  : Nat       -- Tc in which it was signalled
  deriving DecidableEq, Repr

/-- A translation held for a slice (R300). -/
structure AtsEntry where
  sl    : Nat
  pasid : Nat          -- PASID + 1, or 0 without one
  page  : Nat
  tr    : Nat          -- translated page
  deriving DecidableEq, Repr

/-- An IDE stream (R527): 0 Insecure, 1 keyed, 2 Secure; the key sets programmed in each direction and the one in use. -/
structure IdeRt where
  state : Nat := 0
  keys  : List (Nat × List Byte) := []   -- (key set × 32 + direction × 16 + sub-stream, key and initial counter)
  set   : Nat := 0
  go    : List Nat := []                 -- directions and sub-streams switched to `set`
  deriving DecidableEq, Repr

/-- An SPDM session (R526). -/
structure SpdmSession where
  id      : Nat
  secured : Bool       -- FINISH has been answered
  deriving DecidableEq, Repr

/-- The SPDM responder of one DOE mailbox, or of MCTP (R526). -/
structure SpdmRt where
  stage    : Nat := 0                 -- 1 version, 2 capabilities, 3 algorithms answered
  version  : Nat := 0                 -- version in use, 0x12 or 0x13
  sessions : List SpdmSession := []
  nextId   : Nat := 1                 -- the device's half of the next session identifier
  out      : List (List Byte) := []   -- responses that wait to be read
  deriving DecidableEq, Repr

/-- What a bridged access sends to a host link some core cycles after it was accepted (R275 to R277, R563). -/
inductive LaterAct where
  | write (sl a : Nat) (bs : List Byte)          -- slice, host address and bytes of a WR
  | read  (sl a wid fetch : Nat)                 -- the request of a retried read
  | cpl   (sl : Option Nat) (bs : List Byte)     -- the completion of a host read
  deriving DecidableEq, Repr

/-- One of them, with the core cycle in which it may leave and its port. -/
structure LaterOut where
  due  : Nat
  port : Port
  act  : LaterAct
  deriving DecidableEq, Repr

/-- A host link's runtime state (R285 to R318, R332 to R336). -/
structure LinkRt where
  cfg    : SMap Nat := []            -- RW and RW1C words of configuration space, by byte offset
  msix   : SMap Word := []           -- MSI-X table, two words an entry
  pend   : List Nat := []            -- vectors whose pending bit is set, rising
  msgs   : List MsgWait := []
  going  : Bool := false             -- requests run: Bus Master Enable was set in D0 and no stop has come since (R223)
  flr    : Option Nat := none        -- Tc of the FLR under way (R308)
  l23    : Bool := false             -- in L2/L3 Ready (R443)
  full   : Nat := 0                  -- lanes of the trained link, before L0p (R313)
  txQ    : List Out := []            -- requests that wait for L0 (R316)
  later  : List LaterOut := []       -- bridged traffic on its way to host egress, in the order accepted
  lateQ  : List Nat := []            -- channels whose first request waits there
  ats    : List AtsEntry := []       -- translations held, oldest first (R300)
  atsMiss : List (Nat × Nat × Nat) := []   -- misses to translate: slice, PASID + 1 or 0, page
  atsWait : List (Nat × Nat × Nat) := []   -- translation requests outstanding
  inval  : List (Nat × List (Nat × Nat)) := []  -- invalidations under way: ITag, reads issued with a dropped translation
  doeIn  : List (List Byte) := []    -- DOE objects received and not yet served
  rtCount : Nat := 0                 -- CHANGE_COUNT of the link's Resource Table (R331)
  doeBuf : List Byte := []           -- what has been written to the DOE mailbox since DOE Go (R302)
  idleAt : Nat := 0                  -- last Tc in which the link was not idle (R314)
  cutAt  : Option Nat := none        -- Tc of its last reset: nothing signalled in that Tc stays (R344)
  ide    : SMap IdeRt := []          -- IDE streams: 0 the link stream, 1 to 16 the selective ones
  spdm   : SpdmRt := {}
  deriving DecidableEq, Repr

/-! ## Umger (13) -/

/-- A reply that is due on its carrier (R381, R384, R386). -/
structure Reply where
  hdr    : UmHdr
  op     : Nat
  status : Nat
  detail : Nat
  result : List Byte
  final  : Bool
  later  : Bool := false   -- a final reply that follows ACCEPTED (R383)
  echo   : Bool := false   -- a check of R385 failed: the header's fields go back as received
  deriving DecidableEq, Repr

/-- A command held on the sideband (R383). -/
structure SideCmd where
  eid   : Nat
  tag   : Nat
  bytes : List Byte
  deriving DecidableEq, Repr

/-- An Armed generation (R392 to R396, R419, R437). What its checks and its digest give is fixed at acceptance, since the
image is frozen then; it becomes known when the checks complete. -/
structure Armed where
  hdr      : Option UmHdr        -- the COMMIT_AT command; none on a device that was armed by its twin
  at_      : Nat                 -- count of AT
  seq      : Nat                 -- sequence number that the generation takes
  herd     : Bool
  hdigest  : List Byte           -- HERD_DIGEST of the command
  expect   : List Byte           -- EXPECT of the command, or the source's digest
  groups   : List Nat            -- groups whose dirty shadow half is bound (R391)
  bad      : Option Nat          -- offset of the first offending register
  digest   : List Byte           -- local digest
  checked  : Bool := false       -- the checks are complete
  ok       : Bool := false       -- ACCEPTED has been posted: the generation takes effect at AT
  peerAck  : Option Nat := none  -- COMMIT_ACK awaited from the twin since this Tc (R419)
  deriving DecidableEq, Repr

/-- One entry of a work report (R400). -/
structure ReportEntry where
  chan  : Nat
  bytes : List Byte
  deriving DecidableEq, Repr

/-- A stored work report (R400). -/
structure WorkReport where
  tl      : Word
  reason  : Nat
  entries : List ReportEntry
  deriving DecidableEq, Repr

/-- Wake sources of one AON cycle (R463): their codes as bits, and the host port of code 0x2 or 0x3. -/
structure WakeRt where
  aon   : Nat
  codes : Nat
  port  : Nat
  deriving DecidableEq, Repr

/-- A dip in progress that has reached 25 readings (R468). -/
structure DipRt where
  tl    : Word
  stamp : Nat
  min   : Nat
  reset : Bool       -- a reading fell below the reset level
  deriving DecidableEq, Repr

/-- The power controller's state beside its registers (R441 to R466, R467 to R478). -/
structure PwRt where
  idle    : SMap Nat := []             -- Tc for which a powered domain has held no vote and no powered dependent, up to 4,096
  entries : SMap Nat := []             -- domains in entry: 1 by want of votes, 2 forced
  exits   : Nat := 0                   -- domains whose exit has begun and runs to its end (R444)
  h32     : Bool := false              -- holder 32 votes
  sched   : Nat := 0                   -- domains that holder 37 has voted for
  sleep   : Option Nat := none         -- target mode of the sleep entry that has begun
  waited  : Bool := false              -- PW_ENTRY_WAIT has been raised for this wait
  wake    : Option WakeRt := none      -- wake sources not yet served
  latent  : List Nat := []             -- power events that arose in sleep and wait for MGMT
  dozeAt  : Nat := 0                   -- PW_AON_STAMP of Doze entry or of the last sample
  dozeRef : Bool × Bool := (false, false)   -- presence of TREF_CLK and TREF_PPS at Doze entry
  dozePres : Option (List Nat) := none -- ports present in the last sample
  dips    : SMap (Option DipRt) := []  -- recorded dips in progress, by rail
  warnAt  : Nat := 0                   -- PW_AON_STAMP at the start of the supply warning
  coreOk  : Option Nat := none         -- PW_AON_STAMP from which VDD_CORE has read 0.690 V or more since its last dip
  restore : Nat := 0                   -- groups whose restore waits for the next conversion
  warm    : Bool := false              -- the thermal warning is in force
  cold    : Bool := false              -- a sensor reads below the ordering range
  convAt  : Option Nat := none         -- PW_AON_STAMP of the last conversion since MON was released (R474)
  deriving DecidableEq, Repr

/-- The state of reset and bring-up beside the RS_ registers (R488 to R508). -/
structure RsRt where
  sources : List (Nat × Nat) := [(1, 0)]   -- causes that hold the device in Held, with PW_AON_STAMP of acceptance
  resetN  : Bool := false                  -- RESET_N is held low and accepted
  swOpen  : Option Nat := none             -- PW_AON_STAMP of the acceptance whose switches have not opened yet
  row     : Nat := 0                       -- rows of R499 released
  rowAt   : Nat := 0                       -- PW_AON_STAMP of the last of them, or of the end of Strap
  mgmtAt  : Nat := 0                       -- PW_AON_STAMP at MGMT release
  src     : Nat := 0                       -- sources of R502 that have failed in this bring-up
  srcAt   : Nat := 0                       -- PW_AON_STAMP at which the time limit of the source in turn began (R502)
  pldm    : List Byte := []               -- what has been pulled of the sideband image (R505)
  agent   : Nat := 0                      -- MCTP endpoint that supplies it
  fw      : Bool := false                  -- the verified firmware has started
  late    : List Nat := []                 -- RS events that wait for Ready
  banded  : Bool := false                  -- a band of an earlier bring-up is held
  causeAon : Option Nat := none            -- PW_AON_STAMP of the last cause, for those of one AON cycle (R494)
  causeRank : Nat := 0                     -- precedence of the cause recorded in RS_CAUSE
  causeN  : Nat := 0                       -- causes that have arrived in that AON cycle
  deriving DecidableEq, Repr

/-- A MODE_SET whose work is not done (R36, R40, R44). -/
structure ModeReq where
  hdr    : Option UmHdr       -- the command; none where a switchover or the twin rules drain the device
  target : Nat
  limit  : Nat                -- drain limit, Tc
  start  : Nat                -- Tc of entry to Drain
  cancel : List UmHdr         -- MODE_SETs with target Ready that cancelled it and wait for Ready
  deriving DecidableEq, Repr

/-- Umger's state beside its registers (R377 to R400). -/
structure Um where
  sq       : SMap Byte := []          -- submission ring bytes
  sqBad    : List Nat := []           -- submission ring words that hold poison (R387)
  rq       : SMap Byte := []          -- reply ring bytes
  side     : List SideCmd := []       -- commands held on the sideband, oldest first
  last     : Carrier := .sideband     -- carrier of the last packet taken (R386)
  due      : List Reply := []         -- replies due, oldest first
  owed     : List (UmHdr × Nat) := [] -- class D commands whose final reply is owed
  begun    : List (UmHdr × Nat) := [] -- those of them whose ACCEPTED has been posted
  void     : List UmHdr := []         -- commands under execution whose reply a carrier reset discards (R382)
  armed    : Option Armed := none
  marks    : List Nat := []           -- staged registers marked for a parity error (R543)
  refusalDet : Nat := 0xFFFFFFFF      -- DETAIL of the last refused COMMIT_AT
  report   : Option WorkReport := none
  mode     : Option ModeReq := none
  mgrNext  : Option Nat := none       -- manager link that takes effect in the next Tc (R401)
  resetAt  : Option (Nat × Nat) := none -- Tc of the device-wide reset that RESET_DOMAIN asked for, and its carrier
  domReset : List (Nat × Nat × UmHdr) := [] -- domain resets: domain, AON cycle of release (0 while an entry runs), command
  eid      : Nat := 0                 -- own MCTP endpoint ID
  transit  : Word := 0                -- TL of the last mode transition (MODE_GET)
  activeAt : Word := 0                -- AT of the last commit
  halted   : Bool := false            -- the Creamery has met an uncorrectable error in its memory, until it restarts (R185)
  deriving DecidableEq, Repr

/-! ## Security (18) -/

/-- The fuse array (R510) and the hashes of the ROM root keys (R515). What each device holds of its own is `Config`'s. -/
structure Fuses where
  lc       : Nat := 0
  arb      : Nat := 0
  uds      : Nat := 0
  udsValid : Bool := false
  owner    : List Byte := []     -- OWNER_HASH; empty where every bit is 0
  dbgAuth  : List Byte := []     -- DBG_AUTH_HASH; empty where every bit is 0
  revoke   : Nat := 0
  dsn      : Nat := (Config.fuse 0).toNat
  ordering : Nat := (Config.fuse 1).toNat % 2
  roots    : List (List Byte) := [Config.rootHash 0, Config.rootHash 1, Config.rootHash 2]
  deriving DecidableEq, Repr

/-- What an operation of the curve engine serves (R512, R517, R526, R535). -/
inductive CurveTask where
  | lcAdvance (h : UmHdr) (target : Nat) (token : List Byte)
  | debugUnlock (h : UmHdr) (token : List Byte)
  | image (h : UmHdr) (slotA last : Bool)                             -- a signature of the image that FW_ACTIVATE checks
  | keyGen (src : SpdmSrc)                                            -- the three of a KEY_EXCHANGE
  | ecdh (src : SpdmSrc) (x y : Nat) (small : Bool)
  | sign (src : SpdmSrc) (session : Option Nat) (answer : List Byte) (opens : Option Nat)
  deriving DecidableEq, Repr

/-- An operation of the curve engine (R518). -/
structure CurveOp where
  task  : CurveTask
  dur   : Nat
  start : Option Nat       -- Tc of its start; none while it waits
  deriving DecidableEq, Repr

/-- Fuse programming in progress (R512, R531). -/
structure FuseProg where
  hdr    : Option UmHdr
  lc     : Nat             -- LC bits being programmed
  uds    : Option Nat      -- UDS as it will be
  hashes : Option (List Byte × List Byte)
  deriving DecidableEq, Repr

/-- A running FW_ACTIVATE (R517): 1 slot B is checked, 2 it is copied, 3 slot A is checked. -/
structure FwWork where
  hdr   : UmHdr
  stage : Nat
  deriving DecidableEq, Repr

/-- The security block beside its registers, with the fuses and the AON tamper latch (R510 to R540). -/
structure SecRt where
  fuses    : Fuses := {}
  lcNow    : Nat := 0                  -- lifecycle in effect since the last device-wide reset
  lcPend   : Bool := false             -- a fused state waits for a device-wide reset
  key      : Option Nat := none        -- DIK or DDK
  keyGone  : Bool := false             -- zeroized: not derived again before a device-wide reset (R530)
  nonce    : Option (List Byte) := none
  drawn    : Nat := 0                  -- random bytes drawn
  gens     : Nat := 0                  -- generate requests since the last seed
  seedAt   : Nat := 0                  -- Tc of the last seed
  testAt   : Nat := 0                  -- Tc in which the present start-up test began
  failAt   : Nat := 0                  -- Tc of the last failure, or failed restart
  restart  : Bool := false             -- the present test is a restart
  ops      : List CurveOp := []        -- the operation that runs, and those that wait
  prog     : Option FuseProg := none
  fw       : Option FwWork := none
  trips    : List Nat := []            -- tamper sources tripped while SEC was off, whose levels wait (R532)
  acts     : List (Nat × Nat) := []    -- tamper sources, with their levels, whose response waits for a fuse word (R533)
  mctp     : SpdmRt := {}
  tdiStream : SMap Nat := []           -- 1 + the stream that each locked TDI is bound to
  tdiNonce : SMap (List Byte) := []    -- START_INTERFACE nonces
  tap      : Nat := 1                  -- the TAP's instruction: 0 BYPASS, 1 IDCODE, 2 DBG_OBS, 3 SAMPLE/PRELOAD, 4 EXTEST, 5 CLAMP, 6 HIGHZ
  imgHead  : List Byte := []           -- header of the image that runs
  deriving DecidableEq, Repr

/-- The flash, as far as the device writes or reads it (R503, R517, R557). -/
structure Flash where
  slotA : List Byte := []
  slotB : SMap Byte := []
  rec0  : List Byte := []
  rec1  : List Byte := []
  deriving DecidableEq, Repr

/-! ## Twin pairs, herds and the Cloton link (14) -/

/-- A mirror or herd cell that waits for its acknowledgement (R411, R417, R433). -/
structure ClCell where
  kind  : Nat
  seq   : Nat
  bytes : List Byte
  sends : Nat
  tc    : Nat                  -- Tc in which it was first sent
  again : Bool := false        -- waits to be resent
  src   : Nat := 0             -- SRC of a herd cell
  deriving DecidableEq, Repr

/-- A record or herd cell that waits to be sent (R417, R418, R433). -/
structure ClRec where
  kind  : Nat
  bytes : List Byte
  tc    : Nat                  -- Tc from which it may be sent
  src   : Option Nat := none   -- SRC of a herd cell that is forwarded
  deriving DecidableEq, Repr

/-- The state of a Cloton port beside its registers (R408 to R413, R433, R434). -/
structure ClRt where
  ctl     : List (List Word) := []   -- control words waiting, each with the words that follow it
  chan    : List ClRec := []         -- CHAN records waiting
  commit  : List ClRec := []         -- COMMIT and COMMIT_ACK records waiting
  other   : List ClRec := []         -- other mirror records waiting
  herd    : List ClRec := []         -- herd cells waiting
  unack   : List ClCell := []        -- mirror cells sent and not acknowledged
  hUnack  : List ClCell := []        -- herd cells sent and not acknowledged
  txSeq   : Nat := 0
  hTxSeq  : Nat := 0
  rxSeq   : Nat := 0
  hRxSeq  : Nat := 0
  fcnt    : Nat := 0                 -- slot count
  rxFcnt  : Nat := 0                 -- FCNT of the last header received
  hbDue   : Bool := false            -- a HEARTBEAT waits for the next slot (R413)
  hbSeen  : Bool := false            -- a HEARTBEAT has arrived since the last heartbeat instant (R414)
  peerGen : Nat := 0                 -- generation sequence of the neighbour's last HEARTBEAT
  nbrHb   : Nat := 0                 -- Tc of the neighbour's last HEARTBEAT
  hops    : Nat := 0                 -- HOPS of the last TIMEMARK received (R435)
  calId   : Nat := 0                 -- ID of the last DLY_REQ
  calT1   : Nat := 0                 -- its stamp, 1/65,536 Tc, from the timeline's zero
  calWait : Bool := false            -- its DLY_RSP is awaited
  calAt   : Nat := 0                 -- Tc of the last calibration request
  calEver : Bool := false            -- CL_PORTx_OWD holds a calibration
  calOk   : Bool := false            -- a round trip was measured since training began
  dly     : List (Nat × Nat) := []   -- DLY_REQs to answer: ID and arrival of the slot, 1/65,536 Tc
  ackAt   : Nat := 0                 -- Tc of the last ACK of mirror cells that advanced
  hAckAt  : Nat := 0                 -- the same for herd cells
  train   : TrainRt := {}
  swap    : Option SwapRt := none
  map     : Option Nat := none       -- logical lane carried by physical lane 4
  symErr  : SMap Nat := []           -- corrected symbols of each logical lane in the present 2^20 frames
  symN    : Nat := 0                 -- half-frames of them
  digAt   : Nat := 0                 -- Tc of the last commit, from which DIGESTs are repeated (R438)
  hready  : Option (Nat × List Byte) := none  -- AT and digest of the neighbour's last HREADY (R437)
  shut    : Bool := false            -- the last half-frame was discarded whole: nothing in it is used (R238, R408)
  deriving DecidableEq, Repr

/-- A channel as a standby shows it (R420, R426). -/
structure ChanView where
  state   : Nat := 0
  code    : Nat := 0
  flags   : Nat := 0
  retired : Nat := 0
  cur     : Word := 0
  moved   : Nat := 0
  deriving DecidableEq, Repr

/-- A planned switchover under way (R429). -/
structure Switchover where
  hdr   : UmHdr
  start : Nat       -- Tc of acceptance
  deriving DecidableEq, Repr

/-- A herd cell to be forwarded (R434): the ports, the Tc of its slot on the second, and its content. -/
structure FwdCell where
  src   : Nat       -- port that received it
  dst   : Nat       -- port that it leaves on
  at_   : Nat       -- Tc in which it leaves
  late  : Bool      -- w is not 0
  kind  : Nat
  addr  : Nat       -- SRC of the cell
  bytes : List Byte
  deriving DecidableEq, Repr

/-- The twin's state beside its registers (R404 to R431). -/
structure TwRt where
  views    : SMap ChanView := []
  dirty    : List Nat := []              -- channels whose CHAN record waits for the next heartbeat instant (R418)
  swo      : Option Switchover := none
  takeover : Option Nat := none          -- Tc of entry to Takeover
  peerSync : Bool := false               -- SYNC of the peer's last HEARTBEAT
  syncSent : Bool := false               -- the source has queued the records of the sync under way (R421)
  syncDone : Option (Nat × List Byte) := none   -- the source's TL_STATE and digest at the last SYNC_DONE
  hready   : Option (Nat × List Byte) := none   -- AT and digest of the herd commit under way (R437)
  hrAt     : Nat := 0                    -- Tc in which it was accepted
  guarded  : Bool := false               -- its guard check is done
  fwd      : List FwdCell := []          -- herd cells on their way from one port to another
  left     : Bool := false               -- it left Twin-Standby by MODE_SET, and no RESYNC has come since (R430)
  syncAt   : Nat := 0                    -- Tc in which the records of the last pass of the sync were queued
  higher   : Bool := false               -- a higher epoch has been seen (R416)
  yield    : Bool := false               -- the next HEARTBEAT carries YIELD (R415)
  deriving DecidableEq, Repr

end Sys2Proof.Machine
end

