-- ==== Sys2Proof/Machine/State.lean ====
section
/-! DEFINITION. The machine's state, the reasons a step can stop, and the state after reset. -/

namespace Sys2Proof.Machine

/-- The machine stops with a fault. -/
inductive Fault where
  /-- Raised by no command: the spec gives every row an effect. Safe: a stop would claim nothing. -/
  | malformed
  deriving DecidableEq, Repr

/-- The machine refuses a command. -/
inductive Refusal where
  /-- Raised by `exec` for a command that has no meaning in the model. Safe: nothing is claimed of it. -/
  | notModelled (mnemonic : String)
  deriving DecidableEq, Repr

/-- The state of the device and the queue of commands that wait. -/
structure State where
  pending : List Instr            -- commands that wait, first in, first out
  ticks   : Nat                   -- Tc since the model's start
  aon     : Nat                   -- always-on oscillator cycles since AON power-on
  aonLeft : Nat                   -- Tc left of the present cycle of the always-on oscillator
  core    : Nat                   -- core cycles
  coreQ   : Nat                   -- quarters of a Tc spent in the present core cycle (R54)
  regs    : SMap Word             -- fields of every kind but RWG
  gen     : SMap Word             -- RWG fields: the active image
  staged  : SMap Word             -- RWG fields: the staged image
  latches : List Latch
  heldWr  : List HeldWrite
  tk      : Timekeeper
  log     : TroubleLog
  calBad  : List Nat              -- ports whose last calibration failed (R74)
  pails   : SMap PailRt
  banks   : SMap BankRt
  repairDue : Bool                -- a remap or lane swap waits for the repair record (R557)
  units   : SMap UnitRt
  groups  : SMap GroupRt
  spares  : SMap SpareRt
  chans   : SMap ChanRt
  slices  : SMap SliceRt
  ports   : SMap PortRt
  links   : SMap LinkRt
  um      : Um
  pw      : PwRt
  rs      : RsRt
  cl      : SMap ClRt
  tw      : TwRt
  sec     : SecRt
  flash   : Flash
  image   : List Byte             -- body of the firmware image that runs; empty without one (R514)
  fresh   : Nat                   -- counter of free values taken (the model's own)
  out     : List Out              -- what left the device, newest first (the model's own)
  hot     : SMap Hot              -- what hardware has done to W1C and RC bits in the present Tc (R15)
  eg      : EgressRt              -- the host links' turns outside the beat wheel (R568)
  calDue  : SMap Nat              -- groups powered up and not calibrated since: 1 + the Tc of their power-up (R73)
  deriving DecidableEq, Repr

/-- The Timekeeper after AON power-on (R57, R63). -/
def Timekeeper.reset : Timekeeper :=
  { count := 0, since := 0, relock := 0, outN := 0, outPhase := 0, lastWin := none, lastEdge := none,
    setReqs := [], change := none, detectors := 0, episode := none, lastStr := none, absent := 0,
    sleep := none, lostAt := none, ratioAt := none }

/-- The machine right after reset: AON has just powered on, the device is Held, and the RESET_CAUSE entry of the power-on
waits in the trouble log's queue (R35, R490, R493, R550). -/
def State.reset : State :=
  let cause : LogEntry := { tl := 0, stamp := 0, source := 0xFFFF, kind := 2, flags := 0, seq := 0, param := 1 }
  { pending := [], ticks := 0, aon := 0, aonLeft := 79, core := 0, coreQ := 0, regs := [(0x50000, 1)], gen := [], staged := [],
    latches := [], heldWr := [], tk := Timekeeper.reset,
    log := { ring := [], bad := [], queue := [⟨cause, 0⟩], lost := 0 },
    calBad := [], pails := [], banks := [], repairDue := false, units := [], groups := [], spares := [], chans := [],
    slices := [], ports := [], links := [], um := {}, pw := {},
    rs := { causeAon := some 0, causeN := 1 }, cl := [], tw := {}, sec := {}, flash := {}, image := [], fresh := 0, out := [],
    hot := [], eg := {}, calDue := [] }

end Sys2Proof.Machine
end

