-- ==== Sys2Proof/Machine/Pcie.lean ====
section
/-! DEFINITION. Configuration space of a host link's function: the offsets of R296, the after-reset values of R297 and of
the PCI Express layouts that R296 refers to (PRESUMED, log 12), and which bits a configuration write changes. -/

namespace Sys2Proof.Machine

/-- An extended capability header: identifier, version 1 and the next offset. -/
def extHdr (id next : Nat) : Nat := id + 0x10000 + (next <<< 20)

/-- Configuration words that are not zero after reset, by byte offset (R4, R296, R297, R332). -/
def cfgRstTable : List (Nat × Nat) := [
  (0x000, 0x09601F9A), (0x004, 0x00100000), (0x008, 0x11800020), (0x034, 0x40),
  (0x010, 0x4), (0x018, 0x4), (0x020, 0x4),
  (0x040, 0x00034801), (0x044, 0x8),
  (0x048, 0x07FF6011), (0x04C, 0x20000), (0x050, 0x28000),
  (0x060, 0x80020010), (0x064, 0x50008FE2), (0x068, 0x2810), (0x06C, 0x0040F907),
  (0x084, 0x0033001F), (0x08C, 0x018000FE), (0x090, 0x7),
  (0x100, extHdr 0x0001 0x160), (0x108, 0x02400000), (0x10C, 0x00462030), (0x114, 0x00006000), (0x118, 0x000008A0),
  (0x160, extHdr 0x0003 0x170), (0x170, extHdr 0x0019 0x1B0), (0x1B0, extHdr 0x0025 0x1C0), (0x1B4, 0x80000001),
  (0x1C0, extHdr 0x0026 0x200), (0x200, extHdr 0x002A 0x240), (0x240, extHdr 0x0031 0x280),
  (0x280, extHdr 0x0027 0x2E0), (0x284, 0x00010000), (0x2E0, extHdr 0x001E 0x300), (0x2E4, 0x1F),
  (0x300, extHdr 0x002F 0x320), (0x304, 0xE), (0x320, extHdr 0x0032 0x360),
  (0x360, extHdr 0x001B 0x370), (0x364, 0x1400), (0x370, extHdr 0x000F 0x380), (0x374, 0x20),
  (0x380, extHdr 0x002E 0x400), (0x384, 0x1), (0x400, extHdr 0x0030 0x000), (0x404, 0x010F0063)]

/-- The lane whose Lane Margining register stands at a word offset: 16 of them from 0x288 on (R292). -/
def marginLane (off : Nat) : Option Nat := if 0x288 ≤ off ∧ off < 0x2C8 then some ((off - 0x288) / 4) else none

/-- A word of a selective IDE stream's block: the stream, 1 to 16, and the byte offset in its block of 0x2C (R304). -/
def ideBlock (off : Nat) : Option (Nat × Nat) :=
  if 0x414 ≤ off ∧ off < 0x6D4 then some ((off - 0x414) / 0x2C + 1, (off - 0x414) % 0x2C) else none

/-- The value of a configuration word after reset: No Command in a lane's margining control; two address association
blocks in a selective stream's capability. -/
def cfgRst (off : Nat) : Nat :=
  match marginLane off, ideBlock off with
  | some _, _ => 0x9C38
  | _, some (_, 0) => 2
  | _, _ => ((cfgRstTable.find? (fun e => e.1 == off)).map (·.2)).getD 0

/-- The bits of a word of a selective stream's block that a write sets: control, the Requester ID association and two
address associations. -/
def ideRw (o : Nat) : Nat :=
  if o = 0x04 then 0xFFFFC301
  else if o = 0x0C then 0x00FFFF00
  else if o = 0x10 then 0x00FFFF01
  else if o = 0x14 ∨ o = 0x20 then 0xFFFFFF01
  else if 0x18 ≤ o then 0xFFFFFFFF
  else 0

/-- The bits of a configuration word that a write sets (RW), by byte offset. -/
def cfgRw (off : Nat) : Nat :=
  if off = 0x004 then 0x0546            -- Memory Space, Bus Master, Parity Error, SERR, Interrupt Disable
  else if off = 0x00C then 0xFF
  else if off = 0x010 then 0xFE000000   -- BAR0, 32 MiB
  else if off = 0x014 then 0xFFFFFFFF
  else if off = 0x018 then 0xFC000000   -- BAR2, 64 MiB
  else if off = 0x01C then 0xFFFFFFFF
  else if off = 0x020 then 0            -- BAR4, 32 GiB
  else if off = 0x024 then 0xFFFFFFF8
  else if off = 0x030 then 0xFF000001   -- Expansion ROM, 16 MiB
  else if off = 0x03C then 0xFF
  else if off = 0x044 then 0x3          -- power state
  else if off = 0x048 then 0xC0000000   -- MSI-X Enable, Function Mask
  else if off = 0x068 then 0x7FFF       -- Device Control, Initiate FLR apart
  else if off = 0x070 then 0x0FFB
  else if off = 0x088 then 0x7FF
  else if off = 0x090 then 0xFFFF
  else if off = 0x108 then 0x07FFFFF0   -- uncorrectable mask
  else if off = 0x10C then 0x07FFFFF0   -- uncorrectable severity
  else if off = 0x114 then 0xF1C1       -- corrected mask
      ||| 0x2000
  else if off = 0x118 then 0x1140
  else if (marginLane off).isSome then 0xFF7F
  else if off = 0x2E8 then 0xE3FFFF0F
  else if off = 0x2EC then 0xFB
  else if off = 0x308 then 0x7C         -- L0p Enable and Target Link Width
  else if off = 0x364 then 0x00010000   -- PASID Enable
  else if off = 0x374 then 0x801F0000   -- ATS Enable, Smallest Translation Unit
  else if off = 0x388 then 0x2          -- DOE Interrupt Enable
  else if off = 0x40C then 0xFF3FC101   -- link IDE stream
  else
    match ideBlock off with
    | some (_, o) => ideRw o
    | none => 0

/-- The bits of a configuration word that a write of 1 clears (RW1C). -/
def cfgW1c (off : Nat) : Nat :=
  if off = 0x004 then 0xF9000000
  else if off = 0x068 then 0x000F0000
  else if off = 0x104 then 0x07FFFFF0
  else if off = 0x110 then 0xFFFF
  else 0

/-- The runtime state of link `m`. -/
def State.link (s : State) (m : Nat) : LinkRt := SMap.get {} s.links m

/-- The state with the runtime state of link `m` replaced by its image under `f`. -/
def State.updLink (s : State) (m : Nat) (f : LinkRt → LinkRt) : State :=
  { s with links := SMap.upd {} s.links m f }

/-- A word of link `m`'s configuration space. -/
def LinkRt.cfgW (l : LinkRt) (off : Nat) : Nat := SMap.get (cfgRst off) l.cfg off

/-- Link state with one configuration word replaced. -/
def LinkRt.setCfg (l : LinkRt) (off v : Nat) : LinkRt := { l with cfg := SMap.put (cfgRst off) l.cfg off v }

/-- Memory Space Enable of a link (R311). -/
def LinkRt.mse (l : LinkRt) : Bool := (l.cfgW 0x004).testBit 1
/-- Bus Master Enable of a link (R310). -/
def LinkRt.bme (l : LinkRt) : Bool := (l.cfgW 0x004).testBit 2
/-- The function is in D3hot (R312). -/
def LinkRt.d3 (l : LinkRt) : Bool := decide (bitsOf (l.cfgW 0x044) 1 0 = 3)
/-- MSI-X Enable (R333). -/
def LinkRt.msixEn (l : LinkRt) : Bool := (l.cfgW 0x048).testBit 31
/-- MSI-X Function Mask (R333). -/
def LinkRt.msixFm (l : LinkRt) : Bool := (l.cfgW 0x048).testBit 30
/-- PASID Enable (R299). -/
def LinkRt.pasidEn (l : LinkRt) : Bool := (l.cfgW 0x364).testBit 16
/-- ATS Enable (R300). -/
def LinkRt.atsEn (l : LinkRt) : Bool := (l.cfgW 0x374).testBit 31

/-- An MSI-X table word after reset: address 0; data 0 with Mask 1 (R332). -/
def msixRst (i : Nat) : Word := if i % 2 = 1 then 0x100000000 else 0

/-- A word of the MSI-X table: 2v is vector v's address, 2v + 1 its data and control. -/
def LinkRt.msixW (l : LinkRt) (i : Nat) : Word := SMap.get (msixRst i) l.msix i

/-- The mask bit of a vector. -/
def LinkRt.vecMask (l : LinkRt) (v : Nat) : Bool := (l.msixW (2 * v + 1)).toNat.testBit 32

/-- A signalled vector may send its message now (R333). -/
def LinkRt.sendable (l : LinkRt) (v : Nat) : Bool :=
  l.msixEn && !l.msixFm && !l.vecMask v && l.bme && !l.d3

end Sys2Proof.Machine
end

