-- ==== Sys2Proof/Machine/Ops.lean ====
section
/-! DEFINITION. The named operations that the meanings share: the register file, the present time, votes and domains,
the trouble log, MSI-X messages, AER and the event matrix. -/

namespace Sys2Proof.Machine

/-- What a meaning answers. -/
abbrev Res := Host.Outcome State Fault Refusal

/-! ## The register file -/

/-- The bits of register `k` whose kind is not RWG. -/
def State.rdW (s : State) (k : Nat) : Word := SMap.get (rstW k) s.regs k
/-- The RWG bits of register `k` in the active image. -/
def State.rdG (s : State) (k : Nat) : Word := SMap.get (rstG k) s.gen k
/-- The RWG bits of register `k` in the staged image. -/
def State.rdS (s : State) (k : Nat) : Word := SMap.get (rstG k) s.staged k
/-- Register `k`'s other bits replaced by `w`. -/
def State.wrW (s : State) (k : Nat) (w : Word) : State := { s with regs := SMap.put (rstW k) s.regs k w }
/-- Register `k`'s RWG bits in the active image replaced by `w`. -/
def State.wrG (s : State) (k : Nat) (w : Word) : State := { s with gen := SMap.put (rstG k) s.gen k w }
/-- Register `k`'s RWG bits in the staged image replaced by `w`. -/
def State.wrS (s : State) (k : Nat) (w : Word) : State := { s with staged := SMap.put (rstG k) s.staged k w }

/-- The value of a field of register `k`: the active image's for an RWG field (R14). -/
def State.fld (s : State) (k : Nat) (f : Fld) : Nat := f.get (if f.rwg then s.rdG k else s.rdW k)
/-- The value of a field in the staged image, or of the register for a field that is not RWG (R390). -/
def State.sfld (s : State) (k : Nat) (f : Fld) : Nat := f.get (if f.rwg then s.rdS k else s.rdW k)
/-- A field of register `k`, of a kind other than RWG, set by hardware: no RWG field but through its generation (R14). -/
def State.setFld (s : State) (k : Nat) (f : Fld) (v : Nat) : State := s.wrW k (f.put (s.rdW k) v)
/-- A field of one bit reads 1. -/
def State.flag (s : State) (k : Nat) (f : Fld) : Bool := decide (s.fld k f ≠ 0)
/-- The whole value of register `k` as its fields stand: RWG fields from the active image (R14). -/
def State.regVal (s : State) (k : Nat) : Word := (s.rdW k &&& ~~~ rwgMask k) ||| (s.rdG k &&& rwgMask k)
/-- What hardware has done to register `k` in the present Tc (R15). -/
def State.hotOf (s : State) (k : Nat) : Hot := SMap.get {} s.hot k
/-- Hardware does more to it. -/
def State.heat (s : State) (k : Nat) (f : Hot → Hot) : State := { s with hot := SMap.upd {} s.hot k f }
/-- Hardware sets the bits `v` of a W1C field of register `k` (R15). -/
def State.setBitsOf (s : State) (k v : Nat) : State :=
  (s.wrW k (BitVec.ofNat 64 ((s.rdW k).toNat ||| v))).heat k (fun h => { h with set := h.set ||| v })
/-- Hardware sets a W1C flag (R15). -/
def State.setW1c (s : State) (k : Nat) (f : Fld) : State := s.setBitsOf k (2 ^ f.lo)
/-- A counter of register `k` increased by `n`, saturating at `max` (R93). -/
def State.addCnt (s : State) (k n max : Nat) : State :=
  (s.wrW k (BitVec.ofNat 64 (min ((s.rdW k).toNat + n) max))).heat k (fun h => { h with add := h.add + n })
/-- cnt: 1 added to a 32-bit counter, saturating (R93). -/
def State.cnt (s : State) (k : Nat) : State := s.addCnt k 1 0xFFFFFFFF
/-- Word `j` of a 384-bit register replaced, for each word of a list, from word `j` up. -/
def State.wrWide (s : State) (k : Nat) : List Word → State
  | [] => s
  | w :: ws => (s.wrW k w).wrWide (k + 8) ws
/-- The 48 bytes of a 384-bit register. -/
def State.rdWide (s : State) (k : Nat) : List Byte :=
  bytesOfWords ((List.range 6).map (fun j => s.rdW (k + 8 * j)))

/-- The indices of the registers of an array that an image lists: no other of them has a bit set (R14). -/
def listed (img : SMap Word) (base stride count : Nat) : List Nat :=
  img.filterMap (fun e =>
    if base ≤ e.1 ∧ e.1 < base + stride * count ∧ (e.1 - base) % stride = 0 then some ((e.1 - base) / stride) else none)

/-! ## Modes, domains and the present time -/

/-- The present mode code (R34). -/
def State.mode (s : State) : Nat := s.fld Reg.PW_MODE F.PW_MODE_MODE
/-- Domain `d` is released and not clamped: PW_ON (R441). -/
def State.on (s : State) (d : Nat) : Bool := (s.rdW Reg.PW_ON).toNat.testBit d
/-- Domain code of group `g`. -/
def domL (g : Nat) : Nat := 0x10 + g
/-- Domain code of Churn unit `u`. -/
def domC (u : Nat) : Nat := 0x20 + u
/-- Domain code of Vat bank `b`. -/
def domV (b : Nat) : Nat := 0x30 + b
/-- Domain code of host port `p`. -/
def domH (p : Nat) : Nat := 0x08 + p
/-- Bit `i` of a number set or cleared. -/
def putBit (v i : Nat) (b : Bool) : Nat :=
  if b then v ||| 2 ^ i else if v.testBit i then v - 2 ^ i else v
/-- TL_NOW as a timeline count. -/
def State.now (s : State) : Nat := s.tk.count
/-- Core cycle `c` is stretched (R76). -/
def Timekeeper.stretched (t : Timekeeper) (c : Nat) : Bool :=
  match t.episode with
  | some e => decide (e.first ≤ c) && (e.stop.map (fun x => decide (c < x))).getD true
  | none => false

/-- Quarters of a Tc in core cycle `c` (R54). -/
def Timekeeper.quarters (t : Timekeeper) (c : Nat) : Nat := if t.stretched c then 5 else 4

/-- The core cycle in which an event of the present Tc falls: the one that begins within it where a stretched episode has
moved the edges off those of the Timekeeper (R76). -/
def State.coreNow (s : State) : Nat := if s.tk.quarters s.core < s.coreQ + 4 then s.core + 1 else s.core

/-- The core cycle and its quarters spent, a number of Tc before the given ones (R54). -/
def Timekeeper.coreBack (t : Timekeeper) : Nat → Nat → Nat → Nat
  | 0, c, q => if t.quarters c < q + 4 then c + 1 else c
  | n + 1, c, q => if 4 ≤ q then t.coreBack n c (q - 4) else t.coreBack n (c - 1) (q + t.quarters (c - 1) - 4)

/-- The core cycle in which an event of `ago` Tc before the present one fell (R76). -/
def State.coreAgo (s : State) (ago : Nat) : Nat :=
  let still : Bool := match s.tk.episode with
    | none => true
    | some e => (e.stop.map (fun c => decide (c + ago < s.core))).getD false
  if still ∧ s.coreQ = 0 then s.core - ago else s.tk.coreBack (min ago 4096) s.core s.coreQ - (ago - 4096)

/-- TL_STATE.STATE: 0 Invalid, 1 Acquiring, 2 Locked, 3 Coasting (R61). -/
def State.tlState (s : State) : Nat := s.fld Reg.TL_STATE F.TL_STATE_STATE
/-- HAS_TIME is 1 and TK is released (R549). -/
def State.tlKnown (s : State) : Bool := s.on 2 && s.flag Reg.TL_STATE F.TL_STATE_HAS_TIME
/-- A free value: an arbitrary word, another at each use. -/
def State.takeFree (s : State) : Word × State := (Config.freeWord s.fresh, { s with fresh := s.fresh + 1 })
/-- Whether a remap or lane swap waits for the repair record (R557). -/
def State.setRepairDue (s : State) (b : Bool) : State := { s with repairDue := b }
/-- The registers outside the RWG images whose offsets pass `p` stay; every other one takes its after-reset value. -/
def State.keepRegs (s : State) (p : Nat → Bool) : State := { s with regs := SMap.keep p s.regs }
/-- The same for the RWG images. -/
def State.keepImages (s : State) (p : Nat → Bool) : State := { s with gen := SMap.keep p s.gen, staged := SMap.keep p s.staged }
/-- The staged image takes the active one's contents (R389). -/
def State.copyActive (s : State) : State := { s with staged := s.gen }
/-- The staged image is lost (R389). -/
def State.dropStaged (s : State) : State := { s with staged := [] }
/-- The staged image becomes the active one (R393). -/
def State.promote (s : State) : State := { s with gen := s.staged, staged := [] }
/-- The host links' runtime state. -/
def State.setLinks (s : State) (l : SMap LinkRt) : State := { s with links := l }
/-- The channels' runtime state. -/
def State.setChans (s : State) (l : SMap ChanRt) : State := { s with chans := l }
/-- The slices' runtime state. -/
def State.setSlices (s : State) (l : SMap SliceRt) : State := { s with slices := l }
/-- The trouble log's ring and queue. -/
def State.setLog (s : State) (l : TroubleLog) : State := { s with log := l }
/-- The flash replaced by its image under `f`. -/
def State.updFlash (s : State) (f : Flash → Flash) : State := { s with flash := f s.flash }
/-- The body of the firmware image that runs (R514). -/
def State.setImage (s : State) (i : List Byte) : State := { s with image := i }
/-- The read latches (R88). -/
def State.setLatches (s : State) (l : List Latch) : State := { s with latches := l }
/-- The low halves of writes that are held (R88). -/
def State.setHeldWr (s : State) (l : List HeldWrite) : State := { s with heldWr := l }
/-- The pails' runtime state. -/
def State.setPails (s : State) (l : SMap PailRt) : State := { s with pails := l }
/-- Something leaves the device. -/
def State.emit (s : State) (o : Out) : State := { s with out := o :: s.out }

/-! ## The trouble log (19) -/

/-- The order of entries within one Tc (R552): events by source first, then the other kinds by kind. -/
def logRank (e : LogEntry) : Nat := if e.kind = 0x01 then e.source else 1000 + e.kind

/-- Entries of the present Tc that stand at the queue's end and rank after `r` (R552). -/
def logTail (tc r : Nat) : List LogWait → List LogWait × List LogWait
  | [] => ([], [])
  | w :: ws =>
    let (a, b) := logTail tc r ws
    if a = [] ∧ w.tc = tc ∧ w.entry.kind ≠ 0x0D ∧ r < logRank w.entry then ([], w :: b) else (w :: a, b)

/-- Sequence numbers given to entries in order from `n`, modulo 2^32 (R552). -/
def logSeqs : Nat → List LogWait → List LogWait
  | _, [] => []
  | n, w :: ws => { w with entry := { w.entry with seq := n % 2 ^ 32 } } :: logSeqs (n + 1) ws

/-- The places of the queue that are taken; a LOST entry takes none (R552). -/
def logFill (q : List LogWait) : Nat := (q.filter (fun w => w.entry.kind != 0x0D)).length

/-- Flags of an entry written now (R549): bit 1 TL_VALID, bit 2 SLEEP. -/
def State.logFlags (s : State) : Nat :=
  (if s.tlKnown then 2 else 0) +
  (if s.mode = 0xA ∨ s.mode = 0xB ∨ s.pw.sleep.isSome then 4 else 0)

/-- An entry offered to the trouble log's queue: it takes the next SEQ, or is lost when the queue is full (R552). -/
def State.logPut (s : State) (e : LogEntry) : State :=
  if 256 ≤ logFill s.log.queue then
    ({ s with log := { s.log with lost := s.log.lost + 1 } }).cnt Reg.LOG_LOST
  else
    let seq := (s.rdW Reg.LOG_SEQ).toNat
    if s.log.lost ≠ 0 then
      let l : LogWait := ⟨{ e with source := 0xFFFF, kind := 0x0D, seq := seq % 2 ^ 32, param := BitVec.ofNat 64 s.log.lost }, s.ticks⟩
      let w : LogWait := ⟨{ e with seq := (seq + 1) % 2 ^ 32 }, s.ticks⟩
      ({ s with log := { s.log with queue := s.log.queue ++ [l, w], lost := 0 } }).wrW Reg.LOG_SEQ
        (BitVec.ofNat 64 ((seq + 2) % 2 ^ 32))
    else
      let (a, b) := logTail s.ticks (logRank e) s.log.queue
      let first := seq + 2 ^ 32 - b.length
      ({ s with log := { s.log with queue := a ++ logSeqs first (⟨e, s.ticks⟩ :: b) } }).wrW Reg.LOG_SEQ
        (BitVec.ofNat 64 ((seq + 1) % 2 ^ 32))

/-- An entry of a kind other than EVENT, stamped now (R549, R550). -/
def State.logKind (s : State) (kind : Nat) (param : Nat) : State :=
  s.logPut { tl := if s.tlKnown then tlOf s.now else 0, stamp := BitVec.ofNat 64 s.aon, source := 0xFFFF, kind := kind,
             flags := s.logFlags, seq := 0, param := BitVec.ofNat 64 param }

/-! ## MSI-X (11) -/

/-- A vector of link `m` is signalled (R333, R334, R336), unless the link has been reset in this Tc (R344). -/
def State.signal (s : State) (m v : Nat) : State :=
  let l := s.link m
  if l.cutAt = some s.ticks then s
  else if l.sendable v then
    if l.pend.contains v then s
    else s.updLink m (fun l => { l with msgs := l.msgs ++ [⟨v, s.coreNow + 140, false, s.ticks⟩] })
  else s.updLink m (fun l => { l with pend := insNat l.pend v })

/-- A write that stops a vector in the Tc of its signal applies first: the vector is pending (R344). -/
def LinkRt.remask (l : LinkRt) (now : Nat) : LinkRt :=
  let stopped (w : MsgWait) : Bool := w.at_ == now && !l.sendable w.vec
  { l with msgs := l.msgs.filter (fun w => !stopped w), pend := ((l.msgs.filter stopped).map (·.vec)).foldl insNat l.pend }

/-- After a write that concerns link `m`'s vectors: pending ones that have become sendable start on their way, in rising
vector number (R333, R334). -/
def State.sendPending (s : State) (m : Nat) : State :=
  s.updLink m (fun l =>
    let l := l.remask s.ticks
    { l with msgs := l.msgs ++
        ((l.pend.filter (fun v => l.sendable v && !(l.msgs.any (fun w => w.vec == v && w.held)))).map
          (fun v => ⟨v, s.coreNow + 140, true, s.ticks⟩)) })

/-! ## AER (11 R346, R347) -/

/-- Errors of AER's uncorrectable status register, by bit. -/
def aerUr : Nat := 20
def aerCa : Nat := 15
def aerPoison : Nat := 12
def aerCto : Nat := 14
def aerUnexp : Nat := 16
def aerInternal : Nat := 22
def aerIde : Nat := 27

/-- An uncorrectable error recorded in link `m`'s AER capability, with a Header Log and a TLP Prefix Log of four words each
(R346, R347). -/
def State.recUnc (s : State) (m bit : Nat) (hdr : List Nat) : State :=
  let l := s.link m
  let st := l.cfgW 0x104
  let masked := (l.cfgW 0x108).testBit bit
  let fatal := (l.cfgW 0x10C).testBit bit
  let l := l.setCfg 0x104 (st ||| 2 ^ bit)
  let l := if masked ∨ st ≠ 0 then l else
    (List.range 4).foldl (fun l i => l.setCfg (0x138 + 4 * i) (hdr.getD (4 + i) 0)) <|
    ((((l.setCfg 0x11C (hdr.getD 0 0)).setCfg 0x120 (hdr.getD 1 0)).setCfg 0x124 (hdr.getD 2 0)).setCfg 0x128 (hdr.getD 3 0)).setCfg
      0x118 ((l.cfgW 0x118 / 32) * 32 + bit)
  let l := l.setCfg 0x068 (l.cfgW 0x068 ||| (if fatal then 0x40000 else 0x20000) ||| (if bit = 20 then 0x80000 else 0))
  let s := s.updLink m (fun _ => l)
  if !masked ∧ (l.cfgW 0x068).testBit (if fatal then 2 else 1) then s.emit (.aerMsg m (if fatal then 2 else 1)) else s

/-- A corrected error recorded in link `m`'s AER capability. -/
def State.recCor (s : State) (m bit : Nat) : State :=
  let l := s.link m
  let masked := (l.cfgW 0x114).testBit bit
  let l := (l.setCfg 0x110 (l.cfgW 0x110 ||| 2 ^ bit)).setCfg 0x068 (l.cfgW 0x068 ||| 0x10000)
  let s := s.updLink m (fun _ => l)
  if !masked ∧ (l.cfgW 0x068).testBit 0 then s.emit (.aerMsg m 0) else s

/-! ## The event matrix (11 R338 to R345) -/

/-- The link of a route performs its actions: it is present in its port's layout (R288). -/
def State.linkPresent (s : State) (m : Nat) : Bool :=
  match s.fld (Reg.HL_PORT_STAT (m / 4)) F.HL_PORT_STAT_BIF with
  | 0 => m % 4 == 0
  | 1 => m % 4 < 2
  | 2 => true
  | _ => false

/-- DETAIL of an EVENT entry for source `i`, where the register that R551 names stands in the register file. -/
def State.evDetail (s : State) (i : Nat) : Nat :=
  if i < 288 then (s.rdW (Reg.AL_EVENT (i / 3))).toNat
  else if i < 416 then (s.rdW (Reg.HL_LINK_EVENT ((i - 288) / 4))).toNat
  else if i < 480 then (s.rdW (Reg.CH_FAULT ((i - 416) / 4))).toNat
  else if i < 528 then 0
  else if i < 544 then (s.rdW Reg.TL_STATE).toNat
  else if i < 568 then (s.rdW Reg.PW_ENTRY).toNat
  else if i < 584 then (s.rdW Reg.SEC_TAMPER_STAT).toNat
  else if i < 600 then (s.rdW Reg.TW_STAT).toNat
  else if i < 612 then (s.rdW Reg.RS_CAUSE).toNat
  else if i < 617 then (s.rdW Reg.PW_SUP_STAT).toNat
  else if i < 622 then (s.rdW Reg.PW_THERM_STAT).toNat
  else if i < 626 ∨ 628 < i then 0
  else (s.rdW Reg.UM_GEN_STAT).toNat

/-- EV_RAISED of source `i`. -/
def State.raised (s : State) (i : Nat) : Bool := (s.rdW (Reg.EV_RAISED (i / 32))).toNat.testBit (i % 32)

/-- Hardware has raised the source of bits `v` of register `k` with them in the present Tc (R134). -/
def State.rose (s : State) (k v : Nat) : State := s.heat k (fun h => { h with rose := h.rose ||| v })

/-- The image whose routes apply: in the Tc of a commit the new one (R344). -/
def State.routes (s : State) : SMap Word :=
  match s.um.armed with
  | some a => if a.ok && s.tlKnown && tlReached s.now a.at_ then s.staged else s.gen
  | none => s.gen

/-- The actions of a raise of source `i` (R340, R341, R343): EV_RAISED, ALERT_N, the vector, AER, and the trouble-log
entry. An AER report is an occurrence of HL_ERR of its link (R317), whose own raise takes one of the `n` turns left: each
link's HL_ERR rises at most once. -/
def State.raiseActs : Nat → State → Nat → Nat → Nat → State
  | n, s, i, det, flags =>
    let s := (s.setBitsOf (Reg.EV_RAISED (i / 32)) (2 ^ (i % 32))).rose (Reg.EV_RAISED (i / 32)) (2 ^ (i % 32))
    let k := Reg.EV_ROUTE i
    let r := SMap.get (rstG k) s.routes k
    let m := F.EV_ROUTE_LINK.get r
    let live := s.linkPresent m
    let s := if F.EV_ROUTE_ALERT_EN.get r = 1 then s.setFld Reg.EV_ALERT F.EV_ALERT_ALERT 1 else s
    let s := if F.EV_ROUTE_VEC_EN.get r = 1 ∧ live = true then s.signal m (F.EV_ROUTE_VECTOR.get r) else s
    let s := if F.EV_ROUTE_LOG_EN.get r = 1 then
      s.logPut { tl := if s.tlKnown then tlOf s.now else 0, stamp := BitVec.ofNat 64 s.aon, source := i, kind := 1,
                 flags := s.logFlags + flags, seq := 0,
                 param := BitVec.ofNat 64 ((s.rdW (Reg.EV_CNT i)).toNat + det % 2 ^ 32 * 2 ^ 32) }
      else s
    if F.EV_ROUTE_AER_EN.get r = 1 ∧ live = true then
      let s := if F.EV_ROUTE_AER_SEV.get r = 1 then s.recUnc m aerInternal [] else s.recCor m 14
      match n with
      | 0 => s
      | n + 1 =>
        let e := Reg.HL_LINK_EVENT m
        let was := (s.rdW e).toNat.testBit 1
        let s := (s.setBitsOf e 2).cnt (Reg.EV_CNT (289 + 4 * m))
        if was then s else State.raiseActs n (s.rose e 2) (289 + 4 * m) (s.rdW e).toNat 0
    else s

/-- An occurrence of source `i` whose event bit is EV_RAISED's own: counted, and raised when the bit goes from 0 to 1
(R340). While MGMT is off nothing counts into the matrix (R454). -/
def State.occur (s : State) (i : Nat) : State :=
  if s.on 3 then
    let was := s.raised i
    let s := s.cnt (Reg.EV_CNT i)
    if was then s.setBitsOf (Reg.EV_RAISED (i / 32)) (2 ^ (i % 32)) else State.raiseActs 32 s i (s.evDetail i) 0
  else s

/-- An occurrence of source `i` whose event bit is bit `b` of register `k`: the bit is set, and the source is raised
when it goes from 0 to 1 (R134, R340). `det` is DETAIL of the log entry where R551 takes it from the occurrence. -/
def State.occurBit (s : State) (i k b : Nat) (det : Option Nat) : State :=
  let was := (s.rdW k).toNat.testBit b
  let s := (s.setBitsOf k (2 ^ b)).heat k (fun h => { h with det := det.getD (s.evDetail i) })
  if s.on 3 then
    let s := s.cnt (Reg.EV_CNT i)
    if was then s else State.raiseActs 32 (s.rose k (2 ^ b)) i (det.getD (s.evDetail i)) 0
  else s

/-- The source whose event bit is bit `b` of a register (R338, R340). -/
def eventSource (base i b : Nat) : Option Nat :=
  if base = Reg.AL_EVENT 0 then some (3 * i + b)
  else if base = Reg.HL_LINK_EVENT 0 then some (288 + 4 * i + b)
  else if base = Reg.CH_EVENT 0 then some (416 + 4 * i + b)
  else if base = Reg.DMA_EVGRP 0 0 then some (480 + i)
  else if base = Reg.VAT_EVENT 0 then some (512 + 4 * i + b)
  else if base = Reg.PW_EVENT then some (544 + b)
  else if base = Reg.SEC_EVENT then some (568 + b)
  else if base = Reg.TW_EVENT then some (584 + b)
  else if base = Reg.RS_EVENT then some (600 + b)
  else if base = Reg.PW_STEVENT then some (612 + b)
  else if base = Reg.EV_RAISED 0 ∧ (528 ≤ 32 * i + b ∧ 32 * i + b < 544 ∨ 624 ≤ 32 * i + b) then some (32 * i + b)
  else none

/-- A W1C write reaches bits that hardware has set in the same Tc: they stay set, and a source that they did not raise then is
raised again (R15, R134, R344). -/
def State.raiseAgain : State → Nat → (Nat → Option Nat) → List Nat → State
  | s, _, _, [] => s
  | s, k, src, b :: bs =>
    (match src b with
     | some i =>
       if s.on 3 = true ∧ (s.hotOf k).rose.testBit b = false then
         State.raiseActs 32 (s.rose k (2 ^ b)) i (s.hotOf k).det 0
       else s
     | none => s).raiseAgain k src bs

/-- Timeline source `e` (R87). -/
def State.evTl (s : State) (e : Nat) : State := s.occur (528 + e)
/-- Umger source `e` (R339). -/
def State.evUm (s : State) (e : Nat) : State := s.occur (624 + e)
/-- A-link source 3n + e with its bit in AL_EVENT (R265). -/
def State.evAl (s : State) (n e : Nat) : State := s.occurBit (3 * n + e) (Reg.AL_EVENT n) e none
/-- Host-link source 4m + e with its bit in HL_LINKm_EVENT (R317). -/
def State.evHl (s : State) (m e : Nat) : State := s.occurBit (288 + 4 * m + e) (Reg.HL_LINK_EVENT m) e none
/-- An uncorrectable error of link `m`, with HL_ERR (R317, R346). -/
def State.aerUnc (s : State) (m bit : Nat) (hdr : List Nat) : State := (s.recUnc m bit hdr).evHl m 1
/-- A corrected error of link `m`, with HL_ERR (R317, R346). -/
def State.aerCor (s : State) (m bit : Nat) : State := (s.recCor m bit).evHl m 1
/-- An uncorrectable error that a TLP caused (R347): the Header Log holds the TLP's header and the TLP Prefix Log its prefixes,
whose words are free values, for no command carries them. -/
def State.aerTlp (s : State) (m bit : Nat) : State :=
  let (a, s) := s.takeFree
  let (b, s) := s.takeFree
  let (c, s) := s.takeFree
  let (d, s) := s.takeFree
  s.aerUnc m bit ([a, b, c, d].flatMap (fun w => [w.toNat % 2 ^ 32, w.toNat / 2 ^ 32]))
/-- Churn source 4u + e with its bit in CH_EVENT (R134). -/
def State.evCh (s : State) (u e : Nat) : State := s.occurBit (416 + 4 * u + e) (Reg.CH_EVENT u) e none

/-- An error in a store beside the Vat and the weights: 0 descriptor and context, 1 read-return, 2 Creamery, 3 Cooler, 4
trouble log (R170, R193). Each is counted; MEM_ERROR tells of an uncorrectable one. -/
def State.storeError (s : State) (x : Nat) (unc : Bool) : State :=
  let s := s.cnt (if unc then Reg.VAT_ST_UECC x else Reg.VAT_ST_CECC x)
  if unc then s.evUm 6 else s

/-- The errors of a list that are those of a store: each counted, and whether one of them is uncorrectable. -/
def State.storeErrors : State → Nat → List EccHit → State × Bool
  | s, _, [] => (s, false)
  | s, x, h :: hs =>
    if h.pail = storeHit x then
      let (s, bad) := (s.storeError x h.unc).storeErrors x hs
      (s, bad || h.unc)
    else s.storeErrors x hs

/-- DETAIL of a Vat event: bank, and TYPE and ROW of its ERRLOG (R551). -/
def State.vatDetail (s : State) (b : Nat) : Nat :=
  b * 2 ^ 28 + s.fld (Reg.VAT_BANK_ERRLOG b) F.VAT_BANK_ERRLOG_TYPE * 2 ^ 26 +
    s.fld (Reg.VAT_BANK_ERRLOG b) F.VAT_BANK_ERRLOG_ROW
/-- Vat source 4q + e of bank `b`'s quadrant with its bit in VAT_EVENTq (R192). -/
def State.evVat (s : State) (b e : Nat) : State :=
  s.occurBit (512 + 4 * (b / 4) + e) (Reg.VAT_EVENT (b / 4)) e (some (s.vatDetail b))

end Sys2Proof.Machine
end

