-- ==== Sys2Proof/Machine/UmCore.lean ====
section
/-! DEFINITION. What every block shares of Umger: status codes, replies, and the end of an Armed generation (R386, R388,
R396). -/

namespace Sys2Proof

/-- The QUIET flag of a command (R384). -/
def UmHdr.quiet (h : UmHdr) : Bool := h.flags.testBit 1
/-- The HERD flag of a command (R384). -/
def UmHdr.herd (h : UmHdr) : Bool := h.flags.testBit 0

end Sys2Proof

namespace Sys2Proof.Machine

/-! Status codes of R388. -/
def stOK : Nat := 0x0000
def stAccepted : Nat := 0x0001
def stBadHeader : Nat := 0x0010
def stBadCrc : Nat := 0x0011
def stBadOpcode : Nat := 0x0012
def stBadParam : Nat := 0x0013
def stQueueFull : Nat := 0x0014
def stNotReady : Nat := 0x0015
def stMemPoison : Nat := 0x0016
def stModeRefused : Nat := 0x0020
def stModeBusy : Nat := 0x0021
def stDomainBusy : Nat := 0x0022
def stTlStateRefused : Nat := 0x0023
def stTlNoPps : Nat := 0x0024
def stModeCancelled : Nat := 0x0025
def stGenInvalid : Nat := 0x0030
def stGenBusy : Nat := 0x0031
def stGenNotOpen : Nat := 0x0032
def stGenStale : Nat := 0x0033
def stCommitTooSoon : Nat := 0x0034
def stGenDigestMismatch : Nat := 0x0035
def stGenAborted : Nat := 0x0036
def stBindConflict : Nat := 0x0040
def stSliceUnbound : Nat := 0x0041
def stMboxEmpty : Nat := 0x0042
def stMboxFull : Nat := 0x0043
def stWbRestoreFail : Nat := 0x0050
def stSpareRefused : Nat := 0x0051
def stSecDenied : Nat := 0x0060
def stAuthFail : Nat := 0x0061
def stRollback : Nat := 0x0062
def stRoleRefused : Nat := 0x0070
def stInternal : Nat := 0x00FF

/-- DETAIL where no register is named (R384). -/
def noDetail : Nat := 0xFFFFFFFF

/-- The state with Umger's part replaced by its image under `f`. -/
def State.updUm (s : State) (f : Um → Um) : State := { s with um := f s.um }

/-- A reply falls due, unless a reset of its carrier discarded it while its command was under execution (R382). -/
def State.post (s : State) (r : Reply) : State :=
  s.updUm (fun u =>
    if u.void.contains r.hdr then { u with void := u.void.erase r.hdr } else { u with due := u.due ++ [r] })

/-- A final reply of a command that is not of class D, or is refused before its work begins (R386): not posted when it
is OK and QUIET is set. -/
def State.reply (s : State) (h : UmHdr) (op status : Nat) (result : List Byte) : State :=
  if status = stOK ∧ h.quiet = true then s
  else s.post { hdr := h, op := op, status := status, detail := noDetail, result := result, final := true }

/-- A refusal that names a register in DETAIL. -/
def State.replyDet (s : State) (h : UmHdr) (op status detail : Nat) : State :=
  s.post { hdr := h, op := op, status := status, detail := detail, result := [], final := true }

/-- A refusal of a command. -/
def State.refuse (s : State) (h : UmHdr) (op status : Nat) : State := s.replyDet h op status noDetail

/-- The refusal of a command that fails a check of R385: it goes back with its header as received. -/
def State.refuseEcho (s : State) (h : UmHdr) (op status : Nat) : State :=
  s.post { hdr := h, op := op, status := status, detail := noDetail, result := [], final := true, echo := true }

/-- ACCEPTED of a class D command whose final reply is owed (R386). -/
def State.accepted (s : State) (h : UmHdr) (op : Nat) (result : List Byte) : State :=
  (s.post { hdr := h, op := op, status := stAccepted, detail := noDetail, result := result, final := false }).updUm
    (fun u => { u with begun := u.begun ++ [(h, op)] })

/-- ACCEPTED of a class D command; its final reply is then owed (R386). -/
def State.accept (s : State) (h : UmHdr) (op : Nat) (result : List Byte) : State :=
  (s.accepted h op result).updUm (fun u => { u with owed := u.owed ++ [(h, op)] })

/-- A reply with INTERNAL is logged; the spec states no firmware fault codes (R388, R550). -/
def State.logInternal (s : State) (op : Nat) : State :=
  let (w, s) := s.takeFree
  s.logKind 0x0A (op + w.toNat % 2 ^ 32 * 2 ^ 32)

/-- The final reply of class D work, unless its carrier's reset discarded it (R382, R386). -/
def State.final (s : State) (h : UmHdr) (op status detail : Nat) (result : List Byte) : State :=
  let s := if status = stInternal then s.logInternal op else s
  if s.um.owed.contains (h, op) then
    let r : Reply := { hdr := h, op := op, status := status, detail := detail, result := result, final := true,
                       later := s.um.begun.contains (h, op) }
    (s.post r).updUm (fun u => { u with owed := u.owed.erase (h, op), begun := u.begun.erase (h, op) })
  else s

/-- The manager link (R319). -/
def State.mgr (s : State) : Nat := s.fld Reg.HL_GLOBAL_MGR F.HL_GLOBAL_MGR_LINK

/-- UM_GEN_STAT.STATE: 0 Closed, 1 Open, 2 Armed (R389). -/
def State.genState (s : State) : Nat := s.fld Reg.UM_GEN_STAT F.UM_GEN_STAT_STATE

/-- PENDING of each group in a list cleared. -/
def State.clearPending : State → List Nat → State
  | s, [] => s
  | s, g :: gs => (s.setFld (Reg.CH_WB_STATUS g) F.CH_WB_STATUS_PENDING 0).clearPending gs

/-- Power source `e` with its bit in PW_EVENT (R465). -/
def State.evPw (s : State) (e : Nat) : State := s.occurBit (544 + e) Reg.PW_EVENT e none
/-- The state with the power controller's part replaced by its image under `f`. -/
def State.updPw (s : State) (f : PwRt → PwRt) : State := { s with pw := f s.pw }

/-- The security block replaced by its image under `f`. -/
def State.updSec (s : State) (f : SecRt → SecRt) : State := { s with sec := f s.sec }

/-- Security source `e` with its bit in SEC_EVENT (R539). -/
def State.evSec (s : State) (e : Nat) : State := s.occurBit (568 + e) Reg.SEC_EVENT e none

/-- Bits counted from bit 0 upward (R516). -/
def arbCount : Nat → Nat → Nat
  | 0, _ => 0
  | n + 1, v => if v % 2 = 1 then arbCount n (v / 2) + 1 else 0

/-- The anti-rollback count. -/
def Fuses.count (f : Fuses) : Nat := arbCount 64 f.arb

/-- VDD_FUSE is in range. -/
def State.fuseV (s : State) : Bool := s.flag Reg.SEC_STATE F.SEC_STATE_FUSE_V

/-- The anti-rollback counter at an entry to Ready (R516). -/
def State.arbStep (s : State) : State :=
  let svn := leAt s.sec.imgHead 12 1
  let c := s.sec.fuses.count
  if (s.sec.imgHead.getD 6 0).toNat.testBit 0 ∧ c < svn then
    if s.fuseV then
      let s := s.updSec (fun x => { x with fuses := { x.fuses with arb := x.fuses.arb ||| (2 ^ min svn 64 - 1) } })
      (s.setFld Reg.SEC_ARB F.SEC_ARB_COUNT s.sec.fuses.count).evSec 8
    else s.evSec 9
  else s

/-- A mode transition with its trigger code (R35), an occurrence of PW_MODE_CHANGE; MODE_GET shows its TL. Each entry to
Ready moves the anti-rollback counter (R516). -/
def State.setMode (s : State) (new trig : Nat) : State :=
  let k := Reg.PW_MODE
  let s := if new = 4 then s.arbStep else s
  let s := s.setFld k F.PW_MODE_PREV s.mode
  let s := ((s.setFld k F.PW_MODE_TRIGGER trig).setFld k F.PW_MODE_MODE new).setFld k F.PW_MODE_IN_TRANSIT 0
  (s.updUm (fun u => { u with transit := if s.tlKnown then tlOf s.now else 0 })).evPw 0

/-- The device is asleep, or its sleep entry has begun. -/
def State.dozing (s : State) : Bool := s.mode == 0xA || s.mode == 0xB || s.pw.sleep.isSome

/-- One more source of the same AON cycle (R463): PORT belongs to the lower of codes 0x2 and 0x3. -/
def WakeRt.join (w : WakeRt) (code port : Nat) : WakeRt :=
  { w with codes := w.codes ||| 2 ^ code,
           port := if code = 2 ∧ !w.codes.testBit 2 ∨ code = 3 ∧ !w.codes.testBit 2 ∧ !w.codes.testBit 3 then port else w.port }

/-- A wake source arises (R461, R463): one that is enabled, in sleep or sleep entry, is kept; those of the first AON
cycle make one wake. -/
def State.raiseWake (s : State) (code port : Nat) : State :=
  let en := (s.rdW Reg.PW_WAKE_EN).toNat
  if s.dozing && (en.testBit code || code == 7 || code == 9 || code == 10) && (!(code == 2 || code == 3) || en.testBit (24 + port)) then
    match s.pw.wake with
    | none => s.updPw (fun p => { p with wake := some ⟨s.aon, 2 ^ code, port⟩ })
    | some w =>
      if w.aon = s.aon then s.updPw (fun p => { p with wake := some (w.join code port) }) else s
  else s

end Sys2Proof.Machine
end

