-- ==== Sys2Proof/Machine/TwCore.lean ====
section
/-! DEFINITION. What other blocks need of the twin: its role, who mirrors to whom, and the records that wait for C0
(14 R404 to R407, R417, R418). -/

namespace Sys2Proof.Machine

/-- TW_ROLE.ROLE: 0 solo, 1 twin A, 2 twin B (R404). -/
def State.role (s : State) : Nat := s.fld Reg.TW_ROLE F.TW_ROLE_ROLE
/-- TW_STAT.PAIR: 0 Unpaired, 1 Syncing, 2 Protected, 3 Unprotected (R405). -/
def State.pair (s : State) : Nat := s.fld Reg.TW_STAT F.TW_STAT_PAIR
/-- TW_STAT.SYNC (R421). -/
def State.synced (s : State) : Bool := s.flag Reg.TW_STAT F.TW_STAT_SYNC
/-- A mode in which a twin serves (R406). -/
def serving (m : Nat) : Bool := m == 5 || m == 6 || m == 8 || m == 9
/-- The twin that R406 makes the sync source, were the two paired. -/
def State.sourceSide (s : State) : Bool :=
  serving s.mode ||
    (!serving (s.fld Reg.TW_STAT F.TW_STAT_PEER_MODE) && s.mode != 7 &&
      s.role == 1 + s.fld Reg.TW_CFG F.TW_CFG_FIRST_ACTIVE)
/-- The device is the sync source of its pair (R406). -/
def State.isSource (s : State) : Bool :=
  s.role != 0 && s.pair != 0 && s.sourceSide
/-- The device is a sync target or in Twin-Standby (R407). -/
def State.isTarget (s : State) : Bool := s.mode == 7 || (s.role != 0 && s.pair != 0 && !s.isSource)

/-- The runtime state of Cloton port `x`. -/
def State.clp (s : State) (x : Nat) : ClRt := SMap.get {} s.cl x
/-- The state with Cloton port `x`'s runtime state replaced by its image under `f`. -/
def State.updCl (s : State) (x : Nat) (f : ClRt → ClRt) : State := { s with cl := SMap.upd {} s.cl x f }
/-- The state with the twin's part replaced by its image under `f`. -/
def State.updTw (s : State) (f : TwRt → TwRt) : State := { s with tw := f s.tw }

/-- Twin and herd source `e` with its bit in TW_EVENT (R439). -/
def State.evTw (s : State) (e : Nat) : State := s.occurBit (584 + e) Reg.TW_EVENT e none

/-- The device mirrors to its peer (R418): it is the source of a pair that is Syncing or Protected, or whose peer is a synced
standby. -/
def State.mirrors (s : State) : Bool :=
  s.isSource && (s.pair == 1 || s.pair == 2 ||
    (s.pair != 0 && s.fld Reg.TW_STAT F.TW_STAT_PEER_MODE == 7 && s.tw.peerSync))

/-- A mirror record joins those that wait for C0. -/
def State.queueRec (s : State) (kind : Nat) (bytes : List Byte) : State :=
  s.updCl 0 (fun c => { c with other := c.other ++ [{ kind := kind, bytes := bytes, tc := s.ticks }] })

/-- A mirror record of something that R418 mirrors. -/
def State.mirror (s : State) (kind : Nat) (bytes : List Byte) : State := if s.mirrors then s.queueRec kind bytes else s

/-- GEN_CMD (R417). -/
def State.mirrorGen (s : State) (code g : Nat) : State :=
  s.mirror 3 [BitVec.ofNat 8 code, BitVec.ofNat 8 g, 0, 0]

/-- STAGED_WR of the RWG fields of register `k` (R417, R418). -/
def State.mirrorStaged (s : State) (k : Nat) (w : Word) : State := s.mirror 1 (leBytes 4 k ++ leBytes 8 w.toNat)

/-- SHADOW_WR or SYNC_WT records of consecutive weight words of group `g` from word `i`, at most six to a record. -/
def State.mirrorWords : Nat → State → Nat → Nat → Nat → List Word → State
  | 0, s, _, _, _, _ => s
  | n + 1, s, kind, g, i, ws =>
    if ws.isEmpty then s
    else
      (s.mirror kind (leBytes 4 g ++ leBytes 4 i ++ bytesOfWords (ws.take 6))).mirrorWords n kind g (i + 6) (ws.drop 6)

/-! ## Herd ports and the loss of an Armed generation (R396, R437) -/

/-- The Up herd ports that a herd commit uses (R437). -/
def State.herdPorts (s : State) : List Nat :=
  [1, 2, 3].filter (fun x => s.fld (Reg.CL_PORT_STAT x) F.CL_PORT_STAT_TSTATE == 5 && !s.flag (Reg.CL_PORT_CFG x) F.CL_PORT_CFG_COMMIT_EXCL)

/-- A herd cell waits on each of a list of ports: 1 HREADY, 2 HABORT (R433). -/
def State.herdSend : State → List Nat → Nat → Nat → List Byte → State
  | s, [], _, _, _ => s
  | s, x :: xs, kind, at_, dig =>
    (s.updCl x (fun c => { c with herd := c.herd ++ [{ kind := kind, bytes := leBytes 8 (tlOf at_).toNat ++ dig, tc := s.ticks }] })).herdSend xs kind at_ dig

/-- The abort of a herd commit (R437). -/
def State.herdAbort (s : State) (a : Armed) : State :=
  if a.herd then ((s.herdSend s.herdPorts 2 a.at_ a.hdigest).updTw (fun t => { t with hready := none })).evTw 12 else s

/-- UM_GEN_AT shows the AT of the last commit once no generation is Armed. -/
def State.lastAt (s : State) : State := s.wrW Reg.UM_GEN_AT s.um.activeAt

/-- An Armed generation returns to Open with its staged image intact; its final reply carries GEN_ABORTED, PENDING
clears and DIRTY is kept (R396); a herd commit aborts (R437). -/
def State.disarm (s : State) : State :=
  match s.um.armed with
  | none => s
  | some a =>
    let s := s.clearPending a.groups
    let s := s.setFld Reg.UM_GEN_STAT F.UM_GEN_STAT_STATE 1
    let s := (s.updUm (fun u => { u with armed := none })).lastAt.herdAbort a
    match a.hdr with
    | some h => s.final h 0x0204 stGenAborted noDetail []
    | none => s

/-- The staged image is lost and the generation Closed. -/
def State.closeGen (s : State) : State :=
  ((s.dropStaged).setFld Reg.UM_GEN_STAT F.UM_GEN_STAT_STATE 0).updUm (fun u => { u with marks := [] })

/-- A staged generation of any state is lost; an Armed one's final reply carries GEN_ABORTED (R396). -/
def State.loseGen (s : State) : State := s.disarm.closeGen

/-- Commands whose reply waits for work that is not of class D: accesses to a weight window that a hold delays (R153), and
resets of domains (R401). -/
def State.underWay (s : State) : List UmHdr :=
  s.groups.flatMap (fun e => e.2.held.filterMap (fun a => match a with
    | .umRead h .. => some h
    | .umWrite h .. => some h
    | _ => none)) ++ s.um.domReset.map (fun r => r.2.2)

/-- The reset of a carrier (R382): its commands not yet executed and its final replies owed are discarded, and an Open
generation that it owns is aborted. -/
def State.resetCarrier (s : State) (c : Carrier) : State :=
  let s := s.updUm (fun u => { u with due := u.due.filter (fun r => r.hdr.carrier != c),
                                      owed := u.owed.filter (fun o => o.1.carrier != c),
                                      begun := u.begun.filter (fun o => o.1.carrier != c),
                                      void := u.void ++ (s.underWay.filter (fun h => h.carrier == c)) })
  let s := match c with
    | .ring =>
      let s := (((s.setFld Reg.UM_SQ_HEAD F.UM_SQ_HEAD_PTR 0).setFld Reg.UM_SQ_TAIL F.UM_SQ_TAIL_PTR 0).setFld Reg.UM_RQ_HEAD
        F.UM_RQ_HEAD_PTR 0).setFld Reg.UM_RQ_TAIL F.UM_RQ_TAIL_PTR 0
      s.setFld Reg.UM_STAT F.UM_STAT_RING_FULL 0
    | .sideband => s.updUm (fun u => { u with side := [] })
  let own := if c = .ring then 0 else 1
  if s.genState = 1 ∧ s.fld Reg.UM_GEN_STAT F.UM_GEN_STAT_OWNER = own then s.loseGen else s

end Sys2Proof.Machine
end

