-- ==== Sys2Proof/Machine/Timeline.lean ====
section
/-! DEFINITION. The Timekeeper: reference and PLL, PPS edges, state changes, TL_SET, alarms, the stretch of core cycles,
and the passing of time (02). -/

namespace Sys2Proof.Machine

/-- The state with the Timekeeper replaced by its image under `f`. -/
def State.updTk (s : State) (f : Timekeeper → Timekeeper) : State := { s with tk := f s.tk }

/-! ## Configuration of the Timekeeper -/

/-- W, the half-width of the PPS window in Tc; 0 acts as 1 (R62, R89). -/
def State.ppsWin (s : State) : Nat := max 1 (s.fld Reg.TL_REF_CFG F.TL_REF_CFG_PPS_WIN)
/-- PPS_LOSS; 0 acts as 1. -/
def State.ppsLoss (s : State) : Nat := max 1 (s.fld Reg.TL_REF_CFG F.TL_REF_CFG_PPS_LOSS)
/-- RELOCK; 0 acts as 1. -/
def State.relockN (s : State) : Nat := max 1 (s.fld Reg.TL_REF_CFG F.TL_REF_CFG_RELOCK)
/-- The Cloton port that TIME_SRC names, if it names one (R52). -/
def State.timeSrc (s : State) : Option Nat :=
  let v := s.fld Reg.TL_REF_CFG F.TL_REF_CFG_TIME_SRC
  if 4 ≤ v then some (v - 4) else none

/-- The expected instants at or before count `c` and after it: the count wraps at Π, which is no whole number of seconds, so
those on either side of the wrap lie nearer to each other than a second (R57, R59). An instant before count 0 is given
less Π, one from Π on is given plus Π. -/
def around (off c : Nat) : Int × Int :=
  let top := off + (piTl - 1 - off) / secTc * secTc
  if c < off then ((top : Int) - (piTl : Int), (off : Int))
  else
    let e := off + (c - off) / secTc * secTc
    ((e : Int), if e = top then (off : Int) + (piTl : Int) else ((e + secTc : Nat) : Int))

/-- A phase of a stamp against the nearest expected instant, in 1/65,536 Tc, of two at the same distance the earlier one, with
that instant's count (R58, R59, R62). `x` is a count in 1/65,536 Tc. -/
def State.nearest (s : State) (x : Int) : Nat × Int :=
  let y := x % ((piTl : Int) * 65536)
  let (a, b) := around (s.fld Reg.TL_PPS_OFFSET F.TL_PPS_OFFSET_OFFSET) (y / 65536).toNat
  let e := if y - a * 65536 ≤ b * 65536 - y then a else b
  ((e % (piTl : Int)).toNat, y - e * 65536)

/-! ## State changes (R63, R64) -/

/-- A state change is detected; it takes effect in the next Tc (R64). A change to Invalid gives way to no other change,
and cause 0x8 stands over 0x9 (R55). -/
def State.tlChange (s : State) (new cause : Nat) : State :=
  match s.tk.change with
  | some ⟨0, c, _⟩ =>
    if new = 0 ∧ (cause = 0x8 ∧ c = 0x9) then s.updTk (fun t => { t with change := some ⟨new, cause, s.ticks⟩ }) else s
  | _ => s.updTk (fun t => { t with change := some ⟨new, cause, s.ticks⟩ })

/-- In Acquiring, the change to Locked once the PLL is locked and the run has reached RELOCK (R63). A step that R65
withholds keeps the state Acquiring until TL_SET. -/
def State.tryLock (s : State) : State :=
  if s.tlState = 1 ∧ s.flag Reg.TL_STATE F.TL_STATE_PLL_LOCK = true ∧
      s.flag Reg.TL_STATE F.TL_STATE_AMBIGUOUS = false ∧ s.relockN ≤ s.tk.relock then
    s.tlChange 2 0x2 else s

/-! ## Alarms (R82, R83) -/

/-- An enabled alarm whose instant is now or earlier (R82). -/
def State.alarmDue (s : State) (a : Nat) : Bool :=
  s.flag (Reg.TL_ALARM_CTRL a) F.TL_ALARM_CTRL_EN &&
    tlReached s.now (tlCount (s.rdW (Reg.TL_ALARM_AT a)))

/-- An alarm fires: FIRED and SKIPPED, its source, and its next instant or the end of its enable (R82). -/
def State.alarmFire (s : State) (a : Nat) (skipped : Bool) : State :=
  let at0 := tlCount (s.rdW (Reg.TL_ALARM_AT a))
  let per := s.fld (Reg.TL_ALARM_PERIOD a) F.TL_ALARM_PERIOD_PERIOD
  let k := Reg.TL_ALARM_CTRL a
  let s := s.setW1c k F.TL_ALARM_CTRL_FIRED
  let s := if skipped then s.setW1c k F.TL_ALARM_CTRL_SKIPPED else s.setFld k F.TL_ALARM_CTRL_SKIPPED 0
  let s :=
    if per = 0 then s.setFld k F.TL_ALARM_CTRL_EN 0
    else
      let n := (tlDiff s.now at0).toNat / per + 1
      s.wrW (Reg.TL_ALARM_AT a) (tlOf ((at0 + n * per) % piTl))
  s.evTl (12 + a)

/-- An enabled alarm whose instant lies before the present count (R83). -/
def State.alarmPast (s : State) (a : Nat) : Bool :=
  s.flag (Reg.TL_ALARM_CTRL a) F.TL_ALARM_CTRL_EN &&
    tlLater s.now (tlCount (s.rdW (Reg.TL_ALARM_AT a)))

/-- Every alarm of a list whose instant has been passed fires, with SKIPPED set (R83). -/
def State.alarmsSkipped : State → List Nat → State
  | s, [] => s
  | s, a :: as => (if s.alarmPast a then s.alarmFire a true else s).alarmsSkipped as

/-! ## Steps and TL_SET (R65 to R67, R595) -/

/-- The timeline count set to `n` by a step or TL_SET: alarms that a forward move passes fire at once unless the state is
Invalid (R66, R83), and the count since is restarted, for which no instant has had its edge yet (R595). -/
def State.setCount (s : State) (n : Nat) : State :=
  let fwd := tlLater n s.now
  let s := s.updTk (fun t => { t with count := n % piTl, since := 0, lastWin := none })
  if fwd ∧ s.tlState ≠ 0 then s.alarmsSkipped [0, 1, 2, 3] else s

/-- TL_UNCERT set. -/
def State.setUncert (s : State) (v : Nat) : State :=
  (s.wrW Reg.TL_UNCERT (BitVec.ofNat 64 (min v (2 ^ 64 - 1)))).updTk (fun t => { t with absent := 0 })

/-- The change to Acquiring with which TL is set at an edge or from a twin: none where the state is Acquiring already, and at
an edge in Coasting the one that the edge itself makes (R63). -/
def State.setChange (s : State) (edge : Bool) : State :=
  if s.tlState = 1 then s else if s.tlState = 3 ∧ edge = true then s.tlChange 1 0x7 else s.tlChange 1 0x6

/-- TL is moved by the whole number of Tc nearest to `want`, in 1/65,536 Tc, as a TL_SET moves it (R67); `edge` tells that an
edge moves it. -/
def State.moveTime (s : State) (want : Int) (edge : Bool) : State :=
  let st := divTieZero want 65536
  let s := s.setCount (tlAdd s.now st)
  let s := s.wrW Reg.TL_PPS_ERR (BitVec.ofNat 64 (satBits 32 (st * 65536 - want)))
  let s := s.setFld Reg.TL_STATE F.TL_STATE_HAS_TIME 1
  let s := s.setFld Reg.TL_STATE F.TL_STATE_AMBIGUOUS 0
  let s := s.setUncert 0
  let s := s.updTk (fun t => { t with relock := 0, outN := 0 })
  (s.evTl 5).setChange edge

/-- One waiting TL_SET executes at an edge whose trimmed stamp lies `frac` after the present count (R67). -/
def State.applyTlSet (s : State) (frac : Int) (r : TlSetReq) : State :=
  (s.moveTime (tlDiff r.value s.now * 65536 - frac) true).final r.hdr 0x0300 stOK noDetail (leBytes 8 (tlOf r.value).toNat)

/-- Waiting TL_SETs execute in order of acceptance (R67). -/
def State.applyTlSets : State → Int → List TlSetReq → State
  | s, _, [] => s
  | s, f, r :: rs => (s.applyTlSet f r).applyTlSets f rs

/-- A step of TL by the Timekeeper in Acquiring, at the second of two agreeing outliers of phase `ph` (R65). -/
def State.tlStep (s : State) (ph : Int) : State :=
  if 983040000 ≤ (s.rdW Reg.TL_UNCERT).toNat then
    (s.setFld Reg.TL_STATE F.TL_STATE_AMBIGUOUS 1).evTl 6
  else
    let st := divTieZero (-ph) 65536
    let s := s.setCount (tlAdd s.now st)
    let s := s.wrW Reg.TL_STEP (BitVec.ofNat 64 (uInt 64 st))
    let s := s.setUncert 0
    let s := s.updTk (fun t => { t with relock := 0, outN := 0 })
    (s.evTl 5).tlChange 1 0x3

/-- An edge in the window of expected instant `e` (R62, R63, R595). -/
def State.edgeIn (s : State) (e : Nat) (ph : Int) : State :=
  let s := s.wrW Reg.TL_PPS_ERR (BitVec.ofNat 64 (satBits 32 ph))
  let s := s.wrW Reg.TL_LAST_PPS (tlOf s.now)
  let s := s.setFld Reg.TL_STATE F.TL_STATE_MISS_RUN 0
  let s := s.setFld Reg.TL_STATE F.TL_STATE_PPS_PRESENT 1
  let run := if s.tlState = 3 then 1 else s.tk.relock + 1
  let s := s.updTk (fun t => { t with relock := run, outN := 0, lastWin := some e, lastEdge := some s.ticks })
  if s.tlState = 3 then s.tlChange 1 0x7 else s.tryLock

/-- An outlier of phase `ph` (R62, R63, R65, R595). -/
def State.edgeOut (s : State) (ph : Int) : State :=
  let agree := decide ((ph - s.tk.outPhase).natAbs ≤ s.ppsWin * 65536) && decide (s.tk.outN ≠ 0)
  let n := if agree then s.tk.outN + 1 else 1
  let s := s.evTl 2
  let s := s.updTk (fun t => { t with relock := 0, outN := n, outPhase := ph })
  if s.tlState = 3 then s.tlChange 1 0x7
  else if s.tlState = 2 ∧ 3 ≤ n then (s.updTk (fun t => { t with outN := 1 })).tlChange 1 0x5
  else if s.tlState = 1 ∧ 2 ≤ n then s.tlStep ph
  else s

/-- An edge of the selected source whose stamp lies `f`/65,536 Tc after the present count (R53, R62, R67). -/
def State.ppsAt (s : State) (f : Int) : State :=
  let dueSets := s.tk.setReqs.filter (fun r => r.at_ + 65536 ≤ s.ticks)
  if dueSets ≠ [] then
    let s := s.updTk (fun t => { t with setReqs := t.setReqs.filter (fun r => !(r.at_ + 65536 ≤ s.ticks)) })
    s.applyTlSets f dueSets
  else if s.tlState = 0 ∧ s.flag Reg.TL_STATE F.TL_STATE_HAS_TIME = false then s
  else
    let (e, ph) := s.nearest ((s.now : Int) * 65536 + f)
    -- a window that a step or TL_SET entered, passed over or left is no window for an edge (R595)
    let counted : Bool := decide (tlDiff s.now (tlAdd e (-(s.ppsWin : Int))) ≤ (s.tk.since : Int))
    if ph.natAbs ≤ s.ppsWin * 65536 ∧ counted then s.edgeIn e ph else s.edgeOut ph

/-- An edge of the pin whose raw stamp lies `frac`/65,536 Tc after the present count (R53). -/
def State.ppsEdge (s : State) (frac : Nat) : State :=
  s.ppsAt (((frac / 1024 * 1024 : Nat) : Int) - sNat 32 (s.rdW Reg.TL_PPS_TRIM).toNat)

/-! ## Meanings -/

/-- TREF_CLK is declared absent (R51, R56): the PLL holds its word, and the state becomes Invalid with cause 0x8. -/
def State.refLost (s : State) : State :=
  if s.flag Reg.TL_STATE F.TL_STATE_REF_PRESENT then
    let s := s.setFld Reg.TL_STATE F.TL_STATE_REF_PRESENT 0
    let s := s.setFld Reg.TL_STATE F.TL_STATE_PLL_LOCK 0
    let s := s.updTk (fun t => { t with absent := 0, lostAt := some s.ticks, sleep := t.sleep.map (fun c => { c with refLost := true }) })
    if s.on 2 then (s.evTl 3).tlChange 0 0x8 else s
  else s

/-- REF_DECLARED_ABSENT (R51, R56): no edge for 400 ns, or a frequency out of range over 10 µs. -/
def execRefDeclaredAbsent (s : State) : Res := .next s.refLost

/-- REF_DECLARED_PRESENT (R51, R56): 1 ms of in-range measurement, which begins after the reference was last declared
absent; a REF_SEL code that names no frequency keeps the reference absent (R89). -/
def execRefDeclaredPresent (s : State) : Res :=
  if s.flag Reg.TL_STATE F.TL_STATE_REF_PRESENT = false ∧ s.fld Reg.TL_REF_CFG F.TL_REF_CFG_REF_SEL ≤ 4 ∧
      (s.tk.lostAt.map (fun t => decide (t + 1966080 ≤ s.ticks))).getD true = true then
    let s := s.setFld Reg.TL_STATE F.TL_STATE_REF_PRESENT 1
    .next (if s.on 2 then s.evTl 4 else s)
  else .next s

/-- PLL_LOCK_ACQUIRED (R55, R63): lock needs the reference; Invalid with HAS_TIME moves to Acquiring. -/
def execPllLockAcquired (s : State) : Res :=
  if s.flag Reg.TL_STATE F.TL_STATE_REF_PRESENT = true ∧ s.flag Reg.TL_STATE F.TL_STATE_PLL_LOCK = false ∧ s.on 3 = true then
    let s := s.setFld Reg.TL_STATE F.TL_STATE_PLL_LOCK 1
    .next (if s.tlState = 0 ∧ s.flag Reg.TL_STATE F.TL_STATE_HAS_TIME = true then s.tlChange 1 0x1 else s.tryLock)
  else .next s

/-- PLL_LOCK_LOST (R55, R63): cause 0x9 while the reference is declared present. -/
def execPllLockLost (s : State) : Res :=
  if s.flag Reg.TL_STATE F.TL_STATE_PLL_LOCK then
    .next ((s.setFld Reg.TL_STATE F.TL_STATE_PLL_LOCK 0).tlChange 0 0x9)
  else .next s

/-- AON counts a PPS edge while TK is off (R85). An interval of more than one and a half seconds of always-on oscillator
cycles holds a missing edge. -/
def SleepCount.edge (c : SleepCount) (aon : Nat) : SleepCount :=
  { c with pps := c.pps + 1, ppsAon := aon, first := if c.pps = 0 then aon - c.aon0 else c.first,
           ppsGap := c.ppsGap || decide (37500000 < aon - c.ppsAon) }

/-- PPS_EDGE (R52, R53, R62): an edge on TREF_PPS, where the pin is the selected source; in sleep AON counts it (R85). -/
def execPpsEdge (frac : Fin 65536) (s : State) : Res :=
  if s.timeSrc.isSome then .next s
  else if s.on 2 then .next (s.ppsEdge frac)
  else .next (s.updTk (fun t => { t with sleep := t.sleep.map (fun c => c.edge s.aon) }))

/-- The instant E whose miss would be detected at this count: E + W + 1 (R62). -/
def State.missInstant (s : State) : Nat := tlAdd s.now (-((s.ppsWin : Int) + 1))

/-- That instant is an expected one, counted to without a break from E − W or earlier, and had no in-window edge (R62,
R595). -/
def State.missed (s : State) : Bool :=
  let off := s.fld Reg.TL_PPS_OFFSET F.TL_PPS_OFFSET_OFFSET
  decide ((s.missInstant + secTc - off % secTc) % secTc = 0) && decide (2 * s.ppsWin + 1 ≤ s.tk.since) &&
    decide (s.tk.lastWin ≠ some s.missInstant) &&
    (decide (s.tlState ≠ 0) || s.flag Reg.TL_STATE F.TL_STATE_HAS_TIME)

/-- PPS_MISS (R62, R63): at E + W + 1 of an expected instant without an in-window edge. -/
def execPpsMiss (s : State) : Res :=
  if s.missed then
    let n := min 15 (s.fld Reg.TL_STATE F.TL_STATE_MISS_RUN + 1)
    let e := s.missInstant
    let s := s.setFld Reg.TL_STATE F.TL_STATE_MISS_RUN n
    let s := s.updTk (fun t => { t with relock := 0, lastWin := some e })
    let s := s.evTl 1
    .next (if s.tlState = 2 ∧ s.ppsLoss ≤ n then s.tlChange 3 0x4 else s)
  else .next s

/-- TL_SET_TIMEOUT (R67): 2 s after acceptance without an edge, the command completes with TL_NO_PPS. -/
def execTlSetTimeout (s : State) : Res :=
  match s.tk.setReqs with
  | r :: rs =>
    if r.at_ + 2 * secTc ≤ s.ticks then
      .next ((s.updTk (fun t => { t with setReqs := rs })).final r.hdr 0x0300 stTlNoPps noDetail [])
    else .next s
  | [] => .next s

/-- TL_CTRL.INVALIDATE (R63 cause 0xA): HAS_TIME clears, and an Armed generation returns to Open (R396). -/
def State.tlInvalidate (s : State) : State :=
  ((s.setFld Reg.TL_STATE F.TL_STATE_HAS_TIME 0).tlChange 0 0xA).disarm

/-- TL_CTRL_INVALIDATE: the write of TL_CTRL.INVALIDATE. -/
def execTlCtrlInvalidate (s : State) : Res := if s.on 2 then .next s.tlInvalidate else .next s

/-- TL_CTRL.CLR_STR (R77): the stretch counters clear; the measure of source 9 goes on. -/
def State.tlClrStr (s : State) : State :=
  (((((s.wrW Reg.TL_STR_TOTAL 0).wrW (Reg.TL_QSTR_COUNT 0) 0).wrW (Reg.TL_QSTR_COUNT 1) 0).wrW
    (Reg.TL_QSTR_COUNT 2) 0).wrW (Reg.TL_QSTR_COUNT 3) 0).wrW Reg.TL_CSTR_COUNT 0

/-- TL_CTRL_CLR_STR: the write of TL_CTRL.CLR_STR. -/
def execTlCtrlClrStr (s : State) : Res := if s.on 2 then .next s.tlClrStr else .next s

/-- ALARM_FIRE (R82): an enabled alarm at its instant, or later, in any state except Invalid; SKIPPED where the instant
lies before the present count. -/
def execAlarmFire (a : Fin 4) (s : State) : Res :=
  if s.on 2 = true ∧ s.tlState ≠ 0 ∧ s.alarmDue a = true then
    .next (s.alarmFire a (tlLater s.now (tlCount (s.rdW (Reg.TL_ALARM_AT a)))))
  else .next s

/-- AON_RATIO_MEASURE (R85): the always-on oscillator measured against TREF_CLK, once per second. -/
def execAonRatioMeasure (ratio : BitVec 32) (s : State) : Res :=
  if s.flag Reg.TL_STATE F.TL_STATE_REF_PRESENT = true ∧ (s.tk.ratioAt.map (fun t => decide (t + secTc ≤ s.ticks))).getD true = true then
    let s := s.updTk (fun t => { t with ratioAt := some s.ticks, sleep := t.sleep.map (fun c => { c with ratio := ratio.toNat, cal := true }) })
    .next ((s.wrW Reg.TL_AON_RATIO (ratio.setWidth 64)).setFld Reg.TL_STATE F.TL_STATE_AON_CAL 1)
  else .next s

/-- TL_UNCERT_GROWTH (R56): 50,000 Tc counted while TREF_CLK is absent add 1 Tc to TL_UNCERT. -/
def execTlUncertGrowth (s : State) : Res :=
  if s.flag Reg.TL_STATE F.TL_STATE_REF_PRESENT = false ∧ 50000 ≤ s.tk.absent then
    .next ((s.wrW Reg.TL_UNCERT (BitVec.ofNat 64 (min ((s.rdW Reg.TL_UNCERT).toNat + 1) (2 ^ 64 - 1)))).updTk
      (fun t => { t with absent := t.absent - 50000 }))
  else .next s

/-- STRETCH_EPISODE_START (R76): detectors below 0.700 V. The first stretched cycle is the second core cycle after the
crossing; a crossing before the episode's end carries the episode on. -/
def execStretchEpisodeStart (quads : Fin 32) (s : State) : Res :=
  if quads.val = 0 then
    -- no detector sees less than 0.700 V, and the recovery to 0.705 V has not come
    .next (match s.tk.episode with
      | some ⟨_, none⟩ => s.updTk (fun t => { t with detectors := 0 })
      | _ => s)
  else
    let e : Episode :=
      match s.tk.episode with
      | some e => if (e.stop.map (fun c => decide (s.core < c))).getD true then { e with stop := none } else ⟨s.core + 2, none⟩
      | none => ⟨s.core + 2, none⟩
    .next ((s.updTk (fun t => { t with detectors := quads, episode := some e })).setFld Reg.PW_SUP_STAT F.PW_SUP_STAT_STRETCH 1)

/-- The first core cycle after an episode whose recovery falls in core cycle `c` (R76): the second cycle after recovery
is stretched, and the episode holds a multiple of 4 stretched cycles. -/
def episodeStop (first c : Nat) : Nat := first + (c + 3 - first + 3) / 4 * 4

/-- STRETCH_EPISODE_END (R76): every detector sees 0.705 V or more, which fixes the episode's last stretched cycle. -/
def execStretchEpisodeEnd (s : State) : Res :=
  match s.tk.episode with
  | some ⟨first, none⟩ =>
    .next ((s.updTk (fun t => { t with detectors := 0, episode := some ⟨first, some (episodeStop first s.core)⟩ })).setFld
      Reg.PW_SUP_STAT F.PW_SUP_STAT_STRETCH 0)
  | _ => .next s

/-! ## Time across sleep and reset (R85, R86, R489) -/

/-- A coincidence period of TREF_CLK and Tc by REF_SEL: its Tc and its TREF_CLK cycles (R54). Codes 5 to 7 name no
frequency. -/
def coincidence (sel : Nat) : Nat × Nat :=
  match sel with
  | 0 => (24576, 125)
  | 1 => (512, 5)
  | 2 => (64, 1)
  | 3 => (32, 1)
  | 4 => (16, 1)
  | _ => (1, 1)

/-- The Timekeeper saves TL at the last TREF_CLK edge that began a coincidence period, or at once without a reference, and what
R86 needs, and stops (R85, R447). A TL_SET that waits is lost with it. -/
def State.saveTime (s : State) : State :=
  if s.on 2 then
    let st := match s.tk.change with
      | some c => c.new
      | none => s.tlState
    let has := s.flag Reg.TL_STATE F.TL_STATE_HAS_TIME
    let (span, cycles) := if s.flag Reg.TL_STATE F.TL_STATE_REF_PRESENT then coincidence (s.fld Reg.TL_REF_CFG F.TL_REF_CFG_REF_SEL) else (1, 1)
    let c : SleepCount :=
      { count := tlAdd s.tk.count (-((s.ticks % span : Nat) : Int)), span := span, cycles := cycles, state := st, has := has, uncert := (s.rdW Reg.TL_UNCERT).toNat,
        ratio := (s.rdW Reg.TL_AON_RATIO).toNat, cal := s.flag Reg.TL_STATE F.TL_STATE_AON_CAL, tick0 := s.ticks - s.ticks % span,
        aon0 := s.aon, pps := 0, ppsAon := s.aon, first := 0, refLost := !s.flag Reg.TL_STATE F.TL_STATE_REF_PRESENT,
        ppsGap := false }
    s.updTk (fun t => { t with change := none, setReqs := [], relock := 0, outN := 0, lastWin := none, sleep := some c })
  else s

/-- TREF_CLK cycles that AON has counted up to the last edge that began a coincidence period (R85). -/
def SleepCount.tref (c : SleepCount) (ticks : Nat) : Nat := (ticks - c.tick0) / c.span * c.cycles

/-- Tc that these cycles last: a whole number of coincidence periods (R86). -/
def SleepCount.exact (c : SleepCount) (ticks : Nat) : Nat := c.tref ticks * c.span / c.cycles

/-- The count of PPS edges is not that of the whole seconds elapsed (R86). -/
def SleepCount.miscount (c : SleepCount) (ticks : Nat) : Bool := decide (c.pps ≠ c.exact ticks / secTc)

/-- Tolerance of the always-on oscillator in parts per million (R86). -/
def SleepCount.ppm (c : SleepCount) : Nat := if c.cal then 2000 else 50000

/-- ⌈e × tol⌉ for a tolerance in parts per million. -/
def ceilPpm (e ppm : Nat) : Nat := (e * ppm + 999999) / 1000000

/-- The elapsed time, TL_UNCERT after the wake, and the state after it where TREF_CLK is present (R86, cases A, B and C). In
case A the Timekeeper counts on from the coincidence edge at which it reloads. -/
def SleepCount.wake (c : SleepCount) (ticks aon : Nat) : Nat × Nat × Nat :=
  if !c.refLost then
    (c.exact ticks + (ticks - c.tick0) % c.span, c.uncert, if c.state = 2 ∧ c.miscount ticks = false then 2 else 1)
  else if 1 ≤ c.pps ∧ !c.ppsGap ∧ aon - c.ppsAon ≤ 37500000 then
    ((c.pps - 1) * secTc + (c.first + (aon - c.ppsAon)) * c.ratio / 65536, ceilPpm (2 * secTc) c.ppm + 79, 1)
  else
    let e := (aon - c.aon0) * c.ratio / 65536
    (e, ceilPpm e c.ppm + 79, 1)

/-- PPS_PRESENT ends 2 s after the last in-window edge (R89). -/
def State.ppsStale (s : State) : State :=
  match s.tk.lastEdge with
  | some e => if e + 2 * secTc < s.ticks then s.setFld Reg.TL_STATE F.TL_STATE_PPS_PRESENT 0 else s
  | none => s

/-- TL is reconstructed at the release of TK (R86, R489): the state is Invalid until the change of cause 0xB takes effect. -/
def State.reloadTime (s : State) : State :=
  match s.tk.sleep with
  | none => s
  | some c =>
    let ref := s.flag Reg.TL_STATE F.TL_STATE_REF_PRESENT
    let (e, u, st) := c.wake s.ticks s.aon
    let mis := !c.refLost && c.miscount s.ticks
    let s := s.updTk (fun t => { t with sleep := none, count := (c.count + e) % piTl, since := 0, relock := 0, outN := 0, lastStr := none })
    let s := s.ppsStale
    let s := if mis then s.evTl 2 else s
    let s := ((s.setFld Reg.TL_STATE F.TL_STATE_STATE 0).setFld Reg.TL_STATE F.TL_STATE_HAS_TIME (if c.has then 1 else 0)).setFld
      Reg.TL_STATE F.TL_STATE_PLL_LOCK (if ref then 1 else 0)
    let s := (s.setFld Reg.TL_STATE F.TL_STATE_AON_CAL (if c.cal then 1 else 0)).wrW Reg.TL_AON_RATIO (BitVec.ofNat 64 c.ratio)
    let s := s.setUncert u
    if c.state = 0 then (if ref ∧ c.has then s.tlChange 1 0x1 else s)
    else if ref then s.tlChange st 0xB
    else (s.setFld Reg.TL_STATE F.TL_STATE_LAST_CAUSE 0x8).evTl 0

/-! ## Port calibration (R73, R74) -/

/-- Port `n` joins the ports whose last calibration failed, or leaves them (R74). -/
def State.setCalBad (s : State) (n : Nat) (bad : Bool) : State :=
  { s with calBad := if bad then insNat s.calBad n else s.calBad.erase n }

/-- A measured delay lies more than 4 Tc off its design value (R74). -/
def delayOff (d v : Nat) : Bool := decide (4 * 65536 < ((v : Int) - (d : Int)).natAbs)

/-- The measured delays of a group's ports written from port `n` up; a port off its design value raises CAL_FAIL. -/
def State.portCals : State → Nat → List (Nat × Nat) → State
  | s, _, [] => s
  | s, n, (tx, rx) :: ms =>
    let tx := tx / 1024 * 1024 % 2 ^ 32
    let rx := rx / 1024 * 1024 % 2 ^ 32
    let s := (s.wrW (Reg.TL_PORT_TXCAL n) (BitVec.ofNat 64 tx)).wrW (Reg.TL_PORT_RXCAL n) (BitVec.ofNat 64 rx)
    let bad := delayOff (Config.designDelay n true) tx || delayOff (Config.designDelay n false) rx
    let s := s.setCalBad n bad
    (if bad then s.evTl 11 else s).portCals (n + 1) ms

/-- Whether group `g` waits for its calibration: 1 + the Tc of its power-up, or 0 (R73). -/
def State.setCalDue (s : State) (g v : Nat) : State := { s with calDue := SMap.put 0 s.calDue g v }

/-- Port `n` performs no release and stamps no arrival: its group has not been calibrated since its power-up, or its last
calibration failed (R73, R74). -/
def State.uncal (s : State) (n : Nat) : Bool := s.calBad.contains n || SMap.get 0 s.calDue (n / 8) != 0

/-- PORT_CALIBRATION (R73, R74): the loopback measurement of a group, one pair of delays a port, made once at each power-up
of the group and complete 4,096 Tc after it. -/
def execPortCalibration (g : Group) (meas : List (Nat × Nat)) (s : State) : Res :=
  let due := SMap.get 0 s.calDue g
  if s.on (domL g) = true ∧ meas.length = 8 ∧ due ≠ 0 ∧ due + 4095 ≤ s.ticks then
    .next ((s.setCalDue g 0).portCals (8 * g) meas)
  else .next s

/-! ## The passing of time (R54, R57, R76, R77) -/

/-- The count of quadrant `i`'s stretched cycles while its detector sees less than 0.700 V (R77). -/
def State.countQuad (s : State) (i : Nat) : State :=
  if s.tk.detectors.testBit i then s.addCnt (Reg.TL_QSTR_COUNT i) 1 (ones 48) else s

/-- The counts of one stretched cycle, and source 9 (R77). -/
def State.countStretch (s : State) : State :=
  let quiet := match s.tk.lastStr with
    | none => true
    | some t => decide (t + 19660800 ≤ s.ticks)
  let m := ones 48
  let s := s.addCnt Reg.TL_STR_TOTAL 1 m
  let s := (((s.countQuad 0).countQuad 1).countQuad 2).countQuad 3
  let s := if s.tk.detectors.testBit 4 then s.addCnt Reg.TL_CSTR_COUNT 1 m else s
  let s := s.updTk (fun t => { t with lastStr := some s.ticks })
  if quiet then s.evTl 9 else s

/-- One Tc of core clock: four quarters, and the core cycle that they end, if they end one (R54). -/
def State.coreTick (s : State) : State :=
  let len := s.tk.quarters s.core
  if len ≤ s.coreQ + 4 then
    let s := if s.tk.stretched s.core ∧ s.on 2 then s.countStretch else s
    { s with core := s.core + 1, coreQ := s.coreQ + 4 - len }
  else { s with coreQ := s.coreQ + 4 }

/-- Tc of the present cycle of the always-on oscillator: 25 MHz ± 5 % (R491). -/
def aonLen (n : Nat) : Nat := 75 + Config.aonPhase n % 8

/-- One Tc passes: the timeline counts while TK is on (R57), the core clock and the always-on oscillator run, TREF_CLK's
absence is counted (R56), and PPS_PRESENT ends 2 s after the last in-window edge (R89). -/
def State.tick (s : State) : State :=
  let s := { s with ticks := s.ticks + 1, hot := [] }
  let s := if s.aonLeft ≤ 1 then { s with aon := s.aon + 1, aonLeft := aonLen (s.aon + 1) } else { s with aonLeft := s.aonLeft - 1 }
  let s := if s.on 3 then s.coreTick else s
  if s.on 2 then
    let gone := s.flag Reg.TL_STATE F.TL_STATE_REF_PRESENT = false
    let s := s.updTk (fun t => { t with count := (t.count + 1) % piTl, since := t.since + 1,
                                        absent := if gone then t.absent + 1 else t.absent })
    s.ppsStale
  else s

end Sys2Proof.Machine
end

