-- ==== Sys2Proof/Machine/Flags.lean ====
section
/-! DEFINITION. Rounding, saturation and the counts that the sample arithmetic takes (03 R90 to R96, R101, R115). -/

namespace Sys2Proof.Machine

/-- What a block's components add to its stream's counters (R115). -/
structure Counts where
  cal : Nat
  req : Nat
  nan : Nat
  deriving DecidableEq, Repr

/-- No count. -/
def Counts.zero : Counts := ⟨0, 0, 0⟩
/-- The sum of two counts. -/
def Counts.add (a b : Counts) : Counts := ⟨a.cal + b.cal, a.req + b.req, a.nan + b.nan⟩

/-- rnd: the quotient by 2^k, rounded in a mode coded as in R95 (R91). -/
def rnd (x : Int) (k : Nat) (mode : Nat) : Int :=
  if k = 0 then x
  else
    let m : Int := ((2 ^ k : Nat) : Int)
    let q := x / m
    let r := x % m
    let h : Int := ((2 ^ (k - 1) : Nat) : Int)
    match mode with
    | 3 => q
    | 2 => if x < 0 ∧ r ≠ 0 then q + 1 else q
    | 1 => if r > h then q + 1 else if r < h then q else if x ≥ 0 then q + 1 else q
    | _ => if r > h then q + 1 else if r < h then q else q + q % 2

/-- sat: a value clamped to n bits of two's complement (R92). -/
def sat (x : Int) (n : Nat) : Int :=
  let hi : Int := ((2 ^ (n - 1) : Nat) : Int) - 1
  let lo : Int := -((2 ^ (n - 1) : Nat) : Int)
  if x > hi then hi else if x < lo then lo else x

/-- floor_log2 of a positive number (R90). -/
def floorLog2 (a : Nat) : Nat := a.log2

/-- lin_in: a decoded value enters the linear domain of 16 bits; a clamp counts in cal_sat (R101). -/
def linIn (v : Int) : Int × Nat :=
  let y := sat v 16
  (y, if y = v then 0 else 1)

/-- A counter increased by n, saturating at 32 bits (R93). -/
def cntSat (c n : Nat) : Nat := min (c + n) 0xFFFFFFFF

end Sys2Proof.Machine
end

