-- ==== Sys2Proof/Machine/Operands.lean ====
section
/-! DEFINITION. The sample formats: payload lengths, decoders and encoders (03 R97 to R112). -/

namespace Sys2Proof.Machine

/-- A stream's format parameters for one direction (R100). -/
structure FmtParam where
  code : Nat      -- format code (R97)
  bcode : Nat     -- B's code
  mcode : Nat     -- M's code
  sc   : Nat      -- S
  gain : Nat      -- G
  mode : Nat      -- rounding mode (R95)
  deriving DecidableEq, Repr

/-- B, samples in a BFP block (R100). -/
def bfpB (c : Nat) : Nat :=
  match c with
  | 0 => 8
  | 1 => 12
  | 2 => 16
  | 3 => 24
  | _ => 32

/-- M, mantissa bits; code 0 means 16 (R100). -/
def bfpM (c : Nat) : Nat := if c = 0 then 16 else c

/-- Bytes of one BFP block. -/
def bfpBytes (p : FmtParam) : Nat := (if p.code = 7 then 3 else 1) + bfpB p.bcode * bfpM p.mcode / 4

/-- The payload length that R97 gives for n samples; none for a reserved code, or where N is not a multiple of B. -/
def payLen (p : FmtParam) (n : Nat) : Option Nat :=
  match p.code with
  | 0 => some (4 * n)
  | 1 => some (3 * n)
  | 2 => some (2 * n)
  | 3 => some (6 * n)
  | 4 => some (4 * n)
  | 5 => if n % bfpB p.bcode = 0 then some (n / bfpB p.bcode * bfpBytes p) else none
  | 6 => some (2 * n)
  | 7 => if n % bfpB p.bcode = 0 then some (n / bfpB p.bcode * bfpBytes p) else none
  | _ => none

/-- Field j of m bits of a byte string taken most significant bit first (R99). -/
def msbField (bs : List Byte) (m j : Nat) : Nat :=
  (beNat bs >>> (8 * bs.length - (j + 1) * m)) % 2 ^ m

/-- The bytes of fields of m bits packed most significant bit first (R99). -/
def msbPack (m : Nat) (vs : List Nat) : List Byte :=
  let v := vs.foldl (fun a x => a * 2 ^ m + x % 2 ^ m) 0
  let n := (vs.length * m + 7) / 8
  beBytes n (v <<< (8 * n - vs.length * m))

/-- dec_f16 (R103): the value and the NaN count. -/
def decF16 (h sc mode : Nat) : Int × Nat :=
  let sg := bitsOf h 15 15
  let e := bitsOf h 14 10
  let f := bitsOf h 9 0
  if e = 31 ∧ f ≠ 0 then (0, 1)
  else if e = 31 then (if sg = 1 then -32769 else 32768, 0)
  else
    let n : Nat := if e ≠ 0 then (1024 + f) <<< (e - 1) else f
    let x : Int := if sg = 1 then -(n : Int) else n
    (rnd x (24 - sc) mode, 0)

/-- dec_cmp (R105). -/
def decCmp (c : Nat) : Int :=
  let seg := bitsOf c 6 4
  let t := bitsOf c 3 0
  let a : Nat := if seg ≠ 0 then (16 + t) <<< (seg + 3) else t <<< 4
  if c.testBit 7 then -(a : Int) else a

/-- dec_bfp of one BFP block (R104): the components in order. -/
def decBfp (p : FmtParam) (blk : List Byte) : List Int :=
  let e := (blk.getD 0 0).toNat % 16
  let g := if p.code = 7 then (blk.getD 1 0).toNat * 256 + (blk.getD 2 0).toNat else 0x0100
  let man := blk.drop (if p.code = 7 then 3 else 1)
  let m := bfpM p.mcode
  (List.range (2 * bfpB p.bcode)).map (fun j => rnd (sNat m (msbField man m j) * (((2 ^ e : Nat) : Int)) * (g : Int)) 8 p.mode)

/-- The components of k BFP blocks. -/
def decBfps (p : FmtParam) : Nat → List Byte → List Int
  | 0, _ => []
  | k + 1, bs => decBfp p (bs.take (bfpBytes p)) ++ decBfps p k (bs.drop (bfpBytes p))

/-- The components of a block's n samples before lin_in, I before Q (R98, R102 to R105), and its NaN count. -/
def decodeRaw (p : FmtParam) (n : Nat) (bs : List Byte) : List Int × Nat :=
  match p.code with
  | 0 => ((List.range (2 * n)).map (fun j => sNat 16 (leAt bs (2 * j) 2)), 0)
  | 1 => ((List.range (2 * n)).map (fun j => sNat 12 (msbField ((bs.drop (j / 2 * 3)).take 3) 12 (j % 2))), 0)
  | 2 => ((List.range (2 * n)).map (fun j => sNat 8 (leAt bs j 1)), 0)
  | 3 => ((List.range (2 * n)).map (fun j => rnd (sNat 24 (leAt bs (3 * j) 3)) 8 p.mode), 0)
  | 4 =>
    let l := (List.range (2 * n)).map (fun j => decF16 (leAt bs (2 * j) 2) p.sc p.mode)
    (l.map (·.1), (l.map (·.2)).foldl (· + ·) 0)
  | 6 => ((List.range (2 * n)).map (fun j => decCmp (leAt bs j 1)), 0)
  | _ => (decBfps p (n / bfpB p.bcode) bs, 0)

/-- The components of a block in the linear domain (R101), with what they add to cal_sat and nan. -/
def decodeBlock (p : FmtParam) (n : Nat) (bs : List Byte) : List Int × Counts :=
  let (raw, nan) := decodeRaw p n bs
  let l := raw.map linIn
  (l.map (·.1), ⟨(l.map (·.2)).foldl (· + ·) 0, 0, nan⟩)

/-- enc_int (R108): the value and the count of req_sat. -/
def encInt (z : Int) (f w mode : Nat) : Int × Nat :=
  let y := rnd z f mode
  let o := sat y w
  (o, if o = y then 0 else 1)

/-- enc_f16 (R109). -/
def encF16 (z : Int) (f sc mode : Nat) : Nat × Nat :=
  let p : Int := f + sc
  if z = 0 then (0, 0)
  else
    let qe0 := max ((floorLog2 z.natAbs : Int) - p - 10) (-24)
    let n : Int := if p + qe0 ≥ 0 then rnd z (p + qe0).toNat mode else z * (((2 ^ (-(p + qe0)).toNat : Nat) : Int))
    if n = 0 then (0, 0)
    else
      let sg := if n < 0 then 1 else 0
      let (a, qe) := if n.natAbs = 2048 then (1024, qe0 + 1) else (n.natAbs, qe0)
      if a < 1024 then (sg * 32768 + a, 0)
      else
        let eb := (qe + 25).toNat
        if eb > 30 then (sg * 32768 + 0x7BFF, 1)
        else (sg * 32768 + eb * 1024 + (a - 1024), 0)

/-- enc_cmp (R112). -/
def encCmp (z : Int) (f mode : Nat) : Nat × Nat :=
  let a := z.natAbs / 2 ^ f
  let seg := if a ≥ 256 then min (floorLog2 a - 7) 7 else 0
  let k := max 4 (seg + 3)
  let q := rnd z (f + k) mode
  let m := q.natAbs
  let (seg, m) := if seg = 0 ∧ m = 16 then (1, m) else if seg ≥ 1 ∧ m ≥ 32 then (seg + 1, 16) else (seg, m)
  let (seg, m, c) := if seg = 8 then (7, 31, 1) else (seg, m, 0)
  let t := if seg ≠ 0 then m - 16 else m
  ((if q < 0 then 128 else 0) + seg * 16 + t, c)

/-- Every component rounded at exponent e fits in m bits (R110). -/
def bfpFits (zs : List Int) (f e m mode : Nat) : Bool := zs.all (fun z => decide (sat (rnd z (f + e) mode) m = rnd z (f + e) mode))

/-- The smallest exponent from e up, of those left, at which every component fits (R110). -/
def bfpExp (zs : List Int) (f m mode : Nat) : Nat → Nat → Option Nat
  | _, 0 => none
  | e, n + 1 => if bfpFits zs f e m mode then some e else bfpExp zs f m mode (e + 1) n

/-- bfp_enc of one BFP block (R110): its bytes and the count of req_sat. -/
def encBfp (p : FmtParam) (zs : List Int) (f : Nat) : List Byte × Nat :=
  let m := bfpM p.mcode
  let (e, ms, c) := match bfpExp zs f m p.mode 0 16 with
    | some e => (e, zs.map (fun z => rnd z (f + e) p.mode), 0)
    | none => (15, zs.map (fun z => sat (rnd z (f + 15) p.mode) m),
               (zs.filter (fun z => decide (sat (rnd z (f + 15) p.mode) m ≠ rnd z (f + 15) p.mode))).length)
  let head := BitVec.ofNat 8 e :: (if p.code = 7 then [BitVec.ofNat 8 (p.gain / 256), BitVec.ofNat 8 p.gain] else [])
  (head ++ msbPack m (ms.map (uInt m)), c)

/-- k BFP blocks of a stream of components. -/
def encBfps (p : FmtParam) (f : Nat) : Nat → List Int → List Byte × Nat
  | 0, _ => ([], 0)
  | k + 1, zs =>
    let (a, c) := encBfp p (zs.take (2 * bfpB p.bcode)) f
    let (b, d) := encBfps p f k (zs.drop (2 * bfpB p.bcode))
    (a ++ b, c + d)

/-- Encoded pieces joined, with their counts. -/
def joinEnc (l : List (List Byte × Nat)) : List Byte × Nat :=
  (l.flatMap (·.1), (l.map (·.2)).foldl (· + ·) 0)

/-- The payload of a block's components and the count of req_sat (R107 to R112). -/
def encodeBlock (p : FmtParam) (zs : List Int) (f : Nat) : List Byte × Nat :=
  match p.code with
  | 0 => joinEnc (zs.map (fun z => let (o, c) := encInt z f 16 p.mode; (leBytes 2 (uInt 16 o), c)))
  | 1 =>
    let l := zs.map (fun z => encInt z f 12 p.mode)
    (msbPack 12 (l.map (fun x => uInt 12 x.1)), (l.map (·.2)).foldl (· + ·) 0)
  | 2 => joinEnc (zs.map (fun z => let (o, c) := encInt z f 8 p.mode; (leBytes 1 (uInt 8 o), c)))
  | 3 => joinEnc (zs.map (fun z => let (o, c) := encInt (z * 256) f 24 p.mode; (leBytes 3 (uInt 24 o), c)))
  | 4 => joinEnc (zs.map (fun z => let (o, c) := encF16 z f p.sc p.mode; (leBytes 2 o, c)))
  | 6 => joinEnc (zs.map (fun z => let (o, c) := encCmp z f p.mode; (leBytes 1 o, c)))
  | _ => encBfps p f (zs.length / (2 * bfpB p.bcode)) zs

end Sys2Proof.Machine
end

