-- ==== Sys2Proof/Machine/Vat.lean ====
section
/-! DEFINITION. The Vat: block headers, pails, the header and commit tests, readers and freeing, errors in stored words,
row repair and bank initialisation (04 R124, 06). -/

namespace Sys2Proof.Machine

/-! ## The block header (R124) -/

/-- LEN of header word 1. -/
def hLen (h1 : Word) : Nat := wbits h1 16 7
/-- NM1 of header word 1. -/
def hNm1 (h1 : Word) : Nat := wbits h1 6 0
/-- FMT of header word 1. -/
def hFmt (h1 : Word) : Nat := wbits h1 23 20
/-- WSEL of header word 1. -/
def hWsel (h1 : Word) : Nat := wbits h1 31 24
/-- STREAM_ID of header word 1. -/
def hSid (h1 : Word) : Nat := wbits h1 47 32
/-- The flag byte of header word 1: VALID 0, PARTIAL 1, SAT 2, NAN 3, FMT_ERR 4, POISON 5, NOWEIGHT 6. -/
def hFlags (h1 : Word) : Nat := wbits h1 54 48
/-- VALID of header word 1. -/
def hValid (h1 : Word) : Bool := h1.toNat.testBit 48

/-- Header word 1 from its fields; reserved bits are 0. -/
def mkH1 (wsel fmt len nm1 sid absent flags : Nat) : Word :=
  BitVec.ofNat 64 (nm1 % 128 + len % 1024 * 2 ^ 7 + fmt % 16 * 2 ^ 20 + wsel % 256 * 2 ^ 24 + sid % 65536 * 2 ^ 32 +
    flags % 128 * 2 ^ 48 + absent % 128 * 2 ^ 56)

/-- Bytes that a block of payload length `len` occupies (R125). -/
def blockBytes (len : Nat) : Nat := (16 + len + 15) / 16 * 16
/-- Payload words that a block of payload length `len` carries, padding included. -/
def blockWords (len : Nat) : Nat := (blockBytes len - 16) / 8

/-- The payload bytes of a block, padding left out. -/
def Block.bytes (b : Block) : List Byte := (bytesOfWords b.payload).take (hLen b.h1)

/-! ## Pails (R173 to R176) -/

/-- The runtime state of pail `p`. -/
def State.pail (s : State) (p : Nat) : PailRt := SMap.get {} s.pails p
/-- The state with pail `p`'s runtime state replaced by its image under `f`. -/
def State.updPail (s : State) (p : Nat) (f : PailRt → PailRt) : State := { s with pails := SMap.upd {} s.pails p f }
/-- The runtime state of bank `b`. -/
def State.bank (s : State) (b : Nat) : BankRt := SMap.get {} s.banks b
/-- The state with bank `b`'s runtime state replaced by its image under `f`. -/
def State.updBank (s : State) (b : Nat) (f : BankRt → BankRt) : State := { s with banks := SMap.upd {} s.banks b f }

/-- The quadrant of pail `p` (R173). -/
def pailQuad (p : Nat) : Nat := p / 4096
/-- Pail `p` is enabled in the active generation. -/
def State.pailEn (s : State) (p : Nat) : Bool := s.flag (Reg.VAT_PAIL_A p) F.VAT_PAIL_A_EN
/-- The role of pail `p`: 0 rx, 1 tx, 2 din, 3 dout (R174). -/
def State.pailRole (s : State) (p : Nat) : Nat := s.fld (Reg.VAT_PAIL_A p) F.VAT_PAIL_A_ROLE
/-- The bank of pail `p`. -/
def State.pailBank (s : State) (p : Nat) : Nat := 4 * pailQuad p + s.fld (Reg.VAT_PAIL_A p) F.VAT_PAIL_A_BANK
/-- The owning slice of pail `p`. -/
def State.pailSlice (s : State) (p : Nat) : Nat := s.fld (Reg.VAT_PAIL_A p) F.VAT_PAIL_A_SLICE
/-- The port of an rx or tx pail: L(24q + QPORT) (R174). -/
def State.pailPort (s : State) (p : Nat) : Nat := 24 * pailQuad p + s.fld (Reg.VAT_PAIL_A p) F.VAT_PAIL_A_QPORT
/-- The group of a pail: that of its port, or the one QPORT div 8 names (R174). -/
def State.pailGroup (s : State) (p : Nat) : Nat := 3 * pailQuad p + s.fld (Reg.VAT_PAIL_A p) F.VAT_PAIL_A_QPORT / 8
/-- STREAM_ID of pail `p`. -/
def State.pailSid (s : State) (p : Nat) : Nat := s.fld (Reg.VAT_PAIL_B p) F.VAT_PAIL_B_STREAM_ID
/-- FMT of pail `p`. -/
def State.pailFmt (s : State) (p : Nat) : Nat := s.fld (Reg.VAT_PAIL_A p) F.VAT_PAIL_A_FMT
/-- Bytes of pail `p`. -/
def State.pailBytes (s : State) (p : Nat) : Nat := 4096 * s.fld (Reg.VAT_PAIL_A p) F.VAT_PAIL_A_SIZE
/-- EARLY of pail `p`, signed. -/
def State.pailEarly (s : State) (p : Nat) : Int := sNat 24 (s.fld (Reg.VAT_PAIL_B p) F.VAT_PAIL_B_EARLY)
/-- LATE of pail `p`, signed. -/
def State.pailLate (s : State) (p : Nat) : Int := sNat 24 (s.fld (Reg.VAT_PAIL_B p) F.VAT_PAIL_B_LATE)

/-- The enabled pail of quadrant `q` with a role, group or port, and STREAM_ID, if there is one (R174, R176). The
enabled pails are those that the active image lists. -/
def State.findPail (s : State) (q role : Nat) (sid : Nat) (place : Nat → Bool) : Option Nat :=
  ((listed s.gen (Reg.VAT_PAIL_A 0) 0x40 16384).filter
    (fun p => pailQuad p == q && s.pailEn p && s.pailRole p == role && s.pailSid p == sid && place p)).head?

/-- A block in flight that has passed its header tests and holds room (R177). -/
def Arrival.holds (a : Arrival) : Bool := a.room.isSome && a.doom.isNone

/-- Bytes of pail `p` that are taken: blocks held, blocks in flight, and room that a channel holds. -/
def State.pailUsed (s : State) (p : Nat) : Nat :=
  let r := s.pail p
  (r.blocks.map (·.size)).foldl (· + ·) 0 +
  ((r.arrivals.filter Arrival.holds).map (fun a => blockBytes (hLen a.h1))).foldl (· + ·) 0 +
  (r.resv.map (·.2)).foldl (· + ·) 0

/-- Free bytes of pail `p`. -/
def State.pailFree (s : State) (p : Nat) : Nat := s.pailBytes p - s.pailUsed p

/-- VAT_PAILp_PTR: WR above RD (R193). -/
def State.pailPtr (s : State) (p : Nat) : Word :=
  let r := s.pail p
  BitVec.ofNat 64 (r.wr * 2 ^ 32 + (match r.blocks with | b :: _ => b.off | [] => r.wr))
/-- VAT_PAILp_STAT: BLOCKS, FULL and LAST_DROP. -/
def State.pailStat (s : State) (p : Nat) : Word :=
  let r := s.pail p
  BitVec.ofNat 64 (r.blocks.length * 2 ^ 12 + (if r.full then 128 else 0) + r.lastDrop)

/-! ## Errors in stored words (R185, R189) -/

/-- The row of bank bytes in which a pail's byte offset lies (R171, R173). -/
def State.rowOf (s : State) (p off : Nat) : Nat :=
  (4096 * s.fld (Reg.VAT_PAIL_A p) F.VAT_PAIL_A_BASE + (if s.pailBytes p = 0 then off else off % s.pailBytes p)) / 32

/-- Rows that `size` bytes at offset `off` touch. -/
def rowsOf (off size : Nat) : Nat := (off % 32 + size + 31) / 32

/-- VAT_BANKb_STATUS.PEND follows the queue. -/
def State.showPend (s : State) (b : Nat) : State :=
  s.setFld (Reg.VAT_BANK_STATUS b) F.VAT_BANK_STATUS_PEND (s.bank b).pendq.length

/-- A hard row joins its bank's queue of pending remaps, or is refused when the queue is full (R189). -/
def State.queueRemap (s : State) (b row : Nat) : State :=
  if 16 ≤ (s.bank b).pendq.length then
    (s.logKind 0x05 (b + 1 * 2 ^ 8 + row % 1280 * 2 ^ 16 + row / 1280 * 2 ^ 32 + 0xFF * 2 ^ 48)).evVat b 3
  else (s.updBank b (fun r => { r with pendq := r.pendq ++ [row] })).showPend b

/-- An error on a row of bank `b`, correctable or not: the suspect table (R189). -/
def State.suspect (s : State) (b row : Nat) : State :=
  match (s.bank b).suspects.find? (fun e => e.row == row) with
  | none =>
    s.updBank b (fun r =>
      { r with suspects := (if 16 ≤ r.suspects.length then r.suspects.drop 1 else r.suspects) ++ [⟨row, false⟩] })
  | some e =>
    if e.written then
      (s.updBank b (fun r => { r with suspects := r.suspects.filter (fun x => x.row != row) })).queueRemap b row
    else s

/-- A write to a row of bank `b` sets the written-since bit of a listed row (R189). -/
def State.rowWritten (s : State) (b row : Nat) : State :=
  s.updBank b (fun r => { r with suspects := r.suspects.map (fun e => if e.row = row then { e with written := true } else e) })

/-- One error met in bank `b` at byte offset `off` of pail `p` (R185, R189, R192). -/
def State.vatError (s : State) (p off : Nat) (h : EccHit) : State :=
  let b := s.pailBank p
  let row := s.rowOf p off
  let k := Reg.VAT_BANK_ERRLOG b
  let s := s.cnt (if h.unc then Reg.VAT_BANK_UECC b else Reg.VAT_BANK_CECC b)
  let s := s.setFld k F.VAT_BANK_ERRLOG_TYPE (if h.unc then 2 else 1)
  let s := s.setFld k F.VAT_BANK_ERRLOG_WORD (off / 8 % 4)
  let s := s.setFld k F.VAT_BANK_ERRLOG_SYNDROME h.synd
  let s := s.setFld k F.VAT_BANK_ERRLOG_ROW row
  let s := s.evVat b (if h.unc then 0 else 1)
  s.suspect b row

/-- The errors that a read of a block of pail `p` meets, each counted, and the block's poisoned words with them. -/
def State.readErrors : State → Nat → Block → List EccHit → State × List Nat
  | s, _, b, [] => (s, b.bad)
  | s, p, b, h :: hs =>
    let (s, bad) := (s.vatError p (b.off + 8 * h.word) h).readErrors p b hs
    (s, if h.unc then insNat bad h.word else bad)

/-- Words found poisoned stay poisoned in the block while its pail holds it (R188). -/
def State.keepPoison (s : State) (p : Nat) (b : Block) (bad : List Nat) : State :=
  s.updPail p (fun r => { r with blocks := r.blocks.map (fun x =>
    if x.off = b.off ∧ x.h0 = b.h0 then { x with bad := bad.foldl insNat x.bad } else x) })

/-- A block as a reader that sends poisoned blocks on whole sees it (R596): poisoned payload words go as 0, header word 1
goes with VALID 0 and POISON 1, or from the pail's own record when it is poisoned. -/
def State.poisonedOut (s : State) (p : Nat) (b : Block) : Block :=
  if b.bad = [] then b
  else
    let h0 := if b.bad.contains 0 then 0 else b.h0
    let h1 := if b.bad.contains 1 then mkH1 0 (s.pailFmt p) (hLen b.h1) 0 (s.pailSid p) 0 0x20
      else BitVec.ofNat 64 ((putBit (putBit b.h1.toNat 48 false) 53 true))
    let pl := (List.range b.payload.length).map (fun i => if b.bad.contains (2 + i) then 0 else b.payload.getD i 0)
    { b with h0 := h0, h1 := h1, payload := pl }

/-! ## Dropping, committing, freeing (R177, R181) -/

/-- A block dropped with a code, counted in VAT_PAILp_LATE for code 0x3 and in VAT_PAILp_DROP otherwise (R177). -/
def State.vatDrop (s : State) (p code : Nat) : State :=
  let s := s.updPail p (fun r => { r with lastDrop := code })
  let s := s.cnt (if code = 3 then Reg.VAT_PAIL_LATE p else Reg.VAT_PAIL_DROP p)
  let s := if code = 6 then s.evTl 10 else s
  s.evVat (s.pailBank p) 2

/-- The first header test that a block fails, in the order 0x8, 0x6, 0x4, 0x5, 0x1 (R177). `avail` is the room that the
writer may use. -/
def State.headerTest (s : State) (p : Nat) (h0 h1 : Word) (avail : Nat) : Option Nat :=
  let prev := (s.pail p).lastTl
  if (s.bank (s.pailBank p)).init ∨ s.on (domV (s.pailBank p)) = false then some 8
  else if !tlValid h0 then some 6
  else if hFmt h1 ≠ s.pailFmt p then some 4
  else if prev.any (fun x => !tlLater (tlCount h0) x) then some 5
  else if avail < blockBytes (hLen h1) then some 1
  else none

/-- The commit test that a block fails at this instant (R177): 0x2 early, 0x3 late, the latter never for a tx pail. -/
def State.commitTest (s : State) (p : Nat) (h0 : Word) : Option Nat :=
  let t := tlCount h0
  if tlDiff s.now (tlAdd t (s.pailEarly p)) < 0 then some 2
  else if s.pailRole p ≠ 1 ∧ 0 < tlDiff s.now (tlAdd t (s.pailLate p)) then some 3
  else none

/-- Finished blocks at the head of a pail are freed in ring order, once the reads that began are complete (R181). -/
def freeHead (core : Nat) : List Block → List Block
  | [] => []
  | b :: bs => if b.fin && decide (b.hold ≤ core) then freeHead core bs else b :: bs

/-- A pail's finished blocks freed. -/
def State.freePail (s : State) (p : Nat) : State := s.updPail p (fun r => { r with blocks := freeHead s.coreNow r.blocks })

/-- The pails whose oldest block may be freed in the present Tc. -/
def State.freeTick (s : State) : State :=
  (s.pails.map (·.1)).foldl (fun s p =>
    match (s.pail p).blocks with
    | b :: _ => if b.fin && decide (b.hold ≤ s.coreNow) then s.freePail p else s
    | [] => s) s

/-- Context `k` of array `arr` of unit `u` is enabled and its antenna or beam range, as an input, holds entry `e` (R181). -/
def State.ctxReads (s : State) (u arr k e : Nat) : Bool :=
  let ka := if arr = 0 then Reg.CH_UCTX_A u k else Reg.CH_DCTX_A u k
  let kb := if arr = 0 then Reg.CH_UCTX_B u k else Reg.CH_DCTX_B u k
  let base := if arr = 0 then s.fld kb F.CH_UCTX_B_ANT_BASE else s.fld kb F.CH_DCTX_B_BEAM_BASE
  let cnt := if arr = 0 then s.fld kb F.CH_UCTX_B_ANT_CNT else s.fld kb F.CH_DCTX_B_BEAM_CNT
  s.flag ka F.CH_UCTX_A_EN && decide (base ≤ e ∧ e < base + cnt)

/-- The unit that a group is bound to (CH_WB_STATUSg.UNIT). -/
def State.groupUnit (s : State) (g : Nat) : Nat := s.fld (Reg.CH_WB_STATUS g) F.CH_WB_STATUS_UNIT

/-- Entry `e` of unit `u` is the one that pail `p` serves (R174). -/
def State.entryServes (s : State) (p u e : Nat) : Bool :=
  let k := Reg.CH_STR u e
  let role := s.pailRole p
  s.flag k F.CH_STR_EN && s.fld k F.CH_STR_STREAM_ID == s.pailSid p &&
  s.fld k F.CH_STR_DIR == (if role = 0 ∨ role = 3 then 0 else 1) &&
  s.fld k F.CH_STR_SIDE == (if role = 0 ∨ role = 1 then 0 else 1) &&
  (if role = 0 ∨ role = 1 then s.fld k F.CH_STR_PORT == s.pailPort p % 8 else true)

/-- The stream entry that pail `p` serves, of the unit bound to its group (R174). -/
def State.pailEntry (s : State) (p : Nat) : Option (Nat × Nat) :=
  let u := s.groupUnit (s.pailGroup p)
  ((List.range 256).find? (fun e => s.entryServes p u e)).map (fun e => (u, e))

/-- Readers of a block of pail `p` (R181). -/
def State.pailReaders (s : State) (p : Nat) : Nat :=
  match s.pailRole p, s.pailEntry p with
  | 0, some (u, e) => ((List.range 16).filter (fun k => s.ctxReads u 0 k e)).length
  | 2, some (u, e) => ((List.range 16).filter (fun k => s.ctxReads u 1 k e)).length
  | 0, none => 0
  | 2, none => 0
  | _, _ => 1

/-- The enabled D-array contexts of unit `u` that read entry `e`, and the tx pails of the outputs that each feeds. -/
def State.txPailsOf (s : State) (u e : Nat) : List Nat :=
  ((List.range 16).filter (fun k => s.ctxReads u 1 k e)).flatMap (fun k =>
    let kb := Reg.CH_DCTX_B u k
    let base := s.fld kb F.CH_DCTX_B_ANT_BASE
    (List.range (s.fld kb F.CH_DCTX_B_ANT_CNT)).filterMap (fun i =>
      let x := Reg.CH_STR u (base + i)
      let g := s.fld (Reg.CH_ID u) F.CH_ID_GROUP
      s.findPail (u / 4) 1 (s.fld x F.CH_STR_STREAM_ID) (fun p => s.pailPort p == 8 * g + s.fld x F.CH_STR_PORT)))

/-- Release instant `t` is new to a tx pail: neither awaited, nor missed, nor passed by a block committed. -/
def PailRt.awaits (r : PailRt) (t : Nat) : Bool :=
  !(r.expect.contains t || r.lastMiss.any (fun l => !tlLater t l) || r.lastTl.any (fun l => !tlLater t l))

/-- Release instant `t` is awaited in every tx pail of a list (R28). -/
def State.expectIn : State → Nat → List Nat → State
  | s, _, [] => s
  | s, t, p :: ps =>
    (s.updPail p (fun r => if r.awaits t then { r with expect := r.expect ++ [t] } else r)).expectIn t ps

/-- A block commits to pail `p` at this instant, its words all written (R177, R181). A block that no context reads is
finished at its commit. -/
def State.commitBlock (s : State) (p : Nat) (h0 h1 : Word) (payload : List Word) (bad : List Nat) : State :=
  let size := blockBytes (hLen h1)
  let r := s.pail p
  let n := s.pailReaders p
  let t := tlCount h0
  let blk : Block :=
    { h0 := h0, h1 := h1, payload := payload, bad := bad, off := r.wr, size := size, tc := s.ticks, readers := n,
      readBy := [], fin := decide (n = 0) || r.gone.contains t, late := none,
      tx := if s.pailRole p = 1 ∧ r.gone.contains t = false then .wait else .none }
  let cap := s.pailBytes p
  let b := s.pailBank p
  let s := s.updPail p (fun r => { r with blocks := r.blocks ++ [blk], wr := if cap = 0 then 0 else (r.wr + size) % cap,
                                          lastTl := some t, expect := r.expect.erase t,
                                          gone := r.gone.filter (fun x => tlLater x t) })
  let s := (List.range (rowsOf r.wr size)).foldl (fun s i => s.rowWritten b (s.rowOf p (r.wr + 32 * i))) s
  let s := match s.pailRole p, s.pailEntry p with
    | 2, some (u, e) => s.expectIn t (s.txPailsOf u e)
    | _, _ => s
  s.freePail p

/-! ## Meanings -/

/-- The first arrival that has not been tested, and those before it. -/
def splitUntested : List Arrival → Option (List Arrival × Arrival × List Arrival)
  | [] => none
  | a :: as =>
    if a.tested then (splitUntested as).map (fun (x, y, z) => (a :: x, y, z)) else some ([], a, as)

/-- The room that the writer of an arrival may use: a channel's reservation, or the pail's free bytes (R178, R205). -/
def State.arrivalRoom (s : State) (p : Nat) (a : Arrival) : Nat :=
  match a.writer with
  | .chan c => ((s.pail p).resv.find? (fun e => e.1 == c.val)).elim (s.pailFree p) (·.2)
  | .port _ => s.pailFree p

/-- A channel's reservation reduced by the bytes that a block takes from it. -/
def useResv (c n : Nat) (l : List (Nat × Nat)) : List (Nat × Nat) :=
  (l.map (fun e => if e.1 = c then (e.1, e.2 - n) else e)).filter (fun e => e.2 != 0)

/-- BLOCK_HEADER_ARRIVAL (R177): the header tests of the next block on its way into the pail. A block that passes
reserves its room; one that fails is dropped and counted, and its remaining words are ignored. -/
def execBlockHeaderArrival (p : Pail) (s : State) : Res :=
  match splitUntested (s.pail p).arrivals with
  | none => .next s
  | some (pre, a, post) =>
    match s.headerTest p a.h0 a.h1 (s.arrivalRoom p a) with
    | some code =>
      let s := s.updPail p (fun r => { r with arrivals := pre ++ { a with tested := true, doom := some code } :: post,
                                              full := decide (code = 1) })
      .next (s.vatDrop p code)
    | none =>
      let s := s.updPail p (fun r =>
        { r with arrivals := pre ++ { a with tested := true, room := some r.wr } :: post, full := false,
                 resv := match a.writer with
                   | .chan c => useResv c (blockBytes (hLen a.h1)) r.resv
                   | .port _ => r.resv })
      .next s

/-- The word of pail `p` at byte offset `a` stays poisoned: the block that holds it has it (R188). -/
def State.poisonAt (s : State) (p a : Nat) : State :=
  s.updPail p (fun r => { r with blocks := r.blocks.map (fun b =>
    if b.off ≤ a ∧ a < b.off + b.size then { b with bad := insNat b.bad ((a - b.off) / 8) } else b) })

/-- The errors that the row reads of a block's write at offset `off` meet, and the words of the block that stay poisoned
(R186). A word outside the block, or covered in part, is corrected and counted; a word that the write covers whole takes its
new data; a poisoned word outside the block stays as it is. -/
def State.writeErrors : State → Nat → Nat → Nat → List EccHit → State × List Nat
  | s, _, _, _, [] => (s, [])
  | s, p, off, n, h :: hs =>
    let lead := off % 32 / 8
    let a := off - off % 32 + 8 * h.word
    let inside := decide (lead ≤ h.word ∧ h.word < lead + n)
    let part := decide (h.word = lead ∨ h.word + 1 = lead + n)
    if inside && !part then s.writeErrors p off n hs
    else if !h.unc then (s.vatError p a h).writeErrors p off n hs
    else
      let s := s.suspect (s.pailBank p) (s.rowOf p a)
      let s := if inside then s else s.poisonAt p a
      let (s, bad) := s.writeErrors p off n hs
      (s, if inside then insNat bad (h.word - lead) else bad)

/-- A stream writer met a poisoned word that it covers in part (R187): the request is counted in PDROP, and in
VAT_PAILp_POISON, and VAT_UECC is raised. -/
def State.partialPoison (s : State) (p off : Nat) (bad : List Nat) (hits : List EccHit) : State :=
  match bad with
  | [] => s
  | i :: _ =>
    let b := s.pailBank p
    let k := Reg.VAT_BANK_ERRLOG b
    let a := off + 8 * i
    let s := (s.cnt (Reg.VAT_BANK_PDROP b)).setFld k F.VAT_BANK_ERRLOG_TYPE 3
    let s := s.setFld k F.VAT_BANK_ERRLOG_WORD (a / 8 % 4)
    let s := s.setFld k F.VAT_BANK_ERRLOG_SYNDROME (((hits.find? (·.unc)).map (·.synd)).getD 0)
    let s := s.setFld k F.VAT_BANK_ERRLOG_ROW (s.rowOf p a)
    (s.evVat b 0).cnt (Reg.VAT_PAIL_POISON p)

/-- Header word 1 with VALID 0 and POISON 1. -/
def spoil (h1 : Word) : Word := BitVec.ofNat 64 (putBit (putBit h1.toNat 48 false) 53 true)

/-- A block is written and commits (R177, R186, R187): where its writer met a poisoned word, the rest of the block is written
and header word 1 says so. `pois` is a poisoned completion (R207). -/
def State.writeBlock (s : State) (p : Nat) (h0 h1 : Word) (payload : List Word) (pois : Bool) (hits : List EccHit) : State :=
  let off := (s.pail p).wr
  let hs := hits.filter (fun h => h.pail == p)
  let (s, bad) := s.writeErrors p off (blockBytes (hLen h1) / 8) hs
  let s := s.partialPoison p off bad hs
  let s := if pois then s.cnt (Reg.VAT_PAIL_POISON p) else s
  s.commitBlock p h0 (if pois || !bad.isEmpty then spoil h1 else h1) payload (bad.filter (fun i => i != 1))

/-- The block of an arrival that passes its commit tests commits. -/
def State.commitGood (s : State) (p : Nat) (a : Arrival) (hits : List EccHit) : State :=
  s.writeBlock p a.h0 a.h1 (a.got.take a.need) a.pois hits

/-- The oldest arrival of pail `p` meets its commit tests and is held or dropped (R177): the new state and whether the
block was committed. -/
def State.commitArrival (s : State) (p : Nat) (a : Arrival) (hits : List EccHit) : State × Bool :=
  match a.room, a.doom with
  | none, _ => (s, false)
  | some _, some code => (s.vatDrop p code, false)
  | some _, none =>
    (s.commitTest p a.h0).elim (s.commitGood p a hits, true) (fun code => (s.vatDrop p code, false))

/-- An arrival's words have all come, and its commit instant is reached: 212 core cycles after its first bit crossed the
receive plane for an rx block (R246, R563), 64 after delivery of its last byte for a channel's (R206). -/
def State.arrivalDue (s : State) (a : Arrival) : Bool :=
  a.tested && decide (a.need ≤ a.got.length) && decide (a.coreDue ≤ s.coreNow)

/-- BANK_INIT_COMPLETE (R183): 81,920 core cycles after power-up every row holds zero, and INIT clears. -/
def execBankInitComplete (b : Bank) (s : State) : Res :=
  match (s.bank b).initEnd with
  | some c =>
    if c ≤ s.coreNow then
      .next ((s.updBank b (fun r => { r with init := false, initEnd := none })).setFld (Reg.VAT_BANK_STATUS b) F.VAT_BANK_STATUS_INIT 0)
    else .next s
  | none => .next s

/-- A row queued as hard by hand (R189): logged and raising REPAIR. A row outside the bank names nothing. -/
def State.rprReq (s : State) (v : Nat) : State :=
  let b := bitsOf v 23 20
  let row := bitsOf v 19 0
  if v.testBit 31 ∧ row < 655360 then
    if 16 ≤ (s.bank b).pendq.length then s.queueRemap b row
    else
      let s := s.updBank b (fun r => { r with suspects := r.suspects.filter (fun x => x.row != row), pendq := r.pendq ++ [row] })
      let s := s.showPend b
      (s.logKind 0x05 (b + 3 * 2 ^ 8 + row % 1280 * 2 ^ 16 + row / 1280 * 2 ^ 32 + 0xFF * 2 ^ 48)).evVat b 3
  else s

/-- VAT_RPR_REQ (R189): a write of VAT_RPR_REQ. -/
def execVatRprReq (v : BitVec 32) (s : State) : Res := .next (s.rprReq v.toNat)

/-- Bytes of a pail from `off`, `size` of them, take in row `row` of the pail's bank. -/
def State.holdsRow (s : State) (p off size row : Nat) : Bool :=
  (List.range (rowsOf off size)).any (fun i => s.rowOf p (off + 32 * i) == row)

/-- The blocks in flight of a pail hold row `row`: each stands behind the ones before it. -/
def State.flightRow (s : State) (p row : Nat) : Nat → List Arrival → Bool
  | _, [] => false
  | off, a :: as =>
    if a.holds then
      let n := blockBytes (hLen a.h1)
      s.holdsRow p off n row || s.flightRow p row (off + n) as
    else s.flightRow p row off as

/-- A row of bank `b` holds no byte of any block held by a pail or on its way into one (R190). -/
def State.rowFree (s : State) (b row : Nat) : Bool :=
  s.pails.all (fun (p, r) =>
    s.pailBank p != b || !s.pailEn p ||
      (r.blocks.all (fun k => !s.holdsRow p k.off k.size row) &&
       !s.flightRow p row r.wr r.arrivals))

/-- The spares in use of sub-array `sub` of a bank: a row remapped again leaves its first spare behind. -/
def BankRt.sparesOf (r : BankRt) (sub : Nat) : Nat := (r.remap.filter (fun e => e.1 % 1280 == sub)).length

/-- REMAP_APPLY (R190): the bank's oldest queued row that holds no block takes a spare of its sub-array, or is refused
when both are in use. -/
def execRemapApply (b : Bank) (s : State) : Res :=
  match (s.bank b).pendq.find? (fun row => s.rowFree b row) with
  | none => .next s
  | some row =>
    let sub := row % 1280
    let n := (s.bank b).sparesOf sub
    let s := (s.updBank b (fun r => { r with pendq := r.pendq.erase row })).showPend b
    let k := Reg.VAT_BANK_REPAIR b
    if 2 ≤ n then
      let s := s.setW1c k F.VAT_BANK_REPAIR_EXH
      .next ((s.logKind 0x05 (b + 2 * 2 ^ 8 + sub * 2 ^ 16 + row / 1280 * 2 ^ 32 + 0xFF * 2 ^ 48)).evVat b 3)
    else
      let s := s.updBank b (fun r => { r with remap := r.remap ++ [(row, n)] })
      let s := s.setFld k F.VAT_BANK_REPAIR_USED ((s.bank b).remap.length)
      let s := s.setFld k F.VAT_BANK_REPAIR_LAST_SUB sub
      let s := s.setRepairDue true
      .next ((s.logKind 0x05 (b + sub * 2 ^ 16 + row / 1280 * 2 ^ 32 + n * 2 ^ 48)).evVat b 3)

end Sys2Proof.Machine
end

