-- ==== Sys2Proof/Machine/Churn.lean ====
section
/-! DEFINITION. The Churn: contexts and stream entries, the reference pipeline of R129, pass starts and commits, missed
outputs and datapath parity errors (04, 12 R353 and R354, 05 R163). -/

namespace Sys2Proof.Machine

/-! ## Units, contexts and entries (R117 to R123) -/

/-- The runtime state of Churn unit `u`. -/
def State.unit (s : State) (u : Nat) : UnitRt := SMap.get {} s.units u
/-- The state with unit `u`'s runtime state replaced by its image under `f`. -/
def State.updUnit (s : State) (u : Nat) (f : UnitRt → UnitRt) : State := { s with units := SMap.upd {} s.units u f }

/-- A field of an image of RWG registers. -/
def genFld (g : SMap Word) (k : Nat) (f : Fld) : Nat := f.get (SMap.get (rstG k) g k)

/-- Register A of context `k` of array `arr` of unit `u`; both arrays lay out their fields alike. -/
def ctxA (u arr k : Nat) : Nat := if arr = 0 then Reg.CH_UCTX_A u k else Reg.CH_DCTX_A u k
/-- Register B of context `k` of array `arr` of unit `u`. -/
def ctxB (u arr k : Nat) : Nat := if arr = 0 then Reg.CH_UCTX_B u k else Reg.CH_DCTX_B u k

/-- First and count of the input entries of a context (R121). -/
def ctxIns (g : SMap Word) (u arr k : Nat) : Nat × Nat :=
  if arr = 0 then (genFld g (ctxB u arr k) F.CH_UCTX_B_ANT_BASE, genFld g (ctxB u arr k) F.CH_UCTX_B_ANT_CNT)
  else (genFld g (ctxB u arr k) F.CH_UCTX_B_BEAM_BASE, genFld g (ctxB u arr k) F.CH_UCTX_B_BEAM_CNT)
/-- First and count of the output entries of a context (R121). -/
def ctxOuts (g : SMap Word) (u arr k : Nat) : Nat × Nat :=
  if arr = 0 then (genFld g (ctxB u arr k) F.CH_UCTX_B_BEAM_BASE, genFld g (ctxB u arr k) F.CH_UCTX_B_BEAM_CNT)
  else (genFld g (ctxB u arr k) F.CH_UCTX_B_ANT_BASE, genFld g (ctxB u arr k) F.CH_UCTX_B_ANT_CNT)

/-- The layout code of an array (R120). -/
def partCode (g : SMap Word) (u arr : Nat) : Nat :=
  genFld g (Reg.CH_CTRL u) (if arr = 0 then F.CH_CTRL_U_PART else F.CH_CTRL_D_PART)

/-- The initiation interval of a layout (R353). -/
def partII (code : Nat) : Nat := if code = 1 then 96 else 48

/-- The number of partitions of a layout; bypass has one start grid (R120, R353). -/
def partSlots (code : Nat) : Nat := if code ≤ 1 then 1 else 2 ^ (code - 1)

/-- The shape of a partition: antenna and beam entries (R120, R123). -/
def partShape (code : Nat) : Nat × Nat := if code = 0 then (64, 64) else (2 ^ (7 - code), 2 ^ (5 - code))

/-- The slot of a context; ignored in bypass (R123). -/
def ctxSlot (g : SMap Word) (u arr k : Nat) : Nat :=
  if partCode g u arr = 0 then 0 else genFld g (ctxA u arr k) F.CH_UCTX_A_SLOT

/-- The group that unit `u` is bound to; 0xF where it is bound to none. -/
def State.unitGroup (s : State) (u : Nat) : Nat := s.fld (Reg.CH_ID u) F.CH_ID_GROUP

/-- The pail that serves entry `e` of unit `u` in image `im`, where the unit serves group `g` (R174). -/
def State.entryPail (s : State) (im : SMap Word) (u g e : Nat) : Option Nat :=
  let s := { s with gen := im }
  let k := Reg.CH_STR u e
  let sid := genFld im k F.CH_STR_STREAM_ID
  let dir := genFld im k F.CH_STR_DIR
  if genFld im k F.CH_STR_SIDE = 0 then
    s.findPail (u / 4) (if dir = 0 then 0 else 1) sid (fun p => s.pailPort p == 8 * g + genFld im k F.CH_STR_PORT)
  else s.findPail (u / 4) (if dir = 0 then 3 else 2) sid (fun p => s.pailGroup p == g)

/-- Pail `p`'s descriptor is the same in two images, EARLY and LATE apart (R182). -/
def pailSame (a b : SMap Word) (p : Nat) : Bool :=
  SMap.get (rstG (Reg.VAT_PAIL_A p)) a (Reg.VAT_PAIL_A p) == SMap.get (rstG (Reg.VAT_PAIL_A p)) b (Reg.VAT_PAIL_A p) &&
    genFld a (Reg.VAT_PAIL_B p) F.VAT_PAIL_B_STREAM_ID == genFld b (Reg.VAT_PAIL_B p) F.VAT_PAIL_B_STREAM_ID

/-- The role of pail `p` in an image. -/
def pailRoleIn (im : SMap Word) (p : Nat) : Nat := genFld im (Reg.VAT_PAIL_A p) F.VAT_PAIL_A_ROLE

/-- Format parameters of an entry of an image, for a block of format `code` (R100, R122). -/
def entryParam (g : SMap Word) (u e code : Nat) : FmtParam :=
  let k := Reg.CH_STR u e
  { code := code, bcode := genFld g k F.CH_STR_B, mcode := genFld g k F.CH_STR_M, sc := genFld g k F.CH_STR_S,
    gain := genFld g (Reg.CH_STRG u e) F.CH_STRG_G, mode := genFld g k F.CH_STR_MODE }

/-! ## The reference pipeline (R126 to R132, R148, R156) -/

/-- A complex number of integers. -/
abbrev Cx := Int × Int

/-- A word of the layout of R146, read as a complex number of 18-bit parts. -/
def cxOf (w : Word) : Cx := (sNat 18 (wbits w 17 0), sNat 18 (wbits w 49 32))

/-- The product of two complex numbers. -/
def cxMul (a b : Cx) : Cx := (a.1 * b.1 - a.2 * b.2, a.1 * b.2 + a.2 * b.1)

/-- cal_coef for samples 0 to n − 1 from gain `c` and step `d` (R156). -/
def calCoefs (d : Cx) : Nat → Cx → List Cx
  | 0, _ => []
  | n + 1, c =>
    let p := cxMul c d
    c :: calCoefs d n (sat (rnd p.1 16 0) 18, sat (rnd p.2 16 0) 18)

/-- One sample calibrated, with what it adds to cal_sat (R129). -/
def calibrate (v : Cx) (cc : Cx) : Cx × Nat :=
  let (xi, ci) := linIn v.1
  let (xq, cq) := linIn v.2
  let p := cxMul (xi, xq) cc
  let ri := rnd p.1 13 0
  let rq := rnd p.2 13 0
  let yi := sat ri 20
  let yq := sat rq 20
  ((yi, yq), ci + cq + (if yi ≠ ri ∧ xi = v.1 then 1 else 0) + (if yq ≠ rq ∧ xq = v.2 then 1 else 0))

/-- Components taken two by two. -/
def pairs : List Int → List Cx
  | a :: b :: l => (a, b) :: pairs l
  | _ => []

/-- A block unpacked and calibrated as input entry `e` of unit `u`: its samples, and its counts of cal_sat and nan. -/
def unpackCal (g : SMap Word) (u e : Nat) (b : Block) : List Cx × Nat × Nat :=
  let n := hNm1 b.h1 + 1
  let (raw, nan) := decodeRaw (entryParam g u e (hFmt b.h1)) n b.bytes
  let cs := calCoefs (cxOf (SMap.get (rstG (Reg.CH_CALD u e)) g (Reg.CH_CALD u e))) n
    (cxOf (SMap.get (rstG (Reg.CH_CALG u e)) g (Reg.CH_CALG u e)))
  let ys := List.zipWith calibrate (pairs raw) cs
  (ys.map (·.1), (ys.map (·.2)).foldl (· + ·) 0, nan)

/-- A block fails the tests of R106 as an input of entry `e`. -/
def fmtFails (g : SMap Word) (u e : Nat) (b : Block) : Bool :=
  let n := hNm1 b.h1 + 1
  decide (96 < n) || decide (payLen (entryParam g u e (hFmt b.h1)) n ≠ some (hLen b.h1))

/-- The word of the directory that holds the entry of a set and selector, and the entry (R147). -/
def dirWord (set sel : Nat) : Nat := 64 * set + sel / 4
/-- The directory entry of a set and selector in a half. -/
def dirEntry (half : SMap Word) (set sel : Nat) : Nat :=
  wbits (SMap.get 0 half (dirWord set sel)) (16 * (sel % 4) + 15) (16 * (sel % 4))

/-- The words that weights_absent reads: the directory word, and the matrix of a PRESENT entry (R148). -/
def weightWords (half : SMap Word) (set sel cnt : Nat) : List Nat :=
  let d := dirEntry half set sel
  dirWord set sel :: (if d.testBit 15 then (List.range cnt).map (fun j => 8 * (d % 16384) + j) else [])

/-- The weight that joins input `i` to output `o` of a pass (R148). -/
def weightOf (half : SMap Word) (set sel bcnt arr o i : Nat) : Cx :=
  let d := dirEntry half set sel
  let a := if arr = 0 then i else o
  let b := if arr = 0 then o else i
  cxOf (SMap.get 0 half (8 * (d % 16384) + a * bcnt + b))

/-- One output block of a pass: its header, its payload, and what its encoding adds to req_sat. -/
structure OutBlk where
  entry : Nat
  h0    : Word
  h1    : Word
  bytes : List Byte
  req   : Nat
  deriving DecidableEq, Repr

/-- What a pass gives: its output blocks and the counts of its inputs. -/
structure PassOut where
  outs   : List OutBlk
  cal    : List (Nat × Nat)     -- entry and count of cal_sat
  nan    : List (Nat × Nat)
  fmtErr : List Nat             -- entries counted in fmt_err
  absent : List Nat             -- entries counted as absent
  noW    : Bool                 -- NOWEIGHT set by this unit
  uecc   : Bool                 -- the pass met an uncorrectable error in the weight store
  wread  : List Nat             -- the weight words that the pass read
  deriving DecidableEq, Repr

/-- A flag of the flag byte that some present input carries. -/
def carries (ins : List Block) (bit : Nat) : Bool := ins.any (fun b => (hFlags b.h1).testBit bit)

/-- The sum of products for one output sample (R129). -/
def combine (ws : List (Option (Cx × Cx))) : Cx :=
  ws.foldl (fun a x => match x with
    | none => a
    | some (y, w) => let p := cxMul y w; (a.1 + p.1, a.2 + p.2)) (0, 0)

/-- N of an output block: rounded up to a multiple of B for codes 0x5 and 0x7 (R127). -/
def outN (p : FmtParam) (n : Nat) : Nat :=
  if p.code = 5 ∨ p.code = 7 then (n + bfpB p.bcode - 1) / bfpB p.bcode * bfpB p.bcode else n

/-- block_op of R129 with the headers of R127 and R132: `ps` says which inputs met an uncorrectable Vat error, `wbad` the
poisoned words of the active half. -/
def blockOp (u : Nat) (x : Pass) (ps : List Bool) (wbad : List Nat) : PassOut :=
  let g := x.gen
  let (ib, ni) := ctxIns g u x.arr x.ctx
  let (ob, no) := ctxOuts g u x.arr x.ctx
  let ka := ctxA u x.arr x.ctx
  let bypass := decide (partCode g u x.arr = 0)
  let shift := genFld g ka F.CH_UCTX_A_SHIFT
  let wset := genFld g ka F.CH_UCTX_A_WSET
  let acnt := genFld g (ctxB u x.arr x.ctx) F.CH_UCTX_B_ANT_CNT
  let bcnt := genFld g (ctxB u x.arr x.ctx) F.CH_UCTX_B_BEAM_CNT
  let ins : List (Option Block) := (List.range ni).map (fun i => ((x.ins.getD i none).map (·.2)))
  let arrived (i : Nat) : Option Block := (ins.getD i none).filter (fun b => hValid b.h1)
  let bad (i : Nat) : Bool := (arrived i).any (fun b => fmtFails g u (ib + i) b)
  let pois (i : Nat) : Bool := ps.getD i false
  let pres0 (i : Nat) : Option Block := if bad i || pois i then none else arrived i
  let gov := ((List.range ni).filterMap pres0).head?
  let sel := (gov.map (fun b => hWsel b.h1)).getD 0
  let pres := (List.range ni).map (fun i =>
    (pres0 i).filter (fun b => gov.any (fun v => hNm1 b.h1 == hNm1 v.h1 && hWsel b.h1 == hWsel v.h1)))
  let present := pres.filterMap id
  let absent := (List.range ni).filter (fun i => (pres.getD i none).isNone)
  let fe := (List.range ni).any bad
  let words := if gov.isSome && !bypass then weightWords x.half wset sel (acnt * bcnt) else []
  let uecc := words.any (fun w => wbad.contains w)
  let noSel := gov.isSome && !bypass && (uecc || !(dirEntry x.half wset sel).testBit 15)
  let noW := (!bypass && x.absent) || noSel
  let zero := gov.isNone || (decide (x.arr = 1) && fe) || noW
  let n := (gov.map (fun b => hNm1 b.h1 + 1)).getD 0
  let ys : List (Option (List Cx) × Nat × Nat) := (List.range ni).map (fun i =>
    match pres.getD i none with
    | some b => if zero then (none, 0, 0) else let (y, c, m) := unpackCal g u (ib + i) b; (some y, c, m)
    | none => (none, 0, 0))
  let calAny := ys.any (fun y => decide (y.2.1 ≠ 0))
  let nanAny := ys.any (fun y => decide (y.2.2 ≠ 0))
  let sample (o k : Nat) : Cx :=
    if zero then (0, 0)
    else if bypass then
      match (ys.getD o (none, 0, 0)).1 with
      | some y => let v := y.getD k (0, 0); (v.1 * 131072, v.2 * 131072)
      | none => (0, 0)
    else combine ((List.range ni).map (fun i =>
      (ys.getD i (none, 0, 0)).1.map (fun y => (y.getD k (0, 0), weightOf x.half wset sel bcnt x.arr o i))))
  let valid := gov.isSome && !noW && !(decide (x.arr = 1) && fe) && !x.struck
  let flagOf (sat : Bool) : Nat :=
    (if valid then 1 else 0) + (if !absent.isEmpty || carries present 1 then 2 else 0) +
    (if sat || calAny || carries present 2 then 4 else 0) + (if nanAny || carries present 3 then 8 else 0) +
    (if fe || carries present 4 then 16 else 0) +
    (if (List.range ni).any pois || carries present 5 then 32 else 0) + (if noW || carries present 6 then 64 else 0)
  let outs := (List.range no).map (fun o =>
    let e := ob + o
    let sid := genFld g (Reg.CH_STR u e) F.CH_STR_STREAM_ID
    let p := entryParam g u e (genFld g (Reg.CH_STR u e) F.CH_STR_OUT_FMT)
    match gov with
    | none => (⟨e, tlOf x.time, mkH1 0 p.code 0 0 sid absent.length (flagOf false), [], 0⟩ : OutBlk)
    | some v =>
      let m := outN p n
      let zs := (List.range m).flatMap (fun k => if k < n then (let z := sample o k; [z.1, z.2]) else [0, 0])
      let (bytes, req) := encodeBlock p zs shift
      ⟨e, v.h0, mkH1 sel p.code bytes.length (m - 1) sid absent.length (flagOf (decide (req ≠ 0))), bytes, req⟩)
  { outs := outs,
    cal := (List.range ni).map (fun i => (ib + i, (ys.getD i (none, 0, 0)).2.1)),
    nan := (List.range ni).map (fun i => (ib + i, (ys.getD i (none, 0, 0)).2.2)),
    fmtErr := ((List.range ni).filter bad).map (ib + ·), absent := absent.map (ib + ·), noW := noW, uecc := uecc, wread := words }

/-! ## Pass starts (R137 to R140, R179, R180, R353, R354) -/

/-- The timeline counts whose start cycle begins in the present Tc: the count itself, and the count before where no core
cycle began in its Tc. A cycle stretched to 1.25 Tc can leave one Tc without the beginning of a cycle (R54, R353). -/
def State.startCounts (s : State) : List Nat :=
  let here := !(s.tk.stretched s.core && s.coreQ == 1)
  let prev := decide (s.coreQ = 0 ∧ 0 < s.core) && s.tk.stretched (s.core - 1)
  (if here then [s.now] else []) ++ (if prev then [tlAdd s.now (-1)] else [])

/-- The core cycle that begins in the present Tc. -/
def State.startCore (s : State) : Nat := if s.coreQ = 0 then s.core else s.core + 1

/-- The slice of a context: that of its input entries, which all have one (R123). -/
def State.ctxSlice (s : State) (u arr k : Nat) : Nat := s.fld (Reg.CH_STR u (ctxIns s.gen u arr k).1) F.CH_STR_SLICE

/-- The input pails of a context, by input. -/
def State.ctxPails (s : State) (u g arr k : Nat) : List (Option Nat) :=
  let (ib, ni) := ctxIns s.gen u arr k
  (List.range ni).map (fun i => s.entryPail s.gen u g (ib + i))

/-- The blocks of a pail that context `k` has not read and that lie after its last block time. -/
def State.unread (s : State) (u arr k p : Nat) : List Block :=
  let last := SMap.get 0 (s.unit u).last (16 * arr + k)
  (s.pail p).blocks.filter (fun b => !b.readBy.contains k && (last == 0 || tlLater (tlCount b.h0) (last - 1)))

/-- The earliest of a list of counts. -/
def earliest : List Nat → Option Nat
  | [] => none
  | t :: ts => match earliest ts with
    | none => some t
    | some m => some (if tlLater t m then m else t)

/-- The block time that context `k` would take next (R179): the earliest of the unread blocks of its input pails. -/
def State.candTime (s : State) (u g arr k : Nat) : Option Nat :=
  earliest (((s.ctxPails u g arr k).filterMap id).flatMap (fun p => (s.unread u arr k p).map (fun b => tlCount b.h0)))

/-- The largest of a list of integers, or 0 of none. -/
def maxInt : List Int → Int
  | [] => 0
  | [x] => x
  | x :: xs => max x (maxInt xs)

/-- An uplink context is ready for block time `t` (R139, R179): every input was committed in an earlier Tc, or the window
t + LATE ended in one. -/
def State.upReady (s : State) (u g k t : Nat) : Bool :=
  let ps := s.ctxPails u g 0 k
  let late := maxInt ((ps.filterMap id).map s.pailLate)
  tlLater s.now (tlAdd t late) ||
    ps.all (fun p => p.any (fun p => (s.unread u 0 k p).any (fun b => tlCount b.h0 == t && decide (b.tc < s.ticks))))

/-- λ of a downlink context: the largest TL_LEAD_AL among the ports of its outputs (R138). -/
def State.ctxLead (s : State) (u g k : Nat) : Nat :=
  let (ob, no) := ctxOuts s.gen u 1 k
  ((List.range no).map (fun o => s.fld (Reg.TL_LEAD_AL (8 * g + s.fld (Reg.CH_STR u (ob + o)) F.CH_STR_PORT))
    F.TL_LEAD_AL_LEAD)).foldl max 0

/-- A downlink context is due for release instant `t` (R138). -/
def State.downReady (s : State) (u g k t : Nat) : Bool := tlReached s.now (tlAdd t (-(540 + s.ctxLead u g k : Nat)))

/-- Context `k` of array `arr` is ready, and for which block time (R119, R138, R139). -/
def State.ctxReady (s : State) (u g arr k : Nat) : Option Nat :=
  if s.flag (ctxA u arr k) F.CH_UCTX_A_EN then
    (s.candTime u g arr k).filter (fun t => if arr = 0 then s.upReady u g k t else s.downReady u g k t)
  else none

/-- Slot `slot` of an array has a start for slice `sl` in the present Tc (R353). -/
def State.wheelStart (s : State) (u g arr slot sl : Nat) : Bool :=
  let ii := partII (partCode s.gen u arr)
  s.startCounts.any (fun n =>
    let k := Reg.SL_CWHEEL g arr slot (n / ii % 32)
    n % ii == 0 && s.flag k F.SL_CWHEEL_EN && s.fld k F.SL_CWHEEL_SLICE == sl)

/-- The context that a slot's start goes to (R354): of the slice's ready contexts on the slot, the one with the earliest
block time, then the lowest number; with its block time. -/
def State.slotChoice (s : State) (u g arr slot sl : Nat) : Option (Nat × Nat) :=
  ((List.range 16).filter (fun k => ctxSlot s.gen u arr k == slot && s.ctxSlice u arr k == sl)).foldr
    (fun k acc => match s.ctxReady u g arr k, acc with
      | none, a => a
      | some t, none => some (k, t)
      | some t, some (j, m) => if tlLater t m then some (j, m) else some (k, t)) none

/-- Context `k` of array `arr` of unit `u` may start a pass in the present Tc; its group and block time (R137 to R140). -/
def State.passDue (s : State) (u arr k : Nat) : Option (Nat × Nat) :=
  let g := s.unitGroup u
  let slot := ctxSlot s.gen u arr k
  let sl := s.ctxSlice u arr k
  if s.on (domC u) && decide (g < 12) && s.flag (Reg.CH_CTRL u) F.CH_CTRL_EN &&
      decide (slot < partSlots (partCode s.gen u arr)) && s.wheelStart u g arr slot sl &&
      !((s.unit u).passes.any (fun x => x.arr == arr && x.start == s.startCore && ctxSlot x.gen u arr x.ctx == slot)) then
    match s.slotChoice u g arr slot sl with
    | some (j, t) => if j = k then some (g, t) else none
    | none => none
  else none

/-- A block marked read by context `k` (R181). -/
def Block.mark (b : Block) (k : Nat) : Block :=
  let r := if b.readBy.contains k then b.readBy else b.readBy ++ [k]
  { b with readBy := r, fin := b.fin || decide (b.readers ≤ r.length) }

/-- A block that a pass begun in core cycle `c` reads: unpacking takes 48 cycles (R136). -/
def Block.reading (b : Block) (c : Nat) : Block := { b with hold := max b.hold (c + 48) }

/-- A block passed over at block time `t`: counted in VAT_PAILp_LATE, raising VAT_DROP (R180). -/
def State.passOver (s : State) (p : Nat) : State := (s.cnt (Reg.VAT_PAIL_LATE p)).evVat (s.pailBank p) 2

/-- The input that pail `p` offers to context `k` for block time `t`, and the state in which what it read or passed over
is marked read (R180). -/
def State.takeInput (s : State) (p k t : Nat) : State × Option (Nat × Block) :=
  let bs := (s.pail p).blocks
  let old := bs.filter (fun b => !b.readBy.contains k && tlLater t (tlCount b.h0))
  let hit := bs.find? (fun b => !b.readBy.contains k && tlCount b.h0 == t)
  let s := old.foldl (fun s _ => s.passOver p) s
  let s := (s.updPail p (fun r => { r with blocks := r.blocks.map (fun b =>
    if tlLater (tlCount b.h0) t then b
    else if tlCount b.h0 = t ∧ b.readBy.contains k = false then (b.reading s.startCore).mark k
    else b.mark k) })).freePail p
  (s, hit.map (p, ·))

/-- The inputs of a pass, in order. -/
def State.takeInputs : State → Nat → Nat → List (Option Nat) → State × List (Option (Nat × Block))
  | s, _, _, [] => (s, [])
  | s, k, t, none :: ps => let (s, l) := s.takeInputs k t ps; (s, none :: l)
  | s, k, t, some p :: ps =>
    let (s, x) := s.takeInput p k t
    let (s, l) := s.takeInputs k t ps
    (s, x :: l)

/-- The pass of context `k` at block time `t` begins (R140, R153, R180). -/
def State.startPass (s : State) (u g arr k t : Nat) : State :=
  let ps := s.ctxPails u g arr k
  let (s, ins) := s.takeInputs k t ps
  let r := s.unit u
  let x : Pass :=
    { arr := arr, ctx := k, time := t, start := s.startCore, group := g, gen := s.gen, half := r.active,
      halfBad := r.actBad, absent := s.flag (Reg.CH_WB_STATUS g) F.CH_WB_STATUS_ABSENT, ins := ins, struck := false }
  s.updUnit u (fun r => { r with passes := r.passes ++ [x], last := SMap.put 0 r.last (16 * arr + k) (t + 1) })

/-- CHURN_UPLINK_PASS_START (R139): the slot's start goes to context `k`. -/
def execChurnUplinkPassStart (u : ChUnit) (k : Fin 16) (s : State) : Res :=
  match s.passDue u 0 k with
  | some (g, t) => .next (s.startPass u g 0 k t)
  | none => .next s

/-- CHURN_DOWNLINK_PASS_START (R138): the slot's start goes to context `k`. Where the lateness projected without stretch
exceeds TL_LATE_LIMIT, nothing is started (R81), and the release is marked Missed at the instant of R28. -/
def execChurnDownlinkPassStart (u : ChUnit) (k : Fin 16) (s : State) : Res :=
  match s.passDue u 1 k with
  | some (g, t) =>
    if (s.fld Reg.TL_LATE_LIMIT F.TL_LATE_LIMIT_LIMIT : Int) < tlDiff (tlAdd s.now 540) t then
      .next (s.updUnit u (fun r => { r with last := SMap.put 0 r.last (16 + k) (t + 1) }))
    else .next (s.startPass u g 1 k t)
  | none => .next s

/-! ## Pass commits (R132 to R136) -/

/-- `n` occurrences of Churn source 4u + e (R134). -/
def State.evChN (s : State) (u e n : Nat) : State :=
  if n = 0 then s
  else
    let s := s.evCh u e
    if s.on 3 then s.addCnt (Reg.EV_CNT (416 + 4 * u + e)) (n - 1) 0xFFFFFFFF else s

/-- Counts added to the counters of entries; `reg` gives an entry's counter. -/
def State.addCounts (s : State) (reg : Nat → Nat) (l : List (Nat × Nat)) : State :=
  l.foldl (fun s (e, n) => s.addCnt (reg e) n 0xFFFFFFFF) s

/-- The sum of the second parts of a list. -/
def sumSnd (l : List (Nat × Nat)) : Nat := (l.map (·.2)).foldl (· + ·) 0

/-- The errors that the reads of the pass's inputs meet, and which inputs are poisoned (R185). -/
def State.inputErrors : State → List (Option (Nat × Block)) → List EccHit → State × List Bool
  | s, [], _ => (s, [])
  | s, none :: l, hs => let (s, r) := s.inputErrors l hs; (s, false :: r)
  | s, some (p, b) :: l, hs =>
    let (s, bad) := s.readErrors p b (hs.filter (fun h => h.pail == p))
    let s := if bad.isEmpty then s else (s.keepPoison p b bad).cnt (Reg.VAT_PAIL_POISON p)
    let (s, r) := s.inputErrors l hs
    (s, (!bad.isEmpty) :: r)

/-- The errors that the weight reads of a pass meet in group `g`: the correctable ones are counted (R148). -/
def State.weightErrors (s : State) (g : Nat) (hs : List EccHit) : State :=
  (hs.filter (fun h => !h.unc)).foldl (fun s _ => s.cnt (Reg.CH_WB_CECC g)) s

/-- A release of tx pail `p` is marked Missed: its marker waits while the port is Up (R245), and timeline source 8 is
raised (R28, R69, R87). -/
def State.missTx (s : State) (p t : Nat) : State :=
  let up := s.fld (Reg.AL_STAT (s.pailPort p)) F.AL_STAT_TSTATE == 5
  (s.updPail p (fun r => { r with expect := r.expect.erase t, lastMiss := some t,
                                  missed := if up then r.missed ++ [tlOf t] else r.missed })).evTl 8

/-- A release is marked Missed whose block has not committed: the block is not sent when it does (R28, R69). -/
def State.missAhead (s : State) (p t : Nat) : State :=
  (s.missTx p t).updPail p (fun r => { r with gone := r.gone ++ [t] })

/-- A release whose instant is invalid is never performed: it is Missed, and a marker carries its TL (R60, R245). -/
def State.missInvalid (s : State) (p : Nat) (w : Word) : State :=
  let up := s.fld (Reg.AL_STAT (s.pailPort p)) F.AL_STAT_TSTATE == 5
  (s.updPail p (fun r => { r with missed := if up then r.missed ++ [w] else r.missed })).evTl 8

/-- FULL of VAT_PAILp_STAT: what the last header test found (R193). -/
def State.pailFull (s : State) (p : Nat) (b : Bool) : State := s.updPail p (fun r => { r with full := b })

/-- One output block of a pass offered to its pail (R177, R178): a D-array output without room stays uncommitted. -/
def State.commitOut (s : State) (u : Nat) (x : Pass) (hits : List EccHit) (o : OutBlk) : State :=
  match s.entryPail x.gen u x.group o.entry with
  | none => s
  | some p =>
    -- the pail is that of the pass's generation; one changed since has discarded its blocks (R140, R182)
    if pailSame x.gen s.gen p = false then
      let s := s.vatDrop p 7
      if x.arr = 1 ∧ pailRoleIn x.gen p = 1 then s.missTx p (tlCount o.h0) else s
    else match s.headerTest p o.h0 o.h1 (s.pailFree p) with
    | some 1 => if x.arr = 1 then s.pailFull p true else (s.pailFull p true).vatDrop p 1
    | some 6 => if s.pailRole p = 1 then ((s.pailFull p false).vatDrop p 6).missInvalid p o.h0 else (s.pailFull p false).vatDrop p 6
    | some c => (s.pailFull p false).vatDrop p c
    | none =>
      let s := s.pailFull p false
      (s.commitTest p o.h0).elim
        ((s.writeBlock p o.h0 o.h1 (wordsOf (blockWords o.bytes.length) o.bytes) false hits).addCnt
          (if x.arr = 0 then Reg.CH_BLKCNT_U u else Reg.CH_BLKCNT_D u) 1 (ones 48))
        (fun c => s.vatDrop p c)

/-- The effects of a pass at its commit (R129, R132 to R136). -/
def State.commitPass (s : State) (u : Nat) (x : Pass) (hits : List EccHit) : State :=
  let (s, ps) := s.inputErrors x.ins hits
  let wh := hits.filter (fun h => h.pail == weightHit)
  let r := blockOp u x ps ((wh.filter (·.unc)).map (·.word) ++ x.halfBad)
  let wh := wh.filter (fun h => r.wread.contains h.word)
  let s := s.weightErrors x.group wh
  let unc := (wh.filter (·.unc)).map (·.word)
  let s := if unc.isEmpty then s else s.updUnit u (fun d =>
    if d.active = x.half then { d with actBad := unc.foldl insNat d.actBad } else { d with shaBad := unc.foldl insNat d.shaBad })
  let s := if r.uecc then (s.cnt (Reg.CH_WB_UECC x.group)).evUm 6 else s
  let s := s.addCounts (Reg.CH_CALSAT u) r.cal
  let s := s.addCounts (Reg.CH_NAN u) r.nan
  let s := s.addCounts (Reg.CH_FMTERR u) (r.fmtErr.map (·, 1))
  let s := s.addCounts (Reg.CH_ABSENT u) (r.absent.map (·, 1))
  let req := r.outs.map (fun o => (o.entry, o.req))
  let s := s.addCounts (Reg.CH_REQSAT u) req
  let s := s.evChN u 0 r.fmtErr.length
  let s := s.evChN u 1 (sumSnd r.cal + sumSnd req)
  let s := s.evChN u 2 (if r.noW then r.outs.length else 0)
  r.outs.foldl (fun s o => s.commitOut u x hits o) s

/-- Core cycles of a pass, from its offset 0 to its commit (R136). -/
def passCycles (arr : Nat) : Nat := if arr = 0 then 344 else 352

/-- CHURN_PASS_COMMIT (R136): the array's oldest pass commits its output blocks 344 (uplink) or 352 (downlink) core cycles
after its offset 0. `hits` are the errors that its reads, and the row reads of its outputs' writes, met. -/
def execChurnPassCommit (u : ChUnit) (arr : Fin 2) (hits : List EccHit) (s : State) : Res :=
  match (s.unit u).passes.find? (fun x => x.arr == arr.val) with
  | some x =>
    if x.start + passCycles arr ≤ s.coreNow then
      .next ((s.updUnit u (fun r => { r with passes := r.passes.erase x })).commitPass u x hits)
    else .next s
  | none => .next s

/-! ## Missed outputs and datapath errors (R28, R135, R163) -/

/-- CH_FAULT set, with the array and context of a pass where one is given (R135). -/
def State.chFault (s : State) (u code : Nat) (x : Option (Nat × Nat)) : State :=
  let k := Reg.CH_FAULT u
  let s := s.setFld k F.CH_FAULT_CODE code
  let s := match x with
    | some (arr, ctx) => (s.setFld k F.CH_FAULT_ARRAY arr).setFld k F.CH_FAULT_CTX ctx
    | none => s
  s.evCh u 3

/-- The D-array context of unit `u` whose outputs hold the entry that tx pail `p` serves. -/
def State.txCtx (s : State) (p : Nat) : Option (Nat × Nat) :=
  (s.pailEntry p).bind (fun (u, e) =>
    ((List.range 16).find? (fun k =>
      let (ob, no) := ctxOuts s.gen u 1 k
      s.flag (ctxA u 1 k) F.CH_UCTX_A_EN && decide (ob ≤ e ∧ e < ob + no))).map (u, ·))

/-- RELEASE_MISSED_DEADLINE (R28): at T + TL_LATE_LIMIT − 188 the awaited output of a release is not committed; the release
is marked Missed, and CH_FAULT records the context. -/
def execReleaseMissedDeadline (p : Pail) (s : State) : Res :=
  match (s.pail p).expect with
  | t :: _ =>
    if tlReached s.now (tlAdd t ((s.fld Reg.TL_LATE_LIMIT F.TL_LATE_LIMIT_LIMIT : Int) - 188)) then
      let s := s.missAhead p t
      .next (match s.txCtx p with
        | some (u, k) => s.chFault u 1 (some (1, k))
        | none => s)
    else .next s
  | [] => .next s

/-- The runtime state of quadrant `q`'s spare takeover. -/
def State.spareRt (s : State) (q : Nat) : SpareRt := SMap.get {} s.spares q
/-- The state with quadrant `q`'s takeover replaced by its image under `f`. -/
def State.updSpare (s : State) (q : Nat) (f : SpareRt → SpareRt) : State := { s with spares := SMap.upd {} s.spares q f }

/-- The register of a prepared spare that a staged write to register `k` of the failing unit reaches as well (R164). -/
def State.spareReg (s : State) (k : Nat) : Option Nat :=
  ((List.range 4).find? (fun q =>
    let sp := s.spareRt q
    s.fld (Reg.CH_SPARE_CTRL q) F.CH_SPARE_CTRL_STATE == 1 && sp.ready &&
      decide (Reg.CH_ID sp.src ≤ k ∧ k < Reg.CH_ID (sp.src + 1)))).map (fun q =>
    k - Reg.CH_ID (s.spareRt q).src + Reg.CH_ID (s.spareRt q).dst)

/-- A staged write of register `k`, which a prepared spare takes as well (R164). -/
def State.stage (s : State) (k : Nat) (w : Word) : State :=
  match s.spareReg k with
  | some j => (s.wrS k w).wrS j w
  | none => s.wrS k w

/-- A takeover of group `g` at count `at_` is decided: preparation begins once the spare's domain is released (R164). -/
def State.spareDecide (s : State) (q g at_ cause : Nat) : State :=
  let src := s.groupUnit g
  let dst := s.fld (Reg.CH_SPARE_CTRL q) F.CH_SPARE_CTRL_SPARE_UNIT
  let s := s.setFld (Reg.CH_SPARE_CTRL q) F.CH_SPARE_CTRL_STATE 1
  s.updSpare q (fun _ =>
    { group := g, src := src, dst := dst, at_ := at_, cause := cause,
      begun := if s.on (domC dst) then some s.coreNow else none })

/-- The first frame boundary at least 65,536 Tc after count `d` (R163). -/
def firstBoundary (d : Nat) : Nat := ((d + 65536 + frameTc - 1) / frameTc * frameTc) % piTl

/-- An automatic takeover is decided when AUTO is set, a spare is available and the frame's errors reach THRESH (R163). -/
def State.spareAuto (s : State) (u n : Nat) : State :=
  let q := u / 4
  let k := Reg.CH_SPARE_CTRL q
  if s.flag k F.CH_SPARE_CTRL_AUTO && s.fld k F.CH_SPARE_CTRL_STATE == 0 &&
      decide (s.unitGroup u < 12) && decide (max 1 (s.fld k F.CH_SPARE_CTRL_THRESH) ≤ n) then
    let f := firstBoundary s.now
    (s.wrW (Reg.CH_SPARE_AT q) (tlOf f)).spareDecide q (s.unitGroup u) f 2
  else s

/-- CH_PARITY_ERROR (R135): every pass in flight in the unit is struck, CH_FAULT records the oldest, and an automatic
takeover may follow (R163). -/
def execChParityError (u : ChUnit) (s : State) : Res :=
  if s.on (domC u) then
    let r := s.unit u
    let old : Option (Nat × Nat) := r.passes.foldl (fun (acc : Option Pass) x => match acc with
      | none => some x
      | some y => if x.start < y.start ∨ (x.start = y.start ∧ x.arr < y.arr) then some x else some y) none |>.map (fun x => (x.arr, x.ctx))
    let fr := s.now / frameTc
    let n := if r.frame = fr then r.parity + 1 else 1
    -- an output whose commit cycle has passed stays uncommitted
    let core := s.coreNow
    let s := s.updUnit u (fun r =>
      { r with passes := (r.passes.filter (fun x => decide (core ≤ x.start + passCycles x.arr))).map (fun x => { x with struck := true }),
               parity := n, frame := fr })
    .next ((s.chFault u 2 old).spareAuto u n)
  else .next s

/-- CH_STATUS of unit `u`: STATE as R594 gives it, and the busy bits. -/
def State.chStatus (s : State) (u : Nat) : Nat :=
  let q := u / 4
  let g := s.unitGroup u
  let sp := s.spareRt q
  let st :=
    if !s.on (domC u) || (s.unit u).retired then 0
    else if s.fld (Reg.CH_SPARE_CTRL q) F.CH_SPARE_CTRL_STATE == 1 && sp.dst == u then 4
    else if g == 0xF then 3
    else if s.flag (Reg.CH_WB_STATUS g) F.CH_WB_STATUS_ABSENT then 5
    else if s.flag (Reg.CH_CTRL u) F.CH_CTRL_EN then 2 else 1
  st + (if (s.unit u).passes.any (fun x => x.arr == 0) then 256 else 0) +
    (if (s.unit u).passes.any (fun x => x.arr == 1) then 512 else 0)

end Sys2Proof.Machine
end

