-- ==== Sys2Proof/Machine/Crypto.lean ====
section
/-! DEFINITION. The hash and the checks that the spec names and defines elsewhere: SHA-384 (FIPS 180-4, PRESUMED) and
CRC-32C (11 R327). -/

namespace Sys2Proof.Machine

/-- The first 64 bits of the fractional parts of the cube roots of eight primes, from the `k`-th group of eight of the first
eighty, in one number: the round constants of SHA-384. -/
def shaRoots : Nat → Nat
  | 0 => 0x428a2f98d728ae227137449123ef65cdb5c0fbcfec4d3b2fe9b5dba58189dbbc3956c25bf348b53859f111f1b605d019923f82a4af194f9bab1c5ed5da6d8118
  | 1 => 0xd807aa98a303024212835b0145706fbe243185be4ee4b28c550c7dc3d5ffb4e272be5d74f27b896f80deb1fe3b1696b19bdc06a725c71235c19bf174cf692694
  | 2 => 0xe49b69c19ef14ad2efbe4786384f25e30fc19dc68b8cd5b5240ca1cc77ac9c652de92c6f592b02754a7484aa6ea6e4835cb0a9dcbd41fbd476f988da831153b5
  | 3 => 0x983e5152ee66dfaba831c66d2db43210b00327c898fb213fbf597fc7beef0ee4c6e00bf33da88fc2d5a79147930aa72506ca6351e003826f142929670a0e6e70
  | 4 => 0x27b70a8546d22ffc2e1b21385c26c9264d2c6dfc5ac42aed53380d139d95b3df650a73548baf63de766a0abb3c77b2a881c2c92e47edaee692722c851482353b
  | 5 => 0xa2bfe8a14cf10364a81a664bbc423001c24b8b70d0f89791c76c51a30654be30d192e819d6ef5218d69906245565a910f40e35855771202a106aa07032bbd1b8
  | 6 => 0x19a4c116b8d2d0c81e376c085141ab532748774cdf8eeb9934b0bcb5e19b48a8391c0cb3c5c95a634ed8aa4ae3418acb5b9cca4f7763e373682e6ff3d6b2b8a3
  | 7 => 0x748f82ee5defb2fc78a5636f43172f6084c87814a1f0ab728cc702081a6439ec90befffa23631e28a4506cebde82bde9bef9a3f7b2c67915c67178f2e372532b
  | 8 => 0xca273eceea26619cd186b8c721c0c207eada7dd6cde0eb1ef57d4f7fee6ed17806f067aa72176fba0a637dc5a2c898a6113f9804bef90dae1b710b35131c471b
  | _ => 0x28db77f523047d8432caab7b40c724933c9ebe0a15c9bebc431d67c49c100d4c4cc5d4becb3e42b6597f299cfc657e2a5fcb6fab3ad6faec6c44198c4a475817

/-- Eight words of a number, the most significant first. -/
def eightWords (v : Nat) : List Word := (List.range 8).map (fun i => BitVec.ofNat 64 (v >>> (448 - 64 * i)))

/-- The eighty round constants of SHA-384. -/
def shaK : List Word := (List.range 10).flatMap (fun k => eightWords (shaRoots k))

/-- The exclusive or of a word's rotations. -/
def xorRot (x : Word) (l : List Nat) : Word := l.foldl (fun y r => y ^^^ x.rotateRight r) 0

/-- The message schedule extended `n` times; the newest word stands first. -/
def shaExtend : Nat → List Word → List Word
  | 0, w => w
  | n + 1, w =>
    let far := w.getD 14 0
    let near := w.getD 1 0
    let new := w.getD 15 0 + (xorRot far [1, 8] ^^^ far >>> 7) + w.getD 6 0 + (xorRot near [19, 61] ^^^ near >>> 6)
    shaExtend n (new :: w)

/-- The compression's two recurrences, each by its last four terms, the newest first. -/
structure ShaTerms where
  as : List Word
  es : List Word
  deriving DecidableEq, Repr

/-- One round: the next term of each recurrence, with the sum of the round's constant and schedule word. -/
def ShaTerms.next (v : ShaTerms) (kw : Word) : ShaTerms :=
  let a (i : Nat) : Word := v.as.getD i 0
  let e (i : Nat) : Word := v.es.getD i 0
  let choice := (e 0 &&& (e 1 ^^^ e 2)) ^^^ e 2
  let majority := (a 0 &&& (a 1 ||| a 2)) ||| (a 1 &&& a 2)
  let t := kw + choice + xorRot (e 0) [14, 18, 41] + e 3
  { as := (majority + xorRot (a 0) [28, 34, 39] + t) :: v.as.take 3, es := (a 3 + t) :: v.es.take 3 }

/-- The hash value, eight words, after one block of 128 bytes. -/
def shaBlock (h : List Word) (blk : List Byte) : List Word :=
  let first := (List.range 16).map (fun i => BitVec.ofNat 64 (beNat ((blk.drop (8 * i)).take 8)))
  let w := (shaExtend 64 first.reverse).reverse
  let v := (shaK.zip w).foldl (fun (v : ShaTerms) x => v.next (x.1 + x.2)) ⟨h.take 4, h.drop 4⟩
  (h.zip (v.as ++ v.es)).map (fun x => x.1 + x.2)

/-- The hash value after n blocks. -/
def shaBlocks : Nat → List Word → List Byte → List Word
  | 0, h, _ => h
  | n + 1, h, bs => shaBlocks n (shaBlock h (bs.take 128)) (bs.drop 128)

/-- The first hash value of SHA-384: the square roots of the ninth to the sixteenth prime, as the constants. -/
def shaInit : List Word :=
  eightWords 0xcbbb9d5dc1059ed8629a292a367cd5079159015a3070dd17152fecd8f70e593967332667ffc00b318eb44a8768581511db0c2e0d64f98fa747b5481dbefa4fa4

/-- SHA-384 of a byte string: 48 bytes. -/
def sha384 (bs : List Byte) : List Byte :=
  let n := bs.length
  let zeros := (239 - n % 128) % 128
  let msg := bs ++ 0x80 :: List.replicate zeros 0 ++ beBytes 16 (8 * n)
  ((shaBlocks (msg.length / 128) shaInit msg).take 6).flatMap (fun w => beBytes 8 w.toNat)

/-- One bit of CRC-32C, bits taken least significant first, polynomial 0x1EDC6F41 reflected (R327). -/
def crcBits : Nat → Nat → Nat
  | 0, c => c
  | n + 1, c => crcBits n (if c % 2 = 1 then (c / 2) ^^^ 0x82F63B78 else c / 2)

/-- CRC-32C of a byte string (R327). -/
def crc32c (bs : List Byte) : Nat :=
  (bs.foldl (fun c b => crcBits 8 (c ^^^ b.toNat)) 0xFFFFFFFF) ^^^ 0xFFFFFFFF

end Sys2Proof.Machine
end

