-- ==== Sys2Proof/Machine/Weights.lean ====
section
/-! DEFINITION. The weight store: window accesses and their holds, SYNC, RESTORE, the exchange and its lock, zeroing; and
the takeover and reinstatement of spare Churn units (05). -/

namespace Sys2Proof.Machine

/-! ## Windows and holds (R143 to R146, R150 to R154) -/

/-- The runtime state of group `g`'s weight window. -/
def State.grp (s : State) (g : Nat) : GroupRt := SMap.get {} s.groups g
/-- The state with group `g`'s runtime state replaced by its image under `f`. -/
def State.updGrp (s : State) (g : Nat) (f : GroupRt → GroupRt) : State := { s with groups := SMap.upd {} s.groups g f }

/-- The units whose segments a write to group `g`'s window reaches: the bound unit, and a prepared spare (R164). -/
def State.windowUnits (s : State) (g : Nat) : List Nat :=
  let sp := s.spareRt (g / 3)
  s.groupUnit g ::
    (if s.fld (Reg.CH_SPARE_CTRL (g / 3)) F.CH_SPARE_CTRL_STATE == 1 && sp.ready && sp.group == g then [sp.dst] else [])

/-- The bits that the store keeps of word `i`: reserved bits stay 0 (R146, R147). -/
def weightMask (i : Nat) : Word := if i < 1024 then 0xBFFFBFFFBFFFBFFF else 0x0003FFFF0003FFFF

/-- The group's accesses are held: its lock, SYNC, RESTORE or zeroing is in progress (R153, R154, R158, R160). -/
def State.windowBusy (s : State) (g : Nat) : Bool :=
  let r := s.grp g
  r.lockCore.isSome || r.syncEnd.isSome || r.restEnd.isSome || r.restOk || (s.unit (s.groupUnit g)).zeroEnd.isSome

/-- The group is bound to an accepted commit. -/
def State.wbPending (s : State) (g : Nat) : Bool := s.flag (Reg.CH_WB_STATUS g) F.CH_WB_STATUS_PENDING

/-- The bytes of word `i` that a write of `data` at offset `off` covers, by byte. -/
def coverOf (off i : Nat) (data : List (Option Byte)) : List (Option Byte) :=
  (List.range 8).map (fun j => if 8 * i + j < off then none else data.getD (8 * i + j - off) none)

/-- The words that a write of `data` at offset `off` reaches. -/
def wordsReached (off : Nat) (data : List (Option Byte)) : List Nat :=
  if data.isEmpty then [] else (List.range ((off + data.length - 1) / 8 - off / 8 + 1)).map (off / 8 + ·)

/-- A word with its covered bytes replaced (R186). -/
def mergeWord (old : Word) (c : List (Option Byte)) : Word :=
  BitVec.ofNat 64 (leNat ((List.range 8).map (fun j => (c.getD j none).getD (BitVec.ofNat 8 (wbits old (8 * j + 7) (8 * j))))))

/-- A write meets a poisoned word that it covers only in part (R187). -/
def partPoison (bad : List Nat) (off : Nat) (data : List (Option Byte)) : Bool :=
  (wordsReached off data).any (fun i =>
    let c := coverOf off i data
    bad.contains i && c.any (·.isSome) && c.any (·.isNone))

/-- The words of a unit's shadow half written, where none is poisoned and partly covered (R144, R146, R186). -/
def UnitRt.writeShadow (r : UnitRt) (off : Nat) (data : List (Option Byte)) : UnitRt :=
  if partPoison r.shaBad off data then r
  else
    (wordsReached off data).foldl (fun r i =>
      let c := coverOf off i data
      { r with shadow := SMap.put 0 r.shadow i (mergeWord (SMap.get 0 r.shadow i) c &&& weightMask i),
               shaBad := if c.all (·.isSome) then r.shaBad.filter (fun j => j != i) else r.shaBad }) r

/-- The words of the rows that a write touches whose old contents it needs: those it does not cover whole (R186). -/
def wordsKept (off : Nat) (data : List (Option Byte)) : List Nat :=
  ((wordsReached off data).flatMap (fun i => (List.range 4).map (4 * (i / 4) + ·))).filter (fun i =>
    !(wordsReached off data).contains i || (coverOf off i data).any (·.isNone))

/-- Errors met in words `is` of group `g`'s shadow half: the uncorrectable ones poison their words, and each is counted
(R144, R186). -/
def State.shadowErrors (s : State) (g : Nat) (is : List Nat) (hits : List EccHit) : State :=
  let hs := hits.filter (fun h => h.pail == shadowHit g && is.contains h.word)
  let bad := (s.unit (s.groupUnit g)).shaBad
  let new := ((hs.filter (·.unc)).map (·.word)).filter (fun i => !bad.contains i)
  let s := (hs.filter (fun h => !h.unc && !bad.contains h.word)).foldl (fun s _ => s.cnt (Reg.CH_WB_CECC g)) s
  let s := new.foldl (fun s _ => (s.cnt (Reg.CH_WB_UECC g)).evUm 6) s
  if new.isEmpty then s else s.updUnit (s.groupUnit g) (fun r => { r with shaBad := new.foldl insNat r.shaBad })

/-- A write to the group's shadow half; the Boolean says that it was dropped for a poisoned word (R144, R150, R187). -/
def State.shadowWrite (s : State) (g off : Nat) (data : List (Option Byte)) (hits : List EccHit) : State × Bool :=
  let s := s.shadowErrors g (wordsKept off data) hits
  let u := s.groupUnit g
  if partPoison (s.unit u).shaBad off data then
    (((s.cnt (Reg.CH_WB_PDROP g)).evUm 6), true)
  else
    let s := (s.windowUnits g).foldl (fun s u => s.updUnit u (fun r => r.writeShadow off data)) s
    let s := s.setFld (Reg.CH_WB_STATUS g) F.CH_WB_STATUS_DIRTY 1
    let is := wordsReached off data
    (s.mirrorWords is.length 2 g (off / 8) (is.map (fun i => SMap.get 0 (s.unit u).shadow i)), false)

/-- The words of a half that hold the `len` bytes at offset `off`. -/
def wordsRead (off len : Nat) : List Nat :=
  if len = 0 then [] else (List.range ((off + len - 1) / 8 - off / 8 + 1)).map (off / 8 + ·)

/-- Bytes of the group's shadow half, and whether a poisoned word is among them (R143, R185). -/
def State.shadowBytes (s : State) (g off len : Nat) : List Byte × Bool :=
  let r := s.unit (s.groupUnit g)
  let is := wordsRead off len
  let bs := bytesOfWords (is.map (fun i => if r.shaBad.contains i then 0 else SMap.get 0 r.shadow i))
  ((bs.drop (off % 8)).take len, is.any (fun i => r.shaBad.contains i))

/-- A read of the group's shadow half: the errors that it meets are counted, those of words already poisoned with them
(R144, R185). -/
def State.shadowRead (s : State) (g off len : Nat) (hits : List EccHit) : State × List Byte × Bool :=
  let is := wordsRead off len
  let old := is.filter ((s.unit (s.groupUnit g)).shaBad.contains ·)
  let s := old.foldl (fun s _ => (s.cnt (Reg.CH_WB_UECC g)).evUm 6) s
  let s := s.shadowErrors g is hits
  (s, s.shadowBytes g off len)

/-- Umger's write to a group's shadow half; the Boolean says that a poisoned word dropped it (R144, R152). -/
def State.umShadow (s : State) (g off : Nat) (data : List Byte) (hits : List EccHit) : State × Bool :=
  if s.wbPending g then (s.cnt (Reg.CH_WB_DROP g), false) else s.shadowWrite g off (data.map some) hits

/-- An access to group `g`'s window takes place (R152 to R154, R185, R187). -/
def State.doAccess (s : State) (g : Nat) (a : WbAccess) : State :=
  let pend := s.wbPending g
  match a with
  | .write m off data hits =>
    if pend then s.cnt (Reg.CH_WB_DROP g)
    else
      let (s, bad) := s.shadowWrite g off data hits
      match m, bad with
      | some m, true => s.aerUnc m aerInternal []
      | _, _ => s
  | .read m off len hits =>
    let (s, bs, bad) := s.shadowRead g off len hits
    if bad then (s.aerUnc m aerInternal []).emit (.cplEp m bs) else s.emit (.cpl m 0 bs)
  | .sync =>
    if pend then s.cnt (Reg.CH_WB_DROP g)
    else (s.updGrp g (fun r => { r with syncEnd := some (s.coreNow + 16384) })).setFld (Reg.CH_WB_STATUS g)
      F.CH_WB_STATUS_SYNC_BUSY 1
  | .umRead h op off len got more hits =>
    let (s, bs, bad) := s.shadowRead g off len hits
    if bad then s.refuse h op stMemPoison
    else if more = 0 then s.reply h op stOK (got ++ bs)
    else if s.windowBusy (g + 1) || !(s.grp (g + 1)).held.isEmpty then
      s.updGrp (g + 1) (fun r => { r with held := r.held ++ [.umRead h op 0 more (got ++ bs) 0 hits] })
    else
      let (s, cs, bad) := s.shadowRead (g + 1) 0 more hits
      if bad then s.refuse h op stMemPoison else s.reply h op stOK (got ++ bs ++ cs)
  | .umWrite h op off data more hits =>
    let (s, bad) := s.umShadow g off data hits
    if bad then s.refuse h op stMemPoison
    else if more.isEmpty then s.reply h op stOK []
    else if !(s.wbPending (g + 1)) && (s.windowBusy (g + 1) || !(s.grp (g + 1)).held.isEmpty) then
      s.updGrp (g + 1) (fun r => { r with held := r.held ++ [.umWrite h op 0 more [] hits] })
    else
      let (s, bad) := s.umShadow (g + 1) 0 more hits
      if bad then s.refuse h op stMemPoison else s.reply h op stOK []
  | .restore h =>
    if pend then
      let s := s.cnt (Reg.CH_WB_DROP g)
      match h with
      | some h => s.final h 0x0503 stWbRestoreFail noDetail []
      | none => s
    else s.updGrp g (fun r => { r with restEnd := some (s.coreNow + 65536), restHdr := h })

/-- Held accesses complete in order until one starts another hold (R153). -/
def State.drainHeld : State → Nat → List WbAccess → State
  | s, g, [] => s.updGrp g (fun r => { r with held := [] })
  | s, g, a :: as =>
    if s.windowBusy g then s.updGrp g (fun r => { r with held := a :: as })
    else (s.doAccess g a).drainHeld g as

/-- An access arrives at group `g`'s window: discarded while the group is PENDING, held during a hold, or done at once. -/
def State.access (s : State) (g : Nat) (a : WbAccess) : State :=
  let isRead := match a with | .read .. => true | .umRead .. => true | _ => false
  if !(s.wbPending g && !isRead) && (s.windowBusy g || !(s.grp g).held.isEmpty) then
    s.updGrp g (fun r => { r with held := r.held ++ [a] })
  else s.doAccess g a

/-- Accesses held behind a hold that has ended. -/
def State.releaseHeld (s : State) (g : Nat) : State := s.drainHeld g (s.grp g).held

/-- A permitted write of link `m` to group `g`'s window (R145, R152, R407); there is no window beyond group 11's. -/
def State.windowWrite (s : State) (m g off : Nat) (data : List (Option Byte)) (hits : List EccHit) : State :=
  if 12 ≤ g then s
  else if s.on (domC (s.groupUnit g)) = false then s.aerTlp m aerUr
  else if s.isTarget then s
  else s.access g (.write (some m) off data hits)

/-- WEIGHT_WINDOW_WRITE (R143, R145, R150, R152, R321, R407): a write through the manager link; through any other link, or on
a sync target or standby, it is discarded; to a group whose unit is down, or of more than 512 bytes or across a 4 KiB boundary,
it is an Unsupported Request. -/
def execWeightWindowWrite (m : HLink) (g : Group) (off : Nat) (data : List (Option Byte)) (s : State) (hits : List EccHit := []) :
    Res :=
  let at_ := g.val * 0x100000 + off
  if 512 < data.length ∨ 4096 < at_ % 4096 + data.length then .next (s.aerTlp m aerUr)
  else if m.val ≠ s.mgr ∨ data.isEmpty = true then .next s
  else .next (s.windowWrite m (at_ / 0x100000) (at_ % 0x100000) data hits)

/-- A SYNC request of a group (R152, R154), mirrored to a twin (R418). -/
def State.wbSync (s : State) (g : Nat) : State := (s.mirrorGen 4 g).access g .sync

/-- WB_CTRL_SYNC: the write of CH_WB_CTRL.SYNC. -/
def execWbCtrlSync (g : Group) (s : State) : Res := .next (s.wbSync g)

/-- The active half copied into the shadow half, poison and all (R154). -/
def UnitRt.syncHalves (r : UnitRt) : UnitRt := { r with shadow := r.active, shaBad := r.actBad }

/-- WB_SYNC_COMPLETE (R154): 16,384 core cycles after its start the copy ends, DIRTY clears, and held accesses complete. -/
def execWbSyncComplete (g : Group) (s : State) : Res :=
  match (s.grp g).syncEnd with
  | some c =>
    if c ≤ s.coreNow then
      let s := (s.windowUnits g).foldl (fun s u => s.updUnit u UnitRt.syncHalves) s
      let s := (s.setFld (Reg.CH_WB_STATUS g) F.CH_WB_STATUS_DIRTY 0).setFld (Reg.CH_WB_STATUS g) F.CH_WB_STATUS_SYNC_BUSY 0
      .next ((s.updGrp g (fun r => { r with syncEnd := none })).releaseHeld g)
    else .next s
  | none => .next s

/-- The 1 MiB of a half in word order (R151). -/
def halfBytes (half : SMap Word) : List Byte := (List.range 131072).flatMap (fun i => leBytes 8 (SMap.get 0 half i).toNat)

/-- A unit's halves exchange roles (R150). -/
def UnitRt.swapHalves (r : UnitRt) : UnitRt :=
  { r with active := r.shadow, actBad := r.shaBad, shadow := r.active, shaBad := r.actBad }

/-- The exchange of a PENDING group at its commit: its digest is in force, and the new shadow half is locked while a pass
that began before is in flight (R150, R151, R153, R160). -/
def State.exchange (s : State) (g : Nat) (digest : List Byte) : State :=
  let s := (s.windowUnits g).foldl (fun s u => s.updUnit u UnitRt.swapHalves) s
  let k := Reg.CH_WB_STATUS g
  let s := ((s.setFld k F.CH_WB_STATUS_DIRTY 0).setFld k F.CH_WB_STATUS_PENDING 0).setFld k F.CH_WB_STATUS_ABSENT 0
  let s := s.wrWide (Reg.CH_WB_DIGEST g) (wordsOf 6 digest)
  let core := s.startCore
  let busy := (s.unit (s.groupUnit g)).passes.any (fun x => decide (x.start < core))
  let s := s.setFld k F.CH_WB_STATUS_LOCK (if busy then 1 else 0)
  s.updGrp g (fun r => { r with exchanged := true, lockCore := if busy then some core else none })

/-- WB_CTRL_RESTORE (R160): the write of CH_WB_CTRL.RESTORE. -/
def execWbCtrlRestore (g : Group) (s : State) : Res := .next ((s.mirrorGen 5 g).access g (.restore none))

/-- The exchange of a RESTORE whose digest matched (R160). -/
def State.restoreExchange (s : State) (g : Nat) : State :=
  let h := (s.grp g).restHdr
  let s := (s.windowUnits g).foldl (fun s u => s.updUnit u UnitRt.swapHalves) s
  let k := Reg.CH_WB_STATUS g
  let s := ((s.setFld k F.CH_WB_STATUS_DIRTY 0).setFld k F.CH_WB_STATUS_ABSENT 0).setFld k F.CH_WB_STATUS_RESTORE_FAIL 0
  let s := s.updGrp g (fun r => { r with exchanged := true, restOk := false, restHdr := none })
  let s := match h with
    | some h => s.final h 0x0503 stOK noDetail []
    | none => s
  s.releaseHeld g

/-- WB_RESTORE_COMPLETE (R160): 65,536 core cycles after its start the hash is compared with CH_WB_DIGEST. -/
def execWbRestoreComplete (g : Group) (s : State) : Res :=
  match (s.grp g).restEnd with
  | some c =>
    if c ≤ s.coreNow then
      let u := s.groupUnit g
      let s := s.updGrp g (fun r => { r with restEnd := none })
      if sha384 (halfBytes (s.unit u).shadow) = s.rdWide (Reg.CH_WB_DIGEST g) then
        let s := s.updGrp g (fun r => { r with restOk := true })
        .next (if (s.unit u).passes.isEmpty then s.restoreExchange g else s)
      else
        let h := (s.grp g).restHdr
        let s := s.setFld (Reg.CH_WB_STATUS g) F.CH_WB_STATUS_RESTORE_FAIL 1
        let s := (s.logKind 0x06 g).updGrp g (fun r => { r with restHdr := none })
        let s := match h with
          | some h => s.final h 0x0503 stWbRestoreFail noDetail []
          | none => s
        .next (s.releaseHeld g)
    else .next s
  | none => .next s

/-- WB_RESTORE_EXCHANGE (R160): the first cycle in which no pass of the unit is in flight. -/
def execWbRestoreExchange (g : Group) (s : State) : Res :=
  if (s.grp g).restOk && (s.unit (s.groupUnit g)).passes.isEmpty then .next (s.restoreExchange g) else .next s

/-- WEIGHT_LOCK_END (R153): every pass that began before the exchange has committed. -/
def execWeightLockEnd (g : Group) (s : State) : Res :=
  match (s.grp g).lockCore with
  | some c =>
    if (s.unit (s.groupUnit g)).passes.all (fun x => decide (c ≤ x.start)) then
      .next (((s.setFld (Reg.CH_WB_STATUS g) F.CH_WB_STATUS_LOCK 0).updGrp g (fun r => { r with lockCore := none })).releaseHeld g)
    else .next s
  | none => .next s

/-- Zeroing of a unit's segment begins at its power-up (R158). -/
def State.startZeroing (s : State) (u : Nat) : State :=
  let s := s.updUnit u (fun r => { r with zeroEnd := some (s.coreNow + 16384), active := [], actBad := [], shadow := [],
                                          shaBad := [], passes := [] })
  if s.unitGroup u < 12 then s.setFld (Reg.CH_WB_STATUS (s.unitGroup u)) F.CH_WB_STATUS_ZEROING 1 else s

/-- WEIGHT_ZEROING_COMPLETE (R158, R159): 16,384 core cycles after power-up; WEIGHTS_ABSENT is entered where an exchange
came before. -/
def execWeightZeroingComplete (u : ChUnit) (s : State) : Res :=
  match (s.unit u).zeroEnd with
  | some c =>
    if c ≤ s.coreNow then
      let s := s.updUnit u (fun r => { r with zeroEnd := none })
      let g := s.unitGroup u
      if g < 12 then
        let k := Reg.CH_WB_STATUS g
        let s := s.setFld k F.CH_WB_STATUS_ZEROING 0
        let s := if (s.grp g).exchanged then (s.setFld k F.CH_WB_STATUS_ABSENT 1).evCh u 2 else s
        .next (s.releaseHeld g)
      else .next s
    else .next s
  | none => .next s

/-- The binding of R118 in quadrant `q`, whatever takeover came before: a unit that is bound again is zeroed, for its segment is
not its group's (R118, R158, R167). -/
def State.rebind (s : State) (q : Nat) : State :=
  let moved := (List.range 3).filter (fun j => s.unitGroup (4 * q + j) != 3 * q + j)
  let s := (List.range 3).foldl (fun s j =>
    ((s.setFld (Reg.CH_ID (4 * q + j)) F.CH_ID_GROUP (3 * q + j)).setFld (Reg.CH_ID (4 * q + j)) F.CH_ID_SPARE 0).setFld
      (Reg.CH_WB_STATUS (3 * q + j)) F.CH_WB_STATUS_UNIT (4 * q + j)) s
  let s := (s.setFld (Reg.CH_ID (4 * q + 3)) F.CH_ID_GROUP 0xF).setFld (Reg.CH_ID (4 * q + 3)) F.CH_ID_SPARE 1
  let s := (s.setFld (Reg.CH_SPARE_CTRL q) F.CH_SPARE_CTRL_STATE 0).setFld (Reg.CH_SPARE_CTRL q) F.CH_SPARE_CTRL_SPARE_UNIT (4 * q + 3)
  let s := (List.range 4).foldl (fun s j => s.updUnit (4 * q + j) (fun r => { r with retired := false })) s
  let s := moved.foldl (fun s j => if s.on (domC (4 * q + j)) then s.startZeroing (4 * q + j) else s) s
  let h := (s.spareRt q).testHdr
  let s := s.updSpare q (fun _ => {})
  match h with
  | some h => s.final h 0x0505 stSpareRefused noDetail (leBytes 1 (s.fld (Reg.CH_SPARE_LOG q) F.CH_SPARE_LOG_RESULT))
  | none => s

/-! ## Spare takeover (R162 to R167) -/

/-- CH_SPARE_LOGq.RESULT set. -/
def State.spareResult (s : State) (q code : Nat) : State := s.setFld (Reg.CH_SPARE_LOG q) F.CH_SPARE_LOG_RESULT code

/-- The trouble-log entry SPARE_TAKEOVER of a quadrant (R550). -/
def State.logSpare (s : State) (q tl result : Nat) : State :=
  let sp := s.spareRt q
  s.logPut { tl := tlOf tl, stamp := BitVec.ofNat 64 s.aon, source := 0xFFFF, kind := 4, flags := s.logFlags, seq := 0,
             param := BitVec.ofNat 64 (sp.src + sp.dst * 2 ^ 8 + sp.group * 2 ^ 16 + sp.cause * 2 ^ 24 +
               s.fld (Reg.CH_SPARE_LOG q) F.CH_SPARE_LOG_FAULT_CODE * 2 ^ 32 + result * 2 ^ 40) }

/-- A manual takeover requested of quadrant `q`, or refused: the RESULT code, 0 when it is accepted (R163). STATE tells whether a
spare is available, for SPARE_UNIT's code 0xF is also unit 15 (DEDUCED, log 72). -/
def State.spareGo (s : State) (q : Nat) : State × Nat :=
  let k := Reg.CH_SPARE_CTRL q
  let w := s.rdW (Reg.CH_SPARE_AT q)
  let code :=
    if wbits w 24 0 ≠ 0 ∨ !tlValid w ∨ tlDiff (tlCount w) s.now < 65536 then 2
    else if s.fld k F.CH_SPARE_CTRL_STATE ≠ 0 then 3
    else if s.fld k F.CH_SPARE_CTRL_TARGET = 3 then 4 else 0
  if code ≠ 0 then (s.spareResult q code, code)
  else (s.spareDecide q (3 * q + s.fld k F.CH_SPARE_CTRL_TARGET) (tlCount w) 1, 0)

/-- The RW fields that a write of CH_SPARE_CTRLq carries. -/
def State.spareCtrlRw (s : State) (q v : Nat) : State :=
  let k := Reg.CH_SPARE_CTRL q
  ((s.setFld k F.CH_SPARE_CTRL_THRESH (bitsOf v 23 20)).setFld k F.CH_SPARE_CTRL_TARGET (bitsOf v 17 16)).setFld k
    F.CH_SPARE_CTRL_AUTO (v % 2)

/-- SPARE_CTRL_GO (R163): a write of CH_SPARE_CTRLq with GO. -/
def execSpareCtrlGo (q : Quad) (v : BitVec 32) (s : State) : Res :=
  let s := s.spareCtrlRw q v.toNat
  .next (if v.toNat.testBit 31 then (s.spareGo q).1 else s)

/-- The registers of unit `u` that a spare takes: CH_CTRL, contexts, stream entries and calibration registers (R164). -/
def unitRegs (u : Nat) : List Nat :=
  Reg.CH_CTRL u ::
    ((List.range 16).flatMap (fun k => [Reg.CH_UCTX_A u k, Reg.CH_UCTX_B u k, Reg.CH_DCTX_A u k, Reg.CH_DCTX_B u k]) ++
     (List.range 256).flatMap (fun m => [Reg.CH_STR u m, Reg.CH_STRG u m, Reg.CH_CALG u m, Reg.CH_CALD u m]))

/-- SPARE_PREPARATION_DONE (R164): 33,792 core cycles after the spare's release its segment and registers hold what the
failing unit's hold. -/
def execSparePreparationDone (q : Quad) (s : State) : Res :=
  let sp := s.spareRt q
  match sp.begun with
  | some c =>
    if s.fld (Reg.CH_SPARE_CTRL q) F.CH_SPARE_CTRL_STATE == 1 && !sp.ready && decide (c + 33792 ≤ s.coreNow) &&
        s.on (domC sp.dst) then
      let r := s.unit sp.src
      let s := s.updUnit sp.dst (fun d =>
        { d with active := r.active, actBad := r.actBad, shadow := r.shadow, shaBad := r.shaBad, zeroEnd := none })
      let off := Reg.CH_ID sp.dst
      let s := (unitRegs sp.src).foldl (fun s k =>
        let j := k - Reg.CH_ID sp.src + off
        (s.wrG j (s.rdG k)).wrS j (s.rdS k)) s
      .next (s.updSpare q (fun x => { x with ready := true }))
    else .next s
  | none => .next s

/-- SPARE_SWITCH (R165): at F the group moves to the spare, or the switch moves to the next frame boundary. -/
def execSpareSwitch (q : Quad) (s : State) : Res :=
  let sp := s.spareRt q
  let k := Reg.CH_SPARE_CTRL q
  if s.fld k F.CH_SPARE_CTRL_STATE == 1 && tlReached s.now sp.at_ then
    if sp.ready then
      let s := (s.setFld (Reg.CH_ID sp.dst) F.CH_ID_GROUP sp.group).setFld (Reg.CH_ID sp.dst) F.CH_ID_SPARE 0
      let s := (s.setFld (Reg.CH_ID sp.src) F.CH_ID_GROUP 0xF).setFld (Reg.CH_ID sp.src) F.CH_ID_SPARE 0
      let s := s.setFld (Reg.CH_WB_STATUS sp.group) F.CH_WB_STATUS_UNIT sp.dst
      let last := (s.unit sp.src).last
      let s := s.updUnit sp.dst (fun r => { r with last := last })
      let s := (s.setFld k F.CH_SPARE_CTRL_STATE 2).setFld k F.CH_SPARE_CTRL_SPARE_UNIT 0xF
      let j := Reg.CH_SPARE_LOG q
      let s := (((s.setFld j F.CH_SPARE_LOG_CAUSE sp.cause).setFld j F.CH_SPARE_LOG_FROM sp.src).setFld j
        F.CH_SPARE_LOG_TO sp.dst).setFld j F.CH_SPARE_LOG_GROUP sp.group
      .next ((s.spareResult q 1).updSpare q (fun x => { x with moveAt := some s.coreNow }))
    else
      let s := s.updSpare q (fun x => { x with at_ := tlAdd x.at_ (frameTc : Int) })
      .next ((s.spareResult q 5).logSpare q s.now 5)
  else .next s

/-- One counter of the retired unit added to the spare's, saturating (R166). -/
def State.mergeCnt (s : State) (a b max : Nat) : State := s.addCnt b (s.rdW a).toNat max

/-- SPARE_COUNTER_MERGE (R166): F + 448 core cycles. -/
def execSpareCounterMerge (q : Quad) (s : State) : Res :=
  let sp := s.spareRt q
  match sp.moveAt with
  | some c =>
    if c + 448 ≤ s.coreNow then
      let s := (List.range 256).foldl (fun s m =>
        [Reg.CH_CALSAT, Reg.CH_REQSAT, Reg.CH_NAN, Reg.CH_FMTERR, Reg.CH_ABSENT].foldl
          (fun s reg => s.mergeCnt (reg sp.src m) (reg sp.dst m) 0xFFFFFFFF) s) s
      let s := (s.mergeCnt (Reg.CH_BLKCNT_U sp.src) (Reg.CH_BLKCNT_U sp.dst) (ones 48)).mergeCnt
        (Reg.CH_BLKCNT_D sp.src) (Reg.CH_BLKCNT_D sp.dst) (ones 48)
      let s := s.setFld (Reg.CH_SPARE_LOG q) F.CH_SPARE_LOG_FAULT_CODE (s.fld (Reg.CH_FAULT sp.src) F.CH_FAULT_CODE)
      let s := s.updUnit sp.src (fun r => { r with retired := true })
      let s := s.updSpare q (fun x => { x with moveAt := none })
      .next ((s.logSpare q sp.at_ 1).evUm 5)
    else .next s
  | none => .next s

/-- The self-test of quadrant `q`'s retired unit begins (R167); the Boolean says that there is one. -/
def State.reinstate (s : State) (q : Nat) (h : Option UmHdr) : State × Bool :=
  let sp := s.spareRt q
  let k := Reg.CH_SPARE_CTRL q
  if s.fld k F.CH_SPARE_CTRL_STATE == 2 && (s.unit sp.src).retired then
    ((s.setFld k F.CH_SPARE_CTRL_STATE 3).updSpare q (fun x => { x with testEnd := some (s.coreNow + 32768), testHdr := h }), true)
  else (s, false)

/-- SPARE_CTRL_REINSTATE (R167): a write of CH_SPARE_CTRLq with REINSTATE. -/
def execSpareCtrlReinstate (q : Quad) (v : BitVec 32) (s : State) : Res :=
  let s := s.spareCtrlRw q v.toNat
  .next (if v.toNat.testBit 30 then (s.reinstate q none).1 else s)

/-- REINSTATE_TEST_DONE (R167): 32,768 core cycles after its start the test ends. -/
def execReinstateTestDone (q : Quad) (pass : Bool) (s : State) : Res :=
  let sp := s.spareRt q
  match sp.testEnd with
  | some c =>
    if c ≤ s.coreNow then
      let k := Reg.CH_SPARE_CTRL q
      let code := if pass then 6 else 7
      let s := s.updSpare q (fun x => { x with testEnd := none, testHdr := none })
      let s :=
        if pass then
          let s := s.updUnit sp.src (fun r => { r with retired := false })
          let s := s.setFld (Reg.CH_ID sp.src) F.CH_ID_SPARE 1
          (s.setFld k F.CH_SPARE_CTRL_STATE 0).setFld k F.CH_SPARE_CTRL_SPARE_UNIT sp.src
        else s.setFld k F.CH_SPARE_CTRL_STATE 2
      let s := (s.spareResult q code).logSpare q s.now code
      .next (match sp.testHdr with
        | some h => s.final h 0x0505 stOK noDetail [BitVec.ofNat 8 code]
        | none => s)
    else .next s
  | none => .next s

end Sys2Proof.Machine
end

