-- ==== Sys2Proof/Machine/Dma.lean ====
section
/-! DEFINITION. Time-released DMA: descriptors, releases, beats and grants, moving blocks, completion records, retiring and
chaining, stopping, and Bus Master Enable (07). -/

namespace Sys2Proof.Machine

/-! ## Channels and slices -/

/-- The runtime state of channel `c`. -/
def State.chan (s : State) (c : Nat) : ChanRt := SMap.get {} s.chans c
/-- The state with channel `c`'s runtime state replaced by its image under `f`. -/
def State.updChan (s : State) (c : Nat) (f : ChanRt → ChanRt) : State := { s with chans := SMap.upd {} s.chans c f }
/-- The runtime state of slice `sl`. -/
def State.slice (s : State) (sl : Nat) : SliceRt := SMap.get {} s.slices sl
/-- The state with slice `sl`'s runtime state replaced by its image under `f`. -/
def State.updSlice (s : State) (sl : Nat) (f : SliceRt → SliceRt) : State := { s with slices := SMap.upd {} s.slices sl f }

/-- The slice of channel `c` (R194). -/
def State.chSlice (s : State) (c : Nat) : Nat := s.fld (Reg.DMA_OWN c) F.DMA_OWN_SLICE
/-- Slice `sl` is bound. -/
def State.bound (s : State) (sl : Nat) : Bool := s.flag (Reg.SL_BIND sl) F.SL_BIND_EN
/-- The host link of slice `sl`. -/
def State.slLink (s : State) (sl : Nat) : Nat := s.fld (Reg.SL_BIND sl) F.SL_BIND_LINK
/-- The PASID of slice `sl`. -/
def State.slPasid (s : State) (sl : Nat) : Nat := s.fld (Reg.SL_BIND sl) F.SL_BIND_PASID
/-- The PASID that a request of link `m` for slice `sl` carries: none while PASID Enable is clear (R299). -/
def State.pasidOf (s : State) (m sl : Nat) : Option Nat := if (s.link m).pasidEn then some (s.slPasid sl) else none
/-- Slice `sl` is fenced (R371). -/
def State.fenced (s : State) (sl : Nat) : Bool := s.flag (Reg.SL_CTRL sl) F.SL_CTRL_FENCE

/-- A field of DMA_CTRL of channel `c`. -/
def State.ctl (s : State) (c : Nat) (f : Fld) : Nat := s.fld (Reg.DMA_CTRL c) f
/-- A flag of DMA_CTRL of channel `c`. -/
def State.ctlB (s : State) (c : Nat) (f : Fld) : Bool := s.flag (Reg.DMA_CTRL c) f
/-- DMA_STAT.STATE of channel `c` (R221). -/
def State.chRaw (s : State) (c : Nat) : Nat := s.fld (Reg.DMA_STAT c) F.DMA_STAT_STATE
/-- The state of channel `c` with Halted-NoMaster looked through: the state it left, or that its retires reached. -/
def State.chState (s : State) (c : Nat) : Nat :=
  if s.chRaw c = 7 then s.fld (Reg.DMA_STAT c) F.DMA_STAT_PREV else s.chRaw c
/-- Channel `c` is neither Idle nor Error. -/
def State.chBusy (s : State) (c : Nat) : Bool := s.chRaw c != 0 && s.chRaw c != 8
/-- The channel's state moves to `st`; while halted, Error apart, PREV follows instead (R222, R223). -/
def State.setCh (s : State) (c st : Nat) : State :=
  if s.chRaw c = 7 ∧ st ≠ 8 then s.setFld (Reg.DMA_STAT c) F.DMA_STAT_PREV st
  else s.setFld (Reg.DMA_STAT c) F.DMA_STAT_STATE st
/-- START_IGN of channel `c` sets. -/
def State.startIgn (s : State) (c : Nat) : State := s.setW1c (Reg.DMA_STAT c) F.DMA_STAT_START_IGN

/-- The channels whose DMA_STAT is not at its after-reset value, in rising order: every channel that is not Idle is one. -/
def State.liveChans (s : State) : List Nat :=
  s.regs.filterMap (fun e =>
    if Reg.DMA_STAT 0 ≤ e.1 ∧ e.1 < Reg.DMA_STAT 4096 ∧ (e.1 - Reg.DMA_STAT 0) % 0x80 = 0
    then some ((e.1 - Reg.DMA_STAT 0) / 0x80) else none)

/-- The enabled channels of slice `sl` that are not wholly at rest, in rising order. -/
def State.slChans (s : State) (sl : Nat) : List Nat :=
  ((s.chans.map (·.1)).foldl insNat s.liveChans).filter (fun c => s.flag (Reg.DMA_OWN c) F.DMA_OWN_EN && s.chSlice c == sl)

/-- DMA sources (R229): channel `c` sets its bit in DMA_EVGRP. -/
def State.evDma (s : State) (c : Nat) : State :=
  s.occurBit (480 + c / 128) (Reg.DMA_EVGRP (c / 128) (c % 128 / 32)) (c % 32) (some c)

/-- The pail that the descriptor of channel `c` names. -/
def State.chPail (s : State) (c : Nat) : Nat :=
  (if s.ctlB c F.DMA_CTRL_DIR then s.rdW (Reg.DMA_SRC c) else s.rdW (Reg.DMA_DST c)).toNat % 16384
/-- COUNT of channel `c`. -/
def State.chCount (s : State) (c : Nat) : Nat := (s.rdW (Reg.DMA_COUNT c)).toNat
/-- T of channel `c`, as a count. -/
def State.chT (s : State) (c : Nat) : Nat := tlCount (s.rdW (Reg.DMA_RELEASE c))
/-- MOVED and ISSUED of channel `c`. -/
def State.moved (s : State) (c : Nat) : Nat := s.fld (Reg.DMA_PROGRESS c) F.DMA_PROGRESS_MOVED
def State.issued (s : State) (c : Nat) : Nat := s.fld (Reg.DMA_PROGRESS c) F.DMA_PROGRESS_ISSUED

/-- The device is in a mode in which releases are performed (R203). -/
def State.releasing (s : State) : Bool := s.mode == 5 || s.mode == 6 || s.mode == 9

/-- A slice-local vector is signalled (R363): in the Tc of a commit under the new map (R375). -/
def State.slSignal (s : State) (sl v : Nat) : State :=
  let r := SMap.get (rstG (Reg.SL_VECMAP sl)) s.routes (Reg.SL_VECMAP sl)
  if v < F.SL_VECMAP_COUNT.get r then s.signal (s.slLink sl) (F.SL_VECMAP_BASE.get r + v)
  else s.cnt (Reg.SL_IRQDROP sl)

/-- Attributes of a descriptor's data requests: TC, Relaxed Ordering in bit 3, No Snoop in bit 4. -/
def State.chAttr (s : State) (c : Nat) : Nat :=
  s.ctl c F.DMA_CTRL_TC + (if s.ctlB c F.DMA_CTRL_RO then 8 else 0) + (if s.ctlB c F.DMA_CTRL_NS then 16 else 0)

/-! ## Records and retiring (R219, R220, R222) -/

/-- The key of a channel's descriptor fetch among its requests; a read's is the offset of its end. -/
def fetchKey : Nat := 2 ^ 33

/-- The channel's request with key `k` is outstanding. -/
def ChanRt.waits (r : ChanRt) (k : Nat) : Bool := r.reads.any (fun x => x.1 + x.2 == k) || (k == fetchKey && r.fetching)

/-- The 32-byte completion record of the active descriptor of channel `c` (R219). -/
def State.record (s : State) (c code seq : Nat) : List Byte :=
  let r := s.chan c
  let flags := (if r.late ≠ 0 then 1 else 0) + (if r.held then 2 else 0) + (if r.poison then 4 else 0) +
    (if s.ctlB c F.DMA_CTRL_STOP_REQ then 8 else 0) + (if s.moved c < s.chCount c then 16 else 0) + (if r.empty then 32 else 0)
  leBytes 8 (r.first.getD (tlOf s.now)).toNat ++ leBytes 4 (s.rdW (Reg.DMA_TAG c)).toNat ++
    [BitVec.ofNat 8 code, BitVec.ofNat 8 flags] ++ leBytes 2 r.blocks ++ leBytes 4 (s.moved c) ++
    leBytes 4 (min r.late 0xFFFFFFFF) ++ leBytes 4 seq ++ leBytes 4 0

/-- The checks of R199 on the registers of channel `c`: the first code that fails. -/
def State.descCheck (s : State) (c : Nat) : Option Nat :=
  let dir := s.ctlB c F.DMA_CTRL_DIR
  let src := s.rdW (Reg.DMA_SRC c)
  let dst := s.rdW (Reg.DMA_DST c)
  let iova := if dir then dst else src
  let ref := if dir then src else dst
  let n := s.chCount c
  let p := s.chPail c
  let rec_ := s.ctlB c F.DMA_CTRL_RECORD && (s.rdW (Reg.DMA_REC c)).toNat % 32 != 0
  let next_ := s.ctlB c F.DMA_CTRL_CHAIN && (s.rdW (Reg.DMA_NEXT c)).toNat % 64 != 0
  if n = 0 ∨ n % 16 ≠ 0 ∨ iova.toNat % 16 ≠ 0 ∨ 16384 ≤ ref.toNat ∨ rec_ ∨ next_ then some 1
  else if s.ctlB c F.DMA_CTRL_TIMED && !tlValid (s.rdW (Reg.DMA_RELEASE c)) then some 2
  else if s.pailSlice p ≠ s.chSlice c ∨ !s.pailEn p ∨ s.pailRole p ≠ (if dir then 3 else 2) ∨
      s.pailSid p ≠ s.fld (Reg.DMA_FMT c) F.DMA_FMT_STREAM_ID ∨ s.pailFmt p ≠ s.fld (Reg.DMA_FMT c) F.DMA_FMT_FMT then some 3
  else if !dir && decide (s.pailBytes p < n) then some 4
  else none

/-- What a retire leaves of the channel's runtime state: the fetch, and the records of earlier descriptors that wait. -/
def ChanRt.cleared (r : ChanRt) (timed : Bool) : ChanRt :=
  { fetching := r.fetching, fetchAddr := r.fetchAddr, image := r.image, fetchErr := r.fetchErr,
    recs := r.recs.filter (fun x => !x.own), trans := r.trans.filter (fun t => t.1 == fetchKey), untimedLast := !timed }

/-- The requests of the link of channel `c` are stopped (R223). -/
def State.chStopped (s : State) (c : Nat) : Bool := !(s.link (s.slLink (s.chSlice c))).going

/-- The active descriptor of channel `c` is to write a record when it retires with a code (R219, R226): not with LINK_RESET,
nor on a link that is down after a domain's reset, nor where it has no address or has left. -/
def State.wantsRec (s : State) (c code : Nat) : Bool :=
  s.ctlB c F.DMA_CTRL_RECORD && !(s.chan c).recOut && code != 9 && (s.rdW (Reg.DMA_REC c)).toNat % 32 == 0 &&
    (code != 0xA || s.flag (Reg.HL_LINK_STAT (s.slLink (s.chSlice c))) F.HL_LINK_STAT_DLUP)

/-- A record of channel `c` joins those that wait. -/
def State.addRec (s : State) (c : Nat) (r : DmaRec) : State :=
  let s := s.updChan c (fun x => { x with recs := x.recs ++ [r] })
  if s.chStopped c then s.setFld (Reg.DMA_STAT c) F.DMA_STAT_REC_PEND 1 else s

/-- What channel `c` holds of its pail returns: its reservation and its blocks in progress (R205, R207, R225). -/
def State.dropWork (s : State) (c : Nat) : State :=
  s.updPail (s.chPail c) (fun q =>
    { q with resv := q.resv.filter (fun e => e.1 != c),
             arrivals := q.arrivals.filter (fun a => match a.writer with | .chan d => d.val != c | .port _ => true) })

/-- The retire of the active descriptor of channel `c` with a code, up to the next state (R200, R205, R219, R220). -/
def State.retireBase (s : State) (c code : Nat) : State :=
  let r := s.chan c
  let sl := s.chSlice c
  let seq := ((s.rdW (Reg.DMA_RETIRED c)).toNat + 1) % 2 ^ 32
  let want := s.wantsRec c code
  let irq := if s.ctlB c F.DMA_CTRL_IRQ && code != 9 then some (s.ctl c F.DMA_CTRL_IRQV) else none
  let body := s.record c code seq
  let s := s.wrW (Reg.DMA_RETIRED c) (BitVec.ofNat 64 seq)
  let k := Reg.DMA_STAT c
  let s := s.setFld k F.DMA_STAT_CODE code
  let s := s.setFld k F.DMA_STAT_LATE (if r.late ≠ 0 then 1 else 0)
  let s := s.setFld k F.DMA_STAT_HELD (if r.held then 1 else 0)
  let s := s.setFld k F.DMA_STAT_POISON (if r.poison then 1 else 0)
  let s := s.setFld k F.DMA_STAT_EMPTY (if r.empty then 1 else 0)
  let s := s.wrW (Reg.DMA_LATENESS c) (BitVec.ofNat 64 (min r.late 0xFFFFFFFF))
  let timed := s.ctlB c F.DMA_CTRL_TIMED
  let s := (s.dropWork c).updChan c (fun r => r.cleared timed)
  let s :=
    if want then s.addRec c ⟨s.rdW (Reg.DMA_REC c), body, s.ctl c F.DMA_CTRL_TC, irq, false⟩
    else
      match irq with
      | some v => s.slSignal sl v
      | none => s
  let s := if irq.isSome && s.chStopped c then s.setFld k F.DMA_STAT_IRQ_PEND 1 else s
  let s := if r.late ≠ 0 ∨ (0x20 ≤ code ∧ code ≤ 0x26) ∨ (1 ≤ code ∧ code ≤ 0xC) then s.evDma c else s
  let s := if 0x20 ≤ code ∧ code ≤ 0x26 then s.evTl 8 else s
  let s := if code = 2 then s.evTl 10 else s
  s.updTw (fun t => { t with dirty := insNat t.dirty c })

/-- No fetch is outstanding or held: what is still on its way is discarded when it arrives (R215). -/
def ChanRt.noFetch (r : ChanRt) : ChanRt := { r with image := none, fetchErr := false, fetching := false }

/-- STOP_REQ takes effect: Idle, STOPPED, and any image fetched is discarded (R215). -/
def State.stopCh (s : State) (c : Nat) : State :=
  let s := s.setFld (Reg.DMA_CTRL c) F.DMA_CTRL_STOP_REQ 0
  let s := s.setFld (Reg.DMA_STAT c) F.DMA_STAT_STOPPED 1
  (s.updChan c ChanRt.noFetch).setCh c 0

/-- The channel's state becomes Error: the chain ends there, with any fetch, and STOP_REQ is cleared (R200, R215, R222). -/
def State.toError (s : State) (c : Nat) : State :=
  ((s.setFld (Reg.DMA_CTRL c) F.DMA_CTRL_STOP_REQ 0).updChan c ChanRt.noFetch).setCh c 8

/-- The channel enters Error with a code, where no descriptor retires (R217, R225). -/
def State.errCh (s : State) (c code : Nat) : State :=
  ((s.setFld (Reg.DMA_STAT c) F.DMA_STAT_CODE code).toError c).evDma c

/-- The next state after a retire with a code, where no fetched image waits (R222). -/
def State.chainNext (s : State) (c code : Nat) : State :=
  if 1 ≤ code ∧ code ≤ 0xC then s.toError c
  else if s.ctlB c F.DMA_CTRL_STOP_REQ then s.stopCh c
  else if s.ctlB c F.DMA_CTRL_CHAIN = false then s.setCh c 0
  else if (s.chan c).fetchErr then s.errCh c 7
  else s.setCh c 5

/-- A domain that the descriptor of channel `c` touches is not ready (R205, R227). -/
def State.domWait (s : State) (c : Nat) : Bool :=
  let b := s.pailBank (s.chPail c)
  !(s.on (domH (s.slLink (s.chSlice c) / 4)) && s.on (domV b) && s.on 3) || (s.bank b).init

/-- The longest run of whole blocks from the front whose padded sizes fit in `n` bytes (R208). -/
def fitRun : Nat → List Block → List Block
  | _, [] => []
  | n, b :: bs => if b.size ≤ n then b :: fitRun (n - b.size) bs else []

/-- The pail of channel `c`'s descriptor is its slice's: an access from another slice never reaches a pail (R175). -/
def State.ownPail (s : State) (c : Nat) : Bool := s.pailSlice (s.chPail c) == s.chSlice c

/-- Every domain that channel `c` touches is ready, and room is reserved for a DIR 0 one where it is free (R205, R228). -/
def State.tryRoom (s : State) (c : Nat) : State :=
  let p := s.chPail c
  let n := s.chCount c
  if s.domWait c then s.updChan c (fun r => { r with waited := true, waitDom := true })
  else if s.ctlB c F.DMA_CTRL_DIR then s.updChan c (fun r => { r with roomAt := some s.coreNow })
  else if s.pailFree p < n ∨ s.ownPail c = false then s.updChan c (fun r => { r with waited := true, waitDom := false })
  else (s.updPail p (fun q => { q with resv := q.resv ++ [(c, n)] })).updChan c (fun r => { r with roomAt := some s.coreNow })

/-- The chain of channel `c` starts: votes, and room or the snapshot (R201, R205, R208, R227). -/
def State.beginChain (s : State) (c : Nat) : State :=
  let s := s.updChan c (fun r => { r with begun := true, beginAt := s.coreNow })
  if s.ctlB c F.DMA_CTRL_DIR then
    let bs := (s.pail (s.chPail c)).blocks.filter (fun b => !b.fin && decide (b.tc < s.ticks))
    let run := if s.ownPail c then fitRun (s.chCount c) bs else []
    (s.updChan c (fun r => { r with snap := run, empty := run.isEmpty })).tryRoom c
  else s.tryRoom c

/-- C of R201, core cycles. -/
def State.chC (s : State) (c : Nat) : Nat := if s.ctlB c F.DMA_CTRL_DIR then 72 else 24
/-- S of a timed descriptor (R201). -/
def State.chS (s : State) (c : Nat) : Nat :=
  tlAdd (s.chT c) (-((s.chC c + s.fld (Reg.TL_LEAD_HL (s.slLink (s.chSlice c))) F.TL_LEAD_HL_LEAD : Nat) : Int))
/-- The lateness projected without stretch exceeds TL_LATE_LIMIT (R81, R202). -/
def State.tooLate (s : State) (c : Nat) : Bool :=
  decide ((s.fld Reg.TL_LATE_LIMIT F.TL_LATE_LIMIT_LIMIT : Int) < tlDiff (tlAdd s.now (s.chC c : Int)) (s.chT c))

/-- A descriptor becomes active: DONE clears and its progress starts at 0 (R218). -/
def State.fresh1 (s : State) (c : Nat) : State :=
  (s.setFld (Reg.DMA_STAT c) F.DMA_STAT_DONE 0).wrW (Reg.DMA_PROGRESS c) 0

/-- A descriptor that has passed its checks becomes active (R198, R202, R204, R218, R222). -/
def State.goActive (s : State) (c : Nat) : State :=
  let s := s.fresh1 c
  if s.ctlB c F.DMA_CTRL_TIMED then
    let s := s.setCh c 1
    if tlReached s.now (s.chS c) then
      if s.tooLate c then (s.retireBase c 0x22).chainNext c 0x22 else s.beginChain c
    else s
  else if s.releasing = false then (s.retireBase c 0x25).chainNext c 0x25
  else
    let s := (s.setCh c 3).beginChain c
    if (s.chan c).empty then (s.retireBase c 0).chainNext c 0 else s

/-- The registers of channel `c` take a fetched image; the reserved-bit check of R197 answers true where it fails. -/
def State.loadImage (s : State) (c : Nat) (im : List Byte) : State × Bool :=
  let w (o n : Nat) : Nat := leAt im o n
  let ctl := w 0x28 4
  let stop := s.ctl c F.DMA_CTRL_STOP_REQ
  let s := s.wrW (Reg.DMA_SRC c) (BitVec.ofNat 64 (w 0 8))
  let s := s.wrW (Reg.DMA_DST c) (BitVec.ofNat 64 (w 8 8))
  let s := s.wrW (Reg.DMA_COUNT c) (BitVec.ofNat 64 (w 0x10 4))
  let s := s.wrW (Reg.DMA_FMT c) (BitVec.ofNat 64 (w 0x14 4 / 4096 * 4096))
  let s := s.wrW (Reg.DMA_RELEASE c) (BitVec.ofNat 64 (w 0x18 8))
  let s := s.wrW (Reg.DMA_NEXT c) (BitVec.ofNat 64 (w 0x20 8))
  let s := s.wrW (Reg.DMA_CTRL c) (BitVec.ofNat 64 (ctl % 2 ^ 28 / 2 ^ 16 * 2 ^ 16 + ctl % 64 + stop * 2 ^ 30))
  let s := s.wrW (Reg.DMA_TAG c) (BitVec.ofNat 64 (w 0x2C 4))
  let s := s.wrW (Reg.DMA_REC c) (BitVec.ofNat 64 (w 0x30 8))
  (s, decide (bitsOf ctl 15 6 ≠ 0 ∨ w 0x38 8 ≠ 0 ∨ w 0x14 4 % 4096 ≠ 0))

/-- A fetched image becomes active in channel `c` (R217, R222). -/
def State.activate (s : State) (c : Nat) (im : List Byte) : State :=
  let s := s.wrW (Reg.DMA_CUR c) (s.chan c).fetchAddr
  let s := s.updChan c (fun r => { r with image := none })
  let (s, bad) := s.loadImage c im
  match (if bad then some 0xC else s.descCheck c) with
  | some code => ((s.fresh1 c).retireBase c code).chainNext c code
  | none => s.goActive c

/-- The active descriptor of channel `c` retires, and the chain rule gives the next state (R220, R222). -/
def State.retire (s : State) (c code : Nat) : State :=
  let s := s.retireBase c code
  match (s.chan c).image with
  | some im =>
    if (1 ≤ code ∧ code ≤ 0xC) ∨ s.ctlB c F.DMA_CTRL_STOP_REQ = true then s.chainNext c code else s.activate c im
  | none => s.chainNext c code

/-- Channel `c` has finished or failed, and its record, if any, has left: it retires (R220). -/
def State.retireDue (s : State) (c : Nat) : State :=
  let r := s.chan c
  match r.fail with
  | some code => if r.recOut then s.retire c code else s
  | none => if r.done && (r.recOut || !s.ctlB c F.DMA_CTRL_RECORD) then s.retire c 0 else s

/-- The active descriptor of channel `c` fails with a code: its reads, its staged data and its block in progress are
discarded and its reservation returned. One that has issued a request and writes a record retires once the record has left;
any other retires at once (R207, R219, R220, R226). -/
def State.failCh (s : State) (c code : Nat) : State :=
  if (s.chan c).fail.isSome then s
  else if (s.chan c).first.isSome && s.wantsRec c code then
    let s := (s.dropWork c).updChan c (fun r =>
      { r.noFetch with fail := some code, reads := [], early := [], buf := [], snap := [], stage := [], landing := [],
                       recs := r.recs.filter (fun x => !x.own) })
    s.addRec c ⟨s.rdW (Reg.DMA_REC c), [], s.ctl c F.DMA_CTRL_TC, none, true⟩
  else s.retire c code

/-- A channel ended from outside with a code, without record or interrupt for LINK_RESET (R225, R226, R372); a channel in
Fetching enters Error without a retire. -/
def State.endChan (s : State) (c code : Nat) : State :=
  let s := if (s.chan c).recOut then s.retireDue c else s
  if s.chBusy c then
    if s.chState c = 5 ∨ s.chState c = 0 then s.errCh c code
    else if code = 9 then (s.retireBase c code).toError c
    else s.failCh c code
  else s

/-- Every channel of a list ended with a code. -/
def State.endChans : State → List Nat → Nat → State
  | s, [], _ => s
  | s, c :: cs, code => (s.endChan c code).endChans cs code

/-! ## Commands of DMA_CTRL (R195, R215, R216, R222) -/

/-- An Armed generation changes SLICE, SLOT or EN of the channel (R194). -/
def State.ownChanges (s : State) (c : Nat) : Bool :=
  s.genState == 2 && (s.rdS (Reg.DMA_OWN c) != s.rdG (Reg.DMA_OWN c))

/-- TDI state of slice `sl`: 0 CONFIG_UNLOCKED, 1 CONFIG_LOCKED, 2 RUN, 3 ERROR (R528). -/
def State.tdi (s : State) (sl : Nat) : Nat := bitsOf (s.rdW (Reg.SEC_TDI (sl / 16))).toNat (2 * (sl % 16) + 1) (2 * (sl % 16))

/-- START of channel `c`: it discards a low half that R88 holds back (R40, R195, R198, R194, R216, R222, R223, R371, R420). -/
def State.dmaStart (s : State) (c : Nat) : State :=
  let s := s.setHeldWr (s.heldWr.filter (fun h => !(Reg.DMA_SRC c ≤ h.key && decide (h.key < Reg.DMA_SRC c + 0x40))))
  let sl := s.chSlice c
  if s.chRaw c ≠ 0 ∨ s.flag (Reg.DMA_OWN c) F.DMA_OWN_EN = false ∨ s.bound sl = false ∨ s.fenced sl = true ∨
      s.ownChanges c = true ∨ s.tdi sl = 1 ∨ s.tdi sl = 3 ∨ s.linkPresent (s.slLink sl) = false ∨ s.mode = 7 ∨ s.mode = 8 ∨ s.mode = 9 ∨ s.tw.swo.isSome = true then s.startIgn c
  else
    let s := s.setFld (Reg.DMA_STAT c) F.DMA_STAT_STOPPED 0
    let s := s.wrW (Reg.DMA_CUR c) (BitVec.ofNat 64 (ones 64))
    let s := s.updTw (fun t => { t with dirty := insNat t.dirty c })
    match s.descCheck c with
    | some code => ((s.fresh1 c).retireBase c code).chainNext c code
    | none =>
      let s := if !(s.link (s.slLink sl)).going then (s.setFld (Reg.DMA_STAT c) F.DMA_STAT_STATE 7).evDma c else s
      s.goActive c

/-- DMA_START (R222): a write of START. -/
def execDmaStart (c : Chan) (s : State) : Res := .next (s.dmaStart c)

/-- STOP_REQ of channel `c` (R215): a descriptor whose record has left has its boundary behind it. STOP_REQ is without effect in Idle and Error; a channel in Fetching has no descriptor to finish. -/
def State.dmaStop (s : State) (c : Nat) : State :=
  let s := if (s.chan c).recOut then s.retireDue c else s
  if s.chBusy c = false then s
  else
    let s := s.setFld (Reg.DMA_CTRL c) F.DMA_CTRL_STOP_REQ 1
    if s.chState c = 5 then s.stopCh c else s

/-- STOP_REQ of every channel of a list. -/
def State.dmaStops : State → List Nat → State
  | s, [] => s
  | s, c :: cs => (s.dmaStop c).dmaStops cs

/-- DMA_STOP_REQ (R215). -/
def execDmaStopReq (c : Chan) (s : State) : Res := .next (s.dmaStop c)

/-- CANCEL of channel `c` (R216): in any state but Armed and Held, Halted-NoMaster among them, it is ignored. -/
def State.dmaCancel (s : State) (c : Nat) : State :=
  if s.chRaw c = 1 ∨ s.chRaw c = 2 then s.retire c 0x30 else s.startIgn c

/-- DMA_CANCEL (R216). -/
def execDmaCancel (c : Chan) (s : State) : Res := .next (s.dmaCancel c)

/-- CLR_ERR of channel `c` (R216). -/
def State.dmaClrErr (s : State) (c : Nat) : State := if s.chRaw c = 8 then s.setCh c 0 else s

/-- DMA_CLR_ERR (R216). -/
def execDmaClrErr (c : Chan) (s : State) : Res := .next (s.dmaClrErr c)

/-- One write of DMA_CTRL's action bits, in the order of R216. -/
def State.dmaCtrl (s : State) (c v : Nat) : State :=
  let s := if v.testBit 28 then s.dmaClrErr c else s
  let s := if v.testBit 30 then s.dmaStop c else s
  let s := if v.testBit 29 then s.dmaCancel c else s
  if v.testBit 31 then s.dmaStart c else s

/-! ## Release (R201 to R205, R69 to R71) -/

/-- The policy bit of a slice: true holds, false misses (R69). -/
def State.holds (s : State) (sl : Nat) : Bool := (s.rdG (Reg.TL_HOLD_POLICY (sl / 32))).toNat.testBit (sl % 32)

/-- DMA_RELEASE_TEST (R203, R208): the mode and the Timekeeper at T. -/
def execDmaReleaseTest (c : Chan) (s : State) : Res :=
  let r := s.chan c
  if s.chRaw c = 1 ∧ r.begun = true ∧ r.tested = false ∧ tlReached s.now (s.chT c) = true then
    if s.releasing = false then .next (s.retire c 0x25)
    else if s.tlState ≠ 2 then
      if s.holds (s.chSlice c) then .next ((s.updChan c (fun r => { r with held := true })).setCh c 2)
      else .next (s.retire c 0x20)
    else if r.empty then .next (s.retire c 0)
    else .next (s.updChan c (fun r => { r with tested := true }))
  else .next s

/-- Room or a domain was not ready at S, and what is left of the late limit has passed: MISS_ROOM or MISS_DOMAIN (R205). A
held descriptor has its own limit (R70). -/
def State.roomLate (s : State) (c : Nat) : Option Nat :=
  let r := s.chan c
  if r.waited && r.first.isNone && !r.held && s.ctlB c F.DMA_CTRL_TIMED &&
      decide ((s.fld Reg.TL_LATE_LIMIT F.TL_LATE_LIMIT_LIMIT : Int) < tlDiff s.now (s.chT c)) then
    some (if r.waitDom then 0x26 else 0x23)
  else none

/-- DMA_ROOM_READY (R205, R228): room and domains are tested again, in Held too, or the descriptor retires past the late
limit. -/
def execDmaRoomReady (c : Chan) (s : State) : Res :=
  let r := s.chan c
  if r.begun ∧ r.roomAt = none ∧ (s.chState c = 1 ∨ s.chState c = 2 ∨ s.chState c = 3) then
    let s := s.tryRoom c
    if (s.chan c).roomAt = none then
      match s.roomLate c with
      | some code => .next (s.retire c code)
      | none => .next s
    else .next s
  else .next s

/-- A channel held past TL_HOLD_LIMIT retires with MISS_HOLD (R70). -/
def State.dmaHoldOut (s : State) (c : Nat) : State :=
  if s.chState c = 2 ∧ ((s.rdW Reg.TL_HOLD_LIMIT).toNat : Int) ≤ tlDiff s.now (s.chT c) then s.retire c 0x21 else s

/-- Held channels are let go when the state becomes Locked (R71): they issue at the first beat that their gate allows. -/
def State.dmaLetGo : State → List Nat → State
  | s, [] => s
  | s, c :: cs =>
    (if s.chState c = 2 then
       (if (s.chan c).empty then s.retire c 0 else s.updChan c (fun r => { r with tested := true }))
     else s).dmaLetGo cs

/-! ## Beats and grants (R209 to R214) -/

/-- The wheel entry of link `m` that serves count `n`: the slice and its beats. -/
def State.wheelAt (s : State) (m n : Nat) : Option (Nat × Nat) :=
  let k := Reg.DMA_WHEEL_E m (n % 1024)
  if s.flag k F.DMA_WHEEL_E_EN then some (s.fld k F.DMA_WHEEL_E_SLICE, s.fld k F.DMA_WHEEL_E_BEATS) else none

/-- The first beat of slice `sl` that is free in the present Tc on link `m`, if there is one. -/
def State.beatNow (s : State) (m sl : Nat) : Option Nat :=
  match s.wheelAt m s.now with
  | some (x, n) =>
    let r := s.slice sl
    let b := if r.freeTick = s.ticks then r.freeBeat else 0
    if x = sl ∧ r.freeTick ≤ s.ticks ∧ b < n then some b else none
  | none => none

/-- The Tc and beat after `k` beats of slice `sl`, counted from beat `b` of the Tc `d` after the present one. -/
def State.afterBeats (s : State) (m sl : Nat) : Nat → Nat → Nat → Nat → Nat × Nat
  | 0, d, b, _ => (s.ticks + d, b)
  | fuel + 1, d, b, k =>
    let n := match s.wheelAt m (s.now + d) with
      | some (x, n) => if x = sl then n else 0
      | none => 0
    if k = 0 then (s.ticks + d, b)
    else if b + k ≤ n then (s.ticks + d, b + k)
    else s.afterBeats m sl fuel (d + 1) 0 (k - (n - b))

/-- A request of `k` beats consumes the slice's beats from beat `b` of the present Tc (R212). -/
def State.useBeats (s : State) (m sl b k : Nat) : State :=
  let (t, n) := s.afterBeats m sl 8192 0 b k
  s.updSlice sl (fun r => { r with freeTick := t, freeBeat := n })

/-- Beats that `n` bytes fill. -/
def beatsOf (n : Nat) : Nat := (n + 63) / 64

/-- Staging beats that a channel holds (R214). -/
def ChanRt.staging (r : ChanRt) : Nat :=
  (r.reads.map (fun e => beatsOf e.2)).foldl (· + ·) 0 + (r.early.map (fun e => beatsOf e.2.length)).foldl (· + ·) 0 +
    beatsOf r.stage.length + (if r.fetching then 1 else 0)

/-- Staging beats of data delivered that is not yet in the pail (R214). -/
def ChanRt.landed (r : ChanRt) (core : Nat) : Nat :=
  ((r.landing.filter (fun e => decide (core < e.1))).map (·.2)).foldl (· + ·) 0

/-- Free staging of slice `sl`, in beats (R214). -/
def State.freeStaging (s : State) (sl : Nat) : Nat :=
  s.fld (Reg.DMA_STGQ sl) F.DMA_STGQ_BEATS -
    ((s.slChans sl).map (fun c => (s.chan c).staging + (s.chan c).landed s.coreNow)).foldl (· + ·) 0

/-- Max_Read_Request_Size and Max_Payload_Size of link `m`, bytes. -/
def State.mrrs (s : State) (m : Nat) : Nat := 128 * 2 ^ bitsOf ((s.link m).cfgW 0x068) 14 12
def State.mps (s : State) (m : Nat) : Nat := 128 * 2 ^ bitsOf ((s.link m).cfgW 0x068) 7 5

/-- Bytes of the next request from `addr`: at most `lim` and 512, and not across a 4 KiB boundary (R206, R208). -/
def reqLen (addr left lim : Nat) : Nat := min (min left (min lim 512)) (4096 - addr % 4096)

/-- What a channel would issue next (R212, R217, R219). -/
inductive ReqKind where
  | record | data | fetch
  deriving DecidableEq, Repr

/-- The supply warning holds back a channel's untimed work (R204). -/
def State.warned (s : State) : Bool := s.flag Reg.PW_SUP_STAT F.PW_SUP_STAT_WARN

/-- The blocks of a channel's snapshot not yet in staging that its pail still holds: a generation that changes the pail
discards them (R175, R182). -/
def State.liveSnap (s : State) (c : Nat) : List Block :=
  if s.ownPail c then
    (s.chan c).snap.filter (fun b => (s.pail (s.chPail c)).blocks.any (fun x => x.off == b.off && x.h0 == b.h0))
  else []

/-- The active descriptor of channel `c` may issue data at this beat (R201, R203 to R206, R223). -/
def State.dataReady (s : State) (c : Nat) : Bool :=
  let r := s.chan c
  let sl := s.chSlice c
  let timed := s.ctlB c F.DMA_CTRL_TIMED
  let dir := s.ctlB c F.DMA_CTRL_DIR
  let st := s.chRaw c
  -- C core cycles pass from the chain's start, and from room and domains being ready, to the gate
  let gate := r.first.isSome || (r.roomAt.any (fun x => decide (x + s.chC c ≤ s.coreNow)) &&
    (!timed || (r.tested && tlReached s.now (s.chT c))))
  let room :=
    if dir then
      !r.stage.isEmpty || (match s.liveSnap c with | b :: _ => decide (beatsOf b.size ≤ s.freeStaging sl) | [] => false)
    else
      let n := reqLen ((s.rdW (Reg.DMA_SRC c)).toNat + s.issued c) (s.chCount c - s.issued c) (s.mrrs (s.slLink sl))
      decide (s.issued c < s.chCount c) && decide (beatsOf n ≤ s.freeStaging sl)
  r.begun && !r.done && r.fail.isNone && (st == 1 || st == 2 || st == 3 || st == 4) && gate && room && !(s.warned && !timed)

/-- Channel `c` has its last data request behind it, or none to make (R217). -/
def State.dataOut (s : State) (c : Nat) : Bool :=
  let r := s.chan c
  if s.ctlB c F.DMA_CTRL_DIR then r.first.isSome && (s.liveSnap c).isEmpty && r.stage.isEmpty
  else r.first.isSome && decide (s.chCount c ≤ s.issued c)

/-- Channel `c` has a descriptor fetch to issue (R204, R215, R217). -/
def State.fetchReady (s : State) (c : Nat) : Bool :=
  let r := s.chan c
  let st := s.chRaw c
  let act := (st == 3 || st == 4 || st == 6) && s.dataOut c
  let idle := st == 5
  r.fail.isNone && s.ctlB c F.DMA_CTRL_CHAIN && !s.ctlB c F.DMA_CTRL_STOP_REQ && !r.fetching && r.image.isNone && !r.fetchErr && (act || idle) &&
    !(s.warned && ((act && !s.ctlB c F.DMA_CTRL_TIMED) || (idle && r.untimedLast))) && decide (0 < s.freeStaging (s.chSlice c))

/-- The channels that a link's slices own and that are busy. -/
def State.linkChans (s : State) (m : Nat) : List Nat :=
  s.liveChans.filter (fun c =>
    s.flag (Reg.DMA_OWN c) F.DMA_OWN_EN && s.bound (s.chSlice c) && s.slLink (s.chSlice c) == m && s.chBusy c)

/-- Non-posted requests of link `m` whose completion the device waits for. -/
def State.npOut (s : State) (m : Nat) : Nat :=
  ((s.linkChans m).map (fun c => (s.chan c).reads.length + if (s.chan c).fetching then 1 else 0)).foldl (· + ·) 0 +
    (s.ports.map (fun p => (p.2.retried.filter (fun e => e.m.val == m && e.held.isNone)).length)).foldl (· + ·) 0 +
    (s.link m).atsWait.length

/-- The link may issue another non-posted request: at most 768 of them, or 4,096 in flit mode (R297). -/
def State.npFree (s : State) (m : Nat) : Bool :=
  decide (s.npOut m < if s.flag (Reg.HL_LINK_STAT m) F.HL_LINK_STAT_FLIT then 4096 else 768)

/-- What channel `c` would issue at a beat of its slice on link `m`, if it has something to issue. -/
def State.nextReq (s : State) (m c : Nat) : Option ReqKind :=
  if !(s.link m).going then none
  else if !(s.chan c).recs.isEmpty then some .record
  else if s.dataReady c && (s.ctlB c F.DMA_CTRL_DIR || s.npFree m) then some .data
  else if s.fetchReady c && s.npFree m then some .fetch
  else none

/-- The first channel of a rising list from `last` on, cyclically. -/
def nextOf (l : List Nat) (last : Nat) : Option Nat :=
  match l.find? (fun c => decide (last ≤ c)) with
  | some c => some c
  | none => l.head?

/-- Of a list of channels, the one whose T is earliest, the lowest on a tie (R71). -/
def State.earliest (s : State) : List Nat → Option Nat
  | [] => none
  | c :: cs =>
    match s.earliest cs with
    | none => some c
    | some d => if tlLater (s.chT c) (s.chT d) then some d else some c

/-- The channel of slice `sl` that a beat on link `m` goes to: the highest PRIO, then the next after the last served (R213).
Held descriptors that were let go take their beats in the order of T, then channel; other channels go before them by a
higher PRIO alone (R71). -/
def State.beatChan (s : State) (m sl : Nat) : Option Nat :=
  let l := (s.slChans sl).filter (fun c => (s.nextReq m c).isSome)
  let held := l.filter (fun c => s.chRaw c == 2 && s.nextReq m c == some .data)
  let rest := l.filter (fun c => !held.contains c)
  let top := (rest.map (fun c => s.ctl c F.DMA_CTRL_PRIO)).foldl max 0
  let next := nextOf (rest.filter (fun c => s.ctl c F.DMA_CTRL_PRIO == top)) (SMap.get 0 (s.slice sl).ptr top)
  match s.earliest held with
  | some h => if s.ctl h F.DMA_CTRL_PRIO < top then next else some h
  | none => next

/-- The beat of link `m` in the present Tc goes to a channel: its slice, the beat, the channel and what it issues. -/
def State.grant (s : State) (m : Nat) : Option (Nat × Nat × Nat × ReqKind) :=
  match s.wheelAt m s.now with
  | some (sl, _) =>
    if s.bound sl && s.slLink sl == m then
      match s.beatNow m sl, s.beatChan m sl with
      | some b, some c => (s.nextReq m c).map (fun k => (sl, b, c, k))
      | _, _ => none
    else none
  | none => none

/-! ## Requests of a link (R299, R300, R316, R528) -/

/-- Link `m` is in L0 or L0p. -/
def State.inL0 (s : State) (m : Nat) : Bool :=
  s.fld (Reg.HL_LINK_STAT m) F.HL_LINK_STAT_LSTATE == 2 || s.fld (Reg.HL_LINK_STAT m) F.HL_LINK_STAT_LSTATE == 3

/-- A request goes out on link `m`, or waits in its transmit queue until the link is in L0 (R316). -/
def State.send (s : State) (m : Nat) (o : Out) : State :=
  if s.inL0 m then s.emit o else s.updLink m (fun l => { l with txQ := l.txQ ++ [o] })

/-- The PASID key of a slice's requests on link `m`: PASID + 1, or 0 without one. -/
def State.atsKey (s : State) (m sl : Nat) : Nat := (s.pasidOf m sl).elim 0 (· + 1)

/-- The translation that link `m` holds for an address of slice `sl` (R300). -/
def State.atsHit (s : State) (m sl : Nat) (a : Word) : Option Nat :=
  if (s.link m).atsEn then
    ((s.link m).ats.find? (fun e => e.sl == sl && e.pasid == s.atsKey m sl && e.page == a.toNat / 4096)).map (·.tr)
  else none

/-- The address and attributes with which a request of slice `sl` goes out: translated where the cache holds its page
(attribute bit 5), with T = 1 for a TDI in RUN (bit 6). A miss waits to be translated (R300, R528). -/
def State.translate (s : State) (m sl : Nat) (a : Word) (attr : Nat) : State × Word × Nat :=
  let attr := if s.tdi sl = 2 then attr + 64 else attr
  match s.atsHit m sl a with
  | some p => (s, BitVec.ofNat 64 (4096 * p + a.toNat % 4096), attr + 32)
  | none =>
    let k := (sl, s.atsKey m sl, a.toNat / 4096)
    let l := s.link m
    if l.atsEn && !l.atsMiss.contains k && !l.atsWait.contains k then
      (s.updLink m (fun l => { l with atsMiss := l.atsMiss ++ [k] }), a, attr)
    else (s, a, attr)

/-- A beat served to channel `c`: the pointer of its PRIO level, and the channels that it pre-empts (R213). -/
def State.served (s : State) (m sl c : Nat) : State :=
  let p := s.ctl c F.DMA_CTRL_PRIO
  let s := (s.slChans sl).foldl (fun s d =>
    if d ≠ c ∧ s.ctl d F.DMA_CTRL_PRIO < p ∧ s.chRaw d = 3 ∧ s.nextReq m d = some .data then s.setCh d 4 else s) s
  s.updSlice sl (fun r => { r with ptr := SMap.put 0 r.ptr p (c + 1) })

/-! ## Moving blocks (R206 to R208) -/

/-- The first request of a descriptor: AT, and its lateness against T (R201, R219). -/
def State.firstIssue (s : State) (c : Nat) : State :=
  if (s.chan c).first.isSome then s
  else
    let m := s.slLink (s.chSlice c)
    let s := if s.inL0 m then s else s.updLink m (fun l => { l with lateQ := l.lateQ ++ [c] })
    let d := if s.ctlB c F.DMA_CTRL_TIMED then (tlDiff s.now (s.chT c)).toNat else 0
    let s := s.updChan c (fun r => { r with first := some (tlOf s.now), late := d })
    if d ≠ 0 then s.evTl 7 else s

/-- Blocks of a channel's snapshot are read into free staging, each whole and in order (R185, R208, R214). -/
def State.stageBlocks : Nat → State → Nat → List EccHit → State
  | 0, s, _, _ => s
  | n + 1, s, c, hits =>
    match s.liveSnap c with
    | [] => s
    | b :: bs =>
      if s.freeStaging (s.chSlice c) < beatsOf b.size then s
      else
        let p := s.chPail c
        let now := ((s.pail p).blocks.find? (fun x => x.off == b.off && x.h0 == b.h0)).getD b
        let (s, bad) := s.readErrors p now (hits.filter (fun h => h.pail == p && h.word < 2 + now.payload.length))
        let out := s.poisonedOut p { now with bad := bad }
        let bytes := leBytes 8 out.h0.toNat ++ leBytes 8 out.h1.toNat ++ bytesOfWords out.payload
        let s := (s.updPail p (fun r => { r with blocks := r.blocks.map (fun x =>
          if x.off = b.off ∧ x.h0 = b.h0 then { x with fin := true } else x) })).freePail p
        let s := s.updChan c (fun r => { r with snap := bs, stage := r.stage ++ bytes,
                                                ends := r.ends ++ [r.written + r.stage.length + bytes.length],
                                                poison := r.poison || !bad.isEmpty })
        let s := s.setFld (Reg.DMA_PROGRESS c) F.DMA_PROGRESS_ISSUED (s.issued c + b.size)
        -- errors named for this block are met once
        s.stageBlocks n c (hits.filter (fun h => h.pail != p))

/-- The active descriptor's last write has left the engine (R218). -/
def State.dmaDone (s : State) (c : Nat) : State :=
  let s := (s.setFld (Reg.DMA_STAT c) F.DMA_STAT_DONE 1).updChan c (fun r => { r with done := true })
  if s.ctlB c F.DMA_CTRL_RECORD then
    (s.addRec c ⟨s.rdW (Reg.DMA_REC c), [], s.ctl c F.DMA_CTRL_TC, none, true⟩).setCh c 6
  else s

/-- Channel `c` issues its next data request from beat `b` of link `m` (R206, R208, R212). -/
def State.issueData (s : State) (m sl b c : Nat) (hits : List EccHit) : State :=
  let s := s.firstIssue c
  let s := (s.served m sl c).setCh c 3
  if s.ctlB c F.DMA_CTRL_DIR then
    let s := s.stageBlocks (s.chan c).snap.length c hits
    let r := s.chan c
    let a := s.rdW (Reg.DMA_DST c) + BitVec.ofNat 64 r.written
    let n := reqLen a.toNat r.stage.length (s.mps m)
    let s := s.useBeats m sl b (beatsOf n)
    let (s, ta, attr) := s.translate m sl a (s.chAttr c)
    let s := s.send m (.mwr m (s.pasidOf m sl) ta (r.stage.take n) attr)
    let s := s.updChan c (fun r =>
      { r with stage := r.stage.drop n, written := r.written + n,
               blocks := r.blocks + (r.ends.filter (fun e => decide (e ≤ r.written + n))).length,
               ends := r.ends.filter (fun e => decide (r.written + n < e)) })
    let s := s.setFld (Reg.DMA_PROGRESS c) F.DMA_PROGRESS_MOVED (s.moved c + n)
    if s.dataOut c then s.dmaDone c else s
  else
    let off := s.issued c
    let a := s.rdW (Reg.DMA_SRC c) + BitVec.ofNat 64 off
    let n := reqLen a.toNat (s.chCount c - off) (s.mrrs m)
    let s := s.useBeats m sl b (beatsOf n)
    let hit := (s.atsHit m sl a).isSome
    let (s, ta, attr) := s.translate m sl a (s.chAttr c)
    let s := s.send m (.mrd m (s.pasidOf m sl) ta n attr)
    let s := s.updChan c (fun r =>
      { r with reads := r.reads ++ [(off, n)], trans := if hit then r.trans ++ [(off + n, a.toNat / 4096)] else r.trans })
    s.setFld (Reg.DMA_PROGRESS c) F.DMA_PROGRESS_ISSUED (off + n)

/-- A granted beat that no channel claims asks for the translation of a page that its slice missed (R300). -/
def State.askTranslation (s : State) (m : Nat) : State :=
  match s.wheelAt m s.now with
  | none => s
  | some (sl, _) =>
    match s.beatNow m sl, (s.link m).atsMiss.find? (fun k => k.1 == sl) with
    | some b, some k =>
      if s.bound sl && s.slLink sl == m && (s.link m).going && s.npFree m then
        let s := s.useBeats m sl b 1
        let s := s.updLink m (fun l => { l with atsMiss := l.atsMiss.erase k, atsWait := l.atsWait ++ [k] })
        s.send m (.treq m (s.pasidOf m sl) k.2.2 sl)
      else s
    | _, _ => s

/-- DMA_REQUEST_ISSUE (R205, R212, R213): a granted beat of link `m` goes to a channel with data to move. `hits` are the
errors that its reads of the pail, of its context and of staging meet: a poisoned context stops the channel (R185, R226). -/
def execDmaRequestIssue (m : HLink) (hits : List EccHit) (s : State) : Res :=
  match s.grant m with
  | some (sl, b, c, .data) =>
    match s.roomLate c with
    | some code => .next (s.retire c code)
    | none =>
      let (s, ctx) := s.storeErrors 0 hits
      let (s, _) := s.storeErrors 1 hits
      .next (if ctx then s.failCh c 0xB else s.issueData m sl b c hits)
  | some _ => .next s
  | none => .next (s.askTranslation m)

/-- DMA_CHAIN_START (R201, R202): at S the channel takes its votes, and reserves room or takes its snapshot, whose first
block is read into staging. `hits` are the errors that its context load and that read meet (R185, R226). -/
def execDmaChainStart (c : Chan) (s : State) (hits : List EccHit := []) : Res :=
  if s.chState c = 1 ∧ (s.chan c).begun = false ∧ tlReached s.now (s.chS c) = true then
    if s.tooLate c then .next (s.retire c 0x22)
    else
      let (s, ctx) := s.storeErrors 0 hits
      .next (if ctx then s.failCh c 0xB
        else
          let s := s.beginChain c
          if s.ctlB c F.DMA_CTRL_DIR = true ∧ (s.chan c).roomAt.isSome = true then s.stageBlocks 1 c hits else s)
  else .next s

/-- The descriptor of a DIR 0 channel has all its bytes, and none of its blocks is on its way (R218). -/
def State.rxDone (s : State) (c : Nat) : State :=
  let r := s.chan c
  if r.begun && !r.done && !s.ctlB c F.DMA_CTRL_DIR && decide (s.chCount c ≤ r.rxPos) && r.buf.isEmpty &&
      (s.pail (s.chPail c)).arrivals.all (fun a => match a.writer with | .chan d => d.val != c | .port _ => true) then
    s.dmaDone c
  else s

/-- Bytes whose poisoned ones are written as 0. -/
def plain (l : List (Option Byte)) : List Byte := l.map (fun b => b.getD 0)

/-- An arrival of channel `c` in pail `p` replaced by its image under `f`: the newest one. -/
def PailRt.updNewest (r : PailRt) (c : Nat) (f : Arrival → Arrival) : PailRt :=
  let isMine (a : Arrival) : Bool := match a.writer with | .chan d => d.val == c | .port _ => false
  match r.arrivals.reverse.span (fun a => !isMine a) with
  | (post, a :: pre) => { r with arrivals := pre.reverse ++ f a :: post.reverse }
  | _ => r

/-- Delivered bytes of a DIR 0 channel become blocks on their way to the pail (R125, R206): the header once its 16 bytes
are there, the payload as it comes. True where a header's block would end beyond COUNT. -/
def State.parseBlocks : Nat → State → Chan → State × Bool
  | 0, s, _ => (s, false)
  | n + 1, s, c =>
    let r := s.chan c
    let p := s.chPail c
    let start := r.rxPos - r.buf.length
    if r.buf.length < 16 then (s, false)
    else
      let h0 := BitVec.ofNat 64 (leAt (plain r.buf) 0 8)
      let h1 := BitVec.ofNat 64 (leAt (plain r.buf) 8 8)
      let size := blockBytes (hLen h1)
      if s.chCount c < start + size then (s, true)
      else
        let here := r.buf.take size
        let got := wordsOf ((here.length - 16) / 8) (plain (here.drop 16))
        let pois := here.any (·.isNone)
        let whole := decide (size ≤ r.buf.length)
        let due := s.coreNow + 64
        let set (a : Arrival) : Arrival :=
          { a with got := got, pois := a.pois || pois, coreDue := if whole then due else 0 }
        let s := if s.ownPail c = false then s
          else if r.hdrUp then s.updPail p (fun q => q.updNewest c.val set)
          else s.updPail p (fun q => { q with arrivals := q.arrivals ++
            [set { writer := .chan c, h0 := h0, h1 := h1, need := blockWords (hLen h1), got := [], bad := [], tc := s.ticks,
                   tested := false, room := none, doom := none }] })
        let s := s.updChan c (fun r => { r with hdrUp := !whole })
        if whole then
          let s := s.updChan c (fun r => { r with buf := r.buf.drop size, poison := r.poison || pois })
          s.parseBlocks n c
        else (s, false)

/-- Data delivered ahead of its order that has come into order. -/
def takeEarly : Nat → Nat → List (Nat × List (Option Byte)) → List (Option Byte) × List (Nat × List (Option Byte))
  | 0, _, l => ([], l)
  | n + 1, pos, l =>
    match l.find? (fun e => e.1 == pos) with
    | none => ([], l)
    | some (o, d) =>
      let (a, b) := takeEarly n (pos + d.length) (l.filter (fun e => e.1 != o))
      (d ++ a, b)

/-- Data of channel `c` delivered at offset `off` (R206, R207). -/
def State.deliver (s : State) (c : Chan) (off : Nat) (d : List (Option Byte)) : State :=
  let r := s.chan c
  let reads := r.reads.filterMap (fun e =>
    if e.1 = off then (if d.length < e.2 then some (off + d.length, e.2 - d.length) else none) else some e)
  let (now, early) := takeEarly (r.early.length + 1) r.rxPos (r.early ++ [(off, d)])
  let core := s.coreNow
  let k := beatsOf (now.length)
  let s := s.updChan c (fun r => { r with reads := reads, early := early, buf := r.buf ++ now, rxPos := r.rxPos + now.length,
                                          landing := r.landing.filter (fun e => decide (core < e.1)) ++ [(core + 64, k)] })
  let (s, ovr) := s.parseBlocks (s.chCount c / 16 + 1) c
  if ovr then s.failCh c 8 else s.rxDone c

/-- DMA_READ_COMPLETION (R206, R207, R223): a completion for the channel's read at offset `off`. -/
def execDmaReadCompletion (c : Chan) (off : Nat) (st : CplStatus) (data : List Byte) (s : State) : Res :=
  match (s.chan c).reads.find? (fun e => e.1 == off) with
  | none => .next s
  | some (_, n) =>
    match st with
    | .sc => if data.length = 0 ∨ n < data.length then .next s else .next (s.deliver c off (data.map some))
    | .ep => if data.length = 0 ∨ n < data.length then .next s else .next ((s.aerTlp (s.slLink (s.chSlice c)) aerPoison).deliver c off (data.map (fun _ => none)))
    | .ur => .next (s.failCh c 5)
    | .ca => .next (s.failCh c 5)

/-- DMA_READ_TIMEOUT (R207): a read meets the link's completion timeout. -/
def execDmaReadTimeout (c : Chan) (s : State) : Res :=
  if (s.chan c).reads.isEmpty then .next s
  else .next ((s.failCh c 6).aerUnc (s.slLink (s.chSlice c)) aerCto [])

/-- BLOCK_COMMIT (R177, R206, R218): the oldest block on its way, all of whose words have arrived, meets its commit tests and
is held or dropped. `hits` are the errors that the row reads of its partial writes meet (R186, R187). -/
def execBlockCommit (p : Pail) (hits : List EccHit) (s : State) : Res :=
  match (s.pail p).arrivals with
  | [] => .next s
  | a :: rest =>
    if s.arrivalDue a then
      let s := s.updPail p (fun r => { r with arrivals := rest })
      let (s, ok) := s.commitArrival p a hits
      match a.writer with
      | .port _ => .next s
      | .chan c =>
        let s := if ok then
            (s.setFld (Reg.DMA_PROGRESS c) F.DMA_PROGRESS_MOVED (s.moved c + blockBytes (hLen a.h1))).updChan c
              (fun r => { r with blocks := r.blocks + 1 })
          else s
        .next (s.rxDone c)
    else .next s

/-! ## Completion (R218 to R220) -/

/-- DMA_RECORD_WRITE (R219): a granted beat of the slice writes the channel's oldest waiting record. -/
def execDmaRecordWrite (c : Chan) (s : State) : Res :=
  let m := s.slLink (s.chSlice c)
  match s.grant m, (s.chan c).recs with
  | some (sl, b, d, .record), r :: rs =>
    if d = c.val then
      let s := (s.served m sl c).useBeats m sl b 1
      let seq := ((s.rdW (Reg.DMA_RETIRED c)).toNat + 1) % 2 ^ 32
      let body := if r.own then s.record c ((s.chan c).fail.getD 0) seq else r.bytes
      let (s, ta, attr) := s.translate m sl r.addr r.attr
      let s := s.send m (.mwr m (s.pasidOf m sl) ta body attr)
      let s := s.updChan c (fun x => { x with recs := rs, recOut := x.recOut || r.own })
      let s := if rs.isEmpty then s.setFld (Reg.DMA_STAT c) F.DMA_STAT_REC_PEND 0 else s
      .next (match r.irq with
        | some v => s.slSignal sl v
        | none => s)
    else .next s
  | _, _ => .next s

/-- Channel `c` has nothing left to write although it has issued no request: its pail discarded the snapshot (R182). -/
def State.drained (s : State) (c : Nat) : Bool :=
  let r := s.chan c
  s.ctlB c F.DMA_CTRL_DIR && r.begun && !r.done && !r.empty && r.fail.isNone && r.stage.isEmpty && (s.liveSnap c).isEmpty &&
    (r.tested || !s.ctlB c F.DMA_CTRL_TIMED)

/-- DMA_RETIRE (R220): a descriptor that has finished or failed, and whose record, if any, has left, retires. -/
def execDmaRetire (c : Chan) (s : State) : Res :=
  .next ((if s.drained c then s.dmaDone c else s).retireDue c)

/-! ## Chaining (R217) -/

/-- DMA_FETCH (R217): a granted beat of the slice issues the one-beat read of the next image. -/
def execDmaFetch (c : Chan) (s : State) : Res :=
  let m := s.slLink (s.chSlice c)
  match s.grant m with
  | some (sl, b, d, .fetch) =>
    if d = c.val then
      let a := s.rdW (Reg.DMA_NEXT c)
      let s := (s.served m sl c).useBeats m sl b 1
      let hit := (s.atsHit m sl a).isSome
      let (s, ta, attr) := s.translate m sl a (s.ctl c F.DMA_CTRL_TC)
      let s := s.send m (.mrd m (s.pasidOf m sl) ta 64 attr)
      .next (s.updChan c (fun r =>
        { r with fetching := true, fetchAddr := a, trans := if hit then r.trans ++ [(fetchKey, a.toNat / 4096)] else r.trans }))
    else .next s
  | _ => .next s

/-- DMA_FETCH_COMPLETE (R215, R217): the image arrives or its fetch fails. -/
def execDmaFetchComplete (c : Chan) (st : CplStatus) (image : List Byte) (s : State) : Res :=
  if (s.chan c).fetching then
    let s := s.updChan c (fun r => { r with fetching := false })
    let ok := st == .sc && image.length == 64
    if s.chState c = 5 then .next (if ok then s.activate c image else s.errCh c 7)
    else if s.chBusy c = false ∨ s.ctlB c F.DMA_CTRL_STOP_REQ = true then .next s
    else .next (s.updChan c (fun r => if ok then { r with image := some image } else { r with fetchErr := true }))
  else .next s

/-! ## Bus Master Enable (R223, R224) -/

/-- Host port `p` is held in reset (R45, R306). -/
def State.portReset (s : State) (p : Nat) : Bool :=
  s.flag (Reg.HL_PORT_STAT p) F.HL_PORT_STAT_PERST || s.mode == 0xC || !s.on (domH p)

/-- Requests of a host can arrive on link `m`: it is present, and its port is powered and out of reset (R286, R306). -/
def State.reachable (s : State) (m : Nat) : Bool := s.linkPresent m && !s.portReset (m / 4)

/-- A channel enters Halted-NoMaster, and PREV records its state. -/
def State.haltCh (s : State) (c : Nat) : State :=
  let st := s.chRaw c
  if st = 7 then s
  else
    ((s.setFld (Reg.DMA_STAT c) F.DMA_STAT_PREV st).setFld (Reg.DMA_STAT c) F.DMA_STAT_STATE 7).evDma c

/-- The channels of link `m`'s slices with a record or an interrupt to come, busy or not. -/
def State.owing (s : State) (m : Nat) : List Nat :=
  ((s.chans.map (·.1)).foldl insNat s.liveChans).filter (fun c =>
    s.flag (Reg.DMA_OWN c) F.DMA_OWN_EN && s.bound (s.chSlice c) && s.slLink (s.chSlice c) == m)

/-- REC_PEND shows the records that wait for Bus Master Enable. -/
def State.recPend (s : State) (c : Nat) : State :=
  if (s.chan c).recs.isEmpty then s else s.setFld (Reg.DMA_STAT c) F.DMA_STAT_REC_PEND 1

/-- A bridged write that waits for host egress. -/
def LaterOut.posted (w : LaterOut) : Bool :=
  match w.act with
  | .write .. => true
  | _ => false

/-- Posted writes of local ends that were accepted and not issued are discarded, and counted on their ports (R310). -/
def State.dropPosted (s : State) (m : Nat) : State :=
  let ws := (s.link m).later.filter LaterOut.posted
  if ws = [] then s
  else ws.foldl (fun s w => s.cnt (Reg.AL_BR_LREJ w.port))
    (s.updLink m (fun l => { l with later := l.later.filter (fun w => !w.posted) }))

/-- The instant at which a link's requests stop (R223, R310, R312). -/
def State.stopLink (s : State) (m : Nat) : State :=
  if (s.link m).going then
    let s := (s.linkChans m).foldl (fun s c => s.haltCh c) (s.updLink m (fun l => { l with going := false }))
    ((s.owing m).foldl (fun s c => s.recPend c) s).dropPosted m
  else s

/-- A halted channel resumes in PREV (R224). -/
def State.resumeCh (s : State) (c : Nat) : State :=
  if s.chRaw c = 7 then
    s.setFld (Reg.DMA_STAT c) F.DMA_STAT_STATE (s.fld (Reg.DMA_STAT c) F.DMA_STAT_PREV)
  else s

/-- A link's requests run again once Bus Master Enable is set in D0: held messages and records follow (R224, R312). A
request stop that was still to come happens first (R310). -/
def State.goLink (s : State) (m : Nat) : State :=
  if (s.link m).bme && !(s.link m).d3 then
    let s := s.stopLink m
    let s := (s.linkChans m).foldl (fun s c => s.resumeCh c) (s.updLink m (fun l => { l with going := true }))
    let s := (s.owing m).foldl (fun s c => s.setFld (Reg.DMA_STAT c) F.DMA_STAT_IRQ_PEND 0) s
    s.sendPending m
  else s

/-- Bus Master Enable written; a change is an occurrence of HL_MASTER (R310, R317). -/
def State.setBme (s : State) (m : Nat) (on : Bool) : State :=
  if (s.link m).bme = on then s
  else
    let s := (s.updLink m (fun l => l.setCfg 0x004 (putBit (l.cfgW 0x004) 2 on))).evHl m 3
    if on then s.goLink m else s

/-- BUS_MASTER_ENABLE_CLEAR (R223, R310): Bus Master Enable is clear, by this write or one before it, and the link's
requests stop within 16 Tc of that write. -/
def execBusMasterEnableClear (m : HLink) (s : State) : Res :=
  if s.reachable m then .next ((s.setBme m false).stopLink m) else .next s

/-- BUS_MASTER_ENABLE_SET (R224): a configuration write sets Bus Master Enable. -/
def execBusMasterEnableSet (m : HLink) (s : State) : Res :=
  if s.reachable m then .next (s.setBme m true) else .next s

/-- DMA_MISS_MASTER (R223): a halted timed descriptor with no request issued, at or after T. -/
def execDmaMissMaster (c : Chan) (s : State) : Res :=
  if s.chRaw c = 7 ∧ (s.chState c = 1 ∨ s.chState c = 2) ∧ (s.chan c).first = none ∧ s.ctlB c F.DMA_CTRL_TIMED = true ∧
      (s.chan c).fail = none ∧ tlReached s.now (s.chT c) = true then .next (s.retire c 0x24)
  else .next s

/-- DMA_WHEELm_STAT's SUM: the beats of the active wheel. -/
def State.wheelSum (s : State) (m : Nat) : Nat :=
  ((List.range 1024).map (fun i =>
    if s.flag (Reg.DMA_WHEEL_E m i) F.DMA_WHEEL_E_EN then s.fld (Reg.DMA_WHEEL_E m i) F.DMA_WHEEL_E_BEATS else 0)).foldl (· + ·) 0

/-- The budget of a link by its rate, coded as MAX_RATE, and its width in lanes (R210, R318). -/
def wheelBudget (rate width : Nat) : Nat := 24 * 2 ^ min rate 6 * width / 16

/-- The budget of link `m` at the width and rate in force; 0 while it is not up (R211). -/
def State.budgetNow (s : State) (m : Nat) : Nat :=
  let k := Reg.HL_LINK_STAT m
  if s.flag k F.HL_LINK_STAT_DLUP && s.linkPresent m then
    wheelBudget (s.fld k F.HL_LINK_STAT_RATE) (s.fld k F.HL_LINK_STAT_WIDTH)
  else 0

end Sys2Proof.Machine
end

