-- ==== Sys2Proof/Machine/Link.lean ====
section
/-! DEFINITION. What A-link ports and Cloton ports share: training, presence, the loss of an A-link and lane swaps (08
R254 to R262, 14 R409). -/

namespace Sys2Proof.Machine

/-! ## Ports -/

/-- The runtime state of A-link port `n`. -/
def State.port (s : State) (n : Nat) : PortRt := SMap.get {} s.ports n
/-- The state with A-link port `n`'s runtime state replaced by its image under `f`. -/
def State.updPort (s : State) (n : Nat) (f : PortRt → PortRt) : State := { s with ports := SMap.upd {} s.ports n f }

/-- Training of a link. -/
def State.train (s : State) : LinkEnd → TrainRt
  | .al n => (s.port n).train
  | .cl x => (s.clp x).train
/-- Training of a link replaced by its image under `f`. -/
def State.updTrain (s : State) (e : LinkEnd) (f : TrainRt → TrainRt) : State :=
  match e with
  | .al n => s.updPort n (fun p => { p with train := f p.train })
  | .cl x => s.updCl x (fun p => { p with train := f p.train })

/-- TSTATE of a link: 0 Down, 1 Lock, 2 Align, 3 Config, 4 Calibrate, 5 Up (R254). -/
def State.tstate (s : State) : LinkEnd → Nat
  | .al n => s.fld (Reg.AL_STAT n) F.AL_STAT_TSTATE
  | .cl x => s.fld (Reg.CL_PORT_STAT x) F.CL_PORT_STAT_TSTATE
/-- TSTATE of a link set, with the Tc of entry. -/
def State.setTstate (s : State) (e : LinkEnd) (v : Nat) : State :=
  let s := s.updTrain e (fun t => { t with since := s.ticks })
  match e with
  | .al n => s.setFld (Reg.AL_STAT n) F.AL_STAT_TSTATE v
  | .cl x => s.setFld (Reg.CL_PORT_STAT x) F.CL_PORT_STAT_TSTATE v

/-- A link's domain is released. -/
def State.linkOn (s : State) : LinkEnd → Bool
  | .al n => s.on (domL (n / 8))
  | .cl _ => s.on 5
/-- A link's port is enabled. -/
def State.linkEn (s : State) : LinkEnd → Bool
  | .al n => s.flag (Reg.AL_CTRL n) F.AL_CTRL_EN
  | .cl x => s.flag (Reg.CL_PORT_CFG x) F.CL_PORT_CFG_EN
/-- A link is Up. -/
def State.isUp (s : State) (e : LinkEnd) : Bool := s.tstate e == 5
/-- The last frame of a link was not discarded whole: its words and cells are used (R236, R238, R408). -/
def State.frameIn (s : State) : LinkEnd → Bool
  | .al n => !(s.port n).shut
  | .cl x => !(s.clp x).shut

/-! ## Events of a link (R265, R439) -/

/-- AL_LINK with LAST_LINK, or CL_LINK. -/
def State.linkEvent (s : State) (e : LinkEnd) (cause : Nat) : State :=
  match e with
  | .al n => (s.setFld (Reg.AL_EVENT n) F.AL_EVENT_LAST_LINK cause).evAl n 0
  | .cl _ => s.evTw 8
/-- AL_ERR with LAST_ERR, or CL_ERR. -/
def State.linkErr (s : State) (e : LinkEnd) (code : Nat) : State :=
  match e with
  | .al n => (s.setFld (Reg.AL_EVENT n) F.AL_EVENT_LAST_ERR code).evAl n 1
  | .cl _ => s.evTw 9
/-- AL_TIMING with LAST_TIMING, or CL_TIMING. -/
def State.linkTiming (s : State) (e : LinkEnd) (code : Nat) : State :=
  match e with
  | .al n => (s.setFld (Reg.AL_EVENT n) F.AL_EVENT_LAST_TIMING code).evAl n 2
  | .cl _ => s.evTw 10
/-- A protocol error is counted, with its event (R265, R439). -/
def State.linkProto (s : State) (e : LinkEnd) : State :=
  (s.cnt (match e with | .al n => Reg.AL_PROTO n | .cl x => Reg.CL_PORT_PROTO x)).linkErr e 6
/-- A mismatch of half-frames or cells counted `n` times. -/
def State.linkProtos : Nat → State → LinkEnd → State
  | 0, s, _ => s
  | n + 1, s, e => (s.linkProto e).linkProtos n e

/-! ## Credit classes (R247) -/

/-- The key of a class: CLASS 0 stream, 1 posted, 2 non-posted, 3 answers. -/
def crKey (cls sid : Nat) : Nat := 65536 * cls + sid
/-- A class that the device grants. -/
def State.crRx (s : State) (n k : Nat) : CrRx := SMap.get {} (s.port n).rx k
/-- A class that the device grants, replaced by its image under `f`. -/
def State.updRx (s : State) (n k : Nat) (f : CrRx → CrRx) : State :=
  s.updPort n (fun p => { p with rx := SMap.upd {} p.rx k f })
/-- A bus class that the local end grants. -/
def State.crTx (s : State) (n k : Nat) : CrTx := SMap.get {} (s.port n).tx k
/-- A bus class that the local end grants, replaced by its image under `f`. -/
def State.updTx (s : State) (n k : Nat) (f : CrTx → CrTx) : State :=
  s.updPort n (fun p => { p with tx := SMap.upd {} p.tx k f })
/-- A control word joins those that wait, unless it waits already. -/
def State.addCtl (s : State) (n : Nat) (c : Ctl) : State :=
  s.updPort n (fun p => if p.ctl.contains c then p else { p with ctl := p.ctl ++ [c] })
/-- Resynchronisation of a class (R251): CRESYNC with BASE = RECEIVED, GRANTED = BASE, then a CREDIT. `wait`: blocks and
cells are dropped until the LEDGER comes. -/
def State.resync (s : State) (n k : Nat) (wait : Bool) : State :=
  (s.updRx n k (fun c => { c with granted := c.recvd, wait := wait })).addCtl n (.cresync k)

/-! ## Host accesses ended by the bridge (R275, R281) -/

/-- AER completes a request with CA: bit 15 of AER, and the completion. -/
def State.completeCa (s : State) (m : Nat) (sl : Option Nat) : State := (s.aerTlp m aerCa).emit (.cpl m 4 [] sl)

/-- Host reads ended with CA. -/
def State.endReads : State → List HostRead → State
  | s, [] => s
  | s, r :: rs => (s.completeCa r.m r.sl).endReads rs

/-! ## Lane maps (R259, R260, R412) -/

/-- Logical lane `l` of port `n` moves to spare `ph` in both directions: AL_LANEMAP and AL_GRP_SPARE_STAT change, the lane
that it leaves is powered down, a spare among them free again, and the repair record is due (R259, R557). -/
def State.moveLane (s : State) (n l ph : Nat) : State :=
  let g := n / 8
  let k := Reg.AL_GRP_SPARE_STAT g
  let f := if l = 0 then F.AL_LANEMAP_LANE0 else F.AL_LANEMAP_LANE1
  let was := s.fld (Reg.AL_LANEMAP n) f
  let s := if was = 16 ∧ ph ≠ 16 then
      ((s.setFld k F.AL_GRP_SPARE_STAT_USED16 0).setFld k F.AL_GRP_SPARE_STAT_PORT16 0).setFld k F.AL_GRP_SPARE_STAT_LLANE16 0
    else if was = 17 ∧ ph ≠ 17 then
      ((s.setFld k F.AL_GRP_SPARE_STAT_USED17 0).setFld k F.AL_GRP_SPARE_STAT_PORT17 0).setFld k F.AL_GRP_SPARE_STAT_LLANE17 0
    else s
  let s := s.setFld (Reg.AL_LANEMAP n) f ph
  let s := if ph = 16 then
      ((s.setFld k F.AL_GRP_SPARE_STAT_USED16 1).setFld k F.AL_GRP_SPARE_STAT_PORT16 (n % 8)).setFld k F.AL_GRP_SPARE_STAT_LLANE16 l
    else
      ((s.setFld k F.AL_GRP_SPARE_STAT_USED17 1).setFld k F.AL_GRP_SPARE_STAT_PORT17 (n % 8)).setFld k F.AL_GRP_SPARE_STAT_LLANE17 l
  s.setRepairDue true

/-- Logical lane `l` of Cloton port `x` moves to physical lane 4 (R412). -/
def State.moveClLane (s : State) (x l : Nat) : State :=
  (((s.updCl x (fun k => { k with map := some l })).setRepairDue true).setFld
    (Reg.CL_PORT_STAT x) F.CL_PORT_STAT_SPARE_USED 1).evTw 14

/-- The lane and the spare of a swap whose GO slot has come (R260). -/
def SwapRt.gone (now : Nat) (w : SwapRt) : Option (Nat × Nat) :=
  if w.goAt.any (fun c => decide (c ≤ now)) then some (w.lane, w.phys) else none

/-! ## Loss of an A-link (R262) -/

/-- A tx block that was read for its slot or waits for one is discarded: its release is Missed (R262). -/
def missReady : State → Nat → List Block → State
  | s, _, [] => s
  | s, p, b :: bs =>
    missReady (match b.tx with
      | .ready _ => s.missTx p (tlCount b.h0)
      | .held => s.missTx p (tlCount b.h0)
      | _ => s) p bs

/-- The blocks of a tx pail that were read for their slots are finished. -/
def finReady (l : List Block) : List Block :=
  l.map (fun b => match b.tx with
    | .ready _ => { b with fin := true, tx := .none }
    | .held => { b with fin := true, tx := .none }
    | _ => b)

/-- The enabled pails of a role on port `n`. -/
def State.portPails (s : State) (n role : Nat) : List Nat :=
  (listed s.gen (Reg.VAT_PAIL_A 0) 0x40 16384).filter
    (fun p => s.pailEn p && s.pailRole p == role && s.pailPort p == n)

/-- Tx pails of a port lose the blocks read for their slots, and their markers. -/
def State.dropTx : State → List Nat → State
  | s, [] => s
  | s, p :: ps =>
    let s := missReady s p (s.pail p).blocks
    let s := s.updPail p (fun r => { r with blocks := finReady r.blocks, missed := [] })
    (s.freePail p).dropTx ps

/-- Rx pails of a port lose the blocks on their way. -/
def State.dropRx : State → List Nat → State
  | s, [] => s
  | s, p :: ps => (s.updPail p (fun r => { r with arrivals := [] })).dropRx ps

/-- The loss of A-link `n` (R262, R281): transmitters idle, uncommitted uplink blocks, bus cells, host reads and
retried-read entries ended, credit and SEQ cleared, releases Missed, AL_LINK raised. The port is then Down, and tries to
lock again at once if the far end is present. -/
def State.alLoss (s : State) (n : Port) (cause : Nat) : State :=
  if s.tstate (.al n) = 0 then s
  else
    let p := s.port n
    let lost := ((p.unack ++ p.busQ).filter (fun c => c.cls == 1)).length
    let past := p.swap.bind (SwapRt.gone s.ticks)
    let s := s.setTstate (.al n) 0
    let s := (((s.setFld (Reg.AL_STAT n) F.AL_STAT_CDR0 0).setFld (Reg.AL_STAT n) F.AL_STAT_CDR1 0).setFld (Reg.AL_STAT n) F.AL_STAT_FRAME_LOCK 0).setFld
      (Reg.AL_STAT n) F.AL_STAT_AUDIT_LATE 0
    let s := s.dropRx (s.portPails n 0)
    let s := s.dropTx (s.portPails n 1)
    let s := s.addCnt (Reg.AL_BR_LOST n) lost 0xFFFFFFFF
    let s := s.endReads (p.reads ++ p.waitRd)
    let s := s.updPort n (fun p =>
      { p with rx := [], tx := [], txSeq := 0, rxSeq := 0, nakked := false, unack := [], busQ := [], mid := none, ctl := [],
               calOut := [], calRun := 0, calOk := false, syncAt := none, reads := [], waitRd := [], retried := [],
               first := true, swap := none, cand := [], shut := false,
               train := { p.train with good := 0, bad := 0, farLock := false, farDone := 0, retryAt := some s.ticks } })
    -- a swap past its GO slot stands (R260)
    (match past with
     | some (l, ph) => s.moveLane n l ph
     | none => s).linkEvent (.al n) cause

/-! ## Loss of a Cloton link (R409, R411) -/

/-- What a Cloton port keeps for the other end: cells not acknowledged go back to wait, since SEQ restarts at the next
entry to Up. -/
def ClRt.down (c : ClRt) (now : Nat) : ClRt :=
  { c with ctl := [], unack := [], hUnack := [], txSeq := 0, hTxSeq := 0, rxSeq := 0, hRxSeq := 0, calWait := false,
           dly := [], swap := none, hbDue := false, shut := false,
           train := { c.train with good := 0, bad := 0, farLock := false, farDone := 0, retryAt := some now } }

/-- PAIR of TW_STAT takes a value; a change raises TW_PAIR (R405). -/
def State.setPair (s : State) (v : Nat) : State :=
  if s.pair = v then s else (s.setFld Reg.TW_STAT F.TW_STAT_PAIR v).evTw 0

/-- The loss of Cloton link `x` (R405, R409): the port goes Down; on C0 the pair is Unpaired. -/
def State.clLoss (s : State) (x : Nat) : State :=
  if s.fld (Reg.CL_PORT_STAT x) F.CL_PORT_STAT_TSTATE = 0 then s
  else
    let past := (s.clp x).swap.bind (SwapRt.gone s.ticks)
    let s := (s.setFld (Reg.CL_PORT_STAT x) F.CL_PORT_STAT_TSTATE 0).setFld (Reg.CL_PORT_STAT x) F.CL_PORT_STAT_NBR_VALID 0
    let s := match past with
      | some (l, _) => s.moveClLane x l
      | none => s
    let s := s.updCl x (fun c => { c.down s.ticks with train := { (c.down s.ticks).train with since := s.ticks } })
    (if x = 0 then s.setPair 0 else s).evTw 8

/-- The loss of a link with its LAST_LINK cause. -/
def State.linkLoss (s : State) (e : LinkEnd) (cause : Nat) : State :=
  match e with
  | .al n => s.alLoss n cause
  | .cl x => s.clLoss x

/-! ## Training (R254, R255, R261) -/

/-- A link in Down enters Lock when its port is enabled, its domain released and the far end present. -/
def State.tryLockLink (s : State) (e : LinkEnd) : State :=
  if s.tstate e = 0 ∧ s.linkEn e = true ∧ s.linkOn e = true ∧ (s.train e).present = true ∧
      (s.train e).retryAt.all (fun t => decide (t ≤ s.ticks)) = true then
    (s.setTstate e 1).updTrain e (fun t => { t with retryAt := none, good := 0, bad := 0, farLock := false, farDone := 0 })
  else s

/-- A failure of training (R254): Down, counted, AL_LINK at failures 16k + 1, and a retry 1 ms later. -/
def State.trainFail (s : State) (e : LinkEnd) : State :=
  let s := s.setTstate e 0
  let s := s.updTrain e (fun t => { t with fails := t.fails + 1, retryAt := some (s.ticks + 1966080), good := 0, bad := 0,
                                           farLock := false, farDone := 0 })
  match e with
  | .al n =>
    let s := s.cnt (Reg.AL_TRAINFAIL n)
    let s := ((s.setFld (Reg.AL_STAT n) F.AL_STAT_CDR0 0).setFld (Reg.AL_STAT n) F.AL_STAT_CDR1 0).setFld (Reg.AL_STAT n) F.AL_STAT_FRAME_LOCK 0
    let s := s.updPort n (fun p => { p with rx := [], tx := [], calOut := [], calRun := 0, calOk := false, syncAt := none, ctl := [],
                                            shut := false })
    if (s.train e).fails % 16 = 1 then s.linkEvent e 6 else s
  | .cl x =>
    let s := s.cnt (Reg.CL_PORT_TRAINFAIL x)
    s.updCl x (fun c => { c with calWait := false, ctl := [], shut := false })

/-- PRESENCE_PROBE (R261): once per millisecond in Down; three probes alike change PRESENT. -/
def execPresenceProbe (e : LinkEnd) (found : Found) (s : State) : Res :=
  if s.tstate e = 0 ∧ s.linkOn e = true ∧ (s.train e).probeAt.all (fun t => decide (t + 1966080 ≤ s.ticks)) = true then
    let was := (s.train e).present
    let s := s.updTrain e (fun t =>
      { t with probeAt := some s.ticks,
               hits := if found = .all then min 3 (t.hits + 1) else 0,
               misses := if found = .none then min 3 (t.misses + 1) else 0 })
    let t := s.train e
    let is := if t.hits = 3 then true else if t.misses = 3 then false else was
    let s := s.updTrain e (fun t => { t with present := is })
    let s := match e with
      | .al n =>
        let s := s.setFld (Reg.AL_STAT n) F.AL_STAT_PRESENT (if is then 1 else 0)
        if was && !is then s.linkEvent e 7 else s
      | .cl _ => s
    .next (s.tryLockLink e)
  else .next s

/-- RECEIVER_LOCK (R254): the receiver has been locked on every lane for 100 µs. -/
def execReceiverLock (e : LinkEnd) (s : State) : Res :=
  if s.tstate e = 1 ∧ (s.train e).since + 196608 ≤ s.ticks then
    let s := match e with
      | .al n => (s.setFld (Reg.AL_STAT n) F.AL_STAT_CDR0 1).setFld (Reg.AL_STAT n) F.AL_STAT_CDR1 1
      | .cl x =>
        -- the phase is latched at entry to Align (R434)
        let src := s.fld (Reg.CL_PORT_CFG x) F.CL_PORT_CFG_PHASE_SRC
        let ph := if x = 0 ∨ src = 0 ∨ src = x.val then 0
          else (s.fld (Reg.CL_PORT_STAT src) F.CL_PORT_STAT_RXPHASE + 312) % 32
        s.setFld (Reg.CL_PORT_STAT x) F.CL_PORT_STAT_PHASE ph
    .next (s.setTstate e 2)
  else .next s

/-- FRAME_LOCK (R254): own frame lock, and LOCKED in the far end's training word. -/
def execFrameLock (e : LinkEnd) (s : State) : Res :=
  if s.tstate e = 2 ∧ 8 ≤ (s.train e).good ∧ (s.train e).farLock = true then .next (s.setTstate e 3) else .next s

/-- CFG_DONE (R254, R256, R409): eight consecutive far training frames with CFG_DONE; in Calibrate DLY_REQ goes out first. -/
def execCfgDone (e : LinkEnd) (s : State) : Res :=
  if s.tstate e = 3 ∧ 8 ≤ (s.train e).farDone then
    let s := s.setTstate e 4
    .next (match e with
      | .al n =>
        let s := s.updPort n (fun p => { p with calAt := s.ticks, calOk := false, syncAt := none, calOut := [], calRun := 0, ctl := [],
                                                rx := [], tx := [] })
        s.addCtl n .dlyReq
      | .cl x => s.updCl x (fun c =>
          { c with calId := (c.calId + 1) % 65536, calWait := true, calOk := false, calAt := s.ticks, calT1 := 0, dly := [],
                   ctl := c.ctl ++ [[BitVec.ofNat 64 (6 * 2 ^ 60 + (c.calId + 1) % 65536)]] }))
  else .next s

/-- In Calibrate, what R254 asks for before Up has been done: a round trip measured, TL_SYNC sent and the first CREDIT of
each bus class sent; on Cloton, a round trip measured. -/
def State.calibrated (s : State) : LinkEnd → Bool
  | .al n =>
    let p := s.port n
    p.calOk && p.syncAt.isSome && [1, 2, 3].all (fun c => decide ((s.crRx n (crKey c 0)).granted ≠ 0))
  | .cl x => (s.clp x).calOk

/-- CALIBRATE_COMPLETE (R254, R265): the port enters Up. -/
def execCalibrateComplete (e : LinkEnd) (s : State) : Res :=
  if s.tstate e = 4 ∧ s.calibrated e = true then
    let s := (s.setTstate e 5).updTrain e (fun t => { t with fails := 0 })
    .next (s.linkEvent e 1)
  else .next s

/-- The time limit of a training state (R254). -/
def trainLimit (v : Nat) : Nat :=
  match v with
  | 1 => 3932160
  | 2 => 1966080
  | 3 => 196608
  | _ => 1966080

/-- TRAINING_TIMEOUT (R254). -/
def execTrainingTimeout (e : LinkEnd) (s : State) : Res :=
  let v := s.tstate e
  if 1 ≤ v ∧ v ≤ 4 ∧ (s.train e).since + trainLimit v ≤ s.ticks then .next (s.trainFail e) else .next s

/-- TRAINING_RETRY (R254, R262): 1 ms after a failure, or after a loss of link, the port tries again. -/
def execTrainingRetry (e : LinkEnd) (s : State) : Res :=
  match (s.train e).retryAt with
  | some t => if t ≤ s.ticks then .next (s.tryLockLink e) else .next s
  | none => .next s

/-! ## Lane sparing (R259, R260, R412) -/

/-- A swap of a port of group `g` is under way to spare `ph`. -/
def State.spareTaken (s : State) (g ph : Nat) : Bool :=
  (List.range 8).any (fun i => (s.port (8 * g + i)).swap.any (fun w => w.phys == ph))

/-- The physical lanes of a group's spares that are free, promised to no swap, and reach port `n` (R259). -/
def State.freeSpares (s : State) (n : Nat) : List Nat :=
  let g := n / 8
  let k := Reg.AL_GRP_SPARE_STAT g
  let cfg := Reg.AL_GRP_SPARE_CFG g
  (if s.flag k F.AL_GRP_SPARE_STAT_USED16 = false ∧ s.spareTaken g 16 = false ∧
      (s.fld cfg F.AL_GRP_SPARE_CFG_REACH16).testBit (n % 8) = true then [16] else []) ++
  (if s.flag k F.AL_GRP_SPARE_STAT_USED17 = false ∧ s.spareTaken g 17 = false ∧
      (s.fld cfg F.AL_GRP_SPARE_CFG_REACH17).testBit (n % 8) = true then [17] else [])

/-- A swap of logical lane `l` of port `n` to spare `ph` starts with SPARE PREP (R259): one swap at a time. -/
def State.startSwap (s : State) (n l ph : Nat) : State :=
  if (s.port n).swap.isSome then s
  else (s.updPort n (fun p => { p with swap := some ⟨l, ph, s.ticks, none⟩ })).addCtl n (.spare 0 l ph)

/-- The word SPARE (R242): FCNT in GO alone. -/
def spareWord (op lane phys fcnt : Nat) : Word :=
  BitVec.ofNat 64 (0xB * 2 ^ 60 + op * 2 ^ 58 + lane * 2 ^ 57 + phys * 2 ^ 52 + (if op = 2 then fcnt % 256 else 0))

/-- The word SPARE of a Cloton port names one of four logical lanes: its bit 57 holds lane bit 0 and bit 51 lane bit 1
(PRESUMED, log 40). -/
def clSpareWord (op lane fcnt : Nat) : Word :=
  BitVec.ofNat 64 (0xB * 2 ^ 60 + op * 2 ^ 58 + (lane % 2) * 2 ^ 57 + 4 * 2 ^ 52 + (lane / 2) * 2 ^ 51 +
    (if op = 2 then fcnt % 256 else 0))

/-- A swap of logical lane `l` of Cloton port `x` to physical lane 4 starts (R412). -/
def State.startClSwap (s : State) (x l : Nat) : State :=
  if (s.clp x).swap.isSome ∨ s.flag (Reg.CL_PORT_STAT x) F.CL_PORT_STAT_SPARE_USED = true then s
  else s.updCl x (fun c => { c with swap := some ⟨l, 4, s.ticks, none⟩, ctl := c.ctl ++ [[clSpareWord 0 l 0]] })

/-- SPARE_READY (R259): the local end has locked on the spare, and so has the device; SPARE GO follows, with an FCNT 16
frames ahead of the frame that carries it. -/
def execSpareReady (e : LinkEnd) (w : Word) (s : State) : Res :=
  match e with
  | .al n =>
    match (s.port n).swap with
    | some ⟨l, ph, t, none⟩ =>
      if s.isUp e = true ∧ s.frameIn e = true ∧ wbits w 63 60 = 0xB ∧ wbits w 59 58 = 1 then
        -- GO is carried by the port's next slot
        let c := s.ticks + (32 - s.now % 32) % 32 + 16 * 32
        .next ((s.updPort n (fun p => { p with swap := some ⟨l, ph, t, some c⟩ })).addCtl n (.spare 2 l ph))
      else .next s
    | _ => .next s
  | .cl x =>
    match (s.clp x).swap with
    | some ⟨l, ph, t, none⟩ =>
      if s.isUp e = true ∧ s.frameIn e = true ∧ wbits w 63 60 = 0xB ∧ wbits w 59 58 = 1 then
        -- GO is carried by the port's next slot
        let c := s.ticks + (32 + s.fld (Reg.CL_PORT_STAT x) F.CL_PORT_STAT_PHASE - s.now % 32) % 32 + 16 * 32
        let f := (s.clp x).fcnt + 16
        .next (s.updCl x (fun p => { p with swap := some ⟨l, ph, t, some c⟩, ctl := p.ctl ++ [[clSpareWord 2 l f]] }))
      else .next s
    | _ => .next s

/-- LANE_SWAP (R259, R412): at the slot with the FCNT of GO, both ends move the lane to the spare. -/
def execLaneSwap (e : LinkEnd) (s : State) : Res :=
  match e with
  | .al n =>
    match (s.port n).swap with
    | some ⟨l, ph, _, some c⟩ =>
      if c ≤ s.ticks then .next ((s.updPort n (fun p => { p with swap := none })).moveLane n l ph) else .next s
    | _ => .next s
  | .cl x =>
    match (s.clp x).swap with
    | some ⟨l, _, _, some c⟩ =>
      if c ≤ s.ticks then .next ((s.updCl x (fun k => { k with swap := none })).moveClLane x l)
      else .next s
    | _ => .next s

/-- SPARE_ABORT_TIMEOUT (R259): no READY within 2 ms of PREP; SPARE ABORT is sent and the port keeps the old lane. -/
def execSpareAbortTimeout (e : LinkEnd) (s : State) : Res :=
  match e with
  | .al n =>
    match (s.port n).swap with
    | some ⟨l, ph, t, none⟩ =>
      if t + 3932160 ≤ s.ticks then
        .next (((s.updPort n (fun p => { p with swap := none })).addCtl n (.spare 3 l ph)).linkErr e 8)
      else .next s
    | _ => .next s
  | .cl x =>
    match (s.clp x).swap with
    | some ⟨l, _, t, none⟩ =>
      if t + 3932160 ≤ s.ticks then
        .next ((s.updCl x (fun c => { c with swap := none, ctl := c.ctl ++ [[clSpareWord 3 l 0]] })).linkErr e 8)
      else .next s
    | _ => .next s

/-- RECOVERED_CLOCK_LOSS (R254, R260, R262): the recovered clock of a logical lane is lost for 64 Tc. The link goes down, or
its training fails; retraining uses a free spare within the mask if there is one. -/
def execRecoveredClockLoss (e : LinkEnd) (lane : Fin 4) (s : State) : Res :=
  if 2 ≤ s.tstate e then
    let up := s.isUp e
    match e with
    | .al n =>
      let past := (s.port n).swap.bind (SwapRt.gone s.ticks)
      let s := if up then s.alLoss n 2 else s.trainFail e
      .next (match s.freeSpares n with
        | ph :: _ => if past.any (fun x => x.1 == lane.val % 2) then s else s.moveLane n (lane.val % 2) ph
        | [] => s)
    | .cl x =>
      let s := if up then s.clLoss x else s.trainFail e
      .next (if s.flag (Reg.CL_PORT_STAT x) F.CL_PORT_STAT_SPARE_USED then s else s.moveClLane x lane)
  else .next s

/-- AL_CTRL_RETRAIN (R262): a write of AL_CTRL.RETRAIN. -/
def execAlCtrlRetrain (n : Port) (s : State) : Res := .next (s.alLoss n 5)

/-- CL_PORT_RETRAIN (R409): a write of CL_PORTx_CFG.RETRAIN. -/
def execClPortRetrain (x : ClPort) (s : State) : Res := .next (s.clLoss x)

end Sys2Proof.Machine
end

