-- ==== Sys2Proof/Machine/Wire.lean ====
section
/-! DEFINITION. The wire of an A-link or Cloton frame slot: the Reed-Solomon code, the lanes, the scrambler and the levels, in
both directions (08 R232 to R236, R254, 14 R408). `lanesOf` gives what leaves the balls for a slot of `State.out`;
`receive` gives what FRAME_RECEIVE reports of the levels that arrive. -/

namespace Sys2Proof.Machine

/-! ## The field GF(2^12) (R235) -/

/-- A field element times α, a root of x^12 + x^6 + x^4 + x + 1. -/
def gfAlpha (a : Nat) : Nat := if a.testBit 11 then (2 * a) ^^^ 0x1053 else 2 * a

/-- The product of two field elements, over the `n` lowest bits of the first. -/
def gfMulBits : Nat → Nat → Nat → Nat
  | 0, _, _ => 0
  | n + 1, a, b => (if a % 2 = 1 then b else 0) ^^^ gfMulBits n (a / 2) (gfAlpha b)

/-- The product of two field elements. -/
def gfMul (a b : Nat) : Nat := gfMulBits 12 a b

/-- α to the power `i`. -/
def gfExp : Nat → Nat
  | 0 => 1
  | i + 1 => gfAlpha (gfExp i)

/-- The inverse of a field element, by its 2^12 − 2nd power: `n` squarings left, with what they have given. -/
def gfInvGo : Nat → Nat → Nat → Nat
  | 0, _, r => r
  | n + 1, a, r => let q := gfMul a a; gfInvGo n q (gfMul r q)

/-- The inverse of a field element that is not 0. -/
def gfInv (a : Nat) : Nat := gfInvGo 11 a 1

/-- The value of a polynomial at a point, its highest coefficient first. -/
def gfEval (p : List Nat) (x : Nat) : Nat := p.foldl (fun acc c => gfMul acc x ^^^ c) 0

/-! ## The code RS(720,688) (R235, R236) -/

/-- A polynomial times (x − c), its highest coefficient first. -/
def polyRoot (p : List Nat) (c : Nat) : List Nat :=
  List.zipWith (· ^^^ ·) (p ++ [0]) (0 :: p.map (gfMul c))

/-- The generator polynomial: the product of (x − α^i) for i = 0 to 31, its highest coefficient first. -/
def rsGen : List Nat := (List.range 32).foldl (fun p i => polyRoot p (gfExp i)) [1]

/-- One step of the division by the generator: the remainder register takes one more data symbol. -/
def rsStep (reg : List Nat) (d : Nat) : List Nat :=
  let f := d ^^^ reg.getD 0 0
  List.zipWith (fun r g => r ^^^ gfMul f g) (reg.drop 1 ++ [0]) (rsGen.drop 1)

/-- The 32 parity symbols of a list of data symbols. -/
def rsParity (data : List Nat) : List Nat := data.foldl rsStep (List.replicate 32 0)

/-- A codeword: symbol j is the coefficient of x^(719 − j). -/
def rsEncode (data : List Nat) : List Nat := data ++ rsParity data

/-- The 32 syndromes of a received word. -/
def rsSyndromes (r : List Nat) : List Nat := (List.range 32).map (fun i => gfEval r (gfExp i))

/-- The state of the search for the error locator: the locator and its last copy, lowest coefficient first, its degree, the
steps since the copy and the copy's discrepancy. -/
structure Locator where
  poly : List Nat
  old  : List Nat
  deg  : Nat
  gap  : Nat
  disc : Nat
  deriving DecidableEq, Repr

/-- The sum of two polynomials, lowest coefficient first. -/
def polyAdd : List Nat → List Nat → List Nat
  | [], q => q
  | p, [] => p
  | a :: p, b :: q => (a ^^^ b) :: polyAdd p q

/-- One step of the search: syndrome `n` meets the locator found so far. -/
def Locator.step (syn : List Nat) (l : Locator) (n : Nat) : Locator :=
  let d := (List.range (l.deg + 1)).foldl (fun acc i => acc ^^^ gfMul (l.poly.getD i 0) (syn.getD (n - i) 0)) 0
  if d = 0 then { l with gap := l.gap + 1 }
  else
    let q := gfMul d (gfInv l.disc)
    let new := polyAdd l.poly (List.replicate l.gap 0 ++ l.old.map (gfMul q))
    if 2 * l.deg ≤ n then { poly := new, old := l.poly, deg := n + 1 - l.deg, gap := 1, disc := d }
    else { l with poly := new, gap := l.gap + 1 }

/-- The error locator of a list of syndromes. -/
def locator (syn : List Nat) : Locator :=
  (List.range 32).foldl (Locator.step syn) { poly := [1], old := [1], deg := 0, gap := 1, disc := 1 }

/-- The value at a point of a polynomial with its lowest coefficient first. -/
def polyAt (p : List Nat) (x : Nat) : Nat := gfEval p.reverse x

/-- The powers of α at the places of the symbols 0 to 719, and their inverses. -/
def places : List (Nat × Nat × Nat) :=
  (List.range 720).map (fun j => (j, gfExp (719 - j), gfExp (4095 - (719 - j))))

/-- The error in a symbol whose place is `x`, with inverse `xi` (the code's first root is α^0). -/
def errorAt (syn poly : List Nat) (x xi : Nat) : Nat :=
  -- the evaluator: the low 32 coefficients of syndromes times locator
  let omega := (List.range 32).map (fun k =>
    (List.range (k + 1)).foldl (fun acc i => acc ^^^ gfMul (poly.getD i 0) (syn.getD (k - i) 0)) 0)
  let slope := (List.range poly.length).map (fun i => if i % 2 = 0 then poly.getD (i + 1) 0 else 0)
  gfMul x (gfMul (polyAt omega xi) (gfInv (polyAt slope xi)))

/-- A received word decoded: the codeword and the symbols that were corrected, at most 16; none where it is uncorrectable. -/
def rsDecode (r : List Nat) : Option (List Nat × List Nat) :=
  let syn := rsSyndromes r
  if syn.all (· == 0) then some (r, [])
  else
    let l := locator syn
    let hits := places.filter (fun e => polyAt l.poly e.2.2 == 0)
    if 16 < l.deg ∨ hits.length ≠ l.deg then none
    else
      let fixed := hits.foldl (fun w e => setAt w e.1 (w.getD e.1 0 ^^^ errorAt syn l.poly e.2.1 e.2.2)) r
      if (rsSyndromes fixed).all (· == 0) then some (fixed, hits.map (·.1)) else none

/-! ## Data bits, symbols and lanes (R235, R236) -/

/-- Symbols of 12 bits of a list of bytes taken from bit 7 down, two to three bytes. -/
def symbolsOf : List Byte → List Nat
  | a :: b :: c :: l => (a.toNat * 16 + b.toNat / 16) :: (b.toNat % 16 * 256 + c.toNat) :: symbolsOf l
  | _ => []

/-- The bytes of a list of symbols. -/
def bytesOfSymbols : List Nat → List Byte
  | x :: y :: l => BitVec.ofNat 8 (x / 16) :: BitVec.ofNat 8 (x % 16 * 16 + y / 256) :: BitVec.ofNat 8 y :: bytesOfSymbols l
  | _ => []

/-- The codeword of a frame: its header from bit 63 down, its 1,024 payload bytes, and the parity. -/
def codeword (hdr : Word) (cells : List (List Word)) : List Nat :=
  rsEncode (symbolsOf (beBytes 8 hdr.toNat ++ cells.flatMap bytesOfWords))

/-- The header and the cells of a codeword. -/
def frameOf (w : List Nat) : Word × List (List Word) :=
  let bs := bytesOfSymbols (w.take 688)
  (BitVec.ofNat 64 (beNat (bs.take 8)), (List.range 16).map (fun c => wordsOf 8 ((bs.drop (8 + 64 * c)).take 64)))

/-- Every other element of a list, the first among them. -/
def evens {α : Type} : List α → List α
  | x :: _ :: l => x :: evens l
  | [x] => [x]
  | [] => []

/-- The symbols of logical lane 0 or 1 of a codeword. -/
def laneSymbols (w : List Nat) (lane : Nat) : List Nat := if lane = 0 then evens w else evens (w.drop 1)

/-- Two lanes' symbols in the codeword's order. -/
def joinLanes : List Nat → List Nat → List Nat
  | x :: xs, y :: ys => x :: y :: joinLanes xs ys
  | _, _ => []

/-- The low `n` bits of a number, the most significant first. -/
def msbBits (n v : Nat) : List Bool := ((List.range n).map (fun i => v.testBit i)).reverse

/-- The number that bits spell, the most significant first. -/
def ofBits (l : List Bool) : Nat := l.foldl (fun v b => 2 * v + (if b then 1 else 0)) 0

/-- Bits in groups of twelve, as symbols: `n` symbols. -/
def symbolsOfBits : Nat → List Bool → List Nat
  | 0, _ => []
  | n + 1, l => ofBits (l.take 12) :: symbolsOfBits n (l.drop 12)

/-! ## The scrambler (R234) -/

/-- One step of the scrambler x^31 + x^28 + 1: a register of 31 bits, whose bit 30 leaves, and into whose bit 0 goes the
exclusive or of bits 30 and 27. -/
def scrNext (r : Nat) : Nat := (2 * r) % 2 ^ 31 + (if r.testBit 30 != r.testBit 27 then 1 else 0)

/-- Bits combined with the scrambler's output, from register `r` on; the same step scrambles and descrambles. -/
def scramble : Nat → List Bool → List Bool
  | _, [] => []
  | r, b :: bs => (b != r.testBit 30) :: scramble (scrNext r) bs

/-- The scrambler's value at the first bit of a slot, by logical lane (R234, R408). -/
def scrSeed (lane : Nat) : Nat := if lane % 2 = 0 then 0x5A5A5A5A else 0x25A5A5A5

/-! ## Levels (R232, R254) -/

/-- The level of a pair of bits, the first the more significant. -/
def pam4 : Bool → Bool → Int
  | false, false => -3
  | false, true => -1
  | true, true => 1
  | true, false => 3

/-- The pair of bits of a level, as the receiver decides it. -/
def unpam4 (l : Int) : Bool × Bool :=
  if l < -2 then (false, false) else if l < 0 then (false, true) else if l < 2 then (true, true) else (true, false)

/-- The levels of a list of bits. -/
def levels : List Bool → List Int
  | a :: b :: l => pam4 a b :: levels l
  | _ => []

/-- The bits of a list of levels. -/
def bitsOfLevels (l : List Int) : List Bool := l.flatMap (fun x => [(unpam4 x).1, (unpam4 x).2])

/-- The 2,160 levels of a logical lane in a frame slot. -/
def laneLevels (hdr : Word) (cells : List (List Word)) (lane : Nat) : List Int :=
  levels (scramble (scrSeed lane) ((laneSymbols (codeword hdr cells) lane).flatMap (msbBits 12)))

/-- What the lanes of a slot carry: two of an A-link port, four of a Cloton port. -/
def lanesOf : Out → List (List Int)
  | .alink _ _ hdr cells => [0, 1].map (laneLevels hdr cells)
  | .cloton _ h0 c0 h1 c1 => [0, 1].map (laneLevels h0 c0) ++ [0, 1].map (laneLevels h1 c1)
  | _ => []

/-- The symbols of a lane from its levels. -/
def laneReceived (lane : Nat) (l : List Int) : List Nat := symbolsOfBits 360 (scramble (scrSeed lane) (bitsOfLevels l))

/-- What the levels of a slot's two lanes give: its header, its cells and the symbols corrected; none where it is
uncorrectable, which FRAME_RECEIVE reports as more than 16 symbol errors. -/
def receive (l0 l1 : List Int) : Option (Word × List (List Word) × List Nat) :=
  (rsDecode (joinLanes (laneReceived 0 l0) (laneReceived 1 l1))).map (fun e => ((frameOf e.1).1, (frameOf e.1).2, e.2))

/-- What a port's transmitters send in a training state (R254, R262). -/
inductive Sends where
  | idle        -- electrical idle
  | prbs13      -- the sequence of `prbs13`, unscrambled, on every logical lane
  | training    -- training frames
  | frames      -- normal frames
  deriving DecidableEq, Repr

/-- What is sent in state `v` of TSTATE. -/
def sendsIn (v : Nat) : Sends :=
  match v with
  | 0 => .idle
  | 1 => .prbs13
  | 2 => .training
  | 3 => .training
  | _ => .frames

/-- One step of x^13 + x^12 + x^2 + x + 1: a register of 13 bits whose bit 12 leaves (R254). -/
def prbs13 (r : Nat) : Nat :=
  (2 * r) % 2 ^ 13 + (if (r.testBit 12 != r.testBit 11) != (r.testBit 1 != r.testBit 0) then 1 else 0)

end Sys2Proof.Machine
end

