-- ==== Sys2Proof/Machine/Alink.lean ====
section
/-! DEFINITION. The A-link's frame slots in both directions: release tests, placement of blocks, markers, control and bus
cells, receipt of frames, credits, acknowledgement and calibration (02 R69 to R71, 08). -/

namespace Sys2Proof.Machine

/-! ## Pins and modes -/

/-- Group `g` is held shed (R472, R476). -/
def State.shed (s : State) (g : Nat) : Bool :=
  (s.fld Reg.PW_SHED_STAT F.PW_SHED_STAT_SUP_SHED).testBit g || (s.fld Reg.PW_SHED_STAT F.PW_SHED_STAT_TH_SHED).testBit g

/-- A sleep entry has completed the common step 4 of R457: TXINH and SB_BUSY are high (R589). -/
def State.entryMuted (s : State) : Bool :=
  decide (s.fld Reg.PW_ENTRY F.PW_ENTRY_TARGET ≠ 0 ∧ 4 ≤ s.fld Reg.PW_ENTRY F.PW_ENTRY_STEP ∧ s.fld Reg.PW_ENTRY F.PW_ENTRY_RESULT = 0)

/-- The level of TXINH[g] (R422, R452, R589). -/
def State.txinh (s : State) (g : Nat) : Bool :=
  if s.mode = 7 ∨ s.mode = 8 then s.shed g
  else
    decide (s.mode ≤ 3 ∨ s.mode = 0xA ∨ s.mode = 0xB ∨ s.mode = 0xC) || !s.on (domL g) || s.shed g || s.entryMuted

/-- ACT: the device is solo or the Active twin, in Run or Run-Shed (R237). -/
def State.act (s : State) : Bool := s.mode == 5 || s.mode == 6

/-! ## Tx releases (R27, R60, R69 to R71, R74) -/

/-- A block of a tx pail replaced by its image under `f`. -/
def State.updBlock (s : State) (p : Nat) (b : Block) (f : Block → Block) : State :=
  s.updPail p (fun r => { r with blocks := r.blocks.map (fun x => if x.off = b.off ∧ x.h0 = b.h0 then f x else x) })

/-- A tx block's release is marked Missed: the block is finished (R181) and a marker takes its place. -/
def State.missBlock (s : State) (p : Nat) (b : Block) : State :=
  let s := s.updBlock p b (fun x => { x with fin := true, tx := .none })
  (s.missTx p (tlCount b.h0)).freePail p

/-- A read that begins now would bring the block to its gate more than TL_LATE_LIMIT after T: nothing is started (R81). -/
def State.readLate (s : State) (t : Nat) : Bool :=
  decide (0 < tlDiff s.now (tlAdd t ((s.fld Reg.TL_LATE_LIMIT F.TL_LATE_LIMIT_LIMIT : Int) - 188)))

/-- ALINK_TX_READ (R27, R60, R74, R185, R262): the A-link reads the oldest block that it has not read. `hits` are the errors
that the read meets. -/
def execAlinkTxRead (p : Pail) (hits : List EccHit) (s : State) : Res :=
  if s.pailRole p = 1 then
    match (s.pail p).blocks.find? (fun b => b.tx == .wait && !b.fin) with
    | none => .next s
    | some b =>
      let n := s.pailPort p
      let t := tlCount b.h0
      let lead : Nat := 188 + s.fld (Reg.TL_LEAD_AL n) F.TL_LEAD_AL_LEAD
      if tlReached s.now (tlAdd t (-(lead : Int))) then
        if t % 32 ≠ 0 then .next ((s.missBlock p b).evTl 10)
        else if s.fld (Reg.AL_STAT n) F.AL_STAT_TSTATE ≠ 5 ∨ s.uncal n ∨ s.readLate t then .next (s.missBlock p b)
        else
          let (s, bad) := s.readErrors p b hits
          let s := s.keepPoison p b bad
          let s := s.updBlock p b (fun x => { x with tx := .ready (s.coreNow + 188) })
          -- a poisoned block goes out whole and its release is Missed, without a marker
          .next (if bad = [] then s else s.evTl 8)
      else .next s
  else .next s

/-- Releases are performed in this mode (R26, R34). -/
def State.releasesTx (s : State) : Bool := s.mode == 5 || s.mode == 6 || s.mode == 9

/-- The release test of one block at its instant (R69, R39): performed, held or Missed. -/
def State.testRelease (s : State) (p : Nat) (b : Block) : State :=
  match b.tx with
  | .none => s
  | .held => s
  | _ =>
    if b.rel || b.fin || !tlReached s.now (tlCount b.h0) then s
    else if !s.releasesTx then s.missBlock p b
    else if s.tlState = 2 then s.updBlock p b (fun x => { x with rel := true })
    else if s.holds (s.pailSlice p) then
      (match b.tx with
       | .ready _ => s.updBlock p b (fun x => { x with tx := .held })
       | _ => s)
    else s.missBlock p b

/-- The release tests of a list of blocks of one pail. -/
def State.testReleases : State → Nat → List Block → State
  | s, _, [] => s
  | s, p, b :: bs => (s.testRelease p b).testReleases p bs

/-- Releases whose block has not committed at their instant, under a policy of miss while not Locked (R69). -/
def State.testAwaited : State → Nat → List Nat → State
  | s, _, [] => s
  | s, p, t :: ts =>
    (if tlReached s.now t && s.tlState != 2 && !s.holds (s.pailSlice p) && s.releasesTx then s.missAhead p t else s).testAwaited p ts

/-- The release tests of the tx pails of a port. -/
def State.testPails : State → List Nat → State
  | s, [] => s
  | s, p :: ps => ((s.testReleases p (s.pail p).blocks).testAwaited p (s.pail p).expect).testPails ps

/-- HELD_RELEASE_TIMEOUT (R70): a held release TL_HOLD_LIMIT after its instant is Missed. -/
def execHeldReleaseTimeout (r : HeldRef) (s : State) : Res :=
  match r with
  | .tx p =>
    match (s.pail p).blocks.find? (fun b => b.tx == .held) with
    | some b =>
      if 0 < tlDiff s.now (tlAdd (tlCount b.h0) ((s.fld Reg.TL_HOLD_LIMIT F.TL_HOLD_LIMIT_LIMIT : Nat) : Int)) ∨
          tlDiff s.now (tlAdd (tlCount b.h0) ((s.fld Reg.TL_HOLD_LIMIT F.TL_HOLD_LIMIT_LIMIT : Nat) : Int)) = 0 then
        .next (s.missBlock p b)
      else .next s
    | none => .next s
  | .dma c => .next (s.dmaHoldOut c)

/-- Held blocks of every tx pail may go once the state is Locked (R71). -/
def letGoBlocks (l : List Block) : List Block :=
  l.map (fun b => if b.tx = .held then { b with tx := .ready 0, rel := true, late := some 0 } else b)

/-- Held blocks of every tx pail let go. -/
def letGoPails : SMap PailRt → SMap PailRt
  | [] => []
  | (k, r) :: m => (k, { r with blocks := letGoBlocks r.blocks }) :: letGoPails m

/-- TL_STATE_CHANGE (R63, R64, R71, R83): the change detected takes effect. -/
def execTlStateChange (s : State) : Res :=
  match s.tk.change with
  | none => .next s
  | some ⟨new, cause, at_⟩ =>
    if s.ticks ≤ at_ then .next s else
    let old := s.tlState
    let s := s.updTk (fun t => { t with change := none })
    let s := (s.setFld Reg.TL_STATE F.TL_STATE_STATE new).setFld Reg.TL_STATE F.TL_STATE_LAST_CAUSE cause
    let s := if old = new then s else s.evTl 0
    let s := if old = 0 ∧ new ≠ 0 then s.alarmsSkipped [0, 1, 2, 3] else s
    let s := if new = 2 then
        let s := s.setUncert 0
        (s.setPails (letGoPails s.pails)).dmaLetGo s.liveChans
      else s
    -- the level condition of cause 0x1: the reference present, the PLL locked and HAS_TIME 1
    .next (if new = 0 ∧ s.flag Reg.TL_STATE F.TL_STATE_REF_PRESENT = true ∧ s.flag Reg.TL_STATE F.TL_STATE_PLL_LOCK = true ∧
        s.flag Reg.TL_STATE F.TL_STATE_HAS_TIME = true then s.tlChange 1 0x1
      else if new = 1 then s.tryLock else s)

/-! ## Placement in a slot (R238 to R245, R358, R359) -/

/-- The port works in partitioned mode (R244). -/
def State.parted (s : State) (n : Nat) : Bool := s.flag (Reg.AL_CTRL n) F.AL_CTRL_PARTITIONED

/-- The slice to which the port's cell plan allots a cell (R358). -/
def State.cellOwner (s : State) (n c : Nat) : Option Nat :=
  ((List.range 4).find? (fun k =>
      s.flag (Reg.SL_CELL n k) F.SL_CELL_EN && decide (s.fld (Reg.SL_CELL n k) F.SL_CELL_FIRST ≤ c) &&
      decide (c < s.fld (Reg.SL_CELL n k) F.SL_CELL_FIRST + s.fld (Reg.SL_CELL n k) F.SL_CELL_COUNT))).map
    (fun k => s.fld (Reg.SL_CELL n k) F.SL_CELL_SLICE)

/-- Cell 15 is reserved for control in this frame (R238). -/
def reserved (fcnt c : Nat) : Bool := fcnt % 8 == 0 && c == 15

/-- Stream and bus cells of slice `sl` may use cell `c` (R244, R270, R359). -/
def State.mayUse (s : State) (n fcnt sl c : Nat) : Bool :=
  !reserved fcnt c && (!s.parted n || s.cellOwner n c == some sl)

/-- Control words of slice `sl`, or of the link where `none`, may use cell `c` (R359). -/
def State.mayCtl (s : State) (n fcnt : Nat) (sl : Option Nat) (c : Nat) : Bool :=
  !s.parted n ||
    (match sl with
     | none => reserved fcnt c || s.cellOwner n c == none
     | some x => !reserved fcnt c && s.cellOwner n c == some x)

/-- A frame being filled: each cell's kind and its words. -/
abbrev Cells := List (Option (Nat × List Word))

/-- Cell `c` is free. -/
def Cells.free (f : Cells) (c : Nat) : Bool := decide (c < f.length) && (f.getD c none).isNone

/-- The first of `k` consecutive cells that pass a test, from cell `c` up, `n` starts left to try. -/
def firstRun (ok : Nat → Bool) (k : Nat) : Nat → Nat → Option Nat
  | _, 0 => none
  | c, n + 1 => if (List.range k).all (fun i => ok (c + i)) then some c else firstRun ok k (c + 1) n

/-- Cells placed from cell `c` up. -/
def Cells.put (f : Cells) (c : Nat) (kind : Nat) : List (List Word) → Cells
  | [] => f
  | w :: ws => Cells.put (setAt f c (some (kind, w))) (c + 1) kind ws

/-- The stream cells of a block of stream `sid` (R239, R240): 60 bytes in each but the last. -/
def streamCells (sid : Nat) : Nat → List Byte → Bool → List (List Word)
  | 0, _, _ => []
  | n + 1, bs, sob =>
    let last := bs.length ≤ 60
    let d := bs.take 60
    let h := sid * 65536 + (if sob then 0x8000 else 0) + (if last then 0x4000 else 0) + d.length
    wordsOf 8 (leBytes 4 h ++ d) :: (if last then [] else streamCells sid n (bs.drop 60) false)

/-- The cells that carry a block or a marker: 17 at most. -/
def blockCells (sid : Nat) (h0 h1 : Word) (payload : List Word) : List (List Word) :=
  streamCells sid 20 (bytesOfWords (h0 :: h1 :: payload)) true

/-- A block or marker that may go into the slot: how far before the slot's start its release instant lies, its pail, its
instant and the block. -/
structure TxItem where
  ago : Int
  p   : Nat
  tl  : Word
  blk : Option Block
  deriving DecidableEq, Repr

/-- Items in order of release instant, then of pail (R243). -/
def insItem (x : TxItem) : List TxItem → List TxItem
  | [] => [x]
  | y :: ys => if y.ago < x.ago ∨ (y.ago = x.ago ∧ x.p < y.p) then x :: y :: ys else y :: insItem x ys

/-- The blocks and markers of pail `p` that may go in the slot that begins now (R27, R29, R243, R245). -/
def State.pailItems (s : State) (p : Nat) : List TxItem :=
  let r := s.pail p
  (r.blocks.filterMap (fun b => match b.tx with
    | .ready c => if b.rel ∧ c ≤ s.coreNow then some ⟨tlDiff s.now (tlCount b.h0), p, b.h0, some b⟩ else none
    | _ => none)) ++
  (r.missed.filterMap (fun w =>
    -- an invalid TL orders nothing: its marker goes last
    if !tlValid w then some ⟨0, p, w, none⟩
    else if tlCount w % 32 ≠ 0 ∨ tlReached s.now (tlCount w) = true then some ⟨tlDiff s.now (tlCount w), p, w, none⟩ else none))

/-- Items of the tx pails of a port in their order. -/
def State.slotItems (s : State) (n : Nat) : List TxItem :=
  ((s.portPails n 1).flatMap (fun p => s.pailItems p)).foldl (fun l x => insItem x l) []

/-- Blocks and markers placed in order, each where it first fits (R243 to R245). A sent block is finished, and flagged
LATE, with its lateness and timeline source 7, when its slot begins after its instant or it was held (R29, R71, R79). -/
def State.placeItems : State → Nat → Nat → Cells → List TxItem → State × Cells
  | s, _, _, f, [] => (s, f)
  | s, n, fcnt, f, x :: xs =>
    let sid := s.pailSid x.p
    let cells := match x.blk with
      | some b =>
        let o := s.poisonedOut x.p b
        blockCells sid o.h0 o.h1 o.payload
      | none => blockCells sid x.tl (mkH1 0 (s.pailFmt x.p) 0 0 sid 0 0) []
    match firstRun (fun c => f.free c && s.mayUse n fcnt (s.pailSlice x.p) c) cells.length 0 16 with
    | none => s.placeItems n fcnt f xs
    | some c =>
      let f := f.put c 1 cells
      let s := match x.blk with
        | some b =>
          let late := if 0 < x.ago ∨ b.late.isSome = true then some x.ago.toNat else none
          let s := s.updBlock x.p b (fun y => { y with fin := true, late := late, tx := .none })
          let s := match late with
            | some d => (s.updPail x.p (fun r => { r with lateness := d })).evTl 7
            | none => s
          s.freePail x.p
        | none => s.updPail x.p (fun r => { r with missed := r.missed.erase x.tl })
      s.placeItems n fcnt f xs

/-! ## Control words (R242, R248 to R252, R256) -/

/-- The slice whose cells carry a control word in partitioned mode; none for a word of the link (R359). -/
def State.ctlSlice (s : State) (n : Nat) (c : Ctl) : Option Nat :=
  let cls (k : Nat) : Option Nat :=
    if k < 65536 then ((s.portPails n 0).find? (fun p => s.pailSid p == k)).map (s.pailSlice ·)
    else some (s.fld (Reg.AL_WIN_CTRL n) F.AL_WIN_CTRL_SLICE)
  match c with
  | .credit k => cls k
  | .cresync k => cls k
  | .ledger k => cls k
  | _ => none

/-- Bytes of the blocks on their way into pail `p` whose room is not taken yet: their header tests have not come (R178). -/
def State.pailComing (s : State) (p : Nat) : Nat :=
  (((s.pail p).arrivals.filter (fun a => !a.tested)).map (fun a => blockBytes (hLen a.h1))).foldl (· + ·) 0

/-- The room, in units, that the device's buffer or the stream's pail leaves for a class (R248). -/
def State.crRoom (s : State) (n k : Nat) : Nat :=
  if k < 65536 then
    match (s.portPails n 0).find? (fun p => s.pailSid p == k) with
    | some p => (s.pailFree p - s.pailComing p) / 16
    | none => 0
  else 1 + Config.busDepth (k / 65536)

/-- GRANTED as the next CREDIT of a class would give it: no stream is granted more outside Run and Run-Shed (R40, R248). -/
def State.crNext (s : State) (n k : Nat) : Nat :=
  if k < 65536 ∧ s.act = false then (s.crRx n k).granted else ((s.crRx n k).recvd + s.crRoom n k) % 2 ^ 32

/-- The words of a control word in a slot that begins now. -/
def State.ctlWords (s : State) (n fcnt : Nat) (c : Ctl) : List Word :=
  let w (ty k v : Nat) : Word := BitVec.ofNat 64 (ty * 2 ^ 60 + (k / 65536) * 2 ^ 58 + (k % 65536) * 2 ^ 42 + v % 2 ^ 32)
  let p := s.port n
  match c with
  | .ack nak => [BitVec.ofNat 64 (4 * 2 ^ 60 + (if nak then 1024 + p.rxSeq else (p.rxSeq + 1023) % 1024))]
  | .sync => [BitVec.ofNat 64 (5 * 2 ^ 60 + s.fld (Reg.AL_OWD n) F.AL_OWD_OWD), tlOf s.now]
  | .dlyReq => [BitVec.ofNat 64 (6 * 2 ^ 60 + (p.calId + 1) % 65536)]
  | .credit k => [w 1 k (s.crNext n k)]
  | .cresync k => [w 3 k (s.crRx n k).recvd]
  | .ledger k => [w 2 k (s.crTx n k).sent]
  | .spare op lane phys => [spareWord op lane phys (fcnt + 16)]

/-- What sending a control word changes. -/
def State.ctlSent (s : State) (n : Nat) (c : Ctl) : State :=
  match c with
  | .ack _ => s
  | .sync => s.updPort n (fun p => { p with syncAt := some s.ticks })
  | .dlyReq => s.updPort n (fun p =>
      { p with calId := (p.calId + 1) % 65536, calOut := p.calOut ++ [((p.calId + 1) % 65536, s.ticks, false)] })
  | .credit k =>
    let g := s.crNext n k
    s.updRx n k (fun x => { x with granted := g, last := x.last <|> some s.ticks })
  -- where the class waits for its LEDGER, the CREDIT comes after that (R251)
  | .cresync k => if (s.crRx n k).wait then s else s.addCtl n (.credit k)
  | .ledger k => s.updTx n k (fun x => { x with last := s.ticks })
  | .spare op _ _ =>
    if op = 2 then s.updPort n (fun p => { p with swap := p.swap.map (fun x => { x with goAt := some (s.ticks + 512) }) })
    else s

/-- Control words taken into one cell of eight slots: those that may use the cell, in order, while they fit. -/
def State.fillCtl : State → Nat → Nat → Nat → List Ctl → List Word → State × List Word × List Ctl
  | s, _, _, _, [], acc => (s, acc, [])
  | s, n, fcnt, c, x :: xs, acc =>
    let ws := s.ctlWords n fcnt x
    if s.mayCtl n fcnt (s.ctlSlice n x) c && decide (acc.length + ws.length ≤ 8) then
      (s.ctlSent n x).fillCtl n fcnt c xs (acc ++ ws)
    else
      let (s, ws', left) := s.fillCtl n fcnt c xs acc
      (s, ws', x :: left)

/-- Control cells placed in the free cells of a list, as long as words wait. -/
def State.placeCtl : State → Nat → Nat → Cells → List Nat → List Ctl → State × Cells × List Ctl
  | s, _, _, f, [], ws => (s, f, ws)
  | s, n, fcnt, f, c :: cs, ws =>
    if f.free c && !ws.isEmpty then
      let (s, words, left) := s.fillCtl n fcnt c ws []
      if words = [] then s.placeCtl n fcnt f cs ws
      else s.placeCtl n fcnt (setAt f c (some (3, words ++ List.replicate (8 - words.length) 0))) cs left
    else s.placeCtl n fcnt f cs ws

/-- The uplink streams of a port: one class for each enabled rx pail. -/
def State.streams (s : State) (n : Nat) : List Nat := (s.portPails n 0).map (fun p => s.pailSid p)

/-- The words that fall due by themselves: TL_SYNC, LEDGER, and CREDIT where a class's room has grown (R248, R250, R256). -/
def State.dueCtl (s : State) (n : Port) : List Ctl :=
  let p := s.port n
  let v := s.tstate (.al n)
  let sync := if p.calOk ∧ p.syncAt.all (fun t => decide (t + 1016 * 32 ≤ s.ticks)) then [Ctl.sync] else []
  let grows (k : Nat) : Bool :=
    !(s.crRx n k).wait && (s.crNext n k + 2 ^ 32 - (s.crRx n k).granted) % 2 ^ 32 != 0 &&
      decide ((s.crNext n k + 2 ^ 32 - (s.crRx n k).granted) % 2 ^ 32 < 2 ^ 31)
  let streams := if v = 5 ∧ s.act then (s.streams n).filter grows else []
  let bus := [crKey 1 0, crKey 2 0, crKey 3 0].filter grows
  let per := s.fld (Reg.AL_AUDIT_MAX n) F.AL_AUDIT_MAX_FRAMES
  -- nine frames ahead of the limit: a cell reserved for control comes within eight (R238)
  let led := [crKey 1 0, crKey 2 0, crKey 3 0].filter (fun k =>
    per != 0 && (s.port n).tx.any (fun e => e.1 == k) && decide ((s.crTx n k).last + 32 * per ≤ s.ticks + 9 * 32))
  sync ++ (streams ++ bus).map Ctl.credit ++ led.map Ctl.ledger

/-- The words that no limit of frames lets wait: ACK, LEDGER and TL_SYNC (R250, R251, R252, R256). -/
def Ctl.urgent : Ctl → Bool
  | .ack _ => true
  | .ledger _ => true
  | .sync => true
  | _ => false

/-- Waiting control words in the order in which they go: those that may not wait first. -/
def ctlOrder (l : List Ctl) : List Ctl := l.filter (·.urgent) ++ l.filter (fun c => !c.urgent)

/-- A list of control words with those of another that it does not hold yet. -/
def joinCtl (a : List Ctl) : List Ctl → List Ctl
  | [] => a
  | c :: cs => joinCtl (if a.contains c then a else a ++ [c]) cs

/-! ## Bus cells (R247, R248, R252, R253, R273) -/

/-- Word 0 of a bus cell with its SEQ. -/
def withSeq (seq : Nat) : List Word → List Word
  | [] => []
  | w :: ws => wput w 59 50 seq :: ws

/-- The local end's credit covers one cell of a class (R248). -/
def State.crCovers (s : State) (n cls : Nat) : Bool :=
  let c := s.crTx n (crKey cls 0)
  decide (0 < (c.granted + 2 ^ 32 - c.sent) % 2 ^ 32 ∧ (c.granted + 2 ^ 32 - c.sent) % 2 ^ 32 < 2 ^ 31)

/-- The next bus cell that may be sent for the first time: a piece of the access partly sent, or the first waiting cell
that is due and covered by credit (R248, R252, R273). -/
def State.nextBus (s : State) (n : Nat) : Option BusCell :=
  let p := s.port n
  if 128 ≤ p.unack.length then none
  else
    match p.mid with
    | some a => (p.busQ.find? (fun c => c.acc == a)).filter (fun c => s.crCovers n c.cls)
    | none =>
      -- host accesses keep their order; an answer may pass them (R274, R277)
      let host := p.busQ.find? (fun c => c.cls != 3)
      p.busQ.find? (fun c => !c.cont && decide (c.due ≤ s.coreNow) && s.crCovers n c.cls && (c.cls == 3 || host == some c))

/-- Sending a bus cell for the first time: it takes the next SEQ and one unit of credit; a host read's time runs from its
first piece (R248, R252, R275). -/
def State.sendBus (s : State) (n : Nat) (c : BusCell) : State × List Word :=
  let p := s.port n
  let seq := p.txSeq
  let rest := p.busQ.erase c
  let more := rest.any (fun x => x.acc == c.acc)
  let s := s.updTx n (crKey c.cls 0) (fun x => { x with sent := (x.sent + 1) % 2 ^ 32 })
  let s := s.updPort n (fun p =>
    { p with txSeq := (seq + 1) % 1024, busQ := rest, mid := if more then some c.acc else none,
             ackAt := if p.unack = [] then s.ticks else p.ackAt,
             unack := p.unack ++ [{ c with seq := seq, sends := 1 }],
             reads := p.reads.map (fun r => if r.acc = c.acc ∧ r.sent = none then { r with sent := some s.ticks } else r) })
  (s, withSeq seq c.words ++ List.replicate (8 - c.words.length) 0)

/-- Bus cells placed in the free cells of a list: resent cells in order ahead of new ones (R253). A resend is counted and
raises AL_ERR. -/
def State.placeBus : State → Port → Nat → Cells → List Nat → State × Cells
  | s, _, _, f, [] => (s, f)
  | s, n, fcnt, f, c :: cs =>
    if f.free c && s.mayUse n fcnt (s.fld (Reg.AL_WIN_CTRL n) F.AL_WIN_CTRL_SLICE) c then
      match (s.port n).unack.find? (·.again) with
      | some b =>
        let s := s.updPort n (fun p =>
          { p with unack := p.unack.map (fun x => if x.seq = b.seq then { x with again := false, sends := x.sends + 1 } else x) })
        let s := (s.cnt (Reg.AL_REPLAY n)).linkErr (.al n) 4
        s.placeBus n fcnt (setAt f c (some (2, withSeq b.seq b.words ++ List.replicate (8 - b.words.length) 0))) cs
      | none =>
        match s.nextBus n with
        | some b =>
          let (s, ws) := s.sendBus n b
          s.placeBus n fcnt (setAt f c (some (2, ws))) cs
        | none => s.placeBus n fcnt f cs
    else s.placeBus n fcnt f cs

/-! ## The slot (R60, R237, R243) -/

/-- CELLMAP of a filled frame, at its place in the header: cell `c` lies in bits 43 − 2c and 42 − 2c (R237). -/
def Cells.cellMap (f : Cells) : Nat :=
  ((List.range 16).map (fun c => (match f.getD c none with | some (k, _) => k | none => 0) * 2 ^ (42 - 2 * c))).foldl (· + ·) 0

/-- A frame header (R237). -/
def frameHdr (fkind epoch cellmap fcnt : Nat) (act inh : Bool) : Word :=
  BitVec.ofNat 64 (fkind * 2 ^ 60 + epoch % 65536 * 2 ^ 44 + cellmap + fcnt % 256 * 16 +
    (if act then 8 else 0) + (if inh then 4 else 0))

/-- The words of the cells of a filled frame. -/
def Cells.words (f : Cells) : List (List Word) :=
  f.map (fun c => match c with | some (_, w) => w | none => List.replicate 8 0)

/-- The device's training word for port `n` (R255). -/
def State.trainWord (s : State) (n : Nat) : List Word :=
  let v := s.fld (Reg.AL_STAT n) F.AL_STAT_TSTATE
  [BitVec.ofNat 64 (1 * 2 ^ 56 + (if s.flag (Reg.AL_STAT n) F.AL_STAT_FRAME_LOCK then 2 ^ 54 else 0) + (if 3 ≤ v then 2 ^ 53 else 0) +
      s.fld (Reg.AL_LANEMAP n) F.AL_LANEMAP_LANE0 * 2 ^ 48 + s.fld (Reg.AL_LANEMAP n) F.AL_LANEMAP_LANE1 * 2 ^ 43 + 3 * 2 ^ 25),
   BitVec.ofNat 64 (s.sec.fuses.dsn % 2 ^ 32 * 2 ^ 32 + n), 0, 0, 0, 0, 0, 0]

/-- Since when INH has been 1 on a port, kept at each slot (R263). -/
def State.noteInh (s : State) (n : Nat) (inh : Bool) : State :=
  s.updPort n (fun p => if inh then { p with inhSince := p.inhSince <|> some s.ticks } else { p with inhSince := none, inhLong := false })

/-- The release tests at a slot and the blocks and markers placed in it: while Up, and not in Twin-Standby (R243, R422). -/
def State.slotTx (s : State) (n fcnt : Nat) : State × Cells :=
  if s.fld (Reg.AL_STAT n) F.AL_STAT_TSTATE = 5 ∧ s.mode ≠ 7 then
    let s := s.testPails (s.portPails n 1)
    s.placeItems n fcnt (List.replicate 16 none) (s.slotItems n)
  else (s, List.replicate 16 none)

/-- The control words placed in a slot, cell 15 first where it is reserved. Words that found no cell wait. -/
def State.slotCtl (s : State) (n : Port) (fcnt : Nat) (f : Cells) : State × Cells :=
  let order := if fcnt % 8 = 0 then 15 :: List.range 15 else List.range 16
  let ctl := ctlOrder (joinCtl (s.port n).ctl (s.dueCtl n))
  let (s, f, left) := (s.updPort n (fun p => { p with ctl := [] })).placeCtl n fcnt f order ctl
  (s.updPort n (fun p => { p with ctl := joinCtl left p.ctl }), f)

/-- The bus cells placed in a slot: while Up. -/
def State.slotBus (s : State) (n : Port) (fcnt : Nat) (f : Cells) (up : Bool) : State × Cells :=
  if up then s.placeBus n fcnt f (List.range 16) else (s, f)

/-- When the first bit of a slot crosses the ball of port `n`, in 1/65,536 Tc from the slot's start at the plane: −TRIM (R72). -/
def State.launch (s : State) (n : Nat) : Int := -sNat 24 (s.fld (Reg.TL_PORT_TRIM n) F.TL_PORT_TRIM_TRIM)

/-- ALINK_SLOT_SEND (R60, R237 to R245, R254, R422): a slot of the port begins on the grid. -/
def execAlinkSlotSend (n : Port) (s : State) : Res :=
  let v := s.tstate (.al n)
  if s.now % 32 = 0 ∧ 2 ≤ v ∧ s.on (domL (n / 8)) = true then
    let fcnt := s.now / 32 % 256
    let inh := s.txinh (n / 8)
    let epoch := s.fld Reg.TW_EPOCH F.TW_EPOCH_EPOCH
    let s := s.noteInh n inh
    if v ≤ 3 then
      .next (s.emit (.alink n (s.launch n) (frameHdr 2 epoch 0 fcnt s.act inh) (s.trainWord n :: List.replicate 15 (List.replicate 8 0))))
    else
      let (s, f) := s.slotTx n fcnt
      let (s, f) := s.slotCtl n fcnt f
      let (s, f) := s.slotBus n fcnt f (v == 5)
      .next (s.emit (.alink n (s.launch n) (frameHdr 1 epoch (Cells.cellMap f) fcnt s.act inh) (Cells.words f)))
  else .next s

end Sys2Proof.Machine
end

