-- ==== Sys2Proof/Machine/AlinkRx.lean ====
section
/-! DEFINITION. What an A-link port does with a received frame and its control words: correction, blocks, credits,
acknowledgement, calibration, the local end's time, epoch and status (08 R235 to R264). -/

namespace Sys2Proof.Machine

/-! ## Uncorrectable frames (R236, R251, R252, R262) -/

/-- Every uplink stream of a port is resynchronised at once, without a wait for a LEDGER (R251). -/
def State.resyncStreams : State → Nat → List Nat → State
  | s, _, [] => s
  | s, n, k :: ks => (s.resync n (crKey 0 k) false).resyncStreams n ks

/-- An uncorrectable frame (R236, R251, R252, R262). -/
def State.alUncorr (s : State) (n : Port) : State :=
  let up := s.isUp (.al n)
  let s := s.updTrain (.al n) (fun t => { t with good := 0, bad := t.bad + 1, farDone := 0 })
  let s := ((s.cnt (Reg.AL_UNCORR n)).linkErr (.al n) 1).updPort n (fun p => { p with shut := true })
  if up then
    if 8 ≤ (s.train (.al n)).bad then s.alLoss n 3
    else ((s.resyncStreams n (s.streams n)).updPort n (fun p => { p with nakked := true })).addCtl n (.ack true)
  else s.setFld (Reg.AL_STAT n) F.AL_STAT_FRAME_LOCK 0

/-! ## Corrected symbols (R236, R259) -/

/-- The first candidate for sparing moves to a free spare within the port's mask, while the port is Up with no swap in flight
(R259). -/
def State.spareLane (s : State) (n : Port) : State :=
  match (s.port n).cand, s.freeSpares n with
  | l :: _, ph :: _ =>
    if s.isUp (.al n) ∧ (s.port n).swap.isNone then
      (s.startSwap n l ph).updPort n (fun p => { p with cand := p.cand.erase l })
    else s
  | _, _ => s

/-- Corrected symbols of a frame counted by lane; a lane whose count in 2^20 frames reaches the threshold becomes a
candidate for sparing. -/
def State.alCorrected (s : State) (n : Port) (errs : List Nat) : State :=
  let e0 := (errs.filter (fun j => j % 2 == 0)).length
  let e1 := errs.length - e0
  let s := s.addCnt (Reg.AL_CORR n) errs.length 0xFFFFFFFF
  let s := s.addCnt (Reg.AL_LANECORR0 n) e0 0xFFFFFFFF
  let s := s.addCnt (Reg.AL_LANECORR1 n) e1 0xFFFFFFFF
  let th := s.fld (Reg.AL_GRP_SPARE_THRESH (n / 8)) F.AL_GRP_SPARE_THRESH_COUNT
  let was := s.port n
  let s := s.updPort n (fun p => { p with sym0 := p.sym0 + e0, sym1 := p.sym1 + e1, symN := p.symN + 1 })
  let hit (a b : Nat) : Bool := decide (a < th ∧ th ≤ b)
  let new := (if hit was.sym0 (was.sym0 + e0) then [0] else []) ++ (if hit was.sym1 (was.sym1 + e1) then [1] else [])
  let s := (s.updPort n (fun p => { p with cand := new.foldl insNat p.cand })).spareLane n
  s.updPort n (fun p => if 2 ^ 20 ≤ p.symN then { p with sym0 := 0, sym1 := 0, symN := 0 } else p)

/-! ## Training frames (R254, R255) -/

/-- A training frame's word from the local end (R255). -/
def State.alTraining (s : State) (n : Port) (w0 w1 : Word) : State :=
  let e := LinkEnd.al n
  let v := s.tstate e
  if v = 5 then s.alLoss n 4
  else if v = 2 ∨ v = 3 then
    if wbits w0 63 56 ≠ 1 ∨ wbits w0 52 48 ≠ s.fld (Reg.AL_LANEMAP n) F.AL_LANEMAP_LANE0 ∨
        wbits w0 47 43 ≠ s.fld (Reg.AL_LANEMAP n) F.AL_LANEMAP_LANE1 then s.trainFail e
    else
      let s := s.wrW (Reg.AL_LE_ID n) w1
      let s := s.setFld (Reg.AL_STAT n) F.AL_STAT_BUSW (wbits w0 26 25)
      let s := s.updTrain e (fun t =>
        { t with good := min 8 (t.good + 1), bad := 0, farLock := w0.toNat.testBit 54,
                 farDone := if w0.toNat.testBit 53 then min 8 (t.farDone + 1) else 0 })
      if 8 ≤ (s.train e).good then s.setFld (Reg.AL_STAT n) F.AL_STAT_FRAME_LOCK 1 else s
  else s

/-! ## Stream cells (R239, R240, R246, R249) -/

/-- A block being gathered from a frame's cells: its stream, its first cell and its bytes so far. -/
structure Gather where
  sid   : Nat
  first : Nat
  bytes : List Byte
  bad   : Bool        -- it breaks a rule of R240
  deriving DecidableEq, Repr

/-- The length of the block that its bytes claim, padded (R125). -/
def claimed (bs : List Byte) : Nat := blockBytes (hLen (BitVec.ofNat 64 (leAt bs 8 8)))

/-- A gathered block at its last cell: it is bad, too, when its bytes do not agree with its header's LEN. -/
def Gather.close (g : Gather) : Gather :=
  { g with bad := g.bad || decide (g.bytes.length < 16 ∨ g.bytes.length ≠ claimed g.bytes) }

/-- A broken block among those of a frame whose last cell has not come. -/
def Gather.broken (g : Gather) (l : List Gather) : List Gather := l ++ [{ g with bad := true }]

/-- A cell that continues no block in progress: of a broken one, to which it is added, or of one whose first cell never came.
What is answered first is the broken block where this was its last cell. -/
def strayCell (sid c : Nat) (d : List Byte) (eob : Bool) (l : List Gather) : List Gather × List Gather :=
  let g : Gather := ((l.find? (fun g => g.sid == sid)).map (fun g => { g with bytes := g.bytes ++ d })).getD ⟨sid, c, d, true⟩
  let rest := l.filter (fun g => g.sid != sid)
  if eob then ([g], rest) else ([], rest ++ [g])

/-- Blocks gathered from the cells of a frame, from cell `c` up, each once, whole or broken (R239, R240). `kind` tells the
cells' kinds, `ok` which cells the cell plan lets a stream use, and `brk` holds the blocks broken so far. -/
def gather (kind : Nat → Nat) (ok : Nat → Nat → Bool) : Nat → List (List Word) → Option Gather → List Gather → List Gather
  | _, [], none, brk => brk
  | _, [], some g, brk => g.broken brk
  | c, w :: ws, cur, brk =>
    if kind c ≠ 1 then gather kind ok (c + 1) ws none ((cur.map (·.broken brk)).getD brk)
    else
      let bs := bytesOfWords w
      let h := leAt bs 0 4
      let sid := bitsOf h 31 16
      let eob := h.testBit 14
      let nb := h % 64
      let d := (bs.drop 4).take nb
      let badCell := decide (nb = 0 ∨ 60 < nb ∨ (!eob ∧ nb ≠ 60)) || !ok sid c
      if h.testBit 15 then
        let brk := (cur.map (·.broken brk)).getD brk
        let g : Gather := ⟨sid, c, d, badCell⟩
        if eob then g.close :: gather kind ok (c + 1) ws none brk else gather kind ok (c + 1) ws (some g) brk
      else
        match cur.filter (fun g => g.sid == sid) with
        | some g =>
          let g : Gather := { g with bytes := g.bytes ++ d, bad := g.bad || badCell }
          if eob then g.close :: gather kind ok (c + 1) ws none brk else gather kind ok (c + 1) ws (some g) brk
        | none =>
          let (done, brk) := strayCell sid c d eob ((cur.map (·.broken brk)).getD brk)
          done ++ gather kind ok (c + 1) ws none brk

/-- A block or bus cell beyond GRANTED (R249): dropped, counted in AL_CRVIOL, AL_ERR, and the class resynchronised. -/
def State.violation (s : State) (n : Port) (k : Nat) : State :=
  ((s.cnt (Reg.AL_CRVIOL n)).linkErr (.al n) 3).resync n k true

/-- The credit check of `u` units of a class (R248, R249, R251): whether the block or cell goes on. -/
def State.takeCredit (s : State) (n : Port) (k u : Nat) : State × Bool :=
  let c := s.crRx n k
  if c.wait then (s.cnt (Reg.AL_RESYNC n), false)
  else
    let left := (c.granted + 2 ^ 32 - c.recvd) % 2 ^ 32
    -- a stream block is a violation where none may be sent: in Drain the credit already granted is used (R40, R248, R422)
    if left < u ∨ 2 ^ 31 ≤ left ∨ (k < 65536 ∧ s.act = false ∧ s.mode ≠ 9) then (s.violation n k, false)
    else (s.updRx n k (fun c => { c with recvd := (c.recvd + u) % 2 ^ 32 }), true)

/-- The delay, in 1/65,536 Tc, from the receive plane of port `n` to its arrival stamp: RXCAL + TRIM (R72, R73). -/
def State.rxDelay (s : State) (n : Nat) : Int :=
  (s.rdW (Reg.TL_PORT_RXCAL n)).toNat + sNat 24 (s.fld (Reg.TL_PORT_TRIM n) F.TL_PORT_TRIM_TRIM)

/-- One uplink block (R246): its credit, its pail and its arrival. `start` is the Tc in which the slot's first bit crossed
the receive plane. A port whose calibration failed stamps no arrival (R74). -/
def State.uplink (s : State) (n : Port) (start sid first : Nat) (bs : List Byte) : State :=
  let pail := (s.portPails n 0).find? (fun p => s.pailSid p == sid)
  let u := bs.length / 16
  match pail with
  | none =>
    let s := s.linkProto (.al n)
    s.updRx n (crKey 0 sid) (fun c => { c with recvd := (c.recvd + u) % 2 ^ 32 })
  | some p =>
    let waiting := (s.crRx n (crKey 0 sid)).wait
    let (s, ok) := s.takeCredit n (crKey 0 sid) u
    if ok then
      if s.uncal n then s
      else
        let ws := wordsOf (bs.length / 8) bs
        let h1 := ws.getD 1 0
        let tc := start + (64 + 512 * first) / 270
        s.updPail p (fun r => { r with arrivals := r.arrivals ++
          [{ writer := .port n, h0 := ws.getD 0 0, h1 := h1, need := blockWords (hLen h1), got := ws.drop 2, bad := [],
             tc := tc, tested := false, room := none, doom := none, coreDue := s.coreAgo (s.ticks - tc) + 212 }] })
    else if waiting then s else s.vatDrop p 1

/-- A broken block (R240, R248): counted once in AL_PROTO, and the bytes that came of it in RECEIVED. -/
def State.brokenBlock (s : State) (n : Port) (g : Gather) : State :=
  let s := s.linkProto (.al n)
  if (s.crRx n (crKey 0 g.sid)).wait then s
  else s.updRx n (crKey 0 g.sid) (fun c => { c with recvd := (c.recvd + (g.bytes.length + 15) / 16) % 2 ^ 32 })

/-- The blocks of a frame in order. -/
def State.uplinks : State → Port → Nat → List Gather → State
  | s, _, _, [] => s
  | s, n, t, g :: gs => (if g.bad then s.brokenBlock n g else s.uplink n t g.sid g.first g.bytes).uplinks n t gs

/-- The words of a control cell that head a control word: a double word's second slot is skipped (R242). -/
def headWords : Bool → List Word → List Word
  | _, [] => []
  | true, _ :: ws => headWords false ws
  | false, w :: ws => w :: headWords (wbits w 63 60 == 5 || wbits w 63 60 == 9) ws

/-- Whether a control word of the local end may travel in a cell of the plan (R359): slice words in the slice's cells, link
words in the reserved and unallotted ones. -/
def State.wordPlaced (s : State) (n fcnt c : Nat) (w : Word) : Bool :=
  let ty := wbits w 63 60
  let k := crKey (wbits w 59 58) (wbits w 57 42)
  if ty = 0 then true
  else if 1 ≤ ty ∧ ty ≤ 3 then s.mayCtl n fcnt (s.ctlSlice n (.credit k)) c
  else s.mayCtl n fcnt none c

/-- Protocol errors among a normal frame's control cells, and its bus cells while `up`: unknown types and OPs, and cells
against the cell plan (R241, R242, R359). -/
def State.cellErrors (s : State) (n fcnt : Nat) (up : Bool) (kind : Nat → Nat) : Nat → List (List Word) → Nat
  | _, [] => 0
  | c, w :: ws =>
    (match kind c with
     | 3 => if (headWords false w).all (fun x => s.wordPlaced n fcnt c x) then
        ((headWords false w).filter (fun x => decide (0xC ≤ wbits x 63 60))).length else 1
     | 2 =>
       if !up then 0
       else if !s.mayUse n fcnt (s.fld (Reg.AL_WIN_CTRL n) F.AL_WIN_CTRL_SLICE) c then 1
       else if wbits (w.getD 0 0) 63 60 = 0 ∨ 5 < wbits (w.getD 0 0) 63 60 then 1 else 0
     | _ => 0) + s.cellErrors n fcnt up kind (c + 1) ws

/-- A frame that is discarded whole (R237, R238): counted, and nothing in it is used. -/
def State.alDiscard (s : State) (n : Port) : State :=
  (s.linkProto (.al n)).updPort n (fun p => { p with shut := true })

/-- A normal frame (R237 to R242). Blocks are taken while Up, control words from Calibrate on. -/
def State.alNormal (s : State) (n : Port) (ago : Nat) (hdr : Word) (cells : List (List Word)) : State :=
  let e := LinkEnd.al n
  let fcnt := wbits hdr 11 4
  let kind (c : Nat) : Nat := bitsOf (wbits hdr 43 12) (31 - 2 * c) (30 - 2 * c)
  let s := s.updTrain e (fun t => { t with good := min 8 (t.good + 1), bad := 0 })
  let s := if 8 ≤ (s.train e).good ∧ s.isUp e = false then s.setFld (Reg.AL_STAT n) F.AL_STAT_FRAME_LOCK 1 else s
  if s.tstate e < 4 then s
  else if fcnt % 8 = 0 ∧ (kind 15 = 1 ∨ kind 15 = 2) then s.alDiscard n
  else
    let ok (sid c : Nat) : Bool :=
      match (s.portPails n 0).find? (fun p => s.pailSid p == sid) with
      | some p => s.mayUse n fcnt (s.pailSlice p) c
      | none => true
    let s := s.updPort n (fun p => { p with shut := false })
    let s' := linkProtos (s.cellErrors n fcnt (s.isUp e) kind 0 cells) s e
    if s.isUp e then
      s'.uplinks n ((((s.ticks - ago : Nat) : Int) * 65536 - s.rxDelay n) / 65536).toNat (gather kind ok 0 cells none [])
    else s'

/-- A frame slot of an A-link (R236 to R242): `ago` Tc since the stamp of its first bit. Its control words and bus
transactions come as commands of their own, before the next frame. -/
def State.alFrame (s : State) (n : Port) (ago : Nat) (hdr : Word) (cells : List (List Word)) (errs : List Nat) : State :=
  let e := LinkEnd.al n
  if s.tstate e < 2 ∨ s.linkOn e = false then s
  else if 16 < errs.length then s.alUncorr n
  else
    let s := s.alCorrected n errs
    match wbits hdr 63 60 with
    | 2 => s.alTraining n ((cells.getD 0 []).getD 0 0) ((cells.getD 0 []).getD 1 0)
    | 1 => s.alNormal n ago hdr cells
    | _ => s.alDiscard n

/-! ## Control words (R248 to R251, R253) -/

/-- Control words are acted on from Calibrate on, but for those of a frame that was not used (R236, R238). -/
def State.wordsLive (s : State) (n : Port) : Bool := decide (4 ≤ s.tstate (.al n)) && s.linkOn (.al n) && !(s.port n).shut

/-- CREDIT (R247, R248): the local end's grant for a bus class. -/
def execCredit (n : Port) (w : Word) (s : State) : Res :=
  let cls := wbits w 59 58
  if s.wordsLive n = true ∧ wbits w 63 60 = 1 ∧ cls ≠ 0 then
    .next (s.updTx n (crKey cls 0) (fun c => { c with granted := wbits w 31 0 }))
  else .next s

/-- LEDGER (R250, R251): SENT of the local end compared with RECEIVED. A LEDGER that answers a CRESYNC ends the wait. -/
def execLedger (n : Port) (w : Word) (s : State) : Res :=
  if s.wordsLive n = true ∧ wbits w 63 60 = 2 then
    let k := if wbits w 59 58 = 0 then crKey 0 (wbits w 57 42) else crKey (wbits w 59 58) 0
    let c := s.crRx n k
    let s := s.updRx n k (fun c => { c with last := some s.ticks, late := false })
    let s := if (s.port n).rx.any (fun e => e.2.late) then s else s.setFld (Reg.AL_STAT n) F.AL_STAT_AUDIT_LATE 0
    if c.wait then
      if wbits w 31 0 = c.recvd then .next ((s.updRx n k (fun c => { c with wait := false })).addCtl n (.credit k)) else .next s
    else if wbits w 31 0 = c.recvd then .next s
    else .next ((s.linkErr (.al n) 2).resync n k true)
  else .next s

/-- CRESYNC (R251): SENT and GRANTED of a bus class become BASE, and a LEDGER goes back. -/
def execCresync (n : Port) (w : Word) (s : State) : Res :=
  let cls := wbits w 59 58
  if s.wordsLive n = true ∧ wbits w 63 60 = 3 ∧ cls ≠ 0 then
    .next ((s.updTx n (crKey cls 0) (fun c => { c with granted := wbits w 31 0, sent := wbits w 31 0 })).addCtl n (.ledger (crKey cls 0)))
  else .next s

/-- The classes that have had no LEDGER for AL_AUDIT_MAX frames (R250); 0 disables the check. -/
def State.overdue (s : State) (n : Nat) : List Nat :=
  let per := s.fld (Reg.AL_AUDIT_MAX n) F.AL_AUDIT_MAX_FRAMES
  if per = 0 then []
  else ((s.port n).rx.filter (fun e => !e.2.late && e.2.last.any (fun t => decide (t + 32 * per ≤ s.ticks)))).map (·.1)

/-- Classes marked overdue. -/
def State.markLate : State → Nat → List Nat → State
  | s, _, [] => s
  | s, n, k :: ks => (s.updRx n k (fun c => { c with late := true })).markLate n ks

/-- AUDIT_LATE (R250). -/
def execAuditLate (n : Port) (s : State) : Res :=
  match s.overdue n with
  | [] => .next s
  | ks => .next (((s.markLate n ks).setFld (Reg.AL_STAT n) F.AL_STAT_AUDIT_LATE 1).linkErr (.al n) 7)

/-- Cells up to SEQ `q` are acknowledged: those before it leave the list (R252, R253). -/
def ackCells (q : Nat) (l : List BusCell) : List BusCell × Bool :=
  if l.any (fun c => c.seq == q) then ((l.dropWhile (fun c => c.seq != q)).drop 1, true) else (l, false)

/-- Every cell waits to be resent, from SEQ `q` on. -/
def fromSeq (q : Nat) (l : List BusCell) : List BusCell :=
  l.takeWhile (fun c => c.seq != q) ++ (l.dropWhile (fun c => c.seq != q)).map (fun c => { c with again := true })

/-- A cell has been resent 8 times without being acknowledged (R253). -/
def worn (l : List BusCell) : Bool := l.any (fun c => c.again && decide (9 ≤ c.sends))

/-- ACK on an A-link (R252, R253): the cells up to SEQ are released, or those from SEQ on are resent. -/
def State.alAck (s : State) (n : Port) (w : Word) : State :=
  if s.isUp (.al n) && !(s.port n).shut then
    let q := wbits w 9 0
    if w.toNat.testBit 10 then
      -- a NAK names the SEQ expected: what lies before it is acknowledged
      let u := (s.port n).unack
      let (kept, adv) := if u.any (fun c => c.seq == q) then (u.dropWhile (fun c => c.seq != q), u.head?.any (fun c => c.seq != q)) else (u, false)
      let l := if u.any (fun c => c.seq == q) then kept.map (fun c => { c with again := true }) else kept
      let s := s.updPort n (fun p => { p with unack := l, ackAt := if adv then s.ticks else p.ackAt })
      if worn l then s.alLoss n 8 else s
    else
      let (l, adv) := ackCells q (s.port n).unack
      s.updPort n (fun p => { p with unack := l, ackAt := if adv then s.ticks else p.ackAt })
  else s

/-- REPLAY_TIMEOUT on an A-link (R253): 4,096 Tc without an ACK that advances. -/
def State.alReplay (s : State) (n : Port) : State :=
  let p := s.port n
  if s.isUp (.al n) ∧ p.unack ≠ [] ∧ p.ackAt + 4096 ≤ s.ticks then
    let l := p.unack.map (fun c => { c with again := true })
    let s := s.updPort n (fun p => { p with unack := l, ackAt := s.ticks })
    if worn l then s.alLoss n 8 else s
  else s

/-! ## Calibration and the local end's time (R256 to R258) -/

/-- Round half to even of a number divided by two (R91, R256). -/
def halfEven (x : Int) : Int := rnd x 1 0

/-- CALIBRATION_REQUEST (R256): every AL_CALPER frames while Up. -/
def execCalibrationRequest (n : Port) (s : State) : Res :=
  let f := s.fld (Reg.AL_CALPER n) F.AL_CALPER_FRAMES
  let per := if f = 0 then 1024 else f
  if s.isUp (.al n) = true ∧ (s.port n).calAt + 32 * per ≤ s.ticks then
    .next ((s.updPort n (fun p => { p with calAt := s.ticks })).addCtl n .dlyReq)
  else .next s

/-- Requests at the front of the list that are settled leave it: an answered one ends the run of missing ones (R257). -/
def settleCal : List (Nat × Nat × Bool) → Nat → List (Nat × Nat × Bool) × Nat
  | (_, _, true) :: l, _ => settleCal l 0
  | l, run => (l, run)

/-- The requests of a port settled, in the order sent. -/
def PortRt.settle (p : PortRt) : PortRt :=
  { p with calOut := (settleCal p.calOut p.calRun).1, calRun := (settleCal p.calOut p.calRun).2 }

/-- DLY_RSP on an A-link (R256, R257): `ago` is the time, in 1/65,536 Tc, since the stamp of the start of the slot that carried
it. -/
def State.alDlyRsp (s : State) (n : Port) (w : Word) (ago : Nat) : State :=
  let id := wbits w 47 32
  match (s.port n).calOut.find? (fun e => e.1 == id && !e.2.2) with
  | none => s
  | some (_, t1, _) =>
    if s.wordsLive n then
      let t4 : Int := (s.ticks : Int) * 65536 - ago - s.rxDelay n
      let rtt := uInt 32 (t4 - (t1 : Int) * 65536 - (wbits w 31 0 : Nat))
      let owd : Int := sNat 32 (uInt 32 (halfEven rtt + sNat 32 (s.fld (Reg.AL_ASYM n) F.AL_ASYM_ASYM)))
      let old : Int := sNat 32 (s.fld (Reg.AL_OWD n) F.AL_OWD_OWD)
      let far := (s.port n).calEver && decide ((s.fld (Reg.AL_CALTOL n) F.AL_CALTOL_TOL : Nat) < (owd - old).natAbs)
      let s := (s.setFld (Reg.AL_RTD n) F.AL_RTD_RTT rtt).setFld (Reg.AL_OWD n) F.AL_OWD_OWD (uInt 32 owd)
      let s := s.setFld (Reg.AL_STAT n) F.AL_STAT_CAL_STALE 0
      let s := s.updPort n (fun p => PortRt.settle
        { p with calOut := p.calOut.map (fun e => if e.1 = id then (e.1, e.2.1, true) else e), calOk := true, calEver := true,
                 owdUp := (rtt : Int) - owd })
      let s := s.addCtl n .sync
      if far then s.linkTiming (.al n) 1 else s
    else s

/-- DLY_RSP_MISSING on an A-link (R257): the oldest request has waited 1,024 frames. -/
def State.alDlyMissing (s : State) (n : Port) : State :=
  match (s.port n).calOut with
  | (_, t, _) :: rest =>
    if t + 32768 ≤ s.ticks then
      if s.tstate (.al n) = 4 then s.trainFail (.al n)
      else
        let run := (s.port n).calRun + 1
        let s := s.updPort n (fun p => PortRt.settle { p with calOut := rest, calRun := run })
        if run = 3 then (s.setFld (Reg.AL_STAT n) F.AL_STAT_CAL_STALE 1).linkTiming (.al n) 2 else s
    else s
  | [] => s

/-- LE_TOD (R258): `w` is word 1 of the double word, `ago` the time in 1/65,536 Tc since the stamp of its slot's start. -/
def execLeTod (n : Port) (w : Word) (ago : Nat) (s : State) : Res :=
  if s.wordsLive n = true ∧ s.flag (Reg.AL_CTRL n) F.AL_CTRL_TOD_EN = true then
    if tlValid w then
      -- the local end's value less the estimate of its slot start, in 1/65,536 Tc
      let err : Int := tlDiff (tlCount w) s.now * 65536 + ago + s.rxDelay n + (s.port n).owdUp
      let s := s.setFld (Reg.AL_LETOD_ERR n) F.AL_LETOD_ERR_ERR (satBits 32 err)
      .next (if s.fld (Reg.AL_CALTOL n) F.AL_CALTOL_TOL < err.natAbs then s.linkTiming (.al n) 3 else s)
    else .next (s.linkProto (.al n))
  else .next s

/-- Epoch `a` is higher than epoch `b` (R416). -/
def epochHigher (a b : Nat) : Bool := decide (1 ≤ (a + 65536 - b) % 65536 ∧ (a + 65536 - b) % 65536 ≤ 32767)

/-- EPOCH (R43, R264): the epoch that the local end follows; one above the device's own raises AL_TIMING and, on an Active
twin, leads to the step down of R43. -/
def execEpoch (n : Port) (w : Word) (s : State) : Res :=
  if s.wordsLive n = true ∧ wbits w 63 60 = 8 then
    let v := wbits w 15 0
    let s := s.setFld (Reg.AL_EPOCH_RX n) F.AL_EPOCH_RX_EPOCH v
    if epochHigher v (s.fld Reg.TW_EPOCH F.TW_EPOCH_EPOCH) then
      let s := s.linkTiming (.al n) 4
      .next (if s.role ≠ 0 ∧ (s.mode = 5 ∨ s.mode = 6 ∨ s.mode = 9) then s.updTw (fun t => { t with higher := true }) else s)
    else .next s
  else .next s

/-- STATUS (R263): a radio left on under inhibit, or on in the first STATUS after a loss of link, is a mute violation, raised
and logged. -/
def execStatus (n : Port) (w : Word) (s : State) : Res :=
  if s.wordsLive n = true ∧ wbits w 63 60 = 0xA then
    let p := s.port n
    let on := w.toNat.testBit 1
    let s := s.updPort n (fun p => { p with first := false })
    if on && p.inhLong then
      .next ((s.logKind 0x07 (n.val + wbits w 2 0 * 2 ^ 24)).linkErr (.al n) 5)
    else if on && p.first then
      .next ((s.logKind 0x07 (n.val + 1 * 2 ^ 16 + wbits w 2 0 * 2 ^ 24)).linkErr (.al n) 5)
    else .next s
  else .next s

/-- INHIBIT_MUTE_CHECK (R263): the port's INH has been 1 for more than 20 µs. -/
def execInhibitMuteCheck (n : Port) (s : State) : Res :=
  match (s.port n).inhSince with
  | some t => if t + 39322 < s.ticks then .next (s.updPort n (fun p => { p with inhLong := true })) else .next s
  | none => .next s

end Sys2Proof.Machine
end

