-- ==== Sys2Proof/Machine/Curve.lean ====
section
/-! DEFINITION. The curves of the curve engine, its input checks and the verification of a signature (18 R518 to R520;
the curves and ECDSA are FIPS 186-5's, PRESUMED). -/

namespace Sys2Proof.Machine

/-- A short Weierstrass curve y² = x³ − 3x + b over the integers modulo `p`, with base point (gx, gy) of order `n`. -/
structure Curve where
  p  : Nat
  b  : Nat
  n  : Nat
  gx : Nat
  gy : Nat
  deriving DecidableEq, Repr

/-- P-384. -/
def p384 : Curve :=
  { p := 2 ^ 384 - 2 ^ 128 - 2 ^ 96 + 2 ^ 32 - 1
    b := 0xb3312fa7e23ee7e4988e056be3f82d19181d9c6efe8141120314088f5013875ac656398d8a2ed19d2a85c8edd3ec2aef
    n := 0xffffffffffffffffffffffffffffffffffffffffffffffffc7634d81f4372ddf581a0db248b0a77aecec196accc52973
    gx := 0xaa87ca22be8b05378eb1c71ef320ad746e1d3b628ba79b9859f741e082542a385502f25dbf55296c3a545e3872760ab7
    gy := 0x3617de4a96262c6f5d9e98bf9292dc29f8f41dbd289a147ce9da3113b5f0b8c00a60b1ce1d7e819d7a431d7c90ea0e5f }

/-- P-256. -/
def p256 : Curve :=
  { p := 2 ^ 256 - 2 ^ 224 + 2 ^ 192 + 2 ^ 96 - 1
    b := 0x5ac635d8aa3a93e7b3ebbd55769886bc651d06b0cc53b0f63bce3c3e27d2604b
    n := 0xffffffff00000000ffffffffffffffffbce6faada7179e84f3b9cac2fc632551
    gx := 0x6b17d1f2e12c4247f8bce6e563a440f277037d812deb33a0f4a13945d898c296
    gy := 0x4fe342e2fe1a7f9b8ee7eb4a7c0f9e162bce33576b315ececbb6406837bf51f5 }

/-- x^e modulo m over the low `k` bits of e. -/
def powMod (m : Nat) : Nat → Nat → Nat → Nat
  | 0, _, _ => 1 % m
  | k + 1, x, e =>
    let y := powMod m k (x * x % m) (e / 2)
    if e % 2 = 1 then x * y % m else y

/-- The inverse of x modulo a prime m. -/
def invMod (m x : Nat) : Nat := powMod m 512 (x % m) (m - 2)

/-- The sum of two points; `none` is the point at infinity. -/
def Curve.add (c : Curve) (a b : Option (Nat × Nat)) : Option (Nat × Nat) :=
  match a, b with
  | none, q => q
  | q, none => q
  | some (x1, y1), some (x2, y2) =>
    if x1 = x2 ∧ (y1 + y2) % c.p = 0 then none
    else
      let l := if x1 = x2 then 3 * (x1 * x1 + (c.p - 1)) % c.p * invMod c.p (2 * y1) % c.p
        else (y2 + c.p - y1) * invMod c.p (x2 + c.p - x1) % c.p
      let x3 := (l * l + 2 * c.p - x1 - x2) % c.p
      some (x3, (l * (x1 + c.p - x3) + c.p - y1) % c.p)

/-- k times a point, over the low `n` bits of k. -/
def Curve.mul (c : Curve) : Nat → Nat → Option (Nat × Nat) → Option (Nat × Nat)
  | 0, _, _ => none
  | n + 1, k, q =>
    let r := c.mul n (k / 2) (c.add q q)
    if k % 2 = 1 then c.add q r else r

/-- A scalar that the engine takes: not 0 and below the order (R520). -/
def Curve.scalarOk (c : Curve) (k : Nat) : Bool := decide (0 < k ∧ k < c.n)

/-- A point that the engine takes: coordinates below p, on the curve (R520). -/
def Curve.pointOk (c : Curve) (x y : Nat) : Bool :=
  decide (x < c.p ∧ y < c.p ∧ y * y % c.p = (x * x * x + (c.p - 3) * x + c.b) % c.p)

/-- The signature (r, s) over a hash verifies under the public key (x, y). -/
def Curve.sigOk (c : Curve) (z x y r s : Nat) : Bool :=
  let w := invMod c.n s
  match c.add (c.mul 512 (z * w % c.n) (some (c.gx, c.gy))) (c.mul 512 (r * w % c.n) (some (x, y))) with
  | some (vx, _) => decide (vx % c.n = r)
  | none => false

/-- Result of a verification (R519): 0 OK, 1 FAIL, 2 INVALID_INPUT. -/
def Curve.verify (c : Curve) (z x y r s : Nat) : Nat :=
  if c.scalarOk r && c.scalarOk s && c.pointOk x y then (if c.sigOk z x y r s then 0 else 1) else 2

/-- A P-384 verification of a signature of 96 bytes under a key of 96 bytes over the hash of a message. -/
def verify384 (key msg sig : List Byte) : Nat :=
  p384.verify (beNat (sha384 msg)) (beNat (key.take 48)) (beNat (key.drop 48)) (beNat (sig.take 48)) (beNat (sig.drop 48))

end Sys2Proof.Machine
end

