-- ==== Sys2Proof/Machine/Bridge.lean ====
section
/-! DEFINITION. Bus traffic across the A-link: the local windows, byte order, narrow splits, host reads and writes, the
local ends' accesses to host memory and retried reads (09). -/

namespace Sys2Proof.Machine

/-! ## Byte order and narrow splits (R271, R272) -/

/-- x of R271: the XOR that SWAP applies to a byte's address. -/
def swapX (swap : Nat) : Nat := if swap = 1 then 3 else if swap = 2 then 7 else 0

/-- A byte inserted by its address. -/
def insByte (a : Nat) (b : Byte) : List (Nat × Byte) → List (Nat × Byte)
  | [] => [(a, b)]
  | (c, d) :: l => if a < c then (a, b) :: (c, d) :: l else (c, d) :: insByte a b l

/-- The enabled bytes of an access as the local end sees them, in ascending address (R271). -/
def localBytes (x off : Nat) : Nat → List (Option Byte) → List (Nat × Byte)
  | _, [] => []
  | i, none :: ds => localBytes x off (i + 1) ds
  | i, some b :: ds => insByte ((off + i) ^^^ x) b (localBytes x off (i + 1) ds)

/-- The bytes of a run that stand at `a`, `a + 1` and so on. -/
def runsFrom (a : Nat) : Nat → List (Nat × Byte) → Bool
  | 0, _ => true
  | _ + 1, [] => false
  | n + 1, (b, _) :: l => b == a && runsFrom (a + 1) n l

/-- The widest access at address `a` (R272). -/
def widest (w a : Nat) (l : List (Nat × Byte)) : Nat :=
  ([8, 4, 2].find? (fun k => decide (k ≤ w ∧ a % k = 0) && runsFrom a k l)).getD 1

/-- The narrow accesses of a set of bytes: address and bytes, lowest address first (R272). -/
def narrow (w : Nat) : Nat → List (Nat × Byte) → List (Nat × List Byte)
  | 0, _ => []
  | _ + 1, [] => []
  | n + 1, (a, b) :: l =>
    let k := widest w a ((a, b) :: l)
    (a, (((a, b) :: l).take k).map (·.2)) :: narrow w n (((a, b) :: l).drop k)

/-- The code of a width in bytes (R241). -/
def widthCode (k : Nat) : Nat := if k = 8 then 3 else if k = 4 then 2 else if k = 2 then 1 else 0

/-- Words 0 to 2 of a bus cell, SEQ apart (R241). -/
def busWords (op tag wid status : Nat) (addr : Nat) (data : Nat) : List Word :=
  [BitVec.ofNat 64 (op * 2 ^ 60 + tag * 2 ^ 42 + widthCode wid * 2 ^ 40 + status * 2 ^ 32), BitVec.ofNat 64 addr, BitVec.ofNat 64 data]

/-! ## The checks of a host access (R267, R268) -/

/-- What a host access to BAR4 meets. -/
inductive WinCheck where
  | ok (n : Port)
  | ur (n : Option Port)
  | ca (n : Port)
  deriving DecidableEq, Repr

/-- Window region `k` of port `n` permits an access of `len` bytes at window offset `off`. -/
def State.regionOk (s : State) (n off len : Nat) (write : Bool) (k : Nat) : Bool :=
  let r := Reg.AL_WINR n k
  let b := 4096 * s.fld r F.AL_WINR_BASE
  s.flag r F.AL_WINR_EN && decide (b ≤ off ∧ off + len ≤ b + 4096 * s.fld r F.AL_WINR_SIZE) &&
    (if write then s.flag r F.AL_WINR_WR else s.flag r F.AL_WINR_RD)

/-- The checks of R268 in order, and the standby's answer (R422). -/
def State.winCheck (s : State) (m off len : Nat) (write : Bool) : WinCheck :=
  let w := off / 0x10000000
  if h : w < 96 then
    let n : Port := ⟨w, h⟩
    let o := off % 0x10000000
    if 0x10000000 < o + len then .ur (some n)
    else if s.flag (Reg.AL_WIN_CTRL n) F.AL_WIN_CTRL_EN = false then .ur (some n)
    else if (s.fld (Reg.AL_WIN_HOSTS n) F.AL_WIN_HOSTS_LINKS).testBit m = false then .ur (some n)
    else if (List.range 4).any (s.regionOk n o len write) = false then .ur (some n)
    else if s.mode = 7 ∨ s.isUp (.al n) = false then .ca n
    else .ok n
  else .ur none

/-- A rejection counted on its port, where the port's domain holds the counter. -/
def State.countHrej (s : State) (n : Port) : State := if s.on (domL (n / 8)) then s.cnt (Reg.AL_BR_HREJ n) else s

/-- A host access of link `m` is rejected with UR (R268, R346). -/
def State.hostUr (s : State) (m : Nat) (read : Bool) : State :=
  let s := s.aerTlp m aerUr
  if read then s.emit (.cpl m 1 []) else s

/-- The link's memory space is reachable (R311, R312). -/
def State.memOn (s : State) (m : Nat) : Bool := (s.link m).mse && !(s.link m).d3

/-! ## Host writes and reads (R273 to R275) -/

/-- A new access's pieces join the queue: the first is free to go 420 Tc after the TLP's delivery (R32, R274). -/
def pieceCells (cls due acc : Nat) : Bool → List (List Word) → List BusCell
  | _, [] => []
  | cont, w :: ws => { words := w, cls := cls, due := due, acc := acc, cont := cont } :: pieceCells cls due acc true ws

/-- HOST_BAR4_WRITE (R268, R271 to R274): a host write to a local window, its bytes with their enables. -/
def execHostBar4Write (m : HLink) (off : Nat) (data : List (Option Byte)) (s : State) : Res :=
  if s.reachable m = false then .next s
  else if s.memOn m then
    match s.winCheck m off data.length true with
    | .ur n => .next ((match n with | some n => s.countHrej n | none => s).hostUr m false)
    | .ca n => .next ((s.countHrej n).aerTlp m aerUr)
    | .ok n =>
      let x := swapX (s.fld (Reg.AL_WIN_CTRL n) F.AL_WIN_CTRL_SWAP)
      let w := 2 ^ s.fld (Reg.AL_STAT n) F.AL_STAT_BUSW
      let bs := localBytes x (off % 0x10000000) 0 data
      let ps := (narrow w bs.length bs).map (fun (a, d) => busWords 1 0 d.length 0 a (leNat d))
      .next (s.updPort n (fun p =>
        { p with acc := p.acc + 1, busQ := p.busQ ++ pieceCells 1 (s.coreNow + 420) p.acc false ps }))
  else .next (s.hostUr m false)

/-- Tags of host reads that are outstanding on a port. -/
def PortRt.tags (p : PortRt) : List Nat := p.reads.flatMap (fun r => (r.pieces.filter (fun x => x.data.isNone)).map (·.tag))

/-- `k` tags that are not in use, from the next one on. -/
def pickTags (used : List Nat) : Nat → Nat → Nat → List Nat
  | 0, _, _ => []
  | n + 1, t, k =>
    if k = 0 then []
    else if used.contains (t % 256) then pickTags used n (t + 1) k
    else t % 256 :: pickTags used n (t + 1) (k - 1)

/-- Narrow accesses of a host read of the bytes that its enables name: address and width (R272). -/
def readSplit (w off x : Nat) (en : List Bool) : List (Nat × Nat) :=
  let bs := localBytes x off 0 (en.map (fun e => if e then some 0 else none))
  (narrow w bs.length bs).map (fun (a, d) => (a, d.length))

/-- A host read takes its tags and its pieces join the queue, if no more than 128 RD cells are then outstanding (R275). -/
def State.issueRead (s : State) (n : Port) (r : HostRead) : State × Bool :=
  let p := s.port n
  let k := r.pieces.length
  if 128 < p.tags.length + k then (s, false)
  else
    let ts := pickTags p.tags 512 p.tagNext k
    let ps := (r.pieces.zip ts).map (fun (x, t) => { x with tag := t })
    let cells := ps.map (fun x => busWords 2 x.tag x.wid 0 x.addr 0)
    (s.updPort n (fun p =>
      { p with tagNext := (ts.getLast?.getD p.tagNext + 1) % 256, reads := p.reads ++ [{ r with pieces := ps }],
               busQ := p.busQ ++ pieceCells 2 (s.coreNow + 420) r.acc false cells }), true)

/-- The host reads of a list that are issued while tags allow: each link's in order, so that a read which must wait holds its
own link's later ones (R275). What still waits stays. -/
def State.issueWaiting : State → Port → List (Fin 32) → List HostRead → State
  | s, _, _, [] => s
  | s, n, stuck, r :: rs =>
    let (t, ok) := if stuck.contains r.m then (s, false) else s.issueRead n r
    if ok then t.issueWaiting n stuck rs
    else (s.updPort n (fun p => { p with waitRd := p.waitRd ++ [r] })).issueWaiting n (r.m :: stuck) rs

/-- Waiting host reads of a port may go. -/
def State.issueReads (s : State) (n : Port) : State :=
  (s.updPort n (fun p => { p with waitRd := [] })).issueWaiting n [] (s.port n).waitRd

/-- The slice of port `n`'s window: the one that its local end is bound to (R568). -/
def State.winSlice (s : State) (n : Nat) : Option Nat :=
  let k := Reg.AL_WIN_CTRL n
  if s.flag k F.AL_WIN_CTRL_SLICE_EN then some (s.fld k F.AL_WIN_CTRL_SLICE) else none

/-- HOST_BAR4_READ (R268, R271 to R275): a host read of a local window, one enable for each byte. A read that enables none
reads nothing and completes. -/
def execHostBar4Read (m : HLink) (off : Nat) (en : List Bool) (s : State) : Res :=
  if s.reachable m = false then .next s
  else if s.memOn m then
    match s.winCheck m off en.length false with
    | .ur n => .next ((match n with | some n => s.countHrej n | none => s).hostUr m true)
    | .ca n => .next (((s.countHrej n).aerTlp m aerUr).emit (.cpl m 4 []))
    | .ok n =>
      let k := Reg.AL_WIN_CTRL n
      let sw := s.fld k F.AL_WIN_CTRL_SWAP
      let o := off % 0x10000000
      let ps := (readSplit (2 ^ s.fld (Reg.AL_STAT n) F.AL_STAT_BUSW) o (swapX sw) en).map (fun (a, w) => (⟨0, a, w, none⟩ : Piece))
      if ps = [] then .next (s.emit (.cpl m 0 (List.replicate en.length 0) (s.winSlice n)))
      else
        let acc := (s.port n).acc
        let r : HostRead := { m := m, off := o, len := en.length, swap := sw, hto := s.fld k F.AL_WIN_CTRL_HTO, acc := acc,
                              sl := s.winSlice n, pieces := ps }
        .next ((s.updPort n (fun p => { p with acc := p.acc + 1, waitRd := p.waitRd ++ [r] })).issueReads n)
  else .next (s.hostUr m true)

/-- A host read leaves a port: its pieces not yet sent are withdrawn, and waiting reads may go. -/
def State.dropRead (s : State) (n : Port) (r : HostRead) : State :=
  let s := s.updPort n (fun p =>
    { p with reads := p.reads.filter (fun x => x.acc != r.acc), busQ := p.busQ.filter (fun c => c.acc != r.acc),
             mid := if p.mid = some r.acc then none else p.mid })
  s.issueReads n

/-- The bytes of an answered host read, in the host's order (R271). -/
def HostRead.bytes (r : HostRead) : List Byte :=
  (List.range r.len).map (fun i =>
    let a := (r.off + i) ^^^ swapX r.swap
    match r.pieces.find? (fun p => decide (p.addr ≤ a ∧ a < p.addr + p.wid)) with
    | some p => BitVec.ofNat 8 ((p.data.getD 0) >>> (8 * (a - p.addr)))
    | none => 0)

/-- The local timeout of HTO, in Tc (R275). -/
def htoTc (c : Nat) : Nat :=
  match c with
  | 0 => 98304
  | 1 => 983040
  | 2 => 9830400
  | _ => 19660800

/-- HOST_READ_TIMEOUT (R275): the host read that holds a tag has waited HTO since its first piece was sent. -/
def execHostReadTimeout (n : Port) (tag : Nat) (s : State) : Res :=
  match (s.port n).reads.find? (fun r => r.pieces.any (fun x => x.tag == tag && x.data.isNone)) with
  | some r =>
    if r.sent.any (fun t => decide (t + htoTc r.hto ≤ s.ticks)) then
      .next (((s.dropRead n r).cnt (Reg.AL_BR_HTO n)).completeCa r.m r.sl)
    else .next s
  | none => .next s

/-- Bridged traffic of port `n` takes its way to link `m`'s egress, `d` core cycles long (R563). -/
def State.after (s : State) (m d : Nat) (n : Port) (a : LaterAct) : State :=
  s.updLink m (fun l => { l with later := l.later ++ [⟨s.coreNow + d, n, a⟩] })

/-! ## Bus cells from the local end (R252, R275) -/

/-- The sequence test of a bus cell, and its unit of credit (R249, R252): whether it is taken. -/
def State.busTake (s : State) (n : Port) (w : Word) (cls : Nat) : State × Bool :=
  let p := s.port n
  let q := wbits w 59 50
  if s.isUp (.al n) = false ∨ p.shut = true then (s, false)
  else if q = p.rxSeq then
    let s := (s.updPort n (fun p => { p with rxSeq := (p.rxSeq + 1) % 1024, nakked := false })).addCtl n (.ack false)
    s.takeCredit n (crKey cls 0) 1
  else if (p.rxSeq + 1024 - q) % 1024 ≤ 512 then (s.addCtl n (.ack false), false)
  -- one NAK asks for the SEQ expected; later cells are discarded until it arrives
  else if p.nakked then (s, false)
  else ((s.updPort n (fun p => { p with nakked := true })).addCtl n (.ack true), false)

/-- The data of a piece recorded. -/
def fillPiece (tag v : Nat) (l : List Piece) : List Piece :=
  l.map (fun x => if x.tag = tag ∧ x.data = none then { x with data := some (v % 2 ^ (8 * x.wid)) } else x)

/-- CPL (R275): the answer of a piece; a host read completes when every piece is answered. An answer for a tag that is not
outstanding is counted in AL_BR_STALE. -/
def execCpl (n : Port) (w : Word) (data : Word) (s : State) : Res :=
  let tag := wbits w 49 42
  let (s, ok) := s.busTake n w 3
  if ok then
    match (s.port n).reads.find? (fun r => r.pieces.any (fun x => x.tag == tag && x.data.isNone)) with
    | none => .next (s.cnt (Reg.AL_BR_STALE n))
    | some r =>
      let r' := { r with pieces := fillPiece tag data.toNat r.pieces }
      if r'.pieces.all (·.data.isSome) then .next ((s.dropRead n r).after r.m 364 n (.cpl r.sl r'.bytes))
      else .next (s.updPort n (fun p => { p with reads := p.reads.map (fun x => if x.acc = r.acc then r' else x) }))
  else .next s

/-- ERR (R275): the local end's error ends the host read: UNSUPPORTED with UR, POISON with EP = 1 and zeros, any other with
CA. -/
def execErr (n : Port) (w : Word) (s : State) : Res :=
  let tag := wbits w 49 42
  let (s, ok) := s.busTake n w 3
  if ok then
    match (s.port n).reads.find? (fun r => r.pieces.any (fun x => x.tag == tag && x.data.isNone)) with
    | none => .next (s.cnt (Reg.AL_BR_STALE n))
    | some r =>
      let s := s.dropRead n r
      match wbits w 39 32 with
      | 1 => .next (s.emit (.cpl r.m 1 [] r.sl))
      | 4 => .next (s.emit (.cplEp r.m (List.replicate r.len 0) r.sl))
      | _ => .next (s.completeCa r.m r.sl)
  else .next s

/-- RETRY from a local end (R241): discarded and counted in AL_PROTO. -/
def execRetry (n : Port) (w : Word) (s : State) : Res :=
  let (s, ok) := s.busTake n w 3
  if ok then .next (s.linkProto (.al n)) else .next s

/-! ## Local ends reaching host memory (R276 to R283) -/

/-- The width of an access, in bytes. -/
def accWidth (w : Word) : Nat := 2 ^ wbits w 41 40

/-- Aperture `k` of port `n` permits an access at `addr`. -/
def State.apertureOk (s : State) (n : Nat) (addr : Word) (write : Bool) (k : Nat) : Bool :=
  let r := Reg.AL_UPR n k
  let l := s.fld r F.AL_UPR_LOG2SIZE
  s.flag r F.AL_UPR_EN && (addr.toNat >>> l == (4096 * s.fld r F.AL_UPR_BASE) >>> l) &&
    (if write then s.flag r F.AL_UPR_WR else s.flag r F.AL_UPR_RD)

/-- The first check of R276 that an access fails, by the status that an RD is answered; a fenced slice answers as a clear
Bus Master Enable (R371). -/
def State.localCheck (s : State) (n : Nat) (addr : Word) (wid : Nat) (write : Bool) : Option Nat :=
  let k := Reg.AL_WIN_CTRL n
  let sl := s.fld k F.AL_WIN_CTRL_SLICE
  if addr.toNat % wid ≠ 0 then some 1
  else if s.flag k F.AL_WIN_CTRL_SLICE_EN = false ∨ s.bound sl = false then some 6
  else if (List.range 4).any (s.apertureOk n addr write) = false then some 1
  else if (s.link (s.slLink sl)).bme = false ∨ (s.link (s.slLink sl)).d3 = true ∨ s.fenced sl = true then some 2
  else none

/-- A refused access is counted, and BRIDGE_ERROR raised (R276). -/
def State.localRej (s : State) (n : Port) : State := (s.cnt (Reg.AL_BR_LREJ n)).evUm 7

/-- An answer joins the queue: it goes in the first usable slot 96 Tc after the request's last symbol (R277). -/
def State.answer (s : State) (n : Port) (ws : List Word) : State :=
  s.updPort n (fun p => { p with acc := p.acc + 1, busQ := p.busQ ++ [{ words := ws, cls := 3, due := s.coreNow + 96, acc := p.acc, cont := false }] })

/-- The host's bytes of a local access, in ascending host address, with the lowest address (R271). -/
def hostBytes (x addr wid v : Nat) : Nat × List Byte :=
  let bs := localBytes x addr 0 ((leBytes wid v).map some)
  ((bs.head?.map (·.1)).getD addr, bs.map (·.2))

/-- The slice of a port's local end and its link. -/
def State.alSlice (s : State) (n : Nat) : Nat := s.fld (Reg.AL_WIN_CTRL n) F.AL_WIN_CTRL_SLICE

/-- Attributes of a bridged request of slice `sl`: outside the beat wheel, in the slice's turns (R277, R568). -/
def bridgeAttr (sl : Nat) : Nat := 128 + 256 * sl

/-- What was on its way reaches host egress: a request is translated there where the cache holds its page (R300). -/
def State.bridgeOut (s : State) (m : Nat) (w : LaterOut) : State :=
  match w.act with
  | .cpl sl bs => s.emit (.cpl (Fin.ofNat 32 m) 0 bs sl)
  | .write sl a bs =>
    let (s, ta, attr) := s.translate m sl (BitVec.ofNat 64 a) (bridgeAttr sl)
    s.send m (.mwr m (s.pasidOf m sl) ta bs attr)
  | .read sl a wid fetch =>
    let page := (s.atsHit m sl (BitVec.ofNat 64 a)).map (fun _ => (sl, a / 4096))
    let (s, ta, attr) := s.translate m sl (BitVec.ofNat 64 a) (bridgeAttr sl)
    let s := s.updPort w.port (fun p =>
      { p with retried := p.retried.map (fun e => if e.fetch = fetch then { e with page := page } else e) })
    s.send m (.mrd m (s.pasidOf m sl) ta wid attr)

/-- A completion goes when its way is done; a request, besides, while the link may send requests and its limit of
non-posted requests is not reached (R297, R310). -/
def State.mayLeave (s : State) (m : Nat) (w : LaterOut) : Bool :=
  decide (w.due ≤ s.coreNow) &&
    (match w.act with
     | .cpl .. => true
     | .write .. => (s.link m).going
     | .read .. => (s.link m).going && s.npFree m)

/-- The bridged traffic of link `m` that may leave in the present Tc, in the order accepted; the rest waits. -/
def State.laterTick : State → Nat → List LaterOut → State
  | s, _, [] => s
  | s, m, w :: ws =>
    if s.mayLeave m w then (s.bridgeOut m w).laterTick m ws
    else (s.updLink m (fun l => { l with later := l.later ++ [w] })).laterTick m ws

/-- The bridged traffic of a link in one Tc. -/
def State.bridgeTick (s : State) (m : Nat) : State :=
  let ws := (s.link m).later
  if ws = [] then s else (s.updLink m (fun l => { l with later := [] })).laterTick m ws

/-- WR (R276, R422): a local end's write to host memory becomes a posted write, or is discarded. -/
def execWr (n : Port) (w : Word) (addr : Word) (data : Word) (s : State) : Res :=
  let (s, ok) := s.busTake n w 1
  if ok then
    if s.mode = 7 then .next (s.cnt (Reg.AL_BR_LREJ n))
    else
      let wid := accWidth w
      match s.localCheck n addr wid true with
      | some _ => .next (s.localRej n)
      | none =>
        let sl := s.alSlice n
        let m := s.slLink sl
        let (a, bs) := hostBytes (swapX (s.fld (Reg.AL_WIN_CTRL n) F.AL_WIN_CTRL_SWAP)) addr.toNat wid data.toNat
        .next (s.after m 160 n (.write sl a bs))
  else .next s

/-- RD (R276 to R279, R422): a local end's read of host memory. -/
def execRd (n : Port) (w : Word) (addr : Word) (s : State) : Res :=
  let (s, ok) := s.busTake n w 2
  let tag := wbits w 49 42
  let wid := accWidth w
  let err (c : Nat) : List Word := busWords 5 tag wid c addr.toNat 0
  if ok then
    if s.mode = 7 then .next ((s.cnt (Reg.AL_BR_LREJ n)).answer n (err 2))
    else
      match (s.port n).retried.find? (fun e => e.tag == tag) with
      | some e =>
        let free (s : State) : State := s.updPort n (fun p => { p with retried := p.retried.filter (fun x => x.tag != tag) })
        if e.addr ≠ addr ∨ e.wid ≠ wid then .next (((free s).linkProto (.al n)).answer n (err 2))
        else
          match e.held with
          | none => .next (s.answer n (busWords 4 tag wid 0 addr.toNat 0))
          | some (0, v) => .next ((free s).answer n (busWords 3 tag wid 0 addr.toNat v.toNat))
          | some (c, _) => .next ((free s).answer n (err c))
      | none =>
        match s.localCheck n addr wid false with
        | some c => .next ((s.localRej n).answer n (err c))
        | none =>
          if 64 ≤ (s.port n).retried.length then .next ((s.cnt (Reg.AL_BR_LIMIT n)).answer n (err 5))
          else
            let sl := s.alSlice n
            let m := s.slLink sl
            let sw := s.fld (Reg.AL_WIN_CTRL n) F.AL_WIN_CTRL_SWAP
            let (a, _) := hostBytes (swapX sw) addr.toNat wid 0
            let s := s.after m 160 n (.read sl a wid (s.port n).fetches)
            let s := s.updPort n (fun p =>
              { p with fetches := p.fetches + 1,
                       retried := p.retried ++ [{ tag := tag, addr := addr, wid := wid, m := Fin.ofNat 32 m, fetch := p.fetches,
                                                  swap := sw }] })
            .next (s.answer n (busWords 4 tag wid 0 addr.toNat 0))
  else .next s

/-- A retried-read entry replaced by its image under `f`. -/
def State.updRetried (s : State) (n : Port) (tag : Nat) (f : Retried → Retried) : State :=
  s.updPort n (fun p => { p with retried := p.retried.map (fun x => if x.tag = tag then f x else x) })

/-- BRIDGE_FETCH_COMPLETE (R278, R280): the host's completion for a retried read is delivered and held; `fetch` counts the
port's fetches from 0. A completion for a freed entry is discarded, whatever has taken its tag since (R281, R282). -/
def execBridgeFetchComplete (n : Port) (fetch : Nat) (st : CplStatus) (data : List Byte) (s : State) : Res :=
  match (s.port n).retried.find? (fun e => e.fetch == fetch && e.held.isNone) with
  | none => .next s
  | some e =>
    let x := swapX e.swap
    let a := e.addr.toNat
    let (h, _) := hostBytes x a e.wid 0
    let v := leNat ((List.range e.wid).map (fun j => data.getD (((a + j) ^^^ x) - h) 0))
    let keep (c : Nat) (v : Nat) (s : State) : State :=
      s.updRetried n e.tag (fun r => { r with held := some (c, BitVec.ofNat 64 v), at_ := s.ticks })
    match st with
    | .sc => if data.length = e.wid then .next (keep 0 v s) else .next s
    | .ur => .next (keep 1 0 s)
    | .ca => .next (keep 2 0 s)
    | .ep => .next (keep 4 0 (s.aerTlp e.m aerPoison))

/-- BRIDGE_FETCH_TIMEOUT (R278, R346): the fetch meets the host link's completion timeout. -/
def execBridgeFetchTimeout (n : Port) (tag : Nat) (s : State) : Res :=
  match (s.port n).retried.find? (fun e => e.tag == tag && e.held.isNone) with
  | none => .next s
  | some e => .next ((s.aerUnc e.m aerCto []).updRetried n tag (fun r => { r with held := some (3, 0), at_ := s.ticks }))

/-- BRIDGE_HOLD_EXPIRY (R280): held data not collected by the end of the 65,536th Tc is discarded. -/
def execBridgeHoldExpiry (n : Port) (tag : Nat) (s : State) : Res :=
  match (s.port n).retried.find? (fun e => e.tag == tag && e.held.isSome) with
  | none => .next s
  | some e =>
    if e.at_ + 65536 < s.ticks then
      .next (((s.updPort n (fun p => { p with retried := p.retried.filter (fun x => x.tag != tag) })).cnt (Reg.AL_BR_DISCARD n)).evUm 7)
    else .next s

/-- Every retried-read entry of a port is freed; each holding counts in AL_BR_DISCARD (R283). -/
def State.freeRetried (s : State) (n : Port) : State :=
  let k := ((s.port n).retried.filter (fun e => e.held.isSome)).length
  (s.updPort n (fun p => { p with retried := [] })).addCnt (Reg.AL_BR_DISCARD n) k 0xFFFFFFFF

/-- Port `n` loses the retried-read entries and host reads of link `m`; other links' waiting reads may go (R282). -/
def State.dropLinkReads (s : State) (m : Nat) (n : Port) : State :=
  let p := s.port n
  if p.retried.any (fun e => e.m.val == m) ∨ (p.reads ++ p.waitRd).any (fun r => r.m.val == m) then
    let gone := (p.reads.filter (fun r => r.m.val == m)).map (·.acc)
    let s := s.updPort n (fun p =>
      { p with retried := p.retried.filter (fun e => e.m.val != m), reads := p.reads.filter (fun r => r.m.val != m),
               waitRd := p.waitRd.filter (fun r => r.m.val != m), busQ := p.busQ.filter (fun c => !gone.contains c.acc),
               mid := if p.mid.any (fun a => gone.contains a) then none else p.mid })
    s.issueReads n
  else s

/-- A reset of link `m` frees the retried-read entries of ports bound to its slices, and drops its host reads, whose
answers will be stale (R282). -/
def State.bridgeLinkReset (s : State) (m : Nat) : State :=
  (List.finRange 96).foldl (fun s n => s.dropLinkReads m n) s

/-- AL_BR_STATn (R284). -/
def State.brStat (s : State) (n : Nat) : Word :=
  let p := s.port n
  BitVec.ofNat 64 (p.tags.length * 2 ^ 16 + p.retried.length * 2 ^ 8)

/-- AL_LEDGERn of the class and stream that AL_LEDGER_SEL names (R266). -/
def State.ledger (s : State) (n cls sid : Nat) : Word :=
  if cls = 0 then
    let c := s.crRx n (crKey 0 sid)
    BitVec.ofNat 64 (c.granted * 2 ^ 32 + c.recvd)
  else
    let c := s.crTx n (crKey cls 0)
    BitVec.ofNat 64 (c.granted * 2 ^ 32 + c.sent)

end Sys2Proof.Machine
end

