-- ==== Sys2Proof/Machine/Slices.lean ====
section
/-! DEFINITION. Slices: the mailbox, fencing, killing, teardown, link resets and what SL_STATs shows (12). -/

namespace Sys2Proof.Machine

/-! ## The mailbox (R364 to R367) -/

/-- A field of SL_MBOX_STAT of a slice. -/
def State.mb (s : State) (sl : Nat) (f : Fld) : Nat := s.fld (Reg.SL_MBOX_STAT sl) f
/-- A field of SL_MBOX_STAT of a slice set. -/
def State.setMb (s : State) (sl : Nat) (f : Fld) (v : Nat) : State := s.setFld (Reg.SL_MBOX_STAT sl) f v
/-- SL_MBPEND's bit of a slice set or cleared. -/
def State.setPend (s : State) (sl : Nat) (b : Bool) : State :=
  s.wrW (Reg.SL_MBPEND (sl / 32)) (BitVec.ofNat 64 (putBit (s.rdW (Reg.SL_MBPEND (sl / 32))).toNat (sl % 32) b))

/-- SL_MBOX_CFG of a slice, which lies in its window alone. -/
def State.mboxCfg (s : State) (sl : Nat) : Nat := (SMap.get 0 (s.slice sl).win 0xA010).toNat
/-- A register of a slice's window replaced. -/
def State.setWin (s : State) (sl off : Nat) (v : Nat) : State :=
  s.updSlice sl (fun r => { r with win := SMap.put 0 r.win off (BitVec.ofNat 64 v) })

/-- The inbound doorbell (R365). In the Tc of a link reset it is discarded, and in the Tc in which MBOX_GET takes a message it
still finds IN_FULL set (R375). -/
def State.dbin (s : State) (sl len : Nat) : State :=
  if (s.link (s.slLink sl)).cutAt = some s.ticks then s
  else if s.mb sl F.SL_MBOX_STAT_IN_FULL ≠ 0 ∨ (s.slice sl).tookAt = some s.ticks then
    s.setW1c (Reg.SL_MBOX_STAT sl) F.SL_MBOX_STAT_IN_OVR
  else if len = 0 ∨ 4096 < len then s
  else
    let s := s.updSlice sl (fun r => { r with rangAt := some s.ticks })
    let s := (s.setMb sl F.SL_MBOX_STAT_IN_FULL 1).setMb sl F.SL_MBOX_STAT_IN_LEN len
    (s.setPend sl true).evUm 8

/-- SL_DBIN (R365): a tenant's write of the inbound doorbell. -/
def execSlDbin (sl : Slice) (v : BitVec 32) (s : State) : Res :=
  if s.bound sl then .next (s.dbin sl (bitsOf v.toNat 12 0)) else .next s

/-- SL_DBOUT.ACK (R366). -/
def State.dbout (s : State) (sl : Nat) : State := s.setMb sl F.SL_MBOX_STAT_OUT_FULL 0

/-- SL_DBOUT_ACK (R366): a tenant's write of SL_DBOUT.ACK. -/
def execSlDboutAck (sl : Slice) (s : State) : Res := if s.bound sl then .next (s.dbout sl) else .next s

/-- The bytes of a mailbox area. -/
def mbBytes (m : SMap Byte) (n : Nat) : List Byte := (List.range n).map (fun i => SMap.get 0 m i)

/-- A message written into a mailbox area from its start. -/
def mbWrite : SMap Byte → Nat → List Byte → SMap Byte
  | m, _, [] => m
  | m, i, b :: bs => mbWrite (SMap.put 0 m i b) (i + 1) bs

/-- The manager takes the inbound message (R365): its bytes, and the state after. -/
def State.takeMail (s : State) (sl : Nat) : State × List Byte :=
  let bs := mbBytes (s.slice sl).mbIn (s.mb sl F.SL_MBOX_STAT_IN_LEN)
  let s := ((s.setMb sl F.SL_MBOX_STAT_IN_FULL 0).setPend sl false).updSlice sl (fun r => { r with tookAt := some s.ticks })
  let c := s.mboxCfg sl
  (if c.testBit 30 then s.slSignal sl (bitsOf c 13 8) else s, bs)

/-- The manager sends a message outbound (R366). -/
def State.putMail (s : State) (sl : Nat) (bs : List Byte) : State :=
  let s := s.updSlice sl (fun r => { r with mbOut := mbWrite r.mbOut 0 bs })
  let s := (s.setMb sl F.SL_MBOX_STAT_OUT_FULL 1).setMb sl F.SL_MBOX_STAT_OUT_LEN bs.length
  let c := s.mboxCfg sl
  if c.testBit 31 then s.slSignal sl (bitsOf c 5 0) else s

/-! ## What SL_STATs shows (R369) -/

/-- The slices that have an enabled pail, stream entry or SLICE_EN window on port `n` (R369). -/
def State.portSlices (s : State) (n : Nat) : List Nat :=
  let w := if s.flag (Reg.AL_WIN_CTRL n) F.AL_WIN_CTRL_SLICE_EN then [s.alSlice n] else []
  let ps := (s.portPails n 0 ++ s.portPails n 1).map (fun p => s.pailSlice p)
  let u := s.groupUnit (n / 8)
  let es := ((listed s.gen (Reg.CH_STR u 0) 0x10 256).filter (fun e =>
    s.flag (Reg.CH_STR u e) F.CH_STR_EN && s.fld (Reg.CH_STR u e) F.CH_STR_SIDE == 0 && s.fld (Reg.CH_STR u e) F.CH_STR_PORT == n % 8)).map
    (fun e => s.fld (Reg.CH_STR u e) F.CH_STR_SLICE)
  w ++ ps ++ es

/-- SHARED_PORT of a slice. -/
def State.sharedPort (s : State) (sl : Nat) : Bool :=
  (List.range 96).any (fun n =>
    !s.parted n && (s.portSlices n).contains sl && (s.portSlices n).any (fun x => x != sl))

/-- DMA_WHEELm_STAT.OVER: the wheel's beats exceed the budget at the present width and rate (R211). -/
def State.wheelOver (s : State) (m : Nat) : Bool :=
  s.flag (Reg.HL_LINK_STAT m) F.HL_LINK_STAT_DLUP && s.linkPresent m && decide (s.budgetNow m < s.wheelSum m)

/-- OPEN_WINDOW of a slice. -/
def State.openWindow (s : State) (sl : Nat) : Bool :=
  (List.range 96).any (fun n =>
    s.flag (Reg.AL_WIN_CTRL n) F.AL_WIN_CTRL_SLICE_EN && s.alSlice n == sl &&
      (setBits 32 (s.fld (Reg.AL_WIN_HOSTS n) F.AL_WIN_HOSTS_LINKS)).any (fun m => m != s.slLink sl && m != s.mgr))

/-- Every channel of a slice is Idle or Error (R371). -/
def State.quiet (s : State) (sl : Nat) : Bool := (s.slChans sl).all (fun c => !s.chBusy c)

/-- SL_STATs (R369, R371). -/
def State.slStat (s : State) (sl : Nat) : Nat :=
  let off := s.bound sl && !(s.link (s.slLink sl)).pasidEn
  let sh := s.sharedPort sl
  let ov := s.bound sl && (s.wheelOver (s.slLink sl) || s.flag (Reg.HL_LINK_STAT (s.slLink sl)) F.HL_LINK_STAT_NARROW_OVER)
  let ow := s.openWindow sl
  (if s.quiet sl then 256 else 0) + (if s.bound sl && !(off || sh || ov || ow) then 128 else 0) +
    (if ow then 8 else 0) + (if ov then 4 else 0) + (if sh then 2 else 0) + (if off then 1 else 0)

/-! ## Fencing and killing (R371 to R373) -/

/-- An Armed generation unbinds or rebinds a slice (R373). -/
def State.rebinds (s : State) (sl : Nat) : Bool :=
  s.genState == 2 && s.bound sl && (s.rdS (Reg.SL_BIND sl) != s.rdG (Reg.SL_BIND sl))

/-- FENCE of a slice written (R371, R373). -/
def State.slFence (s : State) (sl : Nat) (on : Bool) : State :=
  if on then
    let s := s.setFld (Reg.SL_CTRL sl) F.SL_CTRL_FENCE 1
    s.dmaStops ((s.slChans sl).filter (fun c => s.chBusy c))
  else if s.rebinds sl then s
  else s.setFld (Reg.SL_CTRL sl) F.SL_CTRL_FENCE 0

/-- SL_CTRL_FENCE (R371): a write of SL_CTRLs with FENCE as given. -/
def execSlCtrlFence (sl : Slice) (on : Bool) (s : State) : Res := .next (s.slFence sl on)

/-- KILL of a slice (R372): its channels that are neither Idle nor Error end with LINK_RESET. -/
def State.slKill (s : State) (sl : Nat) : State :=
  if s.fenced sl then s.endChans (s.slChans sl) 9 else s

/-- SL_CTRL_KILL (R372): a write of SL_CTRLs.KILL. -/
def execSlCtrlKill (sl : Slice) (s : State) : Res := .next (s.slKill sl)

/-! ## Link resets and teardown (R370, R374) -/

/-- A link reset's effect on one slice's mailbox (R370): a doorbell of the same Tc is discarded with its message and loses none
(R375). -/
def State.mboxReset (s : State) (sl : Nat) : State :=
  let lost := s.mb sl F.SL_MBOX_STAT_IN_FULL ≠ 0 ∧ (s.slice sl).rangAt ≠ some s.ticks
  let s := if lost then s.setW1c (Reg.SL_MBOX_STAT sl) F.SL_MBOX_STAT_LOST else s
  let s := ((s.setMb sl F.SL_MBOX_STAT_IN_FULL 0).setPend sl false).setMb sl F.SL_MBOX_STAT_IN_OVR 0
  let s := s.setMb sl F.SL_MBOX_STAT_OUT_FULL 0
  (s.setWin sl 0xA010 0).updSlice sl (fun r => { r with mbOut := [] })

/-- The slices bound to link `m`. -/
def State.linkSlices (s : State) (m : Nat) : List Nat :=
  (listed s.gen (Reg.SL_BIND 0) 0x40 1024).filter (fun sl => s.bound sl && s.slLink sl == m)

/-- TDI state of a slice set; a change raises TDI_STATE (R528, R529). -/
def State.setTdi (s : State) (sl v : Nat) : State :=
  let k := Reg.SEC_TDI (sl / 16)
  if s.tdi sl = v then s
  else (s.wrW k (wput (s.rdW k) (2 * (sl % 16) + 1) (2 * (sl % 16)) v)).occurBit (568 + 13) Reg.SEC_EVENT 13 none

/-- What a link reset does to each of the link's slices (R225, R370, R529). -/
def State.slicesReset : State → List Nat → State
  | s, [] => s
  | s, sl :: sls =>
    let s := s.endChans (s.slChans sl) 9
    let s := (s.mboxReset sl).setTdi sl 0
    s.slicesReset sls

/-- The teardown of a slice that a generation unbinds or rebinds (R374): `chans` are the channels that leave it. -/
def State.teardown (s : State) (sl m : Nat) (chans : List Nat) : State :=
  let s := s.updSlice sl (fun r => { r with mbIn := [], mbOut := [], win := SMap.put 0 r.win 0xA010 0 })
  let s := (s.wrW (Reg.SL_MBOX_STAT sl) 0).wrW (Reg.SL_IRQDROP sl) 0
  let s := s.setPend sl false
  let s := chans.foldl (fun s c => (s.setChans (SMap.put {} s.chans c {})).keepRegs
    (fun k => !(decide (Reg.DMA_SRC c ≤ k ∧ k < Reg.DMA_SRC c + 0x60)))) s
  let s := s.updLink m (fun l => { l with ats := l.ats.filter (fun e => e.sl != sl), atsMiss := l.atsMiss.filter (fun k => k.1 != sl),
                                          atsWait := l.atsWait.filter (fun k => k.1 != sl) })
  s.setFld (Reg.SL_CTRL sl) F.SL_CTRL_FENCE 0

end Sys2Proof.Machine
end

