-- ==== Sys2Proof/Machine/HostLink.lean ====
section
/-! DEFINITION. Host ports and links: resets, layouts, configuration space, enables and D-states, training, link power, ATS,
DOE and MSI-X messages (10, 11). -/

namespace Sys2Proof.Machine

/-! ## The Resource Table's change count (R331) -/

/-- CHANGE_COUNT of each of a list of links grows by 1. -/
def State.rtBump : State → List Nat → State
  | s, [] => s
  | s, m :: ms => (s.updLink m (fun l => { l with rtCount := (l.rtCount + 1) % 2 ^ 32 })).rtBump ms

/-- The Resource Tables of a list of links are replaced in one Tc: one occurrence of CONFIG_CHANGED. -/
def State.rtTouch (s : State) (ms : List Nat) : State := (s.rtBump ms).evUm 15

/-- Every present link's table is replaced. -/
def State.rtAll (s : State) : State := s.rtTouch ((List.range 32).filter (fun m => s.linkPresent m))

/-- The links whose table shows link `m`: its own and the manager link's (R330). -/
def State.rtOf (s : State) (m : Nat) : List Nat := if m = s.mgr then [m] else [m, s.mgr]

/-! ## Link resets (R225, R306 to R309, R370, R382) -/

/-- A field of HL_LINKm_STAT set. -/
def State.setHl (s : State) (m : Nat) (f : Fld) (v : Nat) : State := s.setFld (Reg.HL_LINK_STAT m) f v
/-- LSTATE of a link (R318). -/
def State.lstate (s : State) (m : Nat) : Nat := s.fld (Reg.HL_LINK_STAT m) F.HL_LINK_STAT_LSTATE

/-- HL_LINK with LAST_LINK (R317). -/
def State.linkEv (s : State) (m code : Nat) : State :=
  (s.setFld (Reg.HL_LINK_EVENT m) F.HL_LINK_EVENT_LAST_LINK code).evHl m 0

/-- The data link of link `m` goes down, and its state becomes `st`. -/
def State.hlDown (s : State) (m st : Nat) : State :=
  let up := s.flag (Reg.HL_LINK_STAT m) F.HL_LINK_STAT_DLUP
  let s := ((((s.setHl m F.HL_LINK_STAT_LSTATE st).setHl m F.HL_LINK_STAT_RATE 0).setHl m F.HL_LINK_STAT_WIDTH 0).setHl m
    F.HL_LINK_STAT_FLIT 0).setHl m F.HL_LINK_STAT_DLUP 0
  let s := (s.setHl m F.HL_LINK_STAT_NARROW_OVER 0).setHl m F.HL_LINK_STAT_L1_HELD 0
  if up then (s.linkEv m 2).rtTouch (s.rtOf m) else s

/-- The function of link `m` in its after-reset state (R306, R308, R332). -/
def LinkRt.cleared (l : LinkRt) : LinkRt :=
  { l with cfg := [], msix := [], pend := [], msgs := [], going := false, flr := none, txQ := [], later := [], lateQ := [], ats := [],
           atsMiss := [], atsWait := [], inval := [], doeIn := [], doeBuf := [], ide := [], spdm := {} }

/-- No message and no pending bit remains on a link that a reset of the same Tc clears (R344). -/
def State.noMsgs (s : State) (m : Nat) : State :=
  s.updLink m (fun l => { l with pend := [], msgs := [], cutAt := some s.ticks })

/-- A reset of link `m` by its code in LAST_RESET: 1 PERST_N, 2 hot reset, 3 Disabled, 4 FLR, 5 RETRAIN. Several in one Tc
act once (R309). -/
def State.linkReset (s : State) (m code : Nat) : State :=
  if (s.link m).cutAt = some s.ticks then (s.updLink m LinkRt.cleared).noMsgs m
  else
  let s := s.slicesReset (s.linkSlices m)
  let s := s.bridgeLinkReset m
  let s := s.updLink m LinkRt.cleared
  ((s.setFld (Reg.HL_LINK_EVENT m) F.HL_LINK_EVENT_LAST_RESET code).evHl m 2).noMsgs m

/-- The links of port `p` that a layout holds. -/
def portLinks (lay p : Nat) : List Nat :=
  (match lay with
    | 0 => [0]
    | 1 => [0, 1]
    | _ => [0, 1, 2, 3]).map (fun k => 4 * p + k)

/-- The links of port `p` in its layout in force. -/
def State.linksOf (s : State) (p : Nat) : List Nat := portLinks (s.fld (Reg.HL_PORT_STAT p) F.HL_PORT_STAT_BIF) p

/-- Every link of port `p` is reset and goes to Detect. -/
def State.portResets : State → List Nat → Nat → State
  | s, [], _ => s
  | s, m :: ms, code => ((s.linkReset m code).hlDown m 0).portResets ms code

/-- The same for every link of a list. -/
def State.noMsgsAll : State → List Nat → State
  | s, [] => s
  | s, m :: ms => (s.noMsgs m).noMsgsAll ms

/-- Every link of port `p` in the layout in force is reset together (R306, R307, R344). -/
def State.resetPort (s : State) (p code : Nat) : State := (s.portResets (s.linksOf p) code).noMsgsAll (s.linksOf p)

/-- The active generation uses link `m`: a slice bound to it, a wheel entry or an event route (R288). -/
def State.usesLink (s : State) (m : Nat) : Bool :=
  !(s.linkSlices m).isEmpty ||
    (listed s.gen (Reg.DMA_WHEEL_E m 0) 4 1024).any (fun i => s.flag (Reg.DMA_WHEEL_E m i) F.DMA_WHEEL_E_EN) ||
    (listed s.gen (Reg.EV_ROUTE 0) 4 640).any (fun i =>
      s.fld (Reg.EV_ROUTE i) F.EV_ROUTE_LINK == m && (s.flag (Reg.EV_ROUTE i) F.EV_ROUTE_VEC_EN || s.flag (Reg.EV_ROUTE i) F.EV_ROUTE_AER_EN))

/-- Links that a layout removed although the active generation uses them (R288). -/
def State.removeLinks : State → List Nat → State
  | s, [] => s
  | s, m :: ms =>
    (if s.usesLink m then (s.slicesReset (s.linkSlices m)).linkEv m 6 else s).removeLinks ms

/-- Port `p` leaves reset: BIF_NEXT takes effect (R287, R288). -/
def State.applyLayout (s : State) (p : Nat) : State :=
  let old := s.linksOf p
  let s := s.setFld (Reg.HL_PORT_STAT p) F.HL_PORT_STAT_BIF (s.fld (Reg.HL_PORT_CFG p) F.HL_PORT_CFG_BIF_NEXT)
  let new := s.linksOf p
  if old = new then s
  else
    let s := s.removeLinks (old.filter (fun m => !new.contains m))
    s.rtTouch (s.mgr :: (new.filter (fun m => m != s.mgr)))

/-- PERST_N_ASSERT (R306): every link of the port resets, and the port is held in reset. -/
def execPerstNAssert (p : HPort) (s : State) : Res :=
  if s.flag (Reg.HL_PORT_STAT p) F.HL_PORT_STAT_PERST then .next s
  else .next ((s.setFld (Reg.HL_PORT_STAT p) F.HL_PORT_STAT_PERST 1).resetPort p 1)

/-- PERST_N_DEASSERT (R306): the port leaves reset, with its reference clock present or not. -/
def execPerstNDeassert (p : HPort) (refclk : Bool) (s : State) : Res :=
  let k := Reg.HL_PORT_STAT p
  if s.flag k F.HL_PORT_STAT_PERST then
    let s := (s.setFld k F.HL_PORT_STAT_PERST 0).setFld k F.HL_PORT_STAT_REFCLK_OK (if refclk then 1 else 0)
    -- in Quarantine the port is held in reset whatever PERST_N does (R45)
    .next ((if s.mode = 0xC then s else s.applyLayout p).raiseWake 2 p)
  else .next s

/-- HOT_RESET (R307): a hot reset, or entry to Disabled. -/
def execHotReset (m : HLink) (disabled : Bool) (s : State) : Res :=
  if s.reachable m then
    .next (((s.linkReset m (if disabled then 3 else 2)).hlDown m (if disabled then 8 else 9)).noMsgs m)
  else .next s

/-- HL_PORTp_CTRL.RETRAIN (R287, R307): an assertion and a deassertion of PERST_N, without leaving reset while PERST_N is
asserted or in Quarantine. -/
def State.portRetrain (s : State) (p : Nat) : State :=
  let s := s.resetPort p 5
  if s.flag (Reg.HL_PORT_STAT p) F.HL_PORT_STAT_PERST ∨ s.mode = 0xC then s else s.applyLayout p

/-- HL_PORT_RETRAIN (R307): a write of HL_PORTp_CTRL.RETRAIN. -/
def execHlPortRetrain (p : HPort) (s : State) : Res := .next (s.portRetrain p)

/-- An FLR of link `m` begins (R308, R382). -/
def State.flr (s : State) (m : Nat) : State :=
  let s := (s.linkReset m 4).cnt (Reg.HL_LINK_FLR m)
  let s := s.updLink m (fun l => { l with flr := some s.ticks })
  if m = s.mgr then (s.resetCarrier .ring).noMsgs m else s

/-- FLR (R308): a configuration write initiates a function level reset. -/
def execFlr (m : HLink) (s : State) : Res :=
  if s.reachable m ∧ (s.link m).flr = none then .next (s.flr m) else .next s

/-- FLR_COMPLETE (R308). -/
def execFlrComplete (m : HLink) (s : State) : Res := .next (s.updLink m (fun l => { l with flr := none }))

/-! ## Memory Space Enable and D-states (R311, R312) -/

/-- Memory Space Enable written. -/
def State.setMse (s : State) (m : Nat) (on : Bool) : State :=
  if (s.link m).mse = on then s
  else (s.updLink m (fun l => l.setCfg 0x004 (putBit (l.cfgW 0x004) 1 on))).evHl m 3

/-- MEMORY_SPACE_ENABLE_CHANGE (R311). -/
def execMemorySpaceEnableChange (m : HLink) (on : Bool) (s : State) : Res :=
  if s.reachable m then .next (s.setMse m on) else .next s

/-- The power state of the function written: 0 or 3; requests stop in D3hot and run again in D0 (R312). -/
def State.setD (s : State) (m : Nat) (d3 : Bool) : State :=
  if (s.link m).d3 = d3 then s
  else
    let s := (s.updLink m (fun l => l.setCfg 0x044 (l.cfgW 0x044 / 4 * 4 + (if d3 then 3 else 0)))).evHl m 3
    if d3 then s.stopLink m else s.goLink m

/-- D_STATE_CHANGE (R312). -/
def execDStateChange (m : HLink) (d3 : Bool) (s : State) : Res :=
  if s.reachable m then .next (s.setD m d3) else .next s

/-! ## Data Object Exchange (R302; the object's form is PCI Express's, PRESUMED, log 12) -/

/-- A DOE response joins those to be read; vector 0 is signalled where DOE Interrupt Enable is set (R302, R337). -/
def State.doeAnswer (s : State) (m : Nat) (obj : List Byte) : State :=
  let s := s.updLink m (fun l => { l with spdm := { l.spdm with out := l.spdm.out ++ [obj] } })
  if (s.link m).cfgW 0x388 / 2 % 2 = 1 then
    (s.updLink m (fun l => l.setCfg 0x38C (l.cfgW 0x38C ||| 2))).signal m 0
  else s

/-- The DOE protocols: vendor, type and the next index. -/
def doeEntry : Nat → Option (Nat × Nat × Nat)
  | 0 => some (1, 0, 1)
  | 1 => some (1, 1, 2)
  | 2 => some (1, 2, 0)
  | _ => none

/-- DOE Error set, and the object discarded. -/
def State.doeError (s : State) (m : Nat) : State := s.updLink m (fun l => l.setCfg 0x38C (l.cfgW 0x38C ||| 4))

/-- An object arrives in the mailbox of link `m` (R302): discovery is answered at once; CMA/SPDM and Secured CMA/SPDM objects
wait for the responder; an object longer than 64 KiB, or of no protocol that R302 names, sets DOE Error. -/
def State.doePut (s : State) (m : Nat) (obj : List Byte) : State :=
  if s.mode < 4 then s
  else if 65536 < obj.length ∨ leAt obj 0 2 ≠ 1 ∨ 2 < leAt obj 2 1 then s.doeError m
  else if leAt obj 2 1 = 0 then
    match doeEntry (leAt obj 8 1) with
    | none => s.doeError m
    | some (v, t, n) => s.doeAnswer m (leBytes 4 1 ++ leBytes 4 3 ++ leBytes 2 v ++ leBytes 1 t ++ leBytes 1 n)
  else s.updLink m (fun l => { l with doeIn := l.doeIn ++ [obj] })

/-- DOE_OBJECT (R302): a data object whole, as the host's writes of the mailbox with DOE Go give it. -/
def execDoeObject (m : HLink) (obj : List Byte) (s : State) : Res :=
  if s.reachable m && (s.link m).flr.isNone then .next (s.doePut m obj) else .next s

/-! ## Configuration requests (R294 to R296) -/

/-- The lanes of a link in its port's layout (R285). -/
def State.maxWidth (s : State) (m : Nat) : Nat :=
  match s.fld (Reg.HL_PORT_STAT (m / 4)) F.HL_PORT_STAT_BIF with
  | 0 => 16
  | 1 => 8
  | _ => 4

/-- The number of rates that link `m` supports: MAX_RATE caps the seven (R290). -/
def State.rates (s : State) (m : Nat) : Nat := min 6 (s.fld (Reg.HL_PORT_CFG (m / 4)) F.HL_PORT_CFG_MAX_RATE) + 1

/-- What a lane's margining register reads: its control, and above it the status. The receiver echoes the command; the
payload of a margining step is the receiver's measurement, a free value (R292). -/
def marginRead (lane n ctl : Nat) : Nat :=
  let kind := bitsOf ctl 5 3
  ctl + ((if ctl % 2 ^ 16 = 0x9C38 then 0x9C38
    else ctl % 128 + (if kind = 3 ∨ kind = 4 then (Config.margin lane n).toNat else bitsOf ctl 15 8) * 256) <<< 16)

/-- What an IDE status word reads: the stream's state, 0 Insecure and 2 Secure. -/
def ideStatus (l : LinkRt) (n : Nat) : Nat := if (SMap.get {} l.ide n).state = 2 then 2 else 0

/-- What configuration space reads at a word offset: the fields that hardware holds elsewhere, those that the image sets
(R294), and the words held. -/
def State.cfgRead (s : State) (m off : Nat) : Nat :=
  let l := s.link m
  let st := Reg.HL_LINK_STAT m
  match marginLane off, ideBlock off with
  | some i, _ => marginRead (16 * m + i) s.ticks (l.cfgW off)
  | _, some (n, 8) => ideStatus l n
  | _, _ =>
  if off = 0x02C then ((Config.imageWord s.image 0x02C).getD 0x1F9A).toNat % 2 ^ 32
  else if off = 0x070 then
    l.cfgW off % 2 ^ 16 + (if s.flag st F.HL_LINK_STAT_DLUP then
      (s.fld st F.HL_LINK_STAT_RATE + 1) * 2 ^ 16 + s.fld st F.HL_LINK_STAT_WIDTH * 2 ^ 20 + 2 ^ 29 else 0)
  else if off = 0x06C then l.cfgW off / 2 ^ 10 * 2 ^ 10 + s.maxWidth m * 16 + s.rates m
  else if off = 0x08C then l.cfgW off / 2 ^ 8 * 2 ^ 8 + (2 ^ s.rates m - 1) * 2
  else if off = 0x410 then ideStatus l 0
  else if off = 0x164 then s.sec.fuses.dsn % 2 ^ 32
  else if off = 0x168 then s.sec.fuses.dsn / 2 ^ 32
  else if off = 0x38C then l.cfgW off + (if l.doeIn.isEmpty then 0 else 1) + (if l.spdm.out.isEmpty then 0 else 2 ^ 31)
  else if off = 0x394 then leAt (l.spdm.out.headD []) 0 4
  else l.cfgW off

/-- The bits of a word that four byte enables select. -/
def beMask (be : Nat) : Nat :=
  (if be.testBit 0 then 0xFF else 0) + (if be.testBit 1 then 0xFF00 else 0) + (if be.testBit 2 then 0xFF0000 else 0) +
    (if be.testBit 3 then 0xFF000000 else 0)

/-- A word of the DOE read mailbox is consumed. -/
def popObject : List (List Byte) → List (List Byte)
  | [] => []
  | o :: os => if (o.drop 4).isEmpty then os else o.drop 4 :: os

/-- A configuration write of the bits of `mask` at a word offset (R294, R308, R310 to R312, R333). -/
def State.cfgWrite (s : State) (m off v mask : Nat) : State :=
  let l := s.link m
  let old := l.cfgW off
  let rw := cfgRw off &&& mask
  let new := ((old ||| rw) ^^^ rw) ||| (v &&& rw)
  let w1c := cfgW1c off &&& mask &&& v
  let new := (new ||| w1c) ^^^ w1c
  if off = 0x004 then
    let cmd := new &&& (0xFFFFFFFF ^^^ 6) ||| (old &&& 6)
    let s := s.updLink m (fun l => l.setCfg off cmd)
    ((s.setMse m (new.testBit 1)).setBme m (new.testBit 2)).sendPending m
  else if off = 0x044 then
    if new % 4 = 0 ∨ new % 4 = 3 then (s.setD m (new % 4 == 3)).sendPending m else s
  else if off = 0x048 then (s.updLink m (fun l => l.setCfg off new)).sendPending m
  else if off = 0x068 then
    let s := s.updLink m (fun l => l.setCfg off new)
    if v.testBit 15 ∧ mask.testBit 15 then s.flr m else s
  else if off = 0x374 then
    s.updLink m (fun l =>
      { l.setCfg off new with ats := if new.testBit 31 then l.ats else [], atsMiss := if new.testBit 31 then l.atsMiss else [],
                                          atsWait := if new.testBit 31 then l.atsWait else [] })
  else if off = 0x388 then
    let s := s.updLink m (fun l => l.setCfg off new)
    if v.testBit 0 ∧ mask.testBit 0 then
      s.updLink m (fun l => { l.setCfg 0x38C 0 with doeIn := [], doeBuf := [], spdm := { l.spdm with out := [] } })
    else if v.testBit 31 ∧ mask.testBit 31 then
      (s.updLink m (fun l => { l with doeBuf := [] })).doePut m (s.link m).doeBuf
    else s
  else if off = 0x390 then s.updLink m (fun l => { l with doeBuf := l.doeBuf ++ leBytes 4 (v &&& mask) })
  else if off = 0x38C then
    if v.testBit 1 ∧ mask.testBit 1 then s.updLink m (fun l => l.setCfg off (l.cfgW off &&& 4)) else s
  else if off = 0x394 then s.updLink m (fun l => { l with spdm := { l.spdm with out := popObject l.spdm.out } })
  else s.updLink m (fun l => l.setCfg off new)

/-- CONFIG_REQUEST (R294, R295): Request Retry Status before the device leaves Bring-up and during an FLR; every other
configuration request completes. -/
def execConfigRequest (m : HLink) (off : Nat) (write : Bool) (v : BitVec 32) (be : Fin 16) (s : State) : Res :=
  if s.reachable m then
    if s.mode ≤ 3 ∨ (s.link m).flr.isSome = true then .next (s.emit (.cpl m 2 []))
    else
      let o := off / 4 * 4
      if write then .next ((if o < 4096 then s.cfgWrite m o v.toNat (beMask be) else s).emit (.cpl m 0 []))
      else .next (s.emit (.cpl m 0 (leBytes 4 (if o < 4096 then s.cfgRead m o else 0))))
  else .next s

/-! ## Training and width (R211, R290, R313, R317) -/

/-- A width that a link trains to or that L0p selects. -/
def widthOk (w : Nat) : Bool := w == 1 || w == 2 || w == 4 || w == 8 || w == 16
/-- A wheel that the width or rate in force no longer covers raises the DMA source of the link's lowest channel (R211). -/
def State.overEv (s : State) (m : Nat) : State :=
  if s.wheelOver m then
    match (listed s.gen (Reg.DMA_OWN 0) 4 4096).find? (fun c =>
        s.flag (Reg.DMA_OWN c) F.DMA_OWN_EN && s.bound (s.chSlice c) && s.slLink (s.chSlice c) == m) with
    | some c => s.evDma c
    | none => s
  else s

/-- A link trains to a width and a rate. -/
def State.trained (s : State) (m width rate : Nat) : State :=
  let s := (s.setHl m F.HL_LINK_STAT_RATE rate).setHl m F.HL_LINK_STAT_WIDTH width
  let s := (s.setHl m F.HL_LINK_STAT_NARROW_OVER 0).updLink m (fun l => { l with full := width })
  (s.overEv m).rtTouch (s.rtOf m)

/-- A width and rate that link `m` can train to (R285, R290, R291). -/
def State.trainable (s : State) (m width rate : Nat) (flit : Bool) : Bool :=
  widthOk width && decide (width ≤ s.maxWidth m) && decide (rate ≤ min 6 (s.fld (Reg.HL_PORT_CFG (m / 4)) F.HL_PORT_CFG_MAX_RATE)) &&
    (flit || decide (rate ≤ 4))

/-- Lateness fixed for channels whose first request waited for its link (R79, R316). -/
def State.lateNow : State → List Nat → State
  | s, [] => s
  | s, c :: cs =>
    let d := if s.ctlB c F.DMA_CTRL_TIMED then (tlDiff s.now (s.chT c)).toNat else 0
    let was := (s.chan c).late
    let s := s.updChan c (fun r => { r with first := some (tlOf s.now), late := d })
    (if d ≠ 0 ∧ was = 0 then s.evTl 7 else s).lateNow cs

/-- What waited in a transmit queue leaves. -/
def State.emitAll : State → List Out → State
  | s, [] => s
  | s, o :: os => (s.emit o).emitAll os

/-- Link `m` is in L0, or in L0p below its trained width; what waited for it is issued in the order it came (R31, R316). -/
def State.toL0 (s : State) (m : Nat) : State :=
  let s := s.setHl m F.HL_LINK_STAT_LSTATE (if s.fld (Reg.HL_LINK_STAT m) F.HL_LINK_STAT_WIDTH = (s.link m).full then 2 else 3)
  let l := s.link m
  let s := s.updLink m (fun l => { l with txQ := [], lateQ := [], idleAt := s.ticks })
  (s.emitAll l.txQ).lateNow (l.lateQ.filter (fun c => s.chBusy c))

/-- HOST_LINK_UP (R317): the data link comes up. -/
def execHostLinkUp (m : HLink) (width rate : Nat) (flit : Bool) (s : State) : Res :=
  if s.reachable m && !s.flag (Reg.HL_LINK_STAT m) F.HL_LINK_STAT_DLUP && s.trainable m width rate flit then
    let s := s.setFld (Reg.HL_PORT_STAT (m / 4)) F.HL_PORT_STAT_REFCLK_OK 1
    let s := (s.setHl m F.HL_LINK_STAT_DLUP 1).setHl m F.HL_LINK_STAT_FLIT (if flit then 1 else 0)
    let s := s.updLink m (fun l => { l with l23 := false })
    .next (((s.trained m width rate).linkEv m 1).toL0 m)
  else .next s

/-- HOST_LINK_DOWN (R317): the data link goes down. -/
def execHostLinkDown (m : HLink) (s : State) : Res :=
  if s.flag (Reg.HL_LINK_STAT m) F.HL_LINK_STAT_DLUP then .next (s.hlDown m 0) else .next s

/-- HOST_LINK_RATE_WIDTH_CHANGE (R31, R211, R317): the link passes through Recovery to another rate or width. -/
def execHostLinkRateWidthChange (m : HLink) (width rate : Nat) (s : State) : Res :=
  let k := Reg.HL_LINK_STAT m
  let dr := s.fld k F.HL_LINK_STAT_RATE ≠ rate
  let dw := s.fld k F.HL_LINK_STAT_WIDTH ≠ width
  if s.flag k F.HL_LINK_STAT_DLUP && s.trainable m width rate (s.flag k F.HL_LINK_STAT_FLIT) && (decide dr || decide dw) then
    .next ((((s.cnt (Reg.HL_LINK_RECOV m)).trained m width rate).linkEv m (if dr then 3 else 4)).toL0 m)
  else .next s

/-- Bytes in the transmit queue of link `m`. -/
def State.queuedBytes (s : State) (m : Nat) : Nat := ((SMap.get {} s.eg.links m).wait.map (·.left)).foldl (· + ·) 0

/-- L0P_NARROWING (R313): the device or the partner changes the link's width under L0p. -/
def execL0pNarrowing (m : HLink) (width : Nat) (partner : Bool) (s : State) : Res :=
  let k := Reg.HL_LINK_STAT m
  let now := s.fld k F.HL_LINK_STAT_WIDTH
  let fits := decide (s.wheelSum m ≤ wheelBudget (s.fld k F.HL_LINK_STAT_RATE) width)
  if s.flag k F.HL_LINK_STAT_DLUP && s.flag k F.HL_LINK_STAT_FLIT && (s.lstate m == 2 || s.lstate m == 3) &&
      widthOk width && decide (width ≤ (s.link m).full) && width != now &&
      (partner || (width == (s.link m).full && decide (4096 < s.queuedBytes m)) || (decide (width < now) && s.flag (Reg.HL_LINK_PMCFG m) F.HL_LINK_PMCFG_L0P_EN && fits)) then
    let s := (s.setHl m F.HL_LINK_STAT_WIDTH width).setHl m F.HL_LINK_STAT_LSTATE (if width = (s.link m).full then 2 else 3)
    let ovr := partner && decide (width < now) && !fits
    let s := if ovr then s.setHl m F.HL_LINK_STAT_NARROW_OVER 1
      else if fits then s.setHl m F.HL_LINK_STAT_NARROW_OVER 0 else s
    .next (((if ovr then s.overEv m else s).rtTouch (s.rtOf m)).linkEv m (if ovr then 5 else 4))
  else .next s

/-! ## L1 and its substates (R314 to R316, R443) -/

/-- H of R315. -/
def State.l1H (s : State) (m : Nat) : Nat := s.fld (Reg.HL_LINK_L1EXIT m) F.HL_LINK_L1EXIT_TC + 19661

/-- A timed descriptor of link `m`, in Armed or Held, has T ≤ now + H (R315). -/
def State.l1Near (s : State) (m : Nat) : Bool :=
  (s.linkChans m).any (fun c =>
    (s.chRaw c == 1 || s.chRaw c == 2) && s.ctlB c F.DMA_CTRL_TIMED && tlReached (tlAdd s.now (s.l1H m)) (s.chT c))

/-- Link `m` is idle in the sense of R314: nothing to send, no request outstanding, no channel at work. -/
def State.l1Idle (s : State) (m : Nat) : Bool :=
  (s.link m).txQ.isEmpty && (SMap.get {} s.eg.links m).wait.isEmpty && (s.link m).later.isEmpty && (s.link m).msgs.isEmpty && (s.link m).atsWait.isEmpty &&
    (s.linkChans m).all (fun c => s.chRaw c == 1 || s.chRaw c == 2) &&
    (s.linkChans m).all (fun c => (s.chan c).reads.isEmpty && !(s.chan c).fetching) &&
    (List.range 96).all (fun n => (s.port n).retried.all (fun e => e.m.val != m || e.held.isSome) &&
      ((s.port n).reads ++ (s.port n).waitRd).all (fun r => r.m.val != m))

/-- The substate that a host has enabled on link `m`: 7 for L1.2, 6 for L1.1, 5 for neither (R314). -/
def State.l1Sub (s : State) (m : Nat) : Nat :=
  let c := (s.link m).cfgW 0x2E8
  if c.testBit 2 then 7 else if c.testBit 3 then 6 else 5

/-- What a Tc does to link `m`'s idle timer in L0: it runs while the link is idle; L1_HELD ends with the idle time. -/
def State.idleLink (s : State) (m : Nat) : State :=
  if s.lstate m = 2 ∧ s.l1Idle m = false then
    (s.updLink m (fun l => { l with idleAt := s.ticks })).setHl m F.HL_LINK_STAT_L1_HELD 0
  else s

/-- Links of a port set to a substate. -/
def State.setSubs : State → List Nat → Nat → State
  | s, [], _ => s
  | s, m :: ms, v => (s.setHl m F.HL_LINK_STAT_LSTATE v).setSubs ms v

/-- The port enters a substate once every present link is in L1 with the same substate enabled (R314). -/
def State.enterSub (s : State) (p : Nat) : State :=
  let ms := s.linksOf p
  let v := s.l1Sub (ms.headD 0)
  if s.flag (Reg.HL_PORT_CFG p) F.HL_PORT_CFG_L1SS_EN && v != 5 && ms.all (fun m => s.lstate m == 5 && s.l1Sub m == v) then
    s.setSubs ms v
  else s

/-- L1_REQUEST (R314, R315): the idle timer has expired; the device requests ASPM L1, or withholds it, once in an idle time. -/
def execL1Request (m : HLink) (s : State) : Res :=
  if s.lstate m = 2 ∧ s.flag (Reg.HL_LINK_PMCFG m) F.HL_LINK_PMCFG_L1_EN = true ∧ ((s.link m).cfgW 0x070).testBit 1 = true ∧
      s.l1Idle m = true ∧ (s.link m).idleAt + max 1 (s.fld (Reg.HL_LINK_IDLE m) F.HL_LINK_IDLE_TC) ≤ s.ticks then
    if s.l1Near m then
      .next (if s.flag (Reg.HL_LINK_STAT m) F.HL_LINK_STAT_L1_HELD then s
        else (s.cnt (Reg.HL_LINK_L1HOLD m)).setHl m F.HL_LINK_STAT_L1_HELD 1)
    else
      let s := ((s.setHl m F.HL_LINK_STAT_L1_HELD 0).setHl m F.HL_LINK_STAT_LSTATE 5).cnt (Reg.HL_LINK_L1ENT m)
      .next (s.enterSub (m / 4))
  else .next s

/-- L1_EXIT_START (R315, R316, R336): at T − H of the earliest pending descriptor, or for a request or message that waits,
the link leaves L1 or its substate through Recovery. -/
def execL1ExitStart (m : HLink) (s : State) : Res :=
  let st := s.lstate m
  if (st = 5 ∨ st = 6 ∨ st = 7) ∧ (s.l1Near m || !(s.link m).txQ.isEmpty || !(s.link m).msgs.isEmpty) = true then
    .next ((s.setHl m F.HL_LINK_STAT_LSTATE 4).cnt (Reg.HL_LINK_RECOV m))
  else .next s

/-- L1_EXIT_COMPLETE (R316): the link reaches L0, and what waited for it is issued. -/
def execL1ExitComplete (m : HLink) (s : State) : Res :=
  if s.lstate m = 4 then
    .next (s.toL0 m)
  else .next s

/-- L2_L3_READY_ENTRY (R443): the link enters L2/L3 Ready, and its holder withdraws its vote. -/
def execL2L3ReadyEntry (m : HLink) (s : State) : Res :=
  if s.reachable m then .next ((s.updLink m (fun l => { l with l23 := true })).hlDown m 0) else .next s

/-! ## ATS (R300, R301) -/

/-- Page `pg` with PASID key `k` lies in an invalidation of `size` bytes from `addr`. -/
def invHits (pasid : Nat) (addr : Word) (size k pg : Nat) : Bool :=
  k == pasid && decide (addr.toNat ≤ 4096 * pg + 4095 ∧ 4096 * pg < addr.toNat + size)

/-- ATS_INVALIDATION_REQUEST (R301): matching entries are dropped at once; the completion waits for the reads issued with
them. `pasid` is PASID + 1, or 0 without one. -/
def execAtsInvalidationRequest (m : HLink) (itag pasid : Nat) (addr : Word) (size : Nat) (s : State) : Res :=
  if s.reachable m then
    let reads := (s.linkChans m).flatMap (fun c =>
      ((s.chan c).trans.filter (fun t => invHits pasid addr size (s.atsKey m (s.chSlice c)) t.2)).map (fun t => (c, t.1)))
    let fetches := (List.range 96).flatMap (fun n =>
      ((s.port n).retried.filter (fun e => e.m == m && e.held.isNone &&
        e.page.any (fun k => invHits pasid addr size (s.atsKey m k.1) k.2))).map (fun e => (4096 + n, e.fetch)))
    .next (s.updLink m (fun l =>
      { l with ats := l.ats.filter (fun e => !invHits pasid addr size e.pasid e.page),
               atsWait := l.atsWait.filter (fun k => !invHits pasid addr size k.2.1 k.2.2),
               inval := l.inval ++ [(itag, reads ++ fetches)] }))
  else .next s

/-- A request that an invalidation waits for is outstanding: a channel's, or a port's bridged fetch from 4096 on. -/
def State.stillOut (s : State) (r : Nat × Nat) : Bool :=
  if r.1 < 4096 then (s.chan r.1).waits r.2
  else (s.port (r.1 - 4096)).retried.any (fun e => e.fetch == r.2 && e.held.isNone)

/-- ATS_INVALIDATION_COMPLETE (R301): every request issued with a dropped translation has completed. -/
def execAtsInvalidationComplete (m : HLink) (s : State) : Res :=
  match (s.link m).inval.find? (fun i => i.2.all (fun r => !s.stillOut r)) with
  | some i => .next ((s.updLink m (fun l => { l with inval := l.inval.erase i })).send m (.invCpl m i.1))
  | none => .next s

/-- Translations with the oldest of a slice dropped. -/
def dropSlice (sl : Nat) : List AtsEntry → List AtsEntry
  | [] => []
  | e :: es => if e.sl = sl then es else e :: dropSlice sl es

/-- TRANSLATION_COMPLETION (R300): the translation of a missed page fills one of its slice's 16 entries. -/
def execTranslationCompletion (m : HLink) (sl : Slice) (page tr : Nat) (ok : Bool) (s : State) : Res :=
  match (s.link m).atsWait.find? (fun k => k.1 == (sl : Nat) && k.2.2 == page) with
  | none => .next s
  | some k =>
    .next (s.updLink m (fun l =>
      let l := { l with atsWait := l.atsWait.erase k }
      let es := if (l.ats.filter (fun e => e.sl == (sl : Nat))).length < 16 then l.ats else dropSlice sl l.ats
      if ok && l.atsEn then { l with ats := es ++ [⟨sl, k.2.1, page, tr⟩] } else l))

/-! ## MSI-X messages (R333 to R336) and errors (R346) -/

/-- MSIX_SEND (R333 to R336): the oldest message whose 140 Tc have passed enters host egress, or becomes pending. -/
def execMsixSend (m : HLink) (s : State) : Res :=
  let l := s.link m
  match l.msgs.find? (fun w => decide (w.due ≤ s.coreNow)) with
  | none => .next s
  | some w =>
    let s := s.updLink m (fun l => { l with msgs := l.msgs.erase w })
    if l.sendable w.vec then
      let s := s.updLink m (fun l => { l with pend := l.pend.erase w.vec })
      .next (s.send m (.msix m w.vec (l.msixW (2 * w.vec)) (wbits (l.msixW (2 * w.vec + 1)) 31 0)))
    else .next (s.updLink m (fun l => { l with pend := insNat l.pend w.vec }))

/-- Bytes of a word replaced from byte `b` on. -/
def putBytes (w : Word) : Nat → List (Option Byte) → Word
  | _, [] => w
  | b, none :: bs => putBytes w (b + 1) bs
  | b, some x :: bs => putBytes (if b < 8 then wput w (8 * b + 7) (8 * b) x.toNat else w) (b + 1) bs

/-- A write of enabled bytes to word `i` of the MSI-X table from byte `b` on (R332): Vector Control bits 31:1 read 0. -/
def State.msixPut (s : State) (m i b : Nat) (d : List (Option Byte)) : State :=
  let w := putBytes ((s.link m).msixW i) b d
  let w := if i % 2 = 1 then wput w 63 33 0 else wput w 1 0 0
  (s.updLink m (fun l => { l with msix := SMap.put (msixRst i) l.msix i w })).sendPending m

/-- MSIX_TABLE_WRITE (R332, R333): a write of 4 or 8 bytes, naturally aligned, to the link's own MSI-X table. -/
def execMsixTableWrite (m : HLink) (off : Nat) (v : Word) (len : Nat) (s : State) : Res :=
  if s.reachable m = false then .next s
  else if s.memOn m && (s.link m).flr.isNone then
    if (len = 4 ∨ len = 8) ∧ off % len = 0 ∧ off < 0x8000 then
      .next (s.msixPut m (off / 8) (off % 8) ((leBytes len v.toNat).map some))
    else .next (s.hostUr m false)
  else .next (s.hostUr m false)

/-- POSTED_WRITE_POISONED (R346): a posted write with EP = 1 is discarded. -/
def execPostedWritePoisoned (m : HLink) (s : State) : Res :=
  if s.reachable m then .next (s.aerTlp m aerPoison) else .next s

/-- UNEXPECTED_COMPLETION (R346): a completion for no outstanding request. -/
def execUnexpectedCompletion (m : HLink) (s : State) : Res :=
  if s.reachable m then .next (s.aerTlp m aerUnexp) else .next s

/-! ## Injected events and ALERT_N (R343, R345) -/

/-- EV_INJECT with GO = 1 (R345): the source is raised whatever its bit holds, with the injected mark (flag bit 0). -/
def State.evInject (s : State) (i : Nat) : State :=
  if i < 640 ∧ s.on 3 = true then State.raiseActs 32 (s.cnt (Reg.EV_CNT i)) i (s.evDetail i) 1 else s

/-- EV_INJECT (R345): a write of EV_INJECT. -/
def execEvInject (v : BitVec 32) (s : State) : Res :=
  if v.toNat.testBit 31 then .next (s.evInject (v.toNat % 1024)) else .next s

/-- The sources that hold ALERT_N: ALERT_EN = 1 and raised (R343). -/
def State.alerting (s : State) : List Nat :=
  (List.range 20).flatMap (fun w =>
    (setBits 32 (s.rdW (Reg.EV_RAISED w)).toNat).filterMap (fun b =>
      if s.flag (Reg.EV_ROUTE (32 * w + b)) F.EV_ROUTE_ALERT_EN then some (32 * w + b) else none))

/-- ALERT_N_RELEASE (R343): within 1 µs of the last holding bit or ALERT_EN clearing. -/
def execAlertNRelease (s : State) : Res :=
  if s.alerting.isEmpty then .next (s.setFld Reg.EV_ALERT F.EV_ALERT_ALERT 0) else .next s

/-- ALERT_RESPONSE_ADDRESS (R343): the device answers with its sideband address while ALERT_N is low. -/
def execAlertResponseAddress (s : State) : Res :=
  if s.flag Reg.EV_ALERT F.EV_ALERT_ALERT then .next (s.emit (.ara (s.fld Reg.PW_SB_ADDR F.PW_SB_ADDR_ADDR))) else .next s

end Sys2Proof.Machine
end

