-- ==== Sys2Proof/Machine/Generation.lean ====
section
/-! DEFINITION. Configuration generations: the staged image, COMMIT_AT and its checks, the digests, the instant at which a
generation takes effect, and how it is lost (13 R389 to R399). -/

namespace Sys2Proof.Machine

/-! ## Checks of a command (R385, R388, R407) -/

/-- An opcode's facts: whether it uses SLICE, and which lengths its parameters may have. -/
structure OpInfo where
  code  : Nat
  slice : Bool
  lenLo : Nat
  lenHi : Nat

/-- The opcodes of R401 with the lengths of their parameters. -/
def opTable : List OpInfo := [
  ⟨0x0100, false, 0, 0⟩, ⟨0x0101, false, 0, 4096⟩, ⟨0x0102, false, 6, 6⟩, ⟨0x0103, false, 1, 1⟩,
  ⟨0x0200, false, 0, 0⟩, ⟨0x0201, false, 0, 0⟩, ⟨0x0202, false, 8, 4096⟩, ⟨0x0203, false, 8, 8⟩, ⟨0x0204, false, 104, 104⟩,
  ⟨0x0205, false, 0, 0⟩, ⟨0x0206, false, 0, 0⟩, ⟨0x0207, false, 10, 10⟩,
  ⟨0x0300, false, 9, 9⟩, ⟨0x0301, false, 0, 0⟩, ⟨0x0302, false, 16, 16⟩,
  ⟨0x0400, false, 1, 1⟩, ⟨0x0401, false, 1, 1⟩, ⟨0x0402, false, 3, 3⟩, ⟨0x0403, false, 1, 1⟩, ⟨0x0404, false, 4, 4⟩] ++ [
  ⟨0x0500, false, 8, 4096⟩, ⟨0x0501, false, 10, 10⟩, ⟨0x0502, false, 1, 1⟩, ⟨0x0503, false, 1, 1⟩, ⟨0x0504, false, 16, 16⟩,
  ⟨0x0505, false, 1, 1⟩, ⟨0x0506, false, 4, 4⟩,
  ⟨0x0600, true, 8, 8⟩, ⟨0x0601, true, 0, 0⟩, ⟨0x0602, true, 1, 1⟩, ⟨0x0603, true, 0, 0⟩, ⟨0x0604, true, 0, 0⟩,
  ⟨0x0605, true, 1, 4096⟩, ⟨0x0606, true, 0, 0⟩,
  ⟨0x0700, false, 8, 4096⟩, ⟨0x0701, false, 4, 4096⟩, ⟨0x0702, false, 4, 4096⟩, ⟨0x0703, false, 2, 2⟩, ⟨0x0704, false, 3, 3⟩,
  ⟨0x0800, false, 1, 8⟩, ⟨0x0801, false, 0, 0⟩, ⟨0x0802, false, 2, 2⟩, ⟨0x0803, false, 0, 0⟩, ⟨0x0804, false, 0, 4096⟩] ++ [
  ⟨0x0900, false, 1, 1⟩, ⟨0x0901, false, 0, 0⟩, ⟨0x0902, false, 0, 0⟩, ⟨0x0903, false, 2, 2⟩, ⟨0x0904, false, 0, 0⟩,
  ⟨0x0905, false, 1, 1⟩,
  ⟨0x0A00, false, 0, 0⟩, ⟨0x0A01, false, 4, 4096⟩, ⟨0x0A02, false, 0, 0⟩, ⟨0x0A03, false, 4, 4096⟩, ⟨0x0A04, false, 0, 4096⟩,
  ⟨0x0A05, false, 1, 1⟩, ⟨0x0A06, false, 0, 4096⟩,
  ⟨0x0B00, false, 4, 4⟩, ⟨0x0B01, false, 2, 2⟩, ⟨0x0B02, false, 6, 6⟩, ⟨0x0B03, false, 0, 0⟩, ⟨0x0B04, false, 80, 80⟩,
  ⟨0x0B05, false, 0, 0⟩, ⟨0x0C00, false, 1, 2⟩, ⟨0x0C01, false, 1, 1⟩]

/-- Opcodes that a sync target or a standby refuses (R407); MODE_SET has its own test. -/
def standbyRefuses (op : Nat) : Bool :=
  [0x0200, 0x0201, 0x0202, 0x0204, 0x0205, 0x0500, 0x0502, 0x0503, 0x0504, 0x0505, 0x0600, 0x0601, 0x0602, 0x0603,
   0x0700, 0x0701, 0x0702, 0x0704, 0x0300].contains op

/-- The sequence number of the staged generation (R389). -/
def State.stagedSeq (s : State) : Nat :=
  let n := (s.fld Reg.UM_GEN_SEQ F.UM_GEN_SEQ_SEQ + 1) % 2 ^ 32
  if n = 0 then 1 else n

/-- The first check of R385 that a command fails once its opcode is known, or the refusal of R407. -/
def State.umCheck (s : State) (h : UmHdr) (op len : Nat) : Option Nat :=
  match opTable.find? (fun o => o.code == op) with
  | none => some stBadOpcode
  | some o =>
    let cat := op / 256
    if s.mode = 0xC ∧ cat ≠ 1 ∧ cat ≠ 0xB ∧ cat ≠ 0xC then some stModeRefused
    else if s.mode ≤ 3 ∧ op ≠ 0x0100 then some stNotReady
    else if h.gen ≠ 0 ∧ ¬ (s.genState = 1 ∧ h.gen = s.stagedSeq) then some stGenStale
    else if o.slice ∧ 1024 ≤ h.slice then some stBadParam
    else if !o.slice ∧ h.slice ≠ 0xFFFF then some stBadParam
    else if len < o.lenLo ∨ o.lenHi < len then some stBadParam
    else if standbyRefuses op ∧ s.isTarget = true then some stRoleRefused
    else none

/-- The refusal of a command that a check stops: one of R385 sends its header back as received. -/
def State.refuseCheck (s : State) (h : UmHdr) (op st : Nat) : State :=
  if st = stRoleRefused then s.refuse h op st else s.refuseEcho h op st

/-- A command runs if it passes the checks, and is refused with the status of the first that it fails. -/
def State.umRun (s : State) (h : UmHdr) (op len : Nat) (body : State → State) : Res :=
  match s.umCheck h op len with
  | some st => .next (s.refuseCheck h op st)
  | none => .next (body s)

/-! ## Opening and closing (R389, R396) -/

/-- OWNER's code of a carrier. -/
def ownerOf (c : Carrier) : Nat := match c with
  | .ring => 0
  | .sideband => 1

/-- Another carrier owns the staged generation. -/
def State.notOwner (s : State) (c : Carrier) : Bool :=
  s.genState != 0 && s.fld Reg.UM_GEN_STAT F.UM_GEN_STAT_OWNER != ownerOf c

/-- The refusal of a generation command that needs a state (R388, R389). -/
def State.genNeeds (s : State) (c : Carrier) (state : Nat) : Option Nat :=
  if s.notOwner c then some stGenBusy else if s.genState ≠ state then some stGenNotOpen else none

/-- A staged register takes the value that the image's tables give it, where they give one. -/
def State.stageImage : State → List Nat → State
  | s, [] => s
  | s, k :: ks =>
    match Config.imageWord s.image k with
    | some w => (s.wrS k (w &&& rwgMask k)).stageImage ks
    | none => s.stageImage ks

/-- GEN_OPEN's effect: the active image is copied (R389); the first generation holds the routes of the firmware image
(R348). -/
def State.openGen (s : State) (owner : Nat) : State :=
  let s := s.copyActive.updUm (fun u => { u with marks := [] })
  let s := if s.fld Reg.UM_GEN_SEQ F.UM_GEN_SEQ_SEQ = 0 ∧ s.image ≠ [] then s.stageImage ((List.range 640).map Reg.EV_ROUTE) else s
  (s.setFld Reg.UM_GEN_STAT F.UM_GEN_STAT_STATE 1).setFld Reg.UM_GEN_STAT F.UM_GEN_STAT_OWNER owner

/-- GEN_OPEN (R389, R418). -/
def execGenOpen (h : UmHdr) (p : List Byte) (s : State) : Res :=
  s.umRun h 0x0200 p.length (fun s =>
    if s.genState ≠ 0 then s.refuse h 0x0200 stGenBusy
    else ((s.openGen (ownerOf h.carrier)).mirrorGen 1 0).reply h 0x0200 stOK (leBytes 4 s.stagedSeq))

/-- GEN_ABORT (R389, R418). -/
def execGenAbort (h : UmHdr) (p : List Byte) (s : State) : Res :=
  s.umRun h 0x0201 p.length (fun s =>
    match s.genNeeds h.carrier 1 with
    | some st => s.refuse h 0x0201 st
    | none => (s.closeGen.mirrorGen 2 0).reply h 0x0201 stOK [])

/-- The Armed generation's instant has come: in that Tc its commit is first (R393, R397). -/
def State.atCome (s : State) : Bool := match s.um.armed with
  | some a => a.ok && s.tlKnown && tlReached s.now a.at_
  | none => false

/-- GEN_CANCEL (R396, R418); in the Tc of AT the commit is first, and the cancel finds the generation Closed (R397). -/
def execGenCancel (h : UmHdr) (p : List Byte) (s : State) : Res :=
  s.umRun h 0x0205 p.length (fun s =>
    match s.genNeeds h.carrier 2 with
    | some st => s.refuse h 0x0205 st
    | none => if s.atCome then s.refuse h 0x0205 stGenNotOpen else (s.disarm.mirrorGen 3 0).reply h 0x0205 stOK [])

/-- STAGED_PARITY (R543): a parity error in the staged image marks its register; in an Armed generation it acts as
GEN_CANCEL. -/
def execStagedParity (k : Nat) (s : State) : Res :=
  if s.genState = 0 ∨ (rwgMask k).toNat = 0 then .next s
  else
    let s := s.logKind 0x0B k
    let s := s.updUm (fun u => { u with marks := insNat u.marks k })
    .next (if s.genState = 2 then s.disarm.mirrorGen 3 0 else s)

/-! ## Digests (R398, R399) -/

/-- The offsets of the registers of a row, by its indices. -/
def rowOffsets (base : Nat) : List (Nat × Nat) → List Nat
  | [] => [base]
  | (n, st) :: ds => (List.range n).flatMap (fun i => rowOffsets (base + i * st) ds)

/-- Every register that holds an RWG field, in ascending offset (R398). -/
def rwgRegs : List Nat := ((regTable.filter (fun r => decide (r.rwg ≠ 0))).flatMap (fun r => rowOffsets r.base r.dims)).mergeSort

/-- The canonical encoding of an image with the weight digests in force under it (R398). -/
def State.encoding (s : State) (im : SMap Word) (groups : List Nat) : List Byte :=
  rwgRegs.flatMap (fun k => leBytes 8 k ++ leBytes 8 (SMap.get (rstG k) im k).toNat) ++
    (List.range 12).flatMap (fun g =>
      if groups.contains g then sha384 (halfBytes (s.unit (s.groupUnit g)).shadow)
      else if (s.grp g).exchanged then s.rdWide (Reg.CH_WB_DIGEST g)
      else List.replicate 48 0)

/-- The local digest of an image (R398). -/
def State.genDigest (s : State) (im : SMap Word) (groups : List Nat) : List Byte := sha384 (s.encoding im groups)

/-! ## The checks of every chapter (R392). Each answers the offsets of the registers that break it. -/

/-- A list of (key, value) pairs holds the pair's key twice or more before index `i`. -/
def seenBefore (l : List (Nat × Nat)) (i k : Nat) : Bool := (l.take i).any (fun e => e.2 == k)

/-- Registers whose key an earlier entry of a list of (register, key) pairs already holds. -/
def repeats : List Nat → List (Nat × Nat) → List Nat
  | _, [] => []
  | seen, (r, k) :: l => if seen.contains k then r :: repeats seen l else repeats (k :: seen) l

/-- Registers whose half-open range overlaps an earlier one: (register, space, first, end). -/
def overlaps : List (Nat × Nat × Nat) → List (Nat × Nat × Nat × Nat) → List Nat
  | _, [] => []
  | seen, (r, sp, a, b) :: l =>
    if seen.any (fun x => x.1 == sp && decide (a < x.2.2 ∧ x.2.1 < b)) then r :: overlaps ((sp, a, b) :: seen) l
    else overlaps ((sp, a, b) :: seen) l

/-- The first register at which the running sum of a list of (register, amount) pairs exceeds a limit (R392). -/
def sumOver (lim : Nat) : Nat → List (Nat × Nat) → List Nat
  | _, [] => []
  | acc, (r, n) :: l => if lim < acc + n then [r] else sumOver lim (acc + n) l

/-- The enabled stream entries of a unit of the image that `x` shows as active. -/
def State.entriesOf (x : State) (u : Nat) : List Nat :=
  (listed x.gen (Reg.CH_STR u 0) 0x10 256).filter (fun e => x.flag (Reg.CH_STR u e) F.CH_STR_EN)

/-- The enabled contexts of an array. -/
def State.ctxsOf (x : State) (u arr : Nat) : List Nat := (List.range 16).filter (fun k => x.flag (ctxA u arr k) F.CH_UCTX_A_EN)

/-- The enabled pails, in ascending offset. -/
def State.pailsOf (x : State) : List Nat := (listed x.gen (Reg.VAT_PAIL_A 0) 0x40 16384).filter (fun p => x.pailEn p)

/-- The bound slices. -/
def State.boundSlices (x : State) : List Nat := (listed x.gen (Reg.SL_BIND 0) 0x40 1024).filter (fun sl => x.bound sl)

/-- The enabled channels. -/
def State.chansOf (x : State) : List Nat := (listed x.gen (Reg.DMA_OWN 0) 4 4096).filter (fun c => x.flag (Reg.DMA_OWN c) F.DMA_OWN_EN)

/-- R123 for one context: counts, slot, its entries and their slice. -/
def State.ctxBad (x : State) (u arr k : Nat) : List Nat :=
  let b := ctxB u arr k
  let ab := x.fld b F.CH_UCTX_B_ANT_BASE
  let an := x.fld b F.CH_UCTX_B_ANT_CNT
  let bb := x.fld b F.CH_UCTX_B_BEAM_BASE
  let bn := x.fld b F.CH_UCTX_B_BEAM_CNT
  let code := partCode x.gen u arr
  let (sa, sb) := partShape code
  let ok (side e : Nat) : Bool :=
    x.flag (Reg.CH_STR u e) F.CH_STR_EN && x.fld (Reg.CH_STR u e) F.CH_STR_DIR == arr && x.fld (Reg.CH_STR u e) F.CH_STR_SIDE == side
  let es := (List.range an).map (ab + ·) ++ (List.range bn).map (bb + ·)
  let sl := x.fld (Reg.CH_STR u ab) F.CH_STR_SLICE
  (if code ≠ 0 ∧ partSlots code ≤ x.fld (ctxA u arr k) F.CH_UCTX_A_SLOT then [ctxA u arr k] else []) ++
    (if an = 0 ∨ bn = 0 ∨ sa < an ∨ sb < bn ∨ (code = 0 ∧ an ≠ bn) ∨ 256 < ab + an ∨ 256 < bb + bn ∨
        !(List.range an).all (fun i => ok 0 (ab + i)) ∨ !(List.range bn).all (fun i => ok 1 (bb + i)) ∨
        !es.all (fun e => x.fld (Reg.CH_STR u e) F.CH_STR_SLICE == sl) then [b] else [])

/-- The group whose weights unit `u` takes at the commit: its own, or that of a takeover whose spare it is, prepared
(R164). -/
def State.weightGroup (x : State) (u : Nat) : Nat :=
  let sp := x.spareRt (u / 4)
  if x.fld (Reg.CH_SPARE_CTRL (u / 4)) F.CH_SPARE_CTRL_STATE == 1 && sp.ready && sp.dst == u then sp.group else x.unitGroup u

/-- R149 for one context: an offending directory entry is named by its offset in the group's weight window, which tells group,
set and selector (DEDUCED, log 76); a WSET above 15, and an entry of a unit without a group, by the context's register. -/
def State.wsetBad (x : State) (groups : List Nat) (u arr k : Nat) : List Nat :=
  let g := x.weightGroup u
  let half := if groups.contains g then (x.unit u).shadow else (x.unit u).active
  let set := x.fld (ctxA u arr k) F.CH_UCTX_A_WSET
  let n := x.fld (ctxB u arr k) F.CH_UCTX_B_ANT_CNT * x.fld (ctxB u arr k) F.CH_UCTX_B_BEAM_CNT
  if partCode x.gen u arr = 0 then []
  else if 15 < set then [ctxA u arr k]
  else
    ((List.range 256).filter (fun sel =>
      let d := dirEntry half set sel
      d.testBit 15 && (decide (d % 16384 < 128) || decide (131072 < 8 * (d % 16384) + n)))).map (fun sel =>
        if g < 12 then 0x1000000 + 0x100000 * g + 512 * set + 2 * sel else ctxA u arr k)

/-- R123, R149, R157 and R355 for one unit. -/
def State.unitBad (x : State) (groups : List Nat) (u : Nat) : List Nat :=
  let es := x.entriesOf u
  let key (e : Nat) : Nat :=
    let r := Reg.CH_STR u e
    let d := 2 * x.fld r F.CH_STR_STREAM_ID + x.fld r F.CH_STR_DIR
    if x.fld r F.CH_STR_SIDE = 0 then 16 * d + 8 + x.fld r F.CH_STR_PORT else 16 * d
  let ctxs (arr : Nat) : List Nat :=
    let ks := x.ctxsOf u arr
    ks.flatMap (fun k => x.ctxBad u arr k ++ x.wsetBad groups u arr k) ++
      overlaps [] (ks.map (fun k => let (ob, no) := ctxOuts x.gen u arr k; (ctxB u arr k, 0, ob, ob + no))) ++
      ks.filterMap (fun k =>
        let g := x.unitGroup u
        let slot := ctxSlot x.gen u arr k
        let sl := x.ctxSlice u arr k
        if g < 12 ∧ !(List.range 32).any (fun i =>
            x.flag (Reg.SL_CWHEEL g arr slot i) F.SL_CWHEEL_EN && x.fld (Reg.SL_CWHEEL g arr slot i) F.SL_CWHEEL_SLICE == sl)
        then some (Reg.SL_CWHEEL g arr slot 0) else none)
  ctxs 0 ++ ctxs 1 ++ repeats [] (es.map (fun e => (Reg.CH_STR u e, key e))) ++
    (es.filter (fun e =>
      let w := x.rdG (Reg.CH_CALD u e)
      let i := sNat 18 (wbits w 17 0)
      let q := sNat 18 (wbits w 49 32)
      decide (i * i + q * q > 4294967296))).map (fun e => Reg.CH_CALD u e)

/-- R176: every pail by itself. -/
def State.pailBad (x : State) (p : Nat) : List Nat :=
  let a := Reg.VAT_PAIL_A p
  let size := x.fld a F.VAT_PAIL_A_SIZE
  let u := x.groupUnit (x.pailGroup p)
  let es := (x.entriesOf u).filter (fun e => x.entryServes p u e)
  let bad := size = 0 ∨ 5120 < x.fld a F.VAT_PAIL_A_BASE + size ∨ 23 < x.fld a F.VAT_PAIL_A_QPORT ∨ es.length ≠ 1 ∨
    es.any (fun e => x.fld (Reg.CH_STR u e) F.CH_STR_SLICE != x.pailSlice p ||
      ((x.pailRole p == 1 || x.pailRole p == 3) && x.fld (Reg.CH_STR u e) F.CH_STR_OUT_FMT != x.pailFmt p)) = true
  (if bad then [a] else []) ++ (if x.pailLate p < x.pailEarly p then [Reg.VAT_PAIL_B p] else [])

/-- R176: pails together, entries, and quotas. -/
def State.vatBad (x : State) : List Nat :=
  let ps := x.pailsOf
  let size (p : Nat) : Nat := x.fld (Reg.VAT_PAIL_A p) F.VAT_PAIL_A_SIZE
  let sqs := (ps.map (fun p => 4 * x.pailSlice p + pailQuad p)).eraseDups
  ps.flatMap (fun p => x.pailBad p) ++
    overlaps [] (ps.map (fun p =>
      let b := x.fld (Reg.VAT_PAIL_A p) F.VAT_PAIL_A_BASE
      (Reg.VAT_PAIL_A p, x.pailBank p, b, b + size p))) ++
    (List.range 16).flatMap (fun u =>
      if x.unitGroup u < 12 then
        ((x.entriesOf u).filter (fun e => (ps.filter (fun p =>
          pailQuad p == u / 4 && x.groupUnit (x.pailGroup p) == u && x.entryServes p u e)).length != 1)).map (fun e => Reg.CH_STR u e)
      else []) ++
    sqs.flatMap (fun sq => sumOver (x.fld (Reg.VAT_QUOTA (sq / 4) (sq % 4)) F.VAT_QUOTA_UNITS) 0
      ((ps.filter (fun p => 4 * x.pailSlice p + pailQuad p == sq)).map (fun p => (Reg.VAT_PAIL_A p, size p)))) ++
    (List.range 4).flatMap (fun q => sumOver 20480 0
      ((List.range 1024).map (fun sl => (Reg.VAT_QUOTA sl q, x.fld (Reg.VAT_QUOTA sl q) F.VAT_QUOTA_UNITS))))

/-- R194, R210, R214: channels, wheels and staging quotas. -/
def State.dmaBad (x : State) : List Nat :=
  let cs := x.chansOf
  repeats [] (cs.map (fun c => (Reg.DMA_OWN c, 256 * x.chSlice c + x.fld (Reg.DMA_OWN c) F.DMA_OWN_SLOT))) ++
    (List.range 32).flatMap (fun m =>
      let es := (listed x.gen (Reg.DMA_WHEEL_E m 0) 4 1024).filter (fun i => x.flag (Reg.DMA_WHEEL_E m i) F.DMA_WHEEL_E_EN)
      (es.filter (fun i =>
        let sl := x.fld (Reg.DMA_WHEEL_E m i) F.DMA_WHEEL_E_SLICE
        !(x.bound sl && x.slLink sl == m))).map (fun i => Reg.DMA_WHEEL_E m i) ++
      sumOver (wheelBudget (x.fld (Reg.HL_PORT_CFG (m / 4)) F.HL_PORT_CFG_MAX_RATE) (x.maxWidth m)) 0
        (es.map (fun i => (Reg.DMA_WHEEL_E m i, x.fld (Reg.DMA_WHEEL_E m i) F.DMA_WHEEL_E_BEATS)))) ++
    (List.range 8).flatMap (fun p => sumOver 24576 0
      ((x.boundSlices.filter (fun sl => x.slLink sl / 4 == p)).map (fun sl => (Reg.DMA_STGQ sl, x.fld (Reg.DMA_STGQ sl) F.DMA_STGQ_BEATS)))) ++
    ((cs.map (fun c => x.chSlice c)).filter (fun sl => decide (x.fld (Reg.DMA_STGQ sl) F.DMA_STGQ_BEATS < 16))).map Reg.DMA_STGQ

/-- R269 for one port. -/
def State.windowBad (x : State) (n : Nat) : List Nat :=
  let w := Reg.AL_WIN_CTRL n
  let ks := (List.range 4).filter (fun k => x.flag (Reg.AL_WINR n k) F.AL_WINR_EN)
  let lo (k : Nat) : Nat := x.fld (Reg.AL_WINR n k) F.AL_WINR_BASE
  let sz (k : Nat) : Nat := x.fld (Reg.AL_WINR n k) F.AL_WINR_SIZE
  (if x.fld w F.AL_WIN_CTRL_SWAP = 3 ∨ (x.flag w F.AL_WIN_CTRL_EN && x.parted n && !x.flag w F.AL_WIN_CTRL_SLICE_EN) then [w] else []) ++
    (ks.filter (fun k => sz k == 0 || decide (65536 < lo k + sz k))).map (Reg.AL_WINR n) ++
    overlaps [] (ks.map (fun k => (Reg.AL_WINR n k, 0, lo k, lo k + sz k))) ++
    ((List.range 4).filter (fun k =>
      let r := Reg.AL_UPR n k
      let l := x.fld r F.AL_UPR_LOG2SIZE
      x.flag r F.AL_UPR_EN && (decide (l < 12) || 4096 * x.fld r F.AL_UPR_BASE % 2 ^ l != 0))).map (Reg.AL_UPR n)

/-- The padded bytes of the largest block of a pail's matching entry: 96 samples in the pail's format (R360). -/
def State.largestBlock (x : State) (p : Nat) : Nat :=
  let u := x.groupUnit (x.pailGroup p)
  match (x.entriesOf u).find? (fun e => x.entryServes p u e) with
  | some e => blockBytes ((payLen (entryParam x.gen u e (x.pailFmt p)) 96).getD 0)
  | none => 0

/-- The cells that a slice's ranges of a port give one block (R360). -/
def State.runOf (x : State) (n sl : Nat) : Nat :=
  (((List.range 4).filter (fun k => x.flag (Reg.SL_CELL n k) F.SL_CELL_EN && x.fld (Reg.SL_CELL n k) F.SL_CELL_SLICE == sl)).map
    (fun k =>
      let f := x.fld (Reg.SL_CELL n k) F.SL_CELL_FIRST
      let c := x.fld (Reg.SL_CELL n k) F.SL_CELL_COUNT
      if f + c = 16 then c - 1 else c)).foldl max 0

/-- R360 for one port. -/
def State.cellBad (x : State) (n : Nat) : List Nat :=
  let ks := (List.range 4).filter (fun k => x.flag (Reg.SL_CELL n k) F.SL_CELL_EN)
  let f (k : Nat) : Nat := x.fld (Reg.SL_CELL n k) F.SL_CELL_FIRST
  let c (k : Nat) : Nat := x.fld (Reg.SL_CELL n k) F.SL_CELL_COUNT
  let owns (sl : Nat) : Bool := ks.any (fun k => x.fld (Reg.SL_CELL n k) F.SL_CELL_SLICE == sl)
  (ks.filter (fun k => c k == 0 || decide (16 < f k + c k))).map (Reg.SL_CELL n) ++
    overlaps [] (ks.map (fun k => (Reg.SL_CELL n k, 0, f k, f k + c k))) ++
    (if x.parted n then
      ((x.portPails n 0 ++ x.portPails n 1).filter (fun p =>
        !owns (x.pailSlice p) || decide (x.runOf n (x.pailSlice p) < (x.largestBlock p + 59) / 60))).map Reg.VAT_PAIL_A ++
      (if x.flag (Reg.AL_WIN_CTRL n) F.AL_WIN_CTRL_SLICE_EN && !owns (x.alSlice n) then [Reg.AL_WIN_CTRL n] else [])
    else [])

/-- R337 and R342: event routes. -/
def State.routeBad (x : State) : List Nat :=
  let maps := (x.boundSlices.filter (fun sl => x.fld (Reg.SL_VECMAP sl) F.SL_VECMAP_COUNT != 0)).map (fun sl =>
    (x.slLink sl, x.fld (Reg.SL_VECMAP sl) F.SL_VECMAP_BASE, x.fld (Reg.SL_VECMAP sl) F.SL_VECMAP_COUNT))
  ((listed x.gen (Reg.EV_ROUTE 0) 4 640).filter (fun i =>
    let r := Reg.EV_ROUTE i
    let m := x.fld r F.EV_ROUTE_LINK
    let v := x.fld r F.EV_ROUTE_VECTOR
    let ve := x.flag r F.EV_ROUTE_VEC_EN
    ((ve || x.flag r F.EV_ROUTE_AER_EN) && !x.linkPresent m) ||
      (ve && (v == 0 || maps.any (fun t => t.1 == m && decide (t.2.1 ≤ v ∧ v < t.2.1 + t.2.2)))))).map Reg.EV_ROUTE

/-- R350 and R363: bindings, what names an unbound slice, and vector maps. -/
def State.sliceBad (x : State) : List Nat :=
  let bs := x.boundSlices
  let vs := (listed x.gen (Reg.SL_VECMAP 0) 0x40 1024).filter (fun sl => x.fld (Reg.SL_VECMAP sl) F.SL_VECMAP_COUNT != 0)
  let base (sl : Nat) : Nat := x.fld (Reg.SL_VECMAP sl) F.SL_VECMAP_BASE
  let cnt (sl : Nat) : Nat := x.fld (Reg.SL_VECMAP sl) F.SL_VECMAP_COUNT
  repeats [] (bs.map (fun sl => (Reg.SL_BIND sl, 2 ^ 20 * x.slLink sl + x.slPasid sl))) ++
    (bs.filter (fun sl => !x.linkPresent (x.slLink sl))).map Reg.SL_BIND ++
    (x.chansOf.filter (fun c => !x.bound (x.chSlice c))).map Reg.DMA_OWN ++
    (List.range 16).flatMap (fun u =>
      ((x.entriesOf u).filter (fun e => !x.bound (x.fld (Reg.CH_STR u e) F.CH_STR_SLICE))).map (Reg.CH_STR u)) ++
    (x.pailsOf.filter (fun p => !x.bound (x.pailSlice p))).map Reg.VAT_PAIL_A ++
    ((List.range 12).flatMap (fun g => (List.range 2).flatMap (fun a => (List.range 8).flatMap (fun k =>
      (List.range 32).map (fun i => Reg.SL_CWHEEL g a k i))))).filter (fun r =>
        x.flag r F.SL_CWHEEL_EN && !x.bound (x.fld r F.SL_CWHEEL_SLICE)) ++
    (List.range 96).flatMap (fun n =>
      ((List.range 4).filter (fun k =>
        x.flag (Reg.SL_CELL n k) F.SL_CELL_EN && !x.bound (x.fld (Reg.SL_CELL n k) F.SL_CELL_SLICE))).map (Reg.SL_CELL n) ++
      (if x.flag (Reg.AL_WIN_CTRL n) F.AL_WIN_CTRL_SLICE_EN && !x.bound (x.alSlice n) then [Reg.AL_WIN_CTRL n] else [])) ++
    (vs.filter (fun sl => !x.bound sl || decide (64 < cnt sl) || base sl == 0 || decide (2048 < base sl + cnt sl))).map Reg.SL_VECMAP ++
    overlaps [] ((vs.filter (fun sl => x.bound sl)).map (fun sl => (Reg.SL_VECMAP sl, x.slLink sl, base sl, base sl + cnt sl)))

/-! ## Checks against live state, as it stands at acceptance (R194, R373, R392, R528) -/

/-- SL_BIND clears EN, or changes LINK or PASID, of a slice that is bound (R373). -/
def State.unbinds (s : State) (sl : Nat) : Bool := s.bound sl && s.rdS (Reg.SL_BIND sl) != s.rdG (Reg.SL_BIND sl)

/-- The staged image changes SLICE or SLOT of a busy channel, or clears its EN (R194). -/
def State.busyBad (s : State) : List Nat :=
  (s.liveChans.filter (fun c =>
    let k := Reg.DMA_OWN c
    s.chBusy c && (s.sfld k F.DMA_OWN_SLICE != s.fld k F.DMA_OWN_SLICE || s.sfld k F.DMA_OWN_SLOT != s.fld k F.DMA_OWN_SLOT ||
      (s.flag k F.DMA_OWN_EN && s.sfld k F.DMA_OWN_EN == 0)))).map Reg.DMA_OWN

/-- Registers of an image that name a slice, or hold a share of it (R352, R528): their present values. -/
def State.sliceShare (x : State) (sl : Nat) : List (Nat × Word) :=
  let regs := [Reg.SL_BIND sl, Reg.SL_VECMAP sl, Reg.DMA_STGQ sl, Reg.TL_HOLD_POLICY (sl / 32)] ++
    (List.range 4).map (fun q => Reg.VAT_QUOTA sl q) ++
    (x.chansOf.filter (fun c => x.chSlice c == sl)).map Reg.DMA_OWN ++
    (x.pailsOf.filter (fun p => x.pailSlice p == sl)).flatMap (fun p => [Reg.VAT_PAIL_A p, Reg.VAT_PAIL_B p]) ++
    (List.range 16).flatMap (fun u => ((x.entriesOf u).filter (fun e => x.fld (Reg.CH_STR u e) F.CH_STR_SLICE == sl)).flatMap
      (fun e => [Reg.CH_STR u e, Reg.CH_STRG u e, Reg.CH_CALG u e, Reg.CH_CALD u e])) ++
    (List.range 32).flatMap (fun m => ((listed x.gen (Reg.DMA_WHEEL_E m 0) 4 1024).filter (fun i =>
      x.flag (Reg.DMA_WHEEL_E m i) F.DMA_WHEEL_E_EN && x.fld (Reg.DMA_WHEEL_E m i) F.DMA_WHEEL_E_SLICE == sl)).map (Reg.DMA_WHEEL_E m)) ++
    ((List.range 12).flatMap (fun g => (List.range 2).flatMap (fun a => (List.range 8).flatMap (fun k =>
      (List.range 32).map (fun i => Reg.SL_CWHEEL g a k i))))).filter (fun r =>
        x.flag r F.SL_CWHEEL_EN && x.fld r F.SL_CWHEEL_SLICE == sl) ++
    (List.range 96).flatMap (fun n =>
      ((List.range 4).filter (fun k => x.flag (Reg.SL_CELL n k) F.SL_CELL_EN && x.fld (Reg.SL_CELL n k) F.SL_CELL_SLICE == sl)).map (Reg.SL_CELL n) ++
      (if x.flag (Reg.AL_WIN_CTRL n) F.AL_WIN_CTRL_SLICE_EN && x.alSlice n == sl then
        [Reg.AL_WIN_CTRL n, Reg.AL_WIN_HOSTS n] ++ (List.range 4).map (Reg.AL_WINR n) ++ (List.range 4).map (Reg.AL_UPR n) else []))
  regs.map (fun k => (k, if k = Reg.TL_HOLD_POLICY (sl / 32) then (x.rdG k >>> (sl % 32)) &&& 1 else x.rdG k))

/-- The slices whose TDI is locked (R528). -/
def State.lockedTdis (s : State) : List Nat :=
  (listed s.regs (Reg.SEC_TDI 0) 4 64).flatMap (fun w =>
    ((List.range 16).map (fun i => 16 * w + i)).filter (fun sl => s.tdi sl == 1 || s.tdi sl == 2))

/-- The registers that change a locked slice's share (R528). -/
def State.tdiBad (s x : State) : List Nat :=
  s.lockedTdis.flatMap (fun sl =>
    let a := s.sliceShare sl
    let b := x.sliceShare sl
    (a.filter (fun e => !b.contains e)).map (·.1) ++ (b.filter (fun e => !a.contains e)).map (·.1))

/-- The offsets of every register of the staged image that breaks a rule (R392). -/
def State.genBad (s : State) (groups : List Nat) : List Nat :=
  let x := { s with gen := s.staged }
  s.busyBad ++ ((s.boundSlices.filter (fun sl => s.unbinds sl && !(s.fenced sl && s.quiet sl))).map Reg.SL_BIND) ++ s.tdiBad x ++
    (List.range 16).flatMap (fun u => x.unitBad groups u) ++ x.vatBad ++ x.dmaBad ++
    (List.range 96).flatMap (fun n => x.windowBad n ++ x.cellBad n) ++ x.routeBad ++ x.sliceBad

/-- The lowest of a list of offsets. -/
def lowest : List Nat → Option Nat
  | [] => none
  | k :: ks => match lowest ks with
    | none => some k
    | some m => some (min k m)

/-- DETAIL of a generation that breaks a rule: a register marked for parity first (R543), then the first offending one. -/
def State.genFault (s : State) (groups : List Nat) : Option Nat :=
  match s.um.marks with
  | k :: _ => some k
  | [] => lowest (s.genBad groups)

/-! ## COMMIT_AT (R392, R394, R419, R437) -/

/-- A COMMIT_AT request or a generation is refused: LAST_REFUSAL, its DETAIL, and GEN_REFUSED (R339). -/
def State.genRefused (s : State) (st det : Nat) : State :=
  ((s.setFld Reg.UM_GEN_STAT F.UM_GEN_STAT_LAST_REFUSAL st).updUm (fun u => { u with refusalDet := det })).evUm 3

/-- The groups whose shadow half is dirty (R150). -/
def State.dirtyGroups (s : State) : List Nat := (List.range 12).filter (fun g => s.flag (Reg.CH_WB_STATUS g) F.CH_WB_STATUS_DIRTY)

/-- PENDING of each group of a list set. -/
def State.setPending : State → List Nat → State
  | s, [] => s
  | s, g :: gs => (s.setFld (Reg.CH_WB_STATUS g) F.CH_WB_STATUS_PENDING 1).setPending gs

/-- The staged generation is frozen and Armed for count `t` (R392). -/
def State.arm (s : State) (h : Option UmHdr) (t seq : Nat) (herd : Bool) (hdig expect : List Byte) (peer : Bool) : State :=
  let gs := s.dirtyGroups
  let a : Armed :=
    { hdr := h, at_ := t, seq := seq, herd := herd, hdigest := hdig, expect := expect, groups := gs, bad := s.genFault gs,
      digest := s.genDigest s.staged gs, peerAck := if peer then some s.ticks else none }
  let s := (s.setPending gs).wrW Reg.UM_GEN_AT (tlOf t)
  (s.setFld Reg.UM_GEN_STAT F.UM_GEN_STAT_STATE 2).updUm (fun u => { u with armed := some a })

/-- The refusal of a COMMIT_AT before anything is frozen (R389, R394, R395, R437). -/
def State.commitRefusal (s : State) (h : UmHdr) (p : List Byte) : Option Nat :=
  let at_ := BitVec.ofNat 64 (leAt p 0 8)
  let lead := if h.herd then 131072 + s.fld Reg.CL_HERD_GUARD F.CL_HERD_GUARD_TC else 131072
  if s.mode = 0xA ∨ s.mode = 0xB then some stModeRefused
  else match s.genNeeds h.carrier 1 with
    | some st => some st
    | none =>
      if !tlValid at_ then some stBadParam
      else if s.flag Reg.TL_STATE F.TL_STATE_HAS_TIME = false then some stTlStateRefused
      else if tlDiff (tlCount at_) s.now < 131072 then some stCommitTooSoon
      else if h.herd ∧ (s.flag Reg.CL_HERD_CFG F.CL_HERD_CFG_EN = false ∨ s.herdPorts = [] ∨ s.tlState ≠ 2 ∨
          ((p.drop 56).take 48).all (· == 0) = true) then some stRoleRefused
      else if tlDiff (tlCount at_) s.now < lead then some stCommitTooSoon
      else none

/-- COMMIT_AT (R392, R394, R418, R437): the generation is accepted and frozen, or refused. -/
def execCommitAt (h : UmHdr) (p : List Byte) (s : State) : Res :=
  match s.umCheck h 0x0204 p.length with
  | some st => .next ((s.genRefused st noDetail).refuseCheck h 0x0204 st)
  | none =>
    match s.commitRefusal h p with
    | some st => .next ((s.genRefused st noDetail).refuse h 0x0204 st)
    | none =>
      let t := tlCount (BitVec.ofNat 64 (leAt p 0 8))
      let hd := (p.drop 56).take 48
      let s := s.arm (some h) t s.stagedSeq h.herd hd ((p.drop 8).take 48) s.mirrors
      let s := s.updUm (fun u => { u with owed := u.owed ++ [(h, 0x0204)] })
      let s := if h.herd then (s.herdSend s.herdPorts 1 t hd).updTw (fun w => { w with hready := some (t, hd), hrAt := s.ticks, guarded := false }) else s
      match s.um.armed with
      | some a => .next (s.mirror 4 (leBytes 8 (tlOf t).toNat ++ leBytes 4 a.seq ++ a.digest))
      | none => .next s

/-- ACCEPTED is posted once the checks and the twin's answer, where one is awaited, are in (R392, R401, R419). -/
def State.armDone (s : State) : State :=
  match s.um.armed with
  | some a =>
    if a.checked && a.peerAck.isNone && !a.ok then
      let s := s.updUm (fun u => { u with armed := some { a with ok := true } })
      match a.hdr with
      | some h =>
        if s.um.owed.contains (h, 0x0204) then
          s.accepted h 0x0204 (a.digest ++ leBytes 4 a.seq)
        else s
      | none => s
    else s
  | none => s

/-- An Armed generation returns to Open, refused after its checks (R392, R394). -/
def State.armRefused (s : State) (a : Armed) (st det : Nat) : State :=
  let s := (s.clearPending a.groups).setFld Reg.UM_GEN_STAT F.UM_GEN_STAT_STATE 1
  let s := ((s.updUm (fun u => { u with armed := none })).lastAt.herdAbort a).genRefused st det
  match a.hdr with
  | some h => s.final h 0x0204 st det []
  | none => s

/-- What the standby answers its source once its checks complete (R419): 0 match, 1 mismatch, 2 check failed. -/
def Armed.result (a : Armed) : Nat := if a.bad.isSome then 2 else if a.digest = a.expect then 0 else 1

/-- COMMIT_CHECKS_COMPLETE (R392, R394, R419): the checks and digests of the Armed generation are complete. -/
def execCommitChecksComplete (s : State) : Res :=
  match s.um.armed with
  | none => .next s
  | some a =>
    if a.checked then .next s
    else
      match a.hdr with
      | none =>
        let ack := leBytes 4 a.seq ++ leBytes 1 a.result ++ List.replicate 7 0 ++ a.digest
        let s := s.updCl 0 (fun c => { c with commit := c.commit ++ [{ kind := 5, bytes := ack, tc := s.ticks }] })
        if a.result = 0 then .next (s.updUm (fun u => { u with armed := some { a with checked := true, ok := true } }))
        else
          let s := ((s.clearPending a.groups).updUm (fun u => { u with armed := none })).lastAt.closeGen
          .next (s.setFld Reg.TW_STAT F.TW_STAT_SYNC 0)
      | some _ =>
        match a.bad with
        | some k => .next (s.armRefused a stGenInvalid k)
        | none =>
          if a.expect.any (· != 0) ∧ a.expect ≠ a.digest then .next (s.armRefused a stGenDigestMismatch noDetail)
          else .next (s.updUm (fun u => { u with armed := some { a with checked := true } })).armDone

/-! ## The instant (R182, R283, R374, R393, R438) -/

/-- The blocks of a pail that a generation disables or changes are discarded with code 0x7 (R182). -/
def State.dropAll : State → Nat → List Block → State
  | s, _, [] => s
  | s, p, b :: bs =>
    let s := if s.pailRole p = 1 ∧ b.fin = false then s.missTx p (tlCount b.h0) else s
    (s.vatDrop p 7).dropAll p bs

/-- A pail's descriptor changes in a field other than EARLY and LATE (R182). -/
def State.pailChanges (s : State) (p : Nat) : Bool :=
  s.rdS (Reg.VAT_PAIL_A p) != s.rdG (Reg.VAT_PAIL_A p) ||
    s.sfld (Reg.VAT_PAIL_B p) F.VAT_PAIL_B_STREAM_ID != s.fld (Reg.VAT_PAIL_B p) F.VAT_PAIL_B_STREAM_ID

/-- What a pail keeps when its blocks are discarded: its last drop, the blocks on their way, now doomed, and the markers. -/
def PailRt.dropped (r : PailRt) : PailRt :=
  { lastDrop := r.lastDrop, arrivals := r.arrivals.map (fun a => { a with doom := some (a.doom.getD 7) }), missed := r.missed }

/-- Changed pails lose their blocks; blocks on their way meet code 0x7 at their commit. -/
def State.dropPails : State → List Nat → State
  | s, [] => s
  | s, p :: ps =>
    let s := if s.pailEn p ∧ s.pailChanges p then
        (s.dropAll p (s.pail p).blocks).updPail p PailRt.dropped
      else s
    s.dropPails ps

/-- Slices that the generation unbinds or rebinds are torn down, each with the channels that leave it (R374). -/
def State.teardowns : State → List Nat → State
  | s, [] => s
  | s, sl :: sls =>
    let leave := s.chansOf.filter (fun c =>
      let k := Reg.DMA_OWN c
      s.chSlice c == sl && !(s.sfld k F.DMA_OWN_EN == 1 && s.sfld k F.DMA_OWN_SLICE == sl))
    (s.teardown sl (s.slLink sl) leave).teardowns sls

/-- The ports that a generation touches in the bridge's fields free their retried reads (R283). -/
def State.freePorts : State → List Nat → State
  | s, [] => s
  | s, n :: ns =>
    let k := Reg.AL_WIN_CTRL n
    let ch := s.sfld k F.AL_WIN_CTRL_SLICE != s.fld k F.AL_WIN_CTRL_SLICE || s.sfld k F.AL_WIN_CTRL_SLICE_EN != s.fld k F.AL_WIN_CTRL_SLICE_EN ||
      (List.range 4).any (fun i => s.rdS (Reg.AL_UPR n i) != s.rdG (Reg.AL_UPR n i))
    (if h : n < 96 then (if ch then s.freeRetried ⟨n, h⟩ else s) else s).freePorts ns

/-- Ports whose AL_CTRL.EN a generation changed (R254, R262): `was` is the image before it. -/
def State.portsEn : State → SMap Word → List Nat → State
  | s, _, [] => s
  | s, was, n :: ns =>
    let old := genFld was (Reg.AL_CTRL n) F.AL_CTRL_EN
    let new := s.fld (Reg.AL_CTRL n) F.AL_CTRL_EN
    (if h : n < 96 then
      (if old = 1 ∧ new = 0 then s.alLoss ⟨n, h⟩ 5
       else if old = 0 ∧ new = 1 then (s.updTrain (.al ⟨n, h⟩) (fun t => { t with fails := 0 })).tryLockLink (.al ⟨n, h⟩)
       else s)
     else s).portsEn was ns

/-- DIGEST waits for the first control cell of Cloton port `x`, where it is Up: the local digest on C0, the herd digest
elsewhere (R399, R438). -/
def State.sendDigest (s : State) (x : Nat) : State :=
  let herd := decide (x ≠ 0)
  let d := s.rdWide (if herd then Reg.UM_GEN_HDIGEST else Reg.UM_GEN_DIGEST)
  let ws := BitVec.ofNat 64 (0xD * 2 ^ 60 + (if herd then 2 ^ 59 else 0)) :: s.um.activeAt :: wordsOf 6 d
  if s.fld (Reg.CL_PORT_STAT x) F.CL_PORT_STAT_TSTATE = 5 then s.updCl x (fun c => { c with ctl := c.ctl ++ [ws] }) else s

/-- DIGEST after a commit on each port of a list; its repeats count from here (R438). -/
def State.sendDigests : State → List Nat → State
  | s, [] => s
  | s, x :: xs => ((s.sendDigest x).updCl x (fun c => { c with digAt := s.ticks })).sendDigests xs

/-- The image swap itself, with the halves of its groups and its numbers (R393). -/
def State.swapImages (s : State) (a : Armed) : State :=
  let digs := a.groups.map (fun g => (g, sha384 (halfBytes (s.unit (s.groupUnit g)).shadow)))
  let s := digs.foldl (fun s d => s.exchange d.1 d.2) s
  let s := s.promote.updUm (fun u => { u with armed := none, marks := [], activeAt := tlOf a.at_ })
  let s := (s.setFld Reg.UM_GEN_STAT F.UM_GEN_STAT_STATE 0).wrW Reg.UM_GEN_SEQ (BitVec.ofNat 64 a.seq)
  (s.wrWide Reg.UM_GEN_DIGEST (wordsOf 6 a.digest)).wrWide Reg.UM_GEN_HDIGEST (wordsOf 6 (if a.herd then a.hdigest else a.digest))

/-- GEN_TAKES_EFFECT (R393): at AT the staged image becomes active everywhere in one Tc. -/
def execGenTakesEffect (s : State) : Res :=
  match s.um.armed with
  | none => .next s
  | some a =>
    if s.atCome then
      let was := s.gen
      let s := s.teardowns (s.boundSlices.filter (fun sl => s.unbinds sl))
      let s := s.freePorts (List.range 96)
      let s := s.dropPails (listed was (Reg.VAT_PAIL_A 0) 0x40 16384)
      let s := (s.swapImages a).portsEn was (List.range 96)
      let s := if s.alerting.isEmpty then s else s.setFld Reg.EV_ALERT F.EV_ALERT_ALERT 1
      let s := s.sendDigests [0, 1, 2, 3]
      let s := if s.isSource ∧ s.pair = 1 then (s.updTw (fun w => { w with syncSent := false })).evTw 5 else s
      let s := if s.mode = 4 then
          (if s.isTarget = false then s.setMode 5 0x07 else if s.synced then s.setMode 7 0x08 else s) else s
      let s := (s.rtAll).evUm 2
      .next (match a.hdr with
        | some h => s.final h 0x0204 stOK noDetail (leBytes 8 (tlOf a.at_).toNat)
        | none => s)
    else .next s

end Sys2Proof.Machine
end

