-- ==== Sys2Proof/Machine/Power.lean ====
section
/-! DEFINITION. Power domains and votes, the entry to and exit from a power-down, the commands of modes and votes, and
Drain (15, and 01 R34 to R44). -/

namespace Sys2Proof.Machine

/-! ## Votes (R443) -/

/-- The domain map of a list of domain codes. -/
def domMap (l : List Nat) : Nat := l.foldl (fun a d => a ||| 2 ^ d) 0

/-- Codes that R441 gives a domain. -/
def domMask : Nat := 0xFFFFFFFF0FFFFF3F

/-- Group `g` has an enabled port. -/
def State.groupPorts (s : State) (g : Nat) : Bool := (List.range 8).any (fun i => s.flag (Reg.AL_CTRL (8 * g + i)) F.AL_CTRL_EN)

/-- Groups with an enabled port, as their domains. -/
def State.portDoms (s : State) : List Nat := ((List.range 12).filter (fun g => s.groupPorts g)).map domL

/-- Banks with an enabled pail, as their domains. -/
def State.pailDoms (s : State) : List Nat := s.pailsOf.map (fun p => domV (s.pailBank p))

/-- Host ports with a bound slice, as their domains. -/
def State.sliceDoms (s : State) : List Nat := s.boundSlices.map (fun sl => domH (s.slLink sl / 4))

/-- Channels that hold the votes of R227: from S, from activation or from a fetch on. -/
def State.votingChans (s : State) : List Nat :=
  s.liveChans.filter (fun c => s.chBusy c && ((s.chan c).begun || s.chState c == 5))

/-- Channels in Error whose descriptor's record has not left: they hold HOSTp and MGMT for that write (R199). -/
def State.recordChans (s : State) : List Nat := s.liveChans.filter (fun c => s.chRaw c == 8 && !(s.chan c).recs.isEmpty)

/-- Unit `u` has a downlink pass whose blocks are held and whose chain start lies within `lead` (R84, R138). -/
def State.passNear (s : State) (u : Nat) (lead : Int) : Bool :=
  let g := s.unitGroup u
  decide (g < 12) && (s.ctxsOf u 1).any (fun k =>
    (s.candTime u g 1 k).any (fun t => tlReached s.now (tlAdd t (-(540 + s.ctxLead u g k : Nat) - lead))))

/-- The works that lie within TL_WAKE_LEAD (R84): Armed timed descriptors, and downlink passes while releases are performed. -/
def State.dueDoms (s : State) : Nat :=
  let lead : Int := s.fld Reg.TL_WAKE_LEAD F.TL_WAKE_LEAD_LEAD
  let cs := s.liveChans.filter (fun c => s.chState c == 1 && !(s.chan c).begun && decide (tlDiff (s.chT c) s.now ≤ lead))
  let us := if s.mode == 5 || s.mode == 6 || s.mode == 9 then
      (List.range 16).filter (fun u => s.passNear u lead) else []
  domMap (cs.flatMap (fun c => [domH (s.slLink (s.chSlice c) / 4), domV (s.pailBank (s.chPail c)), 3]) ++
    us.flatMap (fun u => domC u :: domL (s.unitGroup u) ::
      (s.pailsOf.filter (fun p => s.pailGroup p == s.unitGroup u)).map (fun p => domV (s.pailBank p))))

/-- The set of holder `h` as a domain map (R443): PW_HVOTEh. Nothing votes before the end of bring-up. -/
def State.hvote (s : State) (h : Nat) : Nat :=
  if s.mode < 4 then 0
  else if h < 32 then
    if s.linkPresent h && !s.flag (Reg.HL_PORT_STAT (h / 4)) F.HL_PORT_STAT_PERST && !(s.link h).l23 then 2 ^ domH (h / 4) else 0
  else if h = 32 then (if s.pw.h32 then domMap [2, 3, 4] else 0)
  else if h = 33 ∨ h = 34 then (s.rdW (Reg.PW_HVOTE h)).toNat
  else if h = 35 then
    if s.mode == 7 || s.mode == 8 then
      domMap (s.portDoms ++ ((List.range 16).filter (fun u => decide (s.unitGroup u < 12))).map domC ++ s.pailDoms ++ s.sliceDoms ++ [5])
    else 0
  else if h = 36 then (if s.flag Reg.SEC_STATE F.SEC_STATE_DBG && s.flag Reg.SEC_DBG_CTRL F.SEC_DBG_CTRL_HOLD then domMap [2, 3, 4] else 0)
  else if h = 37 then s.pw.sched &&& s.dueDoms
  else if h = 38 then
    domMap (s.votingChans.flatMap (fun c => [domH (s.slLink (s.chSlice c) / 4), domV (s.pailBank (s.chPail c)), 3]) ++
      s.recordChans.flatMap (fun c => [domH (s.slLink (s.chSlice c) / 4), 3]))
  else if h = 39 then
    domMap ((s.pails.filter (fun e => !(e.2.blocks.isEmpty && e.2.resv.isEmpty && e.2.arrivals.all (fun a => !a.holds)))).map
      (fun e => domV (s.pailBank e.1)))
  else if h = 40 then
    domMap (((List.range 12).filter (fun g => s.wbPending g)).map (fun g => domC (s.groupUnit g)) ++
      ((List.range 4).filter (fun q => s.fld (Reg.CH_SPARE_CTRL q) F.CH_SPARE_CTRL_STATE == 1)).map (fun q => domC (s.spareRt q).dst))
  else if h = 41 then
    if s.mode == 5 || s.mode == 6 || s.mode == 8 || s.mode == 9 || s.mode == 0xD then
      domMap (s.portDoms ++
        ((List.range 16).filter (fun u => decide (s.unitGroup u < 12) && !(s.ctxsOf u 0 ++ s.ctxsOf u 1).isEmpty)).map domC ++
        -- a unit that a spare has replaced, until its counters have moved (R166)
        ((List.range 4).filter (fun q => (s.spareRt q).moveAt.isSome)).map (fun q => domC (s.spareRt q).src) ++
        s.pailDoms ++ s.sliceDoms ++
        (if [0, 1, 2, 3].any (fun x => s.flag (Reg.CL_PORT_CFG x) F.CL_PORT_CFG_EN) then [5] else []))
    else 0
  else 0

/-- The domains that some holder of a list votes for. -/
def State.votesOf (s : State) (hs : List Nat) : Nat := hs.foldl (fun a h => a ||| s.hvote h) 0

/-- The domains that some holder votes for. -/
def State.votes (s : State) : Nat := s.votesOf (List.range 42)

/-- The holders that vote for domain `d`: PW_DVOTEd. -/
def State.dvote (s : State) (d : Nat) : Nat := domMap ((List.range 42).filter (fun h => (s.hvote h).testBit d))

/-! ## Which domains stay on or come on (R441, R442, R474) -/

/-- The prerequisite of a domain. -/
def prereq (d : Nat) : Nat := if d = 3 then 4 else if d = 2 then 3 else if d = 1 ∨ d = 4 then 0 else 2

/-- PW_ON as a number. -/
def State.onMap (s : State) : Nat := (s.rdW Reg.PW_ON).toNat
/-- PW_FORCED as a number. -/
def State.forcedMap (s : State) : Nat := (s.rdW Reg.PW_FORCED).toNat

/-- The domains that depend on TK. -/
def leafMask : Nat := 0xFFFFFFFF0FFFFF20

/-- The domains that something keeps on or brings on, from the votes: a vote on a domain that is not forced off, a
dependent that is powered or wanted, and MON with MGMT outside Doze and Deep Sleep. -/
def State.wantedMap (s : State) (votes : Nat) : Nat :=
  let v := votes - (votes &&& s.forcedMap)
  let on := s.onMap
  let tk := if v &&& leafMask ≠ 0 ∨ on &&& leafMask ≠ 0 ∨ v.testBit 2 then 4 else 0
  let mg := if tk ≠ 0 ∨ on.testBit 2 ∨ v.testBit 3 then 8 else 0
  let se := if mg ≠ 0 ∨ on.testBit 3 ∨ v.testBit 4 then 16 else 0
  let mo := if on.testBit 3 ∧ s.mode ≠ 0xA ∧ s.mode ≠ 0xB then 2 else 0
  (v ||| tk ||| mg ||| se ||| mo) ||| 1

/-- Domain `d` is wanted. -/
def State.wanted (s : State) (d : Nat) : Bool := (s.wantedMap s.votes).testBit d

/-- Idle Tc of each powered domain, one Tc later: counted up to 4,096 while it is not wanted (R444). -/
def idleStep (on wanted : Nat) (idle : SMap Nat) : List Nat → SMap Nat
  | [] => idle
  | d :: ds =>
    idleStep on wanted
      (SMap.put 0 idle d (if on.testBit d && !wanted.testBit d then min 4096 (SMap.get 0 idle d + 1) else 0)) ds

/-- Domains that are off, not forced off and wanted, and whose prerequisite is on: their exits begin (R442, R444). -/
def State.startsExit (s : State) (w : Nat) : Nat :=
  (setBits 64 domMask).foldl (fun a d =>
    if w.testBit d && !s.on d && !s.forcedMap.testBit d && s.on (prereq d) then a ||| 2 ^ d else a) 0

/-- The idle counts after one more Tc, and the exits that begin; domains are held on until Ready (R499, R501). -/
def State.idleTick (s : State) : State :=
  if s.mode < 4 ∨ s.mode = 0xA ∨ s.mode = 0xB then s
  else
    let w := s.wantedMap s.votes
    s.updPw (fun p => { p with idle := idleStep s.onMap w p.idle (setBits 64 domMask), exits := p.exits ||| s.startsExit w })

/-- One Tc passes. -/
def State.tickAll (s : State) : State := s.tick.idleTick

/-! ## What power-down takes and power-up gives (R452, R454, R456) -/

/-- Bit `d` of PW_ON. -/
def State.setOn (s : State) (d : Nat) (b : Bool) : State := s.wrW Reg.PW_ON (BitVec.ofNat 64 (putBit s.onMap d b))

/-- Ports of a list lost for want of power (R262, R452). -/
def State.portsLost : State → List Port → State
  | s, [] => s
  | s, n :: ns =>
    ((s.alLoss n 5).updPort n (fun p => { calEver := p.calEver, owdUp := p.owdUp, first := true })).portsLost ns

/-- The eight ports of group `g`. -/
def groupPortList (g : Nat) : List Port := (List.range 8).filterMap (fun i => if h : 8 * g + i < 96 then some ⟨8 * g + i, h⟩ else none)

/-- Cloton ports of a list lost for want of power. -/
def State.clPortsLost : State → List Nat → State
  | s, [] => s
  | s, x :: xs => ((s.clLoss x).updCl x (fun c => { c with train := {} })).clPortsLost xs

/-- Links of a list whose port loses power: link state, translations and staging go (R454). -/
def State.hostPortsLost : State → List Nat → State
  | s, [] => s
  | s, m :: ms =>
    ((s.hlDown m 0).updLink m (fun l => { l with ats := [], atsMiss := [], atsWait := [], inval := [], txQ := [], later := [], lateQ := [], full := 0 })).hostPortsLost ms

/-- A pail whose bank loses its contents: it is empty, and what is on its way meets code 0x8 (R177, R183). -/
def PailRt.emptied (r : PailRt) : PailRt :=
  { arrivals := r.arrivals.map (fun a => if a.holds then { a with doom := some 8 } else a) }

/-- The pails of bank `b` are empty. -/
def State.bankEmpty (s : State) (b : Nat) : State :=
  ((s.pails.map (·.1)).filter (fun p => s.pailBank p == b)).foldl (fun s p => s.updPail p PailRt.emptied) s

/-- What the runtime state of domain `d` loses when its switches open (R454). -/
def State.domLost (s : State) (d : Nat) : State :=
  if d = 2 then s.saveTime
  else if d = 5 then s.clPortsLost [0, 1, 2, 3]
  else if 8 ≤ d ∧ d < 16 then s.hostPortsLost (s.linksOf (d - 8))
  else if 0x10 ≤ d ∧ d < 0x1C then (s.portsLost (groupPortList (d - 0x10))).setCalDue (d - 0x10) 0
  else if 0x20 ≤ d ∧ d < 0x30 then
    s.updUnit (d - 0x20) (fun r => { r with passes := [], active := [], actBad := [], shadow := [], shaBad := [], zeroEnd := none })
  else if 0x30 ≤ d ∧ d < 0x40 then
    ((s.bankEmpty (d - 0x30)).updBank (d - 0x30) (fun r => { r with init := false, initEnd := none })).setFld
      (Reg.VAT_BANK_STATUS (d - 0x30)) F.VAT_BANK_STATUS_INIT 0
  else s

/-- Registers of domain `d` that no save image holds take their after-reset values (R454). -/
def State.unsavedReset (s : State) (d : Nat) : State :=
  s.keepRegs (fun k => !(regDom k == d && !regSaved k))

/-- Enabled ports of a list enter training where their far end is known (R254, R456). -/
def State.trainPorts : State → List LinkEnd → State
  | s, [] => s
  | s, e :: es => (s.tryLockLink e).trainPorts es

/-- What domain `d` does after its release (R456). -/
def State.domHook (s : State) (d : Nat) : State :=
  if d = 5 then
    s.trainPorts [.cl 0, .cl 1, .cl 2, .cl 3]
  else if 0x10 ≤ d ∧ d < 0x1C then (s.setCalDue (d - 0x10) (s.ticks + 1)).trainPorts ((groupPortList (d - 0x10)).map .al)
  else if 0x20 ≤ d ∧ d < 0x30 then
    let u := d - 0x20
    let s := s.startZeroing u
    let q := u / 4
    if s.fld (Reg.CH_SPARE_CTRL q) F.CH_SPARE_CTRL_STATE = 1 ∧ (s.spareRt q).dst = u ∧ (s.spareRt q).begun = none then
      s.updSpare q (fun x => { x with begun := some s.coreNow })
    else s
  else if 0x30 ≤ d ∧ d < 0x40 then
    let b := d - 0x30
    -- initialisation writes every row, so a listed suspect has been written since (R183, R189)
    (s.updBank b (fun r => { r with init := true, initEnd := some (s.coreNow + 81920),
                                    suspects := r.suspects.map (fun e => { e with written := true }) })).setFld (Reg.VAT_BANK_STATUS b)
      F.VAT_BANK_STATUS_INIT 1
  else s

/-- The release of MGMT: the watchdog and the boot ROM start (R486, R499). -/
def State.mgmtOn (s : State) : State := { s with rs := { s.rs with mgmtAt := s.aon, srcAt := s.aon } }

/-- Domain `d` is released (R456). -/
def State.domOn (s : State) (d : Nat) : State :=
  let s := (s.unsavedReset d).setOn d true
  let s := if d = 3 then s.mgmtOn else s
  let s := s.updPw (fun p => { p with idle := SMap.put 0 p.idle d 0, exits := putBit p.exits d false })
  (s.domHook d).evPw 4

/-- Domain `d` is clamped and its switches open (R447, R451). -/
def State.domOff (s : State) (d : Nat) : State :=
  let s := s.domLost d
  let s := if d = 1 then s.updPw (fun p => { p with convAt := none }) else s
  (s.setOn d false).evPw 5

/-- PW_ENTRY after an entry (R466). -/
def State.entryDone (s : State) (result at_ d target : Nat) : State :=
  let k := Reg.PW_ENTRY
  (((s.setFld k F.PW_ENTRY_RESULT result).setFld k F.PW_ENTRY_STEP at_).setFld k F.PW_ENTRY_DOMAIN d).setFld k F.PW_ENTRY_TARGET target

/-- A forced drop of domain `d` begins (R446). -/
def State.forceOff (s : State) (d : Nat) : State :=
  if s.forcedMap.testBit d then s
  else
    let s := (s.wrW Reg.PW_FORCED (BitVec.ofNat 64 (putBit s.forcedMap d true))).evPw 6
    let s := s.updPw (fun p => { p with exits := putBit p.exits d false })
    if s.on d then s.updPw (fun p => { p with entries := SMap.put 0 p.entries d 2 }) else s

/-- Forced drops of a list of domains. -/
def State.forceOffs : State → List Nat → State
  | s, [] => s
  | s, d :: ds => (s.forceOff d).forceOffs ds

/-- The force on domain `d` is lifted (R446); Quarantine's own force is not (R45). -/
def State.forceLift (s : State) (d : Nat) : State :=
  if s.mode ≠ 0xC ∧ s.forcedMap.testBit d then (s.wrW Reg.PW_FORCED (BitVec.ofNat 64 (putBit s.forcedMap d false))).evPw 7 else s

/-- Forces on a list of domains lifted. -/
def State.forceLifts : State → List Nat → State
  | s, [] => s
  | s, d :: ds => (s.forceLift d).forceLifts ds

/-- A domain in entry, and how: 0 none, 1 by want of votes, 2 forced. -/
def State.entry (s : State) (d : Nat) : Nat := SMap.get 0 s.pw.entries d

/-- No powered domain depends on domain `d`. -/
def State.noDependents (s : State) (d : Nat) : Bool :=
  (setBits 64 domMask).all (fun e => !(s.on e && e != d && e != 0 && prereq e == d))

/-- DOMAIN_ENTRY_START (R444): 4,096 continuous Tc without a vote or a powered dependent. -/
def execDomainEntryStart (d : Fin 64) (s : State) : Res :=
  if s.on d = true ∧ d.val ≠ 0 ∧ s.entry d = 0 ∧ 4 ≤ s.mode ∧ SMap.get 0 s.pw.idle d = 4096 ∧ s.wanted d = false then
    .next (s.updPw (fun p => { p with entries := SMap.put 0 p.entries d 1 }))
  else .next s

/-- DOMAIN_SWITCH_OFF (R447, R449, R452, R454): the domain's save and clamps are complete and its switches open. -/
def execDomainSwitchOff (d : Fin 64) (s : State) : Res :=
  let how := s.entry d
  if how ≠ 0 ∧ s.noDependents d = true then
    let s := s.updPw (fun p => { p with entries := SMap.put 0 p.entries d 0 })
    .next ((s.domOff d).entryDone (if how = 2 then 3 else 1) 5 d 0)
  else .next s

/-- TIMELINE_SCHEDULER_VOTE (R84, R443): holder 37 votes on the domains that due work will touch. -/
def execTimelineSchedulerVote (s : State) : Res :=
  .next (s.updPw (fun p => { p with sched := s.dueDoms }))

/-- Holder 33's set written: bit 0 and unused codes keep 0 (R466). -/
def State.setHvote33 (s : State) (v : Nat) : State :=
  s.wrW (Reg.PW_HVOTE 33) (BitVec.ofNat 64 (v &&& (domMask - 1)))

/-- PW_HVOTE33_WRITE (R443): a write of PW_HVOTE33. -/
def execPwHvote33Write (v : Word) (s : State) : Res := if s.on 3 then .next (s.setHvote33 v.toNat) else .next s

/-! ## Commands (R401, R445) -/

/-- The holder of a carrier's votes. -/
def voteHolder (c : Carrier) : Nat := match c with
  | .ring => 33
  | .sideband => 34

/-- PW_VOTE (R228, R445). -/
def execPwVote (h : UmHdr) (p : List Byte) (s : State) : Res :=
  s.umRun h 0x0802 p.length (fun s =>
    let d := leAt p 0 1
    let op := leAt p 1 1
    if d = 0 ∨ domMask.testBit d = false ∨ 1 < op then s.refuse h 0x0802 stBadParam
    else
      let k := Reg.PW_HVOTE (voteHolder h.carrier)
      let s := s.wrW k (BitVec.ofNat 64 (putBit (s.rdW k).toNat d (op == 1)))
      let s := s.updPw (fun p => { p with idle := if op = 1 then SMap.put 0 p.idle d 0 else p.idle })
      if op = 1 then s.reply h 0x0802 stOK []
      else if s.on d = true ∧ s.wanted d = true then (s.evPw 13).refuse h 0x0802 stDomainBusy
      else s.reply h 0x0802 stOK [])

/-- PW_STATUS (R401): PW_ON, then the holders of each domain from domain 0 up. -/
def execPwStatus (h : UmHdr) (p : List Byte) (s : State) : Res :=
  s.umRun h 0x0803 p.length (fun s =>
    s.reply h 0x0803 stOK (leBytes 8 s.onMap ++ (List.range 64).flatMap (fun d => leBytes 8 (s.dvote d))))

/-- MODE_GET (R401). -/
def execModeGet (h : UmHdr) (p : List Byte) (s : State) : Res :=
  s.umRun h 0x0801 p.length (fun s =>
    s.reply h 0x0801 stOK (leBytes 4 (s.rdW Reg.PW_MODE).toNat ++ leBytes 4 0 ++ leBytes 8 s.um.transit.toNat))

/-- PW_MODE's four bytes: the result of MODE_SET. -/
def State.modeBytes (s : State) : List Byte := leBytes 4 (s.rdW Reg.PW_MODE).toNat

/-- IN_TRANSIT of PW_MODE set or cleared. -/
def State.setTransit (s : State) (b : Bool) : State := s.setFld Reg.PW_MODE F.PW_MODE_IN_TRANSIT (if b then 1 else 0)

/-- The final reply of a MODE_SET, if a command asked for it. -/
def State.modeFinal (s : State) (h : Option UmHdr) (status : Nat) : State :=
  match h with
  | some h => s.final h 0x0800 status noDetail s.modeBytes
  | none => s

/-- Final replies OK of MODE_SETs that cancelled a sleep request. -/
def State.cancelFinals : State → List UmHdr → State
  | s, [] => s
  | s, h :: hs => (s.modeFinal (some h) stOK).cancelFinals hs

/-- A mode code that names a sleep. -/
def sleepMode (t : Nat) : Bool := t == 0xA || t == 0xB

/-- Entry to Drain (R40): STOP_REQ of every channel that is neither Idle nor Error. -/
def State.enterDrain (s : State) (h : Option UmHdr) (target limit : Nat) : State :=
  let s := (s.setMode 9 0x0B).setTransit true
  let s := s.updUm (fun u => { u with mode := some { hdr := h, target := target, limit := limit, start := s.ticks, cancel := [] } })
  s.dmaStops (s.liveChans.filter (fun c => s.chBusy c))

/-- A sleep request waits in Ready (R44). -/
def State.sleepWait (s : State) (h : Option UmHdr) (target : Nat) (cancel : List UmHdr) : State :=
  ((s.setTransit true).updUm (fun u => { u with mode := some { hdr := h, target := target, limit := 0, start := s.ticks, cancel := cancel } })).updPw
    (fun p => { p with waited := false })

/-- A MODE_SET with target Ready cancels a pending sleep request (R44, R457). -/
def State.cancelSleep (s : State) (h : UmHdr) (r : ModeReq) : State :=
  let s := (s.accept h 0x0800 []).modeFinal r.hdr stModeCancelled
  if s.mode = 9 then s.updUm (fun u => { u with mode := some { r with hdr := none, target := 4, cancel := r.cancel ++ [h] } })
  else if s.pw.sleep.isSome then s.updUm (fun u => { u with mode := some { r with hdr := none, cancel := r.cancel ++ [h] } })
  else (((s.setTransit false).updUm (fun u => { u with mode := none })).modeFinal (some h) stOK)

/-- The transition that MODE_SET starts from the present mode (R35, R36, R395), or its refusal. -/
def State.modeStart (s : State) (h : UmHdr) (t limit : Nat) : State :=
  let armed := s.genState == 2
  if sleepMode t ∧ (s.mode = 4 ∨ s.mode = 5 ∨ s.mode = 6) ∧ armed then s.refuse h 0x0800 stGenBusy
  else if s.mode = 4 ∧ sleepMode t then (s.accept h 0x0800 []).sleepWait (some h) t []
  else if s.mode = 4 ∧ t = 0xD then ((s.accept h 0x0800 []).setMode 0xD 0x0F).modeFinal (some h) stOK
  else if (s.mode = 5 ∨ s.mode = 6) ∧ (t = 4 ∨ t = 0xD ∨ sleepMode t) then (s.accept h 0x0800 []).enterDrain (some h) t limit
  else if s.mode = 0xD ∧ t = 4 then ((s.accept h 0x0800 []).setMode 4 0x10).modeFinal (some h) stOK
  else if s.mode = 7 ∧ t = 4 then ((((s.accept h 0x0800 []).setMode 4 0x14).setPair 3).updTw (fun t => { t with left := true })).modeFinal (some h) stOK
  else s.refuse h 0x0800 stModeRefused

/-- MODE_SET (R35 to R37, R44, R395, R401, R407). -/
def execModeSet (h : UmHdr) (p : List Byte) (s : State) : Res :=
  s.umRun h 0x0800 p.length (fun s =>
    let t := leAt p 0 1
    let limit := if leAt p 4 4 = 0 then 19660800 else leAt p 4 4
    if (p.length ≠ 1 ∧ p.length ≠ 8) ∨ 0xD < t then s.refuse h 0x0800 stBadParam
    else if t ≠ 4 ∧ s.isTarget = true then s.refuse h 0x0800 stRoleRefused
    else if s.flag Reg.PW_MODE F.PW_MODE_IN_TRANSIT then
      match s.um.mode with
      | some r => if t = 4 ∧ sleepMode r.target = true then s.cancelSleep h r else s.refuse h 0x0800 stModeBusy
      | none => s.refuse h 0x0800 stModeBusy
    else s.modeStart h t limit)

/-! ## Drain (R40, R400) -/

/-- Every tx pail is empty. -/
def State.txEmpty (s : State) : Bool :=
  s.pails.all (fun e => s.pailRole e.1 != 1 || (e.2.blocks.all (fun b => b.fin) && e.2.arrivals.isEmpty))

/-- The eight flag bits of a channel's entry in a work report. -/
def State.reportFlags (s : State) (c : Nat) : Nat :=
  let k := Reg.DMA_STAT c
  let r := s.chan c
  let b (v : Bool) (i : Nat) : Nat := if v then 2 ^ i else 0
  b (s.flag k F.DMA_STAT_DONE || r.done) 0 + b (s.flag k F.DMA_STAT_LATE) 1 + b (s.flag k F.DMA_STAT_HELD) 2 +
    b (s.flag k F.DMA_STAT_POISON) 3 + b (s.flag k F.DMA_STAT_STOPPED) 4 + b (s.flag k F.DMA_STAT_EMPTY) 5 +
    b (s.flag k F.DMA_STAT_REC_PEND) 6 + b (s.flag k F.DMA_STAT_IRQ_PEND) 7

/-- A channel's entry in a work report (R400). -/
def State.reportEntry (s : State) (unsure : List Nat) (c : Nat) : ReportEntry :=
  ⟨c, leBytes 2 c ++ [BitVec.ofNat 8 (s.chState c), BitVec.ofNat 8 (s.fld (Reg.DMA_STAT c) F.DMA_STAT_CODE)] ++
    leBytes 4 (s.rdW (Reg.DMA_RETIRED c)).toNat ++ leBytes 8 (s.rdW (Reg.DMA_CUR c)).toNat ++ leBytes 4 (s.moved c) ++
    leBytes 4 (s.issued c) ++ leBytes 4 (s.rdW (Reg.DMA_LATENESS c)).toNat ++
    [BitVec.ofNat 8 (s.reportFlags c), if unsure.contains c then 1 else 0] ++
    leBytes 2 (if s.flag (Reg.DMA_OWN c) F.DMA_OWN_EN then s.chSlice c else 0xFFFF)⟩

/-- The stored work report of all channels (R400); channels that are not listed are in their after-reset state. -/
def State.storeReport (s : State) (reason : Nat) (unsure : List Nat) : State :=
  let cs := (s.liveChans ++ (listed s.gen (Reg.DMA_OWN 0) 4 4096) ++ unsure).foldl insNat []
  (s.updUm (fun u => { u with report := some ⟨if s.tlKnown then tlOf s.now else 0, reason, cs.map (s.reportEntry unsure)⟩ })).evUm 10

/-- A drop counted for each block of a pail. -/
def State.dropEach : State → Nat → Nat → Nat → State
  | s, _, _, 0 => s
  | s, p, code, n + 1 => (s.vatDrop p code).dropEach p code n

/-- Blocks held in the rx, din and dout pails of a list are discarded with code 0x9 (R40, R177). -/
def State.discardPails : State → List Nat → State
  | s, [] => s
  | s, p :: ps =>
    let n := ((s.pail p).blocks.filter (fun b => !b.fin)).length
    let s := s.dropEach p 9 n
    (s.updPail p (fun r => { r with blocks := [] })).discardPails ps

/-- Drain is complete (R40): the report, the discarded blocks, and the mode that MODE_SET named. -/
def State.drainEnd (s : State) : State :=
  let s := s.storeReport 1 []
  let s := s.discardPails ((s.pails.filter (fun e => s.pailRole e.1 != 1)).map (·.1))
  match s.um.mode with
  | some r =>
    let s := s.setMode (if r.target = 0xD then 0xD else 4) 0x0C
    if sleepMode r.target then s.sleepWait r.hdr r.target r.cancel
    else ((s.updUm (fun u => { u with mode := none })).modeFinal r.hdr stOK).cancelFinals r.cancel
  | none => s.setMode 4 0x0C

/-- DRAIN_COMPLETE (R40): every channel is Idle or Error and every tx pail is empty. -/
def execDrainComplete (s : State) : Res :=
  if s.mode = 9 ∧ s.liveChans.all (fun c => !s.chBusy c) = true ∧ s.txEmpty = true then .next s.drainEnd else .next s

/-- The unfinished blocks of tx pails have their releases marked Missed. -/
def State.missBlocks : State → Nat → List Block → State
  | s, _, [] => s
  | s, p, b :: bs => (s.missBlock p b).missBlocks p bs

/-- The tx pails of a list emptied. -/
def State.missPails : State → List Nat → State
  | s, [] => s
  | s, p :: ps => ((s.missBlocks p ((s.pail p).blocks.filter (fun b => !b.fin))).updPail p (fun r => { r with arrivals := [] })).missPails ps

/-- Every channel ends as SLICE_KILL would end it, and held tx blocks are Missed (R40, R372). -/
def State.cutWork (s : State) : State :=
  let s := s.endChans (s.liveChans.filter (fun c => s.chBusy c)) 9
  s.missPails ((s.pails.filter (fun e => s.pailRole e.1 == 1)).map (·.1))

/-- DRAIN_LIMIT_EXPIRY (R40). -/
def execDrainLimitExpiry (s : State) : Res :=
  match s.um.mode with
  | some r => if s.mode = 9 ∧ r.start + r.limit ≤ s.ticks then .next s.cutWork.drainEnd else .next s
  | none => .next s

/-! ## The wait for sleep (R457) -/

/-- Votes of holders other than the Creamery, on domains other than AON; MON too does not count toward Doze (R44). -/
def State.sleepVotes (s : State) (target : Nat) : Nat :=
  let v := s.votesOf ((List.range 42).filter (fun h => h != 32))
  if target = 0xA then putBit v 1 false else v

/-- The sleep request that waits in Ready. -/
def State.sleepReq (s : State) : Option ModeReq :=
  match s.um.mode with
  | some r => if s.mode = 4 ∧ sleepMode r.target ∧ s.pw.sleep = none then some r else none
  | none => none

/-- SLEEP_ENTRY_WAIT (R457): 10 ms of waiting for votes raise PW_ENTRY_WAIT once. -/
def execSleepEntryWait (s : State) : Res :=
  match s.sleepReq with
  | some r =>
    if r.start + 19660800 ≤ s.ticks ∧ s.pw.waited = false ∧ s.sleepVotes r.target ≠ 0 then
      .next ((s.updPw (fun p => { p with waited := true })).evPw 3)
    else .next s
  | none => .next s

end Sys2Proof.Machine
end

