-- ==== Sys2Proof/Machine/Cloton.lean ====
section
/-! DEFINITION. The Cloton link: its slots in both directions, cells and acknowledgement, control words, calibration, lane
sparing and training (14 R408 to R412, R417, R418, R433 to R435, R438). -/

namespace Sys2Proof.Machine

/-! ## Control words of a Cloton port (R410) -/

/-- Control words that stand together wait for the port's next control cell, unless they wait already. -/
def State.clCtl (s : State) (x : Nat) (ws : List Word) : State :=
  s.updCl x (fun c => if c.ctl.contains ws then c else { c with ctl := c.ctl ++ [ws] })

/-- ACK for the port's cells: herd cells on C1 to C3, mirror cells on C0 (R410, R411). -/
def clAckWord (x : Nat) (nak : Bool) (seq : Nat) : Word :=
  BitVec.ofNat 64 (4 * 2 ^ 60 + (if x = 0 then 0 else 2048) + (if nak then 1024 else 0) + seq % 1024)

/-- HEARTBEAT's words for a slot that begins now (R410). -/
def State.hbWords (s : State) : List Word :=
  let b (v : Bool) (i : Nat) : Nat := if v then 2 ^ i else 0
  [BitVec.ofNat 64 (0xC * 2 ^ 60 + s.mode * 2 ^ 56 + s.role * 2 ^ 54 + b s.synced 53 + b s.tw.yield 52 +
      s.fld Reg.CL_HERD_CFG F.CL_HERD_CFG_ADDR * 2 ^ 40 + b (s.flag Reg.CL_HERD_CFG F.CL_HERD_CFG_EN) 39 +
      s.fld Reg.UM_GEN_SEQ F.UM_GEN_SEQ_SEQ),
   tlOf s.now]

/-- TIMEMARK in the first slot at or after an expected instant, on a port with TIME_OUT, while Locked (R435). -/
def State.timemark (s : State) (x : Nat) : Option (List Word) :=
  let (e, ph) := s.nearest ((s.now : Int) * 65536)
  if s.tlState = 2 ∧ s.flag (Reg.CL_PORT_CFG x) F.CL_PORT_CFG_TIME_OUT = true ∧ 0 ≤ ph ∧ ph < 32 * 65536 then
    let hops := match s.timeSrc with
      | some y => (s.clp y).hops + 1
      | none => 1
    some [BitVec.ofNat 64 (0xE * 2 ^ 60 + hops % 65536 * 2 ^ 32 + (ph / 65536).toNat), tlOf e]
  else none

/-- DLY_RSP for a request whose slot arrived at `t` (1/65,536 Tc), in a slot that begins now (R256, R412). -/
def State.dlyRspWord (s : State) (id t : Nat) : Word :=
  BitVec.ofNat 64 (7 * 2 ^ 60 + id % 65536 * 2 ^ 32 + (s.ticks * 65536 - t) % 2 ^ 32)

/-! ## Slots sent (R408, R409, R417, R418, R433) -/

/-- Words packed into control cells of eight slots, in order. -/
def packCtl : List (List Word) → List Word → List (List Word)
  | [], [] => []
  | [], acc => [acc]
  | ws :: l, acc => if acc.length + ws.length ≤ 8 then packCtl l (acc ++ ws) else acc :: packCtl l ws

/-- A record that shares no cell, since its length is not fixed (R417). -/
def loneKind (k : Nat) : Bool := k == 2 || k == 8

/-- Records of the kind of the first, as many as fit in one mirror cell, and those that wait on (R417). -/
def takeRecs (kind : Nat) (acc : List Byte) : List ClRec → List Byte × List ClRec
  | [] => (acc, [])
  | r :: rs =>
    if r.kind = kind ∧ acc.length + r.bytes.length ≤ 60 ∧ !(loneKind kind && !acc.isEmpty) then takeRecs kind (acc ++ r.bytes) rs
    else (acc, r :: rs)

/-- A mirror cell's words (R417). -/
def mirrorCell (kind seq : Nat) (bytes : List Byte) : List Word :=
  wordsOf 8 (leBytes 4 (kind * 2 ^ 28 + seq * 2 ^ 18 + bytes.length) ++ bytes ++ List.replicate (60 - bytes.length) 0)

/-- A herd cell's words (R433). -/
def herdCell (kind seq src : Nat) (bytes : List Byte) : List Word :=
  wordsOf 8 (leBytes 4 (kind * 2 ^ 28 + seq * 2 ^ 18 + src % 4096 * 2 ^ 6 + 56) ++ bytes ++ List.replicate (60 - bytes.length) 0)

/-- A cell is resent: counted, with CL_ERR (R411, R439). -/
def State.clResent (s : State) (x : Nat) : State := (s.cnt (Reg.CL_PORT_REPLAY x)).linkErr (.cl ⟨x % 4, Nat.mod_lt _ (by decide)⟩) 4

/-- The next mirror cell of C0: those to be resent first, then CHAN, then COMMIT and COMMIT_ACK, then the others (R253,
R418); its words. -/
def State.nextMirror (s : State) : Option (State × List Word) :=
  let c := s.clp 0
  match c.unack.find? (·.again) with
  | some b =>
    let s := (s.updCl 0 (fun c => { c with unack := c.unack.map (fun y =>
      if y.seq = b.seq then { y with again := false, sends := y.sends + 1 } else y) })).clResent 0
    some (s, mirrorCell b.kind b.seq b.bytes)
  | none =>
    if 128 ≤ c.unack.length then none
    else
      let send (kind : Nat) (bytes : List Byte) (f : ClRt → ClRt) : Option (State × List Word) :=
        some (s.updCl 0 (fun c =>
          let c := f c
          { c with txSeq := (c.txSeq + 1) % 1024, ackAt := if c.unack = [] then s.ticks else c.ackAt,
                   unack := c.unack ++ [{ kind := kind, seq := c.txSeq, bytes := bytes, sends := 1, tc := s.ticks }] }),
          mirrorCell kind c.txSeq bytes)
      match c.chan, c.commit, c.other with
      | r :: rs, _, _ => let (b, l) := takeRecs r.kind [] (r :: rs); send r.kind b (fun c => { c with chan := l })
      | [], r :: rs, _ => let (b, l) := takeRecs r.kind [] (r :: rs); send r.kind b (fun c => { c with commit := l })
      | [], [], r :: rs => let (b, l) := takeRecs r.kind [] (r :: rs); send r.kind b (fun c => { c with other := l })
      | [], [], [] => none

/-- The next herd cell of port `x`: those to be resent first, then the first that is due. -/
def State.nextHerd (s : State) (x : Nat) : Option (State × List Word) :=
  let c := s.clp x
  match c.hUnack.find? (·.again) with
  | some b =>
    let s := (s.updCl x (fun c => { c with hUnack := c.hUnack.map (fun y =>
      if y.seq = b.seq then { y with again := false, sends := y.sends + 1 } else y) })).clResent x
    some (s, herdCell b.kind b.seq b.src b.bytes)
  | none =>
    if 128 ≤ c.hUnack.length then none
    else match c.herd.find? (fun r => decide (r.tc ≤ s.ticks)) with
      | some r =>
        let src := r.src.getD (s.fld Reg.CL_HERD_CFG F.CL_HERD_CFG_ADDR)
        some (s.updCl x (fun c =>
          { c with herd := c.herd.erase r, hTxSeq := (c.hTxSeq + 1) % 1024, hAckAt := if c.hUnack = [] then s.ticks else c.hAckAt,
                   hUnack := c.hUnack ++ [{ kind := r.kind, seq := c.hTxSeq, bytes := r.bytes, sends := 1, tc := s.ticks, src := src }] }),
          herdCell r.kind c.hTxSeq src r.bytes)
      | none => none

/-- Control cells placed in the free cells of a list. -/
def placeCells : Cells → List Nat → List (List Word) → Cells × List (List Word)
  | f, [], ws => (f, ws)
  | f, _, [] => (f, [])
  | f, c :: cs, w :: ws =>
    if f.free c then placeCells (setAt f c (some (3, w ++ List.replicate (8 - w.length) 0))) cs ws
    else placeCells f cs (w :: ws)

/-- Mirror cells on C0, or herd cells elsewhere, placed in the free cells of a list; cell 15 of codeword 0 stays free for
control where `res`. -/
def State.placeRecs : State → Nat → Bool → Cells → List Nat → State × Cells
  | s, _, _, f, [] => (s, f)
  | s, x, res, f, c :: cs =>
    if f.free c && !(res && c == 15) then
      match (if x = 0 then s.nextMirror else s.nextHerd x) with
      | some (s, ws) => s.placeRecs x res (setAt f c (some (if x = 0 then 1 else 2, ws))) cs
      | none => (s, f)
    else s.placeRecs x res f cs

/-- Words 2k and 2k + 1 of the lane map: logical lane l is on physical lane l, or on lane 4 once it has moved (R408). -/
def ClRt.phys (c : ClRt) (l : Nat) : Nat := if c.map = some l then 4 else l

/-- The training word of codeword `h` (R409). -/
def State.clTrainWord (s : State) (x h : Nat) : List Word :=
  let c := s.clp x
  let v := s.fld (Reg.CL_PORT_STAT x) F.CL_PORT_STAT_TSTATE
  [BitVec.ofNat 64 (2 ^ 56 + (if 8 ≤ c.train.good then 2 ^ 54 else 0) + (if 3 ≤ v then 2 ^ 53 else 0) +
      c.phys (2 * h) * 2 ^ 48 + c.phys (2 * h + 1) * 2 ^ 43 + 3 * 2 ^ 25),
   BitVec.ofNat 64 (s.sec.fuses.dsn % 2 ^ 32 * 2 ^ 32 + 0x80 + x), 0, 0, 0, 0, 0, 0]

/-- The herd HREADY that falls due again at this slot (R437): every 1,024 slots from acceptance until AT. -/
def State.repeatHready (s : State) (x : Nat) : State :=
  match s.um.armed, s.tw.hready with
  | some a, some (t, d) =>
    let k := (s.ticks - s.tw.hrAt) / 32768
    let k' := (s.ticks - 32 - s.tw.hrAt) / 32768
    if a.herd ∧ k ≠ k' ∧ s.herdPorts.contains x = true ∧ tlReached s.now t = false then s.herdSend [x] 1 t d else s
  | _, _ => s

/-- DIGEST that falls due again on this port: every 65,536 slots after a commit (R438). -/
def State.repeatDigest (s : State) (x : Nat) : State :=
  let t := (s.clp x).digAt
  if s.fld Reg.UM_GEN_SEQ F.UM_GEN_SEQ_SEQ ≠ 0 ∧ t < s.ticks ∧ (s.ticks - t) / 2097152 ≠ (s.ticks - 32 - t) / 2097152 then
    s.sendDigest x
  else s

/-- One slot of a Cloton port that is in Calibrate or Up: control cells first, then the records of its kind (R413, R418). -/
def State.clNormal (s : State) (x : Nat) : State :=
  let up := decide (s.fld (Reg.CL_PORT_STAT x) F.CL_PORT_STAT_TSTATE = 5)
  let s := if up then (s.repeatDigest x).repeatHready x else s
  let c := s.clp x
  let hb := if up && c.hbDue then [s.hbWords] else []
  let mark := if up then (s.timemark x).toList else []
  let ws := hb ++ mark ++ c.ctl ++ c.dly.map (fun e => [s.dlyRspWord e.1 e.2])
  let asks := c.ctl.contains [BitVec.ofNat 64 (6 * 2 ^ 60 + c.calId)]
  let res := decide (c.fcnt % 8 = 0)
  let (f, _) := placeCells (List.replicate 32 none) (15 :: (List.range 15 ++ (List.range 16).map (16 + ·))) (packCtl ws [])
  let s := s.updCl x (fun c => { c with ctl := [], dly := [], hbDue := if up then false else c.hbDue,
                                        calT1 := if asks then s.ticks * 65536 else c.calT1 })
  let s := if hb.isEmpty then s else s.updTw (fun t => if x = 0 then { t with yield := false } else t)
  let (s, f) := if up then s.placeRecs x res f (List.range 32) else (s, f)
  let ep := s.fld Reg.TW_EPOCH F.TW_EPOCH_EPOCH
  let h (g : Cells) : Word := frameHdr 1 ep (Cells.cellMap g) c.fcnt s.act false
  (s.emit (.cloton x (h (f.take 16)) (Cells.words (f.take 16)) (h (f.drop 16)) (Cells.words (f.drop 16)))).updCl x
    (fun c => { c with fcnt := (c.fcnt + 1) % 256 })

/-- One slot of a Cloton port (R409): training frames in Align and Config. -/
def State.clSlot (s : State) (x : Nat) : State :=
  let v := s.fld (Reg.CL_PORT_STAT x) F.CL_PORT_STAT_TSTATE
  if v ≤ 3 then
    let c := s.clp x
    let h : Word := frameHdr 2 (s.fld Reg.TW_EPOCH F.TW_EPOCH_EPOCH) 0 c.fcnt s.act false
    let cells (k : Nat) : List (List Word) := s.clTrainWord x k :: List.replicate 15 (List.replicate 8 0)
    (s.emit (.cloton x h (cells 0) h (cells 1))).updCl x (fun c => { c with fcnt := (c.fcnt + 1) % 256 })
  else s.clNormal x

/-! ## The sync's records (R421) -/

/-- Records of consecutive weight words of a half of group `g`, six to a record. -/
def wordRecs (kind g tc : Nat) (half : SMap Word) : List ClRec :=
  (List.range 21846).map (fun j =>
    { kind := kind, tc := tc,
      bytes := leBytes 4 g ++ leBytes 4 (6 * j) ++
        bytesOfWords (((List.range 6).filter (fun i => decide (6 * j + i < 131072))).map (fun i => SMap.get 0 half (6 * j + i))) })

/-- A CHAN record of a channel (R417): FLAGS as in the completion record of R219. -/
def State.chanRec (s : State) (c : Nat) : ClRec :=
  let k := Reg.DMA_STAT c
  let b (f : Fld) (i : Nat) : Nat := s.fld k f * 2 ^ i
  let flags := b F.DMA_STAT_LATE 0 + b F.DMA_STAT_HELD 1 + b F.DMA_STAT_POISON 2 + b F.DMA_STAT_STOPPED 3 +
    (if s.moved c < s.chCount c then 16 else 0) + b F.DMA_STAT_EMPTY 5
  { kind := 6, tc := s.ticks,
    bytes := leBytes 2 (c + s.chState c * 4096) ++ leBytes 1 (s.fld k F.DMA_STAT_CODE) ++ leBytes 1 flags ++
      leBytes 4 (s.rdW (Reg.DMA_RETIRED c)).toNat ++ leBytes 8 (s.rdW (Reg.DMA_CUR c)).toNat ++ leBytes 4 (s.moved c) }

/-- The records of a pass of the sync, queued in order (R421). -/
def State.startSync (s : State) : State :=
  let reg (kind : Nat) (im : SMap Word) : List ClRec := rwgRegs.map (fun k =>
    { kind := kind, bytes := leBytes 4 k ++ leBytes 8 (SMap.get (rstG k) im k).toNat, tc := s.ticks })
  let u (g : Nat) : UnitRt := s.unit (s.groupUnit g)
  let recs := reg 7 s.gen ++ (if s.genState = 0 then [] else reg 1 s.staged) ++
    (List.range 12).flatMap (fun g => wordRecs 8 g s.ticks (u g).active ++ wordRecs 2 g s.ticks (u g).shadow) ++
    (List.range 4096).map s.chanRec ++
    [{ kind := 9, bytes := leBytes 8 (tlOf s.now).toNat ++ s.genDigest s.gen [], tc := s.ticks }]
  (s.updTw (fun t => { t with syncSent := true, syncAt := s.ticks })).updCl 0 (fun c => { c with other := recs })

/-- A pass of the sync is due: the device is the source, the pair is Syncing, and no pass has been sent, or the last one has
gone out and the 2 ms of R421 have passed without its completion. -/
def State.syncDue (s : State) : Bool :=
  s.isSource && s.pair == 1 &&
    (!s.tw.syncSent || ((s.clp 0).other.isEmpty && decide (s.tw.syncAt + 3932160 ≤ s.ticks)))

/-- CLOTON_SLOT_SEND (R409, R413, R418, R434): a slot of the port begins at its phase. -/
def execClotonSlotSend (x : ClPort) (s : State) : Res :=
  if s.on 5 = true ∧ s.now % 32 = s.fld (Reg.CL_PORT_STAT x) F.CL_PORT_STAT_PHASE ∧
      2 ≤ s.fld (Reg.CL_PORT_STAT x) F.CL_PORT_STAT_TSTATE ∧ s.mode ≠ 0xC then
    let s := if x.val = 0 ∧ s.isUp (.cl x) = true ∧ s.syncDue = true then s.startSync else s
    .next (s.clSlot x)
  else .next s

/-! ## Half-frames received (R408, R409, R412, R434) -/

/-- An uncorrectable half-frame (R236, R262, R408): its port's cells are asked for again. -/
def State.clUncorr (s : State) (x : ClPort) : State :=
  let e := LinkEnd.cl x
  let s := s.updTrain e (fun t => { t with good := 0, bad := t.bad + 1, farDone := 0 })
  let s := ((s.cnt (Reg.CL_PORT_UNCORR x)).linkErr e 1).updCl x (fun c => { c with shut := true })
  if s.isUp e then
    if 16 ≤ (s.train e).bad then s.clLoss x
    else s.clCtl x [clAckWord x true (if x.val = 0 then (s.clp x).rxSeq else (s.clp x).hRxSeq)]
  else s

/-- Corrected symbols of a half-frame, by logical lane; a lane that reaches 65,536 of them within 2^20 frames moves to lane
4 (R412). -/
def State.clCorrected (s : State) (x : ClPort) (half : Nat) (errs : List Nat) : State :=
  let s := s.addCnt (Reg.CL_PORT_CORR x) errs.length 0xFFFFFFFF
  let lane (i : Nat) : Nat := 2 * half + i
  let add (i : Nat) : Nat := (errs.filter (fun j => j % 2 == i)).length
  let was (i : Nat) : Nat := SMap.get 0 (s.clp x).symErr (lane i)
  let hit := [0, 1].find? (fun i => decide (was i < 65536 ∧ 65536 ≤ was i + add i))
  let s := s.updCl x (fun c =>
    { c with symErr := SMap.put 0 (SMap.put 0 c.symErr (lane 0) (was 0 + add 0)) (lane 1) (was 1 + add 1), symN := c.symN + 1 })
  let s := match hit with
    | some i => if s.isUp (.cl x) then s.startClSwap x (lane i) else s
    | none => s
  s.updCl x (fun c => if 2097152 ≤ c.symN then { c with symErr := [], symN := 0 } else c)

/-- A training word of codeword `half` (R255, R409). -/
def State.clTraining (s : State) (x : ClPort) (half : Nat) (w0 : Word) : State :=
  let e := LinkEnd.cl x
  let v := s.tstate e
  let c := s.clp x
  if v = 5 then s.clLoss x
  else if v = 2 ∨ v = 3 then
    if wbits w0 63 56 ≠ 1 ∨ wbits w0 52 48 ≠ c.phys (2 * half) ∨ wbits w0 47 43 ≠ c.phys (2 * half + 1) then s.trainFail e
    else s.updTrain e (fun t =>
      { t with good := if half = 1 then min 8 (t.good + 1) else t.good, bad := 0, farLock := w0.toNat.testBit 54,
               farDone := if w0.toNat.testBit 53 then (if half = 1 then min 8 (t.farDone + 1) else t.farDone) else 0 })
  else s

/-- The heads of the control words of a Cloton control cell: the words that belong to a HEARTBEAT, DIGEST or TIMEMARK are
skipped (R410). -/
def clHeads : Nat → List Word → List Nat
  | _, [] => []
  | k + 1, _ :: ws => clHeads k ws
  | 0, w :: ws =>
    let ty := wbits w 63 60
    ty :: clHeads (if ty = 0xC ∨ ty = 0xE then 1 else if ty = 0xD then 7 else 0) ws

/-- Control words of unknown types, and herd cells of unknown kinds, in the cells of a half-frame (R410, R433). -/
def clStray (kind : Nat → Nat) : Nat → List (List Word) → Nat
  | _, [] => 0
  | c, w :: ws =>
    (match kind c with
     | 3 => ((clHeads 0 w).filter (fun t => !([0, 4, 6, 7, 0xB, 0xC, 0xD, 0xE].contains t))).length
     | 2 => if [1, 2].contains (wbits (w.getD 0 0) 31 28) then 0 else 1
     | _ => 0) + clStray kind (c + 1) ws

/-- The epoch of a header on C0 (R416): the peer's, and a higher one where the device is Active. -/
def State.seeEpoch (s : State) (v : Nat) : State :=
  let own := s.fld Reg.TW_EPOCH F.TW_EPOCH_EPOCH
  let s := s.setFld Reg.TW_EPOCH F.TW_EPOCH_PEER v
  if epochHigher v own ∧ s.role ≠ 0 ∧ (s.mode = 5 ∨ s.mode = 6 ∨ s.mode = 9) then s.updTw (fun t => { t with higher := true }) else s

/-- A half-frame that is discarded whole (R237, R238, R409): counted, and nothing in it is used. -/
def State.clDiscard (s : State) (x : ClPort) : State :=
  (s.linkProto (.cl x)).updCl x (fun c => { c with shut := true })

/-- A half-frame of a Cloton slot that began to arrive `ago` Tc ago. Its control words, mirror cells and herd cells come as
commands of their own. -/
def State.clFrame (s : State) (x : ClPort) (half ago : Nat) (hdr : Word) (cells : List (List Word)) (errs : List Nat) : State :=
  let e := LinkEnd.cl x
  if s.tstate e < 2 ∨ s.on 5 = false then s
  else if 16 < errs.length then s.clUncorr x
  else
    let s := s.clCorrected x half errs
    let s := s.setFld (Reg.CL_PORT_STAT x) F.CL_PORT_STAT_RXPHASE (tlAdd s.now (-(ago : Int)) % 32)
    let kind (c : Nat) : Nat := bitsOf (wbits hdr 43 12) (31 - 2 * c) (30 - 2 * c)
    let good (s : State) : State :=
      let s := s.updCl x (fun c => { c with rxFcnt := wbits hdr 11 4, shut := false })
      if x.val = 0 then s.seeEpoch (wbits hdr 59 44) else s
    match wbits hdr 63 60 with
    | 2 => (good s).clTraining x half ((cells.getD 0 []).getD 0 0)
    | 1 =>
      let s := s.updTrain e (fun t => { t with good := if half = 1 then min 8 (t.good + 1) else t.good, bad := 0 })
      -- a half-frame that breaks the reservation of cell 15 is discarded whole (R238, R409)
      if 4 ≤ s.tstate e ∧ half = 0 ∧ wbits hdr 11 4 % 8 = 0 ∧ (kind 15 = 1 ∨ kind 15 = 2) then s.clDiscard x
      else
        let s := good s
        if 4 ≤ s.tstate e then linkProtos (clStray kind 0 cells) s e else s
    | _ => s.clDiscard x

/-- FRAME_RECEIVE (R236, R408): a frame of an A-link, or a half-frame of a Cloton link. -/
def execFrameReceive (e : LinkEnd) (half : Fin 2) (ago : Nat) (hdr : Word) (cells : List (List Word)) (errs : List Nat) (s : State) : Res :=
  match e with
  | .al n => .next (s.alFrame n ago hdr cells errs)
  | .cl x => .next (s.clFrame x half ago hdr cells errs)

/-! ## Acknowledgement (R252, R253, R411) -/

/-- The sequence test of a mirror or herd cell (R252): whether it is taken, and its ACK. -/
def State.clTake (s : State) (x : ClPort) (herd : Bool) (seq : Nat) : State × Bool :=
  let c := s.clp x
  let want := if herd then c.hRxSeq else c.rxSeq
  if s.isUp (.cl x) = false ∨ s.frameIn (.cl x) = false then (s, false)
  else if seq = want then
    let s := s.updCl x (fun c => if herd then { c with hRxSeq := (want + 1) % 1024 } else { c with rxSeq := (want + 1) % 1024 })
    (s.clCtl x [clAckWord x false seq], true)
  else if (want + 1024 - seq) % 1024 ≤ 512 then (s.clCtl x [clAckWord x false (want + 1023)], false)
  else (s.clCtl x [clAckWord x true want], false)

/-- Cells after an ACK or a NAK of SEQ `q`: those that wait on, and whether it advanced. -/
def clAckList (q : Nat) (nak : Bool) (l : List ClCell) : List ClCell × Bool :=
  if l.any (fun c => c.seq == q) then
    if nak then ((l.dropWhile (fun c => c.seq != q)).map (fun c => { c with again := true }), l.head?.any (fun c => c.seq != q))
    else ((l.dropWhile (fun c => c.seq != q)).drop 1, true)
  else (l, false)

/-- A cell has been resent 8 times without being acknowledged. -/
def clWorn (l : List ClCell) : Bool := l.any (fun c => c.again && decide (9 ≤ c.sends))

/-- ACK on a Cloton port (R410, R411). -/
def State.clAck (s : State) (x : ClPort) (w : Word) : State :=
  if s.isUp (.cl x) && s.frameIn (.cl x) then
    let c := s.clp x
    let herd := w.toNat.testBit 11
    let (l, adv) := clAckList (wbits w 9 0) (w.toNat.testBit 10) (if herd then c.hUnack else c.unack)
    let s := s.updCl x (fun c =>
      if herd then { c with hUnack := l, hAckAt := if adv then s.ticks else c.hAckAt }
      else { c with unack := l, ackAt := if adv then s.ticks else c.ackAt })
    if clWorn l then s.clLoss x else s
  else s

/-- ACK (R253, R411). -/
def execAck (e : LinkEnd) (w : Word) (s : State) : Res :=
  match e with
  | .al n => .next (s.alAck n w)
  | .cl x => .next (s.clAck x w)

/-- REPLAY_TIMEOUT on a Cloton port (R253, R411): 4,096 Tc without an ACK that advances resend every cell of that kind. -/
def State.clReplay (s : State) (x : ClPort) : State :=
  let c := s.clp x
  let again (l : List ClCell) : List ClCell := l.map (fun c => { c with again := true })
  let m := s.isUp (.cl x) && !c.unack.isEmpty && decide (c.ackAt + 4096 ≤ s.ticks)
  let h := s.isUp (.cl x) && !c.hUnack.isEmpty && decide (c.hAckAt + 4096 ≤ s.ticks)
  let s := if m then s.updCl x (fun c => { c with unack := again c.unack, ackAt := s.ticks }) else s
  let s := if h then s.updCl x (fun c => { c with hUnack := again c.hUnack, hAckAt := s.ticks }) else s
  if clWorn (s.clp x).unack || clWorn (s.clp x).hUnack then s.clLoss x else s

/-- REPLAY_TIMEOUT (R253, R411). -/
def execReplayTimeout (e : LinkEnd) (s : State) : Res :=
  match e with
  | .al n => .next (s.alReplay n)
  | .cl x => .next (s.clReplay x)

/-! ## Calibration (R256, R412) -/

/-- A calibration request of a Cloton port: DLY_REQ with a new ID. -/
def State.clCalibrate (s : State) (x : Nat) : State :=
  let id := ((s.clp x).calId + 1) % 65536
  (s.updCl x (fun c => { c with calId := id, calWait := true, calAt := s.ticks })).clCtl x [BitVec.ofNat 64 (6 * 2 ^ 60 + id)]

/-- CLOTON_CALIBRATION (R412): every CL_PORTx_CALPER frames; 0 acts as 1,024. -/
def execClotonCalibration (x : ClPort) (s : State) : Res :=
  let f := s.fld (Reg.CL_PORT_CALPER x) F.CL_PORT_CALPER_FRAMES
  let per := if f = 0 then 1024 else f
  if s.isUp (.cl x) = true ∧ (s.clp x).calAt + 32 * per ≤ s.ticks then .next (s.clCalibrate x) else .next s

/-- DLY_RSP on a Cloton port (R256, R412): `ago` is the time, in 1/65,536 Tc, since the start of its slot crossed the receive
plane. -/
def State.clDlyRsp (s : State) (x : ClPort) (w : Word) (ago : Nat) : State :=
  let c := s.clp x
  if s.on 5 ∧ 4 ≤ s.tstate (.cl x) ∧ s.frameIn (.cl x) = true ∧ c.calWait = true ∧ wbits w 47 32 = c.calId then
    let t4 : Int := (s.ticks : Int) * 65536 - ago
    let rtt := uInt 32 (t4 - (c.calT1 : Int) - (wbits w 31 0 : Nat))
    let owd : Int := sNat 32 (uInt 32 (halfEven rtt + sNat 32 (s.fld (Reg.CL_PORT_ASYM x) F.CL_PORT_ASYM_ASYM)))
    let old : Int := sNat 32 (s.fld (Reg.CL_PORT_OWD x) F.CL_PORT_OWD_OWD)
    let far := c.calEver && decide (16384 < (owd - old).natAbs)
    let s := (s.setFld (Reg.CL_PORT_RTD x) F.CL_PORT_RTD_RTT rtt).setFld (Reg.CL_PORT_OWD x) F.CL_PORT_OWD_OWD (uInt 32 owd)
    let s := s.updCl x (fun c => { c with calWait := false, calOk := true, calEver := true })
    if far then s.linkTiming (.cl x) 1 else s
  else s

/-- DLY_RSP (R256, R412). -/
def execDlyRsp (e : LinkEnd) (w : Word) (ago : Nat) (s : State) : Res :=
  match e with
  | .al n => .next (s.alDlyRsp n w ago)
  | .cl x => .next (s.clDlyRsp x w ago)

/-- DLY_RSP_MISSING on a Cloton port (R256, R257): in Calibrate it fails training. -/
def State.clDlyMissing (s : State) (x : ClPort) : State :=
  let c := s.clp x
  if c.calWait = true ∧ c.calT1 ≠ 0 ∧ c.calT1 + 32768 * 65536 ≤ s.ticks * 65536 then
    if s.tstate (.cl x) = 4 then s.trainFail (.cl x) else s.updCl x (fun c => { c with calWait := false })
  else s

/-- DLY_RSP_MISSING (R257). -/
def execDlyRspMissing (e : LinkEnd) (s : State) : Res :=
  match e with
  | .al n => .next (s.alDlyMissing n)
  | .cl x => .next (s.clDlyMissing x)

/-- DLY_REQ (R256, R412): the request of the other end; TURN runs from the arrival of its slot, `ago` before now in 1/65,536
Tc, to the slot that carries the answer. -/
def execDlyReq (x : ClPort) (w : Word) (ago : Nat) (s : State) : Res :=
  if s.on 5 = true ∧ 4 ≤ s.tstate (.cl x) ∧ s.frameIn (.cl x) = true ∧ wbits w 63 60 = 6 then
    .next (s.updCl x (fun c => { c with dly := c.dly ++ [(wbits w 15 0, s.ticks * 65536 - ago)] }))
  else .next s

/-! ## Lane sparing asked for by the other end (R259, R412) -/

/-- SPARE (R259, R412): PREP powers lane 4 and READY is answered once it is locked, GO moves the lane at the slot with its
FCNT, ABORT gives the swap up. -/
def execSpare (x : ClPort) (w : Word) (s : State) : Res :=
  let l := 2 * wbits w 51 51 + wbits w 57 57
  if s.isUp (.cl x) = true ∧ s.frameIn (.cl x) = true ∧ wbits w 63 60 = 0xB ∧ wbits w 56 52 = 4 ∧ s.flag (Reg.CL_PORT_STAT x) F.CL_PORT_STAT_SPARE_USED = false then
    match wbits w 59 58 with
    | 0 =>
      if (s.clp x).swap.isSome then .next s
      else .next ((s.updCl x (fun c => { c with swap := some ⟨l, 4, s.ticks, none⟩ })).clCtl x [clSpareWord 1 l 0])
    | 2 =>
      match (s.clp x).swap with
      | some ⟨k, p, t, none⟩ =>
        -- the slot with the FCNT named, counted from the slot that carried GO
        let n := (wbits w 7 0 + 256 - (s.clp x).rxFcnt % 256) % 256
        .next (s.updCl x (fun c => { c with swap := some ⟨k, p, t, some (s.ticks + 32 * n)⟩ }))
      | _ => .next s
    | 3 => .next (s.updCl x (fun c => { c with swap := none }))
    | _ => .next s
  else .next s

end Sys2Proof.Machine
end

