-- ==== Sys2Proof/Machine/Twin.lean ====
section
/-! DEFINITION. Twin pairs and herds: heartbeats, pairing, mirroring, sync, takeover, switchover, herd commits, digests and
the herd's time (14). -/

namespace Sys2Proof.Machine

/-! ## Pairing (R405, R406) -/

/-- The opposite twin role (R405). -/
def otherRole (r : Nat) : Nat := 3 - r

/-- The state of the pair as R405 gives it for a peer of the opposite role. -/
def State.pairNow (s : State) : Nat :=
  let pm := s.fld Reg.TW_STAT F.TW_STAT_PEER_MODE
  let act (m : Nat) : Bool := m == 5 || m == 6 || m == 9
  if s.sourceSide then
    if act s.mode && pm == 7 && s.tw.peerSync && s.tw.syncSent then 2
    else if (act s.mode || s.mode == 4 || s.mode == 8) && (pm == 4 || (pm == 7 && !(s.tw.peerSync && s.tw.syncSent))) then 1
    else 3
  else if s.mode = 7 ∧ s.synced = true then (if act pm then 2 else 3)
  else if (s.mode = 4 ∨ s.mode = 7) ∧ s.flag Reg.TW_CTRL F.TW_CTRL_JOIN = true ∧ s.tw.left = false ∧ (pm = 4 ∨ serving pm = true) then 1
  else 3

/-- PAIR follows from what the last HEARTBEAT of the peer says. -/
def State.evalPair (s : State) : State :=
  if s.role = 0 ∨ s.fld Reg.TW_STAT F.TW_STAT_PEER_ROLE ≠ otherRole s.role then s.setPair 0 else s.setPair s.pairNow

/-- A twin's peer has the same role or is solo (R405): raised when it is first seen so. -/
def State.roleClash (s : State) (seen : Bool) (was : Nat) : State :=
  let r := s.fld Reg.TW_STAT F.TW_STAT_PEER_ROLE
  if s.role ≠ 0 ∧ r ≠ otherRole s.role ∧ (seen = false ∨ r ≠ was) then s.evTw 6 else s

/-! ## Sync on the target (R421) -/

/-- The device applies mirror records: it is a target or a standby, and has not left (R417, R430). -/
def State.applies (s : State) : Bool := s.isTarget && !s.tw.left

/-- Sync is complete when digests and Timekeeper states are equal (R421): SYNC becomes 1, and a target in Ready enters
Twin-Standby. -/
def State.trySync (s : State) : State :=
  match s.tw.syncDone with
  | some (st, d) =>
    if s.applies = true ∧ s.pair = 1 ∧ s.synced = false ∧ s.flag Reg.TW_CTRL F.TW_CTRL_JOIN = true ∧ s.tlState = st ∧
        d = s.genDigest s.gen [] then
      let s := (s.setFld Reg.TW_STAT F.TW_STAT_SYNC 1).updTw (fun t => { t with syncDone := none })
      -- the generation that the target now holds is the source's
      let s := (s.wrW Reg.UM_GEN_SEQ (BitVec.ofNat 64 (s.clp 0).peerGen)).wrWide Reg.UM_GEN_DIGEST (wordsOf 6 d)
      let s := s.evTw 7
      (if s.mode = 4 then s.setMode 7 0x08 else s).evalPair
    else s
  | none => s

/-- Time taken from a HEARTBEAT whose slot began `ago` before now in 1/65,536 Tc (R421): as a TL_SET with FORCE, when the
device has no time or differs by more than 1 Tc. -/
def State.takeTime (s : State) (w1 : Word) (ago : Nat) : State :=
  let owd : Int := sNat 32 (s.fld (Reg.CL_PORT_OWD 0) F.CL_PORT_OWD_OWD)
  let want : Int := tlDiff (tlCount w1) s.now * 65536 + owd + ago
  if s.flag Reg.TL_STATE F.TL_STATE_HAS_TIME = false ∨ 65536 < want.natAbs then s.moveTime want false else s

/-! ## Takeover (R414, R415, R424 to R426) -/

/-- Entry to Takeover (R424). -/
def State.takeoverEntry (s : State) : State :=
  let own := s.fld Reg.TW_EPOCH F.TW_EPOCH_EPOCH
  let peer := s.fld Reg.TW_EPOCH F.TW_EPOCH_PEER
  let e := if epochHigher peer own then peer else own
  let s := s.setFld Reg.TW_EPOCH F.TW_EPOCH_EPOCH ((e + 1) % 65536)
  let s := (s.setMode 8 0x11).setPair 3
  let s := (s.wrW Reg.TW_TAKEOVER_AT (tlOf s.now)).evTw 1
  let s := if s.genState = 1 then s.closeGen else s
  let s := s.updTw (fun t => { t with takeover := some s.ticks, syncSent := false })
  if s.isUp (.cl 0) then s.queueRec 0xA (leBytes 2 ((e + 1) % 65536) ++ [0, 0]) else s

/-- A HEARTBEAT with YIELD leaves in C0's next slot, where C0 is Up (R415). -/
def State.yieldSend (s : State) : State :=
  if s.isUp (.cl 0) then ((s.updTw (fun t => { t with yield := true })).updCl 0 (fun c => { c with hbDue := true })).clSlot 0 else s

/-- The device is an Active twin. -/
def State.activeTwin (s : State) : Bool := s.role != 0 && (s.mode == 5 || s.mode == 6 || s.mode == 9)

/-- The YIELD of R415 before a transition that ends the device's service. -/
def State.yieldFirst (s : State) : State := if s.activeTwin then s.yieldSend else s

/-- A channel's entry in the takeover report (R426). -/
def State.viewEntry (s : State) (c : Nat) (v : ChanView) : ReportEntry :=
  ⟨c, leBytes 2 c ++ [BitVec.ofNat 8 v.state, BitVec.ofNat 8 v.code] ++ leBytes 4 v.retired ++ leBytes 8 v.cur.toNat ++
    leBytes 4 v.moved ++ leBytes 4 0 ++ leBytes 4 0 ++
    [BitVec.ofNat 8 (v.flags % 8 * 2 + bitsOf v.flags 3 3 * 16 + bitsOf v.flags 5 5 * 32), if v.state = 0 ∨ v.state = 8 then 0 else 1] ++
    leBytes 2 (if s.flag (Reg.DMA_OWN c) F.DMA_OWN_EN then s.chSlice c else 0xFFFF)⟩

/-- TAKEOVER_COMPLETE (R425, R426): at a slot boundary the device enters Run with its stored takeover report. -/
def execTakeoverComplete (s : State) : Res :=
  if s.mode = 8 ∧ s.now % 32 = 0 then
    let at_ : Word := if s.tlKnown then s.rdW Reg.TW_TAKEOVER_AT else 0
    let s := s.updUm (fun u => { u with report := some ⟨at_, 2, s.tw.views.map (fun e => s.viewEntry e.1 e.2)⟩ })
    let s := (s.updTw (fun t => { t with takeover := none })).setMode 5 0x12
    .next (((s.evUm 10).evTw 2).evalPair)
  else .next s

/-- Entry to Twin-Standby by step-down or switchover (R416, R429): channels end, nothing more is released, and SYNC is 0. -/
def State.enterStandby (s : State) : State :=
  let s := s.cutWork
  let s := (s.setFld Reg.TW_STAT F.TW_STAT_SYNC 0).updTw (fun t => { t with higher := false, syncSent := false, swo := none, syncDone := none })
  ((s.setMode 7 0x13).evTw 3).evalPair

/-- EPOCH_STEP_DOWN (R43, R416): a twin in Run, Run-Shed or Drain that has seen a higher epoch. The MODE_SET of a Drain, and a
switchover, are answered MODE_REFUSED. -/
def execEpochStepDown (s : State) : Res :=
  if s.activeTwin = true ∧ s.tw.higher = true then
    let m := s.um.mode
    let sw := s.tw.swo
    let s := s.enterStandby.updUm (fun u => { u with mode := none })
    let s := match m with
      | some r => (s.modeFinal r.hdr stModeRefused).cancelFinals r.cancel
      | none => s
    .next (match sw with
      | some w => s.final w.hdr 0x0901 stModeRefused noDetail []
      | none => s)
  else .next s

/-! ## Heartbeats (R413, R414) -/

/-- Slot `n` carries a heartbeat instant (R413). -/
def hbSlot (n : Nat) : Bool :=
  let m := n % 614400 + 614400
  25 * m / 1536 != 25 * (m - 1) / 1536

/-- MISS_LIMIT; values below 4 act as 4. -/
def State.missLimit (s : State) : Nat := max 4 (s.fld Reg.TW_CFG F.TW_CFG_MISS_LIMIT)

/-- The miss test of a twin at its heartbeat instant (R414). -/
def State.missTest (s : State) : State :=
  let n := s.fld Reg.TW_STAT F.TW_STAT_MISS
  if s.role = 0 then s
  else if (s.clp 0).hbSeen then s.setFld Reg.TW_STAT F.TW_STAT_MISS 0
  else
    let s := s.setFld Reg.TW_STAT F.TW_STAT_MISS (min 31 (n + 1))
    if s.mode = 7 ∧ s.synced = true ∧ s.missLimit ≤ n + 1 then s.takeoverEntry
    else if n + 1 = s.missLimit then (s.setPair 0).evTw 4
    else s

/-- Every Up Cloton port owes a HEARTBEAT. -/
def State.hbOwe : State → List Nat → State
  | s, [] => s
  | s, x :: xs =>
    (if s.fld (Reg.CL_PORT_STAT x) F.CL_PORT_STAT_TSTATE = 5 then s.updCl x (fun c => { c with hbDue := true }) else s).hbOwe xs

/-- CHAN records of the channels that changed since the last heartbeat instant (R418). -/
def State.flushChans (s : State) : State :=
  let cs := s.tw.dirty
  let s := s.updTw (fun t => { t with dirty := [] })
  if s.mirrors then s.updCl 0 (fun c => { c with chan := c.chan ++ cs.map s.chanRec }) else s

/-- HEARTBEAT_INSTANT (R413, R414, R418). -/
def execHeartbeatInstant (s : State) : Res :=
  if s.on 2 = true ∧ s.now % 32 = 0 ∧ hbSlot (s.now / 32) = true ∧ 4 ≤ s.mode then
    let s := ((s.hbOwe [0, 1, 2, 3]).flushChans).missTest
    .next (s.updCl 0 (fun c => { c with hbSeen := false }))
  else .next s

/-- What a HEARTBEAT says of a herd neighbour (R432). -/
def State.herdHeart (s : State) (x : ClPort) (w : Word) : State :=
  let k := Reg.CL_PORT_STAT x
  let a := wbits w 51 40
  let new := !s.flag k F.CL_PORT_STAT_NBR_VALID || s.fld k F.CL_PORT_STAT_NBR_ADDR != a
  let s := (s.setFld k F.CL_PORT_STAT_NBR_ADDR a).setFld k F.CL_PORT_STAT_NBR_VALID 1
  if x.val ≠ 0 ∧ new = true ∧ w.toNat.testBit 39 = true ∧ s.flag Reg.CL_HERD_CFG F.CL_HERD_CFG_EN = true ∧
      a = s.fld Reg.CL_HERD_CFG F.CL_HERD_CFG_ADDR then s.evTw 11 else s

/-- HEARTBEAT (R405, R410, R414, R421, R432): the peer's state on C0, or a neighbour's elsewhere. -/
def execHeartbeat (x : ClPort) (w0 w1 : Word) (ago : Nat) (s : State) : Res :=
  if s.isUp (.cl x) = true ∧ s.frameIn (.cl x) = true ∧ wbits w0 63 60 = 0xC then
    let s := (s.herdHeart x w0).updCl x (fun c => { c with nbrHb := s.ticks, peerGen := wbits w0 31 0, hbSeen := true })
    if x.val ≠ 0 then .next s
    else
      let k := Reg.TW_STAT
      let seen := s.flag k F.TW_STAT_PEER_SEEN
      let was := s.fld k F.TW_STAT_PEER_ROLE
      let unpaired := s.pair ≠ 1
      let s := ((s.setFld k F.TW_STAT_PEER_MODE (wbits w0 59 56)).setFld k F.TW_STAT_PEER_ROLE (wbits w0 55 54)).setFld k F.TW_STAT_PEER_SEEN 1
      let s := (s.updTw (fun t => { t with peerSync := w0.toNat.testBit 53 })).roleClash seen was
      if w0.toNat.testBit 52 = true ∧ s.mode = 7 ∧ s.synced = true ∧ s.role ≠ 0 then .next s.takeoverEntry
      else
        let s := s.evalPair
        let s := if unpaired ∧ s.pair = 1 then s.updTw (fun t => { t with syncSent := false }) else s
        let s := if s.applies = true ∧ s.pair = 1 ∧ tlValid w1 = true then s.takeTime w1 ago else s
        .next s.trySync
  else .next s

/-! ## Mirror records (R417 to R421) -/

/-- A mirror cell of kind `k` on C0: the state after its sequence test, and its record bytes if it is taken. -/
def State.mirrorRx (s : State) (k : Nat) (hdr : BitVec 32) (body : List Byte) : State × Option (List Byte) :=
  if bitsOf hdr.toNat 31 28 ≠ k then (s, none)
  else
    let (s, ok) := s.clTake 0 false (bitsOf hdr.toNat 27 18)
    (s, if ok then some (body.take (bitsOf hdr.toNat 5 0)) else none)

/-- Whole records of `n` bytes. -/
def records (n : Nat) : Nat → List Byte → List (List Byte)
  | 0, _ => []
  | f + 1, bs => if bs.length < n then [] else bs.take n :: records n f (bs.drop n)

/-- STAGED_WR records applied to the staged image; a sync's records open it where the source's is open. -/
def State.stagedRecs : State → List (List Byte) → State
  | s, [] => s
  | s, r :: rs =>
    let k := leAt r 0 4
    let s := if s.genState = 0 then s.openGen 0 else s
    (if s.genState = 1 then s.stage k (BitVec.ofNat 64 (leAt r 4 8) &&& rwgMask k) else s).stagedRecs rs

/-- STAGED_WR (R418). -/
def execStagedWr (hdr : BitVec 32) (body : List Byte) (s : State) : Res :=
  let (s, r) := s.mirrorRx 1 hdr body
  match r with
  | some bs => if s.applies then .next (s.stagedRecs (records 12 60 bs)) else .next s
  | none => .next s

/-- SHADOW_WR (R418): written to the shadow half of the same group. -/
def execShadowWr (hdr : BitVec 32) (body : List Byte) (s : State) : Res :=
  let (s, r) := s.mirrorRx 2 hdr body
  match r with
  | some bs =>
    let g := leAt bs 0 1
    if s.applies = true ∧ g < 12 then .next (s.access g (.write none (8 * leAt bs 4 4) ((bs.drop 8).map some) [])) else .next s
  | none => .next s

/-- One GEN_CMD record (R417, R418). -/
def State.genRec (s : State) (r : List Byte) : State :=
  let g := leAt r 1 1
  match leAt r 0 1 with
  | 1 => s.openGen 0
  | 2 => if s.genState = 1 then s.closeGen else s
  | 3 => s.disarm
  | 4 => if g < 12 then s.access g .sync else s
  | 5 => if g < 12 then s.access g (.restore none) else s
  | _ => s

/-- GEN_CMD records in order. -/
def State.genRecs : State → List (List Byte) → State
  | s, [] => s
  | s, r :: rs => (s.genRec r).genRecs rs

/-- GEN_CMD (R418). -/
def execGenCmd (hdr : BitVec 32) (body : List Byte) (s : State) : Res :=
  let (s, r) := s.mirrorRx 3 hdr body
  match r with
  | some bs => if s.applies then .next (s.genRecs (records 4 15 bs)) else .next s
  | none => .next s

/-- COMMIT_ACK's bytes (R417). -/
def ackRec (seq result : Nat) (digest : List Byte) : List Byte := leBytes 4 seq ++ leBytes 1 result ++ List.replicate 7 0 ++ digest

/-- COMMIT (R419): the standby freezes its staged image for the same AT; without an open one it answers that its check
failed. -/
def execCommit (hdr : BitVec 32) (body : List Byte) (s : State) : Res :=
  let (s, r) := s.mirrorRx 4 hdr body
  match r with
  | some bs =>
    if s.applies then
      let t := tlCount (BitVec.ofNat 64 (leAt bs 0 8))
      if s.genState = 1 then .next (s.arm none t (leAt bs 8 4) false [] ((bs.drop 12).take 48) false)
      else
        let s := s.updCl 0 (fun c => { c with commit := c.commit ++
          [{ kind := 5, bytes := ackRec (leAt bs 8 4) 2 (s.genDigest s.staged []), tc := s.ticks }] })
        .next (s.setFld Reg.TW_STAT F.TW_STAT_SYNC 0)
    else .next s
  | none => .next s

/-- The source commits alone (R419): TW_MIRROR, and a sync afresh. -/
def State.commitAlone (s : State) (a : Armed) : State :=
  let s := (s.updUm (fun u => { u with armed := some { a with peerAck := none } })).updTw (fun t => { t with syncSent := false })
  (s.evTw 5).armDone

/-- COMMIT_ACK (R419). -/
def execCommitAck (hdr : BitVec 32) (body : List Byte) (s : State) : Res :=
  let (s, r) := s.mirrorRx 5 hdr body
  match r, s.um.armed with
  | some bs, some a =>
    if s.isSource = true ∧ a.peerAck.isSome = true ∧ leAt bs 0 4 = a.seq then
      if leAt bs 4 1 = 0 then .next (s.updUm (fun u => { u with armed := some { a with peerAck := none } })).armDone
      else .next (s.commitAlone a)
    else .next s
  | _, _ => .next s

/-- COMMIT_ACK_TIMEOUT (R419): 98,304 Tc since acceptance. -/
def execCommitAckTimeout (s : State) : Res :=
  match s.um.armed with
  | some a =>
    match a.peerAck with
    | some t => if t + 98304 ≤ s.ticks then .next (s.commitAlone a) else .next s
    | none => .next s
  | none => .next s

/-- A channel's registers on a standby (R420): RETIRED, CUR and CODE as mirrored, STATE Error or Idle, and every other field
at its after-reset value. -/
def State.showChan (s : State) (c : Nat) (v : ChanView) : State :=
  let base := Reg.DMA_SRC c
  let s := s.keepRegs (fun k => !(decide (base ≤ k ∧ k < base + 0x80)))
  let s := (s.wrW (Reg.DMA_RETIRED c) (BitVec.ofNat 64 v.retired)).wrW (Reg.DMA_CUR c) v.cur
  let s := s.setFld (Reg.DMA_STAT c) F.DMA_STAT_CODE v.code
  (s.updTw (fun t => { t with views := SMap.put {} t.views c v })).setFld (Reg.DMA_STAT c) F.DMA_STAT_STATE (if v.state = 8 then 8 else 0)

/-- CHAN records in order (R417, R420). -/
def State.chanRecs : State → List (List Byte) → State
  | s, [] => s
  | s, r :: rs =>
    let h := leAt r 0 2
    let v : ChanView := { state := h / 4096, code := leAt r 2 1, flags := leAt r 3 1, retired := leAt r 4 4,
                          cur := BitVec.ofNat 64 (leAt r 8 8), moved := leAt r 16 4 }
    (s.showChan (h % 4096) v).chanRecs rs

/-- CHAN (R420). -/
def execChan (hdr : BitVec 32) (body : List Byte) (s : State) : Res :=
  let (s, r) := s.mirrorRx 6 hdr body
  match r with
  | some bs => if s.applies then .next (s.chanRecs (records 20 3 bs)) else .next s
  | none => .next s

/-- A register of the active image set by a sync; a changed pail loses its blocks (R182), a port's EN acts as in R254. -/
def State.syncRegOne (s : State) (k : Nat) (w : Word) : State :=
  let was := s.gen
  let p := (k - Reg.VAT_PAIL_A 0) / 64
  let inPails := decide (Reg.VAT_PAIL_A 0 ≤ k ∧ p < 16384)
  let s := if inPails ∧ s.rdG k ≠ w ∧ s.pailEn p = true then
      (s.dropAll p (s.pail p).blocks).updPail p PailRt.dropped
    else s
  let s := s.wrG k w
  let n := (k - Reg.AL_CTRL 0) / (Reg.AL_CTRL 1 - Reg.AL_CTRL 0)
  if k = Reg.AL_CTRL n ∧ n < 96 then s.portsEn was [n] else s

/-- SYNC_REG records in order. -/
def State.syncRecs : State → List (List Byte) → State
  | s, [] => s
  | s, r :: rs => (s.syncRegOne (leAt r 0 4) (BitVec.ofNat 64 (leAt r 4 8) &&& rwgMask (leAt r 0 4))).syncRecs rs

/-- SYNC_REG (R421): applied to the active image; the target is not in sync until the pass ends. -/
def execSyncReg (hdr : BitVec 32) (body : List Byte) (s : State) : Res :=
  let (s, r) := s.mirrorRx 7 hdr body
  match r with
  | some bs =>
    if s.applies = true ∧ s.flag Reg.TW_CTRL F.TW_CTRL_JOIN = true then
      .next (((s.setFld Reg.TW_STAT F.TW_STAT_SYNC 0).updTw (fun t => { t with syncDone := none })).syncRecs (records 12 60 bs))
    else .next s
  | none => .next s

/-- Words of a weight half from word `i`. -/
def putWords : SMap Word → Nat → List Word → SMap Word
  | m, _, [] => m
  | m, i, w :: ws => putWords (if i < 131072 then SMap.put 0 m i (w &&& weightMask i) else m) (i + 1) ws

/-- SYNC_WT (R421): applied to the active half. -/
def execSyncWt (hdr : BitVec 32) (body : List Byte) (s : State) : Res :=
  let (s, r) := s.mirrorRx 8 hdr body
  match r with
  | some bs =>
    let g := leAt bs 0 1
    if s.applies = true ∧ g < 12 ∧ s.flag Reg.TW_CTRL F.TW_CTRL_JOIN = true then
      .next ((s.windowUnits g).foldl (fun s u => s.updUnit u (fun x =>
        { x with active := putWords x.active (leAt bs 4 4) (wordsOf (bs.length / 8 - 1) (bs.drop 8)) })) s)
    else .next s
  | none => .next s

/-- The weight digests of a target after a pass (R151, R398, R421): a group whose active half holds weights has them in
force. -/
def State.syncDigests : State → List Nat → State
  | s, [] => s
  | s, g :: gs =>
    let half := (s.unit (s.groupUnit g)).active
    (if half.isEmpty then s
     else
      let s := s.wrWide (Reg.CH_WB_DIGEST g) (wordsOf 6 (sha384 (halfBytes half)))
      (s.setFld (Reg.CH_WB_STATUS g) F.CH_WB_STATUS_ABSENT 0).updGrp g (fun r => { r with exchanged := true })).syncDigests gs

/-- SYNC_DONE (R421): the end of a pass; `srcState` is the state of the source's Timekeeper. -/
def execSyncDone (hdr : BitVec 32) (body : List Byte) (srcState : Fin 4) (s : State) : Res :=
  let (s, r) := s.mirrorRx 9 hdr body
  match r with
  | some bs =>
    if s.applies = true ∧ s.flag Reg.TW_CTRL F.TW_CTRL_JOIN = true then
      .next ((s.syncDigests (List.range 12)).updTw (fun t => { t with syncDone := some (srcState, (bs.drop 8).take 48) })).trySync
    else .next s
  | none => .next s

/-- TW_CTRL_PEER_RESET (R427): a write of TW_CTRL.PEER_RESET sends PEER_RESET on C0. -/
def State.sendPeerReset (s : State) : State :=
  if s.isUp (.cl 0) then s.queueRec 0xA (leBytes 2 (s.fld Reg.TW_EPOCH F.TW_EPOCH_EPOCH) ++ [0, 0]) else s

/-- TW_CTRL_PEER_RESET. -/
def execTwCtrlPeerReset (s : State) : Res := .next s.sendPeerReset

/-- TW_CTRL.RESYNC (R430): a sync begins again. -/
def State.resyncTwin (s : State) : State :=
  if s.role = 0 then s
  else if s.isSource then ((s.updTw (fun t => { t with syncSent := false })).evTw 5).evalPair
  else (((s.setFld Reg.TW_STAT F.TW_STAT_SYNC 0).updTw (fun t => { t with left := false, syncDone := none })).evTw 5).evalPair

/-- TW_CTRL_RESYNC. -/
def execTwCtrlResync (s : State) : Res := .next s.resyncTwin

/-! ## Commands of category 0x09 (R401, R404, R429, R432) -/

/-- TW_ROLE_SET (R404). -/
def execTwRoleSet (h : UmHdr) (p : List Byte) (s : State) : Res :=
  s.umRun h 0x0900 p.length (fun s =>
    if 2 < leAt p 0 1 then s.refuse h 0x0900 stBadParam
    else if s.mode ≠ 4 ∧ s.mode ≠ 0xD then s.refuse h 0x0900 stRoleRefused
    else
      let s := s.setFld Reg.TW_ROLE F.TW_ROLE_ROLE (leAt p 0 1)
      let s := if s.flag Reg.TW_STAT F.TW_STAT_PEER_SEEN = true ∧ s.isUp (.cl 0) = true then s.evalPair else s.setPair 0
      (s.rtAll).reply h 0x0900 stOK [])

/-- TW_SWITCHOVER (R429): channels are stopped as in Drain while the mode stays Run. -/
def execTwSwitchover (h : UmHdr) (p : List Byte) (s : State) : Res :=
  s.umRun h 0x0901 p.length (fun s =>
    if s.role = 0 ∨ ¬ (s.mode = 5 ∨ s.mode = 6) ∨ s.pair ≠ 2 then s.refuse h 0x0901 stRoleRefused
    else if s.tw.swo.isSome then s.refuse h 0x0901 stModeBusy
    else
      let s := (s.accept h 0x0901 []).updTw (fun t => { t with swo := some ⟨h, s.ticks⟩ })
      s.dmaStops (s.liveChans.filter (fun c => s.chBusy c)))

/-- C0's slots go out until no CHAN record waits. -/
def State.flushSlots : Nat → State → State
  | 0, s => s
  | n + 1, s => if (s.clp 0).chan.isEmpty || !s.isUp (.cl 0) then s else (s.clSlot 0).flushSlots n

/-- SWITCHOVER_HANDOFF (R429): at the earlier of idle channels and the limit, channels end, CHAN records go out, YIELD is sent
and the device becomes the standby. -/
def execSwitchoverHandoff (s : State) : Res :=
  match s.tw.swo with
  | some w =>
    if (s.mode = 5 ∨ s.mode = 6) ∧
        (s.liveChans.all (fun c => !s.chBusy c) = true ∨ w.start + s.fld Reg.TW_SWO_LIMIT F.TW_SWO_LIMIT_TC ≤ s.ticks) then
      let s := s.endChans (s.liveChans.filter (fun c => s.chBusy c)) 9
      let s := (s.flushChans.flushSlots 64).yieldSend
      .next (s.enterStandby.final w.hdr 0x0901 stOK noDetail [])
    else .next s
  | none => .next s

/-- TW_LAG (R440): the age of the oldest unacknowledged mirror cell. -/
def State.twLag (s : State) : Nat :=
  match (s.clp 0).unack with
  | c :: _ => min (s.ticks - c.tc) 0xFFFFFFFF
  | [] => 0

/-- TW_STATUS (R401): TW_STAT, TW_EPOCH and TW_LAG. -/
def execTwStatus (h : UmHdr) (p : List Byte) (s : State) : Res :=
  s.umRun h 0x0902 p.length (fun s =>
    s.reply h 0x0902 stOK (leBytes 4 (s.regVal Reg.TW_STAT).toNat ++ leBytes 4 (s.rdW Reg.TW_EPOCH).toNat ++ leBytes 4 s.twLag))

/-- HERD_ADDR_SET (R432). -/
def execHerdAddrSet (h : UmHdr) (p : List Byte) (s : State) : Res :=
  s.umRun h 0x0903 p.length (fun s =>
    if 4095 < leAt p 0 2 then s.refuse h 0x0903 stBadParam
    else
      let t := s.setFld Reg.CL_HERD_CFG F.CL_HERD_CFG_ADDR (leAt p 0 2)
      (if s.fld Reg.CL_HERD_CFG F.CL_HERD_CFG_ADDR = leAt p 0 2 then t else t.rtAll).reply h 0x0903 stOK [])

/-- HERD_STATUS (R401): CL_HERD_CFG, and CL_PORTx_STAT, CL_PORTx_RTD and CL_PORTx_OWD of each port. -/
def execHerdStatus (h : UmHdr) (p : List Byte) (s : State) : Res :=
  s.umRun h 0x0904 p.length (fun s =>
    s.reply h 0x0904 stOK (leBytes 4 (s.rdW Reg.CL_HERD_CFG).toNat ++ (List.range 4).flatMap (fun x =>
      leBytes 4 (s.rdW (Reg.CL_PORT_STAT x)).toNat ++ leBytes 4 (s.rdW (Reg.CL_PORT_RTD x)).toNat ++
        leBytes 4 (s.rdW (Reg.CL_PORT_OWD x)).toNat)))

/-- CL_CAL (R401): DLY_REQ in the port's next control cell. -/
def execClCal (h : UmHdr) (p : List Byte) (s : State) : Res :=
  s.umRun h 0x0905 p.length (fun s =>
    if 3 < leAt p 0 1 then s.refuse h 0x0905 stBadParam
    else if s.on 5 = false then s.refuse h 0x0905 stDomainBusy
    else (if s.fld (Reg.CL_PORT_STAT (leAt p 0 1)) F.CL_PORT_STAT_TSTATE = 5 then s.clCalibrate (leAt p 0 1) else s).reply h 0x0905 stOK [])

/-! ## Herds (R432 to R438) -/

/-- A herd cell of kind `k` on port `x`: AT and digest, if its sequence test takes it. -/
def State.herdRx (s : State) (x : ClPort) (k : Nat) (hdr : BitVec 32) (body : List Byte) : State × Option (Nat × List Byte) :=
  if bitsOf hdr.toNat 31 28 ≠ k ∨ x.val = 0 then (s, none)
  else
    let (s, ok) := s.clTake x true (bitsOf hdr.toNat 27 18)
    (s, if ok then some (tlCount (BitVec.ofNat 64 (leAt body 0 8)), (body.drop 8).take 48) else none)

/-- HREADY (R437): a neighbour's AT and digest. -/
def execHready (x : ClPort) (hdr : BitVec 32) (body : List Byte) (s : State) : Res :=
  let (s, r) := s.herdRx x 1 hdr body
  match r with
  | some e => .next (s.updCl x (fun c => { c with hready := some e }))
  | none => .next s

/-- The hop of a herd cell from `x`, whose slot began to arrive at Tc `r`, to `y` (R434). -/
def State.hop (s : State) (x y r : Nat) : Nat × Nat :=
  let w := (s.fld (Reg.CL_PORT_STAT y) F.CL_PORT_STAT_PHASE + 40 - s.fld (Reg.CL_PORT_STAT x) F.CL_PORT_STAT_RXPHASE) % 32
  (r + 312 + w, w)

/-- HABORT (R434, R437): before AT it aborts a matching herd commit and is forwarded on every other port of the commit; at or
after AT it is counted as late. `ago`: Tc since its slot began to arrive. -/
def execHabort (x : ClPort) (hdr : BitVec 32) (body : List Byte) (ago : Nat) (s : State) : Res :=
  let (s, r) := s.herdRx x 2 hdr body
  match r with
  | some (t, d) =>
    if s.tw.hready = some (t, d) then
      if tlReached s.now t then .next ((s.cnt Reg.CL_ABORT_LATE).evTw 13)
      else
        match s.um.armed with
        | some a =>
          let ys := s.herdPorts.filter (fun y => y != x.val)
          let fwd := ys.map (fun y =>
            let (l, w) := s.hop x y (s.ticks - ago)
            { src := x.val, dst := y, at_ := l, kind := 2, addr := bitsOf hdr.toNat 17 6, bytes := body.take 56,
              late := decide (w ≠ 0 ∧ s.fld (Reg.CL_PORT_CFG y) F.CL_PORT_CFG_PHASE_SRC = x.val) : FwdCell })
          -- the abort of R437, with the forwarded cells in place of the device's own
          let s := (s.updUm (fun u => { u with armed := some { a with herd := false } })).disarm
          .next ((s.updTw (fun w => { w with hready := none, fwd := w.fwd ++ fwd })).evTw 12)
        | none => .next s
    else .next s
  | none => .next s

/-- HERD_CELL_FORWARD (R434, R439): a forwarded herd cell leaves in the slot of its hop. -/
def execHerdCellForward (x y : ClPort) (s : State) : Res :=
  match s.tw.fwd.find? (fun f => f.src == x.val && f.dst == y.val && decide (f.at_ ≤ s.ticks)) with
  | some f =>
    let s := s.updTw (fun w => { w with fwd := w.fwd.erase f })
    let s := s.updCl y (fun c => { c with herd := { kind := f.kind, bytes := f.bytes, tc := s.ticks, src := some f.addr } :: c.herd })
    .next (if f.late then s.evTw 15 else s)
  | none => .next s

/-- HERD_GUARD_CHECK (R437): at AT − CL_HERD_GUARD every port of the commit has delivered an equal HREADY, or it aborts. -/
def execHerdGuardCheck (s : State) : Res :=
  match s.um.armed, s.tw.hready with
  | some a, some e =>
    if a.herd = true ∧ s.tw.guarded = false ∧
        tlReached s.now (tlAdd a.at_ (-(s.fld Reg.CL_HERD_GUARD F.CL_HERD_GUARD_TC : Nat))) = true then
      let s := s.updTw (fun t => { t with guarded := true })
      if s.herdPorts.all (fun x => decide ((s.clp x).hready = some e)) then .next s else .next s.disarm
    else .next s
  | _, _ => .next s

/-- DIGEST (R399, R438): compared with the device's own of the same kind. -/
def execDigest (x : ClPort) (w0 at_ : Word) (bytes : List Byte) (s : State) : Res :=
  if s.isUp (.cl x) = true ∧ s.frameIn (.cl x) = true ∧ wbits w0 63 60 = 0xD then
    let herd := w0.toNat.testBit 59
    let own := s.rdWide (if herd then Reg.UM_GEN_HDIGEST else Reg.UM_GEN_DIGEST)
    let act := tlCount s.um.activeAt
    let old := tlLater act (tlCount at_) && decide (0 ≤ tlDiff s.now act ∧ tlDiff s.now act ≤ 4096)
    if bytes = own ∨ old = true then .next s
    else .next ((s.logKind 0x08 (x.val + (if herd then 256 else 0) + leAt bytes 0 4 * 2 ^ 32)).evUm 4)
  else .next s

/-- TIMEMARK (R435): the PPS edge of a device whose TIME_SRC names the port. `ago` is the time, in 1/65,536 Tc, since the start
of its slot crossed the receive plane. -/
def execTimemark (x : ClPort) (w0 w1 : Word) (ago : Nat) (s : State) : Res :=
  if s.isUp (.cl x) = true ∧ s.frameIn (.cl x) = true ∧ wbits w0 63 60 = 0xE then
    let s := s.updCl x (fun c => { c with hops := wbits w0 47 32 })
    if s.timeSrc = some x.val ∧ s.on 2 = true ∧ tlValid w1 = true then
      let f : Int := -(ago : Int) - sNat 32 (s.fld (Reg.CL_PORT_OWD x) F.CL_PORT_OWD_OWD) - (wbits w0 4 0 : Nat) * 65536
      if s.flag Reg.TL_STATE F.TL_STATE_HAS_TIME = false ∨ s.flag Reg.TL_STATE F.TL_STATE_AMBIGUOUS = true then
        .next (s.moveTime (tlDiff (tlCount w1) s.now * 65536 - f) true)
      else .next (s.ppsAt f)
    else .next s
  else .next s

end Sys2Proof.Machine
end

