-- ==== Sys2Proof/Machine/Quarantine.lean ====
section
/-! DEFINITION. The cause record, entry to Quarantine, the supply monitors, supply shedding, junction temperature and
thermal shedding (16, and 17 R493, R494). -/

namespace Sys2Proof.Machine

/-! ## Events of the reset, supply and thermal group (R484, R508) -/

/-- The state of reset and bring-up replaced by its image under `f`. -/
def State.updRs (s : State) (f : RsRt → RsRt) : State := { s with rs := f s.rs }

/-- Source `e` of supply and temperature, 12 to 21, with its bit in PW_STEVENT (R484). -/
def State.evSt (s : State) (e : Nat) : State := s.occurBit (600 + e) Reg.PW_STEVENT (e - 12) none

/-- Source `e` of reset, 0 to 10, with its bit in RS_EVENT; before Ready it waits for entry to Ready (R508). -/
def State.evRs (s : State) (e : Nat) : State :=
  if s.mode ≤ 3 then s.updRs (fun r => { r with late := insNat r.late e }) else s.occurBit (600 + e) Reg.RS_EVENT e none

/-! ## The cause record (R493, R494) -/

/-- Causes in order of precedence (R494). -/
def causeOrder : List Nat := [1, 2, 5, 3, 4, 7, 6, 8, 9, 0xA, 0xB]

/-- TL_NOW as a TL word, or 0 when HAS_TIME is 0. -/
def State.tlStamp (s : State) : Word := if s.tlKnown then tlOf s.now else 0

/-- A cause arrives: RS_CAUSE takes it unless one of higher precedence came in the same AON cycle, and the trouble log
takes it always. -/
def State.setCause (s : State) (code detail : Nat) : State :=
  let same := decide (s.rs.causeAon = some s.aon)
  let rank := causeOrder.idxOf code
  let n := if same then s.rs.causeN else 0
  let win := !same || decide (rank < s.rs.causeRank)
  let prev := if same then s.fld Reg.RS_CAUSE F.RS_CAUSE_PREV_MODE else s.mode
  let s' := s.updRs (fun r => { r with causeAon := some s.aon, causeN := n + 1, causeRank := if win then rank else r.causeRank })
  let s' := if win then
      let k := Reg.RS_CAUSE
      let s' := ((s'.setFld k F.RS_CAUSE_CODE code).setFld k F.RS_CAUSE_DETAIL detail).setFld k F.RS_CAUSE_PREV_MODE prev
      (s'.wrW Reg.RS_CAUSE_STAMP (BitVec.ofNat 64 s.aon)).wrW Reg.RS_CAUSE_TL s.tlStamp
    else s'
  s'.logKind 2 (code + detail * 2 ^ 8 + prev * 2 ^ 16 + n * 2 ^ 24 + (s'.rdW Reg.RS_COUNT).toNat % 2 ^ 32 * 2 ^ 32)

/-! ## Entry to Quarantine (R35, R37, R45, R446) -/

/-- Every A-link is lost. -/
def State.allPortsLost (s : State) : State :=
  s.portsLost ((List.range 96).filterMap (fun n => if h : n < 96 then some ⟨n, h⟩ else none))

/-- The links of a list are held in reset: what a fundamental reset takes (R45, R306). -/
def State.linksHeld : State → List Nat → State
  | s, [] => s
  | s, m :: ms =>
    let s := (s.slicesReset (s.linkSlices m)).bridgeLinkReset m
    ((s.updLink m LinkRt.cleared).hlDown m 0).linksHeld ms

/-- The links that port layouts hold. -/
def State.presentLinks (s : State) : List Nat := (List.range 32).filter (fun m => s.linkPresent m)

/-- The commands whose work a trigger of higher rank ends are answered MODE_REFUSED (R37). -/
def State.endModeWork (s : State) : State :=
  let m := s.um.mode
  let w := s.tw.swo
  let s := (s.updUm (fun u => { u with mode := none })).updTw (fun t => { t with swo := none, takeover := none })
  let s := match m with
    | some r => (s.modeFinal r.hdr stModeRefused).cancelFinals r.cancel
    | none => s
  match w with
  | some w => s.final w.hdr 0x0901 stModeRefused noDetail []
  | none => s

/-- Domains that a list names are powered up, in order, where they are off. -/
def State.powerUp : State → List Nat → State
  | s, [] => s
  | s, d :: ds => (if s.on d then s else s.domOn d).powerUp ds

/-- The domains that Quarantine forces off (R446). -/
def quarOff : List Nat := (setBits 64 domMask).filter (fun d => d != 0 && d != 1 && d != 3 && d != 4)

/-- Entry to Quarantine with its trigger and its cause (R35, R45, R415, R446). A device in Held, Strap, Quarantine or Off
does not enter it. -/
def State.enterQuarantine (s : State) (trig code detail : Nat) : State :=
  if s.mode < 3 ∨ s.mode = 0xC then s
  else
    let s := s.yieldFirst
    let s := s.loseGen.endModeWork
    let s := s.powerUp [4, 3, 1]
    let s := ((s.allPortsLost).clPortsLost [0, 1, 2, 3]).linksHeld s.presentLinks
    let s := s.resetCarrier .ring
    let s := (s.setCause code detail).setMode 0xC trig
    let s := s.updPw (fun p => { p with sleep := none, wake := none, h32 := true, restore := 0, waited := false })
    let s := s.forceOffs quarOff
    s.evRs 9

/-! ## Supply monitors (R467 to R470) -/

/-- The warning and reset levels of a rail in mV. -/
def railLow (r : Nat) : Nat × Nat :=
  if r = 0 then (690, 640) else if r = 4 then (1110, 1050) else if r = 6 then (1660, 1550) else (740, 700)

/-- The high level of a rail in mV. -/
def railHigh (r : Nat) : Nat := if r = 0 then 800 else if r = 4 then 1290 else if r = 6 then 1980 else 860

/-- The recorded dip in progress on a rail. -/
def State.dip (s : State) (r : Nat) : Option DipRt := SMap.get none s.pw.dips r

/-- Bit `r` of a rail field of PW_SUP_STAT. -/
def State.setRail (s : State) (f : Fld) (r : Nat) (b : Bool) : State :=
  s.setFld Reg.PW_SUP_STAT f (putBit (s.fld Reg.PW_SUP_STAT f) r b)

/-- PW_DIP, PW_DIP_AT and PW_DIP_STAMP take a dip. -/
def State.showDip (s : State) (r : Nat) (d : DipRt) (dur : Nat) (open_ : Bool) : State :=
  let k := Reg.PW_DIP
  let s := ((s.setFld k F.PW_DIP_RAIL r).setFld k F.PW_DIP_OPEN (if open_ then 1 else 0)).setFld k F.PW_DIP_RESET_LEVEL
    (if d.reset then 1 else 0)
  let s := (s.setFld k F.PW_DIP_MIN_MV (min d.min 4095)).setFld k F.PW_DIP_DUR (min dur 65535)
  (s.wrW Reg.PW_DIP_AT d.tl).wrW Reg.PW_DIP_STAMP (BitVec.ofNat 64 d.stamp)

/-- PW_DIP holds this rail's dip. -/
def State.ownsDip (s : State) (r : Nat) (d : DipRt) : Bool :=
  s.fld Reg.PW_DIP F.PW_DIP_RAIL == r && (s.rdW Reg.PW_DIP_STAMP).toNat == d.stamp

/-- A dip on a rail of lower code is recorded and open (R468). -/
def State.lowerDip (s : State) (r : Nat) : Bool := (List.range r).any (fun q => (s.dip q).isSome)

/-- A dip's trouble-log entry (R550). -/
def State.logDip (s : State) (r : Nat) (d : DipRt) (dur : Nat) (cut : Bool) : State :=
  s.logPut { tl := d.tl, stamp := BitVec.ofNat 64 d.stamp, source := 0xFFFF, kind := 3,
             flags := (s.logFlags - (if s.tlKnown then 2 else 0)) + (if d.tl ≠ 0 then 2 else 0), seq := 0,
             param := BitVec.ofNat 64 (r + (if d.reset then 2 ^ 8 else 0) + (if cut then 2 ^ 9 else 0) + min d.min 65535 * 2 ^ 16 +
               dur % 2 ^ 32 * 2 ^ 32) }

/-- Supply warning or a shed level holds Run-Shed (R37, R471, R475). -/
def State.shedCause (s : State) : Bool :=
  s.flag Reg.PW_SUP_STAT F.PW_SUP_STAT_WARN || s.fld Reg.PW_THERM_STAT F.PW_THERM_STAT_LEVEL == 2

/-- Run moves to Run-Shed where a cause stands (R35, R37). -/
def State.shedCheck (s : State) : State := if s.mode == 5 && s.shedCause then s.setMode 6 0x09 else s

/-- SUPPLY_DIP_RECORDED (R468, R471): the 25th low reading of a rail, whose lowest reading so far is `mv`; `ago` Tc have
passed since the first. -/
def execSupplyDipRecorded (rail : Fin 7) (mv ago : Nat) (s : State) : Res :=
  let r := rail.val
  if s.mode = 0 ∨ (s.dip r).isSome = true ∨ (railLow r).1 ≤ mv then .next s
  else
    let d : DipRt :=
      { tl := if s.tlKnown then tlOf (tlAdd s.now (-(ago : Int))) else 0, stamp := s.aon - 24, min := mv, reset := decide (mv < (railLow r).2) }
    let s := (s.updPw (fun p => { p with dips := SMap.put none p.dips r (some d) })).setRail F.PW_SUP_STAT_LOW r true
    let s := if s.lowerDip r then s else s.showDip r d 25 true
    let s := if s.mode = 0xB then s.raiseWake 9 0 else s
    if r = 0 then
      let s := ((s.setFld Reg.PW_SUP_STAT F.PW_SUP_STAT_WARN 1).updPw (fun p => { p with warnAt := s.aon, coreOk := none })).evSt 12
      .next (s.evSt 13).shedCheck
    else .next (s.evSt 13)

/-- SUPPLY_DIP_END (R468): the first reading at or above the warning level after a dip of `readings` readings whose lowest
was `mv`. -/
def execSupplyDipEnd (rail : Fin 7) (mv readings : Nat) (s : State) : Res :=
  let r := rail.val
  match s.dip r with
  | some d =>
    let d : DipRt := { d with min := min d.min mv, reset := d.reset || decide (mv < (railLow r).2) }
    let dur := s.aon - d.stamp
    let s := if s.ownsDip r d then s.showDip r d dur false else s
    let s := (s.updPw (fun p => { p with dips := SMap.put none p.dips r none })).setRail F.PW_SUP_STAT_LOW r false
    let s := (s.cnt Reg.PW_DIP_CNT).logDip r d dur false
    .next (if r = 0 then (s.setFld Reg.PW_SUP_STAT F.PW_SUP_STAT_WARN 0).updPw (fun p => { p with coreOk := some s.aon }) else s)
  | none =>
    if 1 ≤ readings ∧ readings < 25 ∧ mv < (railLow r).1 ∧ s.mode ≠ 0 then
      let s := s.cnt Reg.PW_SUP_GLITCH
      .next (if r = 0 then s.updPw (fun p => { p with coreOk := some s.aon }) else s)
    else .next s

/-- SUPPLY_OVER (R470): 25 consecutive high readings of a rail, or the reading that ends them. -/
def execSupplyOver (rail : Fin 7) (high : Bool) (s : State) : Res :=
  let was := (s.fld Reg.PW_SUP_STAT F.PW_SUP_STAT_HIGH).testBit rail
  let s := s.setRail F.PW_SUP_STAT_HIGH rail high
  if high = true ∧ was = false then
    let s := if s.mode = 0xB then s.raiseWake 9 0 else s
    .next (s.evSt 16)
  else .next s

/-! ## Shedding (R472, R473, R476, R478) -/

/-- Group `g` is sheddable: it has an enabled port and all of them are SHEDDABLE. -/
def State.sheddable (s : State) (g : Nat) : Bool :=
  s.groupPorts g && (List.range 8).all (fun i =>
    !s.flag (Reg.AL_CTRL (8 * g + i)) F.AL_CTRL_EN || s.flag (Reg.AL_CTRL (8 * g + i)) F.AL_CTRL_SHEDDABLE)

/-- UNSHED: groups with an enabled port that is not sheddable. -/
def State.unshed (s : State) : Nat := domMap ((List.range 12).filter (fun g => s.groupPorts g && !s.sheddable g))

/-- The two domains that shedding a group forces off. -/
def State.groupDoms (s : State) (g : Nat) : List Nat := [domL g, domC (s.groupUnit g)]

/-- The groups of a shed map. -/
def State.shedMap (s : State) (f : Fld) : Nat := s.fld Reg.PW_SHED_STAT f

/-- The conditions of the return from Run-Shed to Run (R35, R473). -/
def State.tryRun (s : State) : State :=
  if s.mode = 6 ∧ (s.dip 0).isNone ∧ s.pw.coreOk.all (fun a => decide (a + 2500 ≤ s.aon)) = true ∧
      s.fld Reg.PW_THERM_STAT F.PW_THERM_STAT_LEVEL < 2 ∧ s.shedMap F.PW_SHED_STAT_TH_SHED = 0 ∧
      s.shedMap F.PW_SHED_STAT_SUP_SHED = 0 then s.setMode 5 0x0A else s

/-- SUPPLY_SHED (R472): the supply warning has stayed for SHED_DLY µs. -/
def execSupplyShed (s : State) : Res :=
  let dly := s.fld Reg.PW_SUP_CFG F.PW_SUP_CFG_SHED_DLY
  if s.flag Reg.PW_SUP_STAT F.PW_SUP_STAT_WARN = true ∧ dly ≠ 0 ∧ s.pw.warnAt + 25 * dly ≤ s.aon ∧
      s.flag Reg.PW_SUP_STAT F.PW_SUP_STAT_SHED = false ∧ 4 ≤ s.mode ∧ s.mode ≠ 0xC then
    let gs := (List.range 12).filter (fun g => s.sheddable g)
    let s := s.forceOffs (gs.flatMap (fun g => s.groupDoms g))
    let s := s.setFld Reg.PW_SHED_STAT F.PW_SHED_STAT_SUP_SHED (domMap gs)
    .next ((s.setFld Reg.PW_SUP_STAT F.PW_SUP_STAT_SHED 1).evSt 14)
  else .next s

/-- SUPPLY_RETURN (R473): VDD_CORE has read 0.690 V or more for 100 µs. -/
def execSupplyReturn (s : State) : Res :=
  if (s.dip 0).isNone = true ∧ s.pw.coreOk.all (fun a => decide (a + 2500 ≤ s.aon)) = true then
    let gs := setBits 12 (s.shedMap F.PW_SHED_STAT_SUP_SHED)
    let th := s.shedMap F.PW_SHED_STAT_TH_SHED
    let s' := s.setFld Reg.PW_SHED_STAT F.PW_SHED_STAT_SUP_SHED 0
    let s' := s'.forceLifts ((gs.filter (fun g => !th.testBit g)).flatMap (fun g => s.groupDoms g))
    let s' := if s.flag Reg.PW_SUP_STAT F.PW_SUP_STAT_SHED then (s'.setFld Reg.PW_SUP_STAT F.PW_SUP_STAT_SHED 0).evSt 15 else s'
    .next s'.tryRun
  else .next s

/-- A group that is shed sheds as its thermal state says: its bit in TH_SHED. -/
def State.thShed (s : State) (gs : List Nat) : State :=
  let s := s.forceOffs (gs.flatMap (fun g => s.groupDoms g))
  s.setFld Reg.PW_SHED_STAT F.PW_SHED_STAT_TH_SHED (s.shedMap F.PW_SHED_STAT_TH_SHED ||| domMap gs)

/-! ## Junction temperature (R474 to R478) -/

/-- A sensor's reading in °C. -/
def degC (b : Byte) : Int := sNat 8 b.toNat

/-- The valid readings, by sensor. -/
def goodTemps : Nat → List Byte → List (Nat × Int)
  | _, [] => []
  | i, b :: bs => if b.toNat = 0x80 then goodTemps (i + 1) bs else (i, degC b) :: goodTemps (i + 1) bs

/-- The sensor of the highest reading, and that reading; 0 and 0 without one. -/
def hottest : List (Nat × Int) → Nat × Int
  | [] => (0, 0)
  | [x] => x
  | x :: xs => let y := hottest xs; if y.2 ≤ x.2 then x else y

/-- The lower end of the ordering range: 0 °C, or −40 °C for SB960-X (R2). -/
def Fuses.lowTemp (f : Fuses) : Int := if f.ordering = 1 then -40 else 0

/-- Sensors of a list all failed, or one of them reads the shed level (R476, R477). -/
def regionHot (temps : List (Nat × Int)) (is : List Nat) : Bool :=
  temps.any (fun t => is.contains t.1 && decide (110 ≤ t.2)) || is.all (fun i => temps.all (fun t => t.1 != i))

/-- The groups that lie in a hot region (R476). -/
def hotGroups (temps : List (Nat × Int)) : List Nat :=
  if regionHot temps [12, 13, 14, 15] then List.range 12
  else (List.range 12).filter (fun g => regionHot temps [g / 3 * 3, g / 3 * 3 + 1, g / 3 * 3 + 2])

/-- PW_TEMP0 to PW_TEMP3 take the readings. -/
def State.wrTemps : State → Nat → List Byte → State
  | s, _, [] => s
  | s, k, a :: b :: c :: d :: bs => (s.wrW (Reg.PW_TEMP k) (BitVec.ofNat 64 (leNat [a, b, c, d]))).wrTemps (k + 1) bs
  | s, _, _ => s

/-- The restores that wait are carried out (R478). -/
def State.restores (s : State) (temps : List (Nat × Int)) : State :=
  let gs := setBits 12 (s.pw.restore &&& s.shedMap F.PW_SHED_STAT_TH_SHED)
  let s := s.updPw (fun p => { p with restore := 0 })
  if gs = [] then s
  else if temps.all (fun t => decide (t.2 < 105)) then
    let sup := s.shedMap F.PW_SHED_STAT_SUP_SHED
    let left := s.shedMap F.PW_SHED_STAT_TH_SHED - domMap gs
    (s.setFld Reg.PW_SHED_STAT F.PW_SHED_STAT_TH_SHED left).forceLifts
      ((gs.filter (fun g => !sup.testBit g)).flatMap (fun g => s.groupDoms g))
  else (s.setW1c Reg.PW_SHED_STAT F.PW_SHED_STAT_REST_REFUSED).evSt 19

/-- The levels, shedding and trip that one conversion gives (R475 to R477). -/
def State.thermal (s : State) (bs : List Byte) : State :=
  let temps := goodTemps 0 bs
  let k := Reg.PW_THERM_STAT
  let fault := domMap ((List.range 16).filter (fun i => temps.all (fun t => t.1 != i)))
  let newFault := fault - (fault &&& s.fld k F.PW_THERM_STAT_FAULT)
  let s := (s.wrTemps 0 bs).setFld k F.PW_THERM_STAT_FAULT fault
  let hot := hottest temps
  let s := (s.setFld k F.PW_THERM_STAT_MAX_T (uInt 8 hot.2)).setFld k F.PW_THERM_STAT_HOT hot.1
  let s := if newFault ≠ 0 then s.evSt 21 else s
  let low := temps.any (fun t => decide (t.2 < s.sec.fuses.lowTemp))
  let s := if low ∧ s.pw.cold = false then (s.updPw (fun p => { p with cold := true })).evSt 20
    else if !low then s.updPw (fun p => { p with cold := false }) else s
  let warm := temps.any (fun t => decide (100 ≤ t.2))
  let cool := temps.all (fun t => decide (t.2 < 97))
  let s := if warm ∧ s.pw.warm = false then (s.updPw (fun p => { p with warm := true })).evSt 17
    else if cool then s.updPw (fun p => { p with warm := false }) else s
  if temps.any (fun t => decide (120 ≤ t.2)) then
    (s.setFld k F.PW_THERM_STAT_LEVEL 3).enterQuarantine 0x15 9 hot.1
  else if s.mode = 3 ∧ temps.any (fun t => decide (110 ≤ t.2)) then
    (s.setFld k F.PW_THERM_STAT_LEVEL 2).enterQuarantine 0x06 0xB hot.1
  else
    let shed := temps.any (fun t => decide (110 ≤ t.2))
    let trip := decide (s.mode = 0xC) && s.fld k F.PW_THERM_STAT_LEVEL == 3
    let s := s.setFld k F.PW_THERM_STAT_LEVEL (if trip then 3 else if shed then 2 else if s.pw.warm then 1 else 0)
    let gs := (hotGroups temps).filter (fun g => s.sheddable g && !(s.shedMap F.PW_SHED_STAT_TH_SHED).testBit g)
    let s := if gs = [] ∨ s.mode < 4 then s else (s.thShed gs).evSt 18
    ((s.shedCheck).restores temps).tryRun

/-- THERMAL_CONVERSION (R474 to R478): the sixteen readings of one conversion, one every 20 µs, 500 cycles of the always-on
oscillator. -/
def execThermalConversion (temps : List Byte) (s : State) : Res :=
  if temps.length = 16 ∧ s.on 1 = true ∧ s.on 3 = true ∧ s.pw.convAt.all (fun a => decide (a + 500 ≤ s.aon)) = true then
    .next ((s.updPw (fun p => { p with convAt := some s.aon })).thermal temps)
  else .next s

/-- PW_SHED_CTRL.RESTORE written (R478): carried out at the next conversion. -/
def State.askRestore (s : State) (v : Nat) : State := s.updPw (fun p => { p with restore := p.restore ||| v % 4096 })

/-- PW_SHED_CTRL_RESTORE: the write of PW_SHED_CTRL. -/
def execPwShedCtrlRestore (v : BitVec 32) (s : State) : Res := .next (s.askRestore v.toNat)

end Sys2Proof.Machine
end

