-- ==== Sys2Proof/Machine/SecCore.lean ====
section
/-! DEFINITION. The security block's core: fuses and lifecycle, the check of an image, the DRBG, zeroization, tamper and
what SEC does at its release (18 R510 to R533, R538). -/

namespace Sys2Proof.Machine

/-! ## Fuses and lifecycle (R510, R511) -/

/-- Bits of a number set, of its low `n`. -/
def popCount (n v : Nat) : Nat := (setBits n v).length

/-- The lifecycle code that LC bits decode to (R511). -/
def lcCode (lc : Nat) : Nat :=
  if lc.testBit 8 then 4
  else if lc.testBit 7 then 3
  else if lc.testBit 0 ∧ popCount 6 (lc / 2) % 2 = 1 then 2
  else if lc.testBit 0 then 1
  else 0

/-- UDS is valid and not destroyed (R512). -/
def Fuses.udsOk (f : Fuses) : Bool := f.udsValid && f.uds != 2 ^ 384 - 1

/-- The debug level that a lifecycle fixes, or Locked in FIELD_DEBUG until an unlock (R535). -/
def lcDebug (lc : Nat) : Nat := if lc = 0 then 2 else if lc = 3 then 1 else 0

/-- SEC_STATE.DBG set, with DEBUG_UNLOCKED or DEBUG_LOCKED (R535, R539). -/
def State.setDbg (s : State) (v : Nat) : State :=
  let was := s.fld Reg.SEC_STATE F.SEC_STATE_DBG
  let s := s.setFld Reg.SEC_STATE F.SEC_STATE_DBG v
  if was = 0 ∧ v ≠ 0 then s.evSec 4 else if was ≠ 0 ∧ v = 0 then s.evSec 5 else s

/-- FIELD_DEBUG returns to Locked (R535). -/
def State.lockDebug (s : State) : State := if s.sec.lcNow = 2 then s.setDbg 0 else s

/-- The level of VDD_FUSE as it stands: SEC_STATE.FUSE_V (R510). -/
def State.seeFuseV (s : State) (v : Bool) : State :=
  if s.on 4 then s.setFld Reg.SEC_STATE F.SEC_STATE_FUSE_V (if v then 1 else 0) else s

/-! ## Images (R514, R515) -/

/-- Every byte of a range is 0. -/
def zeroAt (bs : List Byte) (off n : Nat) : Bool := ((bs.drop off).take n).all (fun b => b == 0)

/-- A key is a ROM root key that is not revoked. -/
def Fuses.rootKey (f : Fuses) (key : List Byte) : Bool :=
  f.roots.zipIdx.any (fun r => sha384 key == r.1 && !f.revoke.testBit r.2)

/-- The form of an image: its fixed bytes, its reserved bytes and its length. -/
def imageForm (img : List Byte) : Bool :=
  leAt img 0 4 == 0x57464253 && leAt img 4 2 == 0x0100 && leAt img 6 2 / 4 == 0 && zeroAt img 13 3 && zeroAt img 20 60 &&
    zeroAt img 512 512 && decide (1024 ≤ img.length) && decide (1 ≤ leAt img 16 4) && decide (leAt img 16 4 ≤ 16776192) &&
    decide (1024 + leAt img 16 4 ≤ img.length)

/-- The body of an image. -/
def imageBody (img : List Byte) : List Byte := (img.drop 1024).take (leAt img 16 4)

/-- The image's own signature and, where it carries one, the owner's verify. -/
def imageSigs (img : List Byte) (owner : Bool) : Bool :=
  let m := img.take 128
  verify384 ((img.drop 128).take 96) m ((img.drop 224).take 96) == 0 &&
    (!owner || verify384 ((img.drop 320).take 96) m ((img.drop 416).take 96) == 0)

/-- The checks of R515 but for the signatures: the RS_BOOT status of the first that fails, or 0x1. -/
def Fuses.imageCheck (f : Fuses) (img : List Byte) : Nat :=
  if !imageForm img then 2
  else if !f.rootKey ((img.drop 128).take 96) then 3
  else if !f.owner.isEmpty ∧ !(img.getD 6 0).toNat.testBit 1 then 3
  else if !f.owner.isEmpty ∧ sha384 ((img.drop 320).take 96) ≠ f.owner then 3
  else if leAt img 12 1 < f.count ∨ 64 < leAt img 12 1 then 4
  else if sha384 (imageBody img) ≠ (img.drop 80).take 48 then 3
  else 1

/-- The checks of R515 in order: the RS_BOOT status of the first that fails, or 0x1. -/
def Fuses.imageStatus (f : Fuses) (img : List Byte) : Nat :=
  let st := f.imageCheck img
  if st = 1 ∧ !imageSigs img (!f.owner.isEmpty) then 3 else st

/-! ## DRBG (R521 to R525) -/

/-- SEC_RNG_STAT.STATE: 0 Ready, 1 Testing, 2 Fault. -/
def State.rng (s : State) : Nat := s.fld Reg.SEC_RNG_STAT F.SEC_RNG_STAT_STATE
/-- The DRBG is instantiated. -/
def State.rngReady (s : State) : Bool := s.on 4 && s.rng == 0

/-- Bytes `d` to `d + n − 1` of the DRBG's output. -/
def randomBytes : Nat → Nat → List Byte
  | _, 0 => []
  | d, n + 1 => Config.random d :: randomBytes (d + 1) n

/-- `n` random bytes drawn in one generate request. -/
def State.draw (s : State) (n : Nat) : List Byte × State :=
  (randomBytes s.sec.drawn n, s.updSec (fun c => { c with drawn := c.drawn + n, gens := c.gens + 1 }))

/-- The nonce is replaced; without an instantiated DRBG there is none until it is (R524, R534). -/
def State.newNonce (s : State) : State :=
  if s.rngReady then
    let (b, s) := s.draw 32
    s.updSec (fun c => { c with nonce := some b })
  else s.updSec (fun c => { c with nonce := none })

/-- A start-up test begins (R521, R525). -/
def State.rngTest (s : State) (restart : Bool) : State :=
  (s.setFld Reg.SEC_RNG_STAT F.SEC_RNG_STAT_STATE 1).updSec (fun c => { c with testAt := s.ticks, restart := restart })

/-! ## Curve engine (R518) -/

/-- The operation at the head of the engine's queue starts, if it has not. -/
def State.ceStart (s : State) : State :=
  s.updSec (fun c => { c with ops := match c.ops with
    | o :: os => { o with start := some (o.start.getD s.ticks) } :: os
    | [] => [] })

/-- An operation joins the engine's queue. -/
def State.cePut (s : State) (t : CurveTask) (dur : Nat) : State :=
  (s.updSec (fun c => { c with ops := c.ops ++ [⟨t, dur, none⟩] })).ceStart

/-- Times of R518. -/
def ceVerify : Nat := 4784128
def ceOne (small : Bool) : Nat := if small then 1114112 else 2424832

/-! ## SPDM answers (R526; the messages are DSP0274's, PRESUMED) -/

/-- The responder of a source. -/
def State.spdm (s : State) : SpdmSrc → SpdmRt
  | .doe m => (s.link m).spdm
  | .mctp _ _ => s.sec.mctp

/-- The responder of a source replaced by its image under `f`. -/
def State.updSpdm (s : State) (src : SpdmSrc) (f : SpdmRt → SpdmRt) : State :=
  match src with
  | .doe m => s.updLink m (fun l => { l with spdm := f l.spdm })
  | .mctp _ _ => s.updSec (fun c => { c with mctp := f c.mctp })

/-- A message padded to whole dwords. -/
def padDw (bs : List Byte) : List Byte := bs ++ List.replicate ((4 - bs.length % 4) % 4) 0

/-- A response leaves: a DOE object, or an MCTP message of type SPDM or Secured SPDM. -/
def State.spdmSend (s : State) (src : SpdmSrc) (session : Option Nat) (bs : List Byte) : State :=
  let body := match session with
    | some n => leBytes 4 n ++ bs
    | none => bs
  let ty := if session.isSome then 2 else 1
  match src with
  | .doe m => s.doeAnswer m (leBytes 2 1 ++ leBytes 2 ty ++ leBytes 4 (2 + (padDw body).length / 4) ++ padDw body)
  | .mctp eid tag => s.emit (.sideband eid tag false (BitVec.ofNat 8 (4 + ty) :: body))

/-- An SPDM ERROR response with its error code. -/
def State.spdmError (s : State) (src : SpdmSrc) (session : Option Nat) (code : Nat) : State :=
  s.spdmSend src session [BitVec.ofNat 8 (max 0x10 (s.spdm src).version), 0x7F, BitVec.ofNat 8 code, 0]

/-- What an operation answers when it cannot be done: R388 has no code for it, so a command ends INTERNAL (R524, R532). -/
def State.ceAbort (s : State) (t : CurveTask) : State :=
  match t with
  | .lcAdvance h _ _ => (s.newNonce).final h 0x0A03 stInternal noDetail []
  | .debugUnlock h _ => (s.newNonce).final h 0x0A04 stInternal noDetail []
  | .image h _ _ => (s.updSec (fun c => { c with fw := none })).final h 0x0A02 stInternal noDetail []
  | .keyGen src => s.spdmError src none 5
  | .ecdh src _ _ _ => s.spdmError src none 5
  | .sign src session _ _ => s.spdmError src session 5

/-- Operations of a list aborted. -/
def State.ceAborts : State → List CurveOp → State
  | s, [] => s
  | s, o :: os => (s.ceAbort o.task).ceAborts os

/-- An operation serves the same request as the one before it, of task `t`. -/
def CurveOp.follows (t : CurveTask) (o : CurveOp) : Bool :=
  match t, o.task with
  | .keyGen _, .ecdh _ _ _ _ => true
  | .keyGen _, .sign _ _ _ (some _) => true
  | .ecdh _ _ _ _, .sign _ _ _ (some _) => true
  | .image _ _ _, .image _ _ _ => true
  | _, _ => false

/-- An operation that waits and needs random bits, or waits on one that does (R524). -/
def CurveOp.needsRandom (o : CurveOp) : Bool :=
  o.start.isNone && (match o.task with
    | .keyGen _ => true
    | .ecdh _ _ _ _ => true
    | .sign _ _ _ _ => true
    | _ => false)

/-- An operation is a signature, with which its request is answered. -/
def CurveOp.isSign (o : CurveOp) : Bool :=
  match o.task with
  | .sign _ _ _ _ => true
  | _ => false

/-- Requests that wait for random bits end with ENTROPY_FAULT (R524). -/
def State.entropyFaults (s : State) : State :=
  let gone := s.sec.ops.filter (fun o => o.needsRandom && o.isSign)
  (s.updSec (fun c => { c with ops := c.ops.filter (fun o => !o.needsRandom) })).ceAborts gone

/-- The repetition count test fails at the last of a list of raw samples: six in a row are the same (R521). -/
def repetitionFails (samples : List Byte) : Bool :=
  let l := samples.drop (samples.length - 6)
  decide (l.length = 6) && l.all (fun b => some b == l.head?)

/-- The adaptive proportion test fails at the last sample of a window: it is the 63rd that equals the window's first, within
512 (R521). -/
def proportionFails (window : List Byte) : Bool :=
  match window with
  | [] => false
  | b :: _ => decide (window.length ≤ 512) && window.getLast? == some b && decide (window.count b = 63)

/-- The test that a list of raw samples fails, the last `n` of them those of the present window: 1 repetition count, 2 adaptive
proportion, 0 none (R521). -/
def noiseTest (samples : List Byte) (n : Nat) : Nat :=
  if repetitionFails samples then 1 else if proportionFails (samples.drop (samples.length - n)) then 2 else 0

/-- NOISE_HEALTH_FAILURE (R521, R523, R524): the raw samples of the noise source up to the failing one, of which the last
`window` are those of the adaptive proportion test's present window. A test that fails in start-up is recorded as such. -/
def execNoiseHealthFailure (samples : List Byte) (s : State) (window : Nat := 0) : Res :=
  let t := noiseTest samples window
  if s.on 4 = true ∧ s.rng ≠ 2 ∧ t ≠ 0 then
    let test := if s.rng = 1 then 3 else t
    let s := (s.setFld Reg.SEC_RNG_STAT F.SEC_RNG_STAT_STATE 2).setFld Reg.SEC_RNG_STAT F.SEC_RNG_STAT_LAST_TEST test
    let s := (s.cnt Reg.SEC_RNG_FAILS).updSec (fun c => { c with failAt := s.ticks, gens := 0 })
    .next (s.entropyFaults.evSec 2)
  else .next s

/-- DRBG_RESTART (R525): one second after a failure, at most three times. -/
def execDrbgRestart (s : State) : Res :=
  let n := s.fld Reg.SEC_RNG_STAT F.SEC_RNG_STAT_RESTARTS
  if s.on 4 = true ∧ s.rng = 2 ∧ n < 3 ∧ s.sec.failAt + secTc ≤ s.ticks then
    .next ((s.setFld Reg.SEC_RNG_STAT F.SEC_RNG_STAT_RESTARTS (n + 1)).rngTest true)
  else .next s

/-- DRBG_INSTANTIATED (R521, R522, R525): 1,024 samples of start-up test and 192 samples of instantiation. -/
def execDrbgInstantiated (s : State) : Res :=
  if s.on 4 = true ∧ s.rng = 1 ∧ s.sec.testAt + 97280 ≤ s.ticks then
    let re := s.sec.restart
    let s := (s.setFld Reg.SEC_RNG_STAT F.SEC_RNG_STAT_STATE 0).setFld Reg.SEC_RNG_STAT F.SEC_RNG_STAT_RESTARTS 0
    let s := s.updSec (fun c => { c with gens := 0, seedAt := s.ticks, restart := false })
    let s := if s.sec.nonce.isNone then s.newNonce else s
    .next (if re then s.evSec 3 else s)
  else .next s

/-- SEC_RNG_CTRL.RETRY written (R525). -/
def State.rngRetry (s : State) : State := if s.rng = 2 then s.rngTest true else s

/-- SEC_RNG_CTRL_RETRY: the write of SEC_RNG_CTRL.RETRY. -/
def execSecRngCtrlRetry (s : State) : Res := if s.on 4 then .next s.rngRetry else .next s

/-- DRBG_RESEED (R522): after 2^20 generate requests or 1 s. -/
def execDrbgReseed (s : State) : Res :=
  if s.rngReady = true ∧ (2 ^ 20 ≤ s.sec.gens ∨ s.sec.seedAt + secTc ≤ s.ticks) then
    .next (s.updSec (fun c => { c with gens := 0, seedAt := s.ticks }))
  else .next s

/-! ## IDE streams and TDIs (R527 to R529) -/

/-- A TDI enters ERROR: its channels end as KILL would end them (R528, R529). -/
def State.tdiErrors : State → List Nat → State
  | s, [] => s
  | s, sl :: sls => ((s.endChans (s.slChans sl) 9).setTdi sl 3).tdiErrors sls

/-- Locked TDIs of link `m` that are bound to a stream. -/
def State.streamTdis (s : State) (m st : Nat) : List Nat :=
  (s.sec.tdiStream.filter (fun e => e.2 == st + 1 && s.bound e.1 && s.slLink e.1 == m && (s.tdi e.1 == 1 || s.tdi e.1 == 2))).map (·.1)

/-- Stream `st` of link `m`. -/
def State.ideOf (s : State) (m st : Nat) : IdeRt := SMap.get {} (s.link m).ide st
/-- Stream `st` of link `m` replaced by its image under `f`. -/
def State.updIde (s : State) (m st : Nat) (f : IdeRt → IdeRt) : State :=
  s.updLink m (fun l => { l with ide := SMap.upd {} l.ide st f })

/-- A stream goes Insecure, with its keys (R527, R529, R530). -/
def State.ideDown (s : State) (m st : Nat) : State :=
  let was := s.ideOf m st
  let s := s.updIde m st (fun _ => {})
  let s := if was.state ≠ 0 then s.evSec 10 else s
  if was.state = 2 then s.tdiErrors (s.streamTdis m st) else s

/-- Streams of a link go Insecure. -/
def State.ideDowns : State → Nat → List Nat → State
  | s, _, [] => s
  | s, m, st :: sts => (s.ideDown m st).ideDowns m sts

/-! ## Zeroization (R530) -/

/-- SPDM_SESSION occurs `n` times. -/
def State.sessionEvs : Nat → State → State
  | 0, s => s
  | n + 1, s => (s.evSec 12).sessionEvs n

/-- The SPDM sessions and IDE keys of a list of links are cleared. -/
def State.zeroLinks : State → List Nat → State
  | s, [] => s
  | s, m :: ms =>
    let n := (s.link m).spdm.sessions.length
    let s := (s.updLink m (fun l => { l with spdm := { l.spdm with sessions := [] } })).sessionEvs n
    (s.ideDowns m ((s.link m).ide.map (·.1))).zeroLinks ms

/-- The device's key copy is zeroized: KEY_ID reads 0, and what rests on it changes. -/
def State.dropKey (s : State) : State :=
  let had := s.sec.key.isSome
  let s := (s.updSec (fun c => { c with key := none })).setFld Reg.SEC_STATE F.SEC_STATE_KEY_ID 0
  if had then s.rtAll else s

/-- Zeroization of a scope (R530). -/
def State.zeroize (s : State) (scope : Nat) : State :=
  let n := s.sec.mctp.sessions.length
  let s := (s.updSec (fun c => { c with mctp := { c.mctp with sessions := [] } })).sessionEvs n
  let s := s.zeroLinks (s.links.map (·.1))
  let s := if scope = 0 then s
    else
      let s := (s.dropKey).updSec (fun c => { c with keyGone := true, nonce := none })
      ((s.lockDebug).entropyFaults).rngTest true
  s.evSec 1

/-! ## Tamper (R531 to R533) -/

/-- The level of a tamper source in the active generation. -/
def State.tamperLevel (s : State) (src : Nat) : Nat := wbits (s.rdG Reg.SEC_TAMPER_CFG) (2 * src + 1) (2 * src)

/-- The trip's entry in the trouble log (R550). -/
def State.logTamper (s : State) (src level phase : Nat) : State :=
  s.logKind 9 (src + level * 2 ^ 8 + phase * 2 ^ 16 + (s.rdW Reg.SEC_TAMPER_CNT).toNat % 2 ^ 32 * 2 ^ 32)

/-- The response of a level (R531). -/
def State.tamperAct (s : State) (src level : Nat) : State :=
  let s := if 1 ≤ level then s.zeroize 1 else s
  let s := if 2 ≤ level then s.enterQuarantine 0x15 8 src else s
  if level = 3 ∧ s.fuseV = true ∧ s.sec.prog = none ∧ !s.sec.fuses.lc.testBit 7 then
    s.updSec (fun c => { c with prog := some ⟨none, 2 ^ 7, none, none⟩ })
  else s

/-- The operation of the curve engine that runs is stopped, completes TAMPERED, and its key is zeroized; an instantiation of
the DRBG that runs begins again (R532). -/
def State.ceStop (s : State) : State :=
  let s := if s.rng = 1 then s.rngTest s.sec.restart else s
  match s.sec.ops with
  | o :: os =>
    let s := ((s.updSec (fun c => { c with ops := os.dropWhile (CurveOp.follows o.task) })).ceAbort o.task).ceStart
    if o.isSign then s.dropKey else s
  | [] => s

/-- The latch of a trip, which AON holds. -/
def State.tamperLatch (s : State) (src : Nat) : State :=
  let k := Reg.SEC_TAMPER_STAT
  (s.setBitsOf k (2 ^ (F.SEC_TAMPER_STAT_LATCH.lo + src))).setFld k F.SEC_TAMPER_STAT_LAST src

/-- The trip's phase as R550 numbers it. -/
def State.tamperPhase (s : State) : Nat :=
  if s.mode = 0xA then 2 else if s.mode = 0xB then 3 else if !s.on 4 then 0 else if s.pw.sleep.isSome then 4
  else if s.sec.ops.isEmpty then 1 else 5

/-- AON watches a tamper source while SEC is off (R532): in Doze and Deep Sleep every one, before SEC's release those that
need no junction sensor. -/
def State.aonWatches (s : State) (src : Nat) : Bool := decide (src ≤ 5) || s.mode == 0xA || s.mode == 0xB

/-- TAMPER_TRIP (R531 to R533): a source trips. While SEC is off AON latches it, and its level acts at SEC's release; while a
fuse word is programmed the response waits for its end. -/
def execTamperTrip (src : Fin 8) (fuseV : Bool) (s : State) : Res :=
  if s.mode = 0 ∨ (s.on 4 || s.aonWatches src) = false then .next s
  else
    let level := s.tamperLevel src
    let phase := s.tamperPhase
    let s := s.tamperLatch src
    if s.on 4 then
      let s := (s.seeFuseV fuseV).cnt Reg.SEC_TAMPER_CNT
      let s := (s.evSec 0).logTamper src level phase
      let s := s.raiseWake 7 0
      if s.sec.prog.isSome then .next ((s.ceStop).updSec (fun c => { c with acts := c.acts ++ [(src.val, level)] }))
      else .next ((s.ceStop).tamperAct src level)
    else
      let s := (s.updSec (fun c => { c with trips := c.trips ++ [src.val] })).logTamper src level phase
      .next (s.raiseWake 7 0)

/-- Responses that waited for a fuse word, in order (R533). -/
def State.tamperActs : State → List (Nat × Nat) → State
  | s, [] => s
  | s, (src, level) :: l => (s.tamperAct src level).tamperActs l

/-- The trips latched while SEC was off act, in order (R532). -/
def State.tamperLate : State → List Nat → State
  | s, [] => s
  | s, src :: srcs =>
    let s := (s.cnt Reg.SEC_TAMPER_CNT).evSec 0
    (s.tamperAct src (s.tamperLevel src)).tamperLate srcs

/-! ## SEC's release (R513, R532, R535, R538) -/

/-- The key that the lifecycle derives (R513). -/
def SecRt.derive (c : SecRt) : Option Nat :=
  if (c.lcNow = 1 ∨ c.lcNow = 2) ∧ c.fuses.udsOk = true ∧ c.keyGone = false then
    some (Config.deviceKey (4 * c.fuses.uds + c.lcNow))
  else none

/-- SEC is released: its fields take what the fuses give, latched trips act before any key is derived, the DRBG's start-up
test begins, and the key is derived where no trip prevents it. -/
def State.secRelease (s : State) : State :=
  let k := Reg.SEC_STATE
  let c := s.sec
  let s := ((s.setFld k F.SEC_STATE_LC c.lcNow).setFld k F.SEC_STATE_DBG (lcDebug c.lcNow)).setFld k F.SEC_STATE_UDS_OK
    (if c.fuses.udsOk then 1 else 0)
  let s := (s.setFld k F.SEC_STATE_LC_PEND (if c.lcPend then 1 else 0)).setFld Reg.SEC_ARB F.SEC_ARB_COUNT c.fuses.count
  let s := s.rngTest false
  let trips := s.sec.trips
  let s := (s.updSec (fun c => { c with trips := [], acts := [], ops := [], fw := none, mctp := {}, nonce := none, tap := 1, tdiStream := [], tdiNonce := [] })).tamperLate trips
  if s.mode = 0xC then s
  else
    let key := s.sec.derive
    (s.updSec (fun c => { c with key := key })).setFld k F.SEC_STATE_KEY_ID (if key.isSome then 1 else 0)

end Sys2Proof.Machine
end

