-- ==== Sys2Proof/Machine/Boot.lean ====
section
/-! DEFINITION. Reset and bring-up: device-wide resets, the strap, the bring-up rows and the repair record, the boot paths,
entry to Ready, and the reset of one domain (17, and 19 R556, R558). -/

namespace Sys2Proof.Machine

/-! ## The repair record (R556, R558) -/

/-- Entries of eight bytes. -/
def entries8 : Nat → List Byte → List (List Byte)
  | 0, _ => []
  | n + 1, bs => bs.take 8 :: entries8 n (bs.drop 8)

/-- COUNT of a copy. -/
def recCount (c : List Byte) : Nat := leAt c 12 4

/-- Everything but DSN_LO of a copy is right. -/
def recForm (c : List Byte) : Bool :=
  leAt c 0 4 == 0x50524253 && leAt c 4 2 == 0x0100 && leAt c 6 2 == 8 && decide (recCount c ≤ 8188) &&
    decide (32 + 8 * recCount c ≤ c.length) &&
    crc32c ((c.take 16) ++ [0, 0, 0, 0] ++ ((c.drop 20).take (12 + 8 * recCount c))) == leAt c 16 4

/-- DSN_LO of a copy names this device. -/
def recOurs (dsn : Nat) (c : List Byte) : Bool := leAt c 20 4 == dsn % 2 ^ 32

/-- A copy is valid. -/
def recValid (dsn : Nat) (c : List Byte) : Bool := recForm c && recOurs dsn c

/-- The entries of the valid copy with the higher SEQ. -/
def Flash.entries (f : Flash) (dsn : Nat) : List (List Byte) :=
  let e (c : List Byte) := entries8 (recCount c) (c.drop 32)
  match recValid dsn f.rec0, recValid dsn f.rec1 with
  | true, true => if leAt f.rec0 8 4 < leAt f.rec1 8 4 then e f.rec1 else e f.rec0
  | true, false => e f.rec0
  | false, true => e f.rec1
  | false, false => []

/-- The Vat remaps of the record, a later entry superseding an earlier one for the same row. -/
def State.loadRemaps : State → List (List Byte) → State
  | s, [] => s
  | s, e :: es =>
    let b := leAt e 1 1
    let row := leAt e 4 2 * 1280 + leAt e 2 2
    (if leAt e 0 1 = 1 ∧ b < 16 then
      s.updBank b (fun r => { r with remap := (r.remap.filter (fun x => x != (row, leAt e 6 1))) ++ [(row, leAt e 6 1)] })
    else s).loadRemaps es

/-- The lane swaps of the record that belong to group `g`, or to the Cloton ports where `g` is 12. -/
def State.loadLanes : State → Nat → List (List Byte) → State
  | s, _, [] => s
  | s, g, e :: es =>
    (if leAt e 0 1 = 2 ∧ leAt e 1 1 = g ∧ g < 12 then
      (s.moveLane (8 * g + leAt e 3 1 % 8) (leAt e 4 1 % 2) (leAt e 2 1)).setRepairDue s.repairDue
    else if leAt e 0 1 = 3 ∧ g = 12 ∧ leAt e 1 1 < 4 then
      (s.updCl (leAt e 1 1) (fun c => { c with map := some (leAt e 2 1 % 4) })).setFld (Reg.CL_PORT_STAT (leAt e 1 1))
        F.CL_PORT_STAT_SPARE_USED 1
    else s).loadLanes g es

/-- The status of a failed boot source, with BOOT_SLOT_FAIL (R499, R502). -/
def State.bootFail (s : State) (status : Nat) : State := (s.setFld Reg.RS_BOOT F.RS_BOOT_LAST_FAIL status).evRs 6

/-- The repair record is read (R558): its remaps are applied, or REPAIR_RECORD is logged. -/
def State.readRecord (s : State) (c0 c1 : List Byte) : State :=
  let s := s.updFlash (fun f => { f with rec0 := c0, rec1 := c1 })
  if recValid s.sec.fuses.dsn c0 || recValid s.sec.fuses.dsn c1 then s.loadRemaps (s.flash.entries s.sec.fuses.dsn)
  else
    let foreign := recForm c0 || recForm c1
    (s.logKind 0xC (if foreign then 3 else 2)).bootFail 2

/-! ## Device-wide resets (R35, R486 to R493) -/

/-- A cause joins those that hold the device in Held. -/
def addSource (l : List (Nat × Nat)) (code aon : Nat) : List (Nat × Nat) := l.filter (fun e => e.1 != code) ++ [(code, aon)]

/-- The entry to Quarantine fell in the present AON cycle: a reset of the same cycle prevails (R37, R494). -/
def State.quarNow (s : State) : Bool := decide (s.rs.causeAon = some s.aon)

/-- A device-wide reset is accepted (R488, R489, R492, R493): outputs go to their safe levels, every domain but AON is
clamped, the cause is recorded, and the device is Held. -/
def State.deviceReset (s : State) (code detail : Nat) : State :=
  let s := if code = 4 ∨ code = 5 ∨ code = 6 ∨ code = 7 then s.yieldFirst else s
  let nested := decide (1 ≤ s.mode ∧ s.mode ≤ 3)
  let k := Reg.RS_BRINGUP
  let s := if nested then
      (s.setFld k F.RS_BRINGUP_RESTARTS (min 255 (s.fld k F.RS_BRINGUP_RESTARTS + 1))).updRs (fun r => { r with late := insNat r.late 3 })
    else s
  let s := (s.cnt Reg.RS_COUNT).setCause code detail
  let s := s.saveTime
  let t := Reg.PW_THERM_STAT
  let s := if s.fld t F.PW_THERM_STAT_LEVEL = 3 then s.setFld t F.PW_THERM_STAT_LEVEL 0 else s
  let s := s.setMode 1 (if s.mode = 0xC then 0x16 else 0x02)
  let s := ((s.wrW Reg.PW_ON 1).wrW Reg.PW_FORCED 0).wrW Reg.EV_ALERT 0
  let s := ((s.wrW (Reg.PW_HVOTE 33) 0).wrW (Reg.PW_HVOTE 34) 0).setFld Reg.PW_SUP_STAT F.PW_SUP_STAT_SHED 0
  let s := (s.setFld Reg.PW_SHED_STAT F.PW_SHED_STAT_SUP_SHED 0).setFld Reg.PW_SHED_STAT F.PW_SHED_STAT_TH_SHED 0
  let s := s.updPw (fun p => { p with idle := [], entries := [], exits := 0, convAt := none, h32 := false, sched := 0, sleep := none, waited := false,
                                      wake := none, latent := [], restore := 0 })
  let s := s.updRs (fun r => { r with sources := addSource r.sources code s.aon, swOpen := some s.aon, row := 0, src := 0, fw := false })
  s.updUm (fun _ => {})

/-- Registers that return to their after-reset values when the switches open: all but those that only an AON power-on
clears, with the pins' levels and what AON measures (R488, R489). -/
def State.regsAfterReset (s : State) : SMap Word :=
  let kept := s.regs.filter (fun e => regPerm e.1)
  let tl := Reg.TL_STATE
  let keep (m : SMap Word) (k : Nat) (fs : List Fld) : SMap Word :=
    SMap.put (rstW k) m k (fs.foldl (fun w f => f.put w (s.fld k f)) (rstW k))
  let kept := keep kept tl [F.TL_STATE_REF_PRESENT, F.TL_STATE_AON_CAL]
  let kept := SMap.put (rstW Reg.TL_AON_RATIO) kept Reg.TL_AON_RATIO (s.rdW Reg.TL_AON_RATIO)
  (List.range 8).foldl (fun m p => keep m (Reg.HL_PORT_STAT p) [F.HL_PORT_STAT_PERST, F.HL_PORT_STAT_REFCLK_OK]) kept

/-- The remap maps of the banks, which survive a reset (R191). -/
def keepRemaps : SMap BankRt → SMap BankRt
  | [] => []
  | (b, r) :: m => if r.remap = [] then keepRemaps m else (b, { remap := r.remap }) :: keepRemaps m

/-- Everything that a device-wide reset switches off takes its after-reset values (R456, R488). -/
def State.switchedOff (s : State) : State :=
  let r := State.reset
  { r with
    pending := s.pending, ticks := s.ticks, aon := s.aon, aonLeft := s.aonLeft, core := s.core, coreQ := s.coreQ,
    regs := s.regsAfterReset,
    tk := { Timekeeper.reset with sleep := s.tk.sleep, detectors := s.tk.detectors, episode := s.tk.episode },
    log := s.log, banks := keepRemaps s.banks, repairDue := s.repairDue, pw := s.pw,
    rs := { s.rs with swOpen := none },
    sec := { fuses := s.sec.fuses, lcNow := lcCode s.sec.fuses.lc, trips := s.sec.trips, drawn := s.sec.drawn },
    flash := s.flash, fresh := s.fresh, out := s.out }

/-- RESET_SWITCHES_OPEN (R488): 25 AON cycles after the acceptance. -/
def execResetSwitchesOpen (s : State) : Res :=
  match s.rs.swOpen with
  | some a => if a + 25 ≤ s.aon then .next s.switchedOff else .next s
  | none => .next s

/-- The device in Off: nothing but the fuses, the flash and the outside remains (R35). -/
def State.poweredOff (s : State) : State :=
  let r := State.reset
  { r with pending := s.pending, ticks := s.ticks, regs := [(Reg.PW_MODE, 0), (Reg.PW_ON, 0)], log := { r.log with queue := [] },
           sec := { fuses := s.sec.fuses, drawn := s.sec.drawn }, flash := s.flash, fresh := s.fresh, out := s.out }

/-- AON powers on (R35, R63, R548): the state after reset, with the fuses and the flash. -/
def State.poweredOn (s : State) : State :=
  let r := State.reset
  { r with pending := s.pending, ticks := s.ticks, sec := { fuses := s.sec.fuses, lcNow := lcCode s.sec.fuses.lc, drawn := s.sec.drawn },
           flash := s.flash, fresh := s.fresh, out := s.out }

/-- AON_POWER_ON (R35): from Off. -/
def execAonPowerOn (s : State) : Res := if s.mode = 0 then .next s.poweredOn else .next s

/-- BROWNOUT (R469): 125 consecutive readings below a rail's reset level, `mv` the lowest. VDD_AON's is the transition to Off;
another rail's cuts its dip off and resets the device, in Quarantine too (R487). -/
def execBrownout (rail : Fin 7) (mv : Nat) (s : State) : Res :=
  let r := rail.val
  if s.mode = 0 ∨ (railLow r).2 ≤ mv then .next s
  else if r = 5 then .next s.poweredOff
  else
    let s := match s.dip r with
      | some d =>
        let d : DipRt := { d with min := min d.min mv, reset := true }
        let dur := s.aon - d.stamp
        let s := if s.ownsDip r d then s.showDip r d dur true else s
        (s.logDip r d dur true).updPw (fun p => { p with dips := SMap.put none p.dips r none })
      | none => s
    let s := if r = 0 then s.setFld Reg.PW_SUP_STAT F.PW_SUP_STAT_WARN 0 else s
    .next (s.deviceReset 2 r)

/-- RESET_N_ACCEPTED (R487, R491). -/
def execResetNAccepted (s : State) : Res :=
  if s.mode = 0 ∨ s.rs.resetN = true then .next s
  else .next ((s.deviceReset 3 0).updRs (fun r => { r with resetN := true }))

/-- RESET_N_RELEASE (R490, R491): the pin goes high; a run that ended before acceptance is a glitch. -/
def execResetNRelease (s : State) : Res :=
  if s.mode = 0 then .next s
  else if s.rs.resetN then .next (s.updRs (fun r => { r with resetN := false, sources := addSource r.sources 3 s.aon }))
  else .next ((s.cnt Reg.RS_GLITCH).evRs 8)

/-- The Creamery restarts alone in Quarantine (R487): MGMT is reset, and the firmware is loaded again. -/
def State.creameryRestart (s : State) : State :=
  let notM (k : Nat) : Bool := regDom k != 3
  let s := (((s.keepRegs notM).keepImages notM).setLatches []).setHeldWr []
  let s := ((s.setChans []).setSlices []).updUm (fun _ => {})
  let s := (List.range 4).foldl (fun s q => (s.updSpare q (fun x => { x with testHdr := none })).rebind q) s
  -- the spare rows stay in use across every reset but power-on (R193)
  let s := (List.range 16).foldl (fun s b =>
    s.setFld (Reg.VAT_BANK_REPAIR b) F.VAT_BANK_REPAIR_USED ((s.bank b).remap.length)) s
  let s := (s.setFld Reg.RS_BOOT F.RS_BOOT_RESULT 0).mgmtOn.updRs (fun r => { r with src := 0, fw := false })
  s.evRs 10

/-- A watchdog expiry or a critical-state error: a device-wide reset, or in Quarantine a restart of the Creamery (R487). -/
def State.creameryFault (s : State) (code detail : Nat) : State :=
  if s.mode = 0xC ∧ s.quarNow = false then s.creameryRestart else s.deviceReset code detail

/-- CREAMERY_WATCHDOG_EXPIRY (R486): 1,250,000 AON cycles without service, while MGMT is released and no sleep entry runs. -/
def execCreameryWatchdogExpiry (s : State) : Res :=
  if s.on 3 = true ∧ s.pw.sleep = none ∧ s.rs.mgmtAt + 1250000 ≤ s.aon then .next (s.creameryFault 4 0) else .next s

/-- CRITICAL_STATE_ERROR (R135, R185, R486, R542): DETAIL as R493 numbers it. -/
def execCriticalStateError (detail : Byte) (s : State) : Res :=
  if s.mode ≠ 0 ∧ 1 ≤ detail.toNat ∧ detail.toNat ≤ 5 then .next (s.creameryFault 5 detail.toNat) else .next s

/-- PEER_RESET (R427): a higher epoch resets the device, in any mode but Quarantine. -/
def execPeerReset (hdr : BitVec 32) (body : List Byte) (s : State) : Res :=
  match s.mirrorRx 0xA hdr body with
  | (s, none) => .next s
  | (s, some bs) =>
    if epochHigher (leAt bs 0 2) (s.fld Reg.TW_EPOCH F.TW_EPOCH_EPOCH) = true ∧ s.mode ≠ 0xC then .next (s.deviceReset 7 0)
    else .next s

/-! ## Held and Strap (R490, R497, R498) -/

/-- A source that holds the device in Held is released by AON cycle `aon` (R490). -/
def sourceGone (aon : Nat) (resetN : Bool) (e : Nat × Nat) : Bool :=
  if e.1 = 1 ∨ e.1 = 2 then decide (e.2 + 2500 ≤ aon)
  else if e.1 = 3 then !resetN && decide (e.2 + 25 ≤ aon)
  else decide (e.2 + 250 ≤ aon)

/-- HELD_EXIT (R490): the last active source is released. -/
def execHeldExit (s : State) : Res :=
  if s.mode = 1 ∧ s.rs.swOpen = none ∧ s.rs.sources.all (sourceGone s.aon s.rs.resetN) = true then
    let s := (s.setFld Reg.PW_SUP_STAT F.PW_SUP_STAT_LOW (domMap ((List.range 7).filter (fun r => (s.dip r).isSome)))).setMode 2 0x03
    .next (s.updRs (fun r => { r with sources := [], rowAt := s.aon }))
  else .next s

/-- The band of a code: codes between bands are read as the band below (R498). -/
def bandOf (code : Nat) : Nat := min 15 ((code + 1) / 4)

/-- A code lies between bands (R498). -/
def between (code : Nat) : Bool := code % 4 == 2 && decide (code ≤ 58)

/-- CL_PORTx_CFG.EN after reset (R440): of C0, 1 for roles A and B; of the others, as CL_HERD_CFG.EN. -/
def State.clPortsEn (s : State) : State :=
  let s := s.setFld (Reg.CL_PORT_CFG 0) F.CL_PORT_CFG_EN (if s.role = 0 then 0 else 1)
  [1, 2, 3].foldl (fun s x => s.setFld (Reg.CL_PORT_CFG x) F.CL_PORT_CFG_EN (s.fld Reg.CL_HERD_CFG F.CL_HERD_CFG_EN)) s

/-- The role that the strap gives: TW_ROLE, herd participation and the Cloton ports' enables (R404, and the after-reset values
of 14). -/
def State.strapRole (s : State) (role : Nat) : State :=
  let s := (s.setFld Reg.TW_ROLE F.TW_ROLE_STRAP role).setFld Reg.TW_ROLE F.TW_ROLE_ROLE (if role = 3 then 0 else role)
  let en := if role = 3 then 1 else 0
  (s.setFld Reg.CL_HERD_CFG F.CL_HERD_CFG_EN en).clPortsEn

/-- STRAP_COMPLETE (R35, R497, R498): four conversions after 1,600 AON cycles of Strap. -/
def execStrapComplete (c0 c1 c2 c3 : Fin 64) (s : State) : Res :=
  if s.mode = 2 ∧ s.rs.rowAt + 1600 ≤ s.aon then
    let code := (c0.val + c1.val + c2.val + c3.val) / 4
    let band := bandOf code
    let k := Reg.RS_STRAP
    let old := s.fld k F.RS_STRAP_BAND
    let had := s.rs.banded
    let s := if had then (s.setFld k F.RS_STRAP_PREV_VALID 1).setFld k F.RS_STRAP_PREV_BAND old else s
    let s := ((s.setFld k F.RS_STRAP_CODE code).setFld k F.RS_STRAP_BAND band).setFld k F.RS_STRAP_ROLE (band / 4)
    let s := (s.setFld k F.RS_STRAP_BOOT (band % 4)).setFld k F.RS_STRAP_BETWEEN (if between code then 1 else 0)
    let s := if between code then s.evRs 4 else s
    let s := if had ∧ old ≠ band then s.evRs 5 else s
    let s := s.strapRole (band / 4)
    let s := (s.wrW Reg.RS_BOOT 0).setFld Reg.RS_BOOT F.RS_BOOT_PATH (band % 4)
    let s := (s.setFld Reg.RS_BRINGUP F.RS_BRINGUP_LAST_DOMAIN 0).setFld Reg.RS_BRINGUP F.RS_BRINGUP_DONE 0
    .next ((s.setMode 3 0x04).updRs (fun r => { r with row := 0, rowAt := s.aon, src := 0, fw := false, banded := true }))
  else .next s

/-! ## Bring-up (R499 to R501) -/

/-- The rows of R499. -/
def bringRows : List Nat :=
  [4, 3, 2] ++ (List.range 16).map domV ++ (List.range 16).map domC ++ (List.range 12).map domL ++ [5] ++ (List.range 8).map domH

/-- The boot path in force. -/
def State.bootPath (s : State) : Nat := s.fld Reg.RS_BOOT F.RS_BOOT_PATH

/-- No source is left: Quarantine with cause 0x0A (R502, R515). -/
def State.noImage (s : State) : State := (s.setFld Reg.RS_BOOT F.RS_BOOT_RESULT 2).enterQuarantine 0x06 0xA s.bootPath

/-- What a bring-up row does beside the release of its domain. -/
def State.rowHook (s : State) (d : Nat) : State :=
  if d = 4 then s.secRelease
  else if d = 3 then
    let s := s.domOn 1
    if s.sec.lcNow = 4 then s.noImage else s
  else if d = 2 then s.reloadTime
  else if 0x30 ≤ d ∧ d < 0x40 then
    s.setFld (Reg.VAT_BANK_REPAIR (d - 0x30)) F.VAT_BANK_REPAIR_USED ((s.bank (d - 0x30)).remap.length)
  else if 0x10 ≤ d ∧ d < 0x1C then s.loadLanes (d - 0x10) (s.flash.entries s.sec.fuses.dsn)
  else if d = 5 then
    let s := s.loadLanes 12 (s.flash.entries s.sec.fuses.dsn)
    if s.bootPath = 2 then s.updRs (fun r => { r with srcAt := s.aon }) else s
  else s

/-- What VAT0 waits for: on boot paths 0 and 1, the repair record read, or 10 ms since MGMT's release (R499). -/
def State.recordWait (s : State) (copy0 copy1 : List Byte) : Bool :=
  decide (2 ≤ s.bootPath) || !(copy0.isEmpty && copy1.isEmpty) || decide (s.rs.mgmtAt + 250000 ≤ s.aon)

/-- BRINGUP_ROW_RELEASE (R499): the next row's domain is released, at the earliest its gap after the row before. `copy0` and
`copy1` are what the boot ROM read of the repair record, empty where it read nothing. -/
def execBringupRowRelease (copy0 copy1 : List Byte) (s : State) : Res :=
  let n := s.rs.row
  match bringRows[n]? with
  | some d =>
    if s.mode = 3 ∧ s.rs.rowAt + (if n < 3 then 25 else 50) ≤ s.aon ∧ (n = 3 → s.recordWait copy0 copy1 = true) then
      let s := if n = 3 ∧ s.bootPath ≤ 1 then s.readRecord copy0 copy1 else s
      let s := s.updRs (fun r => { r with row := n + 1, rowAt := s.aon })
      let s := (s.setFld Reg.RS_BRINGUP F.RS_BRINGUP_LAST_DOMAIN d).setFld Reg.RS_BRINGUP F.RS_BRINGUP_DONE
        (if n + 1 = bringRows.length then 1 else 0)
      .next ((s.domOn d).rowHook d)
    else .next s
  | none => .next s

/-! ## Boot paths (R502 to R505, R514, R515) -/

/-- The sources of a boot path, by their codes in RS_BOOT.SOURCE. -/
def bootSources (path : Nat) : List Nat :=
  if path = 0 then [0, 1] else if path = 1 then [0, 1, 3] else if path = 2 then [2] else [3]

/-- The boot ROM is looking for an image: in Bring-up, or after the Creamery's restart in Quarantine. -/
def State.booting (s : State) : Bool :=
  (s.mode == 3 || s.mode == 0xC) && s.on 3 && s.fld Reg.RS_BOOT F.RS_BOOT_RESULT == 0 && s.sec.lcNow != 4

/-- A PLDM for Firmware Update message to the endpoint that supplies the image (R505): its header is DSP0267's (PRESUMED,
log 70). -/
def State.pldmSend (s : State) (cmd : Nat) (body : List Byte) : State :=
  let n := s.rs.pldm.length / 1024 % 32
  s.emit (.sideband s.rs.agent 0 true ([1, BitVec.ofNat 8 (0x80 + n), 5, BitVec.ofNat 8 cmd] ++ body))

/-- PLDM_FIRMWARE_DATA (R505): a piece of the sideband image that the device asked for, of 1,024 bytes or the rest of the
image. The next piece is asked for, or the transfer is complete. -/
def execPldmFirmwareData (eid : Nat) (piece : List Byte) (s : State) : Res :=
  if s.booting = true ∧ (bootSources s.bootPath)[s.rs.src]? = some 3 ∧ piece.length ≤ 1024 then
    let s := s.updRs (fun r => { r with pldm := r.pldm ++ piece, agent := eid })
    let n := s.rs.pldm.length
    if 1024 ≤ n ∧ 1024 + leAt s.rs.pldm 16 4 ≤ n then .next (s.pldmSend 0x16 [0])
    else .next (s.pldmSend 0x15 (leBytes 4 n ++ leBytes 4 1024))
  else .next s

/-- The time limit of a boot source in AON cycles, for a flash slot that of 8D-8D-8D (R502). -/
def sourceLimit (src : Nat) : Nat := if src < 2 then 3750000 else if src = 2 then 250000000 else 15000000000

/-- BOOT_SOURCE_FAIL (R502, R505): the source in turn fails with its status. A sideband image that fails verification is
followed by another transfer until the time limit. -/
def execBootSourceFail (status : Byte) (s : State) : Res :=
  let st := status.toNat
  match (bootSources s.bootPath)[s.rs.src]? with
  | some src =>
    if s.booting = true ∧ 2 ≤ st ∧ st ≤ 5 ∧ (st = 5 → s.rs.srcAt + sourceLimit src ≤ s.aon) then
      let k := Reg.RS_BOOT
      let s := s.setFld k F.RS_BOOT_SOURCE src
      let s := if src = 0 then s.setFld k F.RS_BOOT_SLOTA st else if src = 1 then s.setFld k F.RS_BOOT_SLOTB st else s
      let s := s.bootFail st
      let s := if st = 3 then s.evSec 6 else s
      let s := if src = 3 then (s.pldmSend 0x17 [1]).updRs (fun r => { r with pldm := [] }) else s
      if src = 3 ∧ st ≠ 5 then .next s
      else
        let s := s.updRs (fun r => { r with src := r.src + 1, srcAt := s.aon })
        .next (if s.rs.src < (bootSources s.bootPath).length then s
          else if s.mode = 3 then s.noImage else s.setFld k F.RS_BOOT_RESULT 2)
    else .next s
  | none => .next s

/-- The bits of register `k` that the firmware can set: its reserved bits keep reading 0 (R16). -/
def imageMask (k : Nat) : Word :=
  match findReg k with
  | some (r, _) => BitVec.ofNat 64 (r.rw ||| r.hw)
  | none => 0

/-- A register's bits that the image's tables set, where they set it (R514). -/
def State.imageSet (s : State) (k : Nat) : State :=
  match Config.imageWord s.image k with
  | some w => s.wrW k ((s.rdW k &&& ~~~ imageMask k) ||| (w &&& imageMask k))
  | none => s

/-- TL_REF_CFG as the image's tables set it: REF_SEL changes in Invalid alone, and a code that names no reference makes it
absent (R54, R89). -/
def State.imageRef (s : State) : State :=
  let sel := s.fld Reg.TL_REF_CFG F.TL_REF_CFG_REF_SEL
  let t := s.imageSet Reg.TL_REF_CFG
  let t := if s.tlState = 0 then t else t.setFld Reg.TL_REF_CFG F.TL_REF_CFG_REF_SEL sel
  if 5 ≤ t.fld Reg.TL_REF_CFG F.TL_REF_CFG_REF_SEL then t.refLost else t

/-- The values that the image's tables give at the firmware's start: REF_SEL, the host table with each port's layout, the
manager link and the sideband address (R54, R287, R289, R466). -/
def State.imageTables (s : State) : State :=
  let s := [Reg.HL_GLOBAL_MGR, Reg.PW_SB_ADDR].foldl State.imageSet s.imageRef
  (List.range 8).foldl (fun s p =>
    let s := s.imageSet (Reg.HL_PORT_CFG p)
    s.setFld (Reg.HL_PORT_STAT p) F.HL_PORT_STAT_BIF (s.fld (Reg.HL_PORT_CFG p) F.HL_PORT_CFG_BIF_NEXT)) s

/-- The first Cloton port that is Up: the peer of boot path 2 (R504). -/
def State.upPort (s : State) : Nat :=
  (([0, 1, 2, 3] : List ClPort).find? (fun x => s.isUp (.cl x))).elim 0 (·.val)

/-- FIRMWARE_VERIFIED (R502, R515): the image of the source in turn passes every check and starts. -/
def execFirmwareVerified (image : List Byte) (s : State) : Res :=
  match (bootSources s.bootPath)[s.rs.src]? with
  | some src =>
    if s.booting = true ∧ s.sec.fuses.imageStatus image = 1 ∧ (src = 3 → s.rs.pldm.take image.length = image) then
      let k := Reg.RS_BOOT
      let s := (s.setFld k F.RS_BOOT_RESULT 1).setFld k F.RS_BOOT_SOURCE src
      let s := if src = 0 then s.setFld k F.RS_BOOT_SLOTA 1 else if src = 1 then s.setFld k F.RS_BOOT_SLOTB 1 else s
      let s := if src = 2 then s.setFld k F.RS_BOOT_CLPORT (if s.role = 0 then s.upPort else 0) else s
      let s := if src = 3 then (s.pldmSend 0x17 [0]).pldmSend 0x18 [0, 0, 0] else s
      let s := if src = 1 ∨ (src = 3 ∧ s.bootPath = 1) then (s.setFld k F.RS_BOOT_FALLBACK 1).evRs 7 else s
      let s := (s.setImage (imageBody image)).updFlash (fun f => if src = 0 then { f with slotA := image } else f)
      let s := (s.updSec (fun c => { c with imgHead := image.take 1024 })).updRs (fun r => { r with fw := true, pldm := [] })
      .next s.imageTables.rtAll
    else .next s
  | none => .next s

/-! ## Ready (R501, R508, R516, R593) -/

/-- RS events that waited for Ready. -/
def State.lateRs : State → List Nat → State
  | s, [] => s
  | s, e :: es => (s.evRs e).lateRs es

/-- READY_ENTRY (R501): every row is released, the firmware has started and opens the ring carrier. -/
def execReadyEntry (fuseV : Bool) (s : State) : Res :=
  if s.mode = 3 ∧ s.rs.row = bringRows.length ∧ s.rs.fw = true then
    let s := ((s.seeFuseV fuseV).setMode 4 0x05).updPw (fun p => { p with h32 := true, idle := [] })
    let s := [Reg.PIN_GPIO_DIR, Reg.PIN_GPIO_OUT, Reg.PIN_GPIO_DRV, Reg.PIN_GPIO_OD].foldl State.imageSet s
    let late := s.rs.late
    let s := s.updRs (fun r => { r with late := [] })
    let s := (s.evRs (if s.fld Reg.RS_CAUSE F.RS_CAUSE_CODE = 1 then 1 else 0)).lateRs late
    .next s
  else .next s

/-! ## RESET_DOMAIN (R401, R486, R495, R496) -/

/-- A domain that R495 resets. -/
def resettable (d : Nat) : Bool :=
  d == 5 || (decide (8 ≤ d) && decide (d < 0x1C)) || (decide (0x20 ≤ d) && decide (d < 0x40))

/-- The channels whose descriptor touches domain `d` (R226, R227). -/
def State.touching (s : State) (d : Nat) : List Nat :=
  s.liveChans.filter (fun c => s.chBusy c && (domH (s.slLink (s.chSlice c) / 4) == d || domV (s.pailBank (s.chPail c)) == d))

/-- Step 1 of a domain's reset (R495): transfers end, and the clamps are set. -/
def State.domResetStart (s : State) (d : Nat) : State :=
  let cs := s.touching d
  -- the link of a host port's domain is down when its channels end, so they write no record (R226)
  ((s.domLost d).endChans cs 0xA).setOn d false

/-- RESET_DOMAIN (R401, R495, R496). -/
def execResetDomain (h : UmHdr) (p : List Byte) (s : State) : Res :=
  s.umRun h 0x0C00 p.length (fun s =>
    let scope := leAt p 0 1
    let d := leAt p 1 1
    if scope = 0 then
      (s.updUm (fun u => { u with resetAt := some (s.ticks + 4096, ownerOf h.carrier) })).reply h 0x0C00 stOK []
    else if scope ≠ 1 ∨ resettable d = false then s.refuse h 0x0C00 stBadParam
    else if s.entry d ≠ 0 ∨ s.pw.exits.testBit d = true then s.updUm (fun u => { u with domReset := u.domReset ++ [(d, 0, h)] })
    else if s.on d then (s.domResetStart d).updUm (fun u => { u with domReset := u.domReset ++ [(d, s.aon + 25, h)] })
    else s.reply h 0x0C00 stOK [])

/-- Steps 3 and 4 of a domain's reset (R495): its registers but the RWG ones take their after-reset values, and it goes on as
after an exit. After a Churn unit's reset the quadrant's units are bound as R118 says (DEDUCED, log 74). -/
def State.domResetEnd (s : State) (d : Nat) : State :=
  let s := s.keepRegs (fun k => regDom k != d)
  let s := if 0x20 ≤ d ∧ d < 0x30 then s.rebind ((d - 0x20) / 4) else s
  let s := if d = 5 then s.clPortsEn else s
  let s := (s.setOn d true).updPw (fun p => { p with idle := SMap.put 0 p.idle d 0 })
  (s.domHook d).evRs 2

/-- DOMAIN_RESET_COMPLETE (R495, R496): the oldest domain reset whose time has come ends, or one that waited for an entry
begins, or ends on a domain that is off. -/
def execDomainResetComplete (s : State) : Res :=
  match s.um.domReset.find? (fun r => decide (r.2.1 ≤ s.aon) && s.entry r.1 == 0 && !s.pw.exits.testBit r.1) with
  | some (d, t, h) =>
    let s := s.updUm (fun u => { u with domReset := u.domReset.filter (fun r => r.1 != d) })
    if t ≠ 0 then .next ((s.domResetEnd d).reply h 0x0C00 stOK [])
    else if s.on d then .next ((s.domResetStart d).updUm (fun u => { u with domReset := u.domReset ++ [(d, s.aon + 25, h)] }))
    else .next (s.reply h 0x0C00 stOK [])
  | none => .next s

/-- RESET_DOMAIN_DEVICE_START (R401): 4,096 Tc after the reply is posted. -/
def execResetDomainDeviceStart (s : State) : Res :=
  match s.um.resetAt with
  | some (t, c) =>
    if t ≤ s.ticks ∧ s.um.due.all (fun r => r.op != 0x0C00 || r.status != stOK) = true then .next (s.deviceReset 6 c) else .next s
  | none => .next s

/-- RS_CAUSE_GET (R401, R509). -/
def execRsCauseGet (h : UmHdr) (p : List Byte) (s : State) : Res :=
  s.umRun h 0x0B05 p.length (fun s =>
    s.reply h 0x0B05 stOK (leBytes 4 (s.rdW Reg.RS_CAUSE).toNat ++ leBytes 8 (s.rdW Reg.RS_CAUSE_STAMP).toNat ++
      leBytes 8 (s.rdW Reg.RS_CAUSE_TL).toNat))

end Sys2Proof.Machine
end

