-- ==== Sys2Proof/Machine/Sleep.lean ====
section
/-! DEFINITION. Sleep entry, its abort, the wake and its sources, Doze samples and Deep Sleep's comparators (15 R457 to
R463, and 02 R84). -/

namespace Sys2Proof.Machine

/-! ## Restores from the Cooler (R185, R456) -/

/-- Errors that a restore meets in the Cooler (R170, R184, R185): each is counted, and an uncorrectable one is a critical-state
error; the Boolean says that there was one. -/
def State.coolerErrors (s : State) (hits : List EccHit) : State × Bool :=
  let (s, bad) := s.storeErrors 3 hits
  (if bad then s.creameryFault 5 4 else s, bad)

/-- DOMAIN_RELEASED (R442, R444, R446, R456): a domain that is not forced off, whose prerequisite is on, and that is wanted or
whose exit began before its last vote was withdrawn. The exit of SEC, MGMT and TK belongs to bring-up and to a wake. -/
def execDomainReleased (d : Fin 64) (s : State) (hits : List EccHit := []) : Res :=
  if domMask.testBit d = true ∧ s.on d = false ∧ 4 ≤ s.mode ∧ s.dozing = false ∧ (s.wanted d || s.pw.exits.testBit d) = true ∧
      s.forcedMap.testBit d = false ∧ s.on (prereq d) = true ∧ s.entry (prereq d) = 0 ∧ ¬ (2 ≤ d.val ∧ d.val ≤ 4) ∧
      s.um.domReset.all (fun r => r.1 != d.val || r.2.1 == 0) = true then
    .next ((s.domOn d).coolerErrors hits).1
  else .next s

/-! ## Sleep entry (R44, R447, R454, R455, R457) -/

/-- What the switching-off of MGMT and SEC takes (R454, R455, R538). -/
def LinkRt.slept (l : LinkRt) : LinkRt := { l.cleared with spdm := {} }

/-- Every link's part in a list slept. -/
def sleptLinks : SMap LinkRt → SMap LinkRt
  | [] => []
  | (m, l) :: ls => (m, l.slept) :: sleptLinks ls

/-- Umger's part that outlives sleep: the stored work report and what saved registers show. -/
def Um.slept (u : Um) : Um :=
  { report := u.report, activeAt := u.activeAt, transit := u.transit, refusalDet := u.refusalDet, last := u.last }

/-- TK, MGMT and SEC switch off together and the device is asleep (R457, R466). -/
def State.fallAsleep (s : State) (target : Nat) : State :=
  let s := s.lockDebug
  let ref := (s.flag Reg.TL_STATE F.TL_STATE_REF_PRESENT, s.flag Reg.TL_STATE F.TL_STATE_PPS_PRESENT)
  let s := (s.setMode target 0x0D).entryDone 1 5 4 target
  let s := (((s.domOff 2).domOff 1).domOff 3).domOff 4
  let s := (((s.setLinks (sleptLinks s.links)).updUm Um.slept).setLatches []).setHeldWr []
  let s := if target = 0xA then s.setFld Reg.PW_DOZE_STAT F.PW_DOZE_STAT_SAMPLES 0 else s
  s.updPw (fun p => { p with sleep := none, idle := [], entries := [], exits := 0, dozeAt := s.aon, dozeRef := ref, dozePres := none, latent := [] })

/-- SLEEP_ENTRY (R44, R455, R457): once no other vote stands, the final reply is posted, holder 32 withdraws and the entry
begins; once every other domain is off, TK, MGMT and SEC switch off. -/
def execSleepEntry (s : State) : Res :=
  match s.sleepReq, s.pw.sleep, s.um.mode with
  | some r, _, _ =>
    if s.sleepVotes r.target = 0 then
      let s := s.modeFinal r.hdr stOK
      let s := if s.genState = 1 then s.closeGen else s
      .next (s.updPw (fun p => { p with sleep := some r.target, h32 := false, wake := none }))
    else .next s
  | none, some t, some r =>
    if s.sleepVotes t = 0 ∧ s.pw.wake = none ∧ r.cancel = [] ∧ s.onMap &&& leafMask = 0 then .next (s.fallAsleep t) else .next s
  | _, _, _ => .next s

/-! ## Aborts (R448, R449, R457, R463, R466) -/

/-- The lowest wake code of a set. -/
def lowBit (v : Nat) : Nat := ((List.range 11).find? (fun c => v.testBit c)).getD 0

/-- The wake record (R463). -/
def State.recordWake (s : State) (w : WakeRt) : State :=
  let k := Reg.PW_WAKE_LAST
  let code := lowBit w.codes
  let s := ((s.setFld k F.PW_WAKE_LAST_CODE code).setFld k F.PW_WAKE_LAST_ALL w.codes).setFld k F.PW_WAKE_LAST_PORT
    (if code = 2 ∨ code = 3 then w.port else 0)
  s.wrW Reg.PW_WAKE_STAMP (BitVec.ofNat 64 w.aon)

/-- PW_ENTRY after an abort, and PW_ENTRY_ABORT (R448). -/
def State.aborted (s : State) (at_ d target : Nat) : State :=
  let k := Reg.PW_ENTRY
  ((s.entryDone 2 at_ d target).setFld k F.PW_ENTRY_ABORTS (min 255 (s.fld k F.PW_ENTRY_ABORTS + 1))).evPw 2

/-- DOMAIN_ENTRY_ABORT (R448, R457): a vote, a wake source or a cancel that arrives at step 1, 2 or 3 unwinds the entry of a
domain, or of TK, MGMT and SEC as one. -/
def execDomainEntryAbort (d : Fin 64) (at_ : Fin 4) (s : State) : Res :=
  let st := max 1 at_.val
  match s.pw.sleep, s.um.mode with
  | some t, some r =>
    if 2 ≤ d.val ∧ d.val ≤ 4 ∧ (s.sleepVotes t ≠ 0 ∨ s.pw.wake.isSome = true ∨ r.cancel ≠ []) then
      let s := match s.pw.wake with
        | some w => s.recordWake w
        | none => s
      let s := (s.setTransit false).updPw (fun p => { p with sleep := none, wake := none, h32 := true, idle := [] })
      .next (((s.updUm (fun u => { u with mode := none })).cancelFinals r.cancel).aborted st d t)
    else if s.entry d = 1 ∧ s.wanted d = true then
      .next ((s.updPw (fun p => { p with entries := SMap.put 0 p.entries d 0, idle := SMap.put 0 p.idle d 0 })).aborted st d 0)
    else .next s
  | _, _ =>
    if s.entry d = 1 ∧ s.wanted d = true then
      .next ((s.updPw (fun p => { p with entries := SMap.put 0 p.entries d 0, idle := SMap.put 0 p.idle d 0 })).aborted st d 0)
    else .next s

/-! ## Wake (R86, R455, R458, R463, R532) -/

/-- The device is in Doze or Deep Sleep. -/
def State.asleep (s : State) : Bool := s.mode == 0xA || s.mode == 0xB

/-- Power events that waited for MGMT (R465). -/
def State.latePw : State → List Nat → State
  | s, [] => s
  | s, e :: es => (s.evPw e).latePw es

/-- SEC powers up, and its latched trips act: a level of 0b10 or above gives Quarantine instead of Ready (R532). -/
def State.secWake (s : State) : State := (s.domOn 4).secRelease

/-- WAKE (R458): SEC, MGMT and TK power up in order and the device is in Ready. `boot` is the image that the boot ROM loads
where the resident copy of the firmware does not match (R455). -/
def execWake (boot : Option (List Byte)) (s : State) (hits : List EccHit := []) : Res :=
  match s.pw.wake with
  | some w =>
    if s.asleep = true ∧ boot.all (fun i => s.sec.fuses.imageStatus i == 1) = true then
      let late := s.pw.latent
      let s := (s.recordWake w).updPw (fun p => { p with wake := none, latent := [] })
      let s := s.secWake
      if s.mode = 0xC then .next ((s.evPw 1).latePw late)
      else
        let (s, bad) := (((s.domOn 3).domOn 1).domOn 2).coolerErrors hits
        if bad then .next s
        else
        let s := s.reloadTime
        let s := s.updPw (fun p => { p with h32 := true, idle := [] })
        let s := match boot with
          | some i => ((s.setImage (imageBody i)).updSec (fun c => { c with imgHead := i.take 1024 })).evPw 8
          | none => s
        .next (((s.setMode 4 0x0E).evPw 1).latePw late)
    else .next s
  | none => .next s

/-! ## Wake sources (R84, R461, R462) -/

/-- SIDEBAND_ADDRESS_MATCH (R462): not acknowledged, and wake source 0x1. -/
def execSidebandAddressMatch (addr : Fin 128) (s : State) : Res :=
  if addr.val = s.fld Reg.PW_SB_ADDR F.PW_SB_ADDR_ADDR then .next (s.raiseWake 1 0) else .next s

/-- INBAND_WAKE (R461): electrical-idle exit on a host port whose links are in L2/L3 Ready, or a signal on C0. -/
def execInbandWake (port : Option HPort) (s : State) : Res :=
  match port with
  | some p => if (s.linksOf p).all (fun m => (s.link m).l23) = true then .next (s.raiseWake 3 p) else .next s
  | none => .next (s.raiseWake 5 0)

/-- GPIO_WAKE (R461, R593): the levels of the GPIO pins; one at the level set for it is wake source 0x6. -/
def execGpioWake (level : BitVec 16) (s : State) : Res :=
  let en := s.fld Reg.PW_WAKE_GPIO F.PW_WAKE_GPIO_EN
  let want := s.fld Reg.PW_WAKE_GPIO F.PW_WAKE_GPIO_LEVEL
  let s := s.wrW Reg.PIN_GPIO_IN (level.setWidth 64)
  if (List.range 16).any (fun i => en.testBit i && (level.toNat.testBit i == want.testBit i)) then .next (s.raiseWake 6 0) else .next s

/-- ALARM_WAKE_START (R84): TL_WAKE_LEAD before an alarm's instant, earlier by the uncertainty accrued where the reference is
absent. -/
def execAlarmWakeStart (a : Fin 4) (s : State) : Res :=
  match s.tk.sleep with
  | some c =>
    let k := Reg.TL_ALARM_CTRL a
    let (e, u, _) := c.wake s.ticks s.aon
    let lead := s.fld Reg.TL_WAKE_LEAD F.TL_WAKE_LEAD_LEAD + (if c.refLost then u else 0)
    if s.asleep = true ∧ c.has = true ∧ s.flag k F.TL_ALARM_CTRL_EN = true ∧ s.flag k F.TL_ALARM_CTRL_WAKE_EN = true ∧
        tlReached ((c.count + e + lead) % piTl) (tlCount (s.rdW (Reg.TL_ALARM_AT a))) = true then .next (s.raiseWake 4 0)
    else .next s
  | none => .next s

/-- SEC, MGMT and MON power up for Quarantine from sleep (R45, R459). -/
def State.sleepTrip (s : State) (sensor : Nat) : State :=
  let s := (s.setFld Reg.PW_THERM_STAT F.PW_THERM_STAT_LEVEL 3).secWake
  s.enterQuarantine 0x15 9 sensor

/-- AON_COMPARATOR_THERMAL (R460): the sensor at the die's centre, in Deep Sleep. -/
def execAonComparatorThermal (temp : Byte) (s : State) : Res :=
  if s.mode = 0xB then .next (if 120 ≤ degC temp then s.sleepTrip 12 else s.raiseWake 0xA 0) else .next s

/-! ## Doze (R459) -/

/-- The Doze period in AON cycles. -/
def State.dozePeriod (s : State) : Nat := 25000 * min 10000 (max 1 (s.fld Reg.PW_DOZE_PERIOD F.PW_DOZE_PERIOD_MS))

/-- Port `n` is probed in Doze. -/
def State.dozeMask (s : State) (n : Nat) : Bool :=
  (s.fld (Reg.PW_DOZE_PMASK (n / 32)) F.PW_DOZE_PMASK_PORTS).testBit (n % 32)

/-- A hit of a sample: its event waits for MGMT, and its wake codes arise. -/
def State.dozeHit (s : State) (hit : Bool) (e : Nat) (codes : List Nat) : State :=
  if hit then codes.foldl (fun s c => s.raiseWake c 0) (s.updPw (fun p => { p with latent := insNat p.latent e })) else s

/-- DOZE_SAMPLE (R459): one sample of MON: the sixteen readings, the rails outside their windows, the presence of TREF_CLK
and TREF_PPS, and the ports found present. -/
def execDozeSample (temps : List Byte) (rails : BitVec 7) (clk pps : Bool) (pres : List Nat) (s : State) : Res :=
  if s.mode = 0xA ∧ temps.length = 16 ∧ s.pw.dozeAt + s.dozePeriod ≤ s.aon then
    let ts := goodTemps 0 temps
    let hot := hottest ts
    let k := Reg.PW_DOZE_STAT
    let s := (s.setFld k F.PW_DOZE_STAT_SAMPLES (min (2 ^ 24 - 1) (s.fld k F.PW_DOZE_STAT_SAMPLES + 1))).setFld k F.PW_DOZE_STAT_MAX_T
      (uInt 8 hot.2)
    let s := s.updPw (fun p => { p with dozeAt := s.aon })
    if ts.any (fun t => decide (120 ≤ t.2)) then .next (s.sleepTrip hot.1)
    else
      let thr := Reg.PW_DOZE_THR
      let hi := min 119 (sNat 8 (s.fld thr F.PW_DOZE_THR_THR_HI))
      let lo := sNat 8 (s.fld thr F.PW_DOZE_THR_THR_LO)
      let therm := ts.any (fun t => decide (hi ≤ t.2)) || (s.flag thr F.PW_DOZE_THR_LO_EN && ts.any (fun t => decide (t.2 ≤ lo)))
      let ref := s.flag thr F.PW_DOZE_THR_REF_EN && decide ((clk, pps) ≠ s.pw.dozeRef)
      let now := (List.range 96).filter (fun n => s.dozeMask n && pres.contains n)
      let there := s.flag thr F.PW_DOZE_THR_PRES_EN && s.pw.dozePres.any (fun l => l != now)
      let s := (s.dozeHit therm 9 [8, 0xA]).dozeHit (rails != 0) 10 [8, 9]
      let s := (s.dozeHit ref 11 [8]).dozeHit there 12 [8]
      .next (s.updPw (fun p => { p with dozePres := some now }))
  else .next s

/-! ## DOZE_CFG (R401, R466) -/

/-- Words staged in consecutive registers of a list, mirrored to the twin (R418). -/
def State.stageWords : State → List (Nat × Nat) → State
  | s, [] => s
  | s, (k, v) :: ws =>
    let w := (BitVec.ofNat 64 v) &&& rwgMask k
    let s := s.updUm (fun u => { u with marks := u.marks.filter (fun j => j != k) })
    ((s.stage k w).mirrorStaged k w).stageWords ws

/-- DOZE_CFG (R401, R466): five words staged. -/
def execDozeCfg (h : UmHdr) (p : List Byte) (s : State) : Res :=
  s.umRun h 0x0804 p.length (fun s =>
    if p.length ≠ 20 then s.refuse h 0x0804 stBadParam
    else
      match s.genNeeds h.carrier 1 with
      | some st => s.refuse h 0x0804 st
      | none =>
        (s.stageWords [(Reg.PW_DOZE_PERIOD, leAt p 0 4), (Reg.PW_DOZE_THR, leAt p 4 4), (Reg.PW_DOZE_PMASK 0, leAt p 8 4),
          (Reg.PW_DOZE_PMASK 1, leAt p 12 4), (Reg.PW_DOZE_PMASK 2, leAt p 16 4)]).reply h 0x0804 stOK [])

end Sys2Proof.Machine
end

