-- ==== Sys2Proof/Machine/Security.lean ====
section
/-! DEFINITION. The security block's commands: firmware images in flash, lifecycle and debug tokens, the curve engine's
ends, fuse programming, zeroization, tamper levels and the TAP (18 R510 to R537). -/

namespace Sys2Proof.Machine

/-! ## What the curve engine answers (R519, R520) -/

/-- A verification's result counted: INVALID_INPUT adds 1 to SEC_CE_INVALID and raises CE_INVALID. -/
def State.ceResult (s : State) (r : Nat) : State := if r = 2 then (s.cnt Reg.SEC_CE_INVALID).evSec 15 else s

/-! ## Tokens (R512, R534, R535) -/

/-- A P-384 key may sign tokens: its hash is DBG_AUTH_HASH or that of a root key that is not revoked. -/
def Fuses.tokenKey (f : Fuses) (key : List Byte) : Bool :=
  (!f.dbgAuth.isEmpty && sha384 key == f.dbgAuth) || f.rootKey key

/-- The fields of a token but for its signature match the command and the device (R534). -/
def State.tokenFields (s : State) (types : List Nat) (arg : Nat) (tok : List Byte) : Bool :=
  leAt tok 0 4 == 0x4E4B5453 && types.contains (leAt tok 4 1) && leAt tok 5 1 == arg && leAt tok 6 2 == 0 &&
    leAt tok 8 8 == s.sec.fuses.dsn && s.sec.nonce == some ((tok.drop 16).take 32) &&
    s.sec.fuses.tokenKey ((tok.drop 48).take 96)

/-- The engine's verification of a token's signature over its signed range (R534). -/
def tokenSig (tok : List Byte) : Nat :=
  verify384 ((tok.drop 48).take 96) (tok.take 144 ++ tok.drop 240) ((tok.drop 144).take 96)

/-- The lowest unused bit of LC bits 1 to 6, programmed. -/
def lcNext (lc : Nat) : Option Nat := (([1, 2, 3, 4, 5, 6] : List Nat).find? (fun i => !lc.testBit i)).map (fun i => 2 ^ i)

/-- The LC bits that a transition programs (R512); none where it is not listed, or no bit is unused. -/
def lcBits (lc target : Nat) : Option Nat :=
  let now := lcCode lc
  if now = 0 ∧ target = 1 then some 1
  else if (now = 1 ∧ target = 2) ∨ (now = 2 ∧ target = 1) then lcNext lc
  else if (now = 1 ∨ now = 2) ∧ target = 3 then some (2 ^ 7)
  else if now ≠ 4 ∧ target = 4 then some (2 ^ 8)
  else none

/-- LC_ADVANCE (R510, R512, R534): the token waits for the curve engine. `fuseV` tells whether VDD_FUSE is in range. -/
def execLcAdvance (h : UmHdr) (p : List Byte) (fuseV : Bool) (s : State) : Res :=
  (s.seeFuseV fuseV).umRun h 0x0A03 p.length (fun s =>
    let target := leAt p 0 1
    let lc := s.sec.fuses.lc
    if (lcBits lc target).isNone ∨ s.fuseV = false then s.refuse h 0x0A03 stSecDenied
    else if p.length ≠ 4 + 240 + (if lcCode lc = 0 ∧ target = 1 then 96 else 0) then s.refuse h 0x0A03 stBadParam
    else (s.accept h 0x0A03 []).cePut (.lcAdvance h target (p.drop 4)) ceVerify)

/-- DEBUG_UNLOCK (R534, R535): the token waits for the curve engine. -/
def execDebugUnlock (h : UmHdr) (p : List Byte) (s : State) : Res :=
  s.umRun h 0x0A04 p.length (fun s =>
    if p.length ≠ 240 then s.refuse h 0x0A04 stBadParam
    else if s.sec.lcNow ≠ 2 ∨ leAt p 5 1 = 0 ∨ 2 < leAt p 5 1 then s.refuse h 0x0A04 stSecDenied
    else (s.accept h 0x0A04 []).cePut (.debugUnlock h p) ceVerify)

/-- A fused hash: empty where every bit is 0. -/
def fuseHash (bs : List Byte) : List Byte := if bs.all (fun b => b == 0) then [] else bs

/-- What a lifecycle transition programs beside LC bits `bits`: UDS from the DRBG and the token's hashes, or every bit of
UDS (R512). -/
def State.lcProgram (s : State) (h : UmHdr) (target bits : Nat) (token : List Byte) : State :=
  if bits = 1 then
    let (u, s) := s.draw 48
    let t := token.drop 240
    s.updSec (fun c => { c with prog := some ⟨some h, 1, some (leNat u), some (fuseHash (t.take 48), fuseHash (t.drop 48))⟩ })
  else
    let uds := if target = 3 ∨ target = 4 then some (2 ^ 384 - 1) else none
    s.updSec (fun c => { c with prog := some ⟨some h, bits, uds, none⟩ })

/-- The end of LC_ADVANCE's verification (R512, R530, R534): the nonce is used, and an accepted transition zeroizes and
programs. -/
def State.lcVerified (s : State) (h : UmHdr) (target : Nat) (token : List Byte) : State :=
  let r := tokenSig token
  let ok := s.tokenFields [1] target token && r == 0
  let s := (s.ceResult r).newNonce
  if !ok then (s.evSec 6).final h 0x0A03 stAuthFail noDetail []
  else
    match lcBits s.sec.fuses.lc target with
    | none => s.final h 0x0A03 stSecDenied noDetail []
    | some bits =>
      if s.fuseV = false then s.final h 0x0A03 stSecDenied noDetail []
      else if s.sec.prog.isSome ∨ (bits = 1 ∧ s.rngReady = false) then s.final h 0x0A03 stInternal noDetail []
      else
        let s := s.lcProgram h target bits token
        if lcCode s.sec.fuses.lc = 0 ∧ target = 1 then s else s.zeroize 1

/-- The end of DEBUG_UNLOCK's verification (R534, R535): a token of type 2 sets Observe, and one of type 3 Scan. -/
def State.unlockVerified (s : State) (h : UmHdr) (token : List Byte) : State :=
  let r := tokenSig token
  let lvl := leAt token 5 1
  let ok := s.tokenFields [if lvl = 2 then 3 else 2] lvl token && r == 0
  let s := (s.ceResult r).newNonce
  if !ok then (s.evSec 6).final h 0x0A04 stAuthFail noDetail []
  else if s.sec.lcNow ≠ 2 then s.final h 0x0A04 stSecDenied noDetail []
  else (s.setDbg lvl).final h 0x0A04 stOK noDetail []

/-- A fuse programming that reads back sets the fuses (R510, R512). -/
def Fuses.program (f : Fuses) (p : FuseProg) (lc : Nat) (rest : Bool) : Fuses :=
  let f := { f with lc := f.lc ||| (p.lc &&& lc) }
  if !rest then f
  else
    let f : Fuses := match p.uds with
      | some u => { f with uds := f.uds ||| u, udsValid := f.udsValid || p.lc == 1 }
      | none => f
    match p.hashes with
    | some (o, d) => { f with owner := o, dbgAuth := d }
    | none => f

/-- FUSE_PROGRAMMING_COMPLETE (R512, R531): the bits that were programmed are read back. `lc` holds the LC bits that read
back set, and `rest` tells whether the other fields read back as programmed. -/
def execFuseProgrammingComplete (lc : BitVec 9) (rest : Bool) (s : State) : Res :=
  match s.sec.prog with
  | none => .next s
  | some p =>
    let ok := rest && (p.lc &&& lc.toNat) == p.lc
    let s := s.updSec (fun c => { c with prog := none, fuses := c.fuses.program p lc.toNat rest })
    let s := s.setFld Reg.SEC_STATE F.SEC_STATE_UDS_OK (if s.sec.fuses.udsOk then 1 else 0)
    let s := if ok then ((s.updSec (fun c => { c with lcPend := true })).setFld Reg.SEC_STATE F.SEC_STATE_LC_PEND 1).evSec 7
      else s.evSec 14
    let s := match p.hdr with
      | some h => s.final h 0x0A03 (if ok then stOK else stInternal) noDetail []
      | none => s
    let acts := s.sec.acts
    .next ((s.updSec (fun c => { c with acts := [] })).tamperActs acts)

/-! ## Firmware images (R517) -/

/-- Bytes of flash slot B. -/
def State.slotBytes (s : State) (n : Nat) : List Byte := (List.range n).map (fun i => SMap.get 0 s.flash.slotB i)

/-- The image that slot B holds: its header and the body that the header gives. -/
def State.slotBImage (s : State) : List Byte :=
  let head := s.slotBytes 1024
  let n := leAt head 16 4
  if n ≤ 16776192 then s.slotBytes (1024 + n) else head

/-- Bytes written into slot B. -/
def slotPut : SMap Byte → Nat → List Byte → SMap Byte
  | m, _, [] => m
  | m, i, b :: bs => slotPut (SMap.put 0 m i b) (i + 1) bs

/-- FW_LOAD (R517): image bytes go into slot B at the offset given. -/
def execFwLoad (h : UmHdr) (p : List Byte) (s : State) : Res :=
  s.umRun h 0x0A01 p.length (fun s =>
    if 2 ≤ s.bootPath then s.refuse h 0x0A01 stSecDenied
    else if 16777216 < leAt p 0 4 + (p.length - 4) then s.refuse h 0x0A01 stBadParam
    else (s.updFlash (fun f => { f with slotB := slotPut f.slotB (leAt p 0 4) (p.drop 4) })).reply h 0x0A01 stOK [])

/-- FW_ACTIVATE's final reply where a check of R515 fails. -/
def State.fwFail (s : State) (h : UmHdr) (status : Nat) : State :=
  let s := if status = 3 then s.evSec 6 else s
  (s.updSec (fun c => { c with fw := none })).final h 0x0A02 (if status = 4 then stRollback else stAuthFail) noDetail []

/-- The check of a slot's image begins: what needs no signature at once, and its signatures in the curve engine. -/
def State.fwCheck (s : State) (h : UmHdr) (slotA : Bool) : State :=
  let img := if slotA then s.flash.slotA else s.slotBImage
  let st := s.sec.fuses.imageCheck img
  if st ≠ 1 then s.fwFail h st
  else if s.sec.fuses.owner.isEmpty then s.cePut (.image h slotA true) ceVerify
  else (s.cePut (.image h slotA false) ceVerify).cePut (.image h slotA true) ceVerify

/-- FW_ACTIVATE (R517). -/
def execFwActivate (h : UmHdr) (p : List Byte) (s : State) : Res :=
  s.umRun h 0x0A02 p.length (fun s =>
    if 2 ≤ s.bootPath then s.refuse h 0x0A02 stSecDenied
    else if s.sec.fw.isSome then s.refuse h 0x0A02 stModeBusy
    else ((s.accept h 0x0A02 []).updSec (fun c => { c with fw := some ⟨h, 1⟩ })).fwCheck h false)

/-- The end of an image signature's verification (R515, R517). -/
def State.imageVerified (s : State) (h : UmHdr) (slotA last : Bool) : State :=
  let img := if slotA then s.flash.slotA else s.slotBImage
  let o := if last && !s.sec.fuses.owner.isEmpty then 192 else 0
  let r := verify384 ((img.drop (128 + o)).take 96) (img.take 128) ((img.drop (224 + o)).take 96)
  let s := s.ceResult r
  if r ≠ 0 then
    let s := s.updSec (fun c => { c with ops := c.ops.dropWhile (CurveOp.follows (.image h slotA last)) })
    s.fwFail h 3
  else if !last then s
  else if slotA then (s.updSec (fun c => { c with fw := none })).final h 0x0A02 stOK noDetail []
  else s.updSec (fun c => { c with fw := some ⟨h, 2⟩ })

/-- SLOT_B_COPY_COMPLETE (R517): slot A holds slot B's image, and its check begins. -/
def execSlotBCopyComplete (s : State) : Res :=
  match s.sec.fw with
  | some ⟨h, 2⟩ =>
    let img := s.slotBImage
    let s := s.updFlash (fun f => { f with slotA := img })
    .next ((s.updSec (fun c => { c with fw := some ⟨h, 3⟩ })).fwCheck h true)
  | _ => .next s

/-! ## State, zeroization, tamper levels, debug and the TAP -/

/-- SEC_STATUS (R401, R534): SEC_STATE, SEC_ARB, SEC_TAMPER_STAT, SEC_RNG_STAT and the nonce, zeros without one. The spec
gives the content and no layout: DESIGN CHOICE, log 60. -/
def execSecStatus (h : UmHdr) (p : List Byte) (s : State) : Res :=
  s.umRun h 0x0A00 p.length (fun s =>
    let w (k : Nat) : List Byte := leBytes 4 (s.regVal k).toNat
    s.reply h 0x0A00 stOK (w Reg.SEC_STATE ++ w Reg.SEC_ARB ++ w Reg.SEC_TAMPER_STAT ++ w Reg.SEC_RNG_STAT ++
      s.sec.nonce.getD (List.replicate 32 0)))

/-- SEC_ZEROIZE (R530). -/
def execSecZeroize (h : UmHdr) (p : List Byte) (s : State) : Res :=
  s.umRun h 0x0A05 p.length (fun s =>
    if 1 < leAt p 0 1 then s.refuse h 0x0A05 stBadParam else (s.zeroize (leAt p 0 1)).reply h 0x0A05 stOK [])

/-- TAMPER_CFG (R540): SEC_TAMPER_CFG is staged. -/
def execTamperCfg (h : UmHdr) (p : List Byte) (s : State) : Res :=
  s.umRun h 0x0A06 p.length (fun s =>
    if p.length ≠ 4 then s.refuse h 0x0A06 stBadParam
    else
      match s.genNeeds h.carrier 1 with
      | some st => s.refuse h 0x0A06 st
      | none => (s.stageWords [(Reg.SEC_TAMPER_CFG, leAt p 0 4)]).reply h 0x0A06 stOK [])

/-- SEC_DBG_CTRL_LOCK (R535): the write of SEC_DBG_CTRL.LOCK. -/
def execSecDbgCtrlLock (s : State) : Res := if s.on 4 then .next s.lockDebug else .next s

/-- The debug level that the TAP sees: Locked while SEC is off. -/
def State.dbgLevel (s : State) : Nat := if s.on 4 then s.fld Reg.SEC_STATE F.SEC_STATE_DBG else 0

/-- The TAP accepts an instruction (R536): 0 BYPASS, 1 IDCODE, 2 DBG_OBS, 3 SAMPLE/PRELOAD, 4 EXTEST, 5 CLAMP, 6 HIGHZ,
and 7 any other. -/
def State.tapTakes (s : State) (ir : Nat) : Bool :=
  ir ≤ 1 || (ir == 2 && 1 ≤ s.dbgLevel) || (ir == 3 && s.dbgLevel == 2) ||
    (4 ≤ ir && ir ≤ 6 && s.dbgLevel == 2 && (s.mode == 4 || s.mode == 0xD || s.mode == 0xC))

/-- TAP_INSTRUCTION (R536). -/
def execTapInstruction (ir : Fin 8) (s : State) : Res :=
  .next (s.updSec (fun c => { c with tap := if s.tapTakes ir then ir else 0 }))

end Sys2Proof.Machine
end

