-- ==== Sys2Proof/Machine/Tdisp.lean ====
section
/-! DEFINITION. The SPDM responder, IDE_KM and TDISP, and the ends of the curve engine's operations (18 R518, R526 to R529).
The layouts of the messages are those of DMTF DSP0274 and of PCI Express, which the spec names and does not restate:
PRESUMED, log 12. A secured message is shown by its plaintext. -/

namespace Sys2Proof.Machine

/-! ## Messages -/

/-- The message that waits is of the kind and session given: a DOE object of CMA/SPDM, or of Secured CMA/SPDM that names the
session; MCTP's messages come as they are. -/
def State.spdmHas (s : State) (src : SpdmSrc) (session : Option Nat) : Bool :=
  s.on 4 && decide (4 ≤ s.mode) && (match src with
    | .mctp _ _ => true
    | .doe m => match (s.link m).doeIn with
      | [] => false
      | o :: _ => match session with
        | some n => leAt o 2 1 == 2 && leAt o 8 4 == n
        | none => leAt o 2 1 == 1)

/-- The message is taken from the mailbox. -/
def State.spdmTake (s : State) (src : SpdmSrc) : State :=
  match src with
  | .doe m => s.updLink m (fun l => { l with doeIn := l.doeIn.tail })
  | .mctp _ _ => s

/-- The session of an identifier. -/
def SpdmRt.session (r : SpdmRt) (n : Nat) : Option SpdmSession := r.sessions.find? (fun x => x.id == n)

/-- `n` bytes that the spec does not state. -/
def State.freeBytes (s : State) : Nat → List Byte × State
  | 0 => ([], s)
  | n + 1 =>
    let (w, s) := s.takeFree
    let (bs, s) := s.freeBytes n
    (BitVec.ofNat 8 w.toNat :: bs, s)

/-! ## The responder (R526) -/

/-- The five measurements. -/
def State.measValue (s : State) (i : Nat) : List Byte :=
  let f := s.sec.fuses
  let pad (bs : List Byte) : List Byte := if bs.isEmpty then List.replicate 48 0 else bs
  match i with
  | 1 => leBytes 8 Config.romVersion.toNat
  | 2 => sha384 s.sec.imgHead
  | 3 => s.rdWide Reg.UM_GEN_DIGEST
  | 4 => leBytes 1 s.sec.lcNow ++ leBytes 1 (s.fld Reg.SEC_STATE F.SEC_STATE_DBG)
  | _ => leBytes 2 f.lc ++ leBytes 8 f.arb ++ leBytes 1 (if f.udsValid then 1 else 0) ++ pad f.owner ++ pad f.dbgAuth ++
    leBytes 1 f.revoke ++ leBytes 8 f.dsn ++ leBytes 1 f.ordering

/-- A measurement block: index, DMTF form, size, type and value. -/
def State.measBlock (s : State) (i : Nat) : List Byte :=
  let v := s.measValue i
  let ty := if i = 1 then 0x87 else if i = 2 then 1 else if i = 3 then 3 else if i = 4 then 0x85 else 0x82
  leBytes 1 i ++ leBytes 1 1 ++ leBytes 2 (v.length + 3) ++ leBytes 1 ty ++ leBytes 2 v.length ++ v

/-- The blocks that a GET_MEASUREMENTS operation asks for: none where it names no measurement. -/
def State.measBlocks (s : State) (op : Nat) : Option (Nat × List Byte) :=
  if op = 0 then some (0, [])
  else if op = 0xFF then some (5, ([1, 2, 3, 4, 5] : List Nat).flatMap s.measBlock)
  else if op ≤ 5 then some (1, s.measBlock op)
  else none

/-- The measurement summary hash of a response, where its request asks for one. -/
def State.measSummary (s : State) (ty : Nat) : List Byte :=
  if ty = 0 then [] else sha384 (([1, 2, 3, 4, 5] : List Nat).flatMap s.measBlock)

/-- The key exchange group that the responder selects from a NEGOTIATE_ALGORITHMS request, secp384r1 before secp256r1. -/
def dheSel (req : List Byte) : Nat :=
  let o := 32 + 4 * (leAt req 28 1 + leAt req 29 1)
  let n := leAt req 2 1
  match (List.range n).find? (fun i => leAt req (o + 4 * i) 1 == 2) with
  | some i =>
    let v := leAt req (o + 4 * i + 2) 2
    if v.testBit 4 then 16 else if v.testBit 3 then 8 else 0
  | none => 0

/-- Sessions that are open or being opened. -/
def State.sessionLoad (s : State) (src : SpdmSrc) : Nat :=
  (s.spdm src).sessions.length + (s.sec.ops.filter (fun o => match o.task with
    | .sign x _ _ (some _) => (match x, src with
      | .doe a, .doe b => a == b
      | .mctp _ _, .mctp _ _ => true
      | _, _ => false)
    | _ => false)).length

/-- KEY_EXCHANGE: key generation, the shared secret and the signature wait for the curve engine (R518, R522). -/
def State.keyExchange (s : State) (src : SpdmSrc) (session : Option Nat) (req : List Byte) : State :=
  let v := leAt req 0 1
  if 4 ≤ s.sessionLoad src then s.spdmError src session 0x0A
  else
    let small := decide (req.length < 136)
    let n := if small then 32 else 48
    let r := s.spdm src
    let id := leAt req 4 2 + r.nextId * 2 ^ 16
    let s := s.updSpdm src (fun r => { r with nextId := (r.nextId + 1) % 2 ^ 16 })
    let (rnd, s) := s.draw 32
    let (pub, s) := s.freeBytes (2 * n)
    let ans := leBytes 1 v ++ [0x64, 0, 0] ++ leBytes 2 r.nextId ++ [0, 0] ++ rnd ++ pub ++ s.measSummary (leAt req 2 1) ++ [0, 0]
    let s := s.updSec (fun c => { c with gens := 0, seedAt := s.ticks })
    let s := (s.cePut (.keyGen src) (ceOne small)).cePut
      (.ecdh src (beNat ((req.drop 40).take n)) (beNat ((req.drop (40 + n)).take n)) small) (ceOne small)
    s.cePut (.sign src none ans (some id)) (ceOne false)

/-- The requests outside a session, after the algorithms are agreed. -/
def State.spdmServe (s : State) (src : SpdmSrc) (session : Option Nat) (code : Nat) (req : List Byte) : State :=
  let v := leBytes 1 (leAt req 0 1)
  match code with
  | 0x81 =>
    let (mask, dig) : Nat × List Byte := match s.sec.key with
      | some k => (1, sha384 (Config.certChain k))
      | none => (0, [])
    s.spdmSend src session (v ++ [0x01, 0] ++ leBytes 1 mask ++ dig)
  | 0xE0 =>
    let signed := (leAt req 2 1).testBit 0
    match s.measBlocks (leAt req 3 1) with
    | none => s.spdmError src session 1
    | some (n, blocks) =>
      if signed && !s.rngReady then s.spdmError src session 5
      else
        let (nonce, s) := if s.rngReady then s.draw 32 else (List.replicate 32 0, s)
        let ans := v ++ [0x60] ++ leBytes 1 (if n = 0 then 5 else 0) ++ [0] ++ leBytes 1 n ++ leBytes 3 blocks.length ++ blocks ++
          nonce ++ [0, 0]
        if signed then s.cePut (.sign src session ans none) (ceOne false) else s.spdmSend src session ans
  | _ =>
    match s.sec.key with
    | none => s.spdmError src session 7
    | some k =>
      let chain := Config.certChain k
      if code = 0x82 then
        let off := leAt req 4 2
        let part := (chain.drop off).take (leAt req 6 2)
        s.spdmSend src session (v ++ [0x02, 0, 0] ++ leBytes 2 part.length ++ leBytes 2 (chain.length - off - part.length) ++ part)
      else if code = 0x83 then
        if !s.rngReady then s.spdmError src session 5
        else
          let (nonce, s) := s.draw 32
          let ans := v ++ [0x03, 0, 1] ++ sha384 chain ++ nonce ++ s.measSummary (leAt req 3 1) ++ [0, 0]
          s.cePut (.sign src session ans none) (ceOne false)
      else if code = 0xE4 then
        if !s.rngReady then s.spdmError src session 5 else s.keyExchange src session req
      else s.spdmError src session 7

/-- The requests of an open session. -/
def State.spdmInside (s : State) (src : SpdmSrc) (x : SpdmSession) (code : Nat) (req : List Byte) : State :=
  let v := leBytes 1 (leAt req 0 1)
  let ses := some x.id
  if code = 0xE5 then
    if x.secured then s.spdmError src ses 4
    else
      let s := s.spdmSend src ses (v ++ [0x65, 0, 0])
      (s.updSpdm src (fun r => { r with sessions := r.sessions.map (fun y => if y.id = x.id then { y with secured := true } else y) })).evSec 12
  else if !x.secured then s.spdmError src ses 4
  else if code = 0xE8 then s.spdmSend src ses (v ++ [0x68, 0, 0])
  else if code = 0xE9 then s.spdmSend src ses (v ++ [0x69] ++ leBytes 1 (leAt req 2 1) ++ leBytes 1 (leAt req 3 1))
  else if code = 0xEC then
    let s := s.spdmSend src ses (v ++ [0x6C, 0, 0])
    (s.updSpdm src (fun r => { r with sessions := r.sessions.filter (fun y => y.id != x.id) })).evSec 12
  else s.spdmServe src ses code req

/-- The requests that set up a connection: version, capabilities and algorithms. -/
def State.spdmSetup (s : State) (src : SpdmSrc) (code : Nat) (req : List Byte) : State :=
  let r := s.spdm src
  let v := leAt req 0 1
  if code = 0x84 then
    let s := s.updSpdm src (fun r => { r with stage := 1, version := 0 })
    s.spdmSend src none [0x10, 0x04, 0, 0, 0, 2, 0, 0x12, 0, 0x13]
  else if code = 0xE1 then
    if r.stage ≠ 1 then s.spdmError src none 4
    else if v ≠ 0x12 ∧ v ≠ 0x13 then s.spdmError src none 0x41
    else
      let s := s.updSpdm src (fun r => { r with stage := 2, version := v })
      let (ct, s) := s.freeBytes 1
      let (sz, s) := s.freeBytes 8
      s.spdmSend src none (leBytes 1 v ++ [0x61, 0, 0, 0] ++ ct ++ [0, 0] ++ leBytes 4 0x62D6 ++ sz)
  else
    if r.stage ≠ 2 then s.spdmError src none 4
    else
      let s := s.updSpdm src (fun r => { r with stage := 3 })
      s.spdmSend src none (leBytes 1 v ++ [0x63, 4, 0] ++ leBytes 2 52 ++ [1, 2] ++ leBytes 4 4 ++ leBytes 4 0x80 ++ leBytes 4 2 ++
        List.replicate 12 0 ++ [0, 0, 0, 0] ++ [2, 0x20] ++ leBytes 2 (dheSel req) ++ [3, 0x20] ++ leBytes 2 2 ++
        [4, 0x20] ++ leBytes 2 0 ++ [5, 0x20] ++ leBytes 2 1)

/-- SPDM_REQUEST (R526): one request, by its plaintext. -/
def execSpdmRequest (src : SpdmSrc) (session : Option Nat) (req : List Byte) (s : State) : Res :=
  if s.spdmHas src session then
    let s := s.spdmTake src
    let code := leAt req 1 1
    match session with
    | some n =>
      match (s.spdm src).session n with
      | none => .next (s.spdmError src none 2)
      | some x => .next (s.spdmInside src x code req)
    | none =>
      if code = 0x84 ∨ code = 0xE1 ∨ code = 0xE3 then .next (s.spdmSetup src code req)
      else if code = 0xE5 ∨ code = 0xE8 ∨ code = 0xE9 ∨ code = 0xEC then .next (s.spdmError src none 4)
      else if (s.spdm src).stage ≠ 3 then .next (s.spdmError src none 4)
      else .next (s.spdmServe src none code req)
  else .next s

/-! ## The end of an operation (R518 to R520) -/

/-- An operation's last Tc: what it serves goes on. -/
def State.ceDone (s : State) (o : CurveOp) (retry : Bool) : State :=
  match o.task with
  | .lcAdvance h target token => s.lcVerified h target token
  | .debugUnlock h token => s.unlockVerified h token
  | .image h slotA last => s.imageVerified h slotA last
  | .keyGen _ => s
  | .ecdh src x y small =>
    if (if small then p256 else p384).pointOk x y then s
    else
      let s := s.ceResult 2
      if s.sec.ops.any (CurveOp.follows o.task) then
        (s.updSec (fun c => { c with ops := c.ops.dropWhile (CurveOp.follows o.task) })).spdmError src none 1
      else s
  | .sign src session ans opens =>
    if retry then s.updSec (fun c => { c with ops := { o with start := none } :: c.ops })
    else
      let (sig, s) := s.freeBytes 96
      match opens with
      | none => s.spdmSend src session (ans ++ sig)
      | some id =>
        let (mac, s) := s.freeBytes 48
        (s.updSpdm src (fun r => { r with sessions := r.sessions ++ [⟨id, false⟩] })).spdmSend src session (ans ++ sig ++ mac)

/-- CURVE_OPERATION_COMPLETE (R518, R519): the operation that runs ends at its fixed time, and the next starts. `retry` tells
whether a signature computed r = 0 or s = 0, which the firmware signs again. -/
def execCurveOperationComplete (retry : Bool) (s : State) : Res :=
  match s.sec.ops with
  | o :: os =>
    match o.start with
    | some t =>
      if t + o.dur ≤ s.ticks then
        .next (((s.updSec (fun c => { c with ops := os })).ceDone o retry).ceStart)
      else .next s
    | none => .next s
  | [] => .next s

/-! ## IDE_KM (R527) -/

/-- A message of a PCI-SIG protocol in a secured session (0 IDE_KM, 1 TDISP). -/
def State.pciSend (s : State) (src : SpdmSrc) (session proto : Nat) (body : List Byte) : State :=
  s.spdmSend src (some session) (leBytes 1 (s.spdm src).version ++ [0x7E, 0, 0] ++ leBytes 2 3 ++ [2] ++ leBytes 2 1 ++
    leBytes 2 (1 + body.length) ++ leBytes 1 proto ++ body)

/-- A message of a PCI-SIG protocol arrives in a session for link `m`: on the link's own mailbox, or on MCTP. -/
def State.pciHas (s : State) (src : SpdmSrc) (session m : Nat) : Bool :=
  s.spdmHas src (some session) && (match src with
    | .doe k => k.val == m
    | .mctp _ _ => true)

/-- A session is secured. -/
def State.isSecured (s : State) (src : SpdmSrc) (session : Nat) : Bool :=
  match (s.spdm src).session session with
  | some x => x.secured
  | none => false

/-- A PCI-SIG message is taken and, in a secured session, acted on; else it is answered with an error. -/
def State.pciRun (s : State) (src : SpdmSrc) (session m : Nat) (act : State → State) : Res :=
  if s.pciHas src session m then
    let s := s.spdmTake src
    if s.isSecured src session then .next (act s)
    else .next (s.spdmError src none (if ((s.spdm src).session session).isSome then 4 else 2))
  else .next s

/-- A key's place: key set, direction (0 receive, 1 transmit) and sub-stream. -/
def keyIdx (ks dir sub : Nat) : Nat := ks * 32 + dir * 16 + sub
/-- The field of an IDE_KM message that names a key. -/
def keySub (ks dir sub : Nat) : Nat := ks + 2 * dir + 16 * sub
/-- A key and its stream are among those of the link. -/
def keyOk (stream ks dir sub : Nat) : Bool := decide (stream ≤ 16 ∧ ks < 2 ∧ dir < 2 ∧ sub < 3)

/-- The stream uses a key: the direction and sub-stream have gone to it. -/
def IdeRt.uses (r : IdeRt) (ks dir sub : Nat) : Bool :=
  r.go.contains (dir * 16 + sub) && (dir == 0 || r.set.testBit sub == (ks == 1))

/-- QUERY (R527): the port's IDE registers, which the spec does not state. -/
def execQuery (src : SpdmSrc) (session : Nat) (m : HLink) (index : Nat) (s : State) : Res :=
  s.pciRun src session m (fun s =>
    let (regs, s) := s.freeBytes 8
    s.pciSend src session 0 ([1, 0] ++ leBytes 1 index ++ regs))

/-- KEY_PROG (R527): a key and its counter's start are loaded into a set that the transmitter does not use. -/
def execKeyProg (src : SpdmSrc) (session : Nat) (m : HLink) (stream : Nat) (ks dir sub : Nat) (key : List Byte) (s : State) : Res :=
  s.pciRun src session m (fun s =>
    let ack (s : State) (st : Nat) : State :=
      s.pciSend src session 0 ([3, 0, 0] ++ leBytes 1 stream ++ leBytes 1 st ++ leBytes 1 (keySub ks dir sub) ++ [0])
    if key.length ≠ 40 then ack s 1
    else if !keyOk stream ks dir sub then ack s 3
    else if (s.ideOf m stream).uses ks dir sub ∧ dir = 1 ∧ (s.ideOf m stream).state = 2 then ack s 4
    else ack (s.updIde m stream (fun r => { r with state := max r.state 1, keys := SMap.put [] r.keys (keyIdx ks dir sub) key })) 0)

/-- A key set switches (R527). -/
def IdeRt.switch (r : IdeRt) (ks dir sub : Nat) : IdeRt :=
  let r := { r with go := insNat r.go (dir * 16 + sub), set := if dir = 1 then putBit r.set sub (ks == 1) else r.set }
  if r.go.length = 6 then { r with state := 2 } else r

/-- K_SET_GO (R527): the stream is Secure once both directions of the three sub-streams have a key set. -/
def execKSetGo (src : SpdmSrc) (session : Nat) (m : HLink) (stream : Nat) (ks dir sub : Nat) (s : State) : Res :=
  s.pciRun src session m (fun s =>
    let was := s.ideOf m stream
    let s := if keyOk stream ks dir sub ∧ (SMap.get [] was.keys (keyIdx ks dir sub)).isEmpty = false then
        let s := s.updIde m stream (fun r => r.switch ks dir sub)
        let new := s.ideOf m stream
        if new.set ≠ was.set ∨ new.state ≠ was.state ∨ new.go ≠ was.go then s.evSec 10 else s
      else s
    s.pciSend src session 0 ([6, 0, 0] ++ leBytes 1 stream ++ [0] ++ leBytes 1 (keySub ks dir sub) ++ [0]))

/-- K_SET_STOP (R527): the key is discarded; on the set that the transmitter uses, the stream goes Insecure. -/
def execKSetStop (src : SpdmSrc) (session : Nat) (m : HLink) (stream : Nat) (ks dir sub : Nat) (s : State) : Res :=
  s.pciRun src session m (fun s =>
    let s := if keyOk stream ks dir sub then
        if dir = 1 ∧ (s.ideOf m stream).uses ks dir sub then s.ideDown m stream
        else s.updIde m stream (fun r => { r with keys := SMap.put [] r.keys (keyIdx ks dir sub) [] })
      else s
    s.pciSend src session 0 ([6, 0, 0] ++ leBytes 1 stream ++ [0] ++ leBytes 1 (keySub ks dir sub) ++ [0]))

/-- IDE_FAIL (R527): an integrity failure moves a Secure stream to Insecure. -/
def execIdeFail (m : HLink) (stream : Fin 17) (s : State) : Res :=
  if (s.ideOf m stream).state = 2 then .next (((s.ideDown m stream).evSec 11).aerTlp m aerIde) else .next s

/-! ## TDISP (R528, R529) -/

/-- The slice that an interface identifier names (R305): bytes 4 and 5 number it and bytes 0 and 1 carry the link's Requester
ID, which the host gives and the model does not hold; the remaining bytes are 0. -/
def State.tdiOf (s : State) (m : Nat) (id : List Byte) : Option Nat :=
  let sl := leAt id 4 2
  if id.length = 12 ∧ zeroAt id 2 2 = true ∧ zeroAt id 6 6 = true ∧ sl < 1024 ∧ s.bound sl = true ∧ s.slLink sl = m then some sl
  else none

/-- A TDISP message. -/
def State.tdispSend (s : State) (src : SpdmSrc) (session ty : Nat) (id body : List Byte) : State :=
  s.pciSend src session 1 ([0x10] ++ leBytes 1 ty ++ [0, 0] ++ id ++ body)
/-- A TDISP error. -/
def State.tdispErr (s : State) (src : SpdmSrc) (session : Nat) (id : List Byte) (code : Nat) : State :=
  s.tdispSend src session 0x7F id (leBytes 4 code ++ leBytes 4 0)

/-- LOCK_INTERFACE (R528): bound to a selective stream that is Secure. -/
def execLockInterface (src : SpdmSrc) (session : Nat) (m : HLink) (id : List Byte) (stream : Nat) (s : State) : Res :=
  s.pciRun src session m (fun s =>
    match s.tdiOf m id with
    | none => s.tdispErr src session id 0x0101
    | some sl =>
      if s.tdi sl ≠ 0 then s.tdispErr src session id 4
      else if stream = 0 ∨ 16 < stream ∨ (s.ideOf m stream).state ≠ 2 then s.tdispErr src session id 1
      else if !s.rngReady then s.tdispErr src session id 0x0103
      else
        let (nonce, s) := s.draw 32
        let s := s.updSec (fun c => { c with tdiStream := SMap.put 0 c.tdiStream sl (stream + 1), tdiNonce := SMap.put [] c.tdiNonce sl nonce })
        (s.setTdi sl 1).tdispSend src session 0x03 id nonce)

/-- START_INTERFACE (R528): with the nonce of LOCK_INTERFACE. -/
def execStartInterface (src : SpdmSrc) (session : Nat) (m : HLink) (id nonce : List Byte) (s : State) : Res :=
  s.pciRun src session m (fun s =>
    match s.tdiOf m id with
    | none => s.tdispErr src session id 0x0101
    | some sl =>
      if s.tdi sl ≠ 1 then s.tdispErr src session id 4
      else if nonce.isEmpty ∨ SMap.get [] s.sec.tdiNonce sl ≠ nonce then s.tdispErr src session id 0x0102
      else
        let s := s.updSec (fun c => { c with tdiNonce := SMap.put [] c.tdiNonce sl [] })
        (s.setTdi sl 2).tdispSend src session 0x06 id [])

/-- A TDI is unlocked: KILL, and the mailbox, staging and ATS entries cleared (R374, R529). -/
def State.stopTdi (s : State) (sl m : Nat) : State :=
  let s := s.endChans (s.slChans sl) 9
  let s := s.updSlice sl (fun r => { r with mbIn := [], mbOut := [] })
  let s := ((s.wrW (Reg.SL_MBOX_STAT sl) 0).setPend sl false)
  let s := (s.slChans sl).foldl (fun s c => s.updChan c (fun r => { r with stage := [] })) s
  let s := s.updLink m (fun l => { l with ats := l.ats.filter (fun e => e.sl != sl), atsMiss := l.atsMiss.filter (fun k => k.1 != sl),
                                          atsWait := l.atsWait.filter (fun k => k.1 != sl) })
  (s.updSec (fun c => { c with tdiStream := SMap.put 0 c.tdiStream sl 0, tdiNonce := SMap.put [] c.tdiNonce sl [] })).setTdi sl 0

/-- STOP_INTERFACE (R529). -/
def execStopInterface (src : SpdmSrc) (session : Nat) (m : HLink) (id : List Byte) (s : State) : Res :=
  s.pciRun src session m (fun s =>
    match s.tdiOf m id with
    | none => s.tdispErr src session id 0x0101
    | some sl => (s.stopTdi sl m).tdispSend src session 0x07 id [])

/-- GET_DEVICE_INTERFACE_STATE (R529). -/
def execGetDeviceInterfaceState (src : SpdmSrc) (session : Nat) (m : HLink) (id : List Byte) (s : State) : Res :=
  s.pciRun src session m (fun s =>
    match s.tdiOf m id with
    | none => s.tdispErr src session id 0x0101
    | some sl => s.tdispSend src session 0x05 id (leBytes 1 (s.tdi sl)))

end Sys2Proof.Machine
end

