-- ==== Sys2Proof/Machine/Log.lean ====
section
/-! DEFINITION. The trouble log's ring, its read mark and the repair record's writes (19 R548 to R557). -/

namespace Sys2Proof.Machine

/-- An entry written as zeros at AON power-on (R548). -/
def LogEntry.zero : LogEntry := ⟨0, 0, 0, 0, 0, 0, 0⟩

/-- An entry's 32 bytes (R549). -/
def LogEntry.bytes (e : LogEntry) : List Byte :=
  leBytes 8 e.tl.toNat ++ leBytes 8 e.stamp.toNat ++ leBytes 2 e.source ++ leBytes 1 e.kind ++ leBytes 1 e.flags ++
    leBytes 4 e.seq ++ leBytes 8 e.param.toNat

/-- LOG_STAT.QUEUE (R552). -/
def State.logQueue (s : State) : Nat := s.log.queue.length
/-- LOG_SEQ − QUEUE: the SEQ of the next ring write (R553). -/
def State.logTop (s : State) : Nat := ((s.rdW Reg.LOG_SEQ).toNat + 2 ^ 32 - s.logQueue) % 2 ^ 32
/-- LOG_RDSEQ. -/
def State.logMark (s : State) : Nat := (s.rdW Reg.LOG_RDSEQ).toNat % 2 ^ 32
/-- LOG_STAT.UNREAD (R553). -/
def State.logUnread (s : State) : Nat := (s.logTop + 2 ^ 32 - s.logMark) % 2 ^ 32
/-- LOG_RDSEQ moved on by `n`. -/
def State.logAdvance (s : State) (n : Nat) : State := s.wrW Reg.LOG_RDSEQ (BitVec.ofNat 64 ((s.logMark + n) % 2 ^ 32))

/-- LOG_QUEUE_WRITE (R552, R553): the queue's first entry goes into the ring. -/
def execLogQueueWrite (s : State) : Res :=
  match s.log.queue with
  | [] => .next s
  | w :: ws =>
    let i := w.entry.seq % 2048
    let ovr := decide (2048 ≤ s.logUnread)
    let s := if ovr then s.logAdvance 1 else s
    let s := s.setLog { s.log with queue := ws, ring := SMap.put LogEntry.zero s.log.ring i w.entry,
                                   bad := s.log.bad.filter (fun j => j != i) }
    if ovr then .next (((s.cnt Reg.LOG_OVERWRITTEN).setW1c Reg.LOG_STAT F.LOG_STAT_OVERRUN).evUm 12) else .next s

/-- LOG_RDSEQ written (R553): discarded outside the ring. -/
def State.wrMark (s : State) (v : Nat) : State :=
  if (s.logTop + 2 ^ 32 - v) % 2 ^ 32 ≤ 2048 then s.wrW Reg.LOG_RDSEQ (BitVec.ofNat 64 v) else s

/-- LOG_RDSEQ_WRITE: the manager's write of LOG_RDSEQ. -/
def execLogRdseqWrite (v : BitVec 32) (s : State) : Res := .next (s.wrMark v.toNat)

/-- The bytes of ring entry `i`; a poisoned entry reads as zeros (R548). -/
def State.logBytes (s : State) (i : Nat) : List Byte :=
  if s.log.bad.contains i then List.replicate 32 0 else (SMap.get LogEntry.zero s.log.ring i).bytes

/-- Errors that a read meets in entries `is` of the trouble log: each is counted, and an uncorrectable one poisons its entry
(R170, R185, R548). -/
def State.logErrors (s : State) (is : List Nat) (hits : List EccHit) : State :=
  let hs := hits.filter (fun h => h.pail == storeHit 4 && is.contains (h.word / 4) && !s.log.bad.contains (h.word / 4))
  let s := (s.storeErrors 4 hs).1
  s.setLog { s.log with bad := ((hs.filter (·.unc)).map (·.word / 4)).foldl insNat s.log.bad }

/-- LOG_READ (R401, R553). -/
def execLogRead (h : UmHdr) (p : List Byte) (s : State) (hits : List EccHit := []) : Res :=
  s.umRun h 0x0B00 p.length (fun s =>
    let i := leAt p 0 2
    let n := leAt p 2 2
    if 2048 ≤ i ∨ n = 0 ∨ 127 < n then s.refuse h 0x0B00 stBadParam
    else
      let s := s.logErrors ((List.range n).map (fun j => (i + j) % 2048)) hits
      s.reply h 0x0B00 stOK (leBytes 2 (s.logTop % 2048) ++ leBytes 2 n ++ List.replicate 28 0 ++
      (List.range n).flatMap (fun j => s.logBytes ((i + j) % 2048))))

/-- LOG_MARK (R401, R553). -/
def execLogMark (h : UmHdr) (p : List Byte) (s : State) : Res :=
  s.umRun h 0x0B01 p.length (fun s =>
    let i := leAt p 0 2
    let d := (i + 2048 - s.logMark % 2048) % 2048
    if 2048 ≤ i ∨ s.logUnread ≤ d then s.refuse h 0x0B01 stBadParam
    else (s.logAdvance (d + 1)).reply h 0x0B01 stOK [])

/-! ## The repair record (R556, R557) -/

/-- The record's entries for what is in force: Vat remaps, A-link lane swaps and Cloton lane swaps. -/
def State.repairEntries (s : State) : List (List Byte) :=
  let vat := (List.range 16).flatMap (fun b => (s.bank b).remap.map (fun r =>
    leBytes 1 1 ++ leBytes 1 b ++ leBytes 2 (r.1 % 1280) ++ leBytes 2 (r.1 / 1280) ++ leBytes 1 r.2 ++ [0]))
  let lane := (List.range 12).flatMap (fun g =>
    let k := Reg.AL_GRP_SPARE_STAT g
    let e (spare port l : Nat) : List Byte := [2] ++ leBytes 1 g ++ leBytes 1 spare ++ leBytes 1 port ++ leBytes 1 l ++ [0, 0, 0]
    (if s.flag k F.AL_GRP_SPARE_STAT_USED16 then
      [e 16 (s.fld k F.AL_GRP_SPARE_STAT_PORT16) (s.fld k F.AL_GRP_SPARE_STAT_LLANE16)] else []) ++
    (if s.flag k F.AL_GRP_SPARE_STAT_USED17 then
      [e 17 (s.fld k F.AL_GRP_SPARE_STAT_PORT17) (s.fld k F.AL_GRP_SPARE_STAT_LLANE17)] else []))
  let cl := (List.range 4).flatMap (fun x => match (s.clp x).map with
    | some l => [[3] ++ leBytes 1 x ++ leBytes 1 l ++ [0, 0, 0, 0, 0]]
    | none => [])
  vat ++ lane ++ cl

/-- What an entry is of: a row, a port's logical lane, or a Cloton port's (R556). -/
def recKey (e : List Byte) : List Byte :=
  match leAt e 0 1 with
  | 1 => e.take 6
  | 2 => e.take 2 ++ (e.drop 3).take 2
  | _ => e.take 3

/-- The entries of a record that are in force: none that a later one of the same key supersedes. -/
def recLast : List (List Byte) → List (List Byte)
  | [] => []
  | e :: es => if es.any (fun x => recKey x == recKey e) then recLast es else e :: recLast es

/-- A copy of the record with its CRC. -/
def recordBytes (dsn seq : Nat) (es : List (List Byte)) : List Byte :=
  let h := leBytes 4 0x50524253 ++ leBytes 2 0x0100 ++ leBytes 2 8 ++ leBytes 4 seq ++ leBytes 4 es.length
  let t := leBytes 4 dsn ++ List.replicate 8 0 ++ es.flatten
  h ++ leBytes 4 (crc32c (h ++ [0, 0, 0, 0] ++ t)) ++ t

/-- The copy that is written: an invalid one, or else the one with the lower SEQ (R557). -/
def Flash.nextCopy (f : Flash) (dsn : Nat) : Nat :=
  if !recValid dsn f.rec0 then 0 else if !recValid dsn f.rec1 then 1 else if leAt f.rec0 8 4 ≤ leAt f.rec1 8 4 then 0 else 1

/-- SEQ of the copy in use, or 0. -/
def Flash.seq (f : Flash) (dsn : Nat) : Nat :=
  max (if recValid dsn f.rec0 then leAt f.rec0 8 4 else 0) (if recValid dsn f.rec1 then leAt f.rec1 8 4 else 0)

/-- A copy of the record replaced. -/
def Flash.setRec (f : Flash) (c : Nat) (bs : List Byte) : Flash :=
  if c = 0 then { f with rec0 := bs } else { f with rec1 := bs }

/-- REPAIR_RECORD_WRITE (R557): the Creamery writes the record after a remap or a lane swap. `ok` tells whether the flash
write succeeded. -/
def execRepairRecordWrite (ok : Bool) (s : State) : Res :=
  if s.repairDue = true ∧ s.bootPath ≤ 1 ∧ s.on 3 = true then
    let dsn := s.sec.fuses.dsn
    let old := s.flash.entries dsn
    let new := s.repairEntries.filter (fun e => !(recLast old).contains e)
    let es := old ++ new
    let c := s.flash.nextCopy dsn
    let s := s.setRepairDue false
    if 8188 < es.length then .next (s.logKind 0x0C (0 + c * 2 ^ 8 + old.length * 2 ^ 32))
    else if ok then .next (s.updFlash (fun f => f.setRec c (recordBytes dsn ((f.seq dsn + 1) % 2 ^ 32) es)))
    else .next ((s.updFlash (fun f => f.setRec c [])).logKind 0x0C (1 + c * 2 ^ 8 + es.length * 2 ^ 32))
  else .next s

end Sys2Proof.Machine
end

