-- ==== Sys2Proof/Machine/Bus.lean ====
section
/-! DEFINITION. Register accesses: what a register shows, what a write of it does, read latches and held writes (R12 to R17,
R88, R89, R100, R120, R322, R390), and the rows REGISTER_WRITE and REGISTER_READ_CLEAR. -/

namespace Sys2Proof.Machine

/-! ## What registers show -/

/-- HL_LINKm_STAT: link status fields read Down and 0 while HOSTp is off (R318). -/
def State.hlStat (s : State) (m w : Nat) : Nat :=
  let l := s.link m
  let w := if s.on (domH (m / 4)) then w else 0
  let w := putBit w 5 (w.testBit 5 && s.l1Near m)
  let w := putBit (putBit w 13 l.bme) 12 l.mse
  let w := putBit (putBit w 11 l.d3) 10 l.d3
  let w := putBit (putBit w 9 l.pasidEn) 8 l.atsEn
  putBit (putBit w 7 (s.linkPresent m)) 6 (s.mgr == m)

/-- Every present link of port `p` is in L1.1 or L1.2: the device releases CLKREQ_N (R314). -/
def State.clkreq (s : State) (p : Nat) : Bool :=
  s.on (domH p) && !((s.linksOf p).all (fun m => s.lstate m == 6 || s.lstate m == 7))

/-- DMA_WHEELm_STAT (R210, R211). -/
def State.wheelStat (s : State) (m : Nat) : Nat :=
  (if s.wheelOver m then 2 ^ 31 else 0) + s.wheelSum m % 4096 * 2 ^ 16 + s.budgetNow m % 4096

/-- PIN_LEVELS (R593): SB_BUSY (R588, R589) and ALERT_N are the device's own, and a CLKREQ_N the device drives is low (R314);
the other levels are the board's, and free. -/
def State.pinLevels (s : State) : Nat :=
  let f := (Config.freeWord s.fresh).toNat
  let busy := !(s.mode == 4 || s.mode == 5 || s.mode == 6 || s.mode == 7 || s.mode == 8 || s.mode == 9 || s.mode == 0xD) || s.entryMuted
  let f := putBit f 10 busy
  let f := if s.flag Reg.EV_ALERT F.EV_ALERT_ALERT then putBit f 11 false else f
  let f := ((List.range 8).filter s.clkreq).foldl (fun f p => putBit f (24 + p) false) f
  f &&& 0xFFFF1E0F

/-- PIN_GPIO_IN (R593): a pushed-pull output shows what it drives and an open-drain output that drives shows low; the other
levels are the board's, and free. -/
def State.gpioIn (s : State) : Nat :=
  let f := (Config.freeWord s.fresh).toNat % 65536
  let oe := (s.rdW Reg.PIN_GPIO_DIR).toNat
  let out := (s.rdW Reg.PIN_GPIO_OUT).toNat
  let od := (s.rdW Reg.PIN_GPIO_OD).toNat
  let driven := oe &&& ((od ^^^ 0xFFFF) ||| (out ^^^ 0xFFFF)) &&& 0xFFFF
  (f &&& (driven ^^^ 0xFFFF)) ||| (out &&& driven)

/-- PW_DIP (R468): while its dip is in progress DUR counts its readings, one to an AON cycle. -/
def State.dipView (s : State) (w : Nat) : Nat :=
  let r := s.fld Reg.PW_DIP F.PW_DIP_RAIL
  match s.dip r with
  | some d => if s.ownsDip r d then (F.PW_DIP_DUR.put (BitVec.ofNat 64 w) (min 65535 (s.aon - d.stamp + 1))).toNat else w
  | none => w

/-- Registers of the package, power and log that hardware computes. -/
def State.viewPw (s : State) (base i w : Nat) : Nat :=
  if base = Reg.PW_AON_STAMP then s.aon
  else if base = Reg.PW_DVOTE 0 then s.dvote i
  else if base = Reg.PW_HVOTE 0 then s.hvote i
  else if base = Reg.PW_SHED_STAT then w % 2 ^ 48 + s.unshed * 2 ^ 48 + w / 2 ^ 60 * 2 ^ 60
  else if base = Reg.PW_DIP then s.dipView w
  else if base = Reg.PIN_GPIO_IN then s.gpioIn
  else if base = Reg.PIN_LEVELS then s.pinLevels
  else if base = Reg.PIN_TXINH then ((List.range 12).filter (fun g => s.txinh g)).foldl (fun a g => a + 2 ^ g) 0
  else if base = Reg.LOG_STAT then w / 2 ^ 31 * 2 ^ 31 + s.logQueue * 2 ^ 12 + s.logUnread % 2 ^ 12
  else w

/-- Registers of the links that hardware computes. -/
def State.viewLink (s : State) (base i w : Nat) : Nat :=
  if base = Reg.AL_STAT 0 then putBit w 8 ((s.port i).rx.any (fun e => e.2.wait))
  else if base = Reg.AL_LEDGER 0 then
    (s.ledger i (s.fld (Reg.AL_LEDGER_SEL i) F.AL_LEDGER_SEL_CLASS) (s.fld (Reg.AL_LEDGER_SEL i) F.AL_LEDGER_SEL_STREAM_ID)).toNat
  else if base = Reg.AL_BR_STAT 0 then (s.brStat i).toNat
  else if base = Reg.HL_PORT_STAT 0 then putBit (putBit w 3 (s.on (domH i))) 2 (s.clkreq i)
  else if base = Reg.HL_LINK_STAT 0 then s.hlStat i w
  else if base = Reg.TW_LAG then s.twLag
  else w

/-- The ring carrier is open (R378). -/
def State.ringOpen (s : State) : Bool := decide (4 ≤ s.mode) && s.mode != 0xA && s.mode != 0xB && s.mode != 0xC

/-- A command is under execution: its first reply has not fallen due (R380, R386, R403). -/
def State.umBusy (s : State) : Bool :=
  !s.underWay.isEmpty || (match s.um.armed with
    | some a => a.hdr.isSome && !a.ok
    | none => false)

/-- The value that a register shows: the stored one, but for what hardware computes at the read. -/
def State.view (s : State) (base i w : Nat) : Nat :=
  if base = Reg.TL_NOW then (tlOf s.now).toNat
  else if base = Reg.CH_STATUS 0 then s.chStatus i
  else if base = Reg.VAT_BANK_STATUS 0 then putBit w 0 (s.on (domV i))
  else if base = Reg.VAT_PAIL_STAT 0 then (s.pailStat i).toNat
  else if base = Reg.VAT_PAIL_PTR 0 then (s.pailPtr i).toNat
  else if base = Reg.DMA_WHEEL_STAT 0 then s.wheelStat i
  else if base = Reg.EV_ALERT then w / 2 ^ 31 * 2 ^ 31 + s.alerting.length * 2 ^ 16 + s.alerting.headD 0
  else if base = Reg.SL_STAT 0 then s.slStat i
  else if base = Reg.UM_STAT then
    putBit (putBit (w % 2 ^ 8 + s.um.side.length * 2 ^ 8) 3 s.umBusy) 0 s.ringOpen
  else s.viewLink base i (s.viewPw base i w)

/-- The register at offset `k` can be served: its domain is on, or its saved image serves it (R322). -/
def State.regServed (s : State) (k : Nat) : Bool := s.on (regDom k) || regSaved k

/-- The word that a read of the register at offset `k` returns, RWG fields as active (R14, R322). -/
def State.busWord (s : State) (k : Nat) : Nat :=
  match findReg k with
  | some (r, ix) => if s.regServed k then s.view r.base (ix.headD 0) (s.regVal k).toNat else 0
  | none => 0

/-! ## Reads (R14, R88) -/

/-- The first offset of a register of a row. -/
def regBase (r : RegRow) (ix : List Nat) : Nat := r.base + ((ix.zip r.dims).map (fun e => e.1 * e.2.2)).foldl (· + ·) 0

/-- Word `j` of 32 bits of the register that begins at offset `b`. -/
def State.dword (s : State) (b j : Nat) : Nat := s.busWord (b + 8 * (j / 2)) / 2 ^ (32 * (j % 2)) % 2 ^ 32

/-- A latch of a register's words from `first` up, taken by `who` (R88). -/
def State.takeLatch (s : State) (who : Master) (r : RegRow) (b first : Nat) : State :=
  let l := s.latches.filter (fun x => !(x.who == who && x.key == b))
  if r.hw = 0 then s.setLatches l
  else
    let ws := ((List.range (r.bytes / 4)).drop first).map (s.dword b)
    s.setLatches (⟨who, b, ws, first⟩ :: l)

/-- Word `j` of a register as `who` reads it: latched, or live; the latch ends with the highest word. -/
def State.latched (s : State) (who : Master) (r : RegRow) (b j : Nat) : State × Nat :=
  match s.latches.find? (fun x => x.who == who && x.key == b) with
  | some l =>
    let v := if l.first ≤ j then l.val.getD (j - l.first) 0 else s.dword b j
    (if j + 1 = r.bytes / 4 then s.setLatches (s.latches.filter (fun x => !(x.who == who && x.key == b))) else s, v)
  | none => (s, s.dword b j)

/-- RC fields of a register clear with a read (R14); what hardware has added in the same Tc stays (R15). -/
def State.readClear (s : State) (r : RegRow) (k : Nat) : State :=
  if r.rc = 0 then s
  else s.wrW k ((s.rdW k &&& ~~~ BitVec.ofNat 64 r.rc) ||| BitVec.ofNat 64 (min (s.hotOf k).add r.rc))

/-- The bits that a W1C write of `v` clears: not those that hardware has set in the same Tc (R14, R15). -/
def State.cleared (s : State) (k w1c v : Nat) : Nat := v &&& w1c &&& (ones 64 ^^^ (s.hotOf k).set)

/-- The bits of a W1C write of `v` that hardware has set in the same Tc (R15). -/
def State.kept (s : State) (k w1c v : Nat) : List Nat := setBits 64 (v &&& w1c &&& (s.hotOf k).set)

/-- A read of 32 bits at offset `off`; an offset that holds no register reads 0. -/
def State.read32 (s : State) (who : Master) (off : Nat) : State × Nat :=
  let at_ (r : RegRow) (ix : List Nat) : State × Nat :=
    let b := regBase r ix
    let j := (off - b) / 4
    if r.bytes ≤ 4 then (s.readClear r off, s.busWord off % 2 ^ 32)
    else if j = 0 then (s.takeLatch who r b 1, s.dword b 0)
    else s.latched who r b j
  match findReg off with
  | some (r, ix) => at_ r ix
  | none =>
    if off % 8 = 4 then
      match findReg (off - 4) with
      | some (r, ix) => if 8 ≤ r.bytes then at_ r ix else (s, 0)
      | none => (s, 0)
    else (s, 0)

/-- A read of 64 bits, naturally aligned. -/
def State.read64 (s : State) (who : Master) (off : Nat) : State × Nat :=
  let two : State × Nat :=
    let (s, lo) := s.read32 who off
    let (s, hi) := s.read32 who (off + 4)
    (s, lo + hi * 2 ^ 32)
  match findReg off with
  | some (r, ix) =>
    let b := regBase r ix
    if r.bytes ≤ 4 then two
    else if r.bytes = 8 then
      (s.setLatches (s.latches.filter (fun x => !(x.who == who && x.key == b))), s.busWord off)
    else if off = b then (s.takeLatch who r b 2, s.busWord off)
    else two
  | none => two

/-- A register read of 4 or 8 bytes. -/
def State.busRead (s : State) (who : Master) (off : Nat) (wide : Bool) : State × Nat :=
  if wide then s.read64 who off else s.read32 who off

/-! ## Writes (R14, R88, R89, R390) -/

/-- A format's parameters hold an excluded value (R100). -/
def strExcluded (w : Nat) : Bool :=
  decide (5 ≤ bitsOf w 51 49) || (decide (1 ≤ bitsOf w 48 45) && decide (bitsOf w 48 45 ≤ 3)) || decide (25 ≤ bitsOf w 44 40) ||
    decide (8 ≤ bitsOf w 57 54)

/-- A staged value is excluded: the write that carries it is discarded (R100, R120, R123, R193). -/
def excluded (base w : Nat) : Bool :=
  if base = Reg.CH_CTRL 0 then decide (5 ≤ bitsOf w 2 0) || decide (5 ≤ bitsOf w 6 4)
  else if base = Reg.CH_STR 0 0 then strExcluded w
  else if base = Reg.VAT_PAIL_A 0 then decide (4 ≤ bitsOf w 62 60)
  else false

/-- The registers of a channel whose writes its state decides (R198). -/
def dmaImage (base : Nat) : Bool := decide (Reg.DMA_SRC 0 ≤ base ∧ base < Reg.DMA_SRC 0 + 0x40)

/-- The RW bits that a write of `v` may set, of those that it carries (R89, R198, R287, R318, R403, R553). -/
def State.rwTaken (s : State) (base i rw v : Nat) : Nat :=
  if base = Reg.TL_REF_CFG then (if s.tlState = 0 then rw else rw &&& (2 ^ 64 - 8))
  else if base = Reg.TL_PPS_OFFSET then (if secTc ≤ v then 0 else rw)
  else if base = Reg.TL_ALARM_AT 0 then (if tlValid (BitVec.ofNat 64 v) then rw else 0)
  else if base = Reg.HL_PORT_CFG 0 then
    let rw := if bitsOf v 1 0 = 3 then rw &&& (2 ^ 64 - 4) else rw
    if bitsOf v 6 4 = 7 then rw &&& (2 ^ 64 - 1 - 0x70) else rw
  else if dmaImage base then (if s.chBusy i then 0 else rw)
  else if base = Reg.LOG_RDSEQ ∨ base = Reg.UM_SQ_TAIL ∨ base = Reg.UM_RQ_HEAD ∨ base = Reg.SL_CTRL 0 ∨ base = Reg.PW_HVOTE 0 then 0
  else rw

/-- A tail write (R380): the doorbell, or discarded with PTR_ERR. -/
def State.sqTail (s : State) (v : Nat) : State :=
  if v % 8 ≠ 0 ∨ 28664 < v then (s.setW1c Reg.UM_STAT F.UM_STAT_PTR_ERR).evUm 1
  else s.setFld Reg.UM_SQ_TAIL F.UM_SQ_TAIL_PTR v

/-- UM_RQ_HEAD written (R381): its pointer is a multiple of 8 within the ring; another value is not one of the ring's. -/
def State.rqHead (s : State) (v : Nat) : State :=
  if v % 8 ≠ 0 ∨ 28664 < v then s else s.setFld Reg.UM_RQ_HEAD F.UM_RQ_HEAD_PTR v

/-- What a write of the bits `v`, with which the register reads `full`, triggers in the package, power, reset, security or log registers triggers. -/
def State.hookPw (s : State) (base i v full : Nat) : State :=
  if base = Reg.PW_HVOTE 0 then (if i = 33 then s.setHvote33 v else s)
  else if base = Reg.PW_SHED_CTRL then s.askRestore v
  else if base = Reg.SEC_DBG_CTRL then (if v.testBit 1 then s.lockDebug else s)
  else if base = Reg.SEC_RNG_CTRL then (if v.testBit 0 then s.rngRetry else s)
  else if base = Reg.LOG_RDSEQ then s.wrMark full
  else if base = Reg.TW_CTRL then
    let s := if v.testBit 1 then s.resyncTwin else s
    if v.testBit 2 then s.sendPeerReset else s
  else if base = Reg.UM_CTRL then (if v.testBit 0 then s.resetCarrier .ring else s)
  else if base = Reg.UM_SQ_TAIL then s.sqTail full
  else if base = Reg.UM_RQ_HEAD then s.rqHead full
  else s

/-- What a write of a link's registers triggers. -/
def State.hookLink (s : State) (base i v : Nat) : State :=
  if base = Reg.AL_CTRL 0 then (if h : i < 96 then (if v.testBit 30 then s.alLoss ⟨i, h⟩ 5 else s) else s)
  else if base = Reg.HL_PORT_CTRL 0 then (if v.testBit 0 then s.portRetrain i else s)
  else if base = Reg.CL_PORT_CFG 0 then
    (if v.testBit 28 ∨ s.flag (Reg.CL_PORT_CFG i) F.CL_PORT_CFG_EN = false then
      s.clLoss i else s)
  else if base = Reg.CL_HERD_CFG then s.rtAll
  else s

/-- What a write of bits of a register triggers beside its stored fields (WO fields, and those that act). -/
def State.hook (s : State) (base i v full : Nat) : State :=
  if base = Reg.TL_CTRL then
    let s := if v.testBit 1 then s.tlClrStr else s
    if v.testBit 0 then s.tlInvalidate else s
  else if base = Reg.TL_ALARM_AT 0 then (if tlValid (BitVec.ofNat 64 full) then s else s.evTl 10)
  else if base = Reg.TL_REF_CFG then (if 5 ≤ s.fld Reg.TL_REF_CFG F.TL_REF_CFG_REF_SEL then s.refLost else s)
  else if base = Reg.CH_WB_CTRL 0 then
    let s := if v.testBit 0 then s.wbSync i else s
    if v.testBit 1 then (s.mirrorGen 5 i).access i (.restore none) else s
  else if base = Reg.CH_SPARE_CTRL 0 then
    let s := if v.testBit 31 then (s.spareGo i).1 else s
    if v.testBit 30 then (s.reinstate i none).1 else s
  else if base = Reg.VAT_RPR_REQ then s.rprReq v
  else if base = Reg.DMA_CTRL 0 then s.dmaCtrl i v
  else if base = Reg.EV_INJECT then (if v.testBit 31 then s.evInject (v % 1024) else s)
  else (s.hookLink base i v).hookPw base i v full

/-- The staged image takes the RWG bits of a write while its own carrier has it Open; else the write is discarded, and
counted where it would change a value (R17, R390, R407). `whole` says that every RWG bit of the register is written, which
clears its mark (R543). -/
def State.stageWrite (s : State) (own : Carrier) (k old new : Nat) (whole : Bool) : State :=
  if s.genState = 1 ∧ s.notOwner own = false ∧ s.isTarget = false then
    let s := if whole then s.updUm (fun u => { u with marks := u.marks.filter (fun j => j != k) }) else s
    (s.stage k (BitVec.ofNat 64 new)).mirrorStaged k (BitVec.ofNat 64 new)
  else if new ≠ old then (s.cnt Reg.UM_RWG_DROP).evUm 9
  else s

/-- FENCE and KILL of one write of SL_CTRLs, of the bits that it carries (R371, R372). -/
def State.slCtrl (s : State) (sl mask v : Nat) : State :=
  let s := if mask.testBit 0 then s.slFence sl (v.testBit 0) else s
  if v.testBit 1 then s.slKill sl else s

/-- The RWG bits of the register at offset `k` in the image that a write would change (R390). -/
def State.imageOf (s : State) (k : Nat) : Nat := (SMap.get (rstG k) (if s.genState = 0 then s.gen else s.staged) k).toNat

/-- The RWG bits that a write of `v` to the bits `mask` of the register at offset `k` would leave. -/
def State.newG (s : State) (k rwg mask v : Nat) : Nat :=
  (s.imageOf k ^^^ (s.imageOf k &&& mask)) ||| (v &&& mask &&& rwg)

/-- A write of `v` to the bits `mask` of the register at offset `k` carries an excluded value. -/
def State.wrExcluded (s : State) (k mask v : Nat) : Bool :=
  match findReg k with
  | none => false
  | some (r, _) => r.rwg &&& mask != 0 && excluded r.base (s.newG k r.rwg mask v)

/-- The bits `mask` of the register at offset `k` are written with `v`, for carrier `own` (R14 to R17, R322, R390). -/
def State.wrBits (s : State) (own : Carrier) (k mask v : Nat) : State :=
  match findReg k with
  | none => s
  | some (r, ix) =>
    let i := ix.headD 0
    let v := v &&& mask
    if !s.regServed k && r.rwg == 0 then s
    else if s.wrExcluded k mask v then s
    else
      let s := if r.rwg &&& mask = 0 then s
        else s.stageWrite own k (s.imageOf k) (s.newG k r.rwg mask v) (r.rwg &&& mask == r.rwg)
      let full := ((s.rdW k).toNat ^^^ ((s.rdW k).toNat &&& mask)) ||| v
      let rw := s.rwTaken r.base i (r.rw &&& mask) full
      let w1s := if r.base = Reg.DMA_CTRL 0 then 0 else r.w1s
      let old := s.rdW k
      let m (n : Nat) : Word := BitVec.ofNat 64 n
      let s := if s.regServed k then
          (s.wrW k ((((old &&& ~~~ m rw) ||| m (v &&& rw)) &&& ~~~ m (s.cleared k r.w1c v)) ||| m (v &&& w1s))).raiseAgain k
            (eventSource r.base i) (s.kept k r.w1c v)
        else s
      if s.on (regDom k) = false then s
      else if r.base = Reg.SL_CTRL 0 then s.slCtrl i mask v
      else if r.base = Reg.CL_HERD_CFG ∧ s.rdW k = old then s
      else s.hook r.base i v full

/-- The carrier to which a register access belongs (R389). -/
def ownerCarrier : Master → Carrier
  | .link _ => .ring
  | .um c => c

/-- The low word of a 64-bit register of RW or RWG fields that `who` has written and that waits for the high word (R88). -/
def State.heldOf (s : State) (who : Master) (k : Nat) : Option HeldWrite :=
  s.heldWr.find? (fun h => h.who == who && h.key == k)
/-- The held low word dropped. -/
def State.dropHeld (s : State) (who : Master) (k : Nat) : State :=
  s.setHeldWr (s.heldWr.filter (fun h => !(h.who == who && h.key == k)))

/-- A write of the bits `mask` of 32 bits at offset `off`. -/
def State.write32 (s : State) (who : Master) (off mask v : Nat) : State :=
  match findReg off with
  | some (r, _) =>
    if 8 ≤ r.bytes ∧ r.rw ||| r.rwg ≠ 0 then
      let s := s.dropHeld who off
      s.setHeldWr (⟨who, off, mask, v⟩ :: s.heldWr)
    else s.wrBits (ownerCarrier who) off mask v
  | none =>
    if off % 8 = 4 then
      match findReg (off - 4) with
      | some (r, _) =>
        if r.bytes < 8 then s
        else
          match s.heldOf who (off - 4) with
          | some h => (s.dropHeld who (off - 4)).wrBits (ownerCarrier who) (off - 4) (mask * 2 ^ 32 + h.mask) (v * 2 ^ 32 + h.val)
          | none => s.wrBits (ownerCarrier who) (off - 4) (mask * 2 ^ 32) (v * 2 ^ 32)
      | none => s
    else s

/-- A write of the bits `mask` of 64 bits, naturally aligned. -/
def State.write64 (s : State) (who : Master) (off mask v : Nat) : State :=
  match findReg off with
  | some (r, _) =>
    if 8 ≤ r.bytes then (s.dropHeld who off).wrBits (ownerCarrier who) off mask v
    else (s.write32 who off (mask % 2 ^ 32) (v % 2 ^ 32)).write32 who (off + 4) (mask / 2 ^ 32) (v / 2 ^ 32)
  | none => (s.write32 who off (mask % 2 ^ 32) (v % 2 ^ 32)).write32 who (off + 4) (mask / 2 ^ 32) (v / 2 ^ 32)

/-- A register write of 4 or 8 bytes. -/
def State.busWrite (s : State) (who : Master) (off : Nat) (wide : Bool) (mask v : Nat) : State :=
  if wide then s.write64 who off mask v else s.write32 who off mask v

/-- A write of 32 bits at offset `off` carries an excluded value, with the low half that it completes (R88, R100). -/
def State.excluded32 (s : State) (who : Master) (off mask v : Nat) : Bool :=
  match findReg off with
  | some (r, _) => if 8 ≤ r.bytes ∧ r.rw ||| r.rwg ≠ 0 then false else s.wrExcluded off mask v
  | none =>
    if off % 8 = 4 then
      match s.heldOf who (off - 4) with
      | some h => s.wrExcluded (off - 4) (mask * 2 ^ 32 + h.mask) (v * 2 ^ 32 + h.val)
      | none => s.wrExcluded (off - 4) (mask * 2 ^ 32) (v * 2 ^ 32)
    else false

/-- A register write of 4 or 8 bytes carries an excluded value. -/
def State.busExcluded (s : State) (who : Master) (off : Nat) (wide : Bool) (v : Nat) : Bool :=
  if wide then
    match findReg off with
    | some (r, _) =>
      if 8 ≤ r.bytes then s.wrExcluded off (ones 64) v
      else s.excluded32 who off (ones 32) (v % 2 ^ 32) || s.excluded32 who (off + 4) (ones 32) (v / 2 ^ 32)
    | none => s.excluded32 who off (ones 32) (v % 2 ^ 32) || s.excluded32 who (off + 4) (ones 32) (v / 2 ^ 32)
  else s.excluded32 who off (ones 32) v

/-! ## The rows -/

/-- A register access is delivered: MGMT is on, and a link is the manager link (R141, R320). -/
def State.mayAccess (s : State) (who : Master) : Bool :=
  s.on 3 && (match who with
    | .link m => m.val == s.mgr
    | .um _ => true)

/-- REGISTER_WRITE (R14, R88, R141, R390): a write of 4 or 8 bytes, every byte enabled. -/
def execRegisterWrite (who : Master) (off : Nat) (wide : Bool) (v : Word) (s : State) : Res :=
  if s.mayAccess who = true ∧ off % (if wide then 8 else 4) = 0 then
    .next (s.busWrite who off wide (if wide then ones 64 else ones 32) (if wide then v.toNat else v.toNat % 2 ^ 32))
  else .next s

/-- REGISTER_READ_CLEAR (R14): a read of 4 bytes returns the value, and RC fields clear. -/
def execRegisterReadClear (who : Master) (off : Nat) (s : State) : Res :=
  if s.mayAccess who = true ∧ off % 4 = 0 then
    let (s, v) := s.read32 who off
    match who with
    | .link m => .next (s.emit (.cpl m 0 (leBytes 4 v)))
    | .um _ => .next s
  else .next s

/-- UM_SQ_TAIL_WRITE (R380). -/
def execUmSqTailWrite (v : BitVec 32) (s : State) : Res := if s.on 3 then .next (s.sqTail v.toNat) else .next s

/-- UM_RQ_HEAD_WRITE (R381). -/
def execUmRqHeadWrite (v : BitVec 32) (s : State) : Res := if s.on 3 then .next (s.rqHead v.toNat) else .next s

/-- UM_CTRL_RESET (R382): a write of UM_CTRL.RESET. -/
def execUmCtrlReset (s : State) : Res := if s.on 3 then .next (s.resetCarrier .ring) else .next s

end Sys2Proof.Machine
end

