-- ==== Sys2Proof/Machine/Windows.lean ====
section
/-! DEFINITION. The host windows: the regions of BAR0, the slice windows of BAR2, the Expansion ROM and the Resource Table
(11 R319 to R331, 12 R361 to R366, and 18 R528). -/

namespace Sys2Proof.Machine

/-! ## The regions of BAR0 (R319) -/

/-- The regions of BAR0 by KIND: code, offset and size. -/
def bar0Regions : List (Nat × Nat × Nat) := [
  (0x01, 0x0, 0x1000), (0x02, 0x1000, 0x1000), (0x03, 0x2000, 0x2000), (0x04, 0x4000, 0x4000), (0x05, 0x8000, 0x8000),
  (0x06, 0x10000, 0x10000), (0x07, 0x20000, 0x8000), (0x08, 0x28000, 0x100), (0x09, 0x30000, 0x4000), (0x0A, 0x40000, 0x10000),
  (0x0B, 0x50000, 0x1000), (0x0C, 0x100000, 0x100000), (0x0D, 0x200000, 0x60C00), (0x0E, 0x300000, 0x20004)] ++ [
  (0x0F, 0x400000, 0x400000), (0x10, 0x800000, 0x1080), (0x11, 0xA00000, 0x14000), (0x12, 0xC00000, 0x100000),
  (0x13, 0xD00000, 0x80000), (0x14, 0xE00000, 0x70200), (0x15, 0x1000000, 0xC00000)]

/-- The region that holds an access of `len` bytes at `off`. -/
def bar0Region (off len : Nat) : Option Nat :=
  (bar0Regions.find? (fun r => decide (r.2.1 ≤ off ∧ off + len ≤ r.2.1 + r.2.2))).map (·.1)

/-! ## The Resource Table (R327 to R331) -/

/-- An entry: its header and its body, filled with zeros to its length. -/
def rtEntry (ty len idx : Nat) (body : List Byte) : List Byte :=
  leBytes 2 ty ++ leBytes 2 len ++ leBytes 4 idx ++ (body ++ List.replicate (len - 8 - body.length) 0)

/-- A WINDOW entry. -/
def rtWindow (idx bar kind acc off size : Nat) : Nat × List Byte :=
  (idx, rtEntry 2 32 idx (leBytes 1 bar ++ leBytes 1 kind ++ leBytes 1 acc ++ List.replicate 5 0 ++ leBytes 8 off ++ leBytes 8 size))

/-- Entries with their indices, put in order of index and, among equals, as they stand. -/
def rtSorted (es : List (Nat × List Byte)) : List Byte := (es.mergeSort (fun a b => decide (a.1 ≤ b.1))).flatMap (·.2)

/-- Port `n`'s window is open to link `m` (R268). -/
def State.winOpen (s : State) (n m : Nat) : Bool :=
  s.flag (Reg.AL_WIN_CTRL n) F.AL_WIN_CTRL_EN && (s.fld (Reg.AL_WIN_HOSTS n) F.AL_WIN_HOSTS_LINKS).testBit m

/-- The WINDOW entries of link `m`'s table (R329, R330). -/
def State.rtWindows (s : State) (m : Nat) : List Byte :=
  let mgr := s.mgr == m
  let fixed := bar0Regions.filter (fun r => r.1 != 0x15 && (mgr || r.1 == 1 || r.1 == 3 || r.1 == 7 || r.1 == 8))
  let acc (k : Nat) : Nat := if k = 8 ∨ k = 0xA then 1 else if mgr ∨ k = 7 then 3 else 1
  let weights := if mgr then (List.range 12).map (fun g => rtWindow g 0 0x15 3 (0x1000000 + 0x100000 * g) 0x100000) else []
  let slices := (s.boundSlices.filter (fun sl => mgr || s.slLink sl == m)).map (fun sl =>
    rtWindow sl 2 0x20 (if s.slLink sl = m then 3 else 0) (0x10000 * sl) 0x10000)
  let locals_ := ((List.range 96).filter (fun n => mgr || s.winOpen n m)).map (fun n =>
    rtWindow n 4 0x30 (if s.winOpen n m then 3 else 0) (0x10000000 * n) 0x10000000)
  rtSorted (fixed.map (fun r => rtWindow 0 0 r.1 (acc r.1) r.2.1 r.2.2) ++ weights ++ slices ++ locals_ ++
    [rtWindow 0 0xFF 0x40 1 0x800000 0x800000, rtWindow 0 0xFF 0x41 1 0 0x800000])

/-- The device's role: 0 solo, 1 A, 2 B, 3 a herd member (R329). -/
def State.roleCode (s : State) : Nat :=
  if s.role ≠ 0 then s.role else if s.flag Reg.CL_HERD_CFG F.CL_HERD_CFG_EN then 3 else 0

/-- The DEVICE entry. -/
def State.rtDevice (s : State) : List Byte :=
  rtEntry 1 24 0 (leBytes 2 96 ++ leBytes 2 1024 ++ leBytes 2 4096 ++ leBytes 2 2048 ++ [8, 4, 16] ++ leBytes 1 s.roleCode ++
    leBytes 2 (s.fld Reg.CL_HERD_CFG F.CL_HERD_CFG_ADDR) ++ leBytes 1 s.mgr)

/-- The HOST_LINK entry of link `k` in link `m`'s table. -/
def State.rtLink (s : State) (m k : Nat) : List Byte :=
  let st := Reg.HL_LINK_STAT k
  let flags := (if s.linkPresent k then 1 else 0) + (if s.mgr = k then 2 else 0) + (if k = m then 4 else 0)
  let up := s.on (domH (k / 4))
  rtEntry 3 16 k (leBytes 1 flags ++ leBytes 1 (if up then s.fld st F.HL_LINK_STAT_WIDTH else 0) ++
    leBytes 1 (if up then s.fld st F.HL_LINK_STAT_RATE else 0) ++ [0] ++ leBytes 2 (s.linkSlices k).length)

/-- The ALINK_PORT entry of port `n` in link `m`'s table. -/
def State.rtPort (s : State) (m n : Nat) : List Byte :=
  let flags := (if s.winOpen n m then 1 else 0) + (if s.parted n then 2 else 0) +
    (if s.flag (Reg.AL_WIN_CTRL n) F.AL_WIN_CTRL_SLICE_EN then 4 else 0)
  rtEntry 4 24 n (leBytes 1 (n / 8) ++ leBytes 1 (n / 24) ++ leBytes 1 flags ++ leBytes 1 (s.fld (Reg.AL_WIN_CTRL n) F.AL_WIN_CTRL_SWAP) ++
    leBytes 2 (s.alSlice n) ++ [0, 0] ++ leBytes 8 (0x10000000 * n))

/-- The SLICE entry of slice `sl`. -/
def State.rtSlice (s : State) (sl : Nat) : List Byte :=
  let flags := (if s.holds sl then 1 else 0) + (if s.sec.key.isSome then 2 else 0)
  rtEntry 5 40 sl (leBytes 4 (s.slPasid sl) ++ leBytes 2 (s.chansOf.filter (fun c => s.chSlice c == sl)).length ++
    leBytes 1 (s.fld (Reg.SL_VECMAP sl) F.SL_VECMAP_COUNT) ++ leBytes 1 flags ++ leBytes 8 (0x10000 * sl))

/-- The UEFI driver that is served: of the flash slot that booted (R326, R503). -/
def State.uefi (s : State) : List Byte := if s.fld Reg.RS_BOOT F.RS_BOOT_SOURCE ≤ 1 then Config.imageUefi s.image else []

/-- The FEATURE mask: IDE and TDISP where slot 0 has a chain (R526), a UEFI image where the image carries one, and what
every device has. -/
def State.features (s : State) : Nat :=
  (if s.sec.key.isSome then 3 else 0) + 0x2FC + (if s.uefi.isEmpty then 0 else 0x100)

/-- The event groups: first source, count and sources per occurrence of a block (R338). -/
def eventGroups : List (Nat × Nat × Nat × Nat) := [
  (0, 0, 288, 3), (1, 288, 128, 4), (2, 416, 64, 4), (3, 480, 32, 1), (4, 512, 16, 4), (5, 528, 16, 16), (6, 544, 24, 24),
  (7, 568, 16, 16), (8, 584, 16, 16), (9, 600, 24, 24), (10, 624, 16, 16)]

/-- The entries of link `m`'s table in order (R328, R330). -/
def State.rtEntries (s : State) (m : Nat) : List Byte :=
  let mgr := s.mgr == m
  s.rtDevice ++ s.rtWindows m ++
    ((List.range 32).filter (fun k => if mgr then s.linkPresent k else k == m)).flatMap (s.rtLink m) ++
    ((List.range 96).filter (fun n => mgr || s.winOpen n m ||
      (s.flag (Reg.AL_WIN_CTRL n) F.AL_WIN_CTRL_SLICE_EN && s.bound (s.alSlice n) && s.slLink (s.alSlice n) == m))).flatMap (s.rtPort m) ++
    (s.boundSlices.filter (fun sl => mgr || s.slLink sl == m)).flatMap s.rtSlice ++
    rtEntry 6 16 0 (leBytes 8 s.features) ++
    (if mgr then eventGroups.flatMap (fun e => rtEntry 7 16 e.1 (leBytes 2 e.2.1 ++ leBytes 2 e.2.2.1 ++ leBytes 2 e.2.2.2)) else []) ++
    rtEntry 0xFFFF 8 0 []

/-- FW_VERSION of the running image (R514). -/
def State.fwVersion (s : State) : Nat := leAt s.sec.imgHead 8 4

/-- Link `m`'s Resource Table (R327). -/
def State.resourceTable (s : State) (m : Nat) : List Byte :=
  let es := s.rtEntries m
  let h := leBytes 4 0x54524253 ++ leBytes 2 0x0100 ++ leBytes 2 64 ++ leBytes 4 (64 + es.length) ++ leBytes 4 (s.link m).rtCount
  let t := leBytes 2 m ++ [0x20] ++ leBytes 1 s.sec.fuses.ordering ++ leBytes 8 s.sec.fuses.dsn ++ leBytes 4 s.fwVersion ++
    leBytes 4 (s.fld Reg.UM_GEN_SEQ F.UM_GEN_SEQ_SEQ) ++ List.replicate 24 0 ++ es
  h ++ leBytes 4 (crc32c (h ++ [0, 0, 0, 0] ++ t)) ++ t

/-- `n` bytes of a string from `off`, 0 beyond its end. -/
def bytesAt (bs : List Byte) (off n : Nat) : List Byte :=
  let p := (bs.drop off).take n
  p ++ List.replicate (n - p.length) 0

/-- Bytes of link `m`'s Expansion ROM (R325, R326). -/
def State.romBytes (s : State) (m off len : Nat) : List Byte :=
  (if off < 0x800000 then bytesAt (s.uefi.take 0x800000) off (min len (0x800000 - off)) else []) ++
    (if 0x800000 < off + len then bytesAt (s.resourceTable m) (max off 0x800000 - 0x800000) (off + len - max off 0x800000) else [])

/-- EXPANSION_ROM_READ (R311, R312, R325): at most 4 KiB within one 4 KiB unit. -/
def execExpansionRomRead (m : HLink) (off len : Nat) (s : State) : Res :=
  if s.reachable m then
    if s.memOn m && (s.link m).flr.isNone && ((s.link m).cfgW 0x030).testBit 0 && decide (1 ≤ len) && decide (off + len ≤ 0x1000000) &&
        decide (off % 4096 + len ≤ 4096) then
      .next (s.emit (.cpl m 0 (s.romBytes m off len)))
    else .next (s.hostUr m true)
  else .next s

/-! ## BAR0 (R319 to R321) -/

/-- A completion of link `m` with `len` bytes of a value. -/
def State.cplNat (s : State) (m len v : Nat) : State := s.emit (.cpl m 0 (leBytes len v))

/-- The enabled bits of a write's bytes, and its value. -/
def enabledBits : List (Option Byte) → Nat × Nat
  | [] => (0, 0)
  | none :: bs =>
    let (m, v) := enabledBits bs
    (m * 256, v * 256)
  | some b :: bs =>
    let (m, v) := enabledBits bs
    (m * 256 + 255, v * 256 + b.toNat)

/-- Bytes written into a ring from `i` on, where enabled. -/
def ringPut : SMap Byte → Nat → List (Option Byte) → SMap Byte
  | r, _, [] => r
  | r, i, none :: bs => ringPut r (i + 1) bs
  | r, i, some b :: bs => ringPut (SMap.put 0 r i b) (i + 1) bs

/-- Bytes of a ring from `i` on. -/
def ringBytes (r : SMap Byte) (i n : Nat) : List Byte := (List.range n).map (fun j => SMap.get 0 r (i + j))

/-- Errors that an access meets in the submission ring's words `is`: each is counted, and an uncorrectable one poisons its
word (R170, R185, R387). -/
def State.ringErrors (s : State) (is : List Nat) (hits : List EccHit) : State :=
  let hs := hits.filter (fun h => h.pail == storeHit 2 && is.contains h.word && decide (h.word < 3584) &&
    !s.um.sqBad.contains h.word)
  let s := (s.storeErrors 2 hs).1
  s.updUm (fun u => { u with sqBad := ((hs.filter (·.unc)).map (·.word)).foldl insNat u.sqBad })

/-- The words of a row whose old contents a ring write at byte `i` needs (R186). -/
def ringKept (i : Nat) (data : List (Option Byte)) : List Nat :=
  ((List.range 4).map (4 * (i / 32) + ·)).filter (fun j => j != i / 8 || data.length != 8 || data.any (·.isNone))

/-- A write into the Umger region beyond its registers (R186, R187, R379): one that would change part of a poisoned word is
dropped and counted. The Boolean says that it was. -/
def State.ringWrite (s : State) (off : Nat) (data : List (Option Byte)) (hits : List EccHit) : State × Bool :=
  if 0x11000 ≤ off ∧ off < 0x18000 then
    let i := off - 0x11000
    let s := s.ringErrors (ringKept i data) hits
    if s.um.sqBad.contains (i / 8) then
      if data.length = 8 ∧ data.all (·.isSome) = true then
        (s.updUm (fun u => { u with sq := ringPut u.sq i data, sqBad := u.sqBad.filter (fun j => j != i / 8) }), false)
      else ((s.cnt (Reg.VAT_ST_PDROP 2)).evUm 6, true)
    else (s.updUm (fun u => { u with sq := ringPut u.sq i data }), false)
  else if 0x19000 ≤ off then (s.updUm (fun u => { u with rq := ringPut u.rq (off - 0x19000) data }), false)
  else (s, false)

/-- A read of the Umger region beyond its registers (R185, R379). -/
def State.ringRead (s : State) (m off len : Nat) (hits : List EccHit) : State :=
  if 0x11000 ≤ off ∧ off < 0x18000 then
    let i := off - 0x11000
    let s := s.ringErrors [i / 8] hits
    if s.um.sqBad.contains (i / 8) then (s.aerUnc m aerInternal []).emit (.cplEp m (List.replicate len 0))
    else s.emit (.cpl m 0 (ringBytes s.um.sq i len))
  else if 0x19000 ≤ off then s.emit (.cpl m 0 (ringBytes s.um.rq (off - 0x19000) len))
  else s.cplNat m len 0

/-- The entries that `len` bytes at offset `off` of the trouble log's region lie in. -/
def logEntries (off len : Nat) : List Nat := (List.range ((off % 32 + len + 31) / 32)).map (off / 32 + ·)

/-- Bytes of the trouble log's region: a poisoned entry reads as zeros (R185, R548). -/
def State.logRegion (s : State) (off len : Nat) : List Byte :=
  let n := (off % 32 + len + 31) / 32
  (((List.range n).flatMap (fun j => s.logBytes (off / 32 + j))).drop (off % 32)).take len

/-- What the pending-bit array of link `m` shows at a byte offset (R332). -/
def State.pbaRead (s : State) (m off len : Nat) : Nat :=
  ((s.link m).pend.foldl (fun a v => if 8 * off ≤ v ∧ v < 8 * (off + len) then a + 2 ^ (v - 8 * off) else a) 0)

/-- Whether the access is permitted from link `m` (R319, R320). -/
def State.bar0May (s : State) (m kind off : Nat) (write : Bool) : Bool :=
  s.mgr == m || kind == 7 || kind == 8 || (!write && (kind == 1 || (kind == 3 && decide (off < 0x200C))))

/-- A permitted read of BAR0. -/
def State.bar0Read (s : State) (m : HLink) (kind off len : Nat) (hits : List EccHit) : State :=
  if kind = 7 then
    s.cplNat m len (((s.link m).msixW ((off - 0x20000) / 8)).toNat / 2 ^ (8 * (off % 8)))
  else if kind = 8 then s.cplNat m len (s.pbaRead m (off - 0x28000) len)
  else if kind = 0xA then
    let s := s.logErrors (logEntries (off - 0x40000) len) hits
    s.emit (.cpl m 0 (s.logRegion (off - 0x40000) len))
  else if kind = 0x15 then
    let g := (off - 0x1000000) / 0x100000
    if s.on (domC (s.groupUnit g)) = false then s.hostUr m true else s.access g (.read m (off % 0x100000) len hits)
  else if kind = 6 ∧ 0x11000 ≤ off then s.ringRead m off len hits
  else
    let (s, v) := s.busRead (.link m) off (len == 8)
    s.cplNat m len v

/-- A permitted write of BAR0. -/
def State.bar0Write (s : State) (m : HLink) (kind off : Nat) (data : List (Option Byte)) (hits : List EccHit) : State :=
  if kind = 7 then s.msixPut m ((off - 0x20000) / 8) (off % 8) data
  else if kind = 8 ∨ kind = 0xA then s
  else if kind = 0x15 then
    s.windowWrite m ((off - 0x1000000) / 0x100000) (off % 0x100000) data hits
  else if kind = 6 ∧ 0x11000 ≤ off then
    let (s, bad) := s.ringWrite off data hits
    if bad then s.aerUnc m aerInternal [] else s
  else
    let (mask, v) := enabledBits data
    s.busWrite (.link m) off (data.length == 8) mask v

/-- The form of an access that a region takes (R321). -/
def formOk (kind off len : Nat) : Bool :=
  if kind = 0xA ∨ kind = 0x15 then decide (1 ≤ len ∧ len ≤ 512 ∧ off % 4096 + len ≤ 4096)
  else (len == 4 || len == 8) && off % len == 0

/-- BAR0_ACCESS (R311, R312, R319 to R321): a memory request to BAR0, a read of `len` bytes or a write of `data`. -/
def execBar0Access (m : HLink) (off len : Nat) (write : Bool) (data : List (Option Byte)) (s : State) (hits : List EccHit := []) :
    Res :=
  if s.reachable m && s.on 3 then
    let len := if write then data.length else len
    match bar0Region off len with
    | none => .next (s.hostUr m (!write))
    | some kind =>
      if s.memOn m && (s.link m).flr.isNone && formOk kind off len then
        if s.bar0May m kind off write then
          .next (if write then s.bar0Write m kind off data hits else s.bar0Read m kind off len hits)
        else .next (if write then s else s.cplNat m len 0)
      else .next (s.hostUr m (!write))
  else .next s

/-! ## BAR2 (R323, R324, R361 to R366, R528) -/

/-- The enabled channel of slice `sl` at slot `slot` (R195, R196). -/
def State.slotChan (s : State) (sl slot : Nat) : Option Nat :=
  s.chansOf.find? (fun c => s.chSlice c == sl && s.fld (Reg.DMA_OWN c) F.DMA_OWN_SLOT == slot)

/-- A register of the slice window that BAR0 does not show. -/
def State.win (s : State) (sl off : Nat) : Nat := (SMap.get 0 (s.slice sl).win off).toNat

/-- The object that SL_CSEL names belongs to the slice (R362). -/
def State.cselValid (s : State) (sl : Nat) : Bool :=
  let c := s.win sl 0xC000
  if c.testBit 30 then s.fld (Reg.VAT_PAIL_A (bitsOf c 13 0)) F.VAT_PAIL_A_SLICE == sl
  else bitsOf c 13 0 < 256 && s.fld (Reg.CH_STR (bitsOf c 17 14) (bitsOf c 13 0)) F.CH_STR_SLICE == sl

/-- SL_CVALk (R362). -/
def State.cval (s : State) (sl k : Nat) : Nat :=
  let c := s.win sl 0xC000
  let i := bitsOf c 13 0
  let u := bitsOf c 17 14
  if s.cselValid sl = false then 0
  else if c.testBit 30 then
    match k with
    | 0 => s.busWord (Reg.VAT_PAIL_DROP i)
    | 1 => s.busWord (Reg.VAT_PAIL_LATE i)
    | 2 => s.busWord (Reg.VAT_PAIL_POISON i)
    | 3 => s.busWord (Reg.VAT_PAIL_STAT i)
    | _ => 0
  else
    match k with
    | 0 => s.busWord (Reg.CH_CALSAT u i)
    | 1 => s.busWord (Reg.CH_REQSAT u i)
    | 2 => s.busWord (Reg.CH_NAN u i)
    | 3 => s.busWord (Reg.CH_FMTERR u i)
    | _ => s.busWord (Reg.CH_ABSENT u i)

/-- SL_TWHEELi (R362): the beats that the link's wheel grants to the slice. -/
def State.twheel (s : State) (sl i : Nat) : Nat :=
  ((List.range 16).map (fun j =>
    let k := Reg.DMA_WHEEL_E (s.slLink sl) (16 * i + j)
    if s.flag k F.DMA_WHEEL_E_EN && s.fld k F.DMA_WHEEL_E_SLICE == sl then s.fld k F.DMA_WHEEL_E_BEATS % 4 * 2 ^ (2 * j) else 0)).foldl (· + ·) 0

/-- A 32-bit slice register (R361, R376). -/
def State.slReg (s : State) (sl off : Nat) : Nat :=
  if off = 0xA000 then sl + s.slLink sl * 2 ^ 24
  else if off = 0xA004 then s.slPasid sl
  else if off = 0xA008 then s.slStat sl % 256
  else if off = 0xA00C then (s.rdW (Reg.SL_MBOX_STAT sl)).toNat
  else if off = 0xA010 then s.win sl 0xA010
  else if off = 0xA01C then (s.rdW (Reg.SL_IRQDROP sl)).toNat
  else if 0xA100 ≤ off ∧ off < 0xA200 then s.twheel sl ((off - 0xA100) / 4)
  else if off = 0xC000 then s.win sl 0xC000 + (if s.cselValid sl then 2 ^ 31 else 0)
  else if 0xC008 ≤ off ∧ off < 0xC01C then s.cval sl ((off - 0xC008) / 4)
  else 0

/-- A write of bits of a 32-bit slice register. -/
def State.slRegWrite (s : State) (sl off mask v : Nat) : State :=
  let v := v &&& mask
  let put (rw : Nat) : State :=
    let old := s.win sl off
    s.setWin sl off ((old ^^^ (old &&& mask &&& rw)) ||| (v &&& rw))
  if off = 0xA00C then s.wrW (Reg.SL_MBOX_STAT sl) (s.rdW (Reg.SL_MBOX_STAT sl) &&& ~~~ BitVec.ofNat 64 (s.cleared (Reg.SL_MBOX_STAT sl) 0x30000000 v))
  else if off = 0xA010 then put 0xC0003F3F
  else if off = 0xA014 then s.dbin sl (bitsOf v 12 0)
  else if off = 0xA018 then (if v.testBit 0 then s.dbout sl else s)
  else if off = 0xC000 then put 0x4003FFFF
  else s

/-- A mailbox area written where enabled (R365): discarded while IN_FULL is 1. -/
def State.mboxWrite (s : State) (sl off : Nat) (data : List (Option Byte)) : State :=
  if s.mb sl F.SL_MBOX_STAT_IN_FULL ≠ 0 then s
  else s.updSlice sl (fun r => { r with mbIn := ringPut r.mbIn off data })

/-- A read of slice `sl`'s window. -/
def State.bar2Read (s : State) (m : HLink) (sl off len : Nat) : State :=
  if off < 0x8000 then
    match s.slotChan sl (off / 0x80) with
    | some c =>
      let (s, v) := s.busRead (.link m) (Reg.DMA_SRC c + off % 0x80) (len == 8)
      s.cplNat m len v
    | none => s.cplNat m len 0
  else if off < 0x9000 then s.emit (.cpl m 0 (ringBytes (s.slice sl).mbIn (off - 0x8000) len))
  else if off < 0xA000 then s.emit (.cpl m 0 (ringBytes (s.slice sl).mbOut (off - 0x9000) len))
  else s.cplNat m len (s.slReg sl off + (if len = 8 then s.slReg sl (off + 4) * 2 ^ 32 else 0))

/-- A write of slice `sl`'s window. -/
def State.bar2Write (s : State) (m : HLink) (sl off : Nat) (data : List (Option Byte)) : State :=
  let (mask, v) := enabledBits data
  if off < 0x8000 then
    match s.slotChan sl (off / 0x80) with
    | some c => s.busWrite (.link m) (Reg.DMA_SRC c + off % 0x80) (data.length == 8) mask v
    | none => s
  else if off < 0x9000 then s.mboxWrite sl (off - 0x8000) data
  else if off < 0xA000 then s
  else if data.length = 8 then
    (s.slRegWrite sl off (mask % 2 ^ 32) (v % 2 ^ 32)).slRegWrite sl (off + 4) (mask / 2 ^ 32) (v / 2 ^ 32)
  else s.slRegWrite sl off mask v

/-- A slice's TDI lets an access in (R528): `tee` tells that it carries T = 1 on a TEE-limited selective stream. -/
def State.tdiLets (s : State) (sl : Nat) (tee : Bool) : Bool := s.tdi sl == 0 || (s.tdi sl == 2 && tee)

/-- The generation whose instant has come unbinds or rebinds the slice: that applies first (R375). -/
def State.leaving (s : State) (sl : Nat) : Bool :=
  let k := Reg.SL_BIND sl
  s.bound sl && SMap.get (rstG k) s.routes k != s.rdG k

/-- BAR2_ACCESS (R311, R312, R321, R323, R324, R528): a memory request to BAR2. -/
def execBar2Access (m : HLink) (off len : Nat) (write tee : Bool) (data : List (Option Byte)) (s : State) : Res :=
  if s.reachable m && s.on 3 then
    let len := if write then data.length else len
    let sl := off / 0x10000
    let o := off % 0x10000
    if s.memOn m && (s.link m).flr.isNone && (len == 4 || len == 8) && o % len == 0 && sl < 1024 && o < 0xE000 &&
        s.bound sl && s.slLink sl == m.val && s.tdiLets sl tee && !s.leaving sl then
      .next (if write then s.bar2Write m sl o data else s.bar2Read m sl o len)
    else .next (s.hostUr m (!write))
  else .next s

end Sys2Proof.Machine
end

