-- ==== Sys2Proof/Machine/UmConfig.lean ====
section
/-! DEFINITION. Umger's commands of identity, registers, generations and the timeline (13 R401, 02 R67). -/

namespace Sys2Proof.Machine

/-! ## Identity -/

/-- IDENTIFY (R401). -/
def execIdentify (h : UmHdr) (p : List Byte) (s : State) : Res :=
  s.umRun h 0x0100 p.length (fun s =>
    s.reply h 0x0100 stOK (leBytes 8 s.sec.fuses.dsn ++ [0x20] ++ leBytes 1 s.sec.fuses.ordering ++ leBytes 1 s.roleCode ++
      leBytes 1 s.sec.lcNow ++ leBytes 4 s.fwVersion ++ leBytes 4 (s.fld Reg.UM_GEN_SEQ F.UM_GEN_SEQ_SEQ) ++
      leBytes 2 (s.fld Reg.CL_HERD_CFG F.CL_HERD_CFG_ADDR) ++ leBytes 1 s.mgr ++ [0] ++ leBytes 4 (s.rdW Reg.PW_MODE).toNat))

/-- PING (R401). -/
def execPing (h : UmHdr) (p : List Byte) (s : State) : Res :=
  s.umRun h 0x0101 p.length (fun s => s.reply h 0x0101 stOK p)

/-- RT_READ (R331, R401): bytes of the manager link's Resource Table; beyond its end they are those of the ROM area. -/
def execRtRead (h : UmHdr) (p : List Byte) (s : State) : Res :=
  s.umRun h 0x0102 p.length (fun s =>
    let off := leAt p 0 4
    let n := leAt p 4 2
    if n = 0 ∨ 4096 < n ∨ 0x800000 < off + n then s.refuse h 0x0102 stBadParam
    else s.reply h 0x0102 stOK (bytesAt (s.resourceTable s.mgr) off n))

/-- MGR_LINK_SET (R401): the link changes in the Tc after the reply is posted. -/
def execMgrLinkSet (h : UmHdr) (p : List Byte) (s : State) : Res :=
  s.umRun h 0x0103 p.length (fun s =>
    let m := leAt p 0 1
    if 32 ≤ m ∨ s.linkPresent m = false then s.refuse h 0x0103 stBadParam
    else (s.reply h 0x0103 stOK []).updUm (fun u => { u with mgrNext := some m }))

/-- The manager link asked for takes effect, once the reply is posted (R401): R382 acts on the ring carrier. -/
def State.applyMgr (s : State) : State :=
  match s.um.mgrNext with
  | some m =>
    if s.um.due.any (fun r => r.op == 0x0103 && r.status == stOK) then s
    else
      let s := (s.setFld Reg.HL_GLOBAL_MGR F.HL_GLOBAL_MGR_LINK m).updUm (fun u => { u with mgrNext := none })
      (s.resetCarrier .ring).rtAll
  | none => s

/-! ## Registers (R88, R320 to R322, R387, R389, R401) -/

/-- Every access of a run of `n` of `size` bytes lies in a region of BAR0. -/
def inRegions (off size n : Nat) : Bool := (List.range n).all (fun i => (bar0Region (off + size * i) size).isSome)

/-- A register's word with its RWG fields from the staged image, where one exists (R390). -/
def State.stagedWord (s : State) (k : Nat) : Nat :=
  let w := BitVec.ofNat 64 (s.busWord k)
  if s.genState = 0 then w.toNat else ((w &&& ~~~ rwgMask k) ||| (s.rdS k &&& rwgMask k)).toNat

/-- 32 bits at offset `off` as REG_READ with STAGED shows them: nothing clears and nothing is latched. -/
def State.stagedRead (s : State) (off : Nat) : Nat :=
  let at_ (r : RegRow) (ix : List Nat) : Nat :=
    let b := regBase r ix
    let j := (off - b) / 4
    s.stagedWord (b + 8 * (j / 2)) / 2 ^ (32 * (j % 2)) % 2 ^ 32
  match findReg off with
  | some (r, ix) => at_ r ix
  | none =>
    if off % 8 = 4 then
      match findReg (off - 4) with
      | some (r, ix) => if 8 ≤ r.bytes then at_ r ix else 0
      | none => 0
    else 0

/-- One access of REG_READ outside the weight windows: the state after, the value, and whether a poisoned word was met. -/
def State.umPeek (s : State) (c : Carrier) (staged : Bool) (hits : List EccHit) (off size : Nat) : State × Nat × Bool :=
  match bar0Region off size with
  | some 7 => (s, ((s.link s.mgr).msixW ((off - 0x20000) / 8)).toNat / 2 ^ (8 * (off % 8)) % 2 ^ (8 * size), false)
  | some 8 => (s, s.pbaRead s.mgr (off - 0x28000) size, false)
  | some 0xA =>
    let s := s.logErrors (logEntries (off - 0x40000) size) hits
    (s, leNat (s.logRegion (off - 0x40000) size), false)
  | _ =>
    if 0x11000 ≤ off ∧ off < 0x18000 then
      let s := s.ringErrors [(off - 0x11000) / 8] hits
      (s, leNat (ringBytes s.um.sq (off - 0x11000) size), s.um.sqBad.contains ((off - 0x11000) / 8))
    else if 0x19000 ≤ off ∧ off < 0x20000 then (s, leNat (ringBytes s.um.rq (off - 0x19000) size), false)
    else if staged then
      (s, s.stagedRead off + (if size = 8 then s.stagedRead (off + 4) * 2 ^ 32 else 0), false)
    else
      let (s, v) := s.busRead (.um c) off (size == 8)
      (s, v, false)

/-- `n` accesses of REG_READ at consecutive offsets: the bytes read, and whether a poisoned word was met. -/
def State.umPeeks : State → Carrier → Bool → List EccHit → Nat → Nat → Nat → State × List Byte × Bool
  | s, _, _, _, _, _, 0 => (s, [], false)
  | s, c, st, hits, size, off, n + 1 =>
    let (s, v, bad) := s.umPeek c st hits off size
    let (s, bs, bad') := s.umPeeks c st hits size (off + size) n
    (s, leBytes size v ++ bs, bad || bad')

/-- One access of REG_WRITE outside the weight windows; the Boolean says that a poisoned word dropped it. -/
def State.umPoke (s : State) (c : Carrier) (hits : List EccHit) (off size v : Nat) : State × Bool :=
  match bar0Region off size with
  | some 7 => (s.msixPut s.mgr ((off - 0x20000) / 8) (off % 8) ((leBytes size v).map some), false)
  | some 8 => (s, false)
  | some 0xA => (s, false)
  | _ =>
    if 0x11000 ≤ off ∧ off < 0x20000 then s.ringWrite off ((leBytes size v).map some) hits
    else (s.busWrite (.um c) off (size == 8) (if size = 8 then ones 64 else ones 32) v, false)

/-- The accesses of REG_WRITE: the state after, whether one carried an excluded value (R100), and whether a poisoned word
dropped one. -/
def State.umPokes : State → Carrier → List EccHit → Nat → Nat → List Nat → State × Bool × Bool
  | s, _, _, _, _, [] => (s, false, false)
  | s, c, hits, size, off, v :: vs =>
    let ex := s.busExcluded (.um c) off (size == 8) v
    let (s, bad) := s.umPoke c hits off size v
    let (s, ex', bad') := s.umPokes c hits size (off + size) vs
    (s, ex || ex', bad || bad')

/-- The unit that serves the weight window at offset `w` of the windows is off (R145). -/
def State.windowOff (s : State) (w : Nat) : Bool := !s.on (domC (s.groupUnit (w / 0x100000)))

/-- Umger's read of `n` bytes at offset `w` of the weight windows: held as the window's accesses are (R153). -/
def State.umWindowRead (s : State) (h : UmHdr) (op w n : Nat) (hits : List EccHit) : State :=
  let k := min n (0x100000 - w % 0x100000)
  if s.windowOff w || s.windowOff (w + n - 1) then s.refuse h op stDomainBusy
  else s.access (w / 0x100000) (.umRead h op (w % 0x100000) k [] (n - k) hits)

/-- Umger's write at offset `w` of the weight windows (R150, R152, R391). -/
def State.umWindowWrite (s : State) (h : UmHdr) (op w : Nat) (data : List Byte) (hits : List EccHit) : State :=
  let k := 0x100000 - w % 0x100000
  if s.windowOff w || s.windowOff (w + data.length - 1) then s.refuse h op stDomainBusy
  else s.access (w / 0x100000) (.umWrite h op (w % 0x100000) (data.take k) (data.drop k) hits)

/-- An access at `off` reaches a register that holds RWG fields. -/
def touchesRwg (off : Nat) : Bool :=
  (match findReg off with
    | some (r, _) => r.rwg != 0
    | none => false) || (off % 8 == 4 && (match findReg (off - 4) with
    | some (r, _) => decide (8 ≤ r.bytes) && r.rwg != 0
    | none => false))

/-- The writes reset the ring carrier by UM_CTRL.RESET. -/
def resetsRing (size : Nat) : Nat → List Nat → Bool
  | _, [] => false
  | off, v :: vs => (off == Reg.UM_CTRL && v.testBit 0) || resetsRing size (off + size) vs

/-- REG_WRITE (R389, R390, R401): accesses of 4 or 8 bytes from the manager link at consecutive offsets. -/
def execRegWrite (h : UmHdr) (p : List Byte) (s : State) (hits : List EccHit := []) : Res :=
  s.umRun h 0x0202 p.length (fun s =>
    let off := leAt p 0 4
    let size := leAt p 4 1
    let data := p.drop 8
    let n := data.length / size
    if (size ≠ 4 ∧ size ≠ 8) ∨ data.length % size ≠ 0 ∨ off % size ≠ 0 ∨ inRegions off size n = false then
      s.refuse h 0x0202 stBadParam
    else if s.notOwner h.carrier = true ∧ (List.range n).any (fun i => touchesRwg (off + size * i)) = true then
      s.refuse h 0x0202 stGenBusy
    else if n = 0 then s.reply h 0x0202 stOK []
    else if 0x1000000 ≤ off then s.umWindowWrite h 0x0202 (off - 0x1000000) data hits
    else
      let vs := (List.range n).map (fun i => leAt data (size * i) size)
      let (t, ex, bad) := s.umPokes h.carrier hits size off vs
      if ex then s.refuse h 0x0202 stBadParam
      else if h.carrier = .ring ∧ resetsRing size off vs = true then t
      else if bad then t.refuse h 0x0202 stMemPoison
      else t.reply h 0x0202 stOK [])

/-- REG_READ (R387, R390, R401). -/
def execRegRead (h : UmHdr) (p : List Byte) (s : State) (hits : List EccHit := []) : Res :=
  s.umRun h 0x0203 p.length (fun s =>
    let off := leAt p 0 4
    let size := leAt p 4 1
    let n := leAt p 6 2
    if (size ≠ 4 ∧ size ≠ 8) ∨ 4096 < n * size ∨ off % size ≠ 0 ∨ inRegions off size n = false then s.refuse h 0x0203 stBadParam
    else if n = 0 then s.reply h 0x0203 stOK []
    else if 0x1000000 ≤ off then s.umWindowRead h 0x0203 (off - 0x1000000) (n * size) hits
    else
      let (s, bs, bad) := s.umPeeks h.carrier ((leAt p 5 1).testBit 0) hits size off n
      if bad then s.refuse h 0x0203 stMemPoison else s.reply h 0x0203 stOK bs)

/-! ## Generations -/

/-- GEN_STATUS (R401). -/
def execGenStatus (h : UmHdr) (p : List Byte) (s : State) : Res :=
  s.umRun h 0x0206 p.length (fun s =>
    let at_ : Nat := match s.um.armed with
      | some a => (tlOf a.at_).toNat
      | none => 0
    let k := Reg.UM_GEN_STAT
    s.reply h 0x0206 stOK (leBytes 1 s.genState ++ leBytes 1 (s.fld k F.UM_GEN_STAT_OWNER) ++ [0, 0] ++
      leBytes 4 (s.fld Reg.UM_GEN_SEQ F.UM_GEN_SEQ_SEQ) ++ leBytes 8 at_ ++ s.rdWide Reg.UM_GEN_DIGEST ++ s.rdWide Reg.UM_GEN_HDIGEST ++
      leBytes 2 (s.fld k F.UM_GEN_STAT_LAST_REFUSAL) ++ [0, 0] ++ leBytes 4 s.um.refusalDet))

/-- The bytes of the canonical encoding of the active or the staged image (R398). -/
def State.dumpBytes (s : State) (staged : Bool) : List Byte :=
  if staged then s.encoding s.staged (match s.um.armed with
    | some a => a.groups
    | none => s.dirtyGroups)
  else s.encoding s.gen []

/-- GEN_DUMP (R398, R401). -/
def execGenDump (h : UmHdr) (p : List Byte) (s : State) : Res :=
  s.umRun h 0x0207 p.length (fun s =>
    let which := leAt p 0 1
    let off := leAt p 4 4
    let n := leAt p 8 2
    if 1 < which ∨ n = 0 ∨ 4096 < n ∨ 16 * rwgRegs.length + 576 < off + n then s.refuse h 0x0207 stBadParam
    else if which = 1 ∧ s.genState = 0 then s.refuse h 0x0207 stGenNotOpen
    else s.reply h 0x0207 stOK (((s.dumpBytes (which == 1)).drop off).take n))

/-! ## Timeline -/

/-- TL_SET (R59, R67). -/
def execTlSet (h : UmHdr) (p : List Byte) (s : State) : Res :=
  s.umRun h 0x0300 p.length (fun s =>
    let v := BitVec.ofNat 64 (leAt p 0 8)
    let mode := leAt p 8 1
    if 1 < mode ∨ tlValid v = false ∨ tlCount v % secTc ≠ s.fld Reg.TL_PPS_OFFSET F.TL_PPS_OFFSET_OFFSET then
      s.refuse h 0x0300 stBadParam
    else if mode = 0 ∧ s.tlState = 2 then s.refuse h 0x0300 stTlStateRefused
    else (s.accept h 0x0300 []).updTk (fun t => { t with setReqs := t.setReqs ++ [⟨s.ticks, tlCount v, h⟩] }))

/-- TL_GET (R401). -/
def execTlGet (h : UmHdr) (p : List Byte) (s : State) : Res :=
  s.umRun h 0x0301 p.length (fun s =>
    s.reply h 0x0301 stOK (leBytes 8 (s.busWord Reg.TL_NOW) ++ leBytes 4 (s.busWord Reg.TL_STATE) ++ leBytes 4 (s.busWord Reg.TL_PPS_ERR) ++
      leBytes 8 (s.busWord Reg.TL_UNCERT) ++ leBytes 8 (s.busWord Reg.TL_LAST_PPS)))

/-- TL_ALARM_SET (R82, R401). -/
def execTlAlarmSet (h : UmHdr) (p : List Byte) (s : State) : Res :=
  s.umRun h 0x0302 p.length (fun s =>
    let a := leAt p 0 1
    let v := leAt p 8 8
    if 3 < a ∨ tlValid (BitVec.ofNat 64 v) = false then s.refuse h 0x0302 stBadParam
    else
      let who := Master.um h.carrier
      let s := s.busWrite who (Reg.TL_ALARM_AT a) true (ones 64) v
      let s := s.busWrite who (Reg.TL_ALARM_PERIOD a) false (ones 32) (leAt p 4 4)
      (s.busWrite who (Reg.TL_ALARM_CTRL a) false (ones 32) (leAt p 1 1 % 4)).reply h 0x0302 stOK [])

end Sys2Proof.Machine
end

