-- ==== Sys2Proof/Machine/UmBlocks.lean ====
section
/-! DEFINITION. Umger's commands of the A-link, Churn and weights, slices, DMA policy, and the work report and event registers
(13 R400, R401). -/

namespace Sys2Proof.Machine

/-! ## A-link -/

/-- AL_RETRAIN (R262, R401). -/
def execAlRetrain (h : UmHdr) (p : List Byte) (s : State) : Res :=
  s.umRun h 0x0400 p.length (fun s =>
    if k : leAt p 0 1 < 96 then (s.alLoss ⟨leAt p 0 1, k⟩ 5).reply h 0x0400 stOK []
    else s.refuse h 0x0400 stBadParam)

/-- The nine counters from AL_CORR to AL_PROTO of port `n`. -/
def alCounters (n : Nat) : List Nat := (List.range 9).map (fun i => Reg.AL_CORR n + 4 * i)

/-- AL_STATUS (R401): nothing clears. -/
def execAlStatus (h : UmHdr) (p : List Byte) (s : State) : Res :=
  s.umRun h 0x0401 p.length (fun s =>
    let n := leAt p 0 1
    if 96 ≤ n then s.refuse h 0x0401 stBadParam
    else s.reply h 0x0401 stOK (([Reg.AL_STAT n, Reg.AL_EVENT n, Reg.AL_RTD n, Reg.AL_OWD n] ++ alCounters n).flatMap
      (fun k => leBytes 4 (s.busWord k))))

/-- AL_SPARE (R259, R401): the swap starts at once where the spare is free and reaches the port. -/
def execAlSpare (h : UmHdr) (p : List Byte) (s : State) : Res :=
  s.umRun h 0x0402 p.length (fun s =>
    let n := leAt p 0 1
    let l := leAt p 1 1
    let ph := leAt p 2 1
    if 96 ≤ n ∨ 1 < l ∨ (s.freeSpares n).contains ph = false ∨ (s.port n).swap.isSome = true then s.refuse h 0x0402 stBadParam
    else (s.startSwap n l ph).reply h 0x0402 stOK [])

/-- AL_CAL (R256, R401): DLY_REQ in the next control cell of an Up port. -/
def execAlCal (h : UmHdr) (p : List Byte) (s : State) : Res :=
  s.umRun h 0x0403 p.length (fun s =>
    if k : leAt p 0 1 < 96 then
      (if s.isUp (.al ⟨leAt p 0 1, k⟩) then s.addCtl (leAt p 0 1) .dlyReq else s).reply h 0x0403 stOK []
    else s.refuse h 0x0403 stBadParam)

/-- AL_LEDGER (R266, R401). -/
def execAlLedger (h : UmHdr) (p : List Byte) (s : State) : Res :=
  s.umRun h 0x0404 p.length (fun s =>
    let n := leAt p 0 1
    if 96 ≤ n ∨ 3 < leAt p 1 1 then s.refuse h 0x0404 stBadParam
    else
      let w := (s.ledger n (leAt p 1 1) (leAt p 2 2)).toNat
      s.reply h 0x0404 stOK (leBytes 4 (w / 2 ^ 32) ++ leBytes 4 (w % 2 ^ 32)))

/-! ## Churn and weights -/

/-- WB_WRITE (R143, R150, R391, R401). -/
def execWbWrite (h : UmHdr) (p : List Byte) (s : State) (hits : List EccHit := []) : Res :=
  s.umRun h 0x0500 p.length (fun s =>
    let g := leAt p 0 1
    let off := leAt p 4 4
    let data := p.drop 8
    if 12 ≤ g ∨ off % 8 ≠ 0 ∨ data.length % 8 ≠ 0 ∨ 0x100000 < off + data.length then s.refuse h 0x0500 stBadParam
    else if data.isEmpty then s.reply h 0x0500 stOK []
    else s.umWindowWrite h 0x0500 (0x100000 * g + off) data hits)

/-- WB_READ (R143, R387, R401). -/
def execWbRead (h : UmHdr) (p : List Byte) (s : State) (hits : List EccHit := []) : Res :=
  s.umRun h 0x0501 p.length (fun s =>
    let g := leAt p 0 1
    let off := leAt p 4 4
    let n := leAt p 8 2
    if 12 ≤ g ∨ n = 0 ∨ 4096 < n ∨ 0x100000 < off + n then s.refuse h 0x0501 stBadParam
    else s.umWindowRead h 0x0501 (0x100000 * g + off) n hits)

/-- WB_SYNC (R154, R401). -/
def execWbSync (h : UmHdr) (p : List Byte) (s : State) : Res :=
  s.umRun h 0x0502 p.length (fun s =>
    let g := leAt p 0 1
    if 12 ≤ g then s.refuse h 0x0502 stBadParam else (s.wbSync g).reply h 0x0502 stOK [])

/-- WB_RESTORE (R160, R401). -/
def execWbRestore (h : UmHdr) (p : List Byte) (s : State) : Res :=
  s.umRun h 0x0503 p.length (fun s =>
    let g := leAt p 0 1
    if 12 ≤ g then s.refuse h 0x0503 stBadParam
    else (((s.accept h 0x0503 []).mirrorGen 5 g).access g (.restore (some h))))

/-- SPARE_GO (R163, R401): TARGET and the instant, and GO. A refused takeover changes nothing but its RESULT. -/
def execSpareGo (h : UmHdr) (p : List Byte) (s : State) : Res :=
  s.umRun h 0x0504 p.length (fun s =>
    let q := leAt p 0 1
    if 4 ≤ q ∨ 3 < leAt p 1 1 then s.refuse h 0x0504 stBadParam
    else
      let t := (s.setFld (Reg.CH_SPARE_CTRL q) F.CH_SPARE_CTRL_TARGET (leAt p 1 1)).wrW (Reg.CH_SPARE_AT q) (BitVec.ofNat 64 (leAt p 8 8))
      let (t, code) := t.spareGo q
      if code = 0 then t.reply h 0x0504 stOK [0]
      else (s.spareResult q code).reply h 0x0504 stSpareRefused (leBytes 1 code))

/-- SPARE_REINSTATE (R167, R401): without a retired unit there is no test. -/
def execSpareReinstate (h : UmHdr) (p : List Byte) (s : State) : Res :=
  s.umRun h 0x0505 p.length (fun s =>
    let q := leAt p 0 1
    if 4 ≤ q then s.refuse h 0x0505 stBadParam
    else
      let (t, begun) := (s.accept h 0x0505 []).reinstate q (some h)
      if begun then t
      else s.reply h 0x0505 stSpareRefused (leBytes 1 (s.fld (Reg.CH_SPARE_LOG q) F.CH_SPARE_LOG_RESULT)))

/-- The five counters of entry `m` of unit `u`. -/
def chCounters (u m : Nat) : List Nat := [Reg.CH_CALSAT u m, Reg.CH_REQSAT u m, Reg.CH_NAN u m, Reg.CH_FMTERR u m, Reg.CH_ABSENT u m]

/-- Counters of a list cleared. -/
def State.clearRegs : State → List Nat → State
  | s, [] => s
  | s, k :: ks => (s.wrW k 0).clearRegs ks

/-- CH_COUNTERS (R401). -/
def execChCounters (h : UmHdr) (p : List Byte) (s : State) : Res :=
  s.umRun h 0x0506 p.length (fun s =>
    let u := leAt p 0 1
    let first := leAt p 1 1
    let n := leAt p 2 1
    if 16 ≤ u ∨ n = 0 ∨ 204 < n ∨ 256 < first + n then s.refuse h 0x0506 stBadParam
    else
      let ks := (List.range n).flatMap (fun i => chCounters u (first + i))
      let bs := ks.flatMap (fun k => leBytes 4 (s.busWord k))
      (if (leAt p 3 1).testBit 0 then s.clearRegs (ks.filter s.regServed) else s).reply h 0x0506 stOK bs)

/-! ## Slices -/

/-- A slice command other than SLICE_BIND (R388): the slice is bound. -/
def State.slRun (s : State) (h : UmHdr) (op len : Nat) (body : State → State) : Res :=
  s.umRun h op len (fun s => if s.bound h.slice then body s else s.refuse h op stSliceUnbound)

/-- Another slice is bound to link `m` and PASID `pasid` in the staged generation (R350). -/
def State.bindTaken (s : State) (sl m pasid : Nat) : Bool :=
  (listed s.staged (Reg.SL_BIND 0) 0x40 1024).any (fun t =>
    let k := Reg.SL_BIND t
    t != sl && s.sfld k F.SL_BIND_EN == 1 && s.sfld k F.SL_BIND_LINK == m && s.sfld k F.SL_BIND_PASID == pasid)

/-- SLICE_BIND (R350, R401). -/
def execSliceBind (h : UmHdr) (p : List Byte) (s : State) : Res :=
  s.umRun h 0x0600 p.length (fun s =>
    let m := leAt p 0 1
    let pasid := leAt p 4 4
    if 32 ≤ m ∨ 2 ^ 20 ≤ pasid then s.refuse h 0x0600 stBadParam
    else
      match s.genNeeds h.carrier 1 with
      | some st => s.refuse h 0x0600 st
      | none =>
        if s.bindTaken h.slice m pasid then s.refuse h 0x0600 stBindConflict
        else (s.stageWords [(Reg.SL_BIND h.slice, 2 ^ 31 + m * 2 ^ 24 + pasid)]).reply h 0x0600 stOK [])

/-- SLICE_UNBIND (R401). -/
def execSliceUnbind (h : UmHdr) (p : List Byte) (s : State) : Res :=
  s.slRun h 0x0601 p.length (fun s =>
    match s.genNeeds h.carrier 1 with
    | some st => s.refuse h 0x0601 st
    | none =>
      let k := Reg.SL_BIND h.slice
      (s.stageWords [(k, (s.rdS k).toNat % 2 ^ 31)]).reply h 0x0601 stOK [])

/-- The slice's TDI is locked: CONFIG_LOCKED or RUN (R528). -/
def State.tdiLocked (s : State) (sl : Nat) : Bool := s.tdi sl == 1 || s.tdi sl == 2

/-- SLICE_FENCE (R371, R401, R528). -/
def execSliceFence (h : UmHdr) (p : List Byte) (s : State) : Res :=
  s.slRun h 0x0602 p.length (fun s =>
    let v := leAt p 0 1
    if 1 < v then s.refuse h 0x0602 stBadParam
    else if s.tdiLocked h.slice then s.refuse h 0x0602 stSecDenied
    else
      let s := s.slFence h.slice (v == 1)
      s.reply h 0x0602 stOK (leBytes 4 (s.slStat h.slice)))

/-- SLICE_KILL (R372, R401, R528). -/
def execSliceKill (h : UmHdr) (p : List Byte) (s : State) : Res :=
  s.slRun h 0x0603 p.length (fun s =>
    if s.tdiLocked h.slice then s.refuse h 0x0603 stSecDenied
    else (s.slKill h.slice).reply h 0x0603 stOK [])

/-- MBOX_GET (R365, R401). -/
def execMboxGet (h : UmHdr) (p : List Byte) (s : State) : Res :=
  s.slRun h 0x0604 p.length (fun s =>
    if s.mb h.slice F.SL_MBOX_STAT_IN_FULL = 0 then s.refuse h 0x0604 stMboxEmpty
    else
      let (s, bs) := s.takeMail h.slice
      s.reply h 0x0604 stOK bs)

/-- MBOX_PUT (R366, R401). -/
def execMboxPut (h : UmHdr) (p : List Byte) (s : State) : Res :=
  s.slRun h 0x0605 p.length (fun s =>
    if s.mb h.slice F.SL_MBOX_STAT_OUT_FULL ≠ 0 then s.refuse h 0x0605 stMboxFull
    else (s.putMail h.slice p).reply h 0x0605 stOK [])

/-- SLICE_STATUS (R401). -/
def execSliceStatus (h : UmHdr) (p : List Byte) (s : State) : Res :=
  s.slRun h 0x0606 p.length (fun s =>
    let sl := h.slice
    s.reply h 0x0606 stOK ([Reg.SL_BIND sl, Reg.SL_VECMAP sl, Reg.SL_STAT sl, Reg.SL_MBOX_STAT sl, Reg.SL_IRQDROP sl].flatMap
      (fun k => leBytes 4 (s.busWord k))))

/-! ## DMA policy -/

/-- Values of 4 bytes staged in consecutive registers of an array of `limit` (R401). -/
def State.stageArray (s : State) (h : UmHdr) (op first n limit : Nat) (data : List Byte) (reg : Nat → Nat) : State :=
  if limit < first + n ∨ data.length ≠ 4 * n then s.refuse h op stBadParam
  else
    match s.genNeeds h.carrier 1 with
    | some st => s.refuse h op st
    | none => (s.stageWords ((List.range n).map (fun i => (reg (first + i), leAt data (4 * i) 4)))).reply h op stOK []

/-- DMA_WHEEL_SET (R210, R401). -/
def execDmaWheelSet (h : UmHdr) (p : List Byte) (s : State) : Res :=
  s.umRun h 0x0700 p.length (fun s =>
    let m := leAt p 0 1
    if 32 ≤ m then s.refuse h 0x0700 stBadParam
    else s.stageArray h 0x0700 (leAt p 2 2) (leAt p 4 2) 1024 (p.drop 8) (Reg.DMA_WHEEL_E m))

/-- DMA_OWN_SET (R194, R401). -/
def execDmaOwnSet (h : UmHdr) (p : List Byte) (s : State) : Res :=
  s.umRun h 0x0701 p.length (fun s => s.stageArray h 0x0701 (leAt p 0 2) (leAt p 2 2) 4096 (p.drop 4) Reg.DMA_OWN)

/-- DMA_STGQ_SET (R214, R401). -/
def execDmaStgqSet (h : UmHdr) (p : List Byte) (s : State) : Res :=
  s.umRun h 0x0702 p.length (fun s => s.stageArray h 0x0702 (leAt p 0 2) (leAt p 2 2) 1024 (p.drop 4) Reg.DMA_STGQ)

/-- DMA_CHAN_READ (R196, R401): the channel's block of 128 bytes. -/
def execDmaChanRead (h : UmHdr) (p : List Byte) (s : State) : Res :=
  s.umRun h 0x0703 p.length (fun s =>
    let c := leAt p 0 2
    if 4096 ≤ c then s.refuse h 0x0703 stBadParam
    else s.reply h 0x0703 stOK ((List.range 16).flatMap (fun i =>
      leBytes 8 ((s.read64 (.um h.carrier) (Reg.DMA_SRC c + 8 * i)).2))))

/-- DMA_CHAN_CTRL (R215, R216, R401). -/
def execDmaChanCtrl (h : UmHdr) (p : List Byte) (s : State) : Res :=
  s.umRun h 0x0704 p.length (fun s =>
    let c := leAt p 0 2
    let b := leAt p 2 1
    if 4096 ≤ c then s.refuse h 0x0704 stBadParam
    else
      let s := s.dmaCtrl c (b % 2 * 2 ^ 30 + b / 2 % 2 * 2 ^ 29 + b / 4 % 2 * 2 ^ 28)
      s.reply h 0x0704 stOK (leBytes 4 (s.busWord (Reg.DMA_STAT c))))

/-! ## Work report and events -/

/-- A channel's entry in a stored report; a channel that it does not list was in its after-reset state. -/
def WorkReport.entry (r : WorkReport) (c : Nat) : List Byte :=
  match r.entries.find? (fun e => e.chan == c) with
  | some e => e.bytes
  | none => leBytes 2 c ++ List.replicate 28 0 ++ [0xFF, 0xFF]

/-- WORK_REPORT (R400, R401). -/
def execWorkReport (h : UmHdr) (p : List Byte) (s : State) : Res :=
  s.umRun h 0x0B02 p.length (fun s =>
    let src := leAt p 0 1
    let first := leAt p 2 2
    let n := leAt p 4 2
    let head (tl reason n : Nat) : List Byte := leBytes 8 tl ++ leBytes 1 reason ++ [0] ++ leBytes 2 n ++ [0, 0, 0, 0]
    if 1 < src ∨ n = 0 ∨ 127 < n ∨ 4096 < first + n then s.refuse h 0x0B02 stBadParam
    else if src = 0 then
      s.reply h 0x0B02 stOK (head (if s.tlKnown then (tlOf s.now).toNat else 0) 0 n ++
        (List.range n).flatMap (fun i => (s.reportEntry [] (first + i)).bytes))
    else
      match s.um.report with
      | some r => s.reply h 0x0B02 stOK (head r.tl.toNat r.reason n ++ (List.range n).flatMap (fun i => r.entry (first + i)))
      | none => s.reply h 0x0B02 stOK (head 0 0xFF 0))

/-- EV_READ (R401). -/
def execEvRead (h : UmHdr) (p : List Byte) (s : State) : Res :=
  s.umRun h 0x0B03 p.length (fun s =>
    s.reply h 0x0B03 stOK ((List.range 20).flatMap (fun w => leBytes 4 (s.busWord (Reg.EV_RAISED w))) ++ leBytes 4 (s.busWord Reg.EV_ALERT)))

/-- W1C writes of EV_RAISED from register `w` on. -/
def State.clearEvents : State → Master → Nat → List Nat → State
  | s, _, _, [] => s
  | s, who, w, v :: vs => (s.busWrite who (Reg.EV_RAISED w) false (ones 32) v).clearEvents who (w + 1) vs

/-- EV_CLEAR (R340, R401). -/
def execEvClear (h : UmHdr) (p : List Byte) (s : State) : Res :=
  s.umRun h 0x0B04 p.length (fun s =>
    (s.clearEvents (.um h.carrier) 0 ((List.range 20).map (fun w => leAt p (4 * w) 4))).reply h 0x0B04 stOK [])

end Sys2Proof.Machine
end

