-- ==== Sys2Proof/Machine/Umger.lean ====
section
/-! DEFINITION. Umger's carriers: the packets of the submission ring and of the sideband, their checks, their execution, the
replies, and the MCTP control commands (13 R377 to R387). -/

namespace Sys2Proof.Machine

/-! ## UM_RESET (R382, R401) -/

/-- UM_RESET (R382, R401): its own carrier loses the commands behind it; the other is reset. -/
def execUmReset (h : UmHdr) (p : List Byte) (s : State) : Res :=
  s.umRun h 0x0C01 p.length (fun s =>
    match leAt p 0 1, h.carrier with
    | 0, .ring => (s.setFld Reg.UM_SQ_HEAD F.UM_SQ_HEAD_PTR (s.fld Reg.UM_SQ_TAIL F.UM_SQ_TAIL_PTR)).reply h 0x0C01 stOK []
    | 0, .sideband => (s.resetCarrier .ring).reply h 0x0C01 stOK []
    | 1, .ring => (s.resetCarrier .sideband).reply h 0x0C01 stOK []
    | 1, .sideband => (s.updUm (fun u => { u with side := [] })).reply h 0x0C01 stOK []
    | _, _ => s.refuse h 0x0C01 stBadParam)

/-! ## Opcodes (R385, R401) -/

/-- The commands of category 0x01 (R401). -/
def State.umIdent (s : State) (h : UmHdr) (op : Nat) (p : List Byte) : Res :=
  match op with
  | 0x0100 => execIdentify h p s
  | 0x0101 => execPing h p s
  | 0x0102 => execRtRead h p s
  | 0x0103 => execMgrLinkSet h p s
  | _ => .next (s.refuseEcho h op stBadOpcode)

/-- The commands of category 0x02 (R401). -/
def State.umGen (s : State) (h : UmHdr) (op : Nat) (p : List Byte) (hits : List EccHit) : Res :=
  match op with
  | 0x0200 => execGenOpen h p s
  | 0x0201 => execGenAbort h p s
  | 0x0202 => execRegWrite h p s hits
  | 0x0203 => execRegRead h p s hits
  | 0x0204 => execCommitAt h p s
  | 0x0205 => execGenCancel h p s
  | 0x0206 => execGenStatus h p s
  | 0x0207 => execGenDump h p s
  | _ => .next (s.refuseEcho h op stBadOpcode)

/-- The commands of category 0x03 (R401). -/
def State.umTl (s : State) (h : UmHdr) (op : Nat) (p : List Byte) : Res :=
  match op with
  | 0x0300 => execTlSet h p s
  | 0x0301 => execTlGet h p s
  | 0x0302 => execTlAlarmSet h p s
  | _ => .next (s.refuseEcho h op stBadOpcode)

/-- The commands of category 0x04 (R401). -/
def State.umAl (s : State) (h : UmHdr) (op : Nat) (p : List Byte) : Res :=
  match op with
  | 0x0400 => execAlRetrain h p s
  | 0x0401 => execAlStatus h p s
  | 0x0402 => execAlSpare h p s
  | 0x0403 => execAlCal h p s
  | 0x0404 => execAlLedger h p s
  | _ => .next (s.refuseEcho h op stBadOpcode)

/-- The commands of category 0x05 (R401). -/
def State.umWb (s : State) (h : UmHdr) (op : Nat) (p : List Byte) (hits : List EccHit) : Res :=
  match op with
  | 0x0500 => execWbWrite h p s hits
  | 0x0501 => execWbRead h p s hits
  | 0x0502 => execWbSync h p s
  | 0x0503 => execWbRestore h p s
  | 0x0504 => execSpareGo h p s
  | 0x0505 => execSpareReinstate h p s
  | 0x0506 => execChCounters h p s
  | _ => .next (s.refuseEcho h op stBadOpcode)

/-- The commands of category 0x06 (R401). -/
def State.umSl (s : State) (h : UmHdr) (op : Nat) (p : List Byte) : Res :=
  match op with
  | 0x0600 => execSliceBind h p s
  | 0x0601 => execSliceUnbind h p s
  | 0x0602 => execSliceFence h p s
  | 0x0603 => execSliceKill h p s
  | 0x0604 => execMboxGet h p s
  | 0x0605 => execMboxPut h p s
  | 0x0606 => execSliceStatus h p s
  | _ => .next (s.refuseEcho h op stBadOpcode)

/-- The commands of category 0x07 (R401). -/
def State.umDma (s : State) (h : UmHdr) (op : Nat) (p : List Byte) : Res :=
  match op with
  | 0x0700 => execDmaWheelSet h p s
  | 0x0701 => execDmaOwnSet h p s
  | 0x0702 => execDmaStgqSet h p s
  | 0x0703 => execDmaChanRead h p s
  | 0x0704 => execDmaChanCtrl h p s
  | _ => .next (s.refuseEcho h op stBadOpcode)

/-- The commands of category 0x08 (R401). -/
def State.umPw (s : State) (h : UmHdr) (op : Nat) (p : List Byte) : Res :=
  match op with
  | 0x0800 => execModeSet h p s
  | 0x0801 => execModeGet h p s
  | 0x0802 => execPwVote h p s
  | 0x0803 => execPwStatus h p s
  | 0x0804 => execDozeCfg h p s
  | _ => .next (s.refuseEcho h op stBadOpcode)

/-- The commands of category 0x09 (R401). -/
def State.umTw (s : State) (h : UmHdr) (op : Nat) (p : List Byte) : Res :=
  match op with
  | 0x0900 => execTwRoleSet h p s
  | 0x0901 => execTwSwitchover h p s
  | 0x0902 => execTwStatus h p s
  | 0x0903 => execHerdAddrSet h p s
  | 0x0904 => execHerdStatus h p s
  | 0x0905 => execClCal h p s
  | _ => .next (s.refuseEcho h op stBadOpcode)

/-- The commands of category 0x0A (R401). -/
def State.umSec (s : State) (h : UmHdr) (op : Nat) (p : List Byte) (fuseV : Bool) : Res :=
  match op with
  | 0x0A00 => execSecStatus h p s
  | 0x0A01 => execFwLoad h p s
  | 0x0A02 => execFwActivate h p s
  | 0x0A03 => execLcAdvance h p fuseV s
  | 0x0A04 => execDebugUnlock h p s
  | 0x0A05 => execSecZeroize h p s
  | 0x0A06 => execTamperCfg h p s
  | _ => .next (s.refuseEcho h op stBadOpcode)

/-- The commands of category 0x0B (R401). -/
def State.umLog (s : State) (h : UmHdr) (op : Nat) (p : List Byte) (hits : List EccHit) : Res :=
  match op with
  | 0x0B00 => execLogRead h p s hits
  | 0x0B01 => execLogMark h p s
  | 0x0B02 => execWorkReport h p s
  | 0x0B03 => execEvRead h p s
  | 0x0B04 => execEvClear h p s
  | 0x0B05 => execRsCauseGet h p s
  | _ => .next (s.refuseEcho h op stBadOpcode)

/-- The commands of category 0x0C (R401). -/
def State.umRs (s : State) (h : UmHdr) (op : Nat) (p : List Byte) : Res :=
  match op with
  | 0x0C00 => execResetDomain h p s
  | 0x0C01 => execUmReset h p s
  | _ => .next (s.refuseEcho h op stBadOpcode)

/-- A command that passes the checks of its header and CRC runs by its opcode (R385, R401). -/
def State.umDispatch (s : State) (h : UmHdr) (op : Nat) (p : List Byte) (fuseV : Bool) (hits : List EccHit) : Res :=
  match op / 256 with
  | 0x01 => s.umIdent h op p
  | 0x02 => s.umGen h op p hits
  | 0x03 => s.umTl h op p
  | 0x04 => s.umAl h op p
  | 0x05 => s.umWb h op p hits
  | 0x06 => s.umSl h op p
  | 0x07 => s.umDma h op p
  | 0x08 => s.umPw h op p
  | 0x09 => s.umTw h op p
  | 0x0A => s.umSec h op p fuseV
  | 0x0B => s.umLog h op p hits
  | 0x0C => s.umRs h op p
  | _ => .next (s.refuseEcho h op stBadOpcode)

/-! ## Packets (R379, R384, R385) -/

/-- A header fails the first check of R385. -/
def headerBad (raw : List Byte) : Bool :=
  leAt raw 20 1 != 1 || leAt raw 21 1 != 0 || leAt raw 28 4 != 0 || decide (4 ≤ leAt raw 2 2) || decide (4096 < leAt raw 10 2)

/-- A packet's CRC does not match, or it lacks parameter bytes. -/
def crcBad (raw params : List Byte) : Bool :=
  params.length != leAt raw 10 2 || leAt raw 16 4 != crc32c (raw.take 16 ++ [0, 0, 0, 0] ++ (raw.drop 20).take 12 ++ params)

/-- The header of a command on a carrier. -/
def packetHdr (c : Carrier) (eid tag : Nat) (raw : List Byte) : UmHdr :=
  { carrier := c, seq := leAt raw 4 4, flags := leAt raw 2 2, gen := leAt raw 12 4, slice := leAt raw 8 2, eid := eid, tag := tag }

/-- A packet that fails one of the first two checks of R385. -/
def State.badPacket (s : State) (h : UmHdr) (op st : Nat) : State := ((s.evUm 1).cnt Reg.UM_BADPKT).refuseEcho h op st

/-- A whole packet is checked in the order of R385, and executed. -/
def State.umExec (s : State) (h : UmHdr) (raw params : List Byte) (fuseV : Bool) (hits : List EccHit) : Res :=
  let op := leAt raw 0 2
  if headerBad raw then .next (s.badPacket h op stBadHeader)
  else if crcBad raw params then .next (s.badPacket h op stBadCrc)
  else s.umDispatch h op params fuseV hits

/-- Bytes in either ring (R379). -/
def ringSize : Nat := 28672

/-- `n` bytes of the submission ring from byte `pos` on; a poisoned word shows as zeros. -/
def State.sqBytes (s : State) (pos n : Nat) : List Byte :=
  (List.range n).map (fun i =>
    let j := (pos + i) % ringSize
    if s.um.sqBad.contains (j / 8) then 0 else SMap.get 0 s.um.sq j)

/-- A word among `n` bytes of the submission ring from byte `pos` on is poisoned. -/
def State.sqPoison (s : State) (pos n : Nat) : Bool :=
  (List.range ((n + 7) / 8)).any (fun i => s.um.sqBad.contains ((pos / 8 + i) % 3584))

/-- A packet's size in its ring (R379). -/
def packetSize (len : Nat) : Nat := 32 + (len + 7) / 8 * 8

/-- The size of the packet that can be taken from the submission ring (R378, R380, R381): one that cannot be sized takes
every byte written so far. -/
def State.ringPacket (s : State) : Option Nat :=
  let head := s.fld Reg.UM_SQ_HEAD F.UM_SQ_HEAD_PTR
  let have_ := (s.fld Reg.UM_SQ_TAIL F.UM_SQ_TAIL_PTR + ringSize - head) % ringSize
  let raw := s.sqBytes head 32
  if !s.ringOpen || !s.on 3 || s.um.due.any (fun r => r.hdr.carrier == .ring) || decide (have_ < 32) then none
  else if s.sqPoison head 32 || headerBad raw then some have_
  else if have_ < packetSize (leAt raw 10 2) then none
  else some (packetSize (leAt raw 10 2))

/-- The packet of `n` bytes at the head of the submission ring is taken (R380, R387). -/
def State.takeRing (s : State) (n : Nat) (fuseV : Bool) (hits : List EccHit) : Res :=
  let head := s.fld Reg.UM_SQ_HEAD F.UM_SQ_HEAD_PTR
  let s := s.ringErrors ((List.range ((n + 7) / 8)).map (fun i => (head / 8 + i) % 3584)) hits
  let raw := s.sqBytes head 32
  let h := packetHdr .ring 0 0 raw
  let params := s.sqBytes (head + 32) (min (leAt raw 10 2) 4096)
  let bad := s.sqPoison head (min n (packetSize (min (leAt raw 10 2) 4096)))
  let s := (s.setFld Reg.UM_SQ_HEAD F.UM_SQ_HEAD_PTR ((head + n) % ringSize)).updUm (fun u => { u with last := .ring })
  if bad then .next (s.refuse h (leAt raw 0 2) stMemPoison) else s.umExec h raw params fuseV hits

/-- The first reply of the command before has not been posted, though its carrier would take it (R386). -/
def State.replyDue (s : State) : Bool :=
  s.um.due.any (fun r => r.hdr.carrier == .sideband || (s.ringOpen && !s.flag Reg.UM_STAT F.UM_STAT_RING_FULL))

/-- Errors in the Creamery memory outside the submission ring: each is counted, and an uncorrectable one halts the Creamery
(R185). -/
def State.creameryErrors (s : State) (hits : List EccHit) : State :=
  let (s, bad) := s.storeErrors 2 (hits.filter (fun h => decide (3584 ≤ h.word)))
  if bad then s.updUm (fun u => { u with halted := true }) else s

/-- UM_PACKET_EXECUTE (R380, R385, R386): the next command is taken, from the carriers alternately where both hold one, unless
an error in its memory halts the Creamery before. `fuseV` tells whether VDD_FUSE is present. -/
def execUmPacketExecute (fuseV : Bool) (s : State) (hits : List EccHit := []) : Res :=
  if s.um.halted || s.umBusy || s.replyDue || !s.on 3 then .next s
  else if (s.creameryErrors hits).um.halted then .next (s.creameryErrors hits)
  else
    let s := s.creameryErrors hits
    match s.ringPacket, s.um.side with
    | none, [] => .next s
    | some n, [] => s.takeRing n fuseV hits
    | ring, c :: cs =>
      match ring, s.um.last with
      | some n, .sideband => s.takeRing n fuseV hits
      | _, _ =>
        let s := s.updUm (fun u => { u with side := cs, last := .sideband })
        let raw := bytesAt c.bytes 0 32
        s.umExec (packetHdr .sideband c.eid c.tag raw) raw ((c.bytes.drop 32).take (leAt raw 10 2)) fuseV hits

/-! ## Replies (R381, R383, R384, R386) -/

/-- A reply's packet as it is posted (R384). -/
def State.replyBytes (s : State) (r : Reply) : List Byte :=
  let flags := (if r.echo then r.hdr.flags else r.hdr.flags &&& 2) ||| (if r.final then 4 else 0)
  let gen := if r.echo then r.hdr.gen else s.fld Reg.UM_GEN_SEQ F.UM_GEN_SEQ_SEQ
  let n := r.result.length
  let a := leBytes 2 r.op ++ leBytes 2 flags ++ leBytes 4 r.hdr.seq ++ leBytes 2 r.hdr.slice ++ leBytes 2 n ++ leBytes 4 gen
  let b := [1, 0] ++ leBytes 2 r.status ++ leBytes 4 r.detail ++ [0, 0, 0, 0]
  a ++ leBytes 4 (crc32c (a ++ [0, 0, 0, 0] ++ b ++ r.result)) ++ b ++ r.result ++ List.replicate (packetSize n - 32 - n) 0

/-- Bytes written round the reply ring from byte `i` on. -/
def rqPut : SMap Byte → Nat → List Byte → SMap Byte
  | m, _, [] => m
  | m, i, b :: bs => rqPut (SMap.put 0 m (i % ringSize) b) (i + 1) bs

/-- A reply is written at UM_RQ_TAIL, or held while the ring is full (R381). -/
def State.postRing (s : State) (r : Reply) : State :=
  let bs := s.replyBytes r
  let head := s.fld Reg.UM_RQ_HEAD F.UM_RQ_HEAD_PTR
  let tail := s.fld Reg.UM_RQ_TAIL F.UM_RQ_TAIL_PTR
  if ringSize - 8 < (tail + ringSize - head) % ringSize + bs.length then
    (if s.flag Reg.UM_STAT F.UM_STAT_RING_FULL then s else (s.setFld Reg.UM_STAT F.UM_STAT_RING_FULL 1).evUm 13)
  else
    let s := s.updUm (fun u => { u with rq := rqPut u.rq tail bs, due := u.due.erase r })
    let s := s.setFld Reg.UM_RQ_TAIL F.UM_RQ_TAIL_PTR ((tail + bs.length) % ringSize)
    (s.setFld Reg.UM_STAT F.UM_STAT_RING_FULL 0).evUm 0

/-- A reply leaves as an MCTP message (R383): a final reply that follows ACCEPTED under a tag of the device's own. -/
def State.postSide (s : State) (r : Reply) : State :=
  let bs := [0x7E, 0x1F, 0x9A] ++ s.replyBytes r
  let s := s.updUm (fun u => { u with due := u.due.erase r })
  if r.later then
    let (w, s) := s.takeFree
    s.emit (.sideband r.hdr.eid (w.toNat % 8) true bs)
  else s.emit (.sideband r.hdr.eid r.hdr.tag false bs)

/-- RESET_DOMAIN's device reset counts from its reply's posting (R401). -/
def State.markReset (s : State) (r : Reply) : State :=
  if r.op = 0x0C00 ∧ r.status = stOK then
    s.updUm (fun u => { u with resetAt := u.resetAt.map (fun x => (s.ticks + 4096, x.2)) })
  else s

/-- UM_REPLY_POST (R378, R381, R383): the oldest reply due on a carrier is posted. -/
def execUmReplyPost (c : Carrier) (s : State) : Res :=
  match s.um.due.find? (fun r => r.hdr.carrier == c) with
  | some r =>
    if s.on 3 = false || s.um.halted then .next s
    else
      match c with
      | .ring =>
        if s.ringOpen then
          let t := s.postRing r
          .next (if t.um.due.length < s.um.due.length then t.markReset r else t)
        else .next s
      | .sideband => .next ((s.postSide r).markReset r)
  | none => .next s

/-! ## The sideband (R383, R462, R506) -/

/-- MCTP takes transactions: MGMT is on, in Bring-up or later, and no sleep or sleep entry is under way. -/
def State.sbOpen (s : State) : Bool := s.on 3 && decide (3 ≤ s.mode) && s.mode != 0xA && s.mode != 0xB && s.pw.sleep.isNone

/-- An MCTP message arrives: in sleep, and in an entry to it, its first packet wakes the device and is not received. -/
def State.sidebandIn (s : State) (f : State → State) : Res := .next (if s.sbOpen then f s else s.raiseWake 1 0)

/-- MCTP_MESSAGE (R383): a message of type 0x7E with the device's vendor ID; `bytes` is the packet that it carries. -/
def execMctpMessage (eid tag : Nat) (bytes : List Byte) (s : State) : Res :=
  s.sidebandIn (fun s =>
    let s := s.evUm 14
    let raw := bytesAt bytes 0 32
    if 4 ≤ s.um.side.length then s.refuse (packetHdr .sideband eid tag raw) (leAt raw 0 2) stQueueFull
    else s.updUm (fun u => { u with side := u.side ++ [⟨eid, tag, bytes⟩] }))

/-! MCTP control commands (R383): their formats and completion codes are DSP0236's (PRESUMED, log 71). -/

/-- The answer to an MCTP control command: `inst` is the instance byte of the request. -/
def State.ctlAnswer (s : State) (eid tag inst cmd cc : Nat) (body : List Byte) : State :=
  s.emit (.sideband eid tag false ([0, BitVec.ofNat 8 (inst % 32), BitVec.ofNat 8 cmd, BitVec.ofNat 8 cc] ++ body))

/-- SET_ENDPOINT_ID: operation 0 or 1 sets the endpoint ID. -/
def execSetEndpointId (eid tag inst : Nat) (p : List Byte) (s : State) : Res :=
  s.sidebandIn (fun s =>
    if p.length ≠ 2 then s.ctlAnswer eid tag inst 1 3 []
    else if 1 < leAt p 0 1 % 4 ∨ leAt p 1 1 < 8 ∨ leAt p 1 1 = 255 then s.ctlAnswer eid tag inst 1 2 []
    else (s.updUm (fun u => { u with eid := leAt p 1 1 })).ctlAnswer eid tag inst 1 0 ([0] ++ leBytes 1 (leAt p 1 1) ++ [0]))

/-- GET_ENDPOINT_ID: a simple endpoint with a dynamic ID. -/
def execGetEndpointId (eid tag inst : Nat) (p : List Byte) (s : State) : Res :=
  s.sidebandIn (fun s =>
    if p.length ≠ 0 then s.ctlAnswer eid tag inst 2 3 []
    else s.ctlAnswer eid tag inst 2 0 (leBytes 1 s.um.eid ++ [0, 0]))

/-- The message types that the device serves: control, PLDM, SPDM, secured messages and vendor defined, PCI (R383, R505,
R526). -/
def mctpTypes : List Nat := [0, 1, 5, 6, 0x7E]

/-- GET_MCTP_VERSION_SUPPORT. -/
def execGetMctpVersionSupport (eid tag inst : Nat) (p : List Byte) (s : State) : Res :=
  s.sidebandIn (fun s =>
    let t := leAt p 0 1
    if p.length ≠ 1 then s.ctlAnswer eid tag inst 4 3 []
    else if (0xFF :: mctpTypes).contains t then
      s.ctlAnswer eid tag inst 4 0 (leBytes 1 ((Config.mctpVersions t).length / 4) ++ Config.mctpVersions t)
    else s.ctlAnswer eid tag inst 4 0x80 [])

/-- GET_MESSAGE_TYPE_SUPPORT: the types beside control. -/
def execGetMessageTypeSupport (eid tag inst : Nat) (p : List Byte) (s : State) : Res :=
  s.sidebandIn (fun s =>
    if p.length ≠ 0 then s.ctlAnswer eid tag inst 5 3 []
    else s.ctlAnswer eid tag inst 5 0 ([4, 1, 5, 6, 0x7E]))

/-- GET_VENDOR_DEFINED_MESSAGE_SUPPORT: one set, PCI vendor ID 0x1F9A. -/
def execGetVendorDefinedMessageSupport (eid tag inst : Nat) (p : List Byte) (s : State) : Res :=
  s.sidebandIn (fun s =>
    if p.length ≠ 1 then s.ctlAnswer eid tag inst 6 3 []
    else if leAt p 0 1 ≠ 0 then s.ctlAnswer eid tag inst 6 2 []
    else s.ctlAnswer eid tag inst 6 0 ([0xFF, 0, 0x1F, 0x9A] ++ beBytes 2 Config.vendorSet.toNat))

end Sys2Proof.Machine
end

