-- ==== Sys2Proof/Machine/Dispatch.lean ====
section
/-! DEFINITION. The meaning of each command, one arm for each constructor of `Instr`. -/

namespace Sys2Proof.Machine

/-- A command's effect on everything but the queue. -/
def exec (i : Instr) (s : State) : Host.Outcome State Fault Refusal :=
  match i with
  | .aonPowerOn => Sys2Proof.Machine.execAonPowerOn s
  | .brownout rail mv => Sys2Proof.Machine.execBrownout rail mv s
  | .resetNAccepted => Sys2Proof.Machine.execResetNAccepted s
  | .resetNRelease => Sys2Proof.Machine.execResetNRelease s
  | .creameryWatchdogExpiry => Sys2Proof.Machine.execCreameryWatchdogExpiry s
  | .criticalStateError detail => Sys2Proof.Machine.execCriticalStateError detail s
  | .resetSwitchesOpen => Sys2Proof.Machine.execResetSwitchesOpen s
  | .heldExit => Sys2Proof.Machine.execHeldExit s
  | .strapComplete c0 c1 c2 c3 => Sys2Proof.Machine.execStrapComplete c0 c1 c2 c3 s
  | .bringupRowRelease copy0 copy1 => Sys2Proof.Machine.execBringupRowRelease copy0 copy1 s
  | .bootSourceFail status => Sys2Proof.Machine.execBootSourceFail status s
  | .firmwareVerified image => Sys2Proof.Machine.execFirmwareVerified image s
  | .readyEntry fuseV => Sys2Proof.Machine.execReadyEntry fuseV s
  | .refDeclaredAbsent => Sys2Proof.Machine.execRefDeclaredAbsent s
  | .refDeclaredPresent => Sys2Proof.Machine.execRefDeclaredPresent s
  | .pllLockAcquired => Sys2Proof.Machine.execPllLockAcquired s
  | .pllLockLost => Sys2Proof.Machine.execPllLockLost s
  | .ppsEdge frac => Sys2Proof.Machine.execPpsEdge frac s
  | .ppsMiss => Sys2Proof.Machine.execPpsMiss s
  | .tlStateChange => Sys2Proof.Machine.execTlStateChange s
  | .tlSetTimeout => Sys2Proof.Machine.execTlSetTimeout s
  | .tlCtrlInvalidate => Sys2Proof.Machine.execTlCtrlInvalidate s
  | .tlCtrlClrStr => Sys2Proof.Machine.execTlCtrlClrStr s
  | .alarmFire a => Sys2Proof.Machine.execAlarmFire a s
  | .alarmWakeStart a => Sys2Proof.Machine.execAlarmWakeStart a s
  | .aonRatioMeasure ratio => Sys2Proof.Machine.execAonRatioMeasure ratio s
  | .stretchEpisodeStart quads => Sys2Proof.Machine.execStretchEpisodeStart quads s
  | .stretchEpisodeEnd => Sys2Proof.Machine.execStretchEpisodeEnd s
  | .portCalibration g meas => Sys2Proof.Machine.execPortCalibration g meas s
  | .alinkTxRead p hits => Sys2Proof.Machine.execAlinkTxRead p hits s
  | .releaseMissedDeadline p => Sys2Proof.Machine.execReleaseMissedDeadline p s
  | .heldReleaseTimeout r => Sys2Proof.Machine.execHeldReleaseTimeout r s
  | .alinkSlotSend n => Sys2Proof.Machine.execAlinkSlotSend n s
  | .churnUplinkPassStart u k => Sys2Proof.Machine.execChurnUplinkPassStart u k s
  | .churnDownlinkPassStart u k => Sys2Proof.Machine.execChurnDownlinkPassStart u k s
  | .churnPassCommit u arr hits => Sys2Proof.Machine.execChurnPassCommit u arr hits s
  | .chParityError u => Sys2Proof.Machine.execChParityError u s
  | .weightWindowWrite m g off data hits => Sys2Proof.Machine.execWeightWindowWrite m g off data s hits
  | .wbCtrlSync g => Sys2Proof.Machine.execWbCtrlSync g s
  | .wbSyncComplete g => Sys2Proof.Machine.execWbSyncComplete g s
  | .wbCtrlRestore g => Sys2Proof.Machine.execWbCtrlRestore g s
  | .wbRestoreComplete g => Sys2Proof.Machine.execWbRestoreComplete g s
  | .wbRestoreExchange g => Sys2Proof.Machine.execWbRestoreExchange g s
  | .weightLockEnd g => Sys2Proof.Machine.execWeightLockEnd g s
  | .weightZeroingComplete u => Sys2Proof.Machine.execWeightZeroingComplete u s
  | .spareCtrlGo q v => Sys2Proof.Machine.execSpareCtrlGo q v s
  | .sparePreparationDone q => Sys2Proof.Machine.execSparePreparationDone q s
  | .spareSwitch q => Sys2Proof.Machine.execSpareSwitch q s
  | .spareCounterMerge q => Sys2Proof.Machine.execSpareCounterMerge q s
  | .spareCtrlReinstate q v => Sys2Proof.Machine.execSpareCtrlReinstate q v s
  | .reinstateTestDone q pass => Sys2Proof.Machine.execReinstateTestDone q pass s
  | .blockHeaderArrival p => Sys2Proof.Machine.execBlockHeaderArrival p s
  | .blockCommit p hits => Sys2Proof.Machine.execBlockCommit p hits s
  | .bankInitComplete b => Sys2Proof.Machine.execBankInitComplete b s
  | .vatRprReq v => Sys2Proof.Machine.execVatRprReq v s
  | .remapApply b => Sys2Proof.Machine.execRemapApply b s
  | .dmaStart c => Sys2Proof.Machine.execDmaStart c s
  | .dmaStopReq c => Sys2Proof.Machine.execDmaStopReq c s
  | .dmaCancel c => Sys2Proof.Machine.execDmaCancel c s
  | .dmaClrErr c => Sys2Proof.Machine.execDmaClrErr c s
  | .dmaChainStart c hits => Sys2Proof.Machine.execDmaChainStart c s hits
  | .dmaReleaseTest c => Sys2Proof.Machine.execDmaReleaseTest c s
  | .dmaRoomReady c => Sys2Proof.Machine.execDmaRoomReady c s
  | .dmaRequestIssue m hits => Sys2Proof.Machine.execDmaRequestIssue m hits s
  | .dmaReadCompletion c off st data => Sys2Proof.Machine.execDmaReadCompletion c off st data s
  | .dmaReadTimeout c => Sys2Proof.Machine.execDmaReadTimeout c s
  | .dmaRecordWrite c => Sys2Proof.Machine.execDmaRecordWrite c s
  | .dmaRetire c => Sys2Proof.Machine.execDmaRetire c s
  | .dmaFetch c => Sys2Proof.Machine.execDmaFetch c s
  | .dmaFetchComplete c st image => Sys2Proof.Machine.execDmaFetchComplete c st image s
  | .dmaMissMaster c => Sys2Proof.Machine.execDmaMissMaster c s
  | .frameReceive e half ago hdr cells errs => Sys2Proof.Machine.execFrameReceive e half ago hdr cells errs s
  | .credit n w => Sys2Proof.Machine.execCredit n w s
  | .ledger n w => Sys2Proof.Machine.execLedger n w s
  | .cresync n w => Sys2Proof.Machine.execCresync n w s
  | .ack e w => Sys2Proof.Machine.execAck e w s
  | .dlyRsp e w ago => Sys2Proof.Machine.execDlyRsp e w ago s
  | .epoch n w => Sys2Proof.Machine.execEpoch n w s
  | .leTod n w ago => Sys2Proof.Machine.execLeTod n w ago s
  | .status n w => Sys2Proof.Machine.execStatus n w s
  | .spareReady e w => Sys2Proof.Machine.execSpareReady e w s
  | .laneSwap e => Sys2Proof.Machine.execLaneSwap e s
  | .spareAbortTimeout e => Sys2Proof.Machine.execSpareAbortTimeout e s
  | .auditLate n => Sys2Proof.Machine.execAuditLate n s
  | .replayTimeout e => Sys2Proof.Machine.execReplayTimeout e s
  | .calibrationRequest n => Sys2Proof.Machine.execCalibrationRequest n s
  | .dlyRspMissing e => Sys2Proof.Machine.execDlyRspMissing e s
  | .alCtrlRetrain n => Sys2Proof.Machine.execAlCtrlRetrain n s
  | .presenceProbe e found => Sys2Proof.Machine.execPresenceProbe e found s
  | .receiverLock e => Sys2Proof.Machine.execReceiverLock e s
  | .frameLock e => Sys2Proof.Machine.execFrameLock e s
  | .cfgDone e => Sys2Proof.Machine.execCfgDone e s
  | .calibrateComplete e => Sys2Proof.Machine.execCalibrateComplete e s
  | .trainingTimeout e => Sys2Proof.Machine.execTrainingTimeout e s
  | .trainingRetry e => Sys2Proof.Machine.execTrainingRetry e s
  | .recoveredClockLoss e lane => Sys2Proof.Machine.execRecoveredClockLoss e lane s
  | .inhibitMuteCheck n => Sys2Proof.Machine.execInhibitMuteCheck n s
  | .hostBar4Write m off data => Sys2Proof.Machine.execHostBar4Write m off data s
  | .hostBar4Read m off en => Sys2Proof.Machine.execHostBar4Read m off en s
  | .hostReadTimeout n tag => Sys2Proof.Machine.execHostReadTimeout n tag s
  | .cpl n w data => Sys2Proof.Machine.execCpl n w data s
  | .err n w => Sys2Proof.Machine.execErr n w s
  | .retry n w => Sys2Proof.Machine.execRetry n w s
  | .wr n w addr data => Sys2Proof.Machine.execWr n w addr data s
  | .rd n w addr => Sys2Proof.Machine.execRd n w addr s
  | .bridgeFetchComplete n fetch st data => Sys2Proof.Machine.execBridgeFetchComplete n fetch st data s
  | .bridgeHoldExpiry n tag => Sys2Proof.Machine.execBridgeHoldExpiry n tag s
  | .perstNAssert p => Sys2Proof.Machine.execPerstNAssert p s
  | .perstNDeassert p refclk => Sys2Proof.Machine.execPerstNDeassert p refclk s
  | .hotReset m disabled => Sys2Proof.Machine.execHotReset m disabled s
  | .hlPortRetrain p => Sys2Proof.Machine.execHlPortRetrain p s
  | .flr m => Sys2Proof.Machine.execFlr m s
  | .flrComplete m => Sys2Proof.Machine.execFlrComplete m s
  | .configRequest m off write v be => Sys2Proof.Machine.execConfigRequest m off write v be s
  | .busMasterEnableClear m => Sys2Proof.Machine.execBusMasterEnableClear m s
  | .busMasterEnableSet m => Sys2Proof.Machine.execBusMasterEnableSet m s
  | .memorySpaceEnableChange m on => Sys2Proof.Machine.execMemorySpaceEnableChange m on s
  | .dStateChange m d3 => Sys2Proof.Machine.execDStateChange m d3 s
  | .hostLinkUp m width rate flit => Sys2Proof.Machine.execHostLinkUp m width rate flit s
  | .hostLinkDown m => Sys2Proof.Machine.execHostLinkDown m s
  | .hostLinkRateWidthChange m width rate => Sys2Proof.Machine.execHostLinkRateWidthChange m width rate s
  | .l0pNarrowing m width partner => Sys2Proof.Machine.execL0pNarrowing m width partner s
  | .l1Request m => Sys2Proof.Machine.execL1Request m s
  | .l1ExitStart m => Sys2Proof.Machine.execL1ExitStart m s
  | .atsInvalidationRequest m itag pasid addr size => Sys2Proof.Machine.execAtsInvalidationRequest m itag pasid addr size s
  | .atsInvalidationComplete m => Sys2Proof.Machine.execAtsInvalidationComplete m s
  | .doeObject m obj => Sys2Proof.Machine.execDoeObject m obj s
  | .bar0Access m off len write data hits => Sys2Proof.Machine.execBar0Access m off len write data s hits
  | .bar2Access m off len write tee data => Sys2Proof.Machine.execBar2Access m off len write tee data s
  | .expansionRomRead m off len => Sys2Proof.Machine.execExpansionRomRead m off len s
  | .postedWritePoisoned m => Sys2Proof.Machine.execPostedWritePoisoned m s
  | .unexpectedCompletion m => Sys2Proof.Machine.execUnexpectedCompletion m s
  | .msixSend m => Sys2Proof.Machine.execMsixSend m s
  | .msixTableWrite m off v len => Sys2Proof.Machine.execMsixTableWrite m off v len s
  | .evInject v => Sys2Proof.Machine.execEvInject v s
  | .alertNRelease => Sys2Proof.Machine.execAlertNRelease s
  | .slDbin sl v => Sys2Proof.Machine.execSlDbin sl v s
  | .slDboutAck sl => Sys2Proof.Machine.execSlDboutAck sl s
  | .slCtrlFence sl on => Sys2Proof.Machine.execSlCtrlFence sl on s
  | .slCtrlKill sl => Sys2Proof.Machine.execSlCtrlKill sl s
  | .umSqTailWrite v => Sys2Proof.Machine.execUmSqTailWrite v s
  | .umPacketExecute fuseV hits => Sys2Proof.Machine.execUmPacketExecute fuseV s hits
  | .umReplyPost c => Sys2Proof.Machine.execUmReplyPost c s
  | .umRqHeadWrite v => Sys2Proof.Machine.execUmRqHeadWrite v s
  | .umCtrlReset => Sys2Proof.Machine.execUmCtrlReset s
  | .mctpMessage eid tag bytes => Sys2Proof.Machine.execMctpMessage eid tag bytes s
  | .setEndpointId eid tag inst p => Sys2Proof.Machine.execSetEndpointId eid tag inst p s
  | .getEndpointId eid tag inst p => Sys2Proof.Machine.execGetEndpointId eid tag inst p s
  | .getMctpVersionSupport eid tag inst p => Sys2Proof.Machine.execGetMctpVersionSupport eid tag inst p s
  | .getMessageTypeSupport eid tag inst p => Sys2Proof.Machine.execGetMessageTypeSupport eid tag inst p s
  | .getVendorDefinedMessageSupport eid tag inst p => Sys2Proof.Machine.execGetVendorDefinedMessageSupport eid tag inst p s
  | .pldmFirmwareData eid piece => Sys2Proof.Machine.execPldmFirmwareData eid piece s
  | .identify h p => Sys2Proof.Machine.execIdentify h p s
  | .ping h p => Sys2Proof.Machine.execPing h p s
  | .rtRead h p => Sys2Proof.Machine.execRtRead h p s
  | .mgrLinkSet h p => Sys2Proof.Machine.execMgrLinkSet h p s
  | .genOpen h p => Sys2Proof.Machine.execGenOpen h p s
  | .genAbort h p => Sys2Proof.Machine.execGenAbort h p s
  | .regWrite h p hits => Sys2Proof.Machine.execRegWrite h p s hits
  | .regRead h p hits => Sys2Proof.Machine.execRegRead h p s hits
  | .commitAt h p => Sys2Proof.Machine.execCommitAt h p s
  | .commitChecksComplete => Sys2Proof.Machine.execCommitChecksComplete s
  | .genTakesEffect => Sys2Proof.Machine.execGenTakesEffect s
  | .genCancel h p => Sys2Proof.Machine.execGenCancel h p s
  | .genStatus h p => Sys2Proof.Machine.execGenStatus h p s
  | .genDump h p => Sys2Proof.Machine.execGenDump h p s
  | .stagedParity k => Sys2Proof.Machine.execStagedParity k s
  | .tlSet h p => Sys2Proof.Machine.execTlSet h p s
  | .tlGet h p => Sys2Proof.Machine.execTlGet h p s
  | .tlAlarmSet h p => Sys2Proof.Machine.execTlAlarmSet h p s
  | .alRetrain h p => Sys2Proof.Machine.execAlRetrain h p s
  | .alStatus h p => Sys2Proof.Machine.execAlStatus h p s
  | .alSpare h p => Sys2Proof.Machine.execAlSpare h p s
  | .alCal h p => Sys2Proof.Machine.execAlCal h p s
  | .alLedger h p => Sys2Proof.Machine.execAlLedger h p s
  | .wbWrite h p hits => Sys2Proof.Machine.execWbWrite h p s hits
  | .wbRead h p hits => Sys2Proof.Machine.execWbRead h p s hits
  | .wbSync h p => Sys2Proof.Machine.execWbSync h p s
  | .wbRestore h p => Sys2Proof.Machine.execWbRestore h p s
  | .spareGo h p => Sys2Proof.Machine.execSpareGo h p s
  | .spareReinstate h p => Sys2Proof.Machine.execSpareReinstate h p s
  | .chCounters h p => Sys2Proof.Machine.execChCounters h p s
  | .sliceBind h p => Sys2Proof.Machine.execSliceBind h p s
  | .sliceUnbind h p => Sys2Proof.Machine.execSliceUnbind h p s
  | .sliceFence h p => Sys2Proof.Machine.execSliceFence h p s
  | .sliceKill h p => Sys2Proof.Machine.execSliceKill h p s
  | .mboxGet h p => Sys2Proof.Machine.execMboxGet h p s
  | .mboxPut h p => Sys2Proof.Machine.execMboxPut h p s
  | .sliceStatus h p => Sys2Proof.Machine.execSliceStatus h p s
  | .dmaWheelSet h p => Sys2Proof.Machine.execDmaWheelSet h p s
  | .dmaOwnSet h p => Sys2Proof.Machine.execDmaOwnSet h p s
  | .dmaStgqSet h p => Sys2Proof.Machine.execDmaStgqSet h p s
  | .dmaChanRead h p => Sys2Proof.Machine.execDmaChanRead h p s
  | .dmaChanCtrl h p => Sys2Proof.Machine.execDmaChanCtrl h p s
  | .modeSet h p => Sys2Proof.Machine.execModeSet h p s
  | .drainComplete => Sys2Proof.Machine.execDrainComplete s
  | .drainLimitExpiry => Sys2Proof.Machine.execDrainLimitExpiry s
  | .modeGet h p => Sys2Proof.Machine.execModeGet h p s
  | .pwVote h p => Sys2Proof.Machine.execPwVote h p s
  | .pwStatus h p => Sys2Proof.Machine.execPwStatus h p s
  | .dozeCfg h p => Sys2Proof.Machine.execDozeCfg h p s
  | .twRoleSet h p => Sys2Proof.Machine.execTwRoleSet h p s
  | .twSwitchover h p => Sys2Proof.Machine.execTwSwitchover h p s
  | .switchoverHandoff => Sys2Proof.Machine.execSwitchoverHandoff s
  | .twStatus h p => Sys2Proof.Machine.execTwStatus h p s
  | .herdAddrSet h p => Sys2Proof.Machine.execHerdAddrSet h p s
  | .herdStatus h p => Sys2Proof.Machine.execHerdStatus h p s
  | .clCal h p => Sys2Proof.Machine.execClCal h p s
  | .secStatus h p => Sys2Proof.Machine.execSecStatus h p s
  | .fwLoad h p => Sys2Proof.Machine.execFwLoad h p s
  | .fwActivate h p => Sys2Proof.Machine.execFwActivate h p s
  | .lcAdvance h p fuseV => Sys2Proof.Machine.execLcAdvance h p fuseV s
  | .debugUnlock h p => Sys2Proof.Machine.execDebugUnlock h p s
  | .secZeroize h p => Sys2Proof.Machine.execSecZeroize h p s
  | .tamperCfg h p => Sys2Proof.Machine.execTamperCfg h p s
  | .logRead h p hits => Sys2Proof.Machine.execLogRead h p s hits
  | .logMark h p => Sys2Proof.Machine.execLogMark h p s
  | .workReport h p => Sys2Proof.Machine.execWorkReport h p s
  | .evRead h p => Sys2Proof.Machine.execEvRead h p s
  | .evClear h p => Sys2Proof.Machine.execEvClear h p s
  | .rsCauseGet h p => Sys2Proof.Machine.execRsCauseGet h p s
  | .resetDomain h p => Sys2Proof.Machine.execResetDomain h p s
  | .domainResetComplete => Sys2Proof.Machine.execDomainResetComplete s
  | .umReset h p => Sys2Proof.Machine.execUmReset h p s
  | .heartbeatInstant => Sys2Proof.Machine.execHeartbeatInstant s
  | .heartbeat x w0 w1 ago => Sys2Proof.Machine.execHeartbeat x w0 w1 ago s
  | .takeoverComplete => Sys2Proof.Machine.execTakeoverComplete s
  | .epochStepDown => Sys2Proof.Machine.execEpochStepDown s
  | .stagedWr hdr body => Sys2Proof.Machine.execStagedWr hdr body s
  | .shadowWr hdr body => Sys2Proof.Machine.execShadowWr hdr body s
  | .genCmd hdr body => Sys2Proof.Machine.execGenCmd hdr body s
  | .commit hdr body => Sys2Proof.Machine.execCommit hdr body s
  | .commitAck hdr body => Sys2Proof.Machine.execCommitAck hdr body s
  | .commitAckTimeout => Sys2Proof.Machine.execCommitAckTimeout s
  | .chan hdr body => Sys2Proof.Machine.execChan hdr body s
  | .syncReg hdr body => Sys2Proof.Machine.execSyncReg hdr body s
  | .syncWt hdr body => Sys2Proof.Machine.execSyncWt hdr body s
  | .syncDone hdr body srcState => Sys2Proof.Machine.execSyncDone hdr body srcState s
  | .peerReset hdr body => Sys2Proof.Machine.execPeerReset hdr body s
  | .twCtrlPeerReset => Sys2Proof.Machine.execTwCtrlPeerReset s
  | .twCtrlResync => Sys2Proof.Machine.execTwCtrlResync s
  | .clPortRetrain x => Sys2Proof.Machine.execClPortRetrain x s
  | .clotonCalibration x => Sys2Proof.Machine.execClotonCalibration x s
  | .digest x w0 at_ bytes => Sys2Proof.Machine.execDigest x w0 at_ bytes s
  | .timemark x w0 w1 ago => Sys2Proof.Machine.execTimemark x w0 w1 ago s
  | .hready x hdr body => Sys2Proof.Machine.execHready x hdr body s
  | .habort x hdr body ago => Sys2Proof.Machine.execHabort x hdr body ago s
  | .herdGuardCheck => Sys2Proof.Machine.execHerdGuardCheck s
  | .herdCellForward x y => Sys2Proof.Machine.execHerdCellForward x y s
  | .domainEntryStart d => Sys2Proof.Machine.execDomainEntryStart d s
  | .domainSwitchOff d => Sys2Proof.Machine.execDomainSwitchOff d s
  | .domainEntryAbort d at_ => Sys2Proof.Machine.execDomainEntryAbort d at_ s
  | .domainReleased d hits => Sys2Proof.Machine.execDomainReleased d s hits
  | .pwHvote33Write v => Sys2Proof.Machine.execPwHvote33Write v s
  | .sleepEntry => Sys2Proof.Machine.execSleepEntry s
  | .sleepEntryWait => Sys2Proof.Machine.execSleepEntryWait s
  | .wake boot hits => Sys2Proof.Machine.execWake boot s hits
  | .sidebandAddressMatch addr => Sys2Proof.Machine.execSidebandAddressMatch addr s
  | .inbandWake port => Sys2Proof.Machine.execInbandWake port s
  | .gpioWake level => Sys2Proof.Machine.execGpioWake level s
  | .dozeSample temps rails clk pps pres => Sys2Proof.Machine.execDozeSample temps rails clk pps pres s
  | .supplyDipRecorded rail mv ago => Sys2Proof.Machine.execSupplyDipRecorded rail mv ago s
  | .supplyDipEnd rail mv readings => Sys2Proof.Machine.execSupplyDipEnd rail mv readings s
  | .supplyOver rail high => Sys2Proof.Machine.execSupplyOver rail high s
  | .supplyShed => Sys2Proof.Machine.execSupplyShed s
  | .supplyReturn => Sys2Proof.Machine.execSupplyReturn s
  | .thermalConversion temps => Sys2Proof.Machine.execThermalConversion temps s
  | .pwShedCtrlRestore v => Sys2Proof.Machine.execPwShedCtrlRestore v s
  | .noiseHealthFailure samples window => Sys2Proof.Machine.execNoiseHealthFailure samples s window
  | .drbgRestart => Sys2Proof.Machine.execDrbgRestart s
  | .drbgInstantiated => Sys2Proof.Machine.execDrbgInstantiated s
  | .secRngCtrlRetry => Sys2Proof.Machine.execSecRngCtrlRetry s
  | .drbgReseed => Sys2Proof.Machine.execDrbgReseed s
  | .curveOperationComplete retry => Sys2Proof.Machine.execCurveOperationComplete retry s
  | .tamperTrip src fuseV => Sys2Proof.Machine.execTamperTrip src fuseV s
  | .secDbgCtrlLock => Sys2Proof.Machine.execSecDbgCtrlLock s
  | .tapInstruction ir => Sys2Proof.Machine.execTapInstruction ir s
  | .spdmRequest src session req => Sys2Proof.Machine.execSpdmRequest src session req s
  | .query src session m index => Sys2Proof.Machine.execQuery src session m index s
  | .keyProg src session m stream ks dir sub key => Sys2Proof.Machine.execKeyProg src session m stream ks dir sub key s
  | .kSetGo src session m stream ks dir sub => Sys2Proof.Machine.execKSetGo src session m stream ks dir sub s
  | .kSetStop src session m stream ks dir sub => Sys2Proof.Machine.execKSetStop src session m stream ks dir sub s
  | .ideFail m stream => Sys2Proof.Machine.execIdeFail m stream s
  | .lockInterface src session m id stream => Sys2Proof.Machine.execLockInterface src session m id stream s
  | .startInterface src session m id nonce => Sys2Proof.Machine.execStartInterface src session m id nonce s
  | .stopInterface src session m id => Sys2Proof.Machine.execStopInterface src session m id s
  | .getDeviceInterfaceState src session m id => Sys2Proof.Machine.execGetDeviceInterfaceState src session m id s
  | .logQueueWrite => Sys2Proof.Machine.execLogQueueWrite s
  | .logRdseqWrite v => Sys2Proof.Machine.execLogRdseqWrite v s
  | .repairRecordWrite ok => Sys2Proof.Machine.execRepairRecordWrite ok s
  | .registerWrite who off wide v => Sys2Proof.Machine.execRegisterWrite who off wide v s
  | .registerReadClear who off => Sys2Proof.Machine.execRegisterReadClear who off s
  | .bridgeFetchTimeout n tag => Sys2Proof.Machine.execBridgeFetchTimeout n tag s
  | .l1ExitComplete m => Sys2Proof.Machine.execL1ExitComplete m s
  | .l2L3ReadyEntry m => Sys2Proof.Machine.execL2L3ReadyEntry m s
  | .resetDomainDeviceStart => Sys2Proof.Machine.execResetDomainDeviceStart s
  | .clotonSlotSend x => Sys2Proof.Machine.execClotonSlotSend x s
  | .dlyReq x w ago => Sys2Proof.Machine.execDlyReq x w ago s
  | .spare x w => Sys2Proof.Machine.execSpare x w s
  | .timelineSchedulerVote => Sys2Proof.Machine.execTimelineSchedulerVote s
  | .alertResponseAddress => Sys2Proof.Machine.execAlertResponseAddress s
  | .aonComparatorThermal temp => Sys2Proof.Machine.execAonComparatorThermal temp s
  | .fuseProgrammingComplete lc rest => Sys2Proof.Machine.execFuseProgrammingComplete lc rest s
  | .slotBCopyComplete => Sys2Proof.Machine.execSlotBCopyComplete s
  | .translationCompletion m sl page tr ok => Sys2Proof.Machine.execTranslationCompletion m sl page tr ok s
  | .tlUncertGrowth => Sys2Proof.Machine.execTlUncertGrowth s

end Sys2Proof.Machine
end

