-- ==== Sys2Proof/Machine/Egress.lean ====
section
/-! DEFINITION. What a host link sends outside the beat wheel, in a fixed rotation of 64-byte turns (20 R568). -/

namespace Sys2Proof.Machine

/-- The owner of the device's turn of a rotation; a slice's owner is its number. -/
def deviceTurn : Nat := 1024

/-- The slice that a vector of link `m` is local to, or the device for the other vectors (R333, R361). -/
def State.vecOwner (s : State) (m v : Nat) : Nat :=
  (s.boundSlices.find? (fun sl =>
    let b := s.fld (Reg.SL_VECMAP sl) F.SL_VECMAP_BASE
    s.slLink sl == m && decide (b ≤ v ∧ v < b + s.fld (Reg.SL_VECMAP sl) F.SL_VECMAP_COUNT))).getD deviceTurn

/-- Bytes of a TLP in a turn: its data and 16 bytes of headers. -/
def tlpBytes (o : Out) : Nat :=
  16 + (match o with
    | .cpl _ _ b _ => b.length
    | .cplEp _ b _ => b.length
    | .mwr _ _ _ b _ => b.length
    | .msix .. => 4
    | _ => 0)

/-- The link and the owner of what goes outside the wheel; none for what does not. -/
def State.turnOf (s : State) : Out → Option (Nat × Nat)
  | .cpl m _ _ sl => some (m, sl.getD deviceTurn)
  | .cplEp m _ sl => some (m, sl.getD deviceTurn)
  | .mrd m _ _ _ a => if a.testBit 7 then some (m, a / 256) else none
  | .mwr m _ _ _ a => if a.testBit 7 then some (m, a / 256) else none
  | .msix m v _ _ => some (m, s.vecOwner m v)
  | .treq m _ _ sl => some (m, sl)
  | .invCpl m _ => some (m, deviceTurn)
  | .aerMsg m _ => some (m, deviceTurn)
  | _ => none

/-- A link's rotation replaced by its image under `f`. -/
def State.updEgress (s : State) (m : Nat) (f : Egress → Egress) : State :=
  { s with eg := { s.eg with links := SMap.upd {} s.eg.links m f } }

/-- What has left the device's edge since the last Tc joins its link's queue, the oldest first. -/
def State.takeOuts : State → List Out → State
  | s, [] => s
  | s, o :: os =>
    (match s.turnOf o with
     | some (m, w) => s.updEgress m (fun e => { e with wait := e.wait ++ [(⟨w, tlpBytes o, o⟩ : TurnItem)] })
     | none => s).takeOuts os

/-- The slices bound to link `m` in ascending order, then the device. -/
def State.turnOwners (s : State) (m : Nat) : List Nat := (s.boundSlices.filter (fun sl => s.slLink sl == m)) ++ [deviceTurn]

/-- What a rotation was built under: the generation, the link's width and its rate. -/
def State.turnKey (s : State) (m : Nat) : Nat × Nat × Nat :=
  let k := Reg.HL_LINK_STAT m
  (s.fld Reg.UM_GEN_SEQ F.UM_GEN_SEQ_SEQ, s.fld k F.HL_LINK_STAT_WIDTH, s.fld k F.HL_LINK_STAT_RATE)

/-- The rate of a lane by its code, in tenths of GT/s (R318). -/
def rateTenths (c : Nat) : Nat := [25, 50, 80, 160, 320, 640].getD c 1280

/-- 64-byte turns that link `m` carries in 1,024 Tc at its width and rate, the wheel's beats included: its lanes' raw rate. -/
def State.linkTurns (s : State) (m : Nat) : Nat :=
  let k := Reg.HL_LINK_STAT m
  rateTenths (s.fld k F.HL_LINK_STAT_RATE) * 100000000 * s.fld k F.HL_LINK_STAT_WIDTH * 1024 / (512 * secTc)

/-- Turns that the wheel leaves free in the present Tc (R210). -/
def State.freeTurns (s : State) (m : Nat) : Nat :=
  let c := s.linkTurns m
  let n := s.now % 1024
  ((n + 1) * c / 1024 - n * c / 1024) - ((s.wheelAt m s.now).map (·.2)).getD 0

/-- One turn (R568): its owner sends up to 64 bytes of its oldest TLP, and the turn passes to no one. What it completes is
answered beside the rotation. -/
def Egress.turn1 (e : Egress) : Egress × List Out :=
  let own := e.owners.getD (e.turn % max e.owners.length 1) deviceTurn
  let e := { e with turn := (e.turn + 1) % max e.owners.length 1 }
  match e.wait.find? (fun x => x.own == own) with
  | none => (e, [])
  | some x =>
    if x.left ≤ 64 then ({ e with wait := e.wait.erase x }, [x.tlp])
    else ({ e with wait := e.wait.map (fun y => if y = x then { y with left := y.left - 64 } else y) }, [])

/-- `n` turns. -/
def Egress.turns : Nat → Egress → Egress × List Out
  | 0, e => (e, [])
  | n + 1, e =>
    let (e, a) := e.turn1
    let (e, b) := Egress.turns n e
    (e, a ++ b)

/-- Link `m` in one Tc: the rotation is rebuilt where the generation, the width or the rate has changed, its turns pass while
the link is in L0, and what waits is lost while the link is out of reach. -/
def State.linkEgress (s : State) (m : Nat) : State :=
  if s.inL0 m then
    let e := SMap.get {} s.eg.links m
    let e := if e.key = s.turnKey m then e else { e with key := s.turnKey m, owners := s.turnOwners m, turn := 0 }
    let r := Egress.turns (s.freeTurns m) e
    let s := s.updEgress m (fun _ => r.1)
    { s with eg := { s.eg with wire := r.2.reverse ++ s.eg.wire } }
  else if s.reachable m then s
  else if (SMap.get {} s.eg.links m).wait = [] then s else s.updEgress m (fun e => { e with wait := [] })

/-- Bridged traffic reaches its egress, the idle timers run, and the links' rotations pass, in one Tc (R314, R563, R568). -/
def State.egressTick (s : State) : State :=
  let s := (List.range 32).foldl State.bridgeTick s
  let s := s.takeOuts ((s.out.take (s.out.length - s.eg.seen)).reverse)
  let s := { s with eg := { s.eg with seen := s.out.length } }
  let s := (List.range 32).foldl State.idleLink s
  (List.range 32).foldl State.linkEgress s

end Sys2Proof.Machine
end

