-- ==== Sys2Proof/Machine/Step.lean ====
section
/-! DEFINITION. The step: the command at the front of the queue is performed, and an empty queue lets one Tc pass. -/

namespace Sys2Proof.Machine

/-- One Tc passes: the clocks and counters, space of blocks whose reads have ended (R181), the requests of shedding, a manager
link that takes effect in it (R401), and the host links' turns outside the beat wheel (R568). -/
def State.passTick (s : State) : State := s.tickAll.freeTick.shedCheck.applyMgr.egressTick

/-- One step: the command at the front of the queue, performed with the queue's rest; one Tc on an empty queue. -/
def step (s : State) : Host.Outcome State Fault Refusal :=
  match s.pending with
  | [] => .next s.passTick
  | i :: rest => exec i { s with pending := rest }

/-- The state with the command that a word spells at the front of its queue; unchanged where the word spells none. -/
def State.withFetchWord (s : State) (nbits w : Nat) : State :=
  match decodeTableWord nbits w with
  | some i => { s with pending := i :: s.pending }
  | none => s

end Sys2Proof.Machine
end

