-- ==== Sys2Proof/Safety.lean ====
section
/-! DEFINITION. What the statements speak of: the parts of the state and frames over them, the canonical form of the
register images, and the bounds that the clocks keep. -/

namespace Sys2Proof.Machine

/-- The parts of the state: one for each field of `State`. -/
inductive Part where
  | pending | ticks | aon | aonLeft | core | coreQ | regs | gen | staged | latches | heldWr | tk | log | calBad | pails
  | banks | repairDue | units | groups | spares | chans | slices | ports | links | um | pw | rs | cl | tw | sec | flash
  | image | fresh | out | hot | eg | calDue
  deriving DecidableEq, Repr

/-- Part `p` of two states is the same. -/
def State.same (p : Part) (s t : State) : Prop :=
  match p with
  | .pending => t.pending = s.pending
  | .ticks => t.ticks = s.ticks
  | .aon => t.aon = s.aon
  | .aonLeft => t.aonLeft = s.aonLeft
  | .core => t.core = s.core
  | .coreQ => t.coreQ = s.coreQ
  | .regs => t.regs = s.regs
  | .gen => t.gen = s.gen
  | .staged => t.staged = s.staged
  | .latches => t.latches = s.latches
  | .heldWr => t.heldWr = s.heldWr
  | .tk => t.tk = s.tk
  | .log => t.log = s.log
  | .calBad => t.calBad = s.calBad
  | .pails => t.pails = s.pails
  | .banks => t.banks = s.banks
  | .repairDue => t.repairDue = s.repairDue
  | .units => t.units = s.units
  | .groups => t.groups = s.groups
  | .spares => t.spares = s.spares
  | .chans => t.chans = s.chans
  | .slices => t.slices = s.slices
  | .ports => t.ports = s.ports
  | .links => t.links = s.links
  | .um => t.um = s.um
  | .pw => t.pw = s.pw
  | .rs => t.rs = s.rs
  | .cl => t.cl = s.cl
  | .tw => t.tw = s.tw
  | .sec => t.sec = s.sec
  | .flash => t.flash = s.flash
  | .image => t.image = s.image
  | .fresh => t.fresh = s.fresh
  | .out => t.out = s.out
  | .hot => t.hot = s.hot
  | .eg => t.eg = s.eg
  | .calDue => t.calDue = s.calDue

/-- Only the parts listed may differ between two states. -/
def Frame (ps : List Part) (s t : State) : Prop := ∀ p, p ∉ ps → State.same p s t

/-- The registers that the event matrix and the trouble log's queue write when a source occurs (R340, R341, R343, R552):
EV_RAISED, EV_CNT and EV_ALERT, the HL_LINK_EVENT of each link, LOG_SEQ and LOG_LOST. -/
def evKey (k : Nat) : Bool :=
  (decide (0x31000 ≤ k) && decide (k < 0x33004)) || decide (k = Reg.LOG_SEQ) || decide (k = Reg.LOG_LOST) ||
    (decide (0x310008 ≤ k) && decide (k < 0x312000) && decide (k % 256 = 8))

/-- The register images are in their canonical form: offsets strictly rising, and no entry at its value after reset. -/
def State.canon (s : State) : Bool :=
  SMap.wf rstW s.regs && SMap.wf rstG s.gen && SMap.wf rstG s.staged

/-- The trouble log's queue has 256 places, and no more of them are taken (R552). -/
def State.queueOk (s : State) : Prop := logFill s.log.queue ≤ 256

/-- The clocks keep their rates (R54, R57, R491): four quarters or fewer of the present core cycle are spent and no core
cycle is shorter than one Tc; the always-on oscillator's present cycle has 1 to 82 Tc left and none is shorter than
75 Tc. -/
def State.clocksOk (s : State) : Prop :=
  s.coreQ ≤ 4 ∧ 4 * s.core + s.coreQ ≤ 4 * s.ticks ∧ 1 ≤ s.aonLeft ∧ s.aonLeft ≤ 82 ∧
    75 * (s.aon + 1) ≤ s.ticks + s.aonLeft

/-- The parts of the state that a command may change; every other part stays as it was (the queue and the count of Tc among
them). -/
def touches (c : Instr) : List Part :=
  match c with
  | .tlCtrlClrStr | .dmaClrErr .. | .alertNRelease | .slDboutAck .. | .umRqHeadWrite .. | .pwHvote33Write ..
  | .logRdseqWrite .. =>
    [.regs]
  | .credit .. | .cresync .. | .calibrationRequest .. | .inhibitMuteCheck .. =>
    [.ports]
  | .flrComplete .. | .atsInvalidationRequest .. | .doeObject .. | .translationCompletion .. =>
    [.links]
  | .identify .. | .ping .. | .rtRead .. | .mgrLinkSet .. | .genStatus .. | .genDump .. | .tlGet ..
  | .alStatus .. | .alLedger .. | .sliceStatus .. | .modeGet .. | .pwStatus .. | .twStatus .. | .herdStatus ..
  | .secStatus .. | .workReport .. | .evRead .. | .rsCauseGet .. =>
    [.um]
  | .alarmWakeStart .. | .domainEntryStart .. | .sidebandAddressMatch .. | .inbandWake ..
  | .pwShedCtrlRestore .. | .timelineSchedulerVote =>
    [.pw]
  | .twCtrlPeerReset | .clotonCalibration .. | .hready .. | .dlyReq .. | .spare .. =>
    [.cl]
  | .drbgReseed | .tapInstruction .. =>
    [.sec]
  | .alertResponseAddress =>
    [.out]
  | .pllLockAcquired | .pllLockLost | .aonRatioMeasure .. | .stretchEpisodeStart .. | .stretchEpisodeEnd
  | .tlUncertGrowth =>
    [.regs, .tk]
  | .bankInitComplete .. =>
    [.regs, .banks]
  | .spareCtrlGo .. | .spareCtrlReinstate .. =>
    [.regs, .spares]
  | .chCounters .. | .logMark .. =>
    [.regs, .um]
  | .tlSet .. =>
    [.tk, .um]
  | .alSpare .. | .alCal .. =>
    [.ports, .um]
  | .gpioWake .. =>
    [.regs, .pw]
  | .syncWt .. =>
    [.units, .cl]
  | .spareReady .. =>
    [.ports, .cl]
  | .clCal .. =>
    [.um, .cl]
  | .drbgRestart | .secRngCtrlRetry =>
    [.regs, .sec]
  | .debugUnlock .. =>
    [.um, .sec]
  | .fwLoad .. =>
    [.um, .flash]
  | .atsInvalidationComplete .. | .msixSend .. | .keyProg .. | .getDeviceInterfaceState .. =>
    [.links, .out]
  | .getEndpointId .. | .getMctpVersionSupport .. | .getMessageTypeSupport ..
  | .getVendorDefinedMessageSupport .. =>
    [.pw, .out]
  | .pldmFirmwareData .. =>
    [.rs, .out]
  | .l1Request .. | .l1ExitStart .. =>
    [.regs, .hot]
  | .dmaChanRead .. =>
    [.regs, .latches, .um]
  | .spareGo .. | .spareReinstate .. =>
    [.regs, .spares, .um]
  | .receiverLock .. | .frameLock .. | .cfgDone .. | .trainingRetry .. =>
    [.regs, .ports, .cl]
  | .commit .. =>
    [.regs, .um, .cl]
  | .sliceBind .. | .sliceUnbind .. | .dmaWheelSet .. | .dmaOwnSet .. | .dmaStgqSet .. | .dozeCfg ..
  | .tamperCfg .. =>
    [.staged, .um, .cl]
  | .chan .. =>
    [.regs, .cl, .tw]
  | .lcAdvance .. =>
    [.regs, .um, .sec]
  | .registerReadClear .. =>
    [.regs, .latches, .out]
  | .setEndpointId .. =>
    [.um, .pw, .out]
  | .query .. =>
    [.links, .fresh, .out]
  | .sparePreparationDone .. =>
    [.gen, .staged, .units, .spares]
  | .genOpen .. | .genAbort .. | .stagedWr .. =>
    [.regs, .staged, .um, .cl]
  | .supplyDipEnd .. =>
    [.regs, .log, .pw, .hot]
  | .dmaFetch .. =>
    [.regs, .chans, .slices, .links, .out]
  | .spareSwitch .. =>
    [.regs, .log, .units, .spares, .hot]
  | .mboxGet .. | .mboxPut .. =>
    [.regs, .slices, .links, .um, .hot]
  | .repairRecordWrite .. =>
    [.regs, .log, .repairDue, .flash, .hot]
  | .refDeclaredPresent | .alarmFire .. | .leTod .. | .busMasterEnableClear .. | .busMasterEnableSet ..
  | .memorySpaceEnableChange .. | .dStateChange .. | .hostLinkDown .. | .l0pNarrowing .. | .evInject ..
  | .umSqTailWrite .. | .digest .. | .secDbgCtrlLock | .kSetGo .. | .logQueueWrite | .l2L3ReadyEntry .. =>
    [.regs, .log, .links, .out, .hot]
  | .tlSetTimeout =>
    [.regs, .tk, .log, .um, .fresh, .hot]
  | .refDeclaredAbsent | .ppsMiss =>
    [.regs, .tk, .log, .links, .out, .hot]
  | .releaseMissedDeadline .. | .blockHeaderArrival .. =>
    [.regs, .log, .pails, .links, .out, .hot]
  | .vatRprReq .. =>
    [.regs, .log, .banks, .links, .out, .hot]
  | .hostLinkUp .. | .hostLinkRateWidthChange .. | .l1ExitComplete .. =>
    [.regs, .log, .chans, .links, .out, .hot]
  | .slDbin .. =>
    [.regs, .log, .slices, .links, .out, .hot]
  | .dmaRecordWrite .. =>
    [.regs, .chans, .slices, .links, .out, .hot]
  | .ledger .. | .status .. | .auditLate .. | .cpl .. | .retry .. | .wr .. | .rd .. | .bridgeHoldExpiry ..
  | .bridgeFetchTimeout .. =>
    [.regs, .log, .ports, .links, .out, .hot]
  | .twRoleSet .. | .herdAddrSet .. | .logRead .. =>
    [.regs, .log, .links, .um, .out, .hot]
  | .sleepEntryWait | .supplyOver .. | .supplyShed =>
    [.regs, .log, .links, .pw, .out, .hot]
  | .resetNRelease =>
    [.regs, .log, .links, .rs, .out, .hot]
  | .epoch .. | .twCtrlResync =>
    [.regs, .log, .links, .tw, .out, .hot]
  | .drbgInstantiated | .lockInterface .. | .startInterface .. =>
    [.regs, .log, .links, .sec, .out, .hot]
  | .expansionRomRead .. | .postedWritePoisoned .. | .unexpectedCompletion .. | .msixTableWrite .. =>
    [.regs, .log, .links, .fresh, .out, .hot]
  | .reinstateTestDone .. =>
    [.regs, .log, .units, .spares, .um, .fresh, .hot]
  | .alinkTxRead .. =>
    [.regs, .log, .pails, .banks, .links, .out, .hot]
  | .remapApply .. =>
    [.regs, .log, .banks, .repairDue, .links, .out, .hot]
  | .churnUplinkPassStart .. | .churnDownlinkPassStart .. =>
    [.regs, .log, .pails, .units, .links, .out, .hot]
  | .chParityError .. | .spareCounterMerge .. =>
    [.regs, .log, .units, .spares, .links, .out, .hot]
  | .alinkSlotSend .. =>
    [.regs, .log, .pails, .ports, .links, .out, .hot]
  | .mctpMessage .. | .pwVote .. =>
    [.regs, .log, .links, .um, .pw, .out, .hot]
  | .clPortRetrain .. =>
    [.regs, .log, .repairDue, .links, .cl, .out, .hot]
  | .dlyRsp .. | .spareAbortTimeout .. | .dlyRspMissing .. | .presenceProbe .. | .calibrateComplete ..
  | .trainingTimeout .. =>
    [.regs, .log, .ports, .links, .cl, .out, .hot]
  | .commitAckTimeout =>
    [.regs, .log, .links, .um, .tw, .out, .hot]
  | .herdCellForward .. | .clotonSlotSend .. =>
    [.regs, .log, .links, .cl, .tw, .out, .hot]
  | .supplyReturn =>
    [.regs, .log, .links, .um, .sec, .out, .hot]
  | .hostBar4Write .. | .hostBar4Read .. | .hostReadTimeout .. | .err .. | .bridgeFetchComplete .. =>
    [.regs, .log, .ports, .links, .fresh, .out, .hot]
  | .umReplyPost .. =>
    [.regs, .log, .links, .um, .fresh, .out, .hot]
  | .spdmRequest .. =>
    [.regs, .log, .links, .sec, .fresh, .out, .hot]
  | .portCalibration .. =>
    [.regs, .log, .calBad, .links, .out, .hot, .calDue]
  | .churnPassCommit .. =>
    [.regs, .log, .pails, .banks, .units, .links, .out, .hot]
  | .blockCommit .. =>
    [.regs, .log, .pails, .banks, .chans, .links, .out, .hot]
  | .laneSwap .. =>
    [.regs, .log, .repairDue, .ports, .links, .cl, .out, .hot]
  | .heldReleaseTimeout .. | .dmaStopReq .. | .dmaCancel .. | .dmaReleaseTest .. | .dmaRoomReady ..
  | .dmaReadTimeout .. | .dmaRetire .. | .dmaFetchComplete .. | .dmaMissMaster .. | .slCtrlFence ..
  | .slCtrlKill .. | .kSetStop .. =>
    [.regs, .log, .pails, .chans, .links, .tw, .out, .hot]
  | .commitAt .. | .commitAck .. =>
    [.regs, .log, .links, .um, .cl, .tw, .out, .hot]
  | .supplyDipRecorded .. =>
    [.regs, .log, .links, .um, .pw, .sec, .out, .hot]
  | .heldExit | .strapComplete .. =>
    [.regs, .log, .links, .um, .rs, .sec, .out, .hot]
  | .takeoverComplete =>
    [.regs, .log, .links, .um, .tw, .sec, .out, .hot]
  | .ppsEdge .. =>
    [.regs, .tk, .log, .links, .um, .fresh, .out, .hot]
  | .domainEntryAbort .. =>
    [.regs, .log, .links, .um, .pw, .fresh, .out, .hot]
  | .fwActivate .. | .noiseHealthFailure .. =>
    [.regs, .log, .links, .um, .sec, .fresh, .out, .hot]
  | .dmaStart .. =>
    [.regs, .heldWr, .log, .pails, .chans, .links, .tw, .out, .hot]
  | .tlStateChange =>
    [.regs, .tk, .log, .pails, .chans, .links, .tw, .out, .hot]
  | .dmaChainStart .. =>
    [.regs, .log, .pails, .banks, .chans, .links, .tw, .out, .hot]
  | .sliceFence .. | .sliceKill .. | .twSwitchover .. =>
    [.regs, .log, .pails, .chans, .links, .um, .tw, .out, .hot]
  | .readyEntry .. =>
    [.regs, .log, .links, .um, .pw, .rs, .sec, .out, .hot]
  | .timemark .. =>
    [.regs, .tk, .log, .links, .um, .cl, .fresh, .out, .hot]
  | .dmaReadCompletion .. | .ideFail .. =>
    [.regs, .log, .pails, .chans, .links, .tw, .fresh, .out, .hot]
  | .genCancel .. | .stagedParity .. | .habort .. | .herdGuardCheck =>
    [.regs, .log, .links, .um, .cl, .tw, .fresh, .out, .hot]
  | .slotBCopyComplete =>
    [.regs, .log, .links, .um, .sec, .flash, .fresh, .out, .hot]
  | .dmaRequestIssue .. =>
    [.regs, .log, .pails, .banks, .chans, .slices, .links, .tw, .out, .hot]
  | .perstNAssert .. | .hotReset .. | .hlPortRetrain .. =>
    [.regs, .log, .pails, .chans, .slices, .ports, .links, .tw, .out, .hot]
  | .dmaChanCtrl .. =>
    [.regs, .heldWr, .log, .pails, .chans, .links, .um, .tw, .out, .hot]
  | .perstNDeassert .. =>
    [.regs, .log, .pails, .chans, .slices, .links, .pw, .tw, .out, .hot]
  | .stopInterface .. =>
    [.regs, .log, .pails, .chans, .slices, .links, .tw, .sec, .out, .hot]
  | .heartbeatInstant =>
    [.regs, .staged, .log, .links, .um, .cl, .tw, .sec, .out, .hot]
  | .syncDone .. =>
    [.regs, .log, .groups, .links, .um, .cl, .tw, .sec, .out, .hot]
  | .firmwareVerified .. =>
    [.regs, .tk, .log, .links, .rs, .sec, .flash, .image, .out, .hot]
  | .ack .. | .replayTimeout .. | .alCtrlRetrain .. | .recoveredClockLoss .. =>
    [.regs, .log, .pails, .repairDue, .ports, .links, .cl, .fresh, .out, .hot]
  | .weightWindowWrite .. | .wbCtrlSync .. | .wbSyncComplete .. | .wbCtrlRestore .. | .wbRestoreComplete ..
  | .wbRestoreExchange .. | .weightLockEnd .. | .weightZeroingComplete .. | .wbWrite .. | .wbRead ..
  | .wbSync .. | .wbRestore .. | .shadowWr .. =>
    [.regs, .log, .units, .groups, .links, .um, .cl, .fresh, .out, .hot]
  | .umCtrlReset | .commitChecksComplete | .umReset .. =>
    [.regs, .staged, .log, .links, .um, .cl, .tw, .fresh, .out, .hot]
  | .tlCtrlInvalidate =>
    [.regs, .tk, .log, .links, .um, .cl, .tw, .fresh, .out, .hot]
  | .drainComplete =>
    [.regs, .log, .pails, .links, .um, .pw, .sec, .fresh, .out, .hot]
  | .heartbeat .. =>
    [.regs, .staged, .tk, .log, .links, .um, .cl, .tw, .sec, .out, .hot]
  | .regRead .. =>
    [.regs, .latches, .log, .units, .groups, .links, .um, .cl, .fresh, .out, .hot]
  | .alRetrain .. =>
    [.regs, .log, .pails, .repairDue, .ports, .links, .um, .cl, .fresh, .out, .hot]
  | .frameReceive .. =>
    [.regs, .log, .pails, .repairDue, .ports, .links, .cl, .tw, .fresh, .out, .hot]
  | .secZeroize .. | .epochStepDown | .curveOperationComplete .. =>
    [.regs, .log, .pails, .chans, .links, .um, .tw, .sec, .fresh, .out, .hot]
  | .resetNAccepted | .peerReset .. | .resetDomainDeviceStart =>
    [.regs, .tk, .log, .links, .um, .pw, .rs, .cl, .tw, .sec, .out, .hot]
  | .syncReg .. =>
    [.regs, .gen, .log, .pails, .repairDue, .ports, .links, .cl, .tw, .fresh, .out, .hot]
  | .genCmd .. =>
    [.regs, .staged, .log, .units, .groups, .links, .um, .cl, .tw, .fresh, .out, .hot]
  | .modeSet .. | .drainLimitExpiry =>
    [.regs, .log, .pails, .chans, .links, .um, .pw, .tw, .sec, .fresh, .out, .hot]
  | .switchoverHandoff =>
    [.regs, .log, .pails, .chans, .links, .um, .cl, .tw, .sec, .fresh, .out, .hot]
  | .flr .. | .configRequest .. =>
    [.regs, .staged, .log, .pails, .chans, .slices, .ports, .links, .um, .cl, .tw, .fresh, .out, .hot]
  | .domainSwitchOff .. =>
    [.regs, .tk, .log, .pails, .banks, .repairDue, .units, .ports, .links, .pw, .cl, .fresh, .out, .hot, .calDue]
  | .resetDomain .. =>
    [.regs, .tk, .log, .pails, .banks, .repairDue, .units, .chans, .ports, .links, .um, .cl, .tw, .fresh, .out, .hot,
      .calDue]
  | .genTakesEffect =>
    [.regs, .gen, .staged, .log, .pails, .repairDue, .units, .groups, .chans, .slices, .ports, .links, .um, .cl, .tw,
      .sec, .fresh, .out, .hot]
  | .domainResetComplete =>
    [.regs, .tk, .log, .pails, .banks, .repairDue, .units, .spares, .chans, .ports, .links, .um, .pw, .rs, .cl, .tw,
      .fresh, .out, .hot, .calDue]
  | .sleepEntry =>
    [.regs, .staged, .latches, .heldWr, .tk, .log, .pails, .banks, .repairDue, .units, .ports, .links, .um, .pw, .cl,
      .sec, .fresh, .out, .hot, .calDue]
  | .creameryWatchdogExpiry | .criticalStateError .. =>
    [.regs, .gen, .staged, .latches, .heldWr, .tk, .log, .units, .spares, .chans, .slices, .links, .um, .pw, .rs, .cl,
      .tw, .sec, .fresh, .out, .hot]
  | .bootSourceFail .. | .dozeSample .. | .thermalConversion .. | .tamperTrip .. | .aonComparatorThermal ..
  | .fuseProgrammingComplete .. =>
    [.regs, .staged, .log, .pails, .banks, .repairDue, .units, .spares, .chans, .slices, .ports, .links, .um, .pw, .rs,
      .cl, .tw, .sec, .fresh, .out, .hot, .calDue]
  | .regWrite .. | .tlAlarmSet .. | .evClear .. | .registerWrite .. =>
    [.regs, .staged, .heldWr, .tk, .log, .pails, .banks, .repairDue, .units, .groups, .spares, .chans, .slices, .ports,
      .links, .um, .pw, .cl, .tw, .sec, .fresh, .out, .hot]
  | .bar0Access .. | .bar2Access .. =>
    [.regs, .staged, .latches, .heldWr, .tk, .log, .pails, .banks, .repairDue, .units, .groups, .spares, .chans,
      .slices, .ports, .links, .um, .pw, .cl, .tw, .sec, .fresh, .out, .hot]
  | .domainReleased .. =>
    [.regs, .gen, .staged, .latches, .heldWr, .tk, .log, .banks, .units, .spares, .chans, .slices, .ports, .links, .um,
      .pw, .rs, .cl, .tw, .sec, .fresh, .out, .hot, .calDue]
  | .bringupRowRelease .. =>
    [.regs, .staged, .tk, .log, .pails, .banks, .repairDue, .units, .spares, .chans, .slices, .ports, .links, .um, .pw,
      .rs, .cl, .tw, .sec, .flash, .fresh, .out, .hot, .calDue]
  | .resetSwitchesOpen =>
    [.regs, .gen, .staged, .latches, .heldWr, .tk, .calBad, .pails, .banks, .units, .groups, .spares, .chans, .slices,
      .ports, .links, .um, .rs, .cl, .tw, .sec, .image, .hot, .eg, .calDue]
  | .umPacketExecute .. =>
    [.regs, .staged, .latches, .heldWr, .tk, .log, .pails, .banks, .repairDue, .units, .groups, .spares, .chans,
      .slices, .ports, .links, .um, .pw, .cl, .tw, .sec, .flash, .fresh, .out, .hot, .calDue]
  | .wake .. =>
    [.regs, .gen, .staged, .latches, .heldWr, .tk, .log, .pails, .banks, .repairDue, .units, .spares, .chans, .slices,
      .ports, .links, .um, .pw, .rs, .cl, .tw, .sec, .image, .fresh, .out, .hot, .calDue]
  | .aonPowerOn =>
    [.aon, .aonLeft, .core, .coreQ, .regs, .gen, .staged, .latches, .heldWr, .tk, .log, .calBad, .pails, .banks,
      .repairDue, .units, .groups, .spares, .chans, .slices, .ports, .links, .um, .pw, .rs, .cl, .tw, .sec, .image,
      .hot, .eg, .calDue]
  | .brownout .. =>
    [.aon, .aonLeft, .core, .coreQ, .regs, .gen, .staged, .latches, .heldWr, .tk, .log, .calBad, .pails, .banks,
      .repairDue, .units, .groups, .spares, .chans, .slices, .ports, .links, .um, .pw, .rs, .cl, .tw, .sec, .image,
      .out, .hot, .eg, .calDue]

/-- Command `c` completes in state `s`: it answers a next state of which `Q` holds, and in which only its own parts have
changed. -/
def Completes (c : Instr) (s : State) (Q : State → Prop) : Prop :=
  ∃ t, exec c s = .next t ∧ Frame (touches c) s t ∧ Q t

/-- No register outside the RWG images but those listed may differ between two states. -/
def RegsKept (ks : List Nat) (s t : State) : Prop := ∀ k, k ∉ ks → t.rdW k = s.rdW k

/-- No register outside the RWG images but those listed and those of the event matrix and the log's queue may differ. -/
def RegsKeptEv (ks : List Nat) (s t : State) : Prop := ∀ k, k ∉ ks → evKey k = false → t.rdW k = s.rdW k

/-- Between two states source `i` occurred, if MGMT was on: it is raised, and its count is one more, saturating (R93, R340,
R454). -/
def Occurred (i : Nat) (s t : State) : Prop :=
  s.on 3 = true → t.raised i = true ∧
    t.rdW (Reg.EV_CNT i) = BitVec.ofNat 64 (min ((s.rdW (Reg.EV_CNT i)).toNat + 1) 0xFFFFFFFF)

/-- A device-wide reset with a cause code took state `u` to `t` (R35, R488, R490, R492): the device is Held with every domain
but AON clamped, ALERT_N released, Umger's work lost, the switches about to open and the source holding it, and the reset
is counted. -/
def ResetToHeld (code : Nat) (u t : State) : Prop :=
  t.mode = 1 ∧ t.rdW Reg.PW_ON = 1 ∧ t.rdW Reg.EV_ALERT = 0 ∧ t.um = {} ∧ t.rs.swOpen = some u.aon ∧
    (code, u.aon) ∈ t.rs.sources ∧
    t.rdW Reg.RS_COUNT = BitVec.ofNat 64 (min ((u.rdW Reg.RS_COUNT).toNat + 1) 0xFFFFFFFF)

/-- Counter `k` is one more, saturating (R93). -/
def Counted (k : Nat) (s t : State) : Prop := t.rdW k = BitVec.ofNat 64 (min ((s.rdW k).toNat + 1) 0xFFFFFFFF)

/-- Between two states source `i` occurred, whose bit `b` stands in register `k` (R134, R265, R317): the bit is set, and its
count is one more if MGMT was on. -/
def OccurredBit (i k b : Nat) (s t : State) : Prop :=
  (t.rdW k).toNat.testBit b = true ∧ (s.on 3 = true → Counted (Reg.EV_CNT i) s t)

/-- The status register of a link's port (R254, R409). -/
def linkStat : LinkEnd → Nat
  | .al n => Reg.AL_STAT n
  | .cl x => Reg.CL_PORT_STAT x

/-- The register that holds a link's event bits (R265, R439). -/
def linkEvents : LinkEnd → Nat
  | .al n => Reg.AL_EVENT n
  | .cl _ => Reg.TW_EVENT

/-- The register that counts a link's training failures (R254, R409). -/
def linkFails : LinkEnd → Nat
  | .al n => Reg.AL_TRAINFAIL n
  | .cl x => Reg.CL_PORT_TRAINFAIL x

/-- Between two states a link's event of class `v` occurred: 0 AL_LINK or CL_LINK, 1 AL_ERR or CL_ERR, 2 AL_TIMING or
CL_TIMING (R265, R439). -/
def LinkOccurred (e : LinkEnd) (v : Nat) (s t : State) : Prop :=
  match e with
  | .al n => OccurredBit (3 * n + v) (Reg.AL_EVENT n) v s t
  | .cl _ => OccurredBit (592 + v) Reg.TW_EVENT (8 + v) s t

/-- Every A-link port but `n` holds what it held. -/
def OtherPortsKept (n : Nat) (s t : State) : Prop := ∀ m, m ≠ n → t.port m = s.port m

/-- Every Churn unit but `u` holds what it held. -/
def OtherUnitsKept (u : Nat) (s t : State) : Prop := ∀ v, v ≠ u → t.unit v = s.unit v

/-- Every Cloton port but `x` holds what it held. -/
def OtherClKept (x : Nat) (s t : State) : Prop := ∀ y, y ≠ x → t.clp y = s.clp y

/-- Every channel but `c` holds what it held. -/
def OtherChansKept (c : Nat) (s t : State) : Prop := ∀ d, d ≠ c → t.chan d = s.chan d

/-- The state in which a retire with a code leaves channel `c` where no fetched image waits and no fetch has failed (R200,
R222). -/
def chainState (s : State) (c code : Nat) : Nat :=
  if 1 ≤ code ∧ code ≤ 0xC then 8
  else if s.ctlB c F.DMA_CTRL_STOP_REQ = true ∨ s.ctlB c F.DMA_CTRL_CHAIN = false then 0 else 5

/-- The active descriptor of channel `c` retired with a code between two states (R200, R205, R219, R220): it is counted, its
code, its flags and its lateness are shown, its reserved room is back, its record waits if it is to have one, and the
channel is in the state that follows; Missed descriptors and errors set the channel's event bit (R229). -/
def Retired (c code : Nat) (s t : State) : Prop :=
  t.rdW (Reg.DMA_RETIRED c) = BitVec.ofNat 64 (((s.rdW (Reg.DMA_RETIRED c)).toNat + 1) % 2 ^ 32) ∧
    t.fld (Reg.DMA_STAT c) F.DMA_STAT_CODE = code ∧ t.chState c = chainState s c code ∧
    t.fld (Reg.DMA_STAT c) F.DMA_STAT_LATE = (if (s.chan c).late ≠ 0 then 1 else 0) ∧
    t.fld (Reg.DMA_STAT c) F.DMA_STAT_HELD = (if (s.chan c).held then 1 else 0) ∧
    t.fld (Reg.DMA_STAT c) F.DMA_STAT_POISON = (if (s.chan c).poison then 1 else 0) ∧
    t.fld (Reg.DMA_STAT c) F.DMA_STAT_EMPTY = (if (s.chan c).empty then 1 else 0) ∧
    t.rdW (Reg.DMA_LATENESS c) = BitVec.ofNat 64 (min (s.chan c).late 0xFFFFFFFF) ∧
    (t.chan c).recs.length = ((s.chan c).recs.filter (fun r => !r.own)).length + (if s.wantsRec c code then 1 else 0) ∧
    (∀ e ∈ (t.pail (s.chPail c)).resv, e.1 ≠ c) ∧
    ((0x20 ≤ code ∧ code ≤ 0x26) ∨ (1 ≤ code ∧ code ≤ 0xC) →
      (t.rdW (Reg.DMA_EVGRP (c / 128) (c % 128 / 32))).toNat.testBit (c % 32) = true)

/-- A reset of link `m` with its code in LAST_RESET took state `s` to `t` (R225, R282, R306 to R308, R344, R370): the link's
function is as after reset, with no message and no pending bit; its slices' busy channels ended with LINK_RESET and their
mailboxes are empty; no retried read is left for it; the reset is an occurrence of HL_RESET. -/
def LinkReset (m code : Nat) (s t : State) : Prop :=
  (t.link m).pend = [] ∧ (t.link m).msgs = [] ∧ (t.link m).msix = [] ∧ (t.link m).ats = [] ∧ (t.link m).ide = [] ∧
    (t.link m).going = false ∧ (t.link m).bme = false ∧ (t.link m).mse = false ∧ (t.link m).pasidEn = false ∧
    t.fld (Reg.HL_LINK_EVENT m) F.HL_LINK_EVENT_LAST_RESET = code ∧
    OccurredBit (288 + 4 * m + 2) (Reg.HL_LINK_EVENT m) 2 s t ∧
    (∀ c ∈ s.linkChans m, t.chRaw c = 8 ∧ t.fld (Reg.DMA_STAT c) F.DMA_STAT_CODE = 9) ∧
    (∀ sl ∈ s.linkSlices m, t.mb sl F.SL_MBOX_STAT_IN_FULL = 0 ∧ t.mb sl F.SL_MBOX_STAT_OUT_FULL = 0 ∧ t.tdi sl = 0) ∧
    (∀ n ∈ List.range 96, ∀ e ∈ (t.port n).retried, e.m.val ≠ m) ∧ t.gen = s.gen ∧ t.mode = s.mode

/-- A request of link `m` was rejected as an Unsupported Request between two states (R320, R321, R346): the error is recorded
and HL_ERR's bit set, a read is completed with UR, and nothing that a request reaches has changed. -/
def UrRejected (m : HLink) (read : Bool) (s t : State) : Prop :=
  ((t.link m).cfgW 0x104).testBit 20 = true ∧ (t.rdW (Reg.HL_LINK_EVENT m)).toNat.testBit 1 = true ∧
    (read = true → .cpl m 1 [] ∈ t.out) ∧ RegsKeptEv [] s t ∧ t.gen = s.gen ∧ t.staged = s.staged ∧ t.um = s.um ∧
    t.slices = s.slices ∧ t.groups = s.groups ∧ t.chans = s.chans

/-- The bytes of the register at offset `k`, or 0 (R12). -/
def regBytes (k : Nat) : Nat :=
  match findReg k with
  | some (r, _) => r.bytes
  | none => 0
/-- The RW bits of the register at offset `k` (R14). -/
def rwMask (k : Nat) : Word :=
  match findReg k with
  | some (r, _) => BitVec.ofNat 64 r.rw
  | none => 0
/-- The W1C bits of the register at offset `k` (R14). -/
def w1cMask (k : Nat) : Word :=
  match findReg k with
  | some (r, _) => BitVec.ofNat 64 r.w1c
  | none => 0
/-- The RC bits of the register at offset `k` (R14). -/
def rcMask (k : Nat) : Word :=
  match findReg k with
  | some (r, _) => BitVec.ofNat 64 r.rc
  | none => 0
/-- The register at offset `k` has 32 bits, and of the bits that a write reaches only RWG ones (R14). -/
def plainRwg (k : Nat) : Bool :=
  match findReg k with
  | some (r, _) => r.bytes == 4 && r.rwg != 0 && r.rw == 0 && r.w1c == 0 && r.w1s == 0 && r.wo == 0
  | none => false

/-- The command that an opcode names (R401), with the errors that its memory accesses meet. -/
def opCommand (op : Nat) (h : UmHdr) (p : List Byte) (v : Bool) (hits : List EccHit) : Option Instr :=
  match op with
  | 0x0100 => some (.identify h p)
  | 0x0101 => some (.ping h p)
  | 0x0102 => some (.rtRead h p)
  | 0x0103 => some (.mgrLinkSet h p)
  | 0x0200 => some (.genOpen h p)
  | 0x0201 => some (.genAbort h p)
  | 0x0202 => some (.regWrite h p hits)
  | 0x0203 => some (.regRead h p hits)
  | 0x0204 => some (.commitAt h p)
  | 0x0205 => some (.genCancel h p)
  | 0x0206 => some (.genStatus h p)
  | 0x0207 => some (.genDump h p)
  | 0x0300 => some (.tlSet h p)
  | 0x0301 => some (.tlGet h p)
  | 0x0302 => some (.tlAlarmSet h p)
  | 0x0400 => some (.alRetrain h p)
  | 0x0401 => some (.alStatus h p)
  | 0x0402 => some (.alSpare h p)
  | 0x0403 => some (.alCal h p)
  | 0x0404 => some (.alLedger h p)
  | 0x0500 => some (.wbWrite h p hits)
  | 0x0501 => some (.wbRead h p hits)
  | 0x0502 => some (.wbSync h p)
  | 0x0503 => some (.wbRestore h p)
  | 0x0504 => some (.spareGo h p)
  | 0x0505 => some (.spareReinstate h p)
  | 0x0506 => some (.chCounters h p)
  | 0x0600 => some (.sliceBind h p)
  | 0x0601 => some (.sliceUnbind h p)
  | 0x0602 => some (.sliceFence h p)
  | 0x0603 => some (.sliceKill h p)
  | 0x0604 => some (.mboxGet h p)
  | 0x0605 => some (.mboxPut h p)
  | 0x0606 => some (.sliceStatus h p)
  | 0x0700 => some (.dmaWheelSet h p)
  | 0x0701 => some (.dmaOwnSet h p)
  | 0x0702 => some (.dmaStgqSet h p)
  | 0x0703 => some (.dmaChanRead h p)
  | 0x0704 => some (.dmaChanCtrl h p)
  | 0x0800 => some (.modeSet h p)
  | 0x0801 => some (.modeGet h p)
  | 0x0802 => some (.pwVote h p)
  | 0x0803 => some (.pwStatus h p)
  | 0x0804 => some (.dozeCfg h p)
  | 0x0900 => some (.twRoleSet h p)
  | 0x0901 => some (.twSwitchover h p)
  | 0x0902 => some (.twStatus h p)
  | 0x0903 => some (.herdAddrSet h p)
  | 0x0904 => some (.herdStatus h p)
  | 0x0905 => some (.clCal h p)
  | 0x0A00 => some (.secStatus h p)
  | 0x0A01 => some (.fwLoad h p)
  | 0x0A02 => some (.fwActivate h p)
  | 0x0A03 => some (.lcAdvance h p v)
  | 0x0A04 => some (.debugUnlock h p)
  | 0x0A05 => some (.secZeroize h p)
  | 0x0A06 => some (.tamperCfg h p)
  | 0x0B00 => some (.logRead h p hits)
  | 0x0B01 => some (.logMark h p)
  | 0x0B02 => some (.workReport h p)
  | 0x0B03 => some (.evRead h p)
  | 0x0B04 => some (.evClear h p)
  | 0x0B05 => some (.rsCauseGet h p)
  | 0x0C00 => some (.resetDomain h p)
  | 0x0C01 => some (.umReset h p)
  | _ => none

end Sys2Proof.Machine
end

