-- ==== Sys2Proof/Certificates/Slice0/Obligations.lean ====
section
/-! DEFINITION. The statements for the provers: one definition for each, named for what it states. -/

open Sys2Proof Sys2Proof.Machine

/-! ## The machine as a whole -/

/-- The step takes the command at the front of the queue and performs it with the queue's rest. -/
def Obligations.StepRunsTheFrontCommand : Prop :=
  ∀ (c : Instr) (rest : List Instr) (s : State), s.pending = c :: rest → step s = exec c { s with pending := rest }

/-- On an empty queue one Tc passes; that an idle step is one Tc is the model's choice (log entry 1). The state's count of Tc
is one more, and the registers of the link ports keep their values. -/
def Obligations.AnEmptyQueueLetsOneTcPass : Prop :=
  ∀ s : State, s.pending = [] → ∃ t, step s = .next t ∧ t.ticks = s.ticks + 1 ∧ t.pending = [] ∧ t.gen = s.gen ∧
    t.pails = s.pails ∧ t.ports = s.ports ∧ t.chans = s.chans ∧ t.flash = s.flash

/-- The table gives no row any bits, so no word spells a command. -/
def Obligations.NoWordSpellsACommand : Prop :=
  ∀ (nbits w : Nat) (s : State), decodeTableWord nbits w = none ∧ s.withFetchWord nbits w = s

/-- After reset the device is Held with AON alone on (R35, R441), nothing waits, and the invariants hold. -/
def Obligations.ResetMeetsTheInvariants : Prop :=
  State.reset.pending = [] ∧ State.reset.mode = 1 ∧ (∀ d, State.reset.on d = true ↔ d = 0) ∧ State.reset.canon = true ∧
    State.reset.queueOk ∧ State.reset.clocksOk

/-- Every step keeps the register images in their canonical form and the trouble log's queue within its 256 places (R552). -/
def Obligations.EveryStepKeepsTheImagesAndTheQueue : Prop :=
  ∀ s t : State, s.canon = true ∧ s.queueOk → step s = .next t → t.canon = true ∧ t.queueOk

/-- Every step keeps the clocks within their rates: the core clock is never faster than the timeline's and the always-on
oscillator's cycle is 75 Tc or longer (R54, R491). -/
def Obligations.EveryStepKeepsTheClocks : Prop :=
  ∀ s t : State, s.clocksOk → step s = .next t → t.clocksOk

/-- A command changes the parts of the state that it names and nothing else; the queue and the count of Tc are never among
them. -/
def Obligations.CommandsChangeOnlyTheirParts : Prop :=
  ∀ (c : Instr) (s t : State), exec c s = .next t → Frame (touches c) s t ∧ t.pending = s.pending ∧ t.ticks = s.ticks

/-- No command is refused and none faults: in every state every command answers a next state. -/
def Obligations.EveryCommandAnswersANextState : Prop :=
  ∀ (c : Instr) (s : State), ∃ t, exec c s = .next t

/-- TL counts in every Tc while TK is on: the offset, the frame and the hyperframe advance as R57 says, and the offset is
never invalid. -/
def Obligations.TheTimelineAdvancesByOne : Prop :=
  ∀ s : State, s.pending = [] → s.on 2 = true → s.tk.count < piTl →
    ∃ t, step s = .next t ∧ t.tk.count < piTl ∧ wbits (tlOf t.now) 24 0 < 19660800 ∧
      wbits (tlOf t.now) 24 0 = (if wbits (tlOf s.now) 24 0 = 19660799 then 0 else wbits (tlOf s.now) 24 0 + 1) ∧
      wbits (tlOf t.now) 34 25 =
        (if wbits (tlOf s.now) 24 0 = 19660799 then (wbits (tlOf s.now) 34 25 + 1) % 1024 else wbits (tlOf s.now) 34 25) ∧
      wbits (tlOf t.now) 63 35 =
        (if wbits (tlOf s.now) 24 0 = 19660799 ∧ wbits (tlOf s.now) 34 25 = 1023 then
          (wbits (tlOf s.now) 63 35 + 1) % 2 ^ 29 else wbits (tlOf s.now) 63 35)

/-- The counters of the arithmetic add 1 and stay at 0xFFFF_FFFF (R93); no other register changes. -/
def Obligations.CountersAddOneAndSaturate : Prop :=
  ∀ (s : State) (k : Nat), (s.rdW k).toNat ≤ 0xFFFFFFFF →
    ((s.cnt k).rdW k).toNat = (if (s.rdW k).toNat = 0xFFFFFFFF then 0xFFFFFFFF else (s.rdW k).toNat + 1) ∧
    ((s.cnt k).rdW k).toNat ≤ 0xFFFFFFFF ∧ (∀ j, j ≠ k → (s.cnt k).rdW j = s.rdW j) ∧ Frame [.regs] s (s.cnt k)

/-! ## The Churn (04, 05) -/

/-- Passes of the Churn (R79, R81, R127, R129, R133 to R136, R138 to R140, R153, R180): a context whose start has come begins a
pass, which keeps the generation and the weight half of its first cycle, and a downlink pass that would be late beyond
TL_LATE_LIMIT is not begun; 344 or 352 core cycles later it leaves the unit, its absent and rejected inputs are counted, and
a pass without an input commits a marker; a parity error strikes every pass in flight, and one whose commit cycle has passed
stays uncommitted. -/
def Obligations.ChurnPassesStartAndCommit : Prop :=
  (∀ (s : State) (u : ChUnit) (k : Fin 16) (g at_ : Nat), s.passDue u 0 k = some (g, at_) →
    Completes (.churnUplinkPassStart u k) s fun t => (∃ x : Pass, (t.unit u).passes = (s.unit u).passes ++ [x] ∧ x.arr = 0 ∧
        x.ctx = k ∧ x.time = at_ ∧ x.start = s.startCore ∧ x.group = g ∧ x.gen = s.gen ∧ x.half = (s.unit u).active ∧
        x.struck = false ∧ x.ins.length = (ctxIns s.gen u 0 k).2) ∧
      SMap.get 0 (t.unit u).last k = at_ + 1 ∧ OtherUnitsKept u s t) ∧
  (∀ (s : State) (u : ChUnit) (k : Fin 16) (g at_ : Nat), s.passDue u 1 k = some (g, at_) →
    tlDiff (tlAdd s.now 540) at_ ≤ (s.fld Reg.TL_LATE_LIMIT F.TL_LATE_LIMIT_LIMIT : Int) →
    Completes (.churnDownlinkPassStart u k) s fun t => (∃ x : Pass, (t.unit u).passes = (s.unit u).passes ++ [x] ∧ x.arr = 1 ∧
        x.ctx = k ∧ x.time = at_ ∧ x.start = s.startCore ∧ x.group = g ∧ x.gen = s.gen ∧ x.half = (s.unit u).active ∧
        x.struck = false ∧ x.ins.length = (ctxIns s.gen u 1 k).2) ∧
      SMap.get 0 (t.unit u).last (16 + k) = at_ + 1 ∧ OtherUnitsKept u s t) ∧
  (∀ (s : State) (u : ChUnit) (k : Fin 16) (g at_ : Nat), s.passDue u 1 k = some (g, at_) →
    (s.fld Reg.TL_LATE_LIMIT F.TL_LATE_LIMIT_LIMIT : Int) < tlDiff (tlAdd s.now 540) at_ →
    Completes (.churnDownlinkPassStart u k) s fun t => (t.unit u).passes = (s.unit u).passes ∧
      SMap.get 0 (t.unit u).last (16 + k) = at_ + 1 ∧ t.regs = s.regs ∧ t.pails = s.pails) ∧
  (∀ (s : State) (u : ChUnit) (arr : Fin 2) (x : Pass) (r : PassOut),
    (s.unit u).passes.find? (fun x => x.arr == arr.val) = some x →
    x.start + (if arr.val = 0 then 344 else 352) ≤ s.coreNow →
    r = blockOp u x (x.ins.map (fun i => i.any (fun q => !q.2.bad.isEmpty))) x.halfBad →
    Completes (.churnPassCommit u arr []) s fun t => (t.unit u).passes = (s.unit u).passes.erase x ∧
      (∀ m ∈ r.absent, Counted (Reg.CH_ABSENT u m) s t) ∧ (∀ m ∈ r.fmtErr, Counted (Reg.CH_FMTERR u m) s t) ∧
      (r.fmtErr ≠ [] → (t.rdW (Reg.CH_EVENT u)).toNat.testBit 0 = true) ∧
      (r.noW = true → r.outs ≠ [] → (t.rdW (Reg.CH_EVENT u)).toNat.testBit 2 = true) ∧
      (r.uecc = true → x.group < 12 → Counted (Reg.CH_WB_UECC x.group) s t) ∧ OtherUnitsKept u s t) ∧
  (∀ (s : State) (u : ChUnit) (arr : Fin 2) (x : Pass) (o : OutBlk) (p : Nat),
    (s.unit u).passes.find? (fun x => x.arr == arr.val) = some x →
    x.start + (if arr.val = 0 then 344 else 352) ≤ s.coreNow → x.ins.all (fun i => i.isNone) = true →
    (ctxIns x.gen u arr x.ctx).2 ≠ 0 →
    (blockOp u x [] x.halfBad).outs = [o] → s.entryPail x.gen u x.group o.entry = some p → p < 16384 →
    s.headerTest p o.h0 o.h1 (s.pailFree p) = none → s.commitTest p o.h0 = none → 0 < s.pailReaders p →
    Completes (.churnPassCommit u arr []) s fun t => o.h0 = tlOf x.time ∧ o.bytes = [] ∧ hValid o.h1 = false ∧
      hFlags o.h1 % 4 = 2 ∧ (∃ b ∈ (t.pail p).blocks, b.h0 = o.h0 ∧ b.h1 = o.h1 ∧ b.payload = [] ∧ b.tc = s.ticks) ∧
      (t.pail p).lastTl = some (tlCount o.h0) ∧ (∀ q, q ≠ p → (t.pail q).blocks = (s.pail q).blocks)) ∧
  (∀ (s : State) (u : ChUnit), s.on (domC u) = true →
    Completes (.chParityError u) s fun t => t.fld (Reg.CH_FAULT u) F.CH_FAULT_CODE = 2 ∧
      OccurredBit (416 + 4 * u + 3) (Reg.CH_EVENT u) 3 s t ∧
      (t.unit u).passes = ((s.unit u).passes.filter (fun x => decide (s.coreNow ≤ x.start + passCycles x.arr))).map
        (fun x => { x with struck := true }) ∧
      (∀ x, (s.unit u).passes = [x] → x.arr < 2 → x.ctx < 16 →
        t.fld (Reg.CH_FAULT u) F.CH_FAULT_ARRAY = x.arr ∧ t.fld (Reg.CH_FAULT u) F.CH_FAULT_CTX = x.ctx) ∧
      ((s.unit u).passes = [] → t.fld (Reg.CH_FAULT u) F.CH_FAULT_ARRAY = s.fld (Reg.CH_FAULT u) F.CH_FAULT_ARRAY ∧
        t.fld (Reg.CH_FAULT u) F.CH_FAULT_CTX = s.fld (Reg.CH_FAULT u) F.CH_FAULT_CTX) ∧
      RegsKeptEv [Reg.CH_FAULT u, Reg.CH_EVENT u, Reg.CH_SPARE_CTRL (u / 4), Reg.CH_SPARE_AT (u / 4)] s t) ∧
  (∀ (s : State) (h : UmHdr) (p : List Byte) (u : ChUnit) (first n : Nat), s.umCheck h 0x0506 p.length = none →
    leAt p 0 1 = u.val → leAt p 1 1 = first → leAt p 2 1 = n → 1 ≤ n → n ≤ 204 → first + n ≤ 256 →
    Completes (.chCounters h p) s fun t => t.um = (s.reply h 0x0506 stOK
        (((List.range n).flatMap (fun i => chCounters u (first + i))).flatMap (fun k => leBytes 4 (s.busWord k)))).um ∧
      ((leAt p 3 1).testBit 0 = false → t.regs = s.regs) ∧
      ((leAt p 3 1).testBit 0 = true → s.on (domC u) = true → ∀ m, first ≤ m → m < first + n → ∀ k ∈ chCounters u m, t.rdW k = 0) ∧
      RegsKept ((List.range n).flatMap (fun i => chCounters u (first + i))) s t)

/-- Accesses to a weight window (R143, R144, R146, R150, R152 to R154, R160): a write through the manager link to a group
that is free reaches the shadow half, where reserved bits stay 0, and sets DIRTY; to a PENDING group it is dropped and
counted; during a hold it waits; SYNC and RESTORE begin and last their core cycles. -/
def Obligations.WeightWindowsAcceptHoldAndDrop : Prop :=
  (∀ (s : State) (m : HLink) (g : Group) (i : Nat) (d : List Byte) (hits : List EccHit), m.val = s.mgr → s.on (domC (s.groupUnit g)) = true →
    s.isTarget = false → s.wbPending g = false → s.windowBusy g = false → (s.grp g).held = [] → i < 131072 → d.length = 8 →
    Completes (.weightWindowWrite m g (8 * i) (d.map some) hits) s fun t => t.fld (Reg.CH_WB_STATUS g) F.CH_WB_STATUS_DIRTY = 1 ∧
      SMap.get 0 (t.unit (s.groupUnit g)).shadow i = BitVec.ofNat 64 (leNat d) &&& weightMask i ∧
      i ∉ (t.unit (s.groupUnit g)).shaBad ∧
      (∀ j, j ≠ i → SMap.get 0 (t.unit (s.groupUnit g)).shadow j = SMap.get 0 (s.unit (s.groupUnit g)).shadow j) ∧
      (t.unit (s.groupUnit g)).active = (s.unit (s.groupUnit g)).active ∧ RegsKept [Reg.CH_WB_STATUS g] s t) ∧
  (∀ (s : State) (m : HLink) (g : Group) (off : Nat) (data : List (Option Byte)) (hits : List EccHit), off < 0x100000 →
    data ≠ [] → data.length ≤ 512 → off % 4096 + data.length ≤ 4096 → m.val = s.mgr → s.on (domC (s.groupUnit g)) = true → s.isTarget = false → s.wbPending g = true →
    Completes (.weightWindowWrite m g off data hits) s fun t => Counted (Reg.CH_WB_DROP g) s t ∧ t.units = s.units ∧
      t.groups = s.groups ∧ RegsKept [Reg.CH_WB_DROP g] s t) ∧
  (∀ (s : State) (m : HLink) (g : Group) (off : Nat) (data : List (Option Byte)) (hits : List EccHit), off < 0x100000 →
    data ≠ [] → data.length ≤ 512 → off % 4096 + data.length ≤ 4096 → m.val = s.mgr → s.on (domC (s.groupUnit g)) = true → s.isTarget = false → s.wbPending g = false → s.windowBusy g = true →
    Completes (.weightWindowWrite m g off data hits) s fun t =>
      (t.grp g).held = (s.grp g).held ++ [.write (some m) off data hits] ∧ t.regs = s.regs ∧ t.units = s.units) ∧
  (∀ (s : State) (m : HLink) (g : Group) (off : Nat) (data : List (Option Byte)) (hits : List EccHit),
    512 < data.length ∨ 4096 < off % 4096 + data.length →
    Completes (.weightWindowWrite m g off data hits) s fun t => UrRejected m false s t) ∧
  (∀ (s : State) (m : HLink) (g : Group) (off : Nat) (data : List (Option Byte)) (hits : List EccHit), data.length ≤ 512 →
    off % 4096 + data.length ≤ 4096 → m.val ≠ s.mgr → Completes (.weightWindowWrite m g off data hits) s fun t => t = s) ∧
  (∀ (s : State) (g : Group), s.wbPending g = false → s.windowBusy g = false → (s.grp g).held = [] →
    Completes (.wbCtrlSync g) s fun t => (t.grp g).syncEnd = some (s.coreNow + 16384) ∧
      t.fld (Reg.CH_WB_STATUS g) F.CH_WB_STATUS_SYNC_BUSY = 1 ∧ t.units = s.units ∧ RegsKept [Reg.CH_WB_STATUS g] s t) ∧
  (∀ (s : State) (g : Group), s.wbPending g = true →
    Completes (.wbCtrlSync g) s fun t => Counted (Reg.CH_WB_DROP g) s t ∧ t.groups = s.groups ∧ t.units = s.units) ∧
  (∀ (s : State) (g : Group), s.wbPending g = false → s.windowBusy g = false → (s.grp g).held = [] →
    Completes (.wbCtrlRestore g) s fun t => (t.grp g).restEnd = some (s.coreNow + 65536) ∧ t.units = s.units ∧ t.regs = s.regs)

/-- The end of what holds a weight window (R153, R154, R158 to R160): SYNC leaves the active half in the shadow half and
clears DIRTY; a RESTORE whose digest matches exchanges the halves and ends WEIGHTS_ABSENT, one whose digest does not sets
RESTORE_FAIL; the lock and the zeroing end, the latter in WEIGHTS_ABSENT where an exchange came before; then the accesses that
were held complete. -/
def Obligations.WeightHoldsEndAndHalvesExchange : Prop :=
  (∀ (s : State) (g : Group) (c : Nat), (s.grp g).syncEnd = some c → c ≤ s.coreNow →
    Completes (.wbSyncComplete g) s fun t => ∃ v : State, t = v.releaseHeld g ∧ (v.grp g).syncEnd = none ∧
      (v.unit (s.groupUnit g)).shadow = (s.unit (s.groupUnit g)).active ∧
      (v.unit (s.groupUnit g)).shaBad = (s.unit (s.groupUnit g)).actBad ∧
      (v.unit (s.groupUnit g)).active = (s.unit (s.groupUnit g)).active ∧
      v.fld (Reg.CH_WB_STATUS g) F.CH_WB_STATUS_DIRTY = 0 ∧ v.fld (Reg.CH_WB_STATUS g) F.CH_WB_STATUS_SYNC_BUSY = 0 ∧
      RegsKept [Reg.CH_WB_STATUS g] s v) ∧
  (∀ (s : State) (g : Group) (c : Nat), (s.grp g).restEnd = some c → c ≤ s.coreNow → (s.windowUnits g).Nodup →
    Completes (.wbRestoreComplete g) s fun t =>
      (sha384 (halfBytes (s.unit (s.groupUnit g)).shadow) ≠ s.rdWide (Reg.CH_WB_DIGEST g) → ∃ v : State,
        t = v.releaseHeld g ∧ (v.grp g).restEnd = none ∧ v.fld (Reg.CH_WB_STATUS g) F.CH_WB_STATUS_RESTORE_FAIL = 1 ∧
        v.fld (Reg.CH_WB_STATUS g) F.CH_WB_STATUS_ABSENT = s.fld (Reg.CH_WB_STATUS g) F.CH_WB_STATUS_ABSENT ∧ v.units = s.units ∧
        (∀ h, (s.grp g).restHdr = some h → v.um = (s.final h 0x0503 stWbRestoreFail noDetail []).um)) ∧
      (sha384 (halfBytes (s.unit (s.groupUnit g)).shadow) = s.rdWide (Reg.CH_WB_DIGEST g) →
        ((s.unit (s.groupUnit g)).passes ≠ [] → (t.grp g).restEnd = none ∧ (t.grp g).restOk = true ∧ t.units = s.units ∧
          t.regs = s.regs) ∧
        ((s.unit (s.groupUnit g)).passes = [] → ∃ v : State, t = v.releaseHeld g ∧ (v.grp g).restEnd = none ∧
          (v.grp g).restOk = false ∧ (∀ u ∈ s.windowUnits g, (v.unit u).active = (s.unit u).shadow) ∧
          v.fld (Reg.CH_WB_STATUS g) F.CH_WB_STATUS_ABSENT = 0 ∧ v.fld (Reg.CH_WB_STATUS g) F.CH_WB_STATUS_RESTORE_FAIL = 0))) ∧
  (∀ (s : State) (g : Group), (s.grp g).restOk = true → (s.unit (s.groupUnit g)).passes = [] → (s.windowUnits g).Nodup →
    Completes (.wbRestoreExchange g) s fun t => ∃ v : State, t = v.releaseHeld g ∧ (v.grp g).restOk = false ∧
      (v.grp g).exchanged = true ∧
      (∀ u ∈ s.windowUnits g, (v.unit u).active = (s.unit u).shadow ∧ (v.unit u).shadow = (s.unit u).active) ∧
      v.fld (Reg.CH_WB_STATUS g) F.CH_WB_STATUS_ABSENT = 0 ∧ v.fld (Reg.CH_WB_STATUS g) F.CH_WB_STATUS_RESTORE_FAIL = 0 ∧
      v.fld (Reg.CH_WB_STATUS g) F.CH_WB_STATUS_DIRTY = 0 ∧
      (∀ h, (s.grp g).restHdr = some h → v.um = (s.final h 0x0503 stOK noDetail []).um)) ∧
  (∀ (s : State) (g : Group) (c : Nat), (s.grp g).lockCore = some c →
    (s.unit (s.groupUnit g)).passes.all (fun x => decide (c ≤ x.start)) = true →
    Completes (.weightLockEnd g) s fun t => ∃ v : State, t = v.releaseHeld g ∧ (v.grp g).lockCore = none ∧
      v.fld (Reg.CH_WB_STATUS g) F.CH_WB_STATUS_LOCK = 0 ∧ v.units = s.units ∧ RegsKept [Reg.CH_WB_STATUS g] s v) ∧
  (∀ (s : State) (u : ChUnit) (g : Group) (c : Nat), (s.unit u).zeroEnd = some c → c ≤ s.coreNow → s.unitGroup u = g.val →
    Completes (.weightZeroingComplete u) s fun t => ∃ v : State, t = v.releaseHeld g ∧ (v.unit u).zeroEnd = none ∧
      v.fld (Reg.CH_WB_STATUS g) F.CH_WB_STATUS_ZEROING = 0 ∧
      ((s.grp g).exchanged = true → v.fld (Reg.CH_WB_STATUS g) F.CH_WB_STATUS_ABSENT = 1 ∧
        OccurredBit (416 + 4 * u + 2) (Reg.CH_EVENT u) 2 s v) ∧
      ((s.grp g).exchanged = false →
        v.fld (Reg.CH_WB_STATUS g) F.CH_WB_STATUS_ABSENT = s.fld (Reg.CH_WB_STATUS g) F.CH_WB_STATUS_ABSENT) ∧
      RegsKeptEv [Reg.CH_WB_STATUS g, Reg.CH_EVENT u] s v) ∧
  (∀ (s : State) (u : ChUnit) (c : Nat), (s.unit u).zeroEnd = some c → c ≤ s.coreNow → 12 ≤ s.unitGroup u →
    Completes (.weightZeroingComplete u) s fun t => t.unit u = { s.unit u with zeroEnd := none } ∧ t.regs = s.regs)

/-- Umger's commands of the weight store (R143, R150, R152, R154, R160, R391, R401): WB_WRITE and WB_READ act on the shadow
half as the window does, WB_SYNC and WB_RESTORE start what the register bits start, the latter answering ACCEPTED. -/
def Obligations.WeightCommandsActOnTheShadowHalf : Prop :=
  (∀ (s : State) (h : UmHdr) (p d : List Byte) (g : Group) (i : Nat) (hits : List EccHit), s.umCheck h 0x0500 p.length = none →
    leAt p 0 1 = g.val → leAt p 4 4 = 8 * i → p.drop 8 = d → d.length = 8 → i < 131072 → s.on (domC (s.groupUnit g)) = true →
    s.wbPending g = false → s.windowBusy g = false → (s.grp g).held = [] →
    Completes (.wbWrite h p hits) s fun t => t.um = (s.reply h 0x0500 stOK []).um ∧
      t.fld (Reg.CH_WB_STATUS g) F.CH_WB_STATUS_DIRTY = 1 ∧
      SMap.get 0 (t.unit (s.groupUnit g)).shadow i = BitVec.ofNat 64 (leNat d) &&& weightMask i ∧
      RegsKept [Reg.CH_WB_STATUS g] s t) ∧
  (∀ (s : State) (h : UmHdr) (p : List Byte) (g : Group) (off n : Nat) (hits : List EccHit), s.umCheck h 0x0501 p.length = none →
    leAt p 0 1 = g.val → leAt p 4 4 = off → leAt p 8 2 = n → 1 ≤ n → n ≤ 4096 → off + n ≤ 0x100000 →
    s.on (domC (s.groupUnit g)) = true → s.windowBusy g = false → (s.grp g).held = [] → (s.shadowRead g off n hits).2.2 = false →
    Completes (.wbRead h p hits) s fun t => t.um = (s.reply h 0x0501 stOK (s.shadowRead g off n hits).2.1).um ∧
      RegsKept [Reg.CH_WB_CECC g] s t ∧ t.units = s.units) ∧
  (∀ (s : State) (h : UmHdr) (p : List Byte) (g : Group), s.umCheck h 0x0502 p.length = none → leAt p 0 1 = g.val →
    s.wbPending g = false → s.windowBusy g = false → (s.grp g).held = [] →
    Completes (.wbSync h p) s fun t => t.um = (s.reply h 0x0502 stOK []).um ∧ (t.grp g).syncEnd = some (s.coreNow + 16384) ∧
      t.fld (Reg.CH_WB_STATUS g) F.CH_WB_STATUS_SYNC_BUSY = 1) ∧
  (∀ (s : State) (h : UmHdr) (p : List Byte) (g : Group), s.umCheck h 0x0503 p.length = none → leAt p 0 1 = g.val →
    s.wbPending g = false → s.windowBusy g = false → (s.grp g).held = [] →
    Completes (.wbRestore h p) s fun t => t.um = (s.accept h 0x0503 []).um ∧ (t.grp g).restEnd = some (s.coreNow + 65536) ∧
      (t.grp g).restHdr = some h)

/-- Spare units (R163 to R167): a manual takeover is decided, or refused with its code and nothing else; once the spare holds
what the failing unit holds, the group moves to it at the frame boundary, or a frame later where it does not; 448 core cycles
on the retired unit's counters are added to the spare's; a self-test makes the retired unit the spare again, or leaves it. -/
def Obligations.SparesTakeOverAndAreReinstated : Prop :=
  (∀ (s : State) (q : Quad) (v : BitVec 32), v.toNat.testBit 31 = true → wbits (s.rdW (Reg.CH_SPARE_AT q)) 24 0 = 0 →
    tlValid (s.rdW (Reg.CH_SPARE_AT q)) = true → 65536 ≤ tlDiff (tlCount (s.rdW (Reg.CH_SPARE_AT q))) s.now →
    s.fld (Reg.CH_SPARE_CTRL q) F.CH_SPARE_CTRL_STATE = 0 → bitsOf v.toNat 17 16 ≠ 3 →
    Completes (.spareCtrlGo q v) s fun t => t.fld (Reg.CH_SPARE_CTRL q) F.CH_SPARE_CTRL_STATE = 1 ∧
      t.fld (Reg.CH_SPARE_CTRL q) F.CH_SPARE_CTRL_TARGET = bitsOf v.toNat 17 16 ∧
      (t.spareRt q).group = 3 * q + bitsOf v.toNat 17 16 ∧ (t.spareRt q).cause = 1 ∧
      (t.spareRt q).src = s.groupUnit (3 * q + bitsOf v.toNat 17 16) ∧
      (t.spareRt q).dst = s.fld (Reg.CH_SPARE_CTRL q) F.CH_SPARE_CTRL_SPARE_UNIT ∧
      (t.spareRt q).at_ = tlCount (s.rdW (Reg.CH_SPARE_AT q)) ∧ RegsKept [Reg.CH_SPARE_CTRL q] s t) ∧
  (∀ (s : State) (q : Quad) (v : BitVec 32), v.toNat.testBit 31 = true →
    wbits (s.rdW (Reg.CH_SPARE_AT q)) 24 0 ≠ 0 ∨ tlDiff (tlCount (s.rdW (Reg.CH_SPARE_AT q))) s.now < 65536 →
    Completes (.spareCtrlGo q v) s fun t => t.fld (Reg.CH_SPARE_LOG q) F.CH_SPARE_LOG_RESULT = 2 ∧ t.spares = s.spares ∧
      t.fld (Reg.CH_SPARE_CTRL q) F.CH_SPARE_CTRL_STATE = s.fld (Reg.CH_SPARE_CTRL q) F.CH_SPARE_CTRL_STATE) ∧
  (∀ (s : State) (q : Quad) (c : Nat), s.fld (Reg.CH_SPARE_CTRL q) F.CH_SPARE_CTRL_STATE = 1 → (s.spareRt q).ready = false →
    (s.spareRt q).begun = some c → c + 33792 ≤ s.coreNow → s.on (domC (s.spareRt q).dst) = true → (s.spareRt q).src < 16 →
    (s.spareRt q).dst < 16 → (s.spareRt q).src ≠ (s.spareRt q).dst →
    Completes (.sparePreparationDone q) s fun t => (t.spareRt q).ready = true ∧
      (t.unit (s.spareRt q).dst).active = (s.unit (s.spareRt q).src).active ∧
      (t.unit (s.spareRt q).dst).shadow = (s.unit (s.spareRt q).src).shadow ∧
      t.rdG (Reg.CH_CTRL (s.spareRt q).dst) = s.rdG (Reg.CH_CTRL (s.spareRt q).src) ∧
      (∀ m : Fin 256, t.rdG (Reg.CH_STR (s.spareRt q).dst m) = s.rdG (Reg.CH_STR (s.spareRt q).src m) ∧
        t.rdG (Reg.CH_CALG (s.spareRt q).dst m) = s.rdG (Reg.CH_CALG (s.spareRt q).src m))) ∧
  (∀ (s : State) (q : Quad), s.fld (Reg.CH_SPARE_CTRL q) F.CH_SPARE_CTRL_STATE = 1 →
    tlReached s.now (s.spareRt q).at_ = true → (s.spareRt q).ready = true → (s.spareRt q).src < 16 → (s.spareRt q).dst < 16 →
    (s.spareRt q).src ≠ (s.spareRt q).dst → (s.spareRt q).group < 12 → (s.spareRt q).cause < 4 →
    Completes (.spareSwitch q) s fun t => t.unitGroup (s.spareRt q).dst = (s.spareRt q).group ∧
      t.unitGroup (s.spareRt q).src = 0xF ∧ t.groupUnit (s.spareRt q).group = (s.spareRt q).dst ∧
      t.fld (Reg.CH_SPARE_CTRL q) F.CH_SPARE_CTRL_STATE = 2 ∧ t.fld (Reg.CH_SPARE_CTRL q) F.CH_SPARE_CTRL_SPARE_UNIT = 0xF ∧
      t.fld (Reg.CH_SPARE_LOG q) F.CH_SPARE_LOG_RESULT = 1 ∧ t.fld (Reg.CH_SPARE_LOG q) F.CH_SPARE_LOG_CAUSE = (s.spareRt q).cause ∧
      (t.spareRt q).moveAt = some s.startCore ∧ (t.unit (s.spareRt q).src).passes = (s.unit (s.spareRt q).src).passes) ∧
  (∀ (s : State) (q : Quad), s.fld (Reg.CH_SPARE_CTRL q) F.CH_SPARE_CTRL_STATE = 1 →
    tlReached s.now (s.spareRt q).at_ = true → (s.spareRt q).ready = false →
    Completes (.spareSwitch q) s fun t => (t.spareRt q).at_ = tlAdd (s.spareRt q).at_ (frameTc : Int) ∧
      t.fld (Reg.CH_SPARE_LOG q) F.CH_SPARE_LOG_RESULT = 5 ∧ t.units = s.units ∧ RegsKeptEv [Reg.CH_SPARE_LOG q] s t) ∧
  (∀ (s : State) (q : Quad) (c : Nat), (s.spareRt q).moveAt = some c → c + 448 ≤ s.coreNow → (s.spareRt q).src < 16 →
    (s.spareRt q).dst < 16 → (s.spareRt q).src ≠ (s.spareRt q).dst →
    Completes (.spareCounterMerge q) s fun t => (t.spareRt q).moveAt = none ∧ (t.unit (s.spareRt q).src).retired = true ∧
      Occurred 629 s t ∧
      t.fld (Reg.CH_SPARE_LOG q) F.CH_SPARE_LOG_FAULT_CODE = s.fld (Reg.CH_FAULT (s.spareRt q).src) F.CH_FAULT_CODE ∧
      (∀ m : Fin 256, t.rdW (Reg.CH_CALSAT (s.spareRt q).dst m) = BitVec.ofNat 64
          (min ((s.rdW (Reg.CH_CALSAT (s.spareRt q).dst m)).toNat + (s.rdW (Reg.CH_CALSAT (s.spareRt q).src m)).toNat) 0xFFFFFFFF) ∧
        t.rdW (Reg.CH_ABSENT (s.spareRt q).dst m) = BitVec.ofNat 64
          (min ((s.rdW (Reg.CH_ABSENT (s.spareRt q).dst m)).toNat + (s.rdW (Reg.CH_ABSENT (s.spareRt q).src m)).toNat) 0xFFFFFFFF))) ∧
  (∀ (s : State) (q : Quad) (v : BitVec 32), v.toNat.testBit 30 = true → s.fld (Reg.CH_SPARE_CTRL q) F.CH_SPARE_CTRL_STATE = 2 →
    (s.unit (s.spareRt q).src).retired = true →
    Completes (.spareCtrlReinstate q v) s fun t => t.fld (Reg.CH_SPARE_CTRL q) F.CH_SPARE_CTRL_STATE = 3 ∧
      (t.spareRt q).testEnd = some (s.coreNow + 32768) ∧ RegsKept [Reg.CH_SPARE_CTRL q] s t) ∧
  (∀ (s : State) (q : Quad) (c : Nat), (s.spareRt q).testEnd = some c → c ≤ s.coreNow → (s.spareRt q).src < 16 →
    Completes (.reinstateTestDone q true) s fun t => (t.unit (s.spareRt q).src).retired = false ∧
      t.fld (Reg.CH_ID (s.spareRt q).src) F.CH_ID_SPARE = 1 ∧ t.fld (Reg.CH_SPARE_CTRL q) F.CH_SPARE_CTRL_STATE = 0 ∧
      t.fld (Reg.CH_SPARE_CTRL q) F.CH_SPARE_CTRL_SPARE_UNIT = (s.spareRt q).src ∧
      t.fld (Reg.CH_SPARE_LOG q) F.CH_SPARE_LOG_RESULT = 6 ∧ (t.spareRt q).testEnd = none) ∧
  (∀ (s : State) (q : Quad) (c : Nat), (s.spareRt q).testEnd = some c → c ≤ s.coreNow →
    Completes (.reinstateTestDone q false) s fun t => t.units = s.units ∧
      t.fld (Reg.CH_SPARE_CTRL q) F.CH_SPARE_CTRL_STATE = 2 ∧ t.fld (Reg.CH_SPARE_LOG q) F.CH_SPARE_LOG_RESULT = 7 ∧
      (t.spareRt q).testEnd = none) ∧
  (∀ (s : State) (h : UmHdr) (p : List Byte) (q : Quad) (w : Word), s.umCheck h 0x0504 p.length = none → leAt p 0 1 = q.val →
    leAt p 1 1 < 3 → w = BitVec.ofNat 64 (leAt p 8 8) → wbits w 24 0 = 0 → tlValid w = true → 65536 ≤ tlDiff (tlCount w) s.now →
    s.fld (Reg.CH_SPARE_CTRL q) F.CH_SPARE_CTRL_STATE = 0 →
    Completes (.spareGo h p) s fun t => t.um = (s.reply h 0x0504 stOK [0]).um ∧
      t.fld (Reg.CH_SPARE_CTRL q) F.CH_SPARE_CTRL_STATE = 1 ∧ t.rdW (Reg.CH_SPARE_AT q) = w ∧
      (t.spareRt q).group = 3 * q + leAt p 1 1 ∧ (t.spareRt q).at_ = tlCount w) ∧
  (∀ (s : State) (h : UmHdr) (p : List Byte) (q : Quad), s.umCheck h 0x0505 p.length = none → leAt p 0 1 = q.val →
    s.fld (Reg.CH_SPARE_CTRL q) F.CH_SPARE_CTRL_STATE = 2 → (s.unit (s.spareRt q).src).retired = true →
    Completes (.spareReinstate h p) s fun t => t.um = (s.accept h 0x0505 []).um ∧
      t.fld (Reg.CH_SPARE_CTRL q) F.CH_SPARE_CTRL_STATE = 3 ∧ (t.spareRt q).testEnd = some (s.coreNow + 32768) ∧
      (t.spareRt q).testHdr = some h)

/-! ## The Vat (06) -/

/-- The Vat's commands (R177, R183, R189, R190, R192): the header tests reserve a block's room or drop and count it with the
code of the first test that fails; a bank's initialisation ends; a named row is queued as hard; a queued row that holds no
block takes a spare row of its sub-array, or is refused when both are in use. -/
def Obligations.HeadersAreTestedAndRowsRepaired : Prop :=
  (∀ (s : State) (p : Pail) (pre post : List Arrival) (a : Arrival), splitUntested (s.pail p).arrivals = some (pre, a, post) →
    s.headerTest p a.h0 a.h1 (s.arrivalRoom p a) = none →
    Completes (.blockHeaderArrival p) s fun t =>
      (t.pail p).arrivals = pre ++ { a with tested := true, room := some (s.pail p).wr } :: post ∧ (t.pail p).full = false ∧
      (t.pail p).blocks = (s.pail p).blocks ∧ (t.pail p).wr = (s.pail p).wr ∧ t.regs = s.regs ∧
      ∀ m, m ≠ p.val → t.pail m = s.pail m) ∧
  (∀ (s : State) (p : Pail) (pre post : List Arrival) (a : Arrival) (code : Nat),
    splitUntested (s.pail p).arrivals = some (pre, a, post) →
    s.headerTest p a.h0 a.h1 (s.arrivalRoom p a) = some code →
    Completes (.blockHeaderArrival p) s fun t =>
      (t.pail p).arrivals = pre ++ { a with tested := true, doom := some code } :: post ∧ (t.pail p).lastDrop = code ∧
      (code = 1 → (t.pail p).full = true) ∧ (t.pail p).blocks = (s.pail p).blocks ∧ (t.pail p).resv = (s.pail p).resv ∧
      Counted (Reg.VAT_PAIL_DROP p) s t ∧
      OccurredBit (512 + 4 * (s.pailBank p / 4) + 2) (Reg.VAT_EVENT (s.pailBank p / 4)) 2 s t ∧
      (code = 6 → Occurred 538 s t) ∧ (∀ m, m ≠ p.val → t.pail m = s.pail m)) ∧
  (∀ (s : State) (b : Bank) (c : Nat), (s.bank b).initEnd = some c → c ≤ s.coreNow →
    Completes (.bankInitComplete b) s fun t => t.bank b = { s.bank b with init := false, initEnd := none } ∧
      t.fld (Reg.VAT_BANK_STATUS b) F.VAT_BANK_STATUS_INIT = 0 ∧ RegsKept [Reg.VAT_BANK_STATUS b] s t ∧
      ∀ m, m ≠ b.val → t.bank m = s.bank m) ∧
  (∀ (s : State) (v : BitVec 32) (b : Bank) (row : Nat), v.toNat.testBit 31 = true → bitsOf v.toNat 23 20 = b.val →
    bitsOf v.toNat 19 0 = row → row < 655360 → (s.bank b).pendq.length < 16 →
    Completes (.vatRprReq v) s fun t => (t.bank b).pendq = (s.bank b).pendq ++ [row] ∧
      t.fld (Reg.VAT_BANK_STATUS b) F.VAT_BANK_STATUS_PEND = (s.bank b).pendq.length + 1 ∧
      OccurredBit (512 + 4 * (b.val / 4) + 3) (Reg.VAT_EVENT (b.val / 4)) 3 s t ∧ t.pails = s.pails ∧
      ∀ m, m ≠ b.val → t.bank m = s.bank m) ∧
  (∀ (s : State) (v : BitVec 32) (b : Bank), v.toNat.testBit 31 = true → bitsOf v.toNat 23 20 = b.val →
    bitsOf v.toNat 19 0 < 655360 → 16 ≤ (s.bank b).pendq.length →
    Completes (.vatRprReq v) s fun t => t.banks = s.banks ∧
      OccurredBit (512 + 4 * (b.val / 4) + 3) (Reg.VAT_EVENT (b.val / 4)) 3 s t) ∧
  (∀ (s : State) (v : BitVec 32), v.toNat.testBit 31 = false → Completes (.vatRprReq v) s fun t => t = s) ∧
  (∀ (s : State) (b : Bank) (row : Nat), (s.bank b).pendq.find? (fun r => s.rowFree b r) = some row →
    (s.bank b).sparesOf (row % 1280) < 2 → (s.bank b).remap.length < 2560 →
    Completes (.remapApply b) s fun t => (row, (s.bank b).sparesOf (row % 1280)) ∈ (t.bank b).remap ∧
      (t.bank b).pendq = (s.bank b).pendq.erase row ∧
      t.fld (Reg.VAT_BANK_REPAIR b) F.VAT_BANK_REPAIR_LAST_SUB = row % 1280 ∧
      t.fld (Reg.VAT_BANK_REPAIR b) F.VAT_BANK_REPAIR_USED = (t.bank b).remap.length ∧ t.repairDue = true ∧
      OccurredBit (512 + 4 * (b.val / 4) + 3) (Reg.VAT_EVENT (b.val / 4)) 3 s t ∧ t.pails = s.pails ∧
      ∀ m, m ≠ b.val → t.bank m = s.bank m) ∧
  (∀ (s : State) (b : Bank) (row : Nat), (s.bank b).pendq.find? (fun r => s.rowFree b r) = some row →
    2 ≤ (s.bank b).sparesOf (row % 1280) →
    Completes (.remapApply b) s fun t => (t.bank b).remap = (s.bank b).remap ∧
      (t.bank b).pendq = (s.bank b).pendq.erase row ∧
      t.fld (Reg.VAT_BANK_REPAIR b) F.VAT_BANK_REPAIR_EXH = 1 ∧ t.repairDue = s.repairDue ∧
      OccurredBit (512 + 4 * (b.val / 4) + 3) (Reg.VAT_EVENT (b.val / 4)) 3 s t ∧
      ∀ m, m ≠ b.val → t.bank m = s.bank m)

/-! ## Time-released DMA (07) -/

/-- Starting, stopping and cancelling (R195, R198, R199, R202, R204, R215, R216, R222): START makes a descriptor Armed, ends it
with the code of the check it fails or as Missed, or is ignored; STOP_REQ waits for the descriptor's end, and stops a channel
that has none; CANCEL ends an Armed or Held descriptor and is ignored elsewhere; CLR_ERR leaves Error. -/
def Obligations.ChannelsStartStopAndCancel : Prop :=
  (∀ (s : State) (c : Chan), s.chRaw c = 0 → s.flag (Reg.DMA_OWN c) F.DMA_OWN_EN = true → s.bound (s.chSlice c) = true →
    s.fenced (s.chSlice c) = false → s.ownChanges c = false → s.tdi (s.chSlice c) ≠ 1 → s.tdi (s.chSlice c) ≠ 3 →
    s.linkPresent (s.slLink (s.chSlice c)) = true → s.mode < 7 → s.tw.swo.isSome = false → s.descCheck c = none →
    (s.link (s.slLink (s.chSlice c))).going = true → s.ctlB c F.DMA_CTRL_TIMED = true → tlReached s.now (s.chS c) = false →
    Completes (.dmaStart c) s fun t => t.chRaw c = 1 ∧ t.rdW (Reg.DMA_CUR c) = BitVec.ofNat 64 (ones 64) ∧
      t.rdW (Reg.DMA_PROGRESS c) = 0 ∧ t.fld (Reg.DMA_STAT c) F.DMA_STAT_DONE = 0 ∧
      t.fld (Reg.DMA_STAT c) F.DMA_STAT_STOPPED = 0 ∧ t.chans = s.chans ∧
      RegsKept [Reg.DMA_STAT c, Reg.DMA_CUR c, Reg.DMA_PROGRESS c] s t) ∧
  (∀ (s : State) (c : Chan) (code : Nat), s.chRaw c = 0 → s.flag (Reg.DMA_OWN c) F.DMA_OWN_EN = true →
    s.bound (s.chSlice c) = true → s.fenced (s.chSlice c) = false → s.ownChanges c = false → s.tdi (s.chSlice c) ≠ 1 →
    s.tdi (s.chSlice c) ≠ 3 → s.linkPresent (s.slLink (s.chSlice c)) = true → s.mode < 7 → s.tw.swo.isSome = false →
    s.descCheck c = some code → Completes (.dmaStart c) s fun t => t.chRaw c = 8 ∧ Retired c code s t ∧ OtherChansKept c s t) ∧
  (∀ (s : State) (c : Chan), s.chRaw c = 0 → s.flag (Reg.DMA_OWN c) F.DMA_OWN_EN = true → s.bound (s.chSlice c) = true →
    s.fenced (s.chSlice c) = false → s.ownChanges c = false → s.tdi (s.chSlice c) ≠ 1 → s.tdi (s.chSlice c) ≠ 3 →
    s.linkPresent (s.slLink (s.chSlice c)) = true → s.mode < 5 → s.tw.swo.isSome = false → s.descCheck c = none →
    (s.link (s.slLink (s.chSlice c))).going = true → s.ctlB c F.DMA_CTRL_TIMED = false → (s.chan c).fetchErr = false →
    Completes (.dmaStart c) s fun t => Retired c 0x25 s t ∧ OtherChansKept c s t) ∧
  (∀ (s : State) (c : Chan), s.chRaw c ≠ 0 ∨ s.flag (Reg.DMA_OWN c) F.DMA_OWN_EN = false ∨ s.bound (s.chSlice c) = false ∨
      s.fenced (s.chSlice c) = true ∨ s.ownChanges c = true →
    Completes (.dmaStart c) s fun t => t.fld (Reg.DMA_STAT c) F.DMA_STAT_START_IGN = 1 ∧ t.chRaw c = s.chRaw c ∧
      t.chans = s.chans ∧ RegsKept [Reg.DMA_STAT c] s t) ∧
  (∀ (s : State) (c : Chan), s.chBusy c = true → s.chState c ≠ 5 →
    Completes (.dmaStopReq c) s fun t => t.ctl c F.DMA_CTRL_STOP_REQ = 1 ∧ t.chRaw c = s.chRaw c ∧ t.chans = s.chans ∧
      RegsKept [Reg.DMA_CTRL c] s t) ∧
  (∀ (s : State) (c : Chan), s.chBusy c = true → s.chState c = 5 →
    Completes (.dmaStopReq c) s fun t => t.ctl c F.DMA_CTRL_STOP_REQ = 0 ∧ t.chState c = 0 ∧
      t.fld (Reg.DMA_STAT c) F.DMA_STAT_STOPPED = 1 ∧ (t.chan c).image = none ∧ OtherChansKept c s t ∧
      RegsKept [Reg.DMA_CTRL c, Reg.DMA_STAT c] s t) ∧
  (∀ (s : State) (c : Chan), s.chBusy c = false → Completes (.dmaStopReq c) s fun t => t = s) ∧
  (∀ (s : State) (c : Chan), s.chRaw c = 1 ∨ s.chRaw c = 2 → (s.chan c).image = none → (s.chan c).fetchErr = false →
    Completes (.dmaCancel c) s fun t => Retired c 0x30 s t ∧ OtherChansKept c s t) ∧
  (∀ (s : State) (c : Chan), s.chRaw c ≠ 1 → s.chRaw c ≠ 2 →
    Completes (.dmaCancel c) s fun t => t.fld (Reg.DMA_STAT c) F.DMA_STAT_START_IGN = 1 ∧ t.chRaw c = s.chRaw c ∧
      t.chans = s.chans ∧ RegsKept [Reg.DMA_STAT c] s t) ∧
  (∀ (s : State) (c : Chan), s.chRaw c = 8 →
    Completes (.dmaClrErr c) s fun t => t.chRaw c = 0 ∧ RegsKept [Reg.DMA_STAT c] s t) ∧
  (∀ (s : State) (c : Chan), s.chRaw c ≠ 8 → Completes (.dmaClrErr c) s fun t => t = s)

/-- Releases (R81, R201 to R206, R208, R212, R223): at S the channel reserves its room or takes its snapshot, or is Missed
because it is too late; at T the mode and the Timekeeper decide whether it goes on, is Held or Missed; room is tested again
until it is free; a granted beat issues the next read or write; a halted descriptor is Missed at its T. -/
def Obligations.ReleasesAreTestedAndIssued : Prop :=
  (∀ (s : State) (c : Chan), s.chState c = 1 → (s.chan c).begun = false → tlReached s.now (s.chS c) = true →
    s.tooLate c = false → s.ctlB c F.DMA_CTRL_DIR = true → s.domWait c = true → s.ownPail c = true →
    Completes (.dmaChainStart c []) s fun t => (t.chan c).begun = true ∧ (t.chan c).beginAt = s.coreNow ∧
      (t.chan c).snap = fitRun (s.chCount c) ((s.pail (s.chPail c)).blocks.filter (fun b => !b.fin && decide (b.tc < s.ticks))) ∧
      (t.chan c).empty = (t.chan c).snap.isEmpty ∧ (t.chan c).roomAt = none ∧ (t.chan c).waited = true ∧ t.regs = s.regs ∧
      t.pails = s.pails ∧ OtherChansKept c s t) ∧
  (∀ (s : State) (c : Chan) (b : Block), s.chState c = 1 → (s.chan c).begun = false → tlReached s.now (s.chS c) = true →
    s.tooLate c = false → s.ctlB c F.DMA_CTRL_DIR = true → s.domWait c = false → s.ownPail c = true →
    (s.pail (s.chPail c)).blocks = [b] → b.fin = false → b.tc < s.ticks → b.size ≤ s.chCount c → b.bad = [] →
    (s.chan c).stage = [] → beatsOf b.size ≤ s.freeStaging (s.chSlice c) →
    Completes (.dmaChainStart c []) s fun t => (t.chan c).begun = true ∧ (t.chan c).beginAt = s.coreNow ∧
      (t.chan c).roomAt = some s.coreNow ∧ (t.chan c).snap = [] ∧ (t.chan c).empty = false ∧
      (t.chan c).stage = leBytes 8 b.h0.toNat ++ leBytes 8 b.h1.toNat ++ bytesOfWords b.payload ∧
      t.chRaw c = s.chRaw c ∧ OtherChansKept c s t) ∧
  (∀ (s : State) (c : Chan), s.chState c = 1 → (s.chan c).begun = false → tlReached s.now (s.chS c) = true →
    s.tooLate c = false → s.ctlB c F.DMA_CTRL_DIR = false → s.domWait c = false → s.ownPail c = true →
    s.chCount c ≤ s.pailFree (s.chPail c) →
    Completes (.dmaChainStart c []) s fun t => (t.chan c).begun = true ∧ (t.chan c).roomAt = some s.coreNow ∧
      (t.pail (s.chPail c)).resv = (s.pail (s.chPail c)).resv ++ [(c.val, s.chCount c)] ∧ t.regs = s.regs ∧
      OtherChansKept c s t) ∧
  (∀ (s : State) (c : Chan) (hits : List EccHit), s.chState c = 1 → (s.chan c).begun = false →
    tlReached s.now (s.chS c) = true → s.tooLate c = true → (s.chan c).image = none → (s.chan c).fetchErr = false →
    Completes (.dmaChainStart c hits) s fun t => Retired c 0x22 s t ∧ OtherChansKept c s t) ∧
  (∀ (s : State) (c : Chan) (hits : List EccHit), s.chState c = 1 → (s.chan c).begun = false →
    tlReached s.now (s.chS c) = true → s.tooLate c = false → (s.storeErrors 0 hits).2 = true → (s.chan c).first = none →
    (s.chan c).fail = none → s.chRaw c ≠ 7 →
    Completes (.dmaChainStart c hits) s fun t => t.chRaw c = 8 ∧ Retired c 0xB s t ∧ OtherChansKept c s t) ∧
  (∀ (s : State) (c : Chan), s.chRaw c = 1 → (s.chan c).begun = true → (s.chan c).tested = false →
    tlReached s.now (s.chT c) = true → s.releasing = false → (s.chan c).image = none → (s.chan c).fetchErr = false →
    Completes (.dmaReleaseTest c) s fun t => Retired c 0x25 s t ∧ OtherChansKept c s t) ∧
  (∀ (s : State) (c : Chan), s.chRaw c = 1 → (s.chan c).begun = true → (s.chan c).tested = false →
    tlReached s.now (s.chT c) = true → s.releasing = true → s.tlState ≠ 2 → s.holds (s.chSlice c) = true →
    Completes (.dmaReleaseTest c) s fun t => t.chRaw c = 2 ∧ (t.chan c).held = true ∧ OtherChansKept c s t ∧
      RegsKept [Reg.DMA_STAT c] s t) ∧
  (∀ (s : State) (c : Chan), s.chRaw c = 1 → (s.chan c).begun = true → (s.chan c).tested = false →
    tlReached s.now (s.chT c) = true → s.releasing = true → s.tlState ≠ 2 → s.holds (s.chSlice c) = false →
    (s.chan c).image = none → (s.chan c).fetchErr = false →
    Completes (.dmaReleaseTest c) s fun t => Retired c 0x20 s t ∧ OtherChansKept c s t) ∧
  (∀ (s : State) (c : Chan), s.chRaw c = 1 → (s.chan c).begun = true → (s.chan c).tested = false →
    tlReached s.now (s.chT c) = true → s.releasing = true → s.tlState = 2 → (s.chan c).empty = false →
    Completes (.dmaReleaseTest c) s fun t => t.chan c = { s.chan c with tested := true } ∧ t.regs = s.regs ∧
      OtherChansKept c s t) ∧
  (∀ (s : State) (c : Chan), (s.chan c).begun = true → s.ctlB c F.DMA_CTRL_DIR = false → (s.chan c).roomAt = none →
    s.chState c = 1 ∨ s.chState c = 2 ∨ s.chState c = 3 → s.domWait c = false → s.ownPail c = true →
    s.chCount c ≤ s.pailFree (s.chPail c) →
    Completes (.dmaRoomReady c) s fun t => t.chan c = { s.chan c with roomAt := some s.coreNow } ∧
      (t.pail (s.chPail c)).resv = (s.pail (s.chPail c)).resv ++ [(c.val, s.chCount c)] ∧ t.regs = s.regs ∧
      OtherChansKept c s t) ∧
  (∀ (s : State) (c : Chan), (s.chan c).begun = true → s.ctlB c F.DMA_CTRL_DIR = false → (s.chan c).roomAt = none →
    s.chState c = 1 ∨ s.chState c = 3 → s.domWait c = false → s.pailFree (s.chPail c) < s.chCount c →
    s.ctlB c F.DMA_CTRL_TIMED = true → (s.chan c).first = none → (s.chan c).held = false → (s.fld Reg.TL_LATE_LIMIT F.TL_LATE_LIMIT_LIMIT : Int) < tlDiff s.now (s.chT c) →
    (s.chan c).image = none → (s.chan c).fetchErr = false →
    Completes (.dmaRoomReady c) s fun t => Retired c 0x23 s t ∧ OtherChansKept c s t) ∧
  (∀ (s : State) (m : HLink) (hits : List EccHit) (sl b : Nat) (c : Chan), s.grant m = some (sl, b, c.val, .data) →
    s.ctlB c F.DMA_CTRL_DIR = false → s.slLink (s.chSlice c) = m.val → s.roomLate c = none → (s.storeErrors 0 hits).2 = false →
    s.chCount c < 2 ^ 32 →
    Completes (.dmaRequestIssue m hits) s fun t => t.chRaw c = 3 ∧
      (t.chan c).reads = (s.chan c).reads ++ [(s.issued c, reqLen (s.rdW (Reg.DMA_SRC c) + BitVec.ofNat 64 (s.issued c)).toNat
        (s.chCount c - s.issued c) (s.mrrs m))] ∧
      t.issued c = s.issued c + reqLen (s.rdW (Reg.DMA_SRC c) + BitVec.ofNat 64 (s.issued c)).toNat
        (s.chCount c - s.issued c) (s.mrrs m) ∧
      (t.chan c).first = some ((s.chan c).first.getD (tlOf s.now)) ∧ OtherChansKept c s t) ∧
  (∀ (s : State) (m : HLink) (hits : List EccHit) (sl b : Nat) (c : Chan), s.grant m = some (sl, b, c.val, .data) →
    s.ctlB c F.DMA_CTRL_DIR = true → s.slLink (s.chSlice c) = m.val → s.roomLate c = none → (s.storeErrors 0 hits).2 = false →
    (s.chan c).snap = [] → s.moved c + 512 < 2 ^ 32 →
    reqLen (s.rdW (Reg.DMA_DST c) + BitVec.ofNat 64 (s.chan c).written).toNat (s.chan c).stage.length (s.mps m) <
      (s.chan c).stage.length →
    Completes (.dmaRequestIssue m hits) s fun t => t.chRaw c = 3 ∧
      (t.chan c).written = (s.chan c).written + reqLen (s.rdW (Reg.DMA_DST c) + BitVec.ofNat 64 (s.chan c).written).toNat
        (s.chan c).stage.length (s.mps m) ∧
      (t.chan c).stage = (s.chan c).stage.drop (reqLen (s.rdW (Reg.DMA_DST c) + BitVec.ofNat 64 (s.chan c).written).toNat
        (s.chan c).stage.length (s.mps m)) ∧
      t.moved c = s.moved c + reqLen (s.rdW (Reg.DMA_DST c) + BitVec.ofNat 64 (s.chan c).written).toNat
        (s.chan c).stage.length (s.mps m) ∧ OtherChansKept c s t) ∧
  (∀ (s : State) (c : Chan), s.chRaw c = 7 → s.chState c = 1 ∨ s.chState c = 2 → (s.chan c).first = none →
    s.ctlB c F.DMA_CTRL_TIMED = true → tlReached s.now (s.chT c) = true → (s.chan c).image = none →
    (s.chan c).fetchErr = false → (s.chan c).fail = none →
    Completes (.dmaMissMaster c) s fun t => t.chRaw c = 7 ∧ Retired c 0x24 s t ∧ OtherChansKept c s t)

/-- Data, records, retires and chaining (R177, R206, R207, R217 to R220, R223, R224): a completion that ends in an error or a
timeout ends the descriptor; delivered bytes become a block on its way to the pail; a block that passes its commit tests is
committed and counts in MOVED; a record leaves at a beat; a finished descriptor retires, and a fetched image becomes the
active one; Bus Master Enable halts and resumes the link's channels. -/
def Obligations.DataMovesAndDescriptorsRetire : Prop :=
  (∀ (s : State) (c : Chan) (off n : Nat) (data : List Byte), (s.chan c).reads.find? (fun e => e.1 == off) = some (off, n) →
    s.chRaw c ≠ 7 → (s.chan c).fail = none → s.ctlB c F.DMA_CTRL_RECORD = false →
    Completes (.dmaReadCompletion c off .ur data) s fun t => t.chRaw c = 8 ∧ Retired c 5 s t ∧ OtherChansKept c s t) ∧
  (∀ (s : State) (c : Chan) (off n : Nat) (data : List Byte), (s.chan c).reads.find? (fun e => e.1 == off) = some (off, n) →
    (s.chan c).fail = none → s.ctlB c F.DMA_CTRL_RECORD = true → (s.chan c).first.isSome = true →
    (s.chan c).recOut = false → (s.rdW (Reg.DMA_REC c)).toNat % 32 = 0 →
    Completes (.dmaReadCompletion c off .ca data) s fun t => (t.chan c).fail = some 5 ∧ (t.chan c).reads = [] ∧
      (t.chan c).buf = [] ∧ (∃ r, (t.chan c).recs.getLast? = some r ∧ r.own = true ∧ r.addr = s.rdW (Reg.DMA_REC c)) ∧
      t.chRaw c = s.chRaw c ∧ (∀ e ∈ (t.pail (s.chPail c)).resv, e.1 ≠ c.val) ∧ RegsKept [Reg.DMA_STAT c] s t ∧
      OtherChansKept c s t) ∧
  (∀ (s : State) (c : Chan) (off n : Nat) (data : List Byte), (s.chan c).reads.find? (fun e => e.1 == off) = some (off, n) →
    off = (s.chan c).rxPos → (s.chan c).early = [] → 0 < data.length → data.length ≤ n →
    (s.chan c).buf.length + data.length < 16 →
    Completes (.dmaReadCompletion c off .sc data) s fun t => (t.chan c).buf = (s.chan c).buf ++ data.map some ∧
      (t.chan c).rxPos = off + data.length ∧ t.regs = s.regs ∧ t.pails = s.pails ∧ OtherChansKept c s t) ∧
  (∀ (s : State) (c : Chan) (n : Nat) (data : List Byte), (s.chan c).reads.find? (fun e => e.1 == 0) = some (0, n) →
    (s.chan c).rxPos = 0 → (s.chan c).early = [] → (s.chan c).buf = [] → (s.chan c).hdrUp = false → s.ownPail c = true → 16 ≤ data.length →
    data.length ≤ n → data.length < blockBytes (hLen (BitVec.ofNat 64 (leAt data 8 8))) →
    blockBytes (hLen (BitVec.ofNat 64 (leAt data 8 8))) ≤ s.chCount c →
    Completes (.dmaReadCompletion c 0 .sc data) s fun t => (t.chan c).hdrUp = true ∧ (t.chan c).rxPos = data.length ∧
      (t.pail (s.chPail c)).arrivals.map (fun a => (a.h0, a.h1, a.got.length, a.tested)) =
        (s.pail (s.chPail c)).arrivals.map (fun a => (a.h0, a.h1, a.got.length, a.tested)) ++
          [(BitVec.ofNat 64 (leAt data 0 8), BitVec.ofNat 64 (leAt data 8 8), (data.length - 16) / 8, false)] ∧
      OtherChansKept c s t) ∧
  (∀ (s : State) (c : Chan) (n : Nat) (data : List Byte), (s.chan c).reads.find? (fun e => e.1 == 0) = some (0, n) →
    (s.chan c).rxPos = 0 → (s.chan c).early = [] → (s.chan c).buf = [] → 16 ≤ data.length → data.length ≤ n →
    s.chCount c < blockBytes (hLen (BitVec.ofNat 64 (leAt data 8 8))) → s.chRaw c ≠ 7 → (s.chan c).fail = none →
    s.ctlB c F.DMA_CTRL_RECORD = false →
    Completes (.dmaReadCompletion c 0 .sc data) s fun t => t.chRaw c = 8 ∧ Retired c 8 s t ∧ OtherChansKept c s t) ∧
  (∀ (s : State) (c : Chan), (s.chan c).reads.isEmpty = false → s.chRaw c ≠ 7 → (s.chan c).fail = none →
    s.ctlB c F.DMA_CTRL_RECORD = false → Completes (.dmaReadTimeout c) s fun t => t.chRaw c = 8 ∧ Retired c 6 s t ∧ OtherChansKept c s t) ∧
  (∀ (s : State) (p : Pail) (a : Arrival) (rest : List Arrival) (n : Port) (off : Nat),
    (s.pail p).arrivals = a :: rest → s.arrivalDue a = true → a.writer = .port n → a.room = some off → a.doom = none →
    s.commitTest p a.h0 = none → a.pois = false →
    Completes (.blockCommit p []) s fun t => (t.pail p).arrivals = rest ∧ (t.pail p).lastTl = some (tlCount a.h0) ∧
      (t.pail p).wr = (if s.pailBytes p = 0 then 0 else ((s.pail p).wr + blockBytes (hLen a.h1)) % s.pailBytes p) ∧
      (s.pailReaders p ≠ 0 → (s.pail p).blocks = [] →
        (t.pail p).blocks.map (fun b => (b.h0, b.h1, b.payload, b.off)) = [(a.h0, a.h1, a.got.take a.need, (s.pail p).wr)]) ∧
      t.regs = s.regs) ∧
  (∀ (s : State) (p : Pail) (hits : List EccHit) (a : Arrival) (rest : List Arrival) (n : Port) (off code : Nat),
    (s.pail p).arrivals = a :: rest → s.arrivalDue a = true → a.writer = .port n → a.room = some off → a.doom = none →
    s.commitTest p a.h0 = some code →
    Completes (.blockCommit p hits) s fun t => (t.pail p).arrivals = rest ∧ (t.pail p).lastDrop = code ∧
      (t.pail p).blocks = (s.pail p).blocks ∧ (t.pail p).wr = (s.pail p).wr ∧
      Counted (if code = 3 then Reg.VAT_PAIL_LATE p else Reg.VAT_PAIL_DROP p) s t ∧
      OccurredBit (512 + 4 * (s.pailBank p / 4) + 2) (Reg.VAT_EVENT (s.pailBank p / 4)) 2 s t) ∧
  (∀ (s : State) (p : Pail) (a : Arrival) (rest : List Arrival) (c : Chan) (off : Nat),
    (s.pail p).arrivals = a :: rest → s.arrivalDue a = true → a.writer = .chan c → a.room = some off → a.doom = none →
    s.commitTest p a.h0 = none → a.pois = false → s.moved c + blockBytes (hLen a.h1) < 2 ^ 32 →
    Completes (.blockCommit p []) s fun t => (t.pail p).arrivals = rest ∧
      t.moved c = s.moved c + blockBytes (hLen a.h1) ∧ (t.chan c).blocks = (s.chan c).blocks + 1 ∧ OtherChansKept c s t) ∧
  (∀ (s : State) (c : Chan) (m sl b : Nat) (r : DmaRec) (rs : List DmaRec), s.slLink (s.chSlice c) = m →
    s.grant m = some (sl, b, c.val, .record) → (s.chan c).recs = r :: rs → (s.link m).atsEn = false → s.tdi sl ≠ 2 →
    s.inL0 m = true →
    Completes (.dmaRecordWrite c) s fun t => (t.chan c).recs = rs ∧ (t.chan c).recOut = ((s.chan c).recOut || r.own) ∧
      .mwr m (s.pasidOf m sl) r.addr (if r.own then s.record c ((s.chan c).fail.getD 0)
        (((s.rdW (Reg.DMA_RETIRED c)).toNat + 1) % 2 ^ 32) else r.bytes) r.attr ∈ t.out ∧ OtherChansKept c s t) ∧
  (∀ (s : State) (c : Chan) (code : Nat), (s.chan c).fail = some code → 1 ≤ code → code ≤ 0xC → (s.chan c).recOut = true →
    (s.chan c).done = false → s.chRaw c ≠ 7 → s.drained c = false →
    Completes (.dmaRetire c) s fun t => t.chRaw c = 8 ∧ Retired c code s t ∧ OtherChansKept c s t) ∧
  (∀ (s : State) (c : Chan), (s.chan c).done = true → (s.chan c).fail = none → (s.chan c).recOut = true ∨ s.ctlB c F.DMA_CTRL_RECORD = false →
    (s.chan c).image = none → (s.chan c).fetchErr = false →
    Completes (.dmaRetire c) s fun t => Retired c 0 s t ∧ OtherChansKept c s t) ∧
  (∀ (s : State) (c : Chan) (im : List Byte), (s.chan c).done = true → (s.chan c).fail = none →
    (s.chan c).recOut = true ∨ s.ctlB c F.DMA_CTRL_RECORD = false → (s.chan c).image = some im →
    s.ctlB c F.DMA_CTRL_STOP_REQ = false →
    Completes (.dmaRetire c) s fun t => t.rdW (Reg.DMA_CUR c) = (s.chan c).fetchAddr ∧
      t.rdW (Reg.DMA_SRC c) = BitVec.ofNat 64 (leAt im 0 8) ∧ t.rdW (Reg.DMA_DST c) = BitVec.ofNat 64 (leAt im 8 8) ∧
      t.rdW (Reg.DMA_COUNT c) = BitVec.ofNat 64 (leAt im 0x10 4) ∧ t.rdW (Reg.DMA_RELEASE c) = BitVec.ofNat 64 (leAt im 0x18 8) ∧
      t.rdW (Reg.DMA_NEXT c) = BitVec.ofNat 64 (leAt im 0x20 8) ∧ t.rdW (Reg.DMA_TAG c) = BitVec.ofNat 64 (leAt im 0x2C 4) ∧
      t.rdW (Reg.DMA_REC c) = BitVec.ofNat 64 (leAt im 0x30 8) ∧ (t.chan c).image = none ∧ OtherChansKept c s t) ∧
  (∀ (s : State) (c : Chan) (m sl b : Nat), s.slLink (s.chSlice c) = m → s.grant m = some (sl, b, c.val, .fetch) →
    (s.link m).atsEn = false → s.tdi sl ≠ 2 → s.inL0 m = true →
    Completes (.dmaFetch c) s fun t => (t.chan c).fetching = true ∧ (t.chan c).fetchAddr = s.rdW (Reg.DMA_NEXT c) ∧
      t.out = .mrd m (s.pasidOf m sl) (s.rdW (Reg.DMA_NEXT c)) 64 (s.ctl c F.DMA_CTRL_TC) :: s.out ∧ OtherChansKept c s t) ∧
  (∀ (s : State) (c : Chan) (st : CplStatus) (im : List Byte), (s.chan c).fetching = true → s.chState c ≠ 5 →
    s.chBusy c = true → s.ctlB c F.DMA_CTRL_STOP_REQ = false →
    Completes (.dmaFetchComplete c st im) s fun t => (t.chan c).fetching = false ∧
      (st = .sc → im.length = 64 → (t.chan c).image = some im) ∧ (st ≠ .sc → (t.chan c).fetchErr = true) ∧ t.regs = s.regs ∧
      OtherChansKept c s t) ∧
  (∀ (s : State) (c : Chan) (im : List Byte), (s.chan c).fetching = true → s.chState c = 5 →
    Completes (.dmaFetchComplete c .ur im) s fun t => t.chRaw c = 8 ∧ t.fld (Reg.DMA_STAT c) F.DMA_STAT_CODE = 7 ∧
      t.rdW (Reg.DMA_RETIRED c) = s.rdW (Reg.DMA_RETIRED c) ∧ (t.chan c).fetching = false ∧ OtherChansKept c s t) ∧
  (∀ (s : State) (m : HLink), s.reachable m = true → (s.link m).going = true →
    Completes (.busMasterEnableClear m) s fun t => (t.link m).bme = false ∧ (t.link m).going = false ∧ t.chans = s.chans ∧
      ∀ c ∈ s.linkChans m, t.chRaw c = 7 ∧ t.chState c = s.chState c) ∧
  (∀ (s : State) (m : HLink), s.reachable m = true → (s.link m).bme = false → (s.link m).d3 = false →
    (s.link m).going = false →
    Completes (.busMasterEnableSet m) s fun t => (t.link m).bme = true ∧ (t.link m).going = true ∧ t.chans = s.chans ∧
      ∀ c ∈ s.linkChans m, t.chRaw c = s.chState c)

/-! ## The A-link (02, 08) -/

/-- What a port's slots carry (R27, R28, R60, R70, R74, R237, R245, R262): a tx block read at its lead goes ready 188 core
cycles later; on a port that is not Up, or whose calibration failed, its release is Missed; off the grid source 10 is
raised as well; a poisoned block counts and is Missed but goes out whole; a deadline that passes and a hold past its limit
are Missed; a slot sends a training frame up to Config and a normal frame from Calibrate on. -/
def Obligations.AlinkSlotsReadSendAndMiss : Prop :=
  (∀ (s : State) (p : Pail) (b : Block), s.pailRole p = 1 →
    (s.pail p).blocks.find? (fun b => b.tx == .wait && !b.fin) = some b → b.bad = [] →
    tlReached s.now (tlAdd (tlCount b.h0) (-((188 + s.fld (Reg.TL_LEAD_AL (s.pailPort p)) F.TL_LEAD_AL_LEAD : Nat) : Int))) = true →
    s.fld (Reg.AL_STAT (s.pailPort p)) F.AL_STAT_TSTATE = 5 → s.uncal (s.pailPort p) = false → tlCount b.h0 % 32 = 0 →
    s.readLate (tlCount b.h0) = false →
    Completes (.alinkTxRead p []) s fun t =>
      (t.pail p).blocks = (s.pail p).blocks.map (fun x =>
        if x.off = b.off ∧ x.h0 = b.h0 then { x with tx := .ready (s.coreNow + 188) } else x) ∧
      (∀ q, q ≠ p.val → t.pail q = s.pail q) ∧ t.regs = s.regs) ∧
  (∀ (s : State) (p : Pail) (hits : List EccHit) (b : Block), s.pailRole p = 1 →
    (s.pail p).blocks.find? (fun b => b.tx == .wait && !b.fin) = some b →
    tlReached s.now (tlAdd (tlCount b.h0) (-((188 + s.fld (Reg.TL_LEAD_AL (s.pailPort p)) F.TL_LEAD_AL_LEAD : Nat) : Int))) = true →
    s.fld (Reg.AL_STAT (s.pailPort p)) F.AL_STAT_TSTATE = 5 → s.uncal (s.pailPort p) = false → tlCount b.h0 % 32 = 0 →
    s.readLate (tlCount b.h0) = false → (s.readErrors p b hits).2 ≠ [] →
    Completes (.alinkTxRead p hits) s fun t => Occurred 536 (s.readErrors p b hits).1 t ∧
      (t.pail p).blocks = (((s.readErrors p b hits).1.keepPoison p b (s.readErrors p b hits).2).pail p).blocks.map (fun x =>
        if x.off = b.off ∧ x.h0 = b.h0 then { x with tx := .ready (s.coreNow + 188) } else x)) ∧
  (∀ (s : State) (p : Pail) (hits : List EccHit) (b : Block), s.pailRole p = 1 →
    (s.pail p).blocks.find? (fun b => b.tx == .wait && !b.fin) = some b →
    tlReached s.now (tlAdd (tlCount b.h0) (-((188 + s.fld (Reg.TL_LEAD_AL (s.pailPort p)) F.TL_LEAD_AL_LEAD : Nat) : Int))) = true →
    tlCount b.h0 % 32 = 0 →
    s.fld (Reg.AL_STAT (s.pailPort p)) F.AL_STAT_TSTATE ≠ 5 ∨ s.uncal (s.pailPort p) = true ∨ s.readLate (tlCount b.h0) = true →
    Completes (.alinkTxRead p hits) s fun t => (t.pail p).lastMiss = some (tlCount b.h0) ∧ Occurred 536 s t ∧
      RegsKeptEv [] s t) ∧
  (∀ (s : State) (p : Pail) (hits : List EccHit) (b : Block), s.pailRole p = 1 →
    (s.pail p).blocks.find? (fun b => b.tx == .wait && !b.fin) = some b →
    tlReached s.now (tlAdd (tlCount b.h0) (-((188 + s.fld (Reg.TL_LEAD_AL (s.pailPort p)) F.TL_LEAD_AL_LEAD : Nat) : Int))) = true →
    tlCount b.h0 % 32 ≠ 0 →
    Completes (.alinkTxRead p hits) s fun t => (t.pail p).lastMiss = some (tlCount b.h0) ∧ Occurred 536 s t ∧ Occurred 538 s t ∧
      RegsKeptEv [] s t) ∧
  (∀ (s : State) (p : Pail) (at_ : Nat) (ts : List Nat), (s.pail p).expect = at_ :: ts → s.txCtx p = none →
    tlReached s.now (tlAdd at_ ((s.fld Reg.TL_LATE_LIMIT F.TL_LATE_LIMIT_LIMIT : Int) - 188)) = true →
    Completes (.releaseMissedDeadline p) s fun t => (t.pail p).expect = ts ∧ (t.pail p).lastMiss = some at_ ∧
      (t.pail p).missed = (if s.fld (Reg.AL_STAT (s.pailPort p)) F.AL_STAT_TSTATE = 5 then (s.pail p).missed ++ [tlOf at_]
        else (s.pail p).missed) ∧ at_ ∈ (t.pail p).gone ∧ Occurred 536 s t ∧ RegsKeptEv [] s t) ∧
  (∀ (s : State) (p : Pail) (at_ u k : Nat) (ts : List Nat), (s.pail p).expect = at_ :: ts → s.txCtx p = some (u, k) →
    u < 16 → k < 16 →
    tlReached s.now (tlAdd at_ ((s.fld Reg.TL_LATE_LIMIT F.TL_LATE_LIMIT_LIMIT : Int) - 188)) = true →
    Completes (.releaseMissedDeadline p) s fun t => (t.pail p).expect = ts ∧ (t.pail p).lastMiss = some at_ ∧
      Occurred 536 s t ∧ t.fld (Reg.CH_FAULT u) F.CH_FAULT_CODE = 1 ∧ t.fld (Reg.CH_FAULT u) F.CH_FAULT_ARRAY = 1 ∧
      t.fld (Reg.CH_FAULT u) F.CH_FAULT_CTX = k) ∧
  (∀ (s : State) (p : Pail) (b : Block), (s.pail p).blocks.find? (fun b => b.tx == .held) = some b →
    0 ≤ tlDiff s.now (tlAdd (tlCount b.h0) ((s.fld Reg.TL_HOLD_LIMIT F.TL_HOLD_LIMIT_LIMIT : Nat) : Int)) →
    Completes (.heldReleaseTimeout (.tx p)) s fun t => (t.pail p).lastMiss = some (tlCount b.h0) ∧ Occurred 536 s t ∧
      RegsKeptEv [] s t) ∧
  (∀ (s : State) (c : Chan), s.chState c = 2 → ((s.rdW Reg.TL_HOLD_LIMIT).toNat : Int) ≤ tlDiff s.now (s.chT c) →
    Completes (.heldReleaseTimeout (.dma c)) s fun t => t = s.retire c 0x21) ∧
  (∀ (s : State) (n : Port), s.now % 32 = 0 → s.on (domL (n / 8)) = true → s.tstate (.al n) = 2 ∨ s.tstate (.al n) = 3 →
    Completes (.alinkSlotSend n) s fun t => t.regs = s.regs ∧ t.out = .alink n (s.launch n)
      (frameHdr 2 (s.fld Reg.TW_EPOCH F.TW_EPOCH_EPOCH) 0 (s.now / 32 % 256) s.act (s.txinh (n / 8)))
      (s.trainWord n :: List.replicate 15 (List.replicate 8 0)) :: s.out) ∧
  (∀ (s : State) (n : Port), s.now % 32 = 0 → s.on (domL (n / 8)) = true → s.tstate (.al n) = 4 ∨ s.tstate (.al n) = 5 →
    Completes (.alinkSlotSend n) s fun t => ∃ f : Cells, t.out.head? = some (.alink n (s.launch n)
      (frameHdr 1 (s.fld Reg.TW_EPOCH F.TW_EPOCH_EPOCH) f.cellMap (s.now / 32 % 256) t.act (s.txinh (n / 8))) f.words))

/-- Control words of the local end (R247 to R251, R264, R263, R258): CREDIT and CRESYNC set what the device may send,
LEDGER is compared with RECEIVED, EPOCH, LE_TOD and STATUS are kept, and each error raises its source of the port. -/
def Obligations.ControlWordsTakeEffect : Prop :=
  (∀ (s : State) (n : Port) (w : Word), s.wordsLive n = true → wbits w 63 60 = 1 → wbits w 59 58 ≠ 0 →
    Completes (.credit n w) s fun t =>
      t.crTx n (crKey (wbits w 59 58) 0) = { s.crTx n (crKey (wbits w 59 58) 0) with granted := wbits w 31 0 } ∧
      (∀ k, k ≠ crKey (wbits w 59 58) 0 → t.crTx n k = s.crTx n k) ∧ (∀ m, m ≠ n.val → t.port m = s.port m) ∧ t.regs = s.regs) ∧
  (∀ (s : State) (n : Port) (w : Word), s.wordsLive n = true → wbits w 63 60 = 3 → wbits w 59 58 ≠ 0 →
    Completes (.cresync n w) s fun t =>
      (t.crTx n (crKey (wbits w 59 58) 0)).granted = wbits w 31 0 ∧ (t.crTx n (crKey (wbits w 59 58) 0)).sent = wbits w 31 0 ∧
      .ledger (crKey (wbits w 59 58) 0) ∈ (t.port n).ctl ∧ (∀ m, m ≠ n.val → t.port m = s.port m) ∧ t.regs = s.regs) ∧
  (∀ (s : State) (n : Port) (w : Word) (k : Nat), s.wordsLive n = true → wbits w 63 60 = 2 →
    k = crKey (wbits w 59 58) (if wbits w 59 58 = 0 then wbits w 57 42 else 0) → (s.crRx n k).wait = false →
    wbits w 31 0 ≠ (s.crRx n k).recvd →
    Completes (.ledger n w) s fun t =>
      (t.crRx n k).granted = (s.crRx n k).recvd ∧ (t.crRx n k).recvd = (s.crRx n k).recvd ∧ (t.crRx n k).wait = true ∧
      (t.crRx n k).last = some s.ticks ∧ .cresync k ∈ (t.port n).ctl ∧ OccurredBit (3 * n + 1) (Reg.AL_EVENT n) 1 s t ∧
      t.fld (Reg.AL_EVENT n) F.AL_EVENT_LAST_ERR = 2 ∧ (∀ m, m ≠ n.val → t.port m = s.port m) ∧
      RegsKeptEv [Reg.AL_STAT n, Reg.AL_EVENT n] s t) ∧
  (∀ (s : State) (n : Port) (w : Word) (k : Nat), s.wordsLive n = true → wbits w 63 60 = 2 →
    k = crKey (wbits w 59 58) (if wbits w 59 58 = 0 then wbits w 57 42 else 0) → wbits w 31 0 = (s.crRx n k).recvd →
    Completes (.ledger n w) s fun t =>
      (t.crRx n k).granted = (s.crRx n k).granted ∧ (t.crRx n k).recvd = (s.crRx n k).recvd ∧ (t.crRx n k).wait = false ∧
      (t.crRx n k).last = some s.ticks ∧ ((s.crRx n k).wait = true → .credit k ∈ (t.port n).ctl) ∧
      (∀ m, m ≠ n.val → t.port m = s.port m) ∧ RegsKept [Reg.AL_STAT n] s t) ∧
  (∀ (s : State) (n : Port) (w : Word), s.wordsLive n = true → wbits w 63 60 = 8 →
    Completes (.epoch n w) s fun t =>
      t.fld (Reg.AL_EPOCH_RX n) F.AL_EPOCH_RX_EPOCH = wbits w 15 0 ∧
      (epochHigher (wbits w 15 0) (s.fld Reg.TW_EPOCH F.TW_EPOCH_EPOCH) = true →
        OccurredBit (3 * n + 2) (Reg.AL_EVENT n) 2 s t ∧ t.fld (Reg.AL_EVENT n) F.AL_EVENT_LAST_TIMING = 4 ∧
        (s.role ≠ 0 → s.mode = 5 ∨ s.mode = 6 ∨ s.mode = 9 → t.tw.higher = true)) ∧
      (epochHigher (wbits w 15 0) (s.fld Reg.TW_EPOCH F.TW_EPOCH_EPOCH) = false → t.tw = s.tw ∧ RegsKept [Reg.AL_EPOCH_RX n] s t) ∧
      RegsKeptEv [Reg.AL_EPOCH_RX n, Reg.AL_EVENT n] s t) ∧
  (∀ (s : State) (n : Port) (w : Word) (ago : Nat), s.wordsLive n = true → s.flag (Reg.AL_CTRL n) F.AL_CTRL_TOD_EN = true →
    tlValid w = true →
    Completes (.leTod n w ago) s fun t =>
      t.fld (Reg.AL_LETOD_ERR n) F.AL_LETOD_ERR_ERR =
        satBits 32 (tlDiff (tlCount w) s.now * 65536 + ago + s.rxDelay n + (s.port n).owdUp) ∧
      (s.fld (Reg.AL_CALTOL n) F.AL_CALTOL_TOL < (tlDiff (tlCount w) s.now * 65536 + ago + s.rxDelay n + (s.port n).owdUp).natAbs →
        OccurredBit (3 * n + 2) (Reg.AL_EVENT n) 2 s t ∧ t.fld (Reg.AL_EVENT n) F.AL_EVENT_LAST_TIMING = 3) ∧
      RegsKeptEv [Reg.AL_LETOD_ERR n, Reg.AL_EVENT n] s t) ∧
  (∀ (s : State) (n : Port) (w : Word) (ago : Nat), s.wordsLive n = true → s.flag (Reg.AL_CTRL n) F.AL_CTRL_TOD_EN = true →
    tlValid w = false →
    Completes (.leTod n w ago) s fun t => Counted (Reg.AL_PROTO n) s t ∧
      OccurredBit (3 * n + 1) (Reg.AL_EVENT n) 1 s t ∧ t.fld (Reg.AL_EVENT n) F.AL_EVENT_LAST_ERR = 6 ∧
      RegsKeptEv [Reg.AL_PROTO n, Reg.AL_EVENT n] s t) ∧
  (∀ (s : State) (n : Port) (w : Word), s.wordsLive n = true → wbits w 63 60 = 0xA →
    Completes (.status n w) s fun t => t.port n = { s.port n with first := false } ∧
      (w.toNat.testBit 1 = true → (s.port n).inhLong = true ∨ (s.port n).first = true →
        OccurredBit (3 * n + 1) (Reg.AL_EVENT n) 1 s t ∧ t.fld (Reg.AL_EVENT n) F.AL_EVENT_LAST_ERR = 5) ∧
      (w.toNat.testBit 1 = false → t.regs = s.regs ∧ t.log = s.log) ∧ RegsKeptEv [Reg.AL_EVENT n] s t)

/-- ACK and replay on an A-link (R252, R253): an ACK releases the cells up to its SEQ, a NAK those before it and resends the
rest, 4,096 Tc without an ACK that advances resend every cell, and a cell resent 8 times takes the link down. -/
def Obligations.AcknowledgementReleasesOrResends : Prop :=
  (∀ (s : State) (n : Port) (w : Word), s.isUp (.al n) = true → (s.port n).shut = false → w.toNat.testBit 10 = false →
    (s.port n).unack.any (fun c => c.seq == wbits w 9 0) = true →
    Completes (.ack (.al n) w) s fun t => t.port n = { s.port n with
        unack := ((s.port n).unack.dropWhile (fun c => c.seq != wbits w 9 0)).drop 1, ackAt := s.ticks } ∧
      (∀ m, m ≠ n.val → t.port m = s.port m) ∧ t.regs = s.regs) ∧
  (∀ (s : State) (n : Port) (w : Word), s.isUp (.al n) = true → (s.port n).shut = false → w.toNat.testBit 10 = true →
    (s.port n).unack.any (fun c => c.seq == wbits w 9 0) = true → (s.port n).unack.all (fun c => decide (c.sends < 9)) = true →
    Completes (.ack (.al n) w) s fun t =>
      (t.port n).unack = ((s.port n).unack.dropWhile (fun c => c.seq != wbits w 9 0)).map (fun c => { c with again := true }) ∧
      (∀ m, m ≠ n.val → t.port m = s.port m) ∧ t.regs = s.regs) ∧
  (∀ (s : State) (n : Port), s.isUp (.al n) = true → (s.port n).unack ≠ [] → (s.port n).ackAt + 4096 ≤ s.ticks →
    (s.port n).unack.all (fun c => decide (c.sends < 9)) = true →
    Completes (.replayTimeout (.al n)) s fun t => t.port n = { s.port n with
        unack := (s.port n).unack.map (fun c => { c with again := true }), ackAt := s.ticks } ∧
      (∀ m, m ≠ n.val → t.port m = s.port m) ∧ t.regs = s.regs) ∧
  (∀ (s : State) (n : Port), s.isUp (.al n) = true → (s.port n).ackAt + 4096 ≤ s.ticks →
    (s.port n).unack.any (fun c => decide (9 ≤ c.sends)) = true →
    Completes (.replayTimeout (.al n)) s fun t => t.tstate (.al n) = 0 ∧ (t.port n).unack = [] ∧ (t.port n).busQ = [] ∧
      t.fld (Reg.AL_EVENT n) F.AL_EVENT_LAST_LINK = 8)

/-- Audit, calibration and mute checks of a port (R250, R256, R257, R263). -/
def Obligations.PortChecksFallDue : Prop :=
  (∀ (s : State) (n : Port), s.overdue n ≠ [] →
    Completes (.auditLate n) s fun t => t.fld (Reg.AL_STAT n) F.AL_STAT_AUDIT_LATE = 1 ∧
      (∀ k ∈ s.overdue n, (t.crRx n k).late = true) ∧
      OccurredBit (3 * n + 1) (Reg.AL_EVENT n) 1 s t ∧ t.fld (Reg.AL_EVENT n) F.AL_EVENT_LAST_ERR = 7 ∧
      (∀ m, m ≠ n.val → t.port m = s.port m) ∧ RegsKeptEv [Reg.AL_STAT n, Reg.AL_EVENT n] s t) ∧
  (∀ (s : State) (n : Port) (per : Nat), s.isUp (.al n) = true →
    per = (if s.fld (Reg.AL_CALPER n) F.AL_CALPER_FRAMES = 0 then 1024 else s.fld (Reg.AL_CALPER n) F.AL_CALPER_FRAMES) →
    (s.port n).calAt + 32 * per ≤ s.ticks →
    Completes (.calibrationRequest n) s fun t => (t.port n).calAt = s.ticks ∧ .dlyReq ∈ (t.port n).ctl ∧
      (∀ m, m ≠ n.val → t.port m = s.port m)) ∧
  (∀ (s : State) (n : Port) (w : Word) (ago sent rtt : Nat) (owd : Int) (rest : List (Nat × Nat × Bool)),
    (s.port n).calOut = (wbits w 47 32, sent, false) :: rest → rest.all (fun e => e.1 != wbits w 47 32 && !e.2.2) = true →
    s.wordsLive n = true →
    rtt = uInt 32 (((s.ticks : Int) - sent) * 65536 - ago - s.rxDelay n - (wbits w 31 0 : Nat)) →
    owd = sNat 32 (uInt 32 (rnd rtt 1 0 + sNat 32 (s.fld (Reg.AL_ASYM n) F.AL_ASYM_ASYM))) →
    Completes (.dlyRsp (.al n) w ago) s fun t => t.fld (Reg.AL_RTD n) F.AL_RTD_RTT = rtt ∧
      t.fld (Reg.AL_OWD n) F.AL_OWD_OWD = uInt 32 owd ∧ t.fld (Reg.AL_STAT n) F.AL_STAT_CAL_STALE = 0 ∧
      (t.port n).calRun = 0 ∧ (t.port n).calOut = rest ∧ (t.port n).calOk = true ∧ (t.port n).owdUp = (rtt : Int) - owd ∧ .sync ∈ (t.port n).ctl ∧
      ((s.port n).calEver = true → s.fld (Reg.AL_CALTOL n) F.AL_CALTOL_TOL <
          (owd - sNat 32 (s.fld (Reg.AL_OWD n) F.AL_OWD_OWD)).natAbs →
        OccurredBit (3 * n + 2) (Reg.AL_EVENT n) 2 s t ∧ t.fld (Reg.AL_EVENT n) F.AL_EVENT_LAST_TIMING = 1) ∧
      (∀ m, m ≠ n.val → t.port m = s.port m) ∧
      RegsKeptEv [Reg.AL_RTD n, Reg.AL_OWD n, Reg.AL_STAT n, Reg.AL_EVENT n] s t) ∧
  (∀ (s : State) (n : Port) (id sent : Nat) (ans : Bool) (rest : List (Nat × Nat × Bool)),
    (s.port n).calOut = (id, sent, ans) :: rest → rest.all (fun e => !e.2.2) = true → sent + 32768 ≤ s.ticks →
    s.tstate (.al n) = 5 →
    Completes (.dlyRspMissing (.al n)) s fun t => (t.port n).calOut = rest ∧ (t.port n).calRun = (s.port n).calRun + 1 ∧
      ((s.port n).calRun = 2 → t.fld (Reg.AL_STAT n) F.AL_STAT_CAL_STALE = 1 ∧
        OccurredBit (3 * n + 2) (Reg.AL_EVENT n) 2 s t ∧ t.fld (Reg.AL_EVENT n) F.AL_EVENT_LAST_TIMING = 2) ∧
      RegsKeptEv [Reg.AL_STAT n, Reg.AL_EVENT n] s t) ∧
  (∀ (s : State) (n : Port) (id sent : Nat) (ans : Bool) (rest : List (Nat × Nat × Bool)),
    (s.port n).calOut = (id, sent, ans) :: rest → sent + 32768 ≤ s.ticks → s.tstate (.al n) = 4 →
    Completes (.dlyRspMissing (.al n)) s fun t => t.tstate (.al n) = 0 ∧ Counted (Reg.AL_TRAINFAIL n) s t ∧
      (s.port n).train.fails + 1 = (t.port n).train.fails ∧ (t.port n).train.retryAt = some (s.ticks + 1966080)) ∧
  (∀ (s : State) (n : Port) (since : Nat), (s.port n).inhSince = some since → since + 39322 < s.ticks →
    Completes (.inhibitMuteCheck n) s fun t => t.port n = { s.port n with inhLong := true } ∧
      ∀ m, m ≠ n.val → t.port m = s.port m)

/-! ## Training, presence and lane sparing of both kinds of link (08, 14) -/

/-- Training of an A-link or a Cloton link (R254, R256, R261, R409, R434): three probes alike change PRESENT and a port in
Down that is enabled and sees its far end enters Lock; each later state follows when its condition holds, up to Up, which
raises the link's event; a failure or a time limit returns the port to Down and is counted, and the port tries again. -/
def Obligations.TrainingRisesStateByState : Prop :=
  (∀ (s : State) (e : LinkEnd) (found : Found) (pr : Bool), s.tstate e = 0 → s.linkOn e = true →
    (s.train e).probeAt.all (fun x => decide (x + 1966080 ≤ s.ticks)) = true →
    pr = (if found = .all ∧ 2 ≤ (s.train e).hits then true else if found = .none ∧ 2 ≤ (s.train e).misses then false
      else (s.train e).present) →
    Completes (.presenceProbe e found) s fun t => (t.train e).present = pr ∧ (t.train e).probeAt = some s.ticks ∧
      (t.train e).hits = (if found = .all then min 3 ((s.train e).hits + 1) else 0) ∧
      (t.train e).misses = (if found = .none then min 3 ((s.train e).misses + 1) else 0) ∧
      t.tstate e = (if s.linkEn e && pr && (s.train e).retryAt.all (fun x => decide (x ≤ s.ticks)) then 1 else 0) ∧
      (∀ n, e = .al n → t.fld (Reg.AL_STAT n) F.AL_STAT_PRESENT = (if pr then 1 else 0) ∧
        ((s.train e).present = true → pr = false → LinkOccurred e 0 s t ∧
          t.fld (Reg.AL_EVENT n) F.AL_EVENT_LAST_LINK = 7)) ∧ RegsKeptEv [linkStat e, linkEvents e] s t) ∧
  (∀ (s : State) (e : LinkEnd), s.tstate e = 1 → (s.train e).since + 196608 ≤ s.ticks →
    Completes (.receiverLock e) s fun t => t.tstate e = 2 ∧ (t.train e).since = s.ticks ∧
      (∀ n, e = .al n → t.fld (Reg.AL_STAT n) F.AL_STAT_CDR0 = 1 ∧ t.fld (Reg.AL_STAT n) F.AL_STAT_CDR1 = 1) ∧
      (∀ x : ClPort, e = .cl x → x ≠ 0 → s.fld (Reg.CL_PORT_CFG x) F.CL_PORT_CFG_PHASE_SRC ≠ 0 →
        s.fld (Reg.CL_PORT_CFG x) F.CL_PORT_CFG_PHASE_SRC ≠ x.val → t.fld (Reg.CL_PORT_STAT x) F.CL_PORT_STAT_PHASE =
          (s.fld (Reg.CL_PORT_STAT (s.fld (Reg.CL_PORT_CFG x) F.CL_PORT_CFG_PHASE_SRC)) F.CL_PORT_STAT_RXPHASE + 312) % 32) ∧
      (∀ x : ClPort, e = .cl x → x = 0 ∨ s.fld (Reg.CL_PORT_CFG x) F.CL_PORT_CFG_PHASE_SRC = 0 →
        t.fld (Reg.CL_PORT_STAT x) F.CL_PORT_STAT_PHASE = 0) ∧ RegsKept [linkStat e] s t) ∧
  (∀ (s : State) (e : LinkEnd), s.tstate e = 2 → 8 ≤ (s.train e).good → (s.train e).farLock = true →
    Completes (.frameLock e) s fun t => t.tstate e = 3 ∧ (t.train e).since = s.ticks ∧ RegsKept [linkStat e] s t) ∧
  (∀ (s : State) (e : LinkEnd), s.tstate e = 3 → 8 ≤ (s.train e).farDone →
    Completes (.cfgDone e) s fun t => t.tstate e = 4 ∧ (t.train e).since = s.ticks ∧
      (∀ n : Port, e = .al n → (t.port n).ctl = [.dlyReq] ∧ (t.port n).calOk = false ∧ (t.port n).calAt = s.ticks) ∧
      (∀ x : ClPort, e = .cl x → (t.clp x).calId = ((s.clp x).calId + 1) % 65536 ∧ (t.clp x).calWait = true ∧
        (t.clp x).calOk = false ∧ [BitVec.ofNat 64 (6 * 2 ^ 60 + (t.clp x).calId)] ∈ (t.clp x).ctl) ∧ RegsKept [linkStat e] s t) ∧
  (∀ (s : State) (e : LinkEnd), s.tstate e = 4 → s.calibrated e = true →
    Completes (.calibrateComplete e) s fun t => t.tstate e = 5 ∧ (t.train e).fails = 0 ∧ LinkOccurred e 0 s t ∧
      (∀ n : Port, e = .al n → t.fld (Reg.AL_EVENT n) F.AL_EVENT_LAST_LINK = 1) ∧ RegsKeptEv [linkStat e, linkEvents e] s t) ∧
  (∀ (s : State) (e : LinkEnd), 1 ≤ s.tstate e → s.tstate e ≤ 4 → (s.train e).since + trainLimit (s.tstate e) ≤ s.ticks →
    Completes (.trainingTimeout e) s fun t => t.tstate e = 0 ∧ (t.train e).fails = (s.train e).fails + 1 ∧
      (t.train e).retryAt = some (s.ticks + 1966080) ∧ Counted (linkFails e) s t ∧
      (∀ n : Port, e = .al n → (s.train e).fails % 16 = 0 → LinkOccurred e 0 s t ∧
        t.fld (Reg.AL_EVENT n) F.AL_EVENT_LAST_LINK = 6) ∧ RegsKeptEv [linkStat e, linkEvents e, linkFails e] s t) ∧
  (∀ (s : State) (e : LinkEnd) (at_ : Nat), (s.train e).retryAt = some at_ → at_ ≤ s.ticks → s.tstate e = 0 →
    s.linkEn e = true → s.linkOn e = true → (s.train e).present = true →
    Completes (.trainingRetry e) s fun t => t.tstate e = 1 ∧ (t.train e).since = s.ticks ∧ (t.train e).retryAt = none ∧
      RegsKept [linkStat e] s t)

/-- Lane sparing and the ends of a link (R259, R260, R262, R409, R412): READY is answered with GO for a slot 16 frames on;
at that slot the lane moves to the spare and the repair record is due; without READY in 2 ms the swap is given up with an
error; a link lost, or taken down by its RETRAIN bit, is Down with nothing left to send. -/
def Obligations.LanesMoveAndLinksGoDown : Prop :=
  (∀ (s : State) (n : Port) (w : Word) (l ph at_ : Nat), (s.port n).swap = some ⟨l, ph, at_, none⟩ → s.isUp (.al n) = true →
    (s.port n).shut = false → wbits w 63 60 = 0xB → wbits w 59 58 = 1 →
    Completes (.spareReady (.al n) w) s fun t =>
      (t.port n).swap = some ⟨l, ph, at_, some (s.ticks + (32 - s.now % 32) % 32 + 16 * 32)⟩ ∧
      .spare 2 l ph ∈ (t.port n).ctl ∧ OtherPortsKept n s t) ∧
  (∀ (s : State) (x : ClPort) (w : Word) (l ph at_ : Nat), (s.clp x).swap = some ⟨l, ph, at_, none⟩ →
    s.isUp (.cl x) = true → (s.clp x).shut = false → wbits w 63 60 = 0xB → wbits w 59 58 = 1 →
    Completes (.spareReady (.cl x) w) s fun t => (t.clp x).swap = some ⟨l, ph, at_, some (s.ticks +
        (32 + s.fld (Reg.CL_PORT_STAT x) F.CL_PORT_STAT_PHASE - s.now % 32) % 32 + 16 * 32)⟩ ∧
      (t.clp x).ctl = (s.clp x).ctl ++ [[clSpareWord 2 l ((s.clp x).fcnt + 16)]] ∧ OtherClKept x s t) ∧
  (∀ (s : State) (n : Port) (l ph at_ go : Nat), (s.port n).swap = some ⟨l, ph, at_, some go⟩ → go ≤ s.ticks → l < 2 →
    ph = 16 ∨ ph = 17 →
    Completes (.laneSwap (.al n)) s fun t => (t.port n).swap = none ∧ t.repairDue = true ∧
      t.fld (Reg.AL_LANEMAP n) (if l = 0 then F.AL_LANEMAP_LANE0 else F.AL_LANEMAP_LANE1) = ph ∧
      (ph = 16 → t.fld (Reg.AL_GRP_SPARE_STAT (n / 8)) F.AL_GRP_SPARE_STAT_USED16 = 1 ∧
        t.fld (Reg.AL_GRP_SPARE_STAT (n / 8)) F.AL_GRP_SPARE_STAT_PORT16 = n.val % 8 ∧
        t.fld (Reg.AL_GRP_SPARE_STAT (n / 8)) F.AL_GRP_SPARE_STAT_LLANE16 = l) ∧
      (ph = 17 → t.fld (Reg.AL_GRP_SPARE_STAT (n / 8)) F.AL_GRP_SPARE_STAT_USED17 = 1 ∧
        t.fld (Reg.AL_GRP_SPARE_STAT (n / 8)) F.AL_GRP_SPARE_STAT_PORT17 = n.val % 8 ∧
        t.fld (Reg.AL_GRP_SPARE_STAT (n / 8)) F.AL_GRP_SPARE_STAT_LLANE17 = l) ∧
      OtherPortsKept n s t ∧ RegsKept [Reg.AL_LANEMAP n, Reg.AL_GRP_SPARE_STAT (n / 8)] s t) ∧
  (∀ (s : State) (x : ClPort) (l ph at_ go : Nat), (s.clp x).swap = some ⟨l, ph, at_, some go⟩ → go ≤ s.ticks →
    Completes (.laneSwap (.cl x)) s fun t => (t.clp x).swap = none ∧ (t.clp x).map = some l ∧ t.repairDue = true ∧
      t.fld (Reg.CL_PORT_STAT x) F.CL_PORT_STAT_SPARE_USED = 1 ∧ OccurredBit 598 Reg.TW_EVENT 14 s t ∧ OtherClKept x s t ∧
      RegsKeptEv [Reg.CL_PORT_STAT x, Reg.TW_EVENT] s t) ∧
  (∀ (s : State) (n : Port) (l ph at_ : Nat), (s.port n).swap = some ⟨l, ph, at_, none⟩ → at_ + 3932160 ≤ s.ticks →
    Completes (.spareAbortTimeout (.al n)) s fun t => (t.port n).swap = none ∧ .spare 3 l ph ∈ (t.port n).ctl ∧
      LinkOccurred (.al n) 1 s t ∧ t.fld (Reg.AL_EVENT n) F.AL_EVENT_LAST_ERR = 8 ∧ OtherPortsKept n s t ∧
      RegsKeptEv [Reg.AL_EVENT n] s t) ∧
  (∀ (s : State) (x : ClPort) (l ph at_ : Nat), (s.clp x).swap = some ⟨l, ph, at_, none⟩ → at_ + 3932160 ≤ s.ticks →
    Completes (.spareAbortTimeout (.cl x)) s fun t => (t.clp x).swap = none ∧
      (t.clp x).ctl = (s.clp x).ctl ++ [[clSpareWord 3 l 0]] ∧ LinkOccurred (.cl x) 1 s t ∧ OtherClKept x s t ∧
      RegsKeptEv [Reg.TW_EVENT] s t) ∧
  (∀ (s : State) (n : Port) (lane : Fin 4), s.tstate (.al n) = 5 →
    Completes (.recoveredClockLoss (.al n) lane) s fun t => t.tstate (.al n) = 0 ∧ (t.port n).unack = [] ∧ (t.port n).busQ = [] ∧
      (t.port n).swap = none ∧ t.fld (Reg.AL_EVENT n) F.AL_EVENT_LAST_LINK = 2 ∧
      ((s.port n).swap = none → ∀ ph rest, s.freeSpares n = ph :: rest → t.repairDue = true ∧
        t.fld (Reg.AL_LANEMAP n) (if lane.val % 2 = 0 then F.AL_LANEMAP_LANE0 else F.AL_LANEMAP_LANE1) = ph) ∧
      OtherPortsKept n s t) ∧
  (∀ (s : State) (x : ClPort) (lane : Fin 4), s.tstate (.cl x) = 5 →
    Completes (.recoveredClockLoss (.cl x) lane) s fun t => t.tstate (.cl x) = 0 ∧ (t.clp x).unack = [] ∧ (t.clp x).ctl = [] ∧
      t.fld (Reg.CL_PORT_STAT x) F.CL_PORT_STAT_SPARE_USED = 1 ∧
      (s.flag (Reg.CL_PORT_STAT x) F.CL_PORT_STAT_SPARE_USED = false → (t.clp x).map = some lane.val ∧ t.repairDue = true) ∧
      (s.flag (Reg.CL_PORT_STAT x) F.CL_PORT_STAT_SPARE_USED = true → (t.clp x).map = (s.clp x).map) ∧ OtherClKept x s t) ∧
  (∀ (s : State) (e : LinkEnd) (lane : Fin 4), 2 ≤ s.tstate e → s.tstate e ≤ 4 →
    Completes (.recoveredClockLoss e lane) s fun t => t.tstate e = 0 ∧ (t.train e).fails = (s.train e).fails + 1 ∧
      (t.train e).retryAt = some (s.ticks + 1966080) ∧ Counted (linkFails e) s t) ∧
  (∀ (s : State) (n : Port), s.tstate (.al n) ≠ 0 →
    Completes (.alCtrlRetrain n) s fun t => t.tstate (.al n) = 0 ∧ (t.port n).unack = [] ∧ (t.port n).busQ = [] ∧
      (t.port n).rx = [] ∧ (t.port n).tx = [] ∧ (t.port n).reads = [] ∧ t.fld (Reg.AL_EVENT n) F.AL_EVENT_LAST_LINK = 5 ∧
      (t.train (.al n)).retryAt = some s.ticks ∧ OtherPortsKept n s t) ∧
  (∀ (s : State) (x : ClPort), s.tstate (.cl x) ≠ 0 →
    Completes (.clPortRetrain x) s fun t => t.tstate (.cl x) = 0 ∧ (t.clp x).unack = [] ∧ (t.clp x).hUnack = [] ∧
      (t.clp x).ctl = [] ∧ (t.clp x).txSeq = 0 ∧ (t.clp x).rxSeq = 0 ∧ (x = 0 → t.pair = 0) ∧ LinkOccurred (.cl x) 0 s t ∧
      OtherClKept x s t)

/-- What arrives in a frame (R236, R254, R255, R262, R408, R412): more than 16 symbol errors make a frame uncorrectable,
which is counted, is an error, ends the run of good frames, and takes down an Up link at the eighth in a row (the sixteenth
half-frame); a training frame on an Up link takes it down, and one in Align or Config that differs from the port's own map
fails training; a good normal frame ends the run of bad ones; one with cell 15 against its reservation is discarded whole. -/
def Obligations.FramesAreCountedAndTakeLinksDown : Prop :=
  (∀ (s : State) (n : Port) (half : Fin 2) (ago : Nat) (hdr : Word) (cells : List (List Word)) (errs : List Nat),
    2 ≤ s.tstate (.al n) → s.linkOn (.al n) = true → 16 < errs.length →
    Completes (.frameReceive (.al n) half ago hdr cells errs) s fun t => Counted (Reg.AL_UNCORR n) s t ∧
      (t.rdW (Reg.AL_EVENT n)).toNat.testBit 1 = true ∧ t.fld (Reg.AL_EVENT n) F.AL_EVENT_LAST_ERR = 1 ∧
      (s.isUp (.al n) = true → 7 ≤ (s.train (.al n)).bad → t.tstate (.al n) = 0 ∧
        t.fld (Reg.AL_EVENT n) F.AL_EVENT_LAST_LINK = 3) ∧
      (s.isUp (.al n) = true → (s.train (.al n)).bad < 7 → t.tstate (.al n) = 5 ∧ .ack true ∈ (t.port n).ctl ∧
        (t.train (.al n)).bad = (s.train (.al n)).bad + 1) ∧
      (s.isUp (.al n) = false → t.fld (Reg.AL_STAT n) F.AL_STAT_FRAME_LOCK = 0 ∧ (t.train (.al n)).good = 0)) ∧
  (∀ (s : State) (x : ClPort) (half : Fin 2) (ago : Nat) (hdr : Word) (cells : List (List Word)) (errs : List Nat),
    2 ≤ s.tstate (.cl x) → s.on 5 = true → 16 < errs.length →
    Completes (.frameReceive (.cl x) half ago hdr cells errs) s fun t => Counted (Reg.CL_PORT_UNCORR x) s t ∧
      (t.rdW Reg.TW_EVENT).toNat.testBit 9 = true ∧
      (s.isUp (.cl x) = true → 15 ≤ (s.train (.cl x)).bad → t.tstate (.cl x) = 0) ∧
      (s.isUp (.cl x) = true → (s.train (.cl x)).bad < 15 → t.tstate (.cl x) = 5 ∧
        [clAckWord x true (if x.val = 0 then (s.clp x).rxSeq else (s.clp x).hRxSeq)] ∈ (t.clp x).ctl)) ∧
  (∀ (s : State) (n : Port) (half : Fin 2) (ago : Nat) (hdr : Word) (cells : List (List Word)),
    s.tstate (.al n) = 5 → s.linkOn (.al n) = true → wbits hdr 63 60 = 2 →
    Completes (.frameReceive (.al n) half ago hdr cells []) s fun t => t.tstate (.al n) = 0 ∧
      t.fld (Reg.AL_EVENT n) F.AL_EVENT_LAST_LINK = 4) ∧
  (∀ (s : State) (n : Port) (half : Fin 2) (ago : Nat) (hdr w0 w1 : Word) (ws : List Word) (cells : List (List Word)),
    s.tstate (.al n) = 2 ∨ s.tstate (.al n) = 3 → s.linkOn (.al n) = true → wbits hdr 63 60 = 2 →
    wbits w0 63 56 = 1 → wbits w0 52 48 = s.fld (Reg.AL_LANEMAP n) F.AL_LANEMAP_LANE0 →
    wbits w0 47 43 = s.fld (Reg.AL_LANEMAP n) F.AL_LANEMAP_LANE1 →
    Completes (.frameReceive (.al n) half ago hdr ((w0 :: w1 :: ws) :: cells) []) s fun t => t.tstate (.al n) = s.tstate (.al n) ∧
      t.rdW (Reg.AL_LE_ID n) = w1 ∧ t.fld (Reg.AL_STAT n) F.AL_STAT_BUSW = wbits w0 26 25 ∧
      (t.train (.al n)).good = min 8 ((s.train (.al n)).good + 1) ∧ (t.train (.al n)).farLock = w0.toNat.testBit 54 ∧
      (t.train (.al n)).farDone = (if w0.toNat.testBit 53 then min 8 ((s.train (.al n)).farDone + 1) else 0) ∧
      (7 ≤ (s.train (.al n)).good → t.fld (Reg.AL_STAT n) F.AL_STAT_FRAME_LOCK = 1)) ∧
  (∀ (s : State) (e : LinkEnd) (half : Fin 2) (ago : Nat) (hdr w0 : Word) (ws : List Word) (cells : List (List Word)),
    s.tstate e = 2 ∨ s.tstate e = 3 → s.linkOn e = true → wbits hdr 63 60 = 2 → wbits w0 63 56 ≠ 1 →
    Completes (.frameReceive e half ago hdr ((w0 :: ws) :: cells) []) s fun t => t.tstate e = 0 ∧ Counted (linkFails e) s t ∧
      (t.train e).retryAt = some (s.ticks + 1966080)) ∧
  (∀ (s : State) (n : Port) (half : Fin 2) (ago : Nat) (hdr : Word) (cells : List (List Word)) (errs : List Nat),
    s.tstate (.al n) = 4 → s.linkOn (.al n) = true → errs.length ≤ 16 → wbits hdr 63 60 = 1 →
    Completes (.frameReceive (.al n) half ago hdr cells errs) s fun t => t.tstate (.al n) = 4 ∧ (t.train (.al n)).bad = 0 ∧
      (t.train (.al n)).good = min 8 ((s.train (.al n)).good + 1) ∧
      (t.rdW (Reg.AL_CORR n)).toNat = min ((s.rdW (Reg.AL_CORR n)).toNat + errs.length) 0xFFFFFFFF ∧
      RegsKeptEv [Reg.AL_CORR n, Reg.AL_LANECORR0 n, Reg.AL_LANECORR1 n, Reg.AL_PROTO n, Reg.AL_EVENT n, Reg.AL_STAT n] s t) ∧
  (∀ (s : State) (n : Port) (half : Fin 2) (ago : Nat) (hdr : Word) (cells : List (List Word)) (errs : List Nat),
    4 ≤ s.tstate (.al n) → s.linkOn (.al n) = true → errs.length ≤ 16 → wbits hdr 63 60 = 1 → wbits hdr 11 4 % 8 = 0 →
    wbits hdr 13 12 = 1 ∨ wbits hdr 13 12 = 2 →
    Completes (.frameReceive (.al n) half ago hdr cells errs) s fun t => Counted (Reg.AL_PROTO n) s t ∧
      (t.rdW (Reg.AL_EVENT n)).toNat.testBit 1 = true ∧ t.fld (Reg.AL_EVENT n) F.AL_EVENT_LAST_ERR = 6 ∧
      (t.port n).shut = true ∧ t.pails = s.pails) ∧
  (∀ (s : State) (x : ClPort) (half : Fin 2) (ago : Nat) (hdr : Word) (cells : List (List Word)) (errs : List Nat),
    4 ≤ s.tstate (.cl x) → s.on 5 = true → errs.length ≤ 16 → wbits hdr 63 60 = 1 →
    half = 1 ∨ wbits hdr 11 4 % 8 ≠ 0 ∨ wbits hdr 13 12 = 0 ∨ wbits hdr 13 12 = 3 →
    Completes (.frameReceive (.cl x) half ago hdr cells errs) s fun t => t.tstate (.cl x) = s.tstate (.cl x) ∧
      (t.train (.cl x)).bad = 0 ∧ (t.clp x).rxFcnt = wbits hdr 11 4 ∧
      t.fld (Reg.CL_PORT_STAT x) F.CL_PORT_STAT_RXPHASE = tlAdd s.now (-(ago : Int)) % 32 ∧
      (x = 0 → t.fld Reg.TW_EPOCH F.TW_EPOCH_PEER = wbits hdr 59 44))

/-- The A-link commands of Umger (R256, R259, R262, R266, R401): AL_RETRAIN takes the port down; AL_STATUS and AL_LEDGER
answer the registers and clear nothing; AL_SPARE starts a swap with SPARE PREP; AL_CAL asks an Up port for a calibration. -/
def Obligations.AlinkManagementCommandsAnswer : Prop :=
  (∀ (s : State) (h : UmHdr) (p : List Byte) (n : Port), s.umCheck h 0x0400 p.length = none → leAt p 0 1 = n.val →
    s.tstate (.al n) ≠ 0 →
    Completes (.alRetrain h p) s fun t => ∃ u : State, t = u.reply h 0x0400 stOK [] ∧ u.tstate (.al n) = 0 ∧
      (u.port n).unack = [] ∧ (u.port n).busQ = [] ∧ u.fld (Reg.AL_EVENT n) F.AL_EVENT_LAST_LINK = 5 ∧ OtherPortsKept n s u) ∧
  (∀ (s : State) (h : UmHdr) (p : List Byte) (n : Port), s.umCheck h 0x0401 p.length = none → leAt p 0 1 = n.val →
    Completes (.alStatus h p) s fun t => t.um = (s.reply h 0x0401 stOK
      (([Reg.AL_STAT n, Reg.AL_EVENT n, Reg.AL_RTD n, Reg.AL_OWD n] ++ alCounters n).flatMap
        (fun k => leBytes 4 (s.busWord k)))).um) ∧
  (∀ (s : State) (h : UmHdr) (p : List Byte) (n : Port), s.umCheck h 0x0402 p.length = none → leAt p 0 1 = n.val →
    leAt p 1 1 ≤ 1 → leAt p 2 1 ∈ s.freeSpares n → (s.port n).swap = none →
    Completes (.alSpare h p) s fun t => t.um = (s.reply h 0x0402 stOK []).um ∧
      (t.port n).swap = some ⟨leAt p 1 1, leAt p 2 1, s.ticks, none⟩ ∧
      .spare 0 (leAt p 1 1) (leAt p 2 1) ∈ (t.port n).ctl ∧ OtherPortsKept n s t) ∧
  (∀ (s : State) (h : UmHdr) (p : List Byte) (n : Port), s.umCheck h 0x0403 p.length = none → leAt p 0 1 = n.val →
    s.isUp (.al n) = true →
    Completes (.alCal h p) s fun t => t.um = (s.reply h 0x0403 stOK []).um ∧ .dlyReq ∈ (t.port n).ctl ∧ OtherPortsKept n s t) ∧
  (∀ (s : State) (h : UmHdr) (p : List Byte) (n : Port), s.umCheck h 0x0404 p.length = none → leAt p 0 1 = n.val →
    leAt p 1 1 ≤ 3 →
    Completes (.alLedger h p) s fun t => t.um = (s.reply h 0x0404 stOK
      (leBytes 4 ((s.ledger n (leAt p 1 1) (leAt p 2 2)).toNat / 2 ^ 32) ++
        leBytes 4 ((s.ledger n (leAt p 1 1) (leAt p 2 2)).toNat % 2 ^ 32))).um)

/-! ## Bus traffic across the A-link (09) -/

/-- Host accesses to a local window (R32, R267 to R275): a permitted write or read is split into narrow accesses that join the
port's queue, a read with its tags; a rejected one is counted and, if a read, completes with UR or CA; a read that waits longer
than HTO completes with CA. -/
def Obligations.HostAccessesReachTheWindowsOrAreRejected : Prop :=
  (∀ (s : State) (m : HLink) (off : Nat) (data : List (Option Byte)) (n : Port) (bs : List (Nat × Byte)),
    s.reachable m = true → s.memOn m = true → s.winCheck m off data.length true = .ok n →
    bs = localBytes (swapX (s.fld (Reg.AL_WIN_CTRL n) F.AL_WIN_CTRL_SWAP)) (off % 0x10000000) 0 data →
    Completes (.hostBar4Write m off data) s fun t => (t.port n).acc = (s.port n).acc + 1 ∧
      (t.port n).busQ = (s.port n).busQ ++ pieceCells 1 (s.coreNow + 420) (s.port n).acc false
        ((narrow (2 ^ s.fld (Reg.AL_STAT n) F.AL_STAT_BUSW) bs.length bs).map
          (fun e => busWords 1 0 e.2.length 0 e.1 (leNat e.2))) ∧
      t.regs = s.regs ∧ OtherPortsKept n s t) ∧
  (∀ (s : State) (m : HLink) (off : Nat) (data : List (Option Byte)) (n : Port), s.reachable m = true →
    s.memOn m = true → s.winCheck m off data.length true = .ur (some n) ∨ s.winCheck m off data.length true = .ca n → s.on (domL (n / 8)) = true →
    Completes (.hostBar4Write m off data) s fun t => Counted (Reg.AL_BR_HREJ n) s t ∧ t.ports = s.ports) ∧
  (∀ (s : State) (m : HLink) (off : Nat) (en : List Bool) (n : Port) (ps : List (Nat × Nat)), s.reachable m = true →
    s.memOn m = true → s.winCheck m off en.length false = .ok n → (s.port n).waitRd = [] →
    ps = readSplit (2 ^ s.fld (Reg.AL_STAT n) F.AL_STAT_BUSW) (off % 0x10000000)
      (swapX (s.fld (Reg.AL_WIN_CTRL n) F.AL_WIN_CTRL_SWAP)) en → ps ≠ [] →
    (s.port n).tags.length + ps.length ≤ 128 →
    Completes (.hostBar4Read m off en) s fun t => (t.port n).waitRd = [] ∧
      (t.port n).reads.map (fun r => (r.m, r.off, r.len, r.acc)) =
        (s.port n).reads.map (fun r => (r.m, r.off, r.len, r.acc)) ++ [(m, off % 0x10000000, en.length, (s.port n).acc)] ∧
      (t.port n).reads.map (fun r => r.pieces.map (fun x => (x.addr, x.wid))) =
        (s.port n).reads.map (fun r => r.pieces.map (fun x => (x.addr, x.wid))) ++ [ps] ∧
      (t.port n).busQ.length = (s.port n).busQ.length + ps.length ∧ t.regs = s.regs ∧ OtherPortsKept n s t) ∧
  (∀ (s : State) (m : HLink) (off : Nat) (en : List Bool) (n : Port), s.reachable m = true → s.memOn m = true →
    s.winCheck m off en.length false = .ok n →
    readSplit (2 ^ s.fld (Reg.AL_STAT n) F.AL_STAT_BUSW) (off % 0x10000000)
      (swapX (s.fld (Reg.AL_WIN_CTRL n) F.AL_WIN_CTRL_SWAP)) en = [] →
    Completes (.hostBar4Read m off en) s fun t => t = s.emit (.cpl m 0 (List.replicate en.length 0) (s.winSlice n))) ∧
  (∀ (s : State) (m : HLink) (off : Nat) (en : List Bool) (n : Port), s.reachable m = true → s.memOn m = true →
    s.winCheck m off en.length false = .ok n → (s.port n).waitRd = [] →
    (readSplit (2 ^ s.fld (Reg.AL_STAT n) F.AL_STAT_BUSW) (off % 0x10000000)
      (swapX (s.fld (Reg.AL_WIN_CTRL n) F.AL_WIN_CTRL_SWAP)) en).length + (s.port n).tags.length > 128 →
    readSplit (2 ^ s.fld (Reg.AL_STAT n) F.AL_STAT_BUSW) (off % 0x10000000)
      (swapX (s.fld (Reg.AL_WIN_CTRL n) F.AL_WIN_CTRL_SWAP)) en ≠ [] →
    Completes (.hostBar4Read m off en) s fun t => (t.port n).waitRd.length = 1 ∧ (t.port n).reads = (s.port n).reads ∧
      (t.port n).busQ = (s.port n).busQ ∧ t.regs = s.regs) ∧
  (∀ (s : State) (m : HLink) (off : Nat) (en : List Bool) (n : Port), s.reachable m = true → s.memOn m = true →
    s.winCheck m off en.length false = .ur (some n) → s.on (domL (n / 8)) = true →
    Completes (.hostBar4Read m off en) s fun t => Counted (Reg.AL_BR_HREJ n) s t ∧ .cpl m 1 [] ∈ t.out ∧ t.ports = s.ports) ∧
  (∀ (s : State) (m : HLink) (off : Nat) (en : List Bool) (n : Port), s.reachable m = true → s.memOn m = true →
    s.winCheck m off en.length false = .ca n → s.on (domL (n / 8)) = true →
    Completes (.hostBar4Read m off en) s fun t => Counted (Reg.AL_BR_HREJ n) s t ∧ .cpl m 4 [] ∈ t.out ∧ t.ports = s.ports) ∧
  (∀ (s : State) (n : Port) (tag t0 : Nat) (r : HostRead),
    (s.port n).reads.find? (fun r => r.pieces.any (fun x => x.tag == tag && x.data.isNone)) = some r → r.sent = some t0 →
    t0 + htoTc r.hto ≤ s.ticks → (s.port n).waitRd = [] →
    Completes (.hostReadTimeout n tag) s fun t => Counted (Reg.AL_BR_HTO n) s t ∧ .cpl r.m 4 [] r.sl ∈ t.out ∧
      (t.port n).reads = (s.port n).reads.filter (fun x => x.acc != r.acc) ∧
      (t.port n).busQ = (s.port n).busQ.filter (fun c => c.acc != r.acc) ∧ OtherPortsKept n s t)

/-- The local ends' answers (R241, R252, R275): the last CPL of a host read completes it with its data, an earlier one is
kept; ERR completes it with UR, with EP = 1 or with CA; an answer for a tag that is not outstanding is counted; RETRY from a
local end is a protocol error. -/
def Obligations.LocalAnswersCompleteHostReads : Prop :=
  (∀ (s : State) (n : Port) (w data : Word) (r : HostRead), (s.busTake n w 3).2 = true →
    (s.port n).reads.find? (fun r => r.pieces.any (fun x => x.tag == wbits w 49 42 && x.data.isNone)) = some r →
    (fillPiece (wbits w 49 42) data.toNat r.pieces).all (·.data.isSome) = true → (s.port n).waitRd = [] →
    Completes (.cpl n w data) s fun t =>
      (t.link r.m).later = (s.link r.m).later ++ [⟨s.coreNow + 364, n,
        .cpl r.sl ({ r with pieces := fillPiece (wbits w 49 42) data.toNat r.pieces } : HostRead).bytes⟩] ∧ t.out = s.out ∧
      (t.port n).reads = (s.port n).reads.filter (fun x => x.acc != r.acc) ∧
      (t.port n).rxSeq = ((s.port n).rxSeq + 1) % 1024 ∧ t.regs = s.regs ∧ OtherPortsKept n s t) ∧
  (∀ (s : State) (n : Port) (w data : Word) (r : HostRead), (s.busTake n w 3).2 = true →
    (s.port n).reads.find? (fun r => r.pieces.any (fun x => x.tag == wbits w 49 42 && x.data.isNone)) = some r →
    (fillPiece (wbits w 49 42) data.toNat r.pieces).all (·.data.isSome) = false →
    Completes (.cpl n w data) s fun t => t.out = s.out ∧
      (t.port n).reads = (s.port n).reads.map (fun x =>
        if x.acc = r.acc then { r with pieces := fillPiece (wbits w 49 42) data.toNat r.pieces } else x) ∧
      t.regs = s.regs ∧ OtherPortsKept n s t) ∧
  (∀ (s : State) (n : Port) (w data : Word), (s.busTake n w 3).2 = true →
    (s.port n).reads.find? (fun r => r.pieces.any (fun x => x.tag == wbits w 49 42 && x.data.isNone)) = none →
    Completes (.cpl n w data) s fun t => Counted (Reg.AL_BR_STALE n) s t ∧ t.out = s.out ∧
      (t.port n).reads = (s.port n).reads ∧ RegsKept [Reg.AL_BR_STALE n] s t ∧ OtherPortsKept n s t) ∧
  (∀ (s : State) (n : Port) (w : Word) (r : HostRead), (s.busTake n w 3).2 = true →
    (s.port n).reads.find? (fun r => r.pieces.any (fun x => x.tag == wbits w 49 42 && x.data.isNone)) = some r →
    (s.port n).waitRd = [] →
    Completes (.err n w) s fun t => (t.port n).reads = (s.port n).reads.filter (fun x => x.acc != r.acc) ∧
      (wbits w 39 32 = 1 → t.out = .cpl r.m 1 [] r.sl :: s.out) ∧
      (wbits w 39 32 = 4 → t.out = .cplEp r.m (List.replicate r.len 0) r.sl :: s.out) ∧
      (wbits w 39 32 ≠ 1 → wbits w 39 32 ≠ 4 → .cpl r.m 4 [] r.sl ∈ t.out) ∧ OtherPortsKept n s t) ∧
  (∀ (s : State) (n : Port) (w : Word), (s.busTake n w 3).2 = true →
    Completes (.retry n w) s fun t => Counted (Reg.AL_PROTO n) s t ∧ LinkOccurred (.al n) 1 s t ∧
      (t.port n).reads = (s.port n).reads ∧ OtherPortsKept n s t)

/-- Local ends reaching host memory (R276 to R280): a WR or RD that fails a check is counted and raises BRIDGE_ERROR, the RD
answered with the check's status; a WR that passes becomes a posted write; an RD that passes takes an entry, is answered RETRY
and fetches; a reissue is answered from its entry; what a fetch brings is held, and is discarded when nobody collects it. -/
def Obligations.LocalEndsReachHostMemory : Prop :=
  (∀ (s : State) (n : Port) (w addr data : Word), (s.busTake n w 1).2 = true → s.mode ≠ 7 →
    s.localCheck n addr (accWidth w) true = none →
    Completes (.wr n w addr data) s fun t => (t.link (s.slLink (s.alSlice n))).later = (s.link (s.slLink (s.alSlice n))).later ++
        [⟨s.coreNow + 160, n, .write (s.alSlice n)
          (hostBytes (swapX (s.fld (Reg.AL_WIN_CTRL n) F.AL_WIN_CTRL_SWAP)) addr.toNat (accWidth w) data.toNat).1
          (hostBytes (swapX (s.fld (Reg.AL_WIN_CTRL n) F.AL_WIN_CTRL_SWAP)) addr.toNat (accWidth w) data.toNat).2⟩] ∧
      t.out = s.out ∧ t.regs = s.regs ∧ OtherPortsKept n s t) ∧
  (∀ (s : State) (n : Port) (w addr data : Word) (c : Nat), (s.busTake n w 1).2 = true → s.mode ≠ 7 →
    s.localCheck n addr (accWidth w) true = some c →
    Completes (.wr n w addr data) s fun t => Counted (Reg.AL_BR_LREJ n) s t ∧ Occurred 631 s t ∧ OtherPortsKept n s t ∧
      RegsKeptEv [Reg.AL_BR_LREJ n] s t) ∧
  (∀ (s : State) (n : Port) (w addr : Word), (s.busTake n w 2).2 = true → s.mode ≠ 7 →
    (s.port n).retried.find? (fun e => e.tag == wbits w 49 42) = none → s.localCheck n addr (accWidth w) false = none →
    (s.port n).retried.length < 64 →
    Completes (.rd n w addr) s fun t =>
      (t.port n).retried.map (fun e => (e.tag, e.addr, e.wid)) =
        (s.port n).retried.map (fun e => (e.tag, e.addr, e.wid)) ++ [(wbits w 49 42, addr, accWidth w)] ∧
      (t.port n).retried.map (fun e => (e.m.val, e.held)) =
        (s.port n).retried.map (fun e => (e.m.val, e.held)) ++ [(s.slLink (s.alSlice n) % 32, none)] ∧
      (t.port n).busQ = (s.port n).busQ ++
        [{ words := busWords 4 (wbits w 49 42) (accWidth w) 0 addr.toNat 0,
           cls := 3, due := s.coreNow + 96, acc := (s.port n).acc, cont := false }] ∧
      (t.port n).retried.map (fun e => (e.fetch, e.swap)) = (s.port n).retried.map (fun e => (e.fetch, e.swap)) ++
        [((s.port n).fetches, s.fld (Reg.AL_WIN_CTRL n) F.AL_WIN_CTRL_SWAP)] ∧ (t.port n).fetches = (s.port n).fetches + 1 ∧
      (t.link (s.slLink (s.alSlice n))).later = (s.link (s.slLink (s.alSlice n))).later ++
        [⟨s.coreNow + 160, n, .read (s.alSlice n)
          (hostBytes (swapX (s.fld (Reg.AL_WIN_CTRL n) F.AL_WIN_CTRL_SWAP)) addr.toNat (accWidth w) 0).1 (accWidth w)
          (s.port n).fetches⟩] ∧ t.out = s.out ∧ t.regs = s.regs ∧ OtherPortsKept n s t) ∧
  (∀ (s : State) (n : Port) (w addr : Word) (c : Nat), (s.busTake n w 2).2 = true → s.mode ≠ 7 →
    (s.port n).retried.find? (fun e => e.tag == wbits w 49 42) = none → s.localCheck n addr (accWidth w) false = some c →
    Completes (.rd n w addr) s fun t => Counted (Reg.AL_BR_LREJ n) s t ∧ Occurred 631 s t ∧
      (t.port n).retried = (s.port n).retried ∧
      (t.port n).busQ = (s.port n).busQ ++
        [{ words := busWords 5 (wbits w 49 42) (accWidth w) c addr.toNat 0,
           cls := 3, due := s.coreNow + 96, acc := (s.port n).acc, cont := false }] ∧ OtherPortsKept n s t) ∧
  (∀ (s : State) (n : Port) (w addr : Word), (s.busTake n w 2).2 = true → s.mode ≠ 7 →
    (s.port n).retried.find? (fun e => e.tag == wbits w 49 42) = none → s.localCheck n addr (accWidth w) false = none →
    64 ≤ (s.port n).retried.length →
    Completes (.rd n w addr) s fun t => Counted (Reg.AL_BR_LIMIT n) s t ∧ t.out = s.out ∧
      (t.port n).retried = (s.port n).retried ∧
      (t.port n).busQ = (s.port n).busQ ++
        [{ words := busWords 5 (wbits w 49 42) (accWidth w) 5 addr.toNat 0,
           cls := 3, due := s.coreNow + 96, acc := (s.port n).acc, cont := false }] ∧ RegsKept [Reg.AL_BR_LIMIT n] s t ∧ OtherPortsKept n s t) ∧
  (∀ (s : State) (n : Port) (w addr : Word) (e : Retried), (s.busTake n w 2).2 = true → s.mode ≠ 7 →
    (s.port n).retried.find? (fun e => e.tag == wbits w 49 42) = some e → e.addr = addr → e.wid = accWidth w →
    Completes (.rd n w addr) s fun t => t.out = s.out ∧ t.regs = s.regs ∧
      (t.port n).retried = (if e.held = none then (s.port n).retried
        else (s.port n).retried.filter (fun x => x.tag != wbits w 49 42)) ∧
      (t.port n).busQ = (s.port n).busQ ++ [{ cls := 3, due := s.coreNow + 96, acc := (s.port n).acc, cont := false, words :=
        (match e.held with
         | none => busWords 4 (wbits w 49 42) (accWidth w) 0 addr.toNat 0
         | some (c, v) => if c = 0 then busWords 3 (wbits w 49 42) (accWidth w) 0 addr.toNat v.toNat
           else busWords 5 (wbits w 49 42) (accWidth w) c addr.toNat 0) }] ∧ OtherPortsKept n s t) ∧
  (∀ (s : State) (n : Port) (w addr : Word) (e : Retried), (s.busTake n w 2).2 = true → s.mode ≠ 7 →
    (s.port n).retried.find? (fun e => e.tag == wbits w 49 42) = some e → e.addr ≠ addr ∨ e.wid ≠ accWidth w →
    Completes (.rd n w addr) s fun t => Counted (Reg.AL_PROTO n) s t ∧ t.out.length = s.out.length ∧
      (t.port n).retried = (s.port n).retried.filter (fun x => x.tag != wbits w 49 42) ∧
      (t.port n).busQ = (s.port n).busQ ++
        [{ words := busWords 5 (wbits w 49 42) (accWidth w) 2 addr.toNat 0,
           cls := 3, due := s.coreNow + 96, acc := (s.port n).acc, cont := false }] ∧ OtherPortsKept n s t) ∧
  (∀ (s : State) (n : Port) (fetch : Nat) (data : List Byte) (e : Retried),
    (s.port n).retried.find? (fun e => e.fetch == fetch && e.held.isNone) = some e → data.length = e.wid → e.swap = 0 →
    Completes (.bridgeFetchComplete n fetch .sc data) s fun t =>
      (t.port n).retried = (s.port n).retried.map (fun r =>
        if r.tag = e.tag then { r with held := some (0, BitVec.ofNat 64 (leNat data)), at_ := s.ticks } else r) ∧
      t.regs = s.regs ∧ OtherPortsKept n s t) ∧
  (∀ (s : State) (n : Port) (fetch : Nat) (st : CplStatus) (data : List Byte),
    (s.port n).retried.find? (fun e => e.fetch == fetch && e.held.isNone) = none →
    Completes (.bridgeFetchComplete n fetch st data) s fun t => t = s) ∧
  (∀ (s : State) (n : Port) (fetch : Nat) (data : List Byte) (e : Retried),
    (s.port n).retried.find? (fun e => e.fetch == fetch && e.held.isNone) = some e →
    Completes (.bridgeFetchComplete n fetch .ca data) s fun t =>
      (t.port n).retried = (s.port n).retried.map (fun r =>
        if r.tag = e.tag then { r with held := some (2, 0), at_ := s.ticks } else r) ∧ t.regs = s.regs ∧ OtherPortsKept n s t) ∧
  (∀ (s : State) (n : Port) (tag : Nat) (e : Retried),
    (s.port n).retried.find? (fun e => e.tag == tag && e.held.isNone) = some e →
    Completes (.bridgeFetchTimeout n tag) s fun t =>
      (t.port n).retried = (s.port n).retried.map (fun r =>
        if r.tag = tag then { r with held := some (3, 0), at_ := s.ticks } else r) ∧ OtherPortsKept n s t) ∧
  (∀ (s : State) (n : Port) (tag : Nat) (e : Retried),
    (s.port n).retried.find? (fun e => e.tag == tag && e.held.isSome) = some e → e.at_ + 65536 < s.ticks →
    Completes (.bridgeHoldExpiry n tag) s fun t => Counted (Reg.AL_BR_DISCARD n) s t ∧ Occurred 631 s t ∧
      (t.port n).retried = (s.port n).retried.filter (fun x => x.tag != tag) ∧ OtherPortsKept n s t ∧
      RegsKeptEv [Reg.AL_BR_DISCARD n] s t)

/-! ## Timekeeper (02) -/

/-- Reference and PLL (R51, R55, R56, R63): each command sets or clears its bit of TL_STATE alone, raises its source, and
makes the state change of its cause due; a change to Invalid that is due gives way only from cause 0x9 to cause 0x8. -/
def Obligations.ReferenceAndPllCommandsSetTheirBits : Prop :=
  (∀ s : State, s.flag Reg.TL_STATE F.TL_STATE_REF_PRESENT = true →
    Completes .refDeclaredAbsent s fun t =>
      t.fld Reg.TL_STATE F.TL_STATE_REF_PRESENT = 0 ∧ t.fld Reg.TL_STATE F.TL_STATE_PLL_LOCK = 0 ∧ t.tlState = s.tlState ∧
      (s.on 2 = true → Occurred 531 s t ∧
        t.tk.change = match s.tk.change with
          | some ⟨0, c, d⟩ => if c = 0x9 then some ⟨0, 0x8, s.ticks⟩ else some ⟨0, c, d⟩
          | _ => some ⟨0, 0x8, s.ticks⟩) ∧
      RegsKeptEv [Reg.TL_STATE] s t) ∧
  (∀ s : State, s.flag Reg.TL_STATE F.TL_STATE_REF_PRESENT = false → s.fld Reg.TL_REF_CFG F.TL_REF_CFG_REF_SEL ≤ 4 →
    s.tk.lostAt.all (fun d => decide (d + 1966080 ≤ s.ticks)) = true →
    Completes .refDeclaredPresent s fun t =>
      t.fld Reg.TL_STATE F.TL_STATE_REF_PRESENT = 1 ∧ t.tlState = s.tlState ∧
      t.fld Reg.TL_STATE F.TL_STATE_PLL_LOCK = s.fld Reg.TL_STATE F.TL_STATE_PLL_LOCK ∧
      (s.on 2 = true → Occurred 532 s t) ∧ RegsKeptEv [Reg.TL_STATE] s t) ∧
  (∀ s : State, s.flag Reg.TL_STATE F.TL_STATE_REF_PRESENT = true → s.flag Reg.TL_STATE F.TL_STATE_PLL_LOCK = false →
    s.on 3 = true →
    Completes .pllLockAcquired s fun t =>
      t.fld Reg.TL_STATE F.TL_STATE_PLL_LOCK = 1 ∧ t.tlState = s.tlState ∧
      (s.tk.change = none → s.tlState = 0 → s.flag Reg.TL_STATE F.TL_STATE_HAS_TIME = true → t.tk.change = some ⟨1, 0x1, s.ticks⟩) ∧
      (s.tk.change = none → s.tlState = 0 → s.flag Reg.TL_STATE F.TL_STATE_HAS_TIME = false → t.tk.change = none) ∧
      RegsKept [Reg.TL_STATE] s t) ∧
  (∀ s : State, s.flag Reg.TL_STATE F.TL_STATE_PLL_LOCK = true →
    Completes .pllLockLost s fun t =>
      t.fld Reg.TL_STATE F.TL_STATE_PLL_LOCK = 0 ∧ t.tlState = s.tlState ∧
      (s.tk.change = none → t.tk.change = some ⟨0, 0x9, s.ticks⟩) ∧ RegsKept [Reg.TL_STATE] s t)

/-- PPS edges and misses (R52, R53, R59, R62, R67, R595): an edge of the pin in the window of its nearest expected instant
gives TL_PPS_ERR its phase, TL_LAST_PPS its TL and MISS_RUN zero; an edge outside every window raises source 2; in sleep the
edge is counted; a miss raises source 1 and lengthens MISS_RUN, and at PPS_LOSS misses in Locked the state coasts. -/
def Obligations.PpsEdgesAndMissesAreTaken : Prop :=
  (∀ (s : State) (frac : Fin 65536) (e : Nat) (ph : Int), s.timeSrc = none → s.on 2 = true → s.tlState ≠ 0 →
    s.tk.setReqs.filter (fun r => r.at_ + 65536 ≤ s.ticks) = [] →
    s.nearest ((s.now : Int) * 65536 + (((frac.val / 1024 * 1024 : Nat) : Int) - sNat 32 (s.rdW Reg.TL_PPS_TRIM).toNat)) = (e, ph) →
    ph.natAbs ≤ s.ppsWin * 65536 → tlDiff s.now (tlAdd e (-(s.ppsWin : Int))) ≤ (s.tk.since : Int) →
    Completes (.ppsEdge frac) s fun t =>
      t.rdW Reg.TL_PPS_ERR = BitVec.ofNat 64 (satBits 32 ph) ∧ t.rdW Reg.TL_LAST_PPS = tlOf s.now ∧
      t.fld Reg.TL_STATE F.TL_STATE_MISS_RUN = 0 ∧ t.fld Reg.TL_STATE F.TL_STATE_PPS_PRESENT = 1 ∧ t.tlState = s.tlState ∧
      t.tk.lastWin = some e ∧ t.tk.lastEdge = some s.ticks ∧ t.tk.count = s.tk.count ∧
      (s.tk.change = none → s.tlState = 3 → t.tk.change = some ⟨1, 0x7, s.ticks⟩) ∧
      RegsKept [Reg.TL_PPS_ERR, Reg.TL_LAST_PPS, Reg.TL_STATE] s t) ∧
  (∀ (s : State) (frac : Fin 65536) (e : Nat) (ph : Int), s.timeSrc = none → s.on 2 = true → s.tlState = 2 →
    s.tk.setReqs.filter (fun r => r.at_ + 65536 ≤ s.ticks) = [] →
    s.nearest ((s.now : Int) * 65536 + (((frac.val / 1024 * 1024 : Nat) : Int) - sNat 32 (s.rdW Reg.TL_PPS_TRIM).toNat)) = (e, ph) →
    s.ppsWin * 65536 < ph.natAbs →
    Completes (.ppsEdge frac) s fun t =>
      Occurred 530 s t ∧ t.tk.relock = 0 ∧ t.tk.outPhase = ph ∧ t.tk.count = s.tk.count ∧ RegsKeptEv [] s t) ∧
  (∀ (s : State) (frac : Fin 65536), s.timeSrc = none → s.on 2 = false →
    Completes (.ppsEdge frac) s fun t =>
      t.tk.sleep = s.tk.sleep.map (fun c => c.edge s.aon) ∧ t.regs = s.regs ∧ t.tk.count = s.tk.count) ∧
  (∀ s : State, s.missed = true →
    Completes .ppsMiss s fun t =>
      t.fld Reg.TL_STATE F.TL_STATE_MISS_RUN = min 15 (s.fld Reg.TL_STATE F.TL_STATE_MISS_RUN + 1) ∧ Occurred 529 s t ∧
      t.tk.relock = 0 ∧
      (s.tk.change = none → t.tk.change = if s.tlState = 2 ∧
        s.ppsLoss ≤ min 15 (s.fld Reg.TL_STATE F.TL_STATE_MISS_RUN + 1) then some ⟨3, 0x4, s.ticks⟩ else none) ∧
      RegsKeptEv [Reg.TL_STATE] s t)

/-- State changes, their causes, and the writes of TL_CTRL (R56, R63, R64, R71, R77, R83, R85): a change that is due gives
TL_STATE its state and cause and raises source 0, and Locked sets TL_UNCERT to zero and lets the held blocks and channels go. -/
def Obligations.TimelineStateChangesTakeEffect : Prop :=
  (∀ (s : State) (new cause d : Nat), s.tk.change = some ⟨new, cause, d⟩ → d < s.ticks → new < 4 → new ≠ 2 → cause < 16 →
    (new = 0 ∨ s.tlState ≠ 0) →
    Completes .tlStateChange s fun t =>
      t.tlState = new ∧ t.fld Reg.TL_STATE F.TL_STATE_LAST_CAUSE = cause ∧ (s.tlState ≠ new → Occurred 528 s t) ∧
      (new = 0 → s.flag Reg.TL_STATE F.TL_STATE_REF_PRESENT = true → s.flag Reg.TL_STATE F.TL_STATE_PLL_LOCK = true →
        s.flag Reg.TL_STATE F.TL_STATE_HAS_TIME = true → t.tk.change = some ⟨1, 0x1, s.ticks⟩) ∧ t.tk.count = s.tk.count ∧ RegsKeptEv [Reg.TL_STATE] s t) ∧
  (∀ (s : State) (new cause d : Nat), s.tk.change = some ⟨new, cause, d⟩ → d < s.ticks → new = 1 ∨ new = 3 → cause < 16 → s.tlState = 0 →
    Completes .tlStateChange s fun t => ∃ u : State,
      u.tlState = new ∧ u.fld Reg.TL_STATE F.TL_STATE_LAST_CAUSE = cause ∧ Occurred 528 s u ∧ u.tk.change = none ∧
      RegsKeptEv [Reg.TL_STATE] s u ∧
      t = if new = 1 then (u.alarmsSkipped [0, 1, 2, 3]).tryLock else u.alarmsSkipped [0, 1, 2, 3]) ∧
  (∀ (s : State) (cause d : Nat), s.tk.change = some ⟨2, cause, d⟩ → d < s.ticks → cause < 16 → s.tlState ≠ 0 →
    Completes .tlStateChange s fun t => ∃ u : State,
      u.tlState = 2 ∧ u.fld Reg.TL_STATE F.TL_STATE_LAST_CAUSE = cause ∧ (s.tlState ≠ 2 → Occurred 528 s u) ∧
      u.rdW Reg.TL_UNCERT = 0 ∧ u.tk.change = none ∧ u.pails = s.pails ∧ u.chans = s.chans ∧
      RegsKeptEv [Reg.TL_STATE, Reg.TL_UNCERT] s u ∧
      t = (u.setPails (letGoPails u.pails)).dmaLetGo u.liveChans) ∧
  (∀ s : State, s.on 2 = true → s.um.armed = none → s.tk.change = none →
    Completes .tlCtrlInvalidate s fun t =>
      t.fld Reg.TL_STATE F.TL_STATE_HAS_TIME = 0 ∧ t.tlState = s.tlState ∧ t.tk.change = some ⟨0, 0xA, s.ticks⟩ ∧
      RegsKept [Reg.TL_STATE] s t) ∧
  (∀ s : State, s.on 2 = true →
    Completes .tlCtrlClrStr s fun t =>
      t.rdW Reg.TL_STR_TOTAL = 0 ∧ t.rdW Reg.TL_CSTR_COUNT = 0 ∧ (∀ q : Quad, t.rdW (Reg.TL_QSTR_COUNT q) = 0) ∧
      RegsKept [Reg.TL_STR_TOTAL, Reg.TL_CSTR_COUNT, Reg.TL_QSTR_COUNT 0, Reg.TL_QSTR_COUNT 1, Reg.TL_QSTR_COUNT 2,
        Reg.TL_QSTR_COUNT 3] s t) ∧
  (∀ s : State, s.flag Reg.TL_STATE F.TL_STATE_REF_PRESENT = false → 50000 ≤ s.tk.absent →
    Completes .tlUncertGrowth s fun t =>
      t.rdW Reg.TL_UNCERT = BitVec.ofNat 64 (min ((s.rdW Reg.TL_UNCERT).toNat + 1) (2 ^ 64 - 1)) ∧
      t.tk.absent = s.tk.absent - 50000 ∧ RegsKept [Reg.TL_UNCERT] s t) ∧
  (∀ (s : State) (ratio : BitVec 32), s.flag Reg.TL_STATE F.TL_STATE_REF_PRESENT = true →
    s.tk.ratioAt.all (fun d => decide (d + secTc ≤ s.ticks)) = true →
    Completes (.aonRatioMeasure ratio) s fun t =>
      t.rdW Reg.TL_AON_RATIO = ratio.setWidth 64 ∧ t.fld Reg.TL_STATE F.TL_STATE_AON_CAL = 1 ∧ t.tlState = s.tlState ∧
      RegsKept [Reg.TL_AON_RATIO, Reg.TL_STATE] s t)

/-- Alarms (R82 to R84): at its instant an enabled alarm fires, is FIRED and raises its source; with PERIOD 0 its enable
ends, else its instant moves on by the least number of periods that passes the present count. An alarm's lead wakes the
device, and the scheduler votes on the domains of due work. -/
def Obligations.AlarmsFireAndWake : Prop :=
  (∀ (s : State) (a : Fin 4), s.on 2 = true → s.tlState ≠ 0 → s.alarmDue a = true →
    s.fld (Reg.TL_ALARM_PERIOD a) F.TL_ALARM_PERIOD_PERIOD = 0 →
    Completes (.alarmFire a) s fun t =>
      t.fld (Reg.TL_ALARM_CTRL a) F.TL_ALARM_CTRL_FIRED = 1 ∧
      t.fld (Reg.TL_ALARM_CTRL a) F.TL_ALARM_CTRL_SKIPPED =
        (if tlLater s.now (tlCount (s.rdW (Reg.TL_ALARM_AT a))) then 1 else 0) ∧
      t.fld (Reg.TL_ALARM_CTRL a) F.TL_ALARM_CTRL_EN = 0 ∧ Occurred (540 + a) s t ∧
      RegsKeptEv [Reg.TL_ALARM_CTRL a] s t) ∧
  (∀ (s : State) (a : Fin 4) (per : Nat), s.on 2 = true → s.tlState ≠ 0 → s.alarmDue a = true →
    s.fld (Reg.TL_ALARM_PERIOD a) F.TL_ALARM_PERIOD_PERIOD = per → per ≠ 0 →
    Completes (.alarmFire a) s fun t =>
      t.fld (Reg.TL_ALARM_CTRL a) F.TL_ALARM_CTRL_FIRED = 1 ∧
      t.fld (Reg.TL_ALARM_CTRL a) F.TL_ALARM_CTRL_EN = s.fld (Reg.TL_ALARM_CTRL a) F.TL_ALARM_CTRL_EN ∧
      t.rdW (Reg.TL_ALARM_AT a) = tlOf ((tlCount (s.rdW (Reg.TL_ALARM_AT a)) +
        ((tlDiff s.now (tlCount (s.rdW (Reg.TL_ALARM_AT a)))).toNat / per + 1) * per) % piTl) ∧
      Occurred (540 + a) s t ∧ RegsKeptEv [Reg.TL_ALARM_CTRL a, Reg.TL_ALARM_AT a] s t) ∧
  (∀ (s : State) (a : Fin 4) (c : SleepCount), s.tk.sleep = some c → s.asleep = true → c.has = true →
    s.flag (Reg.TL_ALARM_CTRL a) F.TL_ALARM_CTRL_EN = true → s.flag (Reg.TL_ALARM_CTRL a) F.TL_ALARM_CTRL_WAKE_EN = true →
    tlReached ((c.count + (c.wake s.ticks s.aon).1 + (s.fld Reg.TL_WAKE_LEAD F.TL_WAKE_LEAD_LEAD +
      (if c.refLost then (c.wake s.ticks s.aon).2.1 else 0))) % piTl) (tlCount (s.rdW (Reg.TL_ALARM_AT a))) = true →
    s.pw.wake = none → (s.rdW Reg.PW_WAKE_EN).toNat.testBit 4 = true →
    Completes (.alarmWakeStart a) s fun t => t.pw.wake = some ⟨s.aon, 2 ^ 4, 0⟩) ∧
  (∀ s : State, Completes .timelineSchedulerVote s fun t => t.pw.sched = s.dueDoms ∧ t.pw.wake = s.pw.wake) ∧
  (∀ (s : State) (h : UmHdr) (p : List Byte), s.umCheck h 0x0301 p.length = none →
    Completes (.tlGet h p) s fun t => t.um = (s.reply h 0x0301 stOK (leBytes 8 (s.busWord Reg.TL_NOW) ++
      leBytes 4 (s.busWord Reg.TL_STATE) ++ leBytes 4 (s.busWord Reg.TL_PPS_ERR) ++ leBytes 8 (s.busWord Reg.TL_UNCERT) ++
      leBytes 8 (s.busWord Reg.TL_LAST_PPS))).um) ∧
  (∀ (s : State) (h : UmHdr) (p : List Byte), s.umCheck h 0x0300 p.length = none →
    leAt p 8 1 = 1 ∨ (leAt p 8 1 = 0 ∧ s.tlState ≠ 2) → tlValid (BitVec.ofNat 64 (leAt p 0 8)) = true →
    tlCount (BitVec.ofNat 64 (leAt p 0 8)) % secTc = s.fld Reg.TL_PPS_OFFSET F.TL_PPS_OFFSET_OFFSET →
    Completes (.tlSet h p) s fun t =>
      t.tk.setReqs = s.tk.setReqs ++ [⟨s.ticks, tlCount (BitVec.ofNat 64 (leAt p 0 8)), h⟩] ∧
      t.um = (s.accept h 0x0300 []).um ∧ t.tk.count = s.tk.count) ∧
  (∀ (s : State) (r : TlSetReq) (rs : List TlSetReq), s.tk.setReqs = r :: rs → r.at_ + 2 * secTc ≤ s.ticks →
    Completes .tlSetTimeout s fun t =>
      t.tk.setReqs = rs ∧ t.um = (s.final r.hdr 0x0300 stTlNoPps noDetail []).um ∧ RegsKeptEv [] s t)

/-- The stretch of core cycles, and the calibration of ports (R73, R74, R76): an episode starts with the second core cycle
after the crossing and ends after a multiple of four cycles; a group's ports take their measured delays, whole in 1/64 Tc. -/
def Obligations.StretchEpisodesAndPortCalibration : Prop :=
  (∀ (s : State) (quads : Fin 32), quads.val ≠ 0 → (∀ f c, s.tk.episode = some ⟨f, c⟩ → ∃ x, c = some x ∧ x ≤ s.core) →
    Completes (.stretchEpisodeStart quads) s fun t =>
      t.tk.episode = some ⟨s.core + 2, none⟩ ∧ t.tk.detectors = quads.val ∧
      t.fld Reg.PW_SUP_STAT F.PW_SUP_STAT_STRETCH = 1 ∧ RegsKept [Reg.PW_SUP_STAT] s t) ∧
  (∀ (s : State) (quads : Fin 32) (first : Nat) (stop : Option Nat), quads.val ≠ 0 → s.tk.episode = some ⟨first, stop⟩ →
    (∀ c, stop = some c → s.core < c) →
    Completes (.stretchEpisodeStart quads) s fun t =>
      t.tk.episode = some ⟨first, none⟩ ∧ t.tk.detectors = quads.val ∧
      t.fld Reg.PW_SUP_STAT F.PW_SUP_STAT_STRETCH = 1 ∧ RegsKept [Reg.PW_SUP_STAT] s t) ∧
  (∀ (s : State) (first : Nat), s.tk.episode = some ⟨first, none⟩ → first ≤ s.core + 2 →
    Completes .stretchEpisodeEnd s fun t => ∃ n, t.tk.episode = some ⟨first, some (first + 4 * n)⟩ ∧
      s.core + 3 ≤ first + 4 * n ∧ first + 4 * n < s.core + 7 ∧ t.tk.detectors = 0 ∧
      t.fld Reg.PW_SUP_STAT F.PW_SUP_STAT_STRETCH = 0 ∧ RegsKept [Reg.PW_SUP_STAT] s t) ∧
  (∀ (s : State) (g : Group) (meas : List (Nat × Nat)), s.on (domL g) = true → meas.length = 8 →
    SMap.get 0 s.calDue g ≠ 0 → SMap.get 0 s.calDue g + 4095 ≤ s.ticks →
    Completes (.portCalibration g meas) s fun t => ∀ i (hi : i < meas.length),
      t.rdW (Reg.TL_PORT_TXCAL (8 * g + i)) = BitVec.ofNat 64 ((meas[i]'hi).1 / 1024 * 1024 % 2 ^ 32) ∧
      t.rdW (Reg.TL_PORT_RXCAL (8 * g + i)) = BitVec.ofNat 64 ((meas[i]'hi).2 / 1024 * 1024 % 2 ^ 32) ∧
      t.fld Reg.TL_STATE F.TL_STATE_STATE = s.fld Reg.TL_STATE F.TL_STATE_STATE)

/-! ## Host links (10, 11) -/

/-- Resets of host links (R225, R282, R287, R288, R306 to R308, R344, R370, R382): PERST_N, hot reset, entry to Disabled, RETRAIN
and FLR reset the links that they reach; a port that leaves reset takes its next layout, and a link that the layout removes
while the active generation uses it raises HL_LINK. -/
def Obligations.LinkResetsReachTheirLinks : Prop :=
  (∀ (s : State) (p : HPort) (m : HLink), s.flag (Reg.HL_PORT_STAT p) F.HL_PORT_STAT_PERST = false → m.val ∈ s.linksOf p →
    (s.link m).cutAt ≠ some s.ticks → 
    Completes (.perstNAssert p) s fun t => t.fld (Reg.HL_PORT_STAT p) F.HL_PORT_STAT_PERST = 1 ∧ LinkReset m 1 s t ∧
      t.lstate m = 0 ∧ t.fld (Reg.HL_LINK_STAT m) F.HL_LINK_STAT_DLUP = 0) ∧
  (∀ (s : State) (p : HPort) (refclk : Bool) (m : HLink), s.flag (Reg.HL_PORT_STAT p) F.HL_PORT_STAT_PERST = true →
    Completes (.perstNDeassert p refclk) s fun t => t.fld (Reg.HL_PORT_STAT p) F.HL_PORT_STAT_PERST = 0 ∧
      t.fld (Reg.HL_PORT_STAT p) F.HL_PORT_STAT_BIF = s.fld (Reg.HL_PORT_CFG p) F.HL_PORT_CFG_BIF_NEXT ∧
      t.fld (Reg.HL_PORT_STAT p) F.HL_PORT_STAT_REFCLK_OK = (if refclk then 1 else 0) ∧
      (m.val ∈ s.linksOf p → m.val ∉ t.linksOf p → s.usesLink m = true →
        t.fld (Reg.HL_LINK_EVENT m) F.HL_LINK_EVENT_LAST_LINK = 6 ∧
        OccurredBit (288 + 4 * m.val) (Reg.HL_LINK_EVENT m) 0 s t) ∧ t.gen = s.gen ∧ t.mode = s.mode) ∧
  (∀ (s : State) (m : HLink) (disabled : Bool), s.reachable m = true → (s.link m).cutAt ≠ some s.ticks → 
    Completes (.hotReset m disabled) s fun t => LinkReset m (if disabled then 3 else 2) s t ∧
      t.lstate m = (if disabled then 8 else 9) ∧ t.fld (Reg.HL_LINK_STAT m) F.HL_LINK_STAT_DLUP = 0) ∧
  (∀ (s : State) (p : HPort) (m : HLink), s.portReset p = false → m.val ∈ s.linksOf p →
    (s.link m).cutAt ≠ some s.ticks → 
    s.fld (Reg.HL_PORT_CFG p) F.HL_PORT_CFG_BIF_NEXT = s.fld (Reg.HL_PORT_STAT p) F.HL_PORT_STAT_BIF →
    Completes (.hlPortRetrain p) s fun t => LinkReset m 5 s t ∧ t.lstate m = 0) ∧
  (∀ (s : State) (m : HLink), s.reachable m = true → (s.link m).flr = none →
    (s.link m).cutAt ≠ some s.ticks → 
    Completes (.flr m) s fun t => LinkReset m 4 s t ∧ Counted (Reg.HL_LINK_FLR m) s t ∧ (t.link m).flr = some s.ticks ∧
      (m.val = s.mgr → t.fld Reg.UM_SQ_HEAD F.UM_SQ_HEAD_PTR = 0 ∧ t.fld Reg.UM_SQ_TAIL F.UM_SQ_TAIL_PTR = 0 ∧
        t.fld Reg.UM_RQ_HEAD F.UM_RQ_HEAD_PTR = 0)) ∧
  (∀ (s : State) (m : HLink), Completes (.flrComplete m) s fun t => t.link m = { s.link m with flr := none } ∧
    t.regs = s.regs ∧ ∀ n, n ≠ m.val → t.link n = s.link n)

/-- Configuration space and enables (R294, R295, R302, R308, R310 to R312): requests are answered with Request Retry Status
before Ready and during an FLR, and complete otherwise; Memory Space Enable, Bus Master Enable and the D-state follow what is
written, each change an occurrence of HL_MASTER; DOE objects wait for the responder, are answered or set DOE Error. -/
def Obligations.ConfigurationRequestsComplete : Prop :=
  (∀ (s : State) (m : HLink) (off : Nat) (write : Bool) (v : BitVec 32) (be : Fin 16), s.reachable m = true →
    s.mode ≤ 3 ∨ (s.link m).flr.isSome = true →
    Completes (.configRequest m off write v be) s fun t => t.out = .cpl m 2 [] :: s.out ∧ t.links = s.links ∧ t.regs = s.regs) ∧
  (∀ (s : State) (m : HLink) (off : Nat) (v : BitVec 32) (be : Fin 16), s.reachable m = true → 4 ≤ s.mode →
    (s.link m).flr = none → off < 4096 →
    Completes (.configRequest m off false v be) s fun t => t.out = .cpl m 0 (leBytes 4 (s.cfgRead m (off / 4 * 4))) :: s.out ∧
      t.links = s.links ∧ t.regs = s.regs) ∧
  (∀ (s : State) (m : HLink) (off : Nat) (v : BitVec 32) (be : Fin 16), s.reachable m = true → 4 ≤ s.mode →
    (s.link m).flr = none → off < 4096 → off % 4 = 0 → cfgW1c off = 0 →
    off ∉ [0x004, 0x044, 0x048, 0x068, 0x374, 0x388, 0x38C, 0x394] →
    Completes (.configRequest m off true v be) s fun t => t.out = .cpl m 0 [] :: s.out ∧ t.regs = s.regs ∧
      (∀ i : Fin 32, ((t.link m).cfgW off).testBit i =
        (if (cfgRw off &&& beMask be).testBit i then v.toNat.testBit i else ((s.link m).cfgW off).testBit i)) ∧
      (∀ k ∈ (List.range 1024).map (4 * ·), k ≠ off → (t.link m).cfgW k = (s.link m).cfgW k)) ∧
  (∀ (s : State) (m : HLink) (v : BitVec 32) (be : Fin 16), s.reachable m = true → 4 ≤ s.mode → (s.link m).flr = none →
    be.val.testBit 0 = true →
    Completes (.configRequest m 0x004 true v be) s fun t => (t.link m).mse = v.toNat.testBit 1 ∧
      (t.link m).bme = v.toNat.testBit 2) ∧
  (∀ (s : State) (m : HLink) (on : Bool), s.reachable m = true →
    Completes (.memorySpaceEnableChange m on) s fun t => (t.link m).mse = on ∧ (t.link m).bme = (s.link m).bme ∧
      ((s.link m).mse ≠ on → OccurredBit (288 + 4 * m.val + 3) (Reg.HL_LINK_EVENT m) 3 s t)) ∧
  (∀ (s : State) (m : HLink) (d3 : Bool), s.reachable m = true → (s.link m).d3 ≠ d3 →
    Completes (.dStateChange m d3) s fun t => (t.link m).d3 = d3 ∧ t.chans = s.chans ∧
      (t.rdW (Reg.HL_LINK_EVENT m)).toNat.testBit 3 = true ∧ (d3 = true → (t.link m).going = false) ∧
      (d3 = false → (s.link m).bme = true → (t.link m).going = true)) ∧
  (∀ (s : State) (m : HLink) (obj : List Byte), s.reachable m = true → (s.link m).flr = none → 4 ≤ s.mode →
    65536 < obj.length ∨ leAt obj 0 2 ≠ 1 ∨ 2 < leAt obj 2 1 →
    Completes (.doeObject m obj) s fun t => ((t.link m).cfgW 0x38C).testBit 2 = true ∧ (t.link m).doeIn = (s.link m).doeIn ∧
      (t.link m).spdm = (s.link m).spdm ∧ ∀ n, n ≠ m.val → t.link n = s.link n) ∧
  (∀ (s : State) (m : HLink) (obj : List Byte), s.reachable m = true → (s.link m).flr = none → 4 ≤ s.mode →
    obj.length ≤ 65536 → leAt obj 0 2 = 1 → leAt obj 2 1 = 1 ∨ leAt obj 2 1 = 2 →
    Completes (.doeObject m obj) s fun t => t.link m = { s.link m with doeIn := (s.link m).doeIn ++ [obj] } ∧
      ∀ n, n ≠ m.val → t.link n = s.link n) ∧
  (∀ (s : State) (m : HLink) (obj : List Byte), s.reachable m = true → (s.link m).flr = none → 4 ≤ s.mode →
    obj.length ≤ 65536 → leAt obj 0 2 = 1 → leAt obj 2 1 = 0 → leAt obj 8 1 < 3 →
    Completes (.doeObject m obj) s fun t => (t.link m).spdm.out = (s.link m).spdm.out ++
      [leBytes 4 1 ++ leBytes 4 3 ++ leBytes 2 1 ++ leBytes 1 (leAt obj 8 1) ++ leBytes 1 ((leAt obj 8 1 + 1) % 3)])

/-- Translations, MSI-X and errors of a link (R300, R301, R332 to R336, R346): an invalidation drops the matching entries, and
its completion goes when no request issued with them is outstanding; a translation fills one of its slice's 16 entries; a
message whose 140 Tc have passed goes out or becomes pending; a poisoned write or an unexpected completion is an AER error. -/
def Obligations.TranslationsMessagesAndErrorsOfALink : Prop :=
  (∀ (s : State) (m : HLink) (itag pasid : Nat) (addr : Word) (size : Nat), s.reachable m = true →
    Completes (.atsInvalidationRequest m itag pasid addr size) s fun t =>
      (t.link m).ats = (s.link m).ats.filter (fun e => !invHits pasid addr size e.pasid e.page) ∧
      (t.link m).inval.map (·.1) = (s.link m).inval.map (·.1) ++ [itag] ∧
      ∀ n, n ≠ m.val → t.link n = s.link n) ∧
  (∀ (s : State) (m : HLink) (i : Nat × List (Nat × Nat)),
    (s.link m).inval.find? (fun i => i.2.all (fun r => !((s.chan r.1).reads.any (fun x => x.1 == r.2)))) = some i →
    s.inL0 m = true →
    Completes (.atsInvalidationComplete m) s fun t => (t.link m).inval = (s.link m).inval.erase i ∧
      t.out = .invCpl m i.1 :: s.out ∧ t.regs = s.regs) ∧
  (∀ (s : State) (m : HLink) (sl : Slice) (page tr : Nat) (k : Nat × Nat × Nat),
    (s.link m).atsWait.find? (fun k => k.1 == sl.val && k.2.2 == page) = some k →
    (s.link m).atsEn = true → ((s.link m).ats.filter (fun e => e.sl == sl.val)).length < 16 →
    Completes (.translationCompletion m sl page tr true) s fun t =>
      (t.link m).ats = (s.link m).ats ++ [⟨sl, k.2.1, page, tr⟩] ∧ (t.link m).atsWait = (s.link m).atsWait.erase k) ∧
  (∀ (s : State) (m : HLink) (sl : Slice) (page tr : Nat) (k : Nat × Nat × Nat),
    (s.link m).atsWait.find? (fun k => k.1 == sl.val && k.2.2 == page) = some k →
    (s.link m).atsEn = true → ((s.link m).ats.filter (fun e => e.sl == sl.val)).length = 16 →
    Completes (.translationCompletion m sl page tr true) s fun t =>
      ((t.link m).ats.filter (fun e => e.sl == sl.val)).length = 16 ∧
      (t.link m).ats.filter (fun e => e.sl != sl.val) = (s.link m).ats.filter (fun e => e.sl != sl.val) ∧
      ⟨sl, k.2.1, page, tr⟩ ∈ (t.link m).ats) ∧
  (∀ (s : State) (m : HLink) (sl : Slice) (page tr : Nat) (ok : Bool) (k : Nat × Nat × Nat),
    (s.link m).atsWait.find? (fun k => k.1 == sl.val && k.2.2 == page) = some k → ok = false ∨ (s.link m).atsEn = false →
    Completes (.translationCompletion m sl page tr ok) s fun t =>
      (t.link m).ats = (s.link m).ats ∧ (t.link m).atsWait = (s.link m).atsWait.erase k) ∧
  (∀ (s : State) (m : HLink) (off : Nat) (v : Word), s.reachable m = true → s.memOn m = true → (s.link m).flr = none →
    off % 8 = 0 → off < 0x8000 →
    Completes (.msixTableWrite m off v 8) s fun t =>
      (t.link m).msixW (off / 8) = (if off % 16 = 8 then wput v 63 33 0 else wput v 1 0 0) ∧
      (∀ i ∈ List.range 4096, i ≠ off / 8 → (t.link m).msixW i = (s.link m).msixW i) ∧ t.regs = s.regs) ∧
  (∀ (s : State) (m : HLink) (w : MsgWait), (s.link m).msgs.find? (fun w => decide (w.due ≤ s.coreNow)) = some w →
    (s.link m).sendable w.vec = true → s.inL0 m = true →
    Completes (.msixSend m) s fun t => (t.link m).msgs = (s.link m).msgs.erase w ∧
      (t.link m).pend = (s.link m).pend.erase w.vec ∧ t.regs = s.regs ∧
      t.out = .msix m w.vec ((s.link m).msixW (2 * w.vec)) (wbits ((s.link m).msixW (2 * w.vec + 1)) 31 0) :: s.out) ∧
  (∀ (s : State) (m : HLink) (w : MsgWait), (s.link m).msgs.find? (fun w => decide (w.due ≤ s.coreNow)) = some w →
    (s.link m).sendable w.vec = false →
    Completes (.msixSend m) s fun t => (t.link m).msgs = (s.link m).msgs.erase w ∧ w.vec ∈ (t.link m).pend ∧ t.out = s.out) ∧
  (∀ (s : State) (m : HLink), s.reachable m = true →
    Completes (.postedWritePoisoned m) s fun t => ((t.link m).cfgW 0x104).testBit 12 = true ∧
      (t.rdW (Reg.HL_LINK_EVENT m)).toNat.testBit 1 = true ∧ t.pails = s.pails ∧ t.ports = s.ports) ∧
  (∀ (s : State) (m : HLink), s.reachable m = true →
    Completes (.unexpectedCompletion m) s fun t => ((t.link m).cfgW 0x104).testBit 16 = true ∧
      (t.rdW (Reg.HL_LINK_EVENT m)).toNat.testBit 1 = true ∧ t.chans = s.chans)

/-- Link states, L1 and events (R211, R290, R313 to R317, R341, R343, R345, R443): the data link comes up, goes down and changes
its rate and width; L1 is entered when no descriptor is near, is held when one is, and is left in time for it; an injected
event is raised and counted; ALERT_N is released when no source holds it, and its response address is answered. -/
def Obligations.LinksChangeStateAndEventsAreInjected : Prop :=
  (∀ (s : State) (m : HLink) (width rate : Nat) (flit : Bool), s.reachable m = true →
    s.flag (Reg.HL_LINK_STAT m) F.HL_LINK_STAT_DLUP = false → s.trainable m width rate flit = true →
    Completes (.hostLinkUp m width rate flit) s fun t => t.lstate m = 2 ∧ t.fld (Reg.HL_LINK_STAT m) F.HL_LINK_STAT_DLUP = 1 ∧
      t.fld (Reg.HL_LINK_STAT m) F.HL_LINK_STAT_RATE = rate ∧ t.fld (Reg.HL_LINK_STAT m) F.HL_LINK_STAT_WIDTH = width ∧
      t.fld (Reg.HL_LINK_STAT m) F.HL_LINK_STAT_FLIT = (if flit then 1 else 0) ∧
      t.fld (Reg.HL_LINK_EVENT m) F.HL_LINK_EVENT_LAST_LINK = 1 ∧ (t.link m).full = width ∧ (t.link m).l23 = false ∧
      OccurredBit (288 + 4 * m.val) (Reg.HL_LINK_EVENT m) 0 s t) ∧
  (∀ (s : State) (m : HLink), s.flag (Reg.HL_LINK_STAT m) F.HL_LINK_STAT_DLUP = true →
    Completes (.hostLinkDown m) s fun t => t.lstate m = 0 ∧ t.fld (Reg.HL_LINK_STAT m) F.HL_LINK_STAT_DLUP = 0 ∧
      t.fld (Reg.HL_LINK_STAT m) F.HL_LINK_STAT_RATE = 0 ∧ t.fld (Reg.HL_LINK_STAT m) F.HL_LINK_STAT_WIDTH = 0 ∧
      t.fld (Reg.HL_LINK_EVENT m) F.HL_LINK_EVENT_LAST_LINK = 2 ∧ OccurredBit (288 + 4 * m.val) (Reg.HL_LINK_EVENT m) 0 s t) ∧
  (∀ (s : State) (m : HLink) (width rate : Nat), s.flag (Reg.HL_LINK_STAT m) F.HL_LINK_STAT_DLUP = true →
    s.trainable m width rate (s.flag (Reg.HL_LINK_STAT m) F.HL_LINK_STAT_FLIT) = true →
    s.fld (Reg.HL_LINK_STAT m) F.HL_LINK_STAT_RATE ≠ rate ∨ s.fld (Reg.HL_LINK_STAT m) F.HL_LINK_STAT_WIDTH ≠ width →
    Completes (.hostLinkRateWidthChange m width rate) s fun t => t.lstate m = 2 ∧
      t.fld (Reg.HL_LINK_STAT m) F.HL_LINK_STAT_RATE = rate ∧ t.fld (Reg.HL_LINK_STAT m) F.HL_LINK_STAT_WIDTH = width ∧
      t.fld (Reg.HL_LINK_EVENT m) F.HL_LINK_EVENT_LAST_LINK =
        (if s.fld (Reg.HL_LINK_STAT m) F.HL_LINK_STAT_RATE ≠ rate then 3 else 4) ∧ Counted (Reg.HL_LINK_RECOV m) s t ∧
      OccurredBit (288 + 4 * m.val) (Reg.HL_LINK_EVENT m) 0 s t) ∧
  (∀ (s : State) (m : HLink) (width : Nat), s.flag (Reg.HL_LINK_STAT m) F.HL_LINK_STAT_DLUP = true →
    s.flag (Reg.HL_LINK_STAT m) F.HL_LINK_STAT_FLIT = true → s.lstate m = 2 ∨ s.lstate m = 3 → widthOk width = true →
    width < (s.link m).full → width < s.fld (Reg.HL_LINK_STAT m) F.HL_LINK_STAT_WIDTH →
    Completes (.l0pNarrowing m width true) s fun t => t.lstate m = 3 ∧
      t.fld (Reg.HL_LINK_STAT m) F.HL_LINK_STAT_WIDTH = width ∧
      (wheelBudget (s.fld (Reg.HL_LINK_STAT m) F.HL_LINK_STAT_RATE) width < s.wheelSum m →
        t.fld (Reg.HL_LINK_STAT m) F.HL_LINK_STAT_NARROW_OVER = 1 ∧
        t.fld (Reg.HL_LINK_EVENT m) F.HL_LINK_EVENT_LAST_LINK = 5) ∧
      (s.wheelSum m ≤ wheelBudget (s.fld (Reg.HL_LINK_STAT m) F.HL_LINK_STAT_RATE) width →
        t.fld (Reg.HL_LINK_STAT m) F.HL_LINK_STAT_NARROW_OVER = 0 ∧
        t.fld (Reg.HL_LINK_EVENT m) F.HL_LINK_EVENT_LAST_LINK = 4) ∧
      OccurredBit (288 + 4 * m.val) (Reg.HL_LINK_EVENT m) 0 s t) ∧
  (∀ (s : State) (m : HLink) (width : Nat), wheelBudget (s.fld (Reg.HL_LINK_STAT m) F.HL_LINK_STAT_RATE) width < s.wheelSum m →
    width < s.fld (Reg.HL_LINK_STAT m) F.HL_LINK_STAT_WIDTH →
    Completes (.l0pNarrowing m width false) s fun t => t = s) ∧
  (∀ (s : State) (m : HLink), s.lstate m = 2 → s.flag (Reg.HL_LINK_PMCFG m) F.HL_LINK_PMCFG_L1_EN = true →
    ((s.link m).cfgW 0x070).testBit 1 = true → s.l1Idle m = true →
    (s.link m).idleAt + max 1 (s.fld (Reg.HL_LINK_IDLE m) F.HL_LINK_IDLE_TC) ≤ s.ticks → s.l1Near m = true →
    Completes (.l1Request m) s fun t => t.lstate m = 2 ∧ t.fld (Reg.HL_LINK_STAT m) F.HL_LINK_STAT_L1_HELD = 1 ∧
      (s.flag (Reg.HL_LINK_STAT m) F.HL_LINK_STAT_L1_HELD = false → Counted (Reg.HL_LINK_L1HOLD m) s t) ∧
      (s.flag (Reg.HL_LINK_STAT m) F.HL_LINK_STAT_L1_HELD = true → t = s) ∧ RegsKept [Reg.HL_LINK_L1HOLD m, Reg.HL_LINK_STAT m] s t) ∧
  (∀ (s : State) (m : HLink), s.lstate m = 2 → s.flag (Reg.HL_LINK_PMCFG m) F.HL_LINK_PMCFG_L1_EN = true →
    ((s.link m).cfgW 0x070).testBit 1 = true → s.l1Idle m = true →
    (s.link m).idleAt + max 1 (s.fld (Reg.HL_LINK_IDLE m) F.HL_LINK_IDLE_TC) ≤ s.ticks → s.l1Near m = false →
    s.flag (Reg.HL_PORT_CFG (m.val / 4)) F.HL_PORT_CFG_L1SS_EN = false →
    Completes (.l1Request m) s fun t => t.lstate m = 5 ∧ t.fld (Reg.HL_LINK_STAT m) F.HL_LINK_STAT_L1_HELD = 0 ∧
      Counted (Reg.HL_LINK_L1ENT m) s t ∧ RegsKept [Reg.HL_LINK_L1ENT m, Reg.HL_LINK_STAT m] s t) ∧
  (∀ (s : State) (m : HLink), s.lstate m = 5 ∨ s.lstate m = 6 ∨ s.lstate m = 7 →
    s.l1Near m = true ∨ (s.link m).txQ ≠ [] ∨ (s.link m).msgs ≠ [] →
    Completes (.l1ExitStart m) s fun t => t.lstate m = 4 ∧ Counted (Reg.HL_LINK_RECOV m) s t ∧
      RegsKept [Reg.HL_LINK_RECOV m, Reg.HL_LINK_STAT m] s t) ∧
  (∀ (s : State) (m : HLink), s.lstate m = 4 → (s.link m).lateQ = [] →
    Completes (.l1ExitComplete m) s fun t =>
      t.lstate m = (if s.fld (Reg.HL_LINK_STAT m) F.HL_LINK_STAT_WIDTH = (s.link m).full then 2 else 3) ∧
      t.out = (s.link m).txQ.reverse ++ s.out ∧ (t.link m).txQ = [] ∧ RegsKept [Reg.HL_LINK_STAT m] s t) ∧
  (∀ (s : State) (m : HLink), s.reachable m = true →
    Completes (.l2L3ReadyEntry m) s fun t => (t.link m).l23 = true ∧ t.lstate m = 0 ∧
      t.fld (Reg.HL_LINK_STAT m) F.HL_LINK_STAT_DLUP = 0) ∧
  (∀ (s : State) (v : BitVec 32) (i : Fin 640), v.toNat.testBit 31 = true → v.toNat % 1024 = i.val → s.on 3 = true →
    s.flag (Reg.EV_ROUTE i) F.EV_ROUTE_AER_EN = false →
    Completes (.evInject v) s fun t => t.raised i = true ∧ Counted (Reg.EV_CNT i) s t ∧
      (s.flag (Reg.EV_ROUTE i) F.EV_ROUTE_ALERT_EN = true → t.fld Reg.EV_ALERT F.EV_ALERT_ALERT = 1) ∧ RegsKeptEv [] s t) ∧
  (∀ (s : State) (v : BitVec 32), v.toNat.testBit 31 = false → Completes (.evInject v) s fun t => t = s) ∧
  (∀ s : State, s.alerting = [] → Completes .alertNRelease s fun t => t.fld Reg.EV_ALERT F.EV_ALERT_ALERT = 0 ∧
    RegsKept [Reg.EV_ALERT] s t) ∧
  (∀ s : State, s.alerting ≠ [] → Completes .alertNRelease s fun t => t = s) ∧
  (∀ s : State, s.flag Reg.EV_ALERT F.EV_ALERT_ALERT = true →
    Completes .alertResponseAddress s fun t => t.out = .ara (s.fld Reg.PW_SB_ADDR F.PW_SB_ADDR_ADDR) :: s.out ∧ t.regs = s.regs)

/-- Accesses to BAR0 (R14, R319 to R322, R332, R379): one that no region holds, of a form that its region does not take, or
while memory space is off, is rejected whole; one that the link may not make reads 0 or is discarded; any other reads or
writes the register, the MSI-X table, the pending bits, the submission ring or the log. -/
def Obligations.AccessesReachTheRegionsOfBar0 : Prop :=
  (∀ (s : State) (m : HLink) (off len : Nat) (hits : List EccHit), s.reachable m = true → s.on 3 = true →
    bar0Region off len = none ∨ s.memOn m = false ∨ (s.link m).flr.isSome = true →
    Completes (.bar0Access m off len false [] hits) s fun t => UrRejected m true s t) ∧
  (∀ (s : State) (m : HLink) (off len : Nat) (data : List (Option Byte)) (hits : List EccHit), s.reachable m = true → s.on 3 = true →
    bar0Region off data.length = none ∨ s.memOn m = false ∨ (s.link m).flr.isSome = true →
    Completes (.bar0Access m off len true data hits) s fun t => UrRejected m false s t) ∧
  (∀ (s : State) (m : HLink) (off len kind : Nat) (hits : List EccHit), s.reachable m = true → s.on 3 = true → bar0Region off len = some kind →
    kind ≠ 0x0A → kind ≠ 0x15 → (len ≠ 4 ∧ len ≠ 8) ∨ off % len ≠ 0 →
    Completes (.bar0Access m off len false [] hits) s fun t => UrRejected m true s t) ∧
  (∀ (s : State) (m : HLink) (off len kind : Nat) (data : List (Option Byte)) (hits : List EccHit), s.reachable m = true → s.on 3 = true →
    bar0Region off data.length = some kind → kind = 0x0A ∨ kind = 0x15 → 512 < data.length ∨ 4096 < off % 4096 + data.length →
    Completes (.bar0Access m off len true data hits) s fun t => UrRejected m false s t) ∧
  (∀ (s : State) (m : HLink) (off len kind : Nat) (hits : List EccHit), s.reachable m = true → s.on 3 = true → s.memOn m = true →
    (s.link m).flr = none → bar0Region off len = some kind → formOk kind off len = true → s.mgr ≠ m.val →
    kind ∉ [0x01, 0x03, 0x07, 0x08] →
    Completes (.bar0Access m off len false [] hits) s fun t => t = s.emit (.cpl m 0 (List.replicate len 0))) ∧
  (∀ (s : State) (m : HLink) (off len kind : Nat) (data : List (Option Byte)) (hits : List EccHit), s.reachable m = true → s.on 3 = true →
    s.memOn m = true → (s.link m).flr = none → bar0Region off data.length = some kind → formOk kind off data.length = true →
    s.mgr ≠ m.val → kind ∉ [0x07, 0x08] → Completes (.bar0Access m off len true data hits) s fun t => t = s) ∧
  (∀ (s : State) (m : HLink) (off : Nat) (hits : List EccHit), s.reachable m = true → s.on 3 = true →
    s.memOn m = true → (s.link m).flr = none → s.mgr = m.val → (bar0Region off 4).isSome = true → off % 4 = 0 →
    regBytes off = 4 →
    Completes (.bar0Access m off 4 false [] hits) s fun t => t.out = .cpl m 0 (leBytes 4 (s.busWord off)) :: s.out ∧
      t.rdW off = s.rdW off &&& ~~~ rcMask off ∧ RegsKept [off] s t ∧ t.gen = s.gen ∧
      (s.on (regDom off) = false → regSaved off = false → t.out = .cpl m 0 (List.replicate 4 0) :: s.out)) ∧
  (∀ (s : State) (m : HLink) (k : Nat) (hits : List EccHit), s.reachable m = true → s.on 3 = true → s.memOn m = true → (s.link m).flr = none →
    k < 4096 →
    Completes (.bar0Access m (0x20000 + 8 * k) 8 false [] hits) s fun t =>
      t = s.emit (.cpl m 0 (leBytes 8 ((s.link m).msixW k).toNat))) ∧
  (∀ (s : State) (m : HLink) (k : Nat) (hits : List EccHit), s.reachable m = true → s.on 3 = true → s.memOn m = true → (s.link m).flr = none →
    k < 64 → (s.link m).pend = (List.range 2048).filter (fun v => (s.link m).pend.contains v) →
    Completes (.bar0Access m (0x28000 + 4 * k) 4 false [] hits) s fun t => 
      t = s.emit (.cpl m 0 (leBytes 4 (s.pbaRead m (4 * k) 4))) ∧
      ∀ i : Fin 32, (s.pbaRead m (4 * k) 4).testBit i = (s.link m).pend.contains (32 * k + i)) ∧
  (∀ (s : State) (m : HLink) (k len : Nat) (v : Word) (hits : List EccHit), s.reachable m = true → s.on 3 = true → s.memOn m = true →
    (s.link m).flr = none → s.mgr = m.val → k < 3584 →
    hits.all (fun e => e.pail != storeHit 2) = true →
    Completes (.bar0Access m (0x11000 + 8 * k) len true ((leBytes 8 v.toNat).map some) hits) s fun t =>
      ringBytes t.um.sq (8 * k) 8 = leBytes 8 v.toNat ∧ t.um.sqBad.contains k = false ∧ t.regs = s.regs ∧
      ∀ j ∈ [8 * k - 1, 8 * k + 8], j / 8 ≠ k → SMap.get 0 t.um.sq j = SMap.get 0 s.um.sq j) ∧
  (∀ (s : State) (m : HLink) (k : Nat) (hits : List EccHit), s.reachable m = true → s.on 3 = true → s.memOn m = true → (s.link m).flr = none →
    s.mgr = m.val → k < 3584 →
    hits.all (fun e => e.pail != storeHit 2) = true → s.um.sqBad.contains k = false →
    Completes (.bar0Access m (0x11000 + 8 * k) 8 false [] hits) s fun t => t = s.emit (.cpl m 0 (ringBytes s.um.sq (8 * k) 8))) ∧
  (∀ (s : State) (m : HLink) (off len : Nat) (data : List (Option Byte)) (hits : List EccHit), s.reachable m = true → s.on 3 = true →
    s.memOn m = true → (s.link m).flr = none → bar0Region off data.length = some 0x0A →
    formOk 0x0A off data.length = true → Completes (.bar0Access m off len true data hits) s fun t => t = s)

/-- Accesses to BAR2 and the Expansion ROM (R323 to R328, R361, R362, R364 to R366, R528): an access reaches the slice bound
to its link, within one window, in the form of a register's; the window shows the slice's registers, mailbox and channels,
and any other is rejected; the ROM serves the Resource Table with its header, and 0 beyond it. -/
def Obligations.SliceWindowsAndTheRomAreServed : Prop :=
  (∀ (s : State) (m : HLink) (off len : Nat) (tee : Bool), s.reachable m = true → s.on 3 = true →
    s.memOn m = false ∨ (s.link m).flr.isSome = true ∨ (len ≠ 4 ∧ len ≠ 8) ∨ off % 0x10000 % len ≠ 0 ∨
      0xE000 ≤ off % 0x10000 ∨ 1024 ≤ off / 0x10000 ∨ s.bound (off / 0x10000) = false ∨ s.slLink (off / 0x10000) ≠ m.val ∨
      (s.tdi (off / 0x10000) = 2 ∧ tee = false) ∨ s.tdi (off / 0x10000) = 1 →
    Completes (.bar2Access m off len false tee []) s fun t => UrRejected m true s t) ∧
  (∀ (s : State) (m : HLink) (off len : Nat) (tee : Bool) (data : List (Option Byte)), s.reachable m = true → s.on 3 = true →
    s.memOn m = false ∨ (data.length ≠ 4 ∧ data.length ≠ 8) ∨ 0xE000 ≤ off % 0x10000 ∨ 1024 ≤ off / 0x10000 ∨
      s.bound (off / 0x10000) = false ∨ s.slLink (off / 0x10000) ≠ m.val →
    Completes (.bar2Access m off len true tee data) s fun t => UrRejected m false s t) ∧
  (∀ (s : State) (m : HLink) (sl : Slice), s.reachable m = true → s.on 3 = true → s.memOn m = true → (s.link m).flr = none →
    s.bound sl = true → s.slLink sl = m.val → s.tdi sl = 0 →
    Completes (.bar2Access m (0x10000 * sl.val + 0xA000) 8 false false []) s fun t =>
      t = s.emit (.cpl m 0 (leBytes 8 (sl.val + m.val * 2 ^ 24 + s.slPasid sl * 2 ^ 32)))) ∧
  (∀ (s : State) (m : HLink) (sl : Slice) (k : Nat), s.reachable m = true → s.on 3 = true → s.memOn m = true →
    (s.link m).flr = none → s.bound sl = true → s.slLink sl = m.val → s.tdi sl = 0 →
    k = 0xA00C ∨ k = 0xA01C →
    Completes (.bar2Access m (0x10000 * sl.val + k) 4 false false []) s fun t => t = s.emit (.cpl m 0 (leBytes 4
      (s.rdW (if k = 0xA00C then Reg.SL_MBOX_STAT sl else Reg.SL_IRQDROP sl)).toNat))) ∧
  (∀ (s : State) (m : HLink) (sl : Slice) (k : Nat), s.reachable m = true → s.on 3 = true → s.memOn m = true →
    (s.link m).flr = none → s.bound sl = true → s.slLink sl = m.val → s.tdi sl = 0 → 0xA000 ≤ k → k < 0xE000 → k % 4 = 0 →
    (0xA020 ≤ k ∧ k < 0xA100) ∨ (0xA200 ≤ k ∧ k < 0xC000) ∨ 0xC01C ≤ k ∨ k = 0xC004 →
    Completes (.bar2Access m (0x10000 * sl.val + k) 4 false false []) s fun t =>
      t = s.emit (.cpl m 0 (List.replicate 4 0))) ∧
  (∀ (s : State) (m : HLink) (sl : Slice) (v : BitVec 32), s.reachable m = true → s.on 3 = true → s.memOn m = true →
    (s.link m).flr = none → s.bound sl = true → s.slLink sl = m.val → s.tdi sl = 0 →
    Completes (.bar2Access m (0x10000 * sl.val + 0xA014) 0 true false ((leBytes 4 v.toNat).map some)) s fun t =>
      t = s.dbin sl (v.toNat % 2 ^ 13)) ∧
  (∀ (s : State) (m : HLink) (sl : Slice) (k : Nat) (v : Word), s.reachable m = true → s.on 3 = true → s.memOn m = true →
    (s.link m).flr = none → s.bound sl = true → s.slLink sl = m.val → s.tdi sl = 0 → k < 512 →
    Completes (.bar2Access m (0x10000 * sl.val + 0x8000 + 8 * k) 0 true false ((leBytes 8 v.toNat).map some)) s fun t =>
      t.regs = s.regs ∧ (∀ n, n ≠ sl.val → t.slice n = s.slice n) ∧
      (s.mb sl F.SL_MBOX_STAT_IN_FULL = 0 → ringBytes (t.slice sl).mbIn (8 * k) 8 = leBytes 8 v.toNat) ∧
      (s.mb sl F.SL_MBOX_STAT_IN_FULL ≠ 0 → t = s)) ∧
  (∀ (s : State) (m : HLink) (sl : Slice) (k : Nat) (data : List (Option Byte)), s.reachable m = true → s.on 3 = true →
    s.memOn m = true → (s.link m).flr = none → s.bound sl = true → s.slLink sl = m.val → s.tdi sl = 0 → k < 512 →
    data.length = 8 →
    Completes (.bar2Access m (0x10000 * sl.val + 0x9000 + 8 * k) 0 true false data) s fun t => t = s) ∧
  (∀ (s : State) (m : HLink) (sl : Slice) (k : Nat), s.reachable m = true → s.on 3 = true → s.memOn m = true →
    (s.link m).flr = none → s.bound sl = true → s.slLink sl = m.val → s.tdi sl = 0 → k < 1024 →
    Completes (.bar2Access m (0x10000 * sl.val + 0x8000 + 8 * k) 8 false false []) s fun t => t = s.emit (.cpl m 0
      (if k < 512 then ringBytes (s.slice sl).mbIn (8 * k) 8 else ringBytes (s.slice sl).mbOut (8 * k - 4096) 8))) ∧
  (∀ (s : State) (m : HLink) (sl : Slice) (slot : Fin 256) (j : Fin 16) (c : Nat), s.reachable m = true → s.on 3 = true →
    s.memOn m = true → (s.link m).flr = none → s.bound sl = true → s.slLink sl = m.val → s.tdi sl = 0 →
    s.slotChan sl slot = some c → (findReg (Reg.DMA_SRC c + 8 * j.val)).map (fun e => e.1.bytes) = some 8 →
    Completes (.bar2Access m (0x10000 * sl.val + 0x80 * slot.val + 8 * j.val) 8 false false []) s fun t =>
      t.out = .cpl m 0 (leBytes 8 (s.busWord (Reg.DMA_SRC c + 8 * j.val))) :: s.out ∧ t.regs = s.regs) ∧
  (∀ (s : State) (m : HLink) (sl : Slice) (slot : Fin 256) (j : Fin 16), s.reachable m = true → s.on 3 = true →
    s.memOn m = true → (s.link m).flr = none → s.bound sl = true → s.slLink sl = m.val → s.tdi sl = 0 →
    s.slotChan sl slot = none →
    Completes (.bar2Access m (0x10000 * sl.val + 0x80 * slot.val + 8 * j.val) 8 false false []) s fun t =>
      t = s.emit (.cpl m 0 (List.replicate 8 0))) ∧
  (∀ (s : State) (m : HLink) (off len : Nat), s.reachable m = true →
    s.memOn m = false ∨ ((s.link m).cfgW 0x030).testBit 0 = false ∨ 0x1000000 < off + len ∨ 4096 < off % 4096 + len →
    Completes (.expansionRomRead m off len) s fun t => UrRejected m true s t) ∧
  (∀ (s : State) (m : HLink) (len : Nat), s.reachable m = true → s.memOn m = true → (s.link m).flr = none →
    ((s.link m).cfgW 0x030).testBit 0 = true → 64 ≤ len → len ≤ 4096 →
    Completes (.expansionRomRead m 0x800000 len) s fun t => 
      t = s.emit (.cpl m 0 ((s.resourceTable m ++ List.replicate 4096 0).take len)) ∧
      leAt (s.resourceTable m) 0 4 = 0x54524253 ∧ leAt (s.resourceTable m) 4 2 = 0x0100 ∧ leAt (s.resourceTable m) 6 2 = 64 ∧ leAt (s.resourceTable m) 8 4 % 8 = 0 ∧
      leAt (s.resourceTable m) 12 4 = (s.link m).rtCount % 2 ^ 32 ∧ leAt (s.resourceTable m) 20 2 = m.val ∧ leAt (s.resourceTable m) 22 1 = 0x20 ∧
      leAt (s.resourceTable m) 24 8 = s.sec.fuses.dsn % 2 ^ 64 ∧ leAt (s.resourceTable m) 36 4 = s.fld Reg.UM_GEN_SEQ F.UM_GEN_SEQ_SEQ ∧
      leAt (s.resourceTable m) 8 4 = (s.resourceTable m).length ∧
      (s.resourceTable m).drop 40 = List.replicate 24 0 ++ s.rtEntries m ∧
      leAt (s.resourceTable m) 16 4 = crc32c ((s.resourceTable m).take 16 ++ [0, 0, 0, 0] ++ (s.resourceTable m).drop 20)) ∧
  (∀ (s : State) (m : HLink) (off len : Nat), s.reachable m = true → s.memOn m = true → (s.link m).flr = none →
    ((s.link m).cfgW 0x030).testBit 0 = true → 1 ≤ len → off % 4096 + len ≤ 4096 → off + len ≤ 0x1000000 →
    0x800000 ≤ off →
    Completes (.expansionRomRead m off len) s fun t => t = s.emit (.cpl m 0 ((List.range len).map
      (fun i => (s.resourceTable m).getD (off - 0x800000 + i) 0))))

/-- Register writes and reads (R13, R14, R17, R88, R141, R320, R322, R380 to R382, R390): a 32-bit register takes its RW bits
and clears its W1C bits, and its RC bits clear with a read; half of a 64-bit register waits for the other; RWG bits change
the staged image while its carrier has it Open, and are else discarded and counted; the ring's pointers and its reset. -/
def Obligations.RegisterWritesAndReadsActByKind : Prop :=
  (∀ (s : State) (who : Master) (off : Nat) (v : Word),
    off ∈ [Reg.PIN_GPIO_DIR, Reg.PIN_GPIO_OUT, Reg.PIN_GPIO_OD, Reg.TL_LATE_LIMIT, Reg.PW_SUP_CFG, Reg.SEC_EVENT, Reg.RS_EVENT,
      Reg.EV_RAISED 3, Reg.EV_RAISED 19, Reg.AL_EVENT 5, Reg.HL_LINK_EVENT 4, Reg.TW_EVENT] →
    s.mayAccess who = true → s.on (regDom off) = true ∨ regSaved off = true →
    Completes (.registerWrite who off false v) s fun t =>
      t.rdW off = ((s.rdW off &&& ~~~ rwMask off) ||| (v.setWidth 32).setWidth 64 &&& rwMask off) &&&
        ~~~ ((v.setWidth 32).setWidth 64 &&& w1cMask off) ∧ RegsKept [off] s t ∧ t.gen = s.gen ∧ t.out = s.out) ∧
  (∀ (s : State) (who : Master) (off : Nat) (v : Word), s.mayAccess who = true →
    plainRwg off = true → off % 4 = 0 →
    s.wrExcluded off (2 ^ 32 - 1) (v.toNat % 2 ^ 32) = false → s.genState = 1 → s.notOwner (ownerCarrier who) = false →
    s.isTarget = false →
    Completes (.registerWrite who off false v) s fun t => t.gen = s.gen ∧
      t.rdS off = BitVec.ofNat 64 (s.newG off (rwgMask off).toNat (2 ^ 32 - 1) (v.toNat % 2 ^ 32)) ∧ (∀ k, k ≠ off → s.spareReg off ≠ some k → t.rdS k = s.rdS k)) ∧
  (∀ (s : State) (who : Master) (off : Nat) (v : Word), s.mayAccess who = true →
    plainRwg off = true → off % 4 = 0 →
    s.wrExcluded off (2 ^ 32 - 1) (v.toNat % 2 ^ 32) = false → s.genState ≠ 1 →
    Completes (.registerWrite who off false v) s fun t => t.gen = s.gen ∧ t.staged = s.staged ∧
      (s.newG off (rwgMask off).toNat (2 ^ 32 - 1) (v.toNat % 2 ^ 32) ≠ s.imageOf off → Counted Reg.UM_RWG_DROP s t ∧ Occurred 633 s t) ∧
      (s.newG off (rwgMask off).toNat (2 ^ 32 - 1) (v.toNat % 2 ^ 32) = s.imageOf off → t.regs = s.regs)) ∧
  (∀ (s : State) (who : Master) (off : Nat) (v : Word),
    off ∈ [Reg.TL_ALARM_AT 2, Reg.TL_ALARM_PERIOD 3, Reg.DMA_RELEASE 9, Reg.VAT_PAIL_A 7, Reg.VAT_PAIL_B 16383, Reg.CH_STR 3 200] →
    s.mayAccess who = true →
    Completes (.registerWrite who off false v) s fun t => t.regs = s.regs ∧ t.staged = s.staged ∧
      t.heldOf who off = some ⟨who, off, 2 ^ 32 - 1, v.toNat % 2 ^ 32⟩) ∧
  (∀ (s : State) (who : Master) (a : Fin 4) (lo hi : Nat), s.mayAccess who = true →
    s.heldOf who (Reg.TL_ALARM_AT a) = some ⟨who, Reg.TL_ALARM_AT a, 2 ^ 32 - 1, lo⟩ → lo < 2 ^ 32 → hi < 2 ^ 32 →
    tlValid (BitVec.ofNat 64 (hi * 2 ^ 32 + lo)) = true →
    Completes (.registerWrite who (Reg.TL_ALARM_AT a + 4) false (BitVec.ofNat 64 hi)) s fun t =>
      t.rdW (Reg.TL_ALARM_AT a) = BitVec.ofNat 64 (hi * 2 ^ 32 + lo) ∧ RegsKept [Reg.TL_ALARM_AT a] s t ∧
      t.heldOf who (Reg.TL_ALARM_AT a) = none) ∧
  (∀ (s : State) (m : HLink) (off : Nat) (wide : Bool) (v : Word), m.val ≠ s.mgr ∨ s.on 3 = false →
    Completes (.registerWrite (.link m) off wide v) s fun t => t = s) ∧
  (∀ (s : State) (m : HLink) (off : Nat), m.val = s.mgr → s.on 3 = true → off % 4 = 0 →
    regBytes off = 4 →
    Completes (.registerReadClear (.link m) off) s fun t => t.out = .cpl m 0 (leBytes 4 (s.busWord off)) :: s.out ∧
      t.rdW off = s.rdW off &&& ~~~ rcMask off ∧ RegsKept [off] s t) ∧
  (∀ (s : State) (m : HLink), m.val = s.mgr → s.on 3 = true →
    Completes (.registerReadClear (.link m) Reg.TL_NOW) s fun t =>
      t.out = .cpl m 0 (leBytes 4 ((tlOf s.now).toNat % 2 ^ 32)) :: s.out ∧
      (∃ l ∈ t.latches, l.who = .link m ∧ l.key = Reg.TL_NOW ∧ l.first = 1 ∧ l.val = [(tlOf s.now).toNat / 2 ^ 32]) ∧
      t.regs = s.regs) ∧
  (∀ (s : State) (m : HLink) (l : Latch), m.val = s.mgr → s.on 3 = true →
    s.latches.find? (fun x => x.who == .link m && x.key == Reg.TL_NOW) = some l → l.first = 1 →
    Completes (.registerReadClear (.link m) (Reg.TL_NOW + 4)) s fun t =>
      t.out = .cpl m 0 (leBytes 4 (l.val.headD 0)) :: s.out ∧ (∀ x ∈ t.latches, ¬ (x.who = .link m ∧ x.key = Reg.TL_NOW)) ∧
      t.regs = s.regs) ∧
  (∀ (s : State) (v : BitVec 32), s.on 3 = true → v.toNat % 8 = 0 → v.toNat ≤ 28664 →
    Completes (.umSqTailWrite v) s fun t => t.fld Reg.UM_SQ_TAIL F.UM_SQ_TAIL_PTR = v.toNat ∧ RegsKept [Reg.UM_SQ_TAIL] s t ∧
      t.um = s.um) ∧
  (∀ (s : State) (v : BitVec 32), s.on 3 = true → v.toNat % 8 ≠ 0 ∨ 28664 < v.toNat →
    Completes (.umSqTailWrite v) s fun t => t.rdW Reg.UM_SQ_TAIL = s.rdW Reg.UM_SQ_TAIL ∧
      t.fld Reg.UM_STAT F.UM_STAT_PTR_ERR = 1 ∧ Occurred 625 s t ∧ RegsKeptEv [Reg.UM_STAT] s t) ∧
  (∀ (s : State) (v : BitVec 32), s.on 3 = true → v.toNat % 8 = 0 → v.toNat ≤ 28664 →
    Completes (.umRqHeadWrite v) s fun t => t.fld Reg.UM_RQ_HEAD F.UM_RQ_HEAD_PTR = v.toNat ∧ RegsKept [Reg.UM_RQ_HEAD] s t) ∧
  (∀ s : State, s.on 3 = true →
    Completes .umCtrlReset s fun t => t.fld Reg.UM_SQ_HEAD F.UM_SQ_HEAD_PTR = 0 ∧ t.fld Reg.UM_SQ_TAIL F.UM_SQ_TAIL_PTR = 0 ∧
      t.fld Reg.UM_RQ_HEAD F.UM_RQ_HEAD_PTR = 0 ∧ t.fld Reg.UM_RQ_TAIL F.UM_RQ_TAIL_PTR = 0 ∧ t.gen = s.gen ∧
      (s.genState = 1 → s.fld Reg.UM_GEN_STAT F.UM_GEN_STAT_OWNER = 0 → t.genState = 0 ∧ t.staged = []) ∧
      (s.genState ≠ 1 → t.staged = s.staged ∧ t.um.armed = s.um.armed))

/-! ## Slices (12) -/

/-- Slices (R350, R364 to R366, R371 to R373, R388, R401, R528): the mailbox's doorbells, and Umger's MBOX_GET and MBOX_PUT;
FENCE stops the slice's channels and KILL ends them, while fenced; SLICE_BIND and SLICE_UNBIND stage the binding unless it
would be a second one; a slice that is not bound, or whose TDI is locked, is refused. -/
def Obligations.SlicesAreBoundFencedKilledAndMailed : Prop :=
  (∀ (s : State) (sl : Slice) (v : BitVec 32), s.bound sl = true → (s.link (s.slLink sl)).cutAt ≠ some s.ticks →
    (s.slice sl).tookAt ≠ some s.ticks → s.mb sl F.SL_MBOX_STAT_IN_FULL = 0 → v.toNat % 2 ^ 13 ≠ 0 →
    v.toNat % 2 ^ 13 ≤ 4096 →
    Completes (.slDbin sl v) s fun t => t.mb sl F.SL_MBOX_STAT_IN_FULL = 1 ∧ t.mb sl F.SL_MBOX_STAT_IN_LEN = v.toNat % 2 ^ 13 ∧
      (t.rdW (Reg.SL_MBPEND (sl / 32))).toNat.testBit (sl % 32) = true ∧ Occurred 632 s t ∧
      RegsKeptEv [Reg.SL_MBOX_STAT sl, Reg.SL_MBPEND (sl / 32)] s t ∧
      t.slice sl = { s.slice sl with rangAt := some s.ticks } ∧ ∀ n, n ≠ sl.val → t.slice n = s.slice n) ∧
  (∀ (s : State) (sl : Slice) (v : BitVec 32), s.bound sl = true → (s.link (s.slLink sl)).cutAt ≠ some s.ticks →
    s.mb sl F.SL_MBOX_STAT_IN_FULL ≠ 0 ∨ (s.slice sl).tookAt = some s.ticks →
    Completes (.slDbin sl v) s fun t => t.mb sl F.SL_MBOX_STAT_IN_OVR = 1 ∧
      t.mb sl F.SL_MBOX_STAT_IN_LEN = s.mb sl F.SL_MBOX_STAT_IN_LEN ∧ RegsKept [Reg.SL_MBOX_STAT sl] s t) ∧
  (∀ (s : State) (sl : Slice) (v : BitVec 32), (s.link (s.slLink sl)).cutAt = some s.ticks →
    Completes (.slDbin sl v) s fun t => t = s) ∧
  (∀ (s : State) (sl : Slice) (v : BitVec 32), s.mb sl F.SL_MBOX_STAT_IN_FULL = 0 → (s.slice sl).tookAt ≠ some s.ticks →
    v.toNat % 2 ^ 13 = 0 ∨ 4096 < v.toNat % 2 ^ 13 → Completes (.slDbin sl v) s fun t => t = s) ∧
  (∀ (s : State) (sl : Slice), s.bound sl = true →
    Completes (.slDboutAck sl) s fun t => t.mb sl F.SL_MBOX_STAT_OUT_FULL = 0 ∧
      t.rdW (Reg.SL_MBOX_STAT sl) = s.rdW (Reg.SL_MBOX_STAT sl) &&& ~~~ 0x80000000 ∧ RegsKept [Reg.SL_MBOX_STAT sl] s t) ∧
  (∀ (s : State) (sl : Slice),
    Completes (.slCtrlFence sl true) s fun t => t.fenced sl = true ∧ t.gen = s.gen ∧ t.staged = s.staged ∧
      ∀ c ∈ s.slChans sl, s.chBusy c = true → t.ctlB c F.DMA_CTRL_STOP_REQ = true ∨ t.chBusy c = false) ∧
  (∀ (s : State) (sl : Slice), s.rebinds sl = false →
    Completes (.slCtrlFence sl false) s fun t => t.fenced sl = false ∧ RegsKept [Reg.SL_CTRL sl] s t ∧ t.chans = s.chans) ∧
  (∀ (s : State) (sl : Slice), s.rebinds sl = true → Completes (.slCtrlFence sl false) s fun t => t = s) ∧
  (∀ (s : State) (sl : Slice), s.fenced sl = true →
    Completes (.slCtrlKill sl) s fun t => (∀ c ∈ s.slChans sl, s.chBusy c = true → t.chRaw c = 8 ∧
        t.fld (Reg.DMA_STAT c) F.DMA_STAT_CODE = 9 ∧ (t.chan c).recs = (s.chan c).recs) ∧
      t.gen = s.gen ∧ t.fenced sl = true) ∧
  (∀ (s : State) (sl : Slice), s.fenced sl = false → Completes (.slCtrlKill sl) s fun t => t = s) ∧
  (∀ (s : State) (h : UmHdr) (p : List Byte), s.umCheck h 0x0600 p.length = none → leAt p 0 1 < 32 → leAt p 4 4 < 2 ^ 20 →
    s.genState = 1 → s.notOwner h.carrier = false → s.bindTaken h.slice (leAt p 0 1) (leAt p 4 4) = false → h.slice < 1024 →
    Completes (.sliceBind h p) s fun t => t.um.due = (s.reply h 0x0600 stOK []).um.due ∧ t.gen = s.gen ∧
      t.rdS (Reg.SL_BIND h.slice) = BitVec.ofNat 64 (2 ^ 31 + leAt p 0 1 * 2 ^ 24 + leAt p 4 4) ∧ t.regs = s.regs) ∧
  (∀ (s : State) (h : UmHdr) (p : List Byte), s.umCheck h 0x0600 p.length = none → leAt p 0 1 < 32 → leAt p 4 4 < 2 ^ 20 →
    s.genState = 1 → s.notOwner h.carrier = false → s.bindTaken h.slice (leAt p 0 1) (leAt p 4 4) = true →
    Completes (.sliceBind h p) s fun t => t = s.refuse h 0x0600 stBindConflict) ∧
  (∀ (s : State) (h : UmHdr) (p : List Byte), s.umCheck h 0x0601 p.length = none → s.bound h.slice = true → s.genState = 1 →
    s.notOwner h.carrier = false → h.slice < 1024 →
    Completes (.sliceUnbind h p) s fun t => t.um.due = (s.reply h 0x0601 stOK []).um.due ∧ t.gen = s.gen ∧
      t.rdS (Reg.SL_BIND h.slice) = BitVec.ofNat 64 ((s.rdS (Reg.SL_BIND h.slice)).toNat % 2 ^ 31) ∧ t.regs = s.regs) ∧
  (∀ (s : State) (h : UmHdr) (p : List Byte), s.umCheck h 0x0602 p.length = none → s.bound h.slice = true →
    s.tdiLocked h.slice = false → leAt p 0 1 = 1 → h.slice < 1024 →
    Completes (.sliceFence h p) s fun t => Completes (.slCtrlFence (Fin.ofNat 1024 h.slice) true) s fun u => t = u.reply h 0x0602 stOK (leBytes 4 (u.slStat h.slice))) ∧
  (∀ (s : State) (h : UmHdr) (p : List Byte), s.umCheck h 0x0603 p.length = none → s.bound h.slice = true →
    s.tdiLocked h.slice = false → h.slice < 1024 →
    Completes (.sliceKill h p) s fun t => Completes (.slCtrlKill (Fin.ofNat 1024 h.slice)) s fun u => t = u.reply h 0x0603 stOK []) ∧
  (∀ (s : State) (h : UmHdr) (p : List Byte), s.umCheck h 0x0604 p.length = none → s.bound h.slice = true →
    s.mb h.slice F.SL_MBOX_STAT_IN_FULL ≠ 0 → (s.mboxCfg h.slice).testBit 30 = false →
    Completes (.mboxGet h p) s fun t => t.mb h.slice F.SL_MBOX_STAT_IN_FULL = 0 ∧
      (t.rdW (Reg.SL_MBPEND (h.slice / 32))).toNat.testBit (h.slice % 32) = false ∧
      t.um = (s.reply h 0x0604 stOK (mbBytes (s.slice h.slice).mbIn (s.mb h.slice F.SL_MBOX_STAT_IN_LEN))).um ∧
      RegsKept [Reg.SL_MBOX_STAT h.slice, Reg.SL_MBPEND (h.slice / 32)] s t ∧ t.links = s.links) ∧
  (∀ (s : State) (h : UmHdr) (p : List Byte), s.umCheck h 0x0604 p.length = none → s.bound h.slice = true →
    s.mb h.slice F.SL_MBOX_STAT_IN_FULL = 0 →
    Completes (.mboxGet h p) s fun t => t = s.refuse h 0x0604 stMboxEmpty) ∧
  (∀ (s : State) (h : UmHdr) (p : List Byte), s.umCheck h 0x0605 p.length = none → s.bound h.slice = true →
    s.mb h.slice F.SL_MBOX_STAT_OUT_FULL = 0 → (s.mboxCfg h.slice).testBit 31 = false →
    Completes (.mboxPut h p) s fun t => t.mb h.slice F.SL_MBOX_STAT_OUT_FULL = 1 ∧
      t.mb h.slice F.SL_MBOX_STAT_OUT_LEN = p.length ∧ mbBytes (t.slice h.slice).mbOut p.length = p ∧
      (t.slice h.slice).mbIn = (s.slice h.slice).mbIn ∧ t.um = (s.reply h 0x0605 stOK []).um ∧
      RegsKept [Reg.SL_MBOX_STAT h.slice] s t ∧ ∀ n, n ≠ h.slice → t.slice n = s.slice n) ∧
  (∀ (s : State) (h : UmHdr) (p : List Byte), s.umCheck h 0x0605 p.length = none → s.bound h.slice = true →
    s.mb h.slice F.SL_MBOX_STAT_OUT_FULL ≠ 0 →
    Completes (.mboxPut h p) s fun t => t = s.refuse h 0x0605 stMboxFull) ∧
  (∀ (s : State) (h : UmHdr) (p : List Byte), s.umCheck h 0x0606 p.length = none → s.bound h.slice = true →
    Completes (.sliceStatus h p) s fun t => t = s.reply h 0x0606 stOK
      ([Reg.SL_BIND h.slice, Reg.SL_VECMAP h.slice, Reg.SL_STAT h.slice, Reg.SL_MBOX_STAT h.slice, Reg.SL_IRQDROP h.slice].flatMap
        (fun k => leBytes 4 (s.busWord k)))) ∧
  (∀ (s : State) (h : UmHdr) (p : List Byte) (e : Instr × Nat),
    e ∈ [(.sliceUnbind h p, 0x0601), (.sliceFence h p, 0x0602), (.sliceKill h p, 0x0603), (.mboxGet h p, 0x0604),
      (.mboxPut h p, 0x0605), (.sliceStatus h p, 0x0606)] → s.umCheck h e.2 p.length = none → s.bound h.slice = false →
    Completes e.1 s fun t => t = s.refuse h e.2 stSliceUnbound) ∧
  (∀ (s : State) (h : UmHdr) (p : List Byte) (e : Instr × Nat), e ∈ [(.sliceFence h p, 0x0602), (.sliceKill h p, 0x0603)] →
    s.umCheck h e.2 p.length = none → s.bound h.slice = true → s.tdiLocked h.slice = true → leAt p 0 1 ≤ 1 →
    Completes e.1 s fun t => t = s.refuse h e.2 stSecDenied)

/-! ## Umger (13) -/

/-- Packets and replies (R378 to R387, R401): the next packet is taken from the carriers in turn, checked in the order of R385,
and runs the command that its opcode names; replies are posted in order on the ring, which holds them while it is full, or
go to their endpoint; UM_RESET resets a carrier. -/
def Obligations.PacketsAreCheckedExecutedAndAnswered : Prop :=
  (∀ (s : State) (v : Bool) (hits : List EccHit), s.um.halted = true ∨ s.umBusy = true ∨
    s.replyDue = true ∨ s.on 3 = false ∨ (s.ringPacket = none ∧ s.um.side = []) →
    Completes (.umPacketExecute v hits) s fun t => t = s) ∧
  (∀ (s : State) (v : Bool) (n : Nat) (hits : List EccHit), s.um.halted = false → hits.all (fun e => e.pail != storeHit 2) = true → 
    s.umBusy = false → s.replyDue = false → s.on 3 = true → s.ringPacket = some n →
    s.um.side = [] ∨ s.um.last = .sideband → s.um.void = [] →
    headerBad (s.sqBytes (s.fld Reg.UM_SQ_HEAD F.UM_SQ_HEAD_PTR) 32) = true → s.um.sqBad = [] →
    s.fld Reg.UM_SQ_HEAD F.UM_SQ_HEAD_PTR < 28672 → s.fld Reg.UM_SQ_TAIL F.UM_SQ_TAIL_PTR < 28672 →
    Completes (.umPacketExecute v hits) s fun t => t.fld Reg.UM_SQ_HEAD F.UM_SQ_HEAD_PTR = s.fld Reg.UM_SQ_TAIL F.UM_SQ_TAIL_PTR ∧
      Counted Reg.UM_BADPKT s t ∧ Occurred 625 s t ∧ t.um.due.length = s.um.due.length + 1 ∧
      (∀ r ∈ t.um.due.drop s.um.due.length, r.status = stBadHeader ∧ r.final = true) ∧ t.gen = s.gen ∧ t.staged = s.staged ∧
      t.um.last = .ring ∧ t.um.side = s.um.side ∧ RegsKeptEv [Reg.UM_SQ_HEAD, Reg.UM_BADPKT] s t) ∧
  (∀ (s : State) (v : Bool) (n : Nat) (raw ps : List Byte) (h : UmHdr) (hits : List EccHit), s.um.halted = false → hits.all (fun e => e.pail != storeHit 2) = true → 
    s.umBusy = false → s.replyDue = false → s.on 3 = true →
    s.ringPacket = some n → s.um.side = [] ∨ s.um.last = .sideband → s.um.sqBad = [] →
    raw = s.sqBytes (s.fld Reg.UM_SQ_HEAD F.UM_SQ_HEAD_PTR) 32 → headerBad raw = false →
    ps = s.sqBytes (s.fld Reg.UM_SQ_HEAD F.UM_SQ_HEAD_PTR + 32) (leAt raw 10 2) → h = packetHdr .ring 0 0 raw → crcBad raw ps = true →
    s.um.void = [] →
    Completes (.umPacketExecute v hits) s fun t => Counted Reg.UM_BADPKT s t ∧ Occurred 625 s t ∧
      t.fld Reg.UM_SQ_HEAD F.UM_SQ_HEAD_PTR = (s.fld Reg.UM_SQ_HEAD F.UM_SQ_HEAD_PTR + n) % 28672 ∧
      t.um.due = (s.refuseEcho h (leAt raw 0 2) stBadCrc).um.due ∧ t.gen = s.gen ∧ t.staged = s.staged) ∧
  (∀ (s : State) (v : Bool) (n : Nat) (raw ps : List Byte) (h : UmHdr) (c : Instr) (hits : List EccHit), s.um.halted = false → hits.all (fun e => e.pail != storeHit 2) = true → 
    s.umBusy = false → s.replyDue = false →
    s.on 3 = true → s.ringPacket = some n → s.um.side = [] ∨ s.um.last = .sideband → s.um.sqBad = [] →
    raw = s.sqBytes (s.fld Reg.UM_SQ_HEAD F.UM_SQ_HEAD_PTR) 32 → headerBad raw = false →
    ps = s.sqBytes (s.fld Reg.UM_SQ_HEAD F.UM_SQ_HEAD_PTR + 32) (leAt raw 10 2) → h = packetHdr .ring 0 0 raw → crcBad raw ps = false →
    opCommand (leAt raw 0 2) h ps v hits = some c →
    Completes (.umPacketExecute v hits) s fun t => Completes c
      ((s.setFld Reg.UM_SQ_HEAD F.UM_SQ_HEAD_PTR ((s.fld Reg.UM_SQ_HEAD F.UM_SQ_HEAD_PTR + n) % 28672)).updUm
        (fun x => { x with last := .ring })) fun w => w = t) ∧
  (∀ (s : State) (v : Bool) (n : Nat) (raw ps : List Byte) (h : UmHdr) (hits : List EccHit), s.um.halted = false → hits.all (fun e => e.pail != storeHit 2) = true → 
    s.umBusy = false → s.replyDue = false →
    s.on 3 = true → s.ringPacket = some n → s.um.side = [] ∨ s.um.last = .sideband → s.um.sqBad = [] →
    raw = s.sqBytes (s.fld Reg.UM_SQ_HEAD F.UM_SQ_HEAD_PTR) 32 → headerBad raw = false →
    ps = s.sqBytes (s.fld Reg.UM_SQ_HEAD F.UM_SQ_HEAD_PTR + 32) (leAt raw 10 2) → h = packetHdr .ring 0 0 raw → crcBad raw ps = false →
    opCommand (leAt raw 0 2) h ps v hits = none →
    Completes (.umPacketExecute v hits) s fun t => t =
      ((s.setFld Reg.UM_SQ_HEAD F.UM_SQ_HEAD_PTR ((s.fld Reg.UM_SQ_HEAD F.UM_SQ_HEAD_PTR + n) % 28672)).updUm
        (fun x => { x with last := .ring })).refuseEcho h (leAt raw 0 2) stBadOpcode) ∧
  (∀ (s : State) (v : Bool) (n : Nat) (raw : List Byte) (hits : List EccHit), s.um.halted = false → hits.all (fun e => e.pail != storeHit 2) = true → 
    s.umBusy = false → s.replyDue = false → s.on 3 = true →
    s.ringPacket = some n → s.um.side = [] ∨ s.um.last = .sideband →
    raw = s.sqBytes (s.fld Reg.UM_SQ_HEAD F.UM_SQ_HEAD_PTR) 32 → s.sqPoison (s.fld Reg.UM_SQ_HEAD F.UM_SQ_HEAD_PTR) 32 = true →
    32 ≤ n → s.um.void = [] →
    Completes (.umPacketExecute v hits) s fun t =>
      t.um.due = (s.refuse (packetHdr .ring 0 0 raw) (leAt raw 0 2) stMemPoison).um.due ∧
      RegsKept [Reg.UM_SQ_HEAD] s t ∧ t.gen = s.gen ∧ t.staged = s.staged) ∧
  (∀ (s : State) (v : Bool) (hits : List EccHit), s.um.halted = false → s.umBusy = false → s.replyDue = false → s.on 3 = true →
    hits.any (fun e => e.pail == storeHit 2 && e.unc && decide (3584 ≤ e.word)) = true →
    Completes (.umPacketExecute v hits) s fun t => t.um = { s.um with halted := true } ∧ t = s.creameryErrors hits ∧
      (t.rdW (Reg.VAT_ST_UECC 2)).toNat = min ((s.rdW (Reg.VAT_ST_UECC 2)).toNat +
        (hits.filter (fun e => e.pail == storeHit 2 && e.unc && decide (3584 ≤ e.word))).length) (2 ^ 32 - 1)) ∧
  (∀ (s : State) (v : Bool) (c : SideCmd) (cs : List SideCmd) (h : UmHdr) (ps : List Byte) (i : Instr) (hits : List EccHit), s.um.halted = false → hits.all (fun e => e.pail != storeHit 2) = true → 
    s.umBusy = false →
    s.replyDue = false → s.on 3 = true → s.um.side = c :: cs → s.ringPacket = none ∨ s.um.last = .ring →
    headerBad (bytesAt c.bytes 0 32) = false → ps = (c.bytes.drop 32).take (leAt (bytesAt c.bytes 0 32) 10 2) →
    crcBad (bytesAt c.bytes 0 32) ps = false → h = packetHdr .sideband c.eid c.tag (bytesAt c.bytes 0 32) →
    opCommand (leAt c.bytes 0 2) h ps v hits = some i →
    Completes (.umPacketExecute v hits) s fun t => Completes i
      (s.updUm (fun x => { x with side := cs, last := .sideband })) fun w => w = t) ∧
  (∀ (s : State) (h : UmHdr) (p : List Byte) (op st : Nat) (v : Bool) (hits : List EccHit) (c : Instr), opCommand op h p v hits = some c → op ≠ 0x0204 →
    s.umCheck h op p.length = some st → st ≠ stRoleRefused → Completes c s fun t => t = s.refuseEcho h op st) ∧
  (∀ (s : State) (r : Reply), s.um.due.find? (fun r => r.hdr.carrier == .ring) = some r → s.um.halted = false →
    s.on 3 = true → s.ringOpen = true →
    (s.fld Reg.UM_RQ_TAIL F.UM_RQ_TAIL_PTR + 28672 - s.fld Reg.UM_RQ_HEAD F.UM_RQ_HEAD_PTR) % 28672 + (s.replyBytes r).length ≤
      28664 → s.fld Reg.UM_RQ_TAIL F.UM_RQ_TAIL_PTR < 28672 → s.fld Reg.UM_RQ_HEAD F.UM_RQ_HEAD_PTR < 28672 →
    r.op ≠ 0x0C00 →
    Completes (.umReplyPost .ring) s fun t => t.um.due = s.um.due.erase r ∧
      t.fld Reg.UM_RQ_TAIL F.UM_RQ_TAIL_PTR = (s.fld Reg.UM_RQ_TAIL F.UM_RQ_TAIL_PTR + (s.replyBytes r).length) % 28672 ∧
      (List.range (s.replyBytes r).length).map (fun i => SMap.get 0 t.um.rq ((s.fld Reg.UM_RQ_TAIL F.UM_RQ_TAIL_PTR + i) % 28672)) =
        s.replyBytes r ∧
      t.fld Reg.UM_STAT F.UM_STAT_RING_FULL = 0 ∧ Occurred 624 s t ∧ t.out = s.out ∧
      (s.replyBytes r).length % 8 = 0 ∧ leAt (s.replyBytes r) 0 2 = r.op % 2 ^ 16 ∧ leAt (s.replyBytes r) 22 2 = r.status % 2 ^ 16 ∧
      leAt (s.replyBytes r) 10 2 = r.result.length % 2 ^ 16 ∧ leAt (s.replyBytes r) 20 1 = 1 ∧
      leAt (s.replyBytes r) 16 4 = crc32c ((s.replyBytes r).take 16 ++ [0, 0, 0, 0] ++
        (s.replyBytes r).drop 20 |>.take (32 + r.result.length))) ∧
  (∀ (s : State) (r : Reply), s.um.due.find? (fun r => r.hdr.carrier == .ring) = some r → s.um.halted = false →
    s.on 3 = true → s.ringOpen = true →
    28664 < (s.fld Reg.UM_RQ_TAIL F.UM_RQ_TAIL_PTR + 28672 - s.fld Reg.UM_RQ_HEAD F.UM_RQ_HEAD_PTR) % 28672 +
      (s.replyBytes r).length → s.flag Reg.UM_STAT F.UM_STAT_RING_FULL = false →
    Completes (.umReplyPost .ring) s fun t => t.um = s.um ∧ t.fld Reg.UM_STAT F.UM_STAT_RING_FULL = 1 ∧ Occurred 637 s t ∧
      RegsKeptEv [Reg.UM_STAT] s t) ∧
  (∀ (s : State) (r : Reply), s.um.due.find? (fun r => r.hdr.carrier == .sideband) = some r → s.um.halted = false →
    s.on 3 = true → r.later = false →
    r.op ≠ 0x0C00 →
    Completes (.umReplyPost .sideband) s fun t => t.um.due = s.um.due.erase r ∧ t.regs = s.regs ∧
      t.out = .sideband r.hdr.eid r.hdr.tag false ([0x7E, 0x1F, 0x9A] ++ s.replyBytes r) :: s.out) ∧
  (∀ (s : State) (c : Carrier), s.um.due.find? (fun r => r.hdr.carrier == c) = none ∨ s.on 3 = false ∨ s.um.halted = true ∨
      (c = .ring ∧ s.ringOpen = false) → Completes (.umReplyPost c) s fun t => t = s) ∧
  (∀ (s : State) (h : UmHdr) (p : List Byte), s.umCheck h 0x0C01 p.length = none → h.carrier = .ring → leAt p 0 1 = 0 →
    Completes (.umReset h p) s fun t => t.fld Reg.UM_SQ_HEAD F.UM_SQ_HEAD_PTR = s.fld Reg.UM_SQ_TAIL F.UM_SQ_TAIL_PTR ∧
      t.um = (s.reply h 0x0C01 stOK []).um ∧ t.staged = s.staged ∧ RegsKept [Reg.UM_SQ_HEAD] s t) ∧
  (∀ (s : State) (h : UmHdr) (p : List Byte), s.umCheck h 0x0C01 p.length = none → h.carrier = .sideband → leAt p 0 1 = 1 →
    Completes (.umReset h p) s fun t => t.um.side = [] ∧ t.um.due = (s.reply h 0x0C01 stOK []).um.due ∧
      t.um.owed = s.um.owed ∧ t.staged = s.staged ∧ t.regs = s.regs) ∧
  (∀ (s : State) (h : UmHdr) (p : List Byte), s.umCheck h 0x0C01 p.length = none → h.carrier = .sideband → leAt p 0 1 = 0 →
    s.on 3 = true →
    Completes (.umReset h p) s fun t => Completes .umCtrlReset s fun u => t = u.reply h 0x0C01 stOK []) ∧
  (∀ (s : State) (h : UmHdr) (p : List Byte), s.umCheck h 0x0C01 p.length = none → h.carrier = .ring → leAt p 0 1 = 1 →
    Completes (.umReset h p) s fun t => t.um.side = [] ∧ (∀ o ∈ t.um.owed, o.1.carrier = .ring) ∧
      (s.genState = 1 → s.fld Reg.UM_GEN_STAT F.UM_GEN_STAT_OWNER = 1 → t.genState = 0 ∧ t.staged = []) ∧
      (s.genState = 2 → t.staged = s.staged ∧ t.genState = 2) ∧
      t.fld Reg.UM_SQ_HEAD F.UM_SQ_HEAD_PTR = s.fld Reg.UM_SQ_HEAD F.UM_SQ_HEAD_PTR)

/-- The sideband (R383, R462): a message of the vendor's type is held, up to four, each an occurrence of SIDEBAND_CMD, and a
fifth is answered with QUEUE_FULL; in sleep it wakes the device instead; the five MCTP control commands are answered. Their
formats are DSP0236's, which the spec names and does not repeat: the model's reading (log 71). -/
def Obligations.SidebandMessagesAreHeldOrAnswered : Prop :=
  (∀ (s : State) (eid tag : Nat) (bs : List Byte), s.sbOpen = true → s.um.side.length < 4 →
    Completes (.mctpMessage eid tag bs) s fun t => t.um = { s.um with side := s.um.side ++ [⟨eid, tag, bs⟩] } ∧ Occurred 638 s t ∧
      RegsKeptEv [] s t ∧ t.out = (s.evUm 14).out) ∧
  (∀ (s : State) (eid tag : Nat) (bs : List Byte), s.sbOpen = true → 4 ≤ s.um.side.length → s.um.void = [] →
    Completes (.mctpMessage eid tag bs) s fun t => t.um.side = s.um.side ∧ Occurred 638 s t ∧
      t.um.due.length = s.um.due.length + 1 ∧ ∀ r ∈ t.um.due.drop s.um.due.length, r.status = stQueueFull ∧
        r.hdr.carrier = .sideband ∧ r.hdr.eid = eid ∧ r.hdr.tag = tag) ∧
  (∀ (s : State) (eid tag : Nat) (bs : List Byte), s.on 3 = false ∨ s.mode = 0xA ∨ s.mode = 0xB ∨ s.pw.sleep.isSome = true →
    s.dozing = true → (s.rdW Reg.PW_WAKE_EN).toNat.testBit 1 = true → s.pw.wake = none →
    Completes (.mctpMessage eid tag bs) s fun t => t.pw.wake = some ⟨s.aon, 2, 0⟩ ∧ t.um = s.um ∧ t.regs = s.regs) ∧
  (∀ (s : State) (eid tag inst e : Nat) (p : List Byte), s.sbOpen = true → p.length = 2 → leAt p 0 1 % 4 ≤ 1 →
    e = leAt p 1 1 → 8 ≤ e → e < 255 →
    Completes (.setEndpointId eid tag inst p) s fun t => t.um = { s.um with eid := e } ∧ t.regs = s.regs ∧
      t.out = .sideband eid tag false ([0, BitVec.ofNat 8 (inst % 32), 1, 0, 0] ++ leBytes 1 e ++ [0]) :: s.out) ∧
  (∀ (s : State) (eid tag inst : Nat) (p : List Byte), s.sbOpen = true → p.length = 2 → leAt p 1 1 < 8 →
    Completes (.setEndpointId eid tag inst p) s fun t =>
      t = s.emit (.sideband eid tag false [0, BitVec.ofNat 8 (inst % 32), 1, 2])) ∧
  (∀ (s : State) (eid tag inst : Nat), s.sbOpen = true →
    Completes (.getEndpointId eid tag inst []) s fun t =>
      t = s.emit (.sideband eid tag false ([0, BitVec.ofNat 8 (inst % 32), 2, 0] ++ leBytes 1 s.um.eid ++ [0, 0]))) ∧
  (∀ (s : State) (eid tag inst ty : Nat), s.sbOpen = true → ty ∈ [0, 1, 5, 6, 0x7E, 0xFF] →
    Completes (.getMctpVersionSupport eid tag inst (leBytes 1 ty)) s fun t => t = s.emit (.sideband eid tag false
      ([0, BitVec.ofNat 8 (inst % 32), 4, 0] ++ leBytes 1 ((Config.mctpVersions ty).length / 4) ++ Config.mctpVersions ty))) ∧
  (∀ (s : State) (eid tag inst ty : Nat), s.sbOpen = true → ty < 256 → ty ∉ [0, 1, 5, 6, 0x7E, 0xFF] →
    Completes (.getMctpVersionSupport eid tag inst (leBytes 1 ty)) s fun t =>
      t = s.emit (.sideband eid tag false [0, BitVec.ofNat 8 (inst % 32), 4, 0x80])) ∧
  (∀ (s : State) (eid tag inst : Nat), s.sbOpen = true →
    Completes (.getMessageTypeSupport eid tag inst []) s fun t =>
      t = s.emit (.sideband eid tag false [0, BitVec.ofNat 8 (inst % 32), 5, 0, 4, 1, 5, 6, 0x7E])) ∧
  (∀ (s : State) (eid tag inst : Nat), s.sbOpen = true →
    Completes (.getVendorDefinedMessageSupport eid tag inst [0]) s fun t => t = s.emit (.sideband eid tag false
      ([0, BitVec.ofNat 8 (inst % 32), 6, 0, 0xFF, 0, 0x1F, 0x9A] ++ beBytes 2 Config.vendorSet.toNat))) ∧
  (∀ (s : State) (eid tag inst : Nat) (e : Instr × Nat) (p : List Byte), s.sbOpen = true → 3 ≤ p.length →
    e ∈ [(.setEndpointId eid tag inst p, 1), (.getEndpointId eid tag inst p, 2), (.getMctpVersionSupport eid tag inst p, 4),
      (.getMessageTypeSupport eid tag inst p, 5), (.getVendorDefinedMessageSupport eid tag inst p, 6)] →
    Completes e.1 s fun t => t = s.emit (.sideband eid tag false [0, BitVec.ofNat 8 (inst % 32), BitVec.ofNat 8 e.2, 3]))

/-- Queries, registers and policy (R88, R194, R196, R210, R214 to R216, R331, R340, R389, R390, R398, R400, R401): each query
answers what the rule names and changes nothing else; REG_WRITE and REG_READ act as the accesses that they stand for; the
DMA tables are staged; EV_CLEAR writes the masks as W1C. -/
def Obligations.CommandsOfRegistersQueriesAndPolicyAnswer : Prop :=
  (∀ (s : State) (h : UmHdr) (p : List Byte), s.umCheck h 0x0100 p.length = none →
    Completes (.identify h p) s fun t => t = s.reply h 0x0100 stOK (leBytes 8 s.sec.fuses.dsn ++ [0x20] ++
      leBytes 1 s.sec.fuses.ordering ++ leBytes 1 s.roleCode ++ leBytes 1 s.sec.lcNow ++ leBytes 4 s.fwVersion ++
      leBytes 4 (s.fld Reg.UM_GEN_SEQ F.UM_GEN_SEQ_SEQ) ++ leBytes 2 (s.fld Reg.CL_HERD_CFG F.CL_HERD_CFG_ADDR) ++
      leBytes 1 s.mgr ++ [0] ++ leBytes 4 (s.rdW Reg.PW_MODE).toNat)) ∧
  (∀ (s : State) (h : UmHdr) (p : List Byte), s.umCheck h 0x0101 p.length = none →
    Completes (.ping h p) s fun t => t = s.reply h 0x0101 stOK p) ∧
  (∀ (s : State) (h : UmHdr) (p : List Byte), s.umCheck h 0x0102 p.length = none → 1 ≤ leAt p 4 2 → leAt p 4 2 ≤ 4096 →
    leAt p 0 4 + leAt p 4 2 ≤ 0x800000 →
    Completes (.rtRead h p) s fun t => t = s.reply h 0x0102 stOK ((List.range (leAt p 4 2)).map
      (fun i => (s.resourceTable s.mgr).getD (leAt p 0 4 + i) 0))) ∧
  (∀ (s : State) (h : UmHdr) (p : List Byte), s.umCheck h 0x0102 p.length = none →
    leAt p 4 2 = 0 ∨ 4096 < leAt p 4 2 ∨ 0x800000 < leAt p 0 4 + leAt p 4 2 →
    Completes (.rtRead h p) s fun t => t = s.refuse h 0x0102 stBadParam) ∧
  (∀ (s : State) (h : UmHdr) (p : List Byte), s.umCheck h 0x0103 p.length = none → leAt p 0 1 < 32 →
    s.linkPresent (leAt p 0 1) = true →
    Completes (.mgrLinkSet h p) s fun t => t.um.mgrNext = some (leAt p 0 1) ∧ t.um.due = (s.reply h 0x0103 stOK []).um.due ∧
      t.mgr = s.mgr ∧ t.regs = s.regs) ∧
  (∀ (s : State) (h : UmHdr) (p : List Byte), s.umCheck h 0x0103 p.length = none →
    32 ≤ leAt p 0 1 ∨ s.linkPresent (leAt p 0 1) = false →
    Completes (.mgrLinkSet h p) s fun t => t = s.refuse h 0x0103 stBadParam) ∧
  (∀ (s : State) (h : UmHdr) (p : List Byte) (off : Nat) (v : BitVec 32) (hits : List EccHit), s.umCheck h 0x0202 p.length = none →
    p = leBytes 4 off ++ [4, 0, 0, 0] ++ leBytes 4 v.toNat → s.notOwner h.carrier = false → regBytes off = 4 → s.on 3 = true →
    off < 2 ^ 32 → (bar0Region off 4).isSome = true → off % 4 = 0 → off ≠ Reg.UM_CTRL →
    s.busExcluded (.um h.carrier) off false v.toNat = false →
    Completes (.regWrite h p hits) s fun t => Completes (.registerWrite (.um h.carrier) off false (v.setWidth 64)) s fun u =>
      t = u.reply h 0x0202 stOK []) ∧
  (∀ (s : State) (h : UmHdr) (p : List Byte) (off : Nat) (hits : List EccHit), s.umCheck h 0x0202 p.length = none →
    p = leBytes 4 off ++ [4, 0, 0, 0, 0, 0, 0, 0] → s.notOwner h.carrier = true → regBytes off = 4 → rwgMask off ≠ 0 →
    off < 2 ^ 32 → (bar0Region off 4).isSome = true → off % 4 = 0 →
    Completes (.regWrite h p hits) s fun t => t = s.refuse h 0x0202 stGenBusy) ∧
  (∀ (s : State) (h : UmHdr) (p : List Byte) (hits : List EccHit), s.umCheck h 0x0202 p.length = none → leAt p 4 1 ≠ 4 → leAt p 4 1 ≠ 8 →
    Completes (.regWrite h p hits) s fun t => t = s.refuse h 0x0202 stBadParam) ∧
  (∀ (s : State) (h : UmHdr) (p : List Byte) (off : Nat) (hits : List EccHit), s.umCheck h 0x0203 p.length = none →
    p = leBytes 4 off ++ [4, 0, 1, 0] → regBytes off = 4 → off < 2 ^ 32 → (bar0Region off 4).isSome = true → off % 4 = 0 →
    Completes (.regRead h p hits) s fun t => t.um = (s.reply h 0x0203 stOK (leBytes 4 (s.busWord off))).um ∧
      t.rdW off = s.rdW off &&& ~~~ rcMask off ∧ RegsKept [off] s t) ∧
  (∀ (s : State) (h : UmHdr) (p : List Byte) (off : Nat) (hits : List EccHit), s.umCheck h 0x0203 p.length = none →
    p = leBytes 4 off ++ [4, 1, 1, 0] → plainRwg off = true → off < 2 ^ 32 → (bar0Region off 4).isSome = true → off % 4 = 0 →
    s.genState ≠ 0 →
    Completes (.regRead h p hits) s fun t => t = s.reply h 0x0203 stOK
      (leBytes 4 ((BitVec.ofNat 64 (s.busWord off) &&& ~~~ rwgMask off) ||| (s.rdS off &&& rwgMask off)).toNat)) ∧
  (∀ (s : State) (h : UmHdr) (p : List Byte), s.umCheck h 0x0206 p.length = none →
    Completes (.genStatus h p) s fun t => t = s.reply h 0x0206 stOK (leBytes 1 s.genState ++
      leBytes 1 (s.fld Reg.UM_GEN_STAT F.UM_GEN_STAT_OWNER) ++ [0, 0] ++ leBytes 4 (s.fld Reg.UM_GEN_SEQ F.UM_GEN_SEQ_SEQ) ++
      leBytes 8 ((s.um.armed.map (fun a => (tlOf a.at_).toNat)).getD 0) ++ s.rdWide Reg.UM_GEN_DIGEST ++
      s.rdWide Reg.UM_GEN_HDIGEST ++ leBytes 2 (s.fld Reg.UM_GEN_STAT F.UM_GEN_STAT_LAST_REFUSAL) ++ [0, 0] ++
      leBytes 4 s.um.refusalDet)) ∧
  (∀ (s : State) (h : UmHdr) (p : List Byte), s.umCheck h 0x0207 p.length = none → leAt p 0 1 = 1 → 1 ≤ leAt p 8 2 →
    leAt p 8 2 ≤ 4096 → leAt p 4 4 = 0 → s.genState = 0 →
    Completes (.genDump h p) s fun t => t = s.refuse h 0x0207 stGenNotOpen ∨ t = s.refuse h 0x0207 stBadParam) ∧
  (∀ (s : State) (h : UmHdr) (p : List Byte), s.umCheck h 0x0207 p.length = none → 1 < leAt p 0 1 ∨ leAt p 8 2 = 0 →
    Completes (.genDump h p) s fun t => t = s.refuse h 0x0207 stBadParam) ∧
  (∀ (s : State) (h : UmHdr) (p : List Byte), s.umCheck h 0x0207 p.length = none → leAt p 0 1 = 0 → 1 ≤ leAt p 8 2 →
    leAt p 8 2 ≤ 576 → leAt p 4 4 = 0 →
    Completes (.genDump h p) s fun t => t = s.reply h 0x0207 stOK ((s.encoding s.gen []).take (leAt p 8 2))) ∧
  (∀ (s : State) (h : UmHdr) (p : List Byte) (a : Fin 4), s.umCheck h 0x0302 p.length = none → leAt p 0 1 = a.val →
    tlValid (BitVec.ofNat 64 (leAt p 8 8)) = true → s.on 2 = true → s.on 3 = true →
    Completes (.tlAlarmSet h p) s fun t => t.rdW (Reg.TL_ALARM_AT a) = BitVec.ofNat 64 (leAt p 8 8) ∧
      t.fld (Reg.TL_ALARM_PERIOD a) F.TL_ALARM_PERIOD_PERIOD = leAt p 4 4 % 2 ^ F.TL_ALARM_PERIOD_PERIOD.wid ∧
      t.flag (Reg.TL_ALARM_CTRL a) F.TL_ALARM_CTRL_EN = (leAt p 1 1).testBit 0 ∧
      t.flag (Reg.TL_ALARM_CTRL a) F.TL_ALARM_CTRL_WAKE_EN = (leAt p 1 1).testBit 1 ∧
      RegsKept [Reg.TL_ALARM_AT a, Reg.TL_ALARM_PERIOD a, Reg.TL_ALARM_CTRL a] s t ∧
      t.um.due = (s.reply h 0x0302 stOK []).um.due) ∧
  (∀ (s : State) (h : UmHdr) (p : List Byte), s.umCheck h 0x0302 p.length = none →
    3 < leAt p 0 1 ∨ tlValid (BitVec.ofNat 64 (leAt p 8 8)) = false →
    Completes (.tlAlarmSet h p) s fun t => t = s.refuse h 0x0302 stBadParam) ∧
  (∀ (s : State) (h : UmHdr) (p : List Byte) (m : HLink) (first n : Nat), s.umCheck h 0x0700 p.length = none →
    leAt p 0 1 = m.val → leAt p 2 2 = first → leAt p 4 2 = n → first + n ≤ 1024 → (p.drop 8).length = 4 * n → s.genState = 1 →
    s.notOwner h.carrier = false →
    Completes (.dmaWheelSet h p) s fun t => t.um.due = (s.reply h 0x0700 stOK []).um.due ∧ t.gen = s.gen ∧ t.regs = s.regs ∧
      ∀ i ∈ List.range n, t.rdS (Reg.DMA_WHEEL_E m (first + i)) =
        BitVec.ofNat 64 (leAt (p.drop 8) (4 * i) 4) &&& rwgMask (Reg.DMA_WHEEL_E m (first + i))) ∧
  (∀ (s : State) (h : UmHdr) (p : List Byte) (first n : Nat) (e : Instr × Nat × Nat × Nat),
    e ∈ [(.dmaOwnSet h p, 0x0701, 4096, Reg.DMA_OWN 0), (.dmaStgqSet h p, 0x0702, 1024, Reg.DMA_STGQ 0)] →
    s.umCheck h e.2.1 p.length = none → first + n ≤ e.2.2.1 →
    leAt p 0 2 = first → leAt p 2 2 = n → (p.drop 4).length = 4 * n → s.genState = 1 → s.notOwner h.carrier = false →
    Completes e.1 s fun t => t.um.due = (s.reply h e.2.1 stOK []).um.due ∧ t.gen = s.gen ∧ t.regs = s.regs ∧
      ∀ i ∈ List.range n, t.rdS (e.2.2.2 + 4 * (first + i)) =
        BitVec.ofNat 64 (leAt (p.drop 4) (4 * i) 4) &&& rwgMask (e.2.2.2 + 4 * (first + i))) ∧
  (∀ (s : State) (h : UmHdr) (p : List Byte) (e : Instr × Nat),
    e ∈ [(.dmaOwnSet h p, 0x0701), (.dmaStgqSet h p, 0x0702)] → s.umCheck h e.2 p.length = none →
    (p.drop 4).length ≠ 4 * leAt p 2 2 → Completes e.1 s fun t => t = s.refuse h e.2 stBadParam) ∧
  (∀ (s : State) (h : UmHdr) (p : List Byte), s.umCheck h 0x0703 p.length = none → leAt p 0 2 < 4096 →
    Completes (.dmaChanRead h p) s fun t => t = s.reply h 0x0703 stOK ((List.range 16).flatMap
        (fun j => leBytes 8 (s.read64 (.um h.carrier) (Reg.DMA_SRC (leAt p 0 2) + 8 * j)).2)) ∧
      ∀ j ∈ List.range 16, regBytes (Reg.DMA_SRC (leAt p 0 2) + 8 * j) = 8 →
        (s.read64 (.um h.carrier) (Reg.DMA_SRC (leAt p 0 2) + 8 * j)).2 = s.busWord (Reg.DMA_SRC (leAt p 0 2) + 8 * j)) ∧
  (∀ (s : State) (h : UmHdr) (p : List Byte) (c : Chan) (e : Instr × Nat), s.umCheck h 0x0704 p.length = none →
    leAt p 0 2 = c.val → leAt p 2 1 = e.2 → e ∈ [(.dmaStopReq c, 1), (.dmaCancel c, 2), (.dmaClrErr c, 4)] →
    Completes (.dmaChanCtrl h p) s fun t => Completes e.1 s fun u =>
      t = u.reply h 0x0704 stOK (leBytes 4 (u.busWord (Reg.DMA_STAT c)))) ∧
  (∀ (s : State) (h : UmHdr) (p : List Byte), s.umCheck h 0x0B02 p.length = none → leAt p 0 1 = 0 → 1 ≤ leAt p 4 2 →
    leAt p 4 2 ≤ 127 → leAt p 2 2 + leAt p 4 2 ≤ 4096 →
    Completes (.workReport h p) s fun t => t = s.reply h 0x0B02 stOK
      (leBytes 8 (if s.tlKnown = true then (tlOf s.now).toNat else 0) ++ [0, 0] ++ leBytes 2 (leAt p 4 2) ++ [0, 0, 0, 0] ++
        (List.range (leAt p 4 2)).flatMap (fun i => (s.reportEntry [] (leAt p 2 2 + i)).bytes))) ∧
  (∀ (s : State) (h : UmHdr) (p : List Byte), s.umCheck h 0x0B02 p.length = none → leAt p 0 1 = 1 → 1 ≤ leAt p 4 2 →
    leAt p 4 2 ≤ 127 → leAt p 2 2 + leAt p 4 2 ≤ 4096 → s.um.report = none →
    Completes (.workReport h p) s fun t => t = s.reply h 0x0B02 stOK (List.replicate 8 0 ++ [0xFF] ++ List.replicate 7 0)) ∧
  (∀ (s : State) (h : UmHdr) (p : List Byte), s.umCheck h 0x0B03 p.length = none →
    Completes (.evRead h p) s fun t => t = s.reply h 0x0B03 stOK
      ((List.range 20).flatMap (fun w => leBytes 4 (s.busWord (Reg.EV_RAISED w))) ++ leBytes 4 (s.busWord Reg.EV_ALERT))) ∧
  (∀ (s : State) (h : UmHdr) (p : List Byte), s.umCheck h 0x0B04 p.length = none → s.on 3 = true →
    Completes (.evClear h p) s fun t => t.um.due = (s.reply h 0x0B04 stOK []).um.due ∧
      RegsKept ((List.range 20).map Reg.EV_RAISED) s t ∧
      ∀ w ∈ List.range 20, t.rdW (Reg.EV_RAISED w) = s.rdW (Reg.EV_RAISED w) &&& ~~~ BitVec.ofNat 64 (leAt p (4 * w) 4))

/-- Generations (R389, R392 to R396, R398, R543): GEN_OPEN copies the active image, GEN_ABORT drops the copy; COMMIT_AT
freezes it if its instant is valid, known and far enough away, and is else refused; its checks accept it or return it to
Open; at its instant it is active everywhere; GEN_CANCEL, and a parity error while Armed, return it to Open. -/
def Obligations.GenerationsOpenArmAndTakeEffect : Prop :=
  (∀ (s : State) (h : UmHdr) (p : List Byte), s.umCheck h 0x0200 p.length = none → s.genState = 0 → s.image = [] →
    Completes (.genOpen h p) s fun t => t.genState = 1 ∧ t.staged = s.gen ∧ t.gen = s.gen ∧
      t.fld Reg.UM_GEN_STAT F.UM_GEN_STAT_OWNER = ownerOf h.carrier ∧
      t.um.due = (s.reply h 0x0200 stOK (leBytes 4 s.stagedSeq)).um.due ∧ RegsKept [Reg.UM_GEN_STAT] s t) ∧
  (∀ (s : State) (h : UmHdr) (p : List Byte), s.umCheck h 0x0200 p.length = none → s.genState ≠ 0 →
    Completes (.genOpen h p) s fun t => t = s.refuse h 0x0200 stGenBusy) ∧
  (∀ (s : State) (h : UmHdr) (p : List Byte), s.umCheck h 0x0201 p.length = none → s.genState = 1 → s.notOwner h.carrier = false →
    Completes (.genAbort h p) s fun t => t.genState = 0 ∧ t.staged = [] ∧ t.gen = s.gen ∧
      t.um.due = (s.reply h 0x0201 stOK []).um.due ∧ RegsKept [Reg.UM_GEN_STAT] s t) ∧
  (∀ (s : State) (h : UmHdr) (p : List Byte) (e : Instr × Nat), e ∈ [(.genAbort h p, 0x0201), (.genCancel h p, 0x0205)] →
    s.umCheck h e.2 p.length = none → s.notOwner h.carrier = true →
    Completes e.1 s fun t => t = s.refuse h e.2 stGenBusy) ∧
  (∀ (s : State) (h : UmHdr) (p : List Byte) (e : Instr × Nat × Nat),
    e ∈ [(.genAbort h p, 0x0201, 1), (.genCancel h p, 0x0205, 2)] →
    s.umCheck h e.2.1 p.length = none → s.notOwner h.carrier = false → s.genState ≠ e.2.2 →
    Completes e.1 s fun t => t = s.refuse h e.2.1 stGenNotOpen) ∧
  (∀ (s : State) (h : UmHdr) (p : List Byte) (a : Armed), s.umCheck h 0x0205 p.length = none → s.genState = 2 →
    s.notOwner h.carrier = false → s.um.armed = some a → a.herd = false → a.hdr = none → s.atCome = false →
    Completes (.genCancel h p) s fun t => t.genState = 1 ∧ t.staged = s.staged ∧ t.gen = s.gen ∧ t.um.armed = none ∧
      (∀ g ∈ List.range 12, t.fld (Reg.CH_WB_STATUS g) F.CH_WB_STATUS_DIRTY = s.fld (Reg.CH_WB_STATUS g) F.CH_WB_STATUS_DIRTY ∧
        (g ∈ a.groups → t.fld (Reg.CH_WB_STATUS g) F.CH_WB_STATUS_PENDING = 0)) ∧
      t.um.due = (s.reply h 0x0205 stOK []).um.due) ∧
  (∀ (s : State) (h k : UmHdr) (p : List Byte) (a : Armed), s.umCheck h 0x0205 p.length = none → s.genState = 2 →
    s.notOwner h.carrier = false → s.um.armed = some a → a.herd = false → a.hdr = some k → s.um.owed.contains (k, 0x0204) = true →
    s.atCome = false → s.um.void = [] →
    Completes (.genCancel h p) s fun t => t.genState = 1 ∧ t.staged = s.staged ∧ t.um.armed = none ∧
      (t.um.due.drop s.um.due.length).map (fun r => (r.hdr, r.op)) =
        [(k, 0x0204)] ++ (if h.quiet = true then [] else [(h, 0x0205)]) ∧
      (t.um.due.drop s.um.due.length).map (·.status) = [stGenAborted] ++ (if h.quiet = true then [] else [stOK])) ∧
  (∀ (s : State) (h : UmHdr) (p : List Byte), s.umCheck h 0x0204 p.length = none → s.mode ≠ 0xA → s.mode ≠ 0xB →
    s.genState = 1 → s.notOwner h.carrier = false → tlValid (BitVec.ofNat 64 (leAt p 0 8)) = true →
    s.flag Reg.TL_STATE F.TL_STATE_HAS_TIME = true → 131072 ≤ tlDiff (tlCount (BitVec.ofNat 64 (leAt p 0 8))) s.now →
    h.herd = false →
    Completes (.commitAt h p) s fun t => t.genState = 2 ∧ t.staged = s.staged ∧ t.gen = s.gen ∧
      t.rdW Reg.UM_GEN_AT = tlOf (tlCount (BitVec.ofNat 64 (leAt p 0 8))) ∧ t.um.due = s.um.due ∧
      t.um.owed = s.um.owed ++ [(h, 0x0204)] ∧
      (∀ g ∈ List.range 12, s.flag (Reg.CH_WB_STATUS g) F.CH_WB_STATUS_DIRTY = true →
        t.flag (Reg.CH_WB_STATUS g) F.CH_WB_STATUS_PENDING = true) ∧
      t.um.armed.map (fun a => (a.hdr, a.at_, a.seq)) =
        some (some h, tlCount (BitVec.ofNat 64 (leAt p 0 8)), s.stagedSeq) ∧
      t.um.armed.map (fun a => (a.groups, a.bad)) = some (s.dirtyGroups, s.genFault s.dirtyGroups) ∧
      t.um.armed.map (·.digest) = some (sha384 (s.encoding s.staged s.dirtyGroups)) ∧
      t.um.armed.map (fun a => (a.checked, a.ok)) = some (false, false)) ∧
  (∀ (s : State) (h : UmHdr) (p : List Byte) (st : Nat), s.umCheck h 0x0204 p.length = none → s.mode ≠ 0xA → s.mode ≠ 0xB →
    s.um.void = [] →
    ((s.notOwner h.carrier = true ∧ st = stGenBusy) ∨ (s.notOwner h.carrier = false ∧ s.genState ≠ 1 ∧ st = stGenNotOpen) ∨
      (s.notOwner h.carrier = false ∧ s.genState = 1 ∧ ((tlValid (BitVec.ofNat 64 (leAt p 0 8)) = false ∧ st = stBadParam) ∨
        (tlValid (BitVec.ofNat 64 (leAt p 0 8)) = true ∧
          ((s.flag Reg.TL_STATE F.TL_STATE_HAS_TIME = false ∧ st = stTlStateRefused) ∨
            (s.flag Reg.TL_STATE F.TL_STATE_HAS_TIME = true ∧
              tlDiff (tlCount (BitVec.ofNat 64 (leAt p 0 8))) s.now < 131072 ∧ st = stCommitTooSoon)))))) →
    Completes (.commitAt h p) s fun t => t.genState = s.genState ∧ t.staged = s.staged ∧ t.gen = s.gen ∧
      t.um.armed = s.um.armed ∧ t.fld Reg.UM_GEN_STAT F.UM_GEN_STAT_LAST_REFUSAL = st ∧ Occurred 627 s t ∧
      t.um.due = (s.refuse h 0x0204 st).um.due ∧ RegsKeptEv [Reg.UM_GEN_STAT] s t) ∧
  (∀ (s : State) (a : Armed) (h : UmHdr) (k : Nat), s.um.armed = some a → a.checked = false → a.hdr = some h → a.bad = some k →
    a.herd = false → s.um.owed.contains (h, 0x0204) = true → s.um.void = [] →
    Completes .commitChecksComplete s fun t => t.genState = 1 ∧ t.um.armed = none ∧ t.staged = s.staged ∧ t.gen = s.gen ∧
      Occurred 627 s t ∧ t.fld Reg.UM_GEN_STAT F.UM_GEN_STAT_LAST_REFUSAL = stGenInvalid ∧
      (t.um.due.drop s.um.due.length).map (fun r => (r.hdr, r.op, r.status)) = [(h, 0x0204, stGenInvalid)] ∧
      (t.um.due.drop s.um.due.length).map (fun r => (r.detail, r.final)) = [(k, true)] ∧
      ∀ g ∈ List.range 12, t.fld (Reg.CH_WB_STATUS g) F.CH_WB_STATUS_DIRTY = s.fld (Reg.CH_WB_STATUS g) F.CH_WB_STATUS_DIRTY ∧
        (g ∈ a.groups → t.fld (Reg.CH_WB_STATUS g) F.CH_WB_STATUS_PENDING = 0)) ∧
  (∀ (s : State) (a : Armed) (h : UmHdr), s.um.armed = some a → a.checked = false → a.hdr = some h → a.bad = none →
    a.herd = false → a.expect.any (· != 0) = true → a.expect ≠ a.digest → s.um.owed.contains (h, 0x0204) = true → s.um.void = [] →
    Completes .commitChecksComplete s fun t => t.genState = 1 ∧ t.um.armed = none ∧ t.staged = s.staged ∧ t.gen = s.gen ∧
      (t.um.due.drop s.um.due.length).map (fun r => (r.hdr, r.op, r.status)) = [(h, 0x0204, stGenDigestMismatch)]) ∧
  (∀ (s : State) (a : Armed) (h : UmHdr), s.um.armed = some a → a.checked = false → a.hdr = some h → a.bad = none →
    a.expect.all (· == 0) = true ∨ a.expect = a.digest → a.ok = false → a.peerAck = none →
    s.um.owed.contains (h, 0x0204) = true → s.um.void = [] →
    Completes .commitChecksComplete s fun t => t.um.armed = some { a with checked := true, ok := true } ∧ t.regs = s.regs ∧
      (t.um.due.drop s.um.due.length).map (fun r => (r.hdr, r.op, r.status)) = [(h, 0x0204, stAccepted)] ∧
      (t.um.due.drop s.um.due.length).map (fun r => (r.result, r.final)) = [(a.digest ++ leBytes 4 a.seq, false)]) ∧
  (∀ (s : State) (a : Armed) (h : UmHdr), s.um.armed = some a → a.ok = true → s.tlKnown = true → tlReached s.now a.at_ = true →
    a.hdr = some h → s.um.owed.contains (h, 0x0204) = true → s.um.void = [] → a.digest.length = 48 → a.herd = false →
    Completes .genTakesEffect s fun t => t.gen = s.staged ∧ t.staged = [] ∧ t.genState = 0 ∧ t.um.armed = none ∧
      t.rdW Reg.UM_GEN_SEQ = BitVec.ofNat 64 a.seq ∧ t.rdWide Reg.UM_GEN_DIGEST = a.digest ∧ t.rdWide Reg.UM_GEN_HDIGEST = a.digest ∧
      Occurred 626 s t ∧ (s.mode = 4 → s.isTarget = false → t.mode = 5) ∧
      (t.um.due.drop s.um.due.length).map (fun r => (r.hdr, r.op, r.status)) = [(h, 0x0204, stOK)] ∧
      (t.um.due.drop s.um.due.length).map (·.result) = [leBytes 8 (tlOf a.at_).toNat]) ∧
  (∀ (s : State), (s.um.armed.map (·.ok)) ≠ some true ∨ s.tlKnown = false ∨ (s.um.armed.map (fun a => tlReached s.now a.at_)) ≠ some true →
    Completes .genTakesEffect s fun t => t = s) ∧
  (∀ (s : State) (k : Nat), s.genState = 1 → rwgMask k ≠ 0 →
    Completes (.stagedParity k) s fun t => k ∈ t.um.marks ∧ t.genState = 1 ∧ t.staged = s.staged ∧ t.gen = s.gen ∧
      t.um.due = s.um.due) ∧
  (∀ (s : State) (k : Nat) (a : Armed), s.genState = 2 → rwgMask k ≠ 0 → s.um.armed = some a →
    Completes (.stagedParity k) s fun t => k ∈ t.um.marks ∧ t.genState = 1 ∧ t.staged = s.staged ∧ t.gen = s.gen ∧
      t.um.armed = none) ∧
  (∀ (s : State) (k : Nat), s.genState = 0 ∨ rwgMask k = 0 → Completes (.stagedParity k) s fun t => t = s)

/-! ## The Cloton link and herds (14) -/

/-- Cloton ports (R256, R259, R408 to R410, R412, R418): a slot goes out at the port's phase, with training words in Align and
Config and with both headers alike; calibrations ask for the delay and are answered; the other end may move a lane. -/
def Obligations.ClotonPortsSendCalibrateAndSpare : Prop :=
  (∀ (s : State) (x : ClPort), s.on 5 = true → s.now % 32 = s.fld (Reg.CL_PORT_STAT x) F.CL_PORT_STAT_PHASE →
    2 ≤ s.fld (Reg.CL_PORT_STAT x) F.CL_PORT_STAT_TSTATE → s.fld (Reg.CL_PORT_STAT x) F.CL_PORT_STAT_TSTATE ≤ 3 → s.mode ≠ 0xC →
    Completes (.clotonSlotSend x) s fun t =>
      t.out = .cloton x (frameHdr 2 (s.fld Reg.TW_EPOCH F.TW_EPOCH_EPOCH) 0 (s.clp x).fcnt s.act false)
        (s.clTrainWord x 0 :: List.replicate 15 (List.replicate 8 0))
        (frameHdr 2 (s.fld Reg.TW_EPOCH F.TW_EPOCH_EPOCH) 0 (s.clp x).fcnt s.act false)
        (s.clTrainWord x 1 :: List.replicate 15 (List.replicate 8 0)) :: s.out ∧
      (t.clp x).fcnt = ((s.clp x).fcnt + 1) % 256 ∧ t.regs = s.regs ∧ OtherClKept x s t) ∧
  (∀ (s : State) (x : ClPort), s.on 5 = true → s.now % 32 = s.fld (Reg.CL_PORT_STAT x) F.CL_PORT_STAT_PHASE →
    4 ≤ s.fld (Reg.CL_PORT_STAT x) F.CL_PORT_STAT_TSTATE → s.mode ≠ 0xC → x.val ≠ 0 ∨ s.syncDue = false →
    Completes (.clotonSlotSend x) s fun t =>
      t.out.head?.any (fun o => match o with
        | .cloton y h0 c0 h1 c1 => y == x.val && wbits h0 63 60 == 1 && wbits h1 63 60 == 1 &&
            wbits h0 11 4 == (s.clp x).fcnt % 256 && wbits h1 11 4 == (s.clp x).fcnt % 256 &&
            wbits h0 59 44 == s.fld Reg.TW_EPOCH F.TW_EPOCH_EPOCH && wbits h1 59 44 == s.fld Reg.TW_EPOCH F.TW_EPOCH_EPOCH &&
            c0.length == 16 && c1.length == 16
        | _ => false) = true ∧
      t.out.drop 1 = s.out ∧ (t.clp x).fcnt = ((s.clp x).fcnt + 1) % 256 ∧ (t.clp x).ctl = [] ∧ (t.clp x).dly = [] ∧
      (s.fld (Reg.CL_PORT_STAT x) F.CL_PORT_STAT_TSTATE = 5 → (t.clp x).hbDue = false) ∧
      RegsKeptEv [Reg.CL_PORT_REPLAY x, Reg.TW_EVENT] s t) ∧
  (∀ (s : State) (x : ClPort), s.on 5 = false ∨ s.now % 32 ≠ s.fld (Reg.CL_PORT_STAT x) F.CL_PORT_STAT_PHASE ∨
      s.fld (Reg.CL_PORT_STAT x) F.CL_PORT_STAT_TSTATE < 2 ∨ s.mode = 0xC → Completes (.clotonSlotSend x) s fun t => t = s) ∧
  (∀ (s : State) (x : ClPort) (f : Nat), s.isUp (.cl x) = true → f = s.fld (Reg.CL_PORT_CALPER x) F.CL_PORT_CALPER_FRAMES →
    (s.clp x).calAt + 32 * (if f = 0 then 1024 else f) ≤ s.ticks →
    Completes (.clotonCalibration x) s fun t => (t.clp x).calId = ((s.clp x).calId + 1) % 65536 ∧ (t.clp x).calWait = true ∧
      (t.clp x).calAt = s.ticks ∧ [BitVec.ofNat 64 (6 * 2 ^ 60 + ((s.clp x).calId + 1) % 65536)] ∈ (t.clp x).ctl ∧
      t.regs = s.regs ∧ OtherClKept x s t) ∧
  (∀ (s : State) (x : ClPort) (w : Word) (ago : Nat), s.on 5 = true → 4 ≤ s.tstate (.cl x) → s.frameIn (.cl x) = true →
    wbits w 63 60 = 6 →
    Completes (.dlyReq x w ago) s fun t => (t.clp x).dly = (s.clp x).dly ++ [(wbits w 15 0, s.ticks * 65536 - ago)] ∧
      t.regs = s.regs ∧ OtherClKept x s t) ∧
  (∀ (s : State) (x : ClPort) (w : Word) (l : Nat), s.isUp (.cl x) = true → s.frameIn (.cl x) = true → wbits w 63 56 / 4 = 0x2C →
    wbits w 56 52 = 4 → l = 2 * wbits w 51 51 + wbits w 57 57 → s.flag (Reg.CL_PORT_STAT x) F.CL_PORT_STAT_SPARE_USED = false →
    (s.clp x).swap = none →
    Completes (.spare x w) s fun t => (t.clp x).swap = some ⟨l, 4, s.ticks, none⟩ ∧
      [clSpareWord 1 l 0] ∈ (t.clp x).ctl ∧ t.regs = s.regs ∧ OtherClKept x s t) ∧
  (∀ (s : State) (x : ClPort) (w : Word) (k p d : Nat), s.isUp (.cl x) = true → s.frameIn (.cl x) = true →
    wbits w 63 60 = 0xB → wbits w 59 58 = 2 → wbits w 56 52 = 4 → s.flag (Reg.CL_PORT_STAT x) F.CL_PORT_STAT_SPARE_USED = false →
    (s.clp x).swap = some ⟨k, p, d, none⟩ →
    Completes (.spare x w) s fun t =>
      (t.clp x).swap = some ⟨k, p, d, some (s.ticks + 32 * ((wbits w 7 0 + 256 - (s.clp x).rxFcnt % 256) % 256))⟩ ∧
      t.regs = s.regs ∧ OtherClKept x s t) ∧
  (∀ (s : State) (x : ClPort) (w : Word), s.isUp (.cl x) = true → s.frameIn (.cl x) = true →
    wbits w 63 60 = 0xB → wbits w 59 58 = 3 → wbits w 56 52 = 4 → s.flag (Reg.CL_PORT_STAT x) F.CL_PORT_STAT_SPARE_USED = false →
    Completes (.spare x w) s fun t => t.clp x = { s.clp x with swap := none } ∧ t.regs = s.regs ∧ OtherClKept x s t)

/-- Herds (R399, R401, R432 to R438): a neighbour's HREADY is kept; a HABORT before AT aborts the commit that it names and goes
on to the other ports, a late one is counted; at the guard instant a commit goes on only if every port of it has delivered
an equal HREADY; digests are compared, and TIMEMARKs give the time where TIME_SRC names their port. -/
def Obligations.HerdCommitsAreReadiedGuardedAndAborted : Prop :=
  (∀ (s : State) (x : ClPort) (hdr : BitVec 32) (body : List Byte), x.val ≠ 0 → s.isUp (.cl x) = true → s.frameIn (.cl x) = true →
    bitsOf hdr.toNat 31 28 = 1 → bitsOf hdr.toNat 27 18 = (s.clp x).hRxSeq →
    Completes (.hready x hdr body) s fun t =>
      (t.clp x).hready = some (tlCount (BitVec.ofNat 64 (leAt body 0 8)), (body.drop 8).take 48) ∧
      (t.clp x).hRxSeq = ((s.clp x).hRxSeq + 1) % 1024 ∧ [clAckWord x false (s.clp x).hRxSeq] ∈ (t.clp x).ctl ∧
      t.regs = s.regs ∧ OtherClKept x s t) ∧
  (∀ (s : State) (x : ClPort) (hdr : BitVec 32) (body : List Byte) (ago : Nat) (a : Armed), x.val ≠ 0 → s.isUp (.cl x) = true →
    s.frameIn (.cl x) = true → bitsOf hdr.toNat 31 28 = 2 → bitsOf hdr.toNat 27 18 = (s.clp x).hRxSeq →
    s.tw.hready = some (tlCount (BitVec.ofNat 64 (leAt body 0 8)), (body.drop 8).take 48) → s.um.armed = some a →
    tlReached s.now (tlCount (BitVec.ofNat 64 (leAt body 0 8))) = false →
    Completes (.habort x hdr body ago) s fun t => t.genState = 1 ∧ t.staged = s.staged ∧ t.gen = s.gen ∧ t.um.armed = none ∧
      t.tw.hready = none ∧ OccurredBit 596 Reg.TW_EVENT 12 s t ∧
      (t.tw.fwd.drop s.tw.fwd.length).map (·.dst) = s.herdPorts.filter (fun y => y != x.val) ∧
      ∀ f ∈ t.tw.fwd.drop s.tw.fwd.length, f.kind = 2 ∧ f.src = x.val ∧ f.bytes = body.take 56 ∧ f.addr = bitsOf hdr.toNat 17 6 ∧
        s.ticks - ago + 312 ≤ f.at_ ∧ f.at_ < s.ticks - ago + 344) ∧
  (∀ (s : State) (x : ClPort) (hdr : BitVec 32) (body : List Byte) (ago : Nat), x.val ≠ 0 → s.isUp (.cl x) = true →
    s.frameIn (.cl x) = true → bitsOf hdr.toNat 31 28 = 2 → bitsOf hdr.toNat 27 18 = (s.clp x).hRxSeq →
    s.tw.hready = some (tlCount (BitVec.ofNat 64 (leAt body 0 8)), (body.drop 8).take 48) →
    tlReached s.now (tlCount (BitVec.ofNat 64 (leAt body 0 8))) = true →
    Completes (.habort x hdr body ago) s fun t => Counted Reg.CL_ABORT_LATE s t ∧ OccurredBit 597 Reg.TW_EVENT 13 s t ∧
      t.um = s.um ∧ t.tw = s.tw ∧ RegsKeptEv [Reg.CL_ABORT_LATE, Reg.TW_EVENT] s t) ∧
  (∀ (s : State) (a : Armed) (e : Nat × List Byte), s.um.armed = some a → s.tw.hready = some e → a.herd = true →
    s.tw.guarded = false → tlReached s.now (tlAdd a.at_ (-(s.fld Reg.CL_HERD_GUARD F.CL_HERD_GUARD_TC : Nat))) = true →
    s.herdPorts.all (fun x => decide ((s.clp x).hready = some e)) = true →
    Completes .herdGuardCheck s fun t => t.tw.guarded = true ∧ t.um = s.um ∧ t.regs = s.regs ∧ t.cl = s.cl) ∧
  (∀ (s : State) (a : Armed) (e : Nat × List Byte), s.um.armed = some a → s.tw.hready = some e → a.herd = true →
    s.tw.guarded = false → tlReached s.now (tlAdd a.at_ (-(s.fld Reg.CL_HERD_GUARD F.CL_HERD_GUARD_TC : Nat))) = true →
    s.herdPorts.all (fun x => decide ((s.clp x).hready = some e)) = false →
    Completes .herdGuardCheck s fun t => t.genState = 1 ∧ t.um.armed = none ∧ t.staged = s.staged ∧ t.gen = s.gen ∧
      t.tw.hready = none ∧ OccurredBit 596 Reg.TW_EVENT 12 s t ∧
      ∀ x ∈ s.herdPorts, (t.clp x).herd = (s.clp x).herd ++
        [{ kind := 2, bytes := leBytes 8 (tlOf a.at_).toNat ++ a.hdigest, tc := s.ticks }]) ∧
  (∀ (s : State) (x y : ClPort) (f : FwdCell),
    s.tw.fwd.find? (fun f => f.src == x.val && f.dst == y.val && decide (f.at_ ≤ s.ticks)) = some f →
    Completes (.herdCellForward x y) s fun t => t.tw.fwd = s.tw.fwd.erase f ∧
      (t.clp y).herd = { kind := f.kind, bytes := f.bytes, tc := s.ticks, src := some f.addr } :: (s.clp y).herd ∧
      (f.late = true → OccurredBit 599 Reg.TW_EVENT 15 s t) ∧ (f.late = false → t.regs = s.regs) ∧ OtherClKept y s t) ∧
  (∀ (s : State) (h : UmHdr) (p : List Byte), s.umCheck h 0x0903 p.length = none → leAt p 0 2 ≤ 4095 →
    Completes (.herdAddrSet h p) s fun t => t.fld Reg.CL_HERD_CFG F.CL_HERD_CFG_ADDR = leAt p 0 2 ∧
      t.fld Reg.CL_HERD_CFG F.CL_HERD_CFG_EN = s.fld Reg.CL_HERD_CFG F.CL_HERD_CFG_EN ∧
      t.um.due = (s.reply h 0x0903 stOK []).um.due ∧ t.gen = s.gen) ∧
  (∀ (s : State) (h : UmHdr) (p : List Byte) (e : Instr × Nat), e ∈ [(.herdAddrSet h p, 0x0903), (.clCal h p, 0x0905)] →
    s.umCheck h e.2 p.length = none → (e.2 = 0x0903 ∧ 4095 < leAt p 0 2) ∨ (e.2 = 0x0905 ∧ 3 < leAt p 0 1) →
    Completes e.1 s fun t => t = s.refuse h e.2 stBadParam) ∧
  (∀ (s : State) (h : UmHdr) (p : List Byte), s.umCheck h 0x0904 p.length = none →
    Completes (.herdStatus h p) s fun t => t = s.reply h 0x0904 stOK (leBytes 4 (s.rdW Reg.CL_HERD_CFG).toNat ++
      (List.range 4).flatMap (fun x => leBytes 4 (s.rdW (Reg.CL_PORT_STAT x)).toNat ++
        leBytes 4 (s.rdW (Reg.CL_PORT_RTD x)).toNat ++ leBytes 4 (s.rdW (Reg.CL_PORT_OWD x)).toNat))) ∧
  (∀ (s : State) (h : UmHdr) (p : List Byte) (x : ClPort), s.umCheck h 0x0905 p.length = none → leAt p 0 1 = x.val →
    s.on 5 = true → s.fld (Reg.CL_PORT_STAT x) F.CL_PORT_STAT_TSTATE = 5 →
    Completes (.clCal h p) s fun t => (t.clp x).calId = ((s.clp x).calId + 1) % 65536 ∧ (t.clp x).calWait = true ∧
      [BitVec.ofNat 64 (6 * 2 ^ 60 + ((s.clp x).calId + 1) % 65536)] ∈ (t.clp x).ctl ∧
      t.um = (s.reply h 0x0905 stOK []).um ∧ t.regs = s.regs ∧ OtherClKept x s t) ∧
  (∀ (s : State) (x : ClPort) (w0 at_ : Word) (bytes : List Byte), s.isUp (.cl x) = true → s.frameIn (.cl x) = true →
    wbits w0 63 60 = 0xD → bytes ≠ s.rdWide (if w0.toNat.testBit 59 then Reg.UM_GEN_HDIGEST else Reg.UM_GEN_DIGEST) →
    tlLater (tlCount s.um.activeAt) (tlCount at_) = false →
    Completes (.digest x w0 at_ bytes) s fun t => Occurred 628 s t ∧ t.cl = s.cl ∧ t.gen = s.gen ∧ RegsKeptEv [] s t) ∧
  (∀ (s : State) (x : ClPort) (w0 at_ : Word) (bytes : List Byte),
    bytes = s.rdWide (if w0.toNat.testBit 59 then Reg.UM_GEN_HDIGEST else Reg.UM_GEN_DIGEST) →
    Completes (.digest x w0 at_ bytes) s fun t => t = s) ∧
  (∀ (s : State) (x : ClPort) (w0 w1 : Word) (ago : Nat) (f : Int), s.isUp (.cl x) = true → s.frameIn (.cl x) = true →
    wbits w0 63 60 = 0xE → s.timeSrc = some x.val → s.on 2 = true → tlValid w1 = true →
    s.flag Reg.TL_STATE F.TL_STATE_HAS_TIME = false →
    f = -(ago : Int) - sNat 32 (s.fld (Reg.CL_PORT_OWD x) F.CL_PORT_OWD_OWD) - (wbits w0 4 0 : Nat) * 65536 →
    Completes (.timemark x w0 w1 ago) s fun t => (t.clp x).hops = wbits w0 47 32 ∧
      t.flag Reg.TL_STATE F.TL_STATE_HAS_TIME = true ∧ t.rdW Reg.TL_UNCERT = 0 ∧
      t.tk.count = tlAdd s.now (divTieZero (tlDiff (tlCount w1) s.now * 65536 - f) 65536) % piTl ∧ OtherClKept x s t) ∧
  (∀ (s : State) (x : ClPort) (w0 w1 : Word) (ago : Nat), s.isUp (.cl x) = true → s.frameIn (.cl x) = true →
    wbits w0 63 60 = 0xE → s.timeSrc ≠ some x.val →
    Completes (.timemark x w0 w1 ago) s fun t => t.clp x = { s.clp x with hops := wbits w0 47 32 } ∧ t.regs = s.regs ∧
      t.tk = s.tk ∧ OtherClKept x s t)

/-- Twins (R404 to R406, R410, R413 to R416, R424 to R427, R429, R430, R432): a role is set in Ready or Service; heartbeats tell
the peer's state, and enough misses of them, or a YIELD, start a takeover, which ends in Run; a switchover hands over with
SYNC 0, and a higher epoch steps the device down; a peer's reset is sent and taken. -/
def Obligations.TwinsPairTakeOverAndSwitch : Prop :=
  (∀ (s : State) (h : UmHdr) (p : List Byte), s.umCheck h 0x0900 p.length = none → leAt p 0 1 ≤ 2 → s.mode = 4 ∨ s.mode = 0xD →
    Completes (.twRoleSet h p) s fun t => t.role = leAt p 0 1 ∧ t.um.due = (s.reply h 0x0900 stOK []).um.due ∧ t.mode = s.mode ∧
      RegsKeptEv [Reg.TW_ROLE, Reg.TW_STAT, Reg.TW_EVENT] s t) ∧
  (∀ (s : State) (h : UmHdr) (p : List Byte), s.umCheck h 0x0900 p.length = none → 2 < leAt p 0 1 →
    Completes (.twRoleSet h p) s fun t => t = s.refuse h 0x0900 stBadParam) ∧
  (∀ (s : State) (h : UmHdr) (p : List Byte), s.umCheck h 0x0900 p.length = none → leAt p 0 1 ≤ 2 → s.mode ≠ 4 → s.mode ≠ 0xD →
    Completes (.twRoleSet h p) s fun t => t = s.refuse h 0x0900 stRoleRefused) ∧
  (∀ (s : State) (h : UmHdr) (p : List Byte), s.umCheck h 0x0901 p.length = none → s.role ≠ 0 → s.mode = 5 ∨ s.mode = 6 →
    s.pair = 2 → s.tw.swo = none →
    Completes (.twSwitchover h p) s fun t => t.tw = { s.tw with swo := some ⟨h, s.ticks⟩ } ∧ t.mode = s.mode ∧
      t.um.owed = s.um.owed ++ [(h, 0x0901)] ∧ t.um.due = (s.accept h 0x0901 []).um.due ∧
      ∀ c ∈ s.liveChans, s.chBusy c = true → t.ctlB c F.DMA_CTRL_STOP_REQ = true ∨ t.chBusy c = false) ∧
  (∀ (s : State) (h : UmHdr) (p : List Byte), s.umCheck h 0x0901 p.length = none →
    s.role = 0 ∨ (s.mode ≠ 5 ∧ s.mode ≠ 6) ∨ s.pair ≠ 2 →
    Completes (.twSwitchover h p) s fun t => t = s.refuse h 0x0901 stRoleRefused) ∧
  (∀ (s : State) (w : Switchover), s.tw.swo = some w → s.mode = 5 ∨ s.mode = 6 →
    s.liveChans.all (fun c => !s.chBusy c) = true ∨ w.start + s.fld Reg.TW_SWO_LIMIT F.TW_SWO_LIMIT_TC ≤ s.ticks →
    Completes .switchoverHandoff s fun t => t.mode = 7 ∧ t.synced = false ∧ t.tw.swo = none ∧
      t.fld Reg.PW_MODE F.PW_MODE_TRIGGER = 0x13 ∧ (∀ c ∈ s.liveChans, t.chBusy c = false) ∧ t.gen = s.gen) ∧
  (∀ (s : State) (h : UmHdr) (p : List Byte), s.umCheck h 0x0902 p.length = none →
    Completes (.twStatus h p) s fun t => t = s.reply h 0x0902 stOK (leBytes 4 (s.regVal Reg.TW_STAT).toNat ++
      leBytes 4 (s.rdW Reg.TW_EPOCH).toNat ++ leBytes 4 s.twLag)) ∧
  (∀ s : State, s.mode = 8 → s.now % 32 = 0 →
    Completes .takeoverComplete s fun t => t.mode = 5 ∧ t.tw.takeover = none ∧ t.fld Reg.PW_MODE F.PW_MODE_TRIGGER = 0x12 ∧
      t.um.report = some ⟨if s.tlKnown then s.rdW Reg.TW_TAKEOVER_AT else 0, 2, s.tw.views.map (fun e => s.viewEntry e.1 e.2)⟩ ∧
      (t.rdW Reg.TW_EVENT).toNat.testBit 2 = true ∧ t.gen = s.gen ∧ t.rdW Reg.TW_EPOCH = s.rdW Reg.TW_EPOCH) ∧
  (∀ s : State, s.activeTwin = true → s.tw.higher = true →
    Completes .epochStepDown s fun t => t.mode = 7 ∧ t.synced = false ∧ t.tw.higher = false ∧ t.tw.swo = none ∧ t.um.mode = none ∧
      (t.rdW Reg.TW_EVENT).toNat.testBit 3 = true ∧ (∀ c ∈ s.liveChans, t.chBusy c = false) ∧ t.gen = s.gen) ∧
  (∀ s : State, s.activeTwin = false ∨ s.tw.higher = false → Completes .epochStepDown s fun t => t = s) ∧
  (∀ s : State, s.on 2 = true → s.now % 32 = 0 → hbSlot (s.now / 32) = true → s.mode = 7 → s.synced = true → s.role ≠ 0 →
    (s.clp 0).hbSeen = false → s.missLimit ≤ s.fld Reg.TW_STAT F.TW_STAT_MISS + 1 →
    epochHigher (s.fld Reg.TW_EPOCH F.TW_EPOCH_PEER) (s.fld Reg.TW_EPOCH F.TW_EPOCH_EPOCH) = false →
    Completes .heartbeatInstant s fun t => t.mode = 8 ∧ t.pair = 3 ∧
      t.fld Reg.TW_EPOCH F.TW_EPOCH_EPOCH = (s.fld Reg.TW_EPOCH F.TW_EPOCH_EPOCH + 1) % 65536 ∧
      t.rdW Reg.TW_TAKEOVER_AT = tlOf s.now ∧ t.tw.takeover = some s.ticks ∧ t.gen = s.gen ∧
      (t.rdW Reg.TW_EVENT).toNat.testBit 1 = true ∧ (s.genState = 1 → t.genState = 0 ∧ t.staged = [])) ∧
  (∀ s : State, s.on 2 = true → s.now % 32 = 0 → hbSlot (s.now / 32) = true → 4 ≤ s.mode → (s.clp 0).hbSeen = true →
    Completes .heartbeatInstant s fun t => (s.role ≠ 0 → t.fld Reg.TW_STAT F.TW_STAT_MISS = 0) ∧ (t.clp 0).hbSeen = false ∧
      (∀ x ∈ [0, 1, 2, 3], s.fld (Reg.CL_PORT_STAT x) F.CL_PORT_STAT_TSTATE = 5 → (t.clp x).hbDue = true) ∧
      RegsKept [Reg.TW_STAT] s t ∧ t.mode = s.mode) ∧
  (∀ s : State, s.on 2 = false ∨ s.now % 32 ≠ 0 ∨ hbSlot (s.now / 32) = false ∨ s.mode < 4 →
    Completes .heartbeatInstant s fun t => t = s) ∧
  (∀ (s : State) (x : ClPort) (w0 w1 : Word) (ago : Nat), x.val ≠ 0 → s.isUp (.cl x) = true → s.frameIn (.cl x) = true →
    wbits w0 63 60 = 0xC →
    Completes (.heartbeat x w0 w1 ago) s fun t => t.fld (Reg.CL_PORT_STAT x) F.CL_PORT_STAT_NBR_ADDR = wbits w0 51 40 ∧
      t.fld (Reg.CL_PORT_STAT x) F.CL_PORT_STAT_NBR_VALID = 1 ∧
      t.clp x = { s.clp x with nbrHb := s.ticks, peerGen := wbits w0 31 0, hbSeen := true } ∧ OtherClKept x s t ∧
      RegsKeptEv [Reg.CL_PORT_STAT x, Reg.TW_EVENT] s t ∧ t.tw = s.tw) ∧
  (∀ (s : State) (w0 w1 : Word) (ago : Nat), s.isUp (.cl 0) = true → s.frameIn (.cl 0) = true → wbits w0 63 60 = 0xC →
    w0.toNat.testBit 52 = false ∨ s.mode ≠ 7 → s.mode ≠ 4 →
    Completes (.heartbeat 0 w0 w1 ago) s fun t => t.fld Reg.TW_STAT F.TW_STAT_PEER_MODE = wbits w0 59 56 ∧
      t.fld Reg.TW_STAT F.TW_STAT_PEER_ROLE = wbits w0 55 54 ∧ t.fld Reg.TW_STAT F.TW_STAT_PEER_SEEN = 1 ∧
      t.tw.peerSync = w0.toNat.testBit 53 ∧ (t.clp 0).hbSeen = true ∧ t.mode = s.mode ∧
      (s.role = 0 → t.pair = 0) ∧ (s.role ≠ 0 → wbits w0 55 54 ≠ 3 - s.role → t.pair = 0)) ∧
  (∀ (s : State) (w0 w1 : Word) (ago : Nat), s.isUp (.cl 0) = true → s.frameIn (.cl 0) = true → wbits w0 63 60 = 0xC →
    w0.toNat.testBit 52 = true → s.mode = 7 → s.synced = true → s.role ≠ 0 →
    Completes (.heartbeat 0 w0 w1 ago) s fun t => t.mode = 8 ∧ t.pair = 3 ∧ t.tw.takeover = some s.ticks ∧
      (t.rdW Reg.TW_EVENT).toNat.testBit 1 = true ∧ t.gen = s.gen) ∧
  (∀ s : State, s.isUp (.cl 0) = true →
    Completes .twCtrlPeerReset s fun t => (t.clp 0).other = (s.clp 0).other ++
      [{ kind := 0xA, bytes := leBytes 2 (s.fld Reg.TW_EPOCH F.TW_EPOCH_EPOCH) ++ [0, 0], tc := s.ticks }] ∧ t.regs = s.regs ∧
      OtherClKept 0 s t) ∧
  (∀ s : State, s.isUp (.cl 0) = false → Completes .twCtrlPeerReset s fun t => t = s) ∧
  (∀ s : State, s.role ≠ 0 →
    Completes .twCtrlResync s fun t => (t.rdW Reg.TW_EVENT).toNat.testBit 5 = true ∧
      (s.isSource = true → t.tw.syncSent = false ∧ t.synced = s.synced) ∧
      (s.isSource = false → t.synced = false ∧ t.tw.left = false) ∧ RegsKeptEv [Reg.TW_STAT, Reg.TW_EVENT] s t) ∧
  (∀ (s : State) (hdr : BitVec 32) (body : List Byte), s.isUp (.cl 0) = true → s.frameIn (.cl 0) = true →
    bitsOf hdr.toNat 31 28 = 0xA → bitsOf hdr.toNat 27 18 = (s.clp 0).rxSeq → bitsOf hdr.toNat 5 0 = 4 → s.mode ≠ 0 →
    s.mode ≠ 0xC → epochHigher (leAt (body.take 4) 0 2) (s.fld Reg.TW_EPOCH F.TW_EPOCH_EPOCH) = true →
    Completes (.peerReset hdr body) s (ResetToHeld 7 ((s.clTake 0 false (bitsOf hdr.toNat 27 18)).1).yieldFirst)) ∧
  (∀ (s : State) (hdr : BitVec 32) (body : List Byte), bitsOf hdr.toNat 31 28 = 0xA →
    s.mode = 0xC ∨ epochHigher (leAt (body.take (bitsOf hdr.toNat 5 0)) 0 2) (s.fld Reg.TW_EPOCH F.TW_EPOCH_EPOCH) = false →
    Completes (.peerReset hdr body) s fun t => t = (s.clTake 0 false (bitsOf hdr.toNat 27 18)).1)

/-- Mirror records (R417 to R421): a device that is no target takes a cell and does nothing; a target applies the records to
its staged image, shadow halves, channels and active image, freezes the generation that COMMIT names and answers; the source
goes on with the answer or without it, and a sync ends when digest and Timekeeper state are equal. -/
def Obligations.MirrorRecordsAreAppliedByTheTarget : Prop :=
  (∀ (s : State) (hdr : BitVec 32) (body : List Byte) (e : Instr × Nat), s.applies = false →
    e ∈ [(.stagedWr hdr body, 1), (.shadowWr hdr body, 2), (.genCmd hdr body, 3), (.commit hdr body, 4), (.chan hdr body, 6),
      (.syncReg hdr body, 7), (.syncWt hdr body, 8), (.syncDone hdr body 2, 9)] → bitsOf hdr.toNat 31 28 = e.2 →
    Completes e.1 s fun t => t = (s.clTake 0 false (bitsOf hdr.toNat 27 18)).1) ∧
  (∀ (s : State) (hdr : BitVec 32) (body : List Byte) (e : Instr × Nat),
    e ∈ [(.stagedWr hdr body, 1), (.shadowWr hdr body, 2), (.genCmd hdr body, 3), (.commit hdr body, 4), (.commitAck hdr body, 5),
      (.chan hdr body, 6), (.syncReg hdr body, 7), (.syncWt hdr body, 8), (.syncDone hdr body 2, 9), (.peerReset hdr body, 0xA)] →
    bitsOf hdr.toNat 31 28 ≠ e.2 → Completes e.1 s fun t => t = s) ∧
  (∀ (s : State) (hdr : BitVec 32) (body : List Byte) (k : Nat), s.isUp (.cl 0) = true → s.frameIn (.cl 0) = true →
    bitsOf hdr.toNat 31 28 = 1 → bitsOf hdr.toNat 27 18 = (s.clp 0).rxSeq → bitsOf hdr.toNat 5 0 = 12 → 12 ≤ body.length →
    s.applies = true → s.genState = 1 → k = leAt body 0 4 →
    Completes (.stagedWr hdr body) s fun t => t.rdS k = BitVec.ofNat 64 (leAt body 4 8) &&& rwgMask k ∧
      (∀ j, j ≠ k → s.spareReg k ≠ some j → t.rdS j = s.rdS j) ∧ t.gen = s.gen ∧ t.regs = s.regs ∧
      (t.clp 0).rxSeq = ((s.clp 0).rxSeq + 1) % 1024 ∧ [clAckWord 0 false (s.clp 0).rxSeq] ∈ (t.clp 0).ctl) ∧
  (∀ (s : State) (hdr : BitVec 32) (body : List Byte) (g : Group) (i : Nat), s.isUp (.cl 0) = true → s.frameIn (.cl 0) = true →
    bitsOf hdr.toNat 31 28 = 2 → bitsOf hdr.toNat 27 18 = (s.clp 0).rxSeq → bitsOf hdr.toNat 5 0 = 16 → 16 ≤ body.length →
    s.applies = true → leAt body 0 1 = g.val → leAt body 4 4 = i → i < 131072 → s.wbPending g = false → s.windowBusy g = false →
    (s.grp g).held = [] →
    Completes (.shadowWr hdr body) s fun t => t.fld (Reg.CH_WB_STATUS g) F.CH_WB_STATUS_DIRTY = 1 ∧
      SMap.get 0 (t.unit (s.groupUnit g)).shadow i = BitVec.ofNat 64 (leAt body 8 8) &&& weightMask i ∧
      (∀ j ∈ [i - 1, i + 1], j ≠ i → SMap.get 0 (t.unit (s.groupUnit g)).shadow j = SMap.get 0 (s.unit (s.groupUnit g)).shadow j) ∧
      (t.unit (s.groupUnit g)).active = (s.unit (s.groupUnit g)).active ∧ t.staged = s.staged) ∧
  (∀ (s : State) (hdr : BitVec 32) (body : List Byte) (c : Nat), s.isUp (.cl 0) = true → s.frameIn (.cl 0) = true →
    bitsOf hdr.toNat 31 28 = 3 → bitsOf hdr.toNat 27 18 = (s.clp 0).rxSeq → bitsOf hdr.toNat 5 0 = 4 → 4 ≤ body.length →
    s.applies = true → leAt body 0 1 = c →
    Completes (.genCmd hdr body) s fun t => t.gen = s.gen ∧
      (c = 1 → s.image = [] → t.genState = 1 ∧ t.staged = s.gen) ∧
      (c = 2 → s.genState = 1 → t.genState = 0 ∧ t.staged = []) ∧
      (c = 3 → s.um.armed.isSome = true → t.genState = 1 ∧ t.um.armed = none ∧ t.staged = s.staged)) ∧
  (∀ (s : State) (hdr : BitVec 32) (body : List Byte), s.isUp (.cl 0) = true → s.frameIn (.cl 0) = true →
    bitsOf hdr.toNat 31 28 = 4 → bitsOf hdr.toNat 27 18 = (s.clp 0).rxSeq → bitsOf hdr.toNat 5 0 = 60 → body.length = 60 →
    s.applies = true → s.genState = 1 →
    Completes (.commit hdr body) s fun t => t.genState = 2 ∧ t.staged = s.staged ∧ t.gen = s.gen ∧
      t.rdW Reg.UM_GEN_AT = tlOf (tlCount (BitVec.ofNat 64 (leAt body 0 8))) ∧
      t.um.armed.map (fun a => (a.hdr, a.at_, a.seq)) = some (none, tlCount (BitVec.ofNat 64 (leAt body 0 8)), leAt body 8 4) ∧
      t.um.armed.map (fun a => (a.groups, a.checked, a.ok)) = some (s.dirtyGroups, false, false)) ∧
  (∀ (s : State) (hdr : BitVec 32) (body : List Byte), s.isUp (.cl 0) = true → s.frameIn (.cl 0) = true →
    bitsOf hdr.toNat 31 28 = 4 → bitsOf hdr.toNat 27 18 = (s.clp 0).rxSeq → bitsOf hdr.toNat 5 0 = 60 → body.length = 60 →
    s.applies = true → s.genState ≠ 1 →
    Completes (.commit hdr body) s fun t => t.synced = false ∧ t.genState = s.genState ∧ t.um = s.um ∧
      (t.clp 0).commit.length = (s.clp 0).commit.length + 1 ∧
      ((t.clp 0).commit.drop (s.clp 0).commit.length).map (fun r => (r.kind, leAt r.bytes 0 4, leAt r.bytes 4 1)) =
        [(5, leAt body 8 4, 2)]) ∧
  (∀ (s : State) (hdr : BitVec 32) (body : List Byte) (a : Armed), s.isUp (.cl 0) = true → s.frameIn (.cl 0) = true →
    bitsOf hdr.toNat 31 28 = 5 → bitsOf hdr.toNat 27 18 = (s.clp 0).rxSeq → bitsOf hdr.toNat 5 0 = 60 → body.length = 60 →
    s.um.armed = some a → s.isSource = true → a.peerAck.isSome = true → leAt body 0 4 = a.seq →
    Completes (.commitAck hdr body) s fun t => t.um.armed.map (·.peerAck) = some none ∧
      (leAt body 4 1 = 0 → t.tw = s.tw ∧ t.regs = s.regs) ∧
      (leAt body 4 1 ≠ 0 → t.tw.syncSent = false ∧ OccurredBit 589 Reg.TW_EVENT 5 s t) ∧
      (a.checked = true → t.um.armed.map (·.ok) = some true) ∧ t.genState = s.genState) ∧
  (∀ (s : State) (a : Armed) (d : Nat), s.um.armed = some a → a.peerAck = some d → d + 98304 ≤ s.ticks →
    Completes .commitAckTimeout s fun t => t.um.armed.map (·.peerAck) = some none ∧ t.tw.syncSent = false ∧
      OccurredBit 589 Reg.TW_EVENT 5 s t ∧ (a.checked = true → t.um.armed.map (·.ok) = some true) ∧ t.genState = s.genState ∧
      RegsKeptEv [Reg.TW_EVENT] s t) ∧
  (∀ (s : State) (a : Armed) (d : Nat), s.um.armed = some a → a.peerAck = some d → s.ticks < d + 98304 →
    Completes .commitAckTimeout s fun t => t = s) ∧
  (∀ (s : State) (hdr : BitVec 32) (body : List Byte) (c : Chan), s.isUp (.cl 0) = true → s.frameIn (.cl 0) = true →
    bitsOf hdr.toNat 31 28 = 6 → bitsOf hdr.toNat 27 18 = (s.clp 0).rxSeq → bitsOf hdr.toNat 5 0 = 20 → 20 ≤ body.length →
    s.applies = true → leAt body 0 2 % 4096 = c.val →
    Completes (.chan hdr body) s fun t => t.rdW (Reg.DMA_RETIRED c) = BitVec.ofNat 64 (leAt body 4 4) ∧
      t.rdW (Reg.DMA_CUR c) = BitVec.ofNat 64 (leAt body 8 8) ∧
      t.fld (Reg.DMA_STAT c) F.DMA_STAT_CODE = leAt body 2 1 % 2 ^ F.DMA_STAT_CODE.wid ∧
      t.fld (Reg.DMA_STAT c) F.DMA_STAT_STATE = (if leAt body 0 2 / 4096 = 8 then 8 else 0) ∧
      (SMap.get {} t.tw.views c.val).moved = leAt body 16 4 ∧ t.chans = s.chans ∧ t.gen = s.gen) ∧
  (∀ (s : State) (hdr : BitVec 32) (body : List Byte) (k : Nat), s.isUp (.cl 0) = true → s.frameIn (.cl 0) = true →
    bitsOf hdr.toNat 31 28 = 7 → bitsOf hdr.toNat 27 18 = (s.clp 0).rxSeq → bitsOf hdr.toNat 5 0 = 12 → 12 ≤ body.length →
    s.applies = true → s.flag Reg.TW_CTRL F.TW_CTRL_JOIN = true → k = leAt body 0 4 →
    k ∉ (List.range 96).map Reg.AL_CTRL → k < Reg.VAT_PAIL_A 0 ∨ Reg.VAT_PAIL_A 0 + 64 * 16384 ≤ k →
    Completes (.syncReg hdr body) s fun t => t.rdG k = BitVec.ofNat 64 (leAt body 4 8) &&& rwgMask k ∧
      (∀ j, j ≠ k → t.rdG j = s.rdG j) ∧ t.synced = false ∧ t.staged = s.staged ∧ RegsKept [Reg.TW_STAT] s t) ∧
  (∀ (s : State) (hdr : BitVec 32) (body : List Byte) (g : Group) (i : Nat), s.isUp (.cl 0) = true → s.frameIn (.cl 0) = true →
    bitsOf hdr.toNat 31 28 = 8 → bitsOf hdr.toNat 27 18 = (s.clp 0).rxSeq → bitsOf hdr.toNat 5 0 = 16 → 16 ≤ body.length →
    s.applies = true → s.flag Reg.TW_CTRL F.TW_CTRL_JOIN = true → leAt body 0 1 = g.val → leAt body 4 4 = i → i < 131072 →
    Completes (.syncWt hdr body) s fun t =>
      SMap.get 0 (t.unit (s.groupUnit g)).active i = BitVec.ofNat 64 (leAt body 8 8) &&& weightMask i ∧
      (∀ j ∈ [i - 1, i + 1], j ≠ i → SMap.get 0 (t.unit (s.groupUnit g)).active j = SMap.get 0 (s.unit (s.groupUnit g)).active j) ∧
      (t.unit (s.groupUnit g)).shadow = (s.unit (s.groupUnit g)).shadow ∧ t.regs = s.regs) ∧
  (∀ (s : State) (hdr : BitVec 32) (body : List Byte) (v : Fin 4), s.isUp (.cl 0) = true → s.frameIn (.cl 0) = true →
    bitsOf hdr.toNat 31 28 = 9 → bitsOf hdr.toNat 27 18 = (s.clp 0).rxSeq → bitsOf hdr.toNat 5 0 = 56 → body.length = 60 →
    s.applies = true → s.flag Reg.TW_CTRL F.TW_CTRL_JOIN = true → s.tlState ≠ v.val ∨ s.pair ≠ 1 ∨ s.synced = true →
    Completes (.syncDone hdr body v) s fun t => t.tw.syncDone = some (v.val, (body.drop 8).take 48) ∧ t.synced = s.synced ∧
      t.mode = s.mode ∧ t.gen = s.gen ∧
      ∀ g ∈ List.range 12, (s.unit (s.groupUnit g)).active ≠ [] → t.fld (Reg.CH_WB_STATUS g) F.CH_WB_STATUS_ABSENT = 0) ∧
  (∀ (s : State) (hdr : BitVec 32) (body : List Byte) (v : Fin 4), s.isUp (.cl 0) = true → s.frameIn (.cl 0) = true →
    bitsOf hdr.toNat 31 28 = 9 → bitsOf hdr.toNat 27 18 = (s.clp 0).rxSeq → bitsOf hdr.toNat 5 0 = 56 → body.length = 60 →
    s.applies = true → s.flag Reg.TW_CTRL F.TW_CTRL_JOIN = true → s.tlState = v.val → s.pair = 1 → s.synced = false →
    s.mode = 4 → (body.drop 8).take 48 = (s.syncDigests (List.range 12)).genDigest s.gen [] →
    Completes (.syncDone hdr body v) s fun t => t.tw.syncDone = none ∧ t.synced = true ∧ t.mode = 7 ∧ t.gen = s.gen ∧
      t.rdW Reg.UM_GEN_SEQ = BitVec.ofNat 64 (s.clp 0).peerGen ∧ (t.rdW Reg.TW_EVENT).toNat.testBit 7 = true)

/-! ## Power and modes (15) -/

/-- Modes and power domains (R35, R36, R40, R44, R395, R401, R407, R441 to R449, R452, R454, R456, R466). MODE_SET: Ready and
Service change at once, with both replies; Run and Run-Shed drain; a sleep request waits in Ready and a request for Ready cancels
it; a standby leaves its pair; any other transition is refused. Drain ends at its target with the report and without held blocks,
and its limit cuts the work. Votes are cast and withdrawn; 4,096 Tc without a want begin an entry, whose end switches the domain
off; a wanted domain whose prerequisite is on is released, and what starts at its release starts. -/
def Obligations.ModesDrainAndDomainsFollowTheirCommands : Prop :=
  (∀ (s : State) (h : UmHdr) (p : List Byte), s.umCheck h 0x0800 p.length = none → p.length = 1 → s.isTarget = false →
    s.flag Reg.PW_MODE F.PW_MODE_IN_TRANSIT = false → (s.mode = 4 ∧ leAt p 0 1 = 0xD) ∨ (s.mode = 0xD ∧ leAt p 0 1 = 4) →
    s.um.void = [] → s.um.owed = [] →
    Completes (.modeSet h p) s fun t => t.mode = leAt p 0 1 ∧ t.fld Reg.PW_MODE F.PW_MODE_PREV = s.mode ∧
      t.fld Reg.PW_MODE F.PW_MODE_TRIGGER = (if s.mode = 4 then 0x0F else 0x10) ∧
      t.flag Reg.PW_MODE F.PW_MODE_IN_TRANSIT = false ∧ OccurredBit 544 Reg.PW_EVENT 0 s t ∧
      t.um.due = s.um.due ++
        [{ hdr := h, op := 0x0800, status := stAccepted, detail := noDetail, result := [], final := false },
         { hdr := h, op := 0x0800, status := stOK, detail := noDetail, result := leBytes 4 (t.rdW Reg.PW_MODE).toNat,
           final := true, later := true }] ∧
      RegsKeptEv [Reg.PW_MODE, Reg.PW_EVENT, Reg.SEC_EVENT, Reg.SEC_ARB] s t) ∧
  (∀ (s : State) (h : UmHdr) (p : List Byte) (m : ModeReq), s.umCheck h 0x0800 p.length = none → p.length = 1 ∨ p.length = 8 →
    s.isTarget = false → s.flag Reg.PW_MODE F.PW_MODE_IN_TRANSIT = false → s.mode = 5 ∨ s.mode = 6 →
    m = ⟨some h, leAt p 0 1, if leAt p 4 4 = 0 then 19660800 else leAt p 4 4, s.ticks, []⟩ →
    m.target = 4 ∨ m.target = 0xD ∨ (m.target = 0xA ∨ m.target = 0xB) ∧ s.genState ≠ 2 →
    Completes (.modeSet h p) s fun t => t.mode = 9 ∧ t.fld Reg.PW_MODE F.PW_MODE_PREV = s.mode ∧
      t.fld Reg.PW_MODE F.PW_MODE_TRIGGER = 0x0B ∧ t.flag Reg.PW_MODE F.PW_MODE_IN_TRANSIT = true ∧ t.um.mode = some m ∧
      OccurredBit 544 Reg.PW_EVENT 0 s t ∧
      (∀ c, s.chState c = 3 → (s.chan c).recOut = false → t.flag (Reg.DMA_CTRL c) F.DMA_CTRL_STOP_REQ = true) ∧
      (∀ c, s.chState c = 5 → (s.chan c).recOut = false →
        t.chState c = 0 ∧ t.flag (Reg.DMA_STAT c) F.DMA_STAT_STOPPED = true)) ∧
  (∀ (s : State) (h : UmHdr) (p : List Byte), s.umCheck h 0x0800 p.length = none → p.length = 1 → s.isTarget = false →
    s.flag Reg.PW_MODE F.PW_MODE_IN_TRANSIT = false → s.mode = 4 → s.genState ≠ 2 → leAt p 0 1 = 0xA ∨ leAt p 0 1 = 0xB →
    Completes (.modeSet h p) s fun t => t.mode = 4 ∧ t.flag Reg.PW_MODE F.PW_MODE_IN_TRANSIT = true ∧
      t.um.mode = some ⟨some h, leAt p 0 1, 0, s.ticks, []⟩ ∧ t.um.owed = s.um.owed ++ [(h, 0x0800)] ∧
      RegsKept [Reg.PW_MODE] s t) ∧
  (∀ (s : State) (h : UmHdr) (p : List Byte), s.umCheck h 0x0800 p.length = none → p.length = 1 → leAt p 0 1 = 4 →
    s.flag Reg.PW_MODE F.PW_MODE_IN_TRANSIT = false → s.mode = 7 →
    Completes (.modeSet h p) s fun t => t.mode = 4 ∧ t.fld Reg.PW_MODE F.PW_MODE_TRIGGER = 0x14 ∧ t.tw.left = true ∧
      t.fld Reg.TW_STAT F.TW_STAT_PAIR = 3) ∧
  (∀ (s : State) (h g : UmHdr) (p : List Byte) (m : ModeReq), s.umCheck h 0x0800 p.length = none → p.length = 1 →
    leAt p 0 1 = 4 → s.flag Reg.PW_MODE F.PW_MODE_IN_TRANSIT = true → s.um.mode = some m → m.hdr = some g →
    m.target = 0xA ∨ m.target = 0xB → s.mode = 4 → s.pw.sleep = none → s.um.void = [] → (g, 0x0800) ∈ s.um.owed → h ≠ g →
    (h, 0x0800) ∉ s.um.owed → (h, 0x0800) ∉ s.um.begun →
    Completes (.modeSet h p) s fun t => t.mode = 4 ∧ t.flag Reg.PW_MODE F.PW_MODE_IN_TRANSIT = false ∧ t.um.mode = none ∧
      (t.um.due.drop s.um.due.length).map (fun r => (r.hdr, r.status)) =
        [(h, stAccepted), (g, stModeCancelled), (h, stOK)] ∧ RegsKept [Reg.PW_MODE] s t) ∧
  (∀ (s : State) (h : UmHdr) (p : List Byte), s.umCheck h 0x0800 p.length = none → p.length = 1 → s.isTarget = false →
    leAt p 0 1 ≤ 0xD → s.flag Reg.PW_MODE F.PW_MODE_IN_TRANSIT = false →
    (s.mode = 4 → leAt p 0 1 ≠ 0xA ∧ leAt p 0 1 ≠ 0xB ∧ leAt p 0 1 ≠ 0xD) →
    (s.mode = 5 ∨ s.mode = 6 → leAt p 0 1 ≠ 4 ∧ leAt p 0 1 ≠ 0xA ∧ leAt p 0 1 ≠ 0xB ∧ leAt p 0 1 ≠ 0xD) →
    (s.mode = 0xD ∨ s.mode = 7 → leAt p 0 1 ≠ 4) →
    Completes (.modeSet h p) s fun t => t = s.refuse h 0x0800 stModeRefused) ∧
  (∀ (s : State) (h : UmHdr) (p : List Byte), s.umCheck h 0x0801 p.length = none →
    Completes (.modeGet h p) s fun t => t = s.reply h 0x0801 stOK
      (leBytes 4 (s.rdW Reg.PW_MODE).toNat ++ leBytes 4 0 ++ leBytes 8 s.um.transit.toNat)) ∧
  (∀ (s : State) (m : ModeReq), s.mode = 9 → s.liveChans.all (fun c => !s.chBusy c) = true → s.txEmpty = true →
    s.um.mode = some m →
    Completes .drainComplete s fun t => t.mode = (if m.target = 0xD then 0xD else 4) ∧
      t.fld Reg.PW_MODE F.PW_MODE_TRIGGER = 0x0C ∧ t.fld Reg.PW_MODE F.PW_MODE_PREV = 9 ∧
      t.um.report.any (fun r => r.reason == 1) = true ∧ (∀ q, s.pailRole q ≠ 1 → (t.pail q).blocks = []) ∧
      (m.target = 0xA ∨ m.target = 0xB →
        t.um.mode = some ⟨m.hdr, m.target, 0, s.ticks, m.cancel⟩ ∧ t.flag Reg.PW_MODE F.PW_MODE_IN_TRANSIT = true) ∧
      (m.target ≠ 0xA ∧ m.target ≠ 0xB → t.um.mode = none ∧ t.flag Reg.PW_MODE F.PW_MODE_IN_TRANSIT = false) ∧
      OccurredBit 544 Reg.PW_EVENT 0 s t) ∧
  (∀ (s : State) (m : ModeReq), s.mode = 9 → s.um.mode = some m → m.start + m.limit ≤ s.ticks →
    Completes .drainLimitExpiry s fun t => t.mode = (if m.target = 0xD then 0xD else 4) ∧
      t.fld Reg.PW_MODE F.PW_MODE_TRIGGER = 0x0C ∧ t.um.report.any (fun r => r.reason == 1) = true ∧
      (∀ c ∈ s.liveChans, t.chBusy c = false) ∧
      (∀ q, s.pailRole q ≠ 1 → (t.pail q).blocks = []) ∧
      (∀ q, s.pailRole q = 1 → (t.pail q).arrivals = [] ∧ ∀ b ∈ (t.pail q).blocks, b.fin = true)) ∧
  (∀ (s : State) (h : UmHdr) (p : List Byte), s.umCheck h 0x0802 p.length = none → leAt p 0 1 ≠ 0 →
    domMask.testBit (leAt p 0 1) = true → leAt p 1 1 = 1 →
    Completes (.pwVote h p) s fun t => t.um = (s.reply h 0x0802 stOK []).um ∧
      (∀ d, (t.rdW (Reg.PW_HVOTE (voteHolder h.carrier))).toNat.testBit d =
        ((s.rdW (Reg.PW_HVOTE (voteHolder h.carrier))).toNat.testBit d || d == leAt p 0 1)) ∧
      SMap.get 0 t.pw.idle (leAt p 0 1) = 0 ∧ RegsKept [Reg.PW_HVOTE (voteHolder h.carrier)] s t) ∧
  (∀ (s : State) (h : UmHdr) (p : List Byte), s.umCheck h 0x0802 p.length = none → leAt p 0 1 ≠ 0 →
    domMask.testBit (leAt p 0 1) = true → leAt p 1 1 = 0 →
    Completes (.pwVote h p) s fun t =>
      (∀ d, d < 64 → (t.rdW (Reg.PW_HVOTE (voteHolder h.carrier))).toNat.testBit d =
        ((s.rdW (Reg.PW_HVOTE (voteHolder h.carrier))).toNat.testBit d && d != leAt p 0 1)) ∧
      (s.on (leAt p 0 1) = true ∧ t.wanted (leAt p 0 1) = true →
        t.um = (s.refuse h 0x0802 stDomainBusy).um ∧ OccurredBit 557 Reg.PW_EVENT 13 s t) ∧
      (s.on (leAt p 0 1) = false ∨ t.wanted (leAt p 0 1) = false → t.um = (s.reply h 0x0802 stOK []).um)) ∧
  (∀ (s : State) (h : UmHdr) (p : List Byte), s.umCheck h 0x0803 p.length = none →
    Completes (.pwStatus h p) s fun t => t = s.reply h 0x0803 stOK
      (leBytes 8 (s.rdW Reg.PW_ON).toNat ++ (List.range 64).flatMap (fun d => leBytes 8 (s.dvote d)))) ∧
  (∀ (s : State) (v : Word), s.on 3 = true →
    Completes (.pwHvote33Write v) s fun t =>
      (∀ d, (t.rdW (Reg.PW_HVOTE 33)).toNat.testBit d = (v.toNat.testBit d && domMask.testBit d && d != 0)) ∧
      RegsKept [Reg.PW_HVOTE 33] s t) ∧
  (∀ (s : State) (d : Fin 64), s.on d = true → d.val ≠ 0 → s.entry d = 0 → 4 ≤ s.mode → SMap.get 0 s.pw.idle d = 4096 →
    s.wanted d = false →
    Completes (.domainEntryStart d) s fun t => t.entry d = 1 ∧ (∀ e, e ≠ d.val → t.entry e = s.entry e) ∧ t.regs = s.regs) ∧
  (∀ (s : State) (d : Fin 64), s.on d = true → s.wanted d = true ∨ SMap.get 0 s.pw.idle d < 4096 →
    Completes (.domainEntryStart d) s fun t => t = s) ∧
  (∀ (s : State) (d : Fin 64), s.entry d ≠ 0 → s.noDependents d = true →
    Completes (.domainSwitchOff d) s fun t => t.on d = false ∧ (∀ e, e ≠ d.val → t.on e = s.on e) ∧ t.entry d = 0 ∧
      t.fld Reg.PW_ENTRY F.PW_ENTRY_RESULT = (if s.entry d = 2 then 3 else 1) ∧ t.fld Reg.PW_ENTRY F.PW_ENTRY_STEP = 5 ∧
      t.fld Reg.PW_ENTRY F.PW_ENTRY_DOMAIN = d.val ∧ t.fld Reg.PW_ENTRY F.PW_ENTRY_TARGET = 0 ∧
      (t.rdW Reg.PW_EVENT).toNat.testBit 5 = true ∧
      (0x10 ≤ d.val ∧ d.val < 0x1C → ∀ i < 8, t.fld (Reg.AL_STAT (8 * (d.val - 0x10) + i)) F.AL_STAT_TSTATE = 0) ∧
      (0x20 ≤ d.val ∧ d.val < 0x30 → (t.unit (d.val - 0x20)).active = [] ∧ (t.unit (d.val - 0x20)).shadow = []) ∧
      (0x30 ≤ d.val ∧ d.val < 0x40 → ∀ q, s.pailBank q = d.val - 0x30 → (t.pail q).blocks = [] ∧ (t.pail q).resv = [])) ∧
  (∀ (s : State) (d : Fin 64) (hits : List EccHit) (n : Nat), hits.all (fun h => h.pail != storeHit 3 || !h.unc) = true →
    n = (hits.filter (fun h => h.pail == storeHit 3)).length → domMask.testBit d = true → s.on d = false → 4 ≤ s.mode → s.dozing = false →
    s.wanted d = true ∨ s.pw.exits.testBit d = true → s.forcedMap.testBit d = false → s.on (prereq d) = true →
    s.entry (prereq d) = 0 → d.val < 2 ∨ 4 < d.val → s.um.domReset.all (fun r => r.1 != d.val || r.2.1 == 0) = true →
    Completes (.domainReleased d hits) s fun t => t.on d = true ∧
      (1 ≤ n → t.rdW (Reg.VAT_ST_CECC 3) = BitVec.ofNat 64 (min ((s.rdW (Reg.VAT_ST_CECC 3)).toNat + n) 0xFFFFFFFF)) ∧ (∀ e, e ≠ d.val → t.on e = s.on e) ∧
      (t.rdW Reg.PW_EVENT).toNat.testBit 4 = true ∧ SMap.get 0 t.pw.idle d = 0 ∧ t.pw.exits.testBit d = false ∧
      (8 ≤ d.val ∧ d.val < 16 →
        ∀ k, regDom k = d.val → regSaved k = false → evKey k = false → t.rdW k = State.reset.rdW k) ∧
      (0x10 ≤ d.val ∧ d.val < 0x1C → SMap.get 0 t.calDue (d.val - 0x10) = s.ticks + 1) ∧
      (0x20 ≤ d.val ∧ d.val < 0x30 → (t.unit (d.val - 0x20)).zeroEnd = some (s.coreNow + 16384)) ∧
      (0x30 ≤ d.val ∧ d.val < 0x40 → (t.bank (d.val - 0x30)).initEnd = some (s.coreNow + 81920) ∧
        t.fld (Reg.VAT_BANK_STATUS (d.val - 0x30)) F.VAT_BANK_STATUS_INIT = 1)) ∧
  (∀ (s : State) (d : Fin 64) (hits : List EccHit), hits.any (fun h => h.pail == storeHit 3 && h.unc) = true →
    domMask.testBit d = true → s.on d = false → 4 ≤ s.mode → s.mode ≠ 0xC → s.dozing = false → s.wanted d = true →
    s.forcedMap.testBit d = false → s.on (prereq d) = true → s.entry (prereq d) = 0 → d.val < 2 ∨ 4 < d.val →
    s.um.domReset.all (fun r => r.1 != d.val || r.2.1 == 0) = true →
    Completes (.domainReleased d hits) s fun t => t.mode = 1 ∧ t.rdW Reg.PW_ON = 1 ∧ (5, s.aon) ∈ t.rs.sources) ∧
  (∀ (s : State) (d : Fin 64) (hits : List EccHit), s.on (prereq d) = false ∨ s.forcedMap.testBit d = true ∨
      (s.wanted d = false ∧ s.pw.exits.testBit d = false) → Completes (.domainReleased d hits) s fun t => t = s)

/-- Sleep, wake and Doze (R44, R45, R448, R449, R455, R457 to R463, R466, R475): the entry begins when no other vote stands and
ends with TK, MGMT and SEC off; an abort returns to Ready; a wake source makes a record, and WAKE powers SEC, MGMT, MON and TK
up. A sample of Doze counts and shows its highest reading; a reading at the trip gives Quarantine, and one at a threshold, a rail
outside its window or a change of the ports a wake source; the comparator of Deep Sleep does the same; DOZE_CFG stages five
words. -/
def Obligations.TheDeviceSleepsDozesAndWakes : Prop :=
  (∀ (s : State) (m : ModeReq) (g : UmHdr), s.sleepReq = some m → s.sleepVotes m.target = 0 → m.hdr = some g →
    (g, 0x0800) ∈ s.um.owed → s.um.void = [] →
    Completes .sleepEntry s fun t => t.pw.sleep = some m.target ∧ t.pw.h32 = false ∧ t.mode = 4 ∧
      (t.um.due.drop s.um.due.length).map (fun r => (r.hdr, r.status, r.result)) =
        [(g, stOK, leBytes 4 (s.rdW Reg.PW_MODE).toNat)] ∧ (s.genState = 1 → t.genState = 0)) ∧
  (∀ (s : State) (v : Nat) (m : ModeReq), s.pw.sleep = some v → s.um.mode = some m → s.mode = 4 → s.sleepVotes v = 0 →
    s.pw.wake = none → m.cancel = [] → s.onMap &&& leafMask = 0 →
    Completes .sleepEntry s fun t => t.mode = v ∧ t.fld Reg.PW_MODE F.PW_MODE_TRIGGER = 0x0D ∧ t.on 2 = false ∧
      t.on 3 = false ∧ t.on 4 = false ∧ t.pw.sleep = none ∧ t.um.mode = none ∧ t.um.sq = [] ∧ t.um.due = [] ∧
      t.um.report = s.um.report ∧ (s.on 2 = true → t.tk.sleep.isSome = true) ∧
      t.fld Reg.PW_ENTRY F.PW_ENTRY_RESULT = 1 ∧ t.fld Reg.PW_ENTRY F.PW_ENTRY_DOMAIN = 4 ∧
      t.fld Reg.PW_ENTRY F.PW_ENTRY_TARGET = v ∧ t.pw.dozeAt = s.aon) ∧
  (∀ (s : State) (m : ModeReq), s.sleepReq = some m → m.start + 19660800 ≤ s.ticks → s.pw.waited = false →
    s.sleepVotes m.target ≠ 0 →
    Completes .sleepEntryWait s fun t => OccurredBit 547 Reg.PW_EVENT 3 s t ∧ t.pw.waited = true ∧ t.mode = 4 ∧
      t.um.mode = some m) ∧
  (∀ (s : State) (d : Fin 64) (a : Fin 4) (v : Nat) (m : ModeReq), s.pw.sleep = some v → s.um.mode = some m → s.mode = 4 →
    2 ≤ d.val → d.val ≤ 4 → s.sleepVotes v ≠ 0 ∨ s.pw.wake.isSome = true ∨ m.cancel ≠ [] →
    Completes (.domainEntryAbort d a) s fun t => t.mode = 4 ∧ t.flag Reg.PW_MODE F.PW_MODE_IN_TRANSIT = false ∧
      t.um.mode = none ∧ t.pw.sleep = none ∧ t.pw.h32 = true ∧ OccurredBit 546 Reg.PW_EVENT 2 s t ∧
      t.fld Reg.PW_ENTRY F.PW_ENTRY_RESULT = 2 ∧ t.fld Reg.PW_ENTRY F.PW_ENTRY_STEP = max 1 a.val ∧
      t.fld Reg.PW_ENTRY F.PW_ENTRY_DOMAIN = d.val ∧ t.fld Reg.PW_ENTRY F.PW_ENTRY_TARGET = v ∧
      t.fld Reg.PW_ENTRY F.PW_ENTRY_ABORTS = min 255 (s.fld Reg.PW_ENTRY F.PW_ENTRY_ABORTS + 1)) ∧
  (∀ (s : State) (d : Fin 64) (a : Fin 4), s.pw.sleep = none → s.entry d = 1 → s.wanted d = true →
    Completes (.domainEntryAbort d a) s fun t => t.entry d = 0 ∧ (∀ e, e ≠ d.val → t.entry e = s.entry e) ∧
      SMap.get 0 t.pw.idle d = 0 ∧ t.rdW Reg.PW_ON = s.rdW Reg.PW_ON ∧ OccurredBit 546 Reg.PW_EVENT 2 s t ∧
      t.fld Reg.PW_ENTRY F.PW_ENTRY_RESULT = 2 ∧ t.fld Reg.PW_ENTRY F.PW_ENTRY_STEP = max 1 a.val ∧
      t.fld Reg.PW_ENTRY F.PW_ENTRY_DOMAIN = d.val ∧ t.fld Reg.PW_ENTRY F.PW_ENTRY_TARGET = 0 ∧
      RegsKeptEv [Reg.PW_ENTRY, Reg.PW_EVENT] s t) ∧
  (∀ (s : State) (w : WakeRt) (hits : List EccHit), hits.all (fun h => h.pail != storeHit 3 || !h.unc) = true →
    s.pw.wake = some w → s.mode = 0xA ∨ s.mode = 0xB → s.sec.trips = [] →
    Completes (.wake none hits) s fun t => t.mode = 4 ∧ t.fld Reg.PW_MODE F.PW_MODE_TRIGGER = 0x0E ∧ t.on 4 = true ∧
      t.on 3 = true ∧ t.on 1 = true ∧ t.on 2 = true ∧ t.pw.wake = none ∧ t.pw.h32 = true ∧ t.tk.sleep = none ∧
      (t.rdW Reg.PW_EVENT).toNat.testBit 1 = true ∧ t.fld Reg.PW_WAKE_LAST F.PW_WAKE_LAST_CODE = lowBit w.codes ∧
      t.fld Reg.PW_WAKE_LAST F.PW_WAKE_LAST_ALL = w.codes % 2 ^ 11 ∧ t.rdW Reg.PW_WAKE_STAMP = BitVec.ofNat 64 w.aon) ∧
  (∀ (s : State) (a : Fin 128), a.val = s.fld Reg.PW_SB_ADDR F.PW_SB_ADDR_ADDR → s.mode = 0xA ∨ s.mode = 0xB →
    s.pw.wake = none → (s.rdW Reg.PW_WAKE_EN).toNat.testBit 1 = true →
    Completes (.sidebandAddressMatch a) s fun t => t.pw.wake = some ⟨s.aon, 2, 0⟩ ∧ t.out = s.out ∧ t.regs = s.regs) ∧
  (∀ (s : State) (p : HPort), (s.linksOf p).all (fun m => (s.link m).l23) = true → s.mode = 0xA ∨ s.mode = 0xB →
    s.pw.wake = none → (s.rdW Reg.PW_WAKE_EN).toNat.testBit 3 = true → (s.rdW Reg.PW_WAKE_EN).toNat.testBit (24 + p.val) = true →
    Completes (.inbandWake (some p)) s fun t => t.pw.wake = some ⟨s.aon, 8, p.val⟩ ∧ t.regs = s.regs) ∧
  (∀ s : State, s.mode = 0xA ∨ s.mode = 0xB → s.pw.wake = none → (s.rdW Reg.PW_WAKE_EN).toNat.testBit 5 = true →
    Completes (.inbandWake none) s fun t => t.pw.wake = some ⟨s.aon, 32, 0⟩ ∧ t.regs = s.regs) ∧
  (∀ (s : State) (l : BitVec 16) (i : Nat), i < 16 → (s.fld Reg.PW_WAKE_GPIO F.PW_WAKE_GPIO_EN).testBit i = true →
    l.toNat.testBit i = (s.fld Reg.PW_WAKE_GPIO F.PW_WAKE_GPIO_LEVEL).testBit i → s.mode = 0xA ∨ s.mode = 0xB →
    s.pw.wake = none → (s.rdW Reg.PW_WAKE_EN).toNat.testBit 6 = true →
    Completes (.gpioWake l) s fun t => t.pw.wake = some ⟨s.aon, 64, 0⟩ ∧ t.rdW Reg.PIN_GPIO_IN = l.setWidth 64 ∧
      RegsKept [Reg.PIN_GPIO_IN] s t) ∧
  (∀ (s : State) (ts : List Byte) (r : BitVec 7) (c p : Bool) (pres : List Nat), s.mode = 0xA → ts.length = 16 →
    s.pw.dozeAt + s.dozePeriod ≤ s.aon → (goodTemps 0 ts).all (fun x => decide (x.2 < 120)) = true →
    Completes (.dozeSample ts r c p pres) s fun t =>
      t.fld Reg.PW_DOZE_STAT F.PW_DOZE_STAT_SAMPLES = min (2 ^ 24 - 1) (s.fld Reg.PW_DOZE_STAT F.PW_DOZE_STAT_SAMPLES + 1) ∧
      t.fld Reg.PW_DOZE_STAT F.PW_DOZE_STAT_MAX_T = uInt 8 (hottest (goodTemps 0 ts)).2 ∧ t.mode = 0xA ∧ t.pw.dozeAt = s.aon ∧
      t.pw.dozePres = some ((List.range 96).filter (fun n => s.dozeMask n && pres.contains n)) ∧
      (s.pw.wake = none → r ≠ 0 → t.pw.wake.any (fun w => w.aon == s.aon && w.codes.testBit 9) = true ∧ 10 ∈ t.pw.latent) ∧
      (s.pw.wake = none → (goodTemps 0 ts).any (fun x => decide (119 ≤ x.2)) = true →
        t.pw.wake.any (fun w => w.aon == s.aon && w.codes.testBit 10) = true ∧ 9 ∈ t.pw.latent) ∧
      RegsKept [Reg.PW_DOZE_STAT] s t) ∧
  (∀ (s : State) (ts : List Byte) (r : BitVec 7) (c p : Bool) (pres : List Nat), s.mode = 0xA → ts.length = 16 →
    s.pw.dozeAt + s.dozePeriod ≤ s.aon → (goodTemps 0 ts).any (fun x => decide (120 ≤ x.2)) = true →
    Completes (.dozeSample ts r c p pres) s fun t => t.mode = 0xC ∧ t.on 4 = true ∧ t.on 3 = true ∧ t.on 1 = true ∧
      t.fld Reg.PW_THERM_STAT F.PW_THERM_STAT_LEVEL = 3) ∧
  (∀ (s : State) (ts : List Byte) (r : BitVec 7) (c p : Bool) (pres : List Nat),
    s.mode ≠ 0xA ∨ s.aon < s.pw.dozeAt + s.dozePeriod → Completes (.dozeSample ts r c p pres) s fun t => t = s) ∧
  (∀ (s : State) (b : Byte), s.mode = 0xB → 120 ≤ degC b →
    Completes (.aonComparatorThermal b) s fun t => t.mode = 0xC ∧ t.on 4 = true ∧ t.on 3 = true ∧ t.on 1 = true) ∧
  (∀ (s : State) (b : Byte), s.mode = 0xB → degC b < 120 → s.pw.wake = none →
    Completes (.aonComparatorThermal b) s fun t => t.pw.wake = some ⟨s.aon, 2 ^ 10, 0⟩ ∧ t.regs = s.regs) ∧
  (∀ (s : State) (h : UmHdr) (p : List Byte), s.umCheck h 0x0804 p.length = none → p.length = 20 →
    s.genNeeds h.carrier 1 = none →
    Completes (.dozeCfg h p) s fun t => t.um.due = (s.reply h 0x0804 stOK []).um.due ∧
      (∀ i ∈ List.range 5,
        t.rdS ([Reg.PW_DOZE_PERIOD, Reg.PW_DOZE_THR, Reg.PW_DOZE_PMASK 0, Reg.PW_DOZE_PMASK 1, Reg.PW_DOZE_PMASK 2].getD i 0) =
          BitVec.ofNat 64 (leAt p (4 * i) 4) &&&
            rwgMask ([Reg.PW_DOZE_PERIOD, Reg.PW_DOZE_THR, Reg.PW_DOZE_PMASK 0, Reg.PW_DOZE_PMASK 1, Reg.PW_DOZE_PMASK 2].getD i 0)) ∧
      t.gen = s.gen ∧ t.regs = s.regs)

/-! ## Supply and temperature (16) -/

/-- Supply, temperature and the trouble log (R401, R467 to R478, R484, R552, R553, R556, R557): a dip is recorded, shown and
counted; a lasting warning sheds the sheddable groups and the supply's return lifts them; a conversion writes the readings, warns,
sheds or trips; a write of PW_SHED_CTRL asks for the groups back. The queue's first entry goes into the ring, over the oldest
unread one where the ring is full; the read mark moves on within it; the repair record is written to the older copy. -/
def Obligations.SupplyTemperatureAndLogKeepTheirRecords : Prop :=
  (∀ (s : State) (r : Fin 7) (mv ago : Nat), s.mode ≠ 0 → s.dip r = none → mv < (railLow r).1 → s.lowerDip r = false →
    Completes (.supplyDipRecorded r mv ago) s fun t => (t.rdW Reg.PW_STEVENT).toNat.testBit 1 = true ∧
      (t.fld Reg.PW_SUP_STAT F.PW_SUP_STAT_LOW).testBit r = true ∧
      (t.dip r).any (fun d => d.min == mv && d.stamp == s.aon - 24 && d.reset == decide (mv < (railLow r).2)) = true ∧
      t.fld Reg.PW_DIP F.PW_DIP_RAIL = r.val ∧ t.flag Reg.PW_DIP F.PW_DIP_OPEN = true ∧
      t.fld Reg.PW_DIP F.PW_DIP_MIN_MV = min mv 4095 ∧ t.rdW Reg.PW_DIP_STAMP = BitVec.ofNat 64 (s.aon - 24) ∧
      t.rdW Reg.PW_DIP_AT = (if s.tlKnown then tlOf (tlAdd s.now (-(ago : Int))) else 0) ∧
      (r.val = 0 → t.flag Reg.PW_SUP_STAT F.PW_SUP_STAT_WARN = true ∧ (t.rdW Reg.PW_STEVENT).toNat.testBit 0 = true ∧
        (s.mode = 5 → t.mode = 6)) ∧
      (s.mode = 0xB → s.pw.wake = none → t.pw.wake.any (fun w => w.codes.testBit 9) = true)) ∧
  (∀ (s : State) (r : Fin 7) (mv n : Nat) (d : DipRt), s.dip r = some d → s.ownsDip r d = true →
    Completes (.supplyDipEnd r mv n) s fun t => t.dip r = none ∧ Counted Reg.PW_DIP_CNT s t ∧
      (t.fld Reg.PW_SUP_STAT F.PW_SUP_STAT_LOW).testBit r = false ∧ t.flag Reg.PW_DIP F.PW_DIP_OPEN = false ∧
      t.fld Reg.PW_DIP F.PW_DIP_MIN_MV = min (min d.min mv) 4095 ∧ t.fld Reg.PW_DIP F.PW_DIP_DUR = min (s.aon - d.stamp) 65535 ∧
      (logFill s.log.queue < 254 → t.log.queue.any (fun w => w.entry.kind == 3 && w.entry.tl == d.tl) = true) ∧
      (r.val = 0 → t.flag Reg.PW_SUP_STAT F.PW_SUP_STAT_WARN = false ∧ t.pw.coreOk = some s.aon)) ∧
  (∀ (s : State) (r : Fin 7) (mv n : Nat), s.dip r = none → 1 ≤ n → n < 25 → mv < (railLow r).1 → s.mode ≠ 0 →
    Completes (.supplyDipEnd r mv n) s fun t => Counted Reg.PW_SUP_GLITCH s t ∧ RegsKept [Reg.PW_SUP_GLITCH] s t) ∧
  (∀ (s : State) (r : Fin 7), (s.fld Reg.PW_SUP_STAT F.PW_SUP_STAT_HIGH).testBit r = false →
    Completes (.supplyOver r true) s fun t => (t.fld Reg.PW_SUP_STAT F.PW_SUP_STAT_HIGH).testBit r = true ∧
      OccurredBit 616 Reg.PW_STEVENT 4 s t ∧ RegsKeptEv [Reg.PW_SUP_STAT, Reg.PW_STEVENT] s t) ∧
  (∀ (s : State) (r : Fin 7), Completes (.supplyOver r false) s fun t =>
      (t.fld Reg.PW_SUP_STAT F.PW_SUP_STAT_HIGH).testBit r = false ∧ RegsKept [Reg.PW_SUP_STAT] s t) ∧
  (∀ (s : State) (dly : Nat), dly = s.fld Reg.PW_SUP_CFG F.PW_SUP_CFG_SHED_DLY →
    s.flag Reg.PW_SUP_STAT F.PW_SUP_STAT_WARN = true → dly ≠ 0 → s.pw.warnAt + 25 * dly ≤ s.aon →
    s.flag Reg.PW_SUP_STAT F.PW_SUP_STAT_SHED = false → 4 ≤ s.mode → s.mode ≠ 0xC →
    Completes .supplyShed s fun t => t.flag Reg.PW_SUP_STAT F.PW_SUP_STAT_SHED = true ∧ OccurredBit 614 Reg.PW_STEVENT 2 s t ∧
      (∀ g < 12, (t.shedMap F.PW_SHED_STAT_SUP_SHED).testBit g = s.sheddable g) ∧
      (∀ g < 12, s.sheddable g = true → t.forcedMap.testBit (domL g) = true ∧ t.forcedMap.testBit (domC (s.groupUnit g)) = true)) ∧
  (∀ s : State, (s.dip 0).isNone = true → s.pw.coreOk.all (fun a => decide (a + 2500 ≤ s.aon)) = true →
    Completes .supplyReturn s fun t => t.shedMap F.PW_SHED_STAT_SUP_SHED = 0 ∧
      t.flag Reg.PW_SUP_STAT F.PW_SUP_STAT_SHED = false ∧
      (s.flag Reg.PW_SUP_STAT F.PW_SUP_STAT_SHED = true → OccurredBit 615 Reg.PW_STEVENT 3 s t) ∧
      (∀ g < 12, (s.shedMap F.PW_SHED_STAT_SUP_SHED).testBit g = true → (s.shedMap F.PW_SHED_STAT_TH_SHED).testBit g = false →
        s.mode ≠ 0xC → t.forcedMap.testBit (domL g) = false) ∧
      (s.mode = 6 → s.fld Reg.PW_THERM_STAT F.PW_THERM_STAT_LEVEL < 2 → s.shedMap F.PW_SHED_STAT_TH_SHED = 0 → t.mode = 5)) ∧
  (∀ (s : State) (ts : List Byte), ts.length = 16 → s.on 1 = true → s.on 3 = true → 4 ≤ s.mode →
    s.pw.convAt.all (fun a => decide (a + 500 ≤ s.aon)) = true → (goodTemps 0 ts).all (fun x => decide (x.2 < 120)) = true →
    Completes (.thermalConversion ts) s fun t => t.pw.convAt = some s.aon ∧
      (∀ k < 4, t.rdW (Reg.PW_TEMP k) = BitVec.ofNat 64 (leAt ts (4 * k) 4)) ∧
      (∀ i < 16, (t.fld Reg.PW_THERM_STAT F.PW_THERM_STAT_FAULT).testBit i = (leAt ts i 1 == 0x80)) ∧
      t.fld Reg.PW_THERM_STAT F.PW_THERM_STAT_HOT = (hottest (goodTemps 0 ts)).1 ∧
      t.fld Reg.PW_THERM_STAT F.PW_THERM_STAT_MAX_T = uInt 8 (hottest (goodTemps 0 ts)).2 ∧
      ((goodTemps 0 ts).any (fun x => decide (110 ≤ x.2)) = true → s.mode ≠ 0xC →
        t.fld Reg.PW_THERM_STAT F.PW_THERM_STAT_LEVEL = 2 ∧ (s.mode = 5 → t.mode = 6)) ∧
      (∀ g ∈ hotGroups (goodTemps 0 ts), s.sheddable g = true → s.pw.restore = 0 →
        (t.shedMap F.PW_SHED_STAT_TH_SHED).testBit g = true ∧
          ((s.shedMap F.PW_SHED_STAT_TH_SHED).testBit g = false → t.forcedMap.testBit (domL g) = true))) ∧
  (∀ (s : State) (ts : List Byte), ts.length = 16 → s.on 1 = true → s.on 3 = true → 4 ≤ s.mode → s.mode ≠ 0xC →
    s.pw.convAt.all (fun a => decide (a + 500 ≤ s.aon)) = true → (goodTemps 0 ts).any (fun x => decide (120 ≤ x.2)) = true →
    s.rs.causeAon ≠ some s.aon →
    Completes (.thermalConversion ts) s fun t => t.mode = 0xC ∧ t.fld Reg.PW_THERM_STAT F.PW_THERM_STAT_LEVEL = 3 ∧
      t.fld Reg.RS_CAUSE F.RS_CAUSE_CODE = 9 ∧ (t.rdW Reg.RS_EVENT).toNat.testBit 9 = true) ∧
  (∀ (s : State) (v : BitVec 32), Completes (.pwShedCtrlRestore v) s fun t =>
    t.pw.restore = s.pw.restore ||| v.toNat % 4096 ∧ t.regs = s.regs ∧ t.gen = s.gen) ∧
  (∀ (s : State) (w : LogWait) (ws : List LogWait), s.log.queue = w :: ws →
    Completes .logQueueWrite s fun t => (s.logUnread < 2048 → t.log.queue = ws ∧ t.regs = s.regs) ∧
      SMap.get LogEntry.zero t.log.ring (w.entry.seq % 2048) = w.entry ∧ w.entry.seq % 2048 ∉ t.log.bad ∧
      (∀ i, i < 2048 → i ≠ w.entry.seq % 2048 → SMap.get LogEntry.zero t.log.ring i = SMap.get LogEntry.zero s.log.ring i) ∧
      (2048 ≤ s.logUnread → Counted Reg.LOG_OVERWRITTEN s t ∧ t.flag Reg.LOG_STAT F.LOG_STAT_OVERRUN = true ∧
        t.logMark = (s.logMark + 1) % 2 ^ 32 ∧ Occurred 636 s t)) ∧
  (∀ (s : State) (v : BitVec 32), (s.logTop + 2 ^ 32 - v.toNat) % 2 ^ 32 ≤ 2048 →
    Completes (.logRdseqWrite v) s fun t => t.logMark = v.toNat ∧ RegsKept [Reg.LOG_RDSEQ] s t) ∧
  (∀ (s : State) (v : BitVec 32), 2048 < (s.logTop + 2 ^ 32 - v.toNat) % 2 ^ 32 →
    Completes (.logRdseqWrite v) s fun t => t = s) ∧
  (∀ (s : State) (h : UmHdr) (p : List Byte), s.umCheck h 0x0B00 p.length = none → leAt p 0 2 < 2048 → 1 ≤ leAt p 2 2 →
    leAt p 2 2 ≤ 127 →
    Completes (.logRead h p []) s fun t => t.um = (s.reply h 0x0B00 stOK (leBytes 2 (s.logTop % 2048) ++ leBytes 2 (leAt p 2 2) ++
      List.replicate 28 0 ++ (List.range (leAt p 2 2)).flatMap (fun j =>
        if s.log.bad.contains ((leAt p 0 2 + j) % 2048) then List.replicate 32 0
        else (SMap.get LogEntry.zero s.log.ring ((leAt p 0 2 + j) % 2048)).bytes))).um ∧ t.log = s.log ∧ t.regs = s.regs) ∧
  (∀ (s : State) (h : UmHdr) (p : List Byte) (d : Nat), s.umCheck h 0x0B01 p.length = none → leAt p 0 2 < 2048 →
    d = (leAt p 0 2 + 2048 - s.logMark % 2048) % 2048 → d < s.logUnread →
    Completes (.logMark h p) s fun t => t.um = (s.reply h 0x0B01 stOK []).um ∧ t.logMark = (s.logMark + (d + 1)) % 2 ^ 32 ∧
      RegsKept [Reg.LOG_RDSEQ] s t) ∧
  (∀ (s : State) (c n : Nat), s.repairDue = true → s.bootPath ≤ 1 → s.on 3 = true → n = s.sec.fuses.dsn →
    c = s.flash.nextCopy n →
    ((s.flash.entries n) ++ s.repairEntries.filter (fun e => !(recLast (s.flash.entries n)).contains e)).length ≤ 8188 →
    Completes (.repairRecordWrite true) s fun t => t.repairDue = false ∧ t.flash.slotA = s.flash.slotA ∧
      (if c = 0 then t.flash.rec0 else t.flash.rec1) = recordBytes n ((s.flash.seq n + 1) % 2 ^ 32)
        ((s.flash.entries n) ++ s.repairEntries.filter (fun e => !(recLast (s.flash.entries n)).contains e)) ∧
      (if c = 0 then t.flash.rec1 else t.flash.rec0) = (if c = 0 then s.flash.rec1 else s.flash.rec0) ∧ t.regs = s.regs)

/-! ## Reset and bring-up (17) -/

/-- Device-wide resets (R486 to R493): each accepted source takes the device to Held; VDD_AON's brownout is Off, where only
the fuses, the flash and the outside remain, and AON's power-on from Off starts from the state after reset with them. -/
def Obligations.DeviceWideResetsHoldTheDevice : Prop :=
  (∀ s : State, s.mode = 0 →
    Completes .aonPowerOn s fun t => t.mode = 1 ∧ t.gen = [] ∧ t.staged = [] ∧ t.tk = Timekeeper.reset ∧ t.um = {} ∧
      t.log = State.reset.log ∧ t.flash = s.flash ∧ t.sec.fuses = s.sec.fuses) ∧
  (∀ (s : State) (mv : Nat), s.mode ≠ 0 → mv < (railLow 5).2 →
    Completes (.brownout 5 mv) s fun t => t.mode = 0 ∧ t.gen = [] ∧ t.um = {} ∧ t.log.queue = [] ∧ t.flash = s.flash ∧
      t.sec.fuses = s.sec.fuses ∧ ∀ d, t.on d = false) ∧
  (∀ (s : State) (rail : Fin 7) (mv : Nat), s.mode ≠ 0 → rail.val ≠ 5 → mv < (railLow rail).2 →
    Completes (.brownout rail mv) s fun t => ∃ u : State, u.aon = s.aon ∧ u.rdW Reg.RS_COUNT = s.rdW Reg.RS_COUNT ∧
      ResetToHeld 2 u t) ∧
  (∀ s : State, s.mode ≠ 0 → s.rs.resetN = false →
    Completes .resetNAccepted s fun t => ResetToHeld 3 s t ∧ t.rs.resetN = true) ∧
  (∀ s : State, s.mode ≠ 0 → s.rs.resetN = true →
    Completes .resetNRelease s fun t => t.rs.resetN = false ∧ (3, s.aon) ∈ t.rs.sources ∧ t.regs = s.regs) ∧
  (∀ s : State, s.mode ≠ 0 → s.rs.resetN = false →
    Completes .resetNRelease s fun t =>
      t.rdW Reg.RS_GLITCH = BitVec.ofNat 64 (min ((s.rdW Reg.RS_GLITCH).toNat + 1) 0xFFFFFFFF) ∧ t.mode = s.mode ∧
      (s.mode ≤ 3 → 8 ∈ t.rs.late) ∧ (3 < s.mode → (t.rdW Reg.RS_EVENT).toNat.testBit 8 = true) ∧
      RegsKeptEv [Reg.RS_GLITCH, Reg.RS_EVENT] s t) ∧
  (∀ s : State, s.on 3 = true → s.mode ≠ 0xC → s.pw.sleep = none → s.rs.mgmtAt + 1250000 ≤ s.aon →
    Completes .creameryWatchdogExpiry s (ResetToHeld 4 s.yieldFirst)) ∧
  (∀ (s : State) (detail : Byte), s.mode ≠ 0 → s.mode ≠ 0xC → 1 ≤ detail.toNat → detail.toNat ≤ 5 →
    Completes (.criticalStateError detail) s (ResetToHeld 5 s.yieldFirst)) ∧
  (∀ (s : State) (when_ c : Nat), s.um.resetAt = some (when_, c) → when_ ≤ s.ticks → s.um.due = [] →
    Completes .resetDomainDeviceStart s (ResetToHeld 6 s.yieldFirst))

/-- What a reset leaves (R191, R466, R487, R488): when the switches open, registers that only an AON power-on clears keep
their values, the trouble log stays, both register images and the work of Umger and of the channels are gone; in Quarantine
a watchdog expiry restarts the Creamery alone, which leaves the registers of every domain but MGMT, the binding of the Churn units apart,
which returns to the after-reset one (R118). -/
def Obligations.ResetsKeepWhatOnlyPowerOnClears : Prop :=
  (∀ (s : State) (a : Nat), s.rs.swOpen = some a → a + 25 ≤ s.aon →
    Completes .resetSwitchesOpen s fun t => t.gen = [] ∧ t.staged = [] ∧ t.log = s.log ∧ t.um = {} ∧ t.chans = [] ∧
      t.pails = [] ∧ t.flash = s.flash ∧ t.sec.fuses = s.sec.fuses ∧ t.rs.swOpen = none ∧
      ∀ k, regPerm k = true → t.rdW k = s.rdW k) ∧
  (∀ s : State, s.on 3 = true → s.mode = 0xC → s.quarNow = false →
    s.pw.sleep = none → s.rs.mgmtAt + 1250000 ≤ s.aon →
    Completes .creameryWatchdogExpiry s fun t => t.mode = 0xC ∧ t.um = {} ∧ t.chans = [] ∧ t.slices = [] ∧
      t.rs.mgmtAt = s.aon ∧ (t.rdW Reg.RS_EVENT).toNat.testBit 10 = true ∧ t.fld Reg.RS_BOOT F.RS_BOOT_RESULT = 0 ∧
      ∀ k, regDom k ≠ 3 → regDom k < 0x20 ∨ 0x30 ≤ regDom k → evKey k = false → k ≠ Reg.RS_BOOT → k ≠ Reg.RS_EVENT →
        k ∉ (List.range 16).map Reg.VAT_BANK_REPAIR → t.rdW k = s.rdW k)

/-- Held, Strap and the bring-up rows (R490, R497 to R499): the last source's release leads to Strap; the strap's code, its
band, its role and its boot path are recorded and Bring-up begins; a row records its domain and releases it. -/
def Obligations.BringUpFollowsTheStrapAndItsRows : Prop :=
  (∀ s : State, s.mode = 1 → s.rs.swOpen = none → s.rs.sources.all (sourceGone s.aon s.rs.resetN) = true →
    Completes .heldExit s fun t => t.mode = 2 ∧ t.rs.sources = [] ∧ t.rs.rowAt = s.aon ∧
      t.fld Reg.PW_MODE F.PW_MODE_TRIGGER = 3) ∧
  (∀ (s : State) (c0 c1 c2 c3 : Fin 64), s.mode = 2 → s.rs.rowAt + 1600 ≤ s.aon →
    Completes (.strapComplete c0 c1 c2 c3) s fun t => t.mode = 3 ∧ t.rs.row = 0 ∧ t.rs.rowAt = s.aon ∧
      t.fld Reg.RS_STRAP F.RS_STRAP_CODE = (c0.val + c1.val + c2.val + c3.val) / 4 ∧
      t.fld Reg.RS_STRAP F.RS_STRAP_BAND = bandOf ((c0.val + c1.val + c2.val + c3.val) / 4) ∧
      t.fld Reg.RS_STRAP F.RS_STRAP_ROLE = bandOf ((c0.val + c1.val + c2.val + c3.val) / 4) / 4 ∧
      t.fld Reg.RS_BOOT F.RS_BOOT_PATH = bandOf ((c0.val + c1.val + c2.val + c3.val) / 4) % 4 ∧
      t.fld Reg.TW_ROLE F.TW_ROLE_STRAP = bandOf ((c0.val + c1.val + c2.val + c3.val) / 4) / 4) ∧
  (∀ (s : State) (c0 c1 : List Byte) (d : Nat), bringRows[s.rs.row]? = some d → s.mode = 3 →
    s.rs.rowAt + (if s.rs.row < 3 then 25 else 50) ≤ s.aon → s.rs.row ≠ 3 →
    Completes (.bringupRowRelease c0 c1) s fun t => ∃ u : State, t = (u.domOn d).rowHook d ∧
      u.rs = { s.rs with row := s.rs.row + 1, rowAt := s.aon } ∧ u.fld Reg.RS_BRINGUP F.RS_BRINGUP_LAST_DOMAIN = d ∧
      u.fld Reg.RS_BRINGUP F.RS_BRINGUP_DONE = (if s.rs.row + 1 = bringRows.length then 1 else 0) ∧
      RegsKept [Reg.RS_BRINGUP] s u) ∧
  (∀ (s : State) (c0 c1 : List Byte), s.mode = 3 → s.rs.row = 3 → s.rs.rowAt + 50 ≤ s.aon → s.recordWait c0 c1 = true →
    Completes (.bringupRowRelease c0 c1) s fun t => ∃ u : State, t = (u.domOn 0x30).rowHook 0x30 ∧ u.rs.row = 4 ∧
      u.rs.rowAt = s.aon ∧ u.fld Reg.RS_BRINGUP F.RS_BRINGUP_LAST_DOMAIN = 0x30 ∧
      (s.bootPath ≤ 1 → u.banks = (s.readRecord c0 c1).banks ∧ u.flash.rec0 = c0 ∧ u.flash.rec1 = c1) ∧
      (2 ≤ s.bootPath → u.banks = s.banks))

/-- Boot (R502, R505, R514, R515, R501): a failed source leaves its status and the next one's turn; a verified image starts,
its body running; Ready is entered with every row released and the firmware started. -/
def Obligations.BootSourcesFailOrStartTheFirmware : Prop :=
  (∀ (s : State) (status : Byte) (src : Nat), (bootSources s.bootPath)[s.rs.src]? = some src → s.booting = true →
    2 ≤ status.toNat → status.toNat ≤ 5 → (status.toNat = 5 → s.rs.srcAt + sourceLimit src ≤ s.aon) →
    s.rs.src + 1 < (bootSources s.bootPath).length → src ≠ 3 → s.mode = 3 →
    Completes (.bootSourceFail status) s fun t => t.rs.src = s.rs.src + 1 ∧ 6 ∈ t.rs.late ∧
      t.fld Reg.RS_BOOT F.RS_BOOT_LAST_FAIL = status.toNat ∧
      (src = 0 → t.fld Reg.RS_BOOT F.RS_BOOT_SLOTA = status.toNat) ∧
      (src = 1 → t.fld Reg.RS_BOOT F.RS_BOOT_SLOTB = status.toNat) ∧ t.mode = 3) ∧
  (∀ (s : State) (image : List Byte) (src : Nat), (bootSources s.bootPath)[s.rs.src]? = some src → s.booting = true →
    s.sec.fuses.imageStatus image = 1 → (src = 3 → s.rs.pldm.take image.length = image) →
    Completes (.firmwareVerified image) s fun t => t.rs.fw = true ∧ t.image = imageBody image ∧
      t.sec.imgHead = image.take 1024 ∧ (src = 0 → t.flash.slotA = image) ∧ (src ≠ 0 → t.flash = s.flash)) ∧
  (∀ (s : State) (eid : Nat) (piece : List Byte), s.booting = true → (bootSources s.bootPath)[s.rs.src]? = some 3 →
    piece.length ≤ 1024 →
    Completes (.pldmFirmwareData eid piece) s fun t => t.rs.pldm = s.rs.pldm ++ piece ∧ t.rs.agent = eid ∧
      t.out.length = s.out.length + 1) ∧
  (∀ (s : State) (fuseV : Bool), s.mode = 3 → s.rs.row = bringRows.length → s.rs.fw = true →
    Completes (.readyEntry fuseV) s fun t => ∃ u : State, t = u.lateRs s.rs.late ∧ u.mode = 4 ∧ u.pw.h32 = true ∧
      u.rs.late = []) ∧
  (∀ (s : State) (h : UmHdr) (p : List Byte), s.umCheck h 0x0C00 p.length = none → leAt p 0 1 = 0 →
    Completes (.resetDomain h p) s fun t => t.um.resetAt = some (s.ticks + 4096, ownerOf h.carrier) ∧ t.regs = s.regs) ∧
  (∀ (s : State) (h : UmHdr) (p : List Byte), s.umCheck h 0x0C00 p.length = none → leAt p 0 1 = 1 →
    resettable (leAt p 1 1) = true → s.entry (leAt p 1 1) = 0 →
    s.pw.exits.testBit (leAt p 1 1) = false → s.on (leAt p 1 1) = true →
    Completes (.resetDomain h p) s fun t => (leAt p 1 1, s.aon + 25, h) ∈ t.um.domReset) ∧
  (∀ (s : State) (d w : Nat) (h : UmHdr), s.um.domReset = [(d, w, h)] → w ≤ s.aon → w ≠ 0 → s.entry d = 0 →
    s.pw.exits.testBit d = false →
    Completes .domainResetComplete s fun t => t.um.domReset = [] ∧
      ∃ u : State, t = (u.domResetEnd d).reply h 0x0C00 stOK [] ∧ u.regs = s.regs) ∧
  (∀ (s : State) (h : UmHdr) (p : List Byte), s.umCheck h 0x0B05 p.length = none →
    Completes (.rsCauseGet h p) s fun t => t.um = (s.reply h 0x0B05 stOK (leBytes 4 (s.rdW Reg.RS_CAUSE).toNat ++
      leBytes 8 (s.rdW Reg.RS_CAUSE_STAMP).toNat ++ leBytes 8 (s.rdW Reg.RS_CAUSE_TL).toNat)).um)

/-! ## Security (18) -/

/-- The security block (R401, R511, R512, R515 to R526, R530 to R536, R539, R540): health tests, restarts, instantiation and
reseeding of the DRBG; trips of tamper sources and what their levels do; images in flash; tokens and the end of their checks; fuse
programming; zeroization; the debug level and the TAP. -/
def Obligations.SecurityCommandsProtectTheDevice : Prop :=
  (∀ (s : State) (l : List Byte) (w : Nat), s.on 4 = true → s.rng ≠ 2 → noiseTest l w ≠ 0 →
    Completes (.noiseHealthFailure l w) s fun t => t.rng = 2 ∧
      t.fld Reg.SEC_RNG_STAT F.SEC_RNG_STAT_LAST_TEST = (if s.rng = 1 then 3 else noiseTest l w) ∧ Counted Reg.SEC_RNG_FAILS s t ∧
      (t.rdW Reg.SEC_EVENT).toNat.testBit 2 = true ∧ t.sec.failAt = s.ticks ∧ t.sec.ops.all (fun o => !o.needsRandom) = true) ∧
  (∀ (s : State) (l : List Byte) (w : Nat), noiseTest l w = 0 → Completes (.noiseHealthFailure l w) s fun t => t = s) ∧
  (∀ s : State, s.on 4 = true → s.rng = 2 → s.fld Reg.SEC_RNG_STAT F.SEC_RNG_STAT_RESTARTS < 3 → s.sec.failAt + secTc ≤ s.ticks →
    Completes .drbgRestart s fun t => t.rng = 1 ∧ t.sec.testAt = s.ticks ∧ t.sec.restart = true ∧
      t.fld Reg.SEC_RNG_STAT F.SEC_RNG_STAT_RESTARTS = s.fld Reg.SEC_RNG_STAT F.SEC_RNG_STAT_RESTARTS + 1 ∧
      RegsKept [Reg.SEC_RNG_STAT] s t) ∧
  (∀ s : State, s.on 4 = true → s.rng = 1 → s.sec.testAt + 97280 ≤ s.ticks →
    Completes .drbgInstantiated s fun t => t.rng = 0 ∧ t.fld Reg.SEC_RNG_STAT F.SEC_RNG_STAT_RESTARTS = 0 ∧
      t.sec.seedAt = s.ticks ∧ t.sec.nonce.isSome = true ∧ (s.sec.nonce.isSome = true → t.sec.nonce = s.sec.nonce) ∧
      (s.sec.restart = true → OccurredBit 571 Reg.SEC_EVENT 3 s t) ∧ RegsKeptEv [Reg.SEC_RNG_STAT, Reg.SEC_EVENT] s t) ∧
  (∀ s : State, s.on 4 = true → s.rng = 2 →
    Completes .secRngCtrlRetry s fun t => t.rng = 1 ∧ t.sec.testAt = s.ticks ∧ t.sec.restart = true ∧
      RegsKept [Reg.SEC_RNG_STAT] s t) ∧
  (∀ s : State, s.rngReady = true → 2 ^ 20 ≤ s.sec.gens ∨ s.sec.seedAt + secTc ≤ s.ticks →
    Completes .drbgReseed s fun t => t.sec.gens = 0 ∧ t.sec.seedAt = s.ticks ∧ t.regs = s.regs) ∧
  (∀ (s : State) (src : Fin 8) (v : Bool), s.mode ≠ 0 → s.on 4 = true → s.sec.prog = none →
    Completes (.tamperTrip src v) s fun t =>
      (t.fld Reg.SEC_TAMPER_STAT F.SEC_TAMPER_STAT_LATCH).testBit src = true ∧
      t.fld Reg.SEC_TAMPER_STAT F.SEC_TAMPER_STAT_LAST = src.val ∧ Counted Reg.SEC_TAMPER_CNT s t ∧
      (t.rdW Reg.SEC_EVENT).toNat.testBit 0 = true ∧ t.flag Reg.SEC_STATE F.SEC_STATE_FUSE_V = v ∧
      (logFill s.log.queue < 200 → t.log.queue.any (fun w => w.entry.kind == 9) = true) ∧
      (1 ≤ s.tamperLevel src → t.sec.key = none ∧ t.sec.nonce = none ∧ t.fld Reg.SEC_STATE F.SEC_STATE_KEY_ID = 0) ∧
      (2 ≤ s.tamperLevel src → 3 ≤ s.mode → t.mode = 0xC) ∧
      (s.tamperLevel src = 3 → v = true → s.sec.fuses.lc.testBit 7 = false →
        t.sec.prog = some ⟨none, 2 ^ 7, none, none⟩)) ∧
  (∀ (s : State) (src : Fin 8) (v : Bool), s.mode ≠ 0 → s.on 4 = false → s.aonWatches src = true →
    Completes (.tamperTrip src v) s fun t =>
      (t.fld Reg.SEC_TAMPER_STAT F.SEC_TAMPER_STAT_LATCH).testBit src = true ∧ t.sec.trips = s.sec.trips ++ [src.val] ∧
      t.mode = s.mode ∧ t.sec.key = s.sec.key) ∧
  (∀ (s : State) (h : UmHdr) (p : List Byte), s.umCheck h 0x0A00 p.length = none →
    Completes (.secStatus h p) s fun t => t = s.reply h 0x0A00 stOK
      (([Reg.SEC_STATE, Reg.SEC_ARB, Reg.SEC_TAMPER_STAT, Reg.SEC_RNG_STAT].flatMap (fun k => leBytes 4 (s.regVal k).toNat)) ++
        s.sec.nonce.getD (List.replicate 32 0))) ∧
  (∀ (s : State) (h : UmHdr) (p : List Byte), s.umCheck h 0x0A01 p.length = none → s.bootPath < 2 →
    leAt p 0 4 + (p.length - 4) ≤ 16777216 →
    Completes (.fwLoad h p) s fun t => t.um = (s.reply h 0x0A01 stOK []).um ∧
      (∀ i, i < p.length - 4 → SMap.get 0 t.flash.slotB (leAt p 0 4 + i) = p.getD (4 + i) 0) ∧
      (∀ i, i < leAt p 0 4 ∨ leAt p 0 4 + (p.length - 4) ≤ i → SMap.get 0 t.flash.slotB i = SMap.get 0 s.flash.slotB i) ∧
      t.flash.slotA = s.flash.slotA ∧ t.regs = s.regs) ∧
  (∀ (s : State) (h : UmHdr) (p : List Byte) (st : Nat), s.umCheck h 0x0A02 p.length = none → s.bootPath < 2 → s.sec.fw = none →
    s.um.void = [] → s.um.owed = [] → s.um.begun = [] → st = s.sec.fuses.imageCheck s.slotBImage →
    Completes (.fwActivate h p) s fun t => t.flash = s.flash ∧
      (st ≠ 1 → t.sec.fw = none ∧ t.sec.ops = s.sec.ops ∧ (t.um.due.drop s.um.due.length).map (fun r => (r.hdr, r.status)) =
        [(h, stAccepted), (h, if st = 4 then stRollback else stAuthFail)]) ∧
      (st = 1 → t.sec.fw = some ⟨h, 1⟩ ∧ t.sec.ops.length = s.sec.ops.length + (if s.sec.fuses.owner.isEmpty then 1 else 2) ∧
        (t.um.due.drop s.um.due.length).map (fun r => (r.hdr, r.status)) = [(h, stAccepted)])) ∧
  (∀ (s : State) (h : UmHdr) (st : Nat), s.sec.fw = some ⟨h, 2⟩ → st = s.sec.fuses.imageCheck s.slotBImage →
    Completes .slotBCopyComplete s fun t => t.flash.slotA = s.slotBImage ∧ t.flash.slotB = s.flash.slotB ∧
      (st ≠ 1 → t.sec.fw = none) ∧
      (st = 1 → t.sec.fw = some ⟨h, 3⟩ ∧
        t.sec.ops.length = s.sec.ops.length + (if s.sec.fuses.owner.isEmpty then 1 else 2))) ∧
  (∀ (s : State) (h : UmHdr) (p : List Byte), s.umCheck h 0x0A03 p.length = none → s.on 4 = true →
    (lcBits s.sec.fuses.lc (leAt p 0 1)).isSome = true →
    p.length = 244 + (if lcCode s.sec.fuses.lc = 0 ∧ leAt p 0 1 = 1 then 96 else 0) → s.um.void = [] →
    Completes (.lcAdvance h p true) s fun t => t.sec.ops.length = s.sec.ops.length + 1 ∧
      t.sec.ops.getLast?.any (fun o => decide (o.task = .lcAdvance h (leAt p 0 1) (p.drop 4)) && o.dur == ceVerify) = true ∧
      t.um.owed = s.um.owed ++ [(h, 0x0A03)] ∧ t.flag Reg.SEC_STATE F.SEC_STATE_FUSE_V = true ∧ t.sec.fuses = s.sec.fuses) ∧
  (∀ (s : State) (h : UmHdr) (p : List Byte), s.umCheck h 0x0A03 p.length = none → s.on 4 = true →
    Completes (.lcAdvance h p false) s fun t => t = (s.seeFuseV false).refuse h 0x0A03 stSecDenied) ∧
  (∀ (s : State) (h : UmHdr) (p : List Byte), s.umCheck h 0x0A04 p.length = none → p.length = 240 → s.sec.lcNow = 2 →
    leAt p 5 1 ≠ 0 → leAt p 5 1 ≤ 2 → s.um.void = [] →
    Completes (.debugUnlock h p) s fun t => t.sec.ops.length = s.sec.ops.length + 1 ∧
      t.sec.ops.getLast?.any (fun o => decide (o.task = .debugUnlock h p) && o.dur == ceVerify) = true ∧
      t.um.owed = s.um.owed ++ [(h, 0x0A04)] ∧ t.regs = s.regs) ∧
  (∀ (s : State) (h : UmHdr) (tok : List Byte) (l : Nat), s.sec.ops = [⟨.debugUnlock h tok, ceVerify, some 0⟩] →
    ceVerify ≤ s.ticks → l = leAt tok 5 1 → 1 ≤ l → l ≤ 2 → s.sec.lcNow = 2 → s.um.void = [] → s.um.due = [] →
    (h, 0x0A04) ∈ s.um.owed →
    Completes (.curveOperationComplete false) s fun t => t.sec.ops = [] ∧
      (s.tokenFields [if l = 2 then 3 else 2] l tok = true ∧ tokenSig tok = 0 →
        t.fld Reg.SEC_STATE F.SEC_STATE_DBG = l ∧ t.um.due.map (fun r => (r.hdr, r.status)) = [(h, stOK)]) ∧
      (s.tokenFields [if l = 2 then 3 else 2] l tok = false ∨ tokenSig tok ≠ 0 →
        t.fld Reg.SEC_STATE F.SEC_STATE_DBG = s.fld Reg.SEC_STATE F.SEC_STATE_DBG ∧
        (t.rdW Reg.SEC_EVENT).toNat.testBit 6 = true ∧ t.um.due.map (fun r => (r.hdr, r.status)) = [(h, stAuthFail)])) ∧
  (∀ (s : State) (v : Bool) (o : CurveOp) (os : List CurveOp) (b : Nat), s.sec.ops = o :: os → o.start = some b →
    s.ticks < b + o.dur → Completes (.curveOperationComplete v) s fun t => t = s) ∧
  (∀ (s : State) (h : UmHdr) (p : List Byte), s.umCheck h 0x0A05 p.length = none → leAt p 0 1 ≤ 1 →
    Completes (.secZeroize h p) s fun t => (t.rdW Reg.SEC_EVENT).toNat.testBit 1 = true ∧ t.sec.mctp.sessions = [] ∧
      (∀ m, (t.link m).spdm.sessions = []) ∧ (∀ m st, (t.ideOf m st).state = 0 ∧ (t.ideOf m st).keys = []) ∧
      (leAt p 0 1 = 0 → t.sec.key = s.sec.key ∧ t.sec.nonce = s.sec.nonce) ∧
      (leAt p 0 1 = 1 → t.sec.key = none ∧ t.sec.nonce = none ∧ t.fld Reg.SEC_STATE F.SEC_STATE_KEY_ID = 0 ∧
        t.sec.keyGone = true)) ∧
  (∀ (s : State) (h : UmHdr) (p : List Byte), s.umCheck h 0x0A06 p.length = none → p.length = 4 →
    s.genNeeds h.carrier 1 = none →
    Completes (.tamperCfg h p) s fun t => t.um.due = (s.reply h 0x0A06 stOK []).um.due ∧
      t.rdS Reg.SEC_TAMPER_CFG = BitVec.ofNat 64 (leAt p 0 4) &&& rwgMask Reg.SEC_TAMPER_CFG ∧ t.gen = s.gen ∧ t.regs = s.regs) ∧
  (∀ s : State, s.on 4 = true → s.sec.lcNow = 2 →
    Completes .secDbgCtrlLock s fun t => t.fld Reg.SEC_STATE F.SEC_STATE_DBG = 0 ∧
      (s.fld Reg.SEC_STATE F.SEC_STATE_DBG ≠ 0 → OccurredBit 573 Reg.SEC_EVENT 5 s t) ∧
      RegsKeptEv [Reg.SEC_STATE, Reg.SEC_EVENT] s t) ∧
  (∀ (s : State) (ir : Fin 8), Completes (.tapInstruction ir) s fun t =>
      t.sec.tap = (if s.tapTakes ir then ir.val else 0) ∧ t.regs = s.regs) ∧
  (∀ (s : State) (lc : BitVec 9) (g : FuseProg), s.sec.prog = some g → g.lc &&& lc.toNat = g.lc → s.sec.acts = [] →
    Completes (.fuseProgrammingComplete lc true) s fun t => t.sec.prog = none ∧ t.sec.fuses.lc = s.sec.fuses.lc ||| g.lc ∧
      t.sec.lcNow = s.sec.lcNow ∧ t.sec.lcPend = true ∧ t.flag Reg.SEC_STATE F.SEC_STATE_LC_PEND = true ∧
      OccurredBit 575 Reg.SEC_EVENT 7 s t) ∧
  (∀ (s : State) (lc : BitVec 9) (g : FuseProg), s.sec.prog = some g → s.sec.acts = [] →
    Completes (.fuseProgrammingComplete lc false) s fun t => t.sec.prog = none ∧ t.sec.lcPend = s.sec.lcPend ∧
      t.sec.fuses.uds = s.sec.fuses.uds ∧ OccurredBit 582 Reg.SEC_EVENT 14 s t)

/-- SPDM, IDE_KM and TDISP, whose layouts are the family's (log entry 12) (R518, R526 to R529): the responder answers version,
capabilities and algorithms in order, opens a session by KEY_EXCHANGE and FINISH and ends it; keys are loaded, switched to and
discarded, and an integrity failure takes a stream down; an interface is locked, started and stopped, and its state is told. -/
def Obligations.SessionsStreamsAndInterfacesChangeState : Prop :=
  (∀ (s : State) (m : HLink) (q : List Byte), s.spdmHas (.doe m) none = true → leAt q 1 1 = 0x84 →
    Completes (.spdmRequest (.doe m) none q) s fun t => (t.link m).spdm.stage = 1 ∧
      (t.link m).doeIn = (s.link m).doeIn.tail ∧ (t.link m).spdm.out = (s.link m).spdm.out ++
        [[1, 0, 1, 0, 5, 0, 0, 0, 0x10, 0x04, 0, 0, 0, 2, 0, 0x12, 0, 0x13, 0, 0]]) ∧
  (∀ (s : State) (m : HLink) (q : List Byte), s.spdmHas (.doe m) none = true → leAt q 1 1 = 0xE1 →
    leAt q 0 1 = 0x12 ∨ leAt q 0 1 = 0x13 → (s.link m).spdm.stage = 1 →
    Completes (.spdmRequest (.doe m) none q) s fun t => (t.link m).spdm.stage = 2 ∧ (t.link m).spdm.version = leAt q 0 1 ∧
      (t.link m).spdm.out.length = (s.link m).spdm.out.length + 1) ∧
  (∀ (s : State) (m : HLink) (q : List Byte), s.spdmHas (.doe m) none = true → leAt q 1 1 = 0xE3 → (s.link m).spdm.stage = 2 →
    Completes (.spdmRequest (.doe m) none q) s fun t => (t.link m).spdm.stage = 3 ∧
      (t.link m).spdm.out.length = (s.link m).spdm.out.length + 1) ∧
  (∀ (s : State) (m : HLink) (q : List Byte), s.spdmHas (.doe m) none = true → leAt q 1 1 = 0xE4 → (s.link m).spdm.stage = 3 →
    s.sec.key.isSome = true → s.rngReady = true → s.sessionLoad (.doe m) < 4 →
    Completes (.spdmRequest (.doe m) none q) s fun t =>
      ((t.sec.ops.drop s.sec.ops.length).map (·.dur)) =
        [ceOne (decide (q.length < 136)), ceOne (decide (q.length < 136)), ceOne false] ∧
      (t.link m).spdm.out = (s.link m).spdm.out ∧ (t.link m).spdm.sessions = (s.link m).spdm.sessions ∧
      t.sec.seedAt = s.ticks) ∧
  (∀ (s : State) (m : HLink) (q : List Byte), s.spdmHas (.doe m) none = true → (s.link m).spdm.stage ≠ 3 →
    leAt q 1 1 ≠ 0x84 → leAt q 1 1 ≠ 0xE1 → leAt q 1 1 ≠ 0xE3 →
    Completes (.spdmRequest (.doe m) none q) s fun t => t = (s.spdmTake (.doe m)).spdmError (.doe m) none 4) ∧
  (∀ (s : State) (m : HLink) (n : Nat) (q : List Byte), s.spdmHas (.doe m) (some n) = true →
    (s.link m).spdm.sessions = [⟨n, false⟩] → leAt q 1 1 = 0xE5 →
    Completes (.spdmRequest (.doe m) (some n) q) s fun t => (t.link m).spdm.sessions = [⟨n, true⟩] ∧
      (t.rdW Reg.SEC_EVENT).toNat.testBit 12 = true) ∧
  (∀ (s : State) (m : HLink) (n : Nat) (q : List Byte), s.spdmHas (.doe m) (some n) = true →
    (s.link m).spdm.sessions = [⟨n, true⟩] → leAt q 1 1 = 0xEC →
    Completes (.spdmRequest (.doe m) (some n) q) s fun t => (t.link m).spdm.sessions = [] ∧
      (t.rdW Reg.SEC_EVENT).toNat.testBit 12 = true) ∧
  (∀ (s : State) (m : HLink) (o : List CurveOp) (a : List Byte) (n : Nat),
    s.sec.ops = ⟨.sign (.doe m) none a (some n), ceOne false, some 0⟩ :: o → ceOne false ≤ s.ticks →
    Completes (.curveOperationComplete false) s fun t =>
      (t.link m).spdm.sessions = (s.link m).spdm.sessions ++ [⟨n, false⟩] ∧
      (t.link m).spdm.out.length = (s.link m).spdm.out.length + 1 ∧ t.sec.ops.map (·.task) = o.map (·.task)) ∧
  (∀ (s : State) (m : HLink) (n i : Nat), s.spdmHas (.doe m) (some n) = true → s.isSecured (.doe m) n = true →
    Completes (.query (.doe m) n m i) s fun t => (t.link m).doeIn = (s.link m).doeIn.tail ∧
      (t.link m).spdm.out.length = (s.link m).spdm.out.length + 1 ∧ (t.link m).ide = (s.link m).ide) ∧
  (∀ (s : State) (m : HLink) (n st ks dir sub : Nat) (key : List Byte), s.spdmHas (.doe m) (some n) = true →
    s.isSecured (.doe m) n = true → key.length = 40 → keyOk st ks dir sub = true →
    (s.ideOf m st).uses ks dir sub = false ∨ dir = 0 ∨ (s.ideOf m st).state ≠ 2 →
    Completes (.keyProg (.doe m) n m st ks dir sub key) s fun t =>
      SMap.get [] (t.ideOf m st).keys (keyIdx ks dir sub) = key ∧ (t.ideOf m st).state = max (s.ideOf m st).state 1 ∧
      (∀ j, j ≠ st → t.ideOf m j = s.ideOf m j)) ∧
  (∀ (s : State) (m : HLink) (n st ks dir sub : Nat), s.spdmHas (.doe m) (some n) = true → s.isSecured (.doe m) n = true →
    keyOk st ks dir sub = true → SMap.get [] (s.ideOf m st).keys (keyIdx ks dir sub) ≠ [] →
    Completes (.kSetGo (.doe m) n m st ks dir sub) s fun t => (t.ideOf m st).uses ks dir sub = true ∧
      ((t.ideOf m st).go.length = 6 → (t.ideOf m st).state = 2) ∧
      ((t.ideOf m st).state ≠ (s.ideOf m st).state → (t.rdW Reg.SEC_EVENT).toNat.testBit 10 = true) ∧
      (∀ j, j ≠ st → t.ideOf m j = s.ideOf m j)) ∧
  (∀ (s : State) (m : HLink) (n st ks dir sub : Nat), s.spdmHas (.doe m) (some n) = true → s.isSecured (.doe m) n = true →
    keyOk st ks dir sub = true →
    Completes (.kSetStop (.doe m) n m st ks dir sub) s fun t =>
      SMap.get [] (t.ideOf m st).keys (keyIdx ks dir sub) = [] ∧
      (dir = 1 → (s.ideOf m st).uses ks dir sub = true → (t.ideOf m st).state = 0) ∧
      (∀ j, j ≠ st → t.ideOf m j = s.ideOf m j)) ∧
  (∀ (s : State) (m : HLink) (st : Fin 17), (s.ideOf m st).state = 2 →
    Completes (.ideFail m st) s fun t => (t.ideOf m st).state = 0 ∧ (t.ideOf m st).keys = [] ∧
      (t.rdW Reg.SEC_EVENT).toNat.testBit 10 = true ∧ (t.rdW Reg.SEC_EVENT).toNat.testBit 11 = true ∧
      (∀ sl ∈ s.streamTdis m st, t.tdi sl = 3)) ∧
  (∀ (s : State) (m : HLink) (n sl st : Nat) (id : List Byte), s.spdmHas (.doe m) (some n) = true →
    s.isSecured (.doe m) n = true → s.tdiOf m id = some sl → s.tdi sl = 0 → 1 ≤ st → st ≤ 16 → (s.ideOf m st).state = 2 →
    s.rngReady = true →
    Completes (.lockInterface (.doe m) n m id st) s fun t => t.tdi sl = 1 ∧ SMap.get 0 t.sec.tdiStream sl = st + 1 ∧
      (SMap.get [] t.sec.tdiNonce sl).length = 32 ∧ (t.rdW Reg.SEC_EVENT).toNat.testBit 13 = true ∧
      (∀ j, j ≠ sl → j < 1024 → t.tdi j = s.tdi j)) ∧
  (∀ (s : State) (m : HLink) (n sl : Nat) (id nonce : List Byte), s.spdmHas (.doe m) (some n) = true →
    s.isSecured (.doe m) n = true → s.tdiOf m id = some sl → s.tdi sl = 1 → nonce ≠ [] →
    SMap.get [] s.sec.tdiNonce sl = nonce →
    Completes (.startInterface (.doe m) n m id nonce) s fun t => t.tdi sl = 2 ∧ SMap.get [] t.sec.tdiNonce sl = [] ∧
      (t.rdW Reg.SEC_EVENT).toNat.testBit 13 = true) ∧
  (∀ (s : State) (m : HLink) (n sl : Nat) (id : List Byte), s.spdmHas (.doe m) (some n) = true →
    s.isSecured (.doe m) n = true → s.tdiOf m id = some sl →
    Completes (.stopInterface (.doe m) n m id) s fun t => t.tdi sl = 0 ∧ (t.slice sl).mbIn = [] ∧ (t.slice sl).mbOut = [] ∧
      SMap.get 0 t.sec.tdiStream sl = 0 ∧ (∀ e ∈ (t.link m).ats, e.sl ≠ sl)) ∧
  (∀ (s : State) (m : HLink) (n sl : Nat) (id : List Byte), s.spdmHas (.doe m) (some n) = true →
    s.isSecured (.doe m) n = true → s.tdiOf m id = some sl →
    Completes (.getDeviceInterfaceState (.doe m) n m id) s fun t =>
      t = (s.spdmTake (.doe m)).tdispSend (.doe m) n 0x05 id (leBytes 1 (s.tdi sl)) ∧
      (t.link m).spdm.out.length = (s.link m).spdm.out.length + 1)
end

