-- ==== Sys2Proof/Laws/Map.lean ====
section
/-! SUPPORT. Laws of sparse maps: reading after writing, and the canonical form. -/

namespace Sys2Proof.Machine

variable {α : Type}

@[simp] theorem SMap.get_nil (d : α) (k : Nat) : SMap.get d [] k = d := rfl

theorem SMap.get_del_same (d : α) (m : SMap α) (k : Nat) : SMap.get d (SMap.del m k) k = d := by
  induction m with
  | nil => rfl
  | cons e m ih => obtain ⟨j, v⟩ := e; by_cases h : j = k <;> simp [SMap.del, SMap.get, h, ih]

theorem SMap.get_del_other (d : α) (m : SMap α) {k j : Nat} (h : j ≠ k) :
    SMap.get d (SMap.del m k) j = SMap.get d m j := by
  induction m with
  | nil => rfl
  | cons e m ih =>
    obtain ⟨i, v⟩ := e
    by_cases hi : i = k
    · subst hi; simp [SMap.del, SMap.get, ih, Ne.symm h]
    · by_cases hj : i = j
      · subst hj; simp [SMap.del, SMap.get, hi]
      · simp [SMap.del, SMap.get, hi, hj, ih]

theorem SMap.get_ins_same (d : α) (m : SMap α) (k : Nat) (v : α) : SMap.get d (SMap.ins m k v) k = v := by
  induction m with
  | nil => simp [SMap.ins, SMap.get]
  | cons e m ih =>
    obtain ⟨j, w⟩ := e
    simp only [SMap.ins]
    split
    · simp [SMap.get]
    · split
      · simp [SMap.get]
      · rename_i h _; simp [SMap.get, h, ih]

theorem SMap.get_ins_other (d : α) (m : SMap α) {k j : Nat} (v : α) (h : j ≠ k) :
    SMap.get d (SMap.ins m k v) j = SMap.get d m j := by
  induction m with
  | nil => simp [SMap.ins, SMap.get, Ne.symm h]
  | cons e m ih =>
    obtain ⟨i, w⟩ := e
    simp only [SMap.ins]
    split
    · rename_i hi; subst hi; simp [SMap.get, Ne.symm h]
    · split
      · simp [SMap.get, Ne.symm h]
      · by_cases hj : i = j <;> simp [SMap.get, hj, ih]

@[simp] theorem SMap.get_put_same [DecidableEq α] (d : α) (m : SMap α) (k : Nat) (v : α) :
    SMap.get d (SMap.put d m k v) k = v := by
  simp only [SMap.put]; split
  · subst_vars; exact SMap.get_del_same _ _ _
  · exact SMap.get_ins_same _ _ _ _

@[simp] theorem SMap.get_upd_same [DecidableEq α] (d : α) (m : SMap α) (k : Nat) (f : α → α) :
    SMap.get d (SMap.upd d m k f) k = f (SMap.get d m k) := SMap.get_put_same _ _ _ _

theorem SMap.get_put_other [DecidableEq α] (d d' : α) (m : SMap α) {k j : Nat} (v : α) (h : j ≠ k) :
    SMap.get d (SMap.put d' m k v) j = SMap.get d m j := by
  simp only [SMap.put]; split
  · exact SMap.get_del_other _ _ h
  · exact SMap.get_ins_other _ _ _ h

theorem SMap.get_upd_other [DecidableEq α] (d : α) (m : SMap α) {k j : Nat} (f : α → α) (h : j ≠ k) :
    SMap.get d (SMap.upd d m k f) j = SMap.get d m j := SMap.get_put_other _ _ _ _ h

/-- Reading a map after a write, at any key. -/
theorem SMap.get_put [DecidableEq α] (d : α) (m : SMap α) (k j : Nat) (v : α) :
    SMap.get d (SMap.put d m k v) j = if j = k then v else SMap.get d m j := by
  split
  · subst_vars; exact SMap.get_put_same _ _ _ _
  · exact SMap.get_put_other _ _ _ _ (by assumption)

theorem SMap.get_keep (d : α) (p : Nat → Bool) (m : SMap α) (k : Nat) :
    SMap.get d (SMap.keep p m) k = if p k = true then SMap.get d m k else d := by
  induction m with
  | nil => simp [SMap.keep]
  | cons e m ih =>
    obtain ⟨j, v⟩ := e
    unfold SMap.keep at ih ⊢
    by_cases hp : p j = true
    · rw [List.filter_cons_of_pos (by simpa using hp)]
      by_cases hj : j = k
      · subst hj; simp [SMap.get, hp]
      · simp [SMap.get, hj, ih]
    · rw [List.filter_cons_of_neg (by simpa using hp)]
      by_cases hj : j = k
      · subst hj; simp [hp, ih]
      · simp [SMap.get, hj, ih]

/-! ## The canonical form -/

/-- Keys strictly rising, and every entry away from the value an unlisted key reads as. -/
theorem SMap.wf_iff [DecidableEq α] (d : Nat → α) (m : SMap α) :
    SMap.wf d m = true ↔ m.Pairwise (fun a b => a.1 < b.1) ∧ ∀ e ∈ m, e.2 ≠ d e.1 := by
  induction m with
  | nil => simp [SMap.wf]
  | cons e m ih =>
    obtain ⟨k, v⟩ := e
    cases m with
    | nil => simp [SMap.wf]
    | cons e' m =>
      obtain ⟨j, w⟩ := e'
      simp only [SMap.wf, Bool.and_eq_true, decide_eq_true_eq, ih, List.pairwise_cons, List.mem_cons,
        forall_eq_or_imp]
      constructor
      · rintro ⟨⟨h1, h2⟩, ⟨h3, h4⟩, h5, h6⟩
        exact ⟨⟨⟨h2, fun a ha => lt_trans h2 (h3 a ha)⟩, h3, h4⟩, h1, h5, h6⟩
      · rintro ⟨⟨⟨h1, _⟩, h3, h4⟩, h5, h6, h7⟩
        exact ⟨⟨h5, h1⟩, ⟨h3, h4⟩, h6, h7⟩

theorem SMap.wf_nil [DecidableEq α] (d : Nat → α) : SMap.wf d [] = true := rfl

theorem SMap.wf_sublist [DecidableEq α] {d : Nat → α} {m m' : SMap α} (h : m'.Sublist m) (w : SMap.wf d m = true) :
    SMap.wf d m' = true := by
  rw [SMap.wf_iff] at *
  exact ⟨w.1.sublist h, fun e he => w.2 e (h.subset he)⟩

theorem SMap.wf_filter [DecidableEq α] {d : Nat → α} {m : SMap α} (p : Nat × α → Bool) (w : SMap.wf d m = true) :
    SMap.wf d (m.filter p) = true := SMap.wf_sublist (List.filter_sublist) w

theorem SMap.del_sublist (m : SMap α) (k : Nat) : (SMap.del m k).Sublist m := by
  induction m with
  | nil => exact List.Sublist.slnil
  | cons e m ih =>
    obtain ⟨j, v⟩ := e
    simp only [SMap.del]; split
    · exact ih.cons _
    · exact ih.cons_cons _

theorem SMap.mem_ins {m : SMap α} {k : Nat} {v : α} {e : Nat × α} (h : e ∈ SMap.ins m k v) : e = (k, v) ∨ e ∈ m := by
  induction m with
  | nil => simpa [SMap.ins] using h
  | cons e' m ih =>
    obtain ⟨j, w⟩ := e'
    simp only [SMap.ins] at h
    split at h
    · rcases List.mem_cons.1 h with h | h
      · exact .inl h
      · exact .inr (List.mem_cons_of_mem _ h)
    · split at h
      · rcases List.mem_cons.1 h with h | h
        · exact .inl h
        · exact .inr h
      · rcases List.mem_cons.1 h with h | h
        · exact .inr (h ▸ List.mem_cons_self)
        · exact (ih h).imp id (List.mem_cons_of_mem _)

theorem SMap.wf_ins [DecidableEq α] {d : Nat → α} {m : SMap α} {k : Nat} {v : α} (hv : v ≠ d k)
    (w : SMap.wf d m = true) : SMap.wf d (SMap.ins m k v) = true := by
  rw [SMap.wf_iff] at *
  obtain ⟨w1, w2⟩ := w
  refine ⟨?_, fun e he => ?_⟩
  · clear w2
    induction m with
    | nil => simp [SMap.ins]
    | cons e m ih =>
      obtain ⟨j, x⟩ := e
      rw [List.pairwise_cons] at w1
      simp only [SMap.ins]
      split
      · rename_i h; subst h; exact List.pairwise_cons.2 ⟨w1.1, w1.2⟩
      · split
        · rename_i h
          refine List.pairwise_cons.2 ⟨fun a ha => ?_, List.pairwise_cons.2 w1⟩
          rcases List.mem_cons.1 ha with ha | ha
          · exact ha ▸ h
          · exact lt_trans h (w1.1 a ha)
        · refine List.pairwise_cons.2 ⟨fun a ha => ?_, ih w1.2⟩
          rcases SMap.mem_ins ha with ha | ha
          · subst ha; rename_i h1 h2; exact lt_of_le_of_ne (not_lt.1 h2) h1
          · exact w1.1 a ha
  · rcases SMap.mem_ins he with h | h
    · exact h ▸ hv
    · exact w2 e h

theorem SMap.wf_put [DecidableEq α] {d : Nat → α} {m : SMap α} (k : Nat) (v : α) (w : SMap.wf d m = true) :
    SMap.wf d (SMap.put (d k) m k v) = true := by
  simp only [SMap.put]; split
  · exact SMap.wf_sublist (SMap.del_sublist _ _) w
  · exact SMap.wf_ins (by assumption) w

end Sys2Proof.Machine
end

