-- ==== Sys2Proof/Laws/Frame.lean ====
section
/-! SUPPORT. How a change of the state is told: the parts it may change, as a mask, and that it keeps the invariants of the
register images and of the trouble log's queue. The relation composes, so one lemma for each operation serves every
operation built from it. -/

namespace Sys2Proof.Machine

/-- The number of a part: its place among the fields of `State`. -/
def Part.idx : Part → Nat
  | .pending => 0 | .ticks => 1 | .aon => 2 | .aonLeft => 3 | .core => 4 | .coreQ => 5 | .regs => 6 | .gen => 7
  | .staged => 8 | .latches => 9 | .heldWr => 10 | .tk => 11 | .log => 12 | .calBad => 13 | .pails => 14 | .banks => 15
  | .repairDue => 16 | .units => 17 | .groups => 18 | .spares => 19 | .chans => 20 | .slices => 21 | .ports => 22
  | .links => 23 | .um => 24 | .pw => 25 | .rs => 26 | .cl => 27 | .tw => 28 | .sec => 29 | .flash => 30 | .image => 31
  | .fresh => 32 | .out => 33 | .hot => 34 | .eg => 35 | .calDue => 36

/-- From `s` to `t` only parts of the mask `A` change, and the invariants stand. -/
structure Within (A : Nat) (s t : State) : Prop where
  same  : ∀ p : Part, A.testBit p.idx = false → State.same p s t
  canon : s.canon = true → t.canon = true
  queue : s.queueOk → t.queueOk

theorem State.same_refl (p : Part) (s : State) : State.same p s s := by cases p <;> rfl

theorem State.same_trans {p : Part} {s t u : State} (h : State.same p s t) (h' : State.same p t u) : State.same p s u := by
  cases p <;> exact Eq.trans h' h

theorem Within.refl (A : Nat) (s : State) : Within A s s := ⟨fun p _ => State.same_refl p s, id, id⟩

theorem Within.trans {A : Nat} {s t u : State} (h : Within A s t) (h' : Within A t u) : Within A s u :=
  ⟨fun p hp => State.same_trans (h.same p hp) (h'.same p hp), h'.canon ∘ h.canon, h'.queue ∘ h.queue⟩

theorem Within.mono {A B : Nat} {s t : State} (h : Within B s t) (hBA : B &&& A = B) : Within A s t :=
  ⟨fun p hp => h.same p (by
    have := congrArg (fun n => n.testBit p.idx) hBA
    simp only [Nat.testBit_and, hp, Bool.and_false] at this
    exact this.symm), h.canon, h.queue⟩

/-- A change within `B`, a part of `A`, follows one within `A`. -/
theorem Within.step {A B : Nat} {s t u : State} (h' : Within B t u) (hBA : B &&& A = B) (h : Within A s t) : Within A s u :=
  h.trans (h'.mono hBA)

theorem mask_trans {A B C : Nat} (h : C &&& B = C) (h' : B &&& A = B) : C &&& A = C := by
  rw [← h, Nat.and_assoc, h', h]

theorem Within.ite {A : Nat} {s t u : State} {c : Prop} [Decidable c] (h : Within A s t) (h' : Within A s u) :
    Within A s (if c then t else u) := by split <;> assumption

theorem Within.foldl {A : Nat} {α : Type} {s t : State} {f : State → α → State} (l : List α)
    (hf : ∀ u x, Within A s u → Within A s (f u x)) (h : Within A s t) : Within A s (l.foldl f t) := by
  induction l generalizing t with
  | nil => exact h
  | cons x l ih => exact ih (hf t x h)

/-- What a meaning answers, if it answers a next state. -/
def WithinR (A : Nat) (s : State) (r : Res) : Prop := ∀ t, r = .next t → Within A s t

theorem WithinR.ite {A : Nat} {s : State} {r r' : Res} {c : Prop} [Decidable c] (h : WithinR A s r) (h' : WithinR A s r') :
    WithinR A s (if c then r else r') := by split <;> assumption

theorem Within.next {A : Nat} {s t : State} (h : Within A s t) : WithinR A s (.next t) := fun _ e => by cases e; exact h

theorem WithinR.fault (A : Nat) (s : State) (r : Fault) : WithinR A s (.fault r) := fun _ e => nomatch e

theorem Within.frame {A : Nat} {s t : State} (h : Within A s t) {ps : List Part}
    (hp : ∀ p : Part, p ∉ ps → A.testBit p.idx = false) : Frame ps s t := fun p hn => h.same p (hp p hn)

theorem logFill_append (a b : List LogWait) : logFill (a ++ b) = logFill a + logFill b := by
  simp [logFill, List.filter_append]

theorem logFill_cons_le (w : LogWait) (q : List LogWait) : logFill (w :: q) ≤ logFill q + 1 := by
  simp only [logFill, List.filter_cons]; split <;> simp

theorem logFill_logSeqs (n : Nat) (q : List LogWait) : logFill (logSeqs n q) = logFill q := by
  induction q generalizing n with
  | nil => rfl
  | cons w q ih =>
    have := ih (n + 1)
    simp only [logFill, logSeqs, List.filter_cons] at this ⊢
    split <;> simp [this]

theorem logFill_logTail (tc r : Nat) (q : List LogWait) :
    logFill (logTail tc r q).1 + logFill (logTail tc r q).2 = logFill q := by
  induction q with
  | nil => rfl
  | cons w q ih =>
    have h1 : logFill (w :: q) = logFill [w] + logFill q := logFill_append [w] q
    simp only [logTail]
    split
    · rename_i h
      rw [h.1] at ih
      have h2 : logFill (w :: (logTail tc r q).2) = logFill [w] + logFill (logTail tc r q).2 := logFill_append [w] _
      have h3 : logFill [] = 0 := rfl
      simp only [h3] at ih ⊢
      omega
    · have h2 : logFill (w :: (logTail tc r q).1) = logFill [w] + logFill (logTail tc r q).1 := logFill_append [w] _
      simp only
      omega

theorem State.canon_regs {s : State} (h : s.canon = true) : SMap.wf rstW s.regs = true := by
  simp only [State.canon, Bool.and_eq_true] at h; exact h.1.1

theorem State.canon_gen {s : State} (h : s.canon = true) : SMap.wf rstG s.gen = true := by
  simp only [State.canon, Bool.and_eq_true] at h; exact h.1.2

theorem State.canon_staged {s : State} (h : s.canon = true) : SMap.wf rstG s.staged = true := by
  simp only [State.canon, Bool.and_eq_true] at h; exact h.2

theorem Within.set_regs {A : Nat} {s t : State} {x : SMap Word} (hA : A.testBit 6 = true)
    (hx : t.canon = true → SMap.wf rstW x = true) (h : Within A s t) : Within A s { t with regs := x } :=
  h.trans ⟨fun p hp => by cases p <;> first | rfl | exact absurd hA (by simpa [Part.idx] using hp),
    fun c => by
      simp only [State.canon, Bool.and_eq_true]
      exact ⟨⟨hx c, State.canon_gen c⟩, State.canon_staged c⟩, id⟩

theorem Within.set_gen {A : Nat} {s t : State} {x : SMap Word} (hA : A.testBit 7 = true)
    (hx : t.canon = true → SMap.wf rstG x = true) (h : Within A s t) : Within A s { t with gen := x } :=
  h.trans ⟨fun p hp => by cases p <;> first | rfl | exact absurd hA (by simpa [Part.idx] using hp),
    fun c => by
      simp only [State.canon, Bool.and_eq_true]
      exact ⟨⟨State.canon_regs c, hx c⟩, State.canon_staged c⟩, id⟩

theorem Within.set_staged {A : Nat} {s t : State} {x : SMap Word} (hA : A.testBit 8 = true)
    (hx : t.canon = true → SMap.wf rstG x = true) (h : Within A s t) : Within A s { t with staged := x } :=
  h.trans ⟨fun p hp => by cases p <;> first | rfl | exact absurd hA (by simpa [Part.idx] using hp),
    fun c => by
      simp only [State.canon, Bool.and_eq_true]
      exact ⟨⟨State.canon_regs c, State.canon_gen c⟩, hx c⟩, id⟩

/-- A change of the trouble log alone that is told from the first state. -/
theorem Within.set_log0 {A : Nat} {s t : State} {x : TroubleLog} (hA : A.testBit 12 = true)
    (hq : s.queueOk → logFill x.queue ≤ 256) (h : Within A s t) : Within A s { t with log := x } :=
  ⟨fun p hp => State.same_trans (h.same p hp)
    (by cases p <;> first | rfl | exact absurd hA (by simpa [Part.idx] using hp)), h.canon, hq⟩

/-- A change of the trouble log alone, after which no more than 256 places are taken. -/
theorem Within.set_log {A : Nat} {s t : State} {x : TroubleLog} (hA : A.testBit 12 = true)
    (hq : t.queueOk → logFill x.queue ≤ 256) (h : Within A s t) : Within A s { t with log := x } :=
  h.trans ⟨fun p hp => by cases p <;> first | rfl | exact absurd hA (by simpa [Part.idx] using hp), id, hq⟩

theorem Within.cut (A : Nat) (s x : State) {P : Prop} (hx : Within A s x) (k : Within A s x → P) : P := k hx

/-- The state of a meaning's answer with a further result keeps `Within`. -/
def WithinP {α : Type} (A : Nat) (s : State) (p : State × α) : Prop := ∀ t x, p = (t, x) → Within A s t

/-- The same where the further result stands first. -/
def WithinQ {α : Type} (A : Nat) (s : State) (p : α × State) : Prop := ∀ t x, p = (x, t) → Within A s t

/-- What an operation that may find nothing to do gives, if it gives a state. -/
def WithinO {α : Type} (A : Nat) (s : State) (o : Option (State × α)) : Prop := ∀ t x, o = some (t, x) → Within A s t

theorem WithinP.ite {α : Type} {A : Nat} {s : State} {p q : State × α} {c : Prop} [Decidable c] (h : WithinP A s p)
    (h' : WithinP A s q) : WithinP A s (if c then p else q) := by split <;> assumption

theorem WithinQ.ite {α : Type} {A : Nat} {s : State} {p q : α × State} {c : Prop} [Decidable c] (h : WithinQ A s p)
    (h' : WithinQ A s q) : WithinQ A s (if c then p else q) := by split <;> assumption

theorem Within.pair {α : Type} {A : Nat} {s t : State} {x : α} (h : Within A s t) : WithinP A s (t, x) :=
  fun _ _ e => by cases e; exact h

theorem Within.pairQ {α : Type} {A : Nat} {s t : State} {x : α} (h : Within A s t) : WithinQ A s (x, t) :=
  fun _ _ e => by cases e; exact h

theorem WithinP.step {α : Type} {A B : Nat} {s t : State} {p : State × α} (h' : WithinP B t p) (hBA : B &&& A = B)
    (h : Within A s t) : WithinP A s p := fun u x e => Within.step (h' u x e) hBA h

theorem WithinQ.step {α : Type} {A B : Nat} {s t : State} {p : α × State} (h' : WithinQ B t p) (hBA : B &&& A = B)
    (h : Within A s t) : WithinQ A s p := fun u x e => Within.step (h' u x e) hBA h

theorem WithinR.step {A B : Nat} {s t : State} {r : Res} (h' : WithinR B t r) (hBA : B &&& A = B) (h : Within A s t) :
    WithinR A s r := fun u e => Within.step (h' u e) hBA h

theorem WithinP.cut {α : Type} (A : Nat) (s : State) (x : State × α) {P : Prop} (hx : WithinP A s x) (k : WithinP A s x → P) :
    P := k hx

theorem WithinP.fst {α : Type} {A : Nat} {s : State} {p : State × α} (h : WithinP A s p) : Within A s p.1 := h _ _ rfl

theorem WithinQ.snd {α : Type} {A : Nat} {s : State} {p : α × State} (h : WithinQ A s p) : Within A s p.2 := h _ _ rfl

theorem WithinP.out {α : Type} {A : Nat} {s t : State} {p : State × α} {x : α} (h : WithinP A s p) (e : p = (t, x)) :
    Within A s t := h _ _ e

theorem WithinQ.out {α : Type} {A : Nat} {s t : State} {p : α × State} {x : α} (h : WithinQ A s p) (e : p = (x, t)) :
    Within A s t := h _ _ e

/-- A change of parts of `A` that leaves the register images and the trouble log alone. -/
theorem Within.upd {A : Nat} {s t t' : State} (_e : t'.pending = t.pending)
    (hp : ∀ p : Part, A.testBit p.idx = false → State.same p t t') (hc : t.canon = true → t'.canon = true)
    (hq : t.queueOk → t'.queueOk) (h : Within A s t) : Within A s t' :=
  h.trans ⟨hp, hc, hq⟩

theorem Within.set_pending {A : Nat} {s t : State} {x} (hA : A.testBit 0 = true) (h : Within A s t) :
    Within A s { t with pending := x } :=
  h.trans ⟨fun p hp => by cases p <;> first | rfl | exact absurd hA (by simpa [Part.idx] using hp), id, id⟩

theorem Within.set_ticks {A : Nat} {s t : State} {x} (hA : A.testBit 1 = true) (h : Within A s t) :
    Within A s { t with ticks := x } :=
  h.trans ⟨fun p hp => by cases p <;> first | rfl | exact absurd hA (by simpa [Part.idx] using hp), id, id⟩

theorem Within.set_aon {A : Nat} {s t : State} {x} (hA : A.testBit 2 = true) (h : Within A s t) :
    Within A s { t with aon := x } :=
  h.trans ⟨fun p hp => by cases p <;> first | rfl | exact absurd hA (by simpa [Part.idx] using hp), id, id⟩

theorem Within.set_aonLeft {A : Nat} {s t : State} {x} (hA : A.testBit 3 = true) (h : Within A s t) :
    Within A s { t with aonLeft := x } :=
  h.trans ⟨fun p hp => by cases p <;> first | rfl | exact absurd hA (by simpa [Part.idx] using hp), id, id⟩

theorem Within.set_core {A : Nat} {s t : State} {x} (hA : A.testBit 4 = true) (h : Within A s t) :
    Within A s { t with core := x } :=
  h.trans ⟨fun p hp => by cases p <;> first | rfl | exact absurd hA (by simpa [Part.idx] using hp), id, id⟩

theorem Within.set_coreQ {A : Nat} {s t : State} {x} (hA : A.testBit 5 = true) (h : Within A s t) :
    Within A s { t with coreQ := x } :=
  h.trans ⟨fun p hp => by cases p <;> first | rfl | exact absurd hA (by simpa [Part.idx] using hp), id, id⟩

theorem Within.set_latches {A : Nat} {s t : State} {x} (hA : A.testBit 9 = true) (h : Within A s t) :
    Within A s { t with latches := x } :=
  h.trans ⟨fun p hp => by cases p <;> first | rfl | exact absurd hA (by simpa [Part.idx] using hp), id, id⟩

theorem Within.set_heldWr {A : Nat} {s t : State} {x} (hA : A.testBit 10 = true) (h : Within A s t) :
    Within A s { t with heldWr := x } :=
  h.trans ⟨fun p hp => by cases p <;> first | rfl | exact absurd hA (by simpa [Part.idx] using hp), id, id⟩

theorem Within.set_tk {A : Nat} {s t : State} {x} (hA : A.testBit 11 = true) (h : Within A s t) :
    Within A s { t with tk := x } :=
  h.trans ⟨fun p hp => by cases p <;> first | rfl | exact absurd hA (by simpa [Part.idx] using hp), id, id⟩

theorem Within.set_calBad {A : Nat} {s t : State} {x} (hA : A.testBit 13 = true) (h : Within A s t) :
    Within A s { t with calBad := x } :=
  h.trans ⟨fun p hp => by cases p <;> first | rfl | exact absurd hA (by simpa [Part.idx] using hp), id, id⟩

theorem Within.set_pails {A : Nat} {s t : State} {x} (hA : A.testBit 14 = true) (h : Within A s t) :
    Within A s { t with pails := x } :=
  h.trans ⟨fun p hp => by cases p <;> first | rfl | exact absurd hA (by simpa [Part.idx] using hp), id, id⟩

theorem Within.set_banks {A : Nat} {s t : State} {x} (hA : A.testBit 15 = true) (h : Within A s t) :
    Within A s { t with banks := x } :=
  h.trans ⟨fun p hp => by cases p <;> first | rfl | exact absurd hA (by simpa [Part.idx] using hp), id, id⟩

theorem Within.set_repairDue {A : Nat} {s t : State} {x} (hA : A.testBit 16 = true) (h : Within A s t) :
    Within A s { t with repairDue := x } :=
  h.trans ⟨fun p hp => by cases p <;> first | rfl | exact absurd hA (by simpa [Part.idx] using hp), id, id⟩

theorem Within.set_units {A : Nat} {s t : State} {x} (hA : A.testBit 17 = true) (h : Within A s t) :
    Within A s { t with units := x } :=
  h.trans ⟨fun p hp => by cases p <;> first | rfl | exact absurd hA (by simpa [Part.idx] using hp), id, id⟩

theorem Within.set_groups {A : Nat} {s t : State} {x} (hA : A.testBit 18 = true) (h : Within A s t) :
    Within A s { t with groups := x } :=
  h.trans ⟨fun p hp => by cases p <;> first | rfl | exact absurd hA (by simpa [Part.idx] using hp), id, id⟩

theorem Within.set_spares {A : Nat} {s t : State} {x} (hA : A.testBit 19 = true) (h : Within A s t) :
    Within A s { t with spares := x } :=
  h.trans ⟨fun p hp => by cases p <;> first | rfl | exact absurd hA (by simpa [Part.idx] using hp), id, id⟩

theorem Within.set_chans {A : Nat} {s t : State} {x} (hA : A.testBit 20 = true) (h : Within A s t) :
    Within A s { t with chans := x } :=
  h.trans ⟨fun p hp => by cases p <;> first | rfl | exact absurd hA (by simpa [Part.idx] using hp), id, id⟩

theorem Within.set_slices {A : Nat} {s t : State} {x} (hA : A.testBit 21 = true) (h : Within A s t) :
    Within A s { t with slices := x } :=
  h.trans ⟨fun p hp => by cases p <;> first | rfl | exact absurd hA (by simpa [Part.idx] using hp), id, id⟩

theorem Within.set_ports {A : Nat} {s t : State} {x} (hA : A.testBit 22 = true) (h : Within A s t) :
    Within A s { t with ports := x } :=
  h.trans ⟨fun p hp => by cases p <;> first | rfl | exact absurd hA (by simpa [Part.idx] using hp), id, id⟩

theorem Within.set_links {A : Nat} {s t : State} {x} (hA : A.testBit 23 = true) (h : Within A s t) :
    Within A s { t with links := x } :=
  h.trans ⟨fun p hp => by cases p <;> first | rfl | exact absurd hA (by simpa [Part.idx] using hp), id, id⟩

theorem Within.set_um {A : Nat} {s t : State} {x} (hA : A.testBit 24 = true) (h : Within A s t) :
    Within A s { t with um := x } :=
  h.trans ⟨fun p hp => by cases p <;> first | rfl | exact absurd hA (by simpa [Part.idx] using hp), id, id⟩

theorem Within.set_pw {A : Nat} {s t : State} {x} (hA : A.testBit 25 = true) (h : Within A s t) :
    Within A s { t with pw := x } :=
  h.trans ⟨fun p hp => by cases p <;> first | rfl | exact absurd hA (by simpa [Part.idx] using hp), id, id⟩

theorem Within.set_rs {A : Nat} {s t : State} {x} (hA : A.testBit 26 = true) (h : Within A s t) :
    Within A s { t with rs := x } :=
  h.trans ⟨fun p hp => by cases p <;> first | rfl | exact absurd hA (by simpa [Part.idx] using hp), id, id⟩

theorem Within.set_cl {A : Nat} {s t : State} {x} (hA : A.testBit 27 = true) (h : Within A s t) :
    Within A s { t with cl := x } :=
  h.trans ⟨fun p hp => by cases p <;> first | rfl | exact absurd hA (by simpa [Part.idx] using hp), id, id⟩

theorem Within.set_tw {A : Nat} {s t : State} {x} (hA : A.testBit 28 = true) (h : Within A s t) :
    Within A s { t with tw := x } :=
  h.trans ⟨fun p hp => by cases p <;> first | rfl | exact absurd hA (by simpa [Part.idx] using hp), id, id⟩

theorem Within.set_sec {A : Nat} {s t : State} {x} (hA : A.testBit 29 = true) (h : Within A s t) :
    Within A s { t with sec := x } :=
  h.trans ⟨fun p hp => by cases p <;> first | rfl | exact absurd hA (by simpa [Part.idx] using hp), id, id⟩

theorem Within.set_flash {A : Nat} {s t : State} {x} (hA : A.testBit 30 = true) (h : Within A s t) :
    Within A s { t with flash := x } :=
  h.trans ⟨fun p hp => by cases p <;> first | rfl | exact absurd hA (by simpa [Part.idx] using hp), id, id⟩

theorem Within.set_image {A : Nat} {s t : State} {x} (hA : A.testBit 31 = true) (h : Within A s t) :
    Within A s { t with image := x } :=
  h.trans ⟨fun p hp => by cases p <;> first | rfl | exact absurd hA (by simpa [Part.idx] using hp), id, id⟩

theorem Within.set_fresh {A : Nat} {s t : State} {x} (hA : A.testBit 32 = true) (h : Within A s t) :
    Within A s { t with fresh := x } :=
  h.trans ⟨fun p hp => by cases p <;> first | rfl | exact absurd hA (by simpa [Part.idx] using hp), id, id⟩

theorem Within.set_out {A : Nat} {s t : State} {x} (hA : A.testBit 33 = true) (h : Within A s t) :
    Within A s { t with out := x } :=
  h.trans ⟨fun p hp => by cases p <;> first | rfl | exact absurd hA (by simpa [Part.idx] using hp), id, id⟩

theorem Within.set_hot {A : Nat} {s t : State} {x} (hA : A.testBit 34 = true) (h : Within A s t) :
    Within A s { t with hot := x } :=
  h.trans ⟨fun p hp => by cases p <;> first | rfl | exact absurd hA (by simpa [Part.idx] using hp), id, id⟩

theorem Within.set_eg {A : Nat} {s t : State} {x} (hA : A.testBit 35 = true) (h : Within A s t) :
    Within A s { t with eg := x } :=
  h.trans ⟨fun p hp => by cases p <;> first | rfl | exact absurd hA (by simpa [Part.idx] using hp), id, id⟩

theorem Within.set_calDue {A : Nat} {s t : State} {x} (hA : A.testBit 36 = true) (h : Within A s t) :
    Within A s { t with calDue := x } :=
  h.trans ⟨fun p hp => by cases p <;> first | rfl | exact absurd hA (by simpa [Part.idx] using hp), id, id⟩

end Sys2Proof.Machine
end

