-- ==== Sys2Proof/Laws/InPcie.lean ====
section
/-! SUPPORT. What the operations of Machine/Pcie.lean may change. -/

namespace Sys2Proof.Machine

set_option linter.unusedTactic false
set_option linter.unreachableTactic false

theorem State.updLink_in (s a1 a2) : Within 8388608 s (State.updLink s a1 a2) := by
  unfold State.updLink
  repeat' first
    | with_reducible exact .refl _ _ | with_reducible assumption 
    | with_reducible refine Within.set_links rfl ?_

end Sys2Proof.Machine
end

