-- ==== Sys2Proof/Laws/InOps.lean ====
section
/-! SUPPORT. What the operations of Machine/Ops.lean may change. -/

namespace Sys2Proof.Machine

set_option linter.unusedTactic false
set_option linter.unreachableTactic false

theorem State.wrW_in (s a1 a2) : Within 64 s (State.wrW s a1 a2) :=
  ⟨fun p hp => by cases p <;> first| rfl| exact absurd hp (by decide),
    fun h => by
      simp only [State.canon, Bool.and_eq_true, State.wrW] at h ⊢
      exact ⟨⟨SMap.wf_put _ _ h.1.1, h.1.2⟩, h.2⟩, id⟩

theorem State.setFld_in (s a1 a2 a3) : Within 64 s (State.setFld s a1 a2 a3) := by
  unfold State.setFld
  repeat' first
    | with_reducible exact .refl _ _ | with_reducible assumption 
    | (with_reducible apply Within.step (State.wrW_in _ _ _); decide)

theorem State.heat_in (s a1 a2) : Within 17179869184 s (State.heat s a1 a2) := by
  unfold State.heat
  repeat' first
    | with_reducible exact .refl _ _ | with_reducible assumption  | with_reducible refine Within.set_hot rfl ?_

theorem State.addCnt_in (s a1 a2 a3) : Within 17179869248 s (State.addCnt s a1 a2 a3) := by
  unfold State.addCnt
  repeat' first
    | with_reducible exact .refl _ _ | with_reducible assumption 
    | (with_reducible apply Within.step (State.heat_in _ _ _); decide)
    | (with_reducible apply Within.step (State.wrW_in _ _ _); decide)

theorem State.cnt_in (s a1) : Within 17179869248 s (State.cnt s a1) := by
  unfold State.cnt
  repeat' first
    | with_reducible exact .refl _ _ | with_reducible assumption 
    | (with_reducible apply Within.step (State.addCnt_in _ _ _ _); decide)

theorem State.logPut_in (s a1) : Within 17179873344 s (State.logPut s a1) := by
  unfold State.logPut
  split
  · exact Within.step (State.cnt_in ..) rfl (Within.set_log rfl id (.refl _ _))
  · rename_i hf
    have hf : logFill s.log.queue < 256 := not_le.1 hf
    dsimp only
    split
    · refine Within.step (State.wrW_in ..) rfl (Within.set_log rfl (fun _ => ?_) (.refl _ _))
      have := logFill_cons_le
        ⟨{ a1 with seq := ((s.rdW Reg.LOG_SEQ).toNat + 1) % 2 ^ 32 }, s.ticks⟩ []
      simp only [logFill_append]
      have h1 : ∀ e : LogEntry, e.kind = 13 → ∀ l, logFill (⟨e, s.ticks⟩ :: l) = logFill l := by
        intro e he l; simp [logFill, he]
      rw [h1 _ rfl]
      have h0 : logFill [] = 0 := rfl
      omega
    · refine Within.step (State.wrW_in ..) rfl (Within.set_log rfl (fun _ => ?_) (.refl _ _))
      have h1 := logFill_logTail s.ticks (logRank a1) s.log.queue
      have h2 := logFill_cons_le ⟨a1, s.ticks⟩ (logTail s.ticks (logRank a1) s.log.queue).2
      simp only [logFill_append, logFill_logSeqs]
      omega

theorem State.emit_in (s a1) : Within 8589934592 s (State.emit s a1) := by
  unfold State.emit
  repeat' first
    | with_reducible exact .refl _ _ | with_reducible assumption  | with_reducible refine Within.set_out rfl ?_

theorem State.recCor_in (s a1 a2) : Within 8598323200 s (State.recCor s a1 a2) := by
  unfold State.recCor
  repeat' first
    | with_reducible exact .refl _ _ | with_reducible assumption | ((try lift_lets -underBinder); intro x; first
    | (refine Within.cut 8598323200 s x ?_ ?_; (on_goal 1 => unfold x); (on_goal 2 => (intro hx; clear_value x)))
    | clear_value x) | with_reducible apply Within.ite
    | (with_reducible apply Within.step (State.updLink_in _ _ _); decide)
    | (with_reducible apply Within.step (State.emit_in _ _); decide) | split

theorem State.recUnc_in (s a1 a2 a3) : Within 8598323200 s (State.recUnc s a1 a2 a3) := by
  unfold State.recUnc
  repeat' first
    | with_reducible exact .refl _ _ | with_reducible assumption | ((try lift_lets -underBinder); intro x; first
    | (refine Within.cut 8598323200 s x ?_ ?_; (on_goal 1 => unfold x); (on_goal 2 => (intro hx; clear_value x)))
    | clear_value x) | with_reducible apply Within.ite
    | (with_reducible apply Within.step (State.updLink_in _ _ _); decide)
    | (with_reducible apply Within.step (State.emit_in _ _); decide)
    | (with_reducible refine Within.foldl _ (fun x y hx => ?_) ?_) | split

theorem State.rose_in (s a1 a2) : Within 17179869184 s (State.rose s a1 a2) := by
  unfold State.rose
  repeat' first
    | with_reducible exact .refl _ _ | with_reducible assumption 
    | (with_reducible apply Within.step (State.heat_in _ _ _); decide)

theorem State.setBitsOf_in (s a1 a2) : Within 17179869248 s (State.setBitsOf s a1 a2) := by
  unfold State.setBitsOf
  repeat' first
    | with_reducible exact .refl _ _ | with_reducible assumption 
    | (with_reducible apply Within.step (State.heat_in _ _ _); decide)
    | (with_reducible apply Within.step (State.wrW_in _ _ _); decide)

theorem State.signal_in (s a1 a2) : Within 8388608 s (State.signal s a1 a2) := by
  unfold State.signal
  repeat' first
    | with_reducible exact .refl _ _ | with_reducible assumption | ((try lift_lets -underBinder); intro x; first
    | (refine Within.cut 8388608 s x ?_ ?_; (on_goal 1 => unfold x); (on_goal 2 => (intro hx; clear_value x)))
    | clear_value x) | with_reducible apply Within.ite
    | (with_reducible apply Within.step (State.updLink_in _ _ _); decide) | split

theorem State.raiseActs_in (a0 s a2 a3 a4) : Within 25778196544 s (State.raiseActs a0 s a2 a3 a4) := by
  induction a0 generalizing s a2 a3 a4 with
  | zero => 
    unfold State.raiseActs
    try dsimp -zeta only
    repeat' first
      | with_reducible exact .refl _ _ | with_reducible assumption
      | ((try lift_lets -underBinder); intro x; first
      | (refine Within.cut 25778196544 s x ?_ ?_; (on_goal 1 => unfold x); (on_goal 2 => (intro hx; clear_value x)))
      | clear_value x) | with_reducible apply Within.ite
      | (with_reducible apply Within.step (State.rose_in _ _ _); decide)
      | (with_reducible apply Within.step (State.setBitsOf_in _ _ _); decide)
      | (with_reducible apply Within.step (State.setFld_in _ _ _ _); decide)
      | (with_reducible apply Within.step (State.signal_in _ _ _); decide)
      | (with_reducible apply Within.step (State.logPut_in _ _); decide)
      | (with_reducible apply Within.step (State.recUnc_in _ _ _ _); decide)
      | (with_reducible apply Within.step (State.recCor_in _ _ _); decide)
      | (with_reducible apply Within.step (State.cnt_in _ _); decide)
      | (with_reducible apply Within.step (ih _ _ _ _); decide) | split | dsimp -zeta only
  | succ n ih =>
    unfold State.raiseActs
    try dsimp -zeta only
    repeat' first
      | with_reducible exact .refl _ _ | with_reducible assumption
      | ((try lift_lets -underBinder); intro x; first
      | (refine Within.cut 25778196544 s x ?_ ?_; (on_goal 1 => unfold x); (on_goal 2 => (intro hx; clear_value x)))
      | clear_value x) | with_reducible apply Within.ite
      | (with_reducible apply Within.step (State.rose_in _ _ _); decide)
      | (with_reducible apply Within.step (State.setBitsOf_in _ _ _); decide)
      | (with_reducible apply Within.step (State.setFld_in _ _ _ _); decide)
      | (with_reducible apply Within.step (State.signal_in _ _ _); decide)
      | (with_reducible apply Within.step (State.logPut_in _ _); decide)
      | (with_reducible apply Within.step (State.recUnc_in _ _ _ _); decide)
      | (with_reducible apply Within.step (State.recCor_in _ _ _); decide)
      | (with_reducible apply Within.step (State.cnt_in _ _); decide)
      | (with_reducible apply Within.step (ih _ _ _ _); decide) | split | dsimp -zeta only

theorem State.occurBit_in (s a1 a2 a3 a4) : Within 25778196544 s (State.occurBit s a1 a2 a3 a4) := by
  unfold State.occurBit
  repeat' first
    | with_reducible exact .refl _ _ | with_reducible assumption | ((try lift_lets -underBinder); intro x; first
    | (refine Within.cut 25778196544 s x ?_ ?_; (on_goal 1 => unfold x); (on_goal 2 => (intro hx; clear_value x)))
    | clear_value x) | with_reducible apply Within.ite
    | (with_reducible apply Within.step (State.heat_in _ _ _); decide)
    | (with_reducible apply Within.step (State.setBitsOf_in _ _ _); decide)
    | (with_reducible apply Within.step (State.cnt_in _ _); decide)
    | (with_reducible apply Within.step (State.raiseActs_in _ _ _ _ _); decide)
    | (with_reducible apply Within.step (State.rose_in _ _ _); decide) | split

theorem State.evHl_in (s a1 a2) : Within 25778196544 s (State.evHl s a1 a2) := by
  unfold State.evHl
  repeat' first
    | with_reducible exact .refl _ _ | with_reducible assumption 
    | (with_reducible apply Within.step (State.occurBit_in _ _ _ _ _); decide)

theorem State.aerUnc_in (s a1 a2 a3) : Within 25778196544 s (State.aerUnc s a1 a2 a3) := by
  unfold State.aerUnc
  repeat' first
    | with_reducible exact .refl _ _ | with_reducible assumption 
    | (with_reducible apply Within.step (State.evHl_in _ _ _); decide)
    | (with_reducible apply Within.step (State.recUnc_in _ _ _ _); decide)

theorem State.logKind_in (s a1 a2) : Within 17179873344 s (State.logKind s a1 a2) := by
  unfold State.logKind
  repeat' first
    | with_reducible exact .refl _ _ | with_reducible assumption | with_reducible apply Within.ite
    | (with_reducible apply Within.step (State.logPut_in _ _); decide) | split

theorem State.takeFree_in (s) : WithinQ 4294967296 s (State.takeFree s) := by
  unfold State.takeFree
  repeat' first
    | with_reducible exact .refl _ _ | with_reducible assumption  | with_reducible refine Within.pairQ ?_
    | with_reducible refine Within.set_fresh rfl ?_

theorem State.occur_in (s a1) : Within 25778196544 s (State.occur s a1) := by
  unfold State.occur
  repeat' first
    | with_reducible exact .refl _ _ | with_reducible assumption | ((try lift_lets -underBinder); intro x; first
    | (refine Within.cut 25778196544 s x ?_ ?_; (on_goal 1 => unfold x); (on_goal 2 => (intro hx; clear_value x)))
    | clear_value x) | with_reducible apply Within.ite
    | (with_reducible apply Within.step (State.cnt_in _ _); decide)
    | (with_reducible apply Within.step (State.setBitsOf_in _ _ _); decide)
    | (with_reducible apply Within.step (State.raiseActs_in _ _ _ _ _); decide) | split

theorem State.evUm_in (s a1) : Within 25778196544 s (State.evUm s a1) := by
  unfold State.evUm
  repeat' first
    | with_reducible exact .refl _ _ | with_reducible assumption 
    | (with_reducible apply Within.step (State.occur_in _ _); decide)

theorem State.evTl_in (s a1) : Within 25778196544 s (State.evTl s a1) := by
  unfold State.evTl
  repeat' first
    | with_reducible exact .refl _ _ | with_reducible assumption 
    | (with_reducible apply Within.step (State.occur_in _ _); decide)

theorem State.aerCor_in (s a1 a2) : Within 25778196544 s (State.aerCor s a1 a2) := by
  unfold State.aerCor
  repeat' first
    | with_reducible exact .refl _ _ | with_reducible assumption 
    | (with_reducible apply Within.step (State.evHl_in _ _ _); decide)
    | (with_reducible apply Within.step (State.recCor_in _ _ _); decide)

theorem State.aerTlp_in (s a1 a2) : Within 30073163840 s (State.aerTlp s a1 a2) := by
  unfold State.aerTlp
  repeat' first
    | with_reducible exact .refl _ _ | with_reducible assumption 
    | refine Within.step (WithinQ.out (State.takeFree_in _) (by assumption)) (by decide) ?_
    | (with_reducible apply Within.step (WithinQ.snd (State.takeFree_in _)); decide)
    | (with_reducible apply Within.step (State.aerUnc_in _ _ _ _); decide) | split | dsimp -zeta only

theorem State.evAl_in (s a1 a2) : Within 25778196544 s (State.evAl s a1 a2) := by
  unfold State.evAl
  repeat' first
    | with_reducible exact .refl _ _ | with_reducible assumption 
    | (with_reducible apply Within.step (State.occurBit_in _ _ _ _ _); decide)

theorem State.setRepairDue_in (s a1) : Within 65536 s (State.setRepairDue s a1) := by
  unfold State.setRepairDue
  repeat' first
    | with_reducible exact .refl _ _ | with_reducible assumption 
    | with_reducible refine Within.set_repairDue rfl ?_

theorem State.evVat_in (s a1 a2) : Within 25778196544 s (State.evVat s a1 a2) := by
  unfold State.evVat
  repeat' first
    | with_reducible exact .refl _ _ | with_reducible assumption 
    | (with_reducible apply Within.step (State.occurBit_in _ _ _ _ _); decide)

theorem State.setW1c_in (s a1 a2) : Within 17179869248 s (State.setW1c s a1 a2) := by
  unfold State.setW1c
  repeat' first
    | with_reducible exact .refl _ _ | with_reducible assumption 
    | (with_reducible apply Within.step (State.setBitsOf_in _ _ _); decide)

theorem State.dropStaged_in (s) : Within 256 s (State.dropStaged s) :=
  ⟨fun p hp => by cases p <;> first| rfl| exact absurd hp (by decide),
    fun h => by
      simp only [State.canon, Bool.and_eq_true, State.dropStaged] at h ⊢
      exact ⟨h.1, SMap.wf_nil _⟩, id⟩

theorem State.setLatches_in (s a1) : Within 512 s (State.setLatches s a1) := by
  unfold State.setLatches
  repeat' first
    | with_reducible exact .refl _ _ | with_reducible assumption 
    | with_reducible refine Within.set_latches rfl ?_

theorem State.setLog_in (s a1) (h : s.queueOk → logFill a1.queue ≤ 256) : Within 4096 s (State.setLog s a1) :=
  Within.set_log0 (by decide) h (.refl _ _)

theorem State.storeError_in (s a1 a2) : Within 25778196544 s (State.storeError s a1 a2) := by
  unfold State.storeError
  repeat' first
    | with_reducible exact .refl _ _ | with_reducible assumption | ((try lift_lets -underBinder); intro x; first
    | (refine Within.cut 25778196544 s x ?_ ?_; (on_goal 1 => unfold x); (on_goal 2 => (intro hx; clear_value x)))
    | clear_value x) | with_reducible apply Within.ite
    | (with_reducible apply Within.step (State.cnt_in _ _); decide)
    | (with_reducible apply Within.step (State.evUm_in _ _); decide) | split

theorem State.storeErrors_in (s a1 a2) : WithinP 25778196544 s (State.storeErrors s a1 a2) := by
  induction a2 generalizing s a1 with
  | nil => exact Within.pair (.refl _ _)
  | cons x l ih =>
    unfold State.storeErrors
    try dsimp -zeta only
    repeat' first
      | with_reducible exact .refl _ _ | with_reducible assumption | with_reducible apply Within.ite
      | with_reducible refine Within.pair ?_ | with_reducible apply WithinP.ite
      | (with_reducible apply Within.step (State.storeError_in _ _ _); decide)
      | (with_reducible apply Within.step (ih _ _); decide)
      | (with_reducible apply WithinP.step (ih _ _); decide)
      | (with_reducible apply Within.step (WithinP.fst (ih _ _)); decide)
      | refine Within.step (WithinP.out (ih _ _) (by assumption)) (by decide) ?_ | split | dsimp -zeta only

theorem State.setHeldWr_in (s a1) : Within 1024 s (State.setHeldWr s a1) := by
  unfold State.setHeldWr
  repeat' first
    | with_reducible exact .refl _ _ | with_reducible assumption 
    | with_reducible refine Within.set_heldWr rfl ?_

theorem State.raiseAgain_in (s a1 a2 a3) : Within 25778196544 s (State.raiseAgain s a1 a2 a3) := by
  induction a3 generalizing s a1 a2 with
  | nil => exact .refl _ _
  | cons x l ih =>
    unfold State.raiseAgain
    try dsimp -zeta only
    repeat' first
      | with_reducible exact .refl _ _ | with_reducible assumption | with_reducible apply Within.ite
      | (with_reducible apply Within.step (State.raiseActs_in _ _ _ _ _); decide)
      | (with_reducible apply Within.step (State.rose_in _ _ _); decide)
      | (with_reducible apply Within.step (ih _ _ _); decide) | split | dsimp -zeta only

theorem State.wrS_in (s a1 a2) : Within 256 s (State.wrS s a1 a2) :=
  ⟨fun p hp => by cases p <;> first| rfl| exact absurd hp (by decide),
    fun h => by
      simp only [State.canon, Bool.and_eq_true, State.wrS] at h ⊢
      exact ⟨h.1, SMap.wf_put _ _ h.2⟩, id⟩

theorem State.sendPending_in (s a1) : Within 8388608 s (State.sendPending s a1) := by
  unfold State.sendPending
  repeat' first
    | with_reducible exact .refl _ _ | with_reducible assumption | ((try lift_lets -underBinder); intro x; first
    | (refine Within.cut 8388608 s x ?_ ?_; (on_goal 1 => unfold x); (on_goal 2 => (intro hx; clear_value x)))
    | clear_value x)  | (with_reducible apply Within.step (State.updLink_in _ _ _); decide)

theorem State.evCh_in (s a1 a2) : Within 25778196544 s (State.evCh s a1 a2) := by
  unfold State.evCh
  repeat' first
    | with_reducible exact .refl _ _ | with_reducible assumption 
    | (with_reducible apply Within.step (State.occurBit_in _ _ _ _ _); decide)

theorem State.keepRegs_in (s a1) : Within 64 s (State.keepRegs s a1) :=
  ⟨fun p hp => by cases p <;> first| rfl| exact absurd hp (by decide),
    fun h => by
      simp only [State.canon, Bool.and_eq_true, State.keepRegs] at h ⊢
      exact ⟨⟨SMap.wf_filter _ h.1.1, h.1.2⟩, h.2⟩, id⟩

theorem State.keepImages_in (s a1) : Within 384 s (State.keepImages s a1) :=
  ⟨fun p hp => by cases p <;> first| rfl| exact absurd hp (by decide),
    fun h => by
      simp only [State.canon, Bool.and_eq_true, State.keepImages] at h ⊢
      exact ⟨⟨h.1.1, SMap.wf_filter _ h.1.2⟩, SMap.wf_filter _ h.2⟩, id⟩

theorem State.setChans_in (s a1) : Within 1048576 s (State.setChans s a1) := by
  unfold State.setChans
  repeat' first
    | with_reducible exact .refl _ _ | with_reducible assumption 
    | with_reducible refine Within.set_chans rfl ?_

theorem State.setSlices_in (s a1) : Within 2097152 s (State.setSlices s a1) := by
  unfold State.setSlices
  repeat' first
    | with_reducible exact .refl _ _ | with_reducible assumption 
    | with_reducible refine Within.set_slices rfl ?_

theorem State.copyActive_in (s) : Within 256 s (State.copyActive s) :=
  ⟨fun p hp => by cases p <;> first| rfl| exact absurd hp (by decide),
    fun h => by
      simp only [State.canon, Bool.and_eq_true, State.copyActive] at h ⊢
      exact ⟨h.1, h.1.2⟩, id⟩

theorem State.wrWide_in (s a1 a2) : Within 64 s (State.wrWide s a1 a2) := by
  induction a2 generalizing s a1 with
  | nil => exact .refl _ _
  | cons x l ih =>
    unfold State.wrWide
    try dsimp -zeta only
    repeat' first
      | with_reducible exact .refl _ _ | with_reducible assumption 
      | (with_reducible apply Within.step (State.wrW_in _ _ _); decide)
      | (with_reducible apply Within.step (ih _ _); decide) | split | dsimp -zeta only

theorem State.setLinks_in (s a1) : Within 8388608 s (State.setLinks s a1) := by
  unfold State.setLinks
  repeat' first
    | with_reducible exact .refl _ _ | with_reducible assumption 
    | with_reducible refine Within.set_links rfl ?_

theorem State.promote_in (s) : Within 384 s (State.promote s) :=
  ⟨fun p hp => by cases p <;> first| rfl| exact absurd hp (by decide),
    fun h => by
      simp only [State.canon, Bool.and_eq_true, State.promote] at h ⊢
      exact ⟨⟨h.1.1, h.2⟩, SMap.wf_nil _⟩, id⟩

theorem State.updFlash_in (s a1) : Within 1073741824 s (State.updFlash s a1) := by
  unfold State.updFlash
  repeat' first
    | with_reducible exact .refl _ _ | with_reducible assumption 
    | with_reducible refine Within.set_flash rfl ?_

theorem State.setImage_in (s a1) : Within 2147483648 s (State.setImage s a1) := by
  unfold State.setImage
  repeat' first
    | with_reducible exact .refl _ _ | with_reducible assumption 
    | with_reducible refine Within.set_image rfl ?_

theorem State.setPails_in (s a1) : Within 16384 s (State.setPails s a1) := by
  unfold State.setPails
  repeat' first
    | with_reducible exact .refl _ _ | with_reducible assumption 
    | with_reducible refine Within.set_pails rfl ?_

theorem State.wrG_in (s a1 a2) : Within 128 s (State.wrG s a1 a2) :=
  ⟨fun p hp => by cases p <;> first| rfl| exact absurd hp (by decide),
    fun h => by
      simp only [State.canon, Bool.and_eq_true, State.wrG] at h ⊢
      exact ⟨⟨h.1.1, SMap.wf_put _ _ h.1.2⟩, h.2⟩, id⟩

end Sys2Proof.Machine
end

