-- ==== Sys2Proof/Laws/InVat.lean ====
section
/-! SUPPORT. What the operations of Machine/Vat.lean may change. -/

namespace Sys2Proof.Machine

set_option linter.unusedTactic false
set_option linter.unreachableTactic false

theorem State.updPail_in (s a1 a2) : Within 16384 s (State.updPail s a1 a2) := by
  unfold State.updPail
  repeat' first
    | with_reducible exact .refl _ _ | with_reducible assumption 
    | with_reducible refine Within.set_pails rfl ?_

theorem State.freePail_in (s a1) : Within 16384 s (State.freePail s a1) := by
  unfold State.freePail
  repeat' first
    | with_reducible exact .refl _ _ | with_reducible assumption 
    | (with_reducible apply Within.step (State.updPail_in _ _ _); decide)

theorem State.vatDrop_in (s a1 a2) : Within 25778212928 s (State.vatDrop s a1 a2) := by
  unfold State.vatDrop
  repeat' first
    | with_reducible exact .refl _ _ | with_reducible assumption | ((try lift_lets -underBinder); intro x; first
    | (refine Within.cut 25778212928 s x ?_ ?_; (on_goal 1 => unfold x); (on_goal 2 => (intro hx; clear_value x)))
    | clear_value x) | with_reducible apply Within.ite
    | (with_reducible apply Within.step (State.updPail_in _ _ _); decide)
    | (with_reducible apply Within.step (State.cnt_in _ _); decide)
    | (with_reducible apply Within.step (State.evTl_in _ _); decide)
    | (with_reducible apply Within.step (State.evVat_in _ _ _); decide) | split

theorem State.showPend_in (s a1) : Within 64 s (State.showPend s a1) := by
  unfold State.showPend
  repeat' first
    | with_reducible exact .refl _ _ | with_reducible assumption 
    | (with_reducible apply Within.step (State.setFld_in _ _ _ _); decide)

theorem State.updBank_in (s a1 a2) : Within 32768 s (State.updBank s a1 a2) := by
  unfold State.updBank
  repeat' first
    | with_reducible exact .refl _ _ | with_reducible assumption 
    | with_reducible refine Within.set_banks rfl ?_

theorem State.queueRemap_in (s a1 a2) : Within 25778229312 s (State.queueRemap s a1 a2) := by
  unfold State.queueRemap
  repeat' first
    | with_reducible exact .refl _ _ | with_reducible assumption | with_reducible apply Within.ite
    | (with_reducible apply Within.step (State.evVat_in _ _ _); decide)
    | (with_reducible apply Within.step (State.logKind_in _ _ _); decide)
    | (with_reducible apply Within.step (State.showPend_in _ _); decide)
    | (with_reducible apply Within.step (State.updBank_in _ _ _); decide) | split

theorem State.rprReq_in (s a1) : Within 25778229312 s (State.rprReq s a1) := by
  unfold State.rprReq
  repeat' first
    | with_reducible exact .refl _ _ | with_reducible assumption | ((try lift_lets -underBinder); intro x; first
    | (refine Within.cut 25778229312 s x ?_ ?_; (on_goal 1 => unfold x); (on_goal 2 => (intro hx; clear_value x)))
    | clear_value x) | with_reducible apply Within.ite
    | (with_reducible apply Within.step (State.queueRemap_in _ _ _); decide)
    | (with_reducible apply Within.step (State.updBank_in _ _ _); decide)
    | (with_reducible apply Within.step (State.showPend_in _ _); decide)
    | (with_reducible apply Within.step (State.evVat_in _ _ _); decide)
    | (with_reducible apply Within.step (State.logKind_in _ _ _); decide) | split

theorem State.expectIn_in (s a1 a2) : Within 16384 s (State.expectIn s a1 a2) := by
  induction a2 generalizing s a1 with
  | nil => exact .refl _ _
  | cons x l ih =>
    unfold State.expectIn
    try dsimp -zeta only
    repeat' first
      | with_reducible exact .refl _ _ | with_reducible assumption | with_reducible apply Within.ite
      | (with_reducible apply Within.step (State.updPail_in _ _ _); decide)
      | (with_reducible apply Within.step (ih _ _); decide) | split | dsimp -zeta only

theorem State.rowWritten_in (s a1 a2) : Within 32768 s (State.rowWritten s a1 a2) := by
  unfold State.rowWritten
  repeat' first
    | with_reducible exact .refl _ _ | with_reducible assumption | with_reducible apply Within.ite
    | (with_reducible apply Within.step (State.updBank_in _ _ _); decide) | split

theorem State.commitBlock_in (s a1 a2 a3 a4 a5) : Within 49152 s (State.commitBlock s a1 a2 a3 a4 a5) := by
  unfold State.commitBlock
  repeat' first
    | with_reducible exact .refl _ _ | with_reducible assumption | ((try lift_lets -underBinder); intro x; first
    | (refine Within.cut 49152 s x ?_ ?_; (on_goal 1 => unfold x); (on_goal 2 => (intro hx; clear_value x)))
    | clear_value x) | with_reducible apply Within.ite
    | (with_reducible apply Within.step (State.updPail_in _ _ _); decide)
    | (with_reducible apply Within.step (State.rowWritten_in _ _ _); decide)
    | (with_reducible apply Within.step (State.expectIn_in _ _ _); decide)
    | (with_reducible apply Within.step (State.freePail_in _ _); decide)
    | (with_reducible refine Within.foldl _ (fun x y hx => ?_) ?_) | split | dsimp -zeta only

theorem State.partialPoison_in (s a1 a2 a3 a4) : Within 25778196544 s (State.partialPoison s a1 a2 a3 a4) := by
  unfold State.partialPoison
  repeat' first
    | with_reducible exact .refl _ _ | with_reducible assumption | ((try lift_lets -underBinder); intro x; first
    | (refine Within.cut 25778196544 s x ?_ ?_; (on_goal 1 => unfold x); (on_goal 2 => (intro hx; clear_value x)))
    | clear_value x)  | (with_reducible apply Within.step (State.setFld_in _ _ _ _); decide)
    | (with_reducible apply Within.step (State.cnt_in _ _); decide)
    | (with_reducible apply Within.step (State.evVat_in _ _ _); decide) | split | dsimp -zeta only

theorem State.poisonAt_in (s a1 a2) : Within 16384 s (State.poisonAt s a1 a2) := by
  unfold State.poisonAt
  repeat' first
    | with_reducible exact .refl _ _ | with_reducible assumption | with_reducible apply Within.ite
    | (with_reducible apply Within.step (State.updPail_in _ _ _); decide) | split

theorem State.suspect_in (s a1 a2) : Within 25778229312 s (State.suspect s a1 a2) := by
  unfold State.suspect
  repeat' first
    | with_reducible exact .refl _ _ | with_reducible assumption | with_reducible apply Within.ite
    | (with_reducible apply Within.step (State.updBank_in _ _ _); decide)
    | (with_reducible apply Within.step (State.queueRemap_in _ _ _); decide) | split | dsimp -zeta only

theorem State.vatError_in (s a1 a2 a3) : Within 25778229312 s (State.vatError s a1 a2 a3) := by
  unfold State.vatError
  repeat' first
    | with_reducible exact .refl _ _ | with_reducible assumption | ((try lift_lets -underBinder); intro x; first
    | (refine Within.cut 25778229312 s x ?_ ?_; (on_goal 1 => unfold x); (on_goal 2 => (intro hx; clear_value x)))
    | clear_value x) | with_reducible apply Within.ite
    | (with_reducible apply Within.step (State.cnt_in _ _); decide)
    | (with_reducible apply Within.step (State.setFld_in _ _ _ _); decide)
    | (with_reducible apply Within.step (State.evVat_in _ _ _); decide)
    | (with_reducible apply Within.step (State.suspect_in _ _ _); decide) | split

theorem State.writeErrors_in (s a1 a2 a3 a4) : WithinP 25778245696 s (State.writeErrors s a1 a2 a3 a4) := by
  induction a4 generalizing s a1 a2 a3 with
  | nil => exact Within.pair (.refl _ _)
  | cons x l ih =>
    unfold State.writeErrors
    try dsimp -zeta only
    repeat' first
      | with_reducible exact .refl _ _ | with_reducible assumption
      | ((try lift_lets -underBinder); intro x; first
      | (refine Within.cut 25778245696 s x ?_ ?_; (on_goal 1 => unfold x); (on_goal 2 => (intro hx; clear_value x)))
      | clear_value x) | with_reducible apply Within.ite | with_reducible refine Within.pair ?_
      | with_reducible apply WithinP.ite
      | (with_reducible apply Within.step (State.vatError_in _ _ _ _); decide)
      | (with_reducible apply Within.step (State.suspect_in _ _ _); decide)
      | (with_reducible apply Within.step (State.poisonAt_in _ _ _); decide)
      | (with_reducible apply Within.step (ih _ _ _ _); decide)
      | (with_reducible apply WithinP.step (ih _ _ _ _); decide)
      | (with_reducible apply Within.step (WithinP.fst (ih _ _ _ _)); decide)
      | refine Within.step (WithinP.out (ih _ _ _ _) (by assumption)) (by decide) ?_ | split | dsimp -zeta only

theorem State.writeBlock_in (s a1 a2 a3 a4 a5 a6) : Within 25778245696 s (State.writeBlock s a1 a2 a3 a4 a5 a6) := by
  unfold State.writeBlock
  repeat' first
    | with_reducible exact .refl _ _ | with_reducible assumption | ((try lift_lets -underBinder); intro x; first
    | (refine Within.cut 25778245696 s x ?_ ?_; (on_goal 1 => unfold x); (on_goal 2 => (intro hx; clear_value x)))
    | clear_value x) | with_reducible apply Within.ite
    | refine Within.step (WithinP.out (State.writeErrors_in _ _ _ _ _) (by assumption)) (by decide) ?_
    | (with_reducible apply Within.step (WithinP.fst (State.writeErrors_in _ _ _ _ _)); decide)
    | (with_reducible apply Within.step (State.partialPoison_in _ _ _ _ _); decide)
    | (with_reducible apply Within.step (State.cnt_in _ _); decide)
    | (with_reducible apply Within.step (State.commitBlock_in _ _ _ _ _ _); decide) | split | dsimp -zeta only

theorem State.commitGood_in (s a1 a2 a3) : Within 25778245696 s (State.commitGood s a1 a2 a3) := by
  unfold State.commitGood
  repeat' first
    | with_reducible exact .refl _ _ | with_reducible assumption 
    | (with_reducible apply Within.step (State.writeBlock_in _ _ _ _ _ _ _); decide)

theorem State.commitArrival_in (s a1 a2 a3) : WithinP 25778245696 s (State.commitArrival s a1 a2 a3) := by
  unfold State.commitArrival
  split
  · exact Within.pair (.refl _ _)
  · exact Within.pair (Within.step (State.vatDrop_in ..) (by decide) (.refl _ _))
  · generalize s.commitTest a1 a2.h0 = o
    cases o with
    | none => exact Within.pair (Within.step (State.commitGood_in ..) (by decide) (.refl _ _))
    | some code => exact Within.pair (Within.step (State.vatDrop_in ..) (by decide) (.refl _ _))

theorem State.keepPoison_in (s a1 a2 a3) : Within 16384 s (State.keepPoison s a1 a2 a3) := by
  unfold State.keepPoison
  repeat' first
    | with_reducible exact .refl _ _ | with_reducible assumption | with_reducible apply Within.ite
    | (with_reducible apply Within.step (State.updPail_in _ _ _); decide)
    | (with_reducible refine Within.foldl _ (fun x y hx => ?_) ?_) | split

theorem State.readErrors_in (s a1 a2 a3) : WithinP 25778229312 s (State.readErrors s a1 a2 a3) := by
  induction a3 generalizing s a1 a2 with
  | nil => exact Within.pair (.refl _ _)
  | cons x l ih =>
    unfold State.readErrors
    try dsimp -zeta only
    repeat' first
      | with_reducible exact .refl _ _ | with_reducible assumption | with_reducible apply Within.ite
      | with_reducible refine Within.pair ?_ | with_reducible apply WithinP.ite
      | (with_reducible apply Within.step (State.vatError_in _ _ _ _); decide)
      | (with_reducible apply Within.step (ih _ _ _); decide)
      | (with_reducible apply WithinP.step (ih _ _ _); decide)
      | (with_reducible apply Within.step (WithinP.fst (ih _ _ _)); decide)
      | refine Within.step (WithinP.out (ih _ _ _) (by assumption)) (by decide) ?_ | split | dsimp -zeta only

theorem State.freeTick_in (s) : Within 16384 s (State.freeTick s) := by
  unfold State.freeTick
  repeat' first
    | with_reducible exact .refl _ _ | with_reducible assumption | with_reducible apply Within.ite
    | (with_reducible apply Within.step (State.freePail_in _ _); decide)
    | (with_reducible refine Within.foldl _ (fun x y hx => ?_) ?_) | split | dsimp -zeta only

theorem execBankInitComplete_in (a0 s) : WithinR 32832 s (execBankInitComplete a0 s) := by
  unfold execBankInitComplete
  repeat' first
    | with_reducible exact .refl _ _ | with_reducible assumption | with_reducible apply Within.ite
    | with_reducible refine Within.next ?_ | with_reducible exact WithinR.fault _ _ _
    | with_reducible apply WithinR.ite | (with_reducible apply Within.step (State.setFld_in _ _ _ _); decide)
    | (with_reducible apply Within.step (State.updBank_in _ _ _); decide) | split | dsimp -zeta only

theorem execBlockHeaderArrival_in (a0 s) : WithinR 25778212928 s (execBlockHeaderArrival a0 s) := by
  unfold execBlockHeaderArrival
  repeat' first
    | with_reducible exact .refl _ _ | with_reducible assumption | ((try lift_lets -underBinder); intro x; first
    | (refine Within.cut 25778212928 s x ?_ ?_; (on_goal 1 => unfold x); (on_goal 2 => (intro hx; clear_value x)))
    | clear_value x)  | with_reducible refine Within.next ?_ | with_reducible exact WithinR.fault _ _ _
    | (with_reducible apply Within.step (State.updPail_in _ _ _); decide)
    | (with_reducible apply Within.step (State.vatDrop_in _ _ _); decide) | split | dsimp -zeta only

theorem execRemapApply_in (a0 s) : WithinR 25778294848 s (execRemapApply a0 s) := by
  unfold execRemapApply
  repeat' first
    | with_reducible exact .refl _ _ | with_reducible assumption | ((try lift_lets -underBinder); intro x; first
    | (refine Within.cut 25778294848 s x ?_ ?_; (on_goal 1 => unfold x); (on_goal 2 => (intro hx; clear_value x)))
    | clear_value x) | with_reducible apply Within.ite | with_reducible refine Within.next ?_
    | with_reducible exact WithinR.fault _ _ _ | with_reducible apply WithinR.ite
    | (with_reducible apply Within.step (State.showPend_in _ _); decide)
    | (with_reducible apply Within.step (State.updBank_in _ _ _); decide)
    | (with_reducible apply Within.step (State.setW1c_in _ _ _); decide)
    | (with_reducible apply Within.step (State.evVat_in _ _ _); decide)
    | (with_reducible apply Within.step (State.logKind_in _ _ _); decide)
    | (with_reducible apply Within.step (State.setFld_in _ _ _ _); decide)
    | (with_reducible apply Within.step (State.setRepairDue_in _ _); decide) | split | dsimp -zeta only

theorem execVatRprReq_in (a0 s) : WithinR 25778229312 s (execVatRprReq a0 s) := by
  unfold execVatRprReq
  repeat' first
    | with_reducible exact .refl _ _ | with_reducible assumption  | with_reducible refine Within.next ?_
    | with_reducible exact WithinR.fault _ _ _
    | (with_reducible apply Within.step (State.rprReq_in _ _); decide)

end Sys2Proof.Machine
end

