-- ==== Sys2Proof/Laws/InChurn.lean ====
section
/-! SUPPORT. What the operations of Machine/Churn.lean may change. -/

namespace Sys2Proof.Machine

set_option linter.unusedTactic false
set_option linter.unreachableTactic false

theorem State.updUnit_in (s a1 a2) : Within 131072 s (State.updUnit s a1 a2) := by
  unfold State.updUnit
  repeat' first
    | with_reducible exact .refl _ _ | with_reducible assumption 
    | with_reducible refine Within.set_units rfl ?_

theorem State.addCounts_in (s a1 a2) : Within 17179869248 s (State.addCounts s a1 a2) := by
  unfold State.addCounts
  repeat' first
    | with_reducible exact .refl _ _ | with_reducible assumption 
    | (with_reducible apply Within.step (State.addCnt_in _ _ _ _); decide)
    | (with_reducible refine Within.foldl _ (fun x y hx => ?_) ?_) | split | dsimp -zeta only

theorem State.missTx_in (s a1 a2) : Within 25778212928 s (State.missTx s a1 a2) := by
  unfold State.missTx
  repeat' first
    | with_reducible exact .refl _ _ | with_reducible assumption | ((try lift_lets -underBinder); intro x; first
    | (refine Within.cut 25778212928 s x ?_ ?_; (on_goal 1 => unfold x); (on_goal 2 => (intro hx; clear_value x)))
    | clear_value x) | with_reducible apply Within.ite
    | (with_reducible apply Within.step (State.evTl_in _ _); decide)
    | (with_reducible apply Within.step (State.updPail_in _ _ _); decide) | split

theorem State.updSpare_in (s a1 a2) : Within 524288 s (State.updSpare s a1 a2) := by
  unfold State.updSpare
  repeat' first
    | with_reducible exact .refl _ _ | with_reducible assumption 
    | with_reducible refine Within.set_spares rfl ?_

theorem State.spareDecide_in (s a1 a2 a3 a4) : Within 524352 s (State.spareDecide s a1 a2 a3 a4) := by
  unfold State.spareDecide
  repeat' first
    | with_reducible exact .refl _ _ | with_reducible assumption | ((try lift_lets -underBinder); intro x; first
    | (refine Within.cut 524352 s x ?_ ?_; (on_goal 1 => unfold x); (on_goal 2 => (intro hx; clear_value x)))
    | clear_value x) | with_reducible apply Within.ite
    | (with_reducible apply Within.step (State.setFld_in _ _ _ _); decide)
    | (with_reducible apply Within.step (State.updSpare_in _ _ _); decide) | split

theorem State.stage_in (s a1 a2) : Within 256 s (State.stage s a1 a2) := by
  unfold State.stage
  repeat' first
    | with_reducible exact .refl _ _ | with_reducible assumption 
    | (with_reducible apply Within.step (State.wrS_in _ _ _); decide) | split | dsimp -zeta only

theorem State.chFault_in (s a1 a2 a3) : Within 25778196544 s (State.chFault s a1 a2 a3) := by
  unfold State.chFault
  repeat' first
    | with_reducible exact .refl _ _ | with_reducible assumption | ((try lift_lets -underBinder); intro x; first
    | (refine Within.cut 25778196544 s x ?_ ?_; (on_goal 1 => unfold x); (on_goal 2 => (intro hx; clear_value x)))
    | clear_value x)  | (with_reducible apply Within.step (State.setFld_in _ _ _ _); decide)
    | (with_reducible apply Within.step (State.evCh_in _ _ _); decide) | split | dsimp -zeta only

theorem State.missInvalid_in (s a1 a2) : Within 25778212928 s (State.missInvalid s a1 a2) := by
  unfold State.missInvalid
  repeat' first
    | with_reducible exact .refl _ _ | with_reducible assumption | ((try lift_lets -underBinder); intro x; first
    | (refine Within.cut 25778212928 s x ?_ ?_; (on_goal 1 => unfold x); (on_goal 2 => (intro hx; clear_value x)))
    | clear_value x) | with_reducible apply Within.ite
    | (with_reducible apply Within.step (State.evTl_in _ _); decide)
    | (with_reducible apply Within.step (State.updPail_in _ _ _); decide) | split

theorem State.pailFull_in (s a1 a2) : Within 16384 s (State.pailFull s a1 a2) := by
  unfold State.pailFull
  repeat' first
    | with_reducible exact .refl _ _ | with_reducible assumption 
    | (with_reducible apply Within.step (State.updPail_in _ _ _); decide)

theorem State.commitOut_in (s a1 a2 a3 a4) : Within 25778245696 s (State.commitOut s a1 a2 a3 a4) := by
  unfold State.commitOut
  split
  · exact .refl _ _
  · rename_i p _
    refine Within.ite ?_ ?_
    · exact Within.ite (Within.step (State.missTx_in ..) (by decide) (Within.step (State.vatDrop_in ..) (by decide) (.refl _ _)))
        (Within.step (State.vatDrop_in ..) (by decide) (.refl _ _))
    · split
      · exact Within.ite (Within.step (State.pailFull_in ..) (by decide) (.refl _ _))
          (Within.step (State.vatDrop_in ..) (by decide) (Within.step (State.pailFull_in ..) (by decide) (.refl _ _)))
      · exact Within.ite (Within.step (State.missInvalid_in ..) (by decide)
          (Within.step (State.vatDrop_in ..) (by decide) (Within.step (State.pailFull_in ..) (by decide) (.refl _ _))))
          (Within.step (State.vatDrop_in ..) (by decide) (Within.step (State.pailFull_in ..) (by decide) (.refl _ _)))
      · exact Within.step (State.vatDrop_in ..) (by decide) (Within.step (State.pailFull_in ..) (by decide) (.refl _ _))
      · have h : Within 25778245696 s (s.pailFull p false) := Within.step (State.pailFull_in ..) (by decide) (.refl _ _)
        dsimp only
        generalize (s.pailFull p false).commitTest p a4.h0 = o
        cases o with
        | none => exact Within.step (State.addCnt_in ..) (by decide) (Within.step (State.writeBlock_in ..) (by decide) h)
        | some code => exact Within.step (State.vatDrop_in ..) (by decide) h

theorem State.evChN_in (s a1 a2 a3) : Within 25778196544 s (State.evChN s a1 a2 a3) := by
  unfold State.evChN
  repeat' first
    | with_reducible exact .refl _ _ | with_reducible assumption | ((try lift_lets -underBinder); intro x; first
    | (refine Within.cut 25778196544 s x ?_ ?_; (on_goal 1 => unfold x); (on_goal 2 => (intro hx; clear_value x)))
    | clear_value x) | with_reducible apply Within.ite
    | (with_reducible apply Within.step (State.evCh_in _ _ _); decide)
    | (with_reducible apply Within.step (State.addCnt_in _ _ _ _); decide) | split

theorem State.inputErrors_in (s a1 a2) : WithinP 25778245696 s (State.inputErrors s a1 a2) := by
  induction a1 generalizing s a2 with
  | nil => exact Within.pair (.refl _ _)
  | cons x l ih =>
    rcases x with _ | ⟨x, y⟩
    all_goals
      unfold State.inputErrors
      try dsimp -zeta only
      repeat' first
        | with_reducible exact .refl _ _ | with_reducible assumption
        | ((try lift_lets -underBinder); intro x; first
        | (refine Within.cut 25778245696 s x ?_ ?_; (on_goal 1 => unfold x); (on_goal 2 => (intro hx; clear_value x)))
        | clear_value x) | with_reducible apply Within.ite | with_reducible refine Within.pair ?_
        | with_reducible apply WithinP.ite
        | refine Within.step (WithinP.out (State.readErrors_in _ _ _ _) (by assumption)) (by decide) ?_
        | (with_reducible apply WithinP.step (State.readErrors_in _ _ _ _); decide)
        | (with_reducible apply Within.step (WithinP.fst (State.readErrors_in _ _ _ _)); decide)
        | (with_reducible apply Within.step (State.cnt_in _ _); decide)
        | (with_reducible apply Within.step (State.keepPoison_in _ _ _ _); decide)
        | (with_reducible apply Within.step (ih _ _); decide)
        | (with_reducible apply WithinP.step (ih _ _); decide)
        | (with_reducible apply Within.step (WithinP.fst (ih _ _)); decide)
        | refine Within.step (WithinP.out (ih _ _) (by assumption)) (by decide) ?_ | split | dsimp -zeta only

theorem State.weightErrors_in (s a1 a2) : Within 17179869248 s (State.weightErrors s a1 a2) := by
  unfold State.weightErrors
  repeat' first
    | with_reducible exact .refl _ _ | with_reducible assumption 
    | (with_reducible apply Within.step (State.cnt_in _ _); decide)
    | (with_reducible refine Within.foldl _ (fun x y hx => ?_) ?_)

theorem State.commitPass_in (s a1 a2 a3) : Within 25778376768 s (State.commitPass s a1 a2 a3) := by
  unfold State.commitPass
  repeat' first
    | with_reducible exact .refl _ _ | with_reducible assumption | ((try lift_lets -underBinder); intro x; first
    | (refine Within.cut 25778376768 s x ?_ ?_; (on_goal 1 => unfold x); (on_goal 2 => (intro hx; clear_value x)))
    | clear_value x) | with_reducible apply Within.ite
    | refine Within.step (WithinP.out (State.inputErrors_in _ _ _) (by assumption)) (by decide) ?_
    | (with_reducible apply Within.step (WithinP.fst (State.inputErrors_in _ _ _)); decide)
    | (with_reducible apply Within.step (State.weightErrors_in _ _ _); decide)
    | (with_reducible apply Within.step (State.updUnit_in _ _ _); decide)
    | (with_reducible apply Within.step (State.evUm_in _ _); decide)
    | (with_reducible apply Within.step (State.cnt_in _ _); decide)
    | (with_reducible apply Within.step (State.addCounts_in _ _ _); decide)
    | (with_reducible apply Within.step (State.evChN_in _ _ _ _); decide)
    | (with_reducible apply Within.step (State.commitOut_in _ _ _ _ _); decide)
    | (with_reducible refine Within.foldl _ (fun x y hx => ?_) ?_) | split | dsimp -zeta only

theorem State.missAhead_in (s a1 a2) : Within 25778212928 s (State.missAhead s a1 a2) := by
  unfold State.missAhead
  repeat' first
    | with_reducible exact .refl _ _ | with_reducible assumption 
    | (with_reducible apply Within.step (State.updPail_in _ _ _); decide)
    | (with_reducible apply Within.step (State.missTx_in _ _ _); decide)

theorem State.passOver_in (s a1) : Within 25778196544 s (State.passOver s a1) := by
  unfold State.passOver
  repeat' first
    | with_reducible exact .refl _ _ | with_reducible assumption 
    | (with_reducible apply Within.step (State.evVat_in _ _ _); decide)
    | (with_reducible apply Within.step (State.cnt_in _ _); decide)

theorem State.spareAuto_in (s a1 a2) : Within 524352 s (State.spareAuto s a1 a2) := by
  unfold State.spareAuto
  repeat' first
    | with_reducible exact .refl _ _ | with_reducible assumption | ((try lift_lets -underBinder); intro x; first
    | (refine Within.cut 524352 s x ?_ ?_; (on_goal 1 => unfold x); (on_goal 2 => (intro hx; clear_value x)))
    | clear_value x) | with_reducible apply Within.ite
    | (with_reducible apply Within.step (State.spareDecide_in _ _ _ _ _); decide)
    | (with_reducible apply Within.step (State.wrW_in _ _ _); decide) | split

theorem State.takeInput_in (s a1 a2 a3) : WithinP 25778212928 s (State.takeInput s a1 a2 a3) := by
  unfold State.takeInput
  repeat' first
    | with_reducible exact .refl _ _ | with_reducible assumption | ((try lift_lets -underBinder); intro x; first
    | (refine Within.cut 25778212928 s x ?_ ?_; (on_goal 1 => unfold x); (on_goal 2 => (intro hx; clear_value x)))
    | clear_value x) | with_reducible apply Within.ite | with_reducible refine Within.pair ?_
    | with_reducible apply WithinP.ite | (with_reducible apply Within.step (State.passOver_in _ _); decide)
    | (with_reducible apply Within.step (State.freePail_in _ _); decide)
    | (with_reducible apply Within.step (State.updPail_in _ _ _); decide)
    | (with_reducible refine Within.foldl _ (fun x y hx => ?_) ?_) | split

theorem State.takeInputs_in (s a1 a2 a3) : WithinP 25778212928 s (State.takeInputs s a1 a2 a3) := by
  induction a3 generalizing s a1 a2 with
  | nil => exact Within.pair (.refl _ _)
  | cons x l ih =>
    rcases x with _ | x
    all_goals
      unfold State.takeInputs
      try dsimp -zeta only
      repeat' first
        | with_reducible exact .refl _ _ | with_reducible assumption  | with_reducible refine Within.pair ?_
        | refine Within.step (WithinP.out (State.takeInput_in _ _ _ _) (by assumption)) (by decide) ?_
        | (with_reducible apply WithinP.step (State.takeInput_in _ _ _ _); decide)
        | (with_reducible apply Within.step (WithinP.fst (State.takeInput_in _ _ _ _)); decide)
        | (with_reducible apply Within.step (ih _ _ _); decide)
        | (with_reducible apply WithinP.step (ih _ _ _); decide)
        | (with_reducible apply Within.step (WithinP.fst (ih _ _ _)); decide)
        | refine Within.step (WithinP.out (ih _ _ _) (by assumption)) (by decide) ?_ | split | dsimp -zeta only

theorem State.startPass_in (s a1 a2 a3 a4 a5) : Within 25778344000 s (State.startPass s a1 a2 a3 a4 a5) := by
  unfold State.startPass
  repeat' first
    | with_reducible exact .refl _ _ | with_reducible assumption | ((try lift_lets -underBinder); intro x; first
    | (refine Within.cut 25778344000 s x ?_ ?_; (on_goal 1 => unfold x); (on_goal 2 => (intro hx; clear_value x)))
    | clear_value x) 
    | refine Within.step (WithinP.out (State.takeInputs_in _ _ _ _) (by assumption)) (by decide) ?_
    | (with_reducible apply Within.step (WithinP.fst (State.takeInputs_in _ _ _ _)); decide)
    | (with_reducible apply Within.step (State.updUnit_in _ _ _); decide) | split | dsimp -zeta only

theorem execChParityError_in (a0 s) : WithinR 25778851904 s (execChParityError a0 s) := by
  unfold execChParityError
  repeat' first
    | with_reducible exact .refl _ _ | with_reducible assumption | ((try lift_lets -underBinder); intro x; first
    | (refine Within.cut 25778851904 s x ?_ ?_; (on_goal 1 => unfold x); (on_goal 2 => (intro hx; clear_value x)))
    | clear_value x) | with_reducible apply Within.ite | with_reducible refine Within.next ?_
    | with_reducible exact WithinR.fault _ _ _ | with_reducible apply WithinR.ite
    | (with_reducible apply Within.step (State.updUnit_in _ _ _); decide)
    | (with_reducible apply Within.step (State.spareAuto_in _ _ _); decide)
    | (with_reducible apply Within.step (State.chFault_in _ _ _ _); decide)
    | (with_reducible refine Within.foldl _ (fun x y hx => ?_) ?_) | split | dsimp -zeta only

theorem execChurnDownlinkPassStart_in (a0 a1 s) : WithinR 25778344000 s (execChurnDownlinkPassStart a0 a1 s) := by
  unfold execChurnDownlinkPassStart
  repeat' first
    | with_reducible exact .refl _ _ | with_reducible assumption | with_reducible apply Within.ite
    | with_reducible refine Within.next ?_ | with_reducible exact WithinR.fault _ _ _
    | with_reducible apply WithinR.ite | (with_reducible apply Within.step (State.updUnit_in _ _ _); decide)
    | (with_reducible apply Within.step (State.startPass_in _ _ _ _ _ _); decide) | split | dsimp -zeta only

theorem execChurnPassCommit_in (a0 a1 a2 s) : WithinR 25778376768 s (execChurnPassCommit a0 a1 a2 s) := by
  unfold execChurnPassCommit
  repeat' first
    | with_reducible exact .refl _ _ | with_reducible assumption | with_reducible apply Within.ite
    | with_reducible refine Within.next ?_ | with_reducible exact WithinR.fault _ _ _
    | with_reducible apply WithinR.ite
    | (with_reducible apply Within.step (State.commitPass_in _ _ _ _); decide)
    | (with_reducible apply Within.step (State.updUnit_in _ _ _); decide) | split | dsimp -zeta only

theorem execChurnUplinkPassStart_in (a0 a1 s) : WithinR 25778344000 s (execChurnUplinkPassStart a0 a1 s) := by
  unfold execChurnUplinkPassStart
  repeat' first
    | with_reducible exact .refl _ _ | with_reducible assumption  | with_reducible refine Within.next ?_
    | with_reducible exact WithinR.fault _ _ _
    | (with_reducible apply Within.step (State.startPass_in _ _ _ _ _ _); decide) | split | dsimp -zeta only

theorem execReleaseMissedDeadline_in (a0 s) : WithinR 25778212928 s (execReleaseMissedDeadline a0 s) := by
  unfold execReleaseMissedDeadline
  repeat' first
    | with_reducible exact .refl _ _ | with_reducible assumption | ((try lift_lets -underBinder); intro x; first
    | (refine Within.cut 25778212928 s x ?_ ?_; (on_goal 1 => unfold x); (on_goal 2 => (intro hx; clear_value x)))
    | clear_value x) | with_reducible apply Within.ite | with_reducible refine Within.next ?_
    | with_reducible exact WithinR.fault _ _ _ | with_reducible apply WithinR.ite
    | (with_reducible apply Within.step (State.missAhead_in _ _ _); decide)
    | (with_reducible apply Within.step (State.chFault_in _ _ _ _); decide) | split | dsimp -zeta only

end Sys2Proof.Machine
end

