-- ==== Sys2Proof/Laws/InUmCore.lean ====
section
/-! SUPPORT. What the operations of Machine/UmCore.lean may change. -/

namespace Sys2Proof.Machine

set_option linter.unusedTactic false
set_option linter.unreachableTactic false

theorem State.evPw_in (s a1) : Within 25778196544 s (State.evPw s a1) := by
  unfold State.evPw
  repeat' first
    | with_reducible exact .refl _ _ | with_reducible assumption 
    | (with_reducible apply Within.step (State.occurBit_in _ _ _ _ _); decide)

theorem State.updUm_in (s a1) : Within 16777216 s (State.updUm s a1) := by
  unfold State.updUm
  repeat' first
    | with_reducible exact .refl _ _ | with_reducible assumption  | with_reducible refine Within.set_um rfl ?_

theorem State.post_in (s a1) : Within 16777216 s (State.post s a1) := by
  unfold State.post
  repeat' first
    | with_reducible exact .refl _ _ | with_reducible assumption | with_reducible apply Within.ite
    | (with_reducible apply Within.step (State.updUm_in _ _); decide) | split

theorem State.accepted_in (s a1 a2 a3) : Within 16777216 s (State.accepted s a1 a2 a3) := by
  unfold State.accepted
  repeat' first
    | with_reducible exact .refl _ _ | with_reducible assumption 
    | (with_reducible apply Within.step (State.updUm_in _ _); decide)
    | (with_reducible apply Within.step (State.post_in _ _); decide)

theorem State.accept_in (s a1 a2 a3) : Within 16777216 s (State.accept s a1 a2 a3) := by
  unfold State.accept
  repeat' first
    | with_reducible exact .refl _ _ | with_reducible assumption 
    | (with_reducible apply Within.step (State.updUm_in _ _); decide)
    | (with_reducible apply Within.step (State.accepted_in _ _ _ _); decide)

theorem State.logInternal_in (s a1) : Within 21474840640 s (State.logInternal s a1) := by
  unfold State.logInternal
  repeat' first
    | with_reducible exact .refl _ _ | with_reducible assumption 
    | refine Within.step (WithinQ.out (State.takeFree_in _) (by assumption)) (by decide) ?_
    | (with_reducible apply Within.step (WithinQ.snd (State.takeFree_in _)); decide)
    | (with_reducible apply Within.step (State.logKind_in _ _ _); decide) | split | dsimp -zeta only

theorem State.final_in (s a1 a2 a3 a4 a5) : Within 21491617856 s (State.final s a1 a2 a3 a4 a5) := by
  unfold State.final
  repeat' first
    | with_reducible exact .refl _ _ | with_reducible assumption | ((try lift_lets -underBinder); intro x; first
    | (refine Within.cut 21491617856 s x ?_ ?_; (on_goal 1 => unfold x); (on_goal 2 => (intro hx; clear_value x)))
    | clear_value x) | with_reducible apply Within.ite
    | (with_reducible apply Within.step (State.logInternal_in _ _); decide)
    | (with_reducible apply Within.step (State.updUm_in _ _); decide)
    | (with_reducible apply Within.step (State.post_in _ _); decide) | split

theorem State.replyDet_in (s a1 a2 a3 a4) : Within 16777216 s (State.replyDet s a1 a2 a3 a4) := by
  unfold State.replyDet
  repeat' first
    | with_reducible exact .refl _ _ | with_reducible assumption 
    | (with_reducible apply Within.step (State.post_in _ _); decide)

theorem State.refuse_in (s a1 a2 a3) : Within 16777216 s (State.refuse s a1 a2 a3) := by
  unfold State.refuse
  repeat' first
    | with_reducible exact .refl _ _ | with_reducible assumption 
    | (with_reducible apply Within.step (State.replyDet_in _ _ _ _ _); decide)

theorem State.reply_in (s a1 a2 a3 a4) : Within 16777216 s (State.reply s a1 a2 a3 a4) := by
  unfold State.reply
  repeat' first
    | with_reducible exact .refl _ _ | with_reducible assumption | with_reducible apply Within.ite
    | (with_reducible apply Within.step (State.post_in _ _); decide) | split

theorem State.clearPending_in (s a1) : Within 64 s (State.clearPending s a1) := by
  induction a1 generalizing s with
  | nil => exact .refl _ _
  | cons x l ih =>
    unfold State.clearPending
    try dsimp -zeta only
    repeat' first
      | with_reducible exact .refl _ _ | with_reducible assumption 
      | (with_reducible apply Within.step (State.setFld_in _ _ _ _); decide)
      | (with_reducible apply Within.step (ih _); decide) | split | dsimp -zeta only

theorem State.evSec_in (s a1) : Within 25778196544 s (State.evSec s a1) := by
  unfold State.evSec
  repeat' first
    | with_reducible exact .refl _ _ | with_reducible assumption 
    | (with_reducible apply Within.step (State.occurBit_in _ _ _ _ _); decide)

theorem State.updSec_in (s a1) : Within 536870912 s (State.updSec s a1) := by
  unfold State.updSec
  repeat' first
    | with_reducible exact .refl _ _ | with_reducible assumption  | with_reducible refine Within.set_sec rfl ?_

theorem State.arbStep_in (s) : Within 26315067456 s (State.arbStep s) := by
  unfold State.arbStep
  repeat' first
    | with_reducible exact .refl _ _ | with_reducible assumption | ((try lift_lets -underBinder); intro x; first
    | (refine Within.cut 26315067456 s x ?_ ?_; (on_goal 1 => unfold x); (on_goal 2 => (intro hx; clear_value x)))
    | clear_value x) | with_reducible apply Within.ite
    | (with_reducible apply Within.step (State.updSec_in _ _); decide)
    | (with_reducible apply Within.step (State.evSec_in _ _); decide)
    | (with_reducible apply Within.step (State.setFld_in _ _ _ _); decide) | split

theorem State.updPw_in (s a1) : Within 33554432 s (State.updPw s a1) := by
  unfold State.updPw
  repeat' first
    | with_reducible exact .refl _ _ | with_reducible assumption  | with_reducible refine Within.set_pw rfl ?_

theorem State.refuseEcho_in (s a1 a2 a3) : Within 16777216 s (State.refuseEcho s a1 a2 a3) := by
  unfold State.refuseEcho
  repeat' first
    | with_reducible exact .refl _ _ | with_reducible assumption 
    | (with_reducible apply Within.step (State.post_in _ _); decide)

theorem State.setMode_in (s a1 a2) : Within 26331844672 s (State.setMode s a1 a2) := by
  unfold State.setMode
  repeat' first
    | with_reducible exact .refl _ _ | with_reducible assumption | ((try lift_lets -underBinder); intro x; first
    | (refine Within.cut 26331844672 s x ?_ ?_; (on_goal 1 => unfold x); (on_goal 2 => (intro hx; clear_value x)))
    | clear_value x) | with_reducible apply Within.ite
    | (with_reducible apply Within.step (State.arbStep_in _); decide)
    | (with_reducible apply Within.step (State.setFld_in _ _ _ _); decide)
    | (with_reducible apply Within.step (State.evPw_in _ _); decide)
    | (with_reducible apply Within.step (State.updUm_in _ _); decide) | split

theorem State.raiseWake_in (s a1 a2) : Within 33554432 s (State.raiseWake s a1 a2) := by
  unfold State.raiseWake
  repeat' first
    | with_reducible exact .refl _ _ | with_reducible assumption | ((try lift_lets -underBinder); intro x; first
    | (refine Within.cut 33554432 s x ?_ ?_; (on_goal 1 => unfold x); (on_goal 2 => (intro hx; clear_value x)))
    | clear_value x) | with_reducible apply Within.ite
    | (with_reducible apply Within.step (State.updPw_in _ _); decide) | split | dsimp -zeta only

end Sys2Proof.Machine
end

