-- ==== Sys2Proof/Laws/InTwCore.lean ====
section
/-! SUPPORT. What the operations of Machine/TwCore.lean may change. -/

namespace Sys2Proof.Machine

set_option linter.unusedTactic false
set_option linter.unreachableTactic false

theorem State.updCl_in (s a1 a2) : Within 134217728 s (State.updCl s a1 a2) := by
  unfold State.updCl
  repeat' first
    | with_reducible exact .refl _ _ | with_reducible assumption  | with_reducible refine Within.set_cl rfl ?_

theorem State.queueRec_in (s a1 a2) : Within 134217728 s (State.queueRec s a1 a2) := by
  unfold State.queueRec
  repeat' first
    | with_reducible exact .refl _ _ | with_reducible assumption 
    | (with_reducible apply Within.step (State.updCl_in _ _ _); decide)

theorem State.mirror_in (s a1 a2) : Within 134217728 s (State.mirror s a1 a2) := by
  unfold State.mirror
  repeat' first
    | with_reducible exact .refl _ _ | with_reducible assumption | with_reducible apply Within.ite
    | (with_reducible apply Within.step (State.queueRec_in _ _ _); decide) | split

theorem State.mirrorWords_in (a0 s a2 a3 a4 a5) : Within 134217728 s (State.mirrorWords a0 s a2 a3 a4 a5) := by
  induction a0 generalizing s a2 a3 a4 a5 with
  | zero => exact .refl _ _
  | succ n ih =>
    unfold State.mirrorWords
    try dsimp -zeta only
    repeat' first
      | with_reducible exact .refl _ _ | with_reducible assumption | with_reducible apply Within.ite
      | (with_reducible apply Within.step (State.mirror_in _ _ _); decide)
      | (with_reducible apply Within.step (ih _ _ _ _ _); decide) | split | dsimp -zeta only

theorem State.updTw_in (s a1) : Within 268435456 s (State.updTw s a1) := by
  unfold State.updTw
  repeat' first
    | with_reducible exact .refl _ _ | with_reducible assumption  | with_reducible refine Within.set_tw rfl ?_

theorem State.evTw_in (s a1) : Within 25778196544 s (State.evTw s a1) := by
  unfold State.evTw
  repeat' first
    | with_reducible exact .refl _ _ | with_reducible assumption 
    | (with_reducible apply Within.step (State.occurBit_in _ _ _ _ _); decide)

theorem State.closeGen_in (s) : Within 16777536 s (State.closeGen s) := by
  unfold State.closeGen
  repeat' first
    | with_reducible exact .refl _ _ | with_reducible assumption 
    | (with_reducible apply Within.step (State.updUm_in _ _); decide)
    | (with_reducible apply Within.step (State.setFld_in _ _ _ _); decide)
    | (with_reducible apply Within.step (State.dropStaged_in _); decide)

theorem State.herdSend_in (s a1 a2 a3 a4) : Within 134217728 s (State.herdSend s a1 a2 a3 a4) := by
  induction a1 generalizing s a2 a3 a4 with
  | nil => exact .refl _ _
  | cons x l ih =>
    unfold State.herdSend
    try dsimp -zeta only
    repeat' first
      | with_reducible exact .refl _ _ | with_reducible assumption 
      | (with_reducible apply Within.step (State.updCl_in _ _ _); decide)
      | (with_reducible apply Within.step (ih _ _ _ _); decide) | split | dsimp -zeta only

theorem State.herdAbort_in (s a1) : Within 26180849728 s (State.herdAbort s a1) := by
  unfold State.herdAbort
  repeat' first
    | with_reducible exact .refl _ _ | with_reducible assumption | with_reducible apply Within.ite
    | (with_reducible apply Within.step (State.evTw_in _ _); decide)
    | (with_reducible apply Within.step (State.updTw_in _ _); decide)
    | (with_reducible apply Within.step (State.herdSend_in _ _ _ _ _); decide) | split

theorem State.lastAt_in (s) : Within 64 s (State.lastAt s) := by
  unfold State.lastAt
  repeat' first
    | with_reducible exact .refl _ _ | with_reducible assumption 
    | (with_reducible apply Within.step (State.wrW_in _ _ _); decide)

theorem State.disarm_in (s) : Within 30492594240 s (State.disarm s) := by
  unfold State.disarm
  repeat' first
    | with_reducible exact .refl _ _ | with_reducible assumption | ((try lift_lets -underBinder); intro x; first
    | (refine Within.cut 30492594240 s x ?_ ?_; (on_goal 1 => unfold x); (on_goal 2 => (intro hx; clear_value x)))
    | clear_value x)  | (with_reducible apply Within.step (State.clearPending_in _ _); decide)
    | (with_reducible apply Within.step (State.setFld_in _ _ _ _); decide)
    | (with_reducible apply Within.step (State.herdAbort_in _ _); decide)
    | (with_reducible apply Within.step (State.lastAt_in _); decide)
    | (with_reducible apply Within.step (State.updUm_in _ _); decide)
    | (with_reducible apply Within.step (State.final_in _ _ _ _ _ _); decide) | split | dsimp -zeta only

theorem State.loseGen_in (s) : Within 30492594496 s (State.loseGen s) := by
  unfold State.loseGen
  repeat' first
    | with_reducible exact .refl _ _ | with_reducible assumption 
    | (with_reducible apply Within.step (State.closeGen_in _); decide)
    | (with_reducible apply Within.step (State.disarm_in _); decide)

theorem State.resetCarrier_in (s a1) : Within 30492594496 s (State.resetCarrier s a1) := by
  unfold State.resetCarrier
  repeat' first
    | with_reducible exact .refl _ _ | with_reducible assumption | ((try lift_lets -underBinder); intro x; first
    | (refine Within.cut 30492594496 s x ?_ ?_; (on_goal 1 => unfold x); (on_goal 2 => (intro hx; clear_value x)))
    | clear_value x) | with_reducible apply Within.ite
    | (with_reducible apply Within.step (State.updUm_in _ _); decide)
    | (with_reducible apply Within.step (State.setFld_in _ _ _ _); decide)
    | (with_reducible apply Within.step (State.loseGen_in _); decide) | split | dsimp -zeta only

theorem State.mirrorGen_in (s a1 a2) : Within 134217728 s (State.mirrorGen s a1 a2) := by
  unfold State.mirrorGen
  repeat' first
    | with_reducible exact .refl _ _ | with_reducible assumption 
    | (with_reducible apply Within.step (State.mirror_in _ _ _); decide)

theorem State.mirrorStaged_in (s a1 a2) : Within 134217728 s (State.mirrorStaged s a1 a2) := by
  unfold State.mirrorStaged
  repeat' first
    | with_reducible exact .refl _ _ | with_reducible assumption 
    | (with_reducible apply Within.step (State.mirror_in _ _ _); decide)

end Sys2Proof.Machine
end

