-- ==== Sys2Proof/Laws/InLink.lean ====
section
/-! SUPPORT. What the operations of Machine/Link.lean may change. -/

namespace Sys2Proof.Machine

set_option linter.unusedTactic false
set_option linter.unreachableTactic false

theorem State.updPort_in (s a1 a2) : Within 4194304 s (State.updPort s a1 a2) := by
  unfold State.updPort
  repeat' first
    | with_reducible exact .refl _ _ | with_reducible assumption 
    | with_reducible refine Within.set_ports rfl ?_

theorem State.addCtl_in (s a1 a2) : Within 4194304 s (State.addCtl s a1 a2) := by
  unfold State.addCtl
  repeat' first
    | with_reducible exact .refl _ _ | with_reducible assumption | with_reducible apply Within.ite
    | (with_reducible apply Within.step (State.updPort_in _ _ _); decide) | split

theorem State.dropRx_in (s a1) : Within 16384 s (State.dropRx s a1) := by
  induction a1 generalizing s with
  | nil => exact .refl _ _
  | cons x l ih =>
    unfold State.dropRx
    try dsimp -zeta only
    repeat' first
      | with_reducible exact .refl _ _ | with_reducible assumption 
      | (with_reducible apply Within.step (State.updPail_in _ _ _); decide)
      | (with_reducible apply Within.step (ih _); decide) | split | dsimp -zeta only

theorem missReady_in (s a1 a2) : Within 25778212928 s (missReady s a1 a2) := by
  induction a2 generalizing s a1 with
  | nil => exact .refl _ _
  | cons x l ih =>
    unfold missReady
    try dsimp -zeta only
    repeat' first
      | with_reducible exact .refl _ _ | with_reducible assumption 
      | (with_reducible apply Within.step (State.missTx_in _ _ _); decide)
      | (with_reducible apply Within.step (ih _ _); decide) | split | dsimp -zeta only

theorem State.dropTx_in (s a1) : Within 25778212928 s (State.dropTx s a1) := by
  induction a1 generalizing s with
  | nil => exact .refl _ _
  | cons x l ih =>
    unfold State.dropTx
    try dsimp -zeta only
    repeat' first
      | with_reducible exact .refl _ _ | with_reducible assumption
      | ((try lift_lets -underBinder); intro x; first
      | (refine Within.cut 25778212928 s x ?_ ?_; (on_goal 1 => unfold x); (on_goal 2 => (intro hx; clear_value x)))
      | clear_value x)  | (with_reducible apply Within.step (missReady_in _ _ _); decide)
      | (with_reducible apply Within.step (State.updPail_in _ _ _); decide)
      | (with_reducible apply Within.step (State.freePail_in _ _); decide)
      | (with_reducible apply Within.step (ih _); decide) | split | dsimp -zeta only

theorem State.completeCa_in (s a1 a2) : Within 30073163840 s (State.completeCa s a1 a2) := by
  unfold State.completeCa
  repeat' first
    | with_reducible exact .refl _ _ | with_reducible assumption 
    | (with_reducible apply Within.step (State.emit_in _ _); decide)
    | (with_reducible apply Within.step (State.aerTlp_in _ _ _); decide)

theorem State.endReads_in (s a1) : Within 30073163840 s (State.endReads s a1) := by
  induction a1 generalizing s with
  | nil => exact .refl _ _
  | cons x l ih =>
    unfold State.endReads
    try dsimp -zeta only
    repeat' first
      | with_reducible exact .refl _ _ | with_reducible assumption 
      | (with_reducible apply Within.step (State.completeCa_in _ _ _); decide)
      | (with_reducible apply Within.step (ih _); decide) | split | dsimp -zeta only

theorem State.linkEvent_in (s a1 a2) : Within 25778196544 s (State.linkEvent s a1 a2) := by
  unfold State.linkEvent
  repeat' first
    | with_reducible exact .refl _ _ | with_reducible assumption 
    | (with_reducible apply Within.step (State.evAl_in _ _ _); decide)
    | (with_reducible apply Within.step (State.setFld_in _ _ _ _); decide)
    | (with_reducible apply Within.step (State.evTw_in _ _); decide) | split | dsimp -zeta only

theorem State.moveLane_in (s a1 a2 a3) : Within 65600 s (State.moveLane s a1 a2 a3) := by
  unfold State.moveLane
  repeat' first
    | with_reducible exact .refl _ _ | with_reducible assumption | ((try lift_lets -underBinder); intro x; first
    | (refine Within.cut 65600 s x ?_ ?_; (on_goal 1 => unfold x); (on_goal 2 => (intro hx; clear_value x)))
    | clear_value x) | with_reducible apply Within.ite
    | (with_reducible apply Within.step (State.setFld_in _ _ _ _); decide)
    | (with_reducible apply Within.step (State.setRepairDue_in _ _); decide) | split

theorem State.updTrain_in (s a1 a2) : Within 138412032 s (State.updTrain s a1 a2) := by
  unfold State.updTrain
  repeat' first
    | with_reducible exact .refl _ _ | with_reducible assumption 
    | (with_reducible apply Within.step (State.updPort_in _ _ _); decide)
    | (with_reducible apply Within.step (State.updCl_in _ _ _); decide) | split | dsimp -zeta only

theorem State.setTstate_in (s a1 a2) : Within 138412096 s (State.setTstate s a1 a2) := by
  unfold State.setTstate
  repeat' first
    | with_reducible exact .refl _ _ | with_reducible assumption | ((try lift_lets -underBinder); intro x; first
    | (refine Within.cut 138412096 s x ?_ ?_; (on_goal 1 => unfold x); (on_goal 2 => (intro hx; clear_value x)))
    | clear_value x)  | (with_reducible apply Within.step (State.updTrain_in _ _ _); decide)
    | (with_reducible apply Within.step (State.setFld_in _ _ _ _); decide) | split | dsimp -zeta only

theorem State.alLoss_in (s a1 a2) : Within 30211657792 s (State.alLoss s a1 a2) := by
  unfold State.alLoss
  repeat' first
    | with_reducible exact .refl _ _ | with_reducible assumption | ((try lift_lets -underBinder); intro x; first
    | (refine Within.cut 30211657792 s x ?_ ?_; (on_goal 1 => unfold x); (on_goal 2 => (intro hx; clear_value x)))
    | clear_value x) | with_reducible apply Within.ite
    | (with_reducible apply Within.step (State.setTstate_in _ _ _); decide)
    | (with_reducible apply Within.step (State.setFld_in _ _ _ _); decide)
    | (with_reducible apply Within.step (State.dropRx_in _ _); decide)
    | (with_reducible apply Within.step (State.dropTx_in _ _); decide)
    | (with_reducible apply Within.step (State.addCnt_in _ _ _ _); decide)
    | (with_reducible apply Within.step (State.endReads_in _ _); decide)
    | (with_reducible apply Within.step (State.updPort_in _ _ _); decide)
    | (with_reducible apply Within.step (State.linkEvent_in _ _ _); decide)
    | (with_reducible apply Within.step (State.moveLane_in _ _ _ _); decide) | split | dsimp -zeta only

theorem State.startSwap_in (s a1 a2 a3) : Within 4194304 s (State.startSwap s a1 a2 a3) := by
  unfold State.startSwap
  repeat' first
    | with_reducible exact .refl _ _ | with_reducible assumption | with_reducible apply Within.ite
    | (with_reducible apply Within.step (State.addCtl_in _ _ _); decide)
    | (with_reducible apply Within.step (State.updPort_in _ _ _); decide) | split

theorem State.linkErr_in (s a1 a2) : Within 25778196544 s (State.linkErr s a1 a2) := by
  unfold State.linkErr
  repeat' first
    | with_reducible exact .refl _ _ | with_reducible assumption 
    | (with_reducible apply Within.step (State.evAl_in _ _ _); decide)
    | (with_reducible apply Within.step (State.setFld_in _ _ _ _); decide)
    | (with_reducible apply Within.step (State.evTw_in _ _); decide) | split | dsimp -zeta only

theorem State.linkProto_in (s a1) : Within 25778196544 s (State.linkProto s a1) := by
  unfold State.linkProto
  repeat' first
    | with_reducible exact .refl _ _ | with_reducible assumption 
    | (with_reducible apply Within.step (State.linkErr_in _ _ _); decide)
    | (with_reducible apply Within.step (State.cnt_in _ _); decide) | split | dsimp -zeta only

theorem State.linkTiming_in (s a1 a2) : Within 25778196544 s (State.linkTiming s a1 a2) := by
  unfold State.linkTiming
  repeat' first
    | with_reducible exact .refl _ _ | with_reducible assumption 
    | (with_reducible apply Within.step (State.evAl_in _ _ _); decide)
    | (with_reducible apply Within.step (State.setFld_in _ _ _ _); decide)
    | (with_reducible apply Within.step (State.evTw_in _ _); decide) | split | dsimp -zeta only

theorem State.trainFail_in (s a1) : Within 25916608576 s (State.trainFail s a1) := by
  unfold State.trainFail
  repeat' first
    | with_reducible exact .refl _ _ | with_reducible assumption | ((try lift_lets -underBinder); intro x; first
    | (refine Within.cut 25916608576 s x ?_ ?_; (on_goal 1 => unfold x); (on_goal 2 => (intro hx; clear_value x)))
    | clear_value x) | with_reducible apply Within.ite
    | (with_reducible apply Within.step (State.setTstate_in _ _ _); decide)
    | (with_reducible apply Within.step (State.updTrain_in _ _ _); decide)
    | (with_reducible apply Within.step (State.cnt_in _ _); decide)
    | (with_reducible apply Within.step (State.setFld_in _ _ _ _); decide)
    | (with_reducible apply Within.step (State.updPort_in _ _ _); decide)
    | (with_reducible apply Within.step (State.linkEvent_in _ _ _); decide)
    | (with_reducible apply Within.step (State.updCl_in _ _ _); decide) | split | dsimp -zeta only

theorem State.linkProtos_in (a0 s a2) : Within 25778196544 s (State.linkProtos a0 s a2) := by
  induction a0 generalizing s a2 with
  | zero => exact .refl _ _
  | succ n ih =>
    unfold State.linkProtos
    try dsimp -zeta only
    repeat' first
      | with_reducible exact .refl _ _ | with_reducible assumption 
      | (with_reducible apply Within.step (State.linkProto_in _ _); decide)
      | (with_reducible apply Within.step (ih _ _); decide) | split | dsimp -zeta only

theorem State.updRx_in (s a1 a2 a3) : Within 4194304 s (State.updRx s a1 a2 a3) := by
  unfold State.updRx
  repeat' first
    | with_reducible exact .refl _ _ | with_reducible assumption 
    | (with_reducible apply Within.step (State.updPort_in _ _ _); decide)

theorem State.resync_in (s a1 a2 a3) : Within 4194304 s (State.resync s a1 a2 a3) := by
  unfold State.resync
  repeat' first
    | with_reducible exact .refl _ _ | with_reducible assumption 
    | (with_reducible apply Within.step (State.addCtl_in _ _ _); decide)
    | (with_reducible apply Within.step (State.updRx_in _ _ _ _); decide)

theorem State.moveClLane_in (s a1 a2) : Within 25912479808 s (State.moveClLane s a1 a2) := by
  unfold State.moveClLane
  repeat' first
    | with_reducible exact .refl _ _ | with_reducible assumption 
    | (with_reducible apply Within.step (State.evTw_in _ _); decide)
    | (with_reducible apply Within.step (State.setFld_in _ _ _ _); decide)
    | (with_reducible apply Within.step (State.setRepairDue_in _ _); decide)
    | (with_reducible apply Within.step (State.updCl_in _ _ _); decide)

theorem State.setPair_in (s a1) : Within 25778196544 s (State.setPair s a1) := by
  unfold State.setPair
  repeat' first
    | with_reducible exact .refl _ _ | with_reducible assumption | with_reducible apply Within.ite
    | (with_reducible apply Within.step (State.evTw_in _ _); decide)
    | (with_reducible apply Within.step (State.setFld_in _ _ _ _); decide) | split

theorem State.clLoss_in (s a1) : Within 25912479808 s (State.clLoss s a1) := by
  unfold State.clLoss
  repeat' first
    | with_reducible exact .refl _ _ | with_reducible assumption | ((try lift_lets -underBinder); intro x; first
    | (refine Within.cut 25912479808 s x ?_ ?_; (on_goal 1 => unfold x); (on_goal 2 => (intro hx; clear_value x)))
    | clear_value x) | with_reducible apply Within.ite
    | (with_reducible apply Within.step (State.setFld_in _ _ _ _); decide)
    | (with_reducible apply Within.step (State.moveClLane_in _ _ _); decide)
    | (with_reducible apply Within.step (State.updCl_in _ _ _); decide)
    | (with_reducible apply Within.step (State.evTw_in _ _); decide)
    | (with_reducible apply Within.step (State.setPair_in _ _); decide) | split | dsimp -zeta only

theorem State.startClSwap_in (s a1 a2) : Within 134217728 s (State.startClSwap s a1 a2) := by
  unfold State.startClSwap
  repeat' first
    | with_reducible exact .refl _ _ | with_reducible assumption | with_reducible apply Within.ite
    | (with_reducible apply Within.step (State.updCl_in _ _ _); decide) | split

theorem State.updTx_in (s a1 a2 a3) : Within 4194304 s (State.updTx s a1 a2 a3) := by
  unfold State.updTx
  repeat' first
    | with_reducible exact .refl _ _ | with_reducible assumption 
    | (with_reducible apply Within.step (State.updPort_in _ _ _); decide)

theorem State.tryLockLink_in (s a1) : Within 138412096 s (State.tryLockLink s a1) := by
  unfold State.tryLockLink
  repeat' first
    | with_reducible exact .refl _ _ | with_reducible assumption | with_reducible apply Within.ite
    | (with_reducible apply Within.step (State.updTrain_in _ _ _); decide)
    | (with_reducible apply Within.step (State.setTstate_in _ _ _); decide) | split

theorem State.linkLoss_in (s a1 a2) : Within 30211657792 s (State.linkLoss s a1 a2) := by
  unfold State.linkLoss
  repeat' first
    | with_reducible exact .refl _ _ | with_reducible assumption 
    | (with_reducible apply Within.step (State.alLoss_in _ _ _); decide)
    | (with_reducible apply Within.step (State.clLoss_in _ _); decide) | split | dsimp -zeta only

theorem execAlCtrlRetrain_in (a0 s) : WithinR 30211657792 s (execAlCtrlRetrain a0 s) := by
  unfold execAlCtrlRetrain
  repeat' first
    | with_reducible exact .refl _ _ | with_reducible assumption  | with_reducible refine Within.next ?_
    | with_reducible exact WithinR.fault _ _ _
    | (with_reducible apply Within.step (State.alLoss_in _ _ _); decide)

theorem execCalibrateComplete_in (a0 s) : WithinR 25916608576 s (execCalibrateComplete a0 s) := by
  unfold execCalibrateComplete
  repeat' first
    | with_reducible exact .refl _ _ | with_reducible assumption | ((try lift_lets -underBinder); intro x; first
    | (refine Within.cut 25916608576 s x ?_ ?_; (on_goal 1 => unfold x); (on_goal 2 => (intro hx; clear_value x)))
    | clear_value x) | with_reducible apply Within.ite | with_reducible refine Within.next ?_
    | with_reducible exact WithinR.fault _ _ _ | with_reducible apply WithinR.ite
    | (with_reducible apply Within.step (State.updTrain_in _ _ _); decide)
    | (with_reducible apply Within.step (State.setTstate_in _ _ _); decide)
    | (with_reducible apply Within.step (State.linkEvent_in _ _ _); decide) | split

theorem execCfgDone_in (a0 s) : WithinR 138412096 s (execCfgDone a0 s) := by
  unfold execCfgDone
  repeat' first
    | with_reducible exact .refl _ _ | with_reducible assumption | ((try lift_lets -underBinder); intro x; first
    | (refine Within.cut 138412096 s x ?_ ?_; (on_goal 1 => unfold x); (on_goal 2 => (intro hx; clear_value x)))
    | clear_value x) | with_reducible apply Within.ite | with_reducible refine Within.next ?_
    | with_reducible exact WithinR.fault _ _ _ | with_reducible apply WithinR.ite
    | (with_reducible apply Within.step (State.setTstate_in _ _ _); decide)
    | (with_reducible apply Within.step (State.updPort_in _ _ _); decide)
    | (with_reducible apply Within.step (State.addCtl_in _ _ _); decide)
    | (with_reducible apply Within.step (State.updCl_in _ _ _); decide) | split | dsimp -zeta only

theorem execClPortRetrain_in (a0 s) : WithinR 25912479808 s (execClPortRetrain a0 s) := by
  unfold execClPortRetrain
  repeat' first
    | with_reducible exact .refl _ _ | with_reducible assumption  | with_reducible refine Within.next ?_
    | with_reducible exact WithinR.fault _ _ _
    | (with_reducible apply Within.step (State.clLoss_in _ _); decide)

theorem execFrameLock_in (a0 s) : WithinR 138412096 s (execFrameLock a0 s) := by
  unfold execFrameLock
  repeat' first
    | with_reducible exact .refl _ _ | with_reducible assumption | with_reducible apply Within.ite
    | with_reducible refine Within.next ?_ | with_reducible exact WithinR.fault _ _ _
    | with_reducible apply WithinR.ite | (with_reducible apply Within.step (State.setTstate_in _ _ _); decide)
    | split

theorem execLaneSwap_in (a0 s) : WithinR 25916674112 s (execLaneSwap a0 s) := by
  unfold execLaneSwap
  repeat' first
    | with_reducible exact .refl _ _ | with_reducible assumption | with_reducible apply Within.ite
    | with_reducible refine Within.next ?_ | with_reducible exact WithinR.fault _ _ _
    | with_reducible apply WithinR.ite | (with_reducible apply Within.step (State.moveLane_in _ _ _ _); decide)
    | (with_reducible apply Within.step (State.updPort_in _ _ _); decide)
    | (with_reducible apply Within.step (State.moveClLane_in _ _ _); decide)
    | (with_reducible apply Within.step (State.updCl_in _ _ _); decide) | split | dsimp -zeta only

theorem execPresenceProbe_in (a0 a1 s) : WithinR 25916608576 s (execPresenceProbe a0 a1 s) := by
  unfold execPresenceProbe
  repeat' first
    | with_reducible exact .refl _ _ | with_reducible assumption | ((try lift_lets -underBinder); intro x; first
    | (refine Within.cut 25916608576 s x ?_ ?_; (on_goal 1 => unfold x); (on_goal 2 => (intro hx; clear_value x)))
    | clear_value x) | with_reducible apply Within.ite | with_reducible refine Within.next ?_
    | with_reducible exact WithinR.fault _ _ _ | with_reducible apply WithinR.ite
    | (with_reducible apply Within.step (State.updTrain_in _ _ _); decide)
    | (with_reducible apply Within.step (State.setFld_in _ _ _ _); decide)
    | (with_reducible apply Within.step (State.linkEvent_in _ _ _); decide)
    | (with_reducible apply Within.step (State.tryLockLink_in _ _); decide) | split | dsimp -zeta only

theorem execReceiverLock_in (a0 s) : WithinR 138412096 s (execReceiverLock a0 s) := by
  unfold execReceiverLock
  repeat' first
    | with_reducible exact .refl _ _ | with_reducible assumption | ((try lift_lets -underBinder); intro x; first
    | (refine Within.cut 138412096 s x ?_ ?_; (on_goal 1 => unfold x); (on_goal 2 => (intro hx; clear_value x)))
    | clear_value x) | with_reducible apply Within.ite | with_reducible refine Within.next ?_
    | with_reducible exact WithinR.fault _ _ _ | with_reducible apply WithinR.ite
    | (with_reducible apply Within.step (State.setFld_in _ _ _ _); decide)
    | (with_reducible apply Within.step (State.setTstate_in _ _ _); decide) | split | dsimp -zeta only

theorem execRecoveredClockLoss_in (a0 a1 s) : WithinR 30211657792 s (execRecoveredClockLoss a0 a1 s) := by
  unfold execRecoveredClockLoss
  repeat' first
    | with_reducible exact .refl _ _ | with_reducible assumption | ((try lift_lets -underBinder); intro x; first
    | (refine Within.cut 30211657792 s x ?_ ?_; (on_goal 1 => unfold x); (on_goal 2 => (intro hx; clear_value x)))
    | clear_value x) | with_reducible apply Within.ite | with_reducible refine Within.next ?_
    | with_reducible exact WithinR.fault _ _ _ | with_reducible apply WithinR.ite
    | (with_reducible apply Within.step (State.alLoss_in _ _ _); decide)
    | (with_reducible apply Within.step (State.trainFail_in _ _); decide)
    | (with_reducible apply Within.step (State.moveLane_in _ _ _ _); decide)
    | (with_reducible apply Within.step (State.clLoss_in _ _); decide)
    | (with_reducible apply Within.step (State.moveClLane_in _ _ _); decide) | split | dsimp -zeta only

theorem execSpareAbortTimeout_in (a0 s) : WithinR 25916608576 s (execSpareAbortTimeout a0 s) := by
  unfold execSpareAbortTimeout
  repeat' first
    | with_reducible exact .refl _ _ | with_reducible assumption | with_reducible apply Within.ite
    | with_reducible refine Within.next ?_ | with_reducible exact WithinR.fault _ _ _
    | with_reducible apply WithinR.ite | (with_reducible apply Within.step (State.linkErr_in _ _ _); decide)
    | (with_reducible apply Within.step (State.addCtl_in _ _ _); decide)
    | (with_reducible apply Within.step (State.updPort_in _ _ _); decide)
    | (with_reducible apply Within.step (State.updCl_in _ _ _); decide) | split | dsimp -zeta only

theorem execSpareReady_in (a0 a1 s) : WithinR 138412032 s (execSpareReady a0 a1 s) := by
  unfold execSpareReady
  repeat' first
    | with_reducible exact .refl _ _ | with_reducible assumption | ((try lift_lets -underBinder); intro x; first
    | (refine Within.cut 138412032 s x ?_ ?_; (on_goal 1 => unfold x); (on_goal 2 => (intro hx; clear_value x)))
    | clear_value x) | with_reducible apply Within.ite | with_reducible refine Within.next ?_
    | with_reducible exact WithinR.fault _ _ _ | with_reducible apply WithinR.ite
    | (with_reducible apply Within.step (State.addCtl_in _ _ _); decide)
    | (with_reducible apply Within.step (State.updPort_in _ _ _); decide)
    | (with_reducible apply Within.step (State.updCl_in _ _ _); decide) | split | dsimp -zeta only

theorem execTrainingRetry_in (a0 s) : WithinR 138412096 s (execTrainingRetry a0 s) := by
  unfold execTrainingRetry
  repeat' first
    | with_reducible exact .refl _ _ | with_reducible assumption | with_reducible apply Within.ite
    | with_reducible refine Within.next ?_ | with_reducible exact WithinR.fault _ _ _
    | with_reducible apply WithinR.ite | (with_reducible apply Within.step (State.tryLockLink_in _ _); decide)
    | split | dsimp -zeta only

theorem execTrainingTimeout_in (a0 s) : WithinR 25916608576 s (execTrainingTimeout a0 s) := by
  unfold execTrainingTimeout
  repeat' first
    | with_reducible exact .refl _ _ | with_reducible assumption | ((try lift_lets -underBinder); intro x; first
    | (refine Within.cut 25916608576 s x ?_ ?_; (on_goal 1 => unfold x); (on_goal 2 => (intro hx; clear_value x)))
    | clear_value x) | with_reducible apply Within.ite | with_reducible refine Within.next ?_
    | with_reducible exact WithinR.fault _ _ _ | with_reducible apply WithinR.ite
    | (with_reducible apply Within.step (State.trainFail_in _ _); decide) | split

end Sys2Proof.Machine
end

