-- ==== Sys2Proof/Laws/InAlinkRx.lean ====
section
/-! SUPPORT. What the operations of Machine/AlinkRx.lean may change. -/

namespace Sys2Proof.Machine

set_option linter.unusedTactic false
set_option linter.unreachableTactic false

theorem State.alAck_in (s a1 a2) : Within 30211657792 s (State.alAck s a1 a2) := by
  unfold State.alAck
  repeat' first
    | with_reducible exact .refl _ _ | with_reducible assumption | ((try lift_lets -underBinder); intro x; first
    | (refine Within.cut 30211657792 s x ?_ ?_; (on_goal 1 => unfold x); (on_goal 2 => (intro hx; clear_value x)))
    | clear_value x) | with_reducible apply Within.ite
    | (with_reducible apply Within.step (State.updPort_in _ _ _); decide)
    | (with_reducible apply Within.step (State.alLoss_in _ _ _); decide) | split | dsimp -zeta only

theorem State.spareLane_in (s a1) : Within 4194304 s (State.spareLane s a1) := by
  unfold State.spareLane
  repeat' first
    | with_reducible exact .refl _ _ | with_reducible assumption | with_reducible apply Within.ite
    | (with_reducible apply Within.step (State.updPort_in _ _ _); decide)
    | (with_reducible apply Within.step (State.startSwap_in _ _ _ _); decide) | split | dsimp -zeta only

theorem State.alCorrected_in (s a1 a2) : Within 17184063552 s (State.alCorrected s a1 a2) := by
  unfold State.alCorrected
  repeat' first
    | with_reducible exact .refl _ _ | with_reducible assumption | ((try lift_lets -underBinder); intro x; first
    | (refine Within.cut 17184063552 s x ?_ ?_; (on_goal 1 => unfold x); (on_goal 2 => (intro hx; clear_value x)))
    | clear_value x) | with_reducible apply Within.ite
    | (with_reducible apply Within.step (State.addCnt_in _ _ _ _); decide)
    | (with_reducible apply Within.step (State.updPort_in _ _ _); decide)
    | (with_reducible apply Within.step (State.spareLane_in _ _); decide)
    | (with_reducible refine Within.foldl _ (fun x y hx => ?_) ?_) | split

theorem State.alDiscard_in (s a1) : Within 25782390848 s (State.alDiscard s a1) := by
  unfold State.alDiscard
  repeat' first
    | with_reducible exact .refl _ _ | with_reducible assumption 
    | (with_reducible apply Within.step (State.updPort_in _ _ _); decide)
    | (with_reducible apply Within.step (State.linkProto_in _ _); decide)

theorem State.alDlyMissing_in (s a1) : Within 25916608576 s (State.alDlyMissing s a1) := by
  unfold State.alDlyMissing
  repeat' first
    | with_reducible exact .refl _ _ | with_reducible assumption | ((try lift_lets -underBinder); intro x; first
    | (refine Within.cut 25916608576 s x ?_ ?_; (on_goal 1 => unfold x); (on_goal 2 => (intro hx; clear_value x)))
    | clear_value x) | with_reducible apply Within.ite
    | (with_reducible apply Within.step (State.trainFail_in _ _); decide)
    | (with_reducible apply Within.step (State.updPort_in _ _ _); decide)
    | (with_reducible apply Within.step (State.linkTiming_in _ _ _); decide)
    | (with_reducible apply Within.step (State.setFld_in _ _ _ _); decide) | split | dsimp -zeta only

theorem State.alDlyRsp_in (s a1 a2 a3) : Within 25782390848 s (State.alDlyRsp s a1 a2 a3) := by
  unfold State.alDlyRsp
  repeat' first
    | with_reducible exact .refl _ _ | with_reducible assumption | ((try lift_lets -underBinder); intro x; first
    | (refine Within.cut 25782390848 s x ?_ ?_; (on_goal 1 => unfold x); (on_goal 2 => (intro hx; clear_value x)))
    | clear_value x) | with_reducible apply Within.ite
    | (with_reducible apply Within.step (State.setFld_in _ _ _ _); decide)
    | (with_reducible apply Within.step (State.updPort_in _ _ _); decide)
    | (with_reducible apply Within.step (State.addCtl_in _ _ _); decide)
    | (with_reducible apply Within.step (State.linkTiming_in _ _ _); decide) | split | dsimp -zeta only

theorem State.brokenBlock_in (s a1 a2) : Within 25782390848 s (State.brokenBlock s a1 a2) := by
  unfold State.brokenBlock
  repeat' first
    | with_reducible exact .refl _ _ | with_reducible assumption | ((try lift_lets -underBinder); intro x; first
    | (refine Within.cut 25782390848 s x ?_ ?_; (on_goal 1 => unfold x); (on_goal 2 => (intro hx; clear_value x)))
    | clear_value x) | with_reducible apply Within.ite
    | (with_reducible apply Within.step (State.linkProto_in _ _); decide)
    | (with_reducible apply Within.step (State.updRx_in _ _ _ _); decide) | split

theorem State.violation_in (s a1 a2) : Within 25782390848 s (State.violation s a1 a2) := by
  unfold State.violation
  repeat' first
    | with_reducible exact .refl _ _ | with_reducible assumption 
    | (with_reducible apply Within.step (State.resync_in _ _ _ _); decide)
    | (with_reducible apply Within.step (State.linkErr_in _ _ _); decide)
    | (with_reducible apply Within.step (State.cnt_in _ _); decide)

theorem State.takeCredit_in (s a1 a2 a3) : WithinP 25782390848 s (State.takeCredit s a1 a2 a3) := by
  unfold State.takeCredit
  repeat' first
    | with_reducible exact .refl _ _ | with_reducible assumption | ((try lift_lets -underBinder); intro x; first
    | (refine Within.cut 25782390848 s x ?_ ?_; (on_goal 1 => unfold x); (on_goal 2 => (intro hx; clear_value x)))
    | clear_value x) | with_reducible apply Within.ite | with_reducible refine Within.pair ?_
    | with_reducible apply WithinP.ite | (with_reducible apply Within.step (State.cnt_in _ _); decide)
    | (with_reducible apply Within.step (State.violation_in _ _ _); decide)
    | (with_reducible apply Within.step (State.updRx_in _ _ _ _); decide) | split

theorem State.uplink_in (s a1 a2 a3 a4 a5) : Within 25782407232 s (State.uplink s a1 a2 a3 a4 a5) := by
  unfold State.uplink
  repeat' first
    | with_reducible exact .refl _ _ | with_reducible assumption | ((try lift_lets -underBinder); intro x; first
    | (refine Within.cut 25782407232 s x ?_ ?_; (on_goal 1 => unfold x); (on_goal 2 => (intro hx; clear_value x)))
    | clear_value x) | with_reducible apply Within.ite
    | (with_reducible apply Within.step (State.linkProto_in _ _); decide)
    | (with_reducible apply Within.step (State.updRx_in _ _ _ _); decide)
    | refine Within.step (WithinP.out (State.takeCredit_in _ _ _ _) (by assumption)) (by decide) ?_
    | (with_reducible apply Within.step (WithinP.fst (State.takeCredit_in _ _ _ _)); decide)
    | (with_reducible apply Within.step (State.updPail_in _ _ _); decide)
    | (with_reducible apply Within.step (State.vatDrop_in _ _ _); decide) | split | dsimp -zeta only

theorem State.uplinks_in (s a1 a2 a3) : Within 25782407232 s (State.uplinks s a1 a2 a3) := by
  induction a3 generalizing s a1 a2 with
  | nil => exact .refl _ _
  | cons x l ih =>
    rcases x with _ | ⟨x, y, z⟩
    all_goals
      unfold State.uplinks
      try dsimp -zeta only
      repeat' first
        | with_reducible exact .refl _ _ | with_reducible assumption | with_reducible apply Within.ite
        | (with_reducible apply Within.step (State.brokenBlock_in _ _ _); decide)
        | (with_reducible apply Within.step (State.uplink_in _ _ _ _ _ _); decide)
        | (with_reducible apply Within.step (ih _ _ _); decide) | split | dsimp -zeta only

theorem State.alNormal_in (s a1 a2 a3 a4) : Within 25916624960 s (State.alNormal s a1 a2 a3 a4) := by
  unfold State.alNormal
  repeat' first
    | with_reducible exact .refl _ _ | with_reducible assumption | ((try lift_lets -underBinder); intro x; first
    | (refine Within.cut 25916624960 s x ?_ ?_; (on_goal 1 => unfold x); (on_goal 2 => (intro hx; clear_value x)))
    | clear_value x) | with_reducible apply Within.ite
    | (with_reducible apply Within.step (State.updTrain_in _ _ _); decide)
    | (with_reducible apply Within.step (State.setFld_in _ _ _ _); decide)
    | (with_reducible apply Within.step (State.alDiscard_in _ _); decide)
    | (with_reducible apply Within.step (State.updPort_in _ _ _); decide)
    | (with_reducible apply Within.step (State.linkProtos_in _ _ _); decide)
    | (with_reducible apply Within.step (State.uplinks_in _ _ _ _); decide) | split | dsimp -zeta only

theorem State.alTraining_in (s a1 a2 a3) : Within 30211657792 s (State.alTraining s a1 a2 a3) := by
  unfold State.alTraining
  repeat' first
    | with_reducible exact .refl _ _ | with_reducible assumption | ((try lift_lets -underBinder); intro x; first
    | (refine Within.cut 30211657792 s x ?_ ?_; (on_goal 1 => unfold x); (on_goal 2 => (intro hx; clear_value x)))
    | clear_value x) | with_reducible apply Within.ite
    | (with_reducible apply Within.step (State.alLoss_in _ _ _); decide)
    | (with_reducible apply Within.step (State.trainFail_in _ _); decide)
    | (with_reducible apply Within.step (State.wrW_in _ _ _); decide)
    | (with_reducible apply Within.step (State.setFld_in _ _ _ _); decide)
    | (with_reducible apply Within.step (State.updTrain_in _ _ _); decide) | split

theorem State.resyncStreams_in (s a1 a2) : Within 4194304 s (State.resyncStreams s a1 a2) := by
  induction a2 generalizing s a1 with
  | nil => exact .refl _ _
  | cons x l ih =>
    unfold State.resyncStreams
    try dsimp -zeta only
    repeat' first
      | with_reducible exact .refl _ _ | with_reducible assumption 
      | (with_reducible apply Within.step (State.resync_in _ _ _ _); decide)
      | (with_reducible apply Within.step (ih _ _); decide) | split | dsimp -zeta only

theorem State.alUncorr_in (s a1) : Within 30211657792 s (State.alUncorr s a1) := by
  unfold State.alUncorr
  repeat' first
    | with_reducible exact .refl _ _ | with_reducible assumption | ((try lift_lets -underBinder); intro x; first
    | (refine Within.cut 30211657792 s x ?_ ?_; (on_goal 1 => unfold x); (on_goal 2 => (intro hx; clear_value x)))
    | clear_value x) | with_reducible apply Within.ite
    | (with_reducible apply Within.step (State.updTrain_in _ _ _); decide)
    | (with_reducible apply Within.step (State.updPort_in _ _ _); decide)
    | (with_reducible apply Within.step (State.linkErr_in _ _ _); decide)
    | (with_reducible apply Within.step (State.cnt_in _ _); decide)
    | (with_reducible apply Within.step (State.alLoss_in _ _ _); decide)
    | (with_reducible apply Within.step (State.addCtl_in _ _ _); decide)
    | (with_reducible apply Within.step (State.resyncStreams_in _ _ _); decide)
    | (with_reducible apply Within.step (State.setFld_in _ _ _ _); decide) | split

theorem State.alFrame_in (s a1 a2 a3 a4 a5) : Within 30211657792 s (State.alFrame s a1 a2 a3 a4 a5) := by
  unfold State.alFrame
  repeat' first
    | with_reducible exact .refl _ _ | with_reducible assumption | ((try lift_lets -underBinder); intro x; first
    | (refine Within.cut 30211657792 s x ?_ ?_; (on_goal 1 => unfold x); (on_goal 2 => (intro hx; clear_value x)))
    | clear_value x) | with_reducible apply Within.ite
    | (with_reducible apply Within.step (State.alUncorr_in _ _); decide)
    | (with_reducible apply Within.step (State.alCorrected_in _ _ _); decide)
    | (with_reducible apply Within.step (State.alTraining_in _ _ _ _); decide)
    | (with_reducible apply Within.step (State.alNormal_in _ _ _ _ _); decide)
    | (with_reducible apply Within.step (State.alDiscard_in _ _); decide) | split | dsimp -zeta only

theorem State.alReplay_in (s a1) : Within 30211657792 s (State.alReplay s a1) := by
  unfold State.alReplay
  repeat' first
    | with_reducible exact .refl _ _ | with_reducible assumption | ((try lift_lets -underBinder); intro x; first
    | (refine Within.cut 30211657792 s x ?_ ?_; (on_goal 1 => unfold x); (on_goal 2 => (intro hx; clear_value x)))
    | clear_value x) | with_reducible apply Within.ite
    | (with_reducible apply Within.step (State.updPort_in _ _ _); decide)
    | (with_reducible apply Within.step (State.alLoss_in _ _ _); decide) | split

theorem State.markLate_in (s a1 a2) : Within 4194304 s (State.markLate s a1 a2) := by
  induction a2 generalizing s a1 with
  | nil => exact .refl _ _
  | cons x l ih =>
    unfold State.markLate
    try dsimp -zeta only
    repeat' first
      | with_reducible exact .refl _ _ | with_reducible assumption 
      | (with_reducible apply Within.step (State.updRx_in _ _ _ _); decide)
      | (with_reducible apply Within.step (ih _ _); decide) | split | dsimp -zeta only

theorem execAuditLate_in (a0 s) : WithinR 25782390848 s (execAuditLate a0 s) := by
  unfold execAuditLate
  repeat' first
    | with_reducible exact .refl _ _ | with_reducible assumption  | with_reducible refine Within.next ?_
    | with_reducible exact WithinR.fault _ _ _
    | (with_reducible apply Within.step (State.linkErr_in _ _ _); decide)
    | (with_reducible apply Within.step (State.setFld_in _ _ _ _); decide)
    | (with_reducible apply Within.step (State.markLate_in _ _ _); decide) | split | dsimp -zeta only

theorem execCalibrationRequest_in (a0 s) : WithinR 4194304 s (execCalibrationRequest a0 s) := by
  unfold execCalibrationRequest
  repeat' first
    | with_reducible exact .refl _ _ | with_reducible assumption | ((try lift_lets -underBinder); intro x; first
    | (refine Within.cut 4194304 s x ?_ ?_; (on_goal 1 => unfold x); (on_goal 2 => (intro hx; clear_value x)))
    | clear_value x) | with_reducible apply Within.ite | with_reducible refine Within.next ?_
    | with_reducible exact WithinR.fault _ _ _ | with_reducible apply WithinR.ite
    | (with_reducible apply Within.step (State.addCtl_in _ _ _); decide)
    | (with_reducible apply Within.step (State.updPort_in _ _ _); decide) | split

theorem execCredit_in (a0 a1 s) : WithinR 4194304 s (execCredit a0 a1 s) := by
  unfold execCredit
  repeat' first
    | with_reducible exact .refl _ _ | with_reducible assumption | ((try lift_lets -underBinder); intro x; first
    | (refine Within.cut 4194304 s x ?_ ?_; (on_goal 1 => unfold x); (on_goal 2 => (intro hx; clear_value x)))
    | clear_value x) | with_reducible apply Within.ite | with_reducible refine Within.next ?_
    | with_reducible exact WithinR.fault _ _ _ | with_reducible apply WithinR.ite
    | (with_reducible apply Within.step (State.updTx_in _ _ _ _); decide) | split

theorem execCresync_in (a0 a1 s) : WithinR 4194304 s (execCresync a0 a1 s) := by
  unfold execCresync
  repeat' first
    | with_reducible exact .refl _ _ | with_reducible assumption | ((try lift_lets -underBinder); intro x; first
    | (refine Within.cut 4194304 s x ?_ ?_; (on_goal 1 => unfold x); (on_goal 2 => (intro hx; clear_value x)))
    | clear_value x) | with_reducible apply Within.ite | with_reducible refine Within.next ?_
    | with_reducible exact WithinR.fault _ _ _ | with_reducible apply WithinR.ite
    | (with_reducible apply Within.step (State.addCtl_in _ _ _); decide)
    | (with_reducible apply Within.step (State.updTx_in _ _ _ _); decide) | split

theorem execEpoch_in (a0 a1 s) : WithinR 26046632000 s (execEpoch a0 a1 s) := by
  unfold execEpoch
  repeat' first
    | with_reducible exact .refl _ _ | with_reducible assumption | ((try lift_lets -underBinder); intro x; first
    | (refine Within.cut 26046632000 s x ?_ ?_; (on_goal 1 => unfold x); (on_goal 2 => (intro hx; clear_value x)))
    | clear_value x) | with_reducible apply Within.ite | with_reducible refine Within.next ?_
    | with_reducible exact WithinR.fault _ _ _ | with_reducible apply WithinR.ite
    | (with_reducible apply Within.step (State.setFld_in _ _ _ _); decide)
    | (with_reducible apply Within.step (State.linkTiming_in _ _ _); decide)
    | (with_reducible apply Within.step (State.updTw_in _ _); decide) | split

theorem execInhibitMuteCheck_in (a0 s) : WithinR 4194304 s (execInhibitMuteCheck a0 s) := by
  unfold execInhibitMuteCheck
  repeat' first
    | with_reducible exact .refl _ _ | with_reducible assumption | with_reducible apply Within.ite
    | with_reducible refine Within.next ?_ | with_reducible exact WithinR.fault _ _ _
    | with_reducible apply WithinR.ite | (with_reducible apply Within.step (State.updPort_in _ _ _); decide)
    | split | dsimp -zeta only

theorem execLeTod_in (a0 a1 a2 s) : WithinR 25778196544 s (execLeTod a0 a1 a2 s) := by
  unfold execLeTod
  repeat' first
    | with_reducible exact .refl _ _ | with_reducible assumption | ((try lift_lets -underBinder); intro x; first
    | (refine Within.cut 25778196544 s x ?_ ?_; (on_goal 1 => unfold x); (on_goal 2 => (intro hx; clear_value x)))
    | clear_value x) | with_reducible apply Within.ite | with_reducible refine Within.next ?_
    | with_reducible exact WithinR.fault _ _ _ | with_reducible apply WithinR.ite
    | (with_reducible apply Within.step (State.setFld_in _ _ _ _); decide)
    | (with_reducible apply Within.step (State.linkTiming_in _ _ _); decide)
    | (with_reducible apply Within.step (State.linkProto_in _ _); decide) | split

theorem execLedger_in (a0 a1 s) : WithinR 25782390848 s (execLedger a0 a1 s) := by
  unfold execLedger
  repeat' first
    | with_reducible exact .refl _ _ | with_reducible assumption | ((try lift_lets -underBinder); intro x; first
    | (refine Within.cut 25782390848 s x ?_ ?_; (on_goal 1 => unfold x); (on_goal 2 => (intro hx; clear_value x)))
    | clear_value x) | with_reducible apply Within.ite | with_reducible refine Within.next ?_
    | with_reducible exact WithinR.fault _ _ _ | with_reducible apply WithinR.ite
    | (with_reducible apply Within.step (State.updRx_in _ _ _ _); decide)
    | (with_reducible apply Within.step (State.setFld_in _ _ _ _); decide)
    | (with_reducible apply Within.step (State.addCtl_in _ _ _); decide)
    | (with_reducible apply Within.step (State.resync_in _ _ _ _); decide)
    | (with_reducible apply Within.step (State.linkErr_in _ _ _); decide) | split

theorem execStatus_in (a0 a1 s) : WithinR 25782390848 s (execStatus a0 a1 s) := by
  unfold execStatus
  repeat' first
    | with_reducible exact .refl _ _ | with_reducible assumption | ((try lift_lets -underBinder); intro x; first
    | (refine Within.cut 25782390848 s x ?_ ?_; (on_goal 1 => unfold x); (on_goal 2 => (intro hx; clear_value x)))
    | clear_value x) | with_reducible apply Within.ite | with_reducible refine Within.next ?_
    | with_reducible exact WithinR.fault _ _ _ | with_reducible apply WithinR.ite
    | (with_reducible apply Within.step (State.updPort_in _ _ _); decide)
    | (with_reducible apply Within.step (State.linkErr_in _ _ _); decide)
    | (with_reducible apply Within.step (State.logKind_in _ _ _); decide) | split

end Sys2Proof.Machine
end

