-- ==== Sys2Proof/Laws/InDma.lean ====
section
/-! SUPPORT. What the operations of Machine/Dma.lean may change. -/

namespace Sys2Proof.Machine

set_option linter.unusedTactic false
set_option linter.unreachableTactic false

theorem State.evDma_in (s a1) : Within 25778196544 s (State.evDma s a1) := by
  unfold State.evDma
  repeat' first
    | with_reducible exact .refl _ _ | with_reducible assumption 
    | (with_reducible apply Within.step (State.occurBit_in _ _ _ _ _); decide)

theorem State.setCh_in (s a1 a2) : Within 64 s (State.setCh s a1 a2) := by
  unfold State.setCh
  repeat' first
    | with_reducible exact .refl _ _ | with_reducible assumption | with_reducible apply Within.ite
    | (with_reducible apply Within.step (State.setFld_in _ _ _ _); decide) | split

theorem State.updChan_in (s a1 a2) : Within 1048576 s (State.updChan s a1 a2) := by
  unfold State.updChan
  repeat' first
    | with_reducible exact .refl _ _ | with_reducible assumption 
    | with_reducible refine Within.set_chans rfl ?_

theorem State.toError_in (s a1) : Within 1048640 s (State.toError s a1) := by
  unfold State.toError
  repeat' first
    | with_reducible exact .refl _ _ | with_reducible assumption 
    | (with_reducible apply Within.step (State.setCh_in _ _ _); decide)
    | (with_reducible apply Within.step (State.updChan_in _ _ _); decide)
    | (with_reducible apply Within.step (State.setFld_in _ _ _ _); decide)

theorem State.errCh_in (s a1 a2) : Within 25779245120 s (State.errCh s a1 a2) := by
  unfold State.errCh
  repeat' first
    | with_reducible exact .refl _ _ | with_reducible assumption 
    | (with_reducible apply Within.step (State.evDma_in _ _); decide)
    | (with_reducible apply Within.step (State.toError_in _ _); decide)
    | (with_reducible apply Within.step (State.setFld_in _ _ _ _); decide)

theorem State.stopCh_in (s a1) : Within 1048640 s (State.stopCh s a1) := by
  unfold State.stopCh
  repeat' first
    | with_reducible exact .refl _ _ | with_reducible assumption | ((try lift_lets -underBinder); intro x; first
    | (refine Within.cut 1048640 s x ?_ ?_; (on_goal 1 => unfold x); (on_goal 2 => (intro hx; clear_value x)))
    | clear_value x)  | (with_reducible apply Within.step (State.setFld_in _ _ _ _); decide)
    | (with_reducible apply Within.step (State.setCh_in _ _ _); decide)
    | (with_reducible apply Within.step (State.updChan_in _ _ _); decide)

theorem State.chainNext_in (s a1 a2) : Within 25779245120 s (State.chainNext s a1 a2) := by
  unfold State.chainNext
  repeat' first
    | with_reducible exact .refl _ _ | with_reducible assumption | with_reducible apply Within.ite
    | (with_reducible apply Within.step (State.toError_in _ _); decide)
    | (with_reducible apply Within.step (State.stopCh_in _ _); decide)
    | (with_reducible apply Within.step (State.setCh_in _ _ _); decide)
    | (with_reducible apply Within.step (State.errCh_in _ _ _); decide) | split

theorem State.fresh1_in (s a1) : Within 64 s (State.fresh1 s a1) := by
  unfold State.fresh1
  repeat' first
    | with_reducible exact .refl _ _ | with_reducible assumption 
    | (with_reducible apply Within.step (State.wrW_in _ _ _); decide)
    | (with_reducible apply Within.step (State.setFld_in _ _ _ _); decide)

theorem State.tryRoom_in (s a1) : Within 1064960 s (State.tryRoom s a1) := by
  unfold State.tryRoom
  repeat' first
    | with_reducible exact .refl _ _ | with_reducible assumption | ((try lift_lets -underBinder); intro x; first
    | (refine Within.cut 1064960 s x ?_ ?_; (on_goal 1 => unfold x); (on_goal 2 => (intro hx; clear_value x)))
    | clear_value x) | with_reducible apply Within.ite
    | (with_reducible apply Within.step (State.updChan_in _ _ _); decide)
    | (with_reducible apply Within.step (State.updPail_in _ _ _); decide) | split

theorem State.beginChain_in (s a1) : Within 1064960 s (State.beginChain s a1) := by
  unfold State.beginChain
  repeat' first
    | with_reducible exact .refl _ _ | with_reducible assumption | ((try lift_lets -underBinder); intro x; first
    | (refine Within.cut 1064960 s x ?_ ?_; (on_goal 1 => unfold x); (on_goal 2 => (intro hx; clear_value x)))
    | clear_value x) | with_reducible apply Within.ite
    | (with_reducible apply Within.step (State.updChan_in _ _ _); decide)
    | (with_reducible apply Within.step (State.tryRoom_in _ _); decide) | split

theorem State.addRec_in (s a1 a2) : Within 1048640 s (State.addRec s a1 a2) := by
  unfold State.addRec
  repeat' first
    | with_reducible exact .refl _ _ | with_reducible assumption | ((try lift_lets -underBinder); intro x; first
    | (refine Within.cut 1048640 s x ?_ ?_; (on_goal 1 => unfold x); (on_goal 2 => (intro hx; clear_value x)))
    | clear_value x) | with_reducible apply Within.ite
    | (with_reducible apply Within.step (State.updChan_in _ _ _); decide)
    | (with_reducible apply Within.step (State.setFld_in _ _ _ _); decide) | split

theorem State.dropWork_in (s a1) : Within 16384 s (State.dropWork s a1) := by
  unfold State.dropWork
  repeat' first
    | with_reducible exact .refl _ _ | with_reducible assumption 
    | (with_reducible apply Within.step (State.updPail_in _ _ _); decide) | split | dsimp -zeta only

theorem State.slSignal_in (s a1 a2) : Within 17188257856 s (State.slSignal s a1 a2) := by
  unfold State.slSignal
  repeat' first
    | with_reducible exact .refl _ _ | with_reducible assumption | ((try lift_lets -underBinder); intro x; first
    | (refine Within.cut 17188257856 s x ?_ ?_; (on_goal 1 => unfold x); (on_goal 2 => (intro hx; clear_value x)))
    | clear_value x) | with_reducible apply Within.ite
    | (with_reducible apply Within.step (State.signal_in _ _ _); decide)
    | (with_reducible apply Within.step (State.cnt_in _ _); decide) | split

theorem State.retireBase_in (s a1 a2) : Within 26047696960 s (State.retireBase s a1 a2) := by
  unfold State.retireBase
  repeat' first
    | with_reducible exact .refl _ _ | with_reducible assumption | ((try lift_lets -underBinder); intro x; first
    | (refine Within.cut 26047696960 s x ?_ ?_; (on_goal 1 => unfold x); (on_goal 2 => (intro hx; clear_value x)))
    | clear_value x) | with_reducible apply Within.ite
    | (with_reducible apply Within.step (State.wrW_in _ _ _); decide)
    | (with_reducible apply Within.step (State.setFld_in _ _ _ _); decide)
    | (with_reducible apply Within.step (State.updChan_in _ _ _); decide)
    | (with_reducible apply Within.step (State.dropWork_in _ _); decide)
    | (with_reducible apply Within.step (State.addRec_in _ _ _); decide)
    | (with_reducible apply Within.step (State.slSignal_in _ _ _); decide)
    | (with_reducible apply Within.step (State.evDma_in _ _); decide)
    | (with_reducible apply Within.step (State.evTl_in _ _); decide)
    | (with_reducible apply Within.step (State.updTw_in _ _); decide) | split | dsimp -zeta only

theorem State.goActive_in (s a1) : Within 26047696960 s (State.goActive s a1) := by
  unfold State.goActive
  repeat' first
    | with_reducible exact .refl _ _ | with_reducible assumption | ((try lift_lets -underBinder); intro x; first
    | (refine Within.cut 26047696960 s x ?_ ?_; (on_goal 1 => unfold x); (on_goal 2 => (intro hx; clear_value x)))
    | clear_value x) | with_reducible apply Within.ite
    | (with_reducible apply Within.step (State.fresh1_in _ _); decide)
    | (with_reducible apply Within.step (State.setCh_in _ _ _); decide)
    | (with_reducible apply Within.step (State.chainNext_in _ _ _); decide)
    | (with_reducible apply Within.step (State.retireBase_in _ _ _); decide)
    | (with_reducible apply Within.step (State.beginChain_in _ _); decide) | split

theorem State.loadImage_in (s a1 a2) : WithinP 64 s (State.loadImage s a1 a2) := by
  unfold State.loadImage
  repeat' first
    | with_reducible exact .refl _ _ | with_reducible assumption | ((try lift_lets -underBinder); intro x; first
    | (refine Within.cut 64 s x ?_ ?_; (on_goal 1 => unfold x); (on_goal 2 => (intro hx; clear_value x)))
    | clear_value x)  | with_reducible refine Within.pair ?_
    | (with_reducible apply Within.step (State.wrW_in _ _ _); decide)

theorem State.activate_in (s a1 a2) : Within 26047696960 s (State.activate s a1 a2) := by
  unfold State.activate
  repeat' first
    | with_reducible exact .refl _ _ | with_reducible assumption | ((try lift_lets -underBinder); intro x; first
    | (refine Within.cut 26047696960 s x ?_ ?_; (on_goal 1 => unfold x); (on_goal 2 => (intro hx; clear_value x)))
    | clear_value x) | with_reducible apply Within.ite
    | (with_reducible apply Within.step (State.wrW_in _ _ _); decide)
    | (with_reducible apply Within.step (State.updChan_in _ _ _); decide)
    | refine Within.step (WithinP.out (State.loadImage_in _ _ _) (by assumption)) (by decide) ?_
    | (with_reducible apply Within.step (WithinP.fst (State.loadImage_in _ _ _)); decide)
    | (with_reducible apply Within.step (State.chainNext_in _ _ _); decide)
    | (with_reducible apply Within.step (State.retireBase_in _ _ _); decide)
    | (with_reducible apply Within.step (State.fresh1_in _ _); decide)
    | (with_reducible apply Within.step (State.goActive_in _ _); decide) | split | dsimp -zeta only

theorem State.retire_in (s a1 a2) : Within 26047696960 s (State.retire s a1 a2) := by
  unfold State.retire
  repeat' first
    | with_reducible exact .refl _ _ | with_reducible assumption | ((try lift_lets -underBinder); intro x; first
    | (refine Within.cut 26047696960 s x ?_ ?_; (on_goal 1 => unfold x); (on_goal 2 => (intro hx; clear_value x)))
    | clear_value x) | with_reducible apply Within.ite
    | (with_reducible apply Within.step (State.retireBase_in _ _ _); decide)
    | (with_reducible apply Within.step (State.chainNext_in _ _ _); decide)
    | (with_reducible apply Within.step (State.activate_in _ _ _); decide) | split | dsimp -zeta only

theorem State.failCh_in (s a1 a2) : Within 26047696960 s (State.failCh s a1 a2) := by
  unfold State.failCh
  repeat' first
    | with_reducible exact .refl _ _ | with_reducible assumption | ((try lift_lets -underBinder); intro x; first
    | (refine Within.cut 26047696960 s x ?_ ?_; (on_goal 1 => unfold x); (on_goal 2 => (intro hx; clear_value x)))
    | clear_value x) | with_reducible apply Within.ite
    | (with_reducible apply Within.step (State.updChan_in _ _ _); decide)
    | (with_reducible apply Within.step (State.dropWork_in _ _); decide)
    | (with_reducible apply Within.step (State.addRec_in _ _ _); decide)
    | (with_reducible apply Within.step (State.retire_in _ _ _); decide) | split

theorem State.retireDue_in (s a1) : Within 26047696960 s (State.retireDue s a1) := by
  unfold State.retireDue
  repeat' first
    | with_reducible exact .refl _ _ | with_reducible assumption | ((try lift_lets -underBinder); intro x; first
    | (refine Within.cut 26047696960 s x ?_ ?_; (on_goal 1 => unfold x); (on_goal 2 => (intro hx; clear_value x)))
    | clear_value x) | with_reducible apply Within.ite
    | (with_reducible apply Within.step (State.retire_in _ _ _); decide) | split | dsimp -zeta only

theorem State.endChan_in (s a1 a2) : Within 26047696960 s (State.endChan s a1 a2) := by
  unfold State.endChan
  repeat' first
    | with_reducible exact .refl _ _ | with_reducible assumption | ((try lift_lets -underBinder); intro x; first
    | (refine Within.cut 26047696960 s x ?_ ?_; (on_goal 1 => unfold x); (on_goal 2 => (intro hx; clear_value x)))
    | clear_value x) | with_reducible apply Within.ite
    | (with_reducible apply Within.step (State.retireDue_in _ _); decide)
    | (with_reducible apply Within.step (State.errCh_in _ _ _); decide)
    | (with_reducible apply Within.step (State.toError_in _ _); decide)
    | (with_reducible apply Within.step (State.retireBase_in _ _ _); decide)
    | (with_reducible apply Within.step (State.failCh_in _ _ _); decide) | split

theorem State.endChans_in (s a1 a2) : Within 26047696960 s (State.endChans s a1 a2) := by
  induction a1 generalizing s a2 with
  | nil => exact .refl _ _
  | cons x l ih =>
    unfold State.endChans
    try dsimp -zeta only
    repeat' first
      | with_reducible exact .refl _ _ | with_reducible assumption 
      | (with_reducible apply Within.step (State.endChan_in _ _ _); decide)
      | (with_reducible apply Within.step (ih _ _); decide) | split | dsimp -zeta only

theorem State.updSlice_in (s a1 a2) : Within 2097152 s (State.updSlice s a1 a2) := by
  unfold State.updSlice
  repeat' first
    | with_reducible exact .refl _ _ | with_reducible assumption 
    | with_reducible refine Within.set_slices rfl ?_

theorem State.send_in (s a1 a2) : Within 8598323200 s (State.send s a1 a2) := by
  unfold State.send
  repeat' first
    | with_reducible exact .refl _ _ | with_reducible assumption | with_reducible apply Within.ite
    | (with_reducible apply Within.step (State.emit_in _ _); decide)
    | (with_reducible apply Within.step (State.updLink_in _ _ _); decide) | split

theorem State.useBeats_in (s a1 a2 a3 a4) : Within 2097152 s (State.useBeats s a1 a2 a3 a4) := by
  unfold State.useBeats
  repeat' first
    | with_reducible exact .refl _ _ | with_reducible assumption 
    | (with_reducible apply Within.step (State.updSlice_in _ _ _); decide) | split | dsimp -zeta only

theorem State.askTranslation_in (s a1) : Within 8600420352 s (State.askTranslation s a1) := by
  unfold State.askTranslation
  repeat' first
    | with_reducible exact .refl _ _ | with_reducible assumption | ((try lift_lets -underBinder); intro x; first
    | (refine Within.cut 8600420352 s x ?_ ?_; (on_goal 1 => unfold x); (on_goal 2 => (intro hx; clear_value x)))
    | clear_value x) | with_reducible apply Within.ite
    | (with_reducible apply Within.step (State.useBeats_in _ _ _ _ _); decide)
    | (with_reducible apply Within.step (State.updLink_in _ _ _); decide)
    | (with_reducible apply Within.step (State.send_in _ _ _); decide) | split | dsimp -zeta only

theorem State.startIgn_in (s a1) : Within 17179869248 s (State.startIgn s a1) := by
  unfold State.startIgn
  repeat' first
    | with_reducible exact .refl _ _ | with_reducible assumption 
    | (with_reducible apply Within.step (State.setW1c_in _ _ _); decide)

theorem State.dmaCancel_in (s a1) : Within 26047696960 s (State.dmaCancel s a1) := by
  unfold State.dmaCancel
  repeat' first
    | with_reducible exact .refl _ _ | with_reducible assumption | with_reducible apply Within.ite
    | (with_reducible apply Within.step (State.retire_in _ _ _); decide)
    | (with_reducible apply Within.step (State.startIgn_in _ _); decide) | split

theorem State.dmaClrErr_in (s a1) : Within 64 s (State.dmaClrErr s a1) := by
  unfold State.dmaClrErr
  repeat' first
    | with_reducible exact .refl _ _ | with_reducible assumption | with_reducible apply Within.ite
    | (with_reducible apply Within.step (State.setCh_in _ _ _); decide) | split

theorem State.dmaStart_in (s a1) : Within 26047697984 s (State.dmaStart s a1) := by
  unfold State.dmaStart
  repeat' first
    | with_reducible exact .refl _ _ | with_reducible assumption | ((try lift_lets -underBinder); intro x; first
    | (refine Within.cut 26047697984 s x ?_ ?_; (on_goal 1 => unfold x); (on_goal 2 => (intro hx; clear_value x)))
    | clear_value x) | with_reducible apply Within.ite
    | (with_reducible apply Within.step (State.setHeldWr_in _ _); decide)
    | (with_reducible apply Within.step (State.startIgn_in _ _); decide)
    | (with_reducible apply Within.step (State.setFld_in _ _ _ _); decide)
    | (with_reducible apply Within.step (State.wrW_in _ _ _); decide)
    | (with_reducible apply Within.step (State.updTw_in _ _); decide)
    | (with_reducible apply Within.step (State.chainNext_in _ _ _); decide)
    | (with_reducible apply Within.step (State.retireBase_in _ _ _); decide)
    | (with_reducible apply Within.step (State.fresh1_in _ _); decide)
    | (with_reducible apply Within.step (State.evDma_in _ _); decide)
    | (with_reducible apply Within.step (State.goActive_in _ _); decide) | split | dsimp -zeta only

theorem State.dmaStop_in (s a1) : Within 26047696960 s (State.dmaStop s a1) := by
  unfold State.dmaStop
  repeat' first
    | with_reducible exact .refl _ _ | with_reducible assumption | ((try lift_lets -underBinder); intro x; first
    | (refine Within.cut 26047696960 s x ?_ ?_; (on_goal 1 => unfold x); (on_goal 2 => (intro hx; clear_value x)))
    | clear_value x) | with_reducible apply Within.ite
    | (with_reducible apply Within.step (State.retireDue_in _ _); decide)
    | (with_reducible apply Within.step (State.setFld_in _ _ _ _); decide)
    | (with_reducible apply Within.step (State.stopCh_in _ _); decide) | split

theorem State.dmaCtrl_in (s a1 a2) : Within 26047697984 s (State.dmaCtrl s a1 a2) := by
  unfold State.dmaCtrl
  repeat' first
    | with_reducible exact .refl _ _ | with_reducible assumption | ((try lift_lets -underBinder); intro x; first
    | (refine Within.cut 26047697984 s x ?_ ?_; (on_goal 1 => unfold x); (on_goal 2 => (intro hx; clear_value x)))
    | clear_value x) | with_reducible apply Within.ite
    | (with_reducible apply Within.step (State.dmaClrErr_in _ _); decide)
    | (with_reducible apply Within.step (State.dmaStop_in _ _); decide)
    | (with_reducible apply Within.step (State.dmaCancel_in _ _); decide)
    | (with_reducible apply Within.step (State.dmaStart_in _ _); decide) | split

theorem State.dmaStops_in (s a1) : Within 26047696960 s (State.dmaStops s a1) := by
  induction a1 generalizing s with
  | nil => exact .refl _ _
  | cons x l ih =>
    unfold State.dmaStops
    try dsimp -zeta only
    repeat' first
      | with_reducible exact .refl _ _ | with_reducible assumption 
      | (with_reducible apply Within.step (State.dmaStop_in _ _); decide)
      | (with_reducible apply Within.step (ih _); decide) | split | dsimp -zeta only

theorem State.translate_in (s a1 a2 a3 a4) : WithinP 8388608 s (State.translate s a1 a2 a3 a4) := by
  unfold State.translate
  repeat' first
    | with_reducible exact .refl _ _ | with_reducible assumption | ((try lift_lets -underBinder); intro x; first
    | (refine Within.cut 8388608 s x ?_ ?_; (on_goal 1 => unfold x); (on_goal 2 => (intro hx; clear_value x)))
    | clear_value x) | with_reducible apply Within.ite | with_reducible refine Within.pair ?_
    | with_reducible apply WithinP.ite | (with_reducible apply Within.step (State.updLink_in _ _ _); decide)
    | split | dsimp -zeta only

theorem State.resumeCh_in (s a1) : Within 64 s (State.resumeCh s a1) := by
  unfold State.resumeCh
  repeat' first
    | with_reducible exact .refl _ _ | with_reducible assumption | with_reducible apply Within.ite
    | (with_reducible apply Within.step (State.setFld_in _ _ _ _); decide) | split

theorem State.dropPosted_in (s a1) : Within 17188257856 s (State.dropPosted s a1) := by
  unfold State.dropPosted
  repeat' first
    | with_reducible exact .refl _ _ | with_reducible assumption | ((try lift_lets -underBinder); intro x; first
    | (refine Within.cut 17188257856 s x ?_ ?_; (on_goal 1 => unfold x); (on_goal 2 => (intro hx; clear_value x)))
    | clear_value x) | with_reducible apply Within.ite
    | (with_reducible apply Within.step (State.cnt_in _ _); decide)
    | (with_reducible apply Within.step (State.updLink_in _ _ _); decide)
    | (with_reducible refine Within.foldl _ (fun x y hx => ?_) ?_) | split

theorem State.haltCh_in (s a1) : Within 25778196544 s (State.haltCh s a1) := by
  unfold State.haltCh
  repeat' first
    | with_reducible exact .refl _ _ | with_reducible assumption | ((try lift_lets -underBinder); intro x; first
    | (refine Within.cut 25778196544 s x ?_ ?_; (on_goal 1 => unfold x); (on_goal 2 => (intro hx; clear_value x)))
    | clear_value x) | with_reducible apply Within.ite
    | (with_reducible apply Within.step (State.evDma_in _ _); decide)
    | (with_reducible apply Within.step (State.setFld_in _ _ _ _); decide) | split

theorem State.recPend_in (s a1) : Within 64 s (State.recPend s a1) := by
  unfold State.recPend
  repeat' first
    | with_reducible exact .refl _ _ | with_reducible assumption | with_reducible apply Within.ite
    | (with_reducible apply Within.step (State.setFld_in _ _ _ _); decide) | split

theorem State.stopLink_in (s a1) : Within 25778196544 s (State.stopLink s a1) := by
  unfold State.stopLink
  repeat' first
    | with_reducible exact .refl _ _ | with_reducible assumption | ((try lift_lets -underBinder); intro x; first
    | (refine Within.cut 25778196544 s x ?_ ?_; (on_goal 1 => unfold x); (on_goal 2 => (intro hx; clear_value x)))
    | clear_value x) | with_reducible apply Within.ite
    | (with_reducible apply Within.step (State.haltCh_in _ _); decide)
    | (with_reducible apply Within.step (State.updLink_in _ _ _); decide)
    | (with_reducible apply Within.step (State.dropPosted_in _ _); decide)
    | (with_reducible apply Within.step (State.recPend_in _ _); decide)
    | (with_reducible refine Within.foldl _ (fun x y hx => ?_) ?_) | split

theorem State.goLink_in (s a1) : Within 25778196544 s (State.goLink s a1) := by
  unfold State.goLink
  repeat' first
    | with_reducible exact .refl _ _ | with_reducible assumption | ((try lift_lets -underBinder); intro x; first
    | (refine Within.cut 25778196544 s x ?_ ?_; (on_goal 1 => unfold x); (on_goal 2 => (intro hx; clear_value x)))
    | clear_value x) | with_reducible apply Within.ite
    | (with_reducible apply Within.step (State.stopLink_in _ _); decide)
    | (with_reducible apply Within.step (State.resumeCh_in _ _); decide)
    | (with_reducible apply Within.step (State.updLink_in _ _ _); decide)
    | (with_reducible apply Within.step (State.setFld_in _ _ _ _); decide)
    | (with_reducible apply Within.step (State.sendPending_in _ _); decide)
    | (with_reducible refine Within.foldl _ (fun x y hx => ?_) ?_) | split

theorem State.setBme_in (s a1 a2) : Within 25778196544 s (State.setBme s a1 a2) := by
  unfold State.setBme
  repeat' first
    | with_reducible exact .refl _ _ | with_reducible assumption | ((try lift_lets -underBinder); intro x; first
    | (refine Within.cut 25778196544 s x ?_ ?_; (on_goal 1 => unfold x); (on_goal 2 => (intro hx; clear_value x)))
    | clear_value x) | with_reducible apply Within.ite
    | (with_reducible apply Within.step (State.evHl_in _ _ _); decide)
    | (with_reducible apply Within.step (State.updLink_in _ _ _); decide)
    | (with_reducible apply Within.step (State.goLink_in _ _); decide) | split

theorem State.parseBlocks_in (a0 s a2) : WithinP 1064960 s (State.parseBlocks a0 s a2) := by
  induction a0 generalizing s a2 with
  | zero => exact Within.pair (.refl _ _)
  | succ n ih =>
    unfold State.parseBlocks
    try dsimp -zeta only
    repeat' first
      | with_reducible exact .refl _ _ | with_reducible assumption
      | ((try lift_lets -underBinder); intro x; first
      | (refine Within.cut 1064960 s x ?_ ?_; (on_goal 1 => unfold x); (on_goal 2 => (intro hx; clear_value x)))
      | clear_value x) | with_reducible apply Within.ite | with_reducible refine Within.pair ?_
      | with_reducible apply WithinP.ite | (with_reducible apply Within.step (State.updPail_in _ _ _); decide)
      | (with_reducible apply Within.step (State.updChan_in _ _ _); decide)
      | (with_reducible apply Within.step (ih _ _); decide)
      | (with_reducible apply WithinP.step (ih _ _); decide)
      | (with_reducible apply Within.step (WithinP.fst (ih _ _)); decide)
      | refine Within.step (WithinP.out (ih _ _) (by assumption)) (by decide) ?_ | split | dsimp -zeta only

theorem State.dmaDone_in (s a1) : Within 1048640 s (State.dmaDone s a1) := by
  unfold State.dmaDone
  repeat' first
    | with_reducible exact .refl _ _ | with_reducible assumption | ((try lift_lets -underBinder); intro x; first
    | (refine Within.cut 1048640 s x ?_ ?_; (on_goal 1 => unfold x); (on_goal 2 => (intro hx; clear_value x)))
    | clear_value x) | with_reducible apply Within.ite
    | (with_reducible apply Within.step (State.updChan_in _ _ _); decide)
    | (with_reducible apply Within.step (State.setFld_in _ _ _ _); decide)
    | (with_reducible apply Within.step (State.setCh_in _ _ _); decide)
    | (with_reducible apply Within.step (State.addRec_in _ _ _); decide) | split

theorem State.rxDone_in (s a1) : Within 1048640 s (State.rxDone s a1) := by
  unfold State.rxDone
  repeat' first
    | with_reducible exact .refl _ _ | with_reducible assumption | ((try lift_lets -underBinder); intro x; first
    | (refine Within.cut 1048640 s x ?_ ?_; (on_goal 1 => unfold x); (on_goal 2 => (intro hx; clear_value x)))
    | clear_value x) | with_reducible apply Within.ite
    | (with_reducible apply Within.step (State.dmaDone_in _ _); decide) | split | dsimp -zeta only

theorem State.deliver_in (s a1 a2 a3) : Within 26047696960 s (State.deliver s a1 a2 a3) := by
  unfold State.deliver
  repeat' first
    | with_reducible exact .refl _ _ | with_reducible assumption | ((try lift_lets -underBinder); intro x; first
    | (refine Within.cut 26047696960 s x ?_ ?_; (on_goal 1 => unfold x); (on_goal 2 => (intro hx; clear_value x)))
    | clear_value x) | with_reducible apply Within.ite
    | (with_reducible apply Within.step (State.updChan_in _ _ _); decide)
    | refine Within.step (WithinP.out (State.parseBlocks_in _ _ _) (by assumption)) (by decide) ?_
    | (with_reducible apply Within.step (WithinP.fst (State.parseBlocks_in _ _ _)); decide)
    | (with_reducible apply Within.step (State.failCh_in _ _ _); decide)
    | (with_reducible apply Within.step (State.rxDone_in _ _); decide) | split | dsimp -zeta only

theorem State.dmaHoldOut_in (s a1) : Within 26047696960 s (State.dmaHoldOut s a1) := by
  unfold State.dmaHoldOut
  repeat' first
    | with_reducible exact .refl _ _ | with_reducible assumption | with_reducible apply Within.ite
    | (with_reducible apply Within.step (State.retire_in _ _ _); decide) | split

theorem State.dmaLetGo_in (s a1) : Within 26047696960 s (State.dmaLetGo s a1) := by
  induction a1 generalizing s with
  | nil => exact .refl _ _
  | cons x l ih =>
    unfold State.dmaLetGo
    try dsimp -zeta only
    repeat' first
      | with_reducible exact .refl _ _ | with_reducible assumption | with_reducible apply Within.ite
      | (with_reducible apply Within.step (State.retire_in _ _ _); decide)
      | (with_reducible apply Within.step (State.updChan_in _ _ _); decide)
      | (with_reducible apply Within.step (ih _); decide) | split | dsimp -zeta only

theorem State.firstIssue_in (s a1) : Within 25779245120 s (State.firstIssue s a1) := by
  unfold State.firstIssue
  repeat' first
    | with_reducible exact .refl _ _ | with_reducible assumption | ((try lift_lets -underBinder); intro x; first
    | (refine Within.cut 25779245120 s x ?_ ?_; (on_goal 1 => unfold x); (on_goal 2 => (intro hx; clear_value x)))
    | clear_value x) | with_reducible apply Within.ite
    | (with_reducible apply Within.step (State.updLink_in _ _ _); decide)
    | (with_reducible apply Within.step (State.updChan_in _ _ _); decide)
    | (with_reducible apply Within.step (State.evTl_in _ _); decide) | split

theorem State.served_in (s a1 a2 a3) : Within 2097216 s (State.served s a1 a2 a3) := by
  unfold State.served
  refine Within.step (State.updSlice_in ..) (by decide) (Within.foldl _ (fun x y hx => ?_) (.refl _ _))
  exact Within.ite (Within.step (State.setCh_in ..) (by decide) hx) hx

theorem State.stageBlocks_in (a0 s a2 a3) : Within 25779294272 s (State.stageBlocks a0 s a2 a3) := by
  induction a0 generalizing s a2 a3 with
  | zero => exact .refl _ _
  | succ n ih =>
    unfold State.stageBlocks
    try dsimp -zeta only
    repeat' first
      | with_reducible exact .refl _ _ | with_reducible assumption
      | ((try lift_lets -underBinder); intro x; first
      | (refine Within.cut 25779294272 s x ?_ ?_; (on_goal 1 => unfold x); (on_goal 2 => (intro hx; clear_value x)))
      | clear_value x) | with_reducible apply Within.ite
      | refine Within.step (WithinP.out (State.readErrors_in _ _ _ _) (by assumption)) (by decide) ?_
      | (with_reducible apply Within.step (WithinP.fst (State.readErrors_in _ _ _ _)); decide)
      | (with_reducible apply Within.step (State.freePail_in _ _); decide)
      | (with_reducible apply Within.step (State.updPail_in _ _ _); decide)
      | (with_reducible apply Within.step (State.updChan_in _ _ _); decide)
      | (with_reducible apply Within.step (State.setFld_in _ _ _ _); decide)
      | (with_reducible apply Within.step (ih _ _ _); decide) | split | dsimp -zeta only

theorem State.issueData_in (s a1 a2 a3 a4 a5) : Within 25781391424 s (State.issueData s a1 a2 a3 a4 a5) := by
  unfold State.issueData
  repeat' first
    | with_reducible exact .refl _ _ | with_reducible assumption | ((try lift_lets -underBinder); intro x; first
    | (refine Within.cut 25781391424 s x ?_ ?_; (on_goal 1 => unfold x); (on_goal 2 => (intro hx; clear_value x)))
    | clear_value x) | with_reducible apply Within.ite
    | (with_reducible apply Within.step (State.firstIssue_in _ _); decide)
    | (with_reducible apply Within.step (State.setCh_in _ _ _); decide)
    | (with_reducible apply Within.step (State.served_in _ _ _ _); decide)
    | (with_reducible apply Within.step (State.stageBlocks_in _ _ _ _); decide)
    | (with_reducible apply Within.step (State.useBeats_in _ _ _ _ _); decide)
    | refine Within.step (WithinP.out (State.translate_in _ _ _ _ _) (by assumption)) (by decide) ?_
    | (with_reducible apply Within.step (WithinP.fst (State.translate_in _ _ _ _ _)); decide)
    | (with_reducible apply Within.step (State.send_in _ _ _); decide)
    | (with_reducible apply Within.step (State.updChan_in _ _ _); decide)
    | (with_reducible apply Within.step (State.setFld_in _ _ _ _); decide)
    | (with_reducible apply Within.step (State.dmaDone_in _ _); decide) | split | dsimp -zeta only

theorem execBlockCommit_in (a0 a1 s) : WithinR 25779294272 s (execBlockCommit a0 a1 s) := by
  unfold execBlockCommit
  repeat' first
    | with_reducible exact .refl _ _ | with_reducible assumption | ((try lift_lets -underBinder); intro x; first
    | (refine Within.cut 25779294272 s x ?_ ?_; (on_goal 1 => unfold x); (on_goal 2 => (intro hx; clear_value x)))
    | clear_value x) | with_reducible apply Within.ite | with_reducible refine Within.next ?_
    | with_reducible exact WithinR.fault _ _ _ | with_reducible apply WithinR.ite
    | (with_reducible apply Within.step (State.updPail_in _ _ _); decide)
    | refine Within.step (WithinP.out (State.commitArrival_in _ _ _ _) (by assumption)) (by decide) ?_
    | (with_reducible apply Within.step (WithinP.fst (State.commitArrival_in _ _ _ _)); decide)
    | (with_reducible apply Within.step (State.updChan_in _ _ _); decide)
    | (with_reducible apply Within.step (State.setFld_in _ _ _ _); decide)
    | (with_reducible apply Within.step (State.rxDone_in _ _); decide) | split | dsimp -zeta only

theorem execBusMasterEnableClear_in (a0 s) : WithinR 25778196544 s (execBusMasterEnableClear a0 s) := by
  unfold execBusMasterEnableClear
  repeat' first
    | with_reducible exact .refl _ _ | with_reducible assumption | with_reducible apply Within.ite
    | with_reducible refine Within.next ?_ | with_reducible exact WithinR.fault _ _ _
    | with_reducible apply WithinR.ite | (with_reducible apply Within.step (State.stopLink_in _ _); decide)
    | (with_reducible apply Within.step (State.setBme_in _ _ _); decide) | split

theorem execBusMasterEnableSet_in (a0 s) : WithinR 25778196544 s (execBusMasterEnableSet a0 s) := by
  unfold execBusMasterEnableSet
  repeat' first
    | with_reducible exact .refl _ _ | with_reducible assumption | with_reducible apply Within.ite
    | with_reducible refine Within.next ?_ | with_reducible exact WithinR.fault _ _ _
    | with_reducible apply WithinR.ite | (with_reducible apply Within.step (State.setBme_in _ _ _); decide)
    | split

theorem execDmaCancel_in (a0 s) : WithinR 26047696960 s (execDmaCancel a0 s) := by
  unfold execDmaCancel
  repeat' first
    | with_reducible exact .refl _ _ | with_reducible assumption  | with_reducible refine Within.next ?_
    | with_reducible exact WithinR.fault _ _ _
    | (with_reducible apply Within.step (State.dmaCancel_in _ _); decide)

theorem execDmaChainStart_in (a0 s a2) : WithinR 26047729728 s (execDmaChainStart a0 s a2) := by
  unfold execDmaChainStart
  repeat' first
    | with_reducible exact .refl _ _ | with_reducible assumption | ((try lift_lets -underBinder); intro x; first
    | (refine Within.cut 26047729728 s x ?_ ?_; (on_goal 1 => unfold x); (on_goal 2 => (intro hx; clear_value x)))
    | clear_value x) | with_reducible apply Within.ite | with_reducible refine Within.next ?_
    | with_reducible exact WithinR.fault _ _ _ | with_reducible apply WithinR.ite
    | (with_reducible apply Within.step (State.retire_in _ _ _); decide)
    | refine Within.step (WithinP.out (State.storeErrors_in _ _ _) (by assumption)) (by decide) ?_
    | (with_reducible apply Within.step (WithinP.fst (State.storeErrors_in _ _ _)); decide)
    | (with_reducible apply Within.step (State.failCh_in _ _ _); decide)
    | (with_reducible apply Within.step (State.beginChain_in _ _); decide)
    | (with_reducible apply Within.step (State.stageBlocks_in _ _ _ _); decide) | split | dsimp -zeta only

theorem execDmaClrErr_in (a0 s) : WithinR 64 s (execDmaClrErr a0 s) := by
  unfold execDmaClrErr
  repeat' first
    | with_reducible exact .refl _ _ | with_reducible assumption  | with_reducible refine Within.next ?_
    | with_reducible exact WithinR.fault _ _ _
    | (with_reducible apply Within.step (State.dmaClrErr_in _ _); decide)

theorem execDmaFetch_in (a0 s) : WithinR 8601468992 s (execDmaFetch a0 s) := by
  unfold execDmaFetch
  repeat' first
    | with_reducible exact .refl _ _ | with_reducible assumption | ((try lift_lets -underBinder); intro x; first
    | (refine Within.cut 8601468992 s x ?_ ?_; (on_goal 1 => unfold x); (on_goal 2 => (intro hx; clear_value x)))
    | clear_value x) | with_reducible apply Within.ite | with_reducible refine Within.next ?_
    | with_reducible exact WithinR.fault _ _ _ | with_reducible apply WithinR.ite
    | (with_reducible apply Within.step (State.useBeats_in _ _ _ _ _); decide)
    | (with_reducible apply Within.step (State.served_in _ _ _ _); decide)
    | refine Within.step (WithinP.out (State.translate_in _ _ _ _ _) (by assumption)) (by decide) ?_
    | (with_reducible apply Within.step (WithinP.fst (State.translate_in _ _ _ _ _)); decide)
    | (with_reducible apply Within.step (State.send_in _ _ _); decide)
    | (with_reducible apply Within.step (State.updChan_in _ _ _); decide) | split | dsimp -zeta only

theorem execDmaFetchComplete_in (a0 a1 a2 s) : WithinR 26047696960 s (execDmaFetchComplete a0 a1 a2 s) := by
  unfold execDmaFetchComplete
  repeat' first
    | with_reducible exact .refl _ _ | with_reducible assumption | ((try lift_lets -underBinder); intro x; first
    | (refine Within.cut 26047696960 s x ?_ ?_; (on_goal 1 => unfold x); (on_goal 2 => (intro hx; clear_value x)))
    | clear_value x) | with_reducible apply Within.ite | with_reducible refine Within.next ?_
    | with_reducible exact WithinR.fault _ _ _ | with_reducible apply WithinR.ite
    | (with_reducible apply Within.step (State.updChan_in _ _ _); decide)
    | (with_reducible apply Within.step (State.activate_in _ _ _); decide)
    | (with_reducible apply Within.step (State.errCh_in _ _ _); decide) | split

theorem execDmaMissMaster_in (a0 s) : WithinR 26047696960 s (execDmaMissMaster a0 s) := by
  unfold execDmaMissMaster
  repeat' first
    | with_reducible exact .refl _ _ | with_reducible assumption | with_reducible apply Within.ite
    | with_reducible refine Within.next ?_ | with_reducible exact WithinR.fault _ _ _
    | with_reducible apply WithinR.ite | (with_reducible apply Within.step (State.retire_in _ _ _); decide)
    | split

theorem execDmaReadCompletion_in (a0 a1 a2 a3 s) : WithinR 30342664256 s (execDmaReadCompletion a0 a1 a2 a3 s) := by
  unfold execDmaReadCompletion
  repeat' first
    | with_reducible exact .refl _ _ | with_reducible assumption | with_reducible apply Within.ite
    | with_reducible refine Within.next ?_ | with_reducible exact WithinR.fault _ _ _
    | with_reducible apply WithinR.ite | (with_reducible apply Within.step (State.deliver_in _ _ _ _); decide)
    | (with_reducible apply Within.step (State.aerTlp_in _ _ _); decide)
    | (with_reducible apply Within.step (State.failCh_in _ _ _); decide) | split | dsimp -zeta only

theorem execDmaReadTimeout_in (a0 s) : WithinR 26047696960 s (execDmaReadTimeout a0 s) := by
  unfold execDmaReadTimeout
  repeat' first
    | with_reducible exact .refl _ _ | with_reducible assumption | with_reducible apply Within.ite
    | with_reducible refine Within.next ?_ | with_reducible exact WithinR.fault _ _ _
    | with_reducible apply WithinR.ite | (with_reducible apply Within.step (State.aerUnc_in _ _ _ _); decide)
    | (with_reducible apply Within.step (State.failCh_in _ _ _); decide) | split

theorem execDmaRecordWrite_in (a0 s) : WithinR 25781338176 s (execDmaRecordWrite a0 s) := by
  unfold execDmaRecordWrite
  repeat' first
    | with_reducible exact .refl _ _ | with_reducible assumption | ((try lift_lets -underBinder); intro x; first
    | (refine Within.cut 25781338176 s x ?_ ?_; (on_goal 1 => unfold x); (on_goal 2 => (intro hx; clear_value x)))
    | clear_value x) | with_reducible apply Within.ite | with_reducible refine Within.next ?_
    | with_reducible exact WithinR.fault _ _ _ | with_reducible apply WithinR.ite
    | (with_reducible apply Within.step (State.useBeats_in _ _ _ _ _); decide)
    | (with_reducible apply Within.step (State.served_in _ _ _ _); decide)
    | refine Within.step (WithinP.out (State.translate_in _ _ _ _ _) (by assumption)) (by decide) ?_
    | (with_reducible apply Within.step (WithinP.fst (State.translate_in _ _ _ _ _)); decide)
    | (with_reducible apply Within.step (State.send_in _ _ _); decide)
    | (with_reducible apply Within.step (State.updChan_in _ _ _); decide)
    | (with_reducible apply Within.step (State.setFld_in _ _ _ _); decide)
    | (with_reducible apply Within.step (State.slSignal_in _ _ _); decide) | split | dsimp -zeta only

theorem execDmaReleaseTest_in (a0 s) : WithinR 26047696960 s (execDmaReleaseTest a0 s) := by
  unfold execDmaReleaseTest
  repeat' first
    | with_reducible exact .refl _ _ | with_reducible assumption | ((try lift_lets -underBinder); intro x; first
    | (refine Within.cut 26047696960 s x ?_ ?_; (on_goal 1 => unfold x); (on_goal 2 => (intro hx; clear_value x)))
    | clear_value x) | with_reducible apply Within.ite | with_reducible refine Within.next ?_
    | with_reducible exact WithinR.fault _ _ _ | with_reducible apply WithinR.ite
    | (with_reducible apply Within.step (State.retire_in _ _ _); decide)
    | (with_reducible apply Within.step (State.setCh_in _ _ _); decide)
    | (with_reducible apply Within.step (State.updChan_in _ _ _); decide) | split

theorem execDmaRequestIssue_in (a0 a1 s) : WithinR 26049826880 s (execDmaRequestIssue a0 a1 s) := by
  unfold execDmaRequestIssue
  repeat' first
    | with_reducible exact .refl _ _ | with_reducible assumption | with_reducible apply Within.ite
    | with_reducible refine Within.next ?_ | with_reducible exact WithinR.fault _ _ _
    | with_reducible apply WithinR.ite | (with_reducible apply Within.step (State.retire_in _ _ _); decide)
    | refine Within.step (WithinP.out (State.storeErrors_in _ _ _) (by assumption)) (by decide) ?_
    | (with_reducible apply Within.step (WithinP.fst (State.storeErrors_in _ _ _)); decide)
    | (with_reducible apply Within.step (State.failCh_in _ _ _); decide)
    | (with_reducible apply Within.step (State.issueData_in _ _ _ _ _ _); decide)
    | (with_reducible apply Within.step (State.askTranslation_in _ _); decide) | split | dsimp -zeta only

theorem execDmaRetire_in (a0 s) : WithinR 26047696960 s (execDmaRetire a0 s) := by
  unfold execDmaRetire
  repeat' first
    | with_reducible exact .refl _ _ | with_reducible assumption | with_reducible apply Within.ite
    | with_reducible refine Within.next ?_ | with_reducible exact WithinR.fault _ _ _
    | with_reducible apply WithinR.ite | (with_reducible apply Within.step (State.retireDue_in _ _); decide)
    | (with_reducible apply Within.step (State.dmaDone_in _ _); decide) | split

theorem execDmaRoomReady_in (a0 s) : WithinR 26047696960 s (execDmaRoomReady a0 s) := by
  unfold execDmaRoomReady
  repeat' first
    | with_reducible exact .refl _ _ | with_reducible assumption | ((try lift_lets -underBinder); intro x; first
    | (refine Within.cut 26047696960 s x ?_ ?_; (on_goal 1 => unfold x); (on_goal 2 => (intro hx; clear_value x)))
    | clear_value x) | with_reducible apply Within.ite | with_reducible refine Within.next ?_
    | with_reducible exact WithinR.fault _ _ _ | with_reducible apply WithinR.ite
    | (with_reducible apply Within.step (State.tryRoom_in _ _); decide)
    | (with_reducible apply Within.step (State.retire_in _ _ _); decide) | split | dsimp -zeta only

theorem execDmaStart_in (a0 s) : WithinR 26047697984 s (execDmaStart a0 s) := by
  unfold execDmaStart
  repeat' first
    | with_reducible exact .refl _ _ | with_reducible assumption  | with_reducible refine Within.next ?_
    | with_reducible exact WithinR.fault _ _ _
    | (with_reducible apply Within.step (State.dmaStart_in _ _); decide)

theorem execDmaStopReq_in (a0 s) : WithinR 26047696960 s (execDmaStopReq a0 s) := by
  unfold execDmaStopReq
  repeat' first
    | with_reducible exact .refl _ _ | with_reducible assumption  | with_reducible refine Within.next ?_
    | with_reducible exact WithinR.fault _ _ _
    | (with_reducible apply Within.step (State.dmaStop_in _ _); decide)

end Sys2Proof.Machine
end

