-- ==== Sys2Proof/Laws/InBridge.lean ====
section
/-! SUPPORT. What the operations of Machine/Bridge.lean may change. -/

namespace Sys2Proof.Machine

set_option linter.unusedTactic false
set_option linter.unreachableTactic false

theorem State.after_in (s a1 a2 a3 a4) : Within 8388608 s (State.after s a1 a2 a3 a4) := by
  unfold State.after
  repeat' first
    | with_reducible exact .refl _ _ | with_reducible assumption 
    | (with_reducible apply Within.step (State.updLink_in _ _ _); decide)

theorem State.answer_in (s a1 a2) : Within 4194304 s (State.answer s a1 a2) := by
  unfold State.answer
  repeat' first
    | with_reducible exact .refl _ _ | with_reducible assumption 
    | (with_reducible apply Within.step (State.updPort_in _ _ _); decide)

theorem State.hostUr_in (s a1 a2) : Within 30073163840 s (State.hostUr s a1 a2) := by
  unfold State.hostUr
  repeat' first
    | with_reducible exact .refl _ _ | with_reducible assumption | ((try lift_lets -underBinder); intro x; first
    | (refine Within.cut 30073163840 s x ?_ ?_; (on_goal 1 => unfold x); (on_goal 2 => (intro hx; clear_value x)))
    | clear_value x) | with_reducible apply Within.ite
    | (with_reducible apply Within.step (State.aerTlp_in _ _ _); decide)
    | (with_reducible apply Within.step (State.emit_in _ _); decide) | split

theorem State.issueRead_in (s a1 a2) : WithinP 4194304 s (State.issueRead s a1 a2) := by
  unfold State.issueRead
  repeat' first
    | with_reducible exact .refl _ _ | with_reducible assumption | ((try lift_lets -underBinder); intro x; first
    | (refine Within.cut 4194304 s x ?_ ?_; (on_goal 1 => unfold x); (on_goal 2 => (intro hx; clear_value x)))
    | clear_value x) | with_reducible apply Within.ite | with_reducible refine Within.pair ?_
    | with_reducible apply WithinP.ite | (with_reducible apply Within.step (State.updPort_in _ _ _); decide)
    | split | dsimp -zeta only

theorem State.issueWaiting_in (s a1 a2 a3) : Within 4194304 s (State.issueWaiting s a1 a2 a3) := by
  induction a3 generalizing s a1 a2 with
  | nil => exact .refl _ _
  | cons x l ih =>
    unfold State.issueWaiting
    try dsimp -zeta only
    repeat' first
      | with_reducible exact .refl _ _ | with_reducible assumption | with_reducible apply Within.ite
      | refine Within.step (WithinP.out (State.issueRead_in _ _ _) (by assumption)) (by decide) ?_
      | (with_reducible apply Within.step (WithinP.fst (State.issueRead_in _ _ _)); decide)
      | (with_reducible apply Within.step (State.updPort_in _ _ _); decide)
      | (with_reducible apply Within.step (ih _ _ _); decide) | split | dsimp -zeta only

theorem State.issueReads_in (s a1) : Within 4194304 s (State.issueReads s a1) := by
  unfold State.issueReads
  repeat' first
    | with_reducible exact .refl _ _ | with_reducible assumption 
    | (with_reducible apply Within.step (State.issueWaiting_in _ _ _ _); decide)
    | (with_reducible apply Within.step (State.updPort_in _ _ _); decide)

theorem State.dropLinkReads_in (s a1 a2) : Within 4194304 s (State.dropLinkReads s a1 a2) := by
  unfold State.dropLinkReads
  repeat' first
    | with_reducible exact .refl _ _ | with_reducible assumption | ((try lift_lets -underBinder); intro x; first
    | (refine Within.cut 4194304 s x ?_ ?_; (on_goal 1 => unfold x); (on_goal 2 => (intro hx; clear_value x)))
    | clear_value x) | with_reducible apply Within.ite
    | (with_reducible apply Within.step (State.updPort_in _ _ _); decide)
    | (with_reducible apply Within.step (State.issueReads_in _ _); decide) | split

theorem State.bridgeLinkReset_in (s a1) : Within 4194304 s (State.bridgeLinkReset s a1) := by
  unfold State.bridgeLinkReset
  repeat' first
    | with_reducible exact .refl _ _ | with_reducible assumption 
    | (with_reducible apply Within.step (State.dropLinkReads_in _ _ _); decide)
    | (with_reducible refine Within.foldl _ (fun x y hx => ?_) ?_)

theorem State.bridgeOut_in (s a1 a2) : Within 8602517504 s (State.bridgeOut s a1 a2) := by
  unfold State.bridgeOut
  repeat' first
    | with_reducible exact .refl _ _ | with_reducible assumption | ((try lift_lets -underBinder); intro x; first
    | (refine Within.cut 8602517504 s x ?_ ?_; (on_goal 1 => unfold x); (on_goal 2 => (intro hx; clear_value x)))
    | clear_value x) | with_reducible apply Within.ite
    | (with_reducible apply Within.step (State.emit_in _ _); decide)
    | refine Within.step (WithinP.out (State.translate_in _ _ _ _ _) (by assumption)) (by decide) ?_
    | (with_reducible apply Within.step (WithinP.fst (State.translate_in _ _ _ _ _)); decide)
    | (with_reducible apply Within.step (State.send_in _ _ _); decide)
    | (with_reducible apply Within.step (State.updPort_in _ _ _); decide) | split | dsimp -zeta only

theorem State.laterTick_in (s a1 a2) : Within 8602517504 s (State.laterTick s a1 a2) := by
  induction a2 generalizing s a1 with
  | nil => exact .refl _ _
  | cons x l ih =>
    unfold State.laterTick
    try dsimp -zeta only
    repeat' first
      | with_reducible exact .refl _ _ | with_reducible assumption | with_reducible apply Within.ite
      | (with_reducible apply Within.step (State.bridgeOut_in _ _ _); decide)
      | (with_reducible apply Within.step (State.updLink_in _ _ _); decide)
      | (with_reducible apply Within.step (ih _ _); decide) | split | dsimp -zeta only

theorem State.bridgeTick_in (s a1) : Within 8602517504 s (State.bridgeTick s a1) := by
  unfold State.bridgeTick
  repeat' first
    | with_reducible exact .refl _ _ | with_reducible assumption | ((try lift_lets -underBinder); intro x; first
    | (refine Within.cut 8602517504 s x ?_ ?_; (on_goal 1 => unfold x); (on_goal 2 => (intro hx; clear_value x)))
    | clear_value x) | with_reducible apply Within.ite
    | (with_reducible apply Within.step (State.laterTick_in _ _ _); decide)
    | (with_reducible apply Within.step (State.updLink_in _ _ _); decide) | split

theorem State.busTake_in (s a1 a2 a3) : WithinP 25782390848 s (State.busTake s a1 a2 a3) := by
  unfold State.busTake
  repeat' first
    | with_reducible exact .refl _ _ | with_reducible assumption | ((try lift_lets -underBinder); intro x; first
    | (refine Within.cut 25782390848 s x ?_ ?_; (on_goal 1 => unfold x); (on_goal 2 => (intro hx; clear_value x)))
    | clear_value x) | with_reducible apply Within.ite | with_reducible refine Within.pair ?_
    | with_reducible apply WithinP.ite | (with_reducible apply Within.step (State.addCtl_in _ _ _); decide)
    | (with_reducible apply Within.step (State.updPort_in _ _ _); decide)
    | refine Within.step (WithinP.out (State.takeCredit_in _ _ _ _) (by assumption)) (by decide) ?_
    | (with_reducible apply WithinP.step (State.takeCredit_in _ _ _ _); decide)
    | (with_reducible apply Within.step (WithinP.fst (State.takeCredit_in _ _ _ _)); decide) | split

theorem State.countHrej_in (s a1) : Within 17179869248 s (State.countHrej s a1) := by
  unfold State.countHrej
  repeat' first
    | with_reducible exact .refl _ _ | with_reducible assumption | with_reducible apply Within.ite
    | (with_reducible apply Within.step (State.cnt_in _ _); decide) | split

theorem State.dropRead_in (s a1 a2) : Within 4194304 s (State.dropRead s a1 a2) := by
  unfold State.dropRead
  repeat' first
    | with_reducible exact .refl _ _ | with_reducible assumption | ((try lift_lets -underBinder); intro x; first
    | (refine Within.cut 4194304 s x ?_ ?_; (on_goal 1 => unfold x); (on_goal 2 => (intro hx; clear_value x)))
    | clear_value x) | with_reducible apply Within.ite
    | (with_reducible apply Within.step (State.updPort_in _ _ _); decide)
    | (with_reducible apply Within.step (State.issueReads_in _ _); decide) | split

theorem State.freeRetried_in (s a1) : Within 17184063552 s (State.freeRetried s a1) := by
  unfold State.freeRetried
  repeat' first
    | with_reducible exact .refl _ _ | with_reducible assumption | ((try lift_lets -underBinder); intro x; first
    | (refine Within.cut 17184063552 s x ?_ ?_; (on_goal 1 => unfold x); (on_goal 2 => (intro hx; clear_value x)))
    | clear_value x)  | (with_reducible apply Within.step (State.addCnt_in _ _ _ _); decide)
    | (with_reducible apply Within.step (State.updPort_in _ _ _); decide)

theorem State.localRej_in (s a1) : Within 25778196544 s (State.localRej s a1) := by
  unfold State.localRej
  repeat' first
    | with_reducible exact .refl _ _ | with_reducible assumption 
    | (with_reducible apply Within.step (State.evUm_in _ _); decide)
    | (with_reducible apply Within.step (State.cnt_in _ _); decide)

theorem State.updRetried_in (s a1 a2 a3) : Within 4194304 s (State.updRetried s a1 a2 a3) := by
  unfold State.updRetried
  repeat' first
    | with_reducible exact .refl _ _ | with_reducible assumption | with_reducible apply Within.ite
    | (with_reducible apply Within.step (State.updPort_in _ _ _); decide) | split

theorem execBridgeFetchComplete_in (a0 a1 a2 a3 s) : WithinR 30077358144 s (execBridgeFetchComplete a0 a1 a2 a3 s) := by
  unfold execBridgeFetchComplete
  repeat' first
    | with_reducible exact .refl _ _ | with_reducible assumption | ((try lift_lets -underBinder); intro x; first
    | (refine Within.cut 30077358144 s x ?_ ?_; (on_goal 1 => unfold x); (on_goal 2 => (intro hx; clear_value x)))
    | ((first | (have _t : State → State := x) | (have _t : _ → State → State := x) | (have _t : _ → _ → State → State := x) | (have _t : _ → _ → State × Nat := x) | (have _t : State × Nat := x) | (have _t : State → Nat → State := x) | (have _t : _ → State := x)); clear _t; subst x; beta_reduce)
    | clear_value x) | with_reducible apply Within.ite | with_reducible refine Within.next ?_
    | with_reducible exact WithinR.fault _ _ _ | with_reducible apply WithinR.ite
    | (with_reducible apply Within.step (State.updRetried_in _ _ _ _); decide)
    | (with_reducible apply Within.step (State.aerTlp_in _ _ _); decide) | split | dsimp -zeta only

theorem execBridgeFetchTimeout_in (a0 a1 s) : WithinR 25782390848 s (execBridgeFetchTimeout a0 a1 s) := by
  unfold execBridgeFetchTimeout
  repeat' first
    | with_reducible exact .refl _ _ | with_reducible assumption  | with_reducible refine Within.next ?_
    | with_reducible exact WithinR.fault _ _ _
    | (with_reducible apply Within.step (State.updRetried_in _ _ _ _); decide)
    | (with_reducible apply Within.step (State.aerUnc_in _ _ _ _); decide) | split | dsimp -zeta only

theorem execBridgeHoldExpiry_in (a0 a1 s) : WithinR 25782390848 s (execBridgeHoldExpiry a0 a1 s) := by
  unfold execBridgeHoldExpiry
  repeat' first
    | with_reducible exact .refl _ _ | with_reducible assumption | with_reducible apply Within.ite
    | with_reducible refine Within.next ?_ | with_reducible exact WithinR.fault _ _ _
    | with_reducible apply WithinR.ite | (with_reducible apply Within.step (State.evUm_in _ _); decide)
    | (with_reducible apply Within.step (State.cnt_in _ _); decide)
    | (with_reducible apply Within.step (State.updPort_in _ _ _); decide) | split | dsimp -zeta only

theorem execCpl_in (a0 a1 a2 s) : WithinR 25782390848 s (execCpl a0 a1 a2 s) := by
  unfold execCpl
  repeat' first
    | with_reducible exact .refl _ _ | with_reducible assumption | ((try lift_lets -underBinder); intro x; first
    | (refine Within.cut 25782390848 s x ?_ ?_; (on_goal 1 => unfold x); (on_goal 2 => (intro hx; clear_value x)))
    | clear_value x) | with_reducible apply Within.ite | with_reducible refine Within.next ?_
    | with_reducible exact WithinR.fault _ _ _ | with_reducible apply WithinR.ite
    | refine Within.step (WithinP.out (State.busTake_in _ _ _ _) (by assumption)) (by decide) ?_
    | (with_reducible apply Within.step (WithinP.fst (State.busTake_in _ _ _ _)); decide)
    | (with_reducible apply Within.step (State.cnt_in _ _); decide)
    | (with_reducible apply Within.step (State.after_in _ _ _ _ _); decide)
    | (with_reducible apply Within.step (State.dropRead_in _ _ _); decide)
    | (with_reducible apply Within.step (State.updPort_in _ _ _); decide) | split | dsimp -zeta only

theorem execErr_in (a0 a1 s) : WithinR 30077358144 s (execErr a0 a1 s) := by
  unfold execErr
  repeat' first
    | with_reducible exact .refl _ _ | with_reducible assumption | ((try lift_lets -underBinder); intro x; first
    | (refine Within.cut 30077358144 s x ?_ ?_; (on_goal 1 => unfold x); (on_goal 2 => (intro hx; clear_value x)))
    | clear_value x) | with_reducible apply Within.ite | with_reducible refine Within.next ?_
    | with_reducible exact WithinR.fault _ _ _ | with_reducible apply WithinR.ite
    | refine Within.step (WithinP.out (State.busTake_in _ _ _ _) (by assumption)) (by decide) ?_
    | (with_reducible apply Within.step (WithinP.fst (State.busTake_in _ _ _ _)); decide)
    | (with_reducible apply Within.step (State.cnt_in _ _); decide)
    | (with_reducible apply Within.step (State.dropRead_in _ _ _); decide)
    | (with_reducible apply Within.step (State.emit_in _ _); decide)
    | (with_reducible apply Within.step (State.completeCa_in _ _ _); decide) | split | dsimp -zeta only

theorem execHostBar4Read_in (a0 a1 a2 s) : WithinR 30077358144 s (execHostBar4Read a0 a1 a2 s) := by
  unfold execHostBar4Read
  repeat' first
    | with_reducible exact .refl _ _ | with_reducible assumption | ((try lift_lets -underBinder); intro x; first
    | (refine Within.cut 30077358144 s x ?_ ?_; (on_goal 1 => unfold x); (on_goal 2 => (intro hx; clear_value x)))
    | clear_value x) | with_reducible apply Within.ite | with_reducible refine Within.next ?_
    | with_reducible exact WithinR.fault _ _ _ | with_reducible apply WithinR.ite
    | (with_reducible apply Within.step (State.hostUr_in _ _ _); decide)
    | (with_reducible apply Within.step (State.countHrej_in _ _); decide)
    | (with_reducible apply Within.step (State.emit_in _ _); decide)
    | (with_reducible apply Within.step (State.aerTlp_in _ _ _); decide)
    | (with_reducible apply Within.step (State.issueReads_in _ _); decide)
    | (with_reducible apply Within.step (State.updPort_in _ _ _); decide) | split | dsimp -zeta only

theorem execHostBar4Write_in (a0 a1 a2 s) : WithinR 30077358144 s (execHostBar4Write a0 a1 a2 s) := by
  unfold execHostBar4Write
  repeat' first
    | with_reducible exact .refl _ _ | with_reducible assumption | ((try lift_lets -underBinder); intro x; first
    | (refine Within.cut 30077358144 s x ?_ ?_; (on_goal 1 => unfold x); (on_goal 2 => (intro hx; clear_value x)))
    | clear_value x) | with_reducible apply Within.ite | with_reducible refine Within.next ?_
    | with_reducible exact WithinR.fault _ _ _ | with_reducible apply WithinR.ite
    | (with_reducible apply Within.step (State.hostUr_in _ _ _); decide)
    | (with_reducible apply Within.step (State.countHrej_in _ _); decide)
    | (with_reducible apply Within.step (State.aerTlp_in _ _ _); decide)
    | (with_reducible apply Within.step (State.updPort_in _ _ _); decide) | split | dsimp -zeta only

theorem execHostReadTimeout_in (a0 a1 s) : WithinR 30077358144 s (execHostReadTimeout a0 a1 s) := by
  unfold execHostReadTimeout
  repeat' first
    | with_reducible exact .refl _ _ | with_reducible assumption | with_reducible apply Within.ite
    | with_reducible refine Within.next ?_ | with_reducible exact WithinR.fault _ _ _
    | with_reducible apply WithinR.ite | (with_reducible apply Within.step (State.completeCa_in _ _ _); decide)
    | (with_reducible apply Within.step (State.cnt_in _ _); decide)
    | (with_reducible apply Within.step (State.dropRead_in _ _ _); decide) | split | dsimp -zeta only

theorem execRd_in (a0 a1 a2 s) : WithinR 25782390848 s (execRd a0 a1 a2 s) := by
  unfold execRd
  repeat' first
    | with_reducible exact .refl _ _ | with_reducible assumption | ((try lift_lets -underBinder); intro x; first
    | (refine Within.cut 25782390848 s x ?_ ?_; (on_goal 1 => unfold x); (on_goal 2 => (intro hx; clear_value x)))
    | ((first | (have _t : State → State := x) | (have _t : _ → State → State := x) | (have _t : _ → _ → State → State := x) | (have _t : _ → _ → State × Nat := x) | (have _t : State × Nat := x) | (have _t : State → Nat → State := x) | (have _t : _ → State := x)); clear _t; subst x; beta_reduce)
    | clear_value x) | with_reducible apply Within.ite | with_reducible refine Within.next ?_
    | with_reducible exact WithinR.fault _ _ _ | with_reducible apply WithinR.ite
    | refine Within.step (WithinP.out (State.busTake_in _ _ _ _) (by assumption)) (by decide) ?_
    | (with_reducible apply Within.step (WithinP.fst (State.busTake_in _ _ _ _)); decide)
    | (with_reducible apply Within.step (State.answer_in _ _ _); decide)
    | (with_reducible apply Within.step (State.cnt_in _ _); decide)
    | (with_reducible apply Within.step (State.updPort_in _ _ _); decide)
    | (with_reducible apply Within.step (State.linkProto_in _ _); decide)
    | (with_reducible apply Within.step (State.localRej_in _ _); decide)
    | (with_reducible apply Within.step (State.after_in _ _ _ _ _); decide) | split | dsimp -zeta only

theorem execRetry_in (a0 a1 s) : WithinR 25782390848 s (execRetry a0 a1 s) := by
  unfold execRetry
  repeat' first
    | with_reducible exact .refl _ _ | with_reducible assumption | with_reducible apply Within.ite
    | with_reducible refine Within.next ?_ | with_reducible exact WithinR.fault _ _ _
    | with_reducible apply WithinR.ite
    | refine Within.step (WithinP.out (State.busTake_in _ _ _ _) (by assumption)) (by decide) ?_
    | (with_reducible apply Within.step (WithinP.fst (State.busTake_in _ _ _ _)); decide)
    | (with_reducible apply Within.step (State.linkProto_in _ _); decide) | split | dsimp -zeta only

theorem execWr_in (a0 a1 a2 a3 s) : WithinR 25782390848 s (execWr a0 a1 a2 a3 s) := by
  unfold execWr
  repeat' first
    | with_reducible exact .refl _ _ | with_reducible assumption | ((try lift_lets -underBinder); intro x; first
    | (refine Within.cut 25782390848 s x ?_ ?_; (on_goal 1 => unfold x); (on_goal 2 => (intro hx; clear_value x)))
    | clear_value x) | with_reducible apply Within.ite | with_reducible refine Within.next ?_
    | with_reducible exact WithinR.fault _ _ _ | with_reducible apply WithinR.ite
    | refine Within.step (WithinP.out (State.busTake_in _ _ _ _) (by assumption)) (by decide) ?_
    | (with_reducible apply Within.step (WithinP.fst (State.busTake_in _ _ _ _)); decide)
    | (with_reducible apply Within.step (State.cnt_in _ _); decide)
    | (with_reducible apply Within.step (State.localRej_in _ _); decide)
    | (with_reducible apply Within.step (State.after_in _ _ _ _ _); decide) | split | dsimp -zeta only

end Sys2Proof.Machine
end

