-- ==== Sys2Proof/Laws/InTimeline.lean ====
section
/-! SUPPORT. What the operations of Machine/Timeline.lean may change. -/

namespace Sys2Proof.Machine

set_option linter.unusedTactic false
set_option linter.unreachableTactic false

theorem State.alarmFire_in (s a1 a2) : Within 25778196544 s (State.alarmFire s a1 a2) := by
  unfold State.alarmFire
  repeat' first
    | with_reducible exact .refl _ _ | with_reducible assumption | ((try lift_lets -underBinder); intro x; first
    | (refine Within.cut 25778196544 s x ?_ ?_; (on_goal 1 => unfold x); (on_goal 2 => (intro hx; clear_value x)))
    | clear_value x) | with_reducible apply Within.ite
    | (with_reducible apply Within.step (State.setW1c_in _ _ _); decide)
    | (with_reducible apply Within.step (State.setFld_in _ _ _ _); decide)
    | (with_reducible apply Within.step (State.wrW_in _ _ _); decide)
    | (with_reducible apply Within.step (State.evTl_in _ _); decide) | split

theorem State.alarmsSkipped_in (s a1) : Within 25778196544 s (State.alarmsSkipped s a1) := by
  induction a1 generalizing s with
  | nil => exact .refl _ _
  | cons x l ih =>
    unfold State.alarmsSkipped
    try dsimp -zeta only
    repeat' first
      | with_reducible exact .refl _ _ | with_reducible assumption | with_reducible apply Within.ite
      | (with_reducible apply Within.step (State.alarmFire_in _ _ _); decide)
      | (with_reducible apply Within.step (ih _); decide) | split | dsimp -zeta only

theorem State.updTk_in (s a1) : Within 2048 s (State.updTk s a1) := by
  unfold State.updTk
  repeat' first
    | with_reducible exact .refl _ _ | with_reducible assumption  | with_reducible refine Within.set_tk rfl ?_

theorem State.tlChange_in (s a1 a2) : Within 2048 s (State.tlChange s a1 a2) := by
  unfold State.tlChange
  repeat' first
    | with_reducible exact .refl _ _ | with_reducible assumption | with_reducible apply Within.ite
    | (with_reducible apply Within.step (State.updTk_in _ _); decide) | split | dsimp -zeta only

theorem State.setChange_in (s a1) : Within 2048 s (State.setChange s a1) := by
  unfold State.setChange
  repeat' first
    | with_reducible exact .refl _ _ | with_reducible assumption | with_reducible apply Within.ite
    | (with_reducible apply Within.step (State.tlChange_in _ _ _); decide) | split

theorem State.setCount_in (s a1) : Within 25778198592 s (State.setCount s a1) := by
  unfold State.setCount
  repeat' first
    | with_reducible exact .refl _ _ | with_reducible assumption | ((try lift_lets -underBinder); intro x; first
    | (refine Within.cut 25778198592 s x ?_ ?_; (on_goal 1 => unfold x); (on_goal 2 => (intro hx; clear_value x)))
    | clear_value x) | with_reducible apply Within.ite
    | (with_reducible apply Within.step (State.updTk_in _ _); decide)
    | (with_reducible apply Within.step (State.alarmsSkipped_in _ _); decide) | split

theorem State.setUncert_in (s a1) : Within 2112 s (State.setUncert s a1) := by
  unfold State.setUncert
  repeat' first
    | with_reducible exact .refl _ _ | with_reducible assumption 
    | (with_reducible apply Within.step (State.updTk_in _ _); decide)
    | (with_reducible apply Within.step (State.wrW_in _ _ _); decide)

theorem State.moveTime_in (s a1 a2) : Within 25778198592 s (State.moveTime s a1 a2) := by
  unfold State.moveTime
  repeat' first
    | with_reducible exact .refl _ _ | with_reducible assumption | ((try lift_lets -underBinder); intro x; first
    | (refine Within.cut 25778198592 s x ?_ ?_; (on_goal 1 => unfold x); (on_goal 2 => (intro hx; clear_value x)))
    | clear_value x)  | (with_reducible apply Within.step (State.setCount_in _ _); decide)
    | (with_reducible apply Within.step (State.wrW_in _ _ _); decide)
    | (with_reducible apply Within.step (State.setFld_in _ _ _ _); decide)
    | (with_reducible apply Within.step (State.setUncert_in _ _); decide)
    | (with_reducible apply Within.step (State.updTk_in _ _); decide)
    | (with_reducible apply Within.step (State.setChange_in _ _); decide)
    | (with_reducible apply Within.step (State.evTl_in _ _); decide)

theorem State.applyTlSet_in (s a1 a2) : Within 30089943104 s (State.applyTlSet s a1 a2) := by
  unfold State.applyTlSet
  repeat' first
    | with_reducible exact .refl _ _ | with_reducible assumption 
    | (with_reducible apply Within.step (State.final_in _ _ _ _ _ _); decide)
    | (with_reducible apply Within.step (State.moveTime_in _ _ _); decide)

theorem State.applyTlSets_in (s a1 a2) : Within 30089943104 s (State.applyTlSets s a1 a2) := by
  induction a2 generalizing s a1 with
  | nil => exact .refl _ _
  | cons x l ih =>
    unfold State.applyTlSets
    try dsimp -zeta only
    repeat' first
      | with_reducible exact .refl _ _ | with_reducible assumption 
      | (with_reducible apply Within.step (State.applyTlSet_in _ _ _); decide)
      | (with_reducible apply Within.step (ih _ _); decide) | split | dsimp -zeta only

theorem State.refLost_in (s) : Within 25778198592 s (State.refLost s) := by
  unfold State.refLost
  repeat' first
    | with_reducible exact .refl _ _ | with_reducible assumption | ((try lift_lets -underBinder); intro x; first
    | (refine Within.cut 25778198592 s x ?_ ?_; (on_goal 1 => unfold x); (on_goal 2 => (intro hx; clear_value x)))
    | clear_value x) | with_reducible apply Within.ite
    | (with_reducible apply Within.step (State.setFld_in _ _ _ _); decide)
    | (with_reducible apply Within.step (State.updTk_in _ _); decide)
    | (with_reducible apply Within.step (State.tlChange_in _ _ _); decide)
    | (with_reducible apply Within.step (State.evTl_in _ _); decide) | split

theorem State.tlClrStr_in (s) : Within 64 s (State.tlClrStr s) := by
  unfold State.tlClrStr
  repeat' first
    | with_reducible exact .refl _ _ | with_reducible assumption 
    | (with_reducible apply Within.step (State.wrW_in _ _ _); decide)

theorem State.tlInvalidate_in (s) : Within 30492596288 s (State.tlInvalidate s) := by
  unfold State.tlInvalidate
  repeat' first
    | with_reducible exact .refl _ _ | with_reducible assumption 
    | (with_reducible apply Within.step (State.disarm_in _); decide)
    | (with_reducible apply Within.step (State.tlChange_in _ _ _); decide)
    | (with_reducible apply Within.step (State.setFld_in _ _ _ _); decide)

theorem State.saveTime_in (s) : Within 2048 s (State.saveTime s) := by
  unfold State.saveTime
  repeat' first
    | with_reducible exact .refl _ _ | with_reducible assumption | ((try lift_lets -underBinder); intro x; first
    | (refine Within.cut 2048 s x ?_ ?_; (on_goal 1 => unfold x); (on_goal 2 => (intro hx; clear_value x)))
    | clear_value x) | with_reducible apply Within.ite
    | (with_reducible apply Within.step (State.updTk_in _ _); decide) | split | dsimp -zeta only

theorem State.countQuad_in (s a1) : Within 17179869248 s (State.countQuad s a1) := by
  unfold State.countQuad
  repeat' first
    | with_reducible exact .refl _ _ | with_reducible assumption | with_reducible apply Within.ite
    | (with_reducible apply Within.step (State.addCnt_in _ _ _ _); decide) | split

theorem State.countStretch_in (s) : Within 25778198592 s (State.countStretch s) := by
  unfold State.countStretch
  repeat' first
    | with_reducible exact .refl _ _ | with_reducible assumption | ((try lift_lets -underBinder); intro x; first
    | (refine Within.cut 25778198592 s x ?_ ?_; (on_goal 1 => unfold x); (on_goal 2 => (intro hx; clear_value x)))
    | clear_value x) | with_reducible apply Within.ite
    | (with_reducible apply Within.step (State.addCnt_in _ _ _ _); decide)
    | (with_reducible apply Within.step (State.countQuad_in _ _); decide)
    | (with_reducible apply Within.step (State.updTk_in _ _); decide)
    | (with_reducible apply Within.step (State.evTl_in _ _); decide) | split | dsimp -zeta only

theorem State.coreTick_in (s) : Within 25778198640 s (State.coreTick s) := by
  unfold State.coreTick
  lift_lets
  intro len x
  have h1 : Within 25778198640 s x := by
    unfold x
    split
    · exact Within.step (State.countStretch_in ..) (by decide) (.refl _ _)
    · exact .refl _ _
  clear_value x
  split
  · exact Within.upd (t := x) rfl (by intro p hp; cases p <;> first| rfl| exact absurd hp (by decide)) id id h1
  · exact Within.set_coreQ (by decide) (.refl _ _)

theorem State.setCalDue_in (s a1 a2) : Within 68719476736 s (State.setCalDue s a1 a2) := by
  unfold State.setCalDue
  repeat' first
    | with_reducible exact .refl _ _ | with_reducible assumption 
    | with_reducible refine Within.set_calDue rfl ?_

theorem State.tryLock_in (s) : Within 2048 s (State.tryLock s) := by
  unfold State.tryLock
  repeat' first
    | with_reducible exact .refl _ _ | with_reducible assumption | with_reducible apply Within.ite
    | (with_reducible apply Within.step (State.tlChange_in _ _ _); decide) | split

theorem State.edgeIn_in (s a1 a2) : Within 2112 s (State.edgeIn s a1 a2) := by
  unfold State.edgeIn
  repeat' first
    | with_reducible exact .refl _ _ | with_reducible assumption | ((try lift_lets -underBinder); intro x; first
    | (refine Within.cut 2112 s x ?_ ?_; (on_goal 1 => unfold x); (on_goal 2 => (intro hx; clear_value x)))
    | clear_value x) | with_reducible apply Within.ite
    | (with_reducible apply Within.step (State.wrW_in _ _ _); decide)
    | (with_reducible apply Within.step (State.setFld_in _ _ _ _); decide)
    | (with_reducible apply Within.step (State.updTk_in _ _); decide)
    | (with_reducible apply Within.step (State.tlChange_in _ _ _); decide)
    | (with_reducible apply Within.step (State.tryLock_in _); decide) | split

theorem State.tlStep_in (s a1) : Within 25778198592 s (State.tlStep s a1) := by
  unfold State.tlStep
  repeat' first
    | with_reducible exact .refl _ _ | with_reducible assumption | ((try lift_lets -underBinder); intro x; first
    | (refine Within.cut 25778198592 s x ?_ ?_; (on_goal 1 => unfold x); (on_goal 2 => (intro hx; clear_value x)))
    | clear_value x) | with_reducible apply Within.ite
    | (with_reducible apply Within.step (State.evTl_in _ _); decide)
    | (with_reducible apply Within.step (State.setFld_in _ _ _ _); decide)
    | (with_reducible apply Within.step (State.setCount_in _ _); decide)
    | (with_reducible apply Within.step (State.wrW_in _ _ _); decide)
    | (with_reducible apply Within.step (State.setUncert_in _ _); decide)
    | (with_reducible apply Within.step (State.updTk_in _ _); decide)
    | (with_reducible apply Within.step (State.tlChange_in _ _ _); decide) | split

theorem State.edgeOut_in (s a1) : Within 25778198592 s (State.edgeOut s a1) := by
  unfold State.edgeOut
  repeat' first
    | with_reducible exact .refl _ _ | with_reducible assumption | ((try lift_lets -underBinder); intro x; first
    | (refine Within.cut 25778198592 s x ?_ ?_; (on_goal 1 => unfold x); (on_goal 2 => (intro hx; clear_value x)))
    | clear_value x) | with_reducible apply Within.ite
    | (with_reducible apply Within.step (State.evTl_in _ _); decide)
    | (with_reducible apply Within.step (State.updTk_in _ _); decide)
    | (with_reducible apply Within.step (State.tlChange_in _ _ _); decide)
    | (with_reducible apply Within.step (State.tlStep_in _ _); decide) | split

theorem State.ppsStale_in (s) : Within 64 s (State.ppsStale s) := by
  unfold State.ppsStale
  repeat' first
    | with_reducible exact .refl _ _ | with_reducible assumption | with_reducible apply Within.ite
    | (with_reducible apply Within.step (State.setFld_in _ _ _ _); decide) | split | dsimp -zeta only

theorem State.tick_in (s) : Within 25778198654 s (State.tick s) := by
  unfold State.tick
  lift_lets
  intro x y z gone u
  have h0 : Within 25778198654 s x := Within.upd (t := s) rfl (by intro p hp; cases p <;> first| rfl| exact absurd hp (by decide)) id id (.refl _ _)
  have h1 : Within 25778198654 s y := by
    unfold y
    split
    · exact Within.upd (t := x) rfl (by intro p hp; cases p <;> first| rfl| exact absurd hp (by decide)) id id h0
    · exact Within.set_aonLeft (by decide) h0
  have h2 : Within 25778198654 s z := by
    unfold z
    split
    · exact Within.step (State.coreTick_in ..) (by decide) h1
    · exact h1
  have h3 : Within 25778198654 s u := by
    unfold u
    exact Within.step (State.updTk_in ..) (by decide) h2
  exact Within.ite (Within.step (State.ppsStale_in ..) (by decide) h3) h2

theorem State.setCalBad_in (s a1 a2) : Within 8192 s (State.setCalBad s a1 a2) := by
  unfold State.setCalBad
  repeat' first
    | with_reducible exact .refl _ _ | with_reducible assumption | with_reducible apply Within.ite
    | with_reducible refine Within.set_calBad rfl ?_ | split

theorem State.portCals_in (s a1 a2) : Within 25778204736 s (State.portCals s a1 a2) := by
  induction a2 generalizing s a1 with
  | nil => exact .refl _ _
  | cons x l ih =>
    unfold State.portCals
    try dsimp -zeta only
    repeat' first
      | with_reducible exact .refl _ _ | with_reducible assumption
      | ((try lift_lets -underBinder); intro x; first
      | (refine Within.cut 25778204736 s x ?_ ?_; (on_goal 1 => unfold x); (on_goal 2 => (intro hx; clear_value x)))
      | clear_value x) | with_reducible apply Within.ite
      | (with_reducible apply Within.step (State.wrW_in _ _ _); decide)
      | (with_reducible apply Within.step (State.setCalBad_in _ _ _); decide)
      | (with_reducible apply Within.step (State.evTl_in _ _); decide)
      | (with_reducible apply Within.step (ih _ _); decide) | split | dsimp -zeta only

theorem State.ppsAt_in (s a1) : Within 30089943104 s (State.ppsAt s a1) := by
  unfold State.ppsAt
  repeat' first
    | with_reducible exact .refl _ _ | with_reducible assumption | ((try lift_lets -underBinder); intro x; first
    | (refine Within.cut 30089943104 s x ?_ ?_; (on_goal 1 => unfold x); (on_goal 2 => (intro hx; clear_value x)))
    | clear_value x) | with_reducible apply Within.ite
    | (with_reducible apply Within.step (State.updTk_in _ _); decide)
    | (with_reducible apply Within.step (State.applyTlSets_in _ _ _); decide)
    | (with_reducible apply Within.step (State.edgeIn_in _ _ _); decide)
    | (with_reducible apply Within.step (State.edgeOut_in _ _); decide) | split | dsimp -zeta only

theorem State.ppsEdge_in (s a1) : Within 30089943104 s (State.ppsEdge s a1) := by
  unfold State.ppsEdge
  repeat' first
    | with_reducible exact .refl _ _ | with_reducible assumption 
    | (with_reducible apply Within.step (State.ppsAt_in _ _); decide)

theorem State.reloadTime_in (s) : Within 25778198592 s (State.reloadTime s) := by
  unfold State.reloadTime
  repeat' first
    | with_reducible exact .refl _ _ | with_reducible assumption | ((try lift_lets -underBinder); intro x; first
    | (refine Within.cut 25778198592 s x ?_ ?_; (on_goal 1 => unfold x); (on_goal 2 => (intro hx; clear_value x)))
    | clear_value x) | with_reducible apply Within.ite
    | (with_reducible apply Within.step (State.updTk_in _ _); decide)
    | (with_reducible apply Within.step (State.ppsStale_in _); decide)
    | (with_reducible apply Within.step (State.evTl_in _ _); decide)
    | (with_reducible apply Within.step (State.setFld_in _ _ _ _); decide)
    | (with_reducible apply Within.step (State.wrW_in _ _ _); decide)
    | (with_reducible apply Within.step (State.setUncert_in _ _); decide)
    | (with_reducible apply Within.step (State.tlChange_in _ _ _); decide) | split | dsimp -zeta only

theorem execAlarmFire_in (a0 s) : WithinR 25778196544 s (execAlarmFire a0 s) := by
  unfold execAlarmFire
  repeat' first
    | with_reducible exact .refl _ _ | with_reducible assumption | with_reducible apply Within.ite
    | with_reducible refine Within.next ?_ | with_reducible exact WithinR.fault _ _ _
    | with_reducible apply WithinR.ite | (with_reducible apply Within.step (State.alarmFire_in _ _ _); decide)
    | split

theorem execAonRatioMeasure_in (a0 s) : WithinR 2112 s (execAonRatioMeasure a0 s) := by
  unfold execAonRatioMeasure
  repeat' first
    | with_reducible exact .refl _ _ | with_reducible assumption | ((try lift_lets -underBinder); intro x; first
    | (refine Within.cut 2112 s x ?_ ?_; (on_goal 1 => unfold x); (on_goal 2 => (intro hx; clear_value x)))
    | clear_value x) | with_reducible apply Within.ite | with_reducible refine Within.next ?_
    | with_reducible exact WithinR.fault _ _ _ | with_reducible apply WithinR.ite
    | (with_reducible apply Within.step (State.updTk_in _ _); decide)
    | (with_reducible apply Within.step (State.setFld_in _ _ _ _); decide)
    | (with_reducible apply Within.step (State.wrW_in _ _ _); decide) | split

theorem execPllLockAcquired_in (s) : WithinR 2112 s (execPllLockAcquired s) := by
  unfold execPllLockAcquired
  repeat' first
    | with_reducible exact .refl _ _ | with_reducible assumption | ((try lift_lets -underBinder); intro x; first
    | (refine Within.cut 2112 s x ?_ ?_; (on_goal 1 => unfold x); (on_goal 2 => (intro hx; clear_value x)))
    | clear_value x) | with_reducible apply Within.ite | with_reducible refine Within.next ?_
    | with_reducible exact WithinR.fault _ _ _ | with_reducible apply WithinR.ite
    | (with_reducible apply Within.step (State.setFld_in _ _ _ _); decide)
    | (with_reducible apply Within.step (State.tlChange_in _ _ _); decide)
    | (with_reducible apply Within.step (State.tryLock_in _); decide) | split

theorem execPllLockLost_in (s) : WithinR 2112 s (execPllLockLost s) := by
  unfold execPllLockLost
  repeat' first
    | with_reducible exact .refl _ _ | with_reducible assumption | with_reducible apply Within.ite
    | with_reducible refine Within.next ?_ | with_reducible exact WithinR.fault _ _ _
    | with_reducible apply WithinR.ite | (with_reducible apply Within.step (State.tlChange_in _ _ _); decide)
    | (with_reducible apply Within.step (State.setFld_in _ _ _ _); decide) | split

theorem execPortCalibration_in (a0 a1 s) : WithinR 94497681472 s (execPortCalibration a0 a1 s) := by
  unfold execPortCalibration
  repeat' first
    | with_reducible exact .refl _ _ | with_reducible assumption | ((try lift_lets -underBinder); intro x; first
    | (refine Within.cut 94497681472 s x ?_ ?_; (on_goal 1 => unfold x); (on_goal 2 => (intro hx; clear_value x)))
    | clear_value x) | with_reducible apply Within.ite | with_reducible refine Within.next ?_
    | with_reducible exact WithinR.fault _ _ _ | with_reducible apply WithinR.ite
    | (with_reducible apply Within.step (State.portCals_in _ _ _); decide)
    | (with_reducible apply Within.step (State.setCalDue_in _ _ _); decide) | split

theorem execPpsEdge_in (a0 s) : WithinR 30089943104 s (execPpsEdge a0 s) := by
  unfold execPpsEdge
  repeat' first
    | with_reducible exact .refl _ _ | with_reducible assumption | with_reducible apply Within.ite
    | with_reducible refine Within.next ?_ | with_reducible exact WithinR.fault _ _ _
    | with_reducible apply WithinR.ite | (with_reducible apply Within.step (State.ppsEdge_in _ _); decide)
    | (with_reducible apply Within.step (State.updTk_in _ _); decide) | split

theorem execPpsMiss_in (s) : WithinR 25778198592 s (execPpsMiss s) := by
  unfold execPpsMiss
  repeat' first
    | with_reducible exact .refl _ _ | with_reducible assumption | ((try lift_lets -underBinder); intro x; first
    | (refine Within.cut 25778198592 s x ?_ ?_; (on_goal 1 => unfold x); (on_goal 2 => (intro hx; clear_value x)))
    | clear_value x) | with_reducible apply Within.ite | with_reducible refine Within.next ?_
    | with_reducible exact WithinR.fault _ _ _ | with_reducible apply WithinR.ite
    | (with_reducible apply Within.step (State.setFld_in _ _ _ _); decide)
    | (with_reducible apply Within.step (State.updTk_in _ _); decide)
    | (with_reducible apply Within.step (State.evTl_in _ _); decide)
    | (with_reducible apply Within.step (State.tlChange_in _ _ _); decide) | split

theorem execRefDeclaredAbsent_in (s) : WithinR 25778198592 s (execRefDeclaredAbsent s) := by
  unfold execRefDeclaredAbsent
  repeat' first
    | with_reducible exact .refl _ _ | with_reducible assumption  | with_reducible refine Within.next ?_
    | with_reducible exact WithinR.fault _ _ _ | (with_reducible apply Within.step (State.refLost_in _); decide)

theorem execRefDeclaredPresent_in (s) : WithinR 25778196544 s (execRefDeclaredPresent s) := by
  unfold execRefDeclaredPresent
  repeat' first
    | with_reducible exact .refl _ _ | with_reducible assumption | ((try lift_lets -underBinder); intro x; first
    | (refine Within.cut 25778196544 s x ?_ ?_; (on_goal 1 => unfold x); (on_goal 2 => (intro hx; clear_value x)))
    | clear_value x) | with_reducible apply Within.ite | with_reducible refine Within.next ?_
    | with_reducible exact WithinR.fault _ _ _ | with_reducible apply WithinR.ite
    | (with_reducible apply Within.step (State.setFld_in _ _ _ _); decide)
    | (with_reducible apply Within.step (State.evTl_in _ _); decide) | split

theorem execStretchEpisodeEnd_in (s) : WithinR 2112 s (execStretchEpisodeEnd s) := by
  unfold execStretchEpisodeEnd
  repeat' first
    | with_reducible exact .refl _ _ | with_reducible assumption  | with_reducible refine Within.next ?_
    | with_reducible exact WithinR.fault _ _ _
    | (with_reducible apply Within.step (State.setFld_in _ _ _ _); decide)
    | (with_reducible apply Within.step (State.updTk_in _ _); decide) | split | dsimp -zeta only

theorem execStretchEpisodeStart_in (a0 s) : WithinR 2112 s (execStretchEpisodeStart a0 s) := by
  unfold execStretchEpisodeStart
  repeat' first
    | with_reducible exact .refl _ _ | with_reducible assumption | ((try lift_lets -underBinder); intro x; first
    | (refine Within.cut 2112 s x ?_ ?_; (on_goal 1 => unfold x); (on_goal 2 => (intro hx; clear_value x)))
    | clear_value x) | with_reducible apply Within.ite | with_reducible refine Within.next ?_
    | with_reducible exact WithinR.fault _ _ _ | with_reducible apply WithinR.ite
    | (with_reducible apply Within.step (State.updTk_in _ _); decide)
    | (with_reducible apply Within.step (State.setFld_in _ _ _ _); decide) | split | dsimp -zeta only

theorem execTlCtrlClrStr_in (s) : WithinR 64 s (execTlCtrlClrStr s) := by
  unfold execTlCtrlClrStr
  repeat' first
    | with_reducible exact .refl _ _ | with_reducible assumption | with_reducible apply Within.ite
    | with_reducible refine Within.next ?_ | with_reducible exact WithinR.fault _ _ _
    | with_reducible apply WithinR.ite | (with_reducible apply Within.step (State.tlClrStr_in _); decide)
    | split

theorem execTlCtrlInvalidate_in (s) : WithinR 30492596288 s (execTlCtrlInvalidate s) := by
  unfold execTlCtrlInvalidate
  repeat' first
    | with_reducible exact .refl _ _ | with_reducible assumption | with_reducible apply Within.ite
    | with_reducible refine Within.next ?_ | with_reducible exact WithinR.fault _ _ _
    | with_reducible apply WithinR.ite | (with_reducible apply Within.step (State.tlInvalidate_in _); decide)
    | split

theorem execTlSetTimeout_in (s) : WithinR 21491619904 s (execTlSetTimeout s) := by
  unfold execTlSetTimeout
  repeat' first
    | with_reducible exact .refl _ _ | with_reducible assumption | with_reducible apply Within.ite
    | with_reducible refine Within.next ?_ | with_reducible exact WithinR.fault _ _ _
    | with_reducible apply WithinR.ite | (with_reducible apply Within.step (State.final_in _ _ _ _ _ _); decide)
    | (with_reducible apply Within.step (State.updTk_in _ _); decide) | split | dsimp -zeta only

theorem execTlUncertGrowth_in (s) : WithinR 2112 s (execTlUncertGrowth s) := by
  unfold execTlUncertGrowth
  repeat' first
    | with_reducible exact .refl _ _ | with_reducible assumption | with_reducible apply Within.ite
    | with_reducible refine Within.next ?_ | with_reducible exact WithinR.fault _ _ _
    | with_reducible apply WithinR.ite | (with_reducible apply Within.step (State.updTk_in _ _); decide)
    | (with_reducible apply Within.step (State.wrW_in _ _ _); decide) | split

end Sys2Proof.Machine
end

