-- ==== Sys2Proof/Laws/InAlink.lean ====
section
/-! SUPPORT. What the operations of Machine/Alink.lean may change. -/

namespace Sys2Proof.Machine

set_option linter.unusedTactic false
set_option linter.unreachableTactic false

theorem State.ctlSent_in (s a1 a2) : Within 4194304 s (State.ctlSent s a1 a2) := by
  unfold State.ctlSent
  repeat' first
    | with_reducible exact .refl _ _ | with_reducible assumption | ((try lift_lets -underBinder); intro x; first
    | (refine Within.cut 4194304 s x ?_ ?_; (on_goal 1 => unfold x); (on_goal 2 => (intro hx; clear_value x)))
    | clear_value x) | with_reducible apply Within.ite
    | (with_reducible apply Within.step (State.updPort_in _ _ _); decide)
    | (with_reducible apply Within.step (State.updRx_in _ _ _ _); decide)
    | (with_reducible apply Within.step (State.addCtl_in _ _ _); decide)
    | (with_reducible apply Within.step (State.updTx_in _ _ _ _); decide) | split | dsimp -zeta only

theorem State.updBlock_in (s a1 a2 a3) : Within 16384 s (State.updBlock s a1 a2 a3) := by
  unfold State.updBlock
  repeat' first
    | with_reducible exact .refl _ _ | with_reducible assumption | with_reducible apply Within.ite
    | (with_reducible apply Within.step (State.updPail_in _ _ _); decide) | split

theorem State.missBlock_in (s a1 a2) : Within 25778212928 s (State.missBlock s a1 a2) := by
  unfold State.missBlock
  repeat' first
    | with_reducible exact .refl _ _ | with_reducible assumption | ((try lift_lets -underBinder); intro x; first
    | (refine Within.cut 25778212928 s x ?_ ?_; (on_goal 1 => unfold x); (on_goal 2 => (intro hx; clear_value x)))
    | clear_value x)  | (with_reducible apply Within.step (State.updBlock_in _ _ _ _); decide)
    | (with_reducible apply Within.step (State.freePail_in _ _); decide)
    | (with_reducible apply Within.step (State.missTx_in _ _ _); decide)

theorem State.fillCtl_in (s a1 a2 a3 a4 a5) : WithinP 4194304 s (State.fillCtl s a1 a2 a3 a4 a5) := by
  induction a4 generalizing s a1 a2 a3 a5 with
  | nil => exact Within.pair (.refl _ _)
  | cons x l ih =>
    unfold State.fillCtl
    try dsimp -zeta only
    repeat' first
      | with_reducible exact .refl _ _ | with_reducible assumption
      | ((try lift_lets -underBinder); intro x; first
      | (refine Within.cut 4194304 s x ?_ ?_; (on_goal 1 => unfold x); (on_goal 2 => (intro hx; clear_value x)))
      | clear_value x) | with_reducible apply Within.ite | with_reducible refine Within.pair ?_
      | with_reducible apply WithinP.ite | (with_reducible apply Within.step (State.ctlSent_in _ _ _); decide)
      | (with_reducible apply Within.step (ih _ _ _ _ _); decide)
      | (with_reducible apply WithinP.step (ih _ _ _ _ _); decide)
      | (with_reducible apply Within.step (WithinP.fst (ih _ _ _ _ _)); decide)
      | refine Within.step (WithinP.out (ih _ _ _ _ _) (by assumption)) (by decide) ?_ | split
      | dsimp -zeta only

theorem State.noteInh_in (s a1 a2) : Within 4194304 s (State.noteInh s a1 a2) := by
  unfold State.noteInh
  repeat' first
    | with_reducible exact .refl _ _ | with_reducible assumption | with_reducible apply Within.ite
    | (with_reducible apply Within.step (State.updPort_in _ _ _); decide) | split

theorem State.sendBus_in (s a1 a2) : WithinP 4194304 s (State.sendBus s a1 a2) := by
  unfold State.sendBus
  repeat' first
    | with_reducible exact .refl _ _ | with_reducible assumption | ((try lift_lets -underBinder); intro x; first
    | (refine Within.cut 4194304 s x ?_ ?_; (on_goal 1 => unfold x); (on_goal 2 => (intro hx; clear_value x)))
    | clear_value x) | with_reducible apply Within.ite | with_reducible refine Within.pair ?_
    | with_reducible apply WithinP.ite | (with_reducible apply Within.step (State.updTx_in _ _ _ _); decide)
    | (with_reducible apply Within.step (State.updPort_in _ _ _); decide) | split

theorem State.placeBus_in (s a1 a2 a3 a4) : WithinP 25782390848 s (State.placeBus s a1 a2 a3 a4) := by
  induction a4 generalizing s a1 a2 a3 with
  | nil => exact Within.pair (.refl _ _)
  | cons x l ih =>
    unfold State.placeBus
    try dsimp -zeta only
    repeat' first
      | with_reducible exact .refl _ _ | with_reducible assumption
      | ((try lift_lets -underBinder); intro x; first
      | (refine Within.cut 25782390848 s x ?_ ?_; (on_goal 1 => unfold x); (on_goal 2 => (intro hx; clear_value x)))
      | clear_value x) | with_reducible apply Within.ite | with_reducible refine Within.pair ?_
      | with_reducible apply WithinP.ite | (with_reducible apply Within.step (State.updPort_in _ _ _); decide)
      | (with_reducible apply Within.step (State.linkErr_in _ _ _); decide)
      | (with_reducible apply Within.step (State.cnt_in _ _); decide)
      | refine Within.step (WithinP.out (State.sendBus_in _ _ _) (by assumption)) (by decide) ?_
      | (with_reducible apply WithinP.step (State.sendBus_in _ _ _); decide)
      | (with_reducible apply Within.step (WithinP.fst (State.sendBus_in _ _ _)); decide)
      | (with_reducible apply Within.step (ih _ _ _ _); decide)
      | (with_reducible apply WithinP.step (ih _ _ _ _); decide)
      | (with_reducible apply Within.step (WithinP.fst (ih _ _ _ _)); decide)
      | refine Within.step (WithinP.out (ih _ _ _ _) (by assumption)) (by decide) ?_ | split | dsimp -zeta only

theorem State.placeCtl_in (s a1 a2 a3 a4 a5) : WithinP 4194304 s (State.placeCtl s a1 a2 a3 a4 a5) := by
  induction a4 generalizing s a1 a2 a3 a5 with
  | nil => exact Within.pair (.refl _ _)
  | cons x l ih =>
    unfold State.placeCtl
    try dsimp -zeta only
    repeat' first
      | with_reducible exact .refl _ _ | with_reducible assumption | with_reducible apply Within.ite
      | with_reducible refine Within.pair ?_ | with_reducible apply WithinP.ite
      | refine Within.step (WithinP.out (State.fillCtl_in _ _ _ _ _ _) (by assumption)) (by decide) ?_
      | (with_reducible apply WithinP.step (State.fillCtl_in _ _ _ _ _ _); decide)
      | (with_reducible apply Within.step (WithinP.fst (State.fillCtl_in _ _ _ _ _ _)); decide)
      | (with_reducible apply Within.step (ih _ _ _ _ _); decide)
      | (with_reducible apply WithinP.step (ih _ _ _ _ _); decide)
      | (with_reducible apply Within.step (WithinP.fst (ih _ _ _ _ _)); decide)
      | refine Within.step (WithinP.out (ih _ _ _ _ _) (by assumption)) (by decide) ?_ | split
      | dsimp -zeta only

theorem State.placeItems_in (s a1 a2 a3 a4) : WithinP 25778212928 s (State.placeItems s a1 a2 a3 a4) := by
  induction a4 generalizing s a1 a2 a3 with
  | nil => exact Within.pair (.refl _ _)
  | cons x l ih =>
    unfold State.placeItems
    try dsimp -zeta only
    repeat' first
      | with_reducible exact .refl _ _ | with_reducible assumption
      | ((try lift_lets -underBinder); intro x; first
      | (refine Within.cut 25778212928 s x ?_ ?_; (on_goal 1 => unfold x); (on_goal 2 => (intro hx; clear_value x)))
      | clear_value x) | with_reducible apply Within.ite | with_reducible refine Within.pair ?_
      | with_reducible apply WithinP.ite
      | (with_reducible apply Within.step (State.updBlock_in _ _ _ _); decide)
      | (with_reducible apply Within.step (State.evTl_in _ _); decide)
      | (with_reducible apply Within.step (State.updPail_in _ _ _); decide)
      | (with_reducible apply Within.step (State.freePail_in _ _); decide)
      | (with_reducible apply Within.step (ih _ _ _ _); decide)
      | (with_reducible apply WithinP.step (ih _ _ _ _); decide)
      | (with_reducible apply Within.step (WithinP.fst (ih _ _ _ _)); decide)
      | refine Within.step (WithinP.out (ih _ _ _ _) (by assumption)) (by decide) ?_ | split | dsimp -zeta only

theorem State.slotBus_in (s a1 a2 a3 a4) : WithinP 25782390848 s (State.slotBus s a1 a2 a3 a4) := by
  unfold State.slotBus
  repeat' first
    | with_reducible exact .refl _ _ | with_reducible assumption | with_reducible apply Within.ite
    | with_reducible refine Within.pair ?_ | with_reducible apply WithinP.ite
    | refine Within.step (WithinP.out (State.placeBus_in _ _ _ _ _) (by assumption)) (by decide) ?_
    | (with_reducible apply WithinP.step (State.placeBus_in _ _ _ _ _); decide)
    | (with_reducible apply Within.step (WithinP.fst (State.placeBus_in _ _ _ _ _)); decide) | split

theorem State.slotCtl_in (s a1 a2 a3) : WithinP 4194304 s (State.slotCtl s a1 a2 a3) := by
  unfold State.slotCtl
  repeat' first
    | with_reducible exact .refl _ _ | with_reducible assumption | ((try lift_lets -underBinder); intro x; first
    | (refine Within.cut 4194304 s x ?_ ?_; (on_goal 1 => unfold x); (on_goal 2 => (intro hx; clear_value x)))
    | clear_value x) | with_reducible apply Within.ite | with_reducible refine Within.pair ?_
    | with_reducible apply WithinP.ite
    | refine Within.step (WithinP.out (State.placeCtl_in _ _ _ _ _ _) (by assumption)) (by decide) ?_
    | (with_reducible apply WithinP.step (State.placeCtl_in _ _ _ _ _ _); decide)
    | (with_reducible apply Within.step (WithinP.fst (State.placeCtl_in _ _ _ _ _ _)); decide)
    | (with_reducible apply Within.step (State.updPort_in _ _ _); decide) | split | dsimp -zeta only

theorem State.testAwaited_in (s a1 a2) : Within 25778212928 s (State.testAwaited s a1 a2) := by
  induction a2 generalizing s a1 with
  | nil => exact .refl _ _
  | cons x l ih =>
    unfold State.testAwaited
    try dsimp -zeta only
    repeat' first
      | with_reducible exact .refl _ _ | with_reducible assumption | with_reducible apply Within.ite
      | (with_reducible apply Within.step (State.missAhead_in _ _ _); decide)
      | (with_reducible apply Within.step (ih _ _); decide) | split | dsimp -zeta only

theorem State.testRelease_in (s a1 a2) : Within 25778212928 s (State.testRelease s a1 a2) := by
  unfold State.testRelease
  repeat' first
    | with_reducible exact .refl _ _ | with_reducible assumption | with_reducible apply Within.ite
    | (with_reducible apply Within.step (State.missBlock_in _ _ _); decide)
    | (with_reducible apply Within.step (State.updBlock_in _ _ _ _); decide) | split | dsimp -zeta only

theorem State.testReleases_in (s a1 a2) : Within 25778212928 s (State.testReleases s a1 a2) := by
  induction a2 generalizing s a1 with
  | nil => exact .refl _ _
  | cons x l ih =>
    unfold State.testReleases
    try dsimp -zeta only
    repeat' first
      | with_reducible exact .refl _ _ | with_reducible assumption 
      | (with_reducible apply Within.step (State.testRelease_in _ _ _); decide)
      | (with_reducible apply Within.step (ih _ _); decide) | split | dsimp -zeta only

theorem State.testPails_in (s a1) : Within 25778212928 s (State.testPails s a1) := by
  induction a1 generalizing s with
  | nil => exact .refl _ _
  | cons x l ih =>
    unfold State.testPails
    try dsimp -zeta only
    repeat' first
      | with_reducible exact .refl _ _ | with_reducible assumption 
      | (with_reducible apply Within.step (State.testAwaited_in _ _ _); decide)
      | (with_reducible apply Within.step (State.testReleases_in _ _ _); decide)
      | (with_reducible apply Within.step (ih _); decide) | split | dsimp -zeta only

theorem State.slotTx_in (s a1 a2) : WithinP 25778212928 s (State.slotTx s a1 a2) := by
  unfold State.slotTx
  repeat' first
    | with_reducible exact .refl _ _ | with_reducible assumption | ((try lift_lets -underBinder); intro x; first
    | (refine Within.cut 25778212928 s x ?_ ?_; (on_goal 1 => unfold x); (on_goal 2 => (intro hx; clear_value x)))
    | clear_value x) | with_reducible apply Within.ite | with_reducible refine Within.pair ?_
    | with_reducible apply WithinP.ite | (with_reducible apply Within.step (State.testPails_in _ _); decide)
    | refine Within.step (WithinP.out (State.placeItems_in _ _ _ _ _) (by assumption)) (by decide) ?_
    | (with_reducible apply WithinP.step (State.placeItems_in _ _ _ _ _); decide)
    | (with_reducible apply Within.step (WithinP.fst (State.placeItems_in _ _ _ _ _)); decide) | split

theorem execAlinkSlotSend_in (a0 s) : WithinR 25782407232 s (execAlinkSlotSend a0 s) := by
  unfold execAlinkSlotSend
  repeat' first
    | with_reducible exact .refl _ _ | with_reducible assumption | ((try lift_lets -underBinder); intro x; first
    | (refine Within.cut 25782407232 s x ?_ ?_; (on_goal 1 => unfold x); (on_goal 2 => (intro hx; clear_value x)))
    | clear_value x) | with_reducible apply Within.ite | with_reducible refine Within.next ?_
    | with_reducible exact WithinR.fault _ _ _ | with_reducible apply WithinR.ite
    | (with_reducible apply Within.step (State.noteInh_in _ _ _); decide)
    | (with_reducible apply Within.step (State.emit_in _ _); decide)
    | refine Within.step (WithinP.out (State.slotTx_in _ _ _) (by assumption)) (by decide) ?_
    | (with_reducible apply Within.step (WithinP.fst (State.slotTx_in _ _ _)); decide)
    | refine Within.step (WithinP.out (State.slotCtl_in _ _ _ _) (by assumption)) (by decide) ?_
    | (with_reducible apply Within.step (WithinP.fst (State.slotCtl_in _ _ _ _)); decide)
    | refine Within.step (WithinP.out (State.slotBus_in _ _ _ _ _) (by assumption)) (by decide) ?_
    | (with_reducible apply Within.step (WithinP.fst (State.slotBus_in _ _ _ _ _)); decide) | split
    | dsimp -zeta only

theorem execAlinkTxRead_in (a0 a1 s) : WithinR 25778245696 s (execAlinkTxRead a0 a1 s) := by
  unfold execAlinkTxRead
  repeat' first
    | with_reducible exact .refl _ _ | with_reducible assumption | ((try lift_lets -underBinder); intro x; first
    | (refine Within.cut 25778245696 s x ?_ ?_; (on_goal 1 => unfold x); (on_goal 2 => (intro hx; clear_value x)))
    | clear_value x) | with_reducible apply Within.ite | with_reducible refine Within.next ?_
    | with_reducible exact WithinR.fault _ _ _ | with_reducible apply WithinR.ite
    | (with_reducible apply Within.step (State.evTl_in _ _); decide)
    | (with_reducible apply Within.step (State.missBlock_in _ _ _); decide)
    | refine Within.step (WithinP.out (State.readErrors_in _ _ _ _) (by assumption)) (by decide) ?_
    | (with_reducible apply Within.step (WithinP.fst (State.readErrors_in _ _ _ _)); decide)
    | (with_reducible apply Within.step (State.keepPoison_in _ _ _ _); decide)
    | (with_reducible apply Within.step (State.updBlock_in _ _ _ _); decide) | split | dsimp -zeta only

theorem execHeldReleaseTimeout_in (a0 s) : WithinR 26047696960 s (execHeldReleaseTimeout a0 s) := by
  unfold execHeldReleaseTimeout
  repeat' first
    | with_reducible exact .refl _ _ | with_reducible assumption | with_reducible apply Within.ite
    | with_reducible refine Within.next ?_ | with_reducible exact WithinR.fault _ _ _
    | with_reducible apply WithinR.ite | (with_reducible apply Within.step (State.missBlock_in _ _ _); decide)
    | (with_reducible apply Within.step (State.dmaHoldOut_in _ _); decide) | split | dsimp -zeta only

theorem execTlStateChange_in (s) : WithinR 26047699008 s (execTlStateChange s) := by
  unfold execTlStateChange
  repeat' first
    | with_reducible exact .refl _ _ | with_reducible assumption | ((try lift_lets -underBinder); intro x; first
    | (refine Within.cut 26047699008 s x ?_ ?_; (on_goal 1 => unfold x); (on_goal 2 => (intro hx; clear_value x)))
    | clear_value x) | with_reducible apply Within.ite | with_reducible refine Within.next ?_
    | with_reducible exact WithinR.fault _ _ _ | with_reducible apply WithinR.ite
    | (with_reducible apply Within.step (State.updTk_in _ _); decide)
    | (with_reducible apply Within.step (State.setFld_in _ _ _ _); decide)
    | (with_reducible apply Within.step (State.evTl_in _ _); decide)
    | (with_reducible apply Within.step (State.alarmsSkipped_in _ _); decide)
    | (with_reducible apply Within.step (State.setUncert_in _ _); decide)
    | (with_reducible apply Within.step (State.dmaLetGo_in _ _); decide)
    | (with_reducible apply Within.step (State.setPails_in _ _); decide)
    | (with_reducible apply Within.step (State.tlChange_in _ _ _); decide)
    | (with_reducible apply Within.step (State.tryLock_in _); decide) | split | dsimp -zeta only

end Sys2Proof.Machine
end

