-- ==== Sys2Proof/Laws/InSlices.lean ====
section
/-! SUPPORT. What the operations of Machine/Slices.lean may change. -/

namespace Sys2Proof.Machine

set_option linter.unusedTactic false
set_option linter.unreachableTactic false

theorem State.setMb_in (s a1 a2 a3) : Within 64 s (State.setMb s a1 a2 a3) := by
  unfold State.setMb
  repeat' first
    | with_reducible exact .refl _ _ | with_reducible assumption 
    | (with_reducible apply Within.step (State.setFld_in _ _ _ _); decide)

theorem State.setPend_in (s a1 a2) : Within 64 s (State.setPend s a1 a2) := by
  unfold State.setPend
  repeat' first
    | with_reducible exact .refl _ _ | with_reducible assumption 
    | (with_reducible apply Within.step (State.wrW_in _ _ _); decide)

theorem State.setWin_in (s a1 a2 a3) : Within 2097152 s (State.setWin s a1 a2 a3) := by
  unfold State.setWin
  repeat' first
    | with_reducible exact .refl _ _ | with_reducible assumption 
    | (with_reducible apply Within.step (State.updSlice_in _ _ _); decide)

theorem State.mboxReset_in (s a1) : Within 17181966400 s (State.mboxReset s a1) := by
  unfold State.mboxReset
  repeat' first
    | with_reducible exact .refl _ _ | with_reducible assumption | ((try lift_lets -underBinder); intro x; first
    | (refine Within.cut 17181966400 s x ?_ ?_; (on_goal 1 => unfold x); (on_goal 2 => (intro hx; clear_value x)))
    | clear_value x) | with_reducible apply Within.ite
    | (with_reducible apply Within.step (State.setW1c_in _ _ _); decide)
    | (with_reducible apply Within.step (State.setMb_in _ _ _ _); decide)
    | (with_reducible apply Within.step (State.setPend_in _ _ _); decide)
    | (with_reducible apply Within.step (State.updSlice_in _ _ _); decide)
    | (with_reducible apply Within.step (State.setWin_in _ _ _ _); decide) | split

theorem State.setTdi_in (s a1 a2) : Within 25778196544 s (State.setTdi s a1 a2) := by
  unfold State.setTdi
  repeat' first
    | with_reducible exact .refl _ _ | with_reducible assumption | ((try lift_lets -underBinder); intro x; first
    | (refine Within.cut 25778196544 s x ?_ ?_; (on_goal 1 => unfold x); (on_goal 2 => (intro hx; clear_value x)))
    | clear_value x) | with_reducible apply Within.ite
    | (with_reducible apply Within.step (State.occurBit_in _ _ _ _ _); decide)
    | (with_reducible apply Within.step (State.wrW_in _ _ _); decide) | split

theorem State.slicesReset_in (s a1) : Within 26049794112 s (State.slicesReset s a1) := by
  induction a1 generalizing s with
  | nil => exact .refl _ _
  | cons x l ih =>
    unfold State.slicesReset
    try dsimp -zeta only
    repeat' first
      | with_reducible exact .refl _ _ | with_reducible assumption
      | ((try lift_lets -underBinder); intro x; first
      | (refine Within.cut 26049794112 s x ?_ ?_; (on_goal 1 => unfold x); (on_goal 2 => (intro hx; clear_value x)))
      | clear_value x)  | (with_reducible apply Within.step (State.endChans_in _ _ _); decide)
      | (with_reducible apply Within.step (State.setTdi_in _ _ _); decide)
      | (with_reducible apply Within.step (State.mboxReset_in _ _); decide)
      | (with_reducible apply Within.step (ih _); decide) | split | dsimp -zeta only

theorem State.slFence_in (s a1 a2) : Within 26047696960 s (State.slFence s a1 a2) := by
  unfold State.slFence
  repeat' first
    | with_reducible exact .refl _ _ | with_reducible assumption | ((try lift_lets -underBinder); intro x; first
    | (refine Within.cut 26047696960 s x ?_ ?_; (on_goal 1 => unfold x); (on_goal 2 => (intro hx; clear_value x)))
    | clear_value x) | with_reducible apply Within.ite
    | (with_reducible apply Within.step (State.setFld_in _ _ _ _); decide)
    | (with_reducible apply Within.step (State.dmaStops_in _ _); decide) | split

theorem State.slKill_in (s a1) : Within 26047696960 s (State.slKill s a1) := by
  unfold State.slKill
  repeat' first
    | with_reducible exact .refl _ _ | with_reducible assumption | with_reducible apply Within.ite
    | (with_reducible apply Within.step (State.endChans_in _ _ _); decide) | split

theorem State.dbin_in (s a1 a2) : Within 25780293696 s (State.dbin s a1 a2) := by
  unfold State.dbin
  repeat' first
    | with_reducible exact .refl _ _ | with_reducible assumption | ((try lift_lets -underBinder); intro x; first
    | (refine Within.cut 25780293696 s x ?_ ?_; (on_goal 1 => unfold x); (on_goal 2 => (intro hx; clear_value x)))
    | clear_value x) | with_reducible apply Within.ite
    | (with_reducible apply Within.step (State.setW1c_in _ _ _); decide)
    | (with_reducible apply Within.step (State.updSlice_in _ _ _); decide)
    | (with_reducible apply Within.step (State.setMb_in _ _ _ _); decide)
    | (with_reducible apply Within.step (State.evUm_in _ _); decide)
    | (with_reducible apply Within.step (State.setPend_in _ _ _); decide) | split

theorem State.dbout_in (s a1) : Within 64 s (State.dbout s a1) := by
  unfold State.dbout
  repeat' first
    | with_reducible exact .refl _ _ | with_reducible assumption 
    | (with_reducible apply Within.step (State.setMb_in _ _ _ _); decide)

theorem State.putMail_in (s a1 a2) : Within 17190355008 s (State.putMail s a1 a2) := by
  unfold State.putMail
  repeat' first
    | with_reducible exact .refl _ _ | with_reducible assumption | ((try lift_lets -underBinder); intro x; first
    | (refine Within.cut 17190355008 s x ?_ ?_; (on_goal 1 => unfold x); (on_goal 2 => (intro hx; clear_value x)))
    | clear_value x) | with_reducible apply Within.ite
    | (with_reducible apply Within.step (State.updSlice_in _ _ _); decide)
    | (with_reducible apply Within.step (State.setMb_in _ _ _ _); decide)
    | (with_reducible apply Within.step (State.slSignal_in _ _ _); decide) | split

theorem State.takeMail_in (s a1) : WithinP 17190355008 s (State.takeMail s a1) := by
  unfold State.takeMail
  repeat' first
    | with_reducible exact .refl _ _ | with_reducible assumption | ((try lift_lets -underBinder); intro x; first
    | (refine Within.cut 17190355008 s x ?_ ?_; (on_goal 1 => unfold x); (on_goal 2 => (intro hx; clear_value x)))
    | clear_value x) | with_reducible apply Within.ite | with_reducible refine Within.pair ?_
    | with_reducible apply WithinP.ite | (with_reducible apply Within.step (State.updSlice_in _ _ _); decide)
    | (with_reducible apply Within.step (State.setPend_in _ _ _); decide)
    | (with_reducible apply Within.step (State.setMb_in _ _ _ _); decide)
    | (with_reducible apply Within.step (State.slSignal_in _ _ _); decide) | split

theorem State.teardown_in (s a1 a2 a3) : Within 11534400 s (State.teardown s a1 a2 a3) := by
  unfold State.teardown
  repeat' first
    | with_reducible exact .refl _ _ | with_reducible assumption | ((try lift_lets -underBinder); intro x; first
    | (refine Within.cut 11534400 s x ?_ ?_; (on_goal 1 => unfold x); (on_goal 2 => (intro hx; clear_value x)))
    | clear_value x)  | (with_reducible apply Within.step (State.updSlice_in _ _ _); decide)
    | (with_reducible apply Within.step (State.wrW_in _ _ _); decide)
    | (with_reducible apply Within.step (State.setPend_in _ _ _); decide)
    | (with_reducible apply Within.step (State.keepRegs_in _ _); decide)
    | (with_reducible apply Within.step (State.setChans_in _ _); decide)
    | (with_reducible apply Within.step (State.updLink_in _ _ _); decide)
    | (with_reducible apply Within.step (State.setFld_in _ _ _ _); decide)
    | (with_reducible refine Within.foldl _ (fun x y hx => ?_) ?_)

theorem execSlCtrlFence_in (a0 a1 s) : WithinR 26047696960 s (execSlCtrlFence a0 a1 s) := by
  unfold execSlCtrlFence
  repeat' first
    | with_reducible exact .refl _ _ | with_reducible assumption  | with_reducible refine Within.next ?_
    | with_reducible exact WithinR.fault _ _ _
    | (with_reducible apply Within.step (State.slFence_in _ _ _); decide)

theorem execSlCtrlKill_in (a0 s) : WithinR 26047696960 s (execSlCtrlKill a0 s) := by
  unfold execSlCtrlKill
  repeat' first
    | with_reducible exact .refl _ _ | with_reducible assumption  | with_reducible refine Within.next ?_
    | with_reducible exact WithinR.fault _ _ _
    | (with_reducible apply Within.step (State.slKill_in _ _); decide)

theorem execSlDbin_in (a0 a1 s) : WithinR 25780293696 s (execSlDbin a0 a1 s) := by
  unfold execSlDbin
  repeat' first
    | with_reducible exact .refl _ _ | with_reducible assumption | with_reducible apply Within.ite
    | with_reducible refine Within.next ?_ | with_reducible exact WithinR.fault _ _ _
    | with_reducible apply WithinR.ite | (with_reducible apply Within.step (State.dbin_in _ _ _); decide)
    | split

theorem execSlDboutAck_in (a0 s) : WithinR 64 s (execSlDboutAck a0 s) := by
  unfold execSlDboutAck
  repeat' first
    | with_reducible exact .refl _ _ | with_reducible assumption | with_reducible apply Within.ite
    | with_reducible refine Within.next ?_ | with_reducible exact WithinR.fault _ _ _
    | with_reducible apply WithinR.ite | (with_reducible apply Within.step (State.dbout_in _ _); decide) | split

end Sys2Proof.Machine
end

