-- ==== Sys2Proof/Laws/InHostLink.lean ====
section
/-! SUPPORT. What the operations of Machine/HostLink.lean may change. -/

namespace Sys2Proof.Machine

set_option linter.unusedTactic false
set_option linter.unreachableTactic false

theorem State.linkEv_in (s a1 a2) : Within 25778196544 s (State.linkEv s a1 a2) := by
  unfold State.linkEv
  repeat' first
    | with_reducible exact .refl _ _ | with_reducible assumption 
    | (with_reducible apply Within.step (State.evHl_in _ _ _); decide)
    | (with_reducible apply Within.step (State.setFld_in _ _ _ _); decide)

theorem State.removeLinks_in (s a1) : Within 26049794112 s (State.removeLinks s a1) := by
  induction a1 generalizing s with
  | nil => exact .refl _ _
  | cons x l ih =>
    unfold State.removeLinks
    try dsimp -zeta only
    repeat' first
      | with_reducible exact .refl _ _ | with_reducible assumption | with_reducible apply Within.ite
      | (with_reducible apply Within.step (State.linkEv_in _ _ _); decide)
      | (with_reducible apply Within.step (State.slicesReset_in _ _); decide)
      | (with_reducible apply Within.step (ih _); decide) | split | dsimp -zeta only

theorem State.rtBump_in (s a1) : Within 8388608 s (State.rtBump s a1) := by
  induction a1 generalizing s with
  | nil => exact .refl _ _
  | cons x l ih =>
    unfold State.rtBump
    try dsimp -zeta only
    repeat' first
      | with_reducible exact .refl _ _ | with_reducible assumption 
      | (with_reducible apply Within.step (State.updLink_in _ _ _); decide)
      | (with_reducible apply Within.step (ih _); decide) | split | dsimp -zeta only

theorem State.rtTouch_in (s a1) : Within 25778196544 s (State.rtTouch s a1) := by
  unfold State.rtTouch
  repeat' first
    | with_reducible exact .refl _ _ | with_reducible assumption 
    | (with_reducible apply Within.step (State.evUm_in _ _); decide)
    | (with_reducible apply Within.step (State.rtBump_in _ _); decide)

theorem State.applyLayout_in (s a1) : Within 26049794112 s (State.applyLayout s a1) := by
  unfold State.applyLayout
  repeat' first
    | with_reducible exact .refl _ _ | with_reducible assumption | ((try lift_lets -underBinder); intro x; first
    | (refine Within.cut 26049794112 s x ?_ ?_; (on_goal 1 => unfold x); (on_goal 2 => (intro hx; clear_value x)))
    | clear_value x) | with_reducible apply Within.ite
    | (with_reducible apply Within.step (State.setFld_in _ _ _ _); decide)
    | (with_reducible apply Within.step (State.removeLinks_in _ _); decide)
    | (with_reducible apply Within.step (State.rtTouch_in _ _); decide) | split

theorem State.rtAll_in (s) : Within 25778196544 s (State.rtAll s) := by
  unfold State.rtAll
  repeat' first
    | with_reducible exact .refl _ _ | with_reducible assumption 
    | (with_reducible apply Within.step (State.rtTouch_in _ _); decide)

theorem State.evInject_in (s a1) : Within 25778196544 s (State.evInject s a1) := by
  unfold State.evInject
  repeat' first
    | with_reducible exact .refl _ _ | with_reducible assumption | with_reducible apply Within.ite
    | (with_reducible apply Within.step (State.raiseActs_in _ _ _ _ _); decide)
    | (with_reducible apply Within.step (State.cnt_in _ _); decide) | split

theorem State.noMsgs_in (s a1) : Within 8388608 s (State.noMsgs s a1) := by
  unfold State.noMsgs
  repeat' first
    | with_reducible exact .refl _ _ | with_reducible assumption 
    | (with_reducible apply Within.step (State.updLink_in _ _ _); decide)

theorem State.noMsgsAll_in (s a1) : Within 8388608 s (State.noMsgsAll s a1) := by
  induction a1 generalizing s with
  | nil => exact .refl _ _
  | cons x l ih =>
    unfold State.noMsgsAll
    try dsimp -zeta only
    repeat' first
      | with_reducible exact .refl _ _ | with_reducible assumption 
      | (with_reducible apply Within.step (State.noMsgs_in _ _); decide)
      | (with_reducible apply Within.step (ih _); decide) | split | dsimp -zeta only

theorem State.setHl_in (s a1 a2 a3) : Within 64 s (State.setHl s a1 a2 a3) := by
  unfold State.setHl
  repeat' first
    | with_reducible exact .refl _ _ | with_reducible assumption 
    | (with_reducible apply Within.step (State.setFld_in _ _ _ _); decide)

theorem State.hlDown_in (s a1 a2) : Within 25778196544 s (State.hlDown s a1 a2) := by
  unfold State.hlDown
  repeat' first
    | with_reducible exact .refl _ _ | with_reducible assumption | ((try lift_lets -underBinder); intro x; first
    | (refine Within.cut 25778196544 s x ?_ ?_; (on_goal 1 => unfold x); (on_goal 2 => (intro hx; clear_value x)))
    | clear_value x) | with_reducible apply Within.ite
    | (with_reducible apply Within.step (State.setHl_in _ _ _ _); decide)
    | (with_reducible apply Within.step (State.rtTouch_in _ _); decide)
    | (with_reducible apply Within.step (State.linkEv_in _ _ _); decide) | split

theorem State.linkReset_in (s a1 a2) : Within 26053988416 s (State.linkReset s a1 a2) := by
  unfold State.linkReset
  repeat' first
    | with_reducible exact .refl _ _ | with_reducible assumption | ((try lift_lets -underBinder); intro x; first
    | (refine Within.cut 26053988416 s x ?_ ?_; (on_goal 1 => unfold x); (on_goal 2 => (intro hx; clear_value x)))
    | clear_value x) | with_reducible apply Within.ite
    | (with_reducible apply Within.step (State.noMsgs_in _ _); decide)
    | (with_reducible apply Within.step (State.updLink_in _ _ _); decide)
    | (with_reducible apply Within.step (State.slicesReset_in _ _); decide)
    | (with_reducible apply Within.step (State.bridgeLinkReset_in _ _); decide)
    | (with_reducible apply Within.step (State.evHl_in _ _ _); decide)
    | (with_reducible apply Within.step (State.setFld_in _ _ _ _); decide) | split

theorem State.portResets_in (s a1 a2) : Within 26053988416 s (State.portResets s a1 a2) := by
  induction a1 generalizing s a2 with
  | nil => exact .refl _ _
  | cons x l ih =>
    unfold State.portResets
    try dsimp -zeta only
    repeat' first
      | with_reducible exact .refl _ _ | with_reducible assumption 
      | (with_reducible apply Within.step (State.hlDown_in _ _ _); decide)
      | (with_reducible apply Within.step (State.linkReset_in _ _ _); decide)
      | (with_reducible apply Within.step (ih _ _); decide) | split | dsimp -zeta only

theorem State.resetPort_in (s a1 a2) : Within 26053988416 s (State.resetPort s a1 a2) := by
  unfold State.resetPort
  repeat' first
    | with_reducible exact .refl _ _ | with_reducible assumption 
    | (with_reducible apply Within.step (State.noMsgsAll_in _ _); decide)
    | (with_reducible apply Within.step (State.portResets_in _ _ _); decide)

theorem State.portRetrain_in (s a1) : Within 26053988416 s (State.portRetrain s a1) := by
  unfold State.portRetrain
  repeat' first
    | with_reducible exact .refl _ _ | with_reducible assumption | ((try lift_lets -underBinder); intro x; first
    | (refine Within.cut 26053988416 s x ?_ ?_; (on_goal 1 => unfold x); (on_goal 2 => (intro hx; clear_value x)))
    | clear_value x) | with_reducible apply Within.ite
    | (with_reducible apply Within.step (State.resetPort_in _ _ _); decide)
    | (with_reducible apply Within.step (State.applyLayout_in _ _); decide) | split

theorem State.msixPut_in (s a1 a2 a3 a4) : Within 8388608 s (State.msixPut s a1 a2 a3 a4) := by
  unfold State.msixPut
  repeat' first
    | with_reducible exact .refl _ _ | with_reducible assumption | ((try lift_lets -underBinder); intro x; first
    | (refine Within.cut 8388608 s x ?_ ?_; (on_goal 1 => unfold x); (on_goal 2 => (intro hx; clear_value x)))
    | clear_value x) | with_reducible apply Within.ite
    | (with_reducible apply Within.step (State.sendPending_in _ _); decide)
    | (with_reducible apply Within.step (State.updLink_in _ _ _); decide) | split

theorem State.doeAnswer_in (s a1 a2) : Within 8388608 s (State.doeAnswer s a1 a2) := by
  unfold State.doeAnswer
  repeat' first
    | with_reducible exact .refl _ _ | with_reducible assumption | ((try lift_lets -underBinder); intro x; first
    | (refine Within.cut 8388608 s x ?_ ?_; (on_goal 1 => unfold x); (on_goal 2 => (intro hx; clear_value x)))
    | clear_value x) | with_reducible apply Within.ite
    | (with_reducible apply Within.step (State.updLink_in _ _ _); decide)
    | (with_reducible apply Within.step (State.signal_in _ _ _); decide) | split

theorem State.doeError_in (s a1) : Within 8388608 s (State.doeError s a1) := by
  unfold State.doeError
  repeat' first
    | with_reducible exact .refl _ _ | with_reducible assumption 
    | (with_reducible apply Within.step (State.updLink_in _ _ _); decide)

theorem State.doePut_in (s a1 a2) : Within 8388608 s (State.doePut s a1 a2) := by
  unfold State.doePut
  repeat' first
    | with_reducible exact .refl _ _ | with_reducible assumption | with_reducible apply Within.ite
    | (with_reducible apply Within.step (State.doeError_in _ _); decide)
    | (with_reducible apply Within.step (State.doeAnswer_in _ _ _); decide)
    | (with_reducible apply Within.step (State.updLink_in _ _ _); decide) | split | dsimp -zeta only

theorem State.flr_in (s a1) : Within 30499950912 s (State.flr s a1) := by
  unfold State.flr
  repeat' first
    | with_reducible exact .refl _ _ | with_reducible assumption | ((try lift_lets -underBinder); intro x; first
    | (refine Within.cut 30499950912 s x ?_ ?_; (on_goal 1 => unfold x); (on_goal 2 => (intro hx; clear_value x)))
    | clear_value x) | with_reducible apply Within.ite
    | (with_reducible apply Within.step (State.cnt_in _ _); decide)
    | (with_reducible apply Within.step (State.linkReset_in _ _ _); decide)
    | (with_reducible apply Within.step (State.updLink_in _ _ _); decide)
    | (with_reducible apply Within.step (State.noMsgs_in _ _); decide)
    | (with_reducible apply Within.step (State.resetCarrier_in _ _); decide) | split

theorem State.setD_in (s a1 a2) : Within 25778196544 s (State.setD s a1 a2) := by
  unfold State.setD
  repeat' first
    | with_reducible exact .refl _ _ | with_reducible assumption | ((try lift_lets -underBinder); intro x; first
    | (refine Within.cut 25778196544 s x ?_ ?_; (on_goal 1 => unfold x); (on_goal 2 => (intro hx; clear_value x)))
    | clear_value x) | with_reducible apply Within.ite
    | (with_reducible apply Within.step (State.evHl_in _ _ _); decide)
    | (with_reducible apply Within.step (State.updLink_in _ _ _); decide)
    | (with_reducible apply Within.step (State.stopLink_in _ _); decide)
    | (with_reducible apply Within.step (State.goLink_in _ _); decide) | split

theorem State.setMse_in (s a1 a2) : Within 25778196544 s (State.setMse s a1 a2) := by
  unfold State.setMse
  repeat' first
    | with_reducible exact .refl _ _ | with_reducible assumption | with_reducible apply Within.ite
    | (with_reducible apply Within.step (State.evHl_in _ _ _); decide)
    | (with_reducible apply Within.step (State.updLink_in _ _ _); decide) | split

theorem State.cfgWrite_in (s a1 a2 a3 a4) : Within 30499950912 s (State.cfgWrite s a1 a2 a3 a4) := by
  unfold State.cfgWrite
  repeat' first
    | with_reducible exact .refl _ _ | with_reducible assumption | ((try lift_lets -underBinder); intro x; first
    | (refine Within.cut 30499950912 s x ?_ ?_; (on_goal 1 => unfold x); (on_goal 2 => (intro hx; clear_value x)))
    | clear_value x) | with_reducible apply Within.ite
    | (with_reducible apply Within.step (State.updLink_in _ _ _); decide)
    | (with_reducible apply Within.step (State.sendPending_in _ _); decide)
    | (with_reducible apply Within.step (State.setBme_in _ _ _); decide)
    | (with_reducible apply Within.step (State.setMse_in _ _ _); decide)
    | (with_reducible apply Within.step (State.setD_in _ _ _); decide)
    | (with_reducible apply Within.step (State.flr_in _ _); decide)
    | (with_reducible apply Within.step (State.doePut_in _ _ _); decide) | split

theorem State.idleLink_in (s a1) : Within 8388672 s (State.idleLink s a1) := by
  unfold State.idleLink
  repeat' first
    | with_reducible exact .refl _ _ | with_reducible assumption | with_reducible apply Within.ite
    | (with_reducible apply Within.step (State.setHl_in _ _ _ _); decide)
    | (with_reducible apply Within.step (State.updLink_in _ _ _); decide) | split

theorem State.emitAll_in (s a1) : Within 8589934592 s (State.emitAll s a1) := by
  induction a1 generalizing s with
  | nil => exact .refl _ _
  | cons x l ih =>
    unfold State.emitAll
    try dsimp -zeta only
    repeat' first
      | with_reducible exact .refl _ _ | with_reducible assumption 
      | (with_reducible apply Within.step (State.emit_in _ _); decide)
      | (with_reducible apply Within.step (ih _); decide) | split | dsimp -zeta only

theorem State.setSubs_in (s a1 a2) : Within 64 s (State.setSubs s a1 a2) := by
  induction a1 generalizing s a2 with
  | nil => exact .refl _ _
  | cons x l ih =>
    unfold State.setSubs
    try dsimp -zeta only
    repeat' first
      | with_reducible exact .refl _ _ | with_reducible assumption 
      | (with_reducible apply Within.step (State.setHl_in _ _ _ _); decide)
      | (with_reducible apply Within.step (ih _ _); decide) | split | dsimp -zeta only

theorem State.enterSub_in (s a1) : Within 64 s (State.enterSub s a1) := by
  unfold State.enterSub
  repeat' first
    | with_reducible exact .refl _ _ | with_reducible assumption | ((try lift_lets -underBinder); intro x; first
    | (refine Within.cut 64 s x ?_ ?_; (on_goal 1 => unfold x); (on_goal 2 => (intro hx; clear_value x)))
    | clear_value x) | with_reducible apply Within.ite
    | (with_reducible apply Within.step (State.setSubs_in _ _ _); decide) | split

theorem State.lateNow_in (s a1) : Within 25779245120 s (State.lateNow s a1) := by
  induction a1 generalizing s with
  | nil => exact .refl _ _
  | cons x l ih =>
    unfold State.lateNow
    try dsimp -zeta only
    repeat' first
      | with_reducible exact .refl _ _ | with_reducible assumption
      | ((try lift_lets -underBinder); intro x; first
      | (refine Within.cut 25779245120 s x ?_ ?_; (on_goal 1 => unfold x); (on_goal 2 => (intro hx; clear_value x)))
      | clear_value x) | with_reducible apply Within.ite
      | (with_reducible apply Within.step (State.updChan_in _ _ _); decide)
      | (with_reducible apply Within.step (State.evTl_in _ _); decide)
      | (with_reducible apply Within.step (ih _); decide) | split | dsimp -zeta only

theorem State.overEv_in (s a1) : Within 25778196544 s (State.overEv s a1) := by
  unfold State.overEv
  repeat' first
    | with_reducible exact .refl _ _ | with_reducible assumption | with_reducible apply Within.ite
    | (with_reducible apply Within.step (State.evDma_in _ _); decide) | split | dsimp -zeta only

theorem State.toL0_in (s a1) : Within 25779245120 s (State.toL0 s a1) := by
  unfold State.toL0
  repeat' first
    | with_reducible exact .refl _ _ | with_reducible assumption | ((try lift_lets -underBinder); intro x; first
    | (refine Within.cut 25779245120 s x ?_ ?_; (on_goal 1 => unfold x); (on_goal 2 => (intro hx; clear_value x)))
    | clear_value x) | with_reducible apply Within.ite
    | (with_reducible apply Within.step (State.setHl_in _ _ _ _); decide)
    | (with_reducible apply Within.step (State.updLink_in _ _ _); decide)
    | (with_reducible apply Within.step (State.lateNow_in _ _); decide)
    | (with_reducible apply Within.step (State.emitAll_in _ _); decide) | split

theorem State.trained_in (s a1 a2 a3) : Within 25778196544 s (State.trained s a1 a2 a3) := by
  unfold State.trained
  repeat' first
    | with_reducible exact .refl _ _ | with_reducible assumption | ((try lift_lets -underBinder); intro x; first
    | (refine Within.cut 25778196544 s x ?_ ?_; (on_goal 1 => unfold x); (on_goal 2 => (intro hx; clear_value x)))
    | clear_value x)  | (with_reducible apply Within.step (State.setHl_in _ _ _ _); decide)
    | (with_reducible apply Within.step (State.updLink_in _ _ _); decide)
    | (with_reducible apply Within.step (State.rtTouch_in _ _); decide)
    | (with_reducible apply Within.step (State.overEv_in _ _); decide)

theorem execAlertNRelease_in (s) : WithinR 64 s (execAlertNRelease s) := by
  unfold execAlertNRelease
  repeat' first
    | with_reducible exact .refl _ _ | with_reducible assumption | with_reducible apply Within.ite
    | with_reducible refine Within.next ?_ | with_reducible exact WithinR.fault _ _ _
    | with_reducible apply WithinR.ite | (with_reducible apply Within.step (State.setFld_in _ _ _ _); decide)
    | split

theorem execAlertResponseAddress_in (s) : WithinR 8589934592 s (execAlertResponseAddress s) := by
  unfold execAlertResponseAddress
  repeat' first
    | with_reducible exact .refl _ _ | with_reducible assumption | with_reducible apply Within.ite
    | with_reducible refine Within.next ?_ | with_reducible exact WithinR.fault _ _ _
    | with_reducible apply WithinR.ite | (with_reducible apply Within.step (State.emit_in _ _); decide) | split

theorem execAtsInvalidationComplete_in (a0 s) : WithinR 8598323200 s (execAtsInvalidationComplete a0 s) := by
  unfold execAtsInvalidationComplete
  repeat' first
    | with_reducible exact .refl _ _ | with_reducible assumption  | with_reducible refine Within.next ?_
    | with_reducible exact WithinR.fault _ _ _
    | (with_reducible apply Within.step (State.send_in _ _ _); decide)
    | (with_reducible apply Within.step (State.updLink_in _ _ _); decide) | split | dsimp -zeta only

theorem execAtsInvalidationRequest_in (a0 a1 a2 a3 a4 s) : WithinR 8388608 s (execAtsInvalidationRequest a0 a1 a2 a3 a4 s) := by
  unfold execAtsInvalidationRequest
  repeat' first
    | with_reducible exact .refl _ _ | with_reducible assumption | ((try lift_lets -underBinder); intro x; first
    | (refine Within.cut 8388608 s x ?_ ?_; (on_goal 1 => unfold x); (on_goal 2 => (intro hx; clear_value x)))
    | clear_value x) | with_reducible apply Within.ite | with_reducible refine Within.next ?_
    | with_reducible exact WithinR.fault _ _ _ | with_reducible apply WithinR.ite
    | (with_reducible apply Within.step (State.updLink_in _ _ _); decide) | split

theorem execConfigRequest_in (a0 a1 a2 a3 a4 s) : WithinR 30499950912 s (execConfigRequest a0 a1 a2 a3 a4 s) := by
  unfold execConfigRequest
  repeat' first
    | with_reducible exact .refl _ _ | with_reducible assumption | ((try lift_lets -underBinder); intro x; first
    | (refine Within.cut 30499950912 s x ?_ ?_; (on_goal 1 => unfold x); (on_goal 2 => (intro hx; clear_value x)))
    | clear_value x) | with_reducible apply Within.ite | with_reducible refine Within.next ?_
    | with_reducible exact WithinR.fault _ _ _ | with_reducible apply WithinR.ite
    | (with_reducible apply Within.step (State.emit_in _ _); decide)
    | (with_reducible apply Within.step (State.cfgWrite_in _ _ _ _ _); decide) | split

theorem execDStateChange_in (a0 a1 s) : WithinR 25778196544 s (execDStateChange a0 a1 s) := by
  unfold execDStateChange
  repeat' first
    | with_reducible exact .refl _ _ | with_reducible assumption | with_reducible apply Within.ite
    | with_reducible refine Within.next ?_ | with_reducible exact WithinR.fault _ _ _
    | with_reducible apply WithinR.ite | (with_reducible apply Within.step (State.setD_in _ _ _); decide)
    | split

theorem execDoeObject_in (a0 a1 s) : WithinR 8388608 s (execDoeObject a0 a1 s) := by
  unfold execDoeObject
  repeat' first
    | with_reducible exact .refl _ _ | with_reducible assumption | with_reducible apply Within.ite
    | with_reducible refine Within.next ?_ | with_reducible exact WithinR.fault _ _ _
    | with_reducible apply WithinR.ite | (with_reducible apply Within.step (State.doePut_in _ _ _); decide)
    | split

theorem execEvInject_in (a0 s) : WithinR 25778196544 s (execEvInject a0 s) := by
  unfold execEvInject
  repeat' first
    | with_reducible exact .refl _ _ | with_reducible assumption | with_reducible apply Within.ite
    | with_reducible refine Within.next ?_ | with_reducible exact WithinR.fault _ _ _
    | with_reducible apply WithinR.ite | (with_reducible apply Within.step (State.evInject_in _ _); decide)
    | split

theorem execFlr_in (a0 s) : WithinR 30499950912 s (execFlr a0 s) := by
  unfold execFlr
  repeat' first
    | with_reducible exact .refl _ _ | with_reducible assumption | with_reducible apply Within.ite
    | with_reducible refine Within.next ?_ | with_reducible exact WithinR.fault _ _ _
    | with_reducible apply WithinR.ite | (with_reducible apply Within.step (State.flr_in _ _); decide) | split

theorem execFlrComplete_in (a0 s) : WithinR 8388608 s (execFlrComplete a0 s) := by
  unfold execFlrComplete
  repeat' first
    | with_reducible exact .refl _ _ | with_reducible assumption  | with_reducible refine Within.next ?_
    | with_reducible exact WithinR.fault _ _ _
    | (with_reducible apply Within.step (State.updLink_in _ _ _); decide)

theorem execHlPortRetrain_in (a0 s) : WithinR 26053988416 s (execHlPortRetrain a0 s) := by
  unfold execHlPortRetrain
  repeat' first
    | with_reducible exact .refl _ _ | with_reducible assumption  | with_reducible refine Within.next ?_
    | with_reducible exact WithinR.fault _ _ _
    | (with_reducible apply Within.step (State.portRetrain_in _ _); decide)

theorem execHostLinkDown_in (a0 s) : WithinR 25778196544 s (execHostLinkDown a0 s) := by
  unfold execHostLinkDown
  repeat' first
    | with_reducible exact .refl _ _ | with_reducible assumption | with_reducible apply Within.ite
    | with_reducible refine Within.next ?_ | with_reducible exact WithinR.fault _ _ _
    | with_reducible apply WithinR.ite | (with_reducible apply Within.step (State.hlDown_in _ _ _); decide)
    | split

theorem execHostLinkRateWidthChange_in (a0 a1 a2 s) : WithinR 25779245120 s (execHostLinkRateWidthChange a0 a1 a2 s) := by
  unfold execHostLinkRateWidthChange
  repeat' first
    | with_reducible exact .refl _ _ | with_reducible assumption | ((try lift_lets -underBinder); intro x; first
    | (refine Within.cut 25779245120 s x ?_ ?_; (on_goal 1 => unfold x); (on_goal 2 => (intro hx; clear_value x)))
    | clear_value x) | with_reducible apply Within.ite | with_reducible refine Within.next ?_
    | with_reducible exact WithinR.fault _ _ _ | with_reducible apply WithinR.ite
    | (with_reducible apply Within.step (State.toL0_in _ _); decide)
    | (with_reducible apply Within.step (State.linkEv_in _ _ _); decide)
    | (with_reducible apply Within.step (State.trained_in _ _ _ _); decide)
    | (with_reducible apply Within.step (State.cnt_in _ _); decide) | split

theorem execHostLinkUp_in (a0 a1 a2 a3 s) : WithinR 25779245120 s (execHostLinkUp a0 a1 a2 a3 s) := by
  unfold execHostLinkUp
  repeat' first
    | with_reducible exact .refl _ _ | with_reducible assumption | ((try lift_lets -underBinder); intro x; first
    | (refine Within.cut 25779245120 s x ?_ ?_; (on_goal 1 => unfold x); (on_goal 2 => (intro hx; clear_value x)))
    | clear_value x) | with_reducible apply Within.ite | with_reducible refine Within.next ?_
    | with_reducible exact WithinR.fault _ _ _ | with_reducible apply WithinR.ite
    | (with_reducible apply Within.step (State.setFld_in _ _ _ _); decide)
    | (with_reducible apply Within.step (State.setHl_in _ _ _ _); decide)
    | (with_reducible apply Within.step (State.updLink_in _ _ _); decide)
    | (with_reducible apply Within.step (State.toL0_in _ _); decide)
    | (with_reducible apply Within.step (State.linkEv_in _ _ _); decide)
    | (with_reducible apply Within.step (State.trained_in _ _ _ _); decide) | split

theorem execHotReset_in (a0 a1 s) : WithinR 26053988416 s (execHotReset a0 a1 s) := by
  unfold execHotReset
  repeat' first
    | with_reducible exact .refl _ _ | with_reducible assumption | with_reducible apply Within.ite
    | with_reducible refine Within.next ?_ | with_reducible exact WithinR.fault _ _ _
    | with_reducible apply WithinR.ite | (with_reducible apply Within.step (State.noMsgs_in _ _); decide)
    | (with_reducible apply Within.step (State.hlDown_in _ _ _); decide)
    | (with_reducible apply Within.step (State.linkReset_in _ _ _); decide) | split

theorem execL0pNarrowing_in (a0 a1 a2 s) : WithinR 25778196544 s (execL0pNarrowing a0 a1 a2 s) := by
  unfold execL0pNarrowing
  repeat' first
    | with_reducible exact .refl _ _ | with_reducible assumption | ((try lift_lets -underBinder); intro x; first
    | (refine Within.cut 25778196544 s x ?_ ?_; (on_goal 1 => unfold x); (on_goal 2 => (intro hx; clear_value x)))
    | clear_value x) | with_reducible apply Within.ite | with_reducible refine Within.next ?_
    | with_reducible exact WithinR.fault _ _ _ | with_reducible apply WithinR.ite
    | (with_reducible apply Within.step (State.setHl_in _ _ _ _); decide)
    | (with_reducible apply Within.step (State.linkEv_in _ _ _); decide)
    | (with_reducible apply Within.step (State.rtTouch_in _ _); decide)
    | (with_reducible apply Within.step (State.overEv_in _ _); decide) | split

theorem execL1ExitComplete_in (a0 s) : WithinR 25779245120 s (execL1ExitComplete a0 s) := by
  unfold execL1ExitComplete
  repeat' first
    | with_reducible exact .refl _ _ | with_reducible assumption | with_reducible apply Within.ite
    | with_reducible refine Within.next ?_ | with_reducible exact WithinR.fault _ _ _
    | with_reducible apply WithinR.ite | (with_reducible apply Within.step (State.toL0_in _ _); decide) | split

theorem execL1ExitStart_in (a0 s) : WithinR 17179869248 s (execL1ExitStart a0 s) := by
  unfold execL1ExitStart
  repeat' first
    | with_reducible exact .refl _ _ | with_reducible assumption | ((try lift_lets -underBinder); intro x; first
    | (refine Within.cut 17179869248 s x ?_ ?_; (on_goal 1 => unfold x); (on_goal 2 => (intro hx; clear_value x)))
    | clear_value x) | with_reducible apply Within.ite | with_reducible refine Within.next ?_
    | with_reducible exact WithinR.fault _ _ _ | with_reducible apply WithinR.ite
    | (with_reducible apply Within.step (State.cnt_in _ _); decide)
    | (with_reducible apply Within.step (State.setHl_in _ _ _ _); decide) | split

theorem execL1Request_in (a0 s) : WithinR 17179869248 s (execL1Request a0 s) := by
  unfold execL1Request
  repeat' first
    | with_reducible exact .refl _ _ | with_reducible assumption | ((try lift_lets -underBinder); intro x; first
    | (refine Within.cut 17179869248 s x ?_ ?_; (on_goal 1 => unfold x); (on_goal 2 => (intro hx; clear_value x)))
    | clear_value x) | with_reducible apply Within.ite | with_reducible refine Within.next ?_
    | with_reducible exact WithinR.fault _ _ _ | with_reducible apply WithinR.ite
    | (with_reducible apply Within.step (State.setHl_in _ _ _ _); decide)
    | (with_reducible apply Within.step (State.cnt_in _ _); decide)
    | (with_reducible apply Within.step (State.enterSub_in _ _); decide) | split

theorem execL2L3ReadyEntry_in (a0 s) : WithinR 25778196544 s (execL2L3ReadyEntry a0 s) := by
  unfold execL2L3ReadyEntry
  repeat' first
    | with_reducible exact .refl _ _ | with_reducible assumption | with_reducible apply Within.ite
    | with_reducible refine Within.next ?_ | with_reducible exact WithinR.fault _ _ _
    | with_reducible apply WithinR.ite | (with_reducible apply Within.step (State.hlDown_in _ _ _); decide)
    | (with_reducible apply Within.step (State.updLink_in _ _ _); decide) | split

theorem execMemorySpaceEnableChange_in (a0 a1 s) : WithinR 25778196544 s (execMemorySpaceEnableChange a0 a1 s) := by
  unfold execMemorySpaceEnableChange
  repeat' first
    | with_reducible exact .refl _ _ | with_reducible assumption | with_reducible apply Within.ite
    | with_reducible refine Within.next ?_ | with_reducible exact WithinR.fault _ _ _
    | with_reducible apply WithinR.ite | (with_reducible apply Within.step (State.setMse_in _ _ _); decide)
    | split

theorem execMsixSend_in (a0 s) : WithinR 8598323200 s (execMsixSend a0 s) := by
  unfold execMsixSend
  repeat' first
    | with_reducible exact .refl _ _ | with_reducible assumption | ((try lift_lets -underBinder); intro x; first
    | (refine Within.cut 8598323200 s x ?_ ?_; (on_goal 1 => unfold x); (on_goal 2 => (intro hx; clear_value x)))
    | clear_value x) | with_reducible apply Within.ite | with_reducible refine Within.next ?_
    | with_reducible exact WithinR.fault _ _ _ | with_reducible apply WithinR.ite
    | (with_reducible apply Within.step (State.updLink_in _ _ _); decide)
    | (with_reducible apply Within.step (State.send_in _ _ _); decide) | split | dsimp -zeta only

theorem execMsixTableWrite_in (a0 a1 a2 a3 s) : WithinR 30073163840 s (execMsixTableWrite a0 a1 a2 a3 s) := by
  unfold execMsixTableWrite
  repeat' first
    | with_reducible exact .refl _ _ | with_reducible assumption | with_reducible apply Within.ite
    | with_reducible refine Within.next ?_ | with_reducible exact WithinR.fault _ _ _
    | with_reducible apply WithinR.ite | (with_reducible apply Within.step (State.msixPut_in _ _ _ _ _); decide)
    | (with_reducible apply Within.step (State.hostUr_in _ _ _); decide) | split

theorem execPerstNAssert_in (a0 s) : WithinR 26053988416 s (execPerstNAssert a0 s) := by
  unfold execPerstNAssert
  repeat' first
    | with_reducible exact .refl _ _ | with_reducible assumption | with_reducible apply Within.ite
    | with_reducible refine Within.next ?_ | with_reducible exact WithinR.fault _ _ _
    | with_reducible apply WithinR.ite | (with_reducible apply Within.step (State.resetPort_in _ _ _); decide)
    | (with_reducible apply Within.step (State.setFld_in _ _ _ _); decide) | split

theorem execPerstNDeassert_in (a0 a1 s) : WithinR 26083348544 s (execPerstNDeassert a0 a1 s) := by
  unfold execPerstNDeassert
  repeat' first
    | with_reducible exact .refl _ _ | with_reducible assumption | ((try lift_lets -underBinder); intro x; first
    | (refine Within.cut 26083348544 s x ?_ ?_; (on_goal 1 => unfold x); (on_goal 2 => (intro hx; clear_value x)))
    | clear_value x) | with_reducible apply Within.ite | with_reducible refine Within.next ?_
    | with_reducible exact WithinR.fault _ _ _ | with_reducible apply WithinR.ite
    | (with_reducible apply Within.step (State.setFld_in _ _ _ _); decide)
    | (with_reducible apply Within.step (State.raiseWake_in _ _ _); decide)
    | (with_reducible apply Within.step (State.applyLayout_in _ _); decide) | split

theorem execPostedWritePoisoned_in (a0 s) : WithinR 30073163840 s (execPostedWritePoisoned a0 s) := by
  unfold execPostedWritePoisoned
  repeat' first
    | with_reducible exact .refl _ _ | with_reducible assumption | with_reducible apply Within.ite
    | with_reducible refine Within.next ?_ | with_reducible exact WithinR.fault _ _ _
    | with_reducible apply WithinR.ite | (with_reducible apply Within.step (State.aerTlp_in _ _ _); decide)
    | split

theorem execTranslationCompletion_in (a0 a1 a2 a3 a4 s) : WithinR 8388608 s (execTranslationCompletion a0 a1 a2 a3 a4 s) := by
  unfold execTranslationCompletion
  repeat' first
    | with_reducible exact .refl _ _ | with_reducible assumption | ((try lift_lets -underBinder); intro x; first
    | (refine Within.cut 8388608 s x ?_ ?_; (on_goal 1 => unfold x); (on_goal 2 => (intro hx; clear_value x)))
    | clear_value x) | with_reducible apply Within.ite | with_reducible refine Within.next ?_
    | with_reducible exact WithinR.fault _ _ _ | with_reducible apply WithinR.ite
    | (with_reducible apply Within.step (State.updLink_in _ _ _); decide) | split | dsimp -zeta only

theorem execUnexpectedCompletion_in (a0 s) : WithinR 30073163840 s (execUnexpectedCompletion a0 s) := by
  unfold execUnexpectedCompletion
  repeat' first
    | with_reducible exact .refl _ _ | with_reducible assumption | with_reducible apply Within.ite
    | with_reducible refine Within.next ?_ | with_reducible exact WithinR.fault _ _ _
    | with_reducible apply WithinR.ite | (with_reducible apply Within.step (State.aerTlp_in _ _ _); decide)
    | split

end Sys2Proof.Machine
end

