-- ==== Sys2Proof/Laws/InWeights.lean ====
section
/-! SUPPORT. What the operations of Machine/Weights.lean may change. -/

namespace Sys2Proof.Machine

set_option linter.unusedTactic false
set_option linter.unreachableTactic false

theorem State.shadowErrors_in (s a1 a2 a3) : Within 25778327616 s (State.shadowErrors s a1 a2 a3) := by
  unfold State.shadowErrors
  repeat' first
    | with_reducible exact .refl _ _ | with_reducible assumption | ((try lift_lets -underBinder); intro x; first
    | (refine Within.cut 25778327616 s x ?_ ?_; (on_goal 1 => unfold x); (on_goal 2 => (intro hx; clear_value x)))
    | clear_value x) | with_reducible apply Within.ite
    | (with_reducible apply Within.step (State.cnt_in _ _); decide)
    | (with_reducible apply Within.step (State.evUm_in _ _); decide)
    | (with_reducible apply Within.step (State.updUnit_in _ _ _); decide)
    | (with_reducible refine Within.foldl _ (fun x y hx => ?_) ?_) | split

theorem State.shadowRead_in (s a1 a2 a3 a4) : WithinP 25778327616 s (State.shadowRead s a1 a2 a3 a4) := by
  unfold State.shadowRead
  repeat' first
    | with_reducible exact .refl _ _ | with_reducible assumption | ((try lift_lets -underBinder); intro x; first
    | (refine Within.cut 25778327616 s x ?_ ?_; (on_goal 1 => unfold x); (on_goal 2 => (intro hx; clear_value x)))
    | clear_value x)  | with_reducible refine Within.pair ?_
    | (with_reducible apply Within.step (State.evUm_in _ _); decide)
    | (with_reducible apply Within.step (State.cnt_in _ _); decide)
    | (with_reducible apply Within.step (State.shadowErrors_in _ _ _ _); decide)
    | (with_reducible refine Within.foldl _ (fun x y hx => ?_) ?_)

theorem State.shadowWrite_in (s a1 a2 a3 a4) : WithinP 25912545344 s (State.shadowWrite s a1 a2 a3 a4) := by
  unfold State.shadowWrite
  repeat' first
    | with_reducible exact .refl _ _ | with_reducible assumption | ((try lift_lets -underBinder); intro x; first
    | (refine Within.cut 25912545344 s x ?_ ?_; (on_goal 1 => unfold x); (on_goal 2 => (intro hx; clear_value x)))
    | clear_value x) | with_reducible apply Within.ite | with_reducible refine Within.pair ?_
    | with_reducible apply WithinP.ite
    | (with_reducible apply Within.step (State.shadowErrors_in _ _ _ _); decide)
    | (with_reducible apply Within.step (State.evUm_in _ _); decide)
    | (with_reducible apply Within.step (State.cnt_in _ _); decide)
    | (with_reducible apply Within.step (State.updUnit_in _ _ _); decide)
    | (with_reducible apply Within.step (State.setFld_in _ _ _ _); decide)
    | (with_reducible apply Within.step (State.mirrorWords_in _ _ _ _ _ _); decide)
    | (with_reducible refine Within.foldl _ (fun x y hx => ?_) ?_) | split

theorem State.umShadow_in (s a1 a2 a3 a4) : WithinP 25912545344 s (State.umShadow s a1 a2 a3 a4) := by
  unfold State.umShadow
  repeat' first
    | with_reducible exact .refl _ _ | with_reducible assumption | with_reducible apply Within.ite
    | with_reducible refine Within.pair ?_ | with_reducible apply WithinP.ite
    | (with_reducible apply Within.step (State.cnt_in _ _); decide)
    | refine Within.step (WithinP.out (State.shadowWrite_in _ _ _ _ _) (by assumption)) (by decide) ?_
    | (with_reducible apply WithinP.step (State.shadowWrite_in _ _ _ _ _); decide)
    | (with_reducible apply Within.step (WithinP.fst (State.shadowWrite_in _ _ _ _ _)); decide) | split

theorem State.updGrp_in (s a1 a2) : Within 262144 s (State.updGrp s a1 a2) := by
  unfold State.updGrp
  repeat' first
    | with_reducible exact .refl _ _ | with_reducible assumption 
    | with_reducible refine Within.set_groups rfl ?_

theorem State.doAccess_in (s a1 a2) : Within 30224552000 s (State.doAccess s a1 a2) := by
  unfold State.doAccess
  repeat' first
    | with_reducible exact .refl _ _ | with_reducible assumption | ((try lift_lets -underBinder); intro x; first
    | (refine Within.cut 30224552000 s x ?_ ?_; (on_goal 1 => unfold x); (on_goal 2 => (intro hx; clear_value x)))
    | clear_value x) | with_reducible apply Within.ite
    | (with_reducible apply Within.step (State.cnt_in _ _); decide)
    | refine Within.step (WithinP.out (State.shadowWrite_in _ _ _ _ _) (by assumption)) (by decide) ?_
    | (with_reducible apply Within.step (WithinP.fst (State.shadowWrite_in _ _ _ _ _)); decide)
    | (with_reducible apply Within.step (State.aerUnc_in _ _ _ _); decide)
    | refine Within.step (WithinP.out (State.shadowRead_in _ _ _ _ _) (by assumption)) (by decide) ?_
    | (with_reducible apply Within.step (WithinP.fst (State.shadowRead_in _ _ _ _ _)); decide)
    | (with_reducible apply Within.step (State.emit_in _ _); decide)
    | (with_reducible apply Within.step (State.setFld_in _ _ _ _); decide)
    | (with_reducible apply Within.step (State.updGrp_in _ _ _); decide)
    | (with_reducible apply Within.step (State.refuse_in _ _ _ _); decide)
    | (with_reducible apply Within.step (State.reply_in _ _ _ _ _); decide)
    | refine Within.step (WithinP.out (State.umShadow_in _ _ _ _ _) (by assumption)) (by decide) ?_
    | (with_reducible apply Within.step (WithinP.fst (State.umShadow_in _ _ _ _ _)); decide)
    | (with_reducible apply Within.step (State.final_in _ _ _ _ _ _); decide) | split | dsimp -zeta only

theorem State.access_in (s a1 a2) : Within 30224552000 s (State.access s a1 a2) := by
  unfold State.access
  repeat' first
    | with_reducible exact .refl _ _ | with_reducible assumption | ((try lift_lets -underBinder); intro x; first
    | (refine Within.cut 30224552000 s x ?_ ?_; (on_goal 1 => unfold x); (on_goal 2 => (intro hx; clear_value x)))
    | clear_value x) | with_reducible apply Within.ite
    | (with_reducible apply Within.step (State.updGrp_in _ _ _); decide)
    | (with_reducible apply Within.step (State.doAccess_in _ _ _); decide) | split | dsimp -zeta only

theorem State.reinstate_in (s a1 a2) : WithinP 524352 s (State.reinstate s a1 a2) := by
  unfold State.reinstate
  repeat' first
    | with_reducible exact .refl _ _ | with_reducible assumption | ((try lift_lets -underBinder); intro x; first
    | (refine Within.cut 524352 s x ?_ ?_; (on_goal 1 => unfold x); (on_goal 2 => (intro hx; clear_value x)))
    | clear_value x) | with_reducible apply Within.ite | with_reducible refine Within.pair ?_
    | with_reducible apply WithinP.ite | (with_reducible apply Within.step (State.updSpare_in _ _ _); decide)
    | (with_reducible apply Within.step (State.setFld_in _ _ _ _); decide) | split

theorem State.spareResult_in (s a1 a2) : Within 64 s (State.spareResult s a1 a2) := by
  unfold State.spareResult
  repeat' first
    | with_reducible exact .refl _ _ | with_reducible assumption 
    | (with_reducible apply Within.step (State.setFld_in _ _ _ _); decide)

theorem State.spareGo_in (s a1) : WithinP 524352 s (State.spareGo s a1) := by
  unfold State.spareGo
  repeat' first
    | with_reducible exact .refl _ _ | with_reducible assumption | ((try lift_lets -underBinder); intro x; first
    | (refine Within.cut 524352 s x ?_ ?_; (on_goal 1 => unfold x); (on_goal 2 => (intro hx; clear_value x)))
    | clear_value x) | with_reducible apply Within.ite | with_reducible refine Within.pair ?_
    | with_reducible apply WithinP.ite | (with_reducible apply Within.step (State.spareResult_in _ _ _); decide)
    | (with_reducible apply Within.step (State.spareDecide_in _ _ _ _ _); decide) | split

theorem State.wbSync_in (s a1) : Within 30224552000 s (State.wbSync s a1) := by
  unfold State.wbSync
  repeat' first
    | with_reducible exact .refl _ _ | with_reducible assumption 
    | (with_reducible apply Within.step (State.access_in _ _ _); decide)
    | (with_reducible apply Within.step (State.mirrorGen_in _ _ _); decide)

theorem State.windowWrite_in (s a1 a2 a3 a4 a5) : Within 30224552000 s (State.windowWrite s a1 a2 a3 a4 a5) := by
  unfold State.windowWrite
  repeat' first
    | with_reducible exact .refl _ _ | with_reducible assumption | with_reducible apply Within.ite
    | (with_reducible apply Within.step (State.aerTlp_in _ _ _); decide)
    | (with_reducible apply Within.step (State.access_in _ _ _); decide) | split

theorem State.startZeroing_in (s a1) : Within 131136 s (State.startZeroing s a1) := by
  unfold State.startZeroing
  repeat' first
    | with_reducible exact .refl _ _ | with_reducible assumption | ((try lift_lets -underBinder); intro x; first
    | (refine Within.cut 131136 s x ?_ ?_; (on_goal 1 => unfold x); (on_goal 2 => (intro hx; clear_value x)))
    | clear_value x) | with_reducible apply Within.ite
    | (with_reducible apply Within.step (State.updUnit_in _ _ _); decide)
    | (with_reducible apply Within.step (State.setFld_in _ _ _ _); decide) | split

theorem State.rebind_in (s a1) : Within 21492273216 s (State.rebind s a1) := by
  unfold State.rebind
  repeat' first
    | with_reducible exact .refl _ _ | with_reducible assumption | ((try lift_lets -underBinder); intro x; first
    | (refine Within.cut 21492273216 s x ?_ ?_; (on_goal 1 => unfold x); (on_goal 2 => (intro hx; clear_value x)))
    | clear_value x) | with_reducible apply Within.ite
    | (with_reducible apply Within.step (State.setFld_in _ _ _ _); decide)
    | (with_reducible apply Within.step (State.updUnit_in _ _ _); decide)
    | (with_reducible apply Within.step (State.startZeroing_in _ _); decide)
    | (with_reducible apply Within.step (State.updSpare_in _ _ _); decide)
    | (with_reducible apply Within.step (State.final_in _ _ _ _ _ _); decide)
    | (with_reducible refine Within.foldl _ (fun x y hx => ?_) ?_) | split | dsimp -zeta only

theorem State.drainHeld_in (s a1 a2) : Within 30224552000 s (State.drainHeld s a1 a2) := by
  induction a2 generalizing s a1 with
  | nil => 
    unfold State.drainHeld
    try dsimp -zeta only
    repeat' first
      | with_reducible exact .refl _ _ | with_reducible assumption | with_reducible apply Within.ite
      | (with_reducible apply Within.step (State.updGrp_in _ _ _); decide)
      | (with_reducible apply Within.step (State.doAccess_in _ _ _); decide)
      | (with_reducible apply Within.step (ih _ _); decide) | split | dsimp -zeta only
  | cons x l ih =>
    unfold State.drainHeld
    try dsimp -zeta only
    repeat' first
      | with_reducible exact .refl _ _ | with_reducible assumption | with_reducible apply Within.ite
      | (with_reducible apply Within.step (State.updGrp_in _ _ _); decide)
      | (with_reducible apply Within.step (State.doAccess_in _ _ _); decide)
      | (with_reducible apply Within.step (ih _ _); decide) | split | dsimp -zeta only

theorem State.exchange_in (s a1 a2) : Within 393280 s (State.exchange s a1 a2) := by
  unfold State.exchange
  repeat' first
    | with_reducible exact .refl _ _ | with_reducible assumption | ((try lift_lets -underBinder); intro x; first
    | (refine Within.cut 393280 s x ?_ ?_; (on_goal 1 => unfold x); (on_goal 2 => (intro hx; clear_value x)))
    | clear_value x) | with_reducible apply Within.ite
    | (with_reducible apply Within.step (State.updUnit_in _ _ _); decide)
    | (with_reducible apply Within.step (State.setFld_in _ _ _ _); decide)
    | (with_reducible apply Within.step (State.wrWide_in _ _ _); decide)
    | (with_reducible apply Within.step (State.updGrp_in _ _ _); decide)
    | (with_reducible refine Within.foldl _ (fun x y hx => ?_) ?_) | split

theorem State.logSpare_in (s a1 a2 a3) : Within 17179873344 s (State.logSpare s a1 a2 a3) := by
  unfold State.logSpare
  repeat' first
    | with_reducible exact .refl _ _ | with_reducible assumption | ((try lift_lets -underBinder); intro x; first
    | (refine Within.cut 17179873344 s x ?_ ?_; (on_goal 1 => unfold x); (on_goal 2 => (intro hx; clear_value x)))
    | clear_value x)  | (with_reducible apply Within.step (State.logPut_in _ _); decide)

theorem State.mergeCnt_in (s a1 a2 a3) : Within 17179869248 s (State.mergeCnt s a1 a2 a3) := by
  unfold State.mergeCnt
  repeat' first
    | with_reducible exact .refl _ _ | with_reducible assumption 
    | (with_reducible apply Within.step (State.addCnt_in _ _ _ _); decide)

theorem State.releaseHeld_in (s a1) : Within 30224552000 s (State.releaseHeld s a1) := by
  unfold State.releaseHeld
  repeat' first
    | with_reducible exact .refl _ _ | with_reducible assumption 
    | (with_reducible apply Within.step (State.drainHeld_in _ _ _); decide)

theorem State.restoreExchange_in (s a1) : Within 30224552000 s (State.restoreExchange s a1) := by
  unfold State.restoreExchange
  repeat' first
    | with_reducible exact .refl _ _ | with_reducible assumption | ((try lift_lets -underBinder); intro x; first
    | (refine Within.cut 30224552000 s x ?_ ?_; (on_goal 1 => unfold x); (on_goal 2 => (intro hx; clear_value x)))
    | clear_value x)  | (with_reducible apply Within.step (State.updUnit_in _ _ _); decide)
    | (with_reducible apply Within.step (State.setFld_in _ _ _ _); decide)
    | (with_reducible apply Within.step (State.updGrp_in _ _ _); decide)
    | (with_reducible apply Within.step (State.final_in _ _ _ _ _ _); decide)
    | (with_reducible apply Within.step (State.releaseHeld_in _ _); decide)
    | (with_reducible refine Within.foldl _ (fun x y hx => ?_) ?_) | split | dsimp -zeta only

theorem State.spareCtrlRw_in (s a1 a2) : Within 64 s (State.spareCtrlRw s a1 a2) := by
  unfold State.spareCtrlRw
  repeat' first
    | with_reducible exact .refl _ _ | with_reducible assumption | ((try lift_lets -underBinder); intro x; first
    | (refine Within.cut 64 s x ?_ ?_; (on_goal 1 => unfold x); (on_goal 2 => (intro hx; clear_value x)))
    | clear_value x)  | (with_reducible apply Within.step (State.setFld_in _ _ _ _); decide)

theorem execReinstateTestDone_in (a0 a1 s) : WithinR 21492273216 s (execReinstateTestDone a0 a1 s) := by
  unfold execReinstateTestDone
  repeat' first
    | with_reducible exact .refl _ _ | with_reducible assumption | ((try lift_lets -underBinder); intro x; first
    | (refine Within.cut 21492273216 s x ?_ ?_; (on_goal 1 => unfold x); (on_goal 2 => (intro hx; clear_value x)))
    | clear_value x) | with_reducible apply Within.ite | with_reducible refine Within.next ?_
    | with_reducible exact WithinR.fault _ _ _ | with_reducible apply WithinR.ite
    | (with_reducible apply Within.step (State.updSpare_in _ _ _); decide)
    | (with_reducible apply Within.step (State.updUnit_in _ _ _); decide)
    | (with_reducible apply Within.step (State.setFld_in _ _ _ _); decide)
    | (with_reducible apply Within.step (State.logSpare_in _ _ _ _); decide)
    | (with_reducible apply Within.step (State.spareResult_in _ _ _); decide)
    | (with_reducible apply Within.step (State.final_in _ _ _ _ _ _); decide) | split | dsimp -zeta only

theorem execSpareCounterMerge_in (a0 s) : WithinR 25778851904 s (execSpareCounterMerge a0 s) := by
  unfold execSpareCounterMerge
  repeat' first
    | with_reducible exact .refl _ _ | with_reducible assumption | ((try lift_lets -underBinder); intro x; first
    | (refine Within.cut 25778851904 s x ?_ ?_; (on_goal 1 => unfold x); (on_goal 2 => (intro hx; clear_value x)))
    | clear_value x) | with_reducible apply Within.ite | with_reducible refine Within.next ?_
    | with_reducible exact WithinR.fault _ _ _ | with_reducible apply WithinR.ite
    | (with_reducible apply Within.step (State.mergeCnt_in _ _ _ _); decide)
    | (with_reducible apply Within.step (State.setFld_in _ _ _ _); decide)
    | (with_reducible apply Within.step (State.updUnit_in _ _ _); decide)
    | (with_reducible apply Within.step (State.updSpare_in _ _ _); decide)
    | (with_reducible apply Within.step (State.evUm_in _ _); decide)
    | (with_reducible apply Within.step (State.logSpare_in _ _ _ _); decide)
    | (with_reducible refine Within.foldl _ (fun x y hx => ?_) ?_) | split | dsimp -zeta only

theorem execSpareCtrlGo_in (a0 a1 s) : WithinR 524352 s (execSpareCtrlGo a0 a1 s) := by
  unfold execSpareCtrlGo
  repeat' first
    | with_reducible exact .refl _ _ | with_reducible assumption | ((try lift_lets -underBinder); intro x; first
    | (refine Within.cut 524352 s x ?_ ?_; (on_goal 1 => unfold x); (on_goal 2 => (intro hx; clear_value x)))
    | clear_value x) | with_reducible apply Within.ite | with_reducible refine Within.next ?_
    | with_reducible exact WithinR.fault _ _ _ | with_reducible apply WithinR.ite
    | (with_reducible apply Within.step (State.spareCtrlRw_in _ _ _); decide)
    | refine Within.step (WithinP.out (State.spareGo_in _ _) (by assumption)) (by decide) ?_
    | (with_reducible apply Within.step (WithinP.fst (State.spareGo_in _ _)); decide) | split

theorem execSpareCtrlReinstate_in (a0 a1 s) : WithinR 524352 s (execSpareCtrlReinstate a0 a1 s) := by
  unfold execSpareCtrlReinstate
  repeat' first
    | with_reducible exact .refl _ _ | with_reducible assumption | ((try lift_lets -underBinder); intro x; first
    | (refine Within.cut 524352 s x ?_ ?_; (on_goal 1 => unfold x); (on_goal 2 => (intro hx; clear_value x)))
    | clear_value x) | with_reducible apply Within.ite | with_reducible refine Within.next ?_
    | with_reducible exact WithinR.fault _ _ _ | with_reducible apply WithinR.ite
    | (with_reducible apply Within.step (State.spareCtrlRw_in _ _ _); decide)
    | refine Within.step (WithinP.out (State.reinstate_in _ _ _) (by assumption)) (by decide) ?_
    | (with_reducible apply Within.step (WithinP.fst (State.reinstate_in _ _ _)); decide) | split

theorem execSparePreparationDone_in (a0 s) : WithinR 655744 s (execSparePreparationDone a0 s) := by
  unfold execSparePreparationDone
  repeat' first
    | with_reducible exact .refl _ _ | with_reducible assumption | ((try lift_lets -underBinder); intro x; first
    | (refine Within.cut 655744 s x ?_ ?_; (on_goal 1 => unfold x); (on_goal 2 => (intro hx; clear_value x)))
    | clear_value x) | with_reducible apply Within.ite | with_reducible refine Within.next ?_
    | with_reducible exact WithinR.fault _ _ _ | with_reducible apply WithinR.ite
    | (with_reducible apply Within.step (State.updUnit_in _ _ _); decide)
    | (with_reducible apply Within.step (State.wrS_in _ _ _); decide)
    | (with_reducible apply Within.step (State.wrG_in _ _ _); decide)
    | (with_reducible apply Within.step (State.updSpare_in _ _ _); decide)
    | (with_reducible refine Within.foldl _ (fun x y hx => ?_) ?_) | split | dsimp -zeta only

theorem execSpareSwitch_in (a0 s) : WithinR 17180528704 s (execSpareSwitch a0 s) := by
  unfold execSpareSwitch
  repeat' first
    | with_reducible exact .refl _ _ | with_reducible assumption | ((try lift_lets -underBinder); intro x; first
    | (refine Within.cut 17180528704 s x ?_ ?_; (on_goal 1 => unfold x); (on_goal 2 => (intro hx; clear_value x)))
    | clear_value x) | with_reducible apply Within.ite | with_reducible refine Within.next ?_
    | with_reducible exact WithinR.fault _ _ _ | with_reducible apply WithinR.ite
    | (with_reducible apply Within.step (State.setFld_in _ _ _ _); decide)
    | (with_reducible apply Within.step (State.updUnit_in _ _ _); decide)
    | (with_reducible apply Within.step (State.updSpare_in _ _ _); decide)
    | (with_reducible apply Within.step (State.spareResult_in _ _ _); decide)
    | (with_reducible apply Within.step (State.logSpare_in _ _ _ _); decide) | split

theorem execWbCtrlRestore_in (a0 s) : WithinR 30224552000 s (execWbCtrlRestore a0 s) := by
  unfold execWbCtrlRestore
  repeat' first
    | with_reducible exact .refl _ _ | with_reducible assumption  | with_reducible refine Within.next ?_
    | with_reducible exact WithinR.fault _ _ _
    | (with_reducible apply Within.step (State.access_in _ _ _); decide)
    | (with_reducible apply Within.step (State.mirrorGen_in _ _ _); decide)

theorem execWbCtrlSync_in (a0 s) : WithinR 30224552000 s (execWbCtrlSync a0 s) := by
  unfold execWbCtrlSync
  repeat' first
    | with_reducible exact .refl _ _ | with_reducible assumption  | with_reducible refine Within.next ?_
    | with_reducible exact WithinR.fault _ _ _
    | (with_reducible apply Within.step (State.wbSync_in _ _); decide)

theorem execWbRestoreComplete_in (a0 s) : WithinR 30224552000 s (execWbRestoreComplete a0 s) := by
  unfold execWbRestoreComplete
  repeat' first
    | with_reducible exact .refl _ _ | with_reducible assumption | ((try lift_lets -underBinder); intro x; first
    | (refine Within.cut 30224552000 s x ?_ ?_; (on_goal 1 => unfold x); (on_goal 2 => (intro hx; clear_value x)))
    | clear_value x) | with_reducible apply Within.ite | with_reducible refine Within.next ?_
    | with_reducible exact WithinR.fault _ _ _ | with_reducible apply WithinR.ite
    | (with_reducible apply Within.step (State.updGrp_in _ _ _); decide)
    | (with_reducible apply Within.step (State.restoreExchange_in _ _); decide)
    | (with_reducible apply Within.step (State.setFld_in _ _ _ _); decide)
    | (with_reducible apply Within.step (State.logKind_in _ _ _); decide)
    | (with_reducible apply Within.step (State.final_in _ _ _ _ _ _); decide)
    | (with_reducible apply Within.step (State.releaseHeld_in _ _); decide) | split | dsimp -zeta only

theorem execWbRestoreExchange_in (a0 s) : WithinR 30224552000 s (execWbRestoreExchange a0 s) := by
  unfold execWbRestoreExchange
  repeat' first
    | with_reducible exact .refl _ _ | with_reducible assumption | with_reducible apply Within.ite
    | with_reducible refine Within.next ?_ | with_reducible exact WithinR.fault _ _ _
    | with_reducible apply WithinR.ite
    | (with_reducible apply Within.step (State.restoreExchange_in _ _); decide) | split

theorem execWbSyncComplete_in (a0 s) : WithinR 30224552000 s (execWbSyncComplete a0 s) := by
  unfold execWbSyncComplete
  repeat' first
    | with_reducible exact .refl _ _ | with_reducible assumption | ((try lift_lets -underBinder); intro x; first
    | (refine Within.cut 30224552000 s x ?_ ?_; (on_goal 1 => unfold x); (on_goal 2 => (intro hx; clear_value x)))
    | clear_value x) | with_reducible apply Within.ite | with_reducible refine Within.next ?_
    | with_reducible exact WithinR.fault _ _ _ | with_reducible apply WithinR.ite
    | (with_reducible apply Within.step (State.updUnit_in _ _ _); decide)
    | (with_reducible apply Within.step (State.setFld_in _ _ _ _); decide)
    | (with_reducible apply Within.step (State.releaseHeld_in _ _); decide)
    | (with_reducible apply Within.step (State.updGrp_in _ _ _); decide)
    | (with_reducible refine Within.foldl _ (fun x y hx => ?_) ?_) | split | dsimp -zeta only

theorem execWeightLockEnd_in (a0 s) : WithinR 30224552000 s (execWeightLockEnd a0 s) := by
  unfold execWeightLockEnd
  repeat' first
    | with_reducible exact .refl _ _ | with_reducible assumption | with_reducible apply Within.ite
    | with_reducible refine Within.next ?_ | with_reducible exact WithinR.fault _ _ _
    | with_reducible apply WithinR.ite | (with_reducible apply Within.step (State.releaseHeld_in _ _); decide)
    | (with_reducible apply Within.step (State.updGrp_in _ _ _); decide)
    | (with_reducible apply Within.step (State.setFld_in _ _ _ _); decide) | split | dsimp -zeta only

theorem execWeightWindowWrite_in (a0 a1 a2 a3 s a5) : WithinR 30224552000 s (execWeightWindowWrite a0 a1 a2 a3 s a5) := by
  unfold execWeightWindowWrite
  repeat' first
    | with_reducible exact .refl _ _ | with_reducible assumption | ((try lift_lets -underBinder); intro x; first
    | (refine Within.cut 30224552000 s x ?_ ?_; (on_goal 1 => unfold x); (on_goal 2 => (intro hx; clear_value x)))
    | clear_value x) | with_reducible apply Within.ite | with_reducible refine Within.next ?_
    | with_reducible exact WithinR.fault _ _ _ | with_reducible apply WithinR.ite
    | (with_reducible apply Within.step (State.aerTlp_in _ _ _); decide)
    | (with_reducible apply Within.step (State.windowWrite_in _ _ _ _ _ _); decide) | split

theorem execWeightZeroingComplete_in (a0 s) : WithinR 30224552000 s (execWeightZeroingComplete a0 s) := by
  unfold execWeightZeroingComplete
  repeat' first
    | with_reducible exact .refl _ _ | with_reducible assumption | ((try lift_lets -underBinder); intro x; first
    | (refine Within.cut 30224552000 s x ?_ ?_; (on_goal 1 => unfold x); (on_goal 2 => (intro hx; clear_value x)))
    | clear_value x) | with_reducible apply Within.ite | with_reducible refine Within.next ?_
    | with_reducible exact WithinR.fault _ _ _ | with_reducible apply WithinR.ite
    | (with_reducible apply Within.step (State.updUnit_in _ _ _); decide)
    | (with_reducible apply Within.step (State.setFld_in _ _ _ _); decide)
    | (with_reducible apply Within.step (State.evCh_in _ _ _); decide)
    | (with_reducible apply Within.step (State.releaseHeld_in _ _); decide) | split | dsimp -zeta only

end Sys2Proof.Machine
end

