-- ==== Sys2Proof/Laws/InGeneration.lean ====
section
/-! SUPPORT. What the operations of Machine/Generation.lean may change. -/

namespace Sys2Proof.Machine

set_option linter.unusedTactic false
set_option linter.unreachableTactic false

theorem State.setPending_in (s a1) : Within 64 s (State.setPending s a1) := by
  induction a1 generalizing s with
  | nil => exact .refl _ _
  | cons x l ih =>
    unfold State.setPending
    try dsimp -zeta only
    repeat' first
      | with_reducible exact .refl _ _ | with_reducible assumption 
      | (with_reducible apply Within.step (State.setFld_in _ _ _ _); decide)
      | (with_reducible apply Within.step (ih _); decide) | split | dsimp -zeta only

theorem State.arm_in (s a1 a2 a3 a4 a5 a6 a7) : Within 16777280 s (State.arm s a1 a2 a3 a4 a5 a6 a7) := by
  unfold State.arm
  repeat' first
    | with_reducible exact .refl _ _ | with_reducible assumption | ((try lift_lets -underBinder); intro x; first
    | (refine Within.cut 16777280 s x ?_ ?_; (on_goal 1 => unfold x); (on_goal 2 => (intro hx; clear_value x)))
    | clear_value x) | with_reducible apply Within.ite
    | (with_reducible apply Within.step (State.wrW_in _ _ _); decide)
    | (with_reducible apply Within.step (State.setPending_in _ _); decide)
    | (with_reducible apply Within.step (State.updUm_in _ _); decide)
    | (with_reducible apply Within.step (State.setFld_in _ _ _ _); decide) | split

theorem State.armDone_in (s) : Within 16777216 s (State.armDone s) := by
  unfold State.armDone
  repeat' first
    | with_reducible exact .refl _ _ | with_reducible assumption | ((try lift_lets -underBinder); intro x; first
    | (refine Within.cut 16777216 s x ?_ ?_; (on_goal 1 => unfold x); (on_goal 2 => (intro hx; clear_value x)))
    | clear_value x) | with_reducible apply Within.ite
    | (with_reducible apply Within.step (State.updUm_in _ _); decide)
    | (with_reducible apply Within.step (State.accepted_in _ _ _ _); decide) | split | dsimp -zeta only

theorem State.genRefused_in (s a1 a2) : Within 25794973760 s (State.genRefused s a1 a2) := by
  unfold State.genRefused
  repeat' first
    | with_reducible exact .refl _ _ | with_reducible assumption 
    | (with_reducible apply Within.step (State.evUm_in _ _); decide)
    | (with_reducible apply Within.step (State.updUm_in _ _); decide)
    | (with_reducible apply Within.step (State.setFld_in _ _ _ _); decide)

theorem State.armRefused_in (s a1 a2 a3) : Within 30492594240 s (State.armRefused s a1 a2 a3) := by
  unfold State.armRefused
  repeat' first
    | with_reducible exact .refl _ _ | with_reducible assumption | ((try lift_lets -underBinder); intro x; first
    | (refine Within.cut 30492594240 s x ?_ ?_; (on_goal 1 => unfold x); (on_goal 2 => (intro hx; clear_value x)))
    | clear_value x)  | (with_reducible apply Within.step (State.setFld_in _ _ _ _); decide)
    | (with_reducible apply Within.step (State.clearPending_in _ _); decide)
    | (with_reducible apply Within.step (State.genRefused_in _ _ _); decide)
    | (with_reducible apply Within.step (State.herdAbort_in _ _); decide)
    | (with_reducible apply Within.step (State.lastAt_in _); decide)
    | (with_reducible apply Within.step (State.updUm_in _ _); decide)
    | (with_reducible apply Within.step (State.final_in _ _ _ _ _ _); decide) | split | dsimp -zeta only

theorem State.sendDigest_in (s a1) : Within 134217728 s (State.sendDigest s a1) := by
  unfold State.sendDigest
  repeat' first
    | with_reducible exact .refl _ _ | with_reducible assumption | ((try lift_lets -underBinder); intro x; first
    | (refine Within.cut 134217728 s x ?_ ?_; (on_goal 1 => unfold x); (on_goal 2 => (intro hx; clear_value x)))
    | clear_value x) | with_reducible apply Within.ite
    | (with_reducible apply Within.step (State.updCl_in _ _ _); decide) | split

theorem State.dropAll_in (s a1 a2) : Within 25778212928 s (State.dropAll s a1 a2) := by
  induction a2 generalizing s a1 with
  | nil => exact .refl _ _
  | cons x l ih =>
    unfold State.dropAll
    try dsimp -zeta only
    repeat' first
      | with_reducible exact .refl _ _ | with_reducible assumption
      | ((try lift_lets -underBinder); intro x; first
      | (refine Within.cut 25778212928 s x ?_ ?_; (on_goal 1 => unfold x); (on_goal 2 => (intro hx; clear_value x)))
      | clear_value x) | with_reducible apply Within.ite
      | (with_reducible apply Within.step (State.missTx_in _ _ _); decide)
      | (with_reducible apply Within.step (State.vatDrop_in _ _ _); decide)
      | (with_reducible apply Within.step (ih _ _); decide) | split | dsimp -zeta only

theorem State.dropPails_in (s a1) : Within 25778212928 s (State.dropPails s a1) := by
  induction a1 generalizing s with
  | nil => exact .refl _ _
  | cons x l ih =>
    unfold State.dropPails
    try dsimp -zeta only
    repeat' first
      | with_reducible exact .refl _ _ | with_reducible assumption
      | ((try lift_lets -underBinder); intro x; first
      | (refine Within.cut 25778212928 s x ?_ ?_; (on_goal 1 => unfold x); (on_goal 2 => (intro hx; clear_value x)))
      | clear_value x) | with_reducible apply Within.ite
      | (with_reducible apply Within.step (State.updPail_in _ _ _); decide)
      | (with_reducible apply Within.step (State.dropAll_in _ _ _); decide)
      | (with_reducible apply Within.step (ih _); decide) | split | dsimp -zeta only

theorem State.freePorts_in (s a1) : Within 17184063552 s (State.freePorts s a1) := by
  induction a1 generalizing s with
  | nil => exact .refl _ _
  | cons x l ih =>
    unfold State.freePorts
    try dsimp -zeta only
    repeat' first
      | with_reducible exact .refl _ _ | with_reducible assumption
      | ((try lift_lets -underBinder); intro x; first
      | (refine Within.cut 17184063552 s x ?_ ?_; (on_goal 1 => unfold x); (on_goal 2 => (intro hx; clear_value x)))
      | clear_value x) | with_reducible apply Within.ite
      | (with_reducible apply Within.step (State.freeRetried_in _ _); decide)
      | (with_reducible apply Within.step (ih _); decide) | split | dsimp -zeta only

theorem State.stageImage_in (s a1) : Within 256 s (State.stageImage s a1) := by
  induction a1 generalizing s with
  | nil => exact .refl _ _
  | cons x l ih =>
    unfold State.stageImage
    try dsimp -zeta only
    repeat' first
      | with_reducible exact .refl _ _ | with_reducible assumption 
      | (with_reducible apply Within.step (State.wrS_in _ _ _); decide)
      | (with_reducible apply Within.step (ih _); decide) | split | dsimp -zeta only

theorem State.openGen_in (s a1) : Within 16777536 s (State.openGen s a1) := by
  unfold State.openGen
  repeat' first
    | with_reducible exact .refl _ _ | with_reducible assumption | ((try lift_lets -underBinder); intro x; first
    | (refine Within.cut 16777536 s x ?_ ?_; (on_goal 1 => unfold x); (on_goal 2 => (intro hx; clear_value x)))
    | clear_value x) | with_reducible apply Within.ite
    | (with_reducible apply Within.step (State.updUm_in _ _); decide)
    | (with_reducible apply Within.step (State.copyActive_in _); decide)
    | (with_reducible apply Within.step (State.stageImage_in _ _); decide)
    | (with_reducible apply Within.step (State.setFld_in _ _ _ _); decide) | split

theorem State.portsEn_in (s a1 a2) : Within 30211657792 s (State.portsEn s a1 a2) := by
  induction a2 generalizing s a1 with
  | nil => exact .refl _ _
  | cons x l ih =>
    unfold State.portsEn
    try dsimp -zeta only
    repeat' first
      | with_reducible exact .refl _ _ | with_reducible assumption
      | ((try lift_lets -underBinder); intro x; first
      | (refine Within.cut 30211657792 s x ?_ ?_; (on_goal 1 => unfold x); (on_goal 2 => (intro hx; clear_value x)))
      | clear_value x) | with_reducible apply Within.ite
      | (with_reducible apply Within.step (State.alLoss_in _ _ _); decide)
      | (with_reducible apply Within.step (State.tryLockLink_in _ _); decide)
      | (with_reducible apply Within.step (State.updTrain_in _ _ _); decide)
      | (with_reducible apply Within.step (ih _ _); decide) | split | dsimp -zeta only

theorem State.refuseCheck_in (s a1 a2 a3) : Within 16777216 s (State.refuseCheck s a1 a2 a3) := by
  unfold State.refuseCheck
  repeat' first
    | with_reducible exact .refl _ _ | with_reducible assumption | with_reducible apply Within.ite
    | (with_reducible apply Within.step (State.refuse_in _ _ _ _); decide)
    | (with_reducible apply Within.step (State.refuseEcho_in _ _ _ _); decide) | split

theorem State.sendDigests_in (s a1) : Within 134217728 s (State.sendDigests s a1) := by
  induction a1 generalizing s with
  | nil => exact .refl _ _
  | cons x l ih =>
    unfold State.sendDigests
    try dsimp -zeta only
    repeat' first
      | with_reducible exact .refl _ _ | with_reducible assumption 
      | (with_reducible apply Within.step (State.updCl_in _ _ _); decide)
      | (with_reducible apply Within.step (State.sendDigest_in _ _); decide)
      | (with_reducible apply Within.step (ih _); decide) | split | dsimp -zeta only

theorem State.umRun_in {A : Nat} {x s : State} {h op len body} (hA : 16777216 &&& A = 16777216) (h0 : Within A x s)
    (hb : Within A x (body s)) : WithinR A x (State.umRun s h op len body) := by
  unfold State.umRun
  split
  · exact .next (Within.step (State.refuseCheck_in ..) hA h0)
  · exact .next hb

theorem State.swapImages_in (s a1) : Within 17170880 s (State.swapImages s a1) := by
  unfold State.swapImages
  repeat' first
    | with_reducible exact .refl _ _ | with_reducible assumption | ((try lift_lets -underBinder); intro x; first
    | (refine Within.cut 17170880 s x ?_ ?_; (on_goal 1 => unfold x); (on_goal 2 => (intro hx; clear_value x)))
    | clear_value x) | with_reducible apply Within.ite
    | (with_reducible apply Within.step (State.exchange_in _ _ _); decide)
    | (with_reducible apply Within.step (State.updUm_in _ _); decide)
    | (with_reducible apply Within.step (State.promote_in _); decide)
    | (with_reducible apply Within.step (State.wrW_in _ _ _); decide)
    | (with_reducible apply Within.step (State.setFld_in _ _ _ _); decide)
    | (with_reducible apply Within.step (State.wrWide_in _ _ _); decide)
    | (with_reducible refine Within.foldl _ (fun x y hx => ?_) ?_) | split

theorem execCommitAt_in (a0 a1 s) : WithinR 26197626944 s (execCommitAt a0 a1 s) := by
  unfold execCommitAt
  repeat' first
    | with_reducible exact .refl _ _ | with_reducible assumption | ((try lift_lets -underBinder); intro x; first
    | (refine Within.cut 26197626944 s x ?_ ?_; (on_goal 1 => unfold x); (on_goal 2 => (intro hx; clear_value x)))
    | clear_value x) | with_reducible apply Within.ite | with_reducible refine Within.next ?_
    | with_reducible exact WithinR.fault _ _ _ | with_reducible apply WithinR.ite
    | (with_reducible apply Within.step (State.refuseCheck_in _ _ _ _); decide)
    | (with_reducible apply Within.step (State.genRefused_in _ _ _); decide)
    | (with_reducible apply Within.step (State.refuse_in _ _ _ _); decide)
    | (with_reducible apply Within.step (State.arm_in _ _ _ _ _ _ _ _); decide)
    | (with_reducible apply Within.step (State.updUm_in _ _); decide)
    | (with_reducible apply Within.step (State.updTw_in _ _); decide)
    | (with_reducible apply Within.step (State.herdSend_in _ _ _ _ _); decide)
    | (with_reducible apply Within.step (State.mirror_in _ _ _); decide) | split | dsimp -zeta only

theorem execGenAbort_in (a0 a1 s) : WithinR 150995264 s (execGenAbort a0 a1 s) := by
  unfold execGenAbort
  repeat' first
    | with_reducible exact .refl _ _ | with_reducible assumption  | with_reducible refine Within.next ?_
    | with_reducible exact WithinR.fault _ _ _
    | (with_reducible refine State.umRun_in (by decide) ?_ ?_ <;> try beta_reduce)
    | (with_reducible apply Within.step (State.refuse_in _ _ _ _); decide)
    | (with_reducible apply Within.step (State.reply_in _ _ _ _ _); decide)
    | (with_reducible apply Within.step (State.mirrorGen_in _ _ _); decide)
    | (with_reducible apply Within.step (State.closeGen_in _); decide) | split | dsimp -zeta only

theorem execGenCancel_in (a0 a1 s) : WithinR 30492594240 s (execGenCancel a0 a1 s) := by
  unfold execGenCancel
  repeat' first
    | with_reducible exact .refl _ _ | with_reducible assumption | with_reducible apply Within.ite
    | with_reducible refine Within.next ?_ | with_reducible exact WithinR.fault _ _ _
    | with_reducible apply WithinR.ite
    | (with_reducible refine State.umRun_in (by decide) ?_ ?_ <;> try beta_reduce)
    | (with_reducible apply Within.step (State.refuse_in _ _ _ _); decide)
    | (with_reducible apply Within.step (State.reply_in _ _ _ _ _); decide)
    | (with_reducible apply Within.step (State.mirrorGen_in _ _ _); decide)
    | (with_reducible apply Within.step (State.disarm_in _); decide) | split | dsimp -zeta only

theorem execGenOpen_in (a0 a1 s) : WithinR 150995264 s (execGenOpen a0 a1 s) := by
  unfold execGenOpen
  repeat' first
    | with_reducible exact .refl _ _ | with_reducible assumption | with_reducible apply Within.ite
    | with_reducible refine Within.next ?_ | with_reducible exact WithinR.fault _ _ _
    | with_reducible apply WithinR.ite
    | (with_reducible refine State.umRun_in (by decide) ?_ ?_ <;> try beta_reduce)
    | (with_reducible apply Within.step (State.refuse_in _ _ _ _); decide)
    | (with_reducible apply Within.step (State.reply_in _ _ _ _ _); decide)
    | (with_reducible apply Within.step (State.mirrorGen_in _ _ _); decide)
    | (with_reducible apply Within.step (State.openGen_in _ _); decide) | split

theorem State.teardowns_in (s a1) : Within 11534400 s (State.teardowns s a1) := by
  induction a1 generalizing s with
  | nil => exact .refl _ _
  | cons x l ih =>
    unfold State.teardowns
    try dsimp -zeta only
    repeat' first
      | with_reducible exact .refl _ _ | with_reducible assumption
      | ((try lift_lets -underBinder); intro x; first
      | (refine Within.cut 11534400 s x ?_ ?_; (on_goal 1 => unfold x); (on_goal 2 => (intro hx; clear_value x)))
      | clear_value x)  | (with_reducible apply Within.step (State.teardown_in _ _ _ _); decide)
      | (with_reducible apply Within.step (ih _); decide) | split | dsimp -zeta only

theorem execCommitChecksComplete_in (s) : WithinR 30492594496 s (execCommitChecksComplete s) := by
  unfold execCommitChecksComplete
  repeat' first
    | with_reducible exact .refl _ _ | with_reducible assumption | ((try lift_lets -underBinder); intro x; first
    | (refine Within.cut 30492594496 s x ?_ ?_; (on_goal 1 => unfold x); (on_goal 2 => (intro hx; clear_value x)))
    | clear_value x) | with_reducible apply Within.ite | with_reducible refine Within.next ?_
    | with_reducible exact WithinR.fault _ _ _ | with_reducible apply WithinR.ite
    | (with_reducible apply Within.step (State.updCl_in _ _ _); decide)
    | (with_reducible apply Within.step (State.updUm_in _ _); decide)
    | (with_reducible apply Within.step (State.closeGen_in _); decide)
    | (with_reducible apply Within.step (State.lastAt_in _); decide)
    | (with_reducible apply Within.step (State.clearPending_in _ _); decide)
    | (with_reducible apply Within.step (State.setFld_in _ _ _ _); decide)
    | (with_reducible apply Within.step (State.armRefused_in _ _ _ _); decide)
    | (with_reducible apply Within.step (State.armDone_in _); decide) | split | dsimp -zeta only

theorem execGenTakesEffect_in (s) : WithinR 31037280704 s (execGenTakesEffect s) := by
  unfold execGenTakesEffect
  repeat' first
    | with_reducible exact .refl _ _ | with_reducible assumption | ((try lift_lets -underBinder); intro x; first
    | (refine Within.cut 31037280704 s x ?_ ?_; (on_goal 1 => unfold x); (on_goal 2 => (intro hx; clear_value x)))
    | clear_value x) | with_reducible apply Within.ite | with_reducible refine Within.next ?_
    | with_reducible exact WithinR.fault _ _ _ | with_reducible apply WithinR.ite
    | (with_reducible apply Within.step (State.teardowns_in _ _); decide)
    | (with_reducible apply Within.step (State.freePorts_in _ _); decide)
    | (with_reducible apply Within.step (State.dropPails_in _ _); decide)
    | (with_reducible apply Within.step (State.portsEn_in _ _ _); decide)
    | (with_reducible apply Within.step (State.swapImages_in _ _); decide)
    | (with_reducible apply Within.step (State.setFld_in _ _ _ _); decide)
    | (with_reducible apply Within.step (State.sendDigests_in _ _); decide)
    | (with_reducible apply Within.step (State.evTw_in _ _); decide)
    | (with_reducible apply Within.step (State.updTw_in _ _); decide)
    | (with_reducible apply Within.step (State.setMode_in _ _ _); decide)
    | (with_reducible apply Within.step (State.evUm_in _ _); decide)
    | (with_reducible apply Within.step (State.rtAll_in _); decide)
    | (with_reducible apply Within.step (State.final_in _ _ _ _ _ _); decide) | split | dsimp -zeta only

theorem execStagedParity_in (a0 s) : WithinR 30492594240 s (execStagedParity a0 s) := by
  unfold execStagedParity
  repeat' first
    | with_reducible exact .refl _ _ | with_reducible assumption | ((try lift_lets -underBinder); intro x; first
    | (refine Within.cut 30492594240 s x ?_ ?_; (on_goal 1 => unfold x); (on_goal 2 => (intro hx; clear_value x)))
    | clear_value x) | with_reducible apply Within.ite | with_reducible refine Within.next ?_
    | with_reducible exact WithinR.fault _ _ _ | with_reducible apply WithinR.ite
    | (with_reducible apply Within.step (State.logKind_in _ _ _); decide)
    | (with_reducible apply Within.step (State.updUm_in _ _); decide)
    | (with_reducible apply Within.step (State.mirrorGen_in _ _ _); decide)
    | (with_reducible apply Within.step (State.disarm_in _); decide) | split

end Sys2Proof.Machine
end

