-- ==== Sys2Proof/Laws/InPower.lean ====
section
/-! SUPPORT. What the operations of Machine/Power.lean may change. -/

namespace Sys2Proof.Machine

set_option linter.unusedTactic false
set_option linter.unreachableTactic false

theorem State.entryDone_in (s a1 a2 a3 a4) : Within 64 s (State.entryDone s a1 a2 a3 a4) := by
  unfold State.entryDone
  repeat' first
    | with_reducible exact .refl _ _ | with_reducible assumption | ((try lift_lets -underBinder); intro x; first
    | (refine Within.cut 64 s x ?_ ?_; (on_goal 1 => unfold x); (on_goal 2 => (intro hx; clear_value x)))
    | clear_value x)  | (with_reducible apply Within.step (State.setFld_in _ _ _ _); decide)

theorem State.portsLost_in (s a1) : Within 30211657792 s (State.portsLost s a1) := by
  induction a1 generalizing s with
  | nil => exact .refl _ _
  | cons x l ih =>
    unfold State.portsLost
    try dsimp -zeta only
    repeat' first
      | with_reducible exact .refl _ _ | with_reducible assumption 
      | (with_reducible apply Within.step (State.updPort_in _ _ _); decide)
      | (with_reducible apply Within.step (State.alLoss_in _ _ _); decide)
      | (with_reducible apply Within.step (ih _); decide) | split | dsimp -zeta only

theorem State.bankEmpty_in (s a1) : Within 16384 s (State.bankEmpty s a1) := by
  unfold State.bankEmpty
  repeat' first
    | with_reducible exact .refl _ _ | with_reducible assumption 
    | (with_reducible apply Within.step (State.updPail_in _ _ _); decide)
    | (with_reducible refine Within.foldl _ (fun x y hx => ?_) ?_)

theorem State.setHvote33_in (s a1) : Within 64 s (State.setHvote33 s a1) := by
  unfold State.setHvote33
  repeat' first
    | with_reducible exact .refl _ _ | with_reducible assumption 
    | (with_reducible apply Within.step (State.wrW_in _ _ _); decide)

theorem State.modeFinal_in (s a1 a2) : Within 21491617856 s (State.modeFinal s a1 a2) := by
  unfold State.modeFinal
  repeat' first
    | with_reducible exact .refl _ _ | with_reducible assumption 
    | (with_reducible apply Within.step (State.final_in _ _ _ _ _ _); decide) | split | dsimp -zeta only

theorem State.cancelFinals_in (s a1) : Within 21491617856 s (State.cancelFinals s a1) := by
  induction a1 generalizing s with
  | nil => exact .refl _ _
  | cons x l ih =>
    unfold State.cancelFinals
    try dsimp -zeta only
    repeat' first
      | with_reducible exact .refl _ _ | with_reducible assumption 
      | (with_reducible apply Within.step (State.modeFinal_in _ _ _); decide)
      | (with_reducible apply Within.step (ih _); decide) | split | dsimp -zeta only

theorem State.setTransit_in (s a1) : Within 64 s (State.setTransit s a1) := by
  unfold State.setTransit
  repeat' first
    | with_reducible exact .refl _ _ | with_reducible assumption | with_reducible apply Within.ite
    | (with_reducible apply Within.step (State.setFld_in _ _ _ _); decide) | split

theorem State.cancelSleep_in (s a1 a2) : Within 21491617856 s (State.cancelSleep s a1 a2) := by
  unfold State.cancelSleep
  repeat' first
    | with_reducible exact .refl _ _ | with_reducible assumption | ((try lift_lets -underBinder); intro x; first
    | (refine Within.cut 21491617856 s x ?_ ?_; (on_goal 1 => unfold x); (on_goal 2 => (intro hx; clear_value x)))
    | clear_value x) | with_reducible apply Within.ite
    | (with_reducible apply Within.step (State.modeFinal_in _ _ _); decide)
    | (with_reducible apply Within.step (State.accept_in _ _ _ _); decide)
    | (with_reducible apply Within.step (State.updUm_in _ _); decide)
    | (with_reducible apply Within.step (State.setTransit_in _ _); decide) | split

theorem State.clPortsLost_in (s a1) : Within 25912479808 s (State.clPortsLost s a1) := by
  induction a1 generalizing s with
  | nil => exact .refl _ _
  | cons x l ih =>
    unfold State.clPortsLost
    try dsimp -zeta only
    repeat' first
      | with_reducible exact .refl _ _ | with_reducible assumption 
      | (with_reducible apply Within.step (State.updCl_in _ _ _); decide)
      | (with_reducible apply Within.step (State.clLoss_in _ _); decide)
      | (with_reducible apply Within.step (ih _); decide) | split | dsimp -zeta only

theorem State.mgmtOn_in (s) : Within 67108864 s (State.mgmtOn s) := by
  unfold State.mgmtOn
  repeat' first
    | with_reducible exact .refl _ _ | with_reducible assumption | ((try lift_lets -underBinder); intro x; first
    | (refine Within.cut 67108864 s x ?_ ?_; (on_goal 1 => unfold x); (on_goal 2 => (intro hx; clear_value x)))
    | clear_value x)  | with_reducible refine Within.set_rs rfl ?_

theorem State.missBlocks_in (s a1 a2) : Within 25778212928 s (State.missBlocks s a1 a2) := by
  induction a2 generalizing s a1 with
  | nil => exact .refl _ _
  | cons x l ih =>
    unfold State.missBlocks
    try dsimp -zeta only
    repeat' first
      | with_reducible exact .refl _ _ | with_reducible assumption 
      | (with_reducible apply Within.step (State.missBlock_in _ _ _); decide)
      | (with_reducible apply Within.step (ih _ _); decide) | split | dsimp -zeta only

theorem State.missPails_in (s a1) : Within 25778212928 s (State.missPails s a1) := by
  induction a1 generalizing s with
  | nil => exact .refl _ _
  | cons x l ih =>
    unfold State.missPails
    try dsimp -zeta only
    repeat' first
      | with_reducible exact .refl _ _ | with_reducible assumption 
      | (with_reducible apply Within.step (State.updPail_in _ _ _); decide)
      | (with_reducible apply Within.step (State.missBlocks_in _ _ _); decide)
      | (with_reducible apply Within.step (ih _); decide) | split | dsimp -zeta only

theorem State.cutWork_in (s) : Within 26047696960 s (State.cutWork s) := by
  unfold State.cutWork
  repeat' first
    | with_reducible exact .refl _ _ | with_reducible assumption | ((try lift_lets -underBinder); intro x; first
    | (refine Within.cut 26047696960 s x ?_ ?_; (on_goal 1 => unfold x); (on_goal 2 => (intro hx; clear_value x)))
    | clear_value x)  | (with_reducible apply Within.step (State.endChans_in _ _ _); decide)
    | (with_reducible apply Within.step (State.missPails_in _ _); decide)

theorem State.dropEach_in (s a1 a2 a3) : Within 25778212928 s (State.dropEach s a1 a2 a3) := by
  induction a3 generalizing s a1 a2 with
  | zero => exact .refl _ _
  | succ n ih =>
    unfold State.dropEach
    try dsimp -zeta only
    repeat' first
      | with_reducible exact .refl _ _ | with_reducible assumption 
      | (with_reducible apply Within.step (State.vatDrop_in _ _ _); decide)
      | (with_reducible apply Within.step (ih _ _ _); decide) | split | dsimp -zeta only

theorem State.discardPails_in (s a1) : Within 25778212928 s (State.discardPails s a1) := by
  induction a1 generalizing s with
  | nil => exact .refl _ _
  | cons x l ih =>
    unfold State.discardPails
    try dsimp -zeta only
    repeat' first
      | with_reducible exact .refl _ _ | with_reducible assumption
      | ((try lift_lets -underBinder); intro x; first
      | (refine Within.cut 25778212928 s x ?_ ?_; (on_goal 1 => unfold x); (on_goal 2 => (intro hx; clear_value x)))
      | clear_value x)  | (with_reducible apply Within.step (State.dropEach_in _ _ _ _); decide)
      | (with_reducible apply Within.step (State.updPail_in _ _ _); decide)
      | (with_reducible apply Within.step (ih _); decide) | split | dsimp -zeta only

theorem State.trainPorts_in (s a1) : Within 138412096 s (State.trainPorts s a1) := by
  induction a1 generalizing s with
  | nil => exact .refl _ _
  | cons x l ih =>
    unfold State.trainPorts
    try dsimp -zeta only
    repeat' first
      | with_reducible exact .refl _ _ | with_reducible assumption 
      | (with_reducible apply Within.step (State.tryLockLink_in _ _); decide)
      | (with_reducible apply Within.step (ih _); decide) | split | dsimp -zeta only

theorem State.domHook_in (s a1) : Within 68858576960 s (State.domHook s a1) := by
  unfold State.domHook
  repeat' first
    | with_reducible exact .refl _ _ | with_reducible assumption | ((try lift_lets -underBinder); intro x; first
    | (refine Within.cut 68858576960 s x ?_ ?_; (on_goal 1 => unfold x); (on_goal 2 => (intro hx; clear_value x)))
    | clear_value x) | with_reducible apply Within.ite
    | (with_reducible apply Within.step (State.trainPorts_in _ _); decide)
    | (with_reducible apply Within.step (State.setCalDue_in _ _ _); decide)
    | (with_reducible apply Within.step (State.startZeroing_in _ _); decide)
    | (with_reducible apply Within.step (State.updSpare_in _ _ _); decide)
    | (with_reducible apply Within.step (State.setFld_in _ _ _ _); decide)
    | (with_reducible apply Within.step (State.updBank_in _ _ _); decide) | split

theorem State.hostPortsLost_in (s a1) : Within 25778196544 s (State.hostPortsLost s a1) := by
  induction a1 generalizing s with
  | nil => exact .refl _ _
  | cons x l ih =>
    unfold State.hostPortsLost
    try dsimp -zeta only
    repeat' first
      | with_reducible exact .refl _ _ | with_reducible assumption 
      | (with_reducible apply Within.step (State.updLink_in _ _ _); decide)
      | (with_reducible apply Within.step (State.hlDown_in _ _ _); decide)
      | (with_reducible apply Within.step (ih _); decide) | split | dsimp -zeta only

theorem State.domLost_in (s a1) : Within 98931300416 s (State.domLost s a1) := by
  unfold State.domLost
  repeat' first
    | with_reducible exact .refl _ _ | with_reducible assumption | with_reducible apply Within.ite
    | (with_reducible apply Within.step (State.saveTime_in _); decide)
    | (with_reducible apply Within.step (State.clPortsLost_in _ _); decide)
    | (with_reducible apply Within.step (State.hostPortsLost_in _ _); decide)
    | (with_reducible apply Within.step (State.setCalDue_in _ _ _); decide)
    | (with_reducible apply Within.step (State.portsLost_in _ _); decide)
    | (with_reducible apply Within.step (State.updUnit_in _ _ _); decide)
    | (with_reducible apply Within.step (State.setFld_in _ _ _ _); decide)
    | (with_reducible apply Within.step (State.updBank_in _ _ _); decide)
    | (with_reducible apply Within.step (State.bankEmpty_in _ _); decide) | split

theorem State.setOn_in (s a1 a2) : Within 64 s (State.setOn s a1 a2) := by
  unfold State.setOn
  repeat' first
    | with_reducible exact .refl _ _ | with_reducible assumption 
    | (with_reducible apply Within.step (State.wrW_in _ _ _); decide)

theorem State.domOff_in (s a1) : Within 98964854848 s (State.domOff s a1) := by
  unfold State.domOff
  repeat' first
    | with_reducible exact .refl _ _ | with_reducible assumption | ((try lift_lets -underBinder); intro x; first
    | (refine Within.cut 98964854848 s x ?_ ?_; (on_goal 1 => unfold x); (on_goal 2 => (intro hx; clear_value x)))
    | clear_value x) | with_reducible apply Within.ite
    | (with_reducible apply Within.step (State.domLost_in _ _); decide)
    | (with_reducible apply Within.step (State.updPw_in _ _); decide)
    | (with_reducible apply Within.step (State.evPw_in _ _); decide)
    | (with_reducible apply Within.step (State.setOn_in _ _ _); decide) | split

theorem State.unsavedReset_in (s a1) : Within 64 s (State.unsavedReset s a1) := by
  unfold State.unsavedReset
  repeat' first
    | with_reducible exact .refl _ _ | with_reducible assumption 
    | (with_reducible apply Within.step (State.keepRegs_in _ _); decide)

theorem State.domOn_in (s a1) : Within 94737436736 s (State.domOn s a1) := by
  unfold State.domOn
  repeat' first
    | with_reducible exact .refl _ _ | with_reducible assumption | ((try lift_lets -underBinder); intro x; first
    | (refine Within.cut 94737436736 s x ?_ ?_; (on_goal 1 => unfold x); (on_goal 2 => (intro hx; clear_value x)))
    | clear_value x) | with_reducible apply Within.ite
    | (with_reducible apply Within.step (State.setOn_in _ _ _); decide)
    | (with_reducible apply Within.step (State.unsavedReset_in _ _); decide)
    | (with_reducible apply Within.step (State.mgmtOn_in _); decide)
    | (with_reducible apply Within.step (State.updPw_in _ _); decide)
    | (with_reducible apply Within.step (State.evPw_in _ _); decide)
    | (with_reducible apply Within.step (State.domHook_in _ _); decide) | split

theorem State.sleepWait_in (s a1 a2 a3) : Within 50331712 s (State.sleepWait s a1 a2 a3) := by
  unfold State.sleepWait
  repeat' first
    | with_reducible exact .refl _ _ | with_reducible assumption 
    | (with_reducible apply Within.step (State.updPw_in _ _); decide)
    | (with_reducible apply Within.step (State.updUm_in _ _); decide)
    | (with_reducible apply Within.step (State.setTransit_in _ _); decide)

theorem State.storeReport_in (s a1 a2) : Within 25794973760 s (State.storeReport s a1 a2) := by
  unfold State.storeReport
  repeat' first
    | with_reducible exact .refl _ _ | with_reducible assumption | ((try lift_lets -underBinder); intro x; first
    | (refine Within.cut 25794973760 s x ?_ ?_; (on_goal 1 => unfold x); (on_goal 2 => (intro hx; clear_value x)))
    | clear_value x) | with_reducible apply Within.ite
    | (with_reducible apply Within.step (State.evUm_in _ _); decide)
    | (with_reducible apply Within.step (State.updUm_in _ _); decide)
    | (with_reducible refine Within.foldl _ (fun x y hx => ?_) ?_) | split

theorem State.drainEnd_in (s) : Within 30660382784 s (State.drainEnd s) := by
  unfold State.drainEnd
  repeat' first
    | with_reducible exact .refl _ _ | with_reducible assumption | ((try lift_lets -underBinder); intro x; first
    | (refine Within.cut 30660382784 s x ?_ ?_; (on_goal 1 => unfold x); (on_goal 2 => (intro hx; clear_value x)))
    | clear_value x) | with_reducible apply Within.ite
    | (with_reducible apply Within.step (State.storeReport_in _ _ _); decide)
    | (with_reducible apply Within.step (State.discardPails_in _ _); decide)
    | (with_reducible apply Within.step (State.setMode_in _ _ _); decide)
    | (with_reducible apply Within.step (State.sleepWait_in _ _ _ _); decide)
    | (with_reducible apply Within.step (State.cancelFinals_in _ _); decide)
    | (with_reducible apply Within.step (State.modeFinal_in _ _ _); decide)
    | (with_reducible apply Within.step (State.updUm_in _ _); decide) | split | dsimp -zeta only

theorem State.enterDrain_in (s a1 a2 a3) : Within 26601345088 s (State.enterDrain s a1 a2 a3) := by
  unfold State.enterDrain
  repeat' first
    | with_reducible exact .refl _ _ | with_reducible assumption | ((try lift_lets -underBinder); intro x; first
    | (refine Within.cut 26601345088 s x ?_ ?_; (on_goal 1 => unfold x); (on_goal 2 => (intro hx; clear_value x)))
    | clear_value x)  | (with_reducible apply Within.step (State.setTransit_in _ _); decide)
    | (with_reducible apply Within.step (State.setMode_in _ _ _); decide)
    | (with_reducible apply Within.step (State.updUm_in _ _); decide)
    | (with_reducible apply Within.step (State.dmaStops_in _ _); decide)

theorem State.forceOff_in (s a1) : Within 25811750976 s (State.forceOff s a1) := by
  unfold State.forceOff
  repeat' first
    | with_reducible exact .refl _ _ | with_reducible assumption | ((try lift_lets -underBinder); intro x; first
    | (refine Within.cut 25811750976 s x ?_ ?_; (on_goal 1 => unfold x); (on_goal 2 => (intro hx; clear_value x)))
    | clear_value x) | with_reducible apply Within.ite
    | (with_reducible apply Within.step (State.evPw_in _ _); decide)
    | (with_reducible apply Within.step (State.wrW_in _ _ _); decide)
    | (with_reducible apply Within.step (State.updPw_in _ _); decide) | split

theorem State.forceOffs_in (s a1) : Within 25811750976 s (State.forceOffs s a1) := by
  induction a1 generalizing s with
  | nil => exact .refl _ _
  | cons x l ih =>
    unfold State.forceOffs
    try dsimp -zeta only
    repeat' first
      | with_reducible exact .refl _ _ | with_reducible assumption 
      | (with_reducible apply Within.step (State.forceOff_in _ _); decide)
      | (with_reducible apply Within.step (ih _); decide) | split | dsimp -zeta only

theorem State.forceLift_in (s a1) : Within 25778196544 s (State.forceLift s a1) := by
  unfold State.forceLift
  repeat' first
    | with_reducible exact .refl _ _ | with_reducible assumption | with_reducible apply Within.ite
    | (with_reducible apply Within.step (State.evPw_in _ _); decide)
    | (with_reducible apply Within.step (State.wrW_in _ _ _); decide) | split

theorem State.forceLifts_in (s a1) : Within 25778196544 s (State.forceLifts s a1) := by
  induction a1 generalizing s with
  | nil => exact .refl _ _
  | cons x l ih =>
    unfold State.forceLifts
    try dsimp -zeta only
    repeat' first
      | with_reducible exact .refl _ _ | with_reducible assumption 
      | (with_reducible apply Within.step (State.forceLift_in _ _); decide)
      | (with_reducible apply Within.step (ih _); decide) | split | dsimp -zeta only

theorem State.idleTick_in (s) : Within 33554432 s (State.idleTick s) := by
  unfold State.idleTick
  repeat' first
    | with_reducible exact .refl _ _ | with_reducible assumption | ((try lift_lets -underBinder); intro x; first
    | (refine Within.cut 33554432 s x ?_ ?_; (on_goal 1 => unfold x); (on_goal 2 => (intro hx; clear_value x)))
    | clear_value x) | with_reducible apply Within.ite
    | (with_reducible apply Within.step (State.updPw_in _ _); decide) | split

theorem State.modeStart_in (s a1 a2 a3) : Within 30929866816 s (State.modeStart s a1 a2 a3) := by
  unfold State.modeStart
  repeat' first
    | with_reducible exact .refl _ _ | with_reducible assumption | ((try lift_lets -underBinder); intro x; first
    | (refine Within.cut 30929866816 s x ?_ ?_; (on_goal 1 => unfold x); (on_goal 2 => (intro hx; clear_value x)))
    | clear_value x) | with_reducible apply Within.ite
    | (with_reducible apply Within.step (State.refuse_in _ _ _ _); decide)
    | (with_reducible apply Within.step (State.sleepWait_in _ _ _ _); decide)
    | (with_reducible apply Within.step (State.accept_in _ _ _ _); decide)
    | (with_reducible apply Within.step (State.modeFinal_in _ _ _); decide)
    | (with_reducible apply Within.step (State.setMode_in _ _ _); decide)
    | (with_reducible apply Within.step (State.enterDrain_in _ _ _ _); decide)
    | (with_reducible apply Within.step (State.updTw_in _ _); decide)
    | (with_reducible apply Within.step (State.setPair_in _ _); decide) | split

theorem State.tickAll_in (s) : Within 25811753086 s (State.tickAll s) := by
  unfold State.tickAll
  repeat' first
    | with_reducible exact .refl _ _ | with_reducible assumption 
    | (with_reducible apply Within.step (State.idleTick_in _); decide)
    | (with_reducible apply Within.step (State.tick_in _); decide)

theorem execModeGet_in (a0 a1 s) : WithinR 16777216 s (execModeGet a0 a1 s) := by
  unfold execModeGet
  repeat' first
    | with_reducible exact .refl _ _ | with_reducible assumption  | with_reducible refine Within.next ?_
    | with_reducible exact WithinR.fault _ _ _
    | (with_reducible refine State.umRun_in (by decide) ?_ ?_ <;> try beta_reduce)
    | (with_reducible apply Within.step (State.reply_in _ _ _ _ _); decide)

theorem execModeSet_in (a0 a1 s) : WithinR 30929866816 s (execModeSet a0 a1 s) := by
  unfold execModeSet
  repeat' first
    | with_reducible exact .refl _ _ | with_reducible assumption | ((try lift_lets -underBinder); intro x; first
    | (refine Within.cut 30929866816 s x ?_ ?_; (on_goal 1 => unfold x); (on_goal 2 => (intro hx; clear_value x)))
    | clear_value x) | with_reducible apply Within.ite | with_reducible refine Within.next ?_
    | with_reducible exact WithinR.fault _ _ _ | with_reducible apply WithinR.ite
    | (with_reducible refine State.umRun_in (by decide) ?_ ?_ <;> try beta_reduce)
    | (with_reducible apply Within.step (State.refuse_in _ _ _ _); decide)
    | (with_reducible apply Within.step (State.cancelSleep_in _ _ _); decide)
    | (with_reducible apply Within.step (State.modeStart_in _ _ _ _); decide) | split | dsimp -zeta only

theorem execPwStatus_in (a0 a1 s) : WithinR 16777216 s (execPwStatus a0 a1 s) := by
  unfold execPwStatus
  repeat' first
    | with_reducible exact .refl _ _ | with_reducible assumption  | with_reducible refine Within.next ?_
    | with_reducible exact WithinR.fault _ _ _
    | (with_reducible refine State.umRun_in (by decide) ?_ ?_ <;> try beta_reduce)
    | (with_reducible apply Within.step (State.reply_in _ _ _ _ _); decide)

theorem execPwVote_in (a0 a1 s) : WithinR 25828528192 s (execPwVote a0 a1 s) := by
  unfold execPwVote
  repeat' first
    | with_reducible exact .refl _ _ | with_reducible assumption | ((try lift_lets -underBinder); intro x; first
    | (refine Within.cut 25828528192 s x ?_ ?_; (on_goal 1 => unfold x); (on_goal 2 => (intro hx; clear_value x)))
    | clear_value x) | with_reducible apply Within.ite | with_reducible refine Within.next ?_
    | with_reducible exact WithinR.fault _ _ _ | with_reducible apply WithinR.ite
    | (with_reducible refine State.umRun_in (by decide) ?_ ?_ <;> try beta_reduce)
    | (with_reducible apply Within.step (State.refuse_in _ _ _ _); decide)
    | (with_reducible apply Within.step (State.wrW_in _ _ _); decide)
    | (with_reducible apply Within.step (State.updPw_in _ _); decide)
    | (with_reducible apply Within.step (State.reply_in _ _ _ _ _); decide)
    | (with_reducible apply Within.step (State.evPw_in _ _); decide) | split

theorem execDomainEntryStart_in (a0 s) : WithinR 33554432 s (execDomainEntryStart a0 s) := by
  unfold execDomainEntryStart
  repeat' first
    | with_reducible exact .refl _ _ | with_reducible assumption | with_reducible apply Within.ite
    | with_reducible refine Within.next ?_ | with_reducible exact WithinR.fault _ _ _
    | with_reducible apply WithinR.ite | (with_reducible apply Within.step (State.updPw_in _ _); decide) | split

theorem execDomainSwitchOff_in (a0 s) : WithinR 98964854848 s (execDomainSwitchOff a0 s) := by
  unfold execDomainSwitchOff
  repeat' first
    | with_reducible exact .refl _ _ | with_reducible assumption | ((try lift_lets -underBinder); intro x; first
    | (refine Within.cut 98964854848 s x ?_ ?_; (on_goal 1 => unfold x); (on_goal 2 => (intro hx; clear_value x)))
    | clear_value x) | with_reducible apply Within.ite | with_reducible refine Within.next ?_
    | with_reducible exact WithinR.fault _ _ _ | with_reducible apply WithinR.ite
    | (with_reducible apply Within.step (State.updPw_in _ _); decide)
    | (with_reducible apply Within.step (State.entryDone_in _ _ _ _ _); decide)
    | (with_reducible apply Within.step (State.domOff_in _ _); decide) | split

theorem execDrainComplete_in (s) : WithinR 30660382784 s (execDrainComplete s) := by
  unfold execDrainComplete
  repeat' first
    | with_reducible exact .refl _ _ | with_reducible assumption | with_reducible apply Within.ite
    | with_reducible refine Within.next ?_ | with_reducible exact WithinR.fault _ _ _
    | with_reducible apply WithinR.ite | (with_reducible apply Within.step (State.drainEnd_in _); decide)
    | split

theorem execDrainLimitExpiry_in (s) : WithinR 30929866816 s (execDrainLimitExpiry s) := by
  unfold execDrainLimitExpiry
  repeat' first
    | with_reducible exact .refl _ _ | with_reducible assumption | with_reducible apply Within.ite
    | with_reducible refine Within.next ?_ | with_reducible exact WithinR.fault _ _ _
    | with_reducible apply WithinR.ite | (with_reducible apply Within.step (State.drainEnd_in _); decide)
    | (with_reducible apply Within.step (State.cutWork_in _); decide) | split | dsimp -zeta only

theorem execPwHvote33Write_in (a0 s) : WithinR 64 s (execPwHvote33Write a0 s) := by
  unfold execPwHvote33Write
  repeat' first
    | with_reducible exact .refl _ _ | with_reducible assumption | with_reducible apply Within.ite
    | with_reducible refine Within.next ?_ | with_reducible exact WithinR.fault _ _ _
    | with_reducible apply WithinR.ite | (with_reducible apply Within.step (State.setHvote33_in _ _); decide)
    | split

theorem execSleepEntryWait_in (s) : WithinR 25811750976 s (execSleepEntryWait s) := by
  unfold execSleepEntryWait
  repeat' first
    | with_reducible exact .refl _ _ | with_reducible assumption | with_reducible apply Within.ite
    | with_reducible refine Within.next ?_ | with_reducible exact WithinR.fault _ _ _
    | with_reducible apply WithinR.ite | (with_reducible apply Within.step (State.evPw_in _ _); decide)
    | (with_reducible apply Within.step (State.updPw_in _ _); decide) | split | dsimp -zeta only

theorem execTimelineSchedulerVote_in (s) : WithinR 33554432 s (execTimelineSchedulerVote s) := by
  unfold execTimelineSchedulerVote
  repeat' first
    | with_reducible exact .refl _ _ | with_reducible assumption  | with_reducible refine Within.next ?_
    | with_reducible exact WithinR.fault _ _ _ | (with_reducible apply Within.step (State.updPw_in _ _); decide)

end Sys2Proof.Machine
end

