-- ==== Sys2Proof/Laws/InCloton.lean ====
section
/-! SUPPORT. What the operations of Machine/Cloton.lean may change. -/

namespace Sys2Proof.Machine

set_option linter.unusedTactic false
set_option linter.unreachableTactic false

theorem State.clAck_in (s a1 a2) : Within 25912479808 s (State.clAck s a1 a2) := by
  unfold State.clAck
  repeat' first
    | with_reducible exact .refl _ _ | with_reducible assumption | ((try lift_lets -underBinder); intro x; first
    | (refine Within.cut 25912479808 s x ?_ ?_; (on_goal 1 => unfold x); (on_goal 2 => (intro hx; clear_value x)))
    | clear_value x) | with_reducible apply Within.ite
    | (with_reducible apply Within.step (State.updCl_in _ _ _); decide)
    | (with_reducible apply Within.step (State.clLoss_in _ _); decide) | split | dsimp -zeta only

theorem State.clCtl_in (s a1 a2) : Within 134217728 s (State.clCtl s a1 a2) := by
  unfold State.clCtl
  repeat' first
    | with_reducible exact .refl _ _ | with_reducible assumption | with_reducible apply Within.ite
    | (with_reducible apply Within.step (State.updCl_in _ _ _); decide) | split

theorem State.clCalibrate_in (s a1) : Within 134217728 s (State.clCalibrate s a1) := by
  unfold State.clCalibrate
  repeat' first
    | with_reducible exact .refl _ _ | with_reducible assumption | ((try lift_lets -underBinder); intro x; first
    | (refine Within.cut 134217728 s x ?_ ?_; (on_goal 1 => unfold x); (on_goal 2 => (intro hx; clear_value x)))
    | clear_value x)  | (with_reducible apply Within.step (State.clCtl_in _ _ _); decide)
    | (with_reducible apply Within.step (State.updCl_in _ _ _); decide)

theorem State.clCorrected_in (s a1 a2 a3) : Within 17314086976 s (State.clCorrected s a1 a2 a3) := by
  unfold State.clCorrected
  repeat' first
    | with_reducible exact .refl _ _ | with_reducible assumption | ((try lift_lets -underBinder); intro x; first
    | (refine Within.cut 17314086976 s x ?_ ?_; (on_goal 1 => unfold x); (on_goal 2 => (intro hx; clear_value x)))
    | clear_value x) | with_reducible apply Within.ite
    | (with_reducible apply Within.step (State.addCnt_in _ _ _ _); decide)
    | (with_reducible apply Within.step (State.updCl_in _ _ _); decide)
    | (with_reducible apply Within.step (State.startClSwap_in _ _ _); decide) | split | dsimp -zeta only

theorem State.clDiscard_in (s a1) : Within 25912414272 s (State.clDiscard s a1) := by
  unfold State.clDiscard
  repeat' first
    | with_reducible exact .refl _ _ | with_reducible assumption 
    | (with_reducible apply Within.step (State.updCl_in _ _ _); decide)
    | (with_reducible apply Within.step (State.linkProto_in _ _); decide)

theorem State.clDlyMissing_in (s a1) : Within 25916608576 s (State.clDlyMissing s a1) := by
  unfold State.clDlyMissing
  repeat' first
    | with_reducible exact .refl _ _ | with_reducible assumption | ((try lift_lets -underBinder); intro x; first
    | (refine Within.cut 25916608576 s x ?_ ?_; (on_goal 1 => unfold x); (on_goal 2 => (intro hx; clear_value x)))
    | clear_value x) | with_reducible apply Within.ite
    | (with_reducible apply Within.step (State.trainFail_in _ _); decide)
    | (with_reducible apply Within.step (State.updCl_in _ _ _); decide) | split

theorem State.clDlyRsp_in (s a1 a2 a3) : Within 25912414272 s (State.clDlyRsp s a1 a2 a3) := by
  unfold State.clDlyRsp
  repeat' first
    | with_reducible exact .refl _ _ | with_reducible assumption | ((try lift_lets -underBinder); intro x; first
    | (refine Within.cut 25912414272 s x ?_ ?_; (on_goal 1 => unfold x); (on_goal 2 => (intro hx; clear_value x)))
    | clear_value x) | with_reducible apply Within.ite
    | (with_reducible apply Within.step (State.setFld_in _ _ _ _); decide)
    | (with_reducible apply Within.step (State.updCl_in _ _ _); decide)
    | (with_reducible apply Within.step (State.linkTiming_in _ _ _); decide) | split

theorem State.clTraining_in (s a1 a2 a3) : Within 25916674112 s (State.clTraining s a1 a2 a3) := by
  unfold State.clTraining
  repeat' first
    | with_reducible exact .refl _ _ | with_reducible assumption | ((try lift_lets -underBinder); intro x; first
    | (refine Within.cut 25916674112 s x ?_ ?_; (on_goal 1 => unfold x); (on_goal 2 => (intro hx; clear_value x)))
    | clear_value x) | with_reducible apply Within.ite
    | (with_reducible apply Within.step (State.clLoss_in _ _); decide)
    | (with_reducible apply Within.step (State.trainFail_in _ _); decide)
    | (with_reducible apply Within.step (State.updTrain_in _ _ _); decide) | split

theorem State.clUncorr_in (s a1) : Within 25916674112 s (State.clUncorr s a1) := by
  unfold State.clUncorr
  repeat' first
    | with_reducible exact .refl _ _ | with_reducible assumption | ((try lift_lets -underBinder); intro x; first
    | (refine Within.cut 25916674112 s x ?_ ?_; (on_goal 1 => unfold x); (on_goal 2 => (intro hx; clear_value x)))
    | clear_value x) | with_reducible apply Within.ite
    | (with_reducible apply Within.step (State.updTrain_in _ _ _); decide)
    | (with_reducible apply Within.step (State.updCl_in _ _ _); decide)
    | (with_reducible apply Within.step (State.linkErr_in _ _ _); decide)
    | (with_reducible apply Within.step (State.cnt_in _ _); decide)
    | (with_reducible apply Within.step (State.clLoss_in _ _); decide)
    | (with_reducible apply Within.step (State.clCtl_in _ _ _); decide) | split

theorem State.seeEpoch_in (s a1) : Within 268435520 s (State.seeEpoch s a1) := by
  unfold State.seeEpoch
  repeat' first
    | with_reducible exact .refl _ _ | with_reducible assumption | ((try lift_lets -underBinder); intro x; first
    | (refine Within.cut 268435520 s x ?_ ?_; (on_goal 1 => unfold x); (on_goal 2 => (intro hx; clear_value x)))
    | clear_value x) | with_reducible apply Within.ite
    | (with_reducible apply Within.step (State.setFld_in _ _ _ _); decide)
    | (with_reducible apply Within.step (State.updTw_in _ _); decide) | split

theorem State.clFrame_in (s a1 a2 a3 a4 a5 a6) : Within 26185109568 s (State.clFrame s a1 a2 a3 a4 a5 a6) := by
  unfold State.clFrame
  repeat' first
    | with_reducible exact .refl _ _ | with_reducible assumption | ((try lift_lets -underBinder); intro x; first
    | (refine Within.cut 26185109568 s x ?_ ?_; (on_goal 1 => unfold x); (on_goal 2 => (intro hx; clear_value x)))
    | ((first | (have _t : State → State := x) | (have _t : _ → State → State := x) | (have _t : _ → _ → State → State := x) | (have _t : _ → _ → State × Nat := x) | (have _t : State × Nat := x) | (have _t : State → Nat → State := x) | (have _t : _ → State := x)); clear _t; subst x; beta_reduce)
    | clear_value x) | with_reducible apply Within.ite
    | (with_reducible apply Within.step (State.clUncorr_in _ _); decide)
    | (with_reducible apply Within.step (State.clCorrected_in _ _ _ _); decide)
    | (with_reducible apply Within.step (State.setFld_in _ _ _ _); decide)
    | (with_reducible apply Within.step (State.updCl_in _ _ _); decide)
    | (with_reducible apply Within.step (State.seeEpoch_in _ _); decide)
    | (with_reducible apply Within.step (State.clTraining_in _ _ _ _); decide)
    | (with_reducible apply Within.step (State.updTrain_in _ _ _); decide)
    | (with_reducible apply Within.step (State.clDiscard_in _ _); decide)
    | (with_reducible apply Within.step (State.linkProtos_in _ _ _); decide) | split | dsimp -zeta only

theorem State.clResent_in (s a1) : Within 25778196544 s (State.clResent s a1) := by
  unfold State.clResent
  repeat' first
    | with_reducible exact .refl _ _ | with_reducible assumption 
    | (with_reducible apply Within.step (State.linkErr_in _ _ _); decide)
    | (with_reducible apply Within.step (State.cnt_in _ _); decide)

theorem State.nextHerd_in (s a1) : WithinO 25912414272 s (State.nextHerd s a1) := by
  intro t x e
  unfold State.nextHerd at e
  dsimp only at e
  split at e
  · cases e; exact Within.step (State.clResent_in ..) (by decide) ((State.updCl_in ..).mono (by decide))
  · split at e
    · cases e
    · split at e <;> cases e
      exact (State.updCl_in ..).mono (by decide)

theorem State.nextMirror_in (s) : WithinO 25912414272 s (State.nextMirror s) := by
  intro t x e
  unfold State.nextMirror at e
  dsimp only at e
  split at e
  · cases e; exact Within.step (State.clResent_in ..) (by decide) ((State.updCl_in ..).mono (by decide))
  · split at e
    · cases e
    · split at e <;> cases e <;> exact (State.updCl_in ..).mono (by decide)

theorem State.placeRecs_in (s a1 a2 a3 a4) : WithinP 25912414272 s (State.placeRecs s a1 a2 a3 a4) := by
  induction a4 generalizing s a1 a2 a3 with
  | nil => exact Within.pair (.refl _ _)
  | cons x l ih =>
    unfold State.placeRecs
    split
    · split
      · rename_i e
        refine WithinP.step (ih _ _ _ _) (by decide) ?_
        split at e
        · exact State.nextMirror_in s _ _ e
        · exact State.nextHerd_in s a1 _ _ e
      · exact Within.pair (.refl _ _)
    · exact ih _ _ _ _

theorem State.repeatDigest_in (s a1) : Within 134217728 s (State.repeatDigest s a1) := by
  unfold State.repeatDigest
  repeat' first
    | with_reducible exact .refl _ _ | with_reducible assumption | ((try lift_lets -underBinder); intro x; first
    | (refine Within.cut 134217728 s x ?_ ?_; (on_goal 1 => unfold x); (on_goal 2 => (intro hx; clear_value x)))
    | clear_value x) | with_reducible apply Within.ite
    | (with_reducible apply Within.step (State.sendDigest_in _ _); decide) | split

theorem State.repeatHready_in (s a1) : Within 134217728 s (State.repeatHready s a1) := by
  unfold State.repeatHready
  repeat' first
    | with_reducible exact .refl _ _ | with_reducible assumption | ((try lift_lets -underBinder); intro x; first
    | (refine Within.cut 134217728 s x ?_ ?_; (on_goal 1 => unfold x); (on_goal 2 => (intro hx; clear_value x)))
    | clear_value x) | with_reducible apply Within.ite
    | (with_reducible apply Within.step (State.herdSend_in _ _ _ _ _); decide) | split | dsimp -zeta only

theorem State.clNormal_in (s a1) : Within 26180849728 s (State.clNormal s a1) := by
  unfold State.clNormal
  repeat' first
    | with_reducible exact .refl _ _ | with_reducible assumption | ((try lift_lets -underBinder); intro x; first
    | (refine Within.cut 26180849728 s x ?_ ?_; (on_goal 1 => unfold x); (on_goal 2 => (intro hx; clear_value x)))
    | clear_value x) | with_reducible apply Within.ite
    | (with_reducible apply Within.step (State.repeatHready_in _ _); decide)
    | (with_reducible apply Within.step (State.repeatDigest_in _ _); decide)
    | (with_reducible apply Within.step (State.updCl_in _ _ _); decide)
    | (with_reducible apply Within.step (State.updTw_in _ _); decide)
    | refine Within.step (WithinP.out (State.placeRecs_in _ _ _ _ _) (by assumption)) (by decide) ?_
    | (with_reducible apply Within.step (WithinP.fst (State.placeRecs_in _ _ _ _ _)); decide)
    | (with_reducible apply Within.step (State.emit_in _ _); decide) | split | dsimp -zeta only

theorem State.clReplay_in (s a1) : Within 25912479808 s (State.clReplay s a1) := by
  unfold State.clReplay
  repeat' first
    | with_reducible exact .refl _ _ | with_reducible assumption | ((try lift_lets -underBinder); intro x; first
    | (refine Within.cut 25912479808 s x ?_ ?_; (on_goal 1 => unfold x); (on_goal 2 => (intro hx; clear_value x)))
    | clear_value x) | with_reducible apply Within.ite
    | (with_reducible apply Within.step (State.updCl_in _ _ _); decide)
    | (with_reducible apply Within.step (State.clLoss_in _ _); decide) | split

theorem State.clSlot_in (s a1) : Within 26180849728 s (State.clSlot s a1) := by
  unfold State.clSlot
  repeat' first
    | with_reducible exact .refl _ _ | with_reducible assumption | ((try lift_lets -underBinder); intro x; first
    | (refine Within.cut 26180849728 s x ?_ ?_; (on_goal 1 => unfold x); (on_goal 2 => (intro hx; clear_value x)))
    | clear_value x) | with_reducible apply Within.ite
    | (with_reducible apply Within.step (State.updCl_in _ _ _); decide)
    | (with_reducible apply Within.step (State.emit_in _ _); decide)
    | (with_reducible apply Within.step (State.clNormal_in _ _); decide) | split

theorem State.clTake_in (s a1 a2 a3) : WithinP 134217728 s (State.clTake s a1 a2 a3) := by
  unfold State.clTake
  repeat' first
    | with_reducible exact .refl _ _ | with_reducible assumption | ((try lift_lets -underBinder); intro x; first
    | (refine Within.cut 134217728 s x ?_ ?_; (on_goal 1 => unfold x); (on_goal 2 => (intro hx; clear_value x)))
    | clear_value x) | with_reducible apply Within.ite | with_reducible refine Within.pair ?_
    | with_reducible apply WithinP.ite | (with_reducible apply Within.step (State.updCl_in _ _ _); decide)
    | (with_reducible apply Within.step (State.clCtl_in _ _ _); decide) | split

theorem State.startSync_in (s) : Within 402653184 s (State.startSync s) := by
  unfold State.startSync
  repeat' first
    | with_reducible exact .refl _ _ | with_reducible assumption | ((try lift_lets -underBinder); intro x; first
    | (refine Within.cut 402653184 s x ?_ ?_; (on_goal 1 => unfold x); (on_goal 2 => (intro hx; clear_value x)))
    | clear_value x) | with_reducible apply Within.ite
    | (with_reducible apply Within.step (State.updCl_in _ _ _); decide)
    | (with_reducible apply Within.step (State.updTw_in _ _); decide) | split

theorem execAck_in (a0 a1 s) : WithinR 30211657792 s (execAck a0 a1 s) := by
  unfold execAck
  repeat' first
    | with_reducible exact .refl _ _ | with_reducible assumption  | with_reducible refine Within.next ?_
    | with_reducible exact WithinR.fault _ _ _
    | (with_reducible apply Within.step (State.alAck_in _ _ _); decide)
    | (with_reducible apply Within.step (State.clAck_in _ _ _); decide) | split | dsimp -zeta only

theorem execClotonCalibration_in (a0 s) : WithinR 134217728 s (execClotonCalibration a0 s) := by
  unfold execClotonCalibration
  repeat' first
    | with_reducible exact .refl _ _ | with_reducible assumption | ((try lift_lets -underBinder); intro x; first
    | (refine Within.cut 134217728 s x ?_ ?_; (on_goal 1 => unfold x); (on_goal 2 => (intro hx; clear_value x)))
    | clear_value x) | with_reducible apply Within.ite | with_reducible refine Within.next ?_
    | with_reducible exact WithinR.fault _ _ _ | with_reducible apply WithinR.ite
    | (with_reducible apply Within.step (State.clCalibrate_in _ _); decide) | split

theorem execClotonSlotSend_in (a0 s) : WithinR 26180849728 s (execClotonSlotSend a0 s) := by
  unfold execClotonSlotSend
  repeat' first
    | with_reducible exact .refl _ _ | with_reducible assumption | ((try lift_lets -underBinder); intro x; first
    | (refine Within.cut 26180849728 s x ?_ ?_; (on_goal 1 => unfold x); (on_goal 2 => (intro hx; clear_value x)))
    | clear_value x) | with_reducible apply Within.ite | with_reducible refine Within.next ?_
    | with_reducible exact WithinR.fault _ _ _ | with_reducible apply WithinR.ite
    | (with_reducible apply Within.step (State.startSync_in _); decide)
    | (with_reducible apply Within.step (State.clSlot_in _ _); decide) | split

theorem execDlyReq_in (a0 a1 a2 s) : WithinR 134217728 s (execDlyReq a0 a1 a2 s) := by
  unfold execDlyReq
  repeat' first
    | with_reducible exact .refl _ _ | with_reducible assumption | with_reducible apply Within.ite
    | with_reducible refine Within.next ?_ | with_reducible exact WithinR.fault _ _ _
    | with_reducible apply WithinR.ite | (with_reducible apply Within.step (State.updCl_in _ _ _); decide)
    | split

theorem execDlyRsp_in (a0 a1 a2 s) : WithinR 25916608576 s (execDlyRsp a0 a1 a2 s) := by
  unfold execDlyRsp
  repeat' first
    | with_reducible exact .refl _ _ | with_reducible assumption  | with_reducible refine Within.next ?_
    | with_reducible exact WithinR.fault _ _ _
    | (with_reducible apply Within.step (State.alDlyRsp_in _ _ _ _); decide)
    | (with_reducible apply Within.step (State.clDlyRsp_in _ _ _ _); decide) | split | dsimp -zeta only

theorem execDlyRspMissing_in (a0 s) : WithinR 25916608576 s (execDlyRspMissing a0 s) := by
  unfold execDlyRspMissing
  repeat' first
    | with_reducible exact .refl _ _ | with_reducible assumption  | with_reducible refine Within.next ?_
    | with_reducible exact WithinR.fault _ _ _
    | (with_reducible apply Within.step (State.alDlyMissing_in _ _); decide)
    | (with_reducible apply Within.step (State.clDlyMissing_in _ _); decide) | split | dsimp -zeta only

theorem execFrameReceive_in (a0 a1 a2 a3 a4 a5 s) : WithinR 30480093248 s (execFrameReceive a0 a1 a2 a3 a4 a5 s) := by
  unfold execFrameReceive
  repeat' first
    | with_reducible exact .refl _ _ | with_reducible assumption  | with_reducible refine Within.next ?_
    | with_reducible exact WithinR.fault _ _ _
    | (with_reducible apply Within.step (State.alFrame_in _ _ _ _ _ _); decide)
    | (with_reducible apply Within.step (State.clFrame_in _ _ _ _ _ _ _); decide) | split | dsimp -zeta only

theorem execReplayTimeout_in (a0 s) : WithinR 30211657792 s (execReplayTimeout a0 s) := by
  unfold execReplayTimeout
  repeat' first
    | with_reducible exact .refl _ _ | with_reducible assumption  | with_reducible refine Within.next ?_
    | with_reducible exact WithinR.fault _ _ _
    | (with_reducible apply Within.step (State.alReplay_in _ _); decide)
    | (with_reducible apply Within.step (State.clReplay_in _ _); decide) | split | dsimp -zeta only

theorem execSpare_in (a0 a1 s) : WithinR 134217728 s (execSpare a0 a1 s) := by
  unfold execSpare
  repeat' first
    | with_reducible exact .refl _ _ | with_reducible assumption | ((try lift_lets -underBinder); intro x; first
    | (refine Within.cut 134217728 s x ?_ ?_; (on_goal 1 => unfold x); (on_goal 2 => (intro hx; clear_value x)))
    | clear_value x) | with_reducible apply Within.ite | with_reducible refine Within.next ?_
    | with_reducible exact WithinR.fault _ _ _ | with_reducible apply WithinR.ite
    | (with_reducible apply Within.step (State.clCtl_in _ _ _); decide)
    | (with_reducible apply Within.step (State.updCl_in _ _ _); decide) | split | dsimp -zeta only

end Sys2Proof.Machine
end

