-- ==== Sys2Proof/Laws/InTwin.lean ====
section
/-! SUPPORT. What the operations of Machine/Twin.lean may change. -/

namespace Sys2Proof.Machine

set_option linter.unusedTactic false
set_option linter.unreachableTactic false

theorem State.evalPair_in (s) : Within 25778196544 s (State.evalPair s) := by
  unfold State.evalPair
  repeat' first
    | with_reducible exact .refl _ _ | with_reducible assumption | with_reducible apply Within.ite
    | (with_reducible apply Within.step (State.setPair_in _ _); decide) | split

theorem State.resyncTwin_in (s) : Within 26046632000 s (State.resyncTwin s) := by
  unfold State.resyncTwin
  repeat' first
    | with_reducible exact .refl _ _ | with_reducible assumption | with_reducible apply Within.ite
    | (with_reducible apply Within.step (State.evalPair_in _); decide)
    | (with_reducible apply Within.step (State.evTw_in _ _); decide)
    | (with_reducible apply Within.step (State.updTw_in _ _); decide)
    | (with_reducible apply Within.step (State.setFld_in _ _ _ _); decide) | split

theorem State.sendPeerReset_in (s) : Within 134217728 s (State.sendPeerReset s) := by
  unfold State.sendPeerReset
  repeat' first
    | with_reducible exact .refl _ _ | with_reducible assumption | with_reducible apply Within.ite
    | (with_reducible apply Within.step (State.queueRec_in _ _ _); decide) | split

theorem State.showChan_in (s a1 a2) : Within 268435520 s (State.showChan s a1 a2) := by
  unfold State.showChan
  repeat' first
    | with_reducible exact .refl _ _ | with_reducible assumption | ((try lift_lets -underBinder); intro x; first
    | (refine Within.cut 268435520 s x ?_ ?_; (on_goal 1 => unfold x); (on_goal 2 => (intro hx; clear_value x)))
    | clear_value x) | with_reducible apply Within.ite
    | (with_reducible apply Within.step (State.keepRegs_in _ _); decide)
    | (with_reducible apply Within.step (State.wrW_in _ _ _); decide)
    | (with_reducible apply Within.step (State.setFld_in _ _ _ _); decide)
    | (with_reducible apply Within.step (State.updTw_in _ _); decide) | split

theorem State.chanRecs_in (s a1) : Within 268435520 s (State.chanRecs s a1) := by
  induction a1 generalizing s with
  | nil => exact .refl _ _
  | cons x l ih =>
    unfold State.chanRecs
    try dsimp -zeta only
    repeat' first
      | with_reducible exact .refl _ _ | with_reducible assumption
      | ((try lift_lets -underBinder); intro x; first
      | (refine Within.cut 268435520 s x ?_ ?_; (on_goal 1 => unfold x); (on_goal 2 => (intro hx; clear_value x)))
      | clear_value x)  | (with_reducible apply Within.step (State.showChan_in _ _ _); decide)
      | (with_reducible apply Within.step (ih _); decide) | split | dsimp -zeta only

theorem State.commitAlone_in (s a1) : Within 26063409216 s (State.commitAlone s a1) := by
  unfold State.commitAlone
  repeat' first
    | with_reducible exact .refl _ _ | with_reducible assumption | ((try lift_lets -underBinder); intro x; first
    | (refine Within.cut 26063409216 s x ?_ ?_; (on_goal 1 => unfold x); (on_goal 2 => (intro hx; clear_value x)))
    | clear_value x)  | (with_reducible apply Within.step (State.updTw_in _ _); decide)
    | (with_reducible apply Within.step (State.updUm_in _ _); decide)
    | (with_reducible apply Within.step (State.armDone_in _); decide)
    | (with_reducible apply Within.step (State.evTw_in _ _); decide)

theorem State.yieldSend_in (s) : Within 26180849728 s (State.yieldSend s) := by
  unfold State.yieldSend
  repeat' first
    | with_reducible exact .refl _ _ | with_reducible assumption | with_reducible apply Within.ite
    | (with_reducible apply Within.step (State.clSlot_in _ _); decide)
    | (with_reducible apply Within.step (State.updCl_in _ _ _); decide)
    | (with_reducible apply Within.step (State.updTw_in _ _); decide) | split

theorem State.yieldFirst_in (s) : Within 26180849728 s (State.yieldFirst s) := by
  unfold State.yieldFirst
  repeat' first
    | with_reducible exact .refl _ _ | with_reducible assumption | with_reducible apply Within.ite
    | (with_reducible apply Within.step (State.yieldSend_in _); decide) | split

theorem State.enterStandby_in (s) : Within 26601345088 s (State.enterStandby s) := by
  unfold State.enterStandby
  repeat' first
    | with_reducible exact .refl _ _ | with_reducible assumption | ((try lift_lets -underBinder); intro x; first
    | (refine Within.cut 26601345088 s x ?_ ?_; (on_goal 1 => unfold x); (on_goal 2 => (intro hx; clear_value x)))
    | clear_value x)  | (with_reducible apply Within.step (State.cutWork_in _); decide)
    | (with_reducible apply Within.step (State.updTw_in _ _); decide)
    | (with_reducible apply Within.step (State.setFld_in _ _ _ _); decide)
    | (with_reducible apply Within.step (State.evalPair_in _); decide)
    | (with_reducible apply Within.step (State.evTw_in _ _); decide)
    | (with_reducible apply Within.step (State.setMode_in _ _ _); decide)

theorem State.flushChans_in (s) : Within 402653184 s (State.flushChans s) := by
  unfold State.flushChans
  repeat' first
    | with_reducible exact .refl _ _ | with_reducible assumption | ((try lift_lets -underBinder); intro x; first
    | (refine Within.cut 402653184 s x ?_ ?_; (on_goal 1 => unfold x); (on_goal 2 => (intro hx; clear_value x)))
    | clear_value x) | with_reducible apply Within.ite
    | (with_reducible apply Within.step (State.updTw_in _ _); decide)
    | (with_reducible apply Within.step (State.updCl_in _ _ _); decide) | split

theorem State.flushSlots_in (a0 s) : Within 26180849728 s (State.flushSlots a0 s) := by
  induction a0 generalizing s with
  | zero => exact .refl _ _
  | succ n ih =>
    unfold State.flushSlots
    try dsimp -zeta only
    repeat' first
      | with_reducible exact .refl _ _ | with_reducible assumption | with_reducible apply Within.ite
      | (with_reducible apply Within.step (State.clSlot_in _ _); decide)
      | (with_reducible apply Within.step (ih _); decide) | split | dsimp -zeta only

theorem State.genRec_in (s a1) : Within 30492987712 s (State.genRec s a1) := by
  unfold State.genRec
  repeat' first
    | with_reducible exact .refl _ _ | with_reducible assumption | ((try lift_lets -underBinder); intro x; first
    | (refine Within.cut 30492987712 s x ?_ ?_; (on_goal 1 => unfold x); (on_goal 2 => (intro hx; clear_value x)))
    | clear_value x) | with_reducible apply Within.ite
    | (with_reducible apply Within.step (State.openGen_in _ _); decide)
    | (with_reducible apply Within.step (State.closeGen_in _); decide)
    | (with_reducible apply Within.step (State.disarm_in _); decide)
    | (with_reducible apply Within.step (State.access_in _ _ _); decide) | split | dsimp -zeta only

theorem State.genRecs_in (s a1) : Within 30492987712 s (State.genRecs s a1) := by
  induction a1 generalizing s with
  | nil => exact .refl _ _
  | cons x l ih =>
    unfold State.genRecs
    try dsimp -zeta only
    repeat' first
      | with_reducible exact .refl _ _ | with_reducible assumption 
      | (with_reducible apply Within.step (State.genRec_in _ _); decide)
      | (with_reducible apply Within.step (ih _); decide) | split | dsimp -zeta only

theorem State.hbOwe_in (s a1) : Within 134217728 s (State.hbOwe s a1) := by
  induction a1 generalizing s with
  | nil => exact .refl _ _
  | cons x l ih =>
    unfold State.hbOwe
    try dsimp -zeta only
    repeat' first
      | with_reducible exact .refl _ _ | with_reducible assumption | with_reducible apply Within.ite
      | (with_reducible apply Within.step (State.updCl_in _ _ _); decide)
      | (with_reducible apply Within.step (ih _); decide) | split | dsimp -zeta only

theorem State.herdHeart_in (s a1 a2) : Within 25778196544 s (State.herdHeart s a1 a2) := by
  unfold State.herdHeart
  repeat' first
    | with_reducible exact .refl _ _ | with_reducible assumption | ((try lift_lets -underBinder); intro x; first
    | (refine Within.cut 25778196544 s x ?_ ?_; (on_goal 1 => unfold x); (on_goal 2 => (intro hx; clear_value x)))
    | clear_value x) | with_reducible apply Within.ite
    | (with_reducible apply Within.step (State.setFld_in _ _ _ _); decide)
    | (with_reducible apply Within.step (State.evTw_in _ _); decide) | split

theorem State.herdRx_in (s a1 a2 a3 a4) : WithinP 134217728 s (State.herdRx s a1 a2 a3 a4) := by
  unfold State.herdRx
  repeat' first
    | with_reducible exact .refl _ _ | with_reducible assumption | with_reducible apply Within.ite
    | with_reducible refine Within.pair ?_ | with_reducible apply WithinP.ite
    | refine Within.step (WithinP.out (State.clTake_in _ _ _ _) (by assumption)) (by decide) ?_
    | (with_reducible apply WithinP.step (State.clTake_in _ _ _ _); decide)
    | (with_reducible apply Within.step (WithinP.fst (State.clTake_in _ _ _ _)); decide) | split
    | dsimp -zeta only

theorem State.mirrorRx_in (s a1 a2 a3) : WithinP 134217728 s (State.mirrorRx s a1 a2 a3) := by
  unfold State.mirrorRx
  repeat' first
    | with_reducible exact .refl _ _ | with_reducible assumption | with_reducible apply Within.ite
    | with_reducible refine Within.pair ?_ | with_reducible apply WithinP.ite
    | refine Within.step (WithinP.out (State.clTake_in _ _ _ _) (by assumption)) (by decide) ?_
    | (with_reducible apply WithinP.step (State.clTake_in _ _ _ _); decide)
    | (with_reducible apply Within.step (WithinP.fst (State.clTake_in _ _ _ _)); decide) | split
    | dsimp -zeta only

theorem State.takeoverEntry_in (s) : Within 26734498112 s (State.takeoverEntry s) := by
  unfold State.takeoverEntry
  repeat' first
    | with_reducible exact .refl _ _ | with_reducible assumption | ((try lift_lets -underBinder); intro x; first
    | (refine Within.cut 26734498112 s x ?_ ?_; (on_goal 1 => unfold x); (on_goal 2 => (intro hx; clear_value x)))
    | clear_value x) | with_reducible apply Within.ite
    | (with_reducible apply Within.step (State.setFld_in _ _ _ _); decide)
    | (with_reducible apply Within.step (State.setPair_in _ _); decide)
    | (with_reducible apply Within.step (State.setMode_in _ _ _); decide)
    | (with_reducible apply Within.step (State.evTw_in _ _); decide)
    | (with_reducible apply Within.step (State.wrW_in _ _ _); decide)
    | (with_reducible apply Within.step (State.closeGen_in _); decide)
    | (with_reducible apply Within.step (State.updTw_in _ _); decide)
    | (with_reducible apply Within.step (State.queueRec_in _ _ _); decide) | split

theorem State.missTest_in (s) : Within 26734498112 s (State.missTest s) := by
  unfold State.missTest
  repeat' first
    | with_reducible exact .refl _ _ | with_reducible assumption | ((try lift_lets -underBinder); intro x; first
    | (refine Within.cut 26734498112 s x ?_ ?_; (on_goal 1 => unfold x); (on_goal 2 => (intro hx; clear_value x)))
    | clear_value x) | with_reducible apply Within.ite
    | (with_reducible apply Within.step (State.setFld_in _ _ _ _); decide)
    | (with_reducible apply Within.step (State.takeoverEntry_in _); decide)
    | (with_reducible apply Within.step (State.evTw_in _ _); decide)
    | (with_reducible apply Within.step (State.setPair_in _ _); decide) | split

theorem State.roleClash_in (s a1 a2) : Within 25778196544 s (State.roleClash s a1 a2) := by
  unfold State.roleClash
  repeat' first
    | with_reducible exact .refl _ _ | with_reducible assumption | ((try lift_lets -underBinder); intro x; first
    | (refine Within.cut 25778196544 s x ?_ ?_; (on_goal 1 => unfold x); (on_goal 2 => (intro hx; clear_value x)))
    | clear_value x) | with_reducible apply Within.ite
    | (with_reducible apply Within.step (State.evTw_in _ _); decide) | split

theorem State.stagedRecs_in (s a1) : Within 16777536 s (State.stagedRecs s a1) := by
  induction a1 generalizing s with
  | nil => exact .refl _ _
  | cons x l ih =>
    unfold State.stagedRecs
    try dsimp -zeta only
    repeat' first
      | with_reducible exact .refl _ _ | with_reducible assumption
      | ((try lift_lets -underBinder); intro x; first
      | (refine Within.cut 16777536 s x ?_ ?_; (on_goal 1 => unfold x); (on_goal 2 => (intro hx; clear_value x)))
      | clear_value x) | with_reducible apply Within.ite
      | (with_reducible apply Within.step (State.openGen_in _ _); decide)
      | (with_reducible apply Within.step (State.stage_in _ _ _); decide)
      | (with_reducible apply Within.step (ih _); decide) | split | dsimp -zeta only

theorem State.syncDigests_in (s a1) : Within 262208 s (State.syncDigests s a1) := by
  induction a1 generalizing s with
  | nil => exact .refl _ _
  | cons x l ih =>
    unfold State.syncDigests
    try dsimp -zeta only
    repeat' first
      | with_reducible exact .refl _ _ | with_reducible assumption
      | ((try lift_lets -underBinder); intro x; first
      | (refine Within.cut 262208 s x ?_ ?_; (on_goal 1 => unfold x); (on_goal 2 => (intro hx; clear_value x)))
      | clear_value x) | with_reducible apply Within.ite
      | (with_reducible apply Within.step (State.wrWide_in _ _ _); decide)
      | (with_reducible apply Within.step (State.updGrp_in _ _ _); decide)
      | (with_reducible apply Within.step (State.setFld_in _ _ _ _); decide)
      | (with_reducible apply Within.step (ih _); decide) | split | dsimp -zeta only

theorem State.syncRegOne_in (s a1 a2) : Within 30211657920 s (State.syncRegOne s a1 a2) := by
  unfold State.syncRegOne
  repeat' first
    | with_reducible exact .refl _ _ | with_reducible assumption | ((try lift_lets -underBinder); intro x; first
    | (refine Within.cut 30211657920 s x ?_ ?_; (on_goal 1 => unfold x); (on_goal 2 => (intro hx; clear_value x)))
    | clear_value x) | with_reducible apply Within.ite
    | (with_reducible apply Within.step (State.updPail_in _ _ _); decide)
    | (with_reducible apply Within.step (State.dropAll_in _ _ _); decide)
    | (with_reducible apply Within.step (State.wrG_in _ _ _); decide)
    | (with_reducible apply Within.step (State.portsEn_in _ _ _); decide) | split

theorem State.syncRecs_in (s a1) : Within 30211657920 s (State.syncRecs s a1) := by
  induction a1 generalizing s with
  | nil => exact .refl _ _
  | cons x l ih =>
    unfold State.syncRecs
    try dsimp -zeta only
    repeat' first
      | with_reducible exact .refl _ _ | with_reducible assumption 
      | (with_reducible apply Within.step (State.syncRegOne_in _ _ _); decide)
      | (with_reducible apply Within.step (ih _); decide) | split | dsimp -zeta only

theorem execClCal_in (a0 a1 s) : WithinR 150994944 s (execClCal a0 a1 s) := by
  unfold execClCal
  repeat' first
    | with_reducible exact .refl _ _ | with_reducible assumption | with_reducible apply Within.ite
    | with_reducible refine Within.next ?_ | with_reducible exact WithinR.fault _ _ _
    | with_reducible apply WithinR.ite
    | (with_reducible refine State.umRun_in (by decide) ?_ ?_ <;> try beta_reduce)
    | (with_reducible apply Within.step (State.refuse_in _ _ _ _); decide)
    | (with_reducible apply Within.step (State.reply_in _ _ _ _ _); decide)
    | (with_reducible apply Within.step (State.clCalibrate_in _ _); decide) | split

theorem execHerdAddrSet_in (a0 a1 s) : WithinR 25794973760 s (execHerdAddrSet a0 a1 s) := by
  unfold execHerdAddrSet
  repeat' first
    | with_reducible exact .refl _ _ | with_reducible assumption | ((try lift_lets -underBinder); intro x; first
    | (refine Within.cut 25794973760 s x ?_ ?_; (on_goal 1 => unfold x); (on_goal 2 => (intro hx; clear_value x)))
    | clear_value x) | with_reducible apply Within.ite | with_reducible refine Within.next ?_
    | with_reducible exact WithinR.fault _ _ _ | with_reducible apply WithinR.ite
    | (with_reducible refine State.umRun_in (by decide) ?_ ?_ <;> try beta_reduce)
    | (with_reducible apply Within.step (State.refuse_in _ _ _ _); decide)
    | (with_reducible apply Within.step (State.setFld_in _ _ _ _); decide)
    | (with_reducible apply Within.step (State.reply_in _ _ _ _ _); decide)
    | (with_reducible apply Within.step (State.rtAll_in _); decide) | split

theorem execHerdStatus_in (a0 a1 s) : WithinR 16777216 s (execHerdStatus a0 a1 s) := by
  unfold execHerdStatus
  repeat' first
    | with_reducible exact .refl _ _ | with_reducible assumption  | with_reducible refine Within.next ?_
    | with_reducible exact WithinR.fault _ _ _
    | (with_reducible refine State.umRun_in (by decide) ?_ ?_ <;> try beta_reduce)
    | (with_reducible apply Within.step (State.reply_in _ _ _ _ _); decide)

theorem execTwRoleSet_in (a0 a1 s) : WithinR 25794973760 s (execTwRoleSet a0 a1 s) := by
  unfold execTwRoleSet
  repeat' first
    | with_reducible exact .refl _ _ | with_reducible assumption | ((try lift_lets -underBinder); intro x; first
    | (refine Within.cut 25794973760 s x ?_ ?_; (on_goal 1 => unfold x); (on_goal 2 => (intro hx; clear_value x)))
    | clear_value x) | with_reducible apply Within.ite | with_reducible refine Within.next ?_
    | with_reducible exact WithinR.fault _ _ _ | with_reducible apply WithinR.ite
    | (with_reducible refine State.umRun_in (by decide) ?_ ?_ <;> try beta_reduce)
    | (with_reducible apply Within.step (State.refuse_in _ _ _ _); decide)
    | (with_reducible apply Within.step (State.setFld_in _ _ _ _); decide)
    | (with_reducible apply Within.step (State.evalPair_in _); decide)
    | (with_reducible apply Within.step (State.setPair_in _ _); decide)
    | (with_reducible apply Within.step (State.reply_in _ _ _ _ _); decide)
    | (with_reducible apply Within.step (State.rtAll_in _); decide) | split

theorem execTwStatus_in (a0 a1 s) : WithinR 16777216 s (execTwStatus a0 a1 s) := by
  unfold execTwStatus
  repeat' first
    | with_reducible exact .refl _ _ | with_reducible assumption  | with_reducible refine Within.next ?_
    | with_reducible exact WithinR.fault _ _ _
    | (with_reducible refine State.umRun_in (by decide) ?_ ?_ <;> try beta_reduce)
    | (with_reducible apply Within.step (State.reply_in _ _ _ _ _); decide)

theorem execTwSwitchover_in (a0 a1 s) : WithinR 26064474176 s (execTwSwitchover a0 a1 s) := by
  unfold execTwSwitchover
  repeat' first
    | with_reducible exact .refl _ _ | with_reducible assumption | ((try lift_lets -underBinder); intro x; first
    | (refine Within.cut 26064474176 s x ?_ ?_; (on_goal 1 => unfold x); (on_goal 2 => (intro hx; clear_value x)))
    | clear_value x) | with_reducible apply Within.ite | with_reducible refine Within.next ?_
    | with_reducible exact WithinR.fault _ _ _ | with_reducible apply WithinR.ite
    | (with_reducible refine State.umRun_in (by decide) ?_ ?_ <;> try beta_reduce)
    | (with_reducible apply Within.step (State.refuse_in _ _ _ _); decide)
    | (with_reducible apply Within.step (State.updTw_in _ _); decide)
    | (with_reducible apply Within.step (State.accept_in _ _ _ _); decide)
    | (with_reducible apply Within.step (State.dmaStops_in _ _); decide) | split

theorem State.takeTime_in (s a1 a2) : Within 25778198592 s (State.takeTime s a1 a2) := by
  unfold State.takeTime
  repeat' first
    | with_reducible exact .refl _ _ | with_reducible assumption | ((try lift_lets -underBinder); intro x; first
    | (refine Within.cut 25778198592 s x ?_ ?_; (on_goal 1 => unfold x); (on_goal 2 => (intro hx; clear_value x)))
    | clear_value x) | with_reducible apply Within.ite
    | (with_reducible apply Within.step (State.moveTime_in _ _ _); decide) | split

theorem State.trySync_in (s) : Within 26600280128 s (State.trySync s) := by
  unfold State.trySync
  repeat' first
    | with_reducible exact .refl _ _ | with_reducible assumption | ((try lift_lets -underBinder); intro x; first
    | (refine Within.cut 26600280128 s x ?_ ?_; (on_goal 1 => unfold x); (on_goal 2 => (intro hx; clear_value x)))
    | clear_value x) | with_reducible apply Within.ite
    | (with_reducible apply Within.step (State.updTw_in _ _); decide)
    | (with_reducible apply Within.step (State.setFld_in _ _ _ _); decide)
    | (with_reducible apply Within.step (State.wrWide_in _ _ _); decide)
    | (with_reducible apply Within.step (State.wrW_in _ _ _); decide)
    | (with_reducible apply Within.step (State.evTw_in _ _); decide)
    | (with_reducible apply Within.step (State.evalPair_in _); decide)
    | (with_reducible apply Within.step (State.setMode_in _ _ _); decide) | split | dsimp -zeta only

theorem execChan_in (a0 a1 s) : WithinR 402653248 s (execChan a0 a1 s) := by
  unfold execChan
  repeat' first
    | with_reducible exact .refl _ _ | with_reducible assumption | with_reducible apply Within.ite
    | with_reducible refine Within.next ?_ | with_reducible exact WithinR.fault _ _ _
    | with_reducible apply WithinR.ite
    | refine Within.step (WithinP.out (State.mirrorRx_in _ _ _ _) (by assumption)) (by decide) ?_
    | (with_reducible apply Within.step (WithinP.fst (State.mirrorRx_in _ _ _ _)); decide)
    | (with_reducible apply Within.step (State.chanRecs_in _ _); decide) | split | dsimp -zeta only

theorem execCommit_in (a0 a1 s) : WithinR 150995008 s (execCommit a0 a1 s) := by
  unfold execCommit
  repeat' first
    | with_reducible exact .refl _ _ | with_reducible assumption | ((try lift_lets -underBinder); intro x; first
    | (refine Within.cut 150995008 s x ?_ ?_; (on_goal 1 => unfold x); (on_goal 2 => (intro hx; clear_value x)))
    | clear_value x) | with_reducible apply Within.ite | with_reducible refine Within.next ?_
    | with_reducible exact WithinR.fault _ _ _ | with_reducible apply WithinR.ite
    | refine Within.step (WithinP.out (State.mirrorRx_in _ _ _ _) (by assumption)) (by decide) ?_
    | (with_reducible apply Within.step (WithinP.fst (State.mirrorRx_in _ _ _ _)); decide)
    | (with_reducible apply Within.step (State.arm_in _ _ _ _ _ _ _ _); decide)
    | (with_reducible apply Within.step (State.updCl_in _ _ _); decide)
    | (with_reducible apply Within.step (State.setFld_in _ _ _ _); decide) | split | dsimp -zeta only

theorem execCommitAck_in (a0 a1 s) : WithinR 26197626944 s (execCommitAck a0 a1 s) := by
  unfold execCommitAck
  repeat' first
    | with_reducible exact .refl _ _ | with_reducible assumption | with_reducible apply Within.ite
    | with_reducible refine Within.next ?_ | with_reducible exact WithinR.fault _ _ _
    | with_reducible apply WithinR.ite
    | refine Within.step (WithinP.out (State.mirrorRx_in _ _ _ _) (by assumption)) (by decide) ?_
    | (with_reducible apply Within.step (WithinP.fst (State.mirrorRx_in _ _ _ _)); decide)
    | (with_reducible apply Within.step (State.armDone_in _); decide)
    | (with_reducible apply Within.step (State.updUm_in _ _); decide)
    | (with_reducible apply Within.step (State.commitAlone_in _ _); decide) | split | dsimp -zeta only

theorem execCommitAckTimeout_in (s) : WithinR 26063409216 s (execCommitAckTimeout s) := by
  unfold execCommitAckTimeout
  repeat' first
    | with_reducible exact .refl _ _ | with_reducible assumption | with_reducible apply Within.ite
    | with_reducible refine Within.next ?_ | with_reducible exact WithinR.fault _ _ _
    | with_reducible apply WithinR.ite | (with_reducible apply Within.step (State.commitAlone_in _ _); decide)
    | split | dsimp -zeta only

theorem execDigest_in (a0 a1 a2 a3 s) : WithinR 25778196544 s (execDigest a0 a1 a2 a3 s) := by
  unfold execDigest
  repeat' first
    | with_reducible exact .refl _ _ | with_reducible assumption | ((try lift_lets -underBinder); intro x; first
    | (refine Within.cut 25778196544 s x ?_ ?_; (on_goal 1 => unfold x); (on_goal 2 => (intro hx; clear_value x)))
    | clear_value x) | with_reducible apply Within.ite | with_reducible refine Within.next ?_
    | with_reducible exact WithinR.fault _ _ _ | with_reducible apply WithinR.ite
    | (with_reducible apply Within.step (State.evUm_in _ _); decide)
    | (with_reducible apply Within.step (State.logKind_in _ _ _); decide) | split

theorem execEpochStepDown_in (s) : WithinR 30896312384 s (execEpochStepDown s) := by
  unfold execEpochStepDown
  repeat' first
    | with_reducible exact .refl _ _ | with_reducible assumption | ((try lift_lets -underBinder); intro x; first
    | (refine Within.cut 30896312384 s x ?_ ?_; (on_goal 1 => unfold x); (on_goal 2 => (intro hx; clear_value x)))
    | clear_value x) | with_reducible apply Within.ite | with_reducible refine Within.next ?_
    | with_reducible exact WithinR.fault _ _ _ | with_reducible apply WithinR.ite
    | (with_reducible apply Within.step (State.updUm_in _ _); decide)
    | (with_reducible apply Within.step (State.enterStandby_in _); decide)
    | (with_reducible apply Within.step (State.cancelFinals_in _ _); decide)
    | (with_reducible apply Within.step (State.modeFinal_in _ _ _); decide)
    | (with_reducible apply Within.step (State.final_in _ _ _ _ _ _); decide) | split | dsimp -zeta only

theorem execGenCmd_in (a0 a1 s) : WithinR 30492987712 s (execGenCmd a0 a1 s) := by
  unfold execGenCmd
  repeat' first
    | with_reducible exact .refl _ _ | with_reducible assumption | with_reducible apply Within.ite
    | with_reducible refine Within.next ?_ | with_reducible exact WithinR.fault _ _ _
    | with_reducible apply WithinR.ite
    | refine Within.step (WithinP.out (State.mirrorRx_in _ _ _ _) (by assumption)) (by decide) ?_
    | (with_reducible apply Within.step (WithinP.fst (State.mirrorRx_in _ _ _ _)); decide)
    | (with_reducible apply Within.step (State.genRecs_in _ _); decide) | split | dsimp -zeta only

theorem execHabort_in (a0 a1 a2 a3 s) : WithinR 30492594240 s (execHabort a0 a1 a2 a3 s) := by
  unfold execHabort
  repeat' first
    | with_reducible exact .refl _ _ | with_reducible assumption | ((try lift_lets -underBinder); intro x; first
    | (refine Within.cut 30492594240 s x ?_ ?_; (on_goal 1 => unfold x); (on_goal 2 => (intro hx; clear_value x)))
    | clear_value x) | with_reducible apply Within.ite | with_reducible refine Within.next ?_
    | with_reducible exact WithinR.fault _ _ _ | with_reducible apply WithinR.ite
    | refine Within.step (WithinP.out (State.herdRx_in _ _ _ _ _) (by assumption)) (by decide) ?_
    | (with_reducible apply Within.step (WithinP.fst (State.herdRx_in _ _ _ _ _)); decide)
    | (with_reducible apply Within.step (State.evTw_in _ _); decide)
    | (with_reducible apply Within.step (State.cnt_in _ _); decide)
    | (with_reducible apply Within.step (State.disarm_in _); decide)
    | (with_reducible apply Within.step (State.updUm_in _ _); decide)
    | (with_reducible apply Within.step (State.updTw_in _ _); decide) | split | dsimp -zeta only

theorem execHeartbeat_in (a0 a1 a2 a3 s) : WithinR 26734500160 s (execHeartbeat a0 a1 a2 a3 s) := by
  unfold execHeartbeat
  repeat' first
    | with_reducible exact .refl _ _ | with_reducible assumption | ((try lift_lets -underBinder); intro x; first
    | (refine Within.cut 26734500160 s x ?_ ?_; (on_goal 1 => unfold x); (on_goal 2 => (intro hx; clear_value x)))
    | clear_value x) | with_reducible apply Within.ite | with_reducible refine Within.next ?_
    | with_reducible exact WithinR.fault _ _ _ | with_reducible apply WithinR.ite
    | (with_reducible apply Within.step (State.updCl_in _ _ _); decide)
    | (with_reducible apply Within.step (State.herdHeart_in _ _ _); decide)
    | (with_reducible apply Within.step (State.setFld_in _ _ _ _); decide)
    | (with_reducible apply Within.step (State.roleClash_in _ _ _); decide)
    | (with_reducible apply Within.step (State.updTw_in _ _); decide)
    | (with_reducible apply Within.step (State.takeoverEntry_in _); decide)
    | (with_reducible apply Within.step (State.evalPair_in _); decide)
    | (with_reducible apply Within.step (State.takeTime_in _ _ _); decide)
    | (with_reducible apply Within.step (State.trySync_in _); decide) | split

theorem execHeartbeatInstant_in (s) : WithinR 26734498112 s (execHeartbeatInstant s) := by
  unfold execHeartbeatInstant
  repeat' first
    | with_reducible exact .refl _ _ | with_reducible assumption | ((try lift_lets -underBinder); intro x; first
    | (refine Within.cut 26734498112 s x ?_ ?_; (on_goal 1 => unfold x); (on_goal 2 => (intro hx; clear_value x)))
    | clear_value x) | with_reducible apply Within.ite | with_reducible refine Within.next ?_
    | with_reducible exact WithinR.fault _ _ _ | with_reducible apply WithinR.ite
    | (with_reducible apply Within.step (State.missTest_in _); decide)
    | (with_reducible apply Within.step (State.flushChans_in _); decide)
    | (with_reducible apply Within.step (State.hbOwe_in _ _); decide)
    | (with_reducible apply Within.step (State.updCl_in _ _ _); decide) | split

theorem execHerdCellForward_in (a0 a1 s) : WithinR 26180849728 s (execHerdCellForward a0 a1 s) := by
  unfold execHerdCellForward
  repeat' first
    | with_reducible exact .refl _ _ | with_reducible assumption | ((try lift_lets -underBinder); intro x; first
    | (refine Within.cut 26180849728 s x ?_ ?_; (on_goal 1 => unfold x); (on_goal 2 => (intro hx; clear_value x)))
    | clear_value x) | with_reducible apply Within.ite | with_reducible refine Within.next ?_
    | with_reducible exact WithinR.fault _ _ _ | with_reducible apply WithinR.ite
    | (with_reducible apply Within.step (State.updTw_in _ _); decide)
    | (with_reducible apply Within.step (State.updCl_in _ _ _); decide)
    | (with_reducible apply Within.step (State.evTw_in _ _); decide) | split | dsimp -zeta only

theorem execHerdGuardCheck_in (s) : WithinR 30492594240 s (execHerdGuardCheck s) := by
  unfold execHerdGuardCheck
  repeat' first
    | with_reducible exact .refl _ _ | with_reducible assumption | ((try lift_lets -underBinder); intro x; first
    | (refine Within.cut 30492594240 s x ?_ ?_; (on_goal 1 => unfold x); (on_goal 2 => (intro hx; clear_value x)))
    | clear_value x) | with_reducible apply Within.ite | with_reducible refine Within.next ?_
    | with_reducible exact WithinR.fault _ _ _ | with_reducible apply WithinR.ite
    | (with_reducible apply Within.step (State.updTw_in _ _); decide)
    | (with_reducible apply Within.step (State.disarm_in _); decide) | split | dsimp -zeta only

theorem execHready_in (a0 a1 a2 s) : WithinR 134217728 s (execHready a0 a1 a2 s) := by
  unfold execHready
  repeat' first
    | with_reducible exact .refl _ _ | with_reducible assumption  | with_reducible refine Within.next ?_
    | with_reducible exact WithinR.fault _ _ _
    | refine Within.step (WithinP.out (State.herdRx_in _ _ _ _ _) (by assumption)) (by decide) ?_
    | (with_reducible apply Within.step (WithinP.fst (State.herdRx_in _ _ _ _ _)); decide)
    | (with_reducible apply Within.step (State.updCl_in _ _ _); decide) | split | dsimp -zeta only

theorem execShadowWr_in (a0 a1 s) : WithinR 30224552000 s (execShadowWr a0 a1 s) := by
  unfold execShadowWr
  repeat' first
    | with_reducible exact .refl _ _ | with_reducible assumption | ((try lift_lets -underBinder); intro x; first
    | (refine Within.cut 30224552000 s x ?_ ?_; (on_goal 1 => unfold x); (on_goal 2 => (intro hx; clear_value x)))
    | clear_value x) | with_reducible apply Within.ite | with_reducible refine Within.next ?_
    | with_reducible exact WithinR.fault _ _ _ | with_reducible apply WithinR.ite
    | refine Within.step (WithinP.out (State.mirrorRx_in _ _ _ _) (by assumption)) (by decide) ?_
    | (with_reducible apply Within.step (WithinP.fst (State.mirrorRx_in _ _ _ _)); decide)
    | (with_reducible apply Within.step (State.access_in _ _ _); decide) | split | dsimp -zeta only

theorem execStagedWr_in (a0 a1 s) : WithinR 150995264 s (execStagedWr a0 a1 s) := by
  unfold execStagedWr
  repeat' first
    | with_reducible exact .refl _ _ | with_reducible assumption | with_reducible apply Within.ite
    | with_reducible refine Within.next ?_ | with_reducible exact WithinR.fault _ _ _
    | with_reducible apply WithinR.ite
    | refine Within.step (WithinP.out (State.mirrorRx_in _ _ _ _) (by assumption)) (by decide) ?_
    | (with_reducible apply Within.step (WithinP.fst (State.mirrorRx_in _ _ _ _)); decide)
    | (with_reducible apply Within.step (State.stagedRecs_in _ _); decide) | split | dsimp -zeta only

theorem execSwitchoverHandoff_in (s) : WithinR 31030530112 s (execSwitchoverHandoff s) := by
  unfold execSwitchoverHandoff
  repeat' first
    | with_reducible exact .refl _ _ | with_reducible assumption | ((try lift_lets -underBinder); intro x; first
    | (refine Within.cut 31030530112 s x ?_ ?_; (on_goal 1 => unfold x); (on_goal 2 => (intro hx; clear_value x)))
    | clear_value x) | with_reducible apply Within.ite | with_reducible refine Within.next ?_
    | with_reducible exact WithinR.fault _ _ _ | with_reducible apply WithinR.ite
    | (with_reducible apply Within.step (State.endChans_in _ _ _); decide)
    | (with_reducible apply Within.step (State.yieldSend_in _); decide)
    | (with_reducible apply Within.step (State.flushSlots_in _ _); decide)
    | (with_reducible apply Within.step (State.flushChans_in _); decide)
    | (with_reducible apply Within.step (State.final_in _ _ _ _ _ _); decide)
    | (with_reducible apply Within.step (State.enterStandby_in _); decide) | split | dsimp -zeta only

theorem execSyncDone_in (a0 a1 a2 s) : WithinR 26734760000 s (execSyncDone a0 a1 a2 s) := by
  unfold execSyncDone
  have h := State.mirrorRx_in s 9 a0 a1
  generalize s.mirrorRx 9 a0 a1 = p at h ⊢
  obtain ⟨u, r⟩ := p
  have hu := (h _ _ rfl).mono (A := 26734760000) (by decide)
  cases r with
  | none => exact .next hu
  | some bs =>
    exact .ite (.next (Within.step (State.trySync_in ..) (by decide) (Within.step (State.updTw_in ..) (by decide)
      (Within.step (State.syncDigests_in ..) (by decide) hu)))) (.next hu)

theorem execSyncReg_in (a0 a1 s) : WithinR 30480093376 s (execSyncReg a0 a1 s) := by
  unfold execSyncReg
  repeat' first
    | with_reducible exact .refl _ _ | with_reducible assumption | with_reducible apply Within.ite
    | with_reducible refine Within.next ?_ | with_reducible exact WithinR.fault _ _ _
    | with_reducible apply WithinR.ite
    | refine Within.step (WithinP.out (State.mirrorRx_in _ _ _ _) (by assumption)) (by decide) ?_
    | (with_reducible apply Within.step (WithinP.fst (State.mirrorRx_in _ _ _ _)); decide)
    | (with_reducible apply Within.step (State.syncRecs_in _ _); decide)
    | (with_reducible apply Within.step (State.updTw_in _ _); decide)
    | (with_reducible apply Within.step (State.setFld_in _ _ _ _); decide) | split | dsimp -zeta only

theorem execSyncWt_in (a0 a1 s) : WithinR 134348800 s (execSyncWt a0 a1 s) := by
  unfold execSyncWt
  repeat' first
    | with_reducible exact .refl _ _ | with_reducible assumption | ((try lift_lets -underBinder); intro x; first
    | (refine Within.cut 134348800 s x ?_ ?_; (on_goal 1 => unfold x); (on_goal 2 => (intro hx; clear_value x)))
    | clear_value x) | with_reducible apply Within.ite | with_reducible refine Within.next ?_
    | with_reducible exact WithinR.fault _ _ _ | with_reducible apply WithinR.ite
    | refine Within.step (WithinP.out (State.mirrorRx_in _ _ _ _) (by assumption)) (by decide) ?_
    | (with_reducible apply Within.step (WithinP.fst (State.mirrorRx_in _ _ _ _)); decide)
    | (with_reducible apply Within.step (State.updUnit_in _ _ _); decide)
    | (with_reducible refine Within.foldl _ (fun x y hx => ?_) ?_) | split | dsimp -zeta only

theorem execTakeoverComplete_in (s) : WithinR 26600280128 s (execTakeoverComplete s) := by
  unfold execTakeoverComplete
  repeat' first
    | with_reducible exact .refl _ _ | with_reducible assumption | ((try lift_lets -underBinder); intro x; first
    | (refine Within.cut 26600280128 s x ?_ ?_; (on_goal 1 => unfold x); (on_goal 2 => (intro hx; clear_value x)))
    | clear_value x) | with_reducible apply Within.ite | with_reducible refine Within.next ?_
    | with_reducible exact WithinR.fault _ _ _ | with_reducible apply WithinR.ite
    | (with_reducible apply Within.step (State.updUm_in _ _); decide)
    | (with_reducible apply Within.step (State.setMode_in _ _ _); decide)
    | (with_reducible apply Within.step (State.updTw_in _ _); decide)
    | (with_reducible apply Within.step (State.evalPair_in _); decide)
    | (with_reducible apply Within.step (State.evTw_in _ _); decide)
    | (with_reducible apply Within.step (State.evUm_in _ _); decide) | split

theorem execTimemark_in (a0 a1 a2 a3 s) : WithinR 30224160832 s (execTimemark a0 a1 a2 a3 s) := by
  unfold execTimemark
  repeat' first
    | with_reducible exact .refl _ _ | with_reducible assumption | ((try lift_lets -underBinder); intro x; first
    | (refine Within.cut 30224160832 s x ?_ ?_; (on_goal 1 => unfold x); (on_goal 2 => (intro hx; clear_value x)))
    | clear_value x) | with_reducible apply Within.ite | with_reducible refine Within.next ?_
    | with_reducible exact WithinR.fault _ _ _ | with_reducible apply WithinR.ite
    | (with_reducible apply Within.step (State.updCl_in _ _ _); decide)
    | (with_reducible apply Within.step (State.moveTime_in _ _ _); decide)
    | (with_reducible apply Within.step (State.ppsAt_in _ _); decide) | split

theorem execTwCtrlPeerReset_in (s) : WithinR 134217728 s (execTwCtrlPeerReset s) := by
  unfold execTwCtrlPeerReset
  repeat' first
    | with_reducible exact .refl _ _ | with_reducible assumption  | with_reducible refine Within.next ?_
    | with_reducible exact WithinR.fault _ _ _
    | (with_reducible apply Within.step (State.sendPeerReset_in _); decide)

theorem execTwCtrlResync_in (s) : WithinR 26046632000 s (execTwCtrlResync s) := by
  unfold execTwCtrlResync
  repeat' first
    | with_reducible exact .refl _ _ | with_reducible assumption  | with_reducible refine Within.next ?_
    | with_reducible exact WithinR.fault _ _ _
    | (with_reducible apply Within.step (State.resyncTwin_in _); decide)

end Sys2Proof.Machine
end

