-- ==== Sys2Proof/Laws/InQuarantine.lean ====
section
/-! SUPPORT. What the operations of Machine/Quarantine.lean may change. -/

namespace Sys2Proof.Machine

set_option linter.unusedTactic false
set_option linter.unreachableTactic false

theorem State.allPortsLost_in (s) : Within 30211657792 s (State.allPortsLost s) := by
  unfold State.allPortsLost
  repeat' first
    | with_reducible exact .refl _ _ | with_reducible assumption 
    | (with_reducible apply Within.step (State.portsLost_in _ _); decide)

theorem State.askRestore_in (s a1) : Within 33554432 s (State.askRestore s a1) := by
  unfold State.askRestore
  repeat' first
    | with_reducible exact .refl _ _ | with_reducible assumption 
    | (with_reducible apply Within.step (State.updPw_in _ _); decide)

theorem State.updRs_in (s a1) : Within 67108864 s (State.updRs s a1) := by
  unfold State.updRs
  repeat' first
    | with_reducible exact .refl _ _ | with_reducible assumption  | with_reducible refine Within.set_rs rfl ?_

theorem State.evRs_in (s a1) : Within 25845305408 s (State.evRs s a1) := by
  unfold State.evRs
  repeat' first
    | with_reducible exact .refl _ _ | with_reducible assumption | with_reducible apply Within.ite
    | (with_reducible apply Within.step (State.updRs_in _ _); decide)
    | (with_reducible apply Within.step (State.occurBit_in _ _ _ _ _); decide) | split

theorem State.setCause_in (s a1 a2) : Within 17246982208 s (State.setCause s a1 a2) := by
  unfold State.setCause
  repeat' first
    | with_reducible exact .refl _ _ | with_reducible assumption | ((try lift_lets -underBinder); intro x; first
    | (refine Within.cut 17246982208 s x ?_ ?_; (on_goal 1 => unfold x); (on_goal 2 => (intro hx; clear_value x)))
    | clear_value x) | with_reducible apply Within.ite
    | (with_reducible apply Within.step (State.updRs_in _ _); decide)
    | (with_reducible apply Within.step (State.setFld_in _ _ _ _); decide)
    | (with_reducible apply Within.step (State.wrW_in _ _ _); decide)
    | (with_reducible apply Within.step (State.logKind_in _ _ _); decide) | split

theorem State.endModeWork_in (s) : Within 21760053312 s (State.endModeWork s) := by
  unfold State.endModeWork
  repeat' first
    | with_reducible exact .refl _ _ | with_reducible assumption | ((try lift_lets -underBinder); intro x; first
    | (refine Within.cut 21760053312 s x ?_ ?_; (on_goal 1 => unfold x); (on_goal 2 => (intro hx; clear_value x)))
    | clear_value x)  | (with_reducible apply Within.step (State.updTw_in _ _); decide)
    | (with_reducible apply Within.step (State.updUm_in _ _); decide)
    | (with_reducible apply Within.step (State.cancelFinals_in _ _); decide)
    | (with_reducible apply Within.step (State.modeFinal_in _ _ _); decide)
    | (with_reducible apply Within.step (State.final_in _ _ _ _ _ _); decide) | split | dsimp -zeta only

theorem State.linksHeld_in (s a1) : Within 26053988416 s (State.linksHeld s a1) := by
  induction a1 generalizing s with
  | nil => exact .refl _ _
  | cons x l ih =>
    unfold State.linksHeld
    try dsimp -zeta only
    repeat' first
      | with_reducible exact .refl _ _ | with_reducible assumption
      | ((try lift_lets -underBinder); intro x; first
      | (refine Within.cut 26053988416 s x ?_ ?_; (on_goal 1 => unfold x); (on_goal 2 => (intro hx; clear_value x)))
      | clear_value x)  | (with_reducible apply Within.step (State.bridgeLinkReset_in _ _); decide)
      | (with_reducible apply Within.step (State.slicesReset_in _ _); decide)
      | (with_reducible apply Within.step (State.hlDown_in _ _ _); decide)
      | (with_reducible apply Within.step (State.updLink_in _ _ _); decide)
      | (with_reducible apply Within.step (ih _); decide) | split | dsimp -zeta only

theorem State.powerUp_in (s a1) : Within 94737436736 s (State.powerUp s a1) := by
  induction a1 generalizing s with
  | nil => exact .refl _ _
  | cons x l ih =>
    unfold State.powerUp
    try dsimp -zeta only
    repeat' first
      | with_reducible exact .refl _ _ | with_reducible assumption | with_reducible apply Within.ite
      | (with_reducible apply Within.step (State.domOn_in _ _); decide)
      | (with_reducible apply Within.step (ih _); decide) | split | dsimp -zeta only

theorem State.enterQuarantine_in (s a1 a2 a3) : Within 99857715520 s (State.enterQuarantine s a1 a2 a3) := by
  unfold State.enterQuarantine
  repeat' first
    | with_reducible exact .refl _ _ | with_reducible assumption | ((try lift_lets -underBinder); intro x; first
    | (refine Within.cut 99857715520 s x ?_ ?_; (on_goal 1 => unfold x); (on_goal 2 => (intro hx; clear_value x)))
    | clear_value x) | with_reducible apply Within.ite
    | (with_reducible apply Within.step (State.yieldFirst_in _); decide)
    | (with_reducible apply Within.step (State.endModeWork_in _); decide)
    | (with_reducible apply Within.step (State.loseGen_in _); decide)
    | (with_reducible apply Within.step (State.powerUp_in _ _); decide)
    | (with_reducible apply Within.step (State.linksHeld_in _ _); decide)
    | (with_reducible apply Within.step (State.clPortsLost_in _ _); decide)
    | (with_reducible apply Within.step (State.allPortsLost_in _); decide)
    | (with_reducible apply Within.step (State.resetCarrier_in _ _); decide)
    | (with_reducible apply Within.step (State.setMode_in _ _ _); decide)
    | (with_reducible apply Within.step (State.setCause_in _ _ _); decide)
    | (with_reducible apply Within.step (State.updPw_in _ _); decide)
    | (with_reducible apply Within.step (State.forceOffs_in _ _); decide)
    | (with_reducible apply Within.step (State.evRs_in _ _); decide) | split

theorem State.evSt_in (s a1) : Within 25778196544 s (State.evSt s a1) := by
  unfold State.evSt
  repeat' first
    | with_reducible exact .refl _ _ | with_reducible assumption 
    | (with_reducible apply Within.step (State.occurBit_in _ _ _ _ _); decide)

theorem State.logDip_in (s a1 a2 a3 a4) : Within 17179873344 s (State.logDip s a1 a2 a3 a4) := by
  unfold State.logDip
  repeat' first
    | with_reducible exact .refl _ _ | with_reducible assumption | with_reducible apply Within.ite
    | (with_reducible apply Within.step (State.logPut_in _ _); decide) | split

theorem State.shedCheck_in (s) : Within 26331844672 s (State.shedCheck s) := by
  unfold State.shedCheck
  repeat' first
    | with_reducible exact .refl _ _ | with_reducible assumption | with_reducible apply Within.ite
    | (with_reducible apply Within.step (State.setMode_in _ _ _); decide) | split

theorem State.restores_in (s a1) : Within 25811750976 s (State.restores s a1) := by
  unfold State.restores
  repeat' first
    | with_reducible exact .refl _ _ | with_reducible assumption | ((try lift_lets -underBinder); intro x; first
    | (refine Within.cut 25811750976 s x ?_ ?_; (on_goal 1 => unfold x); (on_goal 2 => (intro hx; clear_value x)))
    | clear_value x) | with_reducible apply Within.ite
    | (with_reducible apply Within.step (State.updPw_in _ _); decide)
    | (with_reducible apply Within.step (State.forceLifts_in _ _); decide)
    | (with_reducible apply Within.step (State.setFld_in _ _ _ _); decide)
    | (with_reducible apply Within.step (State.evSt_in _ _); decide)
    | (with_reducible apply Within.step (State.setW1c_in _ _ _); decide) | split

theorem State.setRail_in (s a1 a2 a3) : Within 64 s (State.setRail s a1 a2 a3) := by
  unfold State.setRail
  repeat' first
    | with_reducible exact .refl _ _ | with_reducible assumption 
    | (with_reducible apply Within.step (State.setFld_in _ _ _ _); decide)

theorem State.showDip_in (s a1 a2 a3 a4) : Within 64 s (State.showDip s a1 a2 a3 a4) := by
  unfold State.showDip
  repeat' first
    | with_reducible exact .refl _ _ | with_reducible assumption | ((try lift_lets -underBinder); intro x; first
    | (refine Within.cut 64 s x ?_ ?_; (on_goal 1 => unfold x); (on_goal 2 => (intro hx; clear_value x)))
    | clear_value x) | with_reducible apply Within.ite
    | (with_reducible apply Within.step (State.setFld_in _ _ _ _); decide)
    | (with_reducible apply Within.step (State.wrW_in _ _ _); decide) | split

theorem State.thShed_in (s a1) : Within 25811750976 s (State.thShed s a1) := by
  unfold State.thShed
  repeat' first
    | with_reducible exact .refl _ _ | with_reducible assumption | ((try lift_lets -underBinder); intro x; first
    | (refine Within.cut 25811750976 s x ?_ ?_; (on_goal 1 => unfold x); (on_goal 2 => (intro hx; clear_value x)))
    | clear_value x)  | (with_reducible apply Within.step (State.forceOffs_in _ _); decide)
    | (with_reducible apply Within.step (State.setFld_in _ _ _ _); decide)

theorem State.tryRun_in (s) : Within 26331844672 s (State.tryRun s) := by
  unfold State.tryRun
  repeat' first
    | with_reducible exact .refl _ _ | with_reducible assumption | with_reducible apply Within.ite
    | (with_reducible apply Within.step (State.setMode_in _ _ _); decide) | split

theorem State.wrTemps_in (s a1 a2) : Within 64 s (State.wrTemps s a1 a2) := by
  fun_induction State.wrTemps s a1 a2 with
  | case1 => exact .refl _ _
  | case2 s i a b c d bs ih => exact (State.wrW_in ..).trans ih
  | case3 => exact .refl _ _

theorem State.thermal_in (s a1) : Within 99857715520 s (State.thermal s a1) := by
  unfold State.thermal
  repeat' first
    | with_reducible exact .refl _ _ | with_reducible assumption | ((try lift_lets -underBinder); intro x; first
    | (refine Within.cut 99857715520 s x ?_ ?_; (on_goal 1 => unfold x); (on_goal 2 => (intro hx; clear_value x)))
    | clear_value x) | with_reducible apply Within.ite
    | (with_reducible apply Within.step (State.setFld_in _ _ _ _); decide)
    | (with_reducible apply Within.step (State.wrTemps_in _ _ _); decide)
    | (with_reducible apply Within.step (State.evSt_in _ _); decide)
    | (with_reducible apply Within.step (State.updPw_in _ _); decide)
    | (with_reducible apply Within.step (State.enterQuarantine_in _ _ _ _); decide)
    | (with_reducible apply Within.step (State.thShed_in _ _); decide)
    | (with_reducible apply Within.step (State.tryRun_in _); decide)
    | (with_reducible apply Within.step (State.restores_in _ _); decide)
    | (with_reducible apply Within.step (State.shedCheck_in _); decide) | split

theorem execPwShedCtrlRestore_in (a0 s) : WithinR 33554432 s (execPwShedCtrlRestore a0 s) := by
  unfold execPwShedCtrlRestore
  repeat' first
    | with_reducible exact .refl _ _ | with_reducible assumption  | with_reducible refine Within.next ?_
    | with_reducible exact WithinR.fault _ _ _
    | (with_reducible apply Within.step (State.askRestore_in _ _); decide)

theorem execSupplyDipEnd_in (a0 a1 a2 s) : WithinR 17213427776 s (execSupplyDipEnd a0 a1 a2 s) := by
  unfold execSupplyDipEnd
  repeat' first
    | with_reducible exact .refl _ _ | with_reducible assumption | ((try lift_lets -underBinder); intro x; first
    | (refine Within.cut 17213427776 s x ?_ ?_; (on_goal 1 => unfold x); (on_goal 2 => (intro hx; clear_value x)))
    | clear_value x) | with_reducible apply Within.ite | with_reducible refine Within.next ?_
    | with_reducible exact WithinR.fault _ _ _ | with_reducible apply WithinR.ite
    | (with_reducible apply Within.step (State.showDip_in _ _ _ _ _); decide)
    | (with_reducible apply Within.step (State.setRail_in _ _ _ _); decide)
    | (with_reducible apply Within.step (State.updPw_in _ _); decide)
    | (with_reducible apply Within.step (State.logDip_in _ _ _ _ _); decide)
    | (with_reducible apply Within.step (State.cnt_in _ _); decide)
    | (with_reducible apply Within.step (State.setFld_in _ _ _ _); decide) | split | dsimp -zeta only

theorem execSupplyDipRecorded_in (a0 a1 a2 s) : WithinR 26365399104 s (execSupplyDipRecorded a0 a1 a2 s) := by
  unfold execSupplyDipRecorded
  repeat' first
    | with_reducible exact .refl _ _ | with_reducible assumption | ((try lift_lets -underBinder); intro x; first
    | (refine Within.cut 26365399104 s x ?_ ?_; (on_goal 1 => unfold x); (on_goal 2 => (intro hx; clear_value x)))
    | clear_value x) | with_reducible apply Within.ite | with_reducible refine Within.next ?_
    | with_reducible exact WithinR.fault _ _ _ | with_reducible apply WithinR.ite
    | (with_reducible apply Within.step (State.setRail_in _ _ _ _); decide)
    | (with_reducible apply Within.step (State.updPw_in _ _); decide)
    | (with_reducible apply Within.step (State.showDip_in _ _ _ _ _); decide)
    | (with_reducible apply Within.step (State.raiseWake_in _ _ _); decide)
    | (with_reducible apply Within.step (State.evSt_in _ _); decide)
    | (with_reducible apply Within.step (State.setFld_in _ _ _ _); decide)
    | (with_reducible apply Within.step (State.shedCheck_in _); decide) | split

theorem execSupplyOver_in (a0 a1 s) : WithinR 25811750976 s (execSupplyOver a0 a1 s) := by
  unfold execSupplyOver
  repeat' first
    | with_reducible exact .refl _ _ | with_reducible assumption | ((try lift_lets -underBinder); intro x; first
    | (refine Within.cut 25811750976 s x ?_ ?_; (on_goal 1 => unfold x); (on_goal 2 => (intro hx; clear_value x)))
    | clear_value x) | with_reducible apply Within.ite | with_reducible refine Within.next ?_
    | with_reducible exact WithinR.fault _ _ _ | with_reducible apply WithinR.ite
    | (with_reducible apply Within.step (State.setRail_in _ _ _ _); decide)
    | (with_reducible apply Within.step (State.raiseWake_in _ _ _); decide)
    | (with_reducible apply Within.step (State.evSt_in _ _); decide) | split

theorem execSupplyReturn_in (s) : WithinR 26331844672 s (execSupplyReturn s) := by
  unfold execSupplyReturn
  repeat' first
    | with_reducible exact .refl _ _ | with_reducible assumption | ((try lift_lets -underBinder); intro x; first
    | (refine Within.cut 26331844672 s x ?_ ?_; (on_goal 1 => unfold x); (on_goal 2 => (intro hx; clear_value x)))
    | clear_value x) | with_reducible apply Within.ite | with_reducible refine Within.next ?_
    | with_reducible exact WithinR.fault _ _ _ | with_reducible apply WithinR.ite
    | (with_reducible apply Within.step (State.setFld_in _ _ _ _); decide)
    | (with_reducible apply Within.step (State.forceLifts_in _ _); decide)
    | (with_reducible apply Within.step (State.evSt_in _ _); decide)
    | (with_reducible apply Within.step (State.tryRun_in _); decide) | split

theorem execSupplyShed_in (s) : WithinR 25811750976 s (execSupplyShed s) := by
  unfold execSupplyShed
  repeat' first
    | with_reducible exact .refl _ _ | with_reducible assumption | ((try lift_lets -underBinder); intro x; first
    | (refine Within.cut 25811750976 s x ?_ ?_; (on_goal 1 => unfold x); (on_goal 2 => (intro hx; clear_value x)))
    | clear_value x) | with_reducible apply Within.ite | with_reducible refine Within.next ?_
    | with_reducible exact WithinR.fault _ _ _ | with_reducible apply WithinR.ite
    | (with_reducible apply Within.step (State.forceOffs_in _ _); decide)
    | (with_reducible apply Within.step (State.setFld_in _ _ _ _); decide)
    | (with_reducible apply Within.step (State.evSt_in _ _); decide) | split

theorem execThermalConversion_in (a0 s) : WithinR 99857715520 s (execThermalConversion a0 s) := by
  unfold execThermalConversion
  repeat' first
    | with_reducible exact .refl _ _ | with_reducible assumption | with_reducible apply Within.ite
    | with_reducible refine Within.next ?_ | with_reducible exact WithinR.fault _ _ _
    | with_reducible apply WithinR.ite | (with_reducible apply Within.step (State.thermal_in _ _); decide)
    | (with_reducible apply Within.step (State.updPw_in _ _); decide) | split

end Sys2Proof.Machine
end

