-- ==== Sys2Proof/Laws/InSecCore.lean ====
section
/-! SUPPORT. What the operations of Machine/SecCore.lean may change. -/

namespace Sys2Proof.Machine

set_option linter.unusedTactic false
set_option linter.unreachableTactic false

theorem State.setDbg_in (s a1) : Within 25778196544 s (State.setDbg s a1) := by
  unfold State.setDbg
  repeat' first
    | with_reducible exact .refl _ _ | with_reducible assumption | ((try lift_lets -underBinder); intro x; first
    | (refine Within.cut 25778196544 s x ?_ ?_; (on_goal 1 => unfold x); (on_goal 2 => (intro hx; clear_value x)))
    | clear_value x) | with_reducible apply Within.ite
    | (with_reducible apply Within.step (State.setFld_in _ _ _ _); decide)
    | (with_reducible apply Within.step (State.evSec_in _ _); decide) | split

theorem State.lockDebug_in (s) : Within 25778196544 s (State.lockDebug s) := by
  unfold State.lockDebug
  repeat' first
    | with_reducible exact .refl _ _ | with_reducible assumption | with_reducible apply Within.ite
    | (with_reducible apply Within.step (State.setDbg_in _ _); decide) | split

theorem State.rngTest_in (s a1) : Within 536870976 s (State.rngTest s a1) := by
  unfold State.rngTest
  repeat' first
    | with_reducible exact .refl _ _ | with_reducible assumption 
    | (with_reducible apply Within.step (State.updSec_in _ _); decide)
    | (with_reducible apply Within.step (State.setFld_in _ _ _ _); decide)

theorem State.rngRetry_in (s) : Within 536870976 s (State.rngRetry s) := by
  unfold State.rngRetry
  repeat' first
    | with_reducible exact .refl _ _ | with_reducible assumption | with_reducible apply Within.ite
    | (with_reducible apply Within.step (State.rngTest_in _ _); decide) | split

theorem State.draw_in (s a1) : WithinQ 536870912 s (State.draw s a1) := by
  unfold State.draw
  repeat' first
    | with_reducible exact .refl _ _ | with_reducible assumption  | with_reducible refine Within.pairQ ?_
    | (with_reducible apply Within.step (State.updSec_in _ _); decide)

theorem State.newNonce_in (s) : Within 536870912 s (State.newNonce s) := by
  unfold State.newNonce
  repeat' first
    | with_reducible exact .refl _ _ | with_reducible assumption | with_reducible apply Within.ite
    | refine Within.step (WithinQ.out (State.draw_in _ _) (by assumption)) (by decide) ?_
    | (with_reducible apply Within.step (WithinQ.snd (State.draw_in _ _)); decide)
    | (with_reducible apply Within.step (State.updSec_in _ _); decide) | split | dsimp -zeta only

theorem State.spdmSend_in (s a1 a2 a3) : Within 8598323200 s (State.spdmSend s a1 a2 a3) := by
  unfold State.spdmSend
  repeat' first
    | with_reducible exact .refl _ _ | with_reducible assumption | ((try lift_lets -underBinder); intro x; first
    | (refine Within.cut 8598323200 s x ?_ ?_; (on_goal 1 => unfold x); (on_goal 2 => (intro hx; clear_value x)))
    | clear_value x) | with_reducible apply Within.ite
    | (with_reducible apply Within.step (State.doeAnswer_in _ _ _); decide)
    | (with_reducible apply Within.step (State.emit_in _ _); decide) | split | dsimp -zeta only

theorem State.spdmError_in (s a1 a2 a3) : Within 8598323200 s (State.spdmError s a1 a2 a3) := by
  unfold State.spdmError
  repeat' first
    | with_reducible exact .refl _ _ | with_reducible assumption 
    | (with_reducible apply Within.step (State.spdmSend_in _ _ _ _); decide)

theorem State.ceAbort_in (s a1) : Within 30626811968 s (State.ceAbort s a1) := by
  unfold State.ceAbort
  repeat' first
    | with_reducible exact .refl _ _ | with_reducible assumption 
    | (with_reducible apply Within.step (State.final_in _ _ _ _ _ _); decide)
    | (with_reducible apply Within.step (State.newNonce_in _); decide)
    | (with_reducible apply Within.step (State.updSec_in _ _); decide)
    | (with_reducible apply Within.step (State.spdmError_in _ _ _ _); decide) | split | dsimp -zeta only

theorem State.ceAborts_in (s a1) : Within 30626811968 s (State.ceAborts s a1) := by
  induction a1 generalizing s with
  | nil => exact .refl _ _
  | cons x l ih =>
    unfold State.ceAborts
    try dsimp -zeta only
    repeat' first
      | with_reducible exact .refl _ _ | with_reducible assumption 
      | (with_reducible apply Within.step (State.ceAbort_in _ _); decide)
      | (with_reducible apply Within.step (ih _); decide) | split | dsimp -zeta only

theorem State.dropKey_in (s) : Within 26315067456 s (State.dropKey s) := by
  unfold State.dropKey
  repeat' first
    | with_reducible exact .refl _ _ | with_reducible assumption | ((try lift_lets -underBinder); intro x; first
    | (refine Within.cut 26315067456 s x ?_ ?_; (on_goal 1 => unfold x); (on_goal 2 => (intro hx; clear_value x)))
    | clear_value x) | with_reducible apply Within.ite
    | (with_reducible apply Within.step (State.setFld_in _ _ _ _); decide)
    | (with_reducible apply Within.step (State.updSec_in _ _); decide)
    | (with_reducible apply Within.step (State.rtAll_in _); decide) | split

theorem State.entropyFaults_in (s) : Within 30626811968 s (State.entropyFaults s) := by
  unfold State.entropyFaults
  repeat' first
    | with_reducible exact .refl _ _ | with_reducible assumption | ((try lift_lets -underBinder); intro x; first
    | (refine Within.cut 30626811968 s x ?_ ?_; (on_goal 1 => unfold x); (on_goal 2 => (intro hx; clear_value x)))
    | clear_value x)  | (with_reducible apply Within.step (State.ceAborts_in _ _); decide)
    | (with_reducible apply Within.step (State.updSec_in _ _); decide)

theorem State.sessionEvs_in (a0 s) : Within 25778196544 s (State.sessionEvs a0 s) := by
  induction a0 generalizing s with
  | zero => exact .refl _ _
  | succ n ih =>
    unfold State.sessionEvs
    try dsimp -zeta only
    repeat' first
      | with_reducible exact .refl _ _ | with_reducible assumption 
      | (with_reducible apply Within.step (State.evSec_in _ _); decide)
      | (with_reducible apply Within.step (ih _); decide) | split | dsimp -zeta only

theorem State.tdiErrors_in (s a1) : Within 26047696960 s (State.tdiErrors s a1) := by
  induction a1 generalizing s with
  | nil => exact .refl _ _
  | cons x l ih =>
    unfold State.tdiErrors
    try dsimp -zeta only
    repeat' first
      | with_reducible exact .refl _ _ | with_reducible assumption 
      | (with_reducible apply Within.step (State.setTdi_in _ _ _); decide)
      | (with_reducible apply Within.step (State.endChans_in _ _ _); decide)
      | (with_reducible apply Within.step (ih _); decide) | split | dsimp -zeta only

theorem State.updIde_in (s a1 a2 a3) : Within 8388608 s (State.updIde s a1 a2 a3) := by
  unfold State.updIde
  repeat' first
    | with_reducible exact .refl _ _ | with_reducible assumption 
    | (with_reducible apply Within.step (State.updLink_in _ _ _); decide)

theorem State.ideDown_in (s a1 a2) : Within 26047696960 s (State.ideDown s a1 a2) := by
  unfold State.ideDown
  repeat' first
    | with_reducible exact .refl _ _ | with_reducible assumption | ((try lift_lets -underBinder); intro x; first
    | (refine Within.cut 26047696960 s x ?_ ?_; (on_goal 1 => unfold x); (on_goal 2 => (intro hx; clear_value x)))
    | clear_value x) | with_reducible apply Within.ite
    | (with_reducible apply Within.step (State.updIde_in _ _ _ _); decide)
    | (with_reducible apply Within.step (State.evSec_in _ _); decide)
    | (with_reducible apply Within.step (State.tdiErrors_in _ _); decide) | split

theorem State.ideDowns_in (s a1 a2) : Within 26047696960 s (State.ideDowns s a1 a2) := by
  induction a2 generalizing s a1 with
  | nil => exact .refl _ _
  | cons x l ih =>
    unfold State.ideDowns
    try dsimp -zeta only
    repeat' first
      | with_reducible exact .refl _ _ | with_reducible assumption 
      | (with_reducible apply Within.step (State.ideDown_in _ _ _); decide)
      | (with_reducible apply Within.step (ih _ _); decide) | split | dsimp -zeta only

theorem State.zeroLinks_in (s a1) : Within 26047696960 s (State.zeroLinks s a1) := by
  induction a1 generalizing s with
  | nil => exact .refl _ _
  | cons x l ih =>
    unfold State.zeroLinks
    try dsimp -zeta only
    repeat' first
      | with_reducible exact .refl _ _ | with_reducible assumption
      | ((try lift_lets -underBinder); intro x; first
      | (refine Within.cut 26047696960 s x ?_ ?_; (on_goal 1 => unfold x); (on_goal 2 => (intro hx; clear_value x)))
      | clear_value x)  | (with_reducible apply Within.step (State.sessionEvs_in _ _); decide)
      | (with_reducible apply Within.step (State.updLink_in _ _ _); decide)
      | (with_reducible apply Within.step (State.ideDowns_in _ _ _); decide)
      | (with_reducible apply Within.step (ih _); decide) | split | dsimp -zeta only

theorem State.zeroize_in (s a1) : Within 30896312384 s (State.zeroize s a1) := by
  unfold State.zeroize
  repeat' first
    | with_reducible exact .refl _ _ | with_reducible assumption | ((try lift_lets -underBinder); intro x; first
    | (refine Within.cut 30896312384 s x ?_ ?_; (on_goal 1 => unfold x); (on_goal 2 => (intro hx; clear_value x)))
    | clear_value x) | with_reducible apply Within.ite
    | (with_reducible apply Within.step (State.sessionEvs_in _ _); decide)
    | (with_reducible apply Within.step (State.updSec_in _ _); decide)
    | (with_reducible apply Within.step (State.zeroLinks_in _ _); decide)
    | (with_reducible apply Within.step (State.dropKey_in _); decide)
    | (with_reducible apply Within.step (State.rngTest_in _ _); decide)
    | (with_reducible apply Within.step (State.entropyFaults_in _); decide)
    | (with_reducible apply Within.step (State.lockDebug_in _); decide)
    | (with_reducible apply Within.step (State.evSec_in _ _); decide) | split

theorem State.updSpdm_in (s a1 a2) : Within 545259520 s (State.updSpdm s a1 a2) := by
  unfold State.updSpdm
  repeat' first
    | with_reducible exact .refl _ _ | with_reducible assumption 
    | (with_reducible apply Within.step (State.updLink_in _ _ _); decide)
    | (with_reducible apply Within.step (State.updSec_in _ _); decide) | split | dsimp -zeta only

theorem State.ceStart_in (s) : Within 536870912 s (State.ceStart s) := by
  unfold State.ceStart
  repeat' first
    | with_reducible exact .refl _ _ | with_reducible assumption 
    | (with_reducible apply Within.step (State.updSec_in _ _); decide) | split | dsimp -zeta only

theorem State.cePut_in (s a1 a2) : Within 536870912 s (State.cePut s a1 a2) := by
  unfold State.cePut
  repeat' first
    | with_reducible exact .refl _ _ | with_reducible assumption 
    | (with_reducible apply Within.step (State.ceStart_in _); decide)
    | (with_reducible apply Within.step (State.updSec_in _ _); decide)

theorem State.ceStop_in (s) : Within 30626811968 s (State.ceStop s) := by
  unfold State.ceStop
  repeat' first
    | with_reducible exact .refl _ _ | with_reducible assumption | ((try lift_lets -underBinder); intro x; first
    | (refine Within.cut 30626811968 s x ?_ ?_; (on_goal 1 => unfold x); (on_goal 2 => (intro hx; clear_value x)))
    | clear_value x) | with_reducible apply Within.ite
    | (with_reducible apply Within.step (State.rngTest_in _ _); decide)
    | (with_reducible apply Within.step (State.ceStart_in _); decide)
    | (with_reducible apply Within.step (State.ceAbort_in _ _); decide)
    | (with_reducible apply Within.step (State.updSec_in _ _); decide)
    | (with_reducible apply Within.step (State.dropKey_in _); decide) | split | dsimp -zeta only

theorem State.logTamper_in (s a1 a2 a3) : Within 17179873344 s (State.logTamper s a1 a2 a3) := by
  unfold State.logTamper
  repeat' first
    | with_reducible exact .refl _ _ | with_reducible assumption 
    | (with_reducible apply Within.step (State.logKind_in _ _ _); decide)

theorem State.tamperAct_in (s a1 a2) : Within 99857715520 s (State.tamperAct s a1 a2) := by
  unfold State.tamperAct
  repeat' first
    | with_reducible exact .refl _ _ | with_reducible assumption | ((try lift_lets -underBinder); intro x; first
    | (refine Within.cut 99857715520 s x ?_ ?_; (on_goal 1 => unfold x); (on_goal 2 => (intro hx; clear_value x)))
    | clear_value x) | with_reducible apply Within.ite
    | (with_reducible apply Within.step (State.zeroize_in _ _); decide)
    | (with_reducible apply Within.step (State.enterQuarantine_in _ _ _ _); decide)
    | (with_reducible apply Within.step (State.updSec_in _ _); decide) | split

theorem State.tamperLate_in (s a1) : Within 99857715520 s (State.tamperLate s a1) := by
  induction a1 generalizing s with
  | nil => exact .refl _ _
  | cons x l ih =>
    unfold State.tamperLate
    try dsimp -zeta only
    repeat' first
      | with_reducible exact .refl _ _ | with_reducible assumption
      | ((try lift_lets -underBinder); intro x; first
      | (refine Within.cut 99857715520 s x ?_ ?_; (on_goal 1 => unfold x); (on_goal 2 => (intro hx; clear_value x)))
      | clear_value x)  | (with_reducible apply Within.step (State.evSec_in _ _); decide)
      | (with_reducible apply Within.step (State.cnt_in _ _); decide)
      | (with_reducible apply Within.step (State.tamperAct_in _ _ _); decide)
      | (with_reducible apply Within.step (ih _); decide) | split | dsimp -zeta only

theorem State.secRelease_in (s) : Within 99857715520 s (State.secRelease s) := by
  unfold State.secRelease
  repeat' first
    | with_reducible exact .refl _ _ | with_reducible assumption | ((try lift_lets -underBinder); intro x; first
    | (refine Within.cut 99857715520 s x ?_ ?_; (on_goal 1 => unfold x); (on_goal 2 => (intro hx; clear_value x)))
    | clear_value x) | with_reducible apply Within.ite
    | (with_reducible apply Within.step (State.setFld_in _ _ _ _); decide)
    | (with_reducible apply Within.step (State.rngTest_in _ _); decide)
    | (with_reducible apply Within.step (State.tamperLate_in _ _); decide)
    | (with_reducible apply Within.step (State.updSec_in _ _); decide) | split

theorem State.seeFuseV_in (s a1) : Within 64 s (State.seeFuseV s a1) := by
  unfold State.seeFuseV
  repeat' first
    | with_reducible exact .refl _ _ | with_reducible assumption | with_reducible apply Within.ite
    | (with_reducible apply Within.step (State.setFld_in _ _ _ _); decide) | split

theorem State.tamperActs_in (s a1) : Within 99857715520 s (State.tamperActs s a1) := by
  induction a1 generalizing s with
  | nil => exact .refl _ _
  | cons x l ih =>
    unfold State.tamperActs
    try dsimp -zeta only
    repeat' first
      | with_reducible exact .refl _ _ | with_reducible assumption 
      | (with_reducible apply Within.step (State.tamperAct_in _ _ _); decide)
      | (with_reducible apply Within.step (ih _); decide) | split | dsimp -zeta only

theorem State.tamperLatch_in (s a1) : Within 17179869248 s (State.tamperLatch s a1) := by
  unfold State.tamperLatch
  repeat' first
    | with_reducible exact .refl _ _ | with_reducible assumption | ((try lift_lets -underBinder); intro x; first
    | (refine Within.cut 17179869248 s x ?_ ?_; (on_goal 1 => unfold x); (on_goal 2 => (intro hx; clear_value x)))
    | clear_value x)  | (with_reducible apply Within.step (State.setFld_in _ _ _ _); decide)
    | (with_reducible apply Within.step (State.setBitsOf_in _ _ _); decide)

theorem execDrbgInstantiated_in (s) : WithinR 26315067456 s (execDrbgInstantiated s) := by
  unfold execDrbgInstantiated
  repeat' first
    | with_reducible exact .refl _ _ | with_reducible assumption | ((try lift_lets -underBinder); intro x; first
    | (refine Within.cut 26315067456 s x ?_ ?_; (on_goal 1 => unfold x); (on_goal 2 => (intro hx; clear_value x)))
    | clear_value x) | with_reducible apply Within.ite | with_reducible refine Within.next ?_
    | with_reducible exact WithinR.fault _ _ _ | with_reducible apply WithinR.ite
    | (with_reducible apply Within.step (State.setFld_in _ _ _ _); decide)
    | (with_reducible apply Within.step (State.updSec_in _ _); decide)
    | (with_reducible apply Within.step (State.newNonce_in _); decide)
    | (with_reducible apply Within.step (State.evSec_in _ _); decide) | split

theorem execDrbgReseed_in (s) : WithinR 536870912 s (execDrbgReseed s) := by
  unfold execDrbgReseed
  repeat' first
    | with_reducible exact .refl _ _ | with_reducible assumption | with_reducible apply Within.ite
    | with_reducible refine Within.next ?_ | with_reducible exact WithinR.fault _ _ _
    | with_reducible apply WithinR.ite | (with_reducible apply Within.step (State.updSec_in _ _); decide)
    | split

theorem execDrbgRestart_in (s) : WithinR 536870976 s (execDrbgRestart s) := by
  unfold execDrbgRestart
  repeat' first
    | with_reducible exact .refl _ _ | with_reducible assumption | ((try lift_lets -underBinder); intro x; first
    | (refine Within.cut 536870976 s x ?_ ?_; (on_goal 1 => unfold x); (on_goal 2 => (intro hx; clear_value x)))
    | clear_value x) | with_reducible apply Within.ite | with_reducible refine Within.next ?_
    | with_reducible exact WithinR.fault _ _ _ | with_reducible apply WithinR.ite
    | (with_reducible apply Within.step (State.rngTest_in _ _); decide)
    | (with_reducible apply Within.step (State.setFld_in _ _ _ _); decide) | split

theorem execNoiseHealthFailure_in (a0 s a2) : WithinR 30626811968 s (execNoiseHealthFailure a0 s a2) := by
  unfold execNoiseHealthFailure
  repeat' first
    | with_reducible exact .refl _ _ | with_reducible assumption | ((try lift_lets -underBinder); intro x; first
    | (refine Within.cut 30626811968 s x ?_ ?_; (on_goal 1 => unfold x); (on_goal 2 => (intro hx; clear_value x)))
    | clear_value x) | with_reducible apply Within.ite | with_reducible refine Within.next ?_
    | with_reducible exact WithinR.fault _ _ _ | with_reducible apply WithinR.ite
    | (with_reducible apply Within.step (State.setFld_in _ _ _ _); decide)
    | (with_reducible apply Within.step (State.updSec_in _ _); decide)
    | (with_reducible apply Within.step (State.cnt_in _ _); decide)
    | (with_reducible apply Within.step (State.evSec_in _ _); decide)
    | (with_reducible apply Within.step (State.entropyFaults_in _); decide) | split

theorem execSecRngCtrlRetry_in (s) : WithinR 536870976 s (execSecRngCtrlRetry s) := by
  unfold execSecRngCtrlRetry
  repeat' first
    | with_reducible exact .refl _ _ | with_reducible assumption | with_reducible apply Within.ite
    | with_reducible refine Within.next ?_ | with_reducible exact WithinR.fault _ _ _
    | with_reducible apply WithinR.ite | (with_reducible apply Within.step (State.rngRetry_in _); decide)
    | split

theorem execTamperTrip_in (a0 a1 s) : WithinR 99857715520 s (execTamperTrip a0 a1 s) := by
  unfold execTamperTrip
  repeat' first
    | with_reducible exact .refl _ _ | with_reducible assumption | ((try lift_lets -underBinder); intro x; first
    | (refine Within.cut 99857715520 s x ?_ ?_; (on_goal 1 => unfold x); (on_goal 2 => (intro hx; clear_value x)))
    | clear_value x) | with_reducible apply Within.ite | with_reducible refine Within.next ?_
    | with_reducible exact WithinR.fault _ _ _ | with_reducible apply WithinR.ite
    | (with_reducible apply Within.step (State.tamperLatch_in _ _); decide)
    | (with_reducible apply Within.step (State.cnt_in _ _); decide)
    | (with_reducible apply Within.step (State.seeFuseV_in _ _); decide)
    | (with_reducible apply Within.step (State.logTamper_in _ _ _ _); decide)
    | (with_reducible apply Within.step (State.evSec_in _ _); decide)
    | (with_reducible apply Within.step (State.raiseWake_in _ _ _); decide)
    | (with_reducible apply Within.step (State.updSec_in _ _); decide)
    | (with_reducible apply Within.step (State.ceStop_in _); decide)
    | (with_reducible apply Within.step (State.tamperAct_in _ _ _); decide) | split

end Sys2Proof.Machine
end

