-- ==== Sys2Proof/Laws/Blocks.lean ====
section
/-! SUPPORT. What the shared operations of the blocks leave: one lemma for each field. -/

namespace Sys2Proof.Machine

@[simp] theorem State.evPw_pending (s a1) : (State.evPw s a1).pending = s.pending := (State.evPw_in ..).same .pending rfl
@[simp] theorem State.evPw_ticks (s a1) : (State.evPw s a1).ticks = s.ticks := (State.evPw_in ..).same .ticks rfl
@[simp] theorem State.evPw_aon (s a1) : (State.evPw s a1).aon = s.aon := (State.evPw_in ..).same .aon rfl
@[simp] theorem State.evPw_aonLeft (s a1) : (State.evPw s a1).aonLeft = s.aonLeft := (State.evPw_in ..).same .aonLeft rfl
@[simp] theorem State.evPw_core (s a1) : (State.evPw s a1).core = s.core := (State.evPw_in ..).same .core rfl
@[simp] theorem State.evPw_coreQ (s a1) : (State.evPw s a1).coreQ = s.coreQ := (State.evPw_in ..).same .coreQ rfl
@[simp] theorem State.evPw_gen (s a1) : (State.evPw s a1).gen = s.gen := (State.evPw_in ..).same .gen rfl
@[simp] theorem State.evPw_staged (s a1) : (State.evPw s a1).staged = s.staged := (State.evPw_in ..).same .staged rfl
@[simp] theorem State.evPw_latches (s a1) : (State.evPw s a1).latches = s.latches := (State.evPw_in ..).same .latches rfl
@[simp] theorem State.evPw_heldWr (s a1) : (State.evPw s a1).heldWr = s.heldWr := (State.evPw_in ..).same .heldWr rfl
@[simp] theorem State.evPw_tk (s a1) : (State.evPw s a1).tk = s.tk := (State.evPw_in ..).same .tk rfl
@[simp] theorem State.evPw_calBad (s a1) : (State.evPw s a1).calBad = s.calBad := (State.evPw_in ..).same .calBad rfl
@[simp] theorem State.evPw_pails (s a1) : (State.evPw s a1).pails = s.pails := (State.evPw_in ..).same .pails rfl
@[simp] theorem State.evPw_banks (s a1) : (State.evPw s a1).banks = s.banks := (State.evPw_in ..).same .banks rfl
@[simp] theorem State.evPw_repairDue (s a1) : (State.evPw s a1).repairDue = s.repairDue :=
  (State.evPw_in ..).same .repairDue rfl
@[simp] theorem State.evPw_units (s a1) : (State.evPw s a1).units = s.units := (State.evPw_in ..).same .units rfl
@[simp] theorem State.evPw_groups (s a1) : (State.evPw s a1).groups = s.groups := (State.evPw_in ..).same .groups rfl
@[simp] theorem State.evPw_spares (s a1) : (State.evPw s a1).spares = s.spares := (State.evPw_in ..).same .spares rfl
@[simp] theorem State.evPw_chans (s a1) : (State.evPw s a1).chans = s.chans := (State.evPw_in ..).same .chans rfl
@[simp] theorem State.evPw_slices (s a1) : (State.evPw s a1).slices = s.slices := (State.evPw_in ..).same .slices rfl
@[simp] theorem State.evPw_ports (s a1) : (State.evPw s a1).ports = s.ports := (State.evPw_in ..).same .ports rfl
@[simp] theorem State.evPw_um (s a1) : (State.evPw s a1).um = s.um := (State.evPw_in ..).same .um rfl
@[simp] theorem State.evPw_pw (s a1) : (State.evPw s a1).pw = s.pw := (State.evPw_in ..).same .pw rfl
@[simp] theorem State.evPw_rs (s a1) : (State.evPw s a1).rs = s.rs := (State.evPw_in ..).same .rs rfl
@[simp] theorem State.evPw_cl (s a1) : (State.evPw s a1).cl = s.cl := (State.evPw_in ..).same .cl rfl
@[simp] theorem State.evPw_tw (s a1) : (State.evPw s a1).tw = s.tw := (State.evPw_in ..).same .tw rfl
@[simp] theorem State.evPw_sec (s a1) : (State.evPw s a1).sec = s.sec := (State.evPw_in ..).same .sec rfl
@[simp] theorem State.evPw_flash (s a1) : (State.evPw s a1).flash = s.flash := (State.evPw_in ..).same .flash rfl
@[simp] theorem State.evPw_image (s a1) : (State.evPw s a1).image = s.image := (State.evPw_in ..).same .image rfl
@[simp] theorem State.evPw_fresh (s a1) : (State.evPw s a1).fresh = s.fresh := (State.evPw_in ..).same .fresh rfl
@[simp] theorem State.evPw_eg (s a1) : (State.evPw s a1).eg = s.eg := (State.evPw_in ..).same .eg rfl
@[simp] theorem State.evPw_calDue (s a1) : (State.evPw s a1).calDue = s.calDue := (State.evPw_in ..).same .calDue rfl
@[simp] theorem State.post_pending (s a1) : (State.post s a1).pending = s.pending := (State.post_in ..).same .pending rfl
@[simp] theorem State.post_ticks (s a1) : (State.post s a1).ticks = s.ticks := (State.post_in ..).same .ticks rfl
@[simp] theorem State.post_aon (s a1) : (State.post s a1).aon = s.aon := (State.post_in ..).same .aon rfl
@[simp] theorem State.post_aonLeft (s a1) : (State.post s a1).aonLeft = s.aonLeft := (State.post_in ..).same .aonLeft rfl
@[simp] theorem State.post_core (s a1) : (State.post s a1).core = s.core := (State.post_in ..).same .core rfl
@[simp] theorem State.post_coreQ (s a1) : (State.post s a1).coreQ = s.coreQ := (State.post_in ..).same .coreQ rfl
@[simp] theorem State.post_regs (s a1) : (State.post s a1).regs = s.regs := (State.post_in ..).same .regs rfl
@[simp] theorem State.post_gen (s a1) : (State.post s a1).gen = s.gen := (State.post_in ..).same .gen rfl
@[simp] theorem State.post_staged (s a1) : (State.post s a1).staged = s.staged := (State.post_in ..).same .staged rfl
@[simp] theorem State.post_latches (s a1) : (State.post s a1).latches = s.latches := (State.post_in ..).same .latches rfl
@[simp] theorem State.post_heldWr (s a1) : (State.post s a1).heldWr = s.heldWr := (State.post_in ..).same .heldWr rfl
@[simp] theorem State.post_tk (s a1) : (State.post s a1).tk = s.tk := (State.post_in ..).same .tk rfl
@[simp] theorem State.post_log (s a1) : (State.post s a1).log = s.log := (State.post_in ..).same .log rfl
@[simp] theorem State.post_calBad (s a1) : (State.post s a1).calBad = s.calBad := (State.post_in ..).same .calBad rfl
@[simp] theorem State.post_pails (s a1) : (State.post s a1).pails = s.pails := (State.post_in ..).same .pails rfl
@[simp] theorem State.post_banks (s a1) : (State.post s a1).banks = s.banks := (State.post_in ..).same .banks rfl
@[simp] theorem State.post_repairDue (s a1) : (State.post s a1).repairDue = s.repairDue :=
  (State.post_in ..).same .repairDue rfl
@[simp] theorem State.post_units (s a1) : (State.post s a1).units = s.units := (State.post_in ..).same .units rfl
@[simp] theorem State.post_groups (s a1) : (State.post s a1).groups = s.groups := (State.post_in ..).same .groups rfl
@[simp] theorem State.post_spares (s a1) : (State.post s a1).spares = s.spares := (State.post_in ..).same .spares rfl
@[simp] theorem State.post_chans (s a1) : (State.post s a1).chans = s.chans := (State.post_in ..).same .chans rfl
@[simp] theorem State.post_slices (s a1) : (State.post s a1).slices = s.slices := (State.post_in ..).same .slices rfl
@[simp] theorem State.post_ports (s a1) : (State.post s a1).ports = s.ports := (State.post_in ..).same .ports rfl
@[simp] theorem State.post_links (s a1) : (State.post s a1).links = s.links := (State.post_in ..).same .links rfl
@[simp] theorem State.post_pw (s a1) : (State.post s a1).pw = s.pw := (State.post_in ..).same .pw rfl
@[simp] theorem State.post_rs (s a1) : (State.post s a1).rs = s.rs := (State.post_in ..).same .rs rfl
@[simp] theorem State.post_cl (s a1) : (State.post s a1).cl = s.cl := (State.post_in ..).same .cl rfl
@[simp] theorem State.post_tw (s a1) : (State.post s a1).tw = s.tw := (State.post_in ..).same .tw rfl
@[simp] theorem State.post_sec (s a1) : (State.post s a1).sec = s.sec := (State.post_in ..).same .sec rfl
@[simp] theorem State.post_flash (s a1) : (State.post s a1).flash = s.flash := (State.post_in ..).same .flash rfl
@[simp] theorem State.post_image (s a1) : (State.post s a1).image = s.image := (State.post_in ..).same .image rfl
@[simp] theorem State.post_fresh (s a1) : (State.post s a1).fresh = s.fresh := (State.post_in ..).same .fresh rfl
@[simp] theorem State.post_out (s a1) : (State.post s a1).out = s.out := (State.post_in ..).same .out rfl
@[simp] theorem State.post_hot (s a1) : (State.post s a1).hot = s.hot := (State.post_in ..).same .hot rfl
@[simp] theorem State.post_eg (s a1) : (State.post s a1).eg = s.eg := (State.post_in ..).same .eg rfl
@[simp] theorem State.post_calDue (s a1) : (State.post s a1).calDue = s.calDue := (State.post_in ..).same .calDue rfl
@[simp] theorem State.accepted_pending (s a1 a2 a3) : (State.accepted s a1 a2 a3).pending = s.pending :=
  (State.accepted_in ..).same .pending rfl
@[simp] theorem State.accepted_ticks (s a1 a2 a3) : (State.accepted s a1 a2 a3).ticks = s.ticks :=
  (State.accepted_in ..).same .ticks rfl
@[simp] theorem State.accepted_aon (s a1 a2 a3) : (State.accepted s a1 a2 a3).aon = s.aon :=
  (State.accepted_in ..).same .aon rfl
@[simp] theorem State.accepted_aonLeft (s a1 a2 a3) : (State.accepted s a1 a2 a3).aonLeft = s.aonLeft :=
  (State.accepted_in ..).same .aonLeft rfl
@[simp] theorem State.accepted_core (s a1 a2 a3) : (State.accepted s a1 a2 a3).core = s.core :=
  (State.accepted_in ..).same .core rfl
@[simp] theorem State.accepted_coreQ (s a1 a2 a3) : (State.accepted s a1 a2 a3).coreQ = s.coreQ :=
  (State.accepted_in ..).same .coreQ rfl
@[simp] theorem State.accepted_regs (s a1 a2 a3) : (State.accepted s a1 a2 a3).regs = s.regs :=
  (State.accepted_in ..).same .regs rfl
@[simp] theorem State.accepted_gen (s a1 a2 a3) : (State.accepted s a1 a2 a3).gen = s.gen :=
  (State.accepted_in ..).same .gen rfl
@[simp] theorem State.accepted_staged (s a1 a2 a3) : (State.accepted s a1 a2 a3).staged = s.staged :=
  (State.accepted_in ..).same .staged rfl
@[simp] theorem State.accepted_latches (s a1 a2 a3) : (State.accepted s a1 a2 a3).latches = s.latches :=
  (State.accepted_in ..).same .latches rfl
@[simp] theorem State.accepted_heldWr (s a1 a2 a3) : (State.accepted s a1 a2 a3).heldWr = s.heldWr :=
  (State.accepted_in ..).same .heldWr rfl
@[simp] theorem State.accepted_tk (s a1 a2 a3) : (State.accepted s a1 a2 a3).tk = s.tk := (State.accepted_in ..).same .tk rfl
@[simp] theorem State.accepted_log (s a1 a2 a3) : (State.accepted s a1 a2 a3).log = s.log :=
  (State.accepted_in ..).same .log rfl
@[simp] theorem State.accepted_calBad (s a1 a2 a3) : (State.accepted s a1 a2 a3).calBad = s.calBad :=
  (State.accepted_in ..).same .calBad rfl
@[simp] theorem State.accepted_pails (s a1 a2 a3) : (State.accepted s a1 a2 a3).pails = s.pails :=
  (State.accepted_in ..).same .pails rfl
@[simp] theorem State.accepted_banks (s a1 a2 a3) : (State.accepted s a1 a2 a3).banks = s.banks :=
  (State.accepted_in ..).same .banks rfl
@[simp] theorem State.accepted_repairDue (s a1 a2 a3) : (State.accepted s a1 a2 a3).repairDue = s.repairDue :=
  (State.accepted_in ..).same .repairDue rfl
@[simp] theorem State.accepted_units (s a1 a2 a3) : (State.accepted s a1 a2 a3).units = s.units :=
  (State.accepted_in ..).same .units rfl
@[simp] theorem State.accepted_groups (s a1 a2 a3) : (State.accepted s a1 a2 a3).groups = s.groups :=
  (State.accepted_in ..).same .groups rfl
@[simp] theorem State.accepted_spares (s a1 a2 a3) : (State.accepted s a1 a2 a3).spares = s.spares :=
  (State.accepted_in ..).same .spares rfl
@[simp] theorem State.accepted_chans (s a1 a2 a3) : (State.accepted s a1 a2 a3).chans = s.chans :=
  (State.accepted_in ..).same .chans rfl
@[simp] theorem State.accepted_slices (s a1 a2 a3) : (State.accepted s a1 a2 a3).slices = s.slices :=
  (State.accepted_in ..).same .slices rfl
@[simp] theorem State.accepted_ports (s a1 a2 a3) : (State.accepted s a1 a2 a3).ports = s.ports :=
  (State.accepted_in ..).same .ports rfl
@[simp] theorem State.accepted_links (s a1 a2 a3) : (State.accepted s a1 a2 a3).links = s.links :=
  (State.accepted_in ..).same .links rfl
@[simp] theorem State.accepted_pw (s a1 a2 a3) : (State.accepted s a1 a2 a3).pw = s.pw := (State.accepted_in ..).same .pw rfl
@[simp] theorem State.accepted_rs (s a1 a2 a3) : (State.accepted s a1 a2 a3).rs = s.rs := (State.accepted_in ..).same .rs rfl
@[simp] theorem State.accepted_cl (s a1 a2 a3) : (State.accepted s a1 a2 a3).cl = s.cl := (State.accepted_in ..).same .cl rfl
@[simp] theorem State.accepted_tw (s a1 a2 a3) : (State.accepted s a1 a2 a3).tw = s.tw := (State.accepted_in ..).same .tw rfl
@[simp] theorem State.accepted_sec (s a1 a2 a3) : (State.accepted s a1 a2 a3).sec = s.sec :=
  (State.accepted_in ..).same .sec rfl
@[simp] theorem State.accepted_flash (s a1 a2 a3) : (State.accepted s a1 a2 a3).flash = s.flash :=
  (State.accepted_in ..).same .flash rfl
@[simp] theorem State.accepted_image (s a1 a2 a3) : (State.accepted s a1 a2 a3).image = s.image :=
  (State.accepted_in ..).same .image rfl
@[simp] theorem State.accepted_fresh (s a1 a2 a3) : (State.accepted s a1 a2 a3).fresh = s.fresh :=
  (State.accepted_in ..).same .fresh rfl
@[simp] theorem State.accepted_out (s a1 a2 a3) : (State.accepted s a1 a2 a3).out = s.out :=
  (State.accepted_in ..).same .out rfl
@[simp] theorem State.accepted_hot (s a1 a2 a3) : (State.accepted s a1 a2 a3).hot = s.hot :=
  (State.accepted_in ..).same .hot rfl
@[simp] theorem State.accepted_eg (s a1 a2 a3) : (State.accepted s a1 a2 a3).eg = s.eg := (State.accepted_in ..).same .eg rfl
@[simp] theorem State.accepted_calDue (s a1 a2 a3) : (State.accepted s a1 a2 a3).calDue = s.calDue :=
  (State.accepted_in ..).same .calDue rfl
@[simp] theorem State.accept_pending (s a1 a2 a3) : (State.accept s a1 a2 a3).pending = s.pending :=
  (State.accept_in ..).same .pending rfl
@[simp] theorem State.accept_ticks (s a1 a2 a3) : (State.accept s a1 a2 a3).ticks = s.ticks :=
  (State.accept_in ..).same .ticks rfl
@[simp] theorem State.accept_aon (s a1 a2 a3) : (State.accept s a1 a2 a3).aon = s.aon := (State.accept_in ..).same .aon rfl
@[simp] theorem State.accept_aonLeft (s a1 a2 a3) : (State.accept s a1 a2 a3).aonLeft = s.aonLeft :=
  (State.accept_in ..).same .aonLeft rfl
@[simp] theorem State.accept_core (s a1 a2 a3) : (State.accept s a1 a2 a3).core = s.core :=
  (State.accept_in ..).same .core rfl
@[simp] theorem State.accept_coreQ (s a1 a2 a3) : (State.accept s a1 a2 a3).coreQ = s.coreQ :=
  (State.accept_in ..).same .coreQ rfl
@[simp] theorem State.accept_regs (s a1 a2 a3) : (State.accept s a1 a2 a3).regs = s.regs :=
  (State.accept_in ..).same .regs rfl
@[simp] theorem State.accept_gen (s a1 a2 a3) : (State.accept s a1 a2 a3).gen = s.gen := (State.accept_in ..).same .gen rfl
@[simp] theorem State.accept_staged (s a1 a2 a3) : (State.accept s a1 a2 a3).staged = s.staged :=
  (State.accept_in ..).same .staged rfl
@[simp] theorem State.accept_latches (s a1 a2 a3) : (State.accept s a1 a2 a3).latches = s.latches :=
  (State.accept_in ..).same .latches rfl
@[simp] theorem State.accept_heldWr (s a1 a2 a3) : (State.accept s a1 a2 a3).heldWr = s.heldWr :=
  (State.accept_in ..).same .heldWr rfl
@[simp] theorem State.accept_tk (s a1 a2 a3) : (State.accept s a1 a2 a3).tk = s.tk := (State.accept_in ..).same .tk rfl
@[simp] theorem State.accept_log (s a1 a2 a3) : (State.accept s a1 a2 a3).log = s.log := (State.accept_in ..).same .log rfl
@[simp] theorem State.accept_calBad (s a1 a2 a3) : (State.accept s a1 a2 a3).calBad = s.calBad :=
  (State.accept_in ..).same .calBad rfl
@[simp] theorem State.accept_pails (s a1 a2 a3) : (State.accept s a1 a2 a3).pails = s.pails :=
  (State.accept_in ..).same .pails rfl
@[simp] theorem State.accept_banks (s a1 a2 a3) : (State.accept s a1 a2 a3).banks = s.banks :=
  (State.accept_in ..).same .banks rfl
@[simp] theorem State.accept_repairDue (s a1 a2 a3) : (State.accept s a1 a2 a3).repairDue = s.repairDue :=
  (State.accept_in ..).same .repairDue rfl
@[simp] theorem State.accept_units (s a1 a2 a3) : (State.accept s a1 a2 a3).units = s.units :=
  (State.accept_in ..).same .units rfl
@[simp] theorem State.accept_groups (s a1 a2 a3) : (State.accept s a1 a2 a3).groups = s.groups :=
  (State.accept_in ..).same .groups rfl
@[simp] theorem State.accept_spares (s a1 a2 a3) : (State.accept s a1 a2 a3).spares = s.spares :=
  (State.accept_in ..).same .spares rfl
@[simp] theorem State.accept_chans (s a1 a2 a3) : (State.accept s a1 a2 a3).chans = s.chans :=
  (State.accept_in ..).same .chans rfl
@[simp] theorem State.accept_slices (s a1 a2 a3) : (State.accept s a1 a2 a3).slices = s.slices :=
  (State.accept_in ..).same .slices rfl
@[simp] theorem State.accept_ports (s a1 a2 a3) : (State.accept s a1 a2 a3).ports = s.ports :=
  (State.accept_in ..).same .ports rfl
@[simp] theorem State.accept_links (s a1 a2 a3) : (State.accept s a1 a2 a3).links = s.links :=
  (State.accept_in ..).same .links rfl
@[simp] theorem State.accept_pw (s a1 a2 a3) : (State.accept s a1 a2 a3).pw = s.pw := (State.accept_in ..).same .pw rfl
@[simp] theorem State.accept_rs (s a1 a2 a3) : (State.accept s a1 a2 a3).rs = s.rs := (State.accept_in ..).same .rs rfl
@[simp] theorem State.accept_cl (s a1 a2 a3) : (State.accept s a1 a2 a3).cl = s.cl := (State.accept_in ..).same .cl rfl
@[simp] theorem State.accept_tw (s a1 a2 a3) : (State.accept s a1 a2 a3).tw = s.tw := (State.accept_in ..).same .tw rfl
@[simp] theorem State.accept_sec (s a1 a2 a3) : (State.accept s a1 a2 a3).sec = s.sec := (State.accept_in ..).same .sec rfl
@[simp] theorem State.accept_flash (s a1 a2 a3) : (State.accept s a1 a2 a3).flash = s.flash :=
  (State.accept_in ..).same .flash rfl
@[simp] theorem State.accept_image (s a1 a2 a3) : (State.accept s a1 a2 a3).image = s.image :=
  (State.accept_in ..).same .image rfl
@[simp] theorem State.accept_fresh (s a1 a2 a3) : (State.accept s a1 a2 a3).fresh = s.fresh :=
  (State.accept_in ..).same .fresh rfl
@[simp] theorem State.accept_out (s a1 a2 a3) : (State.accept s a1 a2 a3).out = s.out := (State.accept_in ..).same .out rfl
@[simp] theorem State.accept_hot (s a1 a2 a3) : (State.accept s a1 a2 a3).hot = s.hot := (State.accept_in ..).same .hot rfl
@[simp] theorem State.accept_eg (s a1 a2 a3) : (State.accept s a1 a2 a3).eg = s.eg := (State.accept_in ..).same .eg rfl
@[simp] theorem State.accept_calDue (s a1 a2 a3) : (State.accept s a1 a2 a3).calDue = s.calDue :=
  (State.accept_in ..).same .calDue rfl
@[simp] theorem State.logInternal_pending (s a1) : (State.logInternal s a1).pending = s.pending :=
  (State.logInternal_in ..).same .pending rfl
@[simp] theorem State.logInternal_ticks (s a1) : (State.logInternal s a1).ticks = s.ticks :=
  (State.logInternal_in ..).same .ticks rfl
@[simp] theorem State.logInternal_aon (s a1) : (State.logInternal s a1).aon = s.aon := (State.logInternal_in ..).same .aon rfl
@[simp] theorem State.logInternal_aonLeft (s a1) : (State.logInternal s a1).aonLeft = s.aonLeft :=
  (State.logInternal_in ..).same .aonLeft rfl
@[simp] theorem State.logInternal_core (s a1) : (State.logInternal s a1).core = s.core :=
  (State.logInternal_in ..).same .core rfl
@[simp] theorem State.logInternal_coreQ (s a1) : (State.logInternal s a1).coreQ = s.coreQ :=
  (State.logInternal_in ..).same .coreQ rfl
@[simp] theorem State.logInternal_gen (s a1) : (State.logInternal s a1).gen = s.gen := (State.logInternal_in ..).same .gen rfl
@[simp] theorem State.logInternal_staged (s a1) : (State.logInternal s a1).staged = s.staged :=
  (State.logInternal_in ..).same .staged rfl
@[simp] theorem State.logInternal_latches (s a1) : (State.logInternal s a1).latches = s.latches :=
  (State.logInternal_in ..).same .latches rfl
@[simp] theorem State.logInternal_heldWr (s a1) : (State.logInternal s a1).heldWr = s.heldWr :=
  (State.logInternal_in ..).same .heldWr rfl
@[simp] theorem State.logInternal_tk (s a1) : (State.logInternal s a1).tk = s.tk := (State.logInternal_in ..).same .tk rfl
@[simp] theorem State.logInternal_calBad (s a1) : (State.logInternal s a1).calBad = s.calBad :=
  (State.logInternal_in ..).same .calBad rfl
@[simp] theorem State.logInternal_pails (s a1) : (State.logInternal s a1).pails = s.pails :=
  (State.logInternal_in ..).same .pails rfl
@[simp] theorem State.logInternal_banks (s a1) : (State.logInternal s a1).banks = s.banks :=
  (State.logInternal_in ..).same .banks rfl
@[simp] theorem State.logInternal_repairDue (s a1) : (State.logInternal s a1).repairDue = s.repairDue :=
  (State.logInternal_in ..).same .repairDue rfl
@[simp] theorem State.logInternal_units (s a1) : (State.logInternal s a1).units = s.units :=
  (State.logInternal_in ..).same .units rfl
@[simp] theorem State.logInternal_groups (s a1) : (State.logInternal s a1).groups = s.groups :=
  (State.logInternal_in ..).same .groups rfl
@[simp] theorem State.logInternal_spares (s a1) : (State.logInternal s a1).spares = s.spares :=
  (State.logInternal_in ..).same .spares rfl
@[simp] theorem State.logInternal_chans (s a1) : (State.logInternal s a1).chans = s.chans :=
  (State.logInternal_in ..).same .chans rfl
@[simp] theorem State.logInternal_slices (s a1) : (State.logInternal s a1).slices = s.slices :=
  (State.logInternal_in ..).same .slices rfl
@[simp] theorem State.logInternal_ports (s a1) : (State.logInternal s a1).ports = s.ports :=
  (State.logInternal_in ..).same .ports rfl
@[simp] theorem State.logInternal_links (s a1) : (State.logInternal s a1).links = s.links :=
  (State.logInternal_in ..).same .links rfl
@[simp] theorem State.logInternal_um (s a1) : (State.logInternal s a1).um = s.um := (State.logInternal_in ..).same .um rfl
@[simp] theorem State.logInternal_pw (s a1) : (State.logInternal s a1).pw = s.pw := (State.logInternal_in ..).same .pw rfl
@[simp] theorem State.logInternal_rs (s a1) : (State.logInternal s a1).rs = s.rs := (State.logInternal_in ..).same .rs rfl
@[simp] theorem State.logInternal_cl (s a1) : (State.logInternal s a1).cl = s.cl := (State.logInternal_in ..).same .cl rfl
@[simp] theorem State.logInternal_tw (s a1) : (State.logInternal s a1).tw = s.tw := (State.logInternal_in ..).same .tw rfl
@[simp] theorem State.logInternal_sec (s a1) : (State.logInternal s a1).sec = s.sec := (State.logInternal_in ..).same .sec rfl
@[simp] theorem State.logInternal_flash (s a1) : (State.logInternal s a1).flash = s.flash :=
  (State.logInternal_in ..).same .flash rfl
@[simp] theorem State.logInternal_image (s a1) : (State.logInternal s a1).image = s.image :=
  (State.logInternal_in ..).same .image rfl
@[simp] theorem State.logInternal_out (s a1) : (State.logInternal s a1).out = s.out := (State.logInternal_in ..).same .out rfl
@[simp] theorem State.logInternal_eg (s a1) : (State.logInternal s a1).eg = s.eg := (State.logInternal_in ..).same .eg rfl
@[simp] theorem State.logInternal_calDue (s a1) : (State.logInternal s a1).calDue = s.calDue :=
  (State.logInternal_in ..).same .calDue rfl
@[simp] theorem State.final_pending (s a1 a2 a3 a4 a5) : (State.final s a1 a2 a3 a4 a5).pending = s.pending :=
  (State.final_in ..).same .pending rfl
@[simp] theorem State.final_ticks (s a1 a2 a3 a4 a5) : (State.final s a1 a2 a3 a4 a5).ticks = s.ticks :=
  (State.final_in ..).same .ticks rfl
@[simp] theorem State.final_aon (s a1 a2 a3 a4 a5) : (State.final s a1 a2 a3 a4 a5).aon = s.aon :=
  (State.final_in ..).same .aon rfl
@[simp] theorem State.final_aonLeft (s a1 a2 a3 a4 a5) : (State.final s a1 a2 a3 a4 a5).aonLeft = s.aonLeft :=
  (State.final_in ..).same .aonLeft rfl
@[simp] theorem State.final_core (s a1 a2 a3 a4 a5) : (State.final s a1 a2 a3 a4 a5).core = s.core :=
  (State.final_in ..).same .core rfl
@[simp] theorem State.final_coreQ (s a1 a2 a3 a4 a5) : (State.final s a1 a2 a3 a4 a5).coreQ = s.coreQ :=
  (State.final_in ..).same .coreQ rfl
@[simp] theorem State.final_gen (s a1 a2 a3 a4 a5) : (State.final s a1 a2 a3 a4 a5).gen = s.gen :=
  (State.final_in ..).same .gen rfl
@[simp] theorem State.final_staged (s a1 a2 a3 a4 a5) : (State.final s a1 a2 a3 a4 a5).staged = s.staged :=
  (State.final_in ..).same .staged rfl
@[simp] theorem State.final_latches (s a1 a2 a3 a4 a5) : (State.final s a1 a2 a3 a4 a5).latches = s.latches :=
  (State.final_in ..).same .latches rfl
@[simp] theorem State.final_heldWr (s a1 a2 a3 a4 a5) : (State.final s a1 a2 a3 a4 a5).heldWr = s.heldWr :=
  (State.final_in ..).same .heldWr rfl
@[simp] theorem State.final_tk (s a1 a2 a3 a4 a5) : (State.final s a1 a2 a3 a4 a5).tk = s.tk :=
  (State.final_in ..).same .tk rfl
@[simp] theorem State.final_calBad (s a1 a2 a3 a4 a5) : (State.final s a1 a2 a3 a4 a5).calBad = s.calBad :=
  (State.final_in ..).same .calBad rfl
@[simp] theorem State.final_pails (s a1 a2 a3 a4 a5) : (State.final s a1 a2 a3 a4 a5).pails = s.pails :=
  (State.final_in ..).same .pails rfl
@[simp] theorem State.final_banks (s a1 a2 a3 a4 a5) : (State.final s a1 a2 a3 a4 a5).banks = s.banks :=
  (State.final_in ..).same .banks rfl
@[simp] theorem State.final_repairDue (s a1 a2 a3 a4 a5) : (State.final s a1 a2 a3 a4 a5).repairDue = s.repairDue :=
  (State.final_in ..).same .repairDue rfl
@[simp] theorem State.final_units (s a1 a2 a3 a4 a5) : (State.final s a1 a2 a3 a4 a5).units = s.units :=
  (State.final_in ..).same .units rfl
@[simp] theorem State.final_groups (s a1 a2 a3 a4 a5) : (State.final s a1 a2 a3 a4 a5).groups = s.groups :=
  (State.final_in ..).same .groups rfl
@[simp] theorem State.final_spares (s a1 a2 a3 a4 a5) : (State.final s a1 a2 a3 a4 a5).spares = s.spares :=
  (State.final_in ..).same .spares rfl
@[simp] theorem State.final_chans (s a1 a2 a3 a4 a5) : (State.final s a1 a2 a3 a4 a5).chans = s.chans :=
  (State.final_in ..).same .chans rfl
@[simp] theorem State.final_slices (s a1 a2 a3 a4 a5) : (State.final s a1 a2 a3 a4 a5).slices = s.slices :=
  (State.final_in ..).same .slices rfl
@[simp] theorem State.final_ports (s a1 a2 a3 a4 a5) : (State.final s a1 a2 a3 a4 a5).ports = s.ports :=
  (State.final_in ..).same .ports rfl
@[simp] theorem State.final_links (s a1 a2 a3 a4 a5) : (State.final s a1 a2 a3 a4 a5).links = s.links :=
  (State.final_in ..).same .links rfl
@[simp] theorem State.final_pw (s a1 a2 a3 a4 a5) : (State.final s a1 a2 a3 a4 a5).pw = s.pw :=
  (State.final_in ..).same .pw rfl
@[simp] theorem State.final_rs (s a1 a2 a3 a4 a5) : (State.final s a1 a2 a3 a4 a5).rs = s.rs :=
  (State.final_in ..).same .rs rfl
@[simp] theorem State.final_cl (s a1 a2 a3 a4 a5) : (State.final s a1 a2 a3 a4 a5).cl = s.cl :=
  (State.final_in ..).same .cl rfl
@[simp] theorem State.final_tw (s a1 a2 a3 a4 a5) : (State.final s a1 a2 a3 a4 a5).tw = s.tw :=
  (State.final_in ..).same .tw rfl
@[simp] theorem State.final_sec (s a1 a2 a3 a4 a5) : (State.final s a1 a2 a3 a4 a5).sec = s.sec :=
  (State.final_in ..).same .sec rfl
@[simp] theorem State.final_flash (s a1 a2 a3 a4 a5) : (State.final s a1 a2 a3 a4 a5).flash = s.flash :=
  (State.final_in ..).same .flash rfl
@[simp] theorem State.final_image (s a1 a2 a3 a4 a5) : (State.final s a1 a2 a3 a4 a5).image = s.image :=
  (State.final_in ..).same .image rfl
@[simp] theorem State.final_out (s a1 a2 a3 a4 a5) : (State.final s a1 a2 a3 a4 a5).out = s.out :=
  (State.final_in ..).same .out rfl
@[simp] theorem State.final_eg (s a1 a2 a3 a4 a5) : (State.final s a1 a2 a3 a4 a5).eg = s.eg :=
  (State.final_in ..).same .eg rfl
@[simp] theorem State.final_calDue (s a1 a2 a3 a4 a5) : (State.final s a1 a2 a3 a4 a5).calDue = s.calDue :=
  (State.final_in ..).same .calDue rfl
@[simp] theorem State.replyDet_pending (s a1 a2 a3 a4) : (State.replyDet s a1 a2 a3 a4).pending = s.pending :=
  (State.replyDet_in ..).same .pending rfl
@[simp] theorem State.replyDet_ticks (s a1 a2 a3 a4) : (State.replyDet s a1 a2 a3 a4).ticks = s.ticks :=
  (State.replyDet_in ..).same .ticks rfl
@[simp] theorem State.replyDet_aon (s a1 a2 a3 a4) : (State.replyDet s a1 a2 a3 a4).aon = s.aon :=
  (State.replyDet_in ..).same .aon rfl
@[simp] theorem State.replyDet_aonLeft (s a1 a2 a3 a4) : (State.replyDet s a1 a2 a3 a4).aonLeft = s.aonLeft :=
  (State.replyDet_in ..).same .aonLeft rfl
@[simp] theorem State.replyDet_core (s a1 a2 a3 a4) : (State.replyDet s a1 a2 a3 a4).core = s.core :=
  (State.replyDet_in ..).same .core rfl
@[simp] theorem State.replyDet_coreQ (s a1 a2 a3 a4) : (State.replyDet s a1 a2 a3 a4).coreQ = s.coreQ :=
  (State.replyDet_in ..).same .coreQ rfl
@[simp] theorem State.replyDet_regs (s a1 a2 a3 a4) : (State.replyDet s a1 a2 a3 a4).regs = s.regs :=
  (State.replyDet_in ..).same .regs rfl
@[simp] theorem State.replyDet_gen (s a1 a2 a3 a4) : (State.replyDet s a1 a2 a3 a4).gen = s.gen :=
  (State.replyDet_in ..).same .gen rfl
@[simp] theorem State.replyDet_staged (s a1 a2 a3 a4) : (State.replyDet s a1 a2 a3 a4).staged = s.staged :=
  (State.replyDet_in ..).same .staged rfl
@[simp] theorem State.replyDet_latches (s a1 a2 a3 a4) : (State.replyDet s a1 a2 a3 a4).latches = s.latches :=
  (State.replyDet_in ..).same .latches rfl
@[simp] theorem State.replyDet_heldWr (s a1 a2 a3 a4) : (State.replyDet s a1 a2 a3 a4).heldWr = s.heldWr :=
  (State.replyDet_in ..).same .heldWr rfl
@[simp] theorem State.replyDet_tk (s a1 a2 a3 a4) : (State.replyDet s a1 a2 a3 a4).tk = s.tk :=
  (State.replyDet_in ..).same .tk rfl
@[simp] theorem State.replyDet_log (s a1 a2 a3 a4) : (State.replyDet s a1 a2 a3 a4).log = s.log :=
  (State.replyDet_in ..).same .log rfl
@[simp] theorem State.replyDet_calBad (s a1 a2 a3 a4) : (State.replyDet s a1 a2 a3 a4).calBad = s.calBad :=
  (State.replyDet_in ..).same .calBad rfl
@[simp] theorem State.replyDet_pails (s a1 a2 a3 a4) : (State.replyDet s a1 a2 a3 a4).pails = s.pails :=
  (State.replyDet_in ..).same .pails rfl
@[simp] theorem State.replyDet_banks (s a1 a2 a3 a4) : (State.replyDet s a1 a2 a3 a4).banks = s.banks :=
  (State.replyDet_in ..).same .banks rfl
@[simp] theorem State.replyDet_repairDue (s a1 a2 a3 a4) : (State.replyDet s a1 a2 a3 a4).repairDue = s.repairDue :=
  (State.replyDet_in ..).same .repairDue rfl
@[simp] theorem State.replyDet_units (s a1 a2 a3 a4) : (State.replyDet s a1 a2 a3 a4).units = s.units :=
  (State.replyDet_in ..).same .units rfl
@[simp] theorem State.replyDet_groups (s a1 a2 a3 a4) : (State.replyDet s a1 a2 a3 a4).groups = s.groups :=
  (State.replyDet_in ..).same .groups rfl
@[simp] theorem State.replyDet_spares (s a1 a2 a3 a4) : (State.replyDet s a1 a2 a3 a4).spares = s.spares :=
  (State.replyDet_in ..).same .spares rfl
@[simp] theorem State.replyDet_chans (s a1 a2 a3 a4) : (State.replyDet s a1 a2 a3 a4).chans = s.chans :=
  (State.replyDet_in ..).same .chans rfl
@[simp] theorem State.replyDet_slices (s a1 a2 a3 a4) : (State.replyDet s a1 a2 a3 a4).slices = s.slices :=
  (State.replyDet_in ..).same .slices rfl
@[simp] theorem State.replyDet_ports (s a1 a2 a3 a4) : (State.replyDet s a1 a2 a3 a4).ports = s.ports :=
  (State.replyDet_in ..).same .ports rfl
@[simp] theorem State.replyDet_links (s a1 a2 a3 a4) : (State.replyDet s a1 a2 a3 a4).links = s.links :=
  (State.replyDet_in ..).same .links rfl
@[simp] theorem State.replyDet_pw (s a1 a2 a3 a4) : (State.replyDet s a1 a2 a3 a4).pw = s.pw :=
  (State.replyDet_in ..).same .pw rfl
@[simp] theorem State.replyDet_rs (s a1 a2 a3 a4) : (State.replyDet s a1 a2 a3 a4).rs = s.rs :=
  (State.replyDet_in ..).same .rs rfl
@[simp] theorem State.replyDet_cl (s a1 a2 a3 a4) : (State.replyDet s a1 a2 a3 a4).cl = s.cl :=
  (State.replyDet_in ..).same .cl rfl
@[simp] theorem State.replyDet_tw (s a1 a2 a3 a4) : (State.replyDet s a1 a2 a3 a4).tw = s.tw :=
  (State.replyDet_in ..).same .tw rfl
@[simp] theorem State.replyDet_sec (s a1 a2 a3 a4) : (State.replyDet s a1 a2 a3 a4).sec = s.sec :=
  (State.replyDet_in ..).same .sec rfl
@[simp] theorem State.replyDet_flash (s a1 a2 a3 a4) : (State.replyDet s a1 a2 a3 a4).flash = s.flash :=
  (State.replyDet_in ..).same .flash rfl
@[simp] theorem State.replyDet_image (s a1 a2 a3 a4) : (State.replyDet s a1 a2 a3 a4).image = s.image :=
  (State.replyDet_in ..).same .image rfl
@[simp] theorem State.replyDet_fresh (s a1 a2 a3 a4) : (State.replyDet s a1 a2 a3 a4).fresh = s.fresh :=
  (State.replyDet_in ..).same .fresh rfl
@[simp] theorem State.replyDet_out (s a1 a2 a3 a4) : (State.replyDet s a1 a2 a3 a4).out = s.out :=
  (State.replyDet_in ..).same .out rfl
@[simp] theorem State.replyDet_hot (s a1 a2 a3 a4) : (State.replyDet s a1 a2 a3 a4).hot = s.hot :=
  (State.replyDet_in ..).same .hot rfl
@[simp] theorem State.replyDet_eg (s a1 a2 a3 a4) : (State.replyDet s a1 a2 a3 a4).eg = s.eg :=
  (State.replyDet_in ..).same .eg rfl
@[simp] theorem State.replyDet_calDue (s a1 a2 a3 a4) : (State.replyDet s a1 a2 a3 a4).calDue = s.calDue :=
  (State.replyDet_in ..).same .calDue rfl
@[simp] theorem State.refuse_pending (s a1 a2 a3) : (State.refuse s a1 a2 a3).pending = s.pending :=
  (State.refuse_in ..).same .pending rfl
@[simp] theorem State.refuse_ticks (s a1 a2 a3) : (State.refuse s a1 a2 a3).ticks = s.ticks :=
  (State.refuse_in ..).same .ticks rfl
@[simp] theorem State.refuse_aon (s a1 a2 a3) : (State.refuse s a1 a2 a3).aon = s.aon := (State.refuse_in ..).same .aon rfl
@[simp] theorem State.refuse_aonLeft (s a1 a2 a3) : (State.refuse s a1 a2 a3).aonLeft = s.aonLeft :=
  (State.refuse_in ..).same .aonLeft rfl
@[simp] theorem State.refuse_core (s a1 a2 a3) : (State.refuse s a1 a2 a3).core = s.core :=
  (State.refuse_in ..).same .core rfl
@[simp] theorem State.refuse_coreQ (s a1 a2 a3) : (State.refuse s a1 a2 a3).coreQ = s.coreQ :=
  (State.refuse_in ..).same .coreQ rfl
@[simp] theorem State.refuse_regs (s a1 a2 a3) : (State.refuse s a1 a2 a3).regs = s.regs :=
  (State.refuse_in ..).same .regs rfl
@[simp] theorem State.refuse_gen (s a1 a2 a3) : (State.refuse s a1 a2 a3).gen = s.gen := (State.refuse_in ..).same .gen rfl
@[simp] theorem State.refuse_staged (s a1 a2 a3) : (State.refuse s a1 a2 a3).staged = s.staged :=
  (State.refuse_in ..).same .staged rfl
@[simp] theorem State.refuse_latches (s a1 a2 a3) : (State.refuse s a1 a2 a3).latches = s.latches :=
  (State.refuse_in ..).same .latches rfl
@[simp] theorem State.refuse_heldWr (s a1 a2 a3) : (State.refuse s a1 a2 a3).heldWr = s.heldWr :=
  (State.refuse_in ..).same .heldWr rfl
@[simp] theorem State.refuse_tk (s a1 a2 a3) : (State.refuse s a1 a2 a3).tk = s.tk := (State.refuse_in ..).same .tk rfl
@[simp] theorem State.refuse_log (s a1 a2 a3) : (State.refuse s a1 a2 a3).log = s.log := (State.refuse_in ..).same .log rfl
@[simp] theorem State.refuse_calBad (s a1 a2 a3) : (State.refuse s a1 a2 a3).calBad = s.calBad :=
  (State.refuse_in ..).same .calBad rfl
@[simp] theorem State.refuse_pails (s a1 a2 a3) : (State.refuse s a1 a2 a3).pails = s.pails :=
  (State.refuse_in ..).same .pails rfl
@[simp] theorem State.refuse_banks (s a1 a2 a3) : (State.refuse s a1 a2 a3).banks = s.banks :=
  (State.refuse_in ..).same .banks rfl
@[simp] theorem State.refuse_repairDue (s a1 a2 a3) : (State.refuse s a1 a2 a3).repairDue = s.repairDue :=
  (State.refuse_in ..).same .repairDue rfl
@[simp] theorem State.refuse_units (s a1 a2 a3) : (State.refuse s a1 a2 a3).units = s.units :=
  (State.refuse_in ..).same .units rfl
@[simp] theorem State.refuse_groups (s a1 a2 a3) : (State.refuse s a1 a2 a3).groups = s.groups :=
  (State.refuse_in ..).same .groups rfl
@[simp] theorem State.refuse_spares (s a1 a2 a3) : (State.refuse s a1 a2 a3).spares = s.spares :=
  (State.refuse_in ..).same .spares rfl
@[simp] theorem State.refuse_chans (s a1 a2 a3) : (State.refuse s a1 a2 a3).chans = s.chans :=
  (State.refuse_in ..).same .chans rfl
@[simp] theorem State.refuse_slices (s a1 a2 a3) : (State.refuse s a1 a2 a3).slices = s.slices :=
  (State.refuse_in ..).same .slices rfl
@[simp] theorem State.refuse_ports (s a1 a2 a3) : (State.refuse s a1 a2 a3).ports = s.ports :=
  (State.refuse_in ..).same .ports rfl
@[simp] theorem State.refuse_links (s a1 a2 a3) : (State.refuse s a1 a2 a3).links = s.links :=
  (State.refuse_in ..).same .links rfl
@[simp] theorem State.refuse_pw (s a1 a2 a3) : (State.refuse s a1 a2 a3).pw = s.pw := (State.refuse_in ..).same .pw rfl
@[simp] theorem State.refuse_rs (s a1 a2 a3) : (State.refuse s a1 a2 a3).rs = s.rs := (State.refuse_in ..).same .rs rfl
@[simp] theorem State.refuse_cl (s a1 a2 a3) : (State.refuse s a1 a2 a3).cl = s.cl := (State.refuse_in ..).same .cl rfl
@[simp] theorem State.refuse_tw (s a1 a2 a3) : (State.refuse s a1 a2 a3).tw = s.tw := (State.refuse_in ..).same .tw rfl
@[simp] theorem State.refuse_sec (s a1 a2 a3) : (State.refuse s a1 a2 a3).sec = s.sec := (State.refuse_in ..).same .sec rfl
@[simp] theorem State.refuse_flash (s a1 a2 a3) : (State.refuse s a1 a2 a3).flash = s.flash :=
  (State.refuse_in ..).same .flash rfl
@[simp] theorem State.refuse_image (s a1 a2 a3) : (State.refuse s a1 a2 a3).image = s.image :=
  (State.refuse_in ..).same .image rfl
@[simp] theorem State.refuse_fresh (s a1 a2 a3) : (State.refuse s a1 a2 a3).fresh = s.fresh :=
  (State.refuse_in ..).same .fresh rfl
@[simp] theorem State.refuse_out (s a1 a2 a3) : (State.refuse s a1 a2 a3).out = s.out := (State.refuse_in ..).same .out rfl
@[simp] theorem State.refuse_hot (s a1 a2 a3) : (State.refuse s a1 a2 a3).hot = s.hot := (State.refuse_in ..).same .hot rfl
@[simp] theorem State.refuse_eg (s a1 a2 a3) : (State.refuse s a1 a2 a3).eg = s.eg := (State.refuse_in ..).same .eg rfl
@[simp] theorem State.refuse_calDue (s a1 a2 a3) : (State.refuse s a1 a2 a3).calDue = s.calDue :=
  (State.refuse_in ..).same .calDue rfl
@[simp] theorem State.reply_pending (s a1 a2 a3 a4) : (State.reply s a1 a2 a3 a4).pending = s.pending :=
  (State.reply_in ..).same .pending rfl
@[simp] theorem State.reply_ticks (s a1 a2 a3 a4) : (State.reply s a1 a2 a3 a4).ticks = s.ticks :=
  (State.reply_in ..).same .ticks rfl
@[simp] theorem State.reply_aon (s a1 a2 a3 a4) : (State.reply s a1 a2 a3 a4).aon = s.aon := (State.reply_in ..).same .aon rfl
@[simp] theorem State.reply_aonLeft (s a1 a2 a3 a4) : (State.reply s a1 a2 a3 a4).aonLeft = s.aonLeft :=
  (State.reply_in ..).same .aonLeft rfl
@[simp] theorem State.reply_core (s a1 a2 a3 a4) : (State.reply s a1 a2 a3 a4).core = s.core :=
  (State.reply_in ..).same .core rfl
@[simp] theorem State.reply_coreQ (s a1 a2 a3 a4) : (State.reply s a1 a2 a3 a4).coreQ = s.coreQ :=
  (State.reply_in ..).same .coreQ rfl
@[simp] theorem State.reply_regs (s a1 a2 a3 a4) : (State.reply s a1 a2 a3 a4).regs = s.regs :=
  (State.reply_in ..).same .regs rfl
@[simp] theorem State.reply_gen (s a1 a2 a3 a4) : (State.reply s a1 a2 a3 a4).gen = s.gen := (State.reply_in ..).same .gen rfl
@[simp] theorem State.reply_staged (s a1 a2 a3 a4) : (State.reply s a1 a2 a3 a4).staged = s.staged :=
  (State.reply_in ..).same .staged rfl
@[simp] theorem State.reply_latches (s a1 a2 a3 a4) : (State.reply s a1 a2 a3 a4).latches = s.latches :=
  (State.reply_in ..).same .latches rfl
@[simp] theorem State.reply_heldWr (s a1 a2 a3 a4) : (State.reply s a1 a2 a3 a4).heldWr = s.heldWr :=
  (State.reply_in ..).same .heldWr rfl
@[simp] theorem State.reply_tk (s a1 a2 a3 a4) : (State.reply s a1 a2 a3 a4).tk = s.tk := (State.reply_in ..).same .tk rfl
@[simp] theorem State.reply_log (s a1 a2 a3 a4) : (State.reply s a1 a2 a3 a4).log = s.log := (State.reply_in ..).same .log rfl
@[simp] theorem State.reply_calBad (s a1 a2 a3 a4) : (State.reply s a1 a2 a3 a4).calBad = s.calBad :=
  (State.reply_in ..).same .calBad rfl
@[simp] theorem State.reply_pails (s a1 a2 a3 a4) : (State.reply s a1 a2 a3 a4).pails = s.pails :=
  (State.reply_in ..).same .pails rfl
@[simp] theorem State.reply_banks (s a1 a2 a3 a4) : (State.reply s a1 a2 a3 a4).banks = s.banks :=
  (State.reply_in ..).same .banks rfl
@[simp] theorem State.reply_repairDue (s a1 a2 a3 a4) : (State.reply s a1 a2 a3 a4).repairDue = s.repairDue :=
  (State.reply_in ..).same .repairDue rfl
@[simp] theorem State.reply_units (s a1 a2 a3 a4) : (State.reply s a1 a2 a3 a4).units = s.units :=
  (State.reply_in ..).same .units rfl
@[simp] theorem State.reply_groups (s a1 a2 a3 a4) : (State.reply s a1 a2 a3 a4).groups = s.groups :=
  (State.reply_in ..).same .groups rfl
@[simp] theorem State.reply_spares (s a1 a2 a3 a4) : (State.reply s a1 a2 a3 a4).spares = s.spares :=
  (State.reply_in ..).same .spares rfl
@[simp] theorem State.reply_chans (s a1 a2 a3 a4) : (State.reply s a1 a2 a3 a4).chans = s.chans :=
  (State.reply_in ..).same .chans rfl
@[simp] theorem State.reply_slices (s a1 a2 a3 a4) : (State.reply s a1 a2 a3 a4).slices = s.slices :=
  (State.reply_in ..).same .slices rfl
@[simp] theorem State.reply_ports (s a1 a2 a3 a4) : (State.reply s a1 a2 a3 a4).ports = s.ports :=
  (State.reply_in ..).same .ports rfl
@[simp] theorem State.reply_links (s a1 a2 a3 a4) : (State.reply s a1 a2 a3 a4).links = s.links :=
  (State.reply_in ..).same .links rfl
@[simp] theorem State.reply_pw (s a1 a2 a3 a4) : (State.reply s a1 a2 a3 a4).pw = s.pw := (State.reply_in ..).same .pw rfl
@[simp] theorem State.reply_rs (s a1 a2 a3 a4) : (State.reply s a1 a2 a3 a4).rs = s.rs := (State.reply_in ..).same .rs rfl
@[simp] theorem State.reply_cl (s a1 a2 a3 a4) : (State.reply s a1 a2 a3 a4).cl = s.cl := (State.reply_in ..).same .cl rfl
@[simp] theorem State.reply_tw (s a1 a2 a3 a4) : (State.reply s a1 a2 a3 a4).tw = s.tw := (State.reply_in ..).same .tw rfl
@[simp] theorem State.reply_sec (s a1 a2 a3 a4) : (State.reply s a1 a2 a3 a4).sec = s.sec := (State.reply_in ..).same .sec rfl
@[simp] theorem State.reply_flash (s a1 a2 a3 a4) : (State.reply s a1 a2 a3 a4).flash = s.flash :=
  (State.reply_in ..).same .flash rfl
@[simp] theorem State.reply_image (s a1 a2 a3 a4) : (State.reply s a1 a2 a3 a4).image = s.image :=
  (State.reply_in ..).same .image rfl
@[simp] theorem State.reply_fresh (s a1 a2 a3 a4) : (State.reply s a1 a2 a3 a4).fresh = s.fresh :=
  (State.reply_in ..).same .fresh rfl
@[simp] theorem State.reply_out (s a1 a2 a3 a4) : (State.reply s a1 a2 a3 a4).out = s.out := (State.reply_in ..).same .out rfl
@[simp] theorem State.reply_hot (s a1 a2 a3 a4) : (State.reply s a1 a2 a3 a4).hot = s.hot := (State.reply_in ..).same .hot rfl
@[simp] theorem State.reply_eg (s a1 a2 a3 a4) : (State.reply s a1 a2 a3 a4).eg = s.eg := (State.reply_in ..).same .eg rfl
@[simp] theorem State.reply_calDue (s a1 a2 a3 a4) : (State.reply s a1 a2 a3 a4).calDue = s.calDue :=
  (State.reply_in ..).same .calDue rfl
@[simp] theorem State.queueRec_pending (s a1 a2) : (State.queueRec s a1 a2).pending = s.pending :=
  (State.queueRec_in ..).same .pending rfl
@[simp] theorem State.queueRec_ticks (s a1 a2) : (State.queueRec s a1 a2).ticks = s.ticks :=
  (State.queueRec_in ..).same .ticks rfl
@[simp] theorem State.queueRec_aon (s a1 a2) : (State.queueRec s a1 a2).aon = s.aon := (State.queueRec_in ..).same .aon rfl
@[simp] theorem State.queueRec_aonLeft (s a1 a2) : (State.queueRec s a1 a2).aonLeft = s.aonLeft :=
  (State.queueRec_in ..).same .aonLeft rfl
@[simp] theorem State.queueRec_core (s a1 a2) : (State.queueRec s a1 a2).core = s.core :=
  (State.queueRec_in ..).same .core rfl
@[simp] theorem State.queueRec_coreQ (s a1 a2) : (State.queueRec s a1 a2).coreQ = s.coreQ :=
  (State.queueRec_in ..).same .coreQ rfl
@[simp] theorem State.queueRec_regs (s a1 a2) : (State.queueRec s a1 a2).regs = s.regs :=
  (State.queueRec_in ..).same .regs rfl
@[simp] theorem State.queueRec_gen (s a1 a2) : (State.queueRec s a1 a2).gen = s.gen := (State.queueRec_in ..).same .gen rfl
@[simp] theorem State.queueRec_staged (s a1 a2) : (State.queueRec s a1 a2).staged = s.staged :=
  (State.queueRec_in ..).same .staged rfl
@[simp] theorem State.queueRec_latches (s a1 a2) : (State.queueRec s a1 a2).latches = s.latches :=
  (State.queueRec_in ..).same .latches rfl
@[simp] theorem State.queueRec_heldWr (s a1 a2) : (State.queueRec s a1 a2).heldWr = s.heldWr :=
  (State.queueRec_in ..).same .heldWr rfl
@[simp] theorem State.queueRec_tk (s a1 a2) : (State.queueRec s a1 a2).tk = s.tk := (State.queueRec_in ..).same .tk rfl
@[simp] theorem State.queueRec_log (s a1 a2) : (State.queueRec s a1 a2).log = s.log := (State.queueRec_in ..).same .log rfl
@[simp] theorem State.queueRec_calBad (s a1 a2) : (State.queueRec s a1 a2).calBad = s.calBad :=
  (State.queueRec_in ..).same .calBad rfl
@[simp] theorem State.queueRec_pails (s a1 a2) : (State.queueRec s a1 a2).pails = s.pails :=
  (State.queueRec_in ..).same .pails rfl
@[simp] theorem State.queueRec_banks (s a1 a2) : (State.queueRec s a1 a2).banks = s.banks :=
  (State.queueRec_in ..).same .banks rfl
@[simp] theorem State.queueRec_repairDue (s a1 a2) : (State.queueRec s a1 a2).repairDue = s.repairDue :=
  (State.queueRec_in ..).same .repairDue rfl
@[simp] theorem State.queueRec_units (s a1 a2) : (State.queueRec s a1 a2).units = s.units :=
  (State.queueRec_in ..).same .units rfl
@[simp] theorem State.queueRec_groups (s a1 a2) : (State.queueRec s a1 a2).groups = s.groups :=
  (State.queueRec_in ..).same .groups rfl
@[simp] theorem State.queueRec_spares (s a1 a2) : (State.queueRec s a1 a2).spares = s.spares :=
  (State.queueRec_in ..).same .spares rfl
@[simp] theorem State.queueRec_chans (s a1 a2) : (State.queueRec s a1 a2).chans = s.chans :=
  (State.queueRec_in ..).same .chans rfl
@[simp] theorem State.queueRec_slices (s a1 a2) : (State.queueRec s a1 a2).slices = s.slices :=
  (State.queueRec_in ..).same .slices rfl
@[simp] theorem State.queueRec_ports (s a1 a2) : (State.queueRec s a1 a2).ports = s.ports :=
  (State.queueRec_in ..).same .ports rfl
@[simp] theorem State.queueRec_links (s a1 a2) : (State.queueRec s a1 a2).links = s.links :=
  (State.queueRec_in ..).same .links rfl
@[simp] theorem State.queueRec_um (s a1 a2) : (State.queueRec s a1 a2).um = s.um := (State.queueRec_in ..).same .um rfl
@[simp] theorem State.queueRec_pw (s a1 a2) : (State.queueRec s a1 a2).pw = s.pw := (State.queueRec_in ..).same .pw rfl
@[simp] theorem State.queueRec_rs (s a1 a2) : (State.queueRec s a1 a2).rs = s.rs := (State.queueRec_in ..).same .rs rfl
@[simp] theorem State.queueRec_tw (s a1 a2) : (State.queueRec s a1 a2).tw = s.tw := (State.queueRec_in ..).same .tw rfl
@[simp] theorem State.queueRec_sec (s a1 a2) : (State.queueRec s a1 a2).sec = s.sec := (State.queueRec_in ..).same .sec rfl
@[simp] theorem State.queueRec_flash (s a1 a2) : (State.queueRec s a1 a2).flash = s.flash :=
  (State.queueRec_in ..).same .flash rfl
@[simp] theorem State.queueRec_image (s a1 a2) : (State.queueRec s a1 a2).image = s.image :=
  (State.queueRec_in ..).same .image rfl
@[simp] theorem State.queueRec_fresh (s a1 a2) : (State.queueRec s a1 a2).fresh = s.fresh :=
  (State.queueRec_in ..).same .fresh rfl
@[simp] theorem State.queueRec_out (s a1 a2) : (State.queueRec s a1 a2).out = s.out := (State.queueRec_in ..).same .out rfl
@[simp] theorem State.queueRec_hot (s a1 a2) : (State.queueRec s a1 a2).hot = s.hot := (State.queueRec_in ..).same .hot rfl
@[simp] theorem State.queueRec_eg (s a1 a2) : (State.queueRec s a1 a2).eg = s.eg := (State.queueRec_in ..).same .eg rfl
@[simp] theorem State.queueRec_calDue (s a1 a2) : (State.queueRec s a1 a2).calDue = s.calDue :=
  (State.queueRec_in ..).same .calDue rfl
@[simp] theorem State.mirror_pending (s a1 a2) : (State.mirror s a1 a2).pending = s.pending :=
  (State.mirror_in ..).same .pending rfl
@[simp] theorem State.mirror_ticks (s a1 a2) : (State.mirror s a1 a2).ticks = s.ticks := (State.mirror_in ..).same .ticks rfl
@[simp] theorem State.mirror_aon (s a1 a2) : (State.mirror s a1 a2).aon = s.aon := (State.mirror_in ..).same .aon rfl
@[simp] theorem State.mirror_aonLeft (s a1 a2) : (State.mirror s a1 a2).aonLeft = s.aonLeft :=
  (State.mirror_in ..).same .aonLeft rfl
@[simp] theorem State.mirror_core (s a1 a2) : (State.mirror s a1 a2).core = s.core := (State.mirror_in ..).same .core rfl
@[simp] theorem State.mirror_coreQ (s a1 a2) : (State.mirror s a1 a2).coreQ = s.coreQ := (State.mirror_in ..).same .coreQ rfl
@[simp] theorem State.mirror_regs (s a1 a2) : (State.mirror s a1 a2).regs = s.regs := (State.mirror_in ..).same .regs rfl
@[simp] theorem State.mirror_gen (s a1 a2) : (State.mirror s a1 a2).gen = s.gen := (State.mirror_in ..).same .gen rfl
@[simp] theorem State.mirror_staged (s a1 a2) : (State.mirror s a1 a2).staged = s.staged :=
  (State.mirror_in ..).same .staged rfl
@[simp] theorem State.mirror_latches (s a1 a2) : (State.mirror s a1 a2).latches = s.latches :=
  (State.mirror_in ..).same .latches rfl
@[simp] theorem State.mirror_heldWr (s a1 a2) : (State.mirror s a1 a2).heldWr = s.heldWr :=
  (State.mirror_in ..).same .heldWr rfl
@[simp] theorem State.mirror_tk (s a1 a2) : (State.mirror s a1 a2).tk = s.tk := (State.mirror_in ..).same .tk rfl
@[simp] theorem State.mirror_log (s a1 a2) : (State.mirror s a1 a2).log = s.log := (State.mirror_in ..).same .log rfl
@[simp] theorem State.mirror_calBad (s a1 a2) : (State.mirror s a1 a2).calBad = s.calBad :=
  (State.mirror_in ..).same .calBad rfl
@[simp] theorem State.mirror_pails (s a1 a2) : (State.mirror s a1 a2).pails = s.pails := (State.mirror_in ..).same .pails rfl
@[simp] theorem State.mirror_banks (s a1 a2) : (State.mirror s a1 a2).banks = s.banks := (State.mirror_in ..).same .banks rfl
@[simp] theorem State.mirror_repairDue (s a1 a2) : (State.mirror s a1 a2).repairDue = s.repairDue :=
  (State.mirror_in ..).same .repairDue rfl
@[simp] theorem State.mirror_units (s a1 a2) : (State.mirror s a1 a2).units = s.units := (State.mirror_in ..).same .units rfl
@[simp] theorem State.mirror_groups (s a1 a2) : (State.mirror s a1 a2).groups = s.groups :=
  (State.mirror_in ..).same .groups rfl
@[simp] theorem State.mirror_spares (s a1 a2) : (State.mirror s a1 a2).spares = s.spares :=
  (State.mirror_in ..).same .spares rfl
@[simp] theorem State.mirror_chans (s a1 a2) : (State.mirror s a1 a2).chans = s.chans := (State.mirror_in ..).same .chans rfl
@[simp] theorem State.mirror_slices (s a1 a2) : (State.mirror s a1 a2).slices = s.slices :=
  (State.mirror_in ..).same .slices rfl
@[simp] theorem State.mirror_ports (s a1 a2) : (State.mirror s a1 a2).ports = s.ports := (State.mirror_in ..).same .ports rfl
@[simp] theorem State.mirror_links (s a1 a2) : (State.mirror s a1 a2).links = s.links := (State.mirror_in ..).same .links rfl
@[simp] theorem State.mirror_um (s a1 a2) : (State.mirror s a1 a2).um = s.um := (State.mirror_in ..).same .um rfl
@[simp] theorem State.mirror_pw (s a1 a2) : (State.mirror s a1 a2).pw = s.pw := (State.mirror_in ..).same .pw rfl
@[simp] theorem State.mirror_rs (s a1 a2) : (State.mirror s a1 a2).rs = s.rs := (State.mirror_in ..).same .rs rfl
@[simp] theorem State.mirror_tw (s a1 a2) : (State.mirror s a1 a2).tw = s.tw := (State.mirror_in ..).same .tw rfl
@[simp] theorem State.mirror_sec (s a1 a2) : (State.mirror s a1 a2).sec = s.sec := (State.mirror_in ..).same .sec rfl
@[simp] theorem State.mirror_flash (s a1 a2) : (State.mirror s a1 a2).flash = s.flash := (State.mirror_in ..).same .flash rfl
@[simp] theorem State.mirror_image (s a1 a2) : (State.mirror s a1 a2).image = s.image := (State.mirror_in ..).same .image rfl
@[simp] theorem State.mirror_fresh (s a1 a2) : (State.mirror s a1 a2).fresh = s.fresh := (State.mirror_in ..).same .fresh rfl
@[simp] theorem State.mirror_out (s a1 a2) : (State.mirror s a1 a2).out = s.out := (State.mirror_in ..).same .out rfl
@[simp] theorem State.mirror_hot (s a1 a2) : (State.mirror s a1 a2).hot = s.hot := (State.mirror_in ..).same .hot rfl
@[simp] theorem State.mirror_eg (s a1 a2) : (State.mirror s a1 a2).eg = s.eg := (State.mirror_in ..).same .eg rfl
@[simp] theorem State.mirror_calDue (s a1 a2) : (State.mirror s a1 a2).calDue = s.calDue :=
  (State.mirror_in ..).same .calDue rfl
@[simp] theorem State.evDma_pending (s a1) : (State.evDma s a1).pending = s.pending := (State.evDma_in ..).same .pending rfl
@[simp] theorem State.evDma_ticks (s a1) : (State.evDma s a1).ticks = s.ticks := (State.evDma_in ..).same .ticks rfl
@[simp] theorem State.evDma_aon (s a1) : (State.evDma s a1).aon = s.aon := (State.evDma_in ..).same .aon rfl
@[simp] theorem State.evDma_aonLeft (s a1) : (State.evDma s a1).aonLeft = s.aonLeft := (State.evDma_in ..).same .aonLeft rfl
@[simp] theorem State.evDma_core (s a1) : (State.evDma s a1).core = s.core := (State.evDma_in ..).same .core rfl
@[simp] theorem State.evDma_coreQ (s a1) : (State.evDma s a1).coreQ = s.coreQ := (State.evDma_in ..).same .coreQ rfl
@[simp] theorem State.evDma_gen (s a1) : (State.evDma s a1).gen = s.gen := (State.evDma_in ..).same .gen rfl
@[simp] theorem State.evDma_staged (s a1) : (State.evDma s a1).staged = s.staged := (State.evDma_in ..).same .staged rfl
@[simp] theorem State.evDma_latches (s a1) : (State.evDma s a1).latches = s.latches := (State.evDma_in ..).same .latches rfl
@[simp] theorem State.evDma_heldWr (s a1) : (State.evDma s a1).heldWr = s.heldWr := (State.evDma_in ..).same .heldWr rfl
@[simp] theorem State.evDma_tk (s a1) : (State.evDma s a1).tk = s.tk := (State.evDma_in ..).same .tk rfl
@[simp] theorem State.evDma_calBad (s a1) : (State.evDma s a1).calBad = s.calBad := (State.evDma_in ..).same .calBad rfl
@[simp] theorem State.evDma_pails (s a1) : (State.evDma s a1).pails = s.pails := (State.evDma_in ..).same .pails rfl
@[simp] theorem State.evDma_banks (s a1) : (State.evDma s a1).banks = s.banks := (State.evDma_in ..).same .banks rfl
@[simp] theorem State.evDma_repairDue (s a1) : (State.evDma s a1).repairDue = s.repairDue :=
  (State.evDma_in ..).same .repairDue rfl
@[simp] theorem State.evDma_units (s a1) : (State.evDma s a1).units = s.units := (State.evDma_in ..).same .units rfl
@[simp] theorem State.evDma_groups (s a1) : (State.evDma s a1).groups = s.groups := (State.evDma_in ..).same .groups rfl
@[simp] theorem State.evDma_spares (s a1) : (State.evDma s a1).spares = s.spares := (State.evDma_in ..).same .spares rfl
@[simp] theorem State.evDma_chans (s a1) : (State.evDma s a1).chans = s.chans := (State.evDma_in ..).same .chans rfl
@[simp] theorem State.evDma_slices (s a1) : (State.evDma s a1).slices = s.slices := (State.evDma_in ..).same .slices rfl
@[simp] theorem State.evDma_ports (s a1) : (State.evDma s a1).ports = s.ports := (State.evDma_in ..).same .ports rfl
@[simp] theorem State.evDma_um (s a1) : (State.evDma s a1).um = s.um := (State.evDma_in ..).same .um rfl
@[simp] theorem State.evDma_pw (s a1) : (State.evDma s a1).pw = s.pw := (State.evDma_in ..).same .pw rfl
@[simp] theorem State.evDma_rs (s a1) : (State.evDma s a1).rs = s.rs := (State.evDma_in ..).same .rs rfl
@[simp] theorem State.evDma_cl (s a1) : (State.evDma s a1).cl = s.cl := (State.evDma_in ..).same .cl rfl
@[simp] theorem State.evDma_tw (s a1) : (State.evDma s a1).tw = s.tw := (State.evDma_in ..).same .tw rfl
@[simp] theorem State.evDma_sec (s a1) : (State.evDma s a1).sec = s.sec := (State.evDma_in ..).same .sec rfl
@[simp] theorem State.evDma_flash (s a1) : (State.evDma s a1).flash = s.flash := (State.evDma_in ..).same .flash rfl
@[simp] theorem State.evDma_image (s a1) : (State.evDma s a1).image = s.image := (State.evDma_in ..).same .image rfl
@[simp] theorem State.evDma_fresh (s a1) : (State.evDma s a1).fresh = s.fresh := (State.evDma_in ..).same .fresh rfl
@[simp] theorem State.evDma_eg (s a1) : (State.evDma s a1).eg = s.eg := (State.evDma_in ..).same .eg rfl
@[simp] theorem State.evDma_calDue (s a1) : (State.evDma s a1).calDue = s.calDue := (State.evDma_in ..).same .calDue rfl
@[simp] theorem State.setCh_pending (s a1 a2) : (State.setCh s a1 a2).pending = s.pending :=
  (State.setCh_in ..).same .pending rfl
@[simp] theorem State.setCh_ticks (s a1 a2) : (State.setCh s a1 a2).ticks = s.ticks := (State.setCh_in ..).same .ticks rfl
@[simp] theorem State.setCh_aon (s a1 a2) : (State.setCh s a1 a2).aon = s.aon := (State.setCh_in ..).same .aon rfl
@[simp] theorem State.setCh_aonLeft (s a1 a2) : (State.setCh s a1 a2).aonLeft = s.aonLeft :=
  (State.setCh_in ..).same .aonLeft rfl
@[simp] theorem State.setCh_core (s a1 a2) : (State.setCh s a1 a2).core = s.core := (State.setCh_in ..).same .core rfl
@[simp] theorem State.setCh_coreQ (s a1 a2) : (State.setCh s a1 a2).coreQ = s.coreQ := (State.setCh_in ..).same .coreQ rfl
@[simp] theorem State.setCh_gen (s a1 a2) : (State.setCh s a1 a2).gen = s.gen := (State.setCh_in ..).same .gen rfl
@[simp] theorem State.setCh_staged (s a1 a2) : (State.setCh s a1 a2).staged = s.staged := (State.setCh_in ..).same .staged rfl
@[simp] theorem State.setCh_latches (s a1 a2) : (State.setCh s a1 a2).latches = s.latches :=
  (State.setCh_in ..).same .latches rfl
@[simp] theorem State.setCh_heldWr (s a1 a2) : (State.setCh s a1 a2).heldWr = s.heldWr := (State.setCh_in ..).same .heldWr rfl
@[simp] theorem State.setCh_tk (s a1 a2) : (State.setCh s a1 a2).tk = s.tk := (State.setCh_in ..).same .tk rfl
@[simp] theorem State.setCh_log (s a1 a2) : (State.setCh s a1 a2).log = s.log := (State.setCh_in ..).same .log rfl
@[simp] theorem State.setCh_calBad (s a1 a2) : (State.setCh s a1 a2).calBad = s.calBad := (State.setCh_in ..).same .calBad rfl
@[simp] theorem State.setCh_pails (s a1 a2) : (State.setCh s a1 a2).pails = s.pails := (State.setCh_in ..).same .pails rfl
@[simp] theorem State.setCh_banks (s a1 a2) : (State.setCh s a1 a2).banks = s.banks := (State.setCh_in ..).same .banks rfl
@[simp] theorem State.setCh_repairDue (s a1 a2) : (State.setCh s a1 a2).repairDue = s.repairDue :=
  (State.setCh_in ..).same .repairDue rfl
@[simp] theorem State.setCh_units (s a1 a2) : (State.setCh s a1 a2).units = s.units := (State.setCh_in ..).same .units rfl
@[simp] theorem State.setCh_groups (s a1 a2) : (State.setCh s a1 a2).groups = s.groups := (State.setCh_in ..).same .groups rfl
@[simp] theorem State.setCh_spares (s a1 a2) : (State.setCh s a1 a2).spares = s.spares := (State.setCh_in ..).same .spares rfl
@[simp] theorem State.setCh_chans (s a1 a2) : (State.setCh s a1 a2).chans = s.chans := (State.setCh_in ..).same .chans rfl
@[simp] theorem State.setCh_slices (s a1 a2) : (State.setCh s a1 a2).slices = s.slices := (State.setCh_in ..).same .slices rfl
@[simp] theorem State.setCh_ports (s a1 a2) : (State.setCh s a1 a2).ports = s.ports := (State.setCh_in ..).same .ports rfl
@[simp] theorem State.setCh_links (s a1 a2) : (State.setCh s a1 a2).links = s.links := (State.setCh_in ..).same .links rfl
@[simp] theorem State.setCh_um (s a1 a2) : (State.setCh s a1 a2).um = s.um := (State.setCh_in ..).same .um rfl
@[simp] theorem State.setCh_pw (s a1 a2) : (State.setCh s a1 a2).pw = s.pw := (State.setCh_in ..).same .pw rfl
@[simp] theorem State.setCh_rs (s a1 a2) : (State.setCh s a1 a2).rs = s.rs := (State.setCh_in ..).same .rs rfl
@[simp] theorem State.setCh_cl (s a1 a2) : (State.setCh s a1 a2).cl = s.cl := (State.setCh_in ..).same .cl rfl
@[simp] theorem State.setCh_tw (s a1 a2) : (State.setCh s a1 a2).tw = s.tw := (State.setCh_in ..).same .tw rfl
@[simp] theorem State.setCh_sec (s a1 a2) : (State.setCh s a1 a2).sec = s.sec := (State.setCh_in ..).same .sec rfl
@[simp] theorem State.setCh_flash (s a1 a2) : (State.setCh s a1 a2).flash = s.flash := (State.setCh_in ..).same .flash rfl
@[simp] theorem State.setCh_image (s a1 a2) : (State.setCh s a1 a2).image = s.image := (State.setCh_in ..).same .image rfl
@[simp] theorem State.setCh_fresh (s a1 a2) : (State.setCh s a1 a2).fresh = s.fresh := (State.setCh_in ..).same .fresh rfl
@[simp] theorem State.setCh_out (s a1 a2) : (State.setCh s a1 a2).out = s.out := (State.setCh_in ..).same .out rfl
@[simp] theorem State.setCh_hot (s a1 a2) : (State.setCh s a1 a2).hot = s.hot := (State.setCh_in ..).same .hot rfl
@[simp] theorem State.setCh_eg (s a1 a2) : (State.setCh s a1 a2).eg = s.eg := (State.setCh_in ..).same .eg rfl
@[simp] theorem State.setCh_calDue (s a1 a2) : (State.setCh s a1 a2).calDue = s.calDue := (State.setCh_in ..).same .calDue rfl
@[simp] theorem State.evTw_pending (s a1) : (State.evTw s a1).pending = s.pending := (State.evTw_in ..).same .pending rfl
@[simp] theorem State.evTw_ticks (s a1) : (State.evTw s a1).ticks = s.ticks := (State.evTw_in ..).same .ticks rfl
@[simp] theorem State.evTw_aon (s a1) : (State.evTw s a1).aon = s.aon := (State.evTw_in ..).same .aon rfl
@[simp] theorem State.evTw_aonLeft (s a1) : (State.evTw s a1).aonLeft = s.aonLeft := (State.evTw_in ..).same .aonLeft rfl
@[simp] theorem State.evTw_core (s a1) : (State.evTw s a1).core = s.core := (State.evTw_in ..).same .core rfl
@[simp] theorem State.evTw_coreQ (s a1) : (State.evTw s a1).coreQ = s.coreQ := (State.evTw_in ..).same .coreQ rfl
@[simp] theorem State.evTw_gen (s a1) : (State.evTw s a1).gen = s.gen := (State.evTw_in ..).same .gen rfl
@[simp] theorem State.evTw_staged (s a1) : (State.evTw s a1).staged = s.staged := (State.evTw_in ..).same .staged rfl
@[simp] theorem State.evTw_latches (s a1) : (State.evTw s a1).latches = s.latches := (State.evTw_in ..).same .latches rfl
@[simp] theorem State.evTw_heldWr (s a1) : (State.evTw s a1).heldWr = s.heldWr := (State.evTw_in ..).same .heldWr rfl
@[simp] theorem State.evTw_tk (s a1) : (State.evTw s a1).tk = s.tk := (State.evTw_in ..).same .tk rfl
@[simp] theorem State.evTw_calBad (s a1) : (State.evTw s a1).calBad = s.calBad := (State.evTw_in ..).same .calBad rfl
@[simp] theorem State.evTw_pails (s a1) : (State.evTw s a1).pails = s.pails := (State.evTw_in ..).same .pails rfl
@[simp] theorem State.evTw_banks (s a1) : (State.evTw s a1).banks = s.banks := (State.evTw_in ..).same .banks rfl
@[simp] theorem State.evTw_repairDue (s a1) : (State.evTw s a1).repairDue = s.repairDue :=
  (State.evTw_in ..).same .repairDue rfl
@[simp] theorem State.evTw_units (s a1) : (State.evTw s a1).units = s.units := (State.evTw_in ..).same .units rfl
@[simp] theorem State.evTw_groups (s a1) : (State.evTw s a1).groups = s.groups := (State.evTw_in ..).same .groups rfl
@[simp] theorem State.evTw_spares (s a1) : (State.evTw s a1).spares = s.spares := (State.evTw_in ..).same .spares rfl
@[simp] theorem State.evTw_chans (s a1) : (State.evTw s a1).chans = s.chans := (State.evTw_in ..).same .chans rfl
@[simp] theorem State.evTw_slices (s a1) : (State.evTw s a1).slices = s.slices := (State.evTw_in ..).same .slices rfl
@[simp] theorem State.evTw_ports (s a1) : (State.evTw s a1).ports = s.ports := (State.evTw_in ..).same .ports rfl
@[simp] theorem State.evTw_um (s a1) : (State.evTw s a1).um = s.um := (State.evTw_in ..).same .um rfl
@[simp] theorem State.evTw_pw (s a1) : (State.evTw s a1).pw = s.pw := (State.evTw_in ..).same .pw rfl
@[simp] theorem State.evTw_rs (s a1) : (State.evTw s a1).rs = s.rs := (State.evTw_in ..).same .rs rfl
@[simp] theorem State.evTw_cl (s a1) : (State.evTw s a1).cl = s.cl := (State.evTw_in ..).same .cl rfl
@[simp] theorem State.evTw_tw (s a1) : (State.evTw s a1).tw = s.tw := (State.evTw_in ..).same .tw rfl
@[simp] theorem State.evTw_sec (s a1) : (State.evTw s a1).sec = s.sec := (State.evTw_in ..).same .sec rfl
@[simp] theorem State.evTw_flash (s a1) : (State.evTw s a1).flash = s.flash := (State.evTw_in ..).same .flash rfl
@[simp] theorem State.evTw_image (s a1) : (State.evTw s a1).image = s.image := (State.evTw_in ..).same .image rfl
@[simp] theorem State.evTw_fresh (s a1) : (State.evTw s a1).fresh = s.fresh := (State.evTw_in ..).same .fresh rfl
@[simp] theorem State.evTw_eg (s a1) : (State.evTw s a1).eg = s.eg := (State.evTw_in ..).same .eg rfl
@[simp] theorem State.evTw_calDue (s a1) : (State.evTw s a1).calDue = s.calDue := (State.evTw_in ..).same .calDue rfl
@[simp] theorem State.updTrain_pending (s a1 a2) : (State.updTrain s a1 a2).pending = s.pending :=
  (State.updTrain_in ..).same .pending rfl
@[simp] theorem State.updTrain_ticks (s a1 a2) : (State.updTrain s a1 a2).ticks = s.ticks :=
  (State.updTrain_in ..).same .ticks rfl
@[simp] theorem State.updTrain_aon (s a1 a2) : (State.updTrain s a1 a2).aon = s.aon := (State.updTrain_in ..).same .aon rfl
@[simp] theorem State.updTrain_aonLeft (s a1 a2) : (State.updTrain s a1 a2).aonLeft = s.aonLeft :=
  (State.updTrain_in ..).same .aonLeft rfl
@[simp] theorem State.updTrain_core (s a1 a2) : (State.updTrain s a1 a2).core = s.core :=
  (State.updTrain_in ..).same .core rfl
@[simp] theorem State.updTrain_coreQ (s a1 a2) : (State.updTrain s a1 a2).coreQ = s.coreQ :=
  (State.updTrain_in ..).same .coreQ rfl
@[simp] theorem State.updTrain_regs (s a1 a2) : (State.updTrain s a1 a2).regs = s.regs :=
  (State.updTrain_in ..).same .regs rfl
@[simp] theorem State.updTrain_gen (s a1 a2) : (State.updTrain s a1 a2).gen = s.gen := (State.updTrain_in ..).same .gen rfl
@[simp] theorem State.updTrain_staged (s a1 a2) : (State.updTrain s a1 a2).staged = s.staged :=
  (State.updTrain_in ..).same .staged rfl
@[simp] theorem State.updTrain_latches (s a1 a2) : (State.updTrain s a1 a2).latches = s.latches :=
  (State.updTrain_in ..).same .latches rfl
@[simp] theorem State.updTrain_heldWr (s a1 a2) : (State.updTrain s a1 a2).heldWr = s.heldWr :=
  (State.updTrain_in ..).same .heldWr rfl
@[simp] theorem State.updTrain_tk (s a1 a2) : (State.updTrain s a1 a2).tk = s.tk := (State.updTrain_in ..).same .tk rfl
@[simp] theorem State.updTrain_log (s a1 a2) : (State.updTrain s a1 a2).log = s.log := (State.updTrain_in ..).same .log rfl
@[simp] theorem State.updTrain_calBad (s a1 a2) : (State.updTrain s a1 a2).calBad = s.calBad :=
  (State.updTrain_in ..).same .calBad rfl
@[simp] theorem State.updTrain_pails (s a1 a2) : (State.updTrain s a1 a2).pails = s.pails :=
  (State.updTrain_in ..).same .pails rfl
@[simp] theorem State.updTrain_banks (s a1 a2) : (State.updTrain s a1 a2).banks = s.banks :=
  (State.updTrain_in ..).same .banks rfl
@[simp] theorem State.updTrain_repairDue (s a1 a2) : (State.updTrain s a1 a2).repairDue = s.repairDue :=
  (State.updTrain_in ..).same .repairDue rfl
@[simp] theorem State.updTrain_units (s a1 a2) : (State.updTrain s a1 a2).units = s.units :=
  (State.updTrain_in ..).same .units rfl
@[simp] theorem State.updTrain_groups (s a1 a2) : (State.updTrain s a1 a2).groups = s.groups :=
  (State.updTrain_in ..).same .groups rfl
@[simp] theorem State.updTrain_spares (s a1 a2) : (State.updTrain s a1 a2).spares = s.spares :=
  (State.updTrain_in ..).same .spares rfl
@[simp] theorem State.updTrain_chans (s a1 a2) : (State.updTrain s a1 a2).chans = s.chans :=
  (State.updTrain_in ..).same .chans rfl
@[simp] theorem State.updTrain_slices (s a1 a2) : (State.updTrain s a1 a2).slices = s.slices :=
  (State.updTrain_in ..).same .slices rfl
@[simp] theorem State.updTrain_links (s a1 a2) : (State.updTrain s a1 a2).links = s.links :=
  (State.updTrain_in ..).same .links rfl
@[simp] theorem State.updTrain_um (s a1 a2) : (State.updTrain s a1 a2).um = s.um := (State.updTrain_in ..).same .um rfl
@[simp] theorem State.updTrain_pw (s a1 a2) : (State.updTrain s a1 a2).pw = s.pw := (State.updTrain_in ..).same .pw rfl
@[simp] theorem State.updTrain_rs (s a1 a2) : (State.updTrain s a1 a2).rs = s.rs := (State.updTrain_in ..).same .rs rfl
@[simp] theorem State.updTrain_tw (s a1 a2) : (State.updTrain s a1 a2).tw = s.tw := (State.updTrain_in ..).same .tw rfl
@[simp] theorem State.updTrain_sec (s a1 a2) : (State.updTrain s a1 a2).sec = s.sec := (State.updTrain_in ..).same .sec rfl
@[simp] theorem State.updTrain_flash (s a1 a2) : (State.updTrain s a1 a2).flash = s.flash :=
  (State.updTrain_in ..).same .flash rfl
@[simp] theorem State.updTrain_image (s a1 a2) : (State.updTrain s a1 a2).image = s.image :=
  (State.updTrain_in ..).same .image rfl
@[simp] theorem State.updTrain_fresh (s a1 a2) : (State.updTrain s a1 a2).fresh = s.fresh :=
  (State.updTrain_in ..).same .fresh rfl
@[simp] theorem State.updTrain_out (s a1 a2) : (State.updTrain s a1 a2).out = s.out := (State.updTrain_in ..).same .out rfl
@[simp] theorem State.updTrain_hot (s a1 a2) : (State.updTrain s a1 a2).hot = s.hot := (State.updTrain_in ..).same .hot rfl
@[simp] theorem State.updTrain_eg (s a1 a2) : (State.updTrain s a1 a2).eg = s.eg := (State.updTrain_in ..).same .eg rfl
@[simp] theorem State.updTrain_calDue (s a1 a2) : (State.updTrain s a1 a2).calDue = s.calDue :=
  (State.updTrain_in ..).same .calDue rfl
@[simp] theorem State.linkErr_pending (s a1 a2) : (State.linkErr s a1 a2).pending = s.pending :=
  (State.linkErr_in ..).same .pending rfl
@[simp] theorem State.linkErr_ticks (s a1 a2) : (State.linkErr s a1 a2).ticks = s.ticks :=
  (State.linkErr_in ..).same .ticks rfl
@[simp] theorem State.linkErr_aon (s a1 a2) : (State.linkErr s a1 a2).aon = s.aon := (State.linkErr_in ..).same .aon rfl
@[simp] theorem State.linkErr_aonLeft (s a1 a2) : (State.linkErr s a1 a2).aonLeft = s.aonLeft :=
  (State.linkErr_in ..).same .aonLeft rfl
@[simp] theorem State.linkErr_core (s a1 a2) : (State.linkErr s a1 a2).core = s.core := (State.linkErr_in ..).same .core rfl
@[simp] theorem State.linkErr_coreQ (s a1 a2) : (State.linkErr s a1 a2).coreQ = s.coreQ :=
  (State.linkErr_in ..).same .coreQ rfl
@[simp] theorem State.linkErr_gen (s a1 a2) : (State.linkErr s a1 a2).gen = s.gen := (State.linkErr_in ..).same .gen rfl
@[simp] theorem State.linkErr_staged (s a1 a2) : (State.linkErr s a1 a2).staged = s.staged :=
  (State.linkErr_in ..).same .staged rfl
@[simp] theorem State.linkErr_latches (s a1 a2) : (State.linkErr s a1 a2).latches = s.latches :=
  (State.linkErr_in ..).same .latches rfl
@[simp] theorem State.linkErr_heldWr (s a1 a2) : (State.linkErr s a1 a2).heldWr = s.heldWr :=
  (State.linkErr_in ..).same .heldWr rfl
@[simp] theorem State.linkErr_tk (s a1 a2) : (State.linkErr s a1 a2).tk = s.tk := (State.linkErr_in ..).same .tk rfl
@[simp] theorem State.linkErr_calBad (s a1 a2) : (State.linkErr s a1 a2).calBad = s.calBad :=
  (State.linkErr_in ..).same .calBad rfl
@[simp] theorem State.linkErr_pails (s a1 a2) : (State.linkErr s a1 a2).pails = s.pails :=
  (State.linkErr_in ..).same .pails rfl
@[simp] theorem State.linkErr_banks (s a1 a2) : (State.linkErr s a1 a2).banks = s.banks :=
  (State.linkErr_in ..).same .banks rfl
@[simp] theorem State.linkErr_repairDue (s a1 a2) : (State.linkErr s a1 a2).repairDue = s.repairDue :=
  (State.linkErr_in ..).same .repairDue rfl
@[simp] theorem State.linkErr_units (s a1 a2) : (State.linkErr s a1 a2).units = s.units :=
  (State.linkErr_in ..).same .units rfl
@[simp] theorem State.linkErr_groups (s a1 a2) : (State.linkErr s a1 a2).groups = s.groups :=
  (State.linkErr_in ..).same .groups rfl
@[simp] theorem State.linkErr_spares (s a1 a2) : (State.linkErr s a1 a2).spares = s.spares :=
  (State.linkErr_in ..).same .spares rfl
@[simp] theorem State.linkErr_chans (s a1 a2) : (State.linkErr s a1 a2).chans = s.chans :=
  (State.linkErr_in ..).same .chans rfl
@[simp] theorem State.linkErr_slices (s a1 a2) : (State.linkErr s a1 a2).slices = s.slices :=
  (State.linkErr_in ..).same .slices rfl
@[simp] theorem State.linkErr_ports (s a1 a2) : (State.linkErr s a1 a2).ports = s.ports :=
  (State.linkErr_in ..).same .ports rfl
@[simp] theorem State.linkErr_um (s a1 a2) : (State.linkErr s a1 a2).um = s.um := (State.linkErr_in ..).same .um rfl
@[simp] theorem State.linkErr_pw (s a1 a2) : (State.linkErr s a1 a2).pw = s.pw := (State.linkErr_in ..).same .pw rfl
@[simp] theorem State.linkErr_rs (s a1 a2) : (State.linkErr s a1 a2).rs = s.rs := (State.linkErr_in ..).same .rs rfl
@[simp] theorem State.linkErr_cl (s a1 a2) : (State.linkErr s a1 a2).cl = s.cl := (State.linkErr_in ..).same .cl rfl
@[simp] theorem State.linkErr_tw (s a1 a2) : (State.linkErr s a1 a2).tw = s.tw := (State.linkErr_in ..).same .tw rfl
@[simp] theorem State.linkErr_sec (s a1 a2) : (State.linkErr s a1 a2).sec = s.sec := (State.linkErr_in ..).same .sec rfl
@[simp] theorem State.linkErr_flash (s a1 a2) : (State.linkErr s a1 a2).flash = s.flash :=
  (State.linkErr_in ..).same .flash rfl
@[simp] theorem State.linkErr_image (s a1 a2) : (State.linkErr s a1 a2).image = s.image :=
  (State.linkErr_in ..).same .image rfl
@[simp] theorem State.linkErr_fresh (s a1 a2) : (State.linkErr s a1 a2).fresh = s.fresh :=
  (State.linkErr_in ..).same .fresh rfl
@[simp] theorem State.linkErr_eg (s a1 a2) : (State.linkErr s a1 a2).eg = s.eg := (State.linkErr_in ..).same .eg rfl
@[simp] theorem State.linkErr_calDue (s a1 a2) : (State.linkErr s a1 a2).calDue = s.calDue :=
  (State.linkErr_in ..).same .calDue rfl
@[simp] theorem State.linkProto_pending (s a1) : (State.linkProto s a1).pending = s.pending :=
  (State.linkProto_in ..).same .pending rfl
@[simp] theorem State.linkProto_ticks (s a1) : (State.linkProto s a1).ticks = s.ticks :=
  (State.linkProto_in ..).same .ticks rfl
@[simp] theorem State.linkProto_aon (s a1) : (State.linkProto s a1).aon = s.aon := (State.linkProto_in ..).same .aon rfl
@[simp] theorem State.linkProto_aonLeft (s a1) : (State.linkProto s a1).aonLeft = s.aonLeft :=
  (State.linkProto_in ..).same .aonLeft rfl
@[simp] theorem State.linkProto_core (s a1) : (State.linkProto s a1).core = s.core := (State.linkProto_in ..).same .core rfl
@[simp] theorem State.linkProto_coreQ (s a1) : (State.linkProto s a1).coreQ = s.coreQ :=
  (State.linkProto_in ..).same .coreQ rfl
@[simp] theorem State.linkProto_gen (s a1) : (State.linkProto s a1).gen = s.gen := (State.linkProto_in ..).same .gen rfl
@[simp] theorem State.linkProto_staged (s a1) : (State.linkProto s a1).staged = s.staged :=
  (State.linkProto_in ..).same .staged rfl
@[simp] theorem State.linkProto_latches (s a1) : (State.linkProto s a1).latches = s.latches :=
  (State.linkProto_in ..).same .latches rfl
@[simp] theorem State.linkProto_heldWr (s a1) : (State.linkProto s a1).heldWr = s.heldWr :=
  (State.linkProto_in ..).same .heldWr rfl
@[simp] theorem State.linkProto_tk (s a1) : (State.linkProto s a1).tk = s.tk := (State.linkProto_in ..).same .tk rfl
@[simp] theorem State.linkProto_calBad (s a1) : (State.linkProto s a1).calBad = s.calBad :=
  (State.linkProto_in ..).same .calBad rfl
@[simp] theorem State.linkProto_pails (s a1) : (State.linkProto s a1).pails = s.pails :=
  (State.linkProto_in ..).same .pails rfl
@[simp] theorem State.linkProto_banks (s a1) : (State.linkProto s a1).banks = s.banks :=
  (State.linkProto_in ..).same .banks rfl
@[simp] theorem State.linkProto_repairDue (s a1) : (State.linkProto s a1).repairDue = s.repairDue :=
  (State.linkProto_in ..).same .repairDue rfl
@[simp] theorem State.linkProto_units (s a1) : (State.linkProto s a1).units = s.units :=
  (State.linkProto_in ..).same .units rfl
@[simp] theorem State.linkProto_groups (s a1) : (State.linkProto s a1).groups = s.groups :=
  (State.linkProto_in ..).same .groups rfl
@[simp] theorem State.linkProto_spares (s a1) : (State.linkProto s a1).spares = s.spares :=
  (State.linkProto_in ..).same .spares rfl
@[simp] theorem State.linkProto_chans (s a1) : (State.linkProto s a1).chans = s.chans :=
  (State.linkProto_in ..).same .chans rfl
@[simp] theorem State.linkProto_slices (s a1) : (State.linkProto s a1).slices = s.slices :=
  (State.linkProto_in ..).same .slices rfl
@[simp] theorem State.linkProto_ports (s a1) : (State.linkProto s a1).ports = s.ports :=
  (State.linkProto_in ..).same .ports rfl
@[simp] theorem State.linkProto_um (s a1) : (State.linkProto s a1).um = s.um := (State.linkProto_in ..).same .um rfl
@[simp] theorem State.linkProto_pw (s a1) : (State.linkProto s a1).pw = s.pw := (State.linkProto_in ..).same .pw rfl
@[simp] theorem State.linkProto_rs (s a1) : (State.linkProto s a1).rs = s.rs := (State.linkProto_in ..).same .rs rfl
@[simp] theorem State.linkProto_cl (s a1) : (State.linkProto s a1).cl = s.cl := (State.linkProto_in ..).same .cl rfl
@[simp] theorem State.linkProto_tw (s a1) : (State.linkProto s a1).tw = s.tw := (State.linkProto_in ..).same .tw rfl
@[simp] theorem State.linkProto_sec (s a1) : (State.linkProto s a1).sec = s.sec := (State.linkProto_in ..).same .sec rfl
@[simp] theorem State.linkProto_flash (s a1) : (State.linkProto s a1).flash = s.flash :=
  (State.linkProto_in ..).same .flash rfl
@[simp] theorem State.linkProto_image (s a1) : (State.linkProto s a1).image = s.image :=
  (State.linkProto_in ..).same .image rfl
@[simp] theorem State.linkProto_fresh (s a1) : (State.linkProto s a1).fresh = s.fresh :=
  (State.linkProto_in ..).same .fresh rfl
@[simp] theorem State.linkProto_eg (s a1) : (State.linkProto s a1).eg = s.eg := (State.linkProto_in ..).same .eg rfl
@[simp] theorem State.linkProto_calDue (s a1) : (State.linkProto s a1).calDue = s.calDue :=
  (State.linkProto_in ..).same .calDue rfl
@[simp] theorem State.updRx_pending (s a1 a2 a3) : (State.updRx s a1 a2 a3).pending = s.pending :=
  (State.updRx_in ..).same .pending rfl
@[simp] theorem State.updRx_ticks (s a1 a2 a3) : (State.updRx s a1 a2 a3).ticks = s.ticks :=
  (State.updRx_in ..).same .ticks rfl
@[simp] theorem State.updRx_aon (s a1 a2 a3) : (State.updRx s a1 a2 a3).aon = s.aon := (State.updRx_in ..).same .aon rfl
@[simp] theorem State.updRx_aonLeft (s a1 a2 a3) : (State.updRx s a1 a2 a3).aonLeft = s.aonLeft :=
  (State.updRx_in ..).same .aonLeft rfl
@[simp] theorem State.updRx_core (s a1 a2 a3) : (State.updRx s a1 a2 a3).core = s.core := (State.updRx_in ..).same .core rfl
@[simp] theorem State.updRx_coreQ (s a1 a2 a3) : (State.updRx s a1 a2 a3).coreQ = s.coreQ :=
  (State.updRx_in ..).same .coreQ rfl
@[simp] theorem State.updRx_regs (s a1 a2 a3) : (State.updRx s a1 a2 a3).regs = s.regs := (State.updRx_in ..).same .regs rfl
@[simp] theorem State.updRx_gen (s a1 a2 a3) : (State.updRx s a1 a2 a3).gen = s.gen := (State.updRx_in ..).same .gen rfl
@[simp] theorem State.updRx_staged (s a1 a2 a3) : (State.updRx s a1 a2 a3).staged = s.staged :=
  (State.updRx_in ..).same .staged rfl
@[simp] theorem State.updRx_latches (s a1 a2 a3) : (State.updRx s a1 a2 a3).latches = s.latches :=
  (State.updRx_in ..).same .latches rfl
@[simp] theorem State.updRx_heldWr (s a1 a2 a3) : (State.updRx s a1 a2 a3).heldWr = s.heldWr :=
  (State.updRx_in ..).same .heldWr rfl
@[simp] theorem State.updRx_tk (s a1 a2 a3) : (State.updRx s a1 a2 a3).tk = s.tk := (State.updRx_in ..).same .tk rfl
@[simp] theorem State.updRx_log (s a1 a2 a3) : (State.updRx s a1 a2 a3).log = s.log := (State.updRx_in ..).same .log rfl
@[simp] theorem State.updRx_calBad (s a1 a2 a3) : (State.updRx s a1 a2 a3).calBad = s.calBad :=
  (State.updRx_in ..).same .calBad rfl
@[simp] theorem State.updRx_pails (s a1 a2 a3) : (State.updRx s a1 a2 a3).pails = s.pails :=
  (State.updRx_in ..).same .pails rfl
@[simp] theorem State.updRx_banks (s a1 a2 a3) : (State.updRx s a1 a2 a3).banks = s.banks :=
  (State.updRx_in ..).same .banks rfl
@[simp] theorem State.updRx_repairDue (s a1 a2 a3) : (State.updRx s a1 a2 a3).repairDue = s.repairDue :=
  (State.updRx_in ..).same .repairDue rfl
@[simp] theorem State.updRx_units (s a1 a2 a3) : (State.updRx s a1 a2 a3).units = s.units :=
  (State.updRx_in ..).same .units rfl
@[simp] theorem State.updRx_groups (s a1 a2 a3) : (State.updRx s a1 a2 a3).groups = s.groups :=
  (State.updRx_in ..).same .groups rfl
@[simp] theorem State.updRx_spares (s a1 a2 a3) : (State.updRx s a1 a2 a3).spares = s.spares :=
  (State.updRx_in ..).same .spares rfl
@[simp] theorem State.updRx_chans (s a1 a2 a3) : (State.updRx s a1 a2 a3).chans = s.chans :=
  (State.updRx_in ..).same .chans rfl
@[simp] theorem State.updRx_slices (s a1 a2 a3) : (State.updRx s a1 a2 a3).slices = s.slices :=
  (State.updRx_in ..).same .slices rfl
@[simp] theorem State.updRx_links (s a1 a2 a3) : (State.updRx s a1 a2 a3).links = s.links :=
  (State.updRx_in ..).same .links rfl
@[simp] theorem State.updRx_um (s a1 a2 a3) : (State.updRx s a1 a2 a3).um = s.um := (State.updRx_in ..).same .um rfl
@[simp] theorem State.updRx_pw (s a1 a2 a3) : (State.updRx s a1 a2 a3).pw = s.pw := (State.updRx_in ..).same .pw rfl
@[simp] theorem State.updRx_rs (s a1 a2 a3) : (State.updRx s a1 a2 a3).rs = s.rs := (State.updRx_in ..).same .rs rfl
@[simp] theorem State.updRx_cl (s a1 a2 a3) : (State.updRx s a1 a2 a3).cl = s.cl := (State.updRx_in ..).same .cl rfl
@[simp] theorem State.updRx_tw (s a1 a2 a3) : (State.updRx s a1 a2 a3).tw = s.tw := (State.updRx_in ..).same .tw rfl
@[simp] theorem State.updRx_sec (s a1 a2 a3) : (State.updRx s a1 a2 a3).sec = s.sec := (State.updRx_in ..).same .sec rfl
@[simp] theorem State.updRx_flash (s a1 a2 a3) : (State.updRx s a1 a2 a3).flash = s.flash :=
  (State.updRx_in ..).same .flash rfl
@[simp] theorem State.updRx_image (s a1 a2 a3) : (State.updRx s a1 a2 a3).image = s.image :=
  (State.updRx_in ..).same .image rfl
@[simp] theorem State.updRx_fresh (s a1 a2 a3) : (State.updRx s a1 a2 a3).fresh = s.fresh :=
  (State.updRx_in ..).same .fresh rfl
@[simp] theorem State.updRx_out (s a1 a2 a3) : (State.updRx s a1 a2 a3).out = s.out := (State.updRx_in ..).same .out rfl
@[simp] theorem State.updRx_hot (s a1 a2 a3) : (State.updRx s a1 a2 a3).hot = s.hot := (State.updRx_in ..).same .hot rfl
@[simp] theorem State.updRx_eg (s a1 a2 a3) : (State.updRx s a1 a2 a3).eg = s.eg := (State.updRx_in ..).same .eg rfl
@[simp] theorem State.updRx_calDue (s a1 a2 a3) : (State.updRx s a1 a2 a3).calDue = s.calDue :=
  (State.updRx_in ..).same .calDue rfl
@[simp] theorem State.answer_pending (s a1 a2) : (State.answer s a1 a2).pending = s.pending :=
  (State.answer_in ..).same .pending rfl
@[simp] theorem State.answer_ticks (s a1 a2) : (State.answer s a1 a2).ticks = s.ticks := (State.answer_in ..).same .ticks rfl
@[simp] theorem State.answer_aon (s a1 a2) : (State.answer s a1 a2).aon = s.aon := (State.answer_in ..).same .aon rfl
@[simp] theorem State.answer_aonLeft (s a1 a2) : (State.answer s a1 a2).aonLeft = s.aonLeft :=
  (State.answer_in ..).same .aonLeft rfl
@[simp] theorem State.answer_core (s a1 a2) : (State.answer s a1 a2).core = s.core := (State.answer_in ..).same .core rfl
@[simp] theorem State.answer_coreQ (s a1 a2) : (State.answer s a1 a2).coreQ = s.coreQ := (State.answer_in ..).same .coreQ rfl
@[simp] theorem State.answer_regs (s a1 a2) : (State.answer s a1 a2).regs = s.regs := (State.answer_in ..).same .regs rfl
@[simp] theorem State.answer_gen (s a1 a2) : (State.answer s a1 a2).gen = s.gen := (State.answer_in ..).same .gen rfl
@[simp] theorem State.answer_staged (s a1 a2) : (State.answer s a1 a2).staged = s.staged :=
  (State.answer_in ..).same .staged rfl
@[simp] theorem State.answer_latches (s a1 a2) : (State.answer s a1 a2).latches = s.latches :=
  (State.answer_in ..).same .latches rfl
@[simp] theorem State.answer_heldWr (s a1 a2) : (State.answer s a1 a2).heldWr = s.heldWr :=
  (State.answer_in ..).same .heldWr rfl
@[simp] theorem State.answer_tk (s a1 a2) : (State.answer s a1 a2).tk = s.tk := (State.answer_in ..).same .tk rfl
@[simp] theorem State.answer_log (s a1 a2) : (State.answer s a1 a2).log = s.log := (State.answer_in ..).same .log rfl
@[simp] theorem State.answer_calBad (s a1 a2) : (State.answer s a1 a2).calBad = s.calBad :=
  (State.answer_in ..).same .calBad rfl
@[simp] theorem State.answer_pails (s a1 a2) : (State.answer s a1 a2).pails = s.pails := (State.answer_in ..).same .pails rfl
@[simp] theorem State.answer_banks (s a1 a2) : (State.answer s a1 a2).banks = s.banks := (State.answer_in ..).same .banks rfl
@[simp] theorem State.answer_repairDue (s a1 a2) : (State.answer s a1 a2).repairDue = s.repairDue :=
  (State.answer_in ..).same .repairDue rfl
@[simp] theorem State.answer_units (s a1 a2) : (State.answer s a1 a2).units = s.units := (State.answer_in ..).same .units rfl
@[simp] theorem State.answer_groups (s a1 a2) : (State.answer s a1 a2).groups = s.groups :=
  (State.answer_in ..).same .groups rfl
@[simp] theorem State.answer_spares (s a1 a2) : (State.answer s a1 a2).spares = s.spares :=
  (State.answer_in ..).same .spares rfl
@[simp] theorem State.answer_chans (s a1 a2) : (State.answer s a1 a2).chans = s.chans := (State.answer_in ..).same .chans rfl
@[simp] theorem State.answer_slices (s a1 a2) : (State.answer s a1 a2).slices = s.slices :=
  (State.answer_in ..).same .slices rfl
@[simp] theorem State.answer_links (s a1 a2) : (State.answer s a1 a2).links = s.links := (State.answer_in ..).same .links rfl
@[simp] theorem State.answer_um (s a1 a2) : (State.answer s a1 a2).um = s.um := (State.answer_in ..).same .um rfl
@[simp] theorem State.answer_pw (s a1 a2) : (State.answer s a1 a2).pw = s.pw := (State.answer_in ..).same .pw rfl
@[simp] theorem State.answer_rs (s a1 a2) : (State.answer s a1 a2).rs = s.rs := (State.answer_in ..).same .rs rfl
@[simp] theorem State.answer_cl (s a1 a2) : (State.answer s a1 a2).cl = s.cl := (State.answer_in ..).same .cl rfl
@[simp] theorem State.answer_tw (s a1 a2) : (State.answer s a1 a2).tw = s.tw := (State.answer_in ..).same .tw rfl
@[simp] theorem State.answer_sec (s a1 a2) : (State.answer s a1 a2).sec = s.sec := (State.answer_in ..).same .sec rfl
@[simp] theorem State.answer_flash (s a1 a2) : (State.answer s a1 a2).flash = s.flash := (State.answer_in ..).same .flash rfl
@[simp] theorem State.answer_image (s a1 a2) : (State.answer s a1 a2).image = s.image := (State.answer_in ..).same .image rfl
@[simp] theorem State.answer_fresh (s a1 a2) : (State.answer s a1 a2).fresh = s.fresh := (State.answer_in ..).same .fresh rfl
@[simp] theorem State.answer_out (s a1 a2) : (State.answer s a1 a2).out = s.out := (State.answer_in ..).same .out rfl
@[simp] theorem State.answer_hot (s a1 a2) : (State.answer s a1 a2).hot = s.hot := (State.answer_in ..).same .hot rfl
@[simp] theorem State.answer_eg (s a1 a2) : (State.answer s a1 a2).eg = s.eg := (State.answer_in ..).same .eg rfl
@[simp] theorem State.answer_calDue (s a1 a2) : (State.answer s a1 a2).calDue = s.calDue :=
  (State.answer_in ..).same .calDue rfl
@[simp] theorem State.clearPending_pending (s a1) : (State.clearPending s a1).pending = s.pending :=
  (State.clearPending_in ..).same .pending rfl
@[simp] theorem State.clearPending_ticks (s a1) : (State.clearPending s a1).ticks = s.ticks :=
  (State.clearPending_in ..).same .ticks rfl
@[simp] theorem State.clearPending_aon (s a1) : (State.clearPending s a1).aon = s.aon :=
  (State.clearPending_in ..).same .aon rfl
@[simp] theorem State.clearPending_aonLeft (s a1) : (State.clearPending s a1).aonLeft = s.aonLeft :=
  (State.clearPending_in ..).same .aonLeft rfl
@[simp] theorem State.clearPending_core (s a1) : (State.clearPending s a1).core = s.core :=
  (State.clearPending_in ..).same .core rfl
@[simp] theorem State.clearPending_coreQ (s a1) : (State.clearPending s a1).coreQ = s.coreQ :=
  (State.clearPending_in ..).same .coreQ rfl
@[simp] theorem State.clearPending_gen (s a1) : (State.clearPending s a1).gen = s.gen :=
  (State.clearPending_in ..).same .gen rfl
@[simp] theorem State.clearPending_staged (s a1) : (State.clearPending s a1).staged = s.staged :=
  (State.clearPending_in ..).same .staged rfl
@[simp] theorem State.clearPending_latches (s a1) : (State.clearPending s a1).latches = s.latches :=
  (State.clearPending_in ..).same .latches rfl
@[simp] theorem State.clearPending_heldWr (s a1) : (State.clearPending s a1).heldWr = s.heldWr :=
  (State.clearPending_in ..).same .heldWr rfl
@[simp] theorem State.clearPending_tk (s a1) : (State.clearPending s a1).tk = s.tk := (State.clearPending_in ..).same .tk rfl
@[simp] theorem State.clearPending_log (s a1) : (State.clearPending s a1).log = s.log :=
  (State.clearPending_in ..).same .log rfl
@[simp] theorem State.clearPending_calBad (s a1) : (State.clearPending s a1).calBad = s.calBad :=
  (State.clearPending_in ..).same .calBad rfl
@[simp] theorem State.clearPending_pails (s a1) : (State.clearPending s a1).pails = s.pails :=
  (State.clearPending_in ..).same .pails rfl
@[simp] theorem State.clearPending_banks (s a1) : (State.clearPending s a1).banks = s.banks :=
  (State.clearPending_in ..).same .banks rfl
@[simp] theorem State.clearPending_repairDue (s a1) : (State.clearPending s a1).repairDue = s.repairDue :=
  (State.clearPending_in ..).same .repairDue rfl
@[simp] theorem State.clearPending_units (s a1) : (State.clearPending s a1).units = s.units :=
  (State.clearPending_in ..).same .units rfl
@[simp] theorem State.clearPending_groups (s a1) : (State.clearPending s a1).groups = s.groups :=
  (State.clearPending_in ..).same .groups rfl
@[simp] theorem State.clearPending_spares (s a1) : (State.clearPending s a1).spares = s.spares :=
  (State.clearPending_in ..).same .spares rfl
@[simp] theorem State.clearPending_chans (s a1) : (State.clearPending s a1).chans = s.chans :=
  (State.clearPending_in ..).same .chans rfl
@[simp] theorem State.clearPending_slices (s a1) : (State.clearPending s a1).slices = s.slices :=
  (State.clearPending_in ..).same .slices rfl
@[simp] theorem State.clearPending_ports (s a1) : (State.clearPending s a1).ports = s.ports :=
  (State.clearPending_in ..).same .ports rfl
@[simp] theorem State.clearPending_links (s a1) : (State.clearPending s a1).links = s.links :=
  (State.clearPending_in ..).same .links rfl
@[simp] theorem State.clearPending_um (s a1) : (State.clearPending s a1).um = s.um := (State.clearPending_in ..).same .um rfl
@[simp] theorem State.clearPending_pw (s a1) : (State.clearPending s a1).pw = s.pw := (State.clearPending_in ..).same .pw rfl
@[simp] theorem State.clearPending_rs (s a1) : (State.clearPending s a1).rs = s.rs := (State.clearPending_in ..).same .rs rfl
@[simp] theorem State.clearPending_cl (s a1) : (State.clearPending s a1).cl = s.cl := (State.clearPending_in ..).same .cl rfl
@[simp] theorem State.clearPending_tw (s a1) : (State.clearPending s a1).tw = s.tw := (State.clearPending_in ..).same .tw rfl
@[simp] theorem State.clearPending_sec (s a1) : (State.clearPending s a1).sec = s.sec :=
  (State.clearPending_in ..).same .sec rfl
@[simp] theorem State.clearPending_flash (s a1) : (State.clearPending s a1).flash = s.flash :=
  (State.clearPending_in ..).same .flash rfl
@[simp] theorem State.clearPending_image (s a1) : (State.clearPending s a1).image = s.image :=
  (State.clearPending_in ..).same .image rfl
@[simp] theorem State.clearPending_fresh (s a1) : (State.clearPending s a1).fresh = s.fresh :=
  (State.clearPending_in ..).same .fresh rfl
@[simp] theorem State.clearPending_out (s a1) : (State.clearPending s a1).out = s.out :=
  (State.clearPending_in ..).same .out rfl
@[simp] theorem State.clearPending_hot (s a1) : (State.clearPending s a1).hot = s.hot :=
  (State.clearPending_in ..).same .hot rfl
@[simp] theorem State.clearPending_eg (s a1) : (State.clearPending s a1).eg = s.eg := (State.clearPending_in ..).same .eg rfl
@[simp] theorem State.clearPending_calDue (s a1) : (State.clearPending s a1).calDue = s.calDue :=
  (State.clearPending_in ..).same .calDue rfl
@[simp] theorem State.lastAt_pending (s) : (State.lastAt s).pending = s.pending := (State.lastAt_in ..).same .pending rfl
@[simp] theorem State.lastAt_ticks (s) : (State.lastAt s).ticks = s.ticks := (State.lastAt_in ..).same .ticks rfl
@[simp] theorem State.lastAt_aon (s) : (State.lastAt s).aon = s.aon := (State.lastAt_in ..).same .aon rfl
@[simp] theorem State.lastAt_aonLeft (s) : (State.lastAt s).aonLeft = s.aonLeft := (State.lastAt_in ..).same .aonLeft rfl
@[simp] theorem State.lastAt_core (s) : (State.lastAt s).core = s.core := (State.lastAt_in ..).same .core rfl
@[simp] theorem State.lastAt_coreQ (s) : (State.lastAt s).coreQ = s.coreQ := (State.lastAt_in ..).same .coreQ rfl
@[simp] theorem State.lastAt_gen (s) : (State.lastAt s).gen = s.gen := (State.lastAt_in ..).same .gen rfl
@[simp] theorem State.lastAt_staged (s) : (State.lastAt s).staged = s.staged := (State.lastAt_in ..).same .staged rfl
@[simp] theorem State.lastAt_latches (s) : (State.lastAt s).latches = s.latches := (State.lastAt_in ..).same .latches rfl
@[simp] theorem State.lastAt_heldWr (s) : (State.lastAt s).heldWr = s.heldWr := (State.lastAt_in ..).same .heldWr rfl
@[simp] theorem State.lastAt_tk (s) : (State.lastAt s).tk = s.tk := (State.lastAt_in ..).same .tk rfl
@[simp] theorem State.lastAt_log (s) : (State.lastAt s).log = s.log := (State.lastAt_in ..).same .log rfl
@[simp] theorem State.lastAt_calBad (s) : (State.lastAt s).calBad = s.calBad := (State.lastAt_in ..).same .calBad rfl
@[simp] theorem State.lastAt_pails (s) : (State.lastAt s).pails = s.pails := (State.lastAt_in ..).same .pails rfl
@[simp] theorem State.lastAt_banks (s) : (State.lastAt s).banks = s.banks := (State.lastAt_in ..).same .banks rfl
@[simp] theorem State.lastAt_repairDue (s) : (State.lastAt s).repairDue = s.repairDue :=
  (State.lastAt_in ..).same .repairDue rfl
@[simp] theorem State.lastAt_units (s) : (State.lastAt s).units = s.units := (State.lastAt_in ..).same .units rfl
@[simp] theorem State.lastAt_groups (s) : (State.lastAt s).groups = s.groups := (State.lastAt_in ..).same .groups rfl
@[simp] theorem State.lastAt_spares (s) : (State.lastAt s).spares = s.spares := (State.lastAt_in ..).same .spares rfl
@[simp] theorem State.lastAt_chans (s) : (State.lastAt s).chans = s.chans := (State.lastAt_in ..).same .chans rfl
@[simp] theorem State.lastAt_slices (s) : (State.lastAt s).slices = s.slices := (State.lastAt_in ..).same .slices rfl
@[simp] theorem State.lastAt_ports (s) : (State.lastAt s).ports = s.ports := (State.lastAt_in ..).same .ports rfl
@[simp] theorem State.lastAt_links (s) : (State.lastAt s).links = s.links := (State.lastAt_in ..).same .links rfl
@[simp] theorem State.lastAt_um (s) : (State.lastAt s).um = s.um := (State.lastAt_in ..).same .um rfl
@[simp] theorem State.lastAt_pw (s) : (State.lastAt s).pw = s.pw := (State.lastAt_in ..).same .pw rfl
@[simp] theorem State.lastAt_rs (s) : (State.lastAt s).rs = s.rs := (State.lastAt_in ..).same .rs rfl
@[simp] theorem State.lastAt_cl (s) : (State.lastAt s).cl = s.cl := (State.lastAt_in ..).same .cl rfl
@[simp] theorem State.lastAt_tw (s) : (State.lastAt s).tw = s.tw := (State.lastAt_in ..).same .tw rfl
@[simp] theorem State.lastAt_sec (s) : (State.lastAt s).sec = s.sec := (State.lastAt_in ..).same .sec rfl
@[simp] theorem State.lastAt_flash (s) : (State.lastAt s).flash = s.flash := (State.lastAt_in ..).same .flash rfl
@[simp] theorem State.lastAt_image (s) : (State.lastAt s).image = s.image := (State.lastAt_in ..).same .image rfl
@[simp] theorem State.lastAt_fresh (s) : (State.lastAt s).fresh = s.fresh := (State.lastAt_in ..).same .fresh rfl
@[simp] theorem State.lastAt_out (s) : (State.lastAt s).out = s.out := (State.lastAt_in ..).same .out rfl
@[simp] theorem State.lastAt_hot (s) : (State.lastAt s).hot = s.hot := (State.lastAt_in ..).same .hot rfl
@[simp] theorem State.lastAt_eg (s) : (State.lastAt s).eg = s.eg := (State.lastAt_in ..).same .eg rfl
@[simp] theorem State.lastAt_calDue (s) : (State.lastAt s).calDue = s.calDue := (State.lastAt_in ..).same .calDue rfl
@[simp] theorem State.tlChange_pending (s a1 a2) : (State.tlChange s a1 a2).pending = s.pending :=
  (State.tlChange_in ..).same .pending rfl
@[simp] theorem State.tlChange_ticks (s a1 a2) : (State.tlChange s a1 a2).ticks = s.ticks :=
  (State.tlChange_in ..).same .ticks rfl
@[simp] theorem State.tlChange_aon (s a1 a2) : (State.tlChange s a1 a2).aon = s.aon := (State.tlChange_in ..).same .aon rfl
@[simp] theorem State.tlChange_aonLeft (s a1 a2) : (State.tlChange s a1 a2).aonLeft = s.aonLeft :=
  (State.tlChange_in ..).same .aonLeft rfl
@[simp] theorem State.tlChange_core (s a1 a2) : (State.tlChange s a1 a2).core = s.core :=
  (State.tlChange_in ..).same .core rfl
@[simp] theorem State.tlChange_coreQ (s a1 a2) : (State.tlChange s a1 a2).coreQ = s.coreQ :=
  (State.tlChange_in ..).same .coreQ rfl
@[simp] theorem State.tlChange_regs (s a1 a2) : (State.tlChange s a1 a2).regs = s.regs :=
  (State.tlChange_in ..).same .regs rfl
@[simp] theorem State.tlChange_gen (s a1 a2) : (State.tlChange s a1 a2).gen = s.gen := (State.tlChange_in ..).same .gen rfl
@[simp] theorem State.tlChange_staged (s a1 a2) : (State.tlChange s a1 a2).staged = s.staged :=
  (State.tlChange_in ..).same .staged rfl
@[simp] theorem State.tlChange_latches (s a1 a2) : (State.tlChange s a1 a2).latches = s.latches :=
  (State.tlChange_in ..).same .latches rfl
@[simp] theorem State.tlChange_heldWr (s a1 a2) : (State.tlChange s a1 a2).heldWr = s.heldWr :=
  (State.tlChange_in ..).same .heldWr rfl
@[simp] theorem State.tlChange_log (s a1 a2) : (State.tlChange s a1 a2).log = s.log := (State.tlChange_in ..).same .log rfl
@[simp] theorem State.tlChange_calBad (s a1 a2) : (State.tlChange s a1 a2).calBad = s.calBad :=
  (State.tlChange_in ..).same .calBad rfl
@[simp] theorem State.tlChange_pails (s a1 a2) : (State.tlChange s a1 a2).pails = s.pails :=
  (State.tlChange_in ..).same .pails rfl
@[simp] theorem State.tlChange_banks (s a1 a2) : (State.tlChange s a1 a2).banks = s.banks :=
  (State.tlChange_in ..).same .banks rfl
@[simp] theorem State.tlChange_repairDue (s a1 a2) : (State.tlChange s a1 a2).repairDue = s.repairDue :=
  (State.tlChange_in ..).same .repairDue rfl
@[simp] theorem State.tlChange_units (s a1 a2) : (State.tlChange s a1 a2).units = s.units :=
  (State.tlChange_in ..).same .units rfl
@[simp] theorem State.tlChange_groups (s a1 a2) : (State.tlChange s a1 a2).groups = s.groups :=
  (State.tlChange_in ..).same .groups rfl
@[simp] theorem State.tlChange_spares (s a1 a2) : (State.tlChange s a1 a2).spares = s.spares :=
  (State.tlChange_in ..).same .spares rfl
@[simp] theorem State.tlChange_chans (s a1 a2) : (State.tlChange s a1 a2).chans = s.chans :=
  (State.tlChange_in ..).same .chans rfl
@[simp] theorem State.tlChange_slices (s a1 a2) : (State.tlChange s a1 a2).slices = s.slices :=
  (State.tlChange_in ..).same .slices rfl
@[simp] theorem State.tlChange_ports (s a1 a2) : (State.tlChange s a1 a2).ports = s.ports :=
  (State.tlChange_in ..).same .ports rfl
@[simp] theorem State.tlChange_links (s a1 a2) : (State.tlChange s a1 a2).links = s.links :=
  (State.tlChange_in ..).same .links rfl
@[simp] theorem State.tlChange_um (s a1 a2) : (State.tlChange s a1 a2).um = s.um := (State.tlChange_in ..).same .um rfl
@[simp] theorem State.tlChange_pw (s a1 a2) : (State.tlChange s a1 a2).pw = s.pw := (State.tlChange_in ..).same .pw rfl
@[simp] theorem State.tlChange_rs (s a1 a2) : (State.tlChange s a1 a2).rs = s.rs := (State.tlChange_in ..).same .rs rfl
@[simp] theorem State.tlChange_cl (s a1 a2) : (State.tlChange s a1 a2).cl = s.cl := (State.tlChange_in ..).same .cl rfl
@[simp] theorem State.tlChange_tw (s a1 a2) : (State.tlChange s a1 a2).tw = s.tw := (State.tlChange_in ..).same .tw rfl
@[simp] theorem State.tlChange_sec (s a1 a2) : (State.tlChange s a1 a2).sec = s.sec := (State.tlChange_in ..).same .sec rfl
@[simp] theorem State.tlChange_flash (s a1 a2) : (State.tlChange s a1 a2).flash = s.flash :=
  (State.tlChange_in ..).same .flash rfl
@[simp] theorem State.tlChange_image (s a1 a2) : (State.tlChange s a1 a2).image = s.image :=
  (State.tlChange_in ..).same .image rfl
@[simp] theorem State.tlChange_fresh (s a1 a2) : (State.tlChange s a1 a2).fresh = s.fresh :=
  (State.tlChange_in ..).same .fresh rfl
@[simp] theorem State.tlChange_out (s a1 a2) : (State.tlChange s a1 a2).out = s.out := (State.tlChange_in ..).same .out rfl
@[simp] theorem State.tlChange_hot (s a1 a2) : (State.tlChange s a1 a2).hot = s.hot := (State.tlChange_in ..).same .hot rfl
@[simp] theorem State.tlChange_eg (s a1 a2) : (State.tlChange s a1 a2).eg = s.eg := (State.tlChange_in ..).same .eg rfl
@[simp] theorem State.tlChange_calDue (s a1 a2) : (State.tlChange s a1 a2).calDue = s.calDue :=
  (State.tlChange_in ..).same .calDue rfl
@[simp] theorem State.setUncert_pending (s a1) : (State.setUncert s a1).pending = s.pending :=
  (State.setUncert_in ..).same .pending rfl
@[simp] theorem State.setUncert_ticks (s a1) : (State.setUncert s a1).ticks = s.ticks :=
  (State.setUncert_in ..).same .ticks rfl
@[simp] theorem State.setUncert_aon (s a1) : (State.setUncert s a1).aon = s.aon := (State.setUncert_in ..).same .aon rfl
@[simp] theorem State.setUncert_aonLeft (s a1) : (State.setUncert s a1).aonLeft = s.aonLeft :=
  (State.setUncert_in ..).same .aonLeft rfl
@[simp] theorem State.setUncert_core (s a1) : (State.setUncert s a1).core = s.core := (State.setUncert_in ..).same .core rfl
@[simp] theorem State.setUncert_coreQ (s a1) : (State.setUncert s a1).coreQ = s.coreQ :=
  (State.setUncert_in ..).same .coreQ rfl
@[simp] theorem State.setUncert_gen (s a1) : (State.setUncert s a1).gen = s.gen := (State.setUncert_in ..).same .gen rfl
@[simp] theorem State.setUncert_staged (s a1) : (State.setUncert s a1).staged = s.staged :=
  (State.setUncert_in ..).same .staged rfl
@[simp] theorem State.setUncert_latches (s a1) : (State.setUncert s a1).latches = s.latches :=
  (State.setUncert_in ..).same .latches rfl
@[simp] theorem State.setUncert_heldWr (s a1) : (State.setUncert s a1).heldWr = s.heldWr :=
  (State.setUncert_in ..).same .heldWr rfl
@[simp] theorem State.setUncert_log (s a1) : (State.setUncert s a1).log = s.log := (State.setUncert_in ..).same .log rfl
@[simp] theorem State.setUncert_calBad (s a1) : (State.setUncert s a1).calBad = s.calBad :=
  (State.setUncert_in ..).same .calBad rfl
@[simp] theorem State.setUncert_pails (s a1) : (State.setUncert s a1).pails = s.pails :=
  (State.setUncert_in ..).same .pails rfl
@[simp] theorem State.setUncert_banks (s a1) : (State.setUncert s a1).banks = s.banks :=
  (State.setUncert_in ..).same .banks rfl
@[simp] theorem State.setUncert_repairDue (s a1) : (State.setUncert s a1).repairDue = s.repairDue :=
  (State.setUncert_in ..).same .repairDue rfl
@[simp] theorem State.setUncert_units (s a1) : (State.setUncert s a1).units = s.units :=
  (State.setUncert_in ..).same .units rfl
@[simp] theorem State.setUncert_groups (s a1) : (State.setUncert s a1).groups = s.groups :=
  (State.setUncert_in ..).same .groups rfl
@[simp] theorem State.setUncert_spares (s a1) : (State.setUncert s a1).spares = s.spares :=
  (State.setUncert_in ..).same .spares rfl
@[simp] theorem State.setUncert_chans (s a1) : (State.setUncert s a1).chans = s.chans :=
  (State.setUncert_in ..).same .chans rfl
@[simp] theorem State.setUncert_slices (s a1) : (State.setUncert s a1).slices = s.slices :=
  (State.setUncert_in ..).same .slices rfl
@[simp] theorem State.setUncert_ports (s a1) : (State.setUncert s a1).ports = s.ports :=
  (State.setUncert_in ..).same .ports rfl
@[simp] theorem State.setUncert_links (s a1) : (State.setUncert s a1).links = s.links :=
  (State.setUncert_in ..).same .links rfl
@[simp] theorem State.setUncert_um (s a1) : (State.setUncert s a1).um = s.um := (State.setUncert_in ..).same .um rfl
@[simp] theorem State.setUncert_pw (s a1) : (State.setUncert s a1).pw = s.pw := (State.setUncert_in ..).same .pw rfl
@[simp] theorem State.setUncert_rs (s a1) : (State.setUncert s a1).rs = s.rs := (State.setUncert_in ..).same .rs rfl
@[simp] theorem State.setUncert_cl (s a1) : (State.setUncert s a1).cl = s.cl := (State.setUncert_in ..).same .cl rfl
@[simp] theorem State.setUncert_tw (s a1) : (State.setUncert s a1).tw = s.tw := (State.setUncert_in ..).same .tw rfl
@[simp] theorem State.setUncert_sec (s a1) : (State.setUncert s a1).sec = s.sec := (State.setUncert_in ..).same .sec rfl
@[simp] theorem State.setUncert_flash (s a1) : (State.setUncert s a1).flash = s.flash :=
  (State.setUncert_in ..).same .flash rfl
@[simp] theorem State.setUncert_image (s a1) : (State.setUncert s a1).image = s.image :=
  (State.setUncert_in ..).same .image rfl
@[simp] theorem State.setUncert_fresh (s a1) : (State.setUncert s a1).fresh = s.fresh :=
  (State.setUncert_in ..).same .fresh rfl
@[simp] theorem State.setUncert_out (s a1) : (State.setUncert s a1).out = s.out := (State.setUncert_in ..).same .out rfl
@[simp] theorem State.setUncert_hot (s a1) : (State.setUncert s a1).hot = s.hot := (State.setUncert_in ..).same .hot rfl
@[simp] theorem State.setUncert_eg (s a1) : (State.setUncert s a1).eg = s.eg := (State.setUncert_in ..).same .eg rfl
@[simp] theorem State.setUncert_calDue (s a1) : (State.setUncert s a1).calDue = s.calDue :=
  (State.setUncert_in ..).same .calDue rfl
@[simp] theorem State.evSec_pending (s a1) : (State.evSec s a1).pending = s.pending := (State.evSec_in ..).same .pending rfl
@[simp] theorem State.evSec_ticks (s a1) : (State.evSec s a1).ticks = s.ticks := (State.evSec_in ..).same .ticks rfl
@[simp] theorem State.evSec_aon (s a1) : (State.evSec s a1).aon = s.aon := (State.evSec_in ..).same .aon rfl
@[simp] theorem State.evSec_aonLeft (s a1) : (State.evSec s a1).aonLeft = s.aonLeft := (State.evSec_in ..).same .aonLeft rfl
@[simp] theorem State.evSec_core (s a1) : (State.evSec s a1).core = s.core := (State.evSec_in ..).same .core rfl
@[simp] theorem State.evSec_coreQ (s a1) : (State.evSec s a1).coreQ = s.coreQ := (State.evSec_in ..).same .coreQ rfl
@[simp] theorem State.evSec_gen (s a1) : (State.evSec s a1).gen = s.gen := (State.evSec_in ..).same .gen rfl
@[simp] theorem State.evSec_staged (s a1) : (State.evSec s a1).staged = s.staged := (State.evSec_in ..).same .staged rfl
@[simp] theorem State.evSec_latches (s a1) : (State.evSec s a1).latches = s.latches := (State.evSec_in ..).same .latches rfl
@[simp] theorem State.evSec_heldWr (s a1) : (State.evSec s a1).heldWr = s.heldWr := (State.evSec_in ..).same .heldWr rfl
@[simp] theorem State.evSec_tk (s a1) : (State.evSec s a1).tk = s.tk := (State.evSec_in ..).same .tk rfl
@[simp] theorem State.evSec_calBad (s a1) : (State.evSec s a1).calBad = s.calBad := (State.evSec_in ..).same .calBad rfl
@[simp] theorem State.evSec_pails (s a1) : (State.evSec s a1).pails = s.pails := (State.evSec_in ..).same .pails rfl
@[simp] theorem State.evSec_banks (s a1) : (State.evSec s a1).banks = s.banks := (State.evSec_in ..).same .banks rfl
@[simp] theorem State.evSec_repairDue (s a1) : (State.evSec s a1).repairDue = s.repairDue :=
  (State.evSec_in ..).same .repairDue rfl
@[simp] theorem State.evSec_units (s a1) : (State.evSec s a1).units = s.units := (State.evSec_in ..).same .units rfl
@[simp] theorem State.evSec_groups (s a1) : (State.evSec s a1).groups = s.groups := (State.evSec_in ..).same .groups rfl
@[simp] theorem State.evSec_spares (s a1) : (State.evSec s a1).spares = s.spares := (State.evSec_in ..).same .spares rfl
@[simp] theorem State.evSec_chans (s a1) : (State.evSec s a1).chans = s.chans := (State.evSec_in ..).same .chans rfl
@[simp] theorem State.evSec_slices (s a1) : (State.evSec s a1).slices = s.slices := (State.evSec_in ..).same .slices rfl
@[simp] theorem State.evSec_ports (s a1) : (State.evSec s a1).ports = s.ports := (State.evSec_in ..).same .ports rfl
@[simp] theorem State.evSec_um (s a1) : (State.evSec s a1).um = s.um := (State.evSec_in ..).same .um rfl
@[simp] theorem State.evSec_pw (s a1) : (State.evSec s a1).pw = s.pw := (State.evSec_in ..).same .pw rfl
@[simp] theorem State.evSec_rs (s a1) : (State.evSec s a1).rs = s.rs := (State.evSec_in ..).same .rs rfl
@[simp] theorem State.evSec_cl (s a1) : (State.evSec s a1).cl = s.cl := (State.evSec_in ..).same .cl rfl
@[simp] theorem State.evSec_tw (s a1) : (State.evSec s a1).tw = s.tw := (State.evSec_in ..).same .tw rfl
@[simp] theorem State.evSec_sec (s a1) : (State.evSec s a1).sec = s.sec := (State.evSec_in ..).same .sec rfl
@[simp] theorem State.evSec_flash (s a1) : (State.evSec s a1).flash = s.flash := (State.evSec_in ..).same .flash rfl
@[simp] theorem State.evSec_image (s a1) : (State.evSec s a1).image = s.image := (State.evSec_in ..).same .image rfl
@[simp] theorem State.evSec_fresh (s a1) : (State.evSec s a1).fresh = s.fresh := (State.evSec_in ..).same .fresh rfl
@[simp] theorem State.evSec_eg (s a1) : (State.evSec s a1).eg = s.eg := (State.evSec_in ..).same .eg rfl
@[simp] theorem State.evSec_calDue (s a1) : (State.evSec s a1).calDue = s.calDue := (State.evSec_in ..).same .calDue rfl
@[simp] theorem State.refuseEcho_pending (s a1 a2 a3) : (State.refuseEcho s a1 a2 a3).pending = s.pending :=
  (State.refuseEcho_in ..).same .pending rfl
@[simp] theorem State.refuseEcho_ticks (s a1 a2 a3) : (State.refuseEcho s a1 a2 a3).ticks = s.ticks :=
  (State.refuseEcho_in ..).same .ticks rfl
@[simp] theorem State.refuseEcho_aon (s a1 a2 a3) : (State.refuseEcho s a1 a2 a3).aon = s.aon :=
  (State.refuseEcho_in ..).same .aon rfl
@[simp] theorem State.refuseEcho_aonLeft (s a1 a2 a3) : (State.refuseEcho s a1 a2 a3).aonLeft = s.aonLeft :=
  (State.refuseEcho_in ..).same .aonLeft rfl
@[simp] theorem State.refuseEcho_core (s a1 a2 a3) : (State.refuseEcho s a1 a2 a3).core = s.core :=
  (State.refuseEcho_in ..).same .core rfl
@[simp] theorem State.refuseEcho_coreQ (s a1 a2 a3) : (State.refuseEcho s a1 a2 a3).coreQ = s.coreQ :=
  (State.refuseEcho_in ..).same .coreQ rfl
@[simp] theorem State.refuseEcho_regs (s a1 a2 a3) : (State.refuseEcho s a1 a2 a3).regs = s.regs :=
  (State.refuseEcho_in ..).same .regs rfl
@[simp] theorem State.refuseEcho_gen (s a1 a2 a3) : (State.refuseEcho s a1 a2 a3).gen = s.gen :=
  (State.refuseEcho_in ..).same .gen rfl
@[simp] theorem State.refuseEcho_staged (s a1 a2 a3) : (State.refuseEcho s a1 a2 a3).staged = s.staged :=
  (State.refuseEcho_in ..).same .staged rfl
@[simp] theorem State.refuseEcho_latches (s a1 a2 a3) : (State.refuseEcho s a1 a2 a3).latches = s.latches :=
  (State.refuseEcho_in ..).same .latches rfl
@[simp] theorem State.refuseEcho_heldWr (s a1 a2 a3) : (State.refuseEcho s a1 a2 a3).heldWr = s.heldWr :=
  (State.refuseEcho_in ..).same .heldWr rfl
@[simp] theorem State.refuseEcho_tk (s a1 a2 a3) : (State.refuseEcho s a1 a2 a3).tk = s.tk :=
  (State.refuseEcho_in ..).same .tk rfl
@[simp] theorem State.refuseEcho_log (s a1 a2 a3) : (State.refuseEcho s a1 a2 a3).log = s.log :=
  (State.refuseEcho_in ..).same .log rfl
@[simp] theorem State.refuseEcho_calBad (s a1 a2 a3) : (State.refuseEcho s a1 a2 a3).calBad = s.calBad :=
  (State.refuseEcho_in ..).same .calBad rfl
@[simp] theorem State.refuseEcho_pails (s a1 a2 a3) : (State.refuseEcho s a1 a2 a3).pails = s.pails :=
  (State.refuseEcho_in ..).same .pails rfl
@[simp] theorem State.refuseEcho_banks (s a1 a2 a3) : (State.refuseEcho s a1 a2 a3).banks = s.banks :=
  (State.refuseEcho_in ..).same .banks rfl
@[simp] theorem State.refuseEcho_repairDue (s a1 a2 a3) : (State.refuseEcho s a1 a2 a3).repairDue = s.repairDue :=
  (State.refuseEcho_in ..).same .repairDue rfl
@[simp] theorem State.refuseEcho_units (s a1 a2 a3) : (State.refuseEcho s a1 a2 a3).units = s.units :=
  (State.refuseEcho_in ..).same .units rfl
@[simp] theorem State.refuseEcho_groups (s a1 a2 a3) : (State.refuseEcho s a1 a2 a3).groups = s.groups :=
  (State.refuseEcho_in ..).same .groups rfl
@[simp] theorem State.refuseEcho_spares (s a1 a2 a3) : (State.refuseEcho s a1 a2 a3).spares = s.spares :=
  (State.refuseEcho_in ..).same .spares rfl
@[simp] theorem State.refuseEcho_chans (s a1 a2 a3) : (State.refuseEcho s a1 a2 a3).chans = s.chans :=
  (State.refuseEcho_in ..).same .chans rfl
@[simp] theorem State.refuseEcho_slices (s a1 a2 a3) : (State.refuseEcho s a1 a2 a3).slices = s.slices :=
  (State.refuseEcho_in ..).same .slices rfl
@[simp] theorem State.refuseEcho_ports (s a1 a2 a3) : (State.refuseEcho s a1 a2 a3).ports = s.ports :=
  (State.refuseEcho_in ..).same .ports rfl
@[simp] theorem State.refuseEcho_links (s a1 a2 a3) : (State.refuseEcho s a1 a2 a3).links = s.links :=
  (State.refuseEcho_in ..).same .links rfl
@[simp] theorem State.refuseEcho_pw (s a1 a2 a3) : (State.refuseEcho s a1 a2 a3).pw = s.pw :=
  (State.refuseEcho_in ..).same .pw rfl
@[simp] theorem State.refuseEcho_rs (s a1 a2 a3) : (State.refuseEcho s a1 a2 a3).rs = s.rs :=
  (State.refuseEcho_in ..).same .rs rfl
@[simp] theorem State.refuseEcho_cl (s a1 a2 a3) : (State.refuseEcho s a1 a2 a3).cl = s.cl :=
  (State.refuseEcho_in ..).same .cl rfl
@[simp] theorem State.refuseEcho_tw (s a1 a2 a3) : (State.refuseEcho s a1 a2 a3).tw = s.tw :=
  (State.refuseEcho_in ..).same .tw rfl
@[simp] theorem State.refuseEcho_sec (s a1 a2 a3) : (State.refuseEcho s a1 a2 a3).sec = s.sec :=
  (State.refuseEcho_in ..).same .sec rfl
@[simp] theorem State.refuseEcho_flash (s a1 a2 a3) : (State.refuseEcho s a1 a2 a3).flash = s.flash :=
  (State.refuseEcho_in ..).same .flash rfl
@[simp] theorem State.refuseEcho_image (s a1 a2 a3) : (State.refuseEcho s a1 a2 a3).image = s.image :=
  (State.refuseEcho_in ..).same .image rfl
@[simp] theorem State.refuseEcho_fresh (s a1 a2 a3) : (State.refuseEcho s a1 a2 a3).fresh = s.fresh :=
  (State.refuseEcho_in ..).same .fresh rfl
@[simp] theorem State.refuseEcho_out (s a1 a2 a3) : (State.refuseEcho s a1 a2 a3).out = s.out :=
  (State.refuseEcho_in ..).same .out rfl
@[simp] theorem State.refuseEcho_hot (s a1 a2 a3) : (State.refuseEcho s a1 a2 a3).hot = s.hot :=
  (State.refuseEcho_in ..).same .hot rfl
@[simp] theorem State.refuseEcho_eg (s a1 a2 a3) : (State.refuseEcho s a1 a2 a3).eg = s.eg :=
  (State.refuseEcho_in ..).same .eg rfl
@[simp] theorem State.refuseEcho_calDue (s a1 a2 a3) : (State.refuseEcho s a1 a2 a3).calDue = s.calDue :=
  (State.refuseEcho_in ..).same .calDue rfl
@[simp] theorem State.evRs_pending (s a1) : (State.evRs s a1).pending = s.pending := (State.evRs_in ..).same .pending rfl
@[simp] theorem State.evRs_ticks (s a1) : (State.evRs s a1).ticks = s.ticks := (State.evRs_in ..).same .ticks rfl
@[simp] theorem State.evRs_aon (s a1) : (State.evRs s a1).aon = s.aon := (State.evRs_in ..).same .aon rfl
@[simp] theorem State.evRs_aonLeft (s a1) : (State.evRs s a1).aonLeft = s.aonLeft := (State.evRs_in ..).same .aonLeft rfl
@[simp] theorem State.evRs_core (s a1) : (State.evRs s a1).core = s.core := (State.evRs_in ..).same .core rfl
@[simp] theorem State.evRs_coreQ (s a1) : (State.evRs s a1).coreQ = s.coreQ := (State.evRs_in ..).same .coreQ rfl
@[simp] theorem State.evRs_gen (s a1) : (State.evRs s a1).gen = s.gen := (State.evRs_in ..).same .gen rfl
@[simp] theorem State.evRs_staged (s a1) : (State.evRs s a1).staged = s.staged := (State.evRs_in ..).same .staged rfl
@[simp] theorem State.evRs_latches (s a1) : (State.evRs s a1).latches = s.latches := (State.evRs_in ..).same .latches rfl
@[simp] theorem State.evRs_heldWr (s a1) : (State.evRs s a1).heldWr = s.heldWr := (State.evRs_in ..).same .heldWr rfl
@[simp] theorem State.evRs_tk (s a1) : (State.evRs s a1).tk = s.tk := (State.evRs_in ..).same .tk rfl
@[simp] theorem State.evRs_calBad (s a1) : (State.evRs s a1).calBad = s.calBad := (State.evRs_in ..).same .calBad rfl
@[simp] theorem State.evRs_pails (s a1) : (State.evRs s a1).pails = s.pails := (State.evRs_in ..).same .pails rfl
@[simp] theorem State.evRs_banks (s a1) : (State.evRs s a1).banks = s.banks := (State.evRs_in ..).same .banks rfl
@[simp] theorem State.evRs_repairDue (s a1) : (State.evRs s a1).repairDue = s.repairDue :=
  (State.evRs_in ..).same .repairDue rfl
@[simp] theorem State.evRs_units (s a1) : (State.evRs s a1).units = s.units := (State.evRs_in ..).same .units rfl
@[simp] theorem State.evRs_groups (s a1) : (State.evRs s a1).groups = s.groups := (State.evRs_in ..).same .groups rfl
@[simp] theorem State.evRs_spares (s a1) : (State.evRs s a1).spares = s.spares := (State.evRs_in ..).same .spares rfl
@[simp] theorem State.evRs_chans (s a1) : (State.evRs s a1).chans = s.chans := (State.evRs_in ..).same .chans rfl
@[simp] theorem State.evRs_slices (s a1) : (State.evRs s a1).slices = s.slices := (State.evRs_in ..).same .slices rfl
@[simp] theorem State.evRs_ports (s a1) : (State.evRs s a1).ports = s.ports := (State.evRs_in ..).same .ports rfl
@[simp] theorem State.evRs_um (s a1) : (State.evRs s a1).um = s.um := (State.evRs_in ..).same .um rfl
@[simp] theorem State.evRs_pw (s a1) : (State.evRs s a1).pw = s.pw := (State.evRs_in ..).same .pw rfl
@[simp] theorem State.evRs_cl (s a1) : (State.evRs s a1).cl = s.cl := (State.evRs_in ..).same .cl rfl
@[simp] theorem State.evRs_tw (s a1) : (State.evRs s a1).tw = s.tw := (State.evRs_in ..).same .tw rfl
@[simp] theorem State.evRs_sec (s a1) : (State.evRs s a1).sec = s.sec := (State.evRs_in ..).same .sec rfl
@[simp] theorem State.evRs_flash (s a1) : (State.evRs s a1).flash = s.flash := (State.evRs_in ..).same .flash rfl
@[simp] theorem State.evRs_image (s a1) : (State.evRs s a1).image = s.image := (State.evRs_in ..).same .image rfl
@[simp] theorem State.evRs_fresh (s a1) : (State.evRs s a1).fresh = s.fresh := (State.evRs_in ..).same .fresh rfl
@[simp] theorem State.evRs_eg (s a1) : (State.evRs s a1).eg = s.eg := (State.evRs_in ..).same .eg rfl
@[simp] theorem State.evRs_calDue (s a1) : (State.evRs s a1).calDue = s.calDue := (State.evRs_in ..).same .calDue rfl
@[simp] theorem State.updIde_pending (s a1 a2 a3) : (State.updIde s a1 a2 a3).pending = s.pending :=
  (State.updIde_in ..).same .pending rfl
@[simp] theorem State.updIde_ticks (s a1 a2 a3) : (State.updIde s a1 a2 a3).ticks = s.ticks :=
  (State.updIde_in ..).same .ticks rfl
@[simp] theorem State.updIde_aon (s a1 a2 a3) : (State.updIde s a1 a2 a3).aon = s.aon := (State.updIde_in ..).same .aon rfl
@[simp] theorem State.updIde_aonLeft (s a1 a2 a3) : (State.updIde s a1 a2 a3).aonLeft = s.aonLeft :=
  (State.updIde_in ..).same .aonLeft rfl
@[simp] theorem State.updIde_core (s a1 a2 a3) : (State.updIde s a1 a2 a3).core = s.core :=
  (State.updIde_in ..).same .core rfl
@[simp] theorem State.updIde_coreQ (s a1 a2 a3) : (State.updIde s a1 a2 a3).coreQ = s.coreQ :=
  (State.updIde_in ..).same .coreQ rfl
@[simp] theorem State.updIde_regs (s a1 a2 a3) : (State.updIde s a1 a2 a3).regs = s.regs :=
  (State.updIde_in ..).same .regs rfl
@[simp] theorem State.updIde_gen (s a1 a2 a3) : (State.updIde s a1 a2 a3).gen = s.gen := (State.updIde_in ..).same .gen rfl
@[simp] theorem State.updIde_staged (s a1 a2 a3) : (State.updIde s a1 a2 a3).staged = s.staged :=
  (State.updIde_in ..).same .staged rfl
@[simp] theorem State.updIde_latches (s a1 a2 a3) : (State.updIde s a1 a2 a3).latches = s.latches :=
  (State.updIde_in ..).same .latches rfl
@[simp] theorem State.updIde_heldWr (s a1 a2 a3) : (State.updIde s a1 a2 a3).heldWr = s.heldWr :=
  (State.updIde_in ..).same .heldWr rfl
@[simp] theorem State.updIde_tk (s a1 a2 a3) : (State.updIde s a1 a2 a3).tk = s.tk := (State.updIde_in ..).same .tk rfl
@[simp] theorem State.updIde_log (s a1 a2 a3) : (State.updIde s a1 a2 a3).log = s.log := (State.updIde_in ..).same .log rfl
@[simp] theorem State.updIde_calBad (s a1 a2 a3) : (State.updIde s a1 a2 a3).calBad = s.calBad :=
  (State.updIde_in ..).same .calBad rfl
@[simp] theorem State.updIde_pails (s a1 a2 a3) : (State.updIde s a1 a2 a3).pails = s.pails :=
  (State.updIde_in ..).same .pails rfl
@[simp] theorem State.updIde_banks (s a1 a2 a3) : (State.updIde s a1 a2 a3).banks = s.banks :=
  (State.updIde_in ..).same .banks rfl
@[simp] theorem State.updIde_repairDue (s a1 a2 a3) : (State.updIde s a1 a2 a3).repairDue = s.repairDue :=
  (State.updIde_in ..).same .repairDue rfl
@[simp] theorem State.updIde_units (s a1 a2 a3) : (State.updIde s a1 a2 a3).units = s.units :=
  (State.updIde_in ..).same .units rfl
@[simp] theorem State.updIde_groups (s a1 a2 a3) : (State.updIde s a1 a2 a3).groups = s.groups :=
  (State.updIde_in ..).same .groups rfl
@[simp] theorem State.updIde_spares (s a1 a2 a3) : (State.updIde s a1 a2 a3).spares = s.spares :=
  (State.updIde_in ..).same .spares rfl
@[simp] theorem State.updIde_chans (s a1 a2 a3) : (State.updIde s a1 a2 a3).chans = s.chans :=
  (State.updIde_in ..).same .chans rfl
@[simp] theorem State.updIde_slices (s a1 a2 a3) : (State.updIde s a1 a2 a3).slices = s.slices :=
  (State.updIde_in ..).same .slices rfl
@[simp] theorem State.updIde_ports (s a1 a2 a3) : (State.updIde s a1 a2 a3).ports = s.ports :=
  (State.updIde_in ..).same .ports rfl
@[simp] theorem State.updIde_um (s a1 a2 a3) : (State.updIde s a1 a2 a3).um = s.um := (State.updIde_in ..).same .um rfl
@[simp] theorem State.updIde_pw (s a1 a2 a3) : (State.updIde s a1 a2 a3).pw = s.pw := (State.updIde_in ..).same .pw rfl
@[simp] theorem State.updIde_rs (s a1 a2 a3) : (State.updIde s a1 a2 a3).rs = s.rs := (State.updIde_in ..).same .rs rfl
@[simp] theorem State.updIde_cl (s a1 a2 a3) : (State.updIde s a1 a2 a3).cl = s.cl := (State.updIde_in ..).same .cl rfl
@[simp] theorem State.updIde_tw (s a1 a2 a3) : (State.updIde s a1 a2 a3).tw = s.tw := (State.updIde_in ..).same .tw rfl
@[simp] theorem State.updIde_sec (s a1 a2 a3) : (State.updIde s a1 a2 a3).sec = s.sec := (State.updIde_in ..).same .sec rfl
@[simp] theorem State.updIde_flash (s a1 a2 a3) : (State.updIde s a1 a2 a3).flash = s.flash :=
  (State.updIde_in ..).same .flash rfl
@[simp] theorem State.updIde_image (s a1 a2 a3) : (State.updIde s a1 a2 a3).image = s.image :=
  (State.updIde_in ..).same .image rfl
@[simp] theorem State.updIde_fresh (s a1 a2 a3) : (State.updIde s a1 a2 a3).fresh = s.fresh :=
  (State.updIde_in ..).same .fresh rfl
@[simp] theorem State.updIde_out (s a1 a2 a3) : (State.updIde s a1 a2 a3).out = s.out := (State.updIde_in ..).same .out rfl
@[simp] theorem State.updIde_hot (s a1 a2 a3) : (State.updIde s a1 a2 a3).hot = s.hot := (State.updIde_in ..).same .hot rfl
@[simp] theorem State.updIde_eg (s a1 a2 a3) : (State.updIde s a1 a2 a3).eg = s.eg := (State.updIde_in ..).same .eg rfl
@[simp] theorem State.updIde_calDue (s a1 a2 a3) : (State.updIde s a1 a2 a3).calDue = s.calDue :=
  (State.updIde_in ..).same .calDue rfl
@[simp] theorem State.updSpdm_pending (s a1 a2) : (State.updSpdm s a1 a2).pending = s.pending :=
  (State.updSpdm_in ..).same .pending rfl
@[simp] theorem State.updSpdm_ticks (s a1 a2) : (State.updSpdm s a1 a2).ticks = s.ticks :=
  (State.updSpdm_in ..).same .ticks rfl
@[simp] theorem State.updSpdm_aon (s a1 a2) : (State.updSpdm s a1 a2).aon = s.aon := (State.updSpdm_in ..).same .aon rfl
@[simp] theorem State.updSpdm_aonLeft (s a1 a2) : (State.updSpdm s a1 a2).aonLeft = s.aonLeft :=
  (State.updSpdm_in ..).same .aonLeft rfl
@[simp] theorem State.updSpdm_core (s a1 a2) : (State.updSpdm s a1 a2).core = s.core := (State.updSpdm_in ..).same .core rfl
@[simp] theorem State.updSpdm_coreQ (s a1 a2) : (State.updSpdm s a1 a2).coreQ = s.coreQ :=
  (State.updSpdm_in ..).same .coreQ rfl
@[simp] theorem State.updSpdm_regs (s a1 a2) : (State.updSpdm s a1 a2).regs = s.regs := (State.updSpdm_in ..).same .regs rfl
@[simp] theorem State.updSpdm_gen (s a1 a2) : (State.updSpdm s a1 a2).gen = s.gen := (State.updSpdm_in ..).same .gen rfl
@[simp] theorem State.updSpdm_staged (s a1 a2) : (State.updSpdm s a1 a2).staged = s.staged :=
  (State.updSpdm_in ..).same .staged rfl
@[simp] theorem State.updSpdm_latches (s a1 a2) : (State.updSpdm s a1 a2).latches = s.latches :=
  (State.updSpdm_in ..).same .latches rfl
@[simp] theorem State.updSpdm_heldWr (s a1 a2) : (State.updSpdm s a1 a2).heldWr = s.heldWr :=
  (State.updSpdm_in ..).same .heldWr rfl
@[simp] theorem State.updSpdm_tk (s a1 a2) : (State.updSpdm s a1 a2).tk = s.tk := (State.updSpdm_in ..).same .tk rfl
@[simp] theorem State.updSpdm_log (s a1 a2) : (State.updSpdm s a1 a2).log = s.log := (State.updSpdm_in ..).same .log rfl
@[simp] theorem State.updSpdm_calBad (s a1 a2) : (State.updSpdm s a1 a2).calBad = s.calBad :=
  (State.updSpdm_in ..).same .calBad rfl
@[simp] theorem State.updSpdm_pails (s a1 a2) : (State.updSpdm s a1 a2).pails = s.pails :=
  (State.updSpdm_in ..).same .pails rfl
@[simp] theorem State.updSpdm_banks (s a1 a2) : (State.updSpdm s a1 a2).banks = s.banks :=
  (State.updSpdm_in ..).same .banks rfl
@[simp] theorem State.updSpdm_repairDue (s a1 a2) : (State.updSpdm s a1 a2).repairDue = s.repairDue :=
  (State.updSpdm_in ..).same .repairDue rfl
@[simp] theorem State.updSpdm_units (s a1 a2) : (State.updSpdm s a1 a2).units = s.units :=
  (State.updSpdm_in ..).same .units rfl
@[simp] theorem State.updSpdm_groups (s a1 a2) : (State.updSpdm s a1 a2).groups = s.groups :=
  (State.updSpdm_in ..).same .groups rfl
@[simp] theorem State.updSpdm_spares (s a1 a2) : (State.updSpdm s a1 a2).spares = s.spares :=
  (State.updSpdm_in ..).same .spares rfl
@[simp] theorem State.updSpdm_chans (s a1 a2) : (State.updSpdm s a1 a2).chans = s.chans :=
  (State.updSpdm_in ..).same .chans rfl
@[simp] theorem State.updSpdm_slices (s a1 a2) : (State.updSpdm s a1 a2).slices = s.slices :=
  (State.updSpdm_in ..).same .slices rfl
@[simp] theorem State.updSpdm_ports (s a1 a2) : (State.updSpdm s a1 a2).ports = s.ports :=
  (State.updSpdm_in ..).same .ports rfl
@[simp] theorem State.updSpdm_um (s a1 a2) : (State.updSpdm s a1 a2).um = s.um := (State.updSpdm_in ..).same .um rfl
@[simp] theorem State.updSpdm_pw (s a1 a2) : (State.updSpdm s a1 a2).pw = s.pw := (State.updSpdm_in ..).same .pw rfl
@[simp] theorem State.updSpdm_rs (s a1 a2) : (State.updSpdm s a1 a2).rs = s.rs := (State.updSpdm_in ..).same .rs rfl
@[simp] theorem State.updSpdm_cl (s a1 a2) : (State.updSpdm s a1 a2).cl = s.cl := (State.updSpdm_in ..).same .cl rfl
@[simp] theorem State.updSpdm_tw (s a1 a2) : (State.updSpdm s a1 a2).tw = s.tw := (State.updSpdm_in ..).same .tw rfl
@[simp] theorem State.updSpdm_flash (s a1 a2) : (State.updSpdm s a1 a2).flash = s.flash :=
  (State.updSpdm_in ..).same .flash rfl
@[simp] theorem State.updSpdm_image (s a1 a2) : (State.updSpdm s a1 a2).image = s.image :=
  (State.updSpdm_in ..).same .image rfl
@[simp] theorem State.updSpdm_fresh (s a1 a2) : (State.updSpdm s a1 a2).fresh = s.fresh :=
  (State.updSpdm_in ..).same .fresh rfl
@[simp] theorem State.updSpdm_out (s a1 a2) : (State.updSpdm s a1 a2).out = s.out := (State.updSpdm_in ..).same .out rfl
@[simp] theorem State.updSpdm_hot (s a1 a2) : (State.updSpdm s a1 a2).hot = s.hot := (State.updSpdm_in ..).same .hot rfl
@[simp] theorem State.updSpdm_eg (s a1 a2) : (State.updSpdm s a1 a2).eg = s.eg := (State.updSpdm_in ..).same .eg rfl
@[simp] theorem State.updSpdm_calDue (s a1 a2) : (State.updSpdm s a1 a2).calDue = s.calDue :=
  (State.updSpdm_in ..).same .calDue rfl
@[simp] theorem State.saveTime_pending (s) : (State.saveTime s).pending = s.pending :=
  (State.saveTime_in ..).same .pending rfl
@[simp] theorem State.saveTime_ticks (s) : (State.saveTime s).ticks = s.ticks := (State.saveTime_in ..).same .ticks rfl
@[simp] theorem State.saveTime_aon (s) : (State.saveTime s).aon = s.aon := (State.saveTime_in ..).same .aon rfl
@[simp] theorem State.saveTime_aonLeft (s) : (State.saveTime s).aonLeft = s.aonLeft :=
  (State.saveTime_in ..).same .aonLeft rfl
@[simp] theorem State.saveTime_core (s) : (State.saveTime s).core = s.core := (State.saveTime_in ..).same .core rfl
@[simp] theorem State.saveTime_coreQ (s) : (State.saveTime s).coreQ = s.coreQ := (State.saveTime_in ..).same .coreQ rfl
@[simp] theorem State.saveTime_regs (s) : (State.saveTime s).regs = s.regs := (State.saveTime_in ..).same .regs rfl
@[simp] theorem State.saveTime_gen (s) : (State.saveTime s).gen = s.gen := (State.saveTime_in ..).same .gen rfl
@[simp] theorem State.saveTime_staged (s) : (State.saveTime s).staged = s.staged := (State.saveTime_in ..).same .staged rfl
@[simp] theorem State.saveTime_latches (s) : (State.saveTime s).latches = s.latches :=
  (State.saveTime_in ..).same .latches rfl
@[simp] theorem State.saveTime_heldWr (s) : (State.saveTime s).heldWr = s.heldWr := (State.saveTime_in ..).same .heldWr rfl
@[simp] theorem State.saveTime_log (s) : (State.saveTime s).log = s.log := (State.saveTime_in ..).same .log rfl
@[simp] theorem State.saveTime_calBad (s) : (State.saveTime s).calBad = s.calBad := (State.saveTime_in ..).same .calBad rfl
@[simp] theorem State.saveTime_pails (s) : (State.saveTime s).pails = s.pails := (State.saveTime_in ..).same .pails rfl
@[simp] theorem State.saveTime_banks (s) : (State.saveTime s).banks = s.banks := (State.saveTime_in ..).same .banks rfl
@[simp] theorem State.saveTime_repairDue (s) : (State.saveTime s).repairDue = s.repairDue :=
  (State.saveTime_in ..).same .repairDue rfl
@[simp] theorem State.saveTime_units (s) : (State.saveTime s).units = s.units := (State.saveTime_in ..).same .units rfl
@[simp] theorem State.saveTime_groups (s) : (State.saveTime s).groups = s.groups := (State.saveTime_in ..).same .groups rfl
@[simp] theorem State.saveTime_spares (s) : (State.saveTime s).spares = s.spares := (State.saveTime_in ..).same .spares rfl
@[simp] theorem State.saveTime_chans (s) : (State.saveTime s).chans = s.chans := (State.saveTime_in ..).same .chans rfl
@[simp] theorem State.saveTime_slices (s) : (State.saveTime s).slices = s.slices := (State.saveTime_in ..).same .slices rfl
@[simp] theorem State.saveTime_ports (s) : (State.saveTime s).ports = s.ports := (State.saveTime_in ..).same .ports rfl
@[simp] theorem State.saveTime_links (s) : (State.saveTime s).links = s.links := (State.saveTime_in ..).same .links rfl
@[simp] theorem State.saveTime_um (s) : (State.saveTime s).um = s.um := (State.saveTime_in ..).same .um rfl
@[simp] theorem State.saveTime_pw (s) : (State.saveTime s).pw = s.pw := (State.saveTime_in ..).same .pw rfl
@[simp] theorem State.saveTime_rs (s) : (State.saveTime s).rs = s.rs := (State.saveTime_in ..).same .rs rfl
@[simp] theorem State.saveTime_cl (s) : (State.saveTime s).cl = s.cl := (State.saveTime_in ..).same .cl rfl
@[simp] theorem State.saveTime_tw (s) : (State.saveTime s).tw = s.tw := (State.saveTime_in ..).same .tw rfl
@[simp] theorem State.saveTime_sec (s) : (State.saveTime s).sec = s.sec := (State.saveTime_in ..).same .sec rfl
@[simp] theorem State.saveTime_flash (s) : (State.saveTime s).flash = s.flash := (State.saveTime_in ..).same .flash rfl
@[simp] theorem State.saveTime_image (s) : (State.saveTime s).image = s.image := (State.saveTime_in ..).same .image rfl
@[simp] theorem State.saveTime_fresh (s) : (State.saveTime s).fresh = s.fresh := (State.saveTime_in ..).same .fresh rfl
@[simp] theorem State.saveTime_out (s) : (State.saveTime s).out = s.out := (State.saveTime_in ..).same .out rfl
@[simp] theorem State.saveTime_hot (s) : (State.saveTime s).hot = s.hot := (State.saveTime_in ..).same .hot rfl
@[simp] theorem State.saveTime_eg (s) : (State.saveTime s).eg = s.eg := (State.saveTime_in ..).same .eg rfl
@[simp] theorem State.saveTime_calDue (s) : (State.saveTime s).calDue = s.calDue := (State.saveTime_in ..).same .calDue rfl
@[simp] theorem State.setCause_pending (s a1 a2) : (State.setCause s a1 a2).pending = s.pending :=
  (State.setCause_in ..).same .pending rfl
@[simp] theorem State.setCause_ticks (s a1 a2) : (State.setCause s a1 a2).ticks = s.ticks :=
  (State.setCause_in ..).same .ticks rfl
@[simp] theorem State.setCause_aon (s a1 a2) : (State.setCause s a1 a2).aon = s.aon := (State.setCause_in ..).same .aon rfl
@[simp] theorem State.setCause_aonLeft (s a1 a2) : (State.setCause s a1 a2).aonLeft = s.aonLeft :=
  (State.setCause_in ..).same .aonLeft rfl
@[simp] theorem State.setCause_core (s a1 a2) : (State.setCause s a1 a2).core = s.core :=
  (State.setCause_in ..).same .core rfl
@[simp] theorem State.setCause_coreQ (s a1 a2) : (State.setCause s a1 a2).coreQ = s.coreQ :=
  (State.setCause_in ..).same .coreQ rfl
@[simp] theorem State.setCause_gen (s a1 a2) : (State.setCause s a1 a2).gen = s.gen := (State.setCause_in ..).same .gen rfl
@[simp] theorem State.setCause_staged (s a1 a2) : (State.setCause s a1 a2).staged = s.staged :=
  (State.setCause_in ..).same .staged rfl
@[simp] theorem State.setCause_latches (s a1 a2) : (State.setCause s a1 a2).latches = s.latches :=
  (State.setCause_in ..).same .latches rfl
@[simp] theorem State.setCause_heldWr (s a1 a2) : (State.setCause s a1 a2).heldWr = s.heldWr :=
  (State.setCause_in ..).same .heldWr rfl
@[simp] theorem State.setCause_tk (s a1 a2) : (State.setCause s a1 a2).tk = s.tk := (State.setCause_in ..).same .tk rfl
@[simp] theorem State.setCause_calBad (s a1 a2) : (State.setCause s a1 a2).calBad = s.calBad :=
  (State.setCause_in ..).same .calBad rfl
@[simp] theorem State.setCause_pails (s a1 a2) : (State.setCause s a1 a2).pails = s.pails :=
  (State.setCause_in ..).same .pails rfl
@[simp] theorem State.setCause_banks (s a1 a2) : (State.setCause s a1 a2).banks = s.banks :=
  (State.setCause_in ..).same .banks rfl
@[simp] theorem State.setCause_repairDue (s a1 a2) : (State.setCause s a1 a2).repairDue = s.repairDue :=
  (State.setCause_in ..).same .repairDue rfl
@[simp] theorem State.setCause_units (s a1 a2) : (State.setCause s a1 a2).units = s.units :=
  (State.setCause_in ..).same .units rfl
@[simp] theorem State.setCause_groups (s a1 a2) : (State.setCause s a1 a2).groups = s.groups :=
  (State.setCause_in ..).same .groups rfl
@[simp] theorem State.setCause_spares (s a1 a2) : (State.setCause s a1 a2).spares = s.spares :=
  (State.setCause_in ..).same .spares rfl
@[simp] theorem State.setCause_chans (s a1 a2) : (State.setCause s a1 a2).chans = s.chans :=
  (State.setCause_in ..).same .chans rfl
@[simp] theorem State.setCause_slices (s a1 a2) : (State.setCause s a1 a2).slices = s.slices :=
  (State.setCause_in ..).same .slices rfl
@[simp] theorem State.setCause_ports (s a1 a2) : (State.setCause s a1 a2).ports = s.ports :=
  (State.setCause_in ..).same .ports rfl
@[simp] theorem State.setCause_links (s a1 a2) : (State.setCause s a1 a2).links = s.links :=
  (State.setCause_in ..).same .links rfl
@[simp] theorem State.setCause_um (s a1 a2) : (State.setCause s a1 a2).um = s.um := (State.setCause_in ..).same .um rfl
@[simp] theorem State.setCause_pw (s a1 a2) : (State.setCause s a1 a2).pw = s.pw := (State.setCause_in ..).same .pw rfl
@[simp] theorem State.setCause_cl (s a1 a2) : (State.setCause s a1 a2).cl = s.cl := (State.setCause_in ..).same .cl rfl
@[simp] theorem State.setCause_tw (s a1 a2) : (State.setCause s a1 a2).tw = s.tw := (State.setCause_in ..).same .tw rfl
@[simp] theorem State.setCause_sec (s a1 a2) : (State.setCause s a1 a2).sec = s.sec := (State.setCause_in ..).same .sec rfl
@[simp] theorem State.setCause_flash (s a1 a2) : (State.setCause s a1 a2).flash = s.flash :=
  (State.setCause_in ..).same .flash rfl
@[simp] theorem State.setCause_image (s a1 a2) : (State.setCause s a1 a2).image = s.image :=
  (State.setCause_in ..).same .image rfl
@[simp] theorem State.setCause_fresh (s a1 a2) : (State.setCause s a1 a2).fresh = s.fresh :=
  (State.setCause_in ..).same .fresh rfl
@[simp] theorem State.setCause_out (s a1 a2) : (State.setCause s a1 a2).out = s.out := (State.setCause_in ..).same .out rfl
@[simp] theorem State.setCause_eg (s a1 a2) : (State.setCause s a1 a2).eg = s.eg := (State.setCause_in ..).same .eg rfl
@[simp] theorem State.setCause_calDue (s a1 a2) : (State.setCause s a1 a2).calDue = s.calDue :=
  (State.setCause_in ..).same .calDue rfl
@[simp] theorem State.setMode_pending (s a1 a2) : (State.setMode s a1 a2).pending = s.pending :=
  (State.setMode_in ..).same .pending rfl
@[simp] theorem State.setMode_ticks (s a1 a2) : (State.setMode s a1 a2).ticks = s.ticks :=
  (State.setMode_in ..).same .ticks rfl
@[simp] theorem State.setMode_aon (s a1 a2) : (State.setMode s a1 a2).aon = s.aon := (State.setMode_in ..).same .aon rfl
@[simp] theorem State.setMode_aonLeft (s a1 a2) : (State.setMode s a1 a2).aonLeft = s.aonLeft :=
  (State.setMode_in ..).same .aonLeft rfl
@[simp] theorem State.setMode_core (s a1 a2) : (State.setMode s a1 a2).core = s.core := (State.setMode_in ..).same .core rfl
@[simp] theorem State.setMode_coreQ (s a1 a2) : (State.setMode s a1 a2).coreQ = s.coreQ :=
  (State.setMode_in ..).same .coreQ rfl
@[simp] theorem State.setMode_gen (s a1 a2) : (State.setMode s a1 a2).gen = s.gen := (State.setMode_in ..).same .gen rfl
@[simp] theorem State.setMode_staged (s a1 a2) : (State.setMode s a1 a2).staged = s.staged :=
  (State.setMode_in ..).same .staged rfl
@[simp] theorem State.setMode_latches (s a1 a2) : (State.setMode s a1 a2).latches = s.latches :=
  (State.setMode_in ..).same .latches rfl
@[simp] theorem State.setMode_heldWr (s a1 a2) : (State.setMode s a1 a2).heldWr = s.heldWr :=
  (State.setMode_in ..).same .heldWr rfl
@[simp] theorem State.setMode_tk (s a1 a2) : (State.setMode s a1 a2).tk = s.tk := (State.setMode_in ..).same .tk rfl
@[simp] theorem State.setMode_calBad (s a1 a2) : (State.setMode s a1 a2).calBad = s.calBad :=
  (State.setMode_in ..).same .calBad rfl
@[simp] theorem State.setMode_pails (s a1 a2) : (State.setMode s a1 a2).pails = s.pails :=
  (State.setMode_in ..).same .pails rfl
@[simp] theorem State.setMode_banks (s a1 a2) : (State.setMode s a1 a2).banks = s.banks :=
  (State.setMode_in ..).same .banks rfl
@[simp] theorem State.setMode_repairDue (s a1 a2) : (State.setMode s a1 a2).repairDue = s.repairDue :=
  (State.setMode_in ..).same .repairDue rfl
@[simp] theorem State.setMode_units (s a1 a2) : (State.setMode s a1 a2).units = s.units :=
  (State.setMode_in ..).same .units rfl
@[simp] theorem State.setMode_groups (s a1 a2) : (State.setMode s a1 a2).groups = s.groups :=
  (State.setMode_in ..).same .groups rfl
@[simp] theorem State.setMode_spares (s a1 a2) : (State.setMode s a1 a2).spares = s.spares :=
  (State.setMode_in ..).same .spares rfl
@[simp] theorem State.setMode_chans (s a1 a2) : (State.setMode s a1 a2).chans = s.chans :=
  (State.setMode_in ..).same .chans rfl
@[simp] theorem State.setMode_slices (s a1 a2) : (State.setMode s a1 a2).slices = s.slices :=
  (State.setMode_in ..).same .slices rfl
@[simp] theorem State.setMode_ports (s a1 a2) : (State.setMode s a1 a2).ports = s.ports :=
  (State.setMode_in ..).same .ports rfl
@[simp] theorem State.setMode_pw (s a1 a2) : (State.setMode s a1 a2).pw = s.pw := (State.setMode_in ..).same .pw rfl
@[simp] theorem State.setMode_rs (s a1 a2) : (State.setMode s a1 a2).rs = s.rs := (State.setMode_in ..).same .rs rfl
@[simp] theorem State.setMode_cl (s a1 a2) : (State.setMode s a1 a2).cl = s.cl := (State.setMode_in ..).same .cl rfl
@[simp] theorem State.setMode_tw (s a1 a2) : (State.setMode s a1 a2).tw = s.tw := (State.setMode_in ..).same .tw rfl
@[simp] theorem State.setMode_flash (s a1 a2) : (State.setMode s a1 a2).flash = s.flash :=
  (State.setMode_in ..).same .flash rfl
@[simp] theorem State.setMode_image (s a1 a2) : (State.setMode s a1 a2).image = s.image :=
  (State.setMode_in ..).same .image rfl
@[simp] theorem State.setMode_fresh (s a1 a2) : (State.setMode s a1 a2).fresh = s.fresh :=
  (State.setMode_in ..).same .fresh rfl
@[simp] theorem State.setMode_eg (s a1 a2) : (State.setMode s a1 a2).eg = s.eg := (State.setMode_in ..).same .eg rfl
@[simp] theorem State.setMode_calDue (s a1 a2) : (State.setMode s a1 a2).calDue = s.calDue :=
  (State.setMode_in ..).same .calDue rfl
@[simp] theorem State.updTx_pending (s a1 a2 a3) : (State.updTx s a1 a2 a3).pending = s.pending :=
  (State.updTx_in ..).same .pending rfl
@[simp] theorem State.updTx_ticks (s a1 a2 a3) : (State.updTx s a1 a2 a3).ticks = s.ticks :=
  (State.updTx_in ..).same .ticks rfl
@[simp] theorem State.updTx_aon (s a1 a2 a3) : (State.updTx s a1 a2 a3).aon = s.aon := (State.updTx_in ..).same .aon rfl
@[simp] theorem State.updTx_aonLeft (s a1 a2 a3) : (State.updTx s a1 a2 a3).aonLeft = s.aonLeft :=
  (State.updTx_in ..).same .aonLeft rfl
@[simp] theorem State.updTx_core (s a1 a2 a3) : (State.updTx s a1 a2 a3).core = s.core := (State.updTx_in ..).same .core rfl
@[simp] theorem State.updTx_coreQ (s a1 a2 a3) : (State.updTx s a1 a2 a3).coreQ = s.coreQ :=
  (State.updTx_in ..).same .coreQ rfl
@[simp] theorem State.updTx_regs (s a1 a2 a3) : (State.updTx s a1 a2 a3).regs = s.regs := (State.updTx_in ..).same .regs rfl
@[simp] theorem State.updTx_gen (s a1 a2 a3) : (State.updTx s a1 a2 a3).gen = s.gen := (State.updTx_in ..).same .gen rfl
@[simp] theorem State.updTx_staged (s a1 a2 a3) : (State.updTx s a1 a2 a3).staged = s.staged :=
  (State.updTx_in ..).same .staged rfl
@[simp] theorem State.updTx_latches (s a1 a2 a3) : (State.updTx s a1 a2 a3).latches = s.latches :=
  (State.updTx_in ..).same .latches rfl
@[simp] theorem State.updTx_heldWr (s a1 a2 a3) : (State.updTx s a1 a2 a3).heldWr = s.heldWr :=
  (State.updTx_in ..).same .heldWr rfl
@[simp] theorem State.updTx_tk (s a1 a2 a3) : (State.updTx s a1 a2 a3).tk = s.tk := (State.updTx_in ..).same .tk rfl
@[simp] theorem State.updTx_log (s a1 a2 a3) : (State.updTx s a1 a2 a3).log = s.log := (State.updTx_in ..).same .log rfl
@[simp] theorem State.updTx_calBad (s a1 a2 a3) : (State.updTx s a1 a2 a3).calBad = s.calBad :=
  (State.updTx_in ..).same .calBad rfl
@[simp] theorem State.updTx_pails (s a1 a2 a3) : (State.updTx s a1 a2 a3).pails = s.pails :=
  (State.updTx_in ..).same .pails rfl
@[simp] theorem State.updTx_banks (s a1 a2 a3) : (State.updTx s a1 a2 a3).banks = s.banks :=
  (State.updTx_in ..).same .banks rfl
@[simp] theorem State.updTx_repairDue (s a1 a2 a3) : (State.updTx s a1 a2 a3).repairDue = s.repairDue :=
  (State.updTx_in ..).same .repairDue rfl
@[simp] theorem State.updTx_units (s a1 a2 a3) : (State.updTx s a1 a2 a3).units = s.units :=
  (State.updTx_in ..).same .units rfl
@[simp] theorem State.updTx_groups (s a1 a2 a3) : (State.updTx s a1 a2 a3).groups = s.groups :=
  (State.updTx_in ..).same .groups rfl
@[simp] theorem State.updTx_spares (s a1 a2 a3) : (State.updTx s a1 a2 a3).spares = s.spares :=
  (State.updTx_in ..).same .spares rfl
@[simp] theorem State.updTx_chans (s a1 a2 a3) : (State.updTx s a1 a2 a3).chans = s.chans :=
  (State.updTx_in ..).same .chans rfl
@[simp] theorem State.updTx_slices (s a1 a2 a3) : (State.updTx s a1 a2 a3).slices = s.slices :=
  (State.updTx_in ..).same .slices rfl
@[simp] theorem State.updTx_links (s a1 a2 a3) : (State.updTx s a1 a2 a3).links = s.links :=
  (State.updTx_in ..).same .links rfl
@[simp] theorem State.updTx_um (s a1 a2 a3) : (State.updTx s a1 a2 a3).um = s.um := (State.updTx_in ..).same .um rfl
@[simp] theorem State.updTx_pw (s a1 a2 a3) : (State.updTx s a1 a2 a3).pw = s.pw := (State.updTx_in ..).same .pw rfl
@[simp] theorem State.updTx_rs (s a1 a2 a3) : (State.updTx s a1 a2 a3).rs = s.rs := (State.updTx_in ..).same .rs rfl
@[simp] theorem State.updTx_cl (s a1 a2 a3) : (State.updTx s a1 a2 a3).cl = s.cl := (State.updTx_in ..).same .cl rfl
@[simp] theorem State.updTx_tw (s a1 a2 a3) : (State.updTx s a1 a2 a3).tw = s.tw := (State.updTx_in ..).same .tw rfl
@[simp] theorem State.updTx_sec (s a1 a2 a3) : (State.updTx s a1 a2 a3).sec = s.sec := (State.updTx_in ..).same .sec rfl
@[simp] theorem State.updTx_flash (s a1 a2 a3) : (State.updTx s a1 a2 a3).flash = s.flash :=
  (State.updTx_in ..).same .flash rfl
@[simp] theorem State.updTx_image (s a1 a2 a3) : (State.updTx s a1 a2 a3).image = s.image :=
  (State.updTx_in ..).same .image rfl
@[simp] theorem State.updTx_fresh (s a1 a2 a3) : (State.updTx s a1 a2 a3).fresh = s.fresh :=
  (State.updTx_in ..).same .fresh rfl
@[simp] theorem State.updTx_out (s a1 a2 a3) : (State.updTx s a1 a2 a3).out = s.out := (State.updTx_in ..).same .out rfl
@[simp] theorem State.updTx_hot (s a1 a2 a3) : (State.updTx s a1 a2 a3).hot = s.hot := (State.updTx_in ..).same .hot rfl
@[simp] theorem State.updTx_eg (s a1 a2 a3) : (State.updTx s a1 a2 a3).eg = s.eg := (State.updTx_in ..).same .eg rfl
@[simp] theorem State.updTx_calDue (s a1 a2 a3) : (State.updTx s a1 a2 a3).calDue = s.calDue :=
  (State.updTx_in ..).same .calDue rfl
@[simp] theorem State.setOn_pending (s a1 a2) : (State.setOn s a1 a2).pending = s.pending :=
  (State.setOn_in ..).same .pending rfl
@[simp] theorem State.setOn_ticks (s a1 a2) : (State.setOn s a1 a2).ticks = s.ticks := (State.setOn_in ..).same .ticks rfl
@[simp] theorem State.setOn_aon (s a1 a2) : (State.setOn s a1 a2).aon = s.aon := (State.setOn_in ..).same .aon rfl
@[simp] theorem State.setOn_aonLeft (s a1 a2) : (State.setOn s a1 a2).aonLeft = s.aonLeft :=
  (State.setOn_in ..).same .aonLeft rfl
@[simp] theorem State.setOn_core (s a1 a2) : (State.setOn s a1 a2).core = s.core := (State.setOn_in ..).same .core rfl
@[simp] theorem State.setOn_coreQ (s a1 a2) : (State.setOn s a1 a2).coreQ = s.coreQ := (State.setOn_in ..).same .coreQ rfl
@[simp] theorem State.setOn_gen (s a1 a2) : (State.setOn s a1 a2).gen = s.gen := (State.setOn_in ..).same .gen rfl
@[simp] theorem State.setOn_staged (s a1 a2) : (State.setOn s a1 a2).staged = s.staged := (State.setOn_in ..).same .staged rfl
@[simp] theorem State.setOn_latches (s a1 a2) : (State.setOn s a1 a2).latches = s.latches :=
  (State.setOn_in ..).same .latches rfl
@[simp] theorem State.setOn_heldWr (s a1 a2) : (State.setOn s a1 a2).heldWr = s.heldWr := (State.setOn_in ..).same .heldWr rfl
@[simp] theorem State.setOn_tk (s a1 a2) : (State.setOn s a1 a2).tk = s.tk := (State.setOn_in ..).same .tk rfl
@[simp] theorem State.setOn_log (s a1 a2) : (State.setOn s a1 a2).log = s.log := (State.setOn_in ..).same .log rfl
@[simp] theorem State.setOn_calBad (s a1 a2) : (State.setOn s a1 a2).calBad = s.calBad := (State.setOn_in ..).same .calBad rfl
@[simp] theorem State.setOn_pails (s a1 a2) : (State.setOn s a1 a2).pails = s.pails := (State.setOn_in ..).same .pails rfl
@[simp] theorem State.setOn_banks (s a1 a2) : (State.setOn s a1 a2).banks = s.banks := (State.setOn_in ..).same .banks rfl
@[simp] theorem State.setOn_repairDue (s a1 a2) : (State.setOn s a1 a2).repairDue = s.repairDue :=
  (State.setOn_in ..).same .repairDue rfl
@[simp] theorem State.setOn_units (s a1 a2) : (State.setOn s a1 a2).units = s.units := (State.setOn_in ..).same .units rfl
@[simp] theorem State.setOn_groups (s a1 a2) : (State.setOn s a1 a2).groups = s.groups := (State.setOn_in ..).same .groups rfl
@[simp] theorem State.setOn_spares (s a1 a2) : (State.setOn s a1 a2).spares = s.spares := (State.setOn_in ..).same .spares rfl
@[simp] theorem State.setOn_chans (s a1 a2) : (State.setOn s a1 a2).chans = s.chans := (State.setOn_in ..).same .chans rfl
@[simp] theorem State.setOn_slices (s a1 a2) : (State.setOn s a1 a2).slices = s.slices := (State.setOn_in ..).same .slices rfl
@[simp] theorem State.setOn_ports (s a1 a2) : (State.setOn s a1 a2).ports = s.ports := (State.setOn_in ..).same .ports rfl
@[simp] theorem State.setOn_links (s a1 a2) : (State.setOn s a1 a2).links = s.links := (State.setOn_in ..).same .links rfl
@[simp] theorem State.setOn_um (s a1 a2) : (State.setOn s a1 a2).um = s.um := (State.setOn_in ..).same .um rfl
@[simp] theorem State.setOn_pw (s a1 a2) : (State.setOn s a1 a2).pw = s.pw := (State.setOn_in ..).same .pw rfl
@[simp] theorem State.setOn_rs (s a1 a2) : (State.setOn s a1 a2).rs = s.rs := (State.setOn_in ..).same .rs rfl
@[simp] theorem State.setOn_cl (s a1 a2) : (State.setOn s a1 a2).cl = s.cl := (State.setOn_in ..).same .cl rfl
@[simp] theorem State.setOn_tw (s a1 a2) : (State.setOn s a1 a2).tw = s.tw := (State.setOn_in ..).same .tw rfl
@[simp] theorem State.setOn_sec (s a1 a2) : (State.setOn s a1 a2).sec = s.sec := (State.setOn_in ..).same .sec rfl
@[simp] theorem State.setOn_flash (s a1 a2) : (State.setOn s a1 a2).flash = s.flash := (State.setOn_in ..).same .flash rfl
@[simp] theorem State.setOn_image (s a1 a2) : (State.setOn s a1 a2).image = s.image := (State.setOn_in ..).same .image rfl
@[simp] theorem State.setOn_fresh (s a1 a2) : (State.setOn s a1 a2).fresh = s.fresh := (State.setOn_in ..).same .fresh rfl
@[simp] theorem State.setOn_out (s a1 a2) : (State.setOn s a1 a2).out = s.out := (State.setOn_in ..).same .out rfl
@[simp] theorem State.setOn_hot (s a1 a2) : (State.setOn s a1 a2).hot = s.hot := (State.setOn_in ..).same .hot rfl
@[simp] theorem State.setOn_eg (s a1 a2) : (State.setOn s a1 a2).eg = s.eg := (State.setOn_in ..).same .eg rfl
@[simp] theorem State.setOn_calDue (s a1 a2) : (State.setOn s a1 a2).calDue = s.calDue := (State.setOn_in ..).same .calDue rfl
@[simp] theorem State.raiseWake_pending (s a1 a2) : (State.raiseWake s a1 a2).pending = s.pending :=
  (State.raiseWake_in ..).same .pending rfl
@[simp] theorem State.raiseWake_ticks (s a1 a2) : (State.raiseWake s a1 a2).ticks = s.ticks :=
  (State.raiseWake_in ..).same .ticks rfl
@[simp] theorem State.raiseWake_aon (s a1 a2) : (State.raiseWake s a1 a2).aon = s.aon := (State.raiseWake_in ..).same .aon rfl
@[simp] theorem State.raiseWake_aonLeft (s a1 a2) : (State.raiseWake s a1 a2).aonLeft = s.aonLeft :=
  (State.raiseWake_in ..).same .aonLeft rfl
@[simp] theorem State.raiseWake_core (s a1 a2) : (State.raiseWake s a1 a2).core = s.core :=
  (State.raiseWake_in ..).same .core rfl
@[simp] theorem State.raiseWake_coreQ (s a1 a2) : (State.raiseWake s a1 a2).coreQ = s.coreQ :=
  (State.raiseWake_in ..).same .coreQ rfl
@[simp] theorem State.raiseWake_regs (s a1 a2) : (State.raiseWake s a1 a2).regs = s.regs :=
  (State.raiseWake_in ..).same .regs rfl
@[simp] theorem State.raiseWake_gen (s a1 a2) : (State.raiseWake s a1 a2).gen = s.gen := (State.raiseWake_in ..).same .gen rfl
@[simp] theorem State.raiseWake_staged (s a1 a2) : (State.raiseWake s a1 a2).staged = s.staged :=
  (State.raiseWake_in ..).same .staged rfl
@[simp] theorem State.raiseWake_latches (s a1 a2) : (State.raiseWake s a1 a2).latches = s.latches :=
  (State.raiseWake_in ..).same .latches rfl
@[simp] theorem State.raiseWake_heldWr (s a1 a2) : (State.raiseWake s a1 a2).heldWr = s.heldWr :=
  (State.raiseWake_in ..).same .heldWr rfl
@[simp] theorem State.raiseWake_tk (s a1 a2) : (State.raiseWake s a1 a2).tk = s.tk := (State.raiseWake_in ..).same .tk rfl
@[simp] theorem State.raiseWake_log (s a1 a2) : (State.raiseWake s a1 a2).log = s.log := (State.raiseWake_in ..).same .log rfl
@[simp] theorem State.raiseWake_calBad (s a1 a2) : (State.raiseWake s a1 a2).calBad = s.calBad :=
  (State.raiseWake_in ..).same .calBad rfl
@[simp] theorem State.raiseWake_pails (s a1 a2) : (State.raiseWake s a1 a2).pails = s.pails :=
  (State.raiseWake_in ..).same .pails rfl
@[simp] theorem State.raiseWake_banks (s a1 a2) : (State.raiseWake s a1 a2).banks = s.banks :=
  (State.raiseWake_in ..).same .banks rfl
@[simp] theorem State.raiseWake_repairDue (s a1 a2) : (State.raiseWake s a1 a2).repairDue = s.repairDue :=
  (State.raiseWake_in ..).same .repairDue rfl
@[simp] theorem State.raiseWake_units (s a1 a2) : (State.raiseWake s a1 a2).units = s.units :=
  (State.raiseWake_in ..).same .units rfl
@[simp] theorem State.raiseWake_groups (s a1 a2) : (State.raiseWake s a1 a2).groups = s.groups :=
  (State.raiseWake_in ..).same .groups rfl
@[simp] theorem State.raiseWake_spares (s a1 a2) : (State.raiseWake s a1 a2).spares = s.spares :=
  (State.raiseWake_in ..).same .spares rfl
@[simp] theorem State.raiseWake_chans (s a1 a2) : (State.raiseWake s a1 a2).chans = s.chans :=
  (State.raiseWake_in ..).same .chans rfl
@[simp] theorem State.raiseWake_slices (s a1 a2) : (State.raiseWake s a1 a2).slices = s.slices :=
  (State.raiseWake_in ..).same .slices rfl
@[simp] theorem State.raiseWake_ports (s a1 a2) : (State.raiseWake s a1 a2).ports = s.ports :=
  (State.raiseWake_in ..).same .ports rfl
@[simp] theorem State.raiseWake_links (s a1 a2) : (State.raiseWake s a1 a2).links = s.links :=
  (State.raiseWake_in ..).same .links rfl
@[simp] theorem State.raiseWake_um (s a1 a2) : (State.raiseWake s a1 a2).um = s.um := (State.raiseWake_in ..).same .um rfl
@[simp] theorem State.raiseWake_rs (s a1 a2) : (State.raiseWake s a1 a2).rs = s.rs := (State.raiseWake_in ..).same .rs rfl
@[simp] theorem State.raiseWake_cl (s a1 a2) : (State.raiseWake s a1 a2).cl = s.cl := (State.raiseWake_in ..).same .cl rfl
@[simp] theorem State.raiseWake_tw (s a1 a2) : (State.raiseWake s a1 a2).tw = s.tw := (State.raiseWake_in ..).same .tw rfl
@[simp] theorem State.raiseWake_sec (s a1 a2) : (State.raiseWake s a1 a2).sec = s.sec := (State.raiseWake_in ..).same .sec rfl
@[simp] theorem State.raiseWake_flash (s a1 a2) : (State.raiseWake s a1 a2).flash = s.flash :=
  (State.raiseWake_in ..).same .flash rfl
@[simp] theorem State.raiseWake_image (s a1 a2) : (State.raiseWake s a1 a2).image = s.image :=
  (State.raiseWake_in ..).same .image rfl
@[simp] theorem State.raiseWake_fresh (s a1 a2) : (State.raiseWake s a1 a2).fresh = s.fresh :=
  (State.raiseWake_in ..).same .fresh rfl
@[simp] theorem State.raiseWake_out (s a1 a2) : (State.raiseWake s a1 a2).out = s.out := (State.raiseWake_in ..).same .out rfl
@[simp] theorem State.raiseWake_hot (s a1 a2) : (State.raiseWake s a1 a2).hot = s.hot := (State.raiseWake_in ..).same .hot rfl
@[simp] theorem State.raiseWake_eg (s a1 a2) : (State.raiseWake s a1 a2).eg = s.eg := (State.raiseWake_in ..).same .eg rfl
@[simp] theorem State.raiseWake_calDue (s a1 a2) : (State.raiseWake s a1 a2).calDue = s.calDue :=
  (State.raiseWake_in ..).same .calDue rfl
@[simp] theorem State.tryLock_pending (s) : (State.tryLock s).pending = s.pending := (State.tryLock_in ..).same .pending rfl
@[simp] theorem State.tryLock_ticks (s) : (State.tryLock s).ticks = s.ticks := (State.tryLock_in ..).same .ticks rfl
@[simp] theorem State.tryLock_aon (s) : (State.tryLock s).aon = s.aon := (State.tryLock_in ..).same .aon rfl
@[simp] theorem State.tryLock_aonLeft (s) : (State.tryLock s).aonLeft = s.aonLeft := (State.tryLock_in ..).same .aonLeft rfl
@[simp] theorem State.tryLock_core (s) : (State.tryLock s).core = s.core := (State.tryLock_in ..).same .core rfl
@[simp] theorem State.tryLock_coreQ (s) : (State.tryLock s).coreQ = s.coreQ := (State.tryLock_in ..).same .coreQ rfl
@[simp] theorem State.tryLock_regs (s) : (State.tryLock s).regs = s.regs := (State.tryLock_in ..).same .regs rfl
@[simp] theorem State.tryLock_gen (s) : (State.tryLock s).gen = s.gen := (State.tryLock_in ..).same .gen rfl
@[simp] theorem State.tryLock_staged (s) : (State.tryLock s).staged = s.staged := (State.tryLock_in ..).same .staged rfl
@[simp] theorem State.tryLock_latches (s) : (State.tryLock s).latches = s.latches := (State.tryLock_in ..).same .latches rfl
@[simp] theorem State.tryLock_heldWr (s) : (State.tryLock s).heldWr = s.heldWr := (State.tryLock_in ..).same .heldWr rfl
@[simp] theorem State.tryLock_log (s) : (State.tryLock s).log = s.log := (State.tryLock_in ..).same .log rfl
@[simp] theorem State.tryLock_calBad (s) : (State.tryLock s).calBad = s.calBad := (State.tryLock_in ..).same .calBad rfl
@[simp] theorem State.tryLock_pails (s) : (State.tryLock s).pails = s.pails := (State.tryLock_in ..).same .pails rfl
@[simp] theorem State.tryLock_banks (s) : (State.tryLock s).banks = s.banks := (State.tryLock_in ..).same .banks rfl
@[simp] theorem State.tryLock_repairDue (s) : (State.tryLock s).repairDue = s.repairDue :=
  (State.tryLock_in ..).same .repairDue rfl
@[simp] theorem State.tryLock_units (s) : (State.tryLock s).units = s.units := (State.tryLock_in ..).same .units rfl
@[simp] theorem State.tryLock_groups (s) : (State.tryLock s).groups = s.groups := (State.tryLock_in ..).same .groups rfl
@[simp] theorem State.tryLock_spares (s) : (State.tryLock s).spares = s.spares := (State.tryLock_in ..).same .spares rfl
@[simp] theorem State.tryLock_chans (s) : (State.tryLock s).chans = s.chans := (State.tryLock_in ..).same .chans rfl
@[simp] theorem State.tryLock_slices (s) : (State.tryLock s).slices = s.slices := (State.tryLock_in ..).same .slices rfl
@[simp] theorem State.tryLock_ports (s) : (State.tryLock s).ports = s.ports := (State.tryLock_in ..).same .ports rfl
@[simp] theorem State.tryLock_links (s) : (State.tryLock s).links = s.links := (State.tryLock_in ..).same .links rfl
@[simp] theorem State.tryLock_um (s) : (State.tryLock s).um = s.um := (State.tryLock_in ..).same .um rfl
@[simp] theorem State.tryLock_pw (s) : (State.tryLock s).pw = s.pw := (State.tryLock_in ..).same .pw rfl
@[simp] theorem State.tryLock_rs (s) : (State.tryLock s).rs = s.rs := (State.tryLock_in ..).same .rs rfl
@[simp] theorem State.tryLock_cl (s) : (State.tryLock s).cl = s.cl := (State.tryLock_in ..).same .cl rfl
@[simp] theorem State.tryLock_tw (s) : (State.tryLock s).tw = s.tw := (State.tryLock_in ..).same .tw rfl
@[simp] theorem State.tryLock_sec (s) : (State.tryLock s).sec = s.sec := (State.tryLock_in ..).same .sec rfl
@[simp] theorem State.tryLock_flash (s) : (State.tryLock s).flash = s.flash := (State.tryLock_in ..).same .flash rfl
@[simp] theorem State.tryLock_image (s) : (State.tryLock s).image = s.image := (State.tryLock_in ..).same .image rfl
@[simp] theorem State.tryLock_fresh (s) : (State.tryLock s).fresh = s.fresh := (State.tryLock_in ..).same .fresh rfl
@[simp] theorem State.tryLock_out (s) : (State.tryLock s).out = s.out := (State.tryLock_in ..).same .out rfl
@[simp] theorem State.tryLock_hot (s) : (State.tryLock s).hot = s.hot := (State.tryLock_in ..).same .hot rfl
@[simp] theorem State.tryLock_eg (s) : (State.tryLock s).eg = s.eg := (State.tryLock_in ..).same .eg rfl
@[simp] theorem State.tryLock_calDue (s) : (State.tryLock s).calDue = s.calDue := (State.tryLock_in ..).same .calDue rfl
@[simp] theorem State.updRetried_pending (s a1 a2 a3) : (State.updRetried s a1 a2 a3).pending = s.pending :=
  (State.updRetried_in ..).same .pending rfl
@[simp] theorem State.updRetried_ticks (s a1 a2 a3) : (State.updRetried s a1 a2 a3).ticks = s.ticks :=
  (State.updRetried_in ..).same .ticks rfl
@[simp] theorem State.updRetried_aon (s a1 a2 a3) : (State.updRetried s a1 a2 a3).aon = s.aon :=
  (State.updRetried_in ..).same .aon rfl
@[simp] theorem State.updRetried_aonLeft (s a1 a2 a3) : (State.updRetried s a1 a2 a3).aonLeft = s.aonLeft :=
  (State.updRetried_in ..).same .aonLeft rfl
@[simp] theorem State.updRetried_core (s a1 a2 a3) : (State.updRetried s a1 a2 a3).core = s.core :=
  (State.updRetried_in ..).same .core rfl
@[simp] theorem State.updRetried_coreQ (s a1 a2 a3) : (State.updRetried s a1 a2 a3).coreQ = s.coreQ :=
  (State.updRetried_in ..).same .coreQ rfl
@[simp] theorem State.updRetried_regs (s a1 a2 a3) : (State.updRetried s a1 a2 a3).regs = s.regs :=
  (State.updRetried_in ..).same .regs rfl
@[simp] theorem State.updRetried_gen (s a1 a2 a3) : (State.updRetried s a1 a2 a3).gen = s.gen :=
  (State.updRetried_in ..).same .gen rfl
@[simp] theorem State.updRetried_staged (s a1 a2 a3) : (State.updRetried s a1 a2 a3).staged = s.staged :=
  (State.updRetried_in ..).same .staged rfl
@[simp] theorem State.updRetried_latches (s a1 a2 a3) : (State.updRetried s a1 a2 a3).latches = s.latches :=
  (State.updRetried_in ..).same .latches rfl
@[simp] theorem State.updRetried_heldWr (s a1 a2 a3) : (State.updRetried s a1 a2 a3).heldWr = s.heldWr :=
  (State.updRetried_in ..).same .heldWr rfl
@[simp] theorem State.updRetried_tk (s a1 a2 a3) : (State.updRetried s a1 a2 a3).tk = s.tk :=
  (State.updRetried_in ..).same .tk rfl
@[simp] theorem State.updRetried_log (s a1 a2 a3) : (State.updRetried s a1 a2 a3).log = s.log :=
  (State.updRetried_in ..).same .log rfl
@[simp] theorem State.updRetried_calBad (s a1 a2 a3) : (State.updRetried s a1 a2 a3).calBad = s.calBad :=
  (State.updRetried_in ..).same .calBad rfl
@[simp] theorem State.updRetried_pails (s a1 a2 a3) : (State.updRetried s a1 a2 a3).pails = s.pails :=
  (State.updRetried_in ..).same .pails rfl
@[simp] theorem State.updRetried_banks (s a1 a2 a3) : (State.updRetried s a1 a2 a3).banks = s.banks :=
  (State.updRetried_in ..).same .banks rfl
@[simp] theorem State.updRetried_repairDue (s a1 a2 a3) : (State.updRetried s a1 a2 a3).repairDue = s.repairDue :=
  (State.updRetried_in ..).same .repairDue rfl
@[simp] theorem State.updRetried_units (s a1 a2 a3) : (State.updRetried s a1 a2 a3).units = s.units :=
  (State.updRetried_in ..).same .units rfl
@[simp] theorem State.updRetried_groups (s a1 a2 a3) : (State.updRetried s a1 a2 a3).groups = s.groups :=
  (State.updRetried_in ..).same .groups rfl
@[simp] theorem State.updRetried_spares (s a1 a2 a3) : (State.updRetried s a1 a2 a3).spares = s.spares :=
  (State.updRetried_in ..).same .spares rfl
@[simp] theorem State.updRetried_chans (s a1 a2 a3) : (State.updRetried s a1 a2 a3).chans = s.chans :=
  (State.updRetried_in ..).same .chans rfl
@[simp] theorem State.updRetried_slices (s a1 a2 a3) : (State.updRetried s a1 a2 a3).slices = s.slices :=
  (State.updRetried_in ..).same .slices rfl
@[simp] theorem State.updRetried_links (s a1 a2 a3) : (State.updRetried s a1 a2 a3).links = s.links :=
  (State.updRetried_in ..).same .links rfl
@[simp] theorem State.updRetried_um (s a1 a2 a3) : (State.updRetried s a1 a2 a3).um = s.um :=
  (State.updRetried_in ..).same .um rfl
@[simp] theorem State.updRetried_pw (s a1 a2 a3) : (State.updRetried s a1 a2 a3).pw = s.pw :=
  (State.updRetried_in ..).same .pw rfl
@[simp] theorem State.updRetried_rs (s a1 a2 a3) : (State.updRetried s a1 a2 a3).rs = s.rs :=
  (State.updRetried_in ..).same .rs rfl
@[simp] theorem State.updRetried_cl (s a1 a2 a3) : (State.updRetried s a1 a2 a3).cl = s.cl :=
  (State.updRetried_in ..).same .cl rfl
@[simp] theorem State.updRetried_tw (s a1 a2 a3) : (State.updRetried s a1 a2 a3).tw = s.tw :=
  (State.updRetried_in ..).same .tw rfl
@[simp] theorem State.updRetried_sec (s a1 a2 a3) : (State.updRetried s a1 a2 a3).sec = s.sec :=
  (State.updRetried_in ..).same .sec rfl
@[simp] theorem State.updRetried_flash (s a1 a2 a3) : (State.updRetried s a1 a2 a3).flash = s.flash :=
  (State.updRetried_in ..).same .flash rfl
@[simp] theorem State.updRetried_image (s a1 a2 a3) : (State.updRetried s a1 a2 a3).image = s.image :=
  (State.updRetried_in ..).same .image rfl
@[simp] theorem State.updRetried_fresh (s a1 a2 a3) : (State.updRetried s a1 a2 a3).fresh = s.fresh :=
  (State.updRetried_in ..).same .fresh rfl
@[simp] theorem State.updRetried_out (s a1 a2 a3) : (State.updRetried s a1 a2 a3).out = s.out :=
  (State.updRetried_in ..).same .out rfl
@[simp] theorem State.updRetried_hot (s a1 a2 a3) : (State.updRetried s a1 a2 a3).hot = s.hot :=
  (State.updRetried_in ..).same .hot rfl
@[simp] theorem State.updRetried_eg (s a1 a2 a3) : (State.updRetried s a1 a2 a3).eg = s.eg :=
  (State.updRetried_in ..).same .eg rfl
@[simp] theorem State.updRetried_calDue (s a1 a2 a3) : (State.updRetried s a1 a2 a3).calDue = s.calDue :=
  (State.updRetried_in ..).same .calDue rfl

end Sys2Proof.Machine
end

