-- ==== Sys2Proof/Laws/Crypto.lean ====
section
/-! SUPPORT. The length of a SHA-384 digest. -/

namespace Sys2Proof.Machine

/-- `n` bytes are `n` bytes. -/
theorem leBytes_length (n : Nat) : ∀ v : Nat, (leBytes n v).length = n := by
  induction n with
  | zero => intro v; rfl
  | succ n ih => intro v; simp [leBytes, ih]

/-- The same, the most significant first. -/
theorem beBytes_length (n v : Nat) : (beBytes n v).length = n := by
  simp [beBytes, leBytes_length]

/-- Both recurrences of the compression keep their last four terms. -/
theorem ShaTerms.next_length (v : ShaTerms) (kw : Word) (ha : v.as.length = 4) (he : v.es.length = 4) :
    (v.next kw).as.length = 4 ∧ (v.next kw).es.length = 4 := by
  simp [ShaTerms.next, ha, he]

/-- The rounds keep four terms of each recurrence. -/
theorem shaRounds_length (l : List (Word × Word)) : ∀ v : ShaTerms, v.as.length = 4 → v.es.length = 4 →
    (l.foldl (fun (v : ShaTerms) x => v.next (x.1 + x.2)) v).as.length = 4 ∧
      (l.foldl (fun (v : ShaTerms) x => v.next (x.1 + x.2)) v).es.length = 4 := by
  induction l with
  | nil => intro v ha he; exact ⟨ha, he⟩
  | cons x l ih =>
    intro v ha he
    have h := v.next_length (x.1 + x.2) ha he
    exact ih _ h.1 h.2

/-- A block leaves a hash value of eight words. -/
theorem shaBlock_length (h : List Word) (blk : List Byte) (hl : h.length = 8) : (shaBlock h blk).length = 8 := by
  have hr := shaRounds_length (shaK.zip (shaExtend 64 ((List.range 16).map
    (fun i => BitVec.ofNat 64 (beNat ((blk.drop (8 * i)).take 8)))).reverse).reverse) ⟨h.take 4, h.drop 4⟩ (by simp [hl]) (by simp [hl])
  simp [shaBlock, hl, hr.1, hr.2]

/-- So do any number of blocks. -/
theorem shaBlocks_length (n : Nat) : ∀ (h : List Word) (bs : List Byte), h.length = 8 → (shaBlocks n h bs).length = 8 := by
  induction n with
  | zero => intro h _ hl; exact hl
  | succ n ih => intro h bs hl; exact ih _ _ (shaBlock_length h _ hl)

/-- A digest has 48 bytes. -/
theorem sha384_length (bs : List Byte) : (sha384 bs).length = 48 := by
  have h : ∀ (n : Nat) (m : List Byte), (shaBlocks n shaInit m).length = 8 :=
    fun n m => shaBlocks_length n shaInit m (by simp [shaInit, eightWords])
  simp [sha384, List.length_flatMap, beBytes_length, List.map_const', h]

end Sys2Proof.Machine
end

