-- ==== Sys2Proof/Laws/Registers.lean ====
section
/-! SUPPORT. Fields of a register, and the register file. -/

namespace Sys2Proof.Machine

/-! ## Fields of a register -/

theorem Fld.mask_bit (f : Fld) (i : Nat) : f.mask.getLsbD i = (decide (i < 64) && decide (f.lo ≤ i) && decide (i < f.lo + f.wid)) := by
  simp only [Fld.mask, BitVec.getLsbD_ofNat, Nat.testBit_shiftLeft, Nat.testBit_two_pow_sub_one]
  by_cases h : f.lo ≤ i
  · have : i - f.lo < f.wid ↔ i < f.lo + f.wid := by omega
    simp [h, this]
  · simp [h]

theorem Fld.get_bit (f : Fld) (w : Word) (i : Nat) : (f.get w).testBit i = (decide (i < f.wid) && w.getLsbD (f.lo + i)) := by
  simp [Fld.get, Nat.testBit_mod_two_pow, Nat.testBit_shiftRight, BitVec.testBit_toNat]

theorem Fld.put_bit (f : Fld) (w : Word) (v i : Nat) :
    (f.put w v).getLsbD i = (if f.lo ≤ i ∧ i < f.lo + f.wid then decide (i < 64) && v.testBit (i - f.lo) else w.getLsbD i) := by
  simp only [Fld.put, BitVec.getLsbD_or, BitVec.getLsbD_and, BitVec.getLsbD_not, BitVec.getLsbD_ofNat, Fld.mask_bit,
    Nat.testBit_shiftLeft, Nat.testBit_mod_two_pow]
  by_cases h64 : i < 64
  · by_cases h : f.lo ≤ i
    · by_cases h' : i < f.lo + f.wid
      · have : i - f.lo < f.wid := by omega
        simp [h64, h, h', this]
      · have : ¬ i - f.lo < f.wid := by omega
        simp [h64, h, h', this]
    · simp [h64, h]
  · have : w.getLsbD i = false := BitVec.getLsbD_of_ge _ _ (by omega)
    simp [h64, this]

/-- A field reads what it was set to, in its width. -/
theorem Fld.get_put (f : Fld) (w : Word) (v : Nat) (h : f.lo + f.wid ≤ 64) : f.get (f.put w v) = v % 2 ^ f.wid := by
  refine Nat.eq_of_testBit_eq fun i => ?_
  rw [Fld.get_bit, Fld.put_bit, Nat.testBit_mod_two_pow]
  by_cases hi : i < f.wid
  · have h1 : f.lo ≤ f.lo + i ∧ f.lo + i < f.lo + f.wid := by omega
    have h2 : f.lo + i < 64 := by omega
    simp [hi, h2]
  · simp [hi]

/-- Setting one field leaves another, whose bits are others, as it was. -/
theorem Fld.get_put_other (f g : Fld) (w : Word) (v : Nat) (h : f.lo + f.wid ≤ g.lo ∨ g.lo + g.wid ≤ f.lo) :
    g.get (f.put w v) = g.get w := by
  refine Nat.eq_of_testBit_eq fun i => ?_
  rw [Fld.get_bit, Fld.get_bit, Fld.put_bit]
  by_cases hi : i < g.wid
  · have h1 : ¬ (f.lo ≤ g.lo + i ∧ g.lo + i < f.lo + f.wid) := by omega
    rw [if_neg h1]
  · simp [hi]

/-- Bits of a word in which a field takes no part stay. -/
theorem Fld.put_bit_other (f : Fld) (w : Word) (v i : Nat) (h : i < f.lo ∨ f.lo + f.wid ≤ i) :
    (f.put w v).getLsbD i = w.getLsbD i := by
  rw [Fld.put_bit, if_neg (by omega)]

/-! ## The register file -/

theorem State.rdW_wrW (s : State) (k j : Nat) (w : Word) : (s.wrW k w).rdW j = if j = k then w else s.rdW j := by
  simp only [State.rdW, State.wrW]
  split
  · subst_vars; exact SMap.get_put_same _ _ _ _
  · exact SMap.get_put_other _ _ _ _ (by assumption)
@[simp] theorem State.rdW_wrW_same (s : State) (k : Nat) (w : Word) : (s.wrW k w).rdW k = w := SMap.get_put_same _ _ _ _
theorem State.rdW_wrW_other (s : State) {k j : Nat} (w : Word) (h : j ≠ k) : (s.wrW k w).rdW j = s.rdW j :=
  SMap.get_put_other _ _ _ _ h
@[simp] theorem State.rdG_wrG_same (s : State) (k : Nat) (w : Word) : (s.wrG k w).rdG k = w := SMap.get_put_same _ _ _ _
theorem State.rdG_wrG_other (s : State) {k j : Nat} (w : Word) (h : j ≠ k) : (s.wrG k w).rdG j = s.rdG j :=
  SMap.get_put_other _ _ _ _ h
@[simp] theorem State.rdS_wrS_same (s : State) (k : Nat) (w : Word) : (s.wrS k w).rdS k = w := SMap.get_put_same _ _ _ _
theorem State.rdS_wrS_other (s : State) {k j : Nat} (w : Word) (h : j ≠ k) : (s.wrS k w).rdS j = s.rdS j :=
  SMap.get_put_other _ _ _ _ h

/-- What leaves the registers outside the RWG images alone leaves every reading of them. -/
theorem State.rdW_of_regs {s t : State} (h : t.regs = s.regs) (k : Nat) : t.rdW k = s.rdW k := by simp only [State.rdW, h]
theorem State.rdG_of_gen {s t : State} (h : t.gen = s.gen) (k : Nat) : t.rdG k = s.rdG k := by simp only [State.rdG, h]

theorem State.fld_eq {s t : State} {k : Nat} (f : Fld) (hw : t.rdW k = s.rdW k) (hg : t.rdG k = s.rdG k) :
    t.fld k f = s.fld k f := by simp only [State.fld, hw, hg]

/-- A field's setting changes its register's word alone. -/
theorem State.rdW_setFld_other (s : State) {k j : Nat} (f : Fld) (v : Nat) (h : j ≠ k) : (s.setFld k f v).rdW j = s.rdW j :=
  State.rdW_wrW_other _ _ h
theorem State.rdW_setFld (s : State) (k : Nat) (f : Fld) (v : Nat) : (s.setFld k f v).rdW k = f.put (s.rdW k) v :=
  State.rdW_wrW_same _ _ _
@[simp] theorem State.rdG_setFld (s : State) (k : Nat) (f : Fld) (v j : Nat) : (s.setFld k f v).rdG j = s.rdG j := rfl
theorem State.fld_setFld_reg (s : State) {k j : Nat} (f g : Fld) (v : Nat) (h : j ≠ k) :
    (s.setFld k f v).fld j g = s.fld j g :=
  State.fld_eq g (State.rdW_setFld_other s f v h) rfl

/-- A field reads what it was set to, in its width. -/
theorem State.fld_setFld (s : State) (k : Nat) (f : Fld) (v : Nat) (h : f.rwg = false ∧ f.lo + f.wid ≤ 64) :
    (s.setFld k f v).fld k f = v % 2 ^ f.wid := by
  simp only [State.fld, h.1, Bool.false_eq_true, if_false, State.rdW_setFld]
  exact Fld.get_put f _ v h.2

/-- Setting one field leaves another field of the register, whose bits are others, as it was. -/
theorem State.fld_setFld_other (s : State) (k : Nat) (f g : Fld) (v : Nat)
    (h : f.lo + f.wid ≤ g.lo ∨ g.lo + g.wid ≤ f.lo) : (s.setFld k f v).fld k g = s.fld k g := by
  simp only [State.fld, State.rdW_setFld, State.rdG_setFld]
  split
  · rfl
  · exact Fld.get_put_other f g _ v h

theorem State.fld_wrW_other (s : State) {k j : Nat} (w : Word) (f : Fld) (h : j ≠ k) : (s.wrW k w).fld j f = s.fld j f :=
  State.fld_eq f (State.rdW_wrW_other s w h) rfl

end Sys2Proof.Machine
end

