-- ==== Sys2Proof/Laws/Shared.lean ====
section
/-! SUPPORT. What each shared operation on registers, messages and events leaves: one lemma for each field. -/

namespace Sys2Proof.Machine

@[simp] theorem State.setFld_pending (s a1 a2 a3) : (State.setFld s a1 a2 a3).pending = s.pending :=
  (State.setFld_in ..).same .pending rfl
@[simp] theorem State.setFld_ticks (s a1 a2 a3) : (State.setFld s a1 a2 a3).ticks = s.ticks :=
  (State.setFld_in ..).same .ticks rfl
@[simp] theorem State.setFld_aon (s a1 a2 a3) : (State.setFld s a1 a2 a3).aon = s.aon := (State.setFld_in ..).same .aon rfl
@[simp] theorem State.setFld_aonLeft (s a1 a2 a3) : (State.setFld s a1 a2 a3).aonLeft = s.aonLeft :=
  (State.setFld_in ..).same .aonLeft rfl
@[simp] theorem State.setFld_core (s a1 a2 a3) : (State.setFld s a1 a2 a3).core = s.core :=
  (State.setFld_in ..).same .core rfl
@[simp] theorem State.setFld_coreQ (s a1 a2 a3) : (State.setFld s a1 a2 a3).coreQ = s.coreQ :=
  (State.setFld_in ..).same .coreQ rfl
@[simp] theorem State.setFld_gen (s a1 a2 a3) : (State.setFld s a1 a2 a3).gen = s.gen := (State.setFld_in ..).same .gen rfl
@[simp] theorem State.setFld_staged (s a1 a2 a3) : (State.setFld s a1 a2 a3).staged = s.staged :=
  (State.setFld_in ..).same .staged rfl
@[simp] theorem State.setFld_latches (s a1 a2 a3) : (State.setFld s a1 a2 a3).latches = s.latches :=
  (State.setFld_in ..).same .latches rfl
@[simp] theorem State.setFld_heldWr (s a1 a2 a3) : (State.setFld s a1 a2 a3).heldWr = s.heldWr :=
  (State.setFld_in ..).same .heldWr rfl
@[simp] theorem State.setFld_tk (s a1 a2 a3) : (State.setFld s a1 a2 a3).tk = s.tk := (State.setFld_in ..).same .tk rfl
@[simp] theorem State.setFld_log (s a1 a2 a3) : (State.setFld s a1 a2 a3).log = s.log := (State.setFld_in ..).same .log rfl
@[simp] theorem State.setFld_calBad (s a1 a2 a3) : (State.setFld s a1 a2 a3).calBad = s.calBad :=
  (State.setFld_in ..).same .calBad rfl
@[simp] theorem State.setFld_pails (s a1 a2 a3) : (State.setFld s a1 a2 a3).pails = s.pails :=
  (State.setFld_in ..).same .pails rfl
@[simp] theorem State.setFld_banks (s a1 a2 a3) : (State.setFld s a1 a2 a3).banks = s.banks :=
  (State.setFld_in ..).same .banks rfl
@[simp] theorem State.setFld_repairDue (s a1 a2 a3) : (State.setFld s a1 a2 a3).repairDue = s.repairDue :=
  (State.setFld_in ..).same .repairDue rfl
@[simp] theorem State.setFld_units (s a1 a2 a3) : (State.setFld s a1 a2 a3).units = s.units :=
  (State.setFld_in ..).same .units rfl
@[simp] theorem State.setFld_groups (s a1 a2 a3) : (State.setFld s a1 a2 a3).groups = s.groups :=
  (State.setFld_in ..).same .groups rfl
@[simp] theorem State.setFld_spares (s a1 a2 a3) : (State.setFld s a1 a2 a3).spares = s.spares :=
  (State.setFld_in ..).same .spares rfl
@[simp] theorem State.setFld_chans (s a1 a2 a3) : (State.setFld s a1 a2 a3).chans = s.chans :=
  (State.setFld_in ..).same .chans rfl
@[simp] theorem State.setFld_slices (s a1 a2 a3) : (State.setFld s a1 a2 a3).slices = s.slices :=
  (State.setFld_in ..).same .slices rfl
@[simp] theorem State.setFld_ports (s a1 a2 a3) : (State.setFld s a1 a2 a3).ports = s.ports :=
  (State.setFld_in ..).same .ports rfl
@[simp] theorem State.setFld_links (s a1 a2 a3) : (State.setFld s a1 a2 a3).links = s.links :=
  (State.setFld_in ..).same .links rfl
@[simp] theorem State.setFld_um (s a1 a2 a3) : (State.setFld s a1 a2 a3).um = s.um := (State.setFld_in ..).same .um rfl
@[simp] theorem State.setFld_pw (s a1 a2 a3) : (State.setFld s a1 a2 a3).pw = s.pw := (State.setFld_in ..).same .pw rfl
@[simp] theorem State.setFld_rs (s a1 a2 a3) : (State.setFld s a1 a2 a3).rs = s.rs := (State.setFld_in ..).same .rs rfl
@[simp] theorem State.setFld_cl (s a1 a2 a3) : (State.setFld s a1 a2 a3).cl = s.cl := (State.setFld_in ..).same .cl rfl
@[simp] theorem State.setFld_tw (s a1 a2 a3) : (State.setFld s a1 a2 a3).tw = s.tw := (State.setFld_in ..).same .tw rfl
@[simp] theorem State.setFld_sec (s a1 a2 a3) : (State.setFld s a1 a2 a3).sec = s.sec := (State.setFld_in ..).same .sec rfl
@[simp] theorem State.setFld_flash (s a1 a2 a3) : (State.setFld s a1 a2 a3).flash = s.flash :=
  (State.setFld_in ..).same .flash rfl
@[simp] theorem State.setFld_image (s a1 a2 a3) : (State.setFld s a1 a2 a3).image = s.image :=
  (State.setFld_in ..).same .image rfl
@[simp] theorem State.setFld_fresh (s a1 a2 a3) : (State.setFld s a1 a2 a3).fresh = s.fresh :=
  (State.setFld_in ..).same .fresh rfl
@[simp] theorem State.setFld_out (s a1 a2 a3) : (State.setFld s a1 a2 a3).out = s.out := (State.setFld_in ..).same .out rfl
@[simp] theorem State.setFld_hot (s a1 a2 a3) : (State.setFld s a1 a2 a3).hot = s.hot := (State.setFld_in ..).same .hot rfl
@[simp] theorem State.setFld_eg (s a1 a2 a3) : (State.setFld s a1 a2 a3).eg = s.eg := (State.setFld_in ..).same .eg rfl
@[simp] theorem State.setFld_calDue (s a1 a2 a3) : (State.setFld s a1 a2 a3).calDue = s.calDue :=
  (State.setFld_in ..).same .calDue rfl
@[simp] theorem State.addCnt_pending (s a1 a2 a3) : (State.addCnt s a1 a2 a3).pending = s.pending :=
  (State.addCnt_in ..).same .pending rfl
@[simp] theorem State.addCnt_ticks (s a1 a2 a3) : (State.addCnt s a1 a2 a3).ticks = s.ticks :=
  (State.addCnt_in ..).same .ticks rfl
@[simp] theorem State.addCnt_aon (s a1 a2 a3) : (State.addCnt s a1 a2 a3).aon = s.aon := (State.addCnt_in ..).same .aon rfl
@[simp] theorem State.addCnt_aonLeft (s a1 a2 a3) : (State.addCnt s a1 a2 a3).aonLeft = s.aonLeft :=
  (State.addCnt_in ..).same .aonLeft rfl
@[simp] theorem State.addCnt_core (s a1 a2 a3) : (State.addCnt s a1 a2 a3).core = s.core :=
  (State.addCnt_in ..).same .core rfl
@[simp] theorem State.addCnt_coreQ (s a1 a2 a3) : (State.addCnt s a1 a2 a3).coreQ = s.coreQ :=
  (State.addCnt_in ..).same .coreQ rfl
@[simp] theorem State.addCnt_gen (s a1 a2 a3) : (State.addCnt s a1 a2 a3).gen = s.gen := (State.addCnt_in ..).same .gen rfl
@[simp] theorem State.addCnt_staged (s a1 a2 a3) : (State.addCnt s a1 a2 a3).staged = s.staged :=
  (State.addCnt_in ..).same .staged rfl
@[simp] theorem State.addCnt_latches (s a1 a2 a3) : (State.addCnt s a1 a2 a3).latches = s.latches :=
  (State.addCnt_in ..).same .latches rfl
@[simp] theorem State.addCnt_heldWr (s a1 a2 a3) : (State.addCnt s a1 a2 a3).heldWr = s.heldWr :=
  (State.addCnt_in ..).same .heldWr rfl
@[simp] theorem State.addCnt_tk (s a1 a2 a3) : (State.addCnt s a1 a2 a3).tk = s.tk := (State.addCnt_in ..).same .tk rfl
@[simp] theorem State.addCnt_log (s a1 a2 a3) : (State.addCnt s a1 a2 a3).log = s.log := (State.addCnt_in ..).same .log rfl
@[simp] theorem State.addCnt_calBad (s a1 a2 a3) : (State.addCnt s a1 a2 a3).calBad = s.calBad :=
  (State.addCnt_in ..).same .calBad rfl
@[simp] theorem State.addCnt_pails (s a1 a2 a3) : (State.addCnt s a1 a2 a3).pails = s.pails :=
  (State.addCnt_in ..).same .pails rfl
@[simp] theorem State.addCnt_banks (s a1 a2 a3) : (State.addCnt s a1 a2 a3).banks = s.banks :=
  (State.addCnt_in ..).same .banks rfl
@[simp] theorem State.addCnt_repairDue (s a1 a2 a3) : (State.addCnt s a1 a2 a3).repairDue = s.repairDue :=
  (State.addCnt_in ..).same .repairDue rfl
@[simp] theorem State.addCnt_units (s a1 a2 a3) : (State.addCnt s a1 a2 a3).units = s.units :=
  (State.addCnt_in ..).same .units rfl
@[simp] theorem State.addCnt_groups (s a1 a2 a3) : (State.addCnt s a1 a2 a3).groups = s.groups :=
  (State.addCnt_in ..).same .groups rfl
@[simp] theorem State.addCnt_spares (s a1 a2 a3) : (State.addCnt s a1 a2 a3).spares = s.spares :=
  (State.addCnt_in ..).same .spares rfl
@[simp] theorem State.addCnt_chans (s a1 a2 a3) : (State.addCnt s a1 a2 a3).chans = s.chans :=
  (State.addCnt_in ..).same .chans rfl
@[simp] theorem State.addCnt_slices (s a1 a2 a3) : (State.addCnt s a1 a2 a3).slices = s.slices :=
  (State.addCnt_in ..).same .slices rfl
@[simp] theorem State.addCnt_ports (s a1 a2 a3) : (State.addCnt s a1 a2 a3).ports = s.ports :=
  (State.addCnt_in ..).same .ports rfl
@[simp] theorem State.addCnt_links (s a1 a2 a3) : (State.addCnt s a1 a2 a3).links = s.links :=
  (State.addCnt_in ..).same .links rfl
@[simp] theorem State.addCnt_um (s a1 a2 a3) : (State.addCnt s a1 a2 a3).um = s.um := (State.addCnt_in ..).same .um rfl
@[simp] theorem State.addCnt_pw (s a1 a2 a3) : (State.addCnt s a1 a2 a3).pw = s.pw := (State.addCnt_in ..).same .pw rfl
@[simp] theorem State.addCnt_rs (s a1 a2 a3) : (State.addCnt s a1 a2 a3).rs = s.rs := (State.addCnt_in ..).same .rs rfl
@[simp] theorem State.addCnt_cl (s a1 a2 a3) : (State.addCnt s a1 a2 a3).cl = s.cl := (State.addCnt_in ..).same .cl rfl
@[simp] theorem State.addCnt_tw (s a1 a2 a3) : (State.addCnt s a1 a2 a3).tw = s.tw := (State.addCnt_in ..).same .tw rfl
@[simp] theorem State.addCnt_sec (s a1 a2 a3) : (State.addCnt s a1 a2 a3).sec = s.sec := (State.addCnt_in ..).same .sec rfl
@[simp] theorem State.addCnt_flash (s a1 a2 a3) : (State.addCnt s a1 a2 a3).flash = s.flash :=
  (State.addCnt_in ..).same .flash rfl
@[simp] theorem State.addCnt_image (s a1 a2 a3) : (State.addCnt s a1 a2 a3).image = s.image :=
  (State.addCnt_in ..).same .image rfl
@[simp] theorem State.addCnt_fresh (s a1 a2 a3) : (State.addCnt s a1 a2 a3).fresh = s.fresh :=
  (State.addCnt_in ..).same .fresh rfl
@[simp] theorem State.addCnt_out (s a1 a2 a3) : (State.addCnt s a1 a2 a3).out = s.out := (State.addCnt_in ..).same .out rfl
@[simp] theorem State.addCnt_eg (s a1 a2 a3) : (State.addCnt s a1 a2 a3).eg = s.eg := (State.addCnt_in ..).same .eg rfl
@[simp] theorem State.addCnt_calDue (s a1 a2 a3) : (State.addCnt s a1 a2 a3).calDue = s.calDue :=
  (State.addCnt_in ..).same .calDue rfl
@[simp] theorem State.cnt_pending (s a1) : (State.cnt s a1).pending = s.pending := (State.cnt_in ..).same .pending rfl
@[simp] theorem State.cnt_ticks (s a1) : (State.cnt s a1).ticks = s.ticks := (State.cnt_in ..).same .ticks rfl
@[simp] theorem State.cnt_aon (s a1) : (State.cnt s a1).aon = s.aon := (State.cnt_in ..).same .aon rfl
@[simp] theorem State.cnt_aonLeft (s a1) : (State.cnt s a1).aonLeft = s.aonLeft := (State.cnt_in ..).same .aonLeft rfl
@[simp] theorem State.cnt_core (s a1) : (State.cnt s a1).core = s.core := (State.cnt_in ..).same .core rfl
@[simp] theorem State.cnt_coreQ (s a1) : (State.cnt s a1).coreQ = s.coreQ := (State.cnt_in ..).same .coreQ rfl
@[simp] theorem State.cnt_gen (s a1) : (State.cnt s a1).gen = s.gen := (State.cnt_in ..).same .gen rfl
@[simp] theorem State.cnt_staged (s a1) : (State.cnt s a1).staged = s.staged := (State.cnt_in ..).same .staged rfl
@[simp] theorem State.cnt_latches (s a1) : (State.cnt s a1).latches = s.latches := (State.cnt_in ..).same .latches rfl
@[simp] theorem State.cnt_heldWr (s a1) : (State.cnt s a1).heldWr = s.heldWr := (State.cnt_in ..).same .heldWr rfl
@[simp] theorem State.cnt_tk (s a1) : (State.cnt s a1).tk = s.tk := (State.cnt_in ..).same .tk rfl
@[simp] theorem State.cnt_log (s a1) : (State.cnt s a1).log = s.log := (State.cnt_in ..).same .log rfl
@[simp] theorem State.cnt_calBad (s a1) : (State.cnt s a1).calBad = s.calBad := (State.cnt_in ..).same .calBad rfl
@[simp] theorem State.cnt_pails (s a1) : (State.cnt s a1).pails = s.pails := (State.cnt_in ..).same .pails rfl
@[simp] theorem State.cnt_banks (s a1) : (State.cnt s a1).banks = s.banks := (State.cnt_in ..).same .banks rfl
@[simp] theorem State.cnt_repairDue (s a1) : (State.cnt s a1).repairDue = s.repairDue := (State.cnt_in ..).same .repairDue rfl
@[simp] theorem State.cnt_units (s a1) : (State.cnt s a1).units = s.units := (State.cnt_in ..).same .units rfl
@[simp] theorem State.cnt_groups (s a1) : (State.cnt s a1).groups = s.groups := (State.cnt_in ..).same .groups rfl
@[simp] theorem State.cnt_spares (s a1) : (State.cnt s a1).spares = s.spares := (State.cnt_in ..).same .spares rfl
@[simp] theorem State.cnt_chans (s a1) : (State.cnt s a1).chans = s.chans := (State.cnt_in ..).same .chans rfl
@[simp] theorem State.cnt_slices (s a1) : (State.cnt s a1).slices = s.slices := (State.cnt_in ..).same .slices rfl
@[simp] theorem State.cnt_ports (s a1) : (State.cnt s a1).ports = s.ports := (State.cnt_in ..).same .ports rfl
@[simp] theorem State.cnt_links (s a1) : (State.cnt s a1).links = s.links := (State.cnt_in ..).same .links rfl
@[simp] theorem State.cnt_um (s a1) : (State.cnt s a1).um = s.um := (State.cnt_in ..).same .um rfl
@[simp] theorem State.cnt_pw (s a1) : (State.cnt s a1).pw = s.pw := (State.cnt_in ..).same .pw rfl
@[simp] theorem State.cnt_rs (s a1) : (State.cnt s a1).rs = s.rs := (State.cnt_in ..).same .rs rfl
@[simp] theorem State.cnt_cl (s a1) : (State.cnt s a1).cl = s.cl := (State.cnt_in ..).same .cl rfl
@[simp] theorem State.cnt_tw (s a1) : (State.cnt s a1).tw = s.tw := (State.cnt_in ..).same .tw rfl
@[simp] theorem State.cnt_sec (s a1) : (State.cnt s a1).sec = s.sec := (State.cnt_in ..).same .sec rfl
@[simp] theorem State.cnt_flash (s a1) : (State.cnt s a1).flash = s.flash := (State.cnt_in ..).same .flash rfl
@[simp] theorem State.cnt_image (s a1) : (State.cnt s a1).image = s.image := (State.cnt_in ..).same .image rfl
@[simp] theorem State.cnt_fresh (s a1) : (State.cnt s a1).fresh = s.fresh := (State.cnt_in ..).same .fresh rfl
@[simp] theorem State.cnt_out (s a1) : (State.cnt s a1).out = s.out := (State.cnt_in ..).same .out rfl
@[simp] theorem State.cnt_eg (s a1) : (State.cnt s a1).eg = s.eg := (State.cnt_in ..).same .eg rfl
@[simp] theorem State.cnt_calDue (s a1) : (State.cnt s a1).calDue = s.calDue := (State.cnt_in ..).same .calDue rfl
@[simp] theorem State.logPut_pending (s a1) : (State.logPut s a1).pending = s.pending :=
  (State.logPut_in ..).same .pending rfl
@[simp] theorem State.logPut_ticks (s a1) : (State.logPut s a1).ticks = s.ticks := (State.logPut_in ..).same .ticks rfl
@[simp] theorem State.logPut_aon (s a1) : (State.logPut s a1).aon = s.aon := (State.logPut_in ..).same .aon rfl
@[simp] theorem State.logPut_aonLeft (s a1) : (State.logPut s a1).aonLeft = s.aonLeft :=
  (State.logPut_in ..).same .aonLeft rfl
@[simp] theorem State.logPut_core (s a1) : (State.logPut s a1).core = s.core := (State.logPut_in ..).same .core rfl
@[simp] theorem State.logPut_coreQ (s a1) : (State.logPut s a1).coreQ = s.coreQ := (State.logPut_in ..).same .coreQ rfl
@[simp] theorem State.logPut_gen (s a1) : (State.logPut s a1).gen = s.gen := (State.logPut_in ..).same .gen rfl
@[simp] theorem State.logPut_staged (s a1) : (State.logPut s a1).staged = s.staged := (State.logPut_in ..).same .staged rfl
@[simp] theorem State.logPut_latches (s a1) : (State.logPut s a1).latches = s.latches :=
  (State.logPut_in ..).same .latches rfl
@[simp] theorem State.logPut_heldWr (s a1) : (State.logPut s a1).heldWr = s.heldWr := (State.logPut_in ..).same .heldWr rfl
@[simp] theorem State.logPut_tk (s a1) : (State.logPut s a1).tk = s.tk := (State.logPut_in ..).same .tk rfl
@[simp] theorem State.logPut_calBad (s a1) : (State.logPut s a1).calBad = s.calBad := (State.logPut_in ..).same .calBad rfl
@[simp] theorem State.logPut_pails (s a1) : (State.logPut s a1).pails = s.pails := (State.logPut_in ..).same .pails rfl
@[simp] theorem State.logPut_banks (s a1) : (State.logPut s a1).banks = s.banks := (State.logPut_in ..).same .banks rfl
@[simp] theorem State.logPut_repairDue (s a1) : (State.logPut s a1).repairDue = s.repairDue :=
  (State.logPut_in ..).same .repairDue rfl
@[simp] theorem State.logPut_units (s a1) : (State.logPut s a1).units = s.units := (State.logPut_in ..).same .units rfl
@[simp] theorem State.logPut_groups (s a1) : (State.logPut s a1).groups = s.groups := (State.logPut_in ..).same .groups rfl
@[simp] theorem State.logPut_spares (s a1) : (State.logPut s a1).spares = s.spares := (State.logPut_in ..).same .spares rfl
@[simp] theorem State.logPut_chans (s a1) : (State.logPut s a1).chans = s.chans := (State.logPut_in ..).same .chans rfl
@[simp] theorem State.logPut_slices (s a1) : (State.logPut s a1).slices = s.slices := (State.logPut_in ..).same .slices rfl
@[simp] theorem State.logPut_ports (s a1) : (State.logPut s a1).ports = s.ports := (State.logPut_in ..).same .ports rfl
@[simp] theorem State.logPut_links (s a1) : (State.logPut s a1).links = s.links := (State.logPut_in ..).same .links rfl
@[simp] theorem State.logPut_um (s a1) : (State.logPut s a1).um = s.um := (State.logPut_in ..).same .um rfl
@[simp] theorem State.logPut_pw (s a1) : (State.logPut s a1).pw = s.pw := (State.logPut_in ..).same .pw rfl
@[simp] theorem State.logPut_rs (s a1) : (State.logPut s a1).rs = s.rs := (State.logPut_in ..).same .rs rfl
@[simp] theorem State.logPut_cl (s a1) : (State.logPut s a1).cl = s.cl := (State.logPut_in ..).same .cl rfl
@[simp] theorem State.logPut_tw (s a1) : (State.logPut s a1).tw = s.tw := (State.logPut_in ..).same .tw rfl
@[simp] theorem State.logPut_sec (s a1) : (State.logPut s a1).sec = s.sec := (State.logPut_in ..).same .sec rfl
@[simp] theorem State.logPut_flash (s a1) : (State.logPut s a1).flash = s.flash := (State.logPut_in ..).same .flash rfl
@[simp] theorem State.logPut_image (s a1) : (State.logPut s a1).image = s.image := (State.logPut_in ..).same .image rfl
@[simp] theorem State.logPut_fresh (s a1) : (State.logPut s a1).fresh = s.fresh := (State.logPut_in ..).same .fresh rfl
@[simp] theorem State.logPut_out (s a1) : (State.logPut s a1).out = s.out := (State.logPut_in ..).same .out rfl
@[simp] theorem State.logPut_eg (s a1) : (State.logPut s a1).eg = s.eg := (State.logPut_in ..).same .eg rfl
@[simp] theorem State.logPut_calDue (s a1) : (State.logPut s a1).calDue = s.calDue := (State.logPut_in ..).same .calDue rfl
@[simp] theorem State.recCor_pending (s a1 a2) : (State.recCor s a1 a2).pending = s.pending :=
  (State.recCor_in ..).same .pending rfl
@[simp] theorem State.recCor_ticks (s a1 a2) : (State.recCor s a1 a2).ticks = s.ticks := (State.recCor_in ..).same .ticks rfl
@[simp] theorem State.recCor_aon (s a1 a2) : (State.recCor s a1 a2).aon = s.aon := (State.recCor_in ..).same .aon rfl
@[simp] theorem State.recCor_aonLeft (s a1 a2) : (State.recCor s a1 a2).aonLeft = s.aonLeft :=
  (State.recCor_in ..).same .aonLeft rfl
@[simp] theorem State.recCor_core (s a1 a2) : (State.recCor s a1 a2).core = s.core := (State.recCor_in ..).same .core rfl
@[simp] theorem State.recCor_coreQ (s a1 a2) : (State.recCor s a1 a2).coreQ = s.coreQ := (State.recCor_in ..).same .coreQ rfl
@[simp] theorem State.recCor_regs (s a1 a2) : (State.recCor s a1 a2).regs = s.regs := (State.recCor_in ..).same .regs rfl
@[simp] theorem State.recCor_gen (s a1 a2) : (State.recCor s a1 a2).gen = s.gen := (State.recCor_in ..).same .gen rfl
@[simp] theorem State.recCor_staged (s a1 a2) : (State.recCor s a1 a2).staged = s.staged :=
  (State.recCor_in ..).same .staged rfl
@[simp] theorem State.recCor_latches (s a1 a2) : (State.recCor s a1 a2).latches = s.latches :=
  (State.recCor_in ..).same .latches rfl
@[simp] theorem State.recCor_heldWr (s a1 a2) : (State.recCor s a1 a2).heldWr = s.heldWr :=
  (State.recCor_in ..).same .heldWr rfl
@[simp] theorem State.recCor_tk (s a1 a2) : (State.recCor s a1 a2).tk = s.tk := (State.recCor_in ..).same .tk rfl
@[simp] theorem State.recCor_log (s a1 a2) : (State.recCor s a1 a2).log = s.log := (State.recCor_in ..).same .log rfl
@[simp] theorem State.recCor_calBad (s a1 a2) : (State.recCor s a1 a2).calBad = s.calBad :=
  (State.recCor_in ..).same .calBad rfl
@[simp] theorem State.recCor_pails (s a1 a2) : (State.recCor s a1 a2).pails = s.pails := (State.recCor_in ..).same .pails rfl
@[simp] theorem State.recCor_banks (s a1 a2) : (State.recCor s a1 a2).banks = s.banks := (State.recCor_in ..).same .banks rfl
@[simp] theorem State.recCor_repairDue (s a1 a2) : (State.recCor s a1 a2).repairDue = s.repairDue :=
  (State.recCor_in ..).same .repairDue rfl
@[simp] theorem State.recCor_units (s a1 a2) : (State.recCor s a1 a2).units = s.units := (State.recCor_in ..).same .units rfl
@[simp] theorem State.recCor_groups (s a1 a2) : (State.recCor s a1 a2).groups = s.groups :=
  (State.recCor_in ..).same .groups rfl
@[simp] theorem State.recCor_spares (s a1 a2) : (State.recCor s a1 a2).spares = s.spares :=
  (State.recCor_in ..).same .spares rfl
@[simp] theorem State.recCor_chans (s a1 a2) : (State.recCor s a1 a2).chans = s.chans := (State.recCor_in ..).same .chans rfl
@[simp] theorem State.recCor_slices (s a1 a2) : (State.recCor s a1 a2).slices = s.slices :=
  (State.recCor_in ..).same .slices rfl
@[simp] theorem State.recCor_ports (s a1 a2) : (State.recCor s a1 a2).ports = s.ports := (State.recCor_in ..).same .ports rfl
@[simp] theorem State.recCor_um (s a1 a2) : (State.recCor s a1 a2).um = s.um := (State.recCor_in ..).same .um rfl
@[simp] theorem State.recCor_pw (s a1 a2) : (State.recCor s a1 a2).pw = s.pw := (State.recCor_in ..).same .pw rfl
@[simp] theorem State.recCor_rs (s a1 a2) : (State.recCor s a1 a2).rs = s.rs := (State.recCor_in ..).same .rs rfl
@[simp] theorem State.recCor_cl (s a1 a2) : (State.recCor s a1 a2).cl = s.cl := (State.recCor_in ..).same .cl rfl
@[simp] theorem State.recCor_tw (s a1 a2) : (State.recCor s a1 a2).tw = s.tw := (State.recCor_in ..).same .tw rfl
@[simp] theorem State.recCor_sec (s a1 a2) : (State.recCor s a1 a2).sec = s.sec := (State.recCor_in ..).same .sec rfl
@[simp] theorem State.recCor_flash (s a1 a2) : (State.recCor s a1 a2).flash = s.flash := (State.recCor_in ..).same .flash rfl
@[simp] theorem State.recCor_image (s a1 a2) : (State.recCor s a1 a2).image = s.image := (State.recCor_in ..).same .image rfl
@[simp] theorem State.recCor_fresh (s a1 a2) : (State.recCor s a1 a2).fresh = s.fresh := (State.recCor_in ..).same .fresh rfl
@[simp] theorem State.recCor_hot (s a1 a2) : (State.recCor s a1 a2).hot = s.hot := (State.recCor_in ..).same .hot rfl
@[simp] theorem State.recCor_eg (s a1 a2) : (State.recCor s a1 a2).eg = s.eg := (State.recCor_in ..).same .eg rfl
@[simp] theorem State.recCor_calDue (s a1 a2) : (State.recCor s a1 a2).calDue = s.calDue :=
  (State.recCor_in ..).same .calDue rfl
@[simp] theorem State.recUnc_pending (s a1 a2 a3) : (State.recUnc s a1 a2 a3).pending = s.pending :=
  (State.recUnc_in ..).same .pending rfl
@[simp] theorem State.recUnc_ticks (s a1 a2 a3) : (State.recUnc s a1 a2 a3).ticks = s.ticks :=
  (State.recUnc_in ..).same .ticks rfl
@[simp] theorem State.recUnc_aon (s a1 a2 a3) : (State.recUnc s a1 a2 a3).aon = s.aon := (State.recUnc_in ..).same .aon rfl
@[simp] theorem State.recUnc_aonLeft (s a1 a2 a3) : (State.recUnc s a1 a2 a3).aonLeft = s.aonLeft :=
  (State.recUnc_in ..).same .aonLeft rfl
@[simp] theorem State.recUnc_core (s a1 a2 a3) : (State.recUnc s a1 a2 a3).core = s.core :=
  (State.recUnc_in ..).same .core rfl
@[simp] theorem State.recUnc_coreQ (s a1 a2 a3) : (State.recUnc s a1 a2 a3).coreQ = s.coreQ :=
  (State.recUnc_in ..).same .coreQ rfl
@[simp] theorem State.recUnc_regs (s a1 a2 a3) : (State.recUnc s a1 a2 a3).regs = s.regs :=
  (State.recUnc_in ..).same .regs rfl
@[simp] theorem State.recUnc_gen (s a1 a2 a3) : (State.recUnc s a1 a2 a3).gen = s.gen := (State.recUnc_in ..).same .gen rfl
@[simp] theorem State.recUnc_staged (s a1 a2 a3) : (State.recUnc s a1 a2 a3).staged = s.staged :=
  (State.recUnc_in ..).same .staged rfl
@[simp] theorem State.recUnc_latches (s a1 a2 a3) : (State.recUnc s a1 a2 a3).latches = s.latches :=
  (State.recUnc_in ..).same .latches rfl
@[simp] theorem State.recUnc_heldWr (s a1 a2 a3) : (State.recUnc s a1 a2 a3).heldWr = s.heldWr :=
  (State.recUnc_in ..).same .heldWr rfl
@[simp] theorem State.recUnc_tk (s a1 a2 a3) : (State.recUnc s a1 a2 a3).tk = s.tk := (State.recUnc_in ..).same .tk rfl
@[simp] theorem State.recUnc_log (s a1 a2 a3) : (State.recUnc s a1 a2 a3).log = s.log := (State.recUnc_in ..).same .log rfl
@[simp] theorem State.recUnc_calBad (s a1 a2 a3) : (State.recUnc s a1 a2 a3).calBad = s.calBad :=
  (State.recUnc_in ..).same .calBad rfl
@[simp] theorem State.recUnc_pails (s a1 a2 a3) : (State.recUnc s a1 a2 a3).pails = s.pails :=
  (State.recUnc_in ..).same .pails rfl
@[simp] theorem State.recUnc_banks (s a1 a2 a3) : (State.recUnc s a1 a2 a3).banks = s.banks :=
  (State.recUnc_in ..).same .banks rfl
@[simp] theorem State.recUnc_repairDue (s a1 a2 a3) : (State.recUnc s a1 a2 a3).repairDue = s.repairDue :=
  (State.recUnc_in ..).same .repairDue rfl
@[simp] theorem State.recUnc_units (s a1 a2 a3) : (State.recUnc s a1 a2 a3).units = s.units :=
  (State.recUnc_in ..).same .units rfl
@[simp] theorem State.recUnc_groups (s a1 a2 a3) : (State.recUnc s a1 a2 a3).groups = s.groups :=
  (State.recUnc_in ..).same .groups rfl
@[simp] theorem State.recUnc_spares (s a1 a2 a3) : (State.recUnc s a1 a2 a3).spares = s.spares :=
  (State.recUnc_in ..).same .spares rfl
@[simp] theorem State.recUnc_chans (s a1 a2 a3) : (State.recUnc s a1 a2 a3).chans = s.chans :=
  (State.recUnc_in ..).same .chans rfl
@[simp] theorem State.recUnc_slices (s a1 a2 a3) : (State.recUnc s a1 a2 a3).slices = s.slices :=
  (State.recUnc_in ..).same .slices rfl
@[simp] theorem State.recUnc_ports (s a1 a2 a3) : (State.recUnc s a1 a2 a3).ports = s.ports :=
  (State.recUnc_in ..).same .ports rfl
@[simp] theorem State.recUnc_um (s a1 a2 a3) : (State.recUnc s a1 a2 a3).um = s.um := (State.recUnc_in ..).same .um rfl
@[simp] theorem State.recUnc_pw (s a1 a2 a3) : (State.recUnc s a1 a2 a3).pw = s.pw := (State.recUnc_in ..).same .pw rfl
@[simp] theorem State.recUnc_rs (s a1 a2 a3) : (State.recUnc s a1 a2 a3).rs = s.rs := (State.recUnc_in ..).same .rs rfl
@[simp] theorem State.recUnc_cl (s a1 a2 a3) : (State.recUnc s a1 a2 a3).cl = s.cl := (State.recUnc_in ..).same .cl rfl
@[simp] theorem State.recUnc_tw (s a1 a2 a3) : (State.recUnc s a1 a2 a3).tw = s.tw := (State.recUnc_in ..).same .tw rfl
@[simp] theorem State.recUnc_sec (s a1 a2 a3) : (State.recUnc s a1 a2 a3).sec = s.sec := (State.recUnc_in ..).same .sec rfl
@[simp] theorem State.recUnc_flash (s a1 a2 a3) : (State.recUnc s a1 a2 a3).flash = s.flash :=
  (State.recUnc_in ..).same .flash rfl
@[simp] theorem State.recUnc_image (s a1 a2 a3) : (State.recUnc s a1 a2 a3).image = s.image :=
  (State.recUnc_in ..).same .image rfl
@[simp] theorem State.recUnc_fresh (s a1 a2 a3) : (State.recUnc s a1 a2 a3).fresh = s.fresh :=
  (State.recUnc_in ..).same .fresh rfl
@[simp] theorem State.recUnc_hot (s a1 a2 a3) : (State.recUnc s a1 a2 a3).hot = s.hot := (State.recUnc_in ..).same .hot rfl
@[simp] theorem State.recUnc_eg (s a1 a2 a3) : (State.recUnc s a1 a2 a3).eg = s.eg := (State.recUnc_in ..).same .eg rfl
@[simp] theorem State.recUnc_calDue (s a1 a2 a3) : (State.recUnc s a1 a2 a3).calDue = s.calDue :=
  (State.recUnc_in ..).same .calDue rfl
@[simp] theorem State.signal_pending (s a1 a2) : (State.signal s a1 a2).pending = s.pending :=
  (State.signal_in ..).same .pending rfl
@[simp] theorem State.signal_ticks (s a1 a2) : (State.signal s a1 a2).ticks = s.ticks := (State.signal_in ..).same .ticks rfl
@[simp] theorem State.signal_aon (s a1 a2) : (State.signal s a1 a2).aon = s.aon := (State.signal_in ..).same .aon rfl
@[simp] theorem State.signal_aonLeft (s a1 a2) : (State.signal s a1 a2).aonLeft = s.aonLeft :=
  (State.signal_in ..).same .aonLeft rfl
@[simp] theorem State.signal_core (s a1 a2) : (State.signal s a1 a2).core = s.core := (State.signal_in ..).same .core rfl
@[simp] theorem State.signal_coreQ (s a1 a2) : (State.signal s a1 a2).coreQ = s.coreQ := (State.signal_in ..).same .coreQ rfl
@[simp] theorem State.signal_regs (s a1 a2) : (State.signal s a1 a2).regs = s.regs := (State.signal_in ..).same .regs rfl
@[simp] theorem State.signal_gen (s a1 a2) : (State.signal s a1 a2).gen = s.gen := (State.signal_in ..).same .gen rfl
@[simp] theorem State.signal_staged (s a1 a2) : (State.signal s a1 a2).staged = s.staged :=
  (State.signal_in ..).same .staged rfl
@[simp] theorem State.signal_latches (s a1 a2) : (State.signal s a1 a2).latches = s.latches :=
  (State.signal_in ..).same .latches rfl
@[simp] theorem State.signal_heldWr (s a1 a2) : (State.signal s a1 a2).heldWr = s.heldWr :=
  (State.signal_in ..).same .heldWr rfl
@[simp] theorem State.signal_tk (s a1 a2) : (State.signal s a1 a2).tk = s.tk := (State.signal_in ..).same .tk rfl
@[simp] theorem State.signal_log (s a1 a2) : (State.signal s a1 a2).log = s.log := (State.signal_in ..).same .log rfl
@[simp] theorem State.signal_calBad (s a1 a2) : (State.signal s a1 a2).calBad = s.calBad :=
  (State.signal_in ..).same .calBad rfl
@[simp] theorem State.signal_pails (s a1 a2) : (State.signal s a1 a2).pails = s.pails := (State.signal_in ..).same .pails rfl
@[simp] theorem State.signal_banks (s a1 a2) : (State.signal s a1 a2).banks = s.banks := (State.signal_in ..).same .banks rfl
@[simp] theorem State.signal_repairDue (s a1 a2) : (State.signal s a1 a2).repairDue = s.repairDue :=
  (State.signal_in ..).same .repairDue rfl
@[simp] theorem State.signal_units (s a1 a2) : (State.signal s a1 a2).units = s.units := (State.signal_in ..).same .units rfl
@[simp] theorem State.signal_groups (s a1 a2) : (State.signal s a1 a2).groups = s.groups :=
  (State.signal_in ..).same .groups rfl
@[simp] theorem State.signal_spares (s a1 a2) : (State.signal s a1 a2).spares = s.spares :=
  (State.signal_in ..).same .spares rfl
@[simp] theorem State.signal_chans (s a1 a2) : (State.signal s a1 a2).chans = s.chans := (State.signal_in ..).same .chans rfl
@[simp] theorem State.signal_slices (s a1 a2) : (State.signal s a1 a2).slices = s.slices :=
  (State.signal_in ..).same .slices rfl
@[simp] theorem State.signal_ports (s a1 a2) : (State.signal s a1 a2).ports = s.ports := (State.signal_in ..).same .ports rfl
@[simp] theorem State.signal_um (s a1 a2) : (State.signal s a1 a2).um = s.um := (State.signal_in ..).same .um rfl
@[simp] theorem State.signal_pw (s a1 a2) : (State.signal s a1 a2).pw = s.pw := (State.signal_in ..).same .pw rfl
@[simp] theorem State.signal_rs (s a1 a2) : (State.signal s a1 a2).rs = s.rs := (State.signal_in ..).same .rs rfl
@[simp] theorem State.signal_cl (s a1 a2) : (State.signal s a1 a2).cl = s.cl := (State.signal_in ..).same .cl rfl
@[simp] theorem State.signal_tw (s a1 a2) : (State.signal s a1 a2).tw = s.tw := (State.signal_in ..).same .tw rfl
@[simp] theorem State.signal_sec (s a1 a2) : (State.signal s a1 a2).sec = s.sec := (State.signal_in ..).same .sec rfl
@[simp] theorem State.signal_flash (s a1 a2) : (State.signal s a1 a2).flash = s.flash := (State.signal_in ..).same .flash rfl
@[simp] theorem State.signal_image (s a1 a2) : (State.signal s a1 a2).image = s.image := (State.signal_in ..).same .image rfl
@[simp] theorem State.signal_fresh (s a1 a2) : (State.signal s a1 a2).fresh = s.fresh := (State.signal_in ..).same .fresh rfl
@[simp] theorem State.signal_out (s a1 a2) : (State.signal s a1 a2).out = s.out := (State.signal_in ..).same .out rfl
@[simp] theorem State.signal_hot (s a1 a2) : (State.signal s a1 a2).hot = s.hot := (State.signal_in ..).same .hot rfl
@[simp] theorem State.signal_eg (s a1 a2) : (State.signal s a1 a2).eg = s.eg := (State.signal_in ..).same .eg rfl
@[simp] theorem State.signal_calDue (s a1 a2) : (State.signal s a1 a2).calDue = s.calDue :=
  (State.signal_in ..).same .calDue rfl
@[simp] theorem State.raiseActs_pending (a0 s a2 a3 a4) : (State.raiseActs a0 s a2 a3 a4).pending = s.pending :=
  (State.raiseActs_in ..).same .pending rfl
@[simp] theorem State.raiseActs_ticks (a0 s a2 a3 a4) : (State.raiseActs a0 s a2 a3 a4).ticks = s.ticks :=
  (State.raiseActs_in ..).same .ticks rfl
@[simp] theorem State.raiseActs_aon (a0 s a2 a3 a4) : (State.raiseActs a0 s a2 a3 a4).aon = s.aon :=
  (State.raiseActs_in ..).same .aon rfl
@[simp] theorem State.raiseActs_aonLeft (a0 s a2 a3 a4) : (State.raiseActs a0 s a2 a3 a4).aonLeft = s.aonLeft :=
  (State.raiseActs_in ..).same .aonLeft rfl
@[simp] theorem State.raiseActs_core (a0 s a2 a3 a4) : (State.raiseActs a0 s a2 a3 a4).core = s.core :=
  (State.raiseActs_in ..).same .core rfl
@[simp] theorem State.raiseActs_coreQ (a0 s a2 a3 a4) : (State.raiseActs a0 s a2 a3 a4).coreQ = s.coreQ :=
  (State.raiseActs_in ..).same .coreQ rfl
@[simp] theorem State.raiseActs_gen (a0 s a2 a3 a4) : (State.raiseActs a0 s a2 a3 a4).gen = s.gen :=
  (State.raiseActs_in ..).same .gen rfl
@[simp] theorem State.raiseActs_staged (a0 s a2 a3 a4) : (State.raiseActs a0 s a2 a3 a4).staged = s.staged :=
  (State.raiseActs_in ..).same .staged rfl
@[simp] theorem State.raiseActs_latches (a0 s a2 a3 a4) : (State.raiseActs a0 s a2 a3 a4).latches = s.latches :=
  (State.raiseActs_in ..).same .latches rfl
@[simp] theorem State.raiseActs_heldWr (a0 s a2 a3 a4) : (State.raiseActs a0 s a2 a3 a4).heldWr = s.heldWr :=
  (State.raiseActs_in ..).same .heldWr rfl
@[simp] theorem State.raiseActs_tk (a0 s a2 a3 a4) : (State.raiseActs a0 s a2 a3 a4).tk = s.tk :=
  (State.raiseActs_in ..).same .tk rfl
@[simp] theorem State.raiseActs_calBad (a0 s a2 a3 a4) : (State.raiseActs a0 s a2 a3 a4).calBad = s.calBad :=
  (State.raiseActs_in ..).same .calBad rfl
@[simp] theorem State.raiseActs_pails (a0 s a2 a3 a4) : (State.raiseActs a0 s a2 a3 a4).pails = s.pails :=
  (State.raiseActs_in ..).same .pails rfl
@[simp] theorem State.raiseActs_banks (a0 s a2 a3 a4) : (State.raiseActs a0 s a2 a3 a4).banks = s.banks :=
  (State.raiseActs_in ..).same .banks rfl
@[simp] theorem State.raiseActs_repairDue (a0 s a2 a3 a4) : (State.raiseActs a0 s a2 a3 a4).repairDue = s.repairDue :=
  (State.raiseActs_in ..).same .repairDue rfl
@[simp] theorem State.raiseActs_units (a0 s a2 a3 a4) : (State.raiseActs a0 s a2 a3 a4).units = s.units :=
  (State.raiseActs_in ..).same .units rfl
@[simp] theorem State.raiseActs_groups (a0 s a2 a3 a4) : (State.raiseActs a0 s a2 a3 a4).groups = s.groups :=
  (State.raiseActs_in ..).same .groups rfl
@[simp] theorem State.raiseActs_spares (a0 s a2 a3 a4) : (State.raiseActs a0 s a2 a3 a4).spares = s.spares :=
  (State.raiseActs_in ..).same .spares rfl
@[simp] theorem State.raiseActs_chans (a0 s a2 a3 a4) : (State.raiseActs a0 s a2 a3 a4).chans = s.chans :=
  (State.raiseActs_in ..).same .chans rfl
@[simp] theorem State.raiseActs_slices (a0 s a2 a3 a4) : (State.raiseActs a0 s a2 a3 a4).slices = s.slices :=
  (State.raiseActs_in ..).same .slices rfl
@[simp] theorem State.raiseActs_ports (a0 s a2 a3 a4) : (State.raiseActs a0 s a2 a3 a4).ports = s.ports :=
  (State.raiseActs_in ..).same .ports rfl
@[simp] theorem State.raiseActs_um (a0 s a2 a3 a4) : (State.raiseActs a0 s a2 a3 a4).um = s.um :=
  (State.raiseActs_in ..).same .um rfl
@[simp] theorem State.raiseActs_pw (a0 s a2 a3 a4) : (State.raiseActs a0 s a2 a3 a4).pw = s.pw :=
  (State.raiseActs_in ..).same .pw rfl
@[simp] theorem State.raiseActs_rs (a0 s a2 a3 a4) : (State.raiseActs a0 s a2 a3 a4).rs = s.rs :=
  (State.raiseActs_in ..).same .rs rfl
@[simp] theorem State.raiseActs_cl (a0 s a2 a3 a4) : (State.raiseActs a0 s a2 a3 a4).cl = s.cl :=
  (State.raiseActs_in ..).same .cl rfl
@[simp] theorem State.raiseActs_tw (a0 s a2 a3 a4) : (State.raiseActs a0 s a2 a3 a4).tw = s.tw :=
  (State.raiseActs_in ..).same .tw rfl
@[simp] theorem State.raiseActs_sec (a0 s a2 a3 a4) : (State.raiseActs a0 s a2 a3 a4).sec = s.sec :=
  (State.raiseActs_in ..).same .sec rfl
@[simp] theorem State.raiseActs_flash (a0 s a2 a3 a4) : (State.raiseActs a0 s a2 a3 a4).flash = s.flash :=
  (State.raiseActs_in ..).same .flash rfl
@[simp] theorem State.raiseActs_image (a0 s a2 a3 a4) : (State.raiseActs a0 s a2 a3 a4).image = s.image :=
  (State.raiseActs_in ..).same .image rfl
@[simp] theorem State.raiseActs_fresh (a0 s a2 a3 a4) : (State.raiseActs a0 s a2 a3 a4).fresh = s.fresh :=
  (State.raiseActs_in ..).same .fresh rfl
@[simp] theorem State.raiseActs_eg (a0 s a2 a3 a4) : (State.raiseActs a0 s a2 a3 a4).eg = s.eg :=
  (State.raiseActs_in ..).same .eg rfl
@[simp] theorem State.raiseActs_calDue (a0 s a2 a3 a4) : (State.raiseActs a0 s a2 a3 a4).calDue = s.calDue :=
  (State.raiseActs_in ..).same .calDue rfl
@[simp] theorem State.occurBit_pending (s a1 a2 a3 a4) : (State.occurBit s a1 a2 a3 a4).pending = s.pending :=
  (State.occurBit_in ..).same .pending rfl
@[simp] theorem State.occurBit_ticks (s a1 a2 a3 a4) : (State.occurBit s a1 a2 a3 a4).ticks = s.ticks :=
  (State.occurBit_in ..).same .ticks rfl
@[simp] theorem State.occurBit_aon (s a1 a2 a3 a4) : (State.occurBit s a1 a2 a3 a4).aon = s.aon :=
  (State.occurBit_in ..).same .aon rfl
@[simp] theorem State.occurBit_aonLeft (s a1 a2 a3 a4) : (State.occurBit s a1 a2 a3 a4).aonLeft = s.aonLeft :=
  (State.occurBit_in ..).same .aonLeft rfl
@[simp] theorem State.occurBit_core (s a1 a2 a3 a4) : (State.occurBit s a1 a2 a3 a4).core = s.core :=
  (State.occurBit_in ..).same .core rfl
@[simp] theorem State.occurBit_coreQ (s a1 a2 a3 a4) : (State.occurBit s a1 a2 a3 a4).coreQ = s.coreQ :=
  (State.occurBit_in ..).same .coreQ rfl
@[simp] theorem State.occurBit_gen (s a1 a2 a3 a4) : (State.occurBit s a1 a2 a3 a4).gen = s.gen :=
  (State.occurBit_in ..).same .gen rfl
@[simp] theorem State.occurBit_staged (s a1 a2 a3 a4) : (State.occurBit s a1 a2 a3 a4).staged = s.staged :=
  (State.occurBit_in ..).same .staged rfl
@[simp] theorem State.occurBit_latches (s a1 a2 a3 a4) : (State.occurBit s a1 a2 a3 a4).latches = s.latches :=
  (State.occurBit_in ..).same .latches rfl
@[simp] theorem State.occurBit_heldWr (s a1 a2 a3 a4) : (State.occurBit s a1 a2 a3 a4).heldWr = s.heldWr :=
  (State.occurBit_in ..).same .heldWr rfl
@[simp] theorem State.occurBit_tk (s a1 a2 a3 a4) : (State.occurBit s a1 a2 a3 a4).tk = s.tk :=
  (State.occurBit_in ..).same .tk rfl
@[simp] theorem State.occurBit_calBad (s a1 a2 a3 a4) : (State.occurBit s a1 a2 a3 a4).calBad = s.calBad :=
  (State.occurBit_in ..).same .calBad rfl
@[simp] theorem State.occurBit_pails (s a1 a2 a3 a4) : (State.occurBit s a1 a2 a3 a4).pails = s.pails :=
  (State.occurBit_in ..).same .pails rfl
@[simp] theorem State.occurBit_banks (s a1 a2 a3 a4) : (State.occurBit s a1 a2 a3 a4).banks = s.banks :=
  (State.occurBit_in ..).same .banks rfl
@[simp] theorem State.occurBit_repairDue (s a1 a2 a3 a4) : (State.occurBit s a1 a2 a3 a4).repairDue = s.repairDue :=
  (State.occurBit_in ..).same .repairDue rfl
@[simp] theorem State.occurBit_units (s a1 a2 a3 a4) : (State.occurBit s a1 a2 a3 a4).units = s.units :=
  (State.occurBit_in ..).same .units rfl
@[simp] theorem State.occurBit_groups (s a1 a2 a3 a4) : (State.occurBit s a1 a2 a3 a4).groups = s.groups :=
  (State.occurBit_in ..).same .groups rfl
@[simp] theorem State.occurBit_spares (s a1 a2 a3 a4) : (State.occurBit s a1 a2 a3 a4).spares = s.spares :=
  (State.occurBit_in ..).same .spares rfl
@[simp] theorem State.occurBit_chans (s a1 a2 a3 a4) : (State.occurBit s a1 a2 a3 a4).chans = s.chans :=
  (State.occurBit_in ..).same .chans rfl
@[simp] theorem State.occurBit_slices (s a1 a2 a3 a4) : (State.occurBit s a1 a2 a3 a4).slices = s.slices :=
  (State.occurBit_in ..).same .slices rfl
@[simp] theorem State.occurBit_ports (s a1 a2 a3 a4) : (State.occurBit s a1 a2 a3 a4).ports = s.ports :=
  (State.occurBit_in ..).same .ports rfl
@[simp] theorem State.occurBit_um (s a1 a2 a3 a4) : (State.occurBit s a1 a2 a3 a4).um = s.um :=
  (State.occurBit_in ..).same .um rfl
@[simp] theorem State.occurBit_pw (s a1 a2 a3 a4) : (State.occurBit s a1 a2 a3 a4).pw = s.pw :=
  (State.occurBit_in ..).same .pw rfl
@[simp] theorem State.occurBit_rs (s a1 a2 a3 a4) : (State.occurBit s a1 a2 a3 a4).rs = s.rs :=
  (State.occurBit_in ..).same .rs rfl
@[simp] theorem State.occurBit_cl (s a1 a2 a3 a4) : (State.occurBit s a1 a2 a3 a4).cl = s.cl :=
  (State.occurBit_in ..).same .cl rfl
@[simp] theorem State.occurBit_tw (s a1 a2 a3 a4) : (State.occurBit s a1 a2 a3 a4).tw = s.tw :=
  (State.occurBit_in ..).same .tw rfl
@[simp] theorem State.occurBit_sec (s a1 a2 a3 a4) : (State.occurBit s a1 a2 a3 a4).sec = s.sec :=
  (State.occurBit_in ..).same .sec rfl
@[simp] theorem State.occurBit_flash (s a1 a2 a3 a4) : (State.occurBit s a1 a2 a3 a4).flash = s.flash :=
  (State.occurBit_in ..).same .flash rfl
@[simp] theorem State.occurBit_image (s a1 a2 a3 a4) : (State.occurBit s a1 a2 a3 a4).image = s.image :=
  (State.occurBit_in ..).same .image rfl
@[simp] theorem State.occurBit_fresh (s a1 a2 a3 a4) : (State.occurBit s a1 a2 a3 a4).fresh = s.fresh :=
  (State.occurBit_in ..).same .fresh rfl
@[simp] theorem State.occurBit_eg (s a1 a2 a3 a4) : (State.occurBit s a1 a2 a3 a4).eg = s.eg :=
  (State.occurBit_in ..).same .eg rfl
@[simp] theorem State.occurBit_calDue (s a1 a2 a3 a4) : (State.occurBit s a1 a2 a3 a4).calDue = s.calDue :=
  (State.occurBit_in ..).same .calDue rfl
@[simp] theorem State.evHl_pending (s a1 a2) : (State.evHl s a1 a2).pending = s.pending :=
  (State.evHl_in ..).same .pending rfl
@[simp] theorem State.evHl_ticks (s a1 a2) : (State.evHl s a1 a2).ticks = s.ticks := (State.evHl_in ..).same .ticks rfl
@[simp] theorem State.evHl_aon (s a1 a2) : (State.evHl s a1 a2).aon = s.aon := (State.evHl_in ..).same .aon rfl
@[simp] theorem State.evHl_aonLeft (s a1 a2) : (State.evHl s a1 a2).aonLeft = s.aonLeft :=
  (State.evHl_in ..).same .aonLeft rfl
@[simp] theorem State.evHl_core (s a1 a2) : (State.evHl s a1 a2).core = s.core := (State.evHl_in ..).same .core rfl
@[simp] theorem State.evHl_coreQ (s a1 a2) : (State.evHl s a1 a2).coreQ = s.coreQ := (State.evHl_in ..).same .coreQ rfl
@[simp] theorem State.evHl_gen (s a1 a2) : (State.evHl s a1 a2).gen = s.gen := (State.evHl_in ..).same .gen rfl
@[simp] theorem State.evHl_staged (s a1 a2) : (State.evHl s a1 a2).staged = s.staged := (State.evHl_in ..).same .staged rfl
@[simp] theorem State.evHl_latches (s a1 a2) : (State.evHl s a1 a2).latches = s.latches :=
  (State.evHl_in ..).same .latches rfl
@[simp] theorem State.evHl_heldWr (s a1 a2) : (State.evHl s a1 a2).heldWr = s.heldWr := (State.evHl_in ..).same .heldWr rfl
@[simp] theorem State.evHl_tk (s a1 a2) : (State.evHl s a1 a2).tk = s.tk := (State.evHl_in ..).same .tk rfl
@[simp] theorem State.evHl_calBad (s a1 a2) : (State.evHl s a1 a2).calBad = s.calBad := (State.evHl_in ..).same .calBad rfl
@[simp] theorem State.evHl_pails (s a1 a2) : (State.evHl s a1 a2).pails = s.pails := (State.evHl_in ..).same .pails rfl
@[simp] theorem State.evHl_banks (s a1 a2) : (State.evHl s a1 a2).banks = s.banks := (State.evHl_in ..).same .banks rfl
@[simp] theorem State.evHl_repairDue (s a1 a2) : (State.evHl s a1 a2).repairDue = s.repairDue :=
  (State.evHl_in ..).same .repairDue rfl
@[simp] theorem State.evHl_units (s a1 a2) : (State.evHl s a1 a2).units = s.units := (State.evHl_in ..).same .units rfl
@[simp] theorem State.evHl_groups (s a1 a2) : (State.evHl s a1 a2).groups = s.groups := (State.evHl_in ..).same .groups rfl
@[simp] theorem State.evHl_spares (s a1 a2) : (State.evHl s a1 a2).spares = s.spares := (State.evHl_in ..).same .spares rfl
@[simp] theorem State.evHl_chans (s a1 a2) : (State.evHl s a1 a2).chans = s.chans := (State.evHl_in ..).same .chans rfl
@[simp] theorem State.evHl_slices (s a1 a2) : (State.evHl s a1 a2).slices = s.slices := (State.evHl_in ..).same .slices rfl
@[simp] theorem State.evHl_ports (s a1 a2) : (State.evHl s a1 a2).ports = s.ports := (State.evHl_in ..).same .ports rfl
@[simp] theorem State.evHl_um (s a1 a2) : (State.evHl s a1 a2).um = s.um := (State.evHl_in ..).same .um rfl
@[simp] theorem State.evHl_pw (s a1 a2) : (State.evHl s a1 a2).pw = s.pw := (State.evHl_in ..).same .pw rfl
@[simp] theorem State.evHl_rs (s a1 a2) : (State.evHl s a1 a2).rs = s.rs := (State.evHl_in ..).same .rs rfl
@[simp] theorem State.evHl_cl (s a1 a2) : (State.evHl s a1 a2).cl = s.cl := (State.evHl_in ..).same .cl rfl
@[simp] theorem State.evHl_tw (s a1 a2) : (State.evHl s a1 a2).tw = s.tw := (State.evHl_in ..).same .tw rfl
@[simp] theorem State.evHl_sec (s a1 a2) : (State.evHl s a1 a2).sec = s.sec := (State.evHl_in ..).same .sec rfl
@[simp] theorem State.evHl_flash (s a1 a2) : (State.evHl s a1 a2).flash = s.flash := (State.evHl_in ..).same .flash rfl
@[simp] theorem State.evHl_image (s a1 a2) : (State.evHl s a1 a2).image = s.image := (State.evHl_in ..).same .image rfl
@[simp] theorem State.evHl_fresh (s a1 a2) : (State.evHl s a1 a2).fresh = s.fresh := (State.evHl_in ..).same .fresh rfl
@[simp] theorem State.evHl_eg (s a1 a2) : (State.evHl s a1 a2).eg = s.eg := (State.evHl_in ..).same .eg rfl
@[simp] theorem State.evHl_calDue (s a1 a2) : (State.evHl s a1 a2).calDue = s.calDue := (State.evHl_in ..).same .calDue rfl
@[simp] theorem State.aerUnc_pending (s a1 a2 a3) : (State.aerUnc s a1 a2 a3).pending = s.pending :=
  (State.aerUnc_in ..).same .pending rfl
@[simp] theorem State.aerUnc_ticks (s a1 a2 a3) : (State.aerUnc s a1 a2 a3).ticks = s.ticks :=
  (State.aerUnc_in ..).same .ticks rfl
@[simp] theorem State.aerUnc_aon (s a1 a2 a3) : (State.aerUnc s a1 a2 a3).aon = s.aon := (State.aerUnc_in ..).same .aon rfl
@[simp] theorem State.aerUnc_aonLeft (s a1 a2 a3) : (State.aerUnc s a1 a2 a3).aonLeft = s.aonLeft :=
  (State.aerUnc_in ..).same .aonLeft rfl
@[simp] theorem State.aerUnc_core (s a1 a2 a3) : (State.aerUnc s a1 a2 a3).core = s.core :=
  (State.aerUnc_in ..).same .core rfl
@[simp] theorem State.aerUnc_coreQ (s a1 a2 a3) : (State.aerUnc s a1 a2 a3).coreQ = s.coreQ :=
  (State.aerUnc_in ..).same .coreQ rfl
@[simp] theorem State.aerUnc_gen (s a1 a2 a3) : (State.aerUnc s a1 a2 a3).gen = s.gen := (State.aerUnc_in ..).same .gen rfl
@[simp] theorem State.aerUnc_staged (s a1 a2 a3) : (State.aerUnc s a1 a2 a3).staged = s.staged :=
  (State.aerUnc_in ..).same .staged rfl
@[simp] theorem State.aerUnc_latches (s a1 a2 a3) : (State.aerUnc s a1 a2 a3).latches = s.latches :=
  (State.aerUnc_in ..).same .latches rfl
@[simp] theorem State.aerUnc_heldWr (s a1 a2 a3) : (State.aerUnc s a1 a2 a3).heldWr = s.heldWr :=
  (State.aerUnc_in ..).same .heldWr rfl
@[simp] theorem State.aerUnc_tk (s a1 a2 a3) : (State.aerUnc s a1 a2 a3).tk = s.tk := (State.aerUnc_in ..).same .tk rfl
@[simp] theorem State.aerUnc_calBad (s a1 a2 a3) : (State.aerUnc s a1 a2 a3).calBad = s.calBad :=
  (State.aerUnc_in ..).same .calBad rfl
@[simp] theorem State.aerUnc_pails (s a1 a2 a3) : (State.aerUnc s a1 a2 a3).pails = s.pails :=
  (State.aerUnc_in ..).same .pails rfl
@[simp] theorem State.aerUnc_banks (s a1 a2 a3) : (State.aerUnc s a1 a2 a3).banks = s.banks :=
  (State.aerUnc_in ..).same .banks rfl
@[simp] theorem State.aerUnc_repairDue (s a1 a2 a3) : (State.aerUnc s a1 a2 a3).repairDue = s.repairDue :=
  (State.aerUnc_in ..).same .repairDue rfl
@[simp] theorem State.aerUnc_units (s a1 a2 a3) : (State.aerUnc s a1 a2 a3).units = s.units :=
  (State.aerUnc_in ..).same .units rfl
@[simp] theorem State.aerUnc_groups (s a1 a2 a3) : (State.aerUnc s a1 a2 a3).groups = s.groups :=
  (State.aerUnc_in ..).same .groups rfl
@[simp] theorem State.aerUnc_spares (s a1 a2 a3) : (State.aerUnc s a1 a2 a3).spares = s.spares :=
  (State.aerUnc_in ..).same .spares rfl
@[simp] theorem State.aerUnc_chans (s a1 a2 a3) : (State.aerUnc s a1 a2 a3).chans = s.chans :=
  (State.aerUnc_in ..).same .chans rfl
@[simp] theorem State.aerUnc_slices (s a1 a2 a3) : (State.aerUnc s a1 a2 a3).slices = s.slices :=
  (State.aerUnc_in ..).same .slices rfl
@[simp] theorem State.aerUnc_ports (s a1 a2 a3) : (State.aerUnc s a1 a2 a3).ports = s.ports :=
  (State.aerUnc_in ..).same .ports rfl
@[simp] theorem State.aerUnc_um (s a1 a2 a3) : (State.aerUnc s a1 a2 a3).um = s.um := (State.aerUnc_in ..).same .um rfl
@[simp] theorem State.aerUnc_pw (s a1 a2 a3) : (State.aerUnc s a1 a2 a3).pw = s.pw := (State.aerUnc_in ..).same .pw rfl
@[simp] theorem State.aerUnc_rs (s a1 a2 a3) : (State.aerUnc s a1 a2 a3).rs = s.rs := (State.aerUnc_in ..).same .rs rfl
@[simp] theorem State.aerUnc_cl (s a1 a2 a3) : (State.aerUnc s a1 a2 a3).cl = s.cl := (State.aerUnc_in ..).same .cl rfl
@[simp] theorem State.aerUnc_tw (s a1 a2 a3) : (State.aerUnc s a1 a2 a3).tw = s.tw := (State.aerUnc_in ..).same .tw rfl
@[simp] theorem State.aerUnc_sec (s a1 a2 a3) : (State.aerUnc s a1 a2 a3).sec = s.sec := (State.aerUnc_in ..).same .sec rfl
@[simp] theorem State.aerUnc_flash (s a1 a2 a3) : (State.aerUnc s a1 a2 a3).flash = s.flash :=
  (State.aerUnc_in ..).same .flash rfl
@[simp] theorem State.aerUnc_image (s a1 a2 a3) : (State.aerUnc s a1 a2 a3).image = s.image :=
  (State.aerUnc_in ..).same .image rfl
@[simp] theorem State.aerUnc_fresh (s a1 a2 a3) : (State.aerUnc s a1 a2 a3).fresh = s.fresh :=
  (State.aerUnc_in ..).same .fresh rfl
@[simp] theorem State.aerUnc_eg (s a1 a2 a3) : (State.aerUnc s a1 a2 a3).eg = s.eg := (State.aerUnc_in ..).same .eg rfl
@[simp] theorem State.aerUnc_calDue (s a1 a2 a3) : (State.aerUnc s a1 a2 a3).calDue = s.calDue :=
  (State.aerUnc_in ..).same .calDue rfl
@[simp] theorem State.logKind_pending (s a1 a2) : (State.logKind s a1 a2).pending = s.pending :=
  (State.logKind_in ..).same .pending rfl
@[simp] theorem State.logKind_ticks (s a1 a2) : (State.logKind s a1 a2).ticks = s.ticks :=
  (State.logKind_in ..).same .ticks rfl
@[simp] theorem State.logKind_aon (s a1 a2) : (State.logKind s a1 a2).aon = s.aon := (State.logKind_in ..).same .aon rfl
@[simp] theorem State.logKind_aonLeft (s a1 a2) : (State.logKind s a1 a2).aonLeft = s.aonLeft :=
  (State.logKind_in ..).same .aonLeft rfl
@[simp] theorem State.logKind_core (s a1 a2) : (State.logKind s a1 a2).core = s.core := (State.logKind_in ..).same .core rfl
@[simp] theorem State.logKind_coreQ (s a1 a2) : (State.logKind s a1 a2).coreQ = s.coreQ :=
  (State.logKind_in ..).same .coreQ rfl
@[simp] theorem State.logKind_gen (s a1 a2) : (State.logKind s a1 a2).gen = s.gen := (State.logKind_in ..).same .gen rfl
@[simp] theorem State.logKind_staged (s a1 a2) : (State.logKind s a1 a2).staged = s.staged :=
  (State.logKind_in ..).same .staged rfl
@[simp] theorem State.logKind_latches (s a1 a2) : (State.logKind s a1 a2).latches = s.latches :=
  (State.logKind_in ..).same .latches rfl
@[simp] theorem State.logKind_heldWr (s a1 a2) : (State.logKind s a1 a2).heldWr = s.heldWr :=
  (State.logKind_in ..).same .heldWr rfl
@[simp] theorem State.logKind_tk (s a1 a2) : (State.logKind s a1 a2).tk = s.tk := (State.logKind_in ..).same .tk rfl
@[simp] theorem State.logKind_calBad (s a1 a2) : (State.logKind s a1 a2).calBad = s.calBad :=
  (State.logKind_in ..).same .calBad rfl
@[simp] theorem State.logKind_pails (s a1 a2) : (State.logKind s a1 a2).pails = s.pails :=
  (State.logKind_in ..).same .pails rfl
@[simp] theorem State.logKind_banks (s a1 a2) : (State.logKind s a1 a2).banks = s.banks :=
  (State.logKind_in ..).same .banks rfl
@[simp] theorem State.logKind_repairDue (s a1 a2) : (State.logKind s a1 a2).repairDue = s.repairDue :=
  (State.logKind_in ..).same .repairDue rfl
@[simp] theorem State.logKind_units (s a1 a2) : (State.logKind s a1 a2).units = s.units :=
  (State.logKind_in ..).same .units rfl
@[simp] theorem State.logKind_groups (s a1 a2) : (State.logKind s a1 a2).groups = s.groups :=
  (State.logKind_in ..).same .groups rfl
@[simp] theorem State.logKind_spares (s a1 a2) : (State.logKind s a1 a2).spares = s.spares :=
  (State.logKind_in ..).same .spares rfl
@[simp] theorem State.logKind_chans (s a1 a2) : (State.logKind s a1 a2).chans = s.chans :=
  (State.logKind_in ..).same .chans rfl
@[simp] theorem State.logKind_slices (s a1 a2) : (State.logKind s a1 a2).slices = s.slices :=
  (State.logKind_in ..).same .slices rfl
@[simp] theorem State.logKind_ports (s a1 a2) : (State.logKind s a1 a2).ports = s.ports :=
  (State.logKind_in ..).same .ports rfl
@[simp] theorem State.logKind_links (s a1 a2) : (State.logKind s a1 a2).links = s.links :=
  (State.logKind_in ..).same .links rfl
@[simp] theorem State.logKind_um (s a1 a2) : (State.logKind s a1 a2).um = s.um := (State.logKind_in ..).same .um rfl
@[simp] theorem State.logKind_pw (s a1 a2) : (State.logKind s a1 a2).pw = s.pw := (State.logKind_in ..).same .pw rfl
@[simp] theorem State.logKind_rs (s a1 a2) : (State.logKind s a1 a2).rs = s.rs := (State.logKind_in ..).same .rs rfl
@[simp] theorem State.logKind_cl (s a1 a2) : (State.logKind s a1 a2).cl = s.cl := (State.logKind_in ..).same .cl rfl
@[simp] theorem State.logKind_tw (s a1 a2) : (State.logKind s a1 a2).tw = s.tw := (State.logKind_in ..).same .tw rfl
@[simp] theorem State.logKind_sec (s a1 a2) : (State.logKind s a1 a2).sec = s.sec := (State.logKind_in ..).same .sec rfl
@[simp] theorem State.logKind_flash (s a1 a2) : (State.logKind s a1 a2).flash = s.flash :=
  (State.logKind_in ..).same .flash rfl
@[simp] theorem State.logKind_image (s a1 a2) : (State.logKind s a1 a2).image = s.image :=
  (State.logKind_in ..).same .image rfl
@[simp] theorem State.logKind_fresh (s a1 a2) : (State.logKind s a1 a2).fresh = s.fresh :=
  (State.logKind_in ..).same .fresh rfl
@[simp] theorem State.logKind_out (s a1 a2) : (State.logKind s a1 a2).out = s.out := (State.logKind_in ..).same .out rfl
@[simp] theorem State.logKind_eg (s a1 a2) : (State.logKind s a1 a2).eg = s.eg := (State.logKind_in ..).same .eg rfl
@[simp] theorem State.logKind_calDue (s a1 a2) : (State.logKind s a1 a2).calDue = s.calDue :=
  (State.logKind_in ..).same .calDue rfl
@[simp] theorem State.occur_pending (s a1) : (State.occur s a1).pending = s.pending := (State.occur_in ..).same .pending rfl
@[simp] theorem State.occur_ticks (s a1) : (State.occur s a1).ticks = s.ticks := (State.occur_in ..).same .ticks rfl
@[simp] theorem State.occur_aon (s a1) : (State.occur s a1).aon = s.aon := (State.occur_in ..).same .aon rfl
@[simp] theorem State.occur_aonLeft (s a1) : (State.occur s a1).aonLeft = s.aonLeft := (State.occur_in ..).same .aonLeft rfl
@[simp] theorem State.occur_core (s a1) : (State.occur s a1).core = s.core := (State.occur_in ..).same .core rfl
@[simp] theorem State.occur_coreQ (s a1) : (State.occur s a1).coreQ = s.coreQ := (State.occur_in ..).same .coreQ rfl
@[simp] theorem State.occur_gen (s a1) : (State.occur s a1).gen = s.gen := (State.occur_in ..).same .gen rfl
@[simp] theorem State.occur_staged (s a1) : (State.occur s a1).staged = s.staged := (State.occur_in ..).same .staged rfl
@[simp] theorem State.occur_latches (s a1) : (State.occur s a1).latches = s.latches := (State.occur_in ..).same .latches rfl
@[simp] theorem State.occur_heldWr (s a1) : (State.occur s a1).heldWr = s.heldWr := (State.occur_in ..).same .heldWr rfl
@[simp] theorem State.occur_tk (s a1) : (State.occur s a1).tk = s.tk := (State.occur_in ..).same .tk rfl
@[simp] theorem State.occur_calBad (s a1) : (State.occur s a1).calBad = s.calBad := (State.occur_in ..).same .calBad rfl
@[simp] theorem State.occur_pails (s a1) : (State.occur s a1).pails = s.pails := (State.occur_in ..).same .pails rfl
@[simp] theorem State.occur_banks (s a1) : (State.occur s a1).banks = s.banks := (State.occur_in ..).same .banks rfl
@[simp] theorem State.occur_repairDue (s a1) : (State.occur s a1).repairDue = s.repairDue :=
  (State.occur_in ..).same .repairDue rfl
@[simp] theorem State.occur_units (s a1) : (State.occur s a1).units = s.units := (State.occur_in ..).same .units rfl
@[simp] theorem State.occur_groups (s a1) : (State.occur s a1).groups = s.groups := (State.occur_in ..).same .groups rfl
@[simp] theorem State.occur_spares (s a1) : (State.occur s a1).spares = s.spares := (State.occur_in ..).same .spares rfl
@[simp] theorem State.occur_chans (s a1) : (State.occur s a1).chans = s.chans := (State.occur_in ..).same .chans rfl
@[simp] theorem State.occur_slices (s a1) : (State.occur s a1).slices = s.slices := (State.occur_in ..).same .slices rfl
@[simp] theorem State.occur_ports (s a1) : (State.occur s a1).ports = s.ports := (State.occur_in ..).same .ports rfl
@[simp] theorem State.occur_um (s a1) : (State.occur s a1).um = s.um := (State.occur_in ..).same .um rfl
@[simp] theorem State.occur_pw (s a1) : (State.occur s a1).pw = s.pw := (State.occur_in ..).same .pw rfl
@[simp] theorem State.occur_rs (s a1) : (State.occur s a1).rs = s.rs := (State.occur_in ..).same .rs rfl
@[simp] theorem State.occur_cl (s a1) : (State.occur s a1).cl = s.cl := (State.occur_in ..).same .cl rfl
@[simp] theorem State.occur_tw (s a1) : (State.occur s a1).tw = s.tw := (State.occur_in ..).same .tw rfl
@[simp] theorem State.occur_sec (s a1) : (State.occur s a1).sec = s.sec := (State.occur_in ..).same .sec rfl
@[simp] theorem State.occur_flash (s a1) : (State.occur s a1).flash = s.flash := (State.occur_in ..).same .flash rfl
@[simp] theorem State.occur_image (s a1) : (State.occur s a1).image = s.image := (State.occur_in ..).same .image rfl
@[simp] theorem State.occur_fresh (s a1) : (State.occur s a1).fresh = s.fresh := (State.occur_in ..).same .fresh rfl
@[simp] theorem State.occur_eg (s a1) : (State.occur s a1).eg = s.eg := (State.occur_in ..).same .eg rfl
@[simp] theorem State.occur_calDue (s a1) : (State.occur s a1).calDue = s.calDue := (State.occur_in ..).same .calDue rfl
@[simp] theorem State.evUm_pending (s a1) : (State.evUm s a1).pending = s.pending := (State.evUm_in ..).same .pending rfl
@[simp] theorem State.evUm_ticks (s a1) : (State.evUm s a1).ticks = s.ticks := (State.evUm_in ..).same .ticks rfl
@[simp] theorem State.evUm_aon (s a1) : (State.evUm s a1).aon = s.aon := (State.evUm_in ..).same .aon rfl
@[simp] theorem State.evUm_aonLeft (s a1) : (State.evUm s a1).aonLeft = s.aonLeft := (State.evUm_in ..).same .aonLeft rfl
@[simp] theorem State.evUm_core (s a1) : (State.evUm s a1).core = s.core := (State.evUm_in ..).same .core rfl
@[simp] theorem State.evUm_coreQ (s a1) : (State.evUm s a1).coreQ = s.coreQ := (State.evUm_in ..).same .coreQ rfl
@[simp] theorem State.evUm_gen (s a1) : (State.evUm s a1).gen = s.gen := (State.evUm_in ..).same .gen rfl
@[simp] theorem State.evUm_staged (s a1) : (State.evUm s a1).staged = s.staged := (State.evUm_in ..).same .staged rfl
@[simp] theorem State.evUm_latches (s a1) : (State.evUm s a1).latches = s.latches := (State.evUm_in ..).same .latches rfl
@[simp] theorem State.evUm_heldWr (s a1) : (State.evUm s a1).heldWr = s.heldWr := (State.evUm_in ..).same .heldWr rfl
@[simp] theorem State.evUm_tk (s a1) : (State.evUm s a1).tk = s.tk := (State.evUm_in ..).same .tk rfl
@[simp] theorem State.evUm_calBad (s a1) : (State.evUm s a1).calBad = s.calBad := (State.evUm_in ..).same .calBad rfl
@[simp] theorem State.evUm_pails (s a1) : (State.evUm s a1).pails = s.pails := (State.evUm_in ..).same .pails rfl
@[simp] theorem State.evUm_banks (s a1) : (State.evUm s a1).banks = s.banks := (State.evUm_in ..).same .banks rfl
@[simp] theorem State.evUm_repairDue (s a1) : (State.evUm s a1).repairDue = s.repairDue :=
  (State.evUm_in ..).same .repairDue rfl
@[simp] theorem State.evUm_units (s a1) : (State.evUm s a1).units = s.units := (State.evUm_in ..).same .units rfl
@[simp] theorem State.evUm_groups (s a1) : (State.evUm s a1).groups = s.groups := (State.evUm_in ..).same .groups rfl
@[simp] theorem State.evUm_spares (s a1) : (State.evUm s a1).spares = s.spares := (State.evUm_in ..).same .spares rfl
@[simp] theorem State.evUm_chans (s a1) : (State.evUm s a1).chans = s.chans := (State.evUm_in ..).same .chans rfl
@[simp] theorem State.evUm_slices (s a1) : (State.evUm s a1).slices = s.slices := (State.evUm_in ..).same .slices rfl
@[simp] theorem State.evUm_ports (s a1) : (State.evUm s a1).ports = s.ports := (State.evUm_in ..).same .ports rfl
@[simp] theorem State.evUm_um (s a1) : (State.evUm s a1).um = s.um := (State.evUm_in ..).same .um rfl
@[simp] theorem State.evUm_pw (s a1) : (State.evUm s a1).pw = s.pw := (State.evUm_in ..).same .pw rfl
@[simp] theorem State.evUm_rs (s a1) : (State.evUm s a1).rs = s.rs := (State.evUm_in ..).same .rs rfl
@[simp] theorem State.evUm_cl (s a1) : (State.evUm s a1).cl = s.cl := (State.evUm_in ..).same .cl rfl
@[simp] theorem State.evUm_tw (s a1) : (State.evUm s a1).tw = s.tw := (State.evUm_in ..).same .tw rfl
@[simp] theorem State.evUm_sec (s a1) : (State.evUm s a1).sec = s.sec := (State.evUm_in ..).same .sec rfl
@[simp] theorem State.evUm_flash (s a1) : (State.evUm s a1).flash = s.flash := (State.evUm_in ..).same .flash rfl
@[simp] theorem State.evUm_image (s a1) : (State.evUm s a1).image = s.image := (State.evUm_in ..).same .image rfl
@[simp] theorem State.evUm_fresh (s a1) : (State.evUm s a1).fresh = s.fresh := (State.evUm_in ..).same .fresh rfl
@[simp] theorem State.evUm_eg (s a1) : (State.evUm s a1).eg = s.eg := (State.evUm_in ..).same .eg rfl
@[simp] theorem State.evUm_calDue (s a1) : (State.evUm s a1).calDue = s.calDue := (State.evUm_in ..).same .calDue rfl
@[simp] theorem State.evTl_pending (s a1) : (State.evTl s a1).pending = s.pending := (State.evTl_in ..).same .pending rfl
@[simp] theorem State.evTl_ticks (s a1) : (State.evTl s a1).ticks = s.ticks := (State.evTl_in ..).same .ticks rfl
@[simp] theorem State.evTl_aon (s a1) : (State.evTl s a1).aon = s.aon := (State.evTl_in ..).same .aon rfl
@[simp] theorem State.evTl_aonLeft (s a1) : (State.evTl s a1).aonLeft = s.aonLeft := (State.evTl_in ..).same .aonLeft rfl
@[simp] theorem State.evTl_core (s a1) : (State.evTl s a1).core = s.core := (State.evTl_in ..).same .core rfl
@[simp] theorem State.evTl_coreQ (s a1) : (State.evTl s a1).coreQ = s.coreQ := (State.evTl_in ..).same .coreQ rfl
@[simp] theorem State.evTl_gen (s a1) : (State.evTl s a1).gen = s.gen := (State.evTl_in ..).same .gen rfl
@[simp] theorem State.evTl_staged (s a1) : (State.evTl s a1).staged = s.staged := (State.evTl_in ..).same .staged rfl
@[simp] theorem State.evTl_latches (s a1) : (State.evTl s a1).latches = s.latches := (State.evTl_in ..).same .latches rfl
@[simp] theorem State.evTl_heldWr (s a1) : (State.evTl s a1).heldWr = s.heldWr := (State.evTl_in ..).same .heldWr rfl
@[simp] theorem State.evTl_tk (s a1) : (State.evTl s a1).tk = s.tk := (State.evTl_in ..).same .tk rfl
@[simp] theorem State.evTl_calBad (s a1) : (State.evTl s a1).calBad = s.calBad := (State.evTl_in ..).same .calBad rfl
@[simp] theorem State.evTl_pails (s a1) : (State.evTl s a1).pails = s.pails := (State.evTl_in ..).same .pails rfl
@[simp] theorem State.evTl_banks (s a1) : (State.evTl s a1).banks = s.banks := (State.evTl_in ..).same .banks rfl
@[simp] theorem State.evTl_repairDue (s a1) : (State.evTl s a1).repairDue = s.repairDue :=
  (State.evTl_in ..).same .repairDue rfl
@[simp] theorem State.evTl_units (s a1) : (State.evTl s a1).units = s.units := (State.evTl_in ..).same .units rfl
@[simp] theorem State.evTl_groups (s a1) : (State.evTl s a1).groups = s.groups := (State.evTl_in ..).same .groups rfl
@[simp] theorem State.evTl_spares (s a1) : (State.evTl s a1).spares = s.spares := (State.evTl_in ..).same .spares rfl
@[simp] theorem State.evTl_chans (s a1) : (State.evTl s a1).chans = s.chans := (State.evTl_in ..).same .chans rfl
@[simp] theorem State.evTl_slices (s a1) : (State.evTl s a1).slices = s.slices := (State.evTl_in ..).same .slices rfl
@[simp] theorem State.evTl_ports (s a1) : (State.evTl s a1).ports = s.ports := (State.evTl_in ..).same .ports rfl
@[simp] theorem State.evTl_um (s a1) : (State.evTl s a1).um = s.um := (State.evTl_in ..).same .um rfl
@[simp] theorem State.evTl_pw (s a1) : (State.evTl s a1).pw = s.pw := (State.evTl_in ..).same .pw rfl
@[simp] theorem State.evTl_rs (s a1) : (State.evTl s a1).rs = s.rs := (State.evTl_in ..).same .rs rfl
@[simp] theorem State.evTl_cl (s a1) : (State.evTl s a1).cl = s.cl := (State.evTl_in ..).same .cl rfl
@[simp] theorem State.evTl_tw (s a1) : (State.evTl s a1).tw = s.tw := (State.evTl_in ..).same .tw rfl
@[simp] theorem State.evTl_sec (s a1) : (State.evTl s a1).sec = s.sec := (State.evTl_in ..).same .sec rfl
@[simp] theorem State.evTl_flash (s a1) : (State.evTl s a1).flash = s.flash := (State.evTl_in ..).same .flash rfl
@[simp] theorem State.evTl_image (s a1) : (State.evTl s a1).image = s.image := (State.evTl_in ..).same .image rfl
@[simp] theorem State.evTl_fresh (s a1) : (State.evTl s a1).fresh = s.fresh := (State.evTl_in ..).same .fresh rfl
@[simp] theorem State.evTl_eg (s a1) : (State.evTl s a1).eg = s.eg := (State.evTl_in ..).same .eg rfl
@[simp] theorem State.evTl_calDue (s a1) : (State.evTl s a1).calDue = s.calDue := (State.evTl_in ..).same .calDue rfl
@[simp] theorem State.aerCor_pending (s a1 a2) : (State.aerCor s a1 a2).pending = s.pending :=
  (State.aerCor_in ..).same .pending rfl
@[simp] theorem State.aerCor_ticks (s a1 a2) : (State.aerCor s a1 a2).ticks = s.ticks := (State.aerCor_in ..).same .ticks rfl
@[simp] theorem State.aerCor_aon (s a1 a2) : (State.aerCor s a1 a2).aon = s.aon := (State.aerCor_in ..).same .aon rfl
@[simp] theorem State.aerCor_aonLeft (s a1 a2) : (State.aerCor s a1 a2).aonLeft = s.aonLeft :=
  (State.aerCor_in ..).same .aonLeft rfl
@[simp] theorem State.aerCor_core (s a1 a2) : (State.aerCor s a1 a2).core = s.core := (State.aerCor_in ..).same .core rfl
@[simp] theorem State.aerCor_coreQ (s a1 a2) : (State.aerCor s a1 a2).coreQ = s.coreQ := (State.aerCor_in ..).same .coreQ rfl
@[simp] theorem State.aerCor_gen (s a1 a2) : (State.aerCor s a1 a2).gen = s.gen := (State.aerCor_in ..).same .gen rfl
@[simp] theorem State.aerCor_staged (s a1 a2) : (State.aerCor s a1 a2).staged = s.staged :=
  (State.aerCor_in ..).same .staged rfl
@[simp] theorem State.aerCor_latches (s a1 a2) : (State.aerCor s a1 a2).latches = s.latches :=
  (State.aerCor_in ..).same .latches rfl
@[simp] theorem State.aerCor_heldWr (s a1 a2) : (State.aerCor s a1 a2).heldWr = s.heldWr :=
  (State.aerCor_in ..).same .heldWr rfl
@[simp] theorem State.aerCor_tk (s a1 a2) : (State.aerCor s a1 a2).tk = s.tk := (State.aerCor_in ..).same .tk rfl
@[simp] theorem State.aerCor_calBad (s a1 a2) : (State.aerCor s a1 a2).calBad = s.calBad :=
  (State.aerCor_in ..).same .calBad rfl
@[simp] theorem State.aerCor_pails (s a1 a2) : (State.aerCor s a1 a2).pails = s.pails := (State.aerCor_in ..).same .pails rfl
@[simp] theorem State.aerCor_banks (s a1 a2) : (State.aerCor s a1 a2).banks = s.banks := (State.aerCor_in ..).same .banks rfl
@[simp] theorem State.aerCor_repairDue (s a1 a2) : (State.aerCor s a1 a2).repairDue = s.repairDue :=
  (State.aerCor_in ..).same .repairDue rfl
@[simp] theorem State.aerCor_units (s a1 a2) : (State.aerCor s a1 a2).units = s.units := (State.aerCor_in ..).same .units rfl
@[simp] theorem State.aerCor_groups (s a1 a2) : (State.aerCor s a1 a2).groups = s.groups :=
  (State.aerCor_in ..).same .groups rfl
@[simp] theorem State.aerCor_spares (s a1 a2) : (State.aerCor s a1 a2).spares = s.spares :=
  (State.aerCor_in ..).same .spares rfl
@[simp] theorem State.aerCor_chans (s a1 a2) : (State.aerCor s a1 a2).chans = s.chans := (State.aerCor_in ..).same .chans rfl
@[simp] theorem State.aerCor_slices (s a1 a2) : (State.aerCor s a1 a2).slices = s.slices :=
  (State.aerCor_in ..).same .slices rfl
@[simp] theorem State.aerCor_ports (s a1 a2) : (State.aerCor s a1 a2).ports = s.ports := (State.aerCor_in ..).same .ports rfl
@[simp] theorem State.aerCor_um (s a1 a2) : (State.aerCor s a1 a2).um = s.um := (State.aerCor_in ..).same .um rfl
@[simp] theorem State.aerCor_pw (s a1 a2) : (State.aerCor s a1 a2).pw = s.pw := (State.aerCor_in ..).same .pw rfl
@[simp] theorem State.aerCor_rs (s a1 a2) : (State.aerCor s a1 a2).rs = s.rs := (State.aerCor_in ..).same .rs rfl
@[simp] theorem State.aerCor_cl (s a1 a2) : (State.aerCor s a1 a2).cl = s.cl := (State.aerCor_in ..).same .cl rfl
@[simp] theorem State.aerCor_tw (s a1 a2) : (State.aerCor s a1 a2).tw = s.tw := (State.aerCor_in ..).same .tw rfl
@[simp] theorem State.aerCor_sec (s a1 a2) : (State.aerCor s a1 a2).sec = s.sec := (State.aerCor_in ..).same .sec rfl
@[simp] theorem State.aerCor_flash (s a1 a2) : (State.aerCor s a1 a2).flash = s.flash := (State.aerCor_in ..).same .flash rfl
@[simp] theorem State.aerCor_image (s a1 a2) : (State.aerCor s a1 a2).image = s.image := (State.aerCor_in ..).same .image rfl
@[simp] theorem State.aerCor_fresh (s a1 a2) : (State.aerCor s a1 a2).fresh = s.fresh := (State.aerCor_in ..).same .fresh rfl
@[simp] theorem State.aerCor_eg (s a1 a2) : (State.aerCor s a1 a2).eg = s.eg := (State.aerCor_in ..).same .eg rfl
@[simp] theorem State.aerCor_calDue (s a1 a2) : (State.aerCor s a1 a2).calDue = s.calDue :=
  (State.aerCor_in ..).same .calDue rfl
@[simp] theorem State.aerTlp_pending (s a1 a2) : (State.aerTlp s a1 a2).pending = s.pending :=
  (State.aerTlp_in ..).same .pending rfl
@[simp] theorem State.aerTlp_ticks (s a1 a2) : (State.aerTlp s a1 a2).ticks = s.ticks := (State.aerTlp_in ..).same .ticks rfl
@[simp] theorem State.aerTlp_aon (s a1 a2) : (State.aerTlp s a1 a2).aon = s.aon := (State.aerTlp_in ..).same .aon rfl
@[simp] theorem State.aerTlp_aonLeft (s a1 a2) : (State.aerTlp s a1 a2).aonLeft = s.aonLeft :=
  (State.aerTlp_in ..).same .aonLeft rfl
@[simp] theorem State.aerTlp_core (s a1 a2) : (State.aerTlp s a1 a2).core = s.core := (State.aerTlp_in ..).same .core rfl
@[simp] theorem State.aerTlp_coreQ (s a1 a2) : (State.aerTlp s a1 a2).coreQ = s.coreQ := (State.aerTlp_in ..).same .coreQ rfl
@[simp] theorem State.aerTlp_gen (s a1 a2) : (State.aerTlp s a1 a2).gen = s.gen := (State.aerTlp_in ..).same .gen rfl
@[simp] theorem State.aerTlp_staged (s a1 a2) : (State.aerTlp s a1 a2).staged = s.staged :=
  (State.aerTlp_in ..).same .staged rfl
@[simp] theorem State.aerTlp_latches (s a1 a2) : (State.aerTlp s a1 a2).latches = s.latches :=
  (State.aerTlp_in ..).same .latches rfl
@[simp] theorem State.aerTlp_heldWr (s a1 a2) : (State.aerTlp s a1 a2).heldWr = s.heldWr :=
  (State.aerTlp_in ..).same .heldWr rfl
@[simp] theorem State.aerTlp_tk (s a1 a2) : (State.aerTlp s a1 a2).tk = s.tk := (State.aerTlp_in ..).same .tk rfl
@[simp] theorem State.aerTlp_calBad (s a1 a2) : (State.aerTlp s a1 a2).calBad = s.calBad :=
  (State.aerTlp_in ..).same .calBad rfl
@[simp] theorem State.aerTlp_pails (s a1 a2) : (State.aerTlp s a1 a2).pails = s.pails := (State.aerTlp_in ..).same .pails rfl
@[simp] theorem State.aerTlp_banks (s a1 a2) : (State.aerTlp s a1 a2).banks = s.banks := (State.aerTlp_in ..).same .banks rfl
@[simp] theorem State.aerTlp_repairDue (s a1 a2) : (State.aerTlp s a1 a2).repairDue = s.repairDue :=
  (State.aerTlp_in ..).same .repairDue rfl
@[simp] theorem State.aerTlp_units (s a1 a2) : (State.aerTlp s a1 a2).units = s.units := (State.aerTlp_in ..).same .units rfl
@[simp] theorem State.aerTlp_groups (s a1 a2) : (State.aerTlp s a1 a2).groups = s.groups :=
  (State.aerTlp_in ..).same .groups rfl
@[simp] theorem State.aerTlp_spares (s a1 a2) : (State.aerTlp s a1 a2).spares = s.spares :=
  (State.aerTlp_in ..).same .spares rfl
@[simp] theorem State.aerTlp_chans (s a1 a2) : (State.aerTlp s a1 a2).chans = s.chans := (State.aerTlp_in ..).same .chans rfl
@[simp] theorem State.aerTlp_slices (s a1 a2) : (State.aerTlp s a1 a2).slices = s.slices :=
  (State.aerTlp_in ..).same .slices rfl
@[simp] theorem State.aerTlp_ports (s a1 a2) : (State.aerTlp s a1 a2).ports = s.ports := (State.aerTlp_in ..).same .ports rfl
@[simp] theorem State.aerTlp_um (s a1 a2) : (State.aerTlp s a1 a2).um = s.um := (State.aerTlp_in ..).same .um rfl
@[simp] theorem State.aerTlp_pw (s a1 a2) : (State.aerTlp s a1 a2).pw = s.pw := (State.aerTlp_in ..).same .pw rfl
@[simp] theorem State.aerTlp_rs (s a1 a2) : (State.aerTlp s a1 a2).rs = s.rs := (State.aerTlp_in ..).same .rs rfl
@[simp] theorem State.aerTlp_cl (s a1 a2) : (State.aerTlp s a1 a2).cl = s.cl := (State.aerTlp_in ..).same .cl rfl
@[simp] theorem State.aerTlp_tw (s a1 a2) : (State.aerTlp s a1 a2).tw = s.tw := (State.aerTlp_in ..).same .tw rfl
@[simp] theorem State.aerTlp_sec (s a1 a2) : (State.aerTlp s a1 a2).sec = s.sec := (State.aerTlp_in ..).same .sec rfl
@[simp] theorem State.aerTlp_flash (s a1 a2) : (State.aerTlp s a1 a2).flash = s.flash := (State.aerTlp_in ..).same .flash rfl
@[simp] theorem State.aerTlp_image (s a1 a2) : (State.aerTlp s a1 a2).image = s.image := (State.aerTlp_in ..).same .image rfl
@[simp] theorem State.aerTlp_eg (s a1 a2) : (State.aerTlp s a1 a2).eg = s.eg := (State.aerTlp_in ..).same .eg rfl
@[simp] theorem State.aerTlp_calDue (s a1 a2) : (State.aerTlp s a1 a2).calDue = s.calDue :=
  (State.aerTlp_in ..).same .calDue rfl
@[simp] theorem State.evAl_pending (s a1 a2) : (State.evAl s a1 a2).pending = s.pending :=
  (State.evAl_in ..).same .pending rfl
@[simp] theorem State.evAl_ticks (s a1 a2) : (State.evAl s a1 a2).ticks = s.ticks := (State.evAl_in ..).same .ticks rfl
@[simp] theorem State.evAl_aon (s a1 a2) : (State.evAl s a1 a2).aon = s.aon := (State.evAl_in ..).same .aon rfl
@[simp] theorem State.evAl_aonLeft (s a1 a2) : (State.evAl s a1 a2).aonLeft = s.aonLeft :=
  (State.evAl_in ..).same .aonLeft rfl
@[simp] theorem State.evAl_core (s a1 a2) : (State.evAl s a1 a2).core = s.core := (State.evAl_in ..).same .core rfl
@[simp] theorem State.evAl_coreQ (s a1 a2) : (State.evAl s a1 a2).coreQ = s.coreQ := (State.evAl_in ..).same .coreQ rfl
@[simp] theorem State.evAl_gen (s a1 a2) : (State.evAl s a1 a2).gen = s.gen := (State.evAl_in ..).same .gen rfl
@[simp] theorem State.evAl_staged (s a1 a2) : (State.evAl s a1 a2).staged = s.staged := (State.evAl_in ..).same .staged rfl
@[simp] theorem State.evAl_latches (s a1 a2) : (State.evAl s a1 a2).latches = s.latches :=
  (State.evAl_in ..).same .latches rfl
@[simp] theorem State.evAl_heldWr (s a1 a2) : (State.evAl s a1 a2).heldWr = s.heldWr := (State.evAl_in ..).same .heldWr rfl
@[simp] theorem State.evAl_tk (s a1 a2) : (State.evAl s a1 a2).tk = s.tk := (State.evAl_in ..).same .tk rfl
@[simp] theorem State.evAl_calBad (s a1 a2) : (State.evAl s a1 a2).calBad = s.calBad := (State.evAl_in ..).same .calBad rfl
@[simp] theorem State.evAl_pails (s a1 a2) : (State.evAl s a1 a2).pails = s.pails := (State.evAl_in ..).same .pails rfl
@[simp] theorem State.evAl_banks (s a1 a2) : (State.evAl s a1 a2).banks = s.banks := (State.evAl_in ..).same .banks rfl
@[simp] theorem State.evAl_repairDue (s a1 a2) : (State.evAl s a1 a2).repairDue = s.repairDue :=
  (State.evAl_in ..).same .repairDue rfl
@[simp] theorem State.evAl_units (s a1 a2) : (State.evAl s a1 a2).units = s.units := (State.evAl_in ..).same .units rfl
@[simp] theorem State.evAl_groups (s a1 a2) : (State.evAl s a1 a2).groups = s.groups := (State.evAl_in ..).same .groups rfl
@[simp] theorem State.evAl_spares (s a1 a2) : (State.evAl s a1 a2).spares = s.spares := (State.evAl_in ..).same .spares rfl
@[simp] theorem State.evAl_chans (s a1 a2) : (State.evAl s a1 a2).chans = s.chans := (State.evAl_in ..).same .chans rfl
@[simp] theorem State.evAl_slices (s a1 a2) : (State.evAl s a1 a2).slices = s.slices := (State.evAl_in ..).same .slices rfl
@[simp] theorem State.evAl_ports (s a1 a2) : (State.evAl s a1 a2).ports = s.ports := (State.evAl_in ..).same .ports rfl
@[simp] theorem State.evAl_um (s a1 a2) : (State.evAl s a1 a2).um = s.um := (State.evAl_in ..).same .um rfl
@[simp] theorem State.evAl_pw (s a1 a2) : (State.evAl s a1 a2).pw = s.pw := (State.evAl_in ..).same .pw rfl
@[simp] theorem State.evAl_rs (s a1 a2) : (State.evAl s a1 a2).rs = s.rs := (State.evAl_in ..).same .rs rfl
@[simp] theorem State.evAl_cl (s a1 a2) : (State.evAl s a1 a2).cl = s.cl := (State.evAl_in ..).same .cl rfl
@[simp] theorem State.evAl_tw (s a1 a2) : (State.evAl s a1 a2).tw = s.tw := (State.evAl_in ..).same .tw rfl
@[simp] theorem State.evAl_sec (s a1 a2) : (State.evAl s a1 a2).sec = s.sec := (State.evAl_in ..).same .sec rfl
@[simp] theorem State.evAl_flash (s a1 a2) : (State.evAl s a1 a2).flash = s.flash := (State.evAl_in ..).same .flash rfl
@[simp] theorem State.evAl_image (s a1 a2) : (State.evAl s a1 a2).image = s.image := (State.evAl_in ..).same .image rfl
@[simp] theorem State.evAl_fresh (s a1 a2) : (State.evAl s a1 a2).fresh = s.fresh := (State.evAl_in ..).same .fresh rfl
@[simp] theorem State.evAl_eg (s a1 a2) : (State.evAl s a1 a2).eg = s.eg := (State.evAl_in ..).same .eg rfl
@[simp] theorem State.evAl_calDue (s a1 a2) : (State.evAl s a1 a2).calDue = s.calDue := (State.evAl_in ..).same .calDue rfl
@[simp] theorem State.evVat_pending (s a1 a2) : (State.evVat s a1 a2).pending = s.pending :=
  (State.evVat_in ..).same .pending rfl
@[simp] theorem State.evVat_ticks (s a1 a2) : (State.evVat s a1 a2).ticks = s.ticks := (State.evVat_in ..).same .ticks rfl
@[simp] theorem State.evVat_aon (s a1 a2) : (State.evVat s a1 a2).aon = s.aon := (State.evVat_in ..).same .aon rfl
@[simp] theorem State.evVat_aonLeft (s a1 a2) : (State.evVat s a1 a2).aonLeft = s.aonLeft :=
  (State.evVat_in ..).same .aonLeft rfl
@[simp] theorem State.evVat_core (s a1 a2) : (State.evVat s a1 a2).core = s.core := (State.evVat_in ..).same .core rfl
@[simp] theorem State.evVat_coreQ (s a1 a2) : (State.evVat s a1 a2).coreQ = s.coreQ := (State.evVat_in ..).same .coreQ rfl
@[simp] theorem State.evVat_gen (s a1 a2) : (State.evVat s a1 a2).gen = s.gen := (State.evVat_in ..).same .gen rfl
@[simp] theorem State.evVat_staged (s a1 a2) : (State.evVat s a1 a2).staged = s.staged := (State.evVat_in ..).same .staged rfl
@[simp] theorem State.evVat_latches (s a1 a2) : (State.evVat s a1 a2).latches = s.latches :=
  (State.evVat_in ..).same .latches rfl
@[simp] theorem State.evVat_heldWr (s a1 a2) : (State.evVat s a1 a2).heldWr = s.heldWr := (State.evVat_in ..).same .heldWr rfl
@[simp] theorem State.evVat_tk (s a1 a2) : (State.evVat s a1 a2).tk = s.tk := (State.evVat_in ..).same .tk rfl
@[simp] theorem State.evVat_calBad (s a1 a2) : (State.evVat s a1 a2).calBad = s.calBad := (State.evVat_in ..).same .calBad rfl
@[simp] theorem State.evVat_pails (s a1 a2) : (State.evVat s a1 a2).pails = s.pails := (State.evVat_in ..).same .pails rfl
@[simp] theorem State.evVat_banks (s a1 a2) : (State.evVat s a1 a2).banks = s.banks := (State.evVat_in ..).same .banks rfl
@[simp] theorem State.evVat_repairDue (s a1 a2) : (State.evVat s a1 a2).repairDue = s.repairDue :=
  (State.evVat_in ..).same .repairDue rfl
@[simp] theorem State.evVat_units (s a1 a2) : (State.evVat s a1 a2).units = s.units := (State.evVat_in ..).same .units rfl
@[simp] theorem State.evVat_groups (s a1 a2) : (State.evVat s a1 a2).groups = s.groups := (State.evVat_in ..).same .groups rfl
@[simp] theorem State.evVat_spares (s a1 a2) : (State.evVat s a1 a2).spares = s.spares := (State.evVat_in ..).same .spares rfl
@[simp] theorem State.evVat_chans (s a1 a2) : (State.evVat s a1 a2).chans = s.chans := (State.evVat_in ..).same .chans rfl
@[simp] theorem State.evVat_slices (s a1 a2) : (State.evVat s a1 a2).slices = s.slices := (State.evVat_in ..).same .slices rfl
@[simp] theorem State.evVat_ports (s a1 a2) : (State.evVat s a1 a2).ports = s.ports := (State.evVat_in ..).same .ports rfl
@[simp] theorem State.evVat_um (s a1 a2) : (State.evVat s a1 a2).um = s.um := (State.evVat_in ..).same .um rfl
@[simp] theorem State.evVat_pw (s a1 a2) : (State.evVat s a1 a2).pw = s.pw := (State.evVat_in ..).same .pw rfl
@[simp] theorem State.evVat_rs (s a1 a2) : (State.evVat s a1 a2).rs = s.rs := (State.evVat_in ..).same .rs rfl
@[simp] theorem State.evVat_cl (s a1 a2) : (State.evVat s a1 a2).cl = s.cl := (State.evVat_in ..).same .cl rfl
@[simp] theorem State.evVat_tw (s a1 a2) : (State.evVat s a1 a2).tw = s.tw := (State.evVat_in ..).same .tw rfl
@[simp] theorem State.evVat_sec (s a1 a2) : (State.evVat s a1 a2).sec = s.sec := (State.evVat_in ..).same .sec rfl
@[simp] theorem State.evVat_flash (s a1 a2) : (State.evVat s a1 a2).flash = s.flash := (State.evVat_in ..).same .flash rfl
@[simp] theorem State.evVat_image (s a1 a2) : (State.evVat s a1 a2).image = s.image := (State.evVat_in ..).same .image rfl
@[simp] theorem State.evVat_fresh (s a1 a2) : (State.evVat s a1 a2).fresh = s.fresh := (State.evVat_in ..).same .fresh rfl
@[simp] theorem State.evVat_eg (s a1 a2) : (State.evVat s a1 a2).eg = s.eg := (State.evVat_in ..).same .eg rfl
@[simp] theorem State.evVat_calDue (s a1 a2) : (State.evVat s a1 a2).calDue = s.calDue := (State.evVat_in ..).same .calDue rfl
@[simp] theorem State.sendPending_pending (s a1) : (State.sendPending s a1).pending = s.pending :=
  (State.sendPending_in ..).same .pending rfl
@[simp] theorem State.sendPending_ticks (s a1) : (State.sendPending s a1).ticks = s.ticks :=
  (State.sendPending_in ..).same .ticks rfl
@[simp] theorem State.sendPending_aon (s a1) : (State.sendPending s a1).aon = s.aon := (State.sendPending_in ..).same .aon rfl
@[simp] theorem State.sendPending_aonLeft (s a1) : (State.sendPending s a1).aonLeft = s.aonLeft :=
  (State.sendPending_in ..).same .aonLeft rfl
@[simp] theorem State.sendPending_core (s a1) : (State.sendPending s a1).core = s.core :=
  (State.sendPending_in ..).same .core rfl
@[simp] theorem State.sendPending_coreQ (s a1) : (State.sendPending s a1).coreQ = s.coreQ :=
  (State.sendPending_in ..).same .coreQ rfl
@[simp] theorem State.sendPending_regs (s a1) : (State.sendPending s a1).regs = s.regs :=
  (State.sendPending_in ..).same .regs rfl
@[simp] theorem State.sendPending_gen (s a1) : (State.sendPending s a1).gen = s.gen := (State.sendPending_in ..).same .gen rfl
@[simp] theorem State.sendPending_staged (s a1) : (State.sendPending s a1).staged = s.staged :=
  (State.sendPending_in ..).same .staged rfl
@[simp] theorem State.sendPending_latches (s a1) : (State.sendPending s a1).latches = s.latches :=
  (State.sendPending_in ..).same .latches rfl
@[simp] theorem State.sendPending_heldWr (s a1) : (State.sendPending s a1).heldWr = s.heldWr :=
  (State.sendPending_in ..).same .heldWr rfl
@[simp] theorem State.sendPending_tk (s a1) : (State.sendPending s a1).tk = s.tk := (State.sendPending_in ..).same .tk rfl
@[simp] theorem State.sendPending_log (s a1) : (State.sendPending s a1).log = s.log := (State.sendPending_in ..).same .log rfl
@[simp] theorem State.sendPending_calBad (s a1) : (State.sendPending s a1).calBad = s.calBad :=
  (State.sendPending_in ..).same .calBad rfl
@[simp] theorem State.sendPending_pails (s a1) : (State.sendPending s a1).pails = s.pails :=
  (State.sendPending_in ..).same .pails rfl
@[simp] theorem State.sendPending_banks (s a1) : (State.sendPending s a1).banks = s.banks :=
  (State.sendPending_in ..).same .banks rfl
@[simp] theorem State.sendPending_repairDue (s a1) : (State.sendPending s a1).repairDue = s.repairDue :=
  (State.sendPending_in ..).same .repairDue rfl
@[simp] theorem State.sendPending_units (s a1) : (State.sendPending s a1).units = s.units :=
  (State.sendPending_in ..).same .units rfl
@[simp] theorem State.sendPending_groups (s a1) : (State.sendPending s a1).groups = s.groups :=
  (State.sendPending_in ..).same .groups rfl
@[simp] theorem State.sendPending_spares (s a1) : (State.sendPending s a1).spares = s.spares :=
  (State.sendPending_in ..).same .spares rfl
@[simp] theorem State.sendPending_chans (s a1) : (State.sendPending s a1).chans = s.chans :=
  (State.sendPending_in ..).same .chans rfl
@[simp] theorem State.sendPending_slices (s a1) : (State.sendPending s a1).slices = s.slices :=
  (State.sendPending_in ..).same .slices rfl
@[simp] theorem State.sendPending_ports (s a1) : (State.sendPending s a1).ports = s.ports :=
  (State.sendPending_in ..).same .ports rfl
@[simp] theorem State.sendPending_um (s a1) : (State.sendPending s a1).um = s.um := (State.sendPending_in ..).same .um rfl
@[simp] theorem State.sendPending_pw (s a1) : (State.sendPending s a1).pw = s.pw := (State.sendPending_in ..).same .pw rfl
@[simp] theorem State.sendPending_rs (s a1) : (State.sendPending s a1).rs = s.rs := (State.sendPending_in ..).same .rs rfl
@[simp] theorem State.sendPending_cl (s a1) : (State.sendPending s a1).cl = s.cl := (State.sendPending_in ..).same .cl rfl
@[simp] theorem State.sendPending_tw (s a1) : (State.sendPending s a1).tw = s.tw := (State.sendPending_in ..).same .tw rfl
@[simp] theorem State.sendPending_sec (s a1) : (State.sendPending s a1).sec = s.sec := (State.sendPending_in ..).same .sec rfl
@[simp] theorem State.sendPending_flash (s a1) : (State.sendPending s a1).flash = s.flash :=
  (State.sendPending_in ..).same .flash rfl
@[simp] theorem State.sendPending_image (s a1) : (State.sendPending s a1).image = s.image :=
  (State.sendPending_in ..).same .image rfl
@[simp] theorem State.sendPending_fresh (s a1) : (State.sendPending s a1).fresh = s.fresh :=
  (State.sendPending_in ..).same .fresh rfl
@[simp] theorem State.sendPending_out (s a1) : (State.sendPending s a1).out = s.out := (State.sendPending_in ..).same .out rfl
@[simp] theorem State.sendPending_hot (s a1) : (State.sendPending s a1).hot = s.hot := (State.sendPending_in ..).same .hot rfl
@[simp] theorem State.sendPending_eg (s a1) : (State.sendPending s a1).eg = s.eg := (State.sendPending_in ..).same .eg rfl
@[simp] theorem State.sendPending_calDue (s a1) : (State.sendPending s a1).calDue = s.calDue :=
  (State.sendPending_in ..).same .calDue rfl
@[simp] theorem State.evCh_pending (s a1 a2) : (State.evCh s a1 a2).pending = s.pending :=
  (State.evCh_in ..).same .pending rfl
@[simp] theorem State.evCh_ticks (s a1 a2) : (State.evCh s a1 a2).ticks = s.ticks := (State.evCh_in ..).same .ticks rfl
@[simp] theorem State.evCh_aon (s a1 a2) : (State.evCh s a1 a2).aon = s.aon := (State.evCh_in ..).same .aon rfl
@[simp] theorem State.evCh_aonLeft (s a1 a2) : (State.evCh s a1 a2).aonLeft = s.aonLeft :=
  (State.evCh_in ..).same .aonLeft rfl
@[simp] theorem State.evCh_core (s a1 a2) : (State.evCh s a1 a2).core = s.core := (State.evCh_in ..).same .core rfl
@[simp] theorem State.evCh_coreQ (s a1 a2) : (State.evCh s a1 a2).coreQ = s.coreQ := (State.evCh_in ..).same .coreQ rfl
@[simp] theorem State.evCh_gen (s a1 a2) : (State.evCh s a1 a2).gen = s.gen := (State.evCh_in ..).same .gen rfl
@[simp] theorem State.evCh_staged (s a1 a2) : (State.evCh s a1 a2).staged = s.staged := (State.evCh_in ..).same .staged rfl
@[simp] theorem State.evCh_latches (s a1 a2) : (State.evCh s a1 a2).latches = s.latches :=
  (State.evCh_in ..).same .latches rfl
@[simp] theorem State.evCh_heldWr (s a1 a2) : (State.evCh s a1 a2).heldWr = s.heldWr := (State.evCh_in ..).same .heldWr rfl
@[simp] theorem State.evCh_tk (s a1 a2) : (State.evCh s a1 a2).tk = s.tk := (State.evCh_in ..).same .tk rfl
@[simp] theorem State.evCh_calBad (s a1 a2) : (State.evCh s a1 a2).calBad = s.calBad := (State.evCh_in ..).same .calBad rfl
@[simp] theorem State.evCh_pails (s a1 a2) : (State.evCh s a1 a2).pails = s.pails := (State.evCh_in ..).same .pails rfl
@[simp] theorem State.evCh_banks (s a1 a2) : (State.evCh s a1 a2).banks = s.banks := (State.evCh_in ..).same .banks rfl
@[simp] theorem State.evCh_repairDue (s a1 a2) : (State.evCh s a1 a2).repairDue = s.repairDue :=
  (State.evCh_in ..).same .repairDue rfl
@[simp] theorem State.evCh_units (s a1 a2) : (State.evCh s a1 a2).units = s.units := (State.evCh_in ..).same .units rfl
@[simp] theorem State.evCh_groups (s a1 a2) : (State.evCh s a1 a2).groups = s.groups := (State.evCh_in ..).same .groups rfl
@[simp] theorem State.evCh_spares (s a1 a2) : (State.evCh s a1 a2).spares = s.spares := (State.evCh_in ..).same .spares rfl
@[simp] theorem State.evCh_chans (s a1 a2) : (State.evCh s a1 a2).chans = s.chans := (State.evCh_in ..).same .chans rfl
@[simp] theorem State.evCh_slices (s a1 a2) : (State.evCh s a1 a2).slices = s.slices := (State.evCh_in ..).same .slices rfl
@[simp] theorem State.evCh_ports (s a1 a2) : (State.evCh s a1 a2).ports = s.ports := (State.evCh_in ..).same .ports rfl
@[simp] theorem State.evCh_um (s a1 a2) : (State.evCh s a1 a2).um = s.um := (State.evCh_in ..).same .um rfl
@[simp] theorem State.evCh_pw (s a1 a2) : (State.evCh s a1 a2).pw = s.pw := (State.evCh_in ..).same .pw rfl
@[simp] theorem State.evCh_rs (s a1 a2) : (State.evCh s a1 a2).rs = s.rs := (State.evCh_in ..).same .rs rfl
@[simp] theorem State.evCh_cl (s a1 a2) : (State.evCh s a1 a2).cl = s.cl := (State.evCh_in ..).same .cl rfl
@[simp] theorem State.evCh_tw (s a1 a2) : (State.evCh s a1 a2).tw = s.tw := (State.evCh_in ..).same .tw rfl
@[simp] theorem State.evCh_sec (s a1 a2) : (State.evCh s a1 a2).sec = s.sec := (State.evCh_in ..).same .sec rfl
@[simp] theorem State.evCh_flash (s a1 a2) : (State.evCh s a1 a2).flash = s.flash := (State.evCh_in ..).same .flash rfl
@[simp] theorem State.evCh_image (s a1 a2) : (State.evCh s a1 a2).image = s.image := (State.evCh_in ..).same .image rfl
@[simp] theorem State.evCh_fresh (s a1 a2) : (State.evCh s a1 a2).fresh = s.fresh := (State.evCh_in ..).same .fresh rfl
@[simp] theorem State.evCh_eg (s a1 a2) : (State.evCh s a1 a2).eg = s.eg := (State.evCh_in ..).same .eg rfl
@[simp] theorem State.evCh_calDue (s a1 a2) : (State.evCh s a1 a2).calDue = s.calDue := (State.evCh_in ..).same .calDue rfl
@[simp] theorem State.wrWide_pending (s a1 a2) : (State.wrWide s a1 a2).pending = s.pending :=
  (State.wrWide_in ..).same .pending rfl
@[simp] theorem State.wrWide_ticks (s a1 a2) : (State.wrWide s a1 a2).ticks = s.ticks := (State.wrWide_in ..).same .ticks rfl
@[simp] theorem State.wrWide_aon (s a1 a2) : (State.wrWide s a1 a2).aon = s.aon := (State.wrWide_in ..).same .aon rfl
@[simp] theorem State.wrWide_aonLeft (s a1 a2) : (State.wrWide s a1 a2).aonLeft = s.aonLeft :=
  (State.wrWide_in ..).same .aonLeft rfl
@[simp] theorem State.wrWide_core (s a1 a2) : (State.wrWide s a1 a2).core = s.core := (State.wrWide_in ..).same .core rfl
@[simp] theorem State.wrWide_coreQ (s a1 a2) : (State.wrWide s a1 a2).coreQ = s.coreQ := (State.wrWide_in ..).same .coreQ rfl
@[simp] theorem State.wrWide_gen (s a1 a2) : (State.wrWide s a1 a2).gen = s.gen := (State.wrWide_in ..).same .gen rfl
@[simp] theorem State.wrWide_staged (s a1 a2) : (State.wrWide s a1 a2).staged = s.staged :=
  (State.wrWide_in ..).same .staged rfl
@[simp] theorem State.wrWide_latches (s a1 a2) : (State.wrWide s a1 a2).latches = s.latches :=
  (State.wrWide_in ..).same .latches rfl
@[simp] theorem State.wrWide_heldWr (s a1 a2) : (State.wrWide s a1 a2).heldWr = s.heldWr :=
  (State.wrWide_in ..).same .heldWr rfl
@[simp] theorem State.wrWide_tk (s a1 a2) : (State.wrWide s a1 a2).tk = s.tk := (State.wrWide_in ..).same .tk rfl
@[simp] theorem State.wrWide_log (s a1 a2) : (State.wrWide s a1 a2).log = s.log := (State.wrWide_in ..).same .log rfl
@[simp] theorem State.wrWide_calBad (s a1 a2) : (State.wrWide s a1 a2).calBad = s.calBad :=
  (State.wrWide_in ..).same .calBad rfl
@[simp] theorem State.wrWide_pails (s a1 a2) : (State.wrWide s a1 a2).pails = s.pails := (State.wrWide_in ..).same .pails rfl
@[simp] theorem State.wrWide_banks (s a1 a2) : (State.wrWide s a1 a2).banks = s.banks := (State.wrWide_in ..).same .banks rfl
@[simp] theorem State.wrWide_repairDue (s a1 a2) : (State.wrWide s a1 a2).repairDue = s.repairDue :=
  (State.wrWide_in ..).same .repairDue rfl
@[simp] theorem State.wrWide_units (s a1 a2) : (State.wrWide s a1 a2).units = s.units := (State.wrWide_in ..).same .units rfl
@[simp] theorem State.wrWide_groups (s a1 a2) : (State.wrWide s a1 a2).groups = s.groups :=
  (State.wrWide_in ..).same .groups rfl
@[simp] theorem State.wrWide_spares (s a1 a2) : (State.wrWide s a1 a2).spares = s.spares :=
  (State.wrWide_in ..).same .spares rfl
@[simp] theorem State.wrWide_chans (s a1 a2) : (State.wrWide s a1 a2).chans = s.chans := (State.wrWide_in ..).same .chans rfl
@[simp] theorem State.wrWide_slices (s a1 a2) : (State.wrWide s a1 a2).slices = s.slices :=
  (State.wrWide_in ..).same .slices rfl
@[simp] theorem State.wrWide_ports (s a1 a2) : (State.wrWide s a1 a2).ports = s.ports := (State.wrWide_in ..).same .ports rfl
@[simp] theorem State.wrWide_links (s a1 a2) : (State.wrWide s a1 a2).links = s.links := (State.wrWide_in ..).same .links rfl
@[simp] theorem State.wrWide_um (s a1 a2) : (State.wrWide s a1 a2).um = s.um := (State.wrWide_in ..).same .um rfl
@[simp] theorem State.wrWide_pw (s a1 a2) : (State.wrWide s a1 a2).pw = s.pw := (State.wrWide_in ..).same .pw rfl
@[simp] theorem State.wrWide_rs (s a1 a2) : (State.wrWide s a1 a2).rs = s.rs := (State.wrWide_in ..).same .rs rfl
@[simp] theorem State.wrWide_cl (s a1 a2) : (State.wrWide s a1 a2).cl = s.cl := (State.wrWide_in ..).same .cl rfl
@[simp] theorem State.wrWide_tw (s a1 a2) : (State.wrWide s a1 a2).tw = s.tw := (State.wrWide_in ..).same .tw rfl
@[simp] theorem State.wrWide_sec (s a1 a2) : (State.wrWide s a1 a2).sec = s.sec := (State.wrWide_in ..).same .sec rfl
@[simp] theorem State.wrWide_flash (s a1 a2) : (State.wrWide s a1 a2).flash = s.flash := (State.wrWide_in ..).same .flash rfl
@[simp] theorem State.wrWide_image (s a1 a2) : (State.wrWide s a1 a2).image = s.image := (State.wrWide_in ..).same .image rfl
@[simp] theorem State.wrWide_fresh (s a1 a2) : (State.wrWide s a1 a2).fresh = s.fresh := (State.wrWide_in ..).same .fresh rfl
@[simp] theorem State.wrWide_out (s a1 a2) : (State.wrWide s a1 a2).out = s.out := (State.wrWide_in ..).same .out rfl
@[simp] theorem State.wrWide_hot (s a1 a2) : (State.wrWide s a1 a2).hot = s.hot := (State.wrWide_in ..).same .hot rfl
@[simp] theorem State.wrWide_eg (s a1 a2) : (State.wrWide s a1 a2).eg = s.eg := (State.wrWide_in ..).same .eg rfl
@[simp] theorem State.wrWide_calDue (s a1 a2) : (State.wrWide s a1 a2).calDue = s.calDue :=
  (State.wrWide_in ..).same .calDue rfl

end Sys2Proof.Machine
end

