-- ==== Sys2Proof/Laws/Events.lean ====
section
/-! SUPPORT. What an occurrence of an event source does to the registers (R340 to R343). -/

namespace Sys2Proof.Machine

theorem State.rdW_cnt_other (s : State) {k j : Nat} (h : j ≠ k) : (s.cnt k).rdW j = s.rdW j := State.rdW_wrW_other _ _ h
theorem State.rdW_cnt (s : State) (k : Nat) :
    (s.cnt k).rdW k = BitVec.ofNat 64 (min ((s.rdW k).toNat + 1) 0xFFFFFFFF) := State.rdW_wrW_same _ _ _

theorem State.rdW_heat (s : State) (j : Nat) (f : Hot → Hot) (k : Nat) : (s.heat j f).rdW k = s.rdW k := rfl
theorem State.rdW_rose (s : State) (j v k : Nat) : (s.rose j v).rdW k = s.rdW k := rfl
theorem State.rdW_setBitsOf (s : State) (k v : Nat) :
    (s.setBitsOf k v).rdW k = BitVec.ofNat 64 ((s.rdW k).toNat ||| v) := State.rdW_wrW_same _ _ _
theorem State.rdW_setBitsOf_other (s : State) {k j : Nat} (v : Nat) (h : j ≠ k) : (s.setBitsOf k v).rdW j = s.rdW j :=
  State.rdW_wrW_other _ _ h

theorem State.rdW_updLink (s : State) (m : Nat) (f : LinkRt → LinkRt) (k : Nat) : (s.updLink m f).rdW k = s.rdW k := rfl

theorem State.rdW_signal (s : State) (m v k : Nat) : (s.signal m v).rdW k = s.rdW k :=
  State.rdW_of_regs ((State.signal_in s m v).same .regs rfl) k

theorem State.rdW_recUnc (s : State) (m b : Nat) (h : List Nat) (k : Nat) : (s.recUnc m b h).rdW k = s.rdW k :=
  State.rdW_of_regs ((State.recUnc_in s m b h).same .regs rfl) k

theorem State.rdW_recCor (s : State) (m b k : Nat) : (s.recCor m b).rdW k = s.rdW k :=
  State.rdW_of_regs ((State.recCor_in s m b).same .regs rfl) k

theorem State.rdW_logPut (s : State) (e : LogEntry) {k : Nat} (h : k ≠ Reg.LOG_SEQ) (h' : k ≠ Reg.LOG_LOST) :
    (s.logPut e).rdW k = s.rdW k := by
  unfold State.logPut
  split
  · exact State.rdW_cnt_other _ h'
  · dsimp only
    split <;> exact State.rdW_wrW_other _ _ h

theorem evRouteLink_lt (w : Word) : F.EV_ROUTE_LINK.get w < 32 := Nat.mod_lt _ (by decide)

/-- The state in which source `i` has been raised. -/
theorem State.raiseActs_from (R : State → State → Prop) (refl : ∀ s, R s s) (trans : ∀ {s t u}, R s t → R t u → R s u)
    (J : Nat → Prop) (hJ : ∀ m < 32, J (289 + 4 * m))
    (hr : ∀ s i, J i → R s (s.setBitsOf (Reg.EV_RAISED (i / 32)) (2 ^ (i % 32)))) (hq : ∀ s k v, R s (s.rose k v))
    (ha : ∀ s, R s (s.setFld Reg.EV_ALERT F.EV_ALERT_ALERT 1)) (hv : ∀ s m v, R s (s.signal m v))
    (hl : ∀ s e, R s (s.logPut e)) (hu : ∀ s m b h, R s (s.recUnc m b h)) (hc : ∀ s m b, R s (s.recCor m b))
    (he : ∀ s, ∀ m < 32, R s (s.setBitsOf (Reg.HL_LINK_EVENT m) 2))
    (hn : ∀ s, ∀ m < 32, R s (s.cnt (Reg.EV_CNT (289 + 4 * m))))
    (n : Nat) (s : State) (i det fl : Nat) :
    R (s.setBitsOf (Reg.EV_RAISED (i / 32)) (2 ^ (i % 32))) (State.raiseActs n s i det fl) := by
  induction n generalizing s i det fl with
  | zero =>
    unfold State.raiseActs
    extract_lets s1 kk rr m live s2 s3 s4 s5
    have h1 : R (s.setBitsOf (Reg.EV_RAISED (i / 32)) (2 ^ (i % 32))) s1 := hq _ _ _
    have h2 : R s1 s2 := by unfold s2; split; exact ha _; exact refl _
    have h3 : R s1 s3 := by unfold s3; split; exact trans h2 (hv _ _ _); exact h2
    have h4 : R s1 s4 := by unfold s4; split; exact trans h3 (hl _ _); exact h3
    have h5 : R s1 s5 := by unfold s5; split; exact trans h4 (hu _ _ _ _); exact trans h4 (hc _ _ _)
    clear_value s5 s4 s1
    split
    · exact trans h1 h5
    · exact trans h1 h4
  | succ n ih =>
    unfold State.raiseActs
    extract_lets s1 kk rr m live s2 s3 s4 s5 e was s6
    have h1 : R (s.setBitsOf (Reg.EV_RAISED (i / 32)) (2 ^ (i % 32))) s1 := hq _ _ _
    have h2 : R s1 s2 := by unfold s2; split; exact ha _; exact refl _
    have h3 : R s1 s3 := by unfold s3; split; exact trans h2 (hv _ _ _); exact h2
    have h4 : R s1 s4 := by unfold s4; split; exact trans h3 (hl _ _); exact h3
    have h5 : R s1 s5 := by unfold s5; split; exact trans h4 (hu _ _ _ _); exact trans h4 (hc _ _ _)
    have hm : m < 32 := evRouteLink_lt _
    have h6 : R s1 s6 := trans (trans h5 (he _ m hm)) (hn _ m hm)
    clear_value s6 s4 s1
    refine trans h1 ?_
    split
    · show R s1 (if was = true then s6 else State.raiseActs n (s6.rose e 2) (289 + 4 * m) (s6.rdW e).toNat 0)
      split
      · exact h6
      · exact trans h6 (trans (hq _ _ _) (trans (hr _ _ (hJ m hm)) (ih _ _ _ _)))
    · exact h4

/-- What the actions of a raise write in the registers: EV_RAISED of the source, ALERT, the log's sequence and lost
counts, and, for each link whose error report they make, its event register and the count and EV_RAISED of its HL_ERR. -/
theorem State.rdW_raiseActs (n : Nat) (s : State) (i det fl : Nat) {k : Nat} (hr : k ≠ Reg.EV_RAISED (i / 32))
    (ha : k ≠ Reg.EV_ALERT) (hs : k ≠ Reg.LOG_SEQ) (hl : k ≠ Reg.LOG_LOST)
    (hm : ∀ m < 32, k ≠ Reg.HL_LINK_EVENT m ∧ k ≠ Reg.EV_CNT (289 + 4 * m) ∧ k ≠ Reg.EV_RAISED ((289 + 4 * m) / 32)) :
    (State.raiseActs n s i det fl).rdW k = s.rdW k :=
  (State.raiseActs_from (fun s t => t.rdW k = s.rdW k) (fun _ => rfl) (fun h h' => h'.trans h)
    (fun i => k ≠ Reg.EV_RAISED (i / 32)) (fun m h => (hm m h).2.2) (fun s _ h => State.rdW_setBitsOf_other s _ h) (fun s _ _ => State.rdW_rose s _ _ k)
    (fun s => State.rdW_setFld_other s _ _ ha) (fun s m v => State.rdW_signal s m v k) (fun s e => State.rdW_logPut s e hs hl)
    (fun s m b h => State.rdW_recUnc s m b h k) (fun s m b => State.rdW_recCor s m b k)
    (fun s m h => State.rdW_setBitsOf_other s _ (hm m h).1) (fun s m h => State.rdW_cnt_other s (hm m h).2.1) n s i det fl).trans
    (State.rdW_setBitsOf_other s _ hr)

/-- The registers that the event matrix and the trouble log's queue write when a source occurs. -/
theorem evKey_false {k : Nat} (h : evKey k = false) : k ≠ Reg.EV_ALERT ∧ k ≠ Reg.LOG_SEQ ∧ k ≠ Reg.LOG_LOST ∧
    (∀ i < 1024, k ≠ Reg.EV_CNT i ∧ k ≠ Reg.EV_RAISED (i / 32)) ∧ ∀ m < 32, k ≠ Reg.HL_LINK_EVENT m := by
  simp only [evKey, Reg.EV_ALERT, Reg.LOG_SEQ, Reg.LOG_LOST, Reg.EV_CNT, Reg.EV_RAISED, Reg.HL_LINK_EVENT, Bool.or_eq_false_iff,
    Bool.and_eq_false_iff, decide_eq_false_iff_not] at h ⊢
  obtain ⟨⟨⟨h1, h2⟩, h3⟩, h4⟩ := h
  have h2 := of_decide_eq_false h2
  have h3 := of_decide_eq_false h3
  refine ⟨by omega, by omega, by omega, fun i hi => ⟨by omega, by omega⟩, fun m hm => by omega⟩

theorem State.rdW_raiseActs_ev (n : Nat) (s : State) {i : Nat} (hi : i < 1024) (det fl : Nat) {k : Nat} (h : evKey k = false) :
    (State.raiseActs n s i det fl).rdW k = s.rdW k := by
  obtain ⟨h1, h2, h3, h4, h5⟩ := evKey_false h
  exact State.rdW_raiseActs n s i det fl (h4 i hi).2 h1 h2 h3
    (fun m hm => ⟨h5 m hm, (h4 (289 + 4 * m) (by omega)).1, (h4 (289 + 4 * m) (by omega)).2⟩)

/-- An occurrence writes no register but those of the event matrix and the trouble log. -/
theorem State.rdW_occur (s : State) {i : Nat} (hi : i < 1024) {k : Nat} (h : evKey k = false) : (s.occur i).rdW k = s.rdW k := by
  unfold State.occur
  split
  · dsimp only
    have hc := State.rdW_cnt_other s ((evKey_false h).2.2.2.1 i hi).1
    split
    · exact (State.rdW_setBitsOf_other _ _ ((evKey_false h).2.2.2.1 i hi).2).trans hc
    · rw [State.rdW_raiseActs_ev _ _ hi _ _ h, hc]
  · rfl

theorem State.rdW_occurBit (s : State) {i : Nat} (hi : i < 1024) (b : Nat) (det : Option Nat) {k j : Nat} (h : evKey k = false)
    (hj : k ≠ j) : (s.occurBit i j b det).rdW k = s.rdW k := by
  unfold State.occurBit
  extract_lets was x y
  have hx : x.rdW k = s.rdW k := State.rdW_setBitsOf_other s _ hj
  have hy : y.rdW k = s.rdW k := (State.rdW_cnt_other x ((evKey_false h).2.2.2.1 i hi).1).trans hx
  clear_value y x
  split
  · split
    · exact hy
    · rw [State.rdW_raiseActs_ev _ _ hi _ _ h, State.rdW_rose, hy]
  · exact hx

/-- The count of a source other than an HL_ERR stays through another source's actions. -/
theorem State.evCnt_raiseActs (n : Nat) (s : State) {i : Nat} (hi : i < 1024) (det fl : Nat) {j : Nat} (hj : j < 1024)
    (h : ∀ m < 32, j ≠ 289 + 4 * m) :
    (State.raiseActs n s i det fl).rdW (Reg.EV_CNT j) = s.rdW (Reg.EV_CNT j) := by
  refine State.rdW_raiseActs n s i det fl ?_ ?_ ?_ ?_ (fun m hm => ⟨?_, ?_, ?_⟩) <;>
    simp only [Reg.EV_ALERT, Reg.LOG_SEQ, Reg.LOG_LOST, Reg.EV_CNT, Reg.EV_RAISED, Reg.HL_LINK_EVENT] <;>
    try have := h m hm
  all_goals omega

theorem State.raised_wrW_other (s : State) (k : Nat) (w : Word) (j : Nat) (h : Reg.EV_RAISED (j / 32) ≠ k) :
    (s.wrW k w).raised j = s.raised j := by
  simp only [State.raised, State.rdW_wrW_other _ _ h]

theorem State.raised_set (s : State) (i : Nat) :
    (s.setBitsOf (Reg.EV_RAISED (i / 32)) (2 ^ (i % 32))).raised i = true := by
  simp only [State.raised, State.rdW_setBitsOf, BitVec.toNat_ofNat, Nat.testBit_mod_two_pow,
    Nat.testBit_or, Nat.testBit_two_pow_self]
  simp
  omega

theorem State.raised_or (s : State) (i j : Nat) (h : s.raised j = true) :
    (s.setBitsOf (Reg.EV_RAISED (i / 32)) (2 ^ (i % 32))).raised j = true := by
  simp only [State.raised] at h ⊢
  unfold State.setBitsOf
  rw [State.rdW_heat, State.rdW_wrW]
  split
  · rename_i e
    rw [e] at h
    simp only [BitVec.toNat_ofNat, Nat.testBit_mod_two_pow, Nat.testBit_or, h, Bool.true_or, Bool.and_true, decide_eq_true_eq]
    omega
  · exact h

theorem State.raised_congr {s t : State} (j : Nat) (h : t.rdW (Reg.EV_RAISED (j / 32)) = s.rdW (Reg.EV_RAISED (j / 32))) :
    t.raised j = s.raised j := by simp only [State.raised, h]

/-- A source that the raise's first write leaves raised stays so. -/
theorem State.raised_raiseActs_from (n : Nat) (s : State) (i det fl : Nat) {j : Nat} (hj : j < 1024)
    (h : (s.setBitsOf (Reg.EV_RAISED (i / 32)) (2 ^ (i % 32))).raised j = true) :
    (State.raiseActs n s i det fl).raised j = true := by
  refine State.raiseActs_from (fun s t => s.raised j = true → t.raised j = true) (fun _ => id) (fun h h' => h' ∘ h)
    (fun _ => True) (fun _ _ => trivial) (fun s i _ h => State.raised_or s i j h) (fun s k v h => (State.raised_congr j (State.rdW_rose s k v _)).trans h)
    (fun s h => (State.raised_congr j (State.rdW_setFld_other s _ _ ?_)).trans h)
    (fun s m v h => (State.raised_congr j (State.rdW_signal s m v _)).trans h)
    (fun s e h => (State.raised_congr j (State.rdW_logPut s e ?_ ?_)).trans h)
    (fun s m b l h => (State.raised_congr j (State.rdW_recUnc s m b l _)).trans h)
    (fun s m b h => (State.raised_congr j (State.rdW_recCor s m b _)).trans h)
    (fun s m hm h => (State.raised_congr j (State.rdW_setBitsOf_other s _ ?_)).trans h)
    (fun s m hm h => (State.raised_congr j (State.rdW_cnt_other s ?_)).trans h) n s i det fl h <;>
    simp only [Reg.EV_ALERT, Reg.LOG_SEQ, Reg.LOG_LOST, Reg.EV_CNT, Reg.EV_RAISED, Reg.HL_LINK_EVENT] <;> omega

/-- A raise raises its source. -/
theorem State.raised_raiseActs (n : Nat) (s : State) {i : Nat} (hi : i < 1024) (det fl : Nat) :
    (State.raiseActs n s i det fl).raised i = true := State.raised_raiseActs_from n s i det fl hi (State.raised_set s i)

/-- No action of a raise ends another. -/
theorem State.raised_raiseActs_mono (n : Nat) (s : State) (i det fl : Nat) {j : Nat} (hj : j < 1024) (h : s.raised j = true) :
    (State.raiseActs n s i det fl).raised j = true := State.raised_raiseActs_from n s i det fl hj (State.raised_or s i j h)

theorem State.raised_cnt (s : State) (i : Nat) {j : Nat} (hj : j < 1024) : (s.cnt (Reg.EV_CNT i)).raised j = s.raised j :=
  State.raised_wrW_other s _ _ j (by simp only [Reg.EV_CNT, Reg.EV_RAISED]; omega)

theorem State.raised_occur_mono (s : State) (i : Nat) {j : Nat} (hj : j < 1024) (h : s.raised j = true) :
    (s.occur i).raised j = true := by
  unfold State.occur
  split
  · dsimp only
    split
    · exact State.raised_or _ _ _ (by rw [State.raised_cnt _ _ hj]; exact h)
    · exact State.raised_raiseActs_mono _ _ _ _ _ hj (by rw [State.raised_cnt _ _ hj]; exact h)
  · exact h

/-- An occurrence while MGMT is on raises its source and counts it (R340). -/
theorem State.occur_raised (s : State) {i : Nat} (hi : i < 1024) (hon : s.on 3 = true) : (s.occur i).raised i = true := by
  unfold State.occur
  rw [if_pos hon]
  dsimp only
  split
  · exact State.raised_set _ _
  · exact State.raised_raiseActs _ _ hi _ _

theorem State.occur_count (s : State) {i : Nat} (hi : i < 1024) (hm : ∀ m < 32, i ≠ 289 + 4 * m) (hon : s.on 3 = true) :
    (s.occur i).rdW (Reg.EV_CNT i) = BitVec.ofNat 64 (min ((s.rdW (Reg.EV_CNT i)).toNat + 1) 0xFFFFFFFF) := by
  unfold State.occur
  rw [if_pos hon]
  dsimp only
  split
  · exact (State.rdW_setBitsOf_other _ _ (by simp only [Reg.EV_CNT, Reg.EV_RAISED]; omega)).trans (State.rdW_cnt _ _)
  · rw [State.evCnt_raiseActs _ _ hi _ _ hi hm, State.rdW_cnt]

/-- The count of another source than HL_ERR stays. -/
theorem State.evCnt_occur (s : State) {i j : Nat} (hi : i < 1024) (hj : j < 1024) (hij : j ≠ i) (hm : ∀ m < 32, j ≠ 289 + 4 * m) :
    (s.occur i).rdW (Reg.EV_CNT j) = s.rdW (Reg.EV_CNT j) := by
  have hc : (s.cnt (Reg.EV_CNT i)).rdW (Reg.EV_CNT j) = s.rdW (Reg.EV_CNT j) :=
    State.rdW_cnt_other _ (by simp only [Reg.EV_CNT]; omega)
  unfold State.occur
  split
  · dsimp only
    split
    · exact (State.rdW_setBitsOf_other _ _ (by simp only [Reg.EV_CNT, Reg.EV_RAISED]; omega)).trans hc
    · rw [State.evCnt_raiseActs _ _ hi _ _ hj hm, hc]
  · rfl

theorem State.rdW_evTl (s : State) {e : Nat} (he : e < 400) {k : Nat} (h : evKey k = false) : (s.evTl e).rdW k = s.rdW k :=
  State.rdW_occur s (by omega) h
theorem State.rdW_evUm (s : State) {e : Nat} (he : e < 400) {k : Nat} (h : evKey k = false) : (s.evUm e).rdW k = s.rdW k :=
  State.rdW_occur s (by omega) h

theorem State.rdW_logKind (s : State) (kd p : Nat) {k : Nat} (h : evKey k = false) : (s.logKind kd p).rdW k = s.rdW k :=
  State.rdW_logPut s _ (evKey_false h).2.1 (evKey_false h).2.2.1

/-- An occurrence of a source whose bit stands in register `k` sets the bit. -/
theorem State.occurBit_bit (s : State) {i : Nat} (hi : i < 1024) {k : Nat} (b : Nat) (hb : b < 64) (det : Option Nat)
    (hk : evKey k = false) : ((s.occurBit i k b det).rdW k).toNat.testBit b = true := by
  unfold State.occurBit
  extract_lets was x y
  have hx : x.rdW k = BitVec.ofNat 64 ((s.rdW k).toNat ||| 2 ^ b) := State.rdW_setBitsOf s _ _
  have hb' : (BitVec.ofNat 64 ((s.rdW k).toNat ||| 2 ^ b)).toNat.testBit b = true := by
    rw [BitVec.toNat_ofNat, Nat.testBit_mod_two_pow, Nat.testBit_or, Nat.testBit_two_pow_self]
    simp [hb]
  have hy : y.rdW k = x.rdW k := State.rdW_cnt_other x ((evKey_false hk).2.2.2.1 i hi).1
  rw [← hx] at hb'
  clear_value y x
  split
  · split
    · rw [hy]; exact hb'
    · rw [State.rdW_raiseActs_ev _ _ hi _ _ hk, State.rdW_rose, hy]; exact hb'
  · exact hb'

/-- It is counted while MGMT is on. -/
theorem State.occurBit_count (s : State) {i : Nat} (hi : i < 1024) (hm : ∀ m < 32, i ≠ 289 + 4 * m) {k : Nat} (b : Nat)
    (det : Option Nat) (hk : evKey k = false) (hpw : k ≠ Reg.PW_ON) (hon : s.on 3 = true) :
    (s.occurBit i k b det).rdW (Reg.EV_CNT i) = BitVec.ofNat 64 (min ((s.rdW (Reg.EV_CNT i)).toNat + 1) 0xFFFFFFFF) := by
  unfold State.occurBit
  extract_lets was x y
  have hon' : x.on 3 = true := (congrArg (fun w : Word => w.toNat.testBit 3) (State.rdW_setBitsOf_other s _ (Ne.symm hpw))).trans hon
  have hx : x.rdW (Reg.EV_CNT i) = s.rdW (Reg.EV_CNT i) :=
    State.rdW_setBitsOf_other s _ (Ne.symm ((evKey_false hk).2.2.2.1 i hi).1)
  have hy : y.rdW (Reg.EV_CNT i) = BitVec.ofNat 64 (min ((s.rdW (Reg.EV_CNT i)).toNat + 1) 0xFFFFFFFF) := by
    rw [← hx]; exact State.rdW_cnt x _
  clear_value y x
  rw [if_pos hon']
  split
  · exact hy
  · rw [State.evCnt_raiseActs _ _ hi _ _ hi hm, State.rdW_rose, hy]

/-! ## Readings after an occurrence -/

theorem State.fld_occur (s : State) {i : Nat} (hi : i < 1024) {k : Nat} (h : evKey k = false) (f : Fld) :
    (s.occur i).fld k f = s.fld k f :=
  State.fld_eq f (State.rdW_occur s hi h) (State.rdG_of_gen ((State.occur_in s i).same .gen rfl) k)
theorem State.fld_occurBit (s : State) {i : Nat} (hi : i < 1024) (b : Nat) (det : Option Nat) {k j : Nat} (h : evKey k = false)
    (hj : k ≠ j) (f : Fld) : (s.occurBit i j b det).fld k f = s.fld k f :=
  State.fld_eq f (State.rdW_occurBit s hi b det h hj) (State.rdG_of_gen ((State.occurBit_in s i j b det).same .gen rfl) k)
theorem State.fld_evTl (s : State) {e : Nat} (he : e < 400) {k : Nat} (h : evKey k = false) (f : Fld) :
    (s.evTl e).fld k f = s.fld k f := State.fld_occur s (by omega) h f
theorem State.fld_evUm (s : State) {e : Nat} (he : e < 400) {k : Nat} (h : evKey k = false) (f : Fld) :
    (s.evUm e).fld k f = s.fld k f := State.fld_occur s (by omega) h f
theorem State.flag_evTl (s : State) {e : Nat} (he : e < 400) {k : Nat} (h : evKey k = false) (f : Fld) :
    (s.evTl e).flag k f = s.flag k f := by simp only [State.flag, State.fld_evTl s he h]
theorem State.flag_evUm (s : State) {e : Nat} (he : e < 400) {k : Nat} (h : evKey k = false) (f : Fld) :
    (s.evUm e).flag k f = s.flag k f := by simp only [State.flag, State.fld_evUm s he h]
theorem State.on_evTl (s : State) {e : Nat} (he : e < 400) (d : Nat) : (s.evTl e).on d = s.on d := by
  simp only [State.on, State.rdW_evTl s he (k := Reg.PW_ON) (by decide)]
theorem State.on_evUm (s : State) {e : Nat} (he : e < 400) (d : Nat) : (s.evUm e).on d = s.on d := by
  simp only [State.on, State.rdW_evUm s he (k := Reg.PW_ON) (by decide)]
theorem State.on_setFld (s : State) {k : Nat} (f : Fld) (v d : Nat) (h : k ≠ Reg.PW_ON) : (s.setFld k f v).on d = s.on d := by
  simp only [State.on, State.rdW_setFld_other s f v (Ne.symm h)]
theorem State.on_wrW (s : State) {k : Nat} (w : Word) (d : Nat) (h : k ≠ Reg.PW_ON) : (s.wrW k w).on d = s.on d := by
  simp only [State.on, State.rdW_wrW_other s w (Ne.symm h)]
theorem State.on_cnt (s : State) {k : Nat} (d : Nat) (h : k ≠ Reg.PW_ON) : (s.cnt k).on d = s.on d := State.on_wrW s _ d h
theorem State.tlState_evTl (s : State) {e : Nat} (he : e < 400) : (s.evTl e).tlState = s.tlState :=
  State.fld_evTl s he (by decide) _
theorem State.mode_evUm (s : State) {e : Nat} (he : e < 400) : (s.evUm e).mode = s.mode := State.fld_evUm s he (by decide) _

/-- An occurrence, told as the statements tell it. -/
theorem State.occurred (s : State) {i : Nat} (hi : i < 1024) (hm : ∀ m < 32, i ≠ 289 + 4 * m) : Occurred i s (s.occur i) :=
  fun hon => ⟨State.occur_raised s hi hon, State.occur_count s hi hm hon⟩

/-- A change that leaves the count and EV_RAISED of a source alone, and the domains, may stand before its occurrence … -/
theorem Occurred.before {i : Nat} {s s' t : State} (h : Occurred i s' t) (hon : s'.on 3 = s.on 3)
    (hc : s'.rdW (Reg.EV_CNT i) = s.rdW (Reg.EV_CNT i)) : Occurred i s t := by
  intro h3
  have := h (hon.trans h3)
  rw [hc] at this
  exact this

/-- … and after it. -/
theorem Occurred.after {i : Nat} {s t t' : State} (h : Occurred i s t) (hr : t.raised i = true → t'.raised i = true)
    (hc : t'.rdW (Reg.EV_CNT i) = t.rdW (Reg.EV_CNT i)) : Occurred i s t' :=
  fun h3 => ⟨hr (h h3).1, hc.trans (h h3).2⟩

theorem evKey_evCnt {i : Nat} (h : i < 1024) : evKey (Reg.EV_CNT i) = true := by
  simp only [evKey, Bool.or_eq_true, Bool.and_eq_true, decide_eq_true_eq]
  simp only [Reg.EV_CNT]
  exact .inl (.inl (.inl ⟨by omega, by omega⟩))
theorem evKey_evRaised {i : Nat} (h : i < 1024) : evKey (Reg.EV_RAISED (i / 32)) = true := by
  simp only [evKey, Bool.or_eq_true, Bool.and_eq_true, decide_eq_true_eq]
  simp only [Reg.EV_RAISED]
  exact .inl (.inl (.inl ⟨by omega, by omega⟩))

/-- A write of a register that is no register of the event matrix may stand before the occurrence … -/
theorem Occurred.before_regs {i : Nat} {s s' t : State} (h : Occurred i s' t)
    (he : ∀ k, evKey k = true → k ≠ Reg.LOG_SEQ → k ≠ Reg.LOG_LOST → s'.rdW k = s.rdW k) (hi : i < 1024)
    (hon : s'.on 3 = s.on 3) : Occurred i s t :=
  h.before hon (he _ (evKey_evCnt hi) (by simp only [Reg.EV_CNT, Reg.LOG_SEQ]; omega)
    (by simp only [Reg.EV_CNT, Reg.LOG_LOST]; omega))

/-- … or after it. -/
theorem Occurred.after_regs {i : Nat} {s t t' : State} (h : Occurred i s t)
    (he : ∀ k, evKey k = true → k ≠ Reg.LOG_SEQ → k ≠ Reg.LOG_LOST → t'.rdW k = t.rdW k) (hi : i < 1024) : Occurred i s t' := by
  refine h.after (fun hr => (State.raised_congr i (he _ (evKey_evRaised hi) ?_ ?_)).trans hr) (he _ (evKey_evCnt hi) ?_ ?_) <;>
    simp only [Reg.EV_CNT, Reg.EV_RAISED, Reg.LOG_SEQ, Reg.LOG_LOST] <;> omega

/-- Another source's occurrence may come after. -/
theorem Occurred.after_occur {i : Nat} {s t : State} (h : Occurred i s t) (j : Nat) (hi : i < 1024) (hj : j < 1024) (hij : i ≠ j)
    (hm : ∀ m < 32, i ≠ 289 + 4 * m) : Occurred i s (t.occur j) :=
  h.after (State.raised_occur_mono t j hi) (State.evCnt_occur t hj hi hij hm)

end Sys2Proof.Machine
end

