-- ==== Sys2Proof/Laws/InBoot.lean ====
section
/-! SUPPORT. What the operations of Machine/Boot.lean may change. -/

namespace Sys2Proof.Machine

set_option linter.unusedTactic false
set_option linter.unreachableTactic false

theorem State.bootFail_in (s a1) : Within 25845305408 s (State.bootFail s a1) := by
  unfold State.bootFail
  repeat' first
    | with_reducible exact .refl _ _ | with_reducible assumption 
    | (with_reducible apply Within.step (State.evRs_in _ _); decide)
    | (with_reducible apply Within.step (State.setFld_in _ _ _ _); decide)

theorem State.clPortsEn_in (s) : Within 64 s (State.clPortsEn s) := by
  unfold State.clPortsEn
  repeat' first
    | with_reducible exact .refl _ _ | with_reducible assumption | ((try lift_lets -underBinder); intro x; first
    | (refine Within.cut 64 s x ?_ ?_; (on_goal 1 => unfold x); (on_goal 2 => (intro hx; clear_value x)))
    | clear_value x) | with_reducible apply Within.ite
    | (with_reducible apply Within.step (State.setFld_in _ _ _ _); decide)
    | (with_reducible refine Within.foldl _ (fun x y hx => ?_) ?_) | split

theorem State.creameryRestart_in (s) : Within 30160852928 s (State.creameryRestart s) := by
  unfold State.creameryRestart
  repeat' first
    | with_reducible exact .refl _ _ | with_reducible assumption | ((try lift_lets -underBinder); intro x; first
    | (refine Within.cut 30160852928 s x ?_ ?_; (on_goal 1 => unfold x); (on_goal 2 => (intro hx; clear_value x)))
    | clear_value x)  | (with_reducible apply Within.step (State.setHeldWr_in _ _); decide)
    | (with_reducible apply Within.step (State.setLatches_in _ _); decide)
    | (with_reducible apply Within.step (State.keepImages_in _ _); decide)
    | (with_reducible apply Within.step (State.keepRegs_in _ _); decide)
    | (with_reducible apply Within.step (State.updUm_in _ _); decide)
    | (with_reducible apply Within.step (State.setSlices_in _ _); decide)
    | (with_reducible apply Within.step (State.setChans_in _ _); decide)
    | (with_reducible apply Within.step (State.rebind_in _ _); decide)
    | (with_reducible apply Within.step (State.updSpare_in _ _ _); decide)
    | (with_reducible apply Within.step (State.setFld_in _ _ _ _); decide)
    | (with_reducible apply Within.step (State.updRs_in _ _); decide)
    | (with_reducible apply Within.step (State.mgmtOn_in _); decide)
    | (with_reducible apply Within.step (State.evRs_in _ _); decide)
    | (with_reducible refine Within.foldl _ (fun x y hx => ?_) ?_)

theorem State.deviceReset_in (s a1 a2) : Within 26835163200 s (State.deviceReset s a1 a2) := by
  unfold State.deviceReset
  repeat' first
    | with_reducible exact .refl _ _ | with_reducible assumption | ((try lift_lets -underBinder); intro x; first
    | (refine Within.cut 26835163200 s x ?_ ?_; (on_goal 1 => unfold x); (on_goal 2 => (intro hx; clear_value x)))
    | clear_value x) | with_reducible apply Within.ite
    | (with_reducible apply Within.step (State.yieldFirst_in _); decide)
    | (with_reducible apply Within.step (State.updRs_in _ _); decide)
    | (with_reducible apply Within.step (State.setFld_in _ _ _ _); decide)
    | (with_reducible apply Within.step (State.setCause_in _ _ _); decide)
    | (with_reducible apply Within.step (State.cnt_in _ _); decide)
    | (with_reducible apply Within.step (State.saveTime_in _); decide)
    | (with_reducible apply Within.step (State.setMode_in _ _ _); decide)
    | (with_reducible apply Within.step (State.wrW_in _ _ _); decide)
    | (with_reducible apply Within.step (State.updPw_in _ _); decide)
    | (with_reducible apply Within.step (State.updUm_in _ _); decide) | split

theorem State.creameryFault_in (s a1 a2) : Within 31133933504 s (State.creameryFault s a1 a2) := by
  unfold State.creameryFault
  repeat' first
    | with_reducible exact .refl _ _ | with_reducible assumption | with_reducible apply Within.ite
    | (with_reducible apply Within.step (State.creameryRestart_in _); decide)
    | (with_reducible apply Within.step (State.deviceReset_in _ _ _); decide) | split

theorem State.domResetEnd_in (s a1) : Within 99049181248 s (State.domResetEnd s a1) := by
  unfold State.domResetEnd
  repeat' first
    | with_reducible exact .refl _ _ | with_reducible assumption | ((try lift_lets -underBinder); intro x; first
    | (refine Within.cut 99049181248 s x ?_ ?_; (on_goal 1 => unfold x); (on_goal 2 => (intro hx; clear_value x)))
    | clear_value x) | with_reducible apply Within.ite
    | (with_reducible apply Within.step (State.keepRegs_in _ _); decide)
    | (with_reducible apply Within.step (State.rebind_in _ _); decide)
    | (with_reducible apply Within.step (State.clPortsEn_in _); decide)
    | (with_reducible apply Within.step (State.updPw_in _ _); decide)
    | (with_reducible apply Within.step (State.setOn_in _ _ _); decide)
    | (with_reducible apply Within.step (State.evRs_in _ _); decide)
    | (with_reducible apply Within.step (State.domHook_in _ _); decide) | split

theorem State.domResetStart_in (s a1) : Within 99200784448 s (State.domResetStart s a1) := by
  unfold State.domResetStart
  repeat' first
    | with_reducible exact .refl _ _ | with_reducible assumption | ((try lift_lets -underBinder); intro x; first
    | (refine Within.cut 99200784448 s x ?_ ?_; (on_goal 1 => unfold x); (on_goal 2 => (intro hx; clear_value x)))
    | clear_value x)  | (with_reducible apply Within.step (State.setOn_in _ _ _); decide)
    | (with_reducible apply Within.step (State.endChans_in _ _ _); decide)
    | (with_reducible apply Within.step (State.domLost_in _ _); decide)

theorem State.imageSet_in (s a1) : Within 64 s (State.imageSet s a1) := by
  unfold State.imageSet
  repeat' first
    | with_reducible exact .refl _ _ | with_reducible assumption 
    | (with_reducible apply Within.step (State.wrW_in _ _ _); decide) | split | dsimp -zeta only

theorem State.imageRef_in (s) : Within 25778198592 s (State.imageRef s) := by
  unfold State.imageRef
  repeat' first
    | with_reducible exact .refl _ _ | with_reducible assumption | ((try lift_lets -underBinder); intro x; first
    | (refine Within.cut 25778198592 s x ?_ ?_; (on_goal 1 => unfold x); (on_goal 2 => (intro hx; clear_value x)))
    | clear_value x) | with_reducible apply Within.ite
    | (with_reducible apply Within.step (State.imageSet_in _ _); decide)
    | (with_reducible apply Within.step (State.setFld_in _ _ _ _); decide)
    | (with_reducible apply Within.step (State.refLost_in _); decide) | split

theorem State.imageTables_in (s) : Within 25778198592 s (State.imageTables s) := by
  unfold State.imageTables
  repeat' first
    | with_reducible exact .refl _ _ | with_reducible assumption | ((try lift_lets -underBinder); intro x; first
    | (refine Within.cut 25778198592 s x ?_ ?_; (on_goal 1 => unfold x); (on_goal 2 => (intro hx; clear_value x)))
    | clear_value x)  | (with_reducible apply Within.step (State.imageSet_in _ _); decide)
    | (with_reducible apply Within.step (State.imageRef_in _); decide)
    | (with_reducible apply Within.step (State.setFld_in _ _ _ _); decide)
    | (with_reducible refine Within.foldl _ (fun x y hx => ?_) ?_)

theorem State.lateRs_in (s a1) : Within 25845305408 s (State.lateRs s a1) := by
  induction a1 generalizing s with
  | nil => exact .refl _ _
  | cons x l ih =>
    unfold State.lateRs
    try dsimp -zeta only
    repeat' first
      | with_reducible exact .refl _ _ | with_reducible assumption 
      | (with_reducible apply Within.step (State.evRs_in _ _); decide)
      | (with_reducible apply Within.step (ih _); decide) | split | dsimp -zeta only

theorem State.loadLanes_in (s a1 a2) : Within 134283328 s (State.loadLanes s a1 a2) := by
  induction a2 generalizing s a1 with
  | nil => exact .refl _ _
  | cons x l ih =>
    unfold State.loadLanes
    try dsimp -zeta only
    repeat' first
      | with_reducible exact .refl _ _ | with_reducible assumption | with_reducible apply Within.ite
      | (with_reducible apply Within.step (State.setRepairDue_in _ _); decide)
      | (with_reducible apply Within.step (State.moveLane_in _ _ _ _); decide)
      | (with_reducible apply Within.step (State.setFld_in _ _ _ _); decide)
      | (with_reducible apply Within.step (State.updCl_in _ _ _); decide)
      | (with_reducible apply Within.step (ih _ _); decide) | split | dsimp -zeta only

theorem State.loadRemaps_in (s a1) : Within 32768 s (State.loadRemaps s a1) := by
  induction a1 generalizing s with
  | nil => exact .refl _ _
  | cons x l ih =>
    unfold State.loadRemaps
    try dsimp -zeta only
    repeat' first
      | with_reducible exact .refl _ _ | with_reducible assumption
      | ((try lift_lets -underBinder); intro x; first
      | (refine Within.cut 32768 s x ?_ ?_; (on_goal 1 => unfold x); (on_goal 2 => (intro hx; clear_value x)))
      | clear_value x) | with_reducible apply Within.ite
      | (with_reducible apply Within.step (State.updBank_in _ _ _); decide)
      | (with_reducible apply Within.step (ih _); decide) | split | dsimp -zeta only

theorem State.noImage_in (s) : Within 99857715520 s (State.noImage s) := by
  unfold State.noImage
  repeat' first
    | with_reducible exact .refl _ _ | with_reducible assumption 
    | (with_reducible apply Within.step (State.enterQuarantine_in _ _ _ _); decide)
    | (with_reducible apply Within.step (State.setFld_in _ _ _ _); decide)

theorem State.pldmSend_in (s a1 a2) : Within 8589934592 s (State.pldmSend s a1 a2) := by
  unfold State.pldmSend
  repeat' first
    | with_reducible exact .refl _ _ | with_reducible assumption | ((try lift_lets -underBinder); intro x; first
    | (refine Within.cut 8589934592 s x ?_ ?_; (on_goal 1 => unfold x); (on_goal 2 => (intro hx; clear_value x)))
    | clear_value x)  | (with_reducible apply Within.step (State.emit_in _ _); decide)

theorem State.poweredOff_in (s) : Within 123480309756 s (State.poweredOff s) :=
  ⟨fun p hp => by cases p <;> first | rfl | exact absurd hp (by decide),
    fun _ => show (SMap.wf rstW [(Reg.PW_MODE, 0), (Reg.PW_ON, 0)] && SMap.wf rstG [] && SMap.wf rstG []) = true by decide +kernel,
    fun _ => Nat.zero_le _⟩

theorem State.poweredOn_in (s) : Within 123480309756 s (State.poweredOn s) :=
  ⟨fun p hp => by cases p <;> first | rfl | exact absurd hp (by decide),
    fun _ => show (SMap.wf rstW [(0x50000, 1)] && SMap.wf rstG [] && SMap.wf rstG []) = true by decide +kernel,
    fun _ => show 1 ≤ 256 by decide⟩

theorem State.readRecord_in (s a1 a2) : Within 26919080000 s (State.readRecord s a1 a2) := by
  unfold State.readRecord
  repeat' first
    | with_reducible exact .refl _ _ | with_reducible assumption | ((try lift_lets -underBinder); intro x; first
    | (refine Within.cut 26919080000 s x ?_ ?_; (on_goal 1 => unfold x); (on_goal 2 => (intro hx; clear_value x)))
    | clear_value x) | with_reducible apply Within.ite
    | (with_reducible apply Within.step (State.updFlash_in _ _); decide)
    | (with_reducible apply Within.step (State.loadRemaps_in _ _); decide)
    | (with_reducible apply Within.step (State.bootFail_in _ _); decide)
    | (with_reducible apply Within.step (State.logKind_in _ _ _); decide) | split

theorem State.rowHook_in (s a1) : Within 99857717568 s (State.rowHook s a1) := by
  unfold State.rowHook
  repeat' first
    | with_reducible exact .refl _ _ | with_reducible assumption | ((try lift_lets -underBinder); intro x; first
    | (refine Within.cut 99857717568 s x ?_ ?_; (on_goal 1 => unfold x); (on_goal 2 => (intro hx; clear_value x)))
    | clear_value x) | with_reducible apply Within.ite
    | (with_reducible apply Within.step (State.secRelease_in _); decide)
    | (with_reducible apply Within.step (State.domOn_in _ _); decide)
    | (with_reducible apply Within.step (State.noImage_in _); decide)
    | (with_reducible apply Within.step (State.reloadTime_in _); decide)
    | (with_reducible apply Within.step (State.setFld_in _ _ _ _); decide)
    | (with_reducible apply Within.step (State.loadLanes_in _ _ _); decide)
    | (with_reducible apply Within.step (State.updRs_in _ _); decide) | split

theorem State.strapRole_in (s a1) : Within 64 s (State.strapRole s a1) := by
  unfold State.strapRole
  repeat' first
    | with_reducible exact .refl _ _ | with_reducible assumption | ((try lift_lets -underBinder); intro x; first
    | (refine Within.cut 64 s x ?_ ?_; (on_goal 1 => unfold x); (on_goal 2 => (intro hx; clear_value x)))
    | clear_value x) | with_reducible apply Within.ite
    | (with_reducible apply Within.step (State.setFld_in _ _ _ _); decide)
    | (with_reducible apply Within.step (State.clPortsEn_in _); decide) | split

theorem regsAfterReset_wf (s : State) (h : s.canon = true) : SMap.wf rstW s.regsAfterReset = true := by
  have base := SMap.wf_filter (fun e => regPerm e.1) (State.canon_regs h)
  unfold State.regsAfterReset
  dsimp only
  refine List.foldlRecOn (motive := fun m => SMap.wf rstW m = true) _ _ ?_ (fun m hm x _ => SMap.wf_put _ _ hm)
  exact SMap.wf_put _ _ (SMap.wf_put _ _ base)

theorem State.switchedOff_in (s) : Within 123446685632 s (State.switchedOff s) :=
  ⟨fun p hp => by cases p <;> first | rfl | exact absurd hp (by decide),
    fun h => show (SMap.wf rstW s.regsAfterReset && SMap.wf rstG [] && SMap.wf rstG []) = true by
      rw [regsAfterReset_wf s h]; rfl,
    fun h => h⟩

theorem execRsCauseGet_in (a0 a1 s) : WithinR 16777216 s (execRsCauseGet a0 a1 s) := by
  unfold execRsCauseGet
  repeat' first
    | with_reducible exact .refl _ _ | with_reducible assumption  | with_reducible refine Within.next ?_
    | with_reducible exact WithinR.fault _ _ _
    | (with_reducible refine State.umRun_in (by decide) ?_ ?_ <;> try beta_reduce)
    | (with_reducible apply Within.step (State.reply_in _ _ _ _ _); decide)

theorem execResetDomain_in (a0 a1 s) : WithinR 99217561664 s (execResetDomain a0 a1 s) := by
  unfold execResetDomain
  repeat' first
    | with_reducible exact .refl _ _ | with_reducible assumption | ((try lift_lets -underBinder); intro x; first
    | (refine Within.cut 99217561664 s x ?_ ?_; (on_goal 1 => unfold x); (on_goal 2 => (intro hx; clear_value x)))
    | clear_value x) | with_reducible apply Within.ite | with_reducible refine Within.next ?_
    | with_reducible exact WithinR.fault _ _ _ | with_reducible apply WithinR.ite
    | (with_reducible refine State.umRun_in (by decide) ?_ ?_ <;> try beta_reduce)
    | (with_reducible apply Within.step (State.reply_in _ _ _ _ _); decide)
    | (with_reducible apply Within.step (State.updUm_in _ _); decide)
    | (with_reducible apply Within.step (State.refuse_in _ _ _ _); decide)
    | (with_reducible apply Within.step (State.domResetStart_in _ _); decide) | split

theorem execAonPowerOn_in (s) : WithinR 123480309756 s (execAonPowerOn s) := by
  unfold execAonPowerOn
  repeat' first
    | with_reducible exact .refl _ _ | with_reducible assumption | with_reducible apply Within.ite
    | with_reducible refine Within.next ?_ | with_reducible exact WithinR.fault _ _ _
    | with_reducible apply WithinR.ite | (with_reducible apply Within.step (State.poweredOn_in _); decide)
    | split

theorem execBootSourceFail_in (a0 s) : WithinR 99857715520 s (execBootSourceFail a0 s) := by
  unfold execBootSourceFail
  repeat' first
    | with_reducible exact .refl _ _ | with_reducible assumption | ((try lift_lets -underBinder); intro x; first
    | (refine Within.cut 99857715520 s x ?_ ?_; (on_goal 1 => unfold x); (on_goal 2 => (intro hx; clear_value x)))
    | clear_value x) | with_reducible apply Within.ite | with_reducible refine Within.next ?_
    | with_reducible exact WithinR.fault _ _ _ | with_reducible apply WithinR.ite
    | (with_reducible apply Within.step (State.setFld_in _ _ _ _); decide)
    | (with_reducible apply Within.step (State.bootFail_in _ _); decide)
    | (with_reducible apply Within.step (State.evSec_in _ _); decide)
    | (with_reducible apply Within.step (State.updRs_in _ _); decide)
    | (with_reducible apply Within.step (State.pldmSend_in _ _ _); decide)
    | (with_reducible apply Within.step (State.noImage_in _); decide) | split | dsimp -zeta only

theorem execBringupRowRelease_in (a0 a1 s) : WithinR 100931459392 s (execBringupRowRelease a0 a1 s) := by
  unfold execBringupRowRelease
  repeat' first
    | with_reducible exact .refl _ _ | with_reducible assumption | ((try lift_lets -underBinder); intro x; first
    | (refine Within.cut 100931459392 s x ?_ ?_; (on_goal 1 => unfold x); (on_goal 2 => (intro hx; clear_value x)))
    | clear_value x) | with_reducible apply Within.ite | with_reducible refine Within.next ?_
    | with_reducible exact WithinR.fault _ _ _ | with_reducible apply WithinR.ite
    | (with_reducible apply Within.step (State.readRecord_in _ _ _); decide)
    | (with_reducible apply Within.step (State.updRs_in _ _); decide)
    | (with_reducible apply Within.step (State.setFld_in _ _ _ _); decide)
    | (with_reducible apply Within.step (State.rowHook_in _ _); decide)
    | (with_reducible apply Within.step (State.domOn_in _ _); decide) | split | dsimp -zeta only

theorem execBrownout_in (a0 a1 s) : WithinR 132070244348 s (execBrownout a0 a1 s) := by
  unfold execBrownout
  repeat' first
    | with_reducible exact .refl _ _ | with_reducible assumption | ((try lift_lets -underBinder); intro x; first
    | (refine Within.cut 132070244348 s x ?_ ?_; (on_goal 1 => unfold x); (on_goal 2 => (intro hx; clear_value x)))
    | clear_value x) | with_reducible apply Within.ite | with_reducible refine Within.next ?_
    | with_reducible exact WithinR.fault _ _ _ | with_reducible apply WithinR.ite
    | (with_reducible apply Within.step (State.poweredOff_in _); decide)
    | (with_reducible apply Within.step (State.showDip_in _ _ _ _ _); decide)
    | (with_reducible apply Within.step (State.updPw_in _ _); decide)
    | (with_reducible apply Within.step (State.logDip_in _ _ _ _ _); decide)
    | (with_reducible apply Within.step (State.setFld_in _ _ _ _); decide)
    | (with_reducible apply Within.step (State.deviceReset_in _ _ _); decide) | split | dsimp -zeta only

theorem execCreameryWatchdogExpiry_in (s) : WithinR 31133933504 s (execCreameryWatchdogExpiry s) := by
  unfold execCreameryWatchdogExpiry
  repeat' first
    | with_reducible exact .refl _ _ | with_reducible assumption | with_reducible apply Within.ite
    | with_reducible refine Within.next ?_ | with_reducible exact WithinR.fault _ _ _
    | with_reducible apply WithinR.ite
    | (with_reducible apply Within.step (State.creameryFault_in _ _ _); decide) | split

theorem execCriticalStateError_in (a0 s) : WithinR 31133933504 s (execCriticalStateError a0 s) := by
  unfold execCriticalStateError
  repeat' first
    | with_reducible exact .refl _ _ | with_reducible assumption | with_reducible apply Within.ite
    | with_reducible refine Within.next ?_ | with_reducible exact WithinR.fault _ _ _
    | with_reducible apply WithinR.ite
    | (with_reducible apply Within.step (State.creameryFault_in _ _ _); decide) | split

theorem execDomainResetComplete_in (s) : WithinR 99318749248 s (execDomainResetComplete s) := by
  unfold execDomainResetComplete
  repeat' first
    | with_reducible exact .refl _ _ | with_reducible assumption | ((try lift_lets -underBinder); intro x; first
    | (refine Within.cut 99318749248 s x ?_ ?_; (on_goal 1 => unfold x); (on_goal 2 => (intro hx; clear_value x)))
    | clear_value x) | with_reducible apply Within.ite | with_reducible refine Within.next ?_
    | with_reducible exact WithinR.fault _ _ _ | with_reducible apply WithinR.ite
    | (with_reducible apply Within.step (State.updUm_in _ _); decide)
    | (with_reducible apply Within.step (State.reply_in _ _ _ _ _); decide)
    | (with_reducible apply Within.step (State.domResetEnd_in _ _); decide)
    | (with_reducible apply Within.step (State.domResetStart_in _ _); decide) | split | dsimp -zeta only

theorem execFirmwareVerified_in (a0 s) : WithinR 29603403840 s (execFirmwareVerified a0 s) := by
  unfold execFirmwareVerified
  repeat' first
    | with_reducible exact .refl _ _ | with_reducible assumption | ((try lift_lets -underBinder); intro x; first
    | (refine Within.cut 29603403840 s x ?_ ?_; (on_goal 1 => unfold x); (on_goal 2 => (intro hx; clear_value x)))
    | clear_value x) | with_reducible apply Within.ite | with_reducible refine Within.next ?_
    | with_reducible exact WithinR.fault _ _ _ | with_reducible apply WithinR.ite
    | (with_reducible apply Within.step (State.setFld_in _ _ _ _); decide)
    | (with_reducible apply Within.step (State.pldmSend_in _ _ _); decide)
    | (with_reducible apply Within.step (State.evRs_in _ _); decide)
    | (with_reducible apply Within.step (State.updFlash_in _ _); decide)
    | (with_reducible apply Within.step (State.setImage_in _ _); decide)
    | (with_reducible apply Within.step (State.updRs_in _ _); decide)
    | (with_reducible apply Within.step (State.updSec_in _ _); decide)
    | (with_reducible apply Within.step (State.rtAll_in _); decide)
    | (with_reducible apply Within.step (State.imageTables_in _); decide) | split | dsimp -zeta only

theorem execHeldExit_in (s) : WithinR 26398953536 s (execHeldExit s) := by
  unfold execHeldExit
  repeat' first
    | with_reducible exact .refl _ _ | with_reducible assumption | ((try lift_lets -underBinder); intro x; first
    | (refine Within.cut 26398953536 s x ?_ ?_; (on_goal 1 => unfold x); (on_goal 2 => (intro hx; clear_value x)))
    | clear_value x) | with_reducible apply Within.ite | with_reducible refine Within.next ?_
    | with_reducible exact WithinR.fault _ _ _ | with_reducible apply WithinR.ite
    | (with_reducible apply Within.step (State.setMode_in _ _ _); decide)
    | (with_reducible apply Within.step (State.setFld_in _ _ _ _); decide)
    | (with_reducible apply Within.step (State.updRs_in _ _); decide) | split

theorem execPeerReset_in (a0 a1 s) : WithinR 26835163200 s (execPeerReset a0 a1 s) := by
  unfold execPeerReset
  repeat' first
    | with_reducible exact .refl _ _ | with_reducible assumption | with_reducible apply Within.ite
    | with_reducible refine Within.next ?_ | with_reducible exact WithinR.fault _ _ _
    | with_reducible apply WithinR.ite
    | refine Within.step (WithinP.out (State.mirrorRx_in _ _ _ _) (by assumption)) (by decide) ?_
    | (with_reducible apply Within.step (WithinP.fst (State.mirrorRx_in _ _ _ _)); decide)
    | (with_reducible apply Within.step (State.deviceReset_in _ _ _); decide) | split | dsimp -zeta only

theorem execPldmFirmwareData_in (a0 a1 s) : WithinR 8657043456 s (execPldmFirmwareData a0 a1 s) := by
  unfold execPldmFirmwareData
  repeat' first
    | with_reducible exact .refl _ _ | with_reducible assumption | ((try lift_lets -underBinder); intro x; first
    | (refine Within.cut 8657043456 s x ?_ ?_; (on_goal 1 => unfold x); (on_goal 2 => (intro hx; clear_value x)))
    | clear_value x) | with_reducible apply Within.ite | with_reducible refine Within.next ?_
    | with_reducible exact WithinR.fault _ _ _ | with_reducible apply WithinR.ite
    | (with_reducible apply Within.step (State.updRs_in _ _); decide)
    | (with_reducible apply Within.step (State.pldmSend_in _ _ _); decide) | split

theorem execReadyEntry_in (a0 s) : WithinR 26432507968 s (execReadyEntry a0 s) := by
  unfold execReadyEntry
  repeat' first
    | with_reducible exact .refl _ _ | with_reducible assumption | ((try lift_lets -underBinder); intro x; first
    | (refine Within.cut 26432507968 s x ?_ ?_; (on_goal 1 => unfold x); (on_goal 2 => (intro hx; clear_value x)))
    | clear_value x) | with_reducible apply Within.ite | with_reducible refine Within.next ?_
    | with_reducible exact WithinR.fault _ _ _ | with_reducible apply WithinR.ite
    | (with_reducible apply Within.step (State.updPw_in _ _); decide)
    | (with_reducible apply Within.step (State.setMode_in _ _ _); decide)
    | (with_reducible apply Within.step (State.seeFuseV_in _ _); decide)
    | (with_reducible apply Within.step (State.imageSet_in _ _); decide)
    | (with_reducible apply Within.step (State.updRs_in _ _); decide)
    | (with_reducible apply Within.step (State.lateRs_in _ _); decide)
    | (with_reducible apply Within.step (State.evRs_in _ _); decide)
    | (with_reducible refine Within.foldl _ (fun x y hx => ?_) ?_) | split

theorem execResetDomainDeviceStart_in (s) : WithinR 26835163200 s (execResetDomainDeviceStart s) := by
  unfold execResetDomainDeviceStart
  repeat' first
    | with_reducible exact .refl _ _ | with_reducible assumption | with_reducible apply Within.ite
    | with_reducible refine Within.next ?_ | with_reducible exact WithinR.fault _ _ _
    | with_reducible apply WithinR.ite | (with_reducible apply Within.step (State.deviceReset_in _ _ _); decide)
    | split | dsimp -zeta only

theorem execResetNAccepted_in (s) : WithinR 26835163200 s (execResetNAccepted s) := by
  unfold execResetNAccepted
  repeat' first
    | with_reducible exact .refl _ _ | with_reducible assumption | with_reducible apply Within.ite
    | with_reducible refine Within.next ?_ | with_reducible exact WithinR.fault _ _ _
    | with_reducible apply WithinR.ite | (with_reducible apply Within.step (State.updRs_in _ _); decide)
    | (with_reducible apply Within.step (State.deviceReset_in _ _ _); decide) | split

theorem execResetNRelease_in (s) : WithinR 25845305408 s (execResetNRelease s) := by
  unfold execResetNRelease
  repeat' first
    | with_reducible exact .refl _ _ | with_reducible assumption | with_reducible apply Within.ite
    | with_reducible refine Within.next ?_ | with_reducible exact WithinR.fault _ _ _
    | with_reducible apply WithinR.ite | (with_reducible apply Within.step (State.updRs_in _ _); decide)
    | (with_reducible apply Within.step (State.evRs_in _ _); decide)
    | (with_reducible apply Within.step (State.cnt_in _ _); decide) | split

theorem execResetSwitchesOpen_in (s) : WithinR 123446685632 s (execResetSwitchesOpen s) := by
  unfold execResetSwitchesOpen
  repeat' first
    | with_reducible exact .refl _ _ | with_reducible assumption | with_reducible apply Within.ite
    | with_reducible refine Within.next ?_ | with_reducible exact WithinR.fault _ _ _
    | with_reducible apply WithinR.ite | (with_reducible apply Within.step (State.switchedOff_in _); decide)
    | split | dsimp -zeta only

theorem execStrapComplete_in (a0 a1 a2 a3 s) : WithinR 26398953536 s (execStrapComplete a0 a1 a2 a3 s) := by
  unfold execStrapComplete
  repeat' first
    | with_reducible exact .refl _ _ | with_reducible assumption | ((try lift_lets -underBinder); intro x; first
    | (refine Within.cut 26398953536 s x ?_ ?_; (on_goal 1 => unfold x); (on_goal 2 => (intro hx; clear_value x)))
    | clear_value x) | with_reducible apply Within.ite | with_reducible refine Within.next ?_
    | with_reducible exact WithinR.fault _ _ _ | with_reducible apply WithinR.ite
    | (with_reducible apply Within.step (State.setFld_in _ _ _ _); decide)
    | (with_reducible apply Within.step (State.evRs_in _ _); decide)
    | (with_reducible apply Within.step (State.strapRole_in _ _); decide)
    | (with_reducible apply Within.step (State.wrW_in _ _ _); decide)
    | (with_reducible apply Within.step (State.updRs_in _ _); decide)
    | (with_reducible apply Within.step (State.setMode_in _ _ _); decide) | split

end Sys2Proof.Machine
end

