-- ==== Sys2Proof/Laws/InLog.lean ====
section
/-! SUPPORT. What the operations of Machine/Log.lean may change. -/

namespace Sys2Proof.Machine

set_option linter.unusedTactic false
set_option linter.unreachableTactic false

theorem State.logErrors_in (s a1 a2) : Within 25778196544 s (State.logErrors s a1 a2) := by
  unfold State.logErrors
  extract_lets hs x
  have h : Within 25778196544 s x := Within.step (WithinP.fst (State.storeErrors_in _ _ _)) (by decide) (.refl _ _)
  clear_value x
  exact Within.set_log (by decide) id h

theorem State.wrMark_in (s a1) : Within 64 s (State.wrMark s a1) := by
  unfold State.wrMark
  repeat' first
    | with_reducible exact .refl _ _ | with_reducible assumption | with_reducible apply Within.ite
    | (with_reducible apply Within.step (State.wrW_in _ _ _); decide) | split

theorem State.logAdvance_in (s a1) : Within 64 s (State.logAdvance s a1) := by
  unfold State.logAdvance
  repeat' first
    | with_reducible exact .refl _ _ | with_reducible assumption 
    | (with_reducible apply Within.step (State.wrW_in _ _ _); decide)

theorem execLogMark_in (a0 a1 s) : WithinR 16777280 s (execLogMark a0 a1 s) := by
  unfold execLogMark
  repeat' first
    | with_reducible exact .refl _ _ | with_reducible assumption | ((try lift_lets -underBinder); intro x; first
    | (refine Within.cut 16777280 s x ?_ ?_; (on_goal 1 => unfold x); (on_goal 2 => (intro hx; clear_value x)))
    | clear_value x) | with_reducible apply Within.ite | with_reducible refine Within.next ?_
    | with_reducible exact WithinR.fault _ _ _ | with_reducible apply WithinR.ite
    | (with_reducible refine State.umRun_in (by decide) ?_ ?_ <;> try beta_reduce)
    | (with_reducible apply Within.step (State.refuse_in _ _ _ _); decide)
    | (with_reducible apply Within.step (State.reply_in _ _ _ _ _); decide)
    | (with_reducible apply Within.step (State.logAdvance_in _ _); decide) | split

theorem execLogRead_in (a0 a1 s a3) : WithinR 25794973760 s (execLogRead a0 a1 s a3) := by
  unfold execLogRead
  repeat' first
    | with_reducible exact .refl _ _ | with_reducible assumption | ((try lift_lets -underBinder); intro x; first
    | (refine Within.cut 25794973760 s x ?_ ?_; (on_goal 1 => unfold x); (on_goal 2 => (intro hx; clear_value x)))
    | clear_value x) | with_reducible apply Within.ite | with_reducible refine Within.next ?_
    | with_reducible exact WithinR.fault _ _ _ | with_reducible apply WithinR.ite
    | (with_reducible refine State.umRun_in (by decide) ?_ ?_ <;> try beta_reduce)
    | (with_reducible apply Within.step (State.refuse_in _ _ _ _); decide)
    | (with_reducible apply Within.step (State.logErrors_in _ _ _); decide)
    | (with_reducible apply Within.step (State.reply_in _ _ _ _ _); decide) | split

theorem execLogQueueWrite_in (s) : WithinR 25778196544 s (execLogQueueWrite s) := by
  unfold execLogQueueWrite
  split
  · exact .next (.refl _ _)
  · rename_i w ws hq
    have key : ∀ (u : State) (l : TroubleLog), Within 25778196544 s u → l.queue = ws → Within 25778196544 s (u.setLog l) := by
      intro u l h e
      refine Within.set_log0 (by decide) (fun hs => ?_) h
      have h1 : logFill (w :: ws) = logFill [w] + logFill ws := logFill_append [w] ws
      have h2 : logFill s.log.queue ≤ 256 := hs
      rw [hq, h1] at h2
      rw [e]
      omega
    dsimp only
    split
    · have hu : Within 25778196544 s (s.logAdvance 1) := (State.logAdvance_in ..).mono (by decide)
      exact .next (Within.step (State.evUm_in ..) (by decide) (Within.step (State.setW1c_in ..) (by decide)
          (Within.step (State.cnt_in ..) (by decide) (key _ _ hu rfl))))
    · exact .next (key _ _ (.refl _ _) rfl)

theorem execLogRdseqWrite_in (a0 s) : WithinR 64 s (execLogRdseqWrite a0 s) := by
  unfold execLogRdseqWrite
  repeat' first
    | with_reducible exact .refl _ _ | with_reducible assumption  | with_reducible refine Within.next ?_
    | with_reducible exact WithinR.fault _ _ _
    | (with_reducible apply Within.step (State.wrMark_in _ _); decide)

theorem execRepairRecordWrite_in (a0 s) : WithinR 18253680704 s (execRepairRecordWrite a0 s) := by
  unfold execRepairRecordWrite
  repeat' first
    | with_reducible exact .refl _ _ | with_reducible assumption | ((try lift_lets -underBinder); intro x; first
    | (refine Within.cut 18253680704 s x ?_ ?_; (on_goal 1 => unfold x); (on_goal 2 => (intro hx; clear_value x)))
    | clear_value x) | with_reducible apply Within.ite | with_reducible refine Within.next ?_
    | with_reducible exact WithinR.fault _ _ _ | with_reducible apply WithinR.ite
    | (with_reducible apply Within.step (State.setRepairDue_in _ _); decide)
    | (with_reducible apply Within.step (State.logKind_in _ _ _); decide)
    | (with_reducible apply Within.step (State.updFlash_in _ _); decide) | split

end Sys2Proof.Machine
end

