-- ==== Sys2Proof/Laws/InBus.lean ====
section
/-! SUPPORT. What the operations of Machine/Bus.lean may change. -/

namespace Sys2Proof.Machine

set_option linter.unusedTactic false
set_option linter.unreachableTactic false

theorem State.latched_in (s a1 a2 a3 a4) : WithinP 512 s (State.latched s a1 a2 a3 a4) := by
  unfold State.latched
  repeat' first
    | with_reducible exact .refl _ _ | with_reducible assumption | ((try lift_lets -underBinder); intro x; first
    | (refine Within.cut 512 s x ?_ ?_; (on_goal 1 => unfold x); (on_goal 2 => (intro hx; clear_value x)))
    | clear_value x) | with_reducible apply Within.ite | with_reducible refine Within.pair ?_
    | with_reducible apply WithinP.ite | (with_reducible apply Within.step (State.setLatches_in _ _); decide)
    | split | dsimp -zeta only

theorem State.readClear_in (s a1 a2) : Within 64 s (State.readClear s a1 a2) := by
  unfold State.readClear
  repeat' first
    | with_reducible exact .refl _ _ | with_reducible assumption | with_reducible apply Within.ite
    | (with_reducible apply Within.step (State.wrW_in _ _ _); decide) | split

theorem State.takeLatch_in (s a1 a2 a3 a4) : Within 512 s (State.takeLatch s a1 a2 a3 a4) := by
  unfold State.takeLatch
  repeat' first
    | with_reducible exact .refl _ _ | with_reducible assumption | ((try lift_lets -underBinder); intro x; first
    | (refine Within.cut 512 s x ?_ ?_; (on_goal 1 => unfold x); (on_goal 2 => (intro hx; clear_value x)))
    | clear_value x) | with_reducible apply Within.ite
    | (with_reducible apply Within.step (State.setLatches_in _ _); decide) | split

theorem State.read32_in (s a1 a2) : WithinP 576 s (State.read32 s a1 a2) := by
  unfold State.read32
  repeat' first
    | with_reducible exact .refl _ _ | with_reducible assumption | ((try lift_lets -underBinder); intro x; first
    | (refine Within.cut 576 s x ?_ ?_; (on_goal 1 => unfold x); (on_goal 2 => (intro hx; clear_value x)))
    | ((first | (have _t : State → State := x) | (have _t : _ → State → State := x) | (have _t : _ → _ → State → State := x) | (have _t : _ → _ → State × Nat := x) | (have _t : State × Nat := x) | (have _t : State → Nat → State := x) | (have _t : _ → State := x)); clear _t; subst x; beta_reduce)
    | clear_value x) | with_reducible apply Within.ite | with_reducible refine Within.pair ?_
    | with_reducible apply WithinP.ite | (with_reducible apply Within.step (State.readClear_in _ _ _); decide)
    | (with_reducible apply Within.step (State.takeLatch_in _ _ _ _ _); decide)
    | refine Within.step (WithinP.out (State.latched_in _ _ _ _ _) (by assumption)) (by decide) ?_
    | (with_reducible apply WithinP.step (State.latched_in _ _ _ _ _); decide)
    | (with_reducible apply Within.step (WithinP.fst (State.latched_in _ _ _ _ _)); decide) | split
    | dsimp -zeta only

theorem State.read64_in (s a1 a2) : WithinP 576 s (State.read64 s a1 a2) := by
  unfold State.read64
  extract_lets two
  have h : WithinP 576 s two := by
    unfold two
    have h1 := State.read32_in s a1 a2
    generalize s.read32 a1 a2 = p at h1
    obtain ⟨u, lo⟩ := p
    have h2 := State.read32_in u a1 (a2 + 4)
    generalize hq : u.read32 a1 (a2 + 4) = q at h2
    obtain ⟨v, hi⟩ := q
    simp only [hq]
    exact Within.pair ((h1 _ _ rfl).trans (h2 _ _ rfl))
  clear_value two
  cases findReg a2 with
  | none => exact h
  | some x =>
    obtain ⟨r, ix⟩ := x
    exact .ite h (.ite (Within.pair ((State.setLatches_in ..).mono (by decide)))
      (.ite (Within.pair ((State.takeLatch_in ..).mono (by decide))) h))

theorem State.busRead_in (s a1 a2 a3) : WithinP 576 s (State.busRead s a1 a2 a3) := by
  unfold State.busRead
  repeat' first
    | with_reducible exact .refl _ _ | with_reducible assumption | with_reducible apply Within.ite
    | with_reducible refine Within.pair ?_ | with_reducible apply WithinP.ite
    | refine Within.step (WithinP.out (State.read64_in _ _ _) (by assumption)) (by decide) ?_
    | (with_reducible apply WithinP.step (State.read64_in _ _ _); decide)
    | (with_reducible apply Within.step (WithinP.fst (State.read64_in _ _ _)); decide)
    | refine Within.step (WithinP.out (State.read32_in _ _ _) (by assumption)) (by decide) ?_
    | (with_reducible apply WithinP.step (State.read32_in _ _ _); decide)
    | (with_reducible apply Within.step (WithinP.fst (State.read32_in _ _ _)); decide) | split

theorem State.dropHeld_in (s a1 a2) : Within 1024 s (State.dropHeld s a1 a2) := by
  unfold State.dropHeld
  repeat' first
    | with_reducible exact .refl _ _ | with_reducible assumption 
    | (with_reducible apply Within.step (State.setHeldWr_in _ _); decide)

theorem State.hookLink_in (s a1 a2 a3) : Within 30483238976 s (State.hookLink s a1 a2 a3) := by
  unfold State.hookLink
  repeat' first
    | with_reducible exact .refl _ _ | with_reducible assumption | with_reducible apply Within.ite
    | (with_reducible apply Within.step (State.alLoss_in _ _ _); decide)
    | (with_reducible apply Within.step (State.portRetrain_in _ _); decide)
    | (with_reducible apply Within.step (State.clLoss_in _ _); decide)
    | (with_reducible apply Within.step (State.rtAll_in _); decide) | split

theorem State.rqHead_in (s a1) : Within 64 s (State.rqHead s a1) := by
  unfold State.rqHead
  repeat' first
    | with_reducible exact .refl _ _ | with_reducible assumption | with_reducible apply Within.ite
    | (with_reducible apply Within.step (State.setFld_in _ _ _ _); decide) | split

theorem State.sqTail_in (s a1) : Within 25778196544 s (State.sqTail s a1) := by
  unfold State.sqTail
  repeat' first
    | with_reducible exact .refl _ _ | with_reducible assumption | with_reducible apply Within.ite
    | (with_reducible apply Within.step (State.evUm_in _ _); decide)
    | (with_reducible apply Within.step (State.setW1c_in _ _ _); decide)
    | (with_reducible apply Within.step (State.setFld_in _ _ _ _); decide) | split

theorem State.hookPw_in (s a1 a2 a3 a4) : Within 31063019840 s (State.hookPw s a1 a2 a3 a4) := by
  unfold State.hookPw
  repeat' first
    | with_reducible exact .refl _ _ | with_reducible assumption | ((try lift_lets -underBinder); intro x; first
    | (refine Within.cut 31063019840 s x ?_ ?_; (on_goal 1 => unfold x); (on_goal 2 => (intro hx; clear_value x)))
    | clear_value x) | with_reducible apply Within.ite
    | (with_reducible apply Within.step (State.setHvote33_in _ _); decide)
    | (with_reducible apply Within.step (State.askRestore_in _ _); decide)
    | (with_reducible apply Within.step (State.lockDebug_in _); decide)
    | (with_reducible apply Within.step (State.rngRetry_in _); decide)
    | (with_reducible apply Within.step (State.wrMark_in _ _); decide)
    | (with_reducible apply Within.step (State.resyncTwin_in _); decide)
    | (with_reducible apply Within.step (State.sendPeerReset_in _); decide)
    | (with_reducible apply Within.step (State.resetCarrier_in _ _); decide)
    | (with_reducible apply Within.step (State.sqTail_in _ _); decide)
    | (with_reducible apply Within.step (State.rqHead_in _ _); decide) | split

theorem State.hook_in (s a1 a2 a3 a4) : Within 31071395136 s (State.hook s a1 a2 a3 a4) := by
  unfold State.hook
  repeat' first
    | with_reducible exact .refl _ _ | with_reducible assumption | ((try lift_lets -underBinder); intro x; first
    | (refine Within.cut 31071395136 s x ?_ ?_; (on_goal 1 => unfold x); (on_goal 2 => (intro hx; clear_value x)))
    | clear_value x) | with_reducible apply Within.ite
    | (with_reducible apply Within.step (State.tlClrStr_in _); decide)
    | (with_reducible apply Within.step (State.tlInvalidate_in _); decide)
    | (with_reducible apply Within.step (State.evTl_in _ _); decide)
    | (with_reducible apply Within.step (State.refLost_in _); decide)
    | (with_reducible apply Within.step (State.wbSync_in _ _); decide)
    | (with_reducible apply Within.step (State.access_in _ _ _); decide)
    | (with_reducible apply Within.step (State.mirrorGen_in _ _ _); decide)
    | refine Within.step (WithinP.out (State.spareGo_in _ _) (by assumption)) (by decide) ?_
    | (with_reducible apply Within.step (WithinP.fst (State.spareGo_in _ _)); decide)
    | refine Within.step (WithinP.out (State.reinstate_in _ _ _) (by assumption)) (by decide) ?_
    | (with_reducible apply Within.step (WithinP.fst (State.reinstate_in _ _ _)); decide)
    | (with_reducible apply Within.step (State.rprReq_in _ _); decide)
    | (with_reducible apply Within.step (State.dmaCtrl_in _ _ _); decide)
    | (with_reducible apply Within.step (State.evInject_in _ _); decide)
    | (with_reducible apply Within.step (State.hookPw_in _ _ _ _ _); decide)
    | (with_reducible apply Within.step (State.hookLink_in _ _ _ _); decide) | split

theorem State.slCtrl_in (s a1 a2 a3) : Within 26047696960 s (State.slCtrl s a1 a2 a3) := by
  unfold State.slCtrl
  repeat' first
    | with_reducible exact .refl _ _ | with_reducible assumption | ((try lift_lets -underBinder); intro x; first
    | (refine Within.cut 26047696960 s x ?_ ?_; (on_goal 1 => unfold x); (on_goal 2 => (intro hx; clear_value x)))
    | clear_value x) | with_reducible apply Within.ite
    | (with_reducible apply Within.step (State.slFence_in _ _ _); decide)
    | (with_reducible apply Within.step (State.slKill_in _ _); decide) | split

theorem State.stageWrite_in (s a1 a2 a3 a4 a5) : Within 25929191744 s (State.stageWrite s a1 a2 a3 a4 a5) := by
  unfold State.stageWrite
  repeat' first
    | with_reducible exact .refl _ _ | with_reducible assumption | ((try lift_lets -underBinder); intro x; first
    | (refine Within.cut 25929191744 s x ?_ ?_; (on_goal 1 => unfold x); (on_goal 2 => (intro hx; clear_value x)))
    | clear_value x) | with_reducible apply Within.ite
    | (with_reducible apply Within.step (State.updUm_in _ _); decide)
    | (with_reducible apply Within.step (State.mirrorStaged_in _ _ _); decide)
    | (with_reducible apply Within.step (State.stage_in _ _ _); decide)
    | (with_reducible apply Within.step (State.evUm_in _ _); decide)
    | (with_reducible apply Within.step (State.cnt_in _ _); decide) | split

theorem State.wrBits_in (s a1 a2 a3 a4) : Within 31071395136 s (State.wrBits s a1 a2 a3 a4) := by
  unfold State.wrBits
  repeat' first
    | with_reducible exact .refl _ _ | with_reducible assumption | ((try lift_lets -underBinder); intro x; first
    | (refine Within.cut 31071395136 s x ?_ ?_; (on_goal 1 => unfold x); (on_goal 2 => (intro hx; clear_value x)))
    | clear_value x) | with_reducible apply Within.ite
    | (with_reducible apply Within.step (State.stageWrite_in _ _ _ _ _ _); decide)
    | (with_reducible apply Within.step (State.raiseAgain_in _ _ _ _); decide)
    | (with_reducible apply Within.step (State.wrW_in _ _ _); decide)
    | (with_reducible apply Within.step (State.slCtrl_in _ _ _ _); decide)
    | (with_reducible apply Within.step (State.hook_in _ _ _ _ _); decide) | split | dsimp -zeta only

theorem State.write32_in (s a1 a2 a3 a4) : Within 31071395136 s (State.write32 s a1 a2 a3 a4) := by
  unfold State.write32
  repeat' first
    | with_reducible exact .refl _ _ | with_reducible assumption | ((try lift_lets -underBinder); intro x; first
    | (refine Within.cut 31071395136 s x ?_ ?_; (on_goal 1 => unfold x); (on_goal 2 => (intro hx; clear_value x)))
    | clear_value x) | with_reducible apply Within.ite
    | (with_reducible apply Within.step (State.dropHeld_in _ _ _); decide)
    | (with_reducible apply Within.step (State.setHeldWr_in _ _); decide)
    | (with_reducible apply Within.step (State.wrBits_in _ _ _ _ _); decide) | split | dsimp -zeta only

theorem State.write64_in (s a1 a2 a3 a4) : Within 31071395136 s (State.write64 s a1 a2 a3 a4) := by
  unfold State.write64
  repeat' first
    | with_reducible exact .refl _ _ | with_reducible assumption | with_reducible apply Within.ite
    | (with_reducible apply Within.step (State.wrBits_in _ _ _ _ _); decide)
    | (with_reducible apply Within.step (State.dropHeld_in _ _ _); decide)
    | (with_reducible apply Within.step (State.write32_in _ _ _ _ _); decide) | split | dsimp -zeta only

theorem State.busWrite_in (s a1 a2 a3 a4 a5) : Within 31071395136 s (State.busWrite s a1 a2 a3 a4 a5) := by
  unfold State.busWrite
  repeat' first
    | with_reducible exact .refl _ _ | with_reducible assumption | with_reducible apply Within.ite
    | (with_reducible apply Within.step (State.write64_in _ _ _ _ _); decide)
    | (with_reducible apply Within.step (State.write32_in _ _ _ _ _); decide) | split

theorem execRegisterReadClear_in (a0 a1 s) : WithinR 8589935168 s (execRegisterReadClear a0 a1 s) := by
  unfold execRegisterReadClear
  repeat' first
    | with_reducible exact .refl _ _ | with_reducible assumption | with_reducible apply Within.ite
    | with_reducible refine Within.next ?_ | with_reducible exact WithinR.fault _ _ _
    | with_reducible apply WithinR.ite
    | refine Within.step (WithinP.out (State.read32_in _ _ _) (by assumption)) (by decide) ?_
    | (with_reducible apply Within.step (WithinP.fst (State.read32_in _ _ _)); decide)
    | (with_reducible apply Within.step (State.emit_in _ _); decide) | split | dsimp -zeta only

theorem execRegisterWrite_in (a0 a1 a2 a3 s) : WithinR 31071395136 s (execRegisterWrite a0 a1 a2 a3 s) := by
  unfold execRegisterWrite
  repeat' first
    | with_reducible exact .refl _ _ | with_reducible assumption | with_reducible apply Within.ite
    | with_reducible refine Within.next ?_ | with_reducible exact WithinR.fault _ _ _
    | with_reducible apply WithinR.ite
    | (with_reducible apply Within.step (State.busWrite_in _ _ _ _ _ _); decide) | split

theorem execUmCtrlReset_in (s) : WithinR 30492594496 s (execUmCtrlReset s) := by
  unfold execUmCtrlReset
  repeat' first
    | with_reducible exact .refl _ _ | with_reducible assumption | with_reducible apply Within.ite
    | with_reducible refine Within.next ?_ | with_reducible exact WithinR.fault _ _ _
    | with_reducible apply WithinR.ite | (with_reducible apply Within.step (State.resetCarrier_in _ _); decide)
    | split

theorem execUmRqHeadWrite_in (a0 s) : WithinR 64 s (execUmRqHeadWrite a0 s) := by
  unfold execUmRqHeadWrite
  repeat' first
    | with_reducible exact .refl _ _ | with_reducible assumption | with_reducible apply Within.ite
    | with_reducible refine Within.next ?_ | with_reducible exact WithinR.fault _ _ _
    | with_reducible apply WithinR.ite | (with_reducible apply Within.step (State.rqHead_in _ _); decide)
    | split

theorem execUmSqTailWrite_in (a0 s) : WithinR 25778196544 s (execUmSqTailWrite a0 s) := by
  unfold execUmSqTailWrite
  repeat' first
    | with_reducible exact .refl _ _ | with_reducible assumption | with_reducible apply Within.ite
    | with_reducible refine Within.next ?_ | with_reducible exact WithinR.fault _ _ _
    | with_reducible apply WithinR.ite | (with_reducible apply Within.step (State.sqTail_in _ _); decide)
    | split

end Sys2Proof.Machine
end

