-- ==== Sys2Proof/Laws/InEgress.lean ====
section
/-! SUPPORT. What the operations of Machine/Egress.lean may change. -/

namespace Sys2Proof.Machine

set_option linter.unusedTactic false
set_option linter.unreachableTactic false

theorem State.updEgress_in (s a1 a2) : Within 34359738368 s (State.updEgress s a1 a2) := by
  unfold State.updEgress
  repeat' first
    | with_reducible exact .refl _ _ | with_reducible assumption | ((try lift_lets -underBinder); intro x; first
    | (refine Within.cut 34359738368 s x ?_ ?_; (on_goal 1 => unfold x); (on_goal 2 => (intro hx; clear_value x)))
    | clear_value x)  | with_reducible refine Within.set_eg rfl ?_

theorem State.linkEgress_in (s a1) : Within 34359738368 s (State.linkEgress s a1) := by
  unfold State.linkEgress
  refine Within.ite ?_ (Within.ite (.refl _ _) (Within.ite (.refl _ _) (Within.step (State.updEgress_in ..) (by decide) (.refl _ _))))
  extract_lets e e' r x
  clear_value r
  have h : Within 34359738368 s x := Within.step (State.updEgress_in ..) (by decide) (.refl _ _)
  clear_value x
  exact Within.set_eg (by decide) h

theorem State.takeOuts_in (s a1) : Within 34359738368 s (State.takeOuts s a1) := by
  induction a1 generalizing s with
  | nil => exact .refl _ _
  | cons x l ih =>
    unfold State.takeOuts
    try dsimp -zeta only
    repeat' first
      | with_reducible exact .refl _ _ | with_reducible assumption 
      | (with_reducible apply Within.step (State.updEgress_in _ _ _); decide)
      | (with_reducible apply Within.step (ih _); decide) | split | dsimp -zeta only

theorem State.egressTick_in (s) : Within 42962255936 s (State.egressTick s) := by
  unfold State.egressTick
  refine Within.foldl _ (fun x y hx => Within.step (State.linkEgress_in _ _) (by decide) hx) ?_
  refine Within.foldl _ (fun x y hx => Within.step (State.idleLink_in _ _) (by decide) hx) ?_
  refine Within.set_eg (by decide) (Within.step (State.takeOuts_in _ _) (by decide) ?_)
  exact Within.foldl _ (fun x y hx => Within.step (State.bridgeTick_in _ _) (by decide) hx) (.refl _ _)

end Sys2Proof.Machine
end

