-- ==== Sys2Proof/Laws/InSleep.lean ====
section
/-! SUPPORT. What the operations of Machine/Sleep.lean may change. -/

namespace Sys2Proof.Machine

set_option linter.unusedTactic false
set_option linter.unreachableTactic false

theorem State.aborted_in (s a1 a2 a3) : Within 25778196544 s (State.aborted s a1 a2 a3) := by
  unfold State.aborted
  repeat' first
    | with_reducible exact .refl _ _ | with_reducible assumption | ((try lift_lets -underBinder); intro x; first
    | (refine Within.cut 25778196544 s x ?_ ?_; (on_goal 1 => unfold x); (on_goal 2 => (intro hx; clear_value x)))
    | clear_value x)  | (with_reducible apply Within.step (State.evPw_in _ _); decide)
    | (with_reducible apply Within.step (State.setFld_in _ _ _ _); decide)
    | (with_reducible apply Within.step (State.entryDone_in _ _ _ _ _); decide)

theorem State.coolerErrors_in (s a1) : WithinP 31133933504 s (State.coolerErrors s a1) := by
  unfold State.coolerErrors
  repeat' first
    | with_reducible exact .refl _ _ | with_reducible assumption | with_reducible apply Within.ite
    | with_reducible refine Within.pair ?_ | with_reducible apply WithinP.ite
    | refine Within.step (WithinP.out (State.storeErrors_in _ _ _) (by assumption)) (by decide) ?_
    | (with_reducible apply WithinP.step (State.storeErrors_in _ _ _); decide)
    | (with_reducible apply Within.step (WithinP.fst (State.storeErrors_in _ _ _)); decide)
    | (with_reducible apply Within.step (State.creameryFault_in _ _ _); decide) | split | dsimp -zeta only

theorem State.dozeHit_in (s a1 a2 a3) : Within 33554432 s (State.dozeHit s a1 a2 a3) := by
  unfold State.dozeHit
  repeat' first
    | with_reducible exact .refl _ _ | with_reducible assumption | with_reducible apply Within.ite
    | (with_reducible apply Within.step (State.raiseWake_in _ _ _); decide)
    | (with_reducible apply Within.step (State.updPw_in _ _); decide)
    | (with_reducible refine Within.foldl _ (fun x y hx => ?_) ?_) | split

theorem State.fallAsleep_in (s a1) : Within 99518504512 s (State.fallAsleep s a1) := by
  unfold State.fallAsleep
  repeat' first
    | with_reducible exact .refl _ _ | with_reducible assumption | ((try lift_lets -underBinder); intro x; first
    | (refine Within.cut 99518504512 s x ?_ ?_; (on_goal 1 => unfold x); (on_goal 2 => (intro hx; clear_value x)))
    | clear_value x) | with_reducible apply Within.ite
    | (with_reducible apply Within.step (State.lockDebug_in _); decide)
    | (with_reducible apply Within.step (State.entryDone_in _ _ _ _ _); decide)
    | (with_reducible apply Within.step (State.setMode_in _ _ _); decide)
    | (with_reducible apply Within.step (State.domOff_in _ _); decide)
    | (with_reducible apply Within.step (State.setHeldWr_in _ _); decide)
    | (with_reducible apply Within.step (State.setLatches_in _ _); decide)
    | (with_reducible apply Within.step (State.updUm_in _ _); decide)
    | (with_reducible apply Within.step (State.setLinks_in _ _); decide)
    | (with_reducible apply Within.step (State.setFld_in _ _ _ _); decide)
    | (with_reducible apply Within.step (State.updPw_in _ _); decide) | split

theorem State.latePw_in (s a1) : Within 25778196544 s (State.latePw s a1) := by
  induction a1 generalizing s with
  | nil => exact .refl _ _
  | cons x l ih =>
    unfold State.latePw
    try dsimp -zeta only
    repeat' first
      | with_reducible exact .refl _ _ | with_reducible assumption 
      | (with_reducible apply Within.step (State.evPw_in _ _); decide)
      | (with_reducible apply Within.step (ih _); decide) | split | dsimp -zeta only

theorem State.recordWake_in (s a1) : Within 64 s (State.recordWake s a1) := by
  unfold State.recordWake
  repeat' first
    | with_reducible exact .refl _ _ | with_reducible assumption | ((try lift_lets -underBinder); intro x; first
    | (refine Within.cut 64 s x ?_ ?_; (on_goal 1 => unfold x); (on_goal 2 => (intro hx; clear_value x)))
    | clear_value x) | with_reducible apply Within.ite
    | (with_reducible apply Within.step (State.setFld_in _ _ _ _); decide)
    | (with_reducible apply Within.step (State.wrW_in _ _ _); decide) | split

theorem State.secWake_in (s) : Within 99857715520 s (State.secWake s) := by
  unfold State.secWake
  repeat' first
    | with_reducible exact .refl _ _ | with_reducible assumption 
    | (with_reducible apply Within.step (State.secRelease_in _); decide)
    | (with_reducible apply Within.step (State.domOn_in _ _); decide)

theorem State.sleepTrip_in (s a1) : Within 99857715520 s (State.sleepTrip s a1) := by
  unfold State.sleepTrip
  repeat' first
    | with_reducible exact .refl _ _ | with_reducible assumption | ((try lift_lets -underBinder); intro x; first
    | (refine Within.cut 99857715520 s x ?_ ?_; (on_goal 1 => unfold x); (on_goal 2 => (intro hx; clear_value x)))
    | clear_value x)  | (with_reducible apply Within.step (State.secWake_in _); decide)
    | (with_reducible apply Within.step (State.setFld_in _ _ _ _); decide)
    | (with_reducible apply Within.step (State.enterQuarantine_in _ _ _ _); decide)

theorem State.stageWords_in (s a1) : Within 150995200 s (State.stageWords s a1) := by
  induction a1 generalizing s with
  | nil => exact .refl _ _
  | cons x l ih =>
    unfold State.stageWords
    try dsimp -zeta only
    repeat' first
      | with_reducible exact .refl _ _ | with_reducible assumption
      | ((try lift_lets -underBinder); intro x; first
      | (refine Within.cut 150995200 s x ?_ ?_; (on_goal 1 => unfold x); (on_goal 2 => (intro hx; clear_value x)))
      | clear_value x)  | (with_reducible apply Within.step (State.updUm_in _ _); decide)
      | (with_reducible apply Within.step (State.mirrorStaged_in _ _ _); decide)
      | (with_reducible apply Within.step (State.stage_in _ _ _); decide)
      | (with_reducible apply Within.step (ih _); decide) | split | dsimp -zeta only

theorem execDozeCfg_in (a0 a1 s) : WithinR 150995200 s (execDozeCfg a0 a1 s) := by
  unfold execDozeCfg
  repeat' first
    | with_reducible exact .refl _ _ | with_reducible assumption | with_reducible apply Within.ite
    | with_reducible refine Within.next ?_ | with_reducible exact WithinR.fault _ _ _
    | with_reducible apply WithinR.ite
    | (with_reducible refine State.umRun_in (by decide) ?_ ?_ <;> try beta_reduce)
    | (with_reducible apply Within.step (State.refuse_in _ _ _ _); decide)
    | (with_reducible apply Within.step (State.reply_in _ _ _ _ _); decide)
    | (with_reducible apply Within.step (State.stageWords_in _ _); decide) | split | dsimp -zeta only

theorem execAlarmWakeStart_in (a0 s) : WithinR 33554432 s (execAlarmWakeStart a0 s) := by
  unfold execAlarmWakeStart
  repeat' first
    | with_reducible exact .refl _ _ | with_reducible assumption | ((try lift_lets -underBinder); intro x; first
    | (refine Within.cut 33554432 s x ?_ ?_; (on_goal 1 => unfold x); (on_goal 2 => (intro hx; clear_value x)))
    | clear_value x) | with_reducible apply Within.ite | with_reducible refine Within.next ?_
    | with_reducible exact WithinR.fault _ _ _ | with_reducible apply WithinR.ite
    | (with_reducible apply Within.step (State.raiseWake_in _ _ _); decide) | split | dsimp -zeta only

theorem execAonComparatorThermal_in (a0 s) : WithinR 99857715520 s (execAonComparatorThermal a0 s) := by
  unfold execAonComparatorThermal
  repeat' first
    | with_reducible exact .refl _ _ | with_reducible assumption | with_reducible apply Within.ite
    | with_reducible refine Within.next ?_ | with_reducible exact WithinR.fault _ _ _
    | with_reducible apply WithinR.ite | (with_reducible apply Within.step (State.sleepTrip_in _ _); decide)
    | (with_reducible apply Within.step (State.raiseWake_in _ _ _); decide) | split

theorem execDomainEntryAbort_in (a0 a1 s) : WithinR 30123495488 s (execDomainEntryAbort a0 a1 s) := by
  unfold execDomainEntryAbort
  repeat' first
    | with_reducible exact .refl _ _ | with_reducible assumption | ((try lift_lets -underBinder); intro x; first
    | (refine Within.cut 30123495488 s x ?_ ?_; (on_goal 1 => unfold x); (on_goal 2 => (intro hx; clear_value x)))
    | clear_value x) | with_reducible apply Within.ite | with_reducible refine Within.next ?_
    | with_reducible exact WithinR.fault _ _ _ | with_reducible apply WithinR.ite
    | (with_reducible apply Within.step (State.recordWake_in _ _); decide)
    | (with_reducible apply Within.step (State.updPw_in _ _); decide)
    | (with_reducible apply Within.step (State.setTransit_in _ _); decide)
    | (with_reducible apply Within.step (State.aborted_in _ _ _ _); decide)
    | (with_reducible apply Within.step (State.cancelFinals_in _ _); decide)
    | (with_reducible apply Within.step (State.updUm_in _ _); decide) | split | dsimp -zeta only

theorem execDomainReleased_in (a0 s a2) : WithinR 99857637312 s (execDomainReleased a0 s a2) := by
  unfold execDomainReleased
  repeat' first
    | with_reducible exact .refl _ _ | with_reducible assumption | with_reducible apply Within.ite
    | with_reducible refine Within.next ?_ | with_reducible exact WithinR.fault _ _ _
    | with_reducible apply WithinR.ite
    | refine Within.step (WithinP.out (State.coolerErrors_in _ _) (by assumption)) (by decide) ?_
    | (with_reducible apply Within.step (WithinP.fst (State.coolerErrors_in _ _)); decide)
    | (with_reducible apply Within.step (State.domOn_in _ _); decide) | split

theorem execDozeSample_in (a0 a1 a2 a3 a4 s) : WithinR 99857715520 s (execDozeSample a0 a1 a2 a3 a4 s) := by
  unfold execDozeSample
  repeat' first
    | with_reducible exact .refl _ _ | with_reducible assumption | ((try lift_lets -underBinder); intro x; first
    | (refine Within.cut 99857715520 s x ?_ ?_; (on_goal 1 => unfold x); (on_goal 2 => (intro hx; clear_value x)))
    | clear_value x) | with_reducible apply Within.ite | with_reducible refine Within.next ?_
    | with_reducible exact WithinR.fault _ _ _ | with_reducible apply WithinR.ite
    | (with_reducible apply Within.step (State.setFld_in _ _ _ _); decide)
    | (with_reducible apply Within.step (State.updPw_in _ _); decide)
    | (with_reducible apply Within.step (State.sleepTrip_in _ _); decide)
    | (with_reducible apply Within.step (State.dozeHit_in _ _ _ _); decide) | split

theorem execGpioWake_in (a0 s) : WithinR 33554496 s (execGpioWake a0 s) := by
  unfold execGpioWake
  repeat' first
    | with_reducible exact .refl _ _ | with_reducible assumption | ((try lift_lets -underBinder); intro x; first
    | (refine Within.cut 33554496 s x ?_ ?_; (on_goal 1 => unfold x); (on_goal 2 => (intro hx; clear_value x)))
    | clear_value x) | with_reducible apply Within.ite | with_reducible refine Within.next ?_
    | with_reducible exact WithinR.fault _ _ _ | with_reducible apply WithinR.ite
    | (with_reducible apply Within.step (State.wrW_in _ _ _); decide)
    | (with_reducible apply Within.step (State.raiseWake_in _ _ _); decide) | split

theorem execInbandWake_in (a0 s) : WithinR 33554432 s (execInbandWake a0 s) := by
  unfold execInbandWake
  repeat' first
    | with_reducible exact .refl _ _ | with_reducible assumption | with_reducible apply Within.ite
    | with_reducible refine Within.next ?_ | with_reducible exact WithinR.fault _ _ _
    | with_reducible apply WithinR.ite | (with_reducible apply Within.step (State.raiseWake_in _ _ _); decide)
    | split | dsimp -zeta only

theorem execSidebandAddressMatch_in (a0 s) : WithinR 33554432 s (execSidebandAddressMatch a0 s) := by
  unfold execSidebandAddressMatch
  repeat' first
    | with_reducible exact .refl _ _ | with_reducible assumption | with_reducible apply Within.ite
    | with_reducible refine Within.next ?_ | with_reducible exact WithinR.fault _ _ _
    | with_reducible apply WithinR.ite | (with_reducible apply Within.step (State.raiseWake_in _ _ _); decide)
    | split

theorem execSleepEntry_in (s) : WithinR 99518504768 s (execSleepEntry s) := by
  unfold execSleepEntry
  repeat' first
    | with_reducible exact .refl _ _ | with_reducible assumption | ((try lift_lets -underBinder); intro x; first
    | (refine Within.cut 99518504768 s x ?_ ?_; (on_goal 1 => unfold x); (on_goal 2 => (intro hx; clear_value x)))
    | clear_value x) | with_reducible apply Within.ite | with_reducible refine Within.next ?_
    | with_reducible exact WithinR.fault _ _ _ | with_reducible apply WithinR.ite
    | (with_reducible apply Within.step (State.modeFinal_in _ _ _); decide)
    | (with_reducible apply Within.step (State.closeGen_in _); decide)
    | (with_reducible apply Within.step (State.updPw_in _ _); decide)
    | (with_reducible apply Within.step (State.fallAsleep_in _ _); decide) | split | dsimp -zeta only

theorem execWake_in (a0 s a2) : WithinR 102005202880 s (execWake a0 s a2) := by
  unfold execWake
  repeat' first
    | with_reducible exact .refl _ _ | with_reducible assumption | ((try lift_lets -underBinder); intro x; first
    | (refine Within.cut 102005202880 s x ?_ ?_; (on_goal 1 => unfold x); (on_goal 2 => (intro hx; clear_value x)))
    | clear_value x) | with_reducible apply Within.ite | with_reducible refine Within.next ?_
    | with_reducible exact WithinR.fault _ _ _ | with_reducible apply WithinR.ite
    | (with_reducible apply Within.step (State.updPw_in _ _); decide)
    | (with_reducible apply Within.step (State.recordWake_in _ _); decide)
    | (with_reducible apply Within.step (State.secWake_in _); decide)
    | (with_reducible apply Within.step (State.latePw_in _ _); decide)
    | (with_reducible apply Within.step (State.evPw_in _ _); decide)
    | refine Within.step (WithinP.out (State.coolerErrors_in _ _) (by assumption)) (by decide) ?_
    | (with_reducible apply Within.step (WithinP.fst (State.coolerErrors_in _ _)); decide)
    | (with_reducible apply Within.step (State.domOn_in _ _); decide)
    | (with_reducible apply Within.step (State.reloadTime_in _); decide)
    | (with_reducible apply Within.step (State.updSec_in _ _); decide)
    | (with_reducible apply Within.step (State.setImage_in _ _); decide)
    | (with_reducible apply Within.step (State.setMode_in _ _ _); decide) | split | dsimp -zeta only

end Sys2Proof.Machine
end

