-- ==== Sys2Proof/Laws/InSecurity.lean ====
section
/-! SUPPORT. What the operations of Machine/Security.lean may change. -/

namespace Sys2Proof.Machine

set_option linter.unusedTactic false
set_option linter.unreachableTactic false

theorem State.ceResult_in (s a1) : Within 25778196544 s (State.ceResult s a1) := by
  unfold State.ceResult
  repeat' first
    | with_reducible exact .refl _ _ | with_reducible assumption | with_reducible apply Within.ite
    | (with_reducible apply Within.step (State.evSec_in _ _); decide)
    | (with_reducible apply Within.step (State.cnt_in _ _); decide) | split

theorem State.fwFail_in (s a1 a2) : Within 30626811968 s (State.fwFail s a1 a2) := by
  unfold State.fwFail
  repeat' first
    | with_reducible exact .refl _ _ | with_reducible assumption | ((try lift_lets -underBinder); intro x; first
    | (refine Within.cut 30626811968 s x ?_ ?_; (on_goal 1 => unfold x); (on_goal 2 => (intro hx; clear_value x)))
    | clear_value x) | with_reducible apply Within.ite
    | (with_reducible apply Within.step (State.evSec_in _ _); decide)
    | (with_reducible apply Within.step (State.final_in _ _ _ _ _ _); decide)
    | (with_reducible apply Within.step (State.updSec_in _ _); decide) | split

theorem State.imageVerified_in (s a1 a2 a3) : Within 30626811968 s (State.imageVerified s a1 a2 a3) := by
  unfold State.imageVerified
  repeat' first
    | with_reducible exact .refl _ _ | with_reducible assumption | ((try lift_lets -underBinder); intro x; first
    | (refine Within.cut 30626811968 s x ?_ ?_; (on_goal 1 => unfold x); (on_goal 2 => (intro hx; clear_value x)))
    | clear_value x) | with_reducible apply Within.ite
    | (with_reducible apply Within.step (State.ceResult_in _ _); decide)
    | (with_reducible apply Within.step (State.updSec_in _ _); decide)
    | (with_reducible apply Within.step (State.fwFail_in _ _ _); decide)
    | (with_reducible apply Within.step (State.final_in _ _ _ _ _ _); decide) | split

theorem State.lcProgram_in (s a1 a2 a3 a4) : Within 536870912 s (State.lcProgram s a1 a2 a3 a4) := by
  unfold State.lcProgram
  repeat' first
    | with_reducible exact .refl _ _ | with_reducible assumption | ((try lift_lets -underBinder); intro x; first
    | (refine Within.cut 536870912 s x ?_ ?_; (on_goal 1 => unfold x); (on_goal 2 => (intro hx; clear_value x)))
    | clear_value x) | with_reducible apply Within.ite
    | refine Within.step (WithinQ.out (State.draw_in _ _) (by assumption)) (by decide) ?_
    | (with_reducible apply Within.step (WithinQ.snd (State.draw_in _ _)); decide)
    | (with_reducible apply Within.step (State.updSec_in _ _); decide) | split | dsimp -zeta only

theorem State.lcVerified_in (s a1 a2 a3) : Within 30896312384 s (State.lcVerified s a1 a2 a3) := by
  unfold State.lcVerified
  repeat' first
    | with_reducible exact .refl _ _ | with_reducible assumption | ((try lift_lets -underBinder); intro x; first
    | (refine Within.cut 30896312384 s x ?_ ?_; (on_goal 1 => unfold x); (on_goal 2 => (intro hx; clear_value x)))
    | clear_value x) | with_reducible apply Within.ite
    | (with_reducible apply Within.step (State.newNonce_in _); decide)
    | (with_reducible apply Within.step (State.ceResult_in _ _); decide)
    | (with_reducible apply Within.step (State.final_in _ _ _ _ _ _); decide)
    | (with_reducible apply Within.step (State.evSec_in _ _); decide)
    | (with_reducible apply Within.step (State.lcProgram_in _ _ _ _ _); decide)
    | (with_reducible apply Within.step (State.zeroize_in _ _); decide) | split | dsimp -zeta only

theorem State.unlockVerified_in (s a1 a2) : Within 30626811968 s (State.unlockVerified s a1 a2) := by
  unfold State.unlockVerified
  repeat' first
    | with_reducible exact .refl _ _ | with_reducible assumption | ((try lift_lets -underBinder); intro x; first
    | (refine Within.cut 30626811968 s x ?_ ?_; (on_goal 1 => unfold x); (on_goal 2 => (intro hx; clear_value x)))
    | clear_value x) | with_reducible apply Within.ite
    | (with_reducible apply Within.step (State.newNonce_in _); decide)
    | (with_reducible apply Within.step (State.ceResult_in _ _); decide)
    | (with_reducible apply Within.step (State.final_in _ _ _ _ _ _); decide)
    | (with_reducible apply Within.step (State.evSec_in _ _); decide)
    | (with_reducible apply Within.step (State.setDbg_in _ _); decide) | split

theorem State.fwCheck_in (s a1 a2) : Within 30626811968 s (State.fwCheck s a1 a2) := by
  unfold State.fwCheck
  repeat' first
    | with_reducible exact .refl _ _ | with_reducible assumption | ((try lift_lets -underBinder); intro x; first
    | (refine Within.cut 30626811968 s x ?_ ?_; (on_goal 1 => unfold x); (on_goal 2 => (intro hx; clear_value x)))
    | clear_value x) | with_reducible apply Within.ite
    | (with_reducible apply Within.step (State.fwFail_in _ _ _); decide)
    | (with_reducible apply Within.step (State.cePut_in _ _ _); decide) | split

theorem execDebugUnlock_in (a0 a1 s) : WithinR 553648128 s (execDebugUnlock a0 a1 s) := by
  unfold execDebugUnlock
  repeat' first
    | with_reducible exact .refl _ _ | with_reducible assumption | with_reducible apply Within.ite
    | with_reducible refine Within.next ?_ | with_reducible exact WithinR.fault _ _ _
    | with_reducible apply WithinR.ite
    | (with_reducible refine State.umRun_in (by decide) ?_ ?_ <;> try beta_reduce)
    | (with_reducible apply Within.step (State.refuse_in _ _ _ _); decide)
    | (with_reducible apply Within.step (State.cePut_in _ _ _); decide)
    | (with_reducible apply Within.step (State.accept_in _ _ _ _); decide) | split

theorem execFwActivate_in (a0 a1 s) : WithinR 30626811968 s (execFwActivate a0 a1 s) := by
  unfold execFwActivate
  repeat' first
    | with_reducible exact .refl _ _ | with_reducible assumption | with_reducible apply Within.ite
    | with_reducible refine Within.next ?_ | with_reducible exact WithinR.fault _ _ _
    | with_reducible apply WithinR.ite
    | (with_reducible refine State.umRun_in (by decide) ?_ ?_ <;> try beta_reduce)
    | (with_reducible apply Within.step (State.refuse_in _ _ _ _); decide)
    | (with_reducible apply Within.step (State.fwCheck_in _ _ _); decide)
    | (with_reducible apply Within.step (State.updSec_in _ _); decide)
    | (with_reducible apply Within.step (State.accept_in _ _ _ _); decide) | split

theorem execFwLoad_in (a0 a1 s) : WithinR 1090519040 s (execFwLoad a0 a1 s) := by
  unfold execFwLoad
  repeat' first
    | with_reducible exact .refl _ _ | with_reducible assumption | with_reducible apply Within.ite
    | with_reducible refine Within.next ?_ | with_reducible exact WithinR.fault _ _ _
    | with_reducible apply WithinR.ite
    | (with_reducible refine State.umRun_in (by decide) ?_ ?_ <;> try beta_reduce)
    | (with_reducible apply Within.step (State.refuse_in _ _ _ _); decide)
    | (with_reducible apply Within.step (State.reply_in _ _ _ _ _); decide)
    | (with_reducible apply Within.step (State.updFlash_in _ _); decide) | split

theorem execLcAdvance_in (a0 a1 a2 s) : WithinR 553648192 s (execLcAdvance a0 a1 a2 s) := by
  unfold execLcAdvance
  repeat' first
    | with_reducible exact .refl _ _ | with_reducible assumption | ((try lift_lets -underBinder); intro x; first
    | (refine Within.cut 553648192 s x ?_ ?_; (on_goal 1 => unfold x); (on_goal 2 => (intro hx; clear_value x)))
    | clear_value x) | with_reducible apply Within.ite | with_reducible refine Within.next ?_
    | with_reducible exact WithinR.fault _ _ _ | with_reducible apply WithinR.ite
    | (with_reducible refine State.umRun_in (by decide) ?_ ?_ <;> try beta_reduce)
    | (with_reducible apply Within.step (State.seeFuseV_in _ _); decide)
    | (with_reducible apply Within.step (State.refuse_in _ _ _ _); decide)
    | (with_reducible apply Within.step (State.cePut_in _ _ _); decide)
    | (with_reducible apply Within.step (State.accept_in _ _ _ _); decide) | split

theorem execSecStatus_in (a0 a1 s) : WithinR 16777216 s (execSecStatus a0 a1 s) := by
  unfold execSecStatus
  repeat' first
    | with_reducible exact .refl _ _ | with_reducible assumption | ((try lift_lets -underBinder); intro x; first
    | (refine Within.cut 16777216 s x ?_ ?_; (on_goal 1 => unfold x); (on_goal 2 => (intro hx; clear_value x)))
    | clear_value x)  | with_reducible refine Within.next ?_ | with_reducible exact WithinR.fault _ _ _
    | (with_reducible refine State.umRun_in (by decide) ?_ ?_ <;> try beta_reduce)
    | (with_reducible apply Within.step (State.reply_in _ _ _ _ _); decide)

theorem execSecZeroize_in (a0 a1 s) : WithinR 30896312384 s (execSecZeroize a0 a1 s) := by
  unfold execSecZeroize
  repeat' first
    | with_reducible exact .refl _ _ | with_reducible assumption | with_reducible apply Within.ite
    | with_reducible refine Within.next ?_ | with_reducible exact WithinR.fault _ _ _
    | with_reducible apply WithinR.ite
    | (with_reducible refine State.umRun_in (by decide) ?_ ?_ <;> try beta_reduce)
    | (with_reducible apply Within.step (State.refuse_in _ _ _ _); decide)
    | (with_reducible apply Within.step (State.reply_in _ _ _ _ _); decide)
    | (with_reducible apply Within.step (State.zeroize_in _ _); decide) | split

theorem execTamperCfg_in (a0 a1 s) : WithinR 150995200 s (execTamperCfg a0 a1 s) := by
  unfold execTamperCfg
  repeat' first
    | with_reducible exact .refl _ _ | with_reducible assumption | with_reducible apply Within.ite
    | with_reducible refine Within.next ?_ | with_reducible exact WithinR.fault _ _ _
    | with_reducible apply WithinR.ite
    | (with_reducible refine State.umRun_in (by decide) ?_ ?_ <;> try beta_reduce)
    | (with_reducible apply Within.step (State.refuse_in _ _ _ _); decide)
    | (with_reducible apply Within.step (State.reply_in _ _ _ _ _); decide)
    | (with_reducible apply Within.step (State.stageWords_in _ _); decide) | split | dsimp -zeta only

theorem execFuseProgrammingComplete_in (a0 a1 s) : WithinR 99857715520 s (execFuseProgrammingComplete a0 a1 s) := by
  unfold execFuseProgrammingComplete
  repeat' first
    | with_reducible exact .refl _ _ | with_reducible assumption | ((try lift_lets -underBinder); intro x; first
    | (refine Within.cut 99857715520 s x ?_ ?_; (on_goal 1 => unfold x); (on_goal 2 => (intro hx; clear_value x)))
    | clear_value x) | with_reducible apply Within.ite | with_reducible refine Within.next ?_
    | with_reducible exact WithinR.fault _ _ _ | with_reducible apply WithinR.ite
    | (with_reducible apply Within.step (State.updSec_in _ _); decide)
    | (with_reducible apply Within.step (State.setFld_in _ _ _ _); decide)
    | (with_reducible apply Within.step (State.evSec_in _ _); decide)
    | (with_reducible apply Within.step (State.final_in _ _ _ _ _ _); decide)
    | (with_reducible apply Within.step (State.tamperActs_in _ _); decide) | split | dsimp -zeta only

theorem execSecDbgCtrlLock_in (s) : WithinR 25778196544 s (execSecDbgCtrlLock s) := by
  unfold execSecDbgCtrlLock
  repeat' first
    | with_reducible exact .refl _ _ | with_reducible assumption | with_reducible apply Within.ite
    | with_reducible refine Within.next ?_ | with_reducible exact WithinR.fault _ _ _
    | with_reducible apply WithinR.ite | (with_reducible apply Within.step (State.lockDebug_in _); decide)
    | split

theorem execSlotBCopyComplete_in (s) : WithinR 31700553792 s (execSlotBCopyComplete s) := by
  unfold execSlotBCopyComplete
  repeat' first
    | with_reducible exact .refl _ _ | with_reducible assumption | ((try lift_lets -underBinder); intro x; first
    | (refine Within.cut 31700553792 s x ?_ ?_; (on_goal 1 => unfold x); (on_goal 2 => (intro hx; clear_value x)))
    | clear_value x)  | with_reducible refine Within.next ?_ | with_reducible exact WithinR.fault _ _ _
    | (with_reducible apply Within.step (State.updFlash_in _ _); decide)
    | (with_reducible apply Within.step (State.fwCheck_in _ _ _); decide)
    | (with_reducible apply Within.step (State.updSec_in _ _); decide) | split | dsimp -zeta only

theorem execTapInstruction_in (a0 s) : WithinR 536870912 s (execTapInstruction a0 s) := by
  unfold execTapInstruction
  repeat' first
    | with_reducible exact .refl _ _ | with_reducible assumption | with_reducible apply Within.ite
    | with_reducible refine Within.next ?_ | with_reducible exact WithinR.fault _ _ _
    | with_reducible apply WithinR.ite | (with_reducible apply Within.step (State.updSec_in _ _); decide)
    | split

end Sys2Proof.Machine
end

