-- ==== Sys2Proof/Laws/InWindows.lean ====
section
/-! SUPPORT. What the operations of Machine/Windows.lean may change. -/

namespace Sys2Proof.Machine

set_option linter.unusedTactic false
set_option linter.unreachableTactic false

theorem State.cplNat_in (s a1 a2 a3) : Within 8589934592 s (State.cplNat s a1 a2 a3) := by
  unfold State.cplNat
  repeat' first
    | with_reducible exact .refl _ _ | with_reducible assumption 
    | (with_reducible apply Within.step (State.emit_in _ _); decide)

theorem State.ringErrors_in (s a1 a2) : Within 25794973760 s (State.ringErrors s a1 a2) := by
  unfold State.ringErrors
  repeat' first
    | with_reducible exact .refl _ _ | with_reducible assumption | ((try lift_lets -underBinder); intro x; first
    | (refine Within.cut 25794973760 s x ?_ ?_; (on_goal 1 => unfold x); (on_goal 2 => (intro hx; clear_value x)))
    | clear_value x) 
    | refine Within.step (WithinP.out (State.storeErrors_in _ _ _) (by assumption)) (by decide) ?_
    | (with_reducible apply Within.step (WithinP.fst (State.storeErrors_in _ _ _)); decide)
    | (with_reducible apply Within.step (State.updUm_in _ _); decide)
    | (with_reducible refine Within.foldl _ (fun x y hx => ?_) ?_)

theorem State.ringRead_in (s a1 a2 a3 a4) : Within 25794973760 s (State.ringRead s a1 a2 a3 a4) := by
  unfold State.ringRead
  repeat' first
    | with_reducible exact .refl _ _ | with_reducible assumption | ((try lift_lets -underBinder); intro x; first
    | (refine Within.cut 25794973760 s x ?_ ?_; (on_goal 1 => unfold x); (on_goal 2 => (intro hx; clear_value x)))
    | clear_value x) | with_reducible apply Within.ite
    | (with_reducible apply Within.step (State.ringErrors_in _ _ _); decide)
    | (with_reducible apply Within.step (State.emit_in _ _); decide)
    | (with_reducible apply Within.step (State.aerUnc_in _ _ _ _); decide)
    | (with_reducible apply Within.step (State.cplNat_in _ _ _ _); decide) | split

theorem State.bar0Read_in (s a1 a2 a3 a4 a5) : Within 30224552512 s (State.bar0Read s a1 a2 a3 a4 a5) := by
  unfold State.bar0Read
  repeat' first
    | with_reducible exact .refl _ _ | with_reducible assumption | ((try lift_lets -underBinder); intro x; first
    | (refine Within.cut 30224552512 s x ?_ ?_; (on_goal 1 => unfold x); (on_goal 2 => (intro hx; clear_value x)))
    | clear_value x) | with_reducible apply Within.ite
    | (with_reducible apply Within.step (State.cplNat_in _ _ _ _); decide)
    | (with_reducible apply Within.step (State.logErrors_in _ _ _); decide)
    | (with_reducible apply Within.step (State.emit_in _ _); decide)
    | (with_reducible apply Within.step (State.hostUr_in _ _ _); decide)
    | (with_reducible apply Within.step (State.access_in _ _ _); decide)
    | (with_reducible apply Within.step (State.ringRead_in _ _ _ _ _); decide)
    | refine Within.step (WithinP.out (State.busRead_in _ _ _ _) (by assumption)) (by decide) ?_
    | (with_reducible apply Within.step (WithinP.fst (State.busRead_in _ _ _ _)); decide) | split
    | dsimp -zeta only

theorem State.ringWrite_in (s a1 a2 a3) : WithinP 25794973760 s (State.ringWrite s a1 a2 a3) := by
  unfold State.ringWrite
  repeat' first
    | with_reducible exact .refl _ _ | with_reducible assumption | ((try lift_lets -underBinder); intro x; first
    | (refine Within.cut 25794973760 s x ?_ ?_; (on_goal 1 => unfold x); (on_goal 2 => (intro hx; clear_value x)))
    | clear_value x) | with_reducible apply Within.ite | with_reducible refine Within.pair ?_
    | with_reducible apply WithinP.ite | (with_reducible apply Within.step (State.ringErrors_in _ _ _); decide)
    | (with_reducible apply Within.step (State.updUm_in _ _); decide)
    | (with_reducible apply Within.step (State.evUm_in _ _); decide)
    | (with_reducible apply Within.step (State.cnt_in _ _); decide) | split

theorem State.bar0Write_in (s a1 a2 a3 a4 a5) : Within 31071395136 s (State.bar0Write s a1 a2 a3 a4 a5) := by
  unfold State.bar0Write
  repeat' first
    | with_reducible exact .refl _ _ | with_reducible assumption | with_reducible apply Within.ite
    | (with_reducible apply Within.step (State.msixPut_in _ _ _ _ _); decide)
    | (with_reducible apply Within.step (State.windowWrite_in _ _ _ _ _ _); decide)
    | refine Within.step (WithinP.out (State.ringWrite_in _ _ _ _) (by assumption)) (by decide) ?_
    | (with_reducible apply Within.step (WithinP.fst (State.ringWrite_in _ _ _ _)); decide)
    | (with_reducible apply Within.step (State.aerUnc_in _ _ _ _); decide)
    | (with_reducible apply Within.step (State.busWrite_in _ _ _ _ _ _); decide) | split | dsimp -zeta only

theorem State.bar2Read_in (s a1 a2 a3 a4) : Within 8589935168 s (State.bar2Read s a1 a2 a3 a4) := by
  unfold State.bar2Read
  repeat' first
    | with_reducible exact .refl _ _ | with_reducible assumption | with_reducible apply Within.ite
    | refine Within.step (WithinP.out (State.busRead_in _ _ _ _) (by assumption)) (by decide) ?_
    | (with_reducible apply Within.step (WithinP.fst (State.busRead_in _ _ _ _)); decide)
    | (with_reducible apply Within.step (State.cplNat_in _ _ _ _); decide)
    | (with_reducible apply Within.step (State.emit_in _ _); decide) | split | dsimp -zeta only

theorem State.mboxWrite_in (s a1 a2 a3) : Within 2097152 s (State.mboxWrite s a1 a2 a3) := by
  unfold State.mboxWrite
  repeat' first
    | with_reducible exact .refl _ _ | with_reducible assumption | with_reducible apply Within.ite
    | (with_reducible apply Within.step (State.updSlice_in _ _ _); decide) | split

theorem State.slRegWrite_in (s a1 a2 a3 a4) : Within 25780293696 s (State.slRegWrite s a1 a2 a3 a4) := by
  unfold State.slRegWrite
  repeat' first
    | with_reducible exact .refl _ _ | with_reducible assumption | ((try lift_lets -underBinder); intro x; first
    | (refine Within.cut 25780293696 s x ?_ ?_; (on_goal 1 => unfold x); (on_goal 2 => (intro hx; clear_value x)))
    | ((first | (have _t : State → State := x) | (have _t : _ → State → State := x) | (have _t : _ → _ → State → State := x) | (have _t : _ → _ → State × Nat := x) | (have _t : State × Nat := x) | (have _t : State → Nat → State := x) | (have _t : _ → State := x)); clear _t; subst x; beta_reduce)
    | clear_value x) | with_reducible apply Within.ite
    | (with_reducible apply Within.step (State.setWin_in _ _ _ _); decide)
    | (with_reducible apply Within.step (State.wrW_in _ _ _); decide)
    | (with_reducible apply Within.step (State.dbin_in _ _ _); decide)
    | (with_reducible apply Within.step (State.dbout_in _ _); decide) | split

theorem State.bar2Write_in (s a1 a2 a3 a4) : Within 31071395136 s (State.bar2Write s a1 a2 a3 a4) := by
  unfold State.bar2Write
  repeat' first
    | with_reducible exact .refl _ _ | with_reducible assumption | with_reducible apply Within.ite
    | (with_reducible apply Within.step (State.busWrite_in _ _ _ _ _ _); decide)
    | (with_reducible apply Within.step (State.mboxWrite_in _ _ _ _); decide)
    | (with_reducible apply Within.step (State.slRegWrite_in _ _ _ _ _); decide) | split | dsimp -zeta only

theorem execBar0Access_in (a0 a1 a2 a3 a4 s a6) : WithinR 31071395648 s (execBar0Access a0 a1 a2 a3 a4 s a6) := by
  unfold execBar0Access
  repeat' first
    | with_reducible exact .refl _ _ | with_reducible assumption | ((try lift_lets -underBinder); intro x; first
    | (refine Within.cut 31071395648 s x ?_ ?_; (on_goal 1 => unfold x); (on_goal 2 => (intro hx; clear_value x)))
    | clear_value x) | with_reducible apply Within.ite | with_reducible refine Within.next ?_
    | with_reducible exact WithinR.fault _ _ _ | with_reducible apply WithinR.ite
    | (with_reducible apply Within.step (State.hostUr_in _ _ _); decide)
    | (with_reducible apply Within.step (State.bar0Write_in _ _ _ _ _ _); decide)
    | (with_reducible apply Within.step (State.bar0Read_in _ _ _ _ _ _); decide)
    | (with_reducible apply Within.step (State.cplNat_in _ _ _ _); decide) | split | dsimp -zeta only

theorem execBar2Access_in (a0 a1 a2 a3 a4 a5 s) : WithinR 31071395648 s (execBar2Access a0 a1 a2 a3 a4 a5 s) := by
  unfold execBar2Access
  repeat' first
    | with_reducible exact .refl _ _ | with_reducible assumption | ((try lift_lets -underBinder); intro x; first
    | (refine Within.cut 31071395648 s x ?_ ?_; (on_goal 1 => unfold x); (on_goal 2 => (intro hx; clear_value x)))
    | clear_value x) | with_reducible apply Within.ite | with_reducible refine Within.next ?_
    | with_reducible exact WithinR.fault _ _ _ | with_reducible apply WithinR.ite
    | (with_reducible apply Within.step (State.bar2Write_in _ _ _ _ _); decide)
    | (with_reducible apply Within.step (State.bar2Read_in _ _ _ _ _); decide)
    | (with_reducible apply Within.step (State.hostUr_in _ _ _); decide) | split

theorem execExpansionRomRead_in (a0 a1 a2 s) : WithinR 30073163840 s (execExpansionRomRead a0 a1 a2 s) := by
  unfold execExpansionRomRead
  repeat' first
    | with_reducible exact .refl _ _ | with_reducible assumption | with_reducible apply Within.ite
    | with_reducible refine Within.next ?_ | with_reducible exact WithinR.fault _ _ _
    | with_reducible apply WithinR.ite | (with_reducible apply Within.step (State.emit_in _ _); decide)
    | (with_reducible apply Within.step (State.hostUr_in _ _ _); decide) | split

end Sys2Proof.Machine
end

