-- ==== Sys2Proof/Laws/InUmConfig.lean ====
section
/-! SUPPORT. What the operations of Machine/UmConfig.lean may change. -/

namespace Sys2Proof.Machine

set_option linter.unusedTactic false
set_option linter.unreachableTactic false

theorem State.applyMgr_in (s) : Within 30492594496 s (State.applyMgr s) := by
  unfold State.applyMgr
  repeat' first
    | with_reducible exact .refl _ _ | with_reducible assumption | ((try lift_lets -underBinder); intro x; first
    | (refine Within.cut 30492594496 s x ?_ ?_; (on_goal 1 => unfold x); (on_goal 2 => (intro hx; clear_value x)))
    | clear_value x) | with_reducible apply Within.ite
    | (with_reducible apply Within.step (State.updUm_in _ _); decide)
    | (with_reducible apply Within.step (State.setFld_in _ _ _ _); decide)
    | (with_reducible apply Within.step (State.rtAll_in _); decide)
    | (with_reducible apply Within.step (State.resetCarrier_in _ _); decide) | split | dsimp -zeta only

theorem execGenDump_in (a0 a1 s) : WithinR 16777216 s (execGenDump a0 a1 s) := by
  unfold execGenDump
  repeat' first
    | with_reducible exact .refl _ _ | with_reducible assumption | ((try lift_lets -underBinder); intro x; first
    | (refine Within.cut 16777216 s x ?_ ?_; (on_goal 1 => unfold x); (on_goal 2 => (intro hx; clear_value x)))
    | clear_value x) | with_reducible apply Within.ite | with_reducible refine Within.next ?_
    | with_reducible exact WithinR.fault _ _ _ | with_reducible apply WithinR.ite
    | (with_reducible refine State.umRun_in (by decide) ?_ ?_ <;> try beta_reduce)
    | (with_reducible apply Within.step (State.refuse_in _ _ _ _); decide)
    | (with_reducible apply Within.step (State.reply_in _ _ _ _ _); decide) | split

theorem execGenStatus_in (a0 a1 s) : WithinR 16777216 s (execGenStatus a0 a1 s) := by
  unfold execGenStatus
  repeat' first
    | with_reducible exact .refl _ _ | with_reducible assumption | ((try lift_lets -underBinder); intro x; first
    | (refine Within.cut 16777216 s x ?_ ?_; (on_goal 1 => unfold x); (on_goal 2 => (intro hx; clear_value x)))
    | clear_value x)  | with_reducible refine Within.next ?_ | with_reducible exact WithinR.fault _ _ _
    | (with_reducible refine State.umRun_in (by decide) ?_ ?_ <;> try beta_reduce)
    | (with_reducible apply Within.step (State.reply_in _ _ _ _ _); decide) | split | dsimp -zeta only

theorem State.umPeek_in (s a1 a2 a3 a4 a5) : WithinP 25794974272 s (State.umPeek s a1 a2 a3 a4 a5) := by
  unfold State.umPeek
  repeat' first
    | with_reducible exact .refl _ _ | with_reducible assumption | ((try lift_lets -underBinder); intro x; first
    | (refine Within.cut 25794974272 s x ?_ ?_; (on_goal 1 => unfold x); (on_goal 2 => (intro hx; clear_value x)))
    | clear_value x) | with_reducible apply Within.ite | with_reducible refine Within.pair ?_
    | with_reducible apply WithinP.ite | (with_reducible apply Within.step (State.logErrors_in _ _ _); decide)
    | (with_reducible apply Within.step (State.ringErrors_in _ _ _); decide)
    | refine Within.step (WithinP.out (State.busRead_in _ _ _ _) (by assumption)) (by decide) ?_
    | (with_reducible apply WithinP.step (State.busRead_in _ _ _ _); decide)
    | (with_reducible apply Within.step (WithinP.fst (State.busRead_in _ _ _ _)); decide) | split
    | dsimp -zeta only

theorem State.umPeeks_in (s a1 a2 a3 a4 a5 a6) : WithinP 25794974272 s (State.umPeeks s a1 a2 a3 a4 a5 a6) := by
  induction a6 generalizing s a1 a2 a3 a4 a5 with
  | zero => exact Within.pair (.refl _ _)
  | succ n ih =>
    unfold State.umPeeks
    try dsimp -zeta only
    repeat' first
      | with_reducible exact .refl _ _ | with_reducible assumption  | with_reducible refine Within.pair ?_
      | refine Within.step (WithinP.out (State.umPeek_in _ _ _ _ _ _) (by assumption)) (by decide) ?_
      | (with_reducible apply WithinP.step (State.umPeek_in _ _ _ _ _ _); decide)
      | (with_reducible apply Within.step (WithinP.fst (State.umPeek_in _ _ _ _ _ _)); decide)
      | (with_reducible apply Within.step (ih _ _ _ _ _ _); decide)
      | (with_reducible apply WithinP.step (ih _ _ _ _ _ _); decide)
      | (with_reducible apply Within.step (WithinP.fst (ih _ _ _ _ _ _)); decide)
      | refine Within.step (WithinP.out (ih _ _ _ _ _ _) (by assumption)) (by decide) ?_ | split
      | dsimp -zeta only

theorem State.umWindowRead_in (s a1 a2 a3 a4 a5) : Within 30224552000 s (State.umWindowRead s a1 a2 a3 a4 a5) := by
  unfold State.umWindowRead
  repeat' first
    | with_reducible exact .refl _ _ | with_reducible assumption | ((try lift_lets -underBinder); intro x; first
    | (refine Within.cut 30224552000 s x ?_ ?_; (on_goal 1 => unfold x); (on_goal 2 => (intro hx; clear_value x)))
    | clear_value x) | with_reducible apply Within.ite
    | (with_reducible apply Within.step (State.refuse_in _ _ _ _); decide)
    | (with_reducible apply Within.step (State.access_in _ _ _); decide) | split

theorem execRegRead_in (a0 a1 s a3) : WithinR 30224552512 s (execRegRead a0 a1 s a3) := by
  unfold execRegRead
  repeat' first
    | with_reducible exact .refl _ _ | with_reducible assumption | ((try lift_lets -underBinder); intro x; first
    | (refine Within.cut 30224552512 s x ?_ ?_; (on_goal 1 => unfold x); (on_goal 2 => (intro hx; clear_value x)))
    | clear_value x) | with_reducible apply Within.ite | with_reducible refine Within.next ?_
    | with_reducible exact WithinR.fault _ _ _ | with_reducible apply WithinR.ite
    | (with_reducible refine State.umRun_in (by decide) ?_ ?_ <;> try beta_reduce)
    | (with_reducible apply Within.step (State.refuse_in _ _ _ _); decide)
    | (with_reducible apply Within.step (State.reply_in _ _ _ _ _); decide)
    | (with_reducible apply Within.step (State.umWindowRead_in _ _ _ _ _ _); decide)
    | refine Within.step (WithinP.out (State.umPeeks_in _ _ _ _ _ _ _) (by assumption)) (by decide) ?_
    | (with_reducible apply Within.step (WithinP.fst (State.umPeeks_in _ _ _ _ _ _ _)); decide) | split
    | dsimp -zeta only

theorem State.umPoke_in (s a1 a2 a3 a4 a5) : WithinP 31071395136 s (State.umPoke s a1 a2 a3 a4 a5) := by
  unfold State.umPoke
  repeat' first
    | with_reducible exact .refl _ _ | with_reducible assumption | with_reducible apply Within.ite
    | with_reducible refine Within.pair ?_ | with_reducible apply WithinP.ite
    | (with_reducible apply Within.step (State.msixPut_in _ _ _ _ _); decide)
    | refine Within.step (WithinP.out (State.ringWrite_in _ _ _ _) (by assumption)) (by decide) ?_
    | (with_reducible apply WithinP.step (State.ringWrite_in _ _ _ _); decide)
    | (with_reducible apply Within.step (WithinP.fst (State.ringWrite_in _ _ _ _)); decide)
    | (with_reducible apply Within.step (State.busWrite_in _ _ _ _ _ _); decide) | split | dsimp -zeta only

theorem State.umPokes_in (s a1 a2 a3 a4 a5) : WithinP 31071395136 s (State.umPokes s a1 a2 a3 a4 a5) := by
  induction a5 generalizing s a1 a2 a3 a4 with
  | nil => exact Within.pair (.refl _ _)
  | cons x l ih =>
    unfold State.umPokes
    try dsimp -zeta only
    repeat' first
      | with_reducible exact .refl _ _ | with_reducible assumption
      | ((try lift_lets -underBinder); intro x; first
      | (refine Within.cut 31071395136 s x ?_ ?_; (on_goal 1 => unfold x); (on_goal 2 => (intro hx; clear_value x)))
      | clear_value x)  | with_reducible refine Within.pair ?_
      | refine Within.step (WithinP.out (State.umPoke_in _ _ _ _ _ _) (by assumption)) (by decide) ?_
      | (with_reducible apply WithinP.step (State.umPoke_in _ _ _ _ _ _); decide)
      | (with_reducible apply Within.step (WithinP.fst (State.umPoke_in _ _ _ _ _ _)); decide)
      | (with_reducible apply Within.step (ih _ _ _ _ _); decide)
      | (with_reducible apply WithinP.step (ih _ _ _ _ _); decide)
      | (with_reducible apply Within.step (WithinP.fst (ih _ _ _ _ _)); decide)
      | refine Within.step (WithinP.out (ih _ _ _ _ _) (by assumption)) (by decide) ?_ | split
      | dsimp -zeta only

theorem State.umWindowWrite_in (s a1 a2 a3 a4 a5) : Within 30224552000 s (State.umWindowWrite s a1 a2 a3 a4 a5) := by
  unfold State.umWindowWrite
  repeat' first
    | with_reducible exact .refl _ _ | with_reducible assumption | ((try lift_lets -underBinder); intro x; first
    | (refine Within.cut 30224552000 s x ?_ ?_; (on_goal 1 => unfold x); (on_goal 2 => (intro hx; clear_value x)))
    | clear_value x) | with_reducible apply Within.ite
    | (with_reducible apply Within.step (State.refuse_in _ _ _ _); decide)
    | (with_reducible apply Within.step (State.access_in _ _ _); decide) | split

theorem execRegWrite_in (a0 a1 s a3) : WithinR 31071395136 s (execRegWrite a0 a1 s a3) := by
  unfold execRegWrite
  repeat' first
    | with_reducible exact .refl _ _ | with_reducible assumption | ((try lift_lets -underBinder); intro x; first
    | (refine Within.cut 31071395136 s x ?_ ?_; (on_goal 1 => unfold x); (on_goal 2 => (intro hx; clear_value x)))
    | clear_value x) | with_reducible apply Within.ite | with_reducible refine Within.next ?_
    | with_reducible exact WithinR.fault _ _ _ | with_reducible apply WithinR.ite
    | (with_reducible refine State.umRun_in (by decide) ?_ ?_ <;> try beta_reduce)
    | (with_reducible apply Within.step (State.refuse_in _ _ _ _); decide)
    | (with_reducible apply Within.step (State.reply_in _ _ _ _ _); decide)
    | (with_reducible apply Within.step (State.umWindowWrite_in _ _ _ _ _ _); decide)
    | refine Within.step (WithinP.out (State.umPokes_in _ _ _ _ _ _) (by assumption)) (by decide) ?_
    | (with_reducible apply Within.step (WithinP.fst (State.umPokes_in _ _ _ _ _ _)); decide) | split
    | dsimp -zeta only

theorem execIdentify_in (a0 a1 s) : WithinR 16777216 s (execIdentify a0 a1 s) := by
  unfold execIdentify
  repeat' first
    | with_reducible exact .refl _ _ | with_reducible assumption  | with_reducible refine Within.next ?_
    | with_reducible exact WithinR.fault _ _ _
    | (with_reducible refine State.umRun_in (by decide) ?_ ?_ <;> try beta_reduce)
    | (with_reducible apply Within.step (State.reply_in _ _ _ _ _); decide)

theorem execMgrLinkSet_in (a0 a1 s) : WithinR 16777216 s (execMgrLinkSet a0 a1 s) := by
  unfold execMgrLinkSet
  repeat' first
    | with_reducible exact .refl _ _ | with_reducible assumption | ((try lift_lets -underBinder); intro x; first
    | (refine Within.cut 16777216 s x ?_ ?_; (on_goal 1 => unfold x); (on_goal 2 => (intro hx; clear_value x)))
    | clear_value x) | with_reducible apply Within.ite | with_reducible refine Within.next ?_
    | with_reducible exact WithinR.fault _ _ _ | with_reducible apply WithinR.ite
    | (with_reducible refine State.umRun_in (by decide) ?_ ?_ <;> try beta_reduce)
    | (with_reducible apply Within.step (State.refuse_in _ _ _ _); decide)
    | (with_reducible apply Within.step (State.updUm_in _ _); decide)
    | (with_reducible apply Within.step (State.reply_in _ _ _ _ _); decide) | split

theorem execPing_in (a0 a1 s) : WithinR 16777216 s (execPing a0 a1 s) := by
  unfold execPing
  repeat' first
    | with_reducible exact .refl _ _ | with_reducible assumption  | with_reducible refine Within.next ?_
    | with_reducible exact WithinR.fault _ _ _
    | (with_reducible refine State.umRun_in (by decide) ?_ ?_ <;> try beta_reduce)
    | (with_reducible apply Within.step (State.reply_in _ _ _ _ _); decide)

theorem execRtRead_in (a0 a1 s) : WithinR 16777216 s (execRtRead a0 a1 s) := by
  unfold execRtRead
  repeat' first
    | with_reducible exact .refl _ _ | with_reducible assumption | ((try lift_lets -underBinder); intro x; first
    | (refine Within.cut 16777216 s x ?_ ?_; (on_goal 1 => unfold x); (on_goal 2 => (intro hx; clear_value x)))
    | clear_value x) | with_reducible apply Within.ite | with_reducible refine Within.next ?_
    | with_reducible exact WithinR.fault _ _ _ | with_reducible apply WithinR.ite
    | (with_reducible refine State.umRun_in (by decide) ?_ ?_ <;> try beta_reduce)
    | (with_reducible apply Within.step (State.refuse_in _ _ _ _); decide)
    | (with_reducible apply Within.step (State.reply_in _ _ _ _ _); decide) | split

theorem execTlAlarmSet_in (a0 a1 s) : WithinR 31071395136 s (execTlAlarmSet a0 a1 s) := by
  unfold execTlAlarmSet
  repeat' first
    | with_reducible exact .refl _ _ | with_reducible assumption | ((try lift_lets -underBinder); intro x; first
    | (refine Within.cut 31071395136 s x ?_ ?_; (on_goal 1 => unfold x); (on_goal 2 => (intro hx; clear_value x)))
    | clear_value x) | with_reducible apply Within.ite | with_reducible refine Within.next ?_
    | with_reducible exact WithinR.fault _ _ _ | with_reducible apply WithinR.ite
    | (with_reducible refine State.umRun_in (by decide) ?_ ?_ <;> try beta_reduce)
    | (with_reducible apply Within.step (State.refuse_in _ _ _ _); decide)
    | (with_reducible apply Within.step (State.busWrite_in _ _ _ _ _ _); decide)
    | (with_reducible apply Within.step (State.reply_in _ _ _ _ _); decide) | split

theorem execTlGet_in (a0 a1 s) : WithinR 16777216 s (execTlGet a0 a1 s) := by
  unfold execTlGet
  repeat' first
    | with_reducible exact .refl _ _ | with_reducible assumption  | with_reducible refine Within.next ?_
    | with_reducible exact WithinR.fault _ _ _
    | (with_reducible refine State.umRun_in (by decide) ?_ ?_ <;> try beta_reduce)
    | (with_reducible apply Within.step (State.reply_in _ _ _ _ _); decide)

theorem execTlSet_in (a0 a1 s) : WithinR 16779264 s (execTlSet a0 a1 s) := by
  unfold execTlSet
  repeat' first
    | with_reducible exact .refl _ _ | with_reducible assumption | ((try lift_lets -underBinder); intro x; first
    | (refine Within.cut 16779264 s x ?_ ?_; (on_goal 1 => unfold x); (on_goal 2 => (intro hx; clear_value x)))
    | clear_value x) | with_reducible apply Within.ite | with_reducible refine Within.next ?_
    | with_reducible exact WithinR.fault _ _ _ | with_reducible apply WithinR.ite
    | (with_reducible refine State.umRun_in (by decide) ?_ ?_ <;> try beta_reduce)
    | (with_reducible apply Within.step (State.refuse_in _ _ _ _); decide)
    | (with_reducible apply Within.step (State.updTk_in _ _); decide)
    | (with_reducible apply Within.step (State.accept_in _ _ _ _); decide) | split

end Sys2Proof.Machine
end

