-- ==== Sys2Proof/Laws/InStep.lean ====
section
/-! SUPPORT. What the operations of Machine/Step.lean may change. -/

namespace Sys2Proof.Machine

set_option linter.unusedTactic false
set_option linter.unreachableTactic false

theorem State.passTick_in (s) : Within 65426971006 s (State.passTick s) := by
  unfold State.passTick
  repeat' first
    | with_reducible exact .refl _ _ | with_reducible assumption 
    | (with_reducible apply Within.step (State.egressTick_in _); decide)
    | (with_reducible apply Within.step (State.applyMgr_in _); decide)
    | (with_reducible apply Within.step (State.shedCheck_in _); decide)
    | (with_reducible apply Within.step (State.freeTick_in _); decide)
    | (with_reducible apply Within.step (State.tickAll_in _); decide)

end Sys2Proof.Machine
end

