-- ==== Sys2Proof/Laws/InTdisp.lean ====
section
/-! SUPPORT. What the operations of Machine/Tdisp.lean may change. -/

namespace Sys2Proof.Machine

set_option linter.unusedTactic false
set_option linter.unreachableTactic false

theorem State.freeBytes_in (s a1) : WithinQ 4294967296 s (State.freeBytes s a1) := by
  induction a1 generalizing s with
  | zero => exact Within.pairQ (.refl _ _)
  | succ n ih =>
    unfold State.freeBytes
    try dsimp -zeta only
    repeat' first
      | with_reducible exact .refl _ _ | with_reducible assumption  | with_reducible refine Within.pairQ ?_
      | refine Within.step (WithinQ.out (State.takeFree_in _) (by assumption)) (by decide) ?_
      | (with_reducible apply WithinQ.step (State.takeFree_in _); decide)
      | (with_reducible apply Within.step (WithinQ.snd (State.takeFree_in _)); decide)
      | (with_reducible apply Within.step (ih _); decide) | (with_reducible apply WithinQ.step (ih _); decide)
      | (with_reducible apply Within.step (WithinQ.snd (ih _)); decide)
      | refine Within.step (WithinQ.out (ih _) (by assumption)) (by decide) ?_ | split | dsimp -zeta only

theorem State.ceDone_in (s a1 a2) : Within 30896312384 s (State.ceDone s a1 a2) := by
  unfold State.ceDone
  repeat' first
    | with_reducible exact .refl _ _ | with_reducible assumption | ((try lift_lets -underBinder); intro x; first
    | (refine Within.cut 30896312384 s x ?_ ?_; (on_goal 1 => unfold x); (on_goal 2 => (intro hx; clear_value x)))
    | clear_value x) | with_reducible apply Within.ite
    | (with_reducible apply Within.step (State.lcVerified_in _ _ _ _); decide)
    | (with_reducible apply Within.step (State.unlockVerified_in _ _ _); decide)
    | (with_reducible apply Within.step (State.imageVerified_in _ _ _ _); decide)
    | (with_reducible apply Within.step (State.ceResult_in _ _); decide)
    | (with_reducible apply Within.step (State.spdmError_in _ _ _ _); decide)
    | (with_reducible apply Within.step (State.updSec_in _ _); decide)
    | refine Within.step (WithinQ.out (State.freeBytes_in _ _) (by assumption)) (by decide) ?_
    | (with_reducible apply Within.step (WithinQ.snd (State.freeBytes_in _ _)); decide)
    | (with_reducible apply Within.step (State.spdmSend_in _ _ _ _); decide)
    | (with_reducible apply Within.step (State.updSpdm_in _ _ _); decide) | split | dsimp -zeta only

theorem State.keyExchange_in (s a1 a2 a3) : Within 13430161408 s (State.keyExchange s a1 a2 a3) := by
  unfold State.keyExchange
  repeat' first
    | with_reducible exact .refl _ _ | with_reducible assumption | ((try lift_lets -underBinder); intro x; first
    | (refine Within.cut 13430161408 s x ?_ ?_; (on_goal 1 => unfold x); (on_goal 2 => (intro hx; clear_value x)))
    | clear_value x) | with_reducible apply Within.ite
    | (with_reducible apply Within.step (State.spdmError_in _ _ _ _); decide)
    | (with_reducible apply Within.step (State.updSpdm_in _ _ _); decide)
    | refine Within.step (WithinQ.out (State.draw_in _ _) (by assumption)) (by decide) ?_
    | (with_reducible apply Within.step (WithinQ.snd (State.draw_in _ _)); decide)
    | refine Within.step (WithinQ.out (State.freeBytes_in _ _) (by assumption)) (by decide) ?_
    | (with_reducible apply Within.step (WithinQ.snd (State.freeBytes_in _ _)); decide)
    | (with_reducible apply Within.step (State.updSec_in _ _); decide)
    | (with_reducible apply Within.step (State.cePut_in _ _ _); decide) | split | dsimp -zeta only

theorem State.spdmTake_in (s a1) : Within 8388608 s (State.spdmTake s a1) := by
  unfold State.spdmTake
  repeat' first
    | with_reducible exact .refl _ _ | with_reducible assumption 
    | (with_reducible apply Within.step (State.updLink_in _ _ _); decide) | split | dsimp -zeta only

theorem State.pciRun_in {A : Nat} {x s : State} {src session m act} (hA : 8598323200 &&& A = 8598323200) (h0 : Within A x s)
    (hb : Within A x (act (s.spdmTake src))) : WithinR A x (State.pciRun s src session m act) := by
  unfold State.pciRun
  split
  · dsimp only
    split
    · exact .next hb
    · exact .next (Within.step (State.spdmError_in ..) hA (Within.step (State.spdmTake_in ..) (mask_trans (by decide) hA) h0))
  · exact .next h0

theorem State.pciSend_in (s a1 a2 a3 a4) : Within 8598323200 s (State.pciSend s a1 a2 a3 a4) := by
  unfold State.pciSend
  repeat' first
    | with_reducible exact .refl _ _ | with_reducible assumption 
    | (with_reducible apply Within.step (State.spdmSend_in _ _ _ _); decide)

theorem State.spdmServe_in (s a1 a2 a3 a4) : Within 13430161408 s (State.spdmServe s a1 a2 a3 a4) := by
  unfold State.spdmServe
  repeat' first
    | with_reducible exact .refl _ _ | with_reducible assumption | ((try lift_lets -underBinder); intro x; first
    | (refine Within.cut 13430161408 s x ?_ ?_; (on_goal 1 => unfold x); (on_goal 2 => (intro hx; clear_value x)))
    | clear_value x) | with_reducible apply Within.ite
    | (with_reducible apply Within.step (State.spdmSend_in _ _ _ _); decide)
    | (with_reducible apply Within.step (State.spdmError_in _ _ _ _); decide)
    | refine Within.step (WithinQ.out (State.draw_in _ _) (by assumption)) (by decide) ?_
    | (with_reducible apply Within.step (WithinQ.snd (State.draw_in _ _)); decide)
    | (with_reducible apply Within.step (State.cePut_in _ _ _); decide)
    | (with_reducible apply Within.step (State.keyExchange_in _ _ _ _); decide) | split | dsimp -zeta only

theorem State.spdmInside_in (s a1 a2 a3 a4) : Within 30610034752 s (State.spdmInside s a1 a2 a3 a4) := by
  unfold State.spdmInside
  repeat' first
    | with_reducible exact .refl _ _ | with_reducible assumption | ((try lift_lets -underBinder); intro x; first
    | (refine Within.cut 30610034752 s x ?_ ?_; (on_goal 1 => unfold x); (on_goal 2 => (intro hx; clear_value x)))
    | clear_value x) | with_reducible apply Within.ite
    | (with_reducible apply Within.step (State.spdmError_in _ _ _ _); decide)
    | (with_reducible apply Within.step (State.spdmSend_in _ _ _ _); decide)
    | (with_reducible apply Within.step (State.evSec_in _ _); decide)
    | (with_reducible apply Within.step (State.updSpdm_in _ _ _); decide)
    | (with_reducible apply Within.step (State.spdmServe_in _ _ _ _ _); decide) | split

theorem State.spdmSetup_in (s a1 a2 a3) : Within 13430161408 s (State.spdmSetup s a1 a2 a3) := by
  unfold State.spdmSetup
  repeat' first
    | with_reducible exact .refl _ _ | with_reducible assumption | ((try lift_lets -underBinder); intro x; first
    | (refine Within.cut 13430161408 s x ?_ ?_; (on_goal 1 => unfold x); (on_goal 2 => (intro hx; clear_value x)))
    | clear_value x) | with_reducible apply Within.ite
    | (with_reducible apply Within.step (State.updSpdm_in _ _ _); decide)
    | (with_reducible apply Within.step (State.spdmSend_in _ _ _ _); decide)
    | (with_reducible apply Within.step (State.spdmError_in _ _ _ _); decide)
    | refine Within.step (WithinQ.out (State.freeBytes_in _ _) (by assumption)) (by decide) ?_
    | (with_reducible apply Within.step (WithinQ.snd (State.freeBytes_in _ _)); decide) | split
    | dsimp -zeta only

theorem State.stopTdi_in (s a1 a2) : Within 26586665024 s (State.stopTdi s a1 a2) := by
  unfold State.stopTdi
  repeat' first
    | with_reducible exact .refl _ _ | with_reducible assumption | ((try lift_lets -underBinder); intro x; first
    | (refine Within.cut 26586665024 s x ?_ ?_; (on_goal 1 => unfold x); (on_goal 2 => (intro hx; clear_value x)))
    | clear_value x)  | (with_reducible apply Within.step (State.endChans_in _ _ _); decide)
    | (with_reducible apply Within.step (State.updSlice_in _ _ _); decide)
    | (with_reducible apply Within.step (State.setPend_in _ _ _); decide)
    | (with_reducible apply Within.step (State.wrW_in _ _ _); decide)
    | (with_reducible apply Within.step (State.updChan_in _ _ _); decide)
    | (with_reducible apply Within.step (State.updLink_in _ _ _); decide)
    | (with_reducible apply Within.step (State.setTdi_in _ _ _); decide)
    | (with_reducible apply Within.step (State.updSec_in _ _); decide)
    | (with_reducible refine Within.foldl _ (fun x y hx => ?_) ?_)

theorem State.tdispSend_in (s a1 a2 a3 a4 a5) : Within 8598323200 s (State.tdispSend s a1 a2 a3 a4 a5) := by
  unfold State.tdispSend
  repeat' first
    | with_reducible exact .refl _ _ | with_reducible assumption 
    | (with_reducible apply Within.step (State.pciSend_in _ _ _ _ _); decide)

theorem State.tdispErr_in (s a1 a2 a3 a4) : Within 8598323200 s (State.tdispErr s a1 a2 a3 a4) := by
  unfold State.tdispErr
  repeat' first
    | with_reducible exact .refl _ _ | with_reducible assumption 
    | (with_reducible apply Within.step (State.tdispSend_in _ _ _ _ _ _); decide)

theorem execCurveOperationComplete_in (a0 s) : WithinR 30896312384 s (execCurveOperationComplete a0 s) := by
  unfold execCurveOperationComplete
  repeat' first
    | with_reducible exact .refl _ _ | with_reducible assumption | with_reducible apply Within.ite
    | with_reducible refine Within.next ?_ | with_reducible exact WithinR.fault _ _ _
    | with_reducible apply WithinR.ite | (with_reducible apply Within.step (State.ceStart_in _); decide)
    | (with_reducible apply Within.step (State.ceDone_in _ _ _); decide)
    | (with_reducible apply Within.step (State.updSec_in _ _); decide) | split | dsimp -zeta only

theorem execGetDeviceInterfaceState_in (a0 a1 a2 a3 s) : WithinR 8598323200 s (execGetDeviceInterfaceState a0 a1 a2 a3 s) := by
  unfold execGetDeviceInterfaceState
  repeat' first
    | with_reducible exact .refl _ _ | with_reducible assumption  | with_reducible refine Within.next ?_
    | with_reducible exact WithinR.fault _ _ _
    | (with_reducible refine State.pciRun_in (by decide) ?_ ?_ <;> try beta_reduce)
    | (with_reducible apply Within.step (State.tdispErr_in _ _ _ _ _); decide)
    | (with_reducible apply Within.step (State.tdispSend_in _ _ _ _ _ _); decide)
    | (with_reducible apply Within.step (State.spdmTake_in _ _); decide) | split | dsimp -zeta only

theorem execIdeFail_in (a0 a1 s) : WithinR 30342664256 s (execIdeFail a0 a1 s) := by
  unfold execIdeFail
  repeat' first
    | with_reducible exact .refl _ _ | with_reducible assumption | with_reducible apply Within.ite
    | with_reducible refine Within.next ?_ | with_reducible exact WithinR.fault _ _ _
    | with_reducible apply WithinR.ite | (with_reducible apply Within.step (State.aerTlp_in _ _ _); decide)
    | (with_reducible apply Within.step (State.evSec_in _ _); decide)
    | (with_reducible apply Within.step (State.ideDown_in _ _ _); decide) | split

theorem execKSetGo_in (a0 a1 a2 a3 a4 a5 a6 s) : WithinR 25778196544 s (execKSetGo a0 a1 a2 a3 a4 a5 a6 s) := by
  unfold execKSetGo
  repeat' first
    | with_reducible exact .refl _ _ | with_reducible assumption | ((try lift_lets -underBinder); intro x; first
    | (refine Within.cut 25778196544 s x ?_ ?_; (on_goal 1 => unfold x); (on_goal 2 => (intro hx; clear_value x)))
    | clear_value x) | with_reducible apply Within.ite | with_reducible refine Within.next ?_
    | with_reducible exact WithinR.fault _ _ _ | with_reducible apply WithinR.ite
    | (with_reducible refine State.pciRun_in (by decide) ?_ ?_ <;> try beta_reduce)
    | (with_reducible apply Within.step (State.updIde_in _ _ _ _); decide)
    | (with_reducible apply Within.step (State.evSec_in _ _); decide)
    | (with_reducible apply Within.step (State.pciSend_in _ _ _ _ _); decide)
    | (with_reducible apply Within.step (State.spdmTake_in _ _); decide) | split

theorem execKSetStop_in (a0 a1 a2 a3 a4 a5 a6 s) : WithinR 26047696960 s (execKSetStop a0 a1 a2 a3 a4 a5 a6 s) := by
  unfold execKSetStop
  repeat' first
    | with_reducible exact .refl _ _ | with_reducible assumption | ((try lift_lets -underBinder); intro x; first
    | (refine Within.cut 26047696960 s x ?_ ?_; (on_goal 1 => unfold x); (on_goal 2 => (intro hx; clear_value x)))
    | clear_value x) | with_reducible apply Within.ite | with_reducible refine Within.next ?_
    | with_reducible exact WithinR.fault _ _ _ | with_reducible apply WithinR.ite
    | (with_reducible refine State.pciRun_in (by decide) ?_ ?_ <;> try beta_reduce)
    | (with_reducible apply Within.step (State.ideDown_in _ _ _); decide)
    | (with_reducible apply Within.step (State.updIde_in _ _ _ _); decide)
    | (with_reducible apply Within.step (State.pciSend_in _ _ _ _ _); decide)
    | (with_reducible apply Within.step (State.spdmTake_in _ _); decide) | split

theorem execKeyProg_in (a0 a1 a2 a3 a4 a5 a6 a7 s) : WithinR 8598323200 s (execKeyProg a0 a1 a2 a3 a4 a5 a6 a7 s) := by
  unfold execKeyProg
  repeat' first
    | with_reducible exact .refl _ _ | with_reducible assumption | ((try lift_lets -underBinder); intro x; first
    | (refine Within.cut 8598323200 s x ?_ ?_; (on_goal 1 => unfold x); (on_goal 2 => (intro hx; clear_value x)))
    | ((first | (have _t : State → State := x) | (have _t : _ → State → State := x) | (have _t : _ → _ → State → State := x) | (have _t : _ → _ → State × Nat := x) | (have _t : State × Nat := x) | (have _t : State → Nat → State := x) | (have _t : _ → State := x)); clear _t; subst x; beta_reduce)
    | clear_value x) | with_reducible apply Within.ite | with_reducible refine Within.next ?_
    | with_reducible exact WithinR.fault _ _ _ | with_reducible apply WithinR.ite
    | (with_reducible refine State.pciRun_in (by decide) ?_ ?_ <;> try beta_reduce)
    | (with_reducible apply Within.step (State.pciSend_in _ _ _ _ _); decide)
    | (with_reducible apply Within.step (State.updIde_in _ _ _ _); decide)
    | (with_reducible apply Within.step (State.spdmTake_in _ _); decide) | split

theorem execLockInterface_in (a0 a1 a2 a3 a4 s) : WithinR 26315067456 s (execLockInterface a0 a1 a2 a3 a4 s) := by
  unfold execLockInterface
  repeat' first
    | with_reducible exact .refl _ _ | with_reducible assumption | ((try lift_lets -underBinder); intro x; first
    | (refine Within.cut 26315067456 s x ?_ ?_; (on_goal 1 => unfold x); (on_goal 2 => (intro hx; clear_value x)))
    | clear_value x) | with_reducible apply Within.ite | with_reducible refine Within.next ?_
    | with_reducible exact WithinR.fault _ _ _ | with_reducible apply WithinR.ite
    | (with_reducible refine State.pciRun_in (by decide) ?_ ?_ <;> try beta_reduce)
    | (with_reducible apply Within.step (State.tdispErr_in _ _ _ _ _); decide)
    | refine Within.step (WithinQ.out (State.draw_in _ _) (by assumption)) (by decide) ?_
    | (with_reducible apply Within.step (WithinQ.snd (State.draw_in _ _)); decide)
    | (with_reducible apply Within.step (State.updSec_in _ _); decide)
    | (with_reducible apply Within.step (State.tdispSend_in _ _ _ _ _ _); decide)
    | (with_reducible apply Within.step (State.setTdi_in _ _ _); decide)
    | (with_reducible apply Within.step (State.spdmTake_in _ _); decide) | split | dsimp -zeta only

theorem execQuery_in (a0 a1 a2 a3 s) : WithinR 12893290496 s (execQuery a0 a1 a2 a3 s) := by
  unfold execQuery
  repeat' first
    | with_reducible exact .refl _ _ | with_reducible assumption  | with_reducible refine Within.next ?_
    | with_reducible exact WithinR.fault _ _ _
    | (with_reducible refine State.pciRun_in (by decide) ?_ ?_ <;> try beta_reduce)
    | refine Within.step (WithinQ.out (State.freeBytes_in _ _) (by assumption)) (by decide) ?_
    | (with_reducible apply Within.step (WithinQ.snd (State.freeBytes_in _ _)); decide)
    | (with_reducible apply Within.step (State.pciSend_in _ _ _ _ _); decide)
    | (with_reducible apply Within.step (State.spdmTake_in _ _); decide) | split | dsimp -zeta only

theorem execSpdmRequest_in (a0 a1 a2 s) : WithinR 30610034752 s (execSpdmRequest a0 a1 a2 s) := by
  unfold execSpdmRequest
  repeat' first
    | with_reducible exact .refl _ _ | with_reducible assumption | ((try lift_lets -underBinder); intro x; first
    | (refine Within.cut 30610034752 s x ?_ ?_; (on_goal 1 => unfold x); (on_goal 2 => (intro hx; clear_value x)))
    | clear_value x) | with_reducible apply Within.ite | with_reducible refine Within.next ?_
    | with_reducible exact WithinR.fault _ _ _ | with_reducible apply WithinR.ite
    | (with_reducible apply Within.step (State.spdmTake_in _ _); decide)
    | (with_reducible apply Within.step (State.spdmError_in _ _ _ _); decide)
    | (with_reducible apply Within.step (State.spdmInside_in _ _ _ _ _); decide)
    | (with_reducible apply Within.step (State.spdmSetup_in _ _ _ _); decide)
    | (with_reducible apply Within.step (State.spdmServe_in _ _ _ _ _); decide) | split | dsimp -zeta only

theorem execStartInterface_in (a0 a1 a2 a3 a4 s) : WithinR 26315067456 s (execStartInterface a0 a1 a2 a3 a4 s) := by
  unfold execStartInterface
  repeat' first
    | with_reducible exact .refl _ _ | with_reducible assumption | ((try lift_lets -underBinder); intro x; first
    | (refine Within.cut 26315067456 s x ?_ ?_; (on_goal 1 => unfold x); (on_goal 2 => (intro hx; clear_value x)))
    | clear_value x) | with_reducible apply Within.ite | with_reducible refine Within.next ?_
    | with_reducible exact WithinR.fault _ _ _ | with_reducible apply WithinR.ite
    | (with_reducible refine State.pciRun_in (by decide) ?_ ?_ <;> try beta_reduce)
    | (with_reducible apply Within.step (State.tdispErr_in _ _ _ _ _); decide)
    | (with_reducible apply Within.step (State.updSec_in _ _); decide)
    | (with_reducible apply Within.step (State.tdispSend_in _ _ _ _ _ _); decide)
    | (with_reducible apply Within.step (State.setTdi_in _ _ _); decide)
    | (with_reducible apply Within.step (State.spdmTake_in _ _); decide) | split | dsimp -zeta only

theorem execStopInterface_in (a0 a1 a2 a3 s) : WithinR 26586665024 s (execStopInterface a0 a1 a2 a3 s) := by
  unfold execStopInterface
  repeat' first
    | with_reducible exact .refl _ _ | with_reducible assumption  | with_reducible refine Within.next ?_
    | with_reducible exact WithinR.fault _ _ _
    | (with_reducible refine State.pciRun_in (by decide) ?_ ?_ <;> try beta_reduce)
    | (with_reducible apply Within.step (State.tdispErr_in _ _ _ _ _); decide)
    | (with_reducible apply Within.step (State.tdispSend_in _ _ _ _ _ _); decide)
    | (with_reducible apply Within.step (State.stopTdi_in _ _ _); decide)
    | (with_reducible apply Within.step (State.spdmTake_in _ _); decide) | split | dsimp -zeta only

end Sys2Proof.Machine
end

