-- ==== Sys2Proof/Laws/InUmger.lean ====
section
/-! SUPPORT. What the operations of Machine/Umger.lean may change. -/

namespace Sys2Proof.Machine

set_option linter.unusedTactic false
set_option linter.unreachableTactic false

theorem State.badPacket_in (s a1 a2 a3) : Within 25794973760 s (State.badPacket s a1 a2 a3) := by
  unfold State.badPacket
  repeat' first
    | with_reducible exact .refl _ _ | with_reducible assumption 
    | (with_reducible apply Within.step (State.refuseEcho_in _ _ _ _); decide)
    | (with_reducible apply Within.step (State.cnt_in _ _); decide)
    | (with_reducible apply Within.step (State.evUm_in _ _); decide)

theorem State.creameryErrors_in (s a1) : Within 25794973760 s (State.creameryErrors s a1) := by
  unfold State.creameryErrors
  repeat' first
    | with_reducible exact .refl _ _ | with_reducible assumption | with_reducible apply Within.ite
    | refine Within.step (WithinP.out (State.storeErrors_in _ _ _) (by assumption)) (by decide) ?_
    | (with_reducible apply Within.step (WithinP.fst (State.storeErrors_in _ _ _)); decide)
    | (with_reducible apply Within.step (State.updUm_in _ _); decide) | split | dsimp -zeta only

theorem State.ctlAnswer_in (s a1 a2 a3 a4 a5 a6) : Within 8589934592 s (State.ctlAnswer s a1 a2 a3 a4 a5 a6) := by
  unfold State.ctlAnswer
  repeat' first
    | with_reducible exact .refl _ _ | with_reducible assumption 
    | (with_reducible apply Within.step (State.emit_in _ _); decide)

theorem State.markReset_in (s a1) : Within 16777216 s (State.markReset s a1) := by
  unfold State.markReset
  repeat' first
    | with_reducible exact .refl _ _ | with_reducible assumption | with_reducible apply Within.ite
    | (with_reducible apply Within.step (State.updUm_in _ _); decide) | split

theorem State.postRing_in (s a1) : Within 25794973760 s (State.postRing s a1) := by
  unfold State.postRing
  repeat' first
    | with_reducible exact .refl _ _ | with_reducible assumption | ((try lift_lets -underBinder); intro x; first
    | (refine Within.cut 25794973760 s x ?_ ?_; (on_goal 1 => unfold x); (on_goal 2 => (intro hx; clear_value x)))
    | clear_value x) | with_reducible apply Within.ite
    | (with_reducible apply Within.step (State.evUm_in _ _); decide)
    | (with_reducible apply Within.step (State.setFld_in _ _ _ _); decide)
    | (with_reducible apply Within.step (State.updUm_in _ _); decide) | split

theorem State.postSide_in (s a1) : Within 12901679104 s (State.postSide s a1) := by
  unfold State.postSide
  repeat' first
    | with_reducible exact .refl _ _ | with_reducible assumption | ((try lift_lets -underBinder); intro x; first
    | (refine Within.cut 12901679104 s x ?_ ?_; (on_goal 1 => unfold x); (on_goal 2 => (intro hx; clear_value x)))
    | clear_value x) | with_reducible apply Within.ite
    | (with_reducible apply Within.step (State.updUm_in _ _); decide)
    | refine Within.step (WithinQ.out (State.takeFree_in _) (by assumption)) (by decide) ?_
    | (with_reducible apply Within.step (WithinQ.snd (State.takeFree_in _)); decide)
    | (with_reducible apply Within.step (State.emit_in _ _); decide) | split | dsimp -zeta only

theorem State.sidebandIn_in {A : Nat} {x s : State} {f} (hA : 33554432 &&& A = 33554432) (h0 : Within A x s)
    (hb : Within A x (f s)) : WithinR A x (State.sidebandIn s f) :=
  .next (.ite hb (Within.step (State.raiseWake_in ..) hA h0))

theorem State.umAl_in (s a1 a2 a3) : WithinR 30228435008 s (State.umAl s a1 a2 a3) := by
  unfold State.umAl
  repeat' first
    | with_reducible exact .refl _ _ | with_reducible assumption  | with_reducible refine Within.next ?_
    | with_reducible exact WithinR.fault _ _ _
    | (with_reducible apply WithinR.step (execAlRetrain_in _ _ _); decide)
    | (with_reducible apply WithinR.step (execAlStatus_in _ _ _); decide)
    | (with_reducible apply WithinR.step (execAlSpare_in _ _ _); decide)
    | (with_reducible apply WithinR.step (execAlCal_in _ _ _); decide)
    | (with_reducible apply WithinR.step (execAlLedger_in _ _ _); decide)
    | (with_reducible apply Within.step (State.refuseEcho_in _ _ _ _); decide) | split | dsimp -zeta only

theorem State.umDma_in (s a1 a2 a3) : WithinR 26198693696 s (State.umDma s a1 a2 a3) := by
  unfold State.umDma
  repeat' first
    | with_reducible exact .refl _ _ | with_reducible assumption  | with_reducible refine Within.next ?_
    | with_reducible exact WithinR.fault _ _ _
    | (with_reducible apply WithinR.step (execDmaWheelSet_in _ _ _); decide)
    | (with_reducible apply WithinR.step (execDmaOwnSet_in _ _ _); decide)
    | (with_reducible apply WithinR.step (execDmaStgqSet_in _ _ _); decide)
    | (with_reducible apply WithinR.step (execDmaChanRead_in _ _ _); decide)
    | (with_reducible apply WithinR.step (execDmaChanCtrl_in _ _ _); decide)
    | (with_reducible apply Within.step (State.refuseEcho_in _ _ _ _); decide) | split | dsimp -zeta only

theorem State.umGen_in (s a1 a2 a3 a4) : WithinR 31071395648 s (State.umGen s a1 a2 a3 a4) := by
  unfold State.umGen
  repeat' first
    | with_reducible exact .refl _ _ | with_reducible assumption  | with_reducible refine Within.next ?_
    | with_reducible exact WithinR.fault _ _ _
    | (with_reducible apply WithinR.step (execGenOpen_in _ _ _); decide)
    | (with_reducible apply WithinR.step (execGenAbort_in _ _ _); decide)
    | (with_reducible apply WithinR.step (execRegWrite_in _ _ _ _); decide)
    | (with_reducible apply WithinR.step (execRegRead_in _ _ _ _); decide)
    | (with_reducible apply WithinR.step (execCommitAt_in _ _ _); decide)
    | (with_reducible apply WithinR.step (execGenCancel_in _ _ _); decide)
    | (with_reducible apply WithinR.step (execGenStatus_in _ _ _); decide)
    | (with_reducible apply WithinR.step (execGenDump_in _ _ _); decide)
    | (with_reducible apply Within.step (State.refuseEcho_in _ _ _ _); decide) | split | dsimp -zeta only

theorem State.umIdent_in (s a1 a2 a3) : WithinR 16777216 s (State.umIdent s a1 a2 a3) := by
  unfold State.umIdent
  repeat' first
    | with_reducible exact .refl _ _ | with_reducible assumption  | with_reducible refine Within.next ?_
    | with_reducible exact WithinR.fault _ _ _
    | (with_reducible apply WithinR.step (execIdentify_in _ _ _); decide)
    | (with_reducible apply WithinR.step (execPing_in _ _ _); decide)
    | (with_reducible apply WithinR.step (execRtRead_in _ _ _); decide)
    | (with_reducible apply WithinR.step (execMgrLinkSet_in _ _ _); decide)
    | (with_reducible apply Within.step (State.refuseEcho_in _ _ _ _); decide) | split | dsimp -zeta only

theorem State.umLog_in (s a1 a2 a3 a4) : WithinR 31071395136 s (State.umLog s a1 a2 a3 a4) := by
  unfold State.umLog
  repeat' first
    | with_reducible exact .refl _ _ | with_reducible assumption  | with_reducible refine Within.next ?_
    | with_reducible exact WithinR.fault _ _ _
    | (with_reducible apply WithinR.step (execLogRead_in _ _ _ _); decide)
    | (with_reducible apply WithinR.step (execLogMark_in _ _ _); decide)
    | (with_reducible apply WithinR.step (execWorkReport_in _ _ _); decide)
    | (with_reducible apply WithinR.step (execEvRead_in _ _ _); decide)
    | (with_reducible apply WithinR.step (execEvClear_in _ _ _); decide)
    | (with_reducible apply WithinR.step (execRsCauseGet_in _ _ _); decide)
    | (with_reducible apply Within.step (State.refuseEcho_in _ _ _ _); decide) | split | dsimp -zeta only

theorem State.umPw_in (s a1 a2 a3) : WithinR 31064084800 s (State.umPw s a1 a2 a3) := by
  unfold State.umPw
  repeat' first
    | with_reducible exact .refl _ _ | with_reducible assumption  | with_reducible refine Within.next ?_
    | with_reducible exact WithinR.fault _ _ _
    | (with_reducible apply WithinR.step (execModeSet_in _ _ _); decide)
    | (with_reducible apply WithinR.step (execModeGet_in _ _ _); decide)
    | (with_reducible apply WithinR.step (execPwVote_in _ _ _); decide)
    | (with_reducible apply WithinR.step (execPwStatus_in _ _ _); decide)
    | (with_reducible apply WithinR.step (execDozeCfg_in _ _ _); decide)
    | (with_reducible apply Within.step (State.refuseEcho_in _ _ _ _); decide) | split | dsimp -zeta only

theorem execUmReset_in (a0 a1 s) : WithinR 30492594496 s (execUmReset a0 a1 s) := by
  unfold execUmReset
  repeat' first
    | with_reducible exact .refl _ _ | with_reducible assumption  | with_reducible refine Within.next ?_
    | with_reducible exact WithinR.fault _ _ _
    | (with_reducible refine State.umRun_in (by decide) ?_ ?_ <;> try beta_reduce)
    | (with_reducible apply Within.step (State.reply_in _ _ _ _ _); decide)
    | (with_reducible apply Within.step (State.setFld_in _ _ _ _); decide)
    | (with_reducible apply Within.step (State.resetCarrier_in _ _); decide)
    | (with_reducible apply Within.step (State.updUm_in _ _); decide)
    | (with_reducible apply Within.step (State.refuse_in _ _ _ _); decide) | split | dsimp -zeta only

theorem State.umRs_in (s a1 a2 a3) : WithinR 99217561920 s (State.umRs s a1 a2 a3) := by
  unfold State.umRs
  repeat' first
    | with_reducible exact .refl _ _ | with_reducible assumption  | with_reducible refine Within.next ?_
    | with_reducible exact WithinR.fault _ _ _
    | (with_reducible apply WithinR.step (execResetDomain_in _ _ _); decide)
    | (with_reducible apply WithinR.step (execUmReset_in _ _ _); decide)
    | (with_reducible apply Within.step (State.refuseEcho_in _ _ _ _); decide) | split | dsimp -zeta only

theorem State.umSec_in (s a1 a2 a3 a4) : WithinR 32104272192 s (State.umSec s a1 a2 a3 a4) := by
  unfold State.umSec
  repeat' first
    | with_reducible exact .refl _ _ | with_reducible assumption  | with_reducible refine Within.next ?_
    | with_reducible exact WithinR.fault _ _ _
    | (with_reducible apply WithinR.step (execSecStatus_in _ _ _); decide)
    | (with_reducible apply WithinR.step (execFwLoad_in _ _ _); decide)
    | (with_reducible apply WithinR.step (execFwActivate_in _ _ _); decide)
    | (with_reducible apply WithinR.step (execLcAdvance_in _ _ _ _); decide)
    | (with_reducible apply WithinR.step (execDebugUnlock_in _ _ _); decide)
    | (with_reducible apply WithinR.step (execSecZeroize_in _ _ _); decide)
    | (with_reducible apply WithinR.step (execTamperCfg_in _ _ _); decide)
    | (with_reducible apply Within.step (State.refuseEcho_in _ _ _ _); decide) | split | dsimp -zeta only

theorem State.umSl_in (s a1 a2 a3) : WithinR 26200789312 s (State.umSl s a1 a2 a3) := by
  unfold State.umSl
  repeat' first
    | with_reducible exact .refl _ _ | with_reducible assumption  | with_reducible refine Within.next ?_
    | with_reducible exact WithinR.fault _ _ _
    | (with_reducible apply WithinR.step (execSliceBind_in _ _ _); decide)
    | (with_reducible apply WithinR.step (execSliceUnbind_in _ _ _); decide)
    | (with_reducible apply WithinR.step (execSliceFence_in _ _ _); decide)
    | (with_reducible apply WithinR.step (execSliceKill_in _ _ _); decide)
    | (with_reducible apply WithinR.step (execMboxGet_in _ _ _); decide)
    | (with_reducible apply WithinR.step (execMboxPut_in _ _ _); decide)
    | (with_reducible apply WithinR.step (execSliceStatus_in _ _ _); decide)
    | (with_reducible apply Within.step (State.refuseEcho_in _ _ _ _); decide) | split | dsimp -zeta only

theorem State.umTl_in (s a1 a2 a3) : WithinR 31071395136 s (State.umTl s a1 a2 a3) := by
  unfold State.umTl
  repeat' first
    | with_reducible exact .refl _ _ | with_reducible assumption  | with_reducible refine Within.next ?_
    | with_reducible exact WithinR.fault _ _ _
    | (with_reducible apply WithinR.step (execTlSet_in _ _ _); decide)
    | (with_reducible apply WithinR.step (execTlGet_in _ _ _); decide)
    | (with_reducible apply WithinR.step (execTlAlarmSet_in _ _ _); decide)
    | (with_reducible apply Within.step (State.refuseEcho_in _ _ _ _); decide) | split | dsimp -zeta only

theorem State.umTw_in (s a1 a2 a3) : WithinR 26198691904 s (State.umTw s a1 a2 a3) := by
  unfold State.umTw
  repeat' first
    | with_reducible exact .refl _ _ | with_reducible assumption  | with_reducible refine Within.next ?_
    | with_reducible exact WithinR.fault _ _ _
    | (with_reducible apply WithinR.step (execTwRoleSet_in _ _ _); decide)
    | (with_reducible apply WithinR.step (execTwSwitchover_in _ _ _); decide)
    | (with_reducible apply WithinR.step (execTwStatus_in _ _ _); decide)
    | (with_reducible apply WithinR.step (execHerdAddrSet_in _ _ _); decide)
    | (with_reducible apply WithinR.step (execHerdStatus_in _ _ _); decide)
    | (with_reducible apply WithinR.step (execClCal_in _ _ _); decide)
    | (with_reducible apply Within.step (State.refuseEcho_in _ _ _ _); decide) | split | dsimp -zeta only

theorem State.umWb_in (s a1 a2 a3 a4) : WithinR 30225076288 s (State.umWb s a1 a2 a3 a4) := by
  unfold State.umWb
  repeat' first
    | with_reducible exact .refl _ _ | with_reducible assumption  | with_reducible refine Within.next ?_
    | with_reducible exact WithinR.fault _ _ _
    | (with_reducible apply WithinR.step (execWbWrite_in _ _ _ _); decide)
    | (with_reducible apply WithinR.step (execWbRead_in _ _ _ _); decide)
    | (with_reducible apply WithinR.step (execWbSync_in _ _ _); decide)
    | (with_reducible apply WithinR.step (execWbRestore_in _ _ _); decide)
    | (with_reducible apply WithinR.step (execSpareGo_in _ _ _); decide)
    | (with_reducible apply WithinR.step (execSpareReinstate_in _ _ _); decide)
    | (with_reducible apply WithinR.step (execChCounters_in _ _ _); decide)
    | (with_reducible apply Within.step (State.refuseEcho_in _ _ _ _); decide) | split | dsimp -zeta only

theorem State.umDispatch_in (s a1 a2 a3 a4 a5) : WithinR 100864614208 s (State.umDispatch s a1 a2 a3 a4 a5) := by
  unfold State.umDispatch
  repeat' first
    | with_reducible exact .refl _ _ | with_reducible assumption  | with_reducible refine Within.next ?_
    | with_reducible exact WithinR.fault _ _ _
    | (with_reducible apply WithinR.step (State.umIdent_in _ _ _ _); decide)
    | (with_reducible apply WithinR.step (State.umGen_in _ _ _ _ _); decide)
    | (with_reducible apply WithinR.step (State.umTl_in _ _ _ _); decide)
    | (with_reducible apply WithinR.step (State.umAl_in _ _ _ _); decide)
    | (with_reducible apply WithinR.step (State.umWb_in _ _ _ _ _); decide)
    | (with_reducible apply WithinR.step (State.umSl_in _ _ _ _); decide)
    | (with_reducible apply WithinR.step (State.umDma_in _ _ _ _); decide)
    | (with_reducible apply WithinR.step (State.umPw_in _ _ _ _); decide)
    | (with_reducible apply WithinR.step (State.umTw_in _ _ _ _); decide)
    | (with_reducible apply WithinR.step (State.umSec_in _ _ _ _ _); decide)
    | (with_reducible apply WithinR.step (State.umLog_in _ _ _ _ _); decide)
    | (with_reducible apply WithinR.step (State.umRs_in _ _ _ _); decide)
    | (with_reducible apply Within.step (State.refuseEcho_in _ _ _ _); decide) | split | dsimp -zeta only

theorem State.umExec_in (s a1 a2 a3 a4 a5) : WithinR 100864614208 s (State.umExec s a1 a2 a3 a4 a5) := by
  unfold State.umExec
  repeat' first
    | with_reducible exact .refl _ _ | with_reducible assumption | ((try lift_lets -underBinder); intro x; first
    | (refine Within.cut 100864614208 s x ?_ ?_; (on_goal 1 => unfold x); (on_goal 2 => (intro hx; clear_value x)))
    | clear_value x) | with_reducible apply Within.ite | with_reducible refine Within.next ?_
    | with_reducible exact WithinR.fault _ _ _ | with_reducible apply WithinR.ite
    | (with_reducible apply Within.step (State.badPacket_in _ _ _ _); decide)
    | (with_reducible apply WithinR.step (State.umDispatch_in _ _ _ _ _ _); decide) | split

theorem State.takeRing_in (s a1 a2 a3) : WithinR 100864614208 s (State.takeRing s a1 a2 a3) := by
  unfold State.takeRing
  repeat' first
    | with_reducible exact .refl _ _ | with_reducible assumption | ((try lift_lets -underBinder); intro x; first
    | (refine Within.cut 100864614208 s x ?_ ?_; (on_goal 1 => unfold x); (on_goal 2 => (intro hx; clear_value x)))
    | clear_value x) | with_reducible apply Within.ite | with_reducible refine Within.next ?_
    | with_reducible exact WithinR.fault _ _ _ | with_reducible apply WithinR.ite
    | (with_reducible apply Within.step (State.ringErrors_in _ _ _); decide)
    | (with_reducible apply Within.step (State.updUm_in _ _); decide)
    | (with_reducible apply Within.step (State.setFld_in _ _ _ _); decide)
    | (with_reducible apply Within.step (State.refuse_in _ _ _ _); decide)
    | (with_reducible apply WithinR.step (State.umExec_in _ _ _ _ _ _); decide) | split

theorem execGetEndpointId_in (a0 a1 a2 a3 s) : WithinR 8623489024 s (execGetEndpointId a0 a1 a2 a3 s) := by
  unfold execGetEndpointId
  repeat' first
    | with_reducible exact .refl _ _ | with_reducible assumption | with_reducible apply Within.ite
    | with_reducible refine Within.next ?_ | with_reducible exact WithinR.fault _ _ _
    | with_reducible apply WithinR.ite
    | (with_reducible refine State.sidebandIn_in (by decide) ?_ ?_ <;> try beta_reduce)
    | (with_reducible apply Within.step (State.ctlAnswer_in _ _ _ _ _ _ _); decide) | split

theorem execGetMctpVersionSupport_in (a0 a1 a2 a3 s) : WithinR 8623489024 s (execGetMctpVersionSupport a0 a1 a2 a3 s) := by
  unfold execGetMctpVersionSupport
  repeat' first
    | with_reducible exact .refl _ _ | with_reducible assumption | ((try lift_lets -underBinder); intro x; first
    | (refine Within.cut 8623489024 s x ?_ ?_; (on_goal 1 => unfold x); (on_goal 2 => (intro hx; clear_value x)))
    | clear_value x) | with_reducible apply Within.ite | with_reducible refine Within.next ?_
    | with_reducible exact WithinR.fault _ _ _ | with_reducible apply WithinR.ite
    | (with_reducible refine State.sidebandIn_in (by decide) ?_ ?_ <;> try beta_reduce)
    | (with_reducible apply Within.step (State.ctlAnswer_in _ _ _ _ _ _ _); decide) | split

theorem execGetMessageTypeSupport_in (a0 a1 a2 a3 s) : WithinR 8623489024 s (execGetMessageTypeSupport a0 a1 a2 a3 s) := by
  unfold execGetMessageTypeSupport
  repeat' first
    | with_reducible exact .refl _ _ | with_reducible assumption | with_reducible apply Within.ite
    | with_reducible refine Within.next ?_ | with_reducible exact WithinR.fault _ _ _
    | with_reducible apply WithinR.ite
    | (with_reducible refine State.sidebandIn_in (by decide) ?_ ?_ <;> try beta_reduce)
    | (with_reducible apply Within.step (State.ctlAnswer_in _ _ _ _ _ _ _); decide) | split

theorem execGetVendorDefinedMessageSupport_in (a0 a1 a2 a3 s) : WithinR 8623489024 s (execGetVendorDefinedMessageSupport a0 a1 a2 a3 s) := by
  unfold execGetVendorDefinedMessageSupport
  repeat' first
    | with_reducible exact .refl _ _ | with_reducible assumption | with_reducible apply Within.ite
    | with_reducible refine Within.next ?_ | with_reducible exact WithinR.fault _ _ _
    | with_reducible apply WithinR.ite
    | (with_reducible refine State.sidebandIn_in (by decide) ?_ ?_ <;> try beta_reduce)
    | (with_reducible apply Within.step (State.ctlAnswer_in _ _ _ _ _ _ _); decide) | split

theorem execMctpMessage_in (a0 a1 a2 s) : WithinR 25828528192 s (execMctpMessage a0 a1 a2 s) := by
  unfold execMctpMessage
  repeat' first
    | with_reducible exact .refl _ _ | with_reducible assumption | ((try lift_lets -underBinder); intro x; first
    | (refine Within.cut 25828528192 s x ?_ ?_; (on_goal 1 => unfold x); (on_goal 2 => (intro hx; clear_value x)))
    | clear_value x) | with_reducible apply Within.ite | with_reducible refine Within.next ?_
    | with_reducible exact WithinR.fault _ _ _ | with_reducible apply WithinR.ite
    | (with_reducible refine State.sidebandIn_in (by decide) ?_ ?_ <;> try beta_reduce)
    | (with_reducible apply Within.step (State.evUm_in _ _); decide)
    | (with_reducible apply Within.step (State.refuse_in _ _ _ _); decide)
    | (with_reducible apply Within.step (State.updUm_in _ _); decide) | split

theorem execSetEndpointId_in (a0 a1 a2 a3 s) : WithinR 8640266240 s (execSetEndpointId a0 a1 a2 a3 s) := by
  unfold execSetEndpointId
  repeat' first
    | with_reducible exact .refl _ _ | with_reducible assumption | with_reducible apply Within.ite
    | with_reducible refine Within.next ?_ | with_reducible exact WithinR.fault _ _ _
    | with_reducible apply WithinR.ite
    | (with_reducible refine State.sidebandIn_in (by decide) ?_ ?_ <;> try beta_reduce)
    | (with_reducible apply Within.step (State.ctlAnswer_in _ _ _ _ _ _ _); decide)
    | (with_reducible apply Within.step (State.updUm_in _ _); decide) | split

theorem execUmPacketExecute_in (a0 s a2) : WithinR 100864614208 s (execUmPacketExecute a0 s a2) := by
  unfold execUmPacketExecute
  repeat' first
    | with_reducible exact .refl _ _ | with_reducible assumption | ((try lift_lets -underBinder); intro x; first
    | (refine Within.cut 100864614208 s x ?_ ?_; (on_goal 1 => unfold x); (on_goal 2 => (intro hx; clear_value x)))
    | clear_value x) | with_reducible apply Within.ite | with_reducible refine Within.next ?_
    | with_reducible exact WithinR.fault _ _ _ | with_reducible apply WithinR.ite
    | (with_reducible apply Within.step (State.creameryErrors_in _ _); decide)
    | (with_reducible apply WithinR.step (State.takeRing_in _ _ _ _); decide)
    | (with_reducible apply Within.step (State.updUm_in _ _); decide)
    | (with_reducible apply WithinR.step (State.umExec_in _ _ _ _ _ _); decide) | split | dsimp -zeta only

theorem execUmReplyPost_in (a0 s) : WithinR 30089941056 s (execUmReplyPost a0 s) := by
  unfold execUmReplyPost
  repeat' first
    | with_reducible exact .refl _ _ | with_reducible assumption | ((try lift_lets -underBinder); intro x; first
    | (refine Within.cut 30089941056 s x ?_ ?_; (on_goal 1 => unfold x); (on_goal 2 => (intro hx; clear_value x)))
    | clear_value x) | with_reducible apply Within.ite | with_reducible refine Within.next ?_
    | with_reducible exact WithinR.fault _ _ _ | with_reducible apply WithinR.ite
    | (with_reducible apply Within.step (State.postRing_in _ _); decide)
    | (with_reducible apply Within.step (State.markReset_in _ _); decide)
    | (with_reducible apply Within.step (State.postSide_in _ _); decide) | split | dsimp -zeta only

end Sys2Proof.Machine
end

