-- ==== Sys2Proof/Laws/State.lean ====
section
/-! SUPPORT. What each basic update of the state leaves: one lemma for each field and update. -/

namespace Sys2Proof.Machine

@[simp] theorem State.wrW_pending (s a1 a2) : (State.wrW s a1 a2).pending = s.pending := (rfl)
@[simp] theorem State.wrW_ticks (s a1 a2) : (State.wrW s a1 a2).ticks = s.ticks := (rfl)
@[simp] theorem State.wrW_aon (s a1 a2) : (State.wrW s a1 a2).aon = s.aon := (rfl)
@[simp] theorem State.wrW_aonLeft (s a1 a2) : (State.wrW s a1 a2).aonLeft = s.aonLeft := (rfl)
@[simp] theorem State.wrW_core (s a1 a2) : (State.wrW s a1 a2).core = s.core := (rfl)
@[simp] theorem State.wrW_coreQ (s a1 a2) : (State.wrW s a1 a2).coreQ = s.coreQ := (rfl)
@[simp] theorem State.wrW_gen (s a1 a2) : (State.wrW s a1 a2).gen = s.gen := (rfl)
@[simp] theorem State.wrW_staged (s a1 a2) : (State.wrW s a1 a2).staged = s.staged := (rfl)
@[simp] theorem State.wrW_latches (s a1 a2) : (State.wrW s a1 a2).latches = s.latches := (rfl)
@[simp] theorem State.wrW_heldWr (s a1 a2) : (State.wrW s a1 a2).heldWr = s.heldWr := (rfl)
@[simp] theorem State.wrW_tk (s a1 a2) : (State.wrW s a1 a2).tk = s.tk := (rfl)
@[simp] theorem State.wrW_log (s a1 a2) : (State.wrW s a1 a2).log = s.log := (rfl)
@[simp] theorem State.wrW_calBad (s a1 a2) : (State.wrW s a1 a2).calBad = s.calBad := (rfl)
@[simp] theorem State.wrW_pails (s a1 a2) : (State.wrW s a1 a2).pails = s.pails := (rfl)
@[simp] theorem State.wrW_banks (s a1 a2) : (State.wrW s a1 a2).banks = s.banks := (rfl)
@[simp] theorem State.wrW_repairDue (s a1 a2) : (State.wrW s a1 a2).repairDue = s.repairDue := (rfl)
@[simp] theorem State.wrW_units (s a1 a2) : (State.wrW s a1 a2).units = s.units := (rfl)
@[simp] theorem State.wrW_groups (s a1 a2) : (State.wrW s a1 a2).groups = s.groups := (rfl)
@[simp] theorem State.wrW_spares (s a1 a2) : (State.wrW s a1 a2).spares = s.spares := (rfl)
@[simp] theorem State.wrW_chans (s a1 a2) : (State.wrW s a1 a2).chans = s.chans := (rfl)
@[simp] theorem State.wrW_slices (s a1 a2) : (State.wrW s a1 a2).slices = s.slices := (rfl)
@[simp] theorem State.wrW_ports (s a1 a2) : (State.wrW s a1 a2).ports = s.ports := (rfl)
@[simp] theorem State.wrW_links (s a1 a2) : (State.wrW s a1 a2).links = s.links := (rfl)
@[simp] theorem State.wrW_um (s a1 a2) : (State.wrW s a1 a2).um = s.um := (rfl)
@[simp] theorem State.wrW_pw (s a1 a2) : (State.wrW s a1 a2).pw = s.pw := (rfl)
@[simp] theorem State.wrW_rs (s a1 a2) : (State.wrW s a1 a2).rs = s.rs := (rfl)
@[simp] theorem State.wrW_cl (s a1 a2) : (State.wrW s a1 a2).cl = s.cl := (rfl)
@[simp] theorem State.wrW_tw (s a1 a2) : (State.wrW s a1 a2).tw = s.tw := (rfl)
@[simp] theorem State.wrW_sec (s a1 a2) : (State.wrW s a1 a2).sec = s.sec := (rfl)
@[simp] theorem State.wrW_flash (s a1 a2) : (State.wrW s a1 a2).flash = s.flash := (rfl)
@[simp] theorem State.wrW_image (s a1 a2) : (State.wrW s a1 a2).image = s.image := (rfl)
@[simp] theorem State.wrW_fresh (s a1 a2) : (State.wrW s a1 a2).fresh = s.fresh := (rfl)
@[simp] theorem State.wrW_out (s a1 a2) : (State.wrW s a1 a2).out = s.out := (rfl)
@[simp] theorem State.wrW_hot (s a1 a2) : (State.wrW s a1 a2).hot = s.hot := (rfl)
@[simp] theorem State.wrW_eg (s a1 a2) : (State.wrW s a1 a2).eg = s.eg := (rfl)
@[simp] theorem State.wrW_calDue (s a1 a2) : (State.wrW s a1 a2).calDue = s.calDue := (rfl)
@[simp] theorem State.heat_pending (s a1 a2) : (State.heat s a1 a2).pending = s.pending := (rfl)
@[simp] theorem State.heat_ticks (s a1 a2) : (State.heat s a1 a2).ticks = s.ticks := (rfl)
@[simp] theorem State.heat_aon (s a1 a2) : (State.heat s a1 a2).aon = s.aon := (rfl)
@[simp] theorem State.heat_aonLeft (s a1 a2) : (State.heat s a1 a2).aonLeft = s.aonLeft := (rfl)
@[simp] theorem State.heat_core (s a1 a2) : (State.heat s a1 a2).core = s.core := (rfl)
@[simp] theorem State.heat_coreQ (s a1 a2) : (State.heat s a1 a2).coreQ = s.coreQ := (rfl)
@[simp] theorem State.heat_regs (s a1 a2) : (State.heat s a1 a2).regs = s.regs := (rfl)
@[simp] theorem State.heat_gen (s a1 a2) : (State.heat s a1 a2).gen = s.gen := (rfl)
@[simp] theorem State.heat_staged (s a1 a2) : (State.heat s a1 a2).staged = s.staged := (rfl)
@[simp] theorem State.heat_latches (s a1 a2) : (State.heat s a1 a2).latches = s.latches := (rfl)
@[simp] theorem State.heat_heldWr (s a1 a2) : (State.heat s a1 a2).heldWr = s.heldWr := (rfl)
@[simp] theorem State.heat_tk (s a1 a2) : (State.heat s a1 a2).tk = s.tk := (rfl)
@[simp] theorem State.heat_log (s a1 a2) : (State.heat s a1 a2).log = s.log := (rfl)
@[simp] theorem State.heat_calBad (s a1 a2) : (State.heat s a1 a2).calBad = s.calBad := (rfl)
@[simp] theorem State.heat_pails (s a1 a2) : (State.heat s a1 a2).pails = s.pails := (rfl)
@[simp] theorem State.heat_banks (s a1 a2) : (State.heat s a1 a2).banks = s.banks := (rfl)
@[simp] theorem State.heat_repairDue (s a1 a2) : (State.heat s a1 a2).repairDue = s.repairDue := (rfl)
@[simp] theorem State.heat_units (s a1 a2) : (State.heat s a1 a2).units = s.units := (rfl)
@[simp] theorem State.heat_groups (s a1 a2) : (State.heat s a1 a2).groups = s.groups := (rfl)
@[simp] theorem State.heat_spares (s a1 a2) : (State.heat s a1 a2).spares = s.spares := (rfl)
@[simp] theorem State.heat_chans (s a1 a2) : (State.heat s a1 a2).chans = s.chans := (rfl)
@[simp] theorem State.heat_slices (s a1 a2) : (State.heat s a1 a2).slices = s.slices := (rfl)
@[simp] theorem State.heat_ports (s a1 a2) : (State.heat s a1 a2).ports = s.ports := (rfl)
@[simp] theorem State.heat_links (s a1 a2) : (State.heat s a1 a2).links = s.links := (rfl)
@[simp] theorem State.heat_um (s a1 a2) : (State.heat s a1 a2).um = s.um := (rfl)
@[simp] theorem State.heat_pw (s a1 a2) : (State.heat s a1 a2).pw = s.pw := (rfl)
@[simp] theorem State.heat_rs (s a1 a2) : (State.heat s a1 a2).rs = s.rs := (rfl)
@[simp] theorem State.heat_cl (s a1 a2) : (State.heat s a1 a2).cl = s.cl := (rfl)
@[simp] theorem State.heat_tw (s a1 a2) : (State.heat s a1 a2).tw = s.tw := (rfl)
@[simp] theorem State.heat_sec (s a1 a2) : (State.heat s a1 a2).sec = s.sec := (rfl)
@[simp] theorem State.heat_flash (s a1 a2) : (State.heat s a1 a2).flash = s.flash := (rfl)
@[simp] theorem State.heat_image (s a1 a2) : (State.heat s a1 a2).image = s.image := (rfl)
@[simp] theorem State.heat_fresh (s a1 a2) : (State.heat s a1 a2).fresh = s.fresh := (rfl)
@[simp] theorem State.heat_out (s a1 a2) : (State.heat s a1 a2).out = s.out := (rfl)
@[simp] theorem State.heat_eg (s a1 a2) : (State.heat s a1 a2).eg = s.eg := (rfl)
@[simp] theorem State.heat_calDue (s a1 a2) : (State.heat s a1 a2).calDue = s.calDue := (rfl)
@[simp] theorem State.emit_pending (s a1) : (State.emit s a1).pending = s.pending := (rfl)
@[simp] theorem State.emit_ticks (s a1) : (State.emit s a1).ticks = s.ticks := (rfl)
@[simp] theorem State.emit_aon (s a1) : (State.emit s a1).aon = s.aon := (rfl)
@[simp] theorem State.emit_aonLeft (s a1) : (State.emit s a1).aonLeft = s.aonLeft := (rfl)
@[simp] theorem State.emit_core (s a1) : (State.emit s a1).core = s.core := (rfl)
@[simp] theorem State.emit_coreQ (s a1) : (State.emit s a1).coreQ = s.coreQ := (rfl)
@[simp] theorem State.emit_regs (s a1) : (State.emit s a1).regs = s.regs := (rfl)
@[simp] theorem State.emit_gen (s a1) : (State.emit s a1).gen = s.gen := (rfl)
@[simp] theorem State.emit_staged (s a1) : (State.emit s a1).staged = s.staged := (rfl)
@[simp] theorem State.emit_latches (s a1) : (State.emit s a1).latches = s.latches := (rfl)
@[simp] theorem State.emit_heldWr (s a1) : (State.emit s a1).heldWr = s.heldWr := (rfl)
@[simp] theorem State.emit_tk (s a1) : (State.emit s a1).tk = s.tk := (rfl)
@[simp] theorem State.emit_log (s a1) : (State.emit s a1).log = s.log := (rfl)
@[simp] theorem State.emit_calBad (s a1) : (State.emit s a1).calBad = s.calBad := (rfl)
@[simp] theorem State.emit_pails (s a1) : (State.emit s a1).pails = s.pails := (rfl)
@[simp] theorem State.emit_banks (s a1) : (State.emit s a1).banks = s.banks := (rfl)
@[simp] theorem State.emit_repairDue (s a1) : (State.emit s a1).repairDue = s.repairDue := (rfl)
@[simp] theorem State.emit_units (s a1) : (State.emit s a1).units = s.units := (rfl)
@[simp] theorem State.emit_groups (s a1) : (State.emit s a1).groups = s.groups := (rfl)
@[simp] theorem State.emit_spares (s a1) : (State.emit s a1).spares = s.spares := (rfl)
@[simp] theorem State.emit_chans (s a1) : (State.emit s a1).chans = s.chans := (rfl)
@[simp] theorem State.emit_slices (s a1) : (State.emit s a1).slices = s.slices := (rfl)
@[simp] theorem State.emit_ports (s a1) : (State.emit s a1).ports = s.ports := (rfl)
@[simp] theorem State.emit_links (s a1) : (State.emit s a1).links = s.links := (rfl)
@[simp] theorem State.emit_um (s a1) : (State.emit s a1).um = s.um := (rfl)
@[simp] theorem State.emit_pw (s a1) : (State.emit s a1).pw = s.pw := (rfl)
@[simp] theorem State.emit_rs (s a1) : (State.emit s a1).rs = s.rs := (rfl)
@[simp] theorem State.emit_cl (s a1) : (State.emit s a1).cl = s.cl := (rfl)
@[simp] theorem State.emit_tw (s a1) : (State.emit s a1).tw = s.tw := (rfl)
@[simp] theorem State.emit_sec (s a1) : (State.emit s a1).sec = s.sec := (rfl)
@[simp] theorem State.emit_flash (s a1) : (State.emit s a1).flash = s.flash := (rfl)
@[simp] theorem State.emit_image (s a1) : (State.emit s a1).image = s.image := (rfl)
@[simp] theorem State.emit_fresh (s a1) : (State.emit s a1).fresh = s.fresh := (rfl)
@[simp] theorem State.emit_hot (s a1) : (State.emit s a1).hot = s.hot := (rfl)
@[simp] theorem State.emit_eg (s a1) : (State.emit s a1).eg = s.eg := (rfl)
@[simp] theorem State.emit_calDue (s a1) : (State.emit s a1).calDue = s.calDue := (rfl)
@[simp] theorem State.updLink_pending (s a1 a2) : (State.updLink s a1 a2).pending = s.pending := (rfl)
@[simp] theorem State.updLink_ticks (s a1 a2) : (State.updLink s a1 a2).ticks = s.ticks := (rfl)
@[simp] theorem State.updLink_aon (s a1 a2) : (State.updLink s a1 a2).aon = s.aon := (rfl)
@[simp] theorem State.updLink_aonLeft (s a1 a2) : (State.updLink s a1 a2).aonLeft = s.aonLeft := (rfl)
@[simp] theorem State.updLink_core (s a1 a2) : (State.updLink s a1 a2).core = s.core := (rfl)
@[simp] theorem State.updLink_coreQ (s a1 a2) : (State.updLink s a1 a2).coreQ = s.coreQ := (rfl)
@[simp] theorem State.updLink_regs (s a1 a2) : (State.updLink s a1 a2).regs = s.regs := (rfl)
@[simp] theorem State.updLink_gen (s a1 a2) : (State.updLink s a1 a2).gen = s.gen := (rfl)
@[simp] theorem State.updLink_staged (s a1 a2) : (State.updLink s a1 a2).staged = s.staged := (rfl)
@[simp] theorem State.updLink_latches (s a1 a2) : (State.updLink s a1 a2).latches = s.latches := (rfl)
@[simp] theorem State.updLink_heldWr (s a1 a2) : (State.updLink s a1 a2).heldWr = s.heldWr := (rfl)
@[simp] theorem State.updLink_tk (s a1 a2) : (State.updLink s a1 a2).tk = s.tk := (rfl)
@[simp] theorem State.updLink_log (s a1 a2) : (State.updLink s a1 a2).log = s.log := (rfl)
@[simp] theorem State.updLink_calBad (s a1 a2) : (State.updLink s a1 a2).calBad = s.calBad := (rfl)
@[simp] theorem State.updLink_pails (s a1 a2) : (State.updLink s a1 a2).pails = s.pails := (rfl)
@[simp] theorem State.updLink_banks (s a1 a2) : (State.updLink s a1 a2).banks = s.banks := (rfl)
@[simp] theorem State.updLink_repairDue (s a1 a2) : (State.updLink s a1 a2).repairDue = s.repairDue := (rfl)
@[simp] theorem State.updLink_units (s a1 a2) : (State.updLink s a1 a2).units = s.units := (rfl)
@[simp] theorem State.updLink_groups (s a1 a2) : (State.updLink s a1 a2).groups = s.groups := (rfl)
@[simp] theorem State.updLink_spares (s a1 a2) : (State.updLink s a1 a2).spares = s.spares := (rfl)
@[simp] theorem State.updLink_chans (s a1 a2) : (State.updLink s a1 a2).chans = s.chans := (rfl)
@[simp] theorem State.updLink_slices (s a1 a2) : (State.updLink s a1 a2).slices = s.slices := (rfl)
@[simp] theorem State.updLink_ports (s a1 a2) : (State.updLink s a1 a2).ports = s.ports := (rfl)
@[simp] theorem State.updLink_um (s a1 a2) : (State.updLink s a1 a2).um = s.um := (rfl)
@[simp] theorem State.updLink_pw (s a1 a2) : (State.updLink s a1 a2).pw = s.pw := (rfl)
@[simp] theorem State.updLink_rs (s a1 a2) : (State.updLink s a1 a2).rs = s.rs := (rfl)
@[simp] theorem State.updLink_cl (s a1 a2) : (State.updLink s a1 a2).cl = s.cl := (rfl)
@[simp] theorem State.updLink_tw (s a1 a2) : (State.updLink s a1 a2).tw = s.tw := (rfl)
@[simp] theorem State.updLink_sec (s a1 a2) : (State.updLink s a1 a2).sec = s.sec := (rfl)
@[simp] theorem State.updLink_flash (s a1 a2) : (State.updLink s a1 a2).flash = s.flash := (rfl)
@[simp] theorem State.updLink_image (s a1 a2) : (State.updLink s a1 a2).image = s.image := (rfl)
@[simp] theorem State.updLink_fresh (s a1 a2) : (State.updLink s a1 a2).fresh = s.fresh := (rfl)
@[simp] theorem State.updLink_out (s a1 a2) : (State.updLink s a1 a2).out = s.out := (rfl)
@[simp] theorem State.updLink_hot (s a1 a2) : (State.updLink s a1 a2).hot = s.hot := (rfl)
@[simp] theorem State.updLink_eg (s a1 a2) : (State.updLink s a1 a2).eg = s.eg := (rfl)
@[simp] theorem State.updLink_calDue (s a1 a2) : (State.updLink s a1 a2).calDue = s.calDue := (rfl)
@[simp] theorem State.updUm_pending (s a1) : (State.updUm s a1).pending = s.pending := (rfl)
@[simp] theorem State.updUm_ticks (s a1) : (State.updUm s a1).ticks = s.ticks := (rfl)
@[simp] theorem State.updUm_aon (s a1) : (State.updUm s a1).aon = s.aon := (rfl)
@[simp] theorem State.updUm_aonLeft (s a1) : (State.updUm s a1).aonLeft = s.aonLeft := (rfl)
@[simp] theorem State.updUm_core (s a1) : (State.updUm s a1).core = s.core := (rfl)
@[simp] theorem State.updUm_coreQ (s a1) : (State.updUm s a1).coreQ = s.coreQ := (rfl)
@[simp] theorem State.updUm_regs (s a1) : (State.updUm s a1).regs = s.regs := (rfl)
@[simp] theorem State.updUm_gen (s a1) : (State.updUm s a1).gen = s.gen := (rfl)
@[simp] theorem State.updUm_staged (s a1) : (State.updUm s a1).staged = s.staged := (rfl)
@[simp] theorem State.updUm_latches (s a1) : (State.updUm s a1).latches = s.latches := (rfl)
@[simp] theorem State.updUm_heldWr (s a1) : (State.updUm s a1).heldWr = s.heldWr := (rfl)
@[simp] theorem State.updUm_tk (s a1) : (State.updUm s a1).tk = s.tk := (rfl)
@[simp] theorem State.updUm_log (s a1) : (State.updUm s a1).log = s.log := (rfl)
@[simp] theorem State.updUm_calBad (s a1) : (State.updUm s a1).calBad = s.calBad := (rfl)
@[simp] theorem State.updUm_pails (s a1) : (State.updUm s a1).pails = s.pails := (rfl)
@[simp] theorem State.updUm_banks (s a1) : (State.updUm s a1).banks = s.banks := (rfl)
@[simp] theorem State.updUm_repairDue (s a1) : (State.updUm s a1).repairDue = s.repairDue := (rfl)
@[simp] theorem State.updUm_units (s a1) : (State.updUm s a1).units = s.units := (rfl)
@[simp] theorem State.updUm_groups (s a1) : (State.updUm s a1).groups = s.groups := (rfl)
@[simp] theorem State.updUm_spares (s a1) : (State.updUm s a1).spares = s.spares := (rfl)
@[simp] theorem State.updUm_chans (s a1) : (State.updUm s a1).chans = s.chans := (rfl)
@[simp] theorem State.updUm_slices (s a1) : (State.updUm s a1).slices = s.slices := (rfl)
@[simp] theorem State.updUm_ports (s a1) : (State.updUm s a1).ports = s.ports := (rfl)
@[simp] theorem State.updUm_links (s a1) : (State.updUm s a1).links = s.links := (rfl)
@[simp] theorem State.updUm_pw (s a1) : (State.updUm s a1).pw = s.pw := (rfl)
@[simp] theorem State.updUm_rs (s a1) : (State.updUm s a1).rs = s.rs := (rfl)
@[simp] theorem State.updUm_cl (s a1) : (State.updUm s a1).cl = s.cl := (rfl)
@[simp] theorem State.updUm_tw (s a1) : (State.updUm s a1).tw = s.tw := (rfl)
@[simp] theorem State.updUm_sec (s a1) : (State.updUm s a1).sec = s.sec := (rfl)
@[simp] theorem State.updUm_flash (s a1) : (State.updUm s a1).flash = s.flash := (rfl)
@[simp] theorem State.updUm_image (s a1) : (State.updUm s a1).image = s.image := (rfl)
@[simp] theorem State.updUm_fresh (s a1) : (State.updUm s a1).fresh = s.fresh := (rfl)
@[simp] theorem State.updUm_out (s a1) : (State.updUm s a1).out = s.out := (rfl)
@[simp] theorem State.updUm_hot (s a1) : (State.updUm s a1).hot = s.hot := (rfl)
@[simp] theorem State.updUm_eg (s a1) : (State.updUm s a1).eg = s.eg := (rfl)
@[simp] theorem State.updUm_calDue (s a1) : (State.updUm s a1).calDue = s.calDue := (rfl)
@[simp] theorem State.updUnit_pending (s a1 a2) : (State.updUnit s a1 a2).pending = s.pending := (rfl)
@[simp] theorem State.updUnit_ticks (s a1 a2) : (State.updUnit s a1 a2).ticks = s.ticks := (rfl)
@[simp] theorem State.updUnit_aon (s a1 a2) : (State.updUnit s a1 a2).aon = s.aon := (rfl)
@[simp] theorem State.updUnit_aonLeft (s a1 a2) : (State.updUnit s a1 a2).aonLeft = s.aonLeft := (rfl)
@[simp] theorem State.updUnit_core (s a1 a2) : (State.updUnit s a1 a2).core = s.core := (rfl)
@[simp] theorem State.updUnit_coreQ (s a1 a2) : (State.updUnit s a1 a2).coreQ = s.coreQ := (rfl)
@[simp] theorem State.updUnit_regs (s a1 a2) : (State.updUnit s a1 a2).regs = s.regs := (rfl)
@[simp] theorem State.updUnit_gen (s a1 a2) : (State.updUnit s a1 a2).gen = s.gen := (rfl)
@[simp] theorem State.updUnit_staged (s a1 a2) : (State.updUnit s a1 a2).staged = s.staged := (rfl)
@[simp] theorem State.updUnit_latches (s a1 a2) : (State.updUnit s a1 a2).latches = s.latches := (rfl)
@[simp] theorem State.updUnit_heldWr (s a1 a2) : (State.updUnit s a1 a2).heldWr = s.heldWr := (rfl)
@[simp] theorem State.updUnit_tk (s a1 a2) : (State.updUnit s a1 a2).tk = s.tk := (rfl)
@[simp] theorem State.updUnit_log (s a1 a2) : (State.updUnit s a1 a2).log = s.log := (rfl)
@[simp] theorem State.updUnit_calBad (s a1 a2) : (State.updUnit s a1 a2).calBad = s.calBad := (rfl)
@[simp] theorem State.updUnit_pails (s a1 a2) : (State.updUnit s a1 a2).pails = s.pails := (rfl)
@[simp] theorem State.updUnit_banks (s a1 a2) : (State.updUnit s a1 a2).banks = s.banks := (rfl)
@[simp] theorem State.updUnit_repairDue (s a1 a2) : (State.updUnit s a1 a2).repairDue = s.repairDue := (rfl)
@[simp] theorem State.updUnit_groups (s a1 a2) : (State.updUnit s a1 a2).groups = s.groups := (rfl)
@[simp] theorem State.updUnit_spares (s a1 a2) : (State.updUnit s a1 a2).spares = s.spares := (rfl)
@[simp] theorem State.updUnit_chans (s a1 a2) : (State.updUnit s a1 a2).chans = s.chans := (rfl)
@[simp] theorem State.updUnit_slices (s a1 a2) : (State.updUnit s a1 a2).slices = s.slices := (rfl)
@[simp] theorem State.updUnit_ports (s a1 a2) : (State.updUnit s a1 a2).ports = s.ports := (rfl)
@[simp] theorem State.updUnit_links (s a1 a2) : (State.updUnit s a1 a2).links = s.links := (rfl)
@[simp] theorem State.updUnit_um (s a1 a2) : (State.updUnit s a1 a2).um = s.um := (rfl)
@[simp] theorem State.updUnit_pw (s a1 a2) : (State.updUnit s a1 a2).pw = s.pw := (rfl)
@[simp] theorem State.updUnit_rs (s a1 a2) : (State.updUnit s a1 a2).rs = s.rs := (rfl)
@[simp] theorem State.updUnit_cl (s a1 a2) : (State.updUnit s a1 a2).cl = s.cl := (rfl)
@[simp] theorem State.updUnit_tw (s a1 a2) : (State.updUnit s a1 a2).tw = s.tw := (rfl)
@[simp] theorem State.updUnit_sec (s a1 a2) : (State.updUnit s a1 a2).sec = s.sec := (rfl)
@[simp] theorem State.updUnit_flash (s a1 a2) : (State.updUnit s a1 a2).flash = s.flash := (rfl)
@[simp] theorem State.updUnit_image (s a1 a2) : (State.updUnit s a1 a2).image = s.image := (rfl)
@[simp] theorem State.updUnit_fresh (s a1 a2) : (State.updUnit s a1 a2).fresh = s.fresh := (rfl)
@[simp] theorem State.updUnit_out (s a1 a2) : (State.updUnit s a1 a2).out = s.out := (rfl)
@[simp] theorem State.updUnit_hot (s a1 a2) : (State.updUnit s a1 a2).hot = s.hot := (rfl)
@[simp] theorem State.updUnit_eg (s a1 a2) : (State.updUnit s a1 a2).eg = s.eg := (rfl)
@[simp] theorem State.updUnit_calDue (s a1 a2) : (State.updUnit s a1 a2).calDue = s.calDue := (rfl)
@[simp] theorem State.updCl_pending (s a1 a2) : (State.updCl s a1 a2).pending = s.pending := (rfl)
@[simp] theorem State.updCl_ticks (s a1 a2) : (State.updCl s a1 a2).ticks = s.ticks := (rfl)
@[simp] theorem State.updCl_aon (s a1 a2) : (State.updCl s a1 a2).aon = s.aon := (rfl)
@[simp] theorem State.updCl_aonLeft (s a1 a2) : (State.updCl s a1 a2).aonLeft = s.aonLeft := (rfl)
@[simp] theorem State.updCl_core (s a1 a2) : (State.updCl s a1 a2).core = s.core := (rfl)
@[simp] theorem State.updCl_coreQ (s a1 a2) : (State.updCl s a1 a2).coreQ = s.coreQ := (rfl)
@[simp] theorem State.updCl_regs (s a1 a2) : (State.updCl s a1 a2).regs = s.regs := (rfl)
@[simp] theorem State.updCl_gen (s a1 a2) : (State.updCl s a1 a2).gen = s.gen := (rfl)
@[simp] theorem State.updCl_staged (s a1 a2) : (State.updCl s a1 a2).staged = s.staged := (rfl)
@[simp] theorem State.updCl_latches (s a1 a2) : (State.updCl s a1 a2).latches = s.latches := (rfl)
@[simp] theorem State.updCl_heldWr (s a1 a2) : (State.updCl s a1 a2).heldWr = s.heldWr := (rfl)
@[simp] theorem State.updCl_tk (s a1 a2) : (State.updCl s a1 a2).tk = s.tk := (rfl)
@[simp] theorem State.updCl_log (s a1 a2) : (State.updCl s a1 a2).log = s.log := (rfl)
@[simp] theorem State.updCl_calBad (s a1 a2) : (State.updCl s a1 a2).calBad = s.calBad := (rfl)
@[simp] theorem State.updCl_pails (s a1 a2) : (State.updCl s a1 a2).pails = s.pails := (rfl)
@[simp] theorem State.updCl_banks (s a1 a2) : (State.updCl s a1 a2).banks = s.banks := (rfl)
@[simp] theorem State.updCl_repairDue (s a1 a2) : (State.updCl s a1 a2).repairDue = s.repairDue := (rfl)
@[simp] theorem State.updCl_units (s a1 a2) : (State.updCl s a1 a2).units = s.units := (rfl)
@[simp] theorem State.updCl_groups (s a1 a2) : (State.updCl s a1 a2).groups = s.groups := (rfl)
@[simp] theorem State.updCl_spares (s a1 a2) : (State.updCl s a1 a2).spares = s.spares := (rfl)
@[simp] theorem State.updCl_chans (s a1 a2) : (State.updCl s a1 a2).chans = s.chans := (rfl)
@[simp] theorem State.updCl_slices (s a1 a2) : (State.updCl s a1 a2).slices = s.slices := (rfl)
@[simp] theorem State.updCl_ports (s a1 a2) : (State.updCl s a1 a2).ports = s.ports := (rfl)
@[simp] theorem State.updCl_links (s a1 a2) : (State.updCl s a1 a2).links = s.links := (rfl)
@[simp] theorem State.updCl_um (s a1 a2) : (State.updCl s a1 a2).um = s.um := (rfl)
@[simp] theorem State.updCl_pw (s a1 a2) : (State.updCl s a1 a2).pw = s.pw := (rfl)
@[simp] theorem State.updCl_rs (s a1 a2) : (State.updCl s a1 a2).rs = s.rs := (rfl)
@[simp] theorem State.updCl_tw (s a1 a2) : (State.updCl s a1 a2).tw = s.tw := (rfl)
@[simp] theorem State.updCl_sec (s a1 a2) : (State.updCl s a1 a2).sec = s.sec := (rfl)
@[simp] theorem State.updCl_flash (s a1 a2) : (State.updCl s a1 a2).flash = s.flash := (rfl)
@[simp] theorem State.updCl_image (s a1 a2) : (State.updCl s a1 a2).image = s.image := (rfl)
@[simp] theorem State.updCl_fresh (s a1 a2) : (State.updCl s a1 a2).fresh = s.fresh := (rfl)
@[simp] theorem State.updCl_out (s a1 a2) : (State.updCl s a1 a2).out = s.out := (rfl)
@[simp] theorem State.updCl_hot (s a1 a2) : (State.updCl s a1 a2).hot = s.hot := (rfl)
@[simp] theorem State.updCl_eg (s a1 a2) : (State.updCl s a1 a2).eg = s.eg := (rfl)
@[simp] theorem State.updCl_calDue (s a1 a2) : (State.updCl s a1 a2).calDue = s.calDue := (rfl)
@[simp] theorem State.updGrp_pending (s a1 a2) : (State.updGrp s a1 a2).pending = s.pending := (rfl)
@[simp] theorem State.updGrp_ticks (s a1 a2) : (State.updGrp s a1 a2).ticks = s.ticks := (rfl)
@[simp] theorem State.updGrp_aon (s a1 a2) : (State.updGrp s a1 a2).aon = s.aon := (rfl)
@[simp] theorem State.updGrp_aonLeft (s a1 a2) : (State.updGrp s a1 a2).aonLeft = s.aonLeft := (rfl)
@[simp] theorem State.updGrp_core (s a1 a2) : (State.updGrp s a1 a2).core = s.core := (rfl)
@[simp] theorem State.updGrp_coreQ (s a1 a2) : (State.updGrp s a1 a2).coreQ = s.coreQ := (rfl)
@[simp] theorem State.updGrp_regs (s a1 a2) : (State.updGrp s a1 a2).regs = s.regs := (rfl)
@[simp] theorem State.updGrp_gen (s a1 a2) : (State.updGrp s a1 a2).gen = s.gen := (rfl)
@[simp] theorem State.updGrp_staged (s a1 a2) : (State.updGrp s a1 a2).staged = s.staged := (rfl)
@[simp] theorem State.updGrp_latches (s a1 a2) : (State.updGrp s a1 a2).latches = s.latches := (rfl)
@[simp] theorem State.updGrp_heldWr (s a1 a2) : (State.updGrp s a1 a2).heldWr = s.heldWr := (rfl)
@[simp] theorem State.updGrp_tk (s a1 a2) : (State.updGrp s a1 a2).tk = s.tk := (rfl)
@[simp] theorem State.updGrp_log (s a1 a2) : (State.updGrp s a1 a2).log = s.log := (rfl)
@[simp] theorem State.updGrp_calBad (s a1 a2) : (State.updGrp s a1 a2).calBad = s.calBad := (rfl)
@[simp] theorem State.updGrp_pails (s a1 a2) : (State.updGrp s a1 a2).pails = s.pails := (rfl)
@[simp] theorem State.updGrp_banks (s a1 a2) : (State.updGrp s a1 a2).banks = s.banks := (rfl)
@[simp] theorem State.updGrp_repairDue (s a1 a2) : (State.updGrp s a1 a2).repairDue = s.repairDue := (rfl)
@[simp] theorem State.updGrp_units (s a1 a2) : (State.updGrp s a1 a2).units = s.units := (rfl)
@[simp] theorem State.updGrp_spares (s a1 a2) : (State.updGrp s a1 a2).spares = s.spares := (rfl)
@[simp] theorem State.updGrp_chans (s a1 a2) : (State.updGrp s a1 a2).chans = s.chans := (rfl)
@[simp] theorem State.updGrp_slices (s a1 a2) : (State.updGrp s a1 a2).slices = s.slices := (rfl)
@[simp] theorem State.updGrp_ports (s a1 a2) : (State.updGrp s a1 a2).ports = s.ports := (rfl)
@[simp] theorem State.updGrp_links (s a1 a2) : (State.updGrp s a1 a2).links = s.links := (rfl)
@[simp] theorem State.updGrp_um (s a1 a2) : (State.updGrp s a1 a2).um = s.um := (rfl)
@[simp] theorem State.updGrp_pw (s a1 a2) : (State.updGrp s a1 a2).pw = s.pw := (rfl)
@[simp] theorem State.updGrp_rs (s a1 a2) : (State.updGrp s a1 a2).rs = s.rs := (rfl)
@[simp] theorem State.updGrp_cl (s a1 a2) : (State.updGrp s a1 a2).cl = s.cl := (rfl)
@[simp] theorem State.updGrp_tw (s a1 a2) : (State.updGrp s a1 a2).tw = s.tw := (rfl)
@[simp] theorem State.updGrp_sec (s a1 a2) : (State.updGrp s a1 a2).sec = s.sec := (rfl)
@[simp] theorem State.updGrp_flash (s a1 a2) : (State.updGrp s a1 a2).flash = s.flash := (rfl)
@[simp] theorem State.updGrp_image (s a1 a2) : (State.updGrp s a1 a2).image = s.image := (rfl)
@[simp] theorem State.updGrp_fresh (s a1 a2) : (State.updGrp s a1 a2).fresh = s.fresh := (rfl)
@[simp] theorem State.updGrp_out (s a1 a2) : (State.updGrp s a1 a2).out = s.out := (rfl)
@[simp] theorem State.updGrp_hot (s a1 a2) : (State.updGrp s a1 a2).hot = s.hot := (rfl)
@[simp] theorem State.updGrp_eg (s a1 a2) : (State.updGrp s a1 a2).eg = s.eg := (rfl)
@[simp] theorem State.updGrp_calDue (s a1 a2) : (State.updGrp s a1 a2).calDue = s.calDue := (rfl)
@[simp] theorem State.updChan_pending (s a1 a2) : (State.updChan s a1 a2).pending = s.pending := (rfl)
@[simp] theorem State.updChan_ticks (s a1 a2) : (State.updChan s a1 a2).ticks = s.ticks := (rfl)
@[simp] theorem State.updChan_aon (s a1 a2) : (State.updChan s a1 a2).aon = s.aon := (rfl)
@[simp] theorem State.updChan_aonLeft (s a1 a2) : (State.updChan s a1 a2).aonLeft = s.aonLeft := (rfl)
@[simp] theorem State.updChan_core (s a1 a2) : (State.updChan s a1 a2).core = s.core := (rfl)
@[simp] theorem State.updChan_coreQ (s a1 a2) : (State.updChan s a1 a2).coreQ = s.coreQ := (rfl)
@[simp] theorem State.updChan_regs (s a1 a2) : (State.updChan s a1 a2).regs = s.regs := (rfl)
@[simp] theorem State.updChan_gen (s a1 a2) : (State.updChan s a1 a2).gen = s.gen := (rfl)
@[simp] theorem State.updChan_staged (s a1 a2) : (State.updChan s a1 a2).staged = s.staged := (rfl)
@[simp] theorem State.updChan_latches (s a1 a2) : (State.updChan s a1 a2).latches = s.latches := (rfl)
@[simp] theorem State.updChan_heldWr (s a1 a2) : (State.updChan s a1 a2).heldWr = s.heldWr := (rfl)
@[simp] theorem State.updChan_tk (s a1 a2) : (State.updChan s a1 a2).tk = s.tk := (rfl)
@[simp] theorem State.updChan_log (s a1 a2) : (State.updChan s a1 a2).log = s.log := (rfl)
@[simp] theorem State.updChan_calBad (s a1 a2) : (State.updChan s a1 a2).calBad = s.calBad := (rfl)
@[simp] theorem State.updChan_pails (s a1 a2) : (State.updChan s a1 a2).pails = s.pails := (rfl)
@[simp] theorem State.updChan_banks (s a1 a2) : (State.updChan s a1 a2).banks = s.banks := (rfl)
@[simp] theorem State.updChan_repairDue (s a1 a2) : (State.updChan s a1 a2).repairDue = s.repairDue := (rfl)
@[simp] theorem State.updChan_units (s a1 a2) : (State.updChan s a1 a2).units = s.units := (rfl)
@[simp] theorem State.updChan_groups (s a1 a2) : (State.updChan s a1 a2).groups = s.groups := (rfl)
@[simp] theorem State.updChan_spares (s a1 a2) : (State.updChan s a1 a2).spares = s.spares := (rfl)
@[simp] theorem State.updChan_slices (s a1 a2) : (State.updChan s a1 a2).slices = s.slices := (rfl)
@[simp] theorem State.updChan_ports (s a1 a2) : (State.updChan s a1 a2).ports = s.ports := (rfl)
@[simp] theorem State.updChan_links (s a1 a2) : (State.updChan s a1 a2).links = s.links := (rfl)
@[simp] theorem State.updChan_um (s a1 a2) : (State.updChan s a1 a2).um = s.um := (rfl)
@[simp] theorem State.updChan_pw (s a1 a2) : (State.updChan s a1 a2).pw = s.pw := (rfl)
@[simp] theorem State.updChan_rs (s a1 a2) : (State.updChan s a1 a2).rs = s.rs := (rfl)
@[simp] theorem State.updChan_cl (s a1 a2) : (State.updChan s a1 a2).cl = s.cl := (rfl)
@[simp] theorem State.updChan_tw (s a1 a2) : (State.updChan s a1 a2).tw = s.tw := (rfl)
@[simp] theorem State.updChan_sec (s a1 a2) : (State.updChan s a1 a2).sec = s.sec := (rfl)
@[simp] theorem State.updChan_flash (s a1 a2) : (State.updChan s a1 a2).flash = s.flash := (rfl)
@[simp] theorem State.updChan_image (s a1 a2) : (State.updChan s a1 a2).image = s.image := (rfl)
@[simp] theorem State.updChan_fresh (s a1 a2) : (State.updChan s a1 a2).fresh = s.fresh := (rfl)
@[simp] theorem State.updChan_out (s a1 a2) : (State.updChan s a1 a2).out = s.out := (rfl)
@[simp] theorem State.updChan_hot (s a1 a2) : (State.updChan s a1 a2).hot = s.hot := (rfl)
@[simp] theorem State.updChan_eg (s a1 a2) : (State.updChan s a1 a2).eg = s.eg := (rfl)
@[simp] theorem State.updChan_calDue (s a1 a2) : (State.updChan s a1 a2).calDue = s.calDue := (rfl)
@[simp] theorem State.updPail_pending (s a1 a2) : (State.updPail s a1 a2).pending = s.pending := (rfl)
@[simp] theorem State.updPail_ticks (s a1 a2) : (State.updPail s a1 a2).ticks = s.ticks := (rfl)
@[simp] theorem State.updPail_aon (s a1 a2) : (State.updPail s a1 a2).aon = s.aon := (rfl)
@[simp] theorem State.updPail_aonLeft (s a1 a2) : (State.updPail s a1 a2).aonLeft = s.aonLeft := (rfl)
@[simp] theorem State.updPail_core (s a1 a2) : (State.updPail s a1 a2).core = s.core := (rfl)
@[simp] theorem State.updPail_coreQ (s a1 a2) : (State.updPail s a1 a2).coreQ = s.coreQ := (rfl)
@[simp] theorem State.updPail_regs (s a1 a2) : (State.updPail s a1 a2).regs = s.regs := (rfl)
@[simp] theorem State.updPail_gen (s a1 a2) : (State.updPail s a1 a2).gen = s.gen := (rfl)
@[simp] theorem State.updPail_staged (s a1 a2) : (State.updPail s a1 a2).staged = s.staged := (rfl)
@[simp] theorem State.updPail_latches (s a1 a2) : (State.updPail s a1 a2).latches = s.latches := (rfl)
@[simp] theorem State.updPail_heldWr (s a1 a2) : (State.updPail s a1 a2).heldWr = s.heldWr := (rfl)
@[simp] theorem State.updPail_tk (s a1 a2) : (State.updPail s a1 a2).tk = s.tk := (rfl)
@[simp] theorem State.updPail_log (s a1 a2) : (State.updPail s a1 a2).log = s.log := (rfl)
@[simp] theorem State.updPail_calBad (s a1 a2) : (State.updPail s a1 a2).calBad = s.calBad := (rfl)
@[simp] theorem State.updPail_banks (s a1 a2) : (State.updPail s a1 a2).banks = s.banks := (rfl)
@[simp] theorem State.updPail_repairDue (s a1 a2) : (State.updPail s a1 a2).repairDue = s.repairDue := (rfl)
@[simp] theorem State.updPail_units (s a1 a2) : (State.updPail s a1 a2).units = s.units := (rfl)
@[simp] theorem State.updPail_groups (s a1 a2) : (State.updPail s a1 a2).groups = s.groups := (rfl)
@[simp] theorem State.updPail_spares (s a1 a2) : (State.updPail s a1 a2).spares = s.spares := (rfl)
@[simp] theorem State.updPail_chans (s a1 a2) : (State.updPail s a1 a2).chans = s.chans := (rfl)
@[simp] theorem State.updPail_slices (s a1 a2) : (State.updPail s a1 a2).slices = s.slices := (rfl)
@[simp] theorem State.updPail_ports (s a1 a2) : (State.updPail s a1 a2).ports = s.ports := (rfl)
@[simp] theorem State.updPail_links (s a1 a2) : (State.updPail s a1 a2).links = s.links := (rfl)
@[simp] theorem State.updPail_um (s a1 a2) : (State.updPail s a1 a2).um = s.um := (rfl)
@[simp] theorem State.updPail_pw (s a1 a2) : (State.updPail s a1 a2).pw = s.pw := (rfl)
@[simp] theorem State.updPail_rs (s a1 a2) : (State.updPail s a1 a2).rs = s.rs := (rfl)
@[simp] theorem State.updPail_cl (s a1 a2) : (State.updPail s a1 a2).cl = s.cl := (rfl)
@[simp] theorem State.updPail_tw (s a1 a2) : (State.updPail s a1 a2).tw = s.tw := (rfl)
@[simp] theorem State.updPail_sec (s a1 a2) : (State.updPail s a1 a2).sec = s.sec := (rfl)
@[simp] theorem State.updPail_flash (s a1 a2) : (State.updPail s a1 a2).flash = s.flash := (rfl)
@[simp] theorem State.updPail_image (s a1 a2) : (State.updPail s a1 a2).image = s.image := (rfl)
@[simp] theorem State.updPail_fresh (s a1 a2) : (State.updPail s a1 a2).fresh = s.fresh := (rfl)
@[simp] theorem State.updPail_out (s a1 a2) : (State.updPail s a1 a2).out = s.out := (rfl)
@[simp] theorem State.updPail_hot (s a1 a2) : (State.updPail s a1 a2).hot = s.hot := (rfl)
@[simp] theorem State.updPail_eg (s a1 a2) : (State.updPail s a1 a2).eg = s.eg := (rfl)
@[simp] theorem State.updPail_calDue (s a1 a2) : (State.updPail s a1 a2).calDue = s.calDue := (rfl)
@[simp] theorem State.updTw_pending (s a1) : (State.updTw s a1).pending = s.pending := (rfl)
@[simp] theorem State.updTw_ticks (s a1) : (State.updTw s a1).ticks = s.ticks := (rfl)
@[simp] theorem State.updTw_aon (s a1) : (State.updTw s a1).aon = s.aon := (rfl)
@[simp] theorem State.updTw_aonLeft (s a1) : (State.updTw s a1).aonLeft = s.aonLeft := (rfl)
@[simp] theorem State.updTw_core (s a1) : (State.updTw s a1).core = s.core := (rfl)
@[simp] theorem State.updTw_coreQ (s a1) : (State.updTw s a1).coreQ = s.coreQ := (rfl)
@[simp] theorem State.updTw_regs (s a1) : (State.updTw s a1).regs = s.regs := (rfl)
@[simp] theorem State.updTw_gen (s a1) : (State.updTw s a1).gen = s.gen := (rfl)
@[simp] theorem State.updTw_staged (s a1) : (State.updTw s a1).staged = s.staged := (rfl)
@[simp] theorem State.updTw_latches (s a1) : (State.updTw s a1).latches = s.latches := (rfl)
@[simp] theorem State.updTw_heldWr (s a1) : (State.updTw s a1).heldWr = s.heldWr := (rfl)
@[simp] theorem State.updTw_tk (s a1) : (State.updTw s a1).tk = s.tk := (rfl)
@[simp] theorem State.updTw_log (s a1) : (State.updTw s a1).log = s.log := (rfl)
@[simp] theorem State.updTw_calBad (s a1) : (State.updTw s a1).calBad = s.calBad := (rfl)
@[simp] theorem State.updTw_pails (s a1) : (State.updTw s a1).pails = s.pails := (rfl)
@[simp] theorem State.updTw_banks (s a1) : (State.updTw s a1).banks = s.banks := (rfl)
@[simp] theorem State.updTw_repairDue (s a1) : (State.updTw s a1).repairDue = s.repairDue := (rfl)
@[simp] theorem State.updTw_units (s a1) : (State.updTw s a1).units = s.units := (rfl)
@[simp] theorem State.updTw_groups (s a1) : (State.updTw s a1).groups = s.groups := (rfl)
@[simp] theorem State.updTw_spares (s a1) : (State.updTw s a1).spares = s.spares := (rfl)
@[simp] theorem State.updTw_chans (s a1) : (State.updTw s a1).chans = s.chans := (rfl)
@[simp] theorem State.updTw_slices (s a1) : (State.updTw s a1).slices = s.slices := (rfl)
@[simp] theorem State.updTw_ports (s a1) : (State.updTw s a1).ports = s.ports := (rfl)
@[simp] theorem State.updTw_links (s a1) : (State.updTw s a1).links = s.links := (rfl)
@[simp] theorem State.updTw_um (s a1) : (State.updTw s a1).um = s.um := (rfl)
@[simp] theorem State.updTw_pw (s a1) : (State.updTw s a1).pw = s.pw := (rfl)
@[simp] theorem State.updTw_rs (s a1) : (State.updTw s a1).rs = s.rs := (rfl)
@[simp] theorem State.updTw_cl (s a1) : (State.updTw s a1).cl = s.cl := (rfl)
@[simp] theorem State.updTw_sec (s a1) : (State.updTw s a1).sec = s.sec := (rfl)
@[simp] theorem State.updTw_flash (s a1) : (State.updTw s a1).flash = s.flash := (rfl)
@[simp] theorem State.updTw_image (s a1) : (State.updTw s a1).image = s.image := (rfl)
@[simp] theorem State.updTw_fresh (s a1) : (State.updTw s a1).fresh = s.fresh := (rfl)
@[simp] theorem State.updTw_out (s a1) : (State.updTw s a1).out = s.out := (rfl)
@[simp] theorem State.updTw_hot (s a1) : (State.updTw s a1).hot = s.hot := (rfl)
@[simp] theorem State.updTw_eg (s a1) : (State.updTw s a1).eg = s.eg := (rfl)
@[simp] theorem State.updTw_calDue (s a1) : (State.updTw s a1).calDue = s.calDue := (rfl)
@[simp] theorem State.updPort_pending (s a1 a2) : (State.updPort s a1 a2).pending = s.pending := (rfl)
@[simp] theorem State.updPort_ticks (s a1 a2) : (State.updPort s a1 a2).ticks = s.ticks := (rfl)
@[simp] theorem State.updPort_aon (s a1 a2) : (State.updPort s a1 a2).aon = s.aon := (rfl)
@[simp] theorem State.updPort_aonLeft (s a1 a2) : (State.updPort s a1 a2).aonLeft = s.aonLeft := (rfl)
@[simp] theorem State.updPort_core (s a1 a2) : (State.updPort s a1 a2).core = s.core := (rfl)
@[simp] theorem State.updPort_coreQ (s a1 a2) : (State.updPort s a1 a2).coreQ = s.coreQ := (rfl)
@[simp] theorem State.updPort_regs (s a1 a2) : (State.updPort s a1 a2).regs = s.regs := (rfl)
@[simp] theorem State.updPort_gen (s a1 a2) : (State.updPort s a1 a2).gen = s.gen := (rfl)
@[simp] theorem State.updPort_staged (s a1 a2) : (State.updPort s a1 a2).staged = s.staged := (rfl)
@[simp] theorem State.updPort_latches (s a1 a2) : (State.updPort s a1 a2).latches = s.latches := (rfl)
@[simp] theorem State.updPort_heldWr (s a1 a2) : (State.updPort s a1 a2).heldWr = s.heldWr := (rfl)
@[simp] theorem State.updPort_tk (s a1 a2) : (State.updPort s a1 a2).tk = s.tk := (rfl)
@[simp] theorem State.updPort_log (s a1 a2) : (State.updPort s a1 a2).log = s.log := (rfl)
@[simp] theorem State.updPort_calBad (s a1 a2) : (State.updPort s a1 a2).calBad = s.calBad := (rfl)
@[simp] theorem State.updPort_pails (s a1 a2) : (State.updPort s a1 a2).pails = s.pails := (rfl)
@[simp] theorem State.updPort_banks (s a1 a2) : (State.updPort s a1 a2).banks = s.banks := (rfl)
@[simp] theorem State.updPort_repairDue (s a1 a2) : (State.updPort s a1 a2).repairDue = s.repairDue := (rfl)
@[simp] theorem State.updPort_units (s a1 a2) : (State.updPort s a1 a2).units = s.units := (rfl)
@[simp] theorem State.updPort_groups (s a1 a2) : (State.updPort s a1 a2).groups = s.groups := (rfl)
@[simp] theorem State.updPort_spares (s a1 a2) : (State.updPort s a1 a2).spares = s.spares := (rfl)
@[simp] theorem State.updPort_chans (s a1 a2) : (State.updPort s a1 a2).chans = s.chans := (rfl)
@[simp] theorem State.updPort_slices (s a1 a2) : (State.updPort s a1 a2).slices = s.slices := (rfl)
@[simp] theorem State.updPort_links (s a1 a2) : (State.updPort s a1 a2).links = s.links := (rfl)
@[simp] theorem State.updPort_um (s a1 a2) : (State.updPort s a1 a2).um = s.um := (rfl)
@[simp] theorem State.updPort_pw (s a1 a2) : (State.updPort s a1 a2).pw = s.pw := (rfl)
@[simp] theorem State.updPort_rs (s a1 a2) : (State.updPort s a1 a2).rs = s.rs := (rfl)
@[simp] theorem State.updPort_cl (s a1 a2) : (State.updPort s a1 a2).cl = s.cl := (rfl)
@[simp] theorem State.updPort_tw (s a1 a2) : (State.updPort s a1 a2).tw = s.tw := (rfl)
@[simp] theorem State.updPort_sec (s a1 a2) : (State.updPort s a1 a2).sec = s.sec := (rfl)
@[simp] theorem State.updPort_flash (s a1 a2) : (State.updPort s a1 a2).flash = s.flash := (rfl)
@[simp] theorem State.updPort_image (s a1 a2) : (State.updPort s a1 a2).image = s.image := (rfl)
@[simp] theorem State.updPort_fresh (s a1 a2) : (State.updPort s a1 a2).fresh = s.fresh := (rfl)
@[simp] theorem State.updPort_out (s a1 a2) : (State.updPort s a1 a2).out = s.out := (rfl)
@[simp] theorem State.updPort_hot (s a1 a2) : (State.updPort s a1 a2).hot = s.hot := (rfl)
@[simp] theorem State.updPort_eg (s a1 a2) : (State.updPort s a1 a2).eg = s.eg := (rfl)
@[simp] theorem State.updPort_calDue (s a1 a2) : (State.updPort s a1 a2).calDue = s.calDue := (rfl)
@[simp] theorem State.setRepairDue_pending (s a1) : (State.setRepairDue s a1).pending = s.pending := (rfl)
@[simp] theorem State.setRepairDue_ticks (s a1) : (State.setRepairDue s a1).ticks = s.ticks := (rfl)
@[simp] theorem State.setRepairDue_aon (s a1) : (State.setRepairDue s a1).aon = s.aon := (rfl)
@[simp] theorem State.setRepairDue_aonLeft (s a1) : (State.setRepairDue s a1).aonLeft = s.aonLeft := (rfl)
@[simp] theorem State.setRepairDue_core (s a1) : (State.setRepairDue s a1).core = s.core := (rfl)
@[simp] theorem State.setRepairDue_coreQ (s a1) : (State.setRepairDue s a1).coreQ = s.coreQ := (rfl)
@[simp] theorem State.setRepairDue_regs (s a1) : (State.setRepairDue s a1).regs = s.regs := (rfl)
@[simp] theorem State.setRepairDue_gen (s a1) : (State.setRepairDue s a1).gen = s.gen := (rfl)
@[simp] theorem State.setRepairDue_staged (s a1) : (State.setRepairDue s a1).staged = s.staged := (rfl)
@[simp] theorem State.setRepairDue_latches (s a1) : (State.setRepairDue s a1).latches = s.latches := (rfl)
@[simp] theorem State.setRepairDue_heldWr (s a1) : (State.setRepairDue s a1).heldWr = s.heldWr := (rfl)
@[simp] theorem State.setRepairDue_tk (s a1) : (State.setRepairDue s a1).tk = s.tk := (rfl)
@[simp] theorem State.setRepairDue_log (s a1) : (State.setRepairDue s a1).log = s.log := (rfl)
@[simp] theorem State.setRepairDue_calBad (s a1) : (State.setRepairDue s a1).calBad = s.calBad := (rfl)
@[simp] theorem State.setRepairDue_pails (s a1) : (State.setRepairDue s a1).pails = s.pails := (rfl)
@[simp] theorem State.setRepairDue_banks (s a1) : (State.setRepairDue s a1).banks = s.banks := (rfl)
@[simp] theorem State.setRepairDue_units (s a1) : (State.setRepairDue s a1).units = s.units := (rfl)
@[simp] theorem State.setRepairDue_groups (s a1) : (State.setRepairDue s a1).groups = s.groups := (rfl)
@[simp] theorem State.setRepairDue_spares (s a1) : (State.setRepairDue s a1).spares = s.spares := (rfl)
@[simp] theorem State.setRepairDue_chans (s a1) : (State.setRepairDue s a1).chans = s.chans := (rfl)
@[simp] theorem State.setRepairDue_slices (s a1) : (State.setRepairDue s a1).slices = s.slices := (rfl)
@[simp] theorem State.setRepairDue_ports (s a1) : (State.setRepairDue s a1).ports = s.ports := (rfl)
@[simp] theorem State.setRepairDue_links (s a1) : (State.setRepairDue s a1).links = s.links := (rfl)
@[simp] theorem State.setRepairDue_um (s a1) : (State.setRepairDue s a1).um = s.um := (rfl)
@[simp] theorem State.setRepairDue_pw (s a1) : (State.setRepairDue s a1).pw = s.pw := (rfl)
@[simp] theorem State.setRepairDue_rs (s a1) : (State.setRepairDue s a1).rs = s.rs := (rfl)
@[simp] theorem State.setRepairDue_cl (s a1) : (State.setRepairDue s a1).cl = s.cl := (rfl)
@[simp] theorem State.setRepairDue_tw (s a1) : (State.setRepairDue s a1).tw = s.tw := (rfl)
@[simp] theorem State.setRepairDue_sec (s a1) : (State.setRepairDue s a1).sec = s.sec := (rfl)
@[simp] theorem State.setRepairDue_flash (s a1) : (State.setRepairDue s a1).flash = s.flash := (rfl)
@[simp] theorem State.setRepairDue_image (s a1) : (State.setRepairDue s a1).image = s.image := (rfl)
@[simp] theorem State.setRepairDue_fresh (s a1) : (State.setRepairDue s a1).fresh = s.fresh := (rfl)
@[simp] theorem State.setRepairDue_out (s a1) : (State.setRepairDue s a1).out = s.out := (rfl)
@[simp] theorem State.setRepairDue_hot (s a1) : (State.setRepairDue s a1).hot = s.hot := (rfl)
@[simp] theorem State.setRepairDue_eg (s a1) : (State.setRepairDue s a1).eg = s.eg := (rfl)
@[simp] theorem State.setRepairDue_calDue (s a1) : (State.setRepairDue s a1).calDue = s.calDue := (rfl)
@[simp] theorem State.updSlice_pending (s a1 a2) : (State.updSlice s a1 a2).pending = s.pending := (rfl)
@[simp] theorem State.updSlice_ticks (s a1 a2) : (State.updSlice s a1 a2).ticks = s.ticks := (rfl)
@[simp] theorem State.updSlice_aon (s a1 a2) : (State.updSlice s a1 a2).aon = s.aon := (rfl)
@[simp] theorem State.updSlice_aonLeft (s a1 a2) : (State.updSlice s a1 a2).aonLeft = s.aonLeft := (rfl)
@[simp] theorem State.updSlice_core (s a1 a2) : (State.updSlice s a1 a2).core = s.core := (rfl)
@[simp] theorem State.updSlice_coreQ (s a1 a2) : (State.updSlice s a1 a2).coreQ = s.coreQ := (rfl)
@[simp] theorem State.updSlice_regs (s a1 a2) : (State.updSlice s a1 a2).regs = s.regs := (rfl)
@[simp] theorem State.updSlice_gen (s a1 a2) : (State.updSlice s a1 a2).gen = s.gen := (rfl)
@[simp] theorem State.updSlice_staged (s a1 a2) : (State.updSlice s a1 a2).staged = s.staged := (rfl)
@[simp] theorem State.updSlice_latches (s a1 a2) : (State.updSlice s a1 a2).latches = s.latches := (rfl)
@[simp] theorem State.updSlice_heldWr (s a1 a2) : (State.updSlice s a1 a2).heldWr = s.heldWr := (rfl)
@[simp] theorem State.updSlice_tk (s a1 a2) : (State.updSlice s a1 a2).tk = s.tk := (rfl)
@[simp] theorem State.updSlice_log (s a1 a2) : (State.updSlice s a1 a2).log = s.log := (rfl)
@[simp] theorem State.updSlice_calBad (s a1 a2) : (State.updSlice s a1 a2).calBad = s.calBad := (rfl)
@[simp] theorem State.updSlice_pails (s a1 a2) : (State.updSlice s a1 a2).pails = s.pails := (rfl)
@[simp] theorem State.updSlice_banks (s a1 a2) : (State.updSlice s a1 a2).banks = s.banks := (rfl)
@[simp] theorem State.updSlice_repairDue (s a1 a2) : (State.updSlice s a1 a2).repairDue = s.repairDue := (rfl)
@[simp] theorem State.updSlice_units (s a1 a2) : (State.updSlice s a1 a2).units = s.units := (rfl)
@[simp] theorem State.updSlice_groups (s a1 a2) : (State.updSlice s a1 a2).groups = s.groups := (rfl)
@[simp] theorem State.updSlice_spares (s a1 a2) : (State.updSlice s a1 a2).spares = s.spares := (rfl)
@[simp] theorem State.updSlice_chans (s a1 a2) : (State.updSlice s a1 a2).chans = s.chans := (rfl)
@[simp] theorem State.updSlice_ports (s a1 a2) : (State.updSlice s a1 a2).ports = s.ports := (rfl)
@[simp] theorem State.updSlice_links (s a1 a2) : (State.updSlice s a1 a2).links = s.links := (rfl)
@[simp] theorem State.updSlice_um (s a1 a2) : (State.updSlice s a1 a2).um = s.um := (rfl)
@[simp] theorem State.updSlice_pw (s a1 a2) : (State.updSlice s a1 a2).pw = s.pw := (rfl)
@[simp] theorem State.updSlice_rs (s a1 a2) : (State.updSlice s a1 a2).rs = s.rs := (rfl)
@[simp] theorem State.updSlice_cl (s a1 a2) : (State.updSlice s a1 a2).cl = s.cl := (rfl)
@[simp] theorem State.updSlice_tw (s a1 a2) : (State.updSlice s a1 a2).tw = s.tw := (rfl)
@[simp] theorem State.updSlice_sec (s a1 a2) : (State.updSlice s a1 a2).sec = s.sec := (rfl)
@[simp] theorem State.updSlice_flash (s a1 a2) : (State.updSlice s a1 a2).flash = s.flash := (rfl)
@[simp] theorem State.updSlice_image (s a1 a2) : (State.updSlice s a1 a2).image = s.image := (rfl)
@[simp] theorem State.updSlice_fresh (s a1 a2) : (State.updSlice s a1 a2).fresh = s.fresh := (rfl)
@[simp] theorem State.updSlice_out (s a1 a2) : (State.updSlice s a1 a2).out = s.out := (rfl)
@[simp] theorem State.updSlice_hot (s a1 a2) : (State.updSlice s a1 a2).hot = s.hot := (rfl)
@[simp] theorem State.updSlice_eg (s a1 a2) : (State.updSlice s a1 a2).eg = s.eg := (rfl)
@[simp] theorem State.updSlice_calDue (s a1 a2) : (State.updSlice s a1 a2).calDue = s.calDue := (rfl)
@[simp] theorem State.dropStaged_pending (s) : (State.dropStaged s).pending = s.pending := (rfl)
@[simp] theorem State.dropStaged_ticks (s) : (State.dropStaged s).ticks = s.ticks := (rfl)
@[simp] theorem State.dropStaged_aon (s) : (State.dropStaged s).aon = s.aon := (rfl)
@[simp] theorem State.dropStaged_aonLeft (s) : (State.dropStaged s).aonLeft = s.aonLeft := (rfl)
@[simp] theorem State.dropStaged_core (s) : (State.dropStaged s).core = s.core := (rfl)
@[simp] theorem State.dropStaged_coreQ (s) : (State.dropStaged s).coreQ = s.coreQ := (rfl)
@[simp] theorem State.dropStaged_regs (s) : (State.dropStaged s).regs = s.regs := (rfl)
@[simp] theorem State.dropStaged_gen (s) : (State.dropStaged s).gen = s.gen := (rfl)
@[simp] theorem State.dropStaged_latches (s) : (State.dropStaged s).latches = s.latches := (rfl)
@[simp] theorem State.dropStaged_heldWr (s) : (State.dropStaged s).heldWr = s.heldWr := (rfl)
@[simp] theorem State.dropStaged_tk (s) : (State.dropStaged s).tk = s.tk := (rfl)
@[simp] theorem State.dropStaged_log (s) : (State.dropStaged s).log = s.log := (rfl)
@[simp] theorem State.dropStaged_calBad (s) : (State.dropStaged s).calBad = s.calBad := (rfl)
@[simp] theorem State.dropStaged_pails (s) : (State.dropStaged s).pails = s.pails := (rfl)
@[simp] theorem State.dropStaged_banks (s) : (State.dropStaged s).banks = s.banks := (rfl)
@[simp] theorem State.dropStaged_repairDue (s) : (State.dropStaged s).repairDue = s.repairDue := (rfl)
@[simp] theorem State.dropStaged_units (s) : (State.dropStaged s).units = s.units := (rfl)
@[simp] theorem State.dropStaged_groups (s) : (State.dropStaged s).groups = s.groups := (rfl)
@[simp] theorem State.dropStaged_spares (s) : (State.dropStaged s).spares = s.spares := (rfl)
@[simp] theorem State.dropStaged_chans (s) : (State.dropStaged s).chans = s.chans := (rfl)
@[simp] theorem State.dropStaged_slices (s) : (State.dropStaged s).slices = s.slices := (rfl)
@[simp] theorem State.dropStaged_ports (s) : (State.dropStaged s).ports = s.ports := (rfl)
@[simp] theorem State.dropStaged_links (s) : (State.dropStaged s).links = s.links := (rfl)
@[simp] theorem State.dropStaged_um (s) : (State.dropStaged s).um = s.um := (rfl)
@[simp] theorem State.dropStaged_pw (s) : (State.dropStaged s).pw = s.pw := (rfl)
@[simp] theorem State.dropStaged_rs (s) : (State.dropStaged s).rs = s.rs := (rfl)
@[simp] theorem State.dropStaged_cl (s) : (State.dropStaged s).cl = s.cl := (rfl)
@[simp] theorem State.dropStaged_tw (s) : (State.dropStaged s).tw = s.tw := (rfl)
@[simp] theorem State.dropStaged_sec (s) : (State.dropStaged s).sec = s.sec := (rfl)
@[simp] theorem State.dropStaged_flash (s) : (State.dropStaged s).flash = s.flash := (rfl)
@[simp] theorem State.dropStaged_image (s) : (State.dropStaged s).image = s.image := (rfl)
@[simp] theorem State.dropStaged_fresh (s) : (State.dropStaged s).fresh = s.fresh := (rfl)
@[simp] theorem State.dropStaged_out (s) : (State.dropStaged s).out = s.out := (rfl)
@[simp] theorem State.dropStaged_hot (s) : (State.dropStaged s).hot = s.hot := (rfl)
@[simp] theorem State.dropStaged_eg (s) : (State.dropStaged s).eg = s.eg := (rfl)
@[simp] theorem State.dropStaged_calDue (s) : (State.dropStaged s).calDue = s.calDue := (rfl)
@[simp] theorem State.updTk_pending (s a1) : (State.updTk s a1).pending = s.pending := (rfl)
@[simp] theorem State.updTk_ticks (s a1) : (State.updTk s a1).ticks = s.ticks := (rfl)
@[simp] theorem State.updTk_aon (s a1) : (State.updTk s a1).aon = s.aon := (rfl)
@[simp] theorem State.updTk_aonLeft (s a1) : (State.updTk s a1).aonLeft = s.aonLeft := (rfl)
@[simp] theorem State.updTk_core (s a1) : (State.updTk s a1).core = s.core := (rfl)
@[simp] theorem State.updTk_coreQ (s a1) : (State.updTk s a1).coreQ = s.coreQ := (rfl)
@[simp] theorem State.updTk_regs (s a1) : (State.updTk s a1).regs = s.regs := (rfl)
@[simp] theorem State.updTk_gen (s a1) : (State.updTk s a1).gen = s.gen := (rfl)
@[simp] theorem State.updTk_staged (s a1) : (State.updTk s a1).staged = s.staged := (rfl)
@[simp] theorem State.updTk_latches (s a1) : (State.updTk s a1).latches = s.latches := (rfl)
@[simp] theorem State.updTk_heldWr (s a1) : (State.updTk s a1).heldWr = s.heldWr := (rfl)
@[simp] theorem State.updTk_log (s a1) : (State.updTk s a1).log = s.log := (rfl)
@[simp] theorem State.updTk_calBad (s a1) : (State.updTk s a1).calBad = s.calBad := (rfl)
@[simp] theorem State.updTk_pails (s a1) : (State.updTk s a1).pails = s.pails := (rfl)
@[simp] theorem State.updTk_banks (s a1) : (State.updTk s a1).banks = s.banks := (rfl)
@[simp] theorem State.updTk_repairDue (s a1) : (State.updTk s a1).repairDue = s.repairDue := (rfl)
@[simp] theorem State.updTk_units (s a1) : (State.updTk s a1).units = s.units := (rfl)
@[simp] theorem State.updTk_groups (s a1) : (State.updTk s a1).groups = s.groups := (rfl)
@[simp] theorem State.updTk_spares (s a1) : (State.updTk s a1).spares = s.spares := (rfl)
@[simp] theorem State.updTk_chans (s a1) : (State.updTk s a1).chans = s.chans := (rfl)
@[simp] theorem State.updTk_slices (s a1) : (State.updTk s a1).slices = s.slices := (rfl)
@[simp] theorem State.updTk_ports (s a1) : (State.updTk s a1).ports = s.ports := (rfl)
@[simp] theorem State.updTk_links (s a1) : (State.updTk s a1).links = s.links := (rfl)
@[simp] theorem State.updTk_um (s a1) : (State.updTk s a1).um = s.um := (rfl)
@[simp] theorem State.updTk_pw (s a1) : (State.updTk s a1).pw = s.pw := (rfl)
@[simp] theorem State.updTk_rs (s a1) : (State.updTk s a1).rs = s.rs := (rfl)
@[simp] theorem State.updTk_cl (s a1) : (State.updTk s a1).cl = s.cl := (rfl)
@[simp] theorem State.updTk_tw (s a1) : (State.updTk s a1).tw = s.tw := (rfl)
@[simp] theorem State.updTk_sec (s a1) : (State.updTk s a1).sec = s.sec := (rfl)
@[simp] theorem State.updTk_flash (s a1) : (State.updTk s a1).flash = s.flash := (rfl)
@[simp] theorem State.updTk_image (s a1) : (State.updTk s a1).image = s.image := (rfl)
@[simp] theorem State.updTk_fresh (s a1) : (State.updTk s a1).fresh = s.fresh := (rfl)
@[simp] theorem State.updTk_out (s a1) : (State.updTk s a1).out = s.out := (rfl)
@[simp] theorem State.updTk_hot (s a1) : (State.updTk s a1).hot = s.hot := (rfl)
@[simp] theorem State.updTk_eg (s a1) : (State.updTk s a1).eg = s.eg := (rfl)
@[simp] theorem State.updTk_calDue (s a1) : (State.updTk s a1).calDue = s.calDue := (rfl)
@[simp] theorem State.updSec_pending (s a1) : (State.updSec s a1).pending = s.pending := (rfl)
@[simp] theorem State.updSec_ticks (s a1) : (State.updSec s a1).ticks = s.ticks := (rfl)
@[simp] theorem State.updSec_aon (s a1) : (State.updSec s a1).aon = s.aon := (rfl)
@[simp] theorem State.updSec_aonLeft (s a1) : (State.updSec s a1).aonLeft = s.aonLeft := (rfl)
@[simp] theorem State.updSec_core (s a1) : (State.updSec s a1).core = s.core := (rfl)
@[simp] theorem State.updSec_coreQ (s a1) : (State.updSec s a1).coreQ = s.coreQ := (rfl)
@[simp] theorem State.updSec_regs (s a1) : (State.updSec s a1).regs = s.regs := (rfl)
@[simp] theorem State.updSec_gen (s a1) : (State.updSec s a1).gen = s.gen := (rfl)
@[simp] theorem State.updSec_staged (s a1) : (State.updSec s a1).staged = s.staged := (rfl)
@[simp] theorem State.updSec_latches (s a1) : (State.updSec s a1).latches = s.latches := (rfl)
@[simp] theorem State.updSec_heldWr (s a1) : (State.updSec s a1).heldWr = s.heldWr := (rfl)
@[simp] theorem State.updSec_tk (s a1) : (State.updSec s a1).tk = s.tk := (rfl)
@[simp] theorem State.updSec_log (s a1) : (State.updSec s a1).log = s.log := (rfl)
@[simp] theorem State.updSec_calBad (s a1) : (State.updSec s a1).calBad = s.calBad := (rfl)
@[simp] theorem State.updSec_pails (s a1) : (State.updSec s a1).pails = s.pails := (rfl)
@[simp] theorem State.updSec_banks (s a1) : (State.updSec s a1).banks = s.banks := (rfl)
@[simp] theorem State.updSec_repairDue (s a1) : (State.updSec s a1).repairDue = s.repairDue := (rfl)
@[simp] theorem State.updSec_units (s a1) : (State.updSec s a1).units = s.units := (rfl)
@[simp] theorem State.updSec_groups (s a1) : (State.updSec s a1).groups = s.groups := (rfl)
@[simp] theorem State.updSec_spares (s a1) : (State.updSec s a1).spares = s.spares := (rfl)
@[simp] theorem State.updSec_chans (s a1) : (State.updSec s a1).chans = s.chans := (rfl)
@[simp] theorem State.updSec_slices (s a1) : (State.updSec s a1).slices = s.slices := (rfl)
@[simp] theorem State.updSec_ports (s a1) : (State.updSec s a1).ports = s.ports := (rfl)
@[simp] theorem State.updSec_links (s a1) : (State.updSec s a1).links = s.links := (rfl)
@[simp] theorem State.updSec_um (s a1) : (State.updSec s a1).um = s.um := (rfl)
@[simp] theorem State.updSec_pw (s a1) : (State.updSec s a1).pw = s.pw := (rfl)
@[simp] theorem State.updSec_rs (s a1) : (State.updSec s a1).rs = s.rs := (rfl)
@[simp] theorem State.updSec_cl (s a1) : (State.updSec s a1).cl = s.cl := (rfl)
@[simp] theorem State.updSec_tw (s a1) : (State.updSec s a1).tw = s.tw := (rfl)
@[simp] theorem State.updSec_flash (s a1) : (State.updSec s a1).flash = s.flash := (rfl)
@[simp] theorem State.updSec_image (s a1) : (State.updSec s a1).image = s.image := (rfl)
@[simp] theorem State.updSec_fresh (s a1) : (State.updSec s a1).fresh = s.fresh := (rfl)
@[simp] theorem State.updSec_out (s a1) : (State.updSec s a1).out = s.out := (rfl)
@[simp] theorem State.updSec_hot (s a1) : (State.updSec s a1).hot = s.hot := (rfl)
@[simp] theorem State.updSec_eg (s a1) : (State.updSec s a1).eg = s.eg := (rfl)
@[simp] theorem State.updSec_calDue (s a1) : (State.updSec s a1).calDue = s.calDue := (rfl)
@[simp] theorem State.updPw_pending (s a1) : (State.updPw s a1).pending = s.pending := (rfl)
@[simp] theorem State.updPw_ticks (s a1) : (State.updPw s a1).ticks = s.ticks := (rfl)
@[simp] theorem State.updPw_aon (s a1) : (State.updPw s a1).aon = s.aon := (rfl)
@[simp] theorem State.updPw_aonLeft (s a1) : (State.updPw s a1).aonLeft = s.aonLeft := (rfl)
@[simp] theorem State.updPw_core (s a1) : (State.updPw s a1).core = s.core := (rfl)
@[simp] theorem State.updPw_coreQ (s a1) : (State.updPw s a1).coreQ = s.coreQ := (rfl)
@[simp] theorem State.updPw_regs (s a1) : (State.updPw s a1).regs = s.regs := (rfl)
@[simp] theorem State.updPw_gen (s a1) : (State.updPw s a1).gen = s.gen := (rfl)
@[simp] theorem State.updPw_staged (s a1) : (State.updPw s a1).staged = s.staged := (rfl)
@[simp] theorem State.updPw_latches (s a1) : (State.updPw s a1).latches = s.latches := (rfl)
@[simp] theorem State.updPw_heldWr (s a1) : (State.updPw s a1).heldWr = s.heldWr := (rfl)
@[simp] theorem State.updPw_tk (s a1) : (State.updPw s a1).tk = s.tk := (rfl)
@[simp] theorem State.updPw_log (s a1) : (State.updPw s a1).log = s.log := (rfl)
@[simp] theorem State.updPw_calBad (s a1) : (State.updPw s a1).calBad = s.calBad := (rfl)
@[simp] theorem State.updPw_pails (s a1) : (State.updPw s a1).pails = s.pails := (rfl)
@[simp] theorem State.updPw_banks (s a1) : (State.updPw s a1).banks = s.banks := (rfl)
@[simp] theorem State.updPw_repairDue (s a1) : (State.updPw s a1).repairDue = s.repairDue := (rfl)
@[simp] theorem State.updPw_units (s a1) : (State.updPw s a1).units = s.units := (rfl)
@[simp] theorem State.updPw_groups (s a1) : (State.updPw s a1).groups = s.groups := (rfl)
@[simp] theorem State.updPw_spares (s a1) : (State.updPw s a1).spares = s.spares := (rfl)
@[simp] theorem State.updPw_chans (s a1) : (State.updPw s a1).chans = s.chans := (rfl)
@[simp] theorem State.updPw_slices (s a1) : (State.updPw s a1).slices = s.slices := (rfl)
@[simp] theorem State.updPw_ports (s a1) : (State.updPw s a1).ports = s.ports := (rfl)
@[simp] theorem State.updPw_links (s a1) : (State.updPw s a1).links = s.links := (rfl)
@[simp] theorem State.updPw_um (s a1) : (State.updPw s a1).um = s.um := (rfl)
@[simp] theorem State.updPw_rs (s a1) : (State.updPw s a1).rs = s.rs := (rfl)
@[simp] theorem State.updPw_cl (s a1) : (State.updPw s a1).cl = s.cl := (rfl)
@[simp] theorem State.updPw_tw (s a1) : (State.updPw s a1).tw = s.tw := (rfl)
@[simp] theorem State.updPw_sec (s a1) : (State.updPw s a1).sec = s.sec := (rfl)
@[simp] theorem State.updPw_flash (s a1) : (State.updPw s a1).flash = s.flash := (rfl)
@[simp] theorem State.updPw_image (s a1) : (State.updPw s a1).image = s.image := (rfl)
@[simp] theorem State.updPw_fresh (s a1) : (State.updPw s a1).fresh = s.fresh := (rfl)
@[simp] theorem State.updPw_out (s a1) : (State.updPw s a1).out = s.out := (rfl)
@[simp] theorem State.updPw_hot (s a1) : (State.updPw s a1).hot = s.hot := (rfl)
@[simp] theorem State.updPw_eg (s a1) : (State.updPw s a1).eg = s.eg := (rfl)
@[simp] theorem State.updPw_calDue (s a1) : (State.updPw s a1).calDue = s.calDue := (rfl)
@[simp] theorem State.setLatches_pending (s a1) : (State.setLatches s a1).pending = s.pending := (rfl)
@[simp] theorem State.setLatches_ticks (s a1) : (State.setLatches s a1).ticks = s.ticks := (rfl)
@[simp] theorem State.setLatches_aon (s a1) : (State.setLatches s a1).aon = s.aon := (rfl)
@[simp] theorem State.setLatches_aonLeft (s a1) : (State.setLatches s a1).aonLeft = s.aonLeft := (rfl)
@[simp] theorem State.setLatches_core (s a1) : (State.setLatches s a1).core = s.core := (rfl)
@[simp] theorem State.setLatches_coreQ (s a1) : (State.setLatches s a1).coreQ = s.coreQ := (rfl)
@[simp] theorem State.setLatches_regs (s a1) : (State.setLatches s a1).regs = s.regs := (rfl)
@[simp] theorem State.setLatches_gen (s a1) : (State.setLatches s a1).gen = s.gen := (rfl)
@[simp] theorem State.setLatches_staged (s a1) : (State.setLatches s a1).staged = s.staged := (rfl)
@[simp] theorem State.setLatches_heldWr (s a1) : (State.setLatches s a1).heldWr = s.heldWr := (rfl)
@[simp] theorem State.setLatches_tk (s a1) : (State.setLatches s a1).tk = s.tk := (rfl)
@[simp] theorem State.setLatches_log (s a1) : (State.setLatches s a1).log = s.log := (rfl)
@[simp] theorem State.setLatches_calBad (s a1) : (State.setLatches s a1).calBad = s.calBad := (rfl)
@[simp] theorem State.setLatches_pails (s a1) : (State.setLatches s a1).pails = s.pails := (rfl)
@[simp] theorem State.setLatches_banks (s a1) : (State.setLatches s a1).banks = s.banks := (rfl)
@[simp] theorem State.setLatches_repairDue (s a1) : (State.setLatches s a1).repairDue = s.repairDue := (rfl)
@[simp] theorem State.setLatches_units (s a1) : (State.setLatches s a1).units = s.units := (rfl)
@[simp] theorem State.setLatches_groups (s a1) : (State.setLatches s a1).groups = s.groups := (rfl)
@[simp] theorem State.setLatches_spares (s a1) : (State.setLatches s a1).spares = s.spares := (rfl)
@[simp] theorem State.setLatches_chans (s a1) : (State.setLatches s a1).chans = s.chans := (rfl)
@[simp] theorem State.setLatches_slices (s a1) : (State.setLatches s a1).slices = s.slices := (rfl)
@[simp] theorem State.setLatches_ports (s a1) : (State.setLatches s a1).ports = s.ports := (rfl)
@[simp] theorem State.setLatches_links (s a1) : (State.setLatches s a1).links = s.links := (rfl)
@[simp] theorem State.setLatches_um (s a1) : (State.setLatches s a1).um = s.um := (rfl)
@[simp] theorem State.setLatches_pw (s a1) : (State.setLatches s a1).pw = s.pw := (rfl)
@[simp] theorem State.setLatches_rs (s a1) : (State.setLatches s a1).rs = s.rs := (rfl)
@[simp] theorem State.setLatches_cl (s a1) : (State.setLatches s a1).cl = s.cl := (rfl)
@[simp] theorem State.setLatches_tw (s a1) : (State.setLatches s a1).tw = s.tw := (rfl)
@[simp] theorem State.setLatches_sec (s a1) : (State.setLatches s a1).sec = s.sec := (rfl)
@[simp] theorem State.setLatches_flash (s a1) : (State.setLatches s a1).flash = s.flash := (rfl)
@[simp] theorem State.setLatches_image (s a1) : (State.setLatches s a1).image = s.image := (rfl)
@[simp] theorem State.setLatches_fresh (s a1) : (State.setLatches s a1).fresh = s.fresh := (rfl)
@[simp] theorem State.setLatches_out (s a1) : (State.setLatches s a1).out = s.out := (rfl)
@[simp] theorem State.setLatches_hot (s a1) : (State.setLatches s a1).hot = s.hot := (rfl)
@[simp] theorem State.setLatches_eg (s a1) : (State.setLatches s a1).eg = s.eg := (rfl)
@[simp] theorem State.setLatches_calDue (s a1) : (State.setLatches s a1).calDue = s.calDue := (rfl)
@[simp] theorem State.setLog_pending (s a1) : (State.setLog s a1).pending = s.pending := (rfl)
@[simp] theorem State.setLog_ticks (s a1) : (State.setLog s a1).ticks = s.ticks := (rfl)
@[simp] theorem State.setLog_aon (s a1) : (State.setLog s a1).aon = s.aon := (rfl)
@[simp] theorem State.setLog_aonLeft (s a1) : (State.setLog s a1).aonLeft = s.aonLeft := (rfl)
@[simp] theorem State.setLog_core (s a1) : (State.setLog s a1).core = s.core := (rfl)
@[simp] theorem State.setLog_coreQ (s a1) : (State.setLog s a1).coreQ = s.coreQ := (rfl)
@[simp] theorem State.setLog_regs (s a1) : (State.setLog s a1).regs = s.regs := (rfl)
@[simp] theorem State.setLog_gen (s a1) : (State.setLog s a1).gen = s.gen := (rfl)
@[simp] theorem State.setLog_staged (s a1) : (State.setLog s a1).staged = s.staged := (rfl)
@[simp] theorem State.setLog_latches (s a1) : (State.setLog s a1).latches = s.latches := (rfl)
@[simp] theorem State.setLog_heldWr (s a1) : (State.setLog s a1).heldWr = s.heldWr := (rfl)
@[simp] theorem State.setLog_tk (s a1) : (State.setLog s a1).tk = s.tk := (rfl)
@[simp] theorem State.setLog_calBad (s a1) : (State.setLog s a1).calBad = s.calBad := (rfl)
@[simp] theorem State.setLog_pails (s a1) : (State.setLog s a1).pails = s.pails := (rfl)
@[simp] theorem State.setLog_banks (s a1) : (State.setLog s a1).banks = s.banks := (rfl)
@[simp] theorem State.setLog_repairDue (s a1) : (State.setLog s a1).repairDue = s.repairDue := (rfl)
@[simp] theorem State.setLog_units (s a1) : (State.setLog s a1).units = s.units := (rfl)
@[simp] theorem State.setLog_groups (s a1) : (State.setLog s a1).groups = s.groups := (rfl)
@[simp] theorem State.setLog_spares (s a1) : (State.setLog s a1).spares = s.spares := (rfl)
@[simp] theorem State.setLog_chans (s a1) : (State.setLog s a1).chans = s.chans := (rfl)
@[simp] theorem State.setLog_slices (s a1) : (State.setLog s a1).slices = s.slices := (rfl)
@[simp] theorem State.setLog_ports (s a1) : (State.setLog s a1).ports = s.ports := (rfl)
@[simp] theorem State.setLog_links (s a1) : (State.setLog s a1).links = s.links := (rfl)
@[simp] theorem State.setLog_um (s a1) : (State.setLog s a1).um = s.um := (rfl)
@[simp] theorem State.setLog_pw (s a1) : (State.setLog s a1).pw = s.pw := (rfl)
@[simp] theorem State.setLog_rs (s a1) : (State.setLog s a1).rs = s.rs := (rfl)
@[simp] theorem State.setLog_cl (s a1) : (State.setLog s a1).cl = s.cl := (rfl)
@[simp] theorem State.setLog_tw (s a1) : (State.setLog s a1).tw = s.tw := (rfl)
@[simp] theorem State.setLog_sec (s a1) : (State.setLog s a1).sec = s.sec := (rfl)
@[simp] theorem State.setLog_flash (s a1) : (State.setLog s a1).flash = s.flash := (rfl)
@[simp] theorem State.setLog_image (s a1) : (State.setLog s a1).image = s.image := (rfl)
@[simp] theorem State.setLog_fresh (s a1) : (State.setLog s a1).fresh = s.fresh := (rfl)
@[simp] theorem State.setLog_out (s a1) : (State.setLog s a1).out = s.out := (rfl)
@[simp] theorem State.setLog_hot (s a1) : (State.setLog s a1).hot = s.hot := (rfl)
@[simp] theorem State.setLog_eg (s a1) : (State.setLog s a1).eg = s.eg := (rfl)
@[simp] theorem State.setLog_calDue (s a1) : (State.setLog s a1).calDue = s.calDue := (rfl)
@[simp] theorem State.setHeldWr_pending (s a1) : (State.setHeldWr s a1).pending = s.pending := (rfl)
@[simp] theorem State.setHeldWr_ticks (s a1) : (State.setHeldWr s a1).ticks = s.ticks := (rfl)
@[simp] theorem State.setHeldWr_aon (s a1) : (State.setHeldWr s a1).aon = s.aon := (rfl)
@[simp] theorem State.setHeldWr_aonLeft (s a1) : (State.setHeldWr s a1).aonLeft = s.aonLeft := (rfl)
@[simp] theorem State.setHeldWr_core (s a1) : (State.setHeldWr s a1).core = s.core := (rfl)
@[simp] theorem State.setHeldWr_coreQ (s a1) : (State.setHeldWr s a1).coreQ = s.coreQ := (rfl)
@[simp] theorem State.setHeldWr_regs (s a1) : (State.setHeldWr s a1).regs = s.regs := (rfl)
@[simp] theorem State.setHeldWr_gen (s a1) : (State.setHeldWr s a1).gen = s.gen := (rfl)
@[simp] theorem State.setHeldWr_staged (s a1) : (State.setHeldWr s a1).staged = s.staged := (rfl)
@[simp] theorem State.setHeldWr_latches (s a1) : (State.setHeldWr s a1).latches = s.latches := (rfl)
@[simp] theorem State.setHeldWr_tk (s a1) : (State.setHeldWr s a1).tk = s.tk := (rfl)
@[simp] theorem State.setHeldWr_log (s a1) : (State.setHeldWr s a1).log = s.log := (rfl)
@[simp] theorem State.setHeldWr_calBad (s a1) : (State.setHeldWr s a1).calBad = s.calBad := (rfl)
@[simp] theorem State.setHeldWr_pails (s a1) : (State.setHeldWr s a1).pails = s.pails := (rfl)
@[simp] theorem State.setHeldWr_banks (s a1) : (State.setHeldWr s a1).banks = s.banks := (rfl)
@[simp] theorem State.setHeldWr_repairDue (s a1) : (State.setHeldWr s a1).repairDue = s.repairDue := (rfl)
@[simp] theorem State.setHeldWr_units (s a1) : (State.setHeldWr s a1).units = s.units := (rfl)
@[simp] theorem State.setHeldWr_groups (s a1) : (State.setHeldWr s a1).groups = s.groups := (rfl)
@[simp] theorem State.setHeldWr_spares (s a1) : (State.setHeldWr s a1).spares = s.spares := (rfl)
@[simp] theorem State.setHeldWr_chans (s a1) : (State.setHeldWr s a1).chans = s.chans := (rfl)
@[simp] theorem State.setHeldWr_slices (s a1) : (State.setHeldWr s a1).slices = s.slices := (rfl)
@[simp] theorem State.setHeldWr_ports (s a1) : (State.setHeldWr s a1).ports = s.ports := (rfl)
@[simp] theorem State.setHeldWr_links (s a1) : (State.setHeldWr s a1).links = s.links := (rfl)
@[simp] theorem State.setHeldWr_um (s a1) : (State.setHeldWr s a1).um = s.um := (rfl)
@[simp] theorem State.setHeldWr_pw (s a1) : (State.setHeldWr s a1).pw = s.pw := (rfl)
@[simp] theorem State.setHeldWr_rs (s a1) : (State.setHeldWr s a1).rs = s.rs := (rfl)
@[simp] theorem State.setHeldWr_cl (s a1) : (State.setHeldWr s a1).cl = s.cl := (rfl)
@[simp] theorem State.setHeldWr_tw (s a1) : (State.setHeldWr s a1).tw = s.tw := (rfl)
@[simp] theorem State.setHeldWr_sec (s a1) : (State.setHeldWr s a1).sec = s.sec := (rfl)
@[simp] theorem State.setHeldWr_flash (s a1) : (State.setHeldWr s a1).flash = s.flash := (rfl)
@[simp] theorem State.setHeldWr_image (s a1) : (State.setHeldWr s a1).image = s.image := (rfl)
@[simp] theorem State.setHeldWr_fresh (s a1) : (State.setHeldWr s a1).fresh = s.fresh := (rfl)
@[simp] theorem State.setHeldWr_out (s a1) : (State.setHeldWr s a1).out = s.out := (rfl)
@[simp] theorem State.setHeldWr_hot (s a1) : (State.setHeldWr s a1).hot = s.hot := (rfl)
@[simp] theorem State.setHeldWr_eg (s a1) : (State.setHeldWr s a1).eg = s.eg := (rfl)
@[simp] theorem State.setHeldWr_calDue (s a1) : (State.setHeldWr s a1).calDue = s.calDue := (rfl)
@[simp] theorem State.updSpare_pending (s a1 a2) : (State.updSpare s a1 a2).pending = s.pending := (rfl)
@[simp] theorem State.updSpare_ticks (s a1 a2) : (State.updSpare s a1 a2).ticks = s.ticks := (rfl)
@[simp] theorem State.updSpare_aon (s a1 a2) : (State.updSpare s a1 a2).aon = s.aon := (rfl)
@[simp] theorem State.updSpare_aonLeft (s a1 a2) : (State.updSpare s a1 a2).aonLeft = s.aonLeft := (rfl)
@[simp] theorem State.updSpare_core (s a1 a2) : (State.updSpare s a1 a2).core = s.core := (rfl)
@[simp] theorem State.updSpare_coreQ (s a1 a2) : (State.updSpare s a1 a2).coreQ = s.coreQ := (rfl)
@[simp] theorem State.updSpare_regs (s a1 a2) : (State.updSpare s a1 a2).regs = s.regs := (rfl)
@[simp] theorem State.updSpare_gen (s a1 a2) : (State.updSpare s a1 a2).gen = s.gen := (rfl)
@[simp] theorem State.updSpare_staged (s a1 a2) : (State.updSpare s a1 a2).staged = s.staged := (rfl)
@[simp] theorem State.updSpare_latches (s a1 a2) : (State.updSpare s a1 a2).latches = s.latches := (rfl)
@[simp] theorem State.updSpare_heldWr (s a1 a2) : (State.updSpare s a1 a2).heldWr = s.heldWr := (rfl)
@[simp] theorem State.updSpare_tk (s a1 a2) : (State.updSpare s a1 a2).tk = s.tk := (rfl)
@[simp] theorem State.updSpare_log (s a1 a2) : (State.updSpare s a1 a2).log = s.log := (rfl)
@[simp] theorem State.updSpare_calBad (s a1 a2) : (State.updSpare s a1 a2).calBad = s.calBad := (rfl)
@[simp] theorem State.updSpare_pails (s a1 a2) : (State.updSpare s a1 a2).pails = s.pails := (rfl)
@[simp] theorem State.updSpare_banks (s a1 a2) : (State.updSpare s a1 a2).banks = s.banks := (rfl)
@[simp] theorem State.updSpare_repairDue (s a1 a2) : (State.updSpare s a1 a2).repairDue = s.repairDue := (rfl)
@[simp] theorem State.updSpare_units (s a1 a2) : (State.updSpare s a1 a2).units = s.units := (rfl)
@[simp] theorem State.updSpare_groups (s a1 a2) : (State.updSpare s a1 a2).groups = s.groups := (rfl)
@[simp] theorem State.updSpare_chans (s a1 a2) : (State.updSpare s a1 a2).chans = s.chans := (rfl)
@[simp] theorem State.updSpare_slices (s a1 a2) : (State.updSpare s a1 a2).slices = s.slices := (rfl)
@[simp] theorem State.updSpare_ports (s a1 a2) : (State.updSpare s a1 a2).ports = s.ports := (rfl)
@[simp] theorem State.updSpare_links (s a1 a2) : (State.updSpare s a1 a2).links = s.links := (rfl)
@[simp] theorem State.updSpare_um (s a1 a2) : (State.updSpare s a1 a2).um = s.um := (rfl)
@[simp] theorem State.updSpare_pw (s a1 a2) : (State.updSpare s a1 a2).pw = s.pw := (rfl)
@[simp] theorem State.updSpare_rs (s a1 a2) : (State.updSpare s a1 a2).rs = s.rs := (rfl)
@[simp] theorem State.updSpare_cl (s a1 a2) : (State.updSpare s a1 a2).cl = s.cl := (rfl)
@[simp] theorem State.updSpare_tw (s a1 a2) : (State.updSpare s a1 a2).tw = s.tw := (rfl)
@[simp] theorem State.updSpare_sec (s a1 a2) : (State.updSpare s a1 a2).sec = s.sec := (rfl)
@[simp] theorem State.updSpare_flash (s a1 a2) : (State.updSpare s a1 a2).flash = s.flash := (rfl)
@[simp] theorem State.updSpare_image (s a1 a2) : (State.updSpare s a1 a2).image = s.image := (rfl)
@[simp] theorem State.updSpare_fresh (s a1 a2) : (State.updSpare s a1 a2).fresh = s.fresh := (rfl)
@[simp] theorem State.updSpare_out (s a1 a2) : (State.updSpare s a1 a2).out = s.out := (rfl)
@[simp] theorem State.updSpare_hot (s a1 a2) : (State.updSpare s a1 a2).hot = s.hot := (rfl)
@[simp] theorem State.updSpare_eg (s a1 a2) : (State.updSpare s a1 a2).eg = s.eg := (rfl)
@[simp] theorem State.updSpare_calDue (s a1 a2) : (State.updSpare s a1 a2).calDue = s.calDue := (rfl)
@[simp] theorem State.updBank_pending (s a1 a2) : (State.updBank s a1 a2).pending = s.pending := (rfl)
@[simp] theorem State.updBank_ticks (s a1 a2) : (State.updBank s a1 a2).ticks = s.ticks := (rfl)
@[simp] theorem State.updBank_aon (s a1 a2) : (State.updBank s a1 a2).aon = s.aon := (rfl)
@[simp] theorem State.updBank_aonLeft (s a1 a2) : (State.updBank s a1 a2).aonLeft = s.aonLeft := (rfl)
@[simp] theorem State.updBank_core (s a1 a2) : (State.updBank s a1 a2).core = s.core := (rfl)
@[simp] theorem State.updBank_coreQ (s a1 a2) : (State.updBank s a1 a2).coreQ = s.coreQ := (rfl)
@[simp] theorem State.updBank_regs (s a1 a2) : (State.updBank s a1 a2).regs = s.regs := (rfl)
@[simp] theorem State.updBank_gen (s a1 a2) : (State.updBank s a1 a2).gen = s.gen := (rfl)
@[simp] theorem State.updBank_staged (s a1 a2) : (State.updBank s a1 a2).staged = s.staged := (rfl)
@[simp] theorem State.updBank_latches (s a1 a2) : (State.updBank s a1 a2).latches = s.latches := (rfl)
@[simp] theorem State.updBank_heldWr (s a1 a2) : (State.updBank s a1 a2).heldWr = s.heldWr := (rfl)
@[simp] theorem State.updBank_tk (s a1 a2) : (State.updBank s a1 a2).tk = s.tk := (rfl)
@[simp] theorem State.updBank_log (s a1 a2) : (State.updBank s a1 a2).log = s.log := (rfl)
@[simp] theorem State.updBank_calBad (s a1 a2) : (State.updBank s a1 a2).calBad = s.calBad := (rfl)
@[simp] theorem State.updBank_pails (s a1 a2) : (State.updBank s a1 a2).pails = s.pails := (rfl)
@[simp] theorem State.updBank_repairDue (s a1 a2) : (State.updBank s a1 a2).repairDue = s.repairDue := (rfl)
@[simp] theorem State.updBank_units (s a1 a2) : (State.updBank s a1 a2).units = s.units := (rfl)
@[simp] theorem State.updBank_groups (s a1 a2) : (State.updBank s a1 a2).groups = s.groups := (rfl)
@[simp] theorem State.updBank_spares (s a1 a2) : (State.updBank s a1 a2).spares = s.spares := (rfl)
@[simp] theorem State.updBank_chans (s a1 a2) : (State.updBank s a1 a2).chans = s.chans := (rfl)
@[simp] theorem State.updBank_slices (s a1 a2) : (State.updBank s a1 a2).slices = s.slices := (rfl)
@[simp] theorem State.updBank_ports (s a1 a2) : (State.updBank s a1 a2).ports = s.ports := (rfl)
@[simp] theorem State.updBank_links (s a1 a2) : (State.updBank s a1 a2).links = s.links := (rfl)
@[simp] theorem State.updBank_um (s a1 a2) : (State.updBank s a1 a2).um = s.um := (rfl)
@[simp] theorem State.updBank_pw (s a1 a2) : (State.updBank s a1 a2).pw = s.pw := (rfl)
@[simp] theorem State.updBank_rs (s a1 a2) : (State.updBank s a1 a2).rs = s.rs := (rfl)
@[simp] theorem State.updBank_cl (s a1 a2) : (State.updBank s a1 a2).cl = s.cl := (rfl)
@[simp] theorem State.updBank_tw (s a1 a2) : (State.updBank s a1 a2).tw = s.tw := (rfl)
@[simp] theorem State.updBank_sec (s a1 a2) : (State.updBank s a1 a2).sec = s.sec := (rfl)
@[simp] theorem State.updBank_flash (s a1 a2) : (State.updBank s a1 a2).flash = s.flash := (rfl)
@[simp] theorem State.updBank_image (s a1 a2) : (State.updBank s a1 a2).image = s.image := (rfl)
@[simp] theorem State.updBank_fresh (s a1 a2) : (State.updBank s a1 a2).fresh = s.fresh := (rfl)
@[simp] theorem State.updBank_out (s a1 a2) : (State.updBank s a1 a2).out = s.out := (rfl)
@[simp] theorem State.updBank_hot (s a1 a2) : (State.updBank s a1 a2).hot = s.hot := (rfl)
@[simp] theorem State.updBank_eg (s a1 a2) : (State.updBank s a1 a2).eg = s.eg := (rfl)
@[simp] theorem State.updBank_calDue (s a1 a2) : (State.updBank s a1 a2).calDue = s.calDue := (rfl)
@[simp] theorem State.wrS_pending (s a1 a2) : (State.wrS s a1 a2).pending = s.pending := (rfl)
@[simp] theorem State.wrS_ticks (s a1 a2) : (State.wrS s a1 a2).ticks = s.ticks := (rfl)
@[simp] theorem State.wrS_aon (s a1 a2) : (State.wrS s a1 a2).aon = s.aon := (rfl)
@[simp] theorem State.wrS_aonLeft (s a1 a2) : (State.wrS s a1 a2).aonLeft = s.aonLeft := (rfl)
@[simp] theorem State.wrS_core (s a1 a2) : (State.wrS s a1 a2).core = s.core := (rfl)
@[simp] theorem State.wrS_coreQ (s a1 a2) : (State.wrS s a1 a2).coreQ = s.coreQ := (rfl)
@[simp] theorem State.wrS_regs (s a1 a2) : (State.wrS s a1 a2).regs = s.regs := (rfl)
@[simp] theorem State.wrS_gen (s a1 a2) : (State.wrS s a1 a2).gen = s.gen := (rfl)
@[simp] theorem State.wrS_latches (s a1 a2) : (State.wrS s a1 a2).latches = s.latches := (rfl)
@[simp] theorem State.wrS_heldWr (s a1 a2) : (State.wrS s a1 a2).heldWr = s.heldWr := (rfl)
@[simp] theorem State.wrS_tk (s a1 a2) : (State.wrS s a1 a2).tk = s.tk := (rfl)
@[simp] theorem State.wrS_log (s a1 a2) : (State.wrS s a1 a2).log = s.log := (rfl)
@[simp] theorem State.wrS_calBad (s a1 a2) : (State.wrS s a1 a2).calBad = s.calBad := (rfl)
@[simp] theorem State.wrS_pails (s a1 a2) : (State.wrS s a1 a2).pails = s.pails := (rfl)
@[simp] theorem State.wrS_banks (s a1 a2) : (State.wrS s a1 a2).banks = s.banks := (rfl)
@[simp] theorem State.wrS_repairDue (s a1 a2) : (State.wrS s a1 a2).repairDue = s.repairDue := (rfl)
@[simp] theorem State.wrS_units (s a1 a2) : (State.wrS s a1 a2).units = s.units := (rfl)
@[simp] theorem State.wrS_groups (s a1 a2) : (State.wrS s a1 a2).groups = s.groups := (rfl)
@[simp] theorem State.wrS_spares (s a1 a2) : (State.wrS s a1 a2).spares = s.spares := (rfl)
@[simp] theorem State.wrS_chans (s a1 a2) : (State.wrS s a1 a2).chans = s.chans := (rfl)
@[simp] theorem State.wrS_slices (s a1 a2) : (State.wrS s a1 a2).slices = s.slices := (rfl)
@[simp] theorem State.wrS_ports (s a1 a2) : (State.wrS s a1 a2).ports = s.ports := (rfl)
@[simp] theorem State.wrS_links (s a1 a2) : (State.wrS s a1 a2).links = s.links := (rfl)
@[simp] theorem State.wrS_um (s a1 a2) : (State.wrS s a1 a2).um = s.um := (rfl)
@[simp] theorem State.wrS_pw (s a1 a2) : (State.wrS s a1 a2).pw = s.pw := (rfl)
@[simp] theorem State.wrS_rs (s a1 a2) : (State.wrS s a1 a2).rs = s.rs := (rfl)
@[simp] theorem State.wrS_cl (s a1 a2) : (State.wrS s a1 a2).cl = s.cl := (rfl)
@[simp] theorem State.wrS_tw (s a1 a2) : (State.wrS s a1 a2).tw = s.tw := (rfl)
@[simp] theorem State.wrS_sec (s a1 a2) : (State.wrS s a1 a2).sec = s.sec := (rfl)
@[simp] theorem State.wrS_flash (s a1 a2) : (State.wrS s a1 a2).flash = s.flash := (rfl)
@[simp] theorem State.wrS_image (s a1 a2) : (State.wrS s a1 a2).image = s.image := (rfl)
@[simp] theorem State.wrS_fresh (s a1 a2) : (State.wrS s a1 a2).fresh = s.fresh := (rfl)
@[simp] theorem State.wrS_out (s a1 a2) : (State.wrS s a1 a2).out = s.out := (rfl)
@[simp] theorem State.wrS_hot (s a1 a2) : (State.wrS s a1 a2).hot = s.hot := (rfl)
@[simp] theorem State.wrS_eg (s a1 a2) : (State.wrS s a1 a2).eg = s.eg := (rfl)
@[simp] theorem State.wrS_calDue (s a1 a2) : (State.wrS s a1 a2).calDue = s.calDue := (rfl)
@[simp] theorem State.updRs_pending (s a1) : (State.updRs s a1).pending = s.pending := (rfl)
@[simp] theorem State.updRs_ticks (s a1) : (State.updRs s a1).ticks = s.ticks := (rfl)
@[simp] theorem State.updRs_aon (s a1) : (State.updRs s a1).aon = s.aon := (rfl)
@[simp] theorem State.updRs_aonLeft (s a1) : (State.updRs s a1).aonLeft = s.aonLeft := (rfl)
@[simp] theorem State.updRs_core (s a1) : (State.updRs s a1).core = s.core := (rfl)
@[simp] theorem State.updRs_coreQ (s a1) : (State.updRs s a1).coreQ = s.coreQ := (rfl)
@[simp] theorem State.updRs_regs (s a1) : (State.updRs s a1).regs = s.regs := (rfl)
@[simp] theorem State.updRs_gen (s a1) : (State.updRs s a1).gen = s.gen := (rfl)
@[simp] theorem State.updRs_staged (s a1) : (State.updRs s a1).staged = s.staged := (rfl)
@[simp] theorem State.updRs_latches (s a1) : (State.updRs s a1).latches = s.latches := (rfl)
@[simp] theorem State.updRs_heldWr (s a1) : (State.updRs s a1).heldWr = s.heldWr := (rfl)
@[simp] theorem State.updRs_tk (s a1) : (State.updRs s a1).tk = s.tk := (rfl)
@[simp] theorem State.updRs_log (s a1) : (State.updRs s a1).log = s.log := (rfl)
@[simp] theorem State.updRs_calBad (s a1) : (State.updRs s a1).calBad = s.calBad := (rfl)
@[simp] theorem State.updRs_pails (s a1) : (State.updRs s a1).pails = s.pails := (rfl)
@[simp] theorem State.updRs_banks (s a1) : (State.updRs s a1).banks = s.banks := (rfl)
@[simp] theorem State.updRs_repairDue (s a1) : (State.updRs s a1).repairDue = s.repairDue := (rfl)
@[simp] theorem State.updRs_units (s a1) : (State.updRs s a1).units = s.units := (rfl)
@[simp] theorem State.updRs_groups (s a1) : (State.updRs s a1).groups = s.groups := (rfl)
@[simp] theorem State.updRs_spares (s a1) : (State.updRs s a1).spares = s.spares := (rfl)
@[simp] theorem State.updRs_chans (s a1) : (State.updRs s a1).chans = s.chans := (rfl)
@[simp] theorem State.updRs_slices (s a1) : (State.updRs s a1).slices = s.slices := (rfl)
@[simp] theorem State.updRs_ports (s a1) : (State.updRs s a1).ports = s.ports := (rfl)
@[simp] theorem State.updRs_links (s a1) : (State.updRs s a1).links = s.links := (rfl)
@[simp] theorem State.updRs_um (s a1) : (State.updRs s a1).um = s.um := (rfl)
@[simp] theorem State.updRs_pw (s a1) : (State.updRs s a1).pw = s.pw := (rfl)
@[simp] theorem State.updRs_cl (s a1) : (State.updRs s a1).cl = s.cl := (rfl)
@[simp] theorem State.updRs_tw (s a1) : (State.updRs s a1).tw = s.tw := (rfl)
@[simp] theorem State.updRs_sec (s a1) : (State.updRs s a1).sec = s.sec := (rfl)
@[simp] theorem State.updRs_flash (s a1) : (State.updRs s a1).flash = s.flash := (rfl)
@[simp] theorem State.updRs_image (s a1) : (State.updRs s a1).image = s.image := (rfl)
@[simp] theorem State.updRs_fresh (s a1) : (State.updRs s a1).fresh = s.fresh := (rfl)
@[simp] theorem State.updRs_out (s a1) : (State.updRs s a1).out = s.out := (rfl)
@[simp] theorem State.updRs_hot (s a1) : (State.updRs s a1).hot = s.hot := (rfl)
@[simp] theorem State.updRs_eg (s a1) : (State.updRs s a1).eg = s.eg := (rfl)
@[simp] theorem State.updRs_calDue (s a1) : (State.updRs s a1).calDue = s.calDue := (rfl)
@[simp] theorem State.keepRegs_pending (s a1) : (State.keepRegs s a1).pending = s.pending := (rfl)
@[simp] theorem State.keepRegs_ticks (s a1) : (State.keepRegs s a1).ticks = s.ticks := (rfl)
@[simp] theorem State.keepRegs_aon (s a1) : (State.keepRegs s a1).aon = s.aon := (rfl)
@[simp] theorem State.keepRegs_aonLeft (s a1) : (State.keepRegs s a1).aonLeft = s.aonLeft := (rfl)
@[simp] theorem State.keepRegs_core (s a1) : (State.keepRegs s a1).core = s.core := (rfl)
@[simp] theorem State.keepRegs_coreQ (s a1) : (State.keepRegs s a1).coreQ = s.coreQ := (rfl)
@[simp] theorem State.keepRegs_gen (s a1) : (State.keepRegs s a1).gen = s.gen := (rfl)
@[simp] theorem State.keepRegs_staged (s a1) : (State.keepRegs s a1).staged = s.staged := (rfl)
@[simp] theorem State.keepRegs_latches (s a1) : (State.keepRegs s a1).latches = s.latches := (rfl)
@[simp] theorem State.keepRegs_heldWr (s a1) : (State.keepRegs s a1).heldWr = s.heldWr := (rfl)
@[simp] theorem State.keepRegs_tk (s a1) : (State.keepRegs s a1).tk = s.tk := (rfl)
@[simp] theorem State.keepRegs_log (s a1) : (State.keepRegs s a1).log = s.log := (rfl)
@[simp] theorem State.keepRegs_calBad (s a1) : (State.keepRegs s a1).calBad = s.calBad := (rfl)
@[simp] theorem State.keepRegs_pails (s a1) : (State.keepRegs s a1).pails = s.pails := (rfl)
@[simp] theorem State.keepRegs_banks (s a1) : (State.keepRegs s a1).banks = s.banks := (rfl)
@[simp] theorem State.keepRegs_repairDue (s a1) : (State.keepRegs s a1).repairDue = s.repairDue := (rfl)
@[simp] theorem State.keepRegs_units (s a1) : (State.keepRegs s a1).units = s.units := (rfl)
@[simp] theorem State.keepRegs_groups (s a1) : (State.keepRegs s a1).groups = s.groups := (rfl)
@[simp] theorem State.keepRegs_spares (s a1) : (State.keepRegs s a1).spares = s.spares := (rfl)
@[simp] theorem State.keepRegs_chans (s a1) : (State.keepRegs s a1).chans = s.chans := (rfl)
@[simp] theorem State.keepRegs_slices (s a1) : (State.keepRegs s a1).slices = s.slices := (rfl)
@[simp] theorem State.keepRegs_ports (s a1) : (State.keepRegs s a1).ports = s.ports := (rfl)
@[simp] theorem State.keepRegs_links (s a1) : (State.keepRegs s a1).links = s.links := (rfl)
@[simp] theorem State.keepRegs_um (s a1) : (State.keepRegs s a1).um = s.um := (rfl)
@[simp] theorem State.keepRegs_pw (s a1) : (State.keepRegs s a1).pw = s.pw := (rfl)
@[simp] theorem State.keepRegs_rs (s a1) : (State.keepRegs s a1).rs = s.rs := (rfl)
@[simp] theorem State.keepRegs_cl (s a1) : (State.keepRegs s a1).cl = s.cl := (rfl)
@[simp] theorem State.keepRegs_tw (s a1) : (State.keepRegs s a1).tw = s.tw := (rfl)
@[simp] theorem State.keepRegs_sec (s a1) : (State.keepRegs s a1).sec = s.sec := (rfl)
@[simp] theorem State.keepRegs_flash (s a1) : (State.keepRegs s a1).flash = s.flash := (rfl)
@[simp] theorem State.keepRegs_image (s a1) : (State.keepRegs s a1).image = s.image := (rfl)
@[simp] theorem State.keepRegs_fresh (s a1) : (State.keepRegs s a1).fresh = s.fresh := (rfl)
@[simp] theorem State.keepRegs_out (s a1) : (State.keepRegs s a1).out = s.out := (rfl)
@[simp] theorem State.keepRegs_hot (s a1) : (State.keepRegs s a1).hot = s.hot := (rfl)
@[simp] theorem State.keepRegs_eg (s a1) : (State.keepRegs s a1).eg = s.eg := (rfl)
@[simp] theorem State.keepRegs_calDue (s a1) : (State.keepRegs s a1).calDue = s.calDue := (rfl)
@[simp] theorem State.keepImages_pending (s a1) : (State.keepImages s a1).pending = s.pending := (rfl)
@[simp] theorem State.keepImages_ticks (s a1) : (State.keepImages s a1).ticks = s.ticks := (rfl)
@[simp] theorem State.keepImages_aon (s a1) : (State.keepImages s a1).aon = s.aon := (rfl)
@[simp] theorem State.keepImages_aonLeft (s a1) : (State.keepImages s a1).aonLeft = s.aonLeft := (rfl)
@[simp] theorem State.keepImages_core (s a1) : (State.keepImages s a1).core = s.core := (rfl)
@[simp] theorem State.keepImages_coreQ (s a1) : (State.keepImages s a1).coreQ = s.coreQ := (rfl)
@[simp] theorem State.keepImages_regs (s a1) : (State.keepImages s a1).regs = s.regs := (rfl)
@[simp] theorem State.keepImages_latches (s a1) : (State.keepImages s a1).latches = s.latches := (rfl)
@[simp] theorem State.keepImages_heldWr (s a1) : (State.keepImages s a1).heldWr = s.heldWr := (rfl)
@[simp] theorem State.keepImages_tk (s a1) : (State.keepImages s a1).tk = s.tk := (rfl)
@[simp] theorem State.keepImages_log (s a1) : (State.keepImages s a1).log = s.log := (rfl)
@[simp] theorem State.keepImages_calBad (s a1) : (State.keepImages s a1).calBad = s.calBad := (rfl)
@[simp] theorem State.keepImages_pails (s a1) : (State.keepImages s a1).pails = s.pails := (rfl)
@[simp] theorem State.keepImages_banks (s a1) : (State.keepImages s a1).banks = s.banks := (rfl)
@[simp] theorem State.keepImages_repairDue (s a1) : (State.keepImages s a1).repairDue = s.repairDue := (rfl)
@[simp] theorem State.keepImages_units (s a1) : (State.keepImages s a1).units = s.units := (rfl)
@[simp] theorem State.keepImages_groups (s a1) : (State.keepImages s a1).groups = s.groups := (rfl)
@[simp] theorem State.keepImages_spares (s a1) : (State.keepImages s a1).spares = s.spares := (rfl)
@[simp] theorem State.keepImages_chans (s a1) : (State.keepImages s a1).chans = s.chans := (rfl)
@[simp] theorem State.keepImages_slices (s a1) : (State.keepImages s a1).slices = s.slices := (rfl)
@[simp] theorem State.keepImages_ports (s a1) : (State.keepImages s a1).ports = s.ports := (rfl)
@[simp] theorem State.keepImages_links (s a1) : (State.keepImages s a1).links = s.links := (rfl)
@[simp] theorem State.keepImages_um (s a1) : (State.keepImages s a1).um = s.um := (rfl)
@[simp] theorem State.keepImages_pw (s a1) : (State.keepImages s a1).pw = s.pw := (rfl)
@[simp] theorem State.keepImages_rs (s a1) : (State.keepImages s a1).rs = s.rs := (rfl)
@[simp] theorem State.keepImages_cl (s a1) : (State.keepImages s a1).cl = s.cl := (rfl)
@[simp] theorem State.keepImages_tw (s a1) : (State.keepImages s a1).tw = s.tw := (rfl)
@[simp] theorem State.keepImages_sec (s a1) : (State.keepImages s a1).sec = s.sec := (rfl)
@[simp] theorem State.keepImages_flash (s a1) : (State.keepImages s a1).flash = s.flash := (rfl)
@[simp] theorem State.keepImages_image (s a1) : (State.keepImages s a1).image = s.image := (rfl)
@[simp] theorem State.keepImages_fresh (s a1) : (State.keepImages s a1).fresh = s.fresh := (rfl)
@[simp] theorem State.keepImages_out (s a1) : (State.keepImages s a1).out = s.out := (rfl)
@[simp] theorem State.keepImages_hot (s a1) : (State.keepImages s a1).hot = s.hot := (rfl)
@[simp] theorem State.keepImages_eg (s a1) : (State.keepImages s a1).eg = s.eg := (rfl)
@[simp] theorem State.keepImages_calDue (s a1) : (State.keepImages s a1).calDue = s.calDue := (rfl)
@[simp] theorem State.setChans_pending (s a1) : (State.setChans s a1).pending = s.pending := (rfl)
@[simp] theorem State.setChans_ticks (s a1) : (State.setChans s a1).ticks = s.ticks := (rfl)
@[simp] theorem State.setChans_aon (s a1) : (State.setChans s a1).aon = s.aon := (rfl)
@[simp] theorem State.setChans_aonLeft (s a1) : (State.setChans s a1).aonLeft = s.aonLeft := (rfl)
@[simp] theorem State.setChans_core (s a1) : (State.setChans s a1).core = s.core := (rfl)
@[simp] theorem State.setChans_coreQ (s a1) : (State.setChans s a1).coreQ = s.coreQ := (rfl)
@[simp] theorem State.setChans_regs (s a1) : (State.setChans s a1).regs = s.regs := (rfl)
@[simp] theorem State.setChans_gen (s a1) : (State.setChans s a1).gen = s.gen := (rfl)
@[simp] theorem State.setChans_staged (s a1) : (State.setChans s a1).staged = s.staged := (rfl)
@[simp] theorem State.setChans_latches (s a1) : (State.setChans s a1).latches = s.latches := (rfl)
@[simp] theorem State.setChans_heldWr (s a1) : (State.setChans s a1).heldWr = s.heldWr := (rfl)
@[simp] theorem State.setChans_tk (s a1) : (State.setChans s a1).tk = s.tk := (rfl)
@[simp] theorem State.setChans_log (s a1) : (State.setChans s a1).log = s.log := (rfl)
@[simp] theorem State.setChans_calBad (s a1) : (State.setChans s a1).calBad = s.calBad := (rfl)
@[simp] theorem State.setChans_pails (s a1) : (State.setChans s a1).pails = s.pails := (rfl)
@[simp] theorem State.setChans_banks (s a1) : (State.setChans s a1).banks = s.banks := (rfl)
@[simp] theorem State.setChans_repairDue (s a1) : (State.setChans s a1).repairDue = s.repairDue := (rfl)
@[simp] theorem State.setChans_units (s a1) : (State.setChans s a1).units = s.units := (rfl)
@[simp] theorem State.setChans_groups (s a1) : (State.setChans s a1).groups = s.groups := (rfl)
@[simp] theorem State.setChans_spares (s a1) : (State.setChans s a1).spares = s.spares := (rfl)
@[simp] theorem State.setChans_slices (s a1) : (State.setChans s a1).slices = s.slices := (rfl)
@[simp] theorem State.setChans_ports (s a1) : (State.setChans s a1).ports = s.ports := (rfl)
@[simp] theorem State.setChans_links (s a1) : (State.setChans s a1).links = s.links := (rfl)
@[simp] theorem State.setChans_um (s a1) : (State.setChans s a1).um = s.um := (rfl)
@[simp] theorem State.setChans_pw (s a1) : (State.setChans s a1).pw = s.pw := (rfl)
@[simp] theorem State.setChans_rs (s a1) : (State.setChans s a1).rs = s.rs := (rfl)
@[simp] theorem State.setChans_cl (s a1) : (State.setChans s a1).cl = s.cl := (rfl)
@[simp] theorem State.setChans_tw (s a1) : (State.setChans s a1).tw = s.tw := (rfl)
@[simp] theorem State.setChans_sec (s a1) : (State.setChans s a1).sec = s.sec := (rfl)
@[simp] theorem State.setChans_flash (s a1) : (State.setChans s a1).flash = s.flash := (rfl)
@[simp] theorem State.setChans_image (s a1) : (State.setChans s a1).image = s.image := (rfl)
@[simp] theorem State.setChans_fresh (s a1) : (State.setChans s a1).fresh = s.fresh := (rfl)
@[simp] theorem State.setChans_out (s a1) : (State.setChans s a1).out = s.out := (rfl)
@[simp] theorem State.setChans_hot (s a1) : (State.setChans s a1).hot = s.hot := (rfl)
@[simp] theorem State.setChans_eg (s a1) : (State.setChans s a1).eg = s.eg := (rfl)
@[simp] theorem State.setChans_calDue (s a1) : (State.setChans s a1).calDue = s.calDue := (rfl)
@[simp] theorem State.setSlices_pending (s a1) : (State.setSlices s a1).pending = s.pending := (rfl)
@[simp] theorem State.setSlices_ticks (s a1) : (State.setSlices s a1).ticks = s.ticks := (rfl)
@[simp] theorem State.setSlices_aon (s a1) : (State.setSlices s a1).aon = s.aon := (rfl)
@[simp] theorem State.setSlices_aonLeft (s a1) : (State.setSlices s a1).aonLeft = s.aonLeft := (rfl)
@[simp] theorem State.setSlices_core (s a1) : (State.setSlices s a1).core = s.core := (rfl)
@[simp] theorem State.setSlices_coreQ (s a1) : (State.setSlices s a1).coreQ = s.coreQ := (rfl)
@[simp] theorem State.setSlices_regs (s a1) : (State.setSlices s a1).regs = s.regs := (rfl)
@[simp] theorem State.setSlices_gen (s a1) : (State.setSlices s a1).gen = s.gen := (rfl)
@[simp] theorem State.setSlices_staged (s a1) : (State.setSlices s a1).staged = s.staged := (rfl)
@[simp] theorem State.setSlices_latches (s a1) : (State.setSlices s a1).latches = s.latches := (rfl)
@[simp] theorem State.setSlices_heldWr (s a1) : (State.setSlices s a1).heldWr = s.heldWr := (rfl)
@[simp] theorem State.setSlices_tk (s a1) : (State.setSlices s a1).tk = s.tk := (rfl)
@[simp] theorem State.setSlices_log (s a1) : (State.setSlices s a1).log = s.log := (rfl)
@[simp] theorem State.setSlices_calBad (s a1) : (State.setSlices s a1).calBad = s.calBad := (rfl)
@[simp] theorem State.setSlices_pails (s a1) : (State.setSlices s a1).pails = s.pails := (rfl)
@[simp] theorem State.setSlices_banks (s a1) : (State.setSlices s a1).banks = s.banks := (rfl)
@[simp] theorem State.setSlices_repairDue (s a1) : (State.setSlices s a1).repairDue = s.repairDue := (rfl)
@[simp] theorem State.setSlices_units (s a1) : (State.setSlices s a1).units = s.units := (rfl)
@[simp] theorem State.setSlices_groups (s a1) : (State.setSlices s a1).groups = s.groups := (rfl)
@[simp] theorem State.setSlices_spares (s a1) : (State.setSlices s a1).spares = s.spares := (rfl)
@[simp] theorem State.setSlices_chans (s a1) : (State.setSlices s a1).chans = s.chans := (rfl)
@[simp] theorem State.setSlices_ports (s a1) : (State.setSlices s a1).ports = s.ports := (rfl)
@[simp] theorem State.setSlices_links (s a1) : (State.setSlices s a1).links = s.links := (rfl)
@[simp] theorem State.setSlices_um (s a1) : (State.setSlices s a1).um = s.um := (rfl)
@[simp] theorem State.setSlices_pw (s a1) : (State.setSlices s a1).pw = s.pw := (rfl)
@[simp] theorem State.setSlices_rs (s a1) : (State.setSlices s a1).rs = s.rs := (rfl)
@[simp] theorem State.setSlices_cl (s a1) : (State.setSlices s a1).cl = s.cl := (rfl)
@[simp] theorem State.setSlices_tw (s a1) : (State.setSlices s a1).tw = s.tw := (rfl)
@[simp] theorem State.setSlices_sec (s a1) : (State.setSlices s a1).sec = s.sec := (rfl)
@[simp] theorem State.setSlices_flash (s a1) : (State.setSlices s a1).flash = s.flash := (rfl)
@[simp] theorem State.setSlices_image (s a1) : (State.setSlices s a1).image = s.image := (rfl)
@[simp] theorem State.setSlices_fresh (s a1) : (State.setSlices s a1).fresh = s.fresh := (rfl)
@[simp] theorem State.setSlices_out (s a1) : (State.setSlices s a1).out = s.out := (rfl)
@[simp] theorem State.setSlices_hot (s a1) : (State.setSlices s a1).hot = s.hot := (rfl)
@[simp] theorem State.setSlices_eg (s a1) : (State.setSlices s a1).eg = s.eg := (rfl)
@[simp] theorem State.setSlices_calDue (s a1) : (State.setSlices s a1).calDue = s.calDue := (rfl)
@[simp] theorem State.copyActive_pending (s) : (State.copyActive s).pending = s.pending := (rfl)
@[simp] theorem State.copyActive_ticks (s) : (State.copyActive s).ticks = s.ticks := (rfl)
@[simp] theorem State.copyActive_aon (s) : (State.copyActive s).aon = s.aon := (rfl)
@[simp] theorem State.copyActive_aonLeft (s) : (State.copyActive s).aonLeft = s.aonLeft := (rfl)
@[simp] theorem State.copyActive_core (s) : (State.copyActive s).core = s.core := (rfl)
@[simp] theorem State.copyActive_coreQ (s) : (State.copyActive s).coreQ = s.coreQ := (rfl)
@[simp] theorem State.copyActive_regs (s) : (State.copyActive s).regs = s.regs := (rfl)
@[simp] theorem State.copyActive_gen (s) : (State.copyActive s).gen = s.gen := (rfl)
@[simp] theorem State.copyActive_latches (s) : (State.copyActive s).latches = s.latches := (rfl)
@[simp] theorem State.copyActive_heldWr (s) : (State.copyActive s).heldWr = s.heldWr := (rfl)
@[simp] theorem State.copyActive_tk (s) : (State.copyActive s).tk = s.tk := (rfl)
@[simp] theorem State.copyActive_log (s) : (State.copyActive s).log = s.log := (rfl)
@[simp] theorem State.copyActive_calBad (s) : (State.copyActive s).calBad = s.calBad := (rfl)
@[simp] theorem State.copyActive_pails (s) : (State.copyActive s).pails = s.pails := (rfl)
@[simp] theorem State.copyActive_banks (s) : (State.copyActive s).banks = s.banks := (rfl)
@[simp] theorem State.copyActive_repairDue (s) : (State.copyActive s).repairDue = s.repairDue := (rfl)
@[simp] theorem State.copyActive_units (s) : (State.copyActive s).units = s.units := (rfl)
@[simp] theorem State.copyActive_groups (s) : (State.copyActive s).groups = s.groups := (rfl)
@[simp] theorem State.copyActive_spares (s) : (State.copyActive s).spares = s.spares := (rfl)
@[simp] theorem State.copyActive_chans (s) : (State.copyActive s).chans = s.chans := (rfl)
@[simp] theorem State.copyActive_slices (s) : (State.copyActive s).slices = s.slices := (rfl)
@[simp] theorem State.copyActive_ports (s) : (State.copyActive s).ports = s.ports := (rfl)
@[simp] theorem State.copyActive_links (s) : (State.copyActive s).links = s.links := (rfl)
@[simp] theorem State.copyActive_um (s) : (State.copyActive s).um = s.um := (rfl)
@[simp] theorem State.copyActive_pw (s) : (State.copyActive s).pw = s.pw := (rfl)
@[simp] theorem State.copyActive_rs (s) : (State.copyActive s).rs = s.rs := (rfl)
@[simp] theorem State.copyActive_cl (s) : (State.copyActive s).cl = s.cl := (rfl)
@[simp] theorem State.copyActive_tw (s) : (State.copyActive s).tw = s.tw := (rfl)
@[simp] theorem State.copyActive_sec (s) : (State.copyActive s).sec = s.sec := (rfl)
@[simp] theorem State.copyActive_flash (s) : (State.copyActive s).flash = s.flash := (rfl)
@[simp] theorem State.copyActive_image (s) : (State.copyActive s).image = s.image := (rfl)
@[simp] theorem State.copyActive_fresh (s) : (State.copyActive s).fresh = s.fresh := (rfl)
@[simp] theorem State.copyActive_out (s) : (State.copyActive s).out = s.out := (rfl)
@[simp] theorem State.copyActive_hot (s) : (State.copyActive s).hot = s.hot := (rfl)
@[simp] theorem State.copyActive_eg (s) : (State.copyActive s).eg = s.eg := (rfl)
@[simp] theorem State.copyActive_calDue (s) : (State.copyActive s).calDue = s.calDue := (rfl)
@[simp] theorem State.setCalDue_pending (s a1 a2) : (State.setCalDue s a1 a2).pending = s.pending := (rfl)
@[simp] theorem State.setCalDue_ticks (s a1 a2) : (State.setCalDue s a1 a2).ticks = s.ticks := (rfl)
@[simp] theorem State.setCalDue_aon (s a1 a2) : (State.setCalDue s a1 a2).aon = s.aon := (rfl)
@[simp] theorem State.setCalDue_aonLeft (s a1 a2) : (State.setCalDue s a1 a2).aonLeft = s.aonLeft := (rfl)
@[simp] theorem State.setCalDue_core (s a1 a2) : (State.setCalDue s a1 a2).core = s.core := (rfl)
@[simp] theorem State.setCalDue_coreQ (s a1 a2) : (State.setCalDue s a1 a2).coreQ = s.coreQ := (rfl)
@[simp] theorem State.setCalDue_regs (s a1 a2) : (State.setCalDue s a1 a2).regs = s.regs := (rfl)
@[simp] theorem State.setCalDue_gen (s a1 a2) : (State.setCalDue s a1 a2).gen = s.gen := (rfl)
@[simp] theorem State.setCalDue_staged (s a1 a2) : (State.setCalDue s a1 a2).staged = s.staged := (rfl)
@[simp] theorem State.setCalDue_latches (s a1 a2) : (State.setCalDue s a1 a2).latches = s.latches := (rfl)
@[simp] theorem State.setCalDue_heldWr (s a1 a2) : (State.setCalDue s a1 a2).heldWr = s.heldWr := (rfl)
@[simp] theorem State.setCalDue_tk (s a1 a2) : (State.setCalDue s a1 a2).tk = s.tk := (rfl)
@[simp] theorem State.setCalDue_log (s a1 a2) : (State.setCalDue s a1 a2).log = s.log := (rfl)
@[simp] theorem State.setCalDue_calBad (s a1 a2) : (State.setCalDue s a1 a2).calBad = s.calBad := (rfl)
@[simp] theorem State.setCalDue_pails (s a1 a2) : (State.setCalDue s a1 a2).pails = s.pails := (rfl)
@[simp] theorem State.setCalDue_banks (s a1 a2) : (State.setCalDue s a1 a2).banks = s.banks := (rfl)
@[simp] theorem State.setCalDue_repairDue (s a1 a2) : (State.setCalDue s a1 a2).repairDue = s.repairDue := (rfl)
@[simp] theorem State.setCalDue_units (s a1 a2) : (State.setCalDue s a1 a2).units = s.units := (rfl)
@[simp] theorem State.setCalDue_groups (s a1 a2) : (State.setCalDue s a1 a2).groups = s.groups := (rfl)
@[simp] theorem State.setCalDue_spares (s a1 a2) : (State.setCalDue s a1 a2).spares = s.spares := (rfl)
@[simp] theorem State.setCalDue_chans (s a1 a2) : (State.setCalDue s a1 a2).chans = s.chans := (rfl)
@[simp] theorem State.setCalDue_slices (s a1 a2) : (State.setCalDue s a1 a2).slices = s.slices := (rfl)
@[simp] theorem State.setCalDue_ports (s a1 a2) : (State.setCalDue s a1 a2).ports = s.ports := (rfl)
@[simp] theorem State.setCalDue_links (s a1 a2) : (State.setCalDue s a1 a2).links = s.links := (rfl)
@[simp] theorem State.setCalDue_um (s a1 a2) : (State.setCalDue s a1 a2).um = s.um := (rfl)
@[simp] theorem State.setCalDue_pw (s a1 a2) : (State.setCalDue s a1 a2).pw = s.pw := (rfl)
@[simp] theorem State.setCalDue_rs (s a1 a2) : (State.setCalDue s a1 a2).rs = s.rs := (rfl)
@[simp] theorem State.setCalDue_cl (s a1 a2) : (State.setCalDue s a1 a2).cl = s.cl := (rfl)
@[simp] theorem State.setCalDue_tw (s a1 a2) : (State.setCalDue s a1 a2).tw = s.tw := (rfl)
@[simp] theorem State.setCalDue_sec (s a1 a2) : (State.setCalDue s a1 a2).sec = s.sec := (rfl)
@[simp] theorem State.setCalDue_flash (s a1 a2) : (State.setCalDue s a1 a2).flash = s.flash := (rfl)
@[simp] theorem State.setCalDue_image (s a1 a2) : (State.setCalDue s a1 a2).image = s.image := (rfl)
@[simp] theorem State.setCalDue_fresh (s a1 a2) : (State.setCalDue s a1 a2).fresh = s.fresh := (rfl)
@[simp] theorem State.setCalDue_out (s a1 a2) : (State.setCalDue s a1 a2).out = s.out := (rfl)
@[simp] theorem State.setCalDue_hot (s a1 a2) : (State.setCalDue s a1 a2).hot = s.hot := (rfl)
@[simp] theorem State.setCalDue_eg (s a1 a2) : (State.setCalDue s a1 a2).eg = s.eg := (rfl)
@[simp] theorem State.setLinks_pending (s a1) : (State.setLinks s a1).pending = s.pending := (rfl)
@[simp] theorem State.setLinks_ticks (s a1) : (State.setLinks s a1).ticks = s.ticks := (rfl)
@[simp] theorem State.setLinks_aon (s a1) : (State.setLinks s a1).aon = s.aon := (rfl)
@[simp] theorem State.setLinks_aonLeft (s a1) : (State.setLinks s a1).aonLeft = s.aonLeft := (rfl)
@[simp] theorem State.setLinks_core (s a1) : (State.setLinks s a1).core = s.core := (rfl)
@[simp] theorem State.setLinks_coreQ (s a1) : (State.setLinks s a1).coreQ = s.coreQ := (rfl)
@[simp] theorem State.setLinks_regs (s a1) : (State.setLinks s a1).regs = s.regs := (rfl)
@[simp] theorem State.setLinks_gen (s a1) : (State.setLinks s a1).gen = s.gen := (rfl)
@[simp] theorem State.setLinks_staged (s a1) : (State.setLinks s a1).staged = s.staged := (rfl)
@[simp] theorem State.setLinks_latches (s a1) : (State.setLinks s a1).latches = s.latches := (rfl)
@[simp] theorem State.setLinks_heldWr (s a1) : (State.setLinks s a1).heldWr = s.heldWr := (rfl)
@[simp] theorem State.setLinks_tk (s a1) : (State.setLinks s a1).tk = s.tk := (rfl)
@[simp] theorem State.setLinks_log (s a1) : (State.setLinks s a1).log = s.log := (rfl)
@[simp] theorem State.setLinks_calBad (s a1) : (State.setLinks s a1).calBad = s.calBad := (rfl)
@[simp] theorem State.setLinks_pails (s a1) : (State.setLinks s a1).pails = s.pails := (rfl)
@[simp] theorem State.setLinks_banks (s a1) : (State.setLinks s a1).banks = s.banks := (rfl)
@[simp] theorem State.setLinks_repairDue (s a1) : (State.setLinks s a1).repairDue = s.repairDue := (rfl)
@[simp] theorem State.setLinks_units (s a1) : (State.setLinks s a1).units = s.units := (rfl)
@[simp] theorem State.setLinks_groups (s a1) : (State.setLinks s a1).groups = s.groups := (rfl)
@[simp] theorem State.setLinks_spares (s a1) : (State.setLinks s a1).spares = s.spares := (rfl)
@[simp] theorem State.setLinks_chans (s a1) : (State.setLinks s a1).chans = s.chans := (rfl)
@[simp] theorem State.setLinks_slices (s a1) : (State.setLinks s a1).slices = s.slices := (rfl)
@[simp] theorem State.setLinks_ports (s a1) : (State.setLinks s a1).ports = s.ports := (rfl)
@[simp] theorem State.setLinks_um (s a1) : (State.setLinks s a1).um = s.um := (rfl)
@[simp] theorem State.setLinks_pw (s a1) : (State.setLinks s a1).pw = s.pw := (rfl)
@[simp] theorem State.setLinks_rs (s a1) : (State.setLinks s a1).rs = s.rs := (rfl)
@[simp] theorem State.setLinks_cl (s a1) : (State.setLinks s a1).cl = s.cl := (rfl)
@[simp] theorem State.setLinks_tw (s a1) : (State.setLinks s a1).tw = s.tw := (rfl)
@[simp] theorem State.setLinks_sec (s a1) : (State.setLinks s a1).sec = s.sec := (rfl)
@[simp] theorem State.setLinks_flash (s a1) : (State.setLinks s a1).flash = s.flash := (rfl)
@[simp] theorem State.setLinks_image (s a1) : (State.setLinks s a1).image = s.image := (rfl)
@[simp] theorem State.setLinks_fresh (s a1) : (State.setLinks s a1).fresh = s.fresh := (rfl)
@[simp] theorem State.setLinks_out (s a1) : (State.setLinks s a1).out = s.out := (rfl)
@[simp] theorem State.setLinks_hot (s a1) : (State.setLinks s a1).hot = s.hot := (rfl)
@[simp] theorem State.setLinks_eg (s a1) : (State.setLinks s a1).eg = s.eg := (rfl)
@[simp] theorem State.setLinks_calDue (s a1) : (State.setLinks s a1).calDue = s.calDue := (rfl)
@[simp] theorem State.promote_pending (s) : (State.promote s).pending = s.pending := (rfl)
@[simp] theorem State.promote_ticks (s) : (State.promote s).ticks = s.ticks := (rfl)
@[simp] theorem State.promote_aon (s) : (State.promote s).aon = s.aon := (rfl)
@[simp] theorem State.promote_aonLeft (s) : (State.promote s).aonLeft = s.aonLeft := (rfl)
@[simp] theorem State.promote_core (s) : (State.promote s).core = s.core := (rfl)
@[simp] theorem State.promote_coreQ (s) : (State.promote s).coreQ = s.coreQ := (rfl)
@[simp] theorem State.promote_regs (s) : (State.promote s).regs = s.regs := (rfl)
@[simp] theorem State.promote_latches (s) : (State.promote s).latches = s.latches := (rfl)
@[simp] theorem State.promote_heldWr (s) : (State.promote s).heldWr = s.heldWr := (rfl)
@[simp] theorem State.promote_tk (s) : (State.promote s).tk = s.tk := (rfl)
@[simp] theorem State.promote_log (s) : (State.promote s).log = s.log := (rfl)
@[simp] theorem State.promote_calBad (s) : (State.promote s).calBad = s.calBad := (rfl)
@[simp] theorem State.promote_pails (s) : (State.promote s).pails = s.pails := (rfl)
@[simp] theorem State.promote_banks (s) : (State.promote s).banks = s.banks := (rfl)
@[simp] theorem State.promote_repairDue (s) : (State.promote s).repairDue = s.repairDue := (rfl)
@[simp] theorem State.promote_units (s) : (State.promote s).units = s.units := (rfl)
@[simp] theorem State.promote_groups (s) : (State.promote s).groups = s.groups := (rfl)
@[simp] theorem State.promote_spares (s) : (State.promote s).spares = s.spares := (rfl)
@[simp] theorem State.promote_chans (s) : (State.promote s).chans = s.chans := (rfl)
@[simp] theorem State.promote_slices (s) : (State.promote s).slices = s.slices := (rfl)
@[simp] theorem State.promote_ports (s) : (State.promote s).ports = s.ports := (rfl)
@[simp] theorem State.promote_links (s) : (State.promote s).links = s.links := (rfl)
@[simp] theorem State.promote_um (s) : (State.promote s).um = s.um := (rfl)
@[simp] theorem State.promote_pw (s) : (State.promote s).pw = s.pw := (rfl)
@[simp] theorem State.promote_rs (s) : (State.promote s).rs = s.rs := (rfl)
@[simp] theorem State.promote_cl (s) : (State.promote s).cl = s.cl := (rfl)
@[simp] theorem State.promote_tw (s) : (State.promote s).tw = s.tw := (rfl)
@[simp] theorem State.promote_sec (s) : (State.promote s).sec = s.sec := (rfl)
@[simp] theorem State.promote_flash (s) : (State.promote s).flash = s.flash := (rfl)
@[simp] theorem State.promote_image (s) : (State.promote s).image = s.image := (rfl)
@[simp] theorem State.promote_fresh (s) : (State.promote s).fresh = s.fresh := (rfl)
@[simp] theorem State.promote_out (s) : (State.promote s).out = s.out := (rfl)
@[simp] theorem State.promote_hot (s) : (State.promote s).hot = s.hot := (rfl)
@[simp] theorem State.promote_eg (s) : (State.promote s).eg = s.eg := (rfl)
@[simp] theorem State.promote_calDue (s) : (State.promote s).calDue = s.calDue := (rfl)
@[simp] theorem State.updFlash_pending (s a1) : (State.updFlash s a1).pending = s.pending := (rfl)
@[simp] theorem State.updFlash_ticks (s a1) : (State.updFlash s a1).ticks = s.ticks := (rfl)
@[simp] theorem State.updFlash_aon (s a1) : (State.updFlash s a1).aon = s.aon := (rfl)
@[simp] theorem State.updFlash_aonLeft (s a1) : (State.updFlash s a1).aonLeft = s.aonLeft := (rfl)
@[simp] theorem State.updFlash_core (s a1) : (State.updFlash s a1).core = s.core := (rfl)
@[simp] theorem State.updFlash_coreQ (s a1) : (State.updFlash s a1).coreQ = s.coreQ := (rfl)
@[simp] theorem State.updFlash_regs (s a1) : (State.updFlash s a1).regs = s.regs := (rfl)
@[simp] theorem State.updFlash_gen (s a1) : (State.updFlash s a1).gen = s.gen := (rfl)
@[simp] theorem State.updFlash_staged (s a1) : (State.updFlash s a1).staged = s.staged := (rfl)
@[simp] theorem State.updFlash_latches (s a1) : (State.updFlash s a1).latches = s.latches := (rfl)
@[simp] theorem State.updFlash_heldWr (s a1) : (State.updFlash s a1).heldWr = s.heldWr := (rfl)
@[simp] theorem State.updFlash_tk (s a1) : (State.updFlash s a1).tk = s.tk := (rfl)
@[simp] theorem State.updFlash_log (s a1) : (State.updFlash s a1).log = s.log := (rfl)
@[simp] theorem State.updFlash_calBad (s a1) : (State.updFlash s a1).calBad = s.calBad := (rfl)
@[simp] theorem State.updFlash_pails (s a1) : (State.updFlash s a1).pails = s.pails := (rfl)
@[simp] theorem State.updFlash_banks (s a1) : (State.updFlash s a1).banks = s.banks := (rfl)
@[simp] theorem State.updFlash_repairDue (s a1) : (State.updFlash s a1).repairDue = s.repairDue := (rfl)
@[simp] theorem State.updFlash_units (s a1) : (State.updFlash s a1).units = s.units := (rfl)
@[simp] theorem State.updFlash_groups (s a1) : (State.updFlash s a1).groups = s.groups := (rfl)
@[simp] theorem State.updFlash_spares (s a1) : (State.updFlash s a1).spares = s.spares := (rfl)
@[simp] theorem State.updFlash_chans (s a1) : (State.updFlash s a1).chans = s.chans := (rfl)
@[simp] theorem State.updFlash_slices (s a1) : (State.updFlash s a1).slices = s.slices := (rfl)
@[simp] theorem State.updFlash_ports (s a1) : (State.updFlash s a1).ports = s.ports := (rfl)
@[simp] theorem State.updFlash_links (s a1) : (State.updFlash s a1).links = s.links := (rfl)
@[simp] theorem State.updFlash_um (s a1) : (State.updFlash s a1).um = s.um := (rfl)
@[simp] theorem State.updFlash_pw (s a1) : (State.updFlash s a1).pw = s.pw := (rfl)
@[simp] theorem State.updFlash_rs (s a1) : (State.updFlash s a1).rs = s.rs := (rfl)
@[simp] theorem State.updFlash_cl (s a1) : (State.updFlash s a1).cl = s.cl := (rfl)
@[simp] theorem State.updFlash_tw (s a1) : (State.updFlash s a1).tw = s.tw := (rfl)
@[simp] theorem State.updFlash_sec (s a1) : (State.updFlash s a1).sec = s.sec := (rfl)
@[simp] theorem State.updFlash_image (s a1) : (State.updFlash s a1).image = s.image := (rfl)
@[simp] theorem State.updFlash_fresh (s a1) : (State.updFlash s a1).fresh = s.fresh := (rfl)
@[simp] theorem State.updFlash_out (s a1) : (State.updFlash s a1).out = s.out := (rfl)
@[simp] theorem State.updFlash_hot (s a1) : (State.updFlash s a1).hot = s.hot := (rfl)
@[simp] theorem State.updFlash_eg (s a1) : (State.updFlash s a1).eg = s.eg := (rfl)
@[simp] theorem State.updFlash_calDue (s a1) : (State.updFlash s a1).calDue = s.calDue := (rfl)
@[simp] theorem State.setImage_pending (s a1) : (State.setImage s a1).pending = s.pending := (rfl)
@[simp] theorem State.setImage_ticks (s a1) : (State.setImage s a1).ticks = s.ticks := (rfl)
@[simp] theorem State.setImage_aon (s a1) : (State.setImage s a1).aon = s.aon := (rfl)
@[simp] theorem State.setImage_aonLeft (s a1) : (State.setImage s a1).aonLeft = s.aonLeft := (rfl)
@[simp] theorem State.setImage_core (s a1) : (State.setImage s a1).core = s.core := (rfl)
@[simp] theorem State.setImage_coreQ (s a1) : (State.setImage s a1).coreQ = s.coreQ := (rfl)
@[simp] theorem State.setImage_regs (s a1) : (State.setImage s a1).regs = s.regs := (rfl)
@[simp] theorem State.setImage_gen (s a1) : (State.setImage s a1).gen = s.gen := (rfl)
@[simp] theorem State.setImage_staged (s a1) : (State.setImage s a1).staged = s.staged := (rfl)
@[simp] theorem State.setImage_latches (s a1) : (State.setImage s a1).latches = s.latches := (rfl)
@[simp] theorem State.setImage_heldWr (s a1) : (State.setImage s a1).heldWr = s.heldWr := (rfl)
@[simp] theorem State.setImage_tk (s a1) : (State.setImage s a1).tk = s.tk := (rfl)
@[simp] theorem State.setImage_log (s a1) : (State.setImage s a1).log = s.log := (rfl)
@[simp] theorem State.setImage_calBad (s a1) : (State.setImage s a1).calBad = s.calBad := (rfl)
@[simp] theorem State.setImage_pails (s a1) : (State.setImage s a1).pails = s.pails := (rfl)
@[simp] theorem State.setImage_banks (s a1) : (State.setImage s a1).banks = s.banks := (rfl)
@[simp] theorem State.setImage_repairDue (s a1) : (State.setImage s a1).repairDue = s.repairDue := (rfl)
@[simp] theorem State.setImage_units (s a1) : (State.setImage s a1).units = s.units := (rfl)
@[simp] theorem State.setImage_groups (s a1) : (State.setImage s a1).groups = s.groups := (rfl)
@[simp] theorem State.setImage_spares (s a1) : (State.setImage s a1).spares = s.spares := (rfl)
@[simp] theorem State.setImage_chans (s a1) : (State.setImage s a1).chans = s.chans := (rfl)
@[simp] theorem State.setImage_slices (s a1) : (State.setImage s a1).slices = s.slices := (rfl)
@[simp] theorem State.setImage_ports (s a1) : (State.setImage s a1).ports = s.ports := (rfl)
@[simp] theorem State.setImage_links (s a1) : (State.setImage s a1).links = s.links := (rfl)
@[simp] theorem State.setImage_um (s a1) : (State.setImage s a1).um = s.um := (rfl)
@[simp] theorem State.setImage_pw (s a1) : (State.setImage s a1).pw = s.pw := (rfl)
@[simp] theorem State.setImage_rs (s a1) : (State.setImage s a1).rs = s.rs := (rfl)
@[simp] theorem State.setImage_cl (s a1) : (State.setImage s a1).cl = s.cl := (rfl)
@[simp] theorem State.setImage_tw (s a1) : (State.setImage s a1).tw = s.tw := (rfl)
@[simp] theorem State.setImage_sec (s a1) : (State.setImage s a1).sec = s.sec := (rfl)
@[simp] theorem State.setImage_flash (s a1) : (State.setImage s a1).flash = s.flash := (rfl)
@[simp] theorem State.setImage_fresh (s a1) : (State.setImage s a1).fresh = s.fresh := (rfl)
@[simp] theorem State.setImage_out (s a1) : (State.setImage s a1).out = s.out := (rfl)
@[simp] theorem State.setImage_hot (s a1) : (State.setImage s a1).hot = s.hot := (rfl)
@[simp] theorem State.setImage_eg (s a1) : (State.setImage s a1).eg = s.eg := (rfl)
@[simp] theorem State.setImage_calDue (s a1) : (State.setImage s a1).calDue = s.calDue := (rfl)
@[simp] theorem State.setPails_pending (s a1) : (State.setPails s a1).pending = s.pending := (rfl)
@[simp] theorem State.setPails_ticks (s a1) : (State.setPails s a1).ticks = s.ticks := (rfl)
@[simp] theorem State.setPails_aon (s a1) : (State.setPails s a1).aon = s.aon := (rfl)
@[simp] theorem State.setPails_aonLeft (s a1) : (State.setPails s a1).aonLeft = s.aonLeft := (rfl)
@[simp] theorem State.setPails_core (s a1) : (State.setPails s a1).core = s.core := (rfl)
@[simp] theorem State.setPails_coreQ (s a1) : (State.setPails s a1).coreQ = s.coreQ := (rfl)
@[simp] theorem State.setPails_regs (s a1) : (State.setPails s a1).regs = s.regs := (rfl)
@[simp] theorem State.setPails_gen (s a1) : (State.setPails s a1).gen = s.gen := (rfl)
@[simp] theorem State.setPails_staged (s a1) : (State.setPails s a1).staged = s.staged := (rfl)
@[simp] theorem State.setPails_latches (s a1) : (State.setPails s a1).latches = s.latches := (rfl)
@[simp] theorem State.setPails_heldWr (s a1) : (State.setPails s a1).heldWr = s.heldWr := (rfl)
@[simp] theorem State.setPails_tk (s a1) : (State.setPails s a1).tk = s.tk := (rfl)
@[simp] theorem State.setPails_log (s a1) : (State.setPails s a1).log = s.log := (rfl)
@[simp] theorem State.setPails_calBad (s a1) : (State.setPails s a1).calBad = s.calBad := (rfl)
@[simp] theorem State.setPails_banks (s a1) : (State.setPails s a1).banks = s.banks := (rfl)
@[simp] theorem State.setPails_repairDue (s a1) : (State.setPails s a1).repairDue = s.repairDue := (rfl)
@[simp] theorem State.setPails_units (s a1) : (State.setPails s a1).units = s.units := (rfl)
@[simp] theorem State.setPails_groups (s a1) : (State.setPails s a1).groups = s.groups := (rfl)
@[simp] theorem State.setPails_spares (s a1) : (State.setPails s a1).spares = s.spares := (rfl)
@[simp] theorem State.setPails_chans (s a1) : (State.setPails s a1).chans = s.chans := (rfl)
@[simp] theorem State.setPails_slices (s a1) : (State.setPails s a1).slices = s.slices := (rfl)
@[simp] theorem State.setPails_ports (s a1) : (State.setPails s a1).ports = s.ports := (rfl)
@[simp] theorem State.setPails_links (s a1) : (State.setPails s a1).links = s.links := (rfl)
@[simp] theorem State.setPails_um (s a1) : (State.setPails s a1).um = s.um := (rfl)
@[simp] theorem State.setPails_pw (s a1) : (State.setPails s a1).pw = s.pw := (rfl)
@[simp] theorem State.setPails_rs (s a1) : (State.setPails s a1).rs = s.rs := (rfl)
@[simp] theorem State.setPails_cl (s a1) : (State.setPails s a1).cl = s.cl := (rfl)
@[simp] theorem State.setPails_tw (s a1) : (State.setPails s a1).tw = s.tw := (rfl)
@[simp] theorem State.setPails_sec (s a1) : (State.setPails s a1).sec = s.sec := (rfl)
@[simp] theorem State.setPails_flash (s a1) : (State.setPails s a1).flash = s.flash := (rfl)
@[simp] theorem State.setPails_image (s a1) : (State.setPails s a1).image = s.image := (rfl)
@[simp] theorem State.setPails_fresh (s a1) : (State.setPails s a1).fresh = s.fresh := (rfl)
@[simp] theorem State.setPails_out (s a1) : (State.setPails s a1).out = s.out := (rfl)
@[simp] theorem State.setPails_hot (s a1) : (State.setPails s a1).hot = s.hot := (rfl)
@[simp] theorem State.setPails_eg (s a1) : (State.setPails s a1).eg = s.eg := (rfl)
@[simp] theorem State.setPails_calDue (s a1) : (State.setPails s a1).calDue = s.calDue := (rfl)
@[simp] theorem State.wrG_pending (s a1 a2) : (State.wrG s a1 a2).pending = s.pending := (rfl)
@[simp] theorem State.wrG_ticks (s a1 a2) : (State.wrG s a1 a2).ticks = s.ticks := (rfl)
@[simp] theorem State.wrG_aon (s a1 a2) : (State.wrG s a1 a2).aon = s.aon := (rfl)
@[simp] theorem State.wrG_aonLeft (s a1 a2) : (State.wrG s a1 a2).aonLeft = s.aonLeft := (rfl)
@[simp] theorem State.wrG_core (s a1 a2) : (State.wrG s a1 a2).core = s.core := (rfl)
@[simp] theorem State.wrG_coreQ (s a1 a2) : (State.wrG s a1 a2).coreQ = s.coreQ := (rfl)
@[simp] theorem State.wrG_regs (s a1 a2) : (State.wrG s a1 a2).regs = s.regs := (rfl)
@[simp] theorem State.wrG_staged (s a1 a2) : (State.wrG s a1 a2).staged = s.staged := (rfl)
@[simp] theorem State.wrG_latches (s a1 a2) : (State.wrG s a1 a2).latches = s.latches := (rfl)
@[simp] theorem State.wrG_heldWr (s a1 a2) : (State.wrG s a1 a2).heldWr = s.heldWr := (rfl)
@[simp] theorem State.wrG_tk (s a1 a2) : (State.wrG s a1 a2).tk = s.tk := (rfl)
@[simp] theorem State.wrG_log (s a1 a2) : (State.wrG s a1 a2).log = s.log := (rfl)
@[simp] theorem State.wrG_calBad (s a1 a2) : (State.wrG s a1 a2).calBad = s.calBad := (rfl)
@[simp] theorem State.wrG_pails (s a1 a2) : (State.wrG s a1 a2).pails = s.pails := (rfl)
@[simp] theorem State.wrG_banks (s a1 a2) : (State.wrG s a1 a2).banks = s.banks := (rfl)
@[simp] theorem State.wrG_repairDue (s a1 a2) : (State.wrG s a1 a2).repairDue = s.repairDue := (rfl)
@[simp] theorem State.wrG_units (s a1 a2) : (State.wrG s a1 a2).units = s.units := (rfl)
@[simp] theorem State.wrG_groups (s a1 a2) : (State.wrG s a1 a2).groups = s.groups := (rfl)
@[simp] theorem State.wrG_spares (s a1 a2) : (State.wrG s a1 a2).spares = s.spares := (rfl)
@[simp] theorem State.wrG_chans (s a1 a2) : (State.wrG s a1 a2).chans = s.chans := (rfl)
@[simp] theorem State.wrG_slices (s a1 a2) : (State.wrG s a1 a2).slices = s.slices := (rfl)
@[simp] theorem State.wrG_ports (s a1 a2) : (State.wrG s a1 a2).ports = s.ports := (rfl)
@[simp] theorem State.wrG_links (s a1 a2) : (State.wrG s a1 a2).links = s.links := (rfl)
@[simp] theorem State.wrG_um (s a1 a2) : (State.wrG s a1 a2).um = s.um := (rfl)
@[simp] theorem State.wrG_pw (s a1 a2) : (State.wrG s a1 a2).pw = s.pw := (rfl)
@[simp] theorem State.wrG_rs (s a1 a2) : (State.wrG s a1 a2).rs = s.rs := (rfl)
@[simp] theorem State.wrG_cl (s a1 a2) : (State.wrG s a1 a2).cl = s.cl := (rfl)
@[simp] theorem State.wrG_tw (s a1 a2) : (State.wrG s a1 a2).tw = s.tw := (rfl)
@[simp] theorem State.wrG_sec (s a1 a2) : (State.wrG s a1 a2).sec = s.sec := (rfl)
@[simp] theorem State.wrG_flash (s a1 a2) : (State.wrG s a1 a2).flash = s.flash := (rfl)
@[simp] theorem State.wrG_image (s a1 a2) : (State.wrG s a1 a2).image = s.image := (rfl)
@[simp] theorem State.wrG_fresh (s a1 a2) : (State.wrG s a1 a2).fresh = s.fresh := (rfl)
@[simp] theorem State.wrG_out (s a1 a2) : (State.wrG s a1 a2).out = s.out := (rfl)
@[simp] theorem State.wrG_hot (s a1 a2) : (State.wrG s a1 a2).hot = s.hot := (rfl)
@[simp] theorem State.wrG_eg (s a1 a2) : (State.wrG s a1 a2).eg = s.eg := (rfl)
@[simp] theorem State.wrG_calDue (s a1 a2) : (State.wrG s a1 a2).calDue = s.calDue := (rfl)

end Sys2Proof.Machine
end

