-- ==== Sys2Proof/Laws/Runtime.lean ====
section
/-! SUPPORT. What the readings of a state give after a basic update: registers, fields, modes, and the runtime state of the
numbered units. -/

namespace Sys2Proof.Machine

@[simp] theorem State.wrW_rdG (s a1 a2 k) : (State.wrW s a1 a2).rdG k = s.rdG k := (rfl)
@[simp] theorem State.wrW_rdS (s a1 a2 k) : (State.wrW s a1 a2).rdS k = s.rdS k := (rfl)
@[simp] theorem State.wrW_now (s a1 a2) : (State.wrW s a1 a2).now = s.now := (rfl)
@[simp] theorem State.heat_rdW (s a1 a2 k) : (State.heat s a1 a2).rdW k = s.rdW k := (rfl)
@[simp] theorem State.heat_rdG (s a1 a2 k) : (State.heat s a1 a2).rdG k = s.rdG k := (rfl)
@[simp] theorem State.heat_rdS (s a1 a2 k) : (State.heat s a1 a2).rdS k = s.rdS k := (rfl)
@[simp] theorem State.heat_fld (s a1 a2 k f) : (State.heat s a1 a2).fld k f = s.fld k f := (rfl)
@[simp] theorem State.heat_flag (s a1 a2 k f) : (State.heat s a1 a2).flag k f = s.flag k f := (rfl)
@[simp] theorem State.heat_on (s a1 a2 d) : (State.heat s a1 a2).on d = s.on d := (rfl)
@[simp] theorem State.heat_mode (s a1 a2) : (State.heat s a1 a2).mode = s.mode := (rfl)
@[simp] theorem State.heat_tlState (s a1 a2) : (State.heat s a1 a2).tlState = s.tlState := (rfl)
@[simp] theorem State.heat_now (s a1 a2) : (State.heat s a1 a2).now = s.now := (rfl)
@[simp] theorem State.emit_rdW (s a1 k) : (State.emit s a1).rdW k = s.rdW k := (rfl)
@[simp] theorem State.emit_rdG (s a1 k) : (State.emit s a1).rdG k = s.rdG k := (rfl)
@[simp] theorem State.emit_rdS (s a1 k) : (State.emit s a1).rdS k = s.rdS k := (rfl)
@[simp] theorem State.emit_fld (s a1 k f) : (State.emit s a1).fld k f = s.fld k f := (rfl)
@[simp] theorem State.emit_flag (s a1 k f) : (State.emit s a1).flag k f = s.flag k f := (rfl)
@[simp] theorem State.emit_on (s a1 d) : (State.emit s a1).on d = s.on d := (rfl)
@[simp] theorem State.emit_mode (s a1) : (State.emit s a1).mode = s.mode := (rfl)
@[simp] theorem State.emit_tlState (s a1) : (State.emit s a1).tlState = s.tlState := (rfl)
@[simp] theorem State.emit_now (s a1) : (State.emit s a1).now = s.now := (rfl)
@[simp] theorem State.updLink_rdW (s a1 a2 k) : (State.updLink s a1 a2).rdW k = s.rdW k := (rfl)
@[simp] theorem State.updLink_rdG (s a1 a2 k) : (State.updLink s a1 a2).rdG k = s.rdG k := (rfl)
@[simp] theorem State.updLink_rdS (s a1 a2 k) : (State.updLink s a1 a2).rdS k = s.rdS k := (rfl)
@[simp] theorem State.updLink_fld (s a1 a2 k f) : (State.updLink s a1 a2).fld k f = s.fld k f := (rfl)
@[simp] theorem State.updLink_flag (s a1 a2 k f) : (State.updLink s a1 a2).flag k f = s.flag k f := (rfl)
@[simp] theorem State.updLink_on (s a1 a2 d) : (State.updLink s a1 a2).on d = s.on d := (rfl)
@[simp] theorem State.updLink_mode (s a1 a2) : (State.updLink s a1 a2).mode = s.mode := (rfl)
@[simp] theorem State.updLink_tlState (s a1 a2) : (State.updLink s a1 a2).tlState = s.tlState := (rfl)
@[simp] theorem State.updLink_now (s a1 a2) : (State.updLink s a1 a2).now = s.now := (rfl)
@[simp] theorem State.updUm_rdW (s a1 k) : (State.updUm s a1).rdW k = s.rdW k := (rfl)
@[simp] theorem State.updUm_rdG (s a1 k) : (State.updUm s a1).rdG k = s.rdG k := (rfl)
@[simp] theorem State.updUm_rdS (s a1 k) : (State.updUm s a1).rdS k = s.rdS k := (rfl)
@[simp] theorem State.updUm_fld (s a1 k f) : (State.updUm s a1).fld k f = s.fld k f := (rfl)
@[simp] theorem State.updUm_flag (s a1 k f) : (State.updUm s a1).flag k f = s.flag k f := (rfl)
@[simp] theorem State.updUm_on (s a1 d) : (State.updUm s a1).on d = s.on d := (rfl)
@[simp] theorem State.updUm_mode (s a1) : (State.updUm s a1).mode = s.mode := (rfl)
@[simp] theorem State.updUm_tlState (s a1) : (State.updUm s a1).tlState = s.tlState := (rfl)
@[simp] theorem State.updUm_now (s a1) : (State.updUm s a1).now = s.now := (rfl)
@[simp] theorem State.updUnit_rdW (s a1 a2 k) : (State.updUnit s a1 a2).rdW k = s.rdW k := (rfl)
@[simp] theorem State.updUnit_rdG (s a1 a2 k) : (State.updUnit s a1 a2).rdG k = s.rdG k := (rfl)
@[simp] theorem State.updUnit_rdS (s a1 a2 k) : (State.updUnit s a1 a2).rdS k = s.rdS k := (rfl)
@[simp] theorem State.updUnit_fld (s a1 a2 k f) : (State.updUnit s a1 a2).fld k f = s.fld k f := (rfl)
@[simp] theorem State.updUnit_flag (s a1 a2 k f) : (State.updUnit s a1 a2).flag k f = s.flag k f := (rfl)
@[simp] theorem State.updUnit_on (s a1 a2 d) : (State.updUnit s a1 a2).on d = s.on d := (rfl)
@[simp] theorem State.updUnit_mode (s a1 a2) : (State.updUnit s a1 a2).mode = s.mode := (rfl)
@[simp] theorem State.updUnit_tlState (s a1 a2) : (State.updUnit s a1 a2).tlState = s.tlState := (rfl)
@[simp] theorem State.updUnit_now (s a1 a2) : (State.updUnit s a1 a2).now = s.now := (rfl)
@[simp] theorem State.updCl_rdW (s a1 a2 k) : (State.updCl s a1 a2).rdW k = s.rdW k := (rfl)
@[simp] theorem State.updCl_rdG (s a1 a2 k) : (State.updCl s a1 a2).rdG k = s.rdG k := (rfl)
@[simp] theorem State.updCl_rdS (s a1 a2 k) : (State.updCl s a1 a2).rdS k = s.rdS k := (rfl)
@[simp] theorem State.updCl_fld (s a1 a2 k f) : (State.updCl s a1 a2).fld k f = s.fld k f := (rfl)
@[simp] theorem State.updCl_flag (s a1 a2 k f) : (State.updCl s a1 a2).flag k f = s.flag k f := (rfl)
@[simp] theorem State.updCl_on (s a1 a2 d) : (State.updCl s a1 a2).on d = s.on d := (rfl)
@[simp] theorem State.updCl_mode (s a1 a2) : (State.updCl s a1 a2).mode = s.mode := (rfl)
@[simp] theorem State.updCl_tlState (s a1 a2) : (State.updCl s a1 a2).tlState = s.tlState := (rfl)
@[simp] theorem State.updCl_now (s a1 a2) : (State.updCl s a1 a2).now = s.now := (rfl)
@[simp] theorem State.updGrp_rdW (s a1 a2 k) : (State.updGrp s a1 a2).rdW k = s.rdW k := (rfl)
@[simp] theorem State.updGrp_rdG (s a1 a2 k) : (State.updGrp s a1 a2).rdG k = s.rdG k := (rfl)
@[simp] theorem State.updGrp_rdS (s a1 a2 k) : (State.updGrp s a1 a2).rdS k = s.rdS k := (rfl)
@[simp] theorem State.updGrp_fld (s a1 a2 k f) : (State.updGrp s a1 a2).fld k f = s.fld k f := (rfl)
@[simp] theorem State.updGrp_flag (s a1 a2 k f) : (State.updGrp s a1 a2).flag k f = s.flag k f := (rfl)
@[simp] theorem State.updGrp_on (s a1 a2 d) : (State.updGrp s a1 a2).on d = s.on d := (rfl)
@[simp] theorem State.updGrp_mode (s a1 a2) : (State.updGrp s a1 a2).mode = s.mode := (rfl)
@[simp] theorem State.updGrp_tlState (s a1 a2) : (State.updGrp s a1 a2).tlState = s.tlState := (rfl)
@[simp] theorem State.updGrp_now (s a1 a2) : (State.updGrp s a1 a2).now = s.now := (rfl)
@[simp] theorem State.updChan_rdW (s a1 a2 k) : (State.updChan s a1 a2).rdW k = s.rdW k := (rfl)
@[simp] theorem State.updChan_rdG (s a1 a2 k) : (State.updChan s a1 a2).rdG k = s.rdG k := (rfl)
@[simp] theorem State.updChan_rdS (s a1 a2 k) : (State.updChan s a1 a2).rdS k = s.rdS k := (rfl)
@[simp] theorem State.updChan_fld (s a1 a2 k f) : (State.updChan s a1 a2).fld k f = s.fld k f := (rfl)
@[simp] theorem State.updChan_flag (s a1 a2 k f) : (State.updChan s a1 a2).flag k f = s.flag k f := (rfl)
@[simp] theorem State.updChan_on (s a1 a2 d) : (State.updChan s a1 a2).on d = s.on d := (rfl)
@[simp] theorem State.updChan_mode (s a1 a2) : (State.updChan s a1 a2).mode = s.mode := (rfl)
@[simp] theorem State.updChan_tlState (s a1 a2) : (State.updChan s a1 a2).tlState = s.tlState := (rfl)
@[simp] theorem State.updChan_now (s a1 a2) : (State.updChan s a1 a2).now = s.now := (rfl)
@[simp] theorem State.updPail_rdW (s a1 a2 k) : (State.updPail s a1 a2).rdW k = s.rdW k := (rfl)
@[simp] theorem State.updPail_rdG (s a1 a2 k) : (State.updPail s a1 a2).rdG k = s.rdG k := (rfl)
@[simp] theorem State.updPail_rdS (s a1 a2 k) : (State.updPail s a1 a2).rdS k = s.rdS k := (rfl)
@[simp] theorem State.updPail_fld (s a1 a2 k f) : (State.updPail s a1 a2).fld k f = s.fld k f := (rfl)
@[simp] theorem State.updPail_flag (s a1 a2 k f) : (State.updPail s a1 a2).flag k f = s.flag k f := (rfl)
@[simp] theorem State.updPail_on (s a1 a2 d) : (State.updPail s a1 a2).on d = s.on d := (rfl)
@[simp] theorem State.updPail_mode (s a1 a2) : (State.updPail s a1 a2).mode = s.mode := (rfl)
@[simp] theorem State.updPail_tlState (s a1 a2) : (State.updPail s a1 a2).tlState = s.tlState := (rfl)
@[simp] theorem State.updPail_now (s a1 a2) : (State.updPail s a1 a2).now = s.now := (rfl)
@[simp] theorem State.updTw_rdW (s a1 k) : (State.updTw s a1).rdW k = s.rdW k := (rfl)
@[simp] theorem State.updTw_rdG (s a1 k) : (State.updTw s a1).rdG k = s.rdG k := (rfl)
@[simp] theorem State.updTw_rdS (s a1 k) : (State.updTw s a1).rdS k = s.rdS k := (rfl)
@[simp] theorem State.updTw_fld (s a1 k f) : (State.updTw s a1).fld k f = s.fld k f := (rfl)
@[simp] theorem State.updTw_flag (s a1 k f) : (State.updTw s a1).flag k f = s.flag k f := (rfl)
@[simp] theorem State.updTw_on (s a1 d) : (State.updTw s a1).on d = s.on d := (rfl)
@[simp] theorem State.updTw_mode (s a1) : (State.updTw s a1).mode = s.mode := (rfl)
@[simp] theorem State.updTw_tlState (s a1) : (State.updTw s a1).tlState = s.tlState := (rfl)
@[simp] theorem State.updTw_now (s a1) : (State.updTw s a1).now = s.now := (rfl)
@[simp] theorem State.updPort_rdW (s a1 a2 k) : (State.updPort s a1 a2).rdW k = s.rdW k := (rfl)
@[simp] theorem State.updPort_rdG (s a1 a2 k) : (State.updPort s a1 a2).rdG k = s.rdG k := (rfl)
@[simp] theorem State.updPort_rdS (s a1 a2 k) : (State.updPort s a1 a2).rdS k = s.rdS k := (rfl)
@[simp] theorem State.updPort_fld (s a1 a2 k f) : (State.updPort s a1 a2).fld k f = s.fld k f := (rfl)
@[simp] theorem State.updPort_flag (s a1 a2 k f) : (State.updPort s a1 a2).flag k f = s.flag k f := (rfl)
@[simp] theorem State.updPort_on (s a1 a2 d) : (State.updPort s a1 a2).on d = s.on d := (rfl)
@[simp] theorem State.updPort_mode (s a1 a2) : (State.updPort s a1 a2).mode = s.mode := (rfl)
@[simp] theorem State.updPort_tlState (s a1 a2) : (State.updPort s a1 a2).tlState = s.tlState := (rfl)
@[simp] theorem State.updPort_now (s a1 a2) : (State.updPort s a1 a2).now = s.now := (rfl)
@[simp] theorem State.setRepairDue_rdW (s a1 k) : (State.setRepairDue s a1).rdW k = s.rdW k := (rfl)
@[simp] theorem State.setRepairDue_rdG (s a1 k) : (State.setRepairDue s a1).rdG k = s.rdG k := (rfl)
@[simp] theorem State.setRepairDue_rdS (s a1 k) : (State.setRepairDue s a1).rdS k = s.rdS k := (rfl)
@[simp] theorem State.setRepairDue_fld (s a1 k f) : (State.setRepairDue s a1).fld k f = s.fld k f := (rfl)
@[simp] theorem State.setRepairDue_flag (s a1 k f) : (State.setRepairDue s a1).flag k f = s.flag k f := (rfl)
@[simp] theorem State.setRepairDue_on (s a1 d) : (State.setRepairDue s a1).on d = s.on d := (rfl)
@[simp] theorem State.setRepairDue_mode (s a1) : (State.setRepairDue s a1).mode = s.mode := (rfl)
@[simp] theorem State.setRepairDue_tlState (s a1) : (State.setRepairDue s a1).tlState = s.tlState := (rfl)
@[simp] theorem State.setRepairDue_now (s a1) : (State.setRepairDue s a1).now = s.now := (rfl)
@[simp] theorem State.updSlice_rdW (s a1 a2 k) : (State.updSlice s a1 a2).rdW k = s.rdW k := (rfl)
@[simp] theorem State.updSlice_rdG (s a1 a2 k) : (State.updSlice s a1 a2).rdG k = s.rdG k := (rfl)
@[simp] theorem State.updSlice_rdS (s a1 a2 k) : (State.updSlice s a1 a2).rdS k = s.rdS k := (rfl)
@[simp] theorem State.updSlice_fld (s a1 a2 k f) : (State.updSlice s a1 a2).fld k f = s.fld k f := (rfl)
@[simp] theorem State.updSlice_flag (s a1 a2 k f) : (State.updSlice s a1 a2).flag k f = s.flag k f := (rfl)
@[simp] theorem State.updSlice_on (s a1 a2 d) : (State.updSlice s a1 a2).on d = s.on d := (rfl)
@[simp] theorem State.updSlice_mode (s a1 a2) : (State.updSlice s a1 a2).mode = s.mode := (rfl)
@[simp] theorem State.updSlice_tlState (s a1 a2) : (State.updSlice s a1 a2).tlState = s.tlState := (rfl)
@[simp] theorem State.updSlice_now (s a1 a2) : (State.updSlice s a1 a2).now = s.now := (rfl)
@[simp] theorem State.dropStaged_rdW (s k) : (State.dropStaged s).rdW k = s.rdW k := (rfl)
@[simp] theorem State.dropStaged_rdG (s k) : (State.dropStaged s).rdG k = s.rdG k := (rfl)
@[simp] theorem State.dropStaged_fld (s k f) : (State.dropStaged s).fld k f = s.fld k f := (rfl)
@[simp] theorem State.dropStaged_flag (s k f) : (State.dropStaged s).flag k f = s.flag k f := (rfl)
@[simp] theorem State.dropStaged_on (s d) : (State.dropStaged s).on d = s.on d := (rfl)
@[simp] theorem State.dropStaged_mode (s) : (State.dropStaged s).mode = s.mode := (rfl)
@[simp] theorem State.dropStaged_tlState (s) : (State.dropStaged s).tlState = s.tlState := (rfl)
@[simp] theorem State.dropStaged_now (s) : (State.dropStaged s).now = s.now := (rfl)
@[simp] theorem State.updTk_rdW (s a1 k) : (State.updTk s a1).rdW k = s.rdW k := (rfl)
@[simp] theorem State.updTk_rdG (s a1 k) : (State.updTk s a1).rdG k = s.rdG k := (rfl)
@[simp] theorem State.updTk_rdS (s a1 k) : (State.updTk s a1).rdS k = s.rdS k := (rfl)
@[simp] theorem State.updTk_fld (s a1 k f) : (State.updTk s a1).fld k f = s.fld k f := (rfl)
@[simp] theorem State.updTk_flag (s a1 k f) : (State.updTk s a1).flag k f = s.flag k f := (rfl)
@[simp] theorem State.updTk_on (s a1 d) : (State.updTk s a1).on d = s.on d := (rfl)
@[simp] theorem State.updTk_mode (s a1) : (State.updTk s a1).mode = s.mode := (rfl)
@[simp] theorem State.updTk_tlState (s a1) : (State.updTk s a1).tlState = s.tlState := (rfl)
@[simp] theorem State.updSec_rdW (s a1 k) : (State.updSec s a1).rdW k = s.rdW k := (rfl)
@[simp] theorem State.updSec_rdG (s a1 k) : (State.updSec s a1).rdG k = s.rdG k := (rfl)
@[simp] theorem State.updSec_rdS (s a1 k) : (State.updSec s a1).rdS k = s.rdS k := (rfl)
@[simp] theorem State.updSec_fld (s a1 k f) : (State.updSec s a1).fld k f = s.fld k f := (rfl)
@[simp] theorem State.updSec_flag (s a1 k f) : (State.updSec s a1).flag k f = s.flag k f := (rfl)
@[simp] theorem State.updSec_on (s a1 d) : (State.updSec s a1).on d = s.on d := (rfl)
@[simp] theorem State.updSec_mode (s a1) : (State.updSec s a1).mode = s.mode := (rfl)
@[simp] theorem State.updSec_tlState (s a1) : (State.updSec s a1).tlState = s.tlState := (rfl)
@[simp] theorem State.updSec_now (s a1) : (State.updSec s a1).now = s.now := (rfl)
@[simp] theorem State.updPw_rdW (s a1 k) : (State.updPw s a1).rdW k = s.rdW k := (rfl)
@[simp] theorem State.updPw_rdG (s a1 k) : (State.updPw s a1).rdG k = s.rdG k := (rfl)
@[simp] theorem State.updPw_rdS (s a1 k) : (State.updPw s a1).rdS k = s.rdS k := (rfl)
@[simp] theorem State.updPw_fld (s a1 k f) : (State.updPw s a1).fld k f = s.fld k f := (rfl)
@[simp] theorem State.updPw_flag (s a1 k f) : (State.updPw s a1).flag k f = s.flag k f := (rfl)
@[simp] theorem State.updPw_on (s a1 d) : (State.updPw s a1).on d = s.on d := (rfl)
@[simp] theorem State.updPw_mode (s a1) : (State.updPw s a1).mode = s.mode := (rfl)
@[simp] theorem State.updPw_tlState (s a1) : (State.updPw s a1).tlState = s.tlState := (rfl)
@[simp] theorem State.updPw_now (s a1) : (State.updPw s a1).now = s.now := (rfl)
@[simp] theorem State.setLatches_rdW (s a1 k) : (State.setLatches s a1).rdW k = s.rdW k := (rfl)
@[simp] theorem State.setLatches_rdG (s a1 k) : (State.setLatches s a1).rdG k = s.rdG k := (rfl)
@[simp] theorem State.setLatches_rdS (s a1 k) : (State.setLatches s a1).rdS k = s.rdS k := (rfl)
@[simp] theorem State.setLatches_fld (s a1 k f) : (State.setLatches s a1).fld k f = s.fld k f := (rfl)
@[simp] theorem State.setLatches_flag (s a1 k f) : (State.setLatches s a1).flag k f = s.flag k f := (rfl)
@[simp] theorem State.setLatches_on (s a1 d) : (State.setLatches s a1).on d = s.on d := (rfl)
@[simp] theorem State.setLatches_mode (s a1) : (State.setLatches s a1).mode = s.mode := (rfl)
@[simp] theorem State.setLatches_tlState (s a1) : (State.setLatches s a1).tlState = s.tlState := (rfl)
@[simp] theorem State.setLatches_now (s a1) : (State.setLatches s a1).now = s.now := (rfl)
@[simp] theorem State.setLog_rdW (s a1 k) : (State.setLog s a1).rdW k = s.rdW k := (rfl)
@[simp] theorem State.setLog_rdG (s a1 k) : (State.setLog s a1).rdG k = s.rdG k := (rfl)
@[simp] theorem State.setLog_rdS (s a1 k) : (State.setLog s a1).rdS k = s.rdS k := (rfl)
@[simp] theorem State.setLog_fld (s a1 k f) : (State.setLog s a1).fld k f = s.fld k f := (rfl)
@[simp] theorem State.setLog_flag (s a1 k f) : (State.setLog s a1).flag k f = s.flag k f := (rfl)
@[simp] theorem State.setLog_on (s a1 d) : (State.setLog s a1).on d = s.on d := (rfl)
@[simp] theorem State.setLog_mode (s a1) : (State.setLog s a1).mode = s.mode := (rfl)
@[simp] theorem State.setLog_tlState (s a1) : (State.setLog s a1).tlState = s.tlState := (rfl)
@[simp] theorem State.setLog_now (s a1) : (State.setLog s a1).now = s.now := (rfl)
@[simp] theorem State.setHeldWr_rdW (s a1 k) : (State.setHeldWr s a1).rdW k = s.rdW k := (rfl)
@[simp] theorem State.setHeldWr_rdG (s a1 k) : (State.setHeldWr s a1).rdG k = s.rdG k := (rfl)
@[simp] theorem State.setHeldWr_rdS (s a1 k) : (State.setHeldWr s a1).rdS k = s.rdS k := (rfl)
@[simp] theorem State.setHeldWr_fld (s a1 k f) : (State.setHeldWr s a1).fld k f = s.fld k f := (rfl)
@[simp] theorem State.setHeldWr_flag (s a1 k f) : (State.setHeldWr s a1).flag k f = s.flag k f := (rfl)
@[simp] theorem State.setHeldWr_on (s a1 d) : (State.setHeldWr s a1).on d = s.on d := (rfl)
@[simp] theorem State.setHeldWr_mode (s a1) : (State.setHeldWr s a1).mode = s.mode := (rfl)
@[simp] theorem State.setHeldWr_tlState (s a1) : (State.setHeldWr s a1).tlState = s.tlState := (rfl)
@[simp] theorem State.setHeldWr_now (s a1) : (State.setHeldWr s a1).now = s.now := (rfl)
@[simp] theorem State.updSpare_rdW (s a1 a2 k) : (State.updSpare s a1 a2).rdW k = s.rdW k := (rfl)
@[simp] theorem State.updSpare_rdG (s a1 a2 k) : (State.updSpare s a1 a2).rdG k = s.rdG k := (rfl)
@[simp] theorem State.updSpare_rdS (s a1 a2 k) : (State.updSpare s a1 a2).rdS k = s.rdS k := (rfl)
@[simp] theorem State.updSpare_fld (s a1 a2 k f) : (State.updSpare s a1 a2).fld k f = s.fld k f := (rfl)
@[simp] theorem State.updSpare_flag (s a1 a2 k f) : (State.updSpare s a1 a2).flag k f = s.flag k f := (rfl)
@[simp] theorem State.updSpare_on (s a1 a2 d) : (State.updSpare s a1 a2).on d = s.on d := (rfl)
@[simp] theorem State.updSpare_mode (s a1 a2) : (State.updSpare s a1 a2).mode = s.mode := (rfl)
@[simp] theorem State.updSpare_tlState (s a1 a2) : (State.updSpare s a1 a2).tlState = s.tlState := (rfl)
@[simp] theorem State.updSpare_now (s a1 a2) : (State.updSpare s a1 a2).now = s.now := (rfl)
@[simp] theorem State.updBank_rdW (s a1 a2 k) : (State.updBank s a1 a2).rdW k = s.rdW k := (rfl)
@[simp] theorem State.updBank_rdG (s a1 a2 k) : (State.updBank s a1 a2).rdG k = s.rdG k := (rfl)
@[simp] theorem State.updBank_rdS (s a1 a2 k) : (State.updBank s a1 a2).rdS k = s.rdS k := (rfl)
@[simp] theorem State.updBank_fld (s a1 a2 k f) : (State.updBank s a1 a2).fld k f = s.fld k f := (rfl)
@[simp] theorem State.updBank_flag (s a1 a2 k f) : (State.updBank s a1 a2).flag k f = s.flag k f := (rfl)
@[simp] theorem State.updBank_on (s a1 a2 d) : (State.updBank s a1 a2).on d = s.on d := (rfl)
@[simp] theorem State.updBank_mode (s a1 a2) : (State.updBank s a1 a2).mode = s.mode := (rfl)
@[simp] theorem State.updBank_tlState (s a1 a2) : (State.updBank s a1 a2).tlState = s.tlState := (rfl)
@[simp] theorem State.updBank_now (s a1 a2) : (State.updBank s a1 a2).now = s.now := (rfl)
@[simp] theorem State.wrS_rdW (s a1 a2 k) : (State.wrS s a1 a2).rdW k = s.rdW k := (rfl)
@[simp] theorem State.wrS_rdG (s a1 a2 k) : (State.wrS s a1 a2).rdG k = s.rdG k := (rfl)
@[simp] theorem State.wrS_fld (s a1 a2 k f) : (State.wrS s a1 a2).fld k f = s.fld k f := (rfl)
@[simp] theorem State.wrS_flag (s a1 a2 k f) : (State.wrS s a1 a2).flag k f = s.flag k f := (rfl)
@[simp] theorem State.wrS_on (s a1 a2 d) : (State.wrS s a1 a2).on d = s.on d := (rfl)
@[simp] theorem State.wrS_mode (s a1 a2) : (State.wrS s a1 a2).mode = s.mode := (rfl)
@[simp] theorem State.wrS_tlState (s a1 a2) : (State.wrS s a1 a2).tlState = s.tlState := (rfl)
@[simp] theorem State.wrS_now (s a1 a2) : (State.wrS s a1 a2).now = s.now := (rfl)
@[simp] theorem State.updRs_rdW (s a1 k) : (State.updRs s a1).rdW k = s.rdW k := (rfl)
@[simp] theorem State.updRs_rdG (s a1 k) : (State.updRs s a1).rdG k = s.rdG k := (rfl)
@[simp] theorem State.updRs_rdS (s a1 k) : (State.updRs s a1).rdS k = s.rdS k := (rfl)
@[simp] theorem State.updRs_fld (s a1 k f) : (State.updRs s a1).fld k f = s.fld k f := (rfl)
@[simp] theorem State.updRs_flag (s a1 k f) : (State.updRs s a1).flag k f = s.flag k f := (rfl)
@[simp] theorem State.updRs_on (s a1 d) : (State.updRs s a1).on d = s.on d := (rfl)
@[simp] theorem State.updRs_mode (s a1) : (State.updRs s a1).mode = s.mode := (rfl)
@[simp] theorem State.updRs_tlState (s a1) : (State.updRs s a1).tlState = s.tlState := (rfl)
@[simp] theorem State.updRs_now (s a1) : (State.updRs s a1).now = s.now := (rfl)
@[simp] theorem State.keepRegs_rdG (s a1 k) : (State.keepRegs s a1).rdG k = s.rdG k := (rfl)
@[simp] theorem State.keepRegs_rdS (s a1 k) : (State.keepRegs s a1).rdS k = s.rdS k := (rfl)
@[simp] theorem State.keepRegs_now (s a1) : (State.keepRegs s a1).now = s.now := (rfl)
@[simp] theorem State.keepImages_rdW (s a1 k) : (State.keepImages s a1).rdW k = s.rdW k := (rfl)
@[simp] theorem State.keepImages_on (s a1 d) : (State.keepImages s a1).on d = s.on d := (rfl)
@[simp] theorem State.keepImages_now (s a1) : (State.keepImages s a1).now = s.now := (rfl)
@[simp] theorem State.setChans_rdW (s a1 k) : (State.setChans s a1).rdW k = s.rdW k := (rfl)
@[simp] theorem State.setChans_rdG (s a1 k) : (State.setChans s a1).rdG k = s.rdG k := (rfl)
@[simp] theorem State.setChans_rdS (s a1 k) : (State.setChans s a1).rdS k = s.rdS k := (rfl)
@[simp] theorem State.setChans_fld (s a1 k f) : (State.setChans s a1).fld k f = s.fld k f := (rfl)
@[simp] theorem State.setChans_flag (s a1 k f) : (State.setChans s a1).flag k f = s.flag k f := (rfl)
@[simp] theorem State.setChans_on (s a1 d) : (State.setChans s a1).on d = s.on d := (rfl)
@[simp] theorem State.setChans_mode (s a1) : (State.setChans s a1).mode = s.mode := (rfl)
@[simp] theorem State.setChans_tlState (s a1) : (State.setChans s a1).tlState = s.tlState := (rfl)
@[simp] theorem State.setChans_now (s a1) : (State.setChans s a1).now = s.now := (rfl)
@[simp] theorem State.setSlices_rdW (s a1 k) : (State.setSlices s a1).rdW k = s.rdW k := (rfl)
@[simp] theorem State.setSlices_rdG (s a1 k) : (State.setSlices s a1).rdG k = s.rdG k := (rfl)
@[simp] theorem State.setSlices_rdS (s a1 k) : (State.setSlices s a1).rdS k = s.rdS k := (rfl)
@[simp] theorem State.setSlices_fld (s a1 k f) : (State.setSlices s a1).fld k f = s.fld k f := (rfl)
@[simp] theorem State.setSlices_flag (s a1 k f) : (State.setSlices s a1).flag k f = s.flag k f := (rfl)
@[simp] theorem State.setSlices_on (s a1 d) : (State.setSlices s a1).on d = s.on d := (rfl)
@[simp] theorem State.setSlices_mode (s a1) : (State.setSlices s a1).mode = s.mode := (rfl)
@[simp] theorem State.setSlices_tlState (s a1) : (State.setSlices s a1).tlState = s.tlState := (rfl)
@[simp] theorem State.setSlices_now (s a1) : (State.setSlices s a1).now = s.now := (rfl)
@[simp] theorem State.copyActive_rdW (s k) : (State.copyActive s).rdW k = s.rdW k := (rfl)
@[simp] theorem State.copyActive_rdG (s k) : (State.copyActive s).rdG k = s.rdG k := (rfl)
@[simp] theorem State.copyActive_fld (s k f) : (State.copyActive s).fld k f = s.fld k f := (rfl)
@[simp] theorem State.copyActive_flag (s k f) : (State.copyActive s).flag k f = s.flag k f := (rfl)
@[simp] theorem State.copyActive_on (s d) : (State.copyActive s).on d = s.on d := (rfl)
@[simp] theorem State.copyActive_mode (s) : (State.copyActive s).mode = s.mode := (rfl)
@[simp] theorem State.copyActive_tlState (s) : (State.copyActive s).tlState = s.tlState := (rfl)
@[simp] theorem State.copyActive_now (s) : (State.copyActive s).now = s.now := (rfl)
@[simp] theorem State.setCalDue_rdW (s a1 a2 k) : (State.setCalDue s a1 a2).rdW k = s.rdW k := (rfl)
@[simp] theorem State.setCalDue_rdG (s a1 a2 k) : (State.setCalDue s a1 a2).rdG k = s.rdG k := (rfl)
@[simp] theorem State.setCalDue_rdS (s a1 a2 k) : (State.setCalDue s a1 a2).rdS k = s.rdS k := (rfl)
@[simp] theorem State.setCalDue_fld (s a1 a2 k f) : (State.setCalDue s a1 a2).fld k f = s.fld k f := (rfl)
@[simp] theorem State.setCalDue_flag (s a1 a2 k f) : (State.setCalDue s a1 a2).flag k f = s.flag k f := (rfl)
@[simp] theorem State.setCalDue_on (s a1 a2 d) : (State.setCalDue s a1 a2).on d = s.on d := (rfl)
@[simp] theorem State.setCalDue_mode (s a1 a2) : (State.setCalDue s a1 a2).mode = s.mode := (rfl)
@[simp] theorem State.setCalDue_tlState (s a1 a2) : (State.setCalDue s a1 a2).tlState = s.tlState := (rfl)
@[simp] theorem State.setCalDue_now (s a1 a2) : (State.setCalDue s a1 a2).now = s.now := (rfl)
@[simp] theorem State.setLinks_rdW (s a1 k) : (State.setLinks s a1).rdW k = s.rdW k := (rfl)
@[simp] theorem State.setLinks_rdG (s a1 k) : (State.setLinks s a1).rdG k = s.rdG k := (rfl)
@[simp] theorem State.setLinks_rdS (s a1 k) : (State.setLinks s a1).rdS k = s.rdS k := (rfl)
@[simp] theorem State.setLinks_fld (s a1 k f) : (State.setLinks s a1).fld k f = s.fld k f := (rfl)
@[simp] theorem State.setLinks_flag (s a1 k f) : (State.setLinks s a1).flag k f = s.flag k f := (rfl)
@[simp] theorem State.setLinks_on (s a1 d) : (State.setLinks s a1).on d = s.on d := (rfl)
@[simp] theorem State.setLinks_mode (s a1) : (State.setLinks s a1).mode = s.mode := (rfl)
@[simp] theorem State.setLinks_tlState (s a1) : (State.setLinks s a1).tlState = s.tlState := (rfl)
@[simp] theorem State.setLinks_now (s a1) : (State.setLinks s a1).now = s.now := (rfl)
@[simp] theorem State.promote_rdW (s k) : (State.promote s).rdW k = s.rdW k := (rfl)
@[simp] theorem State.promote_on (s d) : (State.promote s).on d = s.on d := (rfl)
@[simp] theorem State.promote_now (s) : (State.promote s).now = s.now := (rfl)
@[simp] theorem State.updFlash_rdW (s a1 k) : (State.updFlash s a1).rdW k = s.rdW k := (rfl)
@[simp] theorem State.updFlash_rdG (s a1 k) : (State.updFlash s a1).rdG k = s.rdG k := (rfl)
@[simp] theorem State.updFlash_rdS (s a1 k) : (State.updFlash s a1).rdS k = s.rdS k := (rfl)
@[simp] theorem State.updFlash_fld (s a1 k f) : (State.updFlash s a1).fld k f = s.fld k f := (rfl)
@[simp] theorem State.updFlash_flag (s a1 k f) : (State.updFlash s a1).flag k f = s.flag k f := (rfl)
@[simp] theorem State.updFlash_on (s a1 d) : (State.updFlash s a1).on d = s.on d := (rfl)
@[simp] theorem State.updFlash_mode (s a1) : (State.updFlash s a1).mode = s.mode := (rfl)
@[simp] theorem State.updFlash_tlState (s a1) : (State.updFlash s a1).tlState = s.tlState := (rfl)
@[simp] theorem State.updFlash_now (s a1) : (State.updFlash s a1).now = s.now := (rfl)
@[simp] theorem State.setImage_rdW (s a1 k) : (State.setImage s a1).rdW k = s.rdW k := (rfl)
@[simp] theorem State.setImage_rdG (s a1 k) : (State.setImage s a1).rdG k = s.rdG k := (rfl)
@[simp] theorem State.setImage_rdS (s a1 k) : (State.setImage s a1).rdS k = s.rdS k := (rfl)
@[simp] theorem State.setImage_fld (s a1 k f) : (State.setImage s a1).fld k f = s.fld k f := (rfl)
@[simp] theorem State.setImage_flag (s a1 k f) : (State.setImage s a1).flag k f = s.flag k f := (rfl)
@[simp] theorem State.setImage_on (s a1 d) : (State.setImage s a1).on d = s.on d := (rfl)
@[simp] theorem State.setImage_mode (s a1) : (State.setImage s a1).mode = s.mode := (rfl)
@[simp] theorem State.setImage_tlState (s a1) : (State.setImage s a1).tlState = s.tlState := (rfl)
@[simp] theorem State.setImage_now (s a1) : (State.setImage s a1).now = s.now := (rfl)
@[simp] theorem State.setPails_rdW (s a1 k) : (State.setPails s a1).rdW k = s.rdW k := (rfl)
@[simp] theorem State.setPails_rdG (s a1 k) : (State.setPails s a1).rdG k = s.rdG k := (rfl)
@[simp] theorem State.setPails_rdS (s a1 k) : (State.setPails s a1).rdS k = s.rdS k := (rfl)
@[simp] theorem State.setPails_fld (s a1 k f) : (State.setPails s a1).fld k f = s.fld k f := (rfl)
@[simp] theorem State.setPails_flag (s a1 k f) : (State.setPails s a1).flag k f = s.flag k f := (rfl)
@[simp] theorem State.setPails_on (s a1 d) : (State.setPails s a1).on d = s.on d := (rfl)
@[simp] theorem State.setPails_mode (s a1) : (State.setPails s a1).mode = s.mode := (rfl)
@[simp] theorem State.setPails_tlState (s a1) : (State.setPails s a1).tlState = s.tlState := (rfl)
@[simp] theorem State.setPails_now (s a1) : (State.setPails s a1).now = s.now := (rfl)
@[simp] theorem State.wrG_rdW (s a1 a2 k) : (State.wrG s a1 a2).rdW k = s.rdW k := (rfl)
@[simp] theorem State.wrG_rdS (s a1 a2 k) : (State.wrG s a1 a2).rdS k = s.rdS k := (rfl)
@[simp] theorem State.wrG_on (s a1 a2 d) : (State.wrG s a1 a2).on d = s.on d := (rfl)
@[simp] theorem State.wrG_now (s a1 a2) : (State.wrG s a1 a2).now = s.now := (rfl)

@[simp] theorem State.link_updLink (s : State) (i : Nat) (f : LinkRt → LinkRt) : (s.updLink i f).link i = f (s.link i) :=
  SMap.get_upd_same _ _ _ _
theorem State.link_updLink_other (s : State) {i j : Nat} (f : LinkRt → LinkRt) (h : j ≠ i) : (s.updLink i f).link j = s.link j :=
  SMap.get_upd_other _ _ _ h
theorem State.link_of_links {s t : State} (h : t.links = s.links) (i : Nat) : t.link i = s.link i := by simp only [State.link, h]
@[simp] theorem State.port_updPort (s : State) (i : Nat) (f : PortRt → PortRt) : (s.updPort i f).port i = f (s.port i) :=
  SMap.get_upd_same _ _ _ _
theorem State.port_updPort_other (s : State) {i j : Nat} (f : PortRt → PortRt) (h : j ≠ i) : (s.updPort i f).port j = s.port j :=
  SMap.get_upd_other _ _ _ h
theorem State.port_of_ports {s t : State} (h : t.ports = s.ports) (i : Nat) : t.port i = s.port i := by simp only [State.port, h]
@[simp] theorem State.unit_updUnit (s : State) (i : Nat) (f : UnitRt → UnitRt) : (s.updUnit i f).unit i = f (s.unit i) :=
  SMap.get_upd_same _ _ _ _
theorem State.unit_updUnit_other (s : State) {i j : Nat} (f : UnitRt → UnitRt) (h : j ≠ i) : (s.updUnit i f).unit j = s.unit j :=
  SMap.get_upd_other _ _ _ h
theorem State.unit_of_units {s t : State} (h : t.units = s.units) (i : Nat) : t.unit i = s.unit i := by simp only [State.unit, h]
@[simp] theorem State.grp_updGrp (s : State) (i : Nat) (f : GroupRt → GroupRt) : (s.updGrp i f).grp i = f (s.grp i) :=
  SMap.get_upd_same _ _ _ _
theorem State.grp_updGrp_other (s : State) {i j : Nat} (f : GroupRt → GroupRt) (h : j ≠ i) : (s.updGrp i f).grp j = s.grp j :=
  SMap.get_upd_other _ _ _ h
theorem State.grp_of_groups {s t : State} (h : t.groups = s.groups) (i : Nat) : t.grp i = s.grp i := by simp only [State.grp, h]
@[simp] theorem State.chan_updChan (s : State) (i : Nat) (f : ChanRt → ChanRt) : (s.updChan i f).chan i = f (s.chan i) :=
  SMap.get_upd_same _ _ _ _
theorem State.chan_updChan_other (s : State) {i j : Nat} (f : ChanRt → ChanRt) (h : j ≠ i) : (s.updChan i f).chan j = s.chan j :=
  SMap.get_upd_other _ _ _ h
theorem State.chan_of_chans {s t : State} (h : t.chans = s.chans) (i : Nat) : t.chan i = s.chan i := by simp only [State.chan, h]
@[simp] theorem State.slice_updSlice (s : State) (i : Nat) (f : SliceRt → SliceRt) : (s.updSlice i f).slice i = f (s.slice i) :=
  SMap.get_upd_same _ _ _ _
theorem State.slice_updSlice_other (s : State) {i j : Nat} (f : SliceRt → SliceRt) (h : j ≠ i) : (s.updSlice i f).slice j = s.slice j :=
  SMap.get_upd_other _ _ _ h
theorem State.slice_of_slices {s t : State} (h : t.slices = s.slices) (i : Nat) : t.slice i = s.slice i := by simp only [State.slice, h]
@[simp] theorem State.pail_updPail (s : State) (i : Nat) (f : PailRt → PailRt) : (s.updPail i f).pail i = f (s.pail i) :=
  SMap.get_upd_same _ _ _ _
theorem State.pail_updPail_other (s : State) {i j : Nat} (f : PailRt → PailRt) (h : j ≠ i) : (s.updPail i f).pail j = s.pail j :=
  SMap.get_upd_other _ _ _ h
theorem State.pail_of_pails {s t : State} (h : t.pails = s.pails) (i : Nat) : t.pail i = s.pail i := by simp only [State.pail, h]
@[simp] theorem State.bank_updBank (s : State) (i : Nat) (f : BankRt → BankRt) : (s.updBank i f).bank i = f (s.bank i) :=
  SMap.get_upd_same _ _ _ _
theorem State.bank_updBank_other (s : State) {i j : Nat} (f : BankRt → BankRt) (h : j ≠ i) : (s.updBank i f).bank j = s.bank j :=
  SMap.get_upd_other _ _ _ h
theorem State.bank_of_banks {s t : State} (h : t.banks = s.banks) (i : Nat) : t.bank i = s.bank i := by simp only [State.bank, h]
@[simp] theorem State.spareRt_updSpare (s : State) (i : Nat) (f : SpareRt → SpareRt) : (s.updSpare i f).spareRt i = f (s.spareRt i) :=
  SMap.get_upd_same _ _ _ _
theorem State.spareRt_updSpare_other (s : State) {i j : Nat} (f : SpareRt → SpareRt) (h : j ≠ i) : (s.updSpare i f).spareRt j = s.spareRt j :=
  SMap.get_upd_other _ _ _ h
theorem State.spareRt_of_spares {s t : State} (h : t.spares = s.spares) (i : Nat) : t.spareRt i = s.spareRt i := by simp only [State.spareRt, h]
@[simp] theorem State.clp_updCl (s : State) (i : Nat) (f : ClRt → ClRt) : (s.updCl i f).clp i = f (s.clp i) :=
  SMap.get_upd_same _ _ _ _
theorem State.clp_updCl_other (s : State) {i j : Nat} (f : ClRt → ClRt) (h : j ≠ i) : (s.updCl i f).clp j = s.clp j :=
  SMap.get_upd_other _ _ _ h
theorem State.clp_of_cl {s t : State} (h : t.cl = s.cl) (i : Nat) : t.clp i = s.clp i := by simp only [State.clp, h]
@[simp] theorem State.updTk_tk (s : State) (f) : (s.updTk f).tk = f s.tk := (rfl)
@[simp] theorem State.updUm_um (s : State) (f) : (s.updUm f).um = f s.um := (rfl)
@[simp] theorem State.updPw_pw (s : State) (f) : (s.updPw f).pw = f s.pw := (rfl)
@[simp] theorem State.updTw_tw (s : State) (f) : (s.updTw f).tw = f s.tw := (rfl)
@[simp] theorem State.updRs_rs (s : State) (f) : (s.updRs f).rs = f s.rs := (rfl)
@[simp] theorem State.updSec_sec (s : State) (f) : (s.updSec f).sec = f s.sec := (rfl)
@[simp] theorem State.updFlash_flash (s : State) (f) : (s.updFlash f).flash = f s.flash := (rfl)
@[simp] theorem State.setPails_pails (s : State) (x) : (s.setPails x).pails = x := (rfl)
@[simp] theorem State.setLatches_latches (s : State) (x) : (s.setLatches x).latches = x := (rfl)
@[simp] theorem State.setHeldWr_heldWr (s : State) (x) : (s.setHeldWr x).heldWr = x := (rfl)
@[simp] theorem State.setChans_chans (s : State) (x) : (s.setChans x).chans = x := (rfl)
@[simp] theorem State.setSlices_slices (s : State) (x) : (s.setSlices x).slices = x := (rfl)
@[simp] theorem State.setLinks_links (s : State) (x) : (s.setLinks x).links = x := (rfl)
@[simp] theorem State.setRepairDue_repairDue (s : State) (x) : (s.setRepairDue x).repairDue = x := (rfl)
@[simp] theorem State.setImage_image (s : State) (x) : (s.setImage x).image = x := (rfl)
@[simp] theorem State.setLog_log (s : State) (x) : (s.setLog x).log = x := (rfl)
@[simp] theorem State.emit_out (s : State) (o) : (s.emit o).out = o :: s.out := (rfl)

end Sys2Proof.Machine
end

