-- ==== Sys2Proof/WellFormed.lean ====
section
/-! DEFINITION. Well-formed commands: those whose operands can stand on the bus, the link, the carrier or the mirror that
brings them. A command that is not well formed is no command of the device. -/

namespace Sys2Proof

/-- Header fields within their widths (R384); an MCTP endpoint and tag within theirs. -/
def UmHdr.wf (h : UmHdr) : Bool :=
  decide (h.seq < 2 ^ 32 ∧ h.flags < 2 ^ 16 ∧ h.gen < 2 ^ 32 ∧ h.slice < 2 ^ 16 ∧ h.eid < 256 ∧ h.tag < 8)

/-- Errors met by a read of a store: a syndrome has 8 bits (R184). -/
def eccOk (hits : List EccHit) : Bool := hits.all (fun e => decide (e.synd < 256 ∧ e.pail < 16412))

/-- Every operand of the command lies within the range that what brings it can carry. -/
def Instr.wf : Instr → Bool
  | .aonPowerOn => true
  | .brownout _ mv => decide (mv < 65536)
  | .resetNAccepted => true
  | .resetNRelease => true
  | .creameryWatchdogExpiry => true
  | .criticalStateError .. => true
  | .resetSwitchesOpen => true
  | .heldExit => true
  | .strapComplete .. => true
  | .bringupRowRelease a b => decide (a.length ≤ 65536 ∧ b.length ≤ 65536)
  | .bootSourceFail .. => true
  | .firmwareVerified i => decide (1024 ≤ i.length ∧ i.length ≤ 16777216)
  | .readyEntry .. => true
  | .refDeclaredAbsent => true
  | .refDeclaredPresent => true
  | .pllLockAcquired => true
  | .pllLockLost => true
  | .ppsEdge .. => true
  | .ppsMiss => true
  | .tlStateChange => true
  | .tlSetTimeout => true
  | .tlCtrlInvalidate => true
  | .tlCtrlClrStr => true
  | .alarmFire .. => true
  | .alarmWakeStart .. => true
  | .aonRatioMeasure .. => true
  | .stretchEpisodeStart .. => true
  | .stretchEpisodeEnd => true
  | .portCalibration _ l => decide (l.length ≤ 8)
  | .alinkTxRead _ e => eccOk e
  | .releaseMissedDeadline .. => true
  | .heldReleaseTimeout .. => true
  | .alinkSlotSend .. => true
  | .churnUplinkPassStart .. => true
  | .churnDownlinkPassStart .. => true
  | .churnPassCommit _ _ e => eccOk e
  | .chParityError .. => true
  | .weightWindowWrite _ _ o d e => decide (o < 0x100000 ∧ d.length ≤ 4096) && eccOk e
  | .wbCtrlSync .. => true
  | .wbSyncComplete .. => true
  | .wbCtrlRestore .. => true
  | .wbRestoreComplete .. => true
  | .wbRestoreExchange .. => true
  | .weightLockEnd .. => true
  | .weightZeroingComplete .. => true
  | .spareCtrlGo .. => true
  | .sparePreparationDone .. => true
  | .spareSwitch .. => true
  | .spareCounterMerge .. => true
  | .spareCtrlReinstate .. => true
  | .reinstateTestDone .. => true
  | .blockHeaderArrival .. => true
  | .blockCommit _ e => eccOk e
  | .bankInitComplete .. => true
  | .vatRprReq .. => true
  | .remapApply .. => true
  | .dmaStart .. => true
  | .dmaStopReq .. => true
  | .dmaCancel .. => true
  | .dmaClrErr .. => true
  | .dmaChainStart _ e => eccOk e
  | .dmaReleaseTest .. => true
  | .dmaRoomReady .. => true
  | .dmaRequestIssue _ e => eccOk e
  | .dmaReadCompletion _ _ _ d => decide (d.length ≤ 4096)
  | .dmaReadTimeout .. => true
  | .dmaRecordWrite .. => true
  | .dmaRetire .. => true
  | .dmaFetch .. => true
  | .dmaFetchComplete _ _ d => decide (d.length ≤ 64)
  | .dmaMissMaster .. => true
  | .frameReceive .. => true
  | .credit .. => true
  | .ledger .. => true
  | .cresync .. => true
  | .ack .. => true
  | .dlyRsp .. => true
  | .epoch .. => true
  | .leTod .. => true
  | .status .. => true
  | .spareReady .. => true
  | .laneSwap .. => true
  | .spareAbortTimeout .. => true
  | .auditLate .. => true
  | .replayTimeout .. => true
  | .calibrationRequest .. => true
  | .dlyRspMissing .. => true
  | .alCtrlRetrain .. => true
  | .presenceProbe .. => true
  | .receiverLock .. => true
  | .frameLock .. => true
  | .cfgDone .. => true
  | .calibrateComplete .. => true
  | .trainingTimeout .. => true
  | .trainingRetry .. => true
  | .recoveredClockLoss .. => true
  | .inhibitMuteCheck .. => true
  | .hostBar4Write _ o d => decide (o + d.length ≤ 0x800000000 ∧ d.length ≤ 4096)
  | .hostBar4Read _ o en => decide (o + en.length ≤ 0x800000000 ∧ en.length ≤ 4096)
  | .hostReadTimeout _ t => decide (t < 512)
  | .cpl .. => true
  | .err .. => true
  | .retry .. => true
  | .wr .. => true
  | .rd .. => true
  | .bridgeFetchComplete _ _ _ d => decide (d.length ≤ 4096)
  | .bridgeHoldExpiry _ t => decide (t < 512)
  | .perstNAssert .. => true
  | .perstNDeassert .. => true
  | .hotReset .. => true
  | .hlPortRetrain .. => true
  | .flr .. => true
  | .flrComplete .. => true
  | .configRequest _ o _ _ _ => decide (o < 4096)
  | .busMasterEnableClear .. => true
  | .busMasterEnableSet .. => true
  | .memorySpaceEnableChange .. => true
  | .dStateChange .. => true
  | .hostLinkUp _ w r _ => decide (w ≤ 16 ∧ r ≤ 6)
  | .hostLinkDown .. => true
  | .hostLinkRateWidthChange _ w r => decide (w ≤ 16 ∧ r ≤ 6)
  | .l0pNarrowing _ w _ => decide (w ≤ 16)
  | .l1Request .. => true
  | .l1ExitStart .. => true
  | .atsInvalidationRequest _ t p _ _ => decide (t < 32 ∧ p < 2 ^ 20)
  | .atsInvalidationComplete .. => true
  | .doeObject _ o => decide (o.length ≤ 2 ^ 20)
  | .bar0Access _ o n _ d e => eccOk e && decide (o + n ≤ 2 ^ 25 ∧ o + d.length ≤ 2 ^ 25 ∧ n ≤ 4096 ∧ d.length ≤ 4096)
  | .bar2Access _ o n _ _ d => decide (o + n ≤ 2 ^ 26 ∧ o + d.length ≤ 2 ^ 26 ∧ n ≤ 4096 ∧ d.length ≤ 4096)
  | .expansionRomRead _ o n => decide (o + n ≤ 2 ^ 24 ∧ n ≤ 4096)
  | .postedWritePoisoned .. => true
  | .unexpectedCompletion .. => true
  | .msixSend .. => true
  | .msixTableWrite _ o _ n => decide (o + n ≤ 0x8000 ∧ (n = 4 ∨ n = 8))
  | .evInject .. => true
  | .alertNRelease => true
  | .slDbin .. => true
  | .slDboutAck .. => true
  | .slCtrlFence .. => true
  | .slCtrlKill .. => true
  | .umSqTailWrite .. => true
  | .umPacketExecute _ e => eccOk e
  | .umReplyPost .. => true
  | .umRqHeadWrite .. => true
  | .umCtrlReset => true
  | .mctpMessage e t b => decide (e < 256 ∧ t < 8 ∧ b.length ≤ 4128)
  | .setEndpointId e t i p => decide (e < 256 ∧ t < 8 ∧ i < 256 ∧ p.length ≤ 64)
  | .getEndpointId e t i p => decide (e < 256 ∧ t < 8 ∧ i < 256 ∧ p.length ≤ 64)
  | .getMctpVersionSupport e t i p => decide (e < 256 ∧ t < 8 ∧ i < 256 ∧ p.length ≤ 64)
  | .getMessageTypeSupport e t i p => decide (e < 256 ∧ t < 8 ∧ i < 256 ∧ p.length ≤ 64)
  | .getVendorDefinedMessageSupport e t i p => decide (e < 256 ∧ t < 8 ∧ i < 256 ∧ p.length ≤ 64)
  | .pldmFirmwareData e b => decide (e < 256 ∧ b.length ≤ 1024)
  | .identify h p => h.wf && decide (p.length ≤ 4096)
  | .ping h p => h.wf && decide (p.length ≤ 4096)
  | .rtRead h p => h.wf && decide (p.length ≤ 4096)
  | .mgrLinkSet h p => h.wf && decide (p.length ≤ 4096)
  | .genOpen h p => h.wf && decide (p.length ≤ 4096)
  | .genAbort h p => h.wf && decide (p.length ≤ 4096)
  | .regWrite h p e => h.wf && decide (p.length ≤ 4096) && eccOk e
  | .regRead h p e => h.wf && decide (p.length ≤ 4096) && eccOk e
  | .commitAt h p => h.wf && decide (p.length ≤ 4096)
  | .commitChecksComplete => true
  | .genTakesEffect => true
  | .genCancel h p => h.wf && decide (p.length ≤ 4096)
  | .genStatus h p => h.wf && decide (p.length ≤ 4096)
  | .genDump h p => h.wf && decide (p.length ≤ 4096)
  | .stagedParity k => decide (k < 2 ^ 25)
  | .tlSet h p => h.wf && decide (p.length ≤ 4096)
  | .tlGet h p => h.wf && decide (p.length ≤ 4096)
  | .tlAlarmSet h p => h.wf && decide (p.length ≤ 4096)
  | .alRetrain h p => h.wf && decide (p.length ≤ 4096)
  | .alStatus h p => h.wf && decide (p.length ≤ 4096)
  | .alSpare h p => h.wf && decide (p.length ≤ 4096)
  | .alCal h p => h.wf && decide (p.length ≤ 4096)
  | .alLedger h p => h.wf && decide (p.length ≤ 4096)
  | .wbWrite h p e => h.wf && decide (p.length ≤ 4096) && eccOk e
  | .wbRead h p e => h.wf && decide (p.length ≤ 4096) && eccOk e
  | .wbSync h p => h.wf && decide (p.length ≤ 4096)
  | .wbRestore h p => h.wf && decide (p.length ≤ 4096)
  | .spareGo h p => h.wf && decide (p.length ≤ 4096)
  | .spareReinstate h p => h.wf && decide (p.length ≤ 4096)
  | .chCounters h p => h.wf && decide (p.length ≤ 4096)
  | .sliceBind h p => h.wf && decide (p.length ≤ 4096)
  | .sliceUnbind h p => h.wf && decide (p.length ≤ 4096)
  | .sliceFence h p => h.wf && decide (p.length ≤ 4096)
  | .sliceKill h p => h.wf && decide (p.length ≤ 4096)
  | .mboxGet h p => h.wf && decide (p.length ≤ 4096)
  | .mboxPut h p => h.wf && decide (p.length ≤ 4096)
  | .sliceStatus h p => h.wf && decide (p.length ≤ 4096)
  | .dmaWheelSet h p => h.wf && decide (p.length ≤ 4096)
  | .dmaOwnSet h p => h.wf && decide (p.length ≤ 4096)
  | .dmaStgqSet h p => h.wf && decide (p.length ≤ 4096)
  | .dmaChanRead h p => h.wf && decide (p.length ≤ 4096)
  | .dmaChanCtrl h p => h.wf && decide (p.length ≤ 4096)
  | .modeSet h p => h.wf && decide (p.length ≤ 4096)
  | .drainComplete => true
  | .drainLimitExpiry => true
  | .modeGet h p => h.wf && decide (p.length ≤ 4096)
  | .pwVote h p => h.wf && decide (p.length ≤ 4096)
  | .pwStatus h p => h.wf && decide (p.length ≤ 4096)
  | .dozeCfg h p => h.wf && decide (p.length ≤ 4096)
  | .twRoleSet h p => h.wf && decide (p.length ≤ 4096)
  | .twSwitchover h p => h.wf && decide (p.length ≤ 4096)
  | .switchoverHandoff => true
  | .twStatus h p => h.wf && decide (p.length ≤ 4096)
  | .herdAddrSet h p => h.wf && decide (p.length ≤ 4096)
  | .herdStatus h p => h.wf && decide (p.length ≤ 4096)
  | .clCal h p => h.wf && decide (p.length ≤ 4096)
  | .secStatus h p => h.wf && decide (p.length ≤ 4096)
  | .fwLoad h p => h.wf && decide (p.length ≤ 4096)
  | .fwActivate h p => h.wf && decide (p.length ≤ 4096)
  | .lcAdvance h p _ => h.wf && decide (p.length ≤ 4096)
  | .debugUnlock h p => h.wf && decide (p.length ≤ 4096)
  | .secZeroize h p => h.wf && decide (p.length ≤ 4096)
  | .tamperCfg h p => h.wf && decide (p.length ≤ 4096)
  | .logRead h p e => h.wf && decide (p.length ≤ 4096) && eccOk e
  | .logMark h p => h.wf && decide (p.length ≤ 4096)
  | .workReport h p => h.wf && decide (p.length ≤ 4096)
  | .evRead h p => h.wf && decide (p.length ≤ 4096)
  | .evClear h p => h.wf && decide (p.length ≤ 4096)
  | .rsCauseGet h p => h.wf && decide (p.length ≤ 4096)
  | .resetDomain h p => h.wf && decide (p.length ≤ 4096)
  | .domainResetComplete => true
  | .umReset h p => h.wf && decide (p.length ≤ 4096)
  | .heartbeatInstant => true
  | .heartbeat .. => true
  | .takeoverComplete => true
  | .epochStepDown => true
  | .stagedWr _ b => decide (b.length ≤ 64)
  | .shadowWr _ b => decide (b.length ≤ 64)
  | .genCmd _ b => decide (b.length ≤ 64)
  | .commit _ b => decide (b.length ≤ 64)
  | .commitAck _ b => decide (b.length ≤ 64)
  | .commitAckTimeout => true
  | .chan _ b => decide (b.length ≤ 64)
  | .syncReg _ b => decide (b.length ≤ 64)
  | .syncWt _ b => decide (b.length ≤ 64)
  | .syncDone _ b _ => decide (b.length ≤ 64)
  | .peerReset _ b => decide (b.length ≤ 64)
  | .twCtrlPeerReset => true
  | .twCtrlResync => true
  | .clPortRetrain .. => true
  | .clotonCalibration .. => true
  | .digest .. => true
  | .timemark .. => true
  | .hready _ _ b => decide (b.length ≤ 64)
  | .habort _ _ b _ => decide (b.length ≤ 64)
  | .herdGuardCheck => true
  | .herdCellForward .. => true
  | .domainEntryStart .. => true
  | .domainSwitchOff .. => true
  | .domainEntryAbort .. => true
  | .domainReleased _ e => eccOk e
  | .pwHvote33Write .. => true
  | .sleepEntry => true
  | .sleepEntryWait => true
  | .wake _ e => eccOk e
  | .sidebandAddressMatch .. => true
  | .inbandWake .. => true
  | .gpioWake .. => true
  | .dozeSample t _ _ _ p => decide (t.length ≤ 64) && p.all (fun n => decide (n < 96))
  | .supplyDipRecorded _ mv _ => decide (mv < 65536)
  | .supplyDipEnd _ mv _ => decide (mv < 65536)
  | .supplyOver .. => true
  | .supplyShed => true
  | .supplyReturn => true
  | .thermalConversion t => decide (t.length ≤ 64)
  | .pwShedCtrlRestore .. => true
  | .noiseHealthFailure .. => true
  | .drbgRestart => true
  | .drbgInstantiated => true
  | .secRngCtrlRetry => true
  | .drbgReseed => true
  | .curveOperationComplete .. => true
  | .tamperTrip .. => true
  | .secDbgCtrlLock => true
  | .tapInstruction .. => true
  | .spdmRequest .. => true
  | .query .. => true
  | .keyProg _ _ _ _ k d u key => decide (k < 2 ∧ d < 2 ∧ u < 3 ∧ key.length ≤ 64)
  | .kSetGo .. => true
  | .kSetStop .. => true
  | .ideFail .. => true
  | .lockInterface .. => true
  | .startInterface .. => true
  | .stopInterface .. => true
  | .getDeviceInterfaceState .. => true
  | .logQueueWrite => true
  | .logRdseqWrite .. => true
  | .repairRecordWrite .. => true
  | .registerWrite _ o _ _ => decide (o < 2 ^ 25)
  | .registerReadClear _ o => decide (o < 2 ^ 25)
  | .bridgeFetchTimeout _ t => decide (t < 512)
  | .l1ExitComplete .. => true
  | .l2L3ReadyEntry .. => true
  | .resetDomainDeviceStart => true
  | .clotonSlotSend .. => true
  | .dlyReq .. => true
  | .spare .. => true
  | .timelineSchedulerVote => true
  | .alertResponseAddress => true
  | .aonComparatorThermal .. => true
  | .fuseProgrammingComplete .. => true
  | .slotBCopyComplete => true
  | .translationCompletion .. => true
  | .tlUncertGrowth => true

end Sys2Proof
end

