-- ==== Sys2Proof/Tests/Slice0.lean ====
section
/-! SUPPORT. The model's own tests: well-formedness, single steps, and a witness for the hypotheses of each statement. -/

set_option Elab.async false
set_option linter.unusedVariables false

namespace Sys2Proof.Tests

open Sys2Proof Sys2Proof.Machine

/-! ## Well-formedness: one ill-formed command for each check -/

/-- A header that is well formed. -/
def hd : UmHdr := { carrier := .ring, seq := 0, flags := 0, gen := 0, slice := 0, eid := 0, tag := 0 }

theorem smoke_ill_formed_1 : ([
    .brownout 0 65536,
    .firmwareVerified [],
    .portCalibration 0 (List.replicate 9 (0, 0)),
    .alinkTxRead 0 [⟨0, 0, 256, false⟩],
    .churnPassCommit 0 0 [⟨0, 0, 256, false⟩],
    .weightWindowWrite 0 0 1048576 [none] [],
    .blockCommit 0 [⟨0, 0, 256, false⟩],
    .dmaRequestIssue 0 [⟨0, 0, 256, false⟩],
    .dmaFetchComplete 0 .sc (List.replicate 65 0),
    .hostBar4Write 0 34359738368 [none],
    .hostBar4Read 0 34359738368 [true],
    .hostBar4Read 0 34359738367 [true, true],
    .hostReadTimeout 0 512,
    .dmaChainStart 0 [⟨0, 0, 256, false⟩],
    .bridgeHoldExpiry 0 512,
    .configRequest 0 4096 false 0 0,
    .hostLinkUp 0 17 0 false,
    .hostLinkUp 0 0 7 false,
    .hostLinkRateWidthChange 0 17 0,
    .hostLinkRateWidthChange 0 0 7,
    .l0pNarrowing 0 17 false,
    .atsInvalidationRequest 0 32 0 0 0,
    .atsInvalidationRequest 0 0 1048576 0 0,
    .bar0Access 0 33554432 4 false [] [],
    .bar0Access 0 33554432 0 false [none] [],
    .bar0Access 0 0 4097 false [] [],
    .bar2Access 0 67108864 4 false false [],
    .bar2Access 0 67108864 0 false false [none],
    .bar2Access 0 0 4097 false false [],
    .expansionRomRead 0 16777216 4,
    .expansionRomRead 0 0 4097,
    .msixTableWrite 0 32768 0 4,
    .msixTableWrite 0 0 0 5,
    .mctpMessage 256 0 [],
    .mctpMessage 0 8 [],
    .setEndpointId 256 0 0 [],
    .setEndpointId 0 8 0 [],
    .setEndpointId 0 0 256 [],
    .setEndpointId 0 0 0 (List.replicate 65 0),
    .getEndpointId 256 0 0 []] : List Instr).all (fun i => !i.wf) = true := by
  decide +kernel

theorem smoke_ill_formed_2 : ([
    .getEndpointId 0 8 0 [],
    .getEndpointId 0 0 256 [],
    .getEndpointId 0 0 0 (List.replicate 65 0),
    .getMctpVersionSupport 256 0 0 [],
    .getMctpVersionSupport 0 8 0 [],
    .getMctpVersionSupport 0 0 256 [],
    .getMctpVersionSupport 0 0 0 (List.replicate 65 0),
    .getMessageTypeSupport 256 0 0 [],
    .getMessageTypeSupport 0 8 0 [],
    .getMessageTypeSupport 0 0 256 [],
    .getMessageTypeSupport 0 0 0 (List.replicate 65 0),
    .getVendorDefinedMessageSupport 256 0 0 [],
    .getVendorDefinedMessageSupport 0 8 0 [],
    .getVendorDefinedMessageSupport 0 0 256 [],
    .getVendorDefinedMessageSupport 0 0 0 (List.replicate 65 0),
    .pldmFirmwareData 256 [],
    .identify { hd with seq := 2 ^ 32 } [],
    .ping { hd with seq := 2 ^ 32 } [],
    .rtRead { hd with seq := 2 ^ 32 } [],
    .mgrLinkSet { hd with seq := 2 ^ 32 } [],
    .genOpen { hd with seq := 2 ^ 32 } [],
    .genAbort { hd with seq := 2 ^ 32 } [],
    .regWrite { hd with seq := 2 ^ 32 } [] [],
    .regRead { hd with seq := 2 ^ 32 } [] [],
    .commitAt { hd with seq := 2 ^ 32 } [],
    .genCancel { hd with seq := 2 ^ 32 } [],
    .genStatus { hd with seq := 2 ^ 32 } [],
    .genDump { hd with seq := 2 ^ 32 } [],
    .stagedParity 33554432,
    .tlSet { hd with seq := 2 ^ 32 } [],
    .tlGet { hd with seq := 2 ^ 32 } [],
    .tlAlarmSet { hd with seq := 2 ^ 32 } [],
    .alRetrain { hd with seq := 2 ^ 32 } [],
    .alStatus { hd with seq := 2 ^ 32 } [],
    .alSpare { hd with seq := 2 ^ 32 } [],
    .alCal { hd with seq := 2 ^ 32 } [],
    .alLedger { hd with seq := 2 ^ 32 } [],
    .wbWrite { hd with seq := 2 ^ 32 } [] [],
    .wbRead { hd with seq := 2 ^ 32 } [] [],
    .wbSync { hd with seq := 2 ^ 32 } []] : List Instr).all (fun i => !i.wf) = true := by
  decide +kernel

theorem smoke_ill_formed_3 : ([
    .wbRestore { hd with seq := 2 ^ 32 } [],
    .spareGo { hd with seq := 2 ^ 32 } [],
    .spareReinstate { hd with seq := 2 ^ 32 } [],
    .chCounters { hd with seq := 2 ^ 32 } [],
    .sliceBind { hd with seq := 2 ^ 32 } [],
    .sliceUnbind { hd with seq := 2 ^ 32 } [],
    .sliceFence { hd with seq := 2 ^ 32 } [],
    .sliceKill { hd with seq := 2 ^ 32 } [],
    .mboxGet { hd with seq := 2 ^ 32 } [],
    .mboxPut { hd with seq := 2 ^ 32 } [],
    .sliceStatus { hd with seq := 2 ^ 32 } [],
    .dmaWheelSet { hd with seq := 2 ^ 32 } [],
    .dmaOwnSet { hd with seq := 2 ^ 32 } [],
    .dmaStgqSet { hd with seq := 2 ^ 32 } [],
    .dmaChanRead { hd with seq := 2 ^ 32 } [],
    .dmaChanCtrl { hd with seq := 2 ^ 32 } [],
    .modeSet { hd with seq := 2 ^ 32 } [],
    .modeGet { hd with seq := 2 ^ 32 } [],
    .pwVote { hd with seq := 2 ^ 32 } [],
    .pwStatus { hd with seq := 2 ^ 32 } [],
    .dozeCfg { hd with seq := 2 ^ 32 } [],
    .twRoleSet { hd with seq := 2 ^ 32 } [],
    .twSwitchover { hd with seq := 2 ^ 32 } [],
    .twStatus { hd with seq := 2 ^ 32 } [],
    .herdAddrSet { hd with seq := 2 ^ 32 } [],
    .herdStatus { hd with seq := 2 ^ 32 } [],
    .clCal { hd with seq := 2 ^ 32 } [],
    .secStatus { hd with seq := 2 ^ 32 } [],
    .fwLoad { hd with seq := 2 ^ 32 } [],
    .fwActivate { hd with seq := 2 ^ 32 } [],
    .lcAdvance { hd with seq := 2 ^ 32 } [] false,
    .debugUnlock { hd with seq := 2 ^ 32 } [],
    .secZeroize { hd with seq := 2 ^ 32 } [],
    .tamperCfg { hd with seq := 2 ^ 32 } [],
    .logRead { hd with seq := 2 ^ 32 } [] [],
    .logMark { hd with seq := 2 ^ 32 } [],
    .workReport { hd with seq := 2 ^ 32 } [],
    .evRead { hd with seq := 2 ^ 32 } [],
    .evClear { hd with seq := 2 ^ 32 } [],
    .rsCauseGet { hd with seq := 2 ^ 32 } []] : List Instr).all (fun i => !i.wf) = true := by
  decide +kernel

theorem smoke_ill_formed_4 : ([
    .resetDomain { hd with seq := 2 ^ 32 } [],
    .umReset { hd with seq := 2 ^ 32 } [],
    .stagedWr 0 (List.replicate 65 0),
    .shadowWr 0 (List.replicate 65 0),
    .genCmd 0 (List.replicate 65 0),
    .commit 0 (List.replicate 65 0),
    .commitAck 0 (List.replicate 65 0),
    .chan 0 (List.replicate 65 0),
    .syncReg 0 (List.replicate 65 0),
    .syncWt 0 (List.replicate 65 0),
    .syncDone 0 (List.replicate 65 0) 0,
    .peerReset 0 (List.replicate 65 0),
    .hready 0 0 (List.replicate 65 0),
    .habort 0 0 (List.replicate 65 0) 0,
    .dozeSample (List.replicate 65 0) 0 false false [],
    .dozeSample [] 0 false false [96],
    .supplyDipRecorded 0 65536 0,
    .supplyDipEnd 0 65536 0,
    .thermalConversion (List.replicate 65 0),
    .keyProg (.doe 0) 0 0 0 2 0 0 [],
    .keyProg (.doe 0) 0 0 0 0 2 0 [],
    .keyProg (.doe 0) 0 0 0 0 0 3 [],
    .keyProg (.doe 0) 0 0 0 0 0 0 (List.replicate 65 0),
    .registerWrite (.link 0) 33554432 false 0,
    .registerReadClear (.link 0) 33554432,
    .umPacketExecute false [⟨0, 0, 256, false⟩],
    .regWrite hd [] [⟨0, 0, 256, false⟩],
    .wbRead hd [] [⟨0, 0, 256, false⟩],
    .logRead hd [] [⟨0, 0, 256, false⟩],
    .weightWindowWrite 0 0 0 [none] [⟨0, 0, 256, false⟩],
    .bar0Access 0 0 4 false [] [⟨0, 0, 256, false⟩],
    .bridgeFetchTimeout 0 512] : List Instr).all (fun i => !i.wf) = true := by
  decide +kernel

theorem smoke_ill_formed_long_1 : Instr.wf (.bringupRowRelease (List.replicate 65537 0) []) = false ∧
    Instr.wf (.bringupRowRelease [] (List.replicate 65537 0)) = false ∧
    Instr.wf (.firmwareVerified (List.replicate 16777217 0)) = false ∧
    Instr.wf (.weightWindowWrite 0 0 0 (List.replicate 4097 none) []) = false ∧
    Instr.wf (.dmaReadCompletion 0 0 .sc (List.replicate 4097 0)) = false ∧
    Instr.wf (.hostBar4Write 0 0 (List.replicate 4097 none)) = false ∧
    Instr.wf (.bridgeFetchComplete 0 0 .sc (List.replicate 4097 0)) = false ∧
    Instr.wf (.doeObject 0 (List.replicate 1048577 0)) = false ∧
    Instr.wf (.bar0Access 0 0 0 false (List.replicate 4097 none) []) = false ∧
    Instr.wf (.bar2Access 0 0 0 false false (List.replicate 4097 none)) = false ∧
    Instr.wf (.mctpMessage 0 0 (List.replicate 4129 0)) = false ∧
    Instr.wf (.pldmFirmwareData 0 (List.replicate 1025 0)) = false ∧
    Instr.wf (.identify hd (List.replicate 4097 0)) = false ∧
    Instr.wf (.ping hd (List.replicate 4097 0)) = false ∧
    Instr.wf (.rtRead hd (List.replicate 4097 0)) = false ∧
    Instr.wf (.mgrLinkSet hd (List.replicate 4097 0)) = false ∧
    Instr.wf (.genOpen hd (List.replicate 4097 0)) = false ∧
    Instr.wf (.genAbort hd (List.replicate 4097 0)) = false ∧
    Instr.wf (.regWrite hd (List.replicate 4097 0) []) = false ∧
    Instr.wf (.regRead hd (List.replicate 4097 0) []) = false ∧
    Instr.wf (.commitAt hd (List.replicate 4097 0)) = false ∧
    Instr.wf (.genCancel hd (List.replicate 4097 0)) = false ∧
    Instr.wf (.genStatus hd (List.replicate 4097 0)) = false ∧
    Instr.wf (.genDump hd (List.replicate 4097 0)) = false ∧
    Instr.wf (.tlSet hd (List.replicate 4097 0)) = false ∧
    Instr.wf (.tlGet hd (List.replicate 4097 0)) = false ∧
    Instr.wf (.tlAlarmSet hd (List.replicate 4097 0)) = false ∧
    Instr.wf (.alRetrain hd (List.replicate 4097 0)) = false ∧
    Instr.wf (.alStatus hd (List.replicate 4097 0)) = false ∧
    Instr.wf (.alSpare hd (List.replicate 4097 0)) = false := by
  simp [Instr.wf, -List.reduceReplicate]

theorem smoke_ill_formed_long_2 : Instr.wf (.alCal hd (List.replicate 4097 0)) = false ∧
    Instr.wf (.alLedger hd (List.replicate 4097 0)) = false ∧
    Instr.wf (.wbWrite hd (List.replicate 4097 0) []) = false ∧
    Instr.wf (.wbRead hd (List.replicate 4097 0) []) = false ∧
    Instr.wf (.wbSync hd (List.replicate 4097 0)) = false ∧
    Instr.wf (.wbRestore hd (List.replicate 4097 0)) = false ∧
    Instr.wf (.spareGo hd (List.replicate 4097 0)) = false ∧
    Instr.wf (.spareReinstate hd (List.replicate 4097 0)) = false ∧
    Instr.wf (.chCounters hd (List.replicate 4097 0)) = false ∧
    Instr.wf (.sliceBind hd (List.replicate 4097 0)) = false ∧
    Instr.wf (.sliceUnbind hd (List.replicate 4097 0)) = false ∧
    Instr.wf (.sliceFence hd (List.replicate 4097 0)) = false ∧
    Instr.wf (.sliceKill hd (List.replicate 4097 0)) = false ∧
    Instr.wf (.mboxGet hd (List.replicate 4097 0)) = false ∧
    Instr.wf (.mboxPut hd (List.replicate 4097 0)) = false ∧
    Instr.wf (.sliceStatus hd (List.replicate 4097 0)) = false ∧
    Instr.wf (.dmaWheelSet hd (List.replicate 4097 0)) = false ∧
    Instr.wf (.dmaOwnSet hd (List.replicate 4097 0)) = false ∧
    Instr.wf (.dmaStgqSet hd (List.replicate 4097 0)) = false ∧
    Instr.wf (.dmaChanRead hd (List.replicate 4097 0)) = false ∧
    Instr.wf (.dmaChanCtrl hd (List.replicate 4097 0)) = false ∧
    Instr.wf (.modeSet hd (List.replicate 4097 0)) = false ∧
    Instr.wf (.modeGet hd (List.replicate 4097 0)) = false ∧
    Instr.wf (.pwVote hd (List.replicate 4097 0)) = false ∧
    Instr.wf (.pwStatus hd (List.replicate 4097 0)) = false ∧
    Instr.wf (.dozeCfg hd (List.replicate 4097 0)) = false ∧
    Instr.wf (.twRoleSet hd (List.replicate 4097 0)) = false ∧
    Instr.wf (.twSwitchover hd (List.replicate 4097 0)) = false ∧
    Instr.wf (.twStatus hd (List.replicate 4097 0)) = false ∧
    Instr.wf (.herdAddrSet hd (List.replicate 4097 0)) = false := by
  simp [Instr.wf, -List.reduceReplicate]

theorem smoke_ill_formed_long_3 : Instr.wf (.herdStatus hd (List.replicate 4097 0)) = false ∧
    Instr.wf (.clCal hd (List.replicate 4097 0)) = false ∧
    Instr.wf (.secStatus hd (List.replicate 4097 0)) = false ∧
    Instr.wf (.fwLoad hd (List.replicate 4097 0)) = false ∧
    Instr.wf (.fwActivate hd (List.replicate 4097 0)) = false ∧
    Instr.wf (.lcAdvance hd (List.replicate 4097 0) false) = false ∧
    Instr.wf (.debugUnlock hd (List.replicate 4097 0)) = false ∧
    Instr.wf (.secZeroize hd (List.replicate 4097 0)) = false ∧
    Instr.wf (.tamperCfg hd (List.replicate 4097 0)) = false ∧
    Instr.wf (.logRead hd (List.replicate 4097 0) []) = false ∧
    Instr.wf (.logMark hd (List.replicate 4097 0)) = false ∧
    Instr.wf (.workReport hd (List.replicate 4097 0)) = false ∧
    Instr.wf (.evRead hd (List.replicate 4097 0)) = false ∧
    Instr.wf (.evClear hd (List.replicate 4097 0)) = false ∧
    Instr.wf (.rsCauseGet hd (List.replicate 4097 0)) = false ∧
    Instr.wf (.resetDomain hd (List.replicate 4097 0)) = false ∧
    Instr.wf (.umReset hd (List.replicate 4097 0)) = false := by
  simp [Instr.wf, -List.reduceReplicate]

theorem smoke_header_fields : ([{ hd with seq := 2 ^ 32 }, { hd with flags := 2 ^ 16 }, { hd with gen := 2 ^ 32 },
    { hd with slice := 2 ^ 16 }, { hd with eid := 256 }, { hd with tag := 8 }] : List UmHdr).all (fun h => !h.wf) = true := by
  decide

theorem smoke_ecc_pail : eccOk [⟨16412, 0, 0, false⟩] = false := by decide

theorem smoke_well_formed : ([.identify hd [], .brownout 0 65535, .hostLinkUp 0 16 6 false, .doeObject 0 []] : List Instr).all
    (fun i => i.wf) = true := by decide

/-! ## States that the witnesses use -/

/-- The state after reset in mode `m`, with every domain on. -/
def runIn (m : Nat) : State := (State.reset.setFld Reg.PW_MODE F.PW_MODE_MODE m).wrW Reg.PW_ON 0xFFFFFFFFFFFFFFFF
/-- An RWG field of the active image. -/
def img (s : State) (k : Nat) (f : Fld) (v : Nat) : State := s.wrG k (f.put (s.rdG k) v)
/-- Port L0 in a training state. -/
def alIn (v : Nat) : State := (runIn 5).setFld (Reg.AL_STAT 0) F.AL_STAT_TSTATE v
/-- The same with the port's runtime state changed. -/
def alWith (v : Nat) (f : PortRt → PortRt) : State := (alIn v).updPort 0 f
/-- An empty tx block. -/
def blk (count : Nat) (tx : TxSt) : Block :=
  { h0 := tlOf count, h1 := 0, payload := [], bad := [], off := 0, size := 16, tc := 0, readers := 0, readBy := [], fin := false,
    late := none, tx := tx }
/-- Pail 0 as an enabled tx pail of port L0 with one block. -/
def txPail (s : State) (b : Block) : State :=
  (img (img s (Reg.VAT_PAIL_A 0) F.VAT_PAIL_A_EN 1) (Reg.VAT_PAIL_A 0) F.VAT_PAIL_A_ROLE 1).updPail 0 (fun r => { r with blocks := [b] })
/-- A control word of type `ty` with bits `v` below. -/
def cw (ty v : Nat) : Word := BitVec.ofNat 64 (ty * 2 ^ 60 + v)
/-- A bus cell with a SEQ, sent `n` times. -/
def cell (seq n : Nat) : BusCell := { words := [0, 0, 0], cls := 1, due := 0, acc := 0, cont := false, seq := seq, sends := n }
/-- Pail 0 as a tx pail that context 2 of unit 0's D-array serves, with an awaited release, late. -/
def lateTx : State :=
  let s := img (img (txPail (alIn 5) (blk 0 .wait)) (Reg.CH_STR 0 0) F.CH_STR_EN 1) (Reg.CH_STR 0 0) F.CH_STR_DIR 1
  let s := img (img s (Reg.CH_DCTX_A 0 2) F.CH_UCTX_A_EN 1) (Reg.CH_DCTX_B 0 2) F.CH_UCTX_B_ANT_CNT 1
  (s.updPail 0 (fun r => { r with expect := [0] })).updTk (fun t => { t with count := 5000000 })
/-- The Tc of the state set. -/
def setTicks (s : State) (n : Nat) : State := { s with ticks := n }
/-- TL_STATE with REF_PRESENT, PLL_LOCK and HAS_TIME. -/
def tlFlags (r l h : Nat) : State :=
  (((runIn 5).setFld Reg.TL_STATE F.TL_STATE_REF_PRESENT r).setFld Reg.TL_STATE F.TL_STATE_PLL_LOCK l).setFld
    Reg.TL_STATE F.TL_STATE_HAS_TIME h
/-- TL_STATE in state `v`. -/
def tlIn (v : Nat) : State := (runIn 5).setFld Reg.TL_STATE F.TL_STATE_STATE v
/-- A header of the host mailbox. -/
def hdr : UmHdr := ⟨.sideband, 1, 0, 0, 0xFFFF, 8, 1⟩
/-- Alarm 0 is due with a period. -/
def alarmAt (per : Nat) : State :=
  (((tlIn 2).setFld (Reg.TL_ALARM_CTRL 0) F.TL_ALARM_CTRL_EN 1).setFld (Reg.TL_ALARM_PERIOD 0) F.TL_ALARM_PERIOD_PERIOD per).updTk
    (fun t => { t with count := 1000 })
/-- The Timekeeper's time at count `n`, counted for 10,000 Tc. -/
def atCount (s : State) (n : Nat) : State := s.updTk (fun t => { t with count := n, since := 10000 })
/-- Deep sleep with alarm 0 due and able to wake. -/
def slept : SleepCount :=
  { count := 0, span := 32, cycles := 1, state := 2, has := true, uncert := 0, ratio := 0, cal := true, tick0 := 0, aon0 := 0, pps := 0, ppsAon := 0, first := 0,
    refLost := false, ppsGap := false }
def sleeper : State :=
  ((((runIn 0xB).setFld (Reg.TL_ALARM_CTRL 0) F.TL_ALARM_CTRL_EN 1).setFld (Reg.TL_ALARM_CTRL 0) F.TL_ALARM_CTRL_WAKE_EN 1).wrW
    Reg.PW_WAKE_EN 16).updTk (fun t => { t with sleep := some slept })
/-- Bring-up with the boot path `p`, looking for an image. -/
def booter (p : Nat) : State := (runIn 3).setFld Reg.RS_BOOT F.RS_BOOT_PATH p
/-- Cloton port C1 in a training state, with its runtime state changed. -/
def clWith (v : Nat) (f : ClRt → ClRt) : State := ((runIn 5).setFld (Reg.CL_PORT_STAT 1) F.CL_PORT_STAT_TSTATE v).updCl 1 f
/-- A training word of port L0's own lane map. -/
def trainW : Word := BitVec.ofNat 64 (2 ^ 56 + 2 ^ 54 + 2 ^ 53 + (alIn 2).fld (Reg.AL_LANEMAP 0) F.AL_LANEMAP_LANE0 * 2 ^ 48 +
  (alIn 2).fld (Reg.AL_LANEMAP 0) F.AL_LANEMAP_LANE1 * 2 ^ 43)
/-- Unit 0 with one uplink context 0 from entry 4 to entry 40, one uplink beam pail 1 of entry 40, and every start of the beat
schedule. -/
def churner : State :=
  let s := img (runIn 5) (Reg.CH_CTRL 0) F.CH_CTRL_EN 1
  let s := img (img (img s (Reg.CH_UCTX_A 0 0) F.CH_UCTX_A_EN 1) (Reg.CH_UCTX_B 0 0) F.CH_UCTX_B_ANT_BASE 4) (Reg.CH_UCTX_B 0 0)
    F.CH_UCTX_B_BEAM_BASE 40
  let s := img (img s (Reg.CH_STR 0 4) F.CH_STR_EN 1) (Reg.CH_STR 0 4) F.CH_STR_STREAM_ID 9
  let s := img (img (img s (Reg.CH_STR 0 40) F.CH_STR_EN 1) (Reg.CH_STR 0 40) F.CH_STR_SIDE 1) (Reg.CH_STR 0 40) F.CH_STR_STREAM_ID 7
  let s := img (img (img s (Reg.VAT_PAIL_A 0) F.VAT_PAIL_A_EN 1) (Reg.VAT_PAIL_B 0) F.VAT_PAIL_B_STREAM_ID 9) (Reg.VAT_PAIL_A 0) F.VAT_PAIL_A_SIZE 4
  let s := img (img (img s (Reg.VAT_PAIL_A 1) F.VAT_PAIL_A_EN 1) (Reg.VAT_PAIL_B 1) F.VAT_PAIL_B_STREAM_ID 7) (Reg.VAT_PAIL_A 1) F.VAT_PAIL_A_SIZE 4
  let s := img (img s (Reg.VAT_PAIL_A 1) F.VAT_PAIL_A_ROLE 3) (Reg.VAT_PAIL_A 1) F.VAT_PAIL_A_BASE 8
  let s := img s (Reg.SL_CWHEEL 0 0 0 0) F.SL_CWHEEL_EN 1
  { (s.updPail 0 (fun r => { r with blocks := [blk 96 .none] })).updTk (fun t => { t with count := 96 * 32 * 100 }) with ticks := 9, core := 1000 }
/-- A pass of that context without an input. -/
def emptyPass (arr : Nat) : Pass :=
  { arr := arr, ctx := 0, time := 96, start := 100, group := 0, gen := churner.gen, half := [], halfBad := [], absent := false,
    ins := [none], struck := false }
/-- Unit 0 with that pass in flight. -/
def passing : State := (churner.updUnit 0 (fun r => { r with passes := [emptyPass 0] })).updTk (fun t => { t with count := 96 })
/-- The same for the D-array: entry 4 is its beam side and entry 40 its antenna side. -/
def downer (late : Nat) : State :=
  let s := img (img (img churner (Reg.CH_DCTX_A 0 0) F.CH_UCTX_A_EN 1) (Reg.CH_DCTX_B 0 0) F.CH_UCTX_B_ANT_BASE 40) (Reg.CH_DCTX_B 0 0)
    F.CH_UCTX_B_BEAM_BASE 4
  let s := img (img (img s (Reg.CH_STR 0 4) F.CH_STR_DIR 1) (Reg.CH_STR 0 4) F.CH_STR_SIDE 1) (Reg.CH_STR 0 40) F.CH_STR_DIR 1
  let s := img (img s (Reg.CH_STR 0 40) F.CH_STR_SIDE 0) (Reg.VAT_PAIL_A 0) F.VAT_PAIL_A_ROLE 2
  let s := img s (Reg.SL_CWHEEL 0 1 0 0) F.SL_CWHEEL_EN 1
  (s.updPail 0 (fun r => { r with blocks := [blk (96 * 32 * 100 + 540 - late) .none] }))
/-- Quadrant 0 with a takeover of group 0 in state `st`. -/
def sparing (st : Nat) (f : SpareRt → SpareRt) : State :=
  { ((runIn 5).setFld (Reg.CH_SPARE_CTRL 0) F.CH_SPARE_CTRL_STATE st).updSpare 0 (fun x => f { x with dst := 3, cause := 1 }) with
    core := 50000 }
/-- A frame boundary in CH_SPARE_AT of quadrant 0. -/
def spareAt (w : Word) : State := (runIn 5).wrW (Reg.CH_SPARE_AT 0) w
/-- Group 0's weight window with runtime state, on the manager link 0. -/
def grp0 (f : GroupRt → GroupRt) : State := { (runIn 5).updGrp 0 f with core := 70000 }
/-- An arrival of an empty block in pail 0, an rx pail of one unit. -/
def arr0 (h0 : Word) : Arrival :=
  { writer := .port 0, h0 := h0, h1 := 0, need := 0, got := [], bad := [], tc := 0, tested := false, room := none, doom := none }
/-- Pail 0 with one arrival under way. -/
def arriving (h0 : Word) : State :=
  (img (img (runIn 5) (Reg.VAT_PAIL_A 0) F.VAT_PAIL_A_EN 1) (Reg.VAT_PAIL_A 0) F.VAT_PAIL_A_SIZE 1).updPail 0
    (fun r => { r with arrivals := [arr0 h0] })
/-- Bank 3 with its runtime state changed. -/
def bankWith (f : BankRt → BankRt) : State := { (runIn 5).updBank 3 f with core := 100000 }
/-- A field set, in the active image if it is RWG. -/
def fset (s : State) (k : Nat) (f : Fld) (v : Nat) : State := if f.rwg then img s k f v else s.setFld k f v
/-- Channel 0 of slice 5 on link 0, whose pail 0 is a din pail (`dir` 0) or a dout pail (`dir` 1), with a timed descriptor
for count 1,000,000. -/
def dmaIdle (dir : Nat) : State :=
  let s := fset (fset (runIn 5) (Reg.DMA_OWN 0) F.DMA_OWN_EN 1) (Reg.DMA_OWN 0) F.DMA_OWN_SLICE 5
  let s := fset s (Reg.SL_BIND 5) F.SL_BIND_EN 1
  let s := fset (fset s (Reg.VAT_PAIL_A 0) F.VAT_PAIL_A_EN 1) (Reg.VAT_PAIL_A 0) F.VAT_PAIL_A_ROLE (2 + dir)
  let s := fset (fset s (Reg.VAT_PAIL_A 0) F.VAT_PAIL_A_SLICE 5) (Reg.VAT_PAIL_A 0) F.VAT_PAIL_A_SIZE 1
  let s := fset (s.wrW (Reg.DMA_COUNT 0) 1024) (Reg.DMA_STGQ 5) F.DMA_STGQ_BEATS 64
  let s := fset s (Reg.DMA_CTRL 0) F.DMA_CTRL_DIR dir
  let s := fset (fset s (Reg.DMA_WHEEL_E 0 0) F.DMA_WHEEL_E_EN 1) (Reg.DMA_WHEEL_E 0 0) F.DMA_WHEEL_E_SLICE 5
  let s := (fset s (Reg.DMA_WHEEL_E 0 0) F.DMA_WHEEL_E_BEATS 3).setFld (Reg.HL_LINK_STAT 0) F.HL_LINK_STAT_LSTATE 2
  (s.wrW (Reg.DMA_RELEASE 0) (tlOf 1024000)).updLink 0 (fun l => { l with going := true })
/-- The same in state `st` at count `n`, with the channel's runtime state changed. -/
def dmaIn (dir st n : Nat) (f : ChanRt → ChanRt) : State :=
  atCount ((fset (dmaIdle dir) (Reg.DMA_STAT 0) F.DMA_STAT_STATE st).updChan 0 f) n
/-- The same with the Timekeeper in state `v`. -/
def dmaTk (v st n : Nat) (f : ChanRt → ChanRt) : State := (dmaIn 0 st n f).setFld Reg.TL_STATE F.TL_STATE_STATE v
/-- Channel 0 while its link's requests are stopped. -/
def dmaHalt (prev n : Nat) : State := fset (dmaIn 0 7 n id) (Reg.DMA_STAT 0) F.DMA_STAT_PREV prev
/-- A read of 512 bytes outstanding at offset 0. -/
def dmaRead (f : ChanRt → ChanRt) : State := dmaIn 0 3 1024000 (fun r => f { r with begun := true, reads := [(0, 512)] })
/-- An arrival whose words are all there, of writer `w`. -/
def arrDone (w : Writer) : Arrival := { arr0 (tlOf 100) with writer := w, tested := true, room := some 0 }
/-- Pail 0 of `dmaIdle` with one such arrival. -/
def dmaArr (w : Writer) (late : Nat) : State :=
  setTicks (atCount ((dmaIdle 0).updPail 0 (fun r => { r with arrivals := [arrDone w] })) (100 + late)) 1000
/-- A record that waits. -/
def rec0 : DmaRec := { addr := 0x2000, bytes := [1, 2], attr := 0, irq := none, own := true }
/-- Link 0 with memory space on, and port L0's window open to it as one region of a unit, its link in state `v`. -/
def window (v : Nat) (f : PortRt → PortRt) : State :=
  let s := alWith v f
  let s := fset (fset s (Reg.AL_WIN_CTRL 0) F.AL_WIN_CTRL_EN 1) (Reg.AL_WIN_HOSTS 0) F.AL_WIN_HOSTS_LINKS 1
  let s := fset (fset s (Reg.AL_WINR 0 0) F.AL_WINR_EN 1) (Reg.AL_WINR 0 0) F.AL_WINR_RD 1
  let s := fset (fset s (Reg.AL_WINR 0 0) F.AL_WINR_WR 1) (Reg.AL_WINR 0 0) F.AL_WINR_SIZE 1
  let s := s.setFld (Reg.HL_PORT_STAT 0) F.HL_PORT_STAT_PERST 0
  (fset s (Reg.AL_STAT 0) F.AL_STAT_BUSW 1).updLink 0 (fun l => l.setCfg 0x004 6)
/-- A piece of a host read, with its tag and data. -/
def piece0 (tag : Nat) (d : Option Nat) : Piece := ⟨tag, 0x100, 2, d⟩
/-- A host read of two bytes in one or two pieces, sent. -/
def read0 (l : List Piece) : HostRead :=
  { m := 0, off := 0x100, len := 2, swap := 0, hto := 0, acc := 9, sl := none, pieces := l, sent := some 0 }
/-- Port L0 Up, with host reads and credit to receive in every bus class. -/
def answering (l : List HostRead) (e : List Retried) : State :=
  let rx := [(crKey 1 0, { granted := 10 }), (crKey 2 0, { granted := 10 }), (crKey 3 0, { granted := 10 })]
  window 5 (fun p => { p with reads := l, retried := e, rx := rx })
/-- The same, with the local end bound to slice 5 through one aperture. -/
def localEnd (e : List Retried) : State :=
  let s := fset (fset (answering [] e) (Reg.AL_WIN_CTRL 0) F.AL_WIN_CTRL_SLICE_EN 1) (Reg.AL_WIN_CTRL 0) F.AL_WIN_CTRL_SLICE 5
  let s := fset s (Reg.SL_BIND 5) F.SL_BIND_EN 1
  let s := fset (fset s (Reg.AL_UPR 0 0) F.AL_UPR_EN 1) (Reg.AL_UPR 0 0) F.AL_UPR_RD 1
  fset (fset s (Reg.AL_UPR 0 0) F.AL_UPR_WR 1) (Reg.AL_UPR 0 0) F.AL_UPR_LOG2SIZE 12
/-- A retried-read entry of tag 23. -/
def ret0 (h : Option (Nat × Word)) : Retried := { tag := 23, addr := 0x40, wid := 4, m := 0, fetch := 0, swap := 0, held := h }
/-- Link 0 out of its port's reset, with its runtime state changed, and slice 5 bound to it. -/
def openLink (f : LinkRt → LinkRt) : State := ((dmaIdle 0).setFld (Reg.HL_PORT_STAT 0) F.HL_PORT_STAT_PERST 0).updLink 0 f
/-- The same with the link up in LSTATE `v` at 16 lanes and 32.0 GT/s. -/
def upLink (v : Nat) (f : LinkRt → LinkRt) : State :=
  let s := ((openLink f).setFld (Reg.HL_LINK_STAT 0) F.HL_LINK_STAT_LSTATE v).setFld (Reg.HL_LINK_STAT 0) F.HL_LINK_STAT_DLUP 1
  let s := (s.setFld (Reg.HL_LINK_STAT 0) F.HL_LINK_STAT_FLIT 1).setFld (Reg.HL_LINK_STAT 0) F.HL_LINK_STAT_WIDTH 16
  (s.setFld (Reg.HL_LINK_STAT 0) F.HL_LINK_STAT_RATE 4).updLink 0 (fun l => { l with full := 16 })
/-- Link 0 in L0 with ASPM L1 allowed and its one channel Armed, at count `n`. -/
def l1State (n : Nat) : State :=
  let s := fset (fset (upLink 2 (fun l => l.setCfg 0x070 2)) (Reg.DMA_STAT 0) F.DMA_STAT_STATE 1) (Reg.DMA_CTRL 0) F.DMA_CTRL_TIMED 1
  atCount (fset s (Reg.HL_LINK_PMCFG 0) F.HL_LINK_PMCFG_L1_EN 1) n
/-- Link 4, which is not the manager's, out of its port's reset with memory space on. -/
def otherLink : State := ((runIn 5).setFld (Reg.HL_PORT_STAT 1) F.HL_PORT_STAT_PERST 0).updLink 4 (fun l => l.setCfg 0x004 6)
/-- Link 0, the manager's, with memory space on and its Expansion ROM enabled; slice 5 is bound to it. -/
def memLink : State := openLink (fun l => (l.setCfg 0x004 6).setCfg 0x030 1)
/-- The row and indices of a register. -/
def regAt (k : Nat) : RegRow × List Nat := (findReg k).getD (⟨0, [], 0, 0, 0, 0, 0, 0, 0, 0, 0, fun _ => 0, .aon, false, false⟩, [])
/-- A generation that the host mailbox has Open. -/
def openGen : State := (runIn 5).setFld Reg.UM_GEN_STAT F.UM_GEN_STAT_STATE 1
/-- A header of the host mailbox that names slice 5. -/
def hdrS : UmHdr := ⟨.ring, 1, 0, 0, 5, 0, 0⟩
/-- A header of the ring, and one of the sideband. -/
def hdrR : UmHdr := ⟨.ring, 1, 0, 0, 0xFFFF, 0, 0⟩
/-- Bytes written into the submission ring, with its tail after them. -/
def submit (bs : List Byte) : State :=
  ((runIn 5).updUm (fun u => { u with sq := ringPut [] 0 (bs.map some) })).setFld Reg.UM_SQ_TAIL F.UM_SQ_TAIL_PTR (packetSize (bs.length - 32))
/-- A packet of opcode `op` without parameters. -/
def packet (op : Nat) (ps : List Byte) : List Byte :=
  let a := leBytes 2 op ++ [0, 0] ++ leBytes 4 7 ++ [0xFF, 0xFF] ++ leBytes 2 ps.length ++ [0, 0, 0, 0]
  let b := [1] ++ List.replicate 3 0 ++ leBytes 4 noDetail ++ [0, 0, 0, 0]
  a ++ leBytes 4 (crc32c (a ++ [0, 0, 0, 0] ++ b ++ ps)) ++ b ++ ps
/-- The same with a CRC of 0. -/
def badCrc (op : Nat) : List Byte := (packet op []).take 16 ++ [0, 0, 0, 0] ++ (packet op []).drop 20
/-- A reply to PING. -/
def pong (c : Carrier) : Reply := { hdr := ⟨c, 1, 0, 0, 0xFFFF, 8, 1⟩, op := 0x0101, status := 0, detail := noDetail, result := [1], final := true }
/-- A state in which that reply is due. -/
def ponging (c : Carrier) : State := (runIn 5).updUm (fun u => { u with due := [pong c] })
/-- An Armed generation of the ring for count 1,000,000, with its first offending register. -/
def armed0 (bad : Option Nat) (ok : Bool) (e : List Byte) : Armed :=
  { hdr := some hdrR, at_ := 1000000, seq := 1, herd := false, hdigest := [], expect := e, groups := [2], bad := bad,
    digest := List.replicate 48 7, checked := ok, ok := ok }
/-- A device with that generation Armed, whose final reply is owed. -/
def arming (a : Armed) : State :=
  let s := (runIn 5).setFld Reg.UM_GEN_STAT F.UM_GEN_STAT_STATE 2
  (s.setFld Reg.TL_STATE F.TL_STATE_HAS_TIME 1).updUm (fun u => { u with armed := some a, owed := [(hdrR, 0x0204)] })
/-- An Open generation while the time is known. -/
def timed : State := openGen.setFld Reg.TL_STATE F.TL_STATE_HAS_TIME 1
/-- Parameters of COMMIT_AT for an instant. -/
def commitP (v : Nat) : List Byte := leBytes 8 v ++ List.replicate 96 0
/-- What a herd cell of AT 1,000,000 carries. -/
def herdBody : List Byte := leBytes 8 (tlOf 1000000).toNat ++ List.replicate 48 7
/-- A herd commit Armed for that AT, with ports C1 and C2 Up and their runtime state under `f`. -/
def herding (f : ClRt → ClRt) : State :=
  let s := arming { armed0 none true [] with herd := true, hdigest := List.replicate 48 7 }
  let s := (s.setFld (Reg.CL_PORT_STAT 1) F.CL_PORT_STAT_TSTATE 5).setFld (Reg.CL_PORT_STAT 2) F.CL_PORT_STAT_TSTATE 5
  ((s.updCl 1 f).updCl 2 f).updTw (fun w => { w with hready := some (1000000, List.replicate 48 7) })
/-- Twin A in mode `m`, its pair in state `v`, with C0 Up and its peer in Twin-Standby. -/
def twinA (m v : Nat) : State :=
  let s := ((runIn m).setFld Reg.TW_ROLE F.TW_ROLE_ROLE 1).setFld (Reg.CL_PORT_STAT 0) F.CL_PORT_STAT_TSTATE 5
  let s := (s.setFld Reg.TW_STAT F.TW_STAT_PEER_ROLE 2).setFld Reg.TW_STAT F.TW_STAT_PEER_MODE 7
  s.setFld Reg.TW_STAT F.TW_STAT_PAIR v
/-- Twin B in mode `m` that joins its pair, Syncing, with C0 Up. -/
def twinB (m : Nat) : State :=
  let s := ((runIn m).setFld Reg.TW_ROLE F.TW_ROLE_ROLE 2).setFld (Reg.CL_PORT_STAT 0) F.CL_PORT_STAT_TSTATE 5
  let s := (s.setFld Reg.TW_STAT F.TW_STAT_PEER_ROLE 1).setFld Reg.TW_STAT F.TW_STAT_PEER_MODE 5
  (s.setFld Reg.TW_STAT F.TW_STAT_PAIR 1).setFld Reg.TW_CTRL F.TW_CTRL_JOIN 1
/-- The header of a mirror cell of kind `k` with `n` record bytes. -/
def mirrorHdr (k n : Nat) : BitVec 32 := BitVec.ofNat 32 (k * 2 ^ 28 + n)
/-- The body of SYNC_DONE with digest `d`. -/
def doneBody (d : List Byte) : List Byte := List.replicate 8 0 ++ (d ++ List.replicate 4 0)
/-- That body holds its digest. -/
theorem doneBody_digest (d : List Byte) (h : d.length = 48) : ((doneBody d).drop 8).take 48 = d := by
  simp [doneBody, List.drop_append, h]
/-- It has 60 bytes. -/
theorem doneBody_length (d : List Byte) (h : d.length = 48) : (doneBody d).length = 60 := by
  simp [doneBody, h]
/-- The digest that twin B compares after a sync without weights. -/
def doneDigest : List Byte := ((twinB 4).syncDigests (List.range 12)).genDigest (twinB 4).gen []
/-- Ready with a sleep request that waits, its final reply owed. -/
def sleepAsked (target : Nat) : State :=
  ((runIn 4).setTransit true).updUm (fun u => { u with mode := some ⟨some hdr, target, 0, 0, []⟩, owed := [(hdr, 0x0800)] })
/-- Drain for a MODE_SET with a limit. -/
def draining (target limit : Nat) : State :=
  ((runIn 9).setTransit true).updUm (fun u => { u with mode := some ⟨some hdr, target, limit, 0, []⟩, owed := [(hdr, 0x0800)] })
/-- Asleep in mode `m` with the wake sources of PW_WAKE_EN `e` enabled. -/
def dozer (m e : Nat) : State := ((runIn m).wrW Reg.PW_WAKE_EN (BitVec.ofNat 64 e)).wrW Reg.PW_ON 1
/-- The same with a wake under way. -/
def woken (m : Nat) : State := (dozer m 0).updPw (fun p => { p with wake := some ⟨0, 2, 0⟩ })
/-- Sixteen readings of one temperature. -/
def temps (t : Nat) : List Byte := List.replicate 16 (BitVec.ofNat 8 t)
/-- Doze, one period after its last sample. -/
def sampler : State := { dozer 0xA 2047 with aon := 300000000 }
/-- Sleep that has begun. -/
def falling : State := (sleepAsked 0xA).updPw (fun p => { p with sleep := some 0xA, h32 := false })
/-- VDD_CORE with a recorded dip, shown in PW_DIP. -/
def dipped : State := { (runIn 5).updPw (fun p => { p with dips := [(0, some ⟨0, 0, 600, true⟩)] }) with aon := 100 }
/-- VDD_CORE warned long ago. -/
def warned : State :=
  { fset ((runIn 6).setFld Reg.PW_SUP_STAT F.PW_SUP_STAT_WARN 1) Reg.PW_SUP_CFG F.PW_SUP_CFG_SHED_DLY 1 with aon := 100000 }
/-- SEC with the DRBG in state `v`, long after the start, with known fuses. -/
def rnger (v : Nat) : State :=
  { ((runIn 5).setFld Reg.SEC_RNG_STAT F.SEC_RNG_STAT_STATE v).updSec (fun c =>
      { c with fuses := { dsn := 5, ordering := 0, roots := [] }, lcNow := 2 }) with ticks := 2 ^ 40 }
/-- Link 0 with one DOE object of type `ty` and first dword `n`, its responder under `f`. -/
def talker (ty n : Nat) (f : SpdmRt → SpdmRt) (ide : List (Nat × IdeRt)) : State :=
  ((openLink (fun l => { l with doeIn := [leBytes 2 1 ++ leBytes 2 ty ++ leBytes 4 4 ++ leBytes 4 n], spdm := f l.spdm, ide := ide })).setFld
    Reg.SEC_RNG_STAT F.SEC_RNG_STAT_STATE 0).updSec (fun c => { c with key := some 7 })
/-- The same in session 7, which is secured. -/
def inSession (ide : List (Nat × IdeRt)) : State := talker 2 7 (fun r => { r with version := 0x12, sessions := [⟨7, true⟩] }) ide
/-- The interface identifier of slice 5. -/
def tdi5 : List Byte := [0, 0, 0, 0, 5, 0, 0, 0, 0, 0, 0, 0]
/-- A Secure stream. -/
def secured : IdeRt := { state := 2, keys := [(keyIdx 0 1 0, [1])], go := [0, 1, 2, 16, 17, 18] }
/-- The ring holds one entry, the queue another. -/
def logged : State :=
  { (runIn 5).wrW Reg.LOG_SEQ 2 with log := { (runIn 5).log with queue := [⟨⟨0, 0, 0, 1, 0, 1, 0⟩, 0⟩], ring := [(0, ⟨0, 0, 0, 1, 0, 0, 5⟩)] } }
/-- A firmware image of one body byte, signed. -/
def signed : List Byte :=
  leBytes 320 0xb70a7672385e543a6c2955bf5df20255382a5482e041f759989ba78b623b1d6e74ad20f31ec7b18e37058bbe22ca87aab70a7672385e543a6c2955bf5df20255382a5482e041f759989ba78b623b1d6e74ad20f31ec7b18e37058bbe22ca87aaf445a02b2dcbcb67bd951e4c5f0338c4c63653f2cc531536514dcd0bdd6e010e08b3347387004b5ef4980f8a8ef0eea6ffa0c22d83b76d09912990d05777b9288e9d61e851a921951d66476aa990916adfcbbb87e4c0a8f68128bfe2fa61a48dd8417d6ced18630d1b55be742324dd9a811f45ff6f940c7eeadf326820fa7032a20d097b040a77abcf5ff5867de82c8d0000000000000000000000000000000000000000000000000000000000000000000000000000000000000000000000000000000000000000000000000000000100000001000000010000010057464253 ++
    List.replicate 704 0 ++ [1]
/-- A device that boots from slot A and trusts the signer of `signed`. -/
def truster : State := (booter 0).updSec (fun c => { c with fuses := { c.fuses with roots :=
  [leBytes 48 0x9d45779655073afff92613e4ae258c43df993c5a518dda83cda02218f59fe52c79674c226e4e30b4503df414466e44f0] } })

/-! ## Witnesses of the statements about the whole machine -/

theorem witness_StepRunsTheFrontCommand :
    ∃ (c : Instr) (rest : List Instr) (s : State), s.pending = c :: rest :=
  ⟨.tlCtrlClrStr, [], { State.reset with pending := [.tlCtrlClrStr] }, rfl⟩

theorem witness_AnEmptyQueueLetsOneTcPass : ∃ s : State, s.pending = [] := ⟨State.reset, rfl⟩

theorem witness_EveryStepKeepsTheImagesAndTheQueue :
    ∃ s t : State, (s.canon = true ∧ s.queueOk) ∧ step s = .next t :=
  ⟨State.reset, State.reset.passTick, ⟨by decide +kernel, by unfold State.queueOk; decide +kernel⟩, rfl⟩

theorem witness_EveryStepKeepsTheClocks : ∃ s t : State, s.clocksOk ∧ step s = .next t :=
  ⟨State.reset, State.reset.passTick, by unfold State.clocksOk; decide +kernel, rfl⟩

theorem witness_CommandsChangeOnlyTheirParts : ∃ (c : Instr) (s t : State), exec c s = .next t :=
  ⟨.calibrationRequest 0, State.reset, _, rfl⟩

theorem witness_TheTimelineAdvancesByOne :
    ∃ s : State, s.pending = [] ∧ s.on 2 = true ∧ s.tk.count < piTl ∧ wbits (tlOf s.now) 24 0 = 19660799 ∧
      wbits (tlOf s.now) 34 25 = 1023 :=
  ⟨(runIn 5).updTk (fun t => { t with count := 1024 * frameTc - 1 }), by decide +kernel⟩

theorem witness_CountersAddOneAndSaturate :
    ∃ (s : State) (k : Nat), (s.rdW k).toNat ≤ 0xFFFFFFFF ∧ (s.rdW k).toNat = 0xFFFFFFFF :=
  ⟨State.reset.wrW (Reg.EV_CNT 0) 0xFFFFFFFF, Reg.EV_CNT 0, by decide +kernel⟩

/-! ## Witnesses -/

theorem witness_ChurnPassesStartAndCommit_1 :
    (∃ (s : State) (u : ChUnit) (k : Fin 16) (g at_ : Nat), s.passDue u 0 k = some (g, at_)) ∧
    (∃ (s : State) (u : ChUnit) (k : Fin 16) (g at_ : Nat), s.passDue u 1 k = some (g, at_) ∧ tlDiff (tlAdd s.now 540) at_ ≤ (s.fld Reg.TL_LATE_LIMIT F.TL_LATE_LIMIT_LIMIT : Int)) ∧
    (∃ (s : State) (u : ChUnit) (k : Fin 16) (g at_ : Nat), s.passDue u 1 k = some (g, at_) ∧ (s.fld Reg.TL_LATE_LIMIT F.TL_LATE_LIMIT_LIMIT : Int) < tlDiff (tlAdd s.now 540) at_) ∧
    (∃ (s : State) (u : ChUnit) (arr : Fin 2) (x : Pass) (r : PassOut), (s.unit u).passes.find? (fun x => x.arr == arr.val) = some x ∧ x.start + (if arr.val = 0 then 344 else 352) ≤ s.coreNow ∧ r = blockOp u x (x.ins.map (fun i => i.any (fun q => !q.2.bad.isEmpty))) x.halfBad) ∧
    (∃ (s : State) (u : ChUnit) (arr : Fin 2) (x : Pass) (o : OutBlk) (p : Nat), (s.unit u).passes.find? (fun x => x.arr == arr.val) = some x ∧ x.start + (if arr.val = 0 then 344 else 352) ≤ s.coreNow ∧ x.ins.all (fun i => i.isNone) = true ∧ (ctxIns x.gen u arr x.ctx).2 ≠ 0 ∧ (blockOp u x [] x.halfBad).outs = [o] ∧ s.entryPail x.gen u x.group o.entry = some p ∧ p < 16384 ∧ s.headerTest p o.h0 o.h1 (s.pailFree p) = none ∧ s.commitTest p o.h0 = none ∧ 0 < s.pailReaders p) :=
  ⟨⟨churner, 0, 0, 0, 96, by decide +kernel⟩,
   ⟨downer 0, 0, 0, 0, 307740, by decide +kernel⟩,
   ⟨(downer 9).setFld Reg.TL_LATE_LIMIT F.TL_LATE_LIMIT_LIMIT 3, 0, 0, 0, 307731, by decide +kernel⟩,
   ⟨passing, 0, 0, emptyPass 0, blockOp 0 (emptyPass 0) [false] [], by decide +kernel⟩,
   ⟨passing, 0, 0, emptyPass 0, ⟨40, tlOf 96, ((blockOp 0 (emptyPass 0) [] []).outs.map (·.h1)).headD 0, [], 0⟩, 1, by decide +kernel⟩⟩

theorem witness_ChurnPassesStartAndCommit_2 :
    (∃ (s : State) (u : ChUnit), s.on (domC u) = true) ∧
    (∃ (s : State) (h : UmHdr) (p : List Byte) (u : ChUnit) (first n : Nat), s.umCheck h 0x0506 p.length = none ∧ leAt p 0 1 = u.val ∧ leAt p 1 1 = first ∧ leAt p 2 1 = n ∧ 1 ≤ n ∧ n ≤ 204 ∧ first + n ≤ 256) :=
  ⟨⟨passing, 0, by decide +kernel⟩,
   ⟨runIn 5, hdr, [0, 3, 2, 1], 0, 3, 2, by decide +kernel⟩⟩

theorem witness_WeightWindowsAcceptHoldAndDrop_1 :
    (∃ (s : State) (m : HLink) (g : Group) (i : Nat) (d : List Byte) (hits : List EccHit), m.val = s.mgr ∧ s.on (domC (s.groupUnit g)) = true ∧ s.isTarget = false ∧ s.wbPending g = false ∧ s.windowBusy g = false ∧ (s.grp g).held = [] ∧ i < 131072 ∧ d.length = 8) ∧
    (∃ (s : State) (m : HLink) (g : Group) (off : Nat) (data : List (Option Byte)) (hits : List EccHit), off < 0x100000 ∧ data ≠ [] ∧ data.length ≤ 512 ∧ off % 4096 + data.length ≤ 4096 ∧ m.val = s.mgr ∧ s.on (domC (s.groupUnit g)) = true ∧ s.isTarget = false ∧ s.wbPending g = true) ∧
    (∃ (s : State) (m : HLink) (g : Group) (off : Nat) (data : List (Option Byte)) (hits : List EccHit), off < 0x100000 ∧ data ≠ [] ∧ data.length ≤ 512 ∧ off % 4096 + data.length ≤ 4096 ∧ m.val = s.mgr ∧ s.on (domC (s.groupUnit g)) = true ∧ s.isTarget = false ∧ s.wbPending g = false ∧ s.windowBusy g = true) ∧
    (∃ (s : State) (m : HLink) (g : Group) (off : Nat) (data : List (Option Byte)) (hits : List EccHit), (512 < data.length ∨ 4096 < off % 4096 + data.length)) ∧
    (∃ (s : State) (m : HLink) (g : Group) (off : Nat) (data : List (Option Byte)) (hits : List EccHit), data.length ≤ 512 ∧ off % 4096 + data.length ≤ 4096 ∧ m.val ≠ s.mgr) :=
  ⟨⟨runIn 5, 0, 0, 1030, [1, 2, 3, 4, 5, 6, 7, 8], [], by decide +kernel⟩,
   ⟨(runIn 5).setFld (Reg.CH_WB_STATUS 0) F.CH_WB_STATUS_PENDING 1, 0, 0, 3, [some 1], [], by decide +kernel⟩,
   ⟨grp0 (fun r => { r with lockCore := some 3 }), 0, 0, 3, [some 1], [], by decide +kernel⟩,
   ⟨runIn 5, 0, 0, 4090, List.replicate 8 (some 1), [], by decide +kernel⟩,
   ⟨runIn 5, 1, 0, 4088, List.replicate 8 (some 1), [], by decide +kernel⟩⟩

theorem witness_WeightWindowsAcceptHoldAndDrop_2 :
    (∃ (s : State) (g : Group), s.wbPending g = false ∧ s.windowBusy g = false ∧ (s.grp g).held = []) ∧
    (∃ (s : State) (g : Group), s.wbPending g = true) ∧
    (∃ (s : State) (g : Group), s.wbPending g = false ∧ s.windowBusy g = false ∧ (s.grp g).held = []) :=
  ⟨⟨runIn 5, 0, by decide +kernel⟩,
   ⟨(runIn 5).setFld (Reg.CH_WB_STATUS 0) F.CH_WB_STATUS_PENDING 1, 0, by decide +kernel⟩,
   ⟨runIn 5, 0, by decide +kernel⟩⟩

theorem witness_WeightHoldsEndAndHalvesExchange_1 :
    (∃ (s : State) (g : Group) (c : Nat), (s.grp g).syncEnd = some c ∧ c ≤ s.coreNow) ∧
    (∃ (s : State) (g : Group) (c : Nat), (s.grp g).restEnd = some c ∧ c ≤ s.coreNow ∧ (s.windowUnits g).Nodup) ∧
    (∃ (s : State) (g : Group), (s.grp g).restOk = true ∧ (s.unit (s.groupUnit g)).passes = [] ∧ (s.windowUnits g).Nodup) ∧
    (∃ (s : State) (g : Group) (c : Nat), (s.grp g).lockCore = some c ∧ (s.unit (s.groupUnit g)).passes.all (fun x => decide (c ≤ x.start)) = true) ∧
    (∃ (s : State) (u : ChUnit) (g : Group) (c : Nat), (s.unit u).zeroEnd = some c ∧ c ≤ s.coreNow ∧ s.unitGroup u = g.val) :=
  ⟨⟨(grp0 (fun r => { r with syncEnd := some 7 })).updUnit 0 (fun r => { r with active := [(3, 5)] }), 0, 7, by decide +kernel⟩,
   ⟨grp0 (fun r => { r with restEnd := some 7, restHdr := some hdr }), 0, 7, by decide +kernel⟩,
   ⟨(grp0 (fun r => { r with restOk := true })).updUnit 0 (fun r => { r with active := [(3, 5)] }), 0, by decide +kernel⟩,
   ⟨grp0 (fun r => { r with lockCore := some 7 }), 0, 7, by decide +kernel⟩,
   ⟨(grp0 (fun r => { r with exchanged := true })).updUnit 0 (fun r => { r with zeroEnd := some 5 }), 0, 0, 5, by decide +kernel⟩⟩

theorem witness_WeightHoldsEndAndHalvesExchange_2 :
    (∃ (s : State) (u : ChUnit) (c : Nat), (s.unit u).zeroEnd = some c ∧ c ≤ s.coreNow ∧ 12 ≤ s.unitGroup u) :=
  ⟨(grp0 id).updUnit 3 (fun r => { r with zeroEnd := some 5 }), 3, 5, by decide +kernel⟩

theorem witness_WeightCommandsActOnTheShadowHalf :
    (∃ (s : State) (h : UmHdr) (p d : List Byte) (g : Group) (i : Nat) (hits : List EccHit), s.umCheck h 0x0500 p.length = none ∧ leAt p 0 1 = g.val ∧ leAt p 4 4 = 8 * i ∧ p.drop 8 = d ∧ d.length = 8 ∧ i < 131072 ∧ s.on (domC (s.groupUnit g)) = true ∧ s.wbPending g = false ∧ s.windowBusy g = false ∧ (s.grp g).held = []) ∧
    (∃ (s : State) (h : UmHdr) (p : List Byte) (g : Group) (off n : Nat) (hits : List EccHit), s.umCheck h 0x0501 p.length = none ∧ leAt p 0 1 = g.val ∧ leAt p 4 4 = off ∧ leAt p 8 2 = n ∧ 1 ≤ n ∧ n ≤ 4096 ∧ off + n ≤ 0x100000 ∧ s.on (domC (s.groupUnit g)) = true ∧ s.windowBusy g = false ∧ (s.grp g).held = [] ∧ (s.shadowRead g off n hits).2.2 = false) ∧
    (∃ (s : State) (h : UmHdr) (p : List Byte) (g : Group), s.umCheck h 0x0502 p.length = none ∧ leAt p 0 1 = g.val ∧ s.wbPending g = false ∧ s.windowBusy g = false ∧ (s.grp g).held = []) ∧
    (∃ (s : State) (h : UmHdr) (p : List Byte) (g : Group), s.umCheck h 0x0503 p.length = none ∧ leAt p 0 1 = g.val ∧ s.wbPending g = false ∧ s.windowBusy g = false ∧ (s.grp g).held = []) :=
  ⟨⟨runIn 5, hdr, [0, 0, 0, 0, 16, 0, 0, 0, 1, 2, 3, 4, 5, 6, 7, 8], [1, 2, 3, 4, 5, 6, 7, 8], 0, 2, [], by decide +kernel⟩,
   ⟨runIn 5, hdr, [0, 0, 0, 0, 16, 0, 0, 0, 8, 0], 0, 16, 8, [], by decide +kernel⟩,
   ⟨runIn 5, hdr, [0], 0, by decide +kernel⟩,
   ⟨runIn 5, hdr, [0], 0, by decide +kernel⟩⟩

theorem witness_SparesTakeOverAndAreReinstated_1 :
    (∃ (s : State) (q : Quad) (v : BitVec 32), v.toNat.testBit 31 = true ∧ wbits (s.rdW (Reg.CH_SPARE_AT q)) 24 0 = 0 ∧ tlValid (s.rdW (Reg.CH_SPARE_AT q)) = true ∧ 65536 ≤ tlDiff (tlCount (s.rdW (Reg.CH_SPARE_AT q))) s.now ∧ s.fld (Reg.CH_SPARE_CTRL q) F.CH_SPARE_CTRL_STATE = 0 ∧ bitsOf v.toNat 17 16 ≠ 3) ∧
    (∃ (s : State) (q : Quad) (v : BitVec 32), v.toNat.testBit 31 = true ∧ (wbits (s.rdW (Reg.CH_SPARE_AT q)) 24 0 ≠ 0 ∨ tlDiff (tlCount (s.rdW (Reg.CH_SPARE_AT q))) s.now < 65536)) ∧
    (∃ (s : State) (q : Quad) (c : Nat), s.fld (Reg.CH_SPARE_CTRL q) F.CH_SPARE_CTRL_STATE = 1 ∧ (s.spareRt q).ready = false ∧ (s.spareRt q).begun = some c ∧ c + 33792 ≤ s.coreNow ∧ s.on (domC (s.spareRt q).dst) = true ∧ (s.spareRt q).src < 16 ∧ (s.spareRt q).dst < 16 ∧ (s.spareRt q).src ≠ (s.spareRt q).dst) ∧
    (∃ (s : State) (q : Quad), s.fld (Reg.CH_SPARE_CTRL q) F.CH_SPARE_CTRL_STATE = 1 ∧ tlReached s.now (s.spareRt q).at_ = true ∧ (s.spareRt q).ready = true ∧ (s.spareRt q).src < 16 ∧ (s.spareRt q).dst < 16 ∧ (s.spareRt q).src ≠ (s.spareRt q).dst ∧ (s.spareRt q).group < 12 ∧ (s.spareRt q).cause < 4) ∧
    (∃ (s : State) (q : Quad), s.fld (Reg.CH_SPARE_CTRL q) F.CH_SPARE_CTRL_STATE = 1 ∧ tlReached s.now (s.spareRt q).at_ = true ∧ (s.spareRt q).ready = false) :=
  ⟨⟨spareAt 0x2000000, 0, 0x80000000, by decide +kernel⟩,
   ⟨spareAt 0x2000001, 0, 0x80000000, by decide +kernel⟩,
   ⟨sparing 1 (fun x => { x with begun := some 7 }), 0, 7, by decide +kernel⟩,
   ⟨sparing 1 (fun x => { x with ready := true }), 0, by decide +kernel⟩,
   ⟨sparing 1 id, 0, by decide +kernel⟩⟩

theorem witness_SparesTakeOverAndAreReinstated_2 :
    (∃ (s : State) (q : Quad) (c : Nat), (s.spareRt q).moveAt = some c ∧ c + 448 ≤ s.coreNow ∧ (s.spareRt q).src < 16 ∧ (s.spareRt q).dst < 16 ∧ (s.spareRt q).src ≠ (s.spareRt q).dst) ∧
    (∃ (s : State) (q : Quad) (v : BitVec 32), v.toNat.testBit 30 = true ∧ s.fld (Reg.CH_SPARE_CTRL q) F.CH_SPARE_CTRL_STATE = 2 ∧ (s.unit (s.spareRt q).src).retired = true) ∧
    (∃ (s : State) (q : Quad) (c : Nat), (s.spareRt q).testEnd = some c ∧ c ≤ s.coreNow ∧ (s.spareRt q).src < 16) ∧
    (∃ (s : State) (q : Quad) (c : Nat), (s.spareRt q).testEnd = some c ∧ c ≤ s.coreNow) ∧
    (∃ (s : State) (h : UmHdr) (p : List Byte) (q : Quad) (w : Word), s.umCheck h 0x0504 p.length = none ∧ leAt p 0 1 = q.val ∧ leAt p 1 1 < 3 ∧ w = BitVec.ofNat 64 (leAt p 8 8) ∧ wbits w 24 0 = 0 ∧ tlValid w = true ∧ 65536 ≤ tlDiff (tlCount w) s.now ∧ s.fld (Reg.CH_SPARE_CTRL q) F.CH_SPARE_CTRL_STATE = 0) :=
  ⟨⟨sparing 2 (fun x => { x with moveAt := some 7 }), 0, 7, by decide +kernel⟩,
   ⟨(sparing 2 id).updUnit 0 (fun r => { r with retired := true }), 0, 0x40000000, by decide +kernel⟩,
   ⟨sparing 3 (fun x => { x with testEnd := some 7 }), 0, 7, by decide +kernel⟩,
   ⟨sparing 3 (fun x => { x with testEnd := some 7, testHdr := some hdr }), 0, 7, by decide +kernel⟩,
   ⟨runIn 5, hdr, [0, 1, 0, 0, 0, 0, 0, 0, 0, 0, 0, 2, 0, 0, 0, 0], 0, 0x2000000, by decide +kernel⟩⟩

theorem witness_SparesTakeOverAndAreReinstated_3 :
    (∃ (s : State) (h : UmHdr) (p : List Byte) (q : Quad), s.umCheck h 0x0505 p.length = none ∧ leAt p 0 1 = q.val ∧ s.fld (Reg.CH_SPARE_CTRL q) F.CH_SPARE_CTRL_STATE = 2 ∧ (s.unit (s.spareRt q).src).retired = true) :=
  ⟨(sparing 2 id).updUnit 0 (fun r => { r with retired := true }), hdr, [0], 0, by decide +kernel⟩

theorem witness_HeadersAreTestedAndRowsRepaired_1 :
    (∃ (s : State) (p : Pail) (pre post : List Arrival) (a : Arrival), splitUntested (s.pail p).arrivals = some (pre, a, post) ∧ s.headerTest p a.h0 a.h1 (s.arrivalRoom p a) = none) ∧
    (∃ (s : State) (p : Pail) (pre post : List Arrival) (a : Arrival) (code : Nat), splitUntested (s.pail p).arrivals = some (pre, a, post) ∧ s.headerTest p a.h0 a.h1 (s.arrivalRoom p a) = some code) ∧
    (∃ (s : State) (b : Bank) (c : Nat), (s.bank b).initEnd = some c ∧ c ≤ s.coreNow) ∧
    (∃ (s : State) (v : BitVec 32) (b : Bank) (row : Nat), v.toNat.testBit 31 = true ∧ bitsOf v.toNat 23 20 = b.val ∧ bitsOf v.toNat 19 0 = row ∧ row < 655360 ∧ (s.bank b).pendq.length < 16) ∧
    (∃ (s : State) (v : BitVec 32) (b : Bank), v.toNat.testBit 31 = true ∧ bitsOf v.toNat 23 20 = b.val ∧ bitsOf v.toNat 19 0 < 655360 ∧ 16 ≤ (s.bank b).pendq.length) :=
  ⟨⟨arriving 5, 0, [], [], arr0 5, by decide +kernel⟩,
   ⟨arriving 33554431, 0, [], [], arr0 33554431, 6, by decide +kernel⟩,
   ⟨bankWith (fun r => { r with init := true, initEnd := some 81920 }), 3, 81920, by decide +kernel⟩,
   ⟨runIn 5, 0x803004D2, 3, 1234, by decide +kernel⟩,
   ⟨bankWith (fun r => { r with pendq := List.range 16 }), 0x803004D2, 3, by decide +kernel⟩⟩

theorem witness_HeadersAreTestedAndRowsRepaired_2 :
    (∃ (s : State) (v : BitVec 32), v.toNat.testBit 31 = false) ∧
    (∃ (s : State) (b : Bank) (row : Nat), (s.bank b).pendq.find? (fun r => s.rowFree b r) = some row ∧ (s.bank b).sparesOf (row % 1280) < 2 ∧ (s.bank b).remap.length < 2560) ∧
    (∃ (s : State) (b : Bank) (row : Nat), (s.bank b).pendq.find? (fun r => s.rowFree b r) = some row ∧ 2 ≤ (s.bank b).sparesOf (row % 1280)) :=
  ⟨⟨runIn 5, 0x3004D2, by decide +kernel⟩,
   ⟨bankWith (fun r => { r with pendq := [7] }), 3, 7, by decide +kernel⟩,
   ⟨bankWith (fun r => { r with pendq := [7], remap := [(1287, 0), (2567, 1)] }), 3, 7, by decide +kernel⟩⟩

theorem witness_ChannelsStartStopAndCancel_1 :
    (∃ (s : State) (c : Chan), s.chRaw c = 0 ∧ s.flag (Reg.DMA_OWN c) F.DMA_OWN_EN = true ∧ s.bound (s.chSlice c) = true ∧ s.fenced (s.chSlice c) = false ∧ s.ownChanges c = false ∧ s.tdi (s.chSlice c) ≠ 1 ∧ s.tdi (s.chSlice c) ≠ 3 ∧ s.linkPresent (s.slLink (s.chSlice c)) = true ∧ s.mode < 7 ∧ s.tw.swo.isSome = false ∧ s.descCheck c = none ∧ (s.link (s.slLink (s.chSlice c))).going = true ∧ s.ctlB c F.DMA_CTRL_TIMED = true ∧ tlReached s.now (s.chS c) = false) ∧
    (∃ (s : State) (c : Chan) (code : Nat), s.chRaw c = 0 ∧ s.flag (Reg.DMA_OWN c) F.DMA_OWN_EN = true ∧ s.bound (s.chSlice c) = true ∧ s.fenced (s.chSlice c) = false ∧ s.ownChanges c = false ∧ s.tdi (s.chSlice c) ≠ 1 ∧ s.tdi (s.chSlice c) ≠ 3 ∧ s.linkPresent (s.slLink (s.chSlice c)) = true ∧ s.mode < 7 ∧ s.tw.swo.isSome = false ∧ s.descCheck c = some code) ∧
    (∃ (s : State) (c : Chan), s.chRaw c = 0 ∧ s.flag (Reg.DMA_OWN c) F.DMA_OWN_EN = true ∧ s.bound (s.chSlice c) = true ∧ s.fenced (s.chSlice c) = false ∧ s.ownChanges c = false ∧ s.tdi (s.chSlice c) ≠ 1 ∧ s.tdi (s.chSlice c) ≠ 3 ∧ s.linkPresent (s.slLink (s.chSlice c)) = true ∧ s.mode < 5 ∧ s.tw.swo.isSome = false ∧ s.descCheck c = none ∧ (s.link (s.slLink (s.chSlice c))).going = true ∧ s.ctlB c F.DMA_CTRL_TIMED = false ∧ (s.chan c).fetchErr = false) ∧
    (∃ (s : State) (c : Chan), (s.chRaw c ≠ 0 ∨ s.flag (Reg.DMA_OWN c) F.DMA_OWN_EN = false ∨ s.bound (s.chSlice c) = false ∨ s.fenced (s.chSlice c) = true ∨ s.ownChanges c = true)) ∧
    (∃ (s : State) (c : Chan), s.chBusy c = true ∧ s.chState c ≠ 5) :=
  ⟨⟨dmaIdle 0, 0, by decide +kernel⟩,
   ⟨(dmaIdle 0).wrW (Reg.DMA_COUNT 0) 8, 0, 1, by decide +kernel⟩,
   ⟨(fset (dmaIdle 0) (Reg.DMA_CTRL 0) F.DMA_CTRL_TIMED 0).setFld Reg.PW_MODE F.PW_MODE_MODE 4, 0, by decide +kernel⟩,
   ⟨dmaIn 0 1 5 id, 0, by decide +kernel⟩,
   ⟨dmaIn 0 3 5 id, 0, by decide +kernel⟩⟩

theorem witness_ChannelsStartStopAndCancel_2 :
    (∃ (s : State) (c : Chan), s.chBusy c = true ∧ s.chState c = 5) ∧
    (∃ (s : State) (c : Chan), s.chBusy c = false) ∧
    (∃ (s : State) (c : Chan), (s.chRaw c = 1 ∨ s.chRaw c = 2) ∧ (s.chan c).image = none ∧ (s.chan c).fetchErr = false) ∧
    (∃ (s : State) (c : Chan), s.chRaw c ≠ 1 ∧ s.chRaw c ≠ 2) ∧
    (∃ (s : State) (c : Chan), s.chRaw c = 8) :=
  ⟨⟨dmaIn 0 5 5 id, 0, by decide +kernel⟩,
   ⟨dmaIdle 0, 0, by decide +kernel⟩,
   ⟨dmaIn 0 1 5 id, 0, by decide +kernel⟩,
   ⟨dmaHalt 1 5, 0, by decide +kernel⟩,
   ⟨dmaIn 0 8 5 id, 0, by decide +kernel⟩⟩

theorem witness_ChannelsStartStopAndCancel_3 :
    (∃ (s : State) (c : Chan), s.chRaw c ≠ 8) :=
  ⟨dmaIdle 0, 0, by decide +kernel⟩

theorem witness_ReleasesAreTestedAndIssued_1 :
    (∃ (s : State) (c : Chan), s.chState c = 1 ∧ (s.chan c).begun = false ∧ tlReached s.now (s.chS c) = true ∧ s.tooLate c = false ∧ s.ctlB c F.DMA_CTRL_DIR = true ∧ s.domWait c = true ∧ s.ownPail c = true) ∧
    (∃ (s : State) (c : Chan) (b : Block), s.chState c = 1 ∧ (s.chan c).begun = false ∧ tlReached s.now (s.chS c) = true ∧ s.tooLate c = false ∧ s.ctlB c F.DMA_CTRL_DIR = true ∧ s.domWait c = false ∧ s.ownPail c = true ∧ (s.pail (s.chPail c)).blocks = [b] ∧ b.fin = false ∧ b.tc < s.ticks ∧ b.size ≤ s.chCount c ∧ b.bad = [] ∧ (s.chan c).stage = [] ∧ beatsOf b.size ≤ s.freeStaging (s.chSlice c)) ∧
    (∃ (s : State) (c : Chan), s.chState c = 1 ∧ (s.chan c).begun = false ∧ tlReached s.now (s.chS c) = true ∧ s.tooLate c = false ∧ s.ctlB c F.DMA_CTRL_DIR = false ∧ s.domWait c = false ∧ s.ownPail c = true ∧ s.chCount c ≤ s.pailFree (s.chPail c)) ∧
    (∃ (s : State) (c : Chan) (hits : List EccHit), s.chState c = 1 ∧ (s.chan c).begun = false ∧ tlReached s.now (s.chS c) = true ∧ s.tooLate c = true ∧ (s.chan c).image = none ∧ (s.chan c).fetchErr = false) ∧
    (∃ (s : State) (c : Chan) (hits : List EccHit), s.chState c = 1 ∧ (s.chan c).begun = false ∧ tlReached s.now (s.chS c) = true ∧ s.tooLate c = false ∧ (s.storeErrors 0 hits).2 = true ∧ (s.chan c).first = none ∧ (s.chan c).fail = none ∧ s.chRaw c ≠ 7) :=
  ⟨⟨(dmaIn 1 1 1024000 id).wrW Reg.PW_ON 0xFFFEFFFFFFFFFFFF, 0, by decide +kernel⟩,
   ⟨setTicks ((dmaIn 1 1 1024000 id).updPail 0 (fun r => { r with blocks := [blk 5 .none] })) 9, 0, blk 5 .none, by decide +kernel⟩,
   ⟨dmaIn 0 1 1024000 id, 0, by decide +kernel⟩,
   ⟨dmaIn 0 1 9024000 id, 0, [], by decide +kernel⟩,
   ⟨dmaIn 0 1 1024000 id, 0, [⟨16385, 0, 0, true⟩], by decide +kernel⟩⟩

theorem witness_ReleasesAreTestedAndIssued_2 :
    (∃ (s : State) (c : Chan), s.chRaw c = 1 ∧ (s.chan c).begun = true ∧ (s.chan c).tested = false ∧ tlReached s.now (s.chT c) = true ∧ s.releasing = false ∧ (s.chan c).image = none ∧ (s.chan c).fetchErr = false) ∧
    (∃ (s : State) (c : Chan), s.chRaw c = 1 ∧ (s.chan c).begun = true ∧ (s.chan c).tested = false ∧ tlReached s.now (s.chT c) = true ∧ s.releasing = true ∧ s.tlState ≠ 2 ∧ s.holds (s.chSlice c) = true) ∧
    (∃ (s : State) (c : Chan), s.chRaw c = 1 ∧ (s.chan c).begun = true ∧ (s.chan c).tested = false ∧ tlReached s.now (s.chT c) = true ∧ s.releasing = true ∧ s.tlState ≠ 2 ∧ s.holds (s.chSlice c) = false ∧ (s.chan c).image = none ∧ (s.chan c).fetchErr = false) ∧
    (∃ (s : State) (c : Chan), s.chRaw c = 1 ∧ (s.chan c).begun = true ∧ (s.chan c).tested = false ∧ tlReached s.now (s.chT c) = true ∧ s.releasing = true ∧ s.tlState = 2 ∧ (s.chan c).empty = false) ∧
    (∃ (s : State) (c : Chan), (s.chan c).begun = true ∧ s.ctlB c F.DMA_CTRL_DIR = false ∧ (s.chan c).roomAt = none ∧ (s.chState c = 1 ∨ s.chState c = 2 ∨ s.chState c = 3) ∧ s.domWait c = false ∧ s.ownPail c = true ∧ s.chCount c ≤ s.pailFree (s.chPail c)) :=
  ⟨⟨(dmaIn 0 1 1024000 (fun r => { r with begun := true })).setFld Reg.PW_MODE F.PW_MODE_MODE 7, 0, by decide +kernel⟩,
   ⟨(dmaTk 3 1 1024000 (fun r => { r with begun := true })).wrG (Reg.TL_HOLD_POLICY 0) 32, 0, by decide +kernel⟩,
   ⟨dmaTk 3 1 1024000 (fun r => { r with begun := true }), 0, by decide +kernel⟩,
   ⟨dmaTk 2 1 1024000 (fun r => { r with begun := true }), 0, by decide +kernel⟩,
   ⟨dmaIn 0 1 1024000 (fun r => { r with begun := true }), 0, by decide +kernel⟩⟩

theorem witness_ReleasesAreTestedAndIssued_3 :
    (∃ (s : State) (c : Chan), (s.chan c).begun = true ∧ s.ctlB c F.DMA_CTRL_DIR = false ∧ (s.chan c).roomAt = none ∧ (s.chState c = 1 ∨ s.chState c = 3) ∧ s.domWait c = false ∧ s.pailFree (s.chPail c) < s.chCount c ∧ s.ctlB c F.DMA_CTRL_TIMED = true ∧ (s.chan c).first = none ∧ (s.chan c).held = false ∧ (s.fld Reg.TL_LATE_LIMIT F.TL_LATE_LIMIT_LIMIT : Int) < tlDiff s.now (s.chT c) ∧ (s.chan c).image = none ∧ (s.chan c).fetchErr = false) ∧
    (∃ (s : State) (m : HLink) (hits : List EccHit) (sl b : Nat) (c : Chan), s.grant m = some (sl, b, c.val, .data) ∧ s.ctlB c F.DMA_CTRL_DIR = false ∧ s.slLink (s.chSlice c) = m.val ∧ s.roomLate c = none ∧ (s.storeErrors 0 hits).2 = false ∧ s.chCount c < 2 ^ 32) ∧
    (∃ (s : State) (m : HLink) (hits : List EccHit) (sl b : Nat) (c : Chan), s.grant m = some (sl, b, c.val, .data) ∧ s.ctlB c F.DMA_CTRL_DIR = true ∧ s.slLink (s.chSlice c) = m.val ∧ s.roomLate c = none ∧ (s.storeErrors 0 hits).2 = false ∧ (s.chan c).snap = [] ∧ s.moved c + 512 < 2 ^ 32 ∧ reqLen (s.rdW (Reg.DMA_DST c) + BitVec.ofNat 64 (s.chan c).written).toNat (s.chan c).stage.length (s.mps m) < (s.chan c).stage.length) ∧
    (∃ (s : State) (c : Chan), s.chRaw c = 7 ∧ (s.chState c = 1 ∨ s.chState c = 2) ∧ (s.chan c).first = none ∧ s.ctlB c F.DMA_CTRL_TIMED = true ∧ tlReached s.now (s.chT c) = true ∧ (s.chan c).image = none ∧ (s.chan c).fetchErr = false ∧ (s.chan c).fail = none) :=
  ⟨⟨(dmaIn 0 1 9024000 (fun r => { r with begun := true })).wrW (Reg.DMA_COUNT 0) 8192, 0, by decide +kernel⟩,
   ⟨{ dmaIn 0 1 1024000 (fun r => { r with begun := true, tested := true, roomAt := some 0 }) with core := 100 }, 0, [], 5, 0, 0, by decide +kernel⟩,
   ⟨{ dmaIn 1 1 1024000 (fun r => { r with begun := true, tested := true, roomAt := some 0, stage := List.replicate 600 7 }) with core := 100 }, 0, [], 5, 0, 0, by decide +kernel⟩,
   ⟨dmaHalt 1 1024000, 0, by decide +kernel⟩⟩

theorem witness_DataMovesAndDescriptorsRetire_1 :
    (∃ (s : State) (c : Chan) (off n : Nat) (data : List Byte), (s.chan c).reads.find? (fun e => e.1 == off) = some (off, n) ∧ s.chRaw c ≠ 7 ∧ (s.chan c).fail = none ∧ s.ctlB c F.DMA_CTRL_RECORD = false) ∧
    (∃ (s : State) (c : Chan) (off n : Nat) (data : List Byte), (s.chan c).reads.find? (fun e => e.1 == off) = some (off, n) ∧ (s.chan c).fail = none ∧ s.ctlB c F.DMA_CTRL_RECORD = true ∧ (s.chan c).first.isSome = true ∧ (s.chan c).recOut = false ∧ (s.rdW (Reg.DMA_REC c)).toNat % 32 = 0) ∧
    (∃ (s : State) (c : Chan) (off n : Nat) (data : List Byte), (s.chan c).reads.find? (fun e => e.1 == off) = some (off, n) ∧ off = (s.chan c).rxPos ∧ (s.chan c).early = [] ∧ 0 < data.length ∧ data.length ≤ n ∧ (s.chan c).buf.length + data.length < 16) ∧
    (∃ (s : State) (c : Chan) (n : Nat) (data : List Byte), (s.chan c).reads.find? (fun e => e.1 == 0) = some (0, n) ∧ (s.chan c).rxPos = 0 ∧ (s.chan c).early = [] ∧ (s.chan c).buf = [] ∧ (s.chan c).hdrUp = false ∧ s.ownPail c = true ∧ 16 ≤ data.length ∧ data.length ≤ n ∧ data.length < blockBytes (hLen (BitVec.ofNat 64 (leAt data 8 8))) ∧ blockBytes (hLen (BitVec.ofNat 64 (leAt data 8 8))) ≤ s.chCount c) ∧
    (∃ (s : State) (c : Chan) (n : Nat) (data : List Byte), (s.chan c).reads.find? (fun e => e.1 == 0) = some (0, n) ∧ (s.chan c).rxPos = 0 ∧ (s.chan c).early = [] ∧ (s.chan c).buf = [] ∧ 16 ≤ data.length ∧ data.length ≤ n ∧ s.chCount c < blockBytes (hLen (BitVec.ofNat 64 (leAt data 8 8))) ∧ s.chRaw c ≠ 7 ∧ (s.chan c).fail = none ∧ s.ctlB c F.DMA_CTRL_RECORD = false) :=
  ⟨⟨dmaRead id, 0, 0, 512, [], by decide +kernel⟩,
   ⟨fset (dmaRead (fun r => { r with first := some 0 })) (Reg.DMA_CTRL 0) F.DMA_CTRL_RECORD 1, 0, 0, 512, [], by decide +kernel⟩,
   ⟨dmaRead id, 0, 0, 512, [1, 2, 3], by decide +kernel⟩,
   ⟨dmaRead id, 0, 512, leBytes 8 (tlOf 5).toNat ++ leBytes 8 (mkH1 0 0 96 23 0 0 1).toNat ++ [1, 2, 3, 4, 5, 6, 7, 8], by decide +kernel⟩,
   ⟨(dmaRead id).wrW (Reg.DMA_COUNT 0) 64, 0, 512, leBytes 8 (tlOf 5).toNat ++ leBytes 8 (mkH1 0 0 96 23 0 0 1).toNat, by decide +kernel⟩⟩

theorem witness_DataMovesAndDescriptorsRetire_2 :
    (∃ (s : State) (c : Chan), (s.chan c).reads.isEmpty = false ∧ s.chRaw c ≠ 7 ∧ (s.chan c).fail = none ∧ s.ctlB c F.DMA_CTRL_RECORD = false) ∧
    (∃ (s : State) (p : Pail) (a : Arrival) (rest : List Arrival) (n : Port) (off : Nat), (s.pail p).arrivals = a :: rest ∧ s.arrivalDue a = true ∧ a.writer = .port n ∧ a.room = some off ∧ a.doom = none ∧ s.commitTest p a.h0 = none ∧ a.pois = false) ∧
    (∃ (s : State) (p : Pail) (hits : List EccHit) (a : Arrival) (rest : List Arrival) (n : Port) (off code : Nat), (s.pail p).arrivals = a :: rest ∧ s.arrivalDue a = true ∧ a.writer = .port n ∧ a.room = some off ∧ a.doom = none ∧ s.commitTest p a.h0 = some code) ∧
    (∃ (s : State) (p : Pail) (a : Arrival) (rest : List Arrival) (c : Chan) (off : Nat), (s.pail p).arrivals = a :: rest ∧ s.arrivalDue a = true ∧ a.writer = .chan c ∧ a.room = some off ∧ a.doom = none ∧ s.commitTest p a.h0 = none ∧ a.pois = false ∧ s.moved c + blockBytes (hLen a.h1) < 2 ^ 32) ∧
    (∃ (s : State) (c : Chan) (m sl b : Nat) (r : DmaRec) (rs : List DmaRec), s.slLink (s.chSlice c) = m ∧ s.grant m = some (sl, b, c.val, .record) ∧ (s.chan c).recs = r :: rs ∧ (s.link m).atsEn = false ∧ s.tdi sl ≠ 2 ∧ s.inL0 m = true) :=
  ⟨⟨dmaRead id, 0, by decide +kernel⟩,
   ⟨dmaArr (.port 0) 0, 0, arrDone (.port 0), [], 0, 0, by decide +kernel⟩,
   ⟨dmaArr (.port 0) 9000, 0, [], arrDone (.port 0), [], 0, 0, 3, by decide +kernel⟩,
   ⟨dmaArr (.chan 0) 0, 0, arrDone (.chan 0), [], 0, 0, by decide +kernel⟩,
   ⟨dmaIn 0 6 1024000 (fun r => { r with recs := [rec0] }), 0, 0, 5, 0, rec0, [], by decide +kernel⟩⟩

theorem witness_DataMovesAndDescriptorsRetire_3 :
    (∃ (s : State) (c : Chan) (code : Nat), (s.chan c).fail = some code ∧ 1 ≤ code ∧ code ≤ 0xC ∧ (s.chan c).recOut = true ∧ (s.chan c).done = false ∧ s.chRaw c ≠ 7 ∧ s.drained c = false) ∧
    (∃ (s : State) (c : Chan), (s.chan c).done = true ∧ (s.chan c).fail = none ∧ ((s.chan c).recOut = true ∨ s.ctlB c F.DMA_CTRL_RECORD = false) ∧ (s.chan c).image = none ∧ (s.chan c).fetchErr = false) ∧
    (∃ (s : State) (c : Chan) (im : List Byte), (s.chan c).done = true ∧ (s.chan c).fail = none ∧ ((s.chan c).recOut = true ∨ s.ctlB c F.DMA_CTRL_RECORD = false) ∧ (s.chan c).image = some im ∧ s.ctlB c F.DMA_CTRL_STOP_REQ = false) ∧
    (∃ (s : State) (c : Chan) (m sl b : Nat), s.slLink (s.chSlice c) = m ∧ s.grant m = some (sl, b, c.val, .fetch) ∧ (s.link m).atsEn = false ∧ s.tdi sl ≠ 2 ∧ s.inL0 m = true) ∧
    (∃ (s : State) (c : Chan) (st : CplStatus) (im : List Byte), (s.chan c).fetching = true ∧ s.chState c ≠ 5 ∧ s.chBusy c = true ∧ s.ctlB c F.DMA_CTRL_STOP_REQ = false) :=
  ⟨⟨dmaIn 0 3 1024000 (fun r => { r with fail := some 5, recOut := true }), 0, 5, by decide +kernel⟩,
   ⟨dmaIn 0 3 1024000 (fun r => { r with done := true }), 0, by decide +kernel⟩,
   ⟨dmaIn 0 3 1024000 (fun r => { r with done := true, image := some (List.replicate 64 0) }), 0, List.replicate 64 0, by decide +kernel⟩,
   ⟨fset (dmaIn 0 5 1024000 id) (Reg.DMA_CTRL 0) F.DMA_CTRL_CHAIN 1, 0, 0, 5, 0, by decide +kernel⟩,
   ⟨dmaIn 0 3 1024000 (fun r => { r with fetching := true }), 0, .sc, List.replicate 64 0, by decide +kernel⟩⟩

theorem witness_DataMovesAndDescriptorsRetire_4 :
    (∃ (s : State) (c : Chan) (im : List Byte), (s.chan c).fetching = true ∧ s.chState c = 5) ∧
    (∃ (s : State) (m : HLink), s.reachable m = true ∧ (s.link m).going = true) ∧
    (∃ (s : State) (m : HLink), s.reachable m = true ∧ (s.link m).bme = false ∧ (s.link m).d3 = false ∧ (s.link m).going = false) :=
  ⟨⟨dmaIn 0 5 1024000 (fun r => { r with fetching := true }), 0, [], by decide +kernel⟩,
   ⟨(dmaIn 0 3 1024000 id).setFld (Reg.HL_PORT_STAT 0) F.HL_PORT_STAT_PERST 0, 0, by decide +kernel⟩,
   ⟨((dmaHalt 3 1024000).updLink 0 (fun l => { l with going := false })).setFld (Reg.HL_PORT_STAT 0) F.HL_PORT_STAT_PERST 0, 0, by decide +kernel⟩⟩

theorem witness_AlinkSlotsReadSendAndMiss_1 :
    (∃ (s : State) (p : Pail) (b : Block), s.pailRole p = 1 ∧ (s.pail p).blocks.find? (fun b => b.tx == .wait && !b.fin) = some b ∧ b.bad = [] ∧ tlReached s.now (tlAdd (tlCount b.h0) (-((188 + s.fld (Reg.TL_LEAD_AL (s.pailPort p)) F.TL_LEAD_AL_LEAD : Nat) : Int))) = true ∧ s.fld (Reg.AL_STAT (s.pailPort p)) F.AL_STAT_TSTATE = 5 ∧ s.uncal (s.pailPort p) = false ∧ tlCount b.h0 % 32 = 0 ∧ s.readLate (tlCount b.h0) = false) ∧
    (∃ (s : State) (p : Pail) (hits : List EccHit) (b : Block), s.pailRole p = 1 ∧ (s.pail p).blocks.find? (fun b => b.tx == .wait && !b.fin) = some b ∧ tlReached s.now (tlAdd (tlCount b.h0) (-((188 + s.fld (Reg.TL_LEAD_AL (s.pailPort p)) F.TL_LEAD_AL_LEAD : Nat) : Int))) = true ∧ s.fld (Reg.AL_STAT (s.pailPort p)) F.AL_STAT_TSTATE = 5 ∧ s.uncal (s.pailPort p) = false ∧ tlCount b.h0 % 32 = 0 ∧ s.readLate (tlCount b.h0) = false ∧ (s.readErrors p b hits).2 ≠ []) ∧
    (∃ (s : State) (p : Pail) (hits : List EccHit) (b : Block), s.pailRole p = 1 ∧ (s.pail p).blocks.find? (fun b => b.tx == .wait && !b.fin) = some b ∧ tlReached s.now (tlAdd (tlCount b.h0) (-((188 + s.fld (Reg.TL_LEAD_AL (s.pailPort p)) F.TL_LEAD_AL_LEAD : Nat) : Int))) = true ∧ tlCount b.h0 % 32 = 0 ∧ (s.fld (Reg.AL_STAT (s.pailPort p)) F.AL_STAT_TSTATE ≠ 5 ∨ s.uncal (s.pailPort p) = true ∨ s.readLate (tlCount b.h0) = true)) ∧
    (∃ (s : State) (p : Pail) (hits : List EccHit) (b : Block), s.pailRole p = 1 ∧ (s.pail p).blocks.find? (fun b => b.tx == .wait && !b.fin) = some b ∧ tlReached s.now (tlAdd (tlCount b.h0) (-((188 + s.fld (Reg.TL_LEAD_AL (s.pailPort p)) F.TL_LEAD_AL_LEAD : Nat) : Int))) = true ∧ tlCount b.h0 % 32 ≠ 0) ∧
    (∃ (s : State) (p : Pail) (at_ : Nat) (ts : List Nat), (s.pail p).expect = at_ :: ts ∧ s.txCtx p = none ∧ tlReached s.now (tlAdd at_ ((s.fld Reg.TL_LATE_LIMIT F.TL_LATE_LIMIT_LIMIT : Int) - 188)) = true) :=
  ⟨⟨txPail (alIn 5) (blk 0 .wait), 0, blk 0 .wait, by decide +kernel⟩,
   ⟨txPail (alIn 5) (blk 0 .wait), 0, [⟨0, 3, 1, true⟩], blk 0 .wait, by decide +kernel⟩,
   ⟨txPail (alIn 0) (blk 0 .wait), 0, [], blk 0 .wait, by decide +kernel⟩,
   ⟨txPail (alIn 5) (blk 5 .wait), 0, [], blk 5 .wait, by decide +kernel⟩,
   ⟨((alIn 5).updPail 0 (fun r => { r with expect := [0] })).updTk (fun t => { t with count := 5000000 }), 0, 0, [], by decide +kernel⟩⟩

theorem witness_AlinkSlotsReadSendAndMiss_2 :
    (∃ (s : State) (p : Pail) (at_ u k : Nat) (ts : List Nat), (s.pail p).expect = at_ :: ts ∧ s.txCtx p = some (u, k) ∧ u < 16 ∧ k < 16 ∧ tlReached s.now (tlAdd at_ ((s.fld Reg.TL_LATE_LIMIT F.TL_LATE_LIMIT_LIMIT : Int) - 188)) = true) ∧
    (∃ (s : State) (p : Pail) (b : Block), (s.pail p).blocks.find? (fun b => b.tx == .held) = some b ∧ 0 ≤ tlDiff s.now (tlAdd (tlCount b.h0) ((s.fld Reg.TL_HOLD_LIMIT F.TL_HOLD_LIMIT_LIMIT : Nat) : Int))) ∧
    (∃ (s : State) (c : Chan), s.chState c = 2 ∧ ((s.rdW Reg.TL_HOLD_LIMIT).toNat : Int) ≤ tlDiff s.now (s.chT c)) ∧
    (∃ (s : State) (n : Port), s.now % 32 = 0 ∧ s.on (domL (n / 8)) = true ∧ (s.tstate (.al n) = 2 ∨ s.tstate (.al n) = 3)) ∧
    (∃ (s : State) (n : Port), s.now % 32 = 0 ∧ s.on (domL (n / 8)) = true ∧ (s.tstate (.al n) = 4 ∨ s.tstate (.al n) = 5)) :=
  ⟨⟨lateTx, 0, 0, 0, 2, [], by decide +kernel⟩,
   ⟨txPail ((alIn 5).updTk (fun t => { t with count := 500000000 })) (blk 0 .held), 0, blk 0 .held, by decide +kernel⟩,
   ⟨((runIn 5).setFld (Reg.DMA_STAT 0) F.DMA_STAT_STATE 2).updTk (fun t => { t with count := 500000000 }), 0, by decide +kernel⟩,
   ⟨alIn 2, 0, by decide +kernel⟩,
   ⟨alIn 4, 0, by decide +kernel⟩⟩

theorem witness_ControlWordsTakeEffect_1 :
    (∃ (s : State) (n : Port) (w : Word), s.wordsLive n = true ∧ wbits w 63 60 = 1 ∧ wbits w 59 58 ≠ 0) ∧
    (∃ (s : State) (n : Port) (w : Word), s.wordsLive n = true ∧ wbits w 63 60 = 3 ∧ wbits w 59 58 ≠ 0) ∧
    (∃ (s : State) (n : Port) (w : Word) (k : Nat), s.wordsLive n = true ∧ wbits w 63 60 = 2 ∧ k = crKey (wbits w 59 58) (if wbits w 59 58 = 0 then wbits w 57 42 else 0) ∧ (s.crRx n k).wait = false ∧ wbits w 31 0 ≠ (s.crRx n k).recvd) ∧
    (∃ (s : State) (n : Port) (w : Word) (k : Nat), s.wordsLive n = true ∧ wbits w 63 60 = 2 ∧ k = crKey (wbits w 59 58) (if wbits w 59 58 = 0 then wbits w 57 42 else 0) ∧ wbits w 31 0 = (s.crRx n k).recvd) ∧
    (∃ (s : State) (n : Port) (w : Word), s.wordsLive n = true ∧ wbits w 63 60 = 8) :=
  ⟨⟨alIn 5, 0, cw 1 (2 ^ 58 + 7), by decide +kernel⟩,
   ⟨alIn 5, 0, cw 3 (2 ^ 58 + 7), by decide +kernel⟩,
   ⟨alIn 5, 0, cw 2 (2 ^ 58 + 7), crKey 1 0, by decide +kernel⟩,
   ⟨(alIn 5).updRx 0 (crKey 1 0) (fun c => { c with wait := true, recvd := 7 }), 0, cw 2 (2 ^ 58 + 7), crKey 1 0, by decide +kernel⟩,
   ⟨(alIn 5).setFld Reg.TW_ROLE F.TW_ROLE_ROLE 1, 0, cw 8 3, by decide +kernel⟩⟩

theorem witness_ControlWordsTakeEffect_2 :
    (∃ (s : State) (n : Port) (w : Word) (ago : Nat), s.wordsLive n = true ∧ s.flag (Reg.AL_CTRL n) F.AL_CTRL_TOD_EN = true ∧ tlValid w = true) ∧
    (∃ (s : State) (n : Port) (w : Word) (ago : Nat), s.wordsLive n = true ∧ s.flag (Reg.AL_CTRL n) F.AL_CTRL_TOD_EN = true ∧ tlValid w = false) ∧
    (∃ (s : State) (n : Port) (w : Word), s.wordsLive n = true ∧ wbits w 63 60 = 0xA) :=
  ⟨⟨(alIn 5).setFld (Reg.AL_CTRL 0) F.AL_CTRL_TOD_EN 1, 0, tlOf 100, 5, by decide +kernel⟩,
   ⟨(alIn 5).setFld (Reg.AL_CTRL 0) F.AL_CTRL_TOD_EN 1, 0, 0xFFFFFFFFFFFFFFFF, 5, by decide +kernel⟩,
   ⟨alWith 5 (fun p => { p with first := true }), 0, cw 0xA 2, by decide +kernel⟩⟩

theorem witness_AcknowledgementReleasesOrResends :
    (∃ (s : State) (n : Port) (w : Word), s.isUp (.al n) = true ∧ (s.port n).shut = false ∧ w.toNat.testBit 10 = false ∧ (s.port n).unack.any (fun c => c.seq == wbits w 9 0) = true) ∧
    (∃ (s : State) (n : Port) (w : Word), s.isUp (.al n) = true ∧ (s.port n).shut = false ∧ w.toNat.testBit 10 = true ∧ (s.port n).unack.any (fun c => c.seq == wbits w 9 0) = true ∧ (s.port n).unack.all (fun c => decide (c.sends < 9)) = true) ∧
    (∃ (s : State) (n : Port), s.isUp (.al n) = true ∧ (s.port n).unack ≠ [] ∧ (s.port n).ackAt + 4096 ≤ s.ticks ∧ (s.port n).unack.all (fun c => decide (c.sends < 9)) = true) ∧
    (∃ (s : State) (n : Port), s.isUp (.al n) = true ∧ (s.port n).ackAt + 4096 ≤ s.ticks ∧ (s.port n).unack.any (fun c => decide (9 ≤ c.sends)) = true) :=
  ⟨⟨alWith 5 (fun p => { p with unack := [cell 0 1, cell 1 1, cell 2 1] }), 0, cw 4 1, by decide +kernel⟩,
   ⟨alWith 5 (fun p => { p with unack := [cell 0 1, cell 1 1, cell 2 1] }), 0, cw 4 1025, by decide +kernel⟩,
   ⟨setTicks (alWith 5 (fun p => { p with unack := [cell 0 1, cell 1 1] })) 5000, 0, by decide +kernel⟩,
   ⟨setTicks (alWith 5 (fun p => { p with unack := [cell 0 9, cell 1 1] })) 5000, 0, by decide +kernel⟩⟩

theorem witness_PortChecksFallDue_1 :
    (∃ (s : State) (n : Port), s.overdue n ≠ []) ∧
    (∃ (s : State) (n : Port) (per : Nat), s.isUp (.al n) = true ∧ per = (if s.fld (Reg.AL_CALPER n) F.AL_CALPER_FRAMES = 0 then 1024 else s.fld (Reg.AL_CALPER n) F.AL_CALPER_FRAMES) ∧ (s.port n).calAt + 32 * per ≤ s.ticks) ∧
    (∃ (s : State) (n : Port) (w : Word) (ago sent rtt : Nat) (owd : Int) (rest : List (Nat × Nat × Bool)), (s.port n).calOut = (wbits w 47 32, sent, false) :: rest ∧ rest.all (fun e => e.1 != wbits w 47 32 && !e.2.2) = true ∧ s.wordsLive n = true ∧ rtt = uInt 32 (((s.ticks : Int) - sent) * 65536 - ago - s.rxDelay n - (wbits w 31 0 : Nat)) ∧ owd = sNat 32 (uInt 32 (rnd rtt 1 0 + sNat 32 (s.fld (Reg.AL_ASYM n) F.AL_ASYM_ASYM)))) ∧
    (∃ (s : State) (n : Port) (id sent : Nat) (ans : Bool) (rest : List (Nat × Nat × Bool)), (s.port n).calOut = (id, sent, ans) :: rest ∧ rest.all (fun e => !e.2.2) = true ∧ sent + 32768 ≤ s.ticks ∧ s.tstate (.al n) = 5) ∧
    (∃ (s : State) (n : Port) (id sent : Nat) (ans : Bool) (rest : List (Nat × Nat × Bool)), (s.port n).calOut = (id, sent, ans) :: rest ∧ sent + 32768 ≤ s.ticks ∧ s.tstate (.al n) = 4) :=
  ⟨⟨setTicks ((alIn 5).updRx 0 3 (fun c => { c with last := some 0 })) 40000000, 0, by decide +kernel⟩,
   ⟨setTicks (alIn 5) 3000000, 0, 65536, by decide +kernel⟩,
   ⟨setTicks (alWith 5 (fun p => { p with calOut := [(9, 0, false)], calEver := true })) 10000, 0, cw 7 (9 * 2 ^ 32 + 5000), 0, 0, 655355000, 327677500, [], by decide +kernel⟩,
   ⟨setTicks (alWith 5 (fun p => { p with calOut := [(9, 0, false), (10, 5, false)], calRun := 2 })) 40000, 0, 9, 0, false, [(10, 5, false)], by decide +kernel⟩,
   ⟨setTicks (alWith 4 (fun p => { p with calOut := [(9, 0, false), (10, 5, false)], calRun := 2 })) 40000, 0, 9, 0, false, [(10, 5, false)], by decide +kernel⟩⟩

theorem witness_PortChecksFallDue_2 :
    (∃ (s : State) (n : Port) (since : Nat), (s.port n).inhSince = some since ∧ since + 39322 < s.ticks) :=
  ⟨setTicks (alWith 5 (fun p => { p with inhSince := some 0 })) 40000, 0, 0, by decide +kernel⟩

theorem witness_TrainingRisesStateByState_1 :
    (∃ (s : State) (e : LinkEnd) (found : Found) (pr : Bool), s.tstate e = 0 ∧ s.linkOn e = true ∧ (s.train e).probeAt.all (fun x => decide (x + 1966080 ≤ s.ticks)) = true ∧ pr = (if found = .all ∧ 2 ≤ (s.train e).hits then true else if found = .none ∧ 2 ≤ (s.train e).misses then false else (s.train e).present)) ∧
    (∃ (s : State) (e : LinkEnd), s.tstate e = 1 ∧ (s.train e).since + 196608 ≤ s.ticks) ∧
    (∃ (s : State) (e : LinkEnd), s.tstate e = 2 ∧ 8 ≤ (s.train e).good ∧ (s.train e).farLock = true) ∧
    (∃ (s : State) (e : LinkEnd), s.tstate e = 3 ∧ 8 ≤ (s.train e).farDone) ∧
    (∃ (s : State) (e : LinkEnd), s.tstate e = 4 ∧ s.calibrated e = true) :=
  ⟨⟨setTicks (img (alWith 0 (fun p => { p with train := { p.train with hits := 2 } })) (Reg.AL_CTRL 0) F.AL_CTRL_EN 1) 5000000, .al 0, .all, true, by decide +kernel⟩,
   ⟨setTicks (alIn 1) 5000000, .al 0, by decide +kernel⟩,
   ⟨alWith 2 (fun p => { p with train := { p.train with good := 8, farLock := true } }), .al 0, by decide +kernel⟩,
   ⟨clWith 3 (fun p => { p with train := { p.train with farDone := 8 } }), .cl 1, by decide +kernel⟩,
   ⟨clWith 4 (fun c => { c with calOk := true }), .cl 1, by decide +kernel⟩⟩

theorem witness_TrainingRisesStateByState_2 :
    (∃ (s : State) (e : LinkEnd), 1 ≤ s.tstate e ∧ s.tstate e ≤ 4 ∧ (s.train e).since + trainLimit (s.tstate e) ≤ s.ticks) ∧
    (∃ (s : State) (e : LinkEnd) (at_ : Nat), (s.train e).retryAt = some at_ ∧ at_ ≤ s.ticks ∧ s.tstate e = 0 ∧ s.linkEn e = true ∧ s.linkOn e = true ∧ (s.train e).present = true) :=
  ⟨⟨setTicks (alIn 4) 5000000, .al 0, by decide +kernel⟩,
   ⟨setTicks (img (alWith 0 (fun p => { p with train := { p.train with retryAt := some 7, present := true } })) (Reg.AL_CTRL 0) F.AL_CTRL_EN 1) 5000000, .al 0, 7, by decide +kernel⟩⟩

theorem witness_LanesMoveAndLinksGoDown_1 :
    (∃ (s : State) (n : Port) (w : Word) (l ph at_ : Nat), (s.port n).swap = some ⟨l, ph, at_, none⟩ ∧ s.isUp (.al n) = true ∧ (s.port n).shut = false ∧ wbits w 63 60 = 0xB ∧ wbits w 59 58 = 1) ∧
    (∃ (s : State) (x : ClPort) (w : Word) (l ph at_ : Nat), (s.clp x).swap = some ⟨l, ph, at_, none⟩ ∧ s.isUp (.cl x) = true ∧ (s.clp x).shut = false ∧ wbits w 63 60 = 0xB ∧ wbits w 59 58 = 1) ∧
    (∃ (s : State) (n : Port) (l ph at_ go : Nat), (s.port n).swap = some ⟨l, ph, at_, some go⟩ ∧ go ≤ s.ticks ∧ l < 2 ∧ (ph = 16 ∨ ph = 17)) ∧
    (∃ (s : State) (x : ClPort) (l ph at_ go : Nat), (s.clp x).swap = some ⟨l, ph, at_, some go⟩ ∧ go ≤ s.ticks) ∧
    (∃ (s : State) (n : Port) (l ph at_ : Nat), (s.port n).swap = some ⟨l, ph, at_, none⟩ ∧ at_ + 3932160 ≤ s.ticks) :=
  ⟨⟨alWith 5 (fun p => { p with swap := some ⟨1, 16, 3, none⟩ }), 0, cw 0xB (2 ^ 58), 1, 16, 3, by decide +kernel⟩,
   ⟨clWith 5 (fun c => { c with swap := some ⟨1, 4, 3, none⟩ }), 1, cw 0xB (2 ^ 58), 1, 4, 3, by decide +kernel⟩,
   ⟨setTicks (alWith 5 (fun p => { p with swap := some ⟨1, 16, 3, some 9⟩ })) 9, 0, 1, 16, 3, 9, by decide +kernel⟩,
   ⟨setTicks (clWith 5 (fun c => { c with swap := some ⟨1, 4, 3, some 9⟩ })) 9, 1, 1, 4, 3, 9, by decide +kernel⟩,
   ⟨setTicks (alWith 5 (fun p => { p with swap := some ⟨1, 16, 3, none⟩ })) 5000000, 0, 1, 16, 3, by decide +kernel⟩⟩

theorem witness_LanesMoveAndLinksGoDown_2 :
    (∃ (s : State) (x : ClPort) (l ph at_ : Nat), (s.clp x).swap = some ⟨l, ph, at_, none⟩ ∧ at_ + 3932160 ≤ s.ticks) ∧
    (∃ (s : State) (n : Port) (lane : Fin 4), s.tstate (.al n) = 5) ∧
    (∃ (s : State) (x : ClPort) (lane : Fin 4), s.tstate (.cl x) = 5) ∧
    (∃ (s : State) (e : LinkEnd) (lane : Fin 4), 2 ≤ s.tstate e ∧ s.tstate e ≤ 4) ∧
    (∃ (s : State) (n : Port), s.tstate (.al n) ≠ 0) :=
  ⟨⟨setTicks (clWith 5 (fun c => { c with swap := some ⟨1, 4, 3, none⟩ })) 5000000, 1, 1, 4, 3, by decide +kernel⟩,
   ⟨alIn 5, 0, 3, by decide +kernel⟩,
   ⟨clWith 5 id, 1, 3, by decide +kernel⟩,
   ⟨alIn 3, .al 0, 3, by decide +kernel⟩,
   ⟨alIn 5, 0, by decide +kernel⟩⟩

theorem witness_LanesMoveAndLinksGoDown_3 :
    (∃ (s : State) (x : ClPort), s.tstate (.cl x) ≠ 0) :=
  ⟨clWith 5 id, 1, by decide +kernel⟩

theorem witness_FramesAreCountedAndTakeLinksDown_1 :
    (∃ (s : State) (n : Port) (half : Fin 2) (ago : Nat) (hdr : Word) (cells : List (List Word)) (errs : List Nat), 2 ≤ s.tstate (.al n) ∧ s.linkOn (.al n) = true ∧ 16 < errs.length) ∧
    (∃ (s : State) (x : ClPort) (half : Fin 2) (ago : Nat) (hdr : Word) (cells : List (List Word)) (errs : List Nat), 2 ≤ s.tstate (.cl x) ∧ s.on 5 = true ∧ 16 < errs.length) ∧
    (∃ (s : State) (n : Port) (half : Fin 2) (ago : Nat) (hdr : Word) (cells : List (List Word)), s.tstate (.al n) = 5 ∧ s.linkOn (.al n) = true ∧ wbits hdr 63 60 = 2) ∧
    (∃ (s : State) (n : Port) (half : Fin 2) (ago : Nat) (hdr w0 w1 : Word) (ws : List Word) (cells : List (List Word)), (s.tstate (.al n) = 2 ∨ s.tstate (.al n) = 3) ∧ s.linkOn (.al n) = true ∧ wbits hdr 63 60 = 2 ∧ wbits w0 63 56 = 1 ∧ wbits w0 52 48 = s.fld (Reg.AL_LANEMAP n) F.AL_LANEMAP_LANE0 ∧ wbits w0 47 43 = s.fld (Reg.AL_LANEMAP n) F.AL_LANEMAP_LANE1) ∧
    (∃ (s : State) (e : LinkEnd) (half : Fin 2) (ago : Nat) (hdr w0 : Word) (ws : List Word) (cells : List (List Word)), (s.tstate e = 2 ∨ s.tstate e = 3) ∧ s.linkOn e = true ∧ wbits hdr 63 60 = 2 ∧ wbits w0 63 56 ≠ 1) :=
  ⟨⟨alIn 5, 0, 0, 0, cw 1 0, [], [0, 1, 2, 3, 4, 5, 6, 7, 8, 9, 10, 11, 12, 13, 14, 15, 16], by decide +kernel⟩,
   ⟨clWith 5 id, 1, 0, 0, cw 1 0, [], [0, 1, 2, 3, 4, 5, 6, 7, 8, 9, 10, 11, 12, 13, 14, 15, 16], by decide +kernel⟩,
   ⟨alIn 5, 0, 0, 0, cw 2 0, [], by decide +kernel⟩,
   ⟨alIn 2, 0, 0, 0, cw 2 0, trainW, 5, [], [], by decide +kernel⟩,
   ⟨clWith 3 id, .cl 1, 0, 0, cw 2 0, 0, [], [], by decide +kernel⟩⟩

theorem witness_FramesAreCountedAndTakeLinksDown_2 :
    (∃ (s : State) (n : Port) (half : Fin 2) (ago : Nat) (hdr : Word) (cells : List (List Word)) (errs : List Nat), s.tstate (.al n) = 4 ∧ s.linkOn (.al n) = true ∧ errs.length ≤ 16 ∧ wbits hdr 63 60 = 1) ∧
    (∃ (s : State) (n : Port) (half : Fin 2) (ago : Nat) (hdr : Word) (cells : List (List Word)) (errs : List Nat), 4 ≤ s.tstate (.al n) ∧ s.linkOn (.al n) = true ∧ errs.length ≤ 16 ∧ wbits hdr 63 60 = 1 ∧ wbits hdr 11 4 % 8 = 0 ∧ (wbits hdr 13 12 = 1 ∨ wbits hdr 13 12 = 2)) ∧
    (∃ (s : State) (x : ClPort) (half : Fin 2) (ago : Nat) (hdr : Word) (cells : List (List Word)) (errs : List Nat), 4 ≤ s.tstate (.cl x) ∧ s.on 5 = true ∧ errs.length ≤ 16 ∧ wbits hdr 63 60 = 1 ∧ (half = 1 ∨ wbits hdr 11 4 % 8 ≠ 0 ∨ wbits hdr 13 12 = 0 ∨ wbits hdr 13 12 = 3)) :=
  ⟨⟨alIn 4, 0, 0, 0, cw 1 0, [], [1, 2], by decide +kernel⟩,
   ⟨alIn 5, 0, 0, 0, cw 1 (2 ^ 12), [], [1, 2], by decide +kernel⟩,
   ⟨clWith 5 id, 1, 0, 0, cw 1 (7 * 16), [], [1, 2], by decide +kernel⟩⟩

theorem witness_AlinkManagementCommandsAnswer :
    (∃ (s : State) (h : UmHdr) (p : List Byte) (n : Port), s.umCheck h 0x0400 p.length = none ∧ leAt p 0 1 = n.val ∧ s.tstate (.al n) ≠ 0) ∧
    (∃ (s : State) (h : UmHdr) (p : List Byte) (n : Port), s.umCheck h 0x0401 p.length = none ∧ leAt p 0 1 = n.val) ∧
    (∃ (s : State) (h : UmHdr) (p : List Byte) (n : Port), s.umCheck h 0x0402 p.length = none ∧ leAt p 0 1 = n.val ∧ leAt p 1 1 ≤ 1 ∧ leAt p 2 1 ∈ s.freeSpares n ∧ (s.port n).swap = none) ∧
    (∃ (s : State) (h : UmHdr) (p : List Byte) (n : Port), s.umCheck h 0x0403 p.length = none ∧ leAt p 0 1 = n.val ∧ s.isUp (.al n) = true) ∧
    (∃ (s : State) (h : UmHdr) (p : List Byte) (n : Port), s.umCheck h 0x0404 p.length = none ∧ leAt p 0 1 = n.val ∧ leAt p 1 1 ≤ 3) :=
  ⟨⟨alIn 5, hdr, [0], 0, by decide +kernel⟩,
   ⟨alIn 5, hdr, [0], 0, by decide +kernel⟩,
   ⟨img (alIn 5) (Reg.AL_GRP_SPARE_CFG 0) F.AL_GRP_SPARE_CFG_REACH16 1, hdr, [0, 0, 16], 0, by decide +kernel⟩,
   ⟨alIn 5, hdr, [0], 0, by decide +kernel⟩,
   ⟨alIn 5, hdr, [0, 1, 0, 0], 0, by decide +kernel⟩⟩

theorem witness_HostAccessesReachTheWindowsOrAreRejected_1 :
    (∃ (s : State) (m : HLink) (off : Nat) (data : List (Option Byte)) (n : Port) (bs : List (Nat × Byte)), s.reachable m = true ∧ s.memOn m = true ∧ s.winCheck m off data.length true = .ok n ∧ bs = localBytes (swapX (s.fld (Reg.AL_WIN_CTRL n) F.AL_WIN_CTRL_SWAP)) (off % 0x10000000) 0 data) ∧
    (∃ (s : State) (m : HLink) (off : Nat) (data : List (Option Byte)) (n : Port), s.reachable m = true ∧ s.memOn m = true ∧ (s.winCheck m off data.length true = .ur (some n) ∨ s.winCheck m off data.length true = .ca n) ∧ s.on (domL (n / 8)) = true) ∧
    (∃ (s : State) (m : HLink) (off : Nat) (en : List Bool) (n : Port) (ps : List (Nat × Nat)), s.reachable m = true ∧ s.memOn m = true ∧ s.winCheck m off en.length false = .ok n ∧ (s.port n).waitRd = [] ∧ ps = readSplit (2 ^ s.fld (Reg.AL_STAT n) F.AL_STAT_BUSW) (off % 0x10000000) (swapX (s.fld (Reg.AL_WIN_CTRL n) F.AL_WIN_CTRL_SWAP)) en ∧ ps ≠ [] ∧ (s.port n).tags.length + ps.length ≤ 128) ∧
    (∃ (s : State) (m : HLink) (off : Nat) (en : List Bool) (n : Port), s.reachable m = true ∧ s.memOn m = true ∧ s.winCheck m off en.length false = .ok n ∧ readSplit (2 ^ s.fld (Reg.AL_STAT n) F.AL_STAT_BUSW) (off % 0x10000000) (swapX (s.fld (Reg.AL_WIN_CTRL n) F.AL_WIN_CTRL_SWAP)) en = []) ∧
    (∃ (s : State) (m : HLink) (off : Nat) (en : List Bool) (n : Port), s.reachable m = true ∧ s.memOn m = true ∧ s.winCheck m off en.length false = .ok n ∧ (s.port n).waitRd = [] ∧ (readSplit (2 ^ s.fld (Reg.AL_STAT n) F.AL_STAT_BUSW) (off % 0x10000000) (swapX (s.fld (Reg.AL_WIN_CTRL n) F.AL_WIN_CTRL_SWAP)) en).length + (s.port n).tags.length > 128 ∧ readSplit (2 ^ s.fld (Reg.AL_STAT n) F.AL_STAT_BUSW) (off % 0x10000000) (swapX (s.fld (Reg.AL_WIN_CTRL n) F.AL_WIN_CTRL_SWAP)) en ≠ []) :=
  ⟨⟨window 5 id, 0, 0x102, [some 0x11, some 0x22, some 0x33, some 0x44], 0, [(0x102, 0x11), (0x103, 0x22), (0x104, 0x33), (0x105, 0x44)], by decide +kernel⟩,
   ⟨window 5 id, 0, 0x2000, [some 1], 0, by decide +kernel⟩,
   ⟨window 5 id, 0, 0x102, [true, true, true, true], 0, [(0x102, 2), (0x104, 2)], by decide +kernel⟩,
   ⟨window 5 id, 0, 0x102, [false, false], 0, by decide +kernel⟩,
   ⟨window 5 (fun p => { p with reads := [read0 ((List.range 128).map (fun i => piece0 i none))] }), 0, 0x102, [true, true, true, true], 0, by decide +kernel⟩⟩

theorem witness_HostAccessesReachTheWindowsOrAreRejected_2 :
    (∃ (s : State) (m : HLink) (off : Nat) (en : List Bool) (n : Port), s.reachable m = true ∧ s.memOn m = true ∧ s.winCheck m off en.length false = .ur (some n) ∧ s.on (domL (n / 8)) = true) ∧
    (∃ (s : State) (m : HLink) (off : Nat) (en : List Bool) (n : Port), s.reachable m = true ∧ s.memOn m = true ∧ s.winCheck m off en.length false = .ca n ∧ s.on (domL (n / 8)) = true) ∧
    (∃ (s : State) (n : Port) (tag t0 : Nat) (r : HostRead), (s.port n).reads.find? (fun r => r.pieces.any (fun x => x.tag == tag && x.data.isNone)) = some r ∧ r.sent = some t0 ∧ t0 + htoTc r.hto ≤ s.ticks ∧ (s.port n).waitRd = []) :=
  ⟨⟨window 5 id, 0, 0x2000, [true, true, true, true], 0, by decide +kernel⟩,
   ⟨window 4 id, 0, 0x100, [true, true, true, true], 0, by decide +kernel⟩,
   ⟨setTicks (answering [read0 [piece0 4 none]] []) 98304, 0, 4, 0, read0 [piece0 4 none], by decide +kernel⟩⟩

theorem witness_LocalAnswersCompleteHostReads :
    (∃ (s : State) (n : Port) (w data : Word) (r : HostRead), (s.busTake n w 3).2 = true ∧ (s.port n).reads.find? (fun r => r.pieces.any (fun x => x.tag == wbits w 49 42 && x.data.isNone)) = some r ∧ (fillPiece (wbits w 49 42) data.toNat r.pieces).all (·.data.isSome) = true ∧ (s.port n).waitRd = []) ∧
    (∃ (s : State) (n : Port) (w data : Word) (r : HostRead), (s.busTake n w 3).2 = true ∧ (s.port n).reads.find? (fun r => r.pieces.any (fun x => x.tag == wbits w 49 42 && x.data.isNone)) = some r ∧ (fillPiece (wbits w 49 42) data.toNat r.pieces).all (·.data.isSome) = false) ∧
    (∃ (s : State) (n : Port) (w data : Word), (s.busTake n w 3).2 = true ∧ (s.port n).reads.find? (fun r => r.pieces.any (fun x => x.tag == wbits w 49 42 && x.data.isNone)) = none) ∧
    (∃ (s : State) (n : Port) (w : Word) (r : HostRead), (s.busTake n w 3).2 = true ∧ (s.port n).reads.find? (fun r => r.pieces.any (fun x => x.tag == wbits w 49 42 && x.data.isNone)) = some r ∧ (s.port n).waitRd = []) ∧
    (∃ (s : State) (n : Port) (w : Word), (s.busTake n w 3).2 = true) :=
  ⟨⟨answering [read0 [piece0 4 none]] [], 0, 0x3000110000000000, 0x1234, read0 [piece0 4 none], by decide +kernel⟩,
   ⟨answering [read0 [piece0 4 none, piece0 5 none]] [], 0, 0x3000110000000000, 0x1234, read0 [piece0 4 none, piece0 5 none], by decide +kernel⟩,
   ⟨answering [] [], 0, 0x3000110000000000, 5, by decide +kernel⟩,
   ⟨answering [read0 [piece0 4 none]] [], 0, 0x5000110400000000, read0 [piece0 4 none], by decide +kernel⟩,
   ⟨answering [] [], 0, 0x4000110000000000, by decide +kernel⟩⟩

theorem witness_LocalEndsReachHostMemory_1 :
    (∃ (s : State) (n : Port) (w addr data : Word), (s.busTake n w 1).2 = true ∧ s.mode ≠ 7 ∧ s.localCheck n addr (accWidth w) true = none) ∧
    (∃ (s : State) (n : Port) (w addr data : Word) (c : Nat), (s.busTake n w 1).2 = true ∧ s.mode ≠ 7 ∧ s.localCheck n addr (accWidth w) true = some c) ∧
    (∃ (s : State) (n : Port) (w addr : Word), (s.busTake n w 2).2 = true ∧ s.mode ≠ 7 ∧ (s.port n).retried.find? (fun e => e.tag == wbits w 49 42) = none ∧ s.localCheck n addr (accWidth w) false = none ∧ (s.port n).retried.length < 64) ∧
    (∃ (s : State) (n : Port) (w addr : Word) (c : Nat), (s.busTake n w 2).2 = true ∧ s.mode ≠ 7 ∧ (s.port n).retried.find? (fun e => e.tag == wbits w 49 42) = none ∧ s.localCheck n addr (accWidth w) false = some c) ∧
    (∃ (s : State) (n : Port) (w addr : Word), (s.busTake n w 2).2 = true ∧ s.mode ≠ 7 ∧ (s.port n).retried.find? (fun e => e.tag == wbits w 49 42) = none ∧ s.localCheck n addr (accWidth w) false = none ∧ 64 ≤ (s.port n).retried.length) :=
  ⟨⟨localEnd [], 0, 0x1000020000000000, 0x40, 0x01020304, by decide +kernel⟩,
   ⟨localEnd [], 0, 0x1000020000000000, 0x41, 0x01020304, 1, by decide +kernel⟩,
   ⟨localEnd [], 0, 0x20005e0000000000, 0x40, by decide +kernel⟩,
   ⟨localEnd [], 0, 0x20005e0000000000, 0x1040, 1, by decide +kernel⟩,
   ⟨localEnd ((List.range 64).map (fun i => { ret0 none with tag := 100 + i })), 0, 0x20005e0000000000, 0x40, by decide +kernel⟩⟩

theorem witness_LocalEndsReachHostMemory_2 :
    (∃ (s : State) (n : Port) (w addr : Word) (e : Retried), (s.busTake n w 2).2 = true ∧ s.mode ≠ 7 ∧ (s.port n).retried.find? (fun e => e.tag == wbits w 49 42) = some e ∧ e.addr = addr ∧ e.wid = accWidth w) ∧
    (∃ (s : State) (n : Port) (w addr : Word) (e : Retried), (s.busTake n w 2).2 = true ∧ s.mode ≠ 7 ∧ (s.port n).retried.find? (fun e => e.tag == wbits w 49 42) = some e ∧ (e.addr ≠ addr ∨ e.wid ≠ accWidth w)) ∧
    (∃ (s : State) (n : Port) (fetch : Nat) (data : List Byte) (e : Retried), (s.port n).retried.find? (fun e => e.fetch == fetch && e.held.isNone) = some e ∧ data.length = e.wid ∧ e.swap = 0) ∧
    (∃ (s : State) (n : Port) (fetch : Nat) (st : CplStatus) (data : List Byte), (s.port n).retried.find? (fun e => e.fetch == fetch && e.held.isNone) = none) ∧
    (∃ (s : State) (n : Port) (fetch : Nat) (data : List Byte) (e : Retried), (s.port n).retried.find? (fun e => e.fetch == fetch && e.held.isNone) = some e) :=
  ⟨⟨localEnd [ret0 (some (0, 77))], 0, 0x20005e0000000000, 0x40, ret0 (some (0, 77)), by decide +kernel⟩,
   ⟨localEnd [ret0 none], 0, 0x20005e0000000000, 0x44, ret0 none, by decide +kernel⟩,
   ⟨localEnd [ret0 none], 0, 0, [1, 2, 3, 4], ret0 none, by decide +kernel⟩,
   ⟨localEnd [ret0 none], 0, 7, .sc, [], by decide +kernel⟩,
   ⟨localEnd [ret0 none], 0, 0, [], ret0 none, by decide +kernel⟩⟩

theorem witness_LocalEndsReachHostMemory_3 :
    (∃ (s : State) (n : Port) (tag : Nat) (e : Retried), (s.port n).retried.find? (fun e => e.tag == tag && e.held.isNone) = some e) ∧
    (∃ (s : State) (n : Port) (tag : Nat) (e : Retried), (s.port n).retried.find? (fun e => e.tag == tag && e.held.isSome) = some e ∧ e.at_ + 65536 < s.ticks) :=
  ⟨⟨localEnd [ret0 none], 0, 23, ret0 none, by decide +kernel⟩,
   ⟨setTicks (localEnd [ret0 (some (0, 77))]) 65537, 0, 23, ret0 (some (0, 77)), by decide +kernel⟩⟩

theorem witness_ReferenceAndPllCommandsSetTheirBits :
    (∃ (s : State), s.flag Reg.TL_STATE F.TL_STATE_REF_PRESENT = true) ∧
    (∃ (s : State), s.flag Reg.TL_STATE F.TL_STATE_REF_PRESENT = false ∧ s.fld Reg.TL_REF_CFG F.TL_REF_CFG_REF_SEL ≤ 4 ∧ s.tk.lostAt.all (fun d => decide (d + 1966080 ≤ s.ticks)) = true) ∧
    (∃ (s : State), s.flag Reg.TL_STATE F.TL_STATE_REF_PRESENT = true ∧ s.flag Reg.TL_STATE F.TL_STATE_PLL_LOCK = false ∧ s.on 3 = true) ∧
    (∃ (s : State), s.flag Reg.TL_STATE F.TL_STATE_PLL_LOCK = true) :=
  ⟨⟨tlFlags 1 1 0, by decide +kernel⟩,
   ⟨tlFlags 0 0 0, by decide +kernel⟩,
   ⟨tlFlags 1 0 1, by decide +kernel⟩,
   ⟨tlFlags 1 1 0, by decide +kernel⟩⟩

theorem witness_PpsEdgesAndMissesAreTaken :
    (∃ (s : State) (frac : Fin 65536) (e : Nat) (ph : Int), s.timeSrc = none ∧ s.on 2 = true ∧ s.tlState ≠ 0 ∧ s.tk.setReqs.filter (fun r => r.at_ + 65536 ≤ s.ticks) = [] ∧ s.nearest ((s.now : Int) * 65536 + (((frac.val / 1024 * 1024 : Nat) : Int) - sNat 32 (s.rdW Reg.TL_PPS_TRIM).toNat)) = (e, ph) ∧ ph.natAbs ≤ s.ppsWin * 65536 ∧ tlDiff s.now (tlAdd e (-(s.ppsWin : Int))) ≤ (s.tk.since : Int)) ∧
    (∃ (s : State) (frac : Fin 65536) (e : Nat) (ph : Int), s.timeSrc = none ∧ s.on 2 = true ∧ s.tlState = 2 ∧ s.tk.setReqs.filter (fun r => r.at_ + 65536 ≤ s.ticks) = [] ∧ s.nearest ((s.now : Int) * 65536 + (((frac.val / 1024 * 1024 : Nat) : Int) - sNat 32 (s.rdW Reg.TL_PPS_TRIM).toNat)) = (e, ph) ∧ s.ppsWin * 65536 < ph.natAbs) ∧
    (∃ (s : State) (frac : Fin 65536), s.timeSrc = none ∧ s.on 2 = false) ∧
    (∃ (s : State), s.missed = true) :=
  ⟨⟨atCount (tlIn 3) 5, 0, 0, 327680, by decide +kernel⟩,
   ⟨atCount (tlIn 2) 5000, 0, 0, 327680000, by decide +kernel⟩,
   ⟨(runIn 5).wrW Reg.PW_ON 1, 0, by decide +kernel⟩,
   ⟨atCount (tlIn 2) 9, by decide +kernel⟩⟩

theorem witness_TimelineStateChangesTakeEffect_1 :
    (∃ (s : State) (new cause d : Nat), s.tk.change = some ⟨new, cause, d⟩ ∧ d < s.ticks ∧ new < 4 ∧ new ≠ 2 ∧ cause < 16 ∧ ((new = 0 ∨ s.tlState ≠ 0))) ∧
    (∃ (s : State) (new cause d : Nat), s.tk.change = some ⟨new, cause, d⟩ ∧ d < s.ticks ∧ (new = 1 ∨ new = 3) ∧ cause < 16 ∧ s.tlState = 0) ∧
    (∃ (s : State) (cause d : Nat), s.tk.change = some ⟨2, cause, d⟩ ∧ d < s.ticks ∧ cause < 16 ∧ s.tlState ≠ 0) ∧
    (∃ (s : State), s.on 2 = true ∧ s.um.armed = none ∧ s.tk.change = none) ∧
    (∃ (s : State), s.on 2 = true) :=
  ⟨⟨setTicks ((tlIn 2).updTk (fun t => { t with change := some ⟨3, 4, 0⟩ })) 1, 3, 4, 0, by decide +kernel⟩,
   ⟨setTicks ((tlIn 0).updTk (fun t => { t with change := some ⟨1, 1, 0⟩ })) 1, 1, 1, 0, by decide +kernel⟩,
   ⟨setTicks ((tlIn 1).updTk (fun t => { t with change := some ⟨2, 2, 0⟩ })) 1, 2, 0, by decide +kernel⟩,
   ⟨runIn 5, by decide +kernel⟩,
   ⟨runIn 5, by decide +kernel⟩⟩

theorem witness_TimelineStateChangesTakeEffect_2 :
    (∃ (s : State), s.flag Reg.TL_STATE F.TL_STATE_REF_PRESENT = false ∧ 50000 ≤ s.tk.absent) ∧
    (∃ (s : State) (ratio : BitVec 32), s.flag Reg.TL_STATE F.TL_STATE_REF_PRESENT = true ∧ s.tk.ratioAt.all (fun d => decide (d + secTc ≤ s.ticks)) = true) :=
  ⟨⟨(runIn 5).updTk (fun t => { t with absent := 60000 }), by decide +kernel⟩,
   ⟨tlFlags 1 0 0, 77, by decide +kernel⟩⟩

theorem witness_AlarmsFireAndWake_1 :
    (∃ (s : State) (a : Fin 4), s.on 2 = true ∧ s.tlState ≠ 0 ∧ s.alarmDue a = true ∧ s.fld (Reg.TL_ALARM_PERIOD a) F.TL_ALARM_PERIOD_PERIOD = 0) ∧
    (∃ (s : State) (a : Fin 4) (per : Nat), s.on 2 = true ∧ s.tlState ≠ 0 ∧ s.alarmDue a = true ∧ s.fld (Reg.TL_ALARM_PERIOD a) F.TL_ALARM_PERIOD_PERIOD = per ∧ per ≠ 0) ∧
    (∃ (s : State) (a : Fin 4) (c : SleepCount), s.tk.sleep = some c ∧ s.asleep = true ∧ c.has = true ∧ s.flag (Reg.TL_ALARM_CTRL a) F.TL_ALARM_CTRL_EN = true ∧ s.flag (Reg.TL_ALARM_CTRL a) F.TL_ALARM_CTRL_WAKE_EN = true ∧ tlReached ((c.count + (c.wake s.ticks s.aon).1 + (s.fld Reg.TL_WAKE_LEAD F.TL_WAKE_LEAD_LEAD + (if c.refLost then (c.wake s.ticks s.aon).2.1 else 0))) % piTl) (tlCount (s.rdW (Reg.TL_ALARM_AT a))) = true ∧ s.pw.wake = none ∧ (s.rdW Reg.PW_WAKE_EN).toNat.testBit 4 = true) ∧
    (∃ (s : State) (h : UmHdr) (p : List Byte), s.umCheck h 0x0301 p.length = none) ∧
    (∃ (s : State) (h : UmHdr) (p : List Byte), s.umCheck h 0x0300 p.length = none ∧ (leAt p 8 1 = 1 ∨ (leAt p 8 1 = 0 ∧ s.tlState ≠ 2)) ∧ tlValid (BitVec.ofNat 64 (leAt p 0 8)) = true ∧ tlCount (BitVec.ofNat 64 (leAt p 0 8)) % secTc = s.fld Reg.TL_PPS_OFFSET F.TL_PPS_OFFSET_OFFSET) :=
  ⟨⟨alarmAt 0, 0, by decide +kernel⟩,
   ⟨alarmAt 100, 0, 100, by decide +kernel⟩,
   ⟨sleeper, 0, slept, by decide +kernel⟩,
   ⟨runIn 5, hdr, [], by decide +kernel⟩,
   ⟨runIn 5, hdr, [0, 0, 0, 0, 0, 0, 0, 0, 1], by decide +kernel⟩⟩

theorem witness_AlarmsFireAndWake_2 :
    (∃ (s : State) (r : TlSetReq) (rs : List TlSetReq), s.tk.setReqs = r :: rs ∧ r.at_ + 2 * secTc ≤ s.ticks) :=
  ⟨setTicks ((runIn 5).updTk (fun t => { t with setReqs := [⟨0, 0, hdr⟩] })) 5000000000, ⟨0, 0, hdr⟩, [], by decide +kernel⟩

theorem witness_StretchEpisodesAndPortCalibration :
    (∃ (s : State) (quads : Fin 32), quads.val ≠ 0 ∧ ((∀ f c, s.tk.episode = some ⟨f, c⟩ → ∃ x, c = some x ∧ x ≤ s.core))) ∧
    (∃ (s : State) (quads : Fin 32) (first : Nat) (stop : Option Nat), quads.val ≠ 0 ∧ s.tk.episode = some ⟨first, stop⟩ ∧ ((∀ c, stop = some c → s.core < c))) ∧
    (∃ (s : State) (first : Nat), s.tk.episode = some ⟨first, none⟩ ∧ first ≤ s.core + 2) ∧
    (∃ (s : State) (g : Group) (meas : List (Nat × Nat)), s.on (domL g) = true ∧ meas.length = 8 ∧ SMap.get 0 s.calDue g ≠ 0 ∧ SMap.get 0 s.calDue g + 4095 ≤ s.ticks) :=
  ⟨⟨runIn 5, 3, by decide +kernel, (by intro f c h; have e : (runIn 5).tk.episode = none := (by decide +kernel); rw [e] at h; cases h)⟩,
   ⟨(runIn 5).updTk (fun t => { t with episode := some ⟨2, none⟩ }), 3, 2, none, by decide +kernel⟩,
   ⟨(runIn 5).updTk (fun t => { t with episode := some ⟨2, none⟩ }), 2, by decide +kernel⟩,
   ⟨setTicks ((runIn 5).setCalDue 1 1) 5000, 1, [(1024, 2048), (0, 0), (0, 0), (0, 0), (0, 0), (0, 0), (0, 0), (5, 1)], by decide +kernel⟩⟩

theorem witness_LinkResetsReachTheirLinks :
    (∃ (s : State) (p : HPort) (m : HLink), s.flag (Reg.HL_PORT_STAT p) F.HL_PORT_STAT_PERST = false ∧ m.val ∈ s.linksOf p ∧ (s.link m).cutAt ≠ some s.ticks) ∧
    (∃ (s : State) (p : HPort) (refclk : Bool) (m : HLink), s.flag (Reg.HL_PORT_STAT p) F.HL_PORT_STAT_PERST = true) ∧
    (∃ (s : State) (m : HLink) (disabled : Bool), s.reachable m = true ∧ (s.link m).cutAt ≠ some s.ticks) ∧
    (∃ (s : State) (p : HPort) (m : HLink), s.portReset p = false ∧ m.val ∈ s.linksOf p ∧ (s.link m).cutAt ≠ some s.ticks ∧ s.fld (Reg.HL_PORT_CFG p) F.HL_PORT_CFG_BIF_NEXT = s.fld (Reg.HL_PORT_STAT p) F.HL_PORT_STAT_BIF) ∧
    (∃ (s : State) (m : HLink), s.reachable m = true ∧ (s.link m).flr = none ∧ (s.link m).cutAt ≠ some s.ticks) :=
  ⟨⟨openLink id, 0, 0, by decide +kernel⟩,
   ⟨runIn 5, 0, true, 3, by decide +kernel⟩,
   ⟨openLink id, 0, true, by decide +kernel⟩,
   ⟨openLink id, 0, 0, by decide +kernel⟩,
   ⟨openLink id, 0, by decide +kernel⟩⟩

theorem witness_ConfigurationRequestsComplete_1 :
    (∃ (s : State) (m : HLink) (off : Nat) (write : Bool) (v : BitVec 32) (be : Fin 16), s.reachable m = true ∧ (s.mode ≤ 3 ∨ (s.link m).flr.isSome = true)) ∧
    (∃ (s : State) (m : HLink) (off : Nat) (v : BitVec 32) (be : Fin 16), s.reachable m = true ∧ 4 ≤ s.mode ∧ (s.link m).flr = none ∧ off < 4096) ∧
    (∃ (s : State) (m : HLink) (off : Nat) (v : BitVec 32) (be : Fin 16), s.reachable m = true ∧ 4 ≤ s.mode ∧ (s.link m).flr = none ∧ off < 4096 ∧ off % 4 = 0 ∧ cfgW1c off = 0 ∧ off ∉ [0x004, 0x044, 0x048, 0x068, 0x374, 0x388, 0x38C, 0x394]) ∧
    (∃ (s : State) (m : HLink) (v : BitVec 32) (be : Fin 16), s.reachable m = true ∧ 4 ≤ s.mode ∧ (s.link m).flr = none ∧ be.val.testBit 0 = true) ∧
    (∃ (s : State) (m : HLink) (on : Bool), s.reachable m = true) :=
  ⟨⟨(openLink id).setFld Reg.PW_MODE F.PW_MODE_MODE 3, 0, 0x10, false, 0, 15, by decide +kernel⟩,
   ⟨openLink id, 0, 0xFFF, 0, 15, by decide +kernel⟩,
   ⟨openLink id, 0, 0x10, 0xFFFFFFFF, 15, by decide +kernel⟩,
   ⟨openLink id, 0, 6, 1, by decide +kernel⟩,
   ⟨openLink id, 0, true, by decide +kernel⟩⟩

theorem witness_ConfigurationRequestsComplete_2 :
    (∃ (s : State) (m : HLink) (d3 : Bool), s.reachable m = true ∧ (s.link m).d3 ≠ d3) ∧
    (∃ (s : State) (m : HLink) (obj : List Byte), s.reachable m = true ∧ (s.link m).flr = none ∧ 4 ≤ s.mode ∧ (65536 < obj.length ∨ leAt obj 0 2 ≠ 1 ∨ 2 < leAt obj 2 1)) ∧
    (∃ (s : State) (m : HLink) (obj : List Byte), s.reachable m = true ∧ (s.link m).flr = none ∧ 4 ≤ s.mode ∧ obj.length ≤ 65536 ∧ leAt obj 0 2 = 1 ∧ (leAt obj 2 1 = 1 ∨ leAt obj 2 1 = 2)) ∧
    (∃ (s : State) (m : HLink) (obj : List Byte), s.reachable m = true ∧ (s.link m).flr = none ∧ 4 ≤ s.mode ∧ obj.length ≤ 65536 ∧ leAt obj 0 2 = 1 ∧ leAt obj 2 1 = 0 ∧ leAt obj 8 1 < 3) :=
  ⟨⟨openLink id, 0, true, by decide +kernel⟩,
   ⟨openLink id, 0, [], by decide +kernel⟩,
   ⟨openLink id, 0, [1, 0, 2], by decide +kernel⟩,
   ⟨openLink id, 0, [1, 0, 0, 0, 0, 0, 0, 0, 2], by decide +kernel⟩⟩

theorem witness_TranslationsMessagesAndErrorsOfALink_1 :
    (∃ (s : State) (m : HLink) (itag pasid : Nat) (addr : Word) (size : Nat), s.reachable m = true) ∧
    (∃ (s : State) (m : HLink) (i : Nat × List (Nat × Nat)), (s.link m).inval.find? (fun i => i.2.all (fun r => !((s.chan r.1).reads.any (fun x => x.1 == r.2)))) = some i ∧ s.inL0 m = true) ∧
    (∃ (s : State) (m : HLink) (sl : Slice) (page tr : Nat) (k : Nat × Nat × Nat), (s.link m).atsWait.find? (fun k => k.1 == sl.val && k.2.2 == page) = some k ∧ (s.link m).atsEn = true ∧ ((s.link m).ats.filter (fun e => e.sl == sl.val)).length < 16) ∧
    (∃ (s : State) (m : HLink) (sl : Slice) (page tr : Nat) (k : Nat × Nat × Nat), (s.link m).atsWait.find? (fun k => k.1 == sl.val && k.2.2 == page) = some k ∧ (s.link m).atsEn = true ∧ ((s.link m).ats.filter (fun e => e.sl == sl.val)).length = 16) ∧
    (∃ (s : State) (m : HLink) (sl : Slice) (page tr : Nat) (ok : Bool) (k : Nat × Nat × Nat), (s.link m).atsWait.find? (fun k => k.1 == sl.val && k.2.2 == page) = some k ∧ (ok = false ∨ (s.link m).atsEn = false)) :=
  ⟨⟨openLink (fun l => { l with ats := [⟨5, 0, 1, 7⟩, ⟨5, 0, 2, 8⟩] }), 0, 3, 0, 0x1000, 4096, by decide +kernel⟩,
   ⟨upLink 2 (fun l => { l with inval := [(3, [])] }), 0, (3, []), by decide +kernel⟩,
   ⟨openLink (fun l => { (l.setCfg 0x374 0x80000000) with atsWait := [(5, 0, 1)] }), 0, 5, 1, 9, (5, 0, 1), by decide +kernel⟩,
   ⟨openLink (fun l => { (l.setCfg 0x374 0x80000000) with atsWait := [(5, 0, 1)], ats := (List.range 16).map (fun i => ⟨5, 0, 2 + i, i⟩) }), 0, 5, 1, 9, (5, 0, 1), by decide +kernel⟩,
   ⟨openLink (fun l => { l with atsWait := [(5, 0, 1)] }), 0, 5, 1, 9, true, (5, 0, 1), by decide +kernel⟩⟩

theorem witness_TranslationsMessagesAndErrorsOfALink_2 :
    (∃ (s : State) (m : HLink) (off : Nat) (v : Word), s.reachable m = true ∧ s.memOn m = true ∧ (s.link m).flr = none ∧ off % 8 = 0 ∧ off < 0x8000) ∧
    (∃ (s : State) (m : HLink) (w : MsgWait), (s.link m).msgs.find? (fun w => decide (w.due ≤ s.coreNow)) = some w ∧ (s.link m).sendable w.vec = true ∧ s.inL0 m = true) ∧
    (∃ (s : State) (m : HLink) (w : MsgWait), (s.link m).msgs.find? (fun w => decide (w.due ≤ s.coreNow)) = some w ∧ (s.link m).sendable w.vec = false) ∧
    (∃ (s : State) (m : HLink), s.reachable m = true) ∧
    (∃ (s : State) (m : HLink), s.reachable m = true) :=
  ⟨⟨openLink (fun l => l.setCfg 0x004 6), 0, 0x7FF8, 0xFFFFFFFFFFFFFFFF, by decide +kernel⟩,
   ⟨upLink 2 (fun l => { ((l.setCfg 0x004 6).setCfg 0x048 0x80000011) with msgs := [⟨1, 0, true, 0⟩], msix := [(3, 0x55)] }), 0, ⟨1, 0, true, 0⟩, by decide +kernel⟩,
   ⟨upLink 2 (fun l => { l with msgs := [⟨1, 0, true, 0⟩] }), 0, ⟨1, 0, true, 0⟩, by decide +kernel⟩,
   ⟨openLink id, 0, by decide +kernel⟩,
   ⟨openLink id, 0, by decide +kernel⟩⟩

theorem witness_LinksChangeStateAndEventsAreInjected_1 :
    (∃ (s : State) (m : HLink) (width rate : Nat) (flit : Bool), s.reachable m = true ∧ s.flag (Reg.HL_LINK_STAT m) F.HL_LINK_STAT_DLUP = false ∧ s.trainable m width rate flit = true) ∧
    (∃ (s : State) (m : HLink), s.flag (Reg.HL_LINK_STAT m) F.HL_LINK_STAT_DLUP = true) ∧
    (∃ (s : State) (m : HLink) (width rate : Nat), s.flag (Reg.HL_LINK_STAT m) F.HL_LINK_STAT_DLUP = true ∧ s.trainable m width rate (s.flag (Reg.HL_LINK_STAT m) F.HL_LINK_STAT_FLIT) = true ∧ (s.fld (Reg.HL_LINK_STAT m) F.HL_LINK_STAT_RATE ≠ rate ∨ s.fld (Reg.HL_LINK_STAT m) F.HL_LINK_STAT_WIDTH ≠ width)) ∧
    (∃ (s : State) (m : HLink) (width : Nat), s.flag (Reg.HL_LINK_STAT m) F.HL_LINK_STAT_DLUP = true ∧ s.flag (Reg.HL_LINK_STAT m) F.HL_LINK_STAT_FLIT = true ∧ (s.lstate m = 2 ∨ s.lstate m = 3) ∧ widthOk width = true ∧ width < (s.link m).full ∧ width < s.fld (Reg.HL_LINK_STAT m) F.HL_LINK_STAT_WIDTH) ∧
    (∃ (s : State) (m : HLink) (width : Nat), wheelBudget (s.fld (Reg.HL_LINK_STAT m) F.HL_LINK_STAT_RATE) width < s.wheelSum m ∧ width < s.fld (Reg.HL_LINK_STAT m) F.HL_LINK_STAT_WIDTH) :=
  ⟨⟨openLink id, 0, 16, 4, true, by decide +kernel⟩,
   ⟨upLink 2 id, 0, by decide +kernel⟩,
   ⟨upLink 2 id, 0, 8, 4, by decide +kernel⟩,
   ⟨upLink 2 id, 0, 8, by decide +kernel⟩,
   ⟨(upLink 2 id).setFld (Reg.HL_LINK_STAT 0) F.HL_LINK_STAT_RATE 0, 0, 1, by decide +kernel⟩⟩

theorem witness_LinksChangeStateAndEventsAreInjected_2 :
    (∃ (s : State) (m : HLink), s.lstate m = 2 ∧ s.flag (Reg.HL_LINK_PMCFG m) F.HL_LINK_PMCFG_L1_EN = true ∧ ((s.link m).cfgW 0x070).testBit 1 = true ∧ s.l1Idle m = true ∧ (s.link m).idleAt + max 1 (s.fld (Reg.HL_LINK_IDLE m) F.HL_LINK_IDLE_TC) ≤ s.ticks ∧ s.l1Near m = true) ∧
    (∃ (s : State) (m : HLink), s.lstate m = 2 ∧ s.flag (Reg.HL_LINK_PMCFG m) F.HL_LINK_PMCFG_L1_EN = true ∧ ((s.link m).cfgW 0x070).testBit 1 = true ∧ s.l1Idle m = true ∧ (s.link m).idleAt + max 1 (s.fld (Reg.HL_LINK_IDLE m) F.HL_LINK_IDLE_TC) ≤ s.ticks ∧ s.l1Near m = false ∧ s.flag (Reg.HL_PORT_CFG (m.val / 4)) F.HL_PORT_CFG_L1SS_EN = false) ∧
    (∃ (s : State) (m : HLink), (s.lstate m = 5 ∨ s.lstate m = 6 ∨ s.lstate m = 7) ∧ (s.l1Near m = true ∨ (s.link m).txQ ≠ [] ∨ (s.link m).msgs ≠ [])) ∧
    (∃ (s : State) (m : HLink), s.lstate m = 4 ∧ (s.link m).lateQ = []) ∧
    (∃ (s : State) (m : HLink), s.reachable m = true) :=
  ⟨⟨setTicks (l1State 1023990) 100000000, 0, by decide +kernel⟩,
   ⟨setTicks (fset (l1State 1000) (Reg.HL_PORT_CFG 0) F.HL_PORT_CFG_L1SS_EN 0) 100000000, 0, by decide +kernel⟩,
   ⟨upLink 5 (fun l => { l with msgs := [⟨1, 0, true, 0⟩] }), 0, by decide +kernel⟩,
   ⟨upLink 4 (fun l => { l with txQ := [.invCpl 0 1] }), 0, by decide +kernel⟩,
   ⟨upLink 2 id, 0, by decide +kernel⟩⟩

theorem witness_LinksChangeStateAndEventsAreInjected_3 :
    (∃ (s : State) (v : BitVec 32) (i : Fin 640), v.toNat.testBit 31 = true ∧ v.toNat % 1024 = i.val ∧ s.on 3 = true ∧ s.flag (Reg.EV_ROUTE i) F.EV_ROUTE_AER_EN = false) ∧
    (∃ (s : State) (v : BitVec 32), v.toNat.testBit 31 = false) ∧
    (∃ (s : State), s.alerting = []) ∧
    (∃ (s : State), s.alerting ≠ []) ∧
    (∃ (s : State), s.flag Reg.EV_ALERT F.EV_ALERT_ALERT = true) :=
  ⟨⟨runIn 5, 0x80000000, 0, by decide +kernel⟩,
   ⟨runIn 5, 0x7FFFFFFF, by decide +kernel⟩,
   ⟨runIn 5, by decide +kernel⟩,
   ⟨fset ((runIn 5).wrW (Reg.EV_RAISED 0) 1) (Reg.EV_ROUTE 0) F.EV_ROUTE_ALERT_EN 1, by decide +kernel⟩,
   ⟨(runIn 5).setFld Reg.EV_ALERT F.EV_ALERT_ALERT 1, by decide +kernel⟩⟩

theorem witness_AccessesReachTheRegionsOfBar0_1 :
    (∃ (s : State) (m : HLink) (off len : Nat) (hits : List EccHit), s.reachable m = true ∧ s.on 3 = true ∧ (bar0Region off len = none ∨ s.memOn m = false ∨ (s.link m).flr.isSome = true)) ∧
    (∃ (s : State) (m : HLink) (off len : Nat) (data : List (Option Byte)) (hits : List EccHit), s.reachable m = true ∧ s.on 3 = true ∧ (bar0Region off data.length = none ∨ s.memOn m = false ∨ (s.link m).flr.isSome = true)) ∧
    (∃ (s : State) (m : HLink) (off len kind : Nat) (hits : List EccHit), s.reachable m = true ∧ s.on 3 = true ∧ bar0Region off len = some kind ∧ kind ≠ 0x0A ∧ kind ≠ 0x15 ∧ ((len ≠ 4 ∧ len ≠ 8) ∨ off % len ≠ 0)) ∧
    (∃ (s : State) (m : HLink) (off len kind : Nat) (data : List (Option Byte)) (hits : List EccHit), s.reachable m = true ∧ s.on 3 = true ∧ bar0Region off data.length = some kind ∧ (kind = 0x0A ∨ kind = 0x15) ∧ (512 < data.length ∨ 4096 < off % 4096 + data.length)) ∧
    (∃ (s : State) (m : HLink) (off len kind : Nat) (hits : List EccHit), s.reachable m = true ∧ s.on 3 = true ∧ s.memOn m = true ∧ (s.link m).flr = none ∧ bar0Region off len = some kind ∧ formOk kind off len = true ∧ s.mgr ≠ m.val ∧ kind ∉ [0x01, 0x03, 0x07, 0x08]) :=
  ⟨⟨memLink, 0, 0x1FFFFFC, 8, [⟨3, 0, 0, true⟩], by decide +kernel⟩,
   ⟨memLink, 0, 0xFFE, 4, [none, none, none, some 1], [⟨3, 0, 0, true⟩], by decide +kernel⟩,
   ⟨memLink, 0, 0x20000, 512, 7, [⟨3, 0, 0, true⟩], by decide +kernel⟩,
   ⟨memLink, 0, 0x1000000, 4, 0x15, List.replicate 513 none, [⟨3, 0, 0, true⟩], by decide +kernel⟩,
   ⟨otherLink, 4, 0x1000, 4, 2, [⟨3, 0, 0, true⟩], by decide +kernel⟩⟩

theorem witness_AccessesReachTheRegionsOfBar0_2 :
    (∃ (s : State) (m : HLink) (off len kind : Nat) (data : List (Option Byte)) (hits : List EccHit), s.reachable m = true ∧ s.on 3 = true ∧ s.memOn m = true ∧ (s.link m).flr = none ∧ bar0Region off data.length = some kind ∧ formOk kind off data.length = true ∧ s.mgr ≠ m.val ∧ kind ∉ [0x07, 0x08]) ∧
    (∃ (s : State) (m : HLink) (off : Nat) (hits : List EccHit), s.reachable m = true ∧ s.on 3 = true ∧ s.memOn m = true ∧ (s.link m).flr = none ∧ s.mgr = m.val ∧ (bar0Region off 4).isSome = true ∧ off % 4 = 0 ∧ regBytes off = 4) ∧
    (∃ (s : State) (m : HLink) (k : Nat) (hits : List EccHit), s.reachable m = true ∧ s.on 3 = true ∧ s.memOn m = true ∧ (s.link m).flr = none ∧ k < 4096) ∧
    (∃ (s : State) (m : HLink) (k : Nat) (hits : List EccHit), s.reachable m = true ∧ s.on 3 = true ∧ s.memOn m = true ∧ (s.link m).flr = none ∧ k < 64 ∧ (s.link m).pend = (List.range 2048).filter (fun v => (s.link m).pend.contains v)) ∧
    (∃ (s : State) (m : HLink) (k len : Nat) (v : Word) (hits : List EccHit), s.reachable m = true ∧ s.on 3 = true ∧ s.memOn m = true ∧ (s.link m).flr = none ∧ s.mgr = m.val ∧ k < 3584 ∧ hits.all (fun e => e.pail != storeHit 2) = true) :=
  ⟨⟨otherLink, 4, 0x40, 4, 1, [some 1, some 2, some 3, some 4], [⟨3, 0, 0, true⟩], by decide +kernel⟩,
   ⟨memLink, 0, 0x32000, [⟨3, 0, 0, true⟩], by decide +kernel⟩,
   ⟨otherLink, 4, 4095, [⟨3, 0, 0, true⟩], by decide +kernel⟩,
   ⟨(otherLink).updLink 4 (fun l => { l with pend := [0, 2047] }), 4, 63, [⟨3, 0, 0, true⟩], by decide +kernel⟩,
   ⟨memLink.updUm (fun u => { u with sqBad := [3583] }), 0, 3583, 0, 0x0102030405060708, [⟨3, 0, 0, true⟩], by decide +kernel⟩⟩

theorem witness_AccessesReachTheRegionsOfBar0_3 :
    (∃ (s : State) (m : HLink) (k : Nat) (hits : List EccHit), s.reachable m = true ∧ s.on 3 = true ∧ s.memOn m = true ∧ (s.link m).flr = none ∧ s.mgr = m.val ∧ k < 3584 ∧ hits.all (fun e => e.pail != storeHit 2) = true ∧ s.um.sqBad.contains k = false) ∧
    (∃ (s : State) (m : HLink) (off len : Nat) (data : List (Option Byte)) (hits : List EccHit), s.reachable m = true ∧ s.on 3 = true ∧ s.memOn m = true ∧ (s.link m).flr = none ∧ bar0Region off data.length = some 0x0A ∧ formOk 0x0A off data.length = true) :=
  ⟨⟨memLink, 0, 3583, [⟨3, 0, 0, true⟩], by decide +kernel⟩,
   ⟨memLink, 0, 0x40000, 0, List.replicate 512 (some 1), [⟨3, 0, 0, true⟩], by decide +kernel⟩⟩

theorem witness_SliceWindowsAndTheRomAreServed_1 :
    (∃ (s : State) (m : HLink) (off len : Nat) (tee : Bool), s.reachable m = true ∧ s.on 3 = true ∧ (s.memOn m = false ∨ (s.link m).flr.isSome = true ∨ (len ≠ 4 ∧ len ≠ 8) ∨ off % 0x10000 % len ≠ 0 ∨ 0xE000 ≤ off % 0x10000 ∨ 1024 ≤ off / 0x10000 ∨ s.bound (off / 0x10000) = false ∨ s.slLink (off / 0x10000) ≠ m.val ∨ (s.tdi (off / 0x10000) = 2 ∧ tee = false) ∨ s.tdi (off / 0x10000) = 1)) ∧
    (∃ (s : State) (m : HLink) (off len : Nat) (tee : Bool) (data : List (Option Byte)), s.reachable m = true ∧ s.on 3 = true ∧ (s.memOn m = false ∨ (data.length ≠ 4 ∧ data.length ≠ 8) ∨ 0xE000 ≤ off % 0x10000 ∨ 1024 ≤ off / 0x10000 ∨ s.bound (off / 0x10000) = false ∨ s.slLink (off / 0x10000) ≠ m.val)) ∧
    (∃ (s : State) (m : HLink) (sl : Slice), s.reachable m = true ∧ s.on 3 = true ∧ s.memOn m = true ∧ (s.link m).flr = none ∧ s.bound sl = true ∧ s.slLink sl = m.val ∧ s.tdi sl = 0) ∧
    (∃ (s : State) (m : HLink) (sl : Slice) (k : Nat), s.reachable m = true ∧ s.on 3 = true ∧ s.memOn m = true ∧ (s.link m).flr = none ∧ s.bound sl = true ∧ s.slLink sl = m.val ∧ s.tdi sl = 0 ∧ (k = 0xA00C ∨ k = 0xA01C)) ∧
    (∃ (s : State) (m : HLink) (sl : Slice) (k : Nat), s.reachable m = true ∧ s.on 3 = true ∧ s.memOn m = true ∧ (s.link m).flr = none ∧ s.bound sl = true ∧ s.slLink sl = m.val ∧ s.tdi sl = 0 ∧ 0xA000 ≤ k ∧ k < 0xE000 ∧ k % 4 = 0 ∧ ((0xA020 ≤ k ∧ k < 0xA100) ∨ (0xA200 ≤ k ∧ k < 0xC000) ∨ 0xC01C ≤ k ∨ k = 0xC004)) :=
  ⟨⟨memLink, 0, 0x60000, 4, false, by decide +kernel⟩,
   ⟨memLink, 0, 0x5DFFE, 0, false, [some 1], by decide +kernel⟩,
   ⟨memLink, 0, 5, by decide +kernel⟩,
   ⟨memLink, 0, 5, 0xA01C, by decide +kernel⟩,
   ⟨memLink, 0, 5, 0xDFFC, by decide +kernel⟩⟩

theorem witness_SliceWindowsAndTheRomAreServed_2 :
    (∃ (s : State) (m : HLink) (sl : Slice) (v : BitVec 32), s.reachable m = true ∧ s.on 3 = true ∧ s.memOn m = true ∧ (s.link m).flr = none ∧ s.bound sl = true ∧ s.slLink sl = m.val ∧ s.tdi sl = 0) ∧
    (∃ (s : State) (m : HLink) (sl : Slice) (k : Nat) (v : Word), s.reachable m = true ∧ s.on 3 = true ∧ s.memOn m = true ∧ (s.link m).flr = none ∧ s.bound sl = true ∧ s.slLink sl = m.val ∧ s.tdi sl = 0 ∧ k < 512) ∧
    (∃ (s : State) (m : HLink) (sl : Slice) (k : Nat) (data : List (Option Byte)), s.reachable m = true ∧ s.on 3 = true ∧ s.memOn m = true ∧ (s.link m).flr = none ∧ s.bound sl = true ∧ s.slLink sl = m.val ∧ s.tdi sl = 0 ∧ k < 512 ∧ data.length = 8) ∧
    (∃ (s : State) (m : HLink) (sl : Slice) (k : Nat), s.reachable m = true ∧ s.on 3 = true ∧ s.memOn m = true ∧ (s.link m).flr = none ∧ s.bound sl = true ∧ s.slLink sl = m.val ∧ s.tdi sl = 0 ∧ k < 1024) ∧
    (∃ (s : State) (m : HLink) (sl : Slice) (slot : Fin 256) (j : Fin 16) (c : Nat), s.reachable m = true ∧ s.on 3 = true ∧ s.memOn m = true ∧ (s.link m).flr = none ∧ s.bound sl = true ∧ s.slLink sl = m.val ∧ s.tdi sl = 0 ∧ s.slotChan sl slot = some c ∧ (findReg (Reg.DMA_SRC c + 8 * j.val)).map (fun e => e.1.bytes) = some 8) :=
  ⟨⟨memLink, 0, 5, 4096, by decide +kernel⟩,
   ⟨memLink, 0, 5, 511, 0x0102030405060708, by decide +kernel⟩,
   ⟨memLink, 0, 5, 511, List.replicate 8 none, by decide +kernel⟩,
   ⟨memLink, 0, 5, 1023, by decide +kernel⟩,
   ⟨memLink, 0, 5, 0, 0, 0, by decide +kernel⟩⟩

theorem witness_SliceWindowsAndTheRomAreServed_3 :
    (∃ (s : State) (m : HLink) (sl : Slice) (slot : Fin 256) (j : Fin 16), s.reachable m = true ∧ s.on 3 = true ∧ s.memOn m = true ∧ (s.link m).flr = none ∧ s.bound sl = true ∧ s.slLink sl = m.val ∧ s.tdi sl = 0 ∧ s.slotChan sl slot = none) ∧
    (∃ (s : State) (m : HLink) (off len : Nat), s.reachable m = true ∧ (s.memOn m = false ∨ ((s.link m).cfgW 0x030).testBit 0 = false ∨ 0x1000000 < off + len ∨ 4096 < off % 4096 + len)) ∧
    (∃ (s : State) (m : HLink) (len : Nat), s.reachable m = true ∧ s.memOn m = true ∧ (s.link m).flr = none ∧ ((s.link m).cfgW 0x030).testBit 0 = true ∧ 64 ≤ len ∧ len ≤ 4096) ∧
    (∃ (s : State) (m : HLink) (off len : Nat), s.reachable m = true ∧ s.memOn m = true ∧ (s.link m).flr = none ∧ ((s.link m).cfgW 0x030).testBit 0 = true ∧ 1 ≤ len ∧ off % 4096 + len ≤ 4096 ∧ off + len ≤ 0x1000000 ∧ 0x800000 ≤ off) :=
  ⟨⟨memLink, 0, 5, 255, 15, by decide +kernel⟩,
   ⟨memLink, 0, 0xFFFFFF, 2, by decide +kernel⟩,
   ⟨memLink, 0, 4096, by decide +kernel⟩,
   ⟨memLink, 0, 0xFFFFFF, 1, by decide +kernel⟩⟩

theorem witness_RegisterWritesAndReadsActByKind_1 :
    (∃ (s : State) (who : Master) (off : Nat) (v : Word), off ∈ [Reg.PIN_GPIO_DIR, Reg.PIN_GPIO_OUT, Reg.PIN_GPIO_OD, Reg.TL_LATE_LIMIT, Reg.PW_SUP_CFG, Reg.SEC_EVENT, Reg.RS_EVENT, Reg.EV_RAISED 3, Reg.EV_RAISED 19, Reg.AL_EVENT 5, Reg.HL_LINK_EVENT 4, Reg.TW_EVENT] ∧ s.mayAccess who = true ∧ (s.on (regDom off) = true ∨ regSaved off = true)) ∧
    (∃ (s : State) (who : Master) (off : Nat) (v : Word), s.mayAccess who = true ∧ plainRwg off = true ∧ off % 4 = 0 ∧ s.wrExcluded off (2 ^ 32 - 1) (v.toNat % 2 ^ 32) = false ∧ s.genState = 1 ∧ s.notOwner (ownerCarrier who) = false ∧ s.isTarget = false) ∧
    (∃ (s : State) (who : Master) (off : Nat) (v : Word), s.mayAccess who = true ∧ plainRwg off = true ∧ off % 4 = 0 ∧ s.wrExcluded off (2 ^ 32 - 1) (v.toNat % 2 ^ 32) = false ∧ s.genState ≠ 1) ∧
    (∃ (s : State) (who : Master) (off : Nat) (v : Word), off ∈ [Reg.TL_ALARM_AT 2, Reg.TL_ALARM_PERIOD 3, Reg.DMA_RELEASE 9, Reg.VAT_PAIL_A 7, Reg.VAT_PAIL_B 16383, Reg.CH_STR 3 200] ∧ s.mayAccess who = true) ∧
    (∃ (s : State) (who : Master) (a : Fin 4) (lo hi : Nat), s.mayAccess who = true ∧ s.heldOf who (Reg.TL_ALARM_AT a) = some ⟨who, Reg.TL_ALARM_AT a, 2 ^ 32 - 1, lo⟩ ∧ lo < 2 ^ 32 ∧ hi < 2 ^ 32 ∧ tlValid (BitVec.ofNat 64 (hi * 2 ^ 32 + lo)) = true) :=
  ⟨⟨runIn 5, .link 0, Reg.EV_RAISED 19, 0xFFFFFFFFFFFFFFFF, by decide +kernel⟩,
   ⟨openGen, .link 0, Reg.EV_ROUTE 3, 0xFFFFFFFF, by decide +kernel⟩,
   ⟨runIn 5, .link 0, Reg.EV_ROUTE 3, 0xFFFFFFFF, by decide +kernel⟩,
   ⟨runIn 5, .link 0, Reg.CH_STR 3 200, 1, by decide +kernel⟩,
   ⟨(runIn 5).setHeldWr [⟨.link 0, Reg.TL_ALARM_AT 3, 2 ^ 32 - 1, 5⟩], .link 0, 3, 5, 0, by decide +kernel⟩⟩

theorem witness_RegisterWritesAndReadsActByKind_2 :
    (∃ (s : State) (m : HLink) (off : Nat) (wide : Bool) (v : Word), (m.val ≠ s.mgr ∨ s.on 3 = false)) ∧
    (∃ (s : State) (m : HLink) (off : Nat), m.val = s.mgr ∧ s.on 3 = true ∧ off % 4 = 0 ∧ regBytes off = 4) ∧
    (∃ (s : State) (m : HLink), m.val = s.mgr ∧ s.on 3 = true) ∧
    (∃ (s : State) (m : HLink) (l : Latch), m.val = s.mgr ∧ s.on 3 = true ∧ s.latches.find? (fun x => x.who == .link m && x.key == Reg.TL_NOW) = some l ∧ l.first = 1) ∧
    (∃ (s : State) (v : BitVec 32), s.on 3 = true ∧ v.toNat % 8 = 0 ∧ v.toNat ≤ 28664) :=
  ⟨⟨runIn 5, 31, 0, true, 1, by decide +kernel⟩,
   ⟨runIn 5, 0, Reg.EV_CNT 639, by decide +kernel⟩,
   ⟨runIn 5, 0, by decide +kernel⟩,
   ⟨(runIn 5).setLatches [⟨.link 0, Reg.TL_NOW, [7], 1⟩], 0, ⟨.link 0, Reg.TL_NOW, [7], 1⟩, by decide +kernel⟩,
   ⟨runIn 5, 28664, by decide +kernel⟩⟩

theorem witness_RegisterWritesAndReadsActByKind_3 :
    (∃ (s : State) (v : BitVec 32), s.on 3 = true ∧ (v.toNat % 8 ≠ 0 ∨ 28664 < v.toNat)) ∧
    (∃ (s : State) (v : BitVec 32), s.on 3 = true ∧ v.toNat % 8 = 0 ∧ v.toNat ≤ 28664) ∧
    (∃ (s : State), s.on 3 = true) :=
  ⟨⟨runIn 5, 28665, by decide +kernel⟩,
   ⟨runIn 5, 28664, by decide +kernel⟩,
   ⟨openGen, by decide +kernel⟩⟩

theorem witness_SlicesAreBoundFencedKilledAndMailed_1 :
    (∃ (s : State) (sl : Slice) (v : BitVec 32), s.bound sl = true ∧ (s.link (s.slLink sl)).cutAt ≠ some s.ticks ∧ (s.slice sl).tookAt ≠ some s.ticks ∧ s.mb sl F.SL_MBOX_STAT_IN_FULL = 0 ∧ v.toNat % 2 ^ 13 ≠ 0 ∧ v.toNat % 2 ^ 13 ≤ 4096) ∧
    (∃ (s : State) (sl : Slice) (v : BitVec 32), s.bound sl = true ∧ (s.link (s.slLink sl)).cutAt ≠ some s.ticks ∧ (s.mb sl F.SL_MBOX_STAT_IN_FULL ≠ 0 ∨ (s.slice sl).tookAt = some s.ticks)) ∧
    (∃ (s : State) (sl : Slice) (v : BitVec 32), (s.link (s.slLink sl)).cutAt = some s.ticks) ∧
    (∃ (s : State) (sl : Slice) (v : BitVec 32), s.mb sl F.SL_MBOX_STAT_IN_FULL = 0 ∧ (s.slice sl).tookAt ≠ some s.ticks ∧ (v.toNat % 2 ^ 13 = 0 ∨ 4096 < v.toNat % 2 ^ 13)) ∧
    (∃ (s : State) (sl : Slice), s.bound sl = true) :=
  ⟨⟨memLink, 5, 4096, by decide +kernel⟩,
   ⟨memLink.setMb 5 F.SL_MBOX_STAT_IN_FULL 1, 5, 1, by decide +kernel⟩,
   ⟨memLink.updLink 0 (fun l => { l with cutAt := some 0 }), 5, 7, by decide +kernel⟩,
   ⟨memLink, 5, 4097, by decide +kernel⟩,
   ⟨memLink, 5, by decide +kernel⟩⟩

theorem witness_SlicesAreBoundFencedKilledAndMailed_2 :
    (∃ (s : State) (sl : Slice), s.rebinds sl = false) ∧
    (∃ (s : State) (sl : Slice), s.rebinds sl = true) ∧
    (∃ (s : State) (sl : Slice), s.fenced sl = true) ∧
    (∃ (s : State) (sl : Slice), s.fenced sl = false) ∧
    (∃ (s : State) (h : UmHdr) (p : List Byte), s.umCheck h 0x0600 p.length = none ∧ leAt p 0 1 < 32 ∧ leAt p 4 4 < 2 ^ 20 ∧ s.genState = 1 ∧ s.notOwner h.carrier = false ∧ s.bindTaken h.slice (leAt p 0 1) (leAt p 4 4) = false ∧ h.slice < 1024) :=
  ⟨⟨memLink, 5, by decide +kernel⟩,
   ⟨(((memLink.setFld (Reg.SL_CTRL 5) F.SL_CTRL_FENCE 1).copyActive).wrS (Reg.SL_BIND 5) 0).setFld Reg.UM_GEN_STAT F.UM_GEN_STAT_STATE 2, 5, by decide +kernel⟩,
   ⟨memLink.setFld (Reg.SL_CTRL 5) F.SL_CTRL_FENCE 1, 5, by decide +kernel⟩,
   ⟨memLink, 5, by decide +kernel⟩,
   ⟨openGen, hdrS, [31, 0, 0, 0, 0xFF, 0xFF, 0xF, 0], by decide +kernel⟩⟩

theorem witness_SlicesAreBoundFencedKilledAndMailed_3 :
    (∃ (s : State) (h : UmHdr) (p : List Byte), s.umCheck h 0x0600 p.length = none ∧ leAt p 0 1 < 32 ∧ leAt p 4 4 < 2 ^ 20 ∧ s.genState = 1 ∧ s.notOwner h.carrier = false ∧ s.bindTaken h.slice (leAt p 0 1) (leAt p 4 4) = true) ∧
    (∃ (s : State) (h : UmHdr) (p : List Byte), s.umCheck h 0x0601 p.length = none ∧ s.bound h.slice = true ∧ s.genState = 1 ∧ s.notOwner h.carrier = false ∧ h.slice < 1024) ∧
    (∃ (s : State) (h : UmHdr) (p : List Byte), s.umCheck h 0x0602 p.length = none ∧ s.bound h.slice = true ∧ s.tdiLocked h.slice = false ∧ leAt p 0 1 = 1 ∧ h.slice < 1024) ∧
    (∃ (s : State) (h : UmHdr) (p : List Byte), s.umCheck h 0x0603 p.length = none ∧ s.bound h.slice = true ∧ s.tdiLocked h.slice = false ∧ h.slice < 1024) ∧
    (∃ (s : State) (h : UmHdr) (p : List Byte), s.umCheck h 0x0604 p.length = none ∧ s.bound h.slice = true ∧ s.mb h.slice F.SL_MBOX_STAT_IN_FULL ≠ 0 ∧ (s.mboxCfg h.slice).testBit 30 = false) :=
  ⟨⟨openGen.wrS (Reg.SL_BIND 6) 0x80000000, hdrS, [0, 0, 0, 0, 0, 0, 0, 0], by decide +kernel⟩,
   ⟨memLink.copyActive.setFld Reg.UM_GEN_STAT F.UM_GEN_STAT_STATE 1, hdrS, [], by decide +kernel⟩,
   ⟨memLink, hdrS, [1], by decide +kernel⟩,
   ⟨memLink, hdrS, [], by decide +kernel⟩,
   ⟨((memLink.setMb 5 F.SL_MBOX_STAT_IN_FULL 1).setMb 5 F.SL_MBOX_STAT_IN_LEN 4096), hdrS, [], by decide +kernel⟩⟩

theorem witness_SlicesAreBoundFencedKilledAndMailed_4 :
    (∃ (s : State) (h : UmHdr) (p : List Byte), s.umCheck h 0x0604 p.length = none ∧ s.bound h.slice = true ∧ s.mb h.slice F.SL_MBOX_STAT_IN_FULL = 0) ∧
    (∃ (s : State) (h : UmHdr) (p : List Byte), s.umCheck h 0x0605 p.length = none ∧ s.bound h.slice = true ∧ s.mb h.slice F.SL_MBOX_STAT_OUT_FULL = 0 ∧ (s.mboxCfg h.slice).testBit 31 = false) ∧
    (∃ (s : State) (h : UmHdr) (p : List Byte), s.umCheck h 0x0605 p.length = none ∧ s.bound h.slice = true ∧ s.mb h.slice F.SL_MBOX_STAT_OUT_FULL ≠ 0) ∧
    (∃ (s : State) (h : UmHdr) (p : List Byte), s.umCheck h 0x0606 p.length = none ∧ s.bound h.slice = true) ∧
    (∃ (s : State) (h : UmHdr) (p : List Byte) (e : Instr × Nat), e ∈ [(.sliceUnbind h p, 0x0601), (.sliceFence h p, 0x0602), (.sliceKill h p, 0x0603), (.mboxGet h p, 0x0604), (.mboxPut h p, 0x0605), (.sliceStatus h p, 0x0606)] ∧ s.umCheck h e.2 p.length = none ∧ s.bound h.slice = false) :=
  ⟨⟨memLink, hdrS, [], by decide +kernel⟩,
   ⟨memLink, hdrS, [7], by decide +kernel⟩,
   ⟨memLink.setMb 5 F.SL_MBOX_STAT_OUT_FULL 1, hdrS, [7], by decide +kernel⟩,
   ⟨memLink, hdrS, [], by decide +kernel⟩,
   ⟨runIn 5, hdrS, [1], (.sliceFence hdrS [1], 0x0602), by decide +kernel⟩⟩

theorem witness_SlicesAreBoundFencedKilledAndMailed_5 :
    (∃ (s : State) (h : UmHdr) (p : List Byte) (e : Instr × Nat), e ∈ [(.sliceFence h p, 0x0602), (.sliceKill h p, 0x0603)] ∧ s.umCheck h e.2 p.length = none ∧ s.bound h.slice = true ∧ s.tdiLocked h.slice = true ∧ leAt p 0 1 ≤ 1) :=
  ⟨memLink.setTdi 5 1, hdrS, [], (.sliceKill hdrS [], 0x0603), by decide +kernel⟩

theorem witness_PacketsAreCheckedExecutedAndAnswered_1 :
    (∃ (s : State) (v : Bool) (hits : List EccHit), (s.um.halted = true ∨ s.umBusy = true ∨ s.replyDue = true ∨ s.on 3 = false ∨ (s.ringPacket = none ∧ s.um.side = []))) ∧
    (∃ (s : State) (v : Bool) (n : Nat) (hits : List EccHit), s.um.halted = false ∧ hits.all (fun e => e.pail != storeHit 2) = true ∧ s.umBusy = false ∧ s.replyDue = false ∧ s.on 3 = true ∧ s.ringPacket = some n ∧ (s.um.side = [] ∨ s.um.last = .sideband) ∧ s.um.void = [] ∧ headerBad (s.sqBytes (s.fld Reg.UM_SQ_HEAD F.UM_SQ_HEAD_PTR) 32) = true ∧ s.um.sqBad = [] ∧ s.fld Reg.UM_SQ_HEAD F.UM_SQ_HEAD_PTR < 28672 ∧ s.fld Reg.UM_SQ_TAIL F.UM_SQ_TAIL_PTR < 28672) ∧
    (∃ (s : State) (v : Bool) (n : Nat) (raw ps : List Byte) (h : UmHdr) (hits : List EccHit), s.um.halted = false ∧ hits.all (fun e => e.pail != storeHit 2) = true ∧ s.umBusy = false ∧ s.replyDue = false ∧ s.on 3 = true ∧ s.ringPacket = some n ∧ (s.um.side = [] ∨ s.um.last = .sideband) ∧ s.um.sqBad = [] ∧ raw = s.sqBytes (s.fld Reg.UM_SQ_HEAD F.UM_SQ_HEAD_PTR) 32 ∧ headerBad raw = false ∧ ps = s.sqBytes (s.fld Reg.UM_SQ_HEAD F.UM_SQ_HEAD_PTR + 32) (leAt raw 10 2) ∧ h = packetHdr .ring 0 0 raw ∧ crcBad raw ps = true ∧ s.um.void = []) ∧
    (∃ (s : State) (v : Bool) (n : Nat) (raw ps : List Byte) (h : UmHdr) (c : Instr) (hits : List EccHit), s.um.halted = false ∧ hits.all (fun e => e.pail != storeHit 2) = true ∧ s.umBusy = false ∧ s.replyDue = false ∧ s.on 3 = true ∧ s.ringPacket = some n ∧ (s.um.side = [] ∨ s.um.last = .sideband) ∧ s.um.sqBad = [] ∧ raw = s.sqBytes (s.fld Reg.UM_SQ_HEAD F.UM_SQ_HEAD_PTR) 32 ∧ headerBad raw = false ∧ ps = s.sqBytes (s.fld Reg.UM_SQ_HEAD F.UM_SQ_HEAD_PTR + 32) (leAt raw 10 2) ∧ h = packetHdr .ring 0 0 raw ∧ crcBad raw ps = false ∧ opCommand (leAt raw 0 2) h ps v hits = some c) ∧
    (∃ (s : State) (v : Bool) (n : Nat) (raw ps : List Byte) (h : UmHdr) (hits : List EccHit), s.um.halted = false ∧ hits.all (fun e => e.pail != storeHit 2) = true ∧ s.umBusy = false ∧ s.replyDue = false ∧ s.on 3 = true ∧ s.ringPacket = some n ∧ (s.um.side = [] ∨ s.um.last = .sideband) ∧ s.um.sqBad = [] ∧ raw = s.sqBytes (s.fld Reg.UM_SQ_HEAD F.UM_SQ_HEAD_PTR) 32 ∧ headerBad raw = false ∧ ps = s.sqBytes (s.fld Reg.UM_SQ_HEAD F.UM_SQ_HEAD_PTR + 32) (leAt raw 10 2) ∧ h = packetHdr .ring 0 0 raw ∧ crcBad raw ps = false ∧ opCommand (leAt raw 0 2) h ps v hits = none) :=
  ⟨⟨runIn 5, false, [], by decide +kernel⟩,
   ⟨submit (List.replicate 32 0), false, 32, [], by decide +kernel⟩,
   ⟨submit (badCrc 0x0101), false, 32, badCrc 0x0101, [], packetHdr .ring 0 0 (badCrc 0x0101), [], by decide +kernel⟩,
   ⟨submit (packet 0x0101 [7]), false, 40, (packet 0x0101 [7]).take 32, [7], packetHdr .ring 0 0 (packet 0x0101 [7]), .ping (packetHdr .ring 0 0 (packet 0x0101 [7])) [7], [], by decide +kernel⟩,
   ⟨submit (packet 0x0D00 []), false, 32, packet 0x0D00 [], [], packetHdr .ring 0 0 (packet 0x0D00 []), [], by decide +kernel⟩⟩

theorem witness_PacketsAreCheckedExecutedAndAnswered_2 :
    (∃ (s : State) (v : Bool) (n : Nat) (raw : List Byte) (hits : List EccHit), s.um.halted = false ∧ hits.all (fun e => e.pail != storeHit 2) = true ∧ s.umBusy = false ∧ s.replyDue = false ∧ s.on 3 = true ∧ s.ringPacket = some n ∧ (s.um.side = [] ∨ s.um.last = .sideband) ∧ raw = s.sqBytes (s.fld Reg.UM_SQ_HEAD F.UM_SQ_HEAD_PTR) 32 ∧ s.sqPoison (s.fld Reg.UM_SQ_HEAD F.UM_SQ_HEAD_PTR) 32 = true ∧ 32 ≤ n ∧ s.um.void = []) ∧
    (∃ (s : State) (v : Bool) (hits : List EccHit), s.um.halted = false ∧ s.umBusy = false ∧ s.replyDue = false ∧ s.on 3 = true ∧ hits.any (fun e => e.pail == storeHit 2 && e.unc && decide (3584 ≤ e.word)) = true) ∧
    (∃ (s : State) (v : Bool) (c : SideCmd) (cs : List SideCmd) (h : UmHdr) (ps : List Byte) (i : Instr) (hits : List EccHit), s.um.halted = false ∧ hits.all (fun e => e.pail != storeHit 2) = true ∧ s.umBusy = false ∧ s.replyDue = false ∧ s.on 3 = true ∧ s.um.side = c :: cs ∧ (s.ringPacket = none ∨ s.um.last = .ring) ∧ headerBad (bytesAt c.bytes 0 32) = false ∧ ps = (c.bytes.drop 32).take (leAt (bytesAt c.bytes 0 32) 10 2) ∧ crcBad (bytesAt c.bytes 0 32) ps = false ∧ h = packetHdr .sideband c.eid c.tag (bytesAt c.bytes 0 32) ∧ opCommand (leAt c.bytes 0 2) h ps v hits = some i) ∧
    (∃ (s : State) (h : UmHdr) (p : List Byte) (op st : Nat) (v : Bool) (hits : List EccHit) (c : Instr), opCommand op h p v hits = some c ∧ op ≠ 0x0204 ∧ s.umCheck h op p.length = some st ∧ st ≠ stRoleRefused) ∧
    (∃ (s : State) (r : Reply), s.um.due.find? (fun r => r.hdr.carrier == .ring) = some r ∧ s.um.halted = false ∧ s.on 3 = true ∧ s.ringOpen = true ∧ (s.fld Reg.UM_RQ_TAIL F.UM_RQ_TAIL_PTR + 28672 - s.fld Reg.UM_RQ_HEAD F.UM_RQ_HEAD_PTR) % 28672 + (s.replyBytes r).length ≤ 28664 ∧ s.fld Reg.UM_RQ_TAIL F.UM_RQ_TAIL_PTR < 28672 ∧ s.fld Reg.UM_RQ_HEAD F.UM_RQ_HEAD_PTR < 28672 ∧ r.op ≠ 0x0C00) :=
  ⟨⟨(submit (packet 0x0101 [])).updUm (fun u => { u with sqBad := [0, 1, 2, 3] }), false, 32, List.replicate 32 0, [], by decide +kernel⟩,
   ⟨submit (packet 0x0101 []), false, [⟨storeHit 2, 3584, 0, true⟩], by decide +kernel⟩,
   ⟨(runIn 5).updUm (fun u => { u with side := [⟨8, 1, packet 0x0101 []⟩] }), false, ⟨8, 1, packet 0x0101 []⟩, [], packetHdr .sideband 8 1 (packet 0x0101 []), [], .ping (packetHdr .sideband 8 1 (packet 0x0101 [])) [], [], by decide +kernel⟩,
   ⟨runIn 2, hdrR, [], 0x0101, stNotReady, false, [], .ping hdrR [], by decide +kernel⟩,
   ⟨ponging .ring, pong .ring, by decide +kernel⟩⟩

theorem witness_PacketsAreCheckedExecutedAndAnswered_3 :
    (∃ (s : State) (r : Reply), s.um.due.find? (fun r => r.hdr.carrier == .ring) = some r ∧ s.um.halted = false ∧ s.on 3 = true ∧ s.ringOpen = true ∧ 28664 < (s.fld Reg.UM_RQ_TAIL F.UM_RQ_TAIL_PTR + 28672 - s.fld Reg.UM_RQ_HEAD F.UM_RQ_HEAD_PTR) % 28672 + (s.replyBytes r).length ∧ s.flag Reg.UM_STAT F.UM_STAT_RING_FULL = false) ∧
    (∃ (s : State) (r : Reply), s.um.due.find? (fun r => r.hdr.carrier == .sideband) = some r ∧ s.um.halted = false ∧ s.on 3 = true ∧ r.later = false ∧ r.op ≠ 0x0C00) ∧
    (∃ (s : State) (c : Carrier), (s.um.due.find? (fun r => r.hdr.carrier == c) = none ∨ s.on 3 = false ∨ s.um.halted = true ∨ (c = .ring ∧ s.ringOpen = false))) ∧
    (∃ (s : State) (h : UmHdr) (p : List Byte), s.umCheck h 0x0C01 p.length = none ∧ h.carrier = .ring ∧ leAt p 0 1 = 0) ∧
    (∃ (s : State) (h : UmHdr) (p : List Byte), s.umCheck h 0x0C01 p.length = none ∧ h.carrier = .sideband ∧ leAt p 0 1 = 1) :=
  ⟨⟨(ponging .ring).setFld Reg.UM_RQ_HEAD F.UM_RQ_HEAD_PTR 8, pong .ring, by decide +kernel⟩,
   ⟨ponging .sideband, pong .sideband, by decide +kernel⟩,
   ⟨runIn 5, .ring, by decide +kernel⟩,
   ⟨submit [], hdrR, [0], by decide +kernel⟩,
   ⟨runIn 5, hdr, [1], by decide +kernel⟩⟩

theorem witness_PacketsAreCheckedExecutedAndAnswered_4 :
    (∃ (s : State) (h : UmHdr) (p : List Byte), s.umCheck h 0x0C01 p.length = none ∧ h.carrier = .sideband ∧ leAt p 0 1 = 0 ∧ s.on 3 = true) ∧
    (∃ (s : State) (h : UmHdr) (p : List Byte), s.umCheck h 0x0C01 p.length = none ∧ h.carrier = .ring ∧ leAt p 0 1 = 1) :=
  ⟨⟨runIn 5, hdr, [0], by decide +kernel⟩,
   ⟨runIn 5, hdrR, [1], by decide +kernel⟩⟩

theorem witness_SidebandMessagesAreHeldOrAnswered_1 :
    (∃ (s : State) (eid tag : Nat) (bs : List Byte), s.sbOpen = true ∧ s.um.side.length < 4) ∧
    (∃ (s : State) (eid tag : Nat) (bs : List Byte), s.sbOpen = true ∧ 4 ≤ s.um.side.length ∧ s.um.void = []) ∧
    (∃ (s : State) (eid tag : Nat) (bs : List Byte), (s.on 3 = false ∨ s.mode = 0xA ∨ s.mode = 0xB ∨ s.pw.sleep.isSome = true) ∧ s.dozing = true ∧ (s.rdW Reg.PW_WAKE_EN).toNat.testBit 1 = true ∧ s.pw.wake = none) ∧
    (∃ (s : State) (eid tag inst e : Nat) (p : List Byte), s.sbOpen = true ∧ p.length = 2 ∧ leAt p 0 1 % 4 ≤ 1 ∧ e = leAt p 1 1 ∧ 8 ≤ e ∧ e < 255) ∧
    (∃ (s : State) (eid tag inst : Nat) (p : List Byte), s.sbOpen = true ∧ p.length = 2 ∧ leAt p 1 1 < 8) :=
  ⟨⟨(runIn 3).updUm (fun u => { u with side := List.replicate 3 ⟨8, 1, []⟩ }), 8, 1, [], by decide +kernel⟩,
   ⟨(runIn 3).updUm (fun u => { u with side := List.replicate 4 ⟨8, 1, []⟩ }), 8, 1, [], by decide +kernel⟩,
   ⟨((runIn 0xA).wrW Reg.PW_WAKE_EN 2), 8, 1, [], by decide +kernel⟩,
   ⟨runIn 3, 8, 1, 0, 254, [1, 254], by decide +kernel⟩,
   ⟨runIn 3, 8, 1, 0, [0, 7], by decide +kernel⟩⟩

theorem witness_SidebandMessagesAreHeldOrAnswered_2 :
    (∃ (s : State) (eid tag inst : Nat), s.sbOpen = true) ∧
    (∃ (s : State) (eid tag inst ty : Nat), s.sbOpen = true ∧ ty ∈ [0, 1, 5, 6, 0x7E, 0xFF]) ∧
    (∃ (s : State) (eid tag inst ty : Nat), s.sbOpen = true ∧ ty < 256 ∧ ty ∉ [0, 1, 5, 6, 0x7E, 0xFF]) ∧
    (∃ (s : State) (eid tag inst : Nat), s.sbOpen = true) ∧
    (∃ (s : State) (eid tag inst : Nat), s.sbOpen = true) :=
  ⟨⟨runIn 3, 8, 1, 0, by decide +kernel⟩,
   ⟨runIn 3, 8, 1, 0, 0x7E, by decide +kernel⟩,
   ⟨runIn 3, 8, 1, 0, 2, by decide +kernel⟩,
   ⟨runIn 3, 8, 1, 0, by decide +kernel⟩,
   ⟨runIn 3, 8, 1, 0, by decide +kernel⟩⟩

theorem witness_SidebandMessagesAreHeldOrAnswered_3 :
    (∃ (s : State) (eid tag inst : Nat) (e : Instr × Nat) (p : List Byte), s.sbOpen = true ∧ 3 ≤ p.length ∧ e ∈ [(.setEndpointId eid tag inst p, 1), (.getEndpointId eid tag inst p, 2), (.getMctpVersionSupport eid tag inst p, 4), (.getMessageTypeSupport eid tag inst p, 5), (.getVendorDefinedMessageSupport eid tag inst p, 6)]) :=
  ⟨runIn 3, 8, 1, 0, (.getEndpointId 8 1 0 [0, 0, 0], 2), [0, 0, 0], by decide +kernel⟩

theorem witness_CommandsOfRegistersQueriesAndPolicyAnswer_1 :
    (∃ (s : State) (h : UmHdr) (p : List Byte), s.umCheck h 0x0100 p.length = none) ∧
    (∃ (s : State) (h : UmHdr) (p : List Byte), s.umCheck h 0x0101 p.length = none) ∧
    (∃ (s : State) (h : UmHdr) (p : List Byte), s.umCheck h 0x0102 p.length = none ∧ 1 ≤ leAt p 4 2 ∧ leAt p 4 2 ≤ 4096 ∧ leAt p 0 4 + leAt p 4 2 ≤ 0x800000) ∧
    (∃ (s : State) (h : UmHdr) (p : List Byte), s.umCheck h 0x0102 p.length = none ∧ (leAt p 4 2 = 0 ∨ 4096 < leAt p 4 2 ∨ 0x800000 < leAt p 0 4 + leAt p 4 2)) ∧
    (∃ (s : State) (h : UmHdr) (p : List Byte), s.umCheck h 0x0103 p.length = none ∧ leAt p 0 1 < 32 ∧ s.linkPresent (leAt p 0 1) = true) :=
  ⟨⟨runIn 3, ⟨.sideband, 1, 0, 0, 0xFFFF, 0, 0⟩, [], by decide +kernel⟩,
   ⟨runIn 5, hdrR, [1, 2], by decide +kernel⟩,
   ⟨runIn 5, hdrR, [0xFF, 0xFF, 0x7F, 0, 1, 0], by decide +kernel⟩,
   ⟨runIn 5, hdrR, [0, 0, 0, 0, 0, 0], by decide +kernel⟩,
   ⟨runIn 5, hdrR, [28], by decide +kernel⟩⟩

theorem witness_CommandsOfRegistersQueriesAndPolicyAnswer_2 :
    (∃ (s : State) (h : UmHdr) (p : List Byte), s.umCheck h 0x0103 p.length = none ∧ (32 ≤ leAt p 0 1 ∨ s.linkPresent (leAt p 0 1) = false)) ∧
    (∃ (s : State) (h : UmHdr) (p : List Byte) (off : Nat) (v : BitVec 32) (hits : List EccHit), s.umCheck h 0x0202 p.length = none ∧ p = leBytes 4 off ++ [4, 0, 0, 0] ++ leBytes 4 v.toNat ∧ s.notOwner h.carrier = false ∧ regBytes off = 4 ∧ s.on 3 = true ∧ off < 2 ^ 32 ∧ (bar0Region off 4).isSome = true ∧ off % 4 = 0 ∧ off ≠ Reg.UM_CTRL ∧ s.busExcluded (.um h.carrier) off false v.toNat = false) ∧
    (∃ (s : State) (h : UmHdr) (p : List Byte) (off : Nat) (hits : List EccHit), s.umCheck h 0x0202 p.length = none ∧ p = leBytes 4 off ++ [4, 0, 0, 0, 0, 0, 0, 0] ∧ s.notOwner h.carrier = true ∧ regBytes off = 4 ∧ rwgMask off ≠ 0 ∧ off < 2 ^ 32 ∧ (bar0Region off 4).isSome = true ∧ off % 4 = 0) ∧
    (∃ (s : State) (h : UmHdr) (p : List Byte) (hits : List EccHit), s.umCheck h 0x0202 p.length = none ∧ leAt p 4 1 ≠ 4 ∧ leAt p 4 1 ≠ 8) ∧
    (∃ (s : State) (h : UmHdr) (p : List Byte) (off : Nat) (hits : List EccHit), s.umCheck h 0x0203 p.length = none ∧ p = leBytes 4 off ++ [4, 0, 1, 0] ∧ regBytes off = 4 ∧ off < 2 ^ 32 ∧ (bar0Region off 4).isSome = true ∧ off % 4 = 0) :=
  ⟨⟨runIn 5, hdrR, [1], by decide +kernel⟩,
   ⟨openGen, hdrR, leBytes 4 (Reg.EV_ROUTE 3) ++ [4, 0, 0, 0] ++ leBytes 4 0xFFFFFFFF, Reg.EV_ROUTE 3, 0xFFFFFFFF, [⟨3, 0, 0, true⟩], by decide +kernel⟩,
   ⟨openGen, hdr, leBytes 4 (Reg.EV_ROUTE 3) ++ [4, 0, 0, 0, 0, 0, 0, 0], Reg.EV_ROUTE 3, [⟨3, 0, 0, true⟩], by decide +kernel⟩,
   ⟨openGen, hdrR, List.replicate 8 0, [⟨3, 0, 0, true⟩], by decide +kernel⟩,
   ⟨runIn 5, hdrR, leBytes 4 (Reg.EV_CNT 3) ++ [4, 0, 1, 0], Reg.EV_CNT 3, [⟨3, 0, 0, true⟩], by decide +kernel⟩⟩

theorem witness_CommandsOfRegistersQueriesAndPolicyAnswer_3 :
    (∃ (s : State) (h : UmHdr) (p : List Byte) (off : Nat) (hits : List EccHit), s.umCheck h 0x0203 p.length = none ∧ p = leBytes 4 off ++ [4, 1, 1, 0] ∧ plainRwg off = true ∧ off < 2 ^ 32 ∧ (bar0Region off 4).isSome = true ∧ off % 4 = 0 ∧ s.genState ≠ 0) ∧
    (∃ (s : State) (h : UmHdr) (p : List Byte), s.umCheck h 0x0206 p.length = none) ∧
    (∃ (s : State) (h : UmHdr) (p : List Byte), s.umCheck h 0x0207 p.length = none ∧ leAt p 0 1 = 1 ∧ 1 ≤ leAt p 8 2 ∧ leAt p 8 2 ≤ 4096 ∧ leAt p 4 4 = 0 ∧ s.genState = 0) ∧
    (∃ (s : State) (h : UmHdr) (p : List Byte), s.umCheck h 0x0207 p.length = none ∧ (1 < leAt p 0 1 ∨ leAt p 8 2 = 0)) ∧
    (∃ (s : State) (h : UmHdr) (p : List Byte), s.umCheck h 0x0207 p.length = none ∧ leAt p 0 1 = 0 ∧ 1 ≤ leAt p 8 2 ∧ leAt p 8 2 ≤ 576 ∧ leAt p 4 4 = 0) :=
  ⟨⟨openGen, hdrR, leBytes 4 (Reg.DMA_WHEEL_E 0 0) ++ [4, 1, 1, 0], Reg.DMA_WHEEL_E 0 0, [⟨3, 0, 0, true⟩], by decide +kernel⟩,
   ⟨runIn 5, hdrR, [], by decide +kernel⟩,
   ⟨runIn 5, hdrR, [1, 0, 0, 0, 0, 0, 0, 0, 1, 0], by decide +kernel⟩,
   ⟨runIn 5, hdrR, [2, 0, 0, 0, 0, 0, 0, 0, 1, 0], by decide +kernel⟩,
   ⟨runIn 5, hdrR, [0, 0, 0, 0, 0, 0, 0, 0, 0x40, 2], by decide +kernel⟩⟩

theorem witness_CommandsOfRegistersQueriesAndPolicyAnswer_4 :
    (∃ (s : State) (h : UmHdr) (p : List Byte) (a : Fin 4), s.umCheck h 0x0302 p.length = none ∧ leAt p 0 1 = a.val ∧ tlValid (BitVec.ofNat 64 (leAt p 8 8)) = true ∧ s.on 2 = true ∧ s.on 3 = true) ∧
    (∃ (s : State) (h : UmHdr) (p : List Byte), s.umCheck h 0x0302 p.length = none ∧ (3 < leAt p 0 1 ∨ tlValid (BitVec.ofNat 64 (leAt p 8 8)) = false)) ∧
    (∃ (s : State) (h : UmHdr) (p : List Byte) (m : HLink) (first n : Nat), s.umCheck h 0x0700 p.length = none ∧ leAt p 0 1 = m.val ∧ leAt p 2 2 = first ∧ leAt p 4 2 = n ∧ first + n ≤ 1024 ∧ (p.drop 8).length = 4 * n ∧ s.genState = 1 ∧ s.notOwner h.carrier = false) ∧
    (∃ (s : State) (h : UmHdr) (p : List Byte) (first n : Nat) (e : Instr × Nat × Nat × Nat), e ∈ [(.dmaOwnSet h p, 0x0701, 4096, Reg.DMA_OWN 0), (.dmaStgqSet h p, 0x0702, 1024, Reg.DMA_STGQ 0)] ∧ s.umCheck h e.2.1 p.length = none ∧ first + n ≤ e.2.2.1 ∧ leAt p 0 2 = first ∧ leAt p 2 2 = n ∧ (p.drop 4).length = 4 * n ∧ s.genState = 1 ∧ s.notOwner h.carrier = false) ∧
    (∃ (s : State) (h : UmHdr) (p : List Byte) (e : Instr × Nat), e ∈ [(.dmaOwnSet h p, 0x0701), (.dmaStgqSet h p, 0x0702)] ∧ s.umCheck h e.2 p.length = none ∧ (p.drop 4).length ≠ 4 * leAt p 2 2) :=
  ⟨⟨runIn 5, hdrR, [3, 3, 0, 0, 9, 0, 0, 0, 0, 0, 0, 0, 0, 0, 0, 0], 3, by decide +kernel⟩,
   ⟨runIn 5, hdrR, [4, 3, 0, 0, 9, 0, 0, 0, 0, 0, 0, 0, 0, 0, 0, 0], by decide +kernel⟩,
   ⟨openGen, hdrR, [31, 0, 0xFF, 3, 1, 0, 0, 0, 1, 2, 3, 0x80], 31, 1023, 1, by decide +kernel⟩,
   ⟨openGen, hdrR, [0xFF, 3, 1, 0, 1, 2, 3, 0x80], 1023, 1, (.dmaStgqSet hdrR [0xFF, 3, 1, 0, 1, 2, 3, 0x80], 0x0702, 1024, Reg.DMA_STGQ 0), by decide +kernel⟩,
   ⟨openGen, hdrR, [0xFF, 3, 1, 0], (.dmaStgqSet hdrR [0xFF, 3, 1, 0], 0x0702), by decide +kernel⟩⟩

theorem witness_CommandsOfRegistersQueriesAndPolicyAnswer_5 :
    (∃ (s : State) (h : UmHdr) (p : List Byte), s.umCheck h 0x0703 p.length = none ∧ leAt p 0 2 < 4096) ∧
    (∃ (s : State) (h : UmHdr) (p : List Byte) (c : Chan) (e : Instr × Nat), s.umCheck h 0x0704 p.length = none ∧ leAt p 0 2 = c.val ∧ leAt p 2 1 = e.2 ∧ e ∈ [(.dmaStopReq c, 1), (.dmaCancel c, 2), (.dmaClrErr c, 4)]) ∧
    (∃ (s : State) (h : UmHdr) (p : List Byte), s.umCheck h 0x0B02 p.length = none ∧ leAt p 0 1 = 0 ∧ 1 ≤ leAt p 4 2 ∧ leAt p 4 2 ≤ 127 ∧ leAt p 2 2 + leAt p 4 2 ≤ 4096) ∧
    (∃ (s : State) (h : UmHdr) (p : List Byte), s.umCheck h 0x0B02 p.length = none ∧ leAt p 0 1 = 1 ∧ 1 ≤ leAt p 4 2 ∧ leAt p 4 2 ≤ 127 ∧ leAt p 2 2 + leAt p 4 2 ≤ 4096 ∧ s.um.report = none) ∧
    (∃ (s : State) (h : UmHdr) (p : List Byte), s.umCheck h 0x0B03 p.length = none) :=
  ⟨⟨runIn 5, hdrR, [0xFF, 0xF], by decide +kernel⟩,
   ⟨memLink, hdrR, [0, 0, 1], 0, (.dmaStopReq 0, 1), by decide +kernel⟩,
   ⟨runIn 5, hdrR, [0, 0, 0xFF, 0xF, 1, 0], by decide +kernel⟩,
   ⟨runIn 5, hdrR, [1, 0, 0xFF, 0xF, 1, 0], by decide +kernel⟩,
   ⟨runIn 5, hdrR, [], by decide +kernel⟩⟩

theorem witness_CommandsOfRegistersQueriesAndPolicyAnswer_6 :
    (∃ (s : State) (h : UmHdr) (p : List Byte), s.umCheck h 0x0B04 p.length = none ∧ s.on 3 = true) :=
  ⟨runIn 5, hdrR, List.replicate 80 0xFF, by decide +kernel⟩

theorem witness_GenerationsOpenArmAndTakeEffect_1 :
    (∃ (s : State) (h : UmHdr) (p : List Byte), s.umCheck h 0x0200 p.length = none ∧ s.genState = 0 ∧ s.image = []) ∧
    (∃ (s : State) (h : UmHdr) (p : List Byte), s.umCheck h 0x0200 p.length = none ∧ s.genState ≠ 0) ∧
    (∃ (s : State) (h : UmHdr) (p : List Byte), s.umCheck h 0x0201 p.length = none ∧ s.genState = 1 ∧ s.notOwner h.carrier = false) ∧
    (∃ (s : State) (h : UmHdr) (p : List Byte) (e : Instr × Nat), e ∈ [(.genAbort h p, 0x0201), (.genCancel h p, 0x0205)] ∧ s.umCheck h e.2 p.length = none ∧ s.notOwner h.carrier = true) ∧
    (∃ (s : State) (h : UmHdr) (p : List Byte) (e : Instr × Nat × Nat), e ∈ [(.genAbort h p, 0x0201, 1), (.genCancel h p, 0x0205, 2)] ∧ s.umCheck h e.2.1 p.length = none ∧ s.notOwner h.carrier = false ∧ s.genState ≠ e.2.2) :=
  ⟨⟨runIn 5, hdrR, [], by decide +kernel⟩,
   ⟨openGen, hdrR, [], by decide +kernel⟩,
   ⟨openGen, hdrR, [], by decide +kernel⟩,
   ⟨openGen, hdr, [], (.genAbort hdr [], 0x0201), by decide +kernel⟩,
   ⟨runIn 5, hdrR, [], (.genCancel hdrR [], 0x0205, 2), by decide +kernel⟩⟩

theorem witness_GenerationsOpenArmAndTakeEffect_2 :
    (∃ (s : State) (h : UmHdr) (p : List Byte) (a : Armed), s.umCheck h 0x0205 p.length = none ∧ s.genState = 2 ∧ s.notOwner h.carrier = false ∧ s.um.armed = some a ∧ a.herd = false ∧ a.hdr = none ∧ s.atCome = false) ∧
    (∃ (s : State) (h k : UmHdr) (p : List Byte) (a : Armed), s.umCheck h 0x0205 p.length = none ∧ s.genState = 2 ∧ s.notOwner h.carrier = false ∧ s.um.armed = some a ∧ a.herd = false ∧ a.hdr = some k ∧ s.um.owed.contains (k, 0x0204) = true ∧ s.atCome = false ∧ s.um.void = []) ∧
    (∃ (s : State) (h : UmHdr) (p : List Byte), s.umCheck h 0x0204 p.length = none ∧ s.mode ≠ 0xA ∧ s.mode ≠ 0xB ∧ s.genState = 1 ∧ s.notOwner h.carrier = false ∧ tlValid (BitVec.ofNat 64 (leAt p 0 8)) = true ∧ s.flag Reg.TL_STATE F.TL_STATE_HAS_TIME = true ∧ 131072 ≤ tlDiff (tlCount (BitVec.ofNat 64 (leAt p 0 8))) s.now ∧ h.herd = false) ∧
    (∃ (s : State) (h : UmHdr) (p : List Byte) (st : Nat), s.umCheck h 0x0204 p.length = none ∧ s.mode ≠ 0xA ∧ s.mode ≠ 0xB ∧ s.um.void = [] ∧ (((s.notOwner h.carrier = true ∧ st = stGenBusy) ∨ (s.notOwner h.carrier = false ∧ s.genState ≠ 1 ∧ st = stGenNotOpen) ∨ (s.notOwner h.carrier = false ∧ s.genState = 1 ∧ ((tlValid (BitVec.ofNat 64 (leAt p 0 8)) = false ∧ st = stBadParam) ∨ (tlValid (BitVec.ofNat 64 (leAt p 0 8)) = true ∧ ((s.flag Reg.TL_STATE F.TL_STATE_HAS_TIME = false ∧ st = stTlStateRefused) ∨ (s.flag Reg.TL_STATE F.TL_STATE_HAS_TIME = true ∧ tlDiff (tlCount (BitVec.ofNat 64 (leAt p 0 8))) s.now < 131072 ∧ st = stCommitTooSoon)))))))) ∧
    (∃ (s : State) (a : Armed) (h : UmHdr) (k : Nat), s.um.armed = some a ∧ a.checked = false ∧ a.hdr = some h ∧ a.bad = some k ∧ a.herd = false ∧ s.um.owed.contains (h, 0x0204) = true ∧ s.um.void = []) :=
  ⟨⟨arming { armed0 none true [] with hdr := none }, hdrR, [], { armed0 none true [] with hdr := none }, by decide +kernel⟩,
   ⟨arming (armed0 none true []), hdrR, hdrR, [], armed0 none true [], by decide +kernel⟩,
   ⟨timed, hdrR, commitP 131072, by decide +kernel⟩,
   ⟨timed, hdrR, commitP 131071, stCommitTooSoon, by decide +kernel⟩,
   ⟨arming (armed0 (some 0x30000) false []), armed0 (some 0x30000) false [], hdrR, 0x30000, by decide +kernel⟩⟩

theorem witness_GenerationsOpenArmAndTakeEffect_3 :
    (∃ (s : State) (a : Armed) (h : UmHdr), s.um.armed = some a ∧ a.checked = false ∧ a.hdr = some h ∧ a.bad = none ∧ a.herd = false ∧ a.expect.any (· != 0) = true ∧ a.expect ≠ a.digest ∧ s.um.owed.contains (h, 0x0204) = true ∧ s.um.void = []) ∧
    (∃ (s : State) (a : Armed) (h : UmHdr), s.um.armed = some a ∧ a.checked = false ∧ a.hdr = some h ∧ a.bad = none ∧ (a.expect.all (· == 0) = true ∨ a.expect = a.digest) ∧ a.ok = false ∧ a.peerAck = none ∧ s.um.owed.contains (h, 0x0204) = true ∧ s.um.void = []) ∧
    (∃ (s : State) (a : Armed) (h : UmHdr), s.um.armed = some a ∧ a.ok = true ∧ s.tlKnown = true ∧ tlReached s.now a.at_ = true ∧ a.hdr = some h ∧ s.um.owed.contains (h, 0x0204) = true ∧ s.um.void = [] ∧ a.digest.length = 48 ∧ a.herd = false) ∧
    (∃ (s : State), ((s.um.armed.map (·.ok)) ≠ some true ∨ s.tlKnown = false ∨ (s.um.armed.map (fun a => tlReached s.now a.at_)) ≠ some true)) ∧
    (∃ (s : State) (k : Nat), s.genState = 1 ∧ rwgMask k ≠ 0) :=
  ⟨⟨arming (armed0 none false [1]), armed0 none false [1], hdrR, by decide +kernel⟩,
   ⟨arming (armed0 none false []), armed0 none false [], hdrR, by decide +kernel⟩,
   ⟨atCount (arming (armed0 none true [])) 1000000, armed0 none true [], hdrR, by decide +kernel⟩,
   ⟨atCount (arming (armed0 none true [])) 999999, by decide +kernel⟩,
   ⟨openGen, Reg.EV_ROUTE 0, by decide +kernel⟩⟩

theorem witness_GenerationsOpenArmAndTakeEffect_4 :
    (∃ (s : State) (k : Nat) (a : Armed), s.genState = 2 ∧ rwgMask k ≠ 0 ∧ s.um.armed = some a) ∧
    (∃ (s : State) (k : Nat), (s.genState = 0 ∨ rwgMask k = 0)) :=
  ⟨⟨arming (armed0 none true []), Reg.EV_ROUTE 0, armed0 none true [], by decide +kernel⟩,
   ⟨openGen, Reg.EV_CNT 0, by decide +kernel⟩⟩

theorem witness_ClotonPortsSendCalibrateAndSpare_1 :
    (∃ (s : State) (x : ClPort), s.on 5 = true ∧ s.now % 32 = s.fld (Reg.CL_PORT_STAT x) F.CL_PORT_STAT_PHASE ∧ 2 ≤ s.fld (Reg.CL_PORT_STAT x) F.CL_PORT_STAT_TSTATE ∧ s.fld (Reg.CL_PORT_STAT x) F.CL_PORT_STAT_TSTATE ≤ 3 ∧ s.mode ≠ 0xC) ∧
    (∃ (s : State) (x : ClPort), s.on 5 = true ∧ s.now % 32 = s.fld (Reg.CL_PORT_STAT x) F.CL_PORT_STAT_PHASE ∧ 4 ≤ s.fld (Reg.CL_PORT_STAT x) F.CL_PORT_STAT_TSTATE ∧ s.mode ≠ 0xC ∧ (x.val ≠ 0 ∨ s.syncDue = false)) ∧
    (∃ (s : State) (x : ClPort), (s.on 5 = false ∨ s.now % 32 ≠ s.fld (Reg.CL_PORT_STAT x) F.CL_PORT_STAT_PHASE ∨ s.fld (Reg.CL_PORT_STAT x) F.CL_PORT_STAT_TSTATE < 2 ∨ s.mode = 0xC)) ∧
    (∃ (s : State) (x : ClPort) (f : Nat), s.isUp (.cl x) = true ∧ f = s.fld (Reg.CL_PORT_CALPER x) F.CL_PORT_CALPER_FRAMES ∧ (s.clp x).calAt + 32 * (if f = 0 then 1024 else f) ≤ s.ticks) ∧
    (∃ (s : State) (x : ClPort) (w : Word) (ago : Nat), s.on 5 = true ∧ 4 ≤ s.tstate (.cl x) ∧ s.frameIn (.cl x) = true ∧ wbits w 63 60 = 6) :=
  ⟨⟨clWith 3 id, 1, by decide +kernel⟩,
   ⟨clWith 5 (fun c => { c with hbDue := true, ctl := [[5]] }), 1, by decide +kernel⟩,
   ⟨clWith 1 id, 1, by decide +kernel⟩,
   ⟨setTicks (clWith 5 id) 100000000, 1, (clWith 5 id).fld (Reg.CL_PORT_CALPER 1) F.CL_PORT_CALPER_FRAMES, by decide +kernel⟩,
   ⟨clWith 4 id, 1, 0x6000000000000007, 100, by decide +kernel⟩⟩

theorem witness_ClotonPortsSendCalibrateAndSpare_2 :
    (∃ (s : State) (x : ClPort) (w : Word) (l : Nat), s.isUp (.cl x) = true ∧ s.frameIn (.cl x) = true ∧ wbits w 63 56 / 4 = 0x2C ∧ wbits w 56 52 = 4 ∧ l = 2 * wbits w 51 51 + wbits w 57 57 ∧ s.flag (Reg.CL_PORT_STAT x) F.CL_PORT_STAT_SPARE_USED = false ∧ (s.clp x).swap = none) ∧
    (∃ (s : State) (x : ClPort) (w : Word) (k p d : Nat), s.isUp (.cl x) = true ∧ s.frameIn (.cl x) = true ∧ wbits w 63 60 = 0xB ∧ wbits w 59 58 = 2 ∧ wbits w 56 52 = 4 ∧ s.flag (Reg.CL_PORT_STAT x) F.CL_PORT_STAT_SPARE_USED = false ∧ (s.clp x).swap = some ⟨k, p, d, none⟩) ∧
    (∃ (s : State) (x : ClPort) (w : Word), s.isUp (.cl x) = true ∧ s.frameIn (.cl x) = true ∧ wbits w 63 60 = 0xB ∧ wbits w 59 58 = 3 ∧ wbits w 56 52 = 4 ∧ s.flag (Reg.CL_PORT_STAT x) F.CL_PORT_STAT_SPARE_USED = false) :=
  ⟨⟨clWith 5 id, 1, 0xB240000000000000, 1, by decide +kernel⟩,
   ⟨clWith 5 (fun c => { c with swap := some ⟨1, 4, 3, none⟩ }), 1, 0xB840000000000005, 1, 4, 3, by decide +kernel⟩,
   ⟨clWith 5 (fun c => { c with swap := some ⟨1, 4, 3, none⟩ }), 1, 0xBC40000000000000, by decide +kernel⟩⟩

theorem witness_HerdCommitsAreReadiedGuardedAndAborted_1 :
    (∃ (s : State) (x : ClPort) (hdr : BitVec 32) (body : List Byte), x.val ≠ 0 ∧ s.isUp (.cl x) = true ∧ s.frameIn (.cl x) = true ∧ bitsOf hdr.toNat 31 28 = 1 ∧ bitsOf hdr.toNat 27 18 = (s.clp x).hRxSeq) ∧
    (∃ (s : State) (x : ClPort) (hdr : BitVec 32) (body : List Byte) (ago : Nat) (a : Armed), x.val ≠ 0 ∧ s.isUp (.cl x) = true ∧ s.frameIn (.cl x) = true ∧ bitsOf hdr.toNat 31 28 = 2 ∧ bitsOf hdr.toNat 27 18 = (s.clp x).hRxSeq ∧ s.tw.hready = some (tlCount (BitVec.ofNat 64 (leAt body 0 8)), (body.drop 8).take 48) ∧ s.um.armed = some a ∧ tlReached s.now (tlCount (BitVec.ofNat 64 (leAt body 0 8))) = false) ∧
    (∃ (s : State) (x : ClPort) (hdr : BitVec 32) (body : List Byte) (ago : Nat), x.val ≠ 0 ∧ s.isUp (.cl x) = true ∧ s.frameIn (.cl x) = true ∧ bitsOf hdr.toNat 31 28 = 2 ∧ bitsOf hdr.toNat 27 18 = (s.clp x).hRxSeq ∧ s.tw.hready = some (tlCount (BitVec.ofNat 64 (leAt body 0 8)), (body.drop 8).take 48) ∧ tlReached s.now (tlCount (BitVec.ofNat 64 (leAt body 0 8))) = true) ∧
    (∃ (s : State) (a : Armed) (e : Nat × List Byte), s.um.armed = some a ∧ s.tw.hready = some e ∧ a.herd = true ∧ s.tw.guarded = false ∧ tlReached s.now (tlAdd a.at_ (-(s.fld Reg.CL_HERD_GUARD F.CL_HERD_GUARD_TC : Nat))) = true ∧ s.herdPorts.all (fun x => decide ((s.clp x).hready = some e)) = true) ∧
    (∃ (s : State) (a : Armed) (e : Nat × List Byte), s.um.armed = some a ∧ s.tw.hready = some e ∧ a.herd = true ∧ s.tw.guarded = false ∧ tlReached s.now (tlAdd a.at_ (-(s.fld Reg.CL_HERD_GUARD F.CL_HERD_GUARD_TC : Nat))) = true ∧ s.herdPorts.all (fun x => decide ((s.clp x).hready = some e)) = false) :=
  ⟨⟨clWith 5 id, 1, 0x10000000, herdBody, by decide +kernel⟩,
   ⟨herding id, 1, 0x20000040, herdBody, 0, { armed0 none true [] with herd := true, hdigest := List.replicate 48 7 }, by decide +kernel⟩,
   ⟨atCount (herding id) 1000000, 1, 0x20000040, herdBody, 0, by decide +kernel⟩,
   ⟨atCount (herding (fun c => { c with hready := some (1000000, List.replicate 48 7) })) 999999, { armed0 none true [] with herd := true, hdigest := List.replicate 48 7 }, (1000000, List.replicate 48 7), by decide +kernel⟩,
   ⟨atCount (herding id) 999999, { armed0 none true [] with herd := true, hdigest := List.replicate 48 7 }, (1000000, List.replicate 48 7), by decide +kernel⟩⟩

theorem witness_HerdCommitsAreReadiedGuardedAndAborted_2 :
    (∃ (s : State) (x y : ClPort) (f : FwdCell), s.tw.fwd.find? (fun f => f.src == x.val && f.dst == y.val && decide (f.at_ ≤ s.ticks)) = some f) ∧
    (∃ (s : State) (h : UmHdr) (p : List Byte), s.umCheck h 0x0903 p.length = none ∧ leAt p 0 2 ≤ 4095) ∧
    (∃ (s : State) (h : UmHdr) (p : List Byte) (e : Instr × Nat), e ∈ [(.herdAddrSet h p, 0x0903), (.clCal h p, 0x0905)] ∧ s.umCheck h e.2 p.length = none ∧ ((e.2 = 0x0903 ∧ 4095 < leAt p 0 2) ∨ (e.2 = 0x0905 ∧ 3 < leAt p 0 1))) ∧
    (∃ (s : State) (h : UmHdr) (p : List Byte), s.umCheck h 0x0904 p.length = none) ∧
    (∃ (s : State) (h : UmHdr) (p : List Byte) (x : ClPort), s.umCheck h 0x0905 p.length = none ∧ leAt p 0 1 = x.val ∧ s.on 5 = true ∧ s.fld (Reg.CL_PORT_STAT x) F.CL_PORT_STAT_TSTATE = 5) :=
  ⟨⟨(runIn 5).updTw (fun w => { w with fwd := [⟨1, 2, 0, true, 2, 9, herdBody⟩] }), 1, 2, ⟨1, 2, 0, true, 2, 9, herdBody⟩, by decide +kernel⟩,
   ⟨runIn 5, hdrR, [0xFF, 0xF], by decide +kernel⟩,
   ⟨runIn 5, hdrR, [4], (.clCal hdrR [4], 0x0905), by decide +kernel⟩,
   ⟨runIn 5, hdrR, [], by decide +kernel⟩,
   ⟨clWith 5 id, hdrR, [1], 1, by decide +kernel⟩⟩

theorem witness_HerdCommitsAreReadiedGuardedAndAborted_3 :
    (∃ (s : State) (x : ClPort) (w0 at_ : Word) (bytes : List Byte), s.isUp (.cl x) = true ∧ s.frameIn (.cl x) = true ∧ wbits w0 63 60 = 0xD ∧ bytes ≠ s.rdWide (if w0.toNat.testBit 59 then Reg.UM_GEN_HDIGEST else Reg.UM_GEN_DIGEST) ∧ tlLater (tlCount s.um.activeAt) (tlCount at_) = false) ∧
    (∃ (s : State) (x : ClPort) (w0 at_ : Word) (bytes : List Byte), bytes = s.rdWide (if w0.toNat.testBit 59 then Reg.UM_GEN_HDIGEST else Reg.UM_GEN_DIGEST)) ∧
    (∃ (s : State) (x : ClPort) (w0 w1 : Word) (ago : Nat) (f : Int), s.isUp (.cl x) = true ∧ s.frameIn (.cl x) = true ∧ wbits w0 63 60 = 0xE ∧ s.timeSrc = some x.val ∧ s.on 2 = true ∧ tlValid w1 = true ∧ s.flag Reg.TL_STATE F.TL_STATE_HAS_TIME = false ∧ f = -(ago : Int) - sNat 32 (s.fld (Reg.CL_PORT_OWD x) F.CL_PORT_OWD_OWD) - (wbits w0 4 0 : Nat) * 65536) ∧
    (∃ (s : State) (x : ClPort) (w0 w1 : Word) (ago : Nat), s.isUp (.cl x) = true ∧ s.frameIn (.cl x) = true ∧ wbits w0 63 60 = 0xE ∧ s.timeSrc ≠ some x.val) :=
  ⟨⟨clWith 5 id, 1, 0xD000000000000000, 0, List.replicate 48 1, by decide +kernel⟩,
   ⟨clWith 5 id, 1, 0xD000000000000000, 0, List.replicate 48 0, by decide +kernel⟩,
   ⟨((clWith 5 id).setFld Reg.TL_REF_CFG F.TL_REF_CFG_TIME_SRC 5).setFld Reg.TL_STATE F.TL_STATE_HAS_TIME 0, 1, 0xE00000000000001F, 0, 77, -2031693, by decide +kernel⟩,
   ⟨clWith 5 id, 1, 0xE000000100000000, 0, 5, by decide +kernel⟩⟩

theorem witness_TwinsPairTakeOverAndSwitch_1 :
    (∃ (s : State) (h : UmHdr) (p : List Byte), s.umCheck h 0x0900 p.length = none ∧ leAt p 0 1 ≤ 2 ∧ (s.mode = 4 ∨ s.mode = 0xD)) ∧
    (∃ (s : State) (h : UmHdr) (p : List Byte), s.umCheck h 0x0900 p.length = none ∧ 2 < leAt p 0 1) ∧
    (∃ (s : State) (h : UmHdr) (p : List Byte), s.umCheck h 0x0900 p.length = none ∧ leAt p 0 1 ≤ 2 ∧ s.mode ≠ 4 ∧ s.mode ≠ 0xD) ∧
    (∃ (s : State) (h : UmHdr) (p : List Byte), s.umCheck h 0x0901 p.length = none ∧ s.role ≠ 0 ∧ (s.mode = 5 ∨ s.mode = 6) ∧ s.pair = 2 ∧ s.tw.swo = none) ∧
    (∃ (s : State) (h : UmHdr) (p : List Byte), s.umCheck h 0x0901 p.length = none ∧ (s.role = 0 ∨ (s.mode ≠ 5 ∧ s.mode ≠ 6) ∨ s.pair ≠ 2)) :=
  ⟨⟨runIn 4, hdrR, [1], by decide +kernel⟩,
   ⟨runIn 4, hdrR, [3], by decide +kernel⟩,
   ⟨runIn 5, hdrR, [2], by decide +kernel⟩,
   ⟨twinA 5 2, hdrR, [], by decide +kernel⟩,
   ⟨runIn 5, hdrR, [], by decide +kernel⟩⟩

theorem witness_TwinsPairTakeOverAndSwitch_2 :
    (∃ (s : State) (w : Switchover), s.tw.swo = some w ∧ (s.mode = 5 ∨ s.mode = 6) ∧ (s.liveChans.all (fun c => !s.chBusy c) = true ∨ w.start + s.fld Reg.TW_SWO_LIMIT F.TW_SWO_LIMIT_TC ≤ s.ticks)) ∧
    (∃ (s : State) (h : UmHdr) (p : List Byte), s.umCheck h 0x0902 p.length = none) ∧
    (∃ (s : State), s.mode = 8 ∧ s.now % 32 = 0) ∧
    (∃ (s : State), s.activeTwin = true ∧ s.tw.higher = true) ∧
    (∃ (s : State), (s.activeTwin = false ∨ s.tw.higher = false)) :=
  ⟨⟨(twinA 5 2).updTw (fun w => { w with swo := some ⟨hdrR, 0⟩ }), ⟨hdrR, 0⟩, by decide +kernel⟩,
   ⟨runIn 5, hdrR, [], by decide +kernel⟩,
   ⟨runIn 8, by decide +kernel⟩,
   ⟨(twinA 5 2).updTw (fun w => { w with higher := true }), by decide +kernel⟩,
   ⟨twinA 5 2, by decide +kernel⟩⟩

theorem witness_TwinsPairTakeOverAndSwitch_3 :
    (∃ (s : State), s.on 2 = true ∧ s.now % 32 = 0 ∧ hbSlot (s.now / 32) = true ∧ s.mode = 7 ∧ s.synced = true ∧ s.role ≠ 0 ∧ (s.clp 0).hbSeen = false ∧ s.missLimit ≤ s.fld Reg.TW_STAT F.TW_STAT_MISS + 1 ∧ epochHigher (s.fld Reg.TW_EPOCH F.TW_EPOCH_PEER) (s.fld Reg.TW_EPOCH F.TW_EPOCH_EPOCH) = false) ∧
    (∃ (s : State), s.on 2 = true ∧ s.now % 32 = 0 ∧ hbSlot (s.now / 32) = true ∧ 4 ≤ s.mode ∧ (s.clp 0).hbSeen = true) ∧
    (∃ (s : State), (s.on 2 = false ∨ s.now % 32 ≠ 0 ∨ hbSlot (s.now / 32) = false ∨ s.mode < 4)) ∧
    (∃ (s : State) (x : ClPort) (w0 w1 : Word) (ago : Nat), x.val ≠ 0 ∧ s.isUp (.cl x) = true ∧ s.frameIn (.cl x) = true ∧ wbits w0 63 60 = 0xC) ∧
    (∃ (s : State) (w0 w1 : Word) (ago : Nat), s.isUp (.cl 0) = true ∧ s.frameIn (.cl 0) = true ∧ wbits w0 63 60 = 0xC ∧ (w0.toNat.testBit 52 = false ∨ s.mode ≠ 7) ∧ s.mode ≠ 4) :=
  ⟨⟨((twinB 7).setFld Reg.TW_STAT F.TW_STAT_SYNC 1).setFld Reg.TW_STAT F.TW_STAT_MISS 31, by decide +kernel⟩,
   ⟨(twinA 5 2).updCl 0 (fun c => { c with hbSeen := true }), by decide +kernel⟩,
   ⟨atCount (runIn 5) 1, by decide +kernel⟩,
   ⟨clWith 5 id, 1, 0xC000000000000009, 5, 0, by decide +kernel⟩,
   ⟨twinA 5 2, 0xC7A0000000000009, 5, 0, by decide +kernel⟩⟩

theorem witness_TwinsPairTakeOverAndSwitch_4 :
    (∃ (s : State) (w0 w1 : Word) (ago : Nat), s.isUp (.cl 0) = true ∧ s.frameIn (.cl 0) = true ∧ wbits w0 63 60 = 0xC ∧ w0.toNat.testBit 52 = true ∧ s.mode = 7 ∧ s.synced = true ∧ s.role ≠ 0) ∧
    (∃ (s : State), s.isUp (.cl 0) = true) ∧
    (∃ (s : State), s.isUp (.cl 0) = false) ∧
    (∃ (s : State), s.role ≠ 0) ∧
    (∃ (s : State) (hdr : BitVec 32) (body : List Byte), s.isUp (.cl 0) = true ∧ s.frameIn (.cl 0) = true ∧ bitsOf hdr.toNat 31 28 = 0xA ∧ bitsOf hdr.toNat 27 18 = (s.clp 0).rxSeq ∧ bitsOf hdr.toNat 5 0 = 4 ∧ s.mode ≠ 0 ∧ s.mode ≠ 0xC ∧ epochHigher (leAt (body.take 4) 0 2) (s.fld Reg.TW_EPOCH F.TW_EPOCH_EPOCH) = true) :=
  ⟨⟨(twinB 7).setFld Reg.TW_STAT F.TW_STAT_SYNC 1, 0xC550000000000009, 5, 0, by decide +kernel⟩,
   ⟨twinA 5 2, by decide +kernel⟩,
   ⟨runIn 5, by decide +kernel⟩,
   ⟨twinA 5 2, by decide +kernel⟩,
   ⟨twinA 5 2, mirrorHdr 0xA 4, [9, 0, 0, 0], by decide +kernel⟩⟩

theorem witness_TwinsPairTakeOverAndSwitch_5 :
    (∃ (s : State) (hdr : BitVec 32) (body : List Byte), bitsOf hdr.toNat 31 28 = 0xA ∧ (s.mode = 0xC ∨ epochHigher (leAt (body.take (bitsOf hdr.toNat 5 0)) 0 2) (s.fld Reg.TW_EPOCH F.TW_EPOCH_EPOCH) = false)) :=
  ⟨twinA 5 2, mirrorHdr 0xA 4, [0, 0, 0, 0], by decide +kernel⟩

theorem witness_MirrorRecordsAreAppliedByTheTarget_1 :
    (∃ (s : State) (hdr : BitVec 32) (body : List Byte) (e : Instr × Nat), s.applies = false ∧ e ∈ [(.stagedWr hdr body, 1), (.shadowWr hdr body, 2), (.genCmd hdr body, 3), (.commit hdr body, 4), (.chan hdr body, 6), (.syncReg hdr body, 7), (.syncWt hdr body, 8), (.syncDone hdr body 2, 9)] ∧ bitsOf hdr.toNat 31 28 = e.2) ∧
    (∃ (s : State) (hdr : BitVec 32) (body : List Byte) (e : Instr × Nat), e ∈ [(.stagedWr hdr body, 1), (.shadowWr hdr body, 2), (.genCmd hdr body, 3), (.commit hdr body, 4), (.commitAck hdr body, 5), (.chan hdr body, 6), (.syncReg hdr body, 7), (.syncWt hdr body, 8), (.syncDone hdr body 2, 9), (.peerReset hdr body, 0xA)] ∧ bitsOf hdr.toNat 31 28 ≠ e.2) ∧
    (∃ (s : State) (hdr : BitVec 32) (body : List Byte) (k : Nat), s.isUp (.cl 0) = true ∧ s.frameIn (.cl 0) = true ∧ bitsOf hdr.toNat 31 28 = 1 ∧ bitsOf hdr.toNat 27 18 = (s.clp 0).rxSeq ∧ bitsOf hdr.toNat 5 0 = 12 ∧ 12 ≤ body.length ∧ s.applies = true ∧ s.genState = 1 ∧ k = leAt body 0 4) ∧
    (∃ (s : State) (hdr : BitVec 32) (body : List Byte) (g : Group) (i : Nat), s.isUp (.cl 0) = true ∧ s.frameIn (.cl 0) = true ∧ bitsOf hdr.toNat 31 28 = 2 ∧ bitsOf hdr.toNat 27 18 = (s.clp 0).rxSeq ∧ bitsOf hdr.toNat 5 0 = 16 ∧ 16 ≤ body.length ∧ s.applies = true ∧ leAt body 0 1 = g.val ∧ leAt body 4 4 = i ∧ i < 131072 ∧ s.wbPending g = false ∧ s.windowBusy g = false ∧ (s.grp g).held = []) ∧
    (∃ (s : State) (hdr : BitVec 32) (body : List Byte) (c : Nat), s.isUp (.cl 0) = true ∧ s.frameIn (.cl 0) = true ∧ bitsOf hdr.toNat 31 28 = 3 ∧ bitsOf hdr.toNat 27 18 = (s.clp 0).rxSeq ∧ bitsOf hdr.toNat 5 0 = 4 ∧ 4 ≤ body.length ∧ s.applies = true ∧ leAt body 0 1 = c) :=
  ⟨⟨runIn 5, mirrorHdr 9 0, [], (.syncDone (mirrorHdr 9 0) [] 2, 9), by decide +kernel⟩,
   ⟨runIn 5, mirrorHdr 9 0, [], (.peerReset (mirrorHdr 9 0) [], 0xA), by decide +kernel⟩,
   ⟨(twinB 7).setFld Reg.UM_GEN_STAT F.UM_GEN_STAT_STATE 1, mirrorHdr 1 12, leBytes 4 (Reg.EV_ROUTE 3) ++ List.replicate 8 0xFF, Reg.EV_ROUTE 3, by decide +kernel⟩,
   ⟨twinB 7, mirrorHdr 2 16, leBytes 4 3 ++ leBytes 4 9 ++ List.replicate 8 0xFF, 3, 9, by decide +kernel⟩,
   ⟨twinB 7, mirrorHdr 3 4, [1, 0, 0, 0], 1, by decide +kernel⟩⟩

theorem witness_MirrorRecordsAreAppliedByTheTarget_2 :
    (∃ (s : State) (hdr : BitVec 32) (body : List Byte), s.isUp (.cl 0) = true ∧ s.frameIn (.cl 0) = true ∧ bitsOf hdr.toNat 31 28 = 4 ∧ bitsOf hdr.toNat 27 18 = (s.clp 0).rxSeq ∧ bitsOf hdr.toNat 5 0 = 60 ∧ body.length = 60 ∧ s.applies = true ∧ s.genState = 1) ∧
    (∃ (s : State) (hdr : BitVec 32) (body : List Byte), s.isUp (.cl 0) = true ∧ s.frameIn (.cl 0) = true ∧ bitsOf hdr.toNat 31 28 = 4 ∧ bitsOf hdr.toNat 27 18 = (s.clp 0).rxSeq ∧ bitsOf hdr.toNat 5 0 = 60 ∧ body.length = 60 ∧ s.applies = true ∧ s.genState ≠ 1) ∧
    (∃ (s : State) (hdr : BitVec 32) (body : List Byte) (a : Armed), s.isUp (.cl 0) = true ∧ s.frameIn (.cl 0) = true ∧ bitsOf hdr.toNat 31 28 = 5 ∧ bitsOf hdr.toNat 27 18 = (s.clp 0).rxSeq ∧ bitsOf hdr.toNat 5 0 = 60 ∧ body.length = 60 ∧ s.um.armed = some a ∧ s.isSource = true ∧ a.peerAck.isSome = true ∧ leAt body 0 4 = a.seq) ∧
    (∃ (s : State) (a : Armed) (d : Nat), s.um.armed = some a ∧ a.peerAck = some d ∧ d + 98304 ≤ s.ticks) ∧
    (∃ (s : State) (a : Armed) (d : Nat), s.um.armed = some a ∧ a.peerAck = some d ∧ s.ticks < d + 98304) :=
  ⟨⟨(twinB 7).setFld Reg.UM_GEN_STAT F.UM_GEN_STAT_STATE 1, mirrorHdr 4 60, List.replicate 60 0, by decide +kernel⟩,
   ⟨twinB 7, mirrorHdr 4 60, List.replicate 60 0, by decide +kernel⟩,
   ⟨(twinA 5 2).updUm (fun u => { u with armed := some { armed0 none false [] with peerAck := some 0 } }), mirrorHdr 5 60, [1] ++ List.replicate 59 0, { armed0 none false [] with peerAck := some 0 }, by decide +kernel⟩,
   ⟨setTicks ((twinA 5 2).updUm (fun u => { u with armed := some { armed0 none false [] with peerAck := some 0 } })) 98304, { armed0 none false [] with peerAck := some 0 }, 0, by decide +kernel⟩,
   ⟨(twinA 5 2).updUm (fun u => { u with armed := some { armed0 none false [] with peerAck := some 0 } }), { armed0 none false [] with peerAck := some 0 }, 0, by decide +kernel⟩⟩

theorem witness_MirrorRecordsAreAppliedByTheTarget_3 :
    (∃ (s : State) (hdr : BitVec 32) (body : List Byte) (c : Chan), s.isUp (.cl 0) = true ∧ s.frameIn (.cl 0) = true ∧ bitsOf hdr.toNat 31 28 = 6 ∧ bitsOf hdr.toNat 27 18 = (s.clp 0).rxSeq ∧ bitsOf hdr.toNat 5 0 = 20 ∧ 20 ≤ body.length ∧ s.applies = true ∧ leAt body 0 2 % 4096 = c.val) ∧
    (∃ (s : State) (hdr : BitVec 32) (body : List Byte) (k : Nat), s.isUp (.cl 0) = true ∧ s.frameIn (.cl 0) = true ∧ bitsOf hdr.toNat 31 28 = 7 ∧ bitsOf hdr.toNat 27 18 = (s.clp 0).rxSeq ∧ bitsOf hdr.toNat 5 0 = 12 ∧ 12 ≤ body.length ∧ s.applies = true ∧ s.flag Reg.TW_CTRL F.TW_CTRL_JOIN = true ∧ k = leAt body 0 4 ∧ k ∉ (List.range 96).map Reg.AL_CTRL ∧ (k < Reg.VAT_PAIL_A 0 ∨ Reg.VAT_PAIL_A 0 + 64 * 16384 ≤ k)) ∧
    (∃ (s : State) (hdr : BitVec 32) (body : List Byte) (g : Group) (i : Nat), s.isUp (.cl 0) = true ∧ s.frameIn (.cl 0) = true ∧ bitsOf hdr.toNat 31 28 = 8 ∧ bitsOf hdr.toNat 27 18 = (s.clp 0).rxSeq ∧ bitsOf hdr.toNat 5 0 = 16 ∧ 16 ≤ body.length ∧ s.applies = true ∧ s.flag Reg.TW_CTRL F.TW_CTRL_JOIN = true ∧ leAt body 0 1 = g.val ∧ leAt body 4 4 = i ∧ i < 131072) ∧
    (∃ (s : State) (hdr : BitVec 32) (body : List Byte) (v : Fin 4), s.isUp (.cl 0) = true ∧ s.frameIn (.cl 0) = true ∧ bitsOf hdr.toNat 31 28 = 9 ∧ bitsOf hdr.toNat 27 18 = (s.clp 0).rxSeq ∧ bitsOf hdr.toNat 5 0 = 56 ∧ body.length = 60 ∧ s.applies = true ∧ s.flag Reg.TW_CTRL F.TW_CTRL_JOIN = true ∧ (s.tlState ≠ v.val ∨ s.pair ≠ 1 ∨ s.synced = true)) ∧
    (∃ (s : State) (hdr : BitVec 32) (body : List Byte) (v : Fin 4), s.isUp (.cl 0) = true ∧ s.frameIn (.cl 0) = true ∧ bitsOf hdr.toNat 31 28 = 9 ∧ bitsOf hdr.toNat 27 18 = (s.clp 0).rxSeq ∧ bitsOf hdr.toNat 5 0 = 56 ∧ body.length = 60 ∧ s.applies = true ∧ s.flag Reg.TW_CTRL F.TW_CTRL_JOIN = true ∧ s.tlState = v.val ∧ s.pair = 1 ∧ s.synced = false ∧ s.mode = 4 ∧ (body.drop 8).take 48 = (s.syncDigests (List.range 12)).genDigest s.gen []) :=
  ⟨⟨twinB 7, mirrorHdr 6 20, [5, 0x80] ++ List.replicate 18 1, 5, by decide +kernel⟩,
   ⟨twinB 7, mirrorHdr 7 12, leBytes 4 (Reg.EV_ROUTE 3) ++ List.replicate 8 0xFF, Reg.EV_ROUTE 3, by decide +kernel⟩,
   ⟨twinB 7, mirrorHdr 8 16, leBytes 4 3 ++ leBytes 4 9 ++ List.replicate 8 0xFF, 3, 9, by decide +kernel⟩,
   ⟨twinB 7, mirrorHdr 9 56, List.replicate 60 0, 1, by decide +kernel⟩,
   ⟨twinB 4, mirrorHdr 9 56, doneBody doneDigest, 0, by decide +kernel, by decide +kernel, by decide +kernel, by decide +kernel, by decide +kernel, doneBody_length _ (sha384_length _), by decide +kernel, by decide +kernel, by decide +kernel, by decide +kernel, by decide +kernel, by decide +kernel, doneBody_digest _ (sha384_length _)⟩⟩

theorem witness_ModesDrainAndDomainsFollowTheirCommands_1 :
    (∃ (s : State) (h : UmHdr) (p : List Byte), s.umCheck h 0x0800 p.length = none ∧ p.length = 1 ∧ s.isTarget = false ∧ s.flag Reg.PW_MODE F.PW_MODE_IN_TRANSIT = false ∧ ((s.mode = 4 ∧ leAt p 0 1 = 0xD) ∨ (s.mode = 0xD ∧ leAt p 0 1 = 4)) ∧ s.um.void = [] ∧ s.um.owed = []) ∧
    (∃ (s : State) (h : UmHdr) (p : List Byte) (m : ModeReq), s.umCheck h 0x0800 p.length = none ∧ (p.length = 1 ∨ p.length = 8) ∧ s.isTarget = false ∧ s.flag Reg.PW_MODE F.PW_MODE_IN_TRANSIT = false ∧ (s.mode = 5 ∨ s.mode = 6) ∧ m = ⟨some h, leAt p 0 1, if leAt p 4 4 = 0 then 19660800 else leAt p 4 4, s.ticks, []⟩ ∧ (m.target = 4 ∨ m.target = 0xD ∨ (m.target = 0xA ∨ m.target = 0xB) ∧ s.genState ≠ 2)) ∧
    (∃ (s : State) (h : UmHdr) (p : List Byte), s.umCheck h 0x0800 p.length = none ∧ p.length = 1 ∧ s.isTarget = false ∧ s.flag Reg.PW_MODE F.PW_MODE_IN_TRANSIT = false ∧ s.mode = 4 ∧ s.genState ≠ 2 ∧ (leAt p 0 1 = 0xA ∨ leAt p 0 1 = 0xB)) ∧
    (∃ (s : State) (h : UmHdr) (p : List Byte), s.umCheck h 0x0800 p.length = none ∧ p.length = 1 ∧ leAt p 0 1 = 4 ∧ s.flag Reg.PW_MODE F.PW_MODE_IN_TRANSIT = false ∧ s.mode = 7) ∧
    (∃ (s : State) (h g : UmHdr) (p : List Byte) (m : ModeReq), s.umCheck h 0x0800 p.length = none ∧ p.length = 1 ∧ leAt p 0 1 = 4 ∧ s.flag Reg.PW_MODE F.PW_MODE_IN_TRANSIT = true ∧ s.um.mode = some m ∧ m.hdr = some g ∧ (m.target = 0xA ∨ m.target = 0xB) ∧ s.mode = 4 ∧ s.pw.sleep = none ∧ s.um.void = [] ∧ (g, 0x0800) ∈ s.um.owed ∧ h ≠ g ∧ (h, 0x0800) ∉ s.um.owed ∧ (h, 0x0800) ∉ s.um.begun) :=
  ⟨⟨runIn 4, hdr, [0xD], by decide +kernel⟩,
   ⟨runIn 5, hdr, [4], ⟨some hdr, 4, 19660800, 0, []⟩, by decide +kernel⟩,
   ⟨runIn 4, hdr, [0xA], by decide +kernel⟩,
   ⟨runIn 7, hdr, [4], by decide +kernel⟩,
   ⟨sleepAsked 0xA, hdrR, hdr, [4], ⟨some hdr, 0xA, 0, 0, []⟩, by decide +kernel⟩⟩

theorem witness_ModesDrainAndDomainsFollowTheirCommands_2 :
    (∃ (s : State) (h : UmHdr) (p : List Byte), s.umCheck h 0x0800 p.length = none ∧ p.length = 1 ∧ s.isTarget = false ∧ leAt p 0 1 ≤ 0xD ∧ s.flag Reg.PW_MODE F.PW_MODE_IN_TRANSIT = false ∧ ((s.mode = 4 → leAt p 0 1 ≠ 0xA ∧ leAt p 0 1 ≠ 0xB ∧ leAt p 0 1 ≠ 0xD)) ∧ ((s.mode = 5 ∨ s.mode = 6 → leAt p 0 1 ≠ 4 ∧ leAt p 0 1 ≠ 0xA ∧ leAt p 0 1 ≠ 0xB ∧ leAt p 0 1 ≠ 0xD)) ∧ ((s.mode = 0xD ∨ s.mode = 7 → leAt p 0 1 ≠ 4))) ∧
    (∃ (s : State) (h : UmHdr) (p : List Byte), s.umCheck h 0x0801 p.length = none) ∧
    (∃ (s : State) (m : ModeReq), s.mode = 9 ∧ s.liveChans.all (fun c => !s.chBusy c) = true ∧ s.txEmpty = true ∧ s.um.mode = some m) ∧
    (∃ (s : State) (m : ModeReq), s.mode = 9 ∧ s.um.mode = some m ∧ m.start + m.limit ≤ s.ticks) ∧
    (∃ (s : State) (h : UmHdr) (p : List Byte), s.umCheck h 0x0802 p.length = none ∧ leAt p 0 1 ≠ 0 ∧ domMask.testBit (leAt p 0 1) = true ∧ leAt p 1 1 = 1) :=
  ⟨⟨runIn 4, hdr, [5], by decide +kernel⟩,
   ⟨runIn 4, hdr, [], by decide +kernel⟩,
   ⟨draining 0xD 100, ⟨some hdr, 0xD, 100, 0, []⟩, by decide +kernel⟩,
   ⟨setTicks (draining 0xA 100) 100, ⟨some hdr, 0xA, 100, 0, []⟩, by decide +kernel⟩,
   ⟨runIn 5, hdr, [0x30, 1], by decide +kernel⟩⟩

theorem witness_ModesDrainAndDomainsFollowTheirCommands_3 :
    (∃ (s : State) (h : UmHdr) (p : List Byte), s.umCheck h 0x0802 p.length = none ∧ leAt p 0 1 ≠ 0 ∧ domMask.testBit (leAt p 0 1) = true ∧ leAt p 1 1 = 0) ∧
    (∃ (s : State) (h : UmHdr) (p : List Byte), s.umCheck h 0x0803 p.length = none) ∧
    (∃ (s : State) (v : Word), s.on 3 = true) ∧
    (∃ (s : State) (d : Fin 64), s.on d = true ∧ d.val ≠ 0 ∧ s.entry d = 0 ∧ 4 ≤ s.mode ∧ SMap.get 0 s.pw.idle d = 4096 ∧ s.wanted d = false) ∧
    (∃ (s : State) (d : Fin 64), s.on d = true ∧ (s.wanted d = true ∨ SMap.get 0 s.pw.idle d < 4096)) :=
  ⟨⟨runIn 5, hdr, [0x30, 0], by decide +kernel⟩,
   ⟨runIn 5, hdr, [], by decide +kernel⟩,
   ⟨runIn 5, 0xFFFFFFFFFFFFFFFF, by decide +kernel⟩,
   ⟨(runIn 5).updPw (fun p => { p with idle := [(0x31, 4096)] }), 0x31, by decide +kernel⟩,
   ⟨runIn 5, 0x31, by decide +kernel⟩⟩

theorem witness_ModesDrainAndDomainsFollowTheirCommands_4 :
    (∃ (s : State) (d : Fin 64), s.entry d ≠ 0 ∧ s.noDependents d = true) ∧
    (∃ (s : State) (d : Fin 64) (hits : List EccHit) (n : Nat), hits.all (fun h => h.pail != storeHit 3 || !h.unc) = true ∧ n = (hits.filter (fun h => h.pail == storeHit 3)).length ∧ domMask.testBit d = true ∧ s.on d = false ∧ 4 ≤ s.mode ∧ s.dozing = false ∧ (s.wanted d = true ∨ s.pw.exits.testBit d = true) ∧ s.forcedMap.testBit d = false ∧ s.on (prereq d) = true ∧ s.entry (prereq d) = 0 ∧ (d.val < 2 ∨ 4 < d.val) ∧ s.um.domReset.all (fun r => r.1 != d.val || r.2.1 == 0) = true) ∧
    (∃ (s : State) (d : Fin 64) (hits : List EccHit), hits.any (fun h => h.pail == storeHit 3 && h.unc) = true ∧ domMask.testBit d = true ∧ s.on d = false ∧ 4 ≤ s.mode ∧ s.mode ≠ 0xC ∧ s.dozing = false ∧ s.wanted d = true ∧ s.forcedMap.testBit d = false ∧ s.on (prereq d) = true ∧ s.entry (prereq d) = 0 ∧ (d.val < 2 ∨ 4 < d.val) ∧ s.um.domReset.all (fun r => r.1 != d.val || r.2.1 == 0) = true) ∧
    (∃ (s : State) (d : Fin 64) (hits : List EccHit), (s.on (prereq d) = false ∨ s.forcedMap.testBit d = true ∨ (s.wanted d = false ∧ s.pw.exits.testBit d = false))) :=
  ⟨⟨(runIn 5).updPw (fun p => { p with entries := [(0x31, 1)] }), 0x31, by decide +kernel⟩,
   ⟨((runIn 5).wrW Reg.PW_ON 0x1F).updPw (fun p => { p with exits := 2 ^ 0x31 }), 0x31, [⟨16388, 0, 1, false⟩], 1, by decide +kernel⟩,
   ⟨((runIn 5).wrW Reg.PW_ON 0x1F).wrW (Reg.PW_HVOTE 33) (2 ^ 0x31), 0x31, [⟨16388, 0, 1, true⟩], by decide +kernel⟩,
   ⟨(runIn 5).wrW Reg.PW_ON 0x1B, 0x31, [], by decide +kernel⟩⟩

theorem witness_TheDeviceSleepsDozesAndWakes_1 :
    (∃ (s : State) (m : ModeReq) (g : UmHdr), s.sleepReq = some m ∧ s.sleepVotes m.target = 0 ∧ m.hdr = some g ∧ (g, 0x0800) ∈ s.um.owed ∧ s.um.void = []) ∧
    (∃ (s : State) (v : Nat) (m : ModeReq), s.pw.sleep = some v ∧ s.um.mode = some m ∧ s.mode = 4 ∧ s.sleepVotes v = 0 ∧ s.pw.wake = none ∧ m.cancel = [] ∧ s.onMap &&& leafMask = 0) ∧
    (∃ (s : State) (m : ModeReq), s.sleepReq = some m ∧ m.start + 19660800 ≤ s.ticks ∧ s.pw.waited = false ∧ s.sleepVotes m.target ≠ 0) ∧
    (∃ (s : State) (d : Fin 64) (a : Fin 4) (v : Nat) (m : ModeReq), s.pw.sleep = some v ∧ s.um.mode = some m ∧ s.mode = 4 ∧ 2 ≤ d.val ∧ d.val ≤ 4 ∧ (s.sleepVotes v ≠ 0 ∨ s.pw.wake.isSome = true ∨ m.cancel ≠ [])) ∧
    (∃ (s : State) (d : Fin 64) (a : Fin 4), s.pw.sleep = none ∧ s.entry d = 1 ∧ s.wanted d = true) :=
  ⟨⟨sleepAsked 0xA, ⟨some hdr, 0xA, 0, 0, []⟩, hdr, by decide +kernel⟩,
   ⟨falling.wrW Reg.PW_ON 0x1F, 0xA, ⟨some hdr, 0xA, 0, 0, []⟩, by decide +kernel⟩,
   ⟨setTicks ((sleepAsked 0xB).wrW (Reg.PW_HVOTE 33) 8) 19660800, ⟨some hdr, 0xB, 0, 0, []⟩, by decide +kernel⟩,
   ⟨falling.wrW (Reg.PW_HVOTE 33) 8, 3, 2, 0xA, ⟨some hdr, 0xA, 0, 0, []⟩, by decide +kernel⟩,
   ⟨((runIn 5).wrW (Reg.PW_HVOTE 33) (2 ^ 0x31)).updPw (fun p => { p with entries := [(0x31, 1)] }), 0x31, 2, by decide +kernel⟩⟩

theorem witness_TheDeviceSleepsDozesAndWakes_2 :
    (∃ (s : State) (w : WakeRt) (hits : List EccHit), hits.all (fun h => h.pail != storeHit 3 || !h.unc) = true ∧ s.pw.wake = some w ∧ (s.mode = 0xA ∨ s.mode = 0xB) ∧ s.sec.trips = []) ∧
    (∃ (s : State) (a : Fin 128), a.val = s.fld Reg.PW_SB_ADDR F.PW_SB_ADDR_ADDR ∧ (s.mode = 0xA ∨ s.mode = 0xB) ∧ s.pw.wake = none ∧ (s.rdW Reg.PW_WAKE_EN).toNat.testBit 1 = true) ∧
    (∃ (s : State) (p : HPort), (s.linksOf p).all (fun m => (s.link m).l23) = true ∧ (s.mode = 0xA ∨ s.mode = 0xB) ∧ s.pw.wake = none ∧ (s.rdW Reg.PW_WAKE_EN).toNat.testBit 3 = true ∧ (s.rdW Reg.PW_WAKE_EN).toNat.testBit (24 + p.val) = true) ∧
    (∃ (s : State), (s.mode = 0xA ∨ s.mode = 0xB) ∧ s.pw.wake = none ∧ (s.rdW Reg.PW_WAKE_EN).toNat.testBit 5 = true) ∧
    (∃ (s : State) (l : BitVec 16) (i : Nat), i < 16 ∧ (s.fld Reg.PW_WAKE_GPIO F.PW_WAKE_GPIO_EN).testBit i = true ∧ l.toNat.testBit i = (s.fld Reg.PW_WAKE_GPIO F.PW_WAKE_GPIO_LEVEL).testBit i ∧ (s.mode = 0xA ∨ s.mode = 0xB) ∧ s.pw.wake = none ∧ (s.rdW Reg.PW_WAKE_EN).toNat.testBit 6 = true) :=
  ⟨⟨woken 0xB, ⟨0, 2, 0⟩, [⟨16388, 0, 1, false⟩], by decide +kernel⟩,
   ⟨dozer 0xA 2, BitVec.toFin (BitVec.ofNat 7 ((dozer 0xA 2).fld Reg.PW_SB_ADDR F.PW_SB_ADDR_ADDR)), by decide +kernel⟩,
   ⟨(dozer 0xA (8 + 2 ^ 24)).updLink 0 (fun l => { l with l23 := true }), 0, by decide +kernel⟩,
   ⟨dozer 0xA 32, by decide +kernel⟩,
   ⟨fset (dozer 0xB 64) Reg.PW_WAKE_GPIO F.PW_WAKE_GPIO_EN 1, 0, 0, by decide +kernel⟩⟩

theorem witness_TheDeviceSleepsDozesAndWakes_3 :
    (∃ (s : State) (ts : List Byte) (r : BitVec 7) (c p : Bool) (pres : List Nat), s.mode = 0xA ∧ ts.length = 16 ∧ s.pw.dozeAt + s.dozePeriod ≤ s.aon ∧ (goodTemps 0 ts).all (fun x => decide (x.2 < 120)) = true) ∧
    (∃ (s : State) (ts : List Byte) (r : BitVec 7) (c p : Bool) (pres : List Nat), s.mode = 0xA ∧ ts.length = 16 ∧ s.pw.dozeAt + s.dozePeriod ≤ s.aon ∧ (goodTemps 0 ts).any (fun x => decide (120 ≤ x.2)) = true) ∧
    (∃ (s : State) (ts : List Byte) (r : BitVec 7) (c p : Bool) (pres : List Nat), (s.mode ≠ 0xA ∨ s.aon < s.pw.dozeAt + s.dozePeriod)) ∧
    (∃ (s : State) (b : Byte), s.mode = 0xB ∧ 120 ≤ degC b) ∧
    (∃ (s : State) (b : Byte), s.mode = 0xB ∧ degC b < 120 ∧ s.pw.wake = none) :=
  ⟨⟨sampler, temps 20, 0, true, true, [], by decide +kernel⟩,
   ⟨sampler, temps 121, 0, true, true, [], by decide +kernel⟩,
   ⟨runIn 5, temps 20, 0, true, true, [], by decide +kernel⟩,
   ⟨dozer 0xB 0, 120, by decide +kernel⟩,
   ⟨dozer 0xB 0, 100, by decide +kernel⟩⟩

theorem witness_TheDeviceSleepsDozesAndWakes_4 :
    (∃ (s : State) (h : UmHdr) (p : List Byte), s.umCheck h 0x0804 p.length = none ∧ p.length = 20 ∧ s.genNeeds h.carrier 1 = none) :=
  ⟨openGen, hdrR, List.replicate 20 1, by decide +kernel⟩

theorem witness_SupplyTemperatureAndLogKeepTheirRecords_1 :
    (∃ (s : State) (r : Fin 7) (mv ago : Nat), s.mode ≠ 0 ∧ s.dip r = none ∧ mv < (railLow r).1 ∧ s.lowerDip r = false) ∧
    (∃ (s : State) (r : Fin 7) (mv n : Nat) (d : DipRt), s.dip r = some d ∧ s.ownsDip r d = true) ∧
    (∃ (s : State) (r : Fin 7) (mv n : Nat), s.dip r = none ∧ 1 ≤ n ∧ n < 25 ∧ mv < (railLow r).1 ∧ s.mode ≠ 0) ∧
    (∃ (s : State) (r : Fin 7), (s.fld Reg.PW_SUP_STAT F.PW_SUP_STAT_HIGH).testBit r = false) ∧
    (∃ (s : State) (dly : Nat), dly = s.fld Reg.PW_SUP_CFG F.PW_SUP_CFG_SHED_DLY ∧ s.flag Reg.PW_SUP_STAT F.PW_SUP_STAT_WARN = true ∧ dly ≠ 0 ∧ s.pw.warnAt + 25 * dly ≤ s.aon ∧ s.flag Reg.PW_SUP_STAT F.PW_SUP_STAT_SHED = false ∧ 4 ≤ s.mode ∧ s.mode ≠ 0xC) :=
  ⟨⟨{ runIn 5 with aon := 100 }, 0, 600, 5, by decide +kernel⟩,
   ⟨dipped, 0, 650, 90, ⟨0, 0, 600, true⟩, by decide +kernel⟩,
   ⟨runIn 5, 0, 650, 3, by decide +kernel⟩,
   ⟨runIn 5, 0, by decide +kernel⟩,
   ⟨warned, 1, by decide +kernel⟩⟩

theorem witness_SupplyTemperatureAndLogKeepTheirRecords_2 :
    (∃ (s : State), (s.dip 0).isNone = true ∧ s.pw.coreOk.all (fun a => decide (a + 2500 ≤ s.aon)) = true) ∧
    (∃ (s : State) (ts : List Byte), ts.length = 16 ∧ s.on 1 = true ∧ s.on 3 = true ∧ 4 ≤ s.mode ∧ s.pw.convAt.all (fun a => decide (a + 500 ≤ s.aon)) = true ∧ (goodTemps 0 ts).all (fun x => decide (x.2 < 120)) = true) ∧
    (∃ (s : State) (ts : List Byte), ts.length = 16 ∧ s.on 1 = true ∧ s.on 3 = true ∧ 4 ≤ s.mode ∧ s.mode ≠ 0xC ∧ s.pw.convAt.all (fun a => decide (a + 500 ≤ s.aon)) = true ∧ (goodTemps 0 ts).any (fun x => decide (120 ≤ x.2)) = true ∧ s.rs.causeAon ≠ some s.aon) ∧
    (∃ (s : State) (w : LogWait) (ws : List LogWait), s.log.queue = w :: ws) ∧
    (∃ (s : State) (v : BitVec 32), (s.logTop + 2 ^ 32 - v.toNat) % 2 ^ 32 ≤ 2048) :=
  ⟨⟨runIn 6, by decide +kernel⟩,
   ⟨runIn 5, temps 20, by decide +kernel⟩,
   ⟨{ runIn 5 with aon := 7 }, temps 121, by decide +kernel⟩,
   ⟨logged, ⟨⟨0, 0, 0, 1, 0, 1, 0⟩, 0⟩, [], by decide +kernel⟩,
   ⟨logged, 1, by decide +kernel⟩⟩

theorem witness_SupplyTemperatureAndLogKeepTheirRecords_3 :
    (∃ (s : State) (v : BitVec 32), 2048 < (s.logTop + 2 ^ 32 - v.toNat) % 2 ^ 32) ∧
    (∃ (s : State) (h : UmHdr) (p : List Byte), s.umCheck h 0x0B00 p.length = none ∧ leAt p 0 2 < 2048 ∧ 1 ≤ leAt p 2 2 ∧ leAt p 2 2 ≤ 127) ∧
    (∃ (s : State) (h : UmHdr) (p : List Byte) (d : Nat), s.umCheck h 0x0B01 p.length = none ∧ leAt p 0 2 < 2048 ∧ d = (leAt p 0 2 + 2048 - s.logMark % 2048) % 2048 ∧ d < s.logUnread) ∧
    (∃ (s : State) (c n : Nat), s.repairDue = true ∧ s.bootPath ≤ 1 ∧ s.on 3 = true ∧ n = s.sec.fuses.dsn ∧ c = s.flash.nextCopy n ∧ ((s.flash.entries n) ++ s.repairEntries.filter (fun e => !(recLast (s.flash.entries n)).contains e)).length ≤ 8188) :=
  ⟨⟨logged, 5, by decide +kernel⟩,
   ⟨logged, hdr, [0, 0, 1, 0], by decide +kernel⟩,
   ⟨logged, hdr, [0, 0], 0, by decide +kernel⟩,
   ⟨(rnger 0).setRepairDue true, 0, 5, by decide +kernel⟩⟩

theorem witness_DeviceWideResetsHoldTheDevice_1 :
    (∃ (s : State), s.mode = 0) ∧
    (∃ (s : State) (mv : Nat), s.mode ≠ 0 ∧ mv < (railLow 5).2) ∧
    (∃ (s : State) (rail : Fin 7) (mv : Nat), s.mode ≠ 0 ∧ rail.val ≠ 5 ∧ mv < (railLow rail).2) ∧
    (∃ (s : State), s.mode ≠ 0 ∧ s.rs.resetN = false) ∧
    (∃ (s : State), s.mode ≠ 0 ∧ s.rs.resetN = true) :=
  ⟨⟨State.reset.poweredOff, by decide +kernel⟩,
   ⟨runIn 5, 100, by decide +kernel⟩,
   ⟨runIn 5, 0, 100, by decide +kernel⟩,
   ⟨runIn 5, by decide +kernel⟩,
   ⟨(runIn 5).updRs (fun r => { r with resetN := true }), by decide +kernel⟩⟩

theorem witness_DeviceWideResetsHoldTheDevice_2 :
    (∃ (s : State), s.mode ≠ 0 ∧ s.rs.resetN = false) ∧
    (∃ (s : State), s.on 3 = true ∧ s.mode ≠ 0xC ∧ s.pw.sleep = none ∧ s.rs.mgmtAt + 1250000 ≤ s.aon) ∧
    (∃ (s : State) (detail : Byte), s.mode ≠ 0 ∧ s.mode ≠ 0xC ∧ 1 ≤ detail.toNat ∧ detail.toNat ≤ 5) ∧
    (∃ (s : State) (when_ c : Nat), s.um.resetAt = some (when_, c) ∧ when_ ≤ s.ticks ∧ s.um.due = []) :=
  ⟨⟨runIn 5, by decide +kernel⟩,
   ⟨{ runIn 5 with aon := 1250000 }, by decide +kernel⟩,
   ⟨runIn 5, 3, by decide +kernel⟩,
   ⟨(runIn 5).updUm (fun u => { u with resetAt := some (0, 0) }), 0, 0, by decide +kernel⟩⟩

theorem witness_ResetsKeepWhatOnlyPowerOnClears :
    (∃ (s : State) (a : Nat), s.rs.swOpen = some a ∧ a + 25 ≤ s.aon) ∧
    (∃ (s : State), s.on 3 = true ∧ s.mode = 0xC ∧ s.quarNow = false ∧ s.pw.sleep = none ∧ s.rs.mgmtAt + 1250000 ≤ s.aon) :=
  ⟨⟨{ (runIn 1).updRs (fun r => { r with swOpen := some 0 }) with aon := 25 }, 0, by decide +kernel⟩,
   ⟨{ (runIn 0xC).updRs (fun r => { r with causeAon := some 77 }) with aon := 1250000 }, by decide +kernel⟩⟩

theorem witness_BringUpFollowsTheStrapAndItsRows :
    (∃ (s : State), s.mode = 1 ∧ s.rs.swOpen = none ∧ s.rs.sources.all (sourceGone s.aon s.rs.resetN) = true) ∧
    (∃ (s : State) (c0 c1 c2 c3 : Fin 64), s.mode = 2 ∧ s.rs.rowAt + 1600 ≤ s.aon) ∧
    (∃ (s : State) (c0 c1 : List Byte) (d : Nat), bringRows[s.rs.row]? = some d ∧ s.mode = 3 ∧ s.rs.rowAt + (if s.rs.row < 3 then 25 else 50) ≤ s.aon ∧ s.rs.row ≠ 3) ∧
    (∃ (s : State) (c0 c1 : List Byte), s.mode = 3 ∧ s.rs.row = 3 ∧ s.rs.rowAt + 50 ≤ s.aon ∧ s.recordWait c0 c1 = true) :=
  ⟨⟨(runIn 1).updRs (fun r => { r with sources := [] }), by decide +kernel⟩,
   ⟨{ runIn 2 with aon := 1600 }, 3, 4, 5, 6, by decide +kernel⟩,
   ⟨{ (runIn 3).updRs (fun r => { r with row := 1 }) with aon := 1600 }, [], [], 3, by decide +kernel⟩,
   ⟨{ (runIn 3).updRs (fun r => { r with row := 3 }) with aon := 100000000 }, [], [], by decide +kernel⟩⟩

theorem witness_BootSourcesFailOrStartTheFirmware_1 :
    (∃ (s : State) (status : Byte) (src : Nat), (bootSources s.bootPath)[s.rs.src]? = some src ∧ s.booting = true ∧ 2 ≤ status.toNat ∧ status.toNat ≤ 5 ∧ ((status.toNat = 5 → s.rs.srcAt + sourceLimit src ≤ s.aon)) ∧ s.rs.src + 1 < (bootSources s.bootPath).length ∧ src ≠ 3 ∧ s.mode = 3) :=
  ⟨booter 0, 2, 0, by decide +kernel⟩

theorem witness_BootSourcesFailOrStartTheFirmware_2 :
    (∃ (s : State) (image : List Byte) (src : Nat), (bootSources s.bootPath)[s.rs.src]? = some src ∧ s.booting = true ∧ s.sec.fuses.imageStatus image = 1 ∧ ((src = 3 → s.rs.pldm.take image.length = image))) :=
  ⟨truster, signed, 0, by decide +kernel⟩

theorem witness_BootSourcesFailOrStartTheFirmware_3 :
    (∃ (s : State) (eid : Nat) (piece : List Byte), s.booting = true ∧ (bootSources s.bootPath)[s.rs.src]? = some 3 ∧ piece.length ≤ 1024) ∧
    (∃ (s : State) (fuseV : Bool), s.mode = 3 ∧ s.rs.row = bringRows.length ∧ s.rs.fw = true) ∧
    (∃ (s : State) (h : UmHdr) (p : List Byte), s.umCheck h 0x0C00 p.length = none ∧ leAt p 0 1 = 0) ∧
    (∃ (s : State) (h : UmHdr) (p : List Byte), s.umCheck h 0x0C00 p.length = none ∧ leAt p 0 1 = 1 ∧ resettable (leAt p 1 1) = true ∧ s.entry (leAt p 1 1) = 0 ∧ s.pw.exits.testBit (leAt p 1 1) = false ∧ s.on (leAt p 1 1) = true) ∧
    (∃ (s : State) (d w : Nat) (h : UmHdr), s.um.domReset = [(d, w, h)] ∧ w ≤ s.aon ∧ w ≠ 0 ∧ s.entry d = 0 ∧ s.pw.exits.testBit d = false) :=
  ⟨⟨booter 3, 8, [1, 2], by decide +kernel⟩,
   ⟨(runIn 3).updRs (fun r => { r with row := bringRows.length, fw := true }), true, by decide +kernel⟩,
   ⟨runIn 5, hdr, [0, 0], by decide +kernel⟩,
   ⟨runIn 5, hdr, [1, 0x20], by decide +kernel⟩,
   ⟨{ (runIn 5).updUm (fun u => { u with domReset := [(0x20, 30, hdr)] }) with aon := 30 }, 0x20, 30, hdr, by decide +kernel⟩⟩

theorem witness_BootSourcesFailOrStartTheFirmware_4 :
    (∃ (s : State) (h : UmHdr) (p : List Byte), s.umCheck h 0x0B05 p.length = none) :=
  ⟨runIn 5, hdr, [], by decide +kernel⟩

theorem witness_SecurityCommandsProtectTheDevice_1 :
    (∃ (s : State) (l : List Byte) (w : Nat), s.on 4 = true ∧ s.rng ≠ 2 ∧ noiseTest l w ≠ 0) ∧
    (∃ (s : State) (l : List Byte) (w : Nat), noiseTest l w = 0) ∧
    (∃ (s : State), s.on 4 = true ∧ s.rng = 2 ∧ s.fld Reg.SEC_RNG_STAT F.SEC_RNG_STAT_RESTARTS < 3 ∧ s.sec.failAt + secTc ≤ s.ticks) ∧
    (∃ (s : State), s.on 4 = true ∧ s.rng = 1 ∧ s.sec.testAt + 97280 ≤ s.ticks) ∧
    (∃ (s : State), s.on 4 = true ∧ s.rng = 2) :=
  ⟨⟨rnger 0, [1, 1, 1, 1, 1, 1], 6, by decide +kernel⟩,
   ⟨rnger 0, [1, 2], 2, by decide +kernel⟩,
   ⟨rnger 2, by decide +kernel⟩,
   ⟨rnger 1, by decide +kernel⟩,
   ⟨rnger 2, by decide +kernel⟩⟩

theorem witness_SecurityCommandsProtectTheDevice_2 :
    (∃ (s : State), s.rngReady = true ∧ (2 ^ 20 ≤ s.sec.gens ∨ s.sec.seedAt + secTc ≤ s.ticks)) ∧
    (∃ (s : State) (src : Fin 8) (v : Bool), s.mode ≠ 0 ∧ s.on 4 = true ∧ s.sec.prog = none) ∧
    (∃ (s : State) (src : Fin 8) (v : Bool), s.mode ≠ 0 ∧ s.on 4 = false ∧ s.aonWatches src = true) ∧
    (∃ (s : State) (h : UmHdr) (p : List Byte), s.umCheck h 0x0A00 p.length = none) ∧
    (∃ (s : State) (h : UmHdr) (p : List Byte), s.umCheck h 0x0A01 p.length = none ∧ s.bootPath < 2 ∧ leAt p 0 4 + (p.length - 4) ≤ 16777216) :=
  ⟨⟨rnger 0, by decide +kernel⟩,
   ⟨fset (rnger 0) Reg.SEC_TAMPER_CFG F.SEC_TAMPER_CFG_LVL5 3, 5, true, by decide +kernel⟩,
   ⟨dozer 0xA 2047, 3, true, by decide +kernel⟩,
   ⟨rnger 0, hdr, [], by decide +kernel⟩,
   ⟨rnger 0, hdr, [0, 0, 0, 0, 1, 2, 3, 4], by decide +kernel⟩⟩

theorem witness_SecurityCommandsProtectTheDevice_3 :
    (∃ (s : State) (h : UmHdr) (p : List Byte) (st : Nat), s.umCheck h 0x0A02 p.length = none ∧ s.bootPath < 2 ∧ s.sec.fw = none ∧ s.um.void = [] ∧ s.um.owed = [] ∧ s.um.begun = [] ∧ st = s.sec.fuses.imageCheck s.slotBImage) ∧
    (∃ (s : State) (h : UmHdr) (st : Nat), s.sec.fw = some ⟨h, 2⟩ ∧ st = s.sec.fuses.imageCheck s.slotBImage) ∧
    (∃ (s : State) (h : UmHdr) (p : List Byte), s.umCheck h 0x0A03 p.length = none ∧ s.on 4 = true ∧ (lcBits s.sec.fuses.lc (leAt p 0 1)).isSome = true ∧ p.length = 244 + (if lcCode s.sec.fuses.lc = 0 ∧ leAt p 0 1 = 1 then 96 else 0) ∧ s.um.void = []) ∧
    (∃ (s : State) (h : UmHdr) (p : List Byte), s.umCheck h 0x0A03 p.length = none ∧ s.on 4 = true) ∧
    (∃ (s : State) (h : UmHdr) (p : List Byte), s.umCheck h 0x0A04 p.length = none ∧ p.length = 240 ∧ s.sec.lcNow = 2 ∧ leAt p 5 1 ≠ 0 ∧ leAt p 5 1 ≤ 2 ∧ s.um.void = []) :=
  ⟨⟨rnger 0, hdr, [], 2, by decide +kernel⟩,
   ⟨(rnger 0).updSec (fun c => { c with fw := some ⟨hdr, 2⟩ }), hdr, 2, by decide +kernel⟩,
   ⟨rnger 0, hdr, 1 :: List.replicate 339 0, by decide +kernel⟩,
   ⟨rnger 0, hdr, 1 :: List.replicate 243 0, by decide +kernel⟩,
   ⟨rnger 0, hdr, List.replicate 5 0 ++ 1 :: List.replicate 234 0, by decide +kernel⟩⟩

theorem witness_SecurityCommandsProtectTheDevice_4 :
    (∃ (s : State) (h : UmHdr) (tok : List Byte) (l : Nat), s.sec.ops = [⟨.debugUnlock h tok, ceVerify, some 0⟩] ∧ ceVerify ≤ s.ticks ∧ l = leAt tok 5 1 ∧ 1 ≤ l ∧ l ≤ 2 ∧ s.sec.lcNow = 2 ∧ s.um.void = [] ∧ s.um.due = [] ∧ (h, 0x0A04) ∈ s.um.owed) ∧
    (∃ (s : State) (v : Bool) (o : CurveOp) (os : List CurveOp) (b : Nat), s.sec.ops = o :: os ∧ o.start = some b ∧ s.ticks < b + o.dur) ∧
    (∃ (s : State) (h : UmHdr) (p : List Byte), s.umCheck h 0x0A05 p.length = none ∧ leAt p 0 1 ≤ 1) ∧
    (∃ (s : State) (h : UmHdr) (p : List Byte), s.umCheck h 0x0A06 p.length = none ∧ p.length = 4 ∧ s.genNeeds h.carrier 1 = none) ∧
    (∃ (s : State), s.on 4 = true ∧ s.sec.lcNow = 2) :=
  ⟨⟨(rnger 0).updSec (fun c => { c with ops := [⟨.debugUnlock hdr (List.replicate 5 0 ++ 1 :: List.replicate 234 0), ceVerify, some 0⟩] }) |>.updUm (fun u => { u with owed := [(hdr, 0x0A04)] }), hdr, List.replicate 5 0 ++ 1 :: List.replicate 234 0, 1, by decide +kernel⟩,
   ⟨(rnger 0).updSec (fun c => { c with ops := [⟨.keyGen (.doe 0), 1, some (2 ^ 40)⟩] }), false, ⟨.keyGen (.doe 0), 1, some (2 ^ 40)⟩, [], 2 ^ 40, by decide +kernel⟩,
   ⟨(rnger 0).updSec (fun c => { c with key := some 5 }), hdr, [1], by decide +kernel⟩,
   ⟨openGen, hdrR, [1, 2, 3, 4], by decide +kernel⟩,
   ⟨(rnger 0).setFld Reg.SEC_STATE F.SEC_STATE_DBG 1, by decide +kernel⟩⟩

theorem witness_SecurityCommandsProtectTheDevice_5 :
    (∃ (s : State) (lc : BitVec 9) (g : FuseProg), s.sec.prog = some g ∧ g.lc &&& lc.toNat = g.lc ∧ s.sec.acts = []) ∧
    (∃ (s : State) (lc : BitVec 9) (g : FuseProg), s.sec.prog = some g ∧ s.sec.acts = []) :=
  ⟨⟨(rnger 0).updSec (fun c => { c with prog := some ⟨none, 2, none, none⟩ }), 2, ⟨none, 2, none, none⟩, by decide +kernel⟩,
   ⟨(rnger 0).updSec (fun c => { c with prog := some ⟨none, 2, none, none⟩ }), 0, ⟨none, 2, none, none⟩, by decide +kernel⟩⟩

theorem witness_SessionsStreamsAndInterfacesChangeState_1 :
    (∃ (s : State) (m : HLink) (q : List Byte), s.spdmHas (.doe m) none = true ∧ leAt q 1 1 = 0x84) ∧
    (∃ (s : State) (m : HLink) (q : List Byte), s.spdmHas (.doe m) none = true ∧ leAt q 1 1 = 0xE1 ∧ (leAt q 0 1 = 0x12 ∨ leAt q 0 1 = 0x13) ∧ (s.link m).spdm.stage = 1) ∧
    (∃ (s : State) (m : HLink) (q : List Byte), s.spdmHas (.doe m) none = true ∧ leAt q 1 1 = 0xE3 ∧ (s.link m).spdm.stage = 2) ∧
    (∃ (s : State) (m : HLink) (q : List Byte), s.spdmHas (.doe m) none = true ∧ leAt q 1 1 = 0xE4 ∧ (s.link m).spdm.stage = 3 ∧ s.sec.key.isSome = true ∧ s.rngReady = true ∧ s.sessionLoad (.doe m) < 4) ∧
    (∃ (s : State) (m : HLink) (q : List Byte), s.spdmHas (.doe m) none = true ∧ (s.link m).spdm.stage ≠ 3 ∧ leAt q 1 1 ≠ 0x84 ∧ leAt q 1 1 ≠ 0xE1 ∧ leAt q 1 1 ≠ 0xE3) :=
  ⟨⟨talker 1 0 id [], 0, [0x10, 0x84, 0, 0], by decide +kernel⟩,
   ⟨talker 1 0 (fun r => { r with stage := 1 }) [], 0, [0x12, 0xE1, 0, 0], by decide +kernel⟩,
   ⟨talker 1 0 (fun r => { r with stage := 2, version := 0x12 }) [], 0, [0x12, 0xE3, 0, 0], by decide +kernel⟩,
   ⟨talker 1 0 (fun r => { r with stage := 3, version := 0x12 }) [], 0, [0x12, 0xE4, 0, 0], by decide +kernel⟩,
   ⟨talker 1 0 id [], 0, [0x12, 0x81, 0, 0], by decide +kernel⟩⟩

theorem witness_SessionsStreamsAndInterfacesChangeState_2 :
    (∃ (s : State) (m : HLink) (n : Nat) (q : List Byte), s.spdmHas (.doe m) (some n) = true ∧ (s.link m).spdm.sessions = [⟨n, false⟩] ∧ leAt q 1 1 = 0xE5) ∧
    (∃ (s : State) (m : HLink) (n : Nat) (q : List Byte), s.spdmHas (.doe m) (some n) = true ∧ (s.link m).spdm.sessions = [⟨n, true⟩] ∧ leAt q 1 1 = 0xEC) ∧
    (∃ (s : State) (m : HLink) (o : List CurveOp) (a : List Byte) (n : Nat), s.sec.ops = ⟨.sign (.doe m) none a (some n), ceOne false, some 0⟩ :: o ∧ ceOne false ≤ s.ticks) ∧
    (∃ (s : State) (m : HLink) (n i : Nat), s.spdmHas (.doe m) (some n) = true ∧ s.isSecured (.doe m) n = true) ∧
    (∃ (s : State) (m : HLink) (n st ks dir sub : Nat) (key : List Byte), s.spdmHas (.doe m) (some n) = true ∧ s.isSecured (.doe m) n = true ∧ key.length = 40 ∧ keyOk st ks dir sub = true ∧ ((s.ideOf m st).uses ks dir sub = false ∨ dir = 0 ∨ (s.ideOf m st).state ≠ 2)) :=
  ⟨⟨talker 2 7 (fun r => { r with version := 0x12, sessions := [⟨7, false⟩] }) [], 0, 7, [0x12, 0xE5, 0, 0], by decide +kernel⟩,
   ⟨inSession [], 0, 7, [0x12, 0xEC, 0, 0], by decide +kernel⟩,
   ⟨(rnger 0).updSec (fun c => { c with ops := [⟨.sign (.doe 0) none [1] (some 7), ceOne false, some 0⟩] }), 0, [], [1], 7, by decide +kernel⟩,
   ⟨inSession [], 0, 7, 0, by decide +kernel⟩,
   ⟨inSession [], 0, 7, 1, 0, 1, 0, List.replicate 40 1, by decide +kernel⟩⟩

theorem witness_SessionsStreamsAndInterfacesChangeState_3 :
    (∃ (s : State) (m : HLink) (n st ks dir sub : Nat), s.spdmHas (.doe m) (some n) = true ∧ s.isSecured (.doe m) n = true ∧ keyOk st ks dir sub = true ∧ SMap.get [] (s.ideOf m st).keys (keyIdx ks dir sub) ≠ []) ∧
    (∃ (s : State) (m : HLink) (n st ks dir sub : Nat), s.spdmHas (.doe m) (some n) = true ∧ s.isSecured (.doe m) n = true ∧ keyOk st ks dir sub = true) ∧
    (∃ (s : State) (m : HLink) (st : Fin 17), (s.ideOf m st).state = 2) ∧
    (∃ (s : State) (m : HLink) (n sl st : Nat) (id : List Byte), s.spdmHas (.doe m) (some n) = true ∧ s.isSecured (.doe m) n = true ∧ s.tdiOf m id = some sl ∧ s.tdi sl = 0 ∧ 1 ≤ st ∧ st ≤ 16 ∧ (s.ideOf m st).state = 2 ∧ s.rngReady = true) ∧
    (∃ (s : State) (m : HLink) (n sl : Nat) (id nonce : List Byte), s.spdmHas (.doe m) (some n) = true ∧ s.isSecured (.doe m) n = true ∧ s.tdiOf m id = some sl ∧ s.tdi sl = 1 ∧ nonce ≠ [] ∧ SMap.get [] s.sec.tdiNonce sl = nonce) :=
  ⟨⟨inSession [(1, { secured with state := 1, go := [0, 1, 2, 17, 18] })], 0, 7, 1, 0, 1, 0, by decide +kernel⟩,
   ⟨inSession [(1, secured)], 0, 7, 1, 0, 1, 0, by decide +kernel⟩,
   ⟨inSession [(1, secured)], 0, 1, by decide +kernel⟩,
   ⟨inSession [(1, secured)], 0, 7, 5, 1, tdi5, by decide +kernel⟩,
   ⟨((inSession []).setTdi 5 1).updSec (fun c => { c with tdiNonce := [(5, [1])] }), 0, 7, 5, tdi5, [1], by decide +kernel⟩⟩

theorem witness_SessionsStreamsAndInterfacesChangeState_4 :
    (∃ (s : State) (m : HLink) (n sl : Nat) (id : List Byte), s.spdmHas (.doe m) (some n) = true ∧ s.isSecured (.doe m) n = true ∧ s.tdiOf m id = some sl) ∧
    (∃ (s : State) (m : HLink) (n sl : Nat) (id : List Byte), s.spdmHas (.doe m) (some n) = true ∧ s.isSecured (.doe m) n = true ∧ s.tdiOf m id = some sl) :=
  ⟨⟨(inSession []).setTdi 5 2, 0, 7, 5, tdi5, by decide +kernel⟩,
   ⟨inSession [], 0, 7, 5, tdi5, by decide +kernel⟩⟩

end Sys2Proof.Tests
end

section
/-! SUPPORT. The timeline in one Tc: the fields of a TL value and of the next one (R11, R57), and what the passing of a Tc
does to the count. -/

namespace Sys2Proof.Machine

/-! ## The fields of a TL value (R11, R57) -/

/-- The frame's number takes 39 bits, so a count's TL value is not cut by its 64 bits. -/
theorem tlOf_toNat {c : Nat} (h : c < piTl) : (tlOf c).toNat = c / frameTc * 2 ^ 25 + c % frameTc := by
  simp only [piTl, frameTc] at h
  simp only [tlOf, frameTc, BitVec.toNat_ofNat, Nat.shiftLeft_eq]
  omega

theorem wbits_tlOf_offset {c : Nat} (h : c < piTl) : wbits (tlOf c) 24 0 = c % frameTc := by
  simp only [wbits, bitsOf, tlOf_toNat h, Nat.shiftRight_eq_div_pow, frameTc]
  omega

theorem wbits_tlOf_frame {c : Nat} (h : c < piTl) : wbits (tlOf c) 34 25 = c / frameTc % 1024 := by
  simp only [wbits, bitsOf, tlOf_toNat h, Nat.shiftRight_eq_div_pow, frameTc]
  omega

theorem wbits_tlOf_hyperframe {c : Nat} (h : c < piTl) : wbits (tlOf c) 63 35 = c / frameTc / 1024 % 2 ^ 29 := by
  simp only [wbits, bitsOf, tlOf_toNat h, Nat.shiftRight_eq_div_pow, frameTc]
  omega

/-! ## The next count (R57) -/

theorem piTl_pos : 0 < piTl := by decide

theorem next_count_mod_frameTc (c : Nat) :
    (c + 1) % piTl % frameTc = if c % frameTc = 19660799 then 0 else c % frameTc + 1 := by
  rw [piTl, Nat.mod_mul_left_mod, frameTc]
  split <;> omega

/-- The frame's number, hyperframe included, moves with the last offset of a frame and wraps at 2^39. -/
theorem next_count_div_frameTc {c : Nat} (h : c < piTl) :
    (c + 1) % piTl / frameTc = if c % frameTc = 19660799 then (c / frameTc + 1) % 2 ^ 39 else c / frameTc := by
  have hq : c / frameTc < 2 ^ 39 := Nat.div_lt_of_lt_mul (by rwa [Nat.mul_comm])
  rw [piTl, Nat.mod_mul_left_div_self]
  rw [frameTc] at hq ⊢
  split <;> omega

/-! ## The count in one Tc -/

theorem State.on_addCnt (s : State) {k : Nat} (n max d : Nat) (h : k ≠ Reg.PW_ON) : (s.addCnt k n max).on d = s.on d :=
  State.on_wrW s _ d h

@[simp] theorem State.countQuad_tk (s : State) (i : Nat) : (s.countQuad i).tk = s.tk :=
  (State.countQuad_in s i).same .tk rfl

theorem State.on_countQuad (s : State) (i d : Nat) : (s.countQuad i).on d = s.on d := by
  unfold State.countQuad
  split
  · exact State.on_addCnt _ _ _ _ (by simp only [Reg.TL_QSTR_COUNT, Reg.PW_ON]; omega)
  · rfl

/-- A stretched cycle is counted without touching the timeline's count or a domain's power. -/
theorem State.countStretch_count_on (s : State) :
    s.countStretch.tk.count = s.tk.count ∧ ∀ d, s.countStretch.on d = s.on d := by
  have hTotal : Reg.TL_STR_TOTAL ≠ Reg.PW_ON := by decide
  have hCore : Reg.TL_CSTR_COUNT ≠ Reg.PW_ON := by decide
  unfold State.countStretch
  extract_lets quiet m total quads core seen
  have hseen : seen.tk.count = s.tk.count ∧ ∀ d, seen.on d = s.on d := by
    simp only [seen, core]
    split <;> simp [quads, total, State.on_countQuad, State.on_addCnt, hTotal, hCore]
  split
  · exact ⟨by rw [State.evTl_tk, hseen.1], fun d => by rw [State.on_evTl _ (by decide), hseen.2]⟩
  · exact hseen

theorem State.coreTick_count_on (s : State) : s.coreTick.tk.count = s.tk.count ∧ ∀ d, s.coreTick.on d = s.on d := by
  unfold State.coreTick
  dsimp only
  split
  · split
    · exact State.countStretch_count_on s
    · exact ⟨rfl, fun _ => rfl⟩
  · exact ⟨rfl, fun _ => rfl⟩

/-- While TK is on, the clocks' Tc moves the count by one, modulo Π. -/
theorem State.tick_count {s : State} (h : s.on 2 = true) : s.tick.tk.count = (s.tk.count + 1) % piTl := by
  unfold State.tick
  extract_lets began aon core gone counted
  have haon : aon.tk = s.tk ∧ ∀ d, aon.on d = s.on d := by
    unfold aon
    split <;> exact ⟨rfl, fun _ => rfl⟩
  have hcore : core.tk.count = s.tk.count ∧ ∀ d, core.on d = s.on d := by
    unfold core
    split
    · obtain ⟨hc, hon⟩ := State.coreTick_count_on aon
      exact ⟨by rw [hc, haon.1], fun d => by rw [hon, haon.2]⟩
    · exact ⟨by rw [haon.1], haon.2⟩
  rw [if_pos ((hcore.2 2).trans h), (State.ppsStale_in counted).same .tk rfl]
  exact congrArg (fun c => (c + 1) % piTl) hcore.1

/-- What follows the clocks in a Tc leaves the Timekeeper alone. -/
theorem State.passTick_tk (s : State) : s.passTick.tk = s.tick.tk :=
  calc s.passTick.tk
    _ = s.tickAll.freeTick.shedCheck.applyMgr.tk := (State.egressTick_in _).same .tk rfl
    _ = s.tickAll.freeTick.shedCheck.tk := (State.applyMgr_in _).same .tk rfl
    _ = s.tickAll.freeTick.tk := (State.shedCheck_in _).same .tk rfl
    _ = s.tickAll.tk := (State.freeTick_in _).same .tk rfl
    _ = s.tick.tk := (State.idleTick_in _).same .tk rfl

theorem State.passTick_count {s : State} (h : s.on 2 = true) : s.passTick.tk.count = (s.tk.count + 1) % piTl := by
  rw [State.passTick_tk, State.tick_count h]

theorem step_idle {s : State} (h : s.pending = []) : step s = .next s.passTick := by
  rw [step, h]

/-! ## The obligation -/

/-- Settles O9: the passing of a Tc moves the count by one modulo Π, and the fields of the next count's TL value are told
from those of the count's. -/
theorem theTimelineAdvancesByOne : Obligations.TheTimelineAdvancesByOne := by
  intro s hidle hon hc
  have hnext : s.passTick.tk.count = (s.tk.count + 1) % piTl := State.passTick_count hon
  have hlt : (s.tk.count + 1) % piTl < piTl := Nat.mod_lt _ piTl_pos
  refine ⟨s.passTick, step_idle hidle, ?_⟩
  simp only [State.now, hnext, wbits_tlOf_offset hc, wbits_tlOf_frame hc, wbits_tlOf_hyperframe hc,
    wbits_tlOf_offset hlt, wbits_tlOf_frame hlt, wbits_tlOf_hyperframe hlt]
  refine ⟨hlt, Nat.mod_lt _ (by decide), next_count_mod_frameTc _, ?_, ?_⟩
  · rw [next_count_div_frameTc hc]
    split <;> omega
  · rw [next_count_div_frameTc hc]
    by_cases hlast : s.tk.count % frameTc = 19660799
    · simp only [hlast, if_true, true_and]
      split <;> omega
    · simp only [hlast, if_false, false_and]

end Sys2Proof.Machine
end

section
/-! SUPPORT. One step of a counter (R93): the value, what it keeps of the rest, and its trace among what hardware has done to
registers in the present Tc (R15). -/

namespace Sys2Proof.Machine

/-! ## The value (R93) -/

theorem State.rdW_cnt_toNat (s : State) (k : Nat) :
    ((s.cnt k).rdW k).toNat = min ((s.rdW k).toNat + 1) 0xFFFFFFFF := by
  rw [State.rdW_cnt, BitVec.toNat_ofNat]
  omega

theorem State.cnt_frame (s : State) (k : Nat) : Frame [.regs, .hot] s (s.cnt k) :=
  (State.cnt_in s k).frame fun p => by cases p <;> decide

/-- What holds of O10's statement: all of it, once the frame also names what hardware has done in the present Tc. -/
theorem State.cnt_adds_one_and_saturates {s : State} {k : Nat} (hmax : (s.rdW k).toNat ≤ 0xFFFFFFFF) :
    ((s.cnt k).rdW k).toNat = (if (s.rdW k).toNat = 0xFFFFFFFF then 0xFFFFFFFF else (s.rdW k).toNat + 1) ∧
    ((s.cnt k).rdW k).toNat ≤ 0xFFFFFFFF ∧ (∀ j, j ≠ k → (s.cnt k).rdW j = s.rdW j) ∧ Frame [.regs, .hot] s (s.cnt k) := by
  rw [State.rdW_cnt_toNat]
  refine ⟨?_, Nat.min_le_right _ _, fun j hj => State.rdW_cnt_other s hj, State.cnt_frame s k⟩
  split <;> omega

/-! ## The trace of the step (R15) -/

theorem State.hotOf_of_hot {s t : State} (h : t.hot = s.hot) (k : Nat) : t.hotOf k = s.hotOf k := by
  simp only [State.hotOf, h]

theorem State.hotOf_heat_same (s : State) (k : Nat) (f : Hot → Hot) : (s.heat k f).hotOf k = f (s.hotOf k) :=
  SMap.get_upd_same _ _ _ _

theorem State.hotOf_cnt_add (s : State) (k : Nat) : ((s.cnt k).hotOf k).add = (s.hotOf k).add + 1 := by
  rw [State.cnt, State.addCnt, State.hotOf_heat_same, State.hotOf_of_hot (State.wrW_hot s k _)]

/-- The addition stays in the state until the Tc ends, so that a clearing read of the same Tc keeps it. -/
theorem State.cnt_hot_ne (s : State) (k : Nat) : (s.cnt k).hot ≠ s.hot := by
  intro hhot
  have hadd : ((s.cnt k).hotOf k).add = (s.hotOf k).add + 1 := State.hotOf_cnt_add s k
  rw [State.hotOf_of_hot hhot] at hadd
  omega

/-! ## The obligation -/

/-- Refutes O10: the frame lets the registers alone change, and the step of a counter also records its addition in
`State.hot`, the model's own field for R15 (log 9), by which a count that meets a clearing read in its Tc is kept. The
counterexample is the first calibration counter of CH0 after reset. The value, the bound and the other registers are as
stated (`State.cnt_adds_one_and_saturates`). -/
theorem not_countersAddOneAndSaturate : ¬ Obligations.CountersAddOneAndSaturate := by
  intro h
  obtain ⟨-, -, -, hframe⟩ := h State.reset (Reg.CH_CALSAT 0 0) (by decide +kernel)
  exact State.cnt_hot_ne State.reset (Reg.CH_CALSAT 0 0) (hframe .hot (by decide))

end Sys2Proof.Machine
end

section
/-! SUPPORT. What every command may change, and what every step keeps: the front of the queue, the parts of `touches`, the
register images, the trouble log's queue and the clocks. -/

namespace Sys2Proof.Machine

-- The proofs are elaborated one after another: in parallel, each waits in a thread of its own for those before it, and the
-- threads' stacks go beyond the memory of a compile.
set_option Elab.async false

/-! ## The parts of a command as a mask -/

/-- The mask of a list of parts. -/
def partsMask : List Part → Nat
  | [] => 0
  | p :: ps => 1 <<< p.idx ||| partsMask ps

theorem Part.idx_inj {p q : Part} (h : p.idx = q.idx) : p = q := by
  have hpart : ∀ p : Part, (([.pending, .ticks, .aon, .aonLeft, .core, .coreQ, .regs, .gen, .staged, .latches, .heldWr, .tk,
      .log, .calBad, .pails, .banks, .repairDue, .units, .groups, .spares, .chans, .slices, .ports, .links, .um, .pw, .rs,
      .cl, .tw, .sec, .flash, .image, .fresh, .out, .hot, .eg, .calDue] : List Part)[p.idx]?) = some p := by
    intro p
    cases p <;> rfl
  exact Option.some.inj (by rw [← hpart p, ← hpart q, h])

theorem partsMask_testBit {p : Part} {ps : List Part} (h : p ∉ ps) : (partsMask ps).testBit p.idx = false := by
  induction ps with
  | nil => exact Nat.zero_testBit _
  | cons q ps ih =>
    obtain ⟨hq, hps⟩ := not_or.1 (mt List.mem_cons.2 h)
    have hidx : q.idx ≠ p.idx := fun e => hq (Part.idx_inj e).symm
    simp only [partsMask, Nat.testBit_or, Nat.one_shiftLeft, Nat.testBit_two_pow_of_ne hidx, ih hps, Bool.or_false]

/-- Every command stays within its own parts and keeps the register images canonical and the log's queue within its places:
the row's own law, for each row. -/
theorem exec_within : ∀ (c : Instr) (s : State), WithinR (partsMask (touches c)) s (exec c s)
  | .aonPowerOn, _ => execAonPowerOn_in _
  | .brownout .., _ => execBrownout_in _ _ _
  | .resetNAccepted, _ => execResetNAccepted_in _
  | .resetNRelease, _ => execResetNRelease_in _
  | .creameryWatchdogExpiry, _ => execCreameryWatchdogExpiry_in _
  | .criticalStateError .., _ => execCriticalStateError_in _ _
  | .resetSwitchesOpen, _ => execResetSwitchesOpen_in _
  | .heldExit, _ => execHeldExit_in _
  | .strapComplete .., _ => execStrapComplete_in _ _ _ _ _
  | .bringupRowRelease .., _ => execBringupRowRelease_in _ _ _
  | .bootSourceFail .., _ => execBootSourceFail_in _ _
  | .firmwareVerified .., _ => execFirmwareVerified_in _ _
  | .readyEntry .., _ => execReadyEntry_in _ _
  | .refDeclaredAbsent, _ => execRefDeclaredAbsent_in _
  | .refDeclaredPresent, _ => execRefDeclaredPresent_in _
  | .pllLockAcquired, _ => execPllLockAcquired_in _
  | .pllLockLost, _ => execPllLockLost_in _
  | .ppsEdge .., _ => execPpsEdge_in _ _
  | .ppsMiss, _ => execPpsMiss_in _
  | .tlStateChange, _ => execTlStateChange_in _
  | .tlSetTimeout, _ => execTlSetTimeout_in _
  | .tlCtrlInvalidate, _ => execTlCtrlInvalidate_in _
  | .tlCtrlClrStr, _ => execTlCtrlClrStr_in _
  | .alarmFire .., _ => execAlarmFire_in _ _
  | .alarmWakeStart .., _ => execAlarmWakeStart_in _ _
  | .aonRatioMeasure .., _ => execAonRatioMeasure_in _ _
  | .stretchEpisodeStart .., _ => execStretchEpisodeStart_in _ _
  | .stretchEpisodeEnd, _ => execStretchEpisodeEnd_in _
  | .portCalibration .., _ => execPortCalibration_in _ _ _
  | .alinkTxRead .., _ => execAlinkTxRead_in _ _ _
  | .releaseMissedDeadline .., _ => execReleaseMissedDeadline_in _ _
  | .heldReleaseTimeout .., _ => execHeldReleaseTimeout_in _ _
  | .alinkSlotSend .., _ => execAlinkSlotSend_in _ _
  | .churnUplinkPassStart .., _ => execChurnUplinkPassStart_in _ _ _
  | .churnDownlinkPassStart .., _ => execChurnDownlinkPassStart_in _ _ _
  | .churnPassCommit .., _ => execChurnPassCommit_in _ _ _ _
  | .chParityError .., _ => execChParityError_in _ _
  | .weightWindowWrite .., _ => execWeightWindowWrite_in _ _ _ _ _ _
  | .wbCtrlSync .., _ => execWbCtrlSync_in _ _
  | .wbSyncComplete .., _ => execWbSyncComplete_in _ _
  | .wbCtrlRestore .., _ => execWbCtrlRestore_in _ _
  | .wbRestoreComplete .., _ => execWbRestoreComplete_in _ _
  | .wbRestoreExchange .., _ => execWbRestoreExchange_in _ _
  | .weightLockEnd .., _ => execWeightLockEnd_in _ _
  | .weightZeroingComplete .., _ => execWeightZeroingComplete_in _ _
  | .spareCtrlGo .., _ => execSpareCtrlGo_in _ _ _
  | .sparePreparationDone .., _ => execSparePreparationDone_in _ _
  | .spareSwitch .., _ => execSpareSwitch_in _ _
  | .spareCounterMerge .., _ => execSpareCounterMerge_in _ _
  | .spareCtrlReinstate .., _ => execSpareCtrlReinstate_in _ _ _
  | .reinstateTestDone .., _ => execReinstateTestDone_in _ _ _
  | .blockHeaderArrival .., _ => execBlockHeaderArrival_in _ _
  | .blockCommit .., _ => execBlockCommit_in _ _ _
  | .bankInitComplete .., _ => execBankInitComplete_in _ _
  | .vatRprReq .., _ => execVatRprReq_in _ _
  | .remapApply .., _ => execRemapApply_in _ _
  | .dmaStart .., _ => execDmaStart_in _ _
  | .dmaStopReq .., _ => execDmaStopReq_in _ _
  | .dmaCancel .., _ => execDmaCancel_in _ _
  | .dmaClrErr .., _ => execDmaClrErr_in _ _
  | .dmaChainStart .., _ => execDmaChainStart_in _ _ _
  | .dmaReleaseTest .., _ => execDmaReleaseTest_in _ _
  | .dmaRoomReady .., _ => execDmaRoomReady_in _ _
  | .dmaRequestIssue .., _ => execDmaRequestIssue_in _ _ _
  | .dmaReadCompletion .., _ => execDmaReadCompletion_in _ _ _ _ _
  | .dmaReadTimeout .., _ => execDmaReadTimeout_in _ _
  | .dmaRecordWrite .., _ => execDmaRecordWrite_in _ _
  | .dmaRetire .., _ => execDmaRetire_in _ _
  | .dmaFetch .., _ => execDmaFetch_in _ _
  | .dmaFetchComplete .., _ => execDmaFetchComplete_in _ _ _ _
  | .dmaMissMaster .., _ => execDmaMissMaster_in _ _
  | .frameReceive .., _ => execFrameReceive_in _ _ _ _ _ _ _
  | .credit .., _ => execCredit_in _ _ _
  | .ledger .., _ => execLedger_in _ _ _
  | .cresync .., _ => execCresync_in _ _ _
  | .ack .., _ => execAck_in _ _ _
  | .dlyRsp .., _ => execDlyRsp_in _ _ _ _
  | .epoch .., _ => execEpoch_in _ _ _
  | .leTod .., _ => execLeTod_in _ _ _ _
  | .status .., _ => execStatus_in _ _ _
  | .spareReady .., _ => execSpareReady_in _ _ _
  | .laneSwap .., _ => execLaneSwap_in _ _
  | .spareAbortTimeout .., _ => execSpareAbortTimeout_in _ _
  | .auditLate .., _ => execAuditLate_in _ _
  | .replayTimeout .., _ => execReplayTimeout_in _ _
  | .calibrationRequest .., _ => execCalibrationRequest_in _ _
  | .dlyRspMissing .., _ => execDlyRspMissing_in _ _
  | .alCtrlRetrain .., _ => execAlCtrlRetrain_in _ _
  | .presenceProbe .., _ => execPresenceProbe_in _ _ _
  | .receiverLock .., _ => execReceiverLock_in _ _
  | .frameLock .., _ => execFrameLock_in _ _
  | .cfgDone .., _ => execCfgDone_in _ _
  | .calibrateComplete .., _ => execCalibrateComplete_in _ _
  | .trainingTimeout .., _ => execTrainingTimeout_in _ _
  | .trainingRetry .., _ => execTrainingRetry_in _ _
  | .recoveredClockLoss .., _ => execRecoveredClockLoss_in _ _ _
  | .inhibitMuteCheck .., _ => execInhibitMuteCheck_in _ _
  | .hostBar4Write .., _ => execHostBar4Write_in _ _ _ _
  | .hostBar4Read .., _ => execHostBar4Read_in _ _ _ _
  | .hostReadTimeout .., _ => execHostReadTimeout_in _ _ _
  | .cpl .., _ => execCpl_in _ _ _ _
  | .err .., _ => execErr_in _ _ _
  | .retry .., _ => execRetry_in _ _ _
  | .wr .., _ => execWr_in _ _ _ _ _
  | .rd .., _ => execRd_in _ _ _ _
  | .bridgeFetchComplete .., _ => execBridgeFetchComplete_in _ _ _ _ _
  | .bridgeHoldExpiry .., _ => execBridgeHoldExpiry_in _ _ _
  | .perstNAssert .., _ => execPerstNAssert_in _ _
  | .perstNDeassert .., _ => execPerstNDeassert_in _ _ _
  | .hotReset .., _ => execHotReset_in _ _ _
  | .hlPortRetrain .., _ => execHlPortRetrain_in _ _
  | .flr .., _ => execFlr_in _ _
  | .flrComplete .., _ => execFlrComplete_in _ _
  | .configRequest .., _ => execConfigRequest_in _ _ _ _ _ _
  | .busMasterEnableClear .., _ => execBusMasterEnableClear_in _ _
  | .busMasterEnableSet .., _ => execBusMasterEnableSet_in _ _
  | .memorySpaceEnableChange .., _ => execMemorySpaceEnableChange_in _ _ _
  | .dStateChange .., _ => execDStateChange_in _ _ _
  | .hostLinkUp .., _ => execHostLinkUp_in _ _ _ _ _
  | .hostLinkDown .., _ => execHostLinkDown_in _ _
  | .hostLinkRateWidthChange .., _ => execHostLinkRateWidthChange_in _ _ _ _
  | .l0pNarrowing .., _ => execL0pNarrowing_in _ _ _ _
  | .l1Request .., _ => execL1Request_in _ _
  | .l1ExitStart .., _ => execL1ExitStart_in _ _
  | .atsInvalidationRequest .., _ => execAtsInvalidationRequest_in _ _ _ _ _ _
  | .atsInvalidationComplete .., _ => execAtsInvalidationComplete_in _ _
  | .doeObject .., _ => execDoeObject_in _ _ _
  | .bar0Access .., _ => execBar0Access_in _ _ _ _ _ _ _
  | .bar2Access .., _ => execBar2Access_in _ _ _ _ _ _ _
  | .expansionRomRead .., _ => execExpansionRomRead_in _ _ _ _
  | .postedWritePoisoned .., _ => execPostedWritePoisoned_in _ _
  | .unexpectedCompletion .., _ => execUnexpectedCompletion_in _ _
  | .msixSend .., _ => execMsixSend_in _ _
  | .msixTableWrite .., _ => execMsixTableWrite_in _ _ _ _ _
  | .evInject .., _ => execEvInject_in _ _
  | .alertNRelease, _ => execAlertNRelease_in _
  | .slDbin .., _ => execSlDbin_in _ _ _
  | .slDboutAck .., _ => execSlDboutAck_in _ _
  | .slCtrlFence .., _ => execSlCtrlFence_in _ _ _
  | .slCtrlKill .., _ => execSlCtrlKill_in _ _
  | .umSqTailWrite .., _ => execUmSqTailWrite_in _ _
  | .umPacketExecute .., _ => execUmPacketExecute_in _ _ _
  | .umReplyPost .., _ => execUmReplyPost_in _ _
  | .umRqHeadWrite .., _ => execUmRqHeadWrite_in _ _
  | .umCtrlReset, _ => execUmCtrlReset_in _
  | .mctpMessage .., _ => execMctpMessage_in _ _ _ _
  | .setEndpointId .., _ => execSetEndpointId_in _ _ _ _ _
  | .getEndpointId .., _ => execGetEndpointId_in _ _ _ _ _
  | .getMctpVersionSupport .., _ => execGetMctpVersionSupport_in _ _ _ _ _
  | .getMessageTypeSupport .., _ => execGetMessageTypeSupport_in _ _ _ _ _
  | .getVendorDefinedMessageSupport .., _ => execGetVendorDefinedMessageSupport_in _ _ _ _ _
  | .pldmFirmwareData .., _ => execPldmFirmwareData_in _ _ _
  | .identify .., _ => execIdentify_in _ _ _
  | .ping .., _ => execPing_in _ _ _
  | .rtRead .., _ => execRtRead_in _ _ _
  | .mgrLinkSet .., _ => execMgrLinkSet_in _ _ _
  | .genOpen .., _ => execGenOpen_in _ _ _
  | .genAbort .., _ => execGenAbort_in _ _ _
  | .regWrite .., _ => execRegWrite_in _ _ _ _
  | .regRead .., _ => execRegRead_in _ _ _ _
  | .commitAt .., _ => execCommitAt_in _ _ _
  | .commitChecksComplete, _ => execCommitChecksComplete_in _
  | .genTakesEffect, _ => execGenTakesEffect_in _
  | .genCancel .., _ => execGenCancel_in _ _ _
  | .genStatus .., _ => execGenStatus_in _ _ _
  | .genDump .., _ => execGenDump_in _ _ _
  | .stagedParity .., _ => execStagedParity_in _ _
  | .tlSet .., _ => execTlSet_in _ _ _
  | .tlGet .., _ => execTlGet_in _ _ _
  | .tlAlarmSet .., _ => execTlAlarmSet_in _ _ _
  | .alRetrain .., _ => execAlRetrain_in _ _ _
  | .alStatus .., _ => execAlStatus_in _ _ _
  | .alSpare .., _ => execAlSpare_in _ _ _
  | .alCal .., _ => execAlCal_in _ _ _
  | .alLedger .., _ => execAlLedger_in _ _ _
  | .wbWrite .., _ => execWbWrite_in _ _ _ _
  | .wbRead .., _ => execWbRead_in _ _ _ _
  | .wbSync .., _ => execWbSync_in _ _ _
  | .wbRestore .., _ => execWbRestore_in _ _ _
  | .spareGo .., _ => execSpareGo_in _ _ _
  | .spareReinstate .., _ => execSpareReinstate_in _ _ _
  | .chCounters .., _ => execChCounters_in _ _ _
  | .sliceBind .., _ => execSliceBind_in _ _ _
  | .sliceUnbind .., _ => execSliceUnbind_in _ _ _
  | .sliceFence .., _ => execSliceFence_in _ _ _
  | .sliceKill .., _ => execSliceKill_in _ _ _
  | .mboxGet .., _ => execMboxGet_in _ _ _
  | .mboxPut .., _ => execMboxPut_in _ _ _
  | .sliceStatus .., _ => execSliceStatus_in _ _ _
  | .dmaWheelSet .., _ => execDmaWheelSet_in _ _ _
  | .dmaOwnSet .., _ => execDmaOwnSet_in _ _ _
  | .dmaStgqSet .., _ => execDmaStgqSet_in _ _ _
  | .dmaChanRead .., _ => execDmaChanRead_in _ _ _
  | .dmaChanCtrl .., _ => execDmaChanCtrl_in _ _ _
  | .modeSet .., _ => execModeSet_in _ _ _
  | .drainComplete, _ => execDrainComplete_in _
  | .drainLimitExpiry, _ => execDrainLimitExpiry_in _
  | .modeGet .., _ => execModeGet_in _ _ _
  | .pwVote .., _ => execPwVote_in _ _ _
  | .pwStatus .., _ => execPwStatus_in _ _ _
  | .dozeCfg .., _ => execDozeCfg_in _ _ _
  | .twRoleSet .., _ => execTwRoleSet_in _ _ _
  | .twSwitchover .., _ => execTwSwitchover_in _ _ _
  | .switchoverHandoff, _ => execSwitchoverHandoff_in _
  | .twStatus .., _ => execTwStatus_in _ _ _
  | .herdAddrSet .., _ => execHerdAddrSet_in _ _ _
  | .herdStatus .., _ => execHerdStatus_in _ _ _
  | .clCal .., _ => execClCal_in _ _ _
  | .secStatus .., _ => execSecStatus_in _ _ _
  | .fwLoad .., _ => execFwLoad_in _ _ _
  | .fwActivate .., _ => execFwActivate_in _ _ _
  | .lcAdvance .., _ => execLcAdvance_in _ _ _ _
  | .debugUnlock .., _ => execDebugUnlock_in _ _ _
  | .secZeroize .., _ => execSecZeroize_in _ _ _
  | .tamperCfg .., _ => execTamperCfg_in _ _ _
  | .logRead .., _ => execLogRead_in _ _ _ _
  | .logMark .., _ => execLogMark_in _ _ _
  | .workReport .., _ => execWorkReport_in _ _ _
  | .evRead .., _ => execEvRead_in _ _ _
  | .evClear .., _ => execEvClear_in _ _ _
  | .rsCauseGet .., _ => execRsCauseGet_in _ _ _
  | .resetDomain .., _ => execResetDomain_in _ _ _
  | .domainResetComplete, _ => execDomainResetComplete_in _
  | .umReset .., _ => execUmReset_in _ _ _
  | .heartbeatInstant, _ => execHeartbeatInstant_in _
  | .heartbeat .., _ => execHeartbeat_in _ _ _ _ _
  | .takeoverComplete, _ => execTakeoverComplete_in _
  | .epochStepDown, _ => execEpochStepDown_in _
  | .stagedWr .., _ => execStagedWr_in _ _ _
  | .shadowWr .., _ => execShadowWr_in _ _ _
  | .genCmd .., _ => execGenCmd_in _ _ _
  | .commit .., _ => execCommit_in _ _ _
  | .commitAck .., _ => execCommitAck_in _ _ _
  | .commitAckTimeout, _ => execCommitAckTimeout_in _
  | .chan .., _ => execChan_in _ _ _
  | .syncReg .., _ => execSyncReg_in _ _ _
  | .syncWt .., _ => execSyncWt_in _ _ _
  | .syncDone .., _ => execSyncDone_in _ _ _ _
  | .peerReset .., _ => execPeerReset_in _ _ _
  | .twCtrlPeerReset, _ => execTwCtrlPeerReset_in _
  | .twCtrlResync, _ => execTwCtrlResync_in _
  | .clPortRetrain .., _ => execClPortRetrain_in _ _
  | .clotonCalibration .., _ => execClotonCalibration_in _ _
  | .digest .., _ => execDigest_in _ _ _ _ _
  | .timemark .., _ => execTimemark_in _ _ _ _ _
  | .hready .., _ => execHready_in _ _ _ _
  | .habort .., _ => execHabort_in _ _ _ _ _
  | .herdGuardCheck, _ => execHerdGuardCheck_in _
  | .herdCellForward .., _ => execHerdCellForward_in _ _ _
  | .domainEntryStart .., _ => execDomainEntryStart_in _ _
  | .domainSwitchOff .., _ => execDomainSwitchOff_in _ _
  | .domainEntryAbort .., _ => execDomainEntryAbort_in _ _ _
  | .domainReleased .., _ => execDomainReleased_in _ _ _
  | .pwHvote33Write .., _ => execPwHvote33Write_in _ _
  | .sleepEntry, _ => execSleepEntry_in _
  | .sleepEntryWait, _ => execSleepEntryWait_in _
  | .wake .., _ => execWake_in _ _ _
  | .sidebandAddressMatch .., _ => execSidebandAddressMatch_in _ _
  | .inbandWake .., _ => execInbandWake_in _ _
  | .gpioWake .., _ => execGpioWake_in _ _
  | .dozeSample .., _ => execDozeSample_in _ _ _ _ _ _
  | .supplyDipRecorded .., _ => execSupplyDipRecorded_in _ _ _ _
  | .supplyDipEnd .., _ => execSupplyDipEnd_in _ _ _ _
  | .supplyOver .., _ => execSupplyOver_in _ _ _
  | .supplyShed, _ => execSupplyShed_in _
  | .supplyReturn, _ => execSupplyReturn_in _
  | .thermalConversion .., _ => execThermalConversion_in _ _
  | .pwShedCtrlRestore .., _ => execPwShedCtrlRestore_in _ _
  | .noiseHealthFailure .., _ => execNoiseHealthFailure_in _ _ _
  | .drbgRestart, _ => execDrbgRestart_in _
  | .drbgInstantiated, _ => execDrbgInstantiated_in _
  | .secRngCtrlRetry, _ => execSecRngCtrlRetry_in _
  | .drbgReseed, _ => execDrbgReseed_in _
  | .curveOperationComplete .., _ => execCurveOperationComplete_in _ _
  | .tamperTrip .., _ => execTamperTrip_in _ _ _
  | .secDbgCtrlLock, _ => execSecDbgCtrlLock_in _
  | .tapInstruction .., _ => execTapInstruction_in _ _
  | .spdmRequest .., _ => execSpdmRequest_in _ _ _ _
  | .query .., _ => execQuery_in _ _ _ _ _
  | .keyProg .., _ => execKeyProg_in _ _ _ _ _ _ _ _ _
  | .kSetGo .., _ => execKSetGo_in _ _ _ _ _ _ _ _
  | .kSetStop .., _ => execKSetStop_in _ _ _ _ _ _ _ _
  | .ideFail .., _ => execIdeFail_in _ _ _
  | .lockInterface .., _ => execLockInterface_in _ _ _ _ _ _
  | .startInterface .., _ => execStartInterface_in _ _ _ _ _ _
  | .stopInterface .., _ => execStopInterface_in _ _ _ _ _
  | .getDeviceInterfaceState .., _ => execGetDeviceInterfaceState_in _ _ _ _ _
  | .logQueueWrite, _ => execLogQueueWrite_in _
  | .logRdseqWrite .., _ => execLogRdseqWrite_in _ _
  | .repairRecordWrite .., _ => execRepairRecordWrite_in _ _
  | .registerWrite .., _ => execRegisterWrite_in _ _ _ _ _
  | .registerReadClear .., _ => execRegisterReadClear_in _ _ _
  | .bridgeFetchTimeout .., _ => execBridgeFetchTimeout_in _ _ _
  | .l1ExitComplete .., _ => execL1ExitComplete_in _ _
  | .l2L3ReadyEntry .., _ => execL2L3ReadyEntry_in _ _
  | .resetDomainDeviceStart, _ => execResetDomainDeviceStart_in _
  | .clotonSlotSend .., _ => execClotonSlotSend_in _ _
  | .dlyReq .., _ => execDlyReq_in _ _ _ _
  | .spare .., _ => execSpare_in _ _ _
  | .timelineSchedulerVote, _ => execTimelineSchedulerVote_in _
  | .alertResponseAddress, _ => execAlertResponseAddress_in _
  | .aonComparatorThermal .., _ => execAonComparatorThermal_in _ _
  | .fuseProgrammingComplete .., _ => execFuseProgrammingComplete_in _ _ _
  | .slotBCopyComplete, _ => execSlotBCopyComplete_in _
  | .translationCompletion .., _ => execTranslationCompletion_in _ _ _ _ _ _
  | .tlUncertGrowth, _ => execTlUncertGrowth_in _

/-! ## Every command answers a next state -/

/-- A meaning answers a next state: it neither faults nor is refused. -/
def Answers (r : Res) : Prop := ∃ t, r = .next t

theorem Answers.next (t : State) : Answers (.next t) := ⟨t, rfl⟩

theorem Answers.ite {c : Prop} [Decidable c] {r r' : Res} (h : Answers r) (h' : Answers r') :
    Answers (if c then r else r') := by split <;> assumption

theorem State.umRun_answers (s : State) (h : UmHdr) (op len : Nat) (body : State → State) :
    Answers (s.umRun h op len body) := by
  unfold State.umRun
  split <;> exact .next _

theorem State.slRun_answers (s : State) (h : UmHdr) (op len : Nat) (body : State → State) :
    Answers (s.slRun h op len body) := s.umRun_answers ..

theorem State.pciRun_answers (s : State) (src : SpdmSrc) (session m : Nat) (act : State → State) :
    Answers (s.pciRun src session m act) := .ite (.ite (.next _) (.next _)) (.next _)

/-- Every command but UM_PACKET_EXECUTE, by the shape of its meaning: Umger's commands run or are refused with a status,
PCI-SIG messages are acted on or answered with an error, and a row acts where its condition holds. -/
theorem exec_answers_of_ne_packet (c : Instr) (s : State) (hc : ∀ v hits, c ≠ .umPacketExecute v hits) :
    Answers (exec c s) := by
  cases c
  case umPacketExecute => exact absurd rfl (hc _ _)
  all_goals dsimp only [exec]
  case identify | ping | rtRead | mgrLinkSet | genOpen | genAbort | regWrite | regRead | genCancel | genStatus
      | genDump | tlSet | tlGet | tlAlarmSet | alRetrain | alStatus | alSpare | alCal | alLedger | wbWrite | wbRead
      | wbSync | wbRestore | spareGo | spareReinstate | chCounters | sliceBind | dmaWheelSet | dmaOwnSet | dmaStgqSet
      | dmaChanRead | dmaChanCtrl | modeSet | modeGet | pwVote | pwStatus | dozeCfg | twRoleSet | twSwitchover
      | twStatus | herdAddrSet | herdStatus | clCal | secStatus | fwLoad | fwActivate | lcAdvance | debugUnlock
      | secZeroize | tamperCfg | logRead | logMark | workReport | evRead | evClear | rsCauseGet | resetDomain
      | umReset =>
    exact State.umRun_answers ..
  case sliceUnbind | sliceFence | sliceKill | mboxGet | mboxPut | sliceStatus =>
    exact State.slRun_answers ..
  case query | keyProg | kSetGo | kSetStop | lockInterface | startInterface | stopInterface | getDeviceInterfaceState =>
    exact State.pciRun_answers ..
  case refDeclaredAbsent | wbCtrlSync | wbCtrlRestore | spareCtrlGo | spareCtrlReinstate | vatRprReq | dmaStart
      | dmaStopReq | dmaCancel | dmaClrErr | dmaRetire | alCtrlRetrain | hlPortRetrain | flrComplete | slCtrlFence
      | slCtrlKill | mctpMessage | setEndpointId | getEndpointId | getMctpVersionSupport | getMessageTypeSupport
      | getVendorDefinedMessageSupport | twCtrlPeerReset | twCtrlResync | clPortRetrain | pwShedCtrlRestore
      | tapInstruction | logRdseqWrite | timelineSchedulerVote =>
    exact .next _
  case aonPowerOn | resetNAccepted | creameryWatchdogExpiry | criticalStateError | heldExit | strapComplete
      | readyEntry | refDeclaredPresent | pllLockAcquired | pllLockLost | ppsMiss | tlCtrlInvalidate | tlCtrlClrStr
      | alarmFire | aonRatioMeasure | stretchEpisodeStart | portCalibration | chParityError | wbRestoreExchange
      | dmaReadTimeout | dmaMissMaster | credit | cresync | calibrationRequest | presenceProbe | receiverLock
      | frameLock | cfgDone | calibrateComplete | trainingTimeout | retry | perstNAssert | perstNDeassert | hotReset
      | flr | busMasterEnableClear | busMasterEnableSet | memorySpaceEnableChange | dStateChange | hostLinkUp
      | hostLinkDown | hostLinkRateWidthChange | l0pNarrowing | l1ExitStart | atsInvalidationRequest | doeObject
      | postedWritePoisoned | unexpectedCompletion | evInject | alertNRelease | slDbin | slDboutAck | umSqTailWrite
      | umRqHeadWrite | umCtrlReset | stagedParity | drainComplete | heartbeatInstant | takeoverComplete
      | epochStepDown | clotonCalibration | domainEntryStart | domainSwitchOff | domainReleased | pwHvote33Write
      | sidebandAddressMatch | gpioWake | supplyOver | supplyShed | supplyReturn | thermalConversion
      | noiseHealthFailure | drbgRestart | drbgInstantiated | secRngCtrlRetry | drbgReseed | secDbgCtrlLock | ideFail
      | registerWrite | l1ExitComplete | l2L3ReadyEntry | clotonSlotSend | dlyReq | alertResponseAddress
      | aonComparatorThermal | tlUncertGrowth =>
    exact .ite (.next _) (.next _)
  case brownout | resetNRelease | ppsEdge | weightWindowWrite | supplyDipRecorded =>
    exact .ite (.next _) (.ite (.next _) (.next _))
  case alinkSlotSend | spareSwitch | dmaChainStart | epoch | leTod | l1Request | bar2Access | expansionRomRead
      | pldmFirmwareData | digest | dozeSample =>
    exact .ite (.ite (.next _) (.next _)) (.next _)
  all_goals
    dsimp -zeta only [execResetSwitchesOpen, execFirmwareVerified, execTlStateChange, execTlSetTimeout
      , execStretchEpisodeEnd, execReleaseMissedDeadline, execHeldReleaseTimeout, execChurnUplinkPassStart
      , execChurnDownlinkPassStart, execChurnPassCommit, execWbSyncComplete, execWeightLockEnd, execBlockHeaderArrival
      , execBlockCommit, execBankInitComplete, execDmaRequestIssue, execDmaReadCompletion, execFrameReceive, execAck
      , execDlyRsp, execSpareReady, execLaneSwap, execSpareAbortTimeout, execAuditLate, execReplayTimeout
      , execDlyRspMissing, execTrainingRetry, execRecoveredClockLoss, execInhibitMuteCheck, execHostBar4Write
      , execHostReadTimeout, execBridgeFetchComplete, execBridgeHoldExpiry, execConfigRequest
      , execAtsInvalidationComplete, execMsixTableWrite, execUmReplyPost, execCommitChecksComplete, execGenTakesEffect
      , execDrainLimitExpiry, execSwitchoverHandoff, execStagedWr, execGenCmd, execCommit, execCommitAck
      , execCommitAckTimeout, execChan, execSyncReg, execSyncDone, execPeerReset, execHready, execHabort
      , execHerdCellForward, execDomainEntryAbort, execSleepEntry, execSleepEntryWait, execInbandWake
      , execCurveOperationComplete, execRegisterReadClear, execBridgeFetchTimeout, execResetDomainDeviceStart
      , execSpare, execFuseProgrammingComplete, execSlotBCopyComplete, execTranslationCompletion
      , execBringupRowRelease, execBootSourceFail, execAlarmWakeStart, execAlinkTxRead, execWbRestoreComplete
      , execWeightZeroingComplete, execSparePreparationDone, execSpareCounterMerge, execReinstateTestDone
      , execRemapApply, execDmaReleaseTest, execDmaRoomReady, execDmaRecordWrite, execDmaFetch, execDmaFetchComplete
      , execLedger, execStatus, execHostBar4Read, execCpl, execErr, execWr, execRd, execBar0Access, execMsixSend
      , execCommitAt, execDomainResetComplete, execHeartbeat, execShadowWr, execSyncWt, execTimemark
      , execHerdGuardCheck, execWake, execSupplyDipEnd, execTamperTrip, execSpdmRequest, execLogQueueWrite
      , execRepairRecordWrite]
    repeat' first | exact .next _ | refine .ite ?_ ?_ | split | extract_lets

/-- A command that an opcode names runs as the command itself does (R401). -/
theorem State.umDispatch_answers (s : State) (h : UmHdr) (op : Nat) (p : List Byte) (fuseV : Bool) (hits : List EccHit) :
    Answers (s.umDispatch h op p fuseV hits) := by
  unfold State.umDispatch
  dsimp only [State.umIdent, State.umGen, State.umTl, State.umAl, State.umWb, State.umSl, State.umDma, State.umPw,
    State.umTw, State.umSec, State.umLog, State.umRs]
  repeat' first
    | exact .next _ | exact State.umRun_answers .. | exact State.slRun_answers ..
    | exact exec_answers_of_ne_packet (.commitAt h p) s nofun | split

theorem State.umExec_answers (s : State) (h : UmHdr) (raw params : List Byte) (fuseV : Bool) (hits : List EccHit) :
    Answers (s.umExec h raw params fuseV hits) :=
  .ite (.next _) (.ite (.next _) (State.umDispatch_answers ..))

theorem State.takeRing_answers (s : State) (n : Nat) (fuseV : Bool) (hits : List EccHit) :
    Answers (s.takeRing n fuseV hits) :=
  .ite (.next _) (State.umExec_answers ..)

theorem execUmPacketExecute_answers (fuseV : Bool) (s : State) (hits : List EccHit) :
    Answers (execUmPacketExecute fuseV s hits) := by
  unfold execUmPacketExecute
  refine .ite (.next _) (.ite (.next _) ?_)
  dsimp only
  repeat' first | exact .next _ | exact State.takeRing_answers .. | exact State.umExec_answers .. | split

theorem exec_answers (c : Instr) (s : State) : Answers (exec c s) := by
  by_cases hc : ∃ v hits, c = .umPacketExecute v hits
  · obtain ⟨v, hits, rfl⟩ := hc
    exact execUmPacketExecute_answers v s hits
  · exact exec_answers_of_ne_packet c s fun v hits e => hc ⟨v, hits, e⟩

/-! ## The clocks (R54, R491) -/

theorem touches_no_queue (c : Instr) : partsMask (touches c) &&& 0b11 = 0 := by
  cases c <;> (dsimp only [touches]; rfl)

/-- No command but AON's power-on and its brownout moves the clocks. -/
theorem touches_no_clocks {c : Instr} (hon : c ≠ .aonPowerOn) (hoff : ∀ rail mv, c ≠ .brownout rail mv) :
    partsMask (touches c) &&& 0b111110 = 0 := by
  cases c
  case aonPowerOn => exact absurd rfl hon
  case brownout => exact absurd rfl (hoff _ _)
  all_goals (dsimp only [touches]; rfl)

theorem testBit_of_and_eq_zero {A B i : Nat} (h : A &&& B = 0) (hi : B.testBit i = true) : A.testBit i = false := by
  have hand := congrArg (Nat.testBit · i) h
  simpa only [Nat.testBit_and, hi, Bool.and_true, Nat.zero_testBit] using hand

theorem State.clocksOk_congr {s t : State} (hticks : t.ticks = s.ticks) (haon : t.aon = s.aon)
    (hleft : t.aonLeft = s.aonLeft) (hcore : t.core = s.core) (hq : t.coreQ = s.coreQ) (h : s.clocksOk) : t.clocksOk := by
  simpa only [State.clocksOk, hticks, haon, hleft, hcore, hq] using h

/-- From a power-on the clocks start again, while the count of Tc goes on. -/
theorem State.clocksOk_start {t : State} (haon : t.aon = 0) (hleft : t.aonLeft = 79) (hcore : t.core = 0)
    (hq : t.coreQ = 0) : t.clocksOk := by
  simp only [State.clocksOk, haon, hleft, hcore, hq]
  omega

theorem Within.clocksOk {A : Nat} {s t : State} (h : Within A s t) (hA : A &&& 0b111110 = 0) (hs : s.clocksOk) :
    t.clocksOk := by
  exact State.clocksOk_congr (h.same .ticks (testBit_of_and_eq_zero hA rfl)) (h.same .aon (testBit_of_and_eq_zero hA rfl))
    (h.same .aonLeft (testBit_of_and_eq_zero hA rfl)) (h.same .core (testBit_of_and_eq_zero hA rfl))
    (h.same .coreQ (testBit_of_and_eq_zero hA rfl)) hs

theorem execAonPowerOn_clocksOk {s t : State} (hs : s.clocksOk) (h : execAonPowerOn s = .next t) : t.clocksOk := by
  unfold execAonPowerOn at h
  split at h <;> cases h
  · exact State.clocksOk_start rfl rfl rfl rfl
  · exact hs

theorem execBrownout_clocksOk {rail : Fin 7} {mv : Nat} {s t : State} (hs : s.clocksOk)
    (h : execBrownout rail mv s = .next t) : t.clocksOk := by
  unfold execBrownout at h
  extract_lets r at h
  split at h
  · cases h; exact hs
  split at h
  · cases h; exact State.clocksOk_start rfl rfl rfl rfl
  rename_i cut warn _ _
  have hcut : cut.clocksOk := by
    unfold cut
    split
    · refine (State.updPw_in _ _).clocksOk (by decide) ((State.logDip_in _ _ _ _ _).clocksOk (by decide) ?_)
      dsimp only
      split
      · exact (State.showDip_in _ _ _ _ _).clocksOk (by decide) hs
      · exact hs
    · exact hs
  have hwarn : warn.clocksOk := by
    unfold warn
    split
    · exact (State.setFld_in _ _ _ _).clocksOk (by decide) hcut
    · exact hcut
  clear_value warn
  cases h
  exact (State.deviceReset_in _ _ _).clocksOk (by decide) hwarn

theorem exec_clocksOk {c : Instr} {s t : State} (hs : s.clocksOk) (h : exec c s = .next t) : t.clocksOk := by
  by_cases hon : c = .aonPowerOn
  · subst hon; exact execAonPowerOn_clocksOk hs h
  by_cases hoff : ∃ rail mv, c = .brownout rail mv
  · obtain ⟨rail, mv, rfl⟩ := hoff; exact execBrownout_clocksOk hs h
  · exact (exec_within c s t h).clocksOk (touches_no_clocks hon fun rail mv e => hoff ⟨rail, mv, e⟩) hs

/-- The oscillator's part of a Tc: its cycle goes on or ends, and the next one has 75 to 82 Tc (R491). -/
def State.aonTick (s : State) : State :=
  if s.aonLeft ≤ 1 then { s with aon := s.aon + 1, aonLeft := aonLen (s.aon + 1) } else { s with aonLeft := s.aonLeft - 1 }

theorem Timekeeper.quarters_eq (t : Timekeeper) (c : Nat) : t.quarters c = 4 ∨ t.quarters c = 5 := by
  unfold Timekeeper.quarters
  split
  · exact .inr rfl
  · exact .inl rfl

theorem State.coreTick_core (s : State) :
    (s.coreTick.core = s.core + 1 ∧ s.coreTick.coreQ = s.coreQ + 4 - s.tk.quarters s.core ∧
      s.tk.quarters s.core ≤ s.coreQ + 4) ∨
    (s.coreTick.core = s.core ∧ s.coreTick.coreQ = s.coreQ + 4 ∧ s.coreQ + 4 < s.tk.quarters s.core) := by
  have hcore : s.countStretch.core = s.core := (State.countStretch_in s).same .core rfl
  have hq : s.countStretch.coreQ = s.coreQ := (State.countStretch_in s).same .coreQ rfl
  unfold State.coreTick
  dsimp only
  split
  · left
    split <;> exact ⟨by simp only [hcore], by simp only [hq], by assumption⟩
  · right
    exact ⟨rfl, rfl, by omega⟩

theorem State.coreTick_frame (s : State) :
    s.coreTick.ticks = s.ticks ∧ s.coreTick.aon = s.aon ∧ s.coreTick.aonLeft = s.aonLeft :=
  ⟨(State.coreTick_in s).same .ticks rfl, (State.coreTick_in s).same .aon rfl, (State.coreTick_in s).same .aonLeft rfl⟩

/-- One Tc of core clock adds four quarters, so the core clock runs no faster than the timeline's (R54). -/
theorem State.coreTick_rate {s : State} {n : Nat} (hq : s.coreQ ≤ 4) (hrate : 4 * s.core + s.coreQ ≤ 4 * n) :
    s.coreTick.coreQ ≤ 4 ∧ 4 * s.coreTick.core + s.coreTick.coreQ ≤ 4 * (n + 1) := by
  have hlen := s.tk.quarters_eq s.core
  obtain ⟨hcore, hcq, hle⟩ | ⟨hcore, hcq, hlt⟩ := s.coreTick_core <;> rw [hcore, hcq] <;> omega

theorem aonLen_bounds (n : Nat) : 75 ≤ aonLen n ∧ aonLen n ≤ 82 := by
  unfold aonLen
  omega

/-- One Tc of the always-on oscillator keeps its cycles 75 Tc or longer (R491). -/
theorem State.aonTick_rate {s : State} {n : Nat} (hpos : 1 ≤ s.aonLeft) (hmax : s.aonLeft ≤ 82)
    (hrate : 75 * (s.aon + 1) ≤ n + s.aonLeft) :
    1 ≤ s.aonTick.aonLeft ∧ s.aonTick.aonLeft ≤ 82 ∧ 75 * (s.aonTick.aon + 1) ≤ n + 1 + s.aonTick.aonLeft := by
  have hlen := aonLen_bounds (s.aon + 1)
  unfold State.aonTick
  split
  · dsimp only; omega
  · dsimp only; omega

theorem State.aonTick_frame (s : State) :
    s.aonTick.ticks = s.ticks ∧ s.aonTick.core = s.core ∧ s.aonTick.coreQ = s.coreQ := by
  unfold State.aonTick
  split <;> exact ⟨rfl, rfl, rfl⟩

/-- A Tc is counted, then the oscillator's part and, while MGMT is on, the core clock's follow; the rest of the Tc leaves
the clocks alone. -/
theorem State.tick_clocksOk {s : State} (h : s.clocksOk) : s.tick.clocksOk := by
  obtain ⟨hq, hrate, hpos, hmax, hosc⟩ := h
  unfold State.tick
  extract_lets u aon core gone counted
  have haon : aon = u.aonTick := rfl
  obtain ⟨hticks, hcore, hcoreQ⟩ := u.aonTick_frame
  have hrate' := State.aonTick_rate (s := u) hpos hmax hosc
  rw [← haon] at hticks hcore hcoreQ hrate'
  have hclocks : core.clocksOk := by
    unfold core
    split
    · obtain ⟨hct, hca, hcl⟩ := aon.coreTick_frame
      obtain ⟨hcq, hcr⟩ := State.coreTick_rate (s := aon) (n := s.ticks) (by rw [hcoreQ]; exact hq)
        (by rw [hcore, hcoreQ]; exact hrate)
      simp only [State.clocksOk, hct, hca, hcl, hticks]
      exact ⟨hcq, hcr, hrate'⟩
    · simp only [State.clocksOk, hticks, hcore, hcoreQ]
      exact ⟨hq, hrate.trans (Nat.mul_le_mul_left 4 (Nat.le_succ _)), hrate'⟩
  split
  · exact (State.ppsStale_in _).clocksOk (by decide) ((State.updTk_in _ _).clocksOk (by decide) hclocks)
  · exact hclocks

theorem State.passTick_clocksOk {s : State} (h : s.clocksOk) : s.passTick.clocksOk :=
  (State.egressTick_in _).clocksOk (by decide) <| (State.applyMgr_in _).clocksOk (by decide) <|
    (State.shedCheck_in _).clocksOk (by decide) <| (State.freeTick_in _).clocksOk (by decide) <|
      (State.idleTick_in _).clocksOk (by decide) <| State.tick_clocksOk h

/-! ## The obligations -/

/-- Settles O1: by the step's definition, on a queue with a front command. -/
theorem stepRunsTheFrontCommand : Obligations.StepRunsTheFrontCommand := by
  intro c rest s h
  rw [step, h]

/-- Settles O3: the table gives no row any bits. -/
theorem noWordSpellsACommand : Obligations.NoWordSpellsACommand := fun _ _ _ => ⟨rfl, rfl⟩

/-- Settles O4: by evaluation of the state after reset. -/
theorem resetMeetsTheInvariants : Obligations.ResetMeetsTheInvariants := by
  have hon : ∀ d, State.reset.on d = true ↔ d = 0 := fun d => by
    have hpw : (State.reset.rdW Reg.PW_ON).toNat = 2 ^ 0 := by decide +kernel
    rw [State.on, hpw, Nat.testBit_two_pow, decide_eq_true_iff, eq_comm]
  refine ⟨rfl, by decide +kernel, hon, by decide +kernel, by unfold State.queueOk; decide, by unfold State.clocksOk; decide⟩

/-- Settles O5: the invariants stand through every command (`exec_within`) and through the passing of a Tc. -/
theorem everyStepKeepsTheImagesAndTheQueue : Obligations.EveryStepKeepsTheImagesAndTheQueue := by
  intro s t ⟨hcanon, hqueue⟩ hstep
  cases hp : s.pending with
  | nil =>
    rw [step_idle hp] at hstep
    cases hstep
    exact ⟨(State.passTick_in s).canon hcanon, (State.passTick_in s).queue hqueue⟩
  | cons c rest =>
    rw [stepRunsTheFrontCommand c rest s hp] at hstep
    have hwithin := exec_within c _ t hstep
    exact ⟨hwithin.canon hcanon, hwithin.queue hqueue⟩

/-- Settles O6: the clocks move with the passing of a Tc and start again with AON's power. -/
theorem everyStepKeepsTheClocks : Obligations.EveryStepKeepsTheClocks := by
  intro s t hs hstep
  cases hp : s.pending with
  | nil =>
    rw [step_idle hp] at hstep
    cases hstep
    exact State.passTick_clocksOk hs
  | cons c rest =>
    rw [stepRunsTheFrontCommand c rest s hp] at hstep
    exact exec_clocksOk (s := { s with pending := rest }) hs hstep

/-- Settles O7: `exec_within`, whose mask is that of the command's parts. -/
theorem commandsChangeOnlyTheirParts : Obligations.CommandsChangeOnlyTheirParts := by
  intro c s t h
  have hwithin := exec_within c s t h
  have hqueue := touches_no_queue c
  exact ⟨hwithin.frame fun p hp => partsMask_testBit hp, hwithin.same .pending (testBit_of_and_eq_zero hqueue rfl),
    hwithin.same .ticks (testBit_of_and_eq_zero hqueue rfl)⟩

/-- Settles O8: no arm of `exec` faults or is refused. -/
theorem everyCommandAnswersANextState : Obligations.EveryCommandAnswersANextState := exec_answers

end Sys2Proof.Machine
end

section
/-! SUPPORT. The statements about the Churn and the weight store that fail, each with the state in which it does. -/

namespace Sys2Proof.Machine

set_option Elab.async false
open Sys2Proof.Tests

/-! ## The state that a command leaves -/

/-- The state that a command leaves. -/
def after (c : Instr) (s : State) : State :=
  match exec c s with
  | .next t => t
  | _ => s

theorem exec_eq_after (c : Instr) (s : State) : exec c s = .next (after c s) := by
  obtain ⟨t, ht⟩ := exec_answers c s
  rw [after, ht]

theorem Completes.after {c : Instr} {s : State} {Q : State → Prop} (h : Completes c s Q) : Q (after c s) := by
  obtain ⟨t, ht, -, hQ⟩ := h
  rwa [Machine.after, ht]

/-! ## The Churn's marker into a pail that the staged generation moved -/

/-- The output block of the pass in flight in `passing`. -/
def markerOut : OutBlk := ⟨40, tlOf 96, ((blockOp 0 (emptyPass 0) [] []).outs.map (·.h1)).headD 0, [], 0⟩

/-- `passing` after a generation that moved the output pail 1 while the pass was in flight. -/
def pailMoved : State := img passing (Reg.VAT_PAIL_A 1) F.VAT_PAIL_A_BASE 12

/-- Refutes O11: a pass whose output pail was moved by a generation while it was in flight does not commit its marker (code 7,
R140, R182); the statement's fifth clause does not ask that the pail is the same in both images. -/
theorem not_churnPassesStartAndCommit : ¬ Obligations.ChurnPassesStartAndCommit := by
  unfold Obligations.ChurnPassesStartAndCommit
  rintro ⟨-, -, -, -, hmarker, -⟩
  have hpass := (hmarker pailMoved 0 0 (emptyPass 0) markerOut 1 (by decide +kernel) (by decide +kernel) (by decide +kernel)
    (by decide +kernel) (by decide +kernel) (by decide +kernel) (by decide +kernel) (by decide +kernel) (by decide +kernel)
    (by decide +kernel)).after
  obtain ⟨-, -, -, -, ⟨b, hb, -⟩, -⟩ := hpass
  have hnone : ((Machine.after (.churnPassCommit 0 0 []) pailMoved).pail 1).blocks = [] := by decide +kernel
  rw [hnone] at hb
  cases hb

/-! ## Corrected errors of the shadow half -/

/-- Refutes O12: a write of eight bytes reads the row that it is part of, and a corrected error of the row's neighbouring word
counts in CH_WB_CECC; the first clause lets no register but CH_WB_STATUS change, whatever errors the access meets. -/
theorem not_weightWindowsAcceptHoldAndDrop : ¬ Obligations.WeightWindowsAcceptHoldAndDrop := by
  unfold Obligations.WeightWindowsAcceptHoldAndDrop
  rintro ⟨hwrite, -⟩
  obtain ⟨-, -, -, -, -, hkept⟩ := (hwrite (runIn 5) 0 0 1030 [1, 2, 3, 4, 5, 6, 7, 8] [⟨shadowHit 0, 1031, 0, false⟩]
    (by decide +kernel) (by decide +kernel) (by decide +kernel) (by decide +kernel) (by decide +kernel) (by decide +kernel)
    (by decide) (by decide)).after
  exact absurd (hkept (Reg.CH_WB_CECC 0) (by decide +kernel)) (by decide +kernel)

/-- Refutes O14: WB_WRITE meets the same corrected error of a neighbouring word, and counts it in CH_WB_CECC. -/
theorem not_weightCommandsActOnTheShadowHalf : ¬ Obligations.WeightCommandsActOnTheShadowHalf := by
  unfold Obligations.WeightCommandsActOnTheShadowHalf
  rintro ⟨hwrite, -⟩
  obtain ⟨-, -, -, hkept⟩ := (hwrite (runIn 5) hdr [0, 0, 0, 0, 16, 0, 0, 0, 1, 2, 3, 4, 5, 6, 7, 8] [1, 2, 3, 4, 5, 6, 7, 8] 0 2
    [⟨shadowHit 0, 3, 0, false⟩] (by decide +kernel) (by decide +kernel) (by decide +kernel) (by decide +kernel)
    (by decide) (by decide) (by decide +kernel) (by decide +kernel) (by decide +kernel) (by decide +kernel)).after
  exact absurd (hkept (Reg.CH_WB_CECC 0) (by decide +kernel)) (by decide +kernel)

/-! ## A takeover while core cycles are stretched -/

/-- A takeover at its frame boundary, ready, in a stretched core cycle of which one quarter is spent: the cycle of the present
Tc is 50,000, and the next one to start is 50,001. -/
def sparingStretched : State :=
  { (sparing 1 (fun x => { x with ready := true })).updTk (fun t => { t with episode := some ⟨0, none⟩ }) with coreQ := 1 }

/-- Refutes O15: the switch notes the core cycle of the present Tc (`coreNow`), which in a stretched cycle is not the next one
to start (`startCore`), the one that the fourth clause names. -/
theorem not_sparesTakeOverAndAreReinstated : ¬ Obligations.SparesTakeOverAndAreReinstated := by
  unfold Obligations.SparesTakeOverAndAreReinstated
  rintro ⟨-, -, -, hswitch, -⟩
  obtain ⟨-, -, -, -, -, -, -, hmove, -⟩ := (hswitch sparingStretched 0 (by decide +kernel) (by decide +kernel) (by decide +kernel)
    (by decide +kernel) (by decide +kernel) (by decide +kernel) (by decide +kernel) (by decide +kernel)).after
  exact absurd hmove (by decide +kernel)

end Sys2Proof.Machine
end

section
/-! SUPPORT. The statements about time-released DMA that fail, each with the state in which it does. -/

namespace Sys2Proof.Machine

set_option Elab.async false
open Sys2Proof.Tests

/-- Channel 0 with a finished descriptor whose completion record has left: its retire is due. -/
def recordLeft : State := dmaIn 0 3 5 (fun r => { r with done := true, recOut := true })

/-- Refutes O17: STOP_REQ retires first a descriptor whose record has left (R215), and the channel is Idle after it; the fifth
clause lets no state of a channel change, whether its record has left or not. -/
theorem not_channelsStartStopAndCancel : ¬ Obligations.ChannelsStartStopAndCancel := by
  unfold Obligations.ChannelsStartStopAndCancel
  rintro ⟨-, -, -, -, hstop, -⟩
  obtain ⟨-, hstate, -⟩ := (hstop recordLeft 0 (by decide +kernel) (by decide +kernel)).after
  exact absurd hstate (by decide +kernel)

/-- Channel 0 at S while its slice's domain is not ready, with an instant of room already noted. -/
def roomNoted : State := (dmaIn 1 1 1024000 (fun r => { r with roomAt := some 5 })).wrW Reg.PW_ON 0xFFFEFFFFFFFFFFFF

/-- Refutes O18: a chain start whose domain is not ready leaves the instant of room as it is; the first clause says that there
is none, without asking that there was none before. -/
theorem not_releasesAreTestedAndIssued : ¬ Obligations.ReleasesAreTestedAndIssued := by
  unfold Obligations.ReleasesAreTestedAndIssued
  rintro ⟨hstart, -⟩
  obtain ⟨-, -, -, -, hroom, -⟩ := (hstart roomNoted 0 (by decide +kernel) (by decide +kernel) (by decide +kernel)
    (by decide +kernel) (by decide +kernel) (by decide +kernel) (by decide +kernel)).after
  exact absurd hroom (by decide +kernel)

/-- An arrival in pail 0 whose words are all there, and whose release instant the pail's reader has given up already. -/
def releaseGone : State :=
  setTicks (atCount ((dmaIdle 1).updPail 0 (fun r => { r with arrivals := [arrDone (.port 0)], gone := [100] })) 100) 1000

/-- Refutes O19: a block whose release instant is gone is finished as it commits and its room is free at once (R181); the
seventh clause says that the pail holds it. -/
theorem not_dataMovesAndDescriptorsRetire : ¬ Obligations.DataMovesAndDescriptorsRetire := by
  unfold Obligations.DataMovesAndDescriptorsRetire
  rintro ⟨-, -, -, -, -, -, hcommit, -⟩
  obtain ⟨-, -, -, hblocks, -⟩ := (hcommit releaseGone 0 (arrDone (.port 0)) [] 0 0 (by decide +kernel) (by decide +kernel)
    (by decide +kernel) (by decide +kernel) (by decide +kernel) (by decide +kernel) (by decide +kernel)).after
  exact absurd (hblocks (by decide +kernel) (by decide +kernel)) (by decide +kernel)

end Sys2Proof.Machine
end

section
/-! SUPPORT. The statements about links, host accesses and slice windows that fail, each with the state in which it does. -/

namespace Sys2Proof.Machine

set_option Elab.async false
open Sys2Proof.Tests

/-- Cloton port C1 Up with a swap of lane 1 whose GO slot has come, before the lane is moved. -/
def swapAtGo : State := clWith 5 (fun c => { c with swap := some ⟨1, 4, 0, some 0⟩ })

/-- Refutes O25: a swap that has reached its GO slot is done before the link goes down, so it is its lane that takes the spare
and not the lane that has lost its clock; the eighth clause names the latter whether or not a swap is under way. -/
theorem not_lanesMoveAndLinksGoDown : ¬ Obligations.LanesMoveAndLinksGoDown := by
  unfold Obligations.LanesMoveAndLinksGoDown
  rintro ⟨-, -, -, -, -, -, -, hloss, -⟩
  obtain ⟨-, -, -, -, hmap, -⟩ := (hloss swapAtGo 1 0 (by decide +kernel)).after
  exact absurd (hmap (by decide +kernel)).1 (by decide +kernel)

/-- `recordLeft` with its host port out of PERST. -/
def recordLeftUp : State := recordLeft.setFld (Reg.HL_PORT_STAT 0) F.HL_PORT_STAT_PERST 0

/-- Refutes O36: a reset of the link retires first a descriptor whose record has left (R215), and its channel is Idle and not in
Error after the reset. -/
theorem not_linkResetsReachTheirLinks : ¬ Obligations.LinkResetsReachTheirLinks := by
  unfold Obligations.LinkResetsReachTheirLinks
  rintro ⟨-, -, hreset, -⟩
  obtain ⟨⟨-, -, -, -, -, -, -, -, -, -, -, hchans, -⟩, -⟩ :=
    (hreset recordLeftUp 0 false (by decide +kernel) (by decide +kernel)).after
  exact absurd (hchans 0 (by decide +kernel)).1 (by decide +kernel)

/-- Link 0 with an invalidation that waits for channel 0's read of 512 bytes at offset 0. -/
def invalidating : State := (dmaRead id).updLink 0 (fun l => { l with inval := [(7, [(0, 512)])] })

/-- Refutes O38: what an invalidation waits for is a channel and the end of one of its reads (offset and length together), and
the second clause's hypothesis compares that end with the read's offset: it finds the completion due while the read is still
outstanding. -/
theorem not_translationsMessagesAndErrorsOfALink : ¬ Obligations.TranslationsMessagesAndErrorsOfALink := by
  unfold Obligations.TranslationsMessagesAndErrorsOfALink
  rintro ⟨-, hcpl, -⟩
  obtain ⟨hinval, -⟩ := (hcpl invalidating 0 (7, [(0, 512)]) (by decide +kernel) (by decide +kernel)).after
  exact absurd hinval (by decide +kernel)

/-- The manager's link with an event counted in this very Tc. -/
def countedNow : State := memLink.cnt (Reg.EV_CNT 0)

/-- Refutes O40: a read that clears a counter keeps what hardware has added to it in the same Tc (R15); the seventh clause says
that the counter is zero after it. -/
theorem not_accessesReachTheRegionsOfBar0 : ¬ Obligations.AccessesReachTheRegionsOfBar0 := by
  unfold Obligations.AccessesReachTheRegionsOfBar0
  rintro ⟨-, -, -, -, -, -, hread, -⟩
  obtain ⟨-, hclear, -⟩ := (hread countedNow 0 (Reg.EV_CNT 0) [] (by decide +kernel) (by decide +kernel) (by decide +kernel)
    (by decide +kernel) (by decide +kernel) (by decide +kernel) (by decide +kernel) (by decide +kernel)).after
  exact absurd hclear (by decide +kernel)

/-- Slice 5 bound to link 0, at the instant of an Armed generation that unbinds it. -/
def unbinding : State :=
  (memLink.setFld Reg.TL_STATE F.TL_STATE_HAS_TIME 1).updUm (fun u => { u with armed := some { armed0 none true [] with at_ := 0 } })

/-- Refutes O41: a generation whose instant has come applies before the access (R375), and a slice that it unbinds answers with
UR; the third clause does not ask that no such generation is Armed. -/
theorem not_sliceWindowsAndTheRomAreServed : ¬ Obligations.SliceWindowsAndTheRomAreServed := by
  unfold Obligations.SliceWindowsAndTheRomAreServed
  rintro ⟨-, -, hid, -⟩
  have hread := (hid unbinding 0 5 (by decide +kernel) (by decide +kernel) (by decide +kernel) (by decide +kernel)
    (by decide +kernel) (by decide +kernel) (by decide +kernel)).after
  have hout : (after (.bar2Access 0 (0x10000 * 5 + 0xA000) 8 false false []) unbinding).out.head? = some (.cpl 0 1 []) := by
    decide +kernel
  exact absurd (hout.symm.trans (congrArg (·.out.head?) hread)) (by decide +kernel)

end Sys2Proof.Machine
end

section
/-! SUPPORT. The statements about slices, Umger, twins, herds, power and security that fail, each with the state in which it does. -/

namespace Sys2Proof.Machine

set_option Elab.async false
open Sys2Proof.Tests

/-- `recordLeft` with its slice fenced. -/
def recordLeftFenced : State := recordLeft.setFld (Reg.SL_CTRL 5) F.SL_CTRL_FENCE 1

/-- Refutes O43: KILL retires first a descriptor whose record has left (R215), and its channel is Idle and not in Error after
it. -/
theorem not_slicesAreBoundFencedKilledAndMailed : ¬ Obligations.SlicesAreBoundFencedKilledAndMailed := by
  unfold Obligations.SlicesAreBoundFencedKilledAndMailed
  rintro ⟨-, -, -, -, -, -, -, -, hkill, -⟩
  obtain ⟨hchans, -⟩ := (hkill recordLeftFenced 5 (by decide +kernel)).after
  exact absurd (hchans 0 (by decide +kernel) (by decide +kernel)).1 (by decide +kernel)

/-- The parameters of a REG_READ of EV_CNT0. -/
def readCnt : List Byte := leBytes 4 (Reg.EV_CNT 0) ++ [4, 0, 1, 0]

/-- Refutes O46: REG_READ of a counter keeps what hardware has added to it in the same Tc (R15); the tenth clause says that the
counter is zero after it. -/
theorem not_commandsOfRegistersQueriesAndPolicyAnswer : ¬ Obligations.CommandsOfRegistersQueriesAndPolicyAnswer := by
  unfold Obligations.CommandsOfRegistersQueriesAndPolicyAnswer
  rintro ⟨-, -, -, -, -, -, -, -, -, hread, -⟩
  obtain ⟨-, hclear, -⟩ := (hread countedNow hdr readCnt (Reg.EV_CNT 0) [] (by decide +kernel) rfl (by decide +kernel)
    (by decide) (by decide +kernel) (by decide)).after
  exact absurd hclear (by decide +kernel)

/-- Twin A in Run and Protected, with a finished descriptor whose completion record has left. -/
def switching : State := (recordLeft.setFld Reg.TW_ROLE F.TW_ROLE_ROLE 1).setFld Reg.TW_STAT F.TW_STAT_PAIR 2

/-- Refutes O50: the stop of its channels that TW_SWITCHOVER starts retires first a descriptor whose record has left (R215), and
the channel is then one that CHAN records owe to the peer (R418); the fourth clause lets nothing else of the twin's part
change. -/
theorem not_twinsPairTakeOverAndSwitch : ¬ Obligations.TwinsPairTakeOverAndSwitch := by
  unfold Obligations.TwinsPairTakeOverAndSwitch
  rintro ⟨-, -, -, hswitch, -⟩
  obtain ⟨htw, -⟩ := (hswitch switching hdr [] (by decide +kernel) (by decide +kernel) (by decide +kernel) (by decide +kernel)
    (by decide +kernel)).after
  exact absurd htw (by decide +kernel)

/-- A state whose registers have a DMA_STAT beyond the last channel's, in Running. -/
def beyondLastChan : State := (runIn 5).setFld (Reg.DMA_STAT 4096) F.DMA_STAT_STATE 3

/-- Refutes O52: Drain stops the 4,096 channels that the device has, and the second clause speaks of every number. -/
theorem not_modesDrainAndDomainsFollowTheirCommands : ¬ Obligations.ModesDrainAndDomainsFollowTheirCommands := by
  unfold Obligations.ModesDrainAndDomainsFollowTheirCommands
  rintro ⟨-, hdrain, -⟩
  obtain ⟨-, -, -, -, -, -, hstop, -⟩ := (hdrain beyondLastChan hdr [4] _ (by decide +kernel) (by decide) (by decide +kernel)
    (by decide +kernel) (by decide +kernel) rfl (by decide)).after
  exact absurd (hstop 4096 (by decide +kernel) (by decide +kernel)) (by decide +kernel)

/-- `falling` with a target mode that PW_MODE's four bits do not hold. -/
def fallingTo20 : State := (falling.updPw (fun p => { p with sleep := some 20 })).wrW Reg.PW_ON 0x1F

/-- Refutes O53: the second clause lets the sleep entry's target be any number, and PW_MODE.MODE keeps the low four bits of 20. -/
theorem not_theDeviceSleepsDozesAndWakes : ¬ Obligations.TheDeviceSleepsDozesAndWakes := by
  unfold Obligations.TheDeviceSleepsDozesAndWakes
  rintro ⟨-, hentry, -⟩
  obtain ⟨hmode, -⟩ := (hentry fallingTo20 20 ⟨some hdr, 0xA, 0, 0, []⟩ rfl (by decide +kernel) (by decide +kernel)
    (by decide +kernel) rfl rfl (by decide +kernel)).after
  exact absurd hmode (by decide +kernel)

end Sys2Proof.Machine
end

section
/-! SUPPORT. Reading registers and event bits after the shared operations: rules for a discharger that decides closed facts
about offsets, and what a command that completes has to show. -/

namespace Sys2Proof.Machine

set_option Elab.async false

/-- The frame of a command that completes is `commandsChangeOnlyTheirParts`. -/
theorem Completes.intro {c : Instr} {s t : State} {Q : State → Prop} (h : exec c s = .next t) (hq : Q t) : Completes c s Q :=
  ⟨t, h, (commandsChangeOnlyTheirParts c s t h).1, hq⟩

theorem Completes.of_exists {c : Instr} {s : State} {Q : State → Prop} (h : ∃ t, exec c s = .next t ∧ Q t) : Completes c s Q :=
  h.elim fun _ ht => .intro ht.1 ht.2

/-! ## Fields as words -/

/-- A field outside the RWG image is read from its register's word. -/
theorem State.fld_hw (s : State) (k : Nat) {f : Fld} (h : f.rwg = false) : s.fld k f = f.get (s.rdW k) := by
  simp only [State.fld, h, Bool.false_eq_true, if_false]

/-- A field of the RWG image is read from the active image. -/
theorem State.fld_rwg (s : State) (k : Nat) {f : Fld} (h : f.rwg = true) : s.fld k f = f.get (s.rdG k) := by
  simp only [State.fld, h, if_true]

theorem State.flag_hw (s : State) (k : Nat) {f : Fld} (h : f.rwg = false) : s.flag k f = decide (f.get (s.rdW k) ≠ 0) := by
  simp only [State.flag, State.fld_hw s k h]

theorem State.on_eq_of_rdW {s t : State} (h : t.rdW Reg.PW_ON = s.rdW Reg.PW_ON) (d : Nat) : t.on d = s.on d := by
  simp only [State.on, h]

theorem State.mode_eq_of_rdW {s t : State} (h : t.rdW Reg.PW_MODE = s.rdW Reg.PW_MODE) : t.mode = s.mode := by
  simp only [State.mode, State.fld_hw _ _ (show F.PW_MODE_MODE.rwg = false from rfl), h]

theorem State.rdW_ite (c : Prop) [Decidable c] (s t : State) (k : Nat) :
    (if c then s else t).rdW k = if c then s.rdW k else t.rdW k := apply_ite (fun u : State => u.rdW k) c s t

/-! ## Events of each block -/

section
variable (s : State) {e k : Nat} (he : e < 400) (hk : evKey k = false)
include he hk

theorem State.rdW_evPw (h : k ≠ Reg.PW_EVENT) : (s.evPw e).rdW k = s.rdW k := State.rdW_occurBit s (by omega) _ _ hk h
theorem State.rdW_evSec (h : k ≠ Reg.SEC_EVENT) : (s.evSec e).rdW k = s.rdW k := State.rdW_occurBit s (by omega) _ _ hk h
theorem State.rdW_evTw (h : k ≠ Reg.TW_EVENT) : (s.evTw e).rdW k = s.rdW k := State.rdW_occurBit s (by omega) _ _ hk h
theorem State.rdW_evSt (h : k ≠ Reg.PW_STEVENT) : (s.evSt e).rdW k = s.rdW k := State.rdW_occurBit s (by omega) _ _ hk h
theorem State.rdW_evRs (h : k ≠ Reg.RS_EVENT) : (s.evRs e).rdW k = s.rdW k := by
  unfold State.evRs
  split
  · rfl
  · exact State.rdW_occurBit s (by omega) _ _ hk h

end

/-- An occurrence leaves the bits of its event register set and adds its own. -/
theorem State.rdW_occurBit_same (s : State) {i : Nat} (hi : i < 1024) {k : Nat} (b : Nat) (det : Option Nat)
    (hk : evKey k = false) : (s.occurBit i k b det).rdW k = BitVec.ofNat 64 ((s.rdW k).toNat ||| 2 ^ b) := by
  unfold State.occurBit
  extract_lets was x y
  have hx : x.rdW k = BitVec.ofNat 64 ((s.rdW k).toNat ||| 2 ^ b) := State.rdW_setBitsOf s _ _
  have hy : y.rdW k = x.rdW k := State.rdW_cnt_other x ((evKey_false hk).2.2.2.1 i hi).1
  rw [← hx]
  clear_value y x
  split
  · split
    · exact hy
    · rw [State.rdW_raiseActs_ev _ _ hi _ _ hk, State.rdW_rose, hy]
  · rfl

theorem State.occurBit_bit_mono (s : State) {i : Nat} (hi : i < 1024) {k : Nat} (b : Nat) (det : Option Nat)
    (hk : evKey k = false) {c : Nat} (h : (s.rdW k).toNat.testBit c = true) :
    ((s.occurBit i k b det).rdW k).toNat.testBit c = true := by
  have hc : c < 64 := by
    by_contra hge
    exact absurd h (by simp [Nat.testBit_lt_two_pow (lt_of_lt_of_le (s.rdW k).isLt (Nat.pow_le_pow_right (by omega) (Nat.le_of_not_lt hge)))])
  rw [State.rdW_occurBit_same s hi b det hk, BitVec.toNat_ofNat, Nat.testBit_mod_two_pow, Nat.testBit_or, h]
  simp [hc]

/-- An occurrence, told as the statements tell it. -/
theorem State.occurredBit (s : State) {i : Nat} (hi : i < 1024) (hm : ∀ m < 32, i ≠ 289 + 4 * m) {k b : Nat} (hb : b < 64)
    (det : Option Nat) (hk : evKey k = false) (hpw : k ≠ Reg.PW_ON) : OccurredBit i k b s (s.occurBit i k b det) :=
  ⟨State.occurBit_bit s hi b hb det hk, State.occurBit_count s hi hm b det hk hpw⟩

/-- A change that leaves the count of a source and the domains alone may stand before its occurrence … -/
theorem OccurredBit.before {i k b : Nat} {s s' t : State} (h : OccurredBit i k b s' t)
    (hon : s'.rdW Reg.PW_ON = s.rdW Reg.PW_ON) (hc : s'.rdW (Reg.EV_CNT i) = s.rdW (Reg.EV_CNT i)) : OccurredBit i k b s t :=
  ⟨h.1, fun h3 => by
    have hcount := h.2 ((State.on_eq_of_rdW hon 3).trans h3)
    rwa [Counted, hc] at hcount⟩

/-- … and one that leaves the bit set after it. -/
theorem OccurredBit.after {i k b : Nat} {s t t' : State} (h : OccurredBit i k b s t)
    (hb : (t.rdW k).toNat.testBit b = true → (t'.rdW k).toNat.testBit b = true)
    (hc : t'.rdW (Reg.EV_CNT i) = t.rdW (Reg.EV_CNT i)) : OccurredBit i k b s t' :=
  ⟨hb h.1, fun h3 => hc.trans (h.2 h3)⟩

/-! ## Registers that may change -/

theorem RegsKeptEv.refl (ks : List Nat) (s : State) : RegsKeptEv ks s s := fun _ _ _ => rfl

theorem RegsKeptEv.trans {ks : List Nat} {s t u : State} (h : RegsKeptEv ks s t) (h' : RegsKeptEv ks t u) : RegsKeptEv ks s u :=
  fun k hk he => (h' k hk he).trans (h k hk he)

theorem RegsKeptEv.mono {ks ks' : List Nat} {s t : State} (h : RegsKeptEv ks s t) (hks : ks ⊆ ks') : RegsKeptEv ks' s t :=
  fun k hk he => h k (fun hm => hk (hks hm)) he

theorem RegsKeptEv.of_regs (ks : List Nat) {s t : State} (h : t.regs = s.regs) : RegsKeptEv ks s t :=
  fun k _ _ => State.rdW_of_regs h k

theorem RegsKept.ev {ks : List Nat} {s t : State} (h : RegsKept ks s t) : RegsKeptEv ks s t := fun k hk _ => h k hk

theorem RegsKeptEv.setFld (ks : List Nat) (s : State) {k : Nat} (f : Fld) (v : Nat) (h : k ∈ ks) : RegsKeptEv ks s (s.setFld k f v) :=
  fun _ hj _ => State.rdW_setFld_other s f v fun e => hj (e ▸ h)

theorem RegsKeptEv.ite {ks : List Nat} {c : Prop} [Decidable c] {s t u : State} (h : RegsKeptEv ks s t) (h' : RegsKeptEv ks s u) :
    RegsKeptEv ks s (if c then t else u) := by
  split <;> assumption

theorem RegsKeptEv.evRs (ks : List Nat) (s : State) {e : Nat} (he : e < 400) (h : Reg.RS_EVENT ∈ ks) : RegsKeptEv ks s (s.evRs e) :=
  fun _ hj hk => State.rdW_evRs s he hk fun e => hj (e ▸ h)

theorem RegsKeptEv.cnt (ks : List Nat) (s : State) {k : Nat} (h : k ∈ ks) : RegsKeptEv ks s (s.cnt k) :=
  fun _ hj _ => State.rdW_cnt_other s fun e => hj (e ▸ h)

theorem RegsKeptEv.occurBit (ks : List Nat) (s : State) {i : Nat} (hi : i < 1024) {k : Nat} (b : Nat) (det : Option Nat)
    (h : k ∈ ks) : RegsKeptEv ks s (s.occurBit i k b det) :=
  fun _ hj he => State.rdW_occurBit s hi b det he fun e => hj (e ▸ h)

theorem RegsKeptEv.occur (ks : List Nat) (s : State) {i : Nat} (hi : i < 1024) : RegsKeptEv ks s (s.occur i) :=
  fun _ _ he => State.rdW_occur s hi he

/-! ## Sources of reset before and after Ready (R508) -/

theorem mem_insNat {l : List Nat} {n m : Nat} : m ∈ insNat l n ↔ m = n ∨ m ∈ l := by
  induction l with
  | nil => simp [insNat]
  | cons x xs ih =>
    unfold insNat
    split
    · subst_vars
      simp
    · split
      · simp
      · rw [List.mem_cons, ih, List.mem_cons]
        tauto

theorem State.evRs_late {s : State} (e : Nat) (h : s.mode ≤ 3) : e ∈ (s.evRs e).rs.late := by
  rw [State.evRs, if_pos h]
  exact mem_insNat.2 (.inl rfl)

theorem State.evRs_bit {s : State} {e : Nat} (he : e < 64) (h : 3 < s.mode) :
    ((s.evRs e).rdW Reg.RS_EVENT).toNat.testBit e = true := by
  rw [State.evRs, if_neg (by omega)]
  exact State.occurBit_bit s (by omega) e he none (by decide)

/-! ## The change of mode (R35, R464) -/

section
variable (s : State) {new : Nat} (trig : Nat)

/-- The word of PW_MODE that a change of mode leaves. -/
def modeWord (w : Word) (old new trig : Nat) : Word :=
  F.PW_MODE_IN_TRANSIT.put (F.PW_MODE_MODE.put (F.PW_MODE_TRIGGER.put (F.PW_MODE_PREV.put w old) trig) new) 0

theorem State.arbStep_rdW {k : Nat} (hk : evKey k = false) (hs : k ≠ Reg.SEC_EVENT) (ha : k ≠ Reg.SEC_ARB) :
    s.arbStep.rdW k = s.rdW k := by
  unfold State.arbStep
  extract_lets
  split
  · split
    · rw [State.rdW_evSec _ (by decide) hk hs, State.rdW_setFld_other _ _ _ ha, State.updSec_rdW]
    · rw [State.rdW_evSec _ (by decide) hk hs]
  · rfl

theorem State.rdW_setMode : (s.setMode new trig).rdW Reg.PW_MODE = modeWord (s.rdW Reg.PW_MODE) s.mode new trig := by
  have harb : s.arbStep.rdW Reg.PW_MODE = s.rdW Reg.PW_MODE := State.arbStep_rdW s (by decide) (by decide) (by decide)
  unfold State.setMode
  extract_lets k s1 s2 s3
  have h1 : s1.rdW Reg.PW_MODE = s.rdW Reg.PW_MODE ∧ s1.mode = s.mode := by
    unfold s1
    split
    · exact ⟨harb, State.mode_eq_of_rdW harb⟩
    · exact ⟨rfl, rfl⟩
  rw [State.rdW_evPw _ (by decide) (by decide) (by decide), State.updUm_rdW]
  simp only [s3, s2, k, State.rdW_setFld, h1, modeWord]

theorem State.mode_setMode (hnew : new < 16) : (s.setMode new trig).mode = new := by
  rw [State.mode, State.fld_hw _ _ rfl, State.rdW_setMode s trig, modeWord, Fld.get_put_other _ _ _ _ (by decide),
    Fld.get_put _ _ _ (by decide)]
  exact Nat.mod_eq_of_lt hnew

theorem State.trigger_setMode (ht : trig < 256) : (s.setMode new trig).fld Reg.PW_MODE F.PW_MODE_TRIGGER = trig := by
  rw [State.fld_hw _ _ rfl, State.rdW_setMode s trig, modeWord, Fld.get_put_other _ _ _ _ (by decide),
    Fld.get_put_other _ _ _ _ (by decide), Fld.get_put _ _ _ (by decide)]
  exact Nat.mod_eq_of_lt ht

/-- A change to a mode other than Ready writes PW_MODE, PW_EVENT and what an event writes. -/
theorem State.setMode_kept (hnew : new ≠ 4) : RegsKeptEv [Reg.PW_MODE, Reg.PW_EVENT] s (s.setMode new trig) := by
  intro k hk he
  simp only [List.mem_cons, List.not_mem_nil, or_false, not_or] at hk
  unfold State.setMode
  simp only [if_neg hnew]
  rw [State.rdW_evPw _ (by decide) he hk.2, State.updUm_rdW]
  simp only [State.rdW_setFld_other _ _ _ hk.1]

end

end Sys2Proof.Machine
end

section
/-! SUPPORT. Held, Strap and the bring-up rows (R490, R497 to R499). -/

namespace Sys2Proof.Machine

set_option Elab.async false

theorem bringRows_code {n d : Nat} (h : bringRows[n]? = some d) : d < 64 := by
  have hmem : d ∈ bringRows := List.mem_of_getElem? h
  have hall : ∀ x ∈ bringRows, x < 64 := by decide
  exact hall d hmem

theorem State.readRecord_aon (s : State) (c0 c1 : List Byte) : (s.readRecord c0 c1).aon = s.aon :=
  (State.readRecord_in s c0 c1).same .aon rfl

theorem State.readRecord_flash (s : State) (c0 c1 : List Byte) :
    (s.readRecord c0 c1).flash.rec0 = c0 ∧ (s.readRecord c0 c1).flash.rec1 = c1 := by
  unfold State.readRecord
  extract_lets u
  split
  · rw [(State.loadRemaps_in u _).same .flash rfl]
    exact ⟨rfl, rfl⟩
  · rw [(State.bootFail_in _ _).same .flash rfl, State.logKind_flash]
    exact ⟨rfl, rfl⟩

/-- A bring-up row's state before its domain is released (R499). -/
def State.rowReleased (s : State) (c0 c1 : List Byte) (d : Nat) : State :=
  ((((if s.rs.row = 3 ∧ s.bootPath ≤ 1 then s.readRecord c0 c1 else s).updRs
    (fun r => { r with row := s.rs.row + 1, rowAt := s.aon })).setFld Reg.RS_BRINGUP F.RS_BRINGUP_LAST_DOMAIN d).setFld
      Reg.RS_BRINGUP F.RS_BRINGUP_DONE (if s.rs.row + 1 = bringRows.length then 1 else 0))

theorem execBringupRowRelease_eq {s : State} {c0 c1 : List Byte} {d : Nat} (hrow : bringRows[s.rs.row]? = some d)
    (hm : s.mode = 3) (hat : s.rs.rowAt + (if s.rs.row < 3 then 25 else 50) ≤ s.aon)
    (hwait : s.rs.row = 3 → s.recordWait c0 c1 = true) :
    execBringupRowRelease c0 c1 s = .next (((s.rowReleased c0 c1 d).domOn d).rowHook d) := by
  have haon : (if s.rs.row = 3 ∧ s.bootPath ≤ 1 then s.readRecord c0 c1 else s).aon = s.aon := by
    split
    · exact State.readRecord_aon s c0 c1
    · rfl
  simp only [execBringupRowRelease, hrow]
  rw [if_pos ⟨hm, hat, hwait⟩, haon]
  rfl

theorem State.rowReleased_bringup (s : State) (c0 c1 : List Byte) {d : Nat} (hd : d < 64) :
    (s.rowReleased c0 c1 d).fld Reg.RS_BRINGUP F.RS_BRINGUP_LAST_DOMAIN = d ∧
    (s.rowReleased c0 c1 d).fld Reg.RS_BRINGUP F.RS_BRINGUP_DONE = (if s.rs.row + 1 = bringRows.length then 1 else 0) := by
  constructor
  · rw [State.rowReleased, State.fld_setFld_other _ _ _ _ _ (by decide), State.fld_setFld _ _ _ _ (by decide)]
    exact Nat.mod_eq_of_lt hd
  · rw [State.rowReleased, State.fld_setFld _ _ _ _ (by decide)]
    split <;> rfl

theorem State.rowReleased_rest {s : State} (c0 c1 : List Byte) (d : Nat) (hn : s.rs.row ≠ 3) :
    (s.rowReleased c0 c1 d).rs = { s.rs with row := s.rs.row + 1, rowAt := s.aon } ∧
    RegsKept [Reg.RS_BRINGUP] s (s.rowReleased c0 c1 d) := by
  simp only [State.rowReleased, hn, false_and, if_false, State.setFld_rs]
  refine ⟨rfl, fun k hk => ?_⟩
  rw [List.mem_singleton] at hk
  rw [State.rdW_setFld_other _ _ _ hk, State.rdW_setFld_other _ _ _ hk, State.updRs_rdW]

theorem State.strapRole_aon (s : State) (r : Nat) : (s.strapRole r).aon = s.aon := (State.strapRole_in s r).same .aon rfl

theorem bandOf_lt (c : Nat) : bandOf c < 16 := by
  unfold bandOf
  omega

/-- The registers that the strap's role sets. -/
def strapRoleRegs : List Nat :=
  [Reg.TW_ROLE, Reg.CL_HERD_CFG, Reg.CL_PORT_CFG 0, Reg.CL_PORT_CFG 1, Reg.CL_PORT_CFG 2, Reg.CL_PORT_CFG 3]

theorem State.rdW_strapRole (s : State) (r : Nat) {k : Nat} (hk : k ∉ strapRoleRegs) : (s.strapRole r).rdW k = s.rdW k := by
  simp only [strapRoleRegs, List.mem_cons, List.not_mem_nil, or_false, not_or] at hk
  obtain ⟨h1, h2, h3, h4, h5, h6⟩ := hk
  simp only [State.strapRole, State.clPortsEn, List.foldl, State.rdW_setFld_other, h1, h2, h3, h4, h5, h6, ne_eq,
    not_false_eq_true]

theorem State.strapRole_strap (s : State) {r : Nat} (hr : r < 4) : F.TW_ROLE_STRAP.get ((s.strapRole r).rdW Reg.TW_ROLE) = r := by
  simp (disch := decide) only [State.strapRole, State.clPortsEn, List.foldl, State.rdW_setFld_other, State.rdW_setFld,
    Fld.get_put, Fld.get_put_other]
  exact Nat.mod_eq_of_lt hr

/-- Settles O57: each of the four commands, in the order of the statement. -/
theorem bringUpFollowsTheStrapAndItsRows : Obligations.BringUpFollowsTheStrapAndItsRows := by
  unfold Obligations.BringUpFollowsTheStrapAndItsRows
  refine ⟨?_, ?_, ?_, ?_⟩
  · intro s hm hsw hall
    refine .of_exists ?_
    show ∃ t, execHeldExit s = _ ∧ _
    unfold execHeldExit
    rw [if_pos ⟨hm, hsw, hall⟩]
    extract_lets u
    refine ⟨_, rfl, ?_⟩
    simp [u, State.mode_setMode, State.trigger_setMode]
  · intro s c0 c1 c2 c3 hm hat
    refine .of_exists ?_
    show ∃ t, execStrapComplete c0 c1 c2 c3 s = _ ∧ _
    unfold execStrapComplete
    rw [if_pos ⟨hm, hat⟩]
    extract_lets code band k old had s1 s2 s3 s4 s5 s6 s7 s8
    refine ⟨_, rfl, ?_⟩
    have hcode : code < 64 := by omega
    have hband : band < 16 := bandOf_lt code
    have hev : RegsKeptEv [Reg.RS_EVENT] s3 s5 := by
      refine .trans (t := s4) (.ite (.evRs _ _ (by decide) (.head _)) (.refl _ _)) (.ite (.evRs _ _ (by decide) (.head _)) (.refl _ _))
    have haon : s8.aon = s.aon := by
      simp only [s8, s7, s6, State.setFld_aon, State.wrW_aon, State.strapRole_aon]
      simp only [s5, apply_ite State.aon, State.evRs_aon, ite_self]
      simp only [s4, apply_ite State.aon, State.evRs_aon, ite_self]
      simp only [s3, s2, s1, apply_ite State.aon, State.setFld_aon, ite_self]
    refine ⟨State.mode_setMode s8 4 (by decide), rfl, ?_, ?_⟩
    · simp only [State.updRs, haon]
    simp (disch := decide) only [State.updRs_rdW, State.fld_hw, State.setMode_kept _ _ _ _, s8, s7, s6, s3, s2,
      State.rdW_setFld_other, State.rdW_wrW_other, State.rdW_wrW_same, State.rdW_strapRole, hev _, k,
      State.rdW_setFld, Fld.get_put, Fld.get_put_other, State.strapRole_strap s5 (show band / 4 < 4 by omega)]
    refine ⟨?_, ?_, ?_, ?_, rfl⟩
    · exact Nat.mod_eq_of_lt hcode
    · exact Nat.mod_eq_of_lt hband
    · exact Nat.mod_eq_of_lt (show band / 4 < 4 by omega)
    · exact Nat.mod_eq_of_lt (show band % 4 < 4 by omega)
  · intro s c0 c1 d hrow hm hat hn
    obtain ⟨hlast, hdone⟩ := s.rowReleased_bringup c0 c1 (bringRows_code hrow)
    obtain ⟨hrs, hregs⟩ := State.rowReleased_rest c0 c1 d hn
    exact .intro (execBringupRowRelease_eq hrow hm hat fun h => absurd h hn) ⟨_, rfl, hrs, hlast, hdone, hregs⟩
  · intro s c0 c1 hm hn hat hwait
    have hrow : bringRows[s.rs.row]? = some 0x30 := by rw [hn]; rfl
    refine .intro (execBringupRowRelease_eq hrow hm (by simpa [hn] using hat) fun _ => hwait) ⟨_, rfl, ?_, ?_, (s.rowReleased_bringup c0 c1 (by decide)).1, ?_, ?_⟩
    · simp [State.rowReleased, State.updRs, hn]
    · simp [State.rowReleased, State.updRs]
    · intro hp
      simp [State.rowReleased, hn, hp, State.readRecord_flash]
    · intro hp
      simp [State.rowReleased, hn, show ¬ s.bootPath ≤ 1 by omega]

end Sys2Proof.Machine
end

section
/-! SUPPORT. Device-wide resets and what they leave (R35, R487 to R493). -/

namespace Sys2Proof.Machine

set_option Elab.async false


theorem State.rdW_saveTime (s : State) (k : Nat) : s.saveTime.rdW k = s.rdW k :=
  State.rdW_of_regs ((State.saveTime_in s).same .regs rfl) k

theorem State.setCause_kept (s : State) (code detail : Nat) :
    RegsKeptEv [Reg.RS_CAUSE, Reg.RS_CAUSE_STAMP, Reg.RS_CAUSE_TL] s (s.setCause code detail) := by
  intro k hk he
  simp only [List.mem_cons, List.not_mem_nil, or_false, not_or] at hk
  obtain ⟨h1, h2, h3⟩ := hk
  unfold State.setCause
  extract_lets same rank n win prev u r v
  rw [State.rdW_logKind _ _ _ he, State.rdW_ite, State.rdW_wrW_other _ _ h3, State.rdW_wrW_other _ _ h2]
  simp only [v, r, State.rdW_setFld_other _ _ _ h1, u, State.updRs_rdW, ite_self]

theorem mem_addSource (l : List (Nat × Nat)) (code aon : Nat) : (code, aon) ∈ addSource l code aon :=
  List.mem_append_right _ (List.mem_singleton_self _)

/-- The state whose device-wide reset is counted and that Held keeps: codes 4 to 7 tell the peer first (R415). -/
def State.resetFrom (s : State) (code : Nat) : State :=
  if code = 4 ∨ code = 5 ∨ code = 6 ∨ code = 7 then s.yieldFirst else s

theorem State.deviceReset_held (s : State) (code detail : Nat) :
    ResetToHeld code (s.resetFrom code) (s.deviceReset code detail) := by
  unfold State.deviceReset
  extract_lets u nested k s1 s2 s3 k2 s4 s5 s6 s7 s8 s9 s10
  have haon : s9.aon = u.aon := by
    have h1 : s1.aon = u.aon := by simp only [s1, apply_ite State.aon, State.updRs_aon, State.setFld_aon, ite_self]
    have h4 : s4.aon = s3.aon := by simp only [s4, apply_ite State.aon, State.setFld_aon, ite_self]
    calc s9.aon = s4.aon := by simp only [s9, s8, s7, s6, s5, State.updPw_aon, State.setFld_aon, State.wrW_aon, State.setMode_aon]
      _ = s3.aon := h4
      _ = u.aon := by simp only [s3, s2, State.saveTime_aon, State.setCause_aon, State.cnt_aon, h1]
  have hcount : s5.rdW Reg.RS_COUNT = (s1.cnt Reg.RS_COUNT).rdW Reg.RS_COUNT := by
    have h4 : s4.rdW Reg.RS_COUNT = s3.rdW Reg.RS_COUNT := by
      simp (disch := decide) only [s4, k2, State.rdW_ite, State.rdW_setFld_other, ite_self]
    simp (disch := decide) only [s5, State.setMode_kept _ _ _ _, h4, s3, s2, State.rdW_saveTime, State.setCause_kept _ _ _ _]
  have hcount1 : s1.rdW Reg.RS_COUNT = u.rdW Reg.RS_COUNT := by
    simp (disch := decide) only [s1, k, State.rdW_ite, State.updRs_rdW, State.rdW_setFld_other, ite_self]
  have hrest : ∀ {k : Nat}, k ≠ Reg.PW_HVOTE 33 → k ≠ Reg.PW_HVOTE 34 → k ≠ Reg.PW_SUP_STAT → k ≠ Reg.PW_SHED_STAT →
      s10.rdW k = s6.rdW k := by
    intro k h1 h2 h3 h4
    simp only [s10, s9, s8, s7, State.updRs_rdW, State.updPw_rdW, State.rdW_setFld_other _ _ _ h4,
      State.rdW_setFld_other _ _ _ h3, State.rdW_wrW_other _ _ h2, State.rdW_wrW_other _ _ h1]
  clear_value s9
  refine ⟨?_, ?_, ?_, rfl, ?_, ?_, ?_⟩
  · have hmode : s10.rdW Reg.PW_MODE = s5.rdW Reg.PW_MODE := by
      rw [hrest (by decide) (by decide) (by decide) (by decide)]
      simp (disch := decide) only [s6, State.rdW_wrW_other]
    rw [State.updUm_mode, State.mode_eq_of_rdW hmode]
    exact State.mode_setMode s4 _ (by decide)
  · rw [State.updUm_rdW, hrest (by decide) (by decide) (by decide) (by decide)]
    simp (disch := decide) only [s6, State.rdW_wrW_other, State.rdW_wrW_same]
  · rw [State.updUm_rdW, hrest (by decide) (by decide) (by decide) (by decide)]
    exact State.rdW_wrW_same _ _ _
  · exact congrArg some haon
  · show (code, u.aon) ∈ addSource _ code s9.aon
    rw [haon]
    exact mem_addSource _ _ _
  · rw [State.updUm_rdW, hrest (by decide) (by decide) (by decide) (by decide)]
    simp (disch := decide) only [s6, State.rdW_wrW_other, hcount, State.rdW_cnt, hcount1]
    rfl

theorem State.rdW_logDip (s : State) (r : Nat) (d : DipRt) (dur : Nat) (cut : Bool) {k : Nat} (h : evKey k = false) :
    (s.logDip r d dur cut).rdW k = s.rdW k := State.rdW_logPut s _ (evKey_false h).2.1 (evKey_false h).2.2.1

theorem State.showDip_kept (s : State) (r : Nat) (d : DipRt) (dur : Nat) (op : Bool) :
    RegsKept [Reg.PW_DIP, Reg.PW_DIP_AT, Reg.PW_DIP_STAMP] s (s.showDip r d dur op) := by
  intro k hk
  simp only [List.mem_cons, List.not_mem_nil, or_false, not_or] at hk
  obtain ⟨h1, h2, h3⟩ := hk
  simp only [State.showDip, State.rdW_wrW_other _ _ h3, State.rdW_wrW_other _ _ h2, State.rdW_setFld_other _ _ _ h1]

/-- A brownout of another rail than VDD_AON resets the device from a state that differs in the dip's record alone (R469). -/
theorem execBrownout_reset {s : State} {rail : Fin 7} {mv : Nat} (hm : s.mode ≠ 0) (h5 : rail.val ≠ 5)
    (hmv : mv < (railLow rail).2) : ∃ u : State, execBrownout rail mv s = .next (u.deviceReset 2 rail) ∧ u.aon = s.aon ∧
      u.rdW Reg.RS_COUNT = s.rdW Reg.RS_COUNT := by
  unfold execBrownout
  extract_lets r u v
  rw [if_neg (not_or.2 ⟨hm, Nat.not_le.2 hmv⟩), if_neg h5]
  refine ⟨v, rfl, ?_⟩
  have hu : u.aon = s.aon ∧ u.rdW Reg.RS_COUNT = s.rdW Reg.RS_COUNT := by
    unfold u
    split
    · next d _ =>
      extract_lets d' dur w
      have hw : w.aon = s.aon := by
        unfold w
        split
        · exact (State.showDip_in _ _ _ _ _).same .aon rfl
        · rfl
      have hw' : w.rdW Reg.RS_COUNT = s.rdW Reg.RS_COUNT := by
        simp (disch := decide) only [w, State.rdW_ite, State.showDip_kept _ _ _ _ _ _, ite_self]
      exact ⟨((State.logDip_in _ _ _ _ _).same .aon rfl).trans hw,
        by rw [State.updPw_rdW, State.rdW_logDip _ _ _ _ _ (by decide), hw']⟩
    · exact ⟨rfl, rfl⟩
  simp (disch := decide) only [v, apply_ite State.aon, State.setFld_aon, State.rdW_ite, State.rdW_setFld_other, ite_self, hu,
    and_self]

theorem execBrownout_off {s : State} {mv : Nat} (hm : s.mode ≠ 0) (hmv : mv < (railLow 5).2) :
    execBrownout 5 mv s = .next s.poweredOff := by
  unfold execBrownout
  extract_lets r u v
  exact (if_neg (not_or.2 ⟨hm, Nat.not_le.2 hmv⟩)).trans (if_pos rfl)

theorem State.poweredOff_rdW_on (s : State) : s.poweredOff.rdW Reg.PW_ON = 0 := by
  simp [State.rdW, State.poweredOff, SMap.get, Reg.PW_MODE, Reg.PW_ON]

theorem State.poweredOff_mode (s : State) : s.poweredOff.mode = 0 := by
  simp [State.mode, State.fld, F.PW_MODE_MODE, Fld.get, State.rdW, State.poweredOff, SMap.get]

/-- A pin's release without an accepted reset is a glitch (R491). -/
theorem State.glitch_told (s : State) :
    let t := (s.cnt Reg.RS_GLITCH).evRs 8
    t.rdW Reg.RS_GLITCH = BitVec.ofNat 64 (min ((s.rdW Reg.RS_GLITCH).toNat + 1) 0xFFFFFFFF) ∧ t.mode = s.mode ∧
      (s.mode ≤ 3 → 8 ∈ t.rs.late) ∧ (3 < s.mode → (t.rdW Reg.RS_EVENT).toNat.testBit 8 = true) ∧
      RegsKeptEv [Reg.RS_GLITCH, Reg.RS_EVENT] s t := by
  intro t
  have hmode : (s.cnt Reg.RS_GLITCH).mode = s.mode := State.mode_eq_of_rdW (State.rdW_cnt_other s (by decide))
  have hcnt : t.rdW Reg.RS_GLITCH = BitVec.ofNat 64 (min ((s.rdW Reg.RS_GLITCH).toNat + 1) 0xFFFFFFFF) :=
    (State.rdW_evRs _ (by decide) (by decide) (by decide)).trans (State.rdW_cnt s _)
  refine ⟨hcnt, ?_, fun h => ?_, fun h => ?_, ?_⟩
  · exact (State.mode_eq_of_rdW (State.rdW_evRs _ (by decide) (by decide) (by decide))).trans hmode
  · exact State.evRs_late 8 (hmode.trans_le h)
  · exact State.evRs_bit (by decide) (hmode.symm ▸ h)
  · exact .trans (.cnt _ s (.head _)) (.evRs _ _ (by decide) (.tail _ (.head _)))

/-- Settles O55: every device-wide reset is `deviceReset`, told once by `State.deviceReset_held`. -/
theorem deviceWideResetsHoldTheDevice : Obligations.DeviceWideResetsHoldTheDevice := by
  unfold Obligations.DeviceWideResetsHoldTheDevice
  refine ⟨?_, ?_, ?_, ?_, ?_, ?_, ?_, ?_, ?_⟩
  · intro s hm
    refine .intro (show execAonPowerOn s = _ from if_pos hm) ⟨?_, rfl, rfl, rfl, rfl, rfl, rfl, rfl⟩
    show State.reset.mode = 1
    decide
  · intro s mv hm hmv
    exact .intro (execBrownout_off hm hmv) ⟨s.poweredOff_mode, rfl, rfl, rfl, rfl, rfl, fun d => by
      simp [State.on, s.poweredOff_rdW_on]⟩
  · intro s rail mv hm h5 hmv
    obtain ⟨u, he, haon, hcount⟩ := execBrownout_reset hm h5 hmv
    exact .intro he ⟨u, haon, hcount, u.deviceReset_held 2 rail⟩
  · intro s hm hn
    exact .intro (show execResetNAccepted s = _ from if_neg (by simp [hm, hn])) ⟨s.deviceReset_held 3 0, rfl⟩
  · intro s hm hn
    exact .intro (show execResetNRelease s = _ from (if_neg hm).trans (if_pos hn)) ⟨rfl, mem_addSource _ _ _, rfl⟩
  · intro s hm hn
    exact .intro (show execResetNRelease s = _ from (if_neg hm).trans (if_neg (by simp [hn]))) s.glitch_told
  · intro s hon hm hs hat
    refine .intro (show execCreameryWatchdogExpiry s = _ from if_pos ⟨hon, hs, hat⟩) ?_
    rw [State.creameryFault, if_neg (fun h => hm h.1)]
    exact s.deviceReset_held 4 0
  · intro s detail hm hc h1 h5
    refine .intro (show execCriticalStateError detail s = _ from if_pos ⟨hm, h1, h5⟩) ?_
    rw [State.creameryFault, if_neg (fun h => hc h.1)]
    exact s.deviceReset_held 5 detail.toNat
  · intro s w c hat hw hdue
    refine .intro (t := s.deviceReset 6 c) (show execResetDomainDeviceStart s = _ from ?_) (s.deviceReset_held 6 c)
    unfold execResetDomainDeviceStart
    rw [hat]
    exact if_pos ⟨hw, by rw [hdue]; rfl⟩

end Sys2Proof.Machine
end

section
/-! SUPPORT. What a reset leaves (R118, R191, R466, R487, R488): the registers after the switches open, and the restart of the
Creamery alone. -/

namespace Sys2Proof.Machine

set_option Elab.async false


/-- A register that a restart of the Creamery leaves (R118, R487): it lies neither in MGMT nor in a Churn unit's domain. -/
def outsideCreamery (k : Nat) : Bool := regDom k != 3 && (decide (regDom k < 0x20) || decide (0x30 ≤ regDom k))

/-- Umger's part and the registers outside MGMT and the Churn units are the same in both states. -/
def CreameryOnly (s t : State) : Prop := t.um = s.um ∧ ∀ k, outsideCreamery k = true → t.rdW k = s.rdW k

theorem CreameryOnly.refl (s : State) : CreameryOnly s s := ⟨rfl, fun _ _ => rfl⟩

theorem CreameryOnly.trans {s t u : State} (h : CreameryOnly s t) (h' : CreameryOnly t u) : CreameryOnly s u :=
  ⟨h'.1.trans h.1, fun k hk => (h'.2 k hk).trans (h.2 k hk)⟩

theorem CreameryOnly.of_parts {s t u : State} (h : CreameryOnly s t) (hum : u.um = t.um) (hr : u.regs = t.regs) : CreameryOnly s u :=
  h.trans ⟨hum, fun k _ => State.rdW_of_regs hr k⟩

theorem CreameryOnly.setFld {s t : State} (h : CreameryOnly s t) {k : Nat} (f : Fld) (v : Nat) (hk : outsideCreamery k = false) :
    CreameryOnly s (t.setFld k f v) :=
  h.trans ⟨State.setFld_um .., fun j hj => State.rdW_setFld_other t f v fun e => by rw [e, hk] at hj; exact Bool.noConfusion hj⟩

theorem CreameryOnly.foldl {s t : State} {α : Type} (f : State → α → State) (l : List α) (h : CreameryOnly s t)
    (hf : ∀ u, ∀ x ∈ l, CreameryOnly s u → CreameryOnly s (f u x)) : CreameryOnly s (l.foldl f t) :=
  List.foldlRecOn l f h fun u hu x hx => hf u x hx hu

theorem outsideCreamery_id : ∀ u < 16, outsideCreamery (Reg.CH_ID u) = false := by decide +kernel
theorem outsideCreamery_wb : ∀ g < 12, outsideCreamery (Reg.CH_WB_STATUS g) = false := by decide +kernel
theorem outsideCreamery_spare : ∀ q < 4, outsideCreamery (Reg.CH_SPARE_CTRL q) = false := by decide +kernel

theorem CreameryOnly.startZeroing {s t : State} (h : CreameryOnly s t) (u : Nat) : CreameryOnly s (t.startZeroing u) := by
  unfold State.startZeroing
  extract_lets v
  have hv : CreameryOnly s v := h.of_parts (State.updUnit_um ..) (State.updUnit_regs ..)
  split
  · next hg => exact hv.setFld _ _ (outsideCreamery_wb _ hg)
  · exact hv

/-- The binding of R118: what it leaves of the registers and the parts, and its answer to a self-test that it ends. -/
theorem State.rebind_eq (s : State) {q : Nat} (hq : q < 4) : ∃ u : State, Within 655424 s u ∧ CreameryOnly s u ∧
    s.rebind q = (s.spareRt q).testHdr.elim u
      (fun h => u.final h 0x0505 stSpareRefused noDetail (leBytes 1 (u.fld (Reg.CH_SPARE_LOG q) F.CH_SPARE_LOG_RESULT))) := by
  unfold State.rebind
  extract_lets moved s1 s2 s3 s4 s5 hdr s6
  have h1 : CreameryOnly s s1 := .foldl _ _ (.refl s) fun u j hj hu => by
    have hj : j < 3 := List.mem_range.1 hj
    exact ((hu.setFld _ _ (outsideCreamery_id _ (by omega))).setFld _ _ (outsideCreamery_id _ (by omega))).setFld _ _
      (outsideCreamery_wb _ (by omega))
  have h2 : CreameryOnly s s2 := (h1.setFld _ _ (outsideCreamery_id _ (by omega))).setFld _ _ (outsideCreamery_id _ (by omega))
  have h3 : CreameryOnly s s3 := (h2.setFld _ _ (outsideCreamery_spare q hq)).setFld _ _ (outsideCreamery_spare q hq)
  have h4 : CreameryOnly s s4 := .foldl _ _ h3 fun u j _ hu => hu.of_parts (State.updUnit_um ..) (State.updUnit_regs ..)
  have h5 : CreameryOnly s s5 := .foldl _ _ h4 fun u j _ hu => by
    split
    · exact hu.startZeroing _
    · exact hu
  have hfld : ∀ {u : State} (k : Nat) (f : Fld) (v : Nat), Within 131136 s u → Within 131136 s (u.setFld k f v) :=
    fun k f v h => Within.step (State.setFld_in _ k f v) (by decide) h
  have hw1 : Within 131136 s s1 := Within.foldl _ (fun _ _ h => hfld _ _ _ (hfld _ _ _ (hfld _ _ _ h))) (.refl _ s)
  have hw3 : Within 131136 s s3 := hfld _ _ _ (hfld _ _ _ (hfld _ _ _ (hfld _ _ _ hw1)))
  have hw4 : Within 131136 s s4 := Within.foldl _ (fun _ _ h => Within.step (State.updUnit_in ..) (by decide) h) hw3
  have hw5 : Within 131136 s s5 := Within.foldl _ (fun u j h => .ite (Within.step (State.startZeroing_in ..) (by decide) h) h) hw4
  have hhdr : hdr = (s.spareRt q).testHdr := by
    unfold hdr
    rw [State.spareRt_of_spares (hw5.same .spares rfl)]
  refine ⟨s6, Within.step (State.updSpare_in ..) (by decide) (hw5.mono (by decide)),
    h5.of_parts (State.updSpare_um ..) (State.updSpare_regs ..), ?_⟩
  rw [← hhdr]
  clear_value hdr
  cases hdr <;> rfl

/-- Without a self-test to answer it changes the Churn units' registers and MGMT's alone. -/
theorem State.rebind_creamery {s : State} {q : Nat} (hq : q < 4) (hn : (s.spareRt q).testHdr = none) : CreameryOnly s (s.rebind q) := by
  obtain ⟨u, -, hu, he⟩ := s.rebind_eq hq
  rw [he, hn]
  exact hu

theorem State.mgmtOn_rdW (s : State) (k : Nat) : s.mgmtOn.rdW k = s.rdW k := State.rdW_of_regs ((State.mgmtOn_in s).same .regs rfl) k
theorem State.mgmtOn_um (s : State) : s.mgmtOn.um = s.um := (State.mgmtOn_in s).same .um rfl
theorem State.mgmtOn_chans (s : State) : s.mgmtOn.chans = s.chans := (State.mgmtOn_in s).same .chans rfl
theorem State.mgmtOn_slices (s : State) : s.mgmtOn.slices = s.slices := (State.mgmtOn_in s).same .slices rfl
theorem State.mgmtOn_mgmtAt (s : State) : s.mgmtOn.rs.mgmtAt = s.aon := (rfl)

theorem State.regsAfterReset_get (s : State) {k : Nat} (hk : regPerm k = true) : SMap.get (rstW k) s.regsAfterReset k = s.rdW k := by
  have hfixed : ∀ j, regPerm j = false → k ≠ j := fun j hj e => by rw [e, hj] at hk; exact Bool.noConfusion hk
  have hport : ∀ p < 8, regPerm (Reg.HL_PORT_STAT p) = false := by decide +kernel
  unfold State.regsAfterReset
  dsimp only
  refine List.foldlRecOn (motive := fun m => SMap.get (rstW k) m k = s.rdW k) _ _ ?_ fun m hm p hp => ?_
  · rw [SMap.get_put_other _ _ _ _ (hfixed _ (by decide +kernel)), SMap.get_put_other _ _ _ _ (hfixed _ (by decide +kernel))]
    exact (SMap.get_keep _ _ _ _).trans (if_pos hk)
  · rw [SMap.get_put_other _ _ _ _ (hfixed _ (hport p (List.mem_range.1 hp)))]
    exact hm

/-- A restart of the Creamery (R487). -/
theorem State.creameryRestart_told {s : State} (hm : s.mode = 0xC) :
    let t := s.creameryRestart
    t.mode = 0xC ∧ t.um = {} ∧ t.chans = [] ∧ t.slices = [] ∧ t.rs.mgmtAt = s.aon ∧
      (t.rdW Reg.RS_EVENT).toNat.testBit 10 = true ∧ t.fld Reg.RS_BOOT F.RS_BOOT_RESULT = 0 ∧
      ∀ k, regDom k ≠ 3 → regDom k < 0x20 ∨ 0x30 ≤ regDom k → evKey k = false → k ≠ Reg.RS_BOOT → k ≠ Reg.RS_EVENT →
        k ∉ (List.range 16).map Reg.VAT_BANK_REPAIR → t.rdW k = s.rdW k := by
  dsimp only
  unfold State.creameryRestart
  extract_lets notM s1 s2 s3 s4 s5
  have hrun : CreameryOnly s2 s3 := .foldl _ _ (.refl s2) fun u q hq hu =>
    (hu.of_parts (State.updSpare_um ..) (State.updSpare_regs ..)).trans
      (State.rebind_creamery (List.mem_range.1 hq) (by rw [State.spareRt_updSpare]))
  have hparts : s3.chans = [] ∧ s3.slices = [] ∧ s3.aon = s.aon := by
    have hin : Within 21492273216 s2 s3 := Within.foldl _ (fun u q h => Within.step (State.rebind_in ..) (by decide)
      (Within.step (State.updSpare_in ..) (by decide) h)) (.refl _ s2)
    have haon : s2.aon = s.aon := by
      simp only [s2, s1, State.updUm_aon, State.setSlices_aon, State.setChans_aon, State.setHeldWr_aon, State.setLatches_aon,
        State.keepImages_aon, State.keepRegs_aon]
    exact ⟨hin.same .chans rfl, hin.same .slices rfl, (hin.same .aon rfl).trans haon⟩
  have h2 : s2.um = {} ∧ ∀ k, notM k = true → s2.rdW k = s.rdW k :=
    ⟨rfl, fun k hk => (SMap.get_keep _ _ _ _).trans (if_pos hk)⟩
  clear_value s3 s2
  have hbanks : s4.um = s3.um ∧ s4.chans = s3.chans ∧ s4.slices = s3.slices ∧ s4.aon = s3.aon := by
    have hin : Within 64 s3 s4 := Within.foldl _ (fun u b h => Within.step (State.setFld_in ..) (by decide) h) (.refl _ s3)
    exact ⟨hin.same .um rfl, hin.same .chans rfl, hin.same .slices rfl, hin.same .aon rfl⟩
  have hregs : ∀ k, outsideCreamery k = true → k ∉ (List.range 16).map Reg.VAT_BANK_REPAIR → k ≠ Reg.RS_BOOT →
      s5.rdW k = s.rdW k := by
    intro k hk hvat hboot
    have hdom : notM k = true := by
      simp only [outsideCreamery, Bool.and_eq_true] at hk
      exact hk.1
    have h4 : s4.rdW k = s3.rdW k := by
      refine List.foldlRecOn (motive := fun u : State => u.rdW k = s3.rdW k) _ _ rfl fun u hu b hb => ?_
      rw [State.rdW_setFld_other, hu]
      rintro rfl
      exact hvat (List.mem_map_of_mem hb)
    calc s5.rdW k = s4.rdW k := by
          simp only [s5, State.updRs_rdW, State.mgmtOn_rdW, State.rdW_setFld_other _ _ _ hboot]
      _ = s3.rdW k := h4
      _ = s2.rdW k := hrun.2 k hk
      _ = s.rdW k := h2.2 k hdom
  have hboot : s5.rdW Reg.RS_BOOT = F.RS_BOOT_RESULT.put (s4.rdW Reg.RS_BOOT) 0 := by
    simp only [s5, State.updRs_rdW, State.mgmtOn_rdW, State.rdW_setFld]
  have hmode : s5.mode = 0xC := (State.mode_eq_of_rdW (hregs _ (by decide +kernel) (by decide) (by decide))).trans hm
  have hrs : s5.evRs 10 = s5.occurBit 610 Reg.RS_EVENT 10 none := by rw [State.evRs, if_neg (by omega)]
  have hkept : RegsKeptEv [Reg.RS_EVENT] s5 (s5.evRs 10) := .evRs _ _ (by decide) (.head _)
  have h5 : s5.um = s4.um ∧ s5.chans = s4.chans ∧ s5.slices = s4.slices ∧ s5.rs.mgmtAt = s4.aon := by
    simp only [s5, State.updRs_um, State.updRs_chans, State.updRs_slices, State.updRs_rs, State.mgmtOn_um, State.mgmtOn_chans,
      State.mgmtOn_slices, State.mgmtOn_mgmtAt, State.setFld_um, State.setFld_chans, State.setFld_slices, State.setFld_aon,
      and_self]
  clear_value s5 s4
  refine ⟨?_, ?_, ?_, ?_, ?_, State.evRs_bit (by decide) (by omega), ?_, ?_⟩
  · rw [State.mode_eq_of_rdW (hkept _ (by decide) (by decide)), hmode]
  · rw [State.evRs_um]
    exact h5.1.trans <| hbanks.1.trans (hrun.1.trans h2.1)
  · rw [State.evRs_chans]
    exact h5.2.1.trans <| hbanks.2.1.trans hparts.1
  · rw [State.evRs_slices]
    exact h5.2.2.1.trans <| hbanks.2.2.1.trans hparts.2.1
  · rw [hrs, State.occurBit_rs]
    exact h5.2.2.2.trans (hbanks.2.2.2.trans hparts.2.2)
  · rw [State.fld_hw _ _ rfl, hkept _ (by decide) (by decide), hboot]
    exact Fld.get_put _ _ _ (by decide)
  · intro k h3 hdom he hboot hevent hvat
    rw [hkept _ (by simpa using hevent) he]
    refine hregs k ?_ hvat hboot
    simp only [outsideCreamery, Bool.and_eq_true, Bool.or_eq_true, decide_eq_true_eq, bne_iff_ne]
    exact ⟨h3, hdom⟩

/-- Settles O56: what stays after `switchedOff` and `creameryRestart`. -/
theorem resetsKeepWhatOnlyPowerOnClears : Obligations.ResetsKeepWhatOnlyPowerOnClears := by
  unfold Obligations.ResetsKeepWhatOnlyPowerOnClears
  refine ⟨?_, ?_⟩
  · intro s a hsw hat
    refine .intro (t := s.switchedOff) (show execResetSwitchesOpen s = _ from ?_) ⟨rfl, rfl, rfl, rfl, rfl, rfl, rfl, rfl, rfl, ?_⟩
    · unfold execResetSwitchesOpen
      rw [hsw]
      exact if_pos hat
    · exact fun k hk => s.regsAfterReset_get hk
  · intro s hon hm hq hs hat
    refine .intro (show execCreameryWatchdogExpiry s = _ from if_pos ⟨hon, hs, hat⟩) ?_
    rw [State.creameryFault, if_pos ⟨hm, hq⟩]
    exact State.creameryRestart_told hm

end Sys2Proof.Machine
end

section
/-! SUPPORT. Boot sources, entry to Ready and the reset of one domain (R495, R501, R502, R505, R514, R515). -/

namespace Sys2Proof.Machine

set_option Elab.async false

theorem State.umRun_eq {s : State} {h : UmHdr} {op len : Nat} (hc : s.umCheck h op len = none) (body : State → State) :
    s.umRun h op len body = .next (body s) := by
  unfold State.umRun
  rw [hc]

/-- A reply changes no more of Umger's part than the replies due and the commands whose replies a reset discarded. -/
theorem State.post_um (s : State) (r : Reply) :
    (s.post r).um = { s.um with due := (s.post r).um.due, void := (s.post r).um.void } := by
  unfold State.post State.updUm
  dsimp only
  split <;> rfl

theorem State.reply_um (s : State) (h : UmHdr) (op st : Nat) (res : List Byte) :
    (s.reply h op st res).um = { s.um with due := (s.reply h op st res).um.due, void := (s.reply h op st res).um.void } := by
  unfold State.reply
  split
  · rfl
  · exact s.post_um _

theorem State.rdW_pldmSend (s : State) (cmd : Nat) (body : List Byte) (k : Nat) : (s.pldmSend cmd body).rdW k = s.rdW k :=
  State.rdW_of_regs ((State.pldmSend_in s cmd body).same .regs rfl) k

theorem State.pldmSend_flash (s : State) (cmd : Nat) (body : List Byte) : (s.pldmSend cmd body).flash = s.flash :=
  (State.pldmSend_in s cmd body).same .flash rfl

theorem State.seeFuseV_rs (s : State) (v : Bool) : (s.seeFuseV v).rs = s.rs := (State.seeFuseV_in s v).same .rs rfl

theorem State.rdW_imageSet_other (s : State) {k j : Nat} (h : j ≠ k) : (s.imageSet k).rdW j = s.rdW j := by
  unfold State.imageSet
  split
  · exact State.rdW_wrW_other _ _ h
  · rfl

/-- A final reply leaves the domain resets of RESET_DOMAIN alone. -/
theorem State.final_domReset (s : State) (h : UmHdr) (op st det : Nat) (res : List Byte) :
    (s.final h op st det res).um.domReset = s.um.domReset := by
  unfold State.final
  extract_lets u r
  have hu : u.um = s.um := by simp only [u, apply_ite State.um, State.logInternal_um, ite_self]
  split
  · rw [State.updUm_um, State.post_um, hu]
  · rw [hu]

theorem State.rebind_domReset (s : State) {q : Nat} (hq : q < 4) : (s.rebind q).um.domReset = s.um.domReset := by
  obtain ⟨u, -, hu, he⟩ := s.rebind_eq hq
  rw [he]
  cases (s.spareRt q).testHdr with
  | none => exact congrArg Um.domReset hu.1
  | some h => exact (State.final_domReset ..).trans (congrArg Um.domReset hu.1)

theorem State.domResetEnd_domReset (s : State) (d : Nat) : (s.domResetEnd d).um.domReset = s.um.domReset := by
  unfold State.domResetEnd
  extract_lets s1 s2 s3 s4
  have h2 : s2.um.domReset = s1.um.domReset := by
    unfold s2
    split
    · exact State.rebind_domReset s1 (by omega)
    · rfl
  have h3 : s3.um = s2.um := by
    unfold s3
    split
    · exact (State.clPortsEn_in s2).same .um rfl
    · rfl
  rw [State.evRs_um, (State.domHook_in _ _).same .um rfl]
  simp only [s4, State.updPw_um, State.setOn_um, h3, h2, s1, State.keepRegs_um]

/-- Settles O58: each of the commands, in the order of the statement. -/
theorem bootSourcesFailOrStartTheFirmware : Obligations.BootSourcesFailOrStartTheFirmware := by
  unfold Obligations.BootSourcesFailOrStartTheFirmware
  refine ⟨?_, ?_, ?_, ?_, ?_, ?_, ?_, ?_⟩
  · intro s status src hsrc hboot h2 h5 hlim hnext hn3 hm
    refine .of_exists ?_
    show ∃ t, execBootSourceFail status s = _ ∧ _
    unfold execBootSourceFail
    extract_lets st
    split
    · next src' heq =>
      obtain rfl : src' = src := Option.some.inj (heq.symm.trans hsrc)
      rw [if_pos ⟨hboot, h2, h5, hlim⟩]
      extract_lets s1 s2 s3 s4 s5 s6
      rw [if_neg (fun h => hn3 h.1)]
      rename_i k _
      have h5eq : s5 = s4 := if_neg hn3
      have hkept2 : RegsKeptEv [Reg.RS_BOOT] s s2 := .trans (.setFld _ s _ _ (.head _))
        (.ite (.setFld _ s1 _ _ (.head _)) (.ite (.setFld _ s1 _ _ (.head _)) (.refl _ s1)))
      have hrs2 : s2.rs = s.rs := by
        simp only [s2, s1, apply_ite State.rs, State.setFld_rs, ite_self]
      have hm2 : (s2.setFld k F.RS_BOOT_LAST_FAIL st).mode = 3 := by
        rw [State.mode_eq_of_rdW (State.rdW_setFld_other _ _ _ (by decide)), State.mode_eq_of_rdW (hkept2 _ (by decide) (by decide)), hm]
      have hlate : 6 ∈ s3.rs.late ∧ s3.rs.src = s.rs.src := by
        have h3 : s3.rs = { s2.rs with late := insNat s2.rs.late 6 } := by
          simp only [s3, State.bootFail, State.evRs]
          rw [if_pos (hm2.trans_le (le_refl 3)), State.updRs_rs, State.setFld_rs]
        rw [h3]
        exact ⟨mem_insNat.2 (.inl rfl), by rw [hrs2]⟩
      have hboot3 : s3.rdW Reg.RS_BOOT = F.RS_BOOT_LAST_FAIL.put (s2.rdW Reg.RS_BOOT) st := by
        simp only [s3, State.bootFail]
        rw [State.rdW_evRs _ (by decide) (by decide) (by decide), State.rdW_setFld]
      have hboot2 : F.RS_BOOT_PATH.get (s2.rdW Reg.RS_BOOT) = s.bootPath ∧
          (src' = 0 → F.RS_BOOT_SLOTA.get (s2.rdW Reg.RS_BOOT) = st) ∧
          (src' = 1 → F.RS_BOOT_SLOTB.get (s2.rdW Reg.RS_BOOT) = st) := by
        have hst : st % 2 ^ 4 = st := Nat.mod_eq_of_lt (show st < 16 by omega)
        refine ⟨?_, fun h => ?_, fun h => ?_⟩
        · rw [State.bootPath, State.fld_hw _ _ rfl]
          simp (disch := decide) only [s2, s1, k, State.rdW_ite, State.rdW_setFld, apply_ite F.RS_BOOT_PATH.get,
            Fld.get_put_other, ite_self]
        · simp (disch := decide) only [s2, s1, k, h, if_true, State.rdW_setFld, Fld.get_put]
          exact hst
        · simp (disch := decide) only [s2, s1, k, h, one_ne_zero, if_false, if_true, State.rdW_setFld, Fld.get_put]
          exact hst
      have h6 : s6.rs.src = s.rs.src + 1 ∧ 6 ∈ s6.rs.late ∧ s6.rdW Reg.RS_BOOT = s3.rdW Reg.RS_BOOT ∧ s6.mode = 3 := by
        have h4 : s4.rs = s3.rs ∧ RegsKeptEv [Reg.SEC_EVENT] s3 s4 :=
          ⟨by simp only [s4, apply_ite State.rs, State.evSec_rs, ite_self],
            .ite (.occurBit _ s3 (by decide) _ _ (.head _)) (.refl _ s3)⟩
        have h3 : s3.mode = 3 := by
          rw [← hm2]
          exact State.mode_eq_of_rdW (State.rdW_evRs _ (by decide) (by decide) (by decide))
        have h6 : s6.rs.src = s4.rs.src + 1 ∧ s6.rs.late = s4.rs.late ∧ ∀ j, s6.rdW j = s4.rdW j := by
          simp only [s6, h5eq, State.updRs_rs, State.updRs_rdW, implies_true, and_self]
        rw [h6.1, h6.2.1, h4.1, h6.2.2, State.mode_eq_of_rdW (h6.2.2 _), State.mode_eq_of_rdW (h4.2 _ (by decide) (by decide)), h3]
        exact ⟨by rw [hlate.2], hlate.1, h4.2 _ (by decide) (by decide), rfl⟩
      have hpath : s6.bootPath = s.bootPath := by
        rw [State.bootPath, State.fld_hw _ _ rfl, h6.2.2.1, hboot3, Fld.get_put_other _ _ _ _ (by decide), hboot2.1]
      rw [if_pos (by rw [h6.1, hpath]; exact hnext)]
      refine ⟨s6, rfl, h6.1, h6.2.1, ?_, fun h => ?_, fun h => ?_, h6.2.2.2⟩
      · rw [State.fld_hw _ _ rfl, h6.2.2.1, hboot3, Fld.get_put _ _ _ (by decide)]
        exact Nat.mod_eq_of_lt (show st < 16 by omega)
      · rw [State.fld_hw _ _ rfl, h6.2.2.1, hboot3, Fld.get_put_other _ _ _ _ (by decide), hboot2.2.1 h]
      · rw [State.fld_hw _ _ rfl, h6.2.2.1, hboot3, Fld.get_put_other _ _ _ _ (by decide), hboot2.2.2 h]
    · next heq => exact absurd (heq.symm.trans hsrc) (by simp)
  · intro s image src hsrc hboot hst hpldm
    refine .of_exists ?_
    show ∃ t, execFirmwareVerified image s = _ ∧ _
    unfold execFirmwareVerified
    split
    · next src' heq =>
      obtain rfl : src' = src := Option.some.inj (heq.symm.trans hsrc)
      rw [if_pos ⟨hboot, hst, hpldm⟩]
      extract_lets k s1 s2 s3 s4 s5 s6 s7
      refine ⟨_, rfl, ?_⟩
      have hs7 : s7.rs.fw = true ∧ s7.image = imageBody image ∧ s7.sec.imgHead = image.take 1024 ∧
          s7.flash = (if src' = 0 then { s.flash with slotA := image } else s.flash) := by
        have h5 : s5.flash = s.flash := by
          have h2 : s2.flash = s.flash := by simp only [s2, s1, apply_ite State.flash, State.setFld_flash, ite_self]
          have h3 : s3.flash = s.flash := by simp only [s3, apply_ite State.flash, State.setFld_flash, h2, ite_self]
          have h4 : s4.flash = s.flash := by simp only [s4, apply_ite State.flash, State.pldmSend_flash, h3, ite_self]
          simp only [s5, apply_ite State.flash, State.evRs_flash, State.setFld_flash, ite_self, h4]
        refine ⟨rfl, rfl, rfl, ?_⟩
        simp only [s7, s6, State.updRs_flash, State.updSec_flash, State.updFlash, State.setImage_flash, h5]
      rw [(State.rtAll_in _).same .rs rfl, (State.rtAll_in _).same .image rfl, (State.rtAll_in _).same .sec rfl,
        (State.rtAll_in _).same .flash rfl, (State.imageTables_in _).same .rs rfl, (State.imageTables_in _).same .image rfl,
        (State.imageTables_in _).same .sec rfl, (State.imageTables_in _).same .flash rfl]
      obtain ⟨hfw, himg, hhead, hflash⟩ := hs7
      refine ⟨hfw, himg, hhead, fun h => ?_, fun h => ?_⟩
      · rw [hflash, if_pos h]
      · rw [hflash, if_neg h]
    · next heq => exact absurd (heq.symm.trans hsrc) (by simp)
  · intro s eid piece hboot hsrc hlen
    refine .of_exists ?_
    show ∃ t, execPldmFirmwareData eid piece s = _ ∧ _
    unfold execPldmFirmwareData
    rw [if_pos ⟨hboot, hsrc, hlen⟩]
    extract_lets s1 n
    split
    · exact ⟨_, rfl, rfl, rfl, rfl⟩
    · exact ⟨_, rfl, rfl, rfl, rfl⟩
  · intro s fuseV hm hrow hfw
    refine .of_exists ?_
    show ∃ t, execReadyEntry fuseV s = _ ∧ _
    unfold execReadyEntry
    rw [if_pos ⟨hm, hrow, hfw⟩]
    extract_lets s1 s2 late s3 s4
    have hin : Within 64 s1 s2 := Within.foldl _ (fun u k h => Within.step (State.imageSet_in ..) (by decide) h) (.refl _ s1)
    have hlate : late = s.rs.late := by
      have h1 : s1.rs = s.rs := by
        simp only [s1, State.updPw_rs, State.setMode_rs, State.seeFuseV_rs]
      exact congrArg RsRt.late ((hin.same .rs rfl).trans h1)
    have hmode : s3.mode = 4 := by
      have h1 : s1.mode = 4 := by rw [State.updPw_mode, State.mode_setMode _ _ (by decide)]
      have h2 : s2.rdW Reg.PW_MODE = s1.rdW Reg.PW_MODE := by
        simp (disch := decide) only [s2, List.foldl, State.rdW_imageSet_other]
      rw [State.updRs_mode, State.mode_eq_of_rdW h2, h1]
    have hev : ∀ {e : Nat}, e < 400 → (s3.evRs e).mode = 4 ∧ (s3.evRs e).rs = s3.rs := fun he =>
      ⟨(State.mode_eq_of_rdW (State.rdW_evRs _ he (by decide) (by decide))).trans hmode,
        by rw [State.evRs, if_neg (by omega), State.occurBit_rs]⟩
    have he : (if s3.fld Reg.RS_CAUSE F.RS_CAUSE_CODE = 1 then 1 else 0) < 400 := by split <;> decide
    refine ⟨s4, rfl, s3.evRs _, by rw [← hlate], (hev he).1, ?_, ?_⟩
    · rw [State.evRs_pw, State.updRs_pw, hin.same .pw rfl, State.updPw_pw]
    · rw [(hev he).2, State.updRs_rs]
  · intro s h p hc h0
    refine .intro (show execResetDomain h p s = _ from (State.umRun_eq hc _).trans (congrArg _ (if_pos h0))) ⟨?_, ?_⟩
    · rw [State.reply_um]
      rfl
    · rw [State.reply_regs, State.updUm_regs]
  · intro s h p hc h1 hr he hx hon
    refine .intro (show execResetDomain h p s = _ from State.umRun_eq hc _) ?_
    simp only [h1, hr, he, hx, hon, one_ne_zero, if_false, if_true, ne_eq, not_true_eq_false, Bool.true_eq_false,
      Bool.false_eq_true, or_self]
    rw [State.updUm_um]
    exact List.mem_append_right _ (List.mem_singleton_self _)
  · intro s d w h hq hw hw0 he hx
    refine .of_exists ?_
    show ∃ t, execDomainResetComplete s = _ ∧ _
    unfold execDomainResetComplete
    have hfind : s.um.domReset.find? (fun r => decide (r.2.1 ≤ s.aon) && s.entry r.1 == 0 && !s.pw.exits.testBit r.1) = some (d, w, h) := by
      simp [hq, hw, he, hx]
    rw [hfind]
    dsimp only
    rw [if_pos hw0]
    refine ⟨_, rfl, ?_, _, rfl, rfl⟩
    rw [State.reply_um]
    dsimp only
    rw [State.domResetEnd_domReset, State.updUm_um, hq]
    simp
  · intro s h p hc
    exact .intro (show execRsCauseGet h p s = _ from State.umRun_eq hc _) rfl

end Sys2Proof.Machine
end

section
/-! SUPPORT. The sideband: messages that are held, refused or wake the device, and the MCTP control commands (O45). -/

namespace Sys2Proof.Machine

set_option Elab.async false

theorem Occurred.of_regs {i : Nat} {s t t' : State} (h : Occurred i s t) (hr : t'.regs = t.regs) (hi : i < 1024) : Occurred i s t' :=
  h.after_regs (fun k _ _ _ => State.rdW_of_regs hr k) hi

/-! ## The sideband -/

section
variable {s : State} (hs : s.sbOpen = true)
include hs

theorem State.sidebandIn_eq (f : State → State) : s.sidebandIn f = .next (f s) := by
  rw [State.sidebandIn, if_pos hs]

end

theorem leAt_leBytes_one (v : Nat) : leAt (leBytes 1 v) 0 1 = v % 256 := by
  simp [leBytes, leAt, leNat]

/-- An enabled source that names no port is the first of a wake. -/
theorem State.raiseWake_enabled {s : State} {code : Nat} (hd : s.dozing = true) (hcode : code ≠ 2 ∧ code ≠ 3)
    (hen : (s.rdW Reg.PW_WAKE_EN).toNat.testBit code = true) (hw : s.pw.wake = none) (port : Nat) :
    s.raiseWake code port = s.updPw fun p => { p with wake := some ⟨s.aon, 2 ^ code, port⟩ } := by
  unfold State.raiseWake
  dsimp only
  rw [if_pos (by simp [hd, hcode, hen]), hw]

theorem execMctpMessage_held {s : State} (eid tag : Nat) (bs : List Byte) (hs : s.sbOpen = true) (h : s.um.side.length < 4) :
    Completes (.mctpMessage eid tag bs) s fun t => t.um = { s.um with side := s.um.side ++ [⟨eid, tag, bs⟩] } ∧ Occurred 638 s t ∧
      RegsKeptEv [] s t ∧ t.out = (s.evUm 14).out := by
  refine .intro (t := (s.evUm 14).updUm fun u => { u with side := u.side ++ [⟨eid, tag, bs⟩] }) ?_ ⟨?_, ?_, ?_, rfl⟩
  · show execMctpMessage eid tag bs s = _
    unfold execMctpMessage
    rw [State.sidebandIn_eq hs]
    exact congrArg _ (if_neg (by rw [State.evUm_um]; omega))
  · rw [State.updUm_um, State.evUm_um]
  · exact (s.occurred (i := 638) (by decide) (by decide)).of_regs rfl (by decide)
  · exact RegsKeptEv.occur [] s (i := 638) (by decide)

theorem execMctpMessage_full {s : State} (eid tag : Nat) (bs : List Byte) (hs : s.sbOpen = true) (h : 4 ≤ s.um.side.length)
    (hv : s.um.void = []) :
    Completes (.mctpMessage eid tag bs) s fun t => t.um.side = s.um.side ∧ Occurred 638 s t ∧
      t.um.due.length = s.um.due.length + 1 ∧ ∀ r ∈ t.um.due.drop s.um.due.length, r.status = stQueueFull ∧
        r.hdr.carrier = .sideband ∧ r.hdr.eid = eid ∧ r.hdr.tag = tag := by
  have hum : ((s.evUm 14).refuse (packetHdr .sideband eid tag (bytesAt bs 0 32)) (leAt (bytesAt bs 0 32) 0 2) stQueueFull).um =
      { s.um with due := s.um.due ++ [⟨packetHdr .sideband eid tag (bytesAt bs 0 32), leAt (bytesAt bs 0 32) 0 2, stQueueFull,
        noDetail, [], true, false, false⟩] } := by
    unfold State.refuse State.replyDet State.post
    simp only [State.updUm_um, State.evUm_um, hv]
    rfl
  refine .intro (t := (s.evUm 14).refuse (packetHdr .sideband eid tag (bytesAt bs 0 32)) (leAt (bytesAt bs 0 32) 0 2) stQueueFull)
    ?_ ⟨?_, ?_, ?_, ?_⟩
  · show execMctpMessage eid tag bs s = _
    unfold execMctpMessage
    rw [State.sidebandIn_eq hs]
    exact congrArg _ (if_pos (by rw [State.evUm_um]; exact h))
  · rw [hum]
  · exact (s.occurred (i := 638) (by decide) (by decide)).of_regs (State.refuse_regs ..) (by decide)
  · rw [hum]
    simp
  · intro r hr
    rw [hum, List.drop_left, List.mem_singleton] at hr
    subst hr
    exact ⟨rfl, rfl, rfl, rfl⟩

theorem execMctpMessage_wakes {s : State} (eid tag : Nat) (bs : List Byte)
    (hs : s.on 3 = false ∨ s.mode = 0xA ∨ s.mode = 0xB ∨ s.pw.sleep.isSome = true) (hd : s.dozing = true)
    (hen : (s.rdW Reg.PW_WAKE_EN).toNat.testBit 1 = true) (hw : s.pw.wake = none) :
    Completes (.mctpMessage eid tag bs) s fun t => t.pw.wake = some ⟨s.aon, 2, 0⟩ ∧ t.um = s.um ∧ t.regs = s.regs := by
  have hopen : ¬ s.sbOpen = true := by
    unfold State.sbOpen
    rcases hs with h | h | h | h
    · simp [h]
    · simp [h]
    · simp [h]
    · rw [Option.isSome_iff_ne_none] at h
      simp [h]
  refine .intro (t := s.updPw fun p => { p with wake := some ⟨s.aon, 2, 0⟩ }) ?_ ⟨rfl, rfl, rfl⟩
  show execMctpMessage eid tag bs s = _
  unfold execMctpMessage
  rw [State.sidebandIn, if_neg hopen, State.raiseWake_enabled hd (by decide) hen hw]
  rfl

theorem execGetMctpVersionSupport_known {s : State} (eid tag inst : Nat) {ty : Nat} (hs : s.sbOpen = true)
    (h : ty ∈ [0, 1, 5, 6, 0x7E, 0xFF]) :
    Completes (.getMctpVersionSupport eid tag inst (leBytes 1 ty)) s fun t => t = s.emit (.sideband eid tag false
      ([0, BitVec.ofNat 8 (inst % 32), 4, 0] ++ leBytes 1 ((Config.mctpVersions ty).length / 4) ++ Config.mctpVersions ty)) := by
  have hty : leAt (leBytes 1 ty) 0 1 = ty := by
    rw [leAt_leBytes_one]
    exact Nat.mod_eq_of_lt (by simp at h; omega)
  have hmem : (0xFF :: mctpTypes).contains ty = true := by
    fin_cases h <;> rfl
  refine .intro ?_ rfl
  show execGetMctpVersionSupport eid tag inst (leBytes 1 ty) s = _
  unfold execGetMctpVersionSupport
  rw [State.sidebandIn_eq hs]
  simp only [leBytes_length, ne_eq, not_true_eq_false, if_false, hty, hmem, if_true]
  rfl

theorem execGetMctpVersionSupport_unknown {s : State} (eid tag inst : Nat) {ty : Nat} (hs : s.sbOpen = true) (hlt : ty < 256)
    (h : ty ∉ [0, 1, 5, 6, 0x7E, 0xFF]) :
    Completes (.getMctpVersionSupport eid tag inst (leBytes 1 ty)) s fun t =>
      t = s.emit (.sideband eid tag false [0, BitVec.ofNat 8 (inst % 32), 4, 0x80]) := by
  have hty : leAt (leBytes 1 ty) 0 1 = ty := by rw [leAt_leBytes_one, Nat.mod_eq_of_lt hlt]
  have hmem : (0xFF :: mctpTypes).contains ty = false := by
    simp only [List.mem_cons, List.not_mem_nil, or_false, not_or] at h
    simp [mctpTypes, h]
  refine .intro ?_ rfl
  show execGetMctpVersionSupport eid tag inst (leBytes 1 ty) s = _
  unfold execGetMctpVersionSupport
  rw [State.sidebandIn_eq hs]
  simp only [leBytes_length, ne_eq, not_true_eq_false, if_false, hty, hmem, Bool.false_eq_true]
  rfl

/-- Settles O45: a message is held, refused, or wakes the device, and each control command answers what its format asks. -/
theorem sidebandMessagesAreHeldOrAnswered : Obligations.SidebandMessagesAreHeldOrAnswered := by
  refine ⟨fun s eid tag bs => execMctpMessage_held eid tag bs, fun s eid tag bs => execMctpMessage_full eid tag bs,
    fun s eid tag bs => execMctpMessage_wakes eid tag bs, ?_, ?_, ?_,
    fun s eid tag inst ty => execGetMctpVersionSupport_known eid tag inst,
    fun s eid tag inst ty => execGetMctpVersionSupport_unknown eid tag inst, ?_, ?_, ?_⟩
  · rintro s eid tag inst e p hs hp hop rfl hlo hhi
    refine .intro (t := (s.updUm fun u => { u with eid := leAt p 1 1 }).ctlAnswer eid tag inst 1 0 ([0] ++ leBytes 1 (leAt p 1 1) ++ [0]))
      ?_ ⟨rfl, rfl, rfl⟩
    show execSetEndpointId eid tag inst p s = _
    unfold execSetEndpointId
    rw [State.sidebandIn_eq hs, if_neg (not_not.2 hp), if_neg (by omega)]
  · intro s eid tag inst p hs hp hlo
    refine .intro ?_ rfl
    show execSetEndpointId eid tag inst p s = _
    unfold execSetEndpointId
    rw [State.sidebandIn_eq hs, if_neg (not_not.2 hp), if_pos (.inr (.inl hlo))]
    rfl
  · intro s eid tag inst hs
    exact .intro (show execGetEndpointId eid tag inst [] s = _ from State.sidebandIn_eq hs _) rfl
  · intro s eid tag inst hs
    exact .intro (show execGetMessageTypeSupport eid tag inst [] s = _ from State.sidebandIn_eq hs _) rfl
  · intro s eid tag inst hs
    exact .intro (show execGetVendorDefinedMessageSupport eid tag inst [0] s = _ from State.sidebandIn_eq hs _) rfl
  · intro s eid tag inst e p hs hp he
    have h2 : p.length ≠ 2 := by omega
    have h0 : p.length ≠ 0 := by omega
    have h1 : p.length ≠ 1 := by omega
    simp only [List.mem_cons, List.not_mem_nil, or_false] at he
    rcases he with rfl | rfl | rfl | rfl | rfl
    · exact .intro (show execSetEndpointId eid tag inst p s = _ from
        (State.sidebandIn_eq hs _).trans (congrArg _ (if_pos h2))) rfl
    · exact .intro (show execGetEndpointId eid tag inst p s = _ from
        (State.sidebandIn_eq hs _).trans (congrArg _ (if_pos h0))) rfl
    · exact .intro (show execGetMctpVersionSupport eid tag inst p s = _ from
        (State.sidebandIn_eq hs _).trans (congrArg _ (if_pos h1))) rfl
    · exact .intro (show execGetMessageTypeSupport eid tag inst p s = _ from
        (State.sidebandIn_eq hs _).trans (congrArg _ (if_pos h0))) rfl
    · exact .intro (show execGetVendorDefinedMessageSupport eid tag inst p s = _ from
        (State.sidebandIn_eq hs _).trans (congrArg _ (if_pos h1))) rfl

end Sys2Proof.Machine
end

section
/-! SUPPORT. The Timekeeper: reference and PLL (O31). -/

namespace Sys2Proof.Machine

set_option Elab.async false

/-! ## Registers that stay, and occurrences before and after -/

theorem RegsKept.refl (ks : List Nat) (s : State) : RegsKept ks s s := fun _ _ => rfl

theorem RegsKept.trans {ks : List Nat} {s t u : State} (h : RegsKept ks s t) (h' : RegsKept ks t u) : RegsKept ks s u :=
  fun k hk => (h' k hk).trans (h k hk)

theorem RegsKept.of_regs (ks : List Nat) {s t : State} (h : t.regs = s.regs) : RegsKept ks s t := fun k _ => State.rdW_of_regs h k

theorem RegsKept.wrW {ks : List Nat} (s : State) {k : Nat} (w : Word) (h : k ∈ ks) : RegsKept ks s (s.wrW k w) :=
  fun _ hj => State.rdW_wrW_other s w fun e => hj (e ▸ h)

theorem RegsKept.setFld {ks : List Nat} (s : State) {k : Nat} (f : Fld) (v : Nat) (h : k ∈ ks) : RegsKept ks s (s.setFld k f v) :=
  .wrW s _ h

section
variable {i : Nat} {ks : List Nat} {s s' t : State} (hi : i < 1024)
include hi

theorem Occurred.before_kept (h : Occurred i s' t) (hk : RegsKept ks s s') (hks : ∀ k ∈ ks, evKey k = false ∧ k ≠ Reg.PW_ON) :
    Occurred i s t :=
  h.before_regs (fun k he _ _ => hk k fun hm => by simp [(hks k hm).1] at he) hi
    (State.on_eq_of_rdW (hk _ fun hm => (hks _ hm).2 rfl) 3)

theorem Occurred.after_kept (h : Occurred i s s') (hk : RegsKept ks s' t) (hks : ∀ k ∈ ks, evKey k = false) : Occurred i s t :=
  h.after_regs (fun k he _ _ => hk k fun hm => by simp [hks k hm] at he) hi

end

/-! ## A change of state that becomes due touches the Timekeeper's queue of one alone -/

section
variable (s : State) (new cause : Nat)

@[simp] theorem State.tlChange_rdW (k : Nat) : (s.tlChange new cause).rdW k = s.rdW k :=
  State.rdW_of_regs (State.tlChange_regs s new cause) k

@[simp] theorem State.tlChange_fld (k : Nat) (f : Fld) : (s.tlChange new cause).fld k f = s.fld k f := by
  rw [State.fld, State.fld, State.tlChange_rdW, State.rdG, State.rdG, State.tlChange_gen]

@[simp] theorem State.tlChange_tlState : (s.tlChange new cause).tlState = s.tlState := State.tlChange_fld s new cause _ _

@[simp] theorem State.tlChange_on (d : Nat) : (s.tlChange new cause).on d = s.on d := by
  rw [State.on, State.on, State.tlChange_rdW]

theorem State.tlChange_of_none {s : State} (h : s.tk.change = none) :
    s.tlChange new cause = s.updTk fun t => { t with change := some ⟨new, cause, s.ticks⟩ } := by
  unfold State.tlChange
  rw [h]

/-- A change to Invalid that is due gives way only from cause 0x9 to cause 0x8. -/
theorem State.tlChange_of_invalid {s : State} {c d : Nat} (h : s.tk.change = some ⟨0, c, d⟩) :
    s.tlChange 0 0x8 = if c = 0x9 then s.updTk fun t => { t with change := some ⟨0, 0x8, s.ticks⟩ } else s := by
  unfold State.tlChange
  rw [h]
  simp only [true_and]

/-- Any other change that is due gives way. -/
theorem State.tlChange_of_valid {s : State} {n c d : Nat} (h : s.tk.change = some ⟨n + 1, c, d⟩) :
    s.tlChange new cause = s.updTk fun t => { t with change := some ⟨new, cause, s.ticks⟩ } := by
  unfold State.tlChange
  rw [h]
  rfl

@[simp] theorem State.tryLock_rdW (k : Nat) : s.tryLock.rdW k = s.rdW k := State.rdW_of_regs (State.tryLock_regs s) k

@[simp] theorem State.tryLock_fld (k : Nat) (f : Fld) : s.tryLock.fld k f = s.fld k f := by
  rw [State.fld, State.fld, State.tryLock_rdW, State.rdG, State.rdG, State.tryLock_gen]

theorem State.tryLock_of_state {s : State} (h : s.tlState ≠ 1) : s.tryLock = s := if_neg fun hc => h hc.1

end

/-! ## Reference and PLL -/

/-- The registers and the Timekeeper when TREF_CLK is declared absent, before its source. -/
def State.refGone (s : State) : State :=
  ((s.setFld Reg.TL_STATE F.TL_STATE_REF_PRESENT 0).setFld Reg.TL_STATE F.TL_STATE_PLL_LOCK 0).updTk
    fun t => { t with absent := 0, lostAt := some s.ticks, sleep := t.sleep.map (fun c => { c with refLost := true }) }

theorem State.refLost_eq {s : State} (h : s.flag Reg.TL_STATE F.TL_STATE_REF_PRESENT = true) :
    s.refLost = if s.on 2 then (s.refGone.evTl 3).tlChange 0 0x8 else s.refGone := by
  have hon : s.refGone.on 2 = s.on 2 := by
    unfold State.refGone
    rw [State.updTk_on, State.on_setFld _ _ _ _ (by decide), State.on_setFld _ _ _ _ (by decide)]
  rw [State.refLost, if_pos h, ← hon]
  rfl

section
variable (s : State)

theorem State.refGone_fld (f : Fld) (h : f.rwg = false) : s.refGone.fld Reg.TL_STATE f =
    f.get (F.TL_STATE_PLL_LOCK.put (F.TL_STATE_REF_PRESENT.put (s.rdW Reg.TL_STATE) 0) 0) := by
  rw [State.refGone, State.updTk_fld, State.fld_hw _ _ h, State.rdW_setFld, State.rdW_setFld]

theorem State.refGone_kept : RegsKept [Reg.TL_STATE] s s.refGone := by
  intro k hk
  rw [List.mem_singleton] at hk
  rw [State.refGone, State.updTk_rdW, State.rdW_setFld_other _ _ _ hk, State.rdW_setFld_other _ _ _ hk]

theorem State.refGone_occurred : Occurred 531 s ((s.refGone.evTl 3).tlChange 0 0x8) :=
  ((s.refGone.occurred (i := 531) (by decide) (by decide)).before_kept (by decide) s.refGone_kept (by decide)).of_regs
    (State.tlChange_regs ..) (by decide)

end

/-- Settles O31: each of the four commands by the fields it writes and the change that it makes due. -/
theorem referenceAndPllCommandsSetTheirBits : Obligations.ReferenceAndPllCommandsSetTheirBits := by
  refine ⟨fun s href => ?_, fun s href hsel hlost => ?_, fun s href hpll hon => ?_, fun s hpll => ?_⟩
  · refine .intro rfl ?_
    rw [State.refLost_eq href]
    have hfld : ∀ f : Fld, f.rwg = false →
        (if s.on 2 = true then (s.refGone.evTl 3).tlChange 0 0x8 else s.refGone).fld Reg.TL_STATE f =
          f.get (F.TL_STATE_PLL_LOCK.put (F.TL_STATE_REF_PRESENT.put (s.rdW Reg.TL_STATE) 0) 0) := by
      intro f hf
      rw [← s.refGone_fld f hf]
      split
      · rw [State.tlChange_fld, State.fld_evTl _ (by decide) (by decide)]
      · rfl
    refine ⟨?_, ?_, ?_, fun h2 => ?_, ?_⟩
    · rw [hfld _ rfl, Fld.get_put_other _ _ _ _ (by decide), Fld.get_put _ _ _ (by decide), Nat.zero_mod]
    · rw [hfld _ rfl, Fld.get_put _ _ _ (by decide), Nat.zero_mod]
    · rw [State.tlState, hfld _ rfl, Fld.get_put_other _ _ _ _ (by decide), Fld.get_put_other _ _ _ _ (by decide),
        State.tlState, State.fld_hw _ _ rfl]
    · rw [if_pos h2]
      refine ⟨s.refGone_occurred, ?_⟩
      have htk : (s.refGone.evTl 3).tk.change = s.tk.change := by rw [State.evTl_tk, State.refGone, State.updTk_tk, State.setFld_tk, State.setFld_tk]
      have hti : (s.refGone.evTl 3).ticks = s.ticks := by rw [State.evTl_ticks, State.refGone, State.updTk_ticks, State.setFld_ticks, State.setFld_ticks]
      split
      next c d heq =>
        rw [State.tlChange_of_invalid (htk.trans heq), hti]
        split
        · rfl
        · exact htk.trans heq
      next hne =>
        rcases hc : s.tk.change with _ | ⟨_ | n, c, d⟩
        · rw [State.tlChange_of_none _ _ (htk.trans hc), State.updTk_tk, hti]
        · exact absurd hc (hne c d)
        · rw [State.tlChange_of_valid _ _ (htk.trans hc), State.updTk_tk, hti]
    · split
      · intro k hk he
        rw [State.tlChange_rdW, State.rdW_evTl _ (by decide) he, s.refGone_kept k hk]
      · exact s.refGone_kept.ev
  · have hget : (s.tk.lostAt.map fun t => decide (t + 1966080 ≤ s.ticks)).getD true = true := by
      cases h : s.tk.lostAt with
      | none => rfl
      | some d => rwa [h] at hlost
    have hkept := RegsKept.setFld (ks := [Reg.TL_STATE]) s F.TL_STATE_REF_PRESENT 1 (List.mem_singleton_self _)
    have hon : (s.setFld Reg.TL_STATE F.TL_STATE_REF_PRESENT 1).on 2 = s.on 2 := State.on_setFld _ _ _ _ (by decide)
    refine .intro (t := if s.on 2 then (s.setFld Reg.TL_STATE F.TL_STATE_REF_PRESENT 1).evTl 4 else
      s.setFld Reg.TL_STATE F.TL_STATE_REF_PRESENT 1) ?_ ?_
    · show execRefDeclaredPresent s = _
      unfold execRefDeclaredPresent
      rw [if_pos ⟨href, hsel, hget⟩, ← hon]
    have hfld : ∀ f : Fld, (if s.on 2 then (s.setFld Reg.TL_STATE F.TL_STATE_REF_PRESENT 1).evTl 4 else
        s.setFld Reg.TL_STATE F.TL_STATE_REF_PRESENT 1).fld Reg.TL_STATE f =
        (s.setFld Reg.TL_STATE F.TL_STATE_REF_PRESENT 1).fld Reg.TL_STATE f := by
      intro f
      split
      · exact State.fld_evTl _ (by decide) (by decide) f
      · rfl
    refine ⟨?_, ?_, ?_, fun h2 => ?_, ?_⟩
    · rw [hfld, State.fld_setFld _ _ _ _ (by decide)]
      rfl
    · rw [State.tlState, hfld, State.fld_setFld_other _ _ _ _ _ (by decide)]
      rfl
    · rw [hfld, State.fld_setFld_other _ _ _ _ _ (by decide)]
    · rw [if_pos h2]
      exact (State.occurred _ (i := 532) (by decide) (by decide)).before_kept (by decide) hkept (by decide)
    · split
      · exact hkept.ev.trans (RegsKeptEv.occur _ _ (i := 532) (by decide))
      · exact hkept.ev
  · have hst : (s.setFld Reg.TL_STATE F.TL_STATE_PLL_LOCK 1).tlState = s.tlState := State.fld_setFld_other _ _ _ _ _ (by decide)
    have hht : (s.setFld Reg.TL_STATE F.TL_STATE_PLL_LOCK 1).flag Reg.TL_STATE F.TL_STATE_HAS_TIME =
        s.flag Reg.TL_STATE F.TL_STATE_HAS_TIME := by
      rw [State.flag, State.flag, State.fld_setFld_other _ _ _ _ _ (by decide)]
    have hkept := RegsKept.setFld (ks := [Reg.TL_STATE]) s F.TL_STATE_PLL_LOCK 1 (List.mem_singleton_self _)
    refine .intro (show execPllLockAcquired s = _ from if_pos ⟨href, hpll, hon⟩) ?_
    rw [hst, hht]
    refine ⟨?_, ?_, fun hc h0 hh => ?_, fun hc h0 hh => ?_, ?_⟩
    · split
      · rw [State.tlChange_fld, State.fld_setFld _ _ _ _ (by decide)]
        rfl
      · rw [State.tryLock_fld, State.fld_setFld _ _ _ _ (by decide)]
        rfl
    · split
      · rw [State.tlChange_tlState, hst]
      · rw [State.tlState, State.tryLock_fld]
        exact hst
    · rw [if_pos ⟨h0, hh⟩, State.tlChange_of_none _ _ (by rwa [State.setFld_tk]), State.updTk_tk, State.setFld_ticks]
    · rw [if_neg (by simp [hh]), State.tryLock_of_state (by rw [hst, h0]; decide), State.setFld_tk, hc]
    · split
      · exact hkept.trans (.of_regs _ (State.tlChange_regs ..))
      · exact hkept.trans (.of_regs _ (State.tryLock_regs _))
  · refine .intro (show execPllLockLost s = _ from if_pos hpll) ⟨?_, ?_, fun hc => ?_, ?_⟩
    · rw [State.tlChange_fld, State.fld_setFld _ _ _ _ (by decide)]
      rfl
    · rw [State.tlChange_tlState]
      exact State.fld_setFld_other _ _ _ _ _ (by decide)
    · rw [State.tlChange_of_none _ _ (by rwa [State.setFld_tk]), State.updTk_tk, State.setFld_ticks]
    · exact (RegsKept.setFld s _ _ (by decide)).trans (.of_regs _ (State.tlChange_regs ..))

end Sys2Proof.Machine
end

section
/-! SUPPORT. The Timekeeper: the stretch of core cycles and the calibration of ports (O35). -/

namespace Sys2Proof.Machine

set_option Elab.async false

/-! ## The stretch of core cycles -/

/-- What a crossing leaves, once the episode that it starts or carries on is known. -/
theorem execStretchEpisodeStart_of {s : State} {quads : Fin 32} (hq : quads.val ≠ 0) (e : Episode)
    (he : (match s.tk.episode with
      | some e => if (e.stop.map (fun c => decide (s.core < c))).getD true then { e with stop := none } else ⟨s.core + 2, none⟩
      | none => ⟨s.core + 2, none⟩) = e) :
    Completes (.stretchEpisodeStart quads) s fun t =>
      t.tk.episode = some e ∧ t.tk.detectors = quads.val ∧
      t.fld Reg.PW_SUP_STAT F.PW_SUP_STAT_STRETCH = 1 ∧ RegsKept [Reg.PW_SUP_STAT] s t := by
  refine .intro (t := (s.updTk fun t => { t with detectors := quads, episode := some e }).setFld Reg.PW_SUP_STAT
    F.PW_SUP_STAT_STRETCH 1) ?_ ⟨?_, ?_, ?_, ?_⟩
  · show execStretchEpisodeStart quads s = _
    unfold execStretchEpisodeStart
    subst he
    exact if_neg hq
  · rw [State.setFld_tk, State.updTk_tk]
  · rw [State.setFld_tk, State.updTk_tk]
  · rw [State.fld_setFld _ _ _ _ (by decide)]
    rfl
  · exact (RegsKept.of_regs _ rfl).trans (.setFld _ _ _ (List.mem_singleton_self _))

/-- An episode holds a multiple of 4 cycles, of which the third or later after the recovery is the last (R76). -/
theorem episodeStop_bounds {first c : Nat} (h : first ≤ c + 2) :
    ∃ n, episodeStop first c = first + 4 * n ∧ c + 3 ≤ first + 4 * n ∧ first + 4 * n < c + 7 :=
  ⟨(c + 3 - first + 3) / 4, by unfold episodeStop; omega, by omega, by omega⟩

/-! ## The calibration of a group's ports -/

/-- The measured delays of one port written. -/
def State.portCal (s : State) (n tx rx : Nat) : State :=
  let s := (s.wrW (Reg.TL_PORT_TXCAL n) (BitVec.ofNat 64 (tx / 1024 * 1024 % 2 ^ 32))).wrW (Reg.TL_PORT_RXCAL n)
    (BitVec.ofNat 64 (rx / 1024 * 1024 % 2 ^ 32))
  let bad := delayOff (Config.designDelay n true) (tx / 1024 * 1024 % 2 ^ 32) ||
    delayOff (Config.designDelay n false) (rx / 1024 * 1024 % 2 ^ 32)
  let s := s.setCalBad n bad
  if bad then s.evTl 11 else s

theorem State.portCals_cons (s : State) (n tx rx : Nat) (ms : List (Nat × Nat)) :
    s.portCals n ((tx, rx) :: ms) = (s.portCal n tx rx).portCals (n + 1) ms := rfl

theorem State.rdW_portCal (s : State) (n tx rx : Nat) {k : Nat} (hk : evKey k = false) :
    (s.portCal n tx rx).rdW k = if k = Reg.TL_PORT_RXCAL n then BitVec.ofNat 64 (rx / 1024 * 1024 % 2 ^ 32)
      else if k = Reg.TL_PORT_TXCAL n then BitVec.ofNat 64 (tx / 1024 * 1024 % 2 ^ 32) else s.rdW k := by
  unfold State.portCal
  extract_lets a bad b
  have hb : b.rdW k = a.rdW k := State.rdW_of_regs ((State.setCalBad_in a n bad).same .regs rfl) k
  rw [State.rdW_ite, State.rdW_evTl _ (by decide) hk, ite_self, hb]
  simp only [a, State.rdW_wrW]

/-- Ports before `n` and every other register keep what they hold. -/
theorem State.rdW_portCals {k : Nat} (hk : evKey k = false) (ms : List (Nat × Nat)) : ∀ (s : State) (n : Nat),
    (∀ j, n ≤ j → k ≠ Reg.TL_PORT_TXCAL j ∧ k ≠ Reg.TL_PORT_RXCAL j) → (s.portCals n ms).rdW k = s.rdW k := by
  induction ms with
  | nil => exact fun s n _ => rfl
  | cons m ms ih =>
    intro s n hj
    rw [State.portCals_cons, ih _ _ fun j h => hj j (by omega), State.rdW_portCal _ _ _ _ hk, if_neg (hj n le_rfl).2,
      if_neg (hj n le_rfl).1]

/-- The registers that occurrences write lie from those of the event matrix on. -/
theorem evKey_below {k : Nat} (h : k < 0x31000) : evKey k = false := by
  refine Bool.eq_false_iff.2 ?_
  simp only [ne_eq, evKey, Bool.or_eq_true, Bool.and_eq_true, decide_eq_true_eq]
  simp only [Reg.LOG_SEQ, Reg.LOG_LOST]
  omega

theorem State.portCals_get (ms : List (Nat × Nat)) : ∀ (s : State) (n i : Nat) (hi : i < ms.length), n + ms.length ≤ 1024 →
    (s.portCals n ms).rdW (Reg.TL_PORT_TXCAL (n + i)) = BitVec.ofNat 64 ((ms[i]'hi).1 / 1024 * 1024 % 2 ^ 32) ∧
      (s.portCals n ms).rdW (Reg.TL_PORT_RXCAL (n + i)) = BitVec.ofNat 64 ((ms[i]'hi).2 / 1024 * 1024 % 2 ^ 32) := by
  induction ms with
  | nil => exact fun s n i hi => absurd hi (Nat.not_lt_zero i)
  | cons m ms ih =>
    intro s n i hi hn
    rw [List.length_cons] at hi hn
    rw [State.portCals_cons]
    cases i with
    | zero =>
      have htx : evKey (Reg.TL_PORT_TXCAL n) = false := evKey_below (by simp only [Reg.TL_PORT_TXCAL]; omega)
      have hrx : evKey (Reg.TL_PORT_RXCAL n) = false := evKey_below (by simp only [Reg.TL_PORT_RXCAL]; omega)
      have hne : Reg.TL_PORT_TXCAL n ≠ Reg.TL_PORT_RXCAL n := by simp only [Reg.TL_PORT_TXCAL, Reg.TL_PORT_RXCAL]; omega
      simp only [Nat.add_zero, List.getElem_cons_zero]
      constructor
      · rw [State.rdW_portCals htx ms _ (n + 1) (fun j h => by simp only [Reg.TL_PORT_TXCAL, Reg.TL_PORT_RXCAL]; omega),
          State.rdW_portCal _ _ _ _ htx, if_neg hne, if_pos rfl]
      · rw [State.rdW_portCals hrx ms _ (n + 1) (fun j h => by simp only [Reg.TL_PORT_TXCAL, Reg.TL_PORT_RXCAL]; omega),
          State.rdW_portCal _ _ _ _ hrx, if_pos rfl]
    | succ i =>
      rw [show n + (i + 1) = n + 1 + i by omega]
      exact ih _ (n + 1) i (by omega) (by omega)

/-- Settles O35: an episode carries on or starts, ends after a multiple of four cycles, and a port takes its delays. -/
theorem stretchEpisodesAndPortCalibration : Obligations.StretchEpisodesAndPortCalibration := by
  refine ⟨fun s quads hq he => ?_, fun s quads first stop hq he hc => ?_, fun s first he hf => ?_, fun s g meas hon hlen hdue hle => ?_⟩
  · refine execStretchEpisodeStart_of hq _ ?_
    rcases h : s.tk.episode with _ | ⟨f, c⟩
    · rfl
    · obtain ⟨x, rfl, hx⟩ := he f c h
      exact if_neg (by simpa using hx)
  · refine execStretchEpisodeStart_of hq _ ?_
    rw [he]
    cases stop with
    | none => rfl
    | some c => exact if_pos (by simpa using hc c rfl)
  · obtain ⟨n, hn, hlo, hhi⟩ := episodeStop_bounds hf
    refine .intro (t := (s.updTk fun t => { t with detectors := 0, episode := some ⟨first, some (episodeStop first s.core)⟩ }).setFld
      Reg.PW_SUP_STAT F.PW_SUP_STAT_STRETCH 0) ?_ ⟨n, ?_, hlo, hhi, ?_, ?_, ?_⟩
    · show execStretchEpisodeEnd s = _
      unfold execStretchEpisodeEnd
      rw [he]
    · rw [State.setFld_tk, State.updTk_tk, hn]
    · rw [State.setFld_tk, State.updTk_tk]
    · rw [State.fld_setFld _ _ _ _ (by decide)]
      rfl
    · exact (RegsKept.of_regs _ rfl).trans (.setFld _ _ _ (List.mem_singleton_self _))
  · refine .intro (show execPortCalibration g meas s = _ from if_pos ⟨hon, hlen, hdue, hle⟩) fun i hi => ?_
    have hg := g.isLt
    obtain ⟨htx, hrx⟩ := State.portCals_get meas (s.setCalDue g 0) (8 * g) i hi (by omega)
    refine ⟨htx, hrx, ?_⟩
    rw [State.fld_hw _ _ rfl, State.fld_hw _ _ rfl, State.rdW_portCals (by decide) _ _ _ (fun j _ => by
      simp only [Reg.TL_PORT_TXCAL, Reg.TL_PORT_RXCAL, Reg.TL_STATE]; omega)]
    rfl

end Sys2Proof.Machine
end

section
/-! SUPPORT. The Timekeeper: PPS edges and misses (O32). -/

namespace Sys2Proof.Machine

set_option Elab.async false

/-! ## What a change of state that becomes due leaves of the Timekeeper -/

section
variable {α : Type} (s : State) (f : Timekeeper → α) (hf : ∀ t c, f { t with change := c } = f t)
include hf

theorem State.tlChange_tk_eq (new cause : Nat) : f (s.tlChange new cause).tk = f s.tk := by
  unfold State.tlChange
  split
  · split
    · exact hf _ _
    · rfl
  · exact hf _ _

theorem State.tryLock_tk_eq : f s.tryLock.tk = f s.tk := by
  unfold State.tryLock
  split
  · exact s.tlChange_tk_eq f hf _ _
  · rfl

end

/-! ## Edges of the pin (R52, R62) -/

section
variable {s : State} {frac : Fin 65536} {e : Nat} {ph : Int} (hst : s.tlState ≠ 0)
  (hset : s.tk.setReqs.filter (fun r => r.at_ + 65536 ≤ s.ticks) = [])
  (hnear : s.nearest ((s.now : Int) * 65536 + (((frac.val / 1024 * 1024 : Nat) : Int) - sNat 32 (s.rdW Reg.TL_PPS_TRIM).toNat)) = (e, ph))
include hst hset hnear

theorem State.ppsEdge_eq : s.ppsEdge frac = if ph.natAbs ≤ s.ppsWin * 65536 ∧
    decide (tlDiff s.now (tlAdd e (-(s.ppsWin : Int))) ≤ (s.tk.since : Int)) = true then s.edgeIn e ph else s.edgeOut ph := by
  unfold State.ppsEdge State.ppsAt
  simp only [hset, ne_eq, not_true_eq_false, if_false, hst, false_and, hnear]

theorem execPpsEdge_eq (hsrc : s.timeSrc = none) (hon : s.on 2 = true) : exec (.ppsEdge frac) s = .next
    (if ph.natAbs ≤ s.ppsWin * 65536 ∧ decide (tlDiff s.now (tlAdd e (-(s.ppsWin : Int))) ≤ (s.tk.since : Int)) = true
      then s.edgeIn e ph else s.edgeOut ph) := by
  rw [← State.ppsEdge_eq hst hset hnear]
  show execPpsEdge frac s = _
  unfold execPpsEdge
  rw [if_neg (by simp [hsrc]), if_pos hon]

end

/-- What an edge in its window leaves before the state changes. -/
def State.edgeSeen (s : State) (e : Nat) (ph : Int) : State :=
  ((((s.wrW Reg.TL_PPS_ERR (BitVec.ofNat 64 (satBits 32 ph))).wrW Reg.TL_LAST_PPS (tlOf s.now)).setFld
    Reg.TL_STATE F.TL_STATE_MISS_RUN 0).setFld Reg.TL_STATE F.TL_STATE_PPS_PRESENT 1).updTk
      fun t => { t with relock := if s.tlState = 3 then 1 else s.tk.relock + 1, outN := 0, lastWin := some e, lastEdge := some s.ticks }

section
variable (s : State) (e : Nat) (ph : Int)

theorem State.edgeSeen_kept : RegsKept [Reg.TL_PPS_ERR, Reg.TL_LAST_PPS, Reg.TL_STATE] s (s.edgeSeen e ph) := by
  intro k hk
  simp only [List.mem_cons, List.not_mem_nil, or_false, not_or] at hk
  obtain ⟨herr, hlast, hstate⟩ := hk
  rw [State.edgeSeen, State.updTk_rdW, State.rdW_setFld_other _ _ _ hstate, State.rdW_setFld_other _ _ _ hstate,
    State.rdW_wrW_other _ _ hlast, State.rdW_wrW_other _ _ herr]

theorem State.edgeSeen_rdW_state : (s.edgeSeen e ph).rdW Reg.TL_STATE =
    F.TL_STATE_PPS_PRESENT.put (F.TL_STATE_MISS_RUN.put (s.rdW Reg.TL_STATE) 0) 1 := by
  simp (disch := decide) only [State.edgeSeen, State.updTk_rdW, State.rdW_setFld, State.rdW_wrW_other]

theorem State.edgeSeen_tlState : (s.edgeSeen e ph).tlState = s.tlState := by
  rw [State.tlState, State.fld_hw _ _ rfl, State.edgeSeen_rdW_state, Fld.get_put_other _ _ _ _ (by decide),
    Fld.get_put_other _ _ _ _ (by decide), State.tlState, State.fld_hw _ _ rfl]

theorem State.edgeIn_eq : s.edgeIn e ph = if s.tlState = 3 then (s.edgeSeen e ph).tlChange 1 0x7 else (s.edgeSeen e ph).tryLock := by
  have hst : ((((s.wrW Reg.TL_PPS_ERR (BitVec.ofNat 64 (satBits 32 ph))).wrW Reg.TL_LAST_PPS (tlOf s.now)).setFld
      Reg.TL_STATE F.TL_STATE_MISS_RUN 0).setFld Reg.TL_STATE F.TL_STATE_PPS_PRESENT 1).tlState = s.tlState :=
    s.edgeSeen_tlState e ph
  unfold State.edgeIn
  extract_lets s1 s2 s3 s4 run s5
  have h5 : s5 = s.edgeSeen e ph := by
    unfold s5 run
    rw [show s4.tlState = s.tlState from hst]
    rfl
  rw [h5, State.edgeSeen_tlState]

/-- An edge in its window changes what it saw, and the change of state that is due. -/
theorem State.edgeIn_regs : (s.edgeIn e ph).regs = (s.edgeSeen e ph).regs ∧ (s.edgeIn e ph).gen = (s.edgeSeen e ph).gen := by
  rw [State.edgeIn_eq]
  split
  · exact ⟨State.tlChange_regs .., State.tlChange_gen ..⟩
  · exact ⟨State.tryLock_regs .., State.tryLock_gen ..⟩

theorem State.edgeIn_tk_eq {α : Type} (f : Timekeeper → α) (hf : ∀ t c, f { t with change := c } = f t) :
    f (s.edgeIn e ph).tk = f (s.edgeSeen e ph).tk := by
  rw [State.edgeIn_eq]
  split
  · exact State.tlChange_tk_eq _ f hf _ _
  · exact State.tryLock_tk_eq _ f hf

end

/-! ## Edges outside every window, and misses -/

section
variable {s : State} (ph : Int) (h2 : s.tlState = 2)
include h2

/-- In Locked an edge outside every window counts as an outlier, and the third of a run makes a change due. -/
theorem State.edgeOut_locked : ∃ n, s.edgeOut ph =
    (let u := (s.evTl 2).updTk fun t => { t with relock := 0, outN := n, outPhase := ph }
     if 3 ≤ n then (u.updTk fun t => { t with outN := 1 }).tlChange 1 0x5 else u) := by
  unfold State.edgeOut
  extract_lets agree n s1 s2
  have hst : s2.tlState = 2 := (State.tlState_evTl s (by decide)).trans h2
  refine ⟨n, ?_⟩
  rw [if_neg (by rw [hst]; decide), if_neg (c := s2.tlState = 1 ∧ _) (by rw [hst]; simp)]
  simp only [hst, true_and]
  rfl

theorem State.edgeOut_locked_regs : (s.edgeOut ph).regs = (s.evTl 2).regs := by
  obtain ⟨n, h⟩ := State.edgeOut_locked ph h2
  rw [h]
  dsimp only
  split
  · rw [State.tlChange_regs, State.updTk_regs, State.updTk_regs]
  · exact State.updTk_regs ..

theorem State.edgeOut_locked_tk :
    (s.edgeOut ph).tk.relock = 0 ∧ (s.edgeOut ph).tk.outPhase = ph ∧ (s.edgeOut ph).tk.count = s.tk.count := by
  obtain ⟨n, h⟩ := State.edgeOut_locked ph h2
  rw [h]
  dsimp only
  split
  · exact ⟨State.tlChange_tk_eq _ Timekeeper.relock (fun _ _ => rfl) _ _, State.tlChange_tk_eq _ Timekeeper.outPhase (fun _ _ => rfl) _ _,
      (State.tlChange_tk_eq _ Timekeeper.count (fun _ _ => rfl) _ _).trans (by simp only [State.updTk_tk, State.evTl_tk])⟩
  · exact ⟨rfl, rfl, by simp only [State.updTk_tk, State.evTl_tk]⟩

end

/-- What a miss leaves before the state changes. -/
def State.missSeen (s : State) : State :=
  ((s.setFld Reg.TL_STATE F.TL_STATE_MISS_RUN (min 15 (s.fld Reg.TL_STATE F.TL_STATE_MISS_RUN + 1))).updTk
    fun t => { t with relock := 0, lastWin := some s.missInstant }).evTl 1

section
variable (s : State)

theorem State.missSeen_kept {k : Nat} (hk : k ≠ Reg.TL_STATE) (he : evKey k = false) : s.missSeen.rdW k = s.rdW k := by
  rw [State.missSeen, State.rdW_evTl _ (by decide) he, State.updTk_rdW, State.rdW_setFld_other _ _ _ hk]

theorem State.missSeen_rdW_state : s.missSeen.rdW Reg.TL_STATE =
    F.TL_STATE_MISS_RUN.put (s.rdW Reg.TL_STATE) (min 15 (s.fld Reg.TL_STATE F.TL_STATE_MISS_RUN + 1)) := by
  rw [State.missSeen, State.rdW_evTl _ (by decide) (by decide), State.updTk_rdW, State.rdW_setFld]

theorem State.missSeen_tlState : s.missSeen.tlState = s.tlState := by
  rw [State.tlState, State.fld_hw _ _ rfl, State.missSeen_rdW_state, Fld.get_put_other _ _ _ _ (by decide), State.tlState,
    State.fld_hw _ _ rfl]

theorem State.missSeen_ppsLoss : s.missSeen.ppsLoss = s.ppsLoss := by
  rw [State.ppsLoss, State.ppsLoss, State.fld_eq _ (s.missSeen_kept (by decide) (by decide))]
  rw [State.missSeen, State.rdG_of_gen (State.evTl_gen ..), State.updTk_rdG, State.rdG_setFld]

theorem State.missSeen_tk : s.missSeen.tk = { s.tk with relock := 0, lastWin := some s.missInstant } := by
  rw [State.missSeen, State.evTl_tk, State.updTk_tk, State.setFld_tk]

theorem State.missSeen_occurred : Occurred 529 s s.missSeen :=
  (State.occurred _ (i := 529) (by decide) (by decide)).before_kept (by decide)
    ((RegsKept.setFld s _ _ (List.mem_singleton_self _)).trans (.of_regs _ (State.updTk_regs ..))) (by decide)

end

theorem execPpsMiss_eq {s : State} (h : s.missed = true) : exec .ppsMiss s = .next
    (if s.tlState = 2 ∧ s.ppsLoss ≤ min 15 (s.fld Reg.TL_STATE F.TL_STATE_MISS_RUN + 1) then s.missSeen.tlChange 3 0x4
      else s.missSeen) := by
  show execPpsMiss s = _
  unfold execPpsMiss
  rw [if_pos h]
  extract_lets n e s1 s2 s3
  rw [show s3 = s.missSeen from rfl, State.missSeen_tlState, State.missSeen_ppsLoss]

theorem execPpsMiss_completes {s : State} (h : s.missed = true) : Completes .ppsMiss s fun t =>
    t.fld Reg.TL_STATE F.TL_STATE_MISS_RUN = min 15 (s.fld Reg.TL_STATE F.TL_STATE_MISS_RUN + 1) ∧ Occurred 529 s t ∧
      t.tk.relock = 0 ∧
      (s.tk.change = none → t.tk.change = if s.tlState = 2 ∧
        s.ppsLoss ≤ min 15 (s.fld Reg.TL_STATE F.TL_STATE_MISS_RUN + 1) then some ⟨3, 0x4, s.ticks⟩ else none) ∧
      RegsKeptEv [Reg.TL_STATE] s t := by
  have hrun : s.missSeen.fld Reg.TL_STATE F.TL_STATE_MISS_RUN = min 15 (s.fld Reg.TL_STATE F.TL_STATE_MISS_RUN + 1) := by
    rw [State.fld_hw _ _ rfl, State.missSeen_rdW_state, Fld.get_put _ _ _ (by decide)]
    exact Nat.mod_eq_of_lt (lt_of_le_of_lt (Nat.min_le_left ..) (by decide))
  have hkept : RegsKeptEv [Reg.TL_STATE] s s.missSeen := fun k hk he => s.missSeen_kept (by simpa using hk) he
  refine .intro (execPpsMiss_eq h) ?_
  split
  · refine ⟨?_, s.missSeen_occurred.of_regs (State.tlChange_regs ..) (by decide), ?_, fun hc => ?_,
      hkept.trans (.of_regs _ (State.tlChange_regs ..))⟩
    · rw [State.tlChange_fld, hrun]
    · rw [State.tlChange_tk_eq _ Timekeeper.relock (fun _ _ => rfl), State.missSeen_tk]
    · rw [State.tlChange_of_none _ _ (by rw [State.missSeen_tk]; exact hc), State.updTk_tk, State.missSeen, State.evTl_ticks,
        State.updTk_ticks, State.setFld_ticks]
  · refine ⟨hrun, s.missSeen_occurred, ?_, fun hc => ?_, hkept⟩
    · rw [State.missSeen_tk]
    · rw [State.missSeen_tk]
      exact hc

/-- Settles O32: an edge by the phase that it is given, an edge in sleep, and a miss. -/
theorem ppsEdgesAndMissesAreTaken : Obligations.PpsEdgesAndMissesAreTaken := by
  refine ⟨fun s frac e ph hsrc hon hst hset hnear hwin hcnt => ?_, fun s frac e ph hsrc hon hst hset hnear hwin => ?_,
    fun s frac hsrc hon => ?_, fun s => execPpsMiss_completes⟩
  · refine .intro ((execPpsEdge_eq hst hset hnear hsrc hon).trans (by rw [if_pos ⟨hwin, decide_eq_true hcnt⟩])) ?_
    obtain ⟨hregs, hgen⟩ := s.edgeIn_regs e ph
    have hfld : ∀ f : Fld, f.rwg = false → (s.edgeIn e ph).fld Reg.TL_STATE f =
        f.get (F.TL_STATE_PPS_PRESENT.put (F.TL_STATE_MISS_RUN.put (s.rdW Reg.TL_STATE) 0) 1) := by
      intro f hf
      rw [State.fld_hw _ _ hf, State.rdW_of_regs hregs, State.edgeSeen_rdW_state]
    refine ⟨?_, ?_, ?_, ?_, ?_, s.edgeIn_tk_eq e ph Timekeeper.lastWin fun _ _ => rfl,
      s.edgeIn_tk_eq e ph Timekeeper.lastEdge fun _ _ => rfl, s.edgeIn_tk_eq e ph Timekeeper.count fun _ _ => rfl, fun hc h3 => ?_,
      (s.edgeSeen_kept e ph).trans (.of_regs _ hregs)⟩
    · rw [State.rdW_of_regs hregs]
      simp (disch := decide) only [State.edgeSeen, State.updTk_rdW, State.rdW_setFld_other, State.rdW_wrW_other, State.rdW_wrW_same]
    · rw [State.rdW_of_regs hregs]
      simp (disch := decide) only [State.edgeSeen, State.updTk_rdW, State.rdW_setFld_other, State.rdW_wrW_same]
    · rw [hfld _ rfl, Fld.get_put_other _ _ _ _ (by decide), Fld.get_put _ _ _ (by decide), Nat.zero_mod]
    · rw [hfld _ rfl, Fld.get_put _ _ _ (by decide)]
      rfl
    · rw [State.tlState, State.fld_hw _ _ rfl, State.rdW_of_regs hregs, ← State.fld_hw _ _ rfl]
      exact s.edgeSeen_tlState e ph
    · rw [State.edgeIn_eq, if_pos h3, State.tlChange_of_none]
      · rw [State.updTk_tk, State.edgeSeen, State.updTk_ticks, State.setFld_ticks, State.setFld_ticks, State.wrW_ticks, State.wrW_ticks]
      · rw [State.edgeSeen, State.updTk_tk, State.setFld_tk, State.setFld_tk, State.wrW_tk, State.wrW_tk]
        exact hc
  · refine .intro ((execPpsEdge_eq (by rw [hst]; decide) hset hnear hsrc hon).trans (by rw [if_neg fun h => absurd h.1 (by omega)])) ?_
    obtain ⟨hrel, hph, hcount⟩ := State.edgeOut_locked_tk ph hst
    exact ⟨(s.occurred (i := 530) (by decide) (by decide)).of_regs (State.edgeOut_locked_regs ph hst) (by decide), hrel, hph, hcount,
      (RegsKeptEv.occur _ s (i := 530) (by decide)).trans (.of_regs _ (State.edgeOut_locked_regs ph hst))⟩
  · refine .intro (t := s.updTk fun t => { t with sleep := t.sleep.map fun c => c.edge s.aon }) ?_ ⟨rfl, rfl, rfl⟩
    show execPpsEdge frac s = _
    unfold execPpsEdge
    rw [if_neg (by simp [hsrc]), if_neg (by simp [hon])]

end Sys2Proof.Machine
end

section
/-! SUPPORT. The Timekeeper: changes of state, and the writes of TL_CTRL (O33). -/

namespace Sys2Proof.Machine

set_option Elab.async false

/-! ## A change of state takes effect (R63, R64) -/

/-- TL_STATE with its new state and cause, and the source of the change. -/
def State.changed (s : State) (new cause : Nat) : State :=
  let u := ((s.updTk fun t => { t with change := none }).setFld Reg.TL_STATE F.TL_STATE_STATE new).setFld Reg.TL_STATE
    F.TL_STATE_LAST_CAUSE cause
  if s.tlState = new then u else u.evTl 0

theorem execTlStateChange_eq {s : State} {new cause d : Nat} (hc : s.tk.change = some ⟨new, cause, d⟩) (hd : d < s.ticks) :
    exec .tlStateChange s = .next
      (let u := s.changed new cause
       let u := if s.tlState = 0 ∧ new ≠ 0 then u.alarmsSkipped [0, 1, 2, 3] else u
       let u := if new = 2 then ((u.setUncert 0).setPails (letGoPails (u.setUncert 0).pails)).dmaLetGo (u.setUncert 0).liveChans else u
       if new = 0 ∧ u.flag Reg.TL_STATE F.TL_STATE_REF_PRESENT = true ∧ u.flag Reg.TL_STATE F.TL_STATE_PLL_LOCK = true ∧
         u.flag Reg.TL_STATE F.TL_STATE_HAS_TIME = true then u.tlChange 1 0x1
       else if new = 1 then u.tryLock else u) := by
  show execTlStateChange s = _
  unfold execTlStateChange
  rw [hc]
  exact if_neg (by omega)

section
variable (s : State) (new cause : Nat)

theorem State.changed_rdW_state : (s.changed new cause).rdW Reg.TL_STATE =
    F.TL_STATE_LAST_CAUSE.put (F.TL_STATE_STATE.put (s.rdW Reg.TL_STATE) new) cause := by
  unfold State.changed
  dsimp only
  rw [State.rdW_ite, State.rdW_evTl _ (by decide) (by decide), ite_self, State.rdW_setFld, State.rdW_setFld, State.updTk_rdW]

theorem State.changed_tlState (h : new < 4) : (s.changed new cause).tlState = new := by
  rw [State.tlState, State.fld_hw _ _ rfl, State.changed_rdW_state, Fld.get_put_other _ _ _ _ (by decide),
    Fld.get_put _ _ _ (by decide)]
  exact Nat.mod_eq_of_lt h

theorem State.changed_cause (h : cause < 16) : (s.changed new cause).fld Reg.TL_STATE F.TL_STATE_LAST_CAUSE = cause := by
  rw [State.fld_hw _ _ rfl, State.changed_rdW_state, Fld.get_put _ _ _ (by decide)]
  exact Nat.mod_eq_of_lt h

theorem State.changed_flag {f : Fld} (hf : f.rwg = false)
    (h : F.TL_STATE_LAST_CAUSE.lo + F.TL_STATE_LAST_CAUSE.wid ≤ f.lo ∨ f.lo + f.wid ≤ F.TL_STATE_LAST_CAUSE.lo)
    (h' : F.TL_STATE_STATE.lo + F.TL_STATE_STATE.wid ≤ f.lo ∨ f.lo + f.wid ≤ F.TL_STATE_STATE.lo) :
    (s.changed new cause).flag Reg.TL_STATE f = s.flag Reg.TL_STATE f := by
  rw [State.flag_hw _ _ hf, State.flag_hw _ _ hf, State.changed_rdW_state, Fld.get_put_other _ _ _ _ h, Fld.get_put_other _ _ _ _ h']

theorem State.changed_kept : RegsKeptEv [Reg.TL_STATE] s (s.changed new cause) := by
  intro k hk he
  rw [List.mem_singleton] at hk
  unfold State.changed
  dsimp only
  rw [State.rdW_ite, State.rdW_evTl _ (by decide) he, ite_self, State.rdW_setFld_other _ _ _ hk, State.rdW_setFld_other _ _ _ hk,
    State.updTk_rdW]

theorem State.changed_occurred (h : s.tlState ≠ new) : Occurred 528 s (s.changed new cause) := by
  unfold State.changed
  rw [if_neg h]
  refine (State.occurred _ (i := 528) (by decide) (by decide)).before_kept (ks := [Reg.TL_STATE]) (by decide) ?_ (by decide)
  exact ((RegsKept.of_regs _ (State.updTk_regs ..)).trans (.setFld _ _ _ (List.mem_singleton_self _))).trans
    (.setFld _ _ _ (List.mem_singleton_self _))

/-- Beside the registers and what an occurrence writes, the change that was due is gone. -/
theorem State.changed_parts : (s.changed new cause).tk = { s.tk with change := none } ∧ (s.changed new cause).ticks = s.ticks ∧
    (s.changed new cause).pails = s.pails ∧ (s.changed new cause).chans = s.chans := by
  unfold State.changed
  dsimp only
  split
  · simp only [State.setFld_tk, State.updTk_tk, State.setFld_ticks, State.updTk_ticks, State.setFld_pails, State.updTk_pails,
      State.setFld_chans, State.updTk_chans, and_self]
  · simp only [State.evTl_tk, State.evTl_ticks, State.evTl_pails, State.evTl_chans, State.setFld_tk, State.updTk_tk,
      State.setFld_ticks, State.updTk_ticks, State.setFld_pails, State.updTk_pails, State.setFld_chans, State.updTk_chans, and_self]

end

section
variable {s : State} {new cause d : Nat} (hc : s.tk.change = some ⟨new, cause, d⟩) (hd : d < s.ticks) (hca : cause < 16)
include hc hd hca

theorem execTlStateChange_plain (hn : new < 4) (h2 : new ≠ 2) (ho : new = 0 ∨ s.tlState ≠ 0) :
    Completes .tlStateChange s fun t =>
      t.tlState = new ∧ t.fld Reg.TL_STATE F.TL_STATE_LAST_CAUSE = cause ∧ (s.tlState ≠ new → Occurred 528 s t) ∧
      (new = 0 → s.flag Reg.TL_STATE F.TL_STATE_REF_PRESENT = true → s.flag Reg.TL_STATE F.TL_STATE_PLL_LOCK = true →
        s.flag Reg.TL_STATE F.TL_STATE_HAS_TIME = true → t.tk.change = some ⟨1, 0x1, s.ticks⟩) ∧
      t.tk.count = s.tk.count ∧ RegsKeptEv [Reg.TL_STATE] s t := by
  obtain ⟨htk, htick, -, -⟩ := s.changed_parts new cause
  have hskip : ¬ (s.tlState = 0 ∧ new ≠ 0) := by
    rintro ⟨h0, hne⟩
    exact ho.elim hne fun h => h h0
  refine .intro (execTlStateChange_eq hc hd) ?_
  simp only [if_neg hskip, if_neg h2]
  have hkeep : ∀ u : State, u.regs = (s.changed new cause).regs → u.gen = (s.changed new cause).gen →
      u.tk.count = (s.changed new cause).tk.count →
      (new = 0 → s.flag Reg.TL_STATE F.TL_STATE_REF_PRESENT = true → s.flag Reg.TL_STATE F.TL_STATE_PLL_LOCK = true →
        s.flag Reg.TL_STATE F.TL_STATE_HAS_TIME = true → u.tk.change = some ⟨1, 0x1, s.ticks⟩) →
      u.tlState = new ∧ u.fld Reg.TL_STATE F.TL_STATE_LAST_CAUSE = cause ∧ (s.tlState ≠ new → Occurred 528 s u) ∧
      (new = 0 → s.flag Reg.TL_STATE F.TL_STATE_REF_PRESENT = true → s.flag Reg.TL_STATE F.TL_STATE_PLL_LOCK = true →
        s.flag Reg.TL_STATE F.TL_STATE_HAS_TIME = true → u.tk.change = some ⟨1, 0x1, s.ticks⟩) ∧
      u.tk.count = s.tk.count ∧ RegsKeptEv [Reg.TL_STATE] s u := by
    intro u hr hg hcnt hch
    have hfld : ∀ f, u.fld Reg.TL_STATE f = (s.changed new cause).fld Reg.TL_STATE f :=
      fun f => State.fld_eq f (State.rdW_of_regs hr _) (State.rdG_of_gen hg _)
    exact ⟨(hfld _).trans (s.changed_tlState new cause hn), (hfld _).trans (s.changed_cause new cause hca),
      fun h => (s.changed_occurred new cause h).of_regs hr (by decide), hch, by rw [hcnt, htk],
      (s.changed_kept new cause).trans (.of_regs _ hr)⟩
  rw [s.changed_flag new cause (f := F.TL_STATE_REF_PRESENT) rfl (by decide) (by decide),
    s.changed_flag new cause (f := F.TL_STATE_PLL_LOCK) rfl (by decide) (by decide),
    s.changed_flag new cause (f := F.TL_STATE_HAS_TIME) rfl (by decide) (by decide)]
  split
  · refine hkeep _ (State.tlChange_regs ..) (State.tlChange_gen ..) (State.tlChange_tk_eq _ Timekeeper.count (fun _ _ => rfl) _ _) ?_
    rintro - - - -
    rw [State.tlChange_of_none _ _ (by rw [htk]), State.updTk_tk, htick]
  next hlevel =>
    have hno : new = 0 → s.flag Reg.TL_STATE F.TL_STATE_REF_PRESENT = true → s.flag Reg.TL_STATE F.TL_STATE_PLL_LOCK = true →
        s.flag Reg.TL_STATE F.TL_STATE_HAS_TIME = true → False := fun h0 hr hp hh => hlevel ⟨h0, hr, hp, hh⟩
    split
    · exact hkeep _ (State.tryLock_regs _) (State.tryLock_gen _) (State.tryLock_tk_eq _ Timekeeper.count fun _ _ => rfl)
        fun h0 hr hp hh => (hno h0 hr hp hh).elim
    · exact hkeep _ rfl rfl rfl fun h0 hr hp hh => (hno h0 hr hp hh).elim

theorem execTlStateChange_fromInvalid (hn : new = 1 ∨ new = 3) (h0 : s.tlState = 0) :
    Completes .tlStateChange s fun t => ∃ u : State,
      u.tlState = new ∧ u.fld Reg.TL_STATE F.TL_STATE_LAST_CAUSE = cause ∧ Occurred 528 s u ∧ u.tk.change = none ∧
      RegsKeptEv [Reg.TL_STATE] s u ∧
      t = if new = 1 then (u.alarmsSkipped [0, 1, 2, 3]).tryLock else u.alarmsSkipped [0, 1, 2, 3] := by
  obtain ⟨htk, -⟩ := s.changed_parts new cause
  have hne : new ≠ 0 := by omega
  refine .intro (execTlStateChange_eq hc hd) ⟨s.changed new cause, s.changed_tlState new cause (by omega), s.changed_cause new cause hca,
    s.changed_occurred new cause (by rw [h0]; exact hne.symm), by rw [htk], s.changed_kept new cause, ?_⟩
  simp only [if_pos (show s.tlState = 0 ∧ new ≠ 0 from ⟨h0, hne⟩), if_neg (show new ≠ 2 by omega), hne, false_and, if_false]

end

section
variable (s : State) (v : Nat)

theorem State.setUncert_tk_eq {α : Type} (f : Timekeeper → α) (hf : ∀ t n, f { t with absent := n } = f t) :
    f (s.setUncert v).tk = f s.tk := by
  rw [State.setUncert, State.updTk_tk, State.wrW_tk, hf]

theorem State.setUncert_kept : RegsKept [Reg.TL_UNCERT] s (s.setUncert v) :=
  (RegsKept.wrW s _ (List.mem_singleton_self _)).trans (.of_regs _ (State.updTk_regs ..))

theorem State.setUncert_rdW : (s.setUncert v).rdW Reg.TL_UNCERT = BitVec.ofNat 64 (min v (2 ^ 64 - 1)) := by
  rw [State.setUncert, State.updTk_rdW, State.rdW_wrW_same]

end

theorem execTlStateChange_locked {s : State} {cause d : Nat} (hc : s.tk.change = some ⟨2, cause, d⟩) (hd : d < s.ticks)
    (hca : cause < 16) (h0 : s.tlState ≠ 0) :
    Completes .tlStateChange s fun t => ∃ u : State,
      u.tlState = 2 ∧ u.fld Reg.TL_STATE F.TL_STATE_LAST_CAUSE = cause ∧ (s.tlState ≠ 2 → Occurred 528 s u) ∧
      u.rdW Reg.TL_UNCERT = 0 ∧ u.tk.change = none ∧ u.pails = s.pails ∧ u.chans = s.chans ∧
      RegsKeptEv [Reg.TL_STATE, Reg.TL_UNCERT] s u ∧
      t = (u.setPails (letGoPails u.pails)).dmaLetGo u.liveChans := by
  obtain ⟨htk, -, hpails, hchans⟩ := s.changed_parts 2 cause
  have hkept := (s.changed 2 cause).setUncert_kept 0
  have hfld : ∀ f, ((s.changed 2 cause).setUncert 0).fld Reg.TL_STATE f = (s.changed 2 cause).fld Reg.TL_STATE f :=
    fun f => State.fld_eq f (hkept _ (by decide)) (State.rdG_of_gen (State.setUncert_gen ..) _)
  refine .intro (execTlStateChange_eq hc hd) ⟨(s.changed 2 cause).setUncert 0, (hfld _).trans (s.changed_tlState 2 cause (by decide)),
    (hfld _).trans (s.changed_cause 2 cause hca),
    fun h => (s.changed_occurred 2 cause h).after_kept (by decide) hkept (by decide), State.setUncert_rdW _ 0, ?_, ?_, ?_, ?_, ?_⟩
  · rw [State.setUncert_tk_eq _ _ Timekeeper.change fun _ _ => rfl, htk]
  · rw [State.setUncert_pails, hpails]
  · rw [State.setUncert_chans, hchans]
  · exact ((s.changed_kept 2 cause).mono (by simp)).trans (RegsKeptEv.mono hkept.ev (by simp))
  · simp only [h0, false_and, if_false, if_true]
    rfl

/-! ## Writes of TL_CTRL, and the growth of TL_UNCERT -/

/-- Without an Armed generation there is nothing to return to Open. -/
theorem State.disarm_of_none {s : State} (h : s.um.armed = none) : s.disarm = s := by
  unfold State.disarm
  rw [h]

theorem State.tlClrStr_kept (s : State) : RegsKept [Reg.TL_STR_TOTAL, Reg.TL_CSTR_COUNT, Reg.TL_QSTR_COUNT 0, Reg.TL_QSTR_COUNT 1,
    Reg.TL_QSTR_COUNT 2, Reg.TL_QSTR_COUNT 3] s s.tlClrStr := by
  intro k hk
  simp only [List.mem_cons, List.not_mem_nil, or_false, not_or] at hk
  obtain ⟨ht, hc, h0, h1, h2, h3⟩ := hk
  rw [State.tlClrStr, State.rdW_wrW_other _ _ hc, State.rdW_wrW_other _ _ h3, State.rdW_wrW_other _ _ h2, State.rdW_wrW_other _ _ h1,
    State.rdW_wrW_other _ _ h0, State.rdW_wrW_other _ _ ht]

/-- Settles O33: a change of state by the state that it leaves and the one that it makes, and the writes of TL_CTRL. -/
theorem timelineStateChangesTakeEffect : Obligations.TimelineStateChangesTakeEffect := by
  refine ⟨fun s new cause d hc hd hn h2 hca ho => execTlStateChange_plain hc hd hca hn h2 ho,
    fun s new cause d hc hd hn hca h0 => execTlStateChange_fromInvalid hc hd hca hn h0,
    fun s cause d hc hd hca h0 => execTlStateChange_locked hc hd hca h0,
    fun s hon harm hch => ?_, fun s hon => ?_, fun s href habs => ?_, fun s ratio href hat => ?_⟩
  · refine .intro (t := (s.setFld Reg.TL_STATE F.TL_STATE_HAS_TIME 0).tlChange 0 0xA) ?_ ⟨?_, ?_, ?_, ?_⟩
    · show execTlCtrlInvalidate s = _
      unfold execTlCtrlInvalidate State.tlInvalidate
      rw [if_pos hon, State.disarm_of_none (by rw [State.tlChange_um, State.setFld_um, harm])]
    · rw [State.tlChange_fld, State.fld_setFld _ _ _ _ (by decide), Nat.zero_mod]
    · rw [State.tlChange_tlState]
      exact State.fld_setFld_other _ _ _ _ _ (by decide)
    · rw [State.tlChange_of_none _ _ (by rwa [State.setFld_tk]), State.updTk_tk, State.setFld_ticks]
    · exact (RegsKept.setFld s _ _ (List.mem_singleton_self _)).trans (.of_regs _ (State.tlChange_regs ..))
  · refine .intro (show execTlCtrlClrStr s = _ from if_pos hon) ⟨?_, ?_, fun q => ?_, s.tlClrStr_kept⟩
    · simp (disch := decide) only [State.tlClrStr, State.rdW_wrW_other, State.rdW_wrW_same]
    · rw [State.tlClrStr, State.rdW_wrW_same]
    · fin_cases q <;> simp (disch := decide) only [State.tlClrStr, State.rdW_wrW_other, State.rdW_wrW_same]
  · refine .intro (show execTlUncertGrowth s = _ from if_pos ⟨href, habs⟩) ⟨?_, ?_, ?_⟩
    · rw [State.updTk_rdW, State.rdW_wrW_same]
    · rw [State.updTk_tk, State.wrW_tk]
    · exact (RegsKept.wrW s _ (List.mem_singleton_self _)).trans (.of_regs _ (State.updTk_regs ..))
  · have hget : (s.tk.ratioAt.map fun t => decide (t + secTc ≤ s.ticks)).getD true = true := by
      cases h : s.tk.ratioAt with
      | none => rfl
      | some d => rwa [h] at hat
    refine .intro (show execAonRatioMeasure ratio s = _ from if_pos ⟨href, hget⟩) ⟨?_, ?_, ?_, ?_⟩
    · rw [State.rdW_setFld_other _ _ _ (by decide), State.rdW_wrW_same]
    · rw [State.fld_setFld _ _ _ _ (by decide)]
      rfl
    · rw [State.tlState, State.fld_setFld_other _ _ _ _ _ (by decide), State.fld_hw _ _ rfl, State.rdW_wrW_other _ _ (by decide),
        State.updTk_rdW, State.tlState, State.fld_hw _ _ rfl]
    · exact ((RegsKept.of_regs _ (State.updTk_regs ..)).trans (.wrW _ _ (by simp))).trans (.setFld _ _ _ (by simp))

end Sys2Proof.Machine
end

section
/-! SUPPORT. The Timekeeper: alarms, TL_GET and TL_SET (O34). -/

namespace Sys2Proof.Machine

set_option Elab.async false

/-! ## A bit that hardware sets (R15) -/

theorem Fld.get_or_two_pow (f : Fld) (w : Word) (hw : f.wid = 1) (hl : f.lo < 64) :
    f.get (BitVec.ofNat 64 (w.toNat ||| 2 ^ f.lo)) = 1 := by
  refine Nat.eq_of_testBit_eq fun i => ?_
  rw [Fld.get_bit, hw, BitVec.getLsbD_ofNat, Nat.testBit_or, Nat.testBit_two_pow]
  cases i with
  | zero => simp [hl]
  | succ i => simp [Nat.testBit_succ]

theorem Fld.get_or_two_pow_other (f g : Fld) (w : Word) (h : f.lo < g.lo ∨ g.lo + g.wid ≤ f.lo) :
    g.get (BitVec.ofNat 64 (w.toNat ||| 2 ^ f.lo)) = g.get w := by
  refine Nat.eq_of_testBit_eq fun i => ?_
  rw [Fld.get_bit, Fld.get_bit, BitVec.getLsbD_ofNat, Nat.testBit_or, Nat.testBit_two_pow, BitVec.testBit_toNat]
  by_cases hi : i < g.wid
  · have hne : f.lo ≠ g.lo + i := by omega
    by_cases h64 : g.lo + i < 64
    · simp [hne, h64]
    · simp [h64, BitVec.getLsbD_of_ge _ _ (Nat.le_of_not_lt h64)]
  · simp [hi]

theorem State.rdW_setW1c (s : State) (k : Nat) (f : Fld) :
    (s.setW1c k f).rdW k = BitVec.ofNat 64 ((s.rdW k).toNat ||| 2 ^ f.lo) := State.rdW_setBitsOf s k _

theorem State.rdW_setW1c_other (s : State) {k j : Nat} (f : Fld) (h : j ≠ k) : (s.setW1c k f).rdW j = s.rdW j :=
  State.rdW_setBitsOf_other s _ h

/-! ## Alarms (R82) -/

/-- An alarm's control word once it has fired. -/
def firedWord (w : Word) (skipped : Bool) : Word :=
  let w := BitVec.ofNat 64 (w.toNat ||| 2 ^ F.TL_ALARM_CTRL_FIRED.lo)
  if skipped then BitVec.ofNat 64 (w.toNat ||| 2 ^ F.TL_ALARM_CTRL_SKIPPED.lo) else F.TL_ALARM_CTRL_SKIPPED.put w 0

section
variable (w : Word) (skipped : Bool)

theorem firedWord_fired : F.TL_ALARM_CTRL_FIRED.get (firedWord w skipped) = 1 := by
  cases skipped
  · exact (Fld.get_put_other _ _ _ _ (by decide)).trans (Fld.get_or_two_pow _ _ rfl (by decide))
  · exact (Fld.get_or_two_pow_other _ _ _ (by decide)).trans (Fld.get_or_two_pow _ _ rfl (by decide))

theorem firedWord_skipped : F.TL_ALARM_CTRL_SKIPPED.get (firedWord w skipped) = if skipped = true then 1 else 0 := by
  cases skipped
  · exact Fld.get_put _ _ _ (by decide)
  · exact Fld.get_or_two_pow _ _ rfl (by decide)

theorem firedWord_en : F.TL_ALARM_CTRL_EN.get (firedWord w skipped) = F.TL_ALARM_CTRL_EN.get w := by
  cases skipped
  · exact (Fld.get_put_other _ _ _ _ (by decide)).trans (Fld.get_or_two_pow_other _ _ _ (by decide))
  · exact (Fld.get_or_two_pow_other _ _ _ (by decide)).trans (Fld.get_or_two_pow_other _ _ _ (by decide))

end

/-- An alarm that fires, before its next instant: FIRED and SKIPPED. -/
def State.alarmFired (s : State) (a : Nat) (skipped : Bool) : State :=
  let s := s.setW1c (Reg.TL_ALARM_CTRL a) F.TL_ALARM_CTRL_FIRED
  if skipped then s.setW1c (Reg.TL_ALARM_CTRL a) F.TL_ALARM_CTRL_SKIPPED else s.setFld (Reg.TL_ALARM_CTRL a) F.TL_ALARM_CTRL_SKIPPED 0

section
variable (s : State) (a : Nat) (skipped : Bool)

theorem State.rdW_alarmFired :
    (s.alarmFired a skipped).rdW (Reg.TL_ALARM_CTRL a) = firedWord (s.rdW (Reg.TL_ALARM_CTRL a)) skipped := by
  cases skipped
  · exact (State.rdW_setFld _ _ _ _).trans (by rw [State.rdW_setW1c]; rfl)
  · exact (State.rdW_setW1c _ _ _).trans (by rw [State.rdW_setW1c]; rfl)

theorem State.alarmFired_kept : RegsKept [Reg.TL_ALARM_CTRL a] s (s.alarmFired a skipped) := by
  intro k hk
  rw [List.mem_singleton] at hk
  cases skipped
  · exact (State.rdW_setFld_other _ _ _ hk).trans (State.rdW_setW1c_other _ _ hk)
  · exact (State.rdW_setW1c_other _ _ hk).trans (State.rdW_setW1c_other _ _ hk)

theorem State.alarmFire_once (h : s.fld (Reg.TL_ALARM_PERIOD a) F.TL_ALARM_PERIOD_PERIOD = 0) :
    s.alarmFire a skipped = ((s.alarmFired a skipped).setFld (Reg.TL_ALARM_CTRL a) F.TL_ALARM_CTRL_EN 0).evTl (12 + a) := by
  unfold State.alarmFire
  rw [h]
  rfl

theorem State.alarmFired_now : (s.alarmFired a skipped).now = s.now := by
  cases skipped <;> rfl

theorem State.alarmFire_again (h : s.fld (Reg.TL_ALARM_PERIOD a) F.TL_ALARM_PERIOD_PERIOD ≠ 0) :
    s.alarmFire a skipped = ((s.alarmFired a skipped).wrW (Reg.TL_ALARM_AT a) (tlOf ((tlCount (s.rdW (Reg.TL_ALARM_AT a)) +
      ((tlDiff s.now (tlCount (s.rdW (Reg.TL_ALARM_AT a)))).toNat / s.fld (Reg.TL_ALARM_PERIOD a) F.TL_ALARM_PERIOD_PERIOD + 1) *
        s.fld (Reg.TL_ALARM_PERIOD a) F.TL_ALARM_PERIOD_PERIOD) % piTl))).evTl (12 + a) := by
  unfold State.alarmFire
  extract_lets at0 per k s1 s2 n s3
  have hnow : s2.now = s.now := s.alarmFired_now a skipped
  unfold s3 n per
  rw [if_neg h, hnow]
  rfl

end

theorem evKey_alarm (a : Fin 4) : evKey (Reg.TL_ALARM_CTRL a) = false ∧ evKey (Reg.TL_ALARM_AT a) = false :=
  ⟨evKey_below (by simp only [Reg.TL_ALARM_CTRL]; omega), evKey_below (by simp only [Reg.TL_ALARM_AT]; omega)⟩

/-- An alarm's event comes after writes of its own registers. -/
theorem Occurred.of_alarm {s u : State} {a : Fin 4} {ks : List Nat} (hk : RegsKept ks s u)
    (hks : ∀ k ∈ ks, k = Reg.TL_ALARM_CTRL a ∨ k = Reg.TL_ALARM_AT a) : Occurred (540 + a) s (u.evTl (12 + a)) := by
  have ha := a.isLt
  obtain ⟨hctrl, hat⟩ := evKey_alarm a
  have hocc : Occurred (540 + a) u (u.evTl (12 + a)) := by
    rw [show 540 + a.val = 528 + (12 + a.val) by omega]
    exact u.occurred (by omega) (by omega)
  refine hocc.before_kept (by omega) hk fun k hm => ?_
  rcases hks k hm with rfl | rfl
  · exact ⟨hctrl, by simp only [Reg.TL_ALARM_CTRL, Reg.PW_ON]; omega⟩
  · exact ⟨hat, by simp only [Reg.TL_ALARM_AT, Reg.PW_ON]; omega⟩

section
variable {s : State} {a : Fin 4} (hon : s.on 2 = true) (hst : s.tlState ≠ 0) (hdue : s.alarmDue a = true)
include hon hst hdue

theorem execAlarmFire_eq :
    exec (.alarmFire a) s = .next (s.alarmFire a (tlLater s.now (tlCount (s.rdW (Reg.TL_ALARM_AT a))))) :=
  show execAlarmFire a s = _ from if_pos ⟨hon, hst, hdue⟩

theorem execAlarmFire_once (hper : s.fld (Reg.TL_ALARM_PERIOD a) F.TL_ALARM_PERIOD_PERIOD = 0) :
    Completes (.alarmFire a) s fun t =>
      t.fld (Reg.TL_ALARM_CTRL a) F.TL_ALARM_CTRL_FIRED = 1 ∧
      t.fld (Reg.TL_ALARM_CTRL a) F.TL_ALARM_CTRL_SKIPPED =
        (if tlLater s.now (tlCount (s.rdW (Reg.TL_ALARM_AT a))) then 1 else 0) ∧
      t.fld (Reg.TL_ALARM_CTRL a) F.TL_ALARM_CTRL_EN = 0 ∧ Occurred (540 + a) s t ∧
      RegsKeptEv [Reg.TL_ALARM_CTRL a] s t := by
  have ha := a.isLt
  obtain ⟨hctrl, -⟩ := evKey_alarm a
  refine .intro (execAlarmFire_eq hon hst hdue) ?_
  rw [s.alarmFire_once a _ hper]
  generalize tlLater s.now (tlCount (s.rdW (Reg.TL_ALARM_AT a))) = skipped
  have hkept : RegsKept [Reg.TL_ALARM_CTRL a] s ((s.alarmFired a skipped).setFld (Reg.TL_ALARM_CTRL a) F.TL_ALARM_CTRL_EN 0) :=
    (s.alarmFired_kept a skipped).trans (.setFld _ _ _ (List.mem_singleton_self _))
  have hw : (((s.alarmFired a skipped).setFld (Reg.TL_ALARM_CTRL a) F.TL_ALARM_CTRL_EN 0).evTl (12 + a)).rdW (Reg.TL_ALARM_CTRL a) =
      F.TL_ALARM_CTRL_EN.put (firedWord (s.rdW (Reg.TL_ALARM_CTRL a)) skipped) 0 := by
    rw [State.rdW_evTl _ (by omega) hctrl, State.rdW_setFld, State.rdW_alarmFired]
  refine ⟨?_, ?_, ?_, .of_alarm hkept (by simp), hkept.ev.trans (RegsKeptEv.occur _ _ (by omega))⟩
  · rw [State.fld_hw _ _ rfl, hw, Fld.get_put_other _ _ _ _ (by decide), firedWord_fired]
  · rw [State.fld_hw _ _ rfl, hw, Fld.get_put_other _ _ _ _ (by decide), firedWord_skipped]
  · rw [State.fld_hw _ _ rfl, hw, Fld.get_put _ _ _ (by decide), Nat.zero_mod]

theorem execAlarmFire_again {per : Nat} (hper : s.fld (Reg.TL_ALARM_PERIOD a) F.TL_ALARM_PERIOD_PERIOD = per) (h0 : per ≠ 0) :
    Completes (.alarmFire a) s fun t =>
      t.fld (Reg.TL_ALARM_CTRL a) F.TL_ALARM_CTRL_FIRED = 1 ∧
      t.fld (Reg.TL_ALARM_CTRL a) F.TL_ALARM_CTRL_EN = s.fld (Reg.TL_ALARM_CTRL a) F.TL_ALARM_CTRL_EN ∧
      t.rdW (Reg.TL_ALARM_AT a) = tlOf ((tlCount (s.rdW (Reg.TL_ALARM_AT a)) +
        ((tlDiff s.now (tlCount (s.rdW (Reg.TL_ALARM_AT a)))).toNat / per + 1) * per) % piTl) ∧
      Occurred (540 + a) s t ∧ RegsKeptEv [Reg.TL_ALARM_CTRL a, Reg.TL_ALARM_AT a] s t := by
  have ha := a.isLt
  obtain ⟨hctrl, hat⟩ := evKey_alarm a
  have hne : Reg.TL_ALARM_CTRL a ≠ Reg.TL_ALARM_AT a := by simp only [Reg.TL_ALARM_CTRL, Reg.TL_ALARM_AT]; omega
  refine .intro (execAlarmFire_eq hon hst hdue) ?_
  rw [s.alarmFire_again a _ (by rwa [hper]), hper]
  generalize tlLater s.now (tlCount (s.rdW (Reg.TL_ALARM_AT a))) = skipped
  generalize tlOf ((tlCount (s.rdW (Reg.TL_ALARM_AT a)) +
    ((tlDiff s.now (tlCount (s.rdW (Reg.TL_ALARM_AT a)))).toNat / per + 1) * per) % piTl) = next
  have hkept : RegsKept [Reg.TL_ALARM_CTRL a, Reg.TL_ALARM_AT a] s ((s.alarmFired a skipped).wrW (Reg.TL_ALARM_AT a) next) :=
    RegsKept.trans (fun k hk => s.alarmFired_kept a skipped k fun h => hk (List.mem_cons.2 (.inl (List.mem_singleton.1 h))))
      (.wrW _ _ (by simp))
  have hw : (((s.alarmFired a skipped).wrW (Reg.TL_ALARM_AT a) next).evTl (12 + a)).rdW (Reg.TL_ALARM_CTRL a) =
      firedWord (s.rdW (Reg.TL_ALARM_CTRL a)) skipped := by
    rw [State.rdW_evTl _ (by omega) hctrl, State.rdW_wrW_other _ _ hne, State.rdW_alarmFired]
  refine ⟨?_, ?_, ?_, .of_alarm hkept (by simp), hkept.ev.trans (RegsKeptEv.occur _ _ (by omega))⟩
  · rw [State.fld_hw _ _ rfl, hw, firedWord_fired]
  · rw [State.fld_hw _ _ rfl, hw, firedWord_en, State.fld_hw _ _ rfl]
  · rw [State.rdW_evTl _ (by omega) hat, State.rdW_wrW_same]

end

/-! ## TL_SET (R67) -/

/-- A final reply other than INTERNAL touches Umger's work alone. -/
theorem State.final_regs {s : State} (h : UmHdr) (op : Nat) {st : Nat} (det : Nat) (res : List Byte) (hst : st ≠ stInternal) :
    (s.final h op st det res).regs = s.regs := by
  unfold State.final
  rw [if_neg hst]
  dsimp only
  split
  · rw [State.updUm_regs, State.post_regs]
  · rfl

/-- … and depends on it alone. -/
theorem State.final_um_congr {s u : State} (hum : u.um = s.um) (h : UmHdr) (op : Nat) {st : Nat} (det : Nat) (res : List Byte)
    (hst : st ≠ stInternal) : (u.final h op st det res).um = (s.final h op st det res).um := by
  unfold State.final State.post
  rw [if_neg hst, if_neg hst]
  dsimp only
  rw [hum]
  split
  · simp only [State.updUm_um, hum]
  · exact hum

/-- Settles O34: an alarm by its period, its lead in sleep, the scheduler's vote, and the commands that set the count. -/
theorem alarmsFireAndWake : Obligations.AlarmsFireAndWake := by
  refine ⟨fun s a hon hst hdue hper => execAlarmFire_once hon hst hdue hper,
    fun s a per hon hst hdue hper h0 => execAlarmFire_again hon hst hdue hper h0, ?_, fun s => ?_, fun s h p hc => ?_, ?_, ?_⟩
  · intro s a c hs hsl hhas hen hwen hre hw hbit
    have hd : s.dozing = true := by
      rw [State.asleep] at hsl
      rw [State.dozing, hsl, Bool.true_or]
    refine .intro (t := s.updPw fun p => { p with wake := some ⟨s.aon, 2 ^ 4, 0⟩ }) ?_ (by rw [State.updPw_pw])
    show execAlarmWakeStart a s = _
    unfold execAlarmWakeStart
    rw [hs]
    dsimp only
    rw [if_pos ⟨hsl, hhas, hen, hwen, hre⟩, State.raiseWake_enabled hd (by decide) hbit hw]
  · exact .intro (show execTimelineSchedulerVote s = _ from rfl) ⟨by rw [State.updPw_pw], by rw [State.updPw_pw]⟩
  · exact .intro (show execTlGet h p s = _ from State.umRun_eq hc _) rfl
  · intro s h p hc hmode hvalid hsec
    refine .intro (t := (s.accept h 0x0300 []).updTk fun t =>
      { t with setReqs := t.setReqs ++ [⟨s.ticks, tlCount (BitVec.ofNat 64 (leAt p 0 8)), h⟩] }) ?_ ⟨?_, ?_, ?_⟩
    · show execTlSet h p s = _
      unfold execTlSet
      rw [State.umRun_eq hc]
      dsimp only
      rw [if_neg (by rw [hvalid, hsec]; simp; omega), if_neg (by omega)]
    · rw [State.updTk_tk, State.accept_tk]
    · rw [State.updTk_um]
    · rw [State.updTk_tk, State.accept_tk]
  · intro s r rs hreq hat
    refine .intro (t := (s.updTk fun t => { t with setReqs := rs }).final r.hdr 0x0300 stTlNoPps noDetail []) ?_ ⟨?_, ?_, ?_⟩
    · show execTlSetTimeout s = _
      unfold execTlSetTimeout
      rw [hreq]
      exact if_pos hat
    · rw [State.final_tk, State.updTk_tk]
    · exact State.final_um_congr (State.updTk_um ..) _ _ _ _ (by decide)
    · exact .of_regs _ ((State.final_regs _ _ _ _ (by decide)).trans (State.updTk_regs ..))

end Sys2Proof.Machine
end

section
/-! SUPPORT. Events of an A-link, its credit classes, and the control words of the local end (O21). -/

namespace Sys2Proof.Machine

set_option Elab.async false

/-! ## Events of an A-link (R265) -/

/-- The registers of the A-links are none of those that every occurrence writes. -/
theorem evKey_alink {k : Nat} (h : 0x200000 ≤ k) (h' : k < 0x310000) : evKey k = false := by
  refine Bool.eq_false_iff.2 ?_
  simp only [ne_eq, evKey, Bool.or_eq_true, Bool.and_eq_true, decide_eq_true_eq]
  simp only [Reg.LOG_SEQ, Reg.LOG_LOST]
  omega

theorem evKey_alEvent (n : Port) : evKey (Reg.AL_EVENT n) = false :=
  evKey_alink (by simp only [Reg.AL_EVENT]; omega) (by simp only [Reg.AL_EVENT]; omega)

/-- A write of the A-link's own registers leaves the domains and the counts of sources alone. -/
theorem RegsKept.alink {ks : List Nat} {s t : State} (h : RegsKept ks s t) (hks : ∀ k ∈ ks, 0x200000 ≤ k ∧ k < 0x310000) {i : Nat}
    (hi : i < 1024) : t.rdW Reg.PW_ON = s.rdW Reg.PW_ON ∧ t.rdW (Reg.EV_CNT i) = s.rdW (Reg.EV_CNT i) := by
  refine ⟨h _ fun hm => absurd (hks _ hm).1 (by decide), h _ fun hm => ?_⟩
  have hlo := (hks _ hm).1
  simp only [Reg.EV_CNT] at hlo
  omega

theorem OccurredBit.of_regs {i k b : Nat} {s t t' : State} (h : OccurredBit i k b s t) (hr : t'.regs = t.regs) : OccurredBit i k b s t' :=
  h.after (fun hb => by rwa [State.rdW_of_regs hr]) (State.rdW_of_regs hr _)

section
variable (s : State) (n : Port) {f : Fld} {e code : Nat}

/-- An event of an A-link whose last code is kept beside it. -/
def State.evAlCode (s : State) (n : Nat) (f : Fld) (code e : Nat) : State := (s.setFld (Reg.AL_EVENT n) f code).evAl n e

theorem State.evAlCode_occurred (he : e < 3) : OccurredBit (3 * n + e) (Reg.AL_EVENT n) e s (s.evAlCode n f code e) := by
  have hn := n.isLt
  have hpw : Reg.AL_EVENT n ≠ Reg.PW_ON := by simp only [Reg.AL_EVENT, Reg.PW_ON]; omega
  obtain ⟨hon, hcnt⟩ := (RegsKept.setFld (ks := [Reg.AL_EVENT n]) s f code (List.mem_singleton_self _)).alink
    (by simp only [List.mem_singleton, forall_eq, Reg.AL_EVENT]; omega) (i := 3 * n + e) (by omega)
  exact (State.occurredBit _ (by omega) (by omega) (by omega) none (evKey_alEvent n) hpw).before hon hcnt

theorem State.evAlCode_kept (he : e < 3) : RegsKeptEv [Reg.AL_EVENT n] s (s.evAlCode n f code e) := by
  have hn := n.isLt
  exact (RegsKeptEv.setFld _ s _ _ (List.mem_singleton_self _)).trans
    (RegsKeptEv.occurBit _ _ (by omega) _ _ (List.mem_singleton_self _))

theorem State.evAlCode_code (he : e < 3) (hf : f.rwg = false) (hlo : 3 ≤ f.lo) (hw : f.lo + f.wid ≤ 64) (hc : code < 2 ^ f.wid) :
    (s.evAlCode n f code e).fld (Reg.AL_EVENT n) f = code := by
  have hn := n.isLt
  have hg : f.get (BitVec.ofNat 64 (((s.setFld (Reg.AL_EVENT n) f code).rdW (Reg.AL_EVENT n)).toNat ||| 2 ^ e)) =
      f.get ((s.setFld (Reg.AL_EVENT n) f code).rdW (Reg.AL_EVENT n)) :=
    Fld.get_or_two_pow_other ⟨e, 1, false⟩ f _ (.inl (show e < f.lo by omega))
  rw [State.fld_hw _ _ hf, State.evAlCode, State.evAl, State.rdW_occurBit_same _ (by omega) _ _ (evKey_alEvent n), hg,
    State.rdW_setFld, Fld.get_put _ _ _ hw, Nat.mod_eq_of_lt hc]

theorem State.linkErr_al (code : Nat) : s.linkErr (.al n) code = s.evAlCode n F.AL_EVENT_LAST_ERR code 1 := rfl
theorem State.linkTiming_al (code : Nat) : s.linkTiming (.al n) code = s.evAlCode n F.AL_EVENT_LAST_TIMING code 2 := rfl
theorem State.linkEvent_al (code : Nat) : s.linkEvent (.al n) code = s.evAlCode n F.AL_EVENT_LAST_LINK code 0 := rfl

theorem State.linkErr_al_occurred (code : Nat) : OccurredBit (3 * n + 1) (Reg.AL_EVENT n) 1 s (s.linkErr (.al n) code) :=
  s.evAlCode_occurred n (by decide)
theorem State.linkTiming_al_occurred (code : Nat) : OccurredBit (3 * n + 2) (Reg.AL_EVENT n) 2 s (s.linkTiming (.al n) code) :=
  s.evAlCode_occurred n (by decide)
theorem State.linkEvent_al_occurred (code : Nat) : OccurredBit (3 * n) (Reg.AL_EVENT n) 0 s (s.linkEvent (.al n) code) :=
  s.evAlCode_occurred n (e := 0) (by decide)

theorem State.linkErr_al_code (h : code < 256) : (s.linkErr (.al n) code).fld (Reg.AL_EVENT n) F.AL_EVENT_LAST_ERR = code :=
  s.evAlCode_code n (by decide) rfl (by decide) (by decide) h
theorem State.linkTiming_al_code (h : code < 256) : (s.linkTiming (.al n) code).fld (Reg.AL_EVENT n) F.AL_EVENT_LAST_TIMING = code :=
  s.evAlCode_code n (by decide) rfl (by decide) (by decide) h
theorem State.linkEvent_al_code (h : code < 256) : (s.linkEvent (.al n) code).fld (Reg.AL_EVENT n) F.AL_EVENT_LAST_LINK = code :=
  s.evAlCode_code n (by decide) rfl (by decide) (by decide) h

theorem State.linkErr_al_kept (code : Nat) : RegsKeptEv [Reg.AL_EVENT n] s (s.linkErr (.al n) code) := s.evAlCode_kept n (by decide)
theorem State.linkTiming_al_kept (code : Nat) : RegsKeptEv [Reg.AL_EVENT n] s (s.linkTiming (.al n) code) := s.evAlCode_kept n (by decide)
theorem State.linkEvent_al_kept (code : Nat) : RegsKeptEv [Reg.AL_EVENT n] s (s.linkEvent (.al n) code) := s.evAlCode_kept n (by decide)

/-- A protocol error is counted and is an error. -/
theorem State.linkProto_al_completes : Counted (Reg.AL_PROTO n) s (s.linkProto (.al n)) ∧
    OccurredBit (3 * n + 1) (Reg.AL_EVENT n) 1 s (s.linkProto (.al n)) ∧
    (s.linkProto (.al n)).fld (Reg.AL_EVENT n) F.AL_EVENT_LAST_ERR = 6 ∧ RegsKeptEv [Reg.AL_PROTO n, Reg.AL_EVENT n] s (s.linkProto (.al n)) := by
  have hn := n.isLt
  have hne : Reg.AL_PROTO n ∉ [Reg.AL_EVENT n] := by simp only [List.mem_singleton, Reg.AL_PROTO, Reg.AL_EVENT]; omega
  have hev : evKey (Reg.AL_PROTO n) = false := evKey_alink (by simp only [Reg.AL_PROTO]; omega) (by simp only [Reg.AL_PROTO]; omega)
  have hkept : RegsKept [Reg.AL_PROTO n] s (s.cnt (Reg.AL_PROTO n)) := fun k hk => State.rdW_cnt_other s (by simpa using hk)
  obtain ⟨hon, hcnt⟩ := hkept.alink (by simp only [List.mem_singleton, forall_eq, Reg.AL_PROTO]; omega) (i := 3 * n + 1) (by omega)
  refine ⟨?_, ((s.cnt (Reg.AL_PROTO n)).linkErr_al_occurred n 6).before hon hcnt, State.linkErr_al_code _ n (by decide),
    (hkept.ev.mono (by simp)).trans ((State.linkErr_al_kept _ n 6).mono (by simp))⟩
  exact ((s.cnt (Reg.AL_PROTO n)).linkErr_al_kept n 6 _ hne hev).trans (State.rdW_cnt ..)

end

/-- A saturated value fits its bits. -/
theorem satBits_lt (n : Nat) (v : Int) : satBits n v < 2 ^ n := by
  have hpos : (0 : Int) < ((2 ^ n : Nat) : Int) := by positivity
  have hlt := Int.emod_lt_of_pos (if v > ((2 ^ (n - 1) : Nat) : Int) - 1 then ((2 ^ (n - 1) : Nat) : Int) - 1
    else if v < -((2 ^ (n - 1) : Nat) : Int) then -((2 ^ (n - 1) : Nat) : Int) else v) hpos
  have hge := Int.emod_nonneg (if v > ((2 ^ (n - 1) : Nat) : Int) - 1 then ((2 ^ (n - 1) : Nat) : Int) - 1
    else if v < -((2 ^ (n - 1) : Nat) : Int) then -((2 ^ (n - 1) : Nat) : Int) else v) hpos.ne'
  unfold satBits uInt
  dsimp only
  omega

/-! ## Credit classes of a port (R247 to R251) -/

section
variable (s : State) (n k : Nat)

theorem State.crRx_of_ports {s t : State} (h : t.ports = s.ports) : t.crRx n k = s.crRx n k := by
  rw [State.crRx, State.crRx, State.port_of_ports h]

theorem State.crRx_updRx (f : CrRx → CrRx) : (s.updRx n k f).crRx n k = f (s.crRx n k) := by
  rw [State.crRx, State.updRx, State.port_updPort, SMap.get_upd_same]
  rfl

theorem State.crTx_updTx (f : CrTx → CrTx) : (s.updTx n k f).crTx n k = f (s.crTx n k) := by
  rw [State.crTx, State.updTx, State.port_updPort, SMap.get_upd_same]
  rfl

theorem State.crTx_updTx_other {j : Nat} (f : CrTx → CrTx) (h : j ≠ k) : (s.updTx n k f).crTx n j = s.crTx n j := by
  rw [State.crTx, State.updTx, State.port_updPort, SMap.get_upd_other _ _ _ h]
  rfl

theorem State.port_updTx_other (f : CrTx → CrTx) {m : Nat} (h : m ≠ n) : (s.updTx n k f).port m = s.port m :=
  State.port_updPort_other _ _ h

theorem State.port_updRx_other (f : CrRx → CrRx) {m : Nat} (h : m ≠ n) : (s.updRx n k f).port m = s.port m :=
  State.port_updPort_other _ _ h

variable (c : Ctl)

theorem State.port_addCtl_other {m : Nat} (h : m ≠ n) : (s.addCtl n c).port m = s.port m := State.port_updPort_other _ _ h

theorem State.mem_addCtl : c ∈ ((s.addCtl n c).port n).ctl := by
  rw [State.addCtl, State.port_updPort]
  split
  next h => exact List.contains_iff_mem.1 h
  · simp

/-- A control word that joins those that wait leaves the rest of the port. -/
theorem State.port_addCtl : (s.addCtl n c).port n = { s.port n with ctl := ((s.addCtl n c).port n).ctl } := by
  rw [State.addCtl, State.port_updPort]
  split <;> rfl

theorem State.crRx_addCtl : (s.addCtl n c).crRx n k = s.crRx n k := by
  rw [State.crRx, State.port_addCtl]
  rfl

theorem State.crTx_addCtl : (s.addCtl n c).crTx n k = s.crTx n k := by
  rw [State.crTx, State.port_addCtl]
  rfl

end

/-! ## LEDGER (R249 to R251) -/

/-- What every LEDGER leaves: its class has had one, and no class is overdue for want of it. -/
def State.ledgerSeen (s : State) (n k : Nat) : State :=
  let s := s.updRx n k (fun c => { c with last := some s.ticks, late := false })
  if (s.port n).rx.any (fun e => e.2.late) then s else s.setFld (Reg.AL_STAT n) F.AL_STAT_AUDIT_LATE 0

section
variable (s : State) (n k : Nat)

theorem State.ledgerSeen_ports : (s.ledgerSeen n k).ports = (s.updRx n k fun c => { c with last := some s.ticks, late := false }).ports := by
  unfold State.ledgerSeen
  dsimp only
  split
  · rfl
  · exact State.setFld_ports ..

theorem State.ledgerSeen_crRx : (s.ledgerSeen n k).crRx n k = { s.crRx n k with last := some s.ticks, late := false } :=
  (State.crRx_of_ports n k (s.ledgerSeen_ports n k)).trans (s.crRx_updRx n k _)

theorem State.ledgerSeen_other {m : Nat} (h : m ≠ n) : (s.ledgerSeen n k).port m = s.port m :=
  (State.port_of_ports (s.ledgerSeen_ports n k) m).trans (s.port_updRx_other n k _ h)

theorem State.ledgerSeen_kept : RegsKept [Reg.AL_STAT n] s (s.ledgerSeen n k) := by
  unfold State.ledgerSeen
  dsimp only
  split
  · exact .of_regs _ (State.updPort_regs ..)
  · exact (RegsKept.of_regs _ (State.updPort_regs ..)).trans (.setFld _ _ _ (List.mem_singleton_self _))

end

section
variable {s : State} {n : Port} {w : Word} {k : Nat} (hlive : s.wordsLive n = true) (hop : wbits w 63 60 = 2)
  (hk : k = crKey (wbits w 59 58) (if wbits w 59 58 = 0 then wbits w 57 42 else 0))
include hlive hop hk

theorem execLedger_eq : exec (.ledger n w) s = .next
    (if (s.crRx n k).wait = true then
      if wbits w 31 0 = (s.crRx n k).recvd then
        ((s.ledgerSeen n k).updRx n k (fun c => { c with wait := false })).addCtl n (.credit k) else s.ledgerSeen n k
    else if wbits w 31 0 = (s.crRx n k).recvd then s.ledgerSeen n k
    else ((s.ledgerSeen n k).linkErr (.al n) 2).resync n k true) := by
  have hk' : (if wbits w 59 58 = 0 then crKey 0 (wbits w 57 42) else crKey (wbits w 59 58) 0) = k := by
    rw [hk]
    split
    next h => rw [h]
    · rfl
  show execLedger n w s = _
  unfold execLedger
  rw [if_pos ⟨hlive, hop⟩]
  dsimp only
  rw [hk']
  split
  · split <;> rfl
  · split <;> rfl

theorem execLedger_mismatch (hwait : (s.crRx n k).wait = false) (hne : wbits w 31 0 ≠ (s.crRx n k).recvd) :
    Completes (.ledger n w) s fun t =>
      (t.crRx n k).granted = (s.crRx n k).recvd ∧ (t.crRx n k).recvd = (s.crRx n k).recvd ∧ (t.crRx n k).wait = true ∧
      (t.crRx n k).last = some s.ticks ∧ .cresync k ∈ (t.port n).ctl ∧ OccurredBit (3 * n + 1) (Reg.AL_EVENT n) 1 s t ∧
      t.fld (Reg.AL_EVENT n) F.AL_EVENT_LAST_ERR = 2 ∧ (∀ m, m ≠ n.val → t.port m = s.port m) ∧
      RegsKeptEv [Reg.AL_STAT n, Reg.AL_EVENT n] s t := by
  have hn := n.isLt
  have hregs : (((s.ledgerSeen n k).linkErr (.al n) 2).resync n k true).regs = ((s.ledgerSeen n k).linkErr (.al n) 2).regs :=
    (State.resync_in ..).same .regs rfl
  have hcr : (((s.ledgerSeen n k).linkErr (.al n) 2).resync n k true).crRx n k =
      { s.crRx n k with last := some s.ticks, late := false, granted := (s.crRx n k).recvd, wait := true } := by
    rw [State.resync, State.crRx_addCtl, State.crRx_updRx, State.crRx_of_ports n k (State.linkErr_ports ..), State.ledgerSeen_crRx]
  obtain ⟨hon, hcnt⟩ := (s.ledgerSeen_kept n k).alink (by simp only [List.mem_singleton, forall_eq, Reg.AL_STAT]; omega)
    (i := 3 * n + 1) (by omega)
  have hocc := ((s.ledgerSeen n k).linkErr_al_occurred n 2).before hon hcnt
  refine .intro ((execLedger_eq hlive hop hk).trans (by rw [if_neg (by simp [hwait]), if_neg hne])) ⟨?_, ?_, ?_, ?_, ?_, ?_, ?_, ?_, ?_⟩
  · rw [hcr]
  · rw [hcr]
  · rw [hcr]
  · rw [hcr]
  · exact State.mem_addCtl _ n _
  · exact hocc.of_regs hregs
  · rw [State.fld_eq _ (State.rdW_of_regs hregs _) (State.rdG_of_gen ((State.resync_in ..).same .gen rfl) _)]
    exact State.linkErr_al_code _ n (by decide)
  · intro m hm
    rw [State.resync, State.port_addCtl_other _ _ _ hm, State.port_updRx_other _ _ _ _ hm, State.port_of_ports (State.linkErr_ports ..),
      State.ledgerSeen_other _ _ _ hm]
  · exact ((s.ledgerSeen_kept n k).ev.mono (by simp)).trans
      (((State.linkErr_al_kept _ n 2).mono (by simp)).trans (.of_regs _ hregs))

theorem execLedger_match (heq : wbits w 31 0 = (s.crRx n k).recvd) :
    Completes (.ledger n w) s fun t =>
      (t.crRx n k).granted = (s.crRx n k).granted ∧ (t.crRx n k).recvd = (s.crRx n k).recvd ∧ (t.crRx n k).wait = false ∧
      (t.crRx n k).last = some s.ticks ∧ ((s.crRx n k).wait = true → .credit k ∈ (t.port n).ctl) ∧
      (∀ m, m ≠ n.val → t.port m = s.port m) ∧ RegsKept [Reg.AL_STAT n] s t := by
  refine .intro (execLedger_eq hlive hop hk) ?_
  rw [if_pos heq, if_pos heq]
  split
  · have hcr : (((s.ledgerSeen n k).updRx n k fun c => { c with wait := false }).addCtl n (.credit k)).crRx n k =
        { s.crRx n k with last := some s.ticks, late := false, wait := false } := by
      rw [State.crRx_addCtl, State.crRx_updRx, State.ledgerSeen_crRx]
    refine ⟨by rw [hcr], by rw [hcr], by rw [hcr], by rw [hcr], fun _ => State.mem_addCtl _ _ _, fun m hm => ?_, ?_⟩
    · rw [State.port_addCtl_other _ _ _ hm, State.port_updRx_other _ _ _ _ hm, State.ledgerSeen_other _ _ _ hm]
    · exact (s.ledgerSeen_kept n k).trans ((RegsKept.of_regs _ (State.updPort_regs ..)).trans (.of_regs _ (State.updPort_regs ..)))
  next hwait =>
    rw [s.ledgerSeen_crRx n k]
    exact ⟨rfl, rfl, Bool.eq_false_iff.2 hwait, rfl, fun h => absurd h hwait, fun m hm => s.ledgerSeen_other n k hm, s.ledgerSeen_kept n k⟩

end

/-! ## EPOCH, LE_TOD and STATUS (R258, R263, R264) -/

section
variable {s : State} {n : Port} {w : Word}

/-- The state that an EPOCH with a higher value leaves: a timing event, and in a twin the word of it. -/
def State.epochRaised (s : State) (n : Port) (v : Nat) : State :=
  let s := (s.setFld (Reg.AL_EPOCH_RX n) F.AL_EPOCH_RX_EPOCH v).linkTiming (.al n) 4
  if s.role ≠ 0 ∧ (s.mode = 5 ∨ s.mode = 6 ∨ s.mode = 9) then s.updTw (fun t => { t with higher := true }) else s

theorem State.epochRaised_regs (v : Nat) : (s.epochRaised n v).regs =
    ((s.setFld (Reg.AL_EPOCH_RX n) F.AL_EPOCH_RX_EPOCH v).linkTiming (.al n) 4).regs ∧ (s.epochRaised n v).gen =
    ((s.setFld (Reg.AL_EPOCH_RX n) F.AL_EPOCH_RX_EPOCH v).linkTiming (.al n) 4).gen := by
  unfold State.epochRaised
  dsimp only
  split
  · exact ⟨State.updTw_regs .., State.updTw_gen ..⟩
  · exact ⟨rfl, rfl⟩

theorem State.epochRaised_higher {v : Nat} (hr : s.role ≠ 0) (hm : s.mode = 5 ∨ s.mode = 6 ∨ s.mode = 9) :
    (s.epochRaised n v).tw.higher = true := by
  have hn := n.isLt
  have hkeep : ∀ k < 0x200000, evKey k = false →
      ((s.setFld (Reg.AL_EPOCH_RX n) F.AL_EPOCH_RX_EPOCH v).linkTiming (.al n) 4).rdW k = s.rdW k := by
    intro k hk he
    rw [State.linkTiming_al_kept _ n 4 k (by simp only [List.mem_singleton, Reg.AL_EVENT]; omega) he,
      State.rdW_setFld_other _ _ _ (by simp only [Reg.AL_EPOCH_RX]; omega)]
  have hrole : ((s.setFld (Reg.AL_EPOCH_RX n) F.AL_EPOCH_RX_EPOCH v).linkTiming (.al n) 4).role = s.role := by
    rw [State.role, State.role, State.fld_hw _ _ rfl, State.fld_hw _ _ rfl, hkeep _ (by decide) (by decide)]
  have hmode : ((s.setFld (Reg.AL_EPOCH_RX n) F.AL_EPOCH_RX_EPOCH v).linkTiming (.al n) 4).mode = s.mode :=
    State.mode_eq_of_rdW (hkeep _ (by decide) (by decide))
  unfold State.epochRaised
  dsimp only
  rw [hrole, hmode, if_pos ⟨hr, hm⟩, State.updTw_tw]

variable (hlive : s.wordsLive n = true)
include hlive

theorem execEpoch_eq (hop : wbits w 63 60 = 8) : exec (.epoch n w) s = .next
    (if epochHigher (wbits w 15 0) (s.fld Reg.TW_EPOCH F.TW_EPOCH_EPOCH) = true then s.epochRaised n (wbits w 15 0)
      else s.setFld (Reg.AL_EPOCH_RX n) F.AL_EPOCH_RX_EPOCH (wbits w 15 0)) := by
  have hn := n.isLt
  show execEpoch n w s = _
  unfold execEpoch
  rw [if_pos ⟨hlive, hop⟩]
  dsimp only
  rw [State.fld_setFld_reg _ _ _ _ (by simp only [Reg.TW_EPOCH, Reg.AL_EPOCH_RX]; omega)]
  split <;> rfl

theorem execEpoch_completes (hop : wbits w 63 60 = 8) : Completes (.epoch n w) s fun t =>
      t.fld (Reg.AL_EPOCH_RX n) F.AL_EPOCH_RX_EPOCH = wbits w 15 0 ∧
      (epochHigher (wbits w 15 0) (s.fld Reg.TW_EPOCH F.TW_EPOCH_EPOCH) = true →
        OccurredBit (3 * n + 2) (Reg.AL_EVENT n) 2 s t ∧ t.fld (Reg.AL_EVENT n) F.AL_EVENT_LAST_TIMING = 4 ∧
        (s.role ≠ 0 → s.mode = 5 ∨ s.mode = 6 ∨ s.mode = 9 → t.tw.higher = true)) ∧
      (epochHigher (wbits w 15 0) (s.fld Reg.TW_EPOCH F.TW_EPOCH_EPOCH) = false → t.tw = s.tw ∧ RegsKept [Reg.AL_EPOCH_RX n] s t) ∧
      RegsKeptEv [Reg.AL_EPOCH_RX n, Reg.AL_EVENT n] s t := by
  have hn := n.isLt
  have hne : Reg.AL_EPOCH_RX n ≠ Reg.AL_EVENT n := by simp only [Reg.AL_EPOCH_RX, Reg.AL_EVENT]; omega
  have hev : evKey (Reg.AL_EPOCH_RX n) = false := evKey_alink (by simp only [Reg.AL_EPOCH_RX]; omega) (by simp only [Reg.AL_EPOCH_RX]; omega)
  have hv : wbits w 15 0 % 2 ^ F.AL_EPOCH_RX_EPOCH.wid = wbits w 15 0 := Nat.mod_mod _ _
  have hset : (s.setFld (Reg.AL_EPOCH_RX n) F.AL_EPOCH_RX_EPOCH (wbits w 15 0)).fld (Reg.AL_EPOCH_RX n) F.AL_EPOCH_RX_EPOCH =
      wbits w 15 0 := (State.fld_setFld _ _ _ _ (by decide)).trans hv
  have hkept : RegsKept [Reg.AL_EPOCH_RX n] s (s.setFld (Reg.AL_EPOCH_RX n) F.AL_EPOCH_RX_EPOCH (wbits w 15 0)) :=
    .setFld _ _ _ (List.mem_singleton_self _)
  refine .intro (execEpoch_eq hlive hop) ?_
  split
  next h =>
    obtain ⟨hregs, hgen⟩ := State.epochRaised_regs (s := s) (n := n) (wbits w 15 0)
    obtain ⟨hon, hcnt⟩ := hkept.alink (by simp only [List.mem_singleton, forall_eq, Reg.AL_EPOCH_RX]; omega) (i := 3 * n + 2) (by omega)
    refine ⟨?_, fun _ => ⟨?_, ?_, State.epochRaised_higher⟩, fun h' => absurd (h.symm.trans h') (by decide), ?_⟩
    · rw [State.fld_hw _ _ rfl, State.rdW_of_regs hregs, State.linkTiming_al_kept _ n 4 _ (by simpa using hne) hev, ← State.fld_hw _ _ rfl]
      exact hset
    · exact ((State.linkTiming_al_occurred _ n 4).before hon hcnt).of_regs hregs
    · rw [State.fld_eq _ (State.rdW_of_regs hregs _) (State.rdG_of_gen hgen _)]
      exact State.linkTiming_al_code _ n (by decide)
    · exact (hkept.ev.mono (by simp)).trans (((State.linkTiming_al_kept _ n 4).mono (by simp)).trans (.of_regs _ hregs))
  next h =>
    exact ⟨hset, fun h' => absurd h' h, fun _ => ⟨State.setFld_tw .., hkept⟩, hkept.ev.mono (by simp)⟩

/-- The local end's time less the estimate of its slot start, in 1/65,536 Tc (R258). -/
def State.todErr (s : State) (n : Nat) (w : Word) (ago : Nat) : Int :=
  tlDiff (tlCount w) s.now * 65536 + ago + s.rxDelay n + (s.port n).owdUp

theorem execLeTod_valid {ago : Nat} (hen : s.flag (Reg.AL_CTRL n) F.AL_CTRL_TOD_EN = true) (hv : tlValid w = true) :
    Completes (.leTod n w ago) s fun t =>
      t.fld (Reg.AL_LETOD_ERR n) F.AL_LETOD_ERR_ERR = satBits 32 (s.todErr n w ago) ∧
      (s.fld (Reg.AL_CALTOL n) F.AL_CALTOL_TOL < (s.todErr n w ago).natAbs →
        OccurredBit (3 * n + 2) (Reg.AL_EVENT n) 2 s t ∧ t.fld (Reg.AL_EVENT n) F.AL_EVENT_LAST_TIMING = 3) ∧
      RegsKeptEv [Reg.AL_LETOD_ERR n, Reg.AL_EVENT n] s t := by
  have hn := n.isLt
  have hne : Reg.AL_LETOD_ERR n ≠ Reg.AL_EVENT n := by simp only [Reg.AL_LETOD_ERR, Reg.AL_EVENT]; omega
  have hev : evKey (Reg.AL_LETOD_ERR n) = false :=
    evKey_alink (by simp only [Reg.AL_LETOD_ERR]; omega) (by simp only [Reg.AL_LETOD_ERR]; omega)
  have hset : (s.setFld (Reg.AL_LETOD_ERR n) F.AL_LETOD_ERR_ERR (satBits 32 (s.todErr n w ago))).fld (Reg.AL_LETOD_ERR n)
      F.AL_LETOD_ERR_ERR = satBits 32 (s.todErr n w ago) :=
    (State.fld_setFld _ _ _ _ (by decide)).trans (Nat.mod_eq_of_lt (satBits_lt 32 _))
  have hkept : RegsKept [Reg.AL_LETOD_ERR n] s (s.setFld (Reg.AL_LETOD_ERR n) F.AL_LETOD_ERR_ERR (satBits 32 (s.todErr n w ago))) :=
    .setFld _ _ _ (List.mem_singleton_self _)
  refine .intro (t := if s.fld (Reg.AL_CALTOL n) F.AL_CALTOL_TOL < (s.todErr n w ago).natAbs then
    (s.setFld (Reg.AL_LETOD_ERR n) F.AL_LETOD_ERR_ERR (satBits 32 (s.todErr n w ago))).linkTiming (.al n) 3 else
    s.setFld (Reg.AL_LETOD_ERR n) F.AL_LETOD_ERR_ERR (satBits 32 (s.todErr n w ago))) ?_ ?_
  · show execLeTod n w ago s = _
    unfold execLeTod
    rw [if_pos ⟨hlive, hen⟩, if_pos hv]
    dsimp only
    rw [State.fld_setFld_reg _ _ _ _ (by simp only [Reg.AL_CALTOL, Reg.AL_LETOD_ERR]; omega)]
    rfl
  split
  next h =>
    obtain ⟨hon, hcnt⟩ := hkept.alink (by simp only [List.mem_singleton, forall_eq, Reg.AL_LETOD_ERR]; omega) (i := 3 * n + 2) (by omega)
    refine ⟨?_, fun _ => ⟨(State.linkTiming_al_occurred _ n 3).before hon hcnt, State.linkTiming_al_code _ n (by decide)⟩,
      (hkept.ev.mono (by simp)).trans ((State.linkTiming_al_kept _ n 3).mono (by simp))⟩
    rw [State.fld_hw _ _ rfl, State.linkTiming_al_kept _ n 3 _ (by simpa using hne) hev, ← State.fld_hw _ _ rfl]
    exact hset
  next h => exact ⟨hset, fun h' => absurd h' h, hkept.ev.mono (by simp)⟩

theorem execLeTod_invalid {ago : Nat} (hen : s.flag (Reg.AL_CTRL n) F.AL_CTRL_TOD_EN = true) (hv : tlValid w = false) :
    Completes (.leTod n w ago) s fun t => Counted (Reg.AL_PROTO n) s t ∧
      OccurredBit (3 * n + 1) (Reg.AL_EVENT n) 1 s t ∧ t.fld (Reg.AL_EVENT n) F.AL_EVENT_LAST_ERR = 6 ∧
      RegsKeptEv [Reg.AL_PROTO n, Reg.AL_EVENT n] s t := by
  refine .intro (t := s.linkProto (.al n)) ?_ (s.linkProto_al_completes n)
  show execLeTod n w ago s = _
  unfold execLeTod
  rw [if_pos ⟨hlive, hen⟩, if_neg (by simp [hv])]

theorem execStatus_eq (hop : wbits w 63 60 = 0xA) : exec (.status n w) s = .next
    (let u := s.updPort n fun p => { p with first := false }
     if w.toNat.testBit 1 = true ∧ (s.port n).inhLong = true then
       (u.logKind 0x07 (n.val + wbits w 2 0 * 2 ^ 24)).linkErr (.al n) 5
     else if w.toNat.testBit 1 = true ∧ (s.port n).first = true then
       (u.logKind 0x07 (n.val + 1 * 2 ^ 16 + wbits w 2 0 * 2 ^ 24)).linkErr (.al n) 5
     else u) := by
  show execStatus n w s = _
  unfold execStatus
  rw [if_pos ⟨hlive, hop⟩]
  simp only [Bool.and_eq_true]
  split
  · rfl
  · split <;> rfl

end

/-- An inhibited end's STATUS is logged and is an error. -/
theorem State.statusErr (s : State) (n : Port) (p : Nat) :
    (((s.updPort n fun p => { p with first := false }).logKind 0x07 p).linkErr (.al n) 5).port n = { s.port n with first := false } ∧
    OccurredBit (3 * n + 1) (Reg.AL_EVENT n) 1 s (((s.updPort n fun p => { p with first := false }).logKind 0x07 p).linkErr (.al n) 5) ∧
    (((s.updPort n fun p => { p with first := false }).logKind 0x07 p).linkErr (.al n) 5).fld (Reg.AL_EVENT n) F.AL_EVENT_LAST_ERR = 5 ∧
    RegsKeptEv [Reg.AL_EVENT n] s (((s.updPort n fun p => { p with first := false }).logKind 0x07 p).linkErr (.al n) 5) := by
  have hn := n.isLt
  have hlog : ∀ k, k ≠ Reg.LOG_SEQ → k ≠ Reg.LOG_LOST →
      ((s.updPort n fun p => { p with first := false }).logKind 0x07 p).rdW k = s.rdW k := by
    intro k hk hk'
    exact (State.rdW_logPut _ _ hk hk').trans (State.updPort_rdW ..)
  refine ⟨?_, ?_, State.linkErr_al_code _ n (by decide), fun k hk he => ?_⟩
  · rw [State.port_of_ports (State.linkErr_ports ..), State.port_of_ports (State.logKind_ports ..), State.port_updPort]
  · exact (State.linkErr_al_occurred _ n 5).before (hlog _ (by decide) (by decide))
      (hlog _ (by simp only [Reg.EV_CNT, Reg.LOG_SEQ]; omega) (by simp only [Reg.EV_CNT, Reg.LOG_LOST]; omega))
  · rw [State.linkErr_al_kept _ n 5 k hk he, hlog _ (evKey_false he).2.1 (evKey_false he).2.2.1]

/-- Settles O21: each control word by the class, the register or the event that it changes. -/
theorem controlWordsTakeEffect : Obligations.ControlWordsTakeEffect := by
  refine ⟨fun s n w hlive hop hcls => ?_, fun s n w hlive hop hcls => ?_,
    fun s n w k hlive hop hk hwait hne => execLedger_mismatch hlive hop hk hwait hne,
    fun s n w k hlive hop hk heq => execLedger_match hlive hop hk heq, fun s n w hlive hop => execEpoch_completes hlive hop,
    fun s n w ago hlive hen hv => execLeTod_valid hlive hen hv, fun s n w ago hlive hen hv => execLeTod_invalid hlive hen hv,
    fun s n w hlive hop => ?_⟩
  · exact .intro (show execCredit n w s = _ from if_pos ⟨hlive, hop, hcls⟩)
      ⟨State.crTx_updTx .., fun k hk => State.crTx_updTx_other _ _ _ _ hk, fun m hm => State.port_updTx_other _ _ _ _ hm,
        State.updPort_regs ..⟩
  · refine .intro (show execCresync n w s = _ from if_pos ⟨hlive, hop, hcls⟩) ⟨?_, ?_, State.mem_addCtl _ _ _, fun m hm => ?_, ?_⟩
    · rw [State.crTx_addCtl, State.crTx_updTx]
    · rw [State.crTx_addCtl, State.crTx_updTx]
    · rw [State.port_addCtl_other _ _ _ hm, State.port_updTx_other _ _ _ _ hm]
    · rw [State.addCtl, State.updPort_regs, State.updTx, State.updPort_regs]
  · refine .intro (execStatus_eq hlive hop) ?_
    dsimp only
    split
    next h =>
      obtain ⟨hp, hocc, hcode, hkept⟩ := s.statusErr n (n.val + wbits w 2 0 * 2 ^ 24)
      exact ⟨hp, fun _ _ => ⟨hocc, hcode⟩, fun h' => absurd (h.1.symm.trans h') (by decide), hkept⟩
    next h1 =>
      split
      next h =>
        obtain ⟨hp, hocc, hcode, hkept⟩ := s.statusErr n (n.val + 1 * 2 ^ 16 + wbits w 2 0 * 2 ^ 24)
        exact ⟨hp, fun _ _ => ⟨hocc, hcode⟩, fun h' => absurd (h.1.symm.trans h') (by decide), hkept⟩
      next h2 =>
        refine ⟨State.port_updPort .., fun hb hor => ?_, fun _ => ⟨State.updPort_regs .., State.updPort_log ..⟩,
          .of_regs _ (State.updPort_regs ..)⟩
        exact (hor.elim (fun h => h1 ⟨hb, h⟩) fun h => h2 ⟨hb, h⟩).elim

end Sys2Proof.Machine
end

section
/-! SUPPORT. What the loss of an A-link leaves, and acknowledgement (O22). -/

namespace Sys2Proof.Machine

set_option Elab.async false

/-! ## What the loss of an A-link does on its way (R262, R409) -/

theorem State.missTx_kept (s : State) (p t : Nat) : RegsKeptEv [] s (s.missTx p t) :=
  RegsKeptEv.trans (.of_regs _ (State.updPail_regs ..)) (RegsKeptEv.occur _ _ (by decide))

theorem missReady_kept (p : Nat) (bs : List Block) : ∀ s : State, RegsKeptEv [] s (missReady s p bs) := by
  induction bs with
  | nil => exact .refl _
  | cons b bs ih =>
    intro s
    refine RegsKeptEv.trans ?_ (ih _)
    split
    · exact s.missTx_kept p _
    · exact s.missTx_kept p _
    · exact .refl _ s

theorem State.dropTx_kept (ps : List Nat) : ∀ s : State, RegsKeptEv [] s (s.dropTx ps) := by
  induction ps with
  | nil => exact .refl _
  | cons p ps ih =>
    intro s
    refine RegsKeptEv.trans ?_ (ih _)
    exact (missReady_kept p _ s).trans ((RegsKeptEv.of_regs _ (State.updPail_regs ..)).trans (.of_regs _ (State.updPail_regs ..)))

theorem State.dropRx_regs (ps : List Nat) : ∀ s : State, (s.dropRx ps).regs = s.regs := by
  induction ps with
  | nil => exact fun _ => rfl
  | cons p ps ih => exact fun s => (ih _).trans (State.updPail_regs ..)

/-- An error of a host link is told in its own event register, which every occurrence may write. -/
theorem State.evHl_kept (s : State) {m e : Nat} (hm : m < 32) (he : e < 4) : RegsKeptEv [] s (s.evHl m e) :=
  fun _ _ hk => State.rdW_occurBit s (by omega) _ _ hk ((evKey_false hk).2.2.2.2 m hm)

theorem State.aerTlp_kept (s : State) {m : Nat} (bit : Nat) (hm : m < 32) : RegsKeptEv [] s (s.aerTlp m bit) := by
  unfold State.aerTlp State.aerUnc
  refine RegsKeptEv.trans (.of_regs _ ?_) (State.evHl_kept _ hm (by decide))
  exact ((State.recUnc_in ..).same .regs rfl)

theorem State.completeCa_kept (s : State) {m : Nat} (sl : Option Nat) (hm : m < 32) : RegsKeptEv [] s (s.completeCa m sl) :=
  (s.aerTlp_kept aerCa hm).trans (.of_regs _ (State.emit_regs ..))

theorem State.endReads_kept (rs : List HostRead) : ∀ s : State, RegsKeptEv [] s (s.endReads rs) := by
  induction rs with
  | nil => exact .refl _
  | cons r rs ih => exact fun s => (s.completeCa_kept r.sl r.m.isLt).trans (ih _)

theorem State.moveLane_kept (s : State) (n l ph : Nat) :
    RegsKept [Reg.AL_LANEMAP n, Reg.AL_GRP_SPARE_STAT (n / 8)] s (s.moveLane n l ph) := by
  intro k hk
  simp only [List.mem_cons, List.not_mem_nil, or_false, not_or] at hk
  obtain ⟨hmap, hspare⟩ := hk
  unfold State.moveLane
  extract_lets g k' f was s1 s2 s3
  have h1 : s1.rdW k = s.rdW k := by
    unfold s1
    split
    · simp only [State.rdW_setFld_other _ _ _ hspare, k', g]
    · split
      · simp only [State.rdW_setFld_other _ _ _ hspare, k', g]
      · rfl
  have h2 : s2.rdW k = s1.rdW k := State.rdW_setFld_other _ _ _ hmap
  have h3 : s3.rdW k = s2.rdW k := by
    unfold s3
    split <;> simp only [State.rdW_setFld_other _ _ _ hspare, k', g]
  exact (State.rdW_of_regs (State.setRepairDue_regs ..) k).trans (h3.trans (h2.trans h1))

/-! ## An A-link is lost -/

/-- A link that was lost is Down with nothing left to send or to wait for. -/
structure AlinkDown (n : Port) (s u : State) : Prop where
  tstate : u.tstate (.al n) = 0
  unack : (u.port n).unack = []
  busQ : (u.port n).busQ = []
  other : OtherPortsKept n s u

/-- Unless it was Down, the loss of a link is its event with its cause. -/
theorem State.alLoss_spec {s : State} {n : Port} (h : s.tstate (.al n) ≠ 0) (cause : Nat) :
    ∃ u, s.alLoss n cause = u.linkEvent (.al n) cause ∧ AlinkDown n s u := by
  have hn := n.isLt
  have hstat : evKey (Reg.AL_STAT n) = false := evKey_alink (by simp only [Reg.AL_STAT]; omega) (by simp only [Reg.AL_STAT]; omega)
  unfold State.alLoss
  rw [if_neg h]
  extract_lets p lost past s1 s2 s3 s4 s5 s6 s7
  refine ⟨_, rfl, ?_⟩
  have h1 : s1.tstate (.al n) = 0 := (State.fld_setFld _ _ _ _ (by decide)).trans (Nat.zero_mod _)
  have h2 : s2.tstate (.al n) = 0 := by
    simp only [State.tstate, s2]
    rw [State.fld_setFld_other _ _ _ _ _ (by decide), State.fld_setFld_other _ _ _ _ _ (by decide),
      State.fld_setFld_other _ _ _ _ _ (by decide), State.fld_setFld_other _ _ _ _ _ (by decide)]
    exact h1
  have hw : s7.rdW (Reg.AL_STAT n) = s2.rdW (Reg.AL_STAT n) := by
    calc s7.rdW (Reg.AL_STAT n) = s6.rdW (Reg.AL_STAT n) := State.updPort_rdW ..
      _ = s5.rdW (Reg.AL_STAT n) := State.endReads_kept _ s5 _ (by simp) hstat
      _ = s4.rdW (Reg.AL_STAT n) := State.rdW_wrW_other _ _ (by simp only [Reg.AL_STAT, Reg.AL_BR_LOST]; omega)
      _ = s3.rdW (Reg.AL_STAT n) := State.dropTx_kept _ s3 _ (by simp) hstat
      _ = s2.rdW (Reg.AL_STAT n) := State.rdW_of_regs (State.dropRx_regs _ s2) _
  have hports : s6.ports = s1.ports := by
    calc s6.ports = s5.ports := (State.endReads_in ..).same .ports rfl
      _ = s4.ports := State.addCnt_ports ..
      _ = s3.ports := (State.dropTx_in ..).same .ports rfl
      _ = s2.ports := (State.dropRx_in ..).same .ports rfl
      _ = s1.ports := by simp only [s2, State.setFld_ports]
  have hother : OtherPortsKept n s s7 := by
    intro m hm
    rw [State.port_updPort_other _ _ hm, State.port_of_ports hports]
    exact (State.port_of_ports (State.setFld_ports ..) m).trans (State.port_updPort_other _ _ hm)
  have hport : (s7.port n).unack = [] ∧ (s7.port n).busQ = [] := by
    rw [State.port_updPort]
    exact ⟨rfl, rfl⟩
  have h7 : s7.tstate (.al n) = 0 := by
    rw [State.tstate, State.fld_hw _ _ rfl, hw, ← State.fld_hw _ _ rfl]
    exact h2
  clear_value s7 past
  rcases past with _ | ⟨l, ph⟩
  · exact ⟨h7, hport.1, hport.2, hother⟩
  · have hm : (s7.moveLane n l ph).ports = s7.ports := (State.moveLane_in ..).same .ports rfl
    refine ⟨?_, by rw [State.port_of_ports hm]; exact hport.1, by rw [State.port_of_ports hm]; exact hport.2,
      fun m hne => (State.port_of_ports hm m).trans (hother m hne)⟩
    rw [State.tstate, State.fld_hw _ _ rfl, State.moveLane_kept _ _ _ _ _ (by
      simp only [List.mem_cons, List.not_mem_nil, or_false, not_or, Reg.AL_STAT, Reg.AL_LANEMAP, Reg.AL_GRP_SPARE_STAT]; omega),
      ← State.fld_hw _ _ rfl]
    exact h7

/-- An event of a link leaves what the link's loss left. -/
theorem AlinkDown.linkEvent {n : Port} {s u : State} (h : AlinkDown n s u) (cause : Nat) : AlinkDown n s (u.linkEvent (.al n) cause) := by
  have hn := n.isLt
  have hp : (u.linkEvent (.al n) cause).ports = u.ports := (State.linkEvent_in ..).same .ports rfl
  refine ⟨?_, by rw [State.port_of_ports hp]; exact h.unack, by rw [State.port_of_ports hp]; exact h.busQ,
    fun m hm => (State.port_of_ports hp m).trans (h.other m hm)⟩
  rw [State.tstate, State.fld_hw _ _ rfl, State.linkEvent_al_kept _ n cause _
    (by simp only [List.mem_singleton, Reg.AL_STAT, Reg.AL_EVENT]; omega)
    (evKey_alink (by simp only [Reg.AL_STAT]; omega) (by simp only [Reg.AL_STAT]; omega)), ← State.fld_hw _ _ rfl]
  exact h.tstate

theorem State.alLoss_down {s : State} {n : Port} (h : s.tstate (.al n) ≠ 0) {cause : Nat} (hc : cause < 256) :
    AlinkDown n s (s.alLoss n cause) ∧ (s.alLoss n cause).fld (Reg.AL_EVENT n) F.AL_EVENT_LAST_LINK = cause := by
  obtain ⟨u, hu, hd⟩ := State.alLoss_spec h cause
  rw [hu]
  exact ⟨hd.linkEvent cause, u.linkEvent_al_code n hc⟩

/-! ## ACK and replay (R252, R253) -/

/-- Cells that none has been sent 9 times are not worn out. -/
theorem worn_again {l : List BusCell} (h : l.all (fun c => decide (c.sends < 9)) = true) :
    worn (l.map fun c => { c with again := true }) = false := by
  simp only [List.all_eq_true, decide_eq_true_eq] at h
  simp only [worn, List.any_eq_false, List.mem_map, Bool.and_eq_true, decide_eq_true_eq, not_and, Nat.not_le]
  rintro _ ⟨c, hc, rfl⟩ -
  exact h c hc

/-- One that has is. -/
theorem worn_again_of_any {l : List BusCell} (h : l.any (fun c => decide (9 ≤ c.sends)) = true) :
    worn (l.map fun c => { c with again := true }) = true := by
  simp only [List.any_eq_true, decide_eq_true_eq] at h
  obtain ⟨c, hc, hs⟩ := h
  simp only [worn, List.any_eq_true, List.mem_map, Bool.and_eq_true, decide_eq_true_eq]
  exact ⟨{ c with again := true }, ⟨c, hc, rfl⟩, rfl, hs⟩

section
variable {s : State} {n : Port} (hup : s.isUp (.al n) = true)
include hup

theorem State.alReplay_eq (hne : (s.port n).unack ≠ []) (hat : (s.port n).ackAt + 4096 ≤ s.ticks) : s.alReplay n =
    (let l := (s.port n).unack.map fun c => { c with again := true }
     let u := s.updPort n fun p => { p with unack := l, ackAt := s.ticks }
     if worn l then u.alLoss n 8 else u) := if_pos ⟨hup, hne, hat⟩

variable {w : Word} (hshut : (s.port n).shut = false) (hq : (s.port n).unack.any (fun c => c.seq == wbits w 9 0) = true)
include hshut hq

theorem State.alAck_ack (hb : w.toNat.testBit 10 = false) : s.alAck n w = s.updPort n fun p =>
    { p with unack := ((s.port n).unack.dropWhile (fun c => c.seq != wbits w 9 0)).drop 1, ackAt := s.ticks } := by
  unfold State.alAck
  rw [if_pos (by simp [hup, hshut])]
  dsimp only
  rw [if_neg (by simp [hb]), ackCells, if_pos hq]
  rfl

theorem State.alAck_nak (hb : w.toNat.testBit 10 = true) : ∃ a : PortRt → Nat, s.alAck n w =
    (let l := ((s.port n).unack.dropWhile (fun c => c.seq != wbits w 9 0)).map fun c => { c with again := true }
     let u := s.updPort n fun p => { p with unack := l, ackAt := a p }
     if worn l then u.alLoss n 8 else u) := by
  unfold State.alAck
  rw [if_pos (by simp [hup, hshut])]
  dsimp only
  rw [if_pos hb]
  simp only [hq, if_true]
  exact ⟨_, rfl⟩

end

theorem exec_ack_al (n : Port) (w : Word) (s : State) : exec (.ack (.al n) w) s = .next (s.alAck n w) := rfl
theorem exec_replayTimeout_al (n : Port) (s : State) : exec (.replayTimeout (.al n)) s = .next (s.alReplay n) := rfl

/-- Settles O22: an ACK, a NAK, a timeout, and a timeout of cells that are worn out. -/
theorem acknowledgementReleasesOrResends : Obligations.AcknowledgementReleasesOrResends := by
  refine ⟨fun s n w hup hshut hb hq => ?_, fun s n w hup hshut hb hq hall => ?_, fun s n hup hne hat hall => ?_,
    fun s n hup hat hany => ?_⟩
  · exact .intro ((exec_ack_al n w s).trans (congrArg _ (State.alAck_ack hup hshut hq hb)))
      ⟨State.port_updPort .., fun m hm => State.port_updPort_other _ _ hm, State.updPort_regs ..⟩
  · obtain ⟨a, ha⟩ := State.alAck_nak hup hshut hq hb
    have hsub : ((s.port n).unack.dropWhile (fun c => c.seq != wbits w 9 0)).all (fun c => decide (c.sends < 9)) = true :=
      List.all_eq_true.2 fun c hc => List.all_eq_true.1 hall c ((List.dropWhile_sublist _).subset hc)
    dsimp only at ha
    rw [worn_again hsub] at ha
    refine .intro ((exec_ack_al n w s).trans (congrArg _ (ha.trans (if_neg Bool.false_ne_true)))) ⟨?_, fun m hm => State.port_updPort_other _ _ hm, State.updPort_regs ..⟩
    exact congrArg PortRt.unack (State.port_updPort ..)
  · have hr := State.alReplay_eq hup hne hat
    dsimp only at hr
    rw [worn_again hall] at hr
    exact .intro ((exec_replayTimeout_al n s).trans (congrArg _ (hr.trans (if_neg Bool.false_ne_true))))
      ⟨State.port_updPort .., fun m hm => State.port_updPort_other _ _ hm, State.updPort_regs ..⟩
  · have hne : (s.port n).unack ≠ [] := by
      intro h
      rw [h] at hany
      cases hany
    have hr := State.alReplay_eq hup hne hat
    dsimp only at hr
    rw [worn_again_of_any hany, if_pos rfl] at hr
    have ht : (s.updPort n fun p => { p with unack := (s.port n).unack.map fun c => { c with again := true }, ackAt := s.ticks }).tstate
        (.al n) ≠ 0 := by
      have h5 : s.tstate (.al n) = 5 := by simpa [State.isUp] using hup
      rw [State.tstate, State.updPort_fld]
      exact fun h => absurd (h5.symm.trans h) (by decide)
    obtain ⟨hd, hcode⟩ := State.alLoss_down ht (cause := 8) (by decide)
    exact .intro ((exec_replayTimeout_al n s).trans (congrArg _ hr)) ⟨hd.tstate, hd.unack, hd.busQ, hcode⟩

end Sys2Proof.Machine
end

section
/-! SUPPORT. Umger's commands of the A-links (O27). -/

namespace Sys2Proof.Machine

set_option Elab.async false

/-! ## Umger's commands of the A-links (R266, R401) -/

/-- A reply depends on Umger's own work alone. -/
theorem State.reply_um_congr {s u : State} (hum : u.um = s.um) (h : UmHdr) (op st : Nat) (res : List Byte) :
    (u.reply h op st res).um = (s.reply h op st res).um := by
  unfold State.reply State.post
  split
  · exact hum
  · simp only [State.updUm_um, hum]

/-- It leaves the ports as they are. -/
theorem State.reply_port (s : State) (h : UmHdr) (op st : Nat) (res : List Byte) (m : Nat) : (s.reply h op st res).port m = s.port m :=
  State.port_of_ports (State.reply_ports ..) m

theorem State.addCtl_um (s : State) (n : Nat) (c : Ctl) : (s.addCtl n c).um = s.um := State.updPort_um ..

section
variable {s : State} {n l ph : Nat} (h : (s.port n).swap = none)
include h

theorem State.startSwap_eq : s.startSwap n l ph = (s.updPort n fun p => { p with swap := some ⟨l, ph, s.ticks, none⟩ }).addCtl n (.spare 0 l ph) :=
  if_neg (by simp [h])

theorem State.startSwap_swap : ((s.startSwap n l ph).port n).swap = some ⟨l, ph, s.ticks, none⟩ := by
  rw [State.startSwap_eq h, State.port_addCtl, State.port_updPort]

theorem State.startSwap_other : OtherPortsKept n s (s.startSwap n l ph) := by
  intro m hm
  rw [State.startSwap_eq h, State.port_addCtl_other _ _ _ hm, State.port_updPort_other _ _ hm]

end

/-- Settles O27: each command's answer, and what it starts. -/
theorem alinkManagementCommandsAnswer : Obligations.AlinkManagementCommandsAnswer := by
  refine ⟨fun s h p n hc hp ht => ?_, fun s h p n hc hp => ?_, fun s h p n hc hp hl hph hsw => ?_, fun s h p n hc hp hup => ?_,
    fun s h p n hc hp hl => ?_⟩ <;> have hn : leAt p 0 1 < 96 := hp ▸ n.isLt
  · obtain ⟨hd, hcode⟩ := State.alLoss_down ht (cause := 5) (by decide)
    have hfin : (⟨leAt p 0 1, hn⟩ : Port) = n := Fin.ext hp
    refine .intro ?_ ⟨s.alLoss n 5, rfl, hd.tstate, hd.unack, hd.busQ, hcode, hd.other⟩
    show execAlRetrain h p s = _
    unfold execAlRetrain
    rw [State.umRun_eq hc, dif_pos hn, hfin]
  · refine .intro (t := s.reply h 0x0401 stOK (([Reg.AL_STAT n, Reg.AL_EVENT n, Reg.AL_RTD n, Reg.AL_OWD n] ++ alCounters n).flatMap
      (fun k => leBytes 4 (s.busWord k)))) ?_ rfl
    show execAlStatus h p s = _
    unfold execAlStatus
    rw [State.umRun_eq hc, ← hp]
    exact congrArg _ (if_neg (by omega))
  · refine .intro (t := (s.startSwap n (leAt p 1 1) (leAt p 2 1)).reply h 0x0402 stOK []) ?_ ⟨?_, ?_, ?_, fun m hm => ?_⟩
    · show execAlSpare h p s = _
      unfold execAlSpare
      rw [State.umRun_eq hc, hp]
      exact congrArg _ (if_neg (by simp [hsw, hph]; omega))
    · refine State.reply_um_congr ?_ _ _ _ _
      rw [State.startSwap_eq hsw, State.addCtl_um, State.updPort_um]
    · rw [State.reply_port, State.startSwap_swap hsw]
    · rw [State.reply_port, State.startSwap_eq hsw]
      exact State.mem_addCtl _ _ _
    · rw [State.reply_port, State.startSwap_other hsw m hm]
  · have hfin : (⟨leAt p 0 1, hn⟩ : Port) = n := Fin.ext hp
    refine .intro (t := (s.addCtl n .dlyReq).reply h 0x0403 stOK []) ?_ ⟨?_, ?_, fun m hm => ?_⟩
    · show execAlCal h p s = _
      unfold execAlCal
      rw [State.umRun_eq hc, dif_pos hn, hfin, if_pos hup, hp]
    · exact State.reply_um_congr (State.addCtl_um ..) _ _ _ _
    · rw [State.reply_port]
      exact State.mem_addCtl _ _ _
    · rw [State.reply_port, State.port_addCtl_other _ _ _ hm]
  · refine .intro (t := s.reply h 0x0404 stOK (leBytes 4 ((s.ledger n (leAt p 1 1) (leAt p 2 2)).toNat / 2 ^ 32) ++
      leBytes 4 ((s.ledger n (leAt p 1 1) (leAt p 2 2)).toNat % 2 ^ 32))) ?_ rfl
    show execAlLedger h p s = _
    unfold execAlLedger
    rw [State.umRun_eq hc, hp]
    exact congrArg _ (if_neg (by omega))

end Sys2Proof.Machine
end

section
/-! SUPPORT. Training of links (R254, R261), and the checks of a port that fall due (R250, R256, R257, R263). -/

namespace Sys2Proof.Machine

set_option Elab.async false

/-! ## Training of both kinds of link (R254, R261, R409) -/

theorem evKey_linkStat (e : LinkEnd) : evKey (linkStat e) = false := by
  cases e with
  | al n => exact evKey_alink (by simp only [linkStat, Reg.AL_STAT]; omega) (by simp only [linkStat, Reg.AL_STAT]; omega)
  | cl x => exact evKey_below (by simp only [linkStat, Reg.CL_PORT_STAT]; omega)

theorem evKey_linkFails (e : LinkEnd) : evKey (linkFails e) = false := by
  cases e with
  | al n => exact evKey_alink (by simp only [linkFails, Reg.AL_TRAINFAIL]; omega) (by simp only [linkFails, Reg.AL_TRAINFAIL]; omega)
  | cl x => exact evKey_below (by simp only [linkFails, Reg.CL_PORT_TRAINFAIL]; omega)

/-- The three registers of a link are three. -/
theorem link_registers_ne (e : LinkEnd) :
    linkStat e ≠ linkEvents e ∧ linkStat e ≠ linkFails e ∧ linkFails e ≠ linkEvents e := by
  cases e with
  | al n => simp only [linkStat, linkEvents, linkFails, Reg.AL_STAT, Reg.AL_EVENT, Reg.AL_TRAINFAIL]; omega
  | cl x => simp only [linkStat, linkEvents, linkFails, Reg.CL_PORT_STAT, Reg.TW_EVENT, Reg.CL_PORT_TRAINFAIL]; omega

/-- The field TSTATE of a link's status register. -/
def tstateFld : LinkEnd → Fld
  | .al _ => F.AL_STAT_TSTATE
  | .cl _ => F.CL_PORT_STAT_TSTATE

theorem tstateFld_spec (e : LinkEnd) : tstateFld e = ⟨24, 4, false⟩ := by cases e <;> rfl

section
variable (s : State) (e : LinkEnd)

theorem State.tstate_eq : s.tstate e = (tstateFld e).get (s.rdW (linkStat e)) := by
  cases e with
  | al n => exact State.fld_hw _ _ rfl
  | cl x => exact State.fld_hw _ _ rfl

theorem State.tstate_of_rdW {s t : State} {e : LinkEnd} (h : t.rdW (linkStat e) = s.rdW (linkStat e)) : t.tstate e = s.tstate e := by
  rw [State.tstate_eq, State.tstate_eq, h]

theorem State.train_al (n : Port) : s.train (.al n) = (s.port n).train := rfl

theorem State.train_updTrain (f : TrainRt → TrainRt) : (s.updTrain e f).train e = f (s.train e) := by
  cases e with
  | al n => exact congrArg PortRt.train (State.port_updPort ..)
  | cl x => exact congrArg ClRt.train (State.clp_updCl ..)

theorem State.train_of {s t : State} (hp : t.ports = s.ports) (hc : t.cl = s.cl) (e : LinkEnd) : t.train e = s.train e := by
  cases e with
  | al n => exact congrArg PortRt.train (State.port_of_ports hp n)
  | cl x => exact congrArg ClRt.train (State.clp_of_cl hc x)

variable {v : Nat}

theorem State.setTstate_eq : s.setTstate e v =
    (s.updTrain e fun t => { t with since := s.ticks }).setFld (linkStat e) (tstateFld e) v := by
  cases e <;> rfl

theorem State.rdW_setTstate : (s.setTstate e v).rdW (linkStat e) = (tstateFld e).put (s.rdW (linkStat e)) v := by
  rw [State.setTstate_eq, State.rdW_setFld, State.rdW_of_regs (State.updTrain_regs ..)]

theorem State.tstate_setTstate (hv : v < 16) : (s.setTstate e v).tstate e = v := by
  rw [State.tstate_eq, State.rdW_setTstate, tstateFld_spec, Fld.get_put _ _ _ (by decide)]
  exact Nat.mod_eq_of_lt hv

theorem State.setTstate_kept : RegsKept [linkStat e] s (s.setTstate e v) := by
  rw [State.setTstate_eq]
  exact (RegsKept.of_regs _ (State.updTrain_regs ..)).trans (.setFld _ _ _ (List.mem_singleton_self _))

theorem State.train_setTstate : (s.setTstate e v).train e = { s.train e with since := s.ticks } := by
  rw [State.setTstate_eq, State.train_of (State.setFld_ports ..) (State.setFld_cl ..), State.train_updTrain]

/-- Fields of the status register beside TSTATE stay. -/
theorem State.setTstate_field {g : Fld} (hg : g.rwg = false) (h : g.lo + g.wid ≤ 24 ∨ 28 ≤ g.lo) :
    (s.setTstate e v).fld (linkStat e) g = s.fld (linkStat e) g := by
  rw [State.fld_hw _ _ hg, State.fld_hw _ _ hg, State.rdW_setTstate, tstateFld_spec,
    Fld.get_put_other ⟨24, 4, false⟩ g _ _ (h.symm)]

/-! ## Events of both kinds of link (R265, R439) -/

theorem State.linkEvent_cl (x : ClPort) (code : Nat) : s.linkEvent (.cl x) code = s.evTw 8 := rfl

theorem State.evTw_occurred {i : Nat} (hi : i < 16) : OccurredBit (584 + i) Reg.TW_EVENT i s (s.evTw i) :=
  State.occurredBit s (by omega) (by omega) (by omega) none (by decide) (by decide)

theorem State.linkEvent_occurred (code : Nat) : LinkOccurred e 0 s (s.linkEvent e code) := by
  cases e with
  | al n => exact s.linkEvent_al_occurred n code
  | cl x => exact s.evTw_occurred (i := 8) (by decide)

theorem State.linkEvent_kept (code : Nat) : RegsKeptEv [linkEvents e] s (s.linkEvent e code) := by
  cases e with
  | al n => exact s.linkEvent_al_kept n code
  | cl x => exact RegsKeptEv.occurBit _ _ (by decide) _ _ (List.mem_singleton_self _)

end

/-- A change before an event of a link, or one after it, which writes neither the counts nor the domains nor the event. -/
theorem LinkOccurred.before {e : LinkEnd} {v : Nat} {s s' t : State} (h : LinkOccurred e v s' t) (hv : v < 3) {ks : List Nat}
    (hk : RegsKept ks s s') (hks : ∀ k ∈ ks, evKey k = false ∧ k ≠ Reg.PW_ON) : LinkOccurred e v s t := by
  have hcnt : ∀ i < 1024, s'.rdW (Reg.EV_CNT i) = s.rdW (Reg.EV_CNT i) :=
    fun i hi => hk _ fun hm => absurd (evKey_evCnt hi) (by rw [(hks _ hm).1]; decide)
  have hon : s'.rdW Reg.PW_ON = s.rdW Reg.PW_ON := hk _ fun hm => (hks _ hm).2 rfl
  cases e with
  | al n => exact OccurredBit.before h hon (hcnt _ (by have := n.isLt; omega))
  | cl x => exact OccurredBit.before h hon (hcnt _ (by omega))

theorem LinkOccurred.of_regs {e : LinkEnd} {v : Nat} {s t t' : State} (h : LinkOccurred e v s t) (hr : t'.regs = t.regs) :
    LinkOccurred e v s t' := by
  cases e with
  | al n => exact OccurredBit.of_regs h hr
  | cl x => exact OccurredBit.of_regs h hr

theorem linkStat_ne_on (e : LinkEnd) : linkStat e ≠ Reg.PW_ON ∧ linkFails e ≠ Reg.PW_ON := by
  cases e with
  | al n => simp only [linkStat, linkFails, Reg.AL_STAT, Reg.AL_TRAINFAIL, Reg.PW_ON]; omega
  | cl x => simp only [linkStat, linkFails, Reg.CL_PORT_STAT, Reg.CL_PORT_TRAINFAIL, Reg.PW_ON]; omega

/-! ## A training that fails (R254, R261) -/

/-- What a failed training leaves before its event: it is counted, and the next one waits. -/
structure TrainFailed (e : LinkEnd) (s u : State) : Prop where
  tstate : u.tstate e = 0
  fails : (u.train e).fails = (s.train e).fails + 1
  retryAt : (u.train e).retryAt = some (s.ticks + 1966080)
  counted : Counted (linkFails e) s u
  kept : RegsKept [linkStat e, linkFails e] s u

/-- The training of a link taken back to Down, before the rest of its port. -/
def State.trainDown (s : State) (e : LinkEnd) : State :=
  let s := s.setTstate e 0
  s.updTrain e (fun t => { t with fails := t.fails + 1, retryAt := some (s.ticks + 1966080), good := 0, bad := 0, farLock := false,
                                  farDone := 0 })

section
variable (s : State) (e : LinkEnd)

theorem State.trainDown_tstate : (s.trainDown e).tstate e = 0 :=
  (State.tstate_of_rdW (State.rdW_of_regs (State.updTrain_regs ..) _)).trans (s.tstate_setTstate e (by decide))

theorem State.setTstate_ticks (v : Nat) : (s.setTstate e v).ticks = s.ticks := by
  rw [State.setTstate_eq, State.setFld_ticks]
  cases e <;> rfl

theorem State.trainDown_train : (s.trainDown e).train e = { s.train e with
    since := s.ticks, fails := (s.train e).fails + 1, retryAt := some (s.ticks + 1966080), good := 0, bad := 0, farLock := false,
    farDone := 0 } := by
  unfold State.trainDown
  dsimp only
  rw [State.train_updTrain, State.train_setTstate, State.setTstate_ticks]

theorem State.trainDown_kept : RegsKept [linkStat e] s (s.trainDown e) :=
  (s.setTstate_kept e).trans (.of_regs _ (State.updTrain_regs ..))

/-- The count of failures, after the state is Down. -/
theorem State.trainDown_counted {u : State} (h : u.rdW (linkFails e) = ((s.trainDown e).cnt (linkFails e)).rdW (linkFails e)) :
    Counted (linkFails e) s u := by
  have hne : linkFails e ∉ [linkStat e] := by simpa using (link_registers_ne e).2.1.symm
  rw [Counted, h, State.rdW_cnt, s.trainDown_kept e _ hne]

end

/-- The rest of a link that has gone Down from training: the failure is counted, and nothing waits to be sent. -/
def State.portDown (s : State) : LinkEnd → State
  | .al n => ((((s.cnt (Reg.AL_TRAINFAIL n)).setFld (Reg.AL_STAT n) F.AL_STAT_CDR0 0).setFld (Reg.AL_STAT n) F.AL_STAT_CDR1 0).setFld
      (Reg.AL_STAT n) F.AL_STAT_FRAME_LOCK 0).updPort n fun p =>
        { p with rx := [], tx := [], calOut := [], calRun := 0, calOk := false, syncAt := none, ctl := [], shut := false }
  | .cl x => (s.cnt (Reg.CL_PORT_TRAINFAIL x)).updCl x fun c => { c with calWait := false, ctl := [], shut := false }

theorem State.trainFail_al (s : State) (n : Port) : s.trainFail (.al n) =
    if (((s.trainDown (.al n)).portDown (.al n)).train (.al n)).fails % 16 = 1
      then ((s.trainDown (.al n)).portDown (.al n)).linkEvent (.al n) 6 else (s.trainDown (.al n)).portDown (.al n) := rfl

theorem State.trainFail_cl (s : State) (x : ClPort) : s.trainFail (.cl x) = (s.trainDown (.cl x)).portDown (.cl x) := rfl

section
variable (s : State) (e : LinkEnd)

theorem State.portDown_tstate : (s.portDown e).tstate e = s.tstate e := by
  have hne := (link_registers_ne e).2.1
  cases e with
  | al n =>
    rw [State.tstate, State.portDown, State.updPort_fld, State.fld_setFld_other _ _ _ _ _ (by decide),
      State.fld_setFld_other _ _ _ _ _ (by decide), State.fld_setFld_other _ _ _ _ _ (by decide)]
    exact State.tstate_of_rdW (e := .al n) (State.rdW_cnt_other _ hne)
  | cl x =>
    rw [State.tstate, State.portDown, State.updCl_fld]
    exact State.tstate_of_rdW (e := .cl x) (State.rdW_cnt_other _ hne)

theorem State.portDown_train : ((s.portDown e).train e) = s.train e := by
  cases e with
  | al n =>
    rw [State.train, State.portDown, State.port_updPort]
    exact State.train_of (by rw [State.setFld_ports, State.setFld_ports, State.setFld_ports, State.cnt_ports])
      (by rw [State.setFld_cl, State.setFld_cl, State.setFld_cl, State.cnt_cl]) (.al n)
  | cl x =>
    rw [State.train, State.portDown, State.clp_updCl]
    exact State.train_of (State.cnt_ports ..) (State.cnt_cl ..) (.cl x)

theorem State.portDown_fails : (s.portDown e).rdW (linkFails e) = (s.cnt (linkFails e)).rdW (linkFails e) := by
  have hne := (link_registers_ne e).2.1.symm
  cases e with
  | al n =>
    rw [State.portDown, State.updPort_rdW]
    exact (State.rdW_setFld_other _ _ _ hne).trans ((State.rdW_setFld_other _ _ _ hne).trans (State.rdW_setFld_other _ _ _ hne))
  | cl x => exact State.updCl_rdW ..

theorem State.portDown_kept : RegsKept [linkStat e, linkFails e] s (s.portDown e) := by
  have hcnt : RegsKept [linkStat e, linkFails e] s (s.cnt (linkFails e)) := .wrW _ _ (by simp)
  cases e with
  | al n =>
    exact hcnt.trans ((RegsKept.setFld _ _ _ (by simp [linkStat])).trans ((RegsKept.setFld _ _ _ (by simp [linkStat])).trans
      ((RegsKept.setFld _ _ _ (by simp [linkStat])).trans (.of_regs _ (State.updPort_regs ..)))))
  | cl x => exact hcnt.trans (.of_regs _ (State.updCl_regs ..))

theorem State.trainDown_failed : TrainFailed e s ((s.trainDown e).portDown e) where
  tstate := (State.portDown_tstate ..).trans (s.trainDown_tstate e)
  fails := by rw [State.portDown_train, State.trainDown_train]
  retryAt := by rw [State.portDown_train, State.trainDown_train]
  counted := s.trainDown_counted e (State.portDown_fails ..)
  kept := RegsKept.trans (fun k hk => s.trainDown_kept e k fun h => hk (by rw [List.mem_singleton.1 h]; simp))
    (State.portDown_kept _ e)

end

/-- A failed training with the event that every sixteenth one is. -/
theorem State.trainFail_failed (s : State) (e : LinkEnd) : (s.trainFail e).tstate e = 0 ∧
    ((s.trainFail e).train e).fails = (s.train e).fails + 1 ∧ ((s.trainFail e).train e).retryAt = some (s.ticks + 1966080) ∧
    Counted (linkFails e) s (s.trainFail e) ∧ RegsKeptEv [linkStat e, linkEvents e, linkFails e] s (s.trainFail e) := by
  have h := s.trainDown_failed e
  obtain ⟨hne, -, hne'⟩ := link_registers_ne e
  have hu : RegsKeptEv [linkStat e, linkEvents e, linkFails e] s ((s.trainDown e).portDown e) := h.kept.ev.mono (by simp)
  generalize hu' : (s.trainDown e).portDown e = u at h hu
  have hev : (u.linkEvent e 6).tstate e = 0 ∧ ((u.linkEvent e 6).train e) = u.train e ∧
      Counted (linkFails e) s (u.linkEvent e 6) ∧ RegsKeptEv [linkStat e, linkEvents e, linkFails e] s (u.linkEvent e 6) := by
    refine ⟨?_, State.train_of ((State.linkEvent_in ..).same .ports rfl) ((State.linkEvent_in ..).same .cl rfl) e, ?_,
      hu.trans ((u.linkEvent_kept e 6).mono (by simp))⟩
    · rw [State.tstate_of_rdW (u.linkEvent_kept e 6 _ (by simpa using hne) (evKey_linkStat e)), h.tstate]
    · exact (u.linkEvent_kept e 6 _ (by simpa using hne') (evKey_linkFails e)).trans h.counted
  cases e with
  | al n =>
    rw [State.trainFail_al, hu']
    split
    · exact ⟨hev.1, by rw [hev.2.1, h.fails], by rw [hev.2.1, h.retryAt], hev.2.2⟩
    · exact ⟨h.tstate, h.fails, h.retryAt, h.counted, hu⟩
  | cl x =>
    rw [State.trainFail_cl, hu']
    exact ⟨h.tstate, h.fails, h.retryAt, h.counted, hu⟩

/-! ## Checks of a port (R250, R256, R257, R263) -/

section
variable (n : Nat) (ks : List Nat)

theorem State.markLate_ports (s : State) : (s.markLate n ks).regs = s.regs ∧ (s.markLate n ks).gen = s.gen :=
  ⟨(State.markLate_in ..).same .regs rfl, (State.markLate_in ..).same .gen rfl⟩

theorem State.markLate_other {m : Nat} (h : m ≠ n) : ∀ s : State, (s.markLate n ks).port m = s.port m := by
  induction ks with
  | nil => exact fun _ => rfl
  | cons k ks ih => exact fun s => (ih _).trans (s.port_updRx_other n k _ h)

/-- A class that is overdue stays so … -/
theorem State.markLate_mono {k : Nat} : ∀ s : State, (s.crRx n k).late = true → ((s.markLate n ks).crRx n k).late = true := by
  induction ks with
  | nil => exact fun _ h => h
  | cons j ks ih =>
    intro s h
    refine ih _ ?_
    by_cases hjk : k = j
    · rw [hjk, State.crRx_updRx]
    · rw [State.crRx, State.updRx, State.port_updPort, SMap.get_upd_other _ _ _ hjk]
      exact h

/-- … and every one of the list becomes so. -/
theorem State.markLate_late : ∀ s : State, ∀ k ∈ ks, ((s.markLate n ks).crRx n k).late = true := by
  induction ks with
  | nil => exact fun _ _ h => absurd h List.not_mem_nil
  | cons j ks ih =>
    intro s k hk
    rcases List.mem_cons.1 hk with rfl | hk
    · exact State.markLate_mono n ks _ (by rw [State.crRx_updRx])
    · exact ih _ k hk

end

section
variable {s : State} {n : Port}

/-- A port's error or timing event leaves its status register. -/
theorem State.alStat_linkErr (code : Nat) : (s.linkErr (.al n) code).rdW (Reg.AL_STAT n) = s.rdW (Reg.AL_STAT n) :=
  s.linkErr_al_kept n code _ (fun h => (link_registers_ne (.al n)).1 (List.mem_singleton.1 h)) (evKey_linkStat (.al n))

theorem State.alStat_linkTiming (code : Nat) : (s.linkTiming (.al n) code).rdW (Reg.AL_STAT n) = s.rdW (Reg.AL_STAT n) :=
  s.linkTiming_al_kept n code _ (fun h => (link_registers_ne (.al n)).1 (List.mem_singleton.1 h)) (evKey_linkStat (.al n))

theorem execAuditLate_completes (h : s.overdue n ≠ []) :
    Completes (.auditLate n) s fun t => t.fld (Reg.AL_STAT n) F.AL_STAT_AUDIT_LATE = 1 ∧
      (∀ k ∈ s.overdue n, (t.crRx n k).late = true) ∧
      OccurredBit (3 * n + 1) (Reg.AL_EVENT n) 1 s t ∧ t.fld (Reg.AL_EVENT n) F.AL_EVENT_LAST_ERR = 7 ∧
      (∀ m, m ≠ n.val → t.port m = s.port m) ∧ RegsKeptEv [Reg.AL_STAT n, Reg.AL_EVENT n] s t := by
  have hn := n.isLt
  obtain ⟨hregs, -⟩ := State.markLate_ports n (s.overdue n) s
  have hkept : RegsKept [Reg.AL_STAT n] s ((s.markLate n (s.overdue n)).setFld (Reg.AL_STAT n) F.AL_STAT_AUDIT_LATE 1) :=
    (RegsKept.of_regs _ hregs).trans (.setFld _ _ _ (List.mem_singleton_self _))
  have hports : (((s.markLate n (s.overdue n)).setFld (Reg.AL_STAT n) F.AL_STAT_AUDIT_LATE 1).linkErr (.al n) 7).ports =
      (s.markLate n (s.overdue n)).ports := (State.linkErr_ports ..).trans (State.setFld_ports ..)
  refine .intro (t := ((s.markLate n (s.overdue n)).setFld (Reg.AL_STAT n) F.AL_STAT_AUDIT_LATE 1).linkErr (.al n) 7) ?_
    ⟨?_, fun k hk => ?_, ?_, State.linkErr_al_code _ n (by decide), fun m hm => ?_, ?_⟩
  · show execAuditLate n s = _
    unfold execAuditLate
    split
    next hnil => exact absurd hnil h
    · rfl
  · rw [State.fld_hw _ _ rfl, State.alStat_linkErr,
      State.rdW_setFld, Fld.get_put _ _ _ (by decide)]
    rfl
  · rw [State.crRx_of_ports n k hports]
    exact State.markLate_late n _ s k hk
  · obtain ⟨hon, hcnt⟩ := hkept.alink (by simp only [List.mem_singleton, forall_eq, Reg.AL_STAT]; omega) (i := 3 * n + 1) (by omega)
    exact (State.linkErr_al_occurred _ n 7).before hon hcnt
  · rw [State.port_of_ports hports, State.markLate_other n _ hm]
  · exact (hkept.ev.mono (by simp)).trans ((State.linkErr_al_kept _ n 7).mono (by simp))

/-- Requests that none has answered, none is settled. -/
theorem settleCal_unanswered {rest : List (Nat × Nat × Bool)} (h : rest.all (fun e => !e.2.2) = true) (run : Nat) :
    settleCal rest run = (rest, run) := by
  rcases rest with _ | ⟨⟨id, t, ans⟩, rest⟩
  · rfl
  · have hans : ans = false := by simpa using (List.all_eq_true.1 h) _ (List.mem_cons_self ..)
    rw [hans]
    rfl

/-- The answer to the oldest request, with those behind it unanswered. -/
theorem settleCal_answered {rest : List (Nat × Nat × Bool)} {id sent : Nat} (h : rest.all (fun e => e.1 != id && !e.2.2) = true)
    (run : Nat) : settleCal (((id, sent, false) :: rest).map fun e => if e.1 = id then (e.1, e.2.1, true) else e) run = (rest, 0) := by
  have hall : ∀ e ∈ rest, e.1 ≠ id ∧ e.2.2 = false := by simpa using h
  have hmap : (rest.map fun e => if e.1 = id then (e.1, e.2.1, true) else e) = rest :=
    (List.map_congr_left fun e he => if_neg (hall e he).1).trans (List.map_id' rest)
  rw [List.map_cons, hmap, if_pos rfl]
  exact settleCal_unanswered (by simpa using fun e he => (hall e he).2) 0

/-- A measured round trip, before its comparison with the one before (R256). -/
def State.calMeasured (s : State) (n : Port) (id rtt : Nat) (owd : Int) : State :=
  ((((s.setFld (Reg.AL_RTD n) F.AL_RTD_RTT rtt).setFld (Reg.AL_OWD n) F.AL_OWD_OWD (uInt 32 owd)).setFld (Reg.AL_STAT n)
    F.AL_STAT_CAL_STALE 0).updPort n (fun p => PortRt.settle
      { p with calOut := p.calOut.map (fun e => if e.1 = id then (e.1, e.2.1, true) else e), calOk := true, calEver := true,
               owdUp := (rtt : Int) - owd })).addCtl n .sync

theorem uInt_lt (m : Nat) (v : Int) : uInt m v < 2 ^ m := by
  have hpos : (0 : Int) < ((2 ^ m : Nat) : Int) := by positivity
  have hlt := Int.emod_lt_of_pos v hpos
  have hge := Int.emod_nonneg v hpos.ne'
  unfold uInt
  omega

section
variable {w : Word} {ago sent rtt : Nat} {owd : Int} {rest : List (Nat × Nat × Bool)}

theorem State.alDlyRsp_eq (hout : (s.port n).calOut = (wbits w 47 32, sent, false) :: rest) (hlive : s.wordsLive n = true)
    (hrtt : rtt = uInt 32 (((s.ticks : Int) - sent) * 65536 - ago - s.rxDelay n - (wbits w 31 0 : Nat)))
    (howd : owd = sNat 32 (uInt 32 (rnd rtt 1 0 + sNat 32 (s.fld (Reg.AL_ASYM n) F.AL_ASYM_ASYM)))) :
    s.alDlyRsp n w ago = if ((s.port n).calEver && decide (s.fld (Reg.AL_CALTOL n) F.AL_CALTOL_TOL <
        (owd - sNat 32 (s.fld (Reg.AL_OWD n) F.AL_OWD_OWD)).natAbs)) = true
      then (s.calMeasured n (wbits w 47 32) rtt owd).linkTiming (.al n) 1 else s.calMeasured n (wbits w 47 32) rtt owd := by
  have hfind : (s.port n).calOut.find? (fun e => e.1 == wbits w 47 32 && !e.2.2) = some (wbits w 47 32, sent, false) := by
    rw [hout]
    simp
  have hr : uInt 32 ((s.ticks : Int) * 65536 - ago - s.rxDelay n - (sent : Int) * 65536 - (wbits w 31 0 : Nat)) = rtt := by
    rw [hrtt]
    exact congrArg (uInt 32) (by ring)
  unfold State.alDlyRsp
  dsimp only
  rw [hfind]
  dsimp only
  rw [if_pos hlive, hr, show sNat 32 (uInt 32 (halfEven rtt + sNat 32 (s.fld (Reg.AL_ASYM n) F.AL_ASYM_ASYM))) = owd from howd.symm]
  rfl

theorem State.calMeasured_kept (id : Nat) : RegsKept [Reg.AL_RTD n, Reg.AL_OWD n, Reg.AL_STAT n] s (s.calMeasured n id rtt owd) := by
  unfold State.calMeasured
  exact (RegsKept.setFld s _ _ (by simp)).trans ((RegsKept.setFld _ _ _ (by simp)).trans ((RegsKept.setFld _ _ _ (by simp)).trans
    ((RegsKept.of_regs _ (State.updPort_regs ..)).trans (.of_regs _ (State.updPort_regs ..)))))

theorem State.calMeasured_rdW (id k : Nat) : (s.calMeasured n id rtt owd).rdW k = (((s.setFld (Reg.AL_RTD n) F.AL_RTD_RTT rtt).setFld
    (Reg.AL_OWD n) F.AL_OWD_OWD (uInt 32 owd)).setFld (Reg.AL_STAT n) F.AL_STAT_CAL_STALE 0).rdW k := by
  unfold State.calMeasured State.addCtl
  rw [State.updPort_rdW, State.updPort_rdW]

/-- What the measurement leaves in the registers: the round trip, the delay, and that the calibration is not stale. -/
theorem State.calMeasured_fields (id : Nat) (hr : rtt < 2 ^ 32) :
    (s.calMeasured n id rtt owd).fld (Reg.AL_RTD n) F.AL_RTD_RTT = rtt ∧
    (s.calMeasured n id rtt owd).fld (Reg.AL_OWD n) F.AL_OWD_OWD = uInt 32 owd ∧
    (s.calMeasured n id rtt owd).fld (Reg.AL_STAT n) F.AL_STAT_CAL_STALE = 0 := by
  have h1 : Reg.AL_RTD n ≠ Reg.AL_OWD n ∧ Reg.AL_RTD n ≠ Reg.AL_STAT n ∧ Reg.AL_OWD n ≠ Reg.AL_STAT n := by
    simp only [Reg.AL_RTD, Reg.AL_OWD, Reg.AL_STAT]
    omega
  obtain ⟨h1, h2, h3⟩ := h1
  refine ⟨?_, ?_, ?_⟩
  · rw [State.fld_hw _ _ rfl, State.calMeasured_rdW, State.rdW_setFld_other _ _ _ h2, State.rdW_setFld_other _ _ _ h1,
      State.rdW_setFld, Fld.get_put _ _ _ (by decide)]
    exact Nat.mod_eq_of_lt hr
  · rw [State.fld_hw _ _ rfl, State.calMeasured_rdW, State.rdW_setFld_other _ _ _ h3, State.rdW_setFld, Fld.get_put _ _ _ (by decide)]
    exact Nat.mod_eq_of_lt (uInt_lt 32 owd)
  · rw [State.fld_hw _ _ rfl, State.calMeasured_rdW, State.rdW_setFld, Fld.get_put _ _ _ (by decide), Nat.zero_mod]

/-- What it leaves of the port: the request is answered, and TL_SYNC is to be sent. -/
theorem State.calMeasured_port {id : Nat} (hout : (s.port n).calOut = (id, sent, false) :: rest)
    (hrest : rest.all (fun e => e.1 != id && !e.2.2) = true) :
    ((s.calMeasured n id rtt owd).port n).calRun = 0 ∧ ((s.calMeasured n id rtt owd).port n).calOut = rest ∧
    ((s.calMeasured n id rtt owd).port n).calOk = true ∧ ((s.calMeasured n id rtt owd).port n).owdUp = (rtt : Int) - owd ∧
    .sync ∈ ((s.calMeasured n id rtt owd).port n).ctl ∧ OtherPortsKept n s (s.calMeasured n id rtt owd) := by
  have hp : ((((s.setFld (Reg.AL_RTD n) F.AL_RTD_RTT rtt).setFld (Reg.AL_OWD n) F.AL_OWD_OWD (uInt 32 owd)).setFld (Reg.AL_STAT n)
      F.AL_STAT_CAL_STALE 0)).ports = s.ports := by
    rw [State.setFld_ports, State.setFld_ports, State.setFld_ports]
  have hsettle := settleCal_answered hrest (sent := sent) (s.port n).calRun
  refine ⟨?_, ?_, ?_, ?_, State.mem_addCtl _ _ _, fun m hm => ?_⟩
  · rw [State.calMeasured, State.port_addCtl, State.port_updPort, State.port_of_ports hp, PortRt.settle, hout, hsettle]
  · rw [State.calMeasured, State.port_addCtl, State.port_updPort, State.port_of_ports hp, PortRt.settle, hout, hsettle]
  · rw [State.calMeasured, State.port_addCtl, State.port_updPort, PortRt.settle]
  · rw [State.calMeasured, State.port_addCtl, State.port_updPort, PortRt.settle]
  · rw [State.calMeasured, State.port_addCtl_other _ _ _ hm, State.port_updPort_other _ _ hm, State.port_of_ports hp]

theorem execDlyRsp_completes (hout : (s.port n).calOut = (wbits w 47 32, sent, false) :: rest)
    (hrest : rest.all (fun e => e.1 != wbits w 47 32 && !e.2.2) = true) (hlive : s.wordsLive n = true)
    (hrtt : rtt = uInt 32 (((s.ticks : Int) - sent) * 65536 - ago - s.rxDelay n - (wbits w 31 0 : Nat)))
    (howd : owd = sNat 32 (uInt 32 (rnd rtt 1 0 + sNat 32 (s.fld (Reg.AL_ASYM n) F.AL_ASYM_ASYM)))) :
    Completes (.dlyRsp (.al n) w ago) s fun t => t.fld (Reg.AL_RTD n) F.AL_RTD_RTT = rtt ∧
      t.fld (Reg.AL_OWD n) F.AL_OWD_OWD = uInt 32 owd ∧ t.fld (Reg.AL_STAT n) F.AL_STAT_CAL_STALE = 0 ∧
      (t.port n).calRun = 0 ∧ (t.port n).calOut = rest ∧ (t.port n).calOk = true ∧ (t.port n).owdUp = (rtt : Int) - owd ∧ .sync ∈ (t.port n).ctl ∧
      ((s.port n).calEver = true → s.fld (Reg.AL_CALTOL n) F.AL_CALTOL_TOL <
          (owd - sNat 32 (s.fld (Reg.AL_OWD n) F.AL_OWD_OWD)).natAbs →
        OccurredBit (3 * n + 2) (Reg.AL_EVENT n) 2 s t ∧ t.fld (Reg.AL_EVENT n) F.AL_EVENT_LAST_TIMING = 1) ∧
      (∀ m, m ≠ n.val → t.port m = s.port m) ∧
      RegsKeptEv [Reg.AL_RTD n, Reg.AL_OWD n, Reg.AL_STAT n, Reg.AL_EVENT n] s t := by
  have hn := n.isLt
  obtain ⟨hrtd, howdf, hstale⟩ := State.calMeasured_fields (s := s) (n := n) (owd := owd) (wbits w 47 32) (hrtt ▸ uInt_lt 32 _)
  obtain ⟨hrun, hcal, hok, hup, hsync, hother⟩ := State.calMeasured_port (s := s) (n := n) (rtt := rtt) (owd := owd) hout hrest
  have hkept := State.calMeasured_kept (s := s) (n := n) (rtt := rtt) (owd := owd) (wbits w 47 32)
  refine .intro (t := s.alDlyRsp n w ago) rfl ?_
  rw [State.alDlyRsp_eq hout hlive hrtt howd]
  split
  next hfar =>
    have hports : ∀ m, ((s.calMeasured n (wbits w 47 32) rtt owd).linkTiming (.al n) 1).port m = (s.calMeasured n (wbits w 47 32) rtt owd).port m :=
      fun m => State.port_of_ports ((State.linkTiming_in ..).same .ports rfl) m
    have hfld : ∀ (k : Nat) (f : Fld), 0x200000 ≤ k → k < 0x310000 → k ≠ Reg.AL_EVENT n → f.rwg = false →
        ((s.calMeasured n (wbits w 47 32) rtt owd).linkTiming (.al n) 1).fld k f = (s.calMeasured n (wbits w 47 32) rtt owd).fld k f := by
      intro k f hlo hhi hne hf
      rw [State.fld_hw _ _ hf, State.fld_hw _ _ hf, State.linkTiming_al_kept _ n 1 k (by simpa using hne) (evKey_alink hlo hhi)]
    obtain ⟨hon, hcnt⟩ := hkept.alink (by
      simp only [List.mem_cons, List.not_mem_nil, or_false, forall_eq_or_imp, forall_eq, Reg.AL_RTD, Reg.AL_OWD, Reg.AL_STAT]
      omega) (i := 3 * n + 2) (by omega)
    refine ⟨?_, ?_, ?_, by rw [hports, hrun], by rw [hports, hcal], by rw [hports, hok], by rw [hports, hup], by rw [hports]; exact hsync,
      fun _ _ => ⟨(State.linkTiming_al_occurred _ n 1).before hon hcnt, State.linkTiming_al_code _ n (by decide)⟩,
      fun m hm => (hports m).trans (hother m hm),
      (hkept.ev.mono (by simp)).trans ((State.linkTiming_al_kept _ n 1).mono (by simp))⟩
    · rw [hfld _ _ (by simp only [Reg.AL_RTD]; omega) (by simp only [Reg.AL_RTD]; omega) (by simp only [Reg.AL_RTD, Reg.AL_EVENT]; omega) rfl, hrtd]
    · rw [hfld _ _ (by simp only [Reg.AL_OWD]; omega) (by simp only [Reg.AL_OWD]; omega) (by simp only [Reg.AL_OWD, Reg.AL_EVENT]; omega) rfl, howdf]
    · rw [hfld _ _ (by simp only [Reg.AL_STAT]; omega) (by simp only [Reg.AL_STAT]; omega) (by simp only [Reg.AL_STAT, Reg.AL_EVENT]; omega) rfl, hstale]
  next hfar =>
    exact ⟨hrtd, howdf, hstale, hrun, hcal, hok, hup, hsync, fun he ht => absurd (by simp [he, ht]) hfar, hother,
      hkept.ev.mono (by simp)⟩

end

theorem execDlyRspMissing_up {id sent : Nat} {ans : Bool} {rest : List (Nat × Nat × Bool)}
    (hout : (s.port n).calOut = (id, sent, ans) :: rest) (hrest : rest.all (fun e => !e.2.2) = true) (hat : sent + 32768 ≤ s.ticks)
    (h5 : s.tstate (.al n) = 5) :
    Completes (.dlyRspMissing (.al n)) s fun t => (t.port n).calOut = rest ∧ (t.port n).calRun = (s.port n).calRun + 1 ∧
      ((s.port n).calRun = 2 → t.fld (Reg.AL_STAT n) F.AL_STAT_CAL_STALE = 1 ∧
        OccurredBit (3 * n + 2) (Reg.AL_EVENT n) 2 s t ∧ t.fld (Reg.AL_EVENT n) F.AL_EVENT_LAST_TIMING = 2) ∧
      RegsKeptEv [Reg.AL_STAT n, Reg.AL_EVENT n] s t := by
  have hn := n.isLt
  have hport : ((s.updPort n fun p => PortRt.settle { p with calOut := rest, calRun := (s.port n).calRun + 1 }).port n).calOut = rest ∧
      ((s.updPort n fun p => PortRt.settle { p with calOut := rest, calRun := (s.port n).calRun + 1 }).port n).calRun =
        (s.port n).calRun + 1 := by
    rw [State.port_updPort, PortRt.settle, settleCal_unanswered hrest]
    exact ⟨rfl, rfl⟩
  have hregs : (s.updPort n fun p => PortRt.settle { p with calOut := rest, calRun := (s.port n).calRun + 1 }).regs = s.regs :=
    State.updPort_regs ..
  refine .intro (t := s.alDlyMissing n) rfl ?_
  unfold State.alDlyMissing
  rw [hout]
  dsimp only
  rw [if_pos hat, if_neg (by rw [h5]; decide)]
  generalize s.updPort n (fun p => PortRt.settle { p with calOut := rest, calRun := (s.port n).calRun + 1 }) = u at hport hregs ⊢
  split
  next h3 =>
    have hkept : RegsKept [Reg.AL_STAT n] s (u.setFld (Reg.AL_STAT n) F.AL_STAT_CAL_STALE 1) :=
      (RegsKept.of_regs _ hregs).trans (.setFld _ _ _ (List.mem_singleton_self _))
    have hports : ((u.setFld (Reg.AL_STAT n) F.AL_STAT_CAL_STALE 1).linkTiming (.al n) 2).ports = u.ports :=
      ((State.linkTiming_in ..).same .ports rfl).trans (State.setFld_ports ..)
    obtain ⟨hon, hcnt⟩ := hkept.alink (by simp only [List.mem_singleton, forall_eq, Reg.AL_STAT]; omega) (i := 3 * n + 2) (by omega)
    refine ⟨by rw [State.port_of_ports hports]; exact hport.1, by rw [State.port_of_ports hports]; exact hport.2,
      fun _ => ⟨?_, (State.linkTiming_al_occurred _ n 2).before hon hcnt, State.linkTiming_al_code _ n (by decide)⟩,
      (hkept.ev.mono (by simp)).trans ((State.linkTiming_al_kept _ n 2).mono (by simp))⟩
    rw [State.fld_hw _ _ rfl, State.alStat_linkTiming,
      State.rdW_setFld, Fld.get_put _ _ _ (by decide)]
    rfl
  next h3 => exact ⟨hport.1, hport.2, fun h2 => absurd (by omega) h3, .of_regs _ hregs⟩

theorem execDlyRspMissing_training {id sent : Nat} {ans : Bool} {rest : List (Nat × Nat × Bool)}
    (hout : (s.port n).calOut = (id, sent, ans) :: rest) (hat : sent + 32768 ≤ s.ticks) (h4 : s.tstate (.al n) = 4) :
    Completes (.dlyRspMissing (.al n)) s fun t => t.tstate (.al n) = 0 ∧ Counted (Reg.AL_TRAINFAIL n) s t ∧
      (s.port n).train.fails + 1 = (t.port n).train.fails ∧ (t.port n).train.retryAt = some (s.ticks + 1966080) := by
  obtain ⟨hst, hfails, hretry, hcnt, -⟩ := s.trainFail_failed (.al n)
  rw [State.train_al, State.train_al] at hfails
  rw [State.train_al] at hretry
  have heq : s.alDlyMissing n = s.trainFail (.al n) := by
    unfold State.alDlyMissing
    rw [hout]
    exact (if_pos hat).trans (if_pos h4)
  refine .intro (t := s.alDlyMissing n) rfl ?_
  rw [heq]
  exact ⟨hst, hcnt, hfails.symm, hretry⟩

end

/-- Settles O23: an audit that is late, a calibration's request, its response and the want of one, and a mute that lasts. -/
theorem portChecksFallDue : Obligations.PortChecksFallDue := by
  refine ⟨fun s n h => execAuditLate_completes h, fun s n per hup hper hat => ?_,
    fun s n w ago sent rtt owd rest hout hrest hlive hrtt howd => execDlyRsp_completes hout hrest hlive hrtt howd,
    fun s n id sent ans rest hout hrest hat h5 => execDlyRspMissing_up hout hrest hat h5,
    fun s n id sent ans rest hout hat h4 => execDlyRspMissing_training hout hat h4, fun s n since hs hat => ?_⟩
  · refine .intro (t := (s.updPort n fun p => { p with calAt := s.ticks }).addCtl n .dlyReq) ?_ ⟨?_, State.mem_addCtl _ _ _, fun m hm => ?_⟩
    · subst hper
      exact show execCalibrationRequest n s = _ from if_pos ⟨hup, hat⟩
    · rw [State.port_addCtl, State.port_updPort]
    · rw [State.port_addCtl_other _ _ _ hm, State.port_updPort_other _ _ hm]
  · refine .intro (t := s.updPort n fun p => { p with inhLong := true }) ?_
      ⟨State.port_updPort .., fun m hm => State.port_updPort_other _ _ hm⟩
    show execInhibitMuteCheck n s = _
    unfold execInhibitMuteCheck
    rw [hs]
    exact if_pos hat

end Sys2Proof.Machine
end

section
/-! SUPPORT. The states of training, one by one (O24). -/

namespace Sys2Proof.Machine

set_option Elab.async false

/-! ## A port tries to train (R254) -/

/-- What a port in Down waits for before it enters Lock. -/
def State.mayLock (s : State) (e : LinkEnd) : Bool :=
  s.linkEn e && s.linkOn e && (s.train e).present && (s.train e).retryAt.all (fun t => decide (t ≤ s.ticks))

/-- The port in Lock. -/
def State.locked (s : State) (e : LinkEnd) : State :=
  (s.setTstate e 1).updTrain e (fun t => { t with retryAt := none, good := 0, bad := 0, farLock := false, farDone := 0 })

section
variable {s : State} {e : LinkEnd}

theorem State.tryLockLink_eq (h : s.tstate e = 0) : s.tryLockLink e = if s.mayLock e = true then s.locked e else s := by
  unfold State.tryLockLink State.mayLock State.locked
  simp only [h, true_and, Bool.and_eq_true, and_assoc]

variable (s e)

theorem State.locked_tstate : (s.locked e).tstate e = 1 :=
  (State.tstate_of_rdW (State.rdW_of_regs (State.updTrain_regs ..) _)).trans (s.tstate_setTstate e (by decide))

theorem State.locked_train : (s.locked e).train e =
    { s.train e with since := s.ticks, retryAt := none, good := 0, bad := 0, farLock := false, farDone := 0 } := by
  rw [State.locked, State.train_updTrain, State.train_setTstate]

theorem State.locked_kept : RegsKept [linkStat e] s (s.locked e) :=
  (s.setTstate_kept e).trans (.of_regs _ (State.updTrain_regs ..))

theorem State.locked_field {g : Fld} (hg : g.rwg = false) (h : g.lo + g.wid ≤ 24 ∨ 28 ≤ g.lo) :
    (s.locked e).fld (linkStat e) g = s.fld (linkStat e) g := by
  rw [← s.setTstate_field e hg h (v := 1), State.fld_hw _ _ hg, State.fld_hw _ _ hg, State.locked,
    State.rdW_of_regs (State.updTrain_regs ..)]

end

/-! ## Presence (R261) -/

/-- PRESENT after a probe: three alike change it. -/
def presentAfter (t : TrainRt) (found : Found) : Bool :=
  if found = .all ∧ 2 ≤ t.hits then true else if found = .none ∧ 2 ≤ t.misses then false else t.present

theorem presentAfter_eq (t : TrainRt) (found : Found) :
    (if (if found = .all then min 3 (t.hits + 1) else 0) = 3 then true
      else if (if found = .none then min 3 (t.misses + 1) else 0) = 3 then false else t.present) = presentAfter t found := by
  have hmin : ∀ k, (min 3 (k + 1) = 3) = (2 ≤ k) := fun k => propext ⟨fun h => by omega, fun h => by omega⟩
  unfold presentAfter
  cases found <;> simp [hmin]

/-- The port after a probe is counted, before PRESENT. -/
def State.probeCounted (s : State) (e : LinkEnd) (found : Found) : State :=
  (s.updTrain e fun t => { t with probeAt := some s.ticks, hits := if found = .all then min 3 (t.hits + 1) else 0,
                                  misses := if found = .none then min 3 (t.misses + 1) else 0 }).updTrain e
    fun t => { t with present := presentAfter (s.train e) found }

/-- A probe before the port tries to train. -/
def State.probed (s : State) (e : LinkEnd) (found : Found) : State :=
  match e with
  | .al n =>
    let u := (s.probeCounted (.al n) found).setFld (Reg.AL_STAT n) F.AL_STAT_PRESENT
      (if presentAfter (s.train (.al n)) found then 1 else 0)
    if (s.train (.al n)).present && !presentAfter (s.train (.al n)) found then u.linkEvent (.al n) 7 else u
  | .cl x => s.probeCounted (.cl x) found

theorem execPresenceProbe_eq {s : State} {e : LinkEnd} (found : Found) (h : s.tstate e = 0) (hon : s.linkOn e = true)
    (hat : (s.train e).probeAt.all (fun t => decide (t + 1966080 ≤ s.ticks)) = true) :
    exec (.presenceProbe e found) s = .next ((s.probed e found).tryLockLink e) := by
  show execPresenceProbe e found s = _
  unfold execPresenceProbe
  rw [if_pos ⟨h, hon, hat⟩]
  dsimp only
  rw [State.train_updTrain]
  dsimp only
  rw [presentAfter_eq]
  cases e <;> rfl

section
variable (s : State) (e : LinkEnd) (found : Found)

theorem State.probeCounted_regs : (s.probeCounted e found).regs = s.regs ∧ (s.probeCounted e found).gen = s.gen := by
  cases e with
  | al n => exact ⟨(State.updPort_regs ..).trans (State.updPort_regs ..), (State.updPort_gen ..).trans (State.updPort_gen ..)⟩
  | cl x => exact ⟨(State.updCl_regs ..).trans (State.updCl_regs ..), (State.updCl_gen ..).trans (State.updCl_gen ..)⟩

theorem State.probeCounted_train : (s.probeCounted e found).train e = { s.train e with
    probeAt := some s.ticks, hits := if found = .all then min 3 ((s.train e).hits + 1) else 0,
    misses := if found = .none then min 3 ((s.train e).misses + 1) else 0, present := presentAfter (s.train e) found } := by
  rw [State.probeCounted, State.train_updTrain, State.train_updTrain]

theorem State.probed_train : (s.probed e found).train e = (s.probeCounted e found).train e := by
  cases e with
  | al n =>
    unfold State.probed
    dsimp only
    split
    · exact State.train_of (((State.linkEvent_in ..).same .ports rfl).trans (State.setFld_ports ..))
        (((State.linkEvent_in ..).same .cl rfl).trans (State.setFld_cl ..)) _
    · exact State.train_of (State.setFld_ports ..) (State.setFld_cl ..) _
  | cl x => rfl

theorem State.probed_gen : (s.probed e found).gen = s.gen ∧ (s.probed e found).ticks = s.ticks := by
  have hc := (s.probeCounted_regs e found).2
  have ht : (s.probeCounted e found).ticks = s.ticks := by
    cases e with
    | al n => exact (State.updPort_ticks ..).trans (State.updPort_ticks ..)
    | cl x => exact (State.updCl_ticks ..).trans (State.updCl_ticks ..)
  cases e with
  | al n =>
    unfold State.probed
    dsimp only
    split
    · exact ⟨((State.linkEvent_in ..).same .gen rfl).trans ((State.setFld_gen ..).trans hc),
        ((State.linkEvent_in ..).same .ticks rfl).trans ((State.setFld_ticks ..).trans ht)⟩
    · exact ⟨(State.setFld_gen ..).trans hc, (State.setFld_ticks ..).trans ht⟩
  | cl x => exact ⟨hc, ht⟩

theorem State.probed_kept : RegsKeptEv [linkStat e, linkEvents e] s (s.probed e found) := by
  have hc : RegsKeptEv [linkStat e, linkEvents e] s (s.probeCounted e found) := .of_regs _ (s.probeCounted_regs e found).1
  cases e with
  | al n =>
    have hset := hc.trans (RegsKeptEv.setFld _ _ F.AL_STAT_PRESENT (if presentAfter (s.train (.al n)) found then 1 else 0)
      (k := Reg.AL_STAT n) (by simp [linkStat]))
    unfold State.probed
    dsimp only
    split
    · exact hset.trans ((State.linkEvent_kept _ (.al n) 7).mono (by simp))
    · exact hset
  | cl x => exact hc

theorem State.probed_tstate : (s.probed e found).tstate e = s.tstate e := by
  have hc := State.tstate_of_rdW (e := e) (State.rdW_of_regs (s.probeCounted_regs e found).1 (linkStat e))
  cases e with
  | al n =>
    have hset : ((s.probeCounted (.al n) found).setFld (Reg.AL_STAT n) F.AL_STAT_PRESENT
        (if presentAfter (s.train (.al n)) found then 1 else 0)).tstate (.al n) = s.tstate (.al n) :=
      (State.fld_setFld_other _ _ _ _ _ (by decide)).trans hc
    unfold State.probed
    dsimp only
    split
    · exact (State.tstate_of_rdW (e := .al n) (State.linkEvent_kept _ (.al n) 7 _ (by simpa using (link_registers_ne (.al n)).1)
        (evKey_linkStat (.al n)))).trans hset
    · exact hset
  | cl x => exact hc

end

/-- What an A-link's probe shows in its registers. -/
theorem State.probed_alink (s : State) (n : Port) (found : Found) :
    (s.probed (.al n) found).fld (Reg.AL_STAT n) F.AL_STAT_PRESENT = (if presentAfter (s.train (.al n)) found then 1 else 0) ∧
    ((s.train (.al n)).present = true → presentAfter (s.train (.al n)) found = false →
      LinkOccurred (.al n) 0 s (s.probed (.al n) found) ∧ (s.probed (.al n) found).fld (Reg.AL_EVENT n) F.AL_EVENT_LAST_LINK = 7) := by
  have hset : ((s.probeCounted (.al n) found).setFld (Reg.AL_STAT n) F.AL_STAT_PRESENT
      (if presentAfter (s.train (.al n)) found then 1 else 0)).fld (Reg.AL_STAT n) F.AL_STAT_PRESENT =
      (if presentAfter (s.train (.al n)) found then 1 else 0) := by
    rw [State.fld_setFld _ _ _ _ (by decide)]
    split <;> rfl
  have hkept : RegsKept [linkStat (.al n)] s ((s.probeCounted (.al n) found).setFld (Reg.AL_STAT n) F.AL_STAT_PRESENT
      (if presentAfter (s.train (.al n)) found then 1 else 0)) :=
    (RegsKept.of_regs _ (s.probeCounted_regs (.al n) found).1).trans (.setFld _ _ _ (by simp [linkStat]))
  unfold State.probed
  dsimp only
  split
  · refine ⟨?_, fun _ _ => ⟨(State.linkEvent_occurred _ (.al n) 7).before (by decide) hkept ?_, State.linkEvent_al_code _ n (by decide)⟩⟩
    · rw [State.fld_hw _ _ rfl, State.linkEvent_kept _ (.al n) 7 (Reg.AL_STAT n)
        (fun h => (link_registers_ne (.al n)).1 (List.mem_singleton.1 h)) (evKey_linkStat (.al n)), ← State.fld_hw _ _ rfl, hset]
    · simpa using ⟨evKey_linkStat (.al n), (linkStat_ne_on (.al n)).1⟩
  next hc => exact ⟨hset, fun hp hpr => absurd (by simp [hp, hpr]) hc⟩

/-- A link's enable and its domain stay when its status, its events and the like are written. -/
theorem State.linkEn_linkOn_of_kept {s t : State} {e : LinkEnd} (h : RegsKeptEv [linkStat e, linkEvents e] s t) (hg : t.gen = s.gen) :
    t.linkEn e = s.linkEn e ∧ t.linkOn e = s.linkOn e := by
  have hon : t.rdW Reg.PW_ON = s.rdW Reg.PW_ON := by
    refine h _ ?_ (by decide)
    cases e with
    | al n => simp only [linkStat, linkEvents, Reg.AL_STAT, Reg.AL_EVENT, Reg.PW_ON, List.mem_cons, List.not_mem_nil, or_false]; omega
    | cl x => simp only [linkStat, linkEvents, Reg.CL_PORT_STAT, Reg.TW_EVENT, Reg.PW_ON, List.mem_cons, List.not_mem_nil, or_false]; omega
  cases e with
  | al n =>
    refine ⟨?_, State.on_eq_of_rdW hon _⟩
    rw [State.linkEn, State.linkEn, State.flag, State.flag, State.fld_rwg _ _ rfl, State.fld_rwg _ _ rfl, State.rdG_of_gen hg]
  | cl x =>
    refine ⟨?_, State.on_eq_of_rdW hon _⟩
    have hw : t.rdW (Reg.CL_PORT_CFG x) = s.rdW (Reg.CL_PORT_CFG x) := by
      refine h _ ?_ (evKey_below (by simp only [Reg.CL_PORT_CFG]; omega))
      simp only [linkStat, linkEvents, Reg.CL_PORT_STAT, Reg.TW_EVENT, Reg.CL_PORT_CFG, List.mem_cons, List.not_mem_nil, or_false]
      omega
    rw [State.linkEn, State.linkEn, State.flag_hw _ _ rfl, State.flag_hw _ _ rfl, hw]

theorem execPresenceProbe_completes {s : State} {e : LinkEnd} {found : Found} (h : s.tstate e = 0) (hon : s.linkOn e = true)
    (hat : (s.train e).probeAt.all (fun t => decide (t + 1966080 ≤ s.ticks)) = true) :
    Completes (.presenceProbe e found) s fun t => (t.train e).present = presentAfter (s.train e) found ∧
      (t.train e).probeAt = some s.ticks ∧
      (t.train e).hits = (if found = .all then min 3 ((s.train e).hits + 1) else 0) ∧
      (t.train e).misses = (if found = .none then min 3 ((s.train e).misses + 1) else 0) ∧
      t.tstate e = (if s.linkEn e && presentAfter (s.train e) found && (s.train e).retryAt.all (fun x => decide (x ≤ s.ticks)) then 1 else 0) ∧
      (∀ n, e = .al n → t.fld (Reg.AL_STAT n) F.AL_STAT_PRESENT = (if presentAfter (s.train e) found then 1 else 0) ∧
        ((s.train e).present = true → presentAfter (s.train e) found = false → LinkOccurred e 0 s t ∧
          t.fld (Reg.AL_EVENT n) F.AL_EVENT_LAST_LINK = 7)) ∧ RegsKeptEv [linkStat e, linkEvents e] s t := by
  have htr : (s.probed e found).train e = _ := (s.probed_train e found).trans (s.probeCounted_train e found)
  have hkept := s.probed_kept e found
  obtain ⟨hgen, hticks⟩ := s.probed_gen e found
  obtain ⟨hen, hdom⟩ := State.linkEn_linkOn_of_kept hkept hgen
  have hmay : (s.probed e found).mayLock e =
      (s.linkEn e && presentAfter (s.train e) found && (s.train e).retryAt.all (fun x => decide (x ≤ s.ticks))) := by
    rw [State.mayLock, hen, hdom, hon, htr, hticks, Bool.and_true]
  refine .intro (execPresenceProbe_eq found h hon hat) ?_
  rw [State.tryLockLink_eq ((s.probed_tstate e found).trans h), hmay]
  split
  next hm =>
    have hpr : presentAfter (s.train e) found = true := by
      simp only [Bool.and_eq_true] at hm
      exact hm.1.2
    refine ⟨by rw [State.locked_train, htr], by rw [State.locked_train, htr], by rw [State.locked_train, htr],
      by rw [State.locked_train, htr], State.locked_tstate .., fun n hn => ⟨?_, fun _ hpf => absurd (hpr.symm.trans hpf) (by decide)⟩,
      hkept.trans ((State.locked_kept _ e).ev.mono (by simp))⟩
    subst hn
    exact (State.locked_field _ (.al n) rfl (by decide)).trans (s.probed_alink n found).1
  next hm =>
    refine ⟨by rw [htr], by rw [htr], by rw [htr], by rw [htr], (s.probed_tstate e found).trans h, fun n hn => ?_, hkept⟩
    subst hn
    exact s.probed_alink n found

/-! ## The states of training -/

/-- Cell clock recovery, or the phase latched at entry to Align (R434). -/
def State.aligned (s : State) (e : LinkEnd) : State :=
  match e with
  | .al n => (s.setFld (Reg.AL_STAT n) F.AL_STAT_CDR0 1).setFld (Reg.AL_STAT n) F.AL_STAT_CDR1 1
  | .cl x =>
    let src := s.fld (Reg.CL_PORT_CFG x) F.CL_PORT_CFG_PHASE_SRC
    let ph := if x = 0 ∨ src = 0 ∨ src = x.val then 0
      else (s.fld (Reg.CL_PORT_STAT src) F.CL_PORT_STAT_RXPHASE + 312) % 32
    s.setFld (Reg.CL_PORT_STAT x) F.CL_PORT_STAT_PHASE ph

theorem State.aligned_kept (s : State) (e : LinkEnd) : RegsKept [linkStat e] s (s.aligned e) := by
  cases e with
  | al n => exact (RegsKept.setFld s _ _ (by simp [linkStat])).trans (.setFld _ _ _ (by simp [linkStat]))
  | cl x => exact .setFld s _ _ (by simp [linkStat])

theorem State.aligned_train (s : State) (e : LinkEnd) : (s.aligned e).train e = s.train e ∧ (s.aligned e).ticks = s.ticks := by
  cases e with
  | al n => exact ⟨State.train_of ((State.setFld_ports ..).trans (State.setFld_ports ..)) ((State.setFld_cl ..).trans (State.setFld_cl ..)) _,
      (State.setFld_ticks ..).trans (State.setFld_ticks ..)⟩
  | cl x => exact ⟨State.train_of (State.setFld_ports ..) (State.setFld_cl ..) _, State.setFld_ticks ..⟩

theorem State.since_setTstate (s : State) (e : LinkEnd) (v : Nat) : ((s.setTstate e v).train e).since = s.ticks := by
  rw [State.train_setTstate]

theorem execReceiverLock_completes {s : State} {e : LinkEnd} (h : s.tstate e = 1) (hat : (s.train e).since + 196608 ≤ s.ticks) :
    Completes (.receiverLock e) s fun t => t.tstate e = 2 ∧ (t.train e).since = s.ticks ∧
      (∀ n, e = .al n → t.fld (Reg.AL_STAT n) F.AL_STAT_CDR0 = 1 ∧ t.fld (Reg.AL_STAT n) F.AL_STAT_CDR1 = 1) ∧
      (∀ x : ClPort, e = .cl x → x ≠ 0 → s.fld (Reg.CL_PORT_CFG x) F.CL_PORT_CFG_PHASE_SRC ≠ 0 →
        s.fld (Reg.CL_PORT_CFG x) F.CL_PORT_CFG_PHASE_SRC ≠ x.val → t.fld (Reg.CL_PORT_STAT x) F.CL_PORT_STAT_PHASE =
          (s.fld (Reg.CL_PORT_STAT (s.fld (Reg.CL_PORT_CFG x) F.CL_PORT_CFG_PHASE_SRC)) F.CL_PORT_STAT_RXPHASE + 312) % 32) ∧
      (∀ x : ClPort, e = .cl x → x = 0 ∨ s.fld (Reg.CL_PORT_CFG x) F.CL_PORT_CFG_PHASE_SRC = 0 →
        t.fld (Reg.CL_PORT_STAT x) F.CL_PORT_STAT_PHASE = 0) ∧ RegsKept [linkStat e] s t := by
  refine .intro (t := (s.aligned e).setTstate e 2) ?_ ⟨State.tstate_setTstate _ e (by decide), ?_, fun n hn => ?_, fun x hx h0 hsrc hown => ?_,
    fun x hx h0 => ?_, (s.aligned_kept e).trans (State.setTstate_kept _ e)⟩
  · show execReceiverLock e s = _
    unfold execReceiverLock
    rw [if_pos ⟨h, hat⟩]
    cases e <;> rfl
  · rw [State.since_setTstate, (s.aligned_train e).2]
  · subst hn
    constructor
    · refine (State.setTstate_field _ (.al n) rfl (by decide)).trans ?_
      exact (State.fld_setFld_other _ _ _ _ _ (by decide)).trans (State.fld_setFld _ _ _ _ (by decide))
    · exact (State.setTstate_field _ (.al n) rfl (by decide)).trans (State.fld_setFld _ _ _ _ (by decide))
  · subst hx
    refine (State.setTstate_field _ (.cl x) rfl (by decide)).trans ((State.fld_setFld _ _ _ _ (by decide)).trans ?_)
    rw [if_neg (by simp [h0, hsrc, hown])]
    exact Nat.mod_mod _ _
  · subst hx
    refine (State.setTstate_field _ (.cl x) rfl (by decide)).trans ((State.fld_setFld _ _ _ _ (by decide)).trans ?_)
    rw [if_pos (h0.elim .inl fun h => .inr (.inl h))]
    rfl

/-- What a port prepares at entry to Calibrate (R256, R409). -/
def State.calibrating (s : State) (e : LinkEnd) : State :=
  match e with
  | .al n =>
    (s.updPort n (fun p => { p with calAt := s.ticks, calOk := false, syncAt := none, calOut := [], calRun := 0, ctl := [],
                                    rx := [], tx := [] })).addCtl n .dlyReq
  | .cl x => s.updCl x (fun c =>
      { c with calId := (c.calId + 1) % 65536, calWait := true, calOk := false, calAt := s.ticks, calT1 := 0, dly := [],
               ctl := c.ctl ++ [[BitVec.ofNat 64 (6 * 2 ^ 60 + (c.calId + 1) % 65536)]] })

theorem State.calibrating_regs (s : State) (e : LinkEnd) : (s.calibrating e).regs = s.regs := by
  cases e with
  | al n => exact (State.updPort_regs ..).trans (State.updPort_regs ..)
  | cl x => exact State.updCl_regs ..

theorem State.calibrating_train (s : State) (e : LinkEnd) : (s.calibrating e).train e = s.train e := by
  cases e with
  | al n => rw [State.calibrating, State.train, State.port_addCtl, State.port_updPort]; rfl
  | cl x => rw [State.calibrating, State.train, State.clp_updCl]; rfl

theorem execCfgDone_completes {s : State} {e : LinkEnd} (h : s.tstate e = 3) (hat : 8 ≤ (s.train e).farDone) :
    Completes (.cfgDone e) s fun t => t.tstate e = 4 ∧ (t.train e).since = s.ticks ∧
      (∀ n : Port, e = .al n → (t.port n).ctl = [.dlyReq] ∧ (t.port n).calOk = false ∧ (t.port n).calAt = s.ticks) ∧
      (∀ x : ClPort, e = .cl x → (t.clp x).calId = ((s.clp x).calId + 1) % 65536 ∧ (t.clp x).calWait = true ∧
        (t.clp x).calOk = false ∧ [BitVec.ofNat 64 (6 * 2 ^ 60 + (t.clp x).calId)] ∈ (t.clp x).ctl) ∧ RegsKept [linkStat e] s t := by
  have hregs := State.calibrating_regs (s.setTstate e 4) e
  refine .intro (t := (s.setTstate e 4).calibrating e) ?_ ⟨?_, ?_, fun n hn => ?_, fun x hx => ?_, (s.setTstate_kept e).trans (.of_regs _ hregs)⟩
  · show execCfgDone e s = _
    unfold execCfgDone
    rw [if_pos ⟨h, hat⟩]
    cases e <;> rfl
  · rw [State.tstate_of_rdW (State.rdW_of_regs hregs _), s.tstate_setTstate e (by decide)]
  · rw [State.calibrating_train, State.since_setTstate]
  · subst hn
    refine ⟨?_, ?_, ?_⟩
    · rw [State.calibrating, State.addCtl, State.port_updPort, State.port_updPort]
      rfl
    · rw [State.calibrating, State.port_addCtl, State.port_updPort]
    · rw [State.calibrating, State.port_addCtl, State.port_updPort, State.setTstate_ticks]
  · subst hx
    have hid : ((s.setTstate (.cl x) 4).clp x).calId = (s.clp x).calId := by
      rw [State.setTstate, State.clp_of_cl (State.setFld_cl ..), State.updTrain, State.clp_updCl]
    rw [State.calibrating, State.clp_updCl]
    exact ⟨by rw [hid], rfl, rfl, by simp⟩

theorem execCalibrateComplete_completes {s : State} {e : LinkEnd} (h : s.tstate e = 4) (hcal : s.calibrated e = true) :
    Completes (.calibrateComplete e) s fun t => t.tstate e = 5 ∧ (t.train e).fails = 0 ∧ LinkOccurred e 0 s t ∧
      (∀ n : Port, e = .al n → t.fld (Reg.AL_EVENT n) F.AL_EVENT_LAST_LINK = 1) ∧ RegsKeptEv [linkStat e, linkEvents e] s t := by
  have hne := (link_registers_ne e).1
  have hkept : RegsKept [linkStat e] s ((s.setTstate e 5).updTrain e fun t => { t with fails := 0 }) :=
    (s.setTstate_kept e).trans (.of_regs _ (State.updTrain_regs ..))
  refine .intro (show execCalibrateComplete e s = _ from if_pos ⟨h, hcal⟩) ⟨?_, ?_, ?_, fun n hn => ?_, ?_⟩
  · rw [State.tstate_of_rdW (State.linkEvent_kept _ e 1 _ (by simpa using hne) (evKey_linkStat e)),
      State.tstate_of_rdW (State.rdW_of_regs (State.updTrain_regs ..) _), s.tstate_setTstate e (by decide)]
  · rw [State.train_of ((State.linkEvent_in ..).same .ports rfl) ((State.linkEvent_in ..).same .cl rfl), State.train_updTrain]
  · exact (State.linkEvent_occurred _ e 1).before (by decide) hkept (by simpa using ⟨evKey_linkStat e, (linkStat_ne_on e).1⟩)
  · subst hn
    exact State.linkEvent_al_code _ n (by decide)
  · exact (hkept.ev.mono (by simp)).trans ((State.linkEvent_kept _ e 1).mono (by simp))

theorem execTrainingTimeout_completes {s : State} {e : LinkEnd} (h1 : 1 ≤ s.tstate e) (h4 : s.tstate e ≤ 4)
    (hat : (s.train e).since + trainLimit (s.tstate e) ≤ s.ticks) :
    Completes (.trainingTimeout e) s fun t => t.tstate e = 0 ∧ (t.train e).fails = (s.train e).fails + 1 ∧
      (t.train e).retryAt = some (s.ticks + 1966080) ∧ Counted (linkFails e) s t ∧
      (∀ n : Port, e = .al n → (s.train e).fails % 16 = 0 → LinkOccurred e 0 s t ∧
        t.fld (Reg.AL_EVENT n) F.AL_EVENT_LAST_LINK = 6) ∧ RegsKeptEv [linkStat e, linkEvents e, linkFails e] s t := by
  obtain ⟨hst, hfails, hretry, hcnt, hkept⟩ := s.trainFail_failed e
  refine .intro (show execTrainingTimeout e s = _ from if_pos ⟨h1, h4, hat⟩) ⟨hst, hfails, hretry, hcnt, fun n hn h16 => ?_, hkept⟩
  subst hn
  have hu := s.trainDown_failed (.al n)
  rw [State.trainFail_al, if_pos (by rw [hu.fails]; omega)]
  refine ⟨(State.linkEvent_occurred _ (.al n) 6).before (by decide) hu.kept ?_, State.linkEvent_al_code _ n (by decide)⟩
  simpa using ⟨⟨evKey_linkStat (.al n), (linkStat_ne_on (.al n)).1⟩, evKey_linkFails (.al n), (linkStat_ne_on (.al n)).2⟩

/-- Settles O24: a probe, each state of training, its time limit, and the next attempt. -/
theorem trainingRisesStateByState : Obligations.TrainingRisesStateByState := by
  refine ⟨?_, fun s e => execReceiverLock_completes, fun s e h hgood hfar => ?_, fun s e => execCfgDone_completes,
    fun s e => execCalibrateComplete_completes, fun s e => execTrainingTimeout_completes, ?_⟩
  · rintro s e found pr h hon hat rfl
    exact execPresenceProbe_completes h hon hat
  · exact .intro (show execFrameLock e s = _ from if_pos ⟨h, hgood, hfar⟩)
      ⟨s.tstate_setTstate e (by decide), s.since_setTstate e 3, s.setTstate_kept e⟩
  · intro s e at_ hretry hat h hen hon hpr
    have hmay : s.mayLock e = true := by
      rw [State.mayLock, hen, hon, hpr, hretry]
      simpa using hat
    refine .intro (t := s.locked e) ?_ ⟨s.locked_tstate e, by rw [s.locked_train e], by rw [s.locked_train e], s.locked_kept e⟩
    show execTrainingRetry e s = _
    unfold execTrainingRetry
    rw [hretry]
    dsimp only
    rw [if_pos hat, State.tryLockLink_eq h, if_pos hmay]

end Sys2Proof.Machine
end

section
/-! SUPPORT. The local ends' answers to the host's reads (O29). -/

namespace Sys2Proof.Machine

set_option Elab.async false

/-! ## A cell from the local end that is taken (R241, R252) -/

/-- A cell in sequence and within its credit changes the port's own account of cells, words to send and credit. -/
structure BusTaken (n : Port) (s u : State) : Prop where
  regs : u.regs = s.regs
  links : u.links = s.links
  out : u.out = s.out
  coreNow : u.coreNow = s.coreNow
  reads : (u.port n).reads = (s.port n).reads
  waitRd : (u.port n).waitRd = (s.port n).waitRd
  rxSeq : (u.port n).rxSeq = ((s.port n).rxSeq + 1) % 1024
  other : OtherPortsKept n s u

theorem State.coreNow_updPort (s : State) (n : Nat) (f : PortRt → PortRt) : (s.updPort n f).coreNow = s.coreNow := by
  rw [State.coreNow, State.coreNow, State.updPort_tk, State.updPort_core, State.updPort_coreQ]

theorem State.busTake_taken {s : State} {n : Port} {w : Word} {cls : Nat} (h : (s.busTake n w cls).2 = true) :
    BusTaken n s (s.busTake n w cls).1 := by
  unfold State.busTake at h ⊢
  extract_lets _ _ s1 at h ⊢
  have h1 : BusTaken n s s1 := by
    refine ⟨?_, ?_, ?_, ?_, ?_, ?_, ?_, fun m hm => ?_⟩
    · exact (State.updPort_regs ..).trans (State.updPort_regs ..)
    · exact (State.updPort_links ..).trans (State.updPort_links ..)
    · exact (State.updPort_out ..).trans (State.updPort_out ..)
    · exact (State.coreNow_updPort ..).trans (State.coreNow_updPort ..)
    · rw [show s1.port n = _ from State.port_addCtl .., State.port_updPort]
    · rw [show s1.port n = _ from State.port_addCtl .., State.port_updPort]
    · rw [show s1.port n = _ from State.port_addCtl .., State.port_updPort]
    · exact (State.port_addCtl_other _ _ _ hm).trans (State.port_updPort_other _ _ hm)
  clear_value s1
  split at h
  · cases h
  next hup =>
    rw [if_neg hup]
    split at h
    next hq =>
      rw [if_pos hq]
      unfold State.takeCredit at h ⊢
      extract_lets at h ⊢
      split at h
      · cases h
      next hw =>
        rw [if_neg hw]
        split at h
        · cases h
        next hl =>
          rw [if_neg hl]
          refine ⟨?_, ?_, ?_, ?_, ?_, ?_, ?_, fun m hm => ?_⟩
          · exact (State.updPort_regs ..).trans h1.regs
          · exact (State.updPort_links ..).trans h1.links
          · exact (State.updPort_out ..).trans h1.out
          · exact (State.coreNow_updPort ..).trans h1.coreNow
          · exact (congrArg PortRt.reads (State.port_updPort ..)).trans h1.reads
          · exact (congrArg PortRt.waitRd (State.port_updPort ..)).trans h1.waitRd
          · exact (congrArg PortRt.rxSeq (State.port_updPort ..)).trans h1.rxSeq
          · exact (State.port_updRx_other _ _ _ _ hm).trans (h1.other m hm)
    · split at h
      · cases h
      · split at h <;> cases h

/-! ## Host reads that end (R275) -/

/-- A host read that leaves a port without reads that wait. -/
theorem State.dropRead_eq {s : State} {n : Port} (h : (s.port n).waitRd = []) (r : HostRead) : s.dropRead n r =
    (s.updPort n fun p => { p with reads := p.reads.filter (fun x => x.acc != r.acc), busQ := p.busQ.filter (fun c => c.acc != r.acc),
                                   mid := if p.mid = some r.acc then none else p.mid }).updPort n fun p => { p with waitRd := [] } := by
  unfold State.dropRead State.issueReads
  dsimp only
  rw [State.port_updPort]
  dsimp only
  rw [h]
  rfl

/-- What is left of the port, and of all else. -/
structure ReadDropped (n : Port) (r : HostRead) (s u : State) : Prop where
  regs : u.regs = s.regs
  links : u.links = s.links
  out : u.out = s.out
  coreNow : u.coreNow = s.coreNow
  reads : (u.port n).reads = (s.port n).reads.filter (fun x => x.acc != r.acc)
  busQ : (u.port n).busQ = (s.port n).busQ.filter (fun c => c.acc != r.acc)
  rxSeq : (u.port n).rxSeq = (s.port n).rxSeq
  other : OtherPortsKept n s u

theorem State.dropRead_dropped {s : State} {n : Port} (h : (s.port n).waitRd = []) (r : HostRead) : ReadDropped n r s (s.dropRead n r) := by
  rw [State.dropRead_eq h]
  refine ⟨?_, ?_, ?_, ?_, ?_, ?_, ?_, fun m hm => ?_⟩
  · rw [State.updPort_regs, State.updPort_regs]
  · rw [State.updPort_links, State.updPort_links]
  · rw [State.updPort_out, State.updPort_out]
  · rw [State.coreNow_updPort, State.coreNow_updPort]
  · rw [State.port_updPort, State.port_updPort]
  · rw [State.port_updPort, State.port_updPort]
  · rw [State.port_updPort, State.port_updPort]
  · rw [State.port_updPort_other _ _ hm, State.port_updPort_other _ _ hm]

/-! ## The answers of the local ends -/

/-- The host read that an answer with tag `tag` belongs to. -/
def State.readOf (s : State) (n : Port) (tag : Nat) : Option HostRead :=
  (s.port n).reads.find? (fun r => r.pieces.any (fun x => x.tag == tag && x.data.isNone))

section
variable {s : State} {n : Port} {w : Word} (hok : (s.busTake n w 3).2 = true)
include hok

theorem State.readOf_taken (tag : Nat) : (s.busTake n w 3).1.readOf n tag = s.readOf n tag := by
  rw [State.readOf, State.readOf, (State.busTake_taken hok).reads]

theorem execCpl_eq (data : Word) : exec (.cpl n w data) s = .next
    (let u := (s.busTake n w 3).1
     match s.readOf n (wbits w 49 42) with
     | none => u.cnt (Reg.AL_BR_STALE n)
     | some r =>
       let r' := { r with pieces := fillPiece (wbits w 49 42) data.toNat r.pieces }
       if r'.pieces.all (·.data.isSome) = true then (u.dropRead n r).after r.m 364 n (.cpl r.sl r'.bytes)
       else u.updPort n (fun p => { p with reads := p.reads.map (fun x => if x.acc = r.acc then r' else x) })) := by
  have hread := State.readOf_taken hok (wbits w 49 42)
  show execCpl n w data s = _
  unfold execCpl
  generalize s.busTake n w 3 = x at hok hread ⊢
  obtain ⟨u, ok⟩ := x
  obtain rfl : ok = true := hok
  dsimp only at hread ⊢
  rw [if_pos rfl, ← hread]
  unfold State.readOf
  cases (u.port n).reads.find? fun r => r.pieces.any fun x => x.tag == wbits w 49 42 && x.data.isNone with
  | none => rfl
  | some r =>
    dsimp only
    split <;> rfl

theorem execErr_eq {r : HostRead} (hr : s.readOf n (wbits w 49 42) = some r) : exec (.err n w) s = .next
    (let u := (s.busTake n w 3).1.dropRead n r
     if wbits w 39 32 = 1 then u.emit (.cpl r.m 1 [] r.sl)
     else if wbits w 39 32 = 4 then u.emit (.cplEp r.m (List.replicate r.len 0) r.sl)
     else u.completeCa r.m r.sl) := by
  have hread := State.readOf_taken hok (wbits w 49 42)
  show execErr n w s = _
  unfold execErr
  generalize s.busTake n w 3 = x at hok hread ⊢
  obtain ⟨u, ok⟩ := x
  obtain rfl : ok = true := hok
  rw [hr] at hread
  dsimp only at hread ⊢
  rw [State.readOf] at hread
  rw [if_pos rfl, hread]
  dsimp only
  split
  next h => rw [if_pos h]
  next h => rw [if_neg (by omega), if_pos h]
  next h1 h4 => rw [if_neg h1, if_neg h4]

end

/-- Settles O29: an answer by the read that it belongs to. -/
theorem localAnswersCompleteHostReads : Obligations.LocalAnswersCompleteHostReads := by
  refine ⟨fun s n w data r hok hr hall hwait => ?_, fun s n w data r hok hr hall => ?_, fun s n w data hok hr => ?_,
    fun s n w r hok hr hwait => ?_, fun s n w hok => ?_⟩ <;> have ht := State.busTake_taken hok
  · have hd := State.dropRead_dropped (ht.waitRd.trans hwait) r
    refine .intro (t := ((s.busTake n w 3).1.dropRead n r).after r.m 364 n
      (.cpl r.sl ({ r with pieces := fillPiece (wbits w 49 42) data.toNat r.pieces } : HostRead).bytes)) ?_ ⟨?_, ?_, ?_, ?_, ?_, fun m hm => ?_⟩
    · rw [execCpl_eq hok, show s.readOf n (wbits w 49 42) = some r from hr]
      exact congrArg _ (if_pos hall)
    · rw [State.after, State.link_updLink, hd.coreNow, ht.coreNow, State.link_of_links hd.links, State.link_of_links ht.links]
    · rw [State.after, State.updLink_out, hd.out, ht.out]
    · rw [State.after, State.port_of_ports (State.updLink_ports ..), hd.reads, ht.reads]
    · rw [State.after, State.port_of_ports (State.updLink_ports ..), hd.rxSeq, ht.rxSeq]
    · rw [State.after, State.updLink_regs, hd.regs, ht.regs]
    · rw [State.after, State.port_of_ports (State.updLink_ports ..), hd.other m hm, ht.other m hm]
  · refine .intro (t := (s.busTake n w 3).1.updPort n fun p => { p with reads := p.reads.map (fun x =>
      if x.acc = r.acc then { r with pieces := fillPiece (wbits w 49 42) data.toNat r.pieces } else x) }) ?_ ⟨?_, ?_, ?_, fun m hm => ?_⟩
    · rw [execCpl_eq hok, show s.readOf n (wbits w 49 42) = some r from hr]
      exact congrArg _ (if_neg (by simp [hall]))
    · rw [State.updPort_out, ht.out]
    · rw [State.port_updPort]
      exact congrArg (List.map _) ht.reads
    · rw [State.updPort_regs, ht.regs]
    · rw [State.port_updPort_other _ _ hm, ht.other m hm]
  · have hkept : RegsKept [Reg.AL_BR_STALE n] (s.busTake n w 3).1 ((s.busTake n w 3).1.cnt (Reg.AL_BR_STALE n)) :=
      .wrW _ _ (List.mem_singleton_self _)
    refine .intro (t := (s.busTake n w 3).1.cnt (Reg.AL_BR_STALE n)) ?_ ⟨?_, ?_, ?_, (RegsKept.of_regs _ ht.regs).trans hkept, fun m hm => ?_⟩
    · rw [execCpl_eq hok, show s.readOf n (wbits w 49 42) = none from hr]
    · rw [Counted, State.rdW_cnt, State.rdW_of_regs ht.regs]
    · rw [State.cnt_out, ht.out]
    · rw [State.port_of_ports (State.cnt_ports ..), ht.reads]
    · rw [State.port_of_ports (State.cnt_ports ..), ht.other m hm]
  · have hd := State.dropRead_dropped (ht.waitRd.trans hwait) r
    refine .intro (execErr_eq hok hr) ?_
    dsimp only
    have hports : ∀ u : State, u.ports = ((s.busTake n w 3).1.dropRead n r).ports →
        (u.port n).reads = (s.port n).reads.filter (fun x => x.acc != r.acc) ∧ OtherPortsKept n s u := by
      intro u hu
      exact ⟨by rw [State.port_of_ports hu, hd.reads, ht.reads], fun m hm => by rw [State.port_of_ports hu, hd.other m hm, ht.other m hm]⟩
    split
    next h1 =>
      obtain ⟨hreads, hother⟩ := hports _ (State.emit_ports _ (.cpl r.m 1 [] r.sl))
      exact ⟨hreads, fun _ => by rw [State.emit_out, hd.out, ht.out], fun h4 => absurd (h1.symm.trans h4) (by decide),
        fun hn => absurd h1 hn, hother⟩
    next h1 =>
      split
      next h4 =>
        obtain ⟨hreads, hother⟩ := hports _ (State.emit_ports _ (.cplEp r.m (List.replicate r.len 0) r.sl))
        exact ⟨hreads, fun h => absurd h h1, fun _ => by rw [State.emit_out, hd.out, ht.out], fun _ hn => absurd h4 hn, hother⟩
      next h4 =>
        obtain ⟨hreads, hother⟩ := hports _ ((State.completeCa_in _ r.m r.sl).same .ports rfl)
        exact ⟨hreads, fun h => absurd h h1, fun h => absurd h h4, fun _ _ => List.mem_cons_self .., hother⟩
  · obtain ⟨hcnt, hocc, -, -⟩ := (s.busTake n w 3).1.linkProto_al_completes n
    have hports := (State.linkProto_in (s.busTake n w 3).1 (.al n)).same .ports rfl
    refine .intro (t := (s.busTake n w 3).1.linkProto (.al n)) ?_ ⟨?_, ?_, ?_, fun m hm => ?_⟩
    · show execRetry n w s = _
      unfold execRetry
      generalize s.busTake n w 3 = x at hok ⊢
      obtain ⟨u, ok⟩ := x
      obtain rfl : ok = true := hok
      rfl
    · rwa [Counted, State.rdW_of_regs ht.regs] at hcnt
    · exact hocc.before (State.rdW_of_regs ht.regs _) (State.rdW_of_regs ht.regs _)
    · rw [State.port_of_ports hports, ht.reads]
    · rw [State.port_of_ports hports, ht.other m hm]

end Sys2Proof.Machine
end

section
/-! SUPPORT. The host's accesses to the local windows (O28). -/

namespace Sys2Proof.Machine

set_option Elab.async false

/-! ## Tags of a host read (R273) -/

/-- As many tags are found as there are free ones among the residues tried, and no more than asked. -/
theorem pickTags_length (used : List Nat) : ∀ n t k : Nat,
    (pickTags used n t k).length = min k ((List.range' t n).countP fun i => !used.contains (i % 256)) := by
  intro n
  induction n with
  | zero => exact fun t k => by simp [pickTags]
  | succ n ih =>
    intro t k
    rw [List.range'_succ, List.countP_cons]
    unfold pickTags
    split
    next h => simp [h]
    next hk =>
      split
      next hu =>
        rw [ih, hu]
        simp
      next hu =>
        rw [List.length_cons, ih, Bool.eq_false_iff.2 hu]
        simp
        omega

/-- Among 256 residues in a row, all are free but those in use. -/
theorem countP_free_residues (used : List Nat) (t : Nat) :
    256 ≤ used.length + (List.range' t 256).countP fun i => !used.contains (i % 256) := by
  have hsplit := List.length_eq_countP_add_countP (fun i => used.contains (i % 256)) (l := List.range' t 256)
  have hle : (List.range' t 256).countP (fun i => used.contains (i % 256)) ≤ used.length := by
    rw [List.countP_eq_length_filter, ← List.length_map (fun i => i % 256)]
    refine (List.Nodup.subperm ?_ ?_).length_le
    · refine List.Nodup.map_on ?_ ((List.nodup_range' (step := 1)).filter _)
      intro i hi j hj hij
      have hi' := List.mem_range'_1.1 (List.mem_filter.1 hi).1
      have hj' := List.mem_range'_1.1 (List.mem_filter.1 hj).1
      omega
    · intro x hx
      obtain ⟨i, hi, rfl⟩ := List.mem_map.1 hx
      exact List.contains_iff_mem.1 (List.mem_filter.1 hi).2
  rw [List.length_range'] at hsplit
  have hnot : (List.range' t 256).countP (fun i => decide ¬used.contains (i % 256) = true) =
      (List.range' t 256).countP (fun i => !used.contains (i % 256)) := by
    refine congrArg (fun p => List.countP p _) (funext fun i => ?_)
    cases used.contains (i % 256) <;> rfl
  omega

theorem pickTags_full {used : List Nat} {k : Nat} (h : used.length + k ≤ 128) (t : Nat) : (pickTags used 512 t k).length = k := by
  have hfree := countP_free_residues used t
  have hmono : (List.range' t 256).countP (fun i => !used.contains (i % 256)) ≤
      (List.range' t 512).countP (fun i => !used.contains (i % 256)) := by
    rw [show List.range' t 512 = List.range' t 256 ++ List.range' (t + 256) 256 from (List.range'_append_1 (s := t) (m := 256) (n := 256)).symm, List.countP_append]
    omega
  rw [pickTags_length]
  omega

theorem pieceCells_length (cls due acc : Nat) (l : List (List Word)) : ∀ cont, (pieceCells cls due acc cont l).length = l.length := by
  induction l with
  | nil => exact fun _ => rfl
  | cons w ws ih => exact fun _ => congrArg Nat.succ (ih true)

/-- Pieces that take their tags keep their addresses and widths. -/
theorem zip_tags_places (ps : List Piece) : ∀ ts : List Nat, ts.length = ps.length →
    ((ps.zip ts).map fun x => ({ x.1 with tag := x.2 } : Piece)).map (fun x => (x.addr, x.wid)) = ps.map fun x => (x.addr, x.wid) := by
  induction ps with
  | nil => exact fun _ _ => rfl
  | cons p ps ih =>
    intro ts h
    cases ts with
    | nil => cases h
    | cons t ts => exact congrArg (List.cons _) (ih ts (Nat.succ.inj h))

/-! ## Accesses that are rejected (R268 to R270) -/

section
variable {s : State} {n : Port} (hon : s.on (domL (n / 8)) = true)
include hon

theorem State.countHrej_eq : s.countHrej n = s.cnt (Reg.AL_BR_HREJ n) := if_pos hon

/-- The count of a rejected access, before an error of its link and a completion. -/
theorem State.countHrej_counted {u : State} (h : RegsKeptEv [] (s.countHrej n) u) : Counted (Reg.AL_BR_HREJ n) s u := by
  have hn := n.isLt
  have hev : evKey (Reg.AL_BR_HREJ n) = false := evKey_alink (by simp only [Reg.AL_BR_HREJ]; omega) (by simp only [Reg.AL_BR_HREJ]; omega)
  rw [Counted, h _ List.not_mem_nil hev, State.countHrej_eq hon, State.rdW_cnt]

end

theorem State.countHrej_ports (s : State) (n : Port) : (s.countHrej n).ports = s.ports := (State.countHrej_in ..).same .ports rfl

/-- An access that no window takes: the error of its link, and the completion of a read. -/
theorem State.hostUr_parts (s : State) {m : Nat} (hm : m < 32) (read : Bool) : RegsKeptEv [] s (s.hostUr m read) ∧
    (s.hostUr m read).ports = s.ports ∧ (read = true → .cpl m 1 [] ∈ (s.hostUr m read).out) := by
  unfold State.hostUr
  cases read
  · exact ⟨s.aerTlp_kept aerUr hm, State.aerTlp_ports .., fun h => nomatch h⟩
  · exact ⟨(s.aerTlp_kept aerUr hm).trans (.of_regs _ (State.emit_regs ..)), (State.emit_ports ..).trans (State.aerTlp_ports ..),
      fun _ => List.mem_cons_self ..⟩

/-! ## Reads of a window (R271 to R273) -/

/-- The pieces of a read. -/
def State.readPieces (s : State) (n : Port) (off : Nat) (en : List Bool) : List Piece :=
  (readSplit (2 ^ s.fld (Reg.AL_STAT n) F.AL_STAT_BUSW) (off % 0x10000000) (swapX (s.fld (Reg.AL_WIN_CTRL n) F.AL_WIN_CTRL_SWAP)) en).map
    fun e => ⟨0, e.1, e.2, none⟩

/-- A read that is accepted. -/
def State.hostRead (s : State) (m : HLink) (n : Port) (off : Nat) (en : List Bool) : HostRead :=
  { m := m, off := off % 0x10000000, len := en.length, swap := s.fld (Reg.AL_WIN_CTRL n) F.AL_WIN_CTRL_SWAP,
    hto := s.fld (Reg.AL_WIN_CTRL n) F.AL_WIN_CTRL_HTO, acc := (s.port n).acc, sl := s.winSlice n, pieces := s.readPieces n off en }

section
variable {s : State} {m : HLink} {off : Nat} {en : List Bool} {n : Port} (hreach : s.reachable m = true) (hmem : s.memOn m = true)
include hreach hmem

theorem execHostBar4Read_ok (hok : s.winCheck m off en.length false = .ok n) : exec (.hostBar4Read m off en) s = .next
    (if s.readPieces n off en = [] then s.emit (.cpl m 0 (List.replicate en.length 0) (s.winSlice n))
     else (s.updPort n fun p => { p with acc := p.acc + 1, waitRd := p.waitRd ++ [s.hostRead m n off en] }).issueReads n) := by
  show execHostBar4Read m off en s = _
  unfold execHostBar4Read
  rw [if_neg (by simp [hreach]), if_pos hmem, hok]
  dsimp only
  split
  next h => rw [show s.readPieces n off en = [] from h, if_pos rfl]
  next h => rw [if_neg (show ¬ s.readPieces n off en = [] from h)]; rfl

theorem execHostBar4Read_ur (hur : s.winCheck m off en.length false = .ur (some n)) :
    exec (.hostBar4Read m off en) s = .next ((s.countHrej n).hostUr m true) := by
  show execHostBar4Read m off en s = _
  unfold execHostBar4Read
  rw [if_neg (by simp [hreach]), if_pos hmem, hur]

theorem execHostBar4Read_ca (hca : s.winCheck m off en.length false = .ca n) :
    exec (.hostBar4Read m off en) s = .next (((s.countHrej n).aerTlp m aerUr).emit (.cpl m 4 [])) := by
  show execHostBar4Read m off en s = _
  unfold execHostBar4Read
  rw [if_neg (by simp [hreach]), if_pos hmem, hca]

end

/-- The only read that waits is tried. -/
theorem State.issueReads_one {s : State} {n : Port} {r : HostRead} (h : (s.port n).waitRd = [r]) : s.issueReads n =
    (let u := s.updPort n fun p => { p with waitRd := [] }
     if (u.issueRead n r).2 = true then (u.issueRead n r).1 else u.updPort n fun p => { p with waitRd := p.waitRd ++ [r] }) := by
  unfold State.issueReads
  rw [h]
  dsimp only
  unfold State.issueWaiting
  rw [if_neg (by simp)]
  generalize (s.updPort n fun p => { p with waitRd := [] }).issueRead n r = x
  obtain ⟨u, ok⟩ := x
  cases ok <;> rfl

section
variable {s : State} {m : HLink} {off : Nat} {en : List Bool} {n : Port} (hreach : s.reachable m = true) (hmem : s.memOn m = true)
  (hok : s.winCheck m off en.length false = .ok n) (hwait : (s.port n).waitRd = []) {ps : List (Nat × Nat)}
  (hps : ps = readSplit (2 ^ s.fld (Reg.AL_STAT n) F.AL_STAT_BUSW) (off % 0x10000000)
    (swapX (s.fld (Reg.AL_WIN_CTRL n) F.AL_WIN_CTRL_SWAP)) en) (hne : ps ≠ [])
include hreach hmem hok hwait hps hne

/-- The read that comes to a port where none waits is tried at once. -/
theorem execHostBar4Read_tried : exec (.hostBar4Read m off en) s = .next
    (let u := (s.updPort n fun p => { p with acc := p.acc + 1, waitRd := p.waitRd ++ [s.hostRead m n off en] }).updPort n
       fun p => { p with waitRd := [] }
     if (u.issueRead n (s.hostRead m n off en)).2 = true then (u.issueRead n (s.hostRead m n off en)).1
     else u.updPort n fun p => { p with waitRd := p.waitRd ++ [s.hostRead m n off en] }) := by
  have hp : s.readPieces n off en ≠ [] := by
    rw [State.readPieces, ← hps]
    simpa using hne
  have hw : ((s.updPort n fun p => { p with acc := p.acc + 1, waitRd := p.waitRd ++ [s.hostRead m n off en] }).port n).waitRd =
      [s.hostRead m n off en] := by
    rw [State.port_updPort]
    dsimp only
    rw [hwait, List.nil_append]
  rw [execHostBar4Read_ok hreach hmem hok, if_neg hp, State.issueReads_one hw]

theorem execHostBar4Read_issued (hfit : (s.port n).tags.length + ps.length ≤ 128) :
    Completes (.hostBar4Read m off en) s fun t => (t.port n).waitRd = [] ∧
      (t.port n).reads.map (fun r => (r.m, r.off, r.len, r.acc)) =
        (s.port n).reads.map (fun r => (r.m, r.off, r.len, r.acc)) ++ [(m, off % 0x10000000, en.length, (s.port n).acc)] ∧
      (t.port n).reads.map (fun r => r.pieces.map (fun x => (x.addr, x.wid))) =
        (s.port n).reads.map (fun r => r.pieces.map (fun x => (x.addr, x.wid))) ++ [ps] ∧
      (t.port n).busQ.length = (s.port n).busQ.length + ps.length ∧ t.regs = s.regs ∧ OtherPortsKept n s t := by
  have hpieces : (s.hostRead m n off en).pieces = ps.map fun e => ⟨0, e.1, e.2, none⟩ := by rw [hps]; rfl
  have hu : ((s.updPort n fun p => { p with acc := p.acc + 1, waitRd := p.waitRd ++ [s.hostRead m n off en] }).updPort n
      fun p => { p with waitRd := [] }).port n = { s.port n with acc := (s.port n).acc + 1, waitRd := [] } := by
    rw [State.port_updPort, State.port_updPort]
  have htags : (pickTags (s.port n).tags 512 (s.port n).tagNext ps.length).length = ps.length := pickTags_full hfit _
  refine .intro (execHostBar4Read_tried hreach hmem hok hwait hps hne) ?_
  dsimp only
  have hissue : ¬ 128 < (((s.updPort n fun p => { p with acc := p.acc + 1, waitRd := p.waitRd ++ [s.hostRead m n off en] }).updPort n
      fun p => { p with waitRd := [] }).port n).tags.length + (s.hostRead m n off en).pieces.length := by
    rw [hu, hpieces, List.length_map]
    exact Nat.not_lt.2 hfit
  unfold State.issueRead
  dsimp only
  rw [if_neg hissue, if_pos rfl]
  have hports : ∀ k, k ≠ n.val → ((s.updPort n fun p => { p with acc := p.acc + 1, waitRd := p.waitRd ++ [s.hostRead m n off en] }).updPort n
      fun p => { p with waitRd := [] }).port k = s.port k :=
    fun k hk => (State.port_updPort_other _ _ hk).trans (State.port_updPort_other _ _ hk)
  have hlen : ((s.hostRead m n off en).pieces.zip (pickTags (s.port n).tags 512 (s.port n).tagNext ps.length)).length = ps.length := by
    rw [List.length_zip, hpieces, List.length_map, htags, Nat.min_self]
  have hplaces := zip_tags_places (s.hostRead m n off en).pieces (pickTags (s.port n).tags 512 (s.port n).tagNext ps.length)
    (by rw [htags, hpieces, List.length_map])
  refine ⟨?_, ?_, ?_, ?_, ?_, fun k hk => (State.port_updPort_other _ _ hk).trans (hports k hk)⟩
  · rw [State.port_updPort, hu]
  · rw [State.port_updPort, hu]
    exact List.map_append
  · rw [State.port_updPort, hu]
    refine List.map_append.trans (congrArg _ (congrArg (· :: []) ?_))
    rw [hpieces] at hplaces
    rw [hpieces, List.length_map]
    refine hplaces.trans ?_
    rw [List.map_map]
    exact List.map_id' ps
  · rw [State.port_updPort, hu]
    dsimp only
    rw [List.length_append, pieceCells_length, List.length_map, List.length_map, hpieces, List.length_map]
    rw [hpieces] at hlen
    exact congrArg _ hlen
  · rw [State.updPort_regs, State.updPort_regs, State.updPort_regs]

theorem execHostBar4Read_waits (hfull : 128 < ps.length + (s.port n).tags.length) :
    Completes (.hostBar4Read m off en) s fun t => (t.port n).waitRd.length = 1 ∧ (t.port n).reads = (s.port n).reads ∧
      (t.port n).busQ = (s.port n).busQ ∧ t.regs = s.regs := by
  have hpieces : (s.hostRead m n off en).pieces = ps.map fun e => ⟨0, e.1, e.2, none⟩ := by rw [hps]; rfl
  have hu : ((s.updPort n fun p => { p with acc := p.acc + 1, waitRd := p.waitRd ++ [s.hostRead m n off en] }).updPort n
      fun p => { p with waitRd := [] }).port n = { s.port n with acc := (s.port n).acc + 1, waitRd := [] } := by
    rw [State.port_updPort, State.port_updPort]
  have hissue : 128 < (((s.updPort n fun p => { p with acc := p.acc + 1, waitRd := p.waitRd ++ [s.hostRead m n off en] }).updPort n
      fun p => { p with waitRd := [] }).port n).tags.length + (s.hostRead m n off en).pieces.length := by
    rw [hu, hpieces, List.length_map]
    exact (Nat.add_comm _ _).subst hfull
  refine .intro (execHostBar4Read_tried hreach hmem hok hwait hps hne) ?_
  dsimp only
  unfold State.issueRead
  dsimp only
  rw [if_pos hissue, if_neg Bool.false_ne_true]
  refine ⟨?_, ?_, ?_, ?_⟩
  · rw [State.port_updPort, hu]
    rfl
  · rw [State.port_updPort, hu]
  · rw [State.port_updPort, hu]
  · rw [State.updPort_regs, State.updPort_regs, State.updPort_regs]

end

/-! ## Writes of a window -/

/-- The cells of a write of bytes `bs`. -/
def State.writeCells (s : State) (n : Port) (bs : List (Nat × Byte)) : List (List Word) :=
  (narrow (2 ^ s.fld (Reg.AL_STAT n) F.AL_STAT_BUSW) bs.length bs).map fun e => busWords 1 0 e.2.length 0 e.1 (leNat e.2)

section
variable {s : State} {m : HLink} {off : Nat} {data : List (Option Byte)} {n : Port} (hreach : s.reachable m = true)
  (hmem : s.memOn m = true)
include hreach hmem

theorem execHostBar4Write_rejected (hw : s.winCheck m off data.length true = .ur (some n) ∨ s.winCheck m off data.length true = .ca n)
    (hon : s.on (domL (n / 8)) = true) :
    Completes (.hostBar4Write m off data) s fun t => Counted (Reg.AL_BR_HREJ n) s t ∧ t.ports = s.ports := by
  rcases hw with hw | hw
  · obtain ⟨hkept, hports, -⟩ := (s.countHrej n).hostUr_parts m.isLt false
    refine .intro (t := (s.countHrej n).hostUr m false) ?_ ⟨State.countHrej_counted hon hkept, hports.trans (s.countHrej_ports n)⟩
    show execHostBar4Write m off data s = _
    unfold execHostBar4Write
    rw [if_neg (by simp [hreach]), if_pos hmem, hw]
  · refine .intro (t := (s.countHrej n).aerTlp m aerUr) ?_
      ⟨State.countHrej_counted hon (State.aerTlp_kept _ aerUr m.isLt), (State.aerTlp_ports ..).trans (s.countHrej_ports n)⟩
    show execHostBar4Write m off data s = _
    unfold execHostBar4Write
    rw [if_neg (by simp [hreach]), if_pos hmem, hw]

theorem execHostBar4Write_ok (hok : s.winCheck m off data.length true = .ok n) {bs : List (Nat × Byte)}
    (hbs : bs = localBytes (swapX (s.fld (Reg.AL_WIN_CTRL n) F.AL_WIN_CTRL_SWAP)) (off % 0x10000000) 0 data) :
    Completes (.hostBar4Write m off data) s fun t => (t.port n).acc = (s.port n).acc + 1 ∧
      (t.port n).busQ = (s.port n).busQ ++ pieceCells 1 (s.coreNow + 420) (s.port n).acc false
        ((narrow (2 ^ s.fld (Reg.AL_STAT n) F.AL_STAT_BUSW) bs.length bs).map
          (fun e => busWords 1 0 e.2.length 0 e.1 (leNat e.2))) ∧
      t.regs = s.regs ∧ OtherPortsKept n s t := by
  refine .intro (t := s.updPort n fun p =>
      { p with acc := p.acc + 1, busQ := p.busQ ++ pieceCells 1 (s.coreNow + 420) p.acc false (s.writeCells n bs) }) ?_
    ⟨by rw [State.port_updPort], by rw [State.port_updPort]; rfl, State.updPort_regs .., fun k hk => State.port_updPort_other _ _ hk⟩
  show execHostBar4Write m off data s = _
  unfold execHostBar4Write
  rw [if_neg (by simp [hreach]), if_pos hmem, hok, hbs]
  rfl

end

/-- A host read that waits longer than HTO. -/
theorem execHostReadTimeout_completes {s : State} {n : Port} {tag t0 : Nat} {r : HostRead} (hr : s.readOf n tag = some r)
    (hsent : r.sent = some t0) (hat : t0 + htoTc r.hto ≤ s.ticks) (hwait : (s.port n).waitRd = []) :
    Completes (.hostReadTimeout n tag) s fun t => Counted (Reg.AL_BR_HTO n) s t ∧ .cpl r.m 4 [] r.sl ∈ t.out ∧
      (t.port n).reads = (s.port n).reads.filter (fun x => x.acc != r.acc) ∧
      (t.port n).busQ = (s.port n).busQ.filter (fun c => c.acc != r.acc) ∧ OtherPortsKept n s t := by
  have hn := n.isLt
  have hd := State.dropRead_dropped hwait r
  have hev : evKey (Reg.AL_BR_HTO n) = false := evKey_alink (by simp only [Reg.AL_BR_HTO]; omega) (by simp only [Reg.AL_BR_HTO]; omega)
  have hports : (((s.dropRead n r).cnt (Reg.AL_BR_HTO n)).completeCa r.m r.sl).ports = (s.dropRead n r).ports :=
    ((State.completeCa_in ..).same .ports rfl).trans (State.cnt_ports ..)
  refine .intro (t := ((s.dropRead n r).cnt (Reg.AL_BR_HTO n)).completeCa r.m r.sl) ?_
    ⟨?_, List.mem_cons_self .., by rw [State.port_of_ports hports, hd.reads], by rw [State.port_of_ports hports, hd.busQ],
      fun k hk => (State.port_of_ports hports k).trans (hd.other k hk)⟩
  · show execHostReadTimeout n tag s = _
    unfold execHostReadTimeout
    rw [State.readOf] at hr
    rw [hr]
    dsimp only
    rw [hsent]
    exact if_pos (by simpa using hat)
  · rw [Counted, State.completeCa_kept _ r.sl r.m.isLt _ List.not_mem_nil hev, State.rdW_cnt, State.rdW_of_regs hd.regs]

/-- Settles O28: a write and a read by the check of the window, a read that waits for tags, and one that waits too long. -/
theorem hostAccessesReachTheWindowsOrAreRejected : Obligations.HostAccessesReachTheWindowsOrAreRejected := by
  refine ⟨fun s m off data n bs hr hm hok hbs => execHostBar4Write_ok hr hm hok hbs,
    fun s m off data n hr hm hw hon => execHostBar4Write_rejected hr hm hw hon,
    fun s m off en n ps hr hm hok hwait hps hne hfit => execHostBar4Read_issued hr hm hok hwait hps hne hfit,
    fun s m off en n hr hm hok hnil => ?_,
    fun s m off en n hr hm hok hwait hfull hne => execHostBar4Read_waits hr hm hok hwait rfl hne hfull,
    fun s m off en n hr hm hur hon => ?_, fun s m off en n hr hm hca hon => ?_,
    fun s n tag t0 r hr hsent hat hwait => execHostReadTimeout_completes hr hsent hat hwait⟩
  · have hp : s.readPieces n off en = [] := by rw [State.readPieces, hnil]; rfl
    exact .intro ((execHostBar4Read_ok hr hm hok).trans (by rw [if_pos hp])) rfl
  · obtain ⟨hkept, hports, hout⟩ := (s.countHrej n).hostUr_parts m.isLt true
    exact .intro (execHostBar4Read_ur hr hm hur) ⟨State.countHrej_counted hon hkept, hout rfl, hports.trans (s.countHrej_ports n)⟩
  · exact .intro (execHostBar4Read_ca hr hm hca) ⟨State.countHrej_counted hon
      ((State.aerTlp_kept _ aerUr m.isLt).trans (.of_regs _ (State.emit_regs ..))), List.mem_cons_self ..,
      (State.emit_ports ..).trans ((State.aerTlp_ports ..).trans (s.countHrej_ports n))⟩

end Sys2Proof.Machine
end

section
/-! SUPPORT. The statement about a link's state that fails, with the state in which it does (O39). -/

namespace Sys2Proof.Machine

set_option Elab.async false

open Sys2Proof.Tests

/-- A wheel needs at least the beats of each of its enabled entries. -/
theorem State.beats_le_wheelSum {s : State} {m i : Nat} (hi : i < 1024)
    (hen : s.flag (Reg.DMA_WHEEL_E m i) F.DMA_WHEEL_E_EN = true) :
    s.fld (Reg.DMA_WHEEL_E m i) F.DMA_WHEEL_E_BEATS ≤ s.wheelSum m := by
  unfold State.wheelSum
  rw [← List.sum_eq_foldl]
  exact List.single_le_sum (fun _ _ => Nat.zero_le _) _ (List.mem_map.2 ⟨i, List.mem_range.2 hi, if_pos hen⟩)

/-- Link 0 at 16 lanes with a full width of one lane, a wheel that one lane does not carry, and 8,192 bytes that wait. -/
def narrowFull : State :=
  let s := (upLink 2 id).setFld (Reg.HL_LINK_STAT 0) F.HL_LINK_STAT_RATE 0
  let s := fset (fset s (Reg.DMA_WHEEL_E 0 0) F.DMA_WHEEL_E_EN 1) (Reg.DMA_WHEEL_E 0 0) F.DMA_WHEEL_E_BEATS 2
  { s.updLink 0 (fun l => { l with full := 1 }) with eg := { links := [(0, { wait := [⟨1024, 8192, .cpl 0 0 []⟩] })] } }

theorem stat_narrowFull : narrowFull.rdW (Reg.HL_LINK_STAT (0 : HLink)) = 34652288 := by decide +kernel

theorem link_narrowFull : (narrowFull.link (0 : HLink)).full = 1 ∧ narrowFull.queuedBytes (0 : HLink) = 8192 := by decide +kernel

theorem width_narrowFull : narrowFull.fld (Reg.HL_LINK_STAT (0 : HLink)) F.HL_LINK_STAT_WIDTH = 16 := by
  rw [State.fld_hw _ _ rfl, stat_narrowFull]
  decide

theorem wheelBudget_narrowFull :
    wheelBudget (narrowFull.fld (Reg.HL_LINK_STAT (0 : HLink)) F.HL_LINK_STAT_RATE) 1 < narrowFull.wheelSum (0 : HLink) := by
  have hbeats : narrowFull.flag (Reg.DMA_WHEEL_E (0 : HLink) 0) F.DMA_WHEEL_E_EN = true ∧
      narrowFull.fld (Reg.DMA_WHEEL_E (0 : HLink) 0) F.DMA_WHEEL_E_BEATS = 2 := by decide +kernel
  rw [State.fld_hw _ _ rfl, stat_narrowFull]
  exact lt_of_lt_of_le (by rw [hbeats.2]; decide) (State.beats_le_wheelSum (by decide) hbeats.1)

/-- The link is Up and wide, and what waits is more than 4,096 bytes. -/
theorem waiting_narrowFull :
    (narrowFull.flag (Reg.HL_LINK_STAT (0 : HLink)) F.HL_LINK_STAT_DLUP && narrowFull.flag (Reg.HL_LINK_STAT (0 : HLink)) F.HL_LINK_STAT_FLIT &&
      (narrowFull.lstate (0 : HLink) == 2 || narrowFull.lstate (0 : HLink) == 3) && widthOk 1 &&
      decide (1 ≤ (narrowFull.link (0 : HLink)).full) && 1 != narrowFull.fld (Reg.HL_LINK_STAT (0 : HLink)) F.HL_LINK_STAT_WIDTH &&
      (1 == (narrowFull.link (0 : HLink)).full && decide (4096 < narrowFull.queuedBytes (0 : HLink)))) = true := by
  rw [link_narrowFull.1, link_narrowFull.2, width_narrowFull, State.lstate, State.flag_hw _ _ rfl, State.flag_hw _ _ rfl,
    State.fld_hw _ _ rfl, stat_narrowFull]
  decide

/-- What L0p does to `s` when it is taken without the partner and `fits` says whether the wheel fits. -/
def narrowed (s : State) (m width : Nat) (fits : Bool) : State :=
  let s := (s.setHl m F.HL_LINK_STAT_WIDTH width).setHl m F.HL_LINK_STAT_LSTATE (if width = (s.link m).full then 2 else 3)
  let s := if fits then s.setHl m F.HL_LINK_STAT_NARROW_OVER 0 else s
  (s.rtTouch (s.rtOf m)).linkEv m 4

theorem narrowed_width (s : State) {m : Nat} (hm : m < 32) (width : Nat) (fits : Bool) :
    (narrowed s m width fits).fld (Reg.HL_LINK_STAT m) F.HL_LINK_STAT_WIDTH = width % 32 := by
  have hstat : evKey (Reg.HL_LINK_STAT m) = false := by
    rw [Bool.eq_false_iff]
    simp only [evKey, ne_eq, Bool.or_eq_true, Bool.and_eq_true, decide_eq_true_eq]
    simp only [Reg.HL_LINK_STAT, Reg.LOG_SEQ, Reg.LOG_LOST]
    omega
  have hne : Reg.HL_LINK_STAT m ≠ Reg.HL_LINK_EVENT m := by
    simp only [Reg.HL_LINK_STAT, Reg.HL_LINK_EVENT]
    omega
  have hkept : ∀ u : State, ((u.rtTouch (u.rtOf m)).linkEv m 4).rdW (Reg.HL_LINK_STAT m) = u.rdW (Reg.HL_LINK_STAT m) := by
    intro u
    rw [State.linkEv, State.evHl_kept _ hm (by decide) _ List.not_mem_nil hstat, State.rdW_setFld_other _ _ _ hne, State.rtTouch,
      State.evUm, State.rdW_occur _ (by decide) hstat]
    exact State.rdW_of_regs ((State.rtBump_in ..).same .regs rfl) _
  have hset : ∀ (u : State) (f : Fld) (v : Nat), (u.setHl m f v).rdW (Reg.HL_LINK_STAT m) = f.put (u.rdW (Reg.HL_LINK_STAT m)) v :=
    fun u f v => State.rdW_setFld ..
  rw [State.fld_hw _ _ rfl, narrowed]
  rw [hkept]
  cases fits with
  | false =>
    rw [if_neg Bool.false_ne_true, hset, hset, Fld.get_put_other _ _ _ _ (by decide), Fld.get_put _ _ _ (by decide)]
    rfl
  | true =>
    rw [if_pos rfl, hset, hset, hset, Fld.get_put_other _ _ _ _ (by decide), Fld.get_put_other _ _ _ _ (by decide),
      Fld.get_put _ _ _ (by decide)]
    rfl

/-- With more than 4,096 bytes waiting, the device takes an Up link to its full width, whatever its wheel needs (R313). -/
theorem exec_l0pNarrowing_waiting {s : State} {m : HLink} {width : Nat}
    (hup : (s.flag (Reg.HL_LINK_STAT m) F.HL_LINK_STAT_DLUP && s.flag (Reg.HL_LINK_STAT m) F.HL_LINK_STAT_FLIT &&
      (s.lstate m == 2 || s.lstate m == 3) && widthOk width && decide (width ≤ (s.link m).full) &&
      width != s.fld (Reg.HL_LINK_STAT m) F.HL_LINK_STAT_WIDTH &&
      (width == (s.link m).full && decide (4096 < s.queuedBytes m))) = true) :
    exec (.l0pNarrowing m width false) s = .next (narrowed s m width
      (decide (s.wheelSum m ≤ wheelBudget (s.fld (Reg.HL_LINK_STAT m) F.HL_LINK_STAT_RATE) width))) := by
  show execL0pNarrowing m width false s = _
  unfold execL0pNarrowing
  obtain ⟨hlink, hwaits⟩ := Bool.and_eq_true_iff.1 hup
  extract_lets k now fits narrow ovr told
  change _ = Host.Outcome.next (narrowed s m width fits)
  clear_value fits
  have hovr : ¬ ovr = true := by simp only [ovr, Bool.false_and, Bool.false_eq_true, not_false_iff]
  have htold : told = if fits then narrow.setHl m F.HL_LINK_STAT_NARROW_OVER 0 else narrow := if_neg hovr
  rw [if_pos (by rw [hlink, hwaits]; rfl), if_neg hovr, if_neg hovr, htold, narrowed]

/-- Refutes O39: with more than 4,096 bytes waiting the device takes its link to the full width (R313) whatever the wheel
needs; the fifth clause does not ask that the width is another one. -/
theorem not_linksChangeStateAndEventsAreInjected : ¬ Obligations.LinksChangeStateAndEventsAreInjected := by
  unfold Obligations.LinksChangeStateAndEventsAreInjected
  rintro ⟨-, -, -, -, hkept, -⟩
  obtain ⟨t, hexec, -, rfl⟩ := hkept narrowFull 0 1 wheelBudget_narrowFull (by rw [width_narrowFull]; decide)
  rw [exec_l0pNarrowing_waiting waiting_narrowFull] at hexec
  have hsame := congrArg (fun t => t.fld (Reg.HL_LINK_STAT (0 : HLink)) F.HL_LINK_STAT_WIDTH) (Host.Outcome.next.inj hexec)
  rw [narrowed_width _ (by decide), width_narrowFull] at hsame
  cases hsame

end Sys2Proof.Machine
end

section
/-! SUPPORT. An Armed generation returned to Open, the herd's cells, its guard instant, digests and time (O49). -/

namespace Sys2Proof.Machine

set_option Elab.async false

/-! ## An Armed generation returned to Open (R396, R437) -/

/-- The registers below those of the Churn's groups, but the two of the generation: what a disarmed generation leaves. -/
def BelowKept (s t : State) : Prop := ∀ k < 0x800000, k ≠ Reg.UM_GEN_STAT → k ≠ Reg.UM_GEN_AT → t.rdW k = s.rdW k

theorem State.clearPending_below (gs : List Nat) : ∀ s : State, ∀ k < 0x800000, (s.clearPending gs).rdW k = s.rdW k := by
  induction gs with
  | nil => exact fun _ _ _ => rfl
  | cons g gs ih =>
    intro s k hk
    rw [State.clearPending, ih _ k hk, State.rdW_setFld_other _ _ _ (by simp only [Reg.CH_WB_STATUS]; omega)]

/-- The Armed generation `a` back in Open, before the abort of a herd commit and the final reply. -/
def State.reopened (s : State) (a : Armed) : State :=
  (((s.clearPending a.groups).setFld Reg.UM_GEN_STAT F.UM_GEN_STAT_STATE 1).updUm fun u => { u with armed := none }).lastAt

section
variable (s : State) (a : Armed)

theorem State.reopened_below : BelowKept s (s.reopened a) := by
  intro k hk hst hat
  rw [State.reopened, State.lastAt, State.rdW_wrW_other _ _ hat, State.updUm_rdW, State.rdW_setFld_other _ _ _ hst,
    State.clearPending_below _ _ k hk]

theorem State.reopened_parts : (s.reopened a).um.armed = none ∧ (s.reopened a).staged = s.staged ∧ (s.reopened a).gen = s.gen ∧
    (s.reopened a).cl = s.cl ∧ (s.reopened a).tw = s.tw ∧ (s.reopened a).ticks = s.ticks := by
  unfold State.reopened State.lastAt
  simp

theorem State.reopened_genState : (s.reopened a).genState = 1 := by
  rw [State.genState, State.fld_hw _ _ rfl, State.reopened, State.lastAt, State.rdW_wrW_other _ _ (by decide), State.updUm_rdW,
    State.rdW_setFld, Fld.get_put _ _ _ (by decide)]
  rfl

variable {s a}

theorem State.disarm_of_some (h : s.um.armed = some a) : s.disarm = match a.hdr with
    | some r => ((s.reopened a).herdAbort a).final r 0x0204 stGenAborted noDetail []
    | none => (s.reopened a).herdAbort a := by
  unfold State.disarm
  rw [h]
  rfl

theorem State.final_armed (s : State) (h : UmHdr) (op : Nat) {st : Nat} (det : Nat) (res : List Byte) (hst : st ≠ stInternal) :
    (s.final h op st det res).um.armed = s.um.armed := by
  unfold State.final
  rw [if_neg hst]
  dsimp only
  split
  · rw [State.updUm_um, State.post_um]
  · rfl

/-- The final reply that a disarmed generation owes touches Umger's replies alone. -/
theorem State.disarm_same (h : s.um.armed = some a) : s.disarm.regs = ((s.reopened a).herdAbort a).regs ∧
    s.disarm.staged = ((s.reopened a).herdAbort a).staged ∧ s.disarm.gen = ((s.reopened a).herdAbort a).gen ∧
    s.disarm.cl = ((s.reopened a).herdAbort a).cl ∧ s.disarm.tw = ((s.reopened a).herdAbort a).tw ∧
    s.disarm.um.armed = ((s.reopened a).herdAbort a).um.armed := by
  rw [State.disarm_of_some h]
  cases a.hdr with
  | none => exact ⟨rfl, rfl, rfl, rfl, rfl, rfl⟩
  | some r =>
    exact ⟨State.final_regs _ _ _ _ (by decide), State.final_staged .., State.final_gen .., State.final_cl .., State.final_tw ..,
      State.final_armed _ _ _ _ _ (by decide)⟩

/-- A generation that no herd shares. -/
theorem State.disarm_alone (h : s.um.armed = some a) (ha : a.herd = false) : s.disarm.regs = (s.reopened a).regs ∧
    s.disarm.staged = s.staged ∧ s.disarm.gen = s.gen ∧ s.disarm.cl = s.cl ∧ s.disarm.tw = s.tw ∧ s.disarm.um.armed = none := by
  obtain ⟨harmed, hstaged, hgen, hcl, htw, -⟩ := s.reopened_parts a
  have hab : (s.reopened a).herdAbort a = s.reopened a := if_neg (by rw [ha]; decide)
  obtain ⟨h1, h2, h3, h4, h5, h6⟩ := State.disarm_same h
  rw [hab] at h1 h2 h3 h4 h5 h6
  exact ⟨h1, h2.trans hstaged, h3.trans hgen, h4.trans hcl, h5.trans htw, h6.trans harmed⟩

end

/-! ## The ports of a herd commit -/

theorem State.herdPorts_congr {s t : State} (hr : BelowKept s t) (hg : t.gen = s.gen) : t.herdPorts = s.herdPorts := by
  refine List.filter_congr fun x hx => ?_
  have hx : x < 4 := by simp only [List.mem_cons, List.not_mem_nil, or_false] at hx; omega
  have hstat : t.rdW (Reg.CL_PORT_STAT x) = s.rdW (Reg.CL_PORT_STAT x) :=
    hr _ (by simp only [Reg.CL_PORT_STAT]; omega) (by simp only [Reg.CL_PORT_STAT, Reg.UM_GEN_STAT]; omega)
      (by simp only [Reg.CL_PORT_STAT, Reg.UM_GEN_AT]; omega)
  have hcfg : t.rdW (Reg.CL_PORT_CFG x) = s.rdW (Reg.CL_PORT_CFG x) :=
    hr _ (by simp only [Reg.CL_PORT_CFG]; omega) (by simp only [Reg.CL_PORT_CFG, Reg.UM_GEN_STAT]; omega)
      (by simp only [Reg.CL_PORT_CFG, Reg.UM_GEN_AT]; omega)
  rw [State.fld_eq _ hstat (State.rdG_of_gen hg _), State.flag, State.flag, State.fld_eq _ hcfg (State.rdG_of_gen hg _)]

theorem State.herdPorts_nodup (s : State) : s.herdPorts.Nodup := List.Nodup.filter _ (by decide)

section
variable (kind at_ : Nat) (dig : List Byte)

theorem State.herdSend_other {y : Nat} (xs : List Nat) : ∀ s : State, y ∉ xs → (s.herdSend xs kind at_ dig).clp y = s.clp y := by
  induction xs with
  | nil => exact fun _ _ => rfl
  | cons x xs ih =>
    intro s hy
    obtain ⟨hyx, hyxs⟩ := not_or.1 fun h => hy (List.mem_cons.2 h)
    exact (ih _ hyxs).trans (State.clp_updCl_other _ _ hyx)

/-- Each port of the list has the cell at the end of those that wait. -/
theorem State.herdSend_herd {y : Nat} (xs : List Nat) : ∀ s : State, xs.Nodup → y ∈ xs → ((s.herdSend xs kind at_ dig).clp y).herd =
    (s.clp y).herd ++ [{ kind := kind, bytes := leBytes 8 (tlOf at_).toNat ++ dig, tc := s.ticks }] := by
  induction xs with
  | nil => exact fun _ _ h => absurd h List.not_mem_nil
  | cons x xs ih =>
    intro s hnd hy
    obtain ⟨hx, hxs⟩ := List.nodup_cons.1 hnd
    rcases List.mem_cons.1 hy with rfl | hy
    · rw [State.herdSend, State.herdSend_other kind at_ dig xs _ hx, State.clp_updCl]
    · have hyx : y ≠ x := fun e => hx (e ▸ hy)
      exact (ih _ hxs hy).trans (by rw [State.clp_updCl_other _ _ hyx, State.updCl_ticks])

end

/-! ## Herd cells (R433, R434, R437) -/

/-- The state after a herd cell that its sequence test takes. -/
def State.herdTaken (s : State) (x : ClPort) : State :=
  (s.updCl x fun c => { c with hRxSeq := ((s.clp x).hRxSeq + 1) % 1024 }).clCtl x [clAckWord x false (s.clp x).hRxSeq]

/-- What a control cell of a port that waits leaves. -/
theorem State.mem_clCtl (s : State) (x : Nat) (ws : List Word) : ws ∈ ((s.clCtl x ws).clp x).ctl := by
  rw [State.clCtl, State.clp_updCl]
  split
  next h => exact List.contains_iff_mem.1 h
  next h => exact List.mem_append_right _ (List.mem_singleton_self _)

theorem State.clCtl_field {α : Type} (f : ClRt → α) (hf : ∀ c l, f { c with ctl := l } = f c) (s : State) (x : Nat) (ws : List Word) :
    f ((s.clCtl x ws).clp x) = f (s.clp x) := by
  rw [State.clCtl, State.clp_updCl]
  split
  · rfl
  · exact hf _ _

theorem State.clCtl_other (s : State) (x : Nat) (ws : List Word) : OtherClKept x s (s.clCtl x ws) :=
  fun _ hy => State.clp_updCl_other _ _ hy

section
variable {s : State} {x : ClPort} {k : Nat} {hdr : BitVec 32} {body : List Byte}

theorem State.herdRx_taken (hx : x.val ≠ 0) (hup : s.isUp (.cl x) = true) (hf : s.frameIn (.cl x) = true)
    (hk : bitsOf hdr.toNat 31 28 = k) (hseq : bitsOf hdr.toNat 27 18 = (s.clp x).hRxSeq) :
    s.herdRx x k hdr body = (s.herdTaken x, some (tlCount (BitVec.ofNat 64 (leAt body 0 8)), (body.drop 8).take 48)) := by
  unfold State.herdRx State.clTake
  rw [if_neg (by rintro (h | h); exacts [h hk, hx h])]
  dsimp only
  rw [if_neg (by simp [hup, hf]), if_pos rfl, hseq, if_pos rfl]
  rfl

theorem State.herdTaken_regs : (s.herdTaken x).regs = s.regs := (State.updCl_regs ..).trans (State.updCl_regs ..)
theorem State.herdTaken_gen : (s.herdTaken x).gen = s.gen := (State.updCl_gen ..).trans (State.updCl_gen ..)
theorem State.herdTaken_staged : (s.herdTaken x).staged = s.staged := (State.updCl_staged ..).trans (State.updCl_staged ..)
theorem State.herdTaken_um : (s.herdTaken x).um = s.um := (State.updCl_um ..).trans (State.updCl_um ..)
theorem State.herdTaken_tw : (s.herdTaken x).tw = s.tw := (State.updCl_tw ..).trans (State.updCl_tw ..)
theorem State.herdTaken_ticks : (s.herdTaken x).ticks = s.ticks := (State.updCl_ticks ..).trans (State.updCl_ticks ..)
theorem State.herdTaken_now : (s.herdTaken x).now = s.now := by
  rw [State.now, State.herdTaken, State.clCtl, State.updCl_tk, State.updCl_tk]
  rfl

theorem State.herdTaken_other : OtherClKept x s (s.herdTaken x) :=
  fun y hy => (State.clCtl_other _ _ _ y hy).trans (State.clp_updCl_other _ _ hy)

end

/-- The twin's event after what leaves the event counts and the domains. -/
theorem evTw_occurred_after {s u : State} {i : Nat} (hi : i < 16) (h : BelowKept s u) :
    OccurredBit (584 + i) Reg.TW_EVENT i s (u.evTw i) :=
  (u.evTw_occurred hi).before (h _ (by decide) (by decide) (by decide))
    (h _ (by simp only [Reg.EV_CNT]; omega) (by simp only [Reg.EV_CNT, Reg.UM_GEN_STAT]; omega)
      (by simp only [Reg.EV_CNT, Reg.UM_GEN_AT]; omega))

theorem State.evTw_genState (s : State) {i : Nat} (hi : i < 16) : (s.evTw i).genState = s.genState := by
  rw [State.genState, State.genState, State.fld_hw _ _ rfl, State.fld_hw _ _ rfl, State.rdW_evTw _ (by omega) (by decide) (by decide)]

theorem State.genState_of_regs {s t : State} (h : t.regs = s.regs) : t.genState = s.genState := by
  rw [State.genState, State.genState, State.fld_hw _ _ rfl, State.fld_hw _ _ rfl, State.rdW_of_regs h]

section
variable {s : State} {x : ClPort} {hdr : BitVec 32} {body : List Byte} (hx : x.val ≠ 0) (hup : s.isUp (.cl x) = true)
  (hf : s.frameIn (.cl x) = true) (hseq : bitsOf hdr.toNat 27 18 = (s.clp x).hRxSeq)
include hx hup hf hseq

theorem execHready_completes (hk : bitsOf hdr.toNat 31 28 = 1) : Completes (.hready x hdr body) s fun t =>
    (t.clp x).hready = some (tlCount (BitVec.ofNat 64 (leAt body 0 8)), (body.drop 8).take 48) ∧
    (t.clp x).hRxSeq = ((s.clp x).hRxSeq + 1) % 1024 ∧ [clAckWord x false (s.clp x).hRxSeq] ∈ (t.clp x).ctl ∧
    t.regs = s.regs ∧ OtherClKept x s t := by
  refine .intro (t := (s.herdTaken x).updCl x fun c =>
    { c with hready := some (tlCount (BitVec.ofNat 64 (leAt body 0 8)), (body.drop 8).take 48) }) ?_
    ⟨?_, ?_, ?_, (State.updCl_regs ..).trans State.herdTaken_regs,
      fun y hy => (State.clp_updCl_other _ _ hy).trans (State.herdTaken_other y hy)⟩
  · show execHready x hdr body s = _
    unfold execHready
    rw [State.herdRx_taken hx hup hf hk hseq]
  · rw [State.clp_updCl]
  · rw [State.clp_updCl]
    exact (State.clCtl_field ClRt.hRxSeq (fun _ _ => rfl) _ _ _).trans (by rw [State.clp_updCl])
  · rw [State.clp_updCl]
    exact State.mem_clCtl _ _ _

/-- The cells of an HABORT for the other ports. -/
def State.abortCells (s : State) (x : ClPort) (hdr : BitVec 32) (body : List Byte) (ago : Nat) : List FwdCell :=
  (s.herdPorts.filter (fun y => y != x.val)).map fun y =>
    { src := x.val, dst := y, at_ := (s.hop x y (s.ticks - ago)).1, kind := 2, addr := bitsOf hdr.toNat 17 6, bytes := body.take 56,
      late := decide ((s.hop x y (s.ticks - ago)).2 ≠ 0 ∧ s.fld (Reg.CL_PORT_CFG y) F.CL_PORT_CFG_PHASE_SRC = x.val) }

theorem execHabort_abort {ago : Nat} {a : Armed} (hk : bitsOf hdr.toNat 31 28 = 2)
    (hready : s.tw.hready = some (tlCount (BitVec.ofNat 64 (leAt body 0 8)), (body.drop 8).take 48)) (ha : s.um.armed = some a)
    (hearly : tlReached s.now (tlCount (BitVec.ofNat 64 (leAt body 0 8))) = false) :
    Completes (.habort x hdr body ago) s fun t => t.genState = 1 ∧ t.staged = s.staged ∧ t.gen = s.gen ∧ t.um.armed = none ∧
      t.tw.hready = none ∧ OccurredBit 596 Reg.TW_EVENT 12 s t ∧
      (t.tw.fwd.drop s.tw.fwd.length).map (·.dst) = s.herdPorts.filter (fun y => y != x.val) ∧
      ∀ f ∈ t.tw.fwd.drop s.tw.fwd.length, f.kind = 2 ∧ f.src = x.val ∧ f.bytes = body.take 56 ∧ f.addr = bitsOf hdr.toNat 17 6 ∧
        s.ticks - ago + 312 ≤ f.at_ ∧ f.at_ < s.ticks - ago + 344 := by
  have hbelow : BelowKept s (s.herdTaken x) := fun k _ _ _ => State.rdW_of_regs State.herdTaken_regs k
  obtain ⟨hregs, hstaged, hgen, -, htw, harmed⟩ := State.disarm_alone
    (s := (s.herdTaken x).updUm fun u => { u with armed := some { a with herd := false } }) (a := { a with herd := false })
    (by rw [State.updUm_um]) rfl
  have hdis : BelowKept s ((s.herdTaken x).updUm fun u => { u with armed := some { a with herd := false } }).disarm :=
    fun k hk h1 h2 => (State.rdW_of_regs hregs k).trans ((State.reopened_below _ _ k hk h1 h2).trans
      ((State.updUm_rdW ..).trans (hbelow k hk h1 h2)))
  have hgs := (State.genState_of_regs hregs).trans (State.reopened_genState _ _)
  have hexec : exec (.habort x hdr body ago) s = .next (((((s.herdTaken x).updUm fun u =>
      { u with armed := some { a with herd := false } }).disarm).updTw fun w =>
        { w with hready := none, fwd := w.fwd ++ (s.herdTaken x).abortCells x hdr body ago }).evTw 12) := by
    show execHabort x hdr body ago s = _
    unfold execHabort
    rw [State.herdRx_taken hx hup hf hk hseq]
    dsimp only
    rw [if_pos (by rw [State.herdTaken_tw, hready]), if_neg (by rw [State.herdTaken_now, hearly]; decide), State.herdTaken_um, ha]
    rfl
  rw [State.updUm_staged, State.herdTaken_staged] at hstaged
  rw [State.updUm_gen, State.herdTaken_gen] at hgen
  rw [State.updUm_tw, State.herdTaken_tw] at htw
  generalize ((s.herdTaken x).updUm fun u => { u with armed := some { a with herd := false } }).disarm = d at *
  have hfwd : (((d.updTw fun w => { w with hready := none, fwd := w.fwd ++ (s.herdTaken x).abortCells x hdr body ago }).evTw
      12).tw.fwd).drop s.tw.fwd.length = (s.herdTaken x).abortCells x hdr body ago := by
    rw [State.evTw_tw, State.updTw_tw, htw, List.drop_left]
  have hports : (s.herdTaken x).herdPorts = s.herdPorts := State.herdPorts_congr hbelow State.herdTaken_gen
  refine .intro hexec ⟨?_, ?_, ?_, ?_, ?_, ?_, ?_, ?_⟩
  · rw [State.evTw_genState _ (by decide), State.genState_of_regs (State.updTw_regs ..), hgs]
  · rw [State.evTw_staged, State.updTw_staged, hstaged]
  · rw [State.evTw_gen, State.updTw_gen, hgen]
  · rw [State.evTw_um, State.updTw_um, harmed]
  · rw [State.evTw_tw, State.updTw_tw]
  · exact evTw_occurred_after (by decide) fun k hk h1 h2 => (State.updTw_rdW ..).trans (hdis k hk h1 h2)
  · rw [hfwd, State.abortCells, List.map_map, hports]
    exact List.map_id' _
  · rw [hfwd]
    intro f hfm
    obtain ⟨y, -, rfl⟩ := List.mem_map.1 hfm
    refine ⟨rfl, rfl, rfl, rfl, ?_⟩
    rw [State.hop, State.herdTaken_ticks]
    dsimp only
    omega

theorem execHabort_late {ago : Nat} (hk : bitsOf hdr.toNat 31 28 = 2)
    (hready : s.tw.hready = some (tlCount (BitVec.ofNat 64 (leAt body 0 8)), (body.drop 8).take 48))
    (hlate : tlReached s.now (tlCount (BitVec.ofNat 64 (leAt body 0 8))) = true) :
    Completes (.habort x hdr body ago) s fun t => Counted Reg.CL_ABORT_LATE s t ∧ OccurredBit 597 Reg.TW_EVENT 13 s t ∧
      t.um = s.um ∧ t.tw = s.tw ∧ RegsKeptEv [Reg.CL_ABORT_LATE, Reg.TW_EVENT] s t := by
  have hkept : RegsKept [Reg.CL_ABORT_LATE] s ((s.herdTaken x).cnt Reg.CL_ABORT_LATE) :=
    (RegsKept.of_regs _ State.herdTaken_regs).trans (.wrW _ _ (List.mem_singleton_self _))
  refine .intro (t := ((s.herdTaken x).cnt Reg.CL_ABORT_LATE).evTw 13) ?_ ⟨?_, ?_, ?_, ?_, ?_⟩
  · show execHabort x hdr body ago s = _
    unfold execHabort
    rw [State.herdRx_taken hx hup hf hk hseq]
    dsimp only
    rw [if_pos (by rw [State.herdTaken_tw, hready]), if_pos (by rw [State.herdTaken_now, hlate])]
  · rw [Counted, State.rdW_evTw _ (by decide) (by decide) (by decide), State.rdW_cnt, State.rdW_of_regs State.herdTaken_regs]
  · exact (State.evTw_occurred _ (by decide)).before (hkept _ (by decide)) (hkept _ (by decide))
  · rw [State.evTw_um, State.cnt_um, State.herdTaken_um]
  · rw [State.evTw_tw, State.cnt_tw, State.herdTaken_tw]
  · exact (hkept.ev.mono (by simp)).trans (RegsKeptEv.occurBit _ _ (by decide) _ _ (by simp))

end

/-! ## The guard instant (R437) -/

section
variable {s : State} {a : Armed} {e : Nat × List Byte} (ha : s.um.armed = some a) (hr : s.tw.hready = some e)
  (hherd : a.herd = true) (hg : s.tw.guarded = false)
  (hdue : tlReached s.now (tlAdd a.at_ (-(s.fld Reg.CL_HERD_GUARD F.CL_HERD_GUARD_TC : Nat))) = true)
include ha hr hherd hg hdue

theorem exec_herdGuardCheck : exec .herdGuardCheck s = .next
    (if s.herdPorts.all (fun x => decide ((s.clp x).hready = some e)) = true then s.updTw fun t => { t with guarded := true }
     else (s.updTw fun t => { t with guarded := true }).disarm) := by
  show execHerdGuardCheck s = _
  unfold execHerdGuardCheck
  rw [ha, hr]
  dsimp only
  rw [if_pos ⟨hherd, hg, hdue⟩, show (s.updTw fun t => { t with guarded := true }).herdPorts = s.herdPorts from rfl,
    show (s.updTw fun t => { t with guarded := true }).clp = s.clp from rfl]
  split <;> rfl

theorem execHerdGuardCheck_fails (hall : s.herdPorts.all (fun x => decide ((s.clp x).hready = some e)) = false) :
    Completes .herdGuardCheck s fun t => t.genState = 1 ∧ t.um.armed = none ∧ t.staged = s.staged ∧ t.gen = s.gen ∧
      t.tw.hready = none ∧ OccurredBit 596 Reg.TW_EVENT 12 s t ∧
      ∀ x ∈ s.herdPorts, (t.clp x).herd = (s.clp x).herd ++
        [{ kind := 2, bytes := leBytes 8 (tlOf a.at_).toNat ++ a.hdigest, tc := s.ticks }] := by
  have hexec := exec_herdGuardCheck ha hr hherd hg hdue
  rw [if_neg (by rw [hall]; decide)] at hexec
  have hu : (s.updTw fun t => { t with guarded := true }).um.armed = some a := by rw [State.updTw_um, ha]
  have hbelow : BelowKept s (s.updTw fun t => { t with guarded := true }) := fun k _ _ _ => State.updTw_rdW ..
  have hstaged₀ := State.updTw_staged s fun t => { t with guarded := true }
  have hgen₀ := State.updTw_gen s fun t => { t with guarded := true }
  have hcl₀ := State.updTw_cl s fun t => { t with guarded := true }
  have hticks₀ := State.updTw_ticks s fun t => { t with guarded := true }
  generalize s.updTw (fun t => { t with guarded := true }) = u at *
  obtain ⟨harmed, hstaged, hgen, hcl, -, hticks⟩ := u.reopened_parts a
  have hrb := u.reopened_below a
  have hgs := u.reopened_genState a
  have hports : (u.reopened a).herdPorts = s.herdPorts :=
    State.herdPorts_congr (fun k hk h1 h2 => (hrb k hk h1 h2).trans (hbelow k hk h1 h2)) (hgen.trans hgen₀)
  obtain ⟨hregs', hstaged', hgen', hcl', htw', harmed'⟩ := State.disarm_same hu
  have hab : (u.reopened a).herdAbort a = (((u.reopened a).herdSend s.herdPorts 2 a.at_ a.hdigest).updTw
      fun t => { t with hready := none }).evTw 12 := by
    rw [State.herdAbort, if_pos hherd, hports]
  have hsr : ((u.reopened a).herdSend s.herdPorts 2 a.at_ a.hdigest).regs = (u.reopened a).regs :=
    (State.herdSend_in ..).same .regs rfl
  rw [hab] at hregs' hstaged' hgen' hcl' htw' harmed'
  refine .intro hexec ⟨?_, ?_, ?_, ?_, ?_, ?_, fun x hx => ?_⟩
  · rw [State.genState_of_regs hregs', State.evTw_genState _ (by decide), State.genState_of_regs (State.updTw_regs ..),
      State.genState_of_regs hsr, hgs]
  · rw [harmed', State.evTw_um, State.updTw_um, (State.herdSend_in ..).same .um rfl, harmed]
  · rw [hstaged', State.evTw_staged, State.updTw_staged, (State.herdSend_in ..).same .staged rfl, hstaged, hstaged₀]
  · rw [hgen', State.evTw_gen, State.updTw_gen, (State.herdSend_in ..).same .gen rfl, hgen, hgen₀]
  · rw [htw', State.evTw_tw, State.updTw_tw]
  · exact (evTw_occurred_after (by decide) fun k hk h1 h2 => (State.updTw_rdW ..).trans ((State.rdW_of_regs hsr k).trans
      ((hrb k hk h1 h2).trans (hbelow k hk h1 h2)))).of_regs hregs'
  · rw [State.clp_of_cl hcl', State.clp_of_cl (State.evTw_cl ..), State.clp_of_cl (State.updTw_cl ..),
      State.herdSend_herd 2 a.at_ a.hdigest _ _ s.herdPorts_nodup hx, State.clp_of_cl (hcl.trans hcl₀), hticks, hticks₀]

end

/-! ## Forwarded cells, digests and the time of a herd -/

/-- A cell of the herd on its next link. -/
def State.forwarded (s : State) (y : Nat) (f : FwdCell) : State :=
  (s.updTw fun w => { w with fwd := w.fwd.erase f }).updCl y fun c =>
    { c with herd := { kind := f.kind, bytes := f.bytes, tc := s.ticks, src := some f.addr } :: c.herd }

theorem State.forwarded_parts (s : State) (y : Nat) (f : FwdCell) : (s.forwarded y f).regs = s.regs ∧
    (s.forwarded y f).tw.fwd = s.tw.fwd.erase f ∧
    ((s.forwarded y f).clp y).herd = { kind := f.kind, bytes := f.bytes, tc := s.ticks, src := some f.addr } :: (s.clp y).herd ∧
    OtherClKept y s (s.forwarded y f) :=
  ⟨(State.updCl_regs ..).trans (State.updTw_regs ..), by rw [State.forwarded, State.updCl_tw, State.updTw_tw],
    by rw [State.forwarded, State.clp_updCl, State.clp_of_cl (State.updTw_cl ..)],
    fun z hz => (State.clp_updCl_other _ _ hz).trans (State.clp_of_cl (State.updTw_cl ..) z)⟩

theorem execHerdCellForward_completes {s : State} {x y : ClPort} {f : FwdCell}
    (hf : s.tw.fwd.find? (fun f => f.src == x.val && f.dst == y.val && decide (f.at_ ≤ s.ticks)) = some f) :
    Completes (.herdCellForward x y) s fun t => t.tw.fwd = s.tw.fwd.erase f ∧
      (t.clp y).herd = { kind := f.kind, bytes := f.bytes, tc := s.ticks, src := some f.addr } :: (s.clp y).herd ∧
      (f.late = true → OccurredBit 599 Reg.TW_EVENT 15 s t) ∧ (f.late = false → t.regs = s.regs) ∧ OtherClKept y s t := by
  have hexec : exec (.herdCellForward x y) s = .next
      (if f.late then (s.forwarded y f).evTw 15 else s.forwarded y f) := by
    show execHerdCellForward x y s = _
    unfold execHerdCellForward
    rw [hf]
    rfl
  refine .intro hexec ?_
  obtain ⟨hregs, htw, hherd, hother⟩ := s.forwarded_parts y f
  split
  next hl =>
    exact ⟨by rw [State.evTw_tw]; exact htw, by rw [State.clp_of_cl (State.evTw_cl ..)]; exact hherd,
      fun _ => evTw_occurred_after (by decide) fun k _ _ _ => State.rdW_of_regs hregs k, fun h => absurd hl (by rw [h]; decide),
      fun z hz => (State.clp_of_cl (State.evTw_cl ..) z).trans (hother z hz)⟩
  next hl => exact ⟨htw, hherd, fun h => absurd h hl, fun _ => hregs, hother⟩

theorem execDigest_differs {s : State} {x : ClPort} {w0 at_ : Word} {bytes : List Byte} (hup : s.isUp (.cl x) = true)
    (hf : s.frameIn (.cl x) = true) (hk : wbits w0 63 60 = 0xD)
    (hb : bytes ≠ s.rdWide (if w0.toNat.testBit 59 then Reg.UM_GEN_HDIGEST else Reg.UM_GEN_DIGEST))
    (hl : tlLater (tlCount s.um.activeAt) (tlCount at_) = false) :
    Completes (.digest x w0 at_ bytes) s fun t => Occurred 628 s t ∧ t.cl = s.cl ∧ t.gen = s.gen ∧ RegsKeptEv [] s t := by
  refine .intro (t := (s.logKind 0x08 (x.val + (if w0.toNat.testBit 59 then 256 else 0) + leAt bytes 0 4 * 2 ^ 32)).evUm 4) ?_
    ⟨?_, ?_, ?_, ?_⟩
  · show execDigest x w0 at_ bytes s = _
    unfold execDigest
    rw [if_pos ⟨hup, hf, hk⟩]
    dsimp only
    rw [if_neg]
    rintro (h | h)
    · exact hb h
    · rw [hl] at h
      cases h
  · exact (State.occurred _ (i := 628) (by decide) (by decide)).before_regs (fun k _ h1 h2 => State.rdW_logPut _ _ h1 h2) (by decide)
      (State.on_eq_of_rdW (State.rdW_logPut _ _ (by decide) (by decide)) 3)
  · rw [State.evUm_cl, (State.logKind_in ..).same .cl rfl]
  · rw [State.evUm_gen, (State.logKind_in ..).same .gen rfl]
  · refine RegsKeptEv.trans (fun k _ he => ?_) (RegsKeptEv.occur _ _ (by decide))
    obtain ⟨-, h1, h2, -⟩ := evKey_false he
    exact State.rdW_logPut _ _ h1 h2

section
variable (s : State)

/-- TL at another count, before the alarms that are passed. -/
def State.counted (s : State) (n : Nat) : State := s.updTk fun t => { t with count := n % piTl, since := 0, lastWin := none }

theorem State.setCount_eq (n : Nat) : s.setCount n =
    if tlLater n s.now = true ∧ (s.counted n).tlState ≠ 0 then (s.counted n).alarmsSkipped [0, 1, 2, 3] else s.counted n := rfl

theorem State.setCount_count (n : Nat) : (s.setCount n).tk.count = n % piTl := by
  have hcount : (s.counted n).tk.count = n % piTl := by rw [State.counted, State.updTk_tk]
  rw [State.setCount_eq]
  split
  · rw [(State.alarmsSkipped_in ..).same .tk rfl, hcount]
  · exact hcount

theorem State.setChange_tk_eq {α : Type} (f : Timekeeper → α) (hf : ∀ t c, f { t with change := c } = f t) (edge : Bool) :
    f (s.setChange edge).tk = f s.tk := by
  unfold State.setChange
  split
  · rfl
  · split <;> exact State.tlChange_tk_eq _ f hf _ _

theorem State.setChange_regs (edge : Bool) : (s.setChange edge).regs = s.regs := (State.setChange_in ..).same .regs rfl

/-- What an edge's quality makes of TL at a count that it set. -/
def State.edged (s : State) (ppsErr : Nat) : State :=
  (((((s.wrW Reg.TL_PPS_ERR (BitVec.ofNat 64 ppsErr)).setFld Reg.TL_STATE F.TL_STATE_HAS_TIME 1).setFld Reg.TL_STATE
    F.TL_STATE_AMBIGUOUS 0).setUncert 0).updTk fun t => { t with relock := 0, outN := 0 }).evTl 5

theorem State.moveTime_eq (want : Int) (edge : Bool) : s.moveTime want edge = ((s.setCount (tlAdd s.now (divTieZero want 65536))).edged
    (satBits 32 (divTieZero want 65536 * 65536 - want))).setChange edge := rfl

theorem State.edged_hasTime (ppsErr : Nat) : (s.edged ppsErr).flag Reg.TL_STATE F.TL_STATE_HAS_TIME = true := by
  rw [State.edged, State.flag, State.fld_hw _ _ rfl, State.rdW_evTl _ (by decide) (by decide), State.updTk_rdW,
    State.setUncert_kept _ _ _ (by decide), State.rdW_setFld, Fld.get_put_other _ _ _ _ (by decide), State.rdW_setFld,
    Fld.get_put _ _ _ (by decide)]
  rfl

theorem State.edged_uncert (ppsErr : Nat) : (s.edged ppsErr).rdW Reg.TL_UNCERT = 0 := by
  rw [State.edged, State.rdW_evTl _ (by decide) (by decide), State.updTk_rdW, State.setUncert_rdW]
  rfl

theorem State.edged_count (ppsErr : Nat) : (s.edged ppsErr).tk.count = s.tk.count := by
  have hset := State.setUncert_tk_eq (((s.wrW Reg.TL_PPS_ERR (BitVec.ofNat 64 ppsErr)).setFld Reg.TL_STATE F.TL_STATE_HAS_TIME
    1).setFld Reg.TL_STATE F.TL_STATE_AMBIGUOUS 0) 0 Timekeeper.count fun _ _ => rfl
  rw [State.edged, State.evTl_tk, State.updTk_tk]
  exact hset.trans (by rw [State.setFld_tk, State.setFld_tk, State.wrW_tk])

/-- A move of TL: it is the time, which is known and no longer ambiguous, and as good as an edge's (R67). -/
theorem State.moveTime_spec (want : Int) (edge : Bool) :
    (s.moveTime want edge).flag Reg.TL_STATE F.TL_STATE_HAS_TIME = true ∧ (s.moveTime want edge).rdW Reg.TL_UNCERT = 0 ∧
    (s.moveTime want edge).tk.count = tlAdd s.now (divTieZero want 65536) % piTl ∧ (s.moveTime want edge).cl = s.cl := by
  rw [State.moveTime_eq]
  refine ⟨?_, ?_, ?_, ?_⟩
  · rw [State.flag, State.fld_hw _ _ rfl, State.rdW_of_regs (State.setChange_regs ..), ← State.fld_hw _ _ rfl]
    exact State.edged_hasTime ..
  · rw [State.rdW_of_regs (State.setChange_regs ..), State.edged_uncert]
  · rw [State.setChange_tk_eq _ Timekeeper.count fun _ _ => rfl, State.edged_count, State.setCount_count]
  · rw [← State.moveTime_eq, (State.moveTime_in ..).same .cl rfl]

end

section
variable {s : State} {x : ClPort} {w0 w1 : Word} {ago : Nat} (hup : s.isUp (.cl x) = true) (hf : s.frameIn (.cl x) = true)
  (hk : wbits w0 63 60 = 0xE)
include hup hf hk

theorem execTimemark_takes {f : Int} (hsrc : s.timeSrc = some x.val) (hon : s.on 2 = true) (hv : tlValid w1 = true)
    (hno : s.flag Reg.TL_STATE F.TL_STATE_HAS_TIME = false)
    (hfr : f = -(ago : Int) - sNat 32 (s.fld (Reg.CL_PORT_OWD x) F.CL_PORT_OWD_OWD) - (wbits w0 4 0 : Nat) * 65536) :
    Completes (.timemark x w0 w1 ago) s fun t => (t.clp x).hops = wbits w0 47 32 ∧
      t.flag Reg.TL_STATE F.TL_STATE_HAS_TIME = true ∧ t.rdW Reg.TL_UNCERT = 0 ∧
      t.tk.count = tlAdd s.now (divTieZero (tlDiff (tlCount w1) s.now * 65536 - f) 65536) % piTl ∧ OtherClKept x s t := by
  obtain ⟨htime, hunc, hcount, hcl⟩ := (s.updCl x fun c => { c with hops := wbits w0 47 32 }).moveTime_spec
    (tlDiff (tlCount w1) s.now * 65536 - f) true
  refine .intro (t := (s.updCl x fun c => { c with hops := wbits w0 47 32 }).moveTime (tlDiff (tlCount w1) s.now * 65536 - f) true) ?_
    ⟨?_, htime, hunc, ?_, fun y hy => (State.clp_of_cl hcl y).trans (State.clp_updCl_other _ _ hy)⟩
  · show execTimemark x w0 w1 ago s = _
    unfold execTimemark
    rw [if_pos ⟨hup, hf, hk⟩]
    dsimp only
    rw [if_pos ⟨hsrc, (State.updCl_on ..).trans hon, hv⟩, if_pos (.inl ((State.updCl_flag ..).trans hno)), State.updCl_fld, hfr]
    rfl
  · rw [State.clp_of_cl hcl, State.clp_updCl]
  · rw [hcount]
    rfl

theorem execTimemark_other (hsrc : s.timeSrc ≠ some x.val) :
    Completes (.timemark x w0 w1 ago) s fun t => t.clp x = { s.clp x with hops := wbits w0 47 32 } ∧ t.regs = s.regs ∧
      t.tk = s.tk ∧ OtherClKept x s t := by
  refine .intro (t := s.updCl x fun c => { c with hops := wbits w0 47 32 }) ?_
    ⟨State.clp_updCl .., State.updCl_regs .., State.updCl_tk .., fun y hy => State.clp_updCl_other _ _ hy⟩
  show execTimemark x w0 w1 ago s = _
  unfold execTimemark
  rw [if_pos ⟨hup, hf, hk⟩]
  exact if_neg fun h => hsrc h.1

end

/-! ## Umger's commands of herds -/

theorem State.rdW_rtAll (s : State) {k : Nat} (hk : evKey k = false) : s.rtAll.rdW k = s.rdW k :=
  (RegsKeptEv.occur [] _ (by decide) k List.not_mem_nil hk).trans (State.rdW_of_regs ((State.rtBump_in ..).same .regs rfl) k)

section
variable {s : State} {h : UmHdr} {p : List Byte}

theorem execHerdAddrSet_completes (hc : s.umCheck h 0x0903 p.length = none) (hp : leAt p 0 2 ≤ 4095) :
    Completes (.herdAddrSet h p) s fun t => t.fld Reg.CL_HERD_CFG F.CL_HERD_CFG_ADDR = leAt p 0 2 ∧
      t.fld Reg.CL_HERD_CFG F.CL_HERD_CFG_EN = s.fld Reg.CL_HERD_CFG F.CL_HERD_CFG_EN ∧
      t.um.due = (s.reply h 0x0903 stOK []).um.due ∧ t.gen = s.gen := by
  have hset := s.rdW_setFld Reg.CL_HERD_CFG F.CL_HERD_CFG_ADDR (leAt p 0 2)
  have hum : (s.setFld Reg.CL_HERD_CFG F.CL_HERD_CFG_ADDR (leAt p 0 2)).um = s.um := State.setFld_um ..
  have hgen : (s.setFld Reg.CL_HERD_CFG F.CL_HERD_CFG_ADDR (leAt p 0 2)).gen = s.gen := State.setFld_gen ..
  obtain ⟨u, hexec, hw, humu, hgenu⟩ : ∃ u : State, exec (.herdAddrSet h p) s = .next (u.reply h 0x0903 stOK []) ∧
      u.rdW Reg.CL_HERD_CFG = F.CL_HERD_CFG_ADDR.put (s.rdW Reg.CL_HERD_CFG) (leAt p 0 2) ∧ u.um = s.um ∧ u.gen = s.gen := by
    refine ⟨if s.fld Reg.CL_HERD_CFG F.CL_HERD_CFG_ADDR = leAt p 0 2 then s.setFld Reg.CL_HERD_CFG F.CL_HERD_CFG_ADDR (leAt p 0 2)
      else (s.setFld Reg.CL_HERD_CFG F.CL_HERD_CFG_ADDR (leAt p 0 2)).rtAll, ?_, ?_⟩
    · show execHerdAddrSet h p s = _
      unfold execHerdAddrSet
      rw [State.umRun_eq hc, if_neg (by omega)]
    · generalize s.setFld Reg.CL_HERD_CFG F.CL_HERD_CFG_ADDR (leAt p 0 2) = u at *
      split
      · exact ⟨hset, hum, hgen⟩
      · exact ⟨(u.rdW_rtAll (by decide)).trans hset, ((State.rtAll_in ..).same .um rfl).trans hum,
          ((State.rtAll_in ..).same .gen rfl).trans hgen⟩
  refine .intro hexec ⟨?_, ?_, congrArg Um.due (State.reply_um_congr humu ..), (State.reply_gen ..).trans hgenu⟩
  · rw [State.fld_hw _ _ rfl, State.rdW_of_regs (State.reply_regs ..), hw, Fld.get_put _ _ _ (by decide)]
    exact Nat.mod_eq_of_lt (Nat.lt_succ_of_le hp)
  · rw [State.fld_hw _ _ rfl, State.fld_hw _ _ rfl, State.rdW_of_regs (State.reply_regs ..), hw, Fld.get_put_other _ _ _ _ (by decide)]

theorem execClCal_up {x : ClPort} (hc : s.umCheck h 0x0905 p.length = none) (hp : leAt p 0 1 = x.val) (hon : s.on 5 = true)
    (h5 : s.fld (Reg.CL_PORT_STAT x) F.CL_PORT_STAT_TSTATE = 5) :
    Completes (.clCal h p) s fun t => (t.clp x).calId = ((s.clp x).calId + 1) % 65536 ∧ (t.clp x).calWait = true ∧
      [BitVec.ofNat 64 (6 * 2 ^ 60 + ((s.clp x).calId + 1) % 65536)] ∈ (t.clp x).ctl ∧
      t.um = (s.reply h 0x0905 stOK []).um ∧ t.regs = s.regs ∧ OtherClKept x s t := by
  have hx := x.isLt
  refine .intro (t := (s.clCalibrate x).reply h 0x0905 stOK []) ?_ ⟨?_, ?_, ?_, ?_, ?_, fun y hy => ?_⟩
  · show execClCal h p s = _
    unfold execClCal
    rw [State.umRun_eq hc, hp, if_neg (by omega), if_neg (by rw [hon]; decide), if_pos h5]
  · rw [State.clp_of_cl (State.reply_cl ..)]
    exact (State.clCtl_field ClRt.calId (fun _ _ => rfl) _ _ _).trans (by rw [State.clp_updCl])
  · rw [State.clp_of_cl (State.reply_cl ..)]
    exact (State.clCtl_field ClRt.calWait (fun _ _ => rfl) _ _ _).trans (by rw [State.clp_updCl])
  · rw [State.clp_of_cl (State.reply_cl ..)]
    exact State.mem_clCtl _ _ _
  · exact State.reply_um_congr ((State.updCl_um ..).trans (State.updCl_um ..)) ..
  · rw [State.reply_regs]
    exact (State.updCl_regs ..).trans (State.updCl_regs ..)
  · rw [State.clp_of_cl (State.reply_cl ..)]
    exact (State.clp_updCl_other _ _ hy).trans (State.clp_updCl_other _ _ hy)

end

/-- Settles O49: the herd's cells, its guard instant, its digests and its time, and Umger's commands of it. -/
theorem herdCommitsAreReadiedGuardedAndAborted : Obligations.HerdCommitsAreReadiedGuardedAndAborted := by
  refine ⟨fun s x hdr body hx hup hf hk hseq => execHready_completes hx hup hf hseq hk,
    fun s x hdr body ago a hx hup hf hk hseq hr ha he => execHabort_abort hx hup hf hseq hk hr ha he,
    fun s x hdr body ago hx hup hf hk hseq hr hl => execHabort_late hx hup hf hseq hk hr hl,
    fun s a e ha hr hherd hg hdue hall => ?_,
    fun s a e ha hr hherd hg hdue hall => execHerdGuardCheck_fails ha hr hherd hg hdue hall,
    fun s x y f hf => execHerdCellForward_completes hf, fun s h p hc hp => execHerdAddrSet_completes hc hp, ?_,
    fun s h p hc => .intro (show execHerdStatus h p s = _ from State.umRun_eq hc _) rfl,
    fun s h p x hc hp hon h5 => execClCal_up hc hp hon h5,
    fun s x w0 at_ bytes hup hf hk hb hl => execDigest_differs hup hf hk hb hl, fun s x w0 at_ bytes hb => ?_,
    fun s x w0 w1 ago f hup hf hk hsrc hon hv hno hfr => execTimemark_takes hup hf hk hsrc hon hv hno hfr,
    fun s x w0 w1 ago hup hf hk hsrc => execTimemark_other hup hf hk hsrc⟩
  · exact .intro ((exec_herdGuardCheck ha hr hherd hg hdue).trans (by rw [if_pos hall]))
      ⟨by rw [State.updTw_tw], State.updTw_um .., State.updTw_regs .., State.updTw_cl ..⟩
  · intro s h p e he hc hbad
    simp only [List.mem_cons, List.not_mem_nil, or_false] at he
    rcases he with rfl | rfl
    · exact .intro (show execHerdAddrSet h p s = _ from (State.umRun_eq hc _).trans (congrArg _ (if_pos (by simpa using hbad)))) rfl
    · exact .intro (show execClCal h p s = _ from (State.umRun_eq hc _).trans (congrArg _ (if_pos (by simpa using hbad)))) rfl
  · refine .intro (t := s) ?_ rfl
    show execDigest x w0 at_ bytes s = _
    unfold execDigest
    split
    · exact if_pos (.inl hb)
    · rfl

end Sys2Proof.Machine
end

section
/-! SUPPORT. The statement about generations that fails, with the state in which it does (O47). -/

namespace Sys2Proof.Machine

set_option Elab.async false

open Sys2Proof.Tests

/-! ## A generation that names another twin as the first active one -/

/-- The generation that `leadSwap` has Armed. -/
def leadArmed : Armed :=
  { hdr := some hdrR, at_ := 0, seq := 1, herd := false, hdigest := [], expect := [], groups := [], bad := none,
    digest := List.replicate 48 0, checked := true, ok := true }

/-- Twin A in Ready while a pair is syncing, the first active one of the active image but not of the staged one, whose AT has
come. -/
def leadSwap : State :=
  let s := ((runIn 4).setFld Reg.TL_STATE F.TL_STATE_HAS_TIME 1).setFld Reg.TW_ROLE F.TW_ROLE_ROLE 1
  { (s.setFld Reg.TW_STAT F.TW_STAT_PAIR 1).updUm (fun u => { u with armed := some leadArmed, owed := [(hdrR, 0x0204)] }) with
    staged := [(Reg.TW_CFG, F.TW_CFG_FIRST_ACTIVE.put 0 1)] }

theorem leadSwap_images : leadSwap.gen = [] ∧ leadSwap.staged = [(Reg.TW_CFG, F.TW_CFG_FIRST_ACTIVE.put 0 1)] ∧
    leadSwap.um.armed = some leadArmed ∧ leadSwap.alerting = [] := ⟨rfl, rfl, rfl, rfl⟩

theorem leadSwap_meets : leadSwap.tlKnown = true ∧ tlReached leadSwap.now leadArmed.at_ = true ∧
    leadSwap.um.owed.contains (hdrR, 0x0204) = true ∧ leadSwap.mode = 4 ∧ leadSwap.isTarget = false := by decide +kernel

/-- The staged image differs in TW_CFG alone. -/
theorem leadSwap_rdS {k : Nat} (hk : k ≠ Reg.TW_CFG) : leadSwap.rdS k = leadSwap.rdG k := by
  rw [State.rdS, State.rdG, leadSwap_images.1, leadSwap_images.2.1]
  exact if_neg (Ne.symm hk)

section
variable {s : State}

theorem State.sfld_same {k : Nat} (h : s.rdS k = s.rdG k) {f : Fld} (hf : f.rwg = true) : s.sfld k f = s.fld k f := by
  rw [State.sfld, State.fld, if_pos hf, if_pos hf, h]

theorem State.freePorts_same (h : ∀ k, Reg.TW_CFG < k → s.rdS k = s.rdG k) (ns : List Nat) : s.freePorts ns = s := by
  induction ns with
  | nil => rfl
  | cons n ns ih =>
    have hctrl : s.rdS (Reg.AL_WIN_CTRL n) = s.rdG (Reg.AL_WIN_CTRL n) := h _ (by simp only [Reg.AL_WIN_CTRL, Reg.TW_CFG]; omega)
    have hsl := State.sfld_same hctrl (f := F.AL_WIN_CTRL_SLICE) rfl
    have hen := State.sfld_same hctrl (f := F.AL_WIN_CTRL_SLICE_EN) rfl
    have hup : ∀ i, s.rdS (Reg.AL_UPR n i) = s.rdG (Reg.AL_UPR n i) := fun i => h _ (by simp only [Reg.AL_UPR, Reg.TW_CFG]; omega)
    have hch : ((s.sfld (Reg.AL_WIN_CTRL n) F.AL_WIN_CTRL_SLICE != s.fld (Reg.AL_WIN_CTRL n) F.AL_WIN_CTRL_SLICE) ||
        (s.sfld (Reg.AL_WIN_CTRL n) F.AL_WIN_CTRL_SLICE_EN != s.fld (Reg.AL_WIN_CTRL n) F.AL_WIN_CTRL_SLICE_EN) ||
        (List.range 4).any (fun i => s.rdS (Reg.AL_UPR n i) != s.rdG (Reg.AL_UPR n i))) = false := by
      simp [hsl, hen, hup]
    simp only [State.freePorts, hch, Bool.false_eq_true, if_false, dite_eq_ite, ite_self, ih]

theorem State.portsEn_same {was : SMap Word}
    (h : ∀ n, genFld was (Reg.AL_CTRL n) F.AL_CTRL_EN = s.fld (Reg.AL_CTRL n) F.AL_CTRL_EN) (ns : List Nat) : s.portsEn was ns = s := by
  induction ns with
  | nil => rfl
  | cons n ns ih =>
    have hoff : ¬ (s.fld (Reg.AL_CTRL n) F.AL_CTRL_EN = 1 ∧ s.fld (Reg.AL_CTRL n) F.AL_CTRL_EN = 0) := by omega
    have hup : ¬ (s.fld (Reg.AL_CTRL n) F.AL_CTRL_EN = 0 ∧ s.fld (Reg.AL_CTRL n) F.AL_CTRL_EN = 1) := by omega
    simp only [State.portsEn, h n, if_neg hoff, if_neg hup, dite_eq_ite, ite_self, ih]

theorem State.isTarget_congr {t : State} (hr : t.regs = s.regs) (hg : t.gen = s.gen) : t.isTarget = s.isTarget ∧ t.isSource = s.isSource ∧
    t.mode = s.mode ∧ t.synced = s.synced := by
  have hf : ∀ k f, t.fld k f = s.fld k f := fun k f => State.fld_eq f (State.rdW_of_regs hr k) (State.rdG_of_gen hg k)
  simp only [State.isTarget, State.isSource, State.sourceSide, State.role, State.pair, State.mode, State.synced, State.flag, hf, and_self]

end

/-- The images exchanged. -/
def leadSwapped : State := leadSwap.swapImages leadArmed

theorem leadSwapped_facts : leadSwapped.isTarget = true ∧ leadSwapped.isSource = false ∧ leadSwapped.mode = 4 ∧
    leadSwapped.synced = false := by decide +kernel

/-- What GEN_TAKES_EFFECT does up to the images' exchange, and the ports that it turns on and off. -/
def State.exchanged (s : State) (a : Armed) : State :=
  ((((s.teardowns (s.boundSlices.filter (fun sl => s.unbinds sl))).freePorts (List.range 96)).dropPails
    (listed s.gen (Reg.VAT_PAIL_A 0) 0x40 16384)).swapImages a).portsEn s.gen (List.range 96)

/-- What it tells the links, and the twin. -/
def State.told (s : State) : State :=
  let s := (if s.alerting.isEmpty then s else s.setFld Reg.EV_ALERT F.EV_ALERT_ALERT 1).sendDigests [0, 1, 2, 3]
  if s.isSource ∧ s.pair = 1 then (s.updTw (fun w => { w with syncSent := false })).evTw 5 else s

/-- The mode that it enters from Ready. -/
def State.entered (s : State) : State :=
  if s.mode = 4 then (if s.isTarget = false then s.setMode 5 0x07 else if s.synced then s.setMode 7 0x08 else s) else s

theorem exec_genTakesEffect {s : State} {a : Armed} {h : UmHdr} (ha : s.um.armed = some a) (hh : a.hdr = some h)
    (hc : s.atCome = true) : exec .genTakesEffect s =
      .next (((s.exchanged a).told.entered.rtAll.evUm 2).final h 0x0204 stOK noDetail (leBytes 8 (tlOf a.at_).toNat)) := by
  show execGenTakesEffect s = _
  unfold execGenTakesEffect
  rw [ha]
  dsimp only
  rw [if_pos hc, hh]
  rfl

theorem leadSwap_exchanged : leadSwap.exchanged leadArmed = leadSwapped := by
  obtain ⟨hgen, hstaged, -⟩ := leadSwap_images
  have hbound : leadSwap.boundSlices = [] := by
    rw [State.boundSlices, hgen]
    rfl
  have hports : ∀ n, genFld leadSwap.gen (Reg.AL_CTRL n) F.AL_CTRL_EN = leadSwapped.fld (Reg.AL_CTRL n) F.AL_CTRL_EN := by
    intro n
    have hne : Reg.AL_CTRL n ≠ Reg.TW_CFG := by simp only [Reg.AL_CTRL, Reg.TW_CFG]; omega
    rw [State.fld_rwg _ _ rfl, show leadSwapped.rdG (Reg.AL_CTRL n) = leadSwap.rdS (Reg.AL_CTRL n) from rfl, leadSwap_rdS hne]
    rfl
  unfold State.exchanged
  rw [hbound, show leadSwap.teardowns ([].filter fun sl => leadSwap.unbinds sl) = leadSwap from rfl,
    State.freePorts_same (fun k hk => leadSwap_rdS (Nat.ne_of_gt hk)), show listed leadSwap.gen (Reg.VAT_PAIL_A 0) 0x40 16384 = [] from rfl]
  exact State.portsEn_same hports _

theorem leadSwapped_told : leadSwapped.told.regs = leadSwapped.regs ∧ leadSwapped.told.gen = leadSwapped.gen := by
  obtain ⟨-, hsource, -⟩ := leadSwapped_facts
  have hregs : (leadSwapped.sendDigests [0, 1, 2, 3]).regs = leadSwapped.regs := (State.sendDigests_in ..).same .regs rfl
  have hgen : (leadSwapped.sendDigests [0, 1, 2, 3]).gen = leadSwapped.gen := (State.sendDigests_in ..).same .gen rfl
  have hsrc := (State.isTarget_congr hregs hgen).2.1.trans hsource
  unfold State.told
  rw [show leadSwapped.alerting.isEmpty = true from rfl, if_pos rfl]
  dsimp only
  rw [if_neg (by rw [hsrc]; exact fun h => Bool.false_ne_true h.1)]
  exact ⟨hregs, hgen⟩

/-- The commit leaves the device in Ready. -/
theorem mode_genTakesEffect_leadSwap : (((leadSwap.exchanged leadArmed).told.entered.rtAll.evUm 2).final hdrR 0x0204 stOK noDetail
    (leBytes 8 (tlOf leadArmed.at_).toNat)).mode = 4 := by
  obtain ⟨htarget, -, hmode, hsynced⟩ := leadSwapped_facts
  obtain ⟨hregs, hgen⟩ := leadSwapped_told
  obtain ⟨htarget', -, hmode', hsynced'⟩ := State.isTarget_congr hregs hgen
  have hentered : leadSwapped.told.entered = leadSwapped.told := by
    rw [State.entered, hmode', hmode, if_pos rfl, htarget', htarget, if_neg (by decide), hsynced', hsynced,
      if_neg Bool.false_ne_true]
  rw [leadSwap_exchanged, hentered, State.mode_eq_of_rdW (s := leadSwapped), hmode]
  rw [State.rdW_of_regs (State.final_regs _ _ _ _ (by decide)), State.evUm, State.rdW_occur _ (by decide) (by decide),
    State.rdW_rtAll _ (by decide), State.rdW_of_regs hregs]

/-- Refutes O47: FIRST_ACTIVE is a field of the generation, so that its commit can make a device the target of its pair, which then
stays in Ready; the clause of GEN_TAKES_EFFECT asks the active image for it, and promises Run. -/
theorem not_generationsOpenArmAndTakeEffect : ¬ Obligations.GenerationsOpenArmAndTakeEffect := by
  unfold Obligations.GenerationsOpenArmAndTakeEffect
  rintro ⟨-, -, -, -, -, -, -, -, -, -, -, -, hcommit, -⟩
  obtain ⟨htl, hat, howed, hmode, htarget⟩ := leadSwap_meets
  have harmed := leadSwap_images.2.2.1
  obtain ⟨t, hexec, -, -, -, -, -, -, -, -, -, hrun, -⟩ :=
    hcommit leadSwap leadArmed hdrR harmed rfl htl hat rfl howed rfl rfl rfl
  have hcome : leadSwap.atCome = true := by
    rw [State.atCome, harmed]
    dsimp only
    rw [htl, hat]
    rfl
  rw [exec_genTakesEffect harmed rfl hcome] at hexec
  have h5 := hrun hmode htarget
  rw [← Host.Outcome.next.inj hexec, mode_genTakesEffect_leadSwap] at h5
  cases h5

end Sys2Proof.Machine
end

section
/-! SUPPORT. The ends of what holds a weight window (O13). -/

namespace Sys2Proof.Machine

set_option Elab.async false

theorem evKey_above {k : Nat} (h : 0x312000 ≤ k) : evKey k = false := by
  rw [Bool.eq_false_iff]
  simp only [evKey, ne_eq, Bool.or_eq_true, Bool.and_eq_true, decide_eq_true_eq]
  simp only [Reg.LOG_SEQ, Reg.LOG_LOST]
  omega

/-! ## The units of a weight window (R164) -/

/-- Each unit of a list changed. -/
def State.eachUnit (s : State) (us : List Nat) (f : UnitRt → UnitRt) : State := us.foldl (fun s u => s.updUnit u f) s

section
variable (f : UnitRt → UnitRt)

theorem State.eachUnit_parts (us : List Nat) : ∀ s : State, (s.eachUnit us f).regs = s.regs ∧ (s.eachUnit us f).gen = s.gen ∧
    (s.eachUnit us f).groups = s.groups ∧ (s.eachUnit us f).um = s.um := by
  induction us with
  | nil => exact fun _ => ⟨rfl, rfl, rfl, rfl⟩
  | cons u us ih =>
    intro s
    obtain ⟨hregs, hgen, hgroups, hum⟩ := ih (s.updUnit u f)
    exact ⟨hregs.trans (State.updUnit_regs ..), hgen.trans (State.updUnit_gen ..), hgroups.trans (State.updUnit_groups ..),
      hum.trans (State.updUnit_um ..)⟩

theorem State.unit_eachUnit_other {u : Nat} (us : List Nat) : ∀ s : State, u ∉ us → (s.eachUnit us f).unit u = s.unit u := by
  induction us with
  | nil => exact fun _ _ => rfl
  | cons v us ih =>
    intro s h
    obtain ⟨hv, hus⟩ := not_or.1 fun hm => h (List.mem_cons.2 hm)
    exact (ih _ hus).trans (State.unit_updUnit_other _ _ hv)

theorem State.unit_eachUnit_nodup {u : Nat} (us : List Nat) : ∀ s : State, us.Nodup → u ∈ us →
    (s.eachUnit us f).unit u = f (s.unit u) := by
  induction us with
  | nil => exact fun _ _ h => absurd h List.not_mem_nil
  | cons v us ih =>
    intro s hnd hu
    obtain ⟨hv, hus⟩ := List.nodup_cons.1 hnd
    rcases List.mem_cons.1 hu with rfl | hu
    · exact (State.unit_eachUnit_other f us _ hv).trans (State.unit_updUnit ..)
    · exact (ih _ hus hu).trans (congrArg f (State.unit_updUnit_other _ _ fun e => hv (e ▸ hu)))

/-- A change that may be made twice needs no list without repetitions. -/
theorem State.unit_eachUnit_idem (hf : ∀ r, f (f r) = f r) {u : Nat} (us : List Nat) : ∀ s : State, u ∈ us →
    (s.eachUnit us f).unit u = f (s.unit u) := by
  induction us with
  | nil => exact fun _ h => absurd h List.not_mem_nil
  | cons v us ih =>
    intro s hu
    by_cases huv : u = v
    · subst huv
      by_cases hus : u ∈ us
      · exact (ih _ hus).trans (by rw [State.unit_updUnit, hf])
      · exact (State.unit_eachUnit_other f us _ hus).trans (State.unit_updUnit ..)
    · exact (ih _ ((List.mem_cons.1 hu).resolve_left huv)).trans (congrArg f (State.unit_updUnit_other _ _ huv))

end

/-! ## The ends of holds (R153, R154, R158 to R160) -/

section
variable {s : State} {g : Group}

theorem groupUnit_mem_windowUnits : s.groupUnit g ∈ s.windowUnits g := List.mem_cons_self ..

/-- SYNC's end, before the held accesses. -/
def State.syncEnded (s : State) (g : Nat) : State :=
  (((s.eachUnit (s.windowUnits g) UnitRt.syncHalves).setFld (Reg.CH_WB_STATUS g) F.CH_WB_STATUS_DIRTY 0).setFld (Reg.CH_WB_STATUS g)
    F.CH_WB_STATUS_SYNC_BUSY 0).updGrp g fun r => { r with syncEnd := none }

theorem execWbSyncComplete_completes {c : Nat} (hend : (s.grp g).syncEnd = some c) (hc : c ≤ s.coreNow) :
    Completes (.wbSyncComplete g) s fun t => ∃ v : State, t = v.releaseHeld g ∧ (v.grp g).syncEnd = none ∧
      (v.unit (s.groupUnit g)).shadow = (s.unit (s.groupUnit g)).active ∧
      (v.unit (s.groupUnit g)).shaBad = (s.unit (s.groupUnit g)).actBad ∧
      (v.unit (s.groupUnit g)).active = (s.unit (s.groupUnit g)).active ∧
      v.fld (Reg.CH_WB_STATUS g) F.CH_WB_STATUS_DIRTY = 0 ∧ v.fld (Reg.CH_WB_STATUS g) F.CH_WB_STATUS_SYNC_BUSY = 0 ∧
      RegsKept [Reg.CH_WB_STATUS g] s v := by
  have hexec : exec (.wbSyncComplete g) s = .next ((s.syncEnded g).releaseHeld g) := by
    show execWbSyncComplete g s = _
    unfold execWbSyncComplete
    rw [hend]
    exact if_pos hc
  have hunit : (s.syncEnded g).unit (s.groupUnit g) = (s.unit (s.groupUnit g)).syncHalves := by
    rw [State.syncEnded, State.unit_of_units (State.updGrp_units ..), State.unit_of_units (State.setFld_units ..),
      State.unit_of_units (State.setFld_units ..)]
    exact State.unit_eachUnit_idem UnitRt.syncHalves (fun _ => rfl) _ _ groupUnit_mem_windowUnits
  have hregs := (State.eachUnit_parts UnitRt.syncHalves (s.windowUnits g) s).1
  refine .intro hexec ⟨s.syncEnded g, rfl, ?_, by rw [hunit]; rfl, by rw [hunit]; rfl, by rw [hunit]; rfl, ?_, ?_, ?_⟩
  · rw [State.syncEnded, State.grp_updGrp]
  · rw [State.syncEnded, State.updGrp_fld, State.fld_setFld_other _ _ _ _ _ (by decide), State.fld_setFld _ _ _ _ (by decide), Nat.zero_mod]
  · rw [State.syncEnded, State.updGrp_fld, State.fld_setFld _ _ _ _ (by decide), Nat.zero_mod]
  · exact (RegsKept.of_regs _ hregs).trans ((RegsKept.setFld _ _ _ (List.mem_singleton_self _)).trans
      ((RegsKept.setFld _ _ _ (List.mem_singleton_self _)).trans (.of_regs _ (State.updGrp_regs ..))))

/-- The exchange of a RESTORE, before its reply and the held accesses. -/
def State.restored (s : State) (g : Nat) : State :=
  ((((s.eachUnit (s.windowUnits g) UnitRt.swapHalves).setFld (Reg.CH_WB_STATUS g) F.CH_WB_STATUS_DIRTY 0).setFld (Reg.CH_WB_STATUS g)
    F.CH_WB_STATUS_ABSENT 0).setFld (Reg.CH_WB_STATUS g) F.CH_WB_STATUS_RESTORE_FAIL 0).updGrp g fun r =>
      { r with exchanged := true, restOk := false, restHdr := none }

theorem State.restored_unit (hnd : (s.windowUnits g).Nodup) {u : Nat} (hu : u ∈ s.windowUnits g) :
    (s.restored g).unit u = (s.unit u).swapHalves := by
  rw [State.restored, State.unit_of_units (State.updGrp_units ..), State.unit_of_units (State.setFld_units ..),
    State.unit_of_units (State.setFld_units ..), State.unit_of_units (State.setFld_units ..)]
  exact State.unit_eachUnit_nodup _ _ _ hnd hu

theorem State.restored_fields : (s.restored g).fld (Reg.CH_WB_STATUS g) F.CH_WB_STATUS_ABSENT = 0 ∧
    (s.restored g).fld (Reg.CH_WB_STATUS g) F.CH_WB_STATUS_RESTORE_FAIL = 0 ∧
    (s.restored g).fld (Reg.CH_WB_STATUS g) F.CH_WB_STATUS_DIRTY = 0 := by
  refine ⟨?_, ?_, ?_⟩
  · rw [State.restored, State.updGrp_fld, State.fld_setFld_other _ _ _ _ _ (by decide), State.fld_setFld _ _ _ _ (by decide), Nat.zero_mod]
  · rw [State.restored, State.updGrp_fld, State.fld_setFld _ _ _ _ (by decide), Nat.zero_mod]
  · rw [State.restored, State.updGrp_fld, State.fld_setFld_other _ _ _ _ _ (by decide), State.fld_setFld_other _ _ _ _ _ (by decide),
      State.fld_setFld _ _ _ _ (by decide), Nat.zero_mod]

theorem State.restored_grp : (s.restored g).grp g = { s.grp g with exchanged := true, restOk := false, restHdr := none } := by
  rw [State.restored, State.grp_updGrp, State.grp_of_groups (State.setFld_groups ..), State.grp_of_groups (State.setFld_groups ..),
    State.grp_of_groups (State.setFld_groups ..), State.grp_of_groups (State.eachUnit_parts _ _ _).2.2.1]

theorem State.restored_um : (s.restored g).um = s.um := by
  rw [State.restored, State.updGrp_um, State.setFld_um, State.setFld_um, State.setFld_um]
  exact (State.eachUnit_parts _ _ _).2.2.2

/-- What a RESTORE's exchange leaves, and the held accesses after it (R160). -/
theorem State.restoreExchange_spec (hnd : (s.windowUnits g).Nodup) : ∃ v : State, s.restoreExchange g = v.releaseHeld g ∧
    v.grp g = { s.grp g with exchanged := true, restOk := false, restHdr := none } ∧
    (∀ u ∈ s.windowUnits g, (v.unit u).active = (s.unit u).shadow ∧ (v.unit u).shadow = (s.unit u).active) ∧
    (v.fld (Reg.CH_WB_STATUS g) F.CH_WB_STATUS_ABSENT = 0 ∧ v.fld (Reg.CH_WB_STATUS g) F.CH_WB_STATUS_RESTORE_FAIL = 0 ∧
      v.fld (Reg.CH_WB_STATUS g) F.CH_WB_STATUS_DIRTY = 0) ∧
    ∀ h, (s.grp g).restHdr = some h → v.um = (s.final h 0x0503 stOK noDetail []).um := by
  have hunits : ∀ v : State, v.units = (s.restored g).units → ∀ u ∈ s.windowUnits g,
      (v.unit u).active = (s.unit u).shadow ∧ (v.unit u).shadow = (s.unit u).active := by
    intro v hv u hu
    rw [State.unit_of_units hv, State.restored_unit hnd hu]
    exact ⟨rfl, rfl⟩
  cases hh : (s.grp g).restHdr with
  | none =>
    refine ⟨s.restored g, ?_, State.restored_grp, hunits _ rfl, State.restored_fields, fun h he => nomatch he⟩
    unfold State.restoreExchange
    rw [hh]
    rfl
  | some h =>
    have hregs := State.final_regs (s := s.restored g) h 0x0503 noDetail [] (st := stOK) (by decide)
    have hfld : ∀ f, ((s.restored g).final h 0x0503 stOK noDetail []).fld (Reg.CH_WB_STATUS g) f =
        (s.restored g).fld (Reg.CH_WB_STATUS g) f :=
      fun f => State.fld_eq f (State.rdW_of_regs hregs _) (State.rdG_of_gen (State.final_gen ..) _)
    refine ⟨(s.restored g).final h 0x0503 stOK noDetail [], ?_, (State.grp_of_groups (State.final_groups ..) g).trans State.restored_grp,
      hunits _ (State.final_units ..), by rw [hfld, hfld, hfld]; exact State.restored_fields, fun h' he => ?_⟩
    · unfold State.restoreExchange
      rw [hh]
      rfl
    · obtain rfl := Option.some.inj he
      exact State.final_um_congr State.restored_um h 0x0503 noDetail [] (by decide)

/-- A RESTORE whose digest does not match, before the held accesses. -/
def State.restoreFailed (s : State) (g : Nat) : State :=
  (((s.updGrp g fun r => { r with restEnd := none }).setFld (Reg.CH_WB_STATUS g) F.CH_WB_STATUS_RESTORE_FAIL 1).logKind 0x06 g).updGrp g
    fun r => { r with restHdr := none }

theorem State.restoreFailed_parts : ((s.restoreFailed g).grp g).restEnd = none ∧ (s.restoreFailed g).units = s.units ∧
    (s.restoreFailed g).um = s.um ∧ (s.restoreFailed g).gen = s.gen ∧
    (s.restoreFailed g).rdW (Reg.CH_WB_STATUS g) = F.CH_WB_STATUS_RESTORE_FAIL.put (s.rdW (Reg.CH_WB_STATUS g)) 1 := by
  have hlog : ∀ (u : State) (k n : Nat), (u.logKind k n).units = u.units ∧ (u.logKind k n).um = u.um ∧ (u.logKind k n).gen = u.gen ∧
      (u.logKind k n).groups = u.groups := fun u k n =>
    have h := State.logKind_in u k n
    ⟨h.same .units rfl, h.same .um rfl, h.same .gen rfl, h.same .groups rfl⟩
  refine ⟨?_, ?_, ?_, ?_, ?_⟩
  · rw [State.restoreFailed, State.grp_updGrp, State.grp_of_groups (hlog ..).2.2.2, State.grp_of_groups (State.setFld_groups ..),
      State.grp_updGrp]
  · rw [State.restoreFailed, State.updGrp_units, (hlog ..).1, State.setFld_units, State.updGrp_units]
  · rw [State.restoreFailed, State.updGrp_um, (hlog ..).2.1, State.setFld_um, State.updGrp_um]
  · rw [State.restoreFailed, State.updGrp_gen, (hlog ..).2.2.1, State.setFld_gen, State.updGrp_gen]
  · have hne : Reg.CH_WB_STATUS g ≠ Reg.LOG_SEQ ∧ Reg.CH_WB_STATUS g ≠ Reg.LOG_LOST := by
      simp only [Reg.CH_WB_STATUS, Reg.LOG_SEQ, Reg.LOG_LOST]
      omega
    rw [State.restoreFailed, State.updGrp_rdW, State.logKind, State.rdW_logPut _ _ hne.1 hne.2, State.rdW_setFld, State.updGrp_rdW]

section
variable {c : Nat} (hend : (s.grp g).restEnd = some c) (hc : c ≤ s.coreNow)
include hend hc

theorem execWbRestoreComplete_differs (hne : sha384 (halfBytes (s.unit (s.groupUnit g)).shadow) ≠ s.rdWide (Reg.CH_WB_DIGEST g)) :
    exec (.wbRestoreComplete g) s = .next (((s.grp g).restHdr.elim (s.restoreFailed g) fun h =>
      (s.restoreFailed g).final h 0x0503 stWbRestoreFail noDetail []).releaseHeld g) := by
  have hh : ((s.updGrp g fun r => { r with restEnd := none }).grp g).restHdr = (s.grp g).restHdr := by rw [State.grp_updGrp]
  show execWbRestoreComplete g s = _
  unfold execWbRestoreComplete
  rw [hend]
  dsimp only
  rw [if_pos hc, hh]
  refine (if_neg ?_).trans ?_
  · exact hne
  · cases (s.grp g).restHdr <;> rfl

theorem execWbRestoreComplete_equal (he : sha384 (halfBytes (s.unit (s.groupUnit g)).shadow) = s.rdWide (Reg.CH_WB_DIGEST g)) :
    exec (.wbRestoreComplete g) s =
      (let u := (s.updGrp g fun r => { r with restEnd := none }).updGrp g fun r => { r with restOk := true }
       .next (if (s.unit (s.groupUnit g)).passes.isEmpty then u.restoreExchange g else u)) := by
  show execWbRestoreComplete g s = _
  unfold execWbRestoreComplete
  rw [hend]
  dsimp only
  rw [if_pos hc]
  refine (if_pos ?_).trans rfl
  exact he

theorem execWbRestoreComplete_completes (hnd : (s.windowUnits g).Nodup) : Completes (.wbRestoreComplete g) s fun t =>
    (sha384 (halfBytes (s.unit (s.groupUnit g)).shadow) ≠ s.rdWide (Reg.CH_WB_DIGEST g) → ∃ v : State,
      t = v.releaseHeld g ∧ (v.grp g).restEnd = none ∧ v.fld (Reg.CH_WB_STATUS g) F.CH_WB_STATUS_RESTORE_FAIL = 1 ∧
      v.fld (Reg.CH_WB_STATUS g) F.CH_WB_STATUS_ABSENT = s.fld (Reg.CH_WB_STATUS g) F.CH_WB_STATUS_ABSENT ∧ v.units = s.units ∧
      (∀ h, (s.grp g).restHdr = some h → v.um = (s.final h 0x0503 stWbRestoreFail noDetail []).um)) ∧
    (sha384 (halfBytes (s.unit (s.groupUnit g)).shadow) = s.rdWide (Reg.CH_WB_DIGEST g) →
      ((s.unit (s.groupUnit g)).passes ≠ [] → (t.grp g).restEnd = none ∧ (t.grp g).restOk = true ∧ t.units = s.units ∧
        t.regs = s.regs) ∧
      ((s.unit (s.groupUnit g)).passes = [] → ∃ v : State, t = v.releaseHeld g ∧ (v.grp g).restEnd = none ∧
        (v.grp g).restOk = false ∧ (∀ u ∈ s.windowUnits g, (v.unit u).active = (s.unit u).shadow) ∧
        v.fld (Reg.CH_WB_STATUS g) F.CH_WB_STATUS_ABSENT = 0 ∧ v.fld (Reg.CH_WB_STATUS g) F.CH_WB_STATUS_RESTORE_FAIL = 0)) := by
  by_cases he : sha384 (halfBytes (s.unit (s.groupUnit g)).shadow) = s.rdWide (Reg.CH_WB_DIGEST g)
  · refine .intro (execWbRestoreComplete_equal hend hc he) ⟨fun hne => absurd he hne, fun _ => ⟨fun hp => ?_, fun hp => ?_⟩⟩
    · rw [if_neg (by simpa using hp)]
      refine ⟨by rw [State.grp_updGrp, State.grp_updGrp], by rw [State.grp_updGrp], ?_, ?_⟩
      · rw [State.updGrp_units, State.updGrp_units]
      · rw [State.updGrp_regs, State.updGrp_regs]
    · rw [if_pos (by rw [hp]; rfl)]
      obtain ⟨v, hv, hgrp, hunits, ⟨habs, hfail, -⟩, -⟩ := State.restoreExchange_spec
        (s := (s.updGrp g fun r => { r with restEnd := none }).updGrp g fun r => { r with restOk := true }) (g := g) hnd
      refine ⟨v, hv, ?_, by rw [hgrp], fun u hu => (hunits u hu).1, habs, hfail⟩
      rw [hgrp, State.grp_updGrp, State.grp_updGrp]
  · obtain ⟨hend', hunits, hum, hgen, hw⟩ := State.restoreFailed_parts (s := s) (g := g)
    refine .intro (execWbRestoreComplete_differs hend hc he) ⟨fun _ => ⟨_, rfl, ?_⟩, fun h => absurd h he⟩
    have hfail : F.CH_WB_STATUS_RESTORE_FAIL.get (F.CH_WB_STATUS_RESTORE_FAIL.put (s.rdW (Reg.CH_WB_STATUS g)) 1) = 1 :=
      Fld.get_put _ _ _ (by decide)
    have habs : F.CH_WB_STATUS_ABSENT.get (F.CH_WB_STATUS_RESTORE_FAIL.put (s.rdW (Reg.CH_WB_STATUS g)) 1) =
        F.CH_WB_STATUS_ABSENT.get (s.rdW (Reg.CH_WB_STATUS g)) := Fld.get_put_other _ _ _ _ (by decide)
    cases hh : (s.grp g).restHdr with
    | none =>
      exact ⟨hend', by rw [Option.elim_none, State.fld_hw _ _ rfl, hw, hfail],
        by rw [Option.elim_none, State.fld_hw _ _ rfl, State.fld_hw _ _ rfl, hw, habs], hunits, fun h he => nomatch he⟩
    | some h =>
      have hregs := State.final_regs (s := s.restoreFailed g) h 0x0503 noDetail [] (st := stWbRestoreFail) (by decide)
      rw [Option.elim_some]
      refine ⟨by rw [State.grp_of_groups (State.final_groups ..), hend'], ?_, ?_, by rw [State.final_units, hunits], fun h' he' => ?_⟩
      · rw [State.fld_hw _ _ rfl, State.rdW_of_regs hregs, hw, hfail]
      · rw [State.fld_hw _ _ rfl, State.fld_hw _ _ rfl, State.rdW_of_regs hregs, hw, habs]
      · obtain rfl := Option.some.inj he'
        exact State.final_um_congr hum h 0x0503 noDetail [] (by decide)

end

theorem execWeightZeroingComplete_bound {u : ChUnit} {c : Nat} (hz : (s.unit u).zeroEnd = some c) (hc : c ≤ s.coreNow)
    (hg : s.unitGroup u = g.val) :
    Completes (.weightZeroingComplete u) s fun t => ∃ v : State, t = v.releaseHeld g ∧ (v.unit u).zeroEnd = none ∧
      v.fld (Reg.CH_WB_STATUS g) F.CH_WB_STATUS_ZEROING = 0 ∧
      ((s.grp g).exchanged = true → v.fld (Reg.CH_WB_STATUS g) F.CH_WB_STATUS_ABSENT = 1 ∧
        OccurredBit (416 + 4 * u + 2) (Reg.CH_EVENT u) 2 s v) ∧
      ((s.grp g).exchanged = false →
        v.fld (Reg.CH_WB_STATUS g) F.CH_WB_STATUS_ABSENT = s.fld (Reg.CH_WB_STATUS g) F.CH_WB_STATUS_ABSENT) ∧
      RegsKeptEv [Reg.CH_WB_STATUS g, Reg.CH_EVENT u] s v := by
  have hu := u.isLt
  have hlt := g.isLt
  obtain ⟨z, hzd⟩ : ∃ z, z = (s.updUnit u fun r => { r with zeroEnd := none }).setFld (Reg.CH_WB_STATUS g) F.CH_WB_STATUS_ZEROING 0 :=
    ⟨_, rfl⟩
  have hexec : exec (.weightZeroingComplete u) s = .next ((if (s.grp g).exchanged = true
      then (z.setFld (Reg.CH_WB_STATUS g) F.CH_WB_STATUS_ABSENT 1).evCh u 2 else z).releaseHeld g) := by
    show execWeightZeroingComplete u s = _
    unfold execWeightZeroingComplete
    rw [hz]
    dsimp only
    rw [if_pos hc, show (s.updUnit u fun r => { r with zeroEnd := none }).unitGroup u = g.val from hg, if_pos hlt, ← hzd,
      show z.grp g = s.grp g by rw [hzd]; rfl]
  have hkept : RegsKept [Reg.CH_WB_STATUS g] s z := by
    rw [hzd]
    exact (RegsKept.of_regs _ (State.updUnit_regs ..)).trans (.setFld _ _ _ (List.mem_singleton_self _))
  have hunit : (z.unit u).zeroEnd = none := by
    rw [hzd, State.unit_of_units (State.setFld_units ..), State.unit_updUnit]
  have hw : z.rdW (Reg.CH_WB_STATUS g) = F.CH_WB_STATUS_ZEROING.put (s.rdW (Reg.CH_WB_STATUS g)) 0 := by
    rw [hzd, State.rdW_setFld, State.updUnit_rdW]
  have hzero : F.CH_WB_STATUS_ZEROING.get (F.CH_WB_STATUS_ZEROING.put (s.rdW (Reg.CH_WB_STATUS g)) 0) = 0 :=
    Fld.get_put _ _ _ (by decide)
  refine .intro hexec ⟨_, rfl, ?_⟩
  split
  next hx =>
    have hev : evKey (Reg.CH_WB_STATUS g) = false := evKey_above (by simp only [Reg.CH_WB_STATUS]; omega)
    have hon : Reg.PW_ON ∉ [Reg.CH_WB_STATUS g] := by simp only [List.mem_singleton, Reg.CH_WB_STATUS, Reg.PW_ON]; omega
    have hcnt : Reg.EV_CNT (416 + 4 * u + 2) ∉ [Reg.CH_WB_STATUS g] := by
      simp only [List.mem_singleton, Reg.CH_WB_STATUS, Reg.EV_CNT]
      omega
    have hst : ((z.setFld (Reg.CH_WB_STATUS g) F.CH_WB_STATUS_ABSENT 1).evCh u 2).rdW (Reg.CH_WB_STATUS g) =
        F.CH_WB_STATUS_ABSENT.put (z.rdW (Reg.CH_WB_STATUS g)) 1 := by
      rw [State.evCh, State.rdW_occurBit _ (by omega) _ _ hev (by simp only [Reg.CH_WB_STATUS, Reg.CH_EVENT]; omega),
        State.rdW_setFld]
    have hkept' := hkept.trans (RegsKept.setFld z F.CH_WB_STATUS_ABSENT 1 (List.mem_singleton_self _))
    refine ⟨?_, ?_, fun _ => ⟨?_, ?_⟩, fun h => absurd hx (by rw [h]; decide), ?_⟩
    · rw [State.unit_of_units (State.evCh_units ..), State.unit_of_units (State.setFld_units ..), hunit]
    · rw [State.fld_hw _ _ rfl, hst, Fld.get_put_other _ _ _ _ (by decide), hw, hzero]
    · rw [State.fld_hw _ _ rfl, hst, Fld.get_put _ _ _ (by decide)]
      rfl
    · exact (State.occurredBit _ (by omega) (by omega) (by decide) none (evKey_above (by simp only [Reg.CH_EVENT]; omega))
        (by simp only [Reg.CH_EVENT, Reg.PW_ON]; omega)).before (hkept' _ hon) (hkept' _ hcnt)
    · exact (hkept'.ev.mono (by simp)).trans (RegsKeptEv.occurBit _ _ (by omega) _ _ (by simp))
  next hx =>
    exact ⟨hunit, by rw [State.fld_hw _ _ rfl, hw, hzero], fun h => absurd h hx,
      fun _ => by rw [State.fld_hw _ _ rfl, State.fld_hw _ _ rfl, hw, Fld.get_put_other _ _ _ _ (by decide)],
      hkept.ev.mono (by simp)⟩

end

/-- Settles O13: the ends of SYNC, of RESTORE, of the lock and of the zeroing, each with the held accesses after it. -/
theorem weightHoldsEndAndHalvesExchange : Obligations.WeightHoldsEndAndHalvesExchange := by
  refine ⟨fun s g c hend hc => execWbSyncComplete_completes hend hc,
    fun s g c hend hc hnd => execWbRestoreComplete_completes hend hc hnd, fun s g hok hp hnd => ?_, fun s g c hl hall => ?_,
    fun s u g c hz hc hg => execWeightZeroingComplete_bound hz hc hg, fun s u c hz hc hg => ?_⟩
  · obtain ⟨v, hv, hgrp, hunits, ⟨habs, hfail, hdirty⟩, hum⟩ := State.restoreExchange_spec hnd
    refine .intro (show execWbRestoreExchange g s = _ from if_pos (by rw [hok, hp]; rfl))
      ⟨v, hv, by rw [hgrp], by rw [hgrp], hunits, habs, hfail, hdirty, hum⟩
  · refine .intro (t := ((s.setFld (Reg.CH_WB_STATUS g) F.CH_WB_STATUS_LOCK 0).updGrp g fun r => { r with lockCore := none }).releaseHeld g)
      ?_ ⟨_, rfl, by rw [State.grp_updGrp], ?_, ?_, ?_⟩
    · show execWeightLockEnd g s = _
      unfold execWeightLockEnd
      rw [hl]
      exact if_pos hall
    · rw [State.updGrp_fld, State.fld_setFld _ _ _ _ (by decide), Nat.zero_mod]
    · rw [State.updGrp_units, State.setFld_units]
    · exact (RegsKept.setFld s _ _ (List.mem_singleton_self _)).trans (.of_regs _ (State.updGrp_regs ..))
  · refine .intro (t := s.updUnit u fun r => { r with zeroEnd := none }) ?_ ⟨State.unit_updUnit .., State.updUnit_regs ..⟩
    show execWeightZeroingComplete u s = _
    unfold execWeightZeroingComplete
    rw [hz]
    dsimp only
    rw [if_pos hc]
    exact if_neg (Nat.not_lt.2 hg)

end Sys2Proof.Machine
end

section
/-! SUPPORT. The Vat's header tests, bank initialisation, and rows queued and repaired (O16). -/

namespace Sys2Proof.Machine

set_option Elab.async false

/-! ## Two occurrences in one step -/

section
variable (s : State) {i j k b : Nat} (hi : i < 1024) (det : Option Nat) (hk : evKey k = false) (hj : j < 1024)
include hi hk hj

/-- The count of another source than HL_ERR stays. -/
theorem State.evCnt_occurBit (hij : j ≠ i) (hm : ∀ m < 32, j ≠ 289 + 4 * m) :
    (s.occurBit i k b det).rdW (Reg.EV_CNT j) = s.rdW (Reg.EV_CNT j) := by
  unfold State.occurBit
  extract_lets was x y
  have hx : x.rdW (Reg.EV_CNT j) = s.rdW (Reg.EV_CNT j) :=
    State.rdW_setBitsOf_other s _ (Ne.symm ((evKey_false hk).2.2.2.1 j hj).1)
  have hy : y.rdW (Reg.EV_CNT j) = x.rdW (Reg.EV_CNT j) := State.rdW_cnt_other x (by simp only [Reg.EV_CNT]; omega)
  rw [← hx, ← hy]
  clear_value y x
  split
  · split
    · rfl
    · rw [State.evCnt_raiseActs _ _ hi _ _ hj hm, State.rdW_rose]
  · exact hy.symm

omit hi in
/-- What is raised stays so. -/
theorem State.raised_occurBit_mono (h : s.raised j = true) : (s.occurBit i k b det).raised j = true := by
  unfold State.occurBit
  extract_lets was x y
  have hx : x.raised j = true :=
    (State.raised_congr j (State.rdW_setBitsOf_other s _ (Ne.symm ((evKey_false hk).2.2.2.1 j hj).2))).trans h
  have hy : y.raised j = true := (State.raised_cnt x i hj).trans hx
  clear_value y x
  split
  · split
    · exact hy
    · exact State.raised_raiseActs_mono _ _ _ _ _ hj ((State.raised_congr j (State.rdW_rose ..)).trans hy)
  · exact hx

end

theorem Occurred.after_occurBit {i j k b : Nat} {s t : State} (h : Occurred j s t) (hi : i < 1024) (det : Option Nat)
    (hk : evKey k = false) (hj : j < 1024) (hij : j ≠ i) (hm : ∀ m < 32, j ≠ 289 + 4 * m) : Occurred j s (t.occurBit i k b det) :=
  h.after (State.raised_occurBit_mono t det hk hj) (State.evCnt_occurBit t hi det hk hj hij hm)

/-! ## Drops of the Vat (R177, R192) -/

theorem State.fld_lt (s : State) (k : Nat) (f : Fld) : s.fld k f < 2 ^ f.wid := Nat.mod_lt _ (by positivity)

theorem State.pailBank_lt (s : State) (p : Pail) : s.pailBank p < 16 := by
  have hp := p.isLt
  have hb : s.fld (Reg.VAT_PAIL_A p) F.VAT_PAIL_A_BANK < 4 := State.fld_lt ..
  unfold State.pailBank pailQuad
  omega

theorem State.pailBank_of_gen {s t : State} (h : t.gen = s.gen) (p : Nat) : t.pailBank p = s.pailBank p := by
  rw [State.pailBank, State.pailBank, State.fld_rwg _ _ rfl, State.fld_rwg _ _ rfl, State.rdG_of_gen h]

section
variable (s : State) {b e : Nat} (hb : b < 16) (he : e < 4)
include hb he

theorem State.evVat_occurred : OccurredBit (512 + 4 * (b / 4) + e) (Reg.VAT_EVENT (b / 4)) e s (s.evVat b e) :=
  s.occurredBit (by omega) (by omega) (by omega) _ (evKey_above (by simp only [Reg.VAT_EVENT]; omega))
    (by simp only [Reg.VAT_EVENT, Reg.PW_ON]; omega)

theorem State.evVat_kept : RegsKeptEv [Reg.VAT_EVENT (b / 4)] s (s.evVat b e) :=
  RegsKeptEv.occurBit _ _ (by omega) _ _ (List.mem_singleton_self _)

end

/-- What a drop with a code other than a late one leaves. -/
structure VatDropped (p : Pail) (code : Nat) (s t : State) : Prop where
  pail : t.pail p = { s.pail p with lastDrop := code }
  other : ∀ m, m ≠ p.val → t.pail m = s.pail m
  counted : Counted (Reg.VAT_PAIL_DROP p) s t
  occurred : OccurredBit (512 + 4 * (s.pailBank p / 4) + 2) (Reg.VAT_EVENT (s.pailBank p / 4)) 2 s t
  noTime : code = 6 → Occurred 538 s t

theorem State.vatDrop_dropped (s : State) (p : Pail) {code : Nat} (h3 : code ≠ 3) : VatDropped p code s (s.vatDrop p code) := by
  have hp := p.isLt
  have hb := s.pailBank_lt p
  have hev : evKey (Reg.VAT_PAIL_DROP p) = false := evKey_above (by simp only [Reg.VAT_PAIL_DROP]; omega)
  -- the counter, and the Timekeeper's event of code 6
  obtain ⟨u, hu⟩ : ∃ u, u = (s.updPail p fun r => { r with lastDrop := code }).cnt (Reg.VAT_PAIL_DROP p) := ⟨_, rfl⟩
  obtain ⟨w, hw⟩ : ∃ w, w = if code = 6 then u.evTl 10 else u := ⟨_, rfl⟩
  have hpails : u.pails = (s.updPail p fun r => { r with lastDrop := code }).pails := by rw [hu, State.cnt_pails]
  have hgen : u.gen = s.gen := by rw [hu, State.cnt_gen, State.updPail_gen]
  have hkept : RegsKept [Reg.VAT_PAIL_DROP p] s u := by
    rw [hu]
    exact (RegsKept.of_regs _ (State.updPail_regs ..)).trans (.wrW _ _ (List.mem_singleton_self _))
  have hcount : u.rdW (Reg.VAT_PAIL_DROP p) = BitVec.ofNat 64 (min ((s.rdW (Reg.VAT_PAIL_DROP p)).toNat + 1) 0xFFFFFFFF) := by
    rw [hu, State.rdW_cnt, State.updPail_rdW]
  have hks : ∀ k ∈ [Reg.VAT_PAIL_DROP p], evKey k = false ∧ k ≠ Reg.PW_ON := by
    simp only [List.mem_singleton, forall_eq]
    exact ⟨hev, by simp only [Reg.VAT_PAIL_DROP, Reg.PW_ON]; omega⟩
  have hw' : w.pails = u.pails ∧ w.gen = u.gen ∧ w.rdW (Reg.VAT_PAIL_DROP p) = u.rdW (Reg.VAT_PAIL_DROP p) ∧
      w.rdW Reg.PW_ON = u.rdW Reg.PW_ON ∧
      w.rdW (Reg.EV_CNT (512 + 4 * (s.pailBank p / 4) + 2)) = u.rdW (Reg.EV_CNT (512 + 4 * (s.pailBank p / 4) + 2)) ∧
      (code = 6 → Occurred 538 s w) := by
    rw [hw]
    split
    · exact ⟨State.evTl_pails .., State.evTl_gen .., State.rdW_evTl _ (by decide) hev, State.rdW_evTl _ (by decide) (by decide),
        State.evCnt_occur _ (by decide) (by omega) (by omega) (by omega),
        fun _ => (State.occurred u (i := 538) (by decide) (by decide)).before_kept (by decide) hkept hks⟩
    · next h6 => exact ⟨rfl, rfl, rfl, rfl, rfl, fun h => absurd h h6⟩
  obtain ⟨hwp, hwg, hwc, hwon, hwe, hw6⟩ := hw'
  have heq : s.vatDrop p code = w.evVat (s.pailBank p) 2 := by
    rw [← State.pailBank_of_gen (hwg.trans hgen) p, hw, hu]
    unfold State.vatDrop
    rw [if_neg h3]
  have hpail : ∀ m, (w.evVat (s.pailBank p) 2).pail m = (s.updPail p fun r => { r with lastDrop := code }).pail m :=
    fun m => State.pail_of_pails ((State.evVat_pails ..).trans (hwp.trans hpails)) m
  rw [heq]
  refine ⟨(hpail p).trans (State.pail_updPail ..), fun m hm => (hpail m).trans (State.pail_updPail_other _ _ hm), ?_, ?_, fun h => ?_⟩
  · exact (w.evVat_kept hb (by decide) _ (by simp only [List.mem_singleton, Reg.VAT_PAIL_DROP, Reg.VAT_EVENT]; omega) hev).trans
      (hwc.trans hcount)
  · exact (w.evVat_occurred hb (by decide)).before (hwon.trans (hkept _ fun h => (hks _ h).2 rfl))
      (hwe.trans (hkept _ (by simp only [List.mem_singleton, Reg.VAT_PAIL_DROP, Reg.EV_CNT]; omega)))
  · exact (hw6 h).after_occurBit (by omega) _ (evKey_above (by simp only [Reg.VAT_EVENT]; omega)) (by decide) (by omega) (by decide)

/-- A pail whose tested header has reserved its room. -/
def PailRt.reserved (r : PailRt) (pre post : List Arrival) (a : Arrival) : PailRt :=
  { r with arrivals := pre ++ { a with tested := true, room := some r.wr } :: post, full := false,
           resv := match a.writer with
             | .chan c => useResv c (blockBytes (hLen a.h1)) r.resv
             | .port _ => r.resv }

/-- A header test never fails as a late block does. -/
theorem State.headerTest_ne (s : State) {p : Nat} {h0 h1 : Word} {avail code : Nat} (h : s.headerTest p h0 h1 avail = some code) :
    code ≠ 3 := by
  unfold State.headerTest at h
  rintro rfl
  dsimp only at h
  split at h
  · cases h
  · split at h
    · cases h
    · split at h
      · cases h
      · split at h
        · cases h
        · split at h <;> cases h

section
variable {s : State} {p : Pail} {pre post : List Arrival} {a : Arrival} (hsplit : splitUntested (s.pail p).arrivals = some (pre, a, post))
include hsplit

theorem execBlockHeaderArrival_passes (htest : s.headerTest p a.h0 a.h1 (s.arrivalRoom p a) = none) :
    Completes (.blockHeaderArrival p) s fun t =>
      (t.pail p).arrivals = pre ++ { a with tested := true, room := some (s.pail p).wr } :: post ∧ (t.pail p).full = false ∧
      (t.pail p).blocks = (s.pail p).blocks ∧ (t.pail p).wr = (s.pail p).wr ∧ t.regs = s.regs ∧
      ∀ m, m ≠ p.val → t.pail m = s.pail m := by
  refine .intro (t := s.updPail p fun r => r.reserved pre post a) ?_ ?_
  · show execBlockHeaderArrival p s = _
    unfold execBlockHeaderArrival
    rw [hsplit]
    dsimp only
    rw [htest]
    rfl
  · rw [State.pail_updPail]
    exact ⟨rfl, rfl, rfl, rfl, State.updPail_regs .., fun m hm => State.pail_updPail_other _ _ hm⟩

theorem execBlockHeaderArrival_drops {code : Nat} (htest : s.headerTest p a.h0 a.h1 (s.arrivalRoom p a) = some code) :
    Completes (.blockHeaderArrival p) s fun t =>
      (t.pail p).arrivals = pre ++ { a with tested := true, doom := some code } :: post ∧ (t.pail p).lastDrop = code ∧
      (code = 1 → (t.pail p).full = true) ∧ (t.pail p).blocks = (s.pail p).blocks ∧ (t.pail p).resv = (s.pail p).resv ∧
      Counted (Reg.VAT_PAIL_DROP p) s t ∧
      OccurredBit (512 + 4 * (s.pailBank p / 4) + 2) (Reg.VAT_EVENT (s.pailBank p / 4)) 2 s t ∧
      (code = 6 → Occurred 538 s t) ∧ (∀ m, m ≠ p.val → t.pail m = s.pail m) := by
  obtain ⟨u, hu⟩ : ∃ u, u = s.updPail p fun r => { r with
      arrivals := pre ++ { a with tested := true, doom := some code } :: post, full := decide (code = 1) } := ⟨_, rfl⟩
  have hexec : exec (.blockHeaderArrival p) s = .next (u.vatDrop p code) := by
    rw [hu]
    show execBlockHeaderArrival p s = _
    unfold execBlockHeaderArrival
    rw [hsplit]
    dsimp only
    rw [htest]
  have hpail : u.pail p = { s.pail p with
      arrivals := pre ++ { a with tested := true, doom := some code } :: post, full := decide (code = 1) } := by
    rw [hu, State.pail_updPail]
  have hregs : u.regs = s.regs := by rw [hu, State.updPail_regs]
  have hbank : u.pailBank p = s.pailBank p := State.pailBank_of_gen (by rw [hu, State.updPail_gen]) p
  obtain ⟨hp, hother, hcount, hocc, htime⟩ := u.vatDrop_dropped p (code := code) (s.headerTest_ne htest)
  have hcount' : Counted (Reg.VAT_PAIL_DROP p) s (u.vatDrop p code) := by
    rwa [Counted, State.rdW_of_regs hregs] at hcount
  rw [hbank] at hocc
  refine .intro hexec ⟨by rw [hp, hpail], by rw [hp], fun h1 => ?_, by rw [hp, hpail], by rw [hp, hpail], hcount',
    hocc.before (State.rdW_of_regs hregs _) (State.rdW_of_regs hregs _),
    fun h6 => (htime h6).before_kept (by decide) (RegsKept.of_regs [] hregs) (fun k hk => absurd hk List.not_mem_nil),
    fun m hm => (hother m hm).trans (by rw [hu, State.pail_updPail_other _ _ hm])⟩
  rw [hp, hpail]
  exact decide_eq_true h1

end

/-! ## Pending remaps (R189) -/

section
variable {s : State} {b : Bank}

theorem State.showPend_fields (u : State) (h : (u.bank b).pendq.length < 32) :
    (u.showPend b).fld (Reg.VAT_BANK_STATUS b) F.VAT_BANK_STATUS_PEND = (u.bank b).pendq.length := by
  rw [State.showPend, State.fld_setFld _ _ _ _ (by decide)]
  exact Nat.mod_eq_of_lt h

/-- An entry in the trouble log, and the repair event of the bank's quadrant. -/
def State.logRepair (s : State) (b param : Nat) : State := (s.logKind 0x05 param).evVat b 3

theorem State.logRepair_occurred (s : State) (b : Bank) (param : Nat) :
    OccurredBit (512 + 4 * (b.val / 4) + 3) (Reg.VAT_EVENT (b.val / 4)) 3 s (s.logRepair b param) := by
  have hb := b.isLt
  exact (State.evVat_occurred _ hb (by decide)).before (State.rdW_logPut _ _ (by decide) (by decide))
    (State.rdW_logPut _ _ (by simp only [Reg.EV_CNT, Reg.LOG_SEQ]; omega) (by simp only [Reg.EV_CNT, Reg.LOG_LOST]; omega))

theorem State.logRepair_kept (s : State) (b : Bank) (param : Nat) :
    RegsKeptEv [Reg.VAT_EVENT (b.val / 4)] s (s.logRepair b param) :=
  RegsKeptEv.trans (fun _ _ he => State.rdW_logKind _ _ _ he) (State.evVat_kept _ b.isLt (by decide))

theorem State.logRepair_parts (s : State) (b param : Nat) : (s.logRepair b param).pails = s.pails ∧
    (s.logRepair b param).banks = s.banks ∧ (s.logRepair b param).repairDue = s.repairDue := by
  have h := State.logKind_in s 0x05 param
  exact ⟨(State.evVat_pails ..).trans (h.same .pails rfl), (State.evVat_banks ..).trans (h.same .banks rfl),
    (State.evVat_repairDue ..).trans (h.same .repairDue rfl)⟩

end

/-- A row that joins its bank's queue, with PEND. -/
def State.queued (s : State) (b row : Nat) : State :=
  (s.updBank b fun r => { r with suspects := r.suspects.filter (fun x => x.row != row), pendq := r.pendq ++ [row] }).showPend b

section
variable {s : State} {v : BitVec 32} {b : Bank} (h31 : v.toNat.testBit 31 = true) (hb : bitsOf v.toNat 23 20 = b.val)
include h31 hb

theorem execVatRprReq_queues {row : Nat} (hrow : bitsOf v.toNat 19 0 = row) (hlt : row < 655360)
    (hfit : (s.bank b).pendq.length < 16) : exec (.vatRprReq v) s = .next ((s.queued b row).logRepair b
      (b + 3 * 2 ^ 8 + row % 1280 * 2 ^ 16 + row / 1280 * 2 ^ 32 + 0xFF * 2 ^ 48)) := by
  show execVatRprReq v s = _
  unfold execVatRprReq State.rprReq
  dsimp only
  rw [hb, hrow, if_pos ⟨h31, hlt⟩, if_neg (Nat.not_le.2 hfit)]
  rfl

theorem execVatRprReq_full (hlt : bitsOf v.toNat 19 0 < 655360) (hfull : 16 ≤ (s.bank b).pendq.length) :
    ∃ param, exec (.vatRprReq v) s = .next (s.logRepair b param) := by
  refine ⟨b + 1 * 2 ^ 8 + bitsOf v.toNat 19 0 % 1280 * 2 ^ 16 + bitsOf v.toNat 19 0 / 1280 * 2 ^ 32 + 0xFF * 2 ^ 48, ?_⟩
  show execVatRprReq v s = _
  unfold execVatRprReq State.rprReq
  dsimp only
  rw [hb, if_pos ⟨h31, hlt⟩, if_pos hfull, State.queueRemap, if_pos hfull]
  rfl

end

section
variable {s : State} {b : Bank} {row : Nat} (hfind : (s.bank b).pendq.find? (fun r => s.rowFree b r) = some row)

/-- The row leaves the queue. -/
def State.unqueued (s : State) (b row : Nat) : State := (s.updBank b fun r => { r with pendq := r.pendq.erase row }).showPend b

theorem State.unqueued_bank : (s.unqueued b row).bank b = { s.bank b with pendq := (s.bank b).pendq.erase row } := by
  rw [State.unqueued, State.showPend, State.bank_of_banks (State.setFld_banks ..), State.bank_updBank]

/-- The first queued row in a spare row of its sub-array: the bank's list … -/
def BankRt.repaired (r : BankRt) (row : Nat) : BankRt :=
  { r with pendq := r.pendq.erase row, remap := r.remap ++ [(row, r.sparesOf (row % 1280))] }

/-- … and the bank's repair register. -/
def State.remapped (s : State) (b row : Nat) : State :=
  (((s.unqueued b row).updBank b fun r => { r with remap := r.remap ++ [(row, (s.bank b).sparesOf (row % 1280))] }).setFld
    (Reg.VAT_BANK_REPAIR b) F.VAT_BANK_REPAIR_USED ((s.bank b).remap.length + 1)).setFld (Reg.VAT_BANK_REPAIR b)
    F.VAT_BANK_REPAIR_LAST_SUB (row % 1280)

theorem State.unqueued_other {m : Nat} (hm : m ≠ b.val) : (s.unqueued b row).bank m = s.bank m := by
  rw [State.unqueued, State.showPend, State.bank_of_banks (State.setFld_banks ..), State.bank_updBank_other _ _ hm]

theorem State.unqueued_kept : RegsKept [Reg.VAT_BANK_STATUS b] s (s.unqueued b row) :=
  (RegsKept.of_regs _ (State.updBank_regs ..)).trans (.setFld _ _ _ (List.mem_singleton_self _))

theorem State.remapped_bank : (s.remapped b row).bank b = (s.bank b).repaired row := by
  rw [State.remapped, State.bank_of_banks (State.setFld_banks ..), State.bank_of_banks (State.setFld_banks ..), State.bank_updBank,
    State.unqueued_bank]
  rfl

theorem State.remapped_other {m : Nat} (hm : m ≠ b.val) : (s.remapped b row).bank m = s.bank m := by
  rw [State.remapped, State.bank_of_banks (State.setFld_banks ..), State.bank_of_banks (State.setFld_banks ..),
    State.bank_updBank_other _ _ hm, State.unqueued_other hm]

theorem State.remapped_pails : (s.remapped b row).pails = s.pails := by
  rw [State.remapped, State.setFld_pails, State.setFld_pails, State.updBank_pails, State.unqueued, State.showPend, State.setFld_pails,
    State.updBank_pails]

theorem State.remapped_kept : RegsKept [Reg.VAT_BANK_STATUS b, Reg.VAT_BANK_REPAIR b] s (s.remapped b row) :=
  RegsKept.trans (fun k hk => State.unqueued_kept k fun h => hk (by simp [List.mem_singleton.1 h]))
    ((RegsKept.of_regs _ (State.updBank_regs ..)).trans ((RegsKept.setFld _ _ _ (by simp)).trans (RegsKept.setFld _ _ _ (by simp))))

theorem State.remapped_lastSub (hr : row % 1280 < 1280) :
    (s.remapped b row).fld (Reg.VAT_BANK_REPAIR b) F.VAT_BANK_REPAIR_LAST_SUB = row % 1280 := by
  rw [State.remapped, State.fld_setFld _ _ _ _ (by decide)]
  exact Nat.mod_eq_of_lt (hr.trans (by decide))

theorem State.remapped_used (hlen : (s.bank b).remap.length < 2560) :
    (s.remapped b row).fld (Reg.VAT_BANK_REPAIR b) F.VAT_BANK_REPAIR_USED = (s.bank b).remap.length + 1 := by
  rw [State.remapped, State.fld_setFld_other _ _ _ _ _ (by decide), State.fld_setFld _ _ _ _ (by decide)]
  exact Nat.mod_eq_of_lt (by show _ < 4096; omega)

theorem evKey_bankStatus (b : Bank) : ∀ k ∈ [Reg.VAT_BANK_STATUS b, Reg.VAT_BANK_REPAIR b], evKey k = false ∧ k ≠ Reg.PW_ON ∧
    (∀ i < 1024, k ≠ Reg.EV_CNT i) ∧ ∀ q < 4, k ≠ Reg.VAT_EVENT q := by
  have hb := b.isLt
  simp only [List.mem_cons, List.not_mem_nil, or_false, forall_eq_or_imp, forall_eq]
  refine ⟨⟨evKey_above ?_, ?_, fun i hi => ?_, fun q hq => ?_⟩, evKey_above ?_, ?_, fun i hi => ?_, fun q hq => ?_⟩ <;>
    simp only [Reg.VAT_BANK_STATUS, Reg.VAT_BANK_REPAIR, Reg.PW_ON, Reg.EV_CNT, Reg.VAT_EVENT] <;> omega

/-- The repair event after what writes the bank's status and repair registers alone. -/
theorem State.logRepair_occurred_after {u : State} (hk : RegsKept [Reg.VAT_BANK_STATUS b, Reg.VAT_BANK_REPAIR b] s u) (param : Nat) :
    OccurredBit (512 + 4 * (b.val / 4) + 3) (Reg.VAT_EVENT (b.val / 4)) 3 s (u.logRepair b param) := by
  have hb := b.isLt
  refine (u.logRepair_occurred b param).before (hk _ fun h => (evKey_bankStatus b _ h).2.1 rfl) (hk _ fun h => ?_)
  exact (evKey_bankStatus b _ h).2.2.1 _ (by omega) rfl

/-- … which leaves both. -/
theorem State.logRepair_fld (u : State) (param : Nat) {k : Nat} (hk : k ∈ [Reg.VAT_BANK_STATUS b, Reg.VAT_BANK_REPAIR b]) {f : Fld}
    (hf : f.rwg = false) : (u.logRepair b param).fld k f = u.fld k f := by
  have hb := b.isLt
  obtain ⟨hev, -, -, hne⟩ := evKey_bankStatus b k hk
  rw [State.fld_hw _ _ hf, State.fld_hw _ _ hf,
    u.logRepair_kept b param k (fun h => hne _ (by omega) (List.mem_singleton.1 h)) hev]

include hfind

theorem execRemapApply_repairs (hn : (s.bank b).sparesOf (row % 1280) < 2) : exec (.remapApply b) s = .next
    (((s.remapped b row).setRepairDue true).logRepair b
      (b + row % 1280 * 2 ^ 16 + row / 1280 * 2 ^ 32 + (s.bank b).sparesOf (row % 1280) * 2 ^ 48)) := by
  have hlen : (((s.unqueued b row).updBank b fun r =>
      { r with remap := r.remap ++ [(row, (s.bank b).sparesOf (row % 1280))] }).bank b).remap.length = (s.bank b).remap.length + 1 := by
    rw [State.bank_updBank, State.unqueued_bank, List.length_append]
    rfl
  show execRemapApply b s = _
  unfold execRemapApply
  rw [hfind]
  dsimp only
  rw [if_neg (Nat.not_le.2 hn), State.remapped, ← hlen]
  rfl

theorem execRemapApply_exhausted (hn : 2 ≤ (s.bank b).sparesOf (row % 1280)) : exec (.remapApply b) s = .next
    (((s.unqueued b row).setW1c (Reg.VAT_BANK_REPAIR b) F.VAT_BANK_REPAIR_EXH).logRepair b
      (b + 2 * 2 ^ 8 + row % 1280 * 2 ^ 16 + row / 1280 * 2 ^ 32 + 0xFF * 2 ^ 48)) := by
  show execRemapApply b s = _
  unfold execRemapApply
  rw [hfind]
  dsimp only
  rw [if_pos hn]
  rfl

end

/-- Settles O16: the header tests, a bank's initialisation, and rows queued and repaired. -/
theorem headersAreTestedAndRowsRepaired : Obligations.HeadersAreTestedAndRowsRepaired := by
  refine ⟨fun s p pre post a hsplit htest => execBlockHeaderArrival_passes hsplit htest,
    fun s p pre post a code hsplit htest => execBlockHeaderArrival_drops hsplit htest, fun s b c hend hc => ?_,
    fun s v b row h31 hb hrow hlt hfit => ?_, fun s v b h31 hb hlt hfull => ?_, fun s v h31 => ?_,
    fun s b row hfind hn hlen => ?_, fun s b row hfind hn => ?_⟩
  · refine .intro (t := (s.updBank b fun r => { r with init := false, initEnd := none }).setFld (Reg.VAT_BANK_STATUS b)
      F.VAT_BANK_STATUS_INIT 0) ?_ ⟨?_, ?_, ?_, fun m hm => ?_⟩
    · show execBankInitComplete b s = _
      unfold execBankInitComplete
      rw [hend]
      exact if_pos hc
    · rw [State.bank_of_banks (State.setFld_banks ..), State.bank_updBank]
    · rw [State.fld_setFld _ _ _ _ (by decide), Nat.zero_mod]
    · exact (RegsKept.of_regs _ (State.updBank_regs ..)).trans (.setFld _ _ _ (List.mem_singleton_self _))
    · rw [State.bank_of_banks (State.setFld_banks ..), State.bank_updBank_other _ _ hm]
  · have hbank : ((s.queued b row).bank b).pendq = (s.bank b).pendq ++ [row] := by
      rw [State.queued, State.showPend, State.bank_of_banks (State.setFld_banks ..), State.bank_updBank]
    have hlen : ((s.updBank b fun r => { r with suspects := r.suspects.filter (fun x => x.row != row), pendq := r.pendq ++ [row] }).bank
        b).pendq.length = (s.bank b).pendq.length + 1 := by
      rw [State.bank_updBank, List.length_append]
      rfl
    have hkept : RegsKept [Reg.VAT_BANK_STATUS b, Reg.VAT_BANK_REPAIR b] s (s.queued b row) :=
      (RegsKept.of_regs _ (State.updBank_regs ..)).trans (.setFld _ _ _ (by simp))
    obtain ⟨hpails, hbanks, -⟩ := (s.queued b row).logRepair_parts b
      (b + 3 * 2 ^ 8 + row % 1280 * 2 ^ 16 + row / 1280 * 2 ^ 32 + 0xFF * 2 ^ 48)
    refine .intro (execVatRprReq_queues h31 hb hrow hlt hfit) ⟨?_, ?_, State.logRepair_occurred_after hkept _, ?_, fun m hm => ?_⟩
    · rw [State.bank_of_banks hbanks, hbank]
    · rw [State.logRepair_fld _ _ (by simp) rfl, State.queued, State.showPend_fields _ (by omega), hlen]
    · rw [hpails, State.queued, State.showPend, State.setFld_pails, State.updBank_pails]
    · rw [State.bank_of_banks hbanks, State.queued, State.showPend, State.bank_of_banks (State.setFld_banks ..),
        State.bank_updBank_other _ _ hm]
  · obtain ⟨param, hexec⟩ := execVatRprReq_full (s := s) h31 hb hlt hfull
    exact .intro hexec ⟨(s.logRepair_parts b param).2.1, s.logRepair_occurred b param⟩
  · refine .intro (t := s) ?_ rfl
    show execVatRprReq v s = _
    unfold execVatRprReq State.rprReq
    dsimp only
    rw [if_neg (by rw [h31]; exact fun h => Bool.false_ne_true h.1)]
  · have hmod : row % 1280 < 1280 := Nat.mod_lt _ (by decide)
    have hexec := execRemapApply_repairs hfind hn
    have hkept₀ := State.remapped_kept (s := s) (b := b) (row := row)
    obtain ⟨u, hu⟩ : ∃ u, u = s.remapped b row := ⟨_, rfl⟩
    rw [← hu] at hexec hkept₀
    have hkept := hkept₀.trans (.of_regs _ (show (u.setRepairDue true).regs = u.regs from rfl))
    obtain ⟨hpails, hbanks, hdue⟩ := (u.setRepairDue true).logRepair_parts b
      (b + row % 1280 * 2 ^ 16 + row / 1280 * 2 ^ 32 + (s.bank b).sparesOf (row % 1280) * 2 ^ 48)
    have htb : ∀ m, ((u.setRepairDue true).logRepair b
        (b + row % 1280 * 2 ^ 16 + row / 1280 * 2 ^ 32 + (s.bank b).sparesOf (row % 1280) * 2 ^ 48)).bank m = u.bank m :=
      fun m => State.bank_of_banks hbanks m
    refine .intro hexec ⟨?_, ?_, ?_, ?_, hdue, State.logRepair_occurred_after hkept _, ?_, fun m hm => ?_⟩
    · rw [htb, hu, State.remapped_bank]
      exact List.mem_append_right _ (List.mem_singleton_self _)
    · rw [htb, hu, State.remapped_bank]
      rfl
    · rw [State.logRepair_fld _ _ (by simp) rfl, show (u.setRepairDue true).fld = u.fld from rfl, hu]
      exact State.remapped_lastSub hmod
    · rw [State.logRepair_fld _ _ (by simp) rfl, show (u.setRepairDue true).fld = u.fld from rfl, htb, hu, State.remapped_bank,
        State.remapped_used hlen]
      exact (List.length_append (bs := [(row, (s.bank b).sparesOf (row % 1280))])).symm
    · rw [hpails]
      show u.pails = s.pails
      rw [hu, State.remapped_pails]
    · rw [htb, hu, State.remapped_other hm]
  · obtain ⟨u, hu⟩ : ∃ u, u = (s.unqueued b row).setW1c (Reg.VAT_BANK_REPAIR b) F.VAT_BANK_REPAIR_EXH := ⟨_, rfl⟩
    have hbanks : u.banks = (s.unqueued b row).banks := by rw [hu, (State.setW1c_in ..).same .banks rfl]
    have hkept : RegsKept [Reg.VAT_BANK_STATUS b, Reg.VAT_BANK_REPAIR b] s u := by
      intro k hk
      rw [hu, State.rdW_setW1c_other _ _ fun h => hk (by simp [h]), State.unqueued_kept k fun h => hk (by simp [List.mem_singleton.1 h])]
    have hexec := execRemapApply_exhausted hfind hn
    rw [← hu] at hexec
    obtain ⟨-, hbanks', hdue⟩ := u.logRepair_parts b (b + 2 * 2 ^ 8 + row % 1280 * 2 ^ 16 + row / 1280 * 2 ^ 32 + 0xFF * 2 ^ 48)
    have htb := fun m => (State.bank_of_banks hbanks' m).trans (State.bank_of_banks hbanks m)
    refine .intro hexec ⟨?_, ?_, ?_, ?_, State.logRepair_occurred_after hkept _, fun m hm => ?_⟩
    · rw [htb, State.unqueued_bank]
    · rw [htb, State.unqueued_bank]
    · rw [State.logRepair_fld _ _ (by simp) rfl, State.fld_hw _ _ rfl, hu, State.rdW_setW1c, Fld.get_or_two_pow _ _ rfl (by decide)]
    · rw [hdue, hu, (State.setW1c_in ..).same .repairDue rfl, State.unqueued, State.showPend, State.setFld_repairDue, State.updBank_repairDue]
    · rw [htb, State.unqueued_other hm]

end Sys2Proof.Machine
end

section
/-! SUPPORT. What an A-link port's slots read, send and miss (O20). -/

namespace Sys2Proof.Machine

set_option Elab.async false

/-! ## Releases that are Missed (R28, R70, R81) -/

section
variable (s : State) (p t : Nat)

theorem State.missTx_pail : (s.missTx p t).pail p = { s.pail p with
    expect := (s.pail p).expect.erase t, lastMiss := some t,
    missed := if s.fld (Reg.AL_STAT (s.pailPort p)) F.AL_STAT_TSTATE = 5 then (s.pail p).missed ++ [tlOf t] else (s.pail p).missed } := by
  rw [State.missTx, State.pail_of_pails (State.evTl_pails ..), State.pail_updPail]
  simp only [beq_iff_eq]

theorem State.missTx_occurred : Occurred 536 s (s.missTx p t) :=
  (State.occurred _ (by decide) (by decide)).before_regs (fun k _ _ _ => State.rdW_of_regs (State.updPail_regs ..) k) (by decide)
    (State.updPail_on ..)

/-- A block's release that is Missed. -/
theorem State.missBlock_missed (b : Block) : ((s.missBlock p b).pail p).lastMiss = some (tlCount b.h0) ∧
    Occurred 536 s (s.missBlock p b) ∧ RegsKeptEv [] s (s.missBlock p b) := by
  obtain ⟨u, hu⟩ : ∃ u, u = s.updBlock p b (fun x => { x with fin := true, tx := .none }) := ⟨_, rfl⟩
  have hregs : u.regs = s.regs := by rw [hu, State.updBlock, State.updPail_regs]
  have hblock : s.missBlock p b = (u.missTx p (tlCount b.h0)).freePail p := by rw [hu]; rfl
  rw [hblock]
  refine ⟨?_, ?_, ?_⟩
  · rw [State.freePail, State.pail_updPail, State.missTx_pail]
  · exact ((u.missTx_occurred p _).before_regs (fun k _ _ _ => State.rdW_of_regs hregs k) (by decide)
      (State.on_eq_of_rdW (State.rdW_of_regs hregs _) 3)).of_regs (State.updPail_regs ..) (by decide)
  · exact (RegsKeptEv.of_regs _ hregs).trans ((u.missTx_kept p _).trans (.of_regs _ (State.updPail_regs ..)))

/-- The marker's source is the one that counts. -/
theorem State.missBlock_evCnt (b : Block) : (s.missBlock p b).rdW (Reg.EV_CNT 538) = s.rdW (Reg.EV_CNT 538) := by
  obtain ⟨u, hu⟩ : ∃ u, u = s.updBlock p b (fun x => { x with fin := true, tx := .none }) := ⟨_, rfl⟩
  have hblock : s.missBlock p b = (u.missTx p (tlCount b.h0)).freePail p := by rw [hu]; rfl
  have hregs : u.regs = s.regs := by rw [hu, State.updBlock, State.updPail_regs]
  rw [hblock, State.freePail, State.rdW_of_regs (State.updPail_regs ..), State.missTx]
  exact (State.evCnt_occur _ (by decide) (by decide) (by decide) (by omega)).trans
    ((State.rdW_of_regs (State.updPail_regs ..) _).trans (State.rdW_of_regs hregs _))

/-- A release whose output has not come is Missed ahead of its block. -/
theorem State.missAhead_pail : (s.missAhead p t).pail p = { s.pail p with
    expect := (s.pail p).expect.erase t, lastMiss := some t, gone := (s.pail p).gone ++ [t],
    missed := if s.fld (Reg.AL_STAT (s.pailPort p)) F.AL_STAT_TSTATE = 5 then (s.pail p).missed ++ [tlOf t] else (s.pail p).missed } := by
  rw [State.missAhead, State.pail_updPail, State.missTx_pail]

theorem State.missAhead_occurred : Occurred 536 s (s.missAhead p t) :=
  (s.missTx_occurred p t).of_regs (State.updPail_regs ..) (by decide)

theorem State.missAhead_kept : RegsKeptEv [] s (s.missAhead p t) := (s.missTx_kept p t).trans (.of_regs _ (State.updPail_regs ..))

end

/-! ## The context whose output a pail awaits (R28) -/

/-- A field of the RWG image depends on the active image alone. -/
theorem State.fld_of_gen {s t : State} (hg : t.gen = s.gen) (k : Nat) {f : Fld} (hf : f.rwg = true) : t.fld k f = s.fld k f := by
  rw [State.fld_rwg _ _ hf, State.fld_rwg _ _ hf, State.rdG_of_gen hg]

section
variable {s t : State} (hk : RegsKeptEv [] s t) (hg : t.gen = s.gen)

include hg in
theorem State.entryServes_congr (p u e : Nat) : t.entryServes p u e = s.entryServes p u e := by
  have hrole : t.pailRole p = s.pailRole p := State.fld_of_gen hg _ rfl
  have hport : t.pailPort p = s.pailPort p := congrArg (24 * pailQuad p + ·) (State.fld_of_gen hg _ (f := F.VAT_PAIL_A_QPORT) rfl)
  have hsid : t.pailSid p = s.pailSid p := State.fld_of_gen hg _ rfl
  unfold State.entryServes State.flag
  dsimp only
  rw [hrole, hport, hsid, State.fld_of_gen hg _ (f := F.CH_STR_EN) rfl, State.fld_of_gen hg _ (f := F.CH_STR_STREAM_ID) rfl,
    State.fld_of_gen hg _ (f := F.CH_STR_DIR) rfl, State.fld_of_gen hg _ (f := F.CH_STR_SIDE) rfl,
    State.fld_of_gen hg _ (f := F.CH_STR_PORT) rfl]

include hk hg

theorem State.groupUnit_congr (p : Nat) : t.groupUnit (t.pailGroup p) = s.groupUnit (s.pailGroup p) := by
  rw [State.pailGroup, State.fld_of_gen hg _ (f := F.VAT_PAIL_A_QPORT) rfl, ← State.pailGroup]
  refine State.fld_eq _ (hk _ List.not_mem_nil (evKey_above ?_)) (State.rdG_of_gen hg _)
  simp only [Reg.CH_WB_STATUS]
  omega

theorem State.txCtx_congr (p : Nat) : t.txCtx p = s.txCtx p := by
  have hentry : t.pailEntry p = s.pailEntry p := by
    simp only [State.pailEntry, State.groupUnit_congr hk hg, State.entryServes_congr hg]
  simp only [State.txCtx, hentry, hg, State.flag, State.fld_of_gen hg _ (f := F.CH_UCTX_A_EN) rfl]

end

/-- CH_FAULT with the context of a D-array. -/
def State.faulted (s : State) (u k : Nat) : State :=
  ((s.setFld (Reg.CH_FAULT u) F.CH_FAULT_CODE 1).setFld (Reg.CH_FAULT u) F.CH_FAULT_ARRAY 1).setFld (Reg.CH_FAULT u) F.CH_FAULT_CTX k

theorem State.chFault_eq (s : State) (u k : Nat) : s.chFault u 1 (some (1, k)) = (s.faulted u k).evCh u 3 := rfl

section
variable (s : State) {u k : Nat} (hu : u < 16)

theorem State.faulted_kept : RegsKept [Reg.CH_FAULT u] s (s.faulted u k) :=
  ((RegsKept.setFld s _ _ (List.mem_singleton_self _)).trans (.setFld _ _ _ (List.mem_singleton_self _))).trans
    (.setFld _ _ _ (List.mem_singleton_self _))

theorem evKey_chFault (u : Nat) : ∀ k ∈ [Reg.CH_FAULT u], evKey k = false := fun k hk => by
  rw [List.mem_singleton.1 hk]
  exact evKey_above (by simp only [Reg.CH_FAULT]; omega)

include hu

/-- A fault of a unit names its array and context … -/
theorem State.chFault_names (hk : k < 16) :
    (s.chFault u 1 (some (1, k))).fld (Reg.CH_FAULT u) F.CH_FAULT_CODE = 1 ∧
      (s.chFault u 1 (some (1, k))).fld (Reg.CH_FAULT u) F.CH_FAULT_ARRAY = 1 ∧
      (s.chFault u 1 (some (1, k))).fld (Reg.CH_FAULT u) F.CH_FAULT_CTX = k := by
  have hev : ∀ {f : Fld} (v : State), f.rwg = false → (v.evCh u 3).fld (Reg.CH_FAULT u) f = v.fld (Reg.CH_FAULT u) f := fun v hf => by
    rw [State.fld_hw _ _ hf, State.fld_hw _ _ hf]
    exact congrArg _ (State.rdW_occurBit v (by omega) _ _ (evKey_chFault u _ (List.mem_singleton_self _))
      (by simp only [Reg.CH_FAULT, Reg.CH_EVENT]; omega))
  rw [State.chFault_eq, hev _ rfl, hev _ rfl, hev _ rfl, State.faulted]
  refine ⟨?_, ?_, ?_⟩
  · rw [State.fld_setFld_other _ _ _ _ _ (by decide), State.fld_setFld_other _ _ _ _ _ (by decide), State.fld_setFld _ _ _ _ (by decide)]
    rfl
  · rw [State.fld_setFld_other _ _ _ _ _ (by decide), State.fld_setFld _ _ _ _ (by decide)]
    rfl
  · rw [State.fld_setFld _ _ _ _ (by decide)]
    exact Nat.mod_eq_of_lt hk

/-- … after an occurrence of another block's source, which stands. -/
theorem Occurred.chFault {t : State} {i : Nat} (h : Occurred i s t) (hi : 512 ≤ i) (hi' : i < 1024) :
    Occurred i s (t.chFault u 1 (some (1, k))) := by
  rw [State.chFault_eq]
  exact (h.after_kept hi' t.faulted_kept (evKey_chFault u)).after_occurBit (by omega) _
    (evKey_above (by simp only [Reg.CH_EVENT]; omega)) hi' (by omega) (by omega)

end

/-! ## The slot (R60, R237) -/

theorem State.testRelease_kept (s : State) (p : Nat) (b : Block) : RegsKeptEv [] s (s.testRelease p b) := by
  have hmiss := (s.missBlock_missed p b).2.2
  unfold State.testRelease
  split
  · exact .refl _ s
  · exact .refl _ s
  · refine .ite (.refl _ s) (.ite hmiss (.ite (.of_regs _ (State.updPail_regs ..)) (.ite ?_ hmiss)))
    split
    · exact .of_regs _ (State.updPail_regs ..)
    · exact .refl _ s

theorem State.testReleases_kept (p : Nat) (bs : List Block) : ∀ s : State, RegsKeptEv [] s (s.testReleases p bs) := by
  induction bs with
  | nil => exact .refl _
  | cons b bs ih => exact fun s => (s.testRelease_kept p b).trans (ih _)

theorem State.testAwaited_kept (p : Nat) (ts : List Nat) : ∀ s : State, RegsKeptEv [] s (s.testAwaited p ts) := by
  induction ts with
  | nil => exact .refl _
  | cons t ts ih => exact fun s => (RegsKeptEv.ite (s.missAhead_kept p t) (.refl _ s)).trans (ih _)

theorem State.testPails_kept (ps : List Nat) : ∀ s : State, RegsKeptEv [] s (s.testPails ps) := by
  induction ps with
  | nil => exact .refl _
  | cons p ps ih => exact fun s => ((State.testReleases_kept p _ s).trans (State.testAwaited_kept p _ _)).trans (ih _)

theorem State.placeItems_kept (n fcnt : Nat) (xs : List TxItem) :
    ∀ (s : State) (f : Cells), RegsKeptEv [] s (s.placeItems n fcnt f xs).1 := by
  induction xs with
  | nil => exact fun s _ => .refl _ s
  | cons x xs ih =>
    intro s f
    unfold State.placeItems
    dsimp only
    split
    · exact ih s f
    · refine RegsKeptEv.trans ?_ (ih _ _)
      split
      · refine RegsKeptEv.trans ?_ (.of_regs _ (State.updPail_regs ..))
        split
        · exact ((RegsKeptEv.of_regs _ (State.updPail_regs ..)).trans (.of_regs _ (State.updPail_regs ..))).trans (.occur _ _ (by decide))
        · exact .of_regs _ (State.updPail_regs ..)
      · exact .of_regs _ (State.updPail_regs ..)

theorem State.slotTx_kept (s : State) (n fcnt : Nat) : RegsKeptEv [] s (s.slotTx n fcnt).1 := by
  unfold State.slotTx
  split
  · exact (State.testPails_kept _ s).trans (State.placeItems_kept _ _ _ _ _)
  · exact .refl _ s

theorem State.placeBus_kept (n : Port) (fcnt : Nat) (cs : List Nat) :
    ∀ (s : State) (f : Cells), RegsKeptEv [Reg.AL_REPLAY n, Reg.AL_EVENT n] s (s.placeBus n fcnt f cs).1 := by
  induction cs with
  | nil => exact fun s _ => .refl _ s
  | cons c cs ih =>
    intro s f
    unfold State.placeBus
    split
    · split
      · refine RegsKeptEv.trans ?_ (ih _ _)
        exact (RegsKeptEv.of_regs _ (State.updPort_regs ..)).trans
          ((RegsKeptEv.cnt _ _ (List.mem_cons_self ..)).trans ((State.linkErr_al_kept _ n 4).mono (by simp)))
      · split
        · exact (RegsKeptEv.of_regs _ ((WithinP.fst (State.sendBus_in _ _ _)).same .regs rfl)).trans (ih _ _)
        · exact ih _ _
    · exact ih _ _

theorem State.slotBus_kept (s : State) (n : Port) (fcnt : Nat) (f : Cells) (up : Bool) :
    RegsKeptEv [Reg.AL_REPLAY n, Reg.AL_EVENT n] s (s.slotBus n fcnt f up).1 := by
  unfold State.slotBus
  split
  · exact State.placeBus_kept _ _ _ _ _
  · exact .refl _ s

theorem State.launch_congr {s t : State} {n : Port} (hk : RegsKeptEv [Reg.AL_REPLAY n, Reg.AL_EVENT n] s t) : t.launch n = s.launch n := by
  have hn := n.isLt
  have htrim : t.rdW (Reg.TL_PORT_TRIM n) = s.rdW (Reg.TL_PORT_TRIM n) := by
    refine hk _ ?_ (evKey_below ?_)
    · simp only [List.mem_cons, List.not_mem_nil, or_false, Reg.TL_PORT_TRIM, Reg.AL_REPLAY, Reg.AL_EVENT]
      omega
    · simp only [Reg.TL_PORT_TRIM]
      omega
  simp only [State.launch, State.fld_hw _ _ (show F.TL_PORT_TRIM_TRIM.rwg = false from rfl), htrim]

/-! ## The read of a tx block (R27, R185) -/

theorem State.keepPoison_nil (s : State) (p : Nat) (b : Block) : ((s.keepPoison p b []).pail p).blocks = (s.pail p).blocks := by
  rw [State.keepPoison, State.pail_updPail]
  exact (List.map_congr_left fun x _ => ite_self x).trans (List.map_id' _)

theorem State.updBlock_blocks (s : State) (p : Nat) (b : Block) (f : Block → Block) : ((s.updBlock p b f).pail p).blocks =
    (s.pail p).blocks.map (fun x => if x.off = b.off ∧ x.h0 = b.h0 then f x else x) := by
  rw [State.updBlock, State.pail_updPail]

section
variable {s : State} {p : Pail} {hits : List EccHit} {b : Block} (hrole : s.pailRole p = 1)
  (hfind : (s.pail p).blocks.find? (fun b => b.tx == .wait && !b.fin) = some b)
  (hlead : tlReached s.now (tlAdd (tlCount b.h0)
    (-((188 + s.fld (Reg.TL_LEAD_AL (s.pailPort p)) F.TL_LEAD_AL_LEAD : Nat) : Int))) = true)
include hrole hfind hlead

theorem execAlinkTxRead_offGrid (hg : tlCount b.h0 % 32 ≠ 0) :
    exec (.alinkTxRead p hits) s = .next ((s.missBlock p b).evTl 10) := by
  show execAlinkTxRead p hits s = _
  unfold execAlinkTxRead
  rw [if_pos hrole, hfind]
  dsimp only
  rw [if_pos hlead, if_pos hg]

variable (hg : tlCount b.h0 % 32 = 0)
include hg

theorem execAlinkTxRead_misses (h : s.fld (Reg.AL_STAT (s.pailPort p)) F.AL_STAT_TSTATE ≠ 5 ∨ s.uncal (s.pailPort p) = true ∨
    s.readLate (tlCount b.h0) = true) : exec (.alinkTxRead p hits) s = .next (s.missBlock p b) := by
  show execAlinkTxRead p hits s = _
  unfold execAlinkTxRead
  rw [if_pos hrole, hfind]
  dsimp only
  rw [if_pos hlead, if_neg (not_not_intro hg), if_pos h]

theorem execAlinkTxRead_reads (hup : s.fld (Reg.AL_STAT (s.pailPort p)) F.AL_STAT_TSTATE = 5) (hcal : s.uncal (s.pailPort p) = false)
    (hlate : s.readLate (tlCount b.h0) = false) {u : State} {bad : List Nat} (hread : s.readErrors p b hits = (u, bad)) :
    exec (.alinkTxRead p hits) s = .next
      (if bad = [] then (u.keepPoison p b bad).updBlock p b (fun x => { x with tx := .ready (s.coreNow + 188) })
      else ((u.keepPoison p b bad).updBlock p b (fun x => { x with tx := .ready (s.coreNow + 188) })).evTl 8) := by
  have hnot : ¬ (s.fld (Reg.AL_STAT (s.pailPort p)) F.AL_STAT_TSTATE ≠ 5 ∨ s.uncal (s.pailPort p) = true ∨
      s.readLate (tlCount b.h0) = true) := by simp [hup, hcal, hlate]
  have hu := WithinP.out (State.readErrors_in s p b hits) hread
  have hcore : (u.keepPoison p b bad).coreNow = s.coreNow := by
    have hk := State.keepPoison_in u p b bad
    simp only [State.coreNow, (hk.same .tk rfl).trans (hu.same .tk rfl), (hk.same .core rfl).trans (hu.same .core rfl),
      (hk.same .coreQ rfl).trans (hu.same .coreQ rfl)]
  show execAlinkTxRead p hits s = _
  unfold execAlinkTxRead
  rw [if_pos hrole, hfind]
  dsimp only
  rw [if_pos hlead, if_neg (not_not_intro hg), if_neg hnot, hread]
  dsimp only
  rw [hcore]

end

/-- Settles O20: what a port's slots read, send and miss. -/
theorem alinkSlotsReadSendAndMiss : Obligations.AlinkSlotsReadSendAndMiss := by
  refine ⟨fun s p b hrole hfind hbad hlead hup hcal hg hlate => ?_, fun s p hits b hrole hfind hlead hup hcal hg hlate hpoison => ?_,
    fun s p hits b hrole hfind hlead hg h => .intro (execAlinkTxRead_misses hrole hfind hlead hg h) (s.missBlock_missed p b),
    fun s p hits b hrole hfind hlead hg => ?_, fun s p at_ ts hexp hctx hdue => ?_, fun s p at_ u k ts hexp hctx hu hk hdue => ?_,
    fun s p b hfind hdue => ?_, fun s c h2 hdue => ?_, fun s n hgrid hon hst => ?_, fun s n hgrid hon hst => ?_⟩
  · have hexec := execAlinkTxRead_reads hrole hfind hlead hg hup hcal hlate (hits := []) (u := s) (bad := []) (by rw [State.readErrors, hbad])
    rw [if_pos rfl] at hexec
    refine .intro hexec ⟨?_, fun q hq => ?_, ?_⟩
    · rw [State.updBlock_blocks, State.keepPoison_nil]
    · rw [State.updBlock, State.pail_updPail_other _ _ hq, State.keepPoison, State.pail_updPail_other _ _ hq]
    · rw [State.updBlock, State.updPail_regs, State.keepPoison, State.updPail_regs]
  · have hexec := execAlinkTxRead_reads hrole hfind hlead hg hup hcal hlate (hits := hits) rfl
    rw [if_neg hpoison] at hexec
    generalize (s.readErrors p b hits).2 = bad at *
    generalize (s.readErrors p b hits).1 = u at *
    have hregs : ((u.keepPoison p b bad).updBlock p b (fun x => { x with tx := .ready (s.coreNow + 188) })).regs = u.regs := by
      rw [State.updBlock, State.updPail_regs, State.keepPoison, State.updPail_regs]
    refine .intro hexec ⟨?_, ?_⟩
    · exact (State.occurred _ (by decide) (by decide)).before_regs (fun k _ _ _ => State.rdW_of_regs hregs k) (by decide)
        (State.on_eq_of_rdW (State.rdW_of_regs hregs _) 3)
    · rw [State.pail_of_pails (State.evTl_pails ..), State.updBlock_blocks]
  · obtain ⟨hlast, hocc, hkept⟩ := s.missBlock_missed p b
    have hexec := execAlinkTxRead_offGrid hrole hfind hlead hg (hits := hits)
    have hon : (s.missBlock p b).on 3 = s.on 3 := State.on_eq_of_rdW (hkept _ List.not_mem_nil (by decide)) 3
    have hcnt := s.missBlock_evCnt p b
    generalize hv : s.missBlock p b = v at *
    refine .intro hexec ⟨?_, hocc.after_occur 538 (by decide) (by decide) (by decide) (by omega), ?_,
      hkept.trans (RegsKeptEv.occur _ _ (by decide))⟩
    · rw [State.pail_of_pails (State.evTl_pails ..), hlast]
    · exact (v.occurred (i := 538) (by decide) (by decide)).before hon hcnt
  · refine .intro (t := s.missAhead p at_) ?_ ⟨?_, ?_, ?_, ?_, s.missAhead_occurred p at_, s.missAhead_kept p at_⟩
    · show execReleaseMissedDeadline p s = _
      unfold execReleaseMissedDeadline
      rw [hexp]
      dsimp only
      rw [if_pos hdue, State.txCtx_congr (s.missAhead_kept p at_) ((State.missAhead_in ..).same .gen rfl), hctx]
    · rw [State.missAhead_pail, hexp]
      exact List.erase_cons_head ..
    · rw [State.missAhead_pail]
    · rw [State.missAhead_pail]
    · rw [State.missAhead_pail]
      exact List.mem_append_right _ (List.mem_singleton_self _)
  · obtain ⟨hcode, harr, hcx⟩ := (s.missAhead p at_).chFault_names hu hk
    have hpail : ((s.missAhead p at_).chFault u 1 (some (1, k))).pail p = (s.missAhead p at_).pail p :=
      State.pail_of_pails ((State.chFault_in ..).same .pails rfl) p
    refine .intro (t := (s.missAhead p at_).chFault u 1 (some (1, k))) ?_ ⟨?_, ?_,
      (s.missAhead_occurred p at_).chFault s hu (by decide) (by decide), hcode, harr, hcx⟩
    · show execReleaseMissedDeadline p s = _
      unfold execReleaseMissedDeadline
      rw [hexp]
      dsimp only
      rw [if_pos hdue, State.txCtx_congr (s.missAhead_kept p at_) ((State.missAhead_in ..).same .gen rfl), hctx]
    · rw [hpail, State.missAhead_pail, hexp]
      exact List.erase_cons_head ..
    · rw [hpail, State.missAhead_pail]
  · refine .intro (t := s.missBlock p b) ?_ (s.missBlock_missed p b)
    show execHeldReleaseTimeout (.tx p) s = _
    unfold execHeldReleaseTimeout
    dsimp only
    rw [hfind]
    exact if_pos (by omega)
  · exact .intro (show Host.Outcome.next (s.dmaHoldOut c) = .next (s.retire c 0x21) from congrArg _ (if_pos ⟨h2, hdue⟩)) rfl
  · obtain ⟨u, hu⟩ : ∃ u, u = s.noteInh n (s.txinh (n / 8)) := ⟨_, rfl⟩
    have hin := State.noteInh_in s n (s.txinh (n / 8))
    rw [← hu] at hin
    have hregs := hin.same .regs rfl
    have htrain : u.trainWord n = s.trainWord n := by
      have hf : ∀ k f, u.fld k f = s.fld k f := fun k f => State.fld_eq f (State.rdW_of_regs hregs k) (State.rdG_of_gen (hin.same .gen rfl) k)
      unfold State.trainWord State.flag
      dsimp only
      rw [hf, hf, hf, hf, show u.sec = s.sec from hin.same .sec rfl]
    have hlaunch : u.launch n = s.launch n := State.launch_congr (.of_regs _ hregs)
    have hact : u.act = s.act := by simp only [State.act, State.mode_eq_of_rdW (State.rdW_of_regs hregs _)]
    refine .intro (t := u.emit (.alink n (u.launch n) (frameHdr 2 (s.fld Reg.TW_EPOCH F.TW_EPOCH_EPOCH) 0 (s.now / 32 % 256) u.act
      (s.txinh (n / 8))) (u.trainWord n :: List.replicate 15 (List.replicate 8 0)))) ?_ ⟨?_, ?_⟩
    · show execAlinkSlotSend n s = _
      unfold execAlinkSlotSend
      extract_lets v fcnt inh epoch s1
      rw [if_pos ⟨hgrid, by omega, hon⟩, if_pos (by omega), hu]
    · rw [State.emit_regs, hregs]
    · rw [htrain, hlaunch, hact]
      exact congrArg _ (hin.same .out rfl)
  · obtain ⟨u, hu⟩ : ∃ u, u = s.noteInh n (s.txinh (n / 8)) := ⟨_, rfl⟩
    have hregs : u.regs = s.regs := by rw [hu]; exact (State.noteInh_in ..).same .regs rfl
    obtain ⟨x, hx⟩ : ∃ x, x = u.slotTx n (s.now / 32 % 256) := ⟨_, rfl⟩
    obtain ⟨y, hy⟩ : ∃ y, y = x.1.slotCtl n (s.now / 32 % 256) x.2 := ⟨_, rfl⟩
    obtain ⟨z, hz⟩ : ∃ z, z = y.1.slotBus n (s.now / 32 % 256) y.2 (s.tstate (.al n) == 5) := ⟨_, rfl⟩
    have hlaunch : z.1.launch n = s.launch n := by
      have hctl : y.1.regs = x.1.regs := by rw [hy]; exact (WithinP.fst (State.slotCtl_in _ _ _ _)).same .regs rfl
      have htx : RegsKeptEv [Reg.AL_REPLAY n, Reg.AL_EVENT n] u x.1 := by rw [hx]; exact (u.slotTx_kept n _).mono (List.nil_subset _)
      have hbus : RegsKeptEv [Reg.AL_REPLAY n, Reg.AL_EVENT n] y.1 z.1 := by rw [hz]; exact y.1.slotBus_kept n _ _ _
      exact State.launch_congr (((RegsKeptEv.of_regs _ hregs).trans htx).trans ((RegsKeptEv.of_regs _ hctl).trans hbus))
    refine .intro (t := z.1.emit (.alink n (z.1.launch n) (frameHdr 1 (s.fld Reg.TW_EPOCH F.TW_EPOCH_EPOCH) z.2.cellMap (s.now / 32 % 256)
      z.1.act (s.txinh (n / 8))) z.2.words)) ?_ ⟨z.2, ?_⟩
    · show execAlinkSlotSend n s = _
      unfold execAlinkSlotSend
      rw [hz, hy, hx, hu]
      extract_lets v fcnt inh epoch s1
      rw [if_pos ⟨hgrid, by omega, hon⟩, if_neg (by omega)]
    · rw [hlaunch]
      rfl

end Sys2Proof.Machine
end

section
/-! SUPPORT. Frames and half-frames: symbol errors, training frames, normal frames (O26). -/

namespace Sys2Proof.Machine

set_option Elab.async false

/-! ## Errors of an A-link that stand (R236, R265) -/

/-- AL_ERR stands with the code of the last error. -/
structure ErrStands (n : Port) (code : Nat) (t : State) : Prop where
  bit : (t.rdW (Reg.AL_EVENT n)).toNat.testBit 1 = true
  code : t.fld (Reg.AL_EVENT n) F.AL_EVENT_LAST_ERR = code

theorem ErrStands.of_rdW {n : Port} {code : Nat} {s t : State} (h : ErrStands n code s)
    (hr : t.rdW (Reg.AL_EVENT n) = s.rdW (Reg.AL_EVENT n)) : ErrStands n code t :=
  ⟨by rw [hr]; exact h.bit, by rw [State.fld_hw _ _ rfl, hr, ← State.fld_hw _ _ rfl]; exact h.code⟩

theorem State.linkErr_stands (s : State) (n : Port) {code : Nat} (h : code < 256) : ErrStands n code (s.linkErr (.al n) code) :=
  ⟨(s.linkErr_al_occurred n code).1, s.linkErr_al_code n h⟩

/-- A link event keeps the error beside it. -/
theorem ErrStands.linkEvent {n : Port} {code : Nat} {s : State} (h : ErrStands n code s) (cause : Nat) :
    ErrStands n code (s.linkEvent (.al n) cause) := by
  have hn := n.isLt
  have hev := evKey_alEvent n
  have hset : ErrStands n code (s.setFld (Reg.AL_EVENT n) F.AL_EVENT_LAST_LINK cause) := by
    refine ⟨?_, ?_⟩
    · rw [State.rdW_setFld, BitVec.testBit_toNat, Fld.put_bit_other _ _ _ _ (.inl (by decide)), ← BitVec.testBit_toNat]
      exact h.bit
    · rw [State.fld_setFld_other _ _ _ _ _ (by decide)]
      exact h.code
  refine ⟨State.occurBit_bit_mono _ (by omega) _ _ hev hset.bit, ?_⟩
  have hother : F.AL_EVENT_LAST_ERR.get (BitVec.ofNat 64 (((s.setFld (Reg.AL_EVENT n) F.AL_EVENT_LAST_LINK cause).rdW
      (Reg.AL_EVENT n)).toNat ||| 2 ^ 0)) = F.AL_EVENT_LAST_ERR.get ((s.setFld (Reg.AL_EVENT n) F.AL_EVENT_LAST_LINK cause).rdW
      (Reg.AL_EVENT n)) := Fld.get_or_two_pow_other ⟨0, 1, false⟩ _ _ (.inl (by decide))
  rw [State.linkEvent_al, State.evAlCode, State.evAl, State.fld_hw _ _ rfl, State.rdW_occurBit_same _ (by omega) _ _ hev, hother,
    ← State.fld_hw _ _ rfl]
  exact hset.code

/-! ## What the loss of an A-link leaves (R262) -/

/-- The registers that the loss of port `n` writes before its event. -/
def lossRegs (n : Nat) : List Nat := [Reg.AL_STAT n, Reg.AL_BR_LOST n, Reg.AL_LANEMAP n, Reg.AL_GRP_SPARE_STAT (n / 8)]

theorem State.alLoss_kept {s : State} {n : Port} (h : s.tstate (.al n) ≠ 0) (cause : Nat) :
    ∃ u, s.alLoss n cause = u.linkEvent (.al n) cause ∧ RegsKeptEv (lossRegs n) s u := by
  have hstat : Reg.AL_STAT n ∈ lossRegs n := List.mem_cons_self ..
  unfold State.alLoss
  rw [if_neg h]
  extract_lets p lost past s1 s2 s3 s4 s5 s6 s7
  refine ⟨_, rfl, ?_⟩
  have h1 : RegsKeptEv (lossRegs n) s s1 := (s.setTstate_kept (.al n)).ev.mono (by simpa [linkStat] using hstat)
  have h2 : RegsKeptEv (lossRegs n) s1 s2 := (((RegsKeptEv.setFld _ s1 _ _ hstat).trans (.setFld _ _ _ _ hstat)).trans
    (.setFld _ _ _ _ hstat)).trans (.setFld _ _ _ _ hstat)
  have h3 : RegsKeptEv (lossRegs n) s2 s3 := .of_regs _ (State.dropRx_regs _ s2)
  have h4 : RegsKeptEv (lossRegs n) s3 s4 := (State.dropTx_kept _ s3).mono (List.nil_subset _)
  have h5 : RegsKeptEv (lossRegs n) s4 s5 :=
    fun k hk _ => State.rdW_wrW_other _ _ fun e => hk (by rw [e]; simp [lossRegs])
  have h6 : RegsKeptEv (lossRegs n) s5 s6 := (State.endReads_kept _ s5).mono (List.nil_subset _)
  have h7 : RegsKeptEv (lossRegs n) s6 s7 := .of_regs _ (State.updPort_regs ..)
  have h07 := (((((h1.trans h2).trans h3).trans h4).trans h5).trans h6).trans h7
  clear_value s7 past
  rcases past with _ | ⟨l, ph⟩
  · exact h07
  · exact h07.trans ((s7.moveLane_kept n l ph).ev.mono (by simp [lossRegs]))

/-- An error that stood before a link was lost stands after it, and so does what the loss does not write. -/
theorem State.alLoss_stands {s : State} {n : Port} (h : s.tstate (.al n) ≠ 0) (cause : Nat) {code : Nat} (he : ErrStands n code s) :
    ErrStands n code (s.alLoss n cause) ∧ RegsKeptEv (Reg.AL_EVENT n :: lossRegs n) s (s.alLoss n cause) := by
  have hn := n.isLt
  obtain ⟨u, hu, hk⟩ := State.alLoss_kept h cause
  rw [hu]
  refine ⟨ErrStands.linkEvent (he.of_rdW (hk _ ?_ (evKey_alEvent n))) cause,
    (hk.mono (List.subset_cons_self _ _)).trans ((u.linkEvent_al_kept n cause).mono (by simp))⟩
  simp only [lossRegs, List.mem_cons, List.not_mem_nil, or_false, Reg.AL_EVENT, Reg.AL_STAT, Reg.AL_BR_LOST, Reg.AL_LANEMAP,
    Reg.AL_GRP_SPARE_STAT]
  omega

/-! ## Corrected symbols (R236) -/

/-- The registers that count corrected symbols of port `n`. -/
def corrRegs (n : Nat) : List Nat := [Reg.AL_CORR n, Reg.AL_LANECORR0 n, Reg.AL_LANECORR1 n]


theorem evKey_corrRegs (n : Port) : ∀ k ∈ corrRegs n, evKey k = false ∧ k ≠ Reg.PW_ON := by
  have hn := n.isLt
  simp only [corrRegs, List.mem_cons, List.not_mem_nil, or_false, forall_eq_or_imp, forall_eq]
  refine ⟨⟨evKey_alink ?_ ?_, ?_⟩, ⟨evKey_alink ?_ ?_, ?_⟩, evKey_alink ?_ ?_, ?_⟩ <;>
    simp only [Reg.AL_CORR, Reg.AL_LANECORR0, Reg.AL_LANECORR1, Reg.PW_ON] <;> omega

/-- The training of port `n` is that of another state. -/
theorem State.train_updPort (s : State) (n : Port) {f : PortRt → PortRt} (hf : ∀ p, (f p).train = p.train) :
    (s.updPort n f).train (.al n) = s.train (.al n) := by
  rw [State.train_al, State.train_al, State.port_updPort, hf]

theorem State.startSwap_train (s : State) (n : Port) (l ph : Nat) : (s.startSwap n l ph).train (.al n) = s.train (.al n) := by
  unfold State.startSwap
  split
  · rfl
  · rw [State.addCtl, State.train_updPort _ _ (fun p => by split <;> rfl), State.train_updPort _ _ fun _ => by rfl]

theorem State.spareLane_train (s : State) (n : Port) : (s.spareLane n).train (.al n) = s.train (.al n) := by
  unfold State.spareLane
  split
  · split
    · rw [State.train_updPort _ _ fun _ => by rfl, State.startSwap_train]
    · rfl
  · rfl

/-- Corrected symbols are counted; training and the pails go on as they were. -/
structure SymbolsCounted (n : Port) (c : Nat) (s u : State) : Prop where
  kept : RegsKept (corrRegs n) s u
  corr : u.rdW (Reg.AL_CORR n) = BitVec.ofNat 64 (min ((s.rdW (Reg.AL_CORR n)).toNat + c) 0xFFFFFFFF)
  train : u.train (.al n) = s.train (.al n)
  pails : u.pails = s.pails
  ticks : u.ticks = s.ticks

theorem State.alCorrected_counted (s : State) (n : Port) (errs : List Nat) : SymbolsCounted n errs.length s (s.alCorrected n errs) := by
  have hin := State.alCorrected_in s n errs
  unfold State.alCorrected
  extract_lets e0 e1 s1 s2 s3 th was s4 hit new s5
  have h1 : RegsKept (corrRegs n) s s1 := RegsKept.wrW s _ (List.mem_cons_self ..)
  have h2 : RegsKept (corrRegs n) s1 s2 := RegsKept.wrW s1 _ (by simp [corrRegs])
  have h3 : RegsKept (corrRegs n) s2 s3 := RegsKept.wrW s2 _ (by simp [corrRegs])
  have h34 : s4.regs = s3.regs := State.updPort_regs ..
  have h45 : s5.regs = s4.regs := ((State.spareLane_in ..).same .regs rfl).trans (State.updPort_regs ..)
  have hc1 : s1.rdW (Reg.AL_CORR n) = BitVec.ofNat 64 (min ((s.rdW (Reg.AL_CORR n)).toNat + errs.length) 0xFFFFFFFF) :=
    State.rdW_wrW_same ..
  have hc3 : s3.rdW (Reg.AL_CORR n) = s1.rdW (Reg.AL_CORR n) :=
    (State.rdW_wrW_other _ _ (by simp only [Reg.AL_CORR, Reg.AL_LANECORR1]; omega)).trans
      (State.rdW_wrW_other _ _ (by simp only [Reg.AL_CORR, Reg.AL_LANECORR0]; omega))
  have hp3 : s3.ports = s.ports := (State.addCnt_ports ..).trans ((State.addCnt_ports ..).trans (State.addCnt_ports ..))
  have ht4 : s4.train (.al n) = s.train (.al n) := (State.train_updPort _ _ fun _ => by rfl).trans (congrArg PortRt.train (State.port_of_ports hp3 n))
  have ht5 : s5.train (.al n) = s4.train (.al n) := (State.spareLane_train _ n).trans (State.train_updPort _ _ fun _ => by rfl)
  have hend : ∀ p : PortRt, (if 2 ^ 20 ≤ p.symN then { p with sym0 := 0, sym1 := 0, symN := 0 } else p).train = p.train :=
    fun p => by split <;> rfl
  exact {
    kept := ((h1.trans h2).trans h3).trans (.of_regs _ ((State.updPort_regs ..).trans (h45.trans h34)))
    corr := by rw [State.rdW_of_regs (State.updPort_regs ..), State.rdW_of_regs (h45.trans h34), hc3, hc1]
    train := by rw [State.train_updPort _ _ hend, ht5, ht4]
    pails := hin.same .pails rfl
    ticks := hin.same .ticks rfl }

/-- Corrected symbols leave a port's status and events. -/
theorem SymbolsCounted.link {n : Port} {c : Nat} {s u : State} (h : SymbolsCounted n c s u) :
    u.rdW (Reg.AL_STAT n) = s.rdW (Reg.AL_STAT n) ∧ u.rdW (Reg.AL_EVENT n) = s.rdW (Reg.AL_EVENT n) ∧
      u.rdW (Reg.AL_PROTO n) = s.rdW (Reg.AL_PROTO n) ∧ u.rdW (Reg.AL_LANEMAP n) = s.rdW (Reg.AL_LANEMAP n) ∧
      u.rdW (Reg.AL_TRAINFAIL n) = s.rdW (Reg.AL_TRAINFAIL n) ∧ u.tstate (.al n) = s.tstate (.al n) := by
  have hk : ∀ k, k ∉ corrRegs n → u.rdW k = s.rdW k := h.kept
  have hstat : u.rdW (Reg.AL_STAT n) = s.rdW (Reg.AL_STAT n) := hk _ (by
    simp only [corrRegs, List.mem_cons, List.not_mem_nil, or_false, Reg.AL_STAT, Reg.AL_CORR, Reg.AL_LANECORR0, Reg.AL_LANECORR1]; omega)
  refine ⟨hstat, hk _ ?_, hk _ ?_, hk _ ?_, hk _ ?_, State.tstate_of_rdW (e := .al n) hstat⟩ <;>
    simp only [corrRegs, List.mem_cons, List.not_mem_nil, or_false, Reg.AL_CORR, Reg.AL_LANECORR0, Reg.AL_LANECORR1, Reg.AL_EVENT,
      Reg.AL_PROTO, Reg.AL_LANEMAP, Reg.AL_TRAINFAIL] <;> omega

/-! ## Uncorrectable frames -/

theorem State.resyncStreams_train (n : Port) (ks : List Nat) : ∀ s : State, (s.resyncStreams n ks).train (.al n) = s.train (.al n) := by
  induction ks with
  | nil => exact fun _ => rfl
  | cons k ks ih =>
    intro s
    refine (ih _).trans ?_
    rw [State.resync, State.addCtl, State.train_updPort _ _ (fun p => by split <;> rfl), State.updRx, State.train_updPort _ _ fun _ => by rfl]

/-- A frame beyond correction before what follows from it: counted, an error, and the end of the run of good frames. -/
def State.uncorrected (s : State) (n : Port) : State :=
  (((s.updTrain (.al n) (fun t => { t with good := 0, bad := t.bad + 1, farDone := 0 })).cnt (Reg.AL_UNCORR n)).linkErr (.al n) 1).updPort n
    (fun p => { p with shut := true })

section
variable (s : State) (n : Port)

theorem State.uncorrected_train : (s.uncorrected n).train (.al n) =
    { s.train (.al n) with good := 0, bad := (s.train (.al n)).bad + 1, farDone := 0 } := by
  rw [State.uncorrected, State.train_updPort _ _ fun _ => by rfl, State.train_of ((State.linkErr_in ..).same .ports rfl)
    ((State.linkErr_in ..).same .cl rfl), State.train_of (State.cnt_ports ..) (State.cnt_cl ..), State.train_updTrain]

theorem State.uncorrected_stands : ErrStands n 1 (s.uncorrected n) :=
  (State.linkErr_stands _ n (by decide)).of_rdW (State.rdW_of_regs (State.updPort_regs ..) _)

theorem State.uncorrected_counted : Counted (Reg.AL_UNCORR n) s (s.uncorrected n) := by
  have hn := n.isLt
  rw [Counted, State.uncorrected, State.rdW_of_regs (State.updPort_regs ..), State.linkErr_al_kept _ n 1 _
    (by simp only [List.mem_singleton, Reg.AL_UNCORR, Reg.AL_EVENT]; omega)
    (evKey_alink (by simp only [Reg.AL_UNCORR]; omega) (by simp only [Reg.AL_UNCORR]; omega)), State.rdW_cnt,
    State.rdW_of_regs (State.updTrain_regs ..)]

theorem State.uncorrected_tstate : (s.uncorrected n).tstate (.al n) = s.tstate (.al n) := by
  refine State.tstate_of_rdW ?_
  show (s.uncorrected n).rdW (Reg.AL_STAT n) = _
  rw [State.uncorrected, State.rdW_of_regs (State.updPort_regs ..), State.alStat_linkErr,
    State.rdW_cnt_other _ (by simp only [Reg.AL_STAT, Reg.AL_UNCORR]; omega), State.rdW_of_regs (State.updTrain_regs ..)]
  rfl

theorem State.alUncorr_eq : s.alUncorr n =
    if s.isUp (.al n) = true then
      if 8 ≤ ((s.uncorrected n).train (.al n)).bad then (s.uncorrected n).alLoss n 3
      else (((s.uncorrected n).resyncStreams n ((s.uncorrected n).streams n)).updPort n (fun p => { p with nakked := true })).addCtl n (.ack true)
    else (s.uncorrected n).setFld (Reg.AL_STAT n) F.AL_STAT_FRAME_LOCK 0 := rfl

end

section
variable {s : State} {n : Port} {half : Fin 2} {ago : Nat} {hdr : Word} {cells : List (List Word)} {errs : List Nat}

theorem execFrameReceive_al_uncorrectable (hst : 2 ≤ s.tstate (.al n)) (hon : s.linkOn (.al n) = true) (he : 16 < errs.length) :
    exec (.frameReceive (.al n) half ago hdr cells errs) s = .next (s.alUncorr n) := by
  show Host.Outcome.next (s.alFrame n ago hdr cells errs) = _
  unfold State.alFrame
  dsimp only
  rw [if_neg (by rw [hon]; simp; omega), if_pos he]

theorem execFrameReceive_al_corrected (hst : 2 ≤ s.tstate (.al n)) (hon : s.linkOn (.al n) = true) (he : errs.length ≤ 16) :
    exec (.frameReceive (.al n) half ago hdr cells errs) s = .next
      (if wbits hdr 63 60 = 2 then (s.alCorrected n errs).alTraining n ((cells.getD 0 []).getD 0 0) ((cells.getD 0 []).getD 1 0)
       else if wbits hdr 63 60 = 1 then (s.alCorrected n errs).alNormal n ago hdr cells else (s.alCorrected n errs).alDiscard n) := by
  show Host.Outcome.next (s.alFrame n ago hdr cells errs) = _
  unfold State.alFrame
  dsimp only
  rw [if_neg (by rw [hon]; simp; omega), if_neg (by omega)]
  split
  next h => rw [if_pos h]
  next h => rw [if_neg (by omega), if_pos h]
  next h2 h1 => rw [if_neg h2, if_neg h1]

theorem State.isUp_iff {e : LinkEnd} : s.isUp e = true ↔ s.tstate e = 5 := beq_iff_eq

theorem alFrame_uncorrectable (hst : 2 ≤ s.tstate (.al n)) (hon : s.linkOn (.al n) = true) (he : 16 < errs.length) :
    Completes (.frameReceive (.al n) half ago hdr cells errs) s fun t => Counted (Reg.AL_UNCORR n) s t ∧
      (t.rdW (Reg.AL_EVENT n)).toNat.testBit 1 = true ∧ t.fld (Reg.AL_EVENT n) F.AL_EVENT_LAST_ERR = 1 ∧
      (s.isUp (.al n) = true → 7 ≤ (s.train (.al n)).bad → t.tstate (.al n) = 0 ∧
        t.fld (Reg.AL_EVENT n) F.AL_EVENT_LAST_LINK = 3) ∧
      (s.isUp (.al n) = true → (s.train (.al n)).bad < 7 → t.tstate (.al n) = 5 ∧ .ack true ∈ (t.port n).ctl ∧
        (t.train (.al n)).bad = (s.train (.al n)).bad + 1) ∧
      (s.isUp (.al n) = false → t.fld (Reg.AL_STAT n) F.AL_STAT_FRAME_LOCK = 0 ∧ (t.train (.al n)).good = 0) := by
  have hn := n.isLt
  have hexec := execFrameReceive_al_uncorrectable (half := half) (ago := ago) (hdr := hdr) (cells := cells) hst hon he
  have hstands := s.uncorrected_stands n
  have htrain := s.uncorrected_train n
  have hcount := s.uncorrected_counted n
  have htst := s.uncorrected_tstate n
  rw [State.alUncorr_eq] at hexec
  generalize s.uncorrected n = u at hexec hstands htrain hcount htst
  have hbad : (u.train (.al n)).bad = (s.train (.al n)).bad + 1 := by rw [htrain]
  have hcounted : ∀ t : State, t.rdW (Reg.AL_UNCORR n) = u.rdW (Reg.AL_UNCORR n) → Counted (Reg.AL_UNCORR n) s t :=
    fun t ht => ht.trans hcount
  by_cases hup : s.isUp (.al n) = true
  · have h5 := State.isUp_iff.1 hup
    rw [if_pos hup] at hexec
    by_cases h8 : 8 ≤ (u.train (.al n)).bad
    · rw [if_pos h8] at hexec
      have hne : u.tstate (.al n) ≠ 0 := by omega
      obtain ⟨hdown, hlink⟩ := State.alLoss_down hne (cause := 3) (by decide)
      obtain ⟨⟨hbit, hcode⟩, hkept⟩ := State.alLoss_stands hne 3 hstands
      refine .intro hexec ⟨hcounted _ (hkept _ ?_ (evKey_alink ?_ ?_)), hbit, hcode, fun _ _ => ⟨hdown.tstate, hlink⟩,
        fun _ h => absurd h (by omega), fun h => absurd hup (by rw [h]; decide)⟩ <;>
        simp only [lossRegs, List.mem_cons, List.not_mem_nil, or_false, Reg.AL_UNCORR, Reg.AL_EVENT, Reg.AL_STAT, Reg.AL_BR_LOST,
          Reg.AL_LANEMAP, Reg.AL_GRP_SPARE_STAT] <;> omega
    · rw [if_neg h8] at hexec
      have hregs : (((u.resyncStreams n (u.streams n)).updPort n (fun p => { p with nakked := true })).addCtl n (.ack true)).regs = u.regs :=
        (State.updPort_regs ..).trans ((State.updPort_regs ..).trans ((State.resyncStreams_in ..).same .regs rfl))
      refine .intro hexec ⟨hcounted _ (State.rdW_of_regs hregs _), (hstands.of_rdW (State.rdW_of_regs hregs _)).bit,
        (hstands.of_rdW (State.rdW_of_regs hregs _)).code, fun _ h => absurd h (by omega),
        fun _ _ => ⟨(State.tstate_of_rdW (e := .al n) (State.rdW_of_regs hregs _)).trans (htst.trans h5), State.mem_addCtl .., ?_⟩,
        fun h => absurd hup (by rw [h]; decide)⟩
      rw [State.addCtl, State.train_updPort _ _ (fun p => by split <;> rfl), State.train_updPort _ _ fun _ => by rfl,
        State.resyncStreams_train, hbad]
  · rw [if_neg hup] at hexec
    have hkept : RegsKept [Reg.AL_STAT n] u (u.setFld (Reg.AL_STAT n) F.AL_STAT_FRAME_LOCK 0) := .setFld _ _ _ (List.mem_singleton_self _)
    have hev := hkept (Reg.AL_EVENT n) (by simp only [List.mem_singleton, Reg.AL_EVENT, Reg.AL_STAT]; omega)
    refine .intro hexec ⟨hcounted _ (hkept _ (by simp only [List.mem_singleton, Reg.AL_UNCORR, Reg.AL_STAT]; omega)),
      (hstands.of_rdW hev).bit, (hstands.of_rdW hev).code, fun h => absurd h hup, fun h => absurd h hup, fun _ => ⟨?_, ?_⟩⟩
    · rw [State.fld_setFld _ _ _ _ (by decide), Nat.zero_mod]
    · rw [State.train_of (State.setFld_ports ..) (State.setFld_cl ..), htrain]

end

/-! ## What a Cloton port's changes leave -/

/-- Between two states nothing of the Cloton's status and events was written but by what port `x` does: its own state stands, and
so do the events told before. -/
structure ClStands (x : ClPort) (s t : State) : Prop where
  kept : RegsKeptEv [Reg.CL_PORT_STAT x, Reg.TW_STAT, Reg.TW_EVENT] s t
  bits : ∀ c, (s.rdW Reg.TW_EVENT).toNat.testBit c = true → (t.rdW Reg.TW_EVENT).toNat.testBit c = true
  tstate : t.tstate (.cl x) = s.tstate (.cl x)

theorem ClStands.trans {x : ClPort} {s t u : State} (h : ClStands x s t) (h' : ClStands x t u) : ClStands x s u :=
  ⟨h.kept.trans h'.kept, fun c hc => h'.bits c (h.bits c hc), h'.tstate.trans h.tstate⟩

theorem ClStands.of_regs {x : ClPort} {s t : State} (h : t.regs = s.regs) : ClStands x s t :=
  ⟨.of_regs _ h, fun c hc => by rwa [State.rdW_of_regs h], State.tstate_of_rdW (State.rdW_of_regs h _)⟩

theorem clStat_ne (x : ClPort) : Reg.CL_PORT_STAT x ≠ Reg.TW_EVENT ∧ Reg.CL_PORT_STAT x ≠ Reg.TW_STAT := by
  have hx := x.isLt
  simp only [Reg.CL_PORT_STAT, Reg.TW_EVENT, Reg.TW_STAT]
  omega

theorem ClStands.evTw (x : ClPort) (s : State) {e : Nat} (he : e < 16) : ClStands x s (s.evTw e) where
  kept := RegsKeptEv.occurBit _ _ (by omega) _ _ (by simp)
  bits := fun _ hc => State.occurBit_bit_mono s (by omega) _ _ (by decide) hc
  tstate := State.tstate_of_rdW (State.rdW_evTw s (by omega) (evKey_linkStat (.cl x)) (clStat_ne x).1)

/-- A field of the port's status beside TSTATE. -/
theorem ClStands.setFld (x : ClPort) (s : State) {f : Fld} (v : Nat) (h : f.lo + f.wid ≤ 24 ∨ 28 ≤ f.lo) :
    ClStands x s (s.setFld (Reg.CL_PORT_STAT x) f v) where
  kept := .setFld _ _ _ _ (by simp)
  bits := fun c hc => by rwa [State.rdW_setFld_other _ _ _ (clStat_ne x).1.symm]
  tstate := by
    rw [State.tstate_eq, State.tstate_eq, tstateFld_spec]
    show Fld.get _ (State.rdW _ (Reg.CL_PORT_STAT x)) = _
    rw [State.rdW_setFld, Fld.get_put_other _ ⟨24, 4, false⟩ _ _ h]
    rfl

theorem ClStands.setPair (x : ClPort) (s : State) (v : Nat) : ClStands x s (s.setPair v) := by
  unfold State.setPair
  split
  · exact .of_regs rfl
  · refine ClStands.trans ⟨.setFld _ _ _ _ (by simp), fun c hc => ?_, ?_⟩ (.evTw x _ (by decide))
    · rwa [State.rdW_setFld_other _ _ _ (by decide)]
    · exact State.tstate_of_rdW (State.rdW_setFld_other _ _ _ (clStat_ne x).2)

theorem ClStands.moveClLane (x : ClPort) (s : State) (l : Nat) : ClStands x s (s.moveClLane x l) :=
  ((ClStands.of_regs ((State.setRepairDue_regs ..).trans (State.updCl_regs ..))).trans (.setFld x _ 1 (.inl (by decide)))).trans
    (.evTw x _ (by decide))

/-- The loss of a Cloton link: its state is Down, and the Cloton's other registers but its own and the pair's stand. -/
theorem State.clLoss_lost {s : State} {x : ClPort} (h : s.tstate (.cl x) ≠ 0) : (s.clLoss x).tstate (.cl x) = 0 ∧
    RegsKeptEv [Reg.CL_PORT_STAT x, Reg.TW_STAT, Reg.TW_EVENT] s (s.clLoss x) ∧
    ∀ c, (s.rdW Reg.TW_EVENT).toNat.testBit c = true → ((s.clLoss x).rdW Reg.TW_EVENT).toNat.testBit c = true := by
  unfold State.clLoss
  rw [if_neg (show ¬ s.fld (Reg.CL_PORT_STAT x) F.CL_PORT_STAT_TSTATE = 0 from h)]
  extract_lets past s1 s2 s3
  obtain ⟨u, hu⟩ : ∃ u, u = s.setFld (Reg.CL_PORT_STAT x) F.CL_PORT_STAT_TSTATE 0 := ⟨_, rfl⟩
  have h0 : u.tstate (.cl x) = 0 := by rw [hu]; exact (State.fld_setFld _ _ _ _ (by decide)).trans (Nat.zero_mod _)
  have hkept : RegsKeptEv [Reg.CL_PORT_STAT x, Reg.TW_STAT, Reg.TW_EVENT] s u := by rw [hu]; exact .setFld _ _ _ _ (by simp)
  have hbits : u.rdW Reg.TW_EVENT = s.rdW Reg.TW_EVENT := by rw [hu]; exact State.rdW_setFld_other _ _ _ (clStat_ne x).1.symm
  have h1 : ClStands x u s1 := by
    show ClStands x u ((s.setFld (Reg.CL_PORT_STAT x) F.CL_PORT_STAT_TSTATE 0).setFld (Reg.CL_PORT_STAT x) F.CL_PORT_STAT_NBR_VALID 0)
    rw [← hu]
    exact .setFld x _ 0 (.inl (by decide))
  have h2 : ClStands x s1 s2 := by
    unfold s2
    generalize past = q
    rcases q with _ | ⟨l, ph⟩
    · exact .of_regs rfl
    · exact .moveClLane x _ _
  have h3 : ClStands x s2 s3 := .of_regs (State.updCl_regs ..)
  have h4 : ClStands x s3 (if x.val = 0 then s3.setPair 0 else s3) := by
    split
    · exact .setPair x _ _
    · exact .of_regs rfl
  have hall := (((h1.trans h2).trans h3).trans h4).trans (.evTw x _ (e := 8) (by decide))
  exact ⟨hall.tstate.trans h0, hkept.trans hall.kept, fun c hc => hall.bits c (by rwa [hbits])⟩

/-- A half-frame beyond correction before what follows from it. -/
def State.clUncorrected (s : State) (x : ClPort) : State :=
  (((s.updTrain (.cl x) (fun t => { t with good := 0, bad := t.bad + 1, farDone := 0 })).cnt (Reg.CL_PORT_UNCORR x)).linkErr (.cl x) 1).updCl x
    (fun c => { c with shut := true })

theorem State.clUncorr_eq (s : State) (x : ClPort) : s.clUncorr x =
    if (s.clUncorrected x).isUp (.cl x) = true then
      if 16 ≤ ((s.clUncorrected x).train (.cl x)).bad then (s.clUncorrected x).clLoss x
      else (s.clUncorrected x).clCtl x
        [clAckWord x true (if x.val = 0 then ((s.clUncorrected x).clp x).rxSeq else ((s.clUncorrected x).clp x).hRxSeq)]
    else s.clUncorrected x := rfl

section
variable (s : State) (x : ClPort)

theorem evKey_clPort (k : Nat) (hk : k = Reg.CL_PORT_UNCORR x ∨ k = Reg.CL_PORT_CORR x ∨ k = Reg.CL_PORT_PROTO x) :
    evKey k = false ∧ k ∉ [Reg.CL_PORT_STAT x, Reg.TW_STAT, Reg.TW_EVENT] := by
  have hx := x.isLt
  simp only [List.mem_cons, List.not_mem_nil, or_false, Reg.CL_PORT_UNCORR, Reg.CL_PORT_CORR, Reg.CL_PORT_PROTO, Reg.CL_PORT_STAT,
    Reg.TW_STAT, Reg.TW_EVENT] at hk ⊢
  exact ⟨evKey_below (by omega), by omega⟩

/-- A counter of the port leaves its state and the Cloton's events. -/
theorem ClStands.cnt (k : Nat) (hk : k = Reg.CL_PORT_UNCORR x ∨ k = Reg.CL_PORT_CORR x ∨ k = Reg.CL_PORT_PROTO x) (n : Nat) :
    (∀ c, (s.rdW Reg.TW_EVENT).toNat.testBit c = true → ((s.addCnt k n 0xFFFFFFFF).rdW Reg.TW_EVENT).toNat.testBit c = true) ∧
      (s.addCnt k n 0xFFFFFFFF).tstate (.cl x) = s.tstate (.cl x) := by
  have hne := (evKey_clPort x k hk).2
  simp only [List.mem_cons, List.not_mem_nil, or_false, not_or] at hne
  obtain ⟨hstat, -, hev⟩ := hne
  exact ⟨fun c hc => by rwa [State.addCnt, State.rdW_of_regs (State.heat_regs ..), State.rdW_wrW_other _ _ (Ne.symm hev)],
    State.tstate_of_rdW ((State.rdW_of_regs (State.heat_regs ..) _).trans (State.rdW_wrW_other _ _ (Ne.symm hstat)))⟩

theorem State.clUncorrected_parts : (s.clUncorrected x).tstate (.cl x) = s.tstate (.cl x) ∧
    Counted (Reg.CL_PORT_UNCORR x) s (s.clUncorrected x) ∧ ((s.clUncorrected x).rdW Reg.TW_EVENT).toNat.testBit 9 = true ∧
    ((s.clUncorrected x).train (.cl x)).bad = (s.train (.cl x)).bad + 1 ∧ ((s.clUncorrected x).clp x).rxSeq = (s.clp x).rxSeq ∧
    ((s.clUncorrected x).clp x).hRxSeq = (s.clp x).hRxSeq := by
  obtain ⟨u, hu⟩ : ∃ u, u = s.updTrain (.cl x) (fun t => { t with good := 0, bad := t.bad + 1, farDone := 0 }) := ⟨_, rfl⟩
  obtain ⟨v, hv⟩ : ∃ v, v = u.cnt (Reg.CL_PORT_UNCORR x) := ⟨_, rfl⟩
  have hregs : u.regs = s.regs := by rw [hu, State.updTrain_regs]
  have hclp : u.clp x = { s.clp x with train := { (s.clp x).train with good := 0, bad := (s.clp x).train.bad + 1, farDone := 0 } } := by
    rw [hu]
    exact State.clp_updCl ..
  have heq : s.clUncorrected x = (v.evTw 9).updCl x (fun c => { c with shut := true }) := by rw [hv, hu]; rfl
  have hend : ((v.evTw 9).updCl x (fun c => { c with shut := true })).clp x = { u.clp x with shut := true } := by
    rw [State.clp_updCl, State.clp_of_cl (State.evTw_cl ..), hv, State.clp_of_cl (State.cnt_cl ..)]
  have hend_regs := State.updCl_regs (v.evTw 9) x (fun c => { c with shut := true })
  have hcl := ClStands.evTw x v (e := 9) (by decide)
  rw [heq]
  refine ⟨?_, ?_, ?_, ?_, ?_, ?_⟩
  · rw [State.tstate_of_rdW (e := .cl x) (State.rdW_of_regs hend_regs _), hcl.tstate, hv, State.cnt,
      (ClStands.cnt u x _ (.inl rfl) 1).2]
    exact State.tstate_of_rdW (State.rdW_of_regs hregs _)
  · obtain ⟨hev, hne⟩ := evKey_clPort x _ (.inl rfl)
    rw [Counted, State.rdW_of_regs hend_regs, hcl.kept _ hne hev, hv, State.rdW_cnt, State.rdW_of_regs hregs]
  · rw [State.rdW_of_regs hend_regs]
    exact (v.evTw_occurred (i := 9) (by decide)).1
  · rw [State.train, State.train, hend, hclp]
  · rw [hend, hclp]
  · rw [hend, hclp]

end

section
variable {s : State} {x : ClPort} {half : Fin 2} {ago : Nat} {hdr : Word} {cells : List (List Word)} {errs : List Nat}

theorem clFrame_uncorrectable (hst : 2 ≤ s.tstate (.cl x)) (hon : s.on 5 = true) (he : 16 < errs.length) :
    Completes (.frameReceive (.cl x) half ago hdr cells errs) s fun t => Counted (Reg.CL_PORT_UNCORR x) s t ∧
      (t.rdW Reg.TW_EVENT).toNat.testBit 9 = true ∧
      (s.isUp (.cl x) = true → 15 ≤ (s.train (.cl x)).bad → t.tstate (.cl x) = 0) ∧
      (s.isUp (.cl x) = true → (s.train (.cl x)).bad < 15 → t.tstate (.cl x) = 5 ∧
        [clAckWord x true (if x.val = 0 then (s.clp x).rxSeq else (s.clp x).hRxSeq)] ∈ (t.clp x).ctl) := by
  have hexec : exec (.frameReceive (.cl x) half ago hdr cells errs) s = .next (s.clUncorr x) := by
    show Host.Outcome.next (s.clFrame x half ago hdr cells errs) = _
    unfold State.clFrame
    dsimp only
    rw [if_neg (by rw [hon]; simp; omega), if_pos he]
  obtain ⟨htst, hcount, hbit, hbad, hseq, hhseq⟩ := s.clUncorrected_parts x
  rw [State.clUncorr_eq] at hexec
  generalize s.clUncorrected x = u at *
  have hup : u.isUp (.cl x) = s.isUp (.cl x) := by rw [State.isUp, State.isUp, htst]
  by_cases h5 : s.isUp (.cl x) = true
  · have hfive := State.isUp_iff.1 h5
    rw [if_pos (hup.trans h5)] at hexec
    by_cases h16 : 16 ≤ (u.train (.cl x)).bad
    · rw [if_pos h16] at hexec
      obtain ⟨hdown, hkept, hbits⟩ := State.clLoss_lost (s := u) (x := x) (by omega)
      obtain ⟨hev, hne⟩ := evKey_clPort x _ (.inl rfl)
      exact .intro hexec ⟨(hkept _ hne hev).trans hcount, hbits _ hbit, fun _ _ => hdown, fun _ h => absurd h (by omega)⟩
    · rw [if_neg h16] at hexec
      have hregs := State.updCl_regs u x fun c => if c.ctl.contains [clAckWord x true (if x.val = 0 then (u.clp x).rxSeq else (u.clp x).hRxSeq)]
        then c else { c with ctl := c.ctl ++ [[clAckWord x true (if x.val = 0 then (u.clp x).rxSeq else (u.clp x).hRxSeq)]] }
      refine .intro hexec ⟨(State.rdW_of_regs hregs _).trans hcount, (congrArg (fun w : Word => w.toNat.testBit 9)
        (State.rdW_of_regs hregs _)).trans hbit, fun _ h => absurd h (by omega), fun _ _ =>
          ⟨(State.tstate_of_rdW (e := .cl x) (State.rdW_of_regs hregs _)).trans (htst.trans hfive), ?_⟩⟩
      rw [← hseq, ← hhseq]
      exact State.mem_clCtl ..
  · rw [if_neg (by rw [hup]; exact h5)] at hexec
    exact .intro hexec ⟨hcount, hbit, fun h => absurd h h5, fun h => absurd h h5⟩

end

/-! ## Training frames -/

section
variable {s : State} {n : Port}

theorem alTraining_lost (h : s.tstate (.al n) = 5) (w0 w1 : Word) : s.alTraining n w0 w1 = s.alLoss n 4 := if_pos h

theorem alTraining_fails (h : s.tstate (.al n) = 2 ∨ s.tstate (.al n) = 3) {w0 : Word} (hw : wbits w0 63 56 ≠ 1) (w1 : Word) :
    s.alTraining n w0 w1 = s.trainFail (.al n) := by
  unfold State.alTraining
  dsimp only
  rw [if_neg (by omega), if_pos h, if_pos (.inl hw)]

/-- What a training frame of the local end tells of it. -/
def TrainRt.heard (w0 : Word) (t : TrainRt) : TrainRt :=
  { t with good := min 8 (t.good + 1), bad := 0, farLock := w0.toNat.testBit 54,
           farDone := if w0.toNat.testBit 53 then min 8 (t.farDone + 1) else 0 }

/-- A training frame whose map is the port's own, before the lock. -/
def State.heardAl (s : State) (n : Port) (w0 w1 : Word) : State :=
  ((s.wrW (Reg.AL_LE_ID n) w1).setFld (Reg.AL_STAT n) F.AL_STAT_BUSW (wbits w0 26 25)).updTrain (.al n) (.heard w0)

theorem alTraining_heard (h : s.tstate (.al n) = 2 ∨ s.tstate (.al n) = 3) {w0 : Word} (w1 : Word) (hw : wbits w0 63 56 = 1)
    (h0 : wbits w0 52 48 = s.fld (Reg.AL_LANEMAP n) F.AL_LANEMAP_LANE0)
    (h1 : wbits w0 47 43 = s.fld (Reg.AL_LANEMAP n) F.AL_LANEMAP_LANE1) :
    s.alTraining n w0 w1 = if 8 ≤ ((s.heardAl n w0 w1).train (.al n)).good then
      (s.heardAl n w0 w1).setFld (Reg.AL_STAT n) F.AL_STAT_FRAME_LOCK 1 else s.heardAl n w0 w1 := by
  unfold State.alTraining
  dsimp only
  rw [if_neg (by omega), if_pos h, if_neg (by simp only [not_or, ne_eq, not_not]; exact ⟨hw, h0, h1⟩)]
  rfl

theorem State.heardAl_parts (s : State) (n : Port) (w0 w1 : Word) : (s.heardAl n w0 w1).tstate (.al n) = s.tstate (.al n) ∧
    (s.heardAl n w0 w1).rdW (Reg.AL_LE_ID n) = w1 ∧ (s.heardAl n w0 w1).fld (Reg.AL_STAT n) F.AL_STAT_BUSW = wbits w0 26 25 ∧
    (s.heardAl n w0 w1).train (.al n) = (s.train (.al n)).heard w0 := by
  have hn := n.isLt
  obtain ⟨u, hu⟩ : ∃ u, u = s.wrW (Reg.AL_LE_ID n) w1 := ⟨_, rfl⟩
  have hne : Reg.AL_STAT n ≠ Reg.AL_LE_ID n := by simp only [Reg.AL_STAT, Reg.AL_LE_ID]; omega
  have hid : u.rdW (Reg.AL_LE_ID n) = w1 := by rw [hu, State.rdW_wrW_same]
  have hstat : u.rdW (Reg.AL_STAT n) = s.rdW (Reg.AL_STAT n) := by rw [hu, State.rdW_wrW_other _ _ hne]
  have hports : u.ports = s.ports ∧ u.cl = s.cl := by rw [hu]; exact ⟨State.wrW_ports .., State.wrW_cl ..⟩
  have heq : s.heardAl n w0 w1 = (u.setFld (Reg.AL_STAT n) F.AL_STAT_BUSW (wbits w0 26 25)).updTrain (.al n) (.heard w0) := by rw [hu]; rfl
  have hregs := State.updTrain_regs (u.setFld (Reg.AL_STAT n) F.AL_STAT_BUSW (wbits w0 26 25)) (.al n) (.heard w0)
  have hset : (u.setFld (Reg.AL_STAT n) F.AL_STAT_BUSW (wbits w0 26 25)).tstate (.al n) = u.tstate (.al n) :=
    State.fld_setFld_other _ _ _ _ _ (by decide)
  rw [heq]
  refine ⟨?_, ?_, ?_, ?_⟩
  · exact (State.tstate_of_rdW (e := .al n) (State.rdW_of_regs hregs _)).trans (hset.trans (State.tstate_of_rdW (e := .al n) hstat))
  · rw [State.rdW_of_regs hregs, State.rdW_setFld_other _ _ _ hne.symm, hid]
  · rw [State.fld_hw _ _ rfl, State.rdW_of_regs hregs, ← State.fld_hw _ _ rfl, State.fld_setFld _ _ _ _ (by decide)]
    exact Nat.mod_eq_of_lt (Nat.mod_lt _ (by decide))
  · rw [State.train_updTrain, State.train_of (State.setFld_ports ..) (State.setFld_cl ..), State.train_of hports.1 hports.2]

end

/-! ## Normal frames (R237, R238) -/

theorem State.linkProtos_al (n : Port) (k : Nat) : ∀ s : State, RegsKeptEv [Reg.AL_PROTO n, Reg.AL_EVENT n] s (State.linkProtos k s (.al n)) ∧
    (State.linkProtos k s (.al n)).ports = s.ports := by
  induction k with
  | zero => exact fun s => ⟨.refl _ s, rfl⟩
  | succ k ih =>
    intro s
    obtain ⟨hk, hp⟩ := ih (s.linkProto (.al n))
    exact ⟨(s.linkProto_al_completes n).2.2.2.trans hk, hp.trans ((State.linkProto_in ..).same .ports rfl)⟩

/-- A frame that was read: the run of good ones goes on. -/
def TrainRt.read (t : TrainRt) : TrainRt := { t with good := min 8 (t.good + 1), bad := 0 }

/-- A normal frame's own effect on training and lock. -/
def State.readAl (s : State) (n : Port) : State :=
  if 8 ≤ ((s.updTrain (.al n) .read).train (.al n)).good ∧ (s.updTrain (.al n) .read).isUp (.al n) = false then
    (s.updTrain (.al n) .read).setFld (Reg.AL_STAT n) F.AL_STAT_FRAME_LOCK 1 else s.updTrain (.al n) .read

section
variable (s : State) (n : Port)

theorem State.readAl_parts : (s.readAl n).tstate (.al n) = s.tstate (.al n) ∧ RegsKept [Reg.AL_STAT n] s (s.readAl n) ∧
    (s.readAl n).train (.al n) = (s.train (.al n)).read ∧ (s.readAl n).pails = s.pails := by
  obtain ⟨u, hu⟩ : ∃ u, u = s.updTrain (.al n) .read := ⟨_, rfl⟩
  have hregs : u.regs = s.regs := by rw [hu, State.updTrain_regs]
  have htrain : u.train (.al n) = (s.train (.al n)).read := by rw [hu, State.train_updTrain]
  have hpails : u.pails = s.pails := by rw [hu, State.updTrain_pails]
  have htst : u.tstate (.al n) = s.tstate (.al n) := State.tstate_of_rdW (State.rdW_of_regs hregs _)
  rw [State.readAl, ← hu]
  split
  · exact ⟨(State.fld_setFld_other _ _ _ _ _ (by decide)).trans htst,
      (RegsKept.of_regs _ hregs).trans (.setFld _ _ _ (List.mem_singleton_self _)),
      (State.train_of (State.setFld_ports ..) (State.setFld_cl ..) _).trans htrain, (State.setFld_pails ..).trans hpails⟩
  · exact ⟨htst, .of_regs _ hregs, htrain, hpails⟩

/-- The cell that a frame of the eighth slot reserves (R238). -/
theorem kind15 (hdr : Word) : bitsOf (wbits hdr 43 12) (31 - 2 * 15) (30 - 2 * 15) = wbits hdr 13 12 := by
  simp only [wbits, bitsOf]
  omega

variable {s n} {ago : Nat} {hdr : Word} {cells : List (List Word)}

theorem alNormal_discards (h : 4 ≤ s.tstate (.al n)) (hf : wbits hdr 11 4 % 8 = 0) (hk : wbits hdr 13 12 = 1 ∨ wbits hdr 13 12 = 2) :
    s.alNormal n ago hdr cells = (s.readAl n).alDiscard n := by
  have h4 : ¬ (s.readAl n).tstate (.al n) < 4 := by rw [(s.readAl_parts n).1]; omega
  have hkind := kind15 hdr
  unfold State.alNormal
  extract_lets e fcnt kind s1 s2 ok s3 s4
  rw [if_neg (show ¬ s2.tstate e < 4 from h4), if_pos ⟨hf, by show bitsOf _ _ _ = 1 ∨ bitsOf _ _ _ = 2; rwa [hkind]⟩]
  rfl

/-- Outside Up a frame that is not discarded tells its protocol errors alone. -/
theorem alNormal_quiet (h : s.tstate (.al n) = 4) : s.alNormal n ago hdr cells = (s.readAl n).alDiscard n ∨
    ∃ k, s.alNormal n ago hdr cells = State.linkProtos k ((s.readAl n).updPort n (fun p => { p with shut := false })) (.al n) := by
  have h4 : ¬ (s.readAl n).tstate (.al n) < 4 := by rw [(s.readAl_parts n).1]; omega
  have hup : ((s.readAl n).updPort n (fun p => { p with shut := false })).isUp (.al n) = false := by
    rw [State.isUp, State.tstate_of_rdW (e := .al n) (State.rdW_of_regs (State.updPort_regs ..) _), (s.readAl_parts n).1, h]
    rfl
  unfold State.alNormal
  extract_lets e fcnt kind s1 s2 ok s3 s4
  rw [if_neg (show ¬ s2.tstate e < 4 from h4)]
  split
  · exact .inl rfl
  · rw [if_neg (show ¬ s3.isUp e = true by rw [show s3.isUp e = false from hup]; decide)]
    exact .inr ⟨_, rfl⟩

theorem State.alDiscard_parts (s : State) (n : Port) : (Counted (Reg.AL_PROTO n) s (s.alDiscard n) ∧ ErrStands n 6 (s.alDiscard n)) ∧
    ((s.alDiscard n).port n).shut = true ∧ (s.alDiscard n).pails = s.pails ∧ (s.alDiscard n).train (.al n) = s.train (.al n) ∧
    RegsKeptEv [Reg.AL_PROTO n, Reg.AL_EVENT n] s (s.alDiscard n) := by
  obtain ⟨hcount, hocc, hcode, hkept⟩ := s.linkProto_al_completes n
  have hin := State.linkProto_in s (.al n)
  have hregs := State.updPort_regs (s.linkProto (.al n)) n (fun p => { p with shut := true })
  refine ⟨⟨(State.rdW_of_regs hregs _).trans hcount, ErrStands.of_rdW ⟨hocc.1, hcode⟩ (State.rdW_of_regs hregs _)⟩, ?_, ?_, ?_,
    hkept.trans (.of_regs _ hregs)⟩
  · rw [State.alDiscard, State.port_updPort]
  · exact (State.updPort_pails ..).trans (hin.same .pails rfl)
  · rw [State.alDiscard, State.train_updPort _ _ fun _ => by rfl, State.train_of (hin.same .ports rfl) (hin.same .cl rfl)]

end

/-! ## Half-frames of a Cloton slot (R408, R409) -/

theorem State.linkProtos_cl (x : ClPort) (k : Nat) : ∀ s : State, (State.linkProtos k s (.cl x)).tstate (.cl x) = s.tstate (.cl x) ∧
    RegsKeptEv [Reg.CL_PORT_PROTO x, Reg.TW_EVENT] s (State.linkProtos k s (.cl x)) ∧ (State.linkProtos k s (.cl x)).cl = s.cl := by
  induction k with
  | zero => exact fun s => ⟨rfl, .refl _ s, rfl⟩
  | succ k ih =>
    intro s
    obtain ⟨ht, hk, hc⟩ := ih (s.linkProto (.cl x))
    refine ⟨ht.trans ?_, RegsKeptEv.trans ?_ hk, hc.trans ((State.linkProto_in ..).same .cl rfl)⟩
    · exact (ClStands.evTw x (s.cnt (Reg.CL_PORT_PROTO x)) (e := 9) (by decide)).tstate.trans (ClStands.cnt s x _ (.inr (.inr rfl)) 1).2
    · exact (RegsKeptEv.cnt _ s (List.mem_cons_self ..)).trans (RegsKeptEv.occurBit _ _ (by decide) _ _ (by simp))

theorem State.startClSwap_regs (s : State) (x l : Nat) : (s.startClSwap x l).regs = s.regs := by
  unfold State.startClSwap
  split
  · rfl
  · exact State.updCl_regs ..

/-- Corrected symbols of a half-frame, and the phase that it tells. -/
def State.phasedCl (s : State) (x : ClPort) (half ago : Nat) (errs : List Nat) : State :=
  (s.clCorrected x half errs).setFld (Reg.CL_PORT_STAT x) F.CL_PORT_STAT_RXPHASE
    (tlAdd (s.clCorrected x half errs).now (-(ago : Int)) % 32)

section
variable (s : State) (x : ClPort) (half ago : Nat) (errs : List Nat)

theorem State.clCorrected_parts : RegsKept [Reg.CL_PORT_CORR x] s (s.clCorrected x half errs) ∧
    (s.clCorrected x half errs).ticks = s.ticks ∧ (s.clCorrected x half errs).tk = s.tk := by
  have hin := State.clCorrected_in s x half errs
  refine ⟨?_, hin.same .ticks rfl, hin.same .tk rfl⟩
  unfold State.clCorrected
  extract_lets s1 lane add was hit s2 s3
  have h1 : RegsKept [Reg.CL_PORT_CORR x] s s1 := RegsKept.wrW s _ (List.mem_singleton_self _)
  have h3 : s3.regs = s2.regs := by
    unfold s3
    generalize hit = q
    rcases q with _ | i
    · rfl
    · dsimp only
      split
      · exact State.startClSwap_regs ..
      · rfl
  exact h1.trans (.of_regs _ ((State.updCl_regs ..).trans (h3.trans (State.updCl_regs ..))))

theorem State.phasedCl_parts : (s.phasedCl x half ago errs).tstate (.cl x) = s.tstate (.cl x) ∧
    RegsKept [Reg.CL_PORT_CORR x, Reg.CL_PORT_STAT x] s (s.phasedCl x half ago errs) ∧
    (s.phasedCl x half ago errs).ticks = s.ticks ∧
    (s.phasedCl x half ago errs).fld (Reg.CL_PORT_STAT x) F.CL_PORT_STAT_RXPHASE = tlAdd s.now (-(ago : Int)) % 32 := by
  obtain ⟨hkept, hticks, htk⟩ := s.clCorrected_parts x half errs
  have hne : Reg.CL_PORT_STAT x ∉ [Reg.CL_PORT_CORR x] := by simp only [List.mem_singleton, Reg.CL_PORT_STAT, Reg.CL_PORT_CORR]; omega
  unfold State.phasedCl
  generalize s.clCorrected x half errs = u at hkept hticks htk ⊢
  have hnow : u.now = s.now := by simp only [State.now, htk]
  refine ⟨?_, ?_, (State.setFld_ticks ..).trans hticks, ?_⟩
  · exact (State.fld_setFld_other _ _ _ _ _ (by decide)).trans (State.tstate_of_rdW (e := .cl x) (hkept _ hne))
  · exact RegsKept.trans (fun k hk => hkept k fun h => hk (by simp [List.mem_singleton.1 h])) (.setFld _ _ _ (by simp))
  · rw [State.fld_setFld _ _ _ _ (by decide), hnow]
    exact Nat.mod_eq_of_lt (Nat.mod_lt _ (by decide))

/-- A half-frame that is used: its count, and on C0 the peer's epoch. -/
def State.usedCl (s : State) (x : ClPort) (hdr : Word) : State :=
  if x.val = 0 then (s.updCl x (fun c => { c with rxFcnt := wbits hdr 11 4, shut := false })).seeEpoch (wbits hdr 59 44)
  else s.updCl x (fun c => { c with rxFcnt := wbits hdr 11 4, shut := false })

theorem State.seeEpoch_parts (v : Nat) (hv : v < 65536) : RegsKept [Reg.TW_EPOCH] s (s.seeEpoch v) ∧
    (s.seeEpoch v).fld Reg.TW_EPOCH F.TW_EPOCH_PEER = v ∧ (s.seeEpoch v).cl = s.cl ∧ (s.seeEpoch v).ticks = s.ticks := by
  have hpeer : (s.setFld Reg.TW_EPOCH F.TW_EPOCH_PEER v).fld Reg.TW_EPOCH F.TW_EPOCH_PEER = v := by
    rw [State.fld_setFld _ _ _ _ (by decide)]
    exact Nat.mod_eq_of_lt hv
  have hin := State.seeEpoch_in s v
  refine ⟨?_, ?_, hin.same .cl rfl, hin.same .ticks rfl⟩ <;> unfold State.seeEpoch <;> dsimp only <;> split
  · exact (RegsKept.setFld s _ _ (List.mem_singleton_self _)).trans (.of_regs _ (State.updTw_regs ..))
  · exact .setFld s _ _ (List.mem_singleton_self _)
  · rw [State.updTw_fld, hpeer]
  · exact hpeer

theorem State.usedCl_parts (hdr : Word) : RegsKept [Reg.TW_EPOCH] s (s.usedCl x hdr) ∧
    (s.usedCl x hdr).clp x = { s.clp x with rxFcnt := wbits hdr 11 4, shut := false } ∧ (s.usedCl x hdr).ticks = s.ticks ∧
    (x = 0 → (s.usedCl x hdr).fld Reg.TW_EPOCH F.TW_EPOCH_PEER = wbits hdr 59 44) := by
  have hclp : (s.updCl x (fun c => { c with rxFcnt := wbits hdr 11 4, shut := false })).clp x =
      { s.clp x with rxFcnt := wbits hdr 11 4, shut := false } := State.clp_updCl ..
  unfold State.usedCl
  split
  · obtain ⟨hk, hpeer, hcl, hticks⟩ := (s.updCl x (fun c => { c with rxFcnt := wbits hdr 11 4, shut := false })).seeEpoch_parts
      (wbits hdr 59 44) (Nat.mod_lt _ (by decide))
    exact ⟨(RegsKept.of_regs _ (State.updCl_regs ..)).trans hk, (State.clp_of_cl hcl x).trans hclp, hticks.trans (State.updCl_ticks ..),
      fun _ => hpeer⟩
  · next h => exact ⟨.of_regs _ (State.updCl_regs ..), hclp, State.updCl_ticks .., fun h0 => absurd (congrArg Fin.val h0) h⟩

end

section
variable {s : State} {x : ClPort} {half : Fin 2} {ago : Nat} {hdr : Word} {cells : List (List Word)} {errs : List Nat}
  (hst : 2 ≤ s.tstate (.cl x)) (hon : s.on 5 = true) (he : errs.length ≤ 16)
include hst hon he

theorem clFrame_training (hk : wbits hdr 63 60 = 2) : s.clFrame x half ago hdr cells errs =
    ((s.phasedCl x half ago errs).usedCl x hdr).clTraining x half ((cells.getD 0 []).getD 0 0) := by
  unfold State.clFrame
  dsimp only
  rw [if_neg (by rw [hon]; simp; omega), if_neg (by omega), hk]
  rfl

/-- Training of a half-frame that was read. -/
def TrainRt.readHalf (half : Nat) (t : TrainRt) : TrainRt := { t with good := if half = 1 then min 8 (t.good + 1) else t.good, bad := 0 }

/-- A normal half-frame that is not discarded. -/
theorem clFrame_normal (hk : wbits hdr 63 60 = 1) (h : half = 1 ∨ wbits hdr 11 4 % 8 ≠ 0 ∨ wbits hdr 13 12 = 0 ∨ wbits hdr 13 12 = 3) :
    ∃ k, s.clFrame x half ago hdr cells errs =
      State.linkProtos k (((s.phasedCl x half ago errs).updTrain (.cl x) (.readHalf half)).usedCl x hdr) (.cl x) := by
  have hkind := kind15 hdr
  have hnot : ¬ (4 ≤ ((s.phasedCl x half ago errs).updTrain (.cl x) (.readHalf half)).tstate (.cl x) ∧ half.val = 0 ∧
      wbits hdr 11 4 % 8 = 0 ∧ (bitsOf (wbits hdr 43 12) (31 - 2 * 15) (30 - 2 * 15) = 1 ∨
        bitsOf (wbits hdr 43 12) (31 - 2 * 15) (30 - 2 * 15) = 2)) := by
    rw [hkind]
    rintro ⟨-, h0, hf, hk⟩
    rcases h with h | h
    · rw [h] at h0
      exact absurd h0 (by decide)
    · omega
  have hframe : s.clFrame x half ago hdr cells errs =
      if 4 ≤ (((s.phasedCl x half ago errs).updTrain (.cl x) (.readHalf half)).usedCl x hdr).tstate (.cl x) then
        State.linkProtos (clStray (fun c => bitsOf (wbits hdr 43 12) (31 - 2 * c) (30 - 2 * c)) 0 cells)
          (((s.phasedCl x half ago errs).updTrain (.cl x) (.readHalf half)).usedCl x hdr) (.cl x)
      else ((s.phasedCl x half ago errs).updTrain (.cl x) (.readHalf half)).usedCl x hdr := by
    unfold State.clFrame
    dsimp only
    rw [if_neg (by rw [hon]; simp; omega), if_neg (by omega), hk]
    exact if_neg hnot
  rw [hframe]
  split
  · exact ⟨_, rfl⟩
  · exact ⟨0, rfl⟩

end

theorem clTraining_fails {s : State} {x : ClPort} (h : s.tstate (.cl x) = 2 ∨ s.tstate (.cl x) = 3) {w0 : Word}
    (hw : wbits w0 63 56 ≠ 1) (half : Nat) : s.clTraining x half w0 = s.trainFail (.cl x) := by
  unfold State.clTraining
  dsimp only
  rw [if_neg (by omega), if_pos h, if_pos (.inl hw)]

/-- A training that fails after what leaves the count of failures. -/
theorem trainFail_after {s u : State} {e : LinkEnd} (hf : u.rdW (linkFails e) = s.rdW (linkFails e)) (ht : u.ticks = s.ticks) :
    (u.trainFail e).tstate e = 0 ∧ Counted (linkFails e) s (u.trainFail e) ∧
      ((u.trainFail e).train e).retryAt = some (s.ticks + 1966080) := by
  obtain ⟨h0, -, hretry, hcount, -⟩ := u.trainFail_failed e
  exact ⟨h0, by rw [Counted, ← hf]; exact hcount, by rw [hretry, ht]⟩

/-- Settles O26: frames and half-frames of every kind. -/
theorem framesAreCountedAndTakeLinksDown : Obligations.FramesAreCountedAndTakeLinksDown := by
  refine ⟨fun s n half ago hdr cells errs hst hon he => alFrame_uncorrectable hst hon he,
    fun s x half ago hdr cells errs hst hon he => clFrame_uncorrectable hst hon he, fun s n half ago hdr cells h5 hon hk => ?_,
    fun s n half ago hdr w0 w1 ws cells hst hon hk hw h0 h1 => ?_, fun s e half ago hdr w0 ws cells hst hon hk hw => ?_,
    fun s n half ago hdr cells errs h4 hon he hk => ?_, fun s n half ago hdr cells errs h4 hon he hk hf hcell => ?_,
    fun s x half ago hdr cells errs h4 hon he hk h => ?_⟩
  · have hexec := execFrameReceive_al_corrected (half := half) (ago := ago) (hdr := hdr) (cells := cells) (errs := [])
      (by omega) hon (Nat.zero_le _)
    have hsym := s.alCorrected_counted n []
    generalize s.alCorrected n [] = u at hexec hsym
    obtain ⟨-, -, -, -, -, htst⟩ := hsym.link
    have hu5 := htst.trans h5
    rw [if_pos hk, alTraining_lost hu5] at hexec
    obtain ⟨hdown, hlink⟩ := State.alLoss_down (s := u) (n := n) (by omega) (cause := 4) (by decide)
    exact .intro hexec ⟨hdown.tstate, hlink⟩
  · have hexec := execFrameReceive_al_corrected (half := half) (ago := ago) (hdr := hdr) (cells := (w0 :: w1 :: ws) :: cells) (errs := [])
      (by omega) hon (Nat.zero_le _)
    have hsym := s.alCorrected_counted n []
    generalize s.alCorrected n [] = u at hexec hsym
    obtain ⟨-, -, -, hmap, -, htst⟩ := hsym.link
    have hlane : ∀ f : Fld, f.rwg = false → u.fld (Reg.AL_LANEMAP n) f = s.fld (Reg.AL_LANEMAP n) f := fun f hf => by
      rw [State.fld_hw _ _ hf, State.fld_hw _ _ hf, hmap]
    obtain ⟨ht, hid, hbusw, htrain⟩ := u.heardAl_parts n w0 w1
    rw [if_pos hk, List.getD_cons_zero, List.getD_cons_zero, List.getD_cons_succ, List.getD_cons_zero,
      alTraining_heard (by omega) w1 hw (h0.trans (hlane _ rfl).symm) (h1.trans (hlane _ rfl).symm)] at hexec
    generalize u.heardAl n w0 w1 = v at hexec ht hid hbusw htrain
    rw [hsym.train] at htrain
    by_cases h8 : 8 ≤ (v.train (.al n)).good
    · rw [if_pos h8] at hexec
      have htrain' : (v.setFld (Reg.AL_STAT n) F.AL_STAT_FRAME_LOCK 1).train (.al n) = (s.train (.al n)).heard w0 :=
        (State.train_of (State.setFld_ports ..) (State.setFld_cl ..) _).trans htrain
      refine .intro hexec ⟨?_, ?_, ?_, by rw [htrain']; rfl, by rw [htrain']; rfl, by rw [htrain']; rfl, fun _ => ?_⟩
      · exact (State.fld_setFld_other _ _ _ _ _ (by decide)).trans (ht.trans htst)
      · rw [State.rdW_setFld_other _ _ _ (by simp only [Reg.AL_LE_ID, Reg.AL_STAT]; omega), hid]
      · rw [State.fld_setFld_other _ _ _ _ _ (by decide), hbusw]
      · rw [State.fld_setFld _ _ _ _ (by decide)]
        rfl
    · rw [if_neg h8] at hexec
      refine .intro hexec ⟨ht.trans htst, hid, hbusw, by rw [htrain]; rfl, by rw [htrain]; rfl, by rw [htrain]; rfl, fun h7 => ?_⟩
      refine absurd ?_ h8
      rw [htrain]
      show 8 ≤ min 8 ((s.train (.al n)).good + 1)
      omega
  · cases e with
    | al n =>
      have hexec := execFrameReceive_al_corrected (half := half) (ago := ago) (hdr := hdr) (cells := (w0 :: ws) :: cells) (errs := [])
        (by omega) hon (Nat.zero_le _)
      have hsym := s.alCorrected_counted n []
      generalize s.alCorrected n [] = u at hexec hsym
      obtain ⟨-, -, -, -, hfails, htst⟩ := hsym.link
      rw [if_pos hk, List.getD_cons_zero, List.getD_cons_zero, alTraining_fails (by omega) hw] at hexec
      exact .intro hexec (trainFail_after (e := .al n) hfails hsym.ticks)
    | cl x =>
      have hframe := clFrame_training (x := x) (cells := (w0 :: ws) :: cells) (half := half) (ago := ago) (errs := []) (by omega)
        hon (Nat.zero_le _) hk
      obtain ⟨ht, hkept, hticks, -⟩ := s.phasedCl_parts x half ago []
      generalize s.phasedCl x half ago [] = u at hframe ht hkept hticks
      obtain ⟨hkept', -, hticks', -⟩ := u.usedCl_parts x hdr
      generalize u.usedCl x hdr = v at hframe hkept' hticks'
      have ht' : v.tstate (.cl x) = u.tstate (.cl x) := State.tstate_of_rdW (e := .cl x)
        (hkept' _ (by simp only [linkStat, List.mem_singleton, Reg.CL_PORT_STAT, Reg.TW_EPOCH]; omega))
      have hfails : v.rdW (linkFails (.cl x)) = s.rdW (linkFails (.cl x)) :=
        (hkept' _ (by simp only [linkFails, List.mem_singleton, Reg.CL_PORT_TRAINFAIL, Reg.TW_EPOCH]; omega)).trans
          (hkept _ (by
            simp only [linkFails, List.mem_cons, List.not_mem_nil, or_false, Reg.CL_PORT_TRAINFAIL, Reg.CL_PORT_CORR, Reg.CL_PORT_STAT]
            omega))
      rw [List.getD_cons_zero, List.getD_cons_zero, clTraining_fails (by rw [ht', ht]; exact hst) hw] at hframe
      exact .intro (congrArg Host.Outcome.next hframe) (trainFail_after hfails (hticks'.trans hticks))
  · have hexec := execFrameReceive_al_corrected (half := half) (ago := ago) (hdr := hdr) (cells := cells) (errs := errs)
      (by omega) hon he
    have hsym := s.alCorrected_counted n errs
    generalize s.alCorrected n errs = u at hexec hsym
    obtain ⟨-, -, -, -, -, htst⟩ := hsym.link
    obtain ⟨ht, hkept, htrain, -⟩ := u.readAl_parts n
    rw [if_neg (by omega), if_pos hk] at hexec
    have hread : ∃ v, exec (.frameReceive (.al n) half ago hdr cells errs) s = .next v ∧
        RegsKeptEv [Reg.AL_PROTO n, Reg.AL_EVENT n] (u.readAl n) v ∧ v.train (.al n) = (u.readAl n).train (.al n) := by
      rcases alNormal_quiet (ago := ago) (hdr := hdr) (cells := cells) (htst.trans h4) with hd | ⟨k, hk⟩
      · obtain ⟨-, -, -, htr, hkd⟩ := (u.readAl n).alDiscard_parts n
        exact ⟨_, hexec.trans (congrArg _ hd), hkd, htr⟩
      · obtain ⟨hkp, hpp⟩ := State.linkProtos_al n k ((u.readAl n).updPort n (fun p => { p with shut := false }))
        refine ⟨_, hexec.trans (congrArg _ hk), (RegsKeptEv.of_regs _ (State.updPort_regs ..)).trans hkp, ?_⟩
        exact (congrArg PortRt.train (State.port_of_ports hpp n)).trans (State.train_updPort _ _ fun _ => by rfl)
    obtain ⟨v, hexec', hkv, htv⟩ := hread
    have hn := n.isLt
    have hcorr : v.rdW (Reg.AL_CORR n) = u.rdW (Reg.AL_CORR n) :=
      (hkv _ (by simp only [List.mem_cons, List.not_mem_nil, or_false, Reg.AL_CORR, Reg.AL_PROTO, Reg.AL_EVENT]; omega)
        (evKey_corrRegs n _ (by simp [corrRegs])).1).trans
        (hkept _ (by simp only [List.mem_singleton, Reg.AL_CORR, Reg.AL_STAT]; omega))
    have hstat : v.tstate (.al n) = (u.readAl n).tstate (.al n) := State.tstate_of_rdW (e := .al n) (hkv _
      (by simp only [linkStat, List.mem_cons, List.not_mem_nil, or_false, Reg.AL_STAT, Reg.AL_PROTO, Reg.AL_EVENT]; omega)
      (evKey_linkStat (.al n)))
    have hall : RegsKeptEv [Reg.AL_CORR n, Reg.AL_LANECORR0 n, Reg.AL_LANECORR1 n, Reg.AL_PROTO n, Reg.AL_EVENT n, Reg.AL_STAT n] s v :=
      ((hsym.kept.ev.mono (by simp [corrRegs])).trans (hkept.ev.mono (by simp))).trans (hkv.mono (by simp))
    refine .intro hexec' ⟨hstat.trans (ht.trans (htst.trans h4)), by rw [htv, htrain]; rfl, by rw [htv, htrain, hsym.train]; rfl, ?_, hall⟩
    rw [hcorr, hsym.corr, BitVec.toNat_ofNat]
    exact Nat.mod_eq_of_lt (by omega)
  · have hexec := execFrameReceive_al_corrected (half := half) (ago := ago) (hdr := hdr) (cells := cells) (errs := errs)
      (by omega) hon he
    have hsym := s.alCorrected_counted n errs
    generalize s.alCorrected n errs = u at hexec hsym
    obtain ⟨-, -, hproto, -, -, htst⟩ := hsym.link
    obtain ⟨-, hkept, -, hpails⟩ := u.readAl_parts n
    rw [if_neg (by omega), if_pos hk, alNormal_discards (by omega) hf hcell] at hexec
    obtain ⟨⟨hcount, herr⟩, hshut, hpails', -, -⟩ := (u.readAl n).alDiscard_parts n
    have hp : (u.readAl n).rdW (Reg.AL_PROTO n) = s.rdW (Reg.AL_PROTO n) :=
      (hkept _ (by simp only [List.mem_singleton, Reg.AL_PROTO, Reg.AL_STAT]; omega)).trans hproto
    refine .intro hexec ⟨?_, herr.bit, herr.code, hshut, hpails'.trans (hpails.trans hsym.pails)⟩
    rw [Counted, ← hp]
    exact hcount
  · obtain ⟨k, hframe⟩ := clFrame_normal (x := x) (cells := cells) (ago := ago) (by omega) hon he hk h
    obtain ⟨ht, -, -, hphase⟩ := s.phasedCl_parts x half ago errs
    generalize s.phasedCl x half ago errs = u at hframe ht hphase
    have hregs : (u.updTrain (.cl x) (.readHalf half)).regs = u.regs := State.updTrain_regs ..
    have hbad : ((u.updTrain (.cl x) (.readHalf half)).train (.cl x)).bad = 0 := by rw [State.train_updTrain]; rfl
    generalize u.updTrain (.cl x) (.readHalf half) = v at hframe hregs hbad
    obtain ⟨hkept, hclp, -, hpeer⟩ := v.usedCl_parts x hdr
    obtain ⟨htp, hkp, hcp⟩ := State.linkProtos_cl x k (v.usedCl x hdr)
    have hx := x.isLt
    have hstat : (v.usedCl x hdr).rdW (Reg.CL_PORT_STAT x) = u.rdW (Reg.CL_PORT_STAT x) :=
      (hkept _ (by simp only [List.mem_singleton, Reg.CL_PORT_STAT, Reg.TW_EPOCH]; omega)).trans (State.rdW_of_regs hregs _)
    have hne : Reg.CL_PORT_STAT x ∉ [Reg.CL_PORT_PROTO x, Reg.TW_EVENT] ∧ Reg.TW_EPOCH ∉ [Reg.CL_PORT_PROTO x, Reg.TW_EVENT] := by
      simp only [List.mem_cons, List.not_mem_nil, or_false, Reg.CL_PORT_STAT, Reg.CL_PORT_PROTO, Reg.TW_EVENT, Reg.TW_EPOCH]
      omega
    have hstat' := hkp (Reg.CL_PORT_STAT x) hne.1 (evKey_linkStat (.cl x))
    have hepoch := hkp Reg.TW_EPOCH hne.2 (by decide)
    have hfinal := (State.clp_of_cl hcp x).trans hclp
    refine .intro (congrArg Host.Outcome.next hframe) ⟨htp.trans ((State.tstate_of_rdW (e := .cl x) hstat).trans ht), ?_, by rw [hfinal], ?_, fun h0 => ?_⟩
    · exact (congrArg (fun c => c.train.bad) hfinal).trans hbad
    · rw [State.fld_hw _ _ rfl, hstat', hstat, ← State.fld_hw _ _ rfl, hphase]
    · rw [State.fld_hw _ _ rfl, hepoch, ← State.fld_hw _ _ rfl, hpeer h0]

end Sys2Proof.Machine
end

section
/-! SUPPORT. A read from a local end that reuses a tag (O30). -/

namespace Sys2Proof.Machine

set_option Elab.async false

open Sys2Proof.Tests

/-- Source `i` is routed to link 0's AER, whose corrected errors are reported by messages (R343, R346). -/
def reported (i : Nat) (s : State) : State :=
  (img s (Reg.EV_ROUTE i) F.EV_ROUTE_AER_EN 1).updLink 0 fun l => (l.setCfg 0x114 0).setCfg 0x068 1

/-- Port L0 Up with credit for a read and an entry for tag 0, and its errors reported. -/
def reportedPort : State :=
  reported 1 (alWith 5 fun p => { p with rx := [(crKey 2 0, { granted := 1 })], retried := [⟨0, 8, 4, 0, 0, 0, none, none, 0⟩] })

/-- Refutes O30: a read that reuses the tag of another access is a protocol error, and where its source is routed to AER the error's
message leaves the link (R346); the seventh clause lets nothing leave. -/
theorem not_localEndsReachHostMemory : ¬ Obligations.LocalEndsReachHostMemory := by
  unfold Obligations.LocalEndsReachHostMemory
  rintro ⟨-, -, -, -, -, -, hreuse, -⟩
  obtain ⟨-, hout, -⟩ := (hreuse reportedPort 0 0 0 ⟨0, 8, 4, 0, 0, 0, none, none, 0⟩ (by decide +kernel) (by decide +kernel)
    (by decide +kernel) (.inl (by decide))).after
  exact absurd hout (by decide +kernel)

end Sys2Proof.Machine
end

section
/-! SUPPORT. A slot of a Cloton port that resends a cell (O48). -/

namespace Sys2Proof.Machine

set_option Elab.async false

open Sys2Proof.Tests

/-- C0 Up with a mirror cell to be resent, and its errors reported. -/
def reportedC0 : State :=
  reported 593 (((runIn 5).setFld (Reg.CL_PORT_STAT 0) F.CL_PORT_STAT_TSTATE 5).updCl 0
    fun c => { c with unack := [{ kind := 0, seq := 0, bytes := [], sends := 1, tc := 0, again := true }] })

/-- Refutes O48: a slot that resends a cell is an occurrence of CL_ERR (R411), and where its source is routed to AER the error's
message leaves before the slot; the second clause lets the slot alone leave. -/
theorem not_clotonPortsSendCalibrateAndSpare : ¬ Obligations.ClotonPortsSendCalibrateAndSpare := by
  unfold Obligations.ClotonPortsSendCalibrateAndSpare
  rintro ⟨-, hslot, -⟩
  obtain ⟨-, hout, -⟩ := (hslot reportedC0 0 (by decide +kernel) (by decide +kernel) (by decide +kernel) (by decide +kernel)
    (.inr (by decide +kernel))).after
  exact absurd hout (by decide +kernel)

end Sys2Proof.Machine
end

section
/-! SUPPORT. An integrity failure of a stream, by the slice that its table lists (O60). -/

namespace Sys2Proof.Machine

set_option Elab.async false

open Sys2Proof.Tests

/-- A slice number beyond the last, where the state of a TDI lies in the counter of IDE_FAIL's own occurrences. -/
def beyondLastSlice : Nat := 16 * 0xBA03

/-- Stream 1 of link 0 is Secure, and that slice is bound to the link and Locked on the stream. An error that the link holds
already keeps the Header Log as it is. -/
def lockedBeyond : State :=
  let s := runIn 5
  { s with links := [(0, { (s.link 0).setCfg 0x104 1 with ide := [(1, { ({} : IdeRt) with state := 2 })] })],
           regs := SMap.put 0 s.regs (Reg.EV_CNT 579) 1,
           gen := SMap.put 0 s.gen (Reg.SL_BIND beyondLastSlice) (F.SL_BIND_EN.put 0 1),
           sec := { s.sec with tdiStream := [(beyondLastSlice, 2)] } }

/-- Refutes O60: the thirteenth clause takes every slice that the table of streams lists, also a number beyond the last slice;
there the TDI's state, set to ERROR, is moved on by the count of the failure itself. -/
theorem not_sessionsStreamsAndInterfacesChangeState : ¬ Obligations.SessionsStreamsAndInterfacesChangeState := by
  unfold Obligations.SessionsStreamsAndInterfacesChangeState
  rintro ⟨-, -, -, -, -, -, -, -, -, -, -, -, hfail, -⟩
  obtain ⟨-, -, -, -, htdi⟩ := (hfail lockedBeyond 0 1 (by decide +kernel)).after
  exact absurd (htdi beyondLastSlice (by decide +kernel)) (by decide +kernel)

end Sys2Proof.Machine
end

section
/-! SUPPORT. Mirror cells: what the sequence test leaves, and cells that are not applied (O51). -/

namespace Sys2Proof.Machine

set_option Elab.async false

/-! ## Mirror cells taken or not (R411, R417) -/

/-- The state after a mirror cell that its sequence test takes. -/
def State.mirrorTaken (s : State) : State :=
  (s.updCl 0 fun c => { c with rxSeq := ((s.clp 0).rxSeq + 1) % 1024 }).clCtl 0 [clAckWord 0 false (s.clp 0).rxSeq]

section
variable {s : State}

theorem State.mirrorTaken_cl : ∃ m, s.mirrorTaken = { s with cl := m } := ⟨_, rfl⟩

theorem State.mirrorTaken_gen : s.mirrorTaken.gen = s.gen := rfl
theorem State.mirrorTaken_staged : s.mirrorTaken.staged = s.staged := rfl
theorem State.mirrorTaken_regs : s.mirrorTaken.regs = s.regs := rfl
theorem State.mirrorTaken_um : s.mirrorTaken.um = s.um := rfl
theorem State.mirrorTaken_tw : s.mirrorTaken.tw = s.tw := rfl

theorem State.mirrorTaken_seq : (s.mirrorTaken.clp 0).rxSeq = ((s.clp 0).rxSeq + 1) % 1024 ∧
    [clAckWord 0 false (s.clp 0).rxSeq] ∈ (s.mirrorTaken.clp 0).ctl ∧
    (s.mirrorTaken.clp 0).commit = (s.clp 0).commit ∧ (s.mirrorTaken.clp 0).peerGen = (s.clp 0).peerGen := by
  unfold State.mirrorTaken
  refine ⟨(State.clCtl_field ClRt.rxSeq (fun _ _ => rfl) _ _ _).trans ?_, State.mem_clCtl _ _ _,
    (State.clCtl_field ClRt.commit (fun _ _ => rfl) _ _ _).trans ?_,
    (State.clCtl_field ClRt.peerGen (fun _ _ => rfl) _ _ _).trans ?_⟩ <;> rw [State.clp_updCl]

variable {k : Nat} {hdr : BitVec 32} {body : List Byte}

theorem State.mirrorRx_taken (hup : s.isUp (.cl 0) = true) (hf : s.frameIn (.cl 0) = true) (hk : bitsOf hdr.toNat 31 28 = k)
    (hseq : bitsOf hdr.toNat 27 18 = (s.clp 0).rxSeq) :
    s.mirrorRx k hdr body = (s.mirrorTaken, some (body.take (bitsOf hdr.toNat 5 0))) := by
  unfold State.mirrorRx State.clTake
  rw [if_neg (not_not.2 hk)]
  dsimp only
  rw [if_neg (by simp [hup, hf])]
  simp only [Bool.false_eq_true, if_false]
  rw [if_pos (show bitsOf hdr.toNat 27 18 = (s.clp (0 : ClPort)).rxSeq from hseq), hseq]
  rfl

theorem State.mirrorRx_other (hk : bitsOf hdr.toNat 31 28 ≠ k) : s.mirrorRx k hdr body = (s, none) := if_pos hk

theorem State.applies_congr {t : State} (hr : t.regs = s.regs) (hg : t.gen = s.gen) (htw : t.tw = s.tw) : t.applies = s.applies := by
  rw [State.applies, State.applies, (State.isTarget_congr hr hg).1, htw]

/-- The sequence test changes the port alone. -/
theorem State.clTake_cl (x : ClPort) (herd : Bool) (seq : Nat) : ∃ m, (s.clTake x herd seq).1 = { s with cl := m } := by
  unfold State.clTake
  dsimp only
  generalize (if herd then (s.clp x).hRxSeq else (s.clp x).rxSeq) = want
  split
  · exact ⟨s.cl, rfl⟩
  · split
    · exact ⟨_, rfl⟩
    · split <;> exact ⟨_, rfl⟩

theorem State.mirrorRx_idle (ha : s.applies = false) (hk : bitsOf hdr.toNat 31 28 = k) :
    ∃ r, s.mirrorRx k hdr body = ((s.clTake 0 false (bitsOf hdr.toNat 27 18)).1, r) ∧
      (s.clTake 0 false (bitsOf hdr.toNat 27 18)).1.applies = false := by
  obtain ⟨m, hm⟩ := s.clTake_cl 0 false (bitsOf hdr.toNat 27 18)
  refine ⟨_, if_neg (not_not.2 hk), ?_⟩
  rw [hm]
  exact (State.applies_congr (t := { s with cl := m }) rfl rfl rfl).trans ha

/-- A device that is no target takes a cell and does nothing. -/
theorem exec_mirror_idle (e : Instr × Nat) (ha : s.applies = false)
    (he : e ∈ [(Instr.stagedWr hdr body, 1), (.shadowWr hdr body, 2), (.genCmd hdr body, 3), (.commit hdr body, 4),
      (.chan hdr body, 6), (.syncReg hdr body, 7), (.syncWt hdr body, 8), (.syncDone hdr body 2, 9)])
    (hk : bitsOf hdr.toNat 31 28 = e.2) : exec e.1 s = .next (s.clTake 0 false (bitsOf hdr.toNat 27 18)).1 := by
  obtain ⟨r, hr, hu⟩ := State.mirrorRx_idle (body := body) ha hk
  generalize (s.clTake 0 false (bitsOf hdr.toNat 27 18)).1 = u at *
  simp only [List.mem_cons, List.not_mem_nil, or_false] at he
  rcases he with rfl | rfl | rfl | rfl | rfl | rfl | rfl | rfl
  · show execStagedWr hdr body s = _
    rw [execStagedWr, hr]
    cases r <;> simp [hu]
  · show execShadowWr hdr body s = _
    rw [execShadowWr, hr]
    cases r <;> simp [hu]
  · show execGenCmd hdr body s = _
    rw [execGenCmd, hr]
    cases r <;> simp [hu]
  · show execCommit hdr body s = _
    rw [execCommit, hr]
    cases r <;> simp [hu]
  · show execChan hdr body s = _
    rw [execChan, hr]
    cases r <;> simp [hu]
  · show execSyncReg hdr body s = _
    rw [execSyncReg, hr]
    cases r <;> simp [hu]
  · show execSyncWt hdr body s = _
    rw [execSyncWt, hr]
    cases r <;> simp [hu]
  · show execSyncDone hdr body 2 s = _
    rw [execSyncDone, hr]
    cases r <;> simp [hu]

/-- A cell of another kind is none of a row's. -/
theorem exec_mirror_other (e : Instr × Nat)
    (he : e ∈ [(Instr.stagedWr hdr body, 1), (.shadowWr hdr body, 2), (.genCmd hdr body, 3), (.commit hdr body, 4),
      (.commitAck hdr body, 5), (.chan hdr body, 6), (.syncReg hdr body, 7), (.syncWt hdr body, 8), (.syncDone hdr body 2, 9),
      (.peerReset hdr body, 0xA)])
    (hk : bitsOf hdr.toNat 31 28 ≠ e.2) : exec e.1 s = .next s := by
  have hr := State.mirrorRx_other (s := s) (body := body) hk
  simp only [List.mem_cons, List.not_mem_nil, or_false] at he
  rcases he with rfl | rfl | rfl | rfl | rfl | rfl | rfl | rfl | rfl | rfl
  · show execStagedWr hdr body s = _
    rw [execStagedWr, hr]
  · show execShadowWr hdr body s = _
    rw [execShadowWr, hr]
  · show execGenCmd hdr body s = _
    rw [execGenCmd, hr]
  · show execCommit hdr body s = _
    rw [execCommit, hr]
  · show execCommitAck hdr body s = _
    rw [execCommitAck, hr]
  · show execChan hdr body s = _
    rw [execChan, hr]
  · show execSyncReg hdr body s = _
    rw [execSyncReg, hr]
  · show execSyncWt hdr body s = _
    rw [execSyncWt, hr]
  · show execSyncDone hdr body 2 s = _
    rw [execSyncDone, hr]
  · show execPeerReset hdr body s = _
    rw [execPeerReset, hr]

end

/-! ## Records -/

theorem records_one {n f : Nat} {bs : List Byte} (hf : 0 < f) (hn : 0 < n) (hl : bs.length = n) : records n f bs = [bs] := by
  obtain ⟨f, rfl⟩ : ∃ g, f = g + 1 := ⟨f - 1, by omega⟩
  rw [records, if_neg (by omega), List.take_of_length_le (by omega), List.drop_eq_nil_of_le (by omega)]
  cases f with
  | zero => rfl
  | succ f => rw [records, if_pos (by rw [List.length_nil]; omega)]

theorem leAt_take {bs : List Byte} {n i m : Nat} (h : i + m ≤ n) : leAt (bs.take n) i m = leAt bs i m := by
  rw [leAt, leAt, List.drop_take, List.take_take, min_eq_left (by omega)]

end Sys2Proof.Machine
end

section
/-! SUPPORT. Mirrored writes of staged registers and of shadow halves (O51). -/

namespace Sys2Proof.Machine

set_option Elab.async false

/-! ## One word of the shadow half written whole (R144, R186) -/

section
variable {i : Nat} {l : List Byte} (hl : l.length = 8)
include hl

theorem wordsReached_word : wordsReached (8 * i) (l.map some) = [i] := by
  rw [wordsReached, if_neg (by simp only [List.isEmpty_iff, List.map_eq_nil_iff]; rintro rfl; exact absurd hl (by decide)),
    List.length_map, hl, show (8 * i + 8 - 1) / 8 - 8 * i / 8 + 1 = 1 by omega, show 8 * i / 8 = i by omega]
  rfl

theorem coverOf_word : coverOf (8 * i) i (l.map some) = l.map some := by
  refine List.ext_getElem (by simp [coverOf, hl]) fun j h1 h2 => ?_
  have hj : j < l.length := by simpa using h2
  simp only [coverOf, List.getElem_map, List.getElem_range]
  rw [if_neg (by omega), show 8 * i + j - 8 * i = j by omega, List.getD_eq_getElem _ _ h2, List.getElem_map]

theorem mergeWord_word (old : Word) : mergeWord old (l.map some) = BitVec.ofNat 64 (leNat l) := by
  refine congrArg (fun b => BitVec.ofNat 64 (leNat b)) (List.ext_getElem (by simp [hl]) fun j h1 h2 => ?_)
  simp only [List.getElem_map, List.getElem_range]
  rw [List.getD_eq_getElem _ _ (by simpa using h2), List.getElem_map, Option.getD_some]

theorem partPoison_word (bad : List Nat) : partPoison bad (8 * i) (l.map some) = false := by
  rw [partPoison, wordsReached_word hl, List.any_cons, List.any_nil, coverOf_word hl]
  simp

/-- What a write of whole word `i` makes of a unit. -/
structure WordWritten (i : Nat) (w : Word) (r r' : UnitRt) : Prop where
  word : SMap.get 0 r'.shadow i = w &&& weightMask i
  others : ∀ j, j ≠ i → SMap.get 0 r'.shadow j = SMap.get 0 r.shadow j
  active : r'.active = r.active

theorem writeShadow_word {r r' : UnitRt} (h : r' = r ∨ WordWritten i (BitVec.ofNat 64 (leNat l)) r r') :
    WordWritten i (BitVec.ofNat 64 (leNat l)) r (r'.writeShadow (8 * i) (l.map some)) := by
  have hsame : (∀ j, j ≠ i → SMap.get 0 r'.shadow j = SMap.get 0 r.shadow j) ∧ r'.active = r.active := by
    rcases h with rfl | h
    · exact ⟨fun _ _ => rfl, rfl⟩
    · exact ⟨h.others, h.active⟩
  unfold UnitRt.writeShadow
  rw [if_neg (by rw [partPoison_word hl]; decide), wordsReached_word hl]
  simp only [List.foldl_cons, List.foldl_nil, coverOf_word hl, mergeWord_word hl]
  exact ⟨SMap.get_put_same .., fun j hj => (SMap.get_put_other _ _ _ _ hj).trans (hsame.1 j hj), hsame.2⟩

end

/-- What one change gives and a second one keeps holds of each unit of a list that changes. -/
theorem State.unit_eachUnit_of {P : UnitRt → UnitRt → Prop} {f : UnitRt → UnitRt} (hf : ∀ r r', r' = r ∨ P r r' → P r (f r'))
    {u : Nat} (us : List Nat) (r : UnitRt) : ∀ s : State, s.unit u = r ∨ P r (s.unit u) → u ∈ us → P r ((s.eachUnit us f).unit u) := by
  induction us with
  | nil => exact fun _ _ h => absurd h List.not_mem_nil
  | cons v us ih =>
    intro s hs hu
    by_cases huv : u = v
    · subst huv
      have hone : P r ((s.updUnit u f).unit u) := by
        rw [State.unit_updUnit]
        exact hf _ _ hs
      by_cases hus : u ∈ us
      · exact ih _ (.inr hone) hus
      · rw [State.eachUnit, List.foldl_cons]
        exact (State.unit_eachUnit_other f us (s.updUnit u f) hus) ▸ hone
    · refine ih _ ?_ ((List.mem_cons.1 hu).resolve_left huv)
      rwa [State.unit_updUnit_other _ _ huv]

/-- Changes of units change nothing else. -/
theorem State.eachUnit_units (f : UnitRt → UnitRt) (us : List Nat) : ∀ s : State, ∃ m, s.eachUnit us f = { s with units := m } := by
  induction us with
  | nil => exact fun s => ⟨s.units, rfl⟩
  | cons u us ih =>
    intro s
    obtain ⟨m, hm⟩ := ih (s.updUnit u f)
    exact ⟨m, hm⟩

theorem State.shadowErrors_nil (s : State) (g : Nat) (is : List Nat) : s.shadowErrors g is [] = s := rfl

section
variable {s : State} {g : Nat}

/-- A window that nothing holds takes an access at once. -/
theorem State.access_free (a : WbAccess) (hb : s.windowBusy g = false) (hh : (s.grp g).held = []) : s.access g a = s.doAccess g a := by
  unfold State.access
  dsimp only
  rw [hb, hh]
  simp

theorem State.doAccess_word {i : Nat} {l : List Byte} (hl : l.length = 8) (hp : s.wbPending g = false) :
    ∃ n ws, s.doAccess g (.write none (8 * i) (l.map some) []) =
      ((s.eachUnit (s.windowUnits g) fun r => r.writeShadow (8 * i) (l.map some)).setFld (Reg.CH_WB_STATUS g)
        F.CH_WB_STATUS_DIRTY 1).mirrorWords n 2 g (8 * i / 8) ws := by
  unfold State.doAccess
  dsimp only
  rw [if_neg (by rw [hp]; decide), State.shadowWrite, State.shadowErrors_nil]
  dsimp only
  rw [if_neg (by rw [partPoison_word hl]; decide)]
  exact ⟨_, _, rfl⟩

end

/-! ## Records applied by a target (R417, R418) -/

section
variable {s : State} {hdr : BitVec 32} {body : List Byte} (hup : s.isUp (.cl 0) = true) (hf : s.frameIn (.cl 0) = true)
  (hseq : bitsOf hdr.toNat 27 18 = (s.clp 0).rxSeq) (ha : s.applies = true)

theorem State.stagedRecs_one (r : List Byte) (hg : s.genState = 1) :
    s.stagedRecs [r] = s.stage (leAt r 0 4) (BitVec.ofNat 64 (leAt r 4 8) &&& rwgMask (leAt r 0 4)) := by
  have hopen : (if s.genState = 0 then s.openGen 0 else s) = s := if_neg (by omega)
  rw [State.stagedRecs, State.stagedRecs, hopen]
  exact if_pos hg

theorem State.mirrorTaken_applies : s.mirrorTaken.applies = s.applies := State.applies_congr rfl rfl rfl

include hup hf hseq ha

theorem execStagedWr_completes {k : Nat} (hk : bitsOf hdr.toNat 31 28 = 1) (hlen : bitsOf hdr.toNat 5 0 = 12)
    (hbody : 12 ≤ body.length) (hopen : s.genState = 1) (hkey : k = leAt body 0 4) :
    Completes (.stagedWr hdr body) s fun t => t.rdS k = BitVec.ofNat 64 (leAt body 4 8) &&& rwgMask k ∧
      (∀ j, j ≠ k → s.spareReg k ≠ some j → t.rdS j = s.rdS j) ∧ t.gen = s.gen ∧ t.regs = s.regs ∧
      (t.clp 0).rxSeq = ((s.clp 0).rxSeq + 1) % 1024 ∧ [clAckWord 0 false (s.clp 0).rxSeq] ∈ (t.clp 0).ctl := by
  obtain ⟨hrx, hctl, -⟩ := s.mirrorTaken_seq
  have hexec : exec (.stagedWr hdr body) s =
      .next (s.mirrorTaken.stage k (BitVec.ofNat 64 (leAt body 4 8) &&& rwgMask k)) := by
    show execStagedWr hdr body s = _
    rw [execStagedWr, State.mirrorRx_taken hup hf hk hseq]
    dsimp only
    rw [if_pos (State.mirrorTaken_applies.trans ha), hlen,
      records_one (by decide) (by decide) (by rw [List.length_take, min_eq_left hbody]),
      State.stagedRecs_one _ (s := s.mirrorTaken) hopen, leAt_take (by decide), leAt_take (by decide), ← hkey]
  have hcl : (s.mirrorTaken.stage k (BitVec.ofNat 64 (leAt body 4 8) &&& rwgMask k)).clp 0 = s.mirrorTaken.clp 0 :=
    State.clp_of_cl ((State.stage_in ..).same .cl rfl) 0
  refine .intro hexec ⟨?_, fun j hj hsp => ?_, (State.stage_in ..).same .gen rfl, (State.stage_in ..).same .regs rfl,
    hcl ▸ hrx, hcl ▸ hctl⟩
  · unfold State.stage
    split
    next j hj =>
      by_cases hjk : k = j
      · rw [hjk, State.rdS_wrS_same]
      · rw [State.rdS_wrS_other _ _ hjk, State.rdS_wrS_same]
    next => rw [State.rdS_wrS_same]
  · unfold State.stage
    split
    next i hi =>
      rw [State.rdS_wrS_other _ _ fun e => hsp (hi.trans (congrArg some e.symm)), State.rdS_wrS_other _ _ hj]
      rfl
    next =>
      rw [State.rdS_wrS_other _ _ hj]
      rfl

theorem execShadowWr_completes {g : Group} {i : Nat} (hk : bitsOf hdr.toNat 31 28 = 2) (hlen : bitsOf hdr.toNat 5 0 = 16)
    (hbody : 16 ≤ body.length) (hg : leAt body 0 1 = g.val) (hi : leAt body 4 4 = i) (hp : s.wbPending g = false)
    (hb : s.windowBusy g = false) (hh : (s.grp g).held = []) :
    Completes (.shadowWr hdr body) s fun t => t.fld (Reg.CH_WB_STATUS g) F.CH_WB_STATUS_DIRTY = 1 ∧
      SMap.get 0 (t.unit (s.groupUnit g)).shadow i = BitVec.ofNat 64 (leAt body 8 8) &&& weightMask i ∧
      (∀ j ∈ [i - 1, i + 1], j ≠ i → SMap.get 0 (t.unit (s.groupUnit g)).shadow j = SMap.get 0 (s.unit (s.groupUnit g)).shadow j) ∧
      (t.unit (s.groupUnit g)).active = (s.unit (s.groupUnit g)).active ∧ t.staged = s.staged := by
  have hword : ((body.take 16).drop 8).length = 8 := by rw [List.length_drop, List.length_take, min_eq_left hbody]
  have hval : leNat ((body.take 16).drop 8) = leAt body 8 8 := congrArg leNat List.drop_take
  obtain ⟨n, ws, hacc⟩ := State.doAccess_word (s := s.mirrorTaken) (i := i) hword hp
  have hexec : exec (.shadowWr hdr body) s = .next (((s.mirrorTaken.eachUnit (s.mirrorTaken.windowUnits g)
      fun r => r.writeShadow (8 * i) (((body.take 16).drop 8).map some)).setFld (Reg.CH_WB_STATUS g)
        F.CH_WB_STATUS_DIRTY 1).mirrorWords n 2 g (8 * i / 8) ws) := by
    show execShadowWr hdr body s = _
    rw [execShadowWr, State.mirrorRx_taken hup hf hk hseq, hlen]
    dsimp only
    rw [leAt_take (by decide), leAt_take (by decide), hg, hi, if_pos ⟨State.mirrorTaken_applies.trans ha, g.isLt⟩,
      State.access_free (s := s.mirrorTaken) _ hb hh, hacc]
  have hunit := State.unit_eachUnit_of (f := fun r => r.writeShadow (8 * i) (((body.take 16).drop 8).map some))
    (fun _ _ => writeShadow_word hword) (s.mirrorTaken.windowUnits g) (s.unit (s.groupUnit g)) s.mirrorTaken (.inl rfl)
    (groupUnit_mem_windowUnits (s := s.mirrorTaken) (g := g))
  obtain ⟨m, hm⟩ := State.eachUnit_units (fun r => r.writeShadow (8 * i) (((body.take 16).drop 8).map some))
    (s.mirrorTaken.windowUnits g) s.mirrorTaken
  have hstaged := congrArg State.staged hm
  clear hm hacc
  generalize s.mirrorTaken.eachUnit (s.mirrorTaken.windowUnits g)
    (fun r => r.writeShadow (8 * i) (((body.take 16).drop 8).map some)) = u at *
  obtain ⟨h1, h2, h3⟩ := hunit
  have ht : ∀ v, ((u.setFld (Reg.CH_WB_STATUS g) F.CH_WB_STATUS_DIRTY 1).mirrorWords n 2 g (8 * i / 8) ws).unit v = u.unit v :=
    fun v => (State.unit_of_units ((State.mirrorWords_in ..).same .units rfl) v).trans (State.unit_of_units (State.setFld_units ..) v)
  refine .intro hexec ⟨?_, ?_, fun j _ hj => ?_, ?_, ?_⟩
  · rw [State.fld_hw _ _ rfl, State.rdW_of_regs ((State.mirrorWords_in ..).same .regs rfl), ← State.fld_hw _ _ rfl,
      State.fld_setFld _ _ _ _ (by decide)]
    rfl
  · rw [ht, h1, hval]
  · rw [ht, h2 j hj]
  · rw [ht, h3]
  · exact ((State.mirrorWords_in ..).same .staged rfl).trans ((State.setFld_staged ..).trans hstaged)

end

end Sys2Proof.Machine
end

section
/-! SUPPORT. Mirrored commands and commits of a generation (O51). -/

namespace Sys2Proof.Machine

set_option Elab.async false

/-! ## Bytes of a number -/

theorem leNat_leBytes (n : Nat) : ∀ v, leNat (leBytes n v) = v % 256 ^ n := by
  induction n with
  | zero => exact fun v => (Nat.mod_one v).symm
  | succ n ih =>
    intro v
    have hmod : v % (256 * 256 ^ n) = v % 256 + 256 * (v / 256 % 256 ^ n) := Nat.mod_mul
    rw [leBytes, leNat, ih, BitVec.toNat_ofNat, pow_succ' 256 n, hmod]

theorem leAt_leBytes (n v : Nat) (bs : List Byte) : leAt (leBytes n v ++ bs) 0 n = v % 256 ^ n := by
  rw [leAt, List.drop_zero, List.take_left' (leBytes_length n v), leNat_leBytes]

theorem leNat_lt (bs : List Byte) : leNat bs < 256 ^ bs.length := by
  induction bs with
  | nil => exact Nat.one_pos
  | cons b bs ih =>
    rw [leNat, List.length_cons, pow_succ']
    have := b.isLt
    omega

theorem leAt_lt (bs : List Byte) (i n : Nat) : leAt bs i n < 256 ^ n :=
  (leNat_lt _).trans_le (Nat.pow_le_pow_right (by decide) (List.length_take_le ..))

/-! ## Commands of the generation mirrored (R417 to R419) -/

section
variable {s : State}

theorem State.herdAbort_open (s : State) (a : Armed) : (s.herdAbort a).genState = s.genState ∧ (s.herdAbort a).um = s.um := by
  refine ⟨?_, (State.herdAbort_in ..).same .um rfl⟩
  unfold State.herdAbort
  split
  · rw [State.evTw_genState _ (by decide), State.genState_of_regs (State.updTw_regs ..),
      State.genState_of_regs ((State.herdSend_in ..).same .regs rfl)]
  · rfl

theorem State.disarm_open {a : Armed} (h : s.um.armed = some a) :
    s.disarm.genState = 1 ∧ s.disarm.um.armed = none ∧ s.disarm.staged = s.staged := by
  obtain ⟨hregs, hstaged, -, -, -, harmed⟩ := State.disarm_same h
  obtain ⟨harm0, hstaged0, -⟩ := s.reopened_parts a
  obtain ⟨hg, hu⟩ := (s.reopened a).herdAbort_open a
  exact ⟨(State.genState_of_regs hregs).trans (hg.trans (s.reopened_genState a)), harmed.trans ((congrArg Um.armed hu).trans harm0),
    hstaged.trans (((State.herdAbort_in ..).same .staged rfl).trans hstaged0)⟩

theorem State.openGen_copied (o : Nat) (hi : s.image = []) : (s.openGen o).genState = 1 ∧ (s.openGen o).staged = s.gen := by
  unfold State.openGen
  dsimp only
  rw [if_neg fun h => h.2 (by rw [State.updUm_image]; exact hi)]
  refine ⟨?_, ?_⟩
  · rw [State.genState, State.fld_setFld_other _ _ _ _ _ (by decide), State.fld_setFld _ _ _ _ (by decide)]
    rfl
  · rw [State.setFld_staged, State.setFld_staged, State.updUm_staged]
    rfl

theorem State.closeGen_closed (s : State) : s.closeGen.genState = 0 ∧ s.closeGen.staged = [] := by
  unfold State.closeGen
  refine ⟨?_, ?_⟩
  · rw [State.genState, State.updUm_fld, State.fld_setFld _ _ _ _ (by decide)]
    rfl
  · rw [State.updUm_staged, State.setFld_staged]
    rfl

theorem State.genRec_of_code {r : List Byte} {c : Nat} (hc : leAt r 0 1 = c) : (c = 1 → s.genRec r = s.openGen 0) ∧
    (c = 2 → s.genState = 1 → s.genRec r = s.closeGen) ∧ (c = 3 → s.genRec r = s.disarm) := by
  subst hc
  unfold State.genRec
  refine ⟨fun h => ?_, fun h hg => ?_, fun h => ?_⟩
  · rw [h]
    rfl
  · rw [h]
    exact if_pos hg
  · rw [h]
    rfl

/-- The frozen generation. -/
theorem State.setPending_below (gs : List Nat) : ∀ s : State, ∀ k < 0x800000, (s.setPending gs).rdW k = s.rdW k := by
  induction gs with
  | nil => exact fun _ _ _ => rfl
  | cons g gs ih =>
    intro s k hk
    rw [State.setPending, ih _ k hk, State.rdW_setFld_other _ _ _ (by simp only [Reg.CH_WB_STATUS]; omega)]

theorem State.arm_spec (h : Option UmHdr) (t seq : Nat) (herd : Bool) (hdig expect : List Byte) (peer : Bool) :
    ∃ a : Armed, (s.arm h t seq herd hdig expect peer).um.armed = some a ∧ a.hdr = h ∧ a.at_ = t ∧ a.seq = seq ∧
      a.groups = s.dirtyGroups ∧ a.checked = false ∧ a.ok = false ∧ (s.arm h t seq herd hdig expect peer).genState = 2 ∧
      (s.arm h t seq herd hdig expect peer).staged = s.staged ∧ (s.arm h t seq herd hdig expect peer).gen = s.gen ∧
      (s.arm h t seq herd hdig expect peer).rdW Reg.UM_GEN_AT = tlOf t := by
  refine ⟨_, congrArg Um.armed (State.updUm_um ..), rfl, rfl, rfl, rfl, rfl, rfl, ?_, (State.arm_in ..).same .staged rfl,
    (State.arm_in ..).same .gen rfl, ?_⟩
  · unfold State.arm
    dsimp only
    rw [State.genState, State.updUm_fld, State.fld_setFld _ _ _ _ (by decide)]
    rfl
  · unfold State.arm
    dsimp only
    rw [State.updUm_rdW, State.rdW_setFld_other _ _ _ (by decide), State.rdW_wrW_same]

end

section
variable {s : State} {hdr : BitVec 32} {body : List Byte} (hup : s.isUp (.cl 0) = true) (hf : s.frameIn (.cl 0) = true)
  (hseq : bitsOf hdr.toNat 27 18 = (s.clp 0).rxSeq) (ha : s.applies = true)
include hup hf hseq ha

theorem execGenCmd_completes {c : Nat} (hk : bitsOf hdr.toNat 31 28 = 3) (hlen : bitsOf hdr.toNat 5 0 = 4)
    (hbody : 4 ≤ body.length) (hc : leAt body 0 1 = c) :
    Completes (.genCmd hdr body) s fun t => t.gen = s.gen ∧
      (c = 1 → s.image = [] → t.genState = 1 ∧ t.staged = s.gen) ∧
      (c = 2 → s.genState = 1 → t.genState = 0 ∧ t.staged = []) ∧
      (c = 3 → s.um.armed.isSome = true → t.genState = 1 ∧ t.um.armed = none ∧ t.staged = s.staged) := by
  have hexec : exec (.genCmd hdr body) s = .next (s.mirrorTaken.genRec (body.take 4)) := by
    show execGenCmd hdr body s = _
    rw [execGenCmd, State.mirrorRx_taken hup hf hk hseq, hlen]
    dsimp only
    rw [if_pos (State.mirrorTaken_applies.trans ha),
      records_one (by decide) (by decide) (by rw [List.length_take, min_eq_left hbody]), State.genRecs, State.genRecs]
  obtain ⟨h1, h2, h3⟩ := State.genRec_of_code (s := s.mirrorTaken) (r := body.take 4) ((leAt_take (by decide)).trans hc)
  refine .intro hexec ⟨(State.genRec_in ..).same .gen rfl, fun hc hi => ?_, fun hc hg => ?_, fun hc harm => ?_⟩
  · rw [h1 hc]
    exact State.openGen_copied 0 (s := s.mirrorTaken) hi
  · rw [h2 hc hg]
    exact State.closeGen_closed _
  · rw [h3 hc]
    obtain ⟨a, harm⟩ := Option.isSome_iff_exists.1 harm
    exact State.disarm_open (s := s.mirrorTaken) harm

theorem execCommit_arms (hk : bitsOf hdr.toNat 31 28 = 4) (hlen : bitsOf hdr.toNat 5 0 = 60) (hbody : body.length = 60)
    (hopen : s.genState = 1) :
    Completes (.commit hdr body) s fun t => t.genState = 2 ∧ t.staged = s.staged ∧ t.gen = s.gen ∧
      t.rdW Reg.UM_GEN_AT = tlOf (tlCount (BitVec.ofNat 64 (leAt body 0 8))) ∧
      t.um.armed.map (fun a => (a.hdr, a.at_, a.seq)) = some (none, tlCount (BitVec.ofNat 64 (leAt body 0 8)), leAt body 8 4) ∧
      t.um.armed.map (fun a => (a.groups, a.checked, a.ok)) = some (s.dirtyGroups, false, false) := by
  have hexec : exec (.commit hdr body) s = .next (s.mirrorTaken.arm none (tlCount (BitVec.ofNat 64 (leAt body 0 8)))
      (leAt body 8 4) false [] ((body.drop 12).take 48) false) := by
    show execCommit hdr body s = _
    rw [execCommit, State.mirrorRx_taken hup hf hk hseq, hlen, List.take_of_length_le hbody.le]
    dsimp only
    rw [if_pos (State.mirrorTaken_applies.trans ha), if_pos (show s.mirrorTaken.genState = 1 from hopen)]
  obtain ⟨a, harm, hhdr, hat, hsq, hgrp, hch, hok, hg, hst, hgen, hatr⟩ := State.arm_spec (s := s.mirrorTaken) none
    (tlCount (BitVec.ofNat 64 (leAt body 0 8))) (leAt body 8 4) false [] ((body.drop 12).take 48) false
  refine .intro hexec ⟨hg, hst, hgen, hatr, ?_, ?_⟩
  · rw [harm, Option.map_some, hhdr, hat, hsq]
  · rw [harm, Option.map_some, hgrp, hch, hok]
    rfl

theorem execCommit_answers (hk : bitsOf hdr.toNat 31 28 = 4) (hlen : bitsOf hdr.toNat 5 0 = 60) (hbody : body.length = 60)
    (hopen : s.genState ≠ 1) :
    Completes (.commit hdr body) s fun t => t.synced = false ∧ t.genState = s.genState ∧ t.um = s.um ∧
      (t.clp 0).commit.length = (s.clp 0).commit.length + 1 ∧
      ((t.clp 0).commit.drop (s.clp 0).commit.length).map (fun r => (r.kind, leAt r.bytes 0 4, leAt r.bytes 4 1)) =
        [(5, leAt body 8 4, 2)] := by
  obtain ⟨-, -, hcommit, -⟩ := s.mirrorTaken_seq
  obtain ⟨dg, hdg⟩ : ∃ dg, dg = s.mirrorTaken.genDigest s.mirrorTaken.staged [] := ⟨_, rfl⟩
  obtain ⟨n, hn⟩ : ∃ n, n = s.mirrorTaken.ticks := ⟨_, rfl⟩
  have hexec : exec (.commit hdr body) s = .next ((s.mirrorTaken.updCl 0 fun c => { c with commit := c.commit ++
      [{ kind := 5, bytes := ackRec (leAt body 8 4) 2 dg, tc := n }] }).setFld Reg.TW_STAT F.TW_STAT_SYNC 0) := by
    show execCommit hdr body s = _
    rw [execCommit, State.mirrorRx_taken hup hf hk hseq, hlen, List.take_of_length_le hbody.le]
    dsimp only
    rw [if_pos (State.mirrorTaken_applies.trans ha), if_neg (show s.mirrorTaken.genState ≠ 1 from hopen), ← hdg, ← hn]
  have hcl := (State.clp_of_cl (State.setFld_cl (s.mirrorTaken.updCl 0 fun c => { c with commit := c.commit ++
      [{ kind := 5, bytes := ackRec (leAt body 8 4) 2 dg, tc := n }] }) Reg.TW_STAT F.TW_STAT_SYNC 0) 0).trans
    (State.clp_updCl ..)
  have hseq4 : leAt (ackRec (leAt body 8 4) 2 dg) 0 4 = leAt body 8 4 := by
    rw [ackRec, List.append_assoc, List.append_assoc, leAt_leBytes, Nat.mod_eq_of_lt (leAt_lt ..)]
  have hres : leAt (ackRec (leAt body 8 4) 2 dg) 4 1 = 2 := by
    rw [ackRec, List.append_assoc, List.append_assoc, leAt, List.drop_left' (leBytes_length ..)]
    rfl
  refine .intro hexec ⟨?_, ?_, ?_, ?_, ?_⟩
  · rw [State.synced, State.flag, State.fld_setFld _ _ _ _ (by decide)]
    rfl
  · rw [State.genState, State.fld_hw _ _ rfl, State.rdW_setFld_other _ _ _ (by decide), State.updCl_rdW, ← State.fld_hw _ _ rfl]
    rfl
  · rw [State.setFld_um, State.updCl_um]
    rfl
  · rw [hcl, hcommit, List.length_append]
    rfl
  · rw [hcl, hcommit, List.drop_left, List.map_singleton, hseq4, hres]

end

end Sys2Proof.Machine
end

section
/-! SUPPORT. The twin's answer to a commit, and mirrored channels and registers (O51). -/

namespace Sys2Proof.Machine

set_option Elab.async false

/-! ## The answer of the twin (R419) -/

section
variable {s : State}

theorem State.accepted_armed (s : State) (h : UmHdr) (op : Nat) (res : List Byte) : (s.accepted h op res).um.armed = s.um.armed := by
  rw [State.accepted, State.updUm_um, State.post_um]

theorem State.armDone_spec {a : Armed} (h : s.um.armed = some a) (hp : a.peerAck = none) :
    s.armDone.um.armed.map (·.peerAck) = some none ∧ (a.checked = true → s.armDone.um.armed.map (·.ok) = some true) := by
  unfold State.armDone
  rw [h]
  dsimp only
  split
  next hc =>
    have hu : (s.updUm fun u => { u with armed := some { a with ok := true } }).um.armed = some { a with ok := true } := by
      rw [State.updUm_um]
    generalize s.updUm (fun u => { u with armed := some { a with ok := true } }) = v at hu
    cases a.hdr with
    | none =>
      rw [hu]
      exact ⟨congrArg some hp, fun _ => rfl⟩
    | some r =>
      dsimp only
      split
      · rw [State.accepted_armed, hu]
        exact ⟨congrArg some hp, fun _ => rfl⟩
      · rw [hu]
        exact ⟨congrArg some hp, fun _ => rfl⟩
  next hc =>
    rw [h]
    refine ⟨congrArg some hp, fun hch => congrArg some ?_⟩
    rw [hch, hp] at hc
    simpa using hc

theorem State.armDone_parts (s : State) : s.armDone.regs = s.regs ∧ s.armDone.tw = s.tw :=
  ⟨(State.armDone_in ..).same .regs rfl, (State.armDone_in ..).same .tw rfl⟩

/-- The state of a source that goes on alone, before its commit's checks are asked about. -/
def State.alone (s : State) (a : Armed) : State :=
  (s.updUm fun u => { u with armed := some { a with peerAck := none } }).updTw fun t => { t with syncSent := false }

theorem State.commitAlone_spec (s : State) (a : Armed) : (s.commitAlone a).um.armed.map (·.peerAck) = some none ∧
    (s.commitAlone a).tw.syncSent = false ∧ OccurredBit 589 Reg.TW_EVENT 5 s (s.commitAlone a) ∧
    (a.checked = true → (s.commitAlone a).um.armed.map (·.ok) = some true) ∧ (s.commitAlone a).genState = s.genState ∧
    RegsKeptEv [Reg.TW_EVENT] s (s.commitAlone a) := by
  have hregs : (s.alone a).regs = s.regs := (State.updTw_regs ..).trans (State.updUm_regs ..)
  have harm : ((s.alone a).evTw 5).um.armed = some { a with peerAck := none } := by
    rw [State.evTw_um, State.alone, State.updTw_um, State.updUm_um]
  obtain ⟨hpeer, hok⟩ := State.armDone_spec harm rfl
  obtain ⟨hr, htw⟩ := ((s.alone a).evTw 5).armDone_parts
  refine ⟨hpeer, ?_, OccurredBit.of_regs ?_ hr, hok, ?_, ?_⟩
  · show ((s.alone a).evTw 5).armDone.tw.syncSent = false
    rw [htw, State.evTw_tw, State.alone, State.updTw_tw]
  · exact evTw_occurred_after (by decide) fun k _ _ _ => State.rdW_of_regs hregs k
  · show ((s.alone a).evTw 5).armDone.genState = s.genState
    rw [State.genState_of_regs hr, State.evTw_genState _ (by decide), State.genState_of_regs hregs]
  · exact (RegsKeptEv.of_regs _ hregs).trans ((RegsKeptEv.occurBit _ _ (by decide) _ _ (List.mem_singleton_self _)).trans
      (.of_regs _ hr))

variable {a : Armed} {d : Nat} (ha : s.um.armed = some a) (hd : a.peerAck = some d)
include ha hd

theorem execCommitAckTimeout_late (h : d + 98304 ≤ s.ticks) : Completes .commitAckTimeout s fun t =>
    t.um.armed.map (·.peerAck) = some none ∧ t.tw.syncSent = false ∧ OccurredBit 589 Reg.TW_EVENT 5 s t ∧
    (a.checked = true → t.um.armed.map (·.ok) = some true) ∧ t.genState = s.genState ∧ RegsKeptEv [Reg.TW_EVENT] s t := by
  refine .intro (t := s.commitAlone a) ?_ (s.commitAlone_spec a)
  show execCommitAckTimeout s = _
  unfold execCommitAckTimeout
  rw [ha]
  dsimp only
  rw [hd]
  exact if_pos h

theorem execCommitAckTimeout_early (h : s.ticks < d + 98304) : Completes .commitAckTimeout s fun t => t = s := by
  refine .intro ?_ rfl
  show execCommitAckTimeout s = _
  unfold execCommitAckTimeout
  rw [ha]
  dsimp only
  rw [hd]
  exact if_neg (by omega)

end

/-- The channel that a CHAN record shows. -/
def mirroredView (body : List Byte) : ChanView :=
  { state := leAt body 0 2 / 4096, code := leAt body 2 1, flags := leAt body 3 1, retired := leAt body 4 4,
    cur := BitVec.ofNat 64 (leAt body 8 8), moved := leAt body 16 4 }

theorem mirroredView_take (body : List Byte) : mirroredView (body.take 20) = mirroredView body := by
  unfold mirroredView
  rw [leAt_take (by decide), leAt_take (by decide), leAt_take (by decide), leAt_take (by decide), leAt_take (by decide),
    leAt_take (by decide)]

theorem State.chanRecs_one (s : State) (r : List Byte) : s.chanRecs [r] = s.showChan (leAt r 0 2 % 4096) (mirroredView r) := rfl

/-- A register of the active image that is neither a pail's nor an A-link port's control. -/
theorem State.syncRegOne_plain (s : State) {k : Nat} (w : Word) (hal : k ∉ (List.range 96).map Reg.AL_CTRL)
    (hpail : k < Reg.VAT_PAIL_A 0 ∨ Reg.VAT_PAIL_A 0 + 64 * 16384 ≤ k) : s.syncRegOne k w = s.wrG k w := by
  unfold State.syncRegOne
  dsimp only
  have hout : decide (Reg.VAT_PAIL_A 0 ≤ k ∧ (k - Reg.VAT_PAIL_A 0) / 64 < 16384) = false := by
    rw [decide_eq_false_iff_not]
    omega
  rw [if_neg (c := _ ∧ s.rdG k ≠ w ∧ _) (by rw [hout]; exact fun h => Bool.false_ne_true h.1),
    if_neg fun h => hal (List.mem_map.2 ⟨_, List.mem_range.2 h.2, h.1.symm⟩)]

section
variable {s : State} {hdr : BitVec 32} {body : List Byte} (hup : s.isUp (.cl 0) = true) (hf : s.frameIn (.cl 0) = true)
  (hseq : bitsOf hdr.toNat 27 18 = (s.clp 0).rxSeq)
include hup hf hseq

theorem execCommitAck_completes {a : Armed} (hk : bitsOf hdr.toNat 31 28 = 5) (hlen : bitsOf hdr.toNat 5 0 = 60)
    (hbody : body.length = 60) (ha : s.um.armed = some a) (hsrc : s.isSource = true) (hp : a.peerAck.isSome = true)
    (hsq : leAt body 0 4 = a.seq) :
    Completes (.commitAck hdr body) s fun t => t.um.armed.map (·.peerAck) = some none ∧
      (leAt body 4 1 = 0 → t.tw = s.tw ∧ t.regs = s.regs) ∧
      (leAt body 4 1 ≠ 0 → t.tw.syncSent = false ∧ OccurredBit 589 Reg.TW_EVENT 5 s t) ∧
      (a.checked = true → t.um.armed.map (·.ok) = some true) ∧ t.genState = s.genState := by
  have hexec : exec (.commitAck hdr body) s = if leAt body 4 1 = 0 then
      .next (s.mirrorTaken.updUm fun u => { u with armed := some { a with peerAck := none } }).armDone
      else .next (s.mirrorTaken.commitAlone a) := by
    show execCommitAck hdr body s = _
    rw [execCommitAck, State.mirrorRx_taken hup hf hk hseq, hlen, List.take_of_length_le hbody.le]
    dsimp only
    rw [show s.mirrorTaken.um.armed = some a from ha]
    dsimp only
    rw [if_pos ⟨(State.isTarget_congr (s := s) (t := s.mirrorTaken) rfl rfl).2.1.trans hsrc, hp, hsq⟩]
  by_cases hres : leAt body 4 1 = 0
  · rw [if_pos hres] at hexec
    have harm : (s.mirrorTaken.updUm fun u => { u with armed := some { a with peerAck := none } }).um.armed =
        some { a with peerAck := none } := by rw [State.updUm_um]
    obtain ⟨hpeer, hok⟩ := State.armDone_spec harm rfl
    obtain ⟨hr, htw⟩ := (s.mirrorTaken.updUm fun u => { u with armed := some { a with peerAck := none } }).armDone_parts
    rw [State.updUm_regs, State.mirrorTaken_regs] at hr
    rw [State.updUm_tw, State.mirrorTaken_tw] at htw
    exact .intro hexec ⟨hpeer, fun _ => ⟨htw, hr⟩, fun h => absurd hres h, hok, State.genState_of_regs hr⟩
  · rw [if_neg hres] at hexec
    obtain ⟨hpeer, hsync, hocc, hok, hg, -⟩ := s.mirrorTaken.commitAlone_spec a
    have hocc := hocc.before (State.rdW_of_regs State.mirrorTaken_regs _) (State.rdW_of_regs State.mirrorTaken_regs _)
    exact .intro hexec ⟨hpeer, fun h => absurd h hres, fun _ => ⟨hsync, hocc⟩, hok,
      hg.trans (State.genState_of_regs State.mirrorTaken_regs)⟩

variable (ha : s.applies = true)
include ha

/-! ## Channels, registers and weights of the active image (R420, R421) -/

theorem execChan_completes {c : Chan} (hk : bitsOf hdr.toNat 31 28 = 6) (hlen : bitsOf hdr.toNat 5 0 = 20)
    (hbody : 20 ≤ body.length) (hc : leAt body 0 2 % 4096 = c.val) :
    Completes (.chan hdr body) s fun t => t.rdW (Reg.DMA_RETIRED c) = BitVec.ofNat 64 (leAt body 4 4) ∧
      t.rdW (Reg.DMA_CUR c) = BitVec.ofNat 64 (leAt body 8 8) ∧
      t.fld (Reg.DMA_STAT c) F.DMA_STAT_CODE = leAt body 2 1 % 2 ^ F.DMA_STAT_CODE.wid ∧
      t.fld (Reg.DMA_STAT c) F.DMA_STAT_STATE = (if leAt body 0 2 / 4096 = 8 then 8 else 0) ∧
      (SMap.get {} t.tw.views c.val).moved = leAt body 16 4 ∧ t.chans = s.chans ∧ t.gen = s.gen := by
  have hexec : exec (.chan hdr body) s = .next (s.mirrorTaken.showChan c (mirroredView body)) := by
    show execChan hdr body s = _
    rw [execChan, State.mirrorRx_taken hup hf hk hseq, hlen]
    dsimp only
    rw [if_pos (State.mirrorTaken_applies.trans ha),
      records_one (by decide) (by decide) (by rw [List.length_take, min_eq_left hbody]),
      State.chanRecs_one, leAt_take (by decide), mirroredView_take, hc]
  refine .intro hexec ⟨?_, ?_, ?_, ?_, ?_, (State.showChan_in ..).same .chans rfl, (State.showChan_in ..).same .gen rfl⟩
  · rw [State.showChan, State.rdW_setFld_other _ _ _ (by simp only [Reg.DMA_RETIRED, Reg.DMA_STAT]; omega), State.updTw_rdW,
      State.rdW_setFld_other _ _ _ (by simp only [Reg.DMA_RETIRED, Reg.DMA_STAT]; omega),
      State.rdW_wrW_other _ _ (by simp only [Reg.DMA_RETIRED, Reg.DMA_CUR]; omega), State.rdW_wrW_same]
    rfl
  · rw [State.showChan, State.rdW_setFld_other _ _ _ (by simp only [Reg.DMA_CUR, Reg.DMA_STAT]; omega), State.updTw_rdW,
      State.rdW_setFld_other _ _ _ (by simp only [Reg.DMA_CUR, Reg.DMA_STAT]; omega), State.rdW_wrW_same]
    rfl
  · rw [State.showChan, State.fld_setFld_other _ _ _ _ _ (by decide), State.updTw_fld, State.fld_setFld _ _ _ _ (by decide)]
    rfl
  · rw [State.showChan, State.fld_setFld _ _ _ _ (by decide)]
    show (if leAt body 0 2 / 4096 = 8 then 8 else 0) % 16 = _
    split <;> rfl
  · rw [State.showChan, State.setFld_tw, State.updTw_tw, SMap.get_put_same]
    rfl

theorem execSyncReg_completes {k : Nat} (hk : bitsOf hdr.toNat 31 28 = 7) (hlen : bitsOf hdr.toNat 5 0 = 12)
    (hbody : 12 ≤ body.length) (hj : s.flag Reg.TW_CTRL F.TW_CTRL_JOIN = true) (hkey : k = leAt body 0 4)
    (hal : k ∉ (List.range 96).map Reg.AL_CTRL) (hpail : k < Reg.VAT_PAIL_A 0 ∨ Reg.VAT_PAIL_A 0 + 64 * 16384 ≤ k) :
    Completes (.syncReg hdr body) s fun t => t.rdG k = BitVec.ofNat 64 (leAt body 4 8) &&& rwgMask k ∧
      (∀ j, j ≠ k → t.rdG j = s.rdG j) ∧ t.synced = false ∧ t.staged = s.staged ∧ RegsKept [Reg.TW_STAT] s t := by
  have hexec : exec (.syncReg hdr body) s = .next (((s.mirrorTaken.setFld Reg.TW_STAT F.TW_STAT_SYNC 0).updTw
      fun t => { t with syncDone := none }).wrG k (BitVec.ofNat 64 (leAt body 4 8) &&& rwgMask k)) := by
    show execSyncReg hdr body s = _
    rw [execSyncReg, State.mirrorRx_taken hup hf hk hseq, hlen]
    dsimp only
    rw [if_pos ⟨State.mirrorTaken_applies.trans ha, hj⟩,
      records_one (by decide) (by decide) (by rw [List.length_take, min_eq_left hbody]), State.syncRecs, State.syncRecs,
      leAt_take (by decide), leAt_take (by decide), ← hkey, State.syncRegOne_plain _ _ hal hpail]
  refine .intro hexec ⟨State.rdG_wrG_same .., fun j hj => ?_, ?_, ?_, ?_⟩
  · rw [State.rdG_wrG_other _ _ hj, State.updTw_rdG, State.rdG_setFld]
    rfl
  · rw [State.synced, State.flag, State.fld_hw _ _ rfl, State.rdW_of_regs (State.wrG_regs ..), State.updTw_rdW,
      ← State.fld_hw _ _ rfl, State.fld_setFld _ _ _ _ (by decide)]
    rfl
  · rw [State.wrG_staged, State.updTw_staged, State.setFld_staged]
    rfl
  · exact (RegsKept.setFld s.mirrorTaken _ _ (List.mem_singleton_self _)).trans
      (.of_regs _ ((State.wrG_regs ..).trans (State.updTw_regs ..)))

end

end Sys2Proof.Machine
end

section
/-! SUPPORT. Sync of a target: weights, digests and the end of a pass (O51). -/

namespace Sys2Proof.Machine

set_option Elab.async false

/-! ## Words of the active half written by a sync (R421) -/

/-- The words of a SYNC_WT record written into a unit. -/
def UnitRt.syncWords (r : UnitRt) (i : Nat) (ws : List Word) : UnitRt := { r with active := putWords r.active i ws }

/-- What a sync's word `i` makes of a unit. -/
structure WordSynced (i : Nat) (w : Word) (r r' : UnitRt) : Prop where
  word : SMap.get 0 r'.active i = w &&& weightMask i
  others : ∀ j, j ≠ i → SMap.get 0 r'.active j = SMap.get 0 r.active j
  shadow : r'.shadow = r.shadow

theorem syncWords_one {i : Nat} (hi : i < 131072) (w : Word) {r r' : UnitRt} (h : r' = r ∨ WordSynced i w r r') :
    WordSynced i w r (r'.syncWords i [w]) := by
  have hsame : (∀ j, j ≠ i → SMap.get 0 r'.active j = SMap.get 0 r.active j) ∧ r'.shadow = r.shadow := by
    rcases h with rfl | h
    · exact ⟨fun _ _ => rfl, rfl⟩
    · exact ⟨h.others, h.shadow⟩
  have hact : (r'.syncWords i [w]).active = SMap.put 0 r'.active i (w &&& weightMask i) := by
    rw [UnitRt.syncWords, putWords, putWords, if_pos hi]
  exact ⟨hact ▸ SMap.get_put_same .., fun j hj => hact ▸ (SMap.get_put_other _ _ _ _ hj).trans (hsame.1 j hj), hsame.2⟩

section
variable {s : State} {hdr : BitVec 32} {body : List Byte} (hup : s.isUp (.cl 0) = true) (hf : s.frameIn (.cl 0) = true)
  (hseq : bitsOf hdr.toNat 27 18 = (s.clp 0).rxSeq) (ha : s.applies = true)
include hup hf hseq ha

theorem execSyncWt_completes {g : Group} {i : Nat} (hk : bitsOf hdr.toNat 31 28 = 8) (hlen : bitsOf hdr.toNat 5 0 = 16)
    (hbody : 16 ≤ body.length) (hj : s.flag Reg.TW_CTRL F.TW_CTRL_JOIN = true) (hg : leAt body 0 1 = g.val)
    (hi : leAt body 4 4 = i) (hlt : i < 131072) :
    Completes (.syncWt hdr body) s fun t =>
      SMap.get 0 (t.unit (s.groupUnit g)).active i = BitVec.ofNat 64 (leAt body 8 8) &&& weightMask i ∧
      (∀ j ∈ [i - 1, i + 1], j ≠ i → SMap.get 0 (t.unit (s.groupUnit g)).active j = SMap.get 0 (s.unit (s.groupUnit g)).active j) ∧
      (t.unit (s.groupUnit g)).shadow = (s.unit (s.groupUnit g)).shadow ∧ t.regs = s.regs := by
  have hlen16 : (body.take 16).length = 16 := by rw [List.length_take, min_eq_left hbody]
  have hws : wordsOf ((body.take 16).length / 8 - 1) ((body.take 16).drop 8) = [BitVec.ofNat 64 (leAt body 8 8)] := by
    rw [hlen16, show (16 : Nat) / 8 - 1 = 1 from rfl, wordsOf, wordsOf]
    exact congrArg (fun n => [BitVec.ofNat 64 n]) (leAt_take (bs := body) (n := 16) (i := 8) (m := 8) (by decide))
  have hexec : exec (.syncWt hdr body) s = .next (s.mirrorTaken.eachUnit (s.mirrorTaken.windowUnits g)
      fun r => r.syncWords i [BitVec.ofNat 64 (leAt body 8 8)]) := by
    show execSyncWt hdr body s = _
    rw [execSyncWt, State.mirrorRx_taken hup hf hk hseq, hlen]
    dsimp only
    rw [leAt_take (by decide), leAt_take (by decide), hg, hi, hws,
      if_pos ⟨State.mirrorTaken_applies.trans ha, g.isLt, hj⟩]
    rfl
  have hunit := State.unit_eachUnit_of (f := fun r => r.syncWords i [BitVec.ofNat 64 (leAt body 8 8)])
    (fun _ _ => syncWords_one hlt _) (s.mirrorTaken.windowUnits g) (s.unit (s.groupUnit g)) s.mirrorTaken (.inl rfl)
    (groupUnit_mem_windowUnits (s := s.mirrorTaken) (g := g))
  obtain ⟨hregs, -⟩ := State.eachUnit_parts (fun r => r.syncWords i [BitVec.ofNat 64 (leAt body 8 8)])
    (s.mirrorTaken.windowUnits g) s.mirrorTaken
  exact .intro hexec ⟨hunit.word, fun j _ hj => hunit.others j hj, hunit.shadow, hregs⟩

end

/-! ## The digests of a target after a pass (R151, R421) -/

theorem State.rdW_wrWide_other {j : Nat} (ws : List Word) : ∀ (s : State) (k : Nat), (∀ n < ws.length, j ≠ k + 8 * n) →
    (s.wrWide k ws).rdW j = s.rdW j := by
  induction ws with
  | nil => exact fun _ _ _ => rfl
  | cons w ws ih =>
    intro s k h
    have hrest : ∀ n < ws.length, j ≠ k + 8 + 8 * n := fun n hn => by
      have := h (n + 1) (Nat.succ_lt_succ hn)
      omega
    rw [State.wrWide, ih _ _ hrest, State.rdW_wrW_other _ _ (show j ≠ k from h 0 (Nat.succ_pos _))]

theorem wordsOf_length (n : Nat) : ∀ bs, (wordsOf n bs).length = n := by
  induction n with
  | zero => exact fun _ => rfl
  | succ n ih => exact fun bs => congrArg Nat.succ (ih _)

/-- The digest of one group put in force. -/
def State.digested (s : State) (g : Nat) : State :=
  if (s.unit (s.groupUnit g)).active.isEmpty then s
  else
    ((s.wrWide (Reg.CH_WB_DIGEST g) (wordsOf 6 (sha384 (halfBytes (s.unit (s.groupUnit g)).active)))).setFld (Reg.CH_WB_STATUS g)
      F.CH_WB_STATUS_ABSENT 0).updGrp g fun r => { r with exchanged := true }

theorem State.syncDigests_cons (s : State) (g : Nat) (gs : List Nat) : s.syncDigests (g :: gs) = (s.digested g).syncDigests gs := by
  rw [State.syncDigests, State.digested]

section
variable (s : State) (g : Nat)

theorem State.digested_rdW {k : Nat} (hk : ∀ n < 6, k ≠ Reg.CH_WB_DIGEST g + 8 * n) (hs : k ≠ Reg.CH_WB_STATUS g) :
    (s.digested g).rdW k = s.rdW k := by
  unfold State.digested
  split
  · rfl
  · rw [State.updGrp_rdW, State.rdW_setFld_other _ _ _ hs, State.rdW_wrWide_other _ _ _ (by rwa [wordsOf_length])]

/-- A field of CH_WB_STATUS but ABSENT. -/
theorem State.digested_status (f : Fld) (hf : f.lo + f.wid ≤ 5 ∨ 6 ≤ f.lo) (hr : f.rwg = false) (j : Nat) :
    (s.digested g).fld (Reg.CH_WB_STATUS j) f = s.fld (Reg.CH_WB_STATUS j) f := by
  have hdig : ∀ n < 6, Reg.CH_WB_STATUS j ≠ Reg.CH_WB_DIGEST g + 8 * n := fun n hn => by
    simp only [Reg.CH_WB_STATUS, Reg.CH_WB_DIGEST]
    omega
  by_cases hj : j = g
  · subst hj
    unfold State.digested
    split
    · rfl
    · rw [State.updGrp_fld, State.fld_setFld_other _ _ _ _ _ (by simp only [F.CH_WB_STATUS_ABSENT]; omega), State.fld_hw _ _ hr,
        State.rdW_wrWide_other _ _ _ (by rwa [wordsOf_length]), ← State.fld_hw _ _ hr]
  · rw [State.fld_hw _ _ hr, State.fld_hw _ _ hr, State.digested_rdW _ _ hdig (by simp only [Reg.CH_WB_STATUS]; omega)]

theorem State.digested_units : (s.digested g).units = s.units := by
  unfold State.digested
  split
  · rfl
  · rw [State.updGrp_units, State.setFld_units, State.wrWide_units]

theorem State.digested_absent (j : Nat) (h : s.fld (Reg.CH_WB_STATUS j) F.CH_WB_STATUS_ABSENT = 0 ∨
    (j = g ∧ (s.unit (s.groupUnit g)).active ≠ [])) : (s.digested g).fld (Reg.CH_WB_STATUS j) F.CH_WB_STATUS_ABSENT = 0 := by
  unfold State.digested
  split
  next he =>
    rcases h with h | ⟨-, h⟩
    · exact h
    · exact absurd (List.isEmpty_iff.1 he) h
  next he =>
    rw [State.updGrp_fld]
    by_cases hj : j = g
    · subst hj
      rw [State.fld_setFld _ _ _ _ (by decide)]
      rfl
    · rw [State.fld_hw _ _ rfl, State.rdW_setFld_other _ _ _ (by simp only [Reg.CH_WB_STATUS]; omega),
        State.rdW_wrWide_other _ _ _ fun n hn => by
          rw [wordsOf_length] at hn
          simp only [Reg.CH_WB_STATUS, Reg.CH_WB_DIGEST]
          omega, ← State.fld_hw _ _ rfl]
      exact h.resolve_right fun h => hj h.1

end

/-! Cloton ports have no part in the digests. -/

/-- The Cloton ports replaced. -/
def State.withCl (s : State) (m : SMap ClRt) : State := { s with cl := m }

section
variable (s : State) (m : SMap ClRt)

theorem State.wrWide_withCl (ws : List Word) : ∀ (s : State) (k : Nat), (s.withCl m).wrWide k ws = (s.wrWide k ws).withCl m := by
  induction ws with
  | nil => exact fun _ _ => rfl
  | cons w ws ih => exact fun s k => ih (s.wrW k w) (k + 8)

theorem State.setFld_withCl (k : Nat) (f : Fld) (v : Nat) : (s.withCl m).setFld k f v = (s.setFld k f v).withCl m := rfl
theorem State.updGrp_withCl (g : Nat) (f : GroupRt → GroupRt) : (s.withCl m).updGrp g f = (s.updGrp g f).withCl m := rfl
theorem State.active_withCl (g : Nat) :
    ((s.withCl m).unit ((s.withCl m).groupUnit g)).active = (s.unit (s.groupUnit g)).active := rfl

theorem State.genDigest_withCl (im : SMap Word) (gs : List Nat) : (s.withCl m).genDigest im gs = s.genDigest im gs := rfl
theorem State.genDigest_updTw (f : TwRt → TwRt) (im : SMap Word) (gs : List Nat) : (s.updTw f).genDigest im gs = s.genDigest im gs := rfl

theorem State.digested_withCl (g : Nat) : (s.withCl m).digested g = (s.digested g).withCl m := by
  unfold State.digested
  rw [State.active_withCl, State.wrWide_withCl, State.setFld_withCl, State.updGrp_withCl, apply_ite (State.withCl · m)]

end

theorem State.syncDigests_withCl (m : SMap ClRt) (gs : List Nat) : ∀ s : State,
    (s.withCl m).syncDigests gs = (s.syncDigests gs).withCl m := by
  induction gs with
  | nil => exact fun _ => rfl
  | cons g gs ih =>
    intro s
    rw [State.syncDigests_cons, State.digested_withCl, ih, State.syncDigests_cons]

theorem State.syncDigests_below (gs : List Nat) : ∀ s : State, ∀ k < 0x800000, (s.syncDigests gs).rdW k = s.rdW k := by
  induction gs with
  | nil => exact fun _ _ _ => rfl
  | cons g gs ih =>
    intro s k hk
    rw [State.syncDigests_cons, ih _ k hk, State.digested_rdW _ _ (fun n _ => by simp only [Reg.CH_WB_DIGEST]; omega)
      (by simp only [Reg.CH_WB_STATUS]; omega)]

theorem State.syncDigests_absent {j : Nat} (gs : List Nat) : ∀ s : State, s.fld (Reg.CH_WB_STATUS j) F.CH_WB_STATUS_ABSENT = 0 ∨
    (j ∈ gs ∧ (s.unit (s.groupUnit j)).active ≠ []) → (s.syncDigests gs).fld (Reg.CH_WB_STATUS j) F.CH_WB_STATUS_ABSENT = 0 := by
  induction gs with
  | nil => exact fun s h => h.resolve_right fun h => absurd h.1 List.not_mem_nil
  | cons g gs ih =>
    intro s h
    have hunit : ((s.digested g).unit ((s.digested g).groupUnit j)) = s.unit (s.groupUnit j) := by
      rw [State.unit_of_units (s.digested_units g), State.groupUnit, State.digested_status _ _ _ (by decide) rfl, ← State.groupUnit]
    rw [State.syncDigests_cons]
    refine ih _ ?_
    rcases h with h | ⟨hj, hact⟩
    · exact .inl (s.digested_absent g j (.inl h))
    · rcases List.mem_cons.1 hj with rfl | hj
      · exact .inl (s.digested_absent j j (.inr ⟨rfl, hact⟩))
      · exact .inr ⟨hj, hunit ▸ hact⟩

/-! ## The end of a pass (R421) -/

theorem State.isTarget_of_below {s t : State} (hr : ∀ k < 0x800000, t.rdW k = s.rdW k) (hg : t.gen = s.gen) :
    t.isTarget = s.isTarget := by
  have hf : ∀ k f, k < 0x800000 → t.fld k f = s.fld k f := fun k f hk => State.fld_eq f (hr k hk) (State.rdG_of_gen hg k)
  simp (disch := decide) only [State.isTarget, State.isSource, State.sourceSide, State.role, State.pair, State.mode, hf]

theorem State.evalPair_setPair (s : State) : ∃ v, s.evalPair = s.setPair v := by
  unfold State.evalPair
  split <;> exact ⟨_, rfl⟩

section
variable (s : State)

theorem State.setPair_kept (v : Nat) : RegsKeptEv [Reg.TW_STAT, Reg.TW_EVENT] s (s.setPair v) := by
  unfold State.setPair
  split
  · exact .refl _ _
  · exact (RegsKeptEv.setFld _ _ _ _ (by simp)).trans (.occurBit _ _ (by decide) _ _ (by simp))

theorem State.setPair_synced (v : Nat) : (s.setPair v).synced = s.synced := by
  unfold State.setPair
  split
  · rfl
  · rw [State.synced, State.flag, State.fld_hw _ _ rfl, State.rdW_evTw _ (by decide) (by decide) (by decide), ← State.fld_hw _ _ rfl,
      State.fld_setFld_other _ _ _ _ _ (by decide)]
    rfl

theorem State.setPair_bit (v : Nat) {b : Nat} (h : (s.rdW Reg.TW_EVENT).toNat.testBit b = true) :
    ((s.setPair v).rdW Reg.TW_EVENT).toNat.testBit b = true := by
  unfold State.setPair
  split
  · exact h
  · refine State.occurBit_bit_mono _ (by decide) _ _ (by decide) ?_
    rwa [State.rdW_setFld_other _ _ _ (by decide)]

end

/-- The state of a target in Ready once its sync is complete. -/
def State.syncedNow (s : State) (d : List Byte) : State :=
  ((((s.setFld Reg.TW_STAT F.TW_STAT_SYNC 1).updTw fun t => { t with syncDone := none }).wrW Reg.UM_GEN_SEQ
    (BitVec.ofNat 64 (s.clp 0).peerGen)).wrWide Reg.UM_GEN_DIGEST (wordsOf 6 d)).evTw 7

theorem State.syncedNow_kept (s : State) (d : List Byte) {k : Nat}
    (hks : k ∉ [Reg.TW_STAT, Reg.UM_GEN_SEQ, Reg.TW_EVENT]) (hd : ∀ n < 6, k ≠ Reg.UM_GEN_DIGEST + 8 * n) (he : evKey k = false) :
    (s.syncedNow d).rdW k = s.rdW k := by
  simp only [List.mem_cons, List.not_mem_nil, or_false, not_or] at hks
  obtain ⟨hstat, hseq, hev⟩ := hks
  rw [State.syncedNow, State.rdW_evTw _ (by decide) he hev, State.rdW_wrWide_other _ _ _ (by rwa [wordsOf_length]),
    State.rdW_wrW_other _ _ hseq, State.updTw_rdW, State.rdW_setFld_other _ _ _ hstat]

theorem State.syncedNow_parts (s : State) (d : List Byte) : (s.syncedNow d).tw.syncDone = none ∧ (s.syncedNow d).gen = s.gen ∧
    (s.syncedNow d).synced = true ∧ (s.syncedNow d).rdW Reg.UM_GEN_SEQ = BitVec.ofNat 64 (s.clp 0).peerGen ∧
    ((s.syncedNow d).rdW Reg.TW_EVENT).toNat.testBit 7 = true := by
  have hwide : ∀ k, (∀ n < 6, k ≠ Reg.UM_GEN_DIGEST + 8 * n) → ∀ n < (wordsOf 6 d).length, k ≠ Reg.UM_GEN_DIGEST + 8 * n :=
    fun k h => by rwa [wordsOf_length]
  unfold State.syncedNow
  refine ⟨?_, ?_, ?_, ?_, ?_⟩
  · rw [State.evTw_tw, State.wrWide_tw, State.wrW_tw, State.updTw_tw]
  · rw [State.evTw_gen, State.wrWide_gen, State.wrW_gen, State.updTw_gen, State.setFld_gen]
  · rw [State.synced, State.flag, State.fld_hw _ _ rfl, State.rdW_evTw _ (by decide) (by decide) (by decide),
      State.rdW_wrWide_other _ _ _ (hwide _ (by decide)), State.rdW_wrW_other _ _ (by decide), State.updTw_rdW, ← State.fld_hw _ _ rfl,
      State.fld_setFld _ _ _ _ (by decide)]
    rfl
  · rw [State.rdW_evTw _ (by decide) (by decide) (by decide), State.rdW_wrWide_other _ _ _ (hwide _ (by decide)), State.rdW_wrW_same]
  · exact (State.evTw_occurred _ (by decide)).1

theorem State.trySync_completes {s : State} {st : Nat} {d : List Byte} (hs : s.tw.syncDone = some (st, d)) (ha : s.applies = true)
    (hp : s.pair = 1) (hn : s.synced = false) (hj : s.flag Reg.TW_CTRL F.TW_CTRL_JOIN = true) (htl : s.tlState = st)
    (hd : d = s.genDigest s.gen []) (hm : s.mode = 4) : s.trySync = ((s.syncedNow d).setMode 7 0x08).evalPair := by
  have hmode : (s.syncedNow d).mode = 4 := by
    rw [State.mode_eq_of_rdW (s.syncedNow_kept d (by decide) (by decide) (by decide)), hm]
  unfold State.trySync
  rw [hs]
  dsimp only
  rw [if_pos ⟨ha, hp, hn, hj, htl, hd⟩]
  exact congrArg State.evalPair (if_pos hmode)

theorem State.trySync_waits {s : State} {st : Nat} {d : List Byte} (hs : s.tw.syncDone = some (st, d))
    (h : s.tlState ≠ st ∨ s.pair ≠ 1 ∨ s.synced = true) : s.trySync = s := by
  unfold State.trySync
  rw [hs]
  exact if_neg fun ⟨_, hp, hn, _, htl, _⟩ => by
    rcases h with h | h | h
    · exact h htl
    · exact h hp
    · exact Bool.false_ne_true (hn.symm.trans h)

/-- A target's state after a pass whose digests and Timekeeper state wait to be compared. -/
def State.passed (s : State) (v : Nat) (d : List Byte) : State :=
  (s.mirrorTaken.syncDigests (List.range 12)).updTw fun t => { t with syncDone := some (v, d) }

section
variable (s : State) (v : Nat) (d : List Byte)

theorem State.passed_below {k : Nat} (hk : k < 0x800000) : (s.passed v d).rdW k = s.rdW k := by
  rw [State.passed, State.updTw_rdW, State.syncDigests_below _ _ k hk]
  rfl

theorem State.passed_gen : (s.passed v d).gen = s.gen :=
  (State.updTw_gen ..).trans ((State.syncDigests_in ..).same .gen rfl)

theorem State.passed_fld {k : Nat} (f : Fld) (hk : k < 0x800000) : (s.passed v d).fld k f = s.fld k f :=
  State.fld_eq f (s.passed_below v d hk) (State.rdG_of_gen (s.passed_gen v d) k)

theorem State.passed_low : (s.passed v d).pair = s.pair ∧ (s.passed v d).synced = s.synced ∧ (s.passed v d).tlState = s.tlState ∧
    (s.passed v d).mode = s.mode ∧ (s.passed v d).flag Reg.TW_CTRL F.TW_CTRL_JOIN = s.flag Reg.TW_CTRL F.TW_CTRL_JOIN := by
  have hf : ∀ k f, k < 0x800000 → (s.passed v d).fld k f = s.fld k f := fun k f hk => s.passed_fld v d f hk
  simp (disch := decide) only [State.pair, State.synced, State.tlState, State.mode, State.flag, hf, and_self]

theorem State.passed_tw : (s.passed v d).tw = { s.tw with syncDone := some (v, d) } := by
  rw [State.passed, State.updTw_tw, (State.syncDigests_in ..).same .tw rfl, State.mirrorTaken_tw]

theorem State.passed_applies : (s.passed v d).applies = s.applies := by
  rw [State.applies, State.applies, State.passed_tw,
    State.isTarget_of_below (fun _ hk => s.passed_below v d hk) (s.passed_gen v d)]

theorem State.passed_peerGen : ((s.passed v d).clp 0).peerGen = (s.clp 0).peerGen := by
  obtain ⟨-, -, -, hpeer⟩ := s.mirrorTaken_seq
  have hcl : (s.passed v d).cl = s.mirrorTaken.cl := (State.updTw_cl ..).trans ((State.syncDigests_in ..).same .cl rfl)
  rw [State.clp_of_cl hcl, hpeer]

theorem State.passed_absent {g : Nat} (hg : g ∈ List.range 12) (hact : (s.unit (s.groupUnit g)).active ≠ []) :
    (s.passed v d).fld (Reg.CH_WB_STATUS g) F.CH_WB_STATUS_ABSENT = 0 := by
  rw [State.passed, State.updTw_fld]
  exact State.syncDigests_absent _ s.mirrorTaken (.inr ⟨hg, hact⟩)

theorem State.passed_digest : (s.passed v d).genDigest (s.passed v d).gen [] = (s.syncDigests (List.range 12)).genDigest s.gen [] := by
  obtain ⟨m, hm⟩ : ∃ m, s.mirrorTaken = s.withCl m := ⟨_, rfl⟩
  rw [State.passed_gen, State.passed, hm, State.syncDigests_withCl, State.genDigest_updTw, State.genDigest_withCl]

end

section
variable {s : State} {hdr : BitVec 32} {body : List Byte} (v : Fin 4) (hup : s.isUp (.cl 0) = true) (hf : s.frameIn (.cl 0) = true)
  (hk : bitsOf hdr.toNat 31 28 = 9) (hseq : bitsOf hdr.toNat 27 18 = (s.clp 0).rxSeq) (hlen : bitsOf hdr.toNat 5 0 = 56)
  (ha : s.applies = true) (hj : s.flag Reg.TW_CTRL F.TW_CTRL_JOIN = true)
include hup hf hk hseq hlen ha hj

theorem exec_syncDone : exec (.syncDone hdr body v) s = .next (s.passed v ((body.drop 8).take 48)).trySync := by
  show execSyncDone hdr body v s = _
  rw [execSyncDone, State.mirrorRx_taken hup hf hk hseq, hlen]
  dsimp only
  rw [if_pos ⟨State.mirrorTaken_applies.trans ha, hj⟩,
    show ((body.take 56).drop 8).take 48 = (body.drop 8).take 48 by rw [List.drop_take, List.take_take]; rfl]
  rfl

theorem execSyncDone_waits (h : s.tlState ≠ v.val ∨ s.pair ≠ 1 ∨ s.synced = true) :
    Completes (.syncDone hdr body v) s fun t => t.tw.syncDone = some (v.val, (body.drop 8).take 48) ∧ t.synced = s.synced ∧
      t.mode = s.mode ∧ t.gen = s.gen ∧
      ∀ g ∈ List.range 12, (s.unit (s.groupUnit g)).active ≠ [] → t.fld (Reg.CH_WB_STATUS g) F.CH_WB_STATUS_ABSENT = 0 := by
  obtain ⟨hpair, hsync, htl, hmode, -⟩ := s.passed_low v ((body.drop 8).take 48)
  have hexec := exec_syncDone (body := body) v hup hf hk hseq hlen ha hj
  rw [State.trySync_waits (congrArg TwRt.syncDone (s.passed_tw v ((body.drop 8).take 48))) (by rwa [hpair, hsync, htl])] at hexec
  exact .intro hexec ⟨congrArg TwRt.syncDone (s.passed_tw ..), hsync, hmode, s.passed_gen .., fun g hg hact => s.passed_absent _ _ hg hact⟩

theorem execSyncDone_syncs (htl : s.tlState = v.val) (hp : s.pair = 1) (hn : s.synced = false) (hm : s.mode = 4)
    (hd : (body.drop 8).take 48 = (s.syncDigests (List.range 12)).genDigest s.gen []) :
    Completes (.syncDone hdr body v) s fun t => t.tw.syncDone = none ∧ t.synced = true ∧ t.mode = 7 ∧ t.gen = s.gen ∧
      t.rdW Reg.UM_GEN_SEQ = BitVec.ofNat 64 (s.clp 0).peerGen ∧ (t.rdW Reg.TW_EVENT).toNat.testBit 7 = true := by
  have hexec := exec_syncDone (body := body) v hup hf hk hseq hlen ha hj
  obtain ⟨hpair, hsync, htls, hmode, hjoin⟩ := s.passed_low v ((body.drop 8).take 48)
  have htw := s.passed_tw v ((body.drop 8).take 48)
  have hgen := s.passed_gen v ((body.drop 8).take 48)
  have hpeer := s.passed_peerGen v ((body.drop 8).take 48)
  rw [State.trySync_completes (congrArg TwRt.syncDone htw) ((s.passed_applies ..).trans ha) (hpair.trans hp) (hsync.trans hn)
    (hjoin.trans hj) (htls.trans htl) (hd.trans (s.passed_digest ..).symm) (hmode.trans hm)] at hexec
  generalize s.passed v ((body.drop 8).take 48) = p at *
  generalize (body.drop 8).take 48 = d at *
  obtain ⟨w, hw⟩ := (((p.syncedNow d).setMode 7 0x08)).evalPair_setPair
  rw [hw] at hexec
  have hset := State.setMode_kept (p.syncedNow d) 8 (new := 7) (by decide)
  have hpr := ((p.syncedNow d).setMode 7 8).setPair_kept w
  obtain ⟨htw', hgen', hsync', hseq', hbit'⟩ := p.syncedNow_parts d
  generalize p.syncedNow d = q at *
  refine .intro hexec ⟨?_, ?_, ?_, ?_, ?_, ?_⟩
  · rw [(State.setPair_in ..).same .tw rfl, (State.setMode_in ..).same .tw rfl, htw']
  · rw [State.setPair_synced, State.synced, State.flag, State.fld_hw _ _ rfl, hset _ (by decide) (by decide), ← State.fld_hw _ _ rfl]
    exact hsync'
  · rw [State.mode_eq_of_rdW (hpr _ (by decide) (by decide)), State.mode_setMode _ _ (by decide)]
  · rw [(State.setPair_in ..).same .gen rfl, (State.setMode_in ..).same .gen rfl, hgen', hgen]
  · rw [hpr _ (by decide) (by decide), hset _ (by decide) (by decide), hseq', hpeer]
  · refine State.setPair_bit _ _ ?_
    rwa [hset _ (by decide) (by decide)]

end

/-- Settles O51: a cell that the sequence test takes changes C0's port alone, and its record is applied as the row's rule says. -/
theorem mirrorRecordsAreAppliedByTheTarget : Obligations.MirrorRecordsAreAppliedByTheTarget := by
  unfold Obligations.MirrorRecordsAreAppliedByTheTarget
  refine ⟨fun s hdr body e ha he hk => .intro (exec_mirror_idle e ha he hk) rfl,
    fun s hdr body e he hk => .intro (exec_mirror_other e he hk) rfl, ?_, ?_, ?_, ?_, ?_, ?_, ?_, ?_, ?_, ?_, ?_, ?_, ?_⟩
  · exact fun s hdr body k hup hf hk hseq hlen hbody ha hg hkey => execStagedWr_completes hup hf hseq ha hk hlen hbody hg hkey
  · exact fun s hdr body g i hup hf hk hseq hlen hbody ha hg hi _ hp hb hh =>
      execShadowWr_completes hup hf hseq ha hk hlen hbody hg hi hp hb hh
  · exact fun s hdr body c hup hf hk hseq hlen hbody ha hc => execGenCmd_completes hup hf hseq ha hk hlen hbody hc
  · exact fun s hdr body hup hf hk hseq hlen hbody ha hg => execCommit_arms hup hf hseq ha hk hlen hbody hg
  · exact fun s hdr body hup hf hk hseq hlen hbody ha hg => execCommit_answers hup hf hseq ha hk hlen hbody hg
  · exact fun s hdr body a hup hf hk hseq hlen hbody ha hsrc hp hsq => execCommitAck_completes hup hf hseq hk hlen hbody ha hsrc hp hsq
  · exact fun s a d ha hd h => execCommitAckTimeout_late ha hd h
  · exact fun s a d ha hd h => execCommitAckTimeout_early ha hd h
  · exact fun s hdr body c hup hf hk hseq hlen hbody ha hc => execChan_completes hup hf hseq ha hk hlen hbody hc
  · exact fun s hdr body k hup hf hk hseq hlen hbody ha hj hkey hal hpail =>
      execSyncReg_completes hup hf hseq ha hk hlen hbody hj hkey hal hpail
  · exact fun s hdr body g i hup hf hk hseq hlen hbody ha hj hg hi hlt =>
      execSyncWt_completes hup hf hseq ha hk hlen hbody hj hg hi hlt
  · exact fun s hdr body v hup hf hk hseq hlen _ ha hj h => execSyncDone_waits v hup hf hk hseq hlen ha hj h
  · exact fun s hdr body v hup hf hk hseq hlen _ ha hj htl hp hn hm hd =>
      execSyncDone_syncs v hup hf hk hseq hlen ha hj htl hp hn hm hd

end Sys2Proof.Machine
end

section
/-! SUPPORT. Bits set and cleared, and entries of the trouble log's queue (O54). -/

namespace Sys2Proof.Machine

set_option Elab.async false

/-! ## Bits set and cleared -/

theorem testBit_sub_two_pow {v i : Nat} (h : v.testBit i = true) (j : Nat) : (v - 2 ^ i).testBit j = (decide (j ≠ i) && v.testBit j) := by
  obtain ⟨c, b, hb, rfl⟩ : ∃ c b, b < 2 ^ i ∧ v = 2 ^ i * c + b :=
    ⟨v / 2 ^ i, v % 2 ^ i, Nat.mod_lt _ (Nat.two_pow_pos i), (Nat.div_add_mod v (2 ^ i)).symm⟩
  rw [Nat.testBit_two_pow_mul_add _ hb, if_neg (lt_irrefl i), Nat.sub_self, Nat.testBit_zero, decide_eq_true_iff] at h
  obtain ⟨c, rfl⟩ : ∃ d, c = 2 * d + 1 := ⟨c / 2, by omega⟩
  have hsub : 2 ^ i * (2 * c + 1) + b - 2 ^ i = 2 ^ i * (2 * c) + b := by
    rw [Nat.mul_add, Nat.mul_one]
    omega
  rw [hsub, Nat.testBit_two_pow_mul_add _ hb, Nat.testBit_two_pow_mul_add _ hb]
  rcases lt_trichotomy j i with hj | rfl | hj
  · simp [hj, hj.ne]
  · simp
  · obtain ⟨k, rfl⟩ : ∃ k, j = i + (k + 1) := ⟨j - i - 1, by omega⟩
    simp [Nat.testBit_succ, Nat.mul_add_div]

theorem testBit_putBit (v i : Nat) (b : Bool) (j : Nat) : (putBit v i b).testBit j = if j = i then b else v.testBit j := by
  unfold putBit
  cases b with
  | true => rw [if_pos rfl, Nat.testBit_or, Nat.testBit_two_pow]; by_cases h : j = i <;> simp [h, Ne.symm]
  | false =>
    rw [if_neg Bool.false_ne_true]
    split
    next h => rw [testBit_sub_two_pow h]; by_cases hj : j = i <;> simp [hj]
    next h => by_cases hj : j = i <;> simp [hj, h]

theorem putBit_lt {v i n : Nat} (hv : v < 2 ^ n) (hi : i < n) (b : Bool) : putBit v i b < 2 ^ n := by
  refine Nat.lt_pow_two_of_testBit _ fun j hj => ?_
  rw [testBit_putBit, if_neg (by omega)]
  exact Nat.testBit_lt_two_pow (hv.trans_le (Nat.pow_le_pow_right (by decide) hj))

theorem testBit_domMap (l : List Nat) (j : Nat) : (domMap l).testBit j = decide (j ∈ l) := by
  have hfold : ∀ a, (l.foldl (fun a d => a ||| 2 ^ d) a).testBit j = (a.testBit j || decide (j ∈ l)) := by
    induction l with
    | nil => simp
    | cons d l ih =>
      intro a
      rw [List.foldl_cons, ih, Nat.testBit_or, Nat.testBit_two_pow, Bool.or_assoc]
      congr 1
      simp [List.mem_cons, eq_comm]
  rw [domMap, hfold, Nat.zero_testBit, Bool.false_or]

/-! ## An entry of the trouble log's queue (R552) -/

theorem mem_logSeqs_cons (n : Nat) (w : LogWait) (ws : List LogWait) :
    ∃ v ∈ logSeqs n (w :: ws), v.entry.kind = w.entry.kind ∧ v.entry.tl = w.entry.tl :=
  ⟨_, List.mem_cons_self .., rfl, rfl⟩

theorem State.mem_logPut {s : State} (e : LogEntry) (h : logFill s.log.queue < 256) :
    ∃ w ∈ (s.logPut e).log.queue, w.entry.kind = e.kind ∧ w.entry.tl = e.tl := by
  unfold State.logPut
  rw [if_neg (Nat.not_le.2 h)]
  extract_lets seq l w
  split
  · rw [State.wrW_log]
    exact ⟨w, List.mem_append_right _ (List.mem_cons_of_mem _ (List.mem_singleton_self _)), rfl, rfl⟩
  · generalize logTail s.ticks (logRank e) s.log.queue = q
    obtain ⟨a, b⟩ := q
    obtain ⟨v, hv, hk, ht⟩ := mem_logSeqs_cons (seq + 2 ^ 32 - b.length) ⟨e, s.ticks⟩ b
    exact ⟨v, List.mem_append_right a hv, hk, ht⟩

end Sys2Proof.Machine
end

section
/-! SUPPORT. The supply monitors record, show and end dips (O54, first part). -/

namespace Sys2Proof.Machine

set_option Elab.async false

/-! ## Dips recorded and shown (R468) -/

section
variable (s : State) (r : Nat) (b : Bool)

theorem State.setRail_kept (f : Fld) : RegsKept [Reg.PW_SUP_STAT] s (s.setRail f r b) := .setFld _ _ _ (List.mem_singleton_self _)

theorem State.setRail_bit {f : Fld} (hf : f.rwg = false ∧ f.lo + f.wid ≤ 64) (hr : r < f.wid) :
    ((s.setRail f r b).fld Reg.PW_SUP_STAT f).testBit r = b := by
  rw [State.setRail, State.fld_setFld _ _ _ _ hf, Nat.testBit_mod_two_pow, testBit_putBit, if_pos rfl, decide_eq_true hr, Bool.true_and]

variable (d : DipRt) (dur : Nat) (op : Bool)

theorem State.showDip_rail (hr : r < 8) : (s.showDip r d dur op).fld Reg.PW_DIP F.PW_DIP_RAIL = r := by
  simp (disch := decide) only [State.showDip, State.fld_hw, State.rdW_wrW_other, State.rdW_setFld, Fld.get_put, Fld.get_put_other]
  exact Nat.mod_eq_of_lt hr

theorem State.showDip_open : (s.showDip r d dur op).flag Reg.PW_DIP F.PW_DIP_OPEN = op := by
  simp (disch := decide) only [State.showDip, State.flag_hw, State.rdW_wrW_other, State.rdW_setFld, Fld.get_put, Fld.get_put_other]
  cases op <;> rfl

theorem State.showDip_min : (s.showDip r d dur op).fld Reg.PW_DIP F.PW_DIP_MIN_MV = min d.min 4095 := by
  simp (disch := decide) only [State.showDip, State.fld_hw, State.rdW_wrW_other, State.rdW_setFld, Fld.get_put, Fld.get_put_other]
  exact Nat.mod_eq_of_lt (by show min d.min 4095 < 2 ^ 12; omega)

theorem State.showDip_dur : (s.showDip r d dur op).fld Reg.PW_DIP F.PW_DIP_DUR = min dur 65535 := by
  simp (disch := decide) only [State.showDip, State.fld_hw, State.rdW_wrW_other, State.rdW_setFld, Fld.get_put]
  exact Nat.mod_eq_of_lt (by show min dur 65535 < 2 ^ 16; omega)

theorem State.showDip_stamps : (s.showDip r d dur op).rdW Reg.PW_DIP_AT = d.tl ∧
    (s.showDip r d dur op).rdW Reg.PW_DIP_STAMP = BitVec.ofNat 64 d.stamp := by
  unfold State.showDip
  dsimp only
  exact ⟨by rw [State.rdW_wrW_other _ _ (by decide), State.rdW_wrW_same], State.rdW_wrW_same ..⟩

theorem State.showDip_pw : (s.showDip r d dur op).pw = s.pw := (State.showDip_in ..).same .pw rfl

end

/-- A rail's dip in progress, with its bit of LOW. -/
def State.withDip (s : State) (r : Nat) (d : Option DipRt) : State :=
  (s.updPw fun p => { p with dips := SMap.put none p.dips r d }).setRail F.PW_SUP_STAT_LOW r d.isSome

section
variable (s : State) (r : Nat) (d : Option DipRt)

theorem State.withDip_kept : RegsKept [Reg.PW_SUP_STAT] s (s.withDip r d) :=
  (RegsKept.of_regs _ (State.updPw_regs ..)).trans (State.setRail_kept _ _ _ _)

theorem State.withDip_pw : (s.withDip r d).pw = { s.pw with dips := SMap.put none s.pw.dips r d } := by
  rw [State.withDip, State.setRail, State.setFld_pw, State.updPw_pw]

theorem State.withDip_lower : (s.withDip r d).lowerDip r = s.lowerDip r := by
  have hq : ∀ q ∈ List.range r, ((s.withDip r d).dip q).isSome = (s.dip q).isSome := fun q hq => by
    rw [State.dip, State.withDip_pw, SMap.get_put_other _ _ _ _ (List.mem_range.1 hq).ne, State.dip]
  rw [State.lowerDip, State.lowerDip, Bool.eq_iff_iff, List.any_eq_true, List.any_eq_true]
  exact exists_congr fun q => and_congr_right fun h => by rw [hq q h]

theorem State.withDip_dip : (s.withDip r d).dip r = d := by
  rw [State.dip, State.withDip_pw, SMap.get_put_same]

theorem State.withDip_low (hr : r < 7) : ((s.withDip r d).fld Reg.PW_SUP_STAT F.PW_SUP_STAT_LOW).testBit r = d.isSome :=
  State.setRail_bit _ _ _ (by decide) hr

theorem State.shedCheck_kept (s : State) : RegsKeptEv [Reg.PW_MODE, Reg.PW_EVENT] s s.shedCheck := by
  unfold State.shedCheck
  exact .ite (State.setMode_kept _ _ (by decide)) (.refl _ _)

theorem State.shedCheck_pw (s : State) : s.shedCheck.pw = s.pw := (State.shedCheck_in ..).same .pw rfl

/-- The events of a recorded dip: the warning first where the rail is the core's, then the dip. -/
def State.dipTold (s : State) (r : Nat) : State :=
  if r = 0 then
    (((((s.setFld Reg.PW_SUP_STAT F.PW_SUP_STAT_WARN 1).updPw fun p => { p with warnAt := s.aon, coreOk := none })).evSt 12).evSt
      13).shedCheck
  else s.evSt 13

/-- A supply event keeps every register but its own. -/
theorem State.evSt_kept (s : State) {e : Nat} (he : e < 400) : RegsKeptEv [Reg.PW_STEVENT] s (s.evSt e) :=
  .occurBit _ _ (by omega) _ _ (List.mem_singleton_self _)

theorem State.evSt_bit (s : State) {e : Nat} (he : e < 64) : ((s.evSt e).rdW Reg.PW_STEVENT).toNat.testBit (e - 12) = true :=
  State.occurBit_bit _ (by omega) _ (by omega) _ (by decide)

theorem State.evSt_pw (s : State) (e : Nat) : (s.evSt e).pw = s.pw := (State.evSt_in ..).same .pw rfl

end

theorem State.dipTold_kept (s : State) (r : Nat) :
    RegsKeptEv [Reg.PW_SUP_STAT, Reg.PW_STEVENT, Reg.PW_MODE, Reg.PW_EVENT] s (s.dipTold r) := by
  unfold State.dipTold
  split
  · exact (RegsKeptEv.setFld _ _ _ _ (by simp)).trans ((RegsKeptEv.of_regs _ (State.updPw_regs ..)).trans
      (((State.evSt_kept _ (by decide)).mono (by simp)).trans (((State.evSt_kept _ (by decide)).mono (by simp)).trans
        ((State.shedCheck_kept _).mono (by simp)))))
  · exact (State.evSt_kept _ (by decide)).mono (by simp)

theorem State.dipTold_bit (s : State) (r : Nat) : ((s.dipTold r).rdW Reg.PW_STEVENT).toNat.testBit 1 = true := by
  unfold State.dipTold
  split
  · rw [State.shedCheck_kept _ _ (by decide) (by decide)]
    exact State.evSt_bit _ (by decide)
  · exact State.evSt_bit _ (by decide)

theorem State.dipTold_low (s : State) (r : Nat) :
    (s.dipTold r).fld Reg.PW_SUP_STAT F.PW_SUP_STAT_LOW = s.fld Reg.PW_SUP_STAT F.PW_SUP_STAT_LOW := by
  unfold State.dipTold
  split
  · rw [State.fld_hw _ _ rfl, State.shedCheck_kept _ _ (by decide) (by decide), State.evSt_kept _ (by decide) _ (by decide) (by decide),
      State.evSt_kept _ (by decide) _ (by decide) (by decide), State.updPw_rdW, ← State.fld_hw _ _ rfl,
      State.fld_setFld_other _ _ _ _ _ (by decide)]
  · rw [State.fld_hw _ _ rfl, State.evSt_kept _ (by decide) _ (by decide) (by decide), ← State.fld_hw _ _ rfl]

theorem State.dipTold_pw (s : State) (r : Nat) : (s.dipTold r).pw.dips = s.pw.dips ∧ (s.dipTold r).pw.wake = s.pw.wake := by
  unfold State.dipTold
  split
  · rw [State.shedCheck_pw, State.evSt_pw, State.evSt_pw, State.updPw_pw, State.setFld_pw]
    exact ⟨rfl, rfl⟩
  · rw [State.evSt_pw]
    exact ⟨rfl, rfl⟩

theorem State.dipTold_core (s : State) : (s.dipTold 0).flag Reg.PW_SUP_STAT F.PW_SUP_STAT_WARN = true ∧
    ((s.dipTold 0).rdW Reg.PW_STEVENT).toNat.testBit 0 = true ∧ (s.mode = 5 → (s.dipTold 0).mode = 6) := by
  have hw : (s.setFld Reg.PW_SUP_STAT F.PW_SUP_STAT_WARN 1).flag Reg.PW_SUP_STAT F.PW_SUP_STAT_WARN = true := by
    rw [State.flag, State.fld_setFld _ _ _ _ (by decide)]
    rfl
  have hm : (s.setFld Reg.PW_SUP_STAT F.PW_SUP_STAT_WARN 1).mode = s.mode := State.mode_eq_of_rdW (State.rdW_setFld_other _ _ _ (by decide))
  rw [State.dipTold, if_pos rfl]
  generalize s.setFld Reg.PW_SUP_STAT F.PW_SUP_STAT_WARN 1 = u at *
  have hwu : ((u.updPw fun p => { p with warnAt := s.aon, coreOk := none })).flag Reg.PW_SUP_STAT F.PW_SUP_STAT_WARN = true := by
    rw [State.updPw_flag, hw]
  have hmu : ((u.updPw fun p => { p with warnAt := s.aon, coreOk := none })).mode = s.mode := by rw [State.updPw_mode, hm]
  generalize (u.updPw fun p => { p with warnAt := s.aon, coreOk := none }) = v at *
  have hkept : RegsKeptEv [Reg.PW_STEVENT] v ((v.evSt 12).evSt 13) := (State.evSt_kept _ (by decide)).trans (State.evSt_kept _ (by decide))
  have hbit : (((v.evSt 12).evSt 13).rdW Reg.PW_STEVENT).toNat.testBit 0 = true :=
    State.occurBit_bit_mono _ (by decide) _ _ (by decide) (State.evSt_bit v (by decide))
  generalize (v.evSt 12).evSt 13 = w at *
  have hww : w.flag Reg.PW_SUP_STAT F.PW_SUP_STAT_WARN = true := by
    rw [State.flag, State.fld_hw _ _ rfl, hkept _ (by decide) (by decide), ← State.fld_hw _ _ rfl, ← State.flag, hwu]
  have hmw : w.mode = s.mode := (State.mode_eq_of_rdW (hkept _ (by decide) (by decide))).trans hmu
  refine ⟨?_, ?_, fun h5 => ?_⟩
  · rw [State.flag, State.fld_hw _ _ rfl, State.shedCheck_kept _ _ (by decide) (by decide), ← State.fld_hw _ _ rfl, ← State.flag, hww]
  · rwa [State.shedCheck_kept _ _ (by decide) (by decide)]
  · rw [State.shedCheck, if_pos (by rw [hmw, h5, State.shedCause, hww]; rfl), State.mode_setMode _ _ (by decide)]

/-! ## The commands of the supply monitors (R468 to R470) -/

section
variable {s : State} {r : Fin 7}

/-- The dip that SUPPLY_DIP_RECORDED records. -/
def State.newDip (s : State) (r mv ago : Nat) : DipRt :=
  { tl := if s.tlKnown then tlOf (tlAdd s.now (-(ago : Int))) else 0, stamp := s.aon - 24, min := mv, reset := decide (mv < (railLow r).2) }

/-- The state that shows a new dip, before its events. -/
def State.dipShown (s : State) (r mv ago : Nat) : State :=
  let v := s.withDip r (some (s.newDip r mv ago))
  let u := if v.lowerDip r then v else v.showDip r (s.newDip r mv ago) 25 true
  if u.mode = 0xB then u.raiseWake 9 0 else u

theorem State.dipShown_eq (hlow : s.lowerDip r = false) (mv ago : Nat) : s.dipShown r mv ago =
    let u := (s.withDip r (some (s.newDip r mv ago))).showDip r (s.newDip r mv ago) 25 true
    if u.mode = 0xB then u.raiseWake 9 0 else u := by
  unfold State.dipShown
  dsimp only
  rw [State.withDip_lower, hlow, if_neg Bool.false_ne_true]

theorem State.dipShown_parts (hlow : s.lowerDip r = false) (mv ago : Nat) : (s.dipShown r mv ago).regs =
      ((s.withDip r (some (s.newDip r mv ago))).showDip r (s.newDip r mv ago) 25 true).regs ∧
    (s.dipShown r mv ago).pw.dips = SMap.put none s.pw.dips r (some (s.newDip r mv ago)) := by
  have hpw := State.showDip_pw (s.withDip r (some (s.newDip r mv ago))) r (s.newDip r mv ago) 25 true
  rw [State.withDip_pw] at hpw
  rw [State.dipShown_eq hlow]
  dsimp only
  generalize (s.withDip r (some (s.newDip r mv ago))).showDip r (s.newDip r mv ago) 25 true = u at *
  split
  · refine ⟨State.raiseWake_regs .., ?_⟩
    unfold State.raiseWake
    dsimp only
    split
    · split
      · rw [State.updPw_pw, hpw]
      · split
        · rw [State.updPw_pw, hpw]
        · rw [hpw]
    · rw [hpw]
  · exact ⟨rfl, by rw [hpw]⟩

theorem State.dipShown_wake (hlow : s.lowerDip r = false) (hm : s.mode = 0xB) (hw : s.pw.wake = none) (mv ago : Nat) :
    (s.dipShown r mv ago).pw.wake.any (fun w => w.codes.testBit 9) = true := by
  have hpw := State.showDip_pw (s.withDip r (some (s.newDip r mv ago))) r (s.newDip r mv ago) 25 true
  have hmode : ((s.withDip r (some (s.newDip r mv ago))).showDip r (s.newDip r mv ago) 25 true).mode = 0xB := by
    rw [State.mode_eq_of_rdW ((State.showDip_kept _ _ _ _ _ _ (by decide)).trans (State.withDip_kept s r _ _ (by decide))), hm]
  rw [State.withDip_pw] at hpw
  rw [State.dipShown_eq hlow]
  dsimp only
  generalize (s.withDip r (some (s.newDip r mv ago))).showDip r (s.newDip r mv ago) 25 true = u at *
  rw [if_pos hmode, State.raiseWake]
  rw [if_pos (by simp [State.dozing, hmode]), show u.pw.wake = none by rw [hpw]; exact hw, State.updPw_pw]
  exact show Option.any (fun w : WakeRt => w.codes.testBit 9) (some ⟨u.aon, 2 ^ 9, 0⟩) = true from
    (Option.any_some ..).trans Nat.testBit_two_pow_self

theorem execSupplyDipRecorded_completes {mv ago : Nat} (hm : s.mode ≠ 0) (hd : s.dip r = none) (hmv : mv < (railLow r).1)
    (hlow : s.lowerDip r = false) :
    Completes (.supplyDipRecorded r mv ago) s fun t => (t.rdW Reg.PW_STEVENT).toNat.testBit 1 = true ∧
      (t.fld Reg.PW_SUP_STAT F.PW_SUP_STAT_LOW).testBit r = true ∧
      (t.dip r).any (fun d => d.min == mv && d.stamp == s.aon - 24 && d.reset == decide (mv < (railLow r).2)) = true ∧
      t.fld Reg.PW_DIP F.PW_DIP_RAIL = r.val ∧ t.flag Reg.PW_DIP F.PW_DIP_OPEN = true ∧
      t.fld Reg.PW_DIP F.PW_DIP_MIN_MV = min mv 4095 ∧ t.rdW Reg.PW_DIP_STAMP = BitVec.ofNat 64 (s.aon - 24) ∧
      t.rdW Reg.PW_DIP_AT = (if s.tlKnown then tlOf (tlAdd s.now (-(ago : Int))) else 0) ∧
      (r.val = 0 → t.flag Reg.PW_SUP_STAT F.PW_SUP_STAT_WARN = true ∧ (t.rdW Reg.PW_STEVENT).toNat.testBit 0 = true ∧
        (s.mode = 5 → t.mode = 6)) ∧
      (s.mode = 0xB → s.pw.wake = none → t.pw.wake.any (fun w => w.codes.testBit 9) = true) := by
  have hexec : exec (.supplyDipRecorded r mv ago) s = .next ((s.dipShown r mv ago).dipTold r) := by
    show execSupplyDipRecorded r mv ago s = _
    unfold execSupplyDipRecorded
    rw [if_neg (by rw [hd]; simp only [Option.isSome_none, Bool.false_eq_true, false_or, not_or]; omega)]
    by_cases h : r.val = 0
    · refine Eq.trans (if_pos h) ?_
      exact congrArg Host.Outcome.next (if_pos h).symm
    · refine Eq.trans (if_neg h) ?_
      exact congrArg Host.Outcome.next (if_neg h).symm
  obtain ⟨hregs, hdips⟩ := State.dipShown_parts hlow mv ago
  have hwake := fun hb hw => State.dipShown_wake hlow hb hw mv ago
  have hrail := (s.withDip r (some (s.newDip r mv ago))).showDip_rail r (s.newDip r mv ago) 25 true (by omega)
  have hopen := (s.withDip r (some (s.newDip r mv ago))).showDip_open r (s.newDip r mv ago) 25 true
  have hmin := (s.withDip r (some (s.newDip r mv ago))).showDip_min r (s.newDip r mv ago) 25 true
  obtain ⟨hat, hstamp⟩ := (s.withDip r (some (s.newDip r mv ago))).showDip_stamps r (s.newDip r mv ago) 25 true
  have hlowbit := s.withDip_low r (some (s.newDip r mv ago)) r.isLt
  have hshow := (s.withDip r (some (s.newDip r mv ago))).showDip_kept r (s.newDip r mv ago) 25 true
  have hmode : (s.withDip r (some (s.newDip r mv ago))).mode = s.mode := State.mode_eq_of_rdW (s.withDip_kept _ _ _ (by decide))
  have hfld : ∀ k f, f.rwg = false → (s.dipShown r mv ago).fld k f =
      ((s.withDip r (some (s.newDip r mv ago))).showDip r (s.newDip r mv ago) 25 true).fld k f :=
    fun k f hf => by rw [State.fld_hw _ _ hf, State.fld_hw _ _ hf, State.rdW_of_regs hregs]
  have hold := (s.dipShown r mv ago).dipTold_kept r
  have hkeep : ∀ k f, f.rwg = false → k = Reg.PW_DIP → ((s.dipShown r mv ago).dipTold r).fld k f =
      ((s.withDip r (some (s.newDip r mv ago))).showDip r (s.newDip r mv ago) 25 true).fld k f := by
    rintro k f hf rfl
    rw [State.fld_hw _ _ hf, hold _ (by decide) (by decide), ← State.fld_hw _ _ hf, hfld _ _ hf]
  refine .intro hexec ⟨State.dipTold_bit .., ?_, ?_, ?_, ?_, ?_, ?_, ?_, fun h0 => ?_, fun hb hw => ?_⟩
  · rw [State.dipTold_low, hfld _ _ rfl, State.fld_hw _ _ rfl, hshow _ (by decide), ← State.fld_hw _ _ rfl, hlowbit]
    rfl
  · rw [State.dip, (State.dipTold_pw ..).1, hdips, SMap.get_put_same]
    simp [State.newDip]
  · rw [hkeep _ _ rfl rfl, hrail]
  · rw [State.flag, hkeep _ _ rfl rfl, ← State.flag, hopen]
  · rw [hkeep _ _ rfl rfl, hmin]
    rfl
  · rw [hold _ (by decide) (by decide), State.rdW_of_regs hregs, hstamp]
    rfl
  · rw [hold _ (by decide) (by decide), State.rdW_of_regs hregs, hat]
    rfl
  · obtain ⟨h1, h2, h3⟩ := (s.dipShown r mv ago).dipTold_core
    rw [h0]
    rw [h0] at h1 h2 h3 hregs hshow hmode
    refine ⟨h1, h2, fun h5 => h3 ?_⟩
    rw [State.mode_eq_of_rdW (State.rdW_of_regs hregs _), State.mode_eq_of_rdW (hshow _ (by decide)), hmode, h5]
  · rw [(State.dipTold_pw ..).2]
    exact hwake hb hw

/-- The state that shows a dip's end. -/
def State.dipEnded (s : State) (r : Nat) (d : DipRt) : State :=
  ((((s.showDip r d (s.aon - d.stamp) false).withDip r none).cnt Reg.PW_DIP_CNT).logDip r d (s.aon - d.stamp) false)

theorem State.logDip_entry {s : State} (r : Nat) (d : DipRt) (dur : Nat) (cut : Bool) (h : logFill s.log.queue < 254) :
    (s.logDip r d dur cut).log.queue.any (fun w => w.entry.kind == 3 && w.entry.tl == d.tl) = true := by
  unfold State.logDip
  obtain ⟨w, hw, hk, ht⟩ := State.mem_logPut (s := s)
    { tl := d.tl, stamp := BitVec.ofNat 64 d.stamp, source := 0xFFFF, kind := 3,
      flags := (s.logFlags - (if s.tlKnown then 2 else 0)) + (if d.tl ≠ 0 then 2 else 0), seq := 0,
      param := BitVec.ofNat 64 (r + (if d.reset then 2 ^ 8 else 0) + (if cut then 2 ^ 9 else 0) + min d.min 65535 * 2 ^ 16 +
        dur % 2 ^ 32 * 2 ^ 32) } (by omega)
  refine List.any_eq_true.2 ⟨w, hw, ?_⟩
  rw [hk, ht]
  simp

section
variable (s : State) (r : Nat) (d : DipRt)

theorem State.dipEnded_kept : RegsKeptEv [Reg.PW_DIP, Reg.PW_DIP_AT, Reg.PW_DIP_STAMP, Reg.PW_SUP_STAT, Reg.PW_DIP_CNT] s
    (s.dipEnded r d) := fun k hk he => by
  simp only [List.mem_cons, List.not_mem_nil, or_false, not_or] at hk
  obtain ⟨h1, h2, h3, h4, h5⟩ := hk
  rw [State.dipEnded, State.rdW_logDip _ _ _ _ _ he, State.rdW_cnt_other _ h5, State.withDip_kept _ _ _ _ (by simp [h4]),
    State.showDip_kept _ _ _ _ _ _ (by simp [h1, h2, h3])]

theorem State.dipEnded_dipReg (f : Fld) (hf : f.rwg = false) :
    (s.dipEnded r d).fld Reg.PW_DIP f = (s.showDip r d (s.aon - d.stamp) false).fld Reg.PW_DIP f := by
  rw [State.fld_hw _ _ hf, State.dipEnded, State.rdW_logDip _ _ _ _ _ (by decide), State.rdW_cnt_other _ (by decide),
    State.withDip_kept _ _ _ _ (by decide), ← State.fld_hw _ _ hf]

theorem State.dipEnded_counted : Counted Reg.PW_DIP_CNT s (s.dipEnded r d) := by
  rw [Counted, State.dipEnded, State.rdW_logDip _ _ _ _ _ (by decide), State.rdW_cnt, State.withDip_kept _ _ _ _ (by decide),
    State.showDip_kept _ _ _ _ _ _ (by decide)]

theorem State.dipEnded_low (hr : r < 7) : ((s.dipEnded r d).fld Reg.PW_SUP_STAT F.PW_SUP_STAT_LOW).testBit r = false := by
  rw [State.fld_hw _ _ rfl, State.dipEnded, State.rdW_logDip _ _ _ _ _ (by decide), State.rdW_cnt_other _ (by decide),
    ← State.fld_hw _ _ rfl, State.withDip_low _ _ _ hr]
  rfl

theorem State.dipEnded_dip : (s.dipEnded r d).dip r = none := by
  have hpw : (s.dipEnded r d).pw = ((s.showDip r d (s.aon - d.stamp) false).withDip r none).pw :=
    ((State.logDip_in ..).same .pw rfl).trans (State.cnt_pw ..)
  rw [State.dip, hpw, ← State.dip, State.withDip_dip]

theorem State.dipEnded_log (h : logFill s.log.queue < 254) :
    (s.dipEnded r d).log.queue.any (fun w => w.entry.kind == 3 && w.entry.tl == d.tl) = true := by
  refine State.logDip_entry r d _ _ ?_
  rw [State.cnt_log, State.withDip, (State.setRail_in ..).same .log rfl, State.updPw_log, (State.showDip_in ..).same .log rfl]
  exact h

end

theorem execSupplyDipEnd_owned {mv n : Nat} {d : DipRt} (hd : s.dip r = some d) (ho : s.ownsDip r d = true) :
    Completes (.supplyDipEnd r mv n) s fun t => t.dip r = none ∧ Counted Reg.PW_DIP_CNT s t ∧
      (t.fld Reg.PW_SUP_STAT F.PW_SUP_STAT_LOW).testBit r = false ∧ t.flag Reg.PW_DIP F.PW_DIP_OPEN = false ∧
      t.fld Reg.PW_DIP F.PW_DIP_MIN_MV = min (min d.min mv) 4095 ∧ t.fld Reg.PW_DIP F.PW_DIP_DUR = min (s.aon - d.stamp) 65535 ∧
      (logFill s.log.queue < 254 → t.log.queue.any (fun w => w.entry.kind == 3 && w.entry.tl == d.tl) = true) ∧
      (r.val = 0 → t.flag Reg.PW_SUP_STAT F.PW_SUP_STAT_WARN = false ∧ t.pw.coreOk = some s.aon) := by
  obtain ⟨e, he⟩ : ∃ e : DipRt, e = { d with min := min d.min mv, reset := d.reset || decide (mv < (railLow r).2) } := ⟨_, rfl⟩
  have hmin : e.min = min d.min mv := by rw [he]
  have hstamp : e.stamp = d.stamp := by rw [he]
  have htl : e.tl = d.tl := by rw [he]
  have hexec : exec (.supplyDipEnd r mv n) s = .next (if r.val = 0 then
      ((s.dipEnded r e).setFld Reg.PW_SUP_STAT F.PW_SUP_STAT_WARN 0).updPw fun p => { p with coreOk := some (s.dipEnded r e).aon }
      else s.dipEnded r e) := by
    show execSupplyDipEnd r mv n s = _
    unfold execSupplyDipEnd
    dsimp only
    rw [hd]
    dsimp only
    rw [← he, if_pos (show s.ownsDip r e = true by rw [State.ownsDip, hstamp]; exact ho), ← hstamp]
    by_cases h0 : r.val = 0
    · rw [if_pos h0, if_pos h0]
      rfl
    · rw [if_neg h0, if_neg h0]
      rfl
  have hopen := s.showDip_open r e (s.aon - e.stamp) false
  have hmn := s.showDip_min r e (s.aon - e.stamp) false
  have hdur := s.showDip_dur r e (s.aon - e.stamp) false
  have hlow := s.dipEnded_low r e r.isLt
  have hdip := s.dipEnded_dip r e
  have hcnt := s.dipEnded_counted r e
  have hlog := fun h => htl ▸ s.dipEnded_log r e h
  have haon : (s.dipEnded r e).aon = s.aon := by
    rw [State.dipEnded, (State.logDip_in ..).same .aon rfl, State.cnt_aon, State.withDip, (State.setRail_in ..).same .aon rfl,
      State.updPw_aon, (State.showDip_in ..).same .aon rfl]
  rw [← s.dipEnded_dipReg r e _ rfl] at hmn hdur
  rw [State.flag, ← s.dipEnded_dipReg r e _ rfl, ← State.flag] at hopen
  rw [hmin] at hmn
  rw [hstamp] at hdur
  generalize s.dipEnded r e = u at *
  by_cases h0 : r.val = 0
  · rw [if_pos h0, haon] at hexec
    refine .intro hexec ⟨?_, ?_, ?_, ?_, ?_, ?_, fun h => ?_, fun _ => ⟨?_, ?_⟩⟩
    · rw [State.dip, State.updPw_pw, State.setFld_pw]
      exact hdip
    · rwa [Counted, State.updPw_rdW, State.rdW_setFld_other _ _ _ (by decide)]
    · rwa [State.updPw_fld, State.fld_setFld_other _ _ _ _ _ (by decide)]
    · rwa [State.updPw_flag, State.flag, State.fld_hw _ _ rfl, State.rdW_setFld_other _ _ _ (by decide), ← State.fld_hw _ _ rfl]
    · rwa [State.updPw_fld, State.fld_hw _ _ rfl, State.rdW_setFld_other _ _ _ (by decide), ← State.fld_hw _ _ rfl]
    · rwa [State.updPw_fld, State.fld_hw _ _ rfl, State.rdW_setFld_other _ _ _ (by decide), ← State.fld_hw _ _ rfl]
    · rw [State.updPw_log, State.setFld_log]
      exact hlog h
    · rw [State.updPw_flag, State.flag, State.fld_setFld _ _ _ _ (by decide)]
      rfl
    · rw [State.updPw_pw]
  · rw [if_neg h0] at hexec
    exact .intro hexec ⟨hdip, hcnt, hlow, hopen, hmn, hdur, hlog, fun h => absurd h h0⟩

theorem execSupplyDipEnd_glitch {mv n : Nat} (hd : s.dip r = none) (h1 : 1 ≤ n) (hn : n < 25) (hmv : mv < (railLow r).1)
    (hm : s.mode ≠ 0) :
    Completes (.supplyDipEnd r mv n) s fun t => Counted Reg.PW_SUP_GLITCH s t ∧ RegsKept [Reg.PW_SUP_GLITCH] s t := by
  have hkept : RegsKept [Reg.PW_SUP_GLITCH] s (s.cnt Reg.PW_SUP_GLITCH) := .wrW _ _ (List.mem_singleton_self _)
  have hexec : exec (.supplyDipEnd r mv n) s = .next (if r.val = 0 then
      (s.cnt Reg.PW_SUP_GLITCH).updPw fun p => { p with coreOk := some (s.cnt Reg.PW_SUP_GLITCH).aon } else s.cnt Reg.PW_SUP_GLITCH) := by
    show execSupplyDipEnd r mv n s = _
    unfold execSupplyDipEnd
    dsimp only
    rw [hd]
    exact if_pos ⟨h1, hn, hmv, hm⟩
  by_cases h0 : r.val = 0
  · rw [if_pos h0] at hexec
    exact .intro hexec ⟨(State.updPw_rdW ..).trans (State.rdW_cnt ..), hkept.trans (.of_regs _ (State.updPw_regs ..))⟩
  · rw [if_neg h0] at hexec
    exact .intro hexec ⟨State.rdW_cnt .., hkept⟩

theorem execSupplyOver_begins (h : (s.fld Reg.PW_SUP_STAT F.PW_SUP_STAT_HIGH).testBit r = false) :
    Completes (.supplyOver r true) s fun t => (t.fld Reg.PW_SUP_STAT F.PW_SUP_STAT_HIGH).testBit r = true ∧
      OccurredBit 616 Reg.PW_STEVENT 4 s t ∧ RegsKeptEv [Reg.PW_SUP_STAT, Reg.PW_STEVENT] s t := by
  obtain ⟨u, hu⟩ : ∃ u, u = s.setRail F.PW_SUP_STAT_HIGH r true := ⟨_, rfl⟩
  have hbit : (u.fld Reg.PW_SUP_STAT F.PW_SUP_STAT_HIGH).testBit r = true := by
    rw [hu]
    exact State.setRail_bit _ _ _ (by decide) r.isLt
  have hkept : RegsKept [Reg.PW_SUP_STAT] s u := by
    rw [hu]
    exact State.setRail_kept _ _ _ _
  obtain ⟨w, hw⟩ : ∃ w, w = if u.mode = 0xB then u.raiseWake 9 0 else u := ⟨_, rfl⟩
  have hregs : w.regs = u.regs := by
    rw [hw]
    split
    · exact State.raiseWake_regs ..
    · rfl
  have hexec : exec (.supplyOver r true) s = .next (w.evSt 16) := by
    show execSupplyOver r true s = _
    unfold execSupplyOver
    dsimp only
    rw [if_pos ⟨rfl, h⟩, ← hu, ← hw]
  have hkw : RegsKept [Reg.PW_SUP_STAT] s w := hkept.trans (.of_regs _ hregs)
  refine .intro hexec ⟨?_, ?_, ?_⟩
  · rw [State.fld_hw _ _ rfl, State.evSt_kept _ (by decide) _ (by decide) (by decide), State.rdW_of_regs hregs, ← State.fld_hw _ _ rfl, hbit]
  · exact (State.occurredBit w (by decide) (by decide) (by decide) none (by decide) (by decide)).before (hkw _ (by decide)) (hkw _ (by decide))
  · exact (hkw.ev.mono (by simp)).trans ((State.evSt_kept _ (by decide)).mono (by simp))

theorem execSupplyOver_ends : Completes (.supplyOver r false) s fun t =>
    (t.fld Reg.PW_SUP_STAT F.PW_SUP_STAT_HIGH).testBit r = false ∧ RegsKept [Reg.PW_SUP_STAT] s t := by
  refine .intro (t := s.setRail F.PW_SUP_STAT_HIGH r false) ?_ ⟨State.setRail_bit _ _ _ (by decide) r.isLt, State.setRail_kept _ _ _ _⟩
  show execSupplyOver r false s = _
  unfold execSupplyOver
  dsimp only
  exact if_neg fun h => Bool.false_ne_true h.1

end

end Sys2Proof.Machine
end

section
/-! SUPPORT. Forced drops and lifts, and the domains of shed groups (O54, second part). -/

namespace Sys2Proof.Machine

set_option Elab.async false

/-! ## The counts that a step leaves alone (R93) -/

/-- No source outside `is` and those of a host link's errors is counted. -/
def CntKept (is : List Nat) (s t : State) : Prop :=
  ∀ j, j < 1024 → j ∉ is → (∀ m < 32, j ≠ 289 + 4 * m) → t.rdW (Reg.EV_CNT j) = s.rdW (Reg.EV_CNT j)

theorem CntKept.refl (is : List Nat) (s : State) : CntKept is s s := fun _ _ _ _ => rfl

theorem CntKept.trans {is : List Nat} {s t u : State} (h : CntKept is s t) (h' : CntKept is t u) : CntKept is s u :=
  fun j hj hi hm => (h' j hj hi hm).trans (h j hj hi hm)

theorem CntKept.mono {is is' : List Nat} {s t : State} (h : CntKept is s t) (hi : is ⊆ is') : CntKept is' s t :=
  fun j hj hn hm => h j hj (fun hx => hn (hi hx)) hm

theorem CntKept.of_regs (is : List Nat) {s t : State} (h : t.regs = s.regs) : CntKept is s t := fun _ _ _ _ => State.rdW_of_regs h _

theorem CntKept.of_kept (is : List Nat) {ks : List Nat} {s t : State} (h : RegsKept ks s t) (hk : ∀ k ∈ ks, evKey k = false) :
    CntKept is s t :=
  fun j hj _ _ => h _ fun hm => ((evKey_false (hk _ hm)).2.2.2.1 j hj).1 rfl

theorem CntKept.occurBit (s : State) {i : Nat} (hi : i < 1024) {k : Nat} (b : Nat) (det : Option Nat) (hk : evKey k = false)
    {is : List Nat} (h : i ∈ is) : CntKept is s (s.occurBit i k b det) :=
  fun _ hj hn hm => State.evCnt_occurBit s hi det hk hj (fun e => hn (e ▸ h)) hm

theorem CntKept.ite {is : List Nat} {c : Prop} [Decidable c] {s t u : State} (h : CntKept is s t) (h' : CntKept is s u) :
    CntKept is s (if c then t else u) := by
  split <;> assumption

/-! ## Forced drops and lifts (R446) -/

section
variable (s : State) (d : Nat)

theorem State.forceOff_kept : RegsKeptEv [Reg.PW_FORCED, Reg.PW_EVENT] s (s.forceOff d) := by
  intro k hk he
  simp only [List.mem_cons, List.not_mem_nil, or_false, not_or] at hk
  unfold State.forceOff
  dsimp only
  split
  · rfl
  · split <;> simp only [State.updPw_rdW] <;>
      rw [State.rdW_evPw _ (by decide) he hk.2, State.rdW_wrW_other _ _ hk.1]

theorem State.forceLift_kept : RegsKeptEv [Reg.PW_FORCED, Reg.PW_EVENT] s (s.forceLift d) := by
  intro k hk he
  simp only [List.mem_cons, List.not_mem_nil, or_false, not_or] at hk
  unfold State.forceLift
  split
  · rw [State.rdW_evPw _ (by decide) he hk.2, State.rdW_wrW_other _ _ hk.1]
  · rfl

theorem State.forceOff_cnt : CntKept [550] s (s.forceOff d) := by
  have hw : CntKept [550] s ((s.wrW Reg.PW_FORCED (BitVec.ofNat 64 (putBit s.forcedMap d true))).evPw 6) :=
    (CntKept.of_kept _ (.wrW (ks := [Reg.PW_FORCED]) _ _ (List.mem_singleton_self _)) (by decide)).trans
      (.occurBit _ (by decide) _ _ (by decide) (by decide))
  unfold State.forceOff
  dsimp only
  split
  · exact .refl _ _
  · split
    · exact hw.trans (.of_regs _ rfl)
    · exact hw.trans (.of_regs _ rfl)

theorem State.forceLift_cnt : CntKept [551] s (s.forceLift d) := by
  unfold State.forceLift
  split
  · exact (CntKept.of_kept _ (.wrW (ks := [Reg.PW_FORCED]) _ _ (List.mem_singleton_self _)) (by decide)).trans
      (.occurBit _ (by decide) _ _ (by decide) (by decide))
  · exact .refl _ _

theorem State.forcedMap_lt : s.forcedMap < 2 ^ 64 := BitVec.isLt _

theorem State.forcedMap_put (hd : d < 64) (b : Bool) (e : Nat) : e < 400 →
    ((s.wrW Reg.PW_FORCED (BitVec.ofNat 64 (putBit s.forcedMap d b))).evPw e).forcedMap = putBit s.forcedMap d b := by
  intro he
  rw [State.forcedMap, State.rdW_evPw _ (by omega) (by decide) (by decide), State.rdW_wrW_same]
  exact (BitVec.toNat_ofNat ..).trans (Nat.mod_eq_of_lt (putBit_lt s.forcedMap_lt hd b))

theorem State.forceOff_forced (hd : d < 64) (e : Nat) :
    (s.forceOff d).forcedMap.testBit e = (decide (e = d) || s.forcedMap.testBit e) := by
  have hput : ((s.wrW Reg.PW_FORCED (BitVec.ofNat 64 (putBit s.forcedMap d true))).evPw 6).forcedMap.testBit e =
      (decide (e = d) || s.forcedMap.testBit e) := by
    rw [State.forcedMap_put s d hd true 6 (by decide), testBit_putBit]
    by_cases h : e = d <;> simp [h]
  by_cases hb : s.forcedMap.testBit d = true
  · rw [State.forceOff, if_pos hb]
    by_cases h : e = d <;> simp [h, hb]
  · rw [State.forceOff, if_neg hb]
    dsimp only
    split
    · exact hput
    · exact hput

theorem State.forceLift_forced (hd : d < 64) (hm : s.mode ≠ 0xC) (e : Nat) :
    (s.forceLift d).forcedMap.testBit e = (!decide (e = d) && s.forcedMap.testBit e) := by
  by_cases hb : s.forcedMap.testBit d = true
  · rw [State.forceLift, if_pos ⟨hm, hb⟩, State.forcedMap_put s d hd false 7 (by decide), testBit_putBit]
    by_cases h : e = d <;> simp [h]
  · rw [State.forceLift, if_neg fun h => hb h.2]
    by_cases h : e = d <;> simp [h, hb]

end

theorem State.forceOffs_kept (ds : List Nat) : ∀ s : State, RegsKeptEv [Reg.PW_FORCED, Reg.PW_EVENT] s (s.forceOffs ds) := by
  induction ds with
  | nil => exact fun s => .refl _ s
  | cons d ds ih => exact fun s => (s.forceOff_kept d).trans (ih _)

theorem State.forceLifts_kept (ds : List Nat) : ∀ s : State, RegsKeptEv [Reg.PW_FORCED, Reg.PW_EVENT] s (s.forceLifts ds) := by
  induction ds with
  | nil => exact fun s => .refl _ s
  | cons d ds ih => exact fun s => (s.forceLift_kept d).trans (ih _)

theorem State.forceOffs_cnt (ds : List Nat) : ∀ s : State, CntKept [550] s (s.forceOffs ds) := by
  induction ds with
  | nil => exact fun s => .refl _ s
  | cons d ds ih => exact fun s => (s.forceOff_cnt d).trans (ih _)

theorem State.forceLifts_cnt (ds : List Nat) : ∀ s : State, CntKept [551] s (s.forceLifts ds) := by
  induction ds with
  | nil => exact fun s => .refl _ s
  | cons d ds ih => exact fun s => (s.forceLift_cnt d).trans (ih _)

theorem State.forceOffs_forced {ds : List Nat} (h : ∀ d ∈ ds, d < 64) (e : Nat) :
    ∀ s : State, (s.forceOffs ds).forcedMap.testBit e = (decide (e ∈ ds) || s.forcedMap.testBit e) := by
  induction ds with
  | nil => exact fun s => by simp [State.forceOffs]
  | cons d ds ih =>
    intro s
    rw [State.forceOffs, ih (fun x hx => h x (.tail _ hx)), s.forceOff_forced d (h d (.head _))]
    by_cases h1 : e = d <;> by_cases h2 : e ∈ ds <;> simp [h1, h2]

theorem State.forceLifts_forced {ds : List Nat} (h : ∀ d ∈ ds, d < 64) (e : Nat) :
    ∀ s : State, s.mode ≠ 0xC → (s.forceLifts ds).forcedMap.testBit e = (!decide (e ∈ ds) && s.forcedMap.testBit e) := by
  induction ds with
  | nil => exact fun s _ => by simp [State.forceLifts]
  | cons d ds ih =>
    intro s hm
    have hmode : (s.forceLift d).mode = s.mode := State.mode_eq_of_rdW (s.forceLift_kept d _ (by decide) (by decide))
    rw [State.forceLifts, ih (fun x hx => h x (.tail _ hx)) _ (by rwa [hmode]), s.forceLift_forced d (h d (.head _)) hm]
    by_cases h1 : e = d <;> by_cases h2 : e ∈ ds <;> simp [h1, h2]

/-! ## Shedding of groups (R472, R473, R476) -/

theorem State.groupDoms_lt (s : State) {g : Nat} (hg : g < 12) : ∀ d ∈ s.groupDoms g, d < 64 := by
  have hu : s.groupUnit g < 16 := State.fld_lt ..
  intro d hd
  simp only [State.groupDoms, domL, domC, List.mem_cons, List.not_mem_nil, or_false] at hd
  omega

theorem State.flatMap_groupDoms_lt (s : State) {gs : List Nat} (h : ∀ g ∈ gs, g < 12) : ∀ d ∈ gs.flatMap s.groupDoms, d < 64 := by
  intro d hd
  obtain ⟨g, hg, hd⟩ := List.mem_flatMap.1 hd
  exact s.groupDoms_lt (h g hg) d hd

theorem domMap_lt {gs : List Nat} {n : Nat} (h : ∀ g ∈ gs, g < n) : domMap gs < 2 ^ n := by
  refine Nat.lt_pow_two_of_testBit _ fun j hj => ?_
  rw [testBit_domMap, decide_eq_false]
  exact fun hm => absurd (h j hm) (by omega)

theorem State.forced_groupDoms (s u : State) {gs : List Nat} (hlt : ∀ g ∈ gs, g < 12) {g : Nat} (hg : g ∈ gs) :
    (u.forceOffs (gs.flatMap s.groupDoms)).forcedMap.testBit (domL g) = true ∧
      (u.forceOffs (gs.flatMap s.groupDoms)).forcedMap.testBit (domC (s.groupUnit g)) = true := by
  have hd := s.flatMap_groupDoms_lt hlt
  refine ⟨?_, ?_⟩
  · rw [State.forceOffs_forced hd, decide_eq_true (List.mem_flatMap.2 ⟨g, hg, List.mem_cons_self ..⟩), Bool.true_or]
  · rw [State.forceOffs_forced hd, decide_eq_true (List.mem_flatMap.2 ⟨g, hg, List.mem_cons_of_mem _ (List.mem_cons_self ..)⟩), Bool.true_or]

end Sys2Proof.Machine
end

section
/-! SUPPORT. Groups shed by a lasting warning and lifted by the supply's return (O54, third part). -/

namespace Sys2Proof.Machine

set_option Elab.async false

/-! ## Shedding by a lasting warning, and the supply's return (R472, R473) -/

theorem State.setMode_cnt (s : State) {new : Nat} (trig : Nat) (hnew : new ≠ 4) : CntKept [544] s (s.setMode new trig) := by
  intro j hj hi hm
  unfold State.setMode
  simp only [if_neg hnew]
  refine (CntKept.occurBit _ (by decide) _ _ (by decide) (by decide) j hj hi hm).trans ?_
  rw [State.updUm_rdW]
  simp only [State.rdW_setFld_other _ _ _ (show Reg.EV_CNT j ≠ Reg.PW_MODE by simp only [Reg.EV_CNT, Reg.PW_MODE]; omega)]

theorem State.tryRun_kept (s : State) : RegsKeptEv [Reg.PW_MODE, Reg.PW_EVENT] s s.tryRun := by
  unfold State.tryRun
  exact .ite (State.setMode_kept _ _ (by decide)) (.refl _ _)

theorem State.tryRun_cnt (s : State) : CntKept [544] s s.tryRun := by
  unfold State.tryRun
  exact .ite (State.setMode_cnt _ _ (by decide)) (.refl _ _)

theorem CntKept.occurredBit {is : List Nat} {i k b : Nat} {s u t : State} (h : OccurredBit i k b u t) (hc : CntKept is s u)
    (hon : u.rdW Reg.PW_ON = s.rdW Reg.PW_ON) (hi : i < 1024) (hn : i ∉ is) (hm : ∀ m < 32, i ≠ 289 + 4 * m) : OccurredBit i k b s t :=
  h.before hon (hc i hi hn hm)

theorem execSupplyShed_completes {s : State} {dly : Nat} (hdly : dly = s.fld Reg.PW_SUP_CFG F.PW_SUP_CFG_SHED_DLY)
    (hw : s.flag Reg.PW_SUP_STAT F.PW_SUP_STAT_WARN = true) (h0 : dly ≠ 0) (hat : s.pw.warnAt + 25 * dly ≤ s.aon)
    (hs : s.flag Reg.PW_SUP_STAT F.PW_SUP_STAT_SHED = false) (hm : 4 ≤ s.mode) (hq : s.mode ≠ 0xC) :
    Completes .supplyShed s fun t => t.flag Reg.PW_SUP_STAT F.PW_SUP_STAT_SHED = true ∧ OccurredBit 614 Reg.PW_STEVENT 2 s t ∧
      (∀ g < 12, (t.shedMap F.PW_SHED_STAT_SUP_SHED).testBit g = s.sheddable g) ∧
      (∀ g < 12, s.sheddable g = true → t.forcedMap.testBit (domL g) = true ∧ t.forcedMap.testBit (domC (s.groupUnit g)) = true) := by
  obtain ⟨gs, hgs⟩ : ∃ gs, gs = (List.range 12).filter fun g => s.sheddable g := ⟨_, rfl⟩
  have hlt : ∀ g ∈ gs, g < 12 := by
    intro g hg
    rw [hgs] at hg
    exact List.mem_range.1 (List.mem_of_mem_filter hg)
  obtain ⟨u, hu⟩ : ∃ u, u = s.forceOffs (gs.flatMap fun g => s.groupDoms g) := ⟨_, rfl⟩
  obtain ⟨v, hv⟩ : ∃ v, v = (u.setFld Reg.PW_SHED_STAT F.PW_SHED_STAT_SUP_SHED (domMap gs)).setFld Reg.PW_SUP_STAT F.PW_SUP_STAT_SHED 1 :=
    ⟨_, rfl⟩
  have hexec : exec .supplyShed s = .next (v.evSt 14) := by
    show execSupplyShed s = _
    unfold execSupplyShed
    rw [← hdly]
    refine (if_pos ⟨hw, h0, hat, hs, hm, hq⟩).trans ?_
    rw [hv, hu, hgs]
  have hku : RegsKeptEv [Reg.PW_FORCED, Reg.PW_EVENT] s u := hu ▸ s.forceOffs_kept _
  have hcu : CntKept [550] s u := hu ▸ s.forceOffs_cnt _
  have hkv : RegsKept [Reg.PW_SHED_STAT, Reg.PW_SUP_STAT] u v := by
    rw [hv]
    exact (RegsKept.setFld _ _ _ (by decide)).trans (RegsKept.setFld _ _ _ (by decide))
  have hforced : v.forcedMap = u.forcedMap := by rw [State.forcedMap, hkv _ (by decide), State.forcedMap]
  have hend : (v.evSt 14).forcedMap = v.forcedMap := by
    rw [State.forcedMap, State.evSt_kept _ (by decide) _ (by decide) (by decide), State.forcedMap]
  refine .intro hexec ⟨?_, ?_, fun g hg => ?_, fun g hg hshed => ?_⟩
  · rw [State.flag, State.fld_hw _ _ rfl, State.evSt_kept _ (by decide) _ (by decide) (by decide), ← State.fld_hw _ _ rfl, hv,
      State.fld_setFld _ _ _ _ (by decide)]
    rfl
  · refine CntKept.occurredBit (State.occurredBit v (by decide) (by decide) (by decide) none (by decide) (by decide))
      (hcu.trans (.of_kept _ hkv (by decide))) ?_ (by decide) (by decide) (by decide)
    rw [hkv _ (by decide), hku _ (by decide) (by decide)]
  · rw [State.shedMap, State.fld_hw _ _ rfl, State.evSt_kept _ (by decide) _ (by decide) (by decide), hv,
      State.rdW_setFld_other _ _ _ (by decide), ← State.fld_hw _ _ rfl, State.fld_setFld _ _ _ _ (by decide),
      Nat.testBit_mod_two_pow, testBit_domMap, hgs]
    simp [show g < F.PW_SHED_STAT_SUP_SHED.wid from hg, hg]
  · rw [hend, hforced, hu]
    exact State.forced_groupDoms s s hlt (by rw [hgs]; exact List.mem_filter.2 ⟨List.mem_range.2 hg, hshed⟩)

theorem State.tryRun_run {s : State} (hm : s.mode = 6) (hd : (s.dip 0).isNone = true)
    (hc : s.pw.coreOk.all (fun a => decide (a + 2500 ≤ s.aon)) = true)
    (hl : s.fld Reg.PW_THERM_STAT F.PW_THERM_STAT_LEVEL < 2) (ht : s.shedMap F.PW_SHED_STAT_TH_SHED = 0)
    (hs : s.shedMap F.PW_SHED_STAT_SUP_SHED = 0) : s.tryRun.mode = 5 := by
  rw [State.tryRun, if_pos ⟨hm, hd, hc, hl, ht, hs⟩, State.mode_setMode _ _ (by decide)]

theorem execSupplyReturn_completes {s : State} (hd : (s.dip 0).isNone = true)
    (hc : s.pw.coreOk.all (fun a => decide (a + 2500 ≤ s.aon)) = true) :
    Completes .supplyReturn s fun t => t.shedMap F.PW_SHED_STAT_SUP_SHED = 0 ∧
      t.flag Reg.PW_SUP_STAT F.PW_SUP_STAT_SHED = false ∧
      (s.flag Reg.PW_SUP_STAT F.PW_SUP_STAT_SHED = true → OccurredBit 615 Reg.PW_STEVENT 3 s t) ∧
      (∀ g < 12, (s.shedMap F.PW_SHED_STAT_SUP_SHED).testBit g = true → (s.shedMap F.PW_SHED_STAT_TH_SHED).testBit g = false →
        s.mode ≠ 0xC → t.forcedMap.testBit (domL g) = false) ∧
      (s.mode = 6 → s.fld Reg.PW_THERM_STAT F.PW_THERM_STAT_LEVEL < 2 → s.shedMap F.PW_SHED_STAT_TH_SHED = 0 → t.mode = 5) := by
  obtain ⟨gs, hgs⟩ : ∃ gs, gs = (setBits 12 (s.shedMap F.PW_SHED_STAT_SUP_SHED)).filter
      fun g => !(s.shedMap F.PW_SHED_STAT_TH_SHED).testBit g := ⟨_, rfl⟩
  have hlt : ∀ g ∈ gs, g < 12 := by
    intro g hg
    rw [hgs] at hg
    exact List.mem_range.1 (List.mem_of_mem_filter (List.mem_of_mem_filter hg))
  obtain ⟨u, hu⟩ : ∃ u, u = s.setFld Reg.PW_SHED_STAT F.PW_SHED_STAT_SUP_SHED 0 := ⟨_, rfl⟩
  obtain ⟨v, hv⟩ : ∃ v, v = u.forceLifts (gs.flatMap fun g => s.groupDoms g) := ⟨_, rfl⟩
  obtain ⟨w, hw⟩ : ∃ w, w = if s.flag Reg.PW_SUP_STAT F.PW_SUP_STAT_SHED then (v.setFld Reg.PW_SUP_STAT F.PW_SUP_STAT_SHED 0).evSt 15
    else v := ⟨_, rfl⟩
  have hexec : exec .supplyReturn s = .next w.tryRun := by
    show execSupplyReturn s = _
    unfold execSupplyReturn
    refine (if_pos ⟨hd, hc⟩).trans ?_
    rw [hw, hv, hu, hgs]
  have hku : RegsKept [Reg.PW_SHED_STAT] s u := hu ▸ .setFld _ _ _ (by decide)
  have hkv : RegsKeptEv [Reg.PW_FORCED, Reg.PW_EVENT] u v := hv ▸ u.forceLifts_kept _
  have hcv : CntKept [551] u v := hv ▸ u.forceLifts_cnt _
  have hkw : RegsKeptEv [Reg.PW_SUP_STAT, Reg.PW_STEVENT] v w := by
    rw [hw]
    exact .ite ((RegsKeptEv.setFld _ _ _ _ (by simp)).trans ((State.evSt_kept _ (by decide)).mono (by simp))) (.refl _ _)
  have hpv : v.pw = s.pw ∧ v.aon = s.aon := by
    rw [hv, hu]
    exact ⟨((State.forceLifts_in ..).same .pw rfl).trans (State.setFld_pw ..),
      ((State.forceLifts_in ..).same .aon rfl).trans (State.setFld_aon ..)⟩
  have hpw : w.pw = v.pw ∧ w.aon = v.aon := by
    rw [hw]
    split
    · exact ⟨(State.evSt_pw ..).trans (State.setFld_pw ..), ((State.evSt_in ..).same .aon rfl).trans (State.setFld_aon ..)⟩
    · exact ⟨rfl, rfl⟩
  rw [hpv.1, hpv.2] at hpw
  have hkt := w.tryRun_kept
  have hsup : w.shedMap F.PW_SHED_STAT_SUP_SHED = 0 := by
    rw [State.shedMap, State.fld_hw _ _ rfl, hkw _ (by decide) (by decide), hkv _ (by decide) (by decide), hu, ← State.fld_hw _ _ rfl,
      State.fld_setFld _ _ _ _ (by decide)]
    rfl
  refine .intro hexec ⟨?_, ?_, fun hshed => ?_, fun g hg hsg htg hq => ?_, fun hm hl ht => ?_⟩
  · rw [State.shedMap, State.fld_hw _ _ rfl, hkt _ (by decide) (by decide), ← State.fld_hw _ _ rfl]
    exact hsup
  · rw [State.flag, State.fld_hw _ _ rfl, hkt _ (by decide) (by decide), ← State.fld_hw _ _ rfl, hw]
    split
    · rw [State.fld_hw _ _ rfl, State.evSt_kept _ (by decide) _ (by decide) (by decide), ← State.fld_hw _ _ rfl,
        State.fld_setFld _ _ _ _ (by decide)]
      rfl
    next h =>
      rw [State.fld_hw _ _ rfl, hkv _ (by decide) (by decide), hku _ (by decide), ← State.fld_hw _ _ rfl]
      exact eq_false_of_ne_true h
  · have hcnt : CntKept [551] s (v.setFld Reg.PW_SUP_STAT F.PW_SUP_STAT_SHED 0) :=
      (CntKept.of_kept _ hku (by decide)).trans (hcv.trans (.of_kept _ (.setFld _ _ _ (List.mem_singleton_self _)) (by decide)))
    have hon : (v.setFld Reg.PW_SUP_STAT F.PW_SUP_STAT_SHED 0).rdW Reg.PW_ON = s.rdW Reg.PW_ON := by
      rw [State.rdW_setFld_other _ _ _ (by decide), hkv _ (by decide) (by decide), hku _ (by decide)]
    rw [if_pos hshed] at hw
    rw [hw]
    exact (CntKept.occurredBit (State.occurredBit _ (by decide) (by decide) (by decide) none (by decide) (by decide)) hcnt hon (by decide)
      (by decide) (by decide)).after (fun hb => by rwa [State.tryRun_kept _ _ (by decide) (by decide)])
      (State.tryRun_cnt _ _ (by decide) (by decide) (by decide))
  · rw [State.forcedMap, hkt _ (by decide) (by decide), hkw _ (by decide) (by decide), ← State.forcedMap, hv,
      State.forceLifts_forced (s.flatMap_groupDoms_lt hlt) _ _ (by rwa [State.mode_eq_of_rdW (hku _ (by decide))])]
    have hmem : domL g ∈ gs.flatMap fun g => s.groupDoms g := by
      refine List.mem_flatMap.2 ⟨g, ?_, List.mem_cons_self ..⟩
      rw [hgs]
      exact List.mem_filter.2 ⟨List.mem_filter.2 ⟨List.mem_range.2 hg, hsg⟩, by rw [htg]; rfl⟩
    rw [decide_eq_true hmem, Bool.not_true, Bool.false_and]
  · have hmode : w.mode = 6 := by
      rw [State.mode_eq_of_rdW (hkw _ (by decide) (by decide)), State.mode_eq_of_rdW (hkv _ (by decide) (by decide)),
        State.mode_eq_of_rdW (hku _ (by decide)), hm]
    refine State.tryRun_run hmode ?_ ?_ ?_ ?_ hsup
    · rw [State.dip, hpw.1]
      exact hd
    · rw [hpw.1, hpw.2]
      exact hc
    · rw [State.fld_hw _ _ rfl, hkw _ (by decide) (by decide), hkv _ (by decide) (by decide), hku _ (by decide), ← State.fld_hw _ _ rfl]
      exact hl
    · rw [State.shedMap, State.fld_hw _ _ rfl, hkw _ (by decide) (by decide), hkv _ (by decide) (by decide), hu,
        ← State.fld_hw _ _ rfl, State.fld_setFld_other _ _ _ _ _ (by decide)]
      exact ht

end Sys2Proof.Machine
end

section
/-! SUPPORT. The readings of a thermal conversion (O54, fourth part). -/

namespace Sys2Proof.Machine

set_option Elab.async false

/-! ## The valid readings of a conversion (R474, R475) -/

/-- A sensor is among the valid readings where its byte is not 0x80. -/
theorem goodTemps_any (j : Nat) : ∀ (bs : List Byte) (i : Nat),
    (goodTemps i bs).all (fun t => t.1 != j) = !(decide (i ≤ j) && decide (j < i + bs.length) && (leAt bs (j - i) 1 != 0x80))
  | [], i => by simp [goodTemps, leAt, leNat]; omega
  | b :: bs, i => by
    have ih := goodTemps_any j bs (i + 1)
    have hlater : i ≠ j → leAt (b :: bs) (j - i) 1 = leAt bs (j - (i + 1)) 1 ∨ j < i := fun hij => by
      by_cases h : j < i
      · exact .inr h
      · left
        rw [leAt, leAt, show j - i = j - (i + 1) + 1 by omega, List.drop_succ_cons]
    have hnow : i = j → leAt (b :: bs) (j - i) 1 = b.toNat := fun hij => by
      rw [hij, Nat.sub_self]
      simp [leAt, leNat]
    by_cases hij : i = j
    · have h1 : decide (i + 1 ≤ j) = false := decide_eq_false (by omega)
      rw [h1, Bool.false_and, Bool.false_and, Bool.not_false] at ih
      rw [goodTemps, hnow hij]
      by_cases hb : b.toNat = 0x80
      · rw [if_pos hb, ih, hb]
        simp
      · rw [if_neg hb, List.all_cons]
        simp [hij, hb]
    · have hrest : (decide (i ≤ j) && decide (j < i + (b :: bs).length) && (leAt (b :: bs) (j - i) 1 != 0x80)) =
          (decide (i + 1 ≤ j) && decide (j < i + 1 + bs.length) && (leAt bs (j - (i + 1)) 1 != 0x80)) := by
        rcases hlater hij with h | h
        · rw [h, List.length_cons]
          congr 2
          · exact decide_eq_decide.2 (by omega)
          · exact decide_eq_decide.2 (by omega)
        · rw [decide_eq_false (show ¬ i ≤ j by omega), decide_eq_false (show ¬ i + 1 ≤ j by omega)]
          rfl
      rw [goodTemps, hrest, ← ih]
      split
      · rfl
      · rw [List.all_cons, bne_iff_ne.2 hij, Bool.true_and]

/-- The sensors of the valid readings are those of the list. -/
theorem goodTemps_lt : ∀ (bs : List Byte) (i : Nat), ∀ t ∈ goodTemps i bs, t.1 < i + bs.length
  | [], _, t, ht => absurd ht List.not_mem_nil
  | b :: bs, i, t, ht => by
    have ih := goodTemps_lt bs (i + 1)
    rw [goodTemps] at ht
    rw [List.length_cons]
    split at ht
    · have := ih t ht
      omega
    · rcases List.mem_cons.1 ht with rfl | ht
      · show i < _
        omega
      · have := ih t ht
        omega

theorem hottest_lt {n : Nat} (hn : 0 < n) : ∀ l : List (Nat × Int), (∀ t ∈ l, t.1 < n) → (hottest l).1 < n
  | [], _ => hn
  | [_], h => h _ (.head _)
  | x :: y :: l, h => by
    have ih := hottest_lt hn (y :: l) fun t ht => h t (.tail _ ht)
    show (if (hottest (y :: l)).2 ≤ x.2 then x else hottest (y :: l)).1 < n
    split
    · exact h x (.head _)
    · exact ih

/-- The faulty sensors as bits. -/
def faultMap (temps : List (Nat × Int)) : Nat := domMap ((List.range 16).filter fun i => temps.all fun t => t.1 != i)

theorem faultMap_lt (temps : List (Nat × Int)) : faultMap temps < 2 ^ 16 :=
  domMap_lt fun _ hg => List.mem_range.1 (List.mem_of_mem_filter hg)

theorem testBit_faultMap {bs : List Byte} (h : bs.length = 16) {i : Nat} (hi : i < 16) :
    (faultMap (goodTemps 0 bs)).testBit i = (leAt bs i 1 == 0x80) := by
  rw [faultMap, testBit_domMap]
  have hall := goodTemps_any i bs 0
  rw [h, decide_eq_true (Nat.zero_le i), decide_eq_true (show i < 0 + 16 by omega), Bool.and_self, Bool.true_and, Nat.sub_zero] at hall
  by_cases hb : leAt bs i 1 = 0x80
  · simp [hi, hall, hb]
  · simp [hall, hb]

/-! ## The words that show the readings (R474) -/

theorem State.wrTemps_rdW (n : Nat) : ∀ (bs : List Byte) (s : State) (k : Nat), bs.length = 4 * n →
    (∀ j < n, (s.wrTemps k bs).rdW (Reg.PW_TEMP (k + j)) = BitVec.ofNat 64 (leAt bs (4 * j) 4)) ∧
      ∀ r, (∀ j < n, r ≠ Reg.PW_TEMP (k + j)) → (s.wrTemps k bs).rdW r = s.rdW r := by
  induction n with
  | zero =>
    intro bs s k h
    rw [List.eq_nil_of_length_eq_zero h]
    exact ⟨fun j hj => absurd hj (Nat.not_lt_zero j), fun _ _ => rfl⟩
  | succ n ih =>
    intro bs s k h
    match bs, h with
    | a :: b :: c :: d :: bs, h =>
      obtain ⟨hshown, hother⟩ := ih bs (s.wrW (Reg.PW_TEMP k) (BitVec.ofNat 64 (leNat [a, b, c, d]))) (k + 1)
        (by simp only [List.length_cons] at h; omega)
      rw [State.wrTemps]
      refine ⟨fun j hj => ?_, fun r hr => ?_⟩
      · cases j with
        | zero =>
          rw [hother _ fun j _ => by simp only [Reg.PW_TEMP]; omega]
          exact State.rdW_wrW_same ..
        | succ j =>
          rw [show k + (j + 1) = k + 1 + j by omega, hshown j (by omega)]
          rfl
      · rw [hother _ fun j hj => by rw [show k + 1 + j = k + (j + 1) by omega]; exact hr (j + 1) (by omega),
          State.rdW_wrW_other _ _ (show r ≠ Reg.PW_TEMP k from hr 0 (by omega))]

end Sys2Proof.Machine
end

section
/-! SUPPORT. The parts of a thermal conversion (O54, fifth part). -/

namespace Sys2Proof.Machine

set_option Elab.async false

/-! ## What a conversion reads and tells before it acts (R474, R475) -/

/-- The readings, the faulty sensors and the hottest one stand in the registers. -/
def State.sensed (s : State) (bs : List Byte) : State :=
  (((s.wrTemps 0 bs).setFld Reg.PW_THERM_STAT F.PW_THERM_STAT_FAULT (faultMap (goodTemps 0 bs))).setFld Reg.PW_THERM_STAT
    F.PW_THERM_STAT_MAX_T (uInt 8 (hottest (goodTemps 0 bs)).2)).setFld Reg.PW_THERM_STAT F.PW_THERM_STAT_HOT
    (hottest (goodTemps 0 bs)).1

/-- Sensors newly faulty are told. -/
def State.toldFault (s : State) (new : Nat) : State := if new ≠ 0 then s.evSt 21 else s

/-- A reading below the ordering range is told once. -/
def State.toldCold (s : State) (low : Bool) : State :=
  if low ∧ s.pw.cold = false then (s.updPw fun p => { p with cold := true }).evSt 20
  else if !low then s.updPw fun p => { p with cold := false } else s

/-- The thermal warning is told once. -/
def State.toldWarm (s : State) (warm cool : Bool) : State :=
  if warm ∧ s.pw.warm = false then (s.updPw fun p => { p with warm := true }).evSt 17
  else if cool then s.updPw fun p => { p with warm := false } else s

/-- The state in which a conversion's level is decided. -/
def State.thermRead (s : State) (bs : List Byte) : State :=
  let temps := goodTemps 0 bs
  let k := Reg.PW_THERM_STAT
  let u := (s.sensed bs).toldFault (faultMap temps - (faultMap temps &&& s.fld k F.PW_THERM_STAT_FAULT))
  (u.toldCold (temps.any fun t => decide (t.2 < u.sec.fuses.lowTemp))).toldWarm (temps.any fun t => decide (100 ≤ t.2))
    (temps.all fun t => decide (t.2 < 97))

section
variable (s : State)

/-- What one of these steps leaves: the registers but PW_STEVENT and the power controller's part but its two warnings. -/
structure ThermTold (s t : State) : Prop where
  regs : RegsKeptEv [Reg.PW_STEVENT] s t
  gen : t.gen = s.gen
  aon : t.aon = s.aon
  rs : t.rs = s.rs
  restore : t.pw.restore = s.pw.restore
  convAt : t.pw.convAt = s.pw.convAt

theorem ThermTold.refl (s : State) : ThermTold s s := ⟨.refl _ _, rfl, rfl, rfl, rfl, rfl⟩

theorem ThermTold.trans {s t u : State} (h : ThermTold s t) (h' : ThermTold t u) : ThermTold s u :=
  ⟨h.regs.trans h'.regs, h'.gen.trans h.gen, h'.aon.trans h.aon, h'.rs.trans h.rs, h'.restore.trans h.restore, h'.convAt.trans h.convAt⟩

theorem ThermTold.evSt (s : State) {e : Nat} (he : e < 400) : ThermTold s (s.evSt e) :=
  ⟨State.evSt_kept s he, (State.evSt_in ..).same .gen rfl, (State.evSt_in ..).same .aon rfl, (State.evSt_in ..).same .rs rfl,
    congrArg PwRt.restore (State.evSt_pw s e), congrArg PwRt.convAt (State.evSt_pw s e)⟩

theorem State.toldFault_told (new : Nat) : ThermTold s (s.toldFault new) := by
  unfold State.toldFault
  split
  · exact .evSt _ (by decide)
  · exact .refl _

theorem State.toldCold_told (low : Bool) : ThermTold s (s.toldCold low) := by
  unfold State.toldCold
  split
  · exact ThermTold.trans (t := s.updPw _) ⟨.of_regs _ rfl, rfl, rfl, rfl, rfl, rfl⟩ (ThermTold.evSt _ (by decide))
  · split
    · exact ⟨.of_regs _ rfl, rfl, rfl, rfl, rfl, rfl⟩
    · exact .refl _

theorem State.toldWarm_told (warm cool : Bool) : ThermTold s (s.toldWarm warm cool) := by
  unfold State.toldWarm
  split
  · exact ThermTold.trans (t := s.updPw _) ⟨.of_regs _ rfl, rfl, rfl, rfl, rfl, rfl⟩ (ThermTold.evSt _ (by decide))
  · split
    · exact ⟨.of_regs _ rfl, rfl, rfl, rfl, rfl, rfl⟩
    · exact .refl _

theorem State.thermRead_told (bs : List Byte) : ThermTold (s.sensed bs) (s.thermRead bs) :=
  (State.toldFault_told _ _).trans ((State.toldCold_told _ _).trans (State.toldWarm_told _ _ _))

/-- The registers that a conversion's readings stand in. -/
def tempRegs : List Nat := [Reg.PW_THERM_STAT, Reg.PW_TEMP 0, Reg.PW_TEMP 1, Reg.PW_TEMP 2, Reg.PW_TEMP 3]

theorem State.sensed_kept {bs : List Byte} (h : bs.length = 16) : RegsKept tempRegs s (s.sensed bs) := by
  intro k hk
  simp only [tempRegs, List.mem_cons, List.not_mem_nil, or_false, not_or] at hk
  obtain ⟨h0, h1, h2, h3, h4⟩ := hk
  rw [State.sensed, State.rdW_setFld_other _ _ _ h0, State.rdW_setFld_other _ _ _ h0, State.rdW_setFld_other _ _ _ h0]
  refine (s.wrTemps_rdW 4 bs 0 h).2 k fun j hj => ?_
  rw [Nat.zero_add]
  interval_cases j <;> assumption

theorem State.sensed_same (bs : List Byte) : (s.sensed bs).gen = s.gen ∧ (s.sensed bs).aon = s.aon ∧ (s.sensed bs).rs = s.rs ∧
    (s.sensed bs).pw = s.pw := by
  unfold State.sensed
  simp only [State.setFld_aon, State.setFld_rs, State.setFld_pw, State.setFld_gen]
  exact ⟨(State.wrTemps_in s 0 bs).same .gen rfl, (State.wrTemps_in s 0 bs).same .aon rfl, (State.wrTemps_in s 0 bs).same .rs rfl, (State.wrTemps_in s 0 bs).same .pw rfl⟩

theorem State.sensed_shown {bs : List Byte} (h : bs.length = 16) :
    (∀ k < 4, (s.sensed bs).rdW (Reg.PW_TEMP k) = BitVec.ofNat 64 (leAt bs (4 * k) 4)) ∧
      (s.sensed bs).fld Reg.PW_THERM_STAT F.PW_THERM_STAT_FAULT = faultMap (goodTemps 0 bs) ∧
      (s.sensed bs).fld Reg.PW_THERM_STAT F.PW_THERM_STAT_HOT = (hottest (goodTemps 0 bs)).1 ∧
      (s.sensed bs).fld Reg.PW_THERM_STAT F.PW_THERM_STAT_MAX_T = uInt 8 (hottest (goodTemps 0 bs)).2 := by
  have hhot : (hottest (goodTemps 0 bs)).1 < 2 ^ 4 :=
    hottest_lt (by decide) _ fun t ht => by have := goodTemps_lt bs 0 t ht; omega
  refine ⟨fun k hk => ?_, ?_, ?_, ?_⟩
  · have hne : Reg.PW_TEMP k ≠ Reg.PW_THERM_STAT := by simp only [Reg.PW_TEMP, Reg.PW_THERM_STAT]; omega
    rw [State.sensed, State.rdW_setFld_other _ _ _ hne, State.rdW_setFld_other _ _ _ hne, State.rdW_setFld_other _ _ _ hne]
    have := (s.wrTemps_rdW 4 bs 0 h).1 k hk
    rwa [Nat.zero_add] at this
  · rw [State.sensed, State.fld_setFld_other _ _ _ _ _ (by decide), State.fld_setFld_other _ _ _ _ _ (by decide),
      State.fld_setFld _ _ _ _ (by decide)]
    exact Nat.mod_eq_of_lt (faultMap_lt _)
  · rw [State.sensed, State.fld_setFld _ _ _ _ (by decide)]
    exact Nat.mod_eq_of_lt hhot
  · rw [State.sensed, State.fld_setFld_other _ _ _ _ _ (by decide), State.fld_setFld _ _ _ _ (by decide)]
    exact Nat.mod_eq_of_lt (uInt_lt 8 _)

end

/-! ## What a conversion does after it (R475 to R478) -/

/-- The level of a conversion without a trip, and the groups that it sheds. -/
def State.thermLevel (s : State) (temps : List (Nat × Int)) : State :=
  let k := Reg.PW_THERM_STAT
  s.setFld k F.PW_THERM_STAT_LEVEL (if decide (s.mode = 0xC) && s.fld k F.PW_THERM_STAT_LEVEL == 3 then 3
    else if temps.any (fun t => decide (110 ≤ t.2)) then 2 else if s.pw.warm then 1 else 0)

/-- The groups that a conversion sheds now. -/
def State.hotShed (s : State) (temps : List (Nat × Int)) : List Nat :=
  (hotGroups temps).filter fun g => s.sheddable g && !(s.shedMap F.PW_SHED_STAT_TH_SHED).testBit g

/-- They are shed, before Ready none. -/
def State.shedHot (s : State) (gs : List Nat) : State := if gs = [] ∨ s.mode < 4 then s else (s.thShed gs).evSt 18

theorem State.thermal_eq (s : State) (bs : List Byte) : s.thermal bs =
    if (goodTemps 0 bs).any (fun t => decide (120 ≤ t.2)) then
      ((s.thermRead bs).setFld Reg.PW_THERM_STAT F.PW_THERM_STAT_LEVEL 3).enterQuarantine 0x15 9 (hottest (goodTemps 0 bs)).1
    else if (s.thermRead bs).mode = 3 ∧ (goodTemps 0 bs).any (fun t => decide (110 ≤ t.2)) then
      ((s.thermRead bs).setFld Reg.PW_THERM_STAT F.PW_THERM_STAT_LEVEL 2).enterQuarantine 0x06 0xB (hottest (goodTemps 0 bs)).1
    else
      ((((((s.thermRead bs).thermLevel (goodTemps 0 bs)).shedHot (((s.thermRead bs).thermLevel (goodTemps 0 bs)).hotShed (goodTemps 0 bs)))).shedCheck).restores
        (goodTemps 0 bs)).tryRun := rfl

end Sys2Proof.Machine
end

section
/-! SUPPORT. A thermal conversion without a trip (O54, sixth part). -/

namespace Sys2Proof.Machine

set_option Elab.async false

/-! ## A conversion without a trip (R475 to R478) -/

section
variable (s : State)

theorem State.forceOffs_pw (ds : List Nat) : ∀ s : State, (s.forceOffs ds).pw.restore = s.pw.restore ∧
    (s.forceOffs ds).pw.convAt = s.pw.convAt := by
  induction ds with
  | nil => exact fun s => ⟨rfl, rfl⟩
  | cons d ds ih =>
    intro s
    have hev : ((s.wrW Reg.PW_FORCED (BitVec.ofNat 64 (putBit s.forcedMap d true))).evPw 6).pw = s.pw :=
      (State.evPw_in ..).same .pw rfl
    have hone : (s.forceOff d).pw.restore = s.pw.restore ∧ (s.forceOff d).pw.convAt = s.pw.convAt := by
      unfold State.forceOff
      dsimp only
      split
      · exact ⟨rfl, rfl⟩
      · split <;> simp only [State.updPw_pw, hev, and_self]
    exact ⟨(ih _).1.trans hone.1, (ih _).2.trans hone.2⟩

theorem State.thShed_kept (gs : List Nat) : RegsKeptEv [Reg.PW_SHED_STAT, Reg.PW_FORCED, Reg.PW_EVENT] s (s.thShed gs) :=
  ((State.forceOffs_kept _ s).mono (by simp)).trans (.setFld _ _ _ _ (by simp))

theorem State.shedHot_kept (gs : List Nat) :
    RegsKeptEv [Reg.PW_SHED_STAT, Reg.PW_FORCED, Reg.PW_EVENT, Reg.PW_STEVENT] s (s.shedHot gs) := by
  unfold State.shedHot
  exact .ite (.refl _ _) (((s.thShed_kept gs).mono (by simp)).trans ((State.evSt_kept _ (by decide)).mono (by simp)))

theorem State.shedHot_pw (gs : List Nat) : (s.shedHot gs).pw.restore = s.pw.restore ∧ (s.shedHot gs).pw.convAt = s.pw.convAt := by
  unfold State.shedHot
  split
  · exact ⟨rfl, rfl⟩
  · rw [State.evSt_pw, State.thShed, State.setFld_pw]
    exact State.forceOffs_pw _ s

theorem State.restores_kept (temps : List (Nat × Int)) :
    RegsKeptEv [Reg.PW_SHED_STAT, Reg.PW_FORCED, Reg.PW_EVENT, Reg.PW_STEVENT] s (s.restores temps) := by
  unfold State.restores
  extract_lets gs u sup left
  have hu : RegsKeptEv [Reg.PW_SHED_STAT, Reg.PW_FORCED, Reg.PW_EVENT, Reg.PW_STEVENT] s u := .of_regs _ rfl
  split
  · exact hu
  · split
    · exact hu.trans ((RegsKeptEv.setFld _ _ _ _ (by simp)).trans ((State.forceLifts_kept _ _).mono (by simp)))
    · refine hu.trans (RegsKeptEv.trans (t := u.setW1c Reg.PW_SHED_STAT F.PW_SHED_STAT_REST_REFUSED) (fun k hk _ => ?_)
        ((State.evSt_kept _ (by decide)).mono (by simp)))
      exact State.rdW_setW1c_other _ _ (fun h => hk (h ▸ List.mem_cons_self ..))

theorem State.restores_convAt (temps : List (Nat × Int)) : (s.restores temps).pw.convAt = s.pw.convAt := by
  unfold State.restores
  extract_lets gs u sup left
  split
  · rfl
  · split
    · exact congrArg PwRt.convAt (a₂ := u.pw) (((State.forceLifts_in ..).same .pw rfl).trans (State.setFld_pw ..))
    · exact congrArg PwRt.convAt (a₂ := u.pw) ((State.evSt_pw ..).trans ((State.setW1c_in ..).same .pw rfl))

theorem State.restores_none {s : State} (h : s.pw.restore = 0) (temps : List (Nat × Int)) :
    s.restores temps = s.updPw fun p => { p with restore := 0 } := by
  have hgs : setBits 12 (s.pw.restore &&& s.shedMap F.PW_SHED_STAT_TH_SHED) = [] := by
    rw [h, Nat.zero_and]
    rfl
  unfold State.restores
  rw [hgs]
  exact if_pos rfl

theorem State.tryRun_pw : s.tryRun.pw = s.pw := (State.tryRun_in ..).same .pw rfl

theorem State.sheddable_of_gen {s t : State} (hg : t.gen = s.gen) (g : Nat) : t.sheddable g = s.sheddable g := by
  have hf : ∀ (k : Nat) (f : Fld), f.rwg = true → t.flag k f = s.flag k f := fun k f h => by
    rw [State.flag, State.fld_of_gen hg k h, ← State.flag]
  simp only [State.sheddable, State.groupPorts, hf _ F.AL_CTRL_EN rfl, hf _ F.AL_CTRL_SHEDDABLE rfl]

theorem hotGroups_lt {temps : List (Nat × Int)} : ∀ g ∈ hotGroups temps, g < 12 := by
  unfold hotGroups
  intro g hg
  split at hg
  · exact List.mem_range.1 hg
  · exact List.mem_range.1 (List.mem_of_mem_filter hg)

/-- A group that is shed stands in TH_SHED with its domain forced off; one that stood there stays. -/
theorem State.shedHot_shed {gs : List Nat} (hlt : ∀ g ∈ gs, g < 12) (hm : 4 ≤ s.mode) {g : Nat} :
    (g ∈ gs → ((s.shedHot gs).shedMap F.PW_SHED_STAT_TH_SHED).testBit g = true ∧ (s.shedHot gs).forcedMap.testBit (domL g) = true) ∧
      ((s.shedMap F.PW_SHED_STAT_TH_SHED).testBit g = true → ((s.shedHot gs).shedMap F.PW_SHED_STAT_TH_SHED).testBit g = true) := by
  by_cases hgs : gs = []
  · rw [State.shedHot, if_pos (.inl hgs), hgs]
    exact ⟨fun h => absurd h List.not_mem_nil, id⟩
  · have heq : s.shedHot gs = (s.thShed gs).evSt 18 := if_neg fun h => h.elim hgs (by omega)
    have hmap : (s.shedHot gs).shedMap F.PW_SHED_STAT_TH_SHED =
        (s.shedMap F.PW_SHED_STAT_TH_SHED ||| domMap gs) % 2 ^ 12 := by
      rw [heq, State.shedMap, State.fld_hw _ _ rfl, State.evSt_kept _ (by decide) _ (by decide) (by decide), State.thShed,
        ← State.fld_hw _ _ rfl, State.fld_setFld _ _ _ _ (by decide), State.shedMap, State.fld_hw _ _ rfl,
        s.forceOffs_kept _ _ (by decide) (by decide), ← State.fld_hw _ _ rfl]
      rfl
    have hforced : (s.shedHot gs).forcedMap = (s.forceOffs (gs.flatMap fun g => s.groupDoms g)).forcedMap := by
      rw [heq, State.forcedMap, State.evSt_kept _ (by decide) _ (by decide) (by decide), State.thShed,
        State.rdW_setFld_other _ _ _ (by decide), State.forcedMap]
    refine ⟨fun hg => ⟨?_, ?_⟩, fun hb => ?_⟩
    · rw [hmap, Nat.testBit_mod_two_pow, Nat.testBit_or, testBit_domMap]
      simp [hg, hlt g hg]
    · rw [hforced]
      exact (State.forced_groupDoms s s hlt hg).1
    · rw [hmap, Nat.testBit_mod_two_pow, Nat.testBit_or, hb]
      have hlt' : g < 12 := by
        by_contra h
        have hz : (s.shedMap F.PW_SHED_STAT_TH_SHED).testBit g = false := Nat.testBit_lt_two_pow
          ((s.fld_lt _ F.PW_SHED_STAT_TH_SHED).trans_le (Nat.pow_le_pow_right (by decide) (Nat.le_of_not_lt h)))
        exact Bool.false_ne_true (hz.symm.trans hb)
      simp [hlt']

end

theorem execThermalConversion_shows {s : State} {ts : List Byte} (hlen : ts.length = 16) (h1 : s.on 1 = true) (h3 : s.on 3 = true)
    (hm : 4 ≤ s.mode) (hat : s.pw.convAt.all (fun a => decide (a + 500 ≤ s.aon)) = true)
    (hcool : (goodTemps 0 ts).all (fun x => decide (x.2 < 120)) = true) :
    Completes (.thermalConversion ts) s fun t => t.pw.convAt = some s.aon ∧
      (∀ k < 4, t.rdW (Reg.PW_TEMP k) = BitVec.ofNat 64 (leAt ts (4 * k) 4)) ∧
      (∀ i < 16, (t.fld Reg.PW_THERM_STAT F.PW_THERM_STAT_FAULT).testBit i = (leAt ts i 1 == 0x80)) ∧
      t.fld Reg.PW_THERM_STAT F.PW_THERM_STAT_HOT = (hottest (goodTemps 0 ts)).1 ∧
      t.fld Reg.PW_THERM_STAT F.PW_THERM_STAT_MAX_T = uInt 8 (hottest (goodTemps 0 ts)).2 ∧
      ((goodTemps 0 ts).any (fun x => decide (110 ≤ x.2)) = true → s.mode ≠ 0xC →
        t.fld Reg.PW_THERM_STAT F.PW_THERM_STAT_LEVEL = 2 ∧ (s.mode = 5 → t.mode = 6)) ∧
      (∀ g ∈ hotGroups (goodTemps 0 ts), s.sheddable g = true → s.pw.restore = 0 →
        (t.shedMap F.PW_SHED_STAT_TH_SHED).testBit g = true ∧
          ((s.shedMap F.PW_SHED_STAT_TH_SHED).testBit g = false → t.forcedMap.testBit (domL g) = true)) := by
  obtain ⟨temps, htemps⟩ : ∃ l, l = goodTemps 0 ts := ⟨_, rfl⟩
  obtain ⟨s0, hs0⟩ : ∃ x, x = s.updPw fun p => { p with convAt := some s.aon } := ⟨_, rfl⟩
  obtain ⟨u, hu⟩ : ∃ x, x = s0.thermRead ts := ⟨_, rfl⟩
  obtain ⟨v, hv⟩ : ∃ x, x = u.thermLevel temps := ⟨_, rfl⟩
  obtain ⟨w, hw⟩ : ∃ x, x = v.shedHot (v.hotShed temps) := ⟨_, rfl⟩
  obtain ⟨y, hy⟩ : ∃ x, x = w.shedCheck.restores temps := ⟨_, rfl⟩
  have hs0k : RegsKept [] s s0 := by rw [hs0]; exact .of_regs _ rfl
  have hs0p : s0.gen = s.gen ∧ s0.pw.convAt = some s.aon ∧ s0.pw.restore = s.pw.restore := by rw [hs0]; exact ⟨rfl, rfl, rfl⟩
  obtain ⟨hshown, hfault, hhot, hmax⟩ := s0.sensed_shown hlen
  obtain ⟨hsg, -, -, hsp⟩ := s0.sensed_same ts
  have hsk := s0.sensed_kept hlen
  obtain ⟨hur, hug, -, -, hurest, huconv⟩ := hu ▸ s0.thermRead_told ts
  have hku : RegsKeptEv (Reg.PW_STEVENT :: tempRegs) s u :=
    (hs0k.ev.mono (by simp)).trans ((hsk.ev.mono (by simp)).trans (hur.mono (by simp)))
  have hmu : u.mode = s.mode := State.mode_eq_of_rdW (hku _ (by decide) (by decide))
  have hkv : RegsKept [Reg.PW_THERM_STAT] u v := by rw [hv]; exact .setFld _ _ _ (List.mem_singleton_self _)
  have hmv : v.mode = s.mode := (State.mode_eq_of_rdW (hkv _ (by decide))).trans hmu
  have hvg : v.gen = s.gen := by
    rw [hv, State.thermLevel, State.setFld_gen, hug, hsg, hs0p.1]
  have hvp : v.pw = u.pw := by rw [hv]; exact State.setFld_pw ..
  have hkw := hw ▸ v.shedHot_kept (v.hotShed temps)
  have hwp := hw ▸ v.shedHot_pw (v.hotShed temps)
  have hkc := w.shedCheck_kept
  have hky := hy ▸ w.shedCheck.restores_kept temps
  have hkt := y.tryRun_kept
  have hkvt : RegsKeptEv [Reg.PW_SHED_STAT, Reg.PW_FORCED, Reg.PW_EVENT, Reg.PW_STEVENT, Reg.PW_MODE] v y.tryRun :=
    (hkw.mono (by simp)).trans ((hkc.mono (by simp)).trans ((hky.mono (by simp)).trans (hkt.mono (by simp))))
  have hstat : ∀ f : Fld, f.rwg = false → f.lo + f.wid ≤ 16 ∨ 18 ≤ f.lo →
      y.tryRun.fld Reg.PW_THERM_STAT f = (s0.sensed ts).fld Reg.PW_THERM_STAT f := by
    intro f hf hd
    rw [State.fld_hw _ _ hf, hkvt _ (by decide) (by decide), ← State.fld_hw _ _ hf, hv, State.thermLevel,
      State.fld_setFld_other _ _ _ _ _ (hd.elim .inr .inl), State.fld_hw _ _ hf, hur _ (by decide) (by decide), ← State.fld_hw _ _ hf]
  have hany : temps.any (fun t => decide (120 ≤ t.2)) = false := by
    rw [htemps]
    refine List.any_eq_false.2 fun x hx => ?_
    have := of_decide_eq_true (List.all_eq_true.1 hcool x hx)
    simp only [decide_eq_true_eq]
    omega
  have hexec : exec (.thermalConversion ts) s = .next y.tryRun := by
    show execThermalConversion ts s = _
    unfold execThermalConversion
    rw [if_pos ⟨hlen, h1, h3, hat⟩, ← hs0, State.thermal_eq, ← hu, ← htemps, hany, if_neg Bool.false_ne_true,
      if_neg (by rw [hmu]; omega), ← hv, ← hw, ← hy]
  refine .intro hexec ⟨?_, fun k hk => ?_, fun i hi => ?_, ?_, ?_, fun hshed hq => ?_, fun g hg hsg hrest => ?_⟩
  · rw [State.tryRun_pw, hy, State.restores_convAt, State.shedCheck_pw, hwp.2, hvp, huconv, hsp, hs0p.2.1]
  · rw [← hshown k hk, hkvt _ (by interval_cases k <;> decide) (by interval_cases k <;> decide), hkv _ (by interval_cases k <;> decide),
      hur _ (by interval_cases k <;> decide) (by interval_cases k <;> decide)]
  · rw [hstat _ rfl (by decide), hfault, testBit_faultMap hlen hi]
  · rw [hstat _ rfl (by decide), hhot]
  · rw [hstat _ rfl (by decide), hmax]
  · have hlev : v.fld Reg.PW_THERM_STAT F.PW_THERM_STAT_LEVEL = 2 := by
      rw [hv, State.thermLevel, State.fld_setFld _ _ _ _ (by decide), hmu, decide_eq_false hq, Bool.false_and,
        if_neg Bool.false_ne_true, htemps, if_pos hshed]
      rfl
    refine ⟨?_, fun h5 => ?_⟩
    · rw [State.fld_hw _ _ rfl, hkvt _ (by decide) (by decide), ← State.fld_hw _ _ rfl, hlev]
    · have hmw : w.mode = 5 := by rw [State.mode_eq_of_rdW (hkw _ (by decide) (by decide)), hmv, h5]
      have hlw : w.fld Reg.PW_THERM_STAT F.PW_THERM_STAT_LEVEL = 2 := by
        rw [State.fld_hw _ _ rfl, hkw _ (by decide) (by decide), ← State.fld_hw _ _ rfl, hlev]
      have hmc : w.shedCheck.mode = 6 := by
        rw [State.shedCheck, if_pos (by rw [hmw, State.shedCause, hlw]; simp), State.mode_setMode _ _ (by decide)]
      have hly : y.fld Reg.PW_THERM_STAT F.PW_THERM_STAT_LEVEL = 2 := by
        rw [State.fld_hw _ _ rfl, hky _ (by decide) (by decide), hkc _ (by decide) (by decide), ← State.fld_hw _ _ rfl, hlw]
      rw [State.tryRun, if_neg fun h => by rw [hly] at h; omega, State.mode_eq_of_rdW (hky _ (by decide) (by decide)), hmc]
  · have hyc : y = w.shedCheck.updPw fun p => { p with restore := 0 } := by
      rw [hy, State.restores_none]
      rw [State.shedCheck_pw, hwp.1, hvp, hurest, hsp, hs0p.2.2, hrest]
    have hend : ∀ k, k ≠ Reg.PW_MODE → k ≠ Reg.PW_EVENT → evKey k = false → y.tryRun.rdW k = w.rdW k := by
      intro k hk1 hk2 he
      rw [hkt _ (by simp [hk1, hk2]) he, hyc, State.updPw_rdW, hkc _ (by simp [hk1, hk2]) he]
    have hmap : y.tryRun.shedMap F.PW_SHED_STAT_TH_SHED = w.shedMap F.PW_SHED_STAT_TH_SHED := by
      rw [State.shedMap, State.fld_hw _ _ rfl, hend _ (by decide) (by decide) (by decide), ← State.fld_hw _ _ rfl, State.shedMap]
    have hforced : y.tryRun.forcedMap = w.forcedMap := by rw [State.forcedMap, hend _ (by decide) (by decide) (by decide), State.forcedMap]
    have hvs : v.shedMap F.PW_SHED_STAT_TH_SHED = s.shedMap F.PW_SHED_STAT_TH_SHED := by
      rw [State.shedMap, State.fld_hw _ _ rfl, hkv _ (by decide), hku _ (by decide) (by decide), ← State.fld_hw _ _ rfl, State.shedMap]
    have hmem : (s.shedMap F.PW_SHED_STAT_TH_SHED).testBit g = false → g ∈ v.hotShed temps := fun hb => by
      refine List.mem_filter.2 ⟨htemps ▸ hg, ?_⟩
      rw [State.sheddable_of_gen hvg, hsg, hvs, hb]
      rfl
    obtain ⟨hnew, hold⟩ := v.shedHot_shed (gs := v.hotShed temps) (fun g hg => hotGroups_lt g (List.mem_of_mem_filter hg))
      (by rw [hmv]; exact hm) (g := g)
    rw [← hw] at hnew hold
    rw [hmap, hforced]
    cases hb : (s.shedMap F.PW_SHED_STAT_TH_SHED).testBit g with
    | true => exact ⟨hold (by rw [hvs, hb]), fun h => absurd h (by simp)⟩
    | false => exact ⟨(hnew (hmem hb)).1, fun _ => (hnew (hmem hb)).2⟩

end Sys2Proof.Machine
end

section
/-! SUPPORT. Work that leaves the power, reset and security registers alone (O54, O59). -/

namespace Sys2Proof.Machine

set_option Elab.async false

/-! ## Work that leaves the power, reset and security registers alone (R45) -/

/-- No register below the TDI states changes but SEC_EVENT, whose bits stay set, and the kinds of entry that the trouble log's
queue holds stay in it. -/
structure High (s t : State) : Prop where
  low : ∀ k < 0x4100, k ≠ Reg.SEC_EVENT → t.rdW k = s.rdW k
  bits : ∀ b, (s.rdW Reg.SEC_EVENT).toNat.testBit b = true → (t.rdW Reg.SEC_EVENT).toNat.testBit b = true
  kinds : ∀ n, s.log.queue.any (fun w => w.entry.kind == n) = true → t.log.queue.any (fun w => w.entry.kind == n) = true

theorem High.refl (s : State) : High s s := ⟨fun _ _ _ => rfl, fun _ h => h, fun _ h => h⟩

theorem High.trans {s t u : State} (h : High s t) (h' : High t u) : High s u :=
  ⟨fun k hk hs => (h'.low k hk hs).trans (h.low k hk hs), fun b hb => h'.bits b (h.bits b hb), fun n hn => h'.kinds n (h.kinds n hn)⟩

theorem High.of_same {s t : State} (hr : t.regs = s.regs) (hl : t.log = s.log) : High s t :=
  ⟨fun _ _ _ => State.rdW_of_regs hr _, fun _ h => by rwa [State.rdW_of_regs hr], fun _ h => by rwa [hl]⟩

/-- A change of registers above, the log untouched. -/
theorem High.of_high {s t : State} (hr : ∀ k < 0x4100, t.rdW k = s.rdW k) (hl : t.log = s.log) : High s t :=
  ⟨fun k hk _ => hr k hk, fun _ h => by rwa [hr _ (by decide)], fun _ h => by rwa [hl]⟩

theorem High.ite {c : Prop} [Decidable c] {s t u : State} (h : High s t) (h' : High s u) : High s (if c then t else u) := by
  split <;> assumption

/-- A set bit of a register lies within its word. -/
theorem bit_lt_of_word {w : Word} {b : Nat} (h : w.toNat.testBit b = true) : b < 64 := by
  by_contra hb
  have hz : w.toNat.testBit b = false := Nat.testBit_lt_two_pow (w.isLt.trans_le (Nat.pow_le_pow_right (by decide) (Nat.le_of_not_lt hb)))
  exact Bool.false_ne_true (hz.symm.trans h)

/-- The entries of the present Tc are split off the queue's end. -/
theorem logTail_append (tc r : Nat) : ∀ q : List LogWait, (logTail tc r q).1 ++ (logTail tc r q).2 = q
  | [] => rfl
  | w :: ws => by
    have ih := logTail_append tc r ws
    rw [logTail]
    generalize logTail tc r ws = p at *
    obtain ⟨a, b⟩ := p
    dsimp only at *
    split
    next h => rw [← ih, h.1]; rfl
    next => rw [← ih]; rfl

theorem logSeqs_any (p : Nat → Bool) : ∀ (q : List LogWait) (n : Nat),
    (logSeqs n q).any (fun w => p w.entry.kind) = q.any fun w => p w.entry.kind
  | [], _ => rfl
  | w :: ws, n => by rw [logSeqs, List.any_cons, List.any_cons, logSeqs_any p ws]

section
variable (s : State)

theorem High.wrW {k : Nat} (hk : 0x4100 ≤ k) (w : Word) : High s (s.wrW k w) :=
  .of_high (fun _ hj => State.rdW_wrW_other _ _ (by omega)) rfl

theorem High.setFld {k : Nat} (hk : 0x4100 ≤ k) (f : Fld) (v : Nat) : High s (s.setFld k f v) :=
  .of_high (fun _ hj => State.rdW_setFld_other _ _ _ (by omega)) (State.setFld_log ..)

theorem High.addCnt {k : Nat} (hk : 0x4100 ≤ k) (n m : Nat) : High s (s.addCnt k n m) :=
  .of_high (fun _ hj => State.rdW_wrW_other _ _ (by omega)) rfl

theorem High.cnt {k : Nat} (hk : 0x4100 ≤ k) : High s (s.cnt k) := .addCnt _ hk _ _

theorem High.setBitsOf {k : Nat} (hk : 0x4100 ≤ k) (v : Nat) : High s (s.setBitsOf k v) :=
  .of_high (fun _ hj => State.rdW_setBitsOf_other _ _ (by omega)) rfl

/-- Bits set in SEC_EVENT itself. -/
theorem High.setBitsOf_sec (v : Nat) : High s (s.setBitsOf Reg.SEC_EVENT v) :=
  ⟨fun k _ hs => State.rdW_setBitsOf_other _ _ hs, fun b hb => by
    rw [State.rdW_setBitsOf, BitVec.toNat_ofNat, Nat.testBit_mod_two_pow, Nat.testBit_or, hb]
    simp [bit_lt_of_word hb], fun _ h => h⟩

theorem High.logPut (e : LogEntry) : High s (s.logPut e) := by
  refine ⟨fun k hk _ => State.rdW_logPut _ _ (by simp only [Reg.LOG_SEQ]; omega) (by simp only [Reg.LOG_LOST]; omega),
    fun b hb => by rwa [State.rdW_logPut _ _ (by decide) (by decide)], fun n hn => ?_⟩
  unfold State.logPut
  split
  · exact hn
  · extract_lets seq l w
    split
    · show List.any (s.log.queue ++ [l, w]) _ = true
      rw [List.any_append, hn, Bool.true_or]
    · have hq := logTail_append s.ticks (logRank e) s.log.queue
      generalize logTail s.ticks (logRank e) s.log.queue = q at *
      obtain ⟨a, b⟩ := q
      rw [← hq, List.any_append, Bool.or_eq_true] at hn
      show List.any (a ++ logSeqs _ _) _ = true
      rw [List.any_append, logSeqs_any (· == n), List.any_cons, Bool.or_eq_true, Bool.or_eq_true]
      exact hn.imp id .inr

theorem High.logKind (kind param : Nat) : High s (s.logKind kind param) := .logPut s _

theorem High.raiseActs (n i det fl : Nat) : High s (State.raiseActs n s i det fl) :=
  (High.setBitsOf s (by simp only [Reg.EV_RAISED]; omega) _).trans
    (State.raiseActs_from High .refl (fun h h' => h.trans h') (fun _ => True) (fun _ _ => trivial)
      (fun s _ _ => .setBitsOf s (by simp only [Reg.EV_RAISED]; omega) _) (fun _ _ _ => .of_same rfl rfl)
      (fun s => .setFld s (by decide) _ _) (fun s m v => .of_same ((State.signal_in s m v).same .regs rfl) ((State.signal_in s m v).same .log rfl))
      (fun s e => .logPut s e)
      (fun s m b h => .of_same ((State.recUnc_in s m b h).same .regs rfl) ((State.recUnc_in s m b h).same .log rfl))
      (fun s m b => .of_same ((State.recCor_in s m b).same .regs rfl) ((State.recCor_in s m b).same .log rfl))
      (fun s m _ => .setBitsOf s (by simp only [Reg.HL_LINK_EVENT]; omega) _)
      (fun s m _ => .cnt s (by simp only [Reg.EV_CNT]; omega)) n s i det fl)

theorem High.occur (i : Nat) : High s (s.occur i) := by
  unfold State.occur
  have hc : High s (s.cnt (Reg.EV_CNT i)) := .cnt s (by simp only [Reg.EV_CNT]; omega)
  split
  · dsimp only
    split
    · exact hc.trans (.setBitsOf _ (by simp only [Reg.EV_RAISED]; omega) _)
    · exact hc.trans (.raiseActs _ _ _ _ _)
  · exact .refl s

/-- An occurrence whose bit lies above, or in SEC_EVENT. -/
theorem High.occurBit (i : Nat) {k : Nat} (hk : 0x4100 ≤ k ∨ k = Reg.SEC_EVENT) (b : Nat) (det : Option Nat) :
    High s (s.occurBit i k b det) := by
  unfold State.occurBit
  extract_lets was x y
  have hx : High s x := by
    rcases hk with hk | rfl
    · exact (High.setBitsOf s hk _).trans (.of_same rfl rfl)
    · exact (High.setBitsOf_sec s _).trans (.of_same rfl rfl)
  have hy : High s y := hx.trans (.cnt _ (by simp only [Reg.EV_CNT]; omega))
  clear_value y x
  split
  · split
    · exact hy
    · exact hy.trans (High.trans (t := y.rose k (2 ^ b)) (.of_same rfl rfl) (.raiseActs _ _ _ _ _))
  · exact hx

theorem High.evTl (e : Nat) : High s (s.evTl e) := .occur s _
theorem High.evUm (e : Nat) : High s (s.evUm e) := .occur s _
theorem High.evTw (e : Nat) : High s (s.evTw e) := .occurBit s _ (.inl (by decide)) _ _
theorem High.evSec (e : Nat) : High s (s.evSec e) := .occurBit s _ (.inr rfl) _ _
theorem High.evHl (m e : Nat) : High s (s.evHl m e) := .occurBit s _ (.inl (by simp only [Reg.HL_LINK_EVENT]; omega)) _ _
theorem High.evAl (n e : Nat) : High s (s.evAl n e) := .occurBit s _ (.inl (by simp only [Reg.AL_EVENT]; omega)) _ _
theorem High.evDma (c : Nat) : High s (s.evDma c) := .occurBit s _ (.inl (by simp only [Reg.DMA_EVGRP]; omega)) _ _

end

end Sys2Proof.Machine
end

section
/-! SUPPORT. Channels, slices and links end and leave the power, reset and security registers alone (O54, O59). -/

namespace Sys2Proof.Machine

set_option Elab.async false

/-! ## Channels end without touching them (R217 to R222) -/

section
variable (s : State) (c : Nat)

theorem High.setCtl (f : Fld) (v : Nat) : High s (s.setFld (Reg.DMA_CTRL c) f v) := .setFld s (by simp only [Reg.DMA_CTRL]; omega) f v
theorem High.setStat (f : Fld) (v : Nat) : High s (s.setFld (Reg.DMA_STAT c) f v) := .setFld s (by simp only [Reg.DMA_STAT]; omega) f v
theorem High.updChan (f : ChanRt → ChanRt) : High s (s.updChan c f) := .of_same rfl rfl

theorem High.setCh (st : Nat) : High s (s.setCh c st) := by
  unfold State.setCh
  exact .ite (.setStat s c _ _) (.setStat s c _ _)

theorem High.toError : High s (s.toError c) := ((High.setCtl s c _ _).trans (.updChan _ c _)).trans (.setCh _ c 8)

theorem High.errCh (code : Nat) : High s (s.errCh c code) := ((High.setStat s c _ _).trans (.toError _ c)).trans (.evDma _ c)

theorem High.stopCh : High s (s.stopCh c) :=
  (((High.setCtl s c _ _).trans (.setStat _ c _ _)).trans (.updChan _ c _)).trans (.setCh _ c 0)

theorem High.chainNext (code : Nat) : High s (s.chainNext c code) := by
  unfold State.chainNext
  exact .ite (.toError s c) (.ite (.stopCh s c) (.ite (.setCh s c 0) (.ite (.errCh s c 7) (.setCh s c 5))))

theorem High.addRec (r : DmaRec) : High s (s.addRec c r) := by
  unfold State.addRec
  exact .ite ((High.updChan s c _).trans (.setStat _ c _ _)) (.updChan s c _)

theorem High.slSignal (sl v : Nat) : High s (s.slSignal sl v) := by
  unfold State.slSignal
  exact .ite (.of_same ((State.signal_in ..).same .regs rfl) ((State.signal_in ..).same .log rfl))
    (.cnt s (by simp only [Reg.SL_IRQDROP]; omega))

theorem High.dropWork : High s (s.dropWork c) := .of_same ((State.dropWork_in s c).same .regs rfl) ((State.dropWork_in s c).same .log rfl)

theorem High.retireBase (code : Nat) : High s (s.retireBase c code) := by
  unfold State.retireBase
  extract_lets r sl seq want irq body s1 k s2 s3 s4 s5 s6 s7 timed s8 s9 s10 s11 s12 s13
  have h1 : High s s1 := .wrW s (by simp only [Reg.DMA_RETIRED]; omega) _
  have h2 : High s1 s2 := .setStat s1 c _ _
  have h3 : High s2 s3 := .setStat s2 c _ _
  have h4 : High s3 s4 := .setStat s3 c _ _
  have h5 : High s4 s5 := .setStat s4 c _ _
  have h6 : High s5 s6 := .setStat s5 c _ _
  have h7 : High s6 s7 := .wrW s6 (by simp only [Reg.DMA_LATENESS]; omega) _
  have h8 : High s7 s8 := (High.dropWork s7 c).trans (.updChan _ c _)
  have h9 : High s8 s9 := by
    unfold s9
    split
    · exact .addRec s8 c _
    · cases irq with
      | some v => exact .slSignal s8 sl v
      | none => exact .refl s8
  have h10 : High s9 s10 := .ite (.setStat s9 c _ _) (.refl s9)
  have h11 : High s10 s11 := .ite (.evDma s10 c) (.refl s10)
  have h12 : High s11 s12 := .ite (.evTl s11 8) (.refl s11)
  have h13 : High s12 s13 := .ite (.evTl s12 10) (.refl s12)
  exact ((((((((((((h1.trans h2).trans h3).trans h4).trans h5).trans h6).trans h7).trans h8).trans h9).trans h10).trans h11).trans
    h12).trans h13).trans (.of_same rfl rfl)

theorem High.beginChain : High s (s.beginChain c) :=
  .of_same ((State.beginChain_in s c).same .regs rfl) ((State.beginChain_in s c).same .log rfl)

theorem High.fresh1 : High s (s.fresh1 c) := (High.setStat s c _ _).trans (.wrW _ (by simp only [Reg.DMA_PROGRESS]; omega) _)

theorem High.retireNext (code : Nat) : High s ((s.retireBase c code).chainNext c code) := (High.retireBase s c code).trans (.chainNext _ c code)

theorem High.goActive : High s (s.goActive c) := by
  unfold State.goActive
  extract_lets s1 s2 s3
  have h1 : High s s1 := .fresh1 s c
  have h2 : High s1 s2 := .setCh s1 c 1
  have h3 : High s1 s3 := (High.setCh s1 c 3).trans (.beginChain _ c)
  exact h1.trans (.ite (h2.trans (.ite (.ite (.retireNext s2 c _) (.beginChain s2 c)) (.refl s2)))
    (.ite (.retireNext s1 c _) (h3.trans (.ite (.retireNext s3 c _) (.refl s3)))))

theorem High.loadImage (im : List Byte) : High s (s.loadImage c im).1 := by
  have hw : ∀ (s : State) (k : Nat) (w : Word), 0xd00000 ≤ k → High s (s.wrW k w) := fun s k w hk => .wrW s (by omega) w
  unfold State.loadImage
  extract_lets w ctl stop s1 s2 s3 s4 s5 s6 s7 s8 s9
  have h1 : High s s1 := hw s _ _ (by simp only [Reg.DMA_SRC]; omega)
  have h2 : High s1 s2 := hw s1 _ _ (by simp only [Reg.DMA_DST]; omega)
  have h3 : High s2 s3 := hw s2 _ _ (by simp only [Reg.DMA_COUNT]; omega)
  have h4 : High s3 s4 := hw s3 _ _ (by simp only [Reg.DMA_FMT]; omega)
  have h5 : High s4 s5 := hw s4 _ _ (by simp only [Reg.DMA_RELEASE]; omega)
  have h6 : High s5 s6 := hw s5 _ _ (by simp only [Reg.DMA_NEXT]; omega)
  have h7 : High s6 s7 := hw s6 _ _ (by simp only [Reg.DMA_CTRL]; omega)
  have h8 : High s7 s8 := hw s7 _ _ (by simp only [Reg.DMA_TAG]; omega)
  have h9 : High s8 s9 := hw s8 _ _ (by simp only [Reg.DMA_REC]; omega)
  exact (((((((h1.trans h2).trans h3).trans h4).trans h5).trans h6).trans h7).trans h8).trans h9

theorem High.activate (im : List Byte) : High s (s.activate c im) := by
  unfold State.activate
  extract_lets s1 s2
  have h2 : High s s2 := (High.wrW s (by simp only [Reg.DMA_CUR]; omega) _).trans (.updChan _ c _)
  have hl := High.loadImage s2 c im
  generalize s2.loadImage c im = p at *
  obtain ⟨u, bad⟩ := p
  dsimp only at *
  split
  · exact h2.trans (hl.trans ((High.fresh1 u c).trans (.retireNext _ c _)))
  · exact h2.trans (hl.trans (.goActive u c))

theorem High.retire (code : Nat) : High s (s.retire c code) := by
  unfold State.retire
  refine (High.retireBase s c code).trans ?_
  generalize s.retireBase c code = u
  dsimp only
  split
  · exact .ite (.chainNext u c code) (.activate u c _)
  · exact .chainNext u c code

theorem High.failCh (code : Nat) : High s (s.failCh c code) := by
  unfold State.failCh
  exact .ite (.refl s) (.ite (((High.dropWork s c).trans (.updChan _ c _)).trans (.addRec _ c _)) (.retire s c code))

theorem High.retireDue : High s (s.retireDue c) := by
  unfold State.retireDue
  dsimp only
  split
  · exact .ite (.retire s c _) (.refl s)
  · exact .ite (.retire s c 0) (.refl s)

theorem High.endChan (code : Nat) : High s (s.endChan c code) := by
  unfold State.endChan
  extract_lets s1
  have h1 : High s s1 := .ite (.retireDue s c) (.refl s)
  exact h1.trans (.ite (.ite (.errCh s1 c code) (.ite ((High.retireBase s1 c code).trans (.toError _ c)) (.failCh s1 c code))) (.refl s1))

end

theorem High.endChans (code : Nat) : ∀ (cs : List Nat) (s : State), High s (s.endChans cs code)
  | [], s => .refl s
  | c :: cs, s => (High.endChan s c code).trans (endChans code cs _)

/-! ## The links are held without touching them (R45, R306) -/

section
variable (s : State)

theorem High.mboxReset (sl : Nat) : High s (s.mboxReset sl) := by
  have hmb : ∀ (s : State) (f : Fld) (v : Nat), High s (s.setMb sl f v) := fun s f v => .setFld s (by simp only [Reg.SL_MBOX_STAT]; omega) f v
  unfold State.mboxReset
  extract_lets lost s1 s2 s3
  have h1 : High s s1 := .ite (.setBitsOf s (by simp only [Reg.SL_MBOX_STAT]; omega) _) (.refl s)
  have h2 : High s1 s2 := ((hmb s1 _ _).trans (.wrW _ (by simp only [Reg.SL_MBPEND]; omega) _)).trans (hmb _ _ _)
  have h3 : High s2 s3 := hmb s2 _ _
  exact ((h1.trans h2).trans h3).trans (.of_same rfl rfl)

theorem High.setTdi (sl v : Nat) : High s (s.setTdi sl v) := by
  unfold State.setTdi
  exact .ite (.refl s) ((High.wrW s (by simp only [Reg.SEC_TDI]; omega) _).trans (.occurBit _ _ (.inr rfl) _ _))

end

theorem High.slicesReset : ∀ (sls : List Nat) (s : State), High s (s.slicesReset sls)
  | [], s => .refl s
  | sl :: sls, s => ((High.endChans 9 _ s).trans ((High.mboxReset _ sl).trans (.setTdi _ sl 0))).trans (slicesReset sls _)

section
variable (s : State)

theorem High.setHl (m : Nat) (f : Fld) (v : Nat) : High s (s.setHl m f v) := .setFld s (by simp only [Reg.HL_LINK_STAT]; omega) f v

theorem High.hlDown (m st : Nat) : High s (s.hlDown m st) := by
  unfold State.hlDown
  extract_lets up s1 s2
  have h1 : High s s1 := ((((High.setHl s m _ _).trans (.setHl _ m _ _)).trans (.setHl _ m _ _)).trans (.setHl _ m _ _)).trans (.setHl _ m _ _)
  have h2 : High s1 s2 := (High.setHl s1 m _ _).trans (.setHl _ m _ _)
  have hev : High s2 (s2.linkEv m 2) := (High.setFld s2 (by simp only [Reg.HL_LINK_EVENT]; omega) _ _).trans (.evHl _ m 0)
  have hrt : ∀ (u : State) (l : List Nat), High u (u.rtTouch l) := fun u l => by
    unfold State.rtTouch
    have hb : High u (u.rtBump l) := .of_same ((State.rtBump_in u l).same .regs rfl) ((State.rtBump_in u l).same .log rfl)
    exact hb.trans (High.evUm (u.rtBump l) 15)
  exact (h1.trans h2).trans (.ite (hev.trans (hrt _ _)) (.refl s2))

end

theorem High.linksHeld : ∀ (ms : List Nat) (s : State), High s (s.linksHeld ms)
  | [], s => .refl s
  | m :: ms, s => by
    have hbr : ∀ u : State, High u (u.bridgeLinkReset m) := fun u =>
      .of_same ((State.bridgeLinkReset_in u m).same .regs rfl) ((State.bridgeLinkReset_in u m).same .log rfl)
    have hcl : ∀ u : State, High u (u.updLink m LinkRt.cleared) := fun u => .of_same (State.updLink_regs ..) (State.updLink_log ..)
    rw [State.linksHeld]
    exact ((High.slicesReset _ s).trans ((hbr _).trans ((hcl _).trans (High.hlDown _ m 0)))).trans (linksHeld ms _)

end Sys2Proof.Machine
end

section
/-! SUPPORT. Lost links, ended work and the yielding slot leave the power, reset and security registers alone (O54, O59). -/

namespace Sys2Proof.Machine

set_option Elab.async false

/-! ## Links that are lost (R262, R412) -/

section
variable (s : State)

theorem High.setTstate (e : LinkEnd) (v : Nat) : High s (s.setTstate e v) := by
  cases e with
  | al n => exact High.trans (t := s.updTrain (.al n) _) (.of_same rfl rfl) (.setFld _ (by simp only [Reg.AL_STAT]; omega) _ _)
  | cl x => exact High.trans (t := s.updTrain (.cl x) _) (.of_same rfl rfl) (.setFld _ (by simp only [Reg.CL_PORT_STAT]; omega) _ _)

theorem High.linkEvent_al (n : Port) (cause : Nat) : High s (s.linkEvent (.al n) cause) :=
  (High.setFld s (by simp only [Reg.AL_EVENT]; omega) _ _).trans (.evAl _ _ _)

theorem High.missTx (p t : Nat) : High s (s.missTx p t) := by
  unfold State.missTx
  exact High.trans (t := s.updPail p _) (.of_same rfl rfl) (.evTl _ 8)

theorem High.aerTlp (m bit : Nat) : High s (s.aerTlp m bit) := by
  unfold State.aerTlp State.aerUnc
  refine High.trans ?_ (.evHl _ m 1)
  exact .of_same ((State.recUnc_in ..).same .regs rfl) ((State.recUnc_in ..).same .log rfl)

theorem High.moveLane (n l ph : Nat) : High s (s.moveLane n l ph) := by
  have hs : ∀ (s : State) (f : Fld) (v : Nat), High s (s.setFld (Reg.AL_GRP_SPARE_STAT (n / 8)) f v) :=
    fun s f v => .setFld s (by simp only [Reg.AL_GRP_SPARE_STAT]; omega) f v
  have h3 : ∀ (s : State) (f g h : Fld) (u v w : Nat), High s (((s.setFld (Reg.AL_GRP_SPARE_STAT (n / 8)) f u).setFld
      (Reg.AL_GRP_SPARE_STAT (n / 8)) g v).setFld (Reg.AL_GRP_SPARE_STAT (n / 8)) h w) :=
    fun s f g h u v w => ((hs s f u).trans (hs _ g v)).trans (hs _ h w)
  unfold State.moveLane
  extract_lets g k f was s1 s2 s3
  have h1 : High s s1 := .ite (h3 s _ _ _ _ _ _) (.ite (h3 s _ _ _ _ _ _) (.refl s))
  have h2 : High s1 s2 := .setFld s1 (by simp only [Reg.AL_LANEMAP]; omega) _ _
  have h3 : High s2 s3 := .ite (h3 s2 _ _ _ _ _ _) (h3 s2 _ _ _ _ _ _)
  exact ((h1.trans h2).trans h3).trans (.of_same rfl rfl)

end

theorem High.missReady (p : Nat) : ∀ (bs : List Block) (s : State), High s (missReady s p bs)
  | [], s => .refl s
  | b :: bs, s => by
    rw [Machine.missReady]
    refine High.trans ?_ (missReady p bs _)
    split
    · exact .missTx s p _
    · exact .missTx s p _
    · exact .refl s

theorem High.dropTx : ∀ (ps : List Nat) (s : State), High s (s.dropTx ps)
  | [], s => .refl s
  | p :: ps, s => by
    rw [State.dropTx]
    refine High.trans ?_ (dropTx ps _)
    exact (High.missReady p _ s).trans (.of_same rfl rfl)

theorem High.endReads : ∀ (rs : List HostRead) (s : State), High s (s.endReads rs)
  | [], s => .refl s
  | r :: rs, s => by
    rw [State.endReads, State.completeCa]
    refine High.trans ?_ (endReads rs _)
    exact (High.aerTlp s r.m _).trans (.of_same rfl rfl)

section
variable (s : State)

theorem High.alLoss (n : Port) (cause : Nat) : High s (s.alLoss n cause) := by
  have hst : ∀ (s : State) (f : Fld) (v : Nat), High s (s.setFld (Reg.AL_STAT n) f v) :=
    fun s f v => .setFld s (by simp only [Reg.AL_STAT]; omega) f v
  unfold State.alLoss
  refine .ite (.refl s) ?_
  extract_lets p lost past s1 s2 s3 s4 s5 s6 s7
  have h1 : High s s1 := .setTstate s _ 0
  have h2 : High s1 s2 := (((hst s1 _ _).trans (hst _ _ _)).trans (hst _ _ _)).trans (hst _ _ _)
  have h3 : High s2 s3 := .of_same (State.dropRx_regs _ s2) ((State.dropRx_in ..).same .log rfl)
  have h4 : High s3 s4 := .dropTx _ s3
  have h5 : High s4 s5 := .addCnt s4 (by simp only [Reg.AL_BR_LOST]; omega) _ _
  have h6 : High s5 s6 := .endReads _ s5
  have h7 : High s6 s7 := .of_same (State.updPort_regs ..) (State.updPort_log ..)
  have h07 := (((((h1.trans h2).trans h3).trans h4).trans h5).trans h6).trans h7
  clear_value s7 past
  rcases past with _ | ⟨l, ph⟩
  · exact h07.trans (.linkEvent_al s7 n cause)
  · exact h07.trans ((High.moveLane s7 n l ph).trans (.linkEvent_al _ n cause))

end

theorem High.portsLost : ∀ (ns : List Port) (s : State), High s (s.portsLost ns)
  | [], s => .refl s
  | n :: ns, s => by
    rw [State.portsLost]
    exact ((High.alLoss s n 5).trans (.of_same (State.updPort_regs ..) (State.updPort_log ..))).trans (portsLost ns _)

section
variable (s : State)

theorem High.setPair (v : Nat) : High s (s.setPair v) := by
  unfold State.setPair
  exact .ite (.refl s) ((High.setFld s (by decide) _ _).trans (.evTw _ 0))

theorem High.moveClLane (x l : Nat) : High s (s.moveClLane x l) := by
  unfold State.moveClLane
  exact High.trans (High.trans (t := (s.updCl x _).setRepairDue true) (.of_same rfl rfl)
    (.setFld _ (by simp only [Reg.CL_PORT_STAT]; omega) _ _)) (.evTw _ 14)

theorem High.clLoss (x : Nat) : High s (s.clLoss x) := by
  have hst : ∀ (s : State) (f : Fld) (v : Nat), High s (s.setFld (Reg.CL_PORT_STAT x) f v) :=
    fun s f v => .setFld s (by simp only [Reg.CL_PORT_STAT]; omega) f v
  unfold State.clLoss
  refine .ite (.refl s) ?_
  extract_lets past s1 s2 s3
  have h1 : High s s1 := (hst s _ _).trans (hst _ _ _)
  have h2 : High s1 s2 := by
    unfold s2
    clear_value past
    rcases past with _ | ⟨l, ph⟩
    · exact .refl s1
    · exact .moveClLane s1 x l
  have h3 : High s2 s3 := .of_same rfl rfl
  exact ((h1.trans h2).trans h3).trans ((High.ite (.setPair s3 0) (.refl s3)).trans (.evTw _ 8))

end

theorem High.clPortsLost : ∀ (xs : List Nat) (s : State), High s (s.clPortsLost xs)
  | [], s => .refl s
  | x :: xs, s => by
    rw [State.clPortsLost]
    refine High.trans ?_ (clPortsLost xs _)
    exact (High.clLoss s x).trans (.of_same rfl rfl)

/-! ## The slot in which a twin yields (R415) -/

theorem High.clResent (s : State) (x : Nat) : High s (s.clResent x) :=
  (High.cnt s (by simp only [Reg.CL_PORT_REPLAY]; omega)).trans (.evTw _ 9)

/-- A state that a selection of cells hands on. -/
def HighSome (s : State) (o : Option (State × List Word)) : Prop := ∀ p, o = some p → High s p.1

theorem HighSome.none (s : State) : HighSome s none := fun _ h => nomatch h
theorem HighSome.some {s t : State} (h : High s t) (ws : List Word) : HighSome s (Option.some (t, ws)) := fun _ hp => Option.some.inj hp ▸ h

theorem HighSome.upd (s : State) (x : Nat) (f : ClRt → ClRt) (ws : List Word) : HighSome s (Option.some (s.updCl x f, ws)) :=
  HighSome.some (s := s) (t := s.updCl x f) (.of_same rfl rfl) ws

theorem HighSome.resent (s : State) (x : Nat) (f : ClRt → ClRt) (ws : List Word) :
    HighSome s (Option.some ((s.updCl x f).clResent x, ws)) :=
  HighSome.some (s := s) (High.trans (t := s.updCl x f) (.of_same rfl rfl) (.clResent _ x)) ws

theorem State.nextMirror_high (s : State) : HighSome s s.nextMirror := by
  unfold State.nextMirror
  extract_lets c send
  split
  · exact .resent s 0 _ _
  · split
    · exact .none s
    · have hsend : ∀ (kind : Nat) (p : List Byte × List ClRec) (f : List ClRec → ClRt → ClRt),
          HighSome s (match p with | (b, l) => send kind b (f l)) := fun kind p f => .upd s 0 _ _
      split
      · exact hsend _ _ fun l c => { c with chan := l }
      · exact hsend _ _ fun l c => { c with commit := l }
      · exact hsend _ _ fun l c => { c with other := l }
      · exact .none s

theorem State.nextHerd_high (s : State) (x : Nat) : HighSome s (s.nextHerd x) := by
  unfold State.nextHerd
  extract_lets c
  split
  · exact .resent s x _ _
  · split
    · exact .none s
    · split
      · exact .upd s x _ _
      · exact .none s

theorem State.placeRecs_high (x : Nat) (res : Bool) : ∀ (cs : List Nat) (f : Cells) (s : State), High s (s.placeRecs x res f cs).1
  | [], _, s => .refl s
  | c :: cs, f, s => by
    have hnext : HighSome s (if x = 0 then s.nextMirror else s.nextHerd x) := by
      split
      · exact s.nextMirror_high
      · exact s.nextHerd_high x
    rw [State.placeRecs]
    split
    · split
      next u ws h => exact (hnext _ h).trans (placeRecs_high x res cs _ u)
      next => exact .refl s
    · exact placeRecs_high x res cs f s

section
variable (s : State)

theorem High.clNormal (x : Nat) : High s (s.clNormal x) := by
  unfold State.clNormal
  extract_lets up s1 c hb mark ws asks res s2 s3
  have h1 : High s s1 := by
    refine .ite (.of_same ?_ ?_) (.refl s)
    · exact ((State.repeatHready_in ..).same .regs rfl).trans ((State.repeatDigest_in ..).same .regs rfl)
    · exact ((State.repeatHready_in ..).same .log rfl).trans ((State.repeatDigest_in ..).same .log rfl)
  have h2 : High s1 s2 := .of_same rfl rfl
  have h3 : High s2 s3 := .ite (.refl s2) (.of_same rfl rfl)
  have h03 := (h1.trans h2).trans h3
  generalize placeCells _ _ _ = p
  obtain ⟨f, rest⟩ := p
  have hplace : High s3 (if up = true then s3.placeRecs x res f (List.range 32) else (s3, f)).1 := by
    split
    · exact s3.placeRecs_high x res _ f
    · exact .refl s3
  dsimp only
  generalize (if up = true then s3.placeRecs x res f (List.range 32) else (s3, f)) = q at *
  obtain ⟨u, g⟩ := q
  exact (h03.trans hplace).trans (.of_same rfl rfl)

theorem High.clSlot (x : Nat) : High s (s.clSlot x) := by
  unfold State.clSlot
  extract_lets v c h cells
  exact .ite (.of_same rfl rfl) (.clNormal s x)

theorem High.yieldFirst : High s s.yieldFirst := by
  unfold State.yieldFirst State.yieldSend
  exact .ite (.ite (High.trans (t := (s.updTw _).updCl 0 _) (.of_same rfl rfl) (.clSlot _ 0)) (.refl s)) (.refl s)

end

/-! ## Work of Umger that ends (R37, R396) -/

section
variable (s : State)

theorem High.final (h : UmHdr) (op status detail : Nat) (result : List Byte) : High s (s.final h op status detail result) := by
  unfold State.final
  extract_lets s1 r
  have h1 : High s s1 := by
    refine .ite ?_ (.refl s)
    unfold State.logInternal
    exact High.trans (t := s.takeFree.2) (.of_same rfl rfl) (.logKind _ _ _)
  refine h1.trans (.ite (.of_same ?_ ?_) (.refl s1))
  · exact (State.updUm_regs ..).trans ((State.post_in ..).same .regs rfl)
  · exact (State.updUm_log ..).trans ((State.post_in ..).same .log rfl)

theorem High.modeFinal (h : Option UmHdr) (status : Nat) : High s (s.modeFinal h status) := by
  cases h with
  | some h => exact .final s h _ _ _ _
  | none => exact .refl s

end

theorem High.cancelFinals : ∀ (hs : List UmHdr) (s : State), High s (s.cancelFinals hs)
  | [], s => .refl s
  | h :: hs, s => (High.modeFinal s (some h) _).trans (cancelFinals hs _)

theorem High.clearPending : ∀ (gs : List Nat) (s : State), High s (s.clearPending gs)
  | [], s => .refl s
  | g :: gs, s => (High.setFld s (by simp only [Reg.CH_WB_STATUS]; omega) _ _).trans (clearPending gs _)

section
variable (s : State)

theorem High.herdAbort (a : Armed) : High s (s.herdAbort a) := by
  have hsend : High s (s.herdSend s.herdPorts 2 a.at_ a.hdigest) :=
    .of_same ((State.herdSend_in ..).same .regs rfl) ((State.herdSend_in ..).same .log rfl)
  unfold State.herdAbort
  refine .ite (High.trans ?_ (.evTw _ 12)) (.refl s)
  exact hsend.trans (.of_same rfl rfl)

theorem High.disarm : High s s.disarm := by
  unfold State.disarm
  split
  · exact .refl s
  next a ha =>
    extract_lets s1 s2 s3
    have h1 : High s s1 := .clearPending _ s
    have h2 : High s1 s2 := .setFld s1 (by decide) _ _
    have h3 : High s2 s3 := High.trans (High.trans (t := s2.updUm _) (.of_same rfl rfl) (.wrW _ (by decide) _)) (.herdAbort _ a)
    have h03 := (h1.trans h2).trans h3
    clear_value s3
    split
    · exact h03.trans (.final s3 _ _ _ _ _)
    · exact h03

theorem High.loseGen : High s s.loseGen := by
  unfold State.loseGen State.closeGen
  exact (High.disarm s).trans (High.trans (High.trans (t := s.disarm.dropStaged) (.of_same rfl rfl) (.setFld _ (by decide) _ _))
    (.of_same rfl rfl))

theorem High.endModeWork : High s s.endModeWork := by
  unfold State.endModeWork
  extract_lets m w s1 s2
  have h1 : High s s1 := .of_same rfl rfl
  have h2 : High s1 s2 := by
    unfold s2
    cases m with
    | some r => exact (High.modeFinal s1 _ _).trans (.cancelFinals _ _)
    | none => exact .refl s1
  refine (h1.trans h2).trans ?_
  cases w with
  | some w => exact .final s2 _ _ _ _ _
  | none => exact .refl s2

theorem High.resetCarrier (c : Carrier) : High s (s.resetCarrier c) := by
  unfold State.resetCarrier
  extract_lets s1 s2 s3 own
  have h1 : High s s1 := .of_same (State.updUm_regs ..) (State.updUm_log ..)
  have h2 : High s1 s3 := by
    unfold s3 s2
    generalize s1 = u
    cases c with
    | ring => exact ((((High.setFld u (by decide) _ _).trans (.setFld _ (by decide) _ _)).trans (.setFld _ (by decide) _ _)).trans
        (.setFld _ (by decide) _ _)).trans (.setFld _ (by decide) _ _)
    | sideband => exact .of_same rfl rfl
  exact (h1.trans h2).trans (.ite (.loseGen s3) (.refl s3))

end

end Sys2Proof.Machine
end

section
/-! SUPPORT. What power-up in the entry to Quarantine leaves (O54, O59). -/

namespace Sys2Proof.Machine

set_option Elab.async false

/-! ## What the entry to Quarantine leaves (R45, R446) -/

/-- The kinds of entry that the trouble log's queue holds stay in it. -/
def KindsStay (s t : State) : Prop :=
  ∀ n, s.log.queue.any (fun w => w.entry.kind == n) = true → t.log.queue.any (fun w => w.entry.kind == n) = true

theorem KindsStay.trans {s t u : State} (h : KindsStay s t) (h' : KindsStay t u) : KindsStay s u := fun n hn => h' n (h n hn)
theorem KindsStay.of_log {s t : State} (h : t.log = s.log) : KindsStay s t := fun _ hn => by rwa [h]

theorem KindsStay.occurBit (s : State) (i k b : Nat) (det : Option Nat) : KindsStay s (s.occurBit i k b det) := by
  unfold State.occurBit
  extract_lets was x y
  have hy : KindsStay s y := .of_log rfl
  have hx : KindsStay s x := .of_log rfl
  clear_value y x
  split
  · split
    · exact hy
    · exact hy.trans (KindsStay.trans (t := y.rose k (2 ^ b)) (.of_log rfl) (High.raiseActs _ _ _ _ _).kinds)
  · exact hx

/-- The registers whose values Quarantine's triggers leave for it: the thermal state, the tamper latch and count, and the
security state. -/
def quarRegs : List Nat := [Reg.PW_THERM_STAT, Reg.SEC_TAMPER_STAT, Reg.SEC_TAMPER_CNT, Reg.SEC_STATE]

/-- What the entry to Quarantine keeps at each of its steps: those registers, SEC_STATE while SEC is powered, the bits of
SEC_EVENT, and the kinds of entry of the log's queue. -/
structure QuarStep (sec : Prop) (s t : State) : Prop where
  regs : ∀ k ∈ quarRegs, (k = Reg.SEC_STATE → sec) → t.rdW k = s.rdW k
  bits : ∀ b, (s.rdW Reg.SEC_EVENT).toNat.testBit b = true → (t.rdW Reg.SEC_EVENT).toNat.testBit b = true
  kinds : KindsStay s t

theorem QuarStep.refl (sec : Prop) (s : State) : QuarStep sec s s := ⟨fun _ _ _ => rfl, fun _ h => h, .of_log rfl⟩

theorem QuarStep.trans {sec : Prop} {s t u : State} (h : QuarStep sec s t) (h' : QuarStep sec t u) : QuarStep sec s u :=
  ⟨fun k hk hs => (h'.regs k hk hs).trans (h.regs k hk hs), fun b hb => h'.bits b (h.bits b hb), h.kinds.trans h'.kinds⟩

theorem quarRegs_low : ∀ k ∈ quarRegs, k < 0x4100 ∧ k ≠ Reg.SEC_EVENT := by decide

theorem High.quarStep {sec : Prop} {s t : State} (h : High s t) : QuarStep sec s t :=
  ⟨fun k hk _ => h.low k (quarRegs_low k hk).1 (quarRegs_low k hk).2, h.bits, h.kinds⟩

/-- A step whose registers are others. -/
theorem QuarStep.of_kept {sec : Prop} {ks : List Nat} {s t : State} (h : RegsKeptEv ks s t)
    (hks : ∀ k ∈ Reg.SEC_EVENT :: quarRegs, k ∉ ks) (hk : KindsStay s t) : QuarStep sec s t :=
  have hev : ∀ k ∈ Reg.SEC_EVENT :: quarRegs, evKey k = false := by decide
  ⟨fun k hm _ => h k (hks k (.tail _ hm)) (hev k (.tail _ hm)), fun b hb => by rwa [h _ (hks _ (.head _)) (hev _ (.head _))], hk⟩

section
variable (s : State)

theorem State.rdW_unsavedReset {d k : Nat} (h : (regDom k == d && !regSaved k) = false) : (s.unsavedReset d).rdW k = s.rdW k := by
  have hp : (fun k => !(regDom k == d && !regSaved k)) k = true := by
    show (!(regDom k == d && !regSaved k)) = true
    rw [h]
    rfl
  exact (SMap.get_keep _ (fun k => !(regDom k == d && !regSaved k)) s.regs k).trans (if_pos hp)

/-- A domain without work of its own at its release. -/
theorem State.domHook_plain {d : Nat} (hd : d ≤ 4) : s.domHook d = s := by
  unfold State.domHook
  rw [if_neg (by omega), if_neg (by omega), if_neg (by omega), if_neg (by omega)]

/-- What the release of such a domain leaves. -/
theorem State.domOn_plain {d : Nat} (hd : d ≤ 4) :
    (∀ k, (regDom k == d && !regSaved k) = false → k ≠ Reg.PW_ON → k ≠ Reg.PW_EVENT → evKey k = false →
      (s.domOn d).rdW k = s.rdW k) ∧ KindsStay s (s.domOn d) ∧ (s.domOn d).rs.causeAon = s.rs.causeAon := by
  unfold State.domOn
  extract_lets s1 s2 s3
  have h1 : (∀ k, (regDom k == d && !regSaved k) = false → k ≠ Reg.PW_ON → s1.rdW k = s.rdW k) ∧ s1.log = s.log ∧ s1.rs = s.rs :=
    ⟨fun k h hon => (State.rdW_wrW_other _ _ hon).trans (State.rdW_unsavedReset s h), rfl, rfl⟩
  have h2 : s2.regs = s1.regs ∧ s2.log = s1.log ∧ s2.rs.causeAon = s1.rs.causeAon := by
    unfold s2
    split
    · exact ⟨rfl, rfl, rfl⟩
    · exact ⟨rfl, rfl, rfl⟩
  have h3 : s3.regs = s2.regs ∧ s3.log = s2.log ∧ s3.rs = s2.rs := ⟨rfl, rfl, rfl⟩
  obtain ⟨hr1, hl1, hc1⟩ := h1
  obtain ⟨hr2, hl2, hc2⟩ := h2
  obtain ⟨hr3, hl3, hc3⟩ := h3
  rw [State.domHook_plain s3 hd]
  clear_value s3
  refine ⟨fun k h hon hev he => ?_, ?_, ?_⟩
  · rw [State.rdW_evPw _ (by decide) he hev, State.rdW_of_regs hr3, State.rdW_of_regs hr2, hr1 k h hon]
  · exact KindsStay.trans (.of_log (hl3.trans (hl2.trans hl1))) (.occurBit _ _ _ _ _)
  · rw [State.evPw_rs, hc3, hc2, hc1]

theorem State.powerUp_step (d : Nat) (hd : d = 1 ∨ d = 3 ∨ d = 4) (sec : Prop) (hsec : d = 4 → sec → s.on 4 = true) :
    QuarStep sec s (if s.on d then s else s.domOn d) ∧
      (if s.on d then s else s.domOn d).rs.causeAon = s.rs.causeAon := by
  split
  · exact ⟨.refl _ _, rfl⟩
  next hoff =>
    obtain ⟨hr, hk, hc⟩ := s.domOn_plain (d := d) (by omega)
    have hdom : ∀ d, d = 1 ∨ d = 3 ∨ d = 4 → ∀ k ∈ Reg.SEC_EVENT :: quarRegs, d = 4 ∧ k = Reg.SEC_STATE ∨
        (regDom k == d && !regSaved k) = false := by
      rintro d (rfl | rfl | rfl)
      · decide +kernel
      · decide +kernel
      · decide +kernel
    have hplain : ∀ k ∈ Reg.SEC_EVENT :: quarRegs, k ≠ Reg.PW_ON ∧ k ≠ Reg.PW_EVENT ∧ evKey k = false := by decide
    have hkept : ∀ k ∈ Reg.SEC_EVENT :: quarRegs, (k = Reg.SEC_STATE → sec) → (s.domOn d).rdW k = s.rdW k := by
      intro k hm hs
      obtain ⟨h1, h2, h3⟩ := hplain k hm
      refine hr k ((hdom d hd k hm).resolve_left fun h => ?_) h1 h2 h3
      obtain ⟨rfl, rfl⟩ := h
      exact hoff (hsec rfl (hs rfl))
    exact ⟨⟨fun k hm => hkept k (.tail _ hm), fun b hb => by rwa [hkept _ (.head _) fun h => absurd h (by decide)], hk⟩, hc⟩

theorem State.powerUp_quarStep (sec : Prop) (hsec : sec → s.on 4 = true) :
    QuarStep sec s (s.powerUp [4, 3, 1]) ∧ (s.powerUp [4, 3, 1]).rs.causeAon = s.rs.causeAon := by
  simp only [State.powerUp]
  obtain ⟨h1, c1⟩ := s.powerUp_step 4 (.inr (.inr rfl)) sec fun _ => hsec
  generalize (if s.on 4 then s else s.domOn 4) = u at *
  obtain ⟨h2, c2⟩ := u.powerUp_step 3 (.inr (.inl rfl)) sec fun h => absurd h (by decide)
  generalize (if u.on 3 then u else u.domOn 3) = v at *
  obtain ⟨h3, c3⟩ := v.powerUp_step 1 (.inl rfl) sec fun h => absurd h (by decide)
  exact ⟨(h1.trans h2).trans h3, c3.trans (c2.trans c1)⟩

end

end Sys2Proof.Machine
end

section
/-! SUPPORT. The entry to Quarantine (O54, O59). -/

namespace Sys2Proof.Machine

set_option Elab.async false

/-! ## The entry to Quarantine (R35, R45, R446, R493) -/

/-- The first cause of an AON cycle stands in RS_CAUSE. -/
theorem State.setCause_code (s : State) {code : Nat} (detail : Nat) (hc : code < 256) (h : s.rs.causeAon ≠ some s.aon) :
    (s.setCause code detail).fld Reg.RS_CAUSE F.RS_CAUSE_CODE = code := by
  unfold State.setCause
  extract_lets same rank n win prev u r v w
  have hwin : win = true := by simp only [win, same, decide_eq_false h, Bool.not_false, Bool.true_or]
  have hv : v.fld Reg.RS_CAUSE F.RS_CAUSE_CODE = code := by
    unfold v r
    rw [State.fld_setFld_other _ _ _ _ _ (by decide), State.fld_setFld_other _ _ _ _ _ (by decide), State.fld_setFld _ _ _ _ (by decide)]
    exact Nat.mod_eq_of_lt hc
  rw [State.fld_hw _ _ rfl, State.rdW_logKind _ _ _ (by decide)]
  unfold w
  rw [if_pos hwin, State.rdW_wrW_other _ _ (by decide), State.rdW_wrW_other _ _ (by decide), ← State.fld_hw _ _ rfl, hv]

theorem State.setCause_kinds (s : State) (code detail : Nat) : KindsStay s (s.setCause code detail) := by
  unfold State.setCause
  extract_lets same rank n win prev u r v w
  refine KindsStay.trans (.of_log ?_) (High.logKind _ _ _).kinds
  simp only [w, apply_ite State.log, v, r, State.wrW_log, State.setFld_log, u, State.updRs_log, ite_self]

theorem State.setMode_kinds (s : State) {new : Nat} (trig : Nat) (hnew : new ≠ 4) : KindsStay s (s.setMode new trig) := by
  unfold State.setMode
  simp only [if_neg hnew]
  generalize hu : State.updUm _ _ = u
  have hlog : u.log = s.log := by rw [← hu]; simp only [State.updUm_log, State.setFld_log]
  exact KindsStay.trans (.of_log hlog) (KindsStay.occurBit u _ _ _ _)

theorem State.forceOff_kinds (s : State) (d : Nat) : KindsStay s (s.forceOff d) := by
  unfold State.forceOff
  split
  · exact .of_log rfl
  · have hev : KindsStay s ((s.wrW Reg.PW_FORCED (BitVec.ofNat 64 (putBit s.forcedMap d true))).evPw 6) :=
      KindsStay.trans (.of_log (State.wrW_log ..)) (KindsStay.occurBit (s.wrW Reg.PW_FORCED _) _ _ _ _)
    dsimp only
    split
    · exact hev.trans (.of_log rfl)
    · exact hev.trans (.of_log rfl)

theorem State.forceOffs_kinds : ∀ (ds : List Nat) (s : State), KindsStay s (s.forceOffs ds)
  | [], _ => .of_log rfl
  | d :: ds, s => (s.forceOff_kinds d).trans (forceOffs_kinds ds _)

theorem State.evRs_kinds (s : State) (e : Nat) : KindsStay s (s.evRs e) := by
  unfold State.evRs
  split
  · exact .of_log rfl
  · exact .occurBit _ _ _ _ _

/-- The device has entered Quarantine from a state, keeping what its trigger left. -/
structure Quarantined (code : Nat) (s t : State) : Prop where
  step : QuarStep (s.on 4 = true) s t
  mode : t.mode = 0xC
  cause : s.rs.causeAon ≠ some s.aon → t.fld Reg.RS_CAUSE F.RS_CAUSE_CODE = code
  event : (t.rdW Reg.RS_EVENT).toNat.testBit 9 = true

theorem State.enterQuarantine_quarantined (s : State) {trig code : Nat} (detail : Nat) (hm : 3 ≤ s.mode) (hq : s.mode ≠ 0xC)
    (hc : code < 256) : Quarantined code s (s.enterQuarantine trig code detail) := by
  unfold State.enterQuarantine
  rw [if_neg (by omega)]
  extract_lets s1 s2 s3 s4 s5 s6 s7 s8
  have h2 : High s s2 := ((High.yieldFirst s).trans (.loseGen s1)).trans (.endModeWork _)
  have hr2 : s2.rs = s.rs := by
    unfold s2 s1
    rw [(State.endModeWork_in ..).same .rs rfl, (State.loseGen_in ..).same .rs rfl, (State.yieldFirst_in ..).same .rs rfl]
  have hon : s2.on 4 = s.on 4 := State.on_eq_of_rdW (h2.low _ (by decide) (by decide)) 4
  obtain ⟨h3, c3⟩ : QuarStep (s.on 4 = true) s2 s3 ∧ s3.rs.causeAon = s2.rs.causeAon :=
    s2.powerUp_quarStep (s.on 4 = true) (by rw [hon]; exact id)
  have h5 : High s3 s5 := (((High.portsLost _ s3).trans (.clPortsLost _ _)).trans (.linksHeld _ _)).trans (.resetCarrier _ .ring)
  have hr5 : s5.rs = s3.rs := by
    unfold s5 s4
    rw [(State.resetCarrier_in ..).same .rs rfl, (State.linksHeld_in ..).same .rs rfl, (State.clPortsLost_in ..).same .rs rfl,
      State.allPortsLost, (State.portsLost_in ..).same .rs rfl]
  have haon2 : s2.aon = s.aon := by
    unfold s2 s1
    rw [(State.endModeWork_in ..).same .aon rfl, (State.loseGen_in ..).same .aon rfl, (State.yieldFirst_in ..).same .aon rfl]
  have haon : s5.aon = s2.aon := by
    unfold s5 s4 s3
    rw [(State.resetCarrier_in ..).same .aon rfl, (State.linksHeld_in ..).same .aon rfl, (State.clPortsLost_in ..).same .aon rfl,
      State.allPortsLost, (State.portsLost_in ..).same .aon rfl, (State.powerUp_in ..).same .aon rfl]
  rw [haon2] at haon
  clear_value s5 s3
  have h6 : QuarStep (s.on 4 = true) s5 s6 := by
    refine .of_kept (ks := [Reg.RS_CAUSE, Reg.RS_CAUSE_STAMP, Reg.RS_CAUSE_TL, Reg.PW_MODE, Reg.PW_EVENT]) ?_ (by decide)
      ((s5.setCause_kinds _ _).trans (State.setMode_kinds _ _ (by decide)))
    exact ((State.setCause_kept s5 code detail).mono (by simp)).trans ((State.setMode_kept _ _ (by decide)).mono (by simp))
  have h7 : s7.regs = s6.regs ∧ s7.log = s6.log := ⟨rfl, rfl⟩
  have h8 : RegsKeptEv [Reg.PW_FORCED, Reg.PW_EVENT] s7 s8 := s7.forceOffs_kept _
  have hmode : s8.mode = 0xC := by
    rw [State.mode_eq_of_rdW (h8 _ (by decide) (by decide)), State.mode_eq_of_rdW (State.rdW_of_regs h7.1 _)]
    exact State.mode_setMode _ _ (by decide)
  have hk8 : KindsStay s6 s8 := KindsStay.trans (.of_log h7.2) (s7.forceOffs_kinds _)
  have h68 : QuarStep (s.on 4 = true) s6 (s8.evRs 9) := by
    refine .of_kept (ks := [Reg.PW_FORCED, Reg.PW_EVENT, Reg.RS_EVENT]) ?_ (by decide) (hk8.trans (s8.evRs_kinds 9))
    exact (RegsKeptEv.of_regs _ h7.1).trans ((h8.mono (by simp)).trans (.evRs _ _ (by decide) (by simp)))
  have hcode : s.rs.causeAon ≠ some s.aon → s6.fld Reg.RS_CAUSE F.RS_CAUSE_CODE = code := fun h => by
    unfold s6
    rw [State.fld_hw _ _ rfl, State.setMode_kept _ _ (by decide) _ (by decide) (by decide), ← State.fld_hw _ _ rfl]
    exact s5.setCause_code detail hc (by rw [hr5, c3, hr2, haon]; exact h)
  refine ⟨h2.quarStep.trans (h3.trans (h5.quarStep.trans (h6.trans h68))), ?_, fun h => ?_, State.evRs_bit (by decide) (by omega)⟩
  · rw [State.mode_eq_of_rdW (State.rdW_evRs _ (by decide) (by decide) (by decide)), hmode]
  · rw [State.fld_hw _ _ rfl, State.rdW_evRs _ (by decide) (by decide) (by decide), h8 _ (by decide) (by decide),
      State.rdW_of_regs h7.1, ← State.fld_hw _ _ rfl, hcode h]

end Sys2Proof.Machine
end

section
/-! SUPPORT. A conversion that trips, the trouble log's ring and marks, and the repair record (O54). -/

namespace Sys2Proof.Machine

set_option Elab.async false

/-! ## A conversion that trips (R475) -/

theorem execThermalConversion_trips {s : State} {ts : List Byte} (hlen : ts.length = 16) (h1 : s.on 1 = true) (h3 : s.on 3 = true)
    (hm : 4 ≤ s.mode) (hq : s.mode ≠ 0xC) (hat : s.pw.convAt.all (fun a => decide (a + 500 ≤ s.aon)) = true)
    (hhot : (goodTemps 0 ts).any (fun x => decide (120 ≤ x.2)) = true) (hc : s.rs.causeAon ≠ some s.aon) :
    Completes (.thermalConversion ts) s fun t => t.mode = 0xC ∧ t.fld Reg.PW_THERM_STAT F.PW_THERM_STAT_LEVEL = 3 ∧
      t.fld Reg.RS_CAUSE F.RS_CAUSE_CODE = 9 ∧ (t.rdW Reg.RS_EVENT).toNat.testBit 9 = true := by
  obtain ⟨s0, hs0⟩ : ∃ x, x = s.updPw fun p => { p with convAt := some s.aon } := ⟨_, rfl⟩
  obtain ⟨u, hu⟩ : ∃ x, x = (s0.thermRead ts).setFld Reg.PW_THERM_STAT F.PW_THERM_STAT_LEVEL 3 := ⟨_, rfl⟩
  have hs0p : s0.regs = s.regs ∧ s0.aon = s.aon ∧ s0.rs = s.rs := by rw [hs0]; exact ⟨rfl, rfl, rfl⟩
  obtain ⟨-, hsa, hsr, -⟩ := s0.sensed_same ts
  obtain ⟨hur, -, hua, hurs, -, -⟩ := s0.thermRead_told ts
  have hmode : u.mode = s.mode := by
    rw [hu, State.mode_eq_of_rdW (State.rdW_setFld_other _ _ _ (by decide)), State.mode_eq_of_rdW (hur _ (by decide) (by decide)),
      State.mode_eq_of_rdW (s0.sensed_kept hlen _ (by decide)), State.mode_eq_of_rdW (State.rdW_of_regs hs0p.1 _)]
  have haon : u.aon = s.aon := by rw [hu, State.setFld_aon, hua, hsa, hs0p.2.1]
  have hrs : u.rs = s.rs := by rw [hu, State.setFld_rs, hurs, hsr, hs0p.2.2]
  have hlev : u.fld Reg.PW_THERM_STAT F.PW_THERM_STAT_LEVEL = 3 := by
    rw [hu, State.fld_setFld _ _ _ _ (by decide)]
    rfl
  have hexec : exec (.thermalConversion ts) s = .next (u.enterQuarantine 0x15 9 (hottest (goodTemps 0 ts)).1) := by
    show execThermalConversion ts s = _
    unfold execThermalConversion
    rw [if_pos ⟨hlen, h1, h3, hat⟩, ← hs0, State.thermal_eq, if_pos hhot, ← hu]
  obtain ⟨hstep, hmode', hcause, hev⟩ := u.enterQuarantine_quarantined (trig := 0x15) (code := 9) (hottest (goodTemps 0 ts)).1
    (by omega) (by rwa [hmode]) (by decide)
  refine .intro hexec ⟨hmode', ?_, hcause (by rwa [haon, hrs]), hev⟩
  rw [State.fld_hw _ _ rfl, hstep.regs _ (by decide) fun h => absurd h (by decide), ← State.fld_hw _ _ rfl, hlev]

/-! ## The trouble log's ring and read mark (R552, R553) -/

/-- The ring and its poisoned entries stay. -/
def RingKept (s t : State) : Prop := t.log.ring = s.log.ring ∧ t.log.bad = s.log.bad

theorem RingKept.of_log {s t : State} (h : t.log = s.log) : RingKept s t := ⟨congrArg TroubleLog.ring h, congrArg TroubleLog.bad h⟩
theorem RingKept.trans {s t u : State} (h : RingKept s t) (h' : RingKept t u) : RingKept s u := ⟨h'.1.trans h.1, h'.2.trans h.2⟩

theorem RingKept.logPut (s : State) (e : LogEntry) : RingKept s (s.logPut e) := by
  unfold State.logPut
  split
  · exact ⟨rfl, rfl⟩
  · extract_lets seq l w
    split
    · exact ⟨rfl, rfl⟩
    · exact ⟨rfl, rfl⟩

/-- An occurrence's entry joins the queue and leaves the ring. -/
theorem RingKept.occur (s : State) (i : Nat) : RingKept s (s.occur i) := by
  have hraise : ∀ (s : State) (n det fl : Nat), RingKept s (State.raiseActs n s i det fl) := fun s n det fl =>
    RingKept.trans (t := s.setBitsOf (Reg.EV_RAISED (i / 32)) (2 ^ (i % 32))) (.of_log rfl)
      (State.raiseActs_from RingKept (fun _ => ⟨rfl, rfl⟩) (fun h h' => h.trans h') (fun _ => True) (fun _ _ => trivial)
        (fun _ _ _ => .of_log rfl) (fun _ _ _ => .of_log rfl) (fun s => .of_log (State.setFld_log ..))
        (fun s m v => .of_log ((State.signal_in s m v).same .log rfl)) (fun s e => .logPut s e)
        (fun s m b h => .of_log ((State.recUnc_in s m b h).same .log rfl)) (fun s m b => .of_log ((State.recCor_in s m b).same .log rfl))
        (fun _ _ _ => .of_log rfl) (fun _ _ _ => .of_log rfl) n s i det fl)
  unfold State.occur
  split
  · dsimp only
    split
    · exact .of_log rfl
    · exact RingKept.trans (t := s.cnt (Reg.EV_CNT i)) (.of_log rfl) (hraise _ _ _ _)
  · exact ⟨rfl, rfl⟩

theorem State.logMark_lt (s : State) : s.logMark < 2 ^ 32 := Nat.mod_lt _ (by decide)

theorem State.logMark_logAdvance (s : State) (n : Nat) : (s.logAdvance n).logMark = (s.logMark + n) % 2 ^ 32 := by
  rw [State.logMark, State.logAdvance, State.rdW_wrW_same, BitVec.toNat_ofNat]
  omega

/-- The queue's first entry stands in the ring. -/
def State.logWritten (s : State) (w : LogWait) (ws : List LogWait) : State :=
  s.setLog { s.log with queue := ws, ring := SMap.put LogEntry.zero s.log.ring (w.entry.seq % 2048) w.entry,
                        bad := s.log.bad.filter (fun j => j != w.entry.seq % 2048) }

theorem State.logWritten_ring (s : State) (w : LogWait) (ws : List LogWait) :
    SMap.get LogEntry.zero (s.logWritten w ws).log.ring (w.entry.seq % 2048) = w.entry ∧
      w.entry.seq % 2048 ∉ (s.logWritten w ws).log.bad ∧
      ∀ i, i ≠ w.entry.seq % 2048 → SMap.get LogEntry.zero (s.logWritten w ws).log.ring i = SMap.get LogEntry.zero s.log.ring i :=
  ⟨SMap.get_put_same .., fun h => by simpa using (List.mem_filter.1 h).2, fun _ hi => SMap.get_put_other _ _ _ _ hi⟩

/-- The ring's oldest unread entry has been written over. -/
def State.overwrote (s : State) (w : LogWait) (ws : List LogWait) : State :=
  (((s.logAdvance 1).logWritten w ws).cnt Reg.LOG_OVERWRITTEN).setW1c Reg.LOG_STAT F.LOG_STAT_OVERRUN

theorem State.overwrote_kept (s : State) (w : LogWait) (ws : List LogWait) :
    RegsKept [Reg.LOG_RDSEQ, Reg.LOG_OVERWRITTEN, Reg.LOG_STAT] s (s.overwrote w ws) := by
  intro k hk
  simp only [List.mem_cons, List.not_mem_nil, or_false, not_or] at hk
  obtain ⟨h1, h2, h3⟩ := hk
  rw [State.overwrote, State.rdW_setW1c_other _ _ h3, State.rdW_cnt_other _ h2]
  exact State.rdW_wrW_other _ _ h1

theorem State.overwrote_told (s : State) (w : LogWait) (ws : List LogWait) : Counted Reg.LOG_OVERWRITTEN s (s.overwrote w ws) ∧
    (s.overwrote w ws).flag Reg.LOG_STAT F.LOG_STAT_OVERRUN = true ∧ (s.overwrote w ws).logMark = (s.logMark + 1) % 2 ^ 32 := by
  refine ⟨?_, ?_, ?_⟩
  · rw [Counted, State.overwrote, State.rdW_setW1c_other _ _ (by decide), State.rdW_cnt]
    have hk : ((s.logAdvance 1).logWritten w ws).rdW Reg.LOG_OVERWRITTEN = s.rdW Reg.LOG_OVERWRITTEN :=
      State.rdW_wrW_other s (k := Reg.LOG_RDSEQ) (BitVec.ofNat 64 ((s.logMark + 1) % 2 ^ 32)) (by decide)
    rw [hk]
  · rw [State.flag_hw _ _ rfl, State.overwrote, State.rdW_setW1c, Fld.get_or_two_pow _ _ rfl (by decide)]
    rfl
  · rw [State.logMark, State.overwrote, State.rdW_setW1c_other _ _ (by decide), State.rdW_cnt_other _ (by decide)]
    exact s.logMark_logAdvance 1

theorem execLogQueueWrite_completes {s : State} {w : LogWait} {ws : List LogWait} (hq : s.log.queue = w :: ws) :
    Completes .logQueueWrite s fun t => (s.logUnread < 2048 → t.log.queue = ws ∧ t.regs = s.regs) ∧
      SMap.get LogEntry.zero t.log.ring (w.entry.seq % 2048) = w.entry ∧ w.entry.seq % 2048 ∉ t.log.bad ∧
      (∀ i, i < 2048 → i ≠ w.entry.seq % 2048 → SMap.get LogEntry.zero t.log.ring i = SMap.get LogEntry.zero s.log.ring i) ∧
      (2048 ≤ s.logUnread → Counted Reg.LOG_OVERWRITTEN s t ∧ t.flag Reg.LOG_STAT F.LOG_STAT_OVERRUN = true ∧
        t.logMark = (s.logMark + 1) % 2 ^ 32 ∧ Occurred 636 s t) := by
  by_cases hfull : 2048 ≤ s.logUnread
  · have hexec : exec .logQueueWrite s = .next ((s.overwrote w ws).evUm 12) := by
      show execLogQueueWrite s = _
      unfold execLogQueueWrite
      rw [hq]
      dsimp only
      rw [decide_eq_true hfull]
      rfl
    have hk := s.overwrote_kept w ws
    obtain ⟨hcnt, hovr, hmark⟩ := s.overwrote_told w ws
    have hr := RingKept.occur (s.overwrote w ws) 636
    have hring : RingKept ((s.logAdvance 1).logWritten w ws) (s.overwrote w ws) := .of_log rfl
    obtain ⟨h1, h2, h3⟩ := (s.logAdvance 1).logWritten_ring w ws
    have hev : ∀ k, evKey k = false → ((s.overwrote w ws).evUm 12).rdW k = (s.overwrote w ws).rdW k :=
      fun k he => State.rdW_occur _ (by decide) he
    refine .intro hexec ⟨fun h => absurd h (by omega), ?_, ?_, fun i _ hi => ?_, fun _ => ⟨?_, ?_, ?_, ?_⟩⟩
    · rw [State.evUm, hr.1, hring.1, h1]
    · rw [State.evUm, hr.2, hring.2]
      exact h2
    · rw [State.evUm, hr.1, hring.1, h3 i hi]
      rfl
    · rw [Counted, hev _ (by decide)]
      exact hcnt
    · rw [State.flag, State.fld_hw _ _ rfl, hev _ (by decide), ← State.fld_hw _ _ rfl]
      exact hovr
    · rw [State.logMark, hev _ (by decide)]
      exact hmark
    · exact Occurred.before_kept (by decide) (State.occurred _ (by decide) (by decide)) hk (by decide)
  · have hexec : exec .logQueueWrite s = .next (s.logWritten w ws) := by
      show execLogQueueWrite s = _
      unfold execLogQueueWrite
      rw [hq]
      dsimp only
      rw [decide_eq_false hfull]
      rfl
    obtain ⟨h1, h2, h3⟩ := s.logWritten_ring w ws
    exact .intro hexec ⟨fun _ => ⟨rfl, rfl⟩, h1, h2, fun i _ hi => h3 i hi, fun h => absurd h hfull⟩

theorem execLogRdseqWrite_inside {s : State} {v : BitVec 32} (h : (s.logTop + 2 ^ 32 - v.toNat) % 2 ^ 32 ≤ 2048) :
    Completes (.logRdseqWrite v) s fun t => t.logMark = v.toNat ∧ RegsKept [Reg.LOG_RDSEQ] s t := by
  refine .intro (t := s.wrW Reg.LOG_RDSEQ (BitVec.ofNat 64 v.toNat)) (congrArg Host.Outcome.next (if_pos h)) ⟨?_, .wrW _ _ (List.mem_singleton_self _)⟩
  have hv := v.isLt
  rw [State.logMark, State.rdW_wrW_same, BitVec.toNat_ofNat]
  omega

theorem execLogRdseqWrite_outside {s : State} {v : BitVec 32} (h : 2048 < (s.logTop + 2 ^ 32 - v.toNat) % 2 ^ 32) :
    Completes (.logRdseqWrite v) s fun t => t = s :=
  .intro (t := s) (congrArg Host.Outcome.next (if_neg (by omega))) rfl

theorem execPwShedCtrlRestore_completes (s : State) (v : BitVec 32) : Completes (.pwShedCtrlRestore v) s fun t =>
    t.pw.restore = s.pw.restore ||| v.toNat % 4096 ∧ t.regs = s.regs ∧ t.gen = s.gen :=
  .intro (t := s.askRestore v.toNat) rfl ⟨rfl, rfl, rfl⟩

/-! ## Reads and marks of the trouble log (R401, R553) -/

theorem execLogRead_completes {s : State} {h : UmHdr} {p : List Byte} (hc : s.umCheck h 0x0B00 p.length = none)
    (hi : leAt p 0 2 < 2048) (h1 : 1 ≤ leAt p 2 2) (hn : leAt p 2 2 ≤ 127) :
    Completes (.logRead h p []) s fun t => t.um = (s.reply h 0x0B00 stOK (leBytes 2 (s.logTop % 2048) ++ leBytes 2 (leAt p 2 2) ++
      List.replicate 28 0 ++ (List.range (leAt p 2 2)).flatMap (fun j =>
        if s.log.bad.contains ((leAt p 0 2 + j) % 2048) then List.replicate 32 0
        else (SMap.get LogEntry.zero s.log.ring ((leAt p 0 2 + j) % 2048)).bytes))).um ∧ t.log = s.log ∧ t.regs = s.regs := by
  refine .intro (show execLogRead h p s [] = _ from (State.umRun_eq hc _).trans
    (congrArg Host.Outcome.next (if_neg (by omega)))) ⟨rfl, ?_, State.reply_regs ..⟩
  exact State.reply_log ..

theorem execLogMark_completes {s : State} {h : UmHdr} {p : List Byte} {d : Nat} (hc : s.umCheck h 0x0B01 p.length = none)
    (hi : leAt p 0 2 < 2048) (hd : d = (leAt p 0 2 + 2048 - s.logMark % 2048) % 2048) (hlt : d < s.logUnread) :
    Completes (.logMark h p) s fun t => t.um = (s.reply h 0x0B01 stOK []).um ∧ t.logMark = (s.logMark + (d + 1)) % 2 ^ 32 ∧
      RegsKept [Reg.LOG_RDSEQ] s t := by
  subst hd
  refine .intro (show execLogMark h p s = _ from (State.umRun_eq hc _).trans (congrArg Host.Outcome.next (if_neg (by omega))))
    ⟨State.reply_um_congr (s := s) (State.wrW_um ..) .., ?_, ?_⟩
  · rw [State.logMark, State.rdW_of_regs (State.reply_regs ..)]
    exact s.logMark_logAdvance _
  · exact (RegsKept.wrW _ _ (List.mem_singleton_self _)).trans (.of_regs _ (State.reply_regs ..))

/-! ## The repair record (R556, R557) -/

theorem execRepairRecordWrite_completes {s : State} {c n : Nat} (hdue : s.repairDue = true) (hpath : s.bootPath ≤ 1) (h3 : s.on 3 = true)
    (hn : n = s.sec.fuses.dsn) (hcopy : c = s.flash.nextCopy n)
    (hlen : ((s.flash.entries n) ++ s.repairEntries.filter (fun e => !(recLast (s.flash.entries n)).contains e)).length ≤ 8188) :
    Completes (.repairRecordWrite true) s fun t => t.repairDue = false ∧ t.flash.slotA = s.flash.slotA ∧
      (if c = 0 then t.flash.rec0 else t.flash.rec1) = recordBytes n ((s.flash.seq n + 1) % 2 ^ 32)
        ((s.flash.entries n) ++ s.repairEntries.filter (fun e => !(recLast (s.flash.entries n)).contains e)) ∧
      (if c = 0 then t.flash.rec1 else t.flash.rec0) = (if c = 0 then s.flash.rec1 else s.flash.rec0) ∧ t.regs = s.regs := by
  subst hn hcopy
  generalize hes : s.flash.entries s.sec.fuses.dsn ++
    s.repairEntries.filter (fun e => !(recLast (s.flash.entries s.sec.fuses.dsn)).contains e) = es at hlen ⊢
  have hexec : exec (.repairRecordWrite true) s = .next ((s.setRepairDue false).updFlash fun f =>
      f.setRec (s.flash.nextCopy s.sec.fuses.dsn) (recordBytes s.sec.fuses.dsn ((f.seq s.sec.fuses.dsn + 1) % 2 ^ 32) es)) := by
    show execRepairRecordWrite true s = _
    unfold execRepairRecordWrite
    rw [if_pos ⟨hdue, hpath, h3⟩]
    dsimp only
    rw [hes, if_neg (by omega), if_pos rfl]
  refine .intro hexec ⟨rfl, ?_, ?_, ?_, rfl⟩
  · show (Flash.setRec _ _ _).slotA = _
    unfold Flash.setRec
    split
    · rfl
    · rfl
  · show (if _ then (Flash.setRec _ _ _).rec0 else (Flash.setRec _ _ _).rec1) = _
    unfold Flash.setRec
    split
    · rfl
    · rfl
  · show (if _ then (Flash.setRec _ _ _).rec1 else (Flash.setRec _ _ _).rec0) = _
    unfold Flash.setRec
    split
    · rfl
    · rfl

/-- Settles O54: a dip, a lasting warning, the supply's return, a conversion and its trip, the log's ring and marks, and the
repair record, each from its own command's rule. -/
theorem supplyTemperatureAndLogKeepTheirRecords : Obligations.SupplyTemperatureAndLogKeepTheirRecords := by
  unfold Obligations.SupplyTemperatureAndLogKeepTheirRecords
  exact ⟨fun _ _ _ _ hm hd hmv hl => execSupplyDipRecorded_completes hm hd hmv hl,
    fun _ _ _ _ _ hd ho => execSupplyDipEnd_owned hd ho,
    fun _ _ _ _ hd h1 hn hmv hm => execSupplyDipEnd_glitch hd h1 hn hmv hm,
    fun _ _ h => execSupplyOver_begins h,
    fun _ _ => execSupplyOver_ends,
    fun _ _ hdly hw h0 hat hs hm hq => execSupplyShed_completes hdly hw h0 hat hs hm hq,
    fun _ hd hc => execSupplyReturn_completes hd hc,
    fun _ _ hlen h1 h3 hm hat hcool => execThermalConversion_shows hlen h1 h3 hm hat hcool,
    fun _ _ hlen h1 h3 hm hq hat hhot hc => execThermalConversion_trips hlen h1 h3 hm hq hat hhot hc,
    fun s v => execPwShedCtrlRestore_completes s v,
    fun _ _ _ hq => execLogQueueWrite_completes hq,
    fun _ _ h => execLogRdseqWrite_inside h,
    fun _ _ h => execLogRdseqWrite_outside h,
    fun _ _ _ hc hi h1 hn => execLogRead_completes hc hi h1 hn,
    fun _ _ _ _ hc hi hd hlt => execLogMark_completes hc hi hd hlt,
    fun _ _ _ hdue hpath h3 hn hcopy hlen => execRepairRecordWrite_completes hdue hpath h3 hn hcopy hlen⟩

end Sys2Proof.Machine
end

section
/-! SUPPORT. The DRBG's tests, restarts and seeds, and commands that leave the registers alone (O59). -/

namespace Sys2Proof.Machine

set_option Elab.async false

/-! ## The DRBG's tests, restarts and seeds (R521 to R525) -/

theorem execNoiseHealthFailure_passes (s : State) (l : List Byte) (w : Nat) (h : noiseTest l w = 0) :
    Completes (.noiseHealthFailure l w) s fun t => t = s :=
  .intro (t := s) (if_neg fun hc => hc.2.2 h) rfl

theorem State.rngTest_sec (s : State) (re : Bool) : (s.rngTest re).sec = { s.sec with testAt := s.ticks, restart := re } := rfl

theorem State.rngTest_kept (s : State) (re : Bool) : RegsKept [Reg.SEC_RNG_STAT] s (s.rngTest re) :=
  .setFld s _ _ (List.mem_singleton_self _)

theorem State.rng_rngTest (s : State) (re : Bool) : (s.rngTest re).rng = 1 := by
  rw [State.rng, State.rngTest, State.updSec_fld, State.fld_setFld s _ _ _ (by decide)]
  rfl

theorem execDrbgRestart_completes {s : State} (h4 : s.on 4 = true) (hr : s.rng = 2)
    (hn : s.fld Reg.SEC_RNG_STAT F.SEC_RNG_STAT_RESTARTS < 3) (hat : s.sec.failAt + secTc ≤ s.ticks) :
    Completes .drbgRestart s fun t => t.rng = 1 ∧ t.sec.testAt = s.ticks ∧ t.sec.restart = true ∧
      t.fld Reg.SEC_RNG_STAT F.SEC_RNG_STAT_RESTARTS = s.fld Reg.SEC_RNG_STAT F.SEC_RNG_STAT_RESTARTS + 1 ∧
      RegsKept [Reg.SEC_RNG_STAT] s t := by
  refine .intro (t := (s.setFld Reg.SEC_RNG_STAT F.SEC_RNG_STAT_RESTARTS (s.fld Reg.SEC_RNG_STAT F.SEC_RNG_STAT_RESTARTS + 1)).rngTest true)
    (if_pos ⟨h4, hr, hn, hat⟩) ⟨State.rng_rngTest _ _, rfl, rfl, ?_, ?_⟩
  · rw [State.rngTest, State.updSec_fld, State.fld_setFld_other _ _ _ _ _ (by decide), State.fld_setFld s _ _ _ (by decide)]
    exact Nat.mod_eq_of_lt (show _ < 2 ^ 2 by omega)
  · exact (RegsKept.setFld s _ _ (List.mem_singleton_self _)).trans (State.rngTest_kept _ _)

theorem execSecRngCtrlRetry_completes {s : State} (h4 : s.on 4 = true) (hr : s.rng = 2) :
    Completes .secRngCtrlRetry s fun t => t.rng = 1 ∧ t.sec.testAt = s.ticks ∧ t.sec.restart = true ∧
      RegsKept [Reg.SEC_RNG_STAT] s t := by
  refine .intro (t := s.rngTest true) ?_ ⟨State.rng_rngTest _ _, rfl, rfl, State.rngTest_kept _ _⟩
  show execSecRngCtrlRetry s = _
  unfold execSecRngCtrlRetry State.rngRetry
  rw [if_pos h4, if_pos hr]

theorem execDrbgReseed_completes {s : State} (hr : s.rngReady = true) (hd : 2 ^ 20 ≤ s.sec.gens ∨ s.sec.seedAt + secTc ≤ s.ticks) :
    Completes .drbgReseed s fun t => t.sec.gens = 0 ∧ t.sec.seedAt = s.ticks ∧ t.regs = s.regs :=
  .intro (show execDrbgReseed s = _ from if_pos ⟨hr, hd⟩) ⟨rfl, rfl, rfl⟩

/-- The DRBG as its instantiation leaves it. -/
def State.rngUp (s : State) : State :=
  ((s.setFld Reg.SEC_RNG_STAT F.SEC_RNG_STAT_STATE 0).setFld Reg.SEC_RNG_STAT F.SEC_RNG_STAT_RESTARTS 0).updSec fun c =>
    { c with gens := 0, seedAt := s.ticks, restart := false }

theorem State.rngUp_kept (s : State) : RegsKept [Reg.SEC_RNG_STAT] s s.rngUp :=
  (RegsKept.setFld s _ _ (List.mem_singleton_self _)).trans (.setFld _ _ _ (List.mem_singleton_self _))

theorem State.rng_rngUp (s : State) : s.rngUp.rng = 0 := by
  rw [State.rng, State.rngUp, State.updSec_fld, State.fld_setFld_other _ _ _ _ _ (by decide), State.fld_setFld s _ _ _ (by decide)]
  rfl

theorem State.restarts_rngUp (s : State) : s.rngUp.fld Reg.SEC_RNG_STAT F.SEC_RNG_STAT_RESTARTS = 0 := by
  rw [State.rngUp, State.updSec_fld, State.fld_setFld _ _ _ _ (by decide)]
  rfl

theorem State.rngReady_rngUp {s : State} (h4 : s.on 4 = true) : s.rngUp.rngReady = true := by
  rw [State.rngReady, State.rng_rngUp, State.on_eq_of_rdW (s.rngUp_kept _ (by decide)), h4]
  rfl

/-- A nonce where there is none. -/
def State.nonceHeld (s : State) : State := if s.sec.nonce.isNone then s.newNonce else s

theorem State.nonceHeld_regs (s : State) : s.nonceHeld.regs = s.regs := by
  unfold State.nonceHeld
  split
  · exact (State.newNonce_in s).same .regs rfl
  · rfl

theorem State.nonceHeld_sec {s : State} (h : s.rngReady = true) : s.nonceHeld.sec.nonce.isSome = true ∧
    (s.sec.nonce.isSome = true → s.nonceHeld.sec.nonce = s.sec.nonce) ∧ s.nonceHeld.sec.seedAt = s.sec.seedAt := by
  unfold State.nonceHeld
  split
  next hn =>
    rw [State.newNonce, if_pos h]
    exact ⟨rfl, fun hs => by simp [Option.isNone_iff_eq_none.1 hn] at hs, rfl⟩
  next hn => exact ⟨by simpa [Option.isSome_iff_ne_none] using hn, fun _ => rfl, rfl⟩

theorem execDrbgInstantiated_completes {s : State} (h4 : s.on 4 = true) (hr : s.rng = 1) (hat : s.sec.testAt + 97280 ≤ s.ticks) :
    Completes .drbgInstantiated s fun t => t.rng = 0 ∧ t.fld Reg.SEC_RNG_STAT F.SEC_RNG_STAT_RESTARTS = 0 ∧
      t.sec.seedAt = s.ticks ∧ t.sec.nonce.isSome = true ∧ (s.sec.nonce.isSome = true → t.sec.nonce = s.sec.nonce) ∧
      (s.sec.restart = true → OccurredBit 571 Reg.SEC_EVENT 3 s t) ∧ RegsKeptEv [Reg.SEC_RNG_STAT, Reg.SEC_EVENT] s t := by
  have hexec : exec .drbgInstantiated s = .next (if s.sec.restart then s.rngUp.nonceHeld.evSec 3 else s.rngUp.nonceHeld) :=
    if_pos ⟨h4, hr, hat⟩
  obtain ⟨hn, hn', hseed⟩ := State.nonceHeld_sec (State.rngReady_rngUp h4)
  have hk : RegsKept [Reg.SEC_RNG_STAT] s s.rngUp.nonceHeld := s.rngUp_kept.trans (.of_regs _ (State.nonceHeld_regs _))
  have hstat : s.rngUp.nonceHeld.rdW Reg.SEC_RNG_STAT = s.rngUp.rdW Reg.SEC_RNG_STAT := State.rdW_of_regs (State.nonceHeld_regs _) _
  generalize hu : s.rngUp.nonceHeld = u at *
  have hev : (if s.sec.restart then u.evSec 3 else u).rdW Reg.SEC_RNG_STAT = s.rngUp.rdW Reg.SEC_RNG_STAT := by
    rw [State.rdW_ite, State.rdW_evSec _ (by decide) (by decide) (by decide), ite_self, hstat]
  have hsec : (if s.sec.restart then u.evSec 3 else u).sec = u.sec := by
    split
    · exact State.evSec_sec ..
    · rfl
  refine .intro hexec ⟨?_, ?_, ?_, ?_, fun h => ?_, fun h => ?_, ?_⟩
  · rw [State.rng, State.fld_hw _ _ rfl, hev, ← State.fld_hw _ _ rfl]
    exact s.rng_rngUp
  · rw [State.fld_hw _ _ rfl, hev, ← State.fld_hw _ _ rfl]
    exact s.restarts_rngUp
  · rw [hsec, hseed]
    rfl
  · rw [hsec]
    exact hn
  · rw [hsec]
    exact hn' h
  · rw [if_pos h]
    exact (u.occurredBit (i := 571) (by decide) (by decide) (by decide) none (by decide) (by decide)).before (hk _ (by decide))
      (hk _ (by decide))
  · exact (hk.ev.mono (by simp)).trans (.ite (.occurBit _ _ (by decide) _ _ (by simp)) (.refl _ _))

/-! ## Commands that leave the registers alone (R401, R519, R536) -/

theorem execSecStatus_completes {s : State} {h : UmHdr} {p : List Byte} (hc : s.umCheck h 0x0A00 p.length = none) :
    Completes (.secStatus h p) s fun t => t = s.reply h 0x0A00 stOK
      (([Reg.SEC_STATE, Reg.SEC_ARB, Reg.SEC_TAMPER_STAT, Reg.SEC_RNG_STAT].flatMap (fun k => leBytes 4 (s.regVal k).toNat)) ++
        s.sec.nonce.getD (List.replicate 32 0)) := by
  refine .intro (show execSecStatus h p s = _ from State.umRun_eq hc _) ?_
  simp only [List.flatMap_cons, List.flatMap_nil, List.append_assoc, List.append_nil]

theorem execCurveOperationComplete_early {s : State} {v : Bool} {o : CurveOp} {os : List CurveOp} {b : Nat}
    (ho : s.sec.ops = o :: os) (hb : o.start = some b) (hd : s.ticks < b + o.dur) :
    Completes (.curveOperationComplete v) s fun t => t = s := by
  refine .intro (t := s) ?_ rfl
  show execCurveOperationComplete v s = _
  unfold execCurveOperationComplete
  simp only [ho, hb]
  exact if_neg (by omega)

theorem execTapInstruction_completes (s : State) (ir : Fin 8) : Completes (.tapInstruction ir) s fun t =>
    t.sec.tap = (if s.tapTakes ir then ir.val else 0) ∧ t.regs = s.regs :=
  .intro (show execTapInstruction ir s = _ from rfl) ⟨rfl, rfl⟩

end Sys2Proof.Machine
end

section
/-! SUPPORT. A noise source that fails, and the debug level (O59). -/

namespace Sys2Proof.Machine

set_option Elab.async false

/-! ## Requests that end for want of random bits (R524) -/

/-- What an answer to a requester leaves: the registers, the trouble log and the security block. -/
structure SecQuiet (s t : State) : Prop where
  regs : t.regs = s.regs
  log : t.log = s.log
  sec : t.sec = s.sec

theorem SecQuiet.trans {s t u : State} (h : SecQuiet s t) (h' : SecQuiet t u) : SecQuiet s u :=
  ⟨h'.regs.trans h.regs, h'.log.trans h.log, h'.sec.trans h.sec⟩

theorem SecQuiet.spdmSend (s : State) (src : SpdmSrc) (session : Option Nat) (bs : List Byte) :
    SecQuiet s (s.spdmSend src session bs) :=
  ⟨(State.spdmSend_in ..).same .regs rfl, (State.spdmSend_in ..).same .log rfl, (State.spdmSend_in ..).same .sec rfl⟩

theorem SecQuiet.spdmError (s : State) (src : SpdmSrc) (session : Option Nat) (code : Nat) :
    SecQuiet s (s.spdmError src session code) := .spdmSend ..

/-- A signature that cannot be made is answered with an error, and nothing else ends. -/
theorem State.ceAborts_signs : ∀ {os : List CurveOp} (s : State), (∀ o ∈ os, o.isSign = true) → SecQuiet s (s.ceAborts os)
  | [], _, _ => ⟨rfl, rfl, rfl⟩
  | o :: os, s, h => by
    have ho : ∃ src session ans opens, o.task = .sign src session ans opens := by
      have hs := h o (.head _)
      unfold CurveOp.isSign at hs
      split at hs
      next src session ans opens ht => exact ⟨src, session, ans, opens, ht⟩
      next => exact absurd hs Bool.false_ne_true
    obtain ⟨src, session, ans, opens, ho⟩ := ho
    rw [State.ceAborts, ho]
    exact (SecQuiet.spdmError s src session 5).trans (State.ceAborts_signs _ fun o hm => h o (.tail _ hm))

/-- The security block without the operations that wait for random bits. -/
def SecRt.calm (c : SecRt) : SecRt := { c with ops := c.ops.filter fun o => !o.needsRandom }

theorem State.entropyFaults_quiet (s : State) : SecQuiet (s.updSec SecRt.calm) s.entropyFaults :=
  State.ceAborts_signs (s.updSec SecRt.calm) fun _ hm => (Bool.and_eq_true_iff.1 (List.mem_filter.1 hm).2).2

theorem State.entropyFaults_regs (s : State) : s.entropyFaults.regs = s.regs := s.entropyFaults_quiet.regs
theorem State.entropyFaults_log (s : State) : s.entropyFaults.log = s.log := s.entropyFaults_quiet.log
theorem State.entropyFaults_sec (s : State) : s.entropyFaults.sec = s.sec.calm := s.entropyFaults_quiet.sec

/-! ## A noise source that fails (R521, R523) -/

/-- The DRBG as a failed test leaves it. -/
def State.rngFail (s : State) (test : Nat) : State :=
  (((s.setFld Reg.SEC_RNG_STAT F.SEC_RNG_STAT_STATE 2).setFld Reg.SEC_RNG_STAT F.SEC_RNG_STAT_LAST_TEST test).cnt
    Reg.SEC_RNG_FAILS).updSec fun c => { c with failAt := s.ticks, gens := 0 }

theorem State.rngFail_told (s : State) {test : Nat} (ht : test < 4) : (s.rngFail test).rng = 2 ∧
    (s.rngFail test).fld Reg.SEC_RNG_STAT F.SEC_RNG_STAT_LAST_TEST = test ∧ Counted Reg.SEC_RNG_FAILS s (s.rngFail test) := by
  refine ⟨?_, ?_, ?_⟩
  · rw [State.rng, State.rngFail, State.updSec_fld, State.fld_hw _ _ rfl, State.rdW_cnt_other _ (by decide), ← State.fld_hw _ _ rfl,
      State.fld_setFld_other _ _ _ _ _ (by decide), State.fld_setFld _ _ _ _ (by decide)]
    rfl
  · rw [State.rngFail, State.updSec_fld, State.fld_hw _ _ rfl, State.rdW_cnt_other _ (by decide), ← State.fld_hw _ _ rfl,
      State.fld_setFld _ _ _ _ (by decide)]
    exact Nat.mod_eq_of_lt (show test < 2 ^ 2 from ht)
  · rw [Counted, State.rngFail, State.updSec_rdW, State.rdW_cnt, State.rdW_setFld_other _ _ _ (by decide),
      State.rdW_setFld_other _ _ _ (by decide)]

theorem noiseTest_lt (l : List Byte) (w : Nat) : noiseTest l w < 3 := by
  unfold noiseTest
  split
  · decide
  · split
    · decide
    · decide

theorem execNoiseHealthFailure_fails {s : State} {l : List Byte} {w : Nat} (h4 : s.on 4 = true) (hr : s.rng ≠ 2)
    (ht : noiseTest l w ≠ 0) :
    Completes (.noiseHealthFailure l w) s fun t => t.rng = 2 ∧
      t.fld Reg.SEC_RNG_STAT F.SEC_RNG_STAT_LAST_TEST = (if s.rng = 1 then 3 else noiseTest l w) ∧ Counted Reg.SEC_RNG_FAILS s t ∧
      (t.rdW Reg.SEC_EVENT).toNat.testBit 2 = true ∧ t.sec.failAt = s.ticks ∧ t.sec.ops.all (fun o => !o.needsRandom) = true := by
  have hlt := noiseTest_lt l w
  generalize hn : (if s.rng = 1 then 3 else noiseTest l w) = test
  have hexec : exec (.noiseHealthFailure l w) s = .next ((s.rngFail test).entropyFaults.evSec 2) := by
    subst hn
    exact if_pos ⟨h4, hr, ht⟩
  obtain ⟨hrng, hlast, hcnt⟩ := s.rngFail_told (test := test) (by split at hn <;> omega)
  have hev : ∀ k, evKey k = false → k ≠ Reg.SEC_EVENT → ((s.rngFail test).entropyFaults.evSec 2).rdW k = (s.rngFail test).rdW k :=
    fun k he h => (State.rdW_evSec _ (by decide) he h).trans (State.rdW_of_regs (State.entropyFaults_regs _) k)
  have hsec : ((s.rngFail test).entropyFaults.evSec 2).sec = (s.rngFail test).sec.calm :=
    (State.evSec_sec ..).trans (State.entropyFaults_sec _)
  refine .intro hexec ⟨?_, ?_, ?_, State.occurBit_bit _ (by decide) _ (by decide) _ (by decide), ?_, ?_⟩
  · rw [State.rng, State.fld_hw _ _ rfl, hev _ (by decide) (by decide), ← State.fld_hw _ _ rfl]
    exact hrng
  · rw [State.fld_hw _ _ rfl, hev _ (by decide) (by decide), ← State.fld_hw _ _ rfl]
    exact hlast
  · rw [Counted, hev _ (by decide) (by decide)]
    exact hcnt
  · rw [hsec]
    rfl
  · rw [hsec]
    exact List.all_eq_true.2 fun o hm => (List.mem_filter.1 hm).2

/-! ## The debug level (R535, R539) -/

theorem State.setDbg_told (s : State) (v : Nat) (hv : v < 4) : (s.setDbg v).fld Reg.SEC_STATE F.SEC_STATE_DBG = v ∧
    RegsKeptEv [Reg.SEC_STATE, Reg.SEC_EVENT] s (s.setDbg v) ∧
    (s.fld Reg.SEC_STATE F.SEC_STATE_DBG ≠ 0 → v = 0 → OccurredBit 573 Reg.SEC_EVENT 5 s (s.setDbg v)) := by
  unfold State.setDbg
  extract_lets was u
  have hk : RegsKeptEv [Reg.SEC_STATE, Reg.SEC_EVENT] s u := .setFld _ s _ _ (by simp)
  have hu : u.fld Reg.SEC_STATE F.SEC_STATE_DBG = v :=
    (State.fld_setFld s _ _ _ (by decide)).trans (Nat.mod_eq_of_lt (show v < 2 ^ 2 from hv))
  have hcnt : u.rdW (Reg.EV_CNT 573) = s.rdW (Reg.EV_CNT 573) := State.rdW_setFld_other _ _ _ (by decide)
  clear_value u
  have hev : ∀ e < 400, (u.evSec e).fld Reg.SEC_STATE F.SEC_STATE_DBG = v := fun e he => by
    rw [State.fld_hw _ _ rfl, State.rdW_evSec _ he (by decide) (by decide), ← State.fld_hw _ _ rfl, hu]
  have hkev : ∀ e < 400, RegsKeptEv [Reg.SEC_STATE, Reg.SEC_EVENT] s (u.evSec e) := fun e he =>
    hk.trans (.occurBit _ _ (by omega) _ _ (by simp))
  split
  next h => exact ⟨hev _ (by decide), hkev _ (by decide), fun _ h0 => absurd h0 h.2⟩
  next =>
    split
    next h =>
      exact ⟨hev _ (by decide), hkev _ (by decide), fun _ _ =>
        (u.occurredBit (i := 573) (by decide) (by decide) (by decide) none (by decide) (by decide)).before
          (hk _ (by decide) (by decide)) hcnt⟩
    next h => exact ⟨hu, hk, fun hw h0 => absurd ⟨hw, h0⟩ h⟩

theorem execSecDbgCtrlLock_completes {s : State} (h4 : s.on 4 = true) (hlc : s.sec.lcNow = 2) :
    Completes .secDbgCtrlLock s fun t => t.fld Reg.SEC_STATE F.SEC_STATE_DBG = 0 ∧
      (s.fld Reg.SEC_STATE F.SEC_STATE_DBG ≠ 0 → OccurredBit 573 Reg.SEC_EVENT 5 s t) ∧
      RegsKeptEv [Reg.SEC_STATE, Reg.SEC_EVENT] s t := by
  have hexec : exec .secDbgCtrlLock s = .next (s.setDbg 0) := by
    show execSecDbgCtrlLock s = _
    unfold execSecDbgCtrlLock State.lockDebug
    rw [if_pos h4, if_pos hlc]
  obtain ⟨hd, hk, hev⟩ := s.setDbg_told 0 (by decide)
  exact .intro hexec ⟨hd, fun h => hev h rfl, hk⟩

end Sys2Proof.Machine
end

section
/-! SUPPORT. The end of a fuse programming (O59). -/

namespace Sys2Proof.Machine

set_option Elab.async false

/-! ## The end of a fuse programming (R510, R512, R533) -/

/-- A final reply leaves every register but the log's own. -/
theorem State.rdW_final (s : State) (h : UmHdr) (op status detail : Nat) (result : List Byte) {k : Nat} (hs : k ≠ Reg.LOG_SEQ)
    (hl : k ≠ Reg.LOG_LOST) : (s.final h op status detail result).rdW k = s.rdW k := by
  unfold State.final
  extract_lets s1 r
  have h1 : s1.rdW k = s.rdW k := by
    unfold s1
    split
    · exact State.rdW_logPut _ _ hs hl
    · rfl
  split
  · rw [State.updUm_rdW, State.rdW_of_regs ((State.post_in ..).same .regs rfl), h1]
  · exact h1

theorem Fuses.program_lc (f : Fuses) (g : FuseProg) (lc : Nat) (rest : Bool) : (f.program g lc rest).lc = f.lc ||| g.lc &&& lc := by
  unfold Fuses.program
  cases rest
  · rfl
  · cases g.uds
    · cases g.hashes
      · rfl
      · rfl
    · cases g.hashes
      · rfl
      · rfl

theorem Fuses.program_uds (f : Fuses) (g : FuseProg) (lc : Nat) : (f.program g lc false).uds = f.uds := rfl

/-- The fuses as the device reads them back. -/
def State.fusesRead (s : State) (g : FuseProg) (lc : Nat) (rest : Bool) : State :=
  (s.updSec fun c => { c with prog := none, fuses := c.fuses.program g lc rest }).setFld Reg.SEC_STATE F.SEC_STATE_UDS_OK
    (if (s.sec.fuses.program g lc rest).udsOk then 1 else 0)

/-- The change that a device-wide reset will take up. -/
def State.lcPending (s : State) : State :=
  (s.updSec fun c => { c with lcPend := true }).setFld Reg.SEC_STATE F.SEC_STATE_LC_PEND 1

/-- The final reply of the command that programmed, where one did. -/
def State.fuseFinal (s : State) (hdr : Option UmHdr) (status : Nat) : State :=
  match hdr with
  | some h => s.final h 0x0A03 status noDetail []
  | none => s

theorem State.fuseFinal_sec (s : State) (hdr : Option UmHdr) (status : Nat) : (s.fuseFinal hdr status).sec = s.sec := by
  cases hdr
  · rfl
  · exact State.final_sec ..

theorem State.rdW_fuseFinal (s : State) (hdr : Option UmHdr) (status : Nat) {k : Nat} (hs : k ≠ Reg.LOG_SEQ) (hl : k ≠ Reg.LOG_LOST) :
    (s.fuseFinal hdr status).rdW k = s.rdW k := by
  cases hdr
  · rfl
  · exact State.rdW_final _ _ _ _ _ _ hs hl

theorem State.fusesRead_sec (s : State) (g : FuseProg) (lc : Nat) (rest : Bool) :
    (s.fusesRead g lc rest).sec = { s.sec with prog := none, fuses := s.sec.fuses.program g lc rest } := State.setFld_sec ..

theorem State.fusesRead_kept (s : State) (g : FuseProg) (lc : Nat) (rest : Bool) : RegsKept [Reg.SEC_STATE] s (s.fusesRead g lc rest) :=
  .setFld _ _ _ (List.mem_singleton_self _)

/-- Without responses that waited, the queue of them stays empty. -/
theorem State.noActs {s : State} (h : s.sec.acts = []) : s.updSec (fun c => { c with acts := [] }) = s := by
  unfold State.updSec
  rw [← h]

theorem execFuseProgrammingComplete_eq {s : State} {lc : BitVec 9} {g : FuseProg} {rest ok : Bool} (hg : s.sec.prog = some g)
    (hacts : s.sec.acts = []) (hok : (rest && (g.lc &&& lc.toNat) == g.lc) = ok) :
    exec (.fuseProgrammingComplete lc rest) s = .next ((if ok then (s.fusesRead g lc.toNat rest).lcPending.evSec 7
      else (s.fusesRead g lc.toNat rest).evSec 14).fuseFinal g.hdr (if ok then stOK else stInternal)) := by
  generalize hu : (if ok then (s.fusesRead g lc.toNat rest).lcPending.evSec 7
      else (s.fusesRead g lc.toNat rest).evSec 14).fuseFinal g.hdr (if ok then stOK else stInternal) = u
  have hacts' : u.sec.acts = [] := by
    rw [← hu, State.fuseFinal_sec, apply_ite State.sec, State.evSec_sec, State.evSec_sec, State.lcPending, State.setFld_sec]
    show SecRt.acts (if ok then { (s.fusesRead g lc.toNat rest).sec with lcPend := true } else _) = _
    rw [State.fusesRead_sec]
    split
    · exact hacts
    · exact hacts
  have hexec : exec (.fuseProgrammingComplete lc rest) s = .next ((u.updSec fun c => { c with acts := [] }).tamperActs u.sec.acts) := by
    show execFuseProgrammingComplete lc rest s = _
    unfold execFuseProgrammingComplete
    subst hok hu
    rw [hg]
    rfl
  rw [hexec, State.noActs hacts', hacts']
  rfl

theorem execFuseProgrammingComplete_good {s : State} {lc : BitVec 9} {g : FuseProg} (hg : s.sec.prog = some g)
    (hlc : g.lc &&& lc.toNat = g.lc) (hacts : s.sec.acts = []) :
    Completes (.fuseProgrammingComplete lc true) s fun t => t.sec.prog = none ∧ t.sec.fuses.lc = s.sec.fuses.lc ||| g.lc ∧
      t.sec.lcNow = s.sec.lcNow ∧ t.sec.lcPend = true ∧ t.flag Reg.SEC_STATE F.SEC_STATE_LC_PEND = true ∧
      OccurredBit 575 Reg.SEC_EVENT 7 s t := by
  have hsec : (((s.fusesRead g lc.toNat true).lcPending.evSec 7).fuseFinal g.hdr stOK).sec =
      { s.sec with prog := none, fuses := s.sec.fuses.program g lc.toNat true, lcPend := true } := by
    rw [State.fuseFinal_sec, State.evSec_sec, State.lcPending, State.setFld_sec]
    show { (s.fusesRead g lc.toNat true).sec with lcPend := true } = _
    rw [State.fusesRead_sec]
  have hk : RegsKept [Reg.SEC_STATE] s (s.fusesRead g lc.toNat true).lcPending :=
    RegsKept.trans (s.fusesRead_kept _ _ _) (.setFld _ _ _ (List.mem_singleton_self _))
  have hpend : (s.fusesRead g lc.toNat true).lcPending.fld Reg.SEC_STATE F.SEC_STATE_LC_PEND = 1 := State.fld_setFld _ _ _ _ (by decide)
  refine .intro (execFuseProgrammingComplete_eq (ok := true) hg hacts (by rw [hlc]; simp)) ?_
  simp only [if_true]
  generalize (s.fusesRead g lc.toNat true).lcPending = u at *
  refine ⟨?_, ?_, ?_, ?_, ?_, ?_⟩
  · rw [hsec]
  · rw [hsec]
    show (Fuses.program _ _ _ _).lc = _
    rw [Fuses.program_lc, hlc]
  · rw [hsec]
  · rw [hsec]
  · rw [State.flag, State.fld_hw _ _ rfl, State.rdW_fuseFinal _ _ _ (by decide) (by decide),
      State.rdW_evSec _ (by decide) (by decide) (by decide), ← State.fld_hw _ _ rfl, hpend]
    rfl
  · refine OccurredBit.after ((u.occurredBit (i := 575) (by decide) (by decide) (b := 7) (by decide) none (by decide) (by decide)).before
      (hk _ (by decide)) (hk _ (by decide))) (fun h => ?_) (State.rdW_fuseFinal _ _ _ (by decide) (by decide))
    rwa [State.rdW_fuseFinal _ _ _ (by decide) (by decide)]

theorem execFuseProgrammingComplete_bad {s : State} {lc : BitVec 9} {g : FuseProg} (hg : s.sec.prog = some g) (hacts : s.sec.acts = []) :
    Completes (.fuseProgrammingComplete lc false) s fun t => t.sec.prog = none ∧ t.sec.lcPend = s.sec.lcPend ∧
      t.sec.fuses.uds = s.sec.fuses.uds ∧ OccurredBit 582 Reg.SEC_EVENT 14 s t := by
  have hsec : (((s.fusesRead g lc.toNat false).evSec 14).fuseFinal g.hdr stInternal).sec =
      { s.sec with prog := none, fuses := s.sec.fuses.program g lc.toNat false } := by
    rw [State.fuseFinal_sec, State.evSec_sec, State.fusesRead_sec]
  have hk := s.fusesRead_kept g lc.toNat false
  refine .intro (execFuseProgrammingComplete_eq (ok := false) hg hacts rfl) ?_
  simp only [Bool.false_eq_true, if_false]
  generalize s.fusesRead g lc.toNat false = u at *
  refine ⟨?_, ?_, ?_, ?_⟩
  · rw [hsec]
  · rw [hsec]
  · rw [hsec]
    exact Fuses.program_uds ..
  · refine OccurredBit.after ((u.occurredBit (i := 582) (by decide) (by decide) (b := 14) (by decide) none (by decide) (by decide)).before
      (hk _ (by decide)) (hk _ (by decide))) (fun h => ?_) (State.rdW_fuseFinal _ _ _ (by decide) (by decide))
    rwa [State.rdW_fuseFinal _ _ _ (by decide) (by decide)]

end Sys2Proof.Machine
end

section
/-! SUPPORT. The curve engine's queue, and images in flash (O59). -/

namespace Sys2Proof.Machine

set_option Elab.async false

/-! ## Operations that join the curve engine's queue (R518) -/

/-- A queue whose head runs. -/
def opsStarted (now : Nat) : List CurveOp → List CurveOp
  | o :: os => { o with start := some (o.start.getD now) } :: os
  | [] => []

theorem State.ceStart_ops (s : State) : s.ceStart.sec.ops = opsStarted s.ticks s.sec.ops := by
  show (match s.sec.ops with
    | o :: os => { o with start := some (o.start.getD s.ticks) } :: os
    | [] => ([] : List CurveOp)) = _
  cases s.sec.ops
  · rfl
  · rfl

section
variable (s : State) (t : CurveTask) (dur : Nat)

theorem State.cePut_ops : (s.cePut t dur).sec.ops = opsStarted s.ticks (s.sec.ops ++ [⟨t, dur, none⟩]) := State.ceStart_ops _

theorem State.cePut_um : (s.cePut t dur).um = s.um := rfl
theorem State.cePut_regs : (s.cePut t dur).regs = s.regs := rfl
theorem State.cePut_flash : (s.cePut t dur).flash = s.flash := rfl
theorem State.cePut_fuses : (s.cePut t dur).sec.fuses = s.sec.fuses := rfl
theorem State.cePut_fw : (s.cePut t dur).sec.fw = s.sec.fw := rfl

theorem State.cePut_length : (s.cePut t dur).sec.ops.length = s.sec.ops.length + 1 := by
  rw [State.cePut_ops]
  cases s.sec.ops
  · rfl
  · simp [opsStarted]

/-- The operation stands last, whether it starts or waits. -/
theorem State.cePut_last {p : CurveOp → Bool} (hp : ∀ b, p ⟨t, dur, b⟩ = true) : (s.cePut t dur).sec.ops.getLast?.any p = true := by
  rw [State.cePut_ops]
  rcases s.sec.ops with _ | ⟨o, os⟩
  · exact hp _
  · show Option.any p ((_ :: os ++ [_]).getLast?) = true
    rw [List.getLast?_concat]
    exact hp none

end

/-! ## What a command that is accepted owes (R386) -/

section
variable (s : State) (h : UmHdr) (op : Nat) (res : List Byte)

theorem State.accept_owed : (s.accept h op res).um.owed = s.um.owed ++ [(h, op)] := by
  unfold State.accept State.accepted State.post
  simp only [State.updUm_um]
  split
  · rfl
  · rfl

variable {s}

/-- A reply falls due where no reset discarded it. -/
theorem State.post_due (hv : s.um.void = []) (r : Reply) : (s.post r).um = { s.um with due := s.um.due ++ [r] } := by
  unfold State.post
  rw [State.updUm_um, if_neg (by rw [hv]; exact Bool.false_ne_true)]

theorem State.accept_due (hv : s.um.void = []) : ∃ r : Reply, (r.hdr, r.status) = (h, stAccepted) ∧
    (s.accept h op res).um.due = s.um.due ++ [r] ∧ (s.accept h op res).um.void = [] := by
  unfold State.accept State.accepted
  rw [State.updUm_um, State.updUm_um, State.post_due hv]
  exact ⟨_, rfl, rfl, hv⟩

theorem State.final_due {status detail : Nat} (hst : status ≠ stInternal) (hv : s.um.void = []) (ho : (h, op) ∈ s.um.owed) :
    ∃ r : Reply, (r.hdr, r.status) = (h, status) ∧ (s.final h op status detail res).um.due = s.um.due ++ [r] := by
  unfold State.final
  dsimp only
  rw [if_neg hst, if_pos (List.contains_iff_mem.2 ho), State.updUm_um, State.post_due hv]
  exact ⟨_, rfl, rfl⟩

end

/-! ## The checks of an image (R515, R517) -/

section
variable {s : State} (h : UmHdr)

/-- The image that is checked. -/
def State.slotImage (s : State) (slotA : Bool) : List Byte := if slotA then s.flash.slotA else s.slotBImage

theorem State.slotImage_false (s : State) : s.slotImage false = s.slotBImage := if_neg Bool.false_ne_true

theorem State.fwCheck_fails {slotA : Bool} {st : Nat} (hst : s.sec.fuses.imageCheck (s.slotImage slotA) = st) (h1 : st ≠ 1) :
    s.fwCheck h slotA = s.fwFail h st := by
  subst hst
  exact if_pos h1

/-- What a failed check leaves. -/
structure FwFailed (h : UmHdr) (st : Nat) (s t : State) : Prop where
  sec : t.sec = { s.sec with fw := none }
  flash : t.flash = s.flash
  due : s.um.void = [] → (h, 0x0A02) ∈ s.um.owed → ∃ r : Reply,
    (r.hdr, r.status) = (h, if st = 4 then stRollback else stAuthFail) ∧ t.um.due = s.um.due ++ [r]

theorem State.fwFail_failed (s : State) (st : Nat) : FwFailed h st s (s.fwFail h st) := by
  obtain ⟨u, hu⟩ : ∃ u, u = if st = 3 then s.evSec 6 else s := ⟨_, rfl⟩
  have hrec : u.sec = s.sec ∧ u.flash = s.flash ∧ u.um = s.um := by
    rw [hu, apply_ite State.sec, apply_ite State.flash, apply_ite State.um, State.evSec_sec, State.evSec_flash, State.evSec_um]
    exact ⟨ite_self _, ite_self _, ite_self _⟩
  have hfail : s.fwFail h st = (u.updSec fun c => { c with fw := none }).final h 0x0A02 (if st = 4 then stRollback else stAuthFail)
      noDetail [] := by rw [hu]; rfl
  have hstat : (if st = 4 then stRollback else stAuthFail) ≠ stInternal := by
    split
    · decide
    · decide
  obtain ⟨hsec, hflash, hum⟩ := hrec
  rw [hfail]
  refine ⟨?_, ?_, fun hv ho => ?_⟩
  · rw [State.final_sec, ← hsec]
    rfl
  · rw [State.final_flash, ← hflash]
    rfl
  · rw [← hum] at hv ho ⊢
    exact State.final_due (s := u.updSec _) h 0x0A02 [] hstat hv ho

theorem State.fwCheck_passes {slotA : Bool} (hst : s.sec.fuses.imageCheck (s.slotImage slotA) = 1) :
    (s.fwCheck h slotA).flash = s.flash ∧ (s.fwCheck h slotA).um = s.um ∧ (s.fwCheck h slotA).sec.fw = s.sec.fw ∧
    (s.fwCheck h slotA).sec.ops.length = s.sec.ops.length + (if s.sec.fuses.owner.isEmpty then 1 else 2) := by
  have hcheck : s.fwCheck h slotA = if s.sec.fuses.owner.isEmpty then s.cePut (.image h slotA true) ceVerify
      else (s.cePut (.image h slotA false) ceVerify).cePut (.image h slotA true) ceVerify := if_neg (by rw [State.slotImage] at hst; simp [hst])
  rw [hcheck]
  split
  · exact ⟨rfl, rfl, rfl, State.cePut_length ..⟩
  · refine ⟨?_, ?_, ?_, ?_⟩
    · rw [State.cePut_flash, State.cePut_flash]
    · rw [State.cePut_um, State.cePut_um]
    · rw [State.cePut_fw, State.cePut_fw]
    · rw [State.cePut_length, State.cePut_length]

end

/-- FW_ACTIVATE's work before its first check. -/
def State.fwTaken (s : State) (h : UmHdr) : State := (s.accept h 0x0A02 []).updSec fun c => { c with fw := some ⟨h, 1⟩ }

theorem State.fwTaken_sec (s : State) (h : UmHdr) : (s.fwTaken h).sec = { s.sec with fw := some ⟨h, 1⟩ } := by
  rw [State.fwTaken, State.updSec_sec, State.accept_sec]

theorem State.fwTaken_flash (s : State) (h : UmHdr) : (s.fwTaken h).flash = s.flash := by
  rw [State.fwTaken, State.updSec_flash, State.accept_flash]

theorem State.fwTaken_um (s : State) (h : UmHdr) : (s.fwTaken h).um = (s.accept h 0x0A02 []).um := by
  rw [State.fwTaken, State.updSec_um]

theorem State.slotBImage_congr {s t : State} (h : t.flash = s.flash) : t.slotBImage = s.slotBImage := by
  unfold State.slotBImage State.slotBytes
  rw [h]

theorem execFwActivate_completes {s : State} {h : UmHdr} {p : List Byte} {st : Nat} (hc : s.umCheck h 0x0A02 p.length = none)
    (hb : s.bootPath < 2) (hfw : s.sec.fw = none) (hv : s.um.void = []) (hst : st = s.sec.fuses.imageCheck s.slotBImage) :
    Completes (.fwActivate h p) s fun t => t.flash = s.flash ∧
      (st ≠ 1 → t.sec.fw = none ∧ t.sec.ops = s.sec.ops ∧ (t.um.due.drop s.um.due.length).map (fun r => (r.hdr, r.status)) =
        [(h, stAccepted), (h, if st = 4 then stRollback else stAuthFail)]) ∧
      (st = 1 → t.sec.fw = some ⟨h, 1⟩ ∧ t.sec.ops.length = s.sec.ops.length + (if s.sec.fuses.owner.isEmpty then 1 else 2) ∧
        (t.um.due.drop s.um.due.length).map (fun r => (r.hdr, r.status)) = [(h, stAccepted)]) := by
  have hexec : exec (.fwActivate h p) s = .next ((s.fwTaken h).fwCheck h false) := by
    show execFwActivate h p s = _
    unfold execFwActivate
    rw [State.umRun_eq hc]
    rw [if_neg (by omega), if_neg (by rw [hfw]; exact Bool.false_ne_true), ← State.fwTaken]
  obtain ⟨r, hr, hdue, hvoid⟩ := State.accept_due (s := s) h 0x0A02 [] hv
  have hum := s.fwTaken_um h
  have hsec := s.fwTaken_sec h
  have hflash := s.fwTaken_flash h
  have howed : (h, 0x0A02) ∈ (s.fwTaken h).um.owed := by
    rw [hum, State.accept_owed]
    exact List.mem_append_right _ (List.mem_singleton_self _)
  have hcheck : (s.fwTaken h).sec.fuses.imageCheck ((s.fwTaken h).slotImage false) = st := by
    rw [hst, State.slotImage_false, State.slotBImage_congr hflash, hsec]
  generalize s.fwTaken h = u at *
  refine .intro hexec ⟨?_, fun h1 => ?_, fun h1 => ?_⟩
  · by_cases h1 : st = 1
    · rw [(State.fwCheck_passes h (hcheck.trans h1)).1, hflash]
    · rw [State.fwCheck_fails h hcheck h1, (State.fwFail_failed h _ st).flash, hflash]
  · rw [State.fwCheck_fails h hcheck h1]
    obtain ⟨hs, -, hd⟩ := State.fwFail_failed h u st
    obtain ⟨r', hr', hdue'⟩ := hd (by rw [hum]; exact hvoid) howed
    refine ⟨by rw [hs], by rw [hs, hsec], ?_⟩
    rw [hdue', hum, hdue, List.append_assoc, List.drop_left]
    simp only [List.cons_append, List.nil_append, List.map_cons, List.map_nil, hr, hr']
  · obtain ⟨-, humt, hfwt, hops⟩ := State.fwCheck_passes h (hcheck.trans h1)
    refine ⟨by rw [hfwt, hsec], by rw [hops, hsec], ?_⟩
    rw [humt, hum, hdue, List.drop_left]
    simp only [List.map_cons, List.map_nil, hr]

theorem execSlotBCopyComplete_completes {s : State} {h : UmHdr} {st : Nat} (hfw : s.sec.fw = some ⟨h, 2⟩)
    (hst : st = s.sec.fuses.imageCheck s.slotBImage) :
    Completes .slotBCopyComplete s fun t => t.flash.slotA = s.slotBImage ∧ t.flash.slotB = s.flash.slotB ∧
      (st ≠ 1 → t.sec.fw = none) ∧
      (st = 1 → t.sec.fw = some ⟨h, 3⟩ ∧
        t.sec.ops.length = s.sec.ops.length + (if s.sec.fuses.owner.isEmpty then 1 else 2)) := by
  obtain ⟨u, hu⟩ : ∃ u, u = (s.updFlash fun f => { f with slotA := s.slotBImage }).updSec fun c => { c with fw := some ⟨h, 3⟩ } := ⟨_, rfl⟩
  have hexec : exec .slotBCopyComplete s = .next (u.fwCheck h true) := by
    show execSlotBCopyComplete s = _
    unfold execSlotBCopyComplete
    rw [hfw, hu]
    rfl
  have hflash : u.flash = { s.flash with slotA := s.slotBImage } := by rw [hu]; rfl
  have hsec : u.sec = { s.sec with fw := some ⟨h, 3⟩ } := by rw [hu]; rfl
  have hcheck : u.sec.fuses.imageCheck (u.slotImage true) = st := by
    rw [hst, hsec]
    show s.sec.fuses.imageCheck u.flash.slotA = _
    rw [hflash]
  have hf : (u.fwCheck h true).flash = u.flash := by
    by_cases h1 : st = 1
    · exact (State.fwCheck_passes h (hcheck.trans h1)).1
    · rw [State.fwCheck_fails h hcheck h1, (State.fwFail_failed h _ st).flash]
  refine .intro hexec ⟨?_, ?_, fun h1 => ?_, fun h1 => ?_⟩
  · rw [hf, hflash]
  · rw [hf, hflash]
  · rw [State.fwCheck_fails h hcheck h1, (State.fwFail_failed h _ st).sec]
  · obtain ⟨-, -, hfwt, hops⟩ := State.fwCheck_passes h (hcheck.trans h1)
    exact ⟨by rw [hfwt, hsec], by rw [hops, hsec]⟩

/-! ## Bytes written into slot B (R517) -/

theorem slotPut_get : ∀ (bs : List Byte) (m : SMap Byte) (i j : Nat), SMap.get 0 (slotPut m i bs) j =
    if i ≤ j ∧ j < i + bs.length then bs.getD (j - i) 0 else SMap.get 0 m j
  | [], m, i, j => by
    rw [if_neg (by simp only [List.length_nil]; omega)]
    rfl
  | b :: bs, m, i, j => by
    rw [slotPut, slotPut_get bs _ (i + 1) j, List.length_cons]
    by_cases hij : i = j
    · subst hij
      rw [if_neg (by omega), if_pos (by omega), SMap.get_put_same, Nat.sub_self]
      rfl
    · by_cases hin : i + 1 ≤ j ∧ j < i + 1 + bs.length
      · rw [if_pos hin, if_pos (by omega), show j - i = j - (i + 1) + 1 by omega]
        rfl
      · rw [if_neg hin, if_neg (by omega), SMap.get_put_other _ _ _ _ (Ne.symm hij)]

theorem execFwLoad_completes {s : State} {h : UmHdr} {p : List Byte} (hc : s.umCheck h 0x0A01 p.length = none) (hb : s.bootPath < 2)
    (hlen : leAt p 0 4 + (p.length - 4) ≤ 16777216) :
    Completes (.fwLoad h p) s fun t => t.um = (s.reply h 0x0A01 stOK []).um ∧
      (∀ i, i < p.length - 4 → SMap.get 0 t.flash.slotB (leAt p 0 4 + i) = p.getD (4 + i) 0) ∧
      (∀ i, i < leAt p 0 4 ∨ leAt p 0 4 + (p.length - 4) ≤ i → SMap.get 0 t.flash.slotB i = SMap.get 0 s.flash.slotB i) ∧
      t.flash.slotA = s.flash.slotA ∧ t.regs = s.regs := by
  obtain ⟨u, hu⟩ : ∃ u, u = s.updFlash fun f => { f with slotB := slotPut f.slotB (leAt p 0 4) (p.drop 4) } := ⟨_, rfl⟩
  have hexec : exec (.fwLoad h p) s = .next (u.reply h 0x0A01 stOK []) := by
    show execFwLoad h p s = _
    unfold execFwLoad
    rw [State.umRun_eq hc, if_neg (by omega), if_neg (by omega), hu]
  have hflash : (u.reply h 0x0A01 stOK []).flash = { s.flash with slotB := slotPut s.flash.slotB (leAt p 0 4) (p.drop 4) } := by
    rw [State.reply_flash, hu]
    rfl
  refine .intro hexec ⟨State.reply_um_congr (s := s) (by rw [hu]; rfl) .., fun i hi => ?_, fun i hi => ?_, ?_, ?_⟩
  · rw [hflash, slotPut_get, if_pos (by rw [List.length_drop]; omega), Nat.add_sub_cancel_left]
    simp [List.getD_eq_getElem?_getD]
  · rw [hflash, slotPut_get, if_neg (by rw [List.length_drop]; omega)]
  · rw [hflash]
  · rw [State.reply_regs, hu]
    rfl

end Sys2Proof.Machine
end

section
/-! SUPPORT. Tokens and the end of a debug token's verification (O59). -/

namespace Sys2Proof.Machine

set_option Elab.async false

/-! ## Tokens (R512, R534, R535) -/

/-- The checks of a command read no register that changed. -/
theorem State.umCheck_congr {s t : State} {k : Nat} (hk : k ∉ [Reg.PW_MODE, Reg.UM_GEN_STAT, Reg.UM_GEN_SEQ, Reg.TW_ROLE, Reg.TW_STAT, Reg.TW_CFG])
    (hr : RegsKept [k] s t) (hg : t.gen = s.gen) (h : UmHdr) (op len : Nat) : t.umCheck h op len = s.umCheck h op len := by
  have hf : ∀ j ∈ [Reg.PW_MODE, Reg.UM_GEN_STAT, Reg.UM_GEN_SEQ, Reg.TW_ROLE, Reg.TW_STAT, Reg.TW_CFG], ∀ f, t.fld j f = s.fld j f :=
    fun j hj f => State.fld_eq f (hr j fun hm => hk (List.mem_singleton.1 hm ▸ hj)) (State.rdG_of_gen hg j)
  have hmode : t.mode = s.mode := hf _ (by decide) _
  have hgen : t.genState = s.genState := hf _ (by decide) _
  have hseq : t.stagedSeq = s.stagedSeq := by
    unfold State.stagedSeq
    rw [hf _ (by decide)]
  have hrole : t.role = s.role := hf _ (by decide) _
  have hpair : t.pair = s.pair := hf _ (by decide) _
  have hside : t.sourceSide = s.sourceSide := by
    unfold State.sourceSide
    rw [hmode, hrole, hf _ (by decide), hf _ (by decide)]
  have htarget : t.isTarget = s.isTarget := by
    unfold State.isTarget State.isSource
    rw [hmode, hrole, hpair, hside]
  unfold State.umCheck
  rw [hmode, hgen, hseq, htarget]

theorem State.seeFuseV_kept (s : State) (v : Bool) : RegsKept [Reg.SEC_STATE] s (s.seeFuseV v) := by
  unfold State.seeFuseV
  split
  · exact .setFld _ _ _ (List.mem_singleton_self _)
  · exact .refl _ _

theorem State.seeFuseV_sec (s : State) (v : Bool) : (s.seeFuseV v).sec = s.sec := by
  unfold State.seeFuseV
  split
  · exact State.setFld_sec ..
  · rfl

theorem State.seeFuseV_um (s : State) (v : Bool) : (s.seeFuseV v).um = s.um := by
  unfold State.seeFuseV
  split
  · exact State.setFld_um ..
  · rfl

theorem State.seeFuseV_gen (s : State) (v : Bool) : (s.seeFuseV v).gen = s.gen := by
  unfold State.seeFuseV
  split
  · exact State.setFld_gen ..
  · rfl

theorem State.fuseV_seeFuseV {s : State} (h4 : s.on 4 = true) (v : Bool) : (s.seeFuseV v).fuseV = v := by
  rw [State.fuseV, State.flag, State.seeFuseV, if_pos h4, State.fld_setFld _ _ _ _ (by decide)]
  cases v
  · rfl
  · rfl

theorem State.umCheck_seeFuseV (s : State) (v : Bool) (h : UmHdr) (op len : Nat) : (s.seeFuseV v).umCheck h op len = s.umCheck h op len :=
  State.umCheck_congr (by decide) (s.seeFuseV_kept v) (s.seeFuseV_gen v) h op len

/-- What a token that waits for the curve engine leaves. -/
structure TokenWaits (h : UmHdr) (op : Nat) (task : CurveTask) (s t : State) : Prop where
  length : t.sec.ops.length = s.sec.ops.length + 1
  last : t.sec.ops.getLast?.any (fun o => decide (o.task = task) && o.dur == ceVerify) = true
  owed : t.um.owed = s.um.owed ++ [(h, op)]
  regs : t.regs = s.regs
  fuses : t.sec.fuses = s.sec.fuses

theorem State.accept_cePut (s : State) (h : UmHdr) (op : Nat) (task : CurveTask) :
    TokenWaits h op task s ((s.accept h op []).cePut task ceVerify) := by
  refine ⟨?_, State.cePut_last _ _ _ fun _ => ?_, ?_, ?_, ?_⟩
  · rw [State.cePut_length, State.accept_sec]
  · rw [decide_eq_true rfl, beq_self_eq_true]
    rfl
  · rw [State.cePut_um, State.accept_owed]
  · rw [State.cePut_regs, State.accept_regs]
  · rw [State.cePut_fuses, State.accept_sec]

theorem execLcAdvance_waits {s : State} {h : UmHdr} {p : List Byte} (hc : s.umCheck h 0x0A03 p.length = none) (h4 : s.on 4 = true)
    (hb : (lcBits s.sec.fuses.lc (leAt p 0 1)).isSome = true)
    (hlen : p.length = 244 + (if lcCode s.sec.fuses.lc = 0 ∧ leAt p 0 1 = 1 then 96 else 0)) :
    Completes (.lcAdvance h p true) s fun t => t.sec.ops.length = s.sec.ops.length + 1 ∧
      t.sec.ops.getLast?.any (fun o => decide (o.task = .lcAdvance h (leAt p 0 1) (p.drop 4)) && o.dur == ceVerify) = true ∧
      t.um.owed = s.um.owed ++ [(h, 0x0A03)] ∧ t.flag Reg.SEC_STATE F.SEC_STATE_FUSE_V = true ∧ t.sec.fuses = s.sec.fuses := by
  have hsec := s.seeFuseV_sec true
  have hfuse := State.fuseV_seeFuseV h4 true
  have hexec : exec (.lcAdvance h p true) s =
      .next (((s.seeFuseV true).accept h 0x0A03 []).cePut (.lcAdvance h (leAt p 0 1) (p.drop 4)) ceVerify) := by
    show execLcAdvance h p true s = _
    unfold execLcAdvance
    rw [State.umRun_eq ((s.umCheck_seeFuseV true h _ _).trans hc)]
    dsimp only
    have hlisted : ¬ ((lcBits s.sec.fuses.lc (leAt p 0 1)).isNone = true ∨ true = false) := by
      rw [Option.isSome_iff_ne_none] at hb
      simp [hb]
    rw [hfuse, hsec, if_neg hlisted, if_neg (not_not.2 hlen)]
  obtain ⟨hl, hlast, howed, hregs, hfuses⟩ := State.accept_cePut (s.seeFuseV true) h 0x0A03 (.lcAdvance h (leAt p 0 1) (p.drop 4))
  refine .intro hexec ⟨by rw [hl, hsec], hlast, by rw [howed, State.seeFuseV_um], ?_, by rw [hfuses, hsec]⟩
  rw [State.flag_hw _ _ rfl, State.rdW_of_regs hregs, ← State.flag_hw _ _ rfl]
  exact hfuse

theorem execLcAdvance_refused {s : State} {h : UmHdr} {p : List Byte} (hc : s.umCheck h 0x0A03 p.length = none) (h4 : s.on 4 = true) :
    Completes (.lcAdvance h p false) s fun t => t = (s.seeFuseV false).refuse h 0x0A03 stSecDenied := by
  refine .intro ?_ rfl
  show execLcAdvance h p false s = _
  unfold execLcAdvance
  rw [State.umRun_eq ((s.umCheck_seeFuseV false h _ _).trans hc)]
  dsimp only
  rw [if_pos (.inr (State.fuseV_seeFuseV h4 false))]

theorem execDebugUnlock_waits {s : State} {h : UmHdr} {p : List Byte} (hc : s.umCheck h 0x0A04 p.length = none) (hlen : p.length = 240)
    (hlc : s.sec.lcNow = 2) (h1 : leAt p 5 1 ≠ 0) (h2 : leAt p 5 1 ≤ 2) :
    Completes (.debugUnlock h p) s fun t => t.sec.ops.length = s.sec.ops.length + 1 ∧
      t.sec.ops.getLast?.any (fun o => decide (o.task = .debugUnlock h p) && o.dur == ceVerify) = true ∧
      t.um.owed = s.um.owed ++ [(h, 0x0A04)] ∧ t.regs = s.regs := by
  have hexec : exec (.debugUnlock h p) s = .next ((s.accept h 0x0A04 []).cePut (.debugUnlock h p) ceVerify) := by
    show execDebugUnlock h p s = _
    unfold execDebugUnlock
    rw [State.umRun_eq hc, if_neg (by omega), if_neg (by omega)]
  obtain ⟨hl, hlast, howed, hregs, -⟩ := State.accept_cePut s h 0x0A04 (.debugUnlock h p)
  exact .intro hexec ⟨hl, hlast, howed, hregs⟩

/-! ## The end of a debug token's verification (R534, R535) -/

/-- What counting a result and replacing the nonce leave. -/
structure ResultTold (s t : State) : Prop where
  dbg : t.fld Reg.SEC_STATE F.SEC_STATE_DBG = s.fld Reg.SEC_STATE F.SEC_STATE_DBG
  um : t.um = s.um
  lc : t.sec.lcNow = s.sec.lcNow
  ops : t.sec.ops = s.sec.ops

theorem State.newNonce_sec (s : State) : s.newNonce.sec.lcNow = s.sec.lcNow ∧ s.newNonce.sec.ops = s.sec.ops := by
  unfold State.newNonce
  split
  · exact ⟨rfl, rfl⟩
  · exact ⟨rfl, rfl⟩

theorem State.ceResult_told (s : State) (r : Nat) : ResultTold s (s.ceResult r).newNonce := by
  have hr : (s.ceResult r).rdW Reg.SEC_STATE = s.rdW Reg.SEC_STATE := by
    unfold State.ceResult
    split
    · rw [State.rdW_evSec _ (by decide) (by decide) (by decide), State.rdW_cnt_other _ (by decide)]
    · rfl
  have hsec : (s.ceResult r).sec = s.sec := (State.ceResult_in ..).same .sec rfl
  have hum : (s.ceResult r).um = s.um := (State.ceResult_in ..).same .um rfl
  obtain ⟨hl, ho⟩ := (s.ceResult r).newNonce_sec
  refine ⟨?_, ?_, ?_, ?_⟩
  · rw [State.fld_hw _ _ rfl, State.rdW_of_regs ((State.newNonce_in _).same .regs rfl), hr, ← State.fld_hw _ _ rfl]
  · rw [(State.newNonce_in _).same .um rfl, hum]
  · rw [hl, hsec]
  · rw [ho, hsec]

theorem State.tokenFields_congr {s t : State} (hf : t.sec.fuses = s.sec.fuses) (hn : t.sec.nonce = s.sec.nonce) (types : List Nat)
    (arg : Nat) (tok : List Byte) : t.tokenFields types arg tok = s.tokenFields types arg tok := by
  unfold State.tokenFields
  rw [hf, hn]

theorem execCurveOperationComplete_unlock {s : State} {h : UmHdr} {tok : List Byte}
    (hops : s.sec.ops = [⟨.debugUnlock h tok, ceVerify, some 0⟩]) (hat : ceVerify ≤ s.ticks) :
    exec (.curveOperationComplete false) s = .next ((s.updSec fun c => { c with ops := [] }).unlockVerified h tok).ceStart := by
  show execCurveOperationComplete false s = _
  unfold execCurveOperationComplete
  rw [hops]
  exact if_pos ((Nat.zero_add _).trans_le hat)

theorem State.unlockVerified_good {s : State} {h : UmHdr} {tok : List Byte} {l : Nat} (hl : l = leAt tok 5 1) (h2 : l ≤ 2)
    (hlc : s.sec.lcNow = 2) (hv : s.um.void = []) (hdue : s.um.due = []) (ho : (h, 0x0A04) ∈ s.um.owed)
    (hok : s.tokenFields [if l = 2 then 3 else 2] l tok = true) (hsig : tokenSig tok = 0) :
    (s.unlockVerified h tok).fld Reg.SEC_STATE F.SEC_STATE_DBG = l ∧
      (s.unlockVerified h tok).um.due.map (fun r => (r.hdr, r.status)) = [(h, stOK)] ∧ (s.unlockVerified h tok).sec.ops = s.sec.ops := by
  obtain ⟨-, hum, hlc', hops⟩ := s.ceResult_told (tokenSig tok)
  generalize hu : (s.ceResult (tokenSig tok)).newNonce = u at *
  have hrun : s.unlockVerified h tok = (u.setDbg l).final h 0x0A04 stOK noDetail [] := by
    unfold State.unlockVerified
    dsimp only
    rw [← hl, hok, hu, hsig, if_neg (by decide), if_neg (by rw [hlc', hlc]; decide)]
  have hum' : (u.setDbg l).um = s.um := ((State.setDbg_in ..).same .um rfl).trans hum
  obtain ⟨r, hr, hd⟩ := State.final_due (s := u.setDbg l) h 0x0A04 [] (detail := noDetail) (show stOK ≠ stInternal by decide)
    (by rw [hum', hv]) (by rw [hum']; exact ho)
  rw [hrun]
  refine ⟨?_, ?_, ?_⟩
  · rw [State.fld_hw _ _ rfl, State.rdW_final _ _ _ _ _ _ (by decide) (by decide), ← State.fld_hw _ _ rfl]
    exact (u.setDbg_told l (by omega)).1
  · rw [hd, hum', hdue]
    exact congrArg (fun x => [x]) hr
  · rw [State.final_sec, (State.setDbg_in ..).same .sec rfl, hops]

theorem State.unlockVerified_bad {s : State} {h : UmHdr} {tok : List Byte} {l : Nat} (hl : l = leAt tok 5 1)
    (hv : s.um.void = []) (hdue : s.um.due = []) (ho : (h, 0x0A04) ∈ s.um.owed)
    (hbad : s.tokenFields [if l = 2 then 3 else 2] l tok = false ∨ tokenSig tok ≠ 0) :
    (s.unlockVerified h tok).fld Reg.SEC_STATE F.SEC_STATE_DBG = s.fld Reg.SEC_STATE F.SEC_STATE_DBG ∧
      ((s.unlockVerified h tok).rdW Reg.SEC_EVENT).toNat.testBit 6 = true ∧
      (s.unlockVerified h tok).um.due.map (fun r => (r.hdr, r.status)) = [(h, stAuthFail)] ∧
      (s.unlockVerified h tok).sec.ops = s.sec.ops := by
  obtain ⟨hdbg, hum, -, hops⟩ := s.ceResult_told (tokenSig tok)
  generalize hu : (s.ceResult (tokenSig tok)).newNonce = u at *
  have hok : (s.tokenFields [if l = 2 then 3 else 2] l tok && tokenSig tok == 0) = false := by
    rcases hbad with hb | hb
    · rw [hb, Bool.false_and]
    · rw [beq_false_of_ne hb, Bool.and_false]
  have hrun : s.unlockVerified h tok = (u.evSec 6).final h 0x0A04 stAuthFail noDetail [] := by
    unfold State.unlockVerified
    dsimp only
    rw [← hl, hok, hu]
    rfl
  have hum' : (u.evSec 6).um = s.um := (State.evSec_um ..).trans hum
  obtain ⟨r, hr, hd⟩ := State.final_due (s := u.evSec 6) h 0x0A04 [] (detail := noDetail) (show stAuthFail ≠ stInternal by decide)
    (by rw [hum', hv]) (by rw [hum']; exact ho)
  rw [hrun]
  refine ⟨?_, ?_, ?_, ?_⟩
  · rw [State.fld_hw _ _ rfl, State.rdW_final _ _ _ _ _ _ (by decide) (by decide), State.rdW_evSec _ (by decide) (by decide) (by decide),
      ← State.fld_hw _ _ rfl, hdbg]
  · rw [State.rdW_final _ _ _ _ _ _ (by decide) (by decide)]
    exact State.occurBit_bit _ (by decide) _ (by decide) _ (by decide)
  · rw [hd, hum', hdue]
    exact congrArg (fun x => [x]) hr
  · rw [State.final_sec, State.evSec_sec, hops]

theorem execCurveOperationComplete_unlocks {s : State} {h : UmHdr} {tok : List Byte} {l : Nat}
    (hops : s.sec.ops = [⟨.debugUnlock h tok, ceVerify, some 0⟩]) (hat : ceVerify ≤ s.ticks) (hl : l = leAt tok 5 1) (h2 : l ≤ 2)
    (hlc : s.sec.lcNow = 2) (hv : s.um.void = []) (hdue : s.um.due = []) (ho : (h, 0x0A04) ∈ s.um.owed) :
    Completes (.curveOperationComplete false) s fun t => t.sec.ops = [] ∧
      (s.tokenFields [if l = 2 then 3 else 2] l tok = true ∧ tokenSig tok = 0 →
        t.fld Reg.SEC_STATE F.SEC_STATE_DBG = l ∧ t.um.due.map (fun r => (r.hdr, r.status)) = [(h, stOK)]) ∧
      (s.tokenFields [if l = 2 then 3 else 2] l tok = false ∨ tokenSig tok ≠ 0 →
        t.fld Reg.SEC_STATE F.SEC_STATE_DBG = s.fld Reg.SEC_STATE F.SEC_STATE_DBG ∧
        (t.rdW Reg.SEC_EVENT).toNat.testBit 6 = true ∧ t.um.due.map (fun r => (r.hdr, r.status)) = [(h, stAuthFail)]) := by
  have hexec := execCurveOperationComplete_unlock hops hat
  obtain ⟨u, hu⟩ : ∃ u, u = s.updSec fun c => { c with ops := [] } := ⟨_, rfl⟩
  rw [← hu] at hexec
  have hlc' : u.sec.lcNow = 2 := by rw [hu]; exact hlc
  have htok : ∀ types, u.tokenFields types l tok = s.tokenFields types l tok := fun types =>
    State.tokenFields_congr (by rw [hu]; rfl) (by rw [hu]; rfl) types l tok
  have humeq : u.um = s.um := by rw [hu]; rfl
  have hdbg : u.fld Reg.SEC_STATE F.SEC_STATE_DBG = s.fld Reg.SEC_STATE F.SEC_STATE_DBG := by rw [hu, State.updSec_fld]
  have hopsu : u.sec.ops = [] := by rw [hu]; rfl
  have hstart : ∀ t : State, t.ceStart.um = t.um ∧ t.ceStart.regs = t.regs := fun t => ⟨rfl, rfl⟩
  have hfld : ∀ t : State, t.ceStart.fld Reg.SEC_STATE F.SEC_STATE_DBG = t.fld Reg.SEC_STATE F.SEC_STATE_DBG := fun t => State.updSec_fld ..
  refine .intro hexec ⟨?_, fun hok => ?_, fun hbad => ?_⟩
  · have hend : (u.unlockVerified h tok).sec.ops = [] := by
      by_cases hok : u.tokenFields [if l = 2 then 3 else 2] l tok = true ∧ tokenSig tok = 0
      · rw [(State.unlockVerified_good hl h2 hlc' (by rw [humeq, hv]) (by rw [humeq, hdue]) (by rw [humeq]; exact ho) hok.1 hok.2).2.2, hopsu]
      · have hbad : u.tokenFields [if l = 2 then 3 else 2] l tok = false ∨ tokenSig tok ≠ 0 := by
          rw [← Bool.not_eq_true]
          exact not_and_or.1 hok
        rw [(State.unlockVerified_bad hl (by rw [humeq, hv]) (by rw [humeq, hdue]) (by rw [humeq]; exact ho) hbad).2.2.2, hopsu]
    rw [State.ceStart_ops, hend]
    rfl
  · rw [← htok] at hok
    obtain ⟨hd, hm, -⟩ := State.unlockVerified_good hl h2 hlc' (by rw [humeq, hv]) (by rw [humeq, hdue]) (by rw [humeq]; exact ho) hok.1 hok.2
    exact ⟨(hfld _).trans hd, by rw [(hstart _).1, hm]⟩
  · rw [← htok] at hbad
    obtain ⟨hd, hb, hm, -⟩ := State.unlockVerified_bad hl (by rw [humeq, hv]) (by rw [humeq, hdue]) (by rw [humeq]; exact ho) hbad
    exact ⟨((hfld _).trans hd).trans hdbg, by rw [State.rdW_of_regs (hstart _).2]; exact hb, by rw [(hstart _).1, hm]⟩

end Sys2Proof.Machine
end

section
/-! SUPPORT. Places of the log's queue, a tamper source's latch, and TAMPER_CFG (O59). -/

namespace Sys2Proof.Machine

set_option Elab.async false

/-! ## Places of the trouble log's queue that an occurrence takes (R552) -/

theorem State.logPut_fill (s : State) (e : LogEntry) : logFill (s.logPut e).log.queue ≤ logFill s.log.queue + 1 := by
  unfold State.logPut
  split
  · exact Nat.le_succ _
  · extract_lets seq l w
    split
    · show logFill (s.log.queue ++ [l, w]) ≤ _
      have hl : logFill [l, w] = logFill [w] := rfl
      have hw := logFill_cons_le w []
      rw [logFill_append, hl]
      exact Nat.add_le_add_left hw _
    · have hq := logTail_append s.ticks (logRank e) s.log.queue
      generalize logTail s.ticks (logRank e) s.log.queue = q at *
      obtain ⟨a, b⟩ := q
      have hw := logFill_cons_le ⟨e, s.ticks⟩ b
      dsimp only at hq
      show logFill (a ++ logSeqs _ _) ≤ _
      rw [← hq, logFill_append, logFill_append, logFill_logSeqs]
      omega

/-- Each turn of a raise's actions takes one place at most. -/
theorem State.raiseActs_fill_turn (n : Nat)
    (ih : ∀ m, n = m + 1 → ∀ (s : State) (i det fl : Nat),
      logFill (State.raiseActs m s i det fl).log.queue ≤ logFill s.log.queue + (m + 1)) (s : State) (i det fl : Nat) :
    logFill (State.raiseActs n s i det fl).log.queue ≤ logFill s.log.queue + (n + 1) := by
  unfold State.raiseActs
  extract_lets s1 kk rr m live s2 s3 s4 s5 e was s6
  have h1 : s1.log = s.log := rfl
  have h2 : s2.log = s.log := by
    unfold s2
    split
    · exact (State.setFld_log ..).trans h1
    · exact h1
  clear_value s1
  have h3 : s3.log = s.log := by
    unfold s3
    split
    · exact ((State.signal_in ..).same .log rfl).trans h2
    · exact h2
  have h4 : logFill s4.log.queue ≤ logFill s.log.queue + 1 := by
    unfold s4
    split
    · exact (State.logPut_fill _ _).trans (by rw [h3])
    · rw [h3]
      exact Nat.le_succ _
  have h5 : s5.log = s4.log := by
    unfold s5
    split
    · exact (State.recUnc_in ..).same .log rfl
    · exact (State.recCor_in ..).same .log rfl
  clear_value s5 s4
  split
  · cases n with
    | zero =>
      show logFill s5.log.queue ≤ _
      rw [h5]
      exact h4
    | succ n =>
      dsimp only
      have h6 : s6.log = s5.log := rfl
      have hrose : (s6.rose e 2).log = s6.log := rfl
      clear_value s6
      split
      · rw [h6, h5]
        omega
      · have ih := ih n rfl (s6.rose e 2) (289 + 4 * m) (s6.rdW e).toNat 0
        rw [hrose, h6, h5] at ih
        omega
  · omega

theorem State.raiseActs_fill (n : Nat) : ∀ (s : State) (i det fl : Nat),
    logFill (State.raiseActs n s i det fl).log.queue ≤ logFill s.log.queue + (n + 1) := by
  induction n with
  | zero => exact State.raiseActs_fill_turn 0 fun _ h => nomatch h
  | succ n ih => exact State.raiseActs_fill_turn (n + 1) fun m h => Nat.succ.inj h ▸ ih

theorem State.occurBit_fill (s : State) (i k b : Nat) (det : Option Nat) :
    logFill (s.occurBit i k b det).log.queue ≤ logFill s.log.queue + 33 := by
  unfold State.occurBit
  extract_lets was x y
  have hx : x.log = s.log := rfl
  have hy : y.log = s.log := rfl
  clear_value y x
  split
  · split
    · rw [hy]
      omega
    · have hr : (y.rose k (2 ^ b)).log = s.log := hy
      refine Nat.le_trans (State.raiseActs_fill 32 _ _ _ _) ?_
      rw [hr]
  · rw [hx]
    omega

/-- An entry that finds its place stands in the queue. -/
theorem State.logKind_any (s : State) (kind param : Nat) (h : logFill s.log.queue < 256) :
    (s.logKind kind param).log.queue.any (fun w => w.entry.kind == kind) = true := by
  obtain ⟨w, hw, hk, -⟩ := State.mem_logPut (s := s)
    { tl := if s.tlKnown then tlOf s.now else 0, stamp := BitVec.ofNat 64 s.aon, source := 0xFFFF, kind := kind, flags := s.logFlags,
      seq := 0, param := BitVec.ofNat 64 param } h
  exact List.any_eq_true.2 ⟨w, hw, beq_iff_eq.2 hk⟩

/-! ## A tamper source's latch (R531, R532) -/

theorem State.tamperLatch_kept (s : State) (src : Nat) : RegsKept [Reg.SEC_TAMPER_STAT] s (s.tamperLatch src) :=
  RegsKept.trans (RegsKept.wrW s _ (List.mem_singleton_self _)) (.setFld _ _ _ (List.mem_singleton_self _))

theorem State.tamperLatch_told (s : State) (src : Fin 8) :
    ((s.tamperLatch src).fld Reg.SEC_TAMPER_STAT F.SEC_TAMPER_STAT_LATCH).testBit src = true ∧
    (s.tamperLatch src).fld Reg.SEC_TAMPER_STAT F.SEC_TAMPER_STAT_LAST = src.val := by
  unfold State.tamperLatch
  refine ⟨?_, ?_⟩
  · dsimp only
    rw [State.fld_setFld_other _ _ _ _ _ (by decide), State.fld_hw _ _ rfl, State.rdW_setBitsOf, Fld.get_bit, BitVec.getLsbD_ofNat,
      Nat.testBit_or, Nat.testBit_two_pow]
    have hlt : (F.SEC_TAMPER_STAT_LATCH.lo + src.val) < 64 := by
      show 0 + src.val < 64
      omega
    rw [decide_eq_true hlt, decide_eq_true (show src.val < F.SEC_TAMPER_STAT_LATCH.wid from src.isLt), decide_eq_true rfl]
    simp
  · dsimp only
    rw [State.fld_setFld _ _ _ _ (by decide)]
    exact Nat.mod_eq_of_lt src.isLt

/-- A trip while SEC is off: latched, logged, and a wake source. -/
theorem execTamperTrip_off {s : State} {src : Fin 8} {v : Bool} (hm : s.mode ≠ 0) (h4 : s.on 4 = false) (hw : s.aonWatches src = true) :
    Completes (.tamperTrip src v) s fun t =>
      (t.fld Reg.SEC_TAMPER_STAT F.SEC_TAMPER_STAT_LATCH).testBit src = true ∧ t.sec.trips = s.sec.trips ++ [src.val] ∧
      t.mode = s.mode ∧ t.sec.key = s.sec.key := by
  have hk := s.tamperLatch_kept src
  obtain ⟨hlatch, -⟩ := s.tamperLatch_told src
  have hsec : (s.tamperLatch src).sec = s.sec := (State.tamperLatch_in ..).same .sec rfl
  obtain ⟨u, hu⟩ : ∃ u, u = s.tamperLatch src := ⟨_, rfl⟩
  have hexec : exec (.tamperTrip src v) s = .next (((u.updSec fun c => { c with trips := c.trips ++ [src.val] }).logTamper src
      (s.tamperLevel src) s.tamperPhase).raiseWake 7 0) := by
    show execTamperTrip src v s = _
    unfold execTamperTrip
    rw [if_neg (by rw [h4, hw]; simpa using hm)]
    dsimp only
    rw [State.on_eq_of_rdW (hk _ (by decide)), h4, ← hu]
    rfl
  rw [← hu] at hk hlatch hsec
  obtain ⟨t, ht⟩ : ∃ t, t = ((u.updSec fun c => { c with trips := c.trips ++ [src.val] }).logTamper src
      (s.tamperLevel src) s.tamperPhase).raiseWake 7 0 := ⟨_, rfl⟩
  have hr : ∀ k, evKey k = false → t.rdW k = u.rdW k := fun k he => by
    rw [ht, State.rdW_of_regs ((State.raiseWake_in ..).same .regs rfl), State.logTamper, State.rdW_logKind _ _ _ he, State.updSec_rdW]
  have hs : t.sec = { s.sec with trips := s.sec.trips ++ [src.val] } := by
    rw [ht, (State.raiseWake_in ..).same .sec rfl, (State.logTamper_in ..).same .sec rfl, ← hsec]
    rfl
  rw [← ht] at hexec
  refine .intro hexec ⟨?_, by rw [hs], ?_, by rw [hs]⟩
  · rw [State.fld_hw _ _ rfl, hr _ (by decide), ← State.fld_hw _ _ rfl]
    exact hlatch
  · rw [State.mode_eq_of_rdW (hr _ (by decide)), State.mode_eq_of_rdW (hk _ (by decide))]

/-! ## TAMPER_CFG (R540) -/

theorem State.rdS_stage_same (s : State) (k : Nat) (w : Word) : (s.stage k w).rdS k = w := by
  unfold State.stage
  split
  next j hj =>
    by_cases hjk : k = j
    · rw [hjk, State.rdS_wrS_same]
    · rw [State.rdS_wrS_other _ _ hjk, State.rdS_wrS_same]
  next => rw [State.rdS_wrS_same]

theorem State.rdS_of_staged {s t : State} (h : t.staged = s.staged) (k : Nat) : t.rdS k = s.rdS k := by
  unfold State.rdS
  rw [h]

/-- What a reply falls due in stays equal where the replies due and the discarded ones do. -/
theorem State.reply_due_congr {s u : State} (hd : u.um.due = s.um.due) (hv : u.um.void = s.um.void) (h : UmHdr) (op st : Nat)
    (res : List Byte) : (u.reply h op st res).um.due = (s.reply h op st res).um.due := by
  unfold State.reply State.post
  split
  · exact hd
  · simp only [State.updUm_um, hv]
    split
    · exact hd
    · exact congrArg (· ++ _) hd

/-- One word staged in a register. -/
def State.stageOne (s : State) (k v : Nat) : State := s.stageWords [(k, v)]

theorem State.stageOne_told (s : State) (k v : Nat) : (s.stageOne k v).rdS k = BitVec.ofNat 64 v &&& rwgMask k ∧
    (s.stageOne k v).um.due = s.um.due ∧ (s.stageOne k v).um.void = s.um.void ∧ (s.stageOne k v).gen = s.gen ∧
    (s.stageOne k v).regs = s.regs := by
  unfold State.stageOne State.stageWords State.stageWords
  extract_lets w u
  have hum : ((u.stage k w).mirrorStaged k w).um = u.um := ((State.mirrorStaged_in ..).same .um rfl).trans ((State.stage_in ..).same .um rfl)
  refine ⟨?_, ?_, ?_, ?_, ?_⟩
  · rw [State.rdS_of_staged ((State.mirrorStaged_in ..).same .staged rfl), State.rdS_stage_same]
  · rw [hum]
    rfl
  · rw [hum]
    rfl
  · rw [(State.mirrorStaged_in ..).same .gen rfl, (State.stage_in ..).same .gen rfl]
    rfl
  · rw [(State.mirrorStaged_in ..).same .regs rfl, (State.stage_in ..).same .regs rfl]
    rfl

theorem execTamperCfg_completes {s : State} {h : UmHdr} {p : List Byte} (hc : s.umCheck h 0x0A06 p.length = none) (hlen : p.length = 4)
    (hg : s.genNeeds h.carrier 1 = none) :
    Completes (.tamperCfg h p) s fun t => t.um.due = (s.reply h 0x0A06 stOK []).um.due ∧
      t.rdS Reg.SEC_TAMPER_CFG = BitVec.ofNat 64 (leAt p 0 4) &&& rwgMask Reg.SEC_TAMPER_CFG ∧ t.gen = s.gen ∧ t.regs = s.regs := by
  have hexec : exec (.tamperCfg h p) s = .next ((s.stageOne Reg.SEC_TAMPER_CFG (leAt p 0 4)).reply h 0x0A06 stOK []) := by
    show execTamperCfg h p s = _
    unfold execTamperCfg
    rw [State.umRun_eq hc, if_neg (not_not.2 hlen), hg]
    rfl
  obtain ⟨hs, hd, hv, hgen, hregs⟩ := s.stageOne_told Reg.SEC_TAMPER_CFG (leAt p 0 4)
  refine .intro hexec ⟨State.reply_due_congr hd hv .., ?_, ?_, ?_⟩
  · rw [State.rdS_of_staged (State.reply_staged ..), hs]
  · rw [State.reply_gen, hgen]
  · rw [State.reply_regs, hregs]

end Sys2Proof.Machine
end

section
/-! SUPPORT. What work on a link leaves of its sessions, streams and enables (O37, O59). -/

namespace Sys2Proof.Machine

set_option Elab.async false

/-! ## What work on a link leaves of its sessions, streams and enables (R223, R310 to R312, R527) -/

/-- The link's sessions, its IDE streams, and whether and how it may request stay. -/
structure LinkSteady (l l' : LinkRt) : Prop where
  sessions : l'.spdm.sessions = l.spdm.sessions
  ide : l'.ide = l.ide
  going : l'.going = l.going
  command : l'.cfgW 0x004 = l.cfgW 0x004
  power : l'.cfgW 0x044 = l.cfgW 0x044

theorem LinkSteady.refl (l : LinkRt) : LinkSteady l l := ⟨rfl, rfl, rfl, rfl, rfl⟩

theorem LinkSteady.trans {l l' l'' : LinkRt} (h : LinkSteady l l') (h' : LinkSteady l' l'') : LinkSteady l l'' :=
  ⟨h'.sessions.trans h.sessions, h'.ide.trans h.ide, h'.going.trans h.going, h'.command.trans h.command, h'.power.trans h.power⟩

theorem LinkRt.cfgW_setCfg_same (l : LinkRt) (off v : Nat) : (l.setCfg off v).cfgW off = v := SMap.get_put_same _ _ _ _
theorem LinkRt.cfgW_setCfg_other (l : LinkRt) {off k : Nat} (v : Nat) (h : k ≠ off) : (l.setCfg off v).cfgW k = l.cfgW k :=
  SMap.get_put_other _ _ _ _ h

theorem LinkSteady.setCfg (l : LinkRt) {off : Nat} (v : Nat) (h : off ≠ 0x004 ∧ off ≠ 0x044) : LinkSteady l (l.setCfg off v) :=
  ⟨rfl, rfl, rfl, LinkRt.cfgW_setCfg_other l v h.1.symm, LinkRt.cfgW_setCfg_other l v h.2.symm⟩

theorem LinkSteady.ite {c : Prop} [Decidable c] {l a b : LinkRt} (h : LinkSteady l a) (h' : LinkSteady l b) :
    LinkSteady l (if c then a else b) := by
  split <;> assumption

def LinksSteady (s t : State) : Prop := ∀ m, LinkSteady (s.link m) (t.link m)

theorem LinksSteady.refl (s : State) : LinksSteady s s := fun _ => .refl _
theorem LinksSteady.trans {s t u : State} (h : LinksSteady s t) (h' : LinksSteady t u) : LinksSteady s u := fun m => (h m).trans (h' m)

theorem LinksSteady.of_links {s t : State} (h : t.links = s.links) : LinksSteady s t := fun m => by
  rw [State.link, State.link, h]
  exact .refl _

theorem LinksSteady.ite {c : Prop} [Decidable c] {s t u : State} (h : LinksSteady s t) (h' : LinksSteady s u) :
    LinksSteady s (if c then t else u) := by
  split <;> assumption

theorem State.link_updLink_same (s : State) (m : Nat) (f : LinkRt → LinkRt) : (s.updLink m f).link m = f (s.link m) :=
  SMap.get_put_same _ _ _ _
section
variable (s : State)

theorem LinksSteady.updLink (m : Nat) {f : LinkRt → LinkRt} (h : LinkSteady (s.link m) (f (s.link m))) : LinksSteady s (s.updLink m f) :=
  fun n => by
    by_cases hn : n = m
    · rw [hn, State.link_updLink_same]
      exact h
    · rw [State.link_updLink_other _ _ hn]
      exact .refl _

theorem LinksSteady.signal (m v : Nat) : LinksSteady s (s.signal m v) := by
  unfold State.signal
  extract_lets l
  refine .ite (.refl s) ?_
  split
  · exact .ite (.refl s) (.updLink s m ⟨rfl, rfl, rfl, rfl, rfl⟩)
  · exact .updLink s m ⟨rfl, rfl, rfl, rfl, rfl⟩

theorem LinkSteady.headers (hdr : List Nat) : ∀ (is : List Nat) (l : LinkRt), (∀ i ∈ is, i < 4) →
    LinkSteady l (is.foldl (fun l i => l.setCfg (0x138 + 4 * i) (hdr.getD (4 + i) 0)) l)
  | [], l, _ => .refl l
  | i :: is, l, h => (LinkSteady.setCfg l _ (by omega)).trans (LinkSteady.headers hdr is _ fun j hj => h j (.tail _ hj))

theorem LinksSteady.recUnc (m bit : Nat) (hdr : List Nat) : LinksSteady s (s.recUnc m bit hdr) := by
  unfold State.recUnc
  extract_lets l st masked fatal l1 l2 l3 u
  have h1 : LinkSteady l l1 := .setCfg l _ (by decide)
  have h2 : LinkSteady l l2 := by
    refine .ite h1 (LinkSteady.trans ?_ (.headers hdr (List.range 4) _ fun i hi => List.mem_range.1 hi))
    exact ((((h1.trans (.setCfg _ _ (by decide))).trans (.setCfg _ _ (by decide))).trans (.setCfg _ _ (by decide))).trans
      (.setCfg _ _ (by decide))).trans (.setCfg _ _ (by decide))
  have h3 : LinkSteady l l3 := h2.trans (.setCfg _ _ (by decide))
  have hu : LinksSteady s u := .updLink s m h3
  exact .ite (hu.trans (.of_links rfl)) hu

theorem LinksSteady.recCor (m bit : Nat) : LinksSteady s (s.recCor m bit) := by
  unfold State.recCor
  extract_lets l masked l1 u
  have hl : LinkSteady l l1 := (LinkSteady.setCfg l _ (by decide)).trans (.setCfg _ _ (by decide))
  have hu : LinksSteady s u := .updLink s m hl
  exact .ite (hu.trans (.of_links rfl)) hu

theorem LinksSteady.raiseActs (n i det fl : Nat) : LinksSteady s (State.raiseActs n s i det fl) :=
  LinksSteady.trans (t := s.setBitsOf (Reg.EV_RAISED (i / 32)) (2 ^ (i % 32))) (.of_links rfl)
    (State.raiseActs_from LinksSteady .refl (fun h h' => h.trans h') (fun _ => True) (fun _ _ => trivial)
      (fun _ _ _ => .of_links rfl) (fun _ _ _ => .of_links rfl) (fun _ => .of_links (State.setFld_links ..))
      (fun s m v => .signal s m v) (fun s e => .of_links ((State.logPut_in s e).same .links rfl))
      (fun s m b h => .recUnc s m b h) (fun s m b => .recCor s m b) (fun _ _ _ => .of_links rfl) (fun _ _ _ => .of_links rfl) n s i det fl)

theorem LinksSteady.occur (i : Nat) : LinksSteady s (s.occur i) := by
  unfold State.occur
  split
  · extract_lets was u
    have hu : LinksSteady s u := .of_links rfl
    split
    · exact hu.trans (.of_links rfl)
    · exact hu.trans (.raiseActs u _ _ _ _)
  · exact .refl s

theorem LinksSteady.occurBit (i k b : Nat) (det : Option Nat) : LinksSteady s (s.occurBit i k b det) := by
  unfold State.occurBit
  extract_lets was x y
  have hx : LinksSteady s x := .of_links rfl
  have hy : LinksSteady s y := .of_links rfl
  clear_value y x
  split
  · split
    · exact hy
    · exact hy.trans (LinksSteady.trans (t := y.rose k (2 ^ b)) (.of_links rfl) (.raiseActs _ _ _ _ _))
  · exact hx

theorem LinksSteady.evSec (e : Nat) : LinksSteady s (s.evSec e) := .occurBit s _ _ _ _
theorem LinksSteady.evTl (e : Nat) : LinksSteady s (s.evTl e) := .occur s _
theorem LinksSteady.evUm (e : Nat) : LinksSteady s (s.evUm e) := .occur s _
theorem LinksSteady.evDma (c : Nat) : LinksSteady s (s.evDma c) := .occurBit s _ _ _ _

/-! ## Channels that end (R217 to R222) -/

variable (c : Nat)

theorem LinksSteady.setCh (st : Nat) : LinksSteady s (s.setCh c st) := .of_links ((State.setCh_in ..).same .links rfl)
theorem LinksSteady.toError : LinksSteady s (s.toError c) := .of_links ((State.toError_in ..).same .links rfl)
theorem LinksSteady.stopCh : LinksSteady s (s.stopCh c) := .of_links ((State.stopCh_in ..).same .links rfl)
theorem LinksSteady.beginChain : LinksSteady s (s.beginChain c) := .of_links ((State.beginChain_in ..).same .links rfl)
theorem LinksSteady.fresh1 : LinksSteady s (s.fresh1 c) := .of_links ((State.fresh1_in ..).same .links rfl)
theorem LinksSteady.addRec (r : DmaRec) : LinksSteady s (s.addRec c r) := .of_links ((State.addRec_in ..).same .links rfl)

theorem LinksSteady.setFld (k : Nat) (f : Fld) (v : Nat) : LinksSteady s (s.setFld k f v) := .of_links (State.setFld_links ..)
theorem LinksSteady.wrW (k : Nat) (w : Word) : LinksSteady s (s.wrW k w) := .of_links rfl
theorem LinksSteady.updChan (f : ChanRt → ChanRt) : LinksSteady s (s.updChan c f) := .of_links rfl
theorem LinksSteady.dropWork : LinksSteady s (s.dropWork c) := .of_links ((State.dropWork_in ..).same .links rfl)

theorem LinksSteady.errCh (code : Nat) : LinksSteady s (s.errCh c code) :=
  ((LinksSteady.setFld s _ _ _).trans (.toError _ c)).trans (.evDma _ c)

theorem LinksSteady.chainNext (code : Nat) : LinksSteady s (s.chainNext c code) := by
  unfold State.chainNext
  exact .ite (.toError s c) (.ite (.stopCh s c) (.ite (.setCh s c 0) (.ite (.errCh s c 7) (.setCh s c 5))))

theorem LinksSteady.slSignal (sl v : Nat) : LinksSteady s (s.slSignal sl v) := by
  unfold State.slSignal
  exact .ite (.signal s _ _) (.of_links rfl)

theorem LinksSteady.retireBase (code : Nat) : LinksSteady s (s.retireBase c code) := by
  unfold State.retireBase
  extract_lets r sl seq want irq body s1 k s2 s3 s4 s5 s6 s7 timed s8 s9 s10 s11 s12 s13
  have h1 : LinksSteady s s1 := .wrW s _ _
  have h2 : LinksSteady s1 s2 := .setFld s1 _ _ _
  have h3 : LinksSteady s2 s3 := .setFld s2 _ _ _
  have h4 : LinksSteady s3 s4 := .setFld s3 _ _ _
  have h5 : LinksSteady s4 s5 := .setFld s4 _ _ _
  have h6 : LinksSteady s5 s6 := .setFld s5 _ _ _
  have h7 : LinksSteady s6 s7 := .wrW s6 _ _
  have h8 : LinksSteady s7 s8 := (LinksSteady.dropWork s7 c).trans (.updChan _ c _)
  have h9 : LinksSteady s8 s9 := by
    unfold s9
    split
    · exact .addRec s8 c _
    · cases irq with
      | some v => exact .slSignal s8 sl v
      | none => exact .refl s8
  have h10 : LinksSteady s9 s10 := .ite (.setFld s9 _ _ _) (.refl s9)
  have h11 : LinksSteady s10 s11 := .ite (.evDma s10 c) (.refl s10)
  have h12 : LinksSteady s11 s12 := .ite (.evTl s11 8) (.refl s11)
  have h13 : LinksSteady s12 s13 := .ite (.evTl s12 10) (.refl s12)
  exact ((((((((((((h1.trans h2).trans h3).trans h4).trans h5).trans h6).trans h7).trans h8).trans h9).trans h10).trans h11).trans
    h12).trans h13).trans (.of_links (State.updTw_links ..))

theorem LinksSteady.retireNext (code : Nat) : LinksSteady s ((s.retireBase c code).chainNext c code) :=
  (LinksSteady.retireBase s c code).trans (.chainNext _ c code)

theorem LinksSteady.goActive : LinksSteady s (s.goActive c) := by
  unfold State.goActive
  extract_lets s1 s2 s3
  have h1 : LinksSteady s s1 := .fresh1 s c
  have h2 : LinksSteady s1 s2 := .setCh s1 c 1
  have h3 : LinksSteady s1 s3 := (LinksSteady.setCh s1 c 3).trans (.beginChain _ c)
  exact h1.trans (.ite (h2.trans (.ite (.ite (.retireNext s2 c _) (.beginChain s2 c)) (.refl s2)))
    (.ite (.retireNext s1 c _) (h3.trans (.ite (.retireNext s3 c _) (.refl s3)))))

theorem LinksSteady.activate (im : List Byte) : LinksSteady s (s.activate c im) := by
  unfold State.activate
  extract_lets s1 s2
  have h2 : LinksSteady s s2 := .of_links rfl
  have hl : LinksSteady s2 (s2.loadImage c im).1 := .of_links ((State.loadImage_in s2 c im _ _ rfl).same .links rfl)
  generalize s2.loadImage c im = p at *
  obtain ⟨u, bad⟩ := p
  dsimp only at *
  split
  · exact h2.trans (hl.trans ((LinksSteady.fresh1 u c).trans (.retireNext _ c _)))
  · exact h2.trans (hl.trans (.goActive u c))

theorem LinksSteady.retire (code : Nat) : LinksSteady s (s.retire c code) := by
  unfold State.retire
  refine (LinksSteady.retireBase s c code).trans ?_
  generalize s.retireBase c code = u
  dsimp only
  split
  · exact .ite (.chainNext u c code) (.activate u c _)
  · exact .chainNext u c code

theorem LinksSteady.failCh (code : Nat) : LinksSteady s (s.failCh c code) := by
  unfold State.failCh
  refine .ite (.refl s) (.ite (LinksSteady.trans ?_ (.addRec _ c _)) (.retire s c code))
  exact (LinksSteady.dropWork s c).trans (.updChan _ c _)

theorem LinksSteady.retireDue : LinksSteady s (s.retireDue c) := by
  unfold State.retireDue
  dsimp only
  split
  · exact .ite (.retire s c _) (.refl s)
  · exact .ite (.retire s c 0) (.refl s)

theorem LinksSteady.endChan (code : Nat) : LinksSteady s (s.endChan c code) := by
  unfold State.endChan
  extract_lets s1
  have h1 : LinksSteady s s1 := .ite (.retireDue s c) (.refl s)
  exact h1.trans (.ite (.ite (.errCh s1 c code) (.ite ((LinksSteady.retireBase s1 c code).trans (.toError _ c)) (.failCh s1 c code))) (.refl s1))

end

theorem LinksSteady.endChans (code : Nat) : ∀ (cs : List Nat) (s : State), LinksSteady s (s.endChans cs code)
  | [], s => .refl s
  | c :: cs, s => (LinksSteady.endChan s c code).trans (endChans code cs _)

theorem LinksSteady.setTdi (s : State) (sl v : Nat) : LinksSteady s (s.setTdi sl v) := by
  unfold State.setTdi
  exact .ite (.refl s) ((LinksSteady.wrW s _ _).trans (.occurBit _ _ _ _ _))

theorem LinksSteady.tdiErrors : ∀ (sls : List Nat) (s : State), LinksSteady s (s.tdiErrors sls)
  | [], s => .refl s
  | sl :: sls, s => ((LinksSteady.endChans 9 (s.slChans sl) s).trans (.setTdi _ sl 3)).trans (tdiErrors sls _)

theorem LinksSteady.sessionEvs : ∀ (n : Nat) (s : State), LinksSteady s (s.sessionEvs n)
  | 0, s => .refl s
  | n + 1, s => (LinksSteady.evSec s 12).trans (sessionEvs n _)

end Sys2Proof.Machine
end

section
/-! SUPPORT. What the responses to a trip keep, and zeroization (O59). -/

namespace Sys2Proof.Machine

set_option Elab.async false

/-! ## The entry to Quarantine leaves the security block (R45) -/

theorem State.setMode_sec (s : State) {new : Nat} (trig : Nat) (hnew : new ≠ 4) : (s.setMode new trig).sec = s.sec := by
  unfold State.setMode
  simp only [if_neg hnew]
  generalize hu : State.updUm _ _ = u
  have hsec : u.sec = s.sec := by rw [← hu]; simp only [State.updUm_sec, State.setFld_sec]
  exact (State.evPw_sec ..).trans hsec

theorem State.enterQuarantine_sec (s : State) (trig code detail : Nat) : (s.enterQuarantine trig code detail).sec = s.sec := by
  unfold State.enterQuarantine
  split
  · rfl
  · extract_lets s1 s2 s3 s4 s5 s6 s7 s8
    have h2 : s2.sec = s.sec := by
      unfold s2 s1
      rw [(State.endModeWork_in ..).same .sec rfl, (State.loseGen_in ..).same .sec rfl, (State.yieldFirst_in ..).same .sec rfl]
    have h3 : s3.sec = s2.sec := (State.powerUp_in ..).same .sec rfl
    have h5 : s5.sec = s3.sec := by
      unfold s5 s4
      rw [(State.resetCarrier_in ..).same .sec rfl, (State.linksHeld_in ..).same .sec rfl, (State.clPortsLost_in ..).same .sec rfl,
        State.allPortsLost, (State.portsLost_in ..).same .sec rfl]
    have h6 : s6.sec = s5.sec := by
      unfold s6
      rw [State.setMode_sec _ _ (by decide), (State.setCause_in ..).same .sec rfl]
    have h8 : s8.sec = s6.sec := (State.forceOffs_in ..).same .sec rfl
    rw [(State.evRs_in ..).same .sec rfl, h8, h6, h5, h3, h2]

/-! ## What the responses to a trip keep (R531, R532) -/

/-- The tamper latch and count, the mode, the domains' power, VDD_FUSE's level, the bits of SEC_EVENT, the kinds of entry of the
log's queue, the fuse word being programmed and the fuses stay. -/
structure SecStep (s t : State) : Prop where
  regs : ∀ k ∈ [Reg.SEC_TAMPER_STAT, Reg.SEC_TAMPER_CNT, Reg.PW_MODE, Reg.PW_ON], t.rdW k = s.rdW k
  fuse : t.fuseV = s.fuseV
  bits : ∀ b, (s.rdW Reg.SEC_EVENT).toNat.testBit b = true → (t.rdW Reg.SEC_EVENT).toNat.testBit b = true
  kinds : KindsStay s t
  prog : t.sec.prog = s.sec.prog
  fuses : t.sec.fuses = s.sec.fuses

theorem SecStep.refl (s : State) : SecStep s s := ⟨fun _ _ => rfl, rfl, fun _ h => h, .of_log rfl, rfl, rfl⟩

theorem SecStep.trans {s t u : State} (h : SecStep s t) (h' : SecStep t u) : SecStep s u :=
  ⟨fun k hk => (h'.regs k hk).trans (h.regs k hk), h'.fuse.trans h.fuse, fun b hb => h'.bits b (h.bits b hb), h.kinds.trans h'.kinds,
    h'.prog.trans h.prog, h'.fuses.trans h.fuses⟩

theorem SecStep.ite {c : Prop} [Decidable c] {s t u : State} (h : SecStep s t) (h' : SecStep s u) : SecStep s (if c then t else u) := by
  split <;> assumption

theorem SecStep.of_high {s t : State} (h : High s t) (hs : t.sec = s.sec) : SecStep s t where
  regs := by
    have hlow : ∀ k ∈ [Reg.SEC_TAMPER_STAT, Reg.SEC_TAMPER_CNT, Reg.PW_MODE, Reg.PW_ON], k < 0x4100 ∧ k ≠ Reg.SEC_EVENT := by decide
    exact fun k hk => h.low k (hlow k hk).1 (hlow k hk).2
  fuse := by
    rw [State.fuseV, State.fuseV, State.flag_hw _ _ rfl, State.flag_hw _ _ rfl, h.low _ (by decide) (by decide)]
  bits := h.bits
  kinds := h.kinds
  prog := by rw [hs]
  fuses := by rw [hs]

/-- A change of the security block beside its fuses. -/
theorem SecStep.of_same {s t : State} (hr : t.regs = s.regs) (hl : t.log = s.log) (hp : t.sec.prog = s.sec.prog)
    (hf : t.sec.fuses = s.sec.fuses) : SecStep s t :=
  ⟨fun k _ => State.rdW_of_regs hr k, by rw [State.fuseV, State.fuseV, State.flag_hw _ _ rfl, State.flag_hw _ _ rfl, State.rdW_of_regs hr],
    fun _ h => by rwa [State.rdW_of_regs hr], .of_log hl, hp, hf⟩

theorem SecStep.of_quiet {s t : State} (h : SecQuiet s t) : SecStep s t :=
  .of_same h.regs h.log (by rw [h.sec]) (by rw [h.sec])

theorem SecStep.updSec (s : State) {f : SecRt → SecRt} (hp : (f s.sec).prog = s.sec.prog) (hf : (f s.sec).fuses = s.sec.fuses) :
    SecStep s (s.updSec f) := .of_same rfl rfl hp hf

theorem SecStep.ceStart (s : State) : SecStep s s.ceStart := .updSec s rfl rfl

theorem SecStep.evSec (s : State) (e : Nat) : SecStep s (s.evSec e) := .of_high (.evSec s e) (State.evSec_sec ..)

/-- A field of SEC_STATE beside FUSE_V, or of SEC_RNG_STAT. -/
theorem SecStep.setFld (s : State) {k : Nat} {f : Fld} (v : Nat) (hk : k = Reg.SEC_RNG_STAT ∨ k = Reg.SEC_STATE ∧ f.lo + f.wid ≤ 19) :
    SecStep s (s.setFld k f v) where
  regs := by
    have hne : ∀ j ∈ [Reg.SEC_TAMPER_STAT, Reg.SEC_TAMPER_CNT, Reg.PW_MODE, Reg.PW_ON], j ≠ Reg.SEC_RNG_STAT ∧ j ≠ Reg.SEC_STATE := by decide
    refine fun j hj => State.rdW_setFld_other _ _ _ ?_
    rcases hk with rfl | ⟨rfl, -⟩
    · exact (hne j hj).1
    · exact (hne j hj).2
  fuse := by
    rw [State.fuseV, State.fuseV, State.flag, State.flag]
    rcases hk with rfl | ⟨rfl, hf⟩
    · rw [State.fld_hw _ _ rfl, State.rdW_setFld_other _ _ _ (by decide), ← State.fld_hw _ _ rfl]
    · rw [State.fld_setFld_other _ _ _ _ _ (.inl hf)]
  bits := fun b hb => by
    rw [State.rdW_setFld_other _ _ _]
    · exact hb
    · rcases hk with rfl | ⟨rfl, -⟩
      · decide
      · decide
  kinds := .of_log (State.setFld_log ..)
  prog := by rw [State.setFld_sec]
  fuses := by rw [State.setFld_sec]

theorem SecStep.rngTest (s : State) (re : Bool) : SecStep s (s.rngTest re) :=
  (SecStep.setFld s 1 (.inl rfl)).trans (.of_same rfl rfl rfl rfl)

theorem SecStep.newNonce (s : State) : SecStep s s.newNonce := by
  unfold State.newNonce
  split
  · exact .of_same rfl rfl rfl rfl
  · exact .of_same rfl rfl rfl rfl

theorem SecStep.final (s : State) (h : UmHdr) (op st det : Nat) (res : List Byte) : SecStep s (s.final h op st det res) :=
  .of_high (.final s h op st det res) (State.final_sec ..)

theorem SecStep.ceAbort (s : State) (t : CurveTask) : SecStep s (s.ceAbort t) := by
  cases t with
  | lcAdvance h _ _ => exact (SecStep.newNonce s).trans (.final _ h _ _ _ _)
  | debugUnlock h _ => exact (SecStep.newNonce s).trans (.final _ h _ _ _ _)
  | image h _ _ => exact (SecStep.updSec s (f := fun c => { c with fw := none }) rfl rfl).trans (.final _ h _ _ _ _)
  | keyGen src => exact .of_quiet (.spdmError s src none 5)
  | ecdh src _ _ _ => exact .of_quiet (.spdmError s src none 5)
  | sign src session _ _ => exact .of_quiet (.spdmError s src session 5)

theorem SecStep.entropyFaults (s : State) : SecStep s s.entropyFaults :=
  .of_same s.entropyFaults_regs s.entropyFaults_log (by rw [State.entropyFaults_sec]; rfl) (by rw [State.entropyFaults_sec]; rfl)

theorem High.rtBump : ∀ (ms : List Nat) (s : State), (s.rtBump ms).regs = s.regs ∧ (s.rtBump ms).log = s.log
  | [], _ => ⟨rfl, rfl⟩
  | m :: ms, s => High.rtBump ms (s.updLink m _)

theorem High.rtAll (s : State) : High s s.rtAll := by
  obtain ⟨hr, hl⟩ := High.rtBump ((List.range 32).filter fun m => s.linkPresent m) s
  exact (High.of_same hr hl).trans (.evUm _ 15)

theorem SecStep.rtAll (s : State) : SecStep s s.rtAll := .of_high (.rtAll s) ((State.rtAll_in s).same .sec rfl)

theorem SecStep.dropKey (s : State) : SecStep s s.dropKey := by
  unfold State.dropKey
  extract_lets had u
  have hu : SecStep s u := (SecStep.updSec s (f := fun c => { c with key := none }) rfl rfl).trans (.setFld _ 0 (.inr ⟨rfl, by decide⟩))
  exact .ite (hu.trans (.rtAll u)) hu

theorem SecStep.setDbg (s : State) (v : Nat) : SecStep s (s.setDbg v) := by
  unfold State.setDbg
  extract_lets was u
  have hu : SecStep s u := .setFld s v (.inr ⟨rfl, by decide⟩)
  exact .ite (hu.trans (.evSec u 4)) (.ite (hu.trans (.evSec u 5)) hu)

theorem SecStep.lockDebug (s : State) : SecStep s s.lockDebug := .ite (.setDbg s 0) (.refl s)

/-- The engine's operation stops, and with it what it served. -/
theorem SecStep.ceStop (s : State) : SecStep s s.ceStop := by
  unfold State.ceStop
  extract_lets u
  have hu : SecStep s u := .ite (.rngTest s _) (.refl s)
  clear_value u
  cases hops : u.sec.ops with
  | nil => exact hu
  | cons o os =>
    dsimp only
    obtain ⟨v, hv⟩ : ∃ v, v = u.updSec fun c => { c with ops := os.dropWhile (CurveOp.follows o.task) } := ⟨_, rfl⟩
    have h2 : SecStep u v := hv ▸ .updSec u rfl rfl
    have h3 : SecStep v (v.ceAbort o.task).ceStart := (SecStep.ceAbort v o.task).trans (.ceStart _)
    rw [← hv]
    exact hu.trans (h2.trans (h3.trans (.ite (.dropKey _) (.refl _))))

/-! ## Zeroization (R530) -/

theorem High.sessionEvs : ∀ (n : Nat) (s : State), High s (s.sessionEvs n)
  | 0, s => .refl s
  | n + 1, s => (High.evSec s 12).trans (sessionEvs n _)

theorem High.tdiErrors : ∀ (sls : List Nat) (s : State), High s (s.tdiErrors sls)
  | [], s => .refl s
  | sl :: sls, s => ((High.endChans 9 (s.slChans sl) s).trans (.setTdi _ sl 3)).trans (tdiErrors sls _)

theorem High.ideDown (s : State) (m st : Nat) : High s (s.ideDown m st) := by
  unfold State.ideDown
  extract_lets was u v
  have hu : High s u := .of_same rfl rfl
  have hv : High u v := .ite (.evSec u 10) (.refl u)
  exact hu.trans (hv.trans (.ite (.tdiErrors _ v) (.refl v)))

theorem High.ideDowns (m : Nat) : ∀ (sts : List Nat) (s : State), High s (s.ideDowns m sts)
  | [], s => .refl s
  | st :: sts, s => (High.ideDown s m st).trans (ideDowns m sts _)

theorem High.zeroLinks : ∀ (ms : List Nat) (s : State), High s (s.zeroLinks ms)
  | [], s => .refl s
  | m :: ms, s => by
    rw [State.zeroLinks]
    generalize hu' : State.sessionEvs _ (s.updLink m _) = u
    have hu : High s u := by
      rw [← hu']
      exact High.trans (.of_same (State.updLink_regs ..) (State.updLink_log ..)) (.sessionEvs _ _)
    exact hu.trans ((High.ideDowns m _ u).trans (zeroLinks ms _))

/-- Zeroization before its scope is looked at: every session and stream is closed. -/
def State.sessionsClosed (s : State) : State :=
  ((s.updSec fun c => { c with mctp := { c.mctp with sessions := [] } }).sessionEvs s.sec.mctp.sessions.length).zeroLinks
    (((s.updSec fun c => { c with mctp := { c.mctp with sessions := [] } }).sessionEvs s.sec.mctp.sessions.length).links.map (·.1))

/-- What the wider scope adds. -/
def State.keysGone (s : State) : State :=
  ((((s.dropKey).updSec fun c => { c with keyGone := true, nonce := none }).lockDebug).entropyFaults).rngTest true

theorem State.zeroize_eq (s : State) (scope : Nat) :
    s.zeroize scope = (if scope = 0 then s.sessionsClosed else s.sessionsClosed.keysGone).evSec 1 := rfl

theorem State.sessionsClosed_sec (s : State) : s.sessionsClosed.sec = { s.sec with mctp := { s.sec.mctp with sessions := [] } } := by
  unfold State.sessionsClosed
  rw [(State.zeroLinks_in ..).same .sec rfl, (State.sessionEvs_in ..).same .sec rfl]
  rfl

theorem SecStep.sessionsClosed (s : State) : SecStep s s.sessionsClosed := by
  refine (SecStep.updSec s (f := fun c => { c with mctp := { c.mctp with sessions := [] } }) rfl rfl).trans ?_
  refine .of_high ((High.sessionEvs _ _).trans (.zeroLinks _ _)) ?_
  exact ((State.zeroLinks_in ..).same .sec rfl).trans ((State.sessionEvs_in ..).same .sec rfl)

theorem SecStep.keysGone (s : State) : SecStep s s.keysGone := by
  refine (SecStep.dropKey s).trans ?_
  refine (SecStep.updSec s.dropKey (f := fun c => { c with keyGone := true, nonce := none }) rfl rfl).trans ?_
  exact ((SecStep.lockDebug _).trans (.entropyFaults _)).trans (.rngTest _ true)

theorem SecStep.zeroize (s : State) (scope : Nat) : SecStep s (s.zeroize scope) := by
  rw [State.zeroize_eq]
  exact SecStep.trans (.ite (.sessionsClosed s) ((SecStep.sessionsClosed s).trans (.keysGone _))) (.evSec _ 1)

theorem State.dropKey_told (s : State) : s.dropKey.sec = { s.sec with key := none } ∧
    s.dropKey.fld Reg.SEC_STATE F.SEC_STATE_KEY_ID = 0 := by
  unfold State.dropKey
  extract_lets had u
  have hsec : u.sec = { s.sec with key := none } := State.setFld_sec ..
  have hkey : u.fld Reg.SEC_STATE F.SEC_STATE_KEY_ID = 0 := State.fld_setFld _ _ _ _ (by decide)
  clear_value u
  split
  · rw [(State.rtAll_in u).same .sec rfl, State.fld_hw _ _ rfl, (High.rtAll u).low _ (by decide) (by decide), ← State.fld_hw _ _ rfl]
    exact ⟨hsec, hkey⟩
  · exact ⟨hsec, hkey⟩

theorem State.lockDebug_told (s : State) : s.lockDebug.sec = s.sec ∧
    s.lockDebug.fld Reg.SEC_STATE F.SEC_STATE_KEY_ID = s.fld Reg.SEC_STATE F.SEC_STATE_KEY_ID := by
  refine ⟨(State.lockDebug_in s).same .sec rfl, ?_⟩
  unfold State.lockDebug State.setDbg
  split
  · extract_lets was u
    have hu : u.fld Reg.SEC_STATE F.SEC_STATE_KEY_ID = s.fld Reg.SEC_STATE F.SEC_STATE_KEY_ID := State.fld_setFld_other _ _ _ _ _ (by decide)
    clear_value u
    have hev : ∀ e < 400, (u.evSec e).fld Reg.SEC_STATE F.SEC_STATE_KEY_ID = s.fld Reg.SEC_STATE F.SEC_STATE_KEY_ID := fun e he => by
      rw [State.fld_hw _ _ rfl, State.rdW_evSec _ he (by decide) (by decide), ← State.fld_hw _ _ rfl, hu]
    split
    · exact hev _ (by decide)
    · split
      · exact hev _ (by decide)
      · exact hu
  · rfl

/-- What zeroization of the wider scope leaves of the keys. -/
structure KeysGone (t : State) : Prop where
  key : t.sec.key = none
  nonce : t.sec.nonce = none
  keyGone : t.sec.keyGone = true
  id : t.fld Reg.SEC_STATE F.SEC_STATE_KEY_ID = 0

theorem State.keysGone_told (s : State) : KeysGone s.keysGone ∧ s.keysGone.sec.mctp = s.sec.mctp := by
  obtain ⟨hs, hk⟩ := s.dropKey_told
  obtain ⟨u, hu⟩ : ∃ u, u = s.dropKey.updSec fun c => { c with keyGone := true, nonce := none } := ⟨_, rfl⟩
  obtain ⟨hl, hlk⟩ := u.lockDebug_told
  have hsec : s.keysGone.sec = { u.sec.calm with testAt := u.lockDebug.entropyFaults.ticks, restart := true } := by
    rw [State.keysGone, ← hu, State.rngTest_sec, State.entropyFaults_sec, hl]
  have husec : u.sec = { s.sec with key := none, keyGone := true, nonce := none } := by
    rw [hu, State.updSec_sec, hs]
  have hid : s.keysGone.fld Reg.SEC_STATE F.SEC_STATE_KEY_ID = 0 := by
    rw [State.keysGone, ← hu, State.fld_hw _ _ rfl, State.rngTest_kept _ _ _ (by decide), State.rdW_of_regs (State.entropyFaults_regs _),
      ← State.fld_hw _ _ rfl, hlk, hu, State.updSec_fld, hk]
  rw [husec] at hsec
  exact ⟨⟨by rw [hsec]; rfl, by rw [hsec]; rfl, by rw [hsec]; rfl, hid⟩, by rw [hsec]; rfl⟩

theorem KeysGone.evSec {t : State} (h : KeysGone t) {e : Nat} (he : e < 400) : KeysGone (t.evSec e) :=
  ⟨by rw [State.evSec_sec]; exact h.key, by rw [State.evSec_sec]; exact h.nonce, by rw [State.evSec_sec]; exact h.keyGone, by
    rw [State.fld_hw _ _ rfl, State.rdW_evSec _ he (by decide) (by decide), ← State.fld_hw _ _ rfl]
    exact h.id⟩

theorem State.zeroize_one (s : State) : KeysGone (s.zeroize 1) := by
  rw [State.zeroize_eq, if_neg (by decide)]
  exact (State.keysGone_told _).1.evSec (by decide)

end Sys2Proof.Machine
end

section
/-! SUPPORT. Sessions and streams that zeroization closes (O59). -/

namespace Sys2Proof.Machine

set_option Elab.async false

/-! ## Sessions and streams that zeroization closes (R530) -/

/-- What is closed stays closed: a link without sessions, and a stream that is Insecure without keys. -/
structure StaysClosed (s t : State) : Prop where
  sessions : ∀ n, (s.link n).spdm.sessions = [] → (t.link n).spdm.sessions = []
  stream : ∀ n st, s.ideOf n st = {} → t.ideOf n st = {}

theorem StaysClosed.refl (s : State) : StaysClosed s s := ⟨fun _ h => h, fun _ _ h => h⟩

theorem StaysClosed.trans {s t u : State} (h : StaysClosed s t) (h' : StaysClosed t u) : StaysClosed s u :=
  ⟨fun n hn => h'.sessions n (h.sessions n hn), fun n st hn => h'.stream n st (h.stream n st hn)⟩

theorem State.ideOf_of_link {s t : State} {m : Nat} (h : (t.link m).ide = (s.link m).ide) (st : Nat) : t.ideOf m st = s.ideOf m st := by
  unfold State.ideOf
  rw [h]

theorem LinksSteady.staysClosed {s t : State} (h : LinksSteady s t) : StaysClosed s t :=
  ⟨fun n hn => (h n).sessions.trans hn, fun n st hn => (State.ideOf_of_link (h n).ide st).trans hn⟩

/-- The stream itself is replaced, and nothing else of the links. -/
theorem State.updIde_told (s : State) (m st : Nat) : StaysClosed s (s.updIde m st fun _ => {}) ∧
    (s.updIde m st fun _ => {}).ideOf m st = {} := by
  have hlink : ∀ n, n ≠ m → (s.updIde m st fun _ => {}).link n = s.link n := fun n hn => State.link_updLink_other _ _ hn
  have hsame : (s.updIde m st fun _ => {}).link m = { s.link m with ide := SMap.upd {} (s.link m).ide st fun _ => {} } :=
    State.link_updLink_same ..
  have hide : ((s.updIde m st fun _ => {}).link m).ide = SMap.upd {} (s.link m).ide st fun _ => {} := by rw [hsame]
  have hat : (s.updIde m st fun _ => {}).ideOf m st = {} := by rw [State.ideOf, hide, SMap.get_upd_same]
  refine ⟨⟨fun n hn => ?_, fun n st' hn => ?_⟩, hat⟩
  · by_cases h : n = m
    · rw [h, hsame]
      exact h ▸ hn
    · rw [hlink n h, hn]
  · by_cases h : n = m
    · by_cases hst : st' = st
      · rw [h, hst, hat]
      · subst h
        rw [State.ideOf, hide, SMap.get_upd_other _ _ _ hst]
        exact hn
    · rw [State.ideOf, hlink n h]
      exact hn

theorem State.ideDown_told (s : State) (m st : Nat) : StaysClosed s (s.ideDown m st) ∧ (s.ideDown m st).ideOf m st = {} := by
  obtain ⟨hc, hz⟩ := s.updIde_told m st
  unfold State.ideDown
  extract_lets was u v
  have hv : LinksSteady u v := .ite (.evSec u 10) (.refl u)
  have ht : LinksSteady u (if was.state = 2 then v.tdiErrors (v.streamTdis m st) else v) := hv.trans (.ite (.tdiErrors _ v) (.refl v))
  exact ⟨StaysClosed.trans hc ht.staysClosed, ht.staysClosed.stream m st hz⟩

theorem State.ideDowns_told (m : Nat) : ∀ (sts : List Nat) (s : State),
    StaysClosed s (s.ideDowns m sts) ∧ ∀ st ∈ sts, (s.ideDowns m sts).ideOf m st = {}
  | [], s => ⟨.refl s, fun _ h => nomatch h⟩
  | st :: sts, s => by
    obtain ⟨h1, hz⟩ := s.ideDown_told m st
    obtain ⟨h2, hzs⟩ := State.ideDowns_told m sts (s.ideDown m st)
    refine ⟨h1.trans h2, fun st' hm => ?_⟩
    rcases List.mem_cons.1 hm with rfl | hm
    · exact h2.stream m _ hz
    · exact hzs st' hm

theorem SMap.get_of_not_listed {α : Type} (d : α) : ∀ (m : SMap α) {k : Nat}, k ∉ m.map (·.1) → SMap.get d m k = d
  | [], _, _ => rfl
  | (j, v) :: m, k, h => by
    rw [List.map_cons, List.mem_cons, not_or] at h
    rw [SMap.get, if_neg (Ne.symm h.1), SMap.get_of_not_listed d m h.2]

/-- A link is closed: no session, and every stream Insecure without keys. -/
def State.linkClosed (s : State) (m : Nat) : Prop := (s.link m).spdm.sessions = [] ∧ ∀ st, s.ideOf m st = {}

theorem StaysClosed.link {s t : State} (h : StaysClosed s t) {m : Nat} (hm : s.linkClosed m) : t.linkClosed m :=
  ⟨h.sessions m hm.1, fun st => h.stream m st (hm.2 st)⟩

/-- A link of which nothing is recorded is closed. -/
theorem State.linkClosed_default {s : State} {m : Nat} (h : m ∉ s.links.map (·.1)) : s.linkClosed m := by
  have hl : s.link m = {} := SMap.get_of_not_listed _ _ h
  refine ⟨by rw [hl], fun st => ?_⟩
  rw [State.ideOf, hl]
  rfl

theorem State.zeroLinks_told : ∀ (ms : List Nat) (s : State), StaysClosed s (s.zeroLinks ms) ∧ ∀ m ∈ ms, (s.zeroLinks ms).linkClosed m
  | [], s => ⟨.refl s, fun _ h => nomatch h⟩
  | m :: ms, s => by
    rw [State.zeroLinks]
    obtain ⟨v, hv⟩ : ∃ v, v = s.updLink m fun l => { l with spdm := { l.spdm with sessions := [] } } := ⟨_, rfl⟩
    have hsame : v.link m = { s.link m with spdm := { (s.link m).spdm with sessions := [] } } := hv ▸ State.link_updLink_same ..
    have h0 : StaysClosed s v := by
      refine ⟨fun n hn => ?_, fun n st hn => ?_⟩
      · by_cases h : n = m
        · rw [h, hsame]
        · rw [hv, State.link_updLink_other _ _ h, hn]
      · by_cases h : n = m
        · subst h
          rw [State.ideOf, hsame]
          exact hn
        · rw [hv, State.ideOf, State.link_updLink_other _ _ h]
          exact hn
    have h1 : StaysClosed v (v.sessionEvs (s.link m).spdm.sessions.length) := (LinksSteady.sessionEvs _ v).staysClosed
    have hses : ((v.sessionEvs (s.link m).spdm.sessions.length).link m).spdm.sessions = [] := h1.sessions m (by rw [hsame])
    rw [← hv]
    generalize v.sessionEvs (s.link m).spdm.sessions.length = u at *
    obtain ⟨h2, hz⟩ := State.ideDowns_told m ((u.link m).ide.map (·.1)) u
    have hclosed : (u.ideDowns m ((u.link m).ide.map (·.1))).linkClosed m := by
      refine ⟨h2.sessions m hses, fun st => ?_⟩
      by_cases hst : st ∈ (u.link m).ide.map (·.1)
      · exact hz st hst
      · exact h2.stream m st (SMap.get_of_not_listed _ _ hst)
    obtain ⟨h3, hc⟩ := State.zeroLinks_told ms (u.ideDowns m ((u.link m).ide.map (·.1)))
    refine ⟨((h0.trans h1).trans h2).trans h3, fun n hn => ?_⟩
    rcases List.mem_cons.1 hn with rfl | hn
    · exact h3.link hclosed
    · exact hc n hn

theorem State.sessionsClosed_links (s : State) (m : Nat) : s.sessionsClosed.linkClosed m := by
  unfold State.sessionsClosed
  generalize State.sessionEvs s.sec.mctp.sessions.length (s.updSec _) = u
  obtain ⟨h, hc⟩ := State.zeroLinks_told (u.links.map (·.1)) u
  by_cases hm : m ∈ u.links.map (·.1)
  · exact hc m hm
  · exact h.link (State.linkClosed_default hm)

theorem LinksSteady.doeAnswer (s : State) (m : Nat) (obj : List Byte) : LinksSteady s (s.doeAnswer m obj) := by
  unfold State.doeAnswer
  extract_lets u
  have hu : LinksSteady s u := .updLink s m ⟨rfl, rfl, rfl, rfl, rfl⟩
  exact .ite (hu.trans ((LinksSteady.updLink u m (.setCfg _ _ (by decide))).trans (.signal _ m 0))) hu

theorem LinksSteady.spdmSend (s : State) (src : SpdmSrc) (session : Option Nat) (bs : List Byte) :
    LinksSteady s (s.spdmSend src session bs) := by
  cases src with
  | doe m => exact .doeAnswer s _ _
  | mctp eid tag => exact .of_links rfl

theorem State.ceAborts_steady : ∀ {os : List CurveOp} (s : State), (∀ o ∈ os, o.isSign = true) → LinksSteady s (s.ceAborts os)
  | [], s, _ => .refl s
  | o :: os, s, h => by
    have ho : ∃ src session ans opens, o.task = .sign src session ans opens := by
      have hs := h o (.head _)
      unfold CurveOp.isSign at hs
      split at hs
      next src session ans opens ht => exact ⟨src, session, ans, opens, ht⟩
      next => exact absurd hs Bool.false_ne_true
    obtain ⟨src, session, ans, opens, ho⟩ := ho
    rw [State.ceAborts, ho]
    exact (LinksSteady.spdmSend s src session _).trans (State.ceAborts_steady _ fun o hm => h o (.tail _ hm))

theorem LinksSteady.rtBump : ∀ (ms : List Nat) (s : State), LinksSteady s (s.rtBump ms)
  | [], s => .refl s
  | m :: ms, s => (LinksSteady.updLink s m ⟨rfl, rfl, rfl, rfl, rfl⟩).trans (rtBump ms _)

theorem LinksSteady.rtAll (s : State) : LinksSteady s s.rtAll := (LinksSteady.rtBump _ s).trans (.evUm _ 15)

theorem LinksSteady.dropKey (s : State) : LinksSteady s s.dropKey := by
  unfold State.dropKey
  extract_lets had u
  have hu : LinksSteady s u := .of_links (State.setFld_links ..)
  exact .ite (hu.trans (.rtAll u)) hu

theorem LinksSteady.setDbg (s : State) (v : Nat) : LinksSteady s (s.setDbg v) := by
  unfold State.setDbg
  extract_lets was u
  have hu : LinksSteady s u := .setFld s _ _ _
  exact .ite (hu.trans (.evSec u 4)) (.ite (hu.trans (.evSec u 5)) hu)

theorem LinksSteady.entropyFaults (s : State) : LinksSteady s s.entropyFaults :=
  LinksSteady.trans (t := s.updSec SecRt.calm) (.of_links rfl)
    (State.ceAborts_steady _ fun _ hm => (Bool.and_eq_true_iff.1 (List.mem_filter.1 hm).2).2)

theorem LinksSteady.keysGone (s : State) : LinksSteady s s.keysGone := by
  refine (LinksSteady.dropKey s).trans ?_
  obtain ⟨u, hu⟩ : ∃ u, u = s.dropKey.updSec fun c => { c with keyGone := true, nonce := none } := ⟨_, rfl⟩
  have h1 : LinksSteady s.dropKey u := hu ▸ .of_links (State.updSec_links ..)
  have h2 : LinksSteady u u.lockDebug := .ite (.setDbg u 0) (.refl u)
  have h3 : LinksSteady u.lockDebug.entropyFaults s.keysGone := by
    rw [State.keysGone, ← hu]
    exact (LinksSteady.setFld _ _ _ _).trans (.of_links (State.updSec_links ..))
  exact ((h1.trans h2).trans (.entropyFaults _)).trans h3

theorem State.zeroize_links (s : State) (scope m : Nat) : (s.zeroize scope).linkClosed m := by
  rw [State.zeroize_eq]
  have h : LinksSteady s.sessionsClosed (if scope = 0 then s.sessionsClosed else s.sessionsClosed.keysGone) :=
    .ite (.refl _) (.keysGone _)
  exact (h.trans (.evSec _ 1)).staysClosed.link (s.sessionsClosed_links m)

theorem State.zeroize_sec (s : State) (scope : Nat) : (s.zeroize scope).sec.mctp.sessions = [] ∧
    (scope = 0 → (s.zeroize scope).sec.key = s.sec.key ∧ (s.zeroize scope).sec.nonce = s.sec.nonce) := by
  rw [State.zeroize_eq, State.evSec_sec]
  split
  · rw [State.sessionsClosed_sec]
    exact ⟨rfl, fun _ => ⟨rfl, rfl⟩⟩
  next h => exact ⟨by rw [(State.keysGone_told _).2, State.sessionsClosed_sec], fun h0 => absurd h0 h⟩

theorem KeysGone.of_same {s t : State} (h : KeysGone s) (hs : t.sec = s.sec) (hr : t.rdW Reg.SEC_STATE = s.rdW Reg.SEC_STATE) : KeysGone t :=
  ⟨by rw [hs]; exact h.key, by rw [hs]; exact h.nonce, by rw [hs]; exact h.keyGone, by
    rw [State.fld_hw _ _ rfl, hr, ← State.fld_hw _ _ rfl]
    exact h.id⟩

theorem execSecZeroize_completes {s : State} {h : UmHdr} {p : List Byte} (hc : s.umCheck h 0x0A05 p.length = none) (h1 : leAt p 0 1 ≤ 1) :
    Completes (.secZeroize h p) s fun t => (t.rdW Reg.SEC_EVENT).toNat.testBit 1 = true ∧ t.sec.mctp.sessions = [] ∧
      (∀ m, (t.link m).spdm.sessions = []) ∧ (∀ m st, (t.ideOf m st).state = 0 ∧ (t.ideOf m st).keys = []) ∧
      (leAt p 0 1 = 0 → t.sec.key = s.sec.key ∧ t.sec.nonce = s.sec.nonce) ∧
      (leAt p 0 1 = 1 → t.sec.key = none ∧ t.sec.nonce = none ∧ t.fld Reg.SEC_STATE F.SEC_STATE_KEY_ID = 0 ∧
        t.sec.keyGone = true) := by
  have hexec : exec (.secZeroize h p) s = .next ((s.zeroize (leAt p 0 1)).reply h 0x0A05 stOK []) := by
    show execSecZeroize h p s = _
    unfold execSecZeroize
    rw [State.umRun_eq hc, if_neg (by omega)]
  have hbit : ((s.zeroize (leAt p 0 1)).rdW Reg.SEC_EVENT).toNat.testBit 1 = true :=
    State.occurBit_bit _ (by decide) _ (by decide) _ (by decide)
  have hlinks := s.zeroize_links (leAt p 0 1)
  obtain ⟨hm, h0⟩ := s.zeroize_sec (leAt p 0 1)
  have hone : leAt p 0 1 = 1 → KeysGone (s.zeroize (leAt p 0 1)) := fun h => by
    rw [h]
    exact s.zeroize_one
  generalize s.zeroize (leAt p 0 1) = u at *
  have hl : ∀ m, (u.reply h 0x0A05 stOK []).link m = u.link m := State.link_of_links (State.reply_links ..)
  have hs : (u.reply h 0x0A05 stOK []).sec = u.sec := State.reply_sec ..
  have hr : ∀ k, (u.reply h 0x0A05 stOK []).rdW k = u.rdW k := State.rdW_of_regs (State.reply_regs ..)
  refine .intro hexec ⟨?_, by rw [hs, hm], fun m => by rw [hl, (hlinks m).1], fun m st => ?_, fun h => ?_, fun h => ?_⟩
  · rw [hr]
    exact hbit
  · rw [State.ideOf_of_link (s := u) (by rw [hl]) st, (hlinks m).2 st]
    exact ⟨rfl, rfl⟩
  · rw [hs]
    exact h0 h
  · obtain ⟨hk, hn, hg, hi⟩ := (hone h).of_same hs (hr _)
    exact ⟨hk, hn, hi, hg⟩

end Sys2Proof.Machine
end

section
/-! SUPPORT. The response of a tamper level, and the security block's commands (O59). -/

namespace Sys2Proof.Machine

set_option Elab.async false

/-! ## The response of a tamper level (R531) -/

/-- The entry to Quarantine keeps the trip's record and the security block, SEC powered. -/
theorem State.enterQuarantine_kept {s : State} (h4 : s.on 4 = true) {trig code : Nat} (detail : Nat) (hc : code < 256) :
    QuarStep True s (s.enterQuarantine trig code detail) ∧ (3 ≤ s.mode → (s.enterQuarantine trig code detail).mode = 0xC) := by
  by_cases h : s.mode < 3 ∨ s.mode = 0xC
  · have he : s.enterQuarantine trig code detail = s := if_pos h
    rw [he]
    exact ⟨.refl _ _, fun hm => h.resolve_left (by omega)⟩
  · obtain ⟨hs, hm, -, -⟩ := s.enterQuarantine_quarantined (trig := trig) detail (by omega) (by omega) hc
    exact ⟨⟨fun k hk _ => hs.regs k hk fun _ => h4, hs.bits, hs.kinds⟩, fun _ => hm⟩

/-- What the response of a level leaves of the trip's record, and what it adds. -/
structure TripActed (level : Nat) (s t : State) : Prop where
  stat : t.rdW Reg.SEC_TAMPER_STAT = s.rdW Reg.SEC_TAMPER_STAT
  count : t.rdW Reg.SEC_TAMPER_CNT = s.rdW Reg.SEC_TAMPER_CNT
  fuse : t.fuseV = s.fuseV
  bits : ∀ b, (s.rdW Reg.SEC_EVENT).toNat.testBit b = true → (t.rdW Reg.SEC_EVENT).toNat.testBit b = true
  kinds : KindsStay s t
  keys : 1 ≤ level → KeysGone t
  mode : 2 ≤ level → 3 ≤ s.mode → t.mode = 0xC
  prog : level = 3 → s.fuseV = true → s.sec.prog = none → s.sec.fuses.lc.testBit 7 = false →
    t.sec.prog = some ⟨none, 2 ^ 7, none, none⟩

theorem State.fuseV_of_rdW {s t : State} (h : t.rdW Reg.SEC_STATE = s.rdW Reg.SEC_STATE) : t.fuseV = s.fuseV := by
  rw [State.fuseV, State.fuseV, State.flag_hw _ _ rfl, State.flag_hw _ _ rfl, h]

theorem State.tamperAct_acted {s : State} (h4 : s.on 4 = true) {src : Nat} (level : Nat) : TripActed level s (s.tamperAct src level) := by
  unfold State.tamperAct
  extract_lets u v
  have hu : SecStep s u := .ite (.zeroize s 1) (.refl s)
  have hku : 1 ≤ level → KeysGone u := fun h => by
    unfold u
    rw [if_pos h]
    exact s.zeroize_one
  have h4u : u.on 4 = true := (State.on_eq_of_rdW (hu.regs _ (by decide)) 4).trans h4
  have hmu : u.mode = s.mode := State.mode_eq_of_rdW (hu.regs _ (by decide))
  clear_value u
  have hv : QuarStep True u v ∧ (2 ≤ level → 3 ≤ u.mode → v.mode = 0xC) ∧ v.sec = u.sec := by
    unfold v
    split
    next h =>
      obtain ⟨hq, hm⟩ := State.enterQuarantine_kept h4u (trig := 0x15) (code := 8) src (by decide)
      exact ⟨hq, fun _ => hm, State.enterQuarantine_sec ..⟩
    next h => exact ⟨.refl _ _, fun h' => absurd h' h, rfl⟩
  obtain ⟨hq, hm, hsec⟩ := hv
  have hfuse : v.fuseV = s.fuseV := (State.fuseV_of_rdW (hq.regs _ (by decide) fun _ => trivial)).trans hu.fuse
  have hkv : 1 ≤ level → KeysGone v := fun h => (hku h).of_same hsec (hq.regs _ (by decide) fun _ => trivial)
  clear_value v
  have hbase : (∀ t : State, t.regs = v.regs → t.log = v.log → t.sec.key = v.sec.key → t.sec.nonce = v.sec.nonce →
      t.sec.keyGone = v.sec.keyGone →
      (level = 3 → s.fuseV = true → s.sec.prog = none → s.sec.fuses.lc.testBit 7 = false → t.sec.prog = some ⟨none, 2 ^ 7, none, none⟩) →
      TripActed level s t) := fun t hr hl hk hn hg hp =>
    have hrd : ∀ k, t.rdW k = v.rdW k := State.rdW_of_regs hr
    { stat := (hrd _).trans ((hq.regs _ (by decide) fun _ => trivial).trans (hu.regs _ (by decide)))
      count := (hrd _).trans ((hq.regs _ (by decide) fun _ => trivial).trans (hu.regs _ (by decide)))
      fuse := (State.fuseV_of_rdW (hrd _)).trans hfuse
      bits := fun b hb => by
        rw [hrd]
        exact hq.bits b (hu.bits b hb)
      kinds := (hu.kinds.trans hq.kinds).trans (.of_log hl)
      keys := fun h => ⟨hk.trans (hkv h).key, hn.trans (hkv h).nonce, hg.trans (hkv h).keyGone, by
        rw [State.fld_hw _ _ rfl, hrd, ← State.fld_hw _ _ rfl]
        exact (hkv h).id⟩
      mode := fun h h3 => (State.mode_eq_of_rdW (hrd _)).trans (hm h (hmu.symm ▸ h3))
      prog := hp }
  split
  · exact hbase _ rfl rfl rfl rfl rfl fun _ _ _ _ => rfl
  next h =>
    refine hbase v rfl rfl rfl rfl rfl fun hl hf hp hlc => absurd ⟨hl, hfuse.trans hf, ?_, ?_⟩ h
    · rw [hsec, hu.prog, hp]
    · rw [hsec, hu.fuses, hlc]
      rfl

/-- A trip recorded while SEC is powered, before its response. -/
def State.tripTold (s : State) (src level phase : Nat) (v : Bool) : State :=
  (((((s.tamperLatch src).seeFuseV v).cnt Reg.SEC_TAMPER_CNT).evSec 0).logTamper src level phase).raiseWake 7 0

theorem State.logTamper_high (s : State) (src level phase : Nat) : High s (s.logTamper src level phase) := .logKind s _ _

theorem State.raiseWake_quiet (s : State) (code port : Nat) : (s.raiseWake code port).regs = s.regs ∧ (s.raiseWake code port).log = s.log ∧
    (s.raiseWake code port).sec = s.sec :=
  ⟨(State.raiseWake_in ..).same .regs rfl, (State.raiseWake_in ..).same .log rfl, (State.raiseWake_in ..).same .sec rfl⟩

/-- What the record of a trip holds. -/
structure TripTold (src : Fin 8) (v : Bool) (s t : State) : Prop where
  latch : (t.fld Reg.SEC_TAMPER_STAT F.SEC_TAMPER_STAT_LATCH).testBit src = true
  last : t.fld Reg.SEC_TAMPER_STAT F.SEC_TAMPER_STAT_LAST = src.val
  count : Counted Reg.SEC_TAMPER_CNT s t
  event : (t.rdW Reg.SEC_EVENT).toNat.testBit 0 = true
  fuse : t.fuseV = v
  entry : logFill s.log.queue < 200 → t.log.queue.any (fun w => w.entry.kind == 9) = true
  on : t.on 4 = true
  mode : t.mode = s.mode
  sec : t.sec = s.sec

theorem State.tripTold_told {s : State} (h4 : s.on 4 = true) (src : Fin 8) (level phase : Nat) (v : Bool) :
    TripTold src v s (s.tripTold src level phase v) := by
  have hlk := s.tamperLatch_kept src
  obtain ⟨hlatch, hlast⟩ := s.tamperLatch_told src
  have hsec0 : (s.tamperLatch src).sec = s.sec := (State.tamperLatch_in ..).same .sec rfl
  have hlog0 : (s.tamperLatch src).log = s.log := (State.tamperLatch_in ..).same .log rfl
  obtain ⟨a, ha⟩ : ∃ a, a = s.tamperLatch src := ⟨_, rfl⟩
  rw [← ha] at hlk hlatch hlast hsec0 hlog0
  have h4a : a.on 4 = true := (State.on_eq_of_rdW (hlk _ (by decide)) 4).trans h4
  have hbk := a.seeFuseV_kept v
  have hbf := State.fuseV_seeFuseV h4a v
  have hsec1 : (a.seeFuseV v).sec = a.sec := a.seeFuseV_sec v
  have hlog1 : (a.seeFuseV v).log = a.log := (State.seeFuseV_in ..).same .log rfl
  obtain ⟨b, hb⟩ : ∃ b, b = a.seeFuseV v := ⟨_, rfl⟩
  rw [← hb] at hbk hbf hsec1 hlog1
  obtain ⟨c, hc⟩ : ∃ c, c = b.cnt Reg.SEC_TAMPER_CNT := ⟨_, rfl⟩
  have hfill : logFill s.log.queue < 200 → logFill (c.evSec 0).log.queue < 256 := fun h => by
    have hle := State.occurBit_fill c 568 Reg.SEC_EVENT 0 none
    have hlog2 : c.log = s.log := by rw [hc, ← hlog0, ← hlog1]; rfl
    rw [hlog2] at hle
    exact Nat.lt_of_le_of_lt hle (by omega)
  have hevent : ((c.evSec 0).rdW Reg.SEC_EVENT).toNat.testBit 0 = true := State.occurBit_bit c (by decide) _ (by decide) _ (by decide)
  have hh : High c ((c.evSec 0).logTamper src level phase) := (High.evSec c 0).trans ((c.evSec 0).logTamper_high src level phase)
  have hbits := ((c.evSec 0).logTamper_high src level phase).bits 0 hevent
  obtain ⟨hr, hl, hs⟩ := ((c.evSec 0).logTamper src level phase).raiseWake_quiet 7 0
  have ht : s.tripTold src level phase v = ((c.evSec 0).logTamper src level phase).raiseWake 7 0 := by
    rw [State.tripTold, ← ha, ← hb, ← hc]
  have hrd : ∀ k < 0x4100, k ≠ Reg.SEC_EVENT → (s.tripTold src level phase v).rdW k = c.rdW k := fun k hk he => by
    rw [ht, State.rdW_of_regs hr, hh.low k hk he]
  have hcb : ∀ k, k ≠ Reg.SEC_TAMPER_CNT → c.rdW k = b.rdW k := fun k hk => by rw [hc, State.rdW_cnt_other _ hk]
  have hstat : (s.tripTold src level phase v).rdW Reg.SEC_TAMPER_STAT = a.rdW Reg.SEC_TAMPER_STAT := by
    rw [hrd _ (by decide) (by decide), hcb _ (by decide), hbk _ (by decide)]
  have hpw : ∀ k ∈ [Reg.PW_ON, Reg.PW_MODE], (s.tripTold src level phase v).rdW k = s.rdW k := by
    have hne : ∀ k ∈ [Reg.PW_ON, Reg.PW_MODE], k < 0x4100 ∧ k ≠ Reg.SEC_EVENT ∧ k ≠ Reg.SEC_TAMPER_CNT ∧ k ∉ [Reg.SEC_STATE] ∧
        k ∉ [Reg.SEC_TAMPER_STAT] := by decide
    intro k hk
    obtain ⟨h1, h2, h3, h5, h6⟩ := hne k hk
    rw [hrd k h1 h2, hcb k h3, hbk k h5, hlk k h6]
  refine ⟨?_, ?_, ?_, ?_, ?_, fun h => ?_, ?_, State.mode_eq_of_rdW (hpw _ (by decide)), ?_⟩
  · rw [State.fld_hw _ _ rfl, hstat, ← State.fld_hw _ _ rfl]
    exact hlatch
  · rw [State.fld_hw _ _ rfl, hstat, ← State.fld_hw _ _ rfl]
    exact hlast
  · rw [Counted, hrd _ (by decide) (by decide), hc, State.rdW_cnt, hbk _ (by decide), hlk _ (by decide)]
  · rw [ht, State.rdW_of_regs hr]
    exact hbits
  · rw [State.fuseV_of_rdW (hrd _ (by decide) (by decide)), State.fuseV_of_rdW (hcb _ (by decide)), hbf]
  · rw [ht, hl]
    exact State.logKind_any _ 9 _ (hfill h)
  · exact (State.on_eq_of_rdW (hpw _ (by decide)) 4).trans h4
  · rw [ht, hs, (State.logTamper_in ..).same .sec rfl, State.evSec_sec, ← hsec0, ← hsec1, hc]
    rfl

theorem execTamperTrip_on {s : State} {src : Fin 8} {v : Bool} (hm : s.mode ≠ 0) (h4 : s.on 4 = true) (hp : s.sec.prog = none) :
    Completes (.tamperTrip src v) s fun t =>
      (t.fld Reg.SEC_TAMPER_STAT F.SEC_TAMPER_STAT_LATCH).testBit src = true ∧
      t.fld Reg.SEC_TAMPER_STAT F.SEC_TAMPER_STAT_LAST = src.val ∧ Counted Reg.SEC_TAMPER_CNT s t ∧
      (t.rdW Reg.SEC_EVENT).toNat.testBit 0 = true ∧ t.flag Reg.SEC_STATE F.SEC_STATE_FUSE_V = v ∧
      (logFill s.log.queue < 200 → t.log.queue.any (fun w => w.entry.kind == 9) = true) ∧
      (1 ≤ s.tamperLevel src → t.sec.key = none ∧ t.sec.nonce = none ∧ t.fld Reg.SEC_STATE F.SEC_STATE_KEY_ID = 0) ∧
      (2 ≤ s.tamperLevel src → 3 ≤ s.mode → t.mode = 0xC) ∧
      (s.tamperLevel src = 3 → v = true → s.sec.fuses.lc.testBit 7 = false →
        t.sec.prog = some ⟨none, 2 ^ 7, none, none⟩) := by
  have htold := State.tripTold_told h4 src (s.tamperLevel src) s.tamperPhase v
  have hexec : exec (.tamperTrip src v) s =
      .next ((s.tripTold src (s.tamperLevel src) s.tamperPhase v).ceStop.tamperAct src (s.tamperLevel src)) := by
    have hprog : (s.tripTold src (s.tamperLevel src) s.tamperPhase v).sec.prog = none := by rw [htold.sec, hp]
    show execTamperTrip src v s = _
    unfold execTamperTrip
    rw [if_neg (by rw [h4, Bool.true_or]; simpa using hm)]
    dsimp only
    rw [State.on_eq_of_rdW (s.tamperLatch_kept src _ (by decide)), h4, if_pos rfl, ← State.tripTold, hprog]
    rfl
  generalize s.tripTold src (s.tamperLevel src) s.tamperPhase v = w at *
  obtain ⟨hlatch, hlast, hcnt, hev, hfuse, hentry, hon, hmode, hsec⟩ := htold
  have hstop := SecStep.ceStop w
  have h4x : w.ceStop.on 4 = true := (State.on_eq_of_rdW (hstop.regs _ (by decide)) 4).trans hon
  obtain ⟨astat, acount, afuse, abits, akinds, akeys, amode, aprog⟩ := State.tamperAct_acted h4x (src := src) (s.tamperLevel src)
  have hstat := astat.trans (hstop.regs _ (by decide))
  refine .intro hexec ⟨?_, ?_, ?_, abits 0 (hstop.bits 0 hev), (afuse.trans hstop.fuse).trans hfuse, fun h => akinds 9 (hstop.kinds 9 (hentry h)),
    fun h => ?_, fun h h3 => amode h ?_, fun h hv hlc => aprog h (hstop.fuse.trans (hfuse.trans hv)) ?_ ?_⟩
  · rw [State.fld_hw _ _ rfl, hstat, ← State.fld_hw _ _ rfl]
    exact hlatch
  · rw [State.fld_hw _ _ rfl, hstat, ← State.fld_hw _ _ rfl]
    exact hlast
  · rw [Counted, acount, hstop.regs _ (by decide)]
    exact hcnt
  · obtain ⟨hk, hn, -, hi⟩ := akeys h
    exact ⟨hk, hn, hi⟩
  · rw [State.mode_eq_of_rdW (hstop.regs _ (by decide)), hmode]
    exact h3
  · rw [hstop.prog, hsec, hp]
  · rw [hstop.fuses, hsec]
    exact hlc

/-- Settles O59: health tests, restarts and seeds of the DRBG, a trip's record and its level's response, images, tokens, fuse
words, zeroization and the debug level, each from its own command's rule. -/
theorem securityCommandsProtectTheDevice : Obligations.SecurityCommandsProtectTheDevice := by
  unfold Obligations.SecurityCommandsProtectTheDevice
  exact ⟨fun _ _ _ h4 hr ht => execNoiseHealthFailure_fails h4 hr ht,
    fun s l w h => execNoiseHealthFailure_passes s l w h,
    fun _ h4 hr hn hat => execDrbgRestart_completes h4 hr hn hat,
    fun _ h4 hr hat => execDrbgInstantiated_completes h4 hr hat,
    fun _ h4 hr => execSecRngCtrlRetry_completes h4 hr,
    fun _ hr hd => execDrbgReseed_completes hr hd,
    fun _ _ _ hm h4 hp => execTamperTrip_on hm h4 hp,
    fun _ _ _ hm h4 hw => execTamperTrip_off hm h4 hw,
    fun _ _ _ hc => execSecStatus_completes hc,
    fun _ _ _ hc hb hlen => execFwLoad_completes hc hb hlen,
    fun _ _ _ _ hc hb hfw hv _ _ hst => execFwActivate_completes hc hb hfw hv hst,
    fun _ _ _ hfw hst => execSlotBCopyComplete_completes hfw hst,
    fun _ _ _ hc h4 hb hlen _ => execLcAdvance_waits hc h4 hb hlen,
    fun _ _ _ hc h4 => execLcAdvance_refused hc h4,
    fun _ _ _ hc hlen hlc h1 h2 _ => execDebugUnlock_waits hc hlen hlc h1 h2,
    fun _ _ _ _ hops hat hl _ h2 hlc hv hdue ho => execCurveOperationComplete_unlocks hops hat hl h2 hlc hv hdue ho,
    fun _ _ _ _ _ ho hb hd => execCurveOperationComplete_early ho hb hd,
    fun _ _ _ hc h1 => execSecZeroize_completes hc h1,
    fun _ _ _ hc hlen hg => execTamperCfg_completes hc hlen hg,
    fun _ h4 hlc => execSecDbgCtrlLock_completes h4 hlc,
    fun s ir => execTapInstruction_completes s ir,
    fun _ _ _ hg hlc hacts => execFuseProgrammingComplete_good hg hlc hacts,
    fun _ _ _ hg hacts => execFuseProgrammingComplete_bad hg hacts⟩

end Sys2Proof.Machine
end

section
/-! SUPPORT. Bits of a link's event register, and requests that stop and go (O37). -/

namespace Sys2Proof.Machine

set_option Elab.async false

/-! ## Bits of a link's event register (R317) -/

/-- The bits set in a host link's event register stay set. -/
def LinkBitsStay (m : Nat) (s t : State) : Prop := ∀ b, (s.rdW (Reg.HL_LINK_EVENT m)).toNat.testBit b = true →
  (t.rdW (Reg.HL_LINK_EVENT m)).toNat.testBit b = true

theorem LinkBitsStay.refl (m : Nat) (s : State) : LinkBitsStay m s s := fun _ h => h
theorem LinkBitsStay.trans {m : Nat} {s t u : State} (h : LinkBitsStay m s t) (h' : LinkBitsStay m t u) : LinkBitsStay m s u :=
  fun b hb => h' b (h b hb)
theorem LinkBitsStay.of_rdW {m : Nat} {s t : State} (h : t.rdW (Reg.HL_LINK_EVENT m) = s.rdW (Reg.HL_LINK_EVENT m)) : LinkBitsStay m s t :=
  fun _ hb => by rwa [h]
theorem LinkBitsStay.of_regs {m : Nat} {s t : State} (h : t.regs = s.regs) : LinkBitsStay m s t := .of_rdW (State.rdW_of_regs h _)

theorem LinkBitsStay.ite {m : Nat} {c : Prop} [Decidable c] {s t u : State} (h : LinkBitsStay m s t) (h' : LinkBitsStay m s u) :
    LinkBitsStay m s (if c then t else u) := by
  split <;> assumption

section
variable {m : Nat} (s : State)

theorem LinkBitsStay.setBitsOf (k v : Nat) : LinkBitsStay m s (s.setBitsOf k v) := fun b hb => by
  by_cases hk : Reg.HL_LINK_EVENT m = k
  · subst hk
    rw [State.rdW_setBitsOf, BitVec.toNat_ofNat, Nat.testBit_mod_two_pow, Nat.testBit_or, hb, Bool.true_or, decide_eq_true (bit_lt_of_word hb)]
    rfl
  · rwa [State.rdW_setBitsOf_other _ _ hk]

theorem LinkBitsStay.cnt {k : Nat} (h : Reg.HL_LINK_EVENT m ≠ k) : LinkBitsStay m s (s.cnt k) := .of_rdW (State.rdW_cnt_other _ h)
theorem LinkBitsStay.setFld {k : Nat} (f : Fld) (v : Nat) (h : Reg.HL_LINK_EVENT m ≠ k) : LinkBitsStay m s (s.setFld k f v) :=
  .of_rdW (State.rdW_setFld_other _ _ _ h)

theorem evCnt_ne_linkEvent {i : Nat} (hi : i < 1024) (m : Nat) : Reg.HL_LINK_EVENT m ≠ Reg.EV_CNT i := by
  simp only [Reg.HL_LINK_EVENT, Reg.EV_CNT]
  omega

theorem LinkBitsStay.raiseActs (n : Nat) {i : Nat} (det fl : Nat) : LinkBitsStay m s (State.raiseActs n s i det fl) :=
  (LinkBitsStay.setBitsOf s _ _).trans (State.raiseActs_from (LinkBitsStay m) (.refl m) (fun h h' => h.trans h') (fun _ => True)
    (fun _ _ => trivial) (fun s _ _ => .setBitsOf s _ _) (fun _ _ _ => .of_regs rfl)
    (fun s => .setFld s _ _ (by simp only [Reg.HL_LINK_EVENT, Reg.EV_ALERT]; omega)) (fun s m v => .of_regs ((State.signal_in s m v).same .regs rfl))
    (fun s e => .of_rdW (State.rdW_logPut _ _ (by simp only [Reg.HL_LINK_EVENT, Reg.LOG_SEQ]; omega)
      (by simp only [Reg.HL_LINK_EVENT, Reg.LOG_LOST]; omega)))
    (fun s m b h => .of_regs ((State.recUnc_in s m b h).same .regs rfl)) (fun s m b => .of_regs ((State.recCor_in s m b).same .regs rfl))
    (fun s _ _ => .setBitsOf s _ _) (fun s _ _ => .cnt s (evCnt_ne_linkEvent (by omega) m)) n s i det fl)

/-- What an occurrence sets before its count stays. -/
theorem State.occurBit_stay {i : Nat} (hi : i < 1024) (k b : Nat) (det : Option Nat) :
    LinkBitsStay m (s.setBitsOf k (2 ^ b)) (s.occurBit i k b det) := by
  unfold State.occurBit
  extract_lets was x y
  have hx : LinkBitsStay m (s.setBitsOf k (2 ^ b)) x := .of_regs rfl
  have hy : LinkBitsStay m x y := .cnt x (evCnt_ne_linkEvent hi m)
  clear_value y x
  refine hx.trans ?_
  split
  · split
    · exact hy
    · exact hy.trans (LinkBitsStay.trans (t := y.rose k (2 ^ b)) (.of_regs rfl) (.raiseActs _ _ _ _))
  · exact .refl m x

theorem LinkBitsStay.occurBit {i : Nat} (hi : i < 1024) (k b : Nat) (det : Option Nat) : LinkBitsStay m s (s.occurBit i k b det) :=
  (LinkBitsStay.setBitsOf s _ _).trans (s.occurBit_stay hi k b det)

/-- A link event sets its bit. -/
theorem State.evHl_bit (hm : m < 32) {e : Nat} (he : e < 4) : ((s.evHl m e).rdW (Reg.HL_LINK_EVENT m)).toNat.testBit e = true := by
  refine s.occurBit_stay (m := m) (i := 288 + 4 * m + e) (by omega) _ _ none e ?_
  rw [State.rdW_setBitsOf, BitVec.toNat_ofNat, Nat.testBit_mod_two_pow, Nat.testBit_or, Nat.testBit_two_pow_self, Bool.or_true,
    decide_eq_true (show e < 64 by omega)]
  rfl

/-- … and counts, HL_ERR apart. -/
theorem State.evHl_occurred (hm : m < 32) {e : Nat} (he : e < 4) (h1 : e ≠ 1) :
    OccurredBit (288 + 4 * m + e) (Reg.HL_LINK_EVENT m) e s (s.evHl m e) := by
  refine ⟨s.evHl_bit hm he, fun hon => ?_⟩
  unfold State.evHl State.occurBit
  extract_lets was x y
  have hon' : x.on 3 = true := (State.on_eq_of_rdW (State.rdW_setBitsOf_other s _ (by simp only [Reg.HL_LINK_EVENT, Reg.PW_ON]; omega)) 3).trans hon
  have hx : x.rdW (Reg.EV_CNT (288 + 4 * m + e)) = s.rdW (Reg.EV_CNT (288 + 4 * m + e)) :=
    State.rdW_setBitsOf_other s _ (Ne.symm (evCnt_ne_linkEvent (by omega) m))
  have hy : Counted (Reg.EV_CNT (288 + 4 * m + e)) s y := by
    rw [Counted, ← hx]
    exact State.rdW_cnt x _
  clear_value y x
  rw [if_pos hon']
  split
  · exact hy
  · rw [Counted, State.evCnt_raiseActs _ _ (by omega) _ _ (by omega) (by omega), State.rdW_rose]
    exact hy

end

/-! ## A link's requests stop and go (R223, R224, R310, R312) -/

section
variable (s : State) (m : Nat)

theorem State.mem_liveChans {s : State} {c : Nat} (h : c ∈ s.liveChans) : c < 4096 := by
  obtain ⟨e, -, he⟩ := List.mem_filterMap.1 h
  split at he
  next hc =>
    obtain ⟨h1, h2, h3⟩ := hc
    have := Option.some.inj he
    simp only [Reg.DMA_STAT] at *
    omega
  next => exact nomatch he

theorem State.mem_linkChans {s : State} {m c : Nat} (h : c ∈ s.linkChans m) : c < 4096 := State.mem_liveChans (List.mem_filter.1 h).1

theorem dmaStat_ne_linkEvent (c : Nat) {m : Nat} (_hm : m < 32) : Reg.HL_LINK_EVENT m ≠ Reg.DMA_STAT c := by
  simp only [Reg.HL_LINK_EVENT, Reg.DMA_STAT]
  omega

/-- What stopping or resuming a channel keeps of the links. -/
structure LinkKept (m : Nat) (s t : State) : Prop where
  steady : LinksSteady s t
  bits : m < 32 → LinkBitsStay m s t

theorem LinkKept.refl (s : State) : LinkKept m s s := ⟨.refl s, fun _ => .refl m s⟩

variable {m}

theorem LinkKept.trans {s t u : State} (h : LinkKept m s t) (h' : LinkKept m t u) : LinkKept m s u :=
  ⟨h.steady.trans h'.steady, fun hm => (h.bits hm).trans (h'.bits hm)⟩

theorem LinkKept.ite {c : Prop} [Decidable c] {s t u : State} (h : LinkKept m s t) (h' : LinkKept m s u) : LinkKept m s (if c then t else u) := by
  split <;> assumption

theorem LinkKept.foldl {α : Type} (f : State → α → State) : ∀ (l : List α) (s : State), (∀ a ∈ l, ∀ s, LinkKept m s (f s a)) →
    LinkKept m s (l.foldl f s)
  | [], s, _ => .refl m s
  | a :: l, s, h => (h a (.head _) s).trans (LinkKept.foldl f l _ fun b hb => h b (.tail _ hb))

theorem LinkKept.setStat (c : Nat) (f : Fld) (v : Nat) : LinkKept m s (s.setFld (Reg.DMA_STAT c) f v) :=
  ⟨.setFld s _ _ _, fun hm => .setFld s _ _ (dmaStat_ne_linkEvent c hm)⟩

theorem LinkKept.evDma {c : Nat} (hc : c < 4096) : LinkKept m s (s.evDma c) := ⟨.evDma s c, fun _ => .occurBit s (by omega) _ _ _⟩

theorem LinkKept.haltCh {c : Nat} (hc : c < 4096) : LinkKept m s (s.haltCh c) := by
  unfold State.haltCh
  exact .ite (.refl m s) (((LinkKept.setStat s c _ _).trans (.setStat _ c _ _)).trans (.evDma _ hc))

theorem LinkKept.resumeCh (c : Nat) : LinkKept m s (s.resumeCh c) := .ite (.setStat s c _ _) (.refl m s)
theorem LinkKept.recPend (c : Nat) : LinkKept m s (s.recPend c) := .ite (.refl m s) (.setStat s c _ _)

theorem LinkKept.updLink (n : Nat) {f : LinkRt → LinkRt} (h : LinkSteady (s.link n) (f (s.link n))) : LinkKept m s (s.updLink n f) :=
  ⟨.updLink s n h, fun _ => .of_regs (State.updLink_regs ..)⟩

theorem LinkKept.dropPosted (n : Nat) : LinkKept m s (s.dropPosted n) := by
  unfold State.dropPosted
  extract_lets ws
  refine .ite (.refl m s) ((LinkKept.updLink s n ⟨rfl, rfl, rfl, rfl, rfl⟩).trans (.foldl _ ws _ fun w _ s => ?_))
  exact ⟨.of_links rfl, fun hm => .cnt s (by
    have hp := w.port.isLt
    simp only [Reg.HL_LINK_EVENT, Reg.AL_BR_LREJ]
    omega)⟩

theorem LinkKept.sendPending (n : Nat) : LinkKept m s (s.sendPending n) := .updLink s n ⟨rfl, rfl, rfl, rfl, rfl⟩

/-- Requests that go are stopped, and those that do not stay so. -/
theorem State.stopLink_kept (n : Nat) : LinkKept m (s.updLink n fun l => { l with going := false }) (s.stopLink n) ∨
    (s.link n).going = false ∧ s.stopLink n = s := by
  unfold State.stopLink
  split
  · refine .inl (LinkKept.trans ?_ (.dropPosted _ n))
    exact (LinkKept.foldl _ _ _ fun c hc s => .haltCh s (State.mem_linkChans hc)).trans (.foldl _ _ _ fun c _ s => .recPend s c)
  next h => exact .inr ⟨by simpa using h, rfl⟩

theorem State.stopLink_told (n : Nat) : ((s.stopLink n).link n).going = false ∧ ((s.stopLink n).link n).cfgW 0x004 = (s.link n).cfgW 0x004 ∧
    ((s.stopLink n).link n).cfgW 0x044 = (s.link n).cfgW 0x044 ∧ (m < 32 → LinkBitsStay m s (s.stopLink n)) := by
  rcases s.stopLink_kept (m := m) n with h | ⟨hg, hs⟩
  · obtain ⟨-, -, hgo, hc, hp⟩ := h.steady n
    rw [State.link_updLink_same] at hgo hc hp
    exact ⟨hgo, hc, hp, fun hm => LinkBitsStay.trans (.of_regs (State.updLink_regs ..)) (h.bits hm)⟩
  · rw [hs]
    exact ⟨hg, rfl, rfl, fun _ => .refl m s⟩

theorem State.goLink_told (n : Nat) : ((s.goLink n).link n).cfgW 0x004 = (s.link n).cfgW 0x004 ∧
    ((s.goLink n).link n).cfgW 0x044 = (s.link n).cfgW 0x044 ∧
    ((s.link n).bme = true → (s.link n).d3 = false → ((s.goLink n).link n).going = true) ∧ (m < 32 → LinkBitsStay m s (s.goLink n)) := by
  unfold State.goLink
  split
  next h =>
    obtain ⟨-, hc, hp, hb⟩ := s.stopLink_told (m := m) n
    generalize s.stopLink n = u at *
    dsimp only
    have hk : LinkKept m (u.updLink n fun l => { l with going := true })
        (State.sendPending (List.foldl (fun s c => s.setFld (Reg.DMA_STAT c) F.DMA_STAT_IRQ_PEND 0)
          ((u.linkChans n).foldl (fun s c => s.resumeCh c) (u.updLink n fun l => { l with going := true }))
          (State.owing ((u.linkChans n).foldl (fun s c => s.resumeCh c) (u.updLink n fun l => { l with going := true })) n)) n) :=
      ((LinkKept.foldl _ _ _ fun c _ s => .resumeCh s c).trans (.foldl _ _ _ fun c _ s => .setStat s c _ _)).trans (.sendPending _ n)
    obtain ⟨-, -, hgo, hc', hp'⟩ := hk.steady n
    rw [State.link_updLink_same] at hgo hc' hp'
    exact ⟨hc'.trans hc, hp'.trans hp, fun _ _ => hgo, fun hm => (hb hm).trans (LinkBitsStay.trans (.of_regs (State.updLink_regs ..)) (hk.bits hm))⟩
  next h => exact ⟨rfl, rfl, fun h1 h2 => absurd (by rw [h1, h2]; rfl) h, fun _ => .refl m s⟩

end

end Sys2Proof.Machine
end

section
/-! SUPPORT. Configuration requests, enables, D-states and data objects (O37). -/

namespace Sys2Proof.Machine

set_option Elab.async false

/-! ## Enables and D-states of a link (R310 to R312) -/

section
variable (s : State) (m : Nat)

/-- What a write of Memory Space Enable leaves: the bit, and Bus Master Enable as it was. -/
theorem State.setMse_told (on : Bool) : ((s.setMse m on).link m).mse = on ∧ ((s.setMse m on).link m).bme = (s.link m).bme := by
  unfold State.setMse
  split
  next h => exact ⟨h, rfl⟩
  next h =>
    obtain ⟨-, -, -, hc, -⟩ := LinksSteady.occurBit (s.updLink m fun l => l.setCfg 0x004 (putBit (l.cfgW 0x004) 1 on)) (288 + 4 * m + 3)
      (Reg.HL_LINK_EVENT m) 3 none m
    rw [State.link_updLink_same, LinkRt.cfgW_setCfg_same] at hc
    refine ⟨?_, ?_⟩
    · rw [LinkRt.mse, State.evHl, hc, testBit_putBit, if_pos rfl]
    · rw [LinkRt.bme, State.evHl, hc, testBit_putBit, if_neg (by decide)]
      rfl

/-- What a write of Bus Master Enable leaves: the bit, and Memory Space Enable as it was. -/
theorem State.setBme_told (on : Bool) : ((s.setBme m on).link m).bme = on ∧ ((s.setBme m on).link m).mse = (s.link m).mse := by
  unfold State.setBme
  split
  next h => exact ⟨h, rfl⟩
  next h =>
    extract_lets u
    obtain ⟨-, -, -, hc, -⟩ := LinksSteady.occurBit (s.updLink m fun l => l.setCfg 0x004 (putBit (l.cfgW 0x004) 2 on)) (288 + 4 * m + 3)
      (Reg.HL_LINK_EVENT m) 3 none m
    rw [State.link_updLink_same, LinkRt.cfgW_setCfg_same] at hc
    have hu : (u.link m).cfgW 0x004 = putBit ((s.link m).cfgW 0x004) 2 on := hc
    have ht : ((if on then u.goLink m else u).link m).cfgW 0x004 = putBit ((s.link m).cfgW 0x004) 2 on := by
      split
      · exact (State.goLink_told (m := m) u m).1.trans hu
      · exact hu
    refine ⟨?_, ?_⟩
    · rw [LinkRt.bme, ht, testBit_putBit, if_pos rfl]
    · rw [LinkRt.mse, ht, testBit_putBit, if_neg (by decide)]
      rfl

end

theorem execMemorySpaceEnableChange_completes {s : State} {m : HLink} {on : Bool} (hr : s.reachable m = true) :
    Completes (.memorySpaceEnableChange m on) s fun t => (t.link m).mse = on ∧ (t.link m).bme = (s.link m).bme ∧
      ((s.link m).mse ≠ on → OccurredBit (288 + 4 * m.val + 3) (Reg.HL_LINK_EVENT m) 3 s t) := by
  obtain ⟨hmse, hbme⟩ := s.setMse_told m on
  refine .intro (show execMemorySpaceEnableChange m on s = _ from if_pos hr) ⟨hmse, hbme, fun h => ?_⟩
  have hset : s.setMse m on = (s.updLink m fun l => l.setCfg 0x004 (putBit (l.cfgW 0x004) 1 on)).evHl m 3 := if_neg h
  rw [hset]
  exact (State.evHl_occurred _ m.isLt (by decide) (by decide)).before (State.updLink_rdW ..) (State.updLink_rdW ..)

/-- A power state as D3hot or not. -/
theorem LinkRt.d3_of_cfgW {l : LinkRt} {v : Nat} {d3 : Bool} (h : l.cfgW 0x044 = v / 4 * 4 + (if d3 then 3 else 0)) : l.d3 = d3 := by
  unfold LinkRt.d3 bitsOf
  rw [h]
  cases d3
  · simp
  · simp

/-- The power state written, before requests stop or go. -/
def State.powerState (s : State) (m : Nat) (d3 : Bool) : State :=
  (s.updLink m fun l => l.setCfg 0x044 (l.cfgW 0x044 / 4 * 4 + (if d3 then 3 else 0))).evHl m 3

theorem State.powerState_told (s : State) (m : Nat) (d3 : Bool) :
    ((s.powerState m d3).link m).d3 = d3 ∧ ((s.powerState m d3).link m).bme = (s.link m).bme ∧
    (m < 32 → ((s.powerState m d3).rdW (Reg.HL_LINK_EVENT m)).toNat.testBit 3 = true) := by
  obtain ⟨-, -, -, hc, hp⟩ := LinksSteady.occurBit
    (s.updLink m fun l => l.setCfg 0x044 (l.cfgW 0x044 / 4 * 4 + (if d3 then 3 else 0))) (288 + 4 * m + 3) (Reg.HL_LINK_EVENT m) 3 none m
  rw [State.link_updLink_same] at hc hp
  rw [LinkRt.cfgW_setCfg_other _ _ (by decide)] at hc
  rw [LinkRt.cfgW_setCfg_same] at hp
  refine ⟨LinkRt.d3_of_cfgW hp, ?_, fun hm => State.evHl_bit _ hm (by decide)⟩
  unfold LinkRt.bme State.powerState State.evHl
  rw [hc]

theorem execDStateChange_completes {s : State} {m : HLink} {d3 : Bool} (hr : s.reachable m = true) (hd : (s.link m).d3 ≠ d3) :
    Completes (.dStateChange m d3) s fun t => (t.link m).d3 = d3 ∧ t.chans = s.chans ∧
      (t.rdW (Reg.HL_LINK_EVENT m)).toNat.testBit 3 = true ∧ (d3 = true → (t.link m).going = false) ∧
      (d3 = false → (s.link m).bme = true → (t.link m).going = true) := by
  have hexec : exec (.dStateChange m d3) s =
      .next (if d3 then (s.powerState m d3).stopLink m else (s.powerState m d3).goLink m) := by
    show execDStateChange m d3 s = _
    unfold execDStateChange State.setD
    rw [if_pos hr, if_neg hd]
    rfl
  have hchans : (s.powerState m d3).chans = s.chans := (State.evHl_in ..).same .chans rfl
  obtain ⟨hd3, hbme, hbit⟩ := s.powerState_told m d3
  generalize s.powerState m d3 = u at *
  cases d3 with
  | true =>
    obtain ⟨hgo, -, hp, hstay⟩ := State.stopLink_told (m := m.val) u m
    refine .intro hexec ⟨?_, ?_, hstay m.isLt 3 (hbit m.isLt), fun _ => hgo, fun h => nomatch h⟩
    · show ((u.stopLink m).link m).d3 = _
      unfold LinkRt.d3 at *
      rw [hp, hd3]
    · exact ((State.stopLink_in u m).same .chans rfl).trans hchans
  | false =>
    obtain ⟨-, hp, hgo, hstay⟩ := State.goLink_told (m := m.val) u m
    refine .intro hexec ⟨?_, ?_, hstay m.isLt 3 (hbit m.isLt), (fun h => nomatch h), fun _ hb => hgo (hbme.trans hb) hd3⟩
    · show ((u.goLink m).link m).d3 = _
      unfold LinkRt.d3 at *
      rw [hp, hd3]
    · exact ((State.goLink_in u m).same .chans rfl).trans hchans

/-! ## Configuration requests (R294, R295, R302, R308) -/

section
variable {s : State} {m : HLink} {off : Nat} {v : BitVec 32} {be : Fin 16}

theorem execConfigRequest_retry {write : Bool} (hr : s.reachable m = true) (h : s.mode ≤ 3 ∨ (s.link m).flr.isSome = true) :
    Completes (.configRequest m off write v be) s fun t => t.out = .cpl m 2 [] :: s.out ∧ t.links = s.links ∧ t.regs = s.regs :=
  .intro (show execConfigRequest m off write v be s = _ from (if_pos hr).trans (if_pos h)) ⟨rfl, rfl, rfl⟩

theorem execConfigRequest_read (hr : s.reachable m = true) (hm : 4 ≤ s.mode) (hf : (s.link m).flr = none) (ho : off < 4096) :
    Completes (.configRequest m off false v be) s fun t => t.out = .cpl m 0 (leBytes 4 (s.cfgRead m (off / 4 * 4))) :: s.out ∧
      t.links = s.links ∧ t.regs = s.regs := by
  have hexec : exec (.configRequest m off false v be) s = .next (s.emit (.cpl m 0 (leBytes 4 (s.cfgRead m (off / 4 * 4))))) := by
    show execConfigRequest m off false v be s = _
    unfold execConfigRequest
    rw [if_pos hr, if_neg (by rw [hf]; simp; omega)]
    dsimp only
    rw [if_neg Bool.false_ne_true, if_pos (by omega)]
  exact .intro hexec ⟨rfl, rfl, rfl⟩

theorem execConfigRequest_write (hr : s.reachable m = true) (hm : 4 ≤ s.mode) (hf : (s.link m).flr = none) (ho : off < 4096)
    (h4 : off % 4 = 0) : exec (.configRequest m off true v be) s = .next ((s.cfgWrite m off v.toNat (beMask be)).emit (.cpl m 0 [])) := by
  show execConfigRequest m off true v be s = _
  unfold execConfigRequest
  rw [if_pos hr, if_neg (by rw [hf]; simp; omega)]
  dsimp only
  rw [if_pos rfl, show off / 4 * 4 = off by omega, if_pos ho]

/-- A write under a mask: the bits of the mask from the new value, the others as they were. -/
theorem testBit_masked (old rw v i : Nat) : ((((old ||| rw) ^^^ rw) ||| (v &&& rw)).testBit i) = if rw.testBit i then v.testBit i else old.testBit i := by
  rw [Nat.testBit_or, Nat.testBit_xor, Nat.testBit_or, Nat.testBit_and]
  cases rw.testBit i
  · simp
  · simp

theorem execConfigRequest_plain (hr : s.reachable m = true) (hm : 4 ≤ s.mode) (hf : (s.link m).flr = none) (ho : off < 4096)
    (h4 : off % 4 = 0) (hw : cfgW1c off = 0) (hoff : off ∉ [0x004, 0x044, 0x048, 0x068, 0x374, 0x388, 0x38C, 0x394]) :
    Completes (.configRequest m off true v be) s fun t => t.out = .cpl m 0 [] :: s.out ∧ t.regs = s.regs ∧
      (∀ i : Fin 32, ((t.link m).cfgW off).testBit i =
        (if (cfgRw off &&& beMask be).testBit i then v.toNat.testBit i else ((s.link m).cfgW off).testBit i)) ∧
      (∀ k ∈ (List.range 1024).map (4 * ·), k ≠ off → (t.link m).cfgW k = (s.link m).cfgW k) := by
  simp only [List.mem_cons, List.not_mem_nil, or_false, not_or] at hoff
  obtain ⟨n1, n2, n3, n4, n5, n6, n7, n8⟩ := hoff
  by_cases hbuf : off = 0x390
  · subst hbuf
    have hcfg : s.cfgWrite m 0x390 v.toNat (beMask be) = s.updLink m fun l => { l with doeBuf := l.doeBuf ++ leBytes 4 (v.toNat &&& beMask be) } :=
      rfl
    have hl : ∀ k, ((s.updLink m fun l => { l with doeBuf := l.doeBuf ++ leBytes 4 (v.toNat &&& beMask be) }).link m).cfgW k =
        (s.link m).cfgW k := fun k => by
      rw [State.link_updLink_same]
      rfl
    have hexec := execConfigRequest_write (v := v) (be := be) hr hm hf ho h4
    rw [hcfg] at hexec
    refine .intro hexec ⟨rfl, rfl, fun i => ?_, fun k _ _ => hl k⟩
    have hrw : cfgRw 0x390 = 0 := by decide
    rw [hrw, Nat.zero_and, Nat.zero_testBit, if_neg Bool.false_ne_true]
    exact congrArg (fun x => Nat.testBit x i) (hl 0x390)
  · obtain ⟨new, hnew⟩ : ∃ new, new = (((s.link m).cfgW off ||| (cfgRw off &&& beMask be)) ^^^ (cfgRw off &&& beMask be)) |||
      (v.toNat &&& (cfgRw off &&& beMask be)) := ⟨_, rfl⟩
    have hcfg : s.cfgWrite m off v.toNat (beMask be) = s.updLink m fun l => l.setCfg off new := by
      unfold State.cfgWrite
      dsimp only
      rw [if_neg n1, if_neg n2, if_neg n3, if_neg n4, if_neg n5, if_neg n6, if_neg hbuf, if_neg n7, if_neg n8, hw, Nat.zero_and, Nat.zero_and,
        Nat.or_zero, Nat.xor_zero, ← hnew]
    have hexec := execConfigRequest_write (v := v) (be := be) hr hm hf ho h4
    rw [hcfg] at hexec
    have hl : ((s.updLink m fun l => l.setCfg off new).emit (.cpl m 0 [])).link m = (s.link m).setCfg off new := by
      show (s.updLink m fun l => l.setCfg off new).link m = _
      rw [State.link_updLink_same]
    refine .intro hexec ⟨rfl, rfl, fun i => ?_, fun k _ hk => ?_⟩
    · rw [hl, LinkRt.cfgW_setCfg_same, hnew, testBit_masked]
    · rw [hl, LinkRt.cfgW_setCfg_other _ _ hk]

theorem beMask_low : ∀ be : Fin 16, be.val.testBit 0 = true →
    (cfgRw 0x004 &&& beMask be).testBit 1 = true ∧ (cfgRw 0x004 &&& beMask be).testBit 2 = true := by decide

/-- The bits that a write of 1 clears lie above the enables. -/
theorem testBit_w1c (x mask v : Nat) {i : Nat} (hi : i < 24) :
    ((x ||| (cfgW1c 0x004 &&& mask &&& v)) ^^^ (cfgW1c 0x004 &&& mask &&& v)).testBit i = x.testBit i := by
  have hz : (cfgW1c 0x004).testBit i = false := by
    have hall : ∀ j < 24, (cfgW1c 0x004).testBit j = false := by decide
    exact hall i hi
  rw [Nat.testBit_xor, Nat.testBit_or, Nat.testBit_and, Nat.testBit_and, hz]
  simp

theorem execConfigRequest_command (hr : s.reachable m = true) (hm : 4 ≤ s.mode) (hf : (s.link m).flr = none) (hb : be.val.testBit 0 = true) :
    Completes (.configRequest m 0x004 true v be) s fun t => (t.link m).mse = v.toNat.testBit 1 ∧
      (t.link m).bme = v.toNat.testBit 2 := by
  obtain ⟨h1, h2⟩ := beMask_low be hb
  obtain ⟨new, hnew⟩ : ∃ new, new = ((((s.link m).cfgW 0x004 ||| (cfgRw 0x004 &&& beMask be)) ^^^ (cfgRw 0x004 &&& beMask be)) |||
      (v.toNat &&& (cfgRw 0x004 &&& beMask be)) ||| (cfgW1c 0x004 &&& beMask be &&& v.toNat)) ^^^ (cfgW1c 0x004 &&& beMask be &&& v.toNat) :=
    ⟨_, rfl⟩
  obtain ⟨u, hu⟩ : ∃ u, u = s.updLink m fun l => l.setCfg 0x004 (new &&& (0xFFFFFFFF ^^^ 6) ||| ((s.link m).cfgW 0x004 &&& 6)) := ⟨_, rfl⟩
  have hcfg : s.cfgWrite m 0x004 v.toNat (beMask be) = ((u.setMse m (new.testBit 1)).setBme m (new.testBit 2)).sendPending m := by
    rw [hu, hnew]
    rfl
  have hexec := execConfigRequest_write (off := 0x004) (v := v) (be := be) hr hm hf (by decide) (by decide)
  rw [hcfg] at hexec
  have hb1 : new.testBit 1 = v.toNat.testBit 1 := by rw [hnew, testBit_w1c _ _ _ (by decide), testBit_masked, if_pos h1]
  have hb2 : new.testBit 2 = v.toNat.testBit 2 := by rw [hnew, testBit_w1c _ _ _ (by decide), testBit_masked, if_pos h2]
  rw [hb1, hb2] at hexec
  obtain ⟨hmse, -⟩ := u.setMse_told m (v.toNat.testBit 1)
  obtain ⟨hbme, hkeep⟩ := State.setBme_told (u.setMse m (v.toNat.testBit 1)) m (v.toNat.testBit 2)
  generalize (u.setMse m (v.toNat.testBit 1)).setBme m (v.toNat.testBit 2) = w at *
  have hc : (((w.sendPending m).emit (.cpl m 0 [])).link m).cfgW 0x004 = (w.link m).cfgW 0x004 :=
    ((LinkKept.sendPending (m := m) w m).steady m).command
  refine .intro hexec ⟨?_, ?_⟩
  · rw [LinkRt.mse, hc]
    exact hkeep.trans hmse
  · rw [LinkRt.bme, hc]
    exact hbme

/-! ## Data objects (R302) -/

variable {obj : List Byte}

theorem execDoeObject_put (hr : s.reachable m = true) (hf : (s.link m).flr = none) : exec (.doeObject m obj) s = .next (s.doePut m obj) :=
  if_pos (by rw [hr, hf]; rfl)

theorem execDoeObject_error (hr : s.reachable m = true) (hf : (s.link m).flr = none) (hm : 4 ≤ s.mode)
    (hbad : 65536 < obj.length ∨ leAt obj 0 2 ≠ 1 ∨ 2 < leAt obj 2 1) :
    Completes (.doeObject m obj) s fun t => ((t.link m).cfgW 0x38C).testBit 2 = true ∧ (t.link m).doeIn = (s.link m).doeIn ∧
      (t.link m).spdm = (s.link m).spdm ∧ ∀ n, n ≠ m.val → t.link n = s.link n := by
  have hput : s.doePut m obj = s.updLink m fun l => l.setCfg 0x38C (l.cfgW 0x38C ||| 4) := (if_neg (by omega)).trans (if_pos hbad)
  have hl : (s.updLink m fun l => l.setCfg 0x38C (l.cfgW 0x38C ||| 4)).link m = (s.link m).setCfg 0x38C ((s.link m).cfgW 0x38C ||| 4) :=
    State.link_updLink_same ..
  refine .intro ((execDoeObject_put hr hf).trans (congrArg Host.Outcome.next hput)) ⟨?_, ?_, ?_, fun n hn => State.link_updLink_other _ _ hn⟩
  · rw [hl, LinkRt.cfgW_setCfg_same, Nat.testBit_or]
    exact Bool.or_true _
  · rw [hl]
    rfl
  · rw [hl]
    rfl

theorem execDoeObject_waits (hr : s.reachable m = true) (hf : (s.link m).flr = none) (hm : 4 ≤ s.mode) (hlen : obj.length ≤ 65536)
    (hv : leAt obj 0 2 = 1) (hty : leAt obj 2 1 = 1 ∨ leAt obj 2 1 = 2) :
    Completes (.doeObject m obj) s fun t => t.link m = { s.link m with doeIn := (s.link m).doeIn ++ [obj] } ∧
      ∀ n, n ≠ m.val → t.link n = s.link n := by
  have hput : s.doePut m obj = s.updLink m fun l => { l with doeIn := l.doeIn ++ [obj] } :=
    (if_neg (by omega)).trans ((if_neg (by omega)).trans (if_neg (by omega)))
  exact .intro ((execDoeObject_put hr hf).trans (congrArg Host.Outcome.next hput))
    ⟨State.link_updLink_same .., fun n hn => State.link_updLink_other _ _ hn⟩

theorem State.signal_spdm (s : State) (m n v : Nat) : ((s.signal m v).link n).spdm = (s.link n).spdm := by
  have hupd : ∀ f : LinkRt → LinkRt, (f (s.link m)).spdm = (s.link m).spdm → ((s.updLink m f).link n).spdm = (s.link n).spdm := fun f hf => by
    by_cases hn : n = m
    · rw [hn, State.link_updLink_same, hf]
    · rw [State.link_updLink_other _ _ hn]
  unfold State.signal
  extract_lets l
  split
  · rfl
  · split
    · split
      · rfl
      · exact hupd _ rfl
    · exact hupd _ rfl

theorem State.doeAnswer_out (s : State) (m : Nat) (obj : List Byte) :
    ((s.doeAnswer m obj).link m).spdm.out = (s.link m).spdm.out ++ [obj] := by
  unfold State.doeAnswer
  extract_lets u
  have hu : (u.link m).spdm.out = (s.link m).spdm.out ++ [obj] := congrArg (fun l : LinkRt => l.spdm.out) (State.link_updLink_same ..)
  split
  · rw [State.signal_spdm, State.link_updLink_same]
    exact hu
  · exact hu

/-- The discovery's entries, each with the index of the next. -/
theorem doeEntry_some : ∀ {i : Nat}, i < 3 → doeEntry i = some (1, i, (i + 1) % 3)
  | 0, _ => rfl
  | 1, _ => rfl
  | 2, _ => rfl
  | _ + 3, h => absurd h (by omega)

theorem execDoeObject_discovery (hr : s.reachable m = true) (hf : (s.link m).flr = none) (hm : 4 ≤ s.mode) (hlen : obj.length ≤ 65536)
    (hv : leAt obj 0 2 = 1) (hty : leAt obj 2 1 = 0) (hi : leAt obj 8 1 < 3) :
    Completes (.doeObject m obj) s fun t => (t.link m).spdm.out = (s.link m).spdm.out ++
      [leBytes 4 1 ++ leBytes 4 3 ++ leBytes 2 1 ++ leBytes 1 (leAt obj 8 1) ++ leBytes 1 ((leAt obj 8 1 + 1) % 3)] := by
  have hput : s.doePut m obj = s.doeAnswer m (leBytes 4 1 ++ leBytes 4 3 ++ leBytes 2 1 ++ leBytes 1 (leAt obj 8 1) ++
      leBytes 1 ((leAt obj 8 1 + 1) % 3)) := by
    unfold State.doePut
    rw [if_neg (by omega), if_neg (by omega), if_pos hty, doeEntry_some hi]
  exact .intro ((execDoeObject_put hr hf).trans (congrArg Host.Outcome.next hput)) (State.doeAnswer_out ..)

end

/-- Settles O37: what a configuration request reads, writes and completes with, the enables and the D-state with their
event, and the objects of the mailbox, each from its own command's rule. -/
theorem configurationRequestsComplete : Obligations.ConfigurationRequestsComplete := by
  unfold Obligations.ConfigurationRequestsComplete
  exact ⟨fun _ _ _ _ _ _ hr h => execConfigRequest_retry hr h,
    fun _ _ _ _ _ hr hm hf ho => execConfigRequest_read hr hm hf ho,
    fun _ _ _ _ _ hr hm hf ho h4 hw hoff => execConfigRequest_plain hr hm hf ho h4 hw hoff,
    fun _ _ _ _ hr hm hf hb => execConfigRequest_command hr hm hf hb,
    fun _ _ _ hr => execMemorySpaceEnableChange_completes hr,
    fun _ _ _ hr hd => execDStateChange_completes hr hd,
    fun _ _ _ hr hf hm hbad => execDoeObject_error hr hf hm hbad,
    fun _ _ _ hr hf hm hlen hv hty => execDoeObject_waits hr hf hm hlen hv hty,
    fun _ _ _ hr hf hm hlen hv hty hi => execDoeObject_discovery hr hf hm hlen hv hty hi⟩

end Sys2Proof.Machine
end
